-- ==== Sys2Proof/Word.lean ====
section
/-! DEFINITION. The word types of the model: a byte, a 32-bit register word, and the wider words that the spec adds, shifts or masks as bits (R5, R30). -/

namespace Sys2Proof

/-- One byte of a memory, a frame or a queue item. -/
abbrev Byte := BitVec 8

/-- A 32-bit register word (R30). -/
abbrev Word := BitVec 32

/-- A byte string, first byte first. -/
abbrev Bytes := List Byte

end Sys2Proof
end

