-- ==== Sys2Proof/Syntax.lean ====
section
/-! DEFINITION. The commands the block takes: one constructor per row of spec/opcode_table.json, with the row's operands; and the types of those operands. -/

namespace Sys2Proof

/-- R33: the six requesters that reach the register pages. -/
inductive Req where
  | trusted | app | lane | kettle | pcie | debug
  deriving DecidableEq, Repr

/-- R33: the requester's code. -/
def Req.code : Req → Nat
  | .trusted => 0 | .app => 1 | .lane => 2 | .kettle => 3 | .pcie => 4 | .debug => 5

/-- R30: the width of an access; a 64-bit access to a page is two 32-bit accesses. -/
inductive AccessSize where
  | b1 | b2 | b4 | b8
  deriving DecidableEq, Repr

/-- The bytes of an access (R30). -/
def AccessSize.bytes : AccessSize → Nat
  | .b1 => 1 | .b2 => 2 | .b4 => 4 | .b8 => 8

/-- R10: the clock domains, in the order that gives them their numbers (R61). -/
inductive Domain where
  | slow | aon | time | core | fabric | lane | mem | port | field
  deriving DecidableEq, Repr

/-- R61: the number of a clock domain. -/
def Domain.idx : Domain → Nat
  | .slow => 0 | .aon => 1 | .time => 2 | .core => 3 | .fabric => 4 | .lane => 5 | .mem => 6 | .port => 7 | .field => 8

/-- R61: the number of a queue, 8 × consumer page + end. -/
abbrev QueueId := BitVec 10

/-- R60: what the producer of a queue is doing on the edge of a flush: nothing, part-way through an item, or
writing the last word of an item. -/
inductive FlushEdge where
  | idle | partway | eoi
  deriving DecidableEq, Repr

/-- R53, R142, R154: an item that a requester writes into a software-written queue; `poison` the number of its words that fail their parity check in the queue memory (R55). -/
structure Submission where
  req : Req
  item : Bytes
  poison : Nat
  deriving DecidableEq, Repr


/-- R122, R123: a fence cause that comes from outside the other rows: a parity error at an aperture offset, or a
write of `LANE.CTRL.FENCE` = 1 by a requester. -/
inductive FenceTrigger where
  | parity (off : BitVec 17)
  | software (req : Req)
  deriving DecidableEq, Repr

/-- R122: how a lane's self-test ends. -/
inductive SelftestResult where
  | passed
  | katFailed
  | parity (off : BitVec 17)
  deriving DecidableEq, Repr

/-- R221: an alarm: one of the four TB0 alarms of the TIME page or of the two RTC alarms. -/
inductive AlarmId where
  | time (n : Fin 4)
  | rtc (n : Fin 2)
  deriving DecidableEq, Repr


/-- R178: a calendar generation. `active` holds the active copies, `checked` the calendars whose active copy has
passed R176, the offsets are in units of 15 minutes. -/
structure Machine.CalGen where
  id : Nat := 0
  active : Nat := 0
  checked : Nat := 0
  off : Int := 0
  dst : Nat := 0
  prevOff : Int := 0
  prevDst : Nat := 0
  dstAt : Nat := 0
  deriving DecidableEq, Repr

/-- R162: a close queued for the sweep: the interval, the marker's order number, the descriptors of the VALID nodes as the
marker found them (R155), the next node of the node pass, the nodes already closed because a NODE_DEL came before the pass reached them, the
next meter of the meter pass (once the node pass has ended), the meters already passed (R188), and the number of
nodes not BALANCED. -/
structure Machine.BalSweep where
  k : Nat
  order : Nat
  nodes : List (Nat × Bytes) := []
  node : Nat := 0
  earlyNodes : List Nat := []
  nodesDone : Bool := false
  meter : Nat := 0
  early : List Nat := []
  unbalanced : Nat := 0
  deriving DecidableEq, Repr

/-- R151–R172: what the balance engine holds beside its registers, the node table and the slots. `mark` is the
boundary of the last marker placed; `closedAny` that an interval has closed since enable; `high` bits 71:64 of the
accumulators, by the address of their slot field (R153); `waiting` the reports that
wait for credit outside a sweep; `startedAt` the TB1 instant at which the running sweep began. -/
structure Machine.BalState where
  mark : Option Nat := none
  closedAny : Bool := false
  sweeps : List Machine.BalSweep := []
  waiting : List Bytes := []
  high : List (Nat × Nat) := []
  startedAt : Nat := 0
  deriving DecidableEq, Repr

/-- R184: a demand sweep queued: the sub-interval, the marker's order number, the meters already passed (R188). -/
structure Machine.DemSweep where
  c : Nat
  order : Nat
  early : List Nat := []
  deriving DecidableEq, Repr

/-- R188: a close queued: the boundary, the marker's order number, SKIPPED_TIME (R189). -/
structure Machine.CloseJob where
  b : Nat
  order : Nat
  skipped : Bool := false
  deriving DecidableEq, Repr

/-- R180–R189: the part of the billing engine that a checkpoint holds (R191). `firstDem` is the first DEMAND since enable; `rates` the rate of each
sub-interval for the 64 calendars; `demMark`, `closeMark` and `ckptMark` the last markers placed, `skipTo` the last boundary of a forward step past
several (R189); `demSweeps` the demand sweeps queued; `closes` the closes applied, newest first, as far back as the records may need them; `sweeps`
the closes queued for the sweep. -/
structure Machine.BillCore where
  firstDem : Option Nat := none
  rates : List (Nat × List Nat) := []
  demMark : Option Nat := none
  closeMark : Option Nat := none
  ckptMark : Option Nat := none
  skipTo : Nat := 0
  demSweeps : List Machine.DemSweep := []
  closes : List Machine.CloseJob := []
  sweeps : List Machine.CloseJob := []
  deriving DecidableEq, Repr

/-- R191: a checkpoint: the order number, the records copied, the bytes of the tables, nodes, slots and calendar
copies, the calendar generations, the BILL and BAL engines, and the register fields of BILL, CAL and BAL. -/
structure Machine.Checkpoint where
  order : Nat
  records : List (Nat × Bytes) := []
  tables : List (Nat × Byte) := []
  gens : List Machine.CalGen := []
  bill : Machine.BillCore := {}
  regs : List (Nat × Nat) := []
  bal : Machine.BalState := {}
  swept : Bool := false
  durable : Bool := false
  deriving DecidableEq, Repr

/-- R173–R201: what the billing engine holds beside its registers and the records. `sweepAt` is the TB1 instant at which the running close sweep began;
`open_` the open checkpoint, `complete` the complete ones, newest first; `snaps` the snapshots written to the billing snapshot volume, newest first;
`token` the digits and the meter of a software token that waits for the dispatch queue (R195). -/
structure Machine.BillState extends Machine.BillCore where
  sweepAt : Nat := 0
  open_ : Option Machine.Checkpoint := none
  openSince : Nat := 0
  complete : List Machine.Checkpoint := []
  snaps : List Bytes := []
  token : Option (Bytes × Nat) := none
  deriving DecidableEq, Repr

/-- R242, R252, R271: a node of a PLC or radio port: its identifier (the extended address on a radio port), its slot (0x1FF for none), whether the join has
been ordered, the last SEQ accepted, when it was last heard (TB1, ns), the tone map set in force for its frames with its generation and the one before, the
set for frames to it, the generation that its last ACK asked for, and, by cycle segment, the decision error of each carrier as measured last (R243). A set is 6 maps
of 28 bytes, or empty for the default map. -/
structure Machine.PortNode where
  id : Nat := 0
  slot : Nat := 0x1FF
  joined : Bool := false
  seq : Option Nat := none
  heardAt : Nat := 0
  rx : Bytes := []
  rxGen : Nat := 0
  rxPrev : Bytes := []
  rxPrevGen : Nat := 0
  tx : Bytes := []
  txGen : Nat := 0
  want : Nat := 0
  errs : List (Nat × Bytes) := []
  deriving DecidableEq, Repr

/-- R244: a symbol as a power-line port receives it: the energy of each window of 16 samples over the running noise level, in dB, whether the ADC clips, and the
decision error of each carrier (R243). -/
structure PlcSymbol where
  windows : List (BitVec 8)
  clip : Bool
  errs : Bytes
  deriving DecidableEq, Repr

/-- R233, R244: what a power-line port receives of a frame beside its content: the gain step that suits the preamble, the symbols from the preamble on, and the errors and erasures
of each block of the outer code. -/
structure PlcRx where
  agc : BitVec 3
  symbols : List PlcSymbol
  blocks : List (BitVec 8 × BitVec 8)
  deriving DecidableEq, Repr

/-- R330, R332: a copy unit of SYNC_DATA: a record, bytes of the tables, nodes, slots and calendar copies, the calendar generations with the
balance and billing engines' state, the fields of the BILL, CAL and BAL pages, a port's node table, a key slot wrapped under the pair key (R407), or the end of the copy. -/
inductive SyncUnit where
  | record (m : BitVec 20) (bytes : Bytes)
  | mem (addr : BitVec 40) (bytes : Bytes)
  | engines (gens : List Machine.CalGen) (bal : Machine.BalState) (bill : Machine.BillState)
  | regs (l : List (Nat × Nat))
  | nodes (port : Fin 8) (l : List (Nat × Option Machine.PortNode))
  | key (slot : BitVec 6) (blob : Bytes) (dest usage gen : Nat)
  | done
  deriving DecidableEq, Repr

/-- R310, R312: the command item of a COMMAND record: a table command, a balance command, or a token with its meter. -/
inductive TwinCommand where
  | table (item : Bytes)
  | balance (item : Bytes)
  | token (meter : BitVec 20) (digits : Bytes) (software : Bool)
  deriving DecidableEq, Repr

/-- R322, R324, R327: the notices between twins: FENCED, DESYNCED, and the head end's decision DROP. -/
inductive TwinNotice where
  | fenced | desynced | drop
  deriving DecidableEq, Repr

/-- R310: the kinds of a MARKER record. -/
inductive MarkerKind where
  | bal | demand | close | ckpt
  deriving DecidableEq, Repr

/-- R334: what a die's parameter page says, and where the die is: its channel, chip enable and LUN. `modern` that the interface is
NV-DDR3 or NV-DDR2, `slc` that cells are SLC or pSLC; times in µs. -/
structure DieParam where
  chan : Fin 2
  ce : Fin 4
  lun : Fin 2
  pageKib : Nat
  spare : Nat
  ppbLog : Nat
  planes : Nat
  blocks : Nat
  modern : Bool
  slc : Bool
  crcOk : Bool
  tProg : Nat
  tBers : Nat
  tR : Nat
  tRst : Nat
  serial : Bytes
  feature : Option Word
  factoryBad : List Nat
  deriving DecidableEq, Repr

/-- R340: what the codewords of a page read report: the most bits corrected in one, or that one stays uncorrectable after the
retries, or that DATA_CRC or TAG_CRC fails, which is treated so; and the number of retries. -/
structure ReadReport where
  bits : Nat
  uncorrectable : Bool
  retries : Nat
  deriving DecidableEq, Repr


/-- R295: the lanes of a trained link. -/
inductive PcieWidth where
  | x1 | x2 | x4
  deriving DecidableEq, Repr

/-- R295: how many. -/
def PcieWidth.lanes : PcieWidth → Nat
  | .x1 => 1 | .x2 => 2 | .x4 => 4

/-- R295, R296, R299: what the host has made of the endpoint once the link has trained: the generation less 1, the lanes, Bus Master Enable, and whether MSI-X is
enabled. -/
structure PcieHost where
  gen : Fin 4
  width : PcieWidth
  bme : Bool
  msix : Bool
  deriving DecidableEq, Repr

/-- R1, R2: the roles. -/
inductive Machine.Role where
  | field | regional | headEnd
  deriving DecidableEq, Repr

/-- R381, R414, R448–R451, R494: what the factory and the owner have written to the OTP, as a start-up reads it: the digest of the vendor boot key, the vendor debug
key, the owner key, the owner debug key, the release key, the PCIe identifiers (vendor, subsystem vendor, subsystem) where they are there, the identity of the chip (LOT, WAFER, X, Y) and its date word. -/
structure BootFuses where
  vendorDigest : Bytes
  vendorDebug : Bytes
  ownerKey : Bytes
  ownerDebug : Bytes
  releaseKey : Bytes
  pcieIds : Option (BitVec 16 × BitVec 16 × BitVec 16)
  ident : BitVec 45
  date : BitVec 24
  deriving DecidableEq, Repr

/-- R464: an image that the factory wrote to a region of FW_A (`copy` false) or FW_B: the manifest and the image bytes. -/
structure BootImage where
  part : Fin 5
  copy : Bool
  bytes : Bytes
  deriving DecidableEq, Repr

/-- R1, R293, R383: what the SETTINGS volume says: the role, the masks of each page (page, WR, RD), whether the identity certificate is there, and the wake public
key. -/
structure BootSettings where
  role : Machine.Role
  masks : List (BitVec 8 × BitVec 6 × BitVec 6)
  cert : Bool
  wakeKey : Bytes
  deriving DecidableEq, Repr

/-- R378, R335, R354, R408, R480: what a start-up meets: the 32 messages that the PUF read decodes to (none: a block fails to decode), what the 8 KiB of the PUF SRAM hold at power-up, whether the TRNG's start-up test
passes, the dies that answer, whether the copies of a map checkpoint decode, the JEDEC ID of a NOR that meets R480, and what the OTP and the medium hold: the sizes of the
volumes and the MEDIUM_ID of a medium formatted before this chip first ran, the images, the settings. -/
structure BootInput where
  puf : Option Bytes
  sram : Bytes
  trng : Bool
  dies : List DieParam
  ckptOk : Bool
  nor : Option (BitVec 24)
  fuses : BootFuses
  medium : Option (List Nat × BitVec 128)
  images : List BootImage
  settings : BootSettings
  deriving DecidableEq, Repr

/-- The commands of spec/opcode_table.json, one constructor per row, in the table's order. -/
inductive Instr where
  /-- R29. A write to a register field that has no row of its own takes effect, subject to access size, privilege, domain and range checks. -/
  | registerWrite (req : Req) (addr : BitVec 40) (size : AccessSize) (data : BitVec 64)
  /-- R29. A read of an RC field by a requester other than DEBUG returns the value and then clears it. -/
  | rcRead (req : Req) (page : BitVec 8) (off : BitVec 12) (size : AccessSize)
  /-- R34. TRUSTED writes a page's privilege mask, limited by the ceilings, and may set LOCK to freeze it. -/
  | blkPrivWrite (req : Req) (page : BitVec 8) (data : Word)
  /-- R36. A write of 1 to CTRL.SOFT_RESET resets the block logic but not its page registers, and the bit clears when the reset is done. -/
  | softReset (req : Req) (page : BitVec 8)
  /-- R37. Writing 1 to an IRQ_STAT bit clears that latched source unless its event falls on the same edge. -/
  | irqClear (req : Req) (page : BitVec 8) (bits : Word) (sameEdge : Word)
  /-- R37. Writing 1 to an IRQ_SET bit sets that latched interrupt source for test. -/
  | irqSet (req : Req) (page : BitVec 8) (bits : Word)
  /-- R38. Writing 1 to ERR_CODE.VALID clears VALID, CODE, CNT and ERR_INFO. -/
  | errClear (req : Req) (page : BitVec 8)
  /-- R59. A write of HI_MARK or LO_MARK may change the live level flags and count a crossing. -/
  | watermarkWrite (req : Req) (page : BitVec 8) (qend : Fin 6) (hi : BitVec 16) (lo : BitVec 16)
  /-- R11. A stopped clock domain is started when work arrives, its generator locks and its logic leaves reset. -/
  | domainStart (dom : Domain)
  /-- R430. In TENDING a demand domain stops after its idle time without work. -/
  | domainIdleStop (dom : Domain)
  /-- R62. The queue monitor evaluates a queue's credit sum and reports QUEUE_CREDIT_FAULT after two consecutive failures. -/
  | qmonCreditCheck (queue : QueueId)
  /-- R56. The two copies of a Q-PRIV pointer disagree, so the queue is reset, its items discarded and its credits returned. -/
  | qprivPtrFault (queue : QueueId) (occA : Nat) (occB : Nat)
  /-- R60. A write of FLUSH discards the complete items of a queue and puts a producer part-way through an item into DISCARD. -/
  | queueFlush (req : Req) (page : BitVec 8) (qend : Fin 6) (producer : FlushEdge) (consumerReading : Bool)
  /-- R60. The producer's partial item reaches EOI, DISCARD ends, credits return, FLUSHED_PARTIAL is set and FLUSH clears. -/
  | flushDiscardEnd (page : BitVec 8) (qend : Fin 6)
  /-- R41. A read of SYS.TXN_BEGIN allocates the lowest free tag to the reader, selects it and starts the open-phase timer. -/
  | txnBegin (req : Req)
  /-- R41. A requester selects a tag for its T-field writes, refused with TXN_NOT_OWNER when it does not own the tag. -/
  | txnSelWrite (req : Req) (tag : BitVec 3)
  /-- R43. A T-field write with an open owned transaction selected goes to staging, subject to conflict, ownership and capacity checks. -/
  | txnStagedWrite (req : Req) (page : BitVec 8) (off : BitVec 12) (data : Word)
  /-- R43. A T-field write with no tag selected acts as a one-write transaction with trigger NOW. -/
  | txnOneWrite (req : Req) (page : BitVec 8) (off : BitVec 12) (data : Word)
  /-- R46. TXN_COMMIT with trigger NOW checks the staged values and commits at once. -/
  | txnCommitNow (req : Req) (tag : BitVec 3)
  /-- R46. TXN_COMMIT with trigger AT_TIME checks the staged values and arms the commit for a TB0 instant, firing at once with LATE if it has passed. -/
  | txnCommitAtTime (req : Req) (tag : BitVec 3)
  /-- R46. TXN_COMMIT with trigger AT_INTERVAL checks the staged values and arms the commit for the next TB0 interval boundary. -/
  | txnCommitAtInterval (req : Req) (tag : BitVec 3) (interval : BitVec 3)
  /-- R46. TXN_COMMIT with trigger AT_BEACON checks the staged values and arms the commit for the named port's next beacon instant. -/
  | txnCommitAtBeacon (req : Req) (tag : BitVec 3) (port : BitVec 4)
  /-- R46. TXN_COMMIT with trigger AT_CYCLE checks the staged values and arms the commit for the next TB4 zero crossing. -/
  | txnCommitAtCycle (req : Req) (tag : BitVec 3)
  /-- R42. TXN_ABORT rolls back an open or armed transaction of the owner and is ignored in COMMITTING. -/
  | txnAbort (req : Req) (tag : BitVec 3)
  /-- R42. The open-phase timer of an OPEN transaction expires and the transaction rolls back with CAUSE TIMEOUT. -/
  | txnTimeout (tag : BitVec 3)
  /-- R47. An armed trigger occurs, each page's readiness and state checks are repeated, and the commit either passes to every participating domain or rolls back. -/
  | txnTrigger (tag : BitVec 3)
  /-- R42. Every participating page has taken the new set, so the tag becomes COMMITTED and IRQ_RAW.TXN is set on each page. -/
  | txnSwitched (tag : BitVec 3)
  /-- R51. A write of an S-field lands in the shadow and sets WR_GEN. -/
  | sFieldWrite (req : Req) (page : BitVec 8) (off : BitVec 12) (data : Word)
  /-- R51. A write of 1 to SHADOW_ARM arms the next hand-over event to take the shadow set. -/
  | shadowArm (req : Req) (page : BitVec 8) (chan : Fin 16)
  /-- R64. The header parser reads a frame from a port receive queue, recognises its format and extracts meter identifier and invocation counter. -/
  | parseFrame (port : Fin 10) (parity : Nat)
  /-- R137. The table engine reads the directory bucket for a lookup request and yields the meter index or a miss. -/
  | dirLookup (parity : Nat)
  /-- R137. The tag filter is searched for a lookup whose bucket has overflow entries, and matching overflow entries are read. -/
  | overflowSearch
  /-- R68. Funnel takes an item from the dispatch queue, gives it the next order number, receive stamp, replay slot and digest. -/
  | funnelOrder (parity : Nat)
  /-- R69. A write of ORDER_BASE_HI.LOAD copies the order base into ORDER_NEXT, refused while ENABLE is 1. -/
  | orderBaseLoad (req : Req) (data : Word)
  /-- R74. Funnel loads a meter's record into its lane's record window PREFETCH_LEAD before the expected frame. -/
  | recordPrefetch (meter : BitVec 20)
  /-- R72. A Cleaver unit takes a frame from its decrypt queue, unwraps the meter key and starts AES-GCM, streaming plaintext to the lane. -/
  | cleaverDecrypt (unit : Fin 4) (parity : Nat)
  /-- R72. Cleaver finishes the tag check and sends PASS, FAIL, NO_KEY, REVOKED or POISON to Ladle. -/
  | tagVerdict (unit : Fin 4)
  /-- R112. Funnel runs a frame and its squashed dependants again from the replay buffer with their order numbers, slots and tag verdicts. -/
  | frameRerun (order : BitVec 48)
  /-- R99. A frame reaches the head of a lane's plaintext queue, its reorder slot is taken, the record is moved in and the program starts. -/
  | laneFrameStart (lane : Fin 32)
  /-- R97. A plaintext word reaches the lane's frame window and releases any load stalled on it. -/
  | plaintextWordArrive (lane : Fin 32) (poison : Bool)
  /-- R508. A lane executes a standard RV32IM instruction, trapping to PROGRAM_FAULT where R95 forbids it. -/
  | laneRv32Instruction (lane : Fin 32)
  /-- R103. SV.AXLEN decodes an A-XDR length at a frame-window address. -/
  | svAxlen (lane : Fin 32)
  /-- R103. SV.TARIFF asks CAL for the tariff rate of a UTC time in the frame's calendar generation. -/
  | svTariff (lane : Fin 32)
  /-- R103. SV.CDATE converts a 12-byte COSEM date-time in the frame window to UTC seconds since 2000. -/
  | svCdate (lane : Fin 32)
  /-- R103. SV.EEVT records a report-item effect with a code and data. -/
  | svEevt (lane : Fin 32)
  /-- R110. SV.VERD ends the frame with the verdict word in rs1. -/
  | svVerd (lane : Fin 32)
  /-- R103. SV.LDBE.H loads a big-endian 16-bit value at any alignment. -/
  | svLdbeH (lane : Fin 32)
  /-- R103. SV.LDBE.W loads a big-endian 32-bit value at any alignment. -/
  | svLdbeW (lane : Fin 32)
  /-- R103. SV.EWR records an effect writing a 32-bit word at a record offset. -/
  | svEwr (lane : Fin 32)
  /-- R103. SV.EADD records an effect adding a 64-bit value to a record field, saturating. -/
  | svEadd (lane : Fin 32)
  /-- R103. SV.EMAX records an effect keeping the greater word and its stamp. -/
  | svEmax (lane : Fin 32)
  /-- R103. SV.EBAL.IMP records an import energy post to the balance engine. -/
  | svEbalImp (lane : Fin 32)
  /-- R103. SV.EBAL.EXP records an export energy post to the balance engine. -/
  | svEbalExp (lane : Fin 32)
  /-- R103. SV.EBAL.VOLT records a voltage post to the balance engine. -/
  | svEbalVolt (lane : Fin 32)
  /-- R107. A lane stalled on a full effect buffer resumes when entries are freed. -/
  | effectStallResume (lane : Fin 32)
  /-- R111. A frame's counted cycles reach FRAME_CYCLE_LIMIT and the lane ends it as a hardware quarantine. -/
  | cycleLimit (lane : Fin 32)
  /-- R125. A lane in service runs its periodic known-answer test in its time slot between frames. -/
  | laneKat (lane : Fin 32) (passed : Bool)
  /-- R123. A lane holding a frame retires no instruction for WDOG.US and is fenced with cause WDOG. -/
  | laneWatchdog (lane : Fin 32)
  /-- R124. A fence cause withdraws a lane, frees its effects, reassigns its groups and reruns its uncommitted frames. -/
  | laneFence (lane : Fin 32) (trigger : FenceTrigger)
  /-- R122. A write of LANE.CTRL.FENCE = 0 moves a fenced lane to SELFTEST and clears its LOADED bits. -/
  | laneUnfence (req : Req) (lane : Fin 32)
  /-- R122. A lane's self-test ends and the lane enters MAINT or is fenced with cause KAT or PARITY. -/
  | laneSelftestDone (lane : Fin 32) (result : SelftestResult)
  /-- R122. A write of MAINT = 0 moves a lane in MAINT with its bank loaded into SERVICE, running held groups' reassignment if needed. -/
  | laneEnterService (req : Req) (lane : Fin 32)
  /-- R122. A write of MAINT = 1 moves a lane with no groups and no frame in flight from SERVICE to MAINT. -/
  | laneToMaint (req : Req) (lane : Fin 32)
  /-- R122. PWR powers a lane that is OFF and it enters SELFTEST. -/
  | lanePowerOn (lane : Fin 32)
  /-- R122. PWR gates a lane in MAINT or FENCED and it enters OFF. -/
  | lanePowerOff (lane : Fin 32)
  /-- R126. A write through a lane aperture reaches a bank not in use, or is dropped with BANK_ACTIVE or READ_ONLY. -/
  | apertureWrite (req : Req) (lane : Fin 32) (off : BitVec 17) (data : Bytes)
  /-- R127. A write of PROG_CTRL.SEAL starts the SHAKE256 digest over the named bank. -/
  | laneSeal (req : Req) (lane : Fin 32) (data : Word)
  /-- R127. The seal digest is written to DIGEST_A or DIGEST_B, LOADED is set and SEALED is latched. -/
  | laneSealDone (lane : Fin 32)
  /-- R115. A write of LANEMAP_CTRL.INIT fills the lane map with lane g mod 32, refused while Funnel is enabled. -/
  | lanemapInit (req : Req)
  /-- R116. A write of LANEMAP_DATA.LANE requests a move of the selected group to a target lane in SERVICE. -/
  | lanemapMoveRequest (req : Req) (target : Fin 32)
  /-- R116. A meter of a moving group moves at the first edge at which it has no frame in flight, and MOVE_DONE is set when all 16 have moved. -/
  | meterMove (meter : BitVec 20)
  /-- R76. Ladle records a lane verdict with its effect CRC in the frame's reorder slot, or ignores it as late. -/
  | ladleLaneVerdict
  /-- R76. Ladle reads a tag verdict from the tag verdict queue into the frame's reorder slot. -/
  | ladleTagVerdict (parity : Nat)
  /-- R77. Ladle combines the head's verdicts with the counter check, applies or discards the effects or ordered item, and advances the window. -/
  | ladleCommitHead (slotParityOk : Bool) (entriesIntact : Bool)
  /-- R82. The FTL takes a commit item from the commit queue and places it as an archive entry in the group of its commit edge. -/
  | ftlPlaceItem (parity : Nat)
  /-- R83. The group-commit period expires, the open group closes with its journal entries and its programs start. -/
  | groupClose
  /-- R84. A group's programs are verified and, when paired, confirmed by the partner, so Ladle raises DURABLE_SEQ and issues its acknowledgements. -/
  | groupDurable
  /-- R88. A closed group is not durable after DURABLE_LIMIT ms and DURABLE_LATE is latched. -/
  | durableLate
  /-- R93. The head of Ladle's window waits longer than STALL_LIMIT and STALLED is set. -/
  | ladleStall
  /-- R138. INSERT checks capacity, identity and index, writes the directory entry and is ordered for application. -/
  | dirInsert (sub : Option Submission)
  /-- R138. DELETE removes a directory entry and is ordered for application. -/
  | dirDelete (sub : Option Submission)
  /-- R133. REC_WRITE is ordered and writes 16 bytes of a record under a mask, refused for protected fields. -/
  | dirRecWrite (sub : Option Submission)
  /-- R140. ROUTE_SET creates a route entry, pinned and STATIC from software or unpinned from downstream. -/
  | dirRouteSet (sub : Option Submission)
  /-- R142. ROUTE_DEL removes a route entry as an ordered command. -/
  | dirRouteDel (sub : Option Submission)
  /-- R147. A downstream TOKEN_ADD adds a ledger entry as an ordered command, refused from software. -/
  | dirTokenAdd (sub : Option Submission)
  /-- R147. A downstream FLOOR_RAISE raises a meter's token floor as an ordered command, refused from software. -/
  | dirFloorRaise (sub : Option Submission)
  /-- R144. LOOKUP reads a directory, route or ledger entry at once and returns it in the completion. -/
  | dirLookupCmd (sub : Option Submission)
  /-- R148. LOCK freezes a table bucket once its pending writes complete. -/
  | dirLock (sub : Option Submission)
  /-- R148. UNLOCK releases a bucket, re-checks its parity and releases parked requests. -/
  | dirUnlock (sub : Option Submission)
  /-- R148. A lock held for LOCK_LIMIT is released by the table engine and LOCK_TIMEOUT is latched. -/
  | dirLockTimeout
  /-- R136. A write of SUSPECT_CLR clears SUSPECT of a ledger bucket. -/
  | dirSuspectClr (req : Req) (data : Word)
  /-- R154. NODE_SET creates or changes a balance node as an ordered command. -/
  | balNodeSet (sub : Option Submission)
  /-- R154. NODE_DEL removes an unused balance node as an ordered command. -/
  | balNodeDel (sub : Option Submission)
  /-- R155. METER_ASSIGN gives a meter a role in a node and resets its balance record area as an ordered command. -/
  | balMeterAssign (sub : Option Submission)
  /-- R155. AUDIT_RESET clears a meter's correlation sums and bypass state as an ordered command. -/
  | balAuditReset (sub : Option Submission)
  /-- R156. TB0 reaches a balance interval boundary and the active chip places a boundary marker in the dispatch queue. -/
  | balMarkerPlace
  /-- R162. The sweep evaluates every node for a closed interval and its pending revisions and issues reports. -/
  | balNodePass
  /-- R162. The sweep updates bypass scores and audit sums of every assigned meter and sets SWEPT. -/
  | balMeterPass
  /-- R170. A sweep waiting for report credit resumes when a credit returns. -/
  | balSweepResume
  /-- R180. TB0 reaches a demand sub-interval boundary and a DEMAND marker is placed. -/
  | demandMarkerPlace
  /-- R180. Billing local time reaches a billing boundary and a CLOSE marker is placed. -/
  | closeMarkerPlace
  /-- R180. TB0 reaches a checkpoint period boundary and a CKPT marker is placed unless a checkpoint is open. -/
  | ckptMarkerPlace
  /-- R184. The demand sweep evaluates every valid record's maximum-demand windows for a closed sub-interval. -/
  | demandSweep
  /-- R188. The close sweep rolls every valid record for a billing close and issues CLOSE_DONE. -/
  | closeSweep
  /-- R191. The checkpoint sweep copies records in ascending index over the spread time. -/
  | ckptSweep
  /-- R191. Every part of a checkpoint is durable, CKPT_DONE is issued and latched. -/
  | ckptComplete
  /-- R195. A write of BILL.TOK_GO submits a software token entry to be decrypted and ordered. -/
  | tokGo (req : Req) (data : Word)
  /-- R179. A write of CAL.CHECK.GO checks a passive calendar copy and writes CHECK_RESULT. -/
  | calCheck (req : Req) (data : Word)
  /-- R202. A write of CAL.RESOLVE.GO resolves a UTC time for a calendar in the current generation. -/
  | calResolve (req : Req) (data : Word)
  /-- R198. The panel dwell expires, the next scroll item is read from the committed record and shown. -/
  | panelItemChange
  /-- R199. The panel scans the keypad every 8 ms and accepts a key after 3 equal scans. -/
  | panelKeyScan (key : Option (Fin 16))
  /-- R200. A keypad entry is abandoned after 60 s without a key. -/
  | panelEntryTimeout
  /-- R200. The keypad token lockout time ends and token entry is accepted again. -/
  | panelLockEnd
  /-- R210. A read of TIME.NOW_SEC_LO latches the selected base into the reader's banked copies. -/
  | timeNowRead (req : Req)
  /-- R447. A read of AON.NOW_SEC_LO latches TB0 or TB1 at 10 ns into the reader's banked copies. -/
  | aonNowRead (req : Req)
  /-- R212. A write of TIME.STEP.GO adds the signed offset to TB0 on one edge. -/
  | tb0Step (req : Req)
  /-- R211. The servo writes TB0_STATE through CTRL.STATE_SET. -/
  | tb0StateSet (req : Req) (value : BitVec 2)
  /-- R211. No delivery from the selected source arrives for HOLDOVER.MS while LOCKED, and TB0 enters HOLDOVER. -/
  | tb0Holdover
  /-- R207. At the end of the announced day the UTC view inserts or deletes a second and UTC_OFFSET changes. -/
  | leapSecond
  /-- R216. A PTP event message is received and stamped at the medium boundary. -/
  | ptpEventRx (port : Fin 4) (msg : Bytes)
  /-- R207. An Announce with leap61 or leap59 from the selected master writes RTC.LEAP when LEAP_AUTO is 1. -/
  | ptpAnnounceLeap (leap61 : Bool) (leap59 : Bool)
  /-- R217. An event message forwarded between transparent-clock ports receives its correctionField updates. -/
  | ptpTcForward (inPort : Fin 3) (outPort : Fin 3) (frame : Bytes) (ago : BitVec 48)
  /-- R216. A stamped message sent by the chip places its transmit stamp in the PTP stamp queue or drops it. -/
  | ptpTxStamp (port : Fin 4) (msg : Bytes) (stamp : Bool)
  /-- R215. A PPS_IN rising edge is captured in full time or ignored when too close to the previous one. -/
  | ppsInEdge
  /-- R215. At each TB0 second a PPS_OUT pulse starts when enabled and allowed by HOLD. -/
  | ppsOutPulse
  /-- R219. Every 1 ms of TB1 the TB3 rate is set to drive TB3 towards TB0 within 50 ppm. -/
  | tb3Slew
  /-- R219. A write of TB3_CFG.LOAD copies TB0 into TB3, refused while a port runs a schedule. -/
  | tb3Load (req : Req)
  /-- R241. A filtered ZC_IN candidate edge is taken as a valid zero crossing, rejected, or makes TB4 real. -/
  | zcEdge (rising : Bool) (stableUs : BitVec 16)
  /-- R241. Four periods pass without a valid zero crossing and TB4 becomes synthetic. -/
  | zcSynth
  /-- R221. TB0 reaches or passes an armed TIME alarm, which fires, disarms or re-arms periodically. -/
  | timeAlarmFire (n : Fin 4)
  /-- R221. RTC or local time reaches an armed RTC alarm, which fires and may wake the chip. -/
  | rtcAlarmFire (n : Fin 2)
  /-- R221. A write to an alarm's control arms it, firing at once with LATE when the time has passed. -/
  | alarmWrite (req : Req) (alarm : AlarmId) (data : Word)
  /-- R225. A write of RTC.SET_CTRL.SET loads SET_SEC into RTC_SEC and sets TIME_VALID. -/
  | rtcSet (req : Req)
  /-- R225. A write of SET_CTRL.SYNC_TB0 loads the UTC view of TB0 at its next second, when TB0 is LOCKED. -/
  | rtcSyncTb0 (req : Req)
  /-- R224. Every 2^20 SLOW cycles the RTC adds or skips TRIM cycles. -/
  | rtcTrimTick
  /-- R227. The retention supply stays below 1.5 V for 20 µs and retained state is marked lost. -/
  | retLost
  /-- R227. VBAT falls below 2.5 V or 2.0 V and BAT_LOW or BAT_EXHAUSTED is latched. -/
  | batComparator (exhausted : Bool)
  /-- R228. The 32 kHz oscillator misses 4 cycles and OSC_STOPPED is set. -/
  | oscStop
  /-- R227. VBAT is measured once a second into RTC.BAT_MV while main power is present. -/
  | batMeasure (mv : BitVec 13)
  /-- R229. A write to RTC.CHG takes effect only with KEY 0xC4. -/
  | rtcChgWrite (req : Req) (data : Word)
  /-- R246. A PLC port receives a frame, checks FCH and MAC CRC, removes repeats and queues a METER frame. -/
  | plcFrameRx (port : Fin 4) (fch : Bytes) (mac : Bytes) (rx : PlcRx)
  /-- R247. The port starts the link-level ACK 0.70 ms after a DATA frame with ACK_REQ. -/
  | plcAckSend (port : Fin 4)
  /-- R248. A frame the chip sent gets no ACK in time, and it is retried or dropped after the last attempt. -/
  | plcAckTimeout (port : Fin 4)
  /-- R249. The medium becomes free and the listen window and priority slots run. -/
  | plcContention (port : Fin 4) (heard : Option (Fin 4))
  /-- R249. A contending node's backoff count reaches 0 and it transmits. -/
  | plcBackoffExpire (port : Fin 4)
  /-- R251. At each beacon instant the coordinator sends its beacon with the superframe layout. -/
  | plcBeaconTx (port : Fin 4)
  /-- R250. In priority-window mode the coordinator sends its beacon frame by contention once per beacon period. -/
  | plcAnnounceTx (port : Fin 4)
  /-- R252. A JOIN_REQ is answered with an address and slot, or FULL, UNKNOWN or CLOSED. -/
  | plcJoinReq (port : Fin 4) (fch : Bytes) (ident : BitVec 64) (bandL : Bool) (rx : PlcRx)
  /-- R252. A member not heard for AGE_H hours is removed from the node table. -/
  | plcNodeAge (port : Fin 4) (addr : BitVec 16)
  /-- R243. A node's measured SNR set changes and a new tone map generation is sent in TM_RESP. -/
  | plcTmUpdate (port : Fin 4) (addr : BitVec 16) (force : BitVec 6)
  /-- R243. A TM_REQ is answered with the tone map set in force. -/
  | plcTmReq (port : Fin 4) (fch : Bytes) (rx : PlcRx)
  /-- R253. A TRACK port hears a beacon and moves to or stays in SYNCED. -/
  | plcBeaconRx (port : Fin 4) (fch : Bytes) (body : Bytes) (rx : PlcRx)
  /-- R253. A TRACK port misses a predicted beacon and moves towards LOST and BEACON_LOSS. -/
  | plcBeaconMiss (port : Fin 4)
  /-- R253. A LEAVE addressed to a node returns it to SCAN. -/
  | plcLeave (port : Fin 4) (fch : Bytes) (reason : BitVec 8) (rx : PlcRx)
  /-- R256. The port takes an acknowledgement item, has it encrypted and sends it as MTYPE DOWN. -/
  | plcAppAckSend (port : Fin 4) (parity : Nat)
  /-- R257. The port takes a downlink item, sends it and writes a completion. -/
  | plcDownlinkItem (port : Fin 4) (sub : Option Submission)
  /-- R258. Every PERIOD_S or on a temperature step the port measures its converter path in a silent interval. -/
  | plcCalibrate (port : Fin 4) (temp : BitVec 8) (corr : BitVec 48)
  /-- R260. Setting PLCn.CTRL.FENCE stops the port, completes downlink items with FENCED and discards acknowledgements. -/
  | plcFence (req : Req) (port : Fin 4)
  /-- R260. Clearing FENCE resumes the port's schedule at the next beacon instant. -/
  | plcUnfence (req : Req) (port : Fin 4)
  /-- R269. A TSCH timeslot begins, the cell is chosen, the transceiver tuned and the slot run. -/
  | radTimeslotStart (port : Fin 4) (ccaBusy : Bool)
  /-- R270. A radio port receives a frame, checks FCS and MIC, removes repeats and queues a METER frame. -/
  | radFrameRx (port : Fin 4) (psdu : Bytes) (corr : BitVec 12) (fec : Bool) (modeSwitch : Bool)
  /-- R269. At TsTxAckDelay the receiver sends an Enh-ACK with a time correction, if the budget allows. -/
  | radEnhAckSend (port : Fin 4)
  /-- R272. A unicast frame gets no ACK and is retried in a later cell or dropped. -/
  | radAckTimeout (port : Fin 4)
  /-- R271. An Association Request is decided and answered in a shared cell. -/
  | radAssocReq (port : Fin 4) (ident : BitVec 64)
  /-- R274. A MEMBER or TRACK port hears an EB and takes or corrects ASN and SYNC_OFS. -/
  | radEbRx (port : Fin 4) (panid : BitVec 16) (src : BitVec 64) (asn : BitVec 40) (since : Word)
  /-- R274. An EB period passes unheard and the port moves towards LOST. -/
  | radEbMiss (port : Fin 4)
  /-- R276. Every 60 s of TB1 the oldest duty-cycle bucket is cleared and becomes current. -/
  | radBudgetBucketRoll (port : Fin 4)
  /-- R278. A downlink item deferred longer than MAX_WAIT_S completes with BUDGET. -/
  | radDlMaxWait (port : Fin 4)
  /-- R279. A radio port takes an acknowledgement item and sends it in the next suitable cell. -/
  | radAppAckSend (port : Fin 4) (parity : Nat)
  /-- R279. A radio port takes a downlink item, sends it and writes a completion. -/
  | radDownlinkItem (port : Fin 4) (sub : Option Submission)
  /-- R280. Setting RADn.CTRL.FENCE stops the radio port as for a PLC port. -/
  | radFence (req : Req) (port : Fin 4)
  /-- R280. Clearing FENCE resumes the radio port at the next timeslot. -/
  | radUnfence (req : Req) (port : Fin 4)
  /-- R263. A write of SPI_RAW sends a word to the transceiver and latches the reply, refused while enabled. -/
  | radSpiRaw (req : Req) (port : Fin 4) (word : Word) (reply : Word)
  /-- R283. The switch learns a frame's source and forwards it between PA, P2 and P3 as FWD_MASK allows. -/
  | switchForward (port : Fin 4) (frame : Bytes) (fcsBad : Bool)
  /-- R283. A learned address ages out after AGE_S seconds. -/
  | switchAge (mac : BitVec 48)
  /-- R284. The CPU port classifies a frame to PTP, Kettle, the batch path, software or drop. -/
  | cpuPortRx (port : Fin 4) (frame : Bytes)
  /-- R287. A batch datagram's GMAC is verified and its items are passed to the header parser and command path. -/
  | batchRx (parity : Nat)
  /-- R288. Once every frame of a batch has an outcome and is durable, the CPU port sends the batch acknowledgement. -/
  | batchAckSend (parity : Nat)
  /-- R288. A tracked batch still incomplete after TIMEOUT_MS is abandoned. -/
  | batchTimeout
  /-- R320. A frame from the software transmit queue is sent, stream 0 frames with the output index as PRP sequence. -/
  | ethSwTx (sub : Option Submission)
  /-- R290. A frame with a PRP trailer is accepted or discarded as a duplicate by its source node window. -/
  | prpRx (lanB : Bool) (frame : Bytes) (fcsBad : Bool)
  /-- R290. A PRP source node silent for NODE_S seconds is removed from the table. -/
  | prpNodeForget (mac : BitVec 48)
  /-- R291. A PRP supervision frame is sent every INTERVAL_MS. -/
  | prpSupervisionTx
  /-- R291. A LAN carries no frame for 3 supervision intervals and LAN_A_DOWN or LAN_B_DOWN is latched. -/
  | prpLanDown (lanB : Bool)
  /-- R302. An Ethernet port's link goes up or down and LINK_CHANGE is latched. -/
  | ethLinkChange (port : Fin 4) (up : Bool) (speed : BitVec 2) (sqi : BitVec 3)
  /-- R292. Kettle answers a STATUS request with mode, lifecycle, debug state, RTC and TB0. -/
  | ksvcStatus (addr : Bytes) (port : BitVec 16)
  /-- R292. Kettle answers a LOG_READ request with up to 8 event records. -/
  | ksvcLogRead (addr : Bytes) (port : BitVec 16) (index : Word) (count : BitVec 8)
  /-- R292. Kettle answers a PAGE_READ request with words of SLOW or AON pages. -/
  | ksvcPageRead (addr : Bytes) (port : BitVec 16) (page : BitVec 8) (off : BitVec 12) (count : BitVec 8)
  /-- R293. Kettle verifies a signed WAKE with a fresh counter and starts the mode change it names. -/
  | ksvcWake (addr : Bytes) (port : BitVec 16) (target : BitVec 8) (counter : BitVec 64) (signature : Bytes)
  /-- R297. The host writes PCIE.SQ_TAIL to submit batches. -/
  | pcieSqTailWrite (req : Req) (data : Word)
  /-- R297. The endpoint fetches a submission entry and its batch while the receive queue has credit, and advances SQ_HEAD. -/
  | pcieSqFetch (host : List (BitVec 64 × Bytes))
  /-- R297. The endpoint writes a batch acknowledgement to the host buffer and a completion into the completion ring. -/
  | pcieCompletionWrite (parity : Nat)
  /-- R298. On link down the endpoint stops fetching, abandons tracked batches and resets both rings. -/
  | pcieLinkDown (up : Option PcieHost)
  /-- R298. On hot reset the endpoint stops fetching, abandons tracked batches and resets both rings. -/
  | pcieHotReset (up : Option PcieHost)
  /-- R301. MDIO_CMD with GO and OP write sends one clause 22 write frame. -/
  | mdioWrite (req : Req) (phy : BitVec 5) (reg : BitVec 5) (data : BitVec 16)
  /-- R301. MDIO_CMD with GO and OP read sends one clause 22 read frame. -/
  | mdioRead (req : Req) (phy : BitVec 5) (reg : BitVec 5) (data : BitVec 16)
  /-- R301. A management frame ends, BUSY clears and RDATA or NO_TA is written. -/
  | mdioFrameDone (driven : Bool) (data : BitVec 16)
  /-- R306. A write of TWIN.CTRL.ENABLE = 1 moves the twin from OFF to SEEKING. -/
  | twinEnable (req : Req)
  /-- R306. A write of TWIN.CTRL.ENABLE = 0 moves the twin to OFF. -/
  | twinDisable (req : Req)
  /-- R306. SEEK.MS passes without hearing the partner and, with SOLO_START, the twin becomes ACTIVE alone. -/
  | twinSeekTimeout
  /-- R307. Twins in SEEKING exchange HELLO content and the election picks the active. -/
  | twinHello (ident : BitVec 45) (durable : BitVec 48) (prefer : Bool) (role : BitVec 3)
  /-- R309. A Tongs link frame unacknowledged within 20 µs is sent again go-back-N. -/
  | tongsRetransmit
  /-- R309. An idle Tongs direction sends a keep-alive every 100 µs. -/
  | tongsKeepalive (received : Bool)
  /-- R312. The standby writes a FRAME record into its replay slot and runs it through its own Cleaver and lanes. -/
  | twinFrameRx (record : Bytes) (parity : Nat)
  /-- R312. The standby takes a COMMAND record and applies it at its order number. -/
  | twinCommandRx (order : BitVec 48) (command : TwinCommand)
  /-- R312. The standby takes a MARKER record and applies it at its order number. -/
  | twinMarkerRx (order : BitVec 48) (kind : MarkerKind) (k : Word) (gen : BitVec 16) (skipped : Bool) (at_ : Word)
  /-- R314. The standby commits a replicated transaction's values at its order number, or enters DESYNCED. -/
  | twinTxnRx (order : BitVec 48) (values : List (BitVec 8 × BitVec 12 × Word))
  /-- R312. The standby's port applies a JOIN record at its order number. -/
  | twinJoinRx (order : BitVec 48) (port : Fin 8) (ident : BitVec 64) (addr : BitVec 16) (slot : BitVec 16)
  /-- R316. The standby discards a frame at the order number of a DISCARD record. -/
  | twinDiscardRx (order : BitVec 48)
  /-- R317. The standby closes its group at a GROUP record with the given sequence and last order number. -/
  | twinGroupRx (seq : BitVec 48) (last : BitVec 48)
  /-- R325. A HANDOVER record moves the standby to ACTIVE once it has committed X, or the old active to STANDBY. -/
  | twinHandoverRx (x : BitVec 48) (bounds : List (BitVec 48))
  /-- R328. The active takes a DURABLE record from the standby for paired durability. -/
  | twinDurableRx (seq : BitVec 48)
  /-- R326. A twin compares a partner's output digest with its own and counts a disagreement. -/
  | twinDigestRx (stream : Fin 10) (index : BitVec 48) (digest : BitVec 64)
  /-- R327. After a disagreement both twins test their path and the outcome table decides who steps down. -/
  | twinDisputeTest (mine theirs : Bool)
  /-- R326. A digest without a counterpart after 100 ms is counted in MISSING_CNT. -/
  | twinDigestMissing
  /-- R315. The active treats a FORWARD record as a frame received on its own port of that number. -/
  | twinForwardRx (port : BitVec 4) (link : BitVec 16) (seq : BitVec 8) (frame : Bytes)
  /-- R316. The active sends the FRAME record of a RESEND_REQ again. -/
  | twinResendReqRx (order : BitVec 48)
  /-- R321. Every 2 ms the paired active sends a LEASE_REQ on all three paths. -/
  | twinLeaseRenew
  /-- R321. The standby accepts a LEASE_REQ and answers with a LEASE_GRANT, or DESYNCED when desynced. -/
  | twinLeaseReqRx (path : Fin 3) (counter : BitVec 64) (authentic : Bool)
  /-- R321. The active takes a grant with a new counter and extends its lease, or a fenced twin returns to ACTIVE. -/
  | twinLeaseGrantRx (path : Fin 3) (counter : BitVec 64) (fromStandby : Bool) (authentic : Bool)
  /-- R322. The active's lease expires and it enters FENCED, stopping field output and ordering. -/
  | twinLeaseExpiry
  /-- R322. A fenced twin sends FENCED on all three paths every 2 ms. -/
  | twinFencedNotice
  /-- R329. A twin takes a FENCED or DESYNCED notice from its partner. -/
  | twinNoticeRx (path : Fin 3) (kind : TwinNotice) (authentic : Bool)
  /-- R323. A standby with 12 ms since its last grant and nothing heard in the guard acquires the lease and becomes ACTIVE alone. -/
  | twinAcquire
  /-- R324. A path carries nothing for its limit, its PATHS bit clears and PATH_DOWN is latched. -/
  | twinPathDown (path : Fin 3)
  /-- R324. The Tongs link is down for LOSS_MS and the standby enters DESYNCED. -/
  | tongsLoss
  /-- R325. A write of TWIN.CTRL.SWAP on a paired active starts a planned handover. -/
  | twinSwap (req : Req)
  /-- R322. A write of DISSOLVE makes the twin ACTIVE alone. -/
  | twinDissolve (req : Req)
  /-- R327. RESOLVE KEEP clears DISPUTE. -/
  | twinResolveKeep (req : Req)
  /-- R327. RESOLVE STEP_DOWN puts the active into DESYNCED. -/
  | twinResolveStepDown (req : Req)
  /-- R327. RESOLVE DROP puts the standby into DESYNCED. -/
  | twinResolveDrop (req : Req)
  /-- R306. A write of TWIN.CTRL.FENCE = 1 moves the twin to DESYNCED. -/
  | twinFenceWrite (req : Req) (value : Bool)
  /-- R330. A twin enters SYNCING, the active fixes the sync point S and starts copying state. -/
  | twinSyncStart (order : BitVec 48)
  /-- R330. The syncing twin stores a SYNC_DATA copy unit. -/
  | twinSyncDataRx (unit : SyncUnit) (tagOk : Bool)
  /-- R330. Catch-up leaves fewer than 8,192 records buffered and the twin enters STANDBY. -/
  | twinSyncComplete
  /-- R332. The sync is aborted on a full buffer, link loss, partner change or repeated tag failure. -/
  | twinSyncAbort
  /-- R306. After RETRY_S an aborted twin returns to SEEKING. -/
  | twinSyncRetry
  /-- R407. A twin verifies a partner's KEY_OFFER and derives the new pair key. -/
  | twinKeyOfferRx (path : Fin 3) (pub nonce : Bytes) (ident : BitVec 45) (durable : BitVec 48) (prefer : Bool) (role : BitVec 3) (valid : Bool)
  /-- R407. At a meeting of two twins each generates an X448 key and sends a signed KEY_OFFER. -/
  | twinMeeting
  /-- R354. A write of FTL.CTRL.ENABLE mounts the medium through its numbered steps and sets MOUNT_ORDER. -/
  | ftlMount (req : Req) (ckptOk : Bool)
  /-- R341. A NAND program ends and is verified or handled as a program failure. -/
  | nandProgramDone (die : Fin 16) (fail : Bool) (readBackOk : Bool) (parity : Nat)
  /-- R358. A NAND erase ends, successfully or as an erase failure. -/
  | nandEraseDone (die : Fin 16) (fail : Bool)
  /-- R340. A NAND read ends and its corrected-bit count decides good, refresh, retry or READ_FAIL. -/
  | nandReadDone (die : Fin 16) (report : ReadReport)
  /-- R358. A NAND operation exceeds its timeout and the block is retired. -/
  | nandTimeout (die : Fin 16)
  /-- R353. The map journal is flushed to the JOURNAL volume at its time, count or allocation trigger. -/
  | mapJournalFlush
  /-- R346. A full log block, or the oldest when the pool is empty, is merged by switch, partial or full merge. -/
  | logBlockMerge (fails : Fin 4)
  /-- R356. When erase counts differ by more than WL_DELTA, the least-erased data block is moved, at most once per interval. -/
  | wearLevelMove (fails : Fin 4)
  /-- R357. The patrol reads a page of a valid block within its effective period and queues relocation where needed. -/
  | patrolRead (temp : BitVec 8)
  /-- R352. A group held for archive space is written once a tail stripe is freed. -/
  | archSpaceResume
  /-- R360. A die that fails with timeouts for 1 s is marked FAILED and its mirrored data re-mirrored. -/
  | dieFail (die : Fin 16)
  /-- R361. FTL READ copies pages of a volume to DRAM, decrypted. -/
  | ftlRead (sub : Option Submission)
  /-- R361. FTL WRITE writes pages from DRAM to a software-written volume. -/
  | ftlWrite (sub : Option Submission)
  /-- R352. TRIM_ARCH frees the archive tail stripe when retention allows. -/
  | ftlTrimArch (sub : Option Submission)
  /-- R359. SECURE_DISCARD erases every copy of a range of logical blocks before completing. -/
  | ftlSecureDiscard (sub : Option Submission)
  /-- R361. RESIZE grows or shrinks the archive by whole stripes. -/
  | ftlResize (sub : Option Submission)
  /-- R343. FORMAT writes a new medium header and erases every good block. -/
  | ftlFormat (sub : Option Submission)
  /-- R360. DIE_EVACUATE relocates a die's valid blocks and marks it OUT. -/
  | ftlDieEvacuate (sub : Option Submission)
  /-- R360. DIE_ADD erases a new die and adds its blocks to the free pool and reserve. -/
  | ftlDieAdd (sub : Option Submission) (device : Option DieParam)
  /-- R345. A boot read in MODE 0 copies a boot volume range to its destination. -/
  | bootReadCopy (req : Req) (copyBad : Bool) (otherBad : Bool)
  /-- R345. A boot read in MODE 1 copies and leaves SHAKE256 of the bytes in BOOT_MEAS. -/
  | bootReadCopyHash (req : Req) (copyBad : Bool) (otherBad : Bool)
  /-- R345. A boot read in MODE 2 copies and leaves the Merkle root of the image in BOOT_ROOT. -/
  | bootReadCopyMerkle (req : Req) (copyBad : Bool) (otherBad : Bool)
  /-- R365. TRUSTED writes a channel's requester identity, refused while the channel is not IDLE. -/
  | dmaCfgReqWrite (req : Req) (chan : Fin 16) (value : BitVec 3)
  /-- R372. CMD.START takes any armed shadow set and starts fetching the first descriptor. -/
  | dmaStart (req : Req) (chan : Fin 16)
  /-- R372. CMD.STOP notes a pause at the next descriptor end. -/
  | dmaStop (req : Req) (chan : Fin 16)
  /-- R372. CMD.RESUME takes any armed shadow set and fetches the next descriptor or ends the chain. -/
  | dmaResume (req : Req) (chan : Fin 16)
  /-- R374. CMD.ABORT ends the channel at the next beat boundary without write-back. -/
  | dmaAbort (req : Req) (chan : Fin 16)
  /-- R372. CMD.CLEAR returns a channel from ERROR to IDLE. -/
  | dmaClear (req : Req) (chan : Fin 16)
  /-- R367. A descriptor is read whole and checked, moving the channel to RUN or ERROR. -/
  | dmaDescriptorFetch
  /-- R376. The arbiter grants a channel a beat, which is read and written, or ends the channel in ERROR on a bus error or poison. -/
  | dmaBeat
  /-- R372. The last byte of a descriptor is written, it is written back, and the channel fetches next, pauses or idles. -/
  | dmaDescriptorEnd (chan : Fin 16)
  /-- R390. LOAD places KEY_DATA into a slot with the given attributes. -/
  | keyLoad (req : Req) (target source : BitVec 6) (kind : BitVec 2) (lenSel : BitVec 6)
  /-- R393. ERASE empties a slot and aborts every operation holding its old generation. -/
  | keyErase (req : Req) (target source : BitVec 6) (kind : BitVec 2) (lenSel : BitVec 6)
  /-- R390. NARROW clears attribute bits of a slot, refused if it would set any. -/
  | keyNarrow (req : Req) (target source : BitVec 6) (kind : BitVec 2) (lenSel : BitVec 6)
  /-- R390. DERIVE fills a slot by KMAC256 from a slot or trunk and the requester's label. -/
  | keyDerive (req : Req) (target source : BitVec 6) (kind : BitVec 2) (lenSel : BitVec 6)
  /-- R390. GENERATE fills a slot with TRNG bytes, refused without entropy. -/
  | keyGenerate (req : Req) (target source : BitVec 6) (kind : BitVec 2) (lenSel : BitVec 6)
  /-- R390. UNWRAP restores a key, its attributes and generation from an AES-KWP blob. -/
  | keyUnwrap (req : Req) (target source : BitVec 6) (kind : BitVec 2) (lenSel : BitVec 6)
  /-- R390. WRAP exports an exportable slot as an AES-KWP blob for TRUSTED. -/
  | keyWrap (req : Req) (target source : BitVec 6) (kind : BitVec 2) (lenSel : BitVec 6)
  /-- R509. A running KEY command ends, writes its status and clears BUSY. -/
  | keyCmdDone
  /-- R417. A TRUSTED write of KEY.CTRL.ZEROISE erases every slot. -/
  | keyZeroise (req : Req)
  /-- R388. Every 1 ms the Canister replaces the mask of every slot. -/
  | keyRemask
  /-- R416. Trivet returns a signed attestation statement over the caller's challenge. -/
  | trivetAttest (sub : Option Submission)
  /-- R415. Trivet encrypts data under a key derived from the seal trunk. -/
  | trivetSeal (sub : Option Submission)
  /-- R415. Trivet reopens sealed data, accepting the previous measurement while an image is unconfirmed. -/
  | trivetUnseal (sub : Option Submission)
  /-- R415. Trivet agrees a transport key with the head end and unwraps a KEK blob into KEK_A or KEK_B. -/
  | trivetKekImport (sub : Option Submission)
  /-- R415. Trivet writes a KEK blob to the settings volume. -/
  | trivetKekStore (sub : Option Submission)
  /-- R415. Trivet erases KEK_A or KEK_B and removes its blob. -/
  | trivetKekRemove (sub : Option Submission)
  /-- R415. Trivet installs the Kettle service key in the VBAT key region and stores its blob. -/
  | trivetKsvcSet (sub : Option Submission)
  /-- R403. A GCM_ENC job encrypts data with a Cleaver-chosen IV counter. -/
  | ciphGcmEnc (sub : Option Submission)
  /-- R403. A GCM_DEC job decrypts and writes plaintext only when the tag verifies. -/
  | ciphGcmDec (sub : Option Submission)
  /-- R403. A CTR_ENC job encrypts data in counter mode. -/
  | ciphCtrEnc (sub : Option Submission)
  /-- R403. A CTR_DEC job decrypts data in counter mode. -/
  | ciphCtrDec (sub : Option Submission)
  /-- R403. A GMAC_GEN job computes a GMAC tag. -/
  | ciphGmacGen (sub : Option Submission)
  /-- R403. A GMAC_VER job verifies a GMAC tag. -/
  | ciphGmacVer (sub : Option Submission)
  /-- R403. A CMAC_GEN job computes an AES-CMAC tag. -/
  | ciphCmacGen (sub : Option Submission)
  /-- R403. A CMAC_VER job verifies an AES-CMAC tag. -/
  | ciphCmacVer (sub : Option Submission)
  /-- R405. An FF1_ENC job encrypts decimal digits with FF1. -/
  | ciphFf1Enc (sub : Option Submission)
  /-- R405. An FF1_DEC job decrypts decimal digits with FF1. -/
  | ciphFf1Dec (sub : Option Submission)
  /-- R397. A METER_WRAP job rewraps a transport-wrapped meter key under KEK_A or KEK_B. -/
  | ciphMeterWrap (sub : Option Submission)
  /-- R401. A METER_ENC job encrypts a downlink frame under the meter's frame key with the next DOWN_IVC. -/
  | ciphMeterEnc (sub : Option Submission)
  /-- R398. A write of CIPH.REWRAP.GO starts a rewrap sweep from one KEK to the other. -/
  | rewrapGo (req : Req) (source : BitVec 1)
  /-- R398. The sweep rewraps one record's keys at the limited rate and writes them through Ladle's commit port. -/
  | rewrapRecord
  /-- R406. Mortar signs a message with Ed448. -/
  | pkeSign (sub : Option Submission)
  /-- R406. Mortar verifies an Ed448 signature. -/
  | pkeVerify (sub : Option Submission)
  /-- R406. Mortar signs with Ed448ph over a SHAKE256 prehash. -/
  | pkeSignPh (sub : Option Submission)
  /-- R406. Mortar verifies an Ed448ph signature. -/
  | pkeVerifyPh (sub : Option Submission)
  /-- R406. Mortar computes an X448 agreement into a target slot with usage DERIVE only. -/
  | pkeAgree (sub : Option Submission)
  /-- R406. Mortar writes the public key of a slot to memory. -/
  | pkePublic (sub : Option Submission)
  /-- R406. Mortar fills a target slot with a new Ed448 seed or X448 key from the TRNG. -/
  | pkeKeygen (sub : Option Submission)
  /-- R408. The TRNG start-up test of 4,096 bits passes and output begins. -/
  | trngStartupDone
  /-- R409. A health test fails, the pool is discarded and the TRNG restarts or, on the third failure in an hour, enters FAILED. -/
  | trngHealthFail (apt : Bool)
  /-- R420. A read of TRNG.DATA returns 32 fresh bits, or 0 with NO_ENTROPY when not OK. -/
  | trngDataRead (req : Req)
  /-- R411. A tamper source asserts, aborts key operations and takes its configured response for the current mode. -/
  | tamperAssert (source : Fin 8)
  /-- R410. The monitor drives a new mesh word and checks the returned pattern every 2^RATE SLOW cycles. -/
  | meshCheck (good : Bool)
  /-- R413. A write of TAMP.CTRL.VKR_CLEAR zeroises the VBAT key region. -/
  | tampVkrClear (req : Req)
  /-- R421. A write of TAMP.CTRL.ARMED locks the tamper configuration. -/
  | tampArm (req : Req)
  /-- R414. RELEASE.GO starts FABRIC and the security core to verify the release signature, clearing TAMPER_LATCH or issuing a new challenge. -/
  | tampRelease (req : Req)
  /-- R425. A write of PWR.MODE_REQ requests DORMANT, LISTEN, TENDING or FULL, running a stop sequence or lane changes as needed. -/
  | modeReq (req : Req) (data : Word)
  /-- R424. A wake source acts in DORMANT or LISTEN and moves the chip to its target mode. -/
  | wakeInput (input : Fin 2)
  /-- R427. Power-on reset release or a wake runs start-up through its numbered steps to the target mode. -/
  | startup (input : BootInput)
  /-- R434. Every unmasked degraded cause clears and the chip returns to FULL. -/
  | degradedExit
  /-- R445. A running PLL loses lock for 1 µs and start-up runs from step 1 with CLOCK_FAIL. -/
  | pllUnlock (pll : Fin 7)
  /-- R445. CLK10M_IN is lost and DCO_TIME returns to the crystal without a TB0 step. -/
  | ref10Lost
  /-- R444. A TRUSTED write of SYS.SW_RESET with key 0xA5 runs start-up from step 1. -/
  | swReset (req : Req) (data : Word)
  /-- R436. PFW_N or the VMAIN monitor starts the last-gasp sequence that writes the open group and stops the domains. -/
  | lastGasp (vmain : Bool)
  /-- R438. Main power stays good for RECOVER_MS after the last gasp and start-up runs with LG_RECOVER. -/
  | lgRecover
  /-- R440. A slow input's filtered level changes and its edge is counted and acted on. -/
  | slowInputEdge (input : Fin 8) (active : Bool)
  /-- R441. An input active for STUCK_S is logged INPUT_STUCK and masked. -/
  | inputStuck (input : Fin 8)
  /-- R442. The 10 s chatter mask ends and the input takes its present level as reference. -/
  | chatterMaskEnd (input : Fin 8)
  /-- R451. A write of LCS.CHAL_REQ.GO issues a fresh 32-byte challenge and increments CNT. -/
  | lcsChalReq (req : Req)
  /-- R451. A challenge lapses 60 s after it was issued. -/
  | chalLapse
  /-- R454. An owner-signed DEBUG_OPEN drains the path, erases every slot and re-forms the trunks in the debug context. -/
  | lcsDebugOpen (req : Req)
  /-- R449. An owner-signed DEPLOY blows LC2 for the next start-up. -/
  | lcsDeploy (req : Req)
  /-- R449. An owner-signed RETIRE blows LC3 for the next start-up. -/
  | lcsRetire (req : Req)
  /-- R457. KILL_DEBUG blows DEBUG_KILL and closes debug access at once. -/
  | lcsKillDebug (req : Req)
  /-- R449. PROVISION blows LC1 once enrolment and the OTP keys are present. -/
  | lcsProvision (req : Req)
  /-- R456. DEBUG_CLOSE closes debug access at once. -/
  | lcsDebugClose (req : Req)
  /-- R466. UPD takes a piece item and checks it against the manifest, hash pieces or leaf hashes of the session. -/
  | updPiece (sub : Option Submission)
  /-- R467. UPD programs a staging page when its pieces are complete or 2 s have passed, then records the pieces and issues completions. -/
  | updPageWrite
  /-- R468. INSTALL copies a complete image into the part's copy not in use and checks its measurement. -/
  | updInstall (req : Req)
  /-- R466. UPD.CTRL.ABORT abandons the session and releases staging and the bitmap. -/
  | updAbort (req : Req)
  /-- R470. The new image of the part runs and the chip leaves ACTIVATE. -/
  | updActivationEnd
  /-- R472. A write of UPD.CONFIRM with key 0xC9 confirms an unconfirmed part. -/
  | updConfirm (req : Req) (data : Word)
  /-- R473. A write of FALLBACK_REQ with key 0xC9 falls a part back to its previous copy. -/
  | updFallbackReq (req : Req) (data : Word)
  /-- R473. One hour before the confirmation window ends CONFIRM_DUE is latched. -/
  | confirmDue (part : Fin 3)
  /-- R473. The confirmation window ends unconfirmed and the part falls back. -/
  | confirmWindowEnd (part : Fin 3)
  /-- R485. The recorder takes an event item, passes it through its token bucket, snapshots and stages it. -/
  | evrItemTake (parity : Nat)
  /-- R485. A token becomes available and a summary record of coalesced items is written. -/
  | evrSummaryWrite
  /-- R482. A staged record is programmed to its NOR slot with the next RSEQ and verified. -/
  | evrNorProgram
  /-- R482. The circulating sector ahead of the write position is erased. -/
  | evrSectorErase
  /-- R484. Every 15 min of operating time the recorder writes OPTIME and PWR_CYCLES to the counters area. -/
  | evrCounterSave
  /-- R493. A write of EVR.SW_CODE.GO sends a software record of class 16 to 31. -/
  | evrSwCode (req : Req) (data : Word)
  /-- R488. A write of RD_CTRL.GO reads the record of RD_RSEQ into the reader's RD_DATA with a status. -/
  | evrRead (req : Req)
  /-- R489. A write of EVR.CTRL.CLEAR clears the circulating area below RSEQ_NEXT and writes LOG_CLEARED. -/
  | evrClear (req : Req)
  /-- R490. A NOR failure moves the recorder into fallback to EVFB and writes LOG_MEDIA_FAIL. -/
  | evrNorFail (cause : BitVec 3) (addr : BitVec 24)
  /-- R490. Kettle repeats the ALARM datagram every 10 min while LOG_MEDIA_FAIL is 1. -/
  | evrAlarmRepeat
  /-- R491. NOR_RETRY probes the NOR and, on success, copies EVFB records back and writes LOG_RESTORED. -/
  | evrNorRetry (req : Req) (answer : Option (BitVec 24))
  /-- R423. Main power falls after the last-gasp sequence has ended, and the chip enters BACKUP with only the retention supply running. -/
  | mainPowerLoss
  /-- R445. CLK10M_IN returns, REF10_OK is set and REF10_BACK is latched on the CLK page. -/
  | ref10Back
  /-- R309. One lane of the Tongs link fails, the link continues on the other lane at 1.2 GB/s and TONGS_HALF is set, making a degraded cause. -/
  | tongsLaneFail (lane : Fin 2) (up : Bool)
  /-- R309. The partner's acknowledgement of Tongs link frames arrives, ends their resend window, returns order-queue credits and advances APPLIED on the active. -/
  | tongsLinkAck (link : Word) (applied : BitVec 48) (parity : Nat)
  /-- R271. A radio member not heard for RADn.JOIN_CFG.AGE_H hours is removed from the node table and NODE_REMOVED is latched. -/
  | radNodeAge (port : Fin 4) (addr : BitVec 16)
  /-- R476. A twin receives its partner's M_A over the Tongs link and sets or clears UPD.STAT.MIXED. -/
  | partnerMARx (m : Bytes)
  deriving DecidableEq, Repr

end Sys2Proof
end

