-- ==== Sys2Proof/Config.lean ====
section
/-! DEFINITION. What the spec leaves open: free values. Each is an opaque constant, so no proof can see what it is (log entry 3). The counter `State.free` makes each draw fresh. -/

namespace Sys2Proof.Config

/-- A free byte for a value the spec leaves open; the argument is the state's counter of free draws. -/
opaque freeByte : Nat → BitVec 8

/-- A free 32-bit word. -/
opaque freeWord : Nat → BitVec 32

/-- R492: the low byte of an event code that the spec names without giving its number; the argument is the
event's class and its index among the model's event names. -/
opaque eventSub : Nat → Nat → BitVec 8

/-- R23: the DRAM fitted beyond 4 GiB, in GiB; the board fixes it. -/
opaque dramExtra : Fin 13

/-- R275: the extended address of a radio port, which the spec uses without saying what it is. -/
opaque radExtAddr : Nat → BitVec 64

/-- R415: the labels of the two keys that Trivet derives without the spec saying how: 0 for sealed data, 1 for the transport agreement. -/
opaque trivetLabel : Nat → List (BitVec 8)

/-- R61: the producer's domain of a queue whose producer the spec does not place, by queue number. -/
opaque queueProducer : Nat → Fin 9

/-- R259: the noise on a carrier in a symbol time without a frame; the arguments are the state's counter of free draws and the carrier. -/
opaque plcNoise : Nat → Nat → BitVec 8

/-- R243: the SNR of a carrier, in 0.25 dB, from its decision error and its noise floor; the spec gives no formula. -/
opaque plcSnr : BitVec 8 → BitVec 8 → BitVec 8

end Sys2Proof.Config
end

