-- ==== Sys2Proof/Machine/Bytes.lean ====
section
/-! DEFINITION. Byte order and bit fields (R5, R6): little-endian and big-endian values of byte strings, and the fields of a Nat read as bits. -/

namespace Sys2Proof.Machine

/-- R5: bits `hi` down to `lo` of a value. -/
def bitsOf (v hi lo : Nat) : Nat := (v >>> lo) % 2 ^ (hi + 1 - lo)

/-- R5: bit `n` of a value. -/
def bitAt (v n : Nat) : Nat := (v >>> n) % 2

/-- R5: a value with bits `hi` down to `lo` replaced. -/
def withBits (v hi lo x : Nat) : Nat :=
  v - (bitsOf v hi lo <<< lo) + ((x % 2 ^ (hi + 1 - lo)) <<< lo)

/-- R6: the little-endian bytes of a value, `n` of them. -/
def leBytes : Nat → Nat → Bytes
  | 0, _ => []
  | n + 1, v => BitVec.ofNat 8 v :: leBytes n (v / 256)

/-- R6: the little-endian value of a byte string. -/
def leNat : Bytes → Nat
  | [] => 0
  | b :: r => b.toNat + 256 * leNat r

/-- The big-endian value of a byte string (protocols that keep their own order, R6). -/
def beNat (bs : Bytes) : Nat := bs.foldl (fun a b => a * 256 + b.toNat) 0

/-- The big-endian bytes of a value, `n` of them. -/
def beBytes (n v : Nat) : Bytes := (leBytes n v).reverse

/-- Bytes `a` to `a + n − 1` of a string, with zeros past its end. -/
def slice (bs : Bytes) (a n : Nat) : Bytes :=
  let r := (bs.drop a).take n
  r ++ List.replicate (n - r.length) 0

/-- The little-endian value of bytes `a` to `a + n − 1`. -/
def leAt (bs : Bytes) (a n : Nat) : Nat := leNat (slice bs a n)

/-- The big-endian value of bytes `a` to `a + n − 1`. -/
def beAt (bs : Bytes) (a n : Nat) : Nat := beNat (slice bs a n)

/-- A byte string with bytes from `a` replaced. -/
def splice (bs : Bytes) (a : Nat) (x : Bytes) : Bytes :=
  slice bs 0 a ++ x ++ bs.drop (a + x.length)

/-- A value of `w` bits read as a two's-complement number. -/
def signedOf (w v : Nat) : Int :=
  if v % 2 ^ w < 2 ^ (w - 1) then (v % 2 ^ w : Nat) else ((v % 2 ^ w : Nat) : Int) - (2 ^ w : Nat)

/-- The two's-complement bits of a number, `w` of them. -/
def unsignedOf (w : Nat) (i : Int) : Nat := (i % ((2 ^ w : Nat) : Int)).toNat

/-- A count that saturates at `m`. -/
def satAdd (m v n : Nat) : Nat := min m (v + n)

/-- The number of set bits among the low `n` bits. -/
def popCount : Nat → Nat → Nat
  | 0, _ => 0
  | n + 1, v => v % 2 + popCount n (v / 2)

end Sys2Proof.Machine
end

