-- ==== Sys2Proof/Machine/Field.lean ====
section
/-! DEFINITION. What a register field is: its place, its reset value, its access code, its Txn entry and the range of the values it takes (R5, R28, R29); and the fields of the page header that every page has (R28, R32–R38, R44, R50, R58). -/

namespace Sys2Proof.Machine

/-- R29: the access codes of a register field. -/
inductive Acc where
  | rw | ro | wo | w1c | w1s | rc
  deriving DecidableEq, Repr

/-- R29: the Txn column of a register table. -/
inductive TxnKind where
  | none | t | s
  deriving DecidableEq, Repr

/-- A register field. `own`: a row of the opcode table is the write of this field, so that a plain
REGISTER_WRITE leaves it alone (log entry 5). `trusted`: reserved to the TRUSTED requester (R35).
`banked`: each requester has its own copy. `vmin`, `vmax`: the values the field takes; another value
is refused with VALUE_REFUSED (R39). -/
structure Field where
  page : Nat
  off : Nat
  lo : Nat
  width : Nat
  reset : Nat := 0
  acc : Acc := .rw
  txn : TxnKind := .none
  own : Bool := false
  trusted : Bool := false
  banked : Bool := false
  vmin : Nat := 0
  vmax : Nat
  deriving DecidableEq, Repr

/-- The field's key in the register file: page, offset and lowest bit name it uniquely. -/
def Field.key (f : Field) : Nat := (f.page * 4096 + f.off) * 32 + f.lo

/-- A banked field as requester code `r` sees it: its copy has a key of its own. -/
def Field.bankOf (f : Field) (r : Nat) : Field :=
  if f.banked then { f with page := f.page + 0x1000 * (r + 1) } else f

/-- The values a field cannot take although they lie between its bounds: TIME.NOW_SEL.BASE takes 0, 1
and 3 (R230), RADn.SEC_CFG.LEVEL not 4 (R281), and the signed fields RTC.LOCAL.OFFSET, RTC.TRIM.TRIM and TIME.FREQ_ADJ
are bounded in two's complement (R211, R232). -/
def Field.gap (f : Field) (v : Nat) : Bool :=
  if f.page = 0x05 ∧ f.off = 0x100 then v == 2
  else if 0x35 ≤ f.page ∧ f.page ≤ 0x38 ∧ f.off = 0x14C ∧ f.lo = 0 then v == 4
  else if f.page = 0x04 ∧ f.off = 0x110 then decide (56 < v ∧ v < 200)
  else if f.page = 0x04 ∧ f.off = 0x118 ∧ f.lo = 0 then v == 128
  else if f.page = 0x05 ∧ f.off = 0x11C then decide (128000000 < v) && decide (v < 4166967296)
  else if f.page = 0x05 ∧ f.off = 0x128 then decide (999999999 < v) && decide (v < 3294967297)
  else false

/-- R39: does the field take the value? -/
def Field.takes (f : Field) (v : Nat) : Bool :=
  decide (f.vmin ≤ v) && decide (v ≤ f.vmax) && !f.gap v

namespace Reg

/-- R37: latched or level source `b` of `IRQ_RAW` of page `p`. -/
def irqRaw (p b : Nat) : Field :=
  { page := p, off := 0x020, lo := b, width := 1, acc := .w1c, own := true, vmax := 1 }

/-- R33: `BLK_PRIV.LOCK` of page `p`. -/
def BLK_PRIV_LOCK (p : Nat) : Field :=
  { page := p, off := 0x00C, lo := 31, width := 1, acc := .w1s, own := true, trusted := true, vmax := 1 }

/-- R9, R34: the pages of the SLOW and AON domains. -/
def slowOrAon (p : Nat) : Bool :=
  decide (p ≤ 0x04) || p == 0x06 || p == 0x0C || p == 0x2C

/-- R383: the requesters whom the ceiling of page `p` admits to writes. -/
def wrCeil (p : Nat) : Nat :=
  if p = 0x08 ∨ p = 0x09 ∨ p = 0x0A then 0x23
  else if p = 0x07 ∨ p = 0x0B then 0x21
  else if p = 0x0C then 0x29
  else if slowOrAon p then 0x3B else 0x33

/-- R383: the requesters whom the ceiling of page `p` admits to reads. -/
def rdCeil (p : Nat) : Nat :=
  if p = 0x08 ∨ p = 0x09 ∨ p = 0x0A then 0x23
  else if p = 0x07 then 0x3B
  else if p = 0x0B then 0x33
  else if slowOrAon p then 0x3B else 0x33

/-- R33: `BLK_PRIV.WR_CEIL` of page `p`. -/
def BLK_PRIV_WR_CEIL (p : Nat) : Field :=
  { page := p, off := 0x00C, lo := 24, width := 6, reset := wrCeil p, acc := .ro, vmax := 63 }

/-- R33: `BLK_PRIV.RD_CEIL` of page `p`. -/
def BLK_PRIV_RD_CEIL (p : Nat) : Field :=
  { page := p, off := 0x00C, lo := 16, width := 6, reset := rdCeil p, acc := .ro, vmax := 63 }

/-- R33, R34: `BLK_PRIV.WR` of page `p`; at reset TRUSTED and, on SLOW and AON pages, KETTLE. -/
def BLK_PRIV_WR (p : Nat) : Field :=
  { page := p, off := 0x00C, lo := 8, width := 6, reset := if slowOrAon p then 0b001001 else 0b000001,
    own := true, trusted := true, vmax := 63 }

/-- R33, R34: `BLK_PRIV.RD` of page `p`; at reset the read ceiling. -/
def BLK_PRIV_RD (p : Nat) : Field :=
  { page := p, off := 0x00C, lo := 0, width := 6, reset := rdCeil p, own := true, trusted := true, vmax := 63 }

/-- R32: `BLK_ID.PAGE` of page `p`. -/
def BLK_ID_PAGE (p : Nat) : Field :=
  { page := p, off := 0x000, lo := 24, width := 8, reset := p, acc := .ro, vmax := 255 }

/-- R9, R32: the instance number of page `p` within its repeated block. -/
def instanceOf (p : Nat) : Nat :=
  if 0x29 ≤ p ∧ p ≤ 0x2C then p - 0x29
  else if 0x31 ≤ p ∧ p ≤ 0x34 then p - 0x31
  else if 0x35 ≤ p ∧ p ≤ 0x38 then p - 0x35
  else if 0x40 ≤ p ∧ p ≤ 0x5F then p - 0x40
  else 0

/-- R32: `BLK_ID.INSTANCE` of page `p`. -/
def BLK_ID_INSTANCE (p : Nat) : Field :=
  { page := p, off := 0x000, lo := 16, width := 8, reset := instanceOf p, acc := .ro, vmax := 255 }

/-- R32: `BLK_ID.TYPE`; the spec gives no codes, so the model's is 0 (log entry 2). -/
def BLK_ID_TYPE (p : Nat) : Field :=
  { page := p, off := 0x000, lo := 0, width := 16, acc := .ro, vmax := 65535 }

/-- R32: `BLK_VER.MAJOR`; per block, not given (log entry 2). -/
def BLK_VER_MAJOR (p : Nat) : Field :=
  { page := p, off := 0x004, lo := 16, width := 16, acc := .ro, vmax := 65535 }

/-- R32: `BLK_VER.MINOR`; per block, not given (log entry 2). -/
def BLK_VER_MINOR (p : Nat) : Field :=
  { page := p, off := 0x004, lo := 0, width := 16, acc := .ro, vmax := 65535 }

/-- R32: `BLK_CAP.BLOCK`; per block, not given (log entry 2). -/
def BLK_CAP_BLOCK (p : Nat) : Field :=
  { page := p, off := 0x008, lo := 0, width := 27, acc := .ro, vmax := 134217727 }

/-- R36: `CTRL.SOFT_RESET` of page `p`. -/
def CTRL_SOFT_RESET (p : Nat) : Field :=
  { page := p, off := 0x010, lo := 31, width := 1, acc := .w1s, own := true, vmax := 1 }

/-- R36: `CTRL.FENCE` of page `p`. -/
def CTRL_FENCE (p : Nat) : Field :=
  { page := p, off := 0x010, lo := 30, width := 1, txn := .t, vmax := 1 }

/-- R36: `STAT.FENCED` of page `p`. -/
def STAT_FENCED (p : Nat) : Field :=
  { page := p, off := 0x014, lo := 30, width := 1, acc := .ro, vmax := 1 }

/-- R36: `STAT.BUSY` of page `p`. -/
def STAT_BUSY (p : Nat) : Field :=
  { page := p, off := 0x014, lo := 29, width := 1, acc := .ro, vmax := 1 }

/-- R28, R37: bits 27:0 of `IRQ_EN` of page `p`; bit 28 is reserved. DESIGN CHOICE (log entry 91): R37 marks bit 28 alone as reserved, so that the bits of sources that a
page lacks are stored and read back too. -/
def IRQ_EN (p : Nat) : Field :=
  { page := p, off := 0x024, lo := 0, width := 28, vmax := 268435455 }

/-- R28, R37: bits 31:29 of `IRQ_EN` of page `p`. -/
def IRQ_EN_HI (p : Nat) : Field :=
  { page := p, off := 0x024, lo := 29, width := 3, vmax := 7 }

/-- R38: `ERR_CODE.VALID` of page `p`. -/
def ERR_VALID (p : Nat) : Field :=
  { page := p, off := 0x030, lo := 31, width := 1, acc := .w1c, own := true, vmax := 1 }

/-- R38: `ERR_CODE.CNT` of page `p`. -/
def ERR_CNT (p : Nat) : Field :=
  { page := p, off := 0x030, lo := 16, width := 8, acc := .ro, vmax := 255 }

/-- R38: `ERR_CODE.CODE` of page `p`. -/
def ERR_CODE (p : Nat) : Field :=
  { page := p, off := 0x030, lo := 0, width := 16, acc := .ro, vmax := 65535 }

/-- R38: `ERR_INFO` of page `p`, held as one word because ADDR_UNMAPPED fills all of it. -/
def ERR_INFO (p : Nat) : Field :=
  { page := p, off := 0x034, lo := 0, width := 32, acc := .ro, vmax := 4294967295 }

/-- R44: `TXN_STAT.LAST_OUTCOME` of page `p`: 0 none, 1 committed, 2 rolled back. -/
def TXN_STAT_LAST_OUTCOME (p : Nat) : Field :=
  { page := p, off := 0x040, lo := 12, width := 2, acc := .ro, vmax := 3 }

/-- R44: `TXN_STAT.LAST_TAG` of page `p`. -/
def TXN_STAT_LAST_TAG (p : Nat) : Field :=
  { page := p, off := 0x040, lo := 8, width := 4, acc := .ro, vmax := 15 }

/-- R50: `SHADOW_GEN.WR_GEN` of page `p`. -/
def SHADOW_WR_GEN (p : Nat) : Field :=
  { page := p, off := 0x044, lo := 17, width := 15, reset := 1, acc := .ro, vmax := 32767 }

/-- R50: `SHADOW_GEN.SHADOW_ARM` of page `p`. -/
def SHADOW_ARM (p : Nat) : Field :=
  { page := p, off := 0x044, lo := 16, width := 1, acc := .w1s, own := true, vmax := 1 }

/-- R50: `SHADOW_GEN.GEN` of page `p`. -/
def SHADOW_GEN (p : Nat) : Field :=
  { page := p, off := 0x044, lo := 0, width := 16, acc := .ro, vmax := 65535 }

end Reg

end Sys2Proof.Machine
end

