-- ==== Sys2Proof/Machine/RegA.lean ====
section
/-! DEFINITION. The register fields of the pages SYS, CLK, PWR, AON, RTC, TIME, EVR, one constant per field, as the register tables of spec/ give them. -/

namespace Sys2Proof.Machine.Reg

/-! Page SYS. -/

/-- R40: `SYS.TXN_BEGIN.OK`. 1: a tag was allocated. -/
def SYS_TXN_BEGIN_OK : Field :=
  { page := 0x00, off := 0x200, lo := 31, width := 1, acc := .rc, own := true, vmax := 1 }

/-- R40: `SYS.TXN_BEGIN.TAG`. Allocated tag 1–4; 0 when none is free. -/
def SYS_TXN_BEGIN_TAG : Field :=
  { page := 0x00, off := 0x200, lo := 0, width := 3, acc := .rc, own := true, vmax := 7 }

/-- R40: `SYS.TXN_SEL.TAG`. Transaction that this requester's T-field writes join; 0: none. -/
def SYS_TXN_SEL_TAG : Field :=
  { page := 0x00, off := 0x204, lo := 0, width := 3, acc := .rw, own := true, banked := true, vmax := 7 }

/-- R40: `SYS.TXN_COMMIT.INTERVAL`. For AT_INTERVAL: 0 = 1 min, 1 = 5 min, 2 = 15 min, 3 = 30 min, 4 = 60 min. -/
def SYS_TXN_COMMIT_INTERVAL : Field :=
  { page := 0x00, off := 0x208, lo := 12, width := 3, acc := .wo, own := true, vmax := 7 }

/-- R40: `SYS.TXN_COMMIT.PORT`. For AT_BEACON: 0–3 PLC0–PLC3, 4–7 RAD0–RAD3. -/
def SYS_TXN_COMMIT_PORT : Field :=
  { page := 0x00, off := 0x208, lo := 8, width := 4, acc := .wo, own := true, vmax := 15 }

/-- R40: `SYS.TXN_COMMIT.TRIGGER`. 0 NOW, 1 AT_TIME, 2 AT_INTERVAL, 3 AT_BEACON, 4 AT_CYCLE. -/
def SYS_TXN_COMMIT_TRIGGER : Field :=
  { page := 0x00, off := 0x208, lo := 4, width := 3, acc := .wo, own := true, vmax := 7 }

/-- R40: `SYS.TXN_COMMIT.TAG`. Tag to commit. -/
def SYS_TXN_COMMIT_TAG : Field :=
  { page := 0x00, off := 0x208, lo := 0, width := 3, acc := .wo, own := true, vmax := 7 }

/-- R40: `SYS.TXN_ABORT.TAG`. Tag to abort. -/
def SYS_TXN_ABORT_TAG : Field :=
  { page := 0x00, off := 0x20C, lo := 0, width := 3, acc := .wo, own := true, vmax := 7 }

/-- R40: `SYS.TXN_STATUS.PAGE`. Page that caused a roll-back. -/
def SYS_TXN_STATUS_PAGE : Field :=
  { page := 0x00, off := 0x210, lo := 16, width := 8, acc := .ro, vmax := 255 }

/-- R40: `SYS.TXN_STATUS.CAUSE`. 0 none, 1 ABORT, 2 TIMEOUT, 3 PAGE_ERROR, 4 DOMAIN_OFF, 5 OWNER_RESET. -/
def SYS_TXN_STATUS_CAUSE : Field :=
  { page := 0x00, off := 0x210, lo := 8, width := 4, acc := .ro, vmax := 15 }

/-- R40: `SYS.TXN_STATUS.LATE`. AT_TIME trigger already past when armed. -/
def SYS_TXN_STATUS_LATE : Field :=
  { page := 0x00, off := 0x210, lo := 7, width := 1, acc := .ro, vmax := 1 }

/-- R40: `SYS.TXN_STATUS.OWNER`. Requester code of the owner. -/
def SYS_TXN_STATUS_OWNER : Field :=
  { page := 0x00, off := 0x210, lo := 4, width := 3, acc := .ro, vmax := 7 }

/-- R40: `SYS.TXN_STATUS.STATE`. State of the tag in this requester's TXN_SEL, as R42. -/
def SYS_TXN_STATUS_STATE : Field :=
  { page := 0x00, off := 0x210, lo := 0, width := 3, acc := .ro, vmax := 7 }

/-- R40: `SYS.TXN_SUMMARY.STATES`. STATE of tag t in bits 4t−2:4t−4. -/
def SYS_TXN_SUMMARY_STATES : Field :=
  { page := 0x00, off := 0x214, lo := 0, width := 16, acc := .ro, vmax := 65535 }

/-- R40: `SYS.TXN_TIMEOUT.MS`. Open-phase timeout in ms, 1 to 60,000; other values are refused with VALUE_REFUSED. -/
def SYS_TXN_TIMEOUT_MS : Field :=
  { page := 0x00, off := 0x218, lo := 0, width := 16, reset := 1000, acc := .rw, vmin := 1, vmax := 60000 }

/-- R40: `SYS.TXN_AT_SEC_LO.SEC`. AT_TIME seconds, bits 31:0 (TB0). -/
def SYS_TXN_AT_SEC_LO_SEC : Field :=
  { page := 0x00, off := 0x220, lo := 0, width := 32, acc := .rw, banked := true, vmax := 4294967295 }

/-- R40: `SYS.TXN_AT_SEC_HI.SEC`. AT_TIME seconds, bits 47:32. -/
def SYS_TXN_AT_SEC_HI_SEC : Field :=
  { page := 0x00, off := 0x224, lo := 0, width := 16, acc := .rw, banked := true, vmax := 65535 }

/-- R40: `SYS.TXN_AT_NS.NS`. AT_TIME nanoseconds. -/
def SYS_TXN_AT_NS_NS : Field :=
  { page := 0x00, off := 0x228, lo := 0, width := 30, acc := .rw, banked := true, vmax := 1073741823 }

/-- R444: `SYS.ID_LOT.LOT`. Lot number. Reset in the table: Fuse. -/
def SYS_ID_LOT_LOT : Field :=
  { page := 0x00, off := 0x100, lo := 0, width := 24, acc := .ro, vmax := 16777215 }

/-- R444: `SYS.ID_WAFER.WAFER`. 1 to 25. Reset in the table: Fuse. -/
def SYS_ID_WAFER_WAFER : Field :=
  { page := 0x00, off := 0x104, lo := 0, width := 5, acc := .ro, vmax := 31 }

/-- R444: `SYS.ID_POS.Y`. Die Y, signed. Reset in the table: Fuse. -/
def SYS_ID_POS_Y : Field :=
  { page := 0x00, off := 0x108, lo := 8, width := 8, acc := .ro, vmax := 255 }

/-- R444: `SYS.ID_POS.X`. Die X, signed. Reset in the table: Fuse. -/
def SYS_ID_POS_X : Field :=
  { page := 0x00, off := 0x108, lo := 0, width := 8, acc := .ro, vmax := 255 }

/-- R444: `SYS.ID_DATE.WEEKS`. Test date, weeks since 2000. Reset in the table: Fuse. -/
def SYS_ID_DATE_WEEKS : Field :=
  { page := 0x00, off := 0x10C, lo := 0, width := 16, acc := .ro, vmax := 65535 }

/-- R444: `SYS.ID_DATE.SCREEN`. 0 X, 1 H. Reset in the table: Fuse. -/
def SYS_ID_DATE_SCREEN : Field :=
  { page := 0x00, off := 0x10C, lo := 16, width := 4, acc := .ro, vmax := 15 }

/-- R444: `SYS.ID_DATE.SPEED`. Speed grade. Reset in the table: Fuse. -/
def SYS_ID_DATE_SPEED : Field :=
  { page := 0x00, off := 0x10C, lo := 20, width := 4, acc := .ro, vmax := 15 }

/-- R444: `SYS.RESET_CAUSE.CAUSE`. Bit 0 POWER_ON, 1 WAKE, 2 RELEASE, 3 SW_RESET, 4 CLOCK_FAIL, 5 LG_RECOVER. A start-up that follows a main power-up sets the register to POWER_ON alone. Every other start-up sets its own bit and leaves the others until they are written 1.. -/
def SYS_RESET_CAUSE_CAUSE : Field :=
  { page := 0x00, off := 0x110, lo := 0, width := 6, reset := 1, acc := .w1c, vmax := 63 }

/-- R444: `SYS.PWR_CYCLES.CNT`. Power-cycle count kept by the event recorder, loaded during step 1 of R427 (R484). It reads 1 after the first main power-up since manufacture.. Reset in the table: 0 until loaded. -/
def SYS_PWR_CYCLES_CNT : Field :=
  { page := 0x00, off := 0x114, lo := 0, width := 32, acc := .ro, vmax := 4294967295 }

/-- R444: `SYS.SW_RESET.KEY`. Must be 0xA5; otherwise the write is refused with VALUE_REFUSED. -/
def SYS_SW_RESET_KEY : Field :=
  { page := 0x00, off := 0x118, lo := 8, width := 8, acc := .wo, own := true, vmax := 255 }

/-- R444: `SYS.SW_RESET.GO`. Start-up from step 1; TRUSTED only. -/
def SYS_SW_RESET_GO : Field :=
  { page := 0x00, off := 0x118, lo := 0, width := 1, acc := .w1s, own := true, trusted := true, vmax := 1 }

/-- R444: `SYS.ERR_SUM0–7.PAGES`. Bit n of word w: ERR_CODE.VALID of page 32w + n. -/
def SYS_ERR_SUM_PAGES (k : Nat) : Field :=
  { page := 0x00, off := 0x120 + 0x4 * k, lo := 0, width := 32, acc := .ro, vmax := 4294967295 }

/-- R444: `SYS.IRQ_SUM0–7.PAGES`. Bit n of word w: interrupt output of page 32w + n. -/
def SYS_IRQ_SUM_PAGES (k : Nat) : Field :=
  { page := 0x00, off := 0x140 + 0x4 * k, lo := 0, width := 32, acc := .ro, vmax := 4294967295 }

/-- Fields of page SYS, in table order (part). -/
def sysFields0 : List Field :=
  [SYS_TXN_BEGIN_OK,
   SYS_TXN_BEGIN_TAG,
   SYS_TXN_SEL_TAG,
   SYS_TXN_COMMIT_INTERVAL,
   SYS_TXN_COMMIT_PORT,
   SYS_TXN_COMMIT_TRIGGER,
   SYS_TXN_COMMIT_TAG,
   SYS_TXN_ABORT_TAG,
   SYS_TXN_STATUS_PAGE,
   SYS_TXN_STATUS_CAUSE,
   SYS_TXN_STATUS_LATE,
   SYS_TXN_STATUS_OWNER,
   SYS_TXN_STATUS_STATE,
   SYS_TXN_SUMMARY_STATES,
   SYS_TXN_TIMEOUT_MS,
   SYS_TXN_AT_SEC_LO_SEC,
   SYS_TXN_AT_SEC_HI_SEC,
   SYS_TXN_AT_NS_NS,
   SYS_ID_LOT_LOT,
   SYS_ID_WAFER_WAFER]

/-- Fields of page SYS, in table order (part). -/
def sysFields1 : List Field :=
  [SYS_ID_POS_Y,
   SYS_ID_POS_X,
   SYS_ID_DATE_WEEKS,
   SYS_ID_DATE_SCREEN,
   SYS_ID_DATE_SPEED,
   SYS_RESET_CAUSE_CAUSE,
   SYS_PWR_CYCLES_CNT,
   SYS_SW_RESET_KEY,
   SYS_SW_RESET_GO]

/-- Every block-specific field of page SYS. -/
def sysFields : List Field :=
  sysFields0 ++
  sysFields1 ++
  (List.range 8).map (SYS_ERR_SUM_PAGES) ++
  (List.range 8).map (SYS_IRQ_SUM_PAGES)

/-! Page CLK. -/

/-- R445: `CLK.STAT.DOM_RUN`. Bit d: domain d runs, coded as in R61. -/
def CLK_STAT_DOM_RUN : Field :=
  { page := 0x01, off := 0x014, lo := 0, width := 9, reset := 3, acc := .ro, vmax := 511 }

/-- R445: `CLK.STAT.XT25_OK`. 25 MHz crystal running. -/
def CLK_STAT_XT25_OK : Field :=
  { page := 0x01, off := 0x014, lo := 16, width := 1, acc := .ro, vmax := 1 }

/-- R445: `CLK.STAT.XT32_OK`. 32 kHz crystal running. -/
def CLK_STAT_XT32_OK : Field :=
  { page := 0x01, off := 0x014, lo := 17, width := 1, acc := .ro, vmax := 1 }

/-- R445: `CLK.STAT.REF10_OK`. CLK10M_IN present. -/
def CLK_STAT_REF10_OK : Field :=
  { page := 0x01, off := 0x014, lo := 18, width := 1, acc := .ro, vmax := 1 }

/-- R445: `CLK.IRQ_RAW.REF10_LOST`. Latched. -/
def CLK_IRQ_REF10_LOST : Field := irqRaw (0x01) (0)

/-- R445: `CLK.IRQ_RAW.REF10_BACK`. Latched. -/
def CLK_IRQ_REF10_BACK : Field := irqRaw (0x01) (1)

/-- R445: `CLK.REF_SEL.TIME_REF`. 1: DCO_TIME follows CLK10M_IN (R10). -/
def CLK_REF_SEL_TIME_REF : Field :=
  { page := 0x01, off := 0x100, lo := 0, width := 1, acc := .rw, txn := .t, vmax := 1 }

/-- R445: `CLK.PLL_LOCK.LOCK`. PLL_AON, PLL_CPU, PLL_SYS, PLL_LANE, PLL_MEM, PLL_PORT, DCO_TIME. -/
def CLK_PLL_LOCK_LOCK : Field :=
  { page := 0x01, off := 0x104, lo := 0, width := 7, acc := .ro, vmax := 127 }

/-- R445: `CLK.UNLOCK_LAST.PLL`. Generator of the last CLOCK_FAIL, bit numbering of PLL_LOCK. -/
def CLK_UNLOCK_LAST_PLL : Field :=
  { page := 0x01, off := 0x108, lo := 0, width := 3, acc := .ro, vmax := 7 }

/-- Fields of page CLK, in table order (part). -/
def clkFields0 : List Field :=
  [CLK_STAT_DOM_RUN,
   CLK_STAT_XT25_OK,
   CLK_STAT_XT32_OK,
   CLK_STAT_REF10_OK,
   CLK_REF_SEL_TIME_REF,
   CLK_PLL_LOCK_LOCK,
   CLK_UNLOCK_LAST_PLL]

/-- Every block-specific field of page CLK. -/
def clkFields : List Field :=
  clkFields0

/-! Page PWR. -/

/-- R446: `PWR.STAT.MODE`. R422. 0 at power-on, because a start-up after a main power-up leaves BACKUP.. -/
def PWR_STAT_MODE : Field :=
  { page := 0x02, off := 0x014, lo := 0, width := 3, acc := .ro, vmax := 7 }

/-- R446: `PWR.STAT.TRANSITION`. A change of mode is in progress. -/
def PWR_STAT_TRANSITION : Field :=
  { page := 0x02, off := 0x014, lo := 3, width := 1, acc := .ro, vmax := 1 }

/-- R446: `PWR.STAT.BOOT_STEP`. Step of R427; 0 outside start-up. -/
def PWR_STAT_BOOT_STEP : Field :=
  { page := 0x02, off := 0x014, lo := 4, width := 4, reset := 1, acc := .ro, vmax := 15 }

/-- R446: `PWR.STAT.VMAIN_OK`. VMAIN above its warning level. -/
def PWR_STAT_VMAIN_OK : Field :=
  { page := 0x02, off := 0x014, lo := 8, width := 1, acc := .ro, vmax := 1 }

/-- R446: `PWR.STAT.PFW`. Filtered PFW_N active. -/
def PWR_STAT_PFW : Field :=
  { page := 0x02, off := 0x014, lo := 9, width := 1, acc := .ro, vmax := 1 }

/-- R446: `PWR.STAT.LAST_GASP`. R435. -/
def PWR_STAT_LAST_GASP : Field :=
  { page := 0x02, off := 0x014, lo := 10, width := 1, acc := .ro, vmax := 1 }

/-- R446: `PWR.IRQ_RAW.MODE_CHANGE`. Latched. -/
def PWR_IRQ_MODE_CHANGE : Field := irqRaw (0x02) (0)

/-- R446: `PWR.IRQ_RAW.DEGRADED`. Latched (R434). -/
def PWR_IRQ_DEGRADED : Field := irqRaw (0x02) (1)

/-- R446: `PWR.IRQ_RAW.LANES_READY`. Latched (R431, R432). -/
def PWR_IRQ_LANES_READY : Field := irqRaw (0x02) (2)

/-- R446: `PWR.MODE_REQ.MODE`. R425. -/
def PWR_MODE_REQ_MODE : Field :=
  { page := 0x02, off := 0x100, lo := 0, width := 3, acc := .wo, own := true, vmax := 7 }

/-- R446: `PWR.BOOT_CFG.TARGET`. 1 to 4. -/
def PWR_BOOT_CFG_TARGET : Field :=
  { page := 0x02, off := 0x104, lo := 0, width := 3, reset := 4, acc := .rw, vmin := 1, vmax := 4 }

/-- R446: `PWR.DEG_CAUSE.CAUSE`. R433. -/
def PWR_DEG_CAUSE_CAUSE : Field :=
  { page := 0x02, off := 0x108, lo := 0, width := 10, acc := .ro, vmax := 1023 }

/-- R446: `PWR.DEG_MASK.MASK`. Causes that make DEGRADED. -/
def PWR_DEG_MASK_MASK : Field :=
  { page := 0x02, off := 0x10C, lo := 0, width := 10, reset := 1023, acc := .rw, txn := .t, vmax := 1023 }

/-- R446: `PWR.TEND_CFG.LANES`. 1 to 32. -/
def PWR_TEND_CFG_LANES : Field :=
  { page := 0x02, off := 0x110, lo := 0, width := 6, reset := 4, acc := .rw, txn := .t, vmin := 1, vmax := 32 }

/-- R446: `PWR.TEND_CFG.PORT_HOLD`. R430. -/
def PWR_TEND_CFG_PORT_HOLD : Field :=
  { page := 0x02, off := 0x110, lo := 8, width := 1, reset := 1, acc := .rw, txn := .t, vmax := 1 }

/-- R446: `PWR.TEND_CFG.IDLE_US`. 10 to 60,000. -/
def PWR_TEND_CFG_IDLE_US : Field :=
  { page := 0x02, off := 0x110, lo := 16, width := 16, reset := 200, acc := .rw, txn := .t, vmin := 10, vmax := 60000 }

/-- R446: `PWR.CORE_CFG.CORE_EN`. Application cores powered. -/
def PWR_CORE_CFG_CORE_EN : Field :=
  { page := 0x02, off := 0x114, lo := 0, width := 4, reset := 15, acc := .rw, txn := .t, vmax := 15 }

/-- R446: `PWR.CORE_CFG.WAKE_MASK`. Bit p: interrupt of page group p, pages 16p to 16p + 15. -/
def PWR_CORE_CFG_WAKE_MASK : Field :=
  { page := 0x02, off := 0x114, lo := 16, width := 16, reset := 65535, acc := .rw, txn := .t, vmax := 65535 }

/-- R446: `PWR.WAKE_CFG.IN0`. 0 none, 1 LISTEN, 2 TENDING, 3 FULL. -/
def PWR_WAKE_CFG_IN0 : Field :=
  { page := 0x02, off := 0x118, lo := 0, width := 2, reset := 3, acc := .rw, txn := .t, vmax := 3 }

/-- R446: `PWR.WAKE_CFG.IN1`. As IN0. -/
def PWR_WAKE_CFG_IN1 : Field :=
  { page := 0x02, off := 0x118, lo := 2, width := 2, reset := 3, acc := .rw, txn := .t, vmax := 3 }

/-- R446: `PWR.WAKE_CFG.RTC`. As IN0. -/
def PWR_WAKE_CFG_RTC : Field :=
  { page := 0x02, off := 0x118, lo := 4, width := 2, reset := 3, acc := .rw, txn := .t, vmax := 3 }

/-- R446: `PWR.LG_CFG.MAX_KIB`. 64 to 2,048. -/
def PWR_LG_CFG_MAX_KIB : Field :=
  { page := 0x02, off := 0x11C, lo := 0, width := 12, reset := 1024, acc := .rw, txn := .t, vmin := 64, vmax := 2048 }

/-- R446: `PWR.LG_CFG.RECOVER_MS`. 10 to 4,000. -/
def PWR_LG_CFG_RECOVER_MS : Field :=
  { page := 0x02, off := 0x11C, lo := 16, width := 12, reset := 100, acc := .rw, txn := .t, vmin := 10, vmax := 4000 }

/-- Fields of page PWR, in table order (part). -/
def pwrFields0 : List Field :=
  [PWR_STAT_MODE,
   PWR_STAT_TRANSITION,
   PWR_STAT_BOOT_STEP,
   PWR_STAT_VMAIN_OK,
   PWR_STAT_PFW,
   PWR_STAT_LAST_GASP,
   PWR_MODE_REQ_MODE,
   PWR_BOOT_CFG_TARGET,
   PWR_DEG_CAUSE_CAUSE,
   PWR_DEG_MASK_MASK,
   PWR_TEND_CFG_LANES,
   PWR_TEND_CFG_PORT_HOLD,
   PWR_TEND_CFG_IDLE_US,
   PWR_CORE_CFG_CORE_EN,
   PWR_CORE_CFG_WAKE_MASK,
   PWR_WAKE_CFG_IN0,
   PWR_WAKE_CFG_IN1,
   PWR_WAKE_CFG_RTC,
   PWR_LG_CFG_MAX_KIB,
   PWR_LG_CFG_RECOVER_MS]

/-- Every block-specific field of page PWR. -/
def pwrFields : List Field :=
  pwrFields0

/-! Page AON. -/

/-- R447: `AON.STAT.KETTLE_IMAGE`. 0 ROM, 1 image A, 2 image B. -/
def AON_STAT_KETTLE_IMAGE : Field :=
  { page := 0x03, off := 0x014, lo := 0, width := 2, acc := .ro, vmax := 3 }

/-- R447: `AON.STAT.LINK_UP`. P3 link up. -/
def AON_STAT_LINK_UP : Field :=
  { page := 0x03, off := 0x014, lo := 4, width := 1, acc := .ro, vmax := 1 }

/-- R447: `AON.IRQ_RAW.WAKE`. Latched (R424). -/
def AON_IRQ_WAKE : Field := irqRaw (0x03) (0)

/-- R447: `AON.IRQ_RAW.INPUT_STUCK`. Latched. -/
def AON_IRQ_INPUT_STUCK : Field := irqRaw (0x03) (1)

/-- R447: `AON.IRQ_RAW.INPUT_RELEASED`. Latched. -/
def AON_IRQ_INPUT_RELEASED : Field := irqRaw (0x03) (2)

/-- R447: `AON.IRQ_RAW.INPUT_CHATTER`. Latched. -/
def AON_IRQ_INPUT_CHATTER : Field := irqRaw (0x03) (3)

/-- R447: `AON.WAKE_SRC.SRC`. WAKE_IN0, WAKE_IN1, RTC alarm, tamper, Kettle WAKE. -/
def AON_WAKE_SRC_SRC : Field :=
  { page := 0x03, off := 0x100, lo := 0, width := 5, acc := .rc, vmax := 31 }

/-- R447: `AON.NOW_SEL.BASE`. 0 TB0, 1 TB1. -/
def AON_NOW_SEL_BASE : Field :=
  { page := 0x03, off := 0x104, lo := 0, width := 1, acc := .rw, banked := true, vmax := 1 }

/-- R447: `AON.NOW_SEC_LO.SEC`. Reading latches the base. -/
def AON_NOW_SEC_LO_SEC : Field :=
  { page := 0x03, off := 0x108, lo := 0, width := 32, acc := .ro, vmax := 4294967295 }

/-- R447: `AON.NOW_SEC_HI.SEC`. Bits 47:32. -/
def AON_NOW_SEC_HI_SEC : Field :=
  { page := 0x03, off := 0x10C, lo := 0, width := 16, acc := .ro, banked := true, vmax := 65535 }

/-- R447: `AON.NOW_NS.NS`. Multiple of 10. -/
def AON_NOW_NS_NS : Field :=
  { page := 0x03, off := 0x110, lo := 0, width := 30, acc := .ro, banked := true, vmax := 1073741823 }

/-- R447: `AON.NOW_STAMP.STAMP`. R208. -/
def AON_NOW_STAMP_STAMP : Field :=
  { page := 0x03, off := 0x114, lo := 0, width := 32, acc := .ro, banked := true, vmax := 4294967295 }

/-- R447: `AON.COND_SEL.INPUT`. R440. -/
def AON_COND_SEL_INPUT : Field :=
  { page := 0x03, off := 0x120, lo := 0, width := 3, acc := .rw, vmax := 7 }

/-- R447: `AON.COND_CFG.FILTER`. SLOW cycles, 1 to 262. -/
def AON_COND_CFG_FILTER : Field :=
  { page := 0x03, off := 0x124, lo := 0, width := 9, reset := 33, acc := .rw, vmin := 1, vmax := 262 }

/-- R447: `AON.COND_CFG.POL`. WAKE_IN only: 1 active high; reads 0 otherwise. -/
def AON_COND_CFG_POL : Field :=
  { page := 0x03, off := 0x124, lo := 9, width := 1, acc := .rw, vmax := 1 }

/-- R447: `AON.COND_CFG.STUCK_S`. 1 to 3,600. -/
def AON_COND_CFG_STUCK_S : Field :=
  { page := 0x03, off := 0x124, lo := 12, width := 12, reset := 60, acc := .rw, vmin := 1, vmax := 3600 }

/-- R447: `AON.COND_CFG.CHATTER_MAX`. 1 to 255. -/
def AON_COND_CFG_CHATTER_MAX : Field :=
  { page := 0x03, off := 0x124, lo := 24, width := 8, reset := 16, acc := .rw, vmin := 1, vmax := 255 }

/-- R447: `AON.COND_STAT.LEVEL`. Filtered level, 1 active. -/
def AON_COND_STAT_LEVEL : Field :=
  { page := 0x03, off := 0x128, lo := 0, width := 1, acc := .ro, vmax := 1 }

/-- R447: `AON.COND_STAT.STUCK_MASK`. R441. -/
def AON_COND_STAT_STUCK_MASK : Field :=
  { page := 0x03, off := 0x128, lo := 1, width := 1, acc := .ro, vmax := 1 }

/-- R447: `AON.COND_STAT.CHATTER_MASK`. R442. -/
def AON_COND_STAT_CHATTER_MASK : Field :=
  { page := 0x03, off := 0x128, lo := 2, width := 1, acc := .ro, vmax := 1 }

/-- R447: `AON.EDGE_CNT.CNT`. Saturating; writing 0 clears. -/
def AON_EDGE_CNT_CNT : Field :=
  { page := 0x03, off := 0x12C, lo := 0, width := 16, acc := .rw, vmax := 65535 }

/-- Fields of page AON, in table order (part). -/
def aonFields0 : List Field :=
  [AON_STAT_KETTLE_IMAGE,
   AON_STAT_LINK_UP,
   AON_WAKE_SRC_SRC,
   AON_NOW_SEL_BASE,
   AON_NOW_SEC_LO_SEC,
   AON_NOW_SEC_HI_SEC,
   AON_NOW_NS_NS,
   AON_NOW_STAMP_STAMP,
   AON_COND_SEL_INPUT,
   AON_COND_CFG_FILTER,
   AON_COND_CFG_POL,
   AON_COND_CFG_STUCK_S,
   AON_COND_CFG_CHATTER_MAX,
   AON_COND_STAT_LEVEL,
   AON_COND_STAT_STUCK_MASK,
   AON_COND_STAT_CHATTER_MASK,
   AON_EDGE_CNT_CNT]

/-- Every block-specific field of page AON. -/
def aonFields : List Field :=
  aonFields0

/-! Page RTC. -/

/-- R232: `RTC.STAT.TIME_VALID`. RTC_SEC has been set since OSC_STOPPED. -/
def RTC_STAT_TIME_VALID : Field :=
  { page := 0x04, off := 0x014, lo := 0, width := 1, acc := .ro, vmax := 1 }

/-- R232: `RTC.STAT.OSC_STOPPED`. R228; cleared by a setting. -/
def RTC_STAT_OSC_STOPPED : Field :=
  { page := 0x04, off := 0x014, lo := 1, width := 1, reset := 1, acc := .ro, vmax := 1 }

/-- R232: `RTC.STAT.RET_LOST`. R227. -/
def RTC_STAT_RET_LOST : Field :=
  { page := 0x04, off := 0x014, lo := 2, width := 1, reset := 1, acc := .w1c, vmax := 1 }

/-- R232: `RTC.STAT.BAT_LOW`. VBAT < 2.5 V seen. -/
def RTC_STAT_BAT_LOW : Field :=
  { page := 0x04, off := 0x014, lo := 3, width := 1, acc := .w1c, vmax := 1 }

/-- R232: `RTC.STAT.BAT_EXHAUSTED`. VBAT < 2.0 V seen. -/
def RTC_STAT_BAT_EXHAUSTED : Field :=
  { page := 0x04, off := 0x014, lo := 4, width := 1, acc := .w1c, vmax := 1 }

/-- R232: `RTC.STAT.LEAP_ACTIVE`. Inserted second running. -/
def RTC_STAT_LEAP_ACTIVE : Field :=
  { page := 0x04, off := 0x014, lo := 5, width := 1, acc := .ro, vmax := 1 }

/-- R232: `RTC.IRQ_RAW.ALARM`. Latched: alarm n fired. -/
def RTC_IRQ_ALARM (k : Nat) : Field := irqRaw (0x04) (0 + k)

/-- R232: `RTC.IRQ_RAW.ALARM_LATE`. Latched. -/
def RTC_IRQ_ALARM_LATE : Field := irqRaw (0x04) (2)

/-- R232: `RTC.IRQ_RAW.BAT`. Latched: BAT_LOW or BAT_EXHAUSTED set. -/
def RTC_IRQ_BAT : Field := irqRaw (0x04) (3)

/-- R232: `RTC.IRQ_RAW.OSC_STOP`. Latched: OSC_STOPPED set. -/
def RTC_IRQ_OSC_STOP : Field := irqRaw (0x04) (4)

/-- R232: `RTC.IRQ_RAW.LEAP_DONE`. Latched. -/
def RTC_IRQ_LEAP_DONE : Field := irqRaw (0x04) (5)

/-- R232: `RTC.RTC_SEC.SEC`. Reading latches RTC_FRAC. -/
def RTC_RTC_SEC_SEC : Field :=
  { page := 0x04, off := 0x100, lo := 0, width := 32, acc := .ro, vmax := 4294967295 }

/-- R232: `RTC.RTC_FRAC.FRAC`. 1/65,536 s. -/
def RTC_RTC_FRAC_FRAC : Field :=
  { page := 0x04, off := 0x104, lo := 0, width := 16, acc := .ro, banked := true, vmax := 65535 }

/-- R232: `RTC.SET_SEC.SEC`. Value for SET. -/
def RTC_SET_SEC_SEC : Field :=
  { page := 0x04, off := 0x108, lo := 0, width := 32, acc := .rw, vmax := 4294967295 }

/-- R232: `RTC.SET_CTRL.SET`. R225; clears itself. -/
def RTC_SET_CTRL_SET : Field :=
  { page := 0x04, off := 0x10C, lo := 31, width := 1, acc := .w1s, own := true, vmax := 1 }

/-- R232: `RTC.SET_CTRL.SYNC_TB0`. R225; clears itself. -/
def RTC_SET_CTRL_SYNC_TB0 : Field :=
  { page := 0x04, off := 0x10C, lo := 30, width := 1, acc := .w1s, own := true, vmax := 1 }

/-- R232: `RTC.LOCAL.OFFSET`. Signed, 15 min, −56 to 56. -/
def RTC_LOCAL_OFFSET : Field :=
  { page := 0x04, off := 0x110, lo := 0, width := 8, acc := .rw, txn := .t, vmax := 255 }

/-- R232: `RTC.LOCAL.DST`. 1: summer-time hour added. -/
def RTC_LOCAL_DST : Field :=
  { page := 0x04, off := 0x110, lo := 8, width := 1, acc := .rw, txn := .t, vmax := 1 }

/-- R232: `RTC.LOCAL_SEC.SEC`. Local time (R226). -/
def RTC_LOCAL_SEC_SEC : Field :=
  { page := 0x04, off := 0x114, lo := 0, width := 32, acc := .ro, vmax := 4294967295 }

/-- R232: `RTC.TRIM.TRIM`. Signed, −127 to 127. -/
def RTC_TRIM_TRIM : Field :=
  { page := 0x04, off := 0x118, lo := 0, width := 8, acc := .rw, vmax := 255 }

/-- R232: `RTC.LEAP.DAY`. UTC day number since 2000. -/
def RTC_LEAP_DAY : Field :=
  { page := 0x04, off := 0x11C, lo := 0, width := 16, acc := .rw, vmax := 65535 }

/-- R232: `RTC.LEAP.DIR`. 0 none, 1 insert, 2 delete. -/
def RTC_LEAP_DIR : Field :=
  { page := 0x04, off := 0x11C, lo := 16, width := 2, acc := .rw, vmax := 2 }

/-- R232: `RTC.ALARMn_SEC.SEC`. Alarm n, n = 0–1. -/
def RTC_ALARM_SEC_SEC (k : Nat) : Field :=
  { page := 0x04, off := 0x120 + 0x8 * k, lo := 0, width := 32, acc := .rw, vmax := 4294967295 }

/-- R232: `RTC.ALARMn_CTRL.ARM`. Armed; cleared when it fires. -/
def RTC_ALARM_CTRL_ARM (k : Nat) : Field :=
  { page := 0x04, off := 0x124 + 0x8 * k, lo := 31, width := 1, acc := .rw, own := true, vmax := 1 }

/-- R232: `RTC.ALARMn_CTRL.FIRED`. Fired since last armed. -/
def RTC_ALARM_CTRL_FIRED (k : Nat) : Field :=
  { page := 0x04, off := 0x124 + 0x8 * k, lo := 30, width := 1, acc := .ro, vmax := 1 }

/-- R232: `RTC.ALARMn_CTRL.LATE`. Fired with LATE. -/
def RTC_ALARM_CTRL_LATE (k : Nat) : Field :=
  { page := 0x04, off := 0x124 + 0x8 * k, lo := 29, width := 1, acc := .ro, vmax := 1 }

/-- R232: `RTC.ALARMn_CTRL.WAKE`. Wake source (R223). -/
def RTC_ALARM_CTRL_WAKE (k : Nat) : Field :=
  { page := 0x04, off := 0x124 + 0x8 * k, lo := 1, width := 1, acc := .rw, vmax := 1 }

/-- R232: `RTC.ALARMn_CTRL.LOCAL`. 1: compare with local time. -/
def RTC_ALARM_CTRL_LOCAL (k : Nat) : Field :=
  { page := 0x04, off := 0x124 + 0x8 * k, lo := 0, width := 1, acc := .rw, vmax := 1 }

/-- R232: `RTC.BAT_MV.MV`. VBAT in mV. -/
def RTC_BAT_MV_MV : Field :=
  { page := 0x04, off := 0x130, lo := 0, width := 13, acc := .ro, vmax := 8191 }

/-- R232: `RTC.CHG.KEY`. Must be 0xC4 for the write to act. -/
def RTC_CHG_KEY : Field :=
  { page := 0x04, off := 0x134, lo := 8, width := 8, acc := .wo, own := true, vmax := 255 }

/-- R232: `RTC.CHG.VLIM`. 0 2.7 V, 1 3.0 V, 2 3.3 V. -/
def RTC_CHG_VLIM : Field :=
  { page := 0x04, off := 0x134, lo := 4, width := 2, acc := .rw, own := true, vmax := 3 }

/-- R232: `RTC.CHG.ILIM`. 0 25 µA, 1 100 µA, 2 400 µA. -/
def RTC_CHG_ILIM : Field :=
  { page := 0x04, off := 0x134, lo := 1, width := 2, acc := .rw, own := true, vmax := 3 }

/-- R232: `RTC.CHG.EN`. Charger on. -/
def RTC_CHG_EN : Field :=
  { page := 0x04, off := 0x134, lo := 0, width := 1, acc := .rw, own := true, vmax := 1 }

/-- Fields of page RTC, in table order (part). -/
def rtcFields0 : List Field :=
  [RTC_STAT_TIME_VALID,
   RTC_STAT_OSC_STOPPED,
   RTC_STAT_RET_LOST,
   RTC_STAT_BAT_LOW,
   RTC_STAT_BAT_EXHAUSTED,
   RTC_STAT_LEAP_ACTIVE,
   RTC_RTC_SEC_SEC,
   RTC_RTC_FRAC_FRAC,
   RTC_SET_SEC_SEC,
   RTC_SET_CTRL_SET,
   RTC_SET_CTRL_SYNC_TB0,
   RTC_LOCAL_OFFSET,
   RTC_LOCAL_DST,
   RTC_LOCAL_SEC_SEC,
   RTC_TRIM_TRIM,
   RTC_LEAP_DAY,
   RTC_LEAP_DIR,
   RTC_BAT_MV_MV,
   RTC_CHG_KEY,
   RTC_CHG_VLIM]

/-- Fields of page RTC, in table order (part). -/
def rtcFields1 : List Field :=
  [RTC_CHG_ILIM,
   RTC_CHG_EN]

/-- Every block-specific field of page RTC. -/
def rtcFields : List Field :=
  rtcFields0 ++
  rtcFields1 ++
  (List.range 2).map (RTC_ALARM_SEC_SEC) ++
  (List.range 2).map (RTC_ALARM_CTRL_ARM) ++
  (List.range 2).map (RTC_ALARM_CTRL_FIRED) ++
  (List.range 2).map (RTC_ALARM_CTRL_LATE) ++
  (List.range 2).map (RTC_ALARM_CTRL_WAKE) ++
  (List.range 2).map (RTC_ALARM_CTRL_LOCAL)

/-! Page TIME. -/

/-- R230: `TIME.CTRL.TB0_SRC`. 0 FREE, 1 PTP, 2 PPS; 3 is refused with VALUE_REFUSED. -/
def TIME_CTRL_TB0_SRC : Field :=
  { page := 0x05, off := 0x010, lo := 0, width := 2, acc := .rw, txn := .t, vmin := 0, vmax := 2 }

/-- R230: `TIME.CTRL.STATE_SET`. Writes TB0_STATE: 1 ACQUIRING, 2 LOCKED; 0 and 3 are ignored. -/
def TIME_CTRL_STATE_SET : Field :=
  { page := 0x05, off := 0x010, lo := 4, width := 2, acc := .wo, own := true, vmax := 3 }

/-- R230: `TIME.STAT.TB0_STATE`. 0 FREE, 1 ACQUIRING, 2 LOCKED, 3 HOLDOVER. -/
def TIME_STAT_TB0_STATE : Field :=
  { page := 0x05, off := 0x014, lo := 0, width := 2, acc := .ro, vmax := 3 }

/-- R230: `TIME.STAT.TB0_TRUSTED`. R213. -/
def TIME_STAT_TB0_TRUSTED : Field :=
  { page := 0x05, off := 0x014, lo := 2, width := 1, acc := .ro, vmax := 1 }

/-- R230: `TIME.STAT.TB3_SLEWING`. R219. -/
def TIME_STAT_TB3_SLEWING : Field :=
  { page := 0x05, off := 0x014, lo := 3, width := 1, acc := .ro, vmax := 1 }

/-- R230: `TIME.STAT.TB4_SYNTH`. TB4 is synthetic. -/
def TIME_STAT_TB4_SYNTH : Field :=
  { page := 0x05, off := 0x014, lo := 4, width := 1, reset := 1, acc := .ro, vmax := 1 }

/-- R230: `TIME.STAT.LEAP_ACTIVE`. An inserted leap second is running. -/
def TIME_STAT_LEAP_ACTIVE : Field :=
  { page := 0x05, off := 0x014, lo := 5, width := 1, acc := .ro, vmax := 1 }

/-- R230: `TIME.IRQ_RAW.ALARM`. Latched: alarm n fired. -/
def TIME_IRQ_ALARM (k : Nat) : Field := irqRaw (0x05) (0 + k)

/-- R230: `TIME.IRQ_RAW.ALARM_LATE`. Latched: an alarm fired with LATE. -/
def TIME_IRQ_ALARM_LATE : Field := irqRaw (0x05) (4)

/-- R230: `TIME.IRQ_RAW.STEPPED`. Latched: TB0 was stepped. -/
def TIME_IRQ_STEPPED : Field := irqRaw (0x05) (5)

/-- R230: `TIME.IRQ_RAW.STATE_CHANGE`. Latched: TB0_STATE changed. -/
def TIME_IRQ_STATE_CHANGE : Field := irqRaw (0x05) (6)

/-- R230: `TIME.IRQ_RAW.PPS_IN`. Latched: a PPS_IN edge was captured. -/
def TIME_IRQ_PPS_IN : Field := irqRaw (0x05) (7)

/-- R230: `TIME.IRQ_RAW.LEAP_DONE`. Latched: a leap was applied. -/
def TIME_IRQ_LEAP_DONE : Field := irqRaw (0x05) (8)

/-- R230: `TIME.NOW_SEL.BASE`. 0 TB0, 1 TB1, 3 TB3; 2 is refused with VALUE_REFUSED, since TB2 is read on the RTC page (R224). -/
def TIME_NOW_SEL_BASE : Field :=
  { page := 0x05, off := 0x100, lo := 0, width := 2, acc := .rw, banked := true, vmax := 3 }

/-- R230: `TIME.NOW_SEC_LO.SEC`. Reading latches the base (R210). -/
def TIME_NOW_SEC_LO_SEC : Field :=
  { page := 0x05, off := 0x104, lo := 0, width := 32, acc := .ro, vmax := 4294967295 }

/-- R230: `TIME.NOW_SEC_HI.SEC`. Bits 47:32. -/
def TIME_NOW_SEC_HI_SEC : Field :=
  { page := 0x05, off := 0x108, lo := 0, width := 16, acc := .ro, banked := true, vmax := 65535 }

/-- R230: `TIME.NOW_NS.NS`. Nanoseconds. -/
def TIME_NOW_NS_NS : Field :=
  { page := 0x05, off := 0x10C, lo := 0, width := 30, acc := .ro, banked := true, vmax := 1073741823 }

/-- R230: `TIME.NOW_FRAC.FRAC`. 2^−16 ns. -/
def TIME_NOW_FRAC_FRAC : Field :=
  { page := 0x05, off := 0x110, lo := 0, width := 16, acc := .ro, banked := true, vmax := 65535 }

/-- R230: `TIME.NOW_STAMP.STAMP`. 32-bit stamp of the latched time (R208). -/
def TIME_NOW_STAMP_STAMP : Field :=
  { page := 0x05, off := 0x114, lo := 0, width := 32, acc := .ro, banked := true, vmax := 4294967295 }

/-- R230: `TIME.UTC_OFFSET.SEC`. TAI − UTC in s, signed. -/
def TIME_UTC_OFFSET_SEC : Field :=
  { page := 0x05, off := 0x118, lo := 0, width := 16, reset := 37, acc := .rw, txn := .t, vmax := 65535 }

/-- R230: `TIME.FREQ_ADJ.ADJ`. Signed, 1/256 ppb, ±128,000,000. -/
def TIME_FREQ_ADJ_ADJ : Field :=
  { page := 0x05, off := 0x11C, lo := 0, width := 32, acc := .rw, vmax := 4294967295 }

/-- R230: `TIME.HOLDOVER.MS`. 100 to 60,000. -/
def TIME_HOLDOVER_MS : Field :=
  { page := 0x05, off := 0x120, lo := 0, width := 16, reset := 3000, acc := .rw, vmin := 100, vmax := 60000 }

/-- R230: `TIME.STEP_SEC.SEC`. Signed. -/
def TIME_STEP_SEC_SEC : Field :=
  { page := 0x05, off := 0x124, lo := 0, width := 32, acc := .rw, vmax := 4294967295 }

/-- R230: `TIME.STEP_NS.NS`. Signed, ±999,999,999. -/
def TIME_STEP_NS_NS : Field :=
  { page := 0x05, off := 0x128, lo := 0, width := 32, acc := .rw, vmax := 4294967295 }

/-- R230: `TIME.STEP.GO`. Apply the step (R212); clears itself. -/
def TIME_STEP_GO : Field :=
  { page := 0x05, off := 0x12C, lo := 0, width := 1, acc := .w1s, own := true, vmax := 1 }

/-- R230: `TIME.PPS_CAP_SEC.SEC`. Bits 31:0 of the capture. -/
def TIME_PPS_CAP_SEC_SEC : Field :=
  { page := 0x05, off := 0x130, lo := 0, width := 32, acc := .ro, vmax := 4294967295 }

/-- R230: `TIME.PPS_CAP_NS.NS`. Nanoseconds. -/
def TIME_PPS_CAP_NS_NS : Field :=
  { page := 0x05, off := 0x134, lo := 0, width := 30, acc := .ro, vmax := 1073741823 }

/-- R230: `TIME.PPS_CAP_FRAC.FRAC`. 2^−16 ns. -/
def TIME_PPS_CAP_FRAC_FRAC : Field :=
  { page := 0x05, off := 0x138, lo := 0, width := 16, acc := .ro, vmax := 65535 }

/-- R230: `TIME.PPS_OUT_CFG.EN`. Drive PPS_OUT. -/
def TIME_PPS_OUT_CFG_EN : Field :=
  { page := 0x05, off := 0x13C, lo := 31, width := 1, acc := .rw, txn := .t, vmax := 1 }

/-- R230: `TIME.PPS_OUT_CFG.HOLD`. Pulse only while LOCKED. -/
def TIME_PPS_OUT_CFG_HOLD : Field :=
  { page := 0x05, off := 0x13C, lo := 30, width := 1, reset := 1, acc := .rw, txn := .t, vmax := 1 }

/-- R230: `TIME.PPS_OUT_CFG.WIDTH_US`. 1 to 500,000. -/
def TIME_PPS_OUT_CFG_WIDTH_US : Field :=
  { page := 0x05, off := 0x13C, lo := 0, width := 19, reset := 100000, acc := .rw, txn := .t, vmin := 1, vmax := 500000 }

/-- R230: `TIME.ALARMn_SEC_LO.SEC`. Alarm n, n = 0–3, seconds bits 31:0. -/
def TIME_ALARM_SEC_LO_SEC (k : Nat) : Field :=
  { page := 0x05, off := 0x140 + 0x10 * k, lo := 0, width := 32, acc := .rw, vmax := 4294967295 }

/-- R230: `TIME.ALARMn_CTRL.ARM`. Armed; cleared when it fires. -/
def TIME_ALARM_CTRL_ARM (k : Nat) : Field :=
  { page := 0x05, off := 0x144 + 0x10 * k, lo := 31, width := 1, acc := .rw, own := true, vmax := 1 }

/-- R230: `TIME.ALARMn_CTRL.FIRED`. Fired since last armed. -/
def TIME_ALARM_CTRL_FIRED (k : Nat) : Field :=
  { page := 0x05, off := 0x144 + 0x10 * k, lo := 30, width := 1, acc := .ro, vmax := 1 }

/-- R230: `TIME.ALARMn_CTRL.LATE`. Fired with LATE. -/
def TIME_ALARM_CTRL_LATE (k : Nat) : Field :=
  { page := 0x05, off := 0x144 + 0x10 * k, lo := 29, width := 1, acc := .ro, vmax := 1 }

/-- R230: `TIME.ALARMn_CTRL.SEC_HI`. Seconds bits 47:32. -/
def TIME_ALARM_CTRL_SEC_HI (k : Nat) : Field :=
  { page := 0x05, off := 0x144 + 0x10 * k, lo := 0, width := 16, acc := .rw, vmax := 65535 }

/-- R230: `TIME.ALARMn_NS.NS`. Nanoseconds. -/
def TIME_ALARM_NS_NS (k : Nat) : Field :=
  { page := 0x05, off := 0x148 + 0x10 * k, lo := 0, width := 30, acc := .rw, vmax := 1073741823 }

/-- R230: `TIME.ALARMn_PERIOD.MS`. 0 one-shot; 1 to 86,400,000. -/
def TIME_ALARM_PERIOD_MS (k : Nat) : Field :=
  { page := 0x05, off := 0x14C + 0x10 * k, lo := 0, width := 27, acc := .rw, vmin := 0, vmax := 86400000 }

/-- R230: `TIME.TB3_DIFF.NS`. TB3 − TB0, signed, saturating. -/
def TIME_TB3_DIFF_NS : Field :=
  { page := 0x05, off := 0x180, lo := 0, width := 32, acc := .ro, vmax := 4294967295 }

/-- R230: `TIME.TB3_CFG.LOAD`. R219; clears itself. -/
def TIME_TB3_CFG_LOAD : Field :=
  { page := 0x05, off := 0x184, lo := 31, width := 1, acc := .w1s, own := true, vmax := 1 }

/-- R230: `TIME.TB4_CNT.CYCLES`. Cycle count. -/
def TIME_TB4_CNT_CYCLES : Field :=
  { page := 0x05, off := 0x188, lo := 0, width := 32, acc := .ro, vmax := 4294967295 }

/-- R230: `TIME.TB4_PHASE.PHASE`. 1/65,536 cycle. -/
def TIME_TB4_PHASE_PHASE : Field :=
  { page := 0x05, off := 0x18C, lo := 0, width := 16, acc := .ro, vmax := 65535 }

/-- R230: `TIME.TB4_PERIOD.NS`. Period in use. -/
def TIME_TB4_PERIOD_NS : Field :=
  { page := 0x05, off := 0x190, lo := 0, width := 28, reset := 20000000, acc := .ro, vmax := 268435455 }

/-- R230: `TIME.TB4_NOM.MHZ`. mHz, 40,000 to 70,000. -/
def TIME_TB4_NOM_MHZ : Field :=
  { page := 0x05, off := 0x194, lo := 0, width := 17, reset := 50000, acc := .rw, txn := .t, vmin := 40000, vmax := 70000 }

/-- R230: `TIME.PPS_REJECT_CNT.CNT`. PPS_IN edges ignored. -/
def TIME_PPS_REJECT_CNT_CNT : Field :=
  { page := 0x05, off := 0x198, lo := 0, width := 32, acc := .rw, vmax := 4294967295 }

/-- Fields of page TIME, in table order (part). -/
def timeFields0 : List Field :=
  [TIME_CTRL_TB0_SRC,
   TIME_CTRL_STATE_SET,
   TIME_STAT_TB0_STATE,
   TIME_STAT_TB0_TRUSTED,
   TIME_STAT_TB3_SLEWING,
   TIME_STAT_TB4_SYNTH,
   TIME_STAT_LEAP_ACTIVE,
   TIME_NOW_SEL_BASE,
   TIME_NOW_SEC_LO_SEC,
   TIME_NOW_SEC_HI_SEC,
   TIME_NOW_NS_NS,
   TIME_NOW_FRAC_FRAC,
   TIME_NOW_STAMP_STAMP,
   TIME_UTC_OFFSET_SEC,
   TIME_FREQ_ADJ_ADJ,
   TIME_HOLDOVER_MS,
   TIME_STEP_SEC_SEC,
   TIME_STEP_NS_NS,
   TIME_STEP_GO,
   TIME_PPS_CAP_SEC_SEC]

/-- Fields of page TIME, in table order (part). -/
def timeFields1 : List Field :=
  [TIME_PPS_CAP_NS_NS,
   TIME_PPS_CAP_FRAC_FRAC,
   TIME_PPS_OUT_CFG_EN,
   TIME_PPS_OUT_CFG_HOLD,
   TIME_PPS_OUT_CFG_WIDTH_US,
   TIME_TB3_DIFF_NS,
   TIME_TB3_CFG_LOAD,
   TIME_TB4_CNT_CYCLES,
   TIME_TB4_PHASE_PHASE,
   TIME_TB4_PERIOD_NS,
   TIME_TB4_NOM_MHZ,
   TIME_PPS_REJECT_CNT_CNT]

/-- Every block-specific field of page TIME. -/
def timeFields : List Field :=
  timeFields0 ++
  timeFields1 ++
  (List.range 4).map (TIME_ALARM_SEC_LO_SEC) ++
  (List.range 4).map (TIME_ALARM_CTRL_ARM) ++
  (List.range 4).map (TIME_ALARM_CTRL_FIRED) ++
  (List.range 4).map (TIME_ALARM_CTRL_LATE) ++
  (List.range 4).map (TIME_ALARM_CTRL_SEC_HI) ++
  (List.range 4).map (TIME_ALARM_NS_NS) ++
  (List.range 4).map (TIME_ALARM_PERIOD_MS)

/-! Page EVR. -/

/-- R493: `EVR.CTRL.CLEAR`. R489; clears itself. -/
def EVR_CTRL_CLEAR : Field :=
  { page := 0x06, off := 0x010, lo := 1, width := 1, acc := .w1s, own := true, vmax := 1 }

/-- R493: `EVR.CTRL.NOR_RETRY`. R491; clears itself. -/
def EVR_CTRL_NOR_RETRY : Field :=
  { page := 0x06, off := 0x010, lo := 2, width := 1, acc := .w1s, own := true, vmax := 1 }

/-- R493: `EVR.STAT.LOG_MEDIA_FAIL`. R490. -/
def EVR_STAT_LOG_MEDIA_FAIL : Field :=
  { page := 0x06, off := 0x014, lo := 0, width := 1, acc := .ro, vmax := 1 }

/-- R493: `EVR.STAT.FALLBACK`. Records go to EVFB. -/
def EVR_STAT_FALLBACK : Field :=
  { page := 0x06, off := 0x014, lo := 1, width := 1, acc := .ro, vmax := 1 }

/-- R493: `EVR.STAT.PERM_FULL`. Permanent area full. -/
def EVR_STAT_PERM_FULL : Field :=
  { page := 0x06, off := 0x014, lo := 2, width := 1, acc := .ro, vmax := 1 }

/-- R493: `EVR.STAT.CLEARING`. R489. -/
def EVR_STAT_CLEARING : Field :=
  { page := 0x06, off := 0x014, lo := 3, width := 1, acc := .ro, vmax := 1 }

/-- R493: `EVR.STAT.STAGED`. Records in staging, 0 to 64. -/
def EVR_STAT_STAGED : Field :=
  { page := 0x06, off := 0x014, lo := 8, width := 7, acc := .ro, vmax := 127 }

/-- R493: `EVR.IRQ_RAW.MEDIA_FAIL`. Latched. -/
def EVR_IRQ_MEDIA_FAIL : Field := irqRaw (0x06) (0)

/-- R493: `EVR.IRQ_RAW.CLEARED`. Latched. -/
def EVR_IRQ_CLEARED : Field := irqRaw (0x06) (1)

/-- R493: `EVR.IRQ_RAW.LOST`. Latched (R485, R487). -/
def EVR_IRQ_LOST : Field := irqRaw (0x06) (2)

/-- R493: `EVR.IRQ_RAW.PERM_FULL`. Latched. -/
def EVR_IRQ_PERM_FULL : Field := irqRaw (0x06) (3)

/-- R493: `EVR.IRQ_RAW.RESTORED`. Latched (R491). -/
def EVR_IRQ_RESTORED : Field := irqRaw (0x06) (4)

/-- R493: `EVR.RSEQ_NEXT.RSEQ`. Next RSEQ. -/
def EVR_RSEQ_NEXT_RSEQ : Field :=
  { page := 0x06, off := 0x100, lo := 0, width := 32, acc := .ro, vmax := 4294967295 }

/-- R493: `EVR.CLEAR_MARK.RSEQ`. R489. -/
def EVR_CLEAR_MARK_RSEQ : Field :=
  { page := 0x06, off := 0x104, lo := 0, width := 32, acc := .ro, vmax := 4294967295 }

/-- R493: `EVR.OPTIME_LO.SEC`. Bits 31:0. -/
def EVR_OPTIME_LO_SEC : Field :=
  { page := 0x06, off := 0x108, lo := 0, width := 32, acc := .ro, vmax := 4294967295 }

/-- R493: `EVR.OPTIME_HI.SEC`. Bits 39:32. -/
def EVR_OPTIME_HI_SEC : Field :=
  { page := 0x06, off := 0x10C, lo := 0, width := 8, acc := .ro, vmax := 255 }

/-- R493: `EVR.OPTIME_HM.HOURS`. Hours, saturating. -/
def EVR_OPTIME_HM_HOURS : Field :=
  { page := 0x06, off := 0x110, lo := 12, width := 20, acc := .ro, vmax := 1048575 }

/-- R493: `EVR.OPTIME_HM.SEC`. Seconds within the hour. -/
def EVR_OPTIME_HM_SEC : Field :=
  { page := 0x06, off := 0x110, lo := 0, width := 12, acc := .ro, vmax := 4095 }

/-- R493: `EVR.RD_RSEQ.RSEQ`. R488. -/
def EVR_RD_RSEQ_RSEQ : Field :=
  { page := 0x06, off := 0x114, lo := 0, width := 32, acc := .rw, banked := true, vmax := 4294967295 }

/-- R493: `EVR.RD_CTRL.GO`. Clears itself when done. -/
def EVR_RD_CTRL_GO : Field :=
  { page := 0x06, off := 0x118, lo := 31, width := 1, acc := .w1s, own := true, banked := true, vmax := 1 }

/-- R493: `EVR.RD_CTRL.STATUS`. R488. -/
def EVR_RD_CTRL_STATUS : Field :=
  { page := 0x06, off := 0x118, lo := 0, width := 3, acc := .ro, banked := true, vmax := 7 }

/-- R493: `EVR.SNAP_SEL.CLASS`. TRUSTED writes only. -/
def EVR_SNAP_SEL_CLASS : Field :=
  { page := 0x06, off := 0x11C, lo := 8, width := 5, acc := .rw, trusted := true, vmax := 31 }

/-- R493: `EVR.SNAP_SEL.ENTRY`. . -/
def EVR_SNAP_SEL_ENTRY : Field :=
  { page := 0x06, off := 0x11C, lo := 0, width := 4, acc := .rw, vmax := 15 }

/-- R493: `EVR.SNAP_ADDR.VALID`. R486. -/
def EVR_SNAP_ADDR_VALID : Field :=
  { page := 0x06, off := 0x120, lo := 31, width := 1, acc := .rw, vmax := 1 }

/-- R493: `EVR.SNAP_ADDR.PAGE`. . -/
def EVR_SNAP_ADDR_PAGE : Field :=
  { page := 0x06, off := 0x120, lo := 16, width := 8, acc := .rw, vmax := 255 }

/-- R493: `EVR.SNAP_ADDR.WORD`. Word offset. -/
def EVR_SNAP_ADDR_WORD : Field :=
  { page := 0x06, off := 0x120, lo := 2, width := 10, acc := .rw, vmax := 1023 }

/-- R493: `EVR.RATE.PER_MIN`. 1 to 6,000. -/
def EVR_RATE_PER_MIN : Field :=
  { page := 0x06, off := 0x124, lo := 0, width := 16, reset := 60, acc := .rw, txn := .t, vmin := 1, vmax := 6000 }

/-- R493: `EVR.RATE.BURST`. 1 to 1,023. -/
def EVR_RATE_BURST : Field :=
  { page := 0x06, off := 0x124, lo := 16, width := 10, reset := 256, acc := .rw, txn := .t, vmin := 1, vmax := 1023 }

/-- R493: `EVR.LOST_CNT.CNT`. R485, R487. -/
def EVR_LOST_CNT_CNT : Field :=
  { page := 0x06, off := 0x128, lo := 0, width := 32, acc := .rw, vmax := 4294967295 }

/-- R493: `EVR.SW_CODE.GO`. Record; clears itself. -/
def EVR_SW_CODE_GO : Field :=
  { page := 0x06, off := 0x12C, lo := 31, width := 1, acc := .w1s, own := true, vmax := 1 }

/-- R493: `EVR.SW_CODE.CODE`. Class 16–31 in bits 15:8. -/
def EVR_SW_CODE_CODE : Field :=
  { page := 0x06, off := 0x12C, lo := 0, width := 16, acc := .rw, vmax := 65535 }

/-- R493: `EVR.SW_DATA0–3.DATA`. DATA bytes 0–15. -/
def EVR_SW_DATA_DATA (k : Nat) : Field :=
  { page := 0x06, off := 0x130 + 0x4 * k, lo := 0, width := 32, acc := .rw, vmax := 4294967295 }

/-- R493: `EVR.ALARM_IP.ADDR`. IPv4. -/
def EVR_ALARM_IP_ADDR : Field :=
  { page := 0x06, off := 0x140, lo := 0, width := 32, acc := .rw, txn := .t, vmax := 4294967295 }

/-- R493: `EVR.ALARM_PORT.EN`. Send ALARM. -/
def EVR_ALARM_PORT_EN : Field :=
  { page := 0x06, off := 0x144, lo := 31, width := 1, acc := .rw, txn := .t, vmax := 1 }

/-- R493: `EVR.ALARM_PORT.PORT`. UDP port. -/
def EVR_ALARM_PORT_PORT : Field :=
  { page := 0x06, off := 0x144, lo := 0, width := 16, acc := .rw, txn := .t, vmax := 65535 }

/-- R493: `EVR.FAIL_INFO.ADDR`. NOR address. -/
def EVR_FAIL_INFO_ADDR : Field :=
  { page := 0x06, off := 0x148, lo := 8, width := 24, acc := .ro, vmax := 16777215 }

/-- R493: `EVR.FAIL_INFO.CAUSE`. 1 PROGRAM, 2 READBACK, 3 COMPARE, 4 ERASE, 5 NO_ANSWER. -/
def EVR_FAIL_INFO_CAUSE : Field :=
  { page := 0x06, off := 0x148, lo := 0, width := 4, acc := .ro, vmax := 15 }

/-- R493: `EVR.NOR_ID.JEDEC`. Manufacturer and device ID. -/
def EVR_NOR_ID_JEDEC : Field :=
  { page := 0x06, off := 0x14C, lo := 0, width := 24, acc := .ro, vmax := 16777215 }

/-- R493: `EVR.RD_DATA0–31.DATA`. Record bytes, first in bits 7:0 of RD_DATA0. -/
def EVR_RD_DATA_DATA (k : Nat) : Field :=
  { page := 0x06, off := 0x180 + 0x4 * k, lo := 0, width := 32, acc := .ro, banked := true, vmax := 4294967295 }

/-- Fields of page EVR, in table order (part). -/
def evrFields0 : List Field :=
  [EVR_CTRL_CLEAR,
   EVR_CTRL_NOR_RETRY,
   EVR_STAT_LOG_MEDIA_FAIL,
   EVR_STAT_FALLBACK,
   EVR_STAT_PERM_FULL,
   EVR_STAT_CLEARING,
   EVR_STAT_STAGED,
   EVR_RSEQ_NEXT_RSEQ,
   EVR_CLEAR_MARK_RSEQ,
   EVR_OPTIME_LO_SEC,
   EVR_OPTIME_HI_SEC,
   EVR_OPTIME_HM_HOURS,
   EVR_OPTIME_HM_SEC,
   EVR_RD_RSEQ_RSEQ,
   EVR_RD_CTRL_GO,
   EVR_RD_CTRL_STATUS,
   EVR_SNAP_SEL_CLASS,
   EVR_SNAP_SEL_ENTRY,
   EVR_SNAP_ADDR_VALID,
   EVR_SNAP_ADDR_PAGE]

/-- Fields of page EVR, in table order (part). -/
def evrFields1 : List Field :=
  [EVR_SNAP_ADDR_WORD,
   EVR_RATE_PER_MIN,
   EVR_RATE_BURST,
   EVR_LOST_CNT_CNT,
   EVR_SW_CODE_GO,
   EVR_SW_CODE_CODE,
   EVR_ALARM_IP_ADDR,
   EVR_ALARM_PORT_EN,
   EVR_ALARM_PORT_PORT,
   EVR_FAIL_INFO_ADDR,
   EVR_FAIL_INFO_CAUSE,
   EVR_NOR_ID_JEDEC]

/-- Every block-specific field of page EVR. -/
def evrFields : List Field :=
  evrFields0 ++
  evrFields1 ++
  (List.range 4).map (EVR_SW_DATA_DATA) ++
  (List.range 32).map (EVR_RD_DATA_DATA)

end Sys2Proof.Machine.Reg
end

