-- ==== Sys2Proof/Machine/RegB.lean ====
section
/-! DEFINITION. The register fields of the pages LCS, KEY, CIPH, PKE, TRNG, TAMP, UPD, one constant per field, as the register tables of spec/ give them. -/

namespace Sys2Proof.Machine.Reg

/-! Page LCS. -/

/-- R461: `LCS.STAT.LC`. 0 MANUFACTURE, 1 PROVISIONED, 2 FIELD, 3 RETIRED (R448). Reset in the table: Fuse. -/
def LCS_STAT_LC : Field :=
  { page := 0x07, off := 0x014, lo := 0, width := 2, acc := .ro, vmax := 3 }

/-- R461: `LCS.STAT.DBG_STATE`. 0 OPEN, 1 GATED, 2 KILLED (R452). Reset in the table: Fuse. -/
def LCS_STAT_DBG_STATE : Field :=
  { page := 0x07, off := 0x014, lo := 2, width := 2, acc := .ro, vmax := 3 }

/-- R461: `LCS.STAT.DBG_OPEN`. Debug access open (R453). -/
def LCS_STAT_DBG_OPEN : Field :=
  { page := 0x07, off := 0x014, lo := 4, width := 1, reset := 1, acc := .ro, vmax := 1 }

/-- R461: `LCS.STAT.DBG_CTX`. DBG of R384; cleared by power-on reset only (R456). -/
def LCS_STAT_DBG_CTX : Field :=
  { page := 0x07, off := 0x014, lo := 5, width := 1, reset := 1, acc := .ro, vmax := 1 }

/-- R461: `LCS.STAT.ENROLLED`. R450. Reset in the table: Fuse. -/
def LCS_STAT_ENROLLED : Field :=
  { page := 0x07, off := 0x014, lo := 6, width := 1, acc := .ro, vmax := 1 }

/-- R461: `LCS.STAT.LC_PENDING`. A lifecycle fuse awaits the next start-up. -/
def LCS_STAT_LC_PENDING : Field :=
  { page := 0x07, off := 0x014, lo := 7, width := 1, acc := .ro, vmax := 1 }

/-- R461: `LCS.STAT.LC_NEXT`. Lifecycle after that start-up. -/
def LCS_STAT_LC_NEXT : Field :=
  { page := 0x07, off := 0x014, lo := 8, width := 2, acc := .ro, vmax := 3 }

/-- R461: `LCS.STAT.CHAL_VALID`. A challenge is unspent and has not lapsed. -/
def LCS_STAT_CHAL_VALID : Field :=
  { page := 0x07, off := 0x014, lo := 10, width := 1, acc := .ro, vmax := 1 }

/-- R461: `LCS.STAT.DBG_LOCKOUT`. R457. -/
def LCS_STAT_DBG_LOCKOUT : Field :=
  { page := 0x07, off := 0x014, lo := 11, width := 1, acc := .ro, vmax := 1 }

/-- R461: `LCS.IRQ_RAW.DBG_OPENED`. Latched (R454). -/
def LCS_IRQ_DBG_OPENED : Field := irqRaw (0x07) (0)

/-- R461: `LCS.IRQ_RAW.DBG_CLOSED`. Latched (R456). -/
def LCS_IRQ_DBG_CLOSED : Field := irqRaw (0x07) (1)

/-- R461: `LCS.IRQ_RAW.CMD_FAIL`. Latched (R451). -/
def LCS_IRQ_CMD_FAIL : Field := irqRaw (0x07) (2)

/-- R461: `LCS.IRQ_RAW.LC_PENDING`. Latched when STAT.LC_PENDING becomes 1. -/
def LCS_IRQ_LC_PENDING : Field := irqRaw (0x07) (3)

/-- R461: `LCS.CMD.GO`. Execute; clears itself. -/
def LCS_CMD_GO : Field :=
  { page := 0x07, off := 0x100, lo := 31, width := 1, acc := .w1s, own := true, vmax := 1 }

/-- R461: `LCS.CMD.OP`. 1 DEBUG_OPEN, 2 DEPLOY, 3 RETIRE, 4 KILL_DEBUG, 5 PROVISION, 6 DEBUG_CLOSE. -/
def LCS_CMD_OP : Field :=
  { page := 0x07, off := 0x100, lo := 0, width := 3, acc := .rw, vmax := 7 }

/-- R461: `LCS.CMD_STAT.BUSY`. A command runs. -/
def LCS_CMD_STAT_BUSY : Field :=
  { page := 0x07, off := 0x104, lo := 31, width := 1, acc := .ro, vmax := 1 }

/-- R461: `LCS.CMD_STAT.STATUS`. 0 OK or an LCS code. -/
def LCS_CMD_STAT_STATUS : Field :=
  { page := 0x07, off := 0x104, lo := 0, width := 16, acc := .ro, vmax := 65535 }

/-- R461: `LCS.CHAL_REQ.GO`. Issue a challenge (R451); clears itself. -/
def LCS_CHAL_REQ_GO : Field :=
  { page := 0x07, off := 0x108, lo := 0, width := 1, acc := .w1s, own := true, vmax := 1 }

/-- R461: `LCS.CHAL0–7.DATA`. Challenge, first byte in bits 7:0 of CHAL0. -/
def LCS_CHAL_DATA (k : Nat) : Field :=
  { page := 0x07, off := 0x110 + 0x4 * k, lo := 0, width := 32, acc := .ro, vmax := 4294967295 }

/-- R461: `LCS.CNT.CNT`. Challenge count, kept in OTP-backed storage. Reset in the table: OTP. -/
def LCS_CNT_CNT : Field :=
  { page := 0x07, off := 0x130, lo := 0, width := 32, acc := .ro, vmax := 4294967295 }

/-- R461: `LCS.SIG0–28.DATA`. Signature, 114 bytes, first byte in bits 7:0 of SIG0. -/
def LCS_SIG_DATA (k : Nat) : Field :=
  { page := 0x07, off := 0x140 + 0x4 * k, lo := 0, width := 32, acc := .wo, vmax := 4294967295 }

/-- R461: `LCS.DBG_FAIL_CNT.CNT`. Refusals since power-on reset (R457). -/
def LCS_DBG_FAIL_CNT_CNT : Field :=
  { page := 0x07, off := 0x1B8, lo := 0, width := 8, acc := .ro, vmax := 255 }

/-- R461: `LCS.DBG_OPEN_CNT.CNT`. Openings since power-on reset. -/
def LCS_DBG_OPEN_CNT_CNT : Field :=
  { page := 0x07, off := 0x1BC, lo := 0, width := 32, acc := .rw, vmax := 4294967295 }

/-- Fields of page LCS, in table order (part). -/
def lcsFields0 : List Field :=
  [LCS_STAT_LC,
   LCS_STAT_DBG_STATE,
   LCS_STAT_DBG_OPEN,
   LCS_STAT_DBG_CTX,
   LCS_STAT_ENROLLED,
   LCS_STAT_LC_PENDING,
   LCS_STAT_LC_NEXT,
   LCS_STAT_CHAL_VALID,
   LCS_STAT_DBG_LOCKOUT,
   LCS_CMD_GO,
   LCS_CMD_OP,
   LCS_CMD_STAT_BUSY,
   LCS_CMD_STAT_STATUS,
   LCS_CHAL_REQ_GO,
   LCS_CNT_CNT,
   LCS_DBG_FAIL_CNT_CNT,
   LCS_DBG_OPEN_CNT_CNT]

/-- Every block-specific field of page LCS. -/
def lcsFields : List Field :=
  lcsFields0 ++
  (List.range 8).map (LCS_CHAL_DATA) ++
  (List.range 29).map (LCS_SIG_DATA)

/-! Page KEY. -/

/-- R417: `KEY.CTRL.ZEROISE`. Erase every slot; clears itself. TRUSTED only: a write of 1 by another requester is refused as R35 lays down, with PRIV_DENY in SYS.ERR_CODE.. -/
def KEY_CTRL_ZEROISE : Field :=
  { page := 0x08, off := 0x010, lo := 1, width := 1, acc := .w1s, own := true, trusted := true, vmax := 1 }

/-- R417: `KEY.STAT.ROOT_VALID`. The root exists. -/
def KEY_STAT_ROOT_VALID : Field :=
  { page := 0x08, off := 0x014, lo := 0, width := 1, acc := .ro, vmax := 1 }

/-- R417: `KEY.STAT.DBG_CTX`. DBG of R384. -/
def KEY_STAT_DBG_CTX : Field :=
  { page := 0x08, off := 0x014, lo := 1, width := 1, acc := .ro, vmax := 1 }

/-- R417: `KEY.STAT.SEAL_VALID`. T_SEAL exists. -/
def KEY_STAT_SEAL_VALID : Field :=
  { page := 0x08, off := 0x014, lo := 2, width := 1, acc := .ro, vmax := 1 }

/-- R417: `KEY.STAT.BUSY`. A command runs. -/
def KEY_STAT_BUSY : Field :=
  { page := 0x08, off := 0x014, lo := 3, width := 1, acc := .ro, vmax := 1 }

/-- R417: `KEY.IRQ_RAW.CMD_DONE`. Latched. -/
def KEY_IRQ_CMD_DONE : Field := irqRaw (0x08) (0)

/-- R417: `KEY.IRQ_RAW.REVOKED`. Latched (R393). -/
def KEY_IRQ_REVOKED : Field := irqRaw (0x08) (1)

/-- R417: `KEY.IRQ_RAW.ZEROISED`. Latched. -/
def KEY_IRQ_ZEROISED : Field := irqRaw (0x08) (2)

/-- R417: `KEY.SLOT_SEL.SLOT`. Slot shown in SLOT_ATTR and SLOT_GEN. -/
def KEY_SLOT_SEL_SLOT : Field :=
  { page := 0x08, off := 0x100, lo := 0, width := 6, acc := .rw, vmax := 63 }

/-- R417: `KEY.SLOT_ATTR.VALID`. Holds a key. -/
def KEY_SLOT_ATTR_VALID : Field :=
  { page := 0x08, off := 0x104, lo := 31, width := 1, acc := .ro, vmax := 1 }

/-- R417: `KEY.SLOT_ATTR.EXPORT`. R389. -/
def KEY_SLOT_ATTR_EXPORT : Field :=
  { page := 0x08, off := 0x104, lo := 30, width := 1, acc := .ro, vmax := 1 }

/-- R417: `KEY.SLOT_ATTR.DEST`. R389. -/
def KEY_SLOT_ATTR_DEST : Field :=
  { page := 0x08, off := 0x104, lo := 16, width := 9, acc := .ro, vmax := 511 }

/-- R417: `KEY.SLOT_ATTR.USAGE`. R389. -/
def KEY_SLOT_ATTR_USAGE : Field :=
  { page := 0x08, off := 0x104, lo := 8, width := 7, acc := .ro, vmax := 127 }

/-- R417: `KEY.SLOT_ATTR.LEN`. Bytes. -/
def KEY_SLOT_ATTR_LEN : Field :=
  { page := 0x08, off := 0x104, lo := 0, width := 7, acc := .ro, vmax := 127 }

/-- R417: `KEY.SLOT_GEN.ACTIVE`. Operations holding the slot, saturating at 15. -/
def KEY_SLOT_GEN_ACTIVE : Field :=
  { page := 0x08, off := 0x108, lo := 20, width := 4, acc := .ro, vmax := 15 }

/-- R417: `KEY.SLOT_GEN.OWNER`. Loader. -/
def KEY_SLOT_GEN_OWNER : Field :=
  { page := 0x08, off := 0x108, lo := 16, width := 3, acc := .ro, vmax := 7 }

/-- R417: `KEY.SLOT_GEN.GEN`. R391. -/
def KEY_SLOT_GEN_GEN : Field :=
  { page := 0x08, off := 0x108, lo := 0, width := 16, acc := .ro, vmax := 65535 }

/-- R417: `KEY.CMD.GO`. Execute; clears itself. -/
def KEY_CMD_GO : Field :=
  { page := 0x08, off := 0x10C, lo := 31, width := 1, acc := .w1s, own := true, vmax := 1 }

/-- R417: `KEY.CMD.OP`. R390. -/
def KEY_CMD_OP : Field :=
  { page := 0x08, off := 0x10C, lo := 24, width := 3, acc := .rw, vmax := 7 }

/-- R417: `KEY.CMD.TARGET`. Slot. -/
def KEY_CMD_TARGET : Field :=
  { page := 0x08, off := 0x10C, lo := 16, width := 6, acc := .rw, vmax := 63 }

/-- R417: `KEY.CMD.SOURCE`. Slot. -/
def KEY_CMD_SOURCE : Field :=
  { page := 0x08, off := 0x10C, lo := 8, width := 6, acc := .rw, vmax := 63 }

/-- R417: `KEY.CMD.SRC_KIND`. 0 slot, 1 identity trunk, 2 seal trunk. -/
def KEY_CMD_SRC_KIND : Field :=
  { page := 0x08, off := 0x10C, lo := 6, width := 2, acc := .rw, vmax := 3 }

/-- R417: `KEY.CMD.LEN_SEL`. 0 16, 1 32, 2 56, 3 57 bytes. -/
def KEY_CMD_LEN_SEL : Field :=
  { page := 0x08, off := 0x10C, lo := 0, width := 6, acc := .rw, vmax := 63 }

/-- R417: `KEY.CMD_ATTR.EXPORT`. Attributes for LOAD, DERIVE, GENERATE, NARROW. -/
def KEY_CMD_ATTR_EXPORT : Field :=
  { page := 0x08, off := 0x110, lo := 30, width := 1, acc := .rw, vmax := 1 }

/-- R417: `KEY.CMD_ATTR.DEST`. . -/
def KEY_CMD_ATTR_DEST : Field :=
  { page := 0x08, off := 0x110, lo := 16, width := 9, acc := .rw, vmax := 511 }

/-- R417: `KEY.CMD_ATTR.USAGE`. . -/
def KEY_CMD_ATTR_USAGE : Field :=
  { page := 0x08, off := 0x110, lo := 8, width := 7, acc := .rw, vmax := 127 }

/-- R417: `KEY.CMD_STAT.BUSY`. . -/
def KEY_CMD_STAT_BUSY : Field :=
  { page := 0x08, off := 0x114, lo := 31, width := 1, acc := .ro, vmax := 1 }

/-- R417: `KEY.CMD_STAT.STATUS`. 0 OK or a KEY code. -/
def KEY_CMD_STAT_STATUS : Field :=
  { page := 0x08, off := 0x114, lo := 0, width := 16, acc := .ro, vmax := 65535 }

/-- R417: `KEY.LABEL_LEN.BYTES`. 0 to 64. -/
def KEY_LABEL_LEN_BYTES : Field :=
  { page := 0x08, off := 0x118, lo := 0, width := 7, acc := .rw, vmin := 0, vmax := 64 }

/-- R417: `KEY.KEY_DATA0–17.DATA`. Key or blob of up to 72 bytes, first byte in bits 7:0 of KEY_DATA0. -/
def KEY_KEY_DATA_DATA (k : Nat) : Field :=
  { page := 0x08, off := 0x120 + 0x4 * k, lo := 0, width := 32, acc := .wo, vmax := 4294967295 }

/-- R417: `KEY.LABEL0–15.DATA`. Derivation label. -/
def KEY_LABEL_DATA (k : Nat) : Field :=
  { page := 0x08, off := 0x168 + 0x4 * k, lo := 0, width := 32, acc := .rw, vmax := 4294967295 }

/-- R417: `KEY.WRAP_OUT0–17.DATA`. WRAP result; cleared by the next command. -/
def KEY_WRAP_OUT_DATA (k : Nat) : Field :=
  { page := 0x08, off := 0x1A8 + 0x4 * k, lo := 0, width := 32, acc := .ro, vmax := 4294967295 }

/-- R417: `KEY.REMASK_CNT.CNT`. Re-maskings. -/
def KEY_REMASK_CNT_CNT : Field :=
  { page := 0x08, off := 0x1F0, lo := 0, width := 32, acc := .ro, vmax := 4294967295 }

/-- R417: `KEY.REVOKED_CNT.CNT`. R393. -/
def KEY_REVOKED_CNT_CNT : Field :=
  { page := 0x08, off := 0x1F4, lo := 0, width := 32, acc := .rw, vmax := 4294967295 }

/-- Fields of page KEY, in table order (part). -/
def keyFields0 : List Field :=
  [KEY_CTRL_ZEROISE,
   KEY_STAT_ROOT_VALID,
   KEY_STAT_DBG_CTX,
   KEY_STAT_SEAL_VALID,
   KEY_STAT_BUSY,
   KEY_SLOT_SEL_SLOT,
   KEY_SLOT_ATTR_VALID,
   KEY_SLOT_ATTR_EXPORT,
   KEY_SLOT_ATTR_DEST,
   KEY_SLOT_ATTR_USAGE,
   KEY_SLOT_ATTR_LEN,
   KEY_SLOT_GEN_ACTIVE,
   KEY_SLOT_GEN_OWNER,
   KEY_SLOT_GEN_GEN,
   KEY_CMD_GO,
   KEY_CMD_OP,
   KEY_CMD_TARGET,
   KEY_CMD_SOURCE,
   KEY_CMD_SRC_KIND,
   KEY_CMD_LEN_SEL]

/-- Fields of page KEY, in table order (part). -/
def keyFields1 : List Field :=
  [KEY_CMD_ATTR_EXPORT,
   KEY_CMD_ATTR_DEST,
   KEY_CMD_ATTR_USAGE,
   KEY_CMD_STAT_BUSY,
   KEY_CMD_STAT_STATUS,
   KEY_LABEL_LEN_BYTES,
   KEY_REMASK_CNT_CNT,
   KEY_REVOKED_CNT_CNT]

/-- Every block-specific field of page KEY. -/
def keyFields : List Field :=
  keyFields0 ++
  keyFields1 ++
  (List.range 18).map (KEY_KEY_DATA_DATA) ++
  (List.range 16).map (KEY_LABEL_DATA) ++
  (List.range 18).map (KEY_WRAP_OUT_DATA)

/-! Page CIPH. -/

/-- R418: `CIPH.CTRL.ENABLE`. Cleaver runs. -/
def CIPH_CTRL_ENABLE : Field :=
  { page := 0x09, off := 0x010, lo := 0, width := 1, acc := .rw, txn := .t, vmax := 1 }

/-- R418: `CIPH.STAT.UNITS_READY`. Bit k: unit k runs. -/
def CIPH_STAT_UNITS_READY : Field :=
  { page := 0x09, off := 0x014, lo := 0, width := 4, acc := .ro, vmax := 15 }

/-- R418: `CIPH.STAT.REWRAP_RUN`. R398. -/
def CIPH_STAT_REWRAP_RUN : Field :=
  { page := 0x09, off := 0x014, lo := 4, width := 1, acc := .ro, vmax := 1 }

/-- R418: `CIPH.IRQ_RAW.JOB_DONE`. Latched. -/
def CIPH_IRQ_JOB_DONE : Field := irqRaw (0x09) (0)

/-- R418: `CIPH.IRQ_RAW.JOB_ERR`. Latched: a job ended with a status other than OK. -/
def CIPH_IRQ_JOB_ERR : Field := irqRaw (0x09) (1)

/-- R418: `CIPH.IRQ_RAW.REWRAP_DONE`. Latched. -/
def CIPH_IRQ_REWRAP_DONE : Field := irqRaw (0x09) (2)

/-- R418: `CIPH.IRQ_RAW.IVC_EXHAUSTED`. Latched (R401). -/
def CIPH_IRQ_IVC_EXHAUSTED : Field := irqRaw (0x09) (3)

/-- R418: `CIPH.JOB_CFG.UNITS`. Units open to jobs. -/
def CIPH_JOB_CFG_UNITS : Field :=
  { page := 0x09, off := 0x100, lo := 0, width := 4, reset := 15, acc := .rw, txn := .t, vmax := 15 }

/-- R418: `CIPH.REWRAP.GO`. Start (R398). -/
def CIPH_REWRAP_GO : Field :=
  { page := 0x09, off := 0x104, lo := 31, width := 1, acc := .w1s, own := true, vmax := 1 }

/-- R418: `CIPH.REWRAP.FROM`. 0 KEK_A, 1 KEK_B. -/
def CIPH_REWRAP_FROM : Field :=
  { page := 0x09, off := 0x104, lo := 0, width := 1, acc := .rw, vmax := 1 }

/-- R418: `CIPH.REWRAP_RATE.PER_S`. 1,000 to 1,000,000. -/
def CIPH_REWRAP_RATE_PER_S : Field :=
  { page := 0x09, off := 0x108, lo := 0, width := 20, reset := 250000, acc := .rw, txn := .t, vmin := 1000, vmax := 1000000 }

/-- R418: `CIPH.REWRAP_POS.METER`. Next record. -/
def CIPH_REWRAP_POS_METER : Field :=
  { page := 0x09, off := 0x10C, lo := 0, width := 20, acc := .ro, vmax := 1048575 }

/-- R418: `CIPH.REWRAP_DONE_CNT.CNT`. Records rewrapped. -/
def CIPH_REWRAP_DONE_CNT_CNT : Field :=
  { page := 0x09, off := 0x110, lo := 0, width := 32, acc := .rw, vmax := 4294967295 }

/-- R418: `CIPH.REWRAP_FAIL_CNT.CNT`. R398. -/
def CIPH_REWRAP_FAIL_CNT_CNT : Field :=
  { page := 0x09, off := 0x114, lo := 0, width := 32, acc := .rw, vmax := 4294967295 }

/-- R418: `CIPH.REWRAP_LAST_FAIL.METER`. R398. -/
def CIPH_REWRAP_LAST_FAIL_METER : Field :=
  { page := 0x09, off := 0x118, lo := 0, width := 20, acc := .ro, vmax := 1048575 }

/-- R418: `CIPH.TAG_FAIL_CNT.CNT`. Frame tags that failed. -/
def CIPH_TAG_FAIL_CNT_CNT : Field :=
  { page := 0x09, off := 0x11C, lo := 0, width := 32, acc := .rw, vmax := 4294967295 }

/-- R418: `CIPH.NO_KEY_CNT.CNT`. R396. -/
def CIPH_NO_KEY_CNT_CNT : Field :=
  { page := 0x09, off := 0x120, lo := 0, width := 32, acc := .rw, vmax := 4294967295 }

/-- R418: `CIPH.REVOKED_CNT.CNT`. Frames ended REVOKED. -/
def CIPH_REVOKED_CNT_CNT : Field :=
  { page := 0x09, off := 0x124, lo := 0, width := 32, acc := .rw, vmax := 4294967295 }

/-- R418: `CIPH.IVC_EXH_CNT.CNT`. R401, R404. -/
def CIPH_IVC_EXH_CNT_CNT : Field :=
  { page := 0x09, off := 0x128, lo := 0, width := 32, acc := .rw, vmax := 4294967295 }

/-- Fields of page CIPH, in table order (part). -/
def ciphFields0 : List Field :=
  [CIPH_CTRL_ENABLE,
   CIPH_STAT_UNITS_READY,
   CIPH_STAT_REWRAP_RUN,
   CIPH_JOB_CFG_UNITS,
   CIPH_REWRAP_GO,
   CIPH_REWRAP_FROM,
   CIPH_REWRAP_RATE_PER_S,
   CIPH_REWRAP_POS_METER,
   CIPH_REWRAP_DONE_CNT_CNT,
   CIPH_REWRAP_FAIL_CNT_CNT,
   CIPH_REWRAP_LAST_FAIL_METER,
   CIPH_TAG_FAIL_CNT_CNT,
   CIPH_NO_KEY_CNT_CNT,
   CIPH_REVOKED_CNT_CNT,
   CIPH_IVC_EXH_CNT_CNT]

/-- Every block-specific field of page CIPH. -/
def ciphFields : List Field :=
  ciphFields0

/-! Page PKE. -/

/-- R419: `PKE.CTRL.ENABLE`. Mortar runs. -/
def PKE_CTRL_ENABLE : Field :=
  { page := 0x0A, off := 0x010, lo := 0, width := 1, acc := .rw, txn := .t, vmax := 1 }

/-- R419: `PKE.STAT.BUSY`. A job runs. -/
def PKE_STAT_BUSY : Field :=
  { page := 0x0A, off := 0x014, lo := 0, width := 1, acc := .ro, vmax := 1 }

/-- R419: `PKE.IRQ_RAW.JOB_DONE`. Latched. -/
def PKE_IRQ_JOB_DONE : Field := irqRaw (0x0A) (0)

/-- R419: `PKE.IRQ_RAW.JOB_ERR`. Latched. -/
def PKE_IRQ_JOB_ERR : Field := irqRaw (0x0A) (1)

/-- R419: `PKE.SIGN_CNT.CNT`. Signatures made. -/
def PKE_SIGN_CNT_CNT : Field :=
  { page := 0x0A, off := 0x100, lo := 0, width := 32, acc := .rw, vmax := 4294967295 }

/-- R419: `PKE.VERIFY_CNT.CNT`. Verifications. -/
def PKE_VERIFY_CNT_CNT : Field :=
  { page := 0x0A, off := 0x104, lo := 0, width := 32, acc := .rw, vmax := 4294967295 }

/-- R419: `PKE.VERIFY_FAIL_CNT.CNT`. SIG_BAD results. -/
def PKE_VERIFY_FAIL_CNT_CNT : Field :=
  { page := 0x0A, off := 0x108, lo := 0, width := 32, acc := .rw, vmax := 4294967295 }

/-- R419: `PKE.AGREE_CNT.CNT`. Agreements. -/
def PKE_AGREE_CNT_CNT : Field :=
  { page := 0x0A, off := 0x10C, lo := 0, width := 32, acc := .rw, vmax := 4294967295 }

/-- Fields of page PKE, in table order (part). -/
def pkeFields0 : List Field :=
  [PKE_CTRL_ENABLE,
   PKE_STAT_BUSY,
   PKE_SIGN_CNT_CNT,
   PKE_VERIFY_CNT_CNT,
   PKE_VERIFY_FAIL_CNT_CNT,
   PKE_AGREE_CNT_CNT]

/-- Every block-specific field of page PKE. -/
def pkeFields : List Field :=
  pkeFields0

/-! Page TRNG. -/

/-- R420: `TRNG.CTRL.ENABLE`. Source runs. -/
def TRNG_CTRL_ENABLE : Field :=
  { page := 0x0B, off := 0x010, lo := 0, width := 1, reset := 1, acc := .rw, txn := .t, vmax := 1 }

/-- R420: `TRNG.STAT.STATE`. 0 OFF, 1 STARTUP, 2 OK, 3 FAILED. -/
def TRNG_STAT_STATE : Field :=
  { page := 0x0B, off := 0x014, lo := 0, width := 2, reset := 1, acc := .ro, vmax := 3 }

/-- R420: `TRNG.IRQ_RAW.HEALTH_FAIL`. Latched: a test failed. -/
def TRNG_IRQ_HEALTH_FAIL : Field := irqRaw (0x0B) (0)

/-- R420: `TRNG.IRQ_RAW.FAILED`. Latched (R409). -/
def TRNG_IRQ_FAILED : Field := irqRaw (0x0B) (1)

/-- R420: `TRNG.DATA.BITS`. 32 fresh bits per read; 0 unless OK. -/
def TRNG_DATA_BITS : Field :=
  { page := 0x0B, off := 0x100, lo := 0, width := 32, acc := .ro, vmax := 4294967295 }

/-- R420: `TRNG.RCT.CUTOFF`. 20 to 255. -/
def TRNG_RCT_CUTOFF : Field :=
  { page := 0x0B, off := 0x104, lo := 0, width := 8, reset := 41, acc := .rw, txn := .t, vmin := 20, vmax := 255 }

/-- R420: `TRNG.APT.CUTOFF`. 540 to 1,024. -/
def TRNG_APT_CUTOFF : Field :=
  { page := 0x0B, off := 0x108, lo := 0, width := 11, reset := 640, acc := .rw, txn := .t, vmin := 540, vmax := 1024 }

/-- R420: `TRNG.RCT_FAIL_CNT.CNT`. . -/
def TRNG_RCT_FAIL_CNT_CNT : Field :=
  { page := 0x0B, off := 0x10C, lo := 0, width := 32, acc := .rw, vmax := 4294967295 }

/-- R420: `TRNG.APT_FAIL_CNT.CNT`. . -/
def TRNG_APT_FAIL_CNT_CNT : Field :=
  { page := 0x0B, off := 0x110, lo := 0, width := 32, acc := .rw, vmax := 4294967295 }

/-- Fields of page TRNG, in table order (part). -/
def trngFields0 : List Field :=
  [TRNG_CTRL_ENABLE,
   TRNG_STAT_STATE,
   TRNG_DATA_BITS,
   TRNG_RCT_CUTOFF,
   TRNG_APT_CUTOFF,
   TRNG_RCT_FAIL_CNT_CNT,
   TRNG_APT_FAIL_CNT_CNT]

/-- Every block-specific field of page TRNG. -/
def trngFields : List Field :=
  trngFields0

/-! Page TAMP. -/

/-- R421: `TAMP.CTRL.ARMED`. Locks the configuration. -/
def TAMP_CTRL_ARMED : Field :=
  { page := 0x0C, off := 0x010, lo := 0, width := 1, acc := .w1s, own := true, vmax := 1 }

/-- R421: `TAMP.CTRL.VKR_CLEAR`. Zeroise the VBAT key region; clears itself. -/
def TAMP_CTRL_VKR_CLEAR : Field :=
  { page := 0x0C, off := 0x010, lo := 1, width := 1, acc := .w1s, own := true, vmax := 1 }

/-- R421: `TAMP.STAT.TAMPER_LATCH`. R411; cleared by release only. -/
def TAMP_STAT_TAMPER_LATCH : Field :=
  { page := 0x0C, off := 0x014, lo := 0, width := 1, acc := .ro, vmax := 1 }

/-- R421: `TAMP.STAT.LOCKDOWN`. The chip is in LOCKDOWN. -/
def TAMP_STAT_LOCKDOWN : Field :=
  { page := 0x0C, off := 0x014, lo := 1, width := 1, acc := .ro, vmax := 1 }

/-- R421: `TAMP.STAT.ACTIVE`. Bit n: source n asserted now. -/
def TAMP_STAT_ACTIVE : Field :=
  { page := 0x0C, off := 0x014, lo := 8, width := 8, acc := .ro, vmax := 255 }

/-- R421: `TAMP.IRQ_RAW.TAMPER`. Latched: an assertion. -/
def TAMP_IRQ_TAMPER : Field := irqRaw (0x0C) (0)

/-- R421: `TAMP.IRQ_RAW.RELEASE_FAIL`. Latched (R414). -/
def TAMP_IRQ_RELEASE_FAIL : Field := irqRaw (0x0C) (1)

/-- R421: `TAMP.SRCn_CFG.RESPONSE`. n = 0–7: 0 OFF, 1 LOG, 2 ZEROISE, 3 LOCKDOWN. -/
def TAMP_SRC_CFG_RESPONSE (k : Nat) : Field :=
  { page := 0x0C, off := 0x100 + 0x4 * k, lo := 0, width := 2, reset := 3, acc := .rw, vmax := 3 }

/-- R421: `TAMP.SRCn_CFG.POL`. TAMP_IN: 0 asserted low. -/
def TAMP_SRC_CFG_POL (k : Nat) : Field :=
  { page := 0x0C, off := 0x100 + 0x4 * k, lo := 2, width := 1, acc := .rw, vmax := 1 }

/-- R421: `TAMP.MESH_CFG.EN`. Drive and check the mesh. -/
def TAMP_MESH_CFG_EN : Field :=
  { page := 0x0C, off := 0x120, lo := 8, width := 1, acc := .rw, vmax := 1 }

/-- R421: `TAMP.MESH_CFG.RATE`. 2 to 15. -/
def TAMP_MESH_CFG_RATE : Field :=
  { page := 0x0C, off := 0x120, lo := 0, width := 4, reset := 5, acc := .rw, vmin := 2, vmax := 15 }

/-- R421: `TAMP.SEEN.SRC`. Sources asserted since clear. -/
def TAMP_SEEN_SRC : Field :=
  { page := 0x0C, off := 0x124, lo := 0, width := 8, acc := .w1c, vmax := 255 }

/-- R421: `TAMP.FIRST.MODE`. Operating mode at the first assertion. -/
def TAMP_FIRST_MODE : Field :=
  { page := 0x0C, off := 0x128, lo := 4, width := 3, acc := .ro, vmax := 7 }

/-- R421: `TAMP.FIRST.SRC`. First source since TAMPER_LATCH cleared. -/
def TAMP_FIRST_SRC : Field :=
  { page := 0x0C, off := 0x128, lo := 0, width := 4, acc := .ro, vmax := 15 }

/-- R421: `TAMP.FIRST_TIME.SEC`. RTC_SEC of that assertion. -/
def TAMP_FIRST_TIME_SEC : Field :=
  { page := 0x0C, off := 0x12C, lo := 0, width := 32, acc := .ro, vmax := 4294967295 }

/-- R421: `TAMP.TAMPER_CNT.CNT`. Assertions, saturating. -/
def TAMP_TAMPER_CNT_CNT : Field :=
  { page := 0x0C, off := 0x130, lo := 0, width := 32, acc := .ro, vmax := 4294967295 }

/-- R421: `TAMP.LD_CHAL0–7.DATA`. Release challenge. -/
def TAMP_LD_CHAL_DATA (k : Nat) : Field :=
  { page := 0x0C, off := 0x140 + 0x4 * k, lo := 0, width := 32, acc := .ro, vmax := 4294967295 }

/-- R421: `TAMP.LD_CNT.CNT`. Lockdown count. -/
def TAMP_LD_CNT_CNT : Field :=
  { page := 0x0C, off := 0x160, lo := 0, width := 32, acc := .ro, vmax := 4294967295 }

/-- R421: `TAMP.REL_SIG0–28.DATA`. Release signature, 114 bytes. -/
def TAMP_REL_SIG_DATA (k : Nat) : Field :=
  { page := 0x0C, off := 0x180 + 0x4 * k, lo := 0, width := 32, acc := .wo, vmax := 4294967295 }

/-- R421: `TAMP.RELEASE.GO`. Start the check (R414). -/
def TAMP_RELEASE_GO : Field :=
  { page := 0x0C, off := 0x1F8, lo := 31, width := 1, acc := .w1s, own := true, vmax := 1 }

/-- R421: `TAMP.REL_FAIL_CNT.CNT`. Failed releases. -/
def TAMP_REL_FAIL_CNT_CNT : Field :=
  { page := 0x0C, off := 0x1FC, lo := 0, width := 32, acc := .ro, vmax := 4294967295 }

/-- Fields of page TAMP, in table order (part). -/
def tampFields0 : List Field :=
  [TAMP_CTRL_ARMED,
   TAMP_CTRL_VKR_CLEAR,
   TAMP_STAT_TAMPER_LATCH,
   TAMP_STAT_LOCKDOWN,
   TAMP_STAT_ACTIVE,
   TAMP_MESH_CFG_EN,
   TAMP_MESH_CFG_RATE,
   TAMP_SEEN_SRC,
   TAMP_FIRST_MODE,
   TAMP_FIRST_SRC,
   TAMP_FIRST_TIME_SEC,
   TAMP_TAMPER_CNT_CNT,
   TAMP_LD_CNT_CNT,
   TAMP_RELEASE_GO,
   TAMP_REL_FAIL_CNT_CNT]

/-- Every block-specific field of page TAMP. -/
def tampFields : List Field :=
  tampFields0 ++
  (List.range 8).map (TAMP_SRC_CFG_RESPONSE) ++
  (List.range 8).map (TAMP_SRC_CFG_POL) ++
  (List.range 8).map (TAMP_LD_CHAL_DATA) ++
  (List.range 29).map (TAMP_REL_SIG_DATA)

/-! Page UPD. -/

/-- R479: `UPD.CTRL.ENABLE`. 1: pieces are taken. -/
def UPD_CTRL_ENABLE : Field :=
  { page := 0x0D, off := 0x010, lo := 0, width := 1, acc := .rw, txn := .t, vmax := 1 }

/-- R479: `UPD.CTRL.ABORT`. Abandon the session (R466); clears itself. -/
def UPD_CTRL_ABORT : Field :=
  { page := 0x0D, off := 0x010, lo := 1, width := 1, acc := .w1s, own := true, vmax := 1 }

/-- R479: `UPD.CTRL.INSTALL`. R468; clears itself when the copy ends. -/
def UPD_CTRL_INSTALL : Field :=
  { page := 0x0D, off := 0x010, lo := 2, width := 1, acc := .w1s, own := true, vmax := 1 }

/-- R479: `UPD.CTRL.RULES_LOCK`. R475. -/
def UPD_CTRL_RULES_LOCK : Field :=
  { page := 0x0D, off := 0x010, lo := 3, width := 1, acc := .rw, txn := .t, vmax := 1 }

/-- R479: `UPD.STAT.STATE`. R466. -/
def UPD_STAT_STATE : Field :=
  { page := 0x0D, off := 0x014, lo := 0, width := 3, acc := .ro, vmax := 7 }

/-- R479: `UPD.STAT.PART`. Part of the session. -/
def UPD_STAT_PART : Field :=
  { page := 0x0D, off := 0x014, lo := 4, width := 3, acc := .ro, vmax := 7 }

/-- R479: `UPD.STAT.UNCONF`. Bit p: part p is UNCONFIRMED. -/
def UPD_STAT_UNCONF : Field :=
  { page := 0x0D, off := 0x014, lo := 8, width := 3, acc := .ro, vmax := 7 }

/-- R479: `UPD.STAT.ACTIVATING`. An activation or fall-back is in progress. -/
def UPD_STAT_ACTIVATING : Field :=
  { page := 0x0D, off := 0x014, lo := 11, width := 1, acc := .ro, vmax := 1 }

/-- R479: `UPD.STAT.MIXED`. R476. -/
def UPD_STAT_MIXED : Field :=
  { page := 0x0D, off := 0x014, lo := 12, width := 1, acc := .ro, vmax := 1 }

/-- R479: `UPD.IRQ_RAW.MANIFEST_OK`. Latched. -/
def UPD_IRQ_MANIFEST_OK : Field := irqRaw (0x0D) (0)

/-- R479: `UPD.IRQ_RAW.HASHES_OK`. Latched. -/
def UPD_IRQ_HASHES_OK : Field := irqRaw (0x0D) (1)

/-- R479: `UPD.IRQ_RAW.COMPLETE`. Latched. -/
def UPD_IRQ_COMPLETE : Field := irqRaw (0x0D) (2)

/-- R479: `UPD.IRQ_RAW.INSTALLED`. Latched. -/
def UPD_IRQ_INSTALLED : Field := irqRaw (0x0D) (3)

/-- R479: `UPD.IRQ_RAW.ACTIVATED`. Latched: a new image runs. -/
def UPD_IRQ_ACTIVATED : Field := irqRaw (0x0D) (4)

/-- R479: `UPD.IRQ_RAW.FALLBACK`. Latched (R473). -/
def UPD_IRQ_FALLBACK : Field := irqRaw (0x0D) (5)

/-- R479: `UPD.IRQ_RAW.CONFIRM_DUE`. Latched (R473). -/
def UPD_IRQ_CONFIRM_DUE : Field := irqRaw (0x0D) (6)

/-- R479: `UPD.IRQ_RAW.PIECE_BAD`. Latched. -/
def UPD_IRQ_PIECE_BAD : Field := irqRaw (0x0D) (7)

/-- R479: `UPD.BUILD_LO.BUILD`. Session BUILD, bits 31:0. -/
def UPD_BUILD_LO_BUILD : Field :=
  { page := 0x0D, off := 0x100, lo := 0, width := 32, acc := .ro, vmax := 4294967295 }

/-- R479: `UPD.BUILD_HI.BUILD`. Bits 63:32. -/
def UPD_BUILD_HI_BUILD : Field :=
  { page := 0x0D, off := 0x104, lo := 0, width := 32, acc := .ro, vmax := 4294967295 }

/-- R479: `UPD.PIECES_TOTAL.CNT`. 1 + H + N. -/
def UPD_PIECES_TOTAL_CNT : Field :=
  { page := 0x0D, off := 0x108, lo := 0, width := 17, acc := .ro, vmax := 131071 }

/-- R479: `UPD.PIECES_HAVE.CNT`. Pieces recorded. -/
def UPD_PIECES_HAVE_CNT : Field :=
  { page := 0x0D, off := 0x10C, lo := 0, width := 17, acc := .ro, vmax := 131071 }

/-- R479: `UPD.MISSING_NEXT.INDEX`. R467. -/
def UPD_MISSING_NEXT_INDEX : Field :=
  { page := 0x0D, off := 0x110, lo := 0, width := 17, acc := .ro, vmax := 131071 }

/-- R479: `UPD.SECVER.VER`. SECVER of the session. -/
def UPD_SECVER_VER : Field :=
  { page := 0x0D, off := 0x114, lo := 0, width := 32, acc := .ro, vmax := 4294967295 }

/-- R479: `UPD.ACT.REQ`. Activate PART at the commit (R469); clears itself when activation starts. -/
def UPD_ACT_REQ : Field :=
  { page := 0x0D, off := 0x118, lo := 31, width := 1, acc := .rw, txn := .t, vmax := 1 }

/-- R479: `UPD.ACT.PART`. 0 TRIVET, 1 KETTLE, 2 APP. -/
def UPD_ACT_PART : Field :=
  { page := 0x0D, off := 0x118, lo := 0, width := 3, acc := .rw, txn := .t, vmax := 7 }

/-- R479: `UPD.CONFIRM.KEY`. Must be 0xC9. -/
def UPD_CONFIRM_KEY : Field :=
  { page := 0x0D, off := 0x11C, lo := 8, width := 8, acc := .wo, own := true, vmax := 255 }

/-- R479: `UPD.CONFIRM.PART`. R472. -/
def UPD_CONFIRM_PART : Field :=
  { page := 0x0D, off := 0x11C, lo := 0, width := 3, acc := .wo, own := true, vmax := 7 }

/-- R479: `UPD.FALLBACK_REQ.KEY`. Must be 0xC9. -/
def UPD_FALLBACK_REQ_KEY : Field :=
  { page := 0x0D, off := 0x120, lo := 8, width := 8, acc := .wo, own := true, vmax := 255 }

/-- R479: `UPD.FALLBACK_REQ.PART`. R473. -/
def UPD_FALLBACK_REQ_PART : Field :=
  { page := 0x0D, off := 0x120, lo := 0, width := 3, acc := .wo, own := true, vmax := 7 }

/-- R479: `UPD.CONFIRM_CFG.H`. Hours, 1 to 720. -/
def UPD_CONFIRM_CFG_H : Field :=
  { page := 0x0D, off := 0x124, lo := 0, width := 10, reset := 24, acc := .rw, txn := .t, vmin := 1, vmax := 720 }

/-- R479: `UPD.PART_SEL.PART`. Part shown at 0x12C–0x140. -/
def UPD_PART_SEL_PART : Field :=
  { page := 0x0D, off := 0x128, lo := 0, width := 3, acc := .rw, vmax := 7 }

/-- R479: `UPD.PART_INFO.UNCONFIRMED`. R469. -/
def UPD_PART_INFO_UNCONFIRMED : Field :=
  { page := 0x0D, off := 0x12C, lo := 31, width := 1, acc := .ro, vmax := 1 }

/-- R479: `UPD.PART_INFO.COPY`. Boot or current copy: 0 FW_A, 1 FW_B. -/
def UPD_PART_INFO_COPY : Field :=
  { page := 0x0D, off := 0x12C, lo := 30, width := 1, acc := .ro, vmax := 1 }

/-- R479: `UPD.PART_INFO.PREV_VALID`. The other copy holds an installed image. -/
def UPD_PART_INFO_PREV_VALID : Field :=
  { page := 0x0D, off := 0x12C, lo := 29, width := 1, acc := .ro, vmax := 1 }

/-- R479: `UPD.PART_SECVER.VER`. SECVER of the current copy. -/
def UPD_PART_SECVER_VER : Field :=
  { page := 0x0D, off := 0x130, lo := 0, width := 32, acc := .ro, vmax := 4294967295 }

/-- R479: `UPD.PART_MEAS_LO.MEAS`. Measurement bits 31:0. -/
def UPD_PART_MEAS_LO_MEAS : Field :=
  { page := 0x0D, off := 0x134, lo := 0, width := 32, acc := .ro, vmax := 4294967295 }

/-- R479: `UPD.PART_MEAS_HI.MEAS`. Bits 63:32. -/
def UPD_PART_MEAS_HI_MEAS : Field :=
  { page := 0x0D, off := 0x138, lo := 0, width := 32, acc := .ro, vmax := 4294967295 }

/-- R479: `UPD.CONFIRM_LEFT.SEC`. Operating seconds left in the window. -/
def UPD_CONFIRM_LEFT_SEC : Field :=
  { page := 0x0D, off := 0x13C, lo := 0, width := 32, acc := .ro, vmax := 4294967295 }

/-- R479: `UPD.PIECE_BAD_CNT.CNT`. R466. -/
def UPD_PIECE_BAD_CNT_CNT : Field :=
  { page := 0x0D, off := 0x140, lo := 0, width := 32, acc := .rw, vmax := 4294967295 }

/-- R479: `UPD.FALLBACK_CNT.CNT`. R473. -/
def UPD_FALLBACK_CNT_CNT : Field :=
  { page := 0x0D, off := 0x144, lo := 0, width := 32, acc := .rw, vmax := 4294967295 }

/-- R479: `UPD.ACT_LAST_MS.MS`. R470. -/
def UPD_ACT_LAST_MS_MS : Field :=
  { page := 0x0D, off := 0x148, lo := 0, width := 16, acc := .ro, vmax := 65535 }

/-- R479: `UPD.MIXED_MISMATCH_CNT.CNT`. R476. -/
def UPD_MIXED_MISMATCH_CNT_CNT : Field :=
  { page := 0x0D, off := 0x14C, lo := 0, width := 32, acc := .rw, vmax := 4294967295 }

/-- Fields of page UPD, in table order (part). -/
def updFields0 : List Field :=
  [UPD_CTRL_ENABLE,
   UPD_CTRL_ABORT,
   UPD_CTRL_INSTALL,
   UPD_CTRL_RULES_LOCK,
   UPD_STAT_STATE,
   UPD_STAT_PART,
   UPD_STAT_UNCONF,
   UPD_STAT_ACTIVATING,
   UPD_STAT_MIXED,
   UPD_BUILD_LO_BUILD,
   UPD_BUILD_HI_BUILD,
   UPD_PIECES_TOTAL_CNT,
   UPD_PIECES_HAVE_CNT,
   UPD_MISSING_NEXT_INDEX,
   UPD_SECVER_VER,
   UPD_ACT_REQ,
   UPD_ACT_PART,
   UPD_CONFIRM_KEY,
   UPD_CONFIRM_PART,
   UPD_FALLBACK_REQ_KEY]

/-- Fields of page UPD, in table order (part). -/
def updFields1 : List Field :=
  [UPD_FALLBACK_REQ_PART,
   UPD_CONFIRM_CFG_H,
   UPD_PART_SEL_PART,
   UPD_PART_INFO_UNCONFIRMED,
   UPD_PART_INFO_COPY,
   UPD_PART_INFO_PREV_VALID,
   UPD_PART_SECVER_VER,
   UPD_PART_MEAS_LO_MEAS,
   UPD_PART_MEAS_HI_MEAS,
   UPD_CONFIRM_LEFT_SEC,
   UPD_PIECE_BAD_CNT_CNT,
   UPD_FALLBACK_CNT_CNT,
   UPD_ACT_LAST_MS_MS,
   UPD_MIXED_MISMATCH_CNT_CNT]

/-- Every block-specific field of page UPD. -/
def updFields : List Field :=
  updFields0 ++
  updFields1

end Sys2Proof.Machine.Reg
end

