-- ==== Sys2Proof/Machine/RegC.lean ====
section
/-! DEFINITION. The register fields of the pages FUNL, LADL, SIEV, DIR, BAL, BILL, CAL, PANEL, LANE, one constant per field, as the register tables of spec/ give them. -/

namespace Sys2Proof.Machine.Reg

/-! Page FUNL. -/

/-- R92: `FUNL.CTRL.ENABLE`. 1: Funnel takes frames from the dispatch queue. -/
def FUNL_CTRL_ENABLE : Field :=
  { page := 0x10, off := 0x010, lo := 0, width := 1, acc := .rw, txn := .t, vmax := 1 }

/-- R92: `FUNL.CTRL.PREFETCH_EN`. 1: record prefetch under R74. -/
def FUNL_CTRL_PREFETCH_EN : Field :=
  { page := 0x10, off := 0x010, lo := 1, width := 1, reset := 1, acc := .rw, txn := .t, vmax := 1 }

/-- R92: `FUNL.STAT.HOLDING`. Funnel assigns no order numbers. -/
def FUNL_STAT_HOLDING : Field :=
  { page := 0x10, off := 0x014, lo := 0, width := 1, reset := 1, acc := .ro, vmax := 1 }

/-- R92: `FUNL.STAT.HOLD_CAUSE`. 0 none, 1 ENABLE = 0, 2 no replay credit, 3 durability stopped. -/
def FUNL_STAT_HOLD_CAUSE : Field :=
  { page := 0x10, off := 0x014, lo := 1, width := 2, reset := 1, acc := .ro, vmax := 3 }

/-- R92: `FUNL.STAT.REPLAYING`. At least one frame is running again. -/
def FUNL_STAT_REPLAYING : Field :=
  { page := 0x10, off := 0x014, lo := 3, width := 1, acc := .ro, vmax := 1 }

/-- R92: `FUNL.IRQ_RAW.UNKNOWN_METER`. Latched: a frame left as UNKNOWN_METER. -/
def FUNL_IRQ_UNKNOWN_METER : Field := irqRaw (0x10) (0)

/-- R92: `FUNL.IRQ_RAW.PARSE_FAIL`. Latched: a frame left as PARSE_FAIL. -/
def FUNL_IRQ_PARSE_FAIL : Field := irqRaw (0x10) (1)

/-- R92: `FUNL.IRQ_RAW.REPLAY_FULL`. Latched: HOLD_CAUSE became 2. -/
def FUNL_IRQ_REPLAY_FULL : Field := irqRaw (0x10) (2)

/-- R92: `FUNL.IRQ_RAW.REPLAY_LOST`. Latched: a frame was discarded under R71. -/
def FUNL_IRQ_REPLAY_LOST : Field := irqRaw (0x10) (3)

/-- R92: `FUNL.IRQ_RAW.TOO_LONG`. Latched: a frame left as FRAME_TOO_LONG. -/
def FUNL_IRQ_TOO_LONG : Field := irqRaw (0x10) (4)

/-- R92: `FUNL.ORDER_NEXT_LO.ORDER`. Next order number, bits 31:0. -/
def FUNL_ORDER_NEXT_LO_ORDER : Field :=
  { page := 0x10, off := 0x100, lo := 0, width := 32, acc := .ro, vmax := 4294967295 }

/-- R92: `FUNL.ORDER_NEXT_HI.ORDER`. Next order number, bits 47:32. -/
def FUNL_ORDER_NEXT_HI_ORDER : Field :=
  { page := 0x10, off := 0x104, lo := 0, width := 16, acc := .ro, vmax := 65535 }

/-- R92: `FUNL.ORDER_BASE_LO.BASE`. Order base, bits 31:0. -/
def FUNL_ORDER_BASE_LO_BASE : Field :=
  { page := 0x10, off := 0x108, lo := 0, width := 32, acc := .rw, vmax := 4294967295 }

/-- R92: `FUNL.ORDER_BASE_HI.LOAD`. Copies the base into ORDER_NEXT; refused with VALUE_REFUSED while ENABLE = 1. -/
def FUNL_ORDER_BASE_HI_LOAD : Field :=
  { page := 0x10, off := 0x10C, lo := 31, width := 1, acc := .w1s, own := true, vmax := 1 }

/-- R92: `FUNL.ORDER_BASE_HI.BASE`. Order base, bits 47:32. -/
def FUNL_ORDER_BASE_HI_BASE : Field :=
  { page := 0x10, off := 0x10C, lo := 0, width := 16, acc := .rw, vmax := 65535 }

/-- R92: `FUNL.REPLAY_USE.SLOTS`. Replay slots held. -/
def FUNL_REPLAY_USE_SLOTS : Field :=
  { page := 0x10, off := 0x110, lo := 0, width := 17, acc := .ro, vmax := 131071 }

/-- R92: `FUNL.REPLAY_PEAK.SLOTS`. Highest REPLAY_USE since the last read. -/
def FUNL_REPLAY_PEAK_SLOTS : Field :=
  { page := 0x10, off := 0x114, lo := 0, width := 17, acc := .rc, vmax := 131071 }

/-- R92: `FUNL.PREFETCH_LEAD.US`. Prefetch lead in µs, 0 to 1,000; other values are refused with VALUE_REFUSED. -/
def FUNL_PREFETCH_LEAD_US : Field :=
  { page := 0x10, off := 0x118, lo := 0, width := 10, reset := 200, acc := .rw, txn := .t, vmin := 0, vmax := 1000 }

/-- R92: `FUNL.FRAMES_LO.CNT`. Frames given an order number, bits 31:0. -/
def FUNL_FRAMES_LO_CNT : Field :=
  { page := 0x10, off := 0x120, lo := 0, width := 32, acc := .ro, vmax := 4294967295 }

/-- R92: `FUNL.FRAMES_HI.CNT`. Bits 47:32. -/
def FUNL_FRAMES_HI_CNT : Field :=
  { page := 0x10, off := 0x124, lo := 0, width := 16, acc := .ro, vmax := 65535 }

/-- R92: `FUNL.UNKNOWN_CNT.CNT`. UNKNOWN_METER exits. -/
def FUNL_UNKNOWN_CNT_CNT : Field :=
  { page := 0x10, off := 0x128, lo := 0, width := 32, acc := .rw, vmax := 4294967295 }

/-- R92: `FUNL.PARSE_FAIL_CNT.CNT`. PARSE_FAIL exits. -/
def FUNL_PARSE_FAIL_CNT_CNT : Field :=
  { page := 0x10, off := 0x12C, lo := 0, width := 32, acc := .rw, vmax := 4294967295 }

/-- R92: `FUNL.TOO_LONG_CNT.CNT`. FRAME_TOO_LONG exits. -/
def FUNL_TOO_LONG_CNT_CNT : Field :=
  { page := 0x10, off := 0x130, lo := 0, width := 32, acc := .rw, vmax := 4294967295 }

/-- R92: `FUNL.REPLAY_CNT.CNT`. Frames run again. -/
def FUNL_REPLAY_CNT_CNT : Field :=
  { page := 0x10, off := 0x134, lo := 0, width := 32, acc := .rw, vmax := 4294967295 }

/-- R92: `FUNL.REPLAY_LOST_CNT.CNT`. Frames discarded under R71. -/
def FUNL_REPLAY_LOST_CNT_CNT : Field :=
  { page := 0x10, off := 0x138, lo := 0, width := 32, acc := .rw, vmax := 4294967295 }

/-- R92: `FUNL.PRE_ORDER_POISON_CNT.CNT`. Frames dropped under R67. -/
def FUNL_PRE_ORDER_POISON_CNT_CNT : Field :=
  { page := 0x10, off := 0x13C, lo := 0, width := 32, acc := .rw, vmax := 4294967295 }

/-- R92: `FUNL.LAST_UNKNOWN_ID_LO.ID`. Most recent unknown meter identifier, bits 31:0. -/
def FUNL_LAST_UNKNOWN_ID_LO_ID : Field :=
  { page := 0x10, off := 0x140, lo := 0, width := 32, acc := .ro, vmax := 4294967295 }

/-- R92: `FUNL.LAST_UNKNOWN_ID_HI.ID`. Bits 63:32. -/
def FUNL_LAST_UNKNOWN_ID_HI_ID : Field :=
  { page := 0x10, off := 0x144, lo := 0, width := 32, acc := .ro, vmax := 4294967295 }

/-- Fields of page FUNL, in table order (part). -/
def funlFields0 : List Field :=
  [FUNL_CTRL_ENABLE,
   FUNL_CTRL_PREFETCH_EN,
   FUNL_STAT_HOLDING,
   FUNL_STAT_HOLD_CAUSE,
   FUNL_STAT_REPLAYING,
   FUNL_ORDER_NEXT_LO_ORDER,
   FUNL_ORDER_NEXT_HI_ORDER,
   FUNL_ORDER_BASE_LO_BASE,
   FUNL_ORDER_BASE_HI_LOAD,
   FUNL_ORDER_BASE_HI_BASE,
   FUNL_REPLAY_USE_SLOTS,
   FUNL_REPLAY_PEAK_SLOTS,
   FUNL_PREFETCH_LEAD_US,
   FUNL_FRAMES_LO_CNT,
   FUNL_FRAMES_HI_CNT,
   FUNL_UNKNOWN_CNT_CNT,
   FUNL_PARSE_FAIL_CNT_CNT,
   FUNL_TOO_LONG_CNT_CNT,
   FUNL_REPLAY_CNT_CNT,
   FUNL_REPLAY_LOST_CNT_CNT]

/-- Fields of page FUNL, in table order (part). -/
def funlFields1 : List Field :=
  [FUNL_PRE_ORDER_POISON_CNT_CNT,
   FUNL_LAST_UNKNOWN_ID_LO_ID,
   FUNL_LAST_UNKNOWN_ID_HI_ID]

/-- Every block-specific field of page FUNL. -/
def funlFields : List Field :=
  funlFields0 ++
  funlFields1

/-! Page LADL. -/

/-- R93: `LADL.CTRL.ENABLE`. 1: Ladle commits. -/
def LADL_CTRL_ENABLE : Field :=
  { page := 0x11, off := 0x010, lo := 0, width := 1, acc := .rw, txn := .t, vmax := 1 }

/-- R93: `LADL.STAT.ACK_STOPPED`. Acknowledgements stopped under R87. -/
def LADL_STAT_ACK_STOPPED : Field :=
  { page := 0x11, off := 0x014, lo := 0, width := 1, acc := .ro, vmax := 1 }

/-- R93: `LADL.STAT.PAIRED`. Durability needs the partner. -/
def LADL_STAT_PAIRED : Field :=
  { page := 0x11, off := 0x014, lo := 1, width := 1, acc := .ro, vmax := 1 }

/-- R93: `LADL.STAT.STALLED`. The head has waited longer than STALL_LIMIT. -/
def LADL_STAT_STALLED : Field :=
  { page := 0x11, off := 0x014, lo := 2, width := 1, acc := .ro, vmax := 1 }

/-- R93: `LADL.STAT.RECOVERING`. Commit items are being queued again under R82. -/
def LADL_STAT_RECOVERING : Field :=
  { page := 0x11, off := 0x014, lo := 3, width := 1, acc := .ro, vmax := 1 }

/-- R93: `LADL.IRQ_RAW.AUTH_FAIL`. Latched. -/
def LADL_IRQ_AUTH_FAIL : Field := irqRaw (0x11) (0)

/-- R93: `LADL.IRQ_RAW.REPLAY_REJECT`. Latched. -/
def LADL_IRQ_REPLAY_REJECT : Field := irqRaw (0x11) (1)

/-- R93: `LADL.IRQ_RAW.ACK_STOPPED`. Latched when STAT.ACK_STOPPED becomes 1. -/
def LADL_IRQ_ACK_STOPPED : Field := irqRaw (0x11) (2)

/-- R93: `LADL.IRQ_RAW.STALL`. Latched when STAT.STALLED becomes 1. -/
def LADL_IRQ_STALL : Field := irqRaw (0x11) (3)

/-- R93: `LADL.IRQ_RAW.QPRIV_RECOVERED`. Latched. -/
def LADL_IRQ_QPRIV_RECOVERED : Field := irqRaw (0x11) (4)

/-- R93: `LADL.IRQ_RAW.DURABLE_LATE`. Latched (R88). -/
def LADL_IRQ_DURABLE_LATE : Field := irqRaw (0x11) (5)

/-- R93: `LADL.IRQ_RAW.NO_KEY`. Latched. -/
def LADL_IRQ_NO_KEY : Field := irqRaw (0x11) (6)

/-- R93: `LADL.COMMIT_NEXT_LO.ORDER`. Head of the window, bits 31:0. -/
def LADL_COMMIT_NEXT_LO_ORDER : Field :=
  { page := 0x11, off := 0x100, lo := 0, width := 32, acc := .ro, vmax := 4294967295 }

/-- R93: `LADL.COMMIT_NEXT_HI.ORDER`. Bits 47:32. -/
def LADL_COMMIT_NEXT_HI_ORDER : Field :=
  { page := 0x11, off := 0x104, lo := 0, width := 16, acc := .ro, vmax := 65535 }

/-- R93: `LADL.WINDOW_USE.SLOTS`. Reorder slots held. -/
def LADL_WINDOW_USE_SLOTS : Field :=
  { page := 0x11, off := 0x108, lo := 0, width := 13, acc := .ro, vmax := 8191 }

/-- R93: `LADL.WINDOW_PEAK.SLOTS`. Highest WINDOW_USE since the last read. -/
def LADL_WINDOW_PEAK_SLOTS : Field :=
  { page := 0x11, off := 0x10C, lo := 0, width := 13, acc := .rc, vmax := 8191 }

/-- R93: `LADL.GC_CFG.DURABLE_LIMIT`. ms, 1 to 255. -/
def LADL_GC_CFG_DURABLE_LIMIT : Field :=
  { page := 0x11, off := 0x110, lo := 16, width := 8, reset := 20, acc := .rw, txn := .t, vmin := 1, vmax := 255 }

/-- R93: `LADL.GC_CFG.PERIOD`. Group-commit period in 250 µs units, 1 to 32. -/
def LADL_GC_CFG_PERIOD : Field :=
  { page := 0x11, off := 0x110, lo := 0, width := 6, reset := 4, acc := .rw, txn := .t, vmin := 1, vmax := 32 }

/-- R93: `LADL.STALL_LIMIT.US`. µs, 10 to 60,000. -/
def LADL_STALL_LIMIT_US : Field :=
  { page := 0x11, off := 0x114, lo := 0, width := 16, reset := 500, acc := .rw, txn := .t, vmin := 10, vmax := 60000 }

/-- R93: `LADL.GROUP_SEQ_LO.SEQ`. Sequence number of the last closed group, bits 31:0. -/
def LADL_GROUP_SEQ_LO_SEQ : Field :=
  { page := 0x11, off := 0x118, lo := 0, width := 32, acc := .ro, vmax := 4294967295 }

/-- R93: `LADL.GROUP_SEQ_HI.SEQ`. Bits 47:32. -/
def LADL_GROUP_SEQ_HI_SEQ : Field :=
  { page := 0x11, off := 0x11C, lo := 0, width := 16, acc := .ro, vmax := 65535 }

/-- R93: `LADL.DURABLE_SEQ_LO.SEQ`. Last durable group, bits 31:0. -/
def LADL_DURABLE_SEQ_LO_SEQ : Field :=
  { page := 0x11, off := 0x120, lo := 0, width := 32, acc := .ro, vmax := 4294967295 }

/-- R93: `LADL.DURABLE_SEQ_HI.SEQ`. Bits 47:32. -/
def LADL_DURABLE_SEQ_HI_SEQ : Field :=
  { page := 0x11, off := 0x124, lo := 0, width := 16, acc := .ro, vmax := 65535 }

/-- R93: `LADL.DURABLE_ORDER_LO.ORDER`. Highest durable order number, bits 31:0. -/
def LADL_DURABLE_ORDER_LO_ORDER : Field :=
  { page := 0x11, off := 0x128, lo := 0, width := 32, acc := .ro, vmax := 4294967295 }

/-- R93: `LADL.DURABLE_ORDER_HI.ORDER`. Bits 47:32. -/
def LADL_DURABLE_ORDER_HI_ORDER : Field :=
  { page := 0x11, off := 0x12C, lo := 0, width := 16, acc := .ro, vmax := 65535 }

/-- R93: `LADL.PLACED_ORDER_LO.ORDER`. Highest order number placed by the FTL, bits 31:0. -/
def LADL_PLACED_ORDER_LO_ORDER : Field :=
  { page := 0x11, off := 0x130, lo := 0, width := 32, acc := .ro, vmax := 4294967295 }

/-- R93: `LADL.PLACED_ORDER_HI.ORDER`. Bits 47:32. -/
def LADL_PLACED_ORDER_HI_ORDER : Field :=
  { page := 0x11, off := 0x134, lo := 0, width := 16, acc := .ro, vmax := 65535 }

/-- R93: `LADL.ACK_LAT_LAST.US`. Receive stamp to acknowledgement item of the latest acknowledged frame. -/
def LADL_ACK_LAT_LAST_US : Field :=
  { page := 0x11, off := 0x138, lo := 0, width := 24, acc := .ro, vmax := 16777215 }

/-- R93: `LADL.ACK_LAT_MAX.US`. Highest ACK_LAT_LAST since the last read. -/
def LADL_ACK_LAT_MAX_US : Field :=
  { page := 0x11, off := 0x13C, lo := 0, width := 24, acc := .rc, vmax := 16777215 }

/-- R93: `LADL.COMMITTED_LO.CNT`. COMMITTED outcomes, bits 31:0. -/
def LADL_COMMITTED_LO_CNT : Field :=
  { page := 0x11, off := 0x140, lo := 0, width := 32, acc := .ro, vmax := 4294967295 }

/-- R93: `LADL.COMMITTED_HI.CNT`. Bits 47:32. -/
def LADL_COMMITTED_HI_CNT : Field :=
  { page := 0x11, off := 0x144, lo := 0, width := 16, acc := .ro, vmax := 65535 }

/-- R93: `LADL.QUARANTINE_CNT.CNT`. QUARANTINED outcomes. -/
def LADL_QUARANTINE_CNT_CNT : Field :=
  { page := 0x11, off := 0x148, lo := 0, width := 32, acc := .rw, vmax := 4294967295 }

/-- R93: `LADL.DUP_CNT.CNT`. DUPLICATE outcomes. -/
def LADL_DUP_CNT_CNT : Field :=
  { page := 0x11, off := 0x14C, lo := 0, width := 32, acc := .rw, vmax := 4294967295 }

/-- R93: `LADL.REPLAY_REJECT_CNT.CNT`. REPLAY_REJECT outcomes. -/
def LADL_REPLAY_REJECT_CNT_CNT : Field :=
  { page := 0x11, off := 0x150, lo := 0, width := 32, acc := .rw, vmax := 4294967295 }

/-- R93: `LADL.AUTH_FAIL_CNT.CNT`. AUTH_FAIL outcomes. -/
def LADL_AUTH_FAIL_CNT_CNT : Field :=
  { page := 0x11, off := 0x154, lo := 0, width := 32, acc := .rw, vmax := 4294967295 }

/-- R93: `LADL.NO_KEY_CNT.CNT`. NO_KEY outcomes. -/
def LADL_NO_KEY_CNT_CNT : Field :=
  { page := 0x11, off := 0x158, lo := 0, width := 32, acc := .rw, vmax := 4294967295 }

/-- R93: `LADL.SQUASH_CNT.CNT`. Frames squashed under R78. -/
def LADL_SQUASH_CNT_CNT : Field :=
  { page := 0x11, off := 0x15C, lo := 0, width := 32, acc := .rw, vmax := 4294967295 }

/-- R93: `LADL.LATE_VERDICT_CNT.CNT`. Verdicts ignored from fenced lanes. -/
def LADL_LATE_VERDICT_CNT_CNT : Field :=
  { page := 0x11, off := 0x160, lo := 0, width := 32, acc := .rw, vmax := 4294967295 }

/-- R93: `LADL.ACK_DROP_CNT.CNT`. Acknowledgement items dropped. -/
def LADL_ACK_DROP_CNT_CNT : Field :=
  { page := 0x11, off := 0x164, lo := 0, width := 32, acc := .rw, vmax := 4294967295 }

/-- R93: `LADL.MISMATCH_CNT.CNT`. Lane verdicts overruled by the counter check. -/
def LADL_MISMATCH_CNT_CNT : Field :=
  { page := 0x11, off := 0x168, lo := 0, width := 32, acc := .rw, vmax := 4294967295 }

/-- R93: `LADL.LAST_SEC_EVT.KIND`. 0 AUTH_FAIL, 1 REPLAY_REJECT. -/
def LADL_LAST_SEC_EVT_KIND : Field :=
  { page := 0x11, off := 0x16C, lo := 31, width := 1, acc := .ro, vmax := 1 }

/-- R93: `LADL.LAST_SEC_EVT.METER`. Meter index of the most recent such outcome. -/
def LADL_LAST_SEC_EVT_METER : Field :=
  { page := 0x11, off := 0x16C, lo := 0, width := 20, acc := .ro, vmax := 1048575 }

/-- Fields of page LADL, in table order (part). -/
def ladlFields0 : List Field :=
  [LADL_CTRL_ENABLE,
   LADL_STAT_ACK_STOPPED,
   LADL_STAT_PAIRED,
   LADL_STAT_STALLED,
   LADL_STAT_RECOVERING,
   LADL_COMMIT_NEXT_LO_ORDER,
   LADL_COMMIT_NEXT_HI_ORDER,
   LADL_WINDOW_USE_SLOTS,
   LADL_WINDOW_PEAK_SLOTS,
   LADL_GC_CFG_DURABLE_LIMIT,
   LADL_GC_CFG_PERIOD,
   LADL_STALL_LIMIT_US,
   LADL_GROUP_SEQ_LO_SEQ,
   LADL_GROUP_SEQ_HI_SEQ,
   LADL_DURABLE_SEQ_LO_SEQ,
   LADL_DURABLE_SEQ_HI_SEQ,
   LADL_DURABLE_ORDER_LO_ORDER,
   LADL_DURABLE_ORDER_HI_ORDER,
   LADL_PLACED_ORDER_LO_ORDER,
   LADL_PLACED_ORDER_HI_ORDER]

/-- Fields of page LADL, in table order (part). -/
def ladlFields1 : List Field :=
  [LADL_ACK_LAT_LAST_US,
   LADL_ACK_LAT_MAX_US,
   LADL_COMMITTED_LO_CNT,
   LADL_COMMITTED_HI_CNT,
   LADL_QUARANTINE_CNT_CNT,
   LADL_DUP_CNT_CNT,
   LADL_REPLAY_REJECT_CNT_CNT,
   LADL_AUTH_FAIL_CNT_CNT,
   LADL_NO_KEY_CNT_CNT,
   LADL_SQUASH_CNT_CNT,
   LADL_LATE_VERDICT_CNT_CNT,
   LADL_ACK_DROP_CNT_CNT,
   LADL_MISMATCH_CNT_CNT,
   LADL_LAST_SEC_EVT_KIND,
   LADL_LAST_SEC_EVT_METER]

/-- Every block-specific field of page LADL. -/
def ladlFields : List Field :=
  ladlFields0 ++
  ladlFields1

/-! Page SIEV. -/

/-- R129: `SIEV.CTRL.KAT_EN`. 1: periodic known-answer tests (R125). -/
def SIEV_CTRL_KAT_EN : Field :=
  { page := 0x12, off := 0x010, lo := 0, width := 1, reset := 1, acc := .rw, txn := .t, vmax := 1 }

/-- R129: `SIEV.STAT.LANE_FENCED`. At least one lane is FENCED. -/
def SIEV_STAT_LANE_FENCED : Field :=
  { page := 0x12, off := 0x014, lo := 0, width := 1, acc := .ro, vmax := 1 }

/-- R129: `SIEV.STAT.SWITCH_PENDING`. Frames stamped with the previous bank are in flight. -/
def SIEV_STAT_SWITCH_PENDING : Field :=
  { page := 0x12, off := 0x014, lo := 1, width := 1, acc := .ro, vmax := 1 }

/-- R129: `SIEV.STAT.IN_SERVICE`. Lanes in SERVICE, 0 to 32. -/
def SIEV_STAT_IN_SERVICE : Field :=
  { page := 0x12, off := 0x014, lo := 8, width := 6, acc := .ro, vmax := 63 }

/-- R129: `SIEV.IRQ_RAW.FENCE`. Latched: a lane was fenced. -/
def SIEV_IRQ_FENCE : Field := irqRaw (0x12) (0)

/-- R129: `SIEV.IRQ_RAW.SWITCHED`. Latched: SWITCH_PENDING became 0. -/
def SIEV_IRQ_SWITCHED : Field := irqRaw (0x12) (1)

/-- R129: `SIEV.IRQ_RAW.MOVE_DONE`. Latched: a group move completed. -/
def SIEV_IRQ_MOVE_DONE : Field := irqRaw (0x12) (2)

/-- R129: `SIEV.IRQ_RAW.EVT_DROP`. Latched: a lane event item was dropped. -/
def SIEV_IRQ_EVT_DROP : Field := irqRaw (0x12) (3)

/-- R129: `SIEV.FENCED_MASK.LANES`. Bit n: lane n is FENCED. -/
def SIEV_FENCED_MASK_LANES : Field :=
  { page := 0x12, off := 0x100, lo := 0, width := 32, acc := .ro, vmax := 4294967295 }

/-- R129: `SIEV.SERVICE_MASK.LANES`. Bit n: lane n is in SERVICE. -/
def SIEV_SERVICE_MASK_LANES : Field :=
  { page := 0x12, off := 0x104, lo := 0, width := 32, acc := .ro, vmax := 4294967295 }

/-- R129: `SIEV.PROG_SWITCH.BANK`. Bank stamped on frames ordered after the commit (R128). -/
def SIEV_PROG_SWITCH_BANK : Field :=
  { page := 0x12, off := 0x108, lo := 0, width := 1, acc := .rw, txn := .t, vmax := 1 }

/-- R129: `SIEV.CUR_DIGEST_LO.DIGEST`. Digest of the current bank, bits 31:0. -/
def SIEV_CUR_DIGEST_LO_DIGEST : Field :=
  { page := 0x12, off := 0x10C, lo := 0, width := 32, acc := .ro, vmax := 4294967295 }

/-- R129: `SIEV.CUR_DIGEST_HI.DIGEST`. Bits 63:32. -/
def SIEV_CUR_DIGEST_HI_DIGEST : Field :=
  { page := 0x12, off := 0x110, lo := 0, width := 32, acc := .ro, vmax := 4294967295 }

/-- R129: `SIEV.REC_WMASK.LINES`. Bit n: record line n open to effects; bits 3:0, 12 and 13 read 0 and ignore writes (R105). -/
def SIEV_REC_WMASK_LINES : Field :=
  { page := 0x12, off := 0x114, lo := 0, width := 16, reset := 32768, acc := .rw, txn := .t, vmax := 65535 }

/-- R129: `SIEV.FRAME_CYCLE_LIMIT.CYCLES`. 1,000 to 1,000,000; other values are refused with VALUE_REFUSED. -/
def SIEV_FRAME_CYCLE_LIMIT_CYCLES : Field :=
  { page := 0x12, off := 0x118, lo := 0, width := 20, reset := 64000, acc := .rw, txn := .t, vmin := 1000, vmax := 1000000 }

/-- R129: `SIEV.WDOG.US`. 100 to 10,000; other values are refused with VALUE_REFUSED. -/
def SIEV_WDOG_US : Field :=
  { page := 0x12, off := 0x11C, lo := 0, width := 14, reset := 1000, acc := .rw, txn := .t, vmin := 100, vmax := 10000 }

/-- R129: `SIEV.LANEMAP_SEL.GROUP`. Group shown in LANEMAP_DATA. -/
def SIEV_LANEMAP_SEL_GROUP : Field :=
  { page := 0x12, off := 0x120, lo := 0, width := 16, acc := .rw, vmax := 65535 }

/-- R129: `SIEV.LANEMAP_DATA.MOVED`. During a move, bit k: meter 16g + k has moved. -/
def SIEV_LANEMAP_DATA_MOVED : Field :=
  { page := 0x12, off := 0x124, lo := 16, width := 16, acc := .ro, vmax := 65535 }

/-- R129: `SIEV.LANEMAP_DATA.MOVING`. The group is moving. -/
def SIEV_LANEMAP_DATA_MOVING : Field :=
  { page := 0x12, off := 0x124, lo := 8, width := 1, acc := .ro, vmax := 1 }

/-- R129: `SIEV.LANEMAP_DATA.LANE`. Live map entry of the group in LANEMAP_SEL (R115); after INIT and at reset, g mod 32. A write requests a move (R116).. Reset in the table: Map entry. -/
def SIEV_LANEMAP_DATA_LANE : Field :=
  { page := 0x12, off := 0x124, lo := 0, width := 5, acc := .rw, own := true, vmax := 31 }

/-- R129: `SIEV.LANEMAP_CTRL.MOVING_CNT`. Groups moving, 0 to 64. -/
def SIEV_LANEMAP_CTRL_MOVING_CNT : Field :=
  { page := 0x12, off := 0x128, lo := 16, width := 7, acc := .ro, vmax := 127 }

/-- R129: `SIEV.LANEMAP_CTRL.INIT`. Fill the map with lane (g mod 32); clears itself. -/
def SIEV_LANEMAP_CTRL_INIT : Field :=
  { page := 0x12, off := 0x128, lo := 0, width := 1, acc := .w1s, own := true, vmax := 1 }

/-- R129: `SIEV.FENCE_CNT.CNT`. Lane fences. -/
def SIEV_FENCE_CNT_CNT : Field :=
  { page := 0x12, off := 0x12C, lo := 0, width := 32, acc := .rw, vmax := 4294967295 }

/-- R129: `SIEV.HW_QUAR_CNT.CNT`. Hardware quarantines, all lanes. -/
def SIEV_HW_QUAR_CNT_CNT : Field :=
  { page := 0x12, off := 0x130, lo := 0, width := 32, acc := .rw, vmax := 4294967295 }

/-- R129: `SIEV.EVT_DROP_CNT.CNT`. Lane event items dropped. -/
def SIEV_EVT_DROP_CNT_CNT : Field :=
  { page := 0x12, off := 0x134, lo := 0, width := 32, acc := .rw, vmax := 4294967295 }

/-- Fields of page SIEV, in table order (part). -/
def sievFields0 : List Field :=
  [SIEV_CTRL_KAT_EN,
   SIEV_STAT_LANE_FENCED,
   SIEV_STAT_SWITCH_PENDING,
   SIEV_STAT_IN_SERVICE,
   SIEV_FENCED_MASK_LANES,
   SIEV_SERVICE_MASK_LANES,
   SIEV_PROG_SWITCH_BANK,
   SIEV_CUR_DIGEST_LO_DIGEST,
   SIEV_CUR_DIGEST_HI_DIGEST,
   SIEV_REC_WMASK_LINES,
   SIEV_FRAME_CYCLE_LIMIT_CYCLES,
   SIEV_WDOG_US,
   SIEV_LANEMAP_SEL_GROUP,
   SIEV_LANEMAP_DATA_MOVED,
   SIEV_LANEMAP_DATA_MOVING,
   SIEV_LANEMAP_DATA_LANE,
   SIEV_LANEMAP_CTRL_MOVING_CNT,
   SIEV_LANEMAP_CTRL_INIT,
   SIEV_FENCE_CNT_CNT,
   SIEV_HW_QUAR_CNT_CNT]

/-- Fields of page SIEV, in table order (part). -/
def sievFields1 : List Field :=
  [SIEV_EVT_DROP_CNT_CNT]

/-- Every block-specific field of page SIEV. -/
def sievFields : List Field :=
  sievFields0 ++
  sievFields1

/-! Page DIR. -/

/-- R150: `DIR.CTRL.ENABLE`. 1: the table engine serves lookups and commands. -/
def DIR_CTRL_ENABLE : Field :=
  { page := 0x14, off := 0x010, lo := 0, width := 1, acc := .rw, txn := .t, vmax := 1 }

/-- R150: `DIR.CTRL.ROUTE_EVICT`. 0 OLDEST, 1 PSEUDO_RANDOM (R140). -/
def DIR_CTRL_ROUTE_EVICT : Field :=
  { page := 0x14, off := 0x010, lo := 1, width := 1, acc := .rw, txn := .t, vmax := 1 }

/-- R150: `DIR.STAT.REBUILDING`. Tables being built (R149). -/
def DIR_STAT_REBUILDING : Field :=
  { page := 0x14, off := 0x014, lo := 0, width := 1, acc := .ro, vmax := 1 }

/-- R150: `DIR.STAT.OVF_HIGH`. OVF_USE ≥ OVF_MARK. -/
def DIR_STAT_OVF_HIGH : Field :=
  { page := 0x14, off := 0x014, lo := 1, width := 1, acc := .ro, vmax := 1 }

/-- R150: `DIR.STAT.LOCKS`. Buckets locked, 0 to 4. -/
def DIR_STAT_LOCKS : Field :=
  { page := 0x14, off := 0x014, lo := 8, width := 3, acc := .ro, vmax := 7 }

/-- R150: `DIR.IRQ_RAW.DIR_FULL`. Latched: an insert was refused with DIR_FULL. -/
def DIR_IRQ_DIR_FULL : Field := irqRaw (0x14) (0)

/-- R150: `DIR.IRQ_RAW.PARITY`. Latched: an entry failed parity. -/
def DIR_IRQ_PARITY : Field := irqRaw (0x14) (1)

/-- R150: `DIR.IRQ_RAW.LOCK_TIMEOUT`. Latched: a lock was released by timeout. -/
def DIR_IRQ_LOCK_TIMEOUT : Field := irqRaw (0x14) (2)

/-- R150: `DIR.IRQ_RAW.OVF_HIGH`. Latched when STAT.OVF_HIGH becomes 1. -/
def DIR_IRQ_OVF_HIGH : Field := irqRaw (0x14) (3)

/-- R150: `DIR.IRQ_RAW.SUSPECT`. Latched: a ledger bucket became SUSPECT. -/
def DIR_IRQ_SUSPECT : Field := irqRaw (0x14) (4)

/-- R150: `DIR.IRQ_RAW.REBUILT`. Latched: REBUILDING became 0. -/
def DIR_IRQ_REBUILT : Field := irqRaw (0x14) (5)

/-- R150: `DIR.DIR_USE.ENTRIES`. Valid directory entries, overflow included. -/
def DIR_DIR_USE_ENTRIES : Field :=
  { page := 0x14, off := 0x100, lo := 0, width := 21, acc := .ro, vmax := 2097151 }

/-- R150: `DIR.OVF_USE.ENTRIES`. Overflow slots used. -/
def DIR_OVF_USE_ENTRIES : Field :=
  { page := 0x14, off := 0x104, lo := 0, width := 17, acc := .ro, vmax := 131071 }

/-- R150: `DIR.OVF_PEAK.ENTRIES`. Highest OVF_USE since the last read. -/
def DIR_OVF_PEAK_ENTRIES : Field :=
  { page := 0x14, off := 0x108, lo := 0, width := 17, acc := .rc, vmax := 131071 }

/-- R150: `DIR.OVF_MARK.ENTRIES`. Threshold for OVF_HIGH. -/
def DIR_OVF_MARK_ENTRIES : Field :=
  { page := 0x14, off := 0x10C, lo := 0, width := 17, reset := 49152, acc := .rw, vmax := 131071 }

/-- R150: `DIR.ROUTE_USE.ENTRIES`. Valid route entries. -/
def DIR_ROUTE_USE_ENTRIES : Field :=
  { page := 0x14, off := 0x110, lo := 0, width := 21, acc := .ro, vmax := 2097151 }

/-- R150: `DIR.ROUTE_EVICT_CNT.CNT`. Route evictions. -/
def DIR_ROUTE_EVICT_CNT_CNT : Field :=
  { page := 0x14, off := 0x114, lo := 0, width := 32, acc := .rw, vmax := 4294967295 }

/-- R150: `DIR.LEDGER_USE.ENTRIES`. Valid ledger entries. -/
def DIR_LEDGER_USE_ENTRIES : Field :=
  { page := 0x14, off := 0x118, lo := 0, width := 23, acc := .ro, vmax := 8388607 }

/-- R150: `DIR.LEDGER_EVICT_CNT.CNT`. Ledger evictions. -/
def DIR_LEDGER_EVICT_CNT_CNT : Field :=
  { page := 0x14, off := 0x11C, lo := 0, width := 32, acc := .rw, vmax := 4294967295 }

/-- R150: `DIR.PARITY_CNT.CNT`. Entries that failed parity. -/
def DIR_PARITY_CNT_CNT : Field :=
  { page := 0x14, off := 0x120, lo := 0, width := 32, acc := .rw, vmax := 4294967295 }

/-- R150: `DIR.LAST_PARITY.TABLE`. 0 directory, 1 overflow, 2 route, 3 ledger. -/
def DIR_LAST_PARITY_TABLE : Field :=
  { page := 0x14, off := 0x124, lo := 30, width := 2, acc := .ro, vmax := 3 }

/-- R150: `DIR.LAST_PARITY.WAY`. Way; 0 for overflow. -/
def DIR_LAST_PARITY_WAY : Field :=
  { page := 0x14, off := 0x124, lo := 20, width := 2, acc := .ro, vmax := 3 }

/-- R150: `DIR.LAST_PARITY.BUCKET`. Bucket, or overflow slot. -/
def DIR_LAST_PARITY_BUCKET : Field :=
  { page := 0x14, off := 0x124, lo := 0, width := 20, acc := .ro, vmax := 1048575 }

/-- R150: `DIR.LOCK_LIMIT.US`. µs, 10 to 10,000; other values are refused with VALUE_REFUSED. -/
def DIR_LOCK_LIMIT_US : Field :=
  { page := 0x14, off := 0x128, lo := 0, width := 14, reset := 100, acc := .rw, txn := .t, vmin := 10, vmax := 10000 }

/-- R150: `DIR.LOOKUPS_LO.CNT`. Directory lookups, bits 31:0. -/
def DIR_LOOKUPS_LO_CNT : Field :=
  { page := 0x14, off := 0x12C, lo := 0, width := 32, acc := .ro, vmax := 4294967295 }

/-- R150: `DIR.LOOKUPS_HI.CNT`. Bits 47:32. -/
def DIR_LOOKUPS_HI_CNT : Field :=
  { page := 0x14, off := 0x130, lo := 0, width := 16, acc := .ro, vmax := 65535 }

/-- R150: `DIR.OVF_SEARCH_CNT.CNT`. Tag filter searches. -/
def DIR_OVF_SEARCH_CNT_CNT : Field :=
  { page := 0x14, off := 0x134, lo := 0, width := 32, acc := .rw, vmax := 4294967295 }

/-- R150: `DIR.SUSPECT_CNT.BUCKETS`. Ledger buckets now SUSPECT. -/
def DIR_SUSPECT_CNT_BUCKETS : Field :=
  { page := 0x14, off := 0x138, lo := 0, width := 20, acc := .ro, vmax := 1048575 }

/-- R150: `DIR.SUSPECT_CLR.BUCKET`. Clears SUSPECT of the bucket written. -/
def DIR_SUSPECT_CLR_BUCKET : Field :=
  { page := 0x14, off := 0x13C, lo := 0, width := 20, acc := .wo, own := true, vmax := 1048575 }

/-- R150: `DIR.ROLE_LIMIT.METERS`. 16,384 in FIELD, 1,048,576 otherwise. Follows the role read at the last start-up (R1), not a role written to the signed configuration since.. -/
def DIR_ROLE_LIMIT_METERS : Field :=
  { page := 0x14, off := 0x140, lo := 0, width := 21, reset := 16384, acc := .ro, vmax := 2097151 }

/-- Fields of page DIR, in table order (part). -/
def dirFields0 : List Field :=
  [DIR_CTRL_ENABLE,
   DIR_CTRL_ROUTE_EVICT,
   DIR_STAT_REBUILDING,
   DIR_STAT_OVF_HIGH,
   DIR_STAT_LOCKS,
   DIR_DIR_USE_ENTRIES,
   DIR_OVF_USE_ENTRIES,
   DIR_OVF_PEAK_ENTRIES,
   DIR_OVF_MARK_ENTRIES,
   DIR_ROUTE_USE_ENTRIES,
   DIR_ROUTE_EVICT_CNT_CNT,
   DIR_LEDGER_USE_ENTRIES,
   DIR_LEDGER_EVICT_CNT_CNT,
   DIR_PARITY_CNT_CNT,
   DIR_LAST_PARITY_TABLE,
   DIR_LAST_PARITY_WAY,
   DIR_LAST_PARITY_BUCKET,
   DIR_LOCK_LIMIT_US,
   DIR_LOOKUPS_LO_CNT,
   DIR_LOOKUPS_HI_CNT]

/-- Fields of page DIR, in table order (part). -/
def dirFields1 : List Field :=
  [DIR_OVF_SEARCH_CNT_CNT,
   DIR_SUSPECT_CNT_BUCKETS,
   DIR_SUSPECT_CLR_BUCKET,
   DIR_ROLE_LIMIT_METERS]

/-- Every block-specific field of page DIR. -/
def dirFields : List Field :=
  dirFields0 ++
  dirFields1

/-! Page BAL. -/

/-- R172: `BAL.CTRL.ENABLE`. 1: markers are placed and posts are taken (R156). -/
def BAL_CTRL_ENABLE : Field :=
  { page := 0x15, off := 0x010, lo := 0, width := 1, acc := .rw, txn := .t, vmax := 1 }

/-- R172: `BAL.STAT.STARTED`. A marker has been applied since enable. -/
def BAL_STAT_STARTED : Field :=
  { page := 0x15, off := 0x014, lo := 0, width := 1, acc := .ro, vmax := 1 }

/-- R172: `BAL.STAT.SWEEPING`. A sweep is running. -/
def BAL_STAT_SWEEPING : Field :=
  { page := 0x15, off := 0x014, lo := 1, width := 1, acc := .ro, vmax := 1 }

/-- R172: `BAL.STAT.REPORT_STALL`. The sweep waits for report credit. -/
def BAL_STAT_REPORT_STALL : Field :=
  { page := 0x15, off := 0x014, lo := 2, width := 1, acc := .ro, vmax := 1 }

/-- R172: `BAL.STAT.MARKER_WAIT`. A marker waits under R163. -/
def BAL_STAT_MARKER_WAIT : Field :=
  { page := 0x15, off := 0x014, lo := 3, width := 1, acc := .ro, vmax := 1 }

/-- R172: `BAL.STAT.BACKLOG`. Closes queued behind the running sweep. -/
def BAL_STAT_BACKLOG : Field :=
  { page := 0x15, off := 0x014, lo := 4, width := 4, acc := .ro, vmax := 15 }

/-- R172: `BAL.IRQ_RAW.CLOSED`. Latched: a node pass completed. -/
def BAL_IRQ_CLOSED : Field := irqRaw (0x15) (0)

/-- R172: `BAL.IRQ_RAW.REVISED`. Latched: a REVISE report was issued. -/
def BAL_IRQ_REVISED : Field := irqRaw (0x15) (1)

/-- R172: `BAL.IRQ_RAW.MISMAP`. Latched: a meter's MISMAP was set. -/
def BAL_IRQ_MISMAP : Field := irqRaw (0x15) (2)

/-- R172: `BAL.IRQ_RAW.BYPASS`. Latched: a meter's BYPASS was set. -/
def BAL_IRQ_BYPASS : Field := irqRaw (0x15) (3)

/-- R172: `BAL.IRQ_RAW.REPORT_STALL`. Latched when STAT.REPORT_STALL becomes 1. -/
def BAL_IRQ_REPORT_STALL : Field := irqRaw (0x15) (4)

/-- R172: `BAL.IRQ_RAW.MARKER_WAIT`. Latched when STAT.MARKER_WAIT becomes 1. -/
def BAL_IRQ_MARKER_WAIT : Field := irqRaw (0x15) (5)

/-- R172: `BAL.IRQ_RAW.DATA_ERR`. Latched: DATA_ERROR given to a node. -/
def BAL_IRQ_DATA_ERR : Field := irqRaw (0x15) (6)

/-- R172: `BAL.CFG.ILEN`. Interval length code as in R40; refused with VALUE_REFUSED while ENABLE = 1 or in the same transaction that sets ENABLE. -/
def BAL_CFG_ILEN : Field :=
  { page := 0x15, off := 0x100, lo := 0, width := 3, reset := 2, acc := .rw, txn := .t, vmin := 0, vmax := 4 }

/-- R172: `BAL.CFG.GRACE`. 0 to 8 intervals; other values refused with VALUE_REFUSED. -/
def BAL_CFG_GRACE : Field :=
  { page := 0x15, off := 0x100, lo := 4, width := 4, reset := 1, acc := .rw, txn := .t, vmin := 0, vmax := 8 }

/-- R172: `BAL.CUR_IVL.IVL`. Interval of the latest marker. -/
def BAL_CUR_IVL_IVL : Field :=
  { page := 0x15, off := 0x104, lo := 0, width := 32, acc := .ro, vmax := 4294967295 }

/-- R172: `BAL.CLOSED_IVL.IVL`. Latest closed interval. -/
def BAL_CLOSED_IVL_IVL : Field :=
  { page := 0x15, off := 0x108, lo := 0, width := 32, acc := .ro, vmax := 4294967295 }

/-- R172: `BAL.FIRST_IVL.IVL`. Interval of the first marker since enable. -/
def BAL_FIRST_IVL_IVL : Field :=
  { page := 0x15, off := 0x10C, lo := 0, width := 32, acc := .ro, vmax := 4294967295 }

/-- R172: `BAL.BYPASS_CFG.RATIO`. LOW threshold in 1/256 of the baseline, 1 to 255. -/
def BAL_BYPASS_CFG_RATIO : Field :=
  { page := 0x15, off := 0x110, lo := 0, width := 8, reset := 64, acc := .rw, txn := .t, vmin := 1, vmax := 255 }

/-- R172: `BAL.BYPASS_CFG.TRIP`. BYPASS_SCORE that sets BYPASS, 1 to 255. -/
def BAL_BYPASS_CFG_TRIP : Field :=
  { page := 0x15, off := 0x110, lo := 8, width := 8, reset := 8, acc := .rw, txn := .t, vmin := 1, vmax := 255 }

/-- R172: `BAL.BYPASS_MIN.MWH`. Smallest average import that LOW considers. -/
def BAL_BYPASS_MIN_MWH : Field :=
  { page := 0x15, off := 0x114, lo := 0, width := 32, reset := 50000, acc := .rw, txn := .t, vmax := 4294967295 }

/-- R172: `BAL.AUDIT_CFG.R_MIN`. Correlation limit, signed Q15 (0.60). -/
def BAL_AUDIT_CFG_R_MIN : Field :=
  { page := 0x15, off := 0x118, lo := 0, width := 16, reset := 19661, acc := .rw, txn := .t, vmax := 65535 }

/-- R172: `BAL.AUDIT_CFG.VAR_MIN`. Least reference variance, (25 mV)² units. -/
def BAL_AUDIT_CFG_VAR_MIN : Field :=
  { page := 0x15, off := 0x118, lo := 16, width := 16, reset := 4, acc := .rw, txn := .t, vmax := 65535 }

/-- R172: `BAL.NODES_USED.NODES`. VALID nodes. -/
def BAL_NODES_USED_NODES : Field :=
  { page := 0x15, off := 0x11C, lo := 0, width := 17, acc := .ro, vmax := 131071 }

/-- R172: `BAL.METERS_ASSIGNED.METERS`. Meters with a role. -/
def BAL_METERS_ASSIGNED_METERS : Field :=
  { page := 0x15, off := 0x120, lo := 0, width := 21, acc := .ro, vmax := 2097151 }

/-- R172: `BAL.UNASSIGNED_CNT.CNT`. Posts from meters with no role. -/
def BAL_UNASSIGNED_CNT_CNT : Field :=
  { page := 0x15, off := 0x124, lo := 0, width := 32, acc := .rw, vmax := 4294967295 }

/-- R172: `BAL.NOT_STARTED_CNT.CNT`. NOT_STARTED posts. -/
def BAL_NOT_STARTED_CNT_CNT : Field :=
  { page := 0x15, off := 0x128, lo := 0, width := 32, acc := .rw, vmax := 4294967295 }

/-- R172: `BAL.FUTURE_CNT.CNT`. FUTURE posts. -/
def BAL_FUTURE_CNT_CNT : Field :=
  { page := 0x15, off := 0x12C, lo := 0, width := 32, acc := .rw, vmax := 4294967295 }

/-- R172: `BAL.EXPIRED_CNT.CNT`. EXPIRED posts. -/
def BAL_EXPIRED_CNT_CNT : Field :=
  { page := 0x15, off := 0x130, lo := 0, width := 32, acc := .rw, vmax := 4294967295 }

/-- R172: `BAL.LATE_CNT.CNT`. LATE posts. -/
def BAL_LATE_CNT_CNT : Field :=
  { page := 0x15, off := 0x134, lo := 0, width := 32, acc := .rw, vmax := 4294967295 }

/-- R172: `BAL.REVISION_CNT.CNT`. REVISE reports. -/
def BAL_REVISION_CNT_CNT : Field :=
  { page := 0x15, off := 0x138, lo := 0, width := 32, acc := .rw, vmax := 4294967295 }

/-- R172: `BAL.MISMAP_NOW.METERS`. Meters with MISMAP set. -/
def BAL_MISMAP_NOW_METERS : Field :=
  { page := 0x15, off := 0x13C, lo := 0, width := 21, acc := .ro, vmax := 2097151 }

/-- R172: `BAL.BYPASS_NOW.METERS`. Meters with BYPASS set. -/
def BAL_BYPASS_NOW_METERS : Field :=
  { page := 0x15, off := 0x140, lo := 0, width := 21, acc := .ro, vmax := 2097151 }

/-- R172: `BAL.DATA_ERR_CNT.CNT`. Posts discarded under DATA_ERROR. -/
def BAL_DATA_ERR_CNT_CNT : Field :=
  { page := 0x15, off := 0x144, lo := 0, width := 32, acc := .rw, vmax := 4294967295 }

/-- R172: `BAL.SWEEP_LAST.US`. Duration of the latest complete sweep. -/
def BAL_SWEEP_LAST_US : Field :=
  { page := 0x15, off := 0x148, lo := 0, width := 24, acc := .ro, vmax := 16777215 }

/-- Fields of page BAL, in table order (part). -/
def balFields0 : List Field :=
  [BAL_CTRL_ENABLE,
   BAL_STAT_STARTED,
   BAL_STAT_SWEEPING,
   BAL_STAT_REPORT_STALL,
   BAL_STAT_MARKER_WAIT,
   BAL_STAT_BACKLOG,
   BAL_CFG_ILEN,
   BAL_CFG_GRACE,
   BAL_CUR_IVL_IVL,
   BAL_CLOSED_IVL_IVL,
   BAL_FIRST_IVL_IVL,
   BAL_BYPASS_CFG_RATIO,
   BAL_BYPASS_CFG_TRIP,
   BAL_BYPASS_MIN_MWH,
   BAL_AUDIT_CFG_R_MIN,
   BAL_AUDIT_CFG_VAR_MIN,
   BAL_NODES_USED_NODES,
   BAL_METERS_ASSIGNED_METERS,
   BAL_UNASSIGNED_CNT_CNT,
   BAL_NOT_STARTED_CNT_CNT]

/-- Fields of page BAL, in table order (part). -/
def balFields1 : List Field :=
  [BAL_FUTURE_CNT_CNT,
   BAL_EXPIRED_CNT_CNT,
   BAL_LATE_CNT_CNT,
   BAL_REVISION_CNT_CNT,
   BAL_MISMAP_NOW_METERS,
   BAL_BYPASS_NOW_METERS,
   BAL_DATA_ERR_CNT_CNT,
   BAL_SWEEP_LAST_US]

/-- Every block-specific field of page BAL. -/
def balFields : List Field :=
  balFields0 ++
  balFields1

/-! Page BILL. -/

/-- R201: `BILL.CTRL.ENABLE`. 1: markers are placed and billing inputs are taken. -/
def BILL_CTRL_ENABLE : Field :=
  { page := 0x16, off := 0x010, lo := 0, width := 1, acc := .rw, txn := .t, vmax := 1 }

/-- R201: `BILL.STAT.DEM_SWEEP`. A demand sweep is running. -/
def BILL_STAT_DEM_SWEEP : Field :=
  { page := 0x16, off := 0x014, lo := 0, width := 1, acc := .ro, vmax := 1 }

/-- R201: `BILL.STAT.CLOSE_SWEEP`. A close sweep is running. -/
def BILL_STAT_CLOSE_SWEEP : Field :=
  { page := 0x16, off := 0x014, lo := 1, width := 1, acc := .ro, vmax := 1 }

/-- R201: `BILL.STAT.CKPT_OPEN`. A checkpoint is open. -/
def BILL_STAT_CKPT_OPEN : Field :=
  { page := 0x16, off := 0x014, lo := 2, width := 1, acc := .ro, vmax := 1 }

/-- R201: `BILL.STAT.CKPT_PHASE`. Checkpoint phase (R191). -/
def BILL_STAT_CKPT_PHASE : Field :=
  { page := 0x16, off := 0x014, lo := 3, width := 1, acc := .ro, vmax := 1 }

/-- R201: `BILL.STAT.MARKER_WAIT`. A CLOSE waits under R188. -/
def BILL_STAT_MARKER_WAIT : Field :=
  { page := 0x16, off := 0x014, lo := 4, width := 1, acc := .ro, vmax := 1 }

/-- R201: `BILL.STAT.CLOSE_BACKLOG`. Closes queued, 0 to 4. -/
def BILL_STAT_CLOSE_BACKLOG : Field :=
  { page := 0x16, off := 0x014, lo := 8, width := 3, acc := .ro, vmax := 7 }

/-- R201: `BILL.IRQ_RAW.CLOSED`. Latched: a close sweep completed. -/
def BILL_IRQ_CLOSED : Field := irqRaw (0x16) (0)

/-- R201: `BILL.IRQ_RAW.CKPT_DONE`. Latched. -/
def BILL_IRQ_CKPT_DONE : Field := irqRaw (0x16) (1)

/-- R201: `BILL.IRQ_RAW.TOKEN_REFUSED`. Latched: a token result other than ACCEPTED. -/
def BILL_IRQ_TOKEN_REFUSED : Field := irqRaw (0x16) (2)

/-- R201: `BILL.IRQ_RAW.CREDIT`. Latched: CREDIT_LOW or CREDIT_OUT was set. -/
def BILL_IRQ_CREDIT : Field := irqRaw (0x16) (3)

/-- R201: `BILL.IRQ_RAW.TAMPER`. Latched: a tamper class was set. -/
def BILL_IRQ_TAMPER : Field := irqRaw (0x16) (4)

/-- R201: `BILL.IRQ_RAW.MARKER_WAIT`. Latched when STAT.MARKER_WAIT becomes 1. -/
def BILL_IRQ_MARKER_WAIT : Field := irqRaw (0x16) (5)

/-- R201: `BILL.IRQ_RAW.RPT_DROP`. Latched: a report was dropped. -/
def BILL_IRQ_RPT_DROP : Field := irqRaw (0x16) (6)

/-- R201: `BILL.CLOSE_CFG.MODE`. 0 MONTHLY, 1 DAILY, 2 OFF. -/
def BILL_CLOSE_CFG_MODE : Field :=
  { page := 0x16, off := 0x100, lo := 0, width := 2, reset := 2, acc := .rw, txn := .t, vmax := 3 }

/-- R201: `BILL.CLOSE_CFG.DAY`. 1 to 28. -/
def BILL_CLOSE_CFG_DAY : Field :=
  { page := 0x16, off := 0x100, lo := 4, width := 5, reset := 1, acc := .rw, txn := .t, vmin := 1, vmax := 28 }

/-- R201: `BILL.CLOSE_CFG.MIN`. 0 to 1,439. -/
def BILL_CLOSE_CFG_MIN : Field :=
  { page := 0x16, off := 0x100, lo := 16, width := 11, acc := .rw, txn := .t, vmin := 0, vmax := 1439 }

/-- R201: `BILL.LAST_CLOSED.B`. Last closed boundary. -/
def BILL_LAST_CLOSED_B : Field :=
  { page := 0x16, off := 0x104, lo := 0, width := 32, acc := .ro, vmax := 4294967295 }

/-- R201: `BILL.PERIOD_START.SEC`. UTC s (R187). -/
def BILL_PERIOD_START_SEC : Field :=
  { page := 0x16, off := 0x108, lo := 0, width := 32, acc := .ro, vmax := 4294967295 }

/-- R201: `BILL.NEXT_CLOSE.SEC`. UTC s of the next boundary. -/
def BILL_NEXT_CLOSE_SEC : Field :=
  { page := 0x16, off := 0x10C, lo := 0, width := 32, acc := .ro, vmax := 4294967295 }

/-- R201: `BILL.DEM_CFG.SUB`. Demand sub-interval code as in R40. -/
def BILL_DEM_CFG_SUB : Field :=
  { page := 0x16, off := 0x110, lo := 0, width := 3, reset := 2, acc := .rw, txn := .t, vmin := 0, vmax := 4 }

/-- R201: `BILL.DEM_CFG.GRACE`. 0 to 8; refused with VALUE_REFUSED outside the range or under R181. -/
def BILL_DEM_CFG_GRACE : Field :=
  { page := 0x16, off := 0x110, lo := 8, width := 4, acc := .rw, txn := .t, vmin := 0, vmax := 8 }

/-- R201: `BILL.DEM_CUR.K`. Sub-interval of the latest DEMAND. -/
def BILL_DEM_CUR_K : Field :=
  { page := 0x16, off := 0x114, lo := 0, width := 32, acc := .ro, vmax := 4294967295 }

/-- R201: `BILL.DEM_CLOSED.K`. Latest closed sub-interval. -/
def BILL_DEM_CLOSED_K : Field :=
  { page := 0x16, off := 0x118, lo := 0, width := 32, acc := .ro, vmax := 4294967295 }

/-- R201: `BILL.CKPT_CFG.PERIOD`. Minutes, 5 to 60. -/
def BILL_CKPT_CFG_PERIOD : Field :=
  { page := 0x16, off := 0x11C, lo := 0, width := 6, reset := 15, acc := .rw, txn := .t, vmin := 5, vmax := 60 }

/-- R201: `BILL.CKPT_CFG.SPREAD`. Sweep spread in s, 10 to 600. -/
def BILL_CKPT_CFG_SPREAD : Field :=
  { page := 0x16, off := 0x11C, lo := 16, width := 10, reset := 300, acc := .rw, txn := .t, vmin := 10, vmax := 600 }

/-- R201: `BILL.CKPT_ORDER_LO.ORDER`. Bits 31:0. -/
def BILL_CKPT_ORDER_LO_ORDER : Field :=
  { page := 0x16, off := 0x120, lo := 0, width := 32, acc := .ro, vmax := 4294967295 }

/-- R201: `BILL.CKPT_ORDER_HI.ORDER`. Bits 47:32. -/
def BILL_CKPT_ORDER_HI_ORDER : Field :=
  { page := 0x16, off := 0x124, lo := 0, width := 16, acc := .ro, vmax := 65535 }

/-- R201: `BILL.TAMPER_CFG.CLASS`. 4 bits per class k at bits 4k+3:4k: bit 0 REPORT, bit 1 BLOCK_TOKENS, bit 2 CLEAR_BY_METER. -/
def BILL_TAMPER_CFG_CLASS : Field :=
  { page := 0x16, off := 0x128, lo := 0, width := 16, reset := 21845, acc := .rw, txn := .t, vmax := 65535 }

/-- R201: `BILL.TOK_D0.DIGITS`. Token digits 1–5 as a number 0–99,999. -/
def BILL_TOK_D0_DIGITS : Field :=
  { page := 0x16, off := 0x12C, lo := 0, width := 17, acc := .rw, vmax := 131071 }

/-- R201: `BILL.TOK_D1.DIGITS`. Digits 6–10. -/
def BILL_TOK_D1_DIGITS : Field :=
  { page := 0x16, off := 0x130, lo := 0, width := 17, acc := .rw, vmax := 131071 }

/-- R201: `BILL.TOK_D2.DIGITS`. Digits 11–15. -/
def BILL_TOK_D2_DIGITS : Field :=
  { page := 0x16, off := 0x134, lo := 0, width := 17, acc := .rw, vmax := 131071 }

/-- R201: `BILL.TOK_D3.DIGITS`. Digits 16–20. -/
def BILL_TOK_D3_DIGITS : Field :=
  { page := 0x16, off := 0x138, lo := 0, width := 17, acc := .rw, vmax := 131071 }

/-- R201: `BILL.TOK_GO.GO`. Submit for the meter in METER; clears itself when the entry is ordered. -/
def BILL_TOK_GO_GO : Field :=
  { page := 0x16, off := 0x13C, lo := 31, width := 1, acc := .w1s, own := true, vmax := 1 }

/-- R201: `BILL.TOK_GO.METER`. Meter index. -/
def BILL_TOK_GO_METER : Field :=
  { page := 0x16, off := 0x13C, lo := 0, width := 20, acc := .rw, vmax := 1048575 }

/-- R201: `BILL.TOKEN_OK_CNT.CNT`. Tokens accepted. -/
def BILL_TOKEN_OK_CNT_CNT : Field :=
  { page := 0x16, off := 0x140, lo := 0, width := 32, acc := .rw, vmax := 4294967295 }

/-- R201: `BILL.TOKEN_REFUSED_CNT.CNT`. Tokens refused. -/
def BILL_TOKEN_REFUSED_CNT_CNT : Field :=
  { page := 0x16, off := 0x144, lo := 0, width := 32, acc := .rw, vmax := 4294967295 }

/-- R201: `BILL.LATE_CNT.CNT`. Frames redirected under R190. -/
def BILL_LATE_CNT_CNT : Field :=
  { page := 0x16, off := 0x148, lo := 0, width := 32, acc := .rw, vmax := 4294967295 }

/-- R201: `BILL.DEM_LATE_CNT.CNT`. Posts and outage marks refused under R183 and R185. -/
def BILL_DEM_LATE_CNT_CNT : Field :=
  { page := 0x16, off := 0x14C, lo := 0, width := 32, acc := .rw, vmax := 4294967295 }

/-- R201: `BILL.EVT_IGNORED_CNT.CNT`. Billing events ignored or refused. -/
def BILL_EVT_IGNORED_CNT_CNT : Field :=
  { page := 0x16, off := 0x150, lo := 0, width := 32, acc := .rw, vmax := 4294967295 }

/-- R201: `BILL.RPT_DROP_CNT.CNT`. Reports dropped. -/
def BILL_RPT_DROP_CNT_CNT : Field :=
  { page := 0x16, off := 0x154, lo := 0, width := 32, acc := .rw, vmax := 4294967295 }

/-- R201: `BILL.SWEEP_LAST.US`. Duration of the latest close sweep. -/
def BILL_SWEEP_LAST_US : Field :=
  { page := 0x16, off := 0x158, lo := 0, width := 24, acc := .ro, vmax := 16777215 }

/-- R201: `BILL.LAST_TOKEN.METER`. Meter of the latest token. -/
def BILL_LAST_TOKEN_METER : Field :=
  { page := 0x16, off := 0x15C, lo := 0, width := 20, acc := .ro, vmax := 1048575 }

/-- R201: `BILL.LAST_TOKEN.RESULT`. Its result, R196. -/
def BILL_LAST_TOKEN_RESULT : Field :=
  { page := 0x16, off := 0x15C, lo := 24, width := 3, acc := .ro, vmax := 7 }

/-- Fields of page BILL, in table order (part). -/
def billFields0 : List Field :=
  [BILL_CTRL_ENABLE,
   BILL_STAT_DEM_SWEEP,
   BILL_STAT_CLOSE_SWEEP,
   BILL_STAT_CKPT_OPEN,
   BILL_STAT_CKPT_PHASE,
   BILL_STAT_MARKER_WAIT,
   BILL_STAT_CLOSE_BACKLOG,
   BILL_CLOSE_CFG_MODE,
   BILL_CLOSE_CFG_DAY,
   BILL_CLOSE_CFG_MIN,
   BILL_LAST_CLOSED_B,
   BILL_PERIOD_START_SEC,
   BILL_NEXT_CLOSE_SEC,
   BILL_DEM_CFG_SUB,
   BILL_DEM_CFG_GRACE,
   BILL_DEM_CUR_K,
   BILL_DEM_CLOSED_K,
   BILL_CKPT_CFG_PERIOD,
   BILL_CKPT_CFG_SPREAD,
   BILL_CKPT_ORDER_LO_ORDER]

/-- Fields of page BILL, in table order (part). -/
def billFields1 : List Field :=
  [BILL_CKPT_ORDER_HI_ORDER,
   BILL_TAMPER_CFG_CLASS,
   BILL_TOK_D0_DIGITS,
   BILL_TOK_D1_DIGITS,
   BILL_TOK_D2_DIGITS,
   BILL_TOK_D3_DIGITS,
   BILL_TOK_GO_GO,
   BILL_TOK_GO_METER,
   BILL_TOKEN_OK_CNT_CNT,
   BILL_TOKEN_REFUSED_CNT_CNT,
   BILL_LATE_CNT_CNT,
   BILL_DEM_LATE_CNT_CNT,
   BILL_EVT_IGNORED_CNT_CNT,
   BILL_RPT_DROP_CNT_CNT,
   BILL_SWEEP_LAST_US,
   BILL_LAST_TOKEN_METER,
   BILL_LAST_TOKEN_RESULT]

/-- Every block-specific field of page BILL. -/
def billFields : List Field :=
  billFields0 ++
  billFields1

/-! Page CAL. -/

/-- R202: `CAL.CTRL.ENABLE`. 1: CAL resolves times. -/
def CAL_CTRL_ENABLE : Field :=
  { page := 0x17, off := 0x010, lo := 0, width := 1, acc := .rw, txn := .t, vmax := 1 }

/-- R202: `CAL.STAT.GEN_HELD`. A generation older than the current one is held. -/
def CAL_STAT_GEN_HELD : Field :=
  { page := 0x17, off := 0x014, lo := 0, width := 1, acc := .ro, vmax := 1 }

/-- R202: `CAL.STAT.BUSY`. A CHECK or RESOLVE is running. -/
def CAL_STAT_BUSY : Field :=
  { page := 0x17, off := 0x014, lo := 1, width := 1, acc := .ro, vmax := 1 }

/-- R202: `CAL.STAT.GENS`. Generations held, 1 to 4. -/
def CAL_STAT_GENS : Field :=
  { page := 0x17, off := 0x014, lo := 2, width := 3, reset := 1, acc := .ro, vmax := 7 }

/-- R202: `CAL.IRQ_RAW.CHECKED`. Latched: a CHECK completed. -/
def CAL_IRQ_CHECKED : Field := irqRaw (0x17) (0)

/-- R202: `CAL.IRQ_RAW.SWAPPED`. Latched: a swap committed. -/
def CAL_IRQ_SWAPPED : Field := irqRaw (0x17) (1)

/-- R202: `CAL.IRQ_RAW.GEN_FREE`. Latched: GEN_HELD became 0. -/
def CAL_IRQ_GEN_FREE : Field := irqRaw (0x17) (2)

/-- R202: `CAL.IRQ_RAW.RESOLVED`. Latched: a RESOLVE completed. -/
def CAL_IRQ_RESOLVED : Field := irqRaw (0x17) (3)

/-- R202: `CAL.ACTIVE_COPY_LO.COPY`. Bit c: active copy of calendar c. -/
def CAL_ACTIVE_COPY_LO_COPY : Field :=
  { page := 0x17, off := 0x100, lo := 0, width := 32, acc := .ro, vmax := 4294967295 }

/-- R202: `CAL.ACTIVE_COPY_HI.COPY`. Calendars 32–63. -/
def CAL_ACTIVE_COPY_HI_COPY : Field :=
  { page := 0x17, off := 0x104, lo := 0, width := 32, acc := .ro, vmax := 4294967295 }

/-- R202: `CAL.SWAP_LO.SWAP`. Bit c: change calendar c over at the commit (R179). -/
def CAL_SWAP_LO_SWAP : Field :=
  { page := 0x17, off := 0x108, lo := 0, width := 32, acc := .rw, txn := .t, vmax := 4294967295 }

/-- R202: `CAL.SWAP_HI.SWAP`. Calendars 32–63. -/
def CAL_SWAP_HI_SWAP : Field :=
  { page := 0x17, off := 0x10C, lo := 0, width := 32, acc := .rw, txn := .t, vmax := 4294967295 }

/-- R202: `CAL.CHECK.GO`. Check the passive copy of CAL; clears itself. -/
def CAL_CHECK_GO : Field :=
  { page := 0x17, off := 0x110, lo := 31, width := 1, acc := .w1s, own := true, vmax := 1 }

/-- R202: `CAL.CHECK.CAL`. Calendar. -/
def CAL_CHECK_CAL : Field :=
  { page := 0x17, off := 0x110, lo := 0, width := 6, acc := .rw, vmax := 63 }

/-- R202: `CAL.CHECK_RESULT.PASSED`. The latest check passed. -/
def CAL_CHECK_RESULT_PASSED : Field :=
  { page := 0x17, off := 0x114, lo := 31, width := 1, acc := .ro, vmax := 1 }

/-- R202: `CAL.CHECK_RESULT.OFFSET`. Offset of the first bad entry. -/
def CAL_CHECK_RESULT_OFFSET : Field :=
  { page := 0x17, off := 0x114, lo := 0, width := 11, acc := .ro, vmax := 2047 }

/-- R202: `CAL.GEN.CUR`. Current generation. -/
def CAL_GEN_CUR : Field :=
  { page := 0x17, off := 0x118, lo := 0, width := 16, acc := .ro, vmax := 65535 }

/-- R202: `CAL.GEN.OLDEST`. Oldest generation held. -/
def CAL_GEN_OLDEST : Field :=
  { page := 0x17, off := 0x118, lo := 16, width := 16, acc := .ro, vmax := 65535 }

/-- R202: `CAL.DST_AT.SEC`. DST_AT of the current generation. -/
def CAL_DST_AT_SEC : Field :=
  { page := 0x17, off := 0x11C, lo := 0, width := 32, acc := .ro, vmax := 4294967295 }

/-- R202: `CAL.PREV.OFFSET`. Previous LOCAL_OFFSET, signed, 15 min units. -/
def CAL_PREV_OFFSET : Field :=
  { page := 0x17, off := 0x120, lo := 0, width := 16, acc := .ro, vmax := 65535 }

/-- R202: `CAL.PREV.DST`. Previous DST. -/
def CAL_PREV_DST : Field :=
  { page := 0x17, off := 0x120, lo := 16, width := 1, acc := .ro, vmax := 1 }

/-- R202: `CAL.RESOLVE_TIME.SEC`. UTC s to resolve. -/
def CAL_RESOLVE_TIME_SEC : Field :=
  { page := 0x17, off := 0x124, lo := 0, width := 32, acc := .rw, vmax := 4294967295 }

/-- R202: `CAL.RESOLVE.GO`. Resolve under R177 in the current generation; clears itself. -/
def CAL_RESOLVE_GO : Field :=
  { page := 0x17, off := 0x128, lo := 31, width := 1, acc := .w1s, own := true, vmax := 1 }

/-- R202: `CAL.RESOLVE.CAL`. Calendar. -/
def CAL_RESOLVE_CAL : Field :=
  { page := 0x17, off := 0x128, lo := 0, width := 6, acc := .rw, vmax := 63 }

/-- R202: `CAL.RESOLVE_RESULT.RESULT`. As the SV.TARIFF result. -/
def CAL_RESOLVE_RESULT_RESULT : Field :=
  { page := 0x17, off := 0x12C, lo := 0, width := 32, acc := .ro, vmax := 4294967295 }

/-- Fields of page CAL, in table order (part). -/
def calFields0 : List Field :=
  [CAL_CTRL_ENABLE,
   CAL_STAT_GEN_HELD,
   CAL_STAT_BUSY,
   CAL_STAT_GENS,
   CAL_ACTIVE_COPY_LO_COPY,
   CAL_ACTIVE_COPY_HI_COPY,
   CAL_SWAP_LO_SWAP,
   CAL_SWAP_HI_SWAP,
   CAL_CHECK_GO,
   CAL_CHECK_CAL,
   CAL_CHECK_RESULT_PASSED,
   CAL_CHECK_RESULT_OFFSET,
   CAL_GEN_CUR,
   CAL_GEN_OLDEST,
   CAL_DST_AT_SEC,
   CAL_PREV_OFFSET,
   CAL_PREV_DST,
   CAL_RESOLVE_TIME_SEC,
   CAL_RESOLVE_GO,
   CAL_RESOLVE_CAL]

/-- Fields of page CAL, in table order (part). -/
def calFields1 : List Field :=
  [CAL_RESOLVE_RESULT_RESULT]

/-- Every block-specific field of page CAL. -/
def calFields : List Field :=
  calFields0 ++
  calFields1

/-! Page PANEL. -/

/-- R203: `PANEL.CTRL.ENABLE`. 1: display and keypad run. -/
def PANEL_CTRL_ENABLE : Field :=
  { page := 0x19, off := 0x010, lo := 0, width := 1, acc := .rw, txn := .t, vmax := 1 }

/-- R203: `PANEL.CTRL.SCROLL_EN`. 1: scroll the list. -/
def PANEL_CTRL_SCROLL_EN : Field :=
  { page := 0x19, off := 0x010, lo := 1, width := 1, reset := 1, acc := .rw, txn := .t, vmax := 1 }

/-- R203: `PANEL.CTRL.TOKEN_EN`. 1: keypad token entry allowed. -/
def PANEL_CTRL_TOKEN_EN : Field :=
  { page := 0x19, off := 0x010, lo := 2, width := 1, acc := .rw, txn := .t, vmax := 1 }

/-- R203: `PANEL.STAT.KP_STATE`. 0 IDLE, 1 METER, 2 DIGITS, 3 LOCKED. -/
def PANEL_STAT_KP_STATE : Field :=
  { page := 0x19, off := 0x014, lo := 0, width := 2, acc := .ro, vmax := 3 }

/-- R203: `PANEL.STAT.ITEM`. Item shown. -/
def PANEL_STAT_ITEM : Field :=
  { page := 0x19, off := 0x014, lo := 8, width := 5, acc := .ro, vmax := 31 }

/-- R203: `PANEL.IRQ_RAW.KEY`. Latched: a key was accepted. -/
def PANEL_IRQ_KEY : Field := irqRaw (0x19) (0)

/-- R203: `PANEL.IRQ_RAW.TOKEN_RESULT`. Latched: a result was shown. -/
def PANEL_IRQ_TOKEN_RESULT : Field := irqRaw (0x19) (1)

/-- R203: `PANEL.IRQ_RAW.LOCKOUT`. Latched: entry was locked. -/
def PANEL_IRQ_LOCKOUT : Field := irqRaw (0x19) (2)

/-- R203: `PANEL.DISP_CFG.ROWS`. 1 to 4. -/
def PANEL_DISP_CFG_ROWS : Field :=
  { page := 0x19, off := 0x100, lo := 0, width := 3, reset := 2, acc := .rw, txn := .t, vmin := 1, vmax := 4 }

/-- R203: `PANEL.DISP_CFG.COLS`. 8 to 40. -/
def PANEL_DISP_CFG_COLS : Field :=
  { page := 0x19, off := 0x100, lo := 8, width := 6, reset := 16, acc := .rw, txn := .t, vmin := 8, vmax := 40 }

/-- R203: `PANEL.DISP_CFG.SPI_DIV`. SCLK = 200 MHz / (2 × (SPI_DIV + 1)). -/
def PANEL_DISP_CFG_SPI_DIV : Field :=
  { page := 0x19, off := 0x100, lo := 16, width := 8, reset := 49, acc := .rw, txn := .t, vmax := 255 }

/-- R203: `PANEL.DISP_CFG.CPOL`. SPI clock polarity. -/
def PANEL_DISP_CFG_CPOL : Field :=
  { page := 0x19, off := 0x100, lo := 24, width := 1, acc := .rw, txn := .t, vmax := 1 }

/-- R203: `PANEL.DISP_CFG.CPHA`. SPI clock phase. -/
def PANEL_DISP_CFG_CPHA : Field :=
  { page := 0x19, off := 0x100, lo := 25, width := 1, acc := .rw, txn := .t, vmax := 1 }

/-- R203: `PANEL.ROW_CMD0–3.N`. Command bytes sent before the row, 0 to 3. -/
def PANEL_ROW_CMD_N (k : Nat) : Field :=
  { page := 0x19, off := 0x104 + 0x4 * k, lo := 24, width := 2, acc := .rw, txn := .t, vmax := 3 }

/-- R203: `PANEL.ROW_CMD0–3.BYTES`. Bytes, first in bits 7:0. -/
def PANEL_ROW_CMD_BYTES (k : Nat) : Field :=
  { page := 0x19, off := 0x104 + 0x4 * k, lo := 0, width := 24, acc := .rw, txn := .t, vmax := 16777215 }

/-- R203: `PANEL.DWELL.S`. 1 to 60. -/
def PANEL_DWELL_S : Field :=
  { page := 0x19, off := 0x114, lo := 0, width := 6, reset := 5, acc := .rw, txn := .t, vmin := 1, vmax := 60 }

/-- R203: `PANEL.NITEMS.N`. Items in the list, 0 to 32. -/
def PANEL_NITEMS_N : Field :=
  { page := 0x19, off := 0x118, lo := 0, width := 6, acc := .rw, txn := .s, vmin := 0, vmax := 32 }

/-- R203: `PANEL.ITEM_SEL.ITEM`. Item shown in ITEM_DATA. -/
def PANEL_ITEM_SEL_ITEM : Field :=
  { page := 0x19, off := 0x11C, lo := 0, width := 5, acc := .rw, vmax := 31 }

/-- R203: `PANEL.ITEM_DATA.SEL`. Selector (R198). -/
def PANEL_ITEM_DATA_SEL : Field :=
  { page := 0x19, off := 0x120, lo := 24, width := 5, acc := .rw, txn := .s, vmax := 31 }

/-- R203: `PANEL.ITEM_DATA.METER`. Meter index. -/
def PANEL_ITEM_DATA_METER : Field :=
  { page := 0x19, off := 0x120, lo := 0, width := 20, acc := .rw, txn := .s, vmax := 1048575 }

/-- R203: `PANEL.KEY_LAST.VALID`. A key was accepted since the last read. -/
def PANEL_KEY_LAST_VALID : Field :=
  { page := 0x19, off := 0x124, lo := 31, width := 1, acc := .rc, vmax := 1 }

/-- R203: `PANEL.KEY_LAST.KEY`. 0–9, 10–13 A–D, 14 *, 15 #. -/
def PANEL_KEY_LAST_KEY : Field :=
  { page := 0x19, off := 0x124, lo := 0, width := 4, acc := .rc, vmax := 15 }

/-- R203: `PANEL.LOCK_CFG.MAX`. 1 to 15. -/
def PANEL_LOCK_CFG_MAX : Field :=
  { page := 0x19, off := 0x128, lo := 0, width := 4, reset := 5, acc := .rw, txn := .t, vmin := 1, vmax := 15 }

/-- R203: `PANEL.LOCK_CFG.MIN`. 1 to 255. -/
def PANEL_LOCK_CFG_MIN : Field :=
  { page := 0x19, off := 0x128, lo := 8, width := 8, reset := 10, acc := .rw, txn := .t, vmin := 1, vmax := 255 }

/-- R203: `PANEL.TOKEN_LAST.METER`. Meter of the latest keypad token. -/
def PANEL_TOKEN_LAST_METER : Field :=
  { page := 0x19, off := 0x12C, lo := 0, width := 20, acc := .ro, vmax := 1048575 }

/-- R203: `PANEL.TOKEN_LAST.RESULT`. Its result, R196. -/
def PANEL_TOKEN_LAST_RESULT : Field :=
  { page := 0x19, off := 0x12C, lo := 24, width := 3, acc := .ro, vmax := 7 }

/-- R203: `PANEL.SUBMIT_CNT.CNT`. Keypad tokens submitted. -/
def PANEL_SUBMIT_CNT_CNT : Field :=
  { page := 0x19, off := 0x130, lo := 0, width := 32, acc := .rw, vmax := 4294967295 }

/-- R203: `PANEL.REFUSED_CNT.CNT`. Keypad tokens refused. -/
def PANEL_REFUSED_CNT_CNT : Field :=
  { page := 0x19, off := 0x134, lo := 0, width := 32, acc := .rw, vmax := 4294967295 }

/-- Fields of page PANEL, in table order (part). -/
def panelFields0 : List Field :=
  [PANEL_CTRL_ENABLE,
   PANEL_CTRL_SCROLL_EN,
   PANEL_CTRL_TOKEN_EN,
   PANEL_STAT_KP_STATE,
   PANEL_STAT_ITEM,
   PANEL_DISP_CFG_ROWS,
   PANEL_DISP_CFG_COLS,
   PANEL_DISP_CFG_SPI_DIV,
   PANEL_DISP_CFG_CPOL,
   PANEL_DISP_CFG_CPHA,
   PANEL_DWELL_S,
   PANEL_NITEMS_N,
   PANEL_ITEM_SEL_ITEM,
   PANEL_ITEM_DATA_SEL,
   PANEL_ITEM_DATA_METER,
   PANEL_KEY_LAST_VALID,
   PANEL_KEY_LAST_KEY,
   PANEL_LOCK_CFG_MAX,
   PANEL_LOCK_CFG_MIN,
   PANEL_TOKEN_LAST_METER]

/-- Fields of page PANEL, in table order (part). -/
def panelFields1 : List Field :=
  [PANEL_TOKEN_LAST_RESULT,
   PANEL_SUBMIT_CNT_CNT,
   PANEL_REFUSED_CNT_CNT]

/-- Every block-specific field of page PANEL. -/
def panelFields : List Field :=
  panelFields0 ++
  panelFields1 ++
  (List.range 4).map (PANEL_ROW_CMD_N) ++
  (List.range 4).map (PANEL_ROW_CMD_BYTES)

/-! Page LANE. -/

/-- R130: `LANE.CTRL.FENCE`. Common field (R36); also set by the chip at a fence. -/
def LANE_CTRL_FENCE (i : Nat) : Field :=
  { page := 0x40 + i, off := 0x010, lo := 30, width := 1, acc := .rw, txn := .t, own := true, vmax := 1 }

/-- R130: `LANE.CTRL.MAINT`. 1: keep the lane out of SERVICE (R122); set by the chip at a fence. -/
def LANE_CTRL_MAINT (i : Nat) : Field :=
  { page := 0x40 + i, off := 0x010, lo := 0, width := 1, reset := 1, acc := .rw, txn := .t, own := true, vmax := 1 }

/-- R130: `LANE.STAT.STATE`. 0 OFF, 1 SELFTEST, 2 MAINT, 3 SERVICE, 4 FENCED. -/
def LANE_STAT_STATE (i : Nat) : Field :=
  { page := 0x40 + i, off := 0x014, lo := 0, width := 3, reset := 1, acc := .ro, vmax := 7 }

/-- R130: `LANE.STAT.BANK`. Bank of the frame running, or of the last frame run. -/
def LANE_STAT_BANK (i : Nat) : Field :=
  { page := 0x40 + i, off := 0x014, lo := 4, width := 1, acc := .ro, vmax := 1 }

/-- R130: `LANE.STAT.LOADED_A`. Bank A sealed and unchanged since. -/
def LANE_STAT_LOADED_A (i : Nat) : Field :=
  { page := 0x40 + i, off := 0x014, lo := 5, width := 1, acc := .ro, vmax := 1 }

/-- R130: `LANE.STAT.LOADED_B`. Bank B sealed and unchanged since. -/
def LANE_STAT_LOADED_B (i : Nat) : Field :=
  { page := 0x40 + i, off := 0x014, lo := 6, width := 1, acc := .ro, vmax := 1 }

/-- R130: `LANE.IRQ_RAW.FENCED`. Latched: the lane was fenced. -/
def LANE_IRQ_FENCED (i : Nat) : Field := irqRaw (0x40 + i) (0)

/-- R130: `LANE.IRQ_RAW.HW_QUAR`. Latched: a hardware quarantine (R111). -/
def LANE_IRQ_HW_QUAR (i : Nat) : Field := irqRaw (0x40 + i) (1)

/-- R130: `LANE.IRQ_RAW.SEALED`. Latched: a seal completed. -/
def LANE_IRQ_SEALED (i : Nat) : Field := irqRaw (0x40 + i) (2)

/-- R130: `LANE.PROG_CTRL.SEAL`. Seal the bank in BANK (R127); clears itself. -/
def LANE_PROG_CTRL_SEAL (i : Nat) : Field :=
  { page := 0x40 + i, off := 0x100, lo := 31, width := 1, acc := .w1s, own := true, vmax := 1 }

/-- R130: `LANE.PROG_CTRL.BANK`. 0 bank A, 1 bank B. -/
def LANE_PROG_CTRL_BANK (i : Nat) : Field :=
  { page := 0x40 + i, off := 0x100, lo := 0, width := 1, acc := .rw, vmax := 1 }

/-- R130: `LANE.DIGEST_A_LO.DIGEST`. Bank A digest, bits 31:0. -/
def LANE_DIGEST_A_LO_DIGEST (i : Nat) : Field :=
  { page := 0x40 + i, off := 0x104, lo := 0, width := 32, acc := .ro, vmax := 4294967295 }

/-- R130: `LANE.DIGEST_A_HI.DIGEST`. Bits 63:32. -/
def LANE_DIGEST_A_HI_DIGEST (i : Nat) : Field :=
  { page := 0x40 + i, off := 0x108, lo := 0, width := 32, acc := .ro, vmax := 4294967295 }

/-- R130: `LANE.DIGEST_B_LO.DIGEST`. Bank B digest, bits 31:0. -/
def LANE_DIGEST_B_LO_DIGEST (i : Nat) : Field :=
  { page := 0x40 + i, off := 0x10C, lo := 0, width := 32, acc := .ro, vmax := 4294967295 }

/-- R130: `LANE.DIGEST_B_HI.DIGEST`. Bits 63:32. -/
def LANE_DIGEST_B_HI_DIGEST (i : Nat) : Field :=
  { page := 0x40 + i, off := 0x110, lo := 0, width := 32, acc := .ro, vmax := 4294967295 }

/-- R130: `LANE.FENCE_CAUSE.OFFSET`. Aperture offset of a parity failure. -/
def LANE_FENCE_CAUSE_OFFSET (i : Nat) : Field :=
  { page := 0x40 + i, off := 0x114, lo := 15, width := 17, acc := .ro, vmax := 131071 }

/-- R130: `LANE.FENCE_CAUSE.CAUSE`. 0 none, 1 PARITY, 2 KAT, 3 WDOG, 4 EFFECT_CSUM, 5 SOFTWARE. -/
def LANE_FENCE_CAUSE_CAUSE (i : Nat) : Field :=
  { page := 0x40 + i, off := 0x114, lo := 0, width := 3, acc := .ro, vmax := 7 }

/-- R130: `LANE.FAULT_INFO.REASON`. Reason of the last hardware quarantine. -/
def LANE_FAULT_INFO_REASON (i : Nat) : Field :=
  { page := 0x40 + i, off := 0x118, lo := 16, width := 12, acc := .ro, vmax := 4095 }

/-- R130: `LANE.FAULT_PC.PC`. Program counter at the last hardware quarantine. -/
def LANE_FAULT_PC_PC (i : Nat) : Field :=
  { page := 0x40 + i, off := 0x11C, lo := 0, width := 32, acc := .ro, vmax := 4294967295 }

/-- R130: `LANE.EFFECT_USE.ENTRIES`. Effect buffer entries held. -/
def LANE_EFFECT_USE_ENTRIES (i : Nat) : Field :=
  { page := 0x40 + i, off := 0x120, lo := 0, width := 9, acc := .ro, vmax := 511 }

/-- R130: `LANE.EFFECT_PEAK.ENTRIES`. Highest EFFECT_USE since the last read. -/
def LANE_EFFECT_PEAK_ENTRIES (i : Nat) : Field :=
  { page := 0x40 + i, off := 0x124, lo := 0, width := 9, acc := .rc, vmax := 511 }

/-- R130: `LANE.CYCLES_LAST.CYCLES`. Counted cycles (R111) of the last frame. -/
def LANE_CYCLES_LAST_CYCLES (i : Nat) : Field :=
  { page := 0x40 + i, off := 0x128, lo := 0, width := 20, acc := .ro, vmax := 1048575 }

/-- R130: `LANE.CYCLES_MAX.CYCLES`. Highest CYCLES_LAST since the last read. -/
def LANE_CYCLES_MAX_CYCLES (i : Nat) : Field :=
  { page := 0x40 + i, off := 0x12C, lo := 0, width := 20, acc := .rc, vmax := 1048575 }

/-- R130: `LANE.FRAMES.CNT`. Frames ended with a verdict. -/
def LANE_FRAMES_CNT (i : Nat) : Field :=
  { page := 0x40 + i, off := 0x130, lo := 0, width := 32, acc := .rw, vmax := 4294967295 }

/-- R130: `LANE.HW_QUAR_CNT.CNT`. Hardware quarantines on this lane. -/
def LANE_HW_QUAR_CNT_CNT (i : Nat) : Field :=
  { page := 0x40 + i, off := 0x134, lo := 0, width := 32, acc := .rw, vmax := 4294967295 }

/-- R130: `LANE.RERUN_CNT.CNT`. Frames ended with RERUN (R113). -/
def LANE_RERUN_CNT_CNT (i : Nat) : Field :=
  { page := 0x40 + i, off := 0x138, lo := 0, width := 32, acc := .rw, vmax := 4294967295 }

/-- Fields of page LANE, in table order (part). -/
def laneFields0 (i : Nat) : List Field :=
  [LANE_CTRL_FENCE i,
   LANE_CTRL_MAINT i,
   LANE_STAT_STATE i,
   LANE_STAT_BANK i,
   LANE_STAT_LOADED_A i,
   LANE_STAT_LOADED_B i,
   LANE_PROG_CTRL_SEAL i,
   LANE_PROG_CTRL_BANK i,
   LANE_DIGEST_A_LO_DIGEST i,
   LANE_DIGEST_A_HI_DIGEST i,
   LANE_DIGEST_B_LO_DIGEST i,
   LANE_DIGEST_B_HI_DIGEST i,
   LANE_FENCE_CAUSE_OFFSET i,
   LANE_FENCE_CAUSE_CAUSE i,
   LANE_FAULT_INFO_REASON i,
   LANE_FAULT_PC_PC i,
   LANE_EFFECT_USE_ENTRIES i,
   LANE_EFFECT_PEAK_ENTRIES i,
   LANE_CYCLES_LAST_CYCLES i,
   LANE_CYCLES_MAX_CYCLES i]

/-- Fields of page LANE, in table order (part). -/
def laneFields1 (i : Nat) : List Field :=
  [LANE_FRAMES_CNT i,
   LANE_HW_QUAR_CNT_CNT i,
   LANE_RERUN_CNT_CNT i]

/-- Every block-specific field of page LANE. -/
def laneFields (i : Nat) : List Field :=
  laneFields0 i ++
  laneFields1 i

end Sys2Proof.Machine.Reg
end

