-- ==== Sys2Proof/Machine/RegD.lean ====
section
/-! DEFINITION. The register fields of the pages DMA, QMON, FTL, NAND, TWIN, one constant per field, as the register tables of spec/ give them. -/

namespace Sys2Proof.Machine.Reg

/-! Page DMA. -/

/-- R377: `DMA.CTRL.ENABLE`. 1: channels may run; 0 is refused with CH_BUSY while any channel is not IDLE. -/
def DMA_CTRL_ENABLE : Field :=
  { page := 0x20, off := 0x010, lo := 0, width := 1, acc := .rw, txn := .t, vmax := 1 }

/-- R377: `DMA.CTRL.ARB`. 0 INTERLEAVE, 1 PREEMPT (R376). -/
def DMA_CTRL_ARB : Field :=
  { page := 0x20, off := 0x010, lo := 1, width := 1, acc := .rw, txn := .t, vmax := 1 }

/-- R377: `DMA.STAT.ACTIVE`. Bit n: channel n in FETCH or RUN. -/
def DMA_STAT_ACTIVE : Field :=
  { page := 0x20, off := 0x014, lo := 0, width := 16, acc := .ro, vmax := 65535 }

/-- R377: `DMA.CHn_CFG.REQ`. 0 TRUSTED, 1 APP, 4 PCIE (R365). -/
def DMA_CH_CFG_REQ (k : Nat) : Field :=
  { page := 0x20, off := 0x100 + 0x40 * k, lo := 0, width := 3, reset := 1, acc := .rw, own := true, vmax := 7 }

/-- R377: `DMA.CHn_CFG.IRQ_EN`. Enables for DESC_DONE, CHAIN_DONE, STOPPED, ABORTED, ERROR. -/
def DMA_CH_CFG_IRQ_EN (k : Nat) : Field :=
  { page := 0x20, off := 0x100 + 0x40 * k, lo := 8, width := 5, acc := .rw, vmax := 31 }

/-- R377: `DMA.CHn_CTRL.PRIO`. Priority 0 to 3. -/
def DMA_CH_CTRL_PRIO (k : Nat) : Field :=
  { page := 0x20, off := 0x104 + 0x40 * k, lo := 0, width := 2, acc := .rw, txn := .s, vmax := 3 }

/-- R377: `DMA.CHn_CTRL.HALT`. 1: pause after each descriptor. -/
def DMA_CH_CTRL_HALT (k : Nat) : Field :=
  { page := 0x20, off := 0x104 + 0x40 * k, lo := 4, width := 1, acc := .rw, txn := .s, vmax := 1 }

/-- R377: `DMA.CHn_NEXT_LO.ADDR`. Next descriptor, bits 31:6. -/
def DMA_CH_NEXT_LO_ADDR (k : Nat) : Field :=
  { page := 0x20, off := 0x108 + 0x40 * k, lo := 6, width := 26, acc := .rw, txn := .s, vmax := 67108863 }

/-- R377: `DMA.CHn_NEXT_HI.USE`. 1: replaces the link (R375). -/
def DMA_CH_NEXT_HI_USE (k : Nat) : Field :=
  { page := 0x20, off := 0x10C + 0x40 * k, lo := 31, width := 1, acc := .rw, txn := .s, vmax := 1 }

/-- R377: `DMA.CHn_NEXT_HI.ADDR`. Bits 39:32. -/
def DMA_CH_NEXT_HI_ADDR (k : Nat) : Field :=
  { page := 0x20, off := 0x10C + 0x40 * k, lo := 0, width := 8, acc := .rw, txn := .s, vmax := 255 }

/-- R377: `DMA.CHn_SHADOW.WR_GEN`. As R50. -/
def DMA_CH_SHADOW_WR_GEN (k : Nat) : Field :=
  { page := 0x20, off := 0x110 + 0x40 * k, lo := 17, width := 15, reset := 1, acc := .ro, vmax := 32767 }

/-- R377: `DMA.CHn_SHADOW.SHADOW_ARM`. As R50. -/
def DMA_CH_SHADOW_SHADOW_ARM (k : Nat) : Field :=
  { page := 0x20, off := 0x110 + 0x40 * k, lo := 16, width := 1, acc := .w1s, own := true, vmax := 1 }

/-- R377: `DMA.CHn_SHADOW.GEN`. As R50. -/
def DMA_CH_SHADOW_GEN (k : Nat) : Field :=
  { page := 0x20, off := 0x110 + 0x40 * k, lo := 0, width := 16, acc := .ro, vmax := 65535 }

/-- R377: `DMA.CHn_FIRST_LO.ADDR`. First descriptor, bits 31:6. -/
def DMA_CH_FIRST_LO_ADDR (k : Nat) : Field :=
  { page := 0x20, off := 0x114 + 0x40 * k, lo := 6, width := 26, acc := .rw, vmax := 67108863 }

/-- R377: `DMA.CHn_FIRST_HI.ADDR`. Bits 39:32. -/
def DMA_CH_FIRST_HI_ADDR (k : Nat) : Field :=
  { page := 0x20, off := 0x118 + 0x40 * k, lo := 0, width := 8, acc := .rw, vmax := 255 }

/-- R377: `DMA.CHn_CMD.START`. Clears itself. -/
def DMA_CH_CMD_START (k : Nat) : Field :=
  { page := 0x20, off := 0x11C + 0x40 * k, lo := 0, width := 1, acc := .w1s, own := true, vmax := 1 }

/-- R377: `DMA.CHn_CMD.STOP`. Pause at the next descriptor end. -/
def DMA_CH_CMD_STOP (k : Nat) : Field :=
  { page := 0x20, off := 0x11C + 0x40 * k, lo := 1, width := 1, acc := .w1s, own := true, vmax := 1 }

/-- R377: `DMA.CHn_CMD.RESUME`. Clears itself. -/
def DMA_CH_CMD_RESUME (k : Nat) : Field :=
  { page := 0x20, off := 0x11C + 0x40 * k, lo := 2, width := 1, acc := .w1s, own := true, vmax := 1 }

/-- R377: `DMA.CHn_CMD.ABORT`. R374. -/
def DMA_CH_CMD_ABORT (k : Nat) : Field :=
  { page := 0x20, off := 0x11C + 0x40 * k, lo := 3, width := 1, acc := .w1s, own := true, vmax := 1 }

/-- R377: `DMA.CHn_CMD.CLEAR`. Leave ERROR. -/
def DMA_CH_CMD_CLEAR (k : Nat) : Field :=
  { page := 0x20, off := 0x11C + 0x40 * k, lo := 4, width := 1, acc := .w1s, own := true, vmax := 1 }

/-- R377: `DMA.CHn_STAT.STATE`. R372. -/
def DMA_CH_STAT_STATE (k : Nat) : Field :=
  { page := 0x20, off := 0x120 + 0x40 * k, lo := 0, width := 3, acc := .ro, vmax := 7 }

/-- R377: `DMA.CHn_STAT.EVENTS`. DESC_DONE, CHAIN_DONE, STOPPED, ABORTED, ERROR. -/
def DMA_CH_STAT_EVENTS (k : Nat) : Field :=
  { page := 0x20, off := 0x120 + 0x40 * k, lo := 8, width := 5, acc := .w1c, vmax := 31 }

/-- R377: `DMA.CHn_STAT.ERR`. Code of the last error. -/
def DMA_CH_STAT_ERR (k : Nat) : Field :=
  { page := 0x20, off := 0x120 + 0x40 * k, lo := 16, width := 16, acc := .ro, vmax := 65535 }

/-- R377: `DMA.CHn_DESC_LO.ADDR`. Descriptor in progress, bits 31:0. -/
def DMA_CH_DESC_LO_ADDR (k : Nat) : Field :=
  { page := 0x20, off := 0x124 + 0x40 * k, lo := 0, width := 32, acc := .ro, vmax := 4294967295 }

/-- R377: `DMA.CHn_DESC_HI.ADDR`. Bits 39:32. -/
def DMA_CH_DESC_HI_ADDR (k : Nat) : Field :=
  { page := 0x20, off := 0x128 + 0x40 * k, lo := 0, width := 8, acc := .ro, vmax := 255 }

/-- R377: `DMA.CHn_DONE.BYTES`. Stream bytes written in the current descriptor. -/
def DMA_CH_DONE_BYTES (k : Nat) : Field :=
  { page := 0x20, off := 0x12C + 0x40 * k, lo := 0, width := 32, acc := .ro, vmax := 4294967295 }

/-- R377: `DMA.CHn_ERR_ADDR_LO.ADDR`. Failing address, bits 31:0. -/
def DMA_CH_ERR_ADDR_LO_ADDR (k : Nat) : Field :=
  { page := 0x20, off := 0x130 + 0x40 * k, lo := 0, width := 32, acc := .ro, vmax := 4294967295 }

/-- R377: `DMA.CHn_ERR_ADDR_HI.ADDR`. Bits 39:32. -/
def DMA_CH_ERR_ADDR_HI_ADDR (k : Nat) : Field :=
  { page := 0x20, off := 0x134 + 0x40 * k, lo := 0, width := 8, acc := .ro, vmax := 255 }

/-- R377: `DMA.CHn_DESC_CNT.CNT`. Descriptors completed. -/
def DMA_CH_DESC_CNT_CNT (k : Nat) : Field :=
  { page := 0x20, off := 0x138 + 0x40 * k, lo := 0, width := 32, acc := .rw, vmax := 4294967295 }

/-- Fields of page DMA, in table order (part). -/
def dmaFields0 : List Field :=
  [DMA_CTRL_ENABLE,
   DMA_CTRL_ARB,
   DMA_STAT_ACTIVE]

/-- Every block-specific field of page DMA. -/
def dmaFields : List Field :=
  dmaFields0 ++
  (List.range 16).map (DMA_CH_CFG_REQ) ++
  (List.range 16).map (DMA_CH_CFG_IRQ_EN) ++
  (List.range 16).map (DMA_CH_CTRL_PRIO) ++
  (List.range 16).map (DMA_CH_CTRL_HALT) ++
  (List.range 16).map (DMA_CH_NEXT_LO_ADDR) ++
  (List.range 16).map (DMA_CH_NEXT_HI_USE) ++
  (List.range 16).map (DMA_CH_NEXT_HI_ADDR) ++
  (List.range 16).map (DMA_CH_SHADOW_WR_GEN) ++
  (List.range 16).map (DMA_CH_SHADOW_SHADOW_ARM) ++
  (List.range 16).map (DMA_CH_SHADOW_GEN) ++
  (List.range 16).map (DMA_CH_FIRST_LO_ADDR) ++
  (List.range 16).map (DMA_CH_FIRST_HI_ADDR) ++
  (List.range 16).map (DMA_CH_CMD_START) ++
  (List.range 16).map (DMA_CH_CMD_STOP) ++
  (List.range 16).map (DMA_CH_CMD_RESUME) ++
  (List.range 16).map (DMA_CH_CMD_ABORT) ++
  (List.range 16).map (DMA_CH_CMD_CLEAR) ++
  (List.range 16).map (DMA_CH_STAT_STATE) ++
  (List.range 16).map (DMA_CH_STAT_EVENTS) ++
  (List.range 16).map (DMA_CH_STAT_ERR) ++
  (List.range 16).map (DMA_CH_DESC_LO_ADDR) ++
  (List.range 16).map (DMA_CH_DESC_HI_ADDR) ++
  (List.range 16).map (DMA_CH_DONE_BYTES) ++
  (List.range 16).map (DMA_CH_ERR_ADDR_LO_ADDR) ++
  (List.range 16).map (DMA_CH_ERR_ADDR_HI_ADDR) ++
  (List.range 16).map (DMA_CH_DESC_CNT_CNT)

/-! Page QMON. -/

/-- R61: `QMON.QMON_SEL.QNUM`. Queue shown in 0x104–0x118. -/
def QMON_QMON_SEL_QNUM : Field :=
  { page := 0x21, off := 0x100, lo := 0, width := 10, acc := .rw, vmax := 1023 }

/-- R61: `QMON.QMON_INFO.PRESENT`. The queue exists. -/
def QMON_QMON_INFO_PRESENT : Field :=
  { page := 0x21, off := 0x104, lo := 31, width := 1, acc := .ro, vmax := 1 }

/-- R61: `QMON.QMON_INFO.CONS_DOM`. Consumer domain: 0 SLOW to 8 FIELD, in the order of R10. -/
def QMON_QMON_INFO_CONS_DOM : Field :=
  { page := 0x21, off := 0x104, lo := 16, width := 4, acc := .ro, vmax := 15 }

/-- R61: `QMON.QMON_INFO.PROD_DOM`. Producer domain, same coding. -/
def QMON_QMON_INFO_PROD_DOM : Field :=
  { page := 0x21, off := 0x104, lo := 12, width := 4, acc := .ro, vmax := 15 }

/-- R61: `QMON.QMON_INFO.CROSS`. Domains differ; Gray-coded. -/
def QMON_QMON_INFO_CROSS : Field :=
  { page := 0x21, off := 0x104, lo := 10, width := 1, acc := .ro, vmax := 1 }

/-- R61: `QMON.QMON_INFO.PACK`. PACK queue. -/
def QMON_QMON_INFO_PACK : Field :=
  { page := 0x21, off := 0x104, lo := 9, width := 1, acc := .ro, vmax := 1 }

/-- R61: `QMON.QMON_INFO.CLASS`. 0 Q-STD, 1 Q-PRIV. -/
def QMON_QMON_INFO_CLASS : Field :=
  { page := 0x21, off := 0x104, lo := 8, width := 1, acc := .ro, vmax := 1 }

/-- R61: `QMON.QMON_INFO.LOG2_DEPTH`. Depth = 2^LOG2_DEPTH. -/
def QMON_QMON_INFO_LOG2_DEPTH : Field :=
  { page := 0x21, off := 0x104, lo := 0, width := 5, acc := .ro, vmax := 31 }

/-- R61: `QMON.QMON_HELD.HELD`. Credits held by the producer. -/
def QMON_QMON_HELD_HELD : Field :=
  { page := 0x21, off := 0x108, lo := 0, width := 17, acc := .ro, vmax := 131071 }

/-- R61: `QMON.QMON_OCC.QUEUED`. Items queued. -/
def QMON_QMON_OCC_QUEUED : Field :=
  { page := 0x21, off := 0x10C, lo := 0, width := 17, acc := .ro, vmax := 131071 }

/-- R61: `QMON.QMON_RET.RETURNING`. Credits in transit to the producer. -/
def QMON_QMON_RET_RETURNING : Field :=
  { page := 0x21, off := 0x110, lo := 0, width := 17, acc := .ro, vmax := 131071 }

/-- R61: `QMON.QMON_POISON.CNT`. Poisoned words, saturating. -/
def QMON_QMON_POISON_CNT : Field :=
  { page := 0x21, off := 0x114, lo := 0, width := 32, acc := .rw, vmax := 4294967295 }

/-- R61: `QMON.QMON_LOST.CNT`. Items discarded by flush, pointer reset or fence, saturating. -/
def QMON_QMON_LOST_CNT : Field :=
  { page := 0x21, off := 0x118, lo := 0, width := 32, acc := .rw, vmax := 4294967295 }

/-- R61: `QMON.QMON_FAULT.POISON_SEEN`. Any poisoned word since clear. -/
def QMON_QMON_FAULT_POISON_SEEN : Field :=
  { page := 0x21, off := 0x11C, lo := 2, width := 1, acc := .w1c, vmax := 1 }

/-- R61: `QMON.QMON_FAULT.PTR_FAULT`. Any Q-PRIV reset since clear. -/
def QMON_QMON_FAULT_PTR_FAULT : Field :=
  { page := 0x21, off := 0x11C, lo := 1, width := 1, acc := .w1c, vmax := 1 }

/-- R61: `QMON.QMON_FAULT.CREDIT_FAULT`. Any credit fault since clear. -/
def QMON_QMON_FAULT_CREDIT_FAULT : Field :=
  { page := 0x21, off := 0x11C, lo := 0, width := 1, acc := .w1c, vmax := 1 }

/-- R61: `QMON.QMON_FAULT_Q.QNUM`. Queue of the most recent fault. -/
def QMON_QMON_FAULT_Q_QNUM : Field :=
  { page := 0x21, off := 0x120, lo := 0, width := 10, acc := .ro, vmax := 1023 }

/-- Fields of page QMON, in table order (part). -/
def qmonFields0 : List Field :=
  [QMON_QMON_SEL_QNUM,
   QMON_QMON_INFO_PRESENT,
   QMON_QMON_INFO_CONS_DOM,
   QMON_QMON_INFO_PROD_DOM,
   QMON_QMON_INFO_CROSS,
   QMON_QMON_INFO_PACK,
   QMON_QMON_INFO_CLASS,
   QMON_QMON_INFO_LOG2_DEPTH,
   QMON_QMON_HELD_HELD,
   QMON_QMON_OCC_QUEUED,
   QMON_QMON_RET_RETURNING,
   QMON_QMON_POISON_CNT,
   QMON_QMON_LOST_CNT,
   QMON_QMON_FAULT_POISON_SEEN,
   QMON_QMON_FAULT_PTR_FAULT,
   QMON_QMON_FAULT_CREDIT_FAULT,
   QMON_QMON_FAULT_Q_QNUM]

/-- Every block-specific field of page QMON. -/
def qmonFields : List Field :=
  qmonFields0

/-! Page FTL. -/

/-- R363: `FTL.CTRL.ENABLE`. 1: mount and run (R354). -/
def FTL_CTRL_ENABLE : Field :=
  { page := 0x23, off := 0x010, lo := 0, width := 1, acc := .rw, txn := .t, own := true, vmax := 1 }

/-- R363: `FTL.CTRL.VERIFY_RB`. Read back every program (R341). -/
def FTL_CTRL_VERIFY_RB : Field :=
  { page := 0x23, off := 0x010, lo := 1, width := 1, acc := .rw, txn := .t, vmax := 1 }

/-- R363: `FTL.CTRL.ARCH_FULL`. 0 OVERWRITE, 1 REFUSE (R352). -/
def FTL_CTRL_ARCH_FULL : Field :=
  { page := 0x23, off := 0x010, lo := 2, width := 1, acc := .rw, txn := .t, vmax := 1 }

/-- R363: `FTL.CTRL.PATROL_EN`. Patrol reads (R357). -/
def FTL_CTRL_PATROL_EN : Field :=
  { page := 0x23, off := 0x010, lo := 3, width := 1, reset := 1, acc := .rw, txn := .t, vmax := 1 }

/-- R363: `FTL.STAT.MOUNTED`. Medium in service. -/
def FTL_STAT_MOUNTED : Field :=
  { page := 0x23, off := 0x014, lo := 0, width := 1, acc := .ro, vmax := 1 }

/-- R363: `FTL.STAT.MOUNTING`. R354. -/
def FTL_STAT_MOUNTING : Field :=
  { page := 0x23, off := 0x014, lo := 1, width := 1, acc := .ro, vmax := 1 }

/-- R363: `FTL.STAT.READ_ONLY`. R358. -/
def FTL_STAT_READ_ONLY : Field :=
  { page := 0x23, off := 0x014, lo := 2, width := 1, acc := .ro, vmax := 1 }

/-- R363: `FTL.STAT.ARCH_FULL`. A group waits for ring space. -/
def FTL_STAT_ARCH_FULL : Field :=
  { page := 0x23, off := 0x014, lo := 3, width := 1, acc := .ro, vmax := 1 }

/-- R363: `FTL.STAT.SPARE_LOW`. R358. -/
def FTL_STAT_SPARE_LOW : Field :=
  { page := 0x23, off := 0x014, lo := 4, width := 1, acc := .ro, vmax := 1 }

/-- R363: `FTL.STAT.MERGING`. A merge runs. -/
def FTL_STAT_MERGING : Field :=
  { page := 0x23, off := 0x014, lo := 5, width := 1, acc := .ro, vmax := 1 }

/-- R363: `FTL.STAT.DIE_FAILED`. A die is FAILED. -/
def FTL_STAT_DIE_FAILED : Field :=
  { page := 0x23, off := 0x014, lo := 6, width := 1, acc := .ro, vmax := 1 }

/-- R363: `FTL.IRQ_RAW.MOUNTED`. Latched. -/
def FTL_IRQ_MOUNTED : Field := irqRaw (0x23) (0)

/-- R363: `FTL.IRQ_RAW.READ_ONLY`. Latched. -/
def FTL_IRQ_READ_ONLY : Field := irqRaw (0x23) (1)

/-- R363: `FTL.IRQ_RAW.SPARE_LOW`. Latched. -/
def FTL_IRQ_SPARE_LOW : Field := irqRaw (0x23) (2)

/-- R363: `FTL.IRQ_RAW.ARCH_FULL`. Latched. -/
def FTL_IRQ_ARCH_FULL : Field := irqRaw (0x23) (3)

/-- R363: `FTL.IRQ_RAW.DIE_FAIL`. Latched. -/
def FTL_IRQ_DIE_FAIL : Field := irqRaw (0x23) (4)

/-- R363: `FTL.IRQ_RAW.RETIRED`. Latched: a block was retired. -/
def FTL_IRQ_RETIRED : Field := irqRaw (0x23) (5)

/-- R363: `FTL.IRQ_RAW.READ_FAIL`. Latched: a read failed after retries. -/
def FTL_IRQ_READ_FAIL : Field := irqRaw (0x23) (6)

/-- R363: `FTL.MOUNT_ORDER_LO.ORDER`. R354, bits 31:0. -/
def FTL_MOUNT_ORDER_LO_ORDER : Field :=
  { page := 0x23, off := 0x100, lo := 0, width := 32, acc := .ro, vmax := 4294967295 }

/-- R363: `FTL.MOUNT_ORDER_HI.ORDER`. Bits 47:32. -/
def FTL_MOUNT_ORDER_HI_ORDER : Field :=
  { page := 0x23, off := 0x104, lo := 0, width := 16, acc := .ro, vmax := 65535 }

/-- R363: `FTL.ARCH_TAIL_ORDER_LO.ORDER`. R352, bits 31:0. -/
def FTL_ARCH_TAIL_ORDER_LO_ORDER : Field :=
  { page := 0x23, off := 0x108, lo := 0, width := 32, acc := .ro, vmax := 4294967295 }

/-- R363: `FTL.ARCH_TAIL_ORDER_HI.ORDER`. Bits 47:32. -/
def FTL_ARCH_TAIL_ORDER_HI_ORDER : Field :=
  { page := 0x23, off := 0x10C, lo := 0, width := 16, acc := .ro, vmax := 65535 }

/-- R363: `FTL.WSEQ_LO.SEQ`. Next write sequence, bits 31:0. -/
def FTL_WSEQ_LO_SEQ : Field :=
  { page := 0x23, off := 0x110, lo := 0, width := 32, acc := .ro, vmax := 4294967295 }

/-- R363: `FTL.WSEQ_HI.SEQ`. Bits 63:32. -/
def FTL_WSEQ_HI_SEQ : Field :=
  { page := 0x23, off := 0x114, lo := 0, width := 32, acc := .ro, vmax := 4294967295 }

/-- R363: `FTL.KEY_SLOT.SLOT`. Canister slot (R339); refused while MOUNTED. -/
def FTL_KEY_SLOT_SLOT : Field :=
  { page := 0x23, off := 0x118, lo := 0, width := 6, acc := .rw, txn := .t, vmax := 63 }

/-- R363: `FTL.MAP_CFG.MS`. 10 to 500. -/
def FTL_MAP_CFG_MS : Field :=
  { page := 0x23, off := 0x11C, lo := 0, width := 10, reset := 50, acc := .rw, txn := .t, vmin := 10, vmax := 500 }

/-- R363: `FTL.MAP_CFG.ENTRIES`. 16 to 256. -/
def FTL_MAP_CFG_ENTRIES : Field :=
  { page := 0x23, off := 0x11C, lo := 16, width := 9, reset := 256, acc := .rw, txn := .t, vmin := 16, vmax := 256 }

/-- R363: `FTL.WL_DELTA.COUNT`. 100 to 60,000. -/
def FTL_WL_DELTA_COUNT : Field :=
  { page := 0x23, off := 0x120, lo := 0, width := 16, reset := 1000, acc := .rw, txn := .t, vmin := 100, vmax := 60000 }

/-- R363: `FTL.WL_CFG.INTERVAL_S`. 1 to 3,600. -/
def FTL_WL_CFG_INTERVAL_S : Field :=
  { page := 0x23, off := 0x124, lo := 0, width := 16, reset := 60, acc := .rw, txn := .t, vmin := 1, vmax := 3600 }

/-- R363: `FTL.PATROL_CFG.DAYS`. 1 to 90. -/
def FTL_PATROL_CFG_DAYS : Field :=
  { page := 0x23, off := 0x128, lo := 0, width := 8, reset := 7, acc := .rw, txn := .t, vmin := 1, vmax := 90 }

/-- R363: `FTL.PATROL_CFG.PCT`. 1 to 50. -/
def FTL_PATROL_CFG_PCT : Field :=
  { page := 0x23, off := 0x128, lo := 8, width := 8, reset := 5, acc := .rw, txn := .t, vmin := 1, vmax := 50 }

/-- R363: `FTL.SPARE_LOW.BLOCKS`. Reserve warning level. Reset in the table: 0; ceil(1 % of all blocks) at mount (R358). -/
def FTL_SPARE_LOW_BLOCKS : Field :=
  { page := 0x23, off := 0x12C, lo := 0, width := 19, acc := .rw, txn := .t, vmax := 524287 }

/-- R363: `FTL.SPARE_RESUME.BLOCKS`. R358. Reset in the table: 0; ceil(0.5 % of all blocks) at mount (R358). -/
def FTL_SPARE_RESUME_BLOCKS : Field :=
  { page := 0x23, off := 0x130, lo := 0, width := 19, acc := .rw, txn := .t, vmax := 524287 }

/-- R363: `FTL.SPARES.BLOCKS`. Spare reserve now. -/
def FTL_SPARES_BLOCKS : Field :=
  { page := 0x23, off := 0x134, lo := 0, width := 19, acc := .ro, vmax := 524287 }

/-- R363: `FTL.BLOCKS_GOOD.BLOCKS`. Blocks not retired or factory-bad. -/
def FTL_BLOCKS_GOOD_BLOCKS : Field :=
  { page := 0x23, off := 0x138, lo := 0, width := 19, acc := .ro, vmax := 524287 }

/-- R363: `FTL.ERASE_MAX.COUNT`. Highest erase count in use. -/
def FTL_ERASE_MAX_COUNT : Field :=
  { page := 0x23, off := 0x13C, lo := 0, width := 32, acc := .ro, vmax := 4294967295 }

/-- R363: `FTL.ERASE_MIN.COUNT`. Lowest erase count in use. -/
def FTL_ERASE_MIN_COUNT : Field :=
  { page := 0x23, off := 0x140, lo := 0, width := 32, acc := .ro, vmax := 4294967295 }

/-- R363: `FTL.GROUP_LAT_LAST.US`. R351. -/
def FTL_GROUP_LAT_LAST_US : Field :=
  { page := 0x23, off := 0x144, lo := 0, width := 16, acc := .ro, vmax := 65535 }

/-- R363: `FTL.GROUP_LAT_MAX.US`. Highest since the last read. -/
def FTL_GROUP_LAT_MAX_US : Field :=
  { page := 0x23, off := 0x148, lo := 0, width := 16, acc := .rc, vmax := 65535 }

/-- R363: `FTL.WRITE_RATE.MBS`. Entry bytes in the past second, MB/s. -/
def FTL_WRITE_RATE_MBS : Field :=
  { page := 0x23, off := 0x14C, lo := 0, width := 16, acc := .ro, vmax := 65535 }

/-- R363: `FTL.RETIRED_CNT.CNT`. R358. -/
def FTL_RETIRED_CNT_CNT : Field :=
  { page := 0x23, off := 0x150, lo := 0, width := 32, acc := .rw, vmax := 4294967295 }

/-- R363: `FTL.RELOCATE_CNT.CNT`. R357. -/
def FTL_RELOCATE_CNT_CNT : Field :=
  { page := 0x23, off := 0x154, lo := 0, width := 32, acc := .rw, vmax := 4294967295 }

/-- R363: `FTL.COPY_RETRY_CNT.CNT`. R347. -/
def FTL_COPY_RETRY_CNT_CNT : Field :=
  { page := 0x23, off := 0x158, lo := 0, width := 32, acc := .rw, vmax := 4294967295 }

/-- R363: `FTL.MERGE_CNT.CNT`. Partial and full merges. -/
def FTL_MERGE_CNT_CNT : Field :=
  { page := 0x23, off := 0x15C, lo := 0, width := 32, acc := .rw, vmax := 4294967295 }

/-- R363: `FTL.VOL_SEL.VOL`. Volume shown in VOL_INFO. -/
def FTL_VOL_SEL_VOL : Field :=
  { page := 0x23, off := 0x160, lo := 0, width := 4, acc := .rw, vmax := 15 }

/-- R363: `FTL.VOL_INFO.STATE`. 0 OK, 1 READ_ONLY, 2 FULL, 3 NOT_MOUNTED, 4 NOT_FORMATTED. -/
def FTL_VOL_INFO_STATE : Field :=
  { page := 0x23, off := 0x164, lo := 24, width := 8, acc := .ro, vmax := 255 }

/-- R363: `FTL.VOL_INFO.BLOCKS`. Logical blocks. -/
def FTL_VOL_INFO_BLOCKS : Field :=
  { page := 0x23, off := 0x164, lo := 0, width := 19, acc := .ro, vmax := 524287 }

/-- R363: `FTL.DIE_SEL.DIE`. Die shown in DIE_INFO and DIE_SPARES. -/
def FTL_DIE_SEL_DIE : Field :=
  { page := 0x23, off := 0x168, lo := 0, width := 4, acc := .rw, vmax := 15 }

/-- R363: `FTL.DIE_INFO.STATE`. 0 IN_SERVICE, 1 EVACUATING, 2 OUT, 3 FAILED. -/
def FTL_DIE_INFO_STATE : Field :=
  { page := 0x23, off := 0x16C, lo := 30, width := 2, acc := .ro, vmax := 3 }

/-- R363: `FTL.DIE_INFO.GOOD`. Good blocks on the die. -/
def FTL_DIE_INFO_GOOD : Field :=
  { page := 0x23, off := 0x16C, lo := 0, width := 19, acc := .ro, vmax := 524287 }

/-- R363: `FTL.DIE_SPARES.SPARES`. Spares on the die. -/
def FTL_DIE_SPARES_SPARES : Field :=
  { page := 0x23, off := 0x170, lo := 0, width := 19, acc := .ro, vmax := 524287 }

/-- Fields of page FTL, in table order (part). -/
def ftlFields0 : List Field :=
  [FTL_CTRL_ENABLE,
   FTL_CTRL_VERIFY_RB,
   FTL_CTRL_ARCH_FULL,
   FTL_CTRL_PATROL_EN,
   FTL_STAT_MOUNTED,
   FTL_STAT_MOUNTING,
   FTL_STAT_READ_ONLY,
   FTL_STAT_ARCH_FULL,
   FTL_STAT_SPARE_LOW,
   FTL_STAT_MERGING,
   FTL_STAT_DIE_FAILED,
   FTL_MOUNT_ORDER_LO_ORDER,
   FTL_MOUNT_ORDER_HI_ORDER,
   FTL_ARCH_TAIL_ORDER_LO_ORDER,
   FTL_ARCH_TAIL_ORDER_HI_ORDER,
   FTL_WSEQ_LO_SEQ,
   FTL_WSEQ_HI_SEQ,
   FTL_KEY_SLOT_SLOT,
   FTL_MAP_CFG_MS,
   FTL_MAP_CFG_ENTRIES]

/-- Fields of page FTL, in table order (part). -/
def ftlFields1 : List Field :=
  [FTL_WL_DELTA_COUNT,
   FTL_WL_CFG_INTERVAL_S,
   FTL_PATROL_CFG_DAYS,
   FTL_PATROL_CFG_PCT,
   FTL_SPARE_LOW_BLOCKS,
   FTL_SPARE_RESUME_BLOCKS,
   FTL_SPARES_BLOCKS,
   FTL_BLOCKS_GOOD_BLOCKS,
   FTL_ERASE_MAX_COUNT,
   FTL_ERASE_MIN_COUNT,
   FTL_GROUP_LAT_LAST_US,
   FTL_GROUP_LAT_MAX_US,
   FTL_WRITE_RATE_MBS,
   FTL_RETIRED_CNT_CNT,
   FTL_RELOCATE_CNT_CNT,
   FTL_COPY_RETRY_CNT_CNT,
   FTL_MERGE_CNT_CNT,
   FTL_VOL_SEL_VOL,
   FTL_VOL_INFO_STATE,
   FTL_VOL_INFO_BLOCKS]

/-- Fields of page FTL, in table order (part). -/
def ftlFields2 : List Field :=
  [FTL_DIE_SEL_DIE,
   FTL_DIE_INFO_STATE,
   FTL_DIE_INFO_GOOD,
   FTL_DIE_SPARES_SPARES]

/-- Every block-specific field of page FTL. -/
def ftlFields : List Field :=
  ftlFields0 ++
  ftlFields1 ++
  ftlFields2

/-! Page NAND. -/

/-- R364: `NAND.CTRL.ENABLE`. Interface runs. -/
def NAND_CTRL_ENABLE : Field :=
  { page := 0x24, off := 0x010, lo := 0, width := 1, acc := .rw, txn := .t, vmax := 1 }

/-- R364: `NAND.CTRL.WP_FORCE`. 1: hold NANDn_WP_N low. -/
def NAND_CTRL_WP_FORCE : Field :=
  { page := 0x24, off := 0x010, lo := 1, width := 1, acc := .rw, txn := .t, vmax := 1 }

/-- R364: `NAND.STAT.IF_MODE`. Interface in use, as IF_CFG.MODE. -/
def NAND_STAT_IF_MODE : Field :=
  { page := 0x24, off := 0x014, lo := 0, width := 2, reset := 2, acc := .ro, vmax := 3 }

/-- R364: `NAND.STAT.BUSY`. An operation is in progress. -/
def NAND_STAT_BUSY : Field :=
  { page := 0x24, off := 0x014, lo := 2, width := 1, acc := .ro, vmax := 1 }

/-- R364: `NAND.IRQ_RAW.PROG_FAIL`. Latched. -/
def NAND_IRQ_PROG_FAIL : Field := irqRaw (0x24) (0)

/-- R364: `NAND.IRQ_RAW.ERASE_FAIL`. Latched. -/
def NAND_IRQ_ERASE_FAIL : Field := irqRaw (0x24) (1)

/-- R364: `NAND.IRQ_RAW.TIMEOUT`. Latched. -/
def NAND_IRQ_TIMEOUT : Field := irqRaw (0x24) (2)

/-- R364: `NAND.IRQ_RAW.UNCORR`. Latched: uncorrectable after retries. -/
def NAND_IRQ_UNCORR : Field := irqRaw (0x24) (3)

/-- R364: `NAND.IF_CFG.MODE`. R335; refused while FTL is MOUNTED. -/
def NAND_IF_CFG_MODE : Field :=
  { page := 0x24, off := 0x100, lo := 0, width := 2, acc := .rw, txn := .t, vmax := 3 }

/-- R364: `NAND.IF_CFG.TMODE`. ONFI timing mode to select. -/
def NAND_IF_CFG_TMODE : Field :=
  { page := 0x24, off := 0x100, lo := 4, width := 4, acc := .rw, txn := .t, vmax := 15 }

/-- R364: `NAND.GEOM.PAGE_KIB`. 4, 8 or 16. -/
def NAND_GEOM_PAGE_KIB : Field :=
  { page := 0x24, off := 0x104, lo := 0, width := 5, acc := .ro, vmax := 31 }

/-- R364: `NAND.GEOM.LOG2_PPB`. log2 of pages per block. -/
def NAND_GEOM_LOG2_PPB : Field :=
  { page := 0x24, off := 0x104, lo := 8, width := 8, acc := .ro, vmax := 255 }

/-- R364: `NAND.GEOM.PLANES`. 1 or 2. -/
def NAND_GEOM_PLANES : Field :=
  { page := 0x24, off := 0x104, lo := 16, width := 2, acc := .ro, vmax := 3 }

/-- R364: `NAND.GEOM.SPARE_B8`. Spare bytes ÷ 8. -/
def NAND_GEOM_SPARE_B8 : Field :=
  { page := 0x24, off := 0x104, lo := 20, width := 12, acc := .ro, vmax := 4095 }

/-- R364: `NAND.BLOCKS_PER_DIE.BLOCKS`. From the parameter page. -/
def NAND_BLOCKS_PER_DIE_BLOCKS : Field :=
  { page := 0x24, off := 0x108, lo := 0, width := 19, acc := .ro, vmax := 524287 }

/-- R364: `NAND.CE_MAP.PRESENT`. Bit 4c + e: channel c, chip enable e answers. -/
def NAND_CE_MAP_PRESENT : Field :=
  { page := 0x24, off := 0x10C, lo := 0, width := 8, acc := .ro, vmax := 255 }

/-- R364: `NAND.CE_MAP.TWO_LUN`. Same bits: two LUNs present. -/
def NAND_CE_MAP_TWO_LUN : Field :=
  { page := 0x24, off := 0x10C, lo := 8, width := 8, acc := .ro, vmax := 255 }

/-- R364: `NAND.PSLC_CFG.EN`. R336. -/
def NAND_PSLC_CFG_EN : Field :=
  { page := 0x24, off := 0x110, lo := 0, width := 1, acc := .rw, txn := .t, vmax := 1 }

/-- R364: `NAND.PSLC_CFG.FADDR`. Feature address. -/
def NAND_PSLC_CFG_FADDR : Field :=
  { page := 0x24, off := 0x110, lo := 8, width := 8, acc := .rw, txn := .t, vmax := 255 }

/-- R364: `NAND.PSLC_VAL.P1_P4`. P1 in bits 7:0 to P4 in bits 31:24. -/
def NAND_PSLC_VAL_P1_P4 : Field :=
  { page := 0x24, off := 0x114, lo := 0, width := 32, acc := .rw, txn := .t, vmax := 4294967295 }

/-- R364: `NAND.ECC_CFG.REFRESH`. 8 to 72. -/
def NAND_ECC_CFG_REFRESH : Field :=
  { page := 0x24, off := 0x118, lo := 0, width := 7, reset := 48, acc := .rw, txn := .t, vmin := 8, vmax := 72 }

/-- R364: `NAND.ECC_CFG.RETRIES`. 0 to 15. -/
def NAND_ECC_CFG_RETRIES : Field :=
  { page := 0x24, off := 0x118, lo := 8, width := 4, reset := 7, acc := .rw, txn := .t, vmax := 15 }

/-- R364: `NAND.TIMEOUT.PROG_US`. 100 to 4,000. -/
def NAND_TIMEOUT_PROG_US : Field :=
  { page := 0x24, off := 0x11C, lo := 0, width := 12, reset := 2000, acc := .rw, txn := .t, vmin := 100, vmax := 4000 }

/-- R364: `NAND.TIMEOUT.ERASE_US`. In 10 µs units. -/
def NAND_TIMEOUT_ERASE_US : Field :=
  { page := 0x24, off := 0x11C, lo := 16, width := 12, reset := 2000, acc := .rw, txn := .t, vmax := 4095 }

/-- R364: `NAND.CORR_MAX.BITS`. Most bits corrected in one codeword since the last read. -/
def NAND_CORR_MAX_BITS : Field :=
  { page := 0x24, off := 0x120, lo := 0, width := 7, acc := .rc, vmax := 127 }

/-- R364: `NAND.UNCORR_CNT.CNT`. Reads uncorrectable after retries. -/
def NAND_UNCORR_CNT_CNT : Field :=
  { page := 0x24, off := 0x124, lo := 0, width := 32, acc := .rw, vmax := 4294967295 }

/-- R364: `NAND.READ_RETRY_CNT.CNT`. R340. -/
def NAND_READ_RETRY_CNT_CNT : Field :=
  { page := 0x24, off := 0x128, lo := 0, width := 32, acc := .rw, vmax := 4294967295 }

/-- R364: `NAND.PROG_FAIL_CNT.CNT`. Programs not verified. -/
def NAND_PROG_FAIL_CNT_CNT : Field :=
  { page := 0x24, off := 0x12C, lo := 0, width := 32, acc := .rw, vmax := 4294967295 }

/-- R364: `NAND.ERASE_FAIL_CNT.CNT`. Erases failed. -/
def NAND_ERASE_FAIL_CNT_CNT : Field :=
  { page := 0x24, off := 0x130, lo := 0, width := 32, acc := .rw, vmax := 4294967295 }

/-- R364: `NAND.TIMEOUT_CNT.CNT`. Operations timed out. -/
def NAND_TIMEOUT_CNT_CNT : Field :=
  { page := 0x24, off := 0x134, lo := 0, width := 32, acc := .rw, vmax := 4294967295 }

/-- R364: `NAND.BOOT_CTRL.GO`. Start a boot read (R345); clears itself when done. TRUSTED only.. -/
def NAND_BOOT_CTRL_GO : Field :=
  { page := 0x24, off := 0x140, lo := 31, width := 1, acc := .w1s, own := true, trusted := true, vmax := 1 }

/-- R364: `NAND.BOOT_CTRL.MODE`. 0 COPY, 1 COPY_HASH, 2 COPY_MERKLE. -/
def NAND_BOOT_CTRL_MODE : Field :=
  { page := 0x24, off := 0x140, lo := 0, width := 2, acc := .rw, trusted := true, vmax := 3 }

/-- R364: `NAND.BOOT_SRC.COPY`. Mirror copy. -/
def NAND_BOOT_SRC_COPY : Field :=
  { page := 0x24, off := 0x144, lo := 8, width := 1, acc := .rw, trusted := true, vmax := 1 }

/-- R364: `NAND.BOOT_SRC.VOL`. 4 FW_A, 5 FW_B, 9 SETTINGS. -/
def NAND_BOOT_SRC_VOL : Field :=
  { page := 0x24, off := 0x144, lo := 0, width := 4, acc := .rw, trusted := true, vmax := 15 }

/-- R364: `NAND.BOOT_OFS.BYTES`. Byte offset in the volume, a multiple of 512. -/
def NAND_BOOT_OFS_BYTES : Field :=
  { page := 0x24, off := 0x148, lo := 0, width := 32, acc := .rw, trusted := true, vmax := 4294967295 }

/-- R364: `NAND.BOOT_DST_LO.ADDR`. Destination, bits 31:0. -/
def NAND_BOOT_DST_LO_ADDR : Field :=
  { page := 0x24, off := 0x14C, lo := 0, width := 32, acc := .rw, trusted := true, vmax := 4294967295 }

/-- R364: `NAND.BOOT_DST_HI.ADDR`. Bits 39:32. -/
def NAND_BOOT_DST_HI_ADDR : Field :=
  { page := 0x24, off := 0x150, lo := 0, width := 8, acc := .rw, trusted := true, vmax := 255 }

/-- R364: `NAND.BOOT_LEN.BYTES`. Bytes to copy. -/
def NAND_BOOT_LEN_BYTES : Field :=
  { page := 0x24, off := 0x154, lo := 0, width := 32, acc := .rw, trusted := true, vmax := 4294967295 }

/-- R364: `NAND.BOOT_STAT.BUSY`. A boot read runs. -/
def NAND_BOOT_STAT_BUSY : Field :=
  { page := 0x24, off := 0x158, lo := 31, width := 1, acc := .ro, vmax := 1 }

/-- R364: `NAND.BOOT_STAT.STATUS`. 0 OK or a NAND code. -/
def NAND_BOOT_STAT_STATUS : Field :=
  { page := 0x24, off := 0x158, lo := 0, width := 16, acc := .ro, vmax := 65535 }

/-- R364: `NAND.BOOT_MEAS0–15.DATA`. SHAKE256 of the copied bytes, first byte in bits 7:0 of BOOT_MEAS0. -/
def NAND_BOOT_MEAS_DATA (k : Nat) : Field :=
  { page := 0x24, off := 0x15C + 0x4 * k, lo := 0, width := 32, acc := .ro, vmax := 4294967295 }

/-- R364: `NAND.BOOT_ROOT0–7.DATA`. Merkle root of MODE 2 (R345). -/
def NAND_BOOT_ROOT_DATA (k : Nat) : Field :=
  { page := 0x24, off := 0x19C + 0x4 * k, lo := 0, width := 32, acc := .ro, vmax := 4294967295 }

/-- Fields of page NAND, in table order (part). -/
def nandFields0 : List Field :=
  [NAND_CTRL_ENABLE,
   NAND_CTRL_WP_FORCE,
   NAND_STAT_IF_MODE,
   NAND_STAT_BUSY,
   NAND_IF_CFG_MODE,
   NAND_IF_CFG_TMODE,
   NAND_GEOM_PAGE_KIB,
   NAND_GEOM_LOG2_PPB,
   NAND_GEOM_PLANES,
   NAND_GEOM_SPARE_B8,
   NAND_BLOCKS_PER_DIE_BLOCKS,
   NAND_CE_MAP_PRESENT,
   NAND_CE_MAP_TWO_LUN,
   NAND_PSLC_CFG_EN,
   NAND_PSLC_CFG_FADDR,
   NAND_PSLC_VAL_P1_P4,
   NAND_ECC_CFG_REFRESH,
   NAND_ECC_CFG_RETRIES,
   NAND_TIMEOUT_PROG_US,
   NAND_TIMEOUT_ERASE_US]

/-- Fields of page NAND, in table order (part). -/
def nandFields1 : List Field :=
  [NAND_CORR_MAX_BITS,
   NAND_UNCORR_CNT_CNT,
   NAND_READ_RETRY_CNT_CNT,
   NAND_PROG_FAIL_CNT_CNT,
   NAND_ERASE_FAIL_CNT_CNT,
   NAND_TIMEOUT_CNT_CNT,
   NAND_BOOT_CTRL_GO,
   NAND_BOOT_CTRL_MODE,
   NAND_BOOT_SRC_COPY,
   NAND_BOOT_SRC_VOL,
   NAND_BOOT_OFS_BYTES,
   NAND_BOOT_DST_LO_ADDR,
   NAND_BOOT_DST_HI_ADDR,
   NAND_BOOT_LEN_BYTES,
   NAND_BOOT_STAT_BUSY,
   NAND_BOOT_STAT_STATUS]

/-- Every block-specific field of page NAND. -/
def nandFields : List Field :=
  nandFields0 ++
  nandFields1 ++
  (List.range 16).map (NAND_BOOT_MEAS_DATA) ++
  (List.range 8).map (NAND_BOOT_ROOT_DATA)

/-! Page TWIN. -/

/-- R333: `TWIN.CTRL.ENABLE`. 1: twin operation (R305). -/
def TWIN_CTRL_ENABLE : Field :=
  { page := 0x30, off := 0x010, lo := 0, width := 1, acc := .rw, txn := .t, own := true, vmax := 1 }

/-- R333: `TWIN.CTRL.SOLO_START`. 1: ACTIVE alone after SEEK.MS (R306). -/
def TWIN_CTRL_SOLO_START : Field :=
  { page := 0x30, off := 0x010, lo := 1, width := 1, acc := .rw, txn := .t, vmax := 1 }

/-- R333: `TWIN.CTRL.PREFER`. Election preference (R307). -/
def TWIN_CTRL_PREFER : Field :=
  { page := 0x30, off := 0x010, lo := 2, width := 1, acc := .rw, txn := .t, vmax := 1 }

/-- R333: `TWIN.CTRL.SWAP`. Start a handover (R325); clears itself. -/
def TWIN_CTRL_SWAP : Field :=
  { page := 0x30, off := 0x010, lo := 4, width := 1, acc := .w1s, own := true, vmax := 1 }

/-- R333: `TWIN.CTRL.DISSOLVE`. ACTIVE alone (R322); clears itself. -/
def TWIN_CTRL_DISSOLVE : Field :=
  { page := 0x30, off := 0x010, lo := 5, width := 1, acc := .w1s, own := true, vmax := 1 }

/-- R333: `TWIN.CTRL.RESOLVE`. 1 KEEP, 2 STEP_DOWN, 3 DROP (R327). -/
def TWIN_CTRL_RESOLVE : Field :=
  { page := 0x30, off := 0x010, lo := 8, width := 2, acc := .wo, own := true, vmax := 3 }

/-- R333: `TWIN.CTRL.FENCE`. 1: DESYNCED and stays so. -/
def TWIN_CTRL_FENCE : Field :=
  { page := 0x30, off := 0x010, lo := 30, width := 1, acc := .rw, txn := .t, own := true, vmax := 1 }

/-- R333: `TWIN.STAT.ROLE`. State of R306. -/
def TWIN_STAT_ROLE : Field :=
  { page := 0x30, off := 0x014, lo := 0, width := 3, acc := .ro, vmax := 7 }

/-- R333: `TWIN.STAT.PAIRED`. ACTIVE with a partner in STANDBY. -/
def TWIN_STAT_PAIRED : Field :=
  { page := 0x30, off := 0x014, lo := 3, width := 1, acc := .ro, vmax := 1 }

/-- R333: `TWIN.STAT.LEASE_HELD`. The twin may act on the field. -/
def TWIN_STAT_LEASE_HELD : Field :=
  { page := 0x30, off := 0x014, lo := 4, width := 1, acc := .ro, vmax := 1 }

/-- R333: `TWIN.STAT.ALONE`. ACTIVE without a partner in STANDBY. -/
def TWIN_STAT_ALONE : Field :=
  { page := 0x30, off := 0x014, lo := 5, width := 1, acc := .ro, vmax := 1 }

/-- R333: `TWIN.STAT.DISPUTE`. R327. -/
def TWIN_STAT_DISPUTE : Field :=
  { page := 0x30, off := 0x014, lo := 6, width := 1, acc := .ro, vmax := 1 }

/-- R333: `TWIN.STAT.ORDER_FULL`. R318. -/
def TWIN_STAT_ORDER_FULL : Field :=
  { page := 0x30, off := 0x014, lo := 7, width := 1, acc := .ro, vmax := 1 }

/-- R333: `TWIN.STAT.PATHS`. bit 8 Tongs link, bit 9 LAN A, bit 10 LAN B (R324). -/
def TWIN_STAT_PATHS : Field :=
  { page := 0x30, off := 0x014, lo := 8, width := 3, acc := .ro, vmax := 7 }

/-- R333: `TWIN.STAT.TONGS_HALF`. One Tongs lane in use. -/
def TWIN_STAT_TONGS_HALF : Field :=
  { page := 0x30, off := 0x014, lo := 11, width := 1, acc := .ro, vmax := 1 }

/-- R333: `TWIN.STAT.PEER_ROLE`. Partner's state as last heard. -/
def TWIN_STAT_PEER_ROLE : Field :=
  { page := 0x30, off := 0x014, lo := 12, width := 3, acc := .ro, vmax := 7 }

/-- R333: `TWIN.IRQ_RAW.ROLE_CHANGE`. Latched. -/
def TWIN_IRQ_ROLE_CHANGE : Field := irqRaw (0x30) (0)

/-- R333: `TWIN.IRQ_RAW.ACQUIRED`. Latched (R323). -/
def TWIN_IRQ_ACQUIRED : Field := irqRaw (0x30) (1)

/-- R333: `TWIN.IRQ_RAW.PATH_DOWN`. Latched (R324). -/
def TWIN_IRQ_PATH_DOWN : Field := irqRaw (0x30) (2)

/-- R333: `TWIN.IRQ_RAW.MISMATCH`. Latched (R326). -/
def TWIN_IRQ_MISMATCH : Field := irqRaw (0x30) (3)

/-- R333: `TWIN.IRQ_RAW.DISPUTE`. Latched (R327). -/
def TWIN_IRQ_DISPUTE : Field := irqRaw (0x30) (4)

/-- R333: `TWIN.IRQ_RAW.SYNC_DONE`. Latched (R330). -/
def TWIN_IRQ_SYNC_DONE : Field := irqRaw (0x30) (5)

/-- R333: `TWIN.IRQ_RAW.SYNC_ABORT`. Latched (R332). -/
def TWIN_IRQ_SYNC_ABORT : Field := irqRaw (0x30) (6)

/-- R333: `TWIN.IRQ_RAW.DUAL_ACTIVE`. Latched (R308). -/
def TWIN_IRQ_DUAL_ACTIVE : Field := irqRaw (0x30) (7)

/-- R333: `TWIN.PARTNER_ID_LO.ID`. bits 23:0 lot, 28:24 wafer, 31:29 position bits 2:0. -/
def TWIN_PARTNER_ID_LO_ID : Field :=
  { page := 0x30, off := 0x100, lo := 0, width := 32, acc := .rw, txn := .t, vmax := 4294967295 }

/-- R333: `TWIN.PARTNER_ID_HI.ID`. Position bits 15:3. -/
def TWIN_PARTNER_ID_HI_ID : Field :=
  { page := 0x30, off := 0x104, lo := 0, width := 13, acc := .rw, txn := .t, vmax := 8191 }

/-- R333: `TWIN.PARTNER_MAC_LO.MAC`. Bytes 2–5. -/
def TWIN_PARTNER_MAC_LO_MAC : Field :=
  { page := 0x30, off := 0x108, lo := 0, width := 32, acc := .rw, txn := .t, vmax := 4294967295 }

/-- R333: `TWIN.PARTNER_MAC_HI.MAC`. Bytes 0–1. -/
def TWIN_PARTNER_MAC_HI_MAC : Field :=
  { page := 0x30, off := 0x10C, lo := 0, width := 16, acc := .rw, txn := .t, vmax := 65535 }

/-- R333: `TWIN.TWIN_MAC_LO.MAC`. Stream 0 source address, bytes 2–5. -/
def TWIN_TWIN_MAC_LO_MAC : Field :=
  { page := 0x30, off := 0x110, lo := 0, width := 32, acc := .rw, txn := .t, vmax := 4294967295 }

/-- R333: `TWIN.TWIN_MAC_HI.MAC`. Bytes 0–1. -/
def TWIN_TWIN_MAC_HI_MAC : Field :=
  { page := 0x30, off := 0x114, lo := 0, width := 16, acc := .rw, txn := .t, vmax := 65535 }

/-- R333: `TWIN.LEASE_LEFT.US`. Lease time left in this twin's view. -/
def TWIN_LEASE_LEFT_US : Field :=
  { page := 0x30, off := 0x118, lo := 0, width := 14, acc := .ro, vmax := 16383 }

/-- R333: `TWIN.TONGS_CFG.LOSS_MS`. 10 to 1,000. -/
def TWIN_TONGS_CFG_LOSS_MS : Field :=
  { page := 0x30, off := 0x11C, lo := 0, width := 10, reset := 50, acc := .rw, txn := .t, vmin := 10, vmax := 1000 }

/-- R333: `TWIN.SEEK.MS`. 1,000 to 60,000. -/
def TWIN_SEEK_MS : Field :=
  { page := 0x30, off := 0x120, lo := 0, width := 16, reset := 5000, acc := .rw, txn := .t, vmin := 1000, vmax := 60000 }

/-- R333: `TWIN.SYNC_CFG.BUF_MIB`. 64 to 4,096. -/
def TWIN_SYNC_CFG_BUF_MIB : Field :=
  { page := 0x30, off := 0x124, lo := 0, width := 13, reset := 1024, acc := .rw, txn := .t, vmin := 64, vmax := 4096 }

/-- R333: `TWIN.SYNC_CFG.RETRY_S`. 10 to 3,600. -/
def TWIN_SYNC_CFG_RETRY_S : Field :=
  { page := 0x30, off := 0x124, lo := 16, width := 12, reset := 60, acc := .rw, txn := .t, vmin := 10, vmax := 3600 }

/-- R333: `TWIN.OUT_CFG.MAX_LAG_MS`. 1 to 1,000. -/
def TWIN_OUT_CFG_MAX_LAG_MS : Field :=
  { page := 0x30, off := 0x128, lo := 0, width := 10, reset := 100, acc := .rw, txn := .t, vmin := 1, vmax := 1000 }

/-- R333: `TWIN.SYNC_ORDER_LO.ORDER`. S, bits 31:0. -/
def TWIN_SYNC_ORDER_LO_ORDER : Field :=
  { page := 0x30, off := 0x12C, lo := 0, width := 32, acc := .ro, vmax := 4294967295 }

/-- R333: `TWIN.SYNC_ORDER_HI.ORDER`. Bits 47:32. -/
def TWIN_SYNC_ORDER_HI_ORDER : Field :=
  { page := 0x30, off := 0x130, lo := 0, width := 16, acc := .ro, vmax := 65535 }

/-- R333: `TWIN.SYNC_DONE.RECORDS`. Records copied. -/
def TWIN_SYNC_DONE_RECORDS : Field :=
  { page := 0x30, off := 0x134, lo := 0, width := 21, acc := .ro, vmax := 2097151 }

/-- R333: `TWIN.APPLIED_LO.ORDER`. Standby: highest order number committed. Active: highest acknowledged by the partner.. -/
def TWIN_APPLIED_LO_ORDER : Field :=
  { page := 0x30, off := 0x138, lo := 0, width := 32, acc := .ro, vmax := 4294967295 }

/-- R333: `TWIN.APPLIED_HI.ORDER`. Bits 47:32. -/
def TWIN_APPLIED_HI_ORDER : Field :=
  { page := 0x30, off := 0x13C, lo := 0, width := 16, acc := .ro, vmax := 65535 }

/-- R333: `TWIN.LAG.RECORDS`. Records sent and not yet committed by the partner. -/
def TWIN_LAG_RECORDS : Field :=
  { page := 0x30, off := 0x140, lo := 0, width := 23, acc := .ro, vmax := 8388607 }

/-- R333: `TWIN.OUT_SEQ_LO.INDEX`. Next stream 0 index, bits 31:0. -/
def TWIN_OUT_SEQ_LO_INDEX : Field :=
  { page := 0x30, off := 0x144, lo := 0, width := 32, acc := .ro, vmax := 4294967295 }

/-- R333: `TWIN.OUT_SEQ_HI.INDEX`. Bits 47:32. -/
def TWIN_OUT_SEQ_HI_INDEX : Field :=
  { page := 0x30, off := 0x148, lo := 0, width := 16, acc := .ro, vmax := 65535 }

/-- R333: `TWIN.MISMATCH_CNT.CNT`. R326. -/
def TWIN_MISMATCH_CNT_CNT : Field :=
  { page := 0x30, off := 0x14C, lo := 0, width := 32, acc := .rw, vmax := 4294967295 }

/-- R333: `TWIN.DISPUTE_HOUR.CNT`. R327. -/
def TWIN_DISPUTE_HOUR_CNT : Field :=
  { page := 0x30, off := 0x150, lo := 0, width := 8, acc := .ro, vmax := 255 }

/-- R333: `TWIN.TAKEOVER_CNT.CNT`. R323. -/
def TWIN_TAKEOVER_CNT_CNT : Field :=
  { page := 0x30, off := 0x154, lo := 0, width := 32, acc := .rw, vmax := 4294967295 }

/-- R333: `TWIN.TONGS_RETRY_CNT.CNT`. R309. -/
def TWIN_TONGS_RETRY_CNT_CNT : Field :=
  { page := 0x30, off := 0x158, lo := 0, width := 32, acc := .rw, vmax := 4294967295 }

/-- R333: `TWIN.FORWARD_CNT.CNT`. R315. -/
def TWIN_FORWARD_CNT_CNT : Field :=
  { page := 0x30, off := 0x15C, lo := 0, width := 32, acc := .rw, vmax := 4294967295 }

/-- R333: `TWIN.LAG_DROP_CNT.CNT`. R320. -/
def TWIN_LAG_DROP_CNT_CNT : Field :=
  { page := 0x30, off := 0x160, lo := 0, width := 32, acc := .rw, vmax := 4294967295 }

/-- R333: `TWIN.MISSING_CNT.CNT`. R326. -/
def TWIN_MISSING_CNT_CNT : Field :=
  { page := 0x30, off := 0x164, lo := 0, width := 32, acc := .rw, vmax := 4294967295 }

/-- R333: `TWIN.LAST_MISMATCH.INDEX`. Output index, bits 23:0. -/
def TWIN_LAST_MISMATCH_INDEX : Field :=
  { page := 0x30, off := 0x168, lo := 8, width := 24, acc := .ro, vmax := 16777215 }

/-- R333: `TWIN.LAST_MISMATCH.STREAM`. Stream. -/
def TWIN_LAST_MISMATCH_STREAM : Field :=
  { page := 0x30, off := 0x168, lo := 0, width := 4, acc := .ro, vmax := 15 }

/-- Fields of page TWIN, in table order (part). -/
def twinFields0 : List Field :=
  [TWIN_CTRL_ENABLE,
   TWIN_CTRL_SOLO_START,
   TWIN_CTRL_PREFER,
   TWIN_CTRL_SWAP,
   TWIN_CTRL_DISSOLVE,
   TWIN_CTRL_RESOLVE,
   TWIN_CTRL_FENCE,
   TWIN_STAT_ROLE,
   TWIN_STAT_PAIRED,
   TWIN_STAT_LEASE_HELD,
   TWIN_STAT_ALONE,
   TWIN_STAT_DISPUTE,
   TWIN_STAT_ORDER_FULL,
   TWIN_STAT_PATHS,
   TWIN_STAT_TONGS_HALF,
   TWIN_STAT_PEER_ROLE,
   TWIN_PARTNER_ID_LO_ID,
   TWIN_PARTNER_ID_HI_ID,
   TWIN_PARTNER_MAC_LO_MAC,
   TWIN_PARTNER_MAC_HI_MAC]

/-- Fields of page TWIN, in table order (part). -/
def twinFields1 : List Field :=
  [TWIN_TWIN_MAC_LO_MAC,
   TWIN_TWIN_MAC_HI_MAC,
   TWIN_LEASE_LEFT_US,
   TWIN_TONGS_CFG_LOSS_MS,
   TWIN_SEEK_MS,
   TWIN_SYNC_CFG_BUF_MIB,
   TWIN_SYNC_CFG_RETRY_S,
   TWIN_OUT_CFG_MAX_LAG_MS,
   TWIN_SYNC_ORDER_LO_ORDER,
   TWIN_SYNC_ORDER_HI_ORDER,
   TWIN_SYNC_DONE_RECORDS,
   TWIN_APPLIED_LO_ORDER,
   TWIN_APPLIED_HI_ORDER,
   TWIN_LAG_RECORDS,
   TWIN_OUT_SEQ_LO_INDEX,
   TWIN_OUT_SEQ_HI_INDEX,
   TWIN_MISMATCH_CNT_CNT,
   TWIN_DISPUTE_HOUR_CNT,
   TWIN_TAKEOVER_CNT_CNT,
   TWIN_TONGS_RETRY_CNT_CNT]

/-- Fields of page TWIN, in table order (part). -/
def twinFields2 : List Field :=
  [TWIN_FORWARD_CNT_CNT,
   TWIN_LAG_DROP_CNT_CNT,
   TWIN_MISSING_CNT_CNT,
   TWIN_LAST_MISMATCH_INDEX,
   TWIN_LAST_MISMATCH_STREAM]

/-- Every block-specific field of page TWIN. -/
def twinFields : List Field :=
  twinFields0 ++
  twinFields1 ++
  twinFields2

end Sys2Proof.Machine.Reg
end

