-- ==== Sys2Proof/Machine/RegE.lean ====
section
/-! DEFINITION. The register fields of the pages ETH, ETHP, PTP, PRP, PCIE, PLC, RAD, one constant per field, as the register tables of spec/ give them. -/

namespace Sys2Proof.Machine.Reg

/-! Page ETH. -/

/-- R300: `ETH.CTRL.ENABLE`. 1: the switch runs. -/
def ETH_CTRL_ENABLE : Field :=
  { page := 0x28, off := 0x010, lo := 0, width := 1, acc := .rw, txn := .t, vmax := 1 }

/-- R300: `ETH.IRQ_RAW.BATCH_DROP`. Latched. -/
def ETH_IRQ_BATCH_DROP : Field := irqRaw (0x28) (0)

/-- R300: `ETH.IRQ_RAW.ACK_ABANDON`. Latched (R288). -/
def ETH_IRQ_ACK_ABANDON : Field := irqRaw (0x28) (1)

/-- R300: `ETH.FWD_MASK.PAIRS`. bit 0 PA–P2, bit 1 PA–P3, bit 2 P2–P3. -/
def ETH_FWD_MASK_PAIRS : Field :=
  { page := 0x28, off := 0x100, lo := 0, width := 3, acc := .rw, txn := .t, vmax := 7 }

/-- R300: `ETH.MAC_LO.MAC`. Address bytes 2–5. -/
def ETH_MAC_LO_MAC : Field :=
  { page := 0x28, off := 0x104, lo := 0, width := 32, acc := .rw, txn := .t, vmax := 4294967295 }

/-- R300: `ETH.MAC_HI.MAC`. Bytes 0–1. -/
def ETH_MAC_HI_MAC : Field :=
  { page := 0x28, off := 0x108, lo := 0, width := 16, acc := .rw, txn := .t, vmax := 65535 }

/-- R300: `ETH.PORTS.ZCF`. UDP port of KIND 0 batches. -/
def ETH_PORTS_ZCF : Field :=
  { page := 0x28, off := 0x10C, lo := 0, width := 16, reset := 41280, acc := .rw, txn := .t, vmax := 65535 }

/-- R300: `ETH.PORTS.WRAP`. UDP port of the wrapper. -/
def ETH_PORTS_WRAP : Field :=
  { page := 0x28, off := 0x10C, lo := 16, width := 16, reset := 4059, acc := .rw, txn := .t, vmax := 65535 }

/-- R300: `ETH.BATCH_CFG.TIMEOUT_MS`. 100 to 60,000. -/
def ETH_BATCH_CFG_TIMEOUT_MS : Field :=
  { page := 0x28, off := 0x110, lo := 0, width := 16, reset := 2000, acc := .rw, txn := .t, vmin := 100, vmax := 60000 }

/-- R300: `ETH.AGE_S.S`. 10 to 3,600. -/
def ETH_AGE_S_S : Field :=
  { page := 0x28, off := 0x114, lo := 0, width := 16, reset := 300, acc := .rw, txn := .t, vmin := 10, vmax := 3600 }

/-- R300: `ETH.CPU_BC_LIMIT.FPS`. Frames/s. -/
def ETH_CPU_BC_LIMIT_FPS : Field :=
  { page := 0x28, off := 0x118, lo := 0, width := 16, reset := 2000, acc := .rw, txn := .t, vmax := 65535 }

/-- R300: `ETH.IP_SEL.IDX`. IP table entry. -/
def ETH_IP_SEL_IDX : Field :=
  { page := 0x28, off := 0x120, lo := 0, width := 2, acc := .rw, vmax := 3 }

/-- R300: `ETH.IP_DATA0–3.ADDR`. IPv6, or IPv4 in IP_DATA0. -/
def ETH_IP_DATA_ADDR (k : Nat) : Field :=
  { page := 0x28, off := 0x124 + 0x4 * k, lo := 0, width := 32, acc := .rw, txn := .t, vmax := 4294967295 }

/-- R300: `ETH.IP_FLAGS.V6`. IPv6. -/
def ETH_IP_FLAGS_V6 : Field :=
  { page := 0x28, off := 0x134, lo := 1, width := 1, acc := .rw, txn := .t, vmax := 1 }

/-- R300: `ETH.IP_FLAGS.VALID`. Entry in use. -/
def ETH_IP_FLAGS_VALID : Field :=
  { page := 0x28, off := 0x134, lo := 0, width := 1, acc := .rw, txn := .t, vmax := 1 }

/-- R300: `ETH.SRC_SEL.CONC`. Source entry. -/
def ETH_SRC_SEL_CONC : Field :=
  { page := 0x28, off := 0x140, lo := 0, width := 6, acc := .rw, vmax := 63 }

/-- R300: `ETH.SRC_ADDR0–3.ADDR`. As IP_DATA. -/
def ETH_SRC_ADDR_ADDR (k : Nat) : Field :=
  { page := 0x28, off := 0x144 + 0x4 * k, lo := 0, width := 32, acc := .rw, txn := .t, vmax := 4294967295 }

/-- R300: `ETH.SRC_CFG.VALID`. Entry in use. -/
def ETH_SRC_CFG_VALID : Field :=
  { page := 0x28, off := 0x154, lo := 31, width := 1, acc := .rw, txn := .t, vmax := 1 }

/-- R300: `ETH.SRC_CFG.V6`. IPv6. -/
def ETH_SRC_CFG_V6 : Field :=
  { page := 0x28, off := 0x154, lo := 30, width := 1, acc := .rw, txn := .t, vmax := 1 }

/-- R300: `ETH.SRC_CFG.KIND`. R285. -/
def ETH_SRC_CFG_KIND : Field :=
  { page := 0x28, off := 0x154, lo := 28, width := 2, acc := .rw, txn := .t, vmax := 3 }

/-- R300: `ETH.SRC_CFG.ACK`. KIND 1 acknowledgements. -/
def ETH_SRC_CFG_ACK : Field :=
  { page := 0x28, off := 0x154, lo := 27, width := 1, reset := 1, acc := .rw, txn := .t, vmax := 1 }

/-- R300: `ETH.SRC_CFG.LEARN`. Learning messages taken. -/
def ETH_SRC_CFG_LEARN : Field :=
  { page := 0x28, off := 0x154, lo := 26, width := 1, acc := .rw, txn := .t, vmax := 1 }

/-- R300: `ETH.SRC_CFG.SLOT`. Canister slot. -/
def ETH_SRC_CFG_SLOT : Field :=
  { page := 0x28, off := 0x154, lo := 16, width := 6, acc := .rw, txn := .t, vmax := 63 }

/-- R300: `ETH.SRC_CFG.UDP`. Source port. -/
def ETH_SRC_CFG_UDP : Field :=
  { page := 0x28, off := 0x154, lo := 0, width := 16, acc := .rw, txn := .t, vmax := 65535 }

/-- R300: `ETH.ACK_TITLE_LO.TITLE`. Bytes 4–7. -/
def ETH_ACK_TITLE_LO_TITLE : Field :=
  { page := 0x28, off := 0x158, lo := 0, width := 32, acc := .rw, txn := .t, vmax := 4294967295 }

/-- R300: `ETH.ACK_TITLE_HI.TITLE`. Bytes 0–3. -/
def ETH_ACK_TITLE_HI_TITLE : Field :=
  { page := 0x28, off := 0x15C, lo := 0, width := 32, acc := .rw, txn := .t, vmax := 4294967295 }

/-- R300: `ETH.BATCH_RX_CNT.CNT`. Batches taken. -/
def ETH_BATCH_RX_CNT_CNT : Field :=
  { page := 0x28, off := 0x160, lo := 0, width := 32, acc := .rw, vmax := 4294967295 }

/-- R300: `ETH.BATCH_DROP_CNT.CNT`. R284, R287. -/
def ETH_BATCH_DROP_CNT_CNT : Field :=
  { page := 0x28, off := 0x164, lo := 0, width := 32, acc := .rw, vmax := 4294967295 }

/-- R300: `ETH.ACK_ABANDON_CNT.CNT`. R288. -/
def ETH_ACK_ABANDON_CNT_CNT : Field :=
  { page := 0x28, off := 0x168, lo := 0, width := 32, acc := .rw, vmax := 4294967295 }

/-- R300: `ETH.BC_DROP_CNT.CNT`. R284. -/
def ETH_BC_DROP_CNT_CNT : Field :=
  { page := 0x28, off := 0x16C, lo := 0, width := 32, acc := .rw, vmax := 4294967295 }

/-- R300: `ETH.LG_LEN.LEN`. Bytes of LG_BUF, 0 to 128. -/
def ETH_LG_LEN_LEN : Field :=
  { page := 0x28, off := 0x170, lo := 0, width := 8, acc := .rw, vmin := 0, vmax := 128 }

/-- R300: `ETH.LG_BUF.DATA`. Last-gasp frame (R294). -/
def ETH_LG_BUF_DATA (k : Nat) : Field :=
  { page := 0x28, off := 0x200 + 0x4 * k, lo := 0, width := 32, acc := .rw, vmax := 4294967295 }

/-- R300: `ETH.MDIO_CMD.GO`. Send one management frame (R301); clears itself when done. -/
def ETH_MDIO_CMD_GO : Field :=
  { page := 0x28, off := 0x280, lo := 31, width := 1, acc := .w1s, own := true, vmax := 1 }

/-- R300: `ETH.MDIO_CMD.OP`. 1 write, 2 read; 0 and 3 refused with VALUE_REFUSED. -/
def ETH_MDIO_CMD_OP : Field :=
  { page := 0x28, off := 0x280, lo := 28, width := 2, acc := .rw, vmin := 1, vmax := 2 }

/-- R300: `ETH.MDIO_CMD.PHYAD`. PHY address. -/
def ETH_MDIO_CMD_PHYAD : Field :=
  { page := 0x28, off := 0x280, lo := 21, width := 5, acc := .rw, vmax := 31 }

/-- R300: `ETH.MDIO_CMD.REGAD`. Register address. -/
def ETH_MDIO_CMD_REGAD : Field :=
  { page := 0x28, off := 0x280, lo := 16, width := 5, acc := .rw, vmax := 31 }

/-- R300: `ETH.MDIO_CMD.WDATA`. Data for a write. -/
def ETH_MDIO_CMD_WDATA : Field :=
  { page := 0x28, off := 0x280, lo := 0, width := 16, acc := .rw, vmax := 65535 }

/-- R300: `ETH.MDIO_STAT.BUSY`. A frame is in progress. -/
def ETH_MDIO_STAT_BUSY : Field :=
  { page := 0x28, off := 0x284, lo := 31, width := 1, acc := .ro, vmax := 1 }

/-- R300: `ETH.MDIO_STAT.NO_TA`. The PHY did not drive the turnaround of the last read. -/
def ETH_MDIO_STAT_NO_TA : Field :=
  { page := 0x28, off := 0x284, lo := 30, width := 1, acc := .ro, vmax := 1 }

/-- R300: `ETH.MDIO_STAT.RDATA`. Data of the last read. -/
def ETH_MDIO_STAT_RDATA : Field :=
  { page := 0x28, off := 0x284, lo := 0, width := 16, acc := .ro, vmax := 65535 }

/-- R300: `ETH.MDIO_CFG.DIV`. ETH_MDC = 312.5 MHz / (2 × (DIV + 1)); 62 to 255. -/
def ETH_MDIO_CFG_DIV : Field :=
  { page := 0x28, off := 0x288, lo := 0, width := 8, reset := 63, acc := .rw, txn := .t, vmin := 62, vmax := 255 }

/-- Fields of page ETH, in table order (part). -/
def ethFields0 : List Field :=
  [ETH_CTRL_ENABLE,
   ETH_FWD_MASK_PAIRS,
   ETH_MAC_LO_MAC,
   ETH_MAC_HI_MAC,
   ETH_PORTS_ZCF,
   ETH_PORTS_WRAP,
   ETH_BATCH_CFG_TIMEOUT_MS,
   ETH_AGE_S_S,
   ETH_CPU_BC_LIMIT_FPS,
   ETH_IP_SEL_IDX,
   ETH_IP_FLAGS_V6,
   ETH_IP_FLAGS_VALID,
   ETH_SRC_SEL_CONC,
   ETH_SRC_CFG_VALID,
   ETH_SRC_CFG_V6,
   ETH_SRC_CFG_KIND,
   ETH_SRC_CFG_ACK,
   ETH_SRC_CFG_LEARN,
   ETH_SRC_CFG_SLOT,
   ETH_SRC_CFG_UDP]

/-- Fields of page ETH, in table order (part). -/
def ethFields1 : List Field :=
  [ETH_ACK_TITLE_LO_TITLE,
   ETH_ACK_TITLE_HI_TITLE,
   ETH_BATCH_RX_CNT_CNT,
   ETH_BATCH_DROP_CNT_CNT,
   ETH_ACK_ABANDON_CNT_CNT,
   ETH_BC_DROP_CNT_CNT,
   ETH_LG_LEN_LEN,
   ETH_MDIO_CMD_GO,
   ETH_MDIO_CMD_OP,
   ETH_MDIO_CMD_PHYAD,
   ETH_MDIO_CMD_REGAD,
   ETH_MDIO_CMD_WDATA,
   ETH_MDIO_STAT_BUSY,
   ETH_MDIO_STAT_NO_TA,
   ETH_MDIO_STAT_RDATA,
   ETH_MDIO_CFG_DIV]

/-- Every block-specific field of page ETH. -/
def ethFields : List Field :=
  ethFields0 ++
  ethFields1 ++
  (List.range 4).map (ETH_IP_DATA_ADDR) ++
  (List.range 4).map (ETH_SRC_ADDR_ADDR) ++
  (List.range 32).map (ETH_LG_BUF_DATA)

/-! Page ETHP. -/

/-- R302: `ETHP.CTRL.ENABLE`. Port runs. -/
def ETHP_CTRL_ENABLE (i : Nat) : Field :=
  { page := 0x29 + i, off := 0x010, lo := 0, width := 1, acc := .rw, txn := .t, vmax := 1 }

/-- R302: `ETHP.CTRL.MODE`. 0 10GBASE-R, 1 1000BASE-X, 2 SGMII, 3 10BASE-T1L. Reset in the table: Per port. -/
def ETHP_CTRL_MODE (i : Nat) : Field :=
  { page := 0x29 + i, off := 0x010, lo := 1, width := 2, reset := if i = 3 then 3 else if i = 2 then 1 else 0, acc := .rw, txn := .t, vmax := 3 }

/-- R302: `ETHP.CTRL.AUTONEG`. 1000BASE-X and SGMII. -/
def ETHP_CTRL_AUTONEG (i : Nat) : Field :=
  { page := 0x29 + i, off := 0x010, lo := 3, width := 1, reset := 1, acc := .rw, txn := .t, vmax := 1 }

/-- R302: `ETHP.CTRL.T1L_AMP`. P3: 0 1.0 Vpp, 1 2.4 Vpp. -/
def ETHP_CTRL_T1L_AMP (i : Nat) : Field :=
  { page := 0x29 + i, off := 0x010, lo := 4, width := 1, reset := 1, acc := .rw, txn := .t, vmax := 1 }

/-- R302: `ETHP.CTRL.FENCE`. Port stops sending and receiving. -/
def ETHP_CTRL_FENCE (i : Nat) : Field :=
  { page := 0x29 + i, off := 0x010, lo := 30, width := 1, acc := .rw, txn := .t, vmax := 1 }

/-- R302: `ETHP.STAT.LINK`. Link up. -/
def ETHP_STAT_LINK (i : Nat) : Field :=
  { page := 0x29 + i, off := 0x014, lo := 0, width := 1, acc := .ro, vmax := 1 }

/-- R302: `ETHP.STAT.SPEED`. 0 10, 1 100, 2 1000 Mb/s, 3 10 Gb/s. -/
def ETHP_STAT_SPEED (i : Nat) : Field :=
  { page := 0x29 + i, off := 0x014, lo := 1, width := 2, acc := .ro, vmax := 3 }

/-- R302: `ETHP.STAT.SQI`. P3 signal quality, 0 to 7. -/
def ETHP_STAT_SQI (i : Nat) : Field :=
  { page := 0x29 + i, off := 0x014, lo := 4, width := 3, acc := .ro, vmax := 7 }

/-- R302: `ETHP.IRQ_RAW.LINK_CHANGE`. Latched. -/
def ETHP_IRQ_LINK_CHANGE (i : Nat) : Field := irqRaw (0x29 + i) (0)

/-- R302: `ETHP.MAX_FRAME.BYTES`. 64 to the limit of R282. -/
def ETHP_MAX_FRAME_BYTES (i : Nat) : Field :=
  { page := 0x29 + i, off := 0x100, lo := 0, width := 14, reset := 1522, acc := .rw, txn := .t, vmin := 64, vmax := 16383 }

/-- R302: `ETHP.KSVC.PORT`. P3 only (R292). -/
def ETHP_KSVC_PORT (i : Nat) : Field :=
  { page := 0x29 + i, off := 0x104, lo := 0, width := 16, reset := 7410, acc := .rw, txn := .t, vmax := 65535 }

/-- R302: `ETHP.RX_OK_CNT.CNT`. Frames received. -/
def ETHP_RX_OK_CNT_CNT (i : Nat) : Field :=
  { page := 0x29 + i, off := 0x110, lo := 0, width := 32, acc := .rw, vmax := 4294967295 }

/-- R302: `ETHP.RX_FCS_CNT.CNT`. FCS errors. -/
def ETHP_RX_FCS_CNT_CNT (i : Nat) : Field :=
  { page := 0x29 + i, off := 0x114, lo := 0, width := 32, acc := .rw, vmax := 4294967295 }

/-- R302: `ETHP.TX_OK_CNT.CNT`. Frames sent. -/
def ETHP_TX_OK_CNT_CNT (i : Nat) : Field :=
  { page := 0x29 + i, off := 0x118, lo := 0, width := 32, acc := .rw, vmax := 4294967295 }

/-- Fields of page ETHP, in table order (part). -/
def ethpFields0 (i : Nat) : List Field :=
  [ETHP_CTRL_ENABLE i,
   ETHP_CTRL_MODE i,
   ETHP_CTRL_AUTONEG i,
   ETHP_CTRL_T1L_AMP i,
   ETHP_CTRL_FENCE i,
   ETHP_STAT_LINK i,
   ETHP_STAT_SPEED i,
   ETHP_STAT_SQI i,
   ETHP_MAX_FRAME_BYTES i,
   ETHP_KSVC_PORT i,
   ETHP_RX_OK_CNT_CNT i,
   ETHP_RX_FCS_CNT_CNT i,
   ETHP_TX_OK_CNT_CNT i]

/-- Every block-specific field of page ETHP. -/
def ethpFields (i : Nat) : List Field :=
  ethpFields0 i

/-! Page PTP. -/

/-- R231: `PTP.CTRL.ENABLE`. Stamp event messages. -/
def PTP_CTRL_ENABLE : Field :=
  { page := 0x2D, off := 0x010, lo := 0, width := 1, acc := .rw, txn := .t, vmax := 1 }

/-- R231: `PTP.CTRL.TC_EN`. Transparent clock (R217). -/
def PTP_CTRL_TC_EN : Field :=
  { page := 0x2D, off := 0x010, lo := 1, width := 1, acc := .rw, txn := .t, vmax := 1 }

/-- R231: `PTP.CTRL.TC_MODE`. 0 E2E, 1 P2P. -/
def PTP_CTRL_TC_MODE : Field :=
  { page := 0x2D, off := 0x010, lo := 2, width := 1, reset := 1, acc := .rw, txn := .t, vmax := 1 }

/-- R231: `PTP.CTRL.LEAP_AUTO`. Announce flags write RTC.LEAP (R207). -/
def PTP_CTRL_LEAP_AUTO : Field :=
  { page := 0x2D, off := 0x010, lo := 3, width := 1, acc := .rw, txn := .t, vmax := 1 }

/-- R231: `PTP.IRQ_RAW.TX_STAMP`. Latched: an item entered the stamp queue. -/
def PTP_IRQ_TX_STAMP : Field := irqRaw (0x2D) (0)

/-- R231: `PTP.IRQ_RAW.TWO_STEP`. Latched: a two-step Sync was forwarded uncorrected. -/
def PTP_IRQ_TWO_STEP : Field := irqRaw (0x2D) (1)

/-- R231: `PTP.ING_LAT.LAT`. Receive latency, unsigned, 2^−16 ns. -/
def PTP_ING_LAT_LAT (k : Nat) : Field :=
  { page := 0x2D, off := 0x100 + 0x20 * k, lo := 0, width := 32, acc := .rw, txn := .t, vmax := 4294967295 }

/-- R231: `PTP.EGR_LAT.LAT`. Transmit latency, unsigned, 2^−16 ns. -/
def PTP_EGR_LAT_LAT (k : Nat) : Field :=
  { page := 0x2D, off := 0x104 + 0x20 * k, lo := 0, width := 32, acc := .rw, txn := .t, vmax := 4294967295 }

/-- R231: `PTP.ASYM.ASYM`. delayAsymmetry, signed, 2^−16 ns. -/
def PTP_ASYM_ASYM (k : Nat) : Field :=
  { page := 0x2D, off := 0x108 + 0x20 * k, lo := 0, width := 32, acc := .rw, txn := .t, vmax := 4294967295 }

/-- R231: `PTP.PDELAY.DELAY`. meanLinkDelay, unsigned, 2^−16 ns. -/
def PTP_PDELAY_DELAY (k : Nat) : Field :=
  { page := 0x2D, off := 0x10C + 0x20 * k, lo := 0, width := 32, acc := .rw, vmax := 4294967295 }

/-- R231: `PTP.PCFG.EN`. Stamp on this port. -/
def PTP_PCFG_EN (k : Nat) : Field :=
  { page := 0x2D, off := 0x110 + 0x20 * k, lo := 0, width := 1, acc := .rw, txn := .t, vmax := 1 }

/-- R231: `PTP.PCFG.TC_PORT`. Take part in the transparent clock; reads 0 for P3. -/
def PTP_PCFG_TC_PORT (k : Nat) : Field :=
  { page := 0x2D, off := 0x110 + 0x20 * k, lo := 1, width := 1, acc := .rw, txn := .t, vmax := 1 }

/-- R231: `PTP.TC_CNT.CNT`. Messages corrected. -/
def PTP_TC_CNT_CNT : Field :=
  { page := 0x2D, off := 0x180, lo := 0, width := 32, acc := .rw, vmax := 4294967295 }

/-- R231: `PTP.TWO_STEP_CNT.CNT`. Two-step Sync forwarded uncorrected. -/
def PTP_TWO_STEP_CNT_CNT : Field :=
  { page := 0x2D, off := 0x184, lo := 0, width := 32, acc := .rw, vmax := 4294967295 }

/-- R231: `PTP.RES_MAX.NS`. Highest residence time since the last read. -/
def PTP_RES_MAX_NS : Field :=
  { page := 0x2D, off := 0x188, lo := 0, width := 24, acc := .rc, vmax := 16777215 }

/-- R231: `PTP.TX_DROP_CNT.CNT`. Stamp items dropped. -/
def PTP_TX_DROP_CNT_CNT : Field :=
  { page := 0x2D, off := 0x18C, lo := 0, width := 32, acc := .rw, vmax := 4294967295 }

/-- Fields of page PTP, in table order (part). -/
def ptpFields0 : List Field :=
  [PTP_CTRL_ENABLE,
   PTP_CTRL_TC_EN,
   PTP_CTRL_TC_MODE,
   PTP_CTRL_LEAP_AUTO,
   PTP_TC_CNT_CNT,
   PTP_TWO_STEP_CNT_CNT,
   PTP_RES_MAX_NS,
   PTP_TX_DROP_CNT_CNT]

/-- Every block-specific field of page PTP. -/
def ptpFields : List Field :=
  ptpFields0 ++
  (List.range 4).map (PTP_ING_LAT_LAT) ++
  (List.range 4).map (PTP_EGR_LAT_LAT) ++
  (List.range 4).map (PTP_ASYM_ASYM) ++
  (List.range 4).map (PTP_PDELAY_DELAY) ++
  (List.range 4).map (PTP_PCFG_EN) ++
  (List.range 4).map (PTP_PCFG_TC_PORT)

/-! Page PRP. -/

/-- R303: `PRP.CTRL.ENABLE`. Trailers and discard. -/
def PRP_CTRL_ENABLE : Field :=
  { page := 0x2E, off := 0x010, lo := 0, width := 1, acc := .rw, txn := .t, vmax := 1 }

/-- R303: `PRP.CTRL.TX_LANS`. R289. -/
def PRP_CTRL_TX_LANS : Field :=
  { page := 0x2E, off := 0x010, lo := 1, width := 2, acc := .rw, txn := .t, vmax := 3 }

/-- R303: `PRP.IRQ_RAW.NODE_FULL`. Latched. -/
def PRP_IRQ_NODE_FULL : Field := irqRaw (0x2E) (0)

/-- R303: `PRP.IRQ_RAW.LAN_A_DOWN`. Latched (R291). -/
def PRP_IRQ_LAN_A_DOWN : Field := irqRaw (0x2E) (1)

/-- R303: `PRP.IRQ_RAW.LAN_B_DOWN`. Latched. -/
def PRP_IRQ_LAN_B_DOWN : Field := irqRaw (0x2E) (2)

/-- R303: `PRP.SEQ_NEXT.SEQ`. Next sequence number. -/
def PRP_SEQ_NEXT_SEQ : Field :=
  { page := 0x2E, off := 0x100, lo := 0, width := 16, acc := .rw, vmax := 65535 }

/-- R303: `PRP.SUP_CFG.EN`. Supervision frames. -/
def PRP_SUP_CFG_EN : Field :=
  { page := 0x2E, off := 0x104, lo := 31, width := 1, reset := 1, acc := .rw, txn := .t, vmax := 1 }

/-- R303: `PRP.SUP_CFG.INTERVAL_MS`. 100 to 10,000. -/
def PRP_SUP_CFG_INTERVAL_MS : Field :=
  { page := 0x2E, off := 0x104, lo := 0, width := 16, reset := 2000, acc := .rw, txn := .t, vmin := 100, vmax := 10000 }

/-- R303: `PRP.FORGET.ENTRY_MS`. 10 to 10,000. -/
def PRP_FORGET_ENTRY_MS : Field :=
  { page := 0x2E, off := 0x108, lo := 0, width := 16, reset := 400, acc := .rw, txn := .t, vmin := 10, vmax := 10000 }

/-- R303: `PRP.FORGET.NODE_S`. 1 to 3,600. -/
def PRP_FORGET_NODE_S : Field :=
  { page := 0x2E, off := 0x108, lo := 16, width := 16, reset := 60, acc := .rw, txn := .t, vmin := 1, vmax := 3600 }

/-- R303: `PRP.NODES.CNT`. Entries in use. -/
def PRP_NODES_CNT : Field :=
  { page := 0x2E, off := 0x10C, lo := 0, width := 11, acc := .ro, vmax := 2047 }

/-- R303: `PRP.DUP_CNT.CNT`. Duplicates discarded. -/
def PRP_DUP_CNT_CNT : Field :=
  { page := 0x2E, off := 0x110, lo := 0, width := 32, acc := .rw, vmax := 4294967295 }

/-- R303: `PRP.OUT_WIN_CNT.CNT`. Window restarts. -/
def PRP_OUT_WIN_CNT_CNT : Field :=
  { page := 0x2E, off := 0x114, lo := 0, width := 32, acc := .rw, vmax := 4294967295 }

/-- R303: `PRP.WRONG_LAN_A_CNT.CNT`. R290. -/
def PRP_WRONG_LAN_A_CNT_CNT : Field :=
  { page := 0x2E, off := 0x118, lo := 0, width := 32, acc := .rw, vmax := 4294967295 }

/-- R303: `PRP.WRONG_LAN_B_CNT.CNT`. R290. -/
def PRP_WRONG_LAN_B_CNT_CNT : Field :=
  { page := 0x2E, off := 0x11C, lo := 0, width := 32, acc := .rw, vmax := 4294967295 }

/-- Fields of page PRP, in table order (part). -/
def prpFields0 : List Field :=
  [PRP_CTRL_ENABLE,
   PRP_CTRL_TX_LANS,
   PRP_SEQ_NEXT_SEQ,
   PRP_SUP_CFG_EN,
   PRP_SUP_CFG_INTERVAL_MS,
   PRP_FORGET_ENTRY_MS,
   PRP_FORGET_NODE_S,
   PRP_NODES_CNT,
   PRP_DUP_CNT_CNT,
   PRP_OUT_WIN_CNT_CNT,
   PRP_WRONG_LAN_A_CNT_CNT,
   PRP_WRONG_LAN_B_CNT_CNT]

/-- Every block-specific field of page PRP. -/
def prpFields : List Field :=
  prpFields0

/-! Page PCIE. -/

/-- R304: `PCIE.CTRL.ENABLE`. Ring fetching. -/
def PCIE_CTRL_ENABLE : Field :=
  { page := 0x2F, off := 0x010, lo := 0, width := 1, acc := .rw, txn := .t, vmax := 1 }

/-- R304: `PCIE.STAT.LINK_UP`. Link up. -/
def PCIE_STAT_LINK_UP : Field :=
  { page := 0x2F, off := 0x014, lo := 0, width := 1, acc := .ro, vmax := 1 }

/-- R304: `PCIE.STAT.GEN`. 1 to 4. -/
def PCIE_STAT_GEN : Field :=
  { page := 0x2F, off := 0x014, lo := 1, width := 3, acc := .ro, vmax := 7 }

/-- R304: `PCIE.STAT.WIDTH`. Lanes. -/
def PCIE_STAT_WIDTH : Field :=
  { page := 0x2F, off := 0x014, lo := 4, width := 4, acc := .ro, vmax := 15 }

/-- R304: `PCIE.STAT.BME`. Bus Master Enable. -/
def PCIE_STAT_BME : Field :=
  { page := 0x2F, off := 0x014, lo := 8, width := 1, acc := .ro, vmax := 1 }

/-- R304: `PCIE.IRQ_RAW.LINK_DOWN`. Latched (R298). -/
def PCIE_IRQ_LINK_DOWN : Field := irqRaw (0x2F) (0)

/-- R304: `PCIE.IRQ_RAW.HOT_RESET`. Latched. -/
def PCIE_IRQ_HOT_RESET : Field := irqRaw (0x2F) (1)

/-- R304: `PCIE.OB_BASE_LO.ADDR`. R296. -/
def PCIE_OB_BASE_LO_ADDR : Field :=
  { page := 0x2F, off := 0x100, lo := 0, width := 32, acc := .rw, txn := .t, vmax := 4294967295 }

/-- R304: `PCIE.OB_BASE_HI.ADDR`. Bits 63:32. -/
def PCIE_OB_BASE_HI_ADDR : Field :=
  { page := 0x2F, off := 0x104, lo := 0, width := 32, acc := .rw, txn := .t, vmax := 4294967295 }

/-- R304: `PCIE.SQ_BASE_LO.ADDR`. 64-byte aligned. -/
def PCIE_SQ_BASE_LO_ADDR : Field :=
  { page := 0x2F, off := 0x108, lo := 0, width := 32, acc := .rw, txn := .t, vmax := 4294967295 }

/-- R304: `PCIE.SQ_BASE_HI.ADDR`. Bits 63:32. -/
def PCIE_SQ_BASE_HI_ADDR : Field :=
  { page := 0x2F, off := 0x10C, lo := 0, width := 32, acc := .rw, txn := .t, vmax := 4294967295 }

/-- R304: `PCIE.SQ_CFG.LOG2`. 4 to 16. -/
def PCIE_SQ_CFG_LOG2 : Field :=
  { page := 0x2F, off := 0x110, lo := 0, width := 5, reset := 8, acc := .rw, txn := .t, vmin := 4, vmax := 16 }

/-- R304: `PCIE.SQ_TAIL.IDX`. Written by the host. -/
def PCIE_SQ_TAIL_IDX : Field :=
  { page := 0x2F, off := 0x114, lo := 0, width := 16, acc := .rw, own := true, vmax := 65535 }

/-- R304: `PCIE.SQ_HEAD.IDX`. R297. -/
def PCIE_SQ_HEAD_IDX : Field :=
  { page := 0x2F, off := 0x118, lo := 0, width := 16, acc := .ro, vmax := 65535 }

/-- R304: `PCIE.CQ_BASE_LO.ADDR`. 64-byte aligned. -/
def PCIE_CQ_BASE_LO_ADDR : Field :=
  { page := 0x2F, off := 0x11C, lo := 0, width := 32, acc := .rw, txn := .t, vmax := 4294967295 }

/-- R304: `PCIE.CQ_BASE_HI.ADDR`. Bits 63:32. -/
def PCIE_CQ_BASE_HI_ADDR : Field :=
  { page := 0x2F, off := 0x120, lo := 0, width := 32, acc := .rw, txn := .t, vmax := 4294967295 }

/-- R304: `PCIE.CQ_CFG.LOG2`. 4 to 16. -/
def PCIE_CQ_CFG_LOG2 : Field :=
  { page := 0x2F, off := 0x124, lo := 0, width := 5, reset := 8, acc := .rw, txn := .t, vmin := 4, vmax := 16 }

/-- R304: `PCIE.CQ_HEAD.IDX`. Written by the host. -/
def PCIE_CQ_HEAD_IDX : Field :=
  { page := 0x2F, off := 0x128, lo := 0, width := 16, acc := .rw, vmax := 65535 }

/-- R304: `PCIE.CQ_TAIL.IDX`. Next completion. -/
def PCIE_CQ_TAIL_IDX : Field :=
  { page := 0x2F, off := 0x12C, lo := 0, width := 16, acc := .ro, vmax := 65535 }

/-- R304: `PCIE.VEC_SEL.PAGE`. Page shown in VEC_DATA. -/
def PCIE_VEC_SEL_PAGE : Field :=
  { page := 0x2F, off := 0x130, lo := 0, width := 8, acc := .rw, vmax := 255 }

/-- R304: `PCIE.VEC_DATA.EN`. Page interrupt sent. -/
def PCIE_VEC_DATA_EN : Field :=
  { page := 0x2F, off := 0x134, lo := 31, width := 1, acc := .rw, txn := .t, vmax := 1 }

/-- R304: `PCIE.VEC_DATA.VEC`. Vector 0–31. -/
def PCIE_VEC_DATA_VEC : Field :=
  { page := 0x2F, off := 0x134, lo := 0, width := 5, acc := .rw, txn := .t, vmax := 31 }

/-- Fields of page PCIE, in table order (part). -/
def pcieFields0 : List Field :=
  [PCIE_CTRL_ENABLE,
   PCIE_STAT_LINK_UP,
   PCIE_STAT_GEN,
   PCIE_STAT_WIDTH,
   PCIE_STAT_BME,
   PCIE_OB_BASE_LO_ADDR,
   PCIE_OB_BASE_HI_ADDR,
   PCIE_SQ_BASE_LO_ADDR,
   PCIE_SQ_BASE_HI_ADDR,
   PCIE_SQ_CFG_LOG2,
   PCIE_SQ_TAIL_IDX,
   PCIE_SQ_HEAD_IDX,
   PCIE_CQ_BASE_LO_ADDR,
   PCIE_CQ_BASE_HI_ADDR,
   PCIE_CQ_CFG_LOG2,
   PCIE_CQ_HEAD_IDX,
   PCIE_CQ_TAIL_IDX,
   PCIE_VEC_SEL_PAGE,
   PCIE_VEC_DATA_EN,
   PCIE_VEC_DATA_VEC]

/-- Every block-specific field of page PCIE. -/
def pcieFields : List Field :=
  pcieFields0

/-! Page PLC. -/

/-- R261: `PLC.CTRL.ENABLE`. 1: the port runs. -/
def PLC_CTRL_ENABLE (i : Nat) : Field :=
  { page := 0x31 + i, off := 0x010, lo := 0, width := 1, acc := .rw, txn := .t, vmax := 1 }

/-- R261: `PLC.CTRL.ROLE`. 0 COORDINATOR, 1 TRACK. -/
def PLC_CTRL_ROLE (i : Nat) : Field :=
  { page := 0x31 + i, off := 0x010, lo := 1, width := 1, acc := .rw, txn := .t, vmax := 1 }

/-- R261: `PLC.CTRL.ACCESS`. 0 BEACON, 1 PRIORITY_WINDOW. -/
def PLC_CTRL_ACCESS (i : Nat) : Field :=
  { page := 0x31 + i, off := 0x010, lo := 2, width := 1, acc := .rw, txn := .t, vmax := 1 }

/-- R261: `PLC.CTRL.BAND`. 0 W, 1 L. -/
def PLC_CTRL_BAND (i : Nat) : Field :=
  { page := 0x31 + i, off := 0x010, lo := 3, width := 1, acc := .rw, txn := .t, vmax := 1 }

/-- R261: `PLC.CTRL.NETID`. Network identifier. -/
def PLC_CTRL_NETID (i : Nat) : Field :=
  { page := 0x31 + i, off := 0x010, lo := 8, width := 4, acc := .rw, txn := .t, vmax := 15 }

/-- R261: `PLC.CTRL.FENCE`. Common field (R36); R260. -/
def PLC_CTRL_FENCE (i : Nat) : Field :=
  { page := 0x31 + i, off := 0x010, lo := 30, width := 1, acc := .rw, txn := .t, own := true, vmax := 1 }

/-- R261: `PLC.STAT.NODE_STATE`. TRACK role: state of R253. -/
def PLC_STAT_NODE_STATE (i : Nat) : Field :=
  { page := 0x31 + i, off := 0x014, lo := 0, width := 3, acc := .ro, vmax := 7 }

/-- R261: `PLC.STAT.SCHEDULE`. A beacon schedule runs. -/
def PLC_STAT_SCHEDULE (i : Nat) : Field :=
  { page := 0x31 + i, off := 0x014, lo := 3, width := 1, acc := .ro, vmax := 1 }

/-- R261: `PLC.STAT.CALIBRATING`. R258. -/
def PLC_STAT_CALIBRATING (i : Nat) : Field :=
  { page := 0x31 + i, off := 0x014, lo := 4, width := 1, acc := .ro, vmax := 1 }

/-- R261: `PLC.STAT.TX_ACTIVE`. The port is transmitting. -/
def PLC_STAT_TX_ACTIVE (i : Nat) : Field :=
  { page := 0x31 + i, off := 0x014, lo := 5, width := 1, acc := .ro, vmax := 1 }

/-- R261: `PLC.IRQ_RAW.BEACON_LOSS`. Latched (R254). -/
def PLC_IRQ_BEACON_LOSS (i : Nat) : Field := irqRaw (0x31 + i) (0)

/-- R261: `PLC.IRQ_RAW.JOIN`. Latched: a member joined. -/
def PLC_IRQ_JOIN (i : Nat) : Field := irqRaw (0x31 + i) (1)

/-- R261: `PLC.IRQ_RAW.NODE_REMOVED`. Latched (R252). -/
def PLC_IRQ_NODE_REMOVED (i : Nat) : Field := irqRaw (0x31 + i) (2)

/-- R261: `PLC.IRQ_RAW.TX_DROP`. Latched (R257). -/
def PLC_IRQ_TX_DROP (i : Nat) : Field := irqRaw (0x31 + i) (3)

/-- R261: `PLC.IRQ_RAW.TM_CHANGE`. Latched (R243). -/
def PLC_IRQ_TM_CHANGE (i : Nat) : Field := irqRaw (0x31 + i) (4)

/-- R261: `PLC.IRQ_RAW.CAL_DONE`. Latched (R258). -/
def PLC_IRQ_CAL_DONE (i : Nat) : Field := irqRaw (0x31 + i) (5)

/-- R261: `PLC.IRQ_RAW.RX_REFUSED`. Latched (R246). -/
def PLC_IRQ_RX_REFUSED (i : Nat) : Field := irqRaw (0x31 + i) (6)

/-- R261: `PLC.IRQ_RAW.ZC_SYNTH`. PLC0 only: latched (R241). -/
def PLC_IRQ_ZC_SYNTH (i : Nat) : Field := irqRaw (0x31 + i) (7)

/-- R261: `PLC.IRQ_RAW.ZC_REAL`. PLC0 only: latched (R241). -/
def PLC_IRQ_ZC_REAL (i : Nat) : Field := irqRaw (0x31 + i) (8)

/-- R261: `PLC.PHY_CFG.TX_ATT`. Attenuation, 0.5 dB steps. -/
def PLC_PHY_CFG_TX_ATT (i : Nat) : Field :=
  { page := 0x31 + i, off := 0x100, lo := 0, width := 6, acc := .rw, txn := .t, vmax := 63 }

/-- R261: `PLC.PHY_CFG.PGA_MAX`. Highest gain step, 6 dB each. -/
def PLC_PHY_CFG_PGA_MAX (i : Nat) : Field :=
  { page := 0x31 + i, off := 0x100, lo := 8, width := 3, reset := 7, acc := .rw, txn := .t, vmax := 7 }

/-- R261: `PLC.PHY_CFG.AGC_EN`. R233. -/
def PLC_PHY_CFG_AGC_EN (i : Nat) : Field :=
  { page := 0x31 + i, off := 0x100, lo := 12, width := 1, reset := 1, acc := .rw, txn := .t, vmax := 1 }

/-- R261: `PLC.PHY_CFG.IMP_THR`. dB, 6 to 40; other values refused with VALUE_REFUSED. -/
def PLC_PHY_CFG_IMP_THR (i : Nat) : Field :=
  { page := 0x31 + i, off := 0x100, lo := 16, width := 6, reset := 12, acc := .rw, txn := .t, vmin := 6, vmax := 40 }

/-- R261: `PLC.PHY_CFG.TXEN_POL`. 0: PLCn_TXEN active high. -/
def PLC_PHY_CFG_TXEN_POL (i : Nat) : Field :=
  { page := 0x31 + i, off := 0x100, lo := 24, width := 1, acc := .rw, txn := .t, vmax := 1 }

/-- R261: `PLC.MASK0–MASK2.CARRIERS`. R235. -/
def PLC_MASK_CARRIERS (i : Nat) (k : Nat) : Field :=
  { page := 0x31 + i, off := 0x104 + 0x4 * k, lo := 0, width := 32, acc := .rw, txn := .t, vmax := 4294967295 }

/-- R261: `PLC.BEACON_CFG.BP`. 200 ms × 2^BP, 0 to 6. -/
def PLC_BEACON_CFG_BP (i : Nat) : Field :=
  { page := 0x31 + i, off := 0x110, lo := 0, width := 3, reset := 3, acc := .rw, txn := .t, vmin := 0, vmax := 6 }

/-- R261: `PLC.BEACON_CFG.NSLOT`. 0 to 256. -/
def PLC_BEACON_CFG_NSLOT (i : Nat) : Field :=
  { page := 0x31 + i, off := 0x110, lo := 16, width := 9, acc := .rw, txn := .t, vmin := 0, vmax := 256 }

/-- R261: `PLC.SLOT_CFG.SLOT_MS`. 2 to 63. -/
def PLC_SLOT_CFG_SLOT_MS (i : Nat) : Field :=
  { page := 0x31 + i, off := 0x114, lo := 0, width := 6, reset := 20, acc := .rw, txn := .t, vmin := 2, vmax := 63 }

/-- R261: `PLC.SLOT_CFG.CAP_MS`. 20 to 1,000. -/
def PLC_SLOT_CFG_CAP_MS (i : Nat) : Field :=
  { page := 0x31 + i, off := 0x114, lo := 16, width := 10, reset := 200, acc := .rw, txn := .t, vmin := 20, vmax := 1000 }

/-- R261: `PLC.BCN_OFS.US`. Below BP in µs. -/
def PLC_BCN_OFS_US (i : Nat) : Field :=
  { page := 0x31 + i, off := 0x118, lo := 0, width := 24, acc := .rw, txn := .t, vmax := 16777215 }

/-- R261: `PLC.ACCESS_CFG.CW_MIN`. log2, 1 to 6. -/
def PLC_ACCESS_CFG_CW_MIN (i : Nat) : Field :=
  { page := 0x31 + i, off := 0x11C, lo := 0, width := 4, reset := 3, acc := .rw, txn := .t, vmin := 1, vmax := 6 }

/-- R261: `PLC.ACCESS_CFG.CW_MAX`. log2, CW_MIN to 8. -/
def PLC_ACCESS_CFG_CW_MAX (i : Nat) : Field :=
  { page := 0x31 + i, off := 0x11C, lo := 4, width := 4, reset := 6, acc := .rw, txn := .t, vmin := 1, vmax := 8 }

/-- R261: `PLC.ACCESS_CFG.LW_SYM`. 2 to 15. -/
def PLC_ACCESS_CFG_LW_SYM (i : Nat) : Field :=
  { page := 0x31 + i, off := 0x11C, lo := 8, width := 4, reset := 4, acc := .rw, txn := .t, vmin := 2, vmax := 15 }

/-- R261: `PLC.ACCESS_CFG.RETRY_MAX`. 0 to 7. -/
def PLC_ACCESS_CFG_RETRY_MAX (i : Nat) : Field :=
  { page := 0x31 + i, off := 0x11C, lo := 12, width := 3, reset := 7, acc := .rw, txn := .t, vmax := 7 }

/-- R261: `PLC.PRIO.APP_ACK`. Priority of application acknowledgements. -/
def PLC_PRIO_APP_ACK (i : Nat) : Field :=
  { page := 0x31 + i, off := 0x120, lo := 0, width := 2, reset := 2, acc := .rw, txn := .t, vmax := 3 }

/-- R261: `PLC.PRIO.JOIN_RESP`. Priority of join responses. -/
def PLC_PRIO_JOIN_RESP (i : Nat) : Field :=
  { page := 0x31 + i, off := 0x120, lo := 2, width := 2, reset := 2, acc := .rw, txn := .t, vmax := 3 }

/-- R261: `PLC.PRIO.ANNOUNCE`. Priority-window beacon. -/
def PLC_PRIO_ANNOUNCE (i : Nat) : Field :=
  { page := 0x31 + i, off := 0x120, lo := 4, width := 2, reset := 3, acc := .rw, txn := .t, vmax := 3 }

/-- R261: `PLC.JOIN_CFG.OPEN`. JOIN_OPEN in beacons. -/
def PLC_JOIN_CFG_OPEN (i : Nat) : Field :=
  { page := 0x31 + i, off := 0x124, lo := 0, width := 1, reset := 1, acc := .rw, txn := .t, vmax := 1 }

/-- R261: `PLC.JOIN_CFG.POLICY`. 0 DIRECTORY, 1 ANY. -/
def PLC_JOIN_CFG_POLICY (i : Nat) : Field :=
  { page := 0x31 + i, off := 0x124, lo := 1, width := 1, acc := .rw, txn := .t, vmax := 1 }

/-- R261: `PLC.JOIN_CFG.AGE_H`. Hours; 0 never. -/
def PLC_JOIN_CFG_AGE_H (i : Nat) : Field :=
  { page := 0x31 + i, off := 0x124, lo := 4, width := 8, acc := .rw, txn := .t, vmax := 255 }

/-- R261: `PLC.NODES.CNT`. Members joined. -/
def PLC_NODES_CNT (i : Nat) : Field :=
  { page := 0x31 + i, off := 0x128, lo := 0, width := 12, acc := .ro, vmax := 4095 }

/-- R261: `PLC.TM_CFG.SNR1`. DBPSK threshold, 0.25 dB. -/
def PLC_TM_CFG_SNR1 (i : Nat) : Field :=
  { page := 0x31 + i, off := 0x130, lo := 0, width := 8, reset := 16, acc := .rw, txn := .t, vmax := 255 }

/-- R261: `PLC.TM_CFG.SNR2`. DQPSK threshold. -/
def PLC_TM_CFG_SNR2 (i : Nat) : Field :=
  { page := 0x31 + i, off := 0x130, lo := 8, width := 8, reset := 32, acc := .rw, txn := .t, vmax := 255 }

/-- R261: `PLC.TM_CFG.SNR3`. D8PSK threshold. -/
def PLC_TM_CFG_SNR3 (i : Nat) : Field :=
  { page := 0x31 + i, off := 0x130, lo := 16, width := 8, reset := 52, acc := .rw, txn := .t, vmax := 255 }

/-- R261: `PLC.TM_CFG.HYST`. Hysteresis, 0.25 dB. -/
def PLC_TM_CFG_HYST (i : Nat) : Field :=
  { page := 0x31 + i, off := 0x130, lo := 24, width := 8, reset := 4, acc := .rw, txn := .t, vmax := 255 }

/-- R261: `PLC.CAL_CFG.PERIOD_S`. 1 to 255. -/
def PLC_CAL_CFG_PERIOD_S (i : Nat) : Field :=
  { page := 0x31 + i, off := 0x134, lo := 0, width := 8, reset := 60, acc := .rw, txn := .t, vmin := 1, vmax := 255 }

/-- R261: `PLC.CAL_CFG.TEMP_STEP`. °C, 1 to 15. -/
def PLC_CAL_CFG_TEMP_STEP (i : Nat) : Field :=
  { page := 0x31 + i, off := 0x134, lo := 8, width := 4, reset := 8, acc := .rw, txn := .t, vmin := 1, vmax := 15 }

/-- R261: `PLC.ZC_CFG.EN`. PLC0 only: ZC_IN in use. -/
def PLC_ZC_CFG_EN (i : Nat) : Field :=
  { page := 0x31 + i, off := 0x138, lo := 0, width := 1, acc := .rw, txn := .t, vmax := 1 }

/-- R261: `PLC.ZC_CFG.EDGE`. 0 rising, 1 falling. -/
def PLC_ZC_CFG_EDGE (i : Nat) : Field :=
  { page := 0x31 + i, off := 0x138, lo := 1, width := 1, acc := .rw, txn := .t, vmax := 1 }

/-- R261: `PLC.ZC_CFG.FILTER_US`. 1 to 255. -/
def PLC_ZC_CFG_FILTER_US (i : Nat) : Field :=
  { page := 0x31 + i, off := 0x138, lo := 8, width := 8, reset := 10, acc := .rw, txn := .t, vmin := 1, vmax := 255 }

/-- R261: `PLC.ZC_REJECT_CNT.CNT`. PLC0 only. -/
def PLC_ZC_REJECT_CNT_CNT (i : Nat) : Field :=
  { page := 0x31 + i, off := 0x13C, lo := 0, width := 32, acc := .rw, vmax := 4294967295 }

/-- R261: `PLC.RX_OK_CNT.CNT`. Frames queued. -/
def PLC_RX_OK_CNT_CNT (i : Nat) : Field :=
  { page := 0x31 + i, off := 0x140, lo := 0, width := 32, acc := .rw, vmax := 4294967295 }

/-- R261: `PLC.RX_CRC_CNT.CNT`. MAC CRC failures. -/
def PLC_RX_CRC_CNT_CNT (i : Nat) : Field :=
  { page := 0x31 + i, off := 0x144, lo := 0, width := 32, acc := .rw, vmax := 4294967295 }

/-- R261: `PLC.RX_DUP_CNT.CNT`. Link-level repeats. -/
def PLC_RX_DUP_CNT_CNT (i : Nat) : Field :=
  { page := 0x31 + i, off := 0x148, lo := 0, width := 32, acc := .rw, vmax := 4294967295 }

/-- R261: `PLC.RX_REFUSED_CNT.CNT`. Frames refused for lack of credit. -/
def PLC_RX_REFUSED_CNT_CNT (i : Nat) : Field :=
  { page := 0x31 + i, off := 0x14C, lo := 0, width := 32, acc := .rw, vmax := 4294967295 }

/-- R261: `PLC.TX_CNT.CNT`. Frames sent. -/
def PLC_TX_CNT_CNT (i : Nat) : Field :=
  { page := 0x31 + i, off := 0x150, lo := 0, width := 32, acc := .rw, vmax := 4294967295 }

/-- R261: `PLC.RETRY_CNT.CNT`. Retries. -/
def PLC_RETRY_CNT_CNT (i : Nat) : Field :=
  { page := 0x31 + i, off := 0x154, lo := 0, width := 32, acc := .rw, vmax := 4294967295 }

/-- R261: `PLC.TX_DROP_CNT.CNT`. Downlink frames dropped. -/
def PLC_TX_DROP_CNT_CNT (i : Nat) : Field :=
  { page := 0x31 + i, off := 0x158, lo := 0, width := 32, acc := .rw, vmax := 4294967295 }

/-- R261: `PLC.BCN_MISS_CNT.CNT`. Beacons missed (TRACK). -/
def PLC_BCN_MISS_CNT_CNT (i : Nat) : Field :=
  { page := 0x31 + i, off := 0x15C, lo := 0, width := 32, acc := .rw, vmax := 4294967295 }

/-- R261: `PLC.ERASED_CNT.CNT`. Erased symbols. -/
def PLC_ERASED_CNT_CNT (i : Nat) : Field :=
  { page := 0x31 + i, off := 0x160, lo := 0, width := 32, acc := .rw, vmax := 4294967295 }

/-- R261: `PLC.ACK_DISCARD_CNT.CNT`. Acknowledgement items discarded. -/
def PLC_ACK_DISCARD_CNT_CNT (i : Nat) : Field :=
  { page := 0x31 + i, off := 0x164, lo := 0, width := 32, acc := .rw, vmax := 4294967295 }

/-- R261: `PLC.ACK_TITLE_LO.TITLE`. System title, bytes 4–7. -/
def PLC_ACK_TITLE_LO_TITLE (i : Nat) : Field :=
  { page := 0x31 + i, off := 0x168, lo := 0, width := 32, acc := .rw, txn := .t, vmax := 4294967295 }

/-- R261: `PLC.ACK_TITLE_HI.TITLE`. System title, bytes 0–3. -/
def PLC_ACK_TITLE_HI_TITLE (i : Nat) : Field :=
  { page := 0x31 + i, off := 0x16C, lo := 0, width := 32, acc := .rw, txn := .t, vmax := 4294967295 }

/-- R261: `PLC.NODE_SEL.ADDR`. Short address shown in NODE_INFO. -/
def PLC_NODE_SEL_ADDR (i : Nat) : Field :=
  { page := 0x31 + i, off := 0x170, lo := 0, width := 16, acc := .rw, vmax := 65535 }

/-- R261: `PLC.NODE_INFO.VALID`. The address is joined. -/
def PLC_NODE_INFO_VALID (i : Nat) : Field :=
  { page := 0x31 + i, off := 0x174, lo := 31, width := 1, acc := .ro, vmax := 1 }

/-- R261: `PLC.NODE_INFO.TMGEN_TX`. Generation the chip sends with. -/
def PLC_NODE_INFO_TMGEN_TX (i : Nat) : Field :=
  { page := 0x31 + i, off := 0x174, lo := 20, width := 4, acc := .ro, vmax := 15 }

/-- R261: `PLC.NODE_INFO.TMGEN_RX`. Generation in force for the member. -/
def PLC_NODE_INFO_TMGEN_RX (i : Nat) : Field :=
  { page := 0x31 + i, off := 0x174, lo := 16, width := 4, acc := .ro, vmax := 15 }

/-- R261: `PLC.NODE_INFO.SLOT`. Slot; 0x1FF for none. -/
def PLC_NODE_INFO_SLOT (i : Nat) : Field :=
  { page := 0x31 + i, off := 0x174, lo := 0, width := 9, reset := 511, acc := .ro, vmax := 511 }

/-- Fields of page PLC, in table order (part). -/
def plcFields0 (i : Nat) : List Field :=
  [PLC_CTRL_ENABLE i,
   PLC_CTRL_ROLE i,
   PLC_CTRL_ACCESS i,
   PLC_CTRL_BAND i,
   PLC_CTRL_NETID i,
   PLC_CTRL_FENCE i,
   PLC_STAT_NODE_STATE i,
   PLC_STAT_SCHEDULE i,
   PLC_STAT_CALIBRATING i,
   PLC_STAT_TX_ACTIVE i,
   PLC_PHY_CFG_TX_ATT i,
   PLC_PHY_CFG_PGA_MAX i,
   PLC_PHY_CFG_AGC_EN i,
   PLC_PHY_CFG_IMP_THR i,
   PLC_PHY_CFG_TXEN_POL i,
   PLC_BEACON_CFG_BP i,
   PLC_BEACON_CFG_NSLOT i,
   PLC_SLOT_CFG_SLOT_MS i,
   PLC_SLOT_CFG_CAP_MS i,
   PLC_BCN_OFS_US i]

/-- Fields of page PLC, in table order (part). -/
def plcFields1 (i : Nat) : List Field :=
  [PLC_ACCESS_CFG_CW_MIN i,
   PLC_ACCESS_CFG_CW_MAX i,
   PLC_ACCESS_CFG_LW_SYM i,
   PLC_ACCESS_CFG_RETRY_MAX i,
   PLC_PRIO_APP_ACK i,
   PLC_PRIO_JOIN_RESP i,
   PLC_PRIO_ANNOUNCE i,
   PLC_JOIN_CFG_OPEN i,
   PLC_JOIN_CFG_POLICY i,
   PLC_JOIN_CFG_AGE_H i,
   PLC_NODES_CNT i,
   PLC_TM_CFG_SNR1 i,
   PLC_TM_CFG_SNR2 i,
   PLC_TM_CFG_SNR3 i,
   PLC_TM_CFG_HYST i,
   PLC_CAL_CFG_PERIOD_S i,
   PLC_CAL_CFG_TEMP_STEP i,
   PLC_ZC_CFG_EN i,
   PLC_ZC_CFG_EDGE i,
   PLC_ZC_CFG_FILTER_US i]

/-- Fields of page PLC, in table order (part). -/
def plcFields2 (i : Nat) : List Field :=
  [PLC_ZC_REJECT_CNT_CNT i,
   PLC_RX_OK_CNT_CNT i,
   PLC_RX_CRC_CNT_CNT i,
   PLC_RX_DUP_CNT_CNT i,
   PLC_RX_REFUSED_CNT_CNT i,
   PLC_TX_CNT_CNT i,
   PLC_RETRY_CNT_CNT i,
   PLC_TX_DROP_CNT_CNT i,
   PLC_BCN_MISS_CNT_CNT i,
   PLC_ERASED_CNT_CNT i,
   PLC_ACK_DISCARD_CNT_CNT i,
   PLC_ACK_TITLE_LO_TITLE i,
   PLC_ACK_TITLE_HI_TITLE i,
   PLC_NODE_SEL_ADDR i,
   PLC_NODE_INFO_VALID i,
   PLC_NODE_INFO_TMGEN_TX i,
   PLC_NODE_INFO_TMGEN_RX i,
   PLC_NODE_INFO_SLOT i]

/-- Every block-specific field of page PLC. -/
def plcFields (i : Nat) : List Field :=
  plcFields0 i ++
  plcFields1 i ++
  plcFields2 i ++
  (List.range 3).map (PLC_MASK_CARRIERS i)

/-! Page RAD. -/

/-- R281: `RAD.CTRL.ENABLE`. 1: the port runs. -/
def RAD_CTRL_ENABLE (i : Nat) : Field :=
  { page := 0x35 + i, off := 0x010, lo := 0, width := 1, acc := .rw, txn := .t, vmax := 1 }

/-- R281: `RAD.CTRL.ROLE`. 0 COORDINATOR, 1 MEMBER, 2 TRACK. -/
def RAD_CTRL_ROLE (i : Nat) : Field :=
  { page := 0x35 + i, off := 0x010, lo := 1, width := 2, acc := .rw, txn := .t, vmax := 2 }

/-- R281: `RAD.CTRL.FENCE`. Common field (R36); R280. -/
def RAD_CTRL_FENCE (i : Nat) : Field :=
  { page := 0x35 + i, off := 0x010, lo := 30, width := 1, acc := .rw, txn := .t, own := true, vmax := 1 }

/-- R281: `RAD.STAT.NODE_STATE`. MEMBER and TRACK: R274. -/
def RAD_STAT_NODE_STATE (i : Nat) : Field :=
  { page := 0x35 + i, off := 0x014, lo := 0, width := 3, acc := .ro, vmax := 7 }

/-- R281: `RAD.STAT.TX_ACTIVE`. Transmitting. -/
def RAD_STAT_TX_ACTIVE (i : Nat) : Field :=
  { page := 0x35 + i, off := 0x014, lo := 3, width := 1, acc := .ro, vmax := 1 }

/-- R281: `RAD.STAT.BUDGET_LOW`. Bit k: entry k at or above 0.9 × B. -/
def RAD_STAT_BUDGET_LOW (i : Nat) : Field :=
  { page := 0x35 + i, off := 0x014, lo := 8, width := 8, acc := .ro, vmax := 255 }

/-- R281: `RAD.IRQ_RAW.BEACON_LOSS`. Latched (R274). -/
def RAD_IRQ_BEACON_LOSS (i : Nat) : Field := irqRaw (0x35 + i) (0)

/-- R281: `RAD.IRQ_RAW.JOIN`. Latched: a member joined. -/
def RAD_IRQ_JOIN (i : Nat) : Field := irqRaw (0x35 + i) (1)

/-- R281: `RAD.IRQ_RAW.NODE_REMOVED`. Latched. -/
def RAD_IRQ_NODE_REMOVED (i : Nat) : Field := irqRaw (0x35 + i) (2)

/-- R281: `RAD.IRQ_RAW.TX_DROP`. Latched (R257). -/
def RAD_IRQ_TX_DROP (i : Nat) : Field := irqRaw (0x35 + i) (3)

/-- R281: `RAD.IRQ_RAW.BUDGET`. Latched (R278). -/
def RAD_IRQ_BUDGET (i : Nat) : Field := irqRaw (0x35 + i) (4)

/-- R281: `RAD.IRQ_RAW.RX_REFUSED`. Latched. -/
def RAD_IRQ_RX_REFUSED (i : Nat) : Field := irqRaw (0x35 + i) (5)

/-- R281: `RAD.IRQ_RAW.MIC_FAIL`. Latched (R275). -/
def RAD_IRQ_MIC_FAIL (i : Nat) : Field := irqRaw (0x35 + i) (6)

/-- R281: `RAD.PHY_CFG.RATE`. R264; 3 refused. -/
def RAD_PHY_CFG_RATE (i : Nat) : Field :=
  { page := 0x35 + i, off := 0x100, lo := 0, width := 2, acc := .rw, txn := .t, vmin := 0, vmax := 2 }

/-- R281: `RAD.PHY_CFG.GAUSS`. BT 0.5 filtering. -/
def RAD_PHY_CFG_GAUSS (i : Nat) : Field :=
  { page := 0x35 + i, off := 0x100, lo := 2, width := 1, reset := 1, acc := .rw, txn := .t, vmax := 1 }

/-- R281: `RAD.PHY_CFG.PREAMBLE`. Octets, 4 to 31. -/
def RAD_PHY_CFG_PREAMBLE (i : Nat) : Field :=
  { page := 0x35 + i, off := 0x100, lo := 4, width := 5, reset := 8, acc := .rw, txn := .t, vmin := 4, vmax := 31 }

/-- R281: `RAD.PHY_CFG.FCS_TYPE`. 0 four octets, 1 two octets. -/
def RAD_PHY_CFG_FCS_TYPE (i : Nat) : Field :=
  { page := 0x35 + i, off := 0x100, lo := 12, width := 1, acc := .rw, txn := .t, vmax := 1 }

/-- R281: `RAD.PHY_CFG.WHITEN`. Data whitening. -/
def RAD_PHY_CFG_WHITEN (i : Nat) : Field :=
  { page := 0x35 + i, off := 0x100, lo := 13, width := 1, reset := 1, acc := .rw, txn := .t, vmax := 1 }

/-- R281: `RAD.PHY_CFG.TXEN_LEAD`. µs. -/
def RAD_PHY_CFG_TXEN_LEAD (i : Nat) : Field :=
  { page := 0x35 + i, off := 0x100, lo := 16, width := 8, reset := 20, acc := .rw, txn := .t, vmax := 255 }

/-- R281: `RAD.PHY_CFG.CCA_THR`. dBFS, signed. -/
def RAD_PHY_CFG_CCA_THR (i : Nat) : Field :=
  { page := 0x35 + i, off := 0x100, lo := 24, width := 8, reset := 196, acc := .rw, txn := .t, vmax := 255 }

/-- R281: `RAD.TUNE_CFG.CMD`. Tune frame command byte. -/
def RAD_TUNE_CFG_CMD (i : Nat) : Field :=
  { page := 0x35 + i, off := 0x104, lo := 0, width := 8, acc := .rw, txn := .t, vmax := 255 }

/-- R281: `RAD.TUNE_CFG.SETTLE_US`. 1 to 900. -/
def RAD_TUNE_CFG_SETTLE_US (i : Nat) : Field :=
  { page := 0x35 + i, off := 0x104, lo := 16, width := 10, reset := 300, acc := .rw, txn := .t, vmin := 1, vmax := 900 }

/-- R281: `RAD.TUNE_BASE.WORD`. R263. -/
def RAD_TUNE_BASE_WORD (i : Nat) : Field :=
  { page := 0x35 + i, off := 0x108, lo := 0, width := 24, acc := .rw, txn := .t, vmax := 16777215 }

/-- R281: `RAD.TUNE_STEP.WORD`. R263. -/
def RAD_TUNE_STEP_WORD (i : Nat) : Field :=
  { page := 0x35 + i, off := 0x10C, lo := 0, width := 24, acc := .rw, txn := .t, vmax := 16777215 }

/-- R281: `RAD.CHAN0_KHZ.KHZ`. Centre of channel 0. -/
def RAD_CHAN0_KHZ_KHZ (i : Nat) : Field :=
  { page := 0x35 + i, off := 0x110, lo := 0, width := 20, acc := .rw, txn := .t, vmax := 1048575 }

/-- R281: `RAD.SPACING_KHZ.KHZ`. 1 to 1,000. -/
def RAD_SPACING_KHZ_KHZ (i : Nat) : Field :=
  { page := 0x35 + i, off := 0x114, lo := 0, width := 10, reset := 200, acc := .rw, txn := .t, vmin := 1, vmax := 1000 }

/-- R281: `RAD.PAN.PANID`. PAN identifier. -/
def RAD_PAN_PANID (i : Nat) : Field :=
  { page := 0x35 + i, off := 0x118, lo := 0, width := 16, acc := .rw, txn := .t, vmax := 65535 }

/-- R281: `RAD.ASN_EPOCH_LO.SEC`. TB3 seconds, bits 31:0. -/
def RAD_ASN_EPOCH_LO_SEC (i : Nat) : Field :=
  { page := 0x35 + i, off := 0x11C, lo := 0, width := 32, acc := .rw, txn := .t, vmax := 4294967295 }

/-- R281: `RAD.ASN_EPOCH_HI.SEC`. Bits 47:32. -/
def RAD_ASN_EPOCH_HI_SEC (i : Nat) : Field :=
  { page := 0x35 + i, off := 0x120, lo := 0, width := 16, acc := .rw, txn := .t, vmax := 65535 }

/-- R281: `RAD.ASN_LO.ASN`. Current ASN, bits 31:0. -/
def RAD_ASN_LO_ASN (i : Nat) : Field :=
  { page := 0x35 + i, off := 0x124, lo := 0, width := 32, acc := .ro, vmax := 4294967295 }

/-- R281: `RAD.ASN_HI.ASN`. Bits 39:32. -/
def RAD_ASN_HI_ASN (i : Nat) : Field :=
  { page := 0x35 + i, off := 0x128, lo := 0, width := 8, acc := .ro, vmax := 255 }

/-- R281: `RAD.SYNC_OFS.NS`. Signed (R265). -/
def RAD_SYNC_OFS_NS (i : Nat) : Field :=
  { page := 0x35 + i, off := 0x12C, lo := 0, width := 32, acc := .ro, vmax := 4294967295 }

/-- R281: `RAD.SF0_LEN–SF3_LEN.LEN`. Timeslots, 0 to 4,095. -/
def RAD_SF_LEN_LEN (i : Nat) (k : Nat) : Field :=
  { page := 0x35 + i, off := 0x130 + 0x4 * k, lo := 0, width := 12, acc := .rw, txn := .t, vmax := 4095 }

/-- R281: `RAD.EB_CFG.SF`. Slotframe of the ADV cells. -/
def RAD_EB_CFG_SF (i : Nat) : Field :=
  { page := 0x35 + i, off := 0x140, lo := 0, width := 2, acc := .rw, txn := .t, vmax := 3 }

/-- R281: `RAD.EB_CFG.PERIOD`. Repetitions, 1 to 255. -/
def RAD_EB_CFG_PERIOD (i : Nat) : Field :=
  { page := 0x35 + i, off := 0x140, lo := 4, width := 8, reset := 1, acc := .rw, txn := .t, vmin := 1, vmax := 255 }

/-- R281: `RAD.EB_CFG.SEC`. Authenticate EBs. -/
def RAD_EB_CFG_SEC (i : Nat) : Field :=
  { page := 0x35 + i, off := 0x140, lo := 12, width := 1, acc := .rw, txn := .t, vmax := 1 }

/-- R281: `RAD.JOIN_CFG.OPEN`. JOIN_OPEN in beacons. -/
def RAD_JOIN_CFG_OPEN (i : Nat) : Field :=
  { page := 0x35 + i, off := 0x144, lo := 0, width := 1, reset := 1, acc := .rw, txn := .t, vmax := 1 }

/-- R281: `RAD.JOIN_CFG.POLICY`. 0 DIRECTORY, 1 ANY. -/
def RAD_JOIN_CFG_POLICY (i : Nat) : Field :=
  { page := 0x35 + i, off := 0x144, lo := 1, width := 1, acc := .rw, txn := .t, vmax := 1 }

/-- R281: `RAD.JOIN_CFG.AGE_H`. Hours; 0 never. -/
def RAD_JOIN_CFG_AGE_H (i : Nat) : Field :=
  { page := 0x35 + i, off := 0x144, lo := 4, width := 8, acc := .rw, txn := .t, vmax := 255 }

/-- R281: `RAD.ACCESS_CFG.BE_MIN`. 0 to BE_MAX. -/
def RAD_ACCESS_CFG_BE_MIN (i : Nat) : Field :=
  { page := 0x35 + i, off := 0x148, lo := 0, width := 4, reset := 1, acc := .rw, txn := .t, vmax := 8 }

/-- R281: `RAD.ACCESS_CFG.BE_MAX`. BE_MIN to 8. -/
def RAD_ACCESS_CFG_BE_MAX (i : Nat) : Field :=
  { page := 0x35 + i, off := 0x148, lo := 4, width := 4, reset := 7, acc := .rw, txn := .t, vmax := 8 }

/-- R281: `RAD.ACCESS_CFG.RETRY_MAX`. 0 to 7. -/
def RAD_ACCESS_CFG_RETRY_MAX (i : Nat) : Field :=
  { page := 0x35 + i, off := 0x148, lo := 12, width := 3, reset := 7, acc := .rw, txn := .t, vmax := 7 }

/-- R281: `RAD.SEC_CFG.LEVEL`. 0, 1–3, 5–7; 4 refused. -/
def RAD_SEC_CFG_LEVEL (i : Nat) : Field :=
  { page := 0x35 + i, off := 0x14C, lo := 0, width := 3, reset := 5, acc := .rw, txn := .t, vmax := 7 }

/-- R281: `RAD.KEYMAP0–3.VALID`. Map in use. -/
def RAD_KEYMAP_VALID (i : Nat) (k : Nat) : Field :=
  { page := 0x35 + i, off := 0x150 + 0x4 * k, lo := 31, width := 1, acc := .rw, txn := .t, vmax := 1 }

/-- R281: `RAD.KEYMAP0–3.SLOT`. Canister slot. -/
def RAD_KEYMAP_SLOT (i : Nat) (k : Nat) : Field :=
  { page := 0x35 + i, off := 0x150 + 0x4 * k, lo := 8, width := 6, acc := .rw, txn := .t, vmax := 63 }

/-- R281: `RAD.KEYMAP0–3.IDX`. Key index. -/
def RAD_KEYMAP_IDX (i : Nat) (k : Nat) : Field :=
  { page := 0x35 + i, off := 0x150 + 0x4 * k, lo := 0, width := 8, acc := .rw, txn := .t, vmax := 255 }

/-- R281: `RAD.SCHED.COPY`. R267. -/
def RAD_SCHED_COPY (i : Nat) : Field :=
  { page := 0x35 + i, off := 0x160, lo := 0, width := 1, acc := .rw, txn := .t, vmax := 1 }

/-- R281: `RAD.NLINKS.COPY0`. Links in copy 0. -/
def RAD_NLINKS_COPY0 (i : Nat) : Field :=
  { page := 0x35 + i, off := 0x164, lo := 0, width := 14, acc := .rw, txn := .t, vmax := 16383 }

/-- R281: `RAD.NLINKS.COPY1`. Links in copy 1. -/
def RAD_NLINKS_COPY1 (i : Nat) : Field :=
  { page := 0x35 + i, off := 0x164, lo := 16, width := 14, acc := .rw, txn := .t, vmax := 16383 }

/-- R281: `RAD.HOP_CFG.LEN`. 1 to 64. -/
def RAD_HOP_CFG_LEN (i : Nat) : Field :=
  { page := 0x35 + i, off := 0x168, lo := 0, width := 7, reset := 1, acc := .rw, txn := .t, vmin := 1, vmax := 64 }

/-- R281: `RAD.DC_CFG.START`. R276. -/
def RAD_DC_CFG_START (i : Nat) : Field :=
  { page := 0x35 + i, off := 0x16C, lo := 0, width := 1, reset := 1, acc := .rw, txn := .t, vmax := 1 }

/-- R281: `RAD.DL_CFG.MAX_WAIT_S`. 1 to 255. -/
def RAD_DL_CFG_MAX_WAIT_S (i : Nat) : Field :=
  { page := 0x35 + i, off := 0x170, lo := 0, width := 8, reset := 60, acc := .rw, txn := .t, vmin := 1, vmax := 255 }

/-- R281: `RAD.DCk_LO.KHZ`. Entry k, k = 0–7. -/
def RAD_DC_LO_KHZ (i : Nat) (k : Nat) : Field :=
  { page := 0x35 + i, off := 0x180 + 0x8 * k, lo := 0, width := 20, acc := .rw, txn := .t, vmax := 1048575 }

/-- R281: `RAD.DCk_HI.KHZ`. Upper edge. -/
def RAD_DC_HI_KHZ (i : Nat) (k : Nat) : Field :=
  { page := 0x35 + i, off := 0x184 + 0x8 * k, lo := 0, width := 20, acc := .rw, txn := .t, vmax := 1048575 }

/-- R281: `RAD.DCk_HI.LIMIT`. 0.01 %, 0 to 4,095. -/
def RAD_DC_HI_LIMIT (i : Nat) (k : Nat) : Field :=
  { page := 0x35 + i, off := 0x184 + 0x8 * k, lo := 20, width := 12, acc := .rw, txn := .t, vmax := 4095 }

/-- R281: `RAD.DCk_USE.MS`. USE of entry k. -/
def RAD_DC_USE_MS (i : Nat) (k : Nat) : Field :=
  { page := 0x35 + i, off := 0x1C0 + 0x4 * k, lo := 0, width := 22, acc := .ro, vmax := 4194303 }

/-- R281: `RAD.HOP0–HOP15.CHANNELS`. HOP[4k + b] in byte b. -/
def RAD_HOP_CHANNELS (i : Nat) (k : Nat) : Field :=
  { page := 0x35 + i, off := 0x1E0 + 0x4 * k, lo := 0, width := 32, acc := .rw, txn := .t, vmax := 4294967295 }

/-- R281: `RAD.RX_OK_CNT.CNT`. Frames queued. -/
def RAD_RX_OK_CNT_CNT (i : Nat) : Field :=
  { page := 0x35 + i, off := 0x220, lo := 0, width := 32, acc := .rw, vmax := 4294967295 }

/-- R281: `RAD.RX_FCS_CNT.CNT`. FCS failures. -/
def RAD_RX_FCS_CNT_CNT (i : Nat) : Field :=
  { page := 0x35 + i, off := 0x224, lo := 0, width := 32, acc := .rw, vmax := 4294967295 }

/-- R281: `RAD.RX_DUP_CNT.CNT`. Link-level repeats. -/
def RAD_RX_DUP_CNT_CNT (i : Nat) : Field :=
  { page := 0x35 + i, off := 0x228, lo := 0, width := 32, acc := .rw, vmax := 4294967295 }

/-- R281: `RAD.RX_REFUSED_CNT.CNT`. Refused for lack of credit. -/
def RAD_RX_REFUSED_CNT_CNT (i : Nat) : Field :=
  { page := 0x35 + i, off := 0x22C, lo := 0, width := 32, acc := .rw, vmax := 4294967295 }

/-- R281: `RAD.MIC_FAIL_CNT.CNT`. R275. -/
def RAD_MIC_FAIL_CNT_CNT (i : Nat) : Field :=
  { page := 0x35 + i, off := 0x230, lo := 0, width := 32, acc := .rw, vmax := 4294967295 }

/-- R281: `RAD.TX_CNT.CNT`. Frames sent. -/
def RAD_TX_CNT_CNT (i : Nat) : Field :=
  { page := 0x35 + i, off := 0x234, lo := 0, width := 32, acc := .rw, vmax := 4294967295 }

/-- R281: `RAD.RETRY_CNT.CNT`. Retries. -/
def RAD_RETRY_CNT_CNT (i : Nat) : Field :=
  { page := 0x35 + i, off := 0x238, lo := 0, width := 32, acc := .rw, vmax := 4294967295 }

/-- R281: `RAD.TX_DROP_CNT.CNT`. Downlink frames dropped. -/
def RAD_TX_DROP_CNT_CNT (i : Nat) : Field :=
  { page := 0x35 + i, off := 0x23C, lo := 0, width := 32, acc := .rw, vmax := 4294967295 }

/-- R281: `RAD.DEFER_CNT.CNT`. R278. -/
def RAD_DEFER_CNT_CNT (i : Nat) : Field :=
  { page := 0x35 + i, off := 0x240, lo := 0, width := 32, acc := .rw, vmax := 4294967295 }

/-- R281: `RAD.BCN_MISS_CNT.CNT`. EB periods not heard. -/
def RAD_BCN_MISS_CNT_CNT (i : Nat) : Field :=
  { page := 0x35 + i, off := 0x244, lo := 0, width := 32, acc := .rw, vmax := 4294967295 }

/-- R281: `RAD.SKIP_CNT.CNT`. R268. -/
def RAD_SKIP_CNT_CNT (i : Nat) : Field :=
  { page := 0x35 + i, off := 0x248, lo := 0, width := 32, acc := .rw, vmax := 4294967295 }

/-- R281: `RAD.OUT_OF_BAND_CNT.CNT`. R277. -/
def RAD_OUT_OF_BAND_CNT_CNT (i : Nat) : Field :=
  { page := 0x35 + i, off := 0x24C, lo := 0, width := 32, acc := .rw, vmax := 4294967295 }

/-- R281: `RAD.ACK_DISCARD_CNT.CNT`. Acknowledgement items discarded. -/
def RAD_ACK_DISCARD_CNT_CNT (i : Nat) : Field :=
  { page := 0x35 + i, off := 0x250, lo := 0, width := 32, acc := .rw, vmax := 4294967295 }

/-- R281: `RAD.ACK_TITLE_LO.TITLE`. System title, bytes 4–7. -/
def RAD_ACK_TITLE_LO_TITLE (i : Nat) : Field :=
  { page := 0x35 + i, off := 0x254, lo := 0, width := 32, acc := .rw, txn := .t, vmax := 4294967295 }

/-- R281: `RAD.ACK_TITLE_HI.TITLE`. Bytes 0–3. -/
def RAD_ACK_TITLE_HI_TITLE (i : Nat) : Field :=
  { page := 0x35 + i, off := 0x258, lo := 0, width := 32, acc := .rw, txn := .t, vmax := 4294967295 }

/-- R281: `RAD.SHORT_ADDR.ADDR`. MEMBER: address assigned. -/
def RAD_SHORT_ADDR_ADDR (i : Nat) : Field :=
  { page := 0x35 + i, off := 0x25C, lo := 0, width := 16, reset := 65534, acc := .ro, vmax := 65535 }

/-- R281: `RAD.NODE_SEL.ADDR`. Address shown in NODE_INFO. -/
def RAD_NODE_SEL_ADDR (i : Nat) : Field :=
  { page := 0x35 + i, off := 0x260, lo := 0, width := 16, acc := .rw, vmax := 65535 }

/-- R281: `RAD.NODE_INFO.VALID`. The address is joined. -/
def RAD_NODE_INFO_VALID (i : Nat) : Field :=
  { page := 0x35 + i, off := 0x264, lo := 31, width := 1, acc := .ro, vmax := 1 }

/-- R281: `RAD.NODE_INFO.AGE_MIN`. Minutes since last heard, saturating. -/
def RAD_NODE_INFO_AGE_MIN (i : Nat) : Field :=
  { page := 0x35 + i, off := 0x264, lo := 0, width := 16, acc := .ro, vmax := 65535 }

/-- R281: `RAD.SPI_RAW.WORD`. Sent on write, reply on read; refused while ENABLE = 1. -/
def RAD_SPI_RAW_WORD (i : Nat) : Field :=
  { page := 0x35 + i, off := 0x268, lo := 0, width := 32, acc := .rw, own := true, vmax := 4294967295 }

/-- Fields of page RAD, in table order (part). -/
def radFields0 (i : Nat) : List Field :=
  [RAD_CTRL_ENABLE i,
   RAD_CTRL_ROLE i,
   RAD_CTRL_FENCE i,
   RAD_STAT_NODE_STATE i,
   RAD_STAT_TX_ACTIVE i,
   RAD_STAT_BUDGET_LOW i,
   RAD_PHY_CFG_RATE i,
   RAD_PHY_CFG_GAUSS i,
   RAD_PHY_CFG_PREAMBLE i,
   RAD_PHY_CFG_FCS_TYPE i,
   RAD_PHY_CFG_WHITEN i,
   RAD_PHY_CFG_TXEN_LEAD i,
   RAD_PHY_CFG_CCA_THR i,
   RAD_TUNE_CFG_CMD i,
   RAD_TUNE_CFG_SETTLE_US i,
   RAD_TUNE_BASE_WORD i,
   RAD_TUNE_STEP_WORD i,
   RAD_CHAN0_KHZ_KHZ i,
   RAD_SPACING_KHZ_KHZ i,
   RAD_PAN_PANID i]

/-- Fields of page RAD, in table order (part). -/
def radFields1 (i : Nat) : List Field :=
  [RAD_ASN_EPOCH_LO_SEC i,
   RAD_ASN_EPOCH_HI_SEC i,
   RAD_ASN_LO_ASN i,
   RAD_ASN_HI_ASN i,
   RAD_SYNC_OFS_NS i,
   RAD_EB_CFG_SF i,
   RAD_EB_CFG_PERIOD i,
   RAD_EB_CFG_SEC i,
   RAD_JOIN_CFG_OPEN i,
   RAD_JOIN_CFG_POLICY i,
   RAD_JOIN_CFG_AGE_H i,
   RAD_ACCESS_CFG_BE_MIN i,
   RAD_ACCESS_CFG_BE_MAX i,
   RAD_ACCESS_CFG_RETRY_MAX i,
   RAD_SEC_CFG_LEVEL i,
   RAD_SCHED_COPY i,
   RAD_NLINKS_COPY0 i,
   RAD_NLINKS_COPY1 i,
   RAD_HOP_CFG_LEN i,
   RAD_DC_CFG_START i]

/-- Fields of page RAD, in table order (part). -/
def radFields2 (i : Nat) : List Field :=
  [RAD_DL_CFG_MAX_WAIT_S i,
   RAD_RX_OK_CNT_CNT i,
   RAD_RX_FCS_CNT_CNT i,
   RAD_RX_DUP_CNT_CNT i,
   RAD_RX_REFUSED_CNT_CNT i,
   RAD_MIC_FAIL_CNT_CNT i,
   RAD_TX_CNT_CNT i,
   RAD_RETRY_CNT_CNT i,
   RAD_TX_DROP_CNT_CNT i,
   RAD_DEFER_CNT_CNT i,
   RAD_BCN_MISS_CNT_CNT i,
   RAD_SKIP_CNT_CNT i,
   RAD_OUT_OF_BAND_CNT_CNT i,
   RAD_ACK_DISCARD_CNT_CNT i,
   RAD_ACK_TITLE_LO_TITLE i,
   RAD_ACK_TITLE_HI_TITLE i,
   RAD_SHORT_ADDR_ADDR i,
   RAD_NODE_SEL_ADDR i,
   RAD_NODE_INFO_VALID i,
   RAD_NODE_INFO_AGE_MIN i]

/-- Fields of page RAD, in table order (part). -/
def radFields3 (i : Nat) : List Field :=
  [RAD_SPI_RAW_WORD i]

/-- Every block-specific field of page RAD. -/
def radFields (i : Nat) : List Field :=
  radFields0 i ++
  radFields1 i ++
  radFields2 i ++
  radFields3 i ++
  (List.range 4).map (RAD_SF_LEN_LEN i) ++
  (List.range 4).map (RAD_KEYMAP_VALID i) ++
  (List.range 4).map (RAD_KEYMAP_SLOT i) ++
  (List.range 4).map (RAD_KEYMAP_IDX i) ++
  (List.range 8).map (RAD_DC_LO_KHZ i) ++
  (List.range 8).map (RAD_DC_HI_KHZ i) ++
  (List.range 8).map (RAD_DC_HI_LIMIT i) ++
  (List.range 8).map (RAD_DC_USE_MS i) ++
  (List.range 16).map (RAD_HOP_CHANNELS i)

end Sys2Proof.Machine.Reg
end

