-- ==== Sys2Proof/Machine/RegTable.lean ====
section
/-! DEFINITION. The register fields of every page as one table, and the table of queues: which pages exist, in which clock domain, with which fields and which queue ends (R9, R19, R28, R61). -/

namespace Sys2Proof.Machine

/-- R9: the pages that exist. Page 0x22 (MEM) exists and has no block-specific registers in the spec. -/
def pageExists (p : Nat) : Bool :=
  decide (p ≤ 0x0D) || (decide (0x10 ≤ p) && decide (p ≤ 0x12)) || (decide (0x14 ≤ p) && decide (p ≤ 0x17)) ||
  p == 0x19 || (decide (0x20 ≤ p) && decide (p ≤ 0x24)) || (decide (0x28 ≤ p) && decide (p ≤ 0x38)) ||
  (decide (0x40 ≤ p) && decide (p ≤ 0x5F))

/-- R9: the clock domain of a page. -/
def pageDomain (p : Nat) : Domain :=
  if p ≤ 0x03 ∨ p = 0x06 ∨ p = 0x2C then .aon
  else if p = 0x04 ∨ p = 0x0C then .slow
  else if p = 0x05 ∨ p = 0x2D then .time
  else if p = 0x12 ∨ (0x40 ≤ p ∧ p ≤ 0x5F) then .lane
  else if p = 0x19 ∨ p = 0x24 ∨ (0x31 ≤ p ∧ p ≤ 0x38) then .field
  else if p = 0x22 then .mem
  else if p = 0x28 ∨ p = 0x29 ∨ p = 0x2A ∨ p = 0x2B ∨ p = 0x2E ∨ p = 0x30 then .port
  else .fabric

/-- The block-specific fields of a page. -/
def blockFields (p : Nat) : List Field :=
  match p with
  | 0x00 => Reg.sysFields | 0x01 => Reg.clkFields | 0x02 => Reg.pwrFields | 0x03 => Reg.aonFields
  | 0x04 => Reg.rtcFields | 0x05 => Reg.timeFields | 0x06 => Reg.evrFields | 0x07 => Reg.lcsFields
  | 0x08 => Reg.keyFields | 0x09 => Reg.ciphFields | 0x0A => Reg.pkeFields | 0x0B => Reg.trngFields
  | 0x0C => Reg.tampFields | 0x0D => Reg.updFields | 0x10 => Reg.funlFields | 0x11 => Reg.ladlFields
  | 0x12 => Reg.sievFields | 0x14 => Reg.dirFields | 0x15 => Reg.balFields | 0x16 => Reg.billFields
  | 0x17 => Reg.calFields | 0x19 => Reg.panelFields | 0x20 => Reg.dmaFields | 0x21 => Reg.qmonFields
  | 0x23 => Reg.ftlFields | 0x24 => Reg.nandFields | 0x28 => Reg.ethFields | 0x2D => Reg.ptpFields
  | 0x2E => Reg.prpFields | 0x2F => Reg.pcieFields | 0x30 => Reg.twinFields
  | p => if 0x29 ≤ p ∧ p ≤ 0x2C then Reg.ethpFields (p - 0x29)
    else if 0x31 ≤ p ∧ p ≤ 0x34 then Reg.plcFields (p - 0x31)
    else if 0x35 ≤ p ∧ p ≤ 0x38 then Reg.radFields (p - 0x35)
    else if 0x40 ≤ p ∧ p ≤ 0x5F then Reg.laneFields (p - 0x40)
    else []

/-- R61: the depth of a queue; 0 for a number that names none. -/
def qDepth (q : Nat) : Nat :=
  if q = 0x30 then 256                                          -- EVR input (R485)
  else if q = 0x40 ∨ q = 0x41 then 64                           -- KEY requests, replies (R415)
  else if q = 0x48 ∨ q = 0x49 then 256                          -- CIPH jobs, completions (R418)
  else if 0x4A ≤ q ∧ q ≤ 0x4D then 256                          -- decrypt, units 0 to 3 (R19)
  else if q = 0x50 ∨ q = 0x51 then 64                           -- PKE jobs, completions (R419)
  else if q = 0x68 ∨ q = 0x69 then 64                           -- UPD pieces, completions (R479)
  else if q = 0x80 then 1024                                    -- dispatch (R19)
  else if q = 0x81 then 1024                                    -- Funnel exceptions (R92)
  else if q = 0x88 then 4096                                    -- reorder slots (R93)
  else if q = 0x89 then 1024                                    -- tag verdicts (R19)
  else if q = 0x90 then 4096                                    -- lane events (R118)
  else if q = 0xA0 then 1024                                    -- lookup (R19)
  else if q = 0xA1 ∨ q = 0xA2 then 256                          -- DIR commands, completions (R142, R144)
  else if q = 0xA8 then 4096                                    -- BAL reports (R170)
  else if q = 0xA9 ∨ q = 0xAA then 256                          -- BAL commands, completions
  else if q = 0xB0 then 1024                                    -- BILL reports (R201)
  else if q = 0x118 then 8192                                   -- Ladle commit (R19)
  else if q = 0x119 ∨ q = 0x11A then 64                         -- FTL commands, completions (R363)
  else if q = 0x120 ∨ q = 0x121 then 64                         -- NAND programs (R19)
  else if q = 0x140 then 256                                    -- CPU-port receive (R19)
  else if q = 0x141 ∨ q = 0x142 then 512                        -- software receive, transmit (R300)
  else if q = 0x143 then 4096                                   -- CPU-port acknowledgements (R19)
  else if q = 0x168 then 256                                    -- PTP stamps (R231)
  else if q = 0x178 then 256                                    -- PCIe receive (R19)
  else if q = 0x179 then 4096                                   -- PCIe acknowledgements (R19)
  else if q = 0x180 ∨ q = 0x181 then 8192                       -- twin order, received records (R333)
  else if 0x188 ≤ q ∧ q ≤ 0x1C7 then                            -- PLC and radio ports (R261, R281)
    if q % 8 = 0 then 4096 else if q % 8 ≤ 3 then 256 else 0
  else if 0x200 ≤ q ∧ q ≤ 0x2FF ∧ q % 8 = 0 then 16             -- plaintext of a lane (R130)
  else 0

/-- R19, R55, R56: the Q-PRIV queues. -/
def qPriv (q : Nat) : Bool :=
  q == 0x30 || q == 0x40 || q == 0x118 || q == 0x180 || q == 0x181

/-- R61: the consumer page of a queue. -/
def qPage (q : Nat) : Nat := q / 8

end Sys2Proof.Machine
end

