-- ==== Sys2Proof/Machine/Sparse.lean ====
section
/-! DEFINITION. Sparse tables with a Nat key, in one canonical form: keys strictly rising, and no entry equal to what an unlisted key reads as. Register fields, memory bytes, queues, lanes and every other indexed part of the state are held so. -/

namespace Sys2Proof.Machine

/-- The value at a key; an unlisted key reads as `d`. -/
def sget {α : Type} (d : α) : List (Nat × α) → Nat → α
  | [], _ => d
  | (k, v) :: r, a => if k = a then v else sget d r a

/-- Insert or replace one entry, keeping the keys rising. -/
def sins {α : Type} : List (Nat × α) → Nat → α → List (Nat × α)
  | [], a, x => [(a, x)]
  | (k, v) :: r, a, x =>
    if a < k then (a, x) :: (k, v) :: r
    else if k = a then (a, x) :: r
    else (k, v) :: sins r a x

/-- Write one key: the default value removes the entry. -/
def sput {α : Type} [DecidableEq α] (d : α) (m : List (Nat × α)) (a : Nat) (x : α) : List (Nat × α) :=
  if x = d then m.filter (fun e => decide (e.1 ≠ a)) else sins m a x

/-- The keys rise strictly. -/
def keysRise {α : Type} : List (Nat × α) → Bool
  | [] => true
  | (_, _) :: [] => true
  | (k, _) :: (l, w) :: r => decide (k < l) && keysRise ((l, w) :: r)

/-- The canonical form: rising keys and no listed default. -/
def sparseWf {α : Type} [DecidableEq α] (d : α) (m : List (Nat × α)) : Bool :=
  keysRise m && m.all (fun e => decide (e.2 ≠ d))

end Sys2Proof.Machine
end

