-- ==== Sys2Proof/Machine/Parts.lean ====
section
/-! DEFINITION. The parts of the state: what each block of the chip holds beside its registers and memories, as plain data. -/

namespace Sys2Proof.Machine

/-! ## Register pages, transactions -/

/-- R42: the states of a transaction tag, in the order of their codes. -/
inductive TxnState where
  | free | opened | armed | committing | committed | rolledBack
  deriving DecidableEq, Repr

/-- R46: a trigger as armed. `time` holds the TB0 instant in ns, `interval` the boundary on the UTC view
of TB0 in ns, `beacon` the port and the TB3
instant in ns, `cycle` the TB4 count already reached. -/
inductive Trigger where
  | none
  | now
  | time (ns : Nat)
  | interval (ns : Nat)
  | beacon (port : Nat) (ns : Nat)
  | cycle (n : Nat)
  deriving DecidableEq, Repr

/-- R42–R49: one transaction tag. -/
structure Txn where
  state : TxnState := .free
  owner : Req := .trusted
  cause : Nat := 0
  page : Nat := 0
  late : Bool := false
  deadline : Nat := 0
  trigger : Trigger := .none
  staged : List (Field × Nat) := []
  deriving DecidableEq, Repr

/-- The answer the latest access gave on the bus: an error flag and the read data (R26). -/
structure BusAnswer where
  err : Bool := false
  data : Nat := 0
  deriving DecidableEq, Repr

/-! ## The path of a reading -/

/-- R72: the tag verdicts. -/
inductive TagVerdict where
  | pass | fail | noKey | revoked | poison
  deriving DecidableEq, Repr

/-- R110, R111: a lane verdict; a quarantine carries its reason. -/
inductive LaneVerdict where
  | accept
  | quarantine (reason : Nat)
  | duplicate
  | replayReject
  deriving DecidableEq, Repr

/-- R77, R86: the outcome of a frame, in the order of the outcome codes of R86. -/
inductive FrameOutcome where
  | committed | quarantined | duplicate | authFail | noKey | replayReject | notTaken
  deriving DecidableEq, Repr

/-- A meter frame on the path: what reception, parsing and ordering give it (R63–R70). `origin` is the source, position and BSEQ of the batch that its FRAME record names (R311). -/
structure Frame where
  raw : Bytes := []
  port : Nat := 0
  link : Nat := 0
  fmt : Nat := 0xFF
  mid : Nat := 0
  ivc : Nat := 0
  meter : Nat := 0xFFFFF
  stamp : Nat := 0
  calgen : Nat := 0
  bank : Nat := 0
  digest : Nat := 0
  batch : Option (Nat × Nat) := none
  origin : Option (Nat × Nat × Nat) := none
  deriving DecidableEq, Repr

/-- An item that is not a meter frame and takes an order number of its own (R143, R156, R180, R191, R195).
`bytes` is the item as its chapter lays it out; `src` says where a completion or a result goes. -/
inductive Ordered where
  | dirCmd (bytes : Bytes) (src : Nat)
  | balCmd (bytes : Bytes)
  | balMarker (k : Nat)
  | demandMarker (m gen : Nat)
  | closeMarker (b : Nat) (skipped : Bool) (at_ : Nat)
  | ckptMarker (k : Nat)
  | token (bytes : Bytes) (meter : Nat) (src : Nat)
  | join (bytes : Bytes)
  | txn (l : List (Nat × Nat × Nat)) (mine : Bool)
  deriving DecidableEq, Repr

/-- What an order number stands for. -/
inductive FlightBody where
  | frame (f : Frame)
  | ordered (o : Ordered)
  deriving DecidableEq, Repr

/-- Where a frame in flight stands between Funnel and Ladle. -/
inductive Stage where
  | held | decrypt | cleaver | lane | running | done
  deriving DecidableEq, Repr

/-- R68: a frame or ordered item in flight, with its reorder slot (R75, R76). `plain` is the frame window's
content and `arrived` how many of its bytes have reached the lane; `poisonRuns` counts the poisoned runs in a row on its present lane and
`poisonLanes` the lanes already fenced for it (R113); `rerun` marks a frame that is to run again (R112) and `again` one that runs again or is to (R92); `slot` that
it holds its reorder slot (R75); `copy` is the prefetched copy of its record that its plaintext item carries, empty where it carries none (R98). -/
structure Flight where
  body : FlightBody
  lane : Nat := 0
  stage : Stage := .done
  laneV : Option LaneVerdict := none
  tagV : Option TagVerdict := none
  crc : Nat := 0
  plain : Bytes := []
  arrived : Nat := 0
  revoked : Nat := 0
  poisonRuns : Nat := 0
  poisonLanes : Nat := 0
  poisonWords : List Nat := []
  rerun : Bool := false
  again : Bool := false
  slot : Bool := false
  copy : Bytes := []
  ptOff : Nat := 0
  ptLen : Nat := 0
  version : Nat := 0
  deriving DecidableEq, Repr

/-- R106: an entry of a lane's effect buffer. -/
structure Effect where
  order : Nat
  kind : Nat
  sub : Nat
  off : Nat
  w1 : Nat
  w2 : Nat
  w3 : Nat
  deriving DecidableEq, Repr

/-- R94–R107: what a lane holds beside its page and its SRAMs. `ring` is the position of the oldest entry
held, `effects` the entries from the oldest to the newest, `stored` the SCRATCH words the running frame has
stored to, `lastPc` the address of the instruction that retired last and `retiredAt` when (TB1, ns), moved on by the stalls that have ended since; `waiting` since when
the lane stalls on plaintext or on a full effect buffer (TB1, ns), `need` the bytes of plaintext that the stalled load waits for, `katAt` the last period of its known-answer test that is past, `sealing` the bank whose seal runs. -/
structure Lane where
  regs : List (Nat × Nat) := []
  pc : Nat := 0
  lastPc : Nat := 0
  running : Option Nat := none
  cycles : Nat := 0
  stalled : Bool := false
  retiredAt : Nat := 0
  waiting : Option Nat := none
  need : Nat := 0
  katAt : Nat := 0
  sealing : Option Nat := none
  stored : List (Nat × Bool) := []
  ring : Nat := 0
  effects : List Effect := []
  deriving DecidableEq, Repr

/-- R114: a lane verdict on its way to Ladle; `late` once its lane has been fenced (R76). -/
structure Verdict where
  lane : Nat
  order : Nat
  v : LaneVerdict
  crc : Nat
  late : Bool := false
  deriving DecidableEq, Repr

/-- R115–R117: an entry of the lane map. `lane` is the target in force; while the group moves, `src` is the
lane it moves from and `moved` the mask of meters that have moved. -/
structure MapEntry where
  lane : Nat
  src : Option Nat := none
  moved : Nat := 0
  deriving DecidableEq, Repr

/-- R85: an acknowledgement item; `dup` marks that of a DUPLICATE (R80). -/
structure Ack where
  meter : Nat := 0
  ivc : Nat := 0
  outcome : FrameOutcome := .committed
  order : Nat := 0
  fmt : Nat := 0
  version : Nat := 0
  port : Nat := 0
  link : Nat := 0
  stamp : Nat := 0
  batch : Option (Nat × Nat) := none
  dup : Bool := false
  deriving DecidableEq, Repr

/-! ## Event records -/

/-- The events that the chapters send to the event recorder, by name (R492). -/
inductive Ev where
  | powerOn | powerFail | lgRecover | stagingLost
  | modeChange | degraded
  | tamper | tamperResponse
  | lifecycle | debugOpened | debugClosed | enrolled | release | releaseFail
  | authFail | replayReject | keyRevoked | trngFailed
  | laneFenced
  | blockRetired | dieFailed | readOnly | spareLow
  | twinRole | twinTakeover | twinMismatch | twinDispute
  | port
  | timeStep | leap | oscStopped
  | inputStuck | inputReleased | inputChatter
  | creditFault | qprivReset
  | activation | fallback | confirmDue
  | dupMeterId | tableParity | dataError
  | logInit | logCleared | logMediaFail | logRestored | recordsLost
  | software (code : Nat)
  deriving DecidableEq, Repr

/-- R492: the trigger class of an event. -/
def Ev.cls : Ev → Nat
  | .powerOn | .powerFail | .lgRecover | .stagingLost => 0
  | .modeChange | .degraded => 1
  | .tamper | .tamperResponse => 2
  | .lifecycle | .debugOpened | .debugClosed | .enrolled | .release | .releaseFail => 3
  | .authFail | .replayReject | .keyRevoked | .trngFailed => 4
  | .laneFenced => 5
  | .blockRetired | .dieFailed | .readOnly | .spareLow => 6
  | .twinRole | .twinTakeover | .twinMismatch | .twinDispute => 7
  | .port => 8
  | .timeStep | .leap | .oscStopped => 9
  | .inputStuck | .inputReleased | .inputChatter => 10
  | .creditFault | .qprivReset => 11
  | .activation | .fallback | .confirmDue => 12
  | .dupMeterId | .tableParity | .dataError => 13
  | .logInit | .logCleared | .logMediaFail | .logRestored | .recordsLost => 14
  | .software code => code / 256

/-- An event item in the recorder's input queue (R485). -/
structure EventItem where
  ev : Ev
  page : Nat
  data : Bytes := []
  deriving DecidableEq, Repr

/-! ## Tariff calendars -/

/-! ## The commit path -/

/-- R82, R349: a commit item on its way to the FTL: the archive or journal entry it becomes, and for a frame the
acknowledgement that its group's durability releases. -/
structure CommitItem where
  order : Nat
  entry : Bytes
  ack : Option Ack := none
  deriving DecidableEq, Repr

/-- R310: an order record between twins. A FRAME record is held as its bytes (R311). -/
inductive Rec where
  | frame (bytes : Bytes)
  | ordered (order : Nat) (o : Ordered)
  | discard (order cause : Nat)
  | group (seq last : Nat)
  | handover (x : Nat) (bounds : List Nat)
  | durable (seq : Nat)
  | digest (stream index dig : Nat)
  | forward (port link seq : Nat) (bytes : Bytes)
  | resendReq (order : Nat)
  deriving DecidableEq, Repr

/-! ## Queues -/

/-- What a queue item carries. `bytes` is an item that the spec lays out byte by byte. -/
inductive Payload where
  | frame (f : Frame)
  | order (n : Nat)
  | orderedItem (o : Ordered)
  | tag (order : Nat) (v : TagVerdict)
  | ack (a : Ack)
  | event (e : EventItem)
  | bytes (b : Bytes)
  | groupEdge (seq last at_ : Nat)
  | commit (c : CommitItem)
  | record (r : Rec)
  | batch (conc kind buf tag : Nat) (b : Bytes)
  | words (n : Nat)
  deriving DecidableEq, Repr

/-- A queue item; `poison` counts its words that failed their parity check (R55). -/
structure Item where
  body : Payload
  poison : Nat := 0
  deriving DecidableEq, Repr

/-- R53, R57: a word of an item as the consumer's side delivers it: its bits, the marks of the first and the last word of the item, and in
the last word of a PACK queue the count of valid bytes, in which 0 means 8. -/
structure QWord where
  data : Nat
  soi : Bool
  eoi : Bool
  valid : Nat := 0
  deriving DecidableEq, Repr

/-- R16, R53–R60: a queue. `credits` are those the producer holds, `held` the slots of items already read
whose credit returns at a later event, `returning` the credits on their way back, `fails` the consecutive
failures of the credit check; `rd` and `wr` are the pointers, each one bit wider than the slot address: the oldest slot that is not free, and the next one to
be written. -/
structure Queue where
  items : List Item := []
  credits : Nat := 0
  held : Nat := 0
  returning : Nat := 0
  fails : Nat := 0
  rd : Nat := 0
  wr : Nat := 0
  deriving DecidableEq, Repr

/-! ## Funnel, Cleaver, Ladle and the groups -/

/-- R72, R392: a frame in a Cleaver unit: its order number, the verdict its tag check comes to, and the KEK slot
it has latched, none where no key was used; `revoked` once that slot was erased under it (R393). -/
structure CleaverRun where
  order : Nat
  verdict : TagVerdict
  slot : Option Nat := none
  revoked : Bool := false
  deriving DecidableEq, Repr

/-- R83, R84: a closed group that is not durable: its sequence and last order number, when it closed (TB1, ns), its
items, the page programs that are outstanding, whether its programs have started and whether all of them are verified, and
whether it is late (R88). -/
structure Group where
  seq : Nat
  last : Nat := 0
  closedAt : Nat := 0
  items : List CommitItem := []
  pages : List Nat := []
  started : Bool := false
  written : Bool := false
  late : Bool := false
  deriving DecidableEq, Repr

/-- R63–R93: what Funnel, Cleaver and Ladle hold beside their registers. `replay` maps a replay slot to the order
number that holds it, plus 1; `units` are the Cleaver units' frames; `shadow` is the commit shadow ring (R82) with the edges
between its items,
`placed` the FTL's open group; `count` the items committed since the last group edge and `lastItem` the order number
of the latest; `closeAt` the TB1 instant (ns) of the next close; `headSince` when the present head came to the head
(TB1, ns); `secCnt`, `secNext` the outcomes not yet reported and the instant of the next report for AUTH_FAIL and for
REPLAY_REJECT (R81); `toParse` the meter frames split from batches that wait for the header parser, with their port and whether they are the last of a datagram whose queue credit they
hold (R19); `slotMeta` the 32-byte metadata of the replay slots (R70), by slot; `lateEdges` the groups found late whose edge is still in the commit queue (R88); `peerSeq` the highest group that the partner has reported durable (R328); `replayed` the order number up to which the journal was replayed at the last start-up (R171). -/
structure PathState where
  replay : List (Nat × Nat) := []
  units : List (Nat × Option CleaverRun) := []
  shadow : List Payload := []
  placed : List CommitItem := []
  count : Nat := 0
  lastItem : Nat := 0
  groups : List Group := []
  dupAcks : List (Nat × Ack) := []
  closeAt : Nat := 0
  headSince : Nat := 0
  authCnt : Nat := 0
  authNext : Nat := 0
  rejCnt : Nat := 0
  rejNext : Nat := 0
  replayed : Option Nat := none
  toParse : List (Nat × Frame × Bool) := []
  slotMeta : List (Nat × Bytes) := []
  lateEdges : List Nat := []
  peerSeq : Nat := 0
  deriving DecidableEq, Repr

/-! ## Table engine -/

/-- R148: a request that waits for a locked bucket. -/
inductive Parked where
  | lookup (f : Frame)
  | command (item : Bytes) (replica : Bool)
  deriving DecidableEq, Repr

/-- R139: a route to be learned from a committed frame. -/
structure Learn where
  f : Frame
  order : Nat
  deriving DecidableEq, Repr

/-- R148: a locked bucket: its table, its number and the TB1 instant (ns) at which the lock is released. -/
structure DirLock where
  table : Nat
  bucket : Nat
  until_ : Nat
  deriving DecidableEq, Repr

/-- R131–R150: what the table engine holds beside its registers and its tables in DRAM. `tags` is the tag filter:
overflow slot to tag plus 1, 0 for a free slot; `search` the lookup that waits for the filter; `parked` and
`released` the lookup pipeline's requests that wait for a lock, and those a lock has let go; `learns` the commit
pipeline's, `clears` the locked ledger buckets whose SUSPECT is to clear; `turn` the queue that an item was taken from last: 1 lookup, 2 command, 0 none yet (R143);
`timedOut` the buckets whose lock ended by timeout, `messages` the learning messages that wait for a credit of the command path (R147). -/
structure DirState where
  dirKey : Bytes := List.replicate 16 0
  routeKey : Bytes := List.replicate 16 0
  ledgerKey : Bytes := List.replicate 16 0
  tags : List (Nat × Nat) := []
  search : Option Frame := none
  parked : List Parked := []
  released : List Parked := []
  learns : List Learn := []
  messages : List Bytes := []
  clears : List Nat := []
  turn : Nat := 0
  locks : List DirLock := []
  timedOut : List (Nat × Nat) := []
  deriving DecidableEq, Repr

/-! ## Balance engine -/

/-! ## Billing engine and panel -/

/-- R198–R200: what the panel holds beside its registers: the rows shown, the label and the value that they show, the position in the list, the TB1 instants
(ns) of the next change of item and of the entry's end, the scroll's pause, the scans seen alike, the entry's digits,
the instants of the refused entries in a row, and the lock's end (RTC s), held in VBAT SRAM. `due` is a finished entry, digits and meter, that waits for its queue;
`showLocked` that "LOCKED" follows the result on show. -/
structure PanelState where
  rows : List Bytes := []
  shown : Bytes × Bytes := ([], [])
  pos : Nat := 0
  nextAt : Nat := 0
  alt : Bool := false
  paused : Bool := false
  scanKey : Option Nat := none
  scanCnt : Nat := 0
  meter : Nat := 0
  typed : List Nat := []
  entryUntil : Nat := 0
  waiting : Bool := false
  refusedAt : List Nat := []
  lockUntil : Option Nat := none
  due : Option (Bytes × Nat) := none
  showLocked : Bool := false
  deriving DecidableEq, Repr

/-! ## Canister -/

/-- R388–R391, R404: a key slot: its two shares, its attributes, its generation, the requester that loaded it, its
IV counter and the IVs taken under this load. An empty slot holds no share. -/
structure KeySlot where
  share : Bytes := []
  mask : Bytes := []
  dest : Nat := 0
  usage : Nat := 0
  export_ : Bool := false
  gen : Nat := 0
  owner : Nat := 0
  ctr : Nat := 0
  taken : Nat := 0
  deriving DecidableEq, Repr

/-! ## Root of trust -/

/-- R390: a KEY command as its registers named it when GO was written. -/
structure KeyCmd where
  req : Req
  op : Nat
  target : Nat
  source : Nat
  kind : Nat
  len : Nat
  attr : Nat
  label : Bytes := []
  data : Bytes := []
  deriving DecidableEq, Repr

/-- R390, R509: a KEY command that has not ended: whether it has run, its status, and what its target slot held before (R412). -/
structure KeyJob where
  cmd : KeyCmd
  ran : Bool := false
  status : Nat := 0
  undo : Option KeySlot := none
  deriving DecidableEq, Repr

/-- R378, R381, R414, R448–R451: the one-time-programmable store: the fuses LC1 to LC3, DEBUG_KILL and ENROLLED; the check value of the root; the digest of
the vendor boot key, the debug keys, the owner key and the release key (empty where not written); the PCIe identifiers where written (vendor, subsystem vendor, subsystem; R295); the anti-rollback
count of each part; the identity of the chip and its date word, once read. -/
structure Otp where
  lc1 : Bool := false
  lc2 : Bool := false
  lc3 : Bool := false
  kill : Bool := false
  enrolled : Bool := false
  check : Bytes := []
  vendorDigest : Bytes := []
  vendorDebug : Bytes := []
  ownerKey : Bytes := []
  ownerDebug : Bytes := []
  releaseKey : Bytes := []
  pcieIds : Option (BitVec 16 × BitVec 16 × BitVec 16) := none
  secver : List (Nat × Nat) := []
  ident : Option (Nat × Nat) := none
  deriving DecidableEq, Repr

/-- R378–R416, R448–R457: what the root of trust holds beside its registers: the OTP; what the boot ROM wrote into the PUF SRAM (none while it holds its power-up content); the root, the trunks, the seal trunk of the measurement before an unconfirmed
image (R474), and the measurements M_T, M_K and M_A (empty where there is none); the KEY commands that have not ended; the TB1 instants
of the TRNG's failures; the mesh word, the checks that failed in a row and the SLOW cycle of the last one; whether a source has asserted since TAMPER_LATCH cleared; when the LCS challenge was
issued; Trivet's X448 key for transports; the blobs on the SETTINGS volume (0 KEK_A, 1 KEK_B, 2 the Kettle service key), those kept for a fall-back, and
whether the identity certificate is there; when the rewrap sweep passed its last record; when the masks were last
replaced. -/
structure SecState where
  otp : Otp := {}
  pufSram : Option Bytes := none
  root : Bytes := []
  tId : Bytes := []
  tSeal : Bytes := []
  prevSeal : Bytes := []
  mT : Bytes := []
  mK : Bytes := []
  mA : Bytes := []
  jobs : List KeyJob := []
  trngFails : List Nat := []
  meshWord : Nat := 0
  meshBad : Nat := 0
  meshAt : Nat := 0
  tamped : Bool := false
  chalAt : Option Nat := none
  transport : Bytes := []
  blobs : List (Nat × Bytes) := []
  kept : Option (List (Nat × Bytes)) := none
  cert : Bool := false
  rewrapAt : Nat := 0
  remaskAt : Nat := 0
  deriving DecidableEq, Repr

/-! ## Updates -/

/-- R464, R467: an installed image of a part: its manifest and its measurement (R381). -/
structure FwCopy where
  manifest : Bytes := []
  meas : Bytes := []
  deriving DecidableEq, Repr

/-- R468–R473: a part: its boot or current copy (0 FW_A, 1 FW_B), whether it is UNCONFIRMED, whether the other copy holds an installed image, the end of its
confirmation window in seconds of operating time, whether CONFIRM_DUE was sent, and the start-ups with SW_RESET or CLOCK_FAIL in the window. -/
structure FwPart where
  copy : Nat := 0
  unconf : Bool := false
  prev : Bool := false
  windowEnd : Nat := 0
  due : Bool := false
  starts : Nat := 0
  deriving DecidableEq, Repr

/-- R465, R467: a piece that waits for its page to be written: index, tag, bytes and when it came (TB1, ns). -/
structure StagedPiece where
  index : Nat
  tag : Nat
  data : Bytes
  since : Nat
  deriving DecidableEq, Repr

/-- R469, R470: an activation or fall-back under way: its part, when it started (TB1, ns), the mode it left, and whether it is a fall-back. -/
structure Activation where
  part : Nat
  since : Nat
  back : Nat
  fallback : Bool := false
  deriving DecidableEq, Repr

/-- R462–R476: the update block. What UPD_MAP holds: the session's state (R466), its manifest and the pieces recorded, the parts and the installed images, the latter
by part × 2 + copy. Beside it: the pieces that wait for their page, the activation under way, and the logical blocks of SETTINGS as they stood at an
activation (R474), and M_A of the partner, once received (R476). -/
structure UpdState where
  state : Nat := 0
  manifest : Bytes := []
  bitmap : List (Nat × Bool) := []
  waiting : List StagedPiece := []
  parts : List (Nat × FwPart) := []
  images : List (Nat × FwCopy) := []
  act : Option Activation := none
  kept : Option (List (Nat × List Bytes)) := none
  partnerMA : Bytes := []
  deriving DecidableEq, Repr
/-! ## Event recorder -/

/-- R481–R491: what the event recorder holds beside its registers. On the media: the NOR's record slots, by slot number (address / 128); the EVFB pages, by page;
the newest entry of the counters area, OPTIME and PWR_CYCLES; the next RSEQ and the clear mark. In VBAT SRAM: the records staged, oldest first, each with its slot, without RSEQ and CRC. `optBase` is OPTIME at the last main power-up, `power` PWR_CYCLES. `fbPerm`, `fbRing`: the pages written in the two parts of
EVFB. `lostBefore`: records were dropped before the next one. `used1`, `used2`: the tokens missing from the two buckets, in 1/(60 × 10^9) of a token, as of
`usedAt` (TB1, ns). `coalesced`: for a class and code, the count and OPTIME of the latest item that found no token. `erases`: sectors that wait for their erase;
`clears`: cleared sectors that wait for theirs. `savedAt`: OPTIME of the latest counter entry. `alarm`: the failure record that Kettle repeats and when it is due
(TB1, ns). -/
structure EvrState where
  nor : List (Nat × Bytes) := []
  evfb : List (Nat × Bytes) := []
  saved : Nat × Nat := (0, 0)
  rseq : Nat := 0
  mark : Nat := 0
  staged : List (Nat × Bytes) := []
  optBase : Nat := 0
  power : Nat := 0
  fbPerm : Nat := 0
  fbRing : Nat := 0
  lostBefore : Bool := false
  used1 : Nat := 0
  used2 : Nat := 0
  usedAt : Nat := 0
  coalesced : List (Nat × Nat × Nat) := []
  erases : List Nat := []
  clears : List Nat := []
  savedAt : Nat := 0
  alarm : Option (Bytes × Nat) := none
  deriving DecidableEq, Repr
/-! ## Uplinks -/

/-- R86, R288: a tracked batch: its source entry, its kind (0 batch stream, 1 wrapper, 2 PCIe), its BSEQ, the host's acknowledgement
buffer and tag (PCIe), its arrival (TB1, ns), the invocation counter and outcome of each meter frame in it, the
acknowledgement item of a wrapper frame, and the acknowledgement items taken for it whose credits it holds (R19). -/
structure Batch where
  conc : Nat := 0
  kind : Nat := 0
  bseq : Nat := 0
  buf : Nat := 0
  tag : Nat := 0
  arrived : Nat := 0
  frames : List (Nat × Option FrameOutcome) := []
  ack : Option Ack := none
  acks : Nat := 0
  deriving DecidableEq, Repr

/-- R290: a PRP source node: HIGH, the bitmap of HIGH − 255 to HIGH with bit 0 for HIGH, and when it was last heard (TB1, ns). -/
structure PrpNode where
  high : Nat
  seen : Nat
  heardAt : Nat
  deriving DecidableEq, Repr

/-- R283: a learned address of the switch: its port (0 PA, 1 P2, 2 P3, 3 CPU) and when it was last heard (TB1, ns). -/
structure MacEntry where
  port : Nat
  heardAt : Nat
  deriving DecidableEq, Repr

/-- R283: a frame that waits for its port: the port, the egress queue and the frame. -/
structure EthWait where
  port : Nat
  queue : Nat
  frame : Bytes
  deriving DecidableEq, Repr

/-- R295: a vector of the MSI-X table: its address, its data and its mask bit. -/
structure MsixVec where
  addr : Nat := 0
  data : Nat := 0
  masked : Bool := true
  deriving DecidableEq, Repr

/-- R282–R304: what the uplinks hold beside their registers: the batches tracked, by number; the learned addresses; the PRP
nodes; when each LAN last carried a frame, when the next supervision frame is due (TB1, ns) and its sequence number; the TB1 second and the
count of the broadcasts passed in it (R284); the counter of the last WAKE accepted (R293, in VBAT SRAM); the
completions that wait for the ring, and its phase (R297). `egress` are the frames that wait for a port (R283), `freeAt` when a port's last frame has passed (TB1, ns), `msixOn` whether
the host has enabled MSI-X, `msix` the table, `pba` the pending bits, `vecHigh` the pages whose interrupt output was high at the last look (R295, R299). -/
structure UplinkState where
  batches : List (Nat × Option Batch) := []
  batchNext : Nat := 1
  macs : List (Nat × Option MacEntry) := []
  nodes : List (Nat × Option PrpNode) := []
  lanAt : Nat := 0
  lanBt : Nat := 0
  supAt : Nat := 0
  supSeq : Nat := 0
  bcSec : Nat := 0
  bcCnt : Nat := 0
  wakeCtr : Nat := 0
  completions : List (Nat × Nat × Nat × Bytes) := []
  phase : Nat := 1
  egress : List EthWait := []
  freeAt : List (Nat × Nat) := []
  msixOn : Bool := false
  msix : List (Nat × MsixVec) := []
  pba : List Nat := []
  vecHigh : List Nat := []
  deriving DecidableEq, Repr
/-! ## Flash media -/

/-- R360: the states of a die, in the order of `DIE_INFO.STATE`. -/
inductive DieMode where
  | inService | evacuating | out | failed
  deriving DecidableEq, Repr

/-- R336: a feature of a die: its address, the value written since the die's RESET, and the value read back. -/
structure DieFeature where
  addr : Nat
  value : Nat
  back : Nat
  deriving DecidableEq, Repr

/-- R335, R336, R360: a die's state, the TB1 instant (ns) since when its operations have timed out, the pSLC feature, and P1 of the feature at address 0x01, which selects its data
interface. -/
structure Die where
  mode : DieMode := .inService
  timeouts : Option Nat := none
  feature : Option DieFeature := none
  iface : Nat := 0
  deriving DecidableEq, Repr

/-- What a physical block is used for. `stale` waits for its erase. -/
inductive BlkUse where
  | free | spare | header | data | log | arch | stale | retired
  deriving DecidableEq, Repr

/-- R342, R356, R357: a physical block: its use, the volume, mirror copy and logical block it holds or last held, its erase count,
whether it is queued for relocation, whether it has had an uncorrectable read, and when the patrol last read a page of it
(TB1, ns) and which page is next. -/
structure Blk where
  use : BlkUse := .free
  vol : Nat := 0
  copy : Nat := 0
  lblk : Nat := 0
  erases : Nat := 0
  relocate : Bool := false
  uncorr : Bool := false
  patrolAt : Nat := 0
  patrolPage : Nat := 0
  deriving DecidableEq, Repr

/-- R338: a programmed page: its tag fields and its data as stored. -/
structure NPage where
  vol : Nat := 0
  flags : Nat := 0
  page : Nat := 0
  lblk : Nat := 0
  wseq : Nat := 0
  first : Nat := 0xFFFF
  gseq : Nat := 0
  data : Bytes := []
  deriving DecidableEq, Repr

/-- R346: a log block: the logical block it serves, its physical block, the pages it holds in the order of their writes, and the
WSEQ of the last. -/
structure LogBlk where
  vol : Nat
  copy : Nat
  lblk : Nat
  pblk : Nat
  pages : List Nat := []
  last : Nat := 0
  deriving DecidableEq, Repr

/-- R348, R352: an ARCHIVE stripe: its number, its physical blocks in the order of the stream, the pages written, and the lowest and
highest order number in it. -/
structure Stripe where
  idx : Nat
  blocks : List Nat := []
  used : Nat := 0
  low : Option Nat := none
  high : Option Nat := none
  deriving DecidableEq, Repr

/-- R343: the medium header: its generation, the key slot's generation, the die serials, MEDIUM_ID, the logical blocks of each volume, and the boot map of R344: volume, copy,
logical block and physical block. -/
structure MediumHeader where
  gen : Nat := 0
  keyGen : Nat := 0
  serials : List Bytes := []
  mediumId : Bytes := []
  sizes : List Nat := []
  bootMap : List (Nat × Nat × Nat × Nat) := []
  deriving DecidableEq, Repr

/-- What an operation on a die is for: a group's page (with its group), a page of a command's new block, a page read for a command to a
DRAM address (`other`: from the other mirror copy, after the first failed), a patrol read, an erase for reuse, an erase for a command. -/
inductive OpBody where
  | progGroup (seq : Nat) (page : NPage)
  | progJob (job : Nat) (page : NPage)
  | readJob (job : Nat) (addr : Nat) (other : Bool)
  | readPatrol
  | erase
  | eraseJob (job : Nat)
  deriving DecidableEq, Repr

/-- R337: an operation on a die: its number, its target, a physical page or the first page of a block, its class (1 to 5), whether it
has its credit of the program queue, whether it runs and since when (TB1, ns). -/
structure NandOp where
  id : Nat
  die : Nat
  target : Nat
  cls : Nat
  body : OpBody
  queued : Bool := false
  running : Bool := false
  since : Nat := 0
  deriving DecidableEq, Repr

/-- R361: a command under way: its item, the operations left, the pages done, the status found so far, the blocks not erased, and for a write the new
physical blocks of its logical blocks: copy, logical block, new block. -/
structure FtlJob where
  id : Nat
  item : Bytes
  left : Nat := 0
  done : Nat := 0
  status : Nat := 0
  kept : Nat := 0
  fresh : List (Nat × Nat × Nat) := []
  deriving DecidableEq, Repr

/-- R334–R363: what the FTL and the NAND interface hold beside their registers. `found` are the dies that answer; `header` the
newest medium header; `pages` the programmed pages by physical page number, `map` the physical block plus 1 of each logical block copy;
`journal` the map changes not yet flushed, `journalAt` when the first was made; `flushes` the flushes so far;
`lastOrder` the highest order number of the last complete group on the medium; `gaps` the GAP entries of the next group;
`spareSet` the two bits that software has written SPARE_LOW and SPARE_RESUME since reset; `wlAt` when wear levelling last moved a block;
`rateBytes`, `rateSec` the entry bytes of the TB1 second that runs; `snapsOut` the billing snapshots that stand in SNAP. -/
structure FtlState where
  found : List DieParam := []
  header : Option MediumHeader := none
  dies : List (Nat × Die) := []
  blks : List (Nat × Blk) := []
  pages : List (Nat × Option NPage) := []
  map : List (Nat × Nat) := []
  logs : List LogBlk := []
  stripes : List Stripe := []
  stripeNext : Nat := 0
  ops : List NandOp := []
  opNext : Nat := 0
  jobs : List FtlJob := []
  jobNext : Nat := 0
  journal : Nat := 0
  journalAt : Nat := 0
  flushes : Nat := 0
  lastOrder : Nat := 0
  gaps : List (Nat × Nat) := []
  spareSet : Nat := 0
  mounted1 : Bool := false
  wlAt : Nat := 0
  rateBytes : Nat := 0
  rateSec : Nat := 0
  snapsOut : Nat := 0
  deriving DecidableEq, Repr

/-! ## Time bases -/

/-- R204–R228, R241: what the time bases hold beside TB0, TB1, TB3 and their registers. `leapAt` is the TB0 instant (ns) from which the
UTC view stands still; `adjRem` what FREQ_ADJ leaves below 2^−16 ns, `slew` the rate of TB3 against TB1 in ppb and `slewRem` what it
leaves, `slewAt` when the rate was set last (TB1, ns). `slow` counts SLOW cycles, `slowRem` holds the part of one in 10^−9; `rtcSub`
the cycles in the RTC second; `trimAt` the cycles since the last trim; `rtcLeap` a leap that TB0 has made and the RTC has not. `syncAt`,
`ppsAt`, `lockedAt`: the last Sync, the last accepted PPS_IN edge, and when TB0_STATE became LOCKED (TB1, ns). `ppsDue` says that NS has just
passed 0 (R215); `measured` that a mains period has been measured (R220); `skip` counts the cycles that the RTC has still to skip (R224); `adj` is FREQ_ADJ as the AON
low-rate counter applies it while TIME is stopped, `p3At` and `ppsTb0` what that counter showed at the latest PTP event message on P3 and at the latest PPS_IN edge in
LISTEN, for Kettle (R214, R216). `tb4At` the last zero crossing of TB4, `zcLast` the last valid edge, `zcCand` the last candidate while TB4
is synthetic (TB1, ns), `zcIvls` the last valid intervals. `batAt`: the last measurement of VBAT. -/
structure TimeState where
  leapAt : Option Nat := none
  adjRem : Int := 0
  slew : Int := 0
  slewRem : Int := 0
  slewAt : Nat := 0
  slow : Nat := 0
  slowRem : Nat := 0
  rtcSub : Nat := 0
  trimAt : Nat := 0
  rtcLeap : Option (Nat × Nat) := none
  syncAt : Option Nat := none
  ppsAt : Option Nat := none
  lockedAt : Nat := 0
  ppsDue : Bool := false
  measured : Bool := false
  skip : Nat := 0
  adj : Int := 0
  p3At : Option Nat := none
  ppsTb0 : Option Nat := none
  tb4At : Nat := 0
  zcLast : Nat := 0
  zcCand : Option Nat := none
  zcIvls : List Nat := []
  batAt : Nat := 0
  deriving DecidableEq, Repr

/-! ## Power -/

/-- R440–R443: a slow input: when its level became active (SLOW cycles), the window in which edges are counted and their number, and
when the mask of INPUT_CHATTER ends. -/
structure SlowInput where
  since : Nat := 0
  window : Nat := 0
  edges : Nat := 0
  chatterUntil : Nat := 0
  deriving DecidableEq, Repr

/-- R423–R443: what the power controller holds beside its registers: the mode that a wake or MODE_REQ named for the start-up; the cause of the start-up, a bit
number of `SYS.RESET_CAUSE`; the mode that a stop sequence leads to (R426); when the last-gasp sequence ended (TB1, ns) and whether it wrote the open group; whether main
power is present; and the slow inputs. -/
structure PowerState where
  target : Option Nat := none
  cause : Nat := 0
  stop : Option Nat := none
  lgEnd : Option Nat := none
  lgWritten : Bool := false
  main : Bool := true
  inputs : List (Nat × SlowInput) := []
  deriving DecidableEq, Repr

/-! ## Field ports -/

/-- R248, R257, R272: a frame that the port is to send: its number, destination, MTYPE and body, priority, whether it asks for an ACK, its
SEQ, the attempts made, its backoff count once drawn, the TAG of its downlink item, whether it holds the queue credit of an acknowledgement item (R19), when it was queued (TB1, ns), the TB0 stamp of its last
transmission, and when a budget first held it up (TB1, ns). -/
structure PortTx where
  id : Nat := 0
  dst : Nat := 0xFFFF
  mtype : Nat := 0
  body : Bytes := []
  prio : Nat := 0
  ackReq : Bool := false
  seq : Nat := 0
  attempts : Nat := 0
  backoff : Option Nat := none
  tag : Option Nat := none
  ackItem : Bool := false
  since : Nat := 0
  stamp : Nat := 0
  deferAt : Option Nat := none
  deriving DecidableEq, Repr

/-- R239, R247, R269: an ACK that the port owes: to which address, for which SEQ, from when (TB1, ns), and its time correction (µs, 12 bits). -/
structure OwedAck where
  dst : Nat
  seq : Nat
  due : Nat
  corr : Nat := 0
  deriving DecidableEq, Repr

/-- R233–R281: what a field port holds beside its registers. `out` are the frames to send, oldest first; `wait` the one whose ACK is
awaited, with the deadline (TB1, ns); `ack` the ACK it owes; `freeAt` when the medium became free; `contend` the frame that counts its backoff
down, and from when; `bsn` the beacon sequence; `cw` the failures since a success; `txStart` and `txEnd` when the last transmission began and ends (TB1, ns); `next` the
next beacon instant, its own or the predicted one (TB3, ns), for the states of R253 `period` the beacon period in ns, `missed` the count and `lostAt` when it was lost (TB3, ns); `beaconAt` the beacon instant before `next`, `roleAt` when the port takes its role after a takeover (TB3, ns; R323), `sync` when the SYNCP symbol of its priority slot begins (TB1, ns; R249); `calAt`,
`calTemp` the last calibration, `calEnd` the end of the measurement in progress, `calNew` the corrections that wait for a frame boundary and `cal` those in effect (R258); `gain`
the step of the gain stage (R233); `floor` the noise floor of each carrier by cycle segment, `floorAt` when it was measured last and `floorNew` the measurements that a frame still under way would void, newest first (TB1, ns; R259). Of a radio port: `slotLast` the last timeslot begun, `cellEnd` the timeslot at which the cell in progress ends, `cell`, of
that cell, whether it is shared and its first timeslot, `chan` the channel tuned, `buckets` the 60 buckets of each budget entry, newest first, and `bucketAt` the last change of
bucket (TB1, ns), `evidence` the last EB or time correction heard from the time source (TB3, ns), `rxOpen` and `rxClose` the last receive window (TB1, ns; R269), `scanAt` when SCAN began (TB3, ns) and
`ebChan` the channel of the last EB heard (R274), `txSlot` the key slot that the frame on air has latched (R393). -/
structure PortState where
  nodes : List (Nat × Option PortNode) := []
  out : List PortTx := []
  outNext : Nat := 0
  wait : Option (PortTx × Nat) := none
  ack : Option OwedAck := none
  seqNext : Nat := 0
  freeAt : Nat := 0
  contend : Option (Nat × Nat) := none
  bsn : Nat := 0
  cw : Nat := 0
  txStart : Nat := 0
  txEnd : Nat := 0
  next : Nat := 0
  period : Nat := 0
  missed : Nat := 0
  lostAt : Nat := 0
  beaconAt : Nat := 0
  roleAt : Nat := 0
  sync : Option Nat := none
  calAt : Nat := 0
  calTemp : Option Int := none
  calEnd : Option Nat := none
  calNew : Option Nat := none
  cal : Nat := 0
  gain : Nat := 0
  floor : List (Nat × Bytes) := []
  floorAt : Nat := 0
  floorNew : List (Nat × Nat × Bytes) := []
  slotLast : Option Nat := none
  cellEnd : Nat := 0
  cell : Option (Nat × Nat) := none
  chan : Option Nat := none
  buckets : List (List Nat) := []
  bucketAt : Nat := 0
  evidence : Nat := 0
  rxOpen : Nat := 0
  rxClose : Nat := 0
  scanAt : Nat := 0
  ebChan : Option Nat := none
  txSlot : Option Nat := none
  deriving DecidableEq, Repr

/-! ## Twin operation -/

/-- R326: the digest of an output: stream, index, digest, and when it was sent or came (TB1, ns). -/
structure Digest where
  stream : Nat
  index : Nat
  dig : Nat
  at_ : Nat
  deriving DecidableEq, Repr

/-- R309: a link frame that waits for its acknowledgement: its sequence, its bytes, the queue records in it, and when it was sent last (TB1, ns). -/
structure LinkFrame where
  seq : Nat
  body : Bytes
  count : Nat
  sentAt : Nat
  deriving DecidableEq, Repr

/-- R305–R332, R407: what twin operation holds beside its registers. `outs` is the next output index of streams 1 to 9; `mine` and `theirs` are
the digests of this twin and of its partner that have no counterpart yet. The lease: the counter of the last request, the requests out with the
time each was sent, the counter of the last grant taken, the end of the lease in this twin's view, the last grant given, and the
counter of authenticated frames. `heard` says when each path last carried something, `heardReal` when anything but a notice or keep-alive
last came (TB1, ns); `since` when the present state was entered. The link: the next sequence, the window, the last send; `noticeAt` the last FENCED
notice, `lanesDown` the Tongs lanes that failed. The sync: the point S while it runs, the units still to copy, whether the copy is complete, the records
caught up on, GCM failures of a unit, and the retry instant. `accepted` is the highest counter of a LEASE_REQ accepted (R321), `rxSeq` the number of link frames taken from the partner (R309), `missing` the order numbers of records that
this twin lost before it took them, each with whether it has been asked for again (R316, R333), `takeNext` the order number of the next record kept from the old active, while some
wait (R323), `durDue` the group whose DURABLE record waits for the order queue (R328), `snapDue` that the copy as of S waits for the orders before S (R330).
`handover` is the last order number of a handover under way, `bounds` the first output
indexes of the roles after the last one (R325); `disputes` the times of disagreements that both twins passed; `testDue` that a disagreement is to be tested. `meeting`
holds the own X448 key and nonce of a meeting, `pairedKey` that both twins hold the new key; `groupsDue` the GROUP records whose last order number this twin has not
committed. -/
structure TwinState where
  outs : List (Nat × Nat) := []
  mine : List Digest := []
  theirs : List Digest := []
  leaseCtr : Nat := 0
  asked : List (Nat × Nat) := []
  taken : Nat := 0
  leaseEnd : Nat := 0
  granted : Option Nat := none
  heard : List Nat := [0, 0, 0]
  heardReal : Nat := 0
  since : Nat := 0
  linkSeq : Nat := 0
  window : List LinkFrame := []
  sentAt : Nat := 0
  noticeAt : Nat := 0
  lanesDown : List Nat := []
  sync : Option Nat := none
  caught : List Rec := []
  badUnits : Nat := 0
  retryAt : Option Nat := none
  handover : Option Nat := none
  bounds : List Nat := []
  disputes : List Nat := []
  testDue : Bool := false
  meeting : Bytes := []
  pairedKey : Bool := false
  groupsDue : List (Nat × Nat) := []
  snap : List SyncUnit := []
  copyDone : Bool := false
  macSeq : Nat := 0
  accepted : Nat := 0
  rxSeq : Nat := 0
  missing : List (Nat × Bool) := []
  takeNext : Option Nat := none
  durDue : Option Nat := none
  snapDue : Bool := false
  deriving DecidableEq, Repr

/-! ## DMA -/

/-- R367, R372: what a channel holds beside its registers: the descriptor read, the stream bytes moved of it, the link in effect while it is PAUSED, and
whether a STOP is noted. -/
structure DmaChan where
  desc : Bytes := []
  pos : Nat := 0
  next : Nat := 0
  stop : Bool := false
  deriving DecidableEq, Repr

/-- R376: the engine: its channels, the one granted last, the beats left of its burst, and the ARB in effect since the last switch point. -/
structure DmaState where
  chans : List (Nat × DmaChan) := []
  last : Nat := 15
  burst : Nat := 0
  arb : Nat := 0
  deriving DecidableEq, Repr


end Sys2Proof.Machine
end

