-- ==== Sys2Proof/Machine/State.lean ====
section
/-! DEFINITION. The state of the block as plain data, and its value at reset. Register fields, memory, queues, lanes and every other indexed part are sparse tables in canonical form (Sparse.lean). -/

namespace Sys2Proof.Machine

/-! ## Stops -/

/-- The faults of a step. Empty: the spec answers every failed access with a bus error, an error code or a
latched flag, all of them state (R15, R26, R35, R38), so no command of this block ends in a fault. -/
inductive Fault where
  deriving DecidableEq, Repr

/-- The refusals of a step. -/
inductive Refusal where
  /-- Raised by the dispatcher alone, for a command whose meaning is not written yet. Safe: nothing is claimed
  of such a command. -/
  | notModelled (mnemonic : String)
  deriving DecidableEq, Repr

/-- The state of the block. -/
structure State where
  /-- Register fields, by `Field.key`; an unlisted field holds its reset value. -/
  regs : List (Nat × Nat) := []
  /-- Fields in effect of S-fields, by key: the set that the last hand-over took (R51). -/
  eff : List (Nat × Nat) := []
  /-- Memory bytes by system address (R23). -/
  mem : List (Nat × Byte) := []
  /-- Uncorrectable words of SECDED memory, by the address of the word's first byte (R22). -/
  bad : List (Nat × Bool) := []
  /-- Words of SECDED memory with one wrong bit, which a read corrects, by the address of the word's first byte (R22). -/
  soft : List (Nat × Bool) := []
  /-- R22: the single-bit errors corrected so far; the spec gives the count no register (log entry 69). -/
  corrected : Nat := 0
  /-- Queues by queue number (R61). -/
  queues : List (Nat × Queue) := []
  /-- Which queues are PACK queues (R57, R61), by queue number: a field of the model's own, because the spec names none (log entry 68). -/
  packs : List (Nat × Bool) := []
  /-- Transaction tags 1 to 4. -/
  txns : List (Nat × Txn) := []
  /-- The last bus answer. -/
  bus : BusAnswer := {}
  /-- R205: TB0 in units of 2^−16 ns. -/
  tb0 : Nat := 0
  /-- R205: TB1 in nanoseconds since the main power-up. -/
  tb1 : Nat := 0
  /-- R205: TB3 in units of 2^−16 ns. -/
  tb3 : Nat := 0
  /-- Frames and ordered items in flight, by order number (R68). -/
  flights : List (Nat × Option Flight) := []
  /-- Verdicts on their way from the lanes to Ladle, oldest first (R114). -/
  verdicts : List Verdict := []
  /-- Fenced lanes whose groups wait for a lane in SERVICE (R124). -/
  heldLanes : List Nat := []
  /-- The lanes, by number. -/
  lanes : List (Nat × Lane) := []
  /-- The lane map's entries that differ from lane g mod 32, by group (R115). -/
  laneMap : List (Nat × MapEntry) := []
  /-- Group moves of R431 and R432 that wait for one of the 64 places: group and target lane. -/
  moveQueue : List (Nat × Nat) := []
  /-- R432: groups return to lane g mod 32 as their lanes enter SERVICE. -/
  restoreMap : Bool := false
  /-- R431, R432: what waits for the powered lanes' self-tests: 0 nothing, 1 TENDING, 2 FULL. -/
  lanesWanted : Nat := 0
  /-- Prefetched copies of meter records that no frame carries yet, by meter (R74, R98). -/
  prefetched : List (Nat × Bytes) := []
  /-- R291: LAN A, and LAN B, has carried no frame for 3 supervision intervals. -/
  lanADown : Bool := false
  lanBDown : Bool := false
  /-- Calendar generations held, the current one first (R178). -/
  gens : List CalGen := [{}]
  /-- R1, R2: the role in force. -/
  role : Role := .field
  /-- Funnel, Cleaver, Ladle and the groups. -/
  path : PathState := {}
  /-- The table engine. -/
  dir : DirState := {}
  /-- The balance engine. -/
  bal : BalState := {}
  /-- The billing engine. -/
  bill : BillState := {}
  /-- The panel. -/
  panel : PanelState := {}
  /-- R388: the key slots. -/
  slots : List (Nat × KeySlot) := []
  /-- Frames and words that have left the chip, newest first, each with the number of its way out: 0–3 PLC, 4–7 RAD,
  8–11 P0–P3, 12 PCIe, 13 the Tongs link, 14 the panel's display, 15 PPS_OUT, 16–19 the control SPI of RAD0–RAD3, 20 RELEASE_OUT,
  24–27 the symbols on the lines of PLC0–PLC3, 28–31 the drive of those lines (R233), 32–35 the samples and RADn_TXEN of RAD0–RAD3, 36–39 RADn_RXEN (R262), 40 the MDIO line (R301), 41 the
MSI-X messages of PCIe (R299). -/
  sent : List (Nat × Bytes) := []
  /-- The root of trust. -/
  sec : SecState := {}
  /-- The update block. -/
  upd : UpdState := {}
  /-- The event recorder. -/
  evr : EvrState := {}
  /-- The uplinks. -/
  uplink : UplinkState := {}
  /-- The FTL and the NAND interface. -/
  ftl : FtlState := {}
  /-- The time bases. -/
  time : TimeState := {}
  /-- The power controller and the slow inputs. -/
  power : PowerState := {}
  /-- The field ports: 0 to 3 PLC, 4 to 7 radio. -/
  ports : List (Nat × PortState) := []
  /-- Twin operation. -/
  twin : TwinState := {}
  /-- The DMA engine. -/
  dma : DmaState := {}
  /-- The number of free values drawn so far (a field of the model, not of the spec). -/
  free : Nat := 0
  /-- The commands that wait, first in, first out. -/
  pending : List Instr := []
  deriving DecidableEq, Repr

/-- The machine right after power-on reset. -/
def State.reset : State := {}

end Sys2Proof.Machine
end

