-- ==== Sys2Proof/Machine/Ops.lean ====
section
/-! DEFINITION. The named operations that the meanings share: register fields, errors and bus accesses, memory, queues, event records, interrupts and the draw of a free value. -/

namespace Sys2Proof.Machine

/-! ## Register fields -/

/-- The value of a register field (the shadow, for an S-field: R52). -/
def State.getF (s : State) (f : Field) : Nat := sget f.reset s.regs f.key

/-- Give a register field a value; what does not fit the field's width is cut off. -/
def State.setF (s : State) (f : Field) (v : Nat) : State :=
  { s with regs := sput f.reset s.regs f.key (v % 2 ^ f.width) }

/-- The value in effect of an S-field (R51). -/
def State.getEff (s : State) (f : Field) : Nat := sget f.reset s.eff f.key

/-- Give an S-field a value in effect (R51). -/
def State.setEff (s : State) (f : Field) (v : Nat) : State :=
  { s with eff := sput f.reset s.eff f.key (v % 2 ^ f.width) }

/-- Is a one-bit field set? -/
def State.flag (s : State) (f : Field) : Bool := s.getF f != 0

/-- R37 and the counters of every page: add to a count, saturating at the field's width. -/
def State.count (s : State) (f : Field) (n : Nat := 1) : State :=
  s.setF f (satAdd (2 ^ f.width - 1) (s.getF f) n)

/-- R37: latch interrupt source `b` of page `p`. -/
def State.irq (s : State) (f : Field) : State := s.setF f 1

/-- Keep the highest of a field's value and `v`, as the peak registers do. -/
def State.peak (s : State) (f : Field) (v : Nat) : State :=
  s.setF f (max (s.getF f) v)

/-- A value spread over a low and a high register. -/
def State.get2 (s : State) (lo hi : Field) : Nat := s.getF lo + s.getF hi * 2 ^ lo.width

/-- Write a value spread over a low and a high register. -/
def State.set2 (s : State) (lo hi : Field) (v : Nat) : State :=
  (s.setF lo v).setF hi (v / 2 ^ lo.width)

/-- A byte string from an array of 32-bit registers, first byte in bits 7:0 of the first. -/
def State.getBytes (s : State) (f : Nat → Field) (n : Nat) : Bytes :=
  ((List.range ((n + 3) / 4)).flatMap (fun k => leBytes 4 (s.getF (f k)))).take n

/-- Write a byte string into an array of `words` 32-bit registers; words past the string become 0. -/
def State.setBytes (s : State) (f : Nat → Field) (words : Nat) (bs : Bytes) : State :=
  (List.range words).foldl (fun t k => t.setF (f k) (leAt bs (4 * k) 4)) s

/-! ## Free values -/

/-- Draw a free byte (a value the spec leaves open). -/
def State.drawByte (s : State) : Byte × State :=
  (Config.freeByte s.free, { s with free := s.free + 1 })

/-- Draw a free word (a value the spec leaves open). -/
def State.drawWord (s : State) : Word × State :=
  (Config.freeWord s.free, { s with free := s.free + 1 })

/-- Draw `n` free bytes. -/
def State.drawBytes (s : State) (n : Nat) : Bytes × State :=
  ((List.range n).map (fun i => Config.freeByte (s.free + i)), { s with free := s.free + n })

/-! ## Errors and bus answers -/

/-- R38: record an error on a page: the first is kept, those that follow are counted. -/
def State.err (s : State) (p code info : Nat) : State :=
  if s.getF (Reg.ERR_VALID p) = 0 then
    ((s.setF (Reg.ERR_VALID p) 1).setF (Reg.ERR_CODE p) code).setF (Reg.ERR_INFO p) info
  else s.count (Reg.ERR_CNT p)

/-- R39: the common error codes. -/
def Err.addrUnmapped : Nat := 0x0001
@[inherit_doc Err.addrUnmapped] def Err.domainOff : Nat := 0x0002
@[inherit_doc Err.addrUnmapped] def Err.privDeny : Nat := 0x0003
@[inherit_doc Err.addrUnmapped] def Err.accessSize : Nat := 0x0004
@[inherit_doc Err.addrUnmapped] def Err.valueRefused : Nat := 0x0005
@[inherit_doc Err.addrUnmapped] def Err.txnConflict : Nat := 0x0010
@[inherit_doc Err.addrUnmapped] def Err.txnNotOwner : Nat := 0x0011
@[inherit_doc Err.addrUnmapped] def Err.txnFull : Nat := 0x0012
@[inherit_doc Err.addrUnmapped] def Err.txnTimeout : Nat := 0x0013
@[inherit_doc Err.addrUnmapped] def Err.txnRollback : Nat := 0x0014
@[inherit_doc Err.addrUnmapped] def Err.txnTriggerInvalid : Nat := 0x0015
@[inherit_doc Err.addrUnmapped] def Err.txnNotOpen : Nat := 0x0016
@[inherit_doc Err.addrUnmapped] def Err.queueCreditFault : Nat := 0x0020
@[inherit_doc Err.addrUnmapped] def Err.qprivPtrFault : Nat := 0x0021
@[inherit_doc Err.addrUnmapped] def Err.poison : Nat := 0x0022
@[inherit_doc Err.addrUnmapped] def Err.flushedPartial : Nat := 0x0023

/-- R38: the `ERR_INFO` layout of a code that concerns an access. -/
def accessInfo (page : Nat) (req : Req) (off : Nat) : Nat :=
  page % 256 * 2 ^ 24 + req.code * 2 ^ 21 + off % 4096

/-- A truth value as a bit. -/
def bit1 (b : Bool) : Nat := if b then 1 else 0

/-- A bit of a mask, where a condition holds. -/
def bitIf (c : Bool) (b : Nat) : Nat := if c then 2 ^ b else 0

/-- A mask of the numbers below `n` that satisfy a test. -/
def maskWhere (n : Nat) (p : Nat → Bool) : Nat := ((List.range n).map (fun i => if p i then 2 ^ i else 0)).sum

/-- An access ends well, with read data. -/
def State.answer (s : State) (d : Nat) : State := { s with bus := { err := false, data := d } }

/-- R26: an access ends with a bus error; a read returns 0. -/
def State.busError (s : State) (code info : Nat) : State :=
  { s.err 0 code info with bus := { err := true, data := 0 } }

/-! ## Clock domains and access checks -/

/-- R12: does a clock domain run? -/
def State.domOn (s : State) (d : Domain) : Bool := bitAt (s.getF Reg.CLK_STAT_DOM_RUN) d.idx == 1

/-- R445: start or stop a clock domain. -/
def State.setDom (s : State) (d : Domain) (on : Bool) : State :=
  s.setF Reg.CLK_STAT_DOM_RUN (withBits (s.getF Reg.CLK_STAT_DOM_RUN) d.idx d.idx (if on then 1 else 0))

/-- R453: outside the LCS page, DEBUG is admitted only while debug access is open. -/
def State.debugAdmits (s : State) (req : Req) (p : Nat) : Bool :=
  req != .debug || s.flag Reg.LCS_STAT_DBG_OPEN || (p == 0x07 && s.getF Reg.LCS_STAT_DBG_STATE != 2)

/-- R33, R35, R453: does the page's mask admit the requester? -/
def State.admits (s : State) (req : Req) (p : Nat) (write : Bool) : Bool :=
  bitAt (s.getF (if write then Reg.BLK_PRIV_WR p else Reg.BLK_PRIV_RD p)) req.code == 1 && s.debugAdmits req p

/-- R365: may a requester write the registers of the DMA channel that an offset of page 0x20 belongs to? -/
def State.chanAdmits (s : State) (req : Req) (page off : Nat) : Bool :=
  page != 0x20 || decide (off < 0x100) || decide (0x500 ≤ off) || req == .trusted || s.getF (Reg.DMA_CH_CFG_REQ ((off - 0x100) / 0x40)) == req.code

/-- R15, R26, R30, R35, R365: the refusal of an access to a page register, as the code and detail that
`SYS.ERR_CODE` records, or none where the access is taken. DESIGN CHOICE (log entry 67): the spec gives no order of these checks; where an access
fails several, the model records DOMAIN_OFF before ACCESS_SIZE before PRIV_DENY. -/
def State.refusal (s : State) (req : Req) (page off : Nat) (size : AccessSize) (write : Bool) :
    Option (Nat × Nat) :=
  if !pageExists page then some (Err.addrUnmapped, 0x40000000 + page * 4096 + off)
  else if !s.domOn (pageDomain page) then some (Err.domainOff, accessInfo page req off)
  else if size ≠ .b4 ∨ off % 4 ≠ 0 then some (Err.accessSize, accessInfo page req off)
  else if !s.admits req page write then some (Err.privDeny, accessInfo page req off)
  else if write ∧ !s.chanAdmits req page off then some (Err.privDeny, accessInfo page req off)
  else none

/-- A write of a page register by a requester: the refusals first, then the effect (R14, R15, R26, R35). -/
def State.onWrite (s : State) (req : Req) (page off : Nat) (k : State → State) : State :=
  match s.refusal req page off .b4 true with
  | some (c, i) => s.busError c i
  | none => k (s.answer 0)

/-- A write that acts on a field: as `onWrite`, and a field reserved to TRUSTED is refused to others (R35). -/
def State.onField (s : State) (req : Req) (f : Field) (k : State → State) : State :=
  match s.refusal req f.page f.off .b4 true with
  | some (c, i) => s.busError c i
  | none =>
    if f.trusted ∧ req ≠ .trusted then s.busError Err.privDeny (accessInfo f.page req f.off)
    else k (s.answer 0)

/-- A read of a page register by a requester: the refusals first, then the effect. -/
def State.onRead (s : State) (req : Req) (page off : Nat) (k : State → State) (size : AccessSize := .b4) : State :=
  match s.refusal req page off size false with
  | some (c, i) => s.busError c i
  | none => k (s.answer 0)

/-- R39: a refused value or a refused action is recorded on its own page, and nothing changes. -/
def State.refuse (s : State) (p code : Nat) : State := s.err p code 0

/-- R38, R39: a write of a field is refused: its page records the code, with the page, requester and offset of the access. -/
def State.refuseAt (s : State) (req : Req) (f : Field) (code : Nat) : State := s.err f.page code (accessInfo f.page req f.off)

/-! ## Memory -/

/-- R23: DRAM fitted, in GiB, 4 to 16; a board option, so an implementation constant. -/
def dramGiB : Nat := 4 + Config.dramExtra.val

/-- R23: the last DRAM address with 4 GiB and the given number of GiB more: inline ECC keeps the top 1/32. By recursion, so that an address
compared with a DRAM of open size reduces to a case on that size. -/
def dramEnd : Nat → Nat
  | 0 => 0x0800000000 + 4 * 2 ^ 30 * 31 / 32 - 1
  | e + 1 => dramEnd e + 2 ^ 30 * 31 / 32

/-- R23: the last DRAM address. Inline ECC keeps the top 1/32. -/
def dramTop : Nat := dramEnd Config.dramExtra.val

/-- R23: is an address mapped to memory (not to a register page)? -/
def memMapped (a : Nat) : Bool :=
  decide (a ≤ 0x3FFF) || (decide (0x01000000 ≤ a) && decide (a ≤ 0x0100FFFF)) ||
  (decide (0x02000000 ≤ a) && decide (a ≤ 0x02003FFF)) || (decide (0x10000000 ≤ a) && decide (a ≤ 0x107FFFFF)) ||
  (decide (0x20000000 ≤ a) && decide (a ≤ 0x203FFFFF)) ||
  (decide (0x0800000000 ≤ a) && decide (a ≤ 0x0843FFFFFF)) || (decide (0x0844000000 ≤ a) && decide (a ≤ 0x08441FFFFF)) ||
  (decide (0x0848000000 ≤ a) && decide (a ≤ 0x0849FFFFFF)) || (decide (0x0850000000 ≤ a) && decide (a ≤ 0x085A3FFFFF)) ||
  (decide (0x0860000000 ≤ a) && decide (a ≤ dramTop)) || (decide (0x1000000000 ≤ a) && decide (a ≤ 0x1FFFFFFFFF))

/-- R296: where the model keeps a byte of the host's memory, by its host bus address: above the chip's own addresses (log entry 115). -/
def hostCell (a : Nat) : Nat := 2 ^ 64 + a % 2 ^ 64

/-- What a byte of memory that nothing has written reads as (DESIGN CHOICE, log entry 4). -/
def memDefault : Byte := 0

/-- One byte of memory. -/
def State.byte (s : State) (a : Nat) : Byte := sget memDefault s.mem a

/-- Write one byte of memory. -/
def State.setByte (s : State) (a : Nat) (b : Byte) : State := { s with mem := sput memDefault s.mem a b }

/-- `n` bytes of memory from `a`. -/
def State.read (s : State) (a n : Nat) : Bytes := (List.range n).map (fun i => s.byte (a + i))

/-- Write bytes one after another. -/
def putBytes (m : List (Nat × Byte)) : Nat → Bytes → List (Nat × Byte)
  | _, [] => m
  | a, b :: r => putBytes (sput memDefault m a b) (a + 1) r

/-- A little-endian value in memory (R6). -/
def State.readNat (s : State) (a n : Nat) : Nat := leNat (s.read a n)

/-- R22: the bytes of a protected word: 4 in the Kettle SRAM, the VBAT SRAM, the security core's SRAM and the lanes' memories, 8 elsewhere. -/
def wordSize (a : Nat) : Nat :=
  if (0x01000000 ≤ a ∧ a ≤ 0x0100FFFF) ∨ (0x02000000 ≤ a ∧ a ≤ 0x02003FFF) ∨ (0x08000000 ≤ a ∧ a ≤ 0x0803FFFF) ∨ (0x20000000 ≤ a ∧ a ≤ 0x203FFFFF) then 4 else 8

/-- R22: the protected words that a range of `n` bytes from `a` touches, by the address of their first byte. -/
def wordsOf (a n : Nat) : List Nat :=
  let k := wordSize a
  (List.range ((a + n + k - 1) / k - a / k)).map (fun i => (a / k + i) * k)

/-- R22: does a range cover a protected word whole? -/
def covers (a n w : Nat) : Bool := decide (a ≤ w) && decide (w + wordSize a ≤ a + n)

/-- R22: is a protected word of the range uncorrectable? -/
def State.anyBad (s : State) (a n : Nat) : Bool := (wordsOf a n).any (fun w => sget false s.bad w)

/-- R22: a byte lands unless its word is uncorrectable and the write of `n` bytes from `a` covers it in part: such a word is left unchanged. -/
def lands (bad : List (Nat × Bool)) (a n c : Nat) : Bool :=
  let w := c / wordSize a * wordSize a
  !sget false bad w || covers a n w

/-- Write, of bytes one after another, those that land. -/
def putLanding (f : Nat → Bool) (m : List (Nat × Byte)) : Nat → Bytes → List (Nat × Byte)
  | _, [] => m
  | a, b :: r => putLanding f (if f a then sput memDefault m a b else m) (a + 1) r

/-- R22: the error marks of words once a write has covered some of them whole, which clears their errors. -/
def clearCovered (l : List (Nat × Bool)) (a n : Nat) : List (Nat × Bool) :=
  if l.isEmpty then l else ((wordsOf a n).filter (covers a n)).foldl (fun l w => sput false l w false) l

/-- R22: the single-bit errors, and the count of those corrected, once the words of a range that satisfy a test have been read. -/
def correctSoft (soft : List (Nat × Bool)) (n : Nat) (ws : List Nat) : List (Nat × Bool) × Nat :=
  if soft.isEmpty then (soft, n)
  else ws.foldl (fun p w => if sget false p.1 w then (sput false p.1 w false, p.2 + 1) else p) (soft, n)

/-- R22: the words that a write covers in part: it reads them before it writes them. -/
def partWords (a n : Nat) : List Nat := (wordsOf a n).filter (fun w => !covers a n w)

/-- Write a byte string at `a`. R22: a protected word covered whole gets new check bits; one covered in part is read, so that a single-bit error in it is
corrected and counted, and left unchanged where it is uncorrectable. -/
def State.write (s : State) (a : Nat) (bs : Bytes) : State :=
  { s with
    mem := if s.bad.isEmpty then putBytes s.mem a bs else putLanding (lands s.bad a bs.length) s.mem a bs
    bad := clearCovered s.bad a bs.length
    soft := (correctSoft (clearCovered s.soft a bs.length) s.corrected (partWords a bs.length)).1
    corrected := (correctSoft (clearCovered s.soft a bs.length) s.corrected (partWords a bs.length)).2 }

/-- Write a little-endian value to memory (R6). -/
def State.writeNat (s : State) (a n v : Nat) : State := s.write a (leBytes n v)

/-- R22: single-bit errors in the words that a read of `n` bytes meets are corrected and counted. -/
def State.eccCorrect (s : State) (a n : Nat) : State :=
  { s with
    soft := (correctSoft s.soft s.corrected (wordsOf a n)).1
    corrected := (correctSoft s.soft s.corrected (wordsOf a n)).2 }

/-! ## Queues -/

/-- A queue as it stands after reset: empty, every credit with its producer. -/
def Queue.init (q : Nat) : Queue := { credits := qDepth q }

/-- The queue of a number. -/
def State.queue (s : State) (q : Nat) : Queue := sget (Queue.init q) s.queues q

/-- R58: the field of a queue end, at offset `o` from its first register. -/
def Reg.qend (p q o lo width reset : Nat) (acc : Acc) : Field :=
  { page := p, off := 0x080 + q * 0x10 + o, lo := lo, width := width, reset := reset, acc := acc, own := true,
    vmax := 2 ^ width - 1 }

/-- R58: `HI_MARK` of queue `q`. -/
def Reg.HI_MARK (q : Nat) : Field := Reg.qend (qPage q) (q % 8) 0x0 0 16 (qDepth q * 3 / 4) .rw
/-- R58: `LO_MARK` of queue `q`. -/
def Reg.LO_MARK (q : Nat) : Field := Reg.qend (qPage q) (q % 8) 0x0 16 16 (qDepth q / 4) .rw
/-- R58: `XCNT` of queue `q`. -/
def Reg.XCNT (q : Nat) : Field := { Reg.qend (qPage q) (q % 8) 0xC 8 8 0 .rc with own := false }
/-- R58: `FLUSHED_PARTIAL` of queue `q`. -/
def Reg.FLUSHED_PARTIAL (q : Nat) : Field := { Reg.qend (qPage q) (q % 8) 0xC 2 1 0 .w1c with own := false }
/-- R58: `DISCARD` of queue `q`. -/
def Reg.DISCARD (q : Nat) : Field := Reg.qend (qPage q) (q % 8) 0xC 1 1 0 .ro
/-- R58: `FLUSH` of queue `q`. -/
def Reg.FLUSH (q : Nat) : Field := Reg.qend (qPage q) (q % 8) 0xC 0 1 0 .w1s

/-- A register that shows one entry of a table through a select register: entry `idx` of window `w` has a
field of its own. -/
def Field.win (f : Field) (w idx : Nat) : Field := { f with page := 0x10000 + w * 0x10000 + idx }

/-- R61: the poison count of queue `q`, shown through `QMON_POISON`. -/
def Reg.qPoison (q : Nat) : Field := Reg.QMON_QMON_POISON_CNT.win 0 q
/-- R61: the lost count of queue `q`, shown through `QMON_LOST`. -/
def Reg.qLost (q : Nat) : Field := Reg.QMON_QMON_LOST_CNT.win 0 q

/-- The bytes of what an item carries; an item that the spec does not lay out has none here. -/
def Payload.content : Payload → Bytes
  | .frame f => f.raw
  | .bytes b => b
  | .batch _ _ _ _ b => b
  | .commit c => c.entry
  | .event e => e.data
  | .order n => leBytes 6 n
  | _ => []

/-- R53, R57: a byte string as the words of `w` bytes that a queue delivers, the first byte in bits 7:0; unused bytes of the last word read as zero. An item has
at least one word. -/
def queueWords (w : Nat) (b : Bytes) : List QWord :=
  let n := max 1 ((b.length + w - 1) / w)
  (List.range n).map (fun i =>
    { data := leAt b (w * i) w, soi := i == 0, eoi := i + 1 == n, valid := if w = 8 ∧ i + 1 = n then b.length % 8 else 0 })

/-- R57: the bytes that the words of an item of a PACK queue stand for. -/
def unpackWords (l : List QWord) : Bytes :=
  l.flatMap (fun x => leBytes (if x.eoi ∧ x.valid ≠ 0 then x.valid else 8) x.data)

/-- R57, R61: is a queue a PACK queue? -/
def State.isPack (s : State) (q : Nat) : Bool := sget false s.packs q

/-- R53, R57: the words of an item as queue `q` delivers them: 64-bit words in a PACK queue, 32-bit words elsewhere. -/
def State.itemWords (s : State) (q : Nat) (i : Item) : List QWord := queueWords (if s.isPack q then 8 else 4) i.body.content

/-- R53: a queue is empty when its pointers are equal, and full when their address bits are equal and their top bits differ. -/
def Queue.empty (x : Queue) : Bool := x.rd == x.wr
@[inherit_doc Queue.empty] def Queue.full (x : Queue) (depth : Nat) : Bool := x.rd % depth == x.wr % depth && x.rd != x.wr

/-- R53: a queue after a change of `o`: the write pointer has passed the slots whose credits were taken, the read pointer those whose credits came back. -/
def Queue.move (o x : Queue) (depth : Nat) : Queue :=
  { x with rd := (o.rd + (x.credits - o.credits)) % (2 * depth), wr := (o.wr + (o.credits - x.credits)) % (2 * depth) }

/-- R58: the level of a queue: its items, or in a PACK queue the words of its items. -/
def State.fill (s : State) (q : Nat) : Nat :=
  let l := (s.queue q).items
  if s.isPack q then (l.map (fun i => (s.itemWords q i).length)).sum else l.length

/-- R59: the live flags HI and LO of a queue. -/
def State.level (s : State) (q : Nat) : Bool × Bool :=
  let n := s.fill q
  (decide (s.getF (Reg.HI_MARK q) ≤ n), decide (n ≤ s.getF (Reg.LO_MARK q)))

/-- R59: count the crossings between two settings of the live flags and latch HI_SEEN and LO_SEEN. -/
def State.crossings (s : State) (q : Nat) (old new : Bool × Bool) : State :=
  let s := if old.1 ≠ new.1 then s.count (Reg.XCNT q) else s
  let s := if old.2 ≠ new.2 then s.count (Reg.XCNT q) else s
  let s := if !old.1 && new.1 then s.irq (Reg.irqRaw (qPage q) (16 + 2 * (q % 8))) else s
  if !old.2 && new.2 then s.irq (Reg.irqRaw (qPage q) (17 + 2 * (q % 8))) else s

/-- A queue is stored, with the crossings that the change of its level makes (R59). -/
def State.putQueue (s : State) (q : Nat) (x : Queue) : State :=
  let t := { s with queues := sput (Queue.init q) s.queues q x }
  t.crossings q (s.level q) (t.level q)

/-- Replace a queue: its pointers move with its credits (R53), and the change of its level makes its crossings (R59). -/
def State.setQueue (s : State) (q : Nat) (x : Queue) : State := s.putQueue q ((s.queue q).move x (qDepth q))

/-- R16: may the producer of a queue place an item? -/
def State.hasCredit (s : State) (q : Nat) : Bool := decide (0 < (s.queue q).credits)

/-- R16: place an item, using one credit. -/
def State.enq (s : State) (q : Nat) (i : Item) : State :=
  let x := s.queue q
  s.setQueue q { x with items := x.items ++ [i], credits := x.credits - 1 }

/-- R55: poisoned words are counted in QMON and recorded on the consumer's page. -/
def State.poisoned (s : State) (q : Nat) (n : Nat := 1) : State :=
  ((((s.count (Reg.qPoison q) n).setF Reg.QMON_QMON_FAULT_POISON_SEEN 1).setF Reg.QMON_QMON_FAULT_Q_QNUM q).irq
    (Reg.irqRaw 0x21 2)).err (qPage q) Err.poison 0

/-- R55: `n` words that a consumer has read from a queue failed their parity check. -/
def State.badWords (s : State) (q n : Nat) : State := if n = 0 then s else s.poisoned q n

/-- R55: `n` words of the item at the front of a queue fail their parity check as they are read. -/
def State.faultFront (s : State) (q n : Nat) : State :=
  match (s.queue q).items with
  | i :: r => if n = 0 then s else s.putQueue q { s.queue q with items := { i with poison := i.poison + n } :: r }
  | [] => s

/-- Take the item at the front of a queue; its credit returns at once (R16). Poison is counted (R55). -/
def State.deq (s : State) (q : Nat) : Option (Item × State) :=
  match (s.queue q).items with
  | [] => none
  | i :: r =>
    let x := s.queue q
    let t := s.setQueue q { x with items := r, credits := x.credits + 1 }
    some (i, if i.poison != 0 then t.poisoned q i.poison else t)

/-- Take the item at the front of a queue whose credit returns at a later event (R16). -/
def State.deqHeld (s : State) (q : Nat) : Option (Item × State) :=
  match (s.queue q).items with
  | [] => none
  | i :: r =>
    let x := s.queue q
    let t := s.setQueue q { x with items := r, held := x.held + 1 }
    some (i, if i.poison != 0 then t.poisoned q i.poison else t)

/-- R16: the credit of a held slot returns. -/
def State.creditBack (s : State) (q : Nat) (n : Nat := 1) : State :=
  let x := s.queue q
  s.setQueue q { x with held := x.held - n, credits := x.credits + min n x.held }

/-- A tracked batch. -/
def State.batch (s : State) (k : Nat) : Option Batch := sget none s.uplink.batches k

/-- Replace a tracked batch, or end its tracking. -/
def State.setBatch (s : State) (k : Nat) (b : Option Batch) : State :=
  { s with uplink := { s.uplink with batches := sput none s.uplink.batches k b } }

/-- R86: record the outcome of a batch's frame. -/
def State.batchOutcome (s : State) (at_ : Option (Nat × Nat)) (o : FrameOutcome) : State :=
  match at_ with
  | none => s
  | some (k, i) =>
    match s.batch k with
    | none => s
    | some b =>
      s.setBatch k (some { b with frames := b.frames.zipIdx.map (fun e => if e.2 = i then (e.1.1, some o) else e.1) })

/-- R86: frames of a batch that are discarded before they have an order number were not taken. -/
def State.notTaken (s : State) (l : List Item) : State :=
  l.foldl (fun t i => match i.body with
    | .frame f => t.batchOutcome f.batch .notTaken
    | _ => t) s

/-- R18, R60, R86: items are discarded, counted, and their credits return. -/
def State.discardAll (s : State) (q : Nat) : State :=
  let x := s.queue q
  ((s.setQueue q { x with items := [], credits := x.credits + x.items.length }).count (Reg.qLost q) x.items.length).notTaken x.items

/-! ## Event records and time -/

/-- R485: send an event item to the recorder; where the queue has no credit the item is dropped and counted. -/
def State.event (s : State) (e : Ev) (page : Nat) (data : Bytes := []) : State :=
  if s.hasCredit 0x30 then s.enq 0x30 { body := .event { ev := e, page := page, data := slice data 0 16 } }
  else (s.count Reg.EVR_LOST_CNT_CNT).irq Reg.EVR_IRQ_LOST

/-- Nanoseconds in a second. -/
def nsPerS : Nat := 1000000000

/-- R205: TB0 in whole nanoseconds. -/
def State.ns0 (s : State) : Nat := s.tb0 / 65536

/-- R205: TB3 in whole nanoseconds. -/
def State.ns3 (s : State) : Nat := s.tb3 / 65536

/-- R208: the 32-bit stamp of TB0. -/
def State.stamp0 (s : State) : Nat := s.ns0 % 2 ^ 32

/-- R206: the offset from TB0 seconds to UTC seconds since 2000. -/
def State.utcShift (s : State) : Int := 946684800 + signedOf 16 (s.getF Reg.TIME_UTC_OFFSET_SEC)

/-- R206, R207: the UTC view of TB0 in nanoseconds since 2000; an instant before 2000 shows as 0. During an inserted leap second it
stands still. -/
def State.utcNs (s : State) : Nat :=
  match s.time.leapAt with
  | some n => ((n : Int) - s.utcShift * nsPerS).toNat - 1
  | none => ((s.ns0 : Int) - s.utcShift * nsPerS).toNat

/-- R206: the UTC view of TB0 in seconds since 2000. -/
def State.utcSec (s : State) : Nat := s.utcNs / nsPerS

/-- R220: the cycle period of TB4 in ns: the one measured last, or that of `TB4_NOM` in mHz. -/
def State.tb4Period (s : State) : Nat :=
  if s.time.measured then s.getF Reg.TIME_TB4_PERIOD_NS else 1000000000000 / s.getF Reg.TIME_TB4_NOM_MHZ

/-- The command leaves the state as it is. -/
def idle (s : State) : Host.Outcome State Fault Refusal := .next s

end Sys2Proof.Machine
end

