-- ==== Sys2Proof/Machine/Regs.lean ====
section
/-! DEFINITION. The common part of every register page: privilege masks, interrupts, errors, S-fields and their shadows (R33–R38, R50–R52), and the start and stop of clock domains (R11, R430). -/

namespace Sys2Proof.Machine

/-! ## Windows, and the write of a register's plain fields -/

/-- R440: the conditioner field of input `i`; PFW_N, input 6, resets to FILTER 1 and STUCK_S 10 (R447). -/
def condField (f : Field) (i : Nat) : Field :=
  let g := f.win 2 i
  if i = 6 ∧ f = Reg.AON_COND_CFG_FILTER then { g with reset := 1 }
  else if i = 6 ∧ f = Reg.AON_COND_CFG_STUCK_S then { g with reset := 10 } else g

/-- The field that a register shows: a register that shows one entry of a table through a select register
stands for the field of the selected entry (R61, R203, R300, R304, R447, R493). -/
def State.alias (s : State) (f : Field) : Field :=
  if f.page = 0x21 ∧ (f.off = 0x114 ∨ f.off = 0x118) then f.win 0 (s.getF Reg.QMON_QMON_SEL_QNUM)
  else if f.page = 0x06 ∧ f.off = 0x120 then
    f.win 1 (s.getF Reg.EVR_SNAP_SEL_CLASS * 16 + s.getF Reg.EVR_SNAP_SEL_ENTRY)
  else if f.page = 0x03 ∧ 0x124 ≤ f.off ∧ f.off ≤ 0x12C then condField f (s.getF Reg.AON_COND_SEL_INPUT)
  else if f.page = 0x19 ∧ f.off = 0x120 then f.win 3 (s.getF Reg.PANEL_ITEM_SEL_ITEM)
  else if f.page = 0x28 ∧ 0x124 ≤ f.off ∧ f.off ≤ 0x134 then f.win 4 (s.getF Reg.ETH_IP_SEL_IDX)
  else if f.page = 0x28 ∧ 0x144 ≤ f.off ∧ f.off ≤ 0x154 then f.win 5 (s.getF Reg.ETH_SRC_SEL_CONC)
  else if f.page = 0x2F ∧ f.off = 0x134 then f.win 6 (s.getF Reg.PCIE_VEC_SEL_PAGE)
  else f

/-- R28, R50: does a page use `SHADOW_GEN`: has it S-fields? DMA keeps one per channel instead (R375). -/
def shadowed (p : Nat) : Bool := p != 0x20 && (blockFields p).any (fun f => f.txn == .s)

/-- The header fields of a page that a plain write or a read reaches (R28). -/
def headerFields (p : Nat) : List Field :=
  [Reg.BLK_ID_TYPE p, Reg.BLK_ID_INSTANCE p, Reg.BLK_ID_PAGE p, Reg.BLK_VER_MINOR p, Reg.BLK_VER_MAJOR p,
   Reg.BLK_CAP_BLOCK p, Reg.BLK_PRIV_RD p, Reg.BLK_PRIV_WR p, Reg.BLK_PRIV_RD_CEIL p, Reg.BLK_PRIV_WR_CEIL p,
   Reg.BLK_PRIV_LOCK p, Reg.CTRL_SOFT_RESET p, Reg.IRQ_EN p, Reg.IRQ_EN_HI p, Reg.ERR_CODE p, Reg.ERR_CNT p, Reg.ERR_VALID p] ++
  [Reg.ERR_INFO p, Reg.TXN_STAT_LAST_TAG p, Reg.TXN_STAT_LAST_OUTCOME p] ++
  (if shadowed p then [Reg.SHADOW_GEN p, Reg.SHADOW_ARM p, Reg.SHADOW_WR_GEN p] else []) ++
  ((List.range 6).filter (fun e => qDepth (8 * p + e) != 0)).flatMap (fun e =>
    [Reg.HI_MARK (8 * p + e), Reg.LO_MARK (8 * p + e), Reg.XCNT (8 * p + e), Reg.FLUSHED_PARTIAL (8 * p + e),
     Reg.DISCARD (8 * p + e), Reg.FLUSH (8 * p + e)])

/-- The fields of a page at an offset. -/
def fieldsAt (p off : Nat) : List Field :=
  (headerFields p ++ blockFields p).filter (fun f => f.off == off)

/-- The bits of a written word that fall on a field. -/
def Field.part (f : Field) (d : Nat) : Nat := bitsOf d (f.lo + f.width - 1) f.lo

/-- Fields whose write takes effect at once and has no row of its own. -/
def Field.plain (f : Field) : Bool := !f.own && f.txn == .none && f.acc != .ro && f.acc != .rc

/-- R29: what the write of a word does to one field. -/
def State.putField (s : State) (req : Req) (f : Field) (d : Nat) : State :=
  let g := (s.alias f).bankOf req.code
  let v := f.part d
  match f.acc with
  | .w1c => s.setF g (s.getF g - (s.getF g &&& v))
  | .w1s => s.setF g (s.getF g ||| v)
  | _ => s.setF g v

/-- R440, R443: the checks of a plain write that depend on other state: the conditioners of the tamper inputs are
locked while TAMP is ARMED, and so are the tamper monitor's own settings (R421). -/
def State.locked (s : State) (f : Field) : Bool :=
  s.flag Reg.TAMP_CTRL_ARMED &&
    ((f.page == 0x03 && f.off == 0x124 && decide (s.getF Reg.AON_COND_SEL_INPUT ≤ 3)) ||
     (f.page == 0x0C && decide (0x100 ≤ f.off) && decide (f.off ≤ 0x120)))

/-- R29, R39: the plain fields of one register take a written word; a value outside a field's range is refused
with VALUE_REFUSED and that field keeps its value. Does the whole write stand? -/
def State.writePlain (s : State) (req : Req) (p off d : Nat) : State × Bool :=
  let fs := (fieldsAt p off).filter Field.plain
  fs.foldl (fun (t, ok) f =>
    if t.locked f || (f.acc == .rw && !f.takes (f.part d)) then (t.err p Err.valueRefused (accessInfo p req off), false)
    else (t.putField req f d, ok)) (s, true)

/-- R35: does a word written by another requester than TRUSTED act on a field reserved to TRUSTED? -/
def trustedHit (req : Req) (p off d : Nat) : Bool :=
  req != .trusted && (fieldsAt p off).any (fun f => f.trusted && (f.acc != .w1s || f.part d != 0))

/-- A write of a register word that holds an action bit among plain fields: the refusals, the plain fields,
then the action, which a refused plain value stops. -/
def State.onAction (s : State) (req : Req) (f : Field) (d : Nat) (k : State → State) : State :=
  s.onField req f fun s =>
    let (t, ok) := s.writePlain req f.page f.off d
    if ok then k t else t

/-! ## Privilege masks -/

/-- R34: `BLK_PRIV` of a page takes the masks of a write, limited by the ceilings, and LOCK where it is 1. -/
def setPriv (s : State) (p d : Nat) : State :=
  let s := s.setF (Reg.BLK_PRIV_WR p) (bitsOf d 13 8 &&& s.getF (Reg.BLK_PRIV_WR_CEIL p))
  let s := s.setF (Reg.BLK_PRIV_RD p) (bitsOf d 5 0 &&& s.getF (Reg.BLK_PRIV_RD_CEIL p))
  if bitAt d 31 = 1 then s.setF (Reg.BLK_PRIV_LOCK p) 1 else s

/-- R34: only TRUSTED writes `BLK_PRIV`; once LOCK is 1 a write is ignored without error. DESIGN CHOICE (log entry 66): R34 refuses a write by
another requester and ignores every write after LOCK; where both apply, the model refuses, with PRIV_DENY. -/
def execBlkPrivWrite (req : Req) (page : BitVec 8) (data : Word) (s : State) :
    Host.Outcome State Fault Refusal :=
  let p := page.toNat
  .next (s.onField req (Reg.BLK_PRIV_WR p) fun s =>
    if s.flag (Reg.BLK_PRIV_LOCK p) then s else setPriv s p data.toNat)

/-! ## Interrupts and errors -/

/-- The latched block-specific sources of a page, as the register tables list them. -/
def blockIrqMask (p : Nat) : Nat :=
  if p = 0x01 ∨ p = 0x0A ∨ p = 0x0B ∨ p = 0x0C ∨ p = 0x28 ∨ p = 0x2D ∨ p = 0x2F then 0x3
  else if p = 0x02 ∨ p = 0x08 ∨ p = 0x19 ∨ p = 0x21 ∨ p = 0x2E then 0x7
  else if p = 0x03 ∨ p = 0x07 ∨ p = 0x09 ∨ p = 0x12 ∨ p = 0x17 ∨ p = 0x24 then 0xF
  else if p = 0x04 ∨ p = 0x14 then 0x3F
  else if p = 0x05 then 0x1FF
  else if p = 0x06 ∨ p = 0x10 then 0x1F
  else if p = 0x0D ∨ p = 0x30 then 0xFF
  else if p = 0x11 ∨ p = 0x15 ∨ p = 0x16 ∨ p = 0x23 then 0x7F
  else if 0x29 ≤ p ∧ p ≤ 0x2C then 0x1
  else if 0x31 ≤ p ∧ p ≤ 0x34 then 0x1FF
  else if 0x35 ≤ p ∧ p ≤ 0x38 then 0x7F
  else if 0x40 ≤ p ∧ p ≤ 0x5F then 0x7
  else 0

/-- R37: the latched sources of a page: TXN, SHADOW, the watermarks of the queue ends it has, and its own. -/
def latchedMask (p : Nat) : Nat :=
  blockIrqMask p + 2 ^ 30 + 2 ^ 29 +
    ((List.range 6).map (fun e => if qDepth (8 * p + e) = 0 then 0 else 3 * 2 ^ (16 + 2 * e))).sum

/-- R37: clear the latched sources of `bits`, except those whose event falls on the same edge, which stay set. -/
def clearIrq (s : State) (p bits same : Nat) : State :=
  (List.range 31).foldl (fun t b =>
    if bitAt (latchedMask p) b = 1 then
      if bitAt same b = 1 then t.setF (Reg.irqRaw p b) 1
      else if bitAt bits b = 1 then t.setF (Reg.irqRaw p b) 0 else t
    else t) s

/-- R37: a write of 1 to bits of `IRQ_STAT` (or of `IRQ_RAW`); `sameEdge` are the sources whose event falls on
the edge of the write. -/
def execIrqClear (req : Req) (page : BitVec 8) (bits sameEdge : Word) (s : State) :
    Host.Outcome State Fault Refusal :=
  .next (s.onWrite req page.toNat 0x028 fun s => clearIrq s page.toNat bits.toNat sameEdge.toNat)

/-- R37: a write of 1 to bits of `IRQ_SET` sets those latched sources. -/
def execIrqSet (req : Req) (page : BitVec 8) (bits : Word) (s : State) : Host.Outcome State Fault Refusal :=
  .next (s.onWrite req page.toNat 0x02C fun s =>
    (List.range 31).foldl (fun t b =>
      if bitAt (latchedMask page.toNat) b = 1 ∧ bitAt bits.toNat b = 1 then t.setF (Reg.irqRaw page.toNat b) 1
      else t) s)

/-- R38: clear VALID, CODE, CNT and `ERR_INFO` of a page. -/
def clearErr (s : State) (p : Nat) : State :=
  (((s.setF (Reg.ERR_VALID p) 0).setF (Reg.ERR_CODE p) 0).setF (Reg.ERR_CNT p) 0).setF (Reg.ERR_INFO p) 0

/-- R38: a write of 1 to `ERR_CODE.VALID`. -/
def execErrClear (req : Req) (page : BitVec 8) (s : State) : Host.Outcome State Fault Refusal :=
  .next (s.onWrite req page.toNat 0x030 fun s => clearErr s page.toNat)

/-! ## Shadows -/

/-- R50: the three fields of the shadow register of a page, or of a DMA channel (R375). -/
structure ShadowRegs where
  wrGen : Field
  arm : Field
  gen : Field
  deriving DecidableEq, Repr

/-- R50, R375: DMA keeps a shadow register per channel, every other page one in its header. -/
def shadowRegs (p chan : Nat) : ShadowRegs :=
  if p = 0x20 then ⟨Reg.DMA_CH_SHADOW_WR_GEN chan, Reg.DMA_CH_SHADOW_SHADOW_ARM chan, Reg.DMA_CH_SHADOW_GEN chan⟩
  else ⟨Reg.SHADOW_WR_GEN p, Reg.SHADOW_ARM p, Reg.SHADOW_GEN p⟩

/-- R51: a hand-over event: with SHADOW_ARM = 1 the whole shadow set of `fs` is taken on one edge. -/
def State.handOver (s : State) (p : Nat) (r : ShadowRegs) (fs : List Field) : State :=
  if s.flag r.arm then
    let t := fs.foldl (fun t f => t.setEff f (t.getF f)) s
    ((t.setF r.arm 0).setF r.gen (t.getF r.gen + 1)).irq (Reg.irqRaw p 29)
  else s

/-- The S-fields that a register of a page holds; a PANEL list entry is the one `PANEL.ITEM_SEL` names. -/
def State.sFieldsAt (s : State) (p off : Nat) : List Field :=
  ((blockFields p).filter (fun f => f.off == off && f.txn == .s)).map s.alias

/-- R51: a write of the S-fields of one register lands in the shadow and sets WR_GEN; a value outside a
field's range is refused and the fields keep their values. -/
def State.writeShadow (s : State) (req : Req) (p chan off d : Nat) : State :=
  let fs := s.sFieldsAt p off
  if fs.isEmpty then s
  else if fs.any (fun f => !f.takes (f.part d)) then s.err p Err.valueRefused (accessInfo p req off)
  else
    let t := fs.foldl (fun t f => t.setF f (f.part d)) s
    t.setF (shadowRegs p chan).wrGen (t.getF (shadowRegs p chan).gen + 1)

/-- R51: a write of an S-field register. -/
def execSFieldWrite (req : Req) (page : BitVec 8) (off : BitVec 12) (data : Word) (s : State) :
    Host.Outcome State Fault Refusal :=
  .next (s.onWrite req page.toNat off.toNat fun s =>
    s.writeShadow req page.toNat ((off.toNat - 0x100) / 0x40) off.toNat data.toNat)

/-- R51: a write of 1 to `SHADOW_ARM`. -/
def execShadowArm (req : Req) (page : BitVec 8) (chan : Fin 16) (s : State) : Host.Outcome State Fault Refusal :=
  let r := shadowRegs page.toNat chan.val
  .next (s.onWrite req page.toNat r.arm.off fun s =>
    if (blockFields page.toNat).any (fun f => f.txn == .s) then s.setF r.arm 1 else s)

/-! ## Clock domains -/

/-- R445: the bit of `CLK.PLL_LOCK` of a domain's generator; SLOW has none, and FIELD is divided from FABRIC's (R11). -/
def pllBit : Domain → Option Nat
  | .slow => none
  | .aon => some 0
  | .core => some 1
  | .fabric => some 2
  | .field => none
  | .lane => some 3
  | .mem => some 4
  | .port => some 5
  | .time => some 6

/-- R445: set or clear the lock of a generator. -/
def State.setLock (s : State) (d : Domain) (on : Bool) : State :=
  match pllBit d with
  | none => s
  | some b => s.setF Reg.CLK_PLL_LOCK_LOCK (withBits (s.getF Reg.CLK_PLL_LOCK_LOCK) b b (if on then 1 else 0))

/-- R12, R430: the domains that run, or may be started on demand, in a mode (coded as R422). Start-up may
start any domain. -/
def domainAllowed (mode : Nat) (startup : Bool) (d : Domain) : Bool :=
  if startup then true
  else match mode with
  | 0 => d == .slow
  | 1 | 2 | 7 => d == .slow || d == .aon
  | _ => true

/-- R11: start a stopped domain: its generator locks, its logic leaves reset; FIELD starts with FABRIC. TIME takes TB0 over from the
AON counter at 10 ns (R214), and TB3 is loaded from TB0 (R219). The silence of a LAN counts from the start of PORT at the earliest (R291). -/
def State.startDomain (s : State) (d : Domain) : State :=
  let t := (s.setLock d true).setDom d true
  if d = .fabric then t.setDom .field true
  else if d = .time then
    let n := s.tb0 / 655360 * 655360
    { t with tb0 := n, tb3 := n }
  else if d = .port then { t with uplink := { t.uplink with lanAt := t.tb1, lanBt := t.tb1 } }
  else t

/-- R11: can a domain start: FIELD on its own needs PLL_SYS locked, every other domain's generator locks with the start? -/
def State.canStart (s : State) (d : Domain) : Bool := d != .field || bitAt (s.getF Reg.CLK_PLL_LOCK_LOCK) 2 == 1

/-- R12, R430: a domain that work has arrived for, running: started where it is stopped and the mode lets it run; none where it cannot. -/
def State.needDom (s : State) (d : Domain) : Option State :=
  if s.domOn d then some s
  else if domainAllowed (s.getF Reg.PWR_STAT_MODE) (s.getF Reg.PWR_STAT_BOOT_STEP != 0) d && s.canStart d then some (s.startDomain d)
  else none

/-- R9, R12, R430: work of a block that needs the DRAM: MEM is started for it where it is stopped and the mode lets it run; otherwise the block accepts no
work. -/
def State.withDram (s : State) (k : State → Host.Outcome State Fault Refusal) : Host.Outcome State Fault Refusal :=
  match s.needDom .mem with
  | some t => k t
  | none => idle s

/-- R12: the domains that a mode's row gives as On, beside SLOW and AON, are started. -/
def State.modeDomains (s : State) (mode : Nat) : State :=
  let l : List Domain := if mode = 4 ∨ mode = 5 ∨ mode = 6 then [.fabric, .field, .time, .core, .lane, .mem, .port] else if mode = 3 then [.fabric, .field, .time] else []
  l.foldl (fun (t : State) d => (t.needDom d).getD t) s

/-- R11: work arrives for a stopped domain. -/
def execDomainStart (dom : Domain) (s : State) : Host.Outcome State Fault Refusal :=
  if s.domOn dom ∨ !s.canStart dom then idle s
  else if domainAllowed (s.getF Reg.PWR_STAT_MODE) (s.getF Reg.PWR_STAT_BOOT_STEP != 0) dom then
    .next (s.startDomain dom)
  else idle s

/-- R430: P0 to P2 lose their link while PORT is stopped. -/
def State.dropLinks (s : State) : State :=
  ((s.setF (Reg.ETHP_STAT_LINK 0) 0).setF (Reg.ETHP_STAT_LINK 1) 0).setF (Reg.ETHP_STAT_LINK 2) 0

/-- R12: has work for the DRAM arrived that is not done: frames in flight or at the lookup, requests of the table engine, sweeps, DMA channels that run, the FTL's jobs
and operations? -/
def State.memBusy (s : State) : Bool :=
  s.flights.any (fun e => e.2.isSome) || !(s.queue 0xA0).items.isEmpty || !(s.queue 0xA1).items.isEmpty || s.dir.search.isSome || !s.dir.parked.isEmpty ||
    !s.dir.released.isEmpty || !s.bal.sweeps.isEmpty || !s.bill.demSweeps.isEmpty || !s.bill.sweeps.isEmpty ||
    (List.range 16).any (fun n => s.getF (Reg.DMA_CH_STAT_STATE n) == 1 || s.getF (Reg.DMA_CH_STAT_STATE n) == 2) || !s.ftl.jobs.isEmpty || !s.ftl.ops.isEmpty

/-- R12: do the queue ends of the switch, of PRP or of TWIN hold items, does a frame wait for its port, or is a link frame not acknowledged? -/
def State.portBusy (s : State) : Bool :=
  ([0x28, 0x2E, 0x30].flatMap (fun p => (List.range 6).map (fun e => 8 * p + e))).any (fun q => !(s.queue q).items.isEmpty) || !s.twin.window.isEmpty || !s.uplink.egress.isEmpty

/-- R12, R430: in TENDING a demand domain stops after its idle time, once the work that the model knows of is done; PORT only while PORT_HOLD is 0. -/
def execDomainIdleStop (dom : Domain) (s : State) : Host.Outcome State Fault Refusal :=
  if s.getF Reg.PWR_STAT_MODE = 3 ∧ s.domOn dom ∧ !(dom == .mem && s.memBusy) ∧ !(dom == .port && s.portBusy) then
    match dom with
    | .mem | .core => .next ((s.setDom dom false).setLock dom false)
    | .port =>
      if s.flag Reg.PWR_TEND_CFG_PORT_HOLD then idle s
      else .next (((s.setDom dom false).setLock dom false).dropLinks)
    | _ => idle s
  else idle s

end Sys2Proof.Machine
end

