-- ==== Sys2Proof/Machine/Calendar.lean ====
section
/-! DEFINITION. The calendar engine: the civil calendar, the check of a calendar copy (R176), calendar generations (R178), the resolution of an instant (R177), the conversion of a COSEM date-time (R103) and the CHECK and RESOLVE commands (R179, R202). -/

namespace Sys2Proof.Machine

/-! ## The civil calendar -/

/-- A date. -/
structure Date where
  y : Nat
  m : Nat
  d : Nat
  deriving DecidableEq, Repr

/-- R177: years divisible by 4 are leap years, and 2100 is not. -/
def leapYear (y : Nat) : Bool := y % 4 == 0 && (y % 100 != 0 || y % 400 == 0)

/-- The days of a month. -/
def monthDays (y m : Nat) : Nat :=
  if m = 2 then (if leapYear y then 29 else 28)
  else if m = 4 ∨ m = 6 ∨ m = 9 ∨ m = 11 then 30 else 31

/-- The date of a day number counted from 2000-01-01. -/
def dateOf (day : Nat) : Date :=
  let z := day + 730425
  let era := z / 146097
  let doe := z % 146097
  let yoe := (doe - doe / 1460 + doe / 36524 - doe / 146096) / 365
  let doy := doe - (365 * yoe + yoe / 4 - yoe / 100)
  let mp := (5 * doy + 2) / 153
  let d := doy - (153 * mp + 2) / 5 + 1
  let m := if mp < 10 then mp + 3 else mp - 9
  ⟨yoe + era * 400 + (if m ≤ 2 then 1 else 0), m, d⟩

/-- The day number of a date, counted from 2000-01-01. -/
def dayOf (y m d : Nat) : Nat :=
  let y' := if m ≤ 2 then y - 1 else y
  let era := y' / 400
  let yoe := y' % 400
  let doy := (153 * (if 2 < m then m - 3 else m + 9) + 2) / 5 + d - 1
  let doe := yoe * 365 + yoe / 4 - yoe / 100 + doy
  era * 146097 + doe - 730425

/-- R177: the weekday of a day number, Monday 0; 2000-01-01 was a Saturday. -/
def weekday (day : Nat) : Nat := (day + 5) % 7

/-- The first second after 2135-12-31 23:59:59, in seconds since 2000. -/
def timeEnd : Nat := 86400 * dayOf 2136 1 1

/-! ## Calendar copies -/

/-- R175: the address of copy `p` of calendar `c`. -/
def calCopyAddr (c p : Nat) : Nat := 0x0870000000 + (2 * c + p) * 0x800

/-- R175: the counts of a copy: seasons, weeks, days, special days. -/
def calCounts (b : Bytes) : Nat × Nat × Nat × Nat :=
  let v := leAt b 4 4
  (bitsOf v 2 0, bitsOf v 6 3, bitsOf v 11 7, bitsOf v 19 12)

/-- R176: is season `i` bad? -/
def badSeason (b : Bytes) (nw i : Nat) : Bool :=
  let o := 0x040 + 8 * i
  let m := leAt b o 1
  let d := leAt b (o + 1) 1
  let pm := leAt b (o - 8) 1
  let pd := leAt b (o - 7) 1
  m == 0 || decide (12 < m) || d == 0 || decide (31 < d) || decide (nw ≤ leAt b (o + 2) 1) ||
    (i != 0 && !(decide (pm < m) || (pm == m && decide (pd < d))))

/-- R176: is week profile `i` bad? -/
def badWeek (b : Bytes) (nd i : Nat) : Bool :=
  (List.range 7).any (fun k => decide (nd ≤ leAt b (0x060 + 8 * i + k) 1))

/-- R175: switch point `k` of day profile `i`. -/
def switchPoint (b : Bytes) (i k : Nat) : Nat := leAt b (0x0A0 + 48 * i + 2 * k) 2

/-- R176: is switch point `k` of day profile `i` bad? Point 0 is VALID at minute 0; the VALID points follow one
another in strictly ascending minutes. -/
def badPoint (b : Bytes) (i k : Nat) : Bool :=
  let x := switchPoint b i k
  let p := switchPoint b i (k - 1)
  if k = 0 then bitAt x 15 == 0 || bitsOf x 10 0 != 0
  else bitAt x 15 == 1 && (bitAt p 15 == 0 || decide (bitsOf x 10 0 ≤ bitsOf p 10 0) || decide (1439 < bitsOf x 10 0))

/-- R176: is special day `i` bad? -/
def badSpecial (b : Bytes) (nd i : Nat) : Bool :=
  let o := 0x3A0 + 8 * i
  let y := leAt b o 2
  let m := leAt b (o + 2) 1
  let d := leAt b (o + 3) 1
  let top := if m = 2 then (if y = 0 ∨ leapYear y then 29 else 28) else monthDays 1 m
  decide (nd ≤ leAt b (o + 4) 1) || m == 0 || decide (12 < m) || d == 0 || decide (top < d) ||
    (List.range i).any (fun j => slice b (0x3A0 + 8 * j) 4 == slice b o 4)

/-- R176: the offset of the first bad entry of a copy, or none where the copy is valid. -/
def calCheck (b : Bytes) : Option Nat :=
  let (ns, nw, nd, nsp) := calCounts b
  if ns = 0 ∨ 4 < ns ∨ nw = 0 ∨ 8 < nw ∨ nd = 0 ∨ 16 < nd ∨ 128 < nsp then some 0x004
  else
    let bad := ((List.range ns).filter (badSeason b nw)).map (0x040 + 8 * ·) ++
      ((List.range nw).filter (badWeek b nd)).map (0x060 + 8 * ·) ++
      ((List.range nd).filter (fun i => (List.range 12).any (badPoint b i))).map (0x0A0 + 48 * ·) ++
      ((List.range nsp).filter (badSpecial b nd)).map (0x3A0 + 8 * ·)
    bad.head?

/-! ## Generations -/

/-- R178: the current generation. -/
def State.gen (s : State) : CalGen := s.gens.headD {}

/-- R104: the generation with a number; one that is no longer held resolves as the current one. -/
def State.genOf (s : State) (id : Nat) : CalGen := (s.gens.find? (·.id == id)).getD s.gen

/-- R178, R184: is a calendar generation stamped on a frame or a DEMAND in flight? -/
def State.genInUse (s : State) (id : Nat) : Bool :=
  s.flights.any (fun e => match e.2 with
    | some fl => match fl.body with
      | .frame f => f.calgen == id
      | .ordered (.demandMarker _ g) => g == id
      | .ordered _ => false
    | none => false)

/-- R178, R202: drop the generations that no frame in flight is stamped with; GEN_FREE is latched where one older than the current one was held and none is left. -/
def State.pruneGens (s : State) : State :=
  match s.gens with
  | [] => s
  | g :: r =>
    let r' := r.filter (fun h => s.genInUse h.id)
    let t := { s with gens := g :: r' }
    if !r.isEmpty && r'.isEmpty then t.irq Reg.CAL_IRQ_GEN_FREE else t

/-- R178: would one more generation be a fifth? The current one is held only while a frame is stamped with it. -/
def State.genFull (s : State) : Bool := decide (4 ≤ (s.gens.filter (fun g => s.genInUse g.id)).length)

/-- R178, R179: begin a generation: the calendars of `swap` change over, the offset and summer-time hour take new
values. DST_AT is the trigger instant `at_` when one of these two changed. -/
def State.beginGen (s : State) (swap : Nat) (off : Int) (dst at_ : Nat) : State :=
  let g := s.gen
  let changed := decide (off ≠ g.off) || dst != g.dst
  let n : CalGen :=
    { id := (g.id + 1) % 65536, active := g.active ^^^ swap, checked := g.checked ||| swap, off := off, dst := dst,
      prevOff := if changed then g.off else g.prevOff, prevDst := if changed then g.dst else g.prevDst,
      dstAt := if changed then at_ else g.dstAt }
  let old := s.gens.filter (fun h => s.genInUse h.id)
  let t : State := { s with gens := n :: old }
  let t := if 1 < s.gens.length && old.isEmpty then t.irq Reg.CAL_IRQ_GEN_FREE else t
  if swap = 0 then t else t.irq Reg.CAL_IRQ_SWAPPED

/-! ## Resolution -/

/-- R177 step 1: local time of a UTC instant in a generation. -/
def localOf (g : CalGen) (t : Int) : Int :=
  if (g.dstAt : Int) ≤ t then t + g.off * 900 + g.dst * 3600 else t + g.prevOff * 900 + g.prevDst * 3600

/-- R103, R187: the UTC instant of a local time in a generation: the first occurrence of a repeated hour, DST_AT
for a skipped one. -/
def utcOf (g : CalGen) (l : Int) : Int :=
  let u1 := l - g.off * 900 - g.dst * 3600
  let u0 := l - g.prevOff * 900 - g.prevDst * 3600
  let v1 := decide ((g.dstAt : Int) ≤ u1)
  let v0 := decide (u0 < (g.dstAt : Int))
  if v1 && v0 then min u1 u0 else if v1 then u1 else if v0 then u0 else g.dstAt

/-- R177 step 3: the special day of a date, one with its year before one for every year. -/
def specialDay (b : Bytes) (nsp : Nat) (dt : Date) : Option Nat :=
  let hit := fun (y i : Nat) =>
    leAt b (0x3A0 + 8 * i) 2 == y && leAt b (0x3A2 + 8 * i) 1 == dt.m && leAt b (0x3A3 + 8 * i) 1 == dt.d
  match (List.range nsp).find? (hit dt.y) with
  | some i => some i
  | none => (List.range nsp).find? (hit 0)

/-- R177 step 4: the season of a date. -/
def seasonOf (b : Bytes) (ns : Nat) (dt : Date) : Nat :=
  let started := fun (i : Nat) =>
    let m := leAt b (0x040 + 8 * i) 1
    let d := leAt b (0x041 + 8 * i) 1
    decide (m < dt.m) || (m == dt.m && decide (d ≤ dt.d))
  ((List.range ns).filter started).getLastD (ns - 1)

/-- R177 step 5: the rate of a minute of the day in a day profile. -/
def rateOf (b : Bytes) (dp minute : Nat) : Nat :=
  let k := ((List.range 12).filter (fun k =>
    bitAt (switchPoint b dp k) 15 == 1 && decide (bitsOf (switchPoint b dp k) 10 0 ≤ minute))).getLastD 0
  bitsOf (switchPoint b dp k) 14 12

/-- The result that says a time was not resolved. -/
def calNone : Nat := 0x80000000

/-- R177: resolve a UTC time for a calendar in a generation. -/
def State.calResolve (s : State) (t c : Nat) (g : CalGen) : Nat :=
  let l := localOf g t
  if !s.flag Reg.CAL_CTRL_ENABLE || bitAt g.checked c == 0 || decide (l < 0) || decide ((timeEnd : Int) ≤ l) then calNone
  else
    let b := s.read (calCopyAddr c (bitAt g.active c)) 0x800
    let (ns, _, _, nsp) := calCounts b
    let day := l.toNat / 86400
    let dt := dateOf day
    let season := seasonOf b ns dt
    let sp := specialDay b nsp dt
    let dp := match sp with
      | some i => leAt b (0x3A4 + 8 * i) 1
      | none => leAt b (0x060 + 8 * leAt b (0x042 + 8 * season) 1 + weekday day) 1
    rateOf b dp (l.toNat % 86400 / 60) + season * 16 + dp * 256 + (if sp.isSome then 32768 else 0)

/-- R103: SV.CDATE of the 12 bytes of a COSEM date-time; `plus` takes UTC = local time + deviation. DESIGN CHOICE (log entry 95): the rule's range 2000 to 2135 is held to
bind the local date and the UTC result alike. -/
def cosemUtc (g : CalGen) (b : Bytes) (plus : Bool) : Nat :=
  let y := beAt b 0 2
  let m := beAt b 2 1
  let d := beAt b 3 1
  let wd := beAt b 4 1
  let h := beAt b 5 1
  let mi := beAt b 6 1
  let sec := beAt b 7 1
  let hs := beAt b 8 1
  let dev := beAt b 9 2
  let ok := decide (2000 ≤ y) && decide (y ≤ 2135) && decide (1 ≤ m) && decide (m ≤ 12) && decide (1 ≤ d) &&
    decide (d ≤ monthDays y m) && ((decide (1 ≤ wd) && decide (wd ≤ 7)) || wd == 0xFF) && decide (h < 24) &&
    decide (mi < 60) && decide (sec < 60) && decide (hs < 100)
  let l : Int := dayOf y m d * 86400 + h * 3600 + mi * 60 + sec
  let sd := signedOf 16 dev
  let u : Int := if dev = 0x8000 then utcOf g l else if plus then l + sd * 60 else l - sd * 60
  let devOk := dev == 0x8000 || (decide (-720 ≤ sd) && decide (sd ≤ 720))
  if ok && devOk && decide (0 ≤ u) && decide (u < (timeEnd : Int)) then u.toNat else 0xFFFFFFFF

/-- R176, R177: the active copies of a generation are checked, as they are loaded from a checkpoint. -/
def State.checkActive (s : State) (g : CalGen) : CalGen :=
  { g with checked := maskWhere 64 (fun c => calCheck (s.read (calCopyAddr c (bitAt g.active c)) 0x800) == none) }

/-! ## CHECK and RESOLVE -/

/-- R179: check the passive copy of a calendar and leave the result. -/
def State.calCheckPassive (s : State) (c : Nat) : State :=
  let b := s.read (calCopyAddr c (1 - bitAt s.gen.active c)) 0x800
  match calCheck b with
  | none => (s.setF Reg.CAL_CHECK_RESULT_PASSED 1).setF Reg.CAL_CHECK_RESULT_OFFSET 0
  | some o => (s.setF Reg.CAL_CHECK_RESULT_PASSED 0).setF Reg.CAL_CHECK_RESULT_OFFSET o

/-- R179: a write of `CAL.CHECK` with GO = 1, which also names the calendar. -/
def execCalCheck (req : Req) (data : Word) (s : State) : Host.Outcome State Fault Refusal :=
  .next (s.onAction req Reg.CAL_CHECK_GO data.toNat fun s =>
    (s.calCheckPassive (s.getF Reg.CAL_CHECK_CAL)).irq Reg.CAL_IRQ_CHECKED)

/-- R202: a write of `CAL.RESOLVE` with GO = 1 resolves RESOLVE_TIME in the current generation. -/
def execCalResolve (req : Req) (data : Word) (s : State) : Host.Outcome State Fault Refusal :=
  .next (s.onAction req Reg.CAL_RESOLVE_GO data.toNat fun s =>
    (s.setF Reg.CAL_RESOLVE_RESULT_RESULT
      (s.calResolve (s.getF Reg.CAL_RESOLVE_TIME_SEC) (s.getF Reg.CAL_RESOLVE_CAL) s.gen)).irq Reg.CAL_IRQ_RESOLVED)

end Sys2Proof.Machine
end

