-- ==== Sys2Proof/Machine/CryptoHash.lean ====
section
/-! DEFINITION. The check and hash functions the spec names: CRC-32C, CRC-8 (R239), SipHash-2-4 (R134), SHAKE256 and KMAC256 (R384). The spec names the standards; their steps are taken from them (PRESUMED, log entry 6). -/

namespace Sys2Proof.Machine

/-! ## Cyclic redundancy checks -/

/-- One bit of a reflected CRC-32C. -/
def crc32cBit (c : Nat) : Nat := if c % 2 = 1 then (c / 2) ^^^ 0x82F63B78 else c / 2

/-- One byte of a CRC-32C. -/
def crc32cByte (c : Nat) (b : Byte) : Nat :=
  crc32cBit (crc32cBit (crc32cBit (crc32cBit (crc32cBit (crc32cBit (crc32cBit (crc32cBit (c ^^^ b.toNat))))))))

/-- CRC-32C (Castagnoli) of a byte string. -/
def crc32c (bs : Bytes) : Nat := (bs.foldl crc32cByte 0xFFFFFFFF) ^^^ 0xFFFFFFFF

/-- R239: one bit of the CRC-8 with polynomial x^8 + x^2 + x + 1. -/
def crc8Bit (c : Nat) (b : Bool) : Nat :=
  let t := if (decide (c / 128 = 1)) != b then 0x07 else 0
  (c * 2 % 256) ^^^ t

/-- R239: CRC-8 over a value's low `n` bits in the order sent, bit 0 first, initial value 0. -/
def crc8 (v n : Nat) : Nat :=
  (List.range n).foldl (fun c i => crc8Bit c (decide ((v >>> i) % 2 = 1))) 0

/-! ## SipHash-2-4 -/

/-- 64-bit addition. -/
def add64 (a b : Nat) : Nat := (a + b) % 2 ^ 64

/-- 64-bit rotation to the left. -/
def rotl64 (a n : Nat) : Nat := (a * 2 ^ n % 2 ^ 64) + a / 2 ^ (64 - n)

/-- The state of SipHash. -/
structure SipState where
  v0 : Nat
  v1 : Nat
  v2 : Nat
  v3 : Nat
  deriving DecidableEq, Repr

/-- One SipRound. -/
def sipRound (s : SipState) : SipState :=
  let v0 := add64 s.v0 s.v1
  let v1 := rotl64 s.v1 13 ^^^ v0
  let v0 := rotl64 v0 32
  let v2 := add64 s.v2 s.v3
  let v3 := rotl64 s.v3 16 ^^^ v2
  let v0 := add64 v0 v3
  let v3 := rotl64 v3 21 ^^^ v0
  let v2 := add64 v2 v1
  let v1 := rotl64 v1 17 ^^^ v2
  let v2 := rotl64 v2 32
  ⟨v0, v1, v2, v3⟩

/-- Compress one 64-bit word. -/
def sipWord (s : SipState) (m : Nat) : SipState :=
  let t := sipRound (sipRound { s with v3 := s.v3 ^^^ m })
  { t with v0 := t.v0 ^^^ m }

/-- The 64-bit message words of SipHash: the last holds the length in its top byte. -/
def sipWords (bs : Bytes) : List Nat :=
  (List.range (bs.length / 8)).map (fun i => leAt bs (8 * i) 8) ++
    [leNat (bs.drop (bs.length / 8 * 8)) + bs.length % 256 * 2 ^ 56]

/-- SipHash-2-4 under a 128-bit key. -/
def sipHash (key : Bytes) (bs : Bytes) : Nat :=
  let k0 := leAt key 0 8
  let k1 := leAt key 8 8
  let s : SipState := ⟨k0 ^^^ 0x736f6d6570736575, k1 ^^^ 0x646f72616e646f6d, k0 ^^^ 0x6c7967656e657261,
    k1 ^^^ 0x7465646279746573⟩
  let s := (sipWords bs).foldl sipWord s
  let s := { s with v2 := s.v2 ^^^ 0xff }
  let s := sipRound (sipRound (sipRound (sipRound s)))
  s.v0 ^^^ s.v1 ^^^ s.v2 ^^^ s.v3

/-! ## Keccak, SHAKE256, KMAC256 -/

/-- The round constants of Keccak-f[1600]. -/
def keccakRc : List Nat :=
  [0x0000000000000001, 0x0000000000008082, 0x800000000000808A, 0x8000000080008000, 0x000000000000808B,
   0x0000000080000001, 0x8000000080008081, 0x8000000000008009, 0x000000000000008A, 0x0000000000000088,
   0x0000000080008009, 0x000000008000000A] ++
  [0x000000008000808B, 0x800000000000008B, 0x8000000000008089, 0x8000000000008003, 0x8000000000008002,
   0x8000000000000080, 0x000000000000800A, 0x800000008000000A, 0x8000000080008081, 0x8000000000008080,
   0x0000000080000001, 0x8000000080008008]

/-- The rotation offsets, by lane index x + 5y. -/
def keccakRot : List Nat :=
  [0, 1, 62, 28, 27, 36, 44, 6, 55, 20, 3, 10, 43] ++ [25, 39, 41, 45, 15, 21, 8, 18, 2, 61, 56, 14]

/-- One round of Keccak-f[1600] on 25 lanes of 64 bits. -/
def keccakRound (a : List Nat) (rc : Nat) : List Nat :=
  let g := fun (l : List Nat) (i : Nat) => l.getD i 0
  let c := (List.range 5).map (fun x => g a x ^^^ g a (x + 5) ^^^ g a (x + 10) ^^^ g a (x + 15) ^^^ g a (x + 20))
  let d := (List.range 5).map (fun x => g c ((x + 4) % 5) ^^^ rotl64 (g c ((x + 1) % 5)) 1)
  let t := (List.range 25).map (fun i => g a i ^^^ g d (i % 5))
  -- rho and pi: lane (x, y) goes to (y, 2x + 3y)
  let b := (List.range 25).map (fun i =>
    let x := i % 5
    let y := i / 5
    let sx := (x + 3 * y) % 5
    let src := sx + 5 * x
    rotl64 (g t src) (keccakRot.getD src 0))
  let e := (List.range 25).map (fun i =>
    let x := i % 5
    let y := i / 5
    g b i ^^^ ((g b ((x + 1) % 5 + 5 * y) ^^^ (2 ^ 64 - 1)) &&& g b ((x + 2) % 5 + 5 * y)))
  match e with
  | [] => []
  | e0 :: r => (e0 ^^^ rc) :: r

/-- The permutation Keccak-f[1600]. -/
def keccakF (a : List Nat) : List Nat := keccakRc.foldl keccakRound a

/-- XOR a block of 136 bytes into the state. -/
def keccakXor (a : List Nat) (blk : Bytes) : List Nat :=
  (List.range 25).map (fun i => if i < 17 then a.getD i 0 ^^^ leAt blk (8 * i) 8 else a.getD i 0)

/-- Absorb the blocks of a padded message. -/
def keccakAbsorb : Nat → List Nat → Bytes → List Nat
  | 0, a, _ => a
  | n + 1, a, bs => keccakAbsorb n (keccakF (keccakXor a (slice bs 0 136))) (bs.drop 136)

/-- Squeeze `n` blocks of 136 bytes. -/
def keccakSqueeze : Nat → List Nat → Bytes
  | 0, _ => []
  | n + 1, a => ((List.range 17).flatMap (fun i => leBytes 8 (a.getD i 0))) ++ keccakSqueeze n (keccakF a)

/-- The sponge of rate 136 bytes with a domain-separation byte. -/
def sponge136 (dom : Nat) (bs : Bytes) (n : Nat) : Bytes :=
  let blocks := bs.length / 136 + 1
  let padded := bs ++ [BitVec.ofNat 8 dom] ++ List.replicate (blocks * 136 - bs.length - 1) 0
  let last := padded.getD (blocks * 136 - 1) 0
  let p := padded.set (blocks * 136 - 1) (last ^^^ 0x80)
  (keccakSqueeze (n / 136 + 1) (keccakAbsorb blocks (List.replicate 25 0) p)).take n

/-- SHAKE256 with `n` bytes of output. -/
def shake256 (bs : Bytes) (n : Nat) : Bytes := sponge136 0x1F bs n

/-- R6: the first 64 bits of SHAKE256, as the little-endian value of its first eight bytes. -/
def shake64 (bs : Bytes) : Nat := leNat (shake256 bs 8)

/-- The number of bytes of a value, at least 1. -/
def byteCount (v : Nat) : Nat := if v = 0 then 1 else Nat.log2 v / 8 + 1

/-- left_encode of NIST SP 800-185. -/
def leftEncode (v : Nat) : Bytes := BitVec.ofNat 8 (byteCount v) :: beBytes (byteCount v) v

/-- right_encode of NIST SP 800-185. -/
def rightEncode (v : Nat) : Bytes := beBytes (byteCount v) v ++ [BitVec.ofNat 8 (byteCount v)]

/-- encode_string of NIST SP 800-185. -/
def encodeString (bs : Bytes) : Bytes := leftEncode (8 * bs.length) ++ bs

/-- bytepad to the rate of 136 bytes. -/
def bytepad136 (bs : Bytes) : Bytes :=
  let t := leftEncode 136 ++ bs
  t ++ List.replicate ((136 - t.length % 136) % 136) 0

/-- The bytes of an ASCII string. -/
def ascii (s : String) : Bytes := s.toList.map (fun c => BitVec.ofNat 8 c.toNat)

/-- KMAC256 of NIST SP 800-185: key, message, output length in bytes, customisation. -/
def kmac256c (key msg : Bytes) (n : Nat) (cust : Bytes) : Bytes :=
  sponge136 0x04 (bytepad136 (encodeString (ascii "KMAC") ++ encodeString cust) ++
    bytepad136 (encodeString key) ++ msg ++ rightEncode (8 * n)) n

/-- R384: KMAC256 with the customisation string of the key tree. -/
def kmac (key msg : Bytes) (n : Nat) : Bytes := kmac256c key msg n (ascii "ZLA9100")

/-- R463: the leaf hash of data piece `i`. -/
def leafHash (i : Nat) (piece : Bytes) : Bytes := shake256 ([0] ++ leBytes 4 i ++ piece) 32

/-- R463: the nodes above a level of hashes; one without a partner passes up unchanged. -/
def merkleLevel : List Bytes → List Bytes
  | a :: b :: r => shake256 ([1] ++ a ++ b) 32 :: merkleLevel r
  | l => l

/-- R463: the single node left after at most `n` levels. -/
def merkleTop : Nat → List Bytes → Bytes
  | 0, l => l.headD []
  | n + 1, l => merkleTop n (merkleLevel l)

/-- R463: the Merkle root of an image in pieces of 512 bytes, the last one padded with zeros. -/
def merkleRoot (image : Bytes) : Bytes :=
  merkleTop 24 ((List.range ((image.length + 511) / 512)).map (fun i => leafHash i (slice image (512 * i) 512)))

end Sys2Proof.Machine
end

