-- ==== Sys2Proof/Machine/Operands.lean ====
section
/-! DEFINITION. The instruction words of a Sieve lane: RV32IM as the RISC-V standard encodes it (PRESUMED, log entry 7), with the limits of R95 and R100, and the Sieve extension of R102; the integer operations; and the counted cycles of R508. -/

namespace Sys2Proof.Machine

/-- R102: a Sieve instruction with its register numbers. -/
inductive Sv where
  | axlen (rd rs1 : Nat)
  | tariff (rd rs1 : Nat)
  | cdate (rd rs1 rs2 : Nat)
  | eevt (rs1 rs2 : Nat)
  | verd (rs1 : Nat)
  | ldbeH (rd rs1 : Nat) (imm : Nat)
  | ldbeW (rd rs1 : Nat) (imm : Nat)
  | ewr (rs1 rs2 : Nat) (imm : Nat)
  | eadd (rs1 rs2 rs3 : Nat)
  | emax (rs1 rs2 rs3 : Nat)
  | ebalImp (rs1 rs2 rs3 : Nat)
  | ebalExp (rs1 rs2 rs3 : Nat)
  | ebalVolt (rs1 rs2 rs3 : Nat)
  deriving DecidableEq, Repr

/-- A lane instruction. Immediates are 32-bit two's-complement values. -/
inductive Rv where
  | lui (rd imm : Nat)
  | auipc (rd imm : Nat)
  | jal (rd imm : Nat)
  | jalr (rd rs1 imm : Nat)
  | branch (f3 rs1 rs2 imm : Nat)
  | load (f3 rd rs1 imm : Nat)
  | store (f3 rs1 rs2 imm : Nat)
  | opImm (f3 : Nat) (alt : Bool) (rd rs1 imm : Nat)
  | op (f3 : Nat) (alt : Bool) (rd rs1 rs2 : Nat)
  | mulDiv (f3 rd rs1 rs2 : Nat)
  | fence
  | csrRead (rd csr : Nat)
  | sv (i : Sv)
  | illegal
  deriving DecidableEq, Repr

/-- Sign-extend the low `n` bits of a value to 32 bits. -/
def sext32 (n v : Nat) : Nat := unsignedOf 32 (signedOf n v)

/-- R100: the CSRs a lane reads: the Sieve ones, and cycle, time, instret with their high halves. -/
def csrKnown (c : Nat) : Bool :=
  (decide (0xCC0 ≤ c) && decide (c ≤ 0xCCB)) || (decide (0xC00 ≤ c) && decide (c ≤ 0xC02)) ||
    (decide (0xC80 ≤ c) && decide (c ≤ 0xC82))

/-- R102: the custom-0 instructions. -/
def decodeCustom0 (w : Nat) : Rv :=
  let rd := bitsOf w 11 7
  let f3 := bitsOf w 14 12
  let rs1 := bitsOf w 19 15
  let rs2 := bitsOf w 24 20
  let f7 := bitsOf w 31 25
  let immI := sext32 12 (bitsOf w 31 20)
  let immS := sext32 12 (bitsOf w 31 25 * 32 + bitsOf w 11 7)
  match f3 with
  | 0 =>
    match f7 with
    | 0 => if rs2 = 0 then .sv (.axlen rd rs1) else .illegal
    | 1 => if rs2 = 0 then .sv (.tariff rd rs1) else .illegal
    | 2 => .sv (.cdate rd rs1 rs2)
    | 3 => if rd = 0 then .sv (.eevt rs1 rs2) else .illegal
    | 4 => if rd = 0 ∧ rs2 = 0 then .sv (.verd rs1) else .illegal
    | _ => .illegal
  | 1 => .sv (.ldbeH rd rs1 immI)
  | 2 => .sv (.ldbeW rd rs1 immI)
  | 3 => .sv (.ewr rs1 rs2 immS)
  | _ => .illegal

/-- R102: the custom-1 instructions (R4 format). -/
def decodeCustom1 (w : Nat) : Rv :=
  let rd := bitsOf w 11 7
  let f3 := bitsOf w 14 12
  let rs1 := bitsOf w 19 15
  let rs2 := bitsOf w 24 20
  let rs3 := bitsOf w 31 27
  let f2 := bitsOf w 26 25
  if rd ≠ 0 then .illegal
  else match f3, f2 with
  | 0, 0 => .sv (.eadd rs1 rs2 rs3)
  | 1, 0 => .sv (.emax rs1 rs2 rs3)
  | 2, 0 => .sv (.ebalImp rs1 rs2 rs3)
  | 2, 1 => .sv (.ebalExp rs1 rs2 rs3)
  | 2, 2 => .sv (.ebalVolt rs1 rs2 rs3)
  | _, _ => .illegal

/-- R95, R100: a SYSTEM instruction: ECALL, EBREAK and every CSR write are illegal, and so is a read of an unknown CSR. -/
def decodeSystem (w : Nat) : Rv :=
  let rd := bitsOf w 11 7
  let f3 := bitsOf w 14 12
  let rs1 := bitsOf w 19 15
  let csr := bitsOf w 31 20
  if (f3 = 2 ∨ f3 = 3 ∨ f3 = 6 ∨ f3 = 7) ∧ rs1 = 0 ∧ csrKnown csr then .csrRead rd csr else .illegal

/-- Decode an instruction word. -/
def decodeRv (w : Nat) : Rv :=
  let rd := bitsOf w 11 7
  let f3 := bitsOf w 14 12
  let rs1 := bitsOf w 19 15
  let rs2 := bitsOf w 24 20
  let f7 := bitsOf w 31 25
  let immI := sext32 12 (bitsOf w 31 20)
  let immS := sext32 12 (bitsOf w 31 25 * 32 + bitsOf w 11 7)
  let immB := sext32 13 (bitAt w 31 * 4096 + bitAt w 7 * 2048 + bitsOf w 30 25 * 32 + bitsOf w 11 8 * 2)
  let immU := bitsOf w 31 12 * 4096
  let immJ := sext32 21 (bitAt w 31 * 1048576 + bitsOf w 19 12 * 4096 + bitAt w 20 * 2048 + bitsOf w 30 21 * 2)
  match bitsOf w 6 0 with
  | 0x37 => .lui rd immU
  | 0x17 => .auipc rd immU
  | 0x6F => .jal rd immJ
  | 0x67 => if f3 = 0 then .jalr rd rs1 immI else .illegal
  | 0x63 => if f3 = 2 ∨ f3 = 3 then .illegal else .branch f3 rs1 rs2 immB
  | 0x03 => if f3 = 3 ∨ f3 = 6 ∨ f3 = 7 then .illegal else .load f3 rd rs1 immI
  | 0x23 => if f3 ≤ 2 then .store f3 rs1 rs2 immS else .illegal
  | 0x13 =>
    if f3 = 1 then (if f7 = 0 then .opImm 1 false rd rs1 rs2 else .illegal)
    else if f3 = 5 then
      (if f7 = 0 then .opImm 5 false rd rs1 rs2 else if f7 = 0x20 then .opImm 5 true rd rs1 rs2 else .illegal)
    else .opImm f3 false rd rs1 immI
  | 0x33 =>
    if f7 = 1 then .mulDiv f3 rd rs1 rs2
    else if f7 = 0 then .op f3 false rd rs1 rs2
    else if f7 = 0x20 ∧ (f3 = 0 ∨ f3 = 5) then .op f3 true rd rs1 rs2
    else .illegal
  | 0x0F => if f3 ≤ 1 then .fence else .illegal
  | 0x73 => decodeSystem w
  | 0x0B => decodeCustom0 w
  | 0x2B => decodeCustom1 w
  | _ => .illegal

/-- The integer operations; `alt` selects SUB and SRA. -/
def alu (f3 : Nat) (alt : Bool) (a b : Nat) : Nat :=
  match f3 with
  | 0 => if alt then (a + 2 ^ 32 - b) % 2 ^ 32 else (a + b) % 2 ^ 32
  | 1 => a * 2 ^ (b % 32) % 2 ^ 32
  | 2 => if signedOf 32 a < signedOf 32 b then 1 else 0
  | 3 => if a < b then 1 else 0
  | 4 => a ^^^ b
  | 5 => if alt then unsignedOf 32 (signedOf 32 a / ((2 ^ (b % 32) : Nat) : Int)) else a / 2 ^ (b % 32)
  | 6 => a ||| b
  | _ => a &&& b

/-- Multiplication and division; division by zero and the signed overflow give the standard's results. -/
def mulDiv (f3 a b : Nat) : Nat :=
  let sa := signedOf 32 a
  let sb := signedOf 32 b
  match f3 with
  | 0 => a * b % 2 ^ 32
  | 1 => unsignedOf 32 (sa * sb / ((2 ^ 32 : Nat) : Int))
  | 2 => unsignedOf 32 (sa * (b : Int) / ((2 ^ 32 : Nat) : Int))
  | 3 => a * b / 2 ^ 32
  | 4 => if b = 0 then 2 ^ 32 - 1 else unsignedOf 32 (Int.tdiv sa sb)
  | 5 => if b = 0 then 2 ^ 32 - 1 else a / b
  | 6 => if b = 0 then a else unsignedOf 32 (Int.tmod sa sb)
  | _ => if b = 0 then a else a % b

/-- The branch conditions. -/
def branchTaken (f3 a b : Nat) : Bool :=
  match f3 with
  | 0 => a == b
  | 1 => a != b
  | 4 => decide (signedOf 32 a < signedOf 32 b)
  | 5 => decide (signedOf 32 b ≤ signedOf 32 a)
  | 6 => decide (a < b)
  | _ => decide (b ≤ a)

/-- R508: the counted cycles of a Sieve instruction. -/
def Sv.cycles : Sv → Nat
  | .axlen _ _ => 3
  | .tariff _ _ | .cdate _ _ _ => 40
  | .verd _ => 1
  | _ => 2

/-- R508: the counted cycles of a standard instruction; `taken` for a conditional branch. -/
def Rv.cycles (i : Rv) (taken : Bool) : Nat :=
  match i with
  | .load _ _ _ _ => 2
  | .branch _ _ _ _ => if taken then 3 else 1
  | .jal _ _ | .jalr _ _ _ => 3
  | .mulDiv f3 _ _ _ => if f3 < 4 then 2 else 34
  | .sv i => i.cycles
  | _ => 1

end Sys2Proof.Machine
end

