-- ==== Sys2Proof/Machine/PowerOps.lean ====
section
/-! DEFINITION. Operating modes as the other blocks see them: the mode's code, a change of mode, the degraded causes and the entry to DEGRADED (R422, R423, R433, R434). -/

namespace Sys2Proof.Machine

/-- R422: the operating modes. -/
inductive Mode where
  | backup | dormant | listen | tending | full | activate | degraded | lockdown
  deriving DecidableEq, Repr

/-- R422: the code of a mode. -/
def Mode.code : Mode → Nat
  | .backup => 0 | .dormant => 1 | .listen => 2 | .tending => 3 | .full => 4 | .activate => 5 | .degraded => 6
  | .lockdown => 7

/-- R422: the mode of a code. -/
def Mode.ofCode : Nat → Mode
  | 0 => .backup | 1 => .dormant | 2 => .listen | 3 => .tending | 4 => .full | 5 => .activate | 6 => .degraded
  | _ => .lockdown

/-- R422: the operating mode. -/
def State.mode (s : State) : Mode := Mode.ofCode (s.getF Reg.PWR_STAT_MODE)

/-- R422: is start-up running? -/
def State.startingUp (s : State) : Bool := s.getF Reg.PWR_STAT_BOOT_STEP != 0

/-- R282: the link of P3 goes up at 10 Mb/s, or down; a change is latched. -/
def State.p3Link (s : State) (up : Bool) : State :=
  if s.flag (Reg.ETHP_STAT_LINK 3) = up then s
  else ((s.setF (Reg.ETHP_STAT_LINK 3) (bitIf up 0)).setF (Reg.ETHP_STAT_SPEED 3) 0).irq (Reg.ETHP_IRQ_LINK_CHANGE 3)

/-- R282: P3's link goes down with the entry to DORMANT, and comes up again as the chip leaves it, where the port is enabled. -/
def State.p3Mode (s : State) (was : Mode) : State :=
  if s.mode = .dormant then s.p3Link false
  else if was = .dormant ∧ s.mode ≠ .backup ∧ s.flag (Reg.ETHP_CTRL_ENABLE 3) then s.p3Link true
  else s

/-- R12, R282, R423: a change of mode, latched and sent to the event recorder; the domains that the mode keeps on are started. -/
def State.toMode (s : State) (m : Mode) : State :=
  if s.mode = m then s
  else ((((s.setF Reg.PWR_STAT_MODE m.code).modeDomains m.code).p3Mode s.mode).irq Reg.PWR_IRQ_MODE_CHANGE).event .modeChange 0x02
    [BitVec.ofNat 8 s.mode.code, BitVec.ofNat 8 m.code]

/-- R427, R444: a start-up is due from a step, with a cause, given as its bit of `SYS.RESET_CAUSE`. -/
def State.dueStartup (s : State) (step cause : Nat) : State :=
  let c := s.getF Reg.SYS_RESET_CAUSE_CAUSE
  let s := (s.setF Reg.PWR_STAT_BOOT_STEP step).setF Reg.SYS_RESET_CAUSE_CAUSE (withBits c cause cause 1)
  { s with power := { s.power with cause := cause } }

/-- R423: DORMANT and LISTEN give way to a higher mode: LISTEN at once, TENDING and FULL by a start-up from step 2. -/
def State.riseTo (s : State) (target : Nat) : State :=
  if target = 2 then s.toMode .listen
  else
    let s := s.dueStartup 2 1
    { s with power := { s.power with target := some target } }

/-- R424: a wake source acts in DORMANT and LISTEN: it is latched, and a target above the present mode is taken. -/
def State.wake (s : State) (bit target : Nat) : State :=
  if (s.mode = .dormant ∨ s.mode = .listen) ∧ !s.startingUp then
    let s := (s.setF Reg.AON_WAKE_SRC_SRC (s.getF Reg.AON_WAKE_SRC_SRC ||| 2 ^ bit)).irq Reg.AON_IRQ_WAKE
    if target ≤ s.mode.code then s else s.riseTo target
  else s

/-- R424: the target that a field of `PWR.WAKE_CFG` names; 0 names none. -/
def State.wakeTarget (s : State) (f : Field) : Nat := if s.getF f = 0 then 0 else s.getF f + 1

/-- R122: the states of a lane. -/
inductive LaneState where
  | off | selftest | maint | service | fenced
  deriving DecidableEq, Repr

/-- R122: the code of a lane state. -/
def LaneState.code : LaneState → Nat
  | .off => 0 | .selftest => 1 | .maint => 2 | .service => 3 | .fenced => 4

/-- R122: the state of a code. -/
def LaneState.ofCode : Nat → LaneState
  | 0 => .off | 1 => .selftest | 2 => .maint | 3 => .service | _ => .fenced

/-- R122: the state of lane `n`. -/
def State.laneState (s : State) (n : Nat) : LaneState := LaneState.ofCode (s.getF (Reg.LANE_STAT_STATE n))

/-- R122: lane `n` enters a state. -/
def State.setLaneState (s : State) (n : Nat) (x : LaneState) : State := s.setF (Reg.LANE_STAT_STATE n) x.code

/-- The lanes in a state, in ascending order. -/
def State.lanesIn (s : State) (x : LaneState) : List Nat := (List.range 32).filter (fun n => s.laneState n == x)

/-- R418: the Cleaver units that run: all four while Cleaver is enabled and FABRIC runs. -/
def State.unitsReady (s : State) : Nat :=
  if s.flag Reg.CIPH_CTRL_ENABLE && s.domOn .fabric then 0xF else 0

/-- R433: the degraded causes, live. -/
def State.degCause (s : State) : Nat :=
  bitIf (!(s.lanesIn .fenced).isEmpty) 0 +
  bitIf (s.flag Reg.FTL_STAT_READ_ONLY) 1 +
  bitIf (s.flag Reg.FTL_STAT_DIE_FAILED) 2 +
  bitIf (s.flag Reg.FTL_STAT_SPARE_LOW) 3 +
  bitIf (s.flag Reg.TWIN_CTRL_ENABLE && s.getF Reg.TWIN_STAT_ROLE == 4 && !s.flag Reg.TWIN_STAT_PAIRED) 4 +
  bitIf (s.flag Reg.TWIN_STAT_TONGS_HALF) 5 +
  bitIf (s.flag Reg.PRP_CTRL_ENABLE && (s.lanADown || s.lanBDown)) 6 +
  bitIf (s.flag Reg.CIPH_CTRL_ENABLE && s.unitsReady != 0xF) 7 +
  bitIf (s.getF Reg.TRNG_STAT_STATE == 3) 8 +
  bitIf (s.flag Reg.TWIN_STAT_DISPUTE) 9

/-- R434: FULL becomes DEGRADED while an unmasked cause is present, and FULL again once none is. `causes` are
those present before the step that calls this; a cause that is new in DEGRADED adds a record. -/
def State.settle (s : State) (causes : Nat) : State :=
  let now := s.degCause &&& s.getF Reg.PWR_DEG_MASK_MASK
  let was := causes &&& s.getF Reg.PWR_DEG_MASK_MASK
  if s.mode = .full ∧ now ≠ 0 then
    ((s.toMode .degraded).irq Reg.PWR_IRQ_DEGRADED).event .degraded 0x02 (leBytes 2 now)
  else if s.mode = .degraded ∧ now - (now &&& was) ≠ 0 then s.event .degraded 0x02 (leBytes 2 now)
  else s

/-- A step after which the degraded causes are looked at again (R434). -/
def State.settling (s : State) (k : State → State) : State := (k s).settle s.degCause

end Sys2Proof.Machine
end

