-- ==== Sys2Proof/Machine/LaneOps.lean ====
section
/-! DEFINITION. What the lane commands share: a lane's memories (R94–R98), its effect buffer (R105–R109), the end of a frame (R110–R113), the lane map (R115–R117) and a fence (R124). -/

namespace Sys2Proof.Machine

/-! ## Frames in flight -/

/-- The frame or ordered item in flight with an order number. -/
def State.flight (s : State) (n : Nat) : Option Flight := sget none s.flights n

/-- Record a frame in flight, or its end. -/
def State.setFlight (s : State) (n : Nat) (fl : Option Flight) : State := { s with flights := sput none s.flights n fl }

/-- The meter index of a flight, for a frame. -/
def Flight.meter? (fl : Flight) : Option Nat :=
  match fl.body with
  | .frame f => some f.meter
  | .ordered _ => none

/-- The frame of a flight; for an ordered item a blank one. -/
def Flight.frame (fl : Flight) : Frame :=
  match fl.body with
  | .frame f => f
  | .ordered _ => {}

/-- The order numbers of the frames in flight that satisfy a test, in ascending key order. -/
def State.flightsWhere (s : State) (p : Nat → Flight → Bool) : List Nat :=
  s.flights.filterMap (fun e => match e.2 with
    | some fl => if p e.1 fl then some e.1 else none
    | none => none)

/-- R68: order number a precedes b, modulo 2^48. -/
def precedes (a b : Nat) : Bool :=
  let d := (b + 2 ^ 48 - a % 2 ^ 48) % 2 ^ 48
  decide (1 ≤ d) && decide (d ≤ 2 ^ 47 - 1)

/-- Insert an order number into a list sorted by R68. -/
def insertOrder (n : Nat) : List Nat → List Nat
  | [] => [n]
  | m :: r => if precedes n m then n :: m :: r else m :: insertOrder n r

/-- Sort order numbers by R68. -/
def sortOrders (l : List Nat) : List Nat := l.foldr insertOrder []

/-- Has a meter a frame in flight? -/
def State.meterInFlight (s : State) (m : Nat) : Bool := !(s.flightsWhere (fun _ fl => fl.meter? == some m)).isEmpty

/-! ## Lanes -/

/-- The lane of a number. -/
def State.lane (s : State) (n : Nat) : Lane := sget {} s.lanes n

/-- Replace a lane. -/
def State.setLane (s : State) (n : Nat) (l : Lane) : State := { s with lanes := sput {} s.lanes n l }

/-- R23: the base of a lane's aperture. -/
def aperture (n : Nat) : Nat := 0x20000000 + n * 0x20000

/-- R132: the address of meter record `i`. -/
def recordAddr (i : Nat) : Nat := 0x0800000000 + i * 0x400

/-- R19: the plaintext queue of a lane. -/
def plainQ (n : Nat) : Nat := 8 * (0x40 + n)

/-- A lane register; x0 reads 0. -/
def Lane.get (l : Lane) (r : Nat) : Nat := if r = 0 then 0 else sget 0 l.regs r

/-- Write a lane register; a write of x0 is discarded. -/
def Lane.put (l : Lane) (r v : Nat) : Lane := if r = 0 then l else { l with regs := sput 0 l.regs r (v % 2 ^ 32) }

/-- R111, R508: an instruction retires: the cycles count, the program counter moves on. -/
def Lane.retire (l : Lane) (cycles pc now : Nat) : Lane :=
  { l with cycles := l.cycles + cycles, lastPc := l.pc, pc := pc % 2 ^ 32, retiredAt := now }

/-! ## A lane's memories -/

/-- What a lane's load of one byte finds. -/
inductive ByteRead where
  | byte (b : Byte)
  | outside
  | stall
  | poison
  deriving DecidableEq, Repr

/-- R94–R98: the byte at a lane address as the running frame loads it. -/
def State.laneByte (s : State) (n : Nat) (fl : Flight) (a : Nat) : ByteRead :=
  let ap := aperture n
  if 0x8000 ≤ a ∧ a ≤ 0x83FF then .byte (s.byte (ap + a))
  else if 0xA000 ≤ a ∧ a ≤ 0xA3FF then
    let o := a - 0xA000
    if fl.plain.length ≤ o then .byte 0
    else if fl.arrived ≤ o then .stall
    else if fl.poisonWords.contains (o / 4) then .poison
    else .byte (fl.plain.getD o 0)
  else if 0x10000 ≤ a ∧ a ≤ 0x13FFF then
    .byte (s.byte (ap + a + s.getF (Reg.LANE_STAT_BANK n) * 0x4000))
  else if 0x18000 ≤ a ∧ a ≤ 0x1FFFF then
    if sget false (s.lane n).stored (a / 4) then .byte (s.byte (ap + a)) else .byte 0
  else .outside

/-- A load of several bytes. Outside the map wins over a stall, a stall over poison. -/
inductive Load where
  | ok (bs : Bytes)
  | outside
  | stall
  | poison
  deriving DecidableEq, Repr

/-- R95, R97, R113: load `k` bytes from a lane address; an address past the 32-bit space is outside the map. -/
def State.laneLoad (s : State) (n : Nat) (fl : Flight) (a k : Nat) : Load :=
  let rs := (List.range k).map (fun i => if a + i < 2 ^ 32 then s.laneByte n fl (a + i) else .outside)
  if rs.contains .outside then .outside
  else if rs.contains .stall then .stall
  else if rs.contains .poison then .poison
  else .ok (rs.map (fun r => match r with | .byte b => b | _ => 0))

/-- R96: store bytes to SCRATCH. The bytes of a word not yet stored in this frame read as 0. -/
def State.laneStore (s : State) (n a : Nat) (bs : Bytes) : State :=
  let l := s.lane n
  let w := a / 4
  let s := if sget false l.stored w then s else s.write (aperture n + w * 4) [0, 0, 0, 0]
  let s := s.write (aperture n + a) bs
  s.setLane n { l with stored := sput false l.stored w true }

/-- R94: the instruction word at the program counter, where it lies in the instruction bank. -/
def State.laneFetch (s : State) (n pc : Nat) : Option Nat :=
  if pc + 4 ≤ 0x4000 ∧ pc % 4 = 0 then
    some (s.readNat (aperture n + s.getF (Reg.LANE_STAT_BANK n) * 0x4000 + pc) 4)
  else none

/-! ## Effects -/

/-- R106: the 16 bytes of an effect entry. -/
def Effect.bytes (e : Effect) : Bytes :=
  leBytes 4 (e.kind * 2 ^ 28 + e.sub * 2 ^ 26 + e.order % 4096 * 2 ^ 14 + e.off) ++ leBytes 4 e.w1 ++ leBytes 4 e.w2 ++
    leBytes 4 e.w3

/-- R103: an effect on 1 KiB of record at a base address: EWR, EADD saturating, EMAX. Other kinds change none. -/
def State.applyEffect (s : State) (base : Nat) (e : Effect) : State :=
  match e.kind with
  | 1 => s.writeNat (base + e.off) 4 e.w1
  | 2 => s.writeNat (base + e.off) 8 (satAdd (2 ^ 64 - 1) (s.readNat (base + e.off) 8) (e.w1 + e.w2 * 2 ^ 32))
  | 3 =>
    if s.readNat (base + e.off) 4 < e.w1 then (s.writeNat (base + e.off) 4 e.w1).writeNat (base + e.off + 4) 4 e.w2
    else s
  | _ => s

/-- R108: the CRC over a frame's entries. -/
def effectsCrc (es : List Effect) : Nat := crc32c (es.flatMap Effect.bytes)

/-- The entries a lane holds for an order number, in program order. -/
def Lane.effectsOf (l : Lane) (order : Nat) : List Effect := l.effects.filter (fun e => e.order == order)

/-- R106: free the entries of an order number that is squashed, or that did not end with ACCEPT: from the newest position, so that the oldest stays where it is.
DESIGN CHOICE (log entry 96): where entries of other meters lie after them, those move down, so that the entries stay consecutive. -/
def Lane.freeEffects (l : Lane) (order : Nat) : Lane := { l with effects := l.effects.filter (fun e => e.order != order) }

/-- R106: put the entries of the effect buffer where the aperture shows them, and keep the use count. -/
def State.showEffects (s : State) (n : Nat) : State :=
  let l := s.lane n
  let t := (s.setF (Reg.LANE_EFFECT_USE_ENTRIES n) l.effects.length).peak (Reg.LANE_EFFECT_PEAK_ENTRIES n) l.effects.length
  (List.range l.effects.length).foldl (fun t i =>
    match l.effects[i]? with
    | some e => t.write (aperture n + 0x9000 + 16 * ((l.ring + i) % 256)) e.bytes
    | none => t) t

/-- Replace a lane and show its effect buffer. -/
def State.setLaneFx (s : State) (n : Nat) (l : Lane) : State := (s.setLane n l).showEffects n

/-! ## The end of a frame -/

/-- R97: the head of the plaintext queue leaves once the frame has ended and its last word has arrived. -/
def State.releasePlain (s : State) (n order : Nat) : State :=
  match (s.queue (plainQ n)).items with
  | i :: _ =>
    if i.body = .order order then
      match s.deq (plainQ n) with
      | some (_, t) => t
      | none => s
    else s
  | [] => s

/-- R110, R111: a lane ends its frame with a verdict: the verdict starts for Ladle with the CRC, entries of a
verdict other than ACCEPT are freed, the counts are kept. -/
def State.endFrame (s : State) (n order : Nat) (v : LaneVerdict) : State :=
  match s.flight order with
  | none => s.setLane n { s.lane n with running := none }
  | some fl =>
    let l := s.lane n
    let crc := effectsCrc (l.effectsOf order)
    let l' := { (if v = .accept then l else l.freeEffects order) with running := none, stalled := false, waiting := none }
    let s := s.setLaneFx n l'
    let s := s.setFlight order (some { fl with stage := .done, again := false, poisonRuns := 0 })
    let s := { s with verdicts := s.verdicts ++ [Verdict.mk n order v crc false] }
    let s := (s.setF (Reg.LANE_CYCLES_LAST_CYCLES n) l.cycles).peak (Reg.LANE_CYCLES_MAX_CYCLES n) (min l.cycles 1048575)
    let s := s.count (Reg.LANE_FRAMES_CNT n)
    if fl.plain.length ≤ fl.arrived then s.releasePlain n order else s

/-- R111: a hardware quarantine with its reason, at a program counter. -/
def State.hwQuarantine (s : State) (n order reason pc : Nat) : State :=
  let s := s.endFrame n order (.quarantine reason)
  let s := (s.count (Reg.LANE_HW_QUAR_CNT_CNT n)).count Reg.SIEV_HW_QUAR_CNT_CNT
  ((s.setF (Reg.LANE_FAULT_INFO_REASON n) reason).setF (Reg.LANE_FAULT_PC_PC n) pc).irq (Reg.LANE_IRQ_HW_QUAR n)

/-- R111: the hardware reasons. -/
def Reason.programFault : Nat := 0x800
@[inherit_doc Reason.programFault] def Reason.effectOverflow : Nat := 0x801
@[inherit_doc Reason.programFault] def Reason.wmaskDeny : Nat := 0x802
@[inherit_doc Reason.programFault] def Reason.cycleLimit : Nat := 0x803
@[inherit_doc Reason.programFault] def Reason.laneCounterMismatch : Nat := 0x810

/-! ## The lane map -/

/-- R115: the map entry of a group; at reset lane g mod 32. -/
def State.mapEntry (s : State) (g : Nat) : MapEntry := sget { lane := g % 32 } s.laneMap g

/-- Replace the map entry of a group. -/
def State.setMap (s : State) (g : Nat) (e : MapEntry) : State :=
  { s with laneMap := sput { lane := g % 32 } s.laneMap g e }

/-- R116: the lane to which a meter's new frames go. -/
def State.laneOf (s : State) (meter : Nat) : Nat :=
  let e := s.mapEntry (meter / 16)
  match e.src with
  | none => e.lane
  | some old => if bitAt e.moved (meter % 16) = 1 then e.lane else old

/-- R116: the groups that are moving. -/
def State.movingGroups (s : State) : List Nat := (s.laneMap.filter (fun e => e.2.src.isSome)).map (·.1)

/-- Does the map name a lane for some meter of a group? -/
def MapEntry.names (e : MapEntry) (n : Nat) : Bool := e.lane == n || e.src == some n

/-- R122: the groups that map to a lane, in ascending order. -/
def State.groupsOf (s : State) (n : Nat) : List Nat :=
  (List.range 65536).filter (fun g => (s.mapEntry g).names n)

/-- R124 step 4: the lanes in SERVICE in turn, from the lowest-numbered one above `n`, wrapping. -/
def State.turnFrom (s : State) (n : Nat) : List Nat :=
  let l := s.lanesIn .service
  l.filter (fun k => decide (n < k)) ++ l.filter (fun k => decide (k ≤ n))

/-- R116: a group's move is complete. -/
def State.moveDone (s : State) (g lane : Nat) : State :=
  (s.setMap g { lane := lane }).irq Reg.SIEV_IRQ_MOVE_DONE

/-- R117, R124 step 4: give one group of a fenced lane a lane. `pick` is the lane whose turn it is. -/
def State.reassign (s : State) (n g pick : Nat) : State :=
  let e := s.mapEntry g
  match e.src with
  | none => s.setMap g { lane := pick }
  | some src =>
    if src = n then
      -- the source is fenced: the rest of the group moves to the target; a fenced target is replaced too
      if s.laneState e.lane = .service then s.moveDone g e.lane else s.moveDone g pick
    else
      -- the target is fenced: the group takes a new target and goes on moving
      s.setMap g { e with lane := pick }

/-- R117, R124 step 4: give every group of a fenced lane to the lanes of `turn`, one after another. DESIGN CHOICE (log entry 79): a moving group whose source is
fenced, and which goes to its own target, uses up its turn too. -/
def State.reassignAll (s : State) (n : Nat) (turn : List Nat) : State :=
  ((s.groupsOf n).foldl (fun (t, i) g => (t.reassign n g (turn.getD (i % turn.length) 0), i + 1)) (s, 0)).1

/-! ## A fence -/

/-- R123: the fence causes by their codes. -/
def Cause.parity : Nat := 1
@[inherit_doc Cause.parity] def Cause.kat : Nat := 2
@[inherit_doc Cause.parity] def Cause.wdog : Nat := 3
@[inherit_doc Cause.parity] def Cause.effectCsum : Nat := 4
@[inherit_doc Cause.parity] def Cause.software : Nat := 5

/-- R112, R124: an uncommitted frame of a fenced lane is to run again: its lane verdict goes, its tag verdict
stays. A frame still at Cleaver first completes its tag check there. -/
def Flight.toRerun (fl : Flight) : Flight :=
  { fl with
    laneV := none, rerun := true, again := true, copy := [], arrived := 0, poisonWords := [],
    stage := if fl.stage = .decrypt ∨ fl.stage = .cleaver then fl.stage else .held }

/-- R124 steps 3 and 5: mark the frames of a set of order numbers to run again. -/
def State.markRerun (s : State) (l : List Nat) : State :=
  l.foldl (fun t n => match t.flight n with
    | some fl => t.setFlight n (some fl.toRerun)
    | none => t) s

/-- R124: fence a lane. -/
def State.fenceLane (s : State) (n cause off : Nat) : State :=
  s.settling fun s =>
    -- step 1
    let s := ((s.setLaneState n .fenced).setF (Reg.LANE_CTRL_FENCE n) 1).setF (Reg.LANE_CTRL_MAINT n) 1
    let s := (s.setF (Reg.LANE_FENCE_CAUSE_CAUSE n) cause).setF (Reg.LANE_FENCE_CAUSE_OFFSET n) off
    -- step 2
    let s := s.setLaneFx n { s.lane n with effects := [], ring := 0, running := none, stalled := false, waiting := none }
    let s := s.discardAll (plainQ n)
    -- step 3
    let s := { s with verdicts := s.verdicts.map (fun (v : Verdict) => if v.lane = n then { v with late := true } else v) }
    let s := s.markRerun (s.flightsWhere (fun _ fl => fl.meter?.isSome && fl.lane == n && !(fl.stage == .held && !fl.rerun)))
    -- step 4
    let turn := s.turnFrom n
    let s := if turn.isEmpty then { s with heldLanes := s.heldLanes ++ [n] } else s.reassignAll n turn
    -- steps 5 and 6
    let s := ((s.count Reg.SIEV_FENCE_CNT_CNT).irq Reg.SIEV_IRQ_FENCE).irq (Reg.LANE_IRQ_FENCED n)
    s.event .laneFenced (0x40 + n) [BitVec.ofNat 8 n, BitVec.ofNat 8 cause]

/-- R78, R112: the later frames of a flight's meter that have gone to the same lane; a frame that Funnel still holds, and that has not run, is none of them. -/
def State.dependants (s : State) (n order : Nat) (fl : Flight) : List Nat :=
  s.flightsWhere (fun k g => g.meter? == fl.meter? && g.lane == n && precedes order k && !(g.stage == .held && !g.rerun))

/-- R97: frames of a lane end: the words of theirs that are still to come keep their places in the plaintext queue, where they are dropped as they arrive. -/
def State.leavePlain (s : State) (n : Nat) (l : List Nat) : State :=
  let q := s.queue (plainQ n)
  if q.items.any (fun i => l.any (fun k => i.body == .order k)) then
    let left (k : Nat) : Nat := match s.flight k with
      | some fl => (fl.plain.length + 3) / 4 - (fl.arrived + 3) / 4
      | none => 0
    let keep := q.items.filterMap (fun i => match i.body with
      | .order k => if !l.contains k then some i else if left k = 0 then none else some { i with body := .words (left k) }
      | _ => some i)
    s.setQueue (plainQ n) { q with items := keep, credits := q.credits + (q.items.length - keep.length) }
  else s

/-- R112, R113: a frame that is to run again takes the later frames of its meter on the same lane with it: their
verdicts are cleared and their entries freed. -/
def State.squashFrom (s : State) (n order : Nat) (self : Bool) : State :=
  match s.flight order with
  | none => s
  | some fl =>
    let deps := s.dependants n order fl ++ (if self then [order] else [])
    let s := (s.leavePlain n deps).markRerun deps
    let s := { s with verdicts := s.verdicts.filter (fun v => !deps.contains v.order) }
    let l := deps.foldl Lane.freeEffects (s.lane n)
    let l := if (match l.running with | some r => deps.contains r | none => false) then { l with running := none, stalled := false, waiting := none } else l
    s.setLaneFx n l

end Sys2Proof.Machine
end

