-- ==== Sys2Proof/Machine/Records.lean ====
section
/-! DEFINITION. Meter records as their owners read and write them (R131–R133, R173), the reports of the billing engine (R201) and the tamper classes (R193). -/

namespace Sys2Proof.Machine

/-! ## Fields of a record -/

/-- A little-endian field of record `m`. -/
def State.recF (s : State) (m off n : Nat) : Nat := s.readNat (recordAddr m + off) n

/-- Write a little-endian field of record `m`. -/
def State.setRec (s : State) (m off n v : Nat) : State := s.writeNat (recordAddr m + off) n v

/-- R132: `FLAGS.VALID` of record `m`. -/
def State.recValid (s : State) (m : Nat) : Bool := bitAt (s.recF m 0x008 4) 0 == 1

/-- R2: the number of meters the role admits, as `DIR.ROLE_LIMIT` shows it. -/
def State.roleLimit (s : State) : Nat := s.getF Reg.DIR_ROLE_LIMIT_METERS

/-- The records that hold anything, in ascending index. A record with no listed byte is all 0, so not VALID. -/
def State.records (s : State) : List Nat :=
  ((s.mem.filterMap (fun e =>
    if 0x0800000000 ≤ e.1 ∧ e.1 < 0x0840000000 then some ((e.1 - 0x0800000000) / 0x400) else none))).eraseDups

/-- The VALID records, in ascending index. -/
def State.validRecords (s : State) : List Nat := s.records.filter s.recValid

/-! ## Interval lengths -/

/-- R40: the seconds of an interval length code. -/
def ilenSec (c : Nat) : Nat :=
  match c with
  | 0 => 60
  | 1 => 300
  | 2 => 900
  | 3 => 1800
  | _ => 3600

/-- The balance interval in seconds. -/
def State.balLen (s : State) : Nat := ilenSec (s.getF Reg.BAL_CFG_ILEN)

/-- The demand sub-interval in seconds. -/
def State.demLen (s : State) : Nat := ilenSec (s.getF Reg.BILL_DEM_CFG_SUB)

/-! ## Billing reports -/

/-- R201: place a report of the billing engine: kind, byte 1, meter index, order number, up to 16 bytes of data. With no credit
the item is dropped and counted. -/
def State.billReport (s : State) (kind b1 meter order : Nat) (data : Bytes) : State :=
  let item := leBytes 2 (kind + 256 * b1) ++ [0, 0] ++ leBytes 4 meter ++ leBytes 6 order ++ [0, 0] ++ slice data 0 16
  if s.hasCredit 0xB0 then s.enq 0xB0 { body := .bytes item }
  else (s.count Reg.BILL_RPT_DROP_CNT_CNT).irq Reg.BILL_IRQ_RPT_DROP

/-! ## Tamper classes -/

/-- R201: the handling bits of a tamper class: bit 0 REPORT, bit 1 BLOCK_TOKENS, bit 2 CLEAR_BY_METER. -/
def State.tamperCfg (s : State) (c : Nat) : Nat := bitsOf (s.getF Reg.BILL_TAMPER_CFG_CLASS) (4 * c + 3) (4 * c)

/-- R193: one class is set, at a meter time. A TAMPER_SET of the class BYPASS ends an inference. -/
def State.tamperSet1 (s : State) (m c time : Nat) (inferred : Bool) : State :=
  let t := s.recF m 0x380 4
  let t := t ||| 2 ^ c ||| 2 ^ (8 + c)
  let t := if c = 1 then withBits t 12 12 (if inferred then 1 else 0) else t
  let s := s.setRec m 0x380 4 t
  let s := s.setRec m (0x384 + c) 1 (satAdd 255 (s.recF m (0x384 + c) 1) 1)
  (s.setRec m (0x388 + 4 * c) 4 time).irq Reg.BILL_IRQ_TAMPER

/-- The classes among `mask` that satisfy a test. -/
def classesOf (mask : Nat) (p : Nat → Bool) : List Nat := [0, 1, 2, 3].filter (fun c => bitAt mask c == 1 && p c)

/-- The mask of a list of classes. -/
def classMask (l : List Nat) : Nat := (l.map (fun c => 2 ^ c)).sum

/-- R193: classes are set; those with REPORT give one TAMPER_SET report. -/
def State.tamperSet (s : State) (m mask time order : Nat) (inferred : Bool) : State :=
  let l := classesOf mask (fun _ => true)
  let s := l.foldl (fun t c => t.tamperSet1 m c time inferred) s
  let r := classMask (l.filter (fun c => bitAt (s.tamperCfg c) 0 == 1))
  if r = 0 then s else s.billReport 4 0 m order [BitVec.ofNat 8 r]

/-- R193: one class is cleared at a meter time. -/
def State.tamperClear1 (s : State) (m c time : Nat) : State :=
  let t := withBits (s.recF m 0x380 4) c c 0
  let t := if c = 1 then withBits t 12 12 0 else t
  (s.setRec m 0x380 4 t).setRec m (0x398 + 4 * c) 4 time

/-- R193: classes are cleared at a meter's word; one without CLEAR_BY_METER is refused and counted. -/
def State.tamperEnd (s : State) (m mask time order : Nat) : State :=
  let ok := classesOf mask (fun c => bitAt (s.tamperCfg c) 2 == 1)
  let no := classesOf mask (fun c => bitAt (s.tamperCfg c) 2 == 0)
  let s := s.count Reg.BILL_EVT_IGNORED_CNT_CNT no.length
  let s := ok.foldl (fun t c => t.tamperClear1 m c time) s
  let r := classMask (ok.filter (fun c => bitAt (s.tamperCfg c) 0 == 1))
  if r = 0 then s else s.billReport 5 0 m order [BitVec.ofNat 8 r]

/-- R166, R193: the balance engine hands over an inference, or its end, which clears the class only while it stands
by inference alone. A clear is refused and counted where the class lacks CLEAR_BY_METER. -/
def State.bypassHandOver (s : State) (m order : Nat) (set : Bool) : State :=
  let time := s.recF m 0x104 4
  if set then s.tamperSet m 2 time order true
  else if bitAt (s.recF m 0x380 4) 12 = 1 then
    if bitAt (s.tamperCfg 1) 2 = 0 then s.count Reg.BILL_EVT_IGNORED_CNT_CNT
    else
      let s := s.tamperClear1 m 1 time
      if bitAt (s.tamperCfg 1) 0 = 1 then s.billReport 5 0 m order [2] else s
  else s

end Sys2Proof.Machine
end

