-- ==== Sys2Proof/Machine/BalOps.lean ====
section
/-! DEFINITION. The balance engine's operations: nodes and slots (R151–R153, R160), a post (R153, R158, R159, R165), the evaluation (R161), the meter pass for one meter (R166–R168) and the reports (R170). -/

namespace Sys2Proof.Machine

/-! ## Nodes and slots -/

/-- R152: the address of a node's descriptor. -/
def nodeAddr (n : Nat) : Nat := 0x0867000000 + n * 0x40

/-- R152: the address of the slot of interval `j` of a node. -/
def slotAddr (n j : Nat) : Nat := 0x0868000000 + (n * 16 + j % 16) * 0x80

/-- A field of a node's descriptor. -/
def State.nodeF (s : State) (n off k : Nat) : Nat := s.readNat (nodeAddr n + off) k

/-- Write a field of a node's descriptor. -/
def State.setNode (s : State) (n off k v : Nat) : State := s.writeNat (nodeAddr n + off) k v

/-- A field of a slot. -/
def State.slotF (s : State) (n j off k : Nat) : Nat := s.readNat (slotAddr n j + off) k

/-- Write a field of a slot. -/
def State.setSlot (s : State) (n j off k v : Nat) : State := s.writeNat (slotAddr n j + off) k v

/-- R152: is a node VALID? -/
def State.nodeValid (s : State) (n : Nat) : Bool := bitAt (s.nodeF n 0 4) 2 == 1

/-- R151: the parent of a node, none at level 0. -/
def State.nodeParent (s : State) (n : Nat) : Option Nat :=
  if bitsOf (s.nodeF n 0 4) 1 0 = 0 then none else some (bitsOf (s.nodeF n 0 4) 31 16)

/-- The numbers of the nodes whose descriptor holds anything, in ascending order. -/
def State.nodesListed (s : State) : List Nat :=
  (s.mem.filterMap (fun e =>
    if 0x0867000000 ≤ e.1 ∧ e.1 < 0x0867400000 then some ((e.1 - 0x0867000000) / 0x40) else none)).eraseDups

/-- The VALID nodes, in ascending order. -/
def State.validNodes (s : State) : List Nat := s.nodesListed.filter s.nodeValid

/-- R163: is a node's descriptor or its slot of interval `j` unreadable? -/
def State.slotBad (s : State) (n j : Nat) : Bool := s.anyBad (nodeAddr n) 64 || s.anyBad (slotAddr n j) 128

/-- R153: a 72-bit accumulator: the slot field holds its low 64 bits. -/
def State.acc (s : State) (a : Nat) : Nat := s.readNat a 8 + 2 ^ 64 * sget 0 s.bal.high a

/-- R153: add to an accumulator, without saturation. -/
def State.accAdd (s : State) (a v : Nat) : State :=
  let x := (s.acc a + v) % 2 ^ 72
  let t := s.writeNat a 8 (x % 2 ^ 64)
  { t with bal := { t.bal with high := sput 0 t.bal.high a (x / 2 ^ 64) } }

/-- R157: clear the slot of interval `j` in every node: PHASE becomes EMPTY. -/
def State.clearSlots (s : State) (j : Nat) : State :=
  let hit (a : Nat) : Bool := decide (0x0868000000 ≤ a) && decide (a < 0x0870000000) && (a - 0x0868000000) / 0x80 % 16 == j % 16
  { s with
    mem := s.mem.filter (fun e => !hit e.1)
    bad := s.bad.filter (fun e => !hit e.1), soft := s.soft.filter (fun e => !hit e.1)
    bal := { s.bal with high := s.bal.high.filter (fun e => !hit e.1) } }

/-- R160: the first use of an EMPTY slot opens it for its interval. -/
def State.openSlot (s : State) (n j : Nat) : State :=
  if bitsOf (s.slotF n j 4 4) 1 0 = 0 then (s.setSlot n j 0 4 j).setSlot n j 4 4 (withBits (s.slotF n j 4 4) 1 0 1) else s

/-- R164: mark interval `j` of a node for a revision report. -/
def State.markRev (s : State) (n j : Nat) : State :=
  s.setNode n 0x1C 4 (s.nodeF n 0x1C 4 ||| 2 ^ (16 + j % 16))

/-- R163: a post to an unreadable slot is discarded, counted and sent to the event recorder. -/
def State.balDataErr (s : State) (n : Nat) : State :=
  (s.count Reg.BAL_DATA_ERR_CNT_CNT).event .dataError 0x15 (leBytes 2 n)

/-! ## Reports -/

/-- R170: the reports that wait enter the report queue while it has credit; with some left over, REPORT_STALL is 1. -/
def State.balFlush (s : State) : State :=
  let n := min s.bal.waiting.length (s.queue 0xA8).credits
  let t := (s.bal.waiting.take n).foldl (fun t b => t.enq 0xA8 { body := .bytes b }) s
  let t := { t with bal := { t.bal with waiting := s.bal.waiting.drop n } }
  if t.bal.waiting.isEmpty then t.setF Reg.BAL_STAT_REPORT_STALL 0
  else if t.flag Reg.BAL_STAT_REPORT_STALL then t
  else (t.setF Reg.BAL_STAT_REPORT_STALL 1).irq Reg.BAL_IRQ_REPORT_STALL

/-- R170: issue a report; it waits where the queue has no credit. -/
def State.balReport (s : State) (b : Bytes) : State :=
  State.balFlush { s with bal := { s.bal with waiting := s.bal.waiting ++ [slice b 0 64] } }

/-! ## Evaluation -/

/-- R161: what an evaluation gives. -/
structure BalEval where
  verdict : Nat
  loss : Int
  allow : Nat
  netHead : Int
  netOut : Int
  memCnt : Nat
  members : Nat
  childCnt : Nat
  children : Nat
  deriving DecidableEq, Repr

/-- R161: evaluate the slot of interval `j` of a node under a descriptor, from the on-time sums and, at a revision, the
late ones too. -/
def State.balEval (s : State) (d : Bytes) (n j : Nat) (late : Bool) : BalEval :=
  let a := slotAddr n j
  let sum (i : Nat) : Int := ((s.acc (a + 0x10 + 8 * i) + (if late then s.acc (a + 0x40 + 8 * i) else 0) : Nat) : Int)
  let netHead := sum 0 - sum 1
  let netMem := sum 2 - sum 3
  let netChild := sum 4 - sum 5
  let loss := netHead - netMem - netChild
  let thru := (sum 0 + sum 1).toNat
  let allow := leAt d 0x10 4 + thru * leAt d 0x14 4 / 1000000
  let stat := s.slotF n j 4 4
  let seen := bitAt stat 16 == 1 || (late && bitAt stat 17 == 1)
  let memCnt := s.slotF n j 8 4 + (if late then s.slotF n j 0x70 4 else 0)
  let cc := s.slotF n j 0x74 4
  let childCnt := bitsOf cc 15 0 + (if late then bitsOf cc 31 16 else 0)
  let members := bitsOf (leAt d 8 4) 19 0
  let children := bitsOf (leAt d 0xC 4) 15 0
  let verdict :=
    if s.slotBad n j then 5
    else if leAt d 4 4 = 0xFFFFFFFF ∨ !seen then 4
    else if memCnt < members ∨ childCnt < children then 3
    else if (allow : Int) < loss then 1
    else if loss < -(allow : Int) then 2
    else 0
  ⟨verdict, loss, allow, netHead, netMem + netChild, memCnt, members, childCnt, children⟩

/-- R161: L saturated to the signed 64-bit range. -/
def sat64 (i : Int) : Int := max (-(2 ^ 63 : Int)) (min (2 ^ 63 - 1) i)

/-- R171, R192: does an order number belong to what the journal replay at the last start-up has applied? -/
def State.isReplayed (s : State) (order : Nat) : Bool :=
  match s.path.replayed with
  | some n => !precedes n order
  | none => false

/-- R170: a CLOSE or REVISE item for a node under a descriptor. -/
def State.balFigures (s : State) (kind n j : Nat) (d : Bytes) (replayed : Bool) (e : BalEval) : Bytes :=
  [BitVec.ofNat 8 kind, BitVec.ofNat 8 e.verdict, BitVec.ofNat 8 (bitsOf (s.slotF n j 4 4) 15 8), if replayed then 1 else 0] ++
  leBytes 4 (n + bitsOf (leAt d 0 4) 1 0 * 2 ^ 16) ++ leBytes 4 j ++ leBytes 4 e.memCnt ++ leBytes 4 e.members ++
  leBytes 2 e.childCnt ++ leBytes 2 e.children ++ leBytes 8 (unsignedOf 64 (sat64 e.loss)) ++ leBytes 8 e.allow ++
  leBytes 8 (unsignedOf 64 e.netHead) ++ leBytes 8 (unsignedOf 64 e.netOut) ++ leBytes 4 (s.slotF n j 0xC 4)

/-- R163: DATA_ERROR given to a node is latched and sent to the event recorder. -/
def State.noteVerdict (s : State) (n v : Nat) : State :=
  if v = 5 then (s.irq Reg.BAL_IRQ_DATA_ERR).event .dataError 0x15 (leBytes 2 n) else s

/-- R164: the revision of one interval of a node: the slot is evaluated with the late sums and the descriptor in force, REV
counts, a REVISE report is issued, the mark goes. -/
def State.reviseOne (s : State) (replayed : Bool) (n b : Nat) : State :=
  let s := s.setNode n 0x1C 4 (withBits (s.nodeF n 0x1C 4) (16 + b) (16 + b) 0)
  let j := s.slotF n b 0 4
  let d := s.read (nodeAddr n) 64
  let e := s.balEval d n b true
  let st := s.slotF n b 4 4
  let st := withBits (withBits st 15 8 (satAdd 255 (bitsOf st 15 8) 1)) 6 4 e.verdict
  let s := (s.setSlot n b 4 4 st).setSlot n b 0x78 8 e.allow
  let s := ((s.count Reg.BAL_REVISION_CNT_CNT).irq Reg.BAL_IRQ_REVISED).noteVerdict n e.verdict
  s.balReport (s.balFigures 2 n j d replayed e)

/-- R162: the descriptor of a node as the marker of a sweep found it. -/
def BalSweep.desc (w : BalSweep) (n : Nat) : Option Bytes := (w.nodes.find? (fun e => e.1 == n)).map (·.2)

/-- R162: has a queued sweep still to close a node? -/
def BalSweep.covers (w : BalSweep) (n : Nat) : Bool :=
  !w.nodesDone && decide (w.node ≤ n) && !w.earlyNodes.contains n && w.nodes.any (fun e => e.1 == n)

/-- R162, R164: is the interval of slot `b` of a node still to be closed by a queued sweep? Its revision waits for that. -/
def State.closePending (s : State) (n b : Nat) : Bool :=
  bitsOf (s.slotF n b 4 4) 1 0 != 2 && s.bal.sweeps.any (fun w => w.k % 16 == b && w.covers n)

/-- R164: every interval of a node marked in REV_PEND, by slot. -/
def State.reviseNode (s : State) (replayed : Bool) (n : Nat) : State :=
  let pend := bitsOf (s.nodeF n 0x1C 4) 31 16
  ((List.range 16).filter (fun b => bitAt pend b == 1 && !s.closePending n b)).foldl (fun t b => t.reviseOne replayed n b) s

/-- R162: the node pass of a sweep for one node, under the descriptor `d` in force at the close. -/
def State.closeNode (s : State) (w : BalSweep) (n : Nat) (d : Bytes) : State :=
  let k := w.k
  let s := s.openSlot n k
  let e := s.balEval d n k false
  let st := withBits (withBits (s.slotF n k 4 4) 1 0 2) 6 4 e.verdict
  let s := (s.setSlot n k 4 4 st).setSlot n k 0x78 8 e.allow
  let s := (s.setNode n 0x1C 4 (withBits (s.nodeF n 0x1C 4) 2 0 e.verdict)).setNode n 0x20 4 k
  let s := s.noteVerdict n e.verdict
  let s := if e.verdict ≠ 0 ∨ bitAt (leAt d 0 4) 4 = 1 then s.balReport (s.balFigures 1 n k d (s.isReplayed w.order) e) else s
  s.reviseNode (s.isReplayed w.order) n

/-- R155, R162: before a NODE_DEL takes a node away, the closes that were ordered before it and have not reached the node are made. -/
def State.closeEarly (s : State) (n : Nat) : State :=
  (s.bal.sweeps.filter (fun w => w.covers n)).foldl (fun (t : State) w =>
    let u := t.closeNode w n ((w.desc n).getD [])
    let bad := if bitsOf (u.nodeF n 0x1C 4) 2 0 = 0 then 0 else 1
    { u with bal := { u.bal with sweeps := u.bal.sweeps.map (fun v =>
        if v.order = w.order then { v with earlyNodes := n :: v.earlyNodes, unbalanced := v.unbalanced + bad } else v) } }) s

/-! ## The meter pass -/

/-- The integer square root, bit by bit from bit `n − 1` down, above a partial root `r`. -/
def isqrtFrom (v : Nat) : Nat → Nat → Nat
  | 0, r => r
  | n + 1, r => isqrtFrom v n (if (r + 2 ^ n) * (r + 2 ^ n) ≤ v then r + 2 ^ n else r)

/-- The floor of the square root of a value below 2^256. -/
def isqrt (v : Nat) : Nat := isqrtFrom v 128 0

/-- R168: a sum decays by its 96th part, truncated towards zero. -/
def decay96 (x : Int) : Int := x - x.tdiv 96

/-- R169: bits of the meter's AUDIT_STAT. -/
def State.auditBits (s : State) (m hi lo : Nat) : Nat := bitsOf (s.recF m 0x338 4) hi lo

/-- Write bits of the meter's AUDIT_STAT. -/
def State.setAudit (s : State) (m hi lo v : Nat) : State := s.setRec m 0x338 4 (withBits (s.recF m 0x338 4) hi lo v)

/-- R170: a meter report. -/
def meterReport (kind m k : Nat) (tail : Bytes) : Bytes := leBytes 4 kind ++ leBytes 4 m ++ leBytes 4 k ++ tail

/-- R168: the judgement once W is 96: FLAT, or R_LAST. -/
def State.auditJudge (s : State) (m : Nat) (sx sy sxx syy sxy : Int) : State :=
  let dx := 96 * sxx - sx * sx
  let dy := 96 * syy - sy * sy
  let nxy := 96 * sxy - sx * sy
  if dy < (s.getF Reg.BAL_AUDIT_CFG_VAR_MIN * 96 * 96 : Nat) ∨ dx ≤ 0 then s.setAudit m 18 18 1
  else
    let q := Int.tdiv (32768 * nxy) (isqrt (dx * dy).toNat : Nat)
    (s.setAudit m 18 18 0).setRec m 0x33C 2 (unsignedOf 16 (max (-32768) (min 32767 q)))

/-- R168: each judgement below R_MIN sets MISMAP with a report; one at R_MIN + 1,638 or above clears it with a report. -/
def State.auditMark (s : State) (m k node : Nat) : State :=
  let r := signedOf 16 (s.recF m 0x33C 2)
  let rmin := signedOf 16 (s.getF Reg.BAL_AUDIT_CFG_R_MIN)
  let tail := leBytes 2 (s.recF m 0x33C 2) ++ leBytes 2 node
  if s.auditBits m 7 0 ≠ 96 ∨ s.auditBits m 18 18 = 1 then s
  else if r < rmin then
    let t := if s.auditBits m 16 16 = 1 then s else (s.setAudit m 16 16 1).count Reg.BAL_MISMAP_NOW_METERS
    (t.irq Reg.BAL_IRQ_MISMAP).balReport (meterReport 3 m k tail)
  else if s.auditBits m 16 16 = 1 ∧ rmin + 1638 ≤ r then
    let s := s.setAudit m 16 16 0
    (s.setF Reg.BAL_MISMAP_NOW_METERS (s.getF Reg.BAL_MISMAP_NOW_METERS - 1)).balReport (meterReport 4 m k tail)
  else s

/-- R168: the audit of a meter against its reference node, for interval `k`; `nom` is that node's NOM_V. -/
def State.auditMeter (s : State) (m k node nom : Nat) : State :=
  let v := s.recF m (0x310 + 2 * (k % 16)) 2
  let h := s.slotF node k 0xC 4 / 25
  let hv := s.slotF node k 0xC 4
  if bitAt (s.recF m 0x304 4) (16 + k % 16) = 0 ∨ v = 0 ∨ hv = 0 then s
  else
    let x : Int := (v : Int) - nom
    let y : Int := (h : Int) - nom
    let old (i : Nat) : Int := signedOf 64 (s.recF m (0x340 + 8 * i) 8)
    let sx := decay96 (old 0) + x
    let sy := decay96 (old 1) + y
    let sxx := decay96 (old 2) + x * x
    let syy := decay96 (old 3) + y * y
    let sxy := decay96 (old 4) + x * y
    let s := ([sx, sy, sxx, syy, sxy].foldl (fun (t, i) z => (t.setRec m (0x340 + 8 * i) 8 (unsignedOf 64 z), i + 1)) (s, 0)).1
    let w := s.auditBits m 7 0
    let w := w - w / 96 + 1
    let s := s.setAudit m 7 0 w
    let s := if w = 96 then s.auditJudge m sx sy sxx syy sxy else s
    s.auditMark m k node

/-- R166: BYPASS is set, or cleared, with its report, and the inference goes to the billing engine. -/
def State.setBypass (s : State) (m k order node : Nat) (on : Bool) : State :=
  let s := s.setAudit m 17 17 (if on then 1 else 0)
  let tail := [BitVec.ofNat 8 (s.auditBits m 15 8), 0] ++ leBytes 2 node
  let s := if on then (s.count Reg.BAL_BYPASS_NOW_METERS).irq Reg.BAL_IRQ_BYPASS
    else s.setF Reg.BAL_BYPASS_NOW_METERS (s.getF Reg.BAL_BYPASS_NOW_METERS - 1)
  let s := s.balReport (meterReport (if on then 5 else 6) m k tail)
  if s.flag Reg.BILL_CTRL_ENABLE then s.bypassHandOver m order on else s

/-- R166: the bypass score of a MEMBER meter for interval `k`, under its node's verdict at the close. -/
def State.scoreMeter (s : State) (m k order node verdict : Nat) : State :=
  if bitAt (s.recF m 0x304 4) (16 + k % 16) = 0 then s
  else
    let sc := s.auditBits m 15 8
    let sc' := if verdict = 1 ∧ bitAt (s.recF m 0x308 4) (k % 16) = 1 then satAdd 255 sc 1
      else if verdict = 0 then sc - 1 else sc
    let s := s.setAudit m 15 8 sc'
    if s.getF Reg.BAL_BYPASS_CFG_TRIP ≤ sc' ∧ s.auditBits m 17 17 = 0 then s.setBypass m k order node true
    else if sc' = 0 ∧ s.auditBits m 17 17 = 1 then s.setBypass m k order node false
    else s

/-- R162, R167: the node whose HEAD_V is a meter's reference, with its NOM_V, where the meter is audited, under the descriptors in force at the close. -/
def BalSweep.auditRef (w : BalSweep) (role node : Nat) : Option (Nat × Nat) :=
  let r := if role = 1 then some node
    else (w.desc node).bind (fun d => if bitsOf (leAt d 0 4) 1 0 = 0 then none else some (bitsOf (leAt d 0 4) 31 16))
  r.bind (fun n => (w.desc n).bind (fun d => if leAt d 4 4 = 0xFFFFFFFF then none else some (n, leAt d 0x18 2)))

/-- R162: the meter pass for one meter. The verdict is that of the on-time sums under the descriptor in force at the
close. -/
def State.meterPass1 (s : State) (w : BalSweep) (m : Nat) : State :=
  let asg := s.recF m 0x300 4
  let node := bitsOf asg 15 0
  let role := bitsOf asg 17 16
  if role = 0 then s
  else
    let s := match w.desc node, role with
      | some d, 1 => s.scoreMeter m w.k w.order node (s.balEval d node w.k false).verdict
      | _, _ => s
    match w.auditRef role node with
    | some (r, nom) => s.auditMeter m w.k r nom
    | none => s

/-- R162: before an ordered command changes a meter's balance area, the closes that were ordered before it and have not
reached the meter are applied to it. -/
def State.balEarly (s : State) (m : Nat) : State :=
  let s := s.bal.sweeps.foldl (fun t w =>
    if w.early.contains m || (w.nodesDone && decide (m < w.meter)) then t else t.meterPass1 w m) s
  { s with bal := { s.bal with sweeps := s.bal.sweeps.map (fun w =>
      if w.early.contains m || (w.nodesDone && decide (m < w.meter)) then w else { w with early := w.early ++ [m] }) } }

/-! ## Posts -/

/-- R158: the class of a post for an interval, while a marker has been applied. -/
inductive PostClass where
  | future | expired | onTime | late
  deriving DecidableEq, Repr

/-- R158: classify a post. -/
def State.postClass (s : State) (j : Nat) : PostClass :=
  let cur := s.getF Reg.BAL_CUR_IVL_IVL
  if cur + 1 < j then .future
  else if j + 14 < cur ∨ j < s.getF Reg.BAL_FIRST_IVL_IVL then .expired
  else if !s.bal.closedAny ∨ s.getF Reg.BAL_CLOSED_IVL_IVL < j then .onTime
  else .late

/-- A 32-bit counter of a meter's record, saturating. -/
def State.recCount (s : State) (m off : Nat) : State := s.setRec m off 4 (satAdd (2 ^ 32 - 1) (s.recF m off 4) 1)

/-- R159: a post that raises LAST_IVL clears the meter's bits and voltages for the intervals up to it. -/
def State.raiseIvl (s : State) (m j : Nat) : State :=
  let last := s.recF m 0x30C 4
  if j ≤ last then s
  else
    let l := (List.range (min 16 (j - last))).map (fun i => (j - i) % 16)
    let s := l.foldl (fun t b =>
      ((t.setRec m 0x304 4 (withBits (withBits (t.recF m 0x304 4) b b 0) (16 + b) (16 + b) 0)).setRec m 0x308 4
        (withBits (t.recF m 0x308 4) b b 0)).setRec m (0x310 + 2 * b) 2 0) s
    s.setRec m 0x30C 4 j

/-- Add 1 to a bit field of a slot word. -/
def State.slotCount (s : State) (n j off hi lo : Nat) : State :=
  let w := s.slotF n j off 4
  s.setSlot n j off 4 (withBits w hi lo (bitsOf w hi lo + 1))

/-- R159: the first post of a meter for an interval counts it as present in its node, where the node's slot can be read, and in the parent's children. -/
def State.firstPost (s : State) (m j node role : Nat) (nodeOk : Bool) (parent : Option Nat) (onTime : Bool) : State :=
  let b := j % 16
  let w := s.recF m 0x304 4
  if bitAt w b = 1 then s
  else
    let w := withBits w b b 1
    let s := s.setRec m 0x304 4 (if onTime then withBits w (16 + b) (16 + b) 1 else w)
    if role = 1 then (if nodeOk then s.slotCount node j (if onTime then 8 else 0x70) 31 0 else s)
    else
      let bit := if onTime then 16 else 17
      let s := if nodeOk then s.setSlot node j 4 4 (withBits (s.slotF node j 4 4) bit bit 1) else s
      match parent with
      | some p => if onTime then s.slotCount p j 0x74 15 0 else s.slotCount p j 0x74 31 16
      | none => s

/-- R165: an on-time import post of a MEMBER meter: the LOW bit, then the baseline while the node's LAST is BALANCED. -/
def State.baseline (s : State) (m j node imp : Nat) : State :=
  let base := s.recF m 0x330 8
  let s := if 16 * s.getF Reg.BAL_BYPASS_MIN_MWH ≤ base ∧ 4096 * imp < base * s.getF Reg.BAL_BYPASS_CFG_RATIO then
    s.setRec m 0x308 4 (withBits (s.recF m 0x308 4) (j % 16) (j % 16) 1) else s
  if bitsOf (s.nodeF node 0x1C 4) 2 0 = 0 then s.setRec m 0x330 8 (base - base / 16 + imp) else s

/-- R163: a post to the slot of interval `j` of a node: can it be taken? One to an unreadable slot is discarded and counted. -/
def State.slotOpen (s : State) (n j : Nat) : Bool × State := if s.slotBad n j then (false, s.balDataErr n) else (true, s.openSlot n j)

/-- R153, R163: the energy of a post, import (`sub` 0) or export (1), to the sums of the slots that can take it. `base` is 0x10 for the on-time sums, 0x40 for the
late ones. -/
def State.addEnergy (s : State) (j sub value base node role : Nat) (nodeOk : Bool) (parent : Option Nat) : State :=
  let s := if nodeOk then s.accAdd (slotAddr node j + base + (if role = 1 then 16 else 0) + 8 * sub) value else s
  match parent with
  | some p => s.accAdd (slotAddr p j + base + 32 + 8 * sub) value
  | none => s

/-- R153: a voltage post on time: the meter's own ring, and for a HEAD the slot of its node. -/
def State.addVoltage (s : State) (m j value node role : Nat) (nodeOk : Bool) : State :=
  let s := s.setRec m (0x310 + 2 * (j % 16)) 2 (min 65535 (value / 25))
  if role = 2 ∧ nodeOk then s.setSlot node j 0xC 4 value else s

/-- R153, R159, R163, R165: a post that is taken, on time or late. `sub` is 0 import, 1 export, 2 voltage. A slot that cannot be read takes no part of it; the other
parts go on. -/
def State.takePost (s : State) (m j sub value node role : Nat) (onTime : Bool) : State :=
  let (nodeOk, s) := s.slotOpen node j
  let (parent, s) := match if role = 2 then s.nodeParent node else none with
    | some p =>
      let (ok, s) := s.slotOpen p j
      (if ok then some p else none, s)
    | none => (none, s)
  if !nodeOk && parent.isNone && !(sub == 2 && role == 1) then s
  else
    let s := (s.raiseIvl m j).firstPost m j node role nodeOk parent onTime
    let s := if sub = 2 then (if onTime then s.addVoltage m j value node role nodeOk else s)
      else s.addEnergy j sub value (if onTime then 0x10 else 0x40) node role nodeOk parent
    let s := if onTime ∧ role = 1 ∧ sub = 0 ∧ nodeOk then s.baseline m j node value else s
    if onTime then s
    else
      let s := (s.count Reg.BAL_LATE_CNT_CNT).recCount m 0x368
      let s := if nodeOk then s.markRev node j else s
      match parent with
      | some p => s.markRev p j
      | none => s

/-- R153, R158: a post of a committed frame's meter. -/
def State.balPost (s : State) (m j sub value : Nat) : State :=
  if !s.flag Reg.BAL_CTRL_ENABLE then s
  else
    let asg := s.recF m 0x300 4
    let node := bitsOf asg 15 0
    let role := bitsOf asg 17 16
    if role = 0 then s.count Reg.BAL_UNASSIGNED_CNT_CNT
    else if !s.flag Reg.BAL_STAT_STARTED then s.count Reg.BAL_NOT_STARTED_CNT_CNT
    else match s.postClass j with
    | .future => (s.count Reg.BAL_FUTURE_CNT_CNT).recCount m 0x36C
    | .expired =>
      let s := s.setNode node 0x24 4 (satAdd (2 ^ 32 - 1) (s.nodeF node 0x24 4) 1)
      (s.count Reg.BAL_EXPIRED_CNT_CNT).recCount m 0x36C
    | c => s.takePost m j sub value node role (c == .onTime)

/-! ## Markers -/

/-- R163: must the marker for boundary `m` wait, because the slot it clears has not been swept or revised? -/
def State.markerWaits (s : State) (m : Nat) : Bool :=
  s.bal.sweeps.any (fun w => decide (w.k + 15 ≤ m)) ||
    s.validNodes.any (fun n => bitAt (s.nodeF n 0x1C 4) (16 + (m + 1) % 16) == 1)

/-- R157: Ladle applies the marker for boundary `m`. -/
def State.applyMarker (s : State) (m order : Nat) : State :=
  let s := s.setF Reg.BAL_STAT_MARKER_WAIT 0
  let first := !s.flag Reg.BAL_STAT_STARTED
  let s := if first then (s.setF Reg.BAL_STAT_STARTED 1).setF Reg.BAL_FIRST_IVL_IVL m else s
  let s := (s.setF Reg.BAL_CUR_IVL_IVL m).clearSlots (m + 1)
  let s := if first then s.clearSlots m else s
  let g := s.getF Reg.BAL_CFG_GRACE
  if m < 1 + g ∨ m - 1 - g < s.getF Reg.BAL_FIRST_IVL_IVL then s
  else
    let k := m - 1 - g
    let w : BalSweep := { k := k, order := order, nodes := s.validNodes.map (fun n => (n, s.read (nodeAddr n) 64)) }
    let s := s.setF Reg.BAL_CLOSED_IVL_IVL k
    { s with bal := { s.bal with closedAny := true, sweeps := s.bal.sweeps ++ [w] } }

end Sys2Proof.Machine
end

