-- ==== Sys2Proof/Machine/BillOps.lean ====
section
/-! DEFINITION. The billing engine's operations: demand posts and windows (R183–R185), the close and its snapshot (R187–R190), checkpoints (R191), the credit (R197), and what precedes a write of a record (R188, R191). -/

namespace Sys2Proof.Machine

/-- R361: the state of a NAND volume as `VOL_INFO.STATE` codes it. -/
def State.volState (s : State) : Nat :=
  if !s.flag Reg.FTL_STAT_MOUNTED then 3 else if s.flag Reg.FTL_STAT_READ_ONLY then 1 else 0

/-! ## Demand -/

/-- R183: DEM_LAST becomes `k`; the entries and PARTIAL bits above the old one are cleared. -/
def State.advanceDem (s : State) (m k : Nat) : State :=
  let last := s.recF m 0x1D8 4
  if k ≤ last then s
  else
    let l := (List.range (min 32 (k - last))).map (fun i => (k - i) % 32)
    let s := l.foldl (fun t b =>
      ((t.setRec m (0x200 + 4 * b) 4 0).setRec m (0x280 + 4 * b) 4 0).setRec m 0x1DC 4 (withBits (t.recF m 0x1DC 4) b b 0)) s
    s.setRec m 0x1D8 4 k

/-- R181, R183: a committed energy post for balance interval `j`; `exp` for an export. -/
def State.demPost (s : State) (m j value : Nat) (exp : Bool) : State :=
  if !s.flag Reg.BILL_CTRL_ENABLE then s
  else
    let k := j * s.balLen / s.demLen
    if s.getF Reg.BILL_DEM_CUR_K < k ∨ k ≤ s.getF Reg.BILL_DEM_CLOSED_K then s.count Reg.BILL_DEM_LATE_CNT_CNT
    else
      let s := s.advanceDem m k
      let a := (if exp then 0x280 else 0x200) + 4 * (k % 32)
      s.setRec m a 4 (satAdd (2 ^ 32 - 1) (s.recF m a 4) value)

/-- R185: the end of an outage at meter time `e`. The sub-intervals at or below DEM_CLOSED are counted; those above are marked, each in the bit that it has, and
DEM_LAST moves up so that a later post keeps the marks (DEDUCED, log entry 20). -/
def State.outageEnd (s : State) (m e : Nat) : State :=
  let ls := s.demLen
  let since := s.recF m 0x1D4 4
  let lo := (if since = 0 then e else since) / ls
  let hi := e / ls
  let closed := s.getF Reg.BILL_DEM_CLOSED_K
  let from_ := max lo (closed + 1)
  let marked := min 32 (hi + 1 - from_)
  let s := s.count Reg.BILL_DEM_LATE_CNT_CNT (min hi closed + 1 - lo)
  let s := if marked = 0 then s else s.advanceDem m (min hi (s.getF Reg.BILL_DEM_CUR_K))
  let s := (List.range marked).foldl (fun t i =>
    let b := (from_ + i) % 32
    t.setRec m 0x1DC 4 (withBits (t.recF m 0x1DC 4) b b 1)) s
  s.setRec m 0x1D4 4 0

/-- R182: a billing event of a committed frame; `time` is the frame's READ_TIME where it wrote one. A tamper class takes its time from the data word where there
is none (R193; DEDUCED, log entry 85). -/
def State.billEvent (s : State) (m order code data : Nat) (time : Option Nat) : State :=
  if !s.flag Reg.BILL_CTRL_ENABLE then s
  else match code with
  | 0xF001 => if s.recF m 0x1D4 4 = 0 then s.setRec m 0x1D4 4 data else s.count Reg.BILL_EVT_IGNORED_CNT_CNT
  | 0xF002 => s.outageEnd m data
  | 0xF010 => s.tamperSet m (data % 16) (time.getD data) order false
  | 0xF011 => s.tamperEnd m (data % 16) (time.getD data) order
  | _ => s.count Reg.BILL_EVT_IGNORED_CNT_CNT

/-- R184: the rate recorded for a calendar when a sub-interval began; none where it was not resolved. -/
def State.rateAt (s : State) (c cal : Nat) : Option Nat :=
  let v := (sget [] s.bill.rates c).getD cal calNone
  if calNone ≤ v then none else some (v % 8)

/-- R183: has the record an entry and a PARTIAL bit of sub-interval `i`? -/
def State.ringHolds (s : State) (m i : Nat) : Bool := decide (i ≤ s.recF m 0x1D8 4) && decide (s.recF m 0x1D8 4 < i + 32)

/-- R184: ring entry of sub-interval `i`; one that the meter never posted reads as 0. -/
def State.ringAt (s : State) (m i src : Nat) : Nat :=
  if s.ringHolds m i then s.recF m ((if src = 1 then 0x280 else 0x200) + 4 * (i % 32)) 4 else 0

/-- R184: the demand window of MD[k] at the close of sub-interval `c`. -/
def State.demWindow (s : State) (m c k : Nat) : State :=
  let cfg := s.recF m (0x108 + 2 * k) 2
  let win := bitsOf cfg 3 0
  let cal := bitsOf (s.recF m 0x100 4) 5 0
  if win = 0 ∨ (bitAt cfg 5 = 1 ∧ s.rateAt c cal ≠ some (bitsOf cfg 8 6)) then s
  else
    let n := win
    let subs := (List.range n).filterMap (fun i => if i ≤ c then some (c - i) else none)
    let e := (subs.map (fun i => s.ringAt m i (bitAt cfg 4))).sum
    let d := e * 36 / (10 * n * s.demLen)
    let since := s.recF m 0x1D4 4
    let p := subs.any (fun i => s.ringHolds m i && bitAt (s.recF m 0x1DC 4) (i % 32) == 1) ||
      (since != 0 && decide (since / s.demLen ≤ c))
    if s.recF m (0x1B0 + 8 * k) 4 < d then
      let s := (s.setRec m (0x1B0 + 8 * k) 4 d).setRec m (0x1B4 + 8 * k) 4 ((c + 1) * s.demLen)
      s.setRec m 0x1D0 4 (withBits (s.recF m 0x1D0 4) k k (if p then 1 else 0))
    else s

/-- R184: the demand sweep of sub-interval `c` on one record. -/
def State.demPass1 (s : State) (c m : Nat) : State := [0, 1, 2, 3].foldl (fun t k => t.demWindow m c k) s

/-! ## Boundaries -/

/-- R180: billing local time at a UTC second. -/
def State.billLocalAt (s : State) (at_ : Nat) : Int := (at_ : Int) + s.gen.off * 900 + s.gen.dst * 3600

/-- R180: billing local time. -/
def State.billLocal (s : State) : Int := s.billLocalAt s.utcSec

/-- R187: the local time of boundary `b`. -/
def State.boundaryAt (s : State) (b : Nat) : Nat :=
  let min := s.getF Reg.BILL_CLOSE_CFG_MIN
  if s.getF Reg.BILL_CLOSE_CFG_MODE = 0 then
    dayOf (2000 + b / 12) (b % 12 + 1) (s.getF Reg.BILL_CLOSE_CFG_DAY) * 86400 + min * 60
  else b * 86400 + min * 60

/-- R187: the last boundary at or before a local time; 0 where there is none. -/
def State.lastBoundary (s : State) (l : Nat) : Nat :=
  if s.getF Reg.BILL_CLOSE_CFG_MODE = 0 then
    let dt := dateOf (l / 86400)
    let b := (dt.y - 2000) * 12 + dt.m - 1
    if s.boundaryAt b ≤ l then b else b - 1
  else (l - s.getF Reg.BILL_CLOSE_CFG_MIN * 60) / 86400

/-! ## The close of a record -/

/-- R188: the 256-byte snapshot of a record at boundary `b`. -/
def State.snapshot (s : State) (m b : Nat) (skipped : Bool) : Bytes :=
  let r := s.read (recordAddr m) 0x400
  slice (slice r 0 8 ++ leBytes 4 m ++ leBytes 4 b ++ slice r 0x120 0x80 ++ slice r 0x1A0 16 ++ slice r 0x1B0 32 ++
    slice r 0x110 8 ++ slice r 0x118 4 ++ slice r 0x1D0 4 ++ slice r 0x380 8 ++
    leBytes 4 ((if skipped then 1 else 0) + 2 * bitAt (s.recF m 0x1E4 4) 0)) 0 256

/-- R188, R201: write a snapshot to the billing snapshot volume, or report that it was refused. -/
def State.putSnapshot (s : State) (b : Bytes) : State :=
  if s.volState = 0 then { s with bill := { s.bill with snaps := b :: s.bill.snaps } }
  else s.err 0x16 0x0101 s.volState

/-- R188 steps 2 and 3: close boundary `b` for a record. -/
def State.rollOne (s : State) (m b : Nat) (skipped : Bool) : State :=
  let s := s.putSnapshot (s.snapshot m b skipped)
  let s := (s.write (recordAddr m + 0x1B0) (List.replicate 36 0)).write (recordAddr m + 0x1A0) (List.replicate 16 0)
  (s.setRec m 0x1E4 4 (withBits (s.recF m 0x1E4 4) 0 0 0)).setRec m 0x1E0 4 b

/-- Is a sweep's marker ordered before a limit? No limit admits every sweep. -/
def beforeLim (order : Nat) (lim : Option Nat) : Bool :=
  match lim with
  | none => true
  | some n => precedes order n

/-- R188 step 1: the queued sweeps of markers ordered before a limit that have not passed the record are applied to it,
in order. -/
def State.applySweeps (s : State) (m : Nat) (lim : Option Nat) : State :=
  let bals := s.bal.sweeps.filter (fun w => beforeLim w.order lim && !w.early.contains m && !(w.nodesDone && decide (m < w.meter)))
  let dems := s.bill.demSweeps.filter (fun w => beforeLim w.order lim && !w.early.contains m)
  let s := (sortOrders (bals.map (·.order) ++ dems.map (·.order))).foldl (fun t n =>
    let t := match bals.find? (fun w => w.order == n) with
      | some w => t.meterPass1 w m
      | none => t
    match dems.find? (fun w => w.order == n) with
    | some w => t.demPass1 w.c m
    | none => t) s
  { s with
    bal := { s.bal with sweeps := s.bal.sweeps.map (fun w =>
      if bals.any (fun v => v.order == w.order) then { w with early := w.early ++ [m] } else w) }
    bill := { s.bill with demSweeps := s.bill.demSweeps.map (fun w =>
      if dems.any (fun v => v.order == w.order) then { w with early := w.early ++ [m] } else w) } }

/-- R188: roll a VALID record up to `BILL.LAST_CLOSED`, or up to the closes ordered before a limit: for each boundary, the sweeps
ordered before its CLOSE, then the snapshot and the resets. -/
def State.rollRecord (s : State) (m : Nat) (lim : Option Nat) : State :=
  if !s.recValid m then s
  else
    let from_ := s.recF m 0x1E0 4
    let job (b : Nat) := s.bill.closes.find? (fun j => j.b == b)
    let due := (List.range (s.getF Reg.BILL_LAST_CLOSED_B - from_)).map (fun i => from_ + 1 + i)
    let due := due.filter (fun b => match job b with | some j => beforeLim j.order lim | none => true)
    due.foldl (fun t b => match job b with
      | some j => (t.applySweeps m (some j.order)).rollOne m b j.skipped
      | none => t.rollOne m b false) s

/-- R191: copy a record into the open checkpoint and set its CK to the phase. -/
def State.ckptCopy (s : State) (m : Nat) : State :=
  match s.bill.open_ with
  | none => s
  | some c =>
    let phase := s.getF Reg.BILL_STAT_CKPT_PHASE
    if bitAt (s.recF m 0x1E4 4) 8 = phase then s
    else
      let s := if s.recValid m then (s.rollRecord m (some c.order)).applySweeps m (some c.order) else s
      let c := { c with records := c.records ++ [(m, s.read (recordAddr m) 0x400)] }
      let s := { s with bill := { s.bill with open_ := some c } }
      s.setRec m 0x1E4 4 (withBits (s.recF m 0x1E4 4) 8 8 phase)

/-- R98: the prefetched copies of a record are out of date: its next frame takes a new one. -/
def State.dropCopies (s : State) (m : Nat) : State :=
  { s with
    prefetched := sput [] s.prefetched m [],
    flights := (s.flights.filter (fun e => match e.2 with
      | some fl => fl.meter? == some m && !fl.copy.isEmpty
      | none => false)).foldl (fun l e => sput none l e.1 (e.2.map (fun fl => { fl with copy := [] }))) s.flights }

/-- R98, R188, R191: what comes before any write of a record by Ladle or an engine: the copy into an open checkpoint, then the
roll; prefetched copies of the record go. -/
def State.touch (s : State) (m : Nat) : State := ((s.dropCopies m).ckptCopy m).rollRecord m none

/-! ## Late readings and credit -/

/-- R190: is a record offset one of the import or export rate registers? -/
def rateReg (off : Nat) : Bool := decide (0x120 ≤ off) && decide (off < 0x1A0)

/-- R190: the offset an EADD goes to, for a frame whose READ_TIME lies before the period's start. -/
def redirect (late : Bool) (off : Nat) : Nat :=
  if late && rateReg off then (if off < 0x160 then 0x1A0 else 0x1A8) else off

/-- R197: the record's CREDIT, signed. -/
def State.credit (s : State) (m : Nat) : Int := signedOf 64 (s.recF m 0x110 8)

/-- R197: a credit flag, at bit `b` of BILL_FLAGS, after CREDIT has gone from `was` to `v`: a fall that ends below its limit sets it, and a rise above the limit,
which only a token brings, clears it. -/
def creditFlag (fl b : Nat) (was v : Int) (below above : Bool) : Nat :=
  if v < was && below then withBits fl b b 1 else if was < v && above then withBits fl b b 0 else fl

/-- R197: CREDIT takes a value, and its flags follow; one that becomes set is reported. -/
def State.setCredit (s : State) (m order : Nat) (v : Int) : State :=
  let was := s.credit m
  let low : Int := (s.recF m 0x11C 4 * 1000 : Nat)
  let fl := s.recF m 0x1E4 4
  let fl' := creditFlag (creditFlag fl 1 was v (decide (v < low)) (decide (low < v))) 2 was v (decide (v ≤ 0)) (decide (0 < v))
  let s := (s.setRec m 0x110 8 (unsignedOf 64 v)).setRec m 0x1E4 4 fl'
  let data := leBytes 8 (unsignedOf 64 v)
  let s := if bitAt fl 1 < bitAt fl' 1 then (s.irq Reg.BILL_IRQ_CREDIT).billReport 2 0 m order data else s
  if bitAt fl 2 < bitAt fl' 2 then (s.irq Reg.BILL_IRQ_CREDIT).billReport 3 0 m order data else s

/-- R197: the debit of a committed import EADD while PREPAY is 1. -/
def State.debit (s : State) (m order off addend : Nat) : State :=
  if s.flag Reg.BILL_CTRL_ENABLE && bitAt (s.recF m 0x100 4) 7 == 1 && decide (0x120 ≤ off) && decide (off < 0x160) then
    s.setCredit m order (max (-(2 ^ 63 : Int)) (s.credit m - addend))
  else s

/-! ## Markers -/

/-- R184: Ladle applies DEMAND `m`. -/
def State.applyDemand (s : State) (m gen order : Nat) : State :=
  let g := s.genOf gen
  let rates := (List.range 64).map (fun c => s.calResolve (m * s.demLen) c g)
  let first := s.bill.firstDem.getD m
  let s := s.setF Reg.BILL_DEM_CUR_K m
  let s := { s with bill := { s.bill with firstDem := some first, rates := ((m, rates) :: s.bill.rates).take 32 } }
  let gd := s.getF Reg.BILL_DEM_CFG_GRACE
  if m < 1 + gd ∨ m - 1 - gd < first then s
  else
    let c := m - 1 - gd
    let s := s.setF Reg.BILL_DEM_CLOSED_K c
    { s with bill := { s.bill with demSweeps := s.bill.demSweeps ++ [{ c := c, order := order }] } }

/-- R188: Ladle applies CLOSE `b`, which was ordered at a UTC second (DEDUCED, log entry 105). -/
def State.applyClose (s : State) (b order : Nat) (skipped : Bool) (at_ : Nat) : State :=
  let s := (s.setF Reg.BILL_STAT_MARKER_WAIT 0).setF Reg.BILL_LAST_CLOSED_B b
  let s := s.setF Reg.BILL_PERIOD_START_SEC at_
  let j : CloseJob := { b := b, order := order, skipped := skipped }
  let at0 := if s.bill.sweeps.isEmpty then s.tb1 else s.bill.sweepAt
  { s with bill := { s.bill with
    closes := (j :: s.bill.closes).take 64, sweeps := s.bill.sweeps ++ [j], sweepAt := at0 } }

/-- R188: must a CLOSE wait because four are queued? -/
def State.closeWaits (s : State) : Bool := decide (4 ≤ s.bill.sweeps.length)

/-- The bytes of memory a checkpoint holds beside the records: the three tables, the node table and the interval slots, the
calendar copies. -/
def ckptMem (a : Nat) : Bool := (decide (0x0840000000 ≤ a) && decide (a ≤ 0x0857FFFFFF)) ||
  (decide (0x0867000000 ≤ a) && decide (a ≤ 0x087003FFFF))

/-- The register fields of the BILL, CAL and BAL pages, by key. -/
def ckptKey (k : Nat) : Bool := decide (0x15 * 131072 ≤ k) && decide (k < 0x18 * 131072)

/-- R191: Ladle applies CKPT: the checkpoint opens, with every part that is not a record taken at once. -/
def State.applyCkpt (s : State) (order : Nat) : State :=
  let s := (s.set2 Reg.BILL_CKPT_ORDER_LO_ORDER Reg.BILL_CKPT_ORDER_HI_ORDER order).setF Reg.BILL_STAT_CKPT_PHASE
    (1 - s.getF Reg.BILL_STAT_CKPT_PHASE)
  let s := s.setF Reg.BILL_STAT_CKPT_OPEN 1
  let c : Checkpoint :=
    { order := order, tables := s.mem.filter (fun e => ckptMem e.1), gens := s.gens,
      bill := s.bill.toBillCore, regs := s.regs.filter (fun e => ckptKey e.1) }
  { s with bill := { s.bill with open_ := some { c with bal := s.bal }, openSince := s.tb1 } }

end Sys2Proof.Machine
end

