-- ==== Sys2Proof/Machine/CryptoAes.lean ====
section
/-! DEFINITION. AES and the modes the spec names: GCM, GMAC, CTR, CMAC, KW and KWP (R390, R395), FF1 (R405) and CCM* (R275). The spec names the standards; their steps are taken from them (PRESUMED, log entry 6). -/

namespace Sys2Proof.Machine

/-! ## The block cipher -/

/-- Doubling in GF(2^8). -/
def xtime (a : Nat) : Nat := if a < 128 then a * 2 else (a * 2 % 256) ^^^ 0x1B

/-- Multiplication in GF(2^8), `n` bits of the multiplier left. -/
def gf8mul : Nat → Nat → Nat → Nat
  | 0, _, _ => 0
  | n + 1, a, b => (if b % 2 = 1 then a else 0) ^^^ gf8mul n (xtime a) (b / 2)

/-- Square in GF(2^8). -/
def gf8sq (a : Nat) : Nat := gf8mul 8 a a

/-- The inverse in GF(2^8), a^254; 0 for 0. -/
def gf8inv (a : Nat) : Nat :=
  let a2 := gf8sq a
  let a3 := gf8mul 8 a2 a
  let a6 := gf8sq a3
  let a12 := gf8sq a6
  let a15 := gf8mul 8 a12 a3
  let a240 := gf8sq (gf8sq (gf8sq (gf8sq a15)))
  gf8mul 8 (gf8mul 8 a240 a12) a2

/-- Rotation of a byte to the left. -/
def rotl8 (a n : Nat) : Nat := (a * 2 ^ n % 256) + a / 2 ^ (8 - n)

/-- The S-box. -/
def sbox (a : Nat) : Nat :=
  let i := gf8inv a
  i ^^^ rotl8 i 1 ^^^ rotl8 i 2 ^^^ rotl8 i 3 ^^^ rotl8 i 4 ^^^ 0x63

/-- The inverse S-box. -/
def invSbox (a : Nat) : Nat := gf8inv (rotl8 a 1 ^^^ rotl8 a 3 ^^^ rotl8 a 6 ^^^ 0x05)

/-- One step of the key schedule: from the last `nk` words to the next `nk`. -/
def keyStep (nk : Nat) (w : List (List Nat)) (rcon : Nat) : List (List Nat) :=
  let last := w.getD (nk - 1) []
  let t := [sbox (last.getD 1 0) ^^^ rcon, sbox (last.getD 2 0), sbox (last.getD 3 0), sbox (last.getD 0 0)]
  (List.range nk).foldl (fun acc i =>
    let prev := if i = 0 then t
      else if nk = 8 ∧ i = 4 then (acc.getD 3 []).map sbox else acc.getD (i - 1) []
    acc ++ [List.zipWith (· ^^^ ·) (w.getD i []) prev]) []

/-- The round keys as words, `n` schedule steps. -/
def keyWords : Nat → Nat → Nat → List (List Nat) → List (List Nat)
  | 0, _, _, w => w
  | n + 1, nk, rcon, w => w ++ keyWords n nk (xtime rcon) (keyStep nk w rcon)

/-- The key schedule of AES: 11 round keys for a 16-byte key, 15 for a 32-byte key, each 16 bytes. -/
def aesKeys (key : Bytes) : List (List Nat) :=
  let k := key.map BitVec.toNat
  let nk := k.length / 4
  let w := keyWords (if nk = 8 then 7 else 10) nk 1 ((List.range nk).map (fun i => (k.drop (4 * i)).take 4))
  (List.range (nk + 7)).map (fun r => ((w.drop (4 * r)).take 4).flatten)

/-- XOR of two lists of byte values. -/
def xorN (a b : List Nat) : List Nat := List.zipWith (· ^^^ ·) a b

/-- ShiftRows; byte r + 4c is row r, column c. -/
def shiftRows (s : List Nat) : List Nat :=
  (List.range 16).map (fun i => s.getD ((i % 4 + 4 * ((i / 4 + i % 4) % 4))) 0)

/-- Inverse ShiftRows. -/
def invShiftRows (s : List Nat) : List Nat :=
  (List.range 16).map (fun i => s.getD ((i % 4 + 4 * ((i / 4 + 4 - i % 4) % 4))) 0)

/-- A column mix with the given coefficients. -/
def mixCols (c0 c1 c2 c3 : Nat) (s : List Nat) : List Nat :=
  (List.range 16).map (fun i =>
    let g := fun (k : Nat) => s.getD (4 * (i / 4) + (i + k) % 4) 0
    gf8mul 8 (g 0) c0 ^^^ gf8mul 8 (g 1) c1 ^^^ gf8mul 8 (g 2) c2 ^^^ gf8mul 8 (g 3) c3)

/-- The rounds of encryption after the first key addition. -/
def aesEncRounds : List Nat → List (List Nat) → List Nat
  | s, [] => s
  | s, [k] => xorN (shiftRows (s.map sbox)) k
  | s, k :: k2 :: r => aesEncRounds (xorN (mixCols 2 3 1 1 (shiftRows (s.map sbox))) k) (k2 :: r)

/-- The rounds of decryption after the first key addition. -/
def aesDecRounds : List Nat → List (List Nat) → List Nat
  | s, [] => s
  | s, [k] => xorN ((invShiftRows s).map invSbox) k
  | s, k :: k2 :: r => aesDecRounds (mixCols 14 11 13 9 (xorN ((invShiftRows s).map invSbox) k)) (k2 :: r)

/-- AES encryption of one block under a key schedule. -/
def aesEncK (ks : List (List Nat)) (b : Bytes) : Bytes :=
  match ks with
  | [] => b
  | k :: r => (aesEncRounds (xorN (b.map BitVec.toNat) k) r).map (BitVec.ofNat 8)

/-- AES decryption of one block under a key schedule. -/
def aesDecK (ks : List (List Nat)) (b : Bytes) : Bytes :=
  match ks.reverse with
  | [] => b
  | k :: r => (aesDecRounds (xorN (b.map BitVec.toNat) k) r).map (BitVec.ofNat 8)

/-- AES encryption of one block. -/
def aesEnc (key b : Bytes) : Bytes := aesEncK (aesKeys key) b

/-- XOR of two byte strings, as long as the shorter. -/
def xorB (a b : Bytes) : Bytes := List.zipWith (· ^^^ ·) a b

/-! ## CTR, GCM, GMAC -/

/-- Increment the low 32 bits of a counter block. -/
def inc32 (b : Bytes) : Bytes := b.take 12 ++ beBytes 4 ((beAt b 12 4 + 1) % 2 ^ 32)

/-- Counter mode from a counter block, `n` blocks. -/
def ctrBlocks : Nat → List (List Nat) → Bytes → Bytes → Bytes
  | 0, _, _, _ => []
  | n + 1, ks, c, d => xorB (d.take 16) (aesEncK ks c) ++ ctrBlocks n ks (inc32 c) (d.drop 16)

/-- Counter mode over a byte string from a counter block. -/
def aesCtr (key c d : Bytes) : Bytes := ctrBlocks ((d.length + 15) / 16) (aesKeys key) c d

/-- Multiplication in GF(2^128) as GCM numbers its bits; `n` bits of x left, bit 127 first. -/
def ghashMul : Nat → Nat → Nat → Nat → Nat
  | 0, _, _, z => z
  | n + 1, x, v, z =>
    let z' := if (x >>> n) % 2 = 1 then z ^^^ v else z
    let v' := if v % 2 = 1 then (v / 2) ^^^ (0xE1 * 2 ^ 120) else v / 2
    ghashMul n x v' z'

/-- GHASH over a string of whole blocks. -/
def ghash (h : Nat) : Nat → Nat → Bytes → Nat
  | 0, y, _ => y
  | n + 1, y, d => ghash h n (ghashMul 128 (y ^^^ beAt d 0 16) h 0) (d.drop 16)

/-- Zero-padding to whole blocks of 16 bytes. -/
def pad16 (b : Bytes) : Bytes := b ++ List.replicate ((16 - b.length % 16) % 16) 0

/-- The 16-byte GCM tag of additional data and ciphertext, for a 12-byte IV. -/
def gcmTag (key iv aad ct : Bytes) : Bytes :=
  let ks := aesKeys key
  let h := beNat (aesEncK ks (List.replicate 16 0))
  let d := pad16 aad ++ pad16 ct ++ beBytes 8 (8 * aad.length) ++ beBytes 8 (8 * ct.length)
  xorB (beBytes 16 (ghash h (d.length / 16) 0 d)) (aesEncK ks (iv ++ [0, 0, 0, 1]))

/-- GCM encryption or decryption of the data, without the tag. -/
def gcmCrypt (key iv d : Bytes) : Bytes := aesCtr key (iv ++ [0, 0, 0, 2]) d

/-! ## CMAC -/

/-- Doubling in the CMAC subkey derivation. -/
def cmacDbl (v : Nat) : Nat := if v < 2 ^ 127 then v * 2 else (v * 2 % 2 ^ 128) ^^^ 0x87

/-- The CBC chain over whole blocks. -/
def cbcMac (ks : List (List Nat)) : Nat → Bytes → Bytes → Bytes
  | 0, y, _ => y
  | n + 1, y, d => cbcMac ks n (aesEncK ks (xorB y (d.take 16))) (d.drop 16)

/-- AES-CMAC. -/
def cmac (key d : Bytes) : Bytes :=
  let ks := aesKeys key
  let k1 := cmacDbl (beNat (aesEncK ks (List.replicate 16 0)))
  let n := if d.length = 0 then 1 else (d.length + 15) / 16
  let head := d.take (16 * (n - 1))
  let last := d.drop (16 * (n - 1))
  let m := if last.length = 16 then xorB last (beBytes 16 k1)
    else xorB (slice (last ++ [0x80]) 0 16) (beBytes 16 (cmacDbl k1))
  cbcMac ks n (List.replicate 16 0) (head ++ m)

/-! ## Key wrap -/

/-- One forward step of the wrap over block `i` of `r`, step count `t`. -/
def kwStep (ks : List (List Nat)) (i t : Nat) (a : Bytes) (r : List Bytes) : Bytes × List Bytes :=
  let b := aesEncK ks (a ++ r.getD i [])
  (beBytes 8 (beAt b 0 8 ^^^ t), r.set i (b.drop 8))

/-- One backward step of the unwrap. -/
def kuStep (ks : List (List Nat)) (i t : Nat) (a : Bytes) (r : List Bytes) : Bytes × List Bytes :=
  let b := aesDecK ks (beBytes 8 (beNat a ^^^ t) ++ r.getD i [])
  (b.take 8, r.set i (b.drop 8))

/-- The wrapping transform W of SP 800-38F over an initial value and 8-byte blocks. -/
def kwWrap (key iv d : Bytes) : Bytes :=
  let ks := aesKeys key
  let n := d.length / 8
  if n ≤ 1 then aesEncK ks (iv ++ d)
  else
    let r := (List.range n).map (fun i => (d.drop (8 * i)).take 8)
    let x := (List.range (6 * n)).foldl (fun x j => kwStep ks (j % n) (j + 1) x.1 x.2) (iv, r)
    x.1 ++ x.2.flatten

/-- The inverse transform: the initial value found and the data. -/
def kwUnwrap (key c : Bytes) : Bytes × Bytes :=
  let ks := aesKeys key
  let n := c.length / 8 - 1
  if n ≤ 1 then
    let b := aesDecK ks c
    (b.take 8, b.drop 8)
  else
    let r := (List.range n).map (fun i => (c.drop (8 * (i + 1))).take 8)
    let x := (List.range (6 * n)).foldl
      (fun x j => kuStep ks ((6 * n - 1 - j) % n) (6 * n - j) x.1 x.2) (c.take 8, r)
    (x.1, x.2.flatten)

/-- The initial value of AES-KW. -/
def kwIv : Bytes := List.replicate 8 0xA6

/-- AES-KW of a key of whole 8-byte blocks. -/
def aesKw (kek d : Bytes) : Bytes := kwWrap kek kwIv d

/-- AES-KW unwrap: none where the check value does not match. -/
def aesKwUnwrap (kek c : Bytes) : Option Bytes :=
  let x := kwUnwrap kek c
  if x.1 = kwIv then some x.2 else none

/-- AES-KWP of a string. -/
def aesKwp (kek d : Bytes) : Bytes :=
  let p := d ++ List.replicate ((8 - d.length % 8) % 8) 0
  kwWrap kek ([0xA6, 0x59, 0x59, 0xA6] ++ beBytes 4 d.length) p

/-- AES-KWP unwrap: none where the check value, the length or the padding does not match. -/
def aesKwpUnwrap (kek c : Bytes) : Option Bytes :=
  let x := kwUnwrap kek c
  let n := beAt x.1 4 4
  if x.1.take 4 = [0xA6, 0x59, 0x59, 0xA6] ∧ n ≤ x.2.length ∧ x.2.length < n + 8 ∧
      (x.2.drop n).all (· == 0) then some (x.2.take n)
  else none

/-! ## FF1, radix 10 -/

/-- The value of a string of decimal digits. -/
def numRadix (d : List Nat) : Nat := d.foldl (fun a x => a * 10 + x) 0

/-- The `m` decimal digits of a value, most significant first. -/
def strRadix : Nat → Nat → List Nat
  | 0, _ => []
  | m + 1, v => strRadix m (v / 10) ++ [v % 10]

/-- The round value y of FF1, for a block of length n with split u and a half of value `b`. -/
def ff1Y (ks : List (List Nat)) (tweak : Bytes) (n u b i : Nat) : Nat :=
  let v := n - u
  let bl := (Nat.log2 (10 ^ v - 1) + 8) / 8
  let d := 4 * ((bl + 3) / 4) + 4
  let p := [1, 2, 1, 0, 0, 10, 10, BitVec.ofNat 8 u] ++ beBytes 4 n ++ beBytes 4 tweak.length
  let z := (16 - (tweak.length + bl + 1) % 16) % 16
  let q := tweak ++ List.replicate z 0 ++ [BitVec.ofNat 8 i] ++ beBytes bl b
  let pq := p ++ q
  let r := cbcMac ks (pq.length / 16) (List.replicate 16 0) pq
  let s := (List.range ((d + 15) / 16)).flatMap (fun j =>
    if j = 0 then r else aesEncK ks (xorB r (beBytes 16 j)))
  beNat (s.take d)

/-- FF1 encryption of decimal digits. -/
def ff1Enc (key tweak : Bytes) (x : List Nat) : List Nat :=
  let ks := aesKeys key
  let n := x.length
  let u := n / 2
  let f := (List.range 10).foldl (fun (ab : List Nat × List Nat) i =>
    let m := if i % 2 = 0 then u else n - u
    let c := (numRadix ab.1 + ff1Y ks tweak n u (numRadix ab.2) i) % 10 ^ m
    (ab.2, strRadix m c)) (x.take u, x.drop u)
  f.1 ++ f.2

/-- FF1 decryption of decimal digits. -/
def ff1Dec (key tweak : Bytes) (x : List Nat) : List Nat :=
  let ks := aesKeys key
  let n := x.length
  let u := n / 2
  let f := (List.range 10).foldl (fun (ab : List Nat × List Nat) j =>
    let i := 9 - j
    let m := if i % 2 = 0 then u else n - u
    let c := (numRadix ab.2 + 10 ^ m - ff1Y ks tweak n u (numRadix ab.1) i % 10 ^ m) % 10 ^ m
    (strRadix m c, ab.1)) (x.take u, x.drop u)
  f.1 ++ f.2

/-! ## CCM* -/

/-- The CBC-MAC input of CCM* with a 13-byte nonce: flags and length block, additional data, message. -/
def ccmAuth (key nonce aad msg : Bytes) (m : Nat) : Bytes :=
  let flags := (if aad.length = 0 then 0 else 64) + 8 * ((m - 2) / 2) + 1
  let b0 := [BitVec.ofNat 8 flags] ++ nonce ++ beBytes 2 msg.length
  let a := if aad.length = 0 then [] else pad16 (beBytes 2 aad.length ++ aad)
  let d := b0 ++ a ++ pad16 msg
  cbcMac (aesKeys key) (d.length / 16) (List.replicate 16 0) d

/-- The MIC of CCM*, `m` bytes. -/
def ccmMic (key nonce aad msg : Bytes) (m : Nat) : Bytes :=
  (xorB (ccmAuth key nonce aad msg m) (aesEnc key ([1] ++ nonce ++ [0, 0]))).take m

/-- The data transform of CCM*. -/
def ccmCrypt (key nonce d : Bytes) : Bytes := aesCtr key ([1] ++ nonce ++ [0, 1]) d

end Sys2Proof.Machine
end

