-- ==== Sys2Proof/Machine/KeyOps.lean ====
section
/-! DEFINITION. Key slots as their users see them (R388–R395), and the meter keys of a record (R395, R396). -/

namespace Sys2Proof.Machine

/-- The key slot of a number. -/
def State.slot (s : State) (n : Nat) : KeySlot := sget {} s.slots n

/-- Replace a key slot. -/
def State.setSlotK (s : State) (n : Nat) (k : KeySlot) : State := { s with slots := sput {} s.slots n k }

/-- R388: the key that the two shares make. -/
def KeySlot.key (k : KeySlot) : Bytes := xorB k.share k.mask

/-- R391: does the slot hold a key? -/
def KeySlot.full (k : KeySlot) : Bool := !k.share.isEmpty

/-- R389: the usage bits. -/
def Usage.enc : Nat := 0
@[inherit_doc Usage.enc] def Usage.dec : Nat := 1
@[inherit_doc Usage.enc] def Usage.macGen : Nat := 2
@[inherit_doc Usage.enc] def Usage.macVer : Nat := 3
@[inherit_doc Usage.enc] def Usage.derive : Nat := 4
@[inherit_doc Usage.enc] def Usage.sign : Nat := 5
@[inherit_doc Usage.enc] def Usage.agree : Nat := 6

/-- R389: the destination bits; Cleaver unit u has bit u. -/
def Dest.mortar : Nat := 4
@[inherit_doc Dest.mortar] def Dest.plcMac : Nat := 5
@[inherit_doc Dest.mortar] def Dest.radMac : Nat := 6
@[inherit_doc Dest.mortar] def Dest.nandEnc : Nat := 7
@[inherit_doc Dest.mortar] def Dest.twin : Nat := 8

/-- R389, R392: does a slot hold a key with a usage? -/
def KeySlot.may (k : KeySlot) (usage : Nat) : Bool := k.full && bitAt k.usage usage == 1

/-- R389, R392: does a slot hold a key with a destination? -/
def KeySlot.goes (k : KeySlot) (dest : Nat) : Bool := k.full && bitAt k.dest dest == 1

/-- R404: the next value of a slot's IV counter; none after 2^32 under one load. -/
def State.takeIv (s : State) (n : Nat) : Option (Nat × State) :=
  let k := s.slot n
  if 2 ^ 32 ≤ k.taken then none else some (k.ctr, s.setSlotK n { k with ctr := k.ctr + 1, taken := k.taken + 1 })

/-- R388, R404: a slot takes a key with its attributes, under a new mask and a new IV counter whose high half comes from the TRNG. -/
def State.loadSlot (s : State) (n : Nat) (key : Bytes) (k : KeySlot) : State :=
  let (m, s) := s.drawBytes key.length
  let (w, s) := s.drawWord
  s.setSlotK n { k with share := xorB key m, mask := m, ctr := w.toNat * 2 ^ 32, taken := 0 }

/-- R132: the KEK slot that a record names. -/
def State.kekOf (s : State) (m : Nat) : Nat := bitAt (s.recF m 0x008 4) 1

/-- R396: the frame key of a meter, as Cleaver unit `u` unwraps it. -/
def State.frameKey (s : State) (m u : Nat) : Option Bytes :=
  let k := s.slot (s.kekOf m)
  if bitAt (s.recF m 0x008 4) 2 = 0 ∨ !k.may Usage.dec ∨ !k.goes u ∨ k.gen ≠ bitsOf (s.recF m 0x070 4) 15 0 then none
  else aesKwUnwrap k.key (s.read (recordAddr m + 0x020) 40)

/-- R396: the token key of a meter, as Cleaver unit `u` unwraps it. -/
def State.tokenKey (s : State) (m u : Nat) : Option Bytes :=
  let k := s.slot (s.kekOf m)
  if bitAt (s.recF m 0x008 4) 3 = 0 ∨ !k.may Usage.dec ∨ !k.goes u ∨ k.gen ≠ bitsOf (s.recF m 0x070 4) 31 16 then none
  else aesKwUnwrap k.key (s.read (recordAddr m + 0x048) 40)

/-- R384: a derivation of the key tree. -/
def treeKey (parent label : Bytes) (bits : Nat) : Bytes := kmac parent label (bits / 8)

end Sys2Proof.Machine
end

