-- ==== Sys2Proof/Machine/DirOps.lean ====
section
/-! DEFINITION. The table engine's tables: buckets and entries (R134, R135), parity (R136), the directory (R137, R138), routes (R139, R140) and the token ledger (R141). -/

namespace Sys2Proof.Machine

/-! ## Buckets and entries -/

/-- R23: the base of table `t`: 0 directory, 1 route, 2 ledger. -/
def tableBase (t : Nat) : Nat := if t = 0 then 0x0840000000 else if t = 1 then 0x0848000000 else 0x0850000000

/-- R134: the buckets of table `t`. -/
def tableBuckets (t : Nat) : Nat := if t = 0 then 524288 else if t = 1 then 262144 else 1048576

/-- R134: the key of table `t`. -/
def State.tableKey (s : State) (t : Nat) : Bytes :=
  if t = 0 then s.dir.dirKey else if t = 1 then s.dir.routeKey else s.dir.ledgerKey

/-- R134: the hash of a key of table `t`. -/
def State.tableHash (s : State) (t : Nat) (key : Bytes) : Nat := sipHash (s.tableKey t) key

/-- R134: the bucket of a meter identifier in table 0 or 1. -/
def State.idBucket (s : State) (t id : Nat) : Nat := s.tableHash t (leBytes 8 id) % tableBuckets t

/-- R134: the tag of a meter identifier. -/
def State.idTag (s : State) (id : Nat) : Nat := bitsOf (s.tableHash 0 (leBytes 8 id)) 47 32

/-- R134: the ledger bucket of a token. -/
def State.tokenBucket (s : State) (id tok : Nat) : Nat :=
  s.tableHash 2 (leBytes 8 id ++ leBytes 4 tok) % tableBuckets 2

/-- R135: the address of way `w` of bucket `b` of table `t`. -/
def wayAddr (t b w : Nat) : Nat := tableBase t + b * 0x80 + w * 32

/-- R23, R135: the address of overflow slot `k`. -/
def ovfAddr (k : Nat) : Nat := 0x0844000000 + k * 32

/-- R135: a 64-bit word of an entry. -/
def State.word (s : State) (a k : Nat) : Nat := s.readNat (a + 8 * k) 8

/-- Even parity of a value's low `n` bits. -/
def parityOf (n v : Nat) : Nat := popCount n v % 2

/-- R135: does an entry pass its parity? -/
def State.entryOk (s : State) (a : Nat) : Bool :=
  let p := bitsOf (s.word a 3) 63 60
  [0, 1, 2].all (fun k => bitAt p k == parityOf 64 (s.word a k)) && bitAt p 3 == parityOf 60 (s.word a 3)

/-- R135: is an entry valid, its parity good? -/
def State.entryValid (s : State) (a : Nat) : Bool := s.entryOk a && bitAt (s.word a 1) 31 == 1

/-- R23: the overflow slot at an address, if it is one. -/
def ovfSlot (a : Nat) : Option Nat := if ovfAddr 0 ≤ a ∧ a < ovfAddr 65536 then some ((a - ovfAddr 0) / 32) else none

/-- R135: write an entry with its parity; the bucket header, in way 0 alone, stays. -/
def State.putEntry (s : State) (a w0 w1 w2 w3 : Nat) : State :=
  let head := if a % 128 = 0 ∧ (ovfSlot a).isNone then bitsOf (s.word a 2) 63 48 else 0
  let w2 := head * 2 ^ 48 + w2 % 2 ^ 48
  let w3 := w3 % 2 ^ 60
  let p := parityOf 64 w0 + 2 * parityOf 64 w1 + 4 * parityOf 64 w2 + 8 * parityOf 60 w3
  s.write a (leBytes 8 w0 ++ leBytes 8 w1 ++ leBytes 8 w2 ++ leBytes 8 (w3 + p * 2 ^ 60))

/-- Free an entry. -/
def State.freeEntry (s : State) (a : Nat) : State := s.putEntry a 0 0 0 0

/-- R135: bits of a bucket's header. -/
def State.header (s : State) (t b hi lo : Nat) : Nat := bitsOf (s.word (wayAddr t b 0) 2) hi lo

/-- R135: write bits of a bucket's header; the parity of way 0 follows, so that an error in it stays one. -/
def State.setHeader (s : State) (t b hi lo v : Nat) : State :=
  let a := wayAddr t b 0
  let old := s.word a 2
  let new := withBits old hi lo v
  let p2 := bitAt (s.word a 3) 62
  let flip := (parityOf 64 old + parityOf 64 new) % 2
  (s.writeNat (a + 16) 8 new).writeNat (a + 24) 8 (withBits (s.word a 3) 62 62 ((p2 + flip) % 2))

/-- R148: is a bucket locked? -/
def State.locked? (s : State) (t b : Nat) : Bool := s.dir.locks.any (fun l => l.table == t && l.bucket == b)

/-! ## Parity -/

/-- R136: an entry that failed its parity is counted, recorded and reported. `code` is 0 directory, 1 overflow, 2 route,
3 ledger. -/
def State.noteParity (s : State) (code way bucket : Nat) : State :=
  let s := (s.count Reg.DIR_PARITY_CNT_CNT).irq Reg.DIR_IRQ_PARITY
  let s := ((s.setF Reg.DIR_LAST_PARITY_TABLE code).setF Reg.DIR_LAST_PARITY_WAY way).setF Reg.DIR_LAST_PARITY_BUCKET bucket
  s.event .tableParity 0x14 (leBytes 4 (s.getF Reg.DIR_LAST_PARITY_BUCKET + way * 2 ^ 20 + code * 2 ^ 30))

/-- R136: a ledger bucket becomes SUSPECT. -/
def State.setSuspect (s : State) (b : Nat) : State :=
  if s.header 2 b 54 54 = 1 then s
  else ((s.setHeader 2 b 54 54 1).count Reg.DIR_SUSPECT_CNT_BUCKETS).irq Reg.DIR_IRQ_SUSPECT

/-- A count of entries in use falls by one. -/
def State.lowerF (s : State) (f : Field) : State := s.setF f (s.getF f - 1)

/-- R136: a bucket is read: each way that fails its parity is noted; a route entry is freed and no longer counted, a ledger entry makes its bucket
SUSPECT. -/
def State.readBucket (s : State) (t b : Nat) : State :=
  let s := s.eccCorrect (wayAddr t b 0) 128
  [0, 1, 2, 3].foldl (fun s w =>
    let a := wayAddr t b w
    if s.entryOk a then s
    else
      let valid := bitAt (s.word a 1) 31 == 1
      let s := s.noteParity (if t = 0 then 0 else t + 1) w b
      if t = 1 then (if valid then s.lowerF Reg.DIR_ROUTE_USE_ENTRIES else s).freeEntry a else if t = 2 then s.setSuspect b else s) s

/-- The first way of a bucket that satisfies a test of its address. -/
def wayWhere (t b : Nat) (p : Nat → Bool) : Option Nat := [0, 1, 2, 3].find? (fun w => p (wayAddr t b w))

/-! ## The directory -/

/-- R137: what a directory lookup finds: an entry at an address, nothing, or a bucket with entries in overflow to be
searched. -/
inductive DirHit where
  | found (addr : Nat)
  | miss
  | search
  deriving DecidableEq, Repr

/-- R137: the bucket read of a lookup. -/
def State.dirBucket (s : State) (id : Nat) : DirHit :=
  let b := s.idBucket 0 id
  match wayWhere 0 b (fun a => s.entryValid a && s.word a 0 == id) with
  | some w => .found (wayAddr 0 b w)
  | none => if s.header 0 b 63 56 = 0 then .miss else .search

/-- R137: the overflow slots whose tag matches, in ascending order. -/
def State.tagMatches (s : State) (id : Nat) : List Nat :=
  (s.dir.tags.filter (fun e => e.2 == s.idTag id + 1)).map (·.1)

/-- R137: the tag filter is searched and the matching overflow entries are read, until one holds the identifier. -/
def State.dirSearch (s : State) (id : Nat) : State × Option Nat :=
  (s.tagMatches id).foldl (fun (t, r) k =>
    match r with
    | some _ => (t, r)
    | none =>
      if !t.entryOk (ovfAddr k) then (t.noteParity 1 0 k, none)
      else if t.entryValid (ovfAddr k) && t.word (ovfAddr k) 0 == id then (t, some (ovfAddr k))
      else (t, none)) (s.count Reg.DIR_OVF_SEARCH_CNT_CNT, none)

/-- R137: a whole lookup, as the table engine makes it for a command or for its own use. -/
def State.dirFind (s : State) (id : Nat) : State × Option Nat :=
  let s := s.readBucket 0 (s.idBucket 0 id)
  match s.dirBucket id with
  | .found a => (s, some a)
  | .miss => (s, none)
  | .search => s.dirSearch id

/-- R135: the meter index of a directory entry. -/
def State.entryIndex (s : State) (a : Nat) : Nat := bitsOf (s.word a 1) 19 0

/-- R150: STAT.OVF_HIGH: OVF_USE has reached OVF_MARK. -/
def State.ovfHigh (s : State) : Bool := decide (s.getF Reg.DIR_OVF_MARK_ENTRIES ≤ s.getF Reg.DIR_OVF_USE_ENTRIES)

/-- R150: OVF_HIGH is latched where it has become 1. -/
def State.ovfNews (s was : State) : State := if !was.ovfHigh && s.ovfHigh then s.irq Reg.DIR_IRQ_OVF_HIGH else s

/-- R150: OVF_USE moves. -/
def State.setOvfUse (s : State) (n : Nat) : State :=
  ((s.setF Reg.DIR_OVF_USE_ENTRIES n).peak Reg.DIR_OVF_PEAK_ENTRIES n).ovfNews s

/-- R136, R138: the address of the first entry for an identifier that fails its parity, in its bucket or in overflow. -/
def State.failedEntry (s : State) (id : Nat) : Option Nat :=
  let bad (a : Nat) : Bool := !s.entryOk a && s.word a 0 == id
  let b := s.idBucket 0 id
  match wayWhere 0 b bad with
  | some w => some (wayAddr 0 b w)
  | none => ((s.tagMatches id).map ovfAddr).find? bad

/-- R138: the lowest free way of a directory bucket. -/
def State.freeWay (s : State) (b : Nat) : Option Nat := wayWhere 0 b (fun a => s.entryOk a && bitAt (s.word a 1) 31 == 0)

/-- R138: the lowest free overflow slot: tags are listed by rising slot. -/
def State.freeOvf (s : State) : Option Nat :=
  let k := s.dir.tags.foldl (fun k e => if e.1 = k then k + 1 else k) 0
  if k < 65536 then some k else none

/-- R138: is there room for an identifier? -/
def State.dirRoom (s : State) (id : Nat) : Bool :=
  (s.failedEntry id).isSome || (s.freeWay (s.idBucket 0 id)).isSome || s.freeOvf.isSome

/-- R138: place a directory entry: in the first entry of the identifier that failed its parity, which is counted already, else in the lowest free way, else in
overflow; the answer is the overflow slot taken, if any. -/
def State.dirPlace (s : State) (id index : Nat) : State × Option Nat :=
  let b := s.idBucket 0 id
  match s.failedEntry id, s.freeWay b with
  | some a, _ => (s.putEntry a id (index + 2 ^ 31) (if (ovfSlot a).isSome then b else 0) 0, ovfSlot a)
  | none, some w => ((s.count Reg.DIR_DIR_USE_ENTRIES).putEntry (wayAddr 0 b w) id (index + 2 ^ 31) 0 0, none)
  | none, none =>
    match s.freeOvf with
    | none => (s, none)
    | some k =>
      let s := (s.count Reg.DIR_DIR_USE_ENTRIES).putEntry (ovfAddr k) id (index + 2 ^ 31) b 0
      let s := { s with dir := { s.dir with tags := sput 0 s.dir.tags k (s.idTag id + 1) } }
      let s := s.setHeader 0 b 63 56 (satAdd 255 (s.header 0 b 63 56) 1)
      (s.setOvfUse (s.getF Reg.DIR_OVF_USE_ENTRIES + 1), some k)

/-- R138: remove the directory entry at an address. -/
def State.dirRemove (s : State) (a : Nat) : State :=
  let s := s.setF Reg.DIR_DIR_USE_ENTRIES (s.getF Reg.DIR_DIR_USE_ENTRIES - 1)
  match ovfSlot a with
  | some k =>
    let b := bitsOf (s.word a 2) 18 0
    let s := (s.freeEntry a).setHeader 0 b 63 56 (s.header 0 b 63 56 - 1)
    let s := { s with dir := { s.dir with tags := sput 0 s.dir.tags k 0 } }
    s.setOvfUse (s.getF Reg.DIR_OVF_USE_ENTRIES - 1)
  | none => s.freeEntry a

/-! ## Routes -/

/-- The entry of table 1 for an identifier, once its bucket has been read. -/
def State.routeAt (s : State) (id : Nat) : Option Nat :=
  let b := s.idBucket 1 id
  (wayWhere 1 b (fun a => s.entryValid a && s.word a 0 == id)).map (wayAddr 1 b)

/-- R140: the unpinned ways of a bucket, in ascending order. -/
def State.unpinned (s : State) (b : Nat) : List Nat :=
  [0, 1, 2, 3].filter (fun w => s.entryValid (wayAddr 1 b w) && bitAt (s.word (wayAddr 1 b w) 1) 30 == 0)

/-- R140: the way with the earliest LEARN_ORDER or ACCEPT_ORDER among some ways of a bucket. -/
def State.earliestWay (s : State) (t b : Nat) : List Nat → Option Nat
  | [] => none
  | w :: r =>
    match s.earliestWay t b r with
    | none => some w
    | some v => if precedes (bitsOf (s.word (wayAddr t b v) 2) 47 0) (bitsOf (s.word (wayAddr t b w) 2) 47 0) then some v else some w

/-- R140: the way that a route with no entry of its own takes, and whether it evicts. -/
def State.routeWay (s : State) (b digest : Nat) : Option (Nat × Bool) :=
  match wayWhere 1 b (fun a => bitAt (s.word a 1) 31 == 0) with
  | some w => some (w, false)
  | none =>
    let l := s.unpinned b
    if s.flag Reg.DIR_CTRL_ROUTE_EVICT then (l[digest % l.length]?).map (fun w => (w, true))
    else (s.earliestWay 1 b l).map (fun w => (w, true))

/-- R135, R140: write a route entry for an identifier; a full bucket evicts. Is it written? -/
def State.putRoute (s : State) (id w1 order digest : Nat) : State × Bool :=
  let b := s.idBucket 1 id
  match s.routeAt id with
  | some a => (s.putEntry a id w1 order 0, true)
  | none =>
    match s.routeWay b digest with
    | none => (s, false)
    | some (w, ev) =>
      let s := if ev then s.count Reg.DIR_ROUTE_EVICT_CNT_CNT else s.count Reg.DIR_ROUTE_USE_ENTRIES
      (s.putEntry (wayAddr 1 b w) id w1 order 0, true)

/-- R139: the route of a frame as word 1 of a LOCAL entry has it: source port, link address for ports 0 to 7, concentrator
for port 8. -/
def Frame.route (f : Frame) : Nat :=
  f.port % 16 + (if f.port < 8 then f.link % 65536 * 16 else 0) + (if f.port = 8 then f.link % 64 * 2 ^ 20 else 0)

/-- R139: is the route of a frame to be written, given the meter's entry? -/
def State.routeNews (s : State) (f : Frame) (order : Nat) : Bool :=
  match s.routeAt f.mid with
  | none => true
  | some a =>
    let w := s.word a 1
    if bitsOf w 29 28 = 2 then false
    else bitsOf w 25 0 != f.route ||
      (precedes (bitsOf (s.word a 2) 47 0) order && decide (2 ^ 20 ≤ (order + 2 ^ 48 - bitsOf (s.word a 2) 47 0) % 2 ^ 48))

/-- R139: learn the route of a frame; ROUTE_HINT follows under the same rule. Has it changed? -/
def State.learnRoute (s : State) (f : Frame) (order : Nat) : State × Bool :=
  let s := s.readBucket 1 (s.idBucket 1 f.mid)
  if s.routeNews f order then
    let (s, _) := s.putRoute f.mid (f.route + 2 ^ 31) order f.digest
    ((s.touch f.meter).setRec f.meter 0x014 4 (f.route + 2 ^ 31), true)
  else (s, false)

/-! ## The token ledger -/

/-- R196: does the ledger hold a token of a meter? -/
def State.ledgerHas (s : State) (id tok : Nat) : Bool :=
  let b := s.tokenBucket id tok
  (wayWhere 2 b (fun a => s.entryValid a && s.word a 0 == id && bitsOf (s.word a 1) 26 0 == tok)).isSome

/-- R141: an evicted token raises the floor of its meter, found through the directory. -/
def State.evictFloor (s : State) (id tok : Nat) : State :=
  let (s, r) := s.dirFind id
  match r with
  | none => s
  | some a =>
    let m := s.entryIndex a
    (s.touch m).setRec m 0x118 4 (max (s.recF m 0x118 4) tok)

/-- R141: the way of a full ledger bucket whose entry goes: the one with the earliest ACCEPT_ORDER. -/
def State.evictedWay (s : State) (b : Nat) : Option Nat := s.earliestWay 2 b ([0, 1, 2, 3].filter (fun w => s.entryValid (wayAddr 2 b w)))

/-- R141: the free way of a ledger bucket. -/
def State.freeLedger (s : State) (b : Nat) : Option Nat := wayWhere 2 b (fun a => s.entryOk a && bitAt (s.word a 1) 31 == 0)

/-- R141: the identifier whose token an insertion into a ledger bucket evicts. -/
def State.evictedId (s : State) (b : Nat) : Option Nat :=
  if (s.freeLedger b).isSome then none else (s.evictedWay b).map (fun w => s.word (wayAddr 2 b w) 0)

/-- R141: insert a ledger entry; a full bucket evicts the entry with the earliest ACCEPT_ORDER. -/
def State.ledgerInsert (s : State) (id tok cls amount order : Nat) : State :=
  let b := s.tokenBucket id tok
  let w1 := tok % 2 ^ 27 + cls % 16 * 2 ^ 27 + 2 ^ 31
  match s.freeLedger b with
  | some w => (s.count Reg.DIR_LEDGER_USE_ENTRIES).putEntry (wayAddr 2 b w) id w1 order amount
  | none =>
    match s.evictedWay b with
    | none => s
    | some w =>
      let a := wayAddr 2 b w
      let old := s.word a 0
      let oldTok := bitsOf (s.word a 1) 26 0
      let s := (s.count Reg.DIR_LEDGER_EVICT_CNT_CNT).putEntry a id w1 order amount
      s.evictFloor old oldTok

end Sys2Proof.Machine
end

