-- ==== Sys2Proof/Machine/PathOps.lean ====
section
/-! DEFINITION. What the stages of the path share: the formats of a meter frame (R64, R119, R121), exits (R65–R67, R92), batches and acknowledgements (R85, R86, R288), order numbers and replay slots (R68–R71), the frames that Funnel holds (R143, R112, R124), and what a twin sends its partner (R311). -/

namespace Sys2Proof.Machine

/-! ## Roles of a twin -/

/-- R306: does this chip order inputs: alone without twin operation, or the ACTIVE twin? -/
def State.orders (s : State) : Bool := !s.flag Reg.TWIN_CTRL_ENABLE || s.getF Reg.TWIN_STAT_ROLE == 4

/-- R312, R330: does the ACTIVE twin send its order records to a partner, in STANDBY or in SYNCING? -/
def State.feeds (s : State) : Bool :=
  s.flag Reg.TWIN_CTRL_ENABLE && s.getF Reg.TWIN_STAT_ROLE == 4 &&
    (s.flag Reg.TWIN_STAT_PAIRED || s.twin.sync.isSome)

/-- R310: place an order record for the partner. -/
def State.feed (s : State) (r : Rec) : State :=
  if s.feeds then s.enq 0x180 { body := .record r } else s

/-- R318: has the order queue a credit, where records go to a partner? -/
def State.feedCredit (s : State) : Bool := !s.feeds || s.hasCredit 0x180

/-! ## The formats of a meter frame -/

/-- R64: a recognised frame: its format code, identifier, invocation counter, the place and length of its encrypted span, the
start of its authenticated span. -/
structure Parsed where
  fmt : Nat
  mid : Nat
  ivc : Nat
  ptOff : Nat
  ptLen : Nat
  auth : Nat
  deriving DecidableEq, Repr

/-- R64, R121: the A-XDR length at an offset: its value and the bytes it takes. -/
def axdrLength (b : Bytes) (o : Nat) : Option (Nat × Nat) :=
  let x := leAt b o 1
  if x < 0x80 then some (x, 1)
  else if x = 0x81 then some (leAt b (o + 1) 1, 2)
  else if x = 0x82 then some (beAt b (o + 1) 2, 3)
  else none

/-- R64, R119: recognise a frame. DESIGN CHOICE (log entry 77): a DLMS/COSEM frame whose A-XDR length does not match its bytes is not recognised, so it leaves as
PARSE_FAIL; the spec names no such check. -/
def parseFrame (b : Bytes) : Option Parsed :=
  let n := b.length
  if leAt b 0 1 = 0xDB ∧ leAt b 1 1 = 8 then
    match axdrLength b 10 with
    | none => none
    | some (len, h) =>
      if n = 10 + h + len ∧ 17 ≤ len ∧ leAt b (10 + h) 1 = 0x30 then
        some { fmt := 0, mid := beAt b 2 8, ivc := beAt b (11 + h) 4, ptOff := 15 + h, ptLen := len - 17, auth := 10 + h }
      else none
  else if 1 ≤ leAt b 0 1 ∧ leAt b 0 1 ≤ 15 ∧ 1 ≤ leAt b 1 1 ∧ leAt b 1 1 ≤ 5 ∧ 34 ≤ n then
    some { fmt := 1, mid := beAt b 2 8, ivc := beAt b 10 8, ptOff := 18, ptLen := n - 34, auth := 0 }
  else none

/-- R65: is a frame too long? -/
def tooLong (b : Bytes) : Bool :=
  decide (576 < b.length) || (match parseFrame b with | some p => decide (512 < p.ptLen) | none => false)

/-- R70: the frame digest: the first 64 bits of SHAKE256 over the authenticated span. -/
def frameDigest (b : Bytes) : Nat :=
  match parseFrame b with
  | some p => shake64 (b.drop p.auth)
  | none => 0

/-! ## Batches and acknowledgements -/

/-- R86: the code of an outcome. -/
def FrameOutcome.code : FrameOutcome → Nat
  | .committed => 0 | .quarantined => 1 | .duplicate => 2 | .authFail => 3 | .noKey => 4 | .replayReject => 5 | .notTaken => 6

/-- R19, R288: the tracking of a batch ends: the credits of the acknowledgement items taken for it return. -/
def State.endBatch (s : State) (k : Nat) : State :=
  match s.batch k with
  | none => s
  | some b => (s.creditBack (if b.kind = 2 then 0x179 else 0x143) b.acks).setBatch k none

/-- R288: abandon a batch: nothing is sent for it. A PCIe batch completes as ABANDONED (R297). -/
def State.abandonBatch (s : State) (k : Nat) : State :=
  match s.batch k with
  | none => s
  | some b =>
    let s := ((s.endBatch k).count Reg.ETH_ACK_ABANDON_CNT_CNT).irq Reg.ETH_IRQ_ACK_ABANDON
    if b.kind = 2 then
      { s with uplink := { s.uplink with completions := s.uplink.completions ++ [(b.buf, b.tag, 2, [])] } }
    else s

/-- R19: the acknowledgement queue of a source port. -/
def ackQ (port : Nat) : Nat :=
  if port < 4 then 8 * (0x31 + port) else if port < 8 then 8 * (0x35 + (port - 4)) else if port = 8 then 0x143 else 0x179

/-- R19: the receive queue of a source port. -/
def portQ (port : Nat) : Nat :=
  if port < 4 then 8 * (0x31 + port) + 3 else if port < 8 then 8 * (0x35 + (port - 4)) + 3 else if port = 8 then 0x140 else 0x178

/-- R85: an acknowledgement item is lost, for want of a credit or by poison in its queue: it is counted, and its batch is abandoned (R288). -/
def State.loseAck (s : State) (a : Ack) : State :=
  let s := s.count Reg.LADL_ACK_DROP_CNT_CNT
  match a.batch with
  | some (k, _) => s.abandonBatch k
  | none => s

/-- R85, R90: issue an acknowledgement item; with no credit it is dropped. -/
def State.issueAck (s : State) (a : Ack) : State :=
  if s.hasCredit (ackQ a.port) then
    let us := (s.stamp0 + 2 ^ 32 - a.stamp % 2 ^ 32) % 2 ^ 32 / 1000
    let s := (s.enq (ackQ a.port) { body := .ack a }).setF Reg.LADL_ACK_LAT_LAST_US us
    s.peak Reg.LADL_ACK_LAT_MAX_US us
  else s.loseAck a

/-- R133, R77: the record remembers that the acknowledgement of the frame with an order number has been sent. -/
def State.markAcked (s : State) (m order : Nat) : State :=
  if s.recF m 0x090 6 = order then (s.touch m).setRec m 0x088 8 (withBits (s.recF m 0x088 8) 63 63 1) else s

/-- R77, R85: issue an acknowledgement item of the frame with an order number; the record remembers that it has been sent, where it was. -/
def State.acknowledge (s : State) (a : Ack) (order : Nat) : State :=
  if s.hasCredit (ackQ a.port) then (s.issueAck a).markAcked a.meter order else s.issueAck a

/-- R84: the sequence of the last durable group. -/
def State.durableSeq (s : State) : Nat := s.get2 Reg.LADL_DURABLE_SEQ_LO_SEQ Reg.LADL_DURABLE_SEQ_HI_SEQ

/-- R80, R87: the acknowledgements of DUPLICATEs that waited for a group, or for acknowledgements to go on, go out. -/
def State.releaseDups (s : State) : State :=
  let go := s.path.dupAcks.filter (fun e => decide (e.1 ≤ s.durableSeq))
  let s := { s with path := { s.path with dupAcks := s.path.dupAcks.filter (fun e => !decide (e.1 ≤ s.durableSeq)) } }
  go.foldl (fun t e => t.acknowledge e.2 e.2.order) s

/-! ## Exits before the order number -/

/-- R92: the exception item of a frame that leaves the path. -/
def exceptionItem (code stamp : Nat) (f : Frame) : Bytes :=
  leBytes 2 code ++ [0, 0, 0, 0] ++ leBytes 3 (0xFFFFF + f.port % 16 * 2 ^ 20) ++ leBytes 1 f.fmt ++
    leBytes 2 f.raw.length ++ leBytes 4 stamp ++ leBytes 2 f.link ++ List.replicate 14 0 ++ f.raw

/-- R70: the metadata of a replay slot. -/
def slotMetadata (n : Nat) (f : Frame) : Bytes :=
  leBytes 6 n ++ leBytes 3 (f.meter % 2 ^ 20 + f.port % 16 * 2 ^ 20) ++ leBytes 1 f.fmt ++ leBytes 2 f.raw.length ++ leBytes 4 f.stamp ++
    leBytes 2 (if f.port = 8 then f.link % 64 else f.link) ++ leBytes 2 f.calgen ++ leBytes 1 (f.bank % 2) ++ [0, 0, 0] ++ leBytes 8 f.digest

/-- R65, R66: a frame leaves the path: a copy goes to the exception queue while it has credit, the exit is counted and
latched, and its batch learns that it was not taken (R86). -/
def State.exitFrame (s : State) (code : Nat) (cnt irq : Field) (f : Frame) : State :=
  let s := if s.hasCredit 0x81 then s.enq 0x81 { body := .bytes (exceptionItem code s.stamp0 f) } else s
  ((s.count cnt).irq irq).batchOutcome f.batch .notTaken

/-- R67: a poisoned frame is dropped before it has an order number. -/
def State.dropPoisoned (s : State) (f : Frame) : State :=
  (s.count Reg.FUNL_PRE_ORDER_POISON_CNT_CNT).batchOutcome f.batch .notTaken

/-- R66: a frame whose identifier the directory does not hold. -/
def State.unknownMeter (s : State) (f : Frame) : State :=
  (s.exitFrame 3 Reg.FUNL_UNKNOWN_CNT_CNT Reg.FUNL_IRQ_UNKNOWN_METER f).set2 Reg.FUNL_LAST_UNKNOWN_ID_LO_ID
    Reg.FUNL_LAST_UNKNOWN_ID_HI_ID f.mid

/-- R16, R147: learning messages enter the command queue while it has credit. -/
def State.pumpMessages (s : State) : State :=
  s.dir.messages.foldl (fun t b =>
    if t.hasCredit 0xA1 then { t.enq 0xA1 { body := .bytes b } with dir := { t.dir with messages := t.dir.messages.drop 1 } } else t) s

/-! ## Order numbers and replay slots -/

/-- R68: the next order number. -/
def State.orderNext (s : State) : Nat := s.get2 Reg.FUNL_ORDER_NEXT_LO_ORDER Reg.FUNL_ORDER_NEXT_HI_ORDER

/-- Set the next order number. -/
def State.setOrderNext (s : State) (n : Nat) : State :=
  s.set2 Reg.FUNL_ORDER_NEXT_LO_ORDER Reg.FUNL_ORDER_NEXT_HI_ORDER (n % 2 ^ 48)

/-- R312, R323: the order number of the next record from the partner that this twin has not taken. -/
def State.nextIn (s : State) : Nat := s.twin.takeNext.getD s.orderNext

/-- R76: the head of Ladle's window. -/
def State.commitNext (s : State) : Nat := s.get2 Reg.LADL_COMMIT_NEXT_LO_ORDER Reg.LADL_COMMIT_NEXT_HI_ORDER

/-- Set the head of the window. -/
def State.setCommitNext (s : State) (n : Nat) : State :=
  s.set2 Reg.LADL_COMMIT_NEXT_LO_ORDER Reg.LADL_COMMIT_NEXT_HI_ORDER (n % 2 ^ 48)

/-- R70: the address of the replay slot of an order number. -/
def replayAddr (n : Nat) : Nat := 0x0858000000 + n % 65536 * 576

/-- R70: the order number that holds the replay slot of `n`, plus 1; 0 for a free slot. -/
def State.replayHolder (s : State) (n : Nat) : Nat := sget 0 s.path.replay (n % 65536)

/-- R70: has Funnel a replay credit for the order number, and is its slot free? -/
def State.replayCredit (s : State) (n : Nat) : Bool :=
  decide (s.getF Reg.FUNL_REPLAY_USE_SLOTS < 65536) && s.replayHolder n == 0

/-- R92: HOLD_CAUSE. DESIGN CHOICE (log entry 74): where several causes hold at once the model shows ENABLE = 0 before stopped durability before a missing
replay credit. -/
def State.holdCause (s : State) : Nat :=
  if !s.flag Reg.FUNL_CTRL_ENABLE then 1 else if s.flag Reg.LADL_STAT_ACK_STOPPED then 3 else if !s.replayCredit s.orderNext then 2 else 0

/-- R92: REPLAY_FULL is latched where HOLD_CAUSE has become 2. -/
def State.noteHold (s was : State) : State := if was.holdCause != 2 && s.holdCause == 2 then s.irq Reg.FUNL_IRQ_REPLAY_FULL else s

/-- R70: take the replay slot of an order number and write the bytes as received. -/
def State.takeReplay (s : State) (n : Nat) (b : Bytes) : State :=
  let s := s.write (replayAddr n) b
  let u := s.getF Reg.FUNL_REPLAY_USE_SLOTS + 1
  let s := (s.setF Reg.FUNL_REPLAY_USE_SLOTS u).peak Reg.FUNL_REPLAY_PEAK_SLOTS u
  { s with path := { s.path with replay := sput 0 s.path.replay (n % 65536) (n + 1) } }

/-- R19: the replay credit of an order number returns. -/
def State.freeReplay (s : State) (n : Nat) : State :=
  if s.replayHolder n = n + 1 then
    let s := s.setF Reg.FUNL_REPLAY_USE_SLOTS (s.getF Reg.FUNL_REPLAY_USE_SLOTS - 1)
    { s with path := { s.path with replay := sput 0 s.path.replay (n % 65536) 0 } }
  else s

/-- R70: Funnel writes the metadata of a frame's replay slot. Its part of the working area has no address in the spec (log entry 81). -/
def State.writeMeta (s : State) (n : Nat) (f : Frame) : State :=
  { s with path := { s.path with slotMeta := sput [] s.path.slotMeta (n % 65536) (slotMetadata n f) } }

/-- R76, R93: the head moves to the earliest order number in flight, or to the next one to be given; its wait starts again only where the head changes. -/
def State.advanceHead (s : State) : State :=
  let l := sortOrders (s.flightsWhere (fun _ _ => true))
  let n := (l.headD s.nextIn) % 2 ^ 48
  if n = s.commitNext then s
  else
    let s := (s.setCommitNext n).setF Reg.LADL_STAT_STALLED 0
    { s with path := { s.path with headSince := s.tb1 } }

/-- R93: the one flight there is comes to the head, and its wait starts. -/
def State.newHead (s : State) : State :=
  let t := (s.advanceHead).setF Reg.LADL_STAT_STALLED 0
  { t with path := { t.path with headSince := t.tb1 } }

/-- R75: the reorder slot of a flight that holds one returns. -/
def State.freeReorder (s : State) (fl : Flight) : State := if fl.slot then s.creditBack 0x88 else s

/-- R128: is a frame stamped with the old bank in flight? -/
def State.oldBankInFlight (s : State) : Bool :=
  let b := s.getF Reg.SIEV_PROG_SWITCH_BANK
  !(s.flightsWhere (fun _ fl => match fl.body with
    | .frame f => f.bank != b
    | .ordered _ => false)).isEmpty

/-- R128: the switch of bank ends with the last frame stamped with the old bank. -/
def State.switchDone (s : State) : State :=
  if s.flag Reg.SIEV_STAT_SWITCH_PENDING && !s.oldBankInFlight then (s.setF Reg.SIEV_STAT_SWITCH_PENDING 0).irq Reg.SIEV_IRQ_SWITCHED else s

/-- R68: an order number is in flight no more: its reorder slot returns, calendar generations that only it held are
dropped (R178), a switch of bank may end (R128), and the head moves on. -/
def State.endFlight (s : State) (n : Nat) (fl : Flight) : State :=
  (((((s.leavePlain fl.lane [n]).freeReorder fl).setFlight n none).pruneGens).switchDone).advanceHead

/-! ## Frames held by Funnel -/

/-- R143 step 4, R154: does an ordered item hold later frames of a frame's meter? -/
def Ordered.sameMeter (o : Ordered) (f : Frame) : Bool :=
  match o with
  | .dirCmd b _ =>
    let op := leAt b 0 1
    if op = 3 then leAt b 4 4 == f.meter
    else if op = 1 then leAt b 4 4 == f.meter || leAt b 8 8 == f.mid
    else leAt b 8 8 == f.mid
  | .balCmd b => (leAt b 0 1 == 3 || leAt b 0 1 == 4) && leAt b 4 4 == f.meter
  | .token _ m _ => m == f.meter
  | _ => false

/-- R112, R124, R143: must Funnel hold the frame with order number `n`: an ordered item of its meter, or a frame of its meter that is held or is to run again,
precedes it, a frame of the lane that it was last given to is to run again before it, or its lane takes no frame? -/
def State.mustHold (s : State) (n : Nat) (f : Frame) : Bool :=
  let lane := s.laneOf f.meter
  let was := (s.flight n).map (·.lane)
  s.heldLanes.contains lane || s.laneState lane != .service ||
    !(s.flightsWhere (fun k g => precedes k n && (match g.body with
      | .ordered o => o.sameMeter f
      | .frame e => (g.rerun && was == some g.lane) || (e.meter == f.meter && (g.stage == .held || g.rerun))))).isEmpty

/-- R72, R399: the Cleaver unit of a lane's frames. -/
def unitOf (lane : Nat) : Nat := lane % 4

/-- R19: the decrypt queue of a Cleaver unit. -/
def decryptQ (u : Nat) : Nat := 0x4A + u

/-- R73, R113: a frame goes to Cleaver, for the lane that the lane map names; on another lane its poisoned runs count from 0. -/
def State.toDecrypt (s : State) (n : Nat) (fl : Flight) : State :=
  let lane := s.laneOf fl.frame.meter
  let runs := if lane = fl.lane then fl.poisonRuns else 0
  (s.setFlight n (some { fl with stage := .decrypt, lane := lane, rerun := false, poisonRuns := runs })).enq
    (decryptQ (unitOf lane)) { body := .order n }

/-- R143: held frames that nothing holds any more go on, in order, while their decrypt queue has credit. Frames that are to
run again wait for their re-run. -/
def State.release (s : State) : State :=
  (sortOrders (s.flightsWhere (fun _ fl => fl.stage == .held && !fl.rerun && fl.meter?.isSome))).foldl (fun t n =>
    match t.flight n with
    | some fl =>
      if !t.mustHold n fl.frame && t.hasCredit (decryptQ (unitOf (t.laneOf fl.frame.meter))) then t.toDecrypt n fl else t
    | none => t) s

/-- R68, R70: a frame is in flight under its order number, with its replay slot; it goes to Cleaver unless it is held. -/
def State.launch (s : State) (n : Nat) (f : Frame) : State :=
  let s := (s.takeReplay n f.raw).writeMeta n f
  let p := parseFrame f.raw
  let fl : Flight :=
    { body := .frame f, lane := s.laneOf f.meter, stage := .held, ptOff := (p.map (·.ptOff)).getD 0,
      ptLen := (p.map (·.ptLen)).getD 0, version := leAt f.raw 0 1 }
  let s := s.setFlight n (some fl)
  let s := if (s.flightsWhere (fun _ _ => true)).length = 1 then s.newHead else s
  if !s.mustHold n f && s.hasCredit (decryptQ (unitOf fl.lane)) then s.toDecrypt n fl else s

/-- R143 step 3: an ordered item is in flight with a replay slot and a reorder slot. A prefetched copy of the meter's record
goes. -/
def State.launchOrdered (s : State) (n : Nat) (o : Ordered) : State :=
  let s := s.takeReplay n []
  let x := s.queue 0x88
  let s := s.setQueue 0x88 { x with credits := x.credits - 1, held := x.held + 1 }
  let s := s.peak Reg.LADL_WINDOW_PEAK_SLOTS (s.queue 0x88).held
  let s := s.setFlight n (some { body := .ordered o, slot := true })
  let s := { s with prefetched := s.prefetched.filter (fun e =>
    !o.sameMeter { meter := e.1, mid := s.recF e.1 0 8 }) }
  if (s.flightsWhere (fun _ _ => true)).length = 1 then s.newHead else s

/-! ## Records for the partner -/

/-- R311: the FRAME record of a frame with its order number. -/
def State.frameRecord (s : State) (n : Nat) (f : Frame) : Bytes :=
  let from_ : Option (Nat × Nat × Nat) := match f.batch with
    | none => f.origin
    | some (k, i) => (s.batch k).map (fun b => (b.conc, i, b.bseq))
  let (src, pos, bseq) := from_.getD (0xFF, 0, 0)
  [1] ++ leBytes 1 f.port ++ leBytes 2 f.raw.length ++ leBytes 6 n ++ leBytes 2 f.link ++
    leBytes 4 (f.meter % 2 ^ 20 + (if f.port = 8 then f.link % 64 * 2 ^ 20 else 0) + f.bank % 2 * 2 ^ 31) ++ leBytes 4 f.stamp ++
    leBytes 2 f.calgen ++ [0, 0] ++ leBytes 8 f.digest ++ leBytes 1 src ++ leBytes 1 pos ++ leBytes 4 bseq ++
    List.replicate 10 0 ++ f.raw

/-- R311, R316: the order number and the frame of a FRAME record. The batch that the record names is one of the active, which this twin does not track. -/
def frameOfRecord (b : Bytes) : Nat × Frame :=
  let raw := slice b 48 (leAt b 2 2)
  let p := parseFrame raw
  (leAt b 4 6,
    { raw := raw, port := leAt b 1 1, link := leAt b 10 2, fmt := (p.map (·.fmt)).getD 0xFF, mid := (p.map (·.mid)).getD 0,
      ivc := (p.map (·.ivc)).getD 0, meter := leAt b 12 4 % 2 ^ 20, stamp := leAt b 16 4, calgen := leAt b 20 2,
      bank := leAt b 12 4 / 2 ^ 31, digest := leAt b 24 8,
      origin := if leAt b 32 1 = 0xFF then none else some (leAt b 32 1, leAt b 33 1, leAt b 34 4) })

end Sys2Proof.Machine
end

