-- ==== Sys2Proof/Machine/Lanes.lean ====
section
/-! DEFINITION. A lane runs a frame: the start, the arrival of plaintext, the standard instructions (R94–R101, R508), the Sieve instructions (R102–R105), the cycle limit and the end (R107–R113). -/

namespace Sys2Proof.Machine

/-! ## Start and plaintext -/

/-- R98: the effects of earlier frames of the meter that are still speculative on the lane. -/
def State.earlierEffects (s : State) (l : Lane) (meter : Nat) : List Effect :=
  l.effects.filter (fun e => match s.flight e.order with
    | some fl => fl.meter? == some meter
    | none => false)

/-- R98: fill the record window of a lane from a copy of the record. -/
def State.loadWindow (s : State) (n meter : Nat) (copy : Bytes) : State :=
  let base := aperture n + 0x8000
  let s := s.write base copy
  (s.earlierEffects (s.lane n) meter).foldl (fun t e => t.applyEffect base e) s

/-- R75, R114: take the reorder slot of a frame as the lane's Ladle credit. -/
def State.takeSlot (s : State) (order : Nat) (fl : Flight) : State :=
  if fl.slot then s
  else
    let q := s.queue 0x88
    let s := s.setQueue 0x88 { q with credits := q.credits - 1, held := q.held + 1 }
    let s := s.setFlight order (some { fl with slot := true })
    s.peak Reg.LADL_WINDOW_PEAK_SLOTS (s.queue 0x88).held

/-- R75: may the frame take its slot: it holds it already, or the slot has let go of order number n − 4,096. -/
def State.slotFree (s : State) (order : Nat) (fl : Flight) : Bool :=
  fl.slot || (s.hasCredit 0x88 && (s.flight ((order + 2 ^ 48 - 4096) % 2 ^ 48)).isNone)

/-- R99: the state of a lane at the start of a frame. -/
def Lane.start (l : Lane) (order len fmt now : Nat) : Lane :=
  { l with
    regs := sput 0 (sput 0 (sput 0 [] 2 0x20000) 10 len) 11 fmt,
    pc := 0, lastPc := 0, running := some order, cycles := 0, stalled := false, waiting := none, stored := [], retiredAt := now }

/-- R9, R98, R99: a frame reaches the head of a lane's plaintext queue, takes its reorder slot and starts, with the copy of its record that its item carries, else
one taken now from the DRAM. The lanes need CAL and BAL, so that FABRIC has to run. -/
def execLaneFrameStart (lane : Fin 32) (s : State) : Host.Outcome State Fault Refusal :=
  let n := lane.val
  match (s.queue (plainQ n)).items.head? with
  | some { body := .order k, poison := _ } =>
    match s.flight k with
    | some fl =>
      if s.domOn .fabric ∧ s.laneState n = .service ∧ (s.lane n).running = none ∧ fl.stage = .lane ∧ s.slotFree k fl then
        s.withDram fun s =>
        let f := fl.frame
        let s := if fl.copy.isEmpty then s.eccCorrect (recordAddr f.meter) 1024 else s
        let s := s.takeSlot k fl
        let s := s.setFlight k (some { fl with slot := true, stage := .running, arrived := max fl.arrived fl.ptOff })
        let s := s.loadWindow n f.meter (if fl.copy.isEmpty then s.read (recordAddr f.meter) 1024 else fl.copy)
        let s := s.setF (Reg.LANE_STAT_BANK n) f.bank
        .next (s.setLane n ((s.lane n).start k f.raw.length f.fmt s.tb1))
      else idle s
    | none => idle s
  | _ => idle s

/-- R123: a stall ends: its time does not count for the watchdog. -/
def Lane.goOn (l : Lane) (now : Nat) : Lane :=
  match l.waiting with
  | some t => { l with retiredAt := l.retiredAt + (now - t), waiting := none }
  | none => l

/-- R97: the words of a frame that has ended, where they are the first still to come in a lane's plaintext queue: one of them arrives and is dropped, and with the last
the slot is free. -/
def State.dropWord (s : State) (n : Nat) : Option State :=
  let q := s.queue (plainQ n)
  match q.items.span (fun i => match i.body with
    | .order k => (match s.flight k with
      | some fl => decide (fl.plain.length ≤ fl.arrived)
      | none => true)
    | _ => false) with
  | (pre, { body := .words w, poison := p } :: r) =>
    some (if w ≤ 1 then s.setQueue (plainQ n) { q with items := pre ++ r, credits := q.credits + 1 }
      else s.setQueue (plainQ n) { q with items := pre ++ { body := .words (w - 1), poison := p } :: r })
  | _ => none

/-- R97: the first frame in a lane's plaintext queue whose bytes have not all arrived. -/
def State.arriving (s : State) (n : Nat) : Option (Nat × Flight) :=
  (s.queue (plainQ n)).items.findSome? (fun i => match i.body with
    | .order k => match s.flight k with
      | some fl => if fl.arrived < fl.plain.length then some (k, fl) else none
      | none => none
    | _ => none)

/-- R97, R113: a plaintext word reaches a lane's frame window; its parity may have failed. -/
def execPlaintextWordArrive (lane : Fin 32) (poison : Bool) (s : State) : Host.Outcome State Fault Refusal :=
  let n := lane.val
  match s.dropWord n with
  | some t => .next (if poison then t.poisoned (plainQ n) else t)
  | none =>
  match s.arriving n with
  | none => idle s
  | some (k, fl) =>
    let w := fl.arrived / 4
    let fl' := { fl with
      arrived := min fl.plain.length (4 * w + 4),
      poisonWords := if poison then fl.poisonWords ++ [w] else fl.poisonWords }
    let s := s.setFlight k (some fl')
    let s := if poison then s.poisoned (plainQ n) else s
    let s := if (s.lane n).running = some k ∧ !(s.lane n).stalled ∧ min (s.lane n).need fl'.plain.length ≤ fl'.arrived then s.setLane n ((s.lane n).goOn s.tb1) else s
    .next (if fl'.stage = .done ∧ fl'.plain.length ≤ fl'.arrived then s.releasePlain n k else s)

/-! ## One instruction -/

/-- A lane that can run an instruction: in SERVICE, with a frame, not waiting for the effect buffer, below the
cycle limit. -/
def State.laneReady (s : State) (n : Nat) : Option (Nat × Flight) :=
  let l := s.lane n
  match l.running with
  | none => none
  | some k =>
    match s.flight k with
    | none => none
    | some fl =>
      if s.laneState n = .service ∧ l.stalled = false ∧ l.cycles < s.getF Reg.SIEV_FRAME_CYCLE_LIMIT_CYCLES then
        some (k, fl)
      else none

/-- An instruction traps: the frame ends with PROGRAM_FAULT at its own program counter (R95, R508). -/
def State.laneTrap (s : State) (n k : Nat) : State := s.hwQuarantine n k Reason.programFault (s.lane n).pc

/-- A load of `k` bytes at an address stalls on plaintext: nothing retires, and until the bytes that it waits for have come the watchdog does not count
(R97, R123). -/
def State.laneStall (s : State) (n a k : Nat) : State :=
  s.setLane n { s.lane n with waiting := some ((s.lane n).waiting.getD s.tb1), need := a + k - 0xA000 }

/-- R113: a lane loads a poisoned word: the frame ends with RERUN. The third such run in a row fences the lane;
three more on a second lane end the frame as a hardware quarantine. DESIGN CHOICE (log entry 78): the frame window has no aperture offset, so FENCE_CAUSE.OFFSET
takes 0. -/
def State.lanePoison (s : State) (n k : Nat) (fl : Flight) : State :=
  let runs := fl.poisonRuns + 1
  if 3 ≤ runs ∧ 1 ≤ fl.poisonLanes then s.laneTrap n k
  else
    let s := s.count (Reg.LANE_RERUN_CNT_CNT n)
    if 3 ≤ runs then
      let s := s.setFlight k (some { fl with poisonRuns := 0, poisonLanes := 1 })
      (s.fenceLane n Cause.parity 0).release
    else
      let s := s.setFlight k (some { fl with poisonRuns := runs })
      s.squashFrom n k true

/-- R100: the value of a CSR. -/
def csrValue (k : Nat) (fl : Flight) (c : Nat) : Nat :=
  let f := fl.frame
  match c with
  | 0xCC0 => f.raw.length
  | 0xCC1 => f.fmt
  | 0xCC2 => fl.ptOff
  | 0xCC3 => fl.ptLen
  | 0xCC4 => f.meter
  | 0xCC5 => k % 2 ^ 32
  | 0xCC6 => k / 2 ^ 32
  | 0xCC7 => f.stamp
  | 0xCC8 => f.port
  | 0xCC9 => f.ivc % 2 ^ 32
  | 0xCCA => f.ivc / 2 ^ 32
  | 0xCCB => f.calgen
  | _ => 0

/-- The bytes a standard load takes, by funct3. -/
def loadSize (f3 : Nat) : Nat := if f3 % 4 = 0 then 1 else if f3 % 4 = 1 then 2 else 4

/-- The value a standard load gives its register. -/
def loadValue (f3 : Nat) (bs : Bytes) : Nat :=
  match f3 with
  | 0 => sext32 8 (leNat bs)
  | 1 => sext32 16 (leNat bs)
  | _ => leNat bs

/-- An instruction that writes `rd` and goes on to the next one. -/
def State.laneDone (s : State) (n rd v cycles : Nat) : State :=
  let l := s.lane n
  s.setLane n ((l.put rd v).retire cycles (l.pc + 4) s.tb1)

/-- An instruction that goes to a target; a misaligned target traps. -/
def State.laneJump (s : State) (n k rd v target cycles : Nat) : State :=
  let l := s.lane n
  if target % 4 ≠ 0 then s.laneTrap n k else s.setLane n ((l.put rd v).retire cycles target s.tb1)

/-- R95, R508: one standard instruction. -/
def State.runRv (s : State) (n k : Nat) (fl : Flight) (i : Rv) : State :=
  let l := s.lane n
  match i with
  | .lui rd imm => s.laneDone n rd imm (i.cycles false)
  | .auipc rd imm => s.laneDone n rd (l.pc + imm) (i.cycles false)
  | .jal rd imm => s.laneJump n k rd (l.pc + 4) ((l.pc + imm) % 2 ^ 32) (i.cycles false)
  | .jalr rd rs1 imm => s.laneJump n k rd (l.pc + 4) ((l.get rs1 + imm) % 2 ^ 32 / 2 * 2) (i.cycles false)
  | .branch f3 rs1 rs2 imm =>
    if branchTaken f3 (l.get rs1) (l.get rs2) then s.laneJump n k 0 0 ((l.pc + imm) % 2 ^ 32) (i.cycles true)
    else s.laneDone n 0 0 (i.cycles false)
  | .load f3 rd rs1 imm =>
    let a := (l.get rs1 + imm) % 2 ^ 32
    if a % loadSize f3 ≠ 0 then s.laneTrap n k
    else match s.laneLoad n fl a (loadSize f3) with
      | .ok bs => s.laneDone n rd (loadValue f3 bs) (i.cycles false)
      | .outside => s.laneTrap n k
      | .stall => s.laneStall n a (loadSize f3)
      | .poison => s.lanePoison n k fl
  | .store f3 rs1 rs2 imm =>
    let a := (l.get rs1 + imm) % 2 ^ 32
    let z := 2 ^ f3
    if a % z ≠ 0 ∨ a < 0x18000 ∨ 0x20000 < a + z then s.laneTrap n k
    else (s.laneStore n a (leBytes z (l.get rs2))).laneDone n 0 0 (i.cycles false)
  | .opImm f3 alt rd rs1 imm => s.laneDone n rd (alu f3 alt (l.get rs1) imm) (i.cycles false)
  | .op f3 alt rd rs1 rs2 => s.laneDone n rd (alu f3 alt (l.get rs1) (l.get rs2)) (i.cycles false)
  | .mulDiv f3 rd rs1 rs2 => s.laneDone n rd (mulDiv f3 (l.get rs1) (l.get rs2)) (i.cycles false)
  | .fence => s.laneDone n 0 0 (i.cycles false)
  | .csrRead rd csr => s.laneDone n rd (csrValue k fl csr) (i.cycles false)
  | .sv _ => s
  | .illegal => s.laneTrap n k

/-- R508: a lane executes the standard instruction at its program counter; a fetch outside the bank traps (R95). A
Sieve instruction there is executed by its own row. -/
def execLaneRv32Instruction (lane : Fin 32) (s : State) : Host.Outcome State Fault Refusal :=
  let n := lane.val
  match s.laneReady n with
  | none => idle s
  | some (k, fl) =>
    match s.laneFetch n (s.lane n).pc with
    | none => .next (s.laneTrap n k)
    | some w => .next (s.runRv n k fl (decodeRv w))

/-! ## Sieve instructions -/

/-- The Sieve instruction a lane stands at, with its frame. -/
def State.atSieve (s : State) (n : Nat) : Option (Nat × Flight × Sv) :=
  match s.laneReady n with
  | none => none
  | some (k, fl) =>
    match s.laneFetch n (s.lane n).pc with
    | none => none
    | some w => match decodeRv w with
      | .sv i => some (k, fl, i)
      | _ => none

/-- R103: a load that must lie in the frame window. -/
def State.frameLoad (s : State) (n : Nat) (fl : Flight) (a k : Nat) : Load :=
  if 0xA000 ≤ a ∧ a + k ≤ 0xA400 then s.laneLoad n fl a k else .outside

/-- R103: SV.LDBE of `z` bytes. -/
def State.svLdbe (s : State) (n k : Nat) (fl : Flight) (z rd rs1 imm : Nat) : State :=
  match s.laneLoad n fl (((s.lane n).get rs1 + imm) % 2 ^ 32) z with
  | .ok bs => s.laneDone n rd (beNat bs) 2
  | .outside => s.laneTrap n k
  | .stall => s.laneStall n (((s.lane n).get rs1 + imm) % 2 ^ 32) z
  | .poison => s.lanePoison n k fl

/-- R103: the length bytes that follow the first byte of an A-XDR length; none where its form is not known. -/
def axdrExtra (b0 : Nat) : Option Nat :=
  if b0 < 0x80 then some 0 else if b0 = 0x81 then some 1 else if b0 = 0x82 then some 2 else none

/-- R103: SV.AXLEN. -/
def execSvAxlen (lane : Fin 32) (s : State) : Host.Outcome State Fault Refusal :=
  let n := lane.val
  match s.atSieve n with
  | some (k, fl, .axlen rd rs1) =>
    let a := (s.lane n).get rs1
    match s.frameLoad n fl a 1 with
    | .outside => .next (s.laneTrap n k)
    | .stall => .next (s.laneStall n a 1)
    | .poison => .next (s.lanePoison n k fl)
    | .ok b0 =>
      match axdrExtra (beNat b0) with
      | none => .next (s.laneDone n rd 0xFFFFFFFF 3)
      | some x =>
        match s.frameLoad n fl a (1 + x) with
        | .outside => .next (s.laneTrap n k)
        | .stall => .next (s.laneStall n a (1 + x))
        | .poison => .next (s.lanePoison n k fl)
        | .ok bs => .next (s.laneDone n rd ((1 + x) * 2 ^ 16 + (if x = 0 then beNat bs else beNat (bs.drop 1))) 3)
  | _ => idle s

/-- R103, R177: SV.TARIFF through the calendar that the record window names, in the frame's generation. -/
def execSvTariff (lane : Fin 32) (s : State) : Host.Outcome State Fault Refusal :=
  let n := lane.val
  match s.atSieve n with
  | some (_, fl, .tariff rd rs1) =>
    let cfg := s.readNat (aperture n + 0x8000 + 0x100) 4
    let r := if bitAt cfg 6 = 0 then calNone
      else s.calResolve ((s.lane n).get rs1) (bitsOf cfg 5 0) (s.genOf fl.frame.calgen)
    .next (s.laneDone n rd r 40)
  | _ => idle s

/-- R103: SV.CDATE of 12 bytes in the frame window. -/
def execSvCdate (lane : Fin 32) (s : State) : Host.Outcome State Fault Refusal :=
  let n := lane.val
  match s.atSieve n with
  | some (k, fl, .cdate rd rs1 rs2) =>
    match s.frameLoad n fl ((s.lane n).get rs1) 12 with
    | .outside => .next (s.laneTrap n k)
    | .stall => .next (s.laneStall n ((s.lane n).get rs1) 12)
    | .poison => .next (s.lanePoison n k fl)
    | .ok bs =>
      .next (s.laneDone n rd (cosemUtc (s.genOf fl.frame.calgen) bs (bitAt ((s.lane n).get rs2) 0 == 1)) 40)
  | _ => idle s

/-- R103: SV.LDBE.H. -/
def execSvLdbeH (lane : Fin 32) (s : State) : Host.Outcome State Fault Refusal :=
  match s.atSieve lane.val with
  | some (k, fl, .ldbeH rd rs1 imm) => .next (s.svLdbe lane.val k fl 2 rd rs1 imm)
  | _ => idle s

/-- R103: SV.LDBE.W. -/
def execSvLdbeW (lane : Fin 32) (s : State) : Host.Outcome State Fault Refusal :=
  match s.atSieve lane.val with
  | some (k, fl, .ldbeW rd rs1 imm) => .next (s.svLdbe lane.val k fl 4 rd rs1 imm)
  | _ => idle s

/-- R105: is an effect at a record offset refused by the areas that no effect reaches, or by `REC_WMASK`? -/
def State.wmaskDenies (s : State) (off : Nat) : Bool :=
  decide (off < 0x100) || (decide (0x300 ≤ off) && decide (off < 0x380)) ||
    bitAt (s.getF Reg.SIEV_REC_WMASK_LINES) (off / 64) == 0

/-- R103, R105, R106, R107: a new effect: the 65th of a frame ends it; a full buffer stalls the lane; otherwise the
entry is written and the record window changes at once. -/
def State.addEffect (s : State) (n k : Nat) (e : Effect) : State :=
  let l := s.lane n
  if 64 ≤ (l.effectsOf k).length then s.hwQuarantine n k Reason.effectOverflow l.pc
  else if 256 ≤ l.effects.length then s.setLane n { l with stalled := true, waiting := some s.tb1 }
  else
    let s := s.setLaneFx n { l with effects := l.effects ++ [e] }
    (s.applyEffect (aperture n + 0x8000) e).laneDone n 0 0 2

/-- R105: an effect with a record offset: the offset's form, the line, then the count. -/
def State.offsetEffect (s : State) (n k align : Nat) (e : Effect) : State :=
  if 0x3FF < e.off ∨ e.off % align ≠ 0 then s.laneTrap n k
  else if s.wmaskDenies e.off then s.hwQuarantine n k Reason.wmaskDeny (s.lane n).pc
  else s.addEffect n k e

/-- R103: SV.EWR. -/
def execSvEwr (lane : Fin 32) (s : State) : Host.Outcome State Fault Refusal :=
  let n := lane.val
  let l := s.lane n
  match s.atSieve n with
  | some (k, _, .ewr rs1 rs2 imm) =>
    .next (s.offsetEffect n k 4 ⟨k, 1, 0, (l.get rs1 + imm) % 2 ^ 32, l.get rs2, 0, 0⟩)
  | _ => idle s

/-- R103: SV.EADD. -/
def execSvEadd (lane : Fin 32) (s : State) : Host.Outcome State Fault Refusal :=
  let n := lane.val
  let l := s.lane n
  match s.atSieve n with
  | some (k, _, .eadd rs1 rs2 rs3) => .next (s.offsetEffect n k 8 ⟨k, 2, 0, l.get rs1, l.get rs2, l.get rs3, 0⟩)
  | _ => idle s

/-- R103: SV.EMAX. -/
def execSvEmax (lane : Fin 32) (s : State) : Host.Outcome State Fault Refusal :=
  let n := lane.val
  let l := s.lane n
  match s.atSieve n with
  | some (k, _, .emax rs1 rs2 rs3) => .next (s.offsetEffect n k 8 ⟨k, 3, 0, l.get rs1, l.get rs2, l.get rs3, 0⟩)
  | _ => idle s

/-- R103: SV.EBAL.IMP. -/
def execSvEbalImp (lane : Fin 32) (s : State) : Host.Outcome State Fault Refusal :=
  let n := lane.val
  let l := s.lane n
  match s.atSieve n with
  | some (k, _, .ebalImp rs1 rs2 rs3) => .next (s.addEffect n k ⟨k, 4, 0, 0, l.get rs1, l.get rs2, l.get rs3⟩)
  | _ => idle s

/-- R103: SV.EBAL.EXP. -/
def execSvEbalExp (lane : Fin 32) (s : State) : Host.Outcome State Fault Refusal :=
  let n := lane.val
  let l := s.lane n
  match s.atSieve n with
  | some (k, _, .ebalExp rs1 rs2 rs3) => .next (s.addEffect n k ⟨k, 4, 1, 0, l.get rs1, l.get rs2, l.get rs3⟩)
  | _ => idle s

/-- R103: SV.EBAL.VOLT; rs3 is ignored. -/
def execSvEbalVolt (lane : Fin 32) (s : State) : Host.Outcome State Fault Refusal :=
  let n := lane.val
  let l := s.lane n
  match s.atSieve n with
  | some (k, _, .ebalVolt rs1 rs2 _) => .next (s.addEffect n k ⟨k, 4, 2, 0, l.get rs1, l.get rs2, 0⟩)
  | _ => idle s

/-- R103: SV.EEVT. -/
def execSvEevt (lane : Fin 32) (s : State) : Host.Outcome State Fault Refusal :=
  let n := lane.val
  let l := s.lane n
  match s.atSieve n with
  | some (k, _, .eevt rs1 rs2) => .next (s.addEffect n k ⟨k, 5, 0, 0, l.get rs1 % 2 ^ 16, l.get rs2, 0⟩)
  | _ => idle s

/-- R110: the verdict of a verdict word; none where the word breaks its limits. -/
def verdictOf (w : Nat) : Option LaneVerdict :=
  let reason := bitsOf w 27 16
  if bitsOf w 15 2 ≠ 0 ∨ bitsOf w 31 28 ≠ 0 then none
  else match w % 4 with
    | 0 => if reason = 0 then some .accept else none
    | 1 => if reason < 0x800 then some (.quarantine reason) else none
    | 2 => if reason = 0 then some .duplicate else none
    | _ => if reason = 0 then some .replayReject else none

/-- R110, R111: SV.VERD; the verdict stands only when the count, with its own cycle, stays below the limit. -/
def execSvVerd (lane : Fin 32) (s : State) : Host.Outcome State Fault Refusal :=
  let n := lane.val
  let l := s.lane n
  match s.atSieve n with
  | some (k, _, .verd rs1) =>
    match verdictOf (l.get rs1) with
    | none => .next (s.laneTrap n k)
    | some v =>
      let t := s.setLane n (l.retire 1 l.pc s.tb1)
      if l.cycles + 1 < s.getF Reg.SIEV_FRAME_CYCLE_LIMIT_CYCLES then .next (t.endFrame n k v) else .next t
  | _ => idle s

/-- R107: a lane stalled on a full effect buffer goes on once an entry is free. -/
def execEffectStallResume (lane : Fin 32) (s : State) : Host.Outcome State Fault Refusal :=
  let l := s.lane lane.val
  if l.stalled ∧ l.effects.length < 256 then
    .next (s.setLane lane.val { l.goOn s.tb1 with stalled := false })
  else idle s

/-- R111: the counted cycles reach the limit: a hardware quarantine at the instruction that reached it. -/
def execCycleLimit (lane : Fin 32) (s : State) : Host.Outcome State Fault Refusal :=
  let n := lane.val
  let l := s.lane n
  match l.running with
  | some k =>
    if s.getF Reg.SIEV_FRAME_CYCLE_LIMIT_CYCLES ≤ l.cycles ∧ s.laneState n = .service then
      .next (s.hwQuarantine n k Reason.cycleLimit l.lastPc)
    else idle s
  | none => idle s

end Sys2Proof.Machine
end

