-- ==== Sys2Proof/Machine/TxnOps.lean ====
section
/-! DEFINITION. The staging of T-fields, as every command that writes one needs it (R40–R45). The commit and the roll-back stand in Txn.lean. -/

namespace Sys2Proof.Machine

/-- A transaction tag, 1 to 4. -/
def State.txn (s : State) (t : Nat) : Txn := sget {} s.txns t

/-- Replace a transaction tag. -/
def State.setTxn (s : State) (t : Nat) (x : Txn) : State := { s with txns := sput {} s.txns t x }

/-- R40: the tag that a requester's `TXN_SEL` names. -/
def State.selOf (s : State) (req : Req) : Nat := s.getF (Reg.SYS_TXN_SEL_TAG.bankOf req.code)

/-- R43: the other tag that holds a field in staging, if any. -/
def State.stagedBy (s : State) (f : Field) (mine : Nat) : Option Nat :=
  [1, 2, 3, 4].find? (fun t => t != mine && (s.txn t).staged.any (fun e => e.1 == f))

/-- R44: the registers that a staged set holds. -/
def stagedRegs (l : List (Field × Nat)) : Nat := ((l.map (fun e => e.1.page * 4096 + e.1.off)).eraseDups).length

/-- R44: the registers staged across the four tags. -/
def State.stagedTotal (s : State) : Nat := ([1, 2, 3, 4].map (fun t => stagedRegs (s.txn t).staged)).sum

/-- R43: a staged set with one field's value set or replaced. -/
def putStaged (l : List (Field × Nat)) (f : Field) (v : Nat) : List (Field × Nat) :=
  l.filter (fun e => e.1 != f) ++ [(f, v)]

/-- R43, R44: stage the values of some T-fields of one register in an owned tag, or refuse them together. -/
def State.stage (s : State) (req : Req) (tag : Nat) (p off : Nat) (l : List (Field × Nat)) : State :=
  let x := s.txn tag
  if x.state ≠ .free ∧ x.owner ≠ req then s.err 0 Err.txnNotOwner (accessInfo p req off)
  else if x.state ≠ .opened then s.err 0 Err.txnNotOpen (accessInfo p req off)
  else if l.any (fun e => (s.stagedBy e.1 tag).isSome) then s.err 0 Err.txnConflict (accessInfo p req off)
  else
    let n := l.foldl (fun a e => putStaged a e.1 e.2) x.staged
    let others := s.stagedTotal - stagedRegs x.staged
    if 256 < stagedRegs n ∨ 1024 < others + stagedRegs n then s.err 0 Err.txnFull (accessInfo p req off)
    else s.setTxn tag { x with staged := n }

/-- A write of 1 or 0 to a one-bit T-field whose effect is a row of its own: it joins the requester's selected
transaction; with none selected it is refused while another transaction holds the field, and acts otherwise. -/
def State.onT (s : State) (req : Req) (f : Field) (v : Nat) (k : State → State) : State :=
  s.onField req f fun s =>
    let tag := s.selOf req
    if tag ≠ 0 then s.stage req tag f.page f.off [(f, v)]
    else if (s.stagedBy f 0).isSome then s.err 0 Err.txnConflict (accessInfo f.page req f.off)
    else k s

/-- The page that a field stands on; that of a window's register for an entry of a table. -/
def Field.home (f : Field) : Nat :=
  if f.page < 0x10000 then f.page % 0x1000 else [0x21, 0x06, 0x03, 0x19, 0x28, 0x28, 0x2F].getD (f.page / 0x10000 - 1) 0

/-- R49: the pages that hold staging of a tag. -/
def Txn.pages (x : Txn) : List Nat := (x.staged.map (fun e => e.1.home)).eraseDups

/-- R44: the tags that hold staging on a page. -/
def State.stagedOn (s : State) (p : Nat) : Nat :=
  ([1, 2, 3, 4].map (fun t => if (s.txn t).pages.contains p then 2 ^ (t - 1) else 0)).sum

/-- R49: a tag ends with an outcome, 1 committed or 2 rolled back: its staging is gone, and every participating page sets IRQ_RAW.TXN and updates TXN_STAT. -/
def State.endTxn (s : State) (t : Nat) (x : Txn) (outcome : Nat) : State :=
  let u := s.setTxn t { x with staged := [], trigger := .none }
  x.pages.foldl (fun u p => ((u.irq (Reg.irqRaw p 30)).setF (Reg.TXN_STAT_LAST_OUTCOME p) outcome).setF (Reg.TXN_STAT_LAST_TAG p) t) u

/-- R42, R49: a tag rolls back, with its cause and the page that caused it. -/
def State.rollBack (s : State) (t cause page : Nat) : State :=
  let x := s.txn t
  s.endTxn t { x with state := .rolledBack, cause := cause, page := page } 2

/-- R42: the firmware of a requester is restarted or activated: its transactions that are open or armed roll back with OWNER_RESET. -/
def State.ownerReset (s : State) (req : Req) : State :=
  [1, 2, 3, 4].foldl (fun t n =>
    let x := t.txn n
    if x.owner = req ∧ (x.state = .opened ∨ x.state = .armed) then t.rollBack n 5 0 else t) s

end Sys2Proof.Machine
end

