-- ==== Sys2Proof/Machine/LaneCtl.lean ====
section
/-! DEFINITION. The states of a lane and its repair (R122–R125), the loading and sealing of rule programs (R126, R127), and the lane map (R115–R117). -/

namespace Sys2Proof.Machine

/-! ## Tests and fences -/

/-- R124: a lane is fenced, and frames that Funnel held go on where nothing holds them any more. -/
def State.fenceOut (s : State) (n cause off : Nat) : State := (s.fenceLane n cause off).release

/-- R125: the number of the 10 ms period in which a lane's test falls due at a TB1 instant. -/
def katPeriod (n now : Nat) : Nat := (now + 10000000 - n * 312500) / 10000000

/-- R125: the periodic known-answer test of a lane in SERVICE, in its time slot and between frames. -/
def execLaneKat (lane : Fin 32) (passed : Bool) (s : State) : Host.Outcome State Fault Refusal :=
  let n := lane.val
  let l := s.lane n
  if s.flag Reg.SIEV_CTRL_KAT_EN ∧ s.laneState n = .service ∧ l.running = none ∧ l.katAt < katPeriod n s.tb1 then
    let t := s.setLane n { l with katAt := katPeriod n s.tb1 }
    .next (if passed then t else t.fenceOut n Cause.kat 0)
  else idle s

/-- R123: a lane that holds a frame retires nothing for WDOG.US µs, not counting stalls. -/
def execLaneWatchdog (lane : Fin 32) (s : State) : Host.Outcome State Fault Refusal :=
  let n := lane.val
  let l := s.lane n
  if s.laneState n = .service ∧ l.running.isSome ∧ l.waiting = none ∧
      l.retiredAt + s.getF Reg.SIEV_WDOG_US * 1000 ≤ s.tb1 then
    .next (s.fenceOut n Cause.wdog 0)
  else idle s

/-- R122: a write of `LANE.CTRL.FENCE` = 1; it has no effect on a lane that is OFF, in SELFTEST or FENCED. -/
def State.softFence (s : State) (n : Nat) : State :=
  if s.laneState n = .service ∨ s.laneState n = .maint then s.fenceOut n Cause.software 0 else s

/-- R123, R124: a fence on a parity error, or by software. -/
def execLaneFence (lane : Fin 32) (trigger : FenceTrigger) (s : State) : Host.Outcome State Fault Refusal :=
  let n := lane.val
  match trigger with
  | .parity off =>
    if s.laneState n = .service ∨ s.laneState n = .maint then .next (s.fenceOut n Cause.parity off.toNat) else idle s
  | .software req => .next (s.onT req (Reg.LANE_CTRL_FENCE n) 1 fun s => s.softFence n)

/-- R122: the programs must be loaded and sealed again. -/
def State.unload (s : State) (n : Nat) : State :=
  (s.setF (Reg.LANE_STAT_LOADED_A n) 0).setF (Reg.LANE_STAT_LOADED_B n) 0

/-- R122: a write of `LANE.CTRL.FENCE` = 0 moves a fenced lane to SELFTEST. -/
def State.softUnfence (s : State) (n : Nat) : State :=
  let t := s.setF (Reg.LANE_CTRL_FENCE n) 0
  if s.laneState n = .fenced then (t.setLaneState n .selftest).unload n else t

/-- R122: a write of `LANE.CTRL.FENCE` = 0. -/
def execLaneUnfence (req : Req) (lane : Fin 32) (s : State) : Host.Outcome State Fault Refusal :=
  .next (s.onT req (Reg.LANE_CTRL_FENCE lane.val) 0 fun s => s.softUnfence lane.val)

/-- R431, R432: once no powered lane is in SELFTEST, LANES_READY is latched; from a request for FULL the mode
becomes FULL, or DEGRADED with a cause. -/
def State.lanesReady (s : State) : State :=
  if s.lanesWanted = 0 ∨ !(s.lanesIn .selftest).isEmpty then s
  else
    let t := { s with lanesWanted := 0 }.irq Reg.PWR_IRQ_LANES_READY
    if s.lanesWanted = 2 ∧ s.mode = .tending then
      let u := (t.setF Reg.PWR_STAT_TRANSITION 0).toMode .full
      u.settle 0
    else t

/-- R122: a lane's self-test ends. -/
def execLaneSelftestDone (lane : Fin 32) (result : SelftestResult) (s : State) :
    Host.Outcome State Fault Refusal :=
  let n := lane.val
  if s.laneState n = .selftest then
    match result with
    | .passed => .next (s.setLaneState n .maint).lanesReady
    | .katFailed => .next (s.fenceOut n Cause.kat 0).lanesReady
    | .parity off => .next (s.fenceOut n Cause.parity off.toNat).lanesReady
  else idle s

/-! ## Service and maintenance -/

/-- The digest of a lane's bank. -/
def State.digestOf (s : State) (n bank : Nat) : Nat :=
  if bank = 0 then s.get2 (Reg.LANE_DIGEST_A_LO_DIGEST n) (Reg.LANE_DIGEST_A_HI_DIGEST n)
  else s.get2 (Reg.LANE_DIGEST_B_LO_DIGEST n) (Reg.LANE_DIGEST_B_HI_DIGEST n)

/-- Is a lane's bank sealed and unchanged since? -/
def State.loaded (s : State) (n bank : Nat) : Bool :=
  s.flag (if bank = 0 then Reg.LANE_STAT_LOADED_A n else Reg.LANE_STAT_LOADED_B n)

/-- R129: the digest of the current bank. -/
def State.curDigest (s : State) : Nat := s.get2 Reg.SIEV_CUR_DIGEST_LO_DIGEST Reg.SIEV_CUR_DIGEST_HI_DIGEST

/-- R116: start the move of a group to a lane. -/
def State.startMove (s : State) (g target : Nat) : State :=
  let e := s.mapEntry g
  if e.src.isSome ∨ e.lane = target then s else s.setMap g { lane := target, src := some e.lane }

/-- R116, R431: waiting moves take the places that are free among the 64. -/
def State.pumpMoves (s : State) : State :=
  let room := 64 - s.movingGroups.length
  let t := { s with moveQueue := s.moveQueue.drop room }
  (s.moveQueue.take room).foldl (fun t m => t.startMove m.1 m.2) t

/-- R432: the groups that go back to a lane that enters SERVICE. -/
def State.restoreGroups (s : State) (n : Nat) : State :=
  if s.restoreMap then
    ({ s with moveQueue := s.moveQueue ++
        ((List.range 2048).map (fun j => 32 * j + n)).filterMap (fun g =>
          if (s.mapEntry g).lane = n then none else some (g, n)) }).pumpMoves
  else s

/-- R122, R124, R125: a lane enters SERVICE, its first self-test due in the next period; groups that a fence left without a lane are given out, and the frames held
for them go on. -/
def State.intoService (s : State) (n bank : Nat) : State :=
  let first := (s.lanesIn .service).isEmpty
  let t := (s.setLaneState n .service).setF (Reg.LANE_CTRL_MAINT n) 0
  let t := if first then t.set2 Reg.SIEV_CUR_DIGEST_LO_DIGEST Reg.SIEV_CUR_DIGEST_HI_DIGEST (s.digestOf n bank) else t
  let t := t.setLane n { t.lane n with katAt := katPeriod n t.tb1 }
  let t := s.heldLanes.foldl (fun u m => u.reassignAll m (u.turnFrom m)) { t with heldLanes := [] }
  (t.restoreGroups n).release

/-- Does some group map to a lane? -/
def State.hasGroup (s : State) (n : Nat) : Bool := (List.range 65536).any (fun g => (s.mapEntry g).names n)

/-- Is a frame in flight on a lane? -/
def State.laneBusy (s : State) (n : Nat) : Bool := !(s.flightsWhere (fun _ fl => fl.meter?.isSome && fl.lane == n)).isEmpty

/-- R122: the refusal of a write of `LANE.CTRL.MAINT`. -/
def State.maintRefusal (s : State) (n : Nat) (on : Bool) : Option Nat :=
  match on, s.laneState n with
  | false, .maint =>
    let bank := s.getF Reg.SIEV_PROG_SWITCH_BANK
    if s.loaded n bank && ((s.lanesIn .service).isEmpty || s.digestOf n bank == s.curDigest) then none else some 0x0102
  | false, .service => none
  | false, _ => some 0x0101
  | true, .service => if s.hasGroup n || s.laneBusy n then some 0x0101 else none
  | true, _ => none

/-- R122: MAINT becomes 0: a lane in MAINT enters SERVICE. -/
def State.maintOff (s : State) (n : Nat) : State := if s.laneState n = .maint then s.intoService n (s.getF Reg.SIEV_PROG_SWITCH_BANK) else s

/-- R122: MAINT becomes 1: a lane in SERVICE enters MAINT. -/
def State.maintOn (s : State) (n : Nat) : State :=
  if s.laneState n = .service then (s.setLaneState n .maint).setF (Reg.LANE_CTRL_MAINT n) 1 else s

/-- R122: a write of `LANE.CTRL.MAINT`. -/
def State.maintWrite (s : State) (req : Req) (n : Nat) (on : Bool) : State :=
  match s.maintRefusal n on with
  | some c => s.refuseAt req (Reg.LANE_CTRL_MAINT n) c
  | none => if on then s.maintOn n else s.maintOff n

/-- R122: a write of `LANE.CTRL.MAINT` = 0 on a lane in MAINT. -/
def execLaneEnterService (req : Req) (lane : Fin 32) (s : State) : Host.Outcome State Fault Refusal :=
  .next (s.onT req (Reg.LANE_CTRL_MAINT lane.val) 0 fun s => s.maintWrite req lane.val false)

/-- R122: a write of `LANE.CTRL.MAINT` = 1. -/
def execLaneToMaint (req : Req) (lane : Fin 32) (s : State) : Host.Outcome State Fault Refusal :=
  .next (s.onT req (Reg.LANE_CTRL_MAINT lane.val) 1 fun s => s.maintWrite req lane.val true)

/-- R122: PWR powers a lane that is OFF. -/
def State.powerLane (s : State) (n : Nat) : State :=
  if s.laneState n = .off then (s.setLaneState n .selftest).setF (Reg.LANE_CTRL_MAINT n) 1 else s

/-- R122: PWR powers a lane. -/
def execLanePowerOn (lane : Fin 32) (s : State) : Host.Outcome State Fault Refusal := .next (s.powerLane lane.val)

/-- R431: the lanes that TENDING keeps: the lowest-numbered that are in SERVICE. -/
def State.keptLanes (s : State) : List Nat := (s.lanesIn .service).take (s.getF Reg.PWR_TEND_CFG_LANES)

/-- R431: in TENDING a lane in SERVICE that is not kept, once it is emptied: it goes to MAINT. -/
def State.emptied (s : State) (n : Nat) : Bool :=
  s.mode == .tending && s.laneState n == .service && !s.keptLanes.contains n && !s.hasGroup n && (s.lane n).running.isNone

/-- R122, R431: PWR gates a lane in MAINT or FENCED; its programs are lost (log entry 12). A lane that TENDING has emptied goes to MAINT first. -/
def execLanePowerOff (lane : Fin 32) (s : State) : Host.Outcome State Fault Refusal :=
  let n := lane.val
  if s.emptied n then .next ((s.setLaneState n .maint).setF (Reg.LANE_CTRL_MAINT n) 1)
  else if s.laneState n = .maint ∨ s.laneState n = .fenced then
    .next (((s.setLaneState n .off).unload n).setF (Reg.LANE_CTRL_MAINT n) 1)
  else idle s

/-! ## Programs -/

/-- R23, R126: the parts of a lane aperture. -/
inductive AperturePart where
  | bank (b : Nat)
  | scratch
  | readOnly
  | hole
  deriving DecidableEq, Repr

/-- R23, R94: which part of a lane's aperture an offset lies in. -/
def aperturePart (off : Nat) : AperturePart :=
  if off < 0x4000 then .bank 0
  else if off < 0x8000 then .bank 1
  else if off < 0x8400 then .readOnly
  else if 0x9000 ≤ off ∧ off < 0xA000 then .readOnly
  else if 0x10000 ≤ off ∧ off < 0x14000 then .bank 0
  else if 0x14000 ≤ off ∧ off < 0x18000 then .bank 1
  else if 0x18000 ≤ off then .scratch
  else .hole

/-- R126: is a lane's bank in use? Both banks of a lane in MAINT or OFF may be written. -/
def State.bankInUse (s : State) (n b : Nat) : Bool :=
  if s.laneState n = .maint ∨ s.laneState n = .off then false
  else s.getF Reg.SIEV_PROG_SWITCH_BANK == b ||
    !(s.flightsWhere (fun _ fl => fl.meter?.isSome && fl.lane == n && fl.frame.bank == b)).isEmpty

/-- R126: a write through a lane aperture. -/
def State.apertureWrite (s : State) (req : Req) (n off : Nat) (bs : Bytes) : State :=
  let refuse (code : Nat) : State := s.err (0x40 + n) code (accessInfo (0x40 + n) req off)
  match aperturePart off with
  | .bank b =>
    if s.bankInUse n b then refuse 0x0100
    else (s.write (aperture n + off) bs).setF (if b = 0 then Reg.LANE_STAT_LOADED_A n else Reg.LANE_STAT_LOADED_B n) 0
  | .scratch => s.write (aperture n + off) bs
  | .readOnly => refuse 0x0103
  | .hole => s.busError Err.addrUnmapped (aperture n + off)

/-- R126: an aperture write under the WR mask of the lane's page. -/
def execApertureWrite (req : Req) (lane : Fin 32) (off : BitVec 17) (data : Bytes) (s : State) :
    Host.Outcome State Fault Refusal :=
  .next (s.onWrite req (0x40 + lane.val) 0 fun s => s.apertureWrite req lane.val off.toNat data)

/-- R127: a write of `LANE.PROG_CTRL` with SEAL = 1 starts the digest of the bank it names. -/
def execLaneSeal (req : Req) (lane : Fin 32) (data : Word) (s : State) : Host.Outcome State Fault Refusal :=
  let n := lane.val
  .next (s.onAction req (Reg.LANE_PROG_CTRL_SEAL n) data.toNat fun s =>
    (s.setF (Reg.LANE_PROG_CTRL_SEAL n) 1).setLane n
      { s.lane n with sealing := some (s.getF (Reg.LANE_PROG_CTRL_BANK n)) })

/-- R127: the 32 KiB of a bank, instruction bank first. -/
def State.bankBytes (s : State) (n b : Nat) : Bytes :=
  s.read (aperture n + b * 0x4000) 0x4000 ++ s.read (aperture n + 0x10000 + b * 0x4000) 0x4000

/-- R127: the seal digest is written, LOADED is set, SEAL clears. DESIGN CHOICE (log entry 97): of a write to the bank while its seal runs the spec says nothing; the
model digests the content as it is at completion, and sets LOADED. -/
def execLaneSealDone (lane : Fin 32) (s : State) : Host.Outcome State Fault Refusal :=
  let n := lane.val
  match (s.lane n).sealing with
  | none => idle s
  | some b =>
    let d := shake64 (s.bankBytes n b)
    let s := s.setLane n { s.lane n with sealing := none }
    let s := if b = 0 then
        (s.set2 (Reg.LANE_DIGEST_A_LO_DIGEST n) (Reg.LANE_DIGEST_A_HI_DIGEST n) d).setF (Reg.LANE_STAT_LOADED_A n) 1
      else (s.set2 (Reg.LANE_DIGEST_B_LO_DIGEST n) (Reg.LANE_DIGEST_B_HI_DIGEST n) d).setF (Reg.LANE_STAT_LOADED_B n) 1
    .next ((s.setF (Reg.LANE_PROG_CTRL_SEAL n) 0).irq (Reg.LANE_IRQ_SEALED n))

/-! ## The lane map -/

/-- R115: INIT fills the map with lane g mod 32, unless Funnel is enabled. -/
def execLanemapInit (req : Req) (s : State) : Host.Outcome State Fault Refusal :=
  .next (s.onField req Reg.SIEV_LANEMAP_CTRL_INIT fun s =>
    if s.flag Reg.FUNL_CTRL_ENABLE then s.refuseAt req Reg.SIEV_LANEMAP_CTRL_INIT Err.valueRefused else { s with laneMap := [] })

/-- R116: a write of `LANEMAP_DATA.LANE` requests a move of the selected group. DESIGN CHOICE (log entry 80): a request that meets several refusals gets MOVE_TARGET
before VALUE_REFUSED before MOVE_FULL. -/
def execLanemapMoveRequest (req : Req) (target : Fin 32) (s : State) : Host.Outcome State Fault Refusal :=
  .next (s.onField req Reg.SIEV_LANEMAP_DATA_LANE fun s =>
    let g := s.getF Reg.SIEV_LANEMAP_SEL_GROUP
    if s.laneState target.val ≠ .service then s.refuseAt req Reg.SIEV_LANEMAP_DATA_LANE 0x0101
    else if (s.mapEntry g).src.isSome then s.refuseAt req Reg.SIEV_LANEMAP_DATA_LANE Err.valueRefused
    else if 64 ≤ s.movingGroups.length then s.refuseAt req Reg.SIEV_LANEMAP_DATA_LANE 0x0100
    else s.setMap g { lane := target.val, src := some (s.mapEntry g).lane })

/-- R116: a meter of a moving group moves once it has no frame in flight; the move is done with the sixteenth. -/
def execMeterMove (meter : BitVec 20) (s : State) : Host.Outcome State Fault Refusal :=
  let m := meter.toNat
  let g := m / 16
  let e := s.mapEntry g
  if e.src.isSome ∧ bitAt e.moved (m % 16) = 0 ∧ s.meterInFlight m = false then
    let moved := e.moved + 2 ^ (m % 16)
    if moved = 0xFFFF then .next (s.moveDone g e.lane).pumpMoves else .next (s.setMap g { e with moved := moved })
  else idle s

end Sys2Proof.Machine
end

