-- ==== Sys2Proof/Machine/PlcPhy.lean ====
section
/-! DEFINITION. The physical layer of the power-line ports: carriers and tone maps (R235, R242), the codes and the carriers' phases (R234, R236, R237), the
cycle segments (R240), and the node table as memory shows it (R242). What the profile leaves open is in log entry 89. -/

namespace Sys2Proof.Machine

/-! ## Carriers and maps -/

/-- R235: is carrier `c` of the band (0 for carrier 12) unmasked? -/
def State.carrierOn (s : State) (k c : Nat) : Bool :=
  decide (c < if s.flag (Reg.PLC_CTRL_BAND k) then 18 else 96) && bitAt (s.getF (Reg.PLC_MASK_CARRIERS k (c / 32))) (c % 32) == 0

/-- R235: the unmasked carriers of the band, in ascending order. -/
def State.carriers (s : State) (k : Nat) : List Nat := (List.range 96).filter (fun c => s.carrierOn k c)

/-- R235: Nu, the number of unmasked carriers of the band. -/
def State.plcNu (s : State) (k : Nat) : Nat := (s.carriers k).length

/-- R242: the map of a segment in a set. -/
def segMap (set : Bytes) (seg : Nat) : Bytes :=
  ((List.range 6).map (fun j => slice set (28 * j) 28)).find? (fun m => bitsOf (leAt m 0 1) 6 4 == seg) |>.getD (List.replicate 28 0)

/-- R242: the modulation of carrier `c` in a map. -/
def carrierMod (m : Bytes) (c : Nat) : Nat := bitsOf (leAt m (4 + c / 4) 1) (2 * (c % 4) + 1) (2 * (c % 4))

/-- R242: the default map as a set: DBPSK on every unmasked carrier. -/
def State.defaultSet (s : State) (k : Nat) : Bytes :=
  (List.range 6).flatMap (fun seg =>
    [BitVec.ofNat 8 (seg * 16), 0, BitVec.ofNat 8 (s.plcNu k), 0] ++
    (List.range 24).map (fun j => BitVec.ofNat 8 (((List.range 4).map (fun i => bitIf (s.carrierOn k (4 * j + i)) (2 * i))).sum)))

/-- R236: the bits that each unmasked carrier takes from a payload symbol in a segment; an empty set is the default map. -/
def State.carrierBits (s : State) (k : Nat) (set : Bytes) (robust : Bool) (seg : Nat) : List Nat :=
  let m := segMap set seg
  (s.carriers k).map (fun c => if set.isEmpty then 1 else if robust then min 1 (carrierMod m c) else carrierMod m c)

/-! ## Lengths -/

/-- Division rounded up; 0 where nothing divides. -/
def ceilDiv (a b : Nat) : Nat := (a + b - 1) / b

/-- R236: the symbols of an FCH. -/
def State.fchSymbols (s : State) (k : Nat) : Nat := ceilDiv 816 (s.plcNu k)

/-- R236: the preamble and the FCH, in ns. -/
def State.plcHead (s : State) (k : Nat) : Nat := (9 * 320 + s.fchSymbols k * 350) * 1000

/-- R237: the coded bits of a MAC frame of `n` bytes. -/
def codedBits (n : Nat) (robust : Bool) : Nat :=
  let c := 2 * (8 * (n + 16 * ceilDiv n 239) + 6)
  if robust then 4 * c else c

/-- R240: the cycle segment of payload symbol `i`. -/
def segmentOf (ph0 period i : Nat) : Nat := 6 * ((ph0 * period + 256 * 350 * i) % (256 * period)) / (256 * period)

/-- R237: the payload symbols that carry `need` bits, counted from symbol `i`, at most `fuel`. -/
def plcSymbols (bits : Nat → Nat) : Nat → Nat → Nat → Nat
  | 0, _, _ => 0
  | fuel + 1, i, need => if need = 0 then 0 else 1 + plcSymbols bits fuel (i + 1) (need - bits i)

/-- R236: the first symbol boundary at or after `t` of a frame that began at `start` (TB1, ns). -/
def symbolEnd (start t : Nat) : Nat :=
  let head := 9 * 320000
  if t ≤ start + head then start + ceilDiv (t - start) 320000 * 320000 else start + head + ceilDiv (t - start - head) 350000 * 350000

/-! ## Codes -/

/-- The bits of a byte string, bit 0 of each byte first (log entry 89). -/
def bitStream (b : Bytes) : List Bool := b.flatMap (fun x => (List.range 8).map x.getLsbD)

/-- The bytes of a bit string, the first bit in bit 0. -/
def bitBytes : List Bool → Bytes
  | a :: b :: c :: d :: e :: f :: g :: h :: r =>
    BitVec.ofNat 8 ([a, b, c, d, e, f, g, h].foldr (fun x n => bit1 x + 2 * n) 0) :: bitBytes r
  | _ => []

/-- R234: the scrambler x^7 + x^4 + 1. -/
def scramble : BitVec 7 → List Bool → List Bool
  | _, [] => []
  | r, b :: t =>
    let f := r.getLsbD 6 ^^ r.getLsbD 3
    (b ^^ f) :: scramble ((r <<< 1) ||| (if f then 1 else 0)) t

/-- R234: twice an element of GF(2^8), polynomial 0x11D. -/
def gfTwice (a : Byte) : Byte := (a <<< 1) ^^^ (if a.msb then 0x1D else 0)

/-- R234: the product in GF(2^8), polynomial 0x11D. -/
def gfTimes (a b : Byte) : Byte := (List.range 8).foldr (fun i p => gfTwice p ^^^ (if b.getLsbD i then a else 0)) 0

/-- The power n of the element 2. -/
def gfPower : Nat → Byte
  | 0 => 1
  | n + 1 => gfTwice (gfPower n)

/-- R234: the generator of the outer code, highest power first: the product of x − 2^i for i below 16 (log entry 89). -/
def rsGenerator : Bytes :=
  (List.range 16).foldl (fun g i => List.zipWith (· ^^^ ·) (g ++ [0]) (0 :: g.map (gfTimes (gfPower i)))) [1]

/-- R234: the 16 parity bytes of an outer code word. -/
def rsParity (d : Bytes) : Bytes :=
  let g := rsGenerator.drop 1
  d.foldl (fun r x => List.zipWith (fun p q => p ^^^ gfTimes (x ^^^ r.headD 0) q) (r.drop 1 ++ [0]) g) (List.replicate 16 0)

/-- R234, R236: the outer code: blocks of at most 239 bytes, each followed by its parity. -/
def rsBlocks : Nat → Bytes → Bytes
  | 0, _ => []
  | n + 1, b => if b.isEmpty then [] else b.take 239 ++ rsParity (b.take 239) ++ rsBlocks n (b.drop 239)

/-- R234: the inner code: 0o133, then 0o171, over the last seven bits, the newest in bit 6. -/
def innerCode : BitVec 7 → List Bool → List Bool
  | _, [] => []
  | r, b :: t =>
    let r := (r >>> 1) ||| (if b then 64 else 0)
    let out (g : BitVec 7) : Bool := popCount 7 (r &&& g).toNat % 2 == 1
    out 0o133 :: out 0o171 :: innerCode r t

/-- Every 32nd entry of a list, the first after `n` others. -/
def everyNext {α : Type} : Nat → List α → List α
  | _, [] => []
  | 0, b :: t => b :: everyNext 31 t
  | n + 1, _ :: t => everyNext n t

/-- R234: the interleaver of 32 columns, written row by row and read column by column. -/
def interleave {α : Type} (l : List α) : List α := (List.range 32).flatMap (fun c => everyNext c l)

/-- R234: the inner code with its tail, interleaved. -/
def codeBits (l : List Bool) : List Bool := interleave (innerCode 0 (l ++ List.replicate 6 false))

/-- R236: the coded bits of an FCH. -/
def fchBits (fch : Bytes) : List Bool := (List.replicate 4 (codeBits (bitStream fch))).flatten

/-- R236: robust mode sends the coded bits four times, each time shifted. -/
def repeated {α : Type} (robust : Bool) (l : List α) : List α :=
  if robust then (List.range 4).flatMap (fun c => l.rotateLeft (c * (l.length / 4))) else l

/-- R236: the coded bits of a payload. -/
def payloadBits (mac : Bytes) (robust : Bool) : List Bool :=
  repeated robust (codeBits (bitStream (rsBlocks (mac.length + 1) (bitBytes (scramble 127 (bitStream mac))))))

/-- R244: of the `n` bytes of the outer code, those of which every coded bit lay in an erased symbol: `gone` says so of the coded bits as they are sent, bits beyond it
came whole. -/
def lostBytes (n : Nat) (robust : Bool) (gone : List Bool) : List Bool :=
  let sent := repeated robust (interleave (List.range (16 * n + 12)))
  let kept := (sent.zip (gone ++ List.replicate sent.length false)).filterMap (fun x => if x.2 then none else some (x.1 / 16))
  (List.range n).map (fun j => !kept.contains j)

/-- R244: does the outer decoder correct every block? Each block has `e` errors and `f` erasures, of which those bytes are that no coded bit came of (log entry 89). -/
def decoded (lost : List Bool) (blocks : List (BitVec 8 × BitVec 8)) : Bool :=
  (List.range (max blocks.length (ceilDiv lost.length 255))).all (fun i =>
    let b := blocks.getD i (0, 0)
    decide (2 * b.1.toNat + max b.2.toNat (((lost.drop (255 * i)).take 255).filter (fun x => x)).length ≤ 16))

/-! ## Symbols -/

/-- R234: the phase change of a carrier for its bits, the first bit the highest, Gray-coded, in eighths of a turn (log entry 89). -/
def phaseStep : List Bool → Nat
  | [a] => 4 * bit1 a
  | [a, b] => 4 * bit1 a + 2 * bit1 (a ^^ b)
  | [a, b, c] => 4 * bit1 a + 2 * bit1 (a ^^ b) + bit1 (a ^^ b ^^ c)
  | _ => 0

/-- R236: one symbol: the phase change on each unmasked carrier, 255 where it carries no bit; and the bits that remain. Bits that are lacking are zeros (R237). -/
def symbolOf : List Nat → List Bool → Bytes × List Bool
  | [], l => ([], l)
  | n :: r, l =>
    let b := l.take n
    let (t, rest) := symbolOf r (l.drop n)
    ((if n = 0 then 255 else BitVec.ofNat 8 (phaseStep (b ++ List.replicate (n - b.length) false))) :: t, rest)

/-- R236: `n` symbols from symbol `i` on. -/
def symbolsOf (bits : Nat → List Nat) : Nat → Nat → List Bool → Bytes
  | 0, _, _ => []
  | n + 1, i, l => let (b, rest) := symbolOf (bits i) l; b ++ symbolsOf bits n (i + 1) rest

/-- R236: the preamble: 8 SYNCP symbols (16 on each unmasked carrier) and one SYNCM, its inverse (20). -/
def State.preamble (s : State) (k : Nat) : Bytes := List.replicate (8 * s.plcNu k) 16 ++ List.replicate (s.plcNu k) 20

/-- R236: the symbols of a frame: preamble, FCH and payload. -/
def State.frameSymbols (s : State) (k : Nat) (fch mac set : Bytes) (robust : Bool) (nsym ph0 period : Nat) : Bytes :=
  s.preamble k ++ symbolsOf (fun _ => List.replicate (s.plcNu k) 1) (s.fchSymbols k) 0 (fchBits fch) ++
    symbolsOf (fun i => s.carrierBits k set robust (segmentOf ph0 period i)) nsym 0 (payloadBits mac robust)

/-! ## The node table in memory -/

/-- R242: the entry of a node as memory shows it (log entry 90): 64 bytes of the node, then the set in force for its frames, then the set for frames to it. -/
def State.nodeBytes (s : State) (k : Nat) (n : PortNode) : Bytes :=
  let set (b : Bytes) : Bytes := if b.isEmpty then s.defaultSet k else b
  slice (leBytes 8 n.id ++ leBytes 2 n.slot ++ leBytes 1 (bit1 n.joined) ++ leBytes 1 (bit1 n.seq.isSome) ++ leBytes 1 (n.seq.getD 0) ++ leBytes 1 n.rxGen ++
    leBytes 1 n.txGen ++ [0] ++ leBytes 8 n.heardAt) 0 64 ++ set n.rx ++ set n.tx

/-- R242: the first byte of the area of the power-line ports; that of the radio ports follows (R266). -/
def nodeArea : Nat := 0x0878000000

/-- R266: where the node table begins in a radio port's area, behind the two copies of its schedule. -/
def radTable : Nat := 0x40000

/-- R242, R266: does an address lie in the area of a power-line port, or in the node table of a radio port? -/
def inNodeArea (a : Nat) : Bool :=
  decide (nodeArea ≤ a) && (decide (a < nodeArea + 4 * 0x400000) ||
    (decide (0x087A000000 ≤ a) && decide (a < 0x087A000000 + 4 * 0x400000) && decide (radTable ≤ (a - 0x087A000000) % 0x400000)))

/-- R242, R266: a byte of a port's node table: 2 KiB for each short address from 1 on a power-line port, 64 bytes on a radio port (log entry 90). -/
def State.nodeByte (s : State) (a : Nat) : Byte :=
  let rad := decide (0x087A000000 ≤ a)
  let base := if rad then 0x087A000000 else nodeArea
  let k := (a - base) / 0x400000
  let o := (a - base) % 0x400000 - (if rad then radTable else 0)
  let size := if rad then 64 else 2048
  match sget none (sget {} s.ports (if rad then k + 4 else k)).nodes (o / size + 1) with
  | some n => (s.nodeBytes k n).getD (o % size) 0
  | none => 0

/-- R22, R242: `n` bytes as software reads them: those of the port areas from the node tables, others from memory. -/
def State.readShown (s : State) (a n : Nat) : Bytes :=
  (List.range n).map (fun i => if inNodeArea (a + i) then s.nodeByte (a + i) else s.byte (a + i))

end Sys2Proof.Machine
end

