-- ==== Sys2Proof/Machine/Time.lean ====
section
/-! DEFINITION. The time bases: reads of a base (R210), TB0 (R211–R215), leap seconds (R207), TB3 and TB4 (R219, R220, R241), alarms (R221–R223), the RTC (R224–R229) and the passage of time. -/

namespace Sys2Proof.Machine

/-! ## Reads of a base -/

/-- R205: the seconds, nanoseconds and fraction of a time in units of 2^−16 ns. -/
def fullTime (t : Nat) : Nat × Nat × Nat := (t / 65536 / nsPerS, t / 65536 % nsPerS, t % 65536)

/-- R210: a base as `NOW_SEL.BASE` codes it, in units of 2^−16 ns. -/
def State.baseOf (s : State) (n : Nat) : Nat := if n = 0 then s.tb0 else if n = 1 then s.tb1 * 65536 else s.tb3

/-- R210: a read of `TIME.NOW_SEC_LO` latches the reader's base into its banked copies; a read by DEBUG latches nothing (R31). -/
def execTimeNowRead (req : Req) (s : State) : Host.Outcome State Fault Refusal :=
  .next (s.onRead req 0x05 0x104 fun s =>
    let r := req.code
    let (sec, ns, frac) := fullTime (s.baseOf (s.getF (Reg.TIME_NOW_SEL_BASE.bankOf r)))
    if req = .debug then s.answer (sec % 2 ^ 32) else
    let s := (s.setF (Reg.TIME_NOW_SEC_HI_SEC.bankOf r) (sec / 2 ^ 32)).setF (Reg.TIME_NOW_NS_NS.bankOf r) ns
    let s := (s.setF (Reg.TIME_NOW_FRAC_FRAC.bankOf r) frac).setF (Reg.TIME_NOW_STAMP_STAMP.bankOf r) ((sec * nsPerS + ns) % 2 ^ 32)
    s.answer (sec % 2 ^ 32))

/-- R210, R447: a read of `AON.NOW_SEC_LO` latches TB0 or TB1 at 10 ns; a read by DEBUG latches nothing (R31). -/
def execAonNowRead (req : Req) (s : State) : Host.Outcome State Fault Refusal :=
  .next (s.onRead req 0x03 0x108 fun s =>
    let r := req.code
    let (sec, ns, _) := fullTime (s.baseOf (s.getF (Reg.AON_NOW_SEL_BASE.bankOf r)))
    let ns := ns / 10 * 10
    if req = .debug then s.answer (sec % 2 ^ 32) else
    let s := (s.setF (Reg.AON_NOW_SEC_HI_SEC.bankOf r) (sec / 2 ^ 32)).setF (Reg.AON_NOW_NS_NS.bankOf r) ns
    (s.setF (Reg.AON_NOW_STAMP_STAMP.bankOf r) ((sec * nsPerS + ns) % 2 ^ 32)).answer (sec % 2 ^ 32))

/-! ## TB0 alarms -/

/-- R221, R230: the time of a TB0 alarm in ns. -/
def State.alarmNs (s : State) (n : Nat) : Nat :=
  (s.getF (Reg.TIME_ALARM_SEC_LO_SEC n) + s.getF (Reg.TIME_ALARM_CTRL_SEC_HI n) * 2 ^ 32) * nsPerS + s.getF (Reg.TIME_ALARM_NS_NS n)

/-- R221: is a TB0 alarm armed and its time reached? -/
def State.alarmDue (s : State) (n : Nat) : Bool := s.flag (Reg.TIME_ALARM_CTRL_ARM n) && decide (s.alarmNs n ≤ s.ns0)

/-- R221: a TB0 alarm fires. A periodic one re-arms at its next time, past the missed ones. -/
def State.fireAlarm (s : State) (n : Nat) (late : Bool) : State :=
  let p := s.getF (Reg.TIME_ALARM_PERIOD_MS n) * 1000000
  let next := if p = 0 then 0 else if s.ns0 < s.alarmNs n + p then s.alarmNs n + p
    else s.alarmNs n + ((s.ns0 - s.alarmNs n) / p + 1) * p
  let late := late || (p != 0 && decide (s.alarmNs n + p ≤ s.ns0))
  let s := ((s.setF (Reg.TIME_ALARM_CTRL_FIRED n) 1).setF (Reg.TIME_ALARM_CTRL_LATE n) (bitIf late 0)).irq (Reg.TIME_IRQ_ALARM n)
  let s := if late then s.irq Reg.TIME_IRQ_ALARM_LATE else s
  if p = 0 then s.setF (Reg.TIME_ALARM_CTRL_ARM n) 0
  else
    let sec := next / nsPerS
    ((s.setF (Reg.TIME_ALARM_SEC_LO_SEC n) sec).setF (Reg.TIME_ALARM_CTRL_SEC_HI n) (sec / 2 ^ 32)).setF (Reg.TIME_ALARM_NS_NS n) (next % nsPerS)

/-- R221: TB0 has reached an armed alarm. -/
def execTimeAlarmFire (n : Fin 4) (s : State) : Host.Outcome State Fault Refusal :=
  if s.alarmDue n.val ∧ s.domOn .time then .next (s.fireAlarm n.val false) else idle s

/-! ## RTC alarms -/

/-- R224: the RTC's seconds. -/
def State.rtcSec (s : State) : Nat := s.getF Reg.RTC_RTC_SEC_SEC

/-- R226: the RTC's local time. -/
def State.rtcLocal (s : State) : Nat :=
  ((s.rtcSec : Int) + signedOf 8 (s.getF Reg.RTC_LOCAL_OFFSET) * 900 + (s.getF Reg.RTC_LOCAL_DST : Nat) * 3600).toNat

/-- R221, R222: is an RTC alarm armed and its time reached? -/
def State.rtcDue (s : State) (n : Nat) : Bool :=
  s.flag (Reg.RTC_ALARM_CTRL_ARM n) &&
    decide (s.getF (Reg.RTC_ALARM_SEC_SEC n) ≤ if s.flag (Reg.RTC_ALARM_CTRL_LOCAL n) then s.rtcLocal else s.rtcSec)

/-- R221, R223: an RTC alarm fires; with WAKE it is a wake source. -/
def State.fireRtc (s : State) (n : Nat) (late : Bool) : State :=
  let s := ((s.setF (Reg.RTC_ALARM_CTRL_FIRED n) 1).setF (Reg.RTC_ALARM_CTRL_LATE n) (bitIf late 0)).setF (Reg.RTC_ALARM_CTRL_ARM n) 0
  let s := s.irq (Reg.RTC_IRQ_ALARM n)
  let s := if late then s.irq Reg.RTC_IRQ_ALARM_LATE else s
  if s.flag (Reg.RTC_ALARM_CTRL_WAKE n) then s.wake 2 (s.wakeTarget Reg.PWR_WAKE_CFG_RTC) else s

/-- R221: the RTC or local time has reached an armed alarm. -/
def execRtcAlarmFire (n : Fin 2) (s : State) : Host.Outcome State Fault Refusal :=
  if s.rtcDue n.val then .next (s.fireRtc n.val false) else idle s

/-- R221: the RTC's time, or local time, has moved: an alarm that it has passed by a jump fires with LATE. `was` is the state before. -/
def State.rtcJump (s : State) (was : State) : State :=
  [0, 1].foldl (fun t n =>
    let fwd := if t.flag (Reg.RTC_ALARM_CTRL_LOCAL n) then decide (was.rtcLocal < t.rtcLocal) else decide (was.rtcSec < t.rtcSec)
    if fwd && t.rtcDue n then t.fireRtc n true else t) s

/-- R221, R46: TB0 has moved forward by a step: an alarm that it has passed fires with LATE, and so does a commit armed for an instant passed. -/
def State.tb0Jump (s : State) : State :=
  let s := [0, 1, 2, 3].foldl (fun t n => if t.alarmDue n then t.fireAlarm n true else t) s
  { s with txns := s.txns.map (fun e => match e.2.state, e.2.trigger with
      | .armed, .time n => (e.1, { e.2 with late := e.2.late || decide (n ≤ s.ns0) })
      | _, _ => e) }

/-- R221: the TB0 alarms that are due fire, as what would move the time past them acts on the same edge. -/
def State.fireTimeDue (s : State) : State :=
  [0, 1, 2, 3].foldl (fun t n => if t.alarmDue n && t.domOn .time then t.fireAlarm n false else t) s

/-- R221: the RTC alarms that are due fire, as what would move the time past them acts on the same edge. -/
def State.fireRtcDue (s : State) : State := [0, 1].foldl (fun t n => if t.rtcDue n then t.fireRtc n false else t) s

/-- R221: a write of an alarm's control: an alarm that fires on the same edge fires first; then the write acts and may arm it, and an
alarm whose time has already been reached fires at once with LATE. -/
def execAlarmWrite (req : Req) (alarm : AlarmId) (data : Word) (s : State) : Host.Outcome State Fault Refusal :=
  let d := data.toNat
  let on := bitAt d 31
  match alarm with
  | .time n =>
    let n := n.val
    .next (s.onWrite req 0x05 (0x144 + 0x10 * n) fun s =>
      let s := if s.alarmDue n then s.fireAlarm n false else s
      let s := (s.setF (Reg.TIME_ALARM_CTRL_SEC_HI n) (bitsOf d 15 0)).setF (Reg.TIME_ALARM_CTRL_ARM n) on
      if on = 0 then s
      else
        let s := (s.setF (Reg.TIME_ALARM_CTRL_FIRED n) 0).setF (Reg.TIME_ALARM_CTRL_LATE n) 0
        if s.alarmDue n then s.fireAlarm n true else s)
  | .rtc n =>
    let n := n.val
    .next (s.onWrite req 0x04 (0x124 + 8 * n) fun s =>
      let s := if s.rtcDue n then s.fireRtc n false else s
      let s := (s.setF (Reg.RTC_ALARM_CTRL_WAKE n) (bitAt d 1)).setF (Reg.RTC_ALARM_CTRL_LOCAL n) (bitAt d 0)
      let s := s.setF (Reg.RTC_ALARM_CTRL_ARM n) on
      if on = 0 then s
      else
        let s := (s.setF (Reg.RTC_ALARM_CTRL_FIRED n) 0).setF (Reg.RTC_ALARM_CTRL_LATE n) 0
        if s.rtcDue n then s.fireRtc n true else s)

/-! ## Leap seconds -/

/-- R207: the leap has taken effect: UTC_OFFSET changes by `d`, `RTC.LEAP` is cleared and both pages latch LEAP_DONE. The RTC makes the
same leap at its own instant. -/
def State.leapDone (s : State) (d : Int) (rtc : Nat) : State :=
  let pair := (s.getF Reg.RTC_LEAP_DAY, s.getF Reg.RTC_LEAP_DIR)
  let s := s.setF Reg.TIME_UTC_OFFSET_SEC (unsignedOf 16 (signedOf 16 (s.getF Reg.TIME_UTC_OFFSET_SEC) + d))
  let s := (s.setF Reg.RTC_LEAP_DAY 0).setF Reg.RTC_LEAP_DIR 0
  let s := ((s.irq Reg.TIME_IRQ_LEAP_DONE).irq Reg.RTC_IRQ_LEAP_DONE).setF Reg.TIME_STAT_LEAP_ACTIVE 0
  let s := { s with time := { s.time with leapAt := none, rtcLeap := if s.rtcSec < rtc then some pair else s.time.rtcLeap } }
  s.event .leap 0x05

/-- R207: a leap takes effect whose instant has come, or has passed unseen (log entry 22): an inserted second begins or ends, or a second is deleted. -/
def State.leapNow (s : State) : State :=
  let next := (s.getF Reg.RTC_LEAP_DAY + 1) * 86400
  let inst (sec : Nat) : Nat := (((sec : Int) + s.utcShift) * nsPerS).toNat
  match s.time.leapAt with
  | some n => if n + nsPerS ≤ s.ns0 then s.leapDone 1 next else s
  | none =>
    match s.getF Reg.RTC_LEAP_DIR with
    | 1 =>
      if s.ns0 < inst next then s
      else if s.ns0 < inst next + nsPerS then { s with time := { s.time with leapAt := some (inst next) } }.setF Reg.TIME_STAT_LEAP_ACTIVE 1
      else s.leapDone 1 next
    | 2 => if inst (next - 1) ≤ s.ns0 then s.leapDone (-1) (next - 1) else s
    | _ => s

/-- R207: the end of the announced day in the UTC view. -/
def execLeapSecond (s : State) : Host.Outcome State Fault Refusal := .next s.leapNow

/-! ## TB0 -/

/-- R211, R214: FREQ_ADJ as TB0 takes it: the register while TIME runs, else what the AON counter kept of it. -/
def State.freqAdj (s : State) : Int := if s.domOn .time then signedOf 32 (s.getF Reg.TIME_FREQ_ADJ_ADJ) else s.time.adj

/-- R212, R221: add a signed offset to TB0 on one edge. An alarm due before it fires first; a leap that the step reaches is on the same edge, and the alarms are
compared after both. -/
def State.stepTb0 (s : State) (ns : Int) : State :=
  let s := s.fireTimeDue
  let s := ({ s with tb0 := ((s.tb0 : Int) + ns * 65536).toNat }).irq Reg.TIME_IRQ_STEPPED
  let s := (s.event .timeStep 0x05 (leBytes 8 (unsignedOf 64 ns))).leapNow
  if 0 < ns then s.tb0Jump else s

/-- R212, R230: the offset that `STEP_SEC` and `STEP_NS` give, in ns. -/
def State.stepNs (s : State) : Int := signedOf 32 (s.getF Reg.TIME_STEP_SEC_SEC) * nsPerS + signedOf 32 (s.getF Reg.TIME_STEP_NS_NS)

/-- R211: TB0_STATE changes. -/
def State.setTb0State (s : State) (n : Nat) : State :=
  if s.getF Reg.TIME_STAT_TB0_STATE = n then s
  else
    let s := (s.setF Reg.TIME_STAT_TB0_STATE n).irq Reg.TIME_IRQ_STATE_CHANGE
    if n = 2 then { s with time := { s.time with lockedAt := s.tb1 } } else s

/-- R211: the servo writes TB0_STATE; only ACQUIRING and LOCKED are taken. -/
def execTb0StateSet (req : Req) (value : BitVec 2) (s : State) : Host.Outcome State Fault Refusal :=
  .next (s.onField req Reg.TIME_CTRL_STATE_SET fun s =>
    if value = 1 ∨ value = 2 then s.setTb0State value.toNat else s)

/-- R211: no delivery from the selected source for HOLDOVER.MS while LOCKED. -/
def execTb0Holdover (s : State) : Host.Outcome State Fault Refusal :=
  let src := s.getF Reg.TIME_CTRL_TB0_SRC
  let last := (if src = 1 then s.time.syncAt else s.time.ppsAt).getD 0
  if s.getF Reg.TIME_STAT_TB0_STATE = 2 ∧ (src = 1 ∨ src = 2) ∧
      max last s.time.lockedAt + s.getF Reg.TIME_HOLDOVER_MS * 1000000 ≤ s.tb1 then
    .next (s.setTb0State 3)
  else idle s

/-! ## Pulses -/

/-- R214, R215: a rising edge of PPS_IN. In LISTEN the AON counter captures it for Kettle. -/
def execPpsInEdge (s : State) : Host.Outcome State Fault Refusal :=
  let near := match s.time.ppsAt with
    | some t => decide (s.tb1 < t + nsPerS / 2)
    | none => false
  if !s.domOn .time then
    if s.mode = .listen ∧ !near then .next { s with time := { s.time with ppsAt := some s.tb1, ppsTb0 := some (s.tb0 / 655360 * 655360) } } else idle s
  else if near then .next (s.count Reg.TIME_PPS_REJECT_CNT_CNT)
  else
    let (sec, ns, frac) := fullTime s.tb0
    let s := ((s.setF Reg.TIME_PPS_CAP_SEC_SEC sec).setF Reg.TIME_PPS_CAP_NS_NS ns).setF Reg.TIME_PPS_CAP_FRAC_FRAC frac
    .next ({ s with time := { s.time with ppsAt := some s.tb1 } }.irq Reg.TIME_IRQ_PPS_IN)

/-- R215: NS has just passed 0: a pulse starts on PPS_OUT. -/
def execPpsOutPulse (s : State) : Host.Outcome State Fault Refusal :=
  if !s.domOn .time ∨ !s.time.ppsDue then idle s
  else
    let t := { s with time := { s.time with ppsDue := false } }
    if t.flag Reg.TIME_PPS_OUT_CFG_EN ∧ (!t.flag Reg.TIME_PPS_OUT_CFG_HOLD ∨ t.getF Reg.TIME_STAT_TB0_STATE = 2) then
      .next { t with sent := (15, leBytes 3 (t.getF Reg.TIME_PPS_OUT_CFG_WIDTH_US)) :: t.sent }
    else .next t

/-! ## TB3 and TB4 -/

/-- R219: TB3 − TB0 in ns. -/
def State.tb3Diff (s : State) : Int := (s.ns3 : Int) - (s.ns0 : Int)

/-- R219: every 1 ms of TB1, TB3's rate is set so as to close the difference within the next 1 ms, as far as 50 ppm allow. -/
def execTb3Slew (s : State) : Host.Outcome State Fault Refusal :=
  if s.domOn .time ∧ s.time.slewAt + 1000000 ≤ s.tb1 then
    let r := max (-50000) (min 50000 (-(s.tb3Diff * 1000)))
    .next { s with time := { s.time with slew := r, slewAt := s.tb1 } }
  else idle s

/-- R220, R241: a zero crossing: the phase is 0 and the count advances. -/
def State.crossing (s : State) (t : Nat) : State :=
  ({ s with time := { s.time with tb4At := t } }).setF Reg.TIME_TB4_CNT_CYCLES (s.getF Reg.TIME_TB4_CNT_CYCLES + 1)

/-- R241: does an interval lie within 10 % of the cycle period? -/
def State.nearPeriod (s : State) (ivl : Nat) : Bool :=
  let p := s.tb4Period
  decide (9 * p ≤ 10 * ivl) && decide (10 * ivl ≤ 11 * p)

/-- R220, R241: a cycle period has been measured. -/
def State.setPeriod (s : State) (ns : Nat) : State := { s with time := { s.time with measured := true } }.setF Reg.TIME_TB4_PERIOD_NS ns

/-- R241: is an edge of ZC_IN that stays for so many µs a candidate? -/
def State.zcCandidate (s : State) (rising : Bool) (stableUs : Nat) : Bool :=
  rising != s.flag (Reg.PLC_ZC_CFG_EDGE 0) && decide (s.getF (Reg.PLC_ZC_CFG_FILTER_US 0) ≤ stableUs)

/-- R241: an edge of ZC_IN, and how long the new level has stayed. -/
def execZcEdge (rising : Bool) (stableUs : BitVec 16) (s : State) : Host.Outcome State Fault Refusal :=
  let now := s.tb1
  if !s.flag (Reg.PLC_ZC_CFG_EN 0) ∨ !s.domOn .time ∨ !s.zcCandidate rising stableUs.toNat then idle s
  else if s.flag Reg.TIME_STAT_TB4_SYNTH then
    match s.time.zcCand with
    | some t =>
      if s.nearPeriod (now - t) then
        let s := { s with time := { s.time with zcCand := none, zcLast := now, zcIvls := [now - t] } }
        let s := (s.crossing now).setPeriod (now - t)
        .next ((s.setF Reg.TIME_STAT_TB4_SYNTH 0).irq (Reg.PLC_IRQ_ZC_REAL 0))
      else .next { s with time := { s.time with zcCand := some now } }
    | none => .next { s with time := { s.time with zcCand := some now } }
  else if s.nearPeriod (now - s.time.zcLast) then
    let l := ((now - s.time.zcLast) :: s.time.zcIvls).take 8
    let s := { s with time := { s.time with zcLast := now, zcIvls := l } }
    .next ((s.crossing now).setPeriod (l.sum / l.length))
  else .next (s.count (Reg.PLC_ZC_REJECT_CNT_CNT 0))

/-- R241: TB4 becomes synthetic at the last measured period. -/
def State.zcSynth (s : State) : State :=
  ({ s with time := { s.time with zcCand := none } }.setF Reg.TIME_STAT_TB4_SYNTH 1).irq (Reg.PLC_IRQ_ZC_SYNTH 0)

/-- R241: four periods have passed without a valid edge, or ZC_IN is out of use. -/
def execZcSynth (s : State) : Host.Outcome State Fault Refusal :=
  if !s.flag Reg.TIME_STAT_TB4_SYNTH ∧
      (s.time.zcLast + 4 * s.tb4Period ≤ s.tb1 ∨ !s.flag (Reg.PLC_ZC_CFG_EN 0)) then .next s.zcSynth
  else idle s

/-! ## The RTC -/

/-- R221, R225: the RTC takes a value; OSC_STOPPED clears and TIME_VALID is set, and a change is a set-back or a jump. An alarm due before it fires first. -/
def State.rtcLoad (s : State) (v : Nat) : State :=
  let s := s.fireRtcDue
  let t := { s with time := { s.time with rtcSub := 0 } }
  let t := ((t.setF Reg.RTC_RTC_SEC_SEC v).setF Reg.RTC_STAT_OSC_STOPPED 0).setF Reg.RTC_STAT_TIME_VALID 1
  t.rtcJump s

/-- R225: a write of `SET_CTRL.SET`: SET_SEC is loaded at the next SLOW edge. -/
def execRtcSet (req : Req) (s : State) : Host.Outcome State Fault Refusal :=
  .next (s.onField req Reg.RTC_SET_CTRL_SET fun s => s.setF Reg.RTC_SET_CTRL_SET 1)

/-- R225: a write of `SET_CTRL.SYNC_TB0`: the UTC view is loaded at its next second. -/
def execRtcSyncTb0 (req : Req) (s : State) : Host.Outcome State Fault Refusal :=
  .next (s.onField req Reg.RTC_SET_CTRL_SYNC_TB0 fun s =>
    if s.getF Reg.TIME_STAT_TB0_STATE = 2 then s.setF Reg.RTC_SET_CTRL_SYNC_TB0 1 else s.refuseAt req Reg.RTC_SET_CTRL_SYNC_TB0 Err.valueRefused)

/-- R207, R225: the RTC second that a pending leap skips or repeats: the second at which it acts, and its direction. -/
def State.rtcLeapAt (s : State) : Option (Nat × Nat) :=
  let pair := s.time.rtcLeap.getD (s.getF Reg.RTC_LEAP_DAY, s.getF Reg.RTC_LEAP_DIR)
  match pair.2 with
  | 1 => some ((pair.1 + 1) * 86400, 1)
  | 2 => some ((pair.1 + 1) * 86400 - 1, 2)
  | _ => none

/-- R207, R225: the RTC has made its leap. In BACKUP, where TB0 does not run, that ends the announcement. -/
def State.rtcLeapt (s : State) : State :=
  let t := { s with time := { s.time with rtcLeap := none } }
  if s.mode = .backup then ((t.setF Reg.RTC_LEAP_DAY 0).setF Reg.RTC_LEAP_DIR 0).irq Reg.RTC_IRQ_LEAP_DONE else t

/-- R224, R225: the RTC's next second. An inserted second repeats the day's last second; a deleted one is passed over. -/
def State.rtcTick (s : State) : State :=
  let n := s.rtcSec + 1
  if s.flag Reg.RTC_STAT_LEAP_ACTIVE then ((s.setF Reg.RTC_RTC_SEC_SEC n).setF Reg.RTC_STAT_LEAP_ACTIVE 0).rtcLeapt
  else match s.rtcLeapAt with
    | some (m, 1) => if n = m then s.setF Reg.RTC_STAT_LEAP_ACTIVE 1 else s.setF Reg.RTC_RTC_SEC_SEC n
    | some (m, _) => if n = m then ((s.setF Reg.RTC_RTC_SEC_SEC (n + 1)).rtcJump s).rtcLeapt else s.setF Reg.RTC_RTC_SEC_SEC n
    | none => s.setF Reg.RTC_RTC_SEC_SEC n

/-- R224, R225: one cycle of SLOW: a setting that waits is loaded; a cycle that TRIM skips counts nothing. -/
def State.slowTick (s : State) : State :=
  let s := { s with time := { s.time with slow := s.time.slow + 1, trimAt := s.time.trimAt + 1 } }
  if s.flag Reg.RTC_SET_CTRL_SET then (s.setF Reg.RTC_SET_CTRL_SET 0).rtcLoad (s.getF Reg.RTC_SET_SEC_SEC)
  else if s.time.skip ≠ 0 then { s with time := { s.time with skip := s.time.skip - 1 } }
  else if s.time.rtcSub + 1 < 32768 then { s with time := { s.time with rtcSub := s.time.rtcSub + 1 } }
  else { s with time := { s.time with rtcSub := 0 } }.rtcTick

/-- R224: 2^20 SLOW cycles have passed: the RTC adds TRIM cycles, or is to skip the next |TRIM|. -/
def execRtcTrimTick (s : State) : Host.Outcome State Fault Refusal :=
  if s.time.trimAt < 2 ^ 20 then idle s
  else
    let trim := signedOf 8 (s.getF Reg.RTC_TRIM_TRIM)
    let n := s.time.rtcSub + trim.toNat
    let s := { s with time := { s.time with
      trimAt := s.time.trimAt - 2 ^ 20, rtcSub := n % 32768, skip := s.time.skip + (-trim).toNat } }
    .next (if 32768 ≤ n then s.rtcTick else s)

/-- R228: OSC_STOPPED is set. -/
def State.oscStopped (s : State) : State :=
  ((s.setF Reg.RTC_STAT_OSC_STOPPED 1).setF Reg.RTC_STAT_TIME_VALID 0).irq Reg.RTC_IRQ_OSC_STOP

/-- R228: the 32 kHz oscillator has missed 4 cycles. -/
def execOscStop (s : State) : Host.Outcome State Fault Refusal :=
  .next ((s.oscStopped.setF Reg.CLK_STAT_XT32_OK 0).event .oscStopped 0x04)

/-- The register page of a key: a banked copy and a window entry belong to their page. -/
def keyPage (k : Nat) : Nat := k / 32 / 4096

/-- R227, R232, R443, R446: the retained registers return to reset: the RTC, with its fraction and what it holds of trim and leap, and TAMP pages (R421), the conditioners
of the slow inputs, and BOOT_CFG. -/
def State.clearRetained (s : State) : State :=
  { s with
    regs := s.regs.filter (fun e => !(((keyPage e.1 % 0x1000 == 0x04 || keyPage e.1 % 0x1000 == 0x0C) && decide (keyPage e.1 < 0x10000)) || keyPage e.1 / 0x10000 == 3) && e.1 != Reg.PWR_BOOT_CFG_TARGET.key),
    time := { s.time with rtcSub := 0, trimAt := 0, rtcLeap := none, skip := 0 },
    power := { s.power with inputs := [] }, sec := { s.sec with tamped := false } }

/-- R227, R232: the retention supply stayed below 1.5 V for 20 µs: the retained registers return to reset, RET_LOST and OSC_STOPPED are
set, and what the VBAT SRAM holds is lost: the staged records, the panel's lock and the counter of WAKE; its key region is zeroised (R413). -/
def execRetLost (s : State) : Host.Outcome State Fault Refusal :=
  let (d, s) := s.drawBytes 0x3C00
  let s := (s.write 0x02000000 d).write 0x02003C00 (List.replicate 0x400 0)
  let s : State := { s with evr := { s.evr with staged := [] }, panel := { s.panel with lockUntil := none },
                            uplink := { s.uplink with wakeCtr := 0 } }
  .next ((s.clearRetained.oscStopped.setF Reg.RTC_STAT_RET_LOST 1).event .oscStopped 0x04)

/-- R227: VBAT is below 2.5 V, or below 2.0 V. -/
def execBatComparator (exhausted : Bool) (s : State) : Host.Outcome State Fault Refusal :=
  let s := (s.setF Reg.RTC_STAT_BAT_LOW 1).irq Reg.RTC_IRQ_BAT
  .next (if exhausted then s.setF Reg.RTC_STAT_BAT_EXHAUSTED 1 else s)

/-- R227: VBAT is measured once a second while main power is present. -/
def execBatMeasure (mv : BitVec 13) (s : State) : Host.Outcome State Fault Refusal :=
  if s.power.main ∧ s.time.batAt + nsPerS ≤ s.tb1 then
    .next ({ s with time := { s.time with batAt := s.tb1 } }.setF Reg.RTC_BAT_MV_MV mv.toNat)
  else idle s

/-- R229: a write of `RTC.CHG`; without the key it is refused. -/
def execRtcChgWrite (req : Req) (data : Word) (s : State) : Host.Outcome State Fault Refusal :=
  let d := data.toNat
  .next (s.onWrite req 0x04 0x134 fun s =>
    if bitsOf d 15 8 ≠ 0xC4 ∨ bitsOf d 5 4 = 3 ∨ bitsOf d 2 1 = 3 then s.err 0x04 Err.valueRefused (accessInfo 0x04 req 0x134)
    else ((s.setF Reg.RTC_CHG_VLIM (bitsOf d 5 4)).setF Reg.RTC_CHG_ILIM (bitsOf d 2 1)).setF Reg.RTC_CHG_EN (bitAt d 0))

/-! ## The passage of time -/

/-- R211, R214: TB0 advances by 10 ns, corrected by FREQ_ADJ in 1/256 ppb. -/
def State.tb0Tick (s : State) : State :=
  let n : Int := 655360 * (256000000000 + s.freqAdj) + s.time.adjRem
  let t := s.tb0 + (n / 256000000000).toNat
  { s with tb0 := t, time := { s.time with
    adjRem := n % 256000000000, ppsDue := s.domOn .time && decide (s.ns0 / nsPerS < t / 65536 / nsPerS) } }

/-- R219: TB3 advances by 10 ns of TB1 at its rate. -/
def State.tb3Tick (s : State) : State :=
  let n : Int := 655360 * (1000000000 + s.time.slew) + s.time.slewRem
  { s with tb3 := s.tb3 + (n / 1000000000).toNat, time := { s.time with slewRem := n % 1000000000 } }

/-- R220: while TB4 is synthetic, a cycle ends every period. -/
def State.tb4Tick (s : State) : State :=
  let p := s.tb4Period
  if s.flag Reg.TIME_STAT_TB4_SYNTH ∧ s.time.tb4At + p ≤ s.tb1 then s.crossing (s.time.tb4At + p) else s

/-- R225: a SYNC_TB0 that waits is done when the UTC view enters its next second. `was` is the state before the tick. -/
def State.syncTick (s : State) (was : State) : State :=
  if s.flag Reg.RTC_SET_CTRL_SYNC_TB0 ∧ was.utcSec < s.utcSec then (s.setF Reg.RTC_SET_CTRL_SYNC_TB0 0).rtcLoad s.utcSec else s

/-- R204, R224: 10 ns pass. In BACKUP the SLOW domain alone counts. -/
def State.tick (s : State) : State :=
  let r := s.time.slowRem + 327680
  let slow (t : State) : State :=
    if r < 1000000000 then { t with time := { t.time with slowRem := r } }
    else { t with time := { t.time with slowRem := r - 1000000000 } }.slowTick
  if s.mode = .backup ∧ !s.startingUp then slow s
  else
    let t := { s with tb1 := s.tb1 + 10 }.tb0Tick
    let t := if t.domOn .time then t.tb3Tick.tb4Tick else t
    (slow t).syncTick s

end Sys2Proof.Machine
end

