-- ==== Sys2Proof/Machine/PortOps.lean ====
section
/-! DEFINITION. What the field ports and the uplinks share: the state of a port, its node table and joins (R252, R271), outputs and their digests (R319, R326), application acknowledgements (R256, R401), downlink items (R257). -/

namespace Sys2Proof.Machine

/-! ## Ports -/

/-- The state of a field port: 0 to 3 PLC, 4 to 7 radio. -/
def State.port (s : State) (k : Nat) : PortState := sget {} s.ports k

/-- Replace the state of a port. -/
def State.setPort (s : State) (k : Nat) (p : PortState) : State := { s with ports := sput {} s.ports k p }

/-- A field of the page of port `k`, of the PLC page or of the radio page. -/
def portF (plc rad : Nat → Field) (k : Nat) : Field := if k < 4 then plc k else rad (k - 4)

/-- The page of port `k`. -/
def portPage (k : Nat) : Nat := 0x31 + k

/-- The queue of an end of port `k`: 0 acknowledgements, 1 downlink, 2 completions, 3 received frames. -/
def portEnd (k e : Nat) : Nat := 8 * portPage k + e

/-- R261, R281: does the port run? -/
def State.portOn (s : State) (k : Nat) : Bool :=
  s.domOn .field && s.flag (portF Reg.PLC_CTRL_ENABLE Reg.RAD_CTRL_ENABLE k) && !s.flag (portF Reg.PLC_CTRL_FENCE Reg.RAD_CTRL_FENCE k)

/-- A timeslot, in ns (R265). -/
def slotNs : Nat := 10000000

/-- R251: the beacon period, in ns. -/
def State.beaconPeriod (s : State) (k : Nat) : Nat := 200000000 * 2 ^ s.getF (Reg.PLC_BEACON_CFG_BP k)

/-- R251: the first instant of the port's own schedule at or after `t` (TB3, ns). -/
def State.beaconFrom (s : State) (k t : Nat) : Nat :=
  let bp := s.beaconPeriod k
  let ofs := s.getF (Reg.PLC_BCN_OFS_US k) * 1000
  if t ≤ ofs then ofs else ofs + ceilDiv (t - ofs) bp * bp

/-- R323: has the port taken the role of a twin that took over? -/
def State.roleTaken (s : State) (k : Nat) : Bool := decide ((s.port k).roleAt ≤ s.ns3)

/-- R254, R280, R306, R323: has the port the TRACK role, by its setting, or because this twin is not ACTIVE or the port has still to take its role? -/
def State.track (s : State) (k : Nat) : Bool :=
  !s.orders || !s.roleTaken k || (if k < 4 then s.flag (Reg.PLC_CTRL_ROLE k) else s.getF (Reg.RAD_CTRL_ROLE (k - 4)) == 2)

/-- R271, R274: is a radio port a MEMBER of a PAN that another coordinator runs? -/
def State.member (s : State) (k : Nat) : Bool := decide (4 ≤ k) && s.orders && s.roleTaken k && s.getF (Reg.RAD_CTRL_ROLE (k - 4)) == 1

/-- Does the port act as the coordinator of its section or PAN? -/
def State.coordinates (s : State) (k : Nat) : Bool := !s.track k && !s.member k

/-- R261: does a beacon schedule run on PLC port `k`: its own, or on a TRACK port the one that it follows? -/
def State.plcSchedule (s : State) (k : Nat) : Bool :=
  s.portOn k && !s.flag (Reg.PLC_CTRL_ACCESS k) && (!s.track k || decide (3 ≤ s.getF (Reg.PLC_STAT_NODE_STATE k)))

/-- R219, R251, R269: does any PLC or radio port run a schedule? -/
def State.scheduleRuns (s : State) : Bool := (List.range 4).any (fun n => s.plcSchedule n || s.portOn (4 + n))

/-! ## The node table -/

/-- R252: the node with a short address. -/
def State.portNode (s : State) (k a : Nat) : Option PortNode := sget none (s.port k).nodes a

/-- R252: put a node into the table, or take it out. -/
def State.putNode (s : State) (k a : Nat) (n : Option PortNode) : State :=
  let p := s.port k
  s.setPort k { p with nodes := sput none p.nodes a n }

/-- R252: `NODES.CNT` follows the table. -/
def State.countNodes (s : State) (k : Nat) : State :=
  if k < 4 then
    s.setF (Reg.PLC_NODES_CNT k) ((s.port k).nodes.filter (fun e => match e.2 with | some n => n.joined | none => false)).length
  else s

/-- R252: the address of an identifier in the table. -/
def State.portAddr (s : State) (k id : Nat) : Option Nat :=
  ((s.port k).nodes.find? (fun e => match e.2 with | some n => n.id == id | none => false)).map (·.1)

/-- R246, R252: a node has been heard. -/
def State.hear (s : State) (k a : Nat) : State :=
  match s.portNode k a with
  | some n => s.putNode k a (some { n with heardAt := s.tb1 })
  | none => s

/-! ## Frames to send -/

/-- A frame joins those that the port is to send. -/
def State.toSend (s : State) (k : Nat) (t : PortTx) : State :=
  let p := s.port k
  s.setPort k { p with out := p.out ++ [{ t with id := p.outNext, seq := p.seqNext % 256, since := s.tb1 }], outNext := p.outNext + 1,
                       seqNext := (p.seqNext + 1) % 256 }

/-- The frame that the port contends for: the oldest of the highest priority. -/
def contender : List PortTx → Option PortTx
  | [] => none
  | t :: r => match contender r with
    | some u => if t.prio < u.prio then some u else some t
    | none => some t

/-- R252, R271: the join response, addressed to 0xFFFE. `status` 0 OK, 1 FULL, 2 UNKNOWN, 3 CLOSED. DESIGN CHOICE (log entry 72): R245 gives no byte order for the
fields of a PLC response; the model takes big-endian, as R245 has the length. -/
def State.joinResp (s : State) (k id addr slot status : Nat) : State :=
  let slot := if slot = 0x1FF then 0xFFFF else slot
  if k < 4 then
    s.toSend k { dst := 0xFFFE, mtype := 0x11, prio := s.getF (Reg.PLC_PRIO_JOIN_RESP k),
                 body := beBytes 8 id ++ beBytes 2 addr ++ beBytes 2 slot ++ [BitVec.ofNat 8 status] }
  else
    let code := if status = 0 then 0 else if status = 1 then 1 else 2
    s.toSend k { dst := 0xFFFE, mtype := 0x102, prio := 2, body := leBytes 8 id ++ leBytes 2 addr ++ [BitVec.ofNat 8 code] }

/-- R252, R310: the bytes of a JOIN: port, identifier, short address, slot. -/
def joinBytes (k id addr slot : Nat) : Bytes := [BitVec.ofNat 8 k] ++ leBytes 8 id ++ leBytes 2 addr ++ leBytes 2 slot

/-- R242, R252: an ordered JOIN is applied by the port it names: the node is joined, its accepted SEQ is cleared, it uses the default maps until another set is issued (log entry 88),
and the coordinator answers it. -/
def State.applyJoin (s : State) (b : Bytes) : State :=
  let k := leAt b 0 1 % 8
  let id := leAt b 1 8
  let addr := leAt b 9 2
  let slot := leAt b 11 2
  let old := (s.portNode k addr).getD {}
  let s := s.putNode k addr (some { old with id := id, slot := slot, joined := true, seq := none, heardAt := s.tb1, rxPrev := [], rxPrevGen := 0, tx := [], txGen := 0 })
  let s := (s.countNodes k).irq (portF Reg.PLC_IRQ_JOIN Reg.RAD_IRQ_JOIN k)
  if s.coordinates k then s.joinResp k id addr slot 0 else s

/-- R252: the lowest number below `n`, from `lo`, that a list does not hold. -/
def lowestFree (l : List Nat) (lo n : Nat) : Option Nat := ((List.range n).map (· + lo)).find? (fun a => !l.contains a)

/-- R252, R271: a join request of an identifier is decided. An accepted join takes its order number first. -/
def State.decideJoin (s : State) (k id : Nat) : State :=
  let nodes := (s.port k).nodes.filterMap (fun e => e.2.map (fun n => (e.1, n)))
  let beacon := decide (k < 4) && !s.flag (Reg.PLC_CTRL_ACCESS k)
  let slots := (nodes.map (fun e => e.2.slot)).filter (fun x => x != 0x1FF)
  let (s, known) := if s.flag (portF Reg.PLC_JOIN_CFG_POLICY Reg.RAD_JOIN_CFG_POLICY k) then (s, true)
    else ((s.dirFind id).1, (s.dirFind id).2.isSome)
  if !s.flag (portF Reg.PLC_JOIN_CFG_OPEN Reg.RAD_JOIN_CFG_OPEN k) then s.joinResp k id 0xFFFE 0x1FF 3
  else if !known then s.joinResp k id 0xFFFE 0x1FF 2
  else match s.portAddr k id with
    | some a =>
      match s.portNode k a with
      | some n => if n.joined ∧ s.hasCredit 0x80 then s.enq 0x80 { body := .orderedItem (.join (joinBytes k id a n.slot)) } else s
      | none => s
    | none =>
      if (beacon ∧ 256 ≤ slots.length) ∨ 2048 ≤ nodes.length then s.joinResp k id 0xFFFE 0x1FF 1
      else if !s.hasCredit 0x80 then s
      else match lowestFree (nodes.map (·.1)) 1 2048 with
        | none => s.joinResp k id 0xFFFE 0x1FF 1
        | some a =>
          let slot := if beacon then (lowestFree slots 0 (s.getF (Reg.PLC_BEACON_CFG_NSLOT k))).getD 0x1FF else 0x1FF
          (s.putNode k a (some { id := id, slot := slot, heardAt := s.tb1 })).enq 0x80
            { body := .orderedItem (.join (joinBytes k id a slot)) }

/-- R252: a member not heard for AGE_H hours is removed. -/
def State.ageNode (s : State) (k a : Nat) : State :=
  let h := s.getF (portF Reg.PLC_JOIN_CFG_AGE_H Reg.RAD_JOIN_CFG_AGE_H k)
  match s.portNode k a with
  | some n =>
    if n.joined ∧ h ≠ 0 ∧ n.heardAt + h * 3600 * nsPerS ≤ s.tb1 then
      ((s.putNode k a none).countNodes k).irq (portF Reg.PLC_IRQ_NODE_REMOVED Reg.RAD_IRQ_NODE_REMOVED k)
    else s
  | none => s

/-! ## Received meter frames -/

/-- R246, R270: what becomes of a METER frame from a member: a repeat, refused for want of credit, or queued. Does the port owe an ACK? -/
def State.takeMeter (s : State) (k a seq : Nat) (raw : Bytes) : State × Bool :=
  match s.portNode k a with
  | none => (s, false)
  | some n =>
    if !n.joined then (s, false)
    else if n.seq = some seq then (s.count (portF Reg.PLC_RX_DUP_CNT_CNT Reg.RAD_RX_DUP_CNT_CNT k), true)
    else if !s.hasCredit (portEnd k 3) then
      ((s.count (portF Reg.PLC_RX_REFUSED_CNT_CNT Reg.RAD_RX_REFUSED_CNT_CNT k)).irq (portF Reg.PLC_IRQ_RX_REFUSED Reg.RAD_IRQ_RX_REFUSED k), false)
    else
      let s := s.enq (portEnd k 3) { body := .frame { raw := raw, port := k, link := a } }
      ((s.putNode k a (some { n with seq := some seq })).count (portF Reg.PLC_RX_OK_CNT_CNT Reg.RAD_RX_OK_CNT_CNT k), true)

/-- R315: a TRACK port of a standby hands a good frame to the active, whatever it carries, and counts it. Without credit of the order queue the record is lost. -/
def State.forwardFrame (s : State) (k link seq : Nat) (raw : Bytes) : State :=
  if s.flag Reg.TWIN_CTRL_ENABLE ∧ s.getF Reg.TWIN_STAT_ROLE = 3 then
    let s := s.count Reg.TWIN_FORWARD_CNT_CNT
    if s.hasCredit 0x180 then s.enq 0x180 { body := .record (.forward k link seq raw) } else s
  else s

/-! ## Outputs -/

/-- R319, R333: the next index of an output stream. -/
def State.outIndex (s : State) (stream : Nat) : Nat :=
  if stream = 0 then s.get2 Reg.TWIN_OUT_SEQ_LO_INDEX Reg.TWIN_OUT_SEQ_HI_INDEX else sget 0 s.twin.outs stream

/-- R319: the index of an output stream advances. -/
def State.setOutIndex (s : State) (stream n : Nat) : State :=
  let n := n % 2 ^ 48
  if stream = 0 then s.set2 Reg.TWIN_OUT_SEQ_LO_INDEX Reg.TWIN_OUT_SEQ_HI_INDEX n
  else { s with twin := { s.twin with outs := sput 0 s.twin.outs stream n } }

/-- R326: keep the newest 4,096 digests of each stream. -/
def keepDigest (l : List Digest) (d : Digest) : List Digest :=
  let same := l.filter (fun e => e.stream == d.stream)
  let l := if 4096 ≤ same.length then l.erase (same.headD d) else l
  l ++ [d]

/-- R326, R327, R476: the two digests of an output differ; while the twins run different software, no test follows. -/
def State.disagree (s : State) (stream index : Nat) : State :=
  let s := (s.count Reg.TWIN_MISMATCH_CNT_CNT).irq Reg.TWIN_IRQ_MISMATCH
  let s := (s.setF Reg.TWIN_LAST_MISMATCH_INDEX index).setF Reg.TWIN_LAST_MISMATCH_STREAM stream
  let s := s.event .twinMismatch 0x30 ([BitVec.ofNat 8 stream] ++ leBytes 6 index)
  if s.flag Reg.UPD_STAT_MIXED then s.count Reg.UPD_MIXED_MISMATCH_CNT_CNT else { s with twin := { s.twin with testDue := true } }

/-- R326: compare this twin's digest of an output with its partner's, when both are there. -/
def State.compareDigests (s : State) (stream index : Nat) : State :=
  let is (e : Digest) : Bool := e.stream == stream && e.index == index
  match s.twin.mine.find? is, s.twin.theirs.find? is with
  | some a, some b =>
    let s := { s with twin := { s.twin with mine := s.twin.mine.filter (fun e => !is e), theirs := s.twin.theirs.filter (fun e => !is e) } }
    if a.dig = b.dig then s else s.disagree stream index
  | _, _ => s

/-- R319, R326: a frame takes the next index of its stream; in a pair its digest is kept, sent and compared. -/
def State.output (s : State) (stream : Nat) (span : Bytes) : State :=
  let n := s.outIndex stream
  let s := s.setOutIndex stream (n + 1)
  if !s.flag Reg.TWIN_CTRL_ENABLE ∨ (s.orders ∧ !s.flag Reg.TWIN_STAT_PAIRED) ∨ (!s.orders ∧ s.getF Reg.TWIN_STAT_ROLE ≠ 3) then s
  else
    let d := shake64 span
    let s := if s.hasCredit 0x180 then s.enq 0x180 { body := .record (.digest stream n d) } else s
    let s := { s with twin := { s.twin with mine := keepDigest s.twin.mine ⟨stream, n, d, s.tb1⟩ } }
    s.compareDigests stream n

/-- The bytes that leave the chip on a way. -/
def State.emit (s : State) (way : Nat) (b : Bytes) : State := { s with sent := (way, b) :: s.sent }

/-- R296, R297, R298: may the endpoint reach the host: is the link up, and Bus Master Enable set? -/
def State.pcieMaster (s : State) : Bool := s.domOn .fabric && s.flag Reg.PCIE_STAT_LINK_UP && s.flag Reg.PCIE_STAT_BME

/-- The endpoint writes to the host's memory; the write leaves on PCIe. -/
def State.hostWrite (s : State) (a : Nat) (b : Bytes) : State := (s.emit 12 (leBytes 8 a ++ b)).write (hostCell a) b

/-- The newest entry of a way out is changed, or withdrawn. -/
def amendWay (w : Nat) (f : Bytes → Option Bytes) : List (Nat × Bytes) → List (Nat × Bytes)
  | [] => []
  | (v, b) :: r => if v = w then (match f b with | some c => (v, c) :: r | none => r) else (v, b) :: amendWay w f r

/-- R275, R393: radio ports whose frame on air has latched a key slot. -/
def State.radHolders (s : State) (slot : Nat) : List Nat :=
  [4, 5, 6, 7].filter (fun k => (s.port k).txSlot == some slot && decide (s.tb1 < (s.port k).txEnd))

/-- R275, R393: the frame on air of a radio port is aborted: it is not sent. -/
def State.abortTx (s : State) (k : Nat) : State :=
  let p := s.port k
  { s.setPort k { p with txSlot := none, txEnd := s.tb1 } with sent := amendWay (28 + k) (fun _ => none) (amendWay k (fun _ => none) s.sent) }

/-! ## Application acknowledgements -/

/-- R132: the link address of a meter's route hint on a port; none where the hint is not valid or names another port. -/
def State.hintAddr (s : State) (m port : Nat) : Option Nat :=
  let h := s.recF m 0x014 4
  if bitAt h 31 = 1 ∧ bitsOf h 3 0 = port then some (bitsOf h 19 4) else none

/-- R401: the next downlink counter of a meter: none where it would pass the end of its range. -/
def State.takeDownIvc (s : State) (m fmt : Nat) : Option (Nat × State) :=
  let n := s.recF m 0x098 8 + 1
  if (if fmt = 0 then 2 ^ 32 else 2 ^ 64) ≤ n then none else some (n, (s.touch m).setRec m 0x098 8 n)

/-- R401: GCM_FIXED of a meter with bit 7 of its byte 0 inverted. -/
def State.downFixed (s : State) (m : Nat) : Bytes :=
  match s.read (recordAddr m + 0x00C) 4 with
  | b :: r => (b ^^^ 0x80) :: r
  | [] => []

/-- R256: a ZCF acknowledgement. -/
def State.zcfAck (s : State) (a : Ack) (key : Bytes) (ivc : Nat) : Bytes :=
  let hd := [BitVec.ofNat 8 a.version, 0x81] ++ (s.read (recordAddr a.meter) 8).reverse ++ beBytes 8 ivc
  let iv := s.downFixed a.meter ++ beBytes 8 ivc
  let ct := gcmCrypt key iv (beBytes 8 a.ivc ++ [BitVec.ofNat 8 a.outcome.code] ++ List.replicate 7 0)
  hd ++ ct ++ gcmTag key iv hd ct

/-- R256: a DLMS/COSEM acknowledgement with a system title. -/
def dlmsAck (a : Ack) (key title : Bytes) (ivc : Nat) : Bytes :=
  let ek := key.take 16
  let iv := title ++ beBytes 4 ivc
  let pt := [0x0F, 0, 0, 0, 0, 0, 0x02, 0x02, 0x06] ++ beBytes 4 a.ivc ++ [0x11, BitVec.ofNat 8 a.outcome.code]
  let ct := gcmCrypt ek iv pt
  let tag := (gcmTag ek iv ([0x30] ++ key.drop 16) ct).take 12
  [0xDB, 0x08] ++ title ++ [BitVec.ofNat 8 (5 + pt.length + 12), 0x30] ++ beBytes 4 ivc ++ ct ++ tag

/-- R256, R401: the acknowledgement frame of an item under the meter's frame key, and the state that has taken the counter. `none` where
no key opens or the counter is used up (latched). -/
def State.ackFrame (s : State) (a : Ack) (title : Bytes) : Option Bytes × State :=
  match s.frameKey a.meter (unitOf (s.laneOf a.meter)) with
  | none => (none, s)
  | some key =>
    match s.takeDownIvc a.meter a.fmt with
    | none => (none, (s.count Reg.CIPH_IVC_EXH_CNT_CNT).irq Reg.CIPH_IRQ_IVC_EXHAUSTED)
    | some (n, t) => (some (if a.fmt = 0 then dlmsAck a key title n else s.zcfAck a key n), t)

/-- A system title or address held in two registers, its first bytes in the high one, first byte in bits 7:0. -/
def State.title (s : State) (hi lo : Field) : Bytes := leBytes 4 (s.getF hi) ++ leBytes 4 (s.getF lo)

/-- R256, R260, R279: an acknowledgement item is discarded: it is counted, and its queue credit returns. -/
def State.dropAck (s : State) (k : Nat) : State :=
  (s.count (portF Reg.PLC_ACK_DISCARD_CNT_CNT Reg.RAD_ACK_DISCARD_CNT_CNT k)).creditBack (portEnd k 0)

/-- R256, R279: the port takes an acknowledgement item; `parity` words of it fail their check (R55). Its credit returns when the port sends the
acknowledgement (R19). A poisoned item is lost (R85), and a fenced port discards it (R260). -/
def State.portAck (s : State) (k parity : Nat) : State :=
  let q := portEnd k 0
  let s := s.faultFront q parity
  match (s.queue q).items.head?, s.deqHeld q with
  | some { body := .ack a, poison := bad }, some (_, t) =>
    if bad ≠ 0 then (t.creditBack q).loseAck a
    else if t.flag (portF Reg.PLC_CTRL_FENCE Reg.RAD_CTRL_FENCE k) then t.dropAck k
    else match t.hintAddr a.meter k with
    | none => t.dropAck k
    | some addr =>
        let title := t.title (portF Reg.PLC_ACK_TITLE_HI_TITLE Reg.RAD_ACK_TITLE_HI_TITLE k) (portF Reg.PLC_ACK_TITLE_LO_TITLE Reg.RAD_ACK_TITLE_LO_TITLE k)
        let (b, t) := t.ackFrame a title
        match b with
        | none => t.dropAck k
        | some b =>
          let t := t.output (k + 1) b
          if t.orders then
            t.toSend k { dst := if t.member k then 0 else addr, mtype := 2, body := b, prio := if k < 4 then t.getF (Reg.PLC_PRIO_APP_ACK k) else 2,
                         ackItem := true }
          else t.creditBack q
  | _, _ => s

/-! ## Downlink items -/

/-- R257: the completion of a downlink item. -/
def State.downDone (s : State) (k tag status attempts stamp : Nat) : State :=
  s.enq (portEnd k 2) { body := .bytes (leBytes 4 (tag % 256 + status * 2 ^ 8 + attempts % 16 * 2 ^ 16) ++ leBytes 4 stamp ++ List.replicate 8 0) }

/-- R257: the completions that are spoken for by the frames under way. -/
def State.downOpen (s : State) (k : Nat) : Nat :=
  ((s.port k).out.filter (fun t => t.tag.isSome)).length + (match (s.port k).wait with | some (t, _) => if t.tag.isSome then 1 else 0 | none => 0)

/-- R260, R280: a fenced port completes the downlink item at the front of its queue with FENCED, while the completion queue has a credit that no frame under way
speaks for (R16). -/
def State.downFenced (s : State) (k : Nat) : State :=
  if (s.queue (portEnd k 2)).credits ≤ s.downOpen k then s
  else match s.deq (portEnd k 1) with
  | some ({ body := .bytes b, .. }, t) => t.downDone k (leAt b 3 1) 4 0 0
  | _ => s

/-- R257: the port takes a downlink item: 16 bytes of header, then the MAC body. `sub` is an item that software writes first. -/
def State.portDownlink (s : State) (k : Nat) (sub : Option Submission) (fits : State → Nat → Nat → Bool → Bool) : State :=
  let q := portEnd k 1
  let s := match sub with
    | some x =>
      s.onWrite x.req (portPage k) 0x090 fun s => if s.hasCredit q then s.enq q { body := .bytes x.item, poison := x.poison } else s
    | none => s
  if s.flag (portF Reg.PLC_CTRL_FENCE Reg.RAD_CTRL_FENCE k) ∧ s.domOn .field then s.downFenced k
  else if !s.portOn k ∨ (s.queue (portEnd k 2)).credits ≤ s.downOpen k then s
  else match (s.queue q).items.head?, s.deq q with
  | some { body := .bytes b, poison := bad }, some (_, t) =>
    let w := leAt b 0 4
    let tag := bitsOf w 31 24
    let len := leAt b 8 4
    let m := leAt b 4 4 % 2 ^ 20
    let dst : Option Nat := if bitAt w 16 = 1 then t.hintAddr m k else some (bitsOf w 15 0)
    if bad ≠ 0 ∨ b.length ≠ 16 + len ∨ 600 < len then t.downDone k tag 5 0 0
    else match dst with
    | none => t.downDone k tag 3 0 0
    | some a =>
      if !fits t a len (bitAt w 20 == 1) then t.downDone k tag 5 0 0
      else
        let t := t.output (k + 1) (b.drop 16)
        if t.orders then
          t.toSend k { dst := if t.member k then 0 else a, mtype := 2, body := b.drop 16, prio := bitsOf w 19 18, ackReq := bitAt w 20 == 1,
                       tag := some tag }
        else t.downDone k tag 1 0 0
  | _, _ => s

/-- R257, R278: a frame of the port is done with, in a way that its completion names; a drop is counted. With the frame of an acknowledgement item the item's
credit returns (R19). -/
def State.txDone (s : State) (k : Nat) (t : PortTx) (status : Nat) : State :=
  let s := if t.ackItem then s.creditBack (portEnd k 0) else s
  match t.tag with
  | none => s
  | some tag =>
    let s := s.downDone k tag status t.attempts t.stamp
    if status = 2 then (s.count (portF Reg.PLC_TX_DROP_CNT_CNT Reg.RAD_TX_DROP_CNT_CNT k)).irq (portF Reg.PLC_IRQ_TX_DROP Reg.RAD_IRQ_TX_DROP k)
    else s

/-! ## Fencing -/

/-- R260, R280: the port is fenced: downlink items complete as FENCED, those for which the completion queue has no credit as credits come back; acknowledgement
items are discarded, and the event recorder learns of it. -/
def State.fencePort (s : State) (k : Nat) : State :=
  let p := s.port k
  let pend := p.out ++ (match p.wait with | some (t, _) => [t] | none => [])
  let s := s.setPort k { p with out := [], wait := none, ack := none, contend := none, cell := none }
  let s := pend.foldl (fun s t => s.txDone k t 4) s
  let s := (s.queue (portEnd k 1)).items.foldl (fun s _ => s.downFenced k) s
  let q0 := s.queue (portEnd k 0)
  let acks := q0.items.length + (pend.filter (fun t => t.tag.isNone && t.mtype == 2)).length
  let s := (s.setQueue (portEnd k 0) { q0 with items := [], credits := q0.credits + q0.items.length }).count
    (portF Reg.PLC_ACK_DISCARD_CNT_CNT Reg.RAD_ACK_DISCARD_CNT_CNT k) acks
  s.event .port (portPage k) [1]

/-! ## The states of a node that follows beacons -/

/-- R253, R274: enter a state of the TRACK or MEMBER role; a scan starts from its first channel. -/
def State.nodeState (s : State) (k n : Nat) : State :=
  let t := s.setF (portF Reg.PLC_STAT_NODE_STATE Reg.RAD_STAT_NODE_STATE k) n
  if n = 1 then t.setPort k { t.port k with scanAt := t.ns3 } else t

/-- R253: the state of the TRACK or MEMBER role. -/
def State.nodeStateOf (s : State) (k : Nat) : Nat := s.getF (portF Reg.PLC_STAT_NODE_STATE Reg.RAD_STAT_NODE_STATE k)

/-- R253, R274: a beacon period has passed unheard. -/
def State.missBeacon (s : State) (k : Nat) : State :=
  let p := s.port k
  let s := (s.setPort k { p with next := p.next + p.period, missed := p.missed + 1 }).count (portF Reg.PLC_BCN_MISS_CNT_CNT Reg.RAD_BCN_MISS_CNT_CNT k)
  match s.nodeStateOf k with
  | 3 => s.nodeState k 4
  | 4 =>
    if 3 ≤ p.missed + 1 then
      let s := (s.nodeState k 5).setPort k { s.port k with lostAt := s.ns3 }
      (s.irq (portF Reg.PLC_IRQ_BEACON_LOSS Reg.RAD_IRQ_BEACON_LOSS k)).event .port (portPage k) [2]
    else s
  | 5 => if p.lostAt + 4 * p.period ≤ s.ns3 then s.nodeState k 1 else s
  | _ => s

/-- R253, R274: a beacon is heard: the schedule follows it, with the next one predicted and the period. -/
def State.hearBeacon (s : State) (k next period : Nat) (to_ : Nat) : State :=
  (s.setPort k { s.port k with next := next, period := period, missed := 0 }).nodeState k to_

end Sys2Proof.Machine
end

