-- ==== Sys2Proof/Machine/Bus.lean ====
section
/-! DEFINITION. The system bus: what an address is to a requester (R23–R27), and the reads and writes of memory (R22, R26, R126, R296). -/

namespace Sys2Proof.Machine

/-- R23, R25: what an address is to a requester: a register page, a memory of a domain, a ROM, a lane aperture, host memory, or nothing. -/
inductive Target where
  | page (p off : Nat)
  | mem (d : Domain)
  | rom
  | aperture (n off : Nat)
  | host
  | hole
  deriving DecidableEq, Repr

/-- R23: does a requester issue 32-bit addresses? -/
def narrow (req : Req) : Bool := req == .trusted || req == .kettle || req == .lane

/-- R22, R23, R25: the target of an address. A memory that a requester does not reach is nothing to it (log). -/
def busTarget (req : Req) (a : Nat) : Target :=
  let within (lo hi : Nat) : Bool := decide (lo ≤ a) && decide (a ≤ hi)
  let core := req != .kettle && req != .lane
  if narrow req && decide (2 ^ 32 ≤ a) then .hole
  else if req = .trusted ∧ a ≤ 0xFFFF then .rom
  else if req = .trusted ∧ within 0x08000000 0x0803FFFF then .mem .fabric
  else if req = .kettle ∧ a ≤ 0x3FFF then .rom
  else if within 0x01000000 0x0100FFFF then (if req = .kettle ∨ req = .trusted then .mem .aon else .hole)
  else if within 0x02000000 0x02003FFF then (if req = .kettle ∨ req = .trusted then .mem .slow else .hole)
  else if within 0x10000000 0x107FFFFF then (if core then .mem .fabric else .hole)
  else if within 0x20000000 0x203FFFFF then .aperture ((a - 0x20000000) / 0x20000) ((a - 0x20000000) % 0x20000)
  else if within 0x40000000 0x400FFFFF then .page ((a - 0x40000000) / 4096) (a % 4096)
  else if 2 ^ 32 ≤ a ∧ within 0x1000000000 0x1FFFFFFFFF then .host
  else if 2 ^ 32 ≤ a ∧ memMapped a then .mem .mem
  else .hole

/-- R15, R26, R35, R126, R296, R453: the refusal of an access to memory. -/
def State.memRefusal (s : State) (req : Req) (a : Nat) (write : Bool) : Option (Nat × Nat) :=
  if req = .debug ∧ !s.flag Reg.LCS_STAT_DBG_OPEN then some (Err.privDeny, a % 2 ^ 32)
  else match busTarget req a with
    | .hole | .page _ _ => some (Err.addrUnmapped, a % 2 ^ 32)
    | .mem d => if s.domOn d then none else some (Err.domainOff, a % 2 ^ 32)
    | .rom => none
    | .aperture n off => if aperturePart off = .hole then some (Err.addrUnmapped, a % 2 ^ 32) else s.refusal req (0x40 + n) 0 .b4 write
    | .host => if s.pcieMaster then none else some (Err.addrUnmapped, a % 2 ^ 32)

/-- R11, R430: an access to a DRAM whose domain may run on demand starts it. -/
def State.wakeMem (s : State) (req : Req) (a : Nat) : State :=
  if busTarget req a = .mem .mem then (s.needDom .mem).getD s else s

/-- R22: the words that a write of `n` bytes covers in part and that are uncorrectable. -/
def State.partBad (s : State) (a n : Nat) : Bool :=
  (wordsOf a n).any (fun w => sget false s.bad w && !covers a n w)

/-- R296: where an address of the chip stands in memory: an address from 0x10_0000_0000 on is a host bus address from `PCIE.OB_BASE` on. -/
def State.cellOf (s : State) (req : Req) (a : Nat) : Nat :=
  if busTarget req a = .host then hostCell (s.get2 Reg.PCIE_OB_BASE_LO_ADDR Reg.PCIE_OB_BASE_HI_ADDR + (a - 0x1000000000)) else a

/-- R22, R26: a read of `n` bytes of memory. The answer is the bytes, or the code with which it failed; a refusal is recorded in SYS. The content of a ROM
is free. -/
def State.memRead (s : State) (req : Req) (a n : Nat) : State × (Nat ⊕ Bytes) :=
  let s := s.wakeMem req a
  match s.memRefusal req a false, s.memRefusal req (a + n - 1) false with
  | some (c, i), _ => (s.busError c i, .inl c)
  | none, some (c, i) => (s.busError c i, .inl c)
  | none, none =>
    if busTarget req a = .rom then
      let (b, s) := s.drawBytes n
      (s, .inr b)
    else if busTarget req a = .host then (s, .inr (s.read (s.cellOf req a) n))
    else if s.anyBad a n then (s, .inl Err.poison)
    else (s.eccCorrect a n, .inr (s.readShown a n))

/-- R22, R26, R126: a write of memory. The answer is the code with which it failed, 0 where it did not. A ROM keeps its content (log). -/
def State.memWrite (s : State) (req : Req) (a : Nat) (b : Bytes) : State × Nat :=
  let s := s.wakeMem req a
  match s.memRefusal req a true, s.memRefusal req (a + b.length - 1) true with
  | some (c, i), _ => (s.busError c i, c)
  | none, some (c, i) => (s.busError c i, c)
  | none, none =>
    match busTarget req a with
    | .aperture n off => (s.apertureWrite req n off b, 0)
    | .rom => (s, 0)
    | .host => (s.hostWrite (s.cellOf req a) b, 0)
    | _ => if s.partBad a b.length then (s.busError Err.poison (a % 2 ^ 32), Err.poison) else (s.write a b, 0)

end Sys2Proof.Machine
end

