-- ==== Sys2Proof/Machine/DmaOps.lean ====
section
/-! DEFINITION. DMA channels as the other blocks see them (R372, R374). -/

namespace Sys2Proof.Machine

/-- A DMA channel. -/
def State.chan (s : State) (n : Nat) : DmaChan := sget {} s.dma.chans n

/-- Replace a DMA channel. -/
def State.setChan (s : State) (n : Nat) (x : DmaChan) : State := { s with dma := { s.dma with chans := sput {} s.dma.chans n x } }

/-- R372: the state of a channel: 0 IDLE, 1 FETCH, 2 RUN, 3 PAUSED, 4 ERROR. -/
def State.chanState (s : State) (n : Nat) : Nat := s.getF (Reg.DMA_CH_STAT_STATE n)

/-- R372: a channel enters a state. -/
def State.toChan (s : State) (n x : Nat) : State := s.setF (Reg.DMA_CH_STAT_STATE n) x

/-- R372: an event flag of a channel is latched: 0 DESC_DONE, 1 CHAIN_DONE, 2 STOPPED, 3 ABORTED, 4 ERROR. -/
def State.chanEvent (s : State) (n b : Nat) : State :=
  s.setF (Reg.DMA_CH_STAT_EVENTS n) (s.getF (Reg.DMA_CH_STAT_EVENTS n) ||| 2 ^ b)

/-- R372, R374: a channel that fetches, runs or is paused ends without write-back. -/
def State.dmaAbort (s : State) (n : Nat) : State :=
  let x := s.chanState n
  if x = 1 ∨ x = 2 ∨ x = 3 then ((s.setChan n {}).toChan n 0).chanEvent n 3 else s

end Sys2Proof.Machine
end

