-- ==== Sys2Proof/Machine/DmaCmd.lean ====
section
/-! DEFINITION. DMA channels: their commands (R365, R372, R374, R375) and the end of a descriptor. -/

namespace Sys2Proof.Machine

/-- R377: a code of the DMA page is recorded with the channel in bits 15:12. -/
def State.dmaErr (s : State) (n code : Nat) : State := s.err 0x20 code (n * 2 ^ 12)

/-- R38, R377: a refused write of a field of a channel is recorded with its page, requester and offset, and the channel in bits 15:12. -/
def State.dmaRefuse (s : State) (req : Req) (f : Field) (n code : Nat) : State := s.err 0x20 code (accessInfo 0x20 req f.off + n * 2 ^ 12)

/-- R365: the requester that a channel acts as. -/
def State.chanReq (s : State) (n : Nat) : Req :=
  let c := s.getF (Reg.DMA_CH_CFG_REQ n)
  if c = 0 then .trusted else if c = 4 then .pcie else .app

/-- R372: the address of the descriptor in progress. -/
def State.descAddr (s : State) (n : Nat) : Nat := s.get2 (Reg.DMA_CH_DESC_LO_ADDR n) (Reg.DMA_CH_DESC_HI_ADDR n)

/-- R372: a channel goes on to fetch a descriptor. -/
def State.toFetch (s : State) (n a : Nat) : State :=
  ((s.set2 (Reg.DMA_CH_DESC_LO_ADDR n) (Reg.DMA_CH_DESC_HI_ADDR n) a).setF (Reg.DMA_CH_DONE_BYTES n) 0).toChan n 1

/-! ## Descriptors -/

/-- R367: the stream bytes of a descriptor's source. -/
def descBytes (d : Bytes) : Nat := leAt d 0x10 4 * leAt d 0x14 4

/-- R367: the link of a descriptor. -/
def descNext (d : Bytes) : Nat := leAt d 0x38 8 % 2 ^ 40

/-- R367: does a descriptor ask for an interrupt, and for its write-back? -/
def descIrq (d : Bytes) : Bool := bitAt (leAt d 0x28 4) 4 == 1
@[inherit_doc descIrq] def descWb (d : Bytes) : Bool := bitAt (leAt d 0x28 4) 5 == 1

/-- R365, R367: STATUS and STAMP are written back, as the channel's requester may. -/
def State.writeBack (s : State) (n status : Nat) : State :=
  let bus := s.bus
  let t := (s.memWrite (s.chanReq n) (s.descAddr n + 0x2C) (leBytes 4 status ++ leBytes 4 s.stamp0)).1
  { t with bus := bus }

/-- R375: the S-fields of a channel. -/
def chanShadow (n : Nat) : List Field :=
  [Reg.DMA_CH_CTRL_PRIO n, Reg.DMA_CH_CTRL_HALT n, Reg.DMA_CH_NEXT_LO_ADDR n, Reg.DMA_CH_NEXT_HI_USE n, Reg.DMA_CH_NEXT_HI_ADDR n]

/-- R375: a channel takes its armed set. The answer is the link that replaces the descriptor's, where the set has USE = 1. -/
def State.takeShadow (s : State) (n : Nat) : State × Option Nat :=
  let r := shadowRegs 0x20 n
  if s.flag r.arm then
    let t := s.handOver 0x20 r (chanShadow n)
    (t, if t.getEff (Reg.DMA_CH_NEXT_HI_USE n) = 1 then
        some (t.getEff (Reg.DMA_CH_NEXT_LO_ADDR n) * 64 + t.getEff (Reg.DMA_CH_NEXT_HI_ADDR n) * 2 ^ 32) else none)
  else (s, none)

/-- R372: has the last byte of a channel's descriptor been written? -/
def State.descDone (s : State) (n : Nat) : Bool := s.chanState n == 2 && (s.chan n).pos == descBytes (s.chan n).desc

/-- R367, R374, R375: a descriptor is complete: it is written back and counted, and the channel takes its armed set. The answer is the NEXT in effect. -/
def State.descComplete (s : State) (n : Nat) : State × Nat :=
  let d := (s.chan n).desc
  let s := if descWb d then s.writeBack n (2 ^ 31 + min (2 ^ 24 - 1) (descBytes d / 256)) else s
  let s := s.count (Reg.DMA_CH_DESC_CNT_CNT n)
  let s := if descIrq d then s.chanEvent n 0 else s
  let (s, next) := s.takeShadow n
  (s, next.getD (descNext d))

/-- R372: the end of a channel's descriptor. -/
def State.descEnd (s : State) (n : Nat) : State :=
  let stop := (s.chan n).stop
  let (s, next) := s.descComplete n
  if next = 0 then ((s.setChan n {}).toChan n 0).chanEvent n 1
  else if stop ∨ s.getEff (Reg.DMA_CH_CTRL_HALT n) = 1 then ((s.setChan n { next := next }).toChan n 3).chanEvent n 2
  else (s.setChan n {}).toFetch n next

/-- R372: the last byte of a descriptor is written. -/
def execDmaDescriptorEnd (chan : Fin 16) (s : State) : Host.Outcome State Fault Refusal :=
  if s.descDone chan.val then .next (s.descEnd chan.val) else idle s

/-! ## Commands -/

/-- R365: only TRUSTED writes REQ, of a channel that is IDLE. -/
def execDmaCfgReqWrite (req : Req) (chan : Fin 16) (value : BitVec 3) (s : State) : Host.Outcome State Fault Refusal :=
  let n := chan.val
  .next (s.onField req (Reg.DMA_CH_CFG_REQ n) fun s =>
    if req ≠ .trusted then s.busError Err.privDeny (accessInfo 0x20 req (Reg.DMA_CH_CFG_REQ n).off)
    else if value ≠ 0 ∧ value ≠ 1 ∧ value ≠ 4 then s.dmaRefuse req (Reg.DMA_CH_CFG_REQ n) n Err.valueRefused
    else if s.chanState n ≠ 0 then s.dmaRefuse req (Reg.DMA_CH_CFG_REQ n) n 0x0104
    else s.setF (Reg.DMA_CH_CFG_REQ n) value.toNat)

/-- R372, R375: START. -/
def execDmaStart (req : Req) (chan : Fin 16) (s : State) : Host.Outcome State Fault Refusal :=
  let n := chan.val
  .next (s.onField req (Reg.DMA_CH_CMD_START n) fun s =>
    let first := s.getF (Reg.DMA_CH_FIRST_LO_ADDR n) * 64 + s.getF (Reg.DMA_CH_FIRST_HI_ADDR n) * 2 ^ 32
    if s.chanState n ≠ 0 ∨ first = 0 then s.dmaRefuse req (Reg.DMA_CH_CMD_START n) n 0x0104
    else ((s.takeShadow n).1.setChan n {}).toFetch n first)

/-- R372: STOP is noted in RUN and FETCH. -/
def execDmaStop (req : Req) (chan : Fin 16) (s : State) : Host.Outcome State Fault Refusal :=
  let n := chan.val
  .next (s.onField req (Reg.DMA_CH_CMD_STOP n) fun s =>
    if s.chanState n = 1 ∨ s.chanState n = 2 then s.setChan n { s.chan n with stop := true } else s)

/-- R372, R375: RESUME. -/
def execDmaResume (req : Req) (chan : Fin 16) (s : State) : Host.Outcome State Fault Refusal :=
  let n := chan.val
  .next (s.onField req (Reg.DMA_CH_CMD_RESUME n) fun s =>
    if s.chanState n ≠ 3 then s.dmaRefuse req (Reg.DMA_CH_CMD_RESUME n) n 0x0104
    else
      let (t, next) := s.takeShadow n
      let a := next.getD (s.chan n).next
      if a = 0 then ((t.setChan n {}).toChan n 0).chanEvent n 1 else (t.setChan n {}).toFetch n a)

/-- R374: ABORT. A descriptor whose last byte is written counts as complete. -/
def execDmaAbort (req : Req) (chan : Fin 16) (s : State) : Host.Outcome State Fault Refusal :=
  let n := chan.val
  .next (s.onField req (Reg.DMA_CH_CMD_ABORT n) fun s => (if s.descDone n then (s.descComplete n).1 else s).dmaAbort n)

/-- R372: CLEAR. -/
def execDmaClear (req : Req) (chan : Fin 16) (s : State) : Host.Outcome State Fault Refusal :=
  let n := chan.val
  .next (s.onField req (Reg.DMA_CH_CMD_CLEAR n) fun s =>
    if s.chanState n = 4 then (s.setChan n {}).toChan n 0 else s.dmaRefuse req (Reg.DMA_CH_CMD_CLEAR n) n 0x0104)

end Sys2Proof.Machine
end

