-- ==== Sys2Proof/Machine/PanelOps.lean ====
section
/-! DEFINITION. The panel's display and the result of a keypad entry (R198, R200). -/

namespace Sys2Proof.Machine

/-- The ASCII digits of a number, `n` of them, leading zeros included. -/
def decDigits (n v : Nat) : Bytes := ((List.range n).map (fun i => BitVec.ofNat 8 (0x30 + v / 10 ^ i % 10))).reverse

/-- The number of decimal digits of a value below 10^24, at least 1. -/
def decLen (v : Nat) : Nat := ((List.range 24).filter (fun i => decide (10 ^ i ≤ v))).length.max 1

/-- The ASCII decimal form of a number. -/
def decText (v : Nat) : Bytes := decDigits (decLen v) v

/-- A number of thousandths with its 3 decimals. -/
def milliText (v : Nat) : Bytes := decText (v / 1000) ++ ascii "." ++ decDigits 3 (v % 1000)

/-- R198: an energy in mWh as kWh with 3 decimals. -/
def kwhText (mwh : Nat) : Bytes := milliText (mwh / 1000)

/-- R198: the label of a selector; selectors beyond the table have none. -/
def selLabel (sel : Nat) : Bytes :=
  if sel ≤ 7 then ascii "IMP R" ++ decText sel
  else if sel ≤ 15 then ascii "EXP R" ++ decText (sel - 8)
  else if sel = 16 then ascii "IMP TOT"
  else if sel = 17 then ascii "EXP TOT"
  else if sel ≤ 21 then ascii "MD" ++ decText (sel - 18)
  else if sel = 22 then ascii "CREDIT"
  else if sel = 23 then ascii "TAMPER"
  else if sel = 24 then ascii "ADJ IMP"
  else if sel = 25 then ascii "ADJ EXP"
  else []

/-- R198: the sum of eight rate registers. -/
def State.rateTotal (s : State) (m base : Nat) : Nat := ((List.range 8).map (fun r => s.recF m (base + 8 * r) 8)).sum

/-- R198: the value of a selector for a meter. -/
def State.selValue (s : State) (m sel : Nat) : Bytes :=
  if !s.recValid m then ascii "NO METER"
  else if sel ≤ 7 then kwhText (s.recF m (0x120 + 8 * sel) 8)
  else if sel ≤ 15 then kwhText (s.recF m (0x160 + 8 * (sel - 8)) 8)
  else if sel = 16 then kwhText (s.rateTotal m 0x120)
  else if sel = 17 then kwhText (s.rateTotal m 0x160)
  else if sel ≤ 21 then
    milliText (s.recF m (0x1B0 + 8 * (sel - 18)) 4) ++
      (if bitAt (s.recF m 0x1D0 4) (sel - 18) = 1 then ascii "P" else [])
  else if sel = 22 then (if s.credit m < 0 then ascii "-" else []) ++ kwhText (s.credit m).natAbs
  else if sel = 23 then
    let t := bitsOf (s.recF m 0x380 4) 11 8
    (if bitAt t 0 = 1 then ascii "R" else []) ++ (if bitAt t 1 = 1 then ascii "B" else []) ++
      (if bitAt t 2 = 1 then ascii "N" else []) ++ (if bitAt t 3 = 1 then ascii "C" else [])
  else if sel = 24 then kwhText (s.recF m 0x1A0 8)
  else if sel = 25 then kwhText (s.recF m 0x1A8 8)
  else ascii "----"

/-- R198: a row of the display: COLS characters, padded with spaces. -/
def padRow (cols : Nat) (right : Bool) (b : Bytes) : Bytes :=
  let b := b.take cols
  let pad := List.replicate (cols - b.length) 0x20
  if right then pad ++ b else b ++ pad

/-- R198: send one row to the display: the row's command bytes, then its characters. -/
def State.sendRow (s : State) (k : Nat) (row : Bytes) : State :=
  let cmd := (leBytes 3 (s.getF (Reg.PANEL_ROW_CMD_BYTES k))).take (s.getF (Reg.PANEL_ROW_CMD_N k))
  { s with sent := (14, cmd ++ row) :: s.sent }

/-- R198: send rows to the display, the first as row 0. -/
def State.sendRows (s : State) (rows : List Bytes) : State :=
  rows.zipIdx.foldl (fun t e => t.sendRow e.2 e.1) { s with panel := { s.panel with rows := rows } }

/-- R198: show a label and a value. A one-row display begins with the label. -/
def State.show (s : State) (label value : Bytes) : State :=
  let cols := s.getF Reg.PANEL_DISP_CFG_COLS
  State.sendRows { s with panel := { s.panel with shown := (label, value), alt := false } }
    (if s.getF Reg.PANEL_DISP_CFG_ROWS = 1 then [padRow cols false label] else [padRow cols false label, padRow cols true value])

/-- R198: a one-row display turns to the value of what it shows, as it was read. -/
def State.showValue (s : State) : State :=
  State.sendRows { s with panel := { s.panel with alt := true } } [padRow (s.getF Reg.PANEL_DISP_CFG_COLS) true s.panel.shown.2]

/-- R198: row 0 of an item: "M", the 7-digit meter index and the selector's label. -/
def itemLabel (m sel : Nat) : Bytes := ascii "M" ++ decDigits 7 m ++ ascii " " ++ selLabel sel

/-- R196: the name of a token result. -/
def resultText (r : Nat) : Bytes :=
  match r with
  | 0 => ascii "ACCEPTED"
  | 1 => ascii "CHECK_FAIL"
  | 2 => ascii "NO_TOKEN_KEY"
  | 3 => ascii "TOKEN_SUSPECT"
  | 4 => ascii "CLASS_INVALID"
  | 5 => ascii "BELOW_FLOOR"
  | 6 => ascii "USED"
  | _ => ascii "TAMPER_BLOCK"

/-- R200: is token entry locked? -/
def State.panelLocked (s : State) : Bool := s.panel.lockUntil.isSome

/-- R200: a refused entry; the MAX-th in a row within 10 min locks the entry for MIN minutes, and "LOCKED" is shown once the result has been. -/
def State.panelRefused (s : State) : State :=
  let s := s.count Reg.PANEL_REFUSED_CNT_CNT
  let l := (s.tb1 :: s.panel.refusedAt).filter (fun t => decide (s.tb1 < t + 600 * nsPerS))
  if s.getF Reg.PANEL_LOCK_CFG_MAX ≤ l.length then
    let until_ := s.getF Reg.RTC_RTC_SEC_SEC + 60 * s.getF Reg.PANEL_LOCK_CFG_MIN
    let s := { s with panel := { s.panel with refusedAt := [], lockUntil := some until_, showLocked := true } }
    (s.setF Reg.PANEL_STAT_KP_STATE 3).irq Reg.PANEL_IRQ_LOCKOUT
  else { s with panel := { s.panel with refusedAt := l } }

/-- R200: the result of a keypad entry is shown for DWELL seconds, in row 0 on every display, and kept in `PANEL.TOKEN_LAST`. -/
def State.panelResult (s : State) (m r : Nat) : State :=
  let s := ((s.setF Reg.PANEL_TOKEN_LAST_METER m).setF Reg.PANEL_TOKEN_LAST_RESULT r).irq Reg.PANEL_IRQ_TOKEN_RESULT
  let s := s.show (resultText r) []
  let s := { s with panel := { s.panel with
    waiting := false, typed := [], nextAt := s.tb1 + s.getF Reg.PANEL_DWELL_S * nsPerS } }
  let s := if s.panelLocked then s else s.setF Reg.PANEL_STAT_KP_STATE 0
  if r = 0 then { s with panel := { s.panel with refusedAt := [] } } else s.panelRefused

end Sys2Proof.Machine
end

