-- ==== Sys2Proof/Machine/Path.lean ====
section
/-! DEFINITION. The stages of the path before Ladle: the header parser (R64–R67), the lookup (R137), Funnel (R68–R74, R112) and Cleaver (R72, R396, R400). -/

namespace Sys2Proof.Machine

/-! ## The header parser -/

/-- R286: the items of a batch: type and body, from a byte offset; none where the layout is broken. `n` items are left. -/
def batchItems (b : Bytes) : Nat → Nat → Option (List (Nat × Bytes) × Nat)
  | 0, o => some ([], o)
  | n + 1, o =>
    let t := leAt b o 1
    let len := beAt b (o + 2) 2
    if b.length < o + 4 + len ∨ (t = 1 ∧ 576 < len) ∨ (t = 2 ∧ len ≠ 64) ∨ (t ≠ 1 ∧ t ≠ 2) then none
    else match batchItems b n (o + 4 + len) with
      | some (r, e) => some ((t, slice b (o + 4) len) :: r, e)
      | none => none

/-- R286: the items of a KIND 0 datagram, or of a PCIe batch, and the offset at which they end. -/
def batchSplit (b : Bytes) : Option (List (Nat × Bytes) × Nat) :=
  let n := beAt b 2 2
  if leAt b 0 1 = 0xB1 ∧ leAt b 1 1 = 1 ∧ 1 ≤ n ∧ n ≤ 64 ∧ b.length ≤ 8972 then batchItems b n 8 else none

/-- R147: the learning messages of a batch go to the command path with ORIGIN DOWNSTREAM, where they wait for credit. -/
def State.takeLearning (s : State) (l : List Bytes) : State :=
  { s with dir := { s.dir with messages := s.dir.messages ++ l.map (fun b => splice b 2 [1]) } }.pumpMessages

/-- R19: the frames of a batch wait for the header parser; the queue credit of the batch returns as the last of them is read, at once where there is
none. -/
def State.waitParse (s : State) (port : Nat) (l : List Frame) : State :=
  let t : State := { s with path := { s.path with
    toParse := s.path.toParse ++ l.zipIdx.map (fun e => (port, e.1, e.2 + 1 == l.length)) } }
  if l.isEmpty then t.creditBack (portQ port) else t

/-- R67: the meter frames of a poisoned batch are dropped and counted. DESIGN CHOICE (log entry 82): the batch is dropped whole, and counts as the frames that its
layout gives, at least one. -/
def State.poisonBatch (s : State) (b : Bytes) : State :=
  s.count Reg.FUNL_PRE_ORDER_POISON_CNT_CNT (match batchSplit b with
    | some (items, _) => max 1 (items.filter (·.1 == 1)).length
    | none => 1)

/-- R288: begin to track a batch with its meter frames, and hand them to the header parser. `frames` are as received. -/
def State.trackBatch (s : State) (b : Batch) (frames : List Bytes) (port link : Nat) : State :=
  let k := s.uplink.batchNext
  let b := { b with arrived := s.tb1, frames := frames.map (fun r => (((parseFrame r).map (·.ivc)).getD 0, none)) }
  let s := { s with uplink := { s.uplink with batchNext := k + 1 } }
  let s := s.setBatch k (some b)
  s.waitParse port (frames.zipIdx.map (fun e => { raw := e.1, port := port, link := link, batch := some (k, e.2) }))

/-- R297: the items of a PCIe batch, which end where it ends: it carries no tag. -/
def pcieSplit (b : Bytes) : Option (List (Nat × Bytes)) :=
  match batchSplit b with
  | some (items, e) => if e = b.length then some items else none
  | none => none

/-- R297: a batch taken from the PCIe receive queue: its frames wait for the header parser. One that a reset of the link has orphaned, of kind 3, is not tracked (R298). -/
def State.splitPcie (s : State) (parity : Nat) : State :=
  let s := s.faultFront 0x178 parity
  match (s.queue 0x178).items.head? with
  | some { body := .batch conc kind buf tag b, poison := p } =>
    match s.deqHeld 0x178 with
    | none => s
    | some (_, s) =>
      match p, pcieSplit b with
      | 0, some items =>
        let s := s.takeLearning ((items.filter (·.1 == 2)).map (·.2))
        let frames := (items.filter (·.1 == 1)).map (·.2)
        if kind = 3 then s.waitParse 9 (frames.map (fun r => { raw := r, port := 9 }))
        else s.trackBatch { conc := conc, kind := kind, bseq := beAt b 4 4, buf := buf, tag := tag }
          frames 9 0
      | _, _ =>
        let s := (if p = 0 then s else s.poisonBatch b).creditBack 0x178
        if kind = 3 then s else { s with uplink := { s.uplink with completions := s.uplink.completions ++ [(buf, tag, 1, [])] } }
  | _ => s

/-- R64, R65, R67: what the header parser makes of a frame. -/
def State.parse (s : State) (f : Frame) (poison : Bool) : State :=
  if poison then s.dropPoisoned f
  else
    let p := parseFrame f.raw
    let f := { f with fmt := (p.map (·.fmt)).getD 0xFF, mid := (p.map (·.mid)).getD 0, ivc := (p.map (·.ivc)).getD 0 }
    if tooLong f.raw then s.exitFrame 2 Reg.FUNL_TOO_LONG_CNT_CNT Reg.FUNL_IRQ_TOO_LONG f
    else if p.isNone then s.exitFrame 1 Reg.FUNL_PARSE_FAIL_CNT_CNT Reg.FUNL_IRQ_PARSE_FAIL f
    else s.enq 0xA0 { body := .frame f }

/-- R64: the header parser reads a frame of a port: ports 0 to 7 from their receive queues, ports 8 and 9 from the batches that
have been split. It waits while the lookup queue has no credit. `parity` words of the item that it reads fail their check (R55). -/
def execParseFrame (port : Fin 10) (parity : Nat) (s : State) : Host.Outcome State Fault Refusal :=
  let p := port.val
  if !s.domOn .fabric ∨ !s.hasCredit 0xA0 then idle s
  else if p < 8 then
    let s := s.faultFront (portQ p) parity
    match (s.queue (portQ p)).items.head? with
    | some { body := .frame f, poison := b } =>
      match s.deq (portQ p) with
      | some (_, t) => .next (t.parse f (b != 0))
      | none => idle s
    | _ => idle s
  else
    let s := if p = 9 ∧ !s.path.toParse.any (fun e => e.1 == 9) then s.splitPcie parity else s
    match s.path.toParse.find? (fun e => e.1 == p) with
    | some (_, f, last) =>
      let s := { s with path := { s.path with toParse := s.path.toParse.erase (p, f, last) } }
      let s := if last then s.creditBack (portQ p) else s
      .next (s.parse f false)
    | none => .next s

/-! ## The lookup -/

/-- R66: a directory hit sends the frame to Funnel with its meter index. -/
def State.dispatch (s : State) (f : Frame) (a : Nat) : State :=
  s.enq 0x80 { body := .frame { f with meter := s.entryIndex a } }

/-- R137: the bucket read of a lookup. -/
def State.lookup (s : State) (f : Frame) : State :=
  let n := s.get2 Reg.DIR_LOOKUPS_LO_CNT Reg.DIR_LOOKUPS_HI_CNT + 1
  let s := s.set2 Reg.DIR_LOOKUPS_LO_CNT Reg.DIR_LOOKUPS_HI_CNT (min n (2 ^ 48 - 1))
  let s := s.readBucket 0 (s.idBucket 0 f.mid)
  match s.dirBucket f.mid with
  | .found a => s.dispatch f a
  | .miss => s.unknownMeter f
  | .search => { s with dir := { s.dir with search := some f } }

/-- R148: a lookup of a locked bucket waits in the park buffer. -/
def State.lookupOrPark (s : State) (f : Frame) : State :=
  if s.locked? 0 (s.idBucket 0 f.mid) then { s with dir := { s.dir with parked := s.dir.parked ++ [.lookup f] } }
  else s.lookup f

/-- R143, R144: the ordered table commands of this chip's own queue that have not completed. -/
def State.dirOpen (s : State) : List Bytes :=
  let own (o : Ordered) : Option Bytes := match o with
    | .dirCmd b 0 => some b
    | _ => none
  (s.flights.filterMap (fun e => match e.2 with
    | some fl => (match fl.body with | .ordered o => own o | .frame _ => none)
    | none => none)) ++
  ((s.queue 0x80).items.filterMap (fun i => match i.body with | .orderedItem o => own o | _ => none))

/-- R144: has the completion queue a credit for one more command? Those of the commands in flight are spoken for. -/
def State.dirCredit (s : State) : Bool := decide (s.dirOpen.length < (s.queue 0xA2).credits)

/-- R143, R144: is it the command queue's turn: the last item taken was a lookup, and a command can be taken? -/
def State.commandTurn (s : State) : Bool := s.dir.turn == 1 && !(s.queue 0xA1).items.isEmpty && s.dirCredit

/-- R137, R143: the table engine takes a lookup: one that a lock has let go, else the front of the lookup queue. It waits
while a lookup waits for the tag filter, the dispatch queue has no credit, the park buffer is full, or the DRAM cannot run (R9). `parity` words of the item fail
their check (R55). -/
def execDirLookup (parity : Nat) (s : State) : Host.Outcome State Fault Refusal :=
  if !s.flag Reg.DIR_CTRL_ENABLE ∨ s.dir.search.isSome ∨ !s.hasCredit 0x80 ∨ 16 ≤ s.dir.parked.length ∨
      (s.dir.released.isEmpty ∧ (s.commandTurn ∨ (s.queue 0xA0).items.isEmpty)) then idle s
  else s.withDram fun s => match s.dir.released with
  | .lookup f :: r => .next (({ s with dir := { s.dir with released := r } }).lookupOrPark f)
  | .command _ _ :: _ => idle s
  | [] =>
    let s := s.faultFront 0xA0 parity
    match (s.queue 0xA0).items.head? with
    | some { body := .frame f, poison := b } =>
      match s.deq 0xA0 with
      | some (_, t) =>
        let t := { t with dir := { t.dir with turn := 1 } }
        .next (if b ≠ 0 then t.dropPoisoned f else t.lookupOrPark f)
      | none => idle s
    | _ => idle s

/-- R137: the tag filter is searched for the lookup that waits for it. -/
def execOverflowSearch (s : State) : Host.Outcome State Fault Refusal :=
  match s.dir.search with
  | none => idle s
  | some f =>
    if !s.hasCredit 0x80 then idle s
    else
      let (s, r) := ({ s with dir := { s.dir with search := none } }).dirSearch f.mid
      .next (match r with
        | some a => s.dispatch f a
        | none => s.unknownMeter f)

/-! ## Funnel -/

/-- R9, R124: are the blocks that Funnel needs running: DIR, Cleaver with the Canister, the DRAM, and a lane in SERVICE? Once a fence has left no lane in SERVICE,
Funnel goes on ordering for the groups that it holds (R124). -/
def State.funnelServed (s : State) : Bool :=
  s.flag Reg.DIR_CTRL_ENABLE && s.unitsReady != 0 && s.domOn .mem && (!(s.lanesIn .service).isEmpty || !s.heldLanes.isEmpty)

/-- R68, R70, R143, R323, R325: has Funnel what it needs to give the next order number: ENABLE, no stopped durability, the order queue of a
twin, no handover under way, the partner's records all taken, a replay credit, and for an ordered item its reorder slot? -/
def State.mayOrder (s : State) (ordered : Bool) : Bool :=
  s.flag Reg.FUNL_CTRL_ENABLE && s.funnelServed && s.orders && !s.flag Reg.LADL_STAT_ACK_STOPPED && s.feedCredit &&
    s.twin.handover.isNone && s.twin.takeNext.isNone && s.replayCredit s.orderNext && (!ordered || s.slotFree s.orderNext { body := .ordered (.ckptMarker 0) })

/-- R310: the order record of an ordered item. -/
def State.feedOrdered (s : State) (n : Nat) (o : Ordered) : State := s.feed (.ordered n o)

/-- R68, R70, R104, R128: a frame takes the next order number, with its stamp, calendar generation, program bank and digest. -/
def State.orderFrame (s : State) (f : Frame) : State :=
  let was := s
  let n := s.orderNext
  let f := { f with stamp := s.stamp0, calgen := s.gen.id, bank := s.getF Reg.SIEV_PROG_SWITCH_BANK, digest := frameDigest f.raw }
  let s := s.setOrderNext (n + 1)
  let c := s.get2 Reg.FUNL_FRAMES_LO_CNT Reg.FUNL_FRAMES_HI_CNT + 1
  let s := s.set2 Reg.FUNL_FRAMES_LO_CNT Reg.FUNL_FRAMES_HI_CNT (min c (2 ^ 48 - 1))
  ((s.feed (.frame (s.frameRecord n f))).launch n f).noteHold was

/-- R195, R200, R313: a keypad entry that waits goes to the dispatch queue, or on a twin that is not ACTIVE to its partner, once that queue has credit. -/
def State.panelIn (s : State) : State :=
  match s.panel.due with
  | some (b, m) =>
    let q := if s.orders then 0x80 else 0x180
    let body : Payload := if s.orders then .orderedItem (.token b m 1) else .record (.forward 15 0 0 (leBytes 4 m ++ b))
    if s.flag Reg.BILL_CTRL_ENABLE && s.hasCredit q then
      { (s.enq q { body := body }).count Reg.PANEL_SUBMIT_CNT_CNT with panel := { s.panel with due := none } }
    else s
  | none => s

/-- R195: a software token that waits enters the dispatch queue once that has credit. -/
def State.tokenIn (s : State) : State :=
  match s.bill.token with
  | some (b, m) =>
    if s.hasCredit 0x80 then
      { s.enq 0x80 { body := .orderedItem (.token b m 2) } with bill := { s.bill with token := none } }
    else s
  | none => s

/-- R143, R156: an ordered item takes the next order number; a DEMAND marker is stamped with the calendar generation
(R184), and the GO bit of a software token clears (R195). DEDUCED (log entry 105): an INSERT takes its INSERT_TIME and a CLOSE its instant here, so that both twins and a
replay apply the same ones (R192, R312). -/
def State.orderItem (s : State) (o : Ordered) : State :=
  let was := s
  let n := s.orderNext
  let o : Ordered := match o with
    | .demandMarker m _ => .demandMarker m s.gen.id
    | .closeMarker b sk _ => .closeMarker b sk s.utcSec
    | .dirCmd b src => .dirCmd (if leAt b 0 1 = 1 then splice b 60 (leBytes 4 (s.getF Reg.RTC_RTC_SEC_SEC)) else b) src
    | o => o
  let s := s.setOrderNext (n + 1)
  let s := match o with
    | .token _ _ 2 => s.setF Reg.BILL_TOK_GO_GO 0
    | _ => s
  ((s.feedOrdered n o).launchOrdered n o).noteHold was

/-- R68, R92: Funnel, once enabled, takes an item from the dispatch queue; `parity` words of it fail their check (R55). A poisoned frame is dropped (R67). DESIGN CHOICE
(log entry 94): so is a poisoned ordered item, of which the rule says nothing; it is counted with the frames, and its command gets no completion. -/
def execFunnelOrder (parity : Nat) (s : State) : Host.Outcome State Fault Refusal :=
  let s := s.tokenIn.panelIn
  let s := if s.flag Reg.FUNL_CTRL_ENABLE then s.faultFront 0x80 parity else s
  match (if s.flag Reg.FUNL_CTRL_ENABLE then (s.queue 0x80).items.head? else none) with
  | some i =>
    match s.deq 0x80 with
    | none => idle s
    | some (_, t) =>
      match i.body with
      | .frame f =>
        if i.poison ≠ 0 then .next (t.dropPoisoned f)
        else if s.mayOrder false ∧ (s.mustHold s.orderNext f ∨ s.hasCredit (decryptQ (unitOf (s.laneOf f.meter)))) then
          .next (t.orderFrame f)
        else .next s
      | .orderedItem o =>
        if i.poison ≠ 0 then .next (t.count Reg.FUNL_PRE_ORDER_POISON_CNT_CNT)
        else if s.mayOrder true then .next (t.orderItem o)
        else .next s
      | _ => .next t
  | none => .next s

/-- R69: a write of `FUNL.ORDER_BASE_HI` with LOAD = 1. -/
def execOrderBaseLoad (req : Req) (data : Word) (s : State) : Host.Outcome State Fault Refusal :=
  .next (s.onAction req Reg.FUNL_ORDER_BASE_HI_LOAD data.toNat fun s =>
    if bitAt data.toNat 31 = 0 then s
    else if s.flag Reg.FUNL_CTRL_ENABLE then s.refuseAt req Reg.FUNL_ORDER_BASE_HI_LOAD Err.valueRefused
    else
      let s := s.setOrderNext (s.get2 Reg.FUNL_ORDER_BASE_LO_BASE Reg.FUNL_ORDER_BASE_HI_BASE)
      if (s.flightsWhere (fun _ _ => true)).isEmpty then s.advanceHead else s)

/-- R74: the seconds until a meter's next expected frame, from the schedule in its record. -/
def State.expectedIn (s : State) (m : Nat) : Nat :=
  let len := ilenSec (bitsOf (s.recF m 0x008 4) 10 8)
  let off := s.recF m 0x010 4
  (len - (s.utcSec + (len - off % len)) % len) % len

/-- R74, R98: Funnel loads a meter's record into the window of its lane ahead of its next expected frame, and keeps the copy for that frame. -/
def execRecordPrefetch (meter : BitVec 20) (s : State) : Host.Outcome State Fault Refusal :=
  let m := meter.toNat
  let n := s.laneOf m
  if s.flag Reg.FUNL_CTRL_PREFETCH_EN ∧ s.flag Reg.FUNL_CTRL_ENABLE ∧ s.recValid m ∧ s.laneState n = .service ∧
      (s.lane n).running = none ∧ s.expectedIn m * 1000000 ≤ s.getF Reg.FUNL_PREFETCH_LEAD_US + s.utcNs % nsPerS / 1000 then
    s.withDram fun s =>
    let s := s.eccCorrect (recordAddr m) 1024
    let copy := s.read (recordAddr m) 1024
    .next { (s.loadWindow n m copy) with prefetched := sput [] (s.prefetched.filter (fun e => s.laneOf e.1 != n)) m copy }
  else idle s

/-- R71: a frame whose replay slot cannot be read is discarded; the partner is told (R316). DESIGN CHOICE (log entry 75): the spec lists no outcome code for such a
frame of a batch, so the model gives it none and its batch times out (R288). -/
def State.replayLost (s : State) (n : Nat) (fl : Flight) : State :=
  let s := ((s.count Reg.FUNL_REPLAY_LOST_CNT_CNT).irq Reg.FUNL_IRQ_REPLAY_LOST).err 0x10 0x0100 (n % 65536)
  ((s.feed (.discard n 0)).freeReplay n).endFlight n fl

/-- R112, R124: Funnel runs a frame again from the replay buffer, under its own order number and slots, once no earlier frame of its meter waits, none that was given to
the same lane is to run again before it, and its lane takes frames. On a twin that does not order, an unreadable slot asks the active for the record
again (R316). -/
def execFrameRerun (order : BitVec 48) (s : State) : Host.Outcome State Fault Refusal :=
  let n := order.toNat
  match s.flight n with
  | none => idle s
  | some fl =>
    if !fl.rerun ∨ fl.stage ≠ .held ∨ s.mustHold n fl.frame ∨ !s.hasCredit (decryptQ (unitOf (s.laneOf fl.frame.meter))) then idle s
    else s.withDram fun s =>
    if s.anyBad (replayAddr n) fl.frame.raw.length then
      if s.orders then (if s.feedCredit then .next (s.replayLost n fl).release else idle s)
      else if s.hasCredit 0x180 then .next (s.enq 0x180 { body := .record (.resendReq n) })
      else idle s
    else .next (((s.eccCorrect (replayAddr n) fl.frame.raw.length).toDecrypt n fl).count Reg.FUNL_REPLAY_CNT_CNT).release

/-! ## Cleaver -/

/-- R64, R400: the key, IV, additional data and received tag of a frame under its meter's frame key. -/
structure FrameCipher where
  key : Bytes
  iv : Bytes
  aad : Bytes
  tag : Bytes
  deriving DecidableEq, Repr

/-- R400: what Cleaver uses for a frame. -/
def State.frameCipher (s : State) (f : Frame) (p : Parsed) (key : Bytes) : FrameCipher :=
  let b := f.raw
  if p.fmt = 0 then
    { key := key.take 16, iv := slice b 2 8 ++ slice b (p.auth + 1) 4, aad := slice b p.auth 1 ++ key.drop 16,
      tag := b.drop (b.length - 12) }
  else
    { key := key, iv := s.read (recordAddr f.meter + 0x00C) 4 ++ slice b 10 8, aad := slice b 0 18, tag := b.drop (b.length - 16) }

/-- R72, R400: the plaintext of a frame as its frame window shows it, and the verdict of its tag check. -/
def State.decrypt (s : State) (f : Frame) (key : Bytes) : Bytes × TagVerdict :=
  match parseFrame f.raw with
  | none => (f.raw, .fail)
  | some p =>
    let c := s.frameCipher f p key
    let ct := slice f.raw p.ptOff p.ptLen
    let good := (gcmTag c.key c.iv c.aad ct).take c.tag.length == c.tag
    (splice f.raw p.ptOff (gcmCrypt c.key c.iv ct), if good then .pass else .fail)

/-- The frame a Cleaver unit works on. -/
def State.unitRun (s : State) (u : Nat) : Option CleaverRun := sget none s.path.units u

/-- Replace the frame a Cleaver unit works on. -/
def State.setUnitRun (s : State) (u : Nat) (r : Option CleaverRun) : State :=
  { s with path := { s.path with units := sput none s.path.units u r } }

/-- R72, R73, R98, R396: a unit takes the frame at the front of its decrypt queue, and streams its plaintext to the frame's lane. A
frame without a key, poisoned, or of a lane that has been fenced meanwhile gives the lane nothing. -/
def State.cleave (s : State) (u k : Nat) (fl : Flight) (poison : Bool) : State :=
  let f := fl.frame
  let kek := s.kekOf f.meter
  let run (v : TagVerdict) (slot : Option Nat) : Option CleaverRun := some { order := k, verdict := v, slot := slot }
  if poison then (s.setUnitRun u (run .poison none)).setFlight k (some { fl with stage := .cleaver })
  else match s.frameKey f.meter u with
  | none => (s.setUnitRun u (run .noKey none)).setFlight k (some { fl with stage := .done })
  | some key =>
    let (plain, v) := s.decrypt f key
    let s := s.setUnitRun u (run v (some kek))
    if fl.rerun then s.setFlight k (some { fl with stage := .cleaver })
    else
      let copy := sget [] s.prefetched f.meter
      let s := { s with prefetched := sput [] s.prefetched f.meter [] }
      (s.enq (plainQ fl.lane) { body := .order k }).setFlight k
        (some { fl with stage := .lane, plain := plain, arrived := 0, poisonWords := [], copy := copy })

/-- R9, R72: a Cleaver unit takes a frame, and the credit that it returns lets a held frame go on; `parity` words of its queue item fail their check (R55). -/
def execCleaverDecrypt (unit : Fin 4) (parity : Nat) (s : State) : Host.Outcome State Fault Refusal :=
  let u := unit.val
  if bitAt s.unitsReady u = 0 ∨ (s.unitRun u).isSome ∨ (s.queue (decryptQ u)).items.isEmpty then idle s
  else s.withDram fun s =>
  let s := s.faultFront (decryptQ u) parity
  match (s.queue (decryptQ u)).items.head? with
  | some { body := .order k, poison := p } =>
    match s.flight k, s.deq (decryptQ u) with
    | some fl, some (_, t) =>
      if fl.stage ≠ .decrypt then .next t.release
      else if s.hasCredit (plainQ fl.lane) then .next (t.cleave u k fl (p != 0)).release
      else idle s
    | none, some (_, t) => .next t.release
    | _, none => idle s
  | _ => idle s

/-- R393, R396, R418: Cleaver counts the frames that it ends with a failed tag, without a key, and as revoked. -/
def State.countTag (s : State) : TagVerdict → State
  | .fail => s.count Reg.CIPH_TAG_FAIL_CNT_CNT
  | .noKey => s.count Reg.CIPH_NO_KEY_CNT_CNT
  | .revoked => s.count Reg.CIPH_REVOKED_CNT_CNT
  | .pass => s
  | .poison => s

/-- R72, R393: a unit ends its tag check. A frame whose KEK slot was erased meanwhile ends as REVOKED. Where the
frame's reorder slot holds its verdict already, POISON and REVOKED are sent, because they run the frame again (R112), and NO_KEY, with which the frame ends. -/
def execTagVerdict (unit : Fin 4) (s : State) : Host.Outcome State Fault Refusal :=
  let u := unit.val
  match s.unitRun u with
  | none => idle s
  | some r =>
    if !s.hasCredit 0x89 then idle s
    else
      let v := if r.revoked then .revoked else r.verdict
      let s := (s.setUnitRun u none).countTag v
      match s.flight r.order with
      | none => .next s
      | some fl =>
        let s := if fl.rerun ∧ fl.stage = .cleaver then s.setFlight r.order (some { fl with stage := .held }) else s
        if fl.tagV.isSome ∧ v ≠ .poison ∧ v ≠ .revoked ∧ v ≠ .noKey then .next s else .next (s.enq 0x89 { body := .tag r.order v })

end Sys2Proof.Machine
end

