-- ==== Sys2Proof/Machine/TwinOps.lean ====
section
/-! DEFINITION. What the path needs of twin operation: the causes that stop acknowledgements (R87), and a change of a twin's state (R306). -/

namespace Sys2Proof.Machine

/-! ## Acknowledgements -/

/-- R87: acknowledgements stop. -/
def State.stopAcks (s : State) : State :=
  if s.flag Reg.LADL_STAT_ACK_STOPPED then s else (s.setF Reg.LADL_STAT_ACK_STOPPED 1).irq Reg.LADL_IRQ_ACK_STOPPED

/-- R87, R322, R328: does a cause to stop acknowledgements hold: a read-only medium, a pair whose partner cannot confirm, or a fenced
twin? -/
def State.ackCause (s : State) : Bool :=
  s.flag Reg.FTL_STAT_READ_ONLY ||
    (s.flag Reg.TWIN_CTRL_ENABLE && s.flag Reg.TWIN_STAT_PAIRED && s.getF Reg.TWIN_STAT_ROLE == 4 &&
      bitAt (s.getF Reg.TWIN_STAT_PATHS) 0 == 0) || s.getF Reg.TWIN_STAT_ROLE == 6

/-- R87, R92: acknowledgements go on. -/
def State.resumeAcks (s : State) : State :=
  if s.flag Reg.LADL_STAT_ACK_STOPPED then ((s.setF Reg.LADL_STAT_ACK_STOPPED 0).noteHold s).releaseDups else s

/-- R87: acknowledgements stop while a cause holds and go on once none does. -/
def State.judgeAcks (s : State) : State := if s.ackCause then s.stopAcks else s.resumeAcks

/-! ## The state of a twin -/

/-- R306: the state of the twin: 0 OFF, 1 SEEKING, 2 SYNCING, 3 STANDBY, 4 ACTIVE, 5 DESYNCED, 6 FENCED. -/
def State.twinRole (s : State) : Nat := s.getF Reg.TWIN_STAT_ROLE

/-- R306: is this twin ACTIVE with a partner in STANDBY? -/
def State.paired (s : State) : Bool := s.flag Reg.TWIN_CTRL_ENABLE && s.twinRole == 4 && s.flag Reg.TWIN_STAT_PAIRED

/-- R18, R309: what waits for the partner and what it has not acknowledged is discarded and counted, and their credits return (log entry 110). -/
def State.dropLink (s : State) : State :=
  let n := (s.queue 0x180).held
  let s := ((s.discardAll 0x180).creditBack 0x180 n).count (Reg.qLost 0x180) n
  { s with twin := { s.twin with window := [] } }

/-- R323, R325: a port of a twin that takes over waits with its new role for the next beacon or timeslot instant of its schedule. A port without a schedule takes it at
once. -/
def State.roleDue (s : State) (k : Nat) : State :=
  let p := s.port k
  if 4 ≤ k then s.setPort k { p with roleAt := (s.ns3 / slotNs + 1) * slotNs }
  else if s.flag (Reg.PLC_CTRL_ACCESS k) then s
  else
    let b := if s.ns3 < p.next then p.next else s.beaconFrom k (s.ns3 + 1)
    s.setPort k { p with next := b, beaconAt := b - s.beaconPeriod k, roleAt := b }

/-- R306, R330: an ACTIVE twin gains or loses its partner. Records for a partner that is lost go. -/
def State.setPaired (s : State) (p : Bool) : State :=
  let was := s.paired
  let s := ((s.setF Reg.TWIN_STAT_PAIRED (if p then 1 else 0)).setF Reg.TWIN_STAT_ALONE (if p then 0 else 1)).setF Reg.TWIN_STAT_LEASE_HELD 1
  let s := if p then { s with twin := { s.twin with leaseEnd := s.tb1 + 10000000, asked := [] } }
    else if was then s.dropLink else s
  s.judgeAcks

/-- R310: the order number that an order record brings, if it brings one. -/
def Rec.brings : Rec → Option Nat
  | .frame b => some (leAt b 4 6)
  | .ordered n _ => some n
  | _ => none

/-- R323: a twin that takes over keeps every record that it has received: its next order number is above them, and they are taken first. -/
def State.keepRecords (s : State) : State :=
  match ((s.queue 0x181).items.filterMap (fun i => match i.body with
    | .record r => r.brings
    | _ => none)).getLast? with
  | some n => if precedes n s.orderNext then s else { s.setOrderNext (n + 1) with twin := { s.twin with takeNext := some s.orderNext } }
  | none => s

/-- R306, R407: the twin enters a state; on the way into SEEKING, DESYNCED, or SYNCING from FENCED or DESYNCED a meeting falls due. -/
def State.twinTo (s : State) (r : Nat) : State :=
  let was := s.twinRole
  if was = r then s
  else
    let meet := r == 0 || r == 1 || r == 5 || (r == 2 && (was == 5 || was == 6))
    let s := ((s.setF Reg.TWIN_STAT_ROLE r).setF (Reg.STAT_FENCED 0x30) (if r = 5 ∨ r = 6 then 1 else 0)).irq Reg.TWIN_IRQ_ROLE_CHANGE
    let s := s.event .twinRole 0x30 [BitVec.ofNat 8 was, BitVec.ofNat 8 r]
    let x := s.twin
    let s := { s with twin := { x with
      since := s.tb1, sync := if r = 4 then x.sync else none, snap := [], snapDue := false, copyDone := false, badUnits := 0, handover := none, bounds := [],
      caught := if r = 3 then x.caught else [], groupsDue := if r = 3 ∨ r = 4 then x.groupsDue else [],
      missing := [], takeNext := none, durDue := none,
      granted := none, asked := if r = 6 then x.asked else [], testDue := false, retryAt := none,
      pairedKey := x.pairedKey && !meet, meeting := if meet then [] else x.meeting } }
    let s := if r = 3 ∨ r = 4 then s else s.discardAll 0x181
    let s := if was = 3 ∧ r = 4 then ((List.range 8).foldl State.roleDue s).keepRecords else s
    if r = 4 then s.setPaired false
    else
      let s := ((s.setF Reg.TWIN_STAT_PAIRED 0).setF Reg.TWIN_STAT_ALONE 0).setF Reg.TWIN_STAT_LEASE_HELD 0
      (if r = 6 then s else s.dropLink).judgeAcks

/-- R306, R314, R316: the twin can follow no longer. -/
def State.desync (s : State) : State := if s.twinRole = 0 then s else s.twinTo 5

end Sys2Proof.Machine
end

