-- ==== Sys2Proof/Machine/UpdOps.lean ====
section
/-! DEFINITION. Manifests, parts and sessions as their users see them (R462–R467), the lifecycle that the fuses give (R448), its challenge (R451) and the operating time (R484). -/

namespace Sys2Proof.Machine

/-- R464: the part that a manifest names. -/
def manPart (m : Bytes) : Nat := leAt m 5 1

/-- R464: SECVER of a manifest. -/
def manSecver (m : Bytes) : Nat := leAt m 8 4

/-- R464: LENGTH of a manifest. -/
def manLength (m : Bytes) : Nat := leAt m 12 4

/-- R464: the number of data pieces, N. -/
def manN (m : Bytes) : Nat := leAt m 16 4

/-- R463: the number of hash pieces, H. -/
def manH (m : Bytes) : Nat := (manN m + 15) / 16

/-- R462: the largest image of a part, in bytes. -/
def partMax (p : Nat) : Nat := [192 * 1024, 48 * 1024, 24 * 1024 * 1024, 32 * 1024, 4 * 1024 * 1024].getD p 0

/-- R462: where the region of a part begins in FW_A and FW_B (log: the spec leaves the places to FORMAT). -/
def regionBase (p : Nat) : Nat := [0, 0x40000, 0x60000, 0x1900000, 0x1920000].getD p 0

/-- R464: BUILD of a manifest. -/
def manBuild (m : Bytes) : Nat := leAt m 20 8

/-- R466: the pieces of the session: 1 + H + N, 0 while IDLE. -/
def UpdState.total (u : UpdState) : Nat := if u.state = 0 then 0 else 1 + manH u.manifest + manN u.manifest

/-- R467: is a piece recorded in the bitmap? -/
def UpdState.has (u : UpdState) (i : Nat) : Bool := sget false u.bitmap i

/-- R467: the lowest piece not recorded; the number of pieces where all are. -/
def UpdState.missing (u : UpdState) : Nat := ((List.range u.total).find? (fun i => !u.has i)).getD u.total

/-- R469: a part. -/
def UpdState.part (u : UpdState) (p : Nat) : FwPart := sget {} u.parts p

/-- R464: the image of a part in a copy; its manifest is empty where none is installed. -/
def UpdState.image (u : UpdState) (p copy : Nat) : FwCopy := sget {} u.images (2 * p + copy)

/-- R467: the image that a part runs from, or holds as current. -/
def UpdState.current (u : UpdState) (p : Nat) : FwCopy := u.image p (u.part p).copy

/-- Replace a part. -/
def State.setPart (s : State) (p : Nat) (x : FwPart) : State := { s with upd := { s.upd with parts := sput {} s.upd.parts p x } }

/-- Replace an image. -/
def State.setImage (s : State) (p copy : Nat) (x : FwCopy) : State :=
  { s with upd := { s.upd with images := sput {} s.upd.images (2 * p + copy) x } }

/-- R448: the lifecycle that the fuses give. -/
def Otp.lifecycle (o : Otp) : Nat :=
  match o.lc1, o.lc2, o.lc3 with
  | false, false, false => 0
  | true, false, false => 1
  | true, true, false => 2
  | _, _, _ => 3

/-- R484: OPTIME in nanoseconds: it counts while main power is present. -/
def State.opNs (s : State) : Nat := s.evr.optBase * nsPerS + s.tb1

/-- R484: OPTIME in seconds. -/
def State.opTime (s : State) : Nat := s.opNs / nsPerS

/-- R451: 60 s of TB1, after which a challenge lapses. -/
def chalLife : Nat := 60 * nsPerS

/-- R451: is a challenge unspent, and not lapsed? -/
def State.chalValid (s : State) : Bool :=
  match s.sec.chalAt with
  | some t => decide (s.tb1 < t + chalLife)
  | none => false

end Sys2Proof.Machine
end

