-- ==== Sys2Proof/Machine/Replicas.lean ====
section
/-! DEFINITION. The replicated T-fields (R314): what their pages refuse and what taking a set of them does, on the twin that commits the transaction and on the one that follows it. -/

namespace Sys2Proof.Machine

/-- R314: the replicated T-fields, by page. -/
def replicatedFields : List Field :=
  [Reg.SIEV_PROG_SWITCH_BANK, Reg.SIEV_REC_WMASK_LINES, Reg.SIEV_FRAME_CYCLE_LIMIT_CYCLES, Reg.DIR_CTRL_ROUTE_EVICT, Reg.BAL_CTRL_ENABLE,
   Reg.BAL_CFG_ILEN, Reg.BAL_CFG_GRACE, Reg.BAL_BYPASS_CFG_RATIO, Reg.BAL_BYPASS_CFG_TRIP, Reg.BAL_BYPASS_MIN_MWH, Reg.BAL_AUDIT_CFG_R_MIN,
   Reg.BAL_AUDIT_CFG_VAR_MIN, Reg.BILL_CTRL_ENABLE, Reg.BILL_CLOSE_CFG_MODE, Reg.BILL_CLOSE_CFG_DAY, Reg.BILL_CLOSE_CFG_MIN,
   Reg.BILL_DEM_CFG_SUB, Reg.BILL_DEM_CFG_GRACE, Reg.BILL_CKPT_CFG_PERIOD, Reg.BILL_CKPT_CFG_SPREAD, Reg.BILL_TAMPER_CFG_CLASS,
   Reg.CAL_CTRL_ENABLE, Reg.CAL_SWAP_LO_SWAP, Reg.CAL_SWAP_HI_SWAP, Reg.RTC_LOCAL_OFFSET, Reg.RTC_LOCAL_DST]

/-- R314: is a field replicated? -/
def replicated (f : Field) : Bool := replicatedFields.contains f

/-- The value a field has once a set is taken. -/
def State.after (s : State) (l : List (Field × Nat)) (f : Field) : Nat :=
  match l.find? (fun e => e.1 == f) with
  | some e => e.2
  | none => s.getF f

/-- Does a set change a field? -/
def State.changes (s : State) (l : List (Field × Nat)) (f : Field) : Bool := s.after l f != s.getF f

/-- The refusal of a value: the page and the error code. -/
abbrev Refused := Option (Nat × Nat)

/-- R128, R475: the refusal of a change of program bank. -/
def State.bankRefused (s : State) (l : List (Field × Nat)) : Refused :=
  if !s.changes l Reg.SIEV_PROG_SWITCH_BANK then none
  else
    let b := s.after l Reg.SIEV_PROG_SWITCH_BANK
    let n := s.lanesIn .service
    if n.any (fun k => !s.loaded k b) then some (0x12, 0x0102)
    else if n.any (fun k => s.digestOf k b != s.digestOf (n.headD 0) b) then some (0x12, 0x0103)
    else if s.flag Reg.UPD_CTRL_RULES_LOCK ∧ (n.isEmpty ∨ n.any (fun k => s.digestOf k b != leAt (s.upd.current 3).manifest 36 8)) then some (0x12, 0x0103)
    else none

/-- R172, R181: the refusals of the interval lengths. -/
def State.lengthsRefused (s : State) (l : List (Field × Nat)) : Refused :=
  if l.any (fun e => e.1 == Reg.BAL_CFG_ILEN) && (s.flag Reg.BAL_CTRL_ENABLE || s.after l Reg.BAL_CTRL_ENABLE == 1) then some (0x15, Err.valueRefused)
  else if l.any (fun e => e.1 == Reg.BILL_DEM_CFG_SUB) &&
      ilenSec (s.after l Reg.BILL_DEM_CFG_SUB) % ilenSec (s.after l Reg.BAL_CFG_ILEN) != 0 then some (0x16, Err.valueRefused)
  else none

/-- R179: the calendars that a set changes over. -/
def swapOf (l : List (Field × Nat)) : Nat :=
  ((l.find? (fun e => e.1 == Reg.CAL_SWAP_LO_SWAP)).map (·.2)).getD 0 +
    ((l.find? (fun e => e.1 == Reg.CAL_SWAP_HI_SWAP)).map (·.2)).getD 0 * 2 ^ 32

/-- R178: does a set begin a calendar generation? -/
def State.newGen (s : State) (l : List (Field × Nat)) : Bool :=
  swapOf l != 0 || s.changes l Reg.RTC_LOCAL_OFFSET || s.changes l Reg.RTC_LOCAL_DST

/-- R179: the first calendar that a set names whose passive copy fails its check. -/
def State.failedSwap (s : State) (l : List (Field × Nat)) : Option Nat :=
  ((List.range 64).filter (fun c => bitAt (swapOf l) c == 1)).find? (fun c =>
    (calCheck (s.read (calCopyAddr c (1 - bitAt s.gen.active c)) 0x800)).isSome)

/-- R179, R202: a passive copy that fails its check leaves its bad entry, and the set is refused; where every copy passes, PASSED shows it. -/
def State.swapRefused (s : State) : Option Nat → State × Refused
  | some c => (s.calCheckPassive c, some (0x17, 0x0100))
  | none => ((s.setF Reg.CAL_CHECK_RESULT_PASSED 1).setF Reg.CAL_CHECK_RESULT_OFFSET 0, none)

/-- R179: the passive copies that a set names are checked. -/
def State.checkSwap (s : State) (l : List (Field × Nat)) : State × Refused :=
  if swapOf l = 0 then (s, none) else s.swapRefused (s.failedSwap l)

/-- R314: the checks of the replicated fields that depend on other state; they are made again at the trigger (R47). -/
def State.replicasRefused (s : State) (l : List (Field × Nat)) : Refused :=
  match s.bankRefused l, s.lengthsRefused l with
  | some r, _ => some r
  | none, some r => some r
  | none, none => if s.newGen l && s.genFull then some (0x17, 0x0101) else none

/-- R128: Funnel and the lanes take a new bank. -/
def State.takeBank (s : State) (b : Nat) : State :=
  let n := s.lanesIn .service
  let d := match n with
    | [] => 0
    | k :: _ => s.digestOf k b
  let s := (s.setF Reg.SIEV_PROG_SWITCH_BANK b).set2 Reg.SIEV_CUR_DIGEST_LO_DIGEST Reg.SIEV_CUR_DIGEST_HI_DIGEST d
  if s.oldBankInFlight then s.setF Reg.SIEV_STAT_SWITCH_PENDING 1
  else (s.setF Reg.SIEV_STAT_SWITCH_PENDING 0).irq Reg.SIEV_IRQ_SWITCHED

/-- R156: the balance engine is enabled at a UTC second: the next boundary is marked first, and its interval is the first. -/
def State.startBal (s : State) (at_ : Nat) : State :=
  let now := at_ / s.balLen
  { s.setF Reg.BAL_STAT_STARTED 0 with bal := { s.bal with mark := some (max (s.bal.mark.getD now) now), closedAny := false } }

/-- R184, R187: billing is enabled at a UTC second. -/
def State.startBill (s : State) (at_ : Nat) : State :=
  let dem := at_ / s.demLen
  let ck := at_ / (60 * s.getF Reg.BILL_CKPT_CFG_PERIOD)
  let s := if s.getF Reg.BILL_CLOSE_CFG_MODE < 2 then s.setF Reg.BILL_LAST_CLOSED_B (s.lastBoundary (s.billLocalAt at_).toNat) else s
  { s.setF Reg.BILL_PERIOD_START_SEC at_ with
    bill := { s.bill with firstDem := none, closeMark := none, skipTo := 0, demMark := some (max (s.bill.demMark.getD dem) dem), ckptMark := some ck } }

/-- R187, R189: CLOSE_CFG.MODE takes a new value: boundaries are numbered anew, and those passed by then are not closed (DEDUCED, log entry 106). -/
def State.newMode (s : State) (at_ : Nat) : State :=
  let m := if s.getF Reg.BILL_CLOSE_CFG_MODE < 2 then some (s.lastBoundary (s.billLocalAt at_).toNat) else none
  { s with bill := { s.bill with closeMark := m, skipTo := 0 } }

/-- R314: the pages take a set of replicated fields that was committed at a UTC second. -/
def State.takeReplicas (s : State) (l : List (Field × Nat)) (at_ : Nat) : State :=
  let gen := s.newGen l
  let bank := s.changes l Reg.SIEV_PROG_SWITCH_BANK
  let bal := !s.flag Reg.BAL_CTRL_ENABLE && s.after l Reg.BAL_CTRL_ENABLE == 1
  let bill := !s.flag Reg.BILL_CTRL_ENABLE && s.after l Reg.BILL_CTRL_ENABLE == 1
  let ilen := s.changes l Reg.BAL_CFG_ILEN
  let sub := s.changes l Reg.BILL_DEM_CFG_SUB
  let per := s.changes l Reg.BILL_CKPT_CFG_PERIOD
  let mode := s.changes l Reg.BILL_CLOSE_CFG_MODE
  let s := if gen then s.fireRtcDue else s
  let was := s
  let swap := swapOf l
  let s := l.foldl (fun t e =>
    if e.1 == Reg.SIEV_PROG_SWITCH_BANK || e.1 == Reg.CAL_SWAP_LO_SWAP || e.1 == Reg.CAL_SWAP_HI_SWAP then t
    else if e.1 == Reg.SIEV_REC_WMASK_LINES then t.setF e.1 (e.2 &&& 0xCFF0)
    else t.setF e.1 e.2) s
  let s := if bank then s.takeBank (1 - s.getF Reg.SIEV_PROG_SWITCH_BANK) else s
  let s := if ilen then { s with bal := { s.bal with mark := none } } else s
  let s := if bal then s.startBal at_ else s
  let s := if sub then { s with bill := { s.bill with demMark := some (at_ / s.demLen), firstDem := none } } else s
  let s := if per then { s with bill := { s.bill with ckptMark := some (at_ / (60 * s.getF Reg.BILL_CKPT_CFG_PERIOD)) } } else s
  let s := if bill then s.startBill at_ else if mode then s.newMode at_ else s
  if gen then (s.beginGen swap (signedOf 8 (s.getF Reg.RTC_LOCAL_OFFSET)) (s.getF Reg.RTC_LOCAL_DST) at_).rtcJump was else s

/-! ## The TXN record -/

/-- R310, R314: the registers of a set with the values they are to take, as a TXN record gives them. -/
def State.txnValues (s : State) (l : List (Field × Nat)) : List (Nat × Nat × Nat) :=
  let regs := ((l.filter (fun e => replicated e.1)).map (fun e => (e.1.page, e.1.off))).eraseDups
  regs.map (fun r => (r.1, r.2, ((replicatedFields.filter (fun f => f.page == r.1 && f.off == r.2)).map (fun f => s.after l f * 2 ^ f.lo)).sum))

/-- R312, R314: the values of a TXN record's item: those of its set, and two that say what else the commit used, which both twins and a replay need (DEDUCED, log entry
105): on page 0xFF, which does not exist, its UTC second; and where the set changes the program bank, the digest of that bank. -/
def State.txnItem (s : State) (l : List (Field × Nat)) : List (Nat × Nat × Nat) :=
  let d := s.digestOf ((s.lanesIn .service).headD 0) (s.after l Reg.SIEV_PROG_SWITCH_BANK)
  let bank := if s.changes l Reg.SIEV_PROG_SWITCH_BANK && !(s.lanesIn .service).isEmpty then
    [(Reg.SIEV_CUR_DIGEST_LO_DIGEST.page, Reg.SIEV_CUR_DIGEST_LO_DIGEST.off, d % 2 ^ 32), (Reg.SIEV_CUR_DIGEST_HI_DIGEST.page, Reg.SIEV_CUR_DIGEST_HI_DIGEST.off, d / 2 ^ 32)]
    else []
  s.txnValues l ++ bank ++ [(0xFF, 0, s.utcSec)]

/-- R312: the value that a TXN record's item gives for a register beside its set, if any. -/
def txnGiven (v : List (Nat × Nat × Nat)) (page off : Nat) : Option Nat := (v.find? (fun r => r.1 == page && r.2.1 == off)).map (·.2.2)

/-- R312, R314: the UTC second of a TXN record's commit. -/
def txnTime (v : List (Nat × Nat × Nat)) : Nat := (txnGiven v 0xFF 0).getD 0

/-- R314: does a TXN record give a bank digest that this twin's bank does not have? -/
def State.digestDiffers (s : State) (l : List (Field × Nat)) (v : List (Nat × Nat × Nat)) : Bool :=
  let d := s.digestOf ((s.lanesIn .service).headD 0) (s.after l Reg.SIEV_PROG_SWITCH_BANK)
  match txnGiven v Reg.SIEV_CUR_DIGEST_LO_DIGEST.page Reg.SIEV_CUR_DIGEST_LO_DIGEST.off,
      txnGiven v Reg.SIEV_CUR_DIGEST_HI_DIGEST.page Reg.SIEV_CUR_DIGEST_HI_DIGEST.off with
  | some lo, some hi => d != lo + hi * 2 ^ 32
  | _, _ => false

/-- R314: the fields and values that a TXN record names. -/
def txnFields (v : List (Nat × Nat × Nat)) : List (Field × Nat) :=
  v.flatMap (fun r => (replicatedFields.filter (fun f => f.page == r.1 && f.off == r.2.1)).map (fun f => (f, f.part r.2.2)))

/-- R314: a twin that follows commits the values of a TXN record at its order number; one that cannot enters DESYNCED. -/
def State.applyTxn (s : State) (v : List (Nat × Nat × Nat)) : State :=
  let l := txnFields v
  if l.any (fun e => !e.1.takes e.2) || (s.checkSwap l).2.isSome || (s.replicasRefused l).isSome || s.digestDiffers l v then
    s.desync.event .twinRole 0x30
  else (s.checkSwap l).1.takeReplicas l (txnTime v)

end Sys2Proof.Machine
end

