-- ==== Sys2Proof/Machine/Ladle.lean ====
section
/-! DEFINITION. Ladle: the verdicts of a frame (R76), the combination at the head (R77–R82), the effects (R108, R181, R182, R190), tokens (R194–R197), table and balance commands at their order number (R138–R147, R154, R155), and the discard of effects (R78). -/

namespace Sys2Proof.Machine

/-! ## Verdicts -/

/-- R76, R93: Ladle records the oldest lane verdict in its frame's reorder slot; one of a fenced lane is late, one outside the
window an error. DESIGN CHOICE (log entry 73): ERR_INFO of that error holds the reorder slot's number. -/
def execLadleLaneVerdict (s : State) : Host.Outcome State Fault Refusal :=
  match s.verdicts with
  | [] => idle s
  | v :: r =>
    let t := { s with verdicts := r }
    if v.late then .next (t.count Reg.LADL_LATE_VERDICT_CNT_CNT)
    else match t.flight v.order with
    | some fl => .next (t.setFlight v.order (some { fl with laneV := some v.v, crc := v.crc }))
    | none => .next (t.err 0x11 0x0100 (v.order % 4096))

/-- R72, R112: a frame runs again through Cleaver and its lane, and the later frames of its meter on that lane with it. -/
def State.rerunFrame (s : State) (n : Nat) : State :=
  match s.flight n with
  | none => s
  | some fl =>
    let s := s.squashFrom fl.lane n true
    s.setFlight n (some { fl.toRerun with stage := .held })

/-- R72, R76: Ladle reads a tag verdict. REVOKED and POISON run the frame again, a second REVOKED is NO_KEY; a poisoned
verdict is lost and the frame runs again (R89); `parity` words of the verdict fail their check (R55). -/
def execLadleTagVerdict (parity : Nat) (s : State) : Host.Outcome State Fault Refusal :=
  let s := s.faultFront 0x89 parity
  match (s.queue 0x89).items.head? with
  | some { body := .tag n v, poison := p } =>
    match s.deq 0x89, s.flight n with
    | some (_, t), some fl =>
      if p ≠ 0 ∨ v = .poison then .next (t.rerunFrame n)
      else if v = .revoked then
        if fl.revoked = 0 then .next ((t.setFlight n (some { fl with revoked := 1 })).rerunFrame n)
        else .next (t.setFlight n (some { fl with tagV := some .noKey }))
      else .next (t.setFlight n (some { fl with tagV := some v }))
    | some (_, t), none => .next (t.err 0x11 0x0100 (n % 4096))
    | none, _ => idle s
  | some _ => idle s
  | none => idle s

/-! ## Archive and journal entries -/

/-- R349: an entry: order, meter, kind, port, plaintext length, effect length, reason, link, counter, digest, body; padded to 8
bytes. -/
def archiveEntry (order meter kind : Nat) (f : Frame) (ptLen reason : Nat) (body : Bytes) : Bytes :=
  let link := if f.port = 8 then f.link % 64 else f.link
  let b := leBytes 6 order ++ leBytes 3 (meter % 2 ^ 20 + kind * 2 ^ 20) ++ leBytes 1 (f.port % 16) ++
    leBytes 4 (ptLen % 1024 + (body.length - ptLen) % 1024 * 1024 + reason % 4096 * 2 ^ 20) ++ leBytes 2 link ++ leBytes 8 f.ivc ++
    leBytes 8 f.digest ++ body
  b ++ List.replicate ((8 - b.length % 8) % 8) 0

/-- R350: an effect as a FRAME entry stores it. -/
def effectCompact (e : Effect) : Bytes :=
  let head := leBytes 2 (e.kind % 16 + e.sub % 4 * 16 + e.off % 1024 * 64)
  head ++ (match e.kind with
    | 1 => leBytes 4 e.w1
    | 2 | 3 => leBytes 4 e.w1 ++ leBytes 4 e.w2
    | 4 => if e.sub = 2 then leBytes 4 e.w1 ++ leBytes 4 e.w2 else leBytes 4 e.w1 ++ leBytes 4 e.w2 ++ leBytes 4 e.w3
    | _ => leBytes 2 e.w1 ++ leBytes 4 e.w2)

/-- R349: a journal entry of an ordered item, or of a token; it carries no port, counter or digest. -/
def journalEntry (order meter kind : Nat) (body : Bytes) : Bytes := archiveEntry order meter kind {} body.length 0 body

/-- R192, R349: the journal entry of a marker: its kind and number, and in header fields that no marker uses what a replay needs (log entry 84): in IVC the UTC second
at which Ladle applied it, in LINK the calendar generation of a DEMAND, in REASON bit 0 the SKIPPED_TIME of a CLOSE. -/
def markerEntry (order kind k at_ gen : Nat) (skipped : Bool) : Bytes :=
  archiveEntry order 0xFFFFF 3 { ivc := at_, link := gen } 5 (if skipped then 1 else 0) (leBytes 1 kind ++ leBytes 4 k)

/-- R82: place a commit item: in the commit queue and in the shadow ring on one edge. -/
def State.placeCommit (s : State) (i : CommitItem) : State :=
  let s := s.enq 0x118 { body := .commit i }
  { s with path := { s.path with
    shadow := s.path.shadow ++ [.commit i], count := s.path.count + 1, lastItem := i.order } }

/-! ## Discarded effects -/

/-- R106: the entries of a committed frame are freed from the oldest position. -/
def Lane.retireEffects (l : Lane) (order : Nat) : Lane :=
  let lead := (l.effects.takeWhile (fun e => e.order == order)).length
  { l with effects := l.effects.filter (fun e => e.order != order), ring := (l.ring + lead) % 256 }

/-- R78, R109: the effects of a frame with lane verdict ACCEPT are discarded and its dependants squashed. -/
def State.discardEffects (s : State) (n : Nat) (fl : Flight) : State :=
  if fl.laneV = some .accept then
    let deps := s.dependants fl.lane n fl
    let s := s.squashFrom fl.lane n false
    let s := s.count Reg.LADL_SQUASH_CNT_CNT deps.length
    s.setLaneFx fl.lane ((s.lane fl.lane).retireEffects n)
  else s

/-! ## Security outcomes -/

/-- R81: AUTH_FAIL and REPLAY_REJECT: counted since the last record of the kind, with at most one record a second. DESIGN CHOICE (log entry 76): what is counted
within a second after a record is reported by the first such outcome after that second. -/
def State.secEvent (s : State) (m : Nat) (replay : Bool) : State :=
  let s := (s.setF Reg.LADL_LAST_SEC_EVT_KIND (if replay then 1 else 0)).setF Reg.LADL_LAST_SEC_EVT_METER m
  let cnt := (if replay then s.path.rejCnt else s.path.authCnt) + 1
  let next := if replay then s.path.rejNext else s.path.authNext
  let data := leBytes 4 cnt ++ leBytes 4 m
  let fire := decide (next ≤ s.tb1)
  let s := if fire then s.event (if replay then .replayReject else .authFail) 0x11 data else s
  let cnt' := if fire then 0 else cnt
  let next' := if fire then s.tb1 + nsPerS else next
  if replay then { s with path := { s.path with rejCnt := cnt', rejNext := next' } }
  else { s with path := { s.path with authCnt := cnt', authNext := next' } }

/-- R81: a frame that ends without a record change, an entry or an acknowledgement of its own. -/
def State.dropAtHead (s : State) (n : Nat) (fl : Flight) (o : FrameOutcome) : State :=
  let m := fl.frame.meter
  let s := s.discardEffects n fl
  let s := match o with
    | .authFail => ((s.count Reg.LADL_AUTH_FAIL_CNT_CNT).irq Reg.LADL_IRQ_AUTH_FAIL).secEvent m false
    | .replayReject => ((s.count Reg.LADL_REPLAY_REJECT_CNT_CNT).irq Reg.LADL_IRQ_REPLAY_REJECT).secEvent m true
    | _ => (s.count Reg.LADL_NO_KEY_CNT_CNT).irq Reg.LADL_IRQ_NO_KEY
  ((s.batchOutcome fl.frame.batch o).freeReplay n).endFlight n fl

/-! ## Tokens -/

/-- R194: the fields of a decrypted token. -/
structure Token where
  cls : Nat
  ident : Nat
  amount : Nat
  checkOk : Bool
  deriving DecidableEq, Repr

/-- R194: the fields of 20 decimal digits. -/
def tokenOf (d : List Nat) : Token :=
  let num (a n : Nat) := ((d.drop a).take n).foldl (fun x y => x * 10 + y) 0
  let check := crc32c ((d.take 15).map (fun x => BitVec.ofNat 8 (0x30 + x))) % 100000
  { cls := num 0 1, ident := num 1 8, amount := num 9 6, checkOk := check == num 15 5 }

/-- R195: a token as Cleaver decrypts it: none where the meter has no token key, or where the entry holds other than 20
digits. -/
def State.decryptToken (s : State) (m : Nat) (digits : Bytes) : Option Token :=
  (s.tokenKey m (unitOf (s.laneOf m))).map (fun key =>
    let d := digits.map (fun b => b.toNat - 0x30)
    if digits.length = 20 ∧ digits.all (fun b => decide (0x30 ≤ b.toNat) && decide (b.toNat ≤ 0x39)) then
      tokenOf (ff1Dec key (beBytes 8 (s.recF m 0 8)) d)
    else { cls := 0, ident := 0, amount := 0, checkOk := false })

/-- R141, R148: does an insertion into the ledger need a locked bucket: its own, or the directory bucket of the meter whose token it evicts? -/
def State.ledgerLocked (s : State) (id tok : Nat) : Bool :=
  s.locked? 2 (s.tokenBucket id tok) || (match s.evictedId (s.tokenBucket id tok) with
    | some old => s.locked? 0 (s.idBucket 0 old)
    | none => false)

/-- R148: is a bucket that a token needs locked? The commit pipeline then waits. -/
def State.tokenLocked (s : State) (m : Nat) (digits : Bytes) : Bool :=
  match s.decryptToken m digits with
  | some t => s.ledgerLocked (s.recF m 0 8) t.ident
  | none => false

/-- R148: does a frame carry a token whose ledger bucket is locked? -/
def State.frameTokenLocked (s : State) (fl : Flight) : Bool :=
  fl.frame.fmt == 1 && leAt fl.frame.raw 1 1 == 4 &&
    s.tokenLocked fl.frame.meter (slice (slice fl.plain fl.ptOff fl.ptLen) 4 20)

/-- R196: the checks of a token, in order; 0 when all are met. -/
def State.tokenResult (s : State) (m : Nat) (t : Option Token) : Nat :=
  match t with
  | none => 2
  | some t =>
    let id := s.recF m 0 8
    let prepay := bitAt (s.recF m 0x100 4) 7 == 1
    let latched := bitsOf (s.recF m 0x380 4) 11 8
    if !t.checkOk then 1
    else if s.header 2 (s.tokenBucket id t.ident) 54 54 = 1 then 3
    else if 2 < t.cls ∨ (t.cls ≤ 1 ∧ !prepay) then 4
    else if t.ident ≤ s.recF m 0x118 4 then 5
    else if s.ledgerHas id t.ident then 6
    else if t.cls ≠ 2 ∧ (List.range 4).any (fun c => bitAt latched c == 1 && bitAt (s.tamperCfg c) 1 == 1) then 7
    else 0

/-- R194: the effect of an accepted token. -/
def State.tokenEffect (s : State) (m order : Nat) (t : Token) : State :=
  match t.cls with
  | 0 => s.setCredit m order (min (2 ^ 63 - 1) (s.credit m + t.amount * 100000))
  | 1 => s.setCredit m order 0
  | _ =>
    let mask := t.amount % 16
    let was := s.recF m 0x380 4
    let w := was - (was &&& (mask + mask * 256))
    let w := if bitAt mask 1 = 1 then withBits w 12 12 0 else w
    let s := s.setRec m 0x380 4 w
    let r := classMask (classesOf (mask &&& was) (fun c => bitAt (s.tamperCfg c) 0 == 1))
    if r = 0 then s else s.billReport 5 0 m order [BitVec.ofNat 8 r]

/-- R195–R196: the sources of a token, as the report codes them (log entry 23): 0 METER, 1 PANEL, 2 SOFTWARE. -/
def tokenReport (t : Option Token) (src : Nat) : Bytes :=
  let t := t.getD { cls := 0, ident := 0, amount := 0, checkOk := false }
  leBytes 4 t.ident ++ leBytes 4 t.cls ++ leBytes 4 t.amount ++ leBytes 4 src

/-- R349: the body of a TOKEN entry. -/
def tokenBody (t : Option Token) (r src : Nat) : Bytes :=
  let t := t.getD { cls := 0, ident := 0, amount := 0, checkOk := false }
  leBytes 1 r ++ leBytes 1 t.cls ++ leBytes 4 t.ident ++ leBytes 4 t.amount ++ leBytes 1 src

/-- R196, R201: the result of a token is counted, shown in LAST_TOKEN and reported. -/
def State.tokenTold (s : State) (m order r src : Nat) (t : Option Token) : State :=
  let s := if r = 0 then s.count Reg.BILL_TOKEN_OK_CNT_CNT
    else (s.count Reg.BILL_TOKEN_REFUSED_CNT_CNT).irq Reg.BILL_IRQ_TOKEN_REFUSED
  let s := (s.setF Reg.BILL_LAST_TOKEN_METER m).setF Reg.BILL_LAST_TOKEN_RESULT r
  s.billReport 1 r m order (tokenReport t src)

/-- R196: a token at the head: the checks, its effect with the ledger entry, the counters and the report; the answer is the
body of its journal entry. -/
def State.applyToken (s : State) (m order src : Nat) (digits : Bytes) : State × Bytes :=
  let id := s.recF m 0 8
  let t := s.decryptToken m digits
  let s := match t with
    | some t => s.readBucket 2 (s.tokenBucket id t.ident)
    | none => s
  let r := s.tokenResult m t
  let s := match t with
    | some t =>
      if r = 0 then ((s.touch m).tokenEffect m order t).ledgerInsert id t.ident t.cls t.amount order else s
    | none => s
  let s := s.tokenTold m order r src t
  (if src = 1 && s.panel.waiting then s.panelResult m r else s, tokenBody t r src)

/-! ## Committed effects -/

/-- R190: the READ_TIME that a frame's effects write, the last one where there are several. -/
def readTimeOf (es : List Effect) : Option Nat :=
  (es.filter (fun e => e.kind == 1 && e.off == 0x104)).getLast?.map (·.w1)

/-- R190: do a frame's effects write a READ_TIME before a second? -/
def readsBefore (es : List Effect) (start : Nat) : Bool := es.any (fun e => e.kind == 1 && e.off == 0x104 && decide (e.w1 < start))

/-- R118: a report item goes to the lane event queue, or is dropped and counted. -/
def State.laneEvent (s : State) (m order code data : Nat) : State :=
  let item := leBytes 4 m ++ leBytes 4 order ++ leBytes 2 (order / 2 ^ 32) ++ leBytes 2 code ++ leBytes 4 data
  if s.hasCredit 0x90 then s.enq 0x90 { body := .bytes item }
  else (s.count Reg.SIEV_EVT_DROP_CNT_CNT).irq Reg.SIEV_IRQ_EVT_DROP

/-- R103, R118, R153, R181, R182, R190, R197: one effect of a committed frame. -/
def State.commitEffect (s : State) (m order : Nat) (late : Bool) (time : Option Nat) (e : Effect) : State :=
  match e.kind with
  | 2 =>
    let s := s.applyEffect (recordAddr m) { e with off := redirect late e.off }
    s.debit m order e.off (e.w1 + e.w2 * 2 ^ 32)
  | 4 =>
    let v := if e.sub = 2 then e.w2 else e.w2 + e.w3 * 2 ^ 32
    let s := s.balPost m e.w1 e.sub v
    if e.sub = 2 then s else s.demPost m e.w1 v (e.sub == 1)
  | 5 =>
    let s := s.laneEvent m order e.w1 e.w2
    if 0xF000 ≤ e.w1 ∧ e.w1 ≤ 0xF0FF then s.billEvent m order e.w1 e.w2 time else s
  | _ => s.applyEffect (recordAddr m) e

/-- R108, R190: the effects of a committed frame, in program order. -/
def State.commitEffects (s : State) (m order : Nat) (es : List Effect) : State :=
  let time := readTimeOf es
  let late := s.flag Reg.BILL_CTRL_ENABLE && readsBefore es (s.getF Reg.BILL_PERIOD_START_SEC)
  let s := if late then (s.setRec m 0x1E4 4 (s.recF m 0x1E4 4 ||| 1)).count Reg.BILL_LATE_CNT_CNT else s
  es.foldl (fun t e => t.commitEffect m order late time e) s

/-! ## Last-acknowledgement state and routes -/

/-- R83: the sequence of the last closed group. -/
def State.groupSeq (s : State) : Nat := s.get2 Reg.LADL_GROUP_SEQ_LO_SEQ Reg.LADL_GROUP_SEQ_HI_SEQ

/-- R77: the counter check of a frame against its record: 0 NEW, 1 REPEAT, 2 STALE. -/
def State.counterCheck (s : State) (f : Frame) : Nat :=
  let la := s.recF f.meter 0x078 8
  let la := if f.fmt = 0 then la % 2 ^ 32 else la
  if bitAt (s.recF f.meter 0x088 8) 62 = 1 ∨ la < f.ivc then 0
  else if la = f.ivc ∧ s.recF f.meter 0x080 8 = f.digest then 1
  else 2

/-- R77, R132: the last-acknowledgement state of a committed frame. -/
def State.setLastAck (s : State) (f : Frame) (order : Nat) (quar : Bool) : State :=
  let m := f.meter
  let g := (s.groupSeq + 1) % 2 ^ 48 + (if quar then 2 ^ 48 else 0)
  (((s.setRec m 0x078 8 f.ivc).setRec m 0x080 8 f.digest).setRec m 0x088 8 g).setRec m 0x090 6 order

/-- R148: is the route bucket of a frame locked? -/
def State.routeLocked (s : State) (f : Frame) : Bool := s.locked? 1 (s.idBucket 1 f.mid)

/-- R148: can the commit pipeline learn a route: its bucket is not locked, or the park buffer has a place? -/
def State.learnRoom (s : State) (f : Frame) : Bool :=
  !s.routeLocked f || decide (s.dir.learns.length < 16)

/-- R139, R148: the table engine learns a frame's route; where its bucket is locked the learning waits. -/
def State.learn (s : State) (f : Frame) (order : Nat) : State :=
  if s.routeLocked f then { s with dir := { s.dir with learns := s.dir.learns ++ [{ f := f, order := order }] } }
  else (s.learnRoute f order).1

/-- R85: the acknowledgement item of a frame. -/
def Flight.ackOf (fl : Flight) (order : Nat) (o : FrameOutcome) : Ack :=
  let f := fl.frame
  { meter := f.meter, ivc := f.ivc, outcome := o, order := order, fmt := f.fmt, version := fl.version, port := f.port,
    link := f.link, stamp := f.stamp, batch := f.batch }

/-- R80, R349: the ROUTE entry of a DUPLICATE that changed its meter's route. -/
def State.routeEntry (s : State) (f : Frame) (order : Nat) : State :=
  s.placeCommit { order := order, entry := archiveEntry order f.meter 9 f 0 0 [] }

/-- R80, R85: the acknowledgement item of a DUPLICATE: the counter, order number and outcome of the frame it repeats, from the record's last-acknowledgement state;
format, VERSION and port of the DUPLICATE itself. DEDUCED (log entry 70): the item's outcome is that of the frame repeated, while a batch lists the DUPLICATE under its
own code (R86). -/
def State.dupAck (s : State) (n : Nat) (fl : Flight) : Ack :=
  let m := fl.frame.meter
  { fl.ackOf n (if bitAt (s.recF m 0x088 8) 48 = 1 then .quarantined else .committed) with
    ivc := s.recF m 0x078 8, order := s.recF m 0x090 6, dup := true }

/-- R80, R87: a DUPLICATE: its acknowledgement goes out at once, or with the group of the frame it repeats; while acknowledgements are stopped it waits too. -/
def State.duplicate (s : State) (n : Nat) (fl : Flight) : State :=
  let f := fl.frame
  let s := s.count Reg.LADL_DUP_CNT_CNT
  let s := s.discardEffects n fl
  let (s, changed) := s.learnRoute f n
  let s := if changed then s.routeEntry f n else s
  let g := s.recF f.meter 0x088 6
  let a := s.dupAck n fl
  let s := if g ≤ s.durableSeq ∧ !s.flag Reg.LADL_STAT_ACK_STOPPED then s.acknowledge a a.order
    else { s with path := { s.path with dupAcks := s.path.dupAcks ++ [(g, a)] } }
  (s.freeReplay n).endFlight n fl

/-- R77, R82: a frame is COMMITTED: effects, last-acknowledgement state, route, token, archive entry. -/
def State.commitFrame (s : State) (n : Nat) (fl : Flight) : State :=
  let f := fl.frame
  let m := f.meter
  let es := (s.lane fl.lane).effectsOf n
  let s := (s.touch m).commitEffects m n es
  let s := (s.setLastAck f n false).learn f n
  let pt := slice fl.plain fl.ptOff fl.ptLen
  let entry := archiveEntry n m 0 f fl.ptLen 0 (pt ++ es.flatMap effectCompact)
  let (s, tok) := if f.fmt = 1 ∧ leAt f.raw 1 1 = 4 ∧ s.flag Reg.BILL_CTRL_ENABLE then
      let (s, b) := s.applyToken m n 0 (slice pt 4 20)
      (s, journalEntry n m 4 b)
    else (s, [])
  let c := s.get2 Reg.LADL_COMMITTED_LO_CNT Reg.LADL_COMMITTED_HI_CNT + 1
  let s := s.set2 Reg.LADL_COMMITTED_LO_CNT Reg.LADL_COMMITTED_HI_CNT (min c (2 ^ 48 - 1))
  let s := s.setLaneFx fl.lane ((s.lane fl.lane).retireEffects n)
  (s.placeCommit { order := n, entry := entry ++ tok, ack := some (fl.ackOf n .committed) }).endFlight n fl

/-- R77: a frame is QUARANTINED with a reason: kept durably, with no effect. -/
def State.quarantineFrame (s : State) (n : Nat) (fl : Flight) (reason : Nat) : State :=
  let f := fl.frame
  let s := s.touch f.meter
  let s := (s.setLastAck f n true).learn f n
  let entry := archiveEntry n f.meter 1 f fl.ptLen reason (slice fl.plain fl.ptOff fl.ptLen)
  let s := s.count Reg.LADL_QUARANTINE_CNT_CNT
  (s.placeCommit { order := n, entry := entry, ack := some (fl.ackOf n .quarantined) }).endFlight n fl

/-- R77: does the counter check overrule the lane verdict? -/
def mismatch (check : Nat) (v : Option LaneVerdict) : Bool :=
  match check, v with
  | 0, some .duplicate => true
  | 0, some .replayReject => true
  | 0, _ => false
  | 1, v => v != some .duplicate
  | _, v => v != some .replayReject

/-- R108: the effects of an ACCEPT frame do not match their CRC: the lane is fenced and the frame runs again elsewhere. -/
def State.csumFence (s : State) (fl : Flight) : State := s.fenceLane fl.lane Cause.effectCsum 0

/-- R77, R108: the outcome of a frame at the head with both its verdicts; none where its effects are not as the lane wrote them. -/
def State.headOutcome (s : State) (n : Nat) (fl : Flight) (tag : TagVerdict) (intact : Bool) : Option FrameOutcome :=
  match tag with
  | .pass =>
    match s.counterCheck fl.frame, fl.laneV with
    | 1, _ => some .duplicate
    | 2, _ => some .replayReject
    | _, some .accept => if intact && effectsCrc ((s.lane fl.lane).effectsOf n) == fl.crc then some .committed else none
    | _, _ => some .quarantined
  | .fail => some .authFail
  | _ => some .noKey

/-- R19, R76, R148: has Ladle what the outcome of the head takes: the commit queue's credit where it places an item, the ledger bucket of a committed token, a place for
a route that has to wait? DESIGN CHOICE (log entry 103): the learning of a DUPLICATE waits at the head, not in the park buffer, because its ROUTE entry is placed in
order. -/
def State.headReady (s : State) (n : Nat) (fl : Flight) (tag : TagVerdict) (intact : Bool) : Bool :=
  match s.headOutcome n fl tag intact with
  | some .committed => s.hasCredit 0x118 && s.learnRoom fl.frame && !(s.flag Reg.BILL_CTRL_ENABLE && s.frameTokenLocked fl)
  | some .quarantined => s.hasCredit 0x118 && s.learnRoom fl.frame
  | some .duplicate => !s.routeLocked fl.frame && (s.hasCredit 0x118 || !s.routeNews fl.frame n)
  | _ => true

/-- R77: a frame at the head with both its verdicts. -/
def State.decideFrame (s : State) (n : Nat) (fl : Flight) (tag : TagVerdict) (intact : Bool) : State :=
  match tag with
  | .pass =>
    let check := s.counterCheck fl.frame
    let t := if mismatch check fl.laneV then s.count Reg.LADL_MISMATCH_CNT_CNT else s
    match check, fl.laneV with
    | 1, _ => t.duplicate n fl
    | 2, _ => t.dropAtHead n fl .replayReject
    | _, some .accept =>
      if intact && effectsCrc ((s.lane fl.lane).effectsOf n) == fl.crc then t.commitFrame n fl else s.csumFence fl
    | _, some (.quarantine r) => t.quarantineFrame n fl r
    | _, _ => t.quarantineFrame n fl Reason.laneCounterMismatch
  | .fail => s.dropAtHead n fl .authFail
  | _ => s.dropAtHead n fl .noKey

/-! ## Table commands at the head -/

/-- R144: the completion item of a table or balance command. -/
def completion (item : Bytes) (status order w2 w3 : Nat) : Bytes :=
  slice item 0 2 ++ leBytes 2 status ++ leBytes 4 order ++ leBytes 4 (bitsOf order 47 32 + w2) ++ leBytes 4 w3

/-- R133: does a REC_WRITE with a byte mask touch a protected field of the record? FLAGS.VALID is protected as a bit: a
write that keeps it is taken. -/
def State.recProtected (s : State) (m off mask : Nat) (data : Bytes) : Bool :=
  (List.range 16).any (fun i =>
    let o := off + i
    bitAt mask i == 1 &&
      (decide (o < 8) || (decide (0x014 ≤ o) && decide (o < 0x018)) || (decide (0x078 ≤ o) && decide (o < 0x0A0)) ||
        (decide (0x300 ≤ o) && decide (o < 0x380)) ||
        (o == 8 && bitAt (leAt data i 1) 0 != bitAt (s.recF m 8 1) 0)))

/-- R133: REC_WRITE writes 16 bytes of a record under a mask. -/
def State.applyRecWrite (s : State) (item : Bytes) : State × Nat :=
  let m := leAt item 4 4
  let off := bitsOf (leAt item 16 4) 9 0
  let mask := bitsOf (leAt item 16 4) 31 16
  let data := slice item 32 16
  if s.recProtected m off mask data then (s, 0x0105)
  else
    ((List.range 16).foldl (fun t i =>
      if bitAt mask i = 1 then t.setRec m (off + i) 1 (leAt data i 1) else t) (s.touch m), 0)

/-- R133: INSERT is applied to the record; its INSERT_TIME came with the order (log entry 105). -/
def State.applyInsert (s : State) (item : Bytes) : State :=
  let m := leAt item 4 4
  let s := s.touch m
  let s := (s.setRec m 0 8 (leAt item 8 8)).setRec m 8 4 (withBits (s.recF m 8 4) 0 0 1)
  let s := s.setRec m 0x0A0 4 (leAt item 60 4)
  let s := s.write (recordAddr m + 0x078) (List.replicate 40 0)
  (s.setRec m 0x014 4 0).setRec m 0x088 8 (2 ^ 62)

/-- R138: DELETE is applied to the record that held the identifier. -/
def State.applyDelete (s : State) (m : Nat) : State :=
  (s.touch m).setRec m 8 4 (withBits (s.recF m 8 4) 0 0 0)

/-- R140, R147: ROUTE_SET: STATIC and pinned from software, unpinned from a learning message, which leaves a STATIC entry
alone. DESIGN CHOICE (log entry 98): no frame is learned, so that the spec names no digest for a PSEUDO_RANDOM eviction; the model takes 0. -/
def State.applyRouteSet (s : State) (item : Bytes) (order : Nat) : State × Nat :=
  let id := leAt item 8 8
  let down := leAt item 2 1 = 1
  let b := s.idBucket 1 id
  let s := s.readBucket 1 b
  let route := bitsOf (leAt item 16 4) 25 0
  let w1 := route + (if down then 2 ^ 28 else 2 ^ 29 + 2 ^ 30) + 2 ^ 31
  let pinned := [0, 1, 2, 3].filter (fun w => s.entryValid (wayAddr 1 b w) && bitAt (s.word (wayAddr 1 b w) 1) 30 == 1)
  match s.routeAt id with
  | some a =>
    if down ∧ bitsOf (s.word a 1) 29 28 = 2 then (s, 0)
    else if !down ∧ bitAt (s.word a 1) 30 = 0 ∧ 2 ≤ pinned.length then (s, 0x0100)
    else (s.putEntry a id w1 order 0, 0)
  | none =>
    if !down ∧ 2 ≤ pinned.length then (s, 0x0100)
    else
      let (s, ok) := s.putRoute id w1 order 0
      (s, if ok then 0 else 0x0100)

/-- R142: ROUTE_DEL. DESIGN CHOICE (log entry 99): the spec gives no status where there is no entry; the model answers NOT_FOUND. -/
def State.applyRouteDel (s : State) (item : Bytes) : State × Nat :=
  let id := leAt item 8 8
  let s := s.readBucket 1 (s.idBucket 1 id)
  match s.routeAt id with
  | some a => ((s.freeEntry a).setF Reg.DIR_ROUTE_USE_ENTRIES (s.getF Reg.DIR_ROUTE_USE_ENTRIES - 1), 0)
  | none => (s, 0x0104)

/-- R147: TOKEN_ADD: a token already held, or at or below its meter's floor, changes nothing. DESIGN CHOICE (log entry 101): the item carries no amount, so the ledger
entry has amount digits 0. -/
def State.applyTokenAdd (s : State) (item : Bytes) (order : Nat) : State × Nat :=
  let id := leAt item 8 8
  let tok := leAt item 16 4
  let s := s.readBucket 2 (s.tokenBucket id tok)
  let (s, r) := s.dirFind id
  let below := match r with
    | some a => decide (tok ≤ s.recF (s.entryIndex a) 0x118 4)
    | none => false
  if below || s.ledgerHas id tok then (s, 0) else (s.ledgerInsert id tok (leAt item 20 4 % 16) 0 order, 0)

/-- R147: FLOOR_RAISE. DESIGN CHOICE (log entry 100): the spec gives no status for a meter without a directory entry; the model answers NOT_FOUND. -/
def State.applyFloorRaise (s : State) (item : Bytes) : State × Nat :=
  let (s, r) := s.dirFind (leAt item 8 8)
  match r with
  | none => (s, 0x0104)
  | some a =>
    let m := s.entryIndex a
    ((s.touch m).setRec m 0x118 4 (max (s.recF m 0x118 4) (leAt item 16 4)), 0)

/-- The VALID record of an identifier, as the records themselves tell. -/
def State.recordOf (s : State) (id : Nat) : Option Nat :=
  ((s.mem.filter (fun e => decide (recordAddr 0 ≤ e.1) && decide (e.1 < recordAddr 0x100000))).map (fun e => (e.1 - recordAddr 0) / 0x400)).find? (fun m =>
    s.recValid m && s.recF m 0 8 == id)

/-- R146: the directory change of a replicated INSERT or DELETE, which the standby makes at its order number; the answer is
the index of a deleted meter. An entry that the copy of the directory lacks, because the ACTIVE had removed it before the copy, leaves its record to be found. -/
def State.replicaChange (s : State) (item : Bytes) : State × Option Nat :=
  let id := leAt item 8 8
  let (s, r) := s.dirFind id
  match leAt item 0 1, r with
  | 1, none => ((s.dirPlace id (leAt item 4 4)).1, none)
  | 2, some a => let m := s.entryIndex a; (s.dirRemove a, some m)
  | 2, none => (s, s.recordOf id)
  | _, _ => (s, none)

/-- R143 step 5: Ladle applies a table command. The item's 64 bytes are followed by 4 bytes: word 3 of the completion for
INSERT, the meter index for DELETE. The answer is the status. -/
def State.applyDirCmd (s : State) (item : Bytes) (src order : Nat) : State × Nat :=
  let (s, idx) := if src = 1 then s.replicaChange item else (s, some (leAt item 64 4))
  match leAt item 0 1 with
  | 0x01 => (s.applyInsert item, 0)
  | 0x02 => ((idx.map s.applyDelete).getD s, 0)
  | 0x03 => s.applyRecWrite item
  | 0x10 => s.applyRouteSet item order
  | 0x11 => s.applyRouteDel item
  | 0x20 => s.applyTokenAdd item order
  | _ => s.applyFloorRaise item

/-! ## Balance commands at the head -/

/-- R155: add to, or take from, the counts that a meter's role makes in a node and in the node's parent. -/
def State.roleCounts (s : State) (m node role : Nat) (add : Bool) : State :=
  let bump (t : State) (n off hi : Nat) : State :=
    let w := t.nodeF n off 4
    t.setNode n off 4 (withBits w hi 0 (if add then bitsOf w hi 0 + 1 else bitsOf w hi 0 - 1))
  if role = 1 then bump s node 8 19
  else if role = 2 then
    let s := s.setNode node 4 4 (if add then m else 0xFFFFFFFF)
    match s.nodeParent node with
    | some p => bump s p 0xC 15
    | none => s
  else s

/-- R155: METER_ASSIGN: the counts of the old and the new node, the record area cleared but for BASELINE. -/
def State.applyAssign (s : State) (item : Bytes) : State × Nat :=
  let m := leAt item 4 4
  let node := leAt item 8 2
  let role := leAt item 11 1
  let head := s.nodeF node 4 4
  if !s.recValid m then (s, 0x0104)
  else if role ≠ 0 ∧ !s.nodeValid node then (s, 0x0102)
  else if role = 2 ∧ head ≠ 0xFFFFFFFF ∧ head ≠ m then (s, 0x0103)
  else
    let s := (s.touch m).balEarly m
    let old := s.recF m 0x300 4
    let s := s.roleCounts m (bitsOf old 15 0) (bitsOf old 17 16) false
    let s := s.roleCounts m node role true
    let used := s.getF Reg.BAL_METERS_ASSIGNED_METERS - (if bitsOf old 17 16 = 0 then 0 else 1) + (if role = 0 then 0 else 1)
    let s := s.setF Reg.BAL_METERS_ASSIGNED_METERS used
    let s := if s.auditBits m 16 16 = 1 then s.setF Reg.BAL_MISMAP_NOW_METERS (s.getF Reg.BAL_MISMAP_NOW_METERS - 1) else s
    let s := if s.auditBits m 17 17 = 1 then s.setF Reg.BAL_BYPASS_NOW_METERS (s.getF Reg.BAL_BYPASS_NOW_METERS - 1) else s
    let base := s.recF m 0x330 8
    let s := s.write (recordAddr m + 0x300) (List.replicate 128 0)
    let s := (s.setRec m 0x330 8 base).setRec m 0x33C 2 0x8000
    (if role = 0 then s else s.setRec m 0x300 4 (node + role * 2 ^ 16), 0)

/-- R155: AUDIT_RESET clears the sums, W, the score, MISMAP and BYPASS; a BYPASS cleared so gives its report. -/
def State.applyAuditReset (s : State) (item : Bytes) (order : Nat) : State × Nat :=
  let m := leAt item 4 4
  let s := (s.touch m).balEarly m
  let s := if s.auditBits m 16 16 = 1 then s.setF Reg.BAL_MISMAP_NOW_METERS (s.getF Reg.BAL_MISMAP_NOW_METERS - 1) else s
  let s := (s.setAudit m 16 16 0).setAudit m 15 0 0
  let s := if s.auditBits m 17 17 = 1 then
    s.setBypass m (s.getF Reg.BAL_CUR_IVL_IVL) order (bitsOf (s.recF m 0x300 4) 15 0) false else s
  (s.write (recordAddr m + 0x340) (List.replicate 40 0), 0)

/-- R154: does some VALID node name `n` as its parent? -/
def State.hasChildren (s : State) (n : Nat) : Bool := s.validNodes.any (fun k => s.nodeParent k == some n)

/-- R155: the closed intervals still held for a node: its slot is CLOSED, or a queued sweep has still to close it. -/
def State.heldIntervals (s : State) (n : Nat) : List Nat :=
  if !s.bal.closedAny then []
  else
    let hi := s.getF Reg.BAL_CLOSED_IVL_IVL
    let lo := max (s.getF Reg.BAL_FIRST_IVL_IVL) (s.getF Reg.BAL_CUR_IVL_IVL - 14)
    ((List.range (hi + 1 - lo)).map (fun i => lo + i)).filter (fun j =>
      (bitsOf (s.slotF n j 4 4) 1 0 == 2 && s.slotF n j 0 4 == j) || s.bal.sweeps.any (fun w => w.k == j && w.covers n))

/-- R154, R155: NODE_SET. -/
def State.applyNodeSet (s : State) (item : Bytes) : State × Nat :=
  let n := leAt item 8 2
  let level := leAt item 10 1
  let parent := leAt item 12 2
  let fixed := leAt item 16 4
  let ppm := leAt item 20 4
  let valid := s.nodeValid n
  let old := s.nodeF n 0 4
  let parentOk := if level = 0 then parent == 0xFFFF
    else parent != 0xFFFF && s.nodeValid parent && bitsOf (s.nodeF parent 0 4) 1 0 == level - 1
  if 3 < level ∨ 1000000 < ppm then (s, 0x0105)
  else if !parentOk then (s, 0x0100)
  else if valid ∧ s.hasChildren n ∧ (bitsOf old 1 0 ≠ level ∨ bitsOf old 31 16 ≠ parent) then (s, 0x0100)
  else
    -- a head's place among the old parent's children moves with the node
    let head := if valid then s.nodeF n 4 4 else 0xFFFFFFFF
    let s := if valid ∧ head ≠ 0xFFFFFFFF then s.roleCounts head n 2 false else s
    let s := if valid then s else (s.write (nodeAddr n) (List.replicate 64 0)).count Reg.BAL_NODES_USED_NODES
    let s : State := { s with bad := clearCovered s.bad (nodeAddr n) 64 }
    let revise := valid && (s.nodeF n 0x10 4 != fixed || s.nodeF n 0x14 4 != ppm)
    let s := s.setNode n 0 4 (level + 4 + bitAt (leAt item 24 1) 1 * 16 + parent * 2 ^ 16)
    let s := ((s.setNode n 0x10 4 fixed).setNode n 0x14 4 ppm).setNode n 0x18 4 (leAt item 14 2)
    let s := if head = 0xFFFFFFFF then s.setNode n 4 4 0xFFFFFFFF else s.roleCounts head n 2 true
    (if revise then (s.heldIntervals n).foldl (fun t j => t.markRev n j) s else s, 0)

/-- R154: NODE_DEL: the one check is that nothing refers to the node; a node that is not VALID stays so. -/
def State.applyNodeDel (s : State) (item : Bytes) : State × Nat :=
  let n := leAt item 8 2
  if !s.nodeValid n then (s, 0)
  else if s.nodeF n 4 4 ≠ 0xFFFFFFFF ∨ bitsOf (s.nodeF n 8 4) 19 0 ≠ 0 ∨ s.hasChildren n then (s, 0x0101)
  else
    let s := (s.closeEarly n).write (nodeAddr n) (List.replicate 64 0)
    (s.setF Reg.BAL_NODES_USED_NODES (s.getF Reg.BAL_NODES_USED_NODES - 1), 0)

/-- R154: Ladle applies a balance command. -/
def State.applyBalCmd (s : State) (item : Bytes) (order : Nat) : State × Nat :=
  match leAt item 0 1 with
  | 1 => s.applyNodeSet item
  | 2 => s.applyNodeDel item
  | 3 => s.applyAssign item
  | _ => s.applyAuditReset item order

/-! ## Ordered items at the head -/

/-- R148, R156, R163, R188: must an ordered item wait at the head? A change of a locked bucket waits for its UNLOCK. -/
def State.itemWaits (s : State) (o : Ordered) : Bool :=
  match o with
  | .dirCmd b src =>
    let id := leAt b 8 8
    let op := leAt b 0 1
    if src = 1 ∧ (op = 0x01 ∨ op = 0x02) then s.locked? 0 (s.idBucket 0 id)
    else if op = 0x10 ∨ op = 0x11 then s.locked? 1 (s.idBucket 1 id)
    else if op = 0x20 then s.ledgerLocked id (leAt b 16 4) || s.locked? 0 (s.idBucket 0 id)
    else if op = 0x21 then s.locked? 0 (s.idBucket 0 id)
    else false
  | .token b m _ => s.tokenLocked m b
  | .balMarker k => s.markerWaits k
  | .closeMarker _ _ _ => s.closeWaits
  | _ => false

/-- R163, R188: an item that waits is shown and latched on its engine's page. -/
def State.noteWait (s : State) (o : Ordered) : State :=
  match o with
  | .balMarker _ =>
    if s.flag Reg.BAL_STAT_MARKER_WAIT then s else (s.setF Reg.BAL_STAT_MARKER_WAIT 1).irq Reg.BAL_IRQ_MARKER_WAIT
  | .closeMarker _ _ _ =>
    if s.flag Reg.BILL_STAT_MARKER_WAIT then s else (s.setF Reg.BILL_STAT_MARKER_WAIT 1).irq Reg.BILL_IRQ_MARKER_WAIT
  | _ => s

/-- R143, R156: Ladle applies an ordered item; the answer is its journal entry. The entry of a balance command has 1 in PORT, that of a table command 0, so that
replay can tell them apart (log). -/
def State.applyItem (s : State) (n : Nat) (o : Ordered) : State × Bytes :=
  match o with
  | .dirCmd b src =>
    let (t, st) := s.applyDirCmd b src n
    let t := if st = 0 then t else t.err 0x14 st 0
    let t := if src = 0 then t.enq 0xA2 { body := .bytes (completion b st n 0 (if leAt b 0 1 = 1 then leAt b 64 4 else 0)) } else t
    (t, journalEntry n 0xFFFFF 2 (slice b 0 64 ++ leBytes 2 st))
  | .balCmd b =>
    let (t, st) := s.applyBalCmd b n
    let t := if st = 0 then t else t.err 0x15 st 0
    let t := if leAt b 64 1 = 0 then t.enq 0xAA { body := .bytes (completion b st n 0 0) } else t
    (t, archiveEntry n 0xFFFFF 2 { port := 1 } 66 0 (slice b 0 64 ++ leBytes 2 st))
  | .balMarker k => (s.applyMarker k n, markerEntry n 0 k s.utcSec 0 false)
  | .demandMarker m g => (s.applyDemand m g n, markerEntry n 1 m s.utcSec g false)
  | .closeMarker b sk at_ => (s.applyClose b n sk at_, markerEntry n 2 b at_ 0 sk)
  | .ckptMarker k => (s.applyCkpt n, markerEntry n 3 k s.utcSec 0 false)
  | .token b m src =>
    if s.flag Reg.BILL_CTRL_ENABLE then
      let (t, body) := s.applyToken m n src b
      (t, journalEntry n m 4 body)
    else (s, [])
  | .join b => (s.applyJoin b, journalEntry n 0xFFFFF 6 b)
  | .txn l mine => (if mine then s else s.applyTxn l, journalEntry n 0xFFFFF 5 (l.flatMap (fun e => leBytes 1 e.1 ++ [0] ++ leBytes 2 e.2.1 ++ leBytes 4 e.2.2)))

/-- R143: an ordered item at the head. -/
def State.commitItem (s : State) (n : Nat) (fl : Flight) (o : Ordered) : State :=
  let (s, e) := s.applyItem n o
  ((s.placeCommit { order := n, entry := e }).endFlight n fl).release

/-- R19, R144: has Ladle the credits that an ordered item at the head takes? -/
def State.commitCredit (s : State) (o : Ordered) : Bool :=
  s.hasCredit 0x118 && (match o with
    | .dirCmd _ 0 => s.hasCredit 0xA2
    | .balCmd b => leAt b 64 1 != 0 || s.hasCredit 0xAA
    | _ => true)

/-- R76: is the frame with its lane, which will give its verdict? -/
def Flight.inLane (fl : Flight) : Bool := fl.stage == .lane || fl.stage == .running

/-- R330: is the copy for the partner still to be taken, as of the order number at the head? -/
def State.copyFirst (s : State) : Bool :=
  s.twin.snapDue && (match s.twin.sync with
    | some n => s.commitNext == n || precedes n s.commitNext
    | none => false)

/-- R9, R76, R77: Ladle, which needs the DRAM and the mounted FTL, commits the head of its window as soon as it holds both verdicts. DEDUCED (log entry 83): a frame
without a key of which no plaintext has reached a lane needs no lane verdict (R72).
`slotParityOk` is the parity of its reorder slot (R89), `entriesIntact` that its effect entries are as the lane wrote them
(R108). -/
def execLadleCommitHead (slotParityOk entriesIntact : Bool) (s : State) : Host.Outcome State Fault Refusal :=
  let n := s.commitNext
  if !s.flag Reg.LADL_CTRL_ENABLE ∨ s.flag Reg.LADL_STAT_RECOVERING ∨ !s.flag Reg.FTL_STAT_MOUNTED ∨ s.copyFirst then idle s
  else match s.flight n with
  | none => idle s
  | some fl =>
    s.withDram fun s =>
    let s := match fl.body with
      | .frame f => s.eccCorrect (recordAddr f.meter) 1024
      | .ordered _ => s
    match fl.body with
    | .ordered o =>
      if s.itemWaits o then .next (s.noteWait o)
      else if s.commitCredit o then .next (s.commitItem n fl o)
      else idle s
    | .frame _ =>
      if !slotParityOk then
        .next (((s.setFlight n (some { fl with tagV := none, laneV := none })).rerunFrame n).err 0x11 0x0101 (n % 4096))
      else match fl.tagV, fl.laneV with
      | some .noKey, v => if v.isSome ∨ !fl.inLane then .next ((s.dropAtHead n fl .noKey).release) else idle s
      | some t, some _ => if s.headReady n fl t entriesIntact then .next ((s.decideFrame n fl t entriesIntact).release) else idle s
      | _, _ => idle s

end Sys2Proof.Machine
end

