-- ==== Sys2Proof/Machine/Directory.lean ====
section
/-! DEFINITION. The table engine's commands: the items of its command queue (R142–R144, R147), bucket locks (R148) and SUSPECT (R136). -/

namespace Sys2Proof.Machine

/-! ## Items that software writes into a queue -/

/-- R35, R53: a requester writes an item into a queue that software may write, on the page of its consumer. The page's mask is
checked first; without a credit the item does not enter the queue. -/
def State.submit (s : State) (q : Nat) (x : Submission) (body : Payload) : State :=
  s.onWrite x.req (qPage q) (0x080 + q % 8 * 0x10) fun s =>
    if s.hasCredit q then s.enq q { body := body, poison := x.poison } else s

/-! ## The command item -/

/-- R142: are the bytes from `a`, `n` of them, all 0? -/
def zeros (b : Bytes) (a n : Nat) : Bool := leNat (slice b a n) == 0

/-- R142: is a command item well formed? Fields that the opcode does not use must be 0. -/
def dirWellFormed (b : Bytes) : Bool :=
  let op := leAt b 0 1
  let arg := leAt b 16 4
  let idx := leAt b 4 4
  let noTable := zeros b 3 1
  let noIdx := zeros b 4 4
  let noId := zeros b 8 8
  let noArg := zeros b 16 4
  let noArg2 := zeros b 20 4
  let noData := zeros b 32 32
  b.length == 64 && zeros b 24 8 &&
  (match op with
   | 0x01 => noTable && noArg && noArg2 && noData
   | 0x02 => noTable && noIdx && noArg && noArg2 && noData
   | 0x03 =>
     noTable && noId && noArg2 && zeros b 48 16 && decide (idx ≤ 0xFFFFF) && bitsOf arg 15 10 == 0 &&
       bitsOf arg 9 0 % 4 == 0 && decide (bitsOf arg 9 0 % 64 ≤ 48)
   | 0x10 => noTable && noIdx && noArg2 && noData && bitsOf arg 31 26 == 0
   | 0x11 => noTable && noIdx && noArg && noArg2 && noData
   | 0x20 => noTable && noIdx && noData && decide (leAt b 20 4 ≤ 15) && decide (arg < 2 ^ 27)
   | 0x21 => noTable && noIdx && noArg2 && noData && decide (arg < 2 ^ 27)
   | 0x30 => noIdx && noArg2 && noData && decide (leAt b 3 1 ≤ 2) && (leAt b 3 1 == 2 || noArg)
   | 0x31 | 0x32 =>
     noId && noArg && noArg2 && noData && decide (leAt b 3 1 ≤ 2) && decide (idx < tableBuckets (leAt b 3 1))
   | _ => false)

/-- R138: is a DELETE of a meter index in flight? -/
def State.indexInFlight (s : State) (m : Nat) : Bool := s.dirOpen.any (fun b => leAt b 0 1 == 2 && leAt b 64 4 == m)

/-- R144: a command completes at once; it takes no order number. -/
def State.dirDone (s : State) (b : Bytes) (st hit w3 : Nat) : State :=
  s.enq 0xA2 { body := .bytes (completion b st 0 (hit * 2 ^ 31) w3) }

/-- R138, R142: a command that ends with an error is recorded on the page. -/
def State.dirFail (s : State) (b : Bytes) (st : Nat) : State := (s.err 0x14 st 0).dirDone b st 0 0

/-- R143: an ordered command goes to the dispatch queue. -/
def State.dirOrder (s : State) (b : Bytes) (x : Nat) : State :=
  s.enq 0x80 { body := .orderedItem (.dirCmd (b ++ leBytes 4 x) 0) }

/-- R148: the table and bucket that a request of the lookup pipeline reads; none where it reads none. -/
def State.needs (s : State) (p : Parked) : Option (Nat × Nat) :=
  match p with
  | .lookup f => some (0, s.idBucket 0 f.mid)
  | .command b _ =>
    let id := leAt b 8 8
    match leAt b 0 1 with
    | 0x01 | 0x02 => some (0, s.idBucket 0 id)
    | 0x30 =>
      match leAt b 3 1 with
      | 0 => some (0, s.idBucket 0 id)
      | 1 => some (1, s.idBucket 1 id)
      | _ => some (2, s.tokenBucket id (leAt b 16 4))
    | _ => none

/-- R148: must a request wait in the park buffer? -/
def State.mustPark (s : State) (p : Parked) : Bool :=
  match s.needs p with
  | some (t, b) => s.locked? t b
  | none => false

/-- R142: the opcodes of table commands. -/
def dirOps : List Nat := [0x01, 0x02, 0x03, 0x10, 0x11, 0x20, 0x21, 0x30, 0x31, 0x32]

/-- The front of the requests that a lock has let go, else of the command queue, is a command with opcode `op`, or one with no opcode of R142, which every command of
this kind takes: its item with the ORIGIN that the chip has set, whether it is poisoned, and the state without it. -/
def State.dirFront (s : State) (op : Nat) : Option (Bytes × Bool × State) :=
  match s.dir.released with
  | .command b _ :: r => if leAt b 0 1 = op then some (b, false, { s with dir := { s.dir with released := r } }) else none
  | .lookup _ :: _ => none
  | [] =>
    match (s.queue 0xA1).items.head? with
    | some { body := .bytes b, poison := p } =>
      if leAt b 0 1 = op ∨ !dirOps.contains (leAt b 0 1) then
        (s.deq 0xA1).map (fun e => (b, p != 0, { e.2 with dir := { e.2.dir with turn := 2 } }))
      else none
    | _ => none

/-- R143: is it the lookup queue's turn: the last item taken was a command, and a lookup can be taken? -/
def State.lookupTurn (s : State) : Bool := s.dir.turn == 2 && !(s.queue 0xA0).items.isEmpty && s.hasCredit 0x80

/-- R142, R143: the table engine takes a command with opcode `op` from the front of its command queue; `sub` is an item that
software writes first. It waits while it has no credit for the completion, or for the dispatch of an ordered command, while the park buffer is full, while it is the
lookup queue's turn, or where the DRAM cannot run (R9). -/
def State.dirCommand (s : State) (op : Nat) (sub : Option Submission) (k : State → Bytes → State) : State :=
  let s := match sub with
    | some x => s.pumpMessages.submit 0xA1 x (.bytes (splice (slice x.item 0 64) 2 [0]))
    | none => s.pumpMessages
  if !s.flag Reg.DIR_CTRL_ENABLE ∨ !s.dirCredit ∨ (op < 0x30 ∧ !s.hasCredit 0x80) ∨ s.dir.search.isSome ∨ 16 ≤ s.dir.parked.length ∨
      (s.dir.released.isEmpty ∧ s.lookupTurn) ∨ (s.dirFront op).isNone then s
  else match s.needDom .mem with
  | none => s
  | some s =>
  match s.dirFront op with
    | none => s
    | some (b, poison, t) =>
      if !s.orders then (t.err 0x30 0x0100 0).dirDone b 0x0100 0 0
      else if poison then t.dirFail b 0x0109
      else if !dirWellFormed (splice b 2 [0]) then t.dirFail b 0x0109
      else if t.mustPark (.command b false) then { t with dir := { t.dir with parked := t.dir.parked ++ [.command b false] } }
      else k t b

/-! ## Ordered commands -/

/-- R138: INSERT: the conditions in order, then the directory entry. -/
def State.dirInsert (s : State) (b : Bytes) : State :=
  let id := leAt b 8 8
  let m := leAt b 4 4
  let (s, hit) := s.dirFind id
  if s.getF Reg.DIR_ROLE_LIMIT_METERS ≤ m then s.dirFail b 0x0101
  else if hit.isSome then s.dirFail b 0x0102
  else if s.recValid m || s.indexInFlight m then s.dirFail b 0x0103
  else if !s.dirRoom id then (s.irq Reg.DIR_IRQ_DIR_FULL).dirFail b 0x0100
  else
    let (s, ovf) := s.dirPlace id m
    s.dirOrder b (match ovf with | some k => 2 ^ 31 + k | none => 0)

/-- R138: INSERT. -/
def execDirInsert (sub : Option Submission) (s : State) : Host.Outcome State Fault Refusal :=
  .next (s.dirCommand 0x01 sub State.dirInsert)

/-- R138: DELETE: the directory entry goes, and the command is ordered with the index it named. -/
def State.dirDelete (s : State) (b : Bytes) : State :=
  let (s, hit) := s.dirFind (leAt b 8 8)
  match hit with
  | none => s.dirFail b 0x0104
  | some a =>
    let m := s.entryIndex a
    (s.dirRemove a).dirOrder b m

/-- R138: DELETE. -/
def execDirDelete (sub : Option Submission) (s : State) : Host.Outcome State Fault Refusal :=
  .next (s.dirCommand 0x02 sub State.dirDelete)

/-- R133: REC_WRITE is ordered; Ladle checks the protected fields when it applies it. -/
def execDirRecWrite (sub : Option Submission) (s : State) : Host.Outcome State Fault Refusal :=
  .next (s.dirCommand 0x03 sub (fun s b => s.dirOrder b 0))

/-- R140, R147: ROUTE_SET, from software or from downstream, is ordered. -/
def execDirRouteSet (sub : Option Submission) (s : State) : Host.Outcome State Fault Refusal :=
  .next (s.dirCommand 0x10 sub (fun s b => s.dirOrder b 0))

/-- R142: ROUTE_DEL is ordered. -/
def execDirRouteDel (sub : Option Submission) (s : State) : Host.Outcome State Fault Refusal :=
  .next (s.dirCommand 0x11 sub (fun s b => s.dirOrder b 0))

/-- R142, R147: a learning message is ordered; the same opcode from software ends with OP_REFUSED. -/
def State.dirLearn (s : State) (b : Bytes) : State :=
  if leAt b 2 1 = 1 then s.dirOrder b 0 else s.dirFail b 0x0106

/-- R147: TOKEN_ADD. -/
def execDirTokenAdd (sub : Option Submission) (s : State) : Host.Outcome State Fault Refusal :=
  .next (s.dirCommand 0x20 sub State.dirLearn)

/-- R147: FLOOR_RAISE. -/
def execDirFloorRaise (sub : Option Submission) (s : State) : Host.Outcome State Fault Refusal :=
  .next (s.dirCommand 0x21 sub State.dirLearn)

/-! ## Commands that act at once -/

/-- R139, R144: LOOKUP of a table: the HIT bit and word 3 of the completion. -/
def State.dirRead (s : State) (b : Bytes) : State :=
  let id := leAt b 8 8
  match leAt b 3 1 with
  | 0 =>
    let n := s.get2 Reg.DIR_LOOKUPS_LO_CNT Reg.DIR_LOOKUPS_HI_CNT + 1
    let s := s.set2 Reg.DIR_LOOKUPS_LO_CNT Reg.DIR_LOOKUPS_HI_CNT (min n (2 ^ 48 - 1))
    let (s, hit) := s.dirFind id
    (match hit with
     | some a => s.dirDone b 0 1 (s.entryIndex a)
     | none => s.dirDone b 0 0 0)
  | 1 =>
    let s := s.readBucket 1 (s.idBucket 1 id)
    (match s.routeAt id with
     | some a => s.dirDone b 0 1 (s.word a 1 % 2 ^ 32)
     | none => s.dirDone b 0x010A 0 0)
  | _ =>
    let k := s.tokenBucket id (leAt b 16 4)
    let s := s.readBucket 2 k
    (match wayWhere 2 k (fun a => s.entryValid a && s.word a 0 == id && bitsOf (s.word a 1) 26 0 == leAt b 16 4) with
     | some w => s.dirDone b 0 1 (s.word (wayAddr 2 k w) 1 % 2 ^ 32)
     | none => s.dirDone b 0 0 0)

/-- R144: LOOKUP acts and completes at once. -/
def execDirLookupCmd (sub : Option Submission) (s : State) : Host.Outcome State Fault Refusal :=
  .next (s.dirCommand 0x30 sub State.dirRead)

/-- R148: LOCK: at most four buckets, and no bucket twice. -/
def State.dirLock (s : State) (b : Bytes) : State :=
  let t := leAt b 3 1
  let k := leAt b 4 4
  if 4 ≤ s.dir.locks.length ∨ s.locked? t k then s.dirFail b 0x0107
  else
    let l : DirLock := { table := t, bucket := k, until_ := s.tb1 + s.getF Reg.DIR_LOCK_LIMIT_US * 1000 }
    let s := { s with dir := { s.dir with locks := s.dir.locks ++ [l] } }
    (s.setHeader t k 55 55 1).dirDone b 0 0 0

/-- R148: LOCK. -/
def execDirLock (sub : Option Submission) (s : State) : Host.Outcome State Fault Refusal :=
  .next (s.dirCommand 0x31 sub State.dirLock)

/-- R136: SUSPECT of a ledger bucket clears. -/
def State.clearSuspect (s : State) (b : Nat) : State :=
  if s.header 2 b 54 54 = 1 then (s.setHeader 2 b 54 54 0).lowerF Reg.DIR_SUSPECT_CNT_BUCKETS else s

/-- R148: a lock has gone: the requests that waited for it and need no other locked bucket are let go, and the routes learned
meanwhile are written. -/
def State.dirRelease (s : State) (t k : Nat) : State :=
  let s := { s with dir := { s.dir with locks := s.dir.locks.filter (fun l => !(l.table == t && l.bucket == k)) } }
  let s := s.setHeader t k 55 55 0
  let go := s.dir.parked.filter (fun p => !s.mustPark p)
  let stay := s.dir.parked.filter (fun p => s.mustPark p)
  let s := { s with dir := { s.dir with parked := stay, released := s.dir.released ++ go } }
  let s := if t = 2 ∧ s.dir.clears.contains k then { s with dir := { s.dir with clears := s.dir.clears.erase k } }.clearSuspect k else s
  let ready := s.dir.learns.filter (fun l => !s.locked? 1 (s.idBucket 1 l.f.mid))
  let wait := s.dir.learns.filter (fun l => s.locked? 1 (s.idBucket 1 l.f.mid))
  let s := { s with dir := { s.dir with learns := wait } }
  ready.foldl (fun t l => (t.learnRoute l.f l.order).1) s

/-- R148: UNLOCK re-checks the parity of the bucket's four ways; the first after a timeout ends with LOCK_TIMEOUT. -/
def State.dirUnlock (s : State) (b : Bytes) : State :=
  let t := leAt b 3 1
  let k := leAt b 4 4
  let s := (if s.locked? t k then s.dirRelease t k else s).readBucket t k
  if s.dir.timedOut.contains (t, k) then
    { s with dir := { s.dir with timedOut := s.dir.timedOut.filter (fun x => x != (t, k)) } }.dirFail b 0x0108
  else s.dirDone b 0 0 0

/-- R148: UNLOCK. -/
def execDirUnlock (sub : Option Submission) (s : State) : Host.Outcome State Fault Refusal :=
  .next (s.dirCommand 0x32 sub State.dirUnlock)

/-- R148: a lock held for LOCK_LIMIT is released, the one that ends first. -/
def execDirLockTimeout (s : State) : Host.Outcome State Fault Refusal :=
  match s.dir.locks.find? (fun l => decide (l.until_ ≤ s.tb1)) with
  | none => idle s
  | some l =>
    let s := (s.dirRelease l.table l.bucket).irq Reg.DIR_IRQ_LOCK_TIMEOUT
    .next ({ s with dir := { s.dir with timedOut := s.dir.timedOut ++ [(l.table, l.bucket)] } }.err 0x14 0x0108 0)

/-- R136, R148: a write of `DIR.SUSPECT_CLR` clears SUSPECT of a ledger bucket, once the bucket is not locked. -/
def execDirSuspectClr (req : Req) (data : Word) (s : State) : Host.Outcome State Fault Refusal :=
  .next (s.onField req Reg.DIR_SUSPECT_CLR_BUCKET fun s =>
    let b := bitsOf data.toNat 19 0
    if s.locked? 2 b then { s with dir := { s.dir with clears := s.dir.clears.erase b ++ [b] } } else s.clearSuspect b)

end Sys2Proof.Machine
end

