-- ==== Sys2Proof/Machine/Balance.lean ====
section
/-! DEFINITION. The balance engine's commands (R154), its boundary markers (R156), and the passes of its sweep (R162, R164, R170). -/

namespace Sys2Proof.Machine

/-! ## Commands -/

/-- R154: is a command item well formed? Fields that the opcode does not use must be 0. -/
def balWellFormed (b : Bytes) : Bool :=
  let noIdx := zeros b 4 4
  let noNode := zeros b 8 2
  let noLevel := zeros b 10 1
  let noRole := zeros b 11 1
  let noSet := zeros b 12 13
  b.length == 64 && zeros b 2 2 && zeros b 25 39 &&
  (match leAt b 0 1 with
   | 1 => noIdx && noRole && leAt b 24 1 / 2 * 2 == leAt b 24 1 && decide (leAt b 24 1 ≤ 2)
   | 2 => noIdx && noLevel && noRole && noSet
   | 3 => noLevel && noSet && decide (leAt b 11 1 ≤ 2) && decide (leAt b 4 4 ≤ 0xFFFFF)
   | 4 => noNode && noLevel && noRole && noSet && decide (leAt b 4 4 ≤ 0xFFFFF)
   | _ => false)

/-- R154: the balance commands of this chip's own queue that have not completed. -/
def State.balOpen (s : State) : Nat :=
  let own (o : Ordered) : Bool := match o with
    | .balCmd b => leAt b 64 1 == 0
    | _ => false
  (s.flights.filter (fun e => match e.2 with
    | some fl => (match fl.body with | .ordered o => own o | .frame _ => false)
    | none => false)).length +
  ((s.queue 0x80).items.filter (fun i => match i.body with | .orderedItem o => own o | _ => false)).length

/-- R154: a command that is refused completes at once. -/
def State.balRefuse (s : State) (b : Bytes) (st : Nat) : State :=
  (s.err 0x15 st 0).enq 0xAA { body := .bytes (completion b st 0 0 0) }

/-- R154: the balance engine takes a command with opcode `op` from the front of its queue and has it ordered, or one with no opcode of R154, which every balance command
takes; `sub` is an item that software writes first. It waits without credit for the completion or the dispatch, and where the DRAM cannot run (R9). On a twin that does
not order, every command ends with TWIN_REPLICA (R313). -/
def State.balCommand (s : State) (op : Nat) (sub : Option Submission) : State :=
  let s := match sub with
    | some x => s.submit 0xA9 x (.bytes (slice x.item 0 64))
    | none => s
  match (s.queue 0xA9).items.head? with
  | some { body := .bytes b, poison := p } =>
    if (leAt b 0 1 ≠ op ∧ 1 ≤ leAt b 0 1 ∧ leAt b 0 1 ≤ 4) ∨ !s.hasCredit 0x80 ∨ (s.queue 0xAA).credits ≤ s.balOpen then s
    else match (s.needDom .mem).bind (fun u => u.deq 0xA9) with
      | none => s
      | some (_, t) =>
        if !s.orders then (t.err 0x30 0x0100 0).enq 0xAA { body := .bytes (completion b 0x0100 0 0 0) }
        else if p != 0 || !balWellFormed b then t.balRefuse b 0x0105
        else t.enq 0x80 { body := .orderedItem (.balCmd (b ++ [0])) }
  | _ => s

/-- R154: NODE_SET. -/
def execBalNodeSet (sub : Option Submission) (s : State) : Host.Outcome State Fault Refusal := .next (s.balCommand 1 sub)

/-- R154: NODE_DEL. -/
def execBalNodeDel (sub : Option Submission) (s : State) : Host.Outcome State Fault Refusal := .next (s.balCommand 2 sub)

/-- R155: METER_ASSIGN. -/
def execBalMeterAssign (sub : Option Submission) (s : State) : Host.Outcome State Fault Refusal :=
  .next (s.balCommand 3 sub)

/-- R155: AUDIT_RESET. -/
def execBalAuditReset (sub : Option Submission) (s : State) : Host.Outcome State Fault Refusal :=
  .next (s.balCommand 4 sub)

/-! ## Markers -/

/-- R156, R180: a marker goes to the dispatch queue. -/
def State.placeMarker (s : State) (o : Ordered) : State := s.enq 0x80 { body := .orderedItem o }

/-- R156: TB0 has reached the boundary above the last marker: its marker is placed, one boundary at a time. The chip that orders
places it, while the dispatch queue has credit. -/
def execBalMarkerPlace (s : State) : Host.Outcome State Fault Refusal :=
  let now := s.utcSec / s.balLen
  let last := s.bal.mark.getD now
  if s.flag Reg.BAL_CTRL_ENABLE ∧ s.orders ∧ last < now ∧ s.hasCredit 0x80 then
    .next (({ s with bal := { s.bal with mark := some (last + 1) } }).placeMarker (.balMarker (last + 1)))
  else idle s

/-! ## The node pass -/

/-- Change the running sweep. -/
def State.setSweep (s : State) (w : BalSweep) : State :=
  { s with bal := { s.bal with sweeps := w :: s.bal.sweeps.drop 1 } }

/-- R162: the node pass for one node of the running sweep. -/
def State.nodePass1 (s : State) (w : BalSweep) (n : Nat) (d : Bytes) : State :=
  let t := s.closeNode w n d
  let bad := bitsOf (t.nodeF n 0x1C 4) 2 0 != 0
  match t.bal.sweeps with
  | v :: _ => t.setSweep { v with node := n + 1, unbalanced := v.unbalanced + (if bad then 1 else 0) }
  | [] => t

/-- R162, R170: the node pass goes on until a report waits for credit; at its end CLOSED is latched. -/
def State.nodePass (s : State) (w : BalSweep) : State :=
  let s := if w.node = 0 then { s with bal := { s.bal with startedAt := s.tb1 } } else s
  let s := w.nodes.foldl (fun t e =>
    if e.1 < w.node ∨ w.earlyNodes.contains e.1 ∨ !t.bal.waiting.isEmpty then t else t.nodePass1 w e.1 e.2) s
  match s.bal.sweeps with
  | v :: _ =>
    if w.nodes.all (fun e => decide (e.1 < v.node) || v.earlyNodes.contains e.1) then (s.setSweep { v with nodesDone := true }).irq Reg.BAL_IRQ_CLOSED else s
  | [] => s

/-- R163, R164: with no close to sweep, the revisions that a waiting marker needs are made. -/
def State.revisePass (s : State) : State :=
  s.validNodes.foldl (fun t n => if t.bal.waiting.isEmpty then t.reviseNode false n else t) s

/-- R162: the node pass of the running sweep. -/
def State.nodeWork (s : State) : Host.Outcome State Fault Refusal :=
  if !s.bal.waiting.isEmpty then idle s
  else match s.bal.sweeps with
  | w :: _ => if w.nodesDone then idle s else .next (s.nodePass w)
  | [] => if s.flag Reg.BAL_STAT_MARKER_WAIT then .next s.revisePass else idle s

/-- R9, R162: the node pass of the running sweep, which needs the DRAM. -/
def execBalNodePass (s : State) : Host.Outcome State Fault Refusal := s.withDram State.nodeWork

/-! ## The meter pass -/

/-- R162: the meter pass for one meter of the running sweep, unless the meter was passed early (R188). -/
def State.meterPassOne (s : State) (m : Nat) : State :=
  let s := s.touch m
  match s.bal.sweeps with
  | [] => s
  | w :: _ =>
    let s := if w.early.contains m then s else s.meterPass1 w m
    s.setSweep { w with meter := m + 1 }

/-- R160: SWEPT in the slots of an interval. -/
def State.markSwept (s : State) (w : BalSweep) : State :=
  w.nodes.foldl (fun t e =>
    if t.nodeValid e.1 then t.setSlot e.1 w.k 4 4 (withBits (t.slotF e.1 w.k 4 4) 18 18 1) else t) s

/-- R162, R170: the end of a sweep: SWEPT, the SWEEP_DONE report, the sweep's duration. -/
def State.sweepEnd (s : State) (w : BalSweep) : State :=
  let s := s.markSwept w
  let item := leBytes 4 7 ++ leBytes 4 0 ++ leBytes 4 w.k ++ leBytes 4 w.unbalanced ++
    leBytes 4 (s.getF Reg.BAL_MISMAP_NOW_METERS) ++ leBytes 4 (s.getF Reg.BAL_BYPASS_NOW_METERS)
  let s := s.balReport item
  let s := s.setF Reg.BAL_SWEEP_LAST_US (min (2 ^ 24 - 1) ((s.tb1 - s.bal.startedAt) / 1000))
  { s with bal := { s.bal with sweeps := s.bal.sweeps.drop 1 } }

/-- R162, R170: the meter pass goes on until a report waits for credit. -/
def State.meterPass (s : State) (w : BalSweep) : State :=
  let l := s.records.filter (fun m => decide (w.meter ≤ m) && bitsOf (s.recF m 0x300 4) 17 16 != 0)
  let s := l.foldl (fun t m => if t.bal.waiting.isEmpty then t.meterPassOne m else t) s
  match s.bal.sweeps with
  | v :: _ => if s.bal.waiting.isEmpty && l.all (fun m => decide (m < v.meter)) then s.sweepEnd v else s
  | [] => s

/-- R162: the meter pass of the running sweep, once its node pass has ended. -/
def State.meterWork (s : State) : Host.Outcome State Fault Refusal :=
  if !s.bal.waiting.isEmpty then idle s
  else match s.bal.sweeps with
  | w :: _ => if w.nodesDone then .next (s.meterPass w) else idle s
  | [] => idle s

/-- R9, R162: the meter pass of the running sweep, which needs the DRAM. -/
def execBalMeterPass (s : State) : Host.Outcome State Fault Refusal := s.withDram State.meterWork

/-- R170: a credit has returned to the report queue: the waiting reports enter it, and the sweep, which needs the DRAM (R9), goes on. -/
def execBalSweepResume (s : State) : Host.Outcome State Fault Refusal :=
  if s.bal.waiting.isEmpty ∨ !s.hasCredit 0xA8 then idle s
  else s.withDram fun s =>
    let s := s.balFlush
    match s.bal.waiting, s.bal.sweeps with
    | [], w :: _ => if w.nodesDone then .next (s.meterPass w) else .next (s.nodePass w)
    | _, _ => .next s

end Sys2Proof.Machine
end

