-- ==== Sys2Proof/Machine/Billing.lean ====
section
/-! DEFINITION. The billing engine's markers (R180, R187, R189), its sweeps (R184, R188), checkpoints (R191) and software tokens (R195). -/

namespace Sys2Proof.Machine

/-! ## Markers -/

/-- R156: the UTC second of the next balance marker, where one is due. -/
def State.balDue (s : State) : Option Nat :=
  let now := s.utcSec / s.balLen
  let last := s.bal.mark.getD now
  if s.flag Reg.BAL_CTRL_ENABLE ∧ last < now then some ((last + 1) * s.balLen) else none

/-- R180: the UTC second of the next DEMAND, where one is due. -/
def State.demDue (s : State) : Option Nat :=
  let now := s.utcSec / s.demLen
  let last := s.bill.demMark.getD now
  if s.flag Reg.BILL_CTRL_ENABLE ∧ last < now then some ((last + 1) * s.demLen) else none

/-- R187, R189: the boundary of the next CLOSE, and the last one that billing local time has passed, where one is due. -/
def State.closeDue (s : State) : Option (Nat × Nat) :=
  if s.flag Reg.BILL_CTRL_ENABLE ∧ s.getF Reg.BILL_CLOSE_CFG_MODE < 2 then
    let top := s.lastBoundary s.billLocal.toNat
    let last := max (s.bill.closeMark.getD (s.getF Reg.BILL_LAST_CLOSED_B)) (s.getF Reg.BILL_LAST_CLOSED_B)
    if last < top then some (last + 1, top) else none
  else none

/-- R180: the UTC second of a due marker, if any, at or before another marker's. -/
def dueBy (d : Option Nat) (at_ : Nat) : Bool :=
  match d with
  | some t => decide (t ≤ at_)
  | none => false

/-- R180: may the chip place a marker: it orders, and the dispatch queue has credit? -/
def State.mayMark (s : State) : Bool := s.orders && s.hasCredit 0x80

/-- R180: TB0 has reached a demand sub-interval boundary: its DEMAND is placed, after a balance marker due by then. The marker
takes its calendar generation as it is ordered (R184). -/
def execDemandMarkerPlace (s : State) : Host.Outcome State Fault Refusal :=
  match s.demDue with
  | none => idle s
  | some t =>
    if !s.mayMark || (s.flag Reg.BAL_CTRL_ENABLE && dueBy s.balDue t) then idle s
    else
      let m := t / s.demLen
      .next (({ s with bill := { s.bill with demMark := some m } }).placeMarker (.demandMarker m 0))

/-- R180, R187, R189: billing local time has reached a boundary: its CLOSE is placed. Where a forward step has passed several,
each is placed in turn and marked SKIPPED_TIME. -/
def execCloseMarkerPlace (s : State) : Host.Outcome State Fault Refusal :=
  match s.closeDue with
  | none => idle s
  | some (b, top) =>
    if !s.mayMark || s.balDue.isSome || s.demDue.isSome then idle s
    else
      let skip := if b < top then max s.bill.skipTo top else s.bill.skipTo
      .next (({ s with bill := { s.bill with closeMark := some b, skipTo := skip } }).placeMarker (.closeMarker b (decide (b ≤ skip)) s.utcSec))

/-- R180, R191: TB0 has reached a multiple of the checkpoint period: CKPT is placed, unless a checkpoint is open, one boundary at a time (R156). -/
def execCkptMarkerPlace (s : State) : Host.Outcome State Fault Refusal :=
  let now := s.utcSec / (60 * s.getF Reg.BILL_CKPT_CFG_PERIOD)
  let last := s.bill.ckptMark.getD now
  if !s.flag Reg.BILL_CTRL_ENABLE ∨ now ≤ last ∨ !s.mayMark ∨ s.balDue.isSome ∨ s.demDue.isSome ∨ s.closeDue.isSome then idle s
  else
    let s := { s with bill := { s.bill with ckptMark := some (last + 1) } }
    if s.bill.open_.isSome then .next s else .next (s.placeMarker (.ckptMarker (last + 1)))

/-! ## Sweeps -/

/-- R184: the demand sweep passes one record, unless it was passed early (R188). -/
def State.demSweepOne (s : State) (m : Nat) : State :=
  let s := s.touch m
  match s.bill.demSweeps with
  | w :: _ => if w.early.contains m then s else s.demPass1 w.c m
  | [] => s

/-- R9, R184: the oldest demand sweep visits every VALID record; it needs the DRAM, as the other sweeps do. -/
def execDemandSweep (s : State) : Host.Outcome State Fault Refusal :=
  match s.bill.demSweeps with
  | [] => idle s
  | _ :: _ => s.withDram fun s =>
    let s := s.validRecords.foldl (fun t m => t.demSweepOne m) s
    .next { s with bill := { s.bill with demSweeps := s.bill.demSweeps.drop 1 } }

/-- R188: the oldest close sweep rolls every VALID record in ascending meter index, and CLOSE_DONE follows. R192: byte 1 of the report of a replayed marker
holds REPLAYED in bit 0 (log entry 84). -/
def execCloseSweep (s : State) : Host.Outcome State Fault Refusal :=
  match s.bill.sweeps with
  | [] => idle s
  | j :: r => s.withDram fun s =>
    let s := s.validRecords.foldl (fun t m => if t.recF m 0x1E0 4 < j.b then t.touch m else t) s
    let s := (s.billReport 6 (bit1 (s.isReplayed j.order)) 0 j.order (leBytes 4 j.b ++ leBytes 4 (if j.skipped then 1 else 0))).irq Reg.BILL_IRQ_CLOSED
    let s := s.setF Reg.BILL_SWEEP_LAST_US (min (2 ^ 24 - 1) ((s.tb1 - s.bill.sweepAt) / 1000))
    .next { s with bill := { s.bill with sweeps := r, sweepAt := s.tb1 } }

/-- R191: the checkpoint sweep copies every record whose CK differs from the phase, in ascending index. -/
def execCkptSweep (s : State) : Host.Outcome State Fault Refusal :=
  if s.bill.open_.isNone then idle s
  else s.withDram fun s =>
    let s := (List.range 1048576).foldl (fun t m => t.ckptCopy m) s
    .next { s with bill := { s.bill with open_ := s.bill.open_.map (fun c => { c with swept := true }) } }

/-- R191: every part of the open checkpoint is durable on the billing snapshot volume: CKPT_DONE, and the two latest complete
checkpoints are kept. Where the volume takes no write, the failure is recorded. -/
def execCkptComplete (s : State) : Host.Outcome State Fault Refusal :=
  match s.bill.open_ with
  | none => idle s
  | some c =>
    if !c.swept then idle s
    else if s.volState ≠ 0 then .next (s.err 0x16 0x0101 s.volState)
    else
      let s := { s with bill := { s.bill with open_ := none, complete := ({ c with durable := true } :: s.bill.complete).take 2 } }
      .next (((s.setF Reg.BILL_STAT_CKPT_OPEN 0).irq Reg.BILL_IRQ_CKPT_DONE).billReport 7 (bit1 (s.isReplayed c.order)) 0 c.order (leBytes 6 c.order))

/-! ## Software tokens -/

/-- R195: the 20 digits of a software token in ASCII. -/
def State.tokDigits (s : State) : Bytes :=
  decDigits 5 (s.getF Reg.BILL_TOK_D0_DIGITS) ++ decDigits 5 (s.getF Reg.BILL_TOK_D1_DIGITS) ++
    decDigits 5 (s.getF Reg.BILL_TOK_D2_DIGITS) ++ decDigits 5 (s.getF Reg.BILL_TOK_D3_DIGITS)

/-- R195, R201, R313: a write of `BILL.TOK_GO`. The entry goes to the dispatch queue as soon as that has credit, and GO stays 1 until it is ordered. On a
twin that is not ACTIVE it ends with TWIN_REPLICA. -/
def execTokGo (req : Req) (data : Word) (s : State) : Host.Outcome State Fault Refusal :=
  let busy := s.flag Reg.BILL_TOK_GO_GO
  .next (s.onAction req Reg.BILL_TOK_GO_GO data.toNat fun s =>
    let m := bitsOf data.toNat 19 0
    let bad (f : Field) : Bool := decide (99999 < s.getF f)
    if bitAt data.toNat 31 = 0 then s
    else if !s.orders then s.err 0x30 0x0100 (accessInfo 0x16 req Reg.BILL_TOK_GO_GO.off)
    else if busy then s.refuseAt req Reg.BILL_TOK_GO_GO 0x0100
    else if s.getF Reg.DIR_ROLE_LIMIT_METERS ≤ m || bad Reg.BILL_TOK_D0_DIGITS || bad Reg.BILL_TOK_D1_DIGITS ||
        bad Reg.BILL_TOK_D2_DIGITS || bad Reg.BILL_TOK_D3_DIGITS then s.refuseAt req Reg.BILL_TOK_GO_GO Err.valueRefused
    else if !s.flag Reg.BILL_CTRL_ENABLE then s
    else
      let t := s.setF Reg.BILL_TOK_GO_GO 1
      State.tokenIn { t with bill := { t.bill with token := some (t.tokDigits, m) } })

end Sys2Proof.Machine
end

