-- ==== Sys2Proof/Machine/CryptoEd.lean ====
section
/-! DEFINITION. X448 (RFC 7748), Ed448 and Ed448ph (RFC 8032), which Mortar performs (R406). The spec names the standards; their steps are taken from them (PRESUMED, log entry 6). -/

namespace Sys2Proof.Machine

/-- The field prime 2^448 − 2^224 − 1. -/
def p448 : Nat := 2 ^ 448 - 2 ^ 224 - 1

/-- The group order of Ed448. -/
def l448 : Nat := 2 ^ 446 - 13818066809895115352007386748515426880336692474882178609894547503885

/-- Addition in the field. -/
def fAdd (a b : Nat) : Nat := (a + b) % p448
/-- Subtraction in the field. -/
def fSub (a b : Nat) : Nat := (a + p448 - b % p448) % p448
/-- Multiplication in the field. -/
def fMul (a b : Nat) : Nat := a * b % p448

/-- Exponentiation, `n` bits of the exponent left, bit n − 1 first. -/
def fPowBits : Nat → Nat → Nat → Nat → Nat
  | 0, _, _, acc => acc
  | n + 1, a, e, acc =>
    let sq := fMul acc acc
    fPowBits n a e (if (e >>> n) % 2 = 1 then fMul sq a else sq)

/-- Exponentiation in the field. -/
def fPow (a e : Nat) : Nat := fPowBits 448 (a % p448) e 1

/-- The inverse in the field. -/
def fInv (a : Nat) : Nat := fPow a (p448 - 2)

/-! ## X448 -/

/-- The state of the Montgomery ladder. -/
structure Ladder where
  x2 : Nat
  z2 : Nat
  x3 : Nat
  z3 : Nat
  deriving DecidableEq, Repr

/-- One ladder step for a scalar bit. -/
def ladderStep (x1 : Nat) (bit : Bool) (l : Ladder) : Ladder :=
  let l := if bit then ⟨l.x3, l.z3, l.x2, l.z2⟩ else l
  let a := fAdd l.x2 l.z2
  let aa := fMul a a
  let b := fSub l.x2 l.z2
  let bb := fMul b b
  let e := fSub aa bb
  let c := fAdd l.x3 l.z3
  let d := fSub l.x3 l.z3
  let da := fMul d a
  let cb := fMul c b
  let s := fAdd da cb
  let t := fSub da cb
  let r : Ladder := ⟨fMul aa bb, fMul e (fAdd aa (fMul 39081 e)), fMul s s, fMul x1 (fMul t t)⟩
  if bit then ⟨r.x3, r.z3, r.x2, r.z2⟩ else r

/-- The ladder over the low `n` bits of the scalar, highest first. -/
def ladder (x1 k : Nat) : Nat → Ladder → Ladder
  | 0, l => l
  | n + 1, l => ladder x1 k n (ladderStep x1 (decide ((k >>> n) % 2 = 1)) l)

/-- The clamped scalar of X448. -/
def x448Scalar (k : Bytes) : Nat :=
  let v := leNat (slice k 0 56)
  v / 4 * 4 % 2 ^ 447 + 2 ^ 447

/-- X448 of a 56-byte scalar and a 56-byte u-coordinate. -/
def x448 (k u : Bytes) : Bytes :=
  let x1 := leNat (slice u 0 56) % p448
  let l := ladder x1 (x448Scalar k) 448 ⟨1, 0, x1, 1⟩
  leBytes 56 (fMul l.x2 (fInv l.z2))

/-- The base point of X448. -/
def x448Base : Bytes := 5 :: List.replicate 55 0

/-! ## Ed448 -/

/-- A point in projective coordinates. -/
structure EdPoint where
  x : Nat
  y : Nat
  z : Nat
  deriving DecidableEq, Repr

/-- The curve constant d = −39081. -/
def edD : Nat := p448 - 39081

/-- Point addition. -/
def edAdd (p q : EdPoint) : EdPoint :=
  let a := fMul p.z q.z
  let b := fMul a a
  let c := fMul p.x q.x
  let d := fMul p.y q.y
  let e := fMul edD (fMul c d)
  let f := fSub b e
  let g := fAdd b e
  let h := fMul (fAdd p.x p.y) (fAdd q.x q.y)
  ⟨fMul (fMul a f) (fSub (fSub h c) d), fMul (fMul a g) (fSub d c), fMul f g⟩

/-- The neutral point. -/
def edZero : EdPoint := ⟨0, 1, 1⟩

/-- Scalar multiplication over the low `n` bits, highest first. -/
def edMul (k : Nat) (p : EdPoint) : Nat → EdPoint → EdPoint
  | 0, acc => acc
  | n + 1, acc =>
    let d := edAdd acc acc
    edMul k p n (if (k >>> n) % 2 = 1 then edAdd d p else d)

/-- k · P for a scalar below 2^448. -/
def edScale (k : Nat) (p : EdPoint) : EdPoint := edMul k p 448 edZero

/-- The base point of Ed448. -/
def edBase : EdPoint :=
  ⟨224580040295924300187604334099896036246789641632564134246125461686950415467406032909029192869357953282578032075146446173674602635247710,
   298819210078481492676017930443930673437544040154080242095928241372331506189835876003536878655418784733982303233503462500531545062832660, 1⟩

/-- The 57-byte encoding of a point. -/
def edEncode (p : EdPoint) : Bytes :=
  let zi := fInv p.z
  let x := fMul p.x zi
  let y := fMul p.y zi
  leBytes 56 y ++ [BitVec.ofNat 8 (x % 2 * 128)]

/-- Decode a 57-byte point; none where it is not on the curve. -/
def edDecode (b : Bytes) : Option EdPoint :=
  let y := leNat (slice b 0 56)
  let last := leAt b 56 1
  if b.length ≠ 57 ∨ last % 128 ≠ 0 ∨ p448 ≤ y then none
  else
    let u := fSub (fMul y y) 1
    let v := fSub (fMul edD (fMul y y)) 1
    -- x = u^3 v (u^5 v^3)^((p − 3) / 4)
    let u2 := fMul u u
    let u3 := fMul u2 u
    let u5 := fMul u3 u2
    let v3 := fMul v (fMul v v)
    let x := fMul (fMul u3 v) (fPow (fMul u5 v3) ((p448 - 3) / 4))
    if fMul v (fMul x x) ≠ u then none
    else
      let sign := last / 128
      if x = 0 ∧ sign = 1 then none
      else some ⟨if x % 2 = sign then x else fSub 0 x, y, 1⟩

/-- dom4 of RFC 8032 with an empty context. -/
def dom4 (ph : Bool) : Bytes := ascii "SigEd448" ++ [if ph then 1 else 0, 0]

/-- The message that is signed: itself, or its 64-byte SHAKE256 prehash. -/
def edMessage (ph : Bool) (m : Bytes) : Bytes := if ph then shake256 m 64 else m

/-- The secret scalar and prefix of a 57-byte seed. -/
def edSecret (seed : Bytes) : Nat × Bytes :=
  let h := shake256 seed 114
  let v := leNat (h.take 56)
  (v / 4 * 4 % 2 ^ 447 + 2 ^ 447, h.drop 57)

/-- The public key of a seed. -/
def edPublic (seed : Bytes) : Bytes := edEncode (edScale (edSecret seed).1 edBase)

/-- An Ed448 signature, 114 bytes. -/
def edSign (seed : Bytes) (ph : Bool) (m : Bytes) : Bytes :=
  let (a, pre) := edSecret seed
  let pub := edEncode (edScale a edBase)
  let msg := edMessage ph m
  let r := leNat (shake256 (dom4 ph ++ pre ++ msg) 114) % l448
  let rEnc := edEncode (edScale r edBase)
  let k := leNat (shake256 (dom4 ph ++ rEnc ++ pub ++ msg) 114) % l448
  rEnc ++ leBytes 57 ((r + k * a) % l448)

/-- Equality of points in projective coordinates. -/
def edEq (p q : EdPoint) : Bool :=
  fMul p.x q.z == fMul q.x p.z && fMul p.y q.z == fMul q.y p.z

/-- Ed448 verification. -/
def edVerify (pub : Bytes) (ph : Bool) (m sig : Bytes) : Bool :=
  match edDecode pub, edDecode (sig.take 57) with
  | some a, some r =>
    let s := leNat (slice sig 57 57)
    if sig.length ≠ 114 ∨ l448 ≤ s then false
    else
      let k := leNat (shake256 (dom4 ph ++ sig.take 57 ++ pub ++ edMessage ph m) 114) % l448
      let lhs := edScale (4 * s % l448) edBase
      let rhs := edAdd (edScale 4 r) (edScale 4 (edScale k a))
      edEq lhs rhs
  | _, _ => false

end Sys2Proof.Machine
end

