-- ==== Sys2Proof/Machine/PowerDown.lean ====
section
/-! DEFINITION. What is left of the state when domains lose their clocks and their content (R12, R388, R426, R436), and the zeroised regions of a tamper response (R411, R413). -/

namespace Sys2Proof.Machine

/-- R9, R447, R486: does a register key belong to a page of SLOW or AON, or to the windows of the conditioners or of the snapshot lists? -/
def aonKey (k : Nat) : Bool :=
  let p := keyPage k
  if p < 0x10000 then Reg.slowOrAon (p % 0x1000) else p / 0x10000 == 2 || p / 0x10000 == 3

/-- R232, R421, R443, R446: is a register held on the retention supply? -/
def retainedKey (k : Nat) : Bool :=
  let p := keyPage k
  (decide (p < 0x10000) && (p % 0x1000 == 0x04 || p % 0x1000 == 0x0C)) || p / 0x10000 == 3 || k == Reg.PWR_BOOT_CFG_TARGET.key

/-- R456, R457, R461: the registers of the LCS page that a power-on reset alone clears, and the challenge count and what the fuses
gave, which nothing clears. -/
def lcsKept (aon : Bool) (k : Nat) : Bool :=
  k == Reg.LCS_CNT_CNT.key || k == Reg.LCS_STAT_LC.key || k == Reg.LCS_STAT_DBG_STATE.key || k == Reg.LCS_STAT_ENROLLED.key ||
    (aon && (k == Reg.LCS_STAT_DBG_CTX.key || k == Reg.LCS_STAT_DBG_LOCKOUT.key || k == Reg.LCS_DBG_FAIL_CNT_CNT.key || k == Reg.LCS_DBG_OPEN_CNT_CNT.key))

/-- R7, R23: does a byte of memory survive: the VBAT SRAM always, the Kettle SRAM while AON runs? -/
def keptAddr (aon : Bool) (a : Nat) : Bool :=
  (decide (0x02000000 ≤ a) && decide (a ≤ 0x02003FFF)) || (aon && decide (0x01000000 ≤ a) && decide (a ≤ 0x0100FFFF))

/-- R336, R344, R355: what of the FTL's state is on the medium; the dies are RESET when the chip starts again. The new blocks of a write that had not ended are not mapped, and wait for their erase. -/
def FtlState.onMedium (f : FtlState) : FtlState :=
  { f with
    dies := f.dies.foldl (fun l e => sput {} l e.1 { e.2 with feature := none }) [],
    blks := (f.jobs.flatMap (fun j => j.fresh)).foldl (fun b e => sput {} b e.2.2 { sget {} b e.2.2 with use := .stale }) f.blks,
    ops := [], jobs := [], journal := 0, journalAt := 0, gaps := [], spareSet := 0, mounted1 := false, rateBytes := 0, rateSec := 0 }

/-- R378–R416: what of the root of trust survives: the OTP, the blobs on SETTINGS and the mesh monitor. -/
def SecState.kept_ (x : SecState) : SecState :=
  { otp := x.otp, blobs := x.blobs, kept := x.kept, cert := x.cert, meshWord := x.meshWord, meshBad := x.meshBad, meshAt := x.meshAt, tamped := x.tamped }

/-- R467, R479: what of the update block is in UPD_MAP. A session whose manifest was not written has not begun. -/
def UpdState.onMedium (u : UpdState) : UpdState :=
  let u : UpdState := { u with waiting := [], act := none, partnerMA := [] }
  if sget false u.bitmap 0 then u else { u with state := 0, manifest := [], bitmap := [] }

/-- R214, R220: the TIME domain loses its content: the AON counter keeps FREQ_ADJ, and no mains period is measured any more. -/
def TimeState.aon (x : TimeState) (adj : Int) : TimeState :=
  { x with adj := adj, ppsDue := false, measured := false, zcCand := none, zcIvls := [], slew := 0, slewRem := 0 }

/-- R12, R388, R426: every domain but SLOW, and AON where `aon` holds, loses its content: what the retention supply, AON, the OTP, the NOR and the NAND
hold stays. -/
def State.powerDown (s : State) (aon : Bool) : State :=
  let keepR : Nat → Bool := if aon then aonKey else retainedKey
  let t : State :=
    { State.reset with
      regs := s.regs.filter (fun e => keepR e.1 || lcsKept aon e.1), eff := s.eff.filter (fun e => keepR e.1),
      mem := s.mem.filter (fun e => keptAddr aon e.1), bad := s.bad.filter (fun e => keptAddr aon e.1), soft := s.soft.filter (fun e => keptAddr aon e.1), corrected := s.corrected, packs := s.packs,
      queues := if aon then s.queues.filter (fun e => Reg.slowOrAon (qPage e.1)) else [],
      txns := if aon then s.txns else [],
      bus := s.bus, tb0 := s.tb0, tb1 := s.tb1, tb3 := s.tb0, role := s.role, time := s.time.aon s.freqAdj, power := s.power, sent := s.sent,
      ftl := s.ftl.onMedium, bill := { complete := s.bill.complete.filter (fun c => c.durable), snaps := s.bill.snaps },
      panel := { lockUntil := s.panel.lockUntil }, uplink := { wakeCtr := s.uplink.wakeCtr },
      sec := s.sec.kept_, upd := s.upd.onMedium, evr := s.evr,
      free := s.free, pending := s.pending }
  let t := (t.setF Reg.CLK_STAT_DOM_RUN (if aon then 3 else 1)).setF Reg.LCS_STAT_DBG_OPEN (if s.getF Reg.LCS_STAT_DBG_STATE = 0 then 1 else 0)
  if aon then t.setF Reg.CLK_PLL_LOCK_LOCK (s.getF Reg.CLK_PLL_LOCK_LOCK % 2) else t

/-- R413: the VBAT key region is zeroised. -/
def State.clearVkr (s : State) : State := s.write 0x02003C00 (List.replicate 0x400 0)

/-- R414: a new challenge for a release. -/
def State.newChallenge (s : State) : State :=
  let (d, s) := s.drawBytes 32
  (s.setBytes (fun k => Reg.TAMP_LD_CHAL_DATA k) 8 d).count Reg.TAMP_LD_CNT_CNT

/-- R413, R414, R423, R456: the chip enters LOCKDOWN: FABRIC and every other domain but SLOW and AON stop, the VBAT key region is zeroised, and a challenge is
placed. -/
def State.lockdown (s : State) : State :=
  let s := (s.powerDown true).clearVkr.newChallenge
  let s := (s.setF Reg.TAMP_STAT_LOCKDOWN 1).setF Reg.PWR_STAT_BOOT_STEP 0
  ({ s with power := { s.power with target := none, stop := none } } : State).toMode .lockdown

end Sys2Proof.Machine
end

