-- ==== Sys2Proof/Machine/KeyCmd.lean ====
section
/-! DEFINITION. The KEY page: key commands (R389–R391, R417, R509), erases (R393), masks (R388) and the true random number generator (R408, R409). -/

namespace Sys2Proof.Machine

/-! ## Erases -/

/-- The Cleaver units whose frame has latched a slot. -/
def State.holders (s : State) (n : Nat) : List Nat :=
  (List.range 4).filter (fun u => match s.unitRun u with
    | some r => r.slot == some n && !r.revoked
    | none => false)

/-- R275, R393: every operation that holds a slot is aborted: frames in Cleaver, and frames on air. -/
def State.abortHolders (s : State) (n : Nat) : State :=
  let l := s.holders n
  let t := l.foldl (fun t u => match t.unitRun u with
    | some r => t.setUnitRun u (some { r with revoked := true })
    | none => t) s
  let r := s.radHolders n
  let t := r.foldl State.abortTx t
  if l.isEmpty && r.isEmpty then s
  else ((t.count Reg.KEY_REVOKED_CNT_CNT (l.length + r.length)).irq Reg.KEY_IRQ_REVOKED).event .keyRevoked 0x08 [BitVec.ofNat 8 n]

/-- R391, R393: a slot is emptied, and its GEN increments. -/
def State.eraseSlot (s : State) (n : Nat) : State :=
  (s.abortHolders n).setSlotK n { gen := ((s.slot n).gen + 1) % 65536 }

/-- R393, R417: every slot is erased. -/
def State.eraseAll (s : State) : State :=
  ((List.range 64).foldl (fun t n => t.eraseSlot n) s).irq Reg.KEY_IRQ_ZEROISED

/-- R417: a TRUSTED write of 1 to `KEY.CTRL.ZEROISE`. -/
def execKeyZeroise (req : Req) (s : State) : Host.Outcome State Fault Refusal :=
  .next (s.onField req Reg.KEY_CTRL_ZEROISE State.eraseAll)

/-- R388: every 1 ms each slot's mask is replaced from the Canister's stream; the key stays. -/
def execKeyRemask (s : State) : Host.Outcome State Fault Refusal :=
  if !s.domOn .fabric ∨ s.tb1 < s.sec.remaskAt + 1000000 then idle s
  else
    let t := (List.range 64).foldl (fun t n =>
      let k := t.slot n
      let (m, u) := t.drawBytes k.share.length
      if k.full then u.setSlotK n { k with share := xorB k.share m, mask := xorB k.mask m } else t) s
    .next ({ t with sec := { t.sec with remaskAt := t.tb1 } }.count Reg.KEY_REMASK_CNT_CNT)

/-! ## Commands -/

/-- R417: the lengths that LEN_SEL names. -/
def keyLen (sel : Nat) : Nat := [16, 32, 56, 57].getD sel 0

/-- R390: the length of an UNWRAP blob. -/
def blobLen (sel : Nat) : Nat := [32, 48, 72, 72].getD sel 0

/-- R390: the plaintext of a blob: GEN, DEST, USAGE, EXPORT and LEN, and the key. -/
def blobPlain (k : KeySlot) : Bytes :=
  leBytes 2 k.gen ++ leBytes 2 k.dest ++ leBytes 1 k.usage ++ leBytes 1 (k.key.length + if k.export_ then 128 else 0) ++ k.key

/-- R390: the attributes and the key of a blob's plaintext; none where its LEN is not that of its key, or another than `len`. -/
def blobRead (b : Bytes) (len : Nat) : Option (KeySlot × Bytes) :=
  if b.length = 6 + len ∧ leAt b 5 1 % 128 = len then
    some ({ gen := leAt b 0 2, dest := leAt b 2 2 % 512, usage := leAt b 4 1 % 128, export_ := decide (128 ≤ leAt b 5 1) }, b.drop 6)
  else none

/-- R409: the TRNG is OK. -/
def State.trngOk (s : State) : Bool := s.getF Reg.TRNG_STAT_STATE == 2

/-- R404, R409: does a load with these usages need counter bits of the TRNG: can the key encrypt or make a GMAC tag? -/
def needsCtr (usage : Nat) : Bool := bitAt usage Usage.enc == 1 || bitAt usage Usage.macGen == 1

/-- R390: does a command read its source slot? -/
def KeyCmd.readsSlot (c : KeyCmd) : Bool := (c.op == 4 && c.kind == 0) || c.op == 6 || c.op == 7

/-- R390: the key that a command reads as its source. -/
def State.keySource (s : State) (c : KeyCmd) : Bytes :=
  if c.op ≠ 4 ∨ c.kind = 0 then (s.slot c.source).key
  else if c.kind = 1 then s.sec.tId
  else if c.kind = 2 then s.sec.tSeal
  else []

/-- R390: the attributes of `KEY.CMD_ATTR`, with the next GEN of the target. -/
def State.newAttrs (s : State) (c : KeyCmd) : KeySlot :=
  { dest := bitsOf c.attr 24 16, usage := bitsOf c.attr 14 8, export_ := bitAt c.attr 30 == 1, gen := ((s.slot c.target).gen + 1) % 65536,
    owner := c.req.code }

/-- R390: would a NARROW set a bit? -/
def KeySlot.widens (old new : KeySlot) : Bool :=
  (new.dest &&& old.dest) != new.dest || (new.usage &&& old.usage) != new.usage || (new.export_ && !old.export_)

/-- R390: the blob of an UNWRAP, opened. -/
def State.unwrapped (s : State) (c : KeyCmd) : Option (KeySlot × Bytes) :=
  (aesKwpUnwrap (s.keySource c) (c.data.take (blobLen c.len))).bind (fun b => blobRead b (keyLen c.len))

/-- R390: the status with which a command is refused, on the first condition that applies; 0 where it runs. -/
def State.keyRefusal (s : State) (c : KeyCmd) : Nat :=
  let src := s.slot c.source
  let tgt := s.slot c.target
  if c.op = 0 then 0x010B
  else if 3 < c.len then 0x010A
  else if c.req ≠ .trusted ∧ (c.target < 8 ∨ (c.readsSlot ∧ c.source < 8) ∨ (c.op = 4 ∧ c.kind = 1) ∨ c.op = 7) then 0x0100
  else if ((c.readsSlot ∨ c.op = 4) ∧ (s.keySource c).isEmpty) ∨ ((c.op = 3 ∨ c.op = 7) ∧ !tgt.full) then 0x0105
  else if (c.op = 4 ∧ c.kind = 0 ∧ !src.may Usage.derive) ∨ (c.op = 6 ∧ !src.may Usage.dec) ∨ (c.op = 7 ∧ !src.may Usage.enc) then 0x0102
  else if c.op = 7 ∧ !tgt.export_ then 0x0102
  else if (c.op = 6 ∨ c.op = 7) ∧ 32 < src.key.length then 0x010A
  else if c.op = 3 ∧ tgt.widens (s.newAttrs c) then 0x0101
  else if c.op = 5 ∧ !s.trngOk then 0x0107
  else if (c.op = 1 ∨ c.op = 4) ∧ needsCtr (s.newAttrs c).usage ∧ !s.trngOk then 0x0107
  else if c.op = 6 then
    match s.unwrapped c with
    | none => 0x0106
    | some (k, _) => if needsCtr k.usage && !s.trngOk then 0x0107 else 0
  else 0

/-- R390: the effect of a command that is not refused. -/
def State.keyEffect (s : State) (c : KeyCmd) : State :=
  let a := s.newAttrs c
  let tgt := s.slot c.target
  match c.op with
  | 1 => (s.loadSlot c.target (c.data.take (keyLen c.len)) a).setBytes (fun k => Reg.KEY_KEY_DATA_DATA k) 18 []
  | 2 => s.eraseSlot c.target
  | 3 => s.setSlotK c.target { tgt with dest := tgt.dest &&& a.dest, usage := tgt.usage &&& a.usage, export_ := tgt.export_ && a.export_ }
  | 4 => s.loadSlot c.target (kmac (s.keySource c) (BitVec.ofNat 8 c.req.code :: c.label) (keyLen c.len)) a
  | 5 =>
    let (d, t) := s.drawBytes (keyLen c.len)
    t.loadSlot c.target d a
  | 6 =>
    match s.unwrapped c with
    | some (k, key) => s.loadSlot c.target key { k with owner := c.req.code }
    | none => s
  | 7 => s.setBytes (fun k => Reg.KEY_WRAP_OUT_DATA k) 18 (aesKwp (s.keySource c) (blobPlain tgt))
  | _ => s

/-- R390, R417: a command begins: the last WRAP's result is cleared, and its own effect takes place; what the target held is kept for an abort. -/
def State.keyRun (s : State) (c : KeyCmd) : State × KeyJob :=
  let t := s.setBytes (fun k => Reg.KEY_WRAP_OUT_DATA k) 18 []
  let st := t.keyRefusal c
  if st ≠ 0 then (t, { cmd := c, ran := true, status := st })
  else (t.keyEffect c, { cmd := c, ran := true, undo := if c.op = 2 ∨ c.op = 3 ∨ c.op = 7 then none else some (t.slot c.target) })

/-- R470: is Trivet being activated? -/
def State.trivetBusy (s : State) : Bool :=
  match s.upd.act with
  | some a => a.part == 0
  | none => false

/-- Replace the commands that have not ended. -/
def State.setJobs (s : State) (l : List KeyJob) : State := { s with sec := { s.sec with jobs := l } }

/-- R470: the commands that waited begin, in the order of their writes. -/
def State.runJobs (s : State) : State :=
  let (t, l) := s.sec.jobs.foldl (fun r j =>
    if j.ran then (r.1, r.2 ++ [j])
    else
      let (t, k) := r.1.keyRun j.cmd
      (t, r.2 ++ [k])) (s, [])
  t.setJobs l

/-- R390, R417: the command that the registers name. -/
def State.keyCmd (s : State) (req : Req) : KeyCmd :=
  { req := req, op := s.getF Reg.KEY_CMD_OP, target := s.getF Reg.KEY_CMD_TARGET, source := s.getF Reg.KEY_CMD_SOURCE,
    kind := s.getF Reg.KEY_CMD_SRC_KIND, len := s.getF Reg.KEY_CMD_LEN_SEL,
    attr := s.getF Reg.KEY_CMD_ATTR_EXPORT * 2 ^ 30 + s.getF Reg.KEY_CMD_ATTR_DEST * 2 ^ 16 + s.getF Reg.KEY_CMD_ATTR_USAGE * 2 ^ 8,
    label := s.getBytes (fun k => Reg.KEY_LABEL_DATA k) (min 64 (s.getF Reg.KEY_LABEL_LEN_BYTES)),
    data := s.getBytes (fun k => Reg.KEY_KEY_DATA_DATA k) 72 }

/-- R390: a command joins those that have not ended. -/
def State.keyQueue (s : State) (c : KeyCmd) : State :=
  let t := (s.setF Reg.KEY_STAT_BUSY 1).setF Reg.KEY_CMD_STAT_BUSY 1
  t.setJobs (t.sec.jobs ++ [{ cmd := c }])

/-- R390, R509: GO: the command that the registers name begins; while Trivet is activated it waits. -/
def State.keyGo (s : State) (req : Req) : State :=
  let u := s.keyQueue (s.keyCmd req)
  if u.trivetBusy then u else u.runJobs

/-- R390: the word of `KEY.CMD` with GO. -/
def keyWord (op : Nat) (target source : BitVec 6) (kind : BitVec 2) (lenSel : BitVec 6) : Nat :=
  2 ^ 31 + op * 2 ^ 24 + target.toNat * 2 ^ 16 + source.toNat * 2 ^ 8 + kind.toNat * 2 ^ 6 + lenSel.toNat

/-- R390: a write of `KEY.CMD` with GO. -/
def State.keyWrite (s : State) (req : Req) (w : Nat) : State := s.onAction req Reg.KEY_CMD_GO w fun s => s.keyGo req

/-- R390: LOAD. -/
def execKeyLoad (req : Req) (target source : BitVec 6) (kind : BitVec 2) (lenSel : BitVec 6) (s : State) : Host.Outcome State Fault Refusal :=
  .next (s.keyWrite req (keyWord 1 target source kind lenSel))

/-- R390, R393: ERASE. -/
def execKeyErase (req : Req) (target source : BitVec 6) (kind : BitVec 2) (lenSel : BitVec 6) (s : State) : Host.Outcome State Fault Refusal :=
  .next (s.keyWrite req (keyWord 2 target source kind lenSel))

/-- R389, R390: NARROW. -/
def execKeyNarrow (req : Req) (target source : BitVec 6) (kind : BitVec 2) (lenSel : BitVec 6) (s : State) : Host.Outcome State Fault Refusal :=
  .next (s.keyWrite req (keyWord 3 target source kind lenSel))

/-- R390: DERIVE. -/
def execKeyDerive (req : Req) (target source : BitVec 6) (kind : BitVec 2) (lenSel : BitVec 6) (s : State) : Host.Outcome State Fault Refusal :=
  .next (s.keyWrite req (keyWord 4 target source kind lenSel))

/-- R390: GENERATE. -/
def execKeyGenerate (req : Req) (target source : BitVec 6) (kind : BitVec 2) (lenSel : BitVec 6) (s : State) : Host.Outcome State Fault Refusal :=
  .next (s.keyWrite req (keyWord 5 target source kind lenSel))

/-- R390: UNWRAP. -/
def execKeyUnwrap (req : Req) (target source : BitVec 6) (kind : BitVec 2) (lenSel : BitVec 6) (s : State) : Host.Outcome State Fault Refusal :=
  .next (s.keyWrite req (keyWord 6 target source kind lenSel))

/-- R390: WRAP. -/
def execKeyWrap (req : Req) (target source : BitVec 6) (kind : BitVec 2) (lenSel : BitVec 6) (s : State) : Host.Outcome State Fault Refusal :=
  .next (s.keyWrite req (keyWord 7 target source kind lenSel))

/-- R390, R509: a command ends with a status. -/
def State.keyEnd (s : State) (status : Nat) (rest : List KeyJob) : State :=
  let t := (if status = 0 then s else s.err 0x08 status 0).setF Reg.KEY_CMD_STAT_STATUS status
  let t := (t.irq Reg.KEY_IRQ_CMD_DONE).setJobs rest
  if rest.isEmpty then (t.setF Reg.KEY_STAT_BUSY 0).setF Reg.KEY_CMD_STAT_BUSY 0 else t

/-- R509: the oldest command that runs ends. -/
def execKeyCmdDone (s : State) : Host.Outcome State Fault Refusal :=
  match s.sec.jobs with
  | [] => idle s
  | j :: r => if j.ran then .next (s.keyEnd j.status r) else idle s

/-- R412: every command in progress ends with TAMPER_ABORT, and nothing of its output is delivered. -/
def State.abortKeys (s : State) : State :=
  let t := s.sec.jobs.reverse.foldl (fun t j => match j.undo with
    | some k => t.setSlotK j.cmd.target k
    | none => t) s
  if s.sec.jobs.isEmpty then s
  else (t.setBytes (fun k => Reg.KEY_WRAP_OUT_DATA k) 18 []).keyEnd 0x0108 []

/-! ## Random numbers -/

/-- R408: the start-up test passes, and output begins. -/
def execTrngStartupDone (s : State) : Host.Outcome State Fault Refusal :=
  if s.domOn .fabric ∧ s.flag Reg.TRNG_CTRL_ENABLE ∧ s.getF Reg.TRNG_STAT_STATE = 1 then .next (s.setF Reg.TRNG_STAT_STATE 2)
  else idle s

/-- R409: a health test fails, the repetition count test or the adaptive proportion test: the TRNG restarts, and at the third failure within 3,600 s
it has FAILED. -/
def execTrngHealthFail (apt : Bool) (s : State) : Host.Outcome State Fault Refusal :=
  if !s.domOn .fabric ∨ !s.flag Reg.TRNG_CTRL_ENABLE ∨ s.getF Reg.TRNG_STAT_STATE = 0 ∨ s.getF Reg.TRNG_STAT_STATE = 3 then idle s
  else .next (s.settling fun s =>
    let s := (s.count (if apt then Reg.TRNG_APT_FAIL_CNT_CNT else Reg.TRNG_RCT_FAIL_CNT_CNT)).irq Reg.TRNG_IRQ_HEALTH_FAIL
    let l := s.tb1 :: s.sec.trngFails.filter (fun t => decide (s.tb1 ≤ t + 3600 * nsPerS))
    let s : State := { s with sec := { s.sec with trngFails := l } }
    if 3 ≤ l.length then ((s.setF Reg.TRNG_STAT_STATE 3).irq Reg.TRNG_IRQ_FAILED).event .trngFailed 0x0B
    else s.setF Reg.TRNG_STAT_STATE 1)

/-- R409, R420: a read of `TRNG.DATA`. A read by DEBUG takes no word from the stream and records nothing (R31): it shows the word that the next
read takes. -/
def execTrngDataRead (req : Req) (s : State) : Host.Outcome State Fault Refusal :=
  .next (s.onRead req 0x0B 0x100 fun s =>
    if req = .debug then s.answer (if s.trngOk then s.drawWord.1.toNat else 0)
    else if s.trngOk then
      let (w, t) := s.drawWord
      t.answer w.toNat
    else s.err 0x0B 0x0100 0)

/-- R420: `TRNG.CTRL.ENABLE` takes a value: the source starts with its start-up test, or stops. -/
def State.trngEnable (s : State) (on : Bool) : State :=
  if on then if s.getF Reg.TRNG_STAT_STATE = 0 then s.setF Reg.TRNG_STAT_STATE 1 else s
  else if s.getF Reg.TRNG_STAT_STATE = 3 then s else s.setF Reg.TRNG_STAT_STATE 0

end Sys2Proof.Machine
end

