-- ==== Sys2Proof/Machine/Tamper.lean ====
section
/-! DEFINITION. The tamper monitor and the release from LOCKDOWN (R410–R414, R421, R460). -/

namespace Sys2Proof.Machine

/-- R411: ZEROISE in a running mode: every slot is erased, the root, the trunks and the VBAT key region are cleared, and TAMPER_LATCH is set. -/
def State.tamperZeroise (s : State) : State :=
  let t := s.eraseAll.clearVkr
  let t : State := { t with sec := { t.sec with root := [], tId := [], tSeal := [], prevSeal := [], transport := [] } }
  ((t.setF Reg.KEY_STAT_ROOT_VALID 0).setF Reg.KEY_STAT_SEAL_VALID 0).setF Reg.TAMP_STAT_TAMPER_LATCH 1

/-- R411, R412, R421: an assertion of a source is recorded, and the key operations in progress are aborted. -/
def State.noteTamper (s : State) (n : Nat) : State :=
  let t := s.setF Reg.TAMP_STAT_ACTIVE (withBits (s.getF Reg.TAMP_STAT_ACTIVE) n n 1)
  let t := t.setF Reg.TAMP_SEEN_SRC (withBits (t.getF Reg.TAMP_SEEN_SRC) n n 1)
  let t := ((t.count Reg.TAMP_TAMPER_CNT_CNT).irq Reg.TAMP_IRQ_TAMPER).event .tamper 0x0C [BitVec.ofNat 8 n]
  let t := if t.sec.tamped then t
    else ({ t with sec := { t.sec with tamped := true } } : State).setF Reg.TAMP_FIRST_MODE s.mode.code |>.setF Reg.TAMP_FIRST_SRC n
      |>.setF Reg.TAMP_FIRST_TIME_SEC (s.getF Reg.RTC_RTC_SEC_SEC)
  t.abortKeys

/-- R411, R460: the response in force: in MANUFACTURE, ZEROISE and LOCKDOWN act as LOG. -/
def State.tamperResponse (s : State) (n : Nat) : Nat :=
  let r := s.getF (Reg.TAMP_SRC_CFG_RESPONSE n)
  if s.getF Reg.LCS_STAT_LC = 0 then min r 1 else r

/-- R411, R423, R424, R459: a source asserts, and takes its response for the moment it falls in. -/
def State.tamper (s : State) (n : Nat) : State :=
  let r := s.tamperResponse n
  if r = 0 then s
  else
    let t := s.noteTamper n
    if t.startingUp ∧ t.sec.tId.isEmpty then (t.event .tamperResponse 0x0C [BitVec.ofNat 8 r]).lockdown
    else if t.mode = .lockdown then t
    else if t.mode = .backup ∨ t.mode = .dormant ∨ t.mode = .listen then
      if r = 1 then t.wake 3 2
      else
        let t := (t.clearVkr.setF Reg.TAMP_STAT_TAMPER_LATCH 1).event .tamperResponse 0x0C [BitVec.ofNat 8 r]
        if t.mode = .backup then t
        else ((t.setF Reg.AON_WAKE_SRC_SRC (t.getF Reg.AON_WAKE_SRC_SRC ||| 8)).irq Reg.AON_IRQ_WAKE).lockdown
    else if r = 1 then t
    else
      let t := t.tamperZeroise.event .tamperResponse 0x0C [BitVec.ofNat 8 r]
      if r = 2 then t else t.lockdown

/-- R440–R442: is a tamper input masked? -/
def State.inputMasked (s : State) (i : Nat) : Bool :=
  s.flag (condField Reg.AON_COND_STAT_STUCK_MASK i) || s.flag (condField Reg.AON_COND_STAT_CHATTER_MASK i)

/-- R410: can a source assert now? TAMP_IN0–3 while unmasked, and not while their level is active already; MESH while it is driven and checked; VGLITCH, FREQ and TEMP while
main power is present, VGLITCH without a power-fail warning. -/
def State.mayAssert (s : State) (n : Nat) : Bool :=
  if n < 4 then !(s.inputMasked n || s.flag (condField Reg.AON_COND_STAT_LEVEL n))
  else if n = 4 then s.flag Reg.TAMP_MESH_CFG_EN
  else s.power.main && (n != 5 || !s.flag Reg.PWR_STAT_LAST_GASP)

/-- R410: a source asserts. -/
def execTamperAssert (source : Fin 8) (s : State) : Host.Outcome State Fault Refusal :=
  if s.mayAssert source.val then .next (s.tamper source.val) else idle s

/-- R410: the monitor checks the returned mesh pattern every 2^RATE SLOW cycles, and drives a new word; the second bad check in a row asserts MESH. -/
def execMeshCheck (good : Bool) (s : State) : Host.Outcome State Fault Refusal :=
  if !s.flag Reg.TAMP_MESH_CFG_EN ∨ s.time.slow < s.sec.meshAt + 2 ^ s.getF Reg.TAMP_MESH_CFG_RATE then idle s
  else
    let (w, t) := s.drawWord
    let bad := if good then 0 else s.sec.meshBad + 1
    let t : State := { t with sec := { t.sec with meshWord := w.toNat, meshAt := t.time.slow, meshBad := min bad 2 } }
    if bad = 2 then .next (t.tamper 4)
    else if good then .next (t.setF Reg.TAMP_STAT_ACTIVE (withBits (t.getF Reg.TAMP_STAT_ACTIVE) 4 4 0))
    else .next t

/-- R413: a write of 1 to `TAMP.CTRL.VKR_CLEAR`. -/
def execTampVkrClear (req : Req) (s : State) : Host.Outcome State Fault Refusal :=
  .next (s.onAction req Reg.TAMP_CTRL_VKR_CLEAR 2 State.clearVkr)

/-- R421: a write of 1 to `TAMP.CTRL.ARMED`. -/
def execTampArm (req : Req) (s : State) : Host.Outcome State Fault Refusal :=
  .next (s.onAction req Reg.TAMP_CTRL_ARMED 1 fun s => s.setF Reg.TAMP_CTRL_ARMED 1)

/-- R414, R451: the 8 identity bytes of the chip. -/
def State.identity (s : State) : Bytes :=
  leBytes 8 (s.getF Reg.SYS_ID_LOT_LOT + s.getF Reg.SYS_ID_WAFER_WAFER * 2 ^ 24 + s.getF Reg.SYS_ID_POS_X * 2 ^ 29 + s.getF Reg.SYS_ID_POS_Y * 2 ^ 37)

/-- R414: what the release key signs. -/
def State.releaseMessage (s : State) : Bytes :=
  ascii "ZLA-RELEASE" ++ s.identity ++ s.getBytes (fun k => Reg.TAMP_LD_CHAL_DATA k) 32 ++ leBytes 4 (s.getF Reg.TAMP_LD_CNT_CNT)

/-- R414: does the signature written verify under the release key? -/
def State.releaseGood (s : State) : Bool :=
  let sig := s.getBytes (fun k => Reg.TAMP_REL_SIG_DATA k) 114
  !s.sec.otp.releaseKey.isEmpty && edVerify s.sec.otp.releaseKey false s.releaseMessage sig

/-- R414: a release succeeds: TAMPER_LATCH clears, and start-up follows from step 1. -/
def State.released (s : State) : State :=
  let t := (s.setF Reg.TAMP_STAT_TAMPER_LATCH 0).setF Reg.TAMP_STAT_LOCKDOWN 0
  let t := t.dueStartup 1 2
  ({ t with sec := { t.sec with tamped := false } } : State).event .release 0x0C

/-- R414: RELEASE.GO in LOCKDOWN: the signature is checked; a failed release is counted and gets a new challenge. -/
def execTampRelease (req : Req) (s : State) : Host.Outcome State Fault Refusal :=
  .next (s.onAction req Reg.TAMP_RELEASE_GO (2 ^ 31) fun s =>
    if !s.flag Reg.TAMP_STAT_LOCKDOWN then s
    else if s.releaseGood then s.released
    else (((s.count Reg.TAMP_REL_FAIL_CNT_CNT).irq Reg.TAMP_IRQ_RELEASE_FAIL).event .releaseFail 0x0C).newChallenge)

end Sys2Proof.Machine
end

