-- ==== Sys2Proof/Machine/Trivet.lean ====
section
/-! DEFINITION. The services of Trivet (R415, R416). The layout of requests and replies is the model's (log): byte 0 the service, byte 1 TAG, byte 2 the KEK, bytes 8–15
the input address, 16–23 the output address, 24–27 the length, 32–63 the challenge, 64–135 a blob, 136–191 the head end's X448 key; a reply echoes bytes 0 and 1 and holds
the status in bytes 2–3 and a length in bytes 4–7. -/

namespace Sys2Proof.Machine

/-- R415: the reply to a request. -/
def State.trivetReply (s : State) (b : Bytes) (status len : Nat) : State :=
  let s := if status = 0 then s else s.err 0x08 status 0
  s.enq 0x41 { body := .bytes (slice b 0 2 ++ leBytes 2 status ++ leBytes 4 len ++ List.replicate 248 0) }

/-- R415, R470: Trivet takes a request for a service from the front of its queue; `sub` is a request that software writes first. One that is poisoned is lost. -/
def State.trivet (s : State) (service : Nat) (sub : Option Submission) (k : State → Bytes → State) : State :=
  let s := match sub with
    | some x => s.submit 0x40 x (.bytes (splice (slice x.item 0 256) 0 [BitVec.ofNat 8 service]))
    | none => s
  if !s.domOn .fabric ∨ s.sec.tId.isEmpty ∨ s.trivetBusy ∨ !s.hasCredit 0x41 then s
  else match (s.queue 0x40).items.head? with
    | some { body := .bytes b, poison := p } =>
      if leAt b 0 1 ≠ service then s
      else match s.deq 0x40 with
        | some (_, t) => if p ≠ 0 then t else k t b
        | none => s
    | _ => s

/-- Is a range of addresses memory? -/
def rangeMapped (a n : Nat) : Bool := n == 0 || (memMapped a && memMapped (a + n - 1))

/-! ## Attestation -/

/-- R416: the statement before its signature. -/
def State.statement (s : State) (challenge : Bytes) : Bytes :=
  let bit (f : Field) : Nat := s.getF f
  let flags := bit Reg.KEY_STAT_DBG_CTX + bit Reg.TAMP_STAT_TAMPER_LATCH * 2 + bitIf (s.upd.parts.any (fun p => p.2.unconf)) 2 +
    bit Reg.RTC_STAT_TIME_VALID * 8
  leBytes 4 0x5A4C4154 ++ leBytes 1 1 ++ leBytes 1 (s.getF Reg.LCS_STAT_LC) ++ leBytes 1 (s.getF Reg.LCS_STAT_DBG_STATE) ++ leBytes 1 flags ++ s.identity ++
    leBytes 4 (s.getF Reg.SYS_ID_DATE_WEEKS + s.getF Reg.SYS_ID_DATE_SCREEN * 2 ^ 16 + s.getF Reg.SYS_ID_DATE_SPEED * 2 ^ 20) ++
    slice s.sec.mT 0 64 ++ slice s.sec.mA 0 64 ++ slice s.sec.mK 0 64 ++
    leBytes 8 (s.get2 Reg.SIEV_CUR_DIGEST_LO_DIGEST Reg.SIEV_CUR_DIGEST_HI_DIGEST) ++ leBytes 4 (s.getF Reg.SYS_PWR_CYCLES_CNT) ++
    leBytes 4 (s.getF Reg.RTC_RTC_SEC_SEC) ++ slice challenge 0 32

/-- R415, R416: ATTEST writes the signed statement to the output address. -/
def execTrivetAttest (sub : Option Submission) (s : State) : Host.Outcome State Fault Refusal :=
  .next (s.trivet 1 sub fun s b =>
    let k := s.slot 4
    let out := leAt b 16 8
    if !k.may Usage.sign then s.trivetReply b 0x0105 0
    else if !rangeMapped out 374 then s.trivetReply b Err.addrUnmapped 0
    else
      let m := s.statement (slice b 32 32)
      (s.write out (m ++ edSign k.key false m)).trivetReply b 0 374)

/-! ## Sealed data -/

/-- R415: the key for sealed data under a seal trunk. -/
def sealKey (trunk : Bytes) : Bytes := kmac trunk (Config.trivetLabel 0) 32

/-- R415: data sealed under a trunk: an IV, the ciphertext and the tag. -/
def sealed (trunk iv d : Bytes) : Bytes :=
  let ct := gcmCrypt (sealKey trunk) iv d
  iv ++ ct ++ gcmTag (sealKey trunk) iv [] ct

/-- R415: sealed data opened under a trunk. -/
def unsealed (trunk b : Bytes) : Option Bytes :=
  let iv := slice b 0 12
  let ct := slice b 12 (b.length - 28)
  if trunk.isEmpty ∨ b.length < 28 ∨ gcmTag (sealKey trunk) iv [] ct ≠ b.drop (b.length - 16) then none
  else some (gcmCrypt (sealKey trunk) iv ct)

/-- R474: is any part UNCONFIRMED? -/
def State.unconfirmed (s : State) : Bool := s.upd.parts.any (fun p => p.2.unconf)

/-- R415, R474: SEAL; while a part is UNCONFIRMED, a dual blob. Byte 0 of a blob is its number of halves. -/
def execTrivetSeal (sub : Option Submission) (s : State) : Host.Outcome State Fault Refusal :=
  .next (s.trivet 2 sub fun s b =>
    let n := leAt b 24 4
    let out := leAt b 16 8
    let dual := s.unconfirmed && !s.sec.prevSeal.isEmpty
    let size := if dual then 1 + 2 * (n + 28) else n + 29
    if s.sec.tSeal.isEmpty then s.trivetReply b 0x0105 0
    else if 4096 < n then s.trivetReply b 0x010A 0
    else if !rangeMapped (leAt b 8 8) n ∨ !rangeMapped out size then s.trivetReply b Err.addrUnmapped 0
    else
      let d := s.read (leAt b 8 8) n
      let (iv, t) := s.drawBytes 12
      let (iv2, t) := t.drawBytes 12
      let blob := if dual then [2] ++ sealed t.sec.tSeal iv d ++ sealed t.sec.prevSeal iv2 d else [1] ++ sealed t.sec.tSeal iv d
      (t.write out blob).trivetReply b 0 size)

/-- R415, R474: a blob's data: of either half, under the seal trunk, or while a part is UNCONFIRMED under the previous one. -/
def State.unsealBlob (s : State) (b : Bytes) : Option Bytes :=
  let n := if leAt b 0 1 = 2 then (b.length - 1) / 2 else b.length - 1
  let halves := if leAt b 0 1 = 2 then [slice b 1 n, slice b (1 + n) n] else [slice b 1 n]
  let trunks := if s.unconfirmed then [s.sec.tSeal, s.sec.prevSeal] else [s.sec.tSeal]
  (halves.flatMap (fun h => trunks.map (fun t => unsealed t h))).findSome? id

/-- R415, R474: UNSEAL. -/
def execTrivetUnseal (sub : Option Submission) (s : State) : Host.Outcome State Fault Refusal :=
  .next (s.trivet 3 sub fun s b =>
    let n := leAt b 24 4
    let out := leAt b 16 8
    if 2 * (4096 + 28) + 1 < n then s.trivetReply b 0x010A 0
    else if !rangeMapped (leAt b 8 8) n then s.trivetReply b Err.addrUnmapped 0
    else match s.unsealBlob (s.read (leAt b 8 8) n) with
      | none => s.trivetReply b 0x0106 0
      | some d => if !rangeMapped out d.length then s.trivetReply b Err.addrUnmapped 0 else (s.write out d).trivetReply b 0 d.length)

/-! ## KEKs and the Kettle service key -/

/-- R415: a 32-byte key that the head end sends in a blob under the transport key of the agreement. -/
def State.transported (s : State) (b : Bytes) : Option (KeySlot × Bytes) :=
  let key := kmac (x448 s.sec.transport (slice b 136 56)) (Config.trivetLabel 1) 32
  if s.sec.transport.isEmpty then none else (aesKwpUnwrap key (slice b 64 48)).bind (fun p => blobRead p 32)

/-- Replace a blob on SETTINGS, or remove it. -/
def State.setBlob (s : State) (n : Nat) (b : Option Bytes) : State :=
  let l := s.sec.blobs.filter (fun e => e.1 != n)
  { s with sec := { s.sec with blobs := match b with
      | some x => l ++ [(n, x)]
      | none => l } }

/-- R391, R415: KEK_IMPORT: KEK_A or KEK_B takes the key and the GEN of the blob, which must lie above the slot's. -/
def execTrivetKekImport (sub : Option Submission) (s : State) : Host.Outcome State Fault Refusal :=
  .next (s.trivet 4 sub fun s b =>
    let n := leAt b 2 1 % 2
    match s.transported b with
    | none => s.trivetReply b 0x0106 0
    | some (k, key) =>
      if k.gen ≤ (s.slot n).gen then s.trivetReply b 0x0106 0
      else if needsCtr k.usage && !s.trngOk then s.trivetReply b 0x0107 0
      else (s.loadSlot n key { k with owner := Req.trusted.code }).trivetReply b 0 0)

/-- R390, R415: KEK_STORE: KEK_A or KEK_B is wrapped under STORE and written to SETTINGS. -/
def execTrivetKekStore (sub : Option Submission) (s : State) : Host.Outcome State Fault Refusal :=
  .next (s.trivet 5 sub fun s b =>
    let n := leAt b 2 1 % 2
    let k := s.slot n
    if !k.full ∨ !(s.slot 2).full then s.trivetReply b 0x0105 0
    else if !k.export_ ∨ !(s.slot 2).may Usage.enc then s.trivetReply b 0x0102 0
    else (s.setBlob n (some (aesKwp (s.slot 2).key (blobPlain k)))).trivetReply b 0 0)

/-- R393, R415: KEK_REMOVE: KEK_A or KEK_B is erased, and its blob is removed. -/
def execTrivetKekRemove (sub : Option Submission) (s : State) : Host.Outcome State Fault Refusal :=
  .next (s.trivet 6 sub fun s b =>
    let n := leAt b 2 1 % 2
    ((s.eraseSlot n).setBlob n none).trivetReply b 0 0)

/-- R413, R415: KSVC_SET: the Kettle service key goes to the VBAT key region, and its blob under STORE to SETTINGS. -/
def execTrivetKsvcSet (sub : Option Submission) (s : State) : Host.Outcome State Fault Refusal :=
  .next (s.trivet 7 sub fun s b =>
    match s.transported b with
    | none => s.trivetReply b 0x0106 0
    | some (k, key) =>
      if !(s.slot 2).may Usage.enc then s.trivetReply b 0x0105 0
      else
        let p := leBytes 2 k.gen ++ leBytes 2 k.dest ++ leBytes 1 k.usage ++ leBytes 1 (32 + if k.export_ then 128 else 0) ++ key
        ((s.clearVkr.write 0x02003C00 key).setBlob 2 (some (aesKwp (s.slot 2).key p))).trivetReply b 0 0)

end Sys2Proof.Machine
end

