-- ==== Sys2Proof/Machine/CiphJobs.lean ====
section
/-! DEFINITION. Cleaver's software jobs (R399–R405) and the rewrap sweep (R398). -/

namespace Sys2Proof.Machine

/-! ## Items and completions -/

/-- R403: a completion: TAG, the status, the counter and the tag. -/
def State.ciphDone (s : State) (b : Bytes) (status ctr : Nat) (tag : Bytes) : State :=
  let s := if status = 0 then s else (s.err 0x09 status 0).irq Reg.CIPH_IRQ_JOB_ERR
  (s.irq Reg.CIPH_IRQ_JOB_DONE).enq 0x49
    { body := .bytes (slice b 1 1 ++ [0] ++ leBytes 2 status ++ List.replicate 4 0 ++ leBytes 8 ctr ++ slice tag 0 16) }

/-- R402: the fields of a job. -/
structure CiphJob where
  tag : Nat
  slot : Nat
  arg : Nat
  fixed : Bytes
  src : Nat
  dst : Nat
  len : Nat
  aad : Nat
  tagv : Bytes
  ivc : Nat
  deriving DecidableEq, Repr

/-- R402: the fields of an item. -/
def ciphFields (b : Bytes) : CiphJob :=
  { tag := leAt b 1 1, slot := leAt b 2 1, arg := leAt b 3 1, fixed := slice b 4 4, src := leAt b 8 8, dst := leAt b 16 8, len := leAt b 24 4,
    aad := leAt b 28 4, tagv := slice b 40 16, ivc := leAt b 56 8 }

/-- R402: which fields an operation uses: SLOT, ARG, FIXED, OUT, AAD_LEN, TAGV, IVC. -/
def ciphUses (op : Nat) : List Bool :=
  match op with
  | 0x01 => [true, false, true, true, true, false, false]
  | 0x02 => [true, false, true, true, true, true, true]
  | 0x03 => [true, false, true, true, false, false, false]
  | 0x04 => [true, false, true, true, false, false, true]
  | 0x05 => [true, false, true, false, true, false, false]
  | 0x06 => [true, false, true, false, true, true, true]
  | 0x07 => [true, false, false, false, false, false, false]
  | 0x08 => [true, false, false, false, false, true, false]
  | 0x09 | 0x0A => [true, false, false, true, false, false, true]
  | 0x10 => [true, true, false, true, false, false, false]
  | _ => [false, false, true, true, true, false, false]

/-- R402: is an item within the limits: unused fields 0, the lengths, a slot that exists, and input in memory? -/
def ciphFits (op : Nat) (b : Bytes) : Bool :=
  let j := ciphFields b
  let zero := [j.slot == 0, j.arg == 0, leNat j.fixed == 0, j.dst == 0, j.aad == 0, leNat j.tagv == 0, j.ivc == 0]
  (List.zipWith (fun u z => u || z) (ciphUses op) zero).all id && leAt b 32 8 == 0 && decide (j.len ≤ 65536) && decide (j.aad ≤ 1024) &&
    decide (j.slot < 64) && decide (j.arg ≤ 1) && rangeMapped j.src (j.aad + j.len)

/-- R402: has an item an opcode of the table? -/
def ciphKnown (b : Bytes) : Bool := [1, 2, 3, 4, 5, 6, 7, 8, 9, 10, 0x10, 0x11].contains (leAt b 0 1)

/-- R399: has a Cleaver unit no frame, neither in work nor in its decrypt queue? -/
def State.unitFree (s : State) (u : Nat) : Bool := (s.unitRun u).isNone && (s.queue (decryptQ u)).items.isEmpty

/-- R399: frames go before jobs: does a unit that is open to jobs stand free of frames, or is none open to them? -/
def State.jobsRun (s : State) : Bool :=
  let l := (List.range 4).filter (fun u => bitAt (s.getF Reg.CIPH_JOB_CFG_UNITS) u == 1)
  l.isEmpty || l.any s.unitFree

/-- R402, R470: Cleaver takes a job with opcode `op` from the front of its queue, or one with no opcode of the table, which every job takes; frames go before it; `sub` is an item that software writes first. -/
def State.ciph (s : State) (op : Nat) (sub : Option Submission) (k : State → Bytes → State) : State :=
  let s := match sub with
    | some x => s.submit 0x48 x (.bytes (slice x.item 0 64))
    | none => s
  if s.unitsReady = 0 ∨ !s.jobsRun ∨ !s.hasCredit 0x49 then s
  else match (s.queue 0x48).items.head? with
    | some { body := .bytes b, poison := p } =>
      if leAt b 0 1 ≠ op ∧ ciphKnown b then s
      else match s.deq 0x48 with
        | some (_, t) => if p ≠ 0 ∨ !ciphKnown b ∨ !ciphFits op b then t.ciphDone b 0x0102 0 [] else k t b
        | none => s
    | _ => s

/-- R392, R399: the status with which the use of a slot is refused, 0 where it is not: a key, the usage, and the destination of a unit open to jobs. -/
def State.ciphSlot (s : State) (n usage : Nat) : Nat :=
  let k := s.slot n
  let units := s.getF Reg.CIPH_JOB_CFG_UNITS
  if !k.full then 0x0106
  else if !k.may usage then 0x0103
  else if !((List.range 4).any (fun u => bitAt units u == 1 && k.goes u)) then 0x0104
  else 0

/-- R392, R403: a job under a slot's AES key. -/
def State.ciphKey (s : State) (b : Bytes) (usage : Nat) (k : State → CiphJob → Bytes → State) : State :=
  let j := ciphFields b
  let st := s.ciphSlot j.slot usage
  let key := (s.slot j.slot).key
  if st ≠ 0 then s.ciphDone b st 0 []
  else if key.length ≠ 16 ∧ key.length ≠ 32 then s.ciphDone b 0x0102 0 []
  else k s j key

/-- R403, R404: an encrypting job takes the next counter of its slot. -/
def State.ciphIv (s : State) (b : Bytes) (j : CiphJob) (k : State → Nat → Bytes → State) : State :=
  match s.takeIv j.slot with
  | none => ((s.count Reg.CIPH_IVC_EXH_CNT_CNT).irq Reg.CIPH_IRQ_IVC_EXHAUSTED).ciphDone b 0x0101 0 []
  | some (c, t) => k t c (j.fixed ++ beBytes 8 c)

/-- The output of a job is memory. -/
def State.ciphOut (s : State) (b : Bytes) (n : Nat) (k : State → State) : State :=
  if rangeMapped (ciphFields b).dst n then k s else s.ciphDone b 0x0102 0 []

/-! ## The operations -/

/-- R403: GCM_ENC. -/
def execCiphGcmEnc (sub : Option Submission) (s : State) : Host.Outcome State Fault Refusal :=
  .next (s.ciph 0x01 sub fun s b => s.ciphKey b Usage.enc fun s j key => s.ciphOut b j.len fun s => s.ciphIv b j fun s c iv =>
    let ct := gcmCrypt key iv (s.read (j.src + j.aad) j.len)
    (s.write j.dst ct).ciphDone b 0 c (gcmTag key iv (s.read j.src j.aad) ct))

/-- R403: GCM_DEC: the plaintext is written only when the tag verifies. -/
def execCiphGcmDec (sub : Option Submission) (s : State) : Host.Outcome State Fault Refusal :=
  .next (s.ciph 0x02 sub fun s b => s.ciphKey b Usage.dec fun s j key => s.ciphOut b j.len fun s =>
    let iv := j.fixed ++ beBytes 8 j.ivc
    let ct := s.read (j.src + j.aad) j.len
    let tag := gcmTag key iv (s.read j.src j.aad) ct
    if tag = j.tagv then (s.write j.dst (gcmCrypt key iv ct)).ciphDone b 0 j.ivc tag else s.ciphDone b 0x0100 j.ivc [])

/-- R403: CTR_ENC. Block numbers start at 1. -/
def execCiphCtrEnc (sub : Option Submission) (s : State) : Host.Outcome State Fault Refusal :=
  .next (s.ciph 0x03 sub fun s b => s.ciphKey b Usage.enc fun s j key => s.ciphOut b j.len fun s => s.ciphIv b j fun s c iv =>
    (s.write j.dst (aesCtr key (iv ++ [0, 0, 0, 1]) (s.read j.src j.len))).ciphDone b 0 c [])

/-- R403: CTR_DEC. -/
def execCiphCtrDec (sub : Option Submission) (s : State) : Host.Outcome State Fault Refusal :=
  .next (s.ciph 0x04 sub fun s b => s.ciphKey b Usage.dec fun s j key => s.ciphOut b j.len fun s =>
    (s.write j.dst (aesCtr key (j.fixed ++ beBytes 8 j.ivc ++ [0, 0, 0, 1]) (s.read j.src j.len))).ciphDone b 0 j.ivc [])

/-- R403: GMAC_GEN: the tag over the input. -/
def execCiphGmacGen (sub : Option Submission) (s : State) : Host.Outcome State Fault Refusal :=
  .next (s.ciph 0x05 sub fun s b => s.ciphKey b Usage.macGen fun s j key => s.ciphIv b j fun s c iv =>
    s.ciphDone b 0 c (gcmTag key iv (s.read j.src (j.aad + j.len)) []))

/-- R403: GMAC_VER. -/
def execCiphGmacVer (sub : Option Submission) (s : State) : Host.Outcome State Fault Refusal :=
  .next (s.ciph 0x06 sub fun s b => s.ciphKey b Usage.macVer fun s j key =>
    let tag := gcmTag key (j.fixed ++ beBytes 8 j.ivc) (s.read j.src (j.aad + j.len)) []
    s.ciphDone b (if tag = j.tagv then 0 else 0x0100) j.ivc [])

/-- R403: CMAC_GEN. -/
def execCiphCmacGen (sub : Option Submission) (s : State) : Host.Outcome State Fault Refusal :=
  .next (s.ciph 0x07 sub fun s b => s.ciphKey b Usage.macGen fun s j key => s.ciphDone b 0 0 (cmac key (s.read j.src j.len)))

/-- R403: CMAC_VER. -/
def execCiphCmacVer (sub : Option Submission) (s : State) : Host.Outcome State Fault Refusal :=
  .next (s.ciph 0x08 sub fun s b => s.ciphKey b Usage.macVer fun s j key =>
    s.ciphDone b (if cmac key (s.read j.src j.len) = j.tagv then 0 else 0x0100) 0 [])

/-- R405: the decimal digits of an input; none where it is not 6 to 32 of them. -/
def asciiDigits (b : Bytes) : Option (List Nat) :=
  if 6 ≤ b.length ∧ b.length ≤ 32 ∧ b.all (fun c => decide (48 ≤ c.toNat) && decide (c.toNat ≤ 57)) then some (b.map (fun c => c.toNat - 48)) else none

/-- R405: FF1 under AES-256; `enc` encrypts. -/
def State.ff1Job (s : State) (b : Bytes) (usage : Nat) (enc : Bool) : State :=
  s.ciphKey b usage fun s j key => s.ciphOut b j.len fun s =>
    match asciiDigits (s.read j.src j.len) with
    | none => s.ciphDone b 0x0102 0 []
    | some d =>
      if key.length ≠ 32 then s.ciphDone b 0x0102 0 []
      else
        let tweak := slice b 56 8
        let r := if enc then ff1Enc key tweak d else ff1Dec key tweak d
        (s.write j.dst (r.map (fun x => BitVec.ofNat 8 (x + 48)))).ciphDone b 0 0 []

/-- R405: FF1_ENC. -/
def execCiphFf1Enc (sub : Option Submission) (s : State) : Host.Outcome State Fault Refusal :=
  .next (s.ciph 0x09 sub fun s b => s.ff1Job b Usage.enc true)

/-- R405: FF1_DEC. -/
def execCiphFf1Dec (sub : Option Submission) (s : State) : Host.Outcome State Fault Refusal :=
  .next (s.ciph 0x0A sub fun s b => s.ff1Job b Usage.dec false)

/-- R397, R403: METER_WRAP: the key of a transport blob under a general slot is wrapped under KEK_A or KEK_B. -/
def execCiphMeterWrap (sub : Option Submission) (s : State) : Host.Outcome State Fault Refusal :=
  .next (s.ciph 0x10 sub fun s b => s.ciphKey b Usage.dec fun s j key => s.ciphOut b 40 fun s =>
    let st := s.ciphSlot j.arg Usage.enc
    if j.slot < 8 ∨ j.len ≠ 40 then s.ciphDone b 0x0102 0 []
    else if st ≠ 0 then s.ciphDone b st 0 []
    else match aesKwUnwrap key (s.read j.src 40) with
      | none => s.ciphDone b 0x0107 0 []
      | some p => (s.write j.dst (aesKw (s.slot j.arg).key p)).ciphDone b 0 (s.slot j.arg).gen [])

/-! ## Downlink frames -/

/-- R401: the A-XDR length of a content. -/
def axdrLen (n : Nat) : Bytes :=
  if n < 128 then leBytes 1 n else if n < 256 then [0x81] ++ leBytes 1 n else if n < 65536 then [0x82] ++ beBytes 2 n else [0x83] ++ beBytes 3 n

/-- R401: the unit that takes a METER_ENC job: the first that is open to jobs. -/
def State.jobUnit (s : State) : Option Nat := (List.range 4).find? (fun u => bitAt (s.getF Reg.CIPH_JOB_CFG_UNITS) u == 1)

/-- R396, R401: why a meter's frame key does not open on a unit. -/
def State.meterStatus (s : State) (m u : Nat) : Nat :=
  let k := s.slot (s.kekOf m)
  if !s.recValid m ∨ bitAt (s.recF m 0x008 4) 2 = 0 then 0x0102
  else if !k.full then 0x0106
  else if !k.may Usage.dec then 0x0103
  else if !k.goes u then 0x0104
  else 0x0107

/-- R119, R401: a ZCF downlink frame: the header that the job gives as additional data, with the counter taken, and its payload. -/
def State.zcfDown (s : State) (m : Nat) (j : CiphJob) (key : Bytes) (n : Nat) : Bytes :=
  let hd := (s.read j.src 10) ++ beBytes 8 n
  let iv := s.downFixed m ++ beBytes 8 n
  let ct := gcmCrypt key iv (s.read (j.src + 18) j.len)
  hd ++ ct ++ gcmTag key iv hd ct

/-- R121, R401: a DLMS/COSEM downlink frame under the system title of the port of the meter's route. -/
def State.dlmsDown (s : State) (m : Nat) (j : CiphJob) (key : Bytes) (n : Nat) : Bytes :=
  let k := bitsOf (s.recF m 0x014 4) 3 0
  let title := s.title (portF Reg.PLC_ACK_TITLE_HI_TITLE Reg.RAD_ACK_TITLE_HI_TITLE k) (portF Reg.PLC_ACK_TITLE_LO_TITLE Reg.RAD_ACK_TITLE_LO_TITLE k)
  let iv := title ++ beBytes 4 n
  let ct := gcmCrypt (key.take 16) iv (s.read j.src j.len)
  let tag := (gcmTag (key.take 16) iv ([0x30] ++ key.drop 16) ct).take 12
  [0xDB, 0x08] ++ title ++ axdrLen (5 + j.len + 12) ++ [0x30] ++ beBytes 4 n ++ ct ++ tag

/-- R401: METER_ENC: with 18 bytes of additional data the frame is ZCF, with none DLMS/COSEM, as the record's FORMAT allows. -/
def execCiphMeterEnc (sub : Option Submission) (s : State) : Host.Outcome State Fault Refusal :=
  .next (s.ciph 0x11 sub fun s b =>
    let j := ciphFields b
    let m := leNat j.fixed
    let fmt := if j.aad = 18 then 1 else 0
    let rf := bitsOf (s.recF m 0x008 4) 5 4
    let hint := s.recF m 0x014 4
    let size := if fmt = 1 then j.len + 34 else 10 + (axdrLen (j.len + 17)).length + j.len + 17
    match s.jobUnit with
    | none => s.ciphDone b 0x0104 0 []
    | some u =>
      if s.roleLimit ≤ m ∨ (j.aad ≠ 18 ∧ j.aad ≠ 0) ∨ (rf ≠ fmt ∧ rf ≠ 2) ∨ (fmt = 0 ∧ (bitAt hint 31 = 0 ∨ 7 < bitsOf hint 3 0)) then s.ciphDone b 0x0102 0 []
      else match s.frameKey m u with
        | none => s.ciphDone b (s.meterStatus m u) 0 []
        | some key => s.ciphOut b size fun s => match s.takeDownIvc m fmt with
          | none => ((s.count Reg.CIPH_IVC_EXH_CNT_CNT).irq Reg.CIPH_IRQ_IVC_EXHAUSTED).ciphDone b 0x0101 0 []
          | some (n, t) => (t.write j.dst (if fmt = 1 then t.zcfDown m j key n else t.dlmsDown m j key n)).ciphDone b 0 n [])

/-! ## The rewrap sweep -/

/-- R398: GO starts a sweep from a KEK. -/
def State.rewrapGo (s : State) : State :=
  let t := (s.setF Reg.CIPH_STAT_REWRAP_RUN 1).setF Reg.CIPH_REWRAP_POS_METER 0
  { t with sec := { t.sec with rewrapAt := t.tb1 } }

/-- R398: a write of `CIPH.REWRAP` with GO. A sweep that runs refuses it, and FROM keeps its value. -/
def execRewrapGo (req : Req) (source : BitVec 1) (s : State) : Host.Outcome State Fault Refusal :=
  .next (if s.flag Reg.CIPH_STAT_REWRAP_RUN then s.onField req Reg.CIPH_REWRAP_GO fun s => s.refuseAt req Reg.CIPH_REWRAP_GO 0x0102
    else s.onAction req Reg.CIPH_REWRAP_GO (2 ^ 31 + source.toNat) State.rewrapGo)

/-- R398: the first valid record under FROM at or above a meter. -/
def State.nextRewrap (s : State) (src pos : Nat) : Option Nat :=
  s.validRecords.find? (fun m => decide (pos ≤ m) && s.kekOf m == src)

/-- R397, R398: the two keys of a record under the other KEK, for those that the record holds; none where one does not open. -/
def State.rewrapped (s : State) (m src : Nat) : Option (Bytes × Bytes) :=
  let a := s.slot src
  let b := s.slot (1 - src)
  let fl := s.recF m 0x008 4
  let one (bit off gen : Nat) : Option Bytes :=
    let w := s.read (recordAddr m + off) 40
    if bitAt fl bit = 0 then some w
    else if gen ≠ a.gen then none
    else (aesKwUnwrap a.key w).map (fun p => aesKw b.key p)
  if !a.may Usage.dec ∨ !a.goes 3 ∨ !b.may Usage.enc ∨ !b.goes 3 then none
  else match one 2 0x020 (bitsOf (s.recF m 0x070 4) 15 0), one 3 0x048 (bitsOf (s.recF m 0x070 4) 31 16) with
    | some x, some y => some (x, y)
    | _, _ => none

/-- R398: the sweep ends. -/
def State.rewrapEnd (s : State) : State := (s.setF Reg.CIPH_STAT_REWRAP_RUN 0).irq Reg.CIPH_IRQ_REWRAP_DONE

/-- R398: a record of the sweep is rewrapped, or counted as failed. -/
def State.rewrapOne (s : State) (m src : Nat) : State :=
  match s.rewrapped m src with
  | none => (s.count Reg.CIPH_REWRAP_FAIL_CNT_CNT).setF Reg.CIPH_REWRAP_LAST_FAIL_METER m
  | some (x, y) =>
    let gen := (s.slot (1 - src)).gen
    let u := (s.touch m).write (recordAddr m + 0x020) x |>.write (recordAddr m + 0x048) y
    let fl := u.recF m 0x008 4
    let u := u.setRec m 0x008 4 (withBits fl 1 1 (1 - src))
    let old := u.recF m 0x070 4
    let hi := if bitAt fl 3 = 1 then gen else bitsOf old 31 16
    let lo := if bitAt fl 2 = 1 then gen else bitsOf old 15 0
    (u.setRec m 0x070 4 (lo + hi * 65536)).count Reg.CIPH_REWRAP_DONE_CNT_CNT

/-- R398: the sweep takes its next record between the frames of unit 3, at the limited rate, and writes it on one edge; a record that fails stays as it is. After the last record the
sweep ends. -/
def execRewrapRecord (s : State) : Host.Outcome State Fault Refusal :=
  let src := s.getF Reg.CIPH_REWRAP_FROM
  let pos := s.getF Reg.CIPH_REWRAP_POS_METER
  if !s.flag Reg.CIPH_STAT_REWRAP_RUN ∨ bitAt s.unitsReady 3 = 0 ∨ (s.unitRun 3).isSome ∨ s.tb1 < s.sec.rewrapAt + nsPerS / s.getF Reg.CIPH_REWRAP_RATE_PER_S then idle s
  else match s.nextRewrap src pos with
    | none => .next s.rewrapEnd
    | some m =>
      let t : State := { s with sec := { s.sec with rewrapAt := s.tb1 } }
      let t := (t.setF Reg.CIPH_REWRAP_POS_METER ((m + 1) % 2 ^ 20)).rewrapOne m src
      .next (if m + 1 = 2 ^ 20 then t.rewrapEnd else t)

end Sys2Proof.Machine
end

