-- ==== Sys2Proof/Machine/Panel.lean ====
section
/-! DEFINITION. The local panel: the scroll list (R198), the keypad (R199) and token entry (R200). -/

namespace Sys2Proof.Machine

/-! ## The scroll list -/

/-- R203: the list in effect at a position: meter and selector. -/
def State.panelItem (s : State) (k : Nat) : Nat × Nat :=
  (s.getEff (Reg.PANEL_ITEM_DATA_METER.win 3 k), s.getEff (Reg.PANEL_ITEM_DATA_SEL.win 3 k))

/-- R198, R203: the fields of the scroll list. -/
def panelList : List Field :=
  Reg.PANEL_NITEMS_N :: (List.range 32).flatMap (fun k => [Reg.PANEL_ITEM_DATA_SEL.win 3 k, Reg.PANEL_ITEM_DATA_METER.win 3 k])

/-- R198: the item at the position is shown from the committed record. -/
def State.panelShow (s : State) : State :=
  let (m, sel) := s.panelItem s.panel.pos
  s.show (itemLabel m sel) (s.selValue m sel)

/-- R198: a change of item: the list is taken if it is armed, and the item `step` places on is shown for a dwell, or its label
for half of one on a one-row display. -/
def State.panelChange (s : State) (step : Nat → Nat → Nat) : State :=
  let s := s.handOver 0x19 (shadowRegs 0x19 0) panelList
  let n := s.getEff Reg.PANEL_NITEMS_N
  let dwell := s.getF Reg.PANEL_DWELL_S * nsPerS
  let dwell := if s.getF Reg.PANEL_DISP_CFG_ROWS = 1 then dwell / 2 else dwell
  let s := { s with panel := { s.panel with nextAt := s.tb1 + dwell, alt := false } }
  if n = 0 then s
  else
    let s := { s with panel := { s.panel with pos := step s.panel.pos n % n } }
    (s.setF Reg.PANEL_STAT_ITEM s.panel.pos).panelShow

/-- R198: does the panel scroll: no entry and no pause? -/
def State.panelScrolls (s : State) : Bool :=
  s.flag Reg.PANEL_CTRL_ENABLE && s.flag Reg.PANEL_CTRL_SCROLL_EN && !s.panel.paused && !s.panel.waiting &&
    (s.getF Reg.PANEL_STAT_KP_STATE == 0 || s.getF Reg.PANEL_STAT_KP_STATE == 3)

/-- R198, R200: the dwell ends: "LOCKED" after the result that locked the entry, else the next item, or on a one-row display the value of the present one. -/
def execPanelItemChange (s : State) : Host.Outcome State Fault Refusal :=
  if s.panel.showLocked ∧ s.panel.nextAt ≤ s.tb1 then
    .next (State.show { s with panel := { s.panel with showLocked := false, nextAt := s.tb1 + s.getF Reg.PANEL_DWELL_S * nsPerS } } (ascii "LOCKED") [])
  else if !s.panelScrolls ∨ s.tb1 < s.panel.nextAt then idle s
  else if s.getF Reg.PANEL_DISP_CFG_ROWS = 1 ∧ !s.panel.alt ∧ !s.panel.shown.2.isEmpty then
    .next (State.showValue { s with panel := { s.panel with nextAt := s.tb1 + s.getF Reg.PANEL_DWELL_S * nsPerS / 2 } })
  else .next (s.panelChange (fun p _ => p + 1))

/-! ## Token entry -/

/-- R200: the entry in progress ends without a submission. -/
def State.panelAbandon (s : State) : State :=
  { (s.setF Reg.PANEL_STAT_KP_STATE (if s.panelLocked then 3 else 0)) with panel := { s.panel with typed := [], waiting := false, due := none } }

/-- R200: the number that typed digits make. -/
def typedNumber (l : List Nat) : Nat := l.foldl (fun a d => a * 10 + d) 0

/-- R200: the meter index has been typed. -/
def State.panelMeter (s : State) : State :=
  let m := typedNumber s.panel.typed
  if s.getF Reg.DIR_ROLE_LIMIT_METERS ≤ m ∨ !s.recValid m then (s.panelAbandon).show (ascii "NO METER") []
  else { (s.setF Reg.PANEL_STAT_KP_STATE 2) with panel := { s.panel with meter := m, typed := [] } }

/-- R195, R200: the entry is submitted, and goes on as soon as its queue has credit. DESIGN CHOICE (log entry 107): while billing is off it waits, and is abandoned as an
entry is. -/
def State.panelSubmit (s : State) : State :=
  let digits := s.panel.typed.map (fun d => BitVec.ofNat 8 (0x30 + d))
  let s := s.show (ascii "WAIT") []
  State.panelIn { s with panel := { s.panel with waiting := true, due := some (digits, s.panel.meter) } }

/-- R200: a key during an entry: 0–9 digits, 12 C, 14 *, 15 #; the other keys have no effect. -/
def State.entryKey (s : State) (k : Nat) : State :=
  let meter := s.getF Reg.PANEL_STAT_KP_STATE = 1
  let limit := if meter then 7 else 20
  let s := { s with panel := { s.panel with entryUntil := s.tb1 + 60 * nsPerS } }
  if k ≤ 9 then
    if s.panel.typed.length < limit then { s with panel := { s.panel with typed := s.panel.typed ++ [k] } } else s
  else if k = 12 then s.panelAbandon
  else if k = 14 then { s with panel := { s.panel with typed := s.panel.typed.dropLast } }
  else if k = 15 then
    if meter then (if s.panel.typed.isEmpty then s else s.panelMeter)
    else if s.panel.typed.length = 20 then s.panelSubmit
    else s
  else s

/-- R199, R200: a key outside an entry: A opens one, B and D step the list, C pauses and resumes the scroll. -/
def State.listKey (s : State) (k : Nat) : State :=
  if k = 10 then
    if s.panelLocked then s.show (ascii "LOCKED") []
    else if s.flag Reg.PANEL_CTRL_TOKEN_EN then
      { (s.setF Reg.PANEL_STAT_KP_STATE 1) with panel := { s.panel with typed := [], entryUntil := s.tb1 + 60 * nsPerS } }
    else s
  else if k = 11 then s.panelChange (fun p _ => p + 1)
  else if k = 13 then s.panelChange (fun p n => p + n - 1)
  else if k = 12 then { s with panel := { s.panel with paused := !s.panel.paused } }
  else s

/-- R199: a key is accepted. While a result is awaited, it does nothing more. -/
def State.panelKey (s : State) (k : Nat) : State :=
  let s := ((s.setF Reg.PANEL_KEY_LAST_VALID 1).setF Reg.PANEL_KEY_LAST_KEY k).irq Reg.PANEL_IRQ_KEY
  if s.panel.waiting then s
  else if s.getF Reg.PANEL_STAT_KP_STATE = 1 ∨ s.getF Reg.PANEL_STAT_KP_STATE = 2 then s.entryKey k
  else s.listKey k

/-- R200: an entry is abandoned 60 s after its last key. -/
def execPanelEntryTimeout (s : State) : Host.Outcome State Fault Refusal :=
  if (s.getF Reg.PANEL_STAT_KP_STATE = 1 ∨ s.getF Reg.PANEL_STAT_KP_STATE = 2) ∧ (!s.panel.waiting ∨ s.panel.due.isSome) ∧ s.panel.entryUntil ≤ s.tb1 then
    .next s.panelAbandon
  else idle s

/-- R200: the lock of token entry ends. -/
def execPanelLockEnd (s : State) : Host.Outcome State Fault Refusal :=
  match s.panel.lockUntil with
  | some t =>
    if t ≤ s.getF Reg.RTC_RTC_SEC_SEC then
      let s := { s with panel := { s.panel with lockUntil := none, showLocked := false } }
      .next (if s.getF Reg.PANEL_STAT_KP_STATE = 3 then s.setF Reg.PANEL_STAT_KP_STATE 0 else s)
    else idle s
  | none => idle s

end Sys2Proof.Machine
end

