-- ==== Sys2Proof/Machine/FtlOps.lean ====
section
/-! DEFINITION. Flash media: geometry (R334, R335), physical blocks and their allocation (R356, R358), stored pages (R338, R339), operations on dies (R337, R19), mapping and merges (R346, R347), and the ARCHIVE stripes (R348, R352). -/

namespace Sys2Proof.Machine

/-! ## Geometry -/

/-- R334: the number of a die: 8 × channel + 2 × chip enable + LUN. -/
def dieNum (p : DieParam) : Nat := p.chan.val * 8 + p.ce.val * 2 + p.lun.val

/-- R334: does a device meet the conditions? -/
def dieMeets (p : DieParam) : Bool :=
  p.crcOk && p.modern && p.slc && (p.pageKib == 4 || p.pageKib == 8 || p.pageKib == 16) &&
    decide (126 * p.pageKib + 32 ≤ p.spare) && decide (6 ≤ p.ppbLog) && decide (p.ppbLog ≤ 10) &&
    (p.planes == 1 || p.planes == 2) && decide (p.tProg ≤ 1000) && decide (p.tBers ≤ 10000) && decide (p.tR ≤ 100) &&
    decide (p.tRst ≤ 500)

/-- R334: the geometry that every die must share. -/
def dieGeom (p : DieParam) : List Nat := [p.pageKib, p.spare, p.ppbLog, p.planes, p.blocks]

/-- R334: the first die that fails a condition, or all together are too large. -/
def badDie (l : List DieParam) : Option DieParam :=
  match l with
  | [] => none
  | p :: _ =>
    match l.find? (fun q => !dieMeets q || dieGeom q != dieGeom p) with
    | some q => some q
    | none => if 64 * 2 ^ 20 < (l.map (fun q => q.pageKib * 2 ^ q.ppbLog * q.blocks)).sum then some p else none

/-- R335: P1 of the feature at address 0x01 that selects an interface: the data interface of `IF_CFG.MODE` in bits 5:4, as ONFI codes it, and the timing mode. -/
def ifaceCode (mode tmode : Nat) : Nat := match mode with | 0 => 48 + tmode | 1 => 32 + tmode | _ => 0

/-- R335, R336: every die is RESET, which clears its features, and is told its data interface. -/
def State.resetDies (s : State) (l : List DieParam) : State :=
  let x := ifaceCode (s.getF Reg.NAND_IF_CFG_MODE) (s.getF Reg.NAND_IF_CFG_TMODE)
  { s with ftl := { s.ftl with dies := (l.map dieNum).foldl (fun d n => sput {} d n { sget {} d n with feature := none, iface := x }) s.ftl.dies } }

/-- R335, R364: the parameter pages of the dies that answer are read, and the interface is selected. -/
def State.identify (s : State) (l : List DieParam) : State :=
  let mask (f : DieParam → Bool) : Nat :=
    ((List.range 8).map (fun i => bitIf (l.any (fun p => p.chan.val * 4 + p.ce.val == i && f p)) i)).sum
  let s := { s with ftl := { s.ftl with found := l } }
  let s := (s.setF Reg.NAND_CE_MAP_PRESENT (mask (fun _ => true))).setF Reg.NAND_CE_MAP_TWO_LUN (mask (fun p => p.lun.val == 1))
  let s := s.setF Reg.NAND_STAT_IF_MODE (s.getF Reg.NAND_IF_CFG_MODE)
  match l with
  | [] => s
  | p :: _ =>
    let s := (s.setF Reg.NAND_GEOM_PAGE_KIB p.pageKib).setF Reg.NAND_GEOM_LOG2_PPB p.ppbLog
    let s := (s.setF Reg.NAND_GEOM_PLANES p.planes).setF Reg.NAND_GEOM_SPARE_B8 (p.spare / 8)
    s.setF Reg.NAND_BLOCKS_PER_DIE_BLOCKS p.blocks

/-- R335: discovery: every die is reset and identified. -/
def State.discover (s : State) (l : List DieParam) : State := (s.resetDies l).identify l

/-- R338: the bytes of a page. -/
def State.pageBytes (s : State) : Nat := s.getF Reg.NAND_GEOM_PAGE_KIB * 1024

/-- R364: the pages of a block. -/
def State.ppb (s : State) : Nat := 2 ^ s.getF Reg.NAND_GEOM_LOG2_PPB

/-- R364: the blocks of a die. -/
def State.bpd (s : State) : Nat := s.getF Reg.NAND_BLOCKS_PER_DIE_BLOCKS

/-- A die. -/
def State.die (s : State) (d : Nat) : Die := sget {} s.ftl.dies d

/-- Replace a die. -/
def State.setDie (s : State) (d : Nat) (x : Die) : State := { s with ftl := { s.ftl with dies := sput {} s.ftl.dies d x } }

/-- The dies found, in ascending number. -/
def State.diesFound (s : State) : List Nat := (List.range 16).filter (fun d => s.ftl.found.any (fun p => dieNum p == d))

/-- R348, R360: the dies in service. -/
def State.diesIn (s : State) : List Nat := s.diesFound.filter (fun d => (s.die d).mode == .inService)

/-- The channel of a die. -/
def chanOf (d : Nat) : Nat := d / 8

/-- A physical block. -/
def State.blk (s : State) (p : Nat) : Blk := sget {} s.ftl.blks p

/-- Replace a physical block. -/
def State.setBlk (s : State) (p : Nat) (b : Blk) : State := { s with ftl := { s.ftl with blks := sput {} s.ftl.blks p b } }

/-- The die of a physical block. -/
def State.dieOf (s : State) (p : Nat) : Nat := p / s.bpd

/-- R343: is a block factory-bad? -/
def State.factoryBad (s : State) (p : Nat) : Bool :=
  s.ftl.found.any (fun q => dieNum q == s.dieOf p && q.factoryBad.contains (p % s.bpd))

/-- The good blocks of a die: neither retired nor factory-bad. -/
def State.goodBlocks (s : State) (d : Nat) : List Nat :=
  ((List.range s.bpd).map (fun b => d * s.bpd + b)).filter (fun p => !s.factoryBad p && (s.blk p).use != .retired)

/-- The blocks of a die with a use. -/
def State.blocksWith (s : State) (d : Nat) (u : BlkUse) : List Nat := (s.goodBlocks d).filter (fun p => (s.blk p).use == u)

/-- R358: all blocks of the medium, factory-bad ones included. -/
def State.allBlocks (s : State) : Nat := s.diesFound.length * s.bpd

/-- R358: the spare reserve. -/
def State.spares (s : State) : Nat := ((s.diesFound.filter (fun d => (s.die d).mode != .failed)).map (fun d => (s.blocksWith d .spare).length)).sum

/-! ## Read-only medium -/

/-- R358: no spare is left: the medium becomes read-only. -/
def State.goReadOnly (s : State) : State :=
  if s.flag Reg.FTL_STAT_READ_ONLY then s
  else (((s.setF Reg.FTL_STAT_READ_ONLY 1).irq Reg.FTL_IRQ_READ_ONLY).event .readOnly 0x23).stopAcks

/-- R358: the reserve has changed: SPARE_LOW follows, and READ_ONLY ends once the reserve holds SPARE_RESUME blocks. -/
def State.judgeSpares (s : State) : State :=
  let n := s.spares
  let low := decide (n ≤ s.getF Reg.FTL_SPARE_LOW_BLOCKS)
  let s := if low && !s.flag Reg.FTL_STAT_SPARE_LOW then (s.irq Reg.FTL_IRQ_SPARE_LOW).event .spareLow 0x23 (leBytes 4 n) else s
  let s := s.setF Reg.FTL_STAT_SPARE_LOW (if low then 1 else 0)
  if s.flag Reg.FTL_STAT_READ_ONLY && decide (s.getF Reg.FTL_SPARE_RESUME_BLOCKS ≤ n) then
    (s.setF Reg.FTL_STAT_READ_ONLY 0).judgeAcks
  else s

/-! ## Allocation -/

/-- R356: the block of a list with the lowest erase count, the first of equals. -/
def State.leastErased (s : State) (l : List Nat) : Option Nat :=
  l.foldl (fun r p => match r with
    | none => some p
    | some q => if (s.blk p).erases < (s.blk q).erases then some p else some q) none

/-- R356, R358: allocate a block on one of some dies, in order of preference; with none free, from the reserve of any die. -/
def State.allocBlk (s : State) (dies : List Nat) (b : Blk) : Option (Nat × State) :=
  let take (p : Nat) : State := s.setBlk p { b with erases := (s.blk p).erases, uncorr := (s.blk p).uncorr, patrolAt := s.tb1 }
  match (dies.filterMap (fun d => s.leastErased (s.blocksWith d .free))).head? with
  | some p => some (p, take p)
  | none =>
    match ((dies ++ s.diesIn).filterMap (fun d => s.leastErased (s.blocksWith d .spare))).head? with
    | some p => some (p, (take p).judgeSpares)
    | none => none

/-- R353: a change of a mapping is recorded in the map journal. -/
def State.mapNote (s : State) (n : Nat := 1) : State :=
  { s with ftl := { s.ftl with
    journal := s.ftl.journal + n, journalAt := if s.ftl.journal = 0 then s.tb1 else s.ftl.journalAt } }

/-- R338: the next write sequence number, which no page uses again. -/
def State.nextWseq (s : State) : Nat × State :=
  let w := s.get2 Reg.FTL_WSEQ_LO_SEQ Reg.FTL_WSEQ_HI_SEQ
  (w, s.set2 Reg.FTL_WSEQ_LO_SEQ Reg.FTL_WSEQ_HI_SEQ (w + 1))

/-- R336: before the first program or erase since its RESET, the pSLC feature of a die is written and read back. -/
def State.setFeature (s : State) (d : Nat) : State :=
  if !s.flag Reg.NAND_PSLC_CFG_EN ∨ (s.die d).feature.isSome then s
  else
    let v := s.getF Reg.NAND_PSLC_VAL_P1_P4
    let back := ((s.ftl.found.find? (fun p => dieNum p == d)).bind (·.feature)).map (·.toNat)
    s.setDie d { s.die d with feature := some { addr := s.getF Reg.NAND_PSLC_CFG_FADDR, value := v, back := back.getD v } }

/-- R336: did the feature of a die read back otherwise than it was written? Such a die begins nothing, and DIE_FAIL marks it (R360). -/
def State.featureBad (s : State) (d : Nat) : Bool :=
  match (s.die d).feature with
  | some f => f.back != f.value
  | none => false

/-! ## Stored pages -/

/-- R344: is a volume a boot volume? -/
def bootVol (v : Nat) : Bool := v == 4 || v == 5 || v == 9

/-- R342: is a volume mirrored? -/
def mirrored (v : Nat) : Bool := v == 1 || v == 4 || v == 5 || v == 7 || v == 8 || v == 9

/-- R342: the mirror copies of a volume. -/
def copiesOf (v : Nat) : List Nat := if mirrored v then [0, 1] else [0]

/-- R339: the key of the medium with a usage, where the slot named by `FTL.KEY_SLOT` grants it. -/
def State.nandKey (s : State) (usage : Nat) : Option Bytes :=
  let k := s.slot (s.getF Reg.FTL_KEY_SLOT_SLOT)
  if k.may usage && k.goes Dest.nandEnc then some k.key else none

/-- R339: is no key at hand for the pages of a volume? -/
def State.keyless (s : State) (vol : Nat) : Bool :=
  vol != 0 && !bootVol vol && ((s.nandKey Usage.enc).isNone || (s.nandKey Usage.dec).isNone)

/-- R338: the page tag as it stands in the spare area: the fields of the page, DATA_CRC and TAG_CRC. -/
def NPage.tag (p : NPage) : Bytes :=
  let b := leBytes 1 p.vol ++ leBytes 1 p.flags ++ leBytes 2 p.page ++ leBytes 4 p.lblk ++ leBytes 8 p.wseq ++ leBytes 4 (crc32c p.data) ++ leBytes 2 p.first ++ [0, 0] ++ leBytes 4 p.gseq
  b ++ leBytes 4 (crc32c b)

/-- R339, R343: the page data as stored, or read back, under the counter block of a physical page and a write sequence number. -/
def State.pageCrypt (s : State) (usage vol ppn wseq : Nat) (d : Bytes) : Option Bytes :=
  if vol = 0 ∨ bootVol vol then some d
  else (s.nandKey usage).map (fun k => aesCtr k (beBytes 4 ppn ++ beBytes 8 wseq ++ [0, 0, 0, 0]) d)

/-- A physical page. -/
def State.npage (s : State) (ppn : Nat) : Option NPage := sget none s.ftl.pages ppn

/-- R336, R338, R339: store a page with its plain data at a physical page, under the next write sequence number; none without a key, or on a die whose pSLC feature reads back
wrong. -/
def State.putPage (s : State) (ppn : Nat) (p : NPage) : Option State :=
  let s := s.setFeature (s.dieOf (ppn / s.ppb))
  let (w, t) := s.nextWseq
  if s.featureBad (s.dieOf (ppn / s.ppb)) then none
  else (s.pageCrypt Usage.enc p.vol ppn w p.data).map (fun d =>
    { t with ftl := { t.ftl with pages := sput none t.ftl.pages ppn (some { p with wseq := w, data := d }) } })

/-- R339: the plain data of a stored page; none without a key. -/
def State.readPage (s : State) (ppn : Nat) : Option Bytes :=
  match s.npage ppn with
  | some p => s.pageCrypt Usage.dec p.vol ppn p.wseq p.data
  | none => none

/-- Every page of a block is erased. -/
def State.clearPages (s : State) (p : Nat) : State :=
  { s with ftl := { s.ftl with pages := s.ftl.pages.filter (fun e => e.1 / s.ppb != p) } }

/-- R347: copy the pages of a block to another block, each at its place and under a counter block of its own. -/
def State.copyPages (s : State) (src dst : Nat) : State :=
  (List.range s.ppb).foldl (fun t i =>
    match t.npage (src * t.ppb + i), t.readPage (src * t.ppb + i) with
    | some pg, some d => (t.putPage (dst * t.ppb + i) { pg with data := d }).getD t
    | _, _ => t) s

/-- R343: the content of the medium header as its pages hold it: the geometry, the volume table, the die serials, MEDIUM_ID, the boot map, the generations and a CRC-32C. DESIGN
CHOICE (log entry 122): the spec gives no layout. -/
def State.headerBytes (s : State) (h : MediumHeader) : Bytes :=
  let b := leBytes 4 h.gen ++ leBytes 4 h.keyGen ++ leBytes 1 (s.getF Reg.NAND_GEOM_PAGE_KIB) ++ leBytes 1 (s.getF Reg.NAND_GEOM_LOG2_PPB) ++
    leBytes 1 (s.getF Reg.NAND_GEOM_PLANES) ++ leBytes 4 s.bpd ++ slice h.mediumId 0 16 ++ (List.range 10).flatMap (fun v => leBytes 4 (h.sizes.getD v 0)) ++
    h.serials.flatMap (fun x => slice x 0 32) ++ h.bootMap.flatMap (fun e => leBytes 1 e.1 ++ leBytes 1 e.2.1 ++ leBytes 4 e.2.2.1 ++ leBytes 4 e.2.2.2)
  b ++ leBytes 4 (crc32c b)

/-- R342, R344: the header generation goes to block 0 of a die, to its next page; the block is erased as its first page is written again. -/
def State.headerPage (s : State) (h : MediumHeader) (d : Nat) : State :=
  let p := d * s.bpd
  let s := if h.gen % s.ppb = 0 then (s.clearPages p).setBlk p { s.blk p with erases := (s.blk p).erases + 1 } else s
  (s.putPage (p * s.ppb + h.gen % s.ppb) { page := h.gen % s.ppb, data := s.headerBytes h }).getD s

/-- R342, R344: the header as it stands goes to block 0 of every die in service. -/
def State.writeHeader (s : State) : State :=
  match s.ftl.header with
  | some h => s.diesIn.foldl (fun t d => t.headerPage h d) s
  | none => s

/-! ## Operations on dies -/

/-- R19: the program queue of a die's channel. -/
def progQ (d : Nat) : Nat := 0x120 + chanOf d

/-- R337: is an operation a program? -/
def OpBody.isProg : OpBody → Bool
  | .progGroup _ _ | .progJob _ _ => true
  | _ => false

/-- R19: programs take their credits of the program queues, the oldest first. -/
def State.nandQueue (s : State) : State :=
  (s.ftl.ops.filter (fun o => o.body.isProg && !o.queued)).foldl (fun t o =>
    let q := progQ o.die
    if t.hasCredit q then
      match (t.enq q { body := .order o.id }).deqHeld q with
      | some (_, u) => { u with ftl := { u.ftl with ops := u.ftl.ops.map (fun x => if x.id = o.id then { x with queued := true } else x) } }
      | none => t
    else t) s

/-- R337: the next operation of a die: the lowest class, the oldest within it. -/
def State.nextOp (s : State) (d : Nat) : Option NandOp :=
  (s.ftl.ops.filter (fun o => o.die == d && (!o.body.isProg || o.queued))).foldl (fun r o => match r with
    | none => some o
    | some x => if o.cls < x.cls then some o else some x) none

/-- R336: is an operation a program or an erase? -/
def OpBody.isWrite : OpBody → Bool
  | .progGroup _ _ | .progJob _ _ | .erase | .eraseJob _ => true
  | _ => false

/-- R335, R354, R362: NANDn_WP_N is high while the medium is in service, unless `CTRL.WP_FORCE` holds it low. -/
def State.wpN (s : State) : Bool := s.flag Reg.FTL_STAT_MOUNTED && !s.flag Reg.NAND_CTRL_WP_FORCE

/-- R336, R337: every die that runs no operation begins the next one; no program or erase begins while NANDn_WP_N is low. -/
def State.nandStart (s : State) : State :=
  if !s.flag Reg.NAND_CTRL_ENABLE then s
  else s.diesFound.foldl (fun t d =>
    if t.ftl.ops.any (fun o => o.die == d && o.running) then t
    else match t.nextOp d with
      | some o =>
        let t := if o.body.isWrite then t.setFeature d else t
        if t.featureBad d ∨ (o.body.isWrite ∧ !t.wpN) then t
        else { t with ftl := { t.ftl with ops := t.ftl.ops.map (fun x => if x.id = o.id then { x with running := true, since := t.tb1 } else x) } }
      | none => t) s.nandQueue

/-- R337: does an operation of a higher class than `c` wait for a die, or run? What the FTL does of itself in class `c` waits for it (log entry 121). -/
def State.higherWaits (s : State) (c : Nat) : Bool := s.ftl.ops.any (fun o => decide (o.cls < c))

/-- R337: add an operation on a die. -/
def State.addOp (s : State) (d target cls : Nat) (b : OpBody) : State :=
  let o : NandOp := { id := s.ftl.opNext, die := d, target := target, cls := cls, body := b }
  { s with ftl := { s.ftl with ops := s.ftl.ops ++ [o], opNext := s.ftl.opNext + 1 } }

/-- R337: the operation that a die runs. -/
def State.runningOp (s : State) (d : Nat) : Option NandOp := s.ftl.ops.find? (fun o => o.die == d && o.running)

/-- R19: an operation ends: its credit returns. -/
def State.endOp (s : State) (o : NandOp) : State :=
  let s := { s with ftl := { s.ftl with ops := s.ftl.ops.filter (fun x => x.id != o.id) } }
  if o.queued then s.creditBack (progQ o.die) else s

/-- R359: blocks wait for their erase. -/
def State.eraseLater (s : State) (l : List Nat) : State :=
  l.foldl (fun t p => (t.setBlk p { t.blk p with use := .stale }).addOp (t.dieOf p) (p * t.ppb) 4 .erase) s

/-! ## Mapping -/

/-- The key of a logical block copy. -/
def mapKey (vol copy lblk : Nat) : Nat := (vol * 2 + copy) * 2 ^ 24 + lblk

/-- R344, R346: the data block of a logical block copy. -/
def State.dataBlk (s : State) (vol copy lblk : Nat) : Option Nat :=
  if bootVol vol then
    (s.ftl.header.bind (fun h => h.bootMap.find? (fun e => e.1 == vol && e.2.1 == copy && e.2.2.1 == lblk))).map (fun e => e.2.2.2)
  else
    let v := sget 0 s.ftl.map (mapKey vol copy lblk)
    if v = 0 then none else some (v - 1)

/-- R346: map a logical block copy to a data block, or to none. -/
def State.mapTo (s : State) (vol copy lblk : Nat) (p : Option Nat) : State :=
  State.mapNote { s with ftl := { s.ftl with map := sput 0 s.ftl.map (mapKey vol copy lblk) ((p.map (· + 1)).getD 0) } }

/-- R342, R353: a page of the map journal in one copy of JOURNAL, the `n`th in turn; a block is erased as its first page is written again. DESIGN CHOICE (log entry 122): the spec
does not lay out the entries, so that the page holds none. -/
def State.journalPage (s : State) (c n : Nat) : State :=
  let size := (s.ftl.header.map (fun h => h.sizes.getD 1 0)).getD 0
  let lblk := n / s.ppb % size
  match if size = 0 then none else s.dataBlk 1 c lblk with
  | none => (s.nextWseq).2
  | some p =>
    let t := if n % s.ppb = 0 ∧ size * s.ppb ≤ n then (s.clearPages p).setBlk p { s.blk p with erases := (s.blk p).erases + 1 } else s
    (t.putPage (p * s.ppb + n % s.ppb) { vol := 1, flags := c, page := n % s.ppb, lblk := lblk }).getD (t.nextWseq).2

/-- R353: the map journal is flushed, in mirrored pages. -/
def State.mapFlush (s : State) : State :=
  if s.ftl.journal = 0 then s
  else
    let t := (s.journalPage 0 s.ftl.flushes).journalPage 1 s.ftl.flushes
    { t with ftl := { t.ftl with journal := 0, flushes := s.ftl.flushes + 1 } }

/-- R346: the log block of a logical block copy. -/
def State.logOf (s : State) (vol copy lblk : Nat) : Option LogBlk :=
  s.ftl.logs.find? (fun l => l.vol == vol && l.copy == copy && l.lblk == lblk)

/-- R346: the place of a page in a log block: its newest write. -/
def LogBlk.place (l : LogBlk) (page : Nat) : Option Nat :=
  ((l.pages.zipIdx.filter (fun e => e.1 == page)).getLast?).map (·.2)

/-- R348: the physical block of a logical block of ARCHIVE. -/
def State.archBlk (s : State) (lblk : Nat) : Option Nat :=
  (s.ftl.stripes.flatMap (fun t => t.blocks)).find? (fun p => (s.blk p).lblk == lblk)

/-- R346: the newest copy of a logical page. -/
def State.findPage (s : State) (vol copy lblk page : Nat) : Option Nat :=
  if vol = 2 then (s.archBlk lblk).map (fun p => p * s.ppb + page)
  else
    match (s.logOf vol copy lblk).bind (fun l => (l.place page).map (fun i => l.pblk * s.ppb + i)) with
    | some n => some n
    | none =>
      (s.dataBlk vol copy lblk).bind (fun p => if (s.npage (p * s.ppb + page)).isSome then some (p * s.ppb + page) else none)

/-- R358: an operation that waits for a block goes to its replacement; a program takes a new credit there. -/
def State.retarget (s : State) (old new : Nat) : State :=
  (s.ftl.ops.filter (fun o => o.target / s.ppb == old && o.body != .erase)).foldl (fun t o =>
    let t := if o.queued then t.creditBack (progQ o.die) else t
    { t with ftl := { t.ftl with ops := t.ftl.ops.map (fun (x : NandOp) =>
      if x.id = o.id then
        { x with target := new * t.ppb + x.target % t.ppb, die := t.dieOf new, queued := false, running := false }
      else x) } }) s

/-- R358: every reference to a block goes to its replacement. -/
def State.replaceBlk (s : State) (old new : Nat) : State :=
  let fix (p : Nat) : Nat := if p = old then new else p
  let f := s.ftl
  let boot : Bool := f.header.any (fun h => h.bootMap.any (fun e => e.2.2.2 == old))
  let t := State.retarget { s with ftl := { f with
    map := f.map.map (fun e => if e.2 = old + 1 then (e.1, new + 1) else e)
    logs := f.logs.map (fun l => { l with pblk := fix l.pblk })
    stripes := f.stripes.map (fun t => { t with blocks := t.blocks.map fix })
    header := f.header.map (fun h => { h with gen := h.gen + bit1 boot, bootMap := h.bootMap.map (fun e => (e.1, e.2.1, e.2.2.1, fix e.2.2.2)) })
    jobs := f.jobs.map (fun j => { j with fresh := j.fresh.map (fun e => (e.1, e.2.1, fix e.2.2)) }) } } old new
  if boot then t.writeHeader else t

/-- R358: count and report the retirement of a block. -/
def State.noteRetired (s : State) (p : Nat) : State :=
  ((s.count Reg.FTL_RETIRED_CNT_CNT).irq Reg.FTL_IRQ_RETIRED).event .blockRetired 0x23 (leBytes 4 p)

/-- R358: a block is retired: its valid pages move to a spare of its die, or of any die; with no spare, or no key to move
them under (R339), the medium becomes read-only and the block stays mapped. The answer is the block that now holds its pages. -/
def State.retire (s : State) (p : Nat) : State × Nat :=
  let b := s.blk p
  let s := (s.noteRetired p).mapNote
  if b.use = .free ∨ b.use = .spare ∨ b.use = .stale then (s.setBlk p { b with use := .retired }, p)
  else
    match if s.keyless b.vol then none else (((s.dieOf p) :: s.diesIn).filterMap (fun d => s.leastErased (s.blocksWith d .spare))).head? with
    | none => (s.goReadOnly, p)
    | some q =>
      let s := s.setBlk q { b with erases := (s.blk q).erases, uncorr := (s.blk q).uncorr, relocate := false }
      let s := (s.copyPages p q).replaceBlk p q
      ((s.setBlk p { b with use := .retired }).judgeSpares, q)

/-! ## Log blocks and merges -/

/-- R346, R357: the dies of a copy of a logical block, in the order of preference: successive logical blocks on successive dies, the
two copies on different channels. -/
def State.diesFor (s : State) (vol copy lblk : Nat) : List Nat :=
  let l := if mirrored vol then s.diesIn.filter (fun d => chanOf d == copy) else s.diesIn
  let l := if l.isEmpty then s.diesIn else l
  (l.drop (lblk % l.length)) ++ l.take (lblk % l.length)

/-- The blocks given up by a merge wait for their erase. -/
def State.giveUp (s : State) (l : List (Option Nat)) : State := s.eraseLater (l.filterMap id)

/-- R346: a merge ends as a switch to a block that holds every page. -/
def State.switchTo (s : State) (l : LogBlk) (p : Nat) (old : List (Option Nat)) : State :=
  let s := { s with ftl := { s.ftl with logs := s.ftl.logs.filter (fun x => x != l) } }
  let s := s.setBlk p { s.blk p with use := .data, vol := l.vol, copy := l.copy, lblk := l.lblk, relocate := false }
  (s.mapTo l.vol l.copy l.lblk (some p)).giveUp old

/-- R347: failed tries of a copy: each retires its destination and is counted; the third makes the medium read-only. -/
def State.copyFails (s : State) : Nat → State
  | 0 => s
  | n + 1 =>
    let s := s.copyFails n
    let s := (s.count Reg.FTL_COPY_RETRY_CNT_CNT)
    match s.allocBlk s.diesIn {} with
    | some (p, t) => (t.noteRetired p).setBlk p { t.blk p with use := .retired }
    | none => s.goReadOnly

/-- R346: the newest copy of every page of a logical block copy goes to a new block, in order. -/
def State.gather (s : State) (vol copy lblk dst : Nat) : State :=
  (List.range s.ppb).foldl (fun t i =>
    match t.findPage vol copy lblk i with
    | none => t
    | some n =>
      match t.npage n, t.readPage n with
      | some pg, some d => (t.putPage (dst * t.ppb + i) { pg with page := i, data := d }).getD t
      | _, _ => t) s

/-- R346, R347: merge a log block; `fails` tries fail first, every one without a key (R339). -/
def State.mergeLog (s : State) (l : LogBlk) (fails : Nat) : State :=
  let fails := if s.keyless l.vol then 3 else fails
  let data := s.dataBlk l.vol l.copy l.lblk
  let inOrder := l.pages == List.range l.pages.length
  if inOrder && l.pages.length == s.ppb then s.switchTo l l.pblk [data]
  else
    let s := s.count Reg.FTL_MERGE_CNT_CNT
    let s := s.copyFails fails
    if 3 ≤ fails then s.goReadOnly
    else if inOrder && fails == 0 then
      let s := (List.range s.ppb).foldl (fun t i =>
        if i < l.pages.length then t
        else match data.bind (fun p => (t.readPage (p * t.ppb + i)).map (fun d => (p, d))) with
          | some (p, d) => (t.putPage (l.pblk * t.ppb + i) { (t.npage (p * t.ppb + i)).getD {} with data := d }).getD t
          | none => t) s
      s.switchTo l l.pblk [data]
    else
      match s.allocBlk (s.diesFor l.vol l.copy l.lblk) { use := .data, vol := l.vol, copy := l.copy, lblk := l.lblk } with
      | none => s.goReadOnly
      | some (p, t) => (t.gather l.vol l.copy l.lblk p).switchTo l p [data, some l.pblk]

/-- R346: the log block whose last write is oldest. -/
def State.oldestLog (s : State) : Option LogBlk :=
  s.ftl.logs.foldl (fun r l => match r with
    | none => some l
    | some x => if l.last < x.last then some l else some x) none

/-- R346, R353: a log block with a free page for a logical block copy. A full one is merged first; with the pool empty the one whose
last write is oldest is. -/
def State.openLog (s : State) (vol copy lblk : Nat) : Option (LogBlk × State) :=
  let s := match s.logOf vol copy lblk with
    | some l => if l.pages.length < s.ppb then s else s.mergeLog l 0
    | none => s
  match s.logOf vol copy lblk with
  | some l => some (l, s)
  | none =>
    let s := if s.ftl.logs.length < 64 then s else match s.oldestLog with
      | some l => s.mergeLog l 0
      | none => s
    match s.allocBlk (s.diesFor vol copy lblk) { use := .log, vol := vol, copy := copy, lblk := lblk } with
    | none => none
    | some (p, t) =>
      let l : LogBlk := { vol := vol, copy := copy, lblk := lblk, pblk := p }
      some (l, State.mapFlush (State.mapNote { t with ftl := { t.ftl with logs := t.ftl.logs ++ [l] } }))

/-- R346: write one copy of a logical page. -/
def State.writeCopy (s : State) (vol copy page : Nat) (d : Bytes) : Option State :=
  match s.openLog vol copy (page / s.ppb) with
  | none => none
  | some (l, t) =>
    let pg : NPage := { vol := vol, flags := copy, page := page % s.ppb, lblk := page / s.ppb, data := slice d 0 s.pageBytes }
    (t.putPage (l.pblk * t.ppb + l.pages.length) pg).map (fun u =>
      let w := (u.get2 Reg.FTL_WSEQ_LO_SEQ Reg.FTL_WSEQ_HI_SEQ) - 1
      { u with ftl := { u.ftl with logs := u.ftl.logs.map (fun x => if x = l then { x with pages := x.pages ++ [page % s.ppb], last := w } else x) } })

/-- R361: the logical blocks that a command item names, the first and the one past the last. -/
def State.itemBlks (s : State) (b : Bytes) : Nat × Nat :=
  (leAt b 4 4 / s.ppb, (leAt b 4 4 + leAt b 8 2 + s.ppb - 1) / s.ppb)

/-- R359: does a discard of a logical block run? -/
def State.discarding (s : State) (vol lblk : Nat) : Bool :=
  s.ftl.jobs.any (fun j => leAt j.item 0 1 == 4 && leAt j.item 2 1 == vol &&
    decide ((s.itemBlks j.item).1 ≤ lblk ∧ lblk < (s.itemBlks j.item).2))

/-- R342, R346: the writer of a random or ring volume writes a logical page in all its copies. None where the medium takes no write. -/
def State.volWrite (s : State) (vol page : Nat) (d : Bytes) : Option State :=
  if !s.flag Reg.FTL_STAT_MOUNTED || s.flag Reg.FTL_STAT_READ_ONLY || s.discarding vol (page / s.ppb) then none
  else (copiesOf vol).foldl (fun r c => r.bind (fun t => t.writeCopy vol c page d)) (some s)

/-- R342: the volume's page as its first copy that decodes holds it; none where no copy is written or no key is held. -/
def State.volRead (s : State) (vol page : Nat) : Option Bytes :=
  (copiesOf vol).findSome? (fun c => (s.findPage vol c (page / s.ppb) (page % s.ppb)).bind s.readPage)

/-- R344: a new header generation, with one logical block copy mapped to another block. -/
def bootMapPut (h : MediumHeader) (vol c lblk p : Nat) : MediumHeader :=
  { h with gen := h.gen + 1,
           bootMap := h.bootMap.filter (fun e => !(e.1 == vol && e.2.1 == c && e.2.2.1 == lblk)) ++ [(vol, c, lblk, p)] }

/-- R344: replace a boot volume's logical blocks by new ones, in both copies, with a new header generation. `l` gives the pages of
each logical block. The old blocks wait for their erase. -/
def State.bootWrite (s : State) (vol lblk : Nat) (pages : List Bytes) : Option State :=
  if !s.flag Reg.FTL_STAT_MOUNTED || s.flag Reg.FTL_STAT_READ_ONLY || s.discarding vol lblk then none
  else [0, 1].foldl (fun r c => r.bind (fun t =>
    let old := t.dataBlk vol c lblk
    (t.allocBlk (t.diesFor vol c lblk) { use := .data, vol := vol, copy := c, lblk := lblk }).map (fun (p, u) =>
      let u := pages.zipIdx.foldl (fun u e =>
        (u.putPage (p * u.ppb + e.2) { vol := vol, flags := c, page := e.2, lblk := lblk, data := slice e.1 0 u.pageBytes }).getD u) u
      let u : State := { u with ftl := { u.ftl with header := u.ftl.header.map (fun h => bootMapPut h vol c lblk p) } }
      u.writeHeader.giveUp [old]))) (some s)

/-! ## ARCHIVE stripes -/

/-- R343, R348: the stripes that ARCHIVE has room for. -/
def State.stripeMax (s : State) : Nat := ((s.ftl.header.map (fun h => h.sizes.getD 2 0)).getD 0) / s.diesIn.length

/-- R348: the pages left in the open stripe. -/
def State.stripeRoom (s : State) : Nat :=
  match s.ftl.stripes.getLast? with
  | some t => t.blocks.length * s.ppb - t.used
  | none => 0

/-- R352: is there space for `n` pages of a group? -/
def State.archSpace (s : State) (n : Nat) : Bool :=
  let per := s.diesIn.length * s.ppb
  let k := if n ≤ s.stripeRoom then 0 else (n - s.stripeRoom + per - 1) / per
  decide (0 < s.diesIn.length) && decide (s.ftl.stripes.length + k ≤ s.stripeMax) &&
    s.diesIn.all (fun d => decide (k ≤ (s.blocksWith d .free).length))

/-- R191, R352: the order from which the journal is kept: that of the older retained checkpoint. -/
def State.keepFrom (s : State) : Option Nat := (s.bill.complete.getLast?).map (·.order)

/-- R352: may the tail stripe be freed? -/
def State.tailFree (s : State) : Bool :=
  match s.ftl.stripes with
  | t :: _ =>
    decide (t.used = t.blocks.length * s.ppb) &&
      !s.path.groups.any (fun g => g.started && !g.written && decide (t.low.isSome ∧ some g.last = t.high)) &&
      (match t.high, s.keepFrom with
       | some h, some k => precedes h k
       | none, _ => true
       | _, none => false)
  | [] => false

/-- R352: ARCH_TAIL_ORDER follows the tail stripe. -/
def State.setTail (s : State) : State :=
  match s.ftl.stripes with
  | t :: _ =>
    match t.low with
    | some n => s.set2 Reg.FTL_ARCH_TAIL_ORDER_LO_ORDER Reg.FTL_ARCH_TAIL_ORDER_HI_ORDER n
    | none => s
  | [] => s

/-- R352: the tail stripe is freed. -/
def State.freeTail (s : State) : State :=
  match s.ftl.stripes with
  | t :: r =>
    let s := (State.mapNote { s with ftl := { s.ftl with stripes := r } }).eraseLater t.blocks
    s.setTail
  | [] => s

/-- R348, R353: a new stripe, one block on each die in service; its allocation is flushed before its first program. -/
def State.newStripe (s : State) : State :=
  let idx := s.ftl.stripeNext
  let n := s.diesIn.length
  let (s, l) := s.diesIn.zipIdx.foldl (fun (t, l) e =>
    match t.allocBlk [e.1] { use := .arch, vol := 2, lblk := idx % t.stripeMax * n + e.2 } with
    | some (p, u) => (u, l ++ [p])
    | none => (t, l)) (s, ([] : List Nat))
  State.mapFlush (State.mapNote { s with ftl := { s.ftl with
    stripes := s.ftl.stripes ++ [{ idx := idx, blocks := l }], stripeNext := idx + 1 } })

/-- R348: the next page of the stream: successive pages on successive dies of the stripe. -/
def State.archNext (s : State) : Nat × Nat × State :=
  let s := if s.stripeRoom = 0 then s.newStripe else s
  match s.ftl.stripes.getLast? with
  | some t =>
    let k := t.used % t.blocks.length
    let page := t.used / t.blocks.length
    let s := { s with ftl := { s.ftl with stripes := s.ftl.stripes.dropLast ++ [{ t with used := t.used + 1 }] } }
    (t.blocks.getD k 0, page, s)
  | none => (0, 0, s)

/-- R352: the orders of a group's entries widen the range of the open stripe. -/
def State.stripeOrders (s : State) (lo hi : Nat) : State :=
  match s.ftl.stripes.getLast? with
  | some t =>
    let low := match t.low with | some x => if precedes lo x then some lo else some x | none => some lo
    let high := match t.high with | some x => if precedes x hi then some hi else some x | none => some hi
    { s with ftl := { s.ftl with stripes := s.ftl.stripes.dropLast ++ [{ t with low := low, high := high }] } }
  | none => s

end Sys2Proof.Machine
end

