-- ==== Sys2Proof/Machine/Groups.lean ====
section
/-! DEFINITION. Groups: placing of commit items (R82, R348), the close (R83), the writing of a group (R348, R352), durability and its acknowledgements (R84, R87, R88), and the stall of Ladle's head (R93). -/

namespace Sys2Proof.Machine

/-! ## The pages of a group -/

/-- R349: the entries of a byte string, one after another. -/
def splitEntries : Nat → Bytes → List Bytes
  | 0, _ => []
  | fuel + 1, b =>
    if b.isEmpty then []
    else
      let n := 32 + bitsOf (leAt b 10 4) 9 0 + bitsOf (leAt b 10 4) 19 10
      let n := (n + 7) / 8 * 8
      b.take n :: splitEntries fuel (b.drop n)

/-- R349: the GAP entry of a range of order numbers. -/
def gapEntry (g : Nat × Nat) : Bytes := journalEntry g.1 0xFFFFF 7 (leBytes 6 g.1 ++ leBytes 6 g.2)

/-- R349: the PAD entry that ends a page with `n` bytes left, zeros where no header fits. -/
def padEntry (n : Nat) : Bytes :=
  if n < 32 then List.replicate n 0
  else slice (leBytes 6 (2 ^ 48 - 1) ++ leBytes 3 (15 * 2 ^ 20)) 0 n

/-- R348: the entries of a group in the order they are written: GAP entries, the group's entries by order number, GROUP_END. -/
def State.groupEntries (s : State) (g : Group) : List Bytes :=
  let l := s.ftl.gaps.map gapEntry ++ g.items.flatMap (fun i => splitEntries i.entry.length i.entry)
  l ++ [journalEntry g.last 0xFFFFF 8 (leBytes 6 g.seq ++ leBytes 4 l.length ++ leBytes 4 (crc32c l.flatten))]

/-- R338: the offset of the first entry that begins in the page that starts at byte `a` of the stream. -/
def firstEntry (lens : List Nat) (a n : Nat) : Nat :=
  ((lens.foldl (fun (p : Nat × Option Nat) len =>
    (p.1 + len, match p.2 with
      | some x => some x
      | none => if a ≤ p.1 ∧ p.1 < a + n then some (p.1 - a) else none)) (0, none)).2).getD 0xFFFF

/-- R348: the pages of a group: data, flags and the offset of the first entry. -/
def State.groupPages (s : State) (g : Group) : List (Bytes × Nat × Nat) :=
  let es := s.groupEntries g
  let b := es.flatten
  let n := s.pageBytes
  let k := if n = 0 then 0 else (b.length + n - 1) / n
  (List.range k).map (fun i =>
    let d := (b.drop (i * n)).take n
    let last := i + 1 == k
    let pad := n - d.length
    (d ++ padEntry pad, (if i = 0 then 2 else 0) + (if last then 4 else 0) + (if pad = 0 then 0 else 8),
      firstEntry (es.map List.length) (i * n) n))

/-! ## Writing groups -/

/-- Change a group. -/
def State.setGroup (s : State) (seq : Nat) (f : Group → Group) : State :=
  { s with path := { s.path with groups := s.path.groups.map (fun g => if g.seq = seq then f g else g) } }

/-- R348: program a page of a group on the next page of the stream. -/
def State.progGroupPage (s : State) (seq : Nat) (p : NPage) : State :=
  let id := s.ftl.opNext
  let (blk, page, s) := s.archNext
  let s := s.addOp (s.dieOf blk) (blk * s.ppb + page) 1
    (.progGroup seq { p with page := page, lblk := (s.blk blk).lblk })
  s.setGroup seq (fun g => { g with pages := g.pages ++ [id] })

/-- R363: WRITE_RATE shows the entry bytes of the past second. -/
def State.noteRate (s : State) (n : Nat) : State :=
  let sec := s.tb1 / nsPerS
  if sec = s.ftl.rateSec then { s with ftl := { s.ftl with rateBytes := s.ftl.rateBytes + n } }
  else
    let past := if sec = s.ftl.rateSec + 1 then s.ftl.rateBytes / 1000000 else 0
    { (s.setF Reg.FTL_WRITE_RATE_MBS (min 65535 past)) with ftl := { s.ftl with rateBytes := n, rateSec := sec } }

/-- R348: the programs of a group start. -/
def State.startGroup (s : State) (g : Group) : State :=
  let pages := s.groupPages g
  let s := s.noteRate ((s.groupEntries g).map List.length).sum
  let lo := (g.items.head?.map (·.order)).getD g.last
  let s := pages.foldl (fun t e =>
    (t.progGroupPage g.seq { vol := 2, flags := e.2.1, first := e.2.2, gseq := g.seq % 2 ^ 32, data := e.1 }).stripeOrders lo g.last) s
  let s := { s with ftl := { s.ftl with gaps := [] } }
  (s.setGroup g.seq (fun x => { x with started := true, written := pages.isEmpty })).nandStart

/-- R352: a group waits for space in the ring. -/
def State.archFull (s : State) : State :=
  if s.flag Reg.FTL_STAT_ARCH_FULL then s
  else ((s.setF Reg.FTL_STAT_ARCH_FULL 1).irq Reg.FTL_IRQ_ARCH_FULL).err 0x23 0x0106 0

/-- R348, R352: the oldest group that has not started is written if the medium takes writes and the ring has space; with OVERWRITE
the tail stripe is freed for it where the retention rule allows. -/
def State.tryGroup (s : State) : State :=
  match s.path.groups.find? (fun g => !g.started) with
  | none => s
  | some g =>
    if !s.flag Reg.FTL_STAT_MOUNTED || s.flag Reg.FTL_STAT_READ_ONLY then s
    else if s.archSpace (s.groupPages g).length then (s.setF Reg.FTL_STAT_ARCH_FULL 0).startGroup g
    else if !s.flag Reg.FTL_CTRL_ARCH_FULL && s.tailFree then s.freeTail.nandStart
    else s.archFull

/-- R348: every group that can be written is. -/
def State.tryGroups (s : State) : State := s.path.groups.foldl (fun t _ => t.tryGroup) s

/-! ## Placing -/

/-- R83: an edge reaches the FTL: the open group closes with its entries in order-number order. -/
def State.closePlaced (s : State) (seq last at_ : Nat) : State :=
  let later := fun (i : CommitItem) => i.order != last && precedes last i.order
  let g : Group := { seq := seq, last := last, closedAt := at_, items := s.path.placed.filter (fun i => !later i), late := s.path.lateEdges.contains seq }
  ({ s with path := { s.path with
    placed := s.path.placed.filter later, groups := s.path.groups ++ [g], lateEdges := s.path.lateEdges.erase seq } }).tryGroups

/-- R82: an entry of the shadow ring is released as it is placed, and with it those before it, which a flush of the queue has discarded. -/
def State.releaseShadow (s : State) (p : Payload) : State :=
  { s with path := { s.path with shadow := (s.path.shadow.dropWhile (fun x => x != p)).drop 1 } }

/-- R82, R348: the commit queue's items are lost and queued again from the shadow ring. -/
def State.requeueCommits (s : State) : State :=
  let n := (s.queue 0x118).items.length
  let x := s.queue 0x118
  let s := s.setQueue 0x118 { x with items := [], credits := x.credits + x.items.length }
  let s := s.count (Reg.qLost 0x118) n
  (s.path.shadow.foldl (fun t p => t.enq 0x118 { body := p }) s).irq Reg.LADL_IRQ_QPRIV_RECOVERED

/-- R82: the FTL takes an item from the commit queue. One that the shadow ring no longer holds is placed already. `parity` words of the item
fail their check (R55). -/
def execFtlPlaceItem (parity : Nat) (s : State) : Host.Outcome State Fault Refusal :=
  if !s.flag Reg.FTL_STAT_MOUNTED then idle s
  else
  let s := s.faultFront 0x118 parity
  match (s.queue 0x118).items.head? with
  | none => idle s
  | some i =>
    if i.poison ≠ 0 then .next (s.poisoned 0x118 i.poison).requeueCommits
    else match s.deq 0x118 with
    | none => idle s
    | some (_, t) =>
      if !s.path.shadow.contains i.body then .next t
      else
      let t := t.releaseShadow i.body
      match i.body with
      | .commit c =>
        let t := { t with path := { t.path with placed := t.path.placed ++ [c] } }
        .next (t.set2 Reg.LADL_PLACED_ORDER_LO_ORDER Reg.LADL_PLACED_ORDER_HI_ORDER c.order)
      | .groupEdge seq last at_ => .next (t.closePlaced seq last at_)
      | _ => .next t

/-! ## The close -/

/-- R83, R317: Ladle marks the edge of a group in the commit queue. -/
def State.markEdge (s : State) (seq last : Nat) : State :=
  let e : Payload := .groupEdge seq last s.tb1
  let s := (s.set2 Reg.LADL_GROUP_SEQ_LO_SEQ Reg.LADL_GROUP_SEQ_HI_SEQ seq).enq 0x118 { body := e }
  { s with path := { s.path with count := if last = s.path.lastItem then 0 else 1, shadow := s.path.shadow ++ [e] } }

/-- R83: the group period in ns. -/
def State.groupPeriod (s : State) : Nat := s.getF Reg.LADL_GC_CFG_PERIOD * 250000

/-- R83, R87, R317: the group period expires. A group that holds an item takes the next sequence number, and the partner is told (R317). The twin that
does not order closes at GROUP records only; while acknowledgements are stopped, or a GROUP record waits, the group stays open. -/
def execGroupClose (s : State) : Host.Outcome State Fault Refusal :=
  if s.tb1 < s.path.closeAt ∨ !s.orders ∨ s.flag Reg.LADL_STAT_ACK_STOPPED ∨ !s.twin.groupsDue.isEmpty then idle s
  else
    let s := { s with path := { s.path with closeAt := (s.tb1 / s.groupPeriod + 1) * s.groupPeriod } }
    if s.path.count = 0 then .next s
    else if !s.hasCredit 0x118 ∨ !s.feedCredit then .next { s with path := { s.path with closeAt := s.tb1 } }
    else
      let seq := (s.groupSeq + 1) % 2 ^ 48
      .next ((s.feed (.group seq s.path.lastItem)).markEdge seq s.path.lastItem)

/-! ## Durability -/

/-- R84: a frame of a durable group returns its replay credit and is acknowledged. -/
def State.releaseItem (s : State) (i : CommitItem) : State :=
  let s := s.freeReplay i.order
  match i.ack with
  | some a => s.acknowledge a i.order
  | none => s

/-- R84, R328: has the partner confirmed a group, where the pair requires it? -/
def State.peerDurable (s : State) (seq : Nat) : Bool :=
  !(s.flag Reg.TWIN_CTRL_ENABLE && s.flag Reg.TWIN_STAT_PAIRED && s.getF Reg.TWIN_STAT_ROLE == 4) || decide (seq ≤ s.path.peerSeq)

/-- R328: the DURABLE record that is due goes to the active once the order queue has credit. -/
def State.sendDurable (s : State) : State :=
  match s.twin.durDue with
  | some q => if s.hasCredit 0x180 then { s.enq 0x180 { body := .record (.durable q) } with twin := { s.twin with durDue := none } } else s
  | none => s

/-- R84, R351: the oldest group is durable: the sequence and order rise, and on the same edge its replay credits return and its
acknowledgements are issued. A standby reports the group to the active. -/
def State.durable (s : State) (g : Group) : State :=
  let s := { s with path := { s.path with groups := s.path.groups.drop 1 } }
  let s := s.set2 Reg.LADL_DURABLE_SEQ_LO_SEQ Reg.LADL_DURABLE_SEQ_HI_SEQ g.seq
  let s := s.set2 Reg.LADL_DURABLE_ORDER_LO_ORDER Reg.LADL_DURABLE_ORDER_HI_ORDER g.last
  let lat := min 65535 ((s.tb1 - g.closedAt) / 1000)
  let s := (s.setF Reg.FTL_GROUP_LAT_LAST_US lat).peak Reg.FTL_GROUP_LAT_MAX_US lat
  let s := g.items.foldl (fun t i => t.releaseItem i) s
  let s : State := if s.flag Reg.TWIN_CTRL_ENABLE && s.getF Reg.TWIN_STAT_ROLE == 3 then { s with twin := { s.twin with durDue := some g.seq } } else s
  s.sendDurable.releaseDups

/-- R84, R87: the oldest closed group becomes durable. While acknowledgements are stopped, it waits. -/
def execGroupDurable (s : State) : Host.Outcome State Fault Refusal :=
  match s.path.groups with
  | [] => idle s
  | g :: _ =>
    if g.written && s.peerDurable g.seq && !s.flag Reg.LADL_STAT_ACK_STOPPED then .next (s.durable g) else idle s

/-- R88: the groups that are late and not known to be, whose edge is still on its way to the FTL. -/
def State.newlyLate (s : State) (limit : Nat) : List Nat :=
  s.path.shadow.filterMap (fun p => match p with
    | .groupEdge seq _ at_ => if at_ + limit ≤ s.tb1 ∧ !s.path.lateEdges.contains seq then some seq else none
    | _ => none)

/-- R88: a closed group is late, whether or not its edge has reached the FTL. -/
def execDurableLate (s : State) : Host.Outcome State Fault Refusal :=
  let limit := s.getF Reg.LADL_GC_CFG_DURABLE_LIMIT * 1000000
  let edges := s.newlyLate limit
  if s.path.groups.any (fun g => !g.late && decide (g.closedAt + limit ≤ s.tb1)) || !edges.isEmpty then
    let s := s.irq Reg.LADL_IRQ_DURABLE_LATE
    .next { s with path := { s.path with
      groups := s.path.groups.map (fun g => if g.closedAt + limit ≤ s.tb1 then { g with late := true } else g),
      lateEdges := s.path.lateEdges ++ edges } }
  else idle s

/-- R93: the head of the window has waited longer than STALL_LIMIT. -/
def execLadleStall (s : State) : Host.Outcome State Fault Refusal :=
  if (s.flight s.commitNext).isSome ∧ !s.flag Reg.LADL_STAT_STALLED ∧
      s.path.headSince + s.getF Reg.LADL_STALL_LIMIT_US * 1000 < s.tb1 then
    .next ((s.setF Reg.LADL_STAT_STALLED 1).irq Reg.LADL_IRQ_STALL)
  else idle s

end Sys2Proof.Machine
end

