-- ==== Sys2Proof/Machine/Nand.lean ====
section
/-! DEFINITION. The NAND interface and the FTL's own work: the ends of programs, erases and reads (R340, R341, R358), timeouts and failed dies (R358, R360), mount (R354), merges (R346), wear levelling (R356), patrol (R357), and the boot reader (R345). -/

namespace Sys2Proof.Machine

/-! ## Jobs of commands -/

/-- R361: a command's completion: OP, TAG, status, and the pages done. -/
def ftlCompletion (item : Bytes) (status n : Nat) : Bytes :=
  slice (slice item 0 2 ++ leBytes 2 status ++ leBytes 4 n) 0 16

/-- R361: a command completes; an error is recorded on the page. -/
def State.ftlDone (s : State) (item : Bytes) (status n : Nat) : State :=
  let s := if status = 0 then s else s.err 0x23 status 0
  s.enq 0x11A { body := .bytes (ftlCompletion item status n) }

/-- Change a command under way. -/
def State.setJob (s : State) (j : Nat) (f : FtlJob → FtlJob) : State :=
  { s with ftl := { s.ftl with jobs := s.ftl.jobs.map (fun x => if x.id = j then f x else x) } }

/-- R344: a WRITE's new blocks take the place of the old ones under a new header, and only then do the old ones wait for their erase. -/
def State.installFresh (s : State) (j : FtlJob) : State :=
  let vol := leAt j.item 2 1
  let old := j.fresh.map (fun e => s.dataBlk vol e.1 e.2.1)
  let t := j.fresh.foldl (fun (t : State) e => { t with ftl := { t.ftl with header := t.ftl.header.map (fun h => bootMapPut h vol e.1 e.2.1 e.2.2) } }) s
  t.writeHeader.giveUp old

/-- R359, R361: the last operation of a command has ended: it completes. -/
def State.endJob (s : State) (j : Nat) : State :=
  match s.ftl.jobs.find? (fun x => x.id == j && x.left == 0) with
  | none => s
  | some x =>
    let s := { s with ftl := { s.ftl with jobs := s.ftl.jobs.filter (fun y => y.id != j) } }
    let op := leAt x.item 0 1
    if op = 2 then
      if x.status = 0 then (s.installFresh x).ftlDone x.item 0 (leAt x.item 8 2)
      else (s.giveUp (x.fresh.map (fun e => some e.2.2))).ftlDone x.item x.status 0
    else if op = 4 then s.ftlDone x.item x.status x.kept
    else s.ftlDone x.item x.status x.done

/-- R361: one operation of a command has ended. -/
def State.jobStep (s : State) (j : Nat) (f : FtlJob → FtlJob) : State :=
  (s.setJob j (fun x => f { x with left := x.left - 1 })).endJob j

/-! ## Programs -/

/-- R364: an error of an operation, with the channel and the chip enable. -/
def State.nandErr (s : State) (d code : Nat) : State := s.err 0x24 code (chanOf d + d % 8 / 2 * 16)

/-- R354: the highest order number of the last group that is complete on the medium with every earlier one. -/
def State.noteComplete (s : State) : State :=
  match (s.path.groups.takeWhile (fun g => g.written)).getLast? with
  | some g => { s with ftl := { s.ftl with lastOrder := g.last } }
  | none => s

/-- R351: a page of a group is programmed and verified. -/
def State.groupPageDone (s : State) (o : NandOp) (seq : Nat) : State :=
  (s.setGroup seq (fun g =>
    let l := g.pages.filter (fun i => i != o.id)
    { g with pages := l, written := g.started && l.isEmpty })).noteComplete

/-- R358: a program of a group failed: its block is retired and the page is programmed again on the next free page. On a read-only
medium the group waits to be written whole. -/
def State.groupPageFail (s : State) (o : NandOp) (seq : Nat) (p : NPage) : State :=
  let (s, _) := s.retire (o.target / s.ppb)
  let s := s.setGroup seq (fun g => { g with pages := g.pages.filter (fun i => i != o.id) })
  if s.flag Reg.FTL_STAT_READ_ONLY ∨ !s.archSpace 1 then s.setGroup seq (fun g => { g with started := false, pages := [] })
  else s.progGroupPage seq p

/-- R358: a program of a command's new block failed: the block is retired, its pages move to a spare and the page is programmed
there. On a read-only medium the command fails. -/
def State.jobPageFail (s : State) (o : NandOp) (j : Nat) (p : NPage) : State :=
  let (s, q) := s.retire (o.target / s.ppb)
  if s.flag Reg.FTL_STAT_READ_ONLY then s.jobStep j (fun x => { x with status := 0x0100 })
  else s.addOp (s.dieOf q) (q * s.ppb + o.target % s.ppb) o.cls (.progJob j p)

/-- R338, R358: a program failure, with its code. The write sequence number that the program used is not used again. -/
def State.progFail (s : State) (o : NandOp) : State :=
  let s := (s.nextWseq).2
  match o.body with
  | .progGroup seq p => s.groupPageFail o seq p
  | .progJob j p => s.jobPageFail o j p
  | _ => s

/-- R360: an operation of a die has succeeded. -/
def State.dieAlive (s : State) (d : Nat) : State := s.setDie d { s.die d with timeouts := none }

/-- R341: a program ends. It is verified when READ STATUS shows no failure within PROG_US and, with VERIFY_RB, the page reads back below
REFRESH; without a key for the page it counts as failed (R339). -/
def execNandProgramDone (die : Fin 16) (fail readBackOk : Bool) (parity : Nat) (s : State) : Host.Outcome State Fault Refusal :=
  let d := die.val
  match s.runningOp d with
  | none => idle s
  | some o =>
    if !o.body.isProg then idle s
    else
      let s := ((s.badWords (progQ d) parity).endOp o).dieAlive d
      let good := !fail && decide (s.tb1 ≤ o.since + s.getF Reg.NAND_TIMEOUT_PROG_US * 1000) && (!s.flag Reg.FTL_CTRL_VERIFY_RB || readBackOk)
      let stored : Option State := match o.body with
        | .progGroup seq p => if good then (s.putPage o.target p).map (fun t => t.groupPageDone o seq) else none
        | .progJob j p => if good then (s.putPage o.target p).map (fun t => t.jobStep j (fun x => { x with done := x.done + 1 })) else none
        | _ => none
      .next ((match stored with
        | some t => t
        | none =>
          (((s.count Reg.NAND_PROG_FAIL_CNT_CNT).irq Reg.NAND_IRQ_PROG_FAIL).nandErr d 0x0100).progFail o).nandStart)

/-! ## Erases -/

/-- R358, R359: an erase has succeeded: the block is free, or a retired block holds no copy any more. -/
def State.erased (s : State) (p : Nat) : State :=
  let b := s.blk p
  let s := s.clearPages p
  s.setBlk p (if b.use = .retired then { b with erases := b.erases + 1, vol := 0, copy := 0, lblk := 0 }
    else { use := .free, erases := b.erases + 1, uncorr := b.uncorr })

/-- R358: an erase has failed: the block is retired. -/
def State.eraseFail (s : State) (p : Nat) : State :=
  if (s.blk p).use = .retired then s
  else (s.noteRetired p).setBlk p { s.blk p with use := .retired }

/-- R364: the erase counts of the blocks in use. -/
def State.eraseSpan (s : State) : State :=
  let l := s.diesFound.flatMap (fun d => ((s.goodBlocks d).map s.blk).filterMap (fun b =>
    if b.use = .data ∨ b.use = .log ∨ b.use = .arch ∨ b.use = .header then some b.erases else none))
  (s.setF Reg.FTL_ERASE_MAX_COUNT (l.foldl max 0)).setF Reg.FTL_ERASE_MIN_COUNT (l.foldl min (l.headD 0))

/-- R358: the end of an erase of a die, as `fail` says. -/
def State.eraseEnd (s : State) (o : NandOp) (fail : Bool) : State :=
  let p := o.target / s.ppb
  let s := if fail then (((s.count Reg.NAND_ERASE_FAIL_CNT_CNT).irq Reg.NAND_IRQ_ERASE_FAIL).nandErr o.die 0x0101).eraseFail p
    else s.erased p
  let s := match o.body with
    | .eraseJob j => s.jobStep j (fun x => if fail then { x with kept := x.kept + 1 } else x)
    | _ => s
  s.eraseSpan

/-- R358: an erase ends. -/
def execNandEraseDone (die : Fin 16) (fail : Bool) (s : State) : Host.Outcome State Fault Refusal :=
  match s.runningOp die.val with
  | none => idle s
  | some o =>
    match o.body with
    | .erase | .eraseJob _ => .next (((s.endOp o).dieAlive die.val).eraseEnd o fail).nandStart
    | _ => idle s

/-! ## Reads -/

/-- R340: a read is uncorrectable also where it would take more retries than `ECC_CFG.RETRIES`. -/
def State.readBad (s : State) (r : ReadReport) : Bool := r.uncorrectable || decide (s.getF Reg.NAND_ECC_CFG_RETRIES < r.retries)

/-- R340: what a read reports is counted, and the block is queued for relocation at REFRESH or when it is uncorrectable. -/
def State.noteRead (s : State) (p : Nat) (r : ReadReport) : State :=
  let bad := s.readBad r
  let s := s.count Reg.NAND_READ_RETRY_CNT_CNT (min r.retries (s.getF Reg.NAND_ECC_CFG_RETRIES))
  let s := if bad then (s.count Reg.NAND_UNCORR_CNT_CNT).irq Reg.NAND_IRQ_UNCORR
    else s.peak Reg.NAND_CORR_MAX_BITS (min 72 r.bits)
  if bad ∨ s.getF Reg.NAND_ECC_CFG_REFRESH ≤ r.bits then
    let b := s.blk p
    if bad ∧ b.uncorr ∧ !b.relocate then (s.retire p).1
    else s.setBlk p { b with relocate := true, uncorr := b.uncorr || bad }
  else s

/-- R340, R361: a page read for a command reaches DRAM. -/
def State.readOut (s : State) (o : NandOp) (j addr : Nat) : State :=
  match s.readPage o.target with
  | some d => (s.write addr (slice d 0 s.pageBytes)).jobStep j (fun x => { x with done := x.done + 1 })
  | none => (s.irq Reg.FTL_IRQ_READ_FAIL).jobStep j (fun x => { x with status := 0x0105 })

/-- R342: the same page of the other mirror copy. -/
def State.otherCopy (s : State) (ppn : Nat) : Option Nat :=
  match s.npage ppn with
  | some p => if mirrored p.vol then s.findPage p.vol (1 - p.flags % 2) p.lblk p.page else none
  | none => none

/-- R340: a read has failed: another mirror copy is read, or the requester learns of READ_FAIL. -/
def State.readFail (s : State) (o : NandOp) (j addr : Nat) (other : Bool) : State :=
  match s.otherCopy o.target with
  | some n => if !other then s.addOp (s.dieOf (n / s.ppb)) n 3 (.readJob j addr true)
    else (s.irq Reg.FTL_IRQ_READ_FAIL).jobStep j (fun x => { x with status := 0x0105 })
  | none => (s.irq Reg.FTL_IRQ_READ_FAIL).jobStep j (fun x => { x with status := 0x0105 })

/-- R339, R340: the end of a read; a page that no key opens is an uncorrectable read. -/
def State.readEnd (s : State) (o : NandOp) (r : ReadReport) : State :=
  match o.body with
  | .readJob j addr other =>
    if (s.readPage o.target).isNone then (s.noteRead (o.target / s.ppb) { r with uncorrectable := true }).readFail o j addr other
    else if s.readBad r then (s.noteRead (o.target / s.ppb) r).readFail o j addr other
    else (s.readOut o j addr).noteRead (o.target / s.ppb) r
  | _ => s.noteRead (o.target / s.ppb) r

/-- R340: a page read ends. -/
def execNandReadDone (die : Fin 16) (report : ReadReport) (s : State) : Host.Outcome State Fault Refusal :=
  match s.runningOp die.val with
  | none => idle s
  | some o =>
    match o.body with
    | .readJob _ _ _ | .readPatrol => .next (((s.endOp o).dieAlive die.val).readEnd o report).nandStart
    | _ => idle s

/-! ## Timeouts and failed dies -/

/-- R358, R364: an operation exceeds its timeout: it has failed and its block is retired. -/
def execNandTimeout (die : Fin 16) (s : State) : Host.Outcome State Fault Refusal :=
  let d := die.val
  match s.runningOp d with
  | none => idle s
  | some o =>
    let us := match o.body with
      | .erase | .eraseJob _ => s.getF Reg.NAND_TIMEOUT_ERASE_US * 10
      | _ => s.getF Reg.NAND_TIMEOUT_PROG_US
    if s.tb1 < o.since + us * 1000 then idle s
    else
      let s := s.endOp o
      let s := s.setDie d { s.die d with timeouts := some ((s.die d).timeouts.getD s.tb1) }
      let s := ((s.count Reg.NAND_TIMEOUT_CNT_CNT).irq Reg.NAND_IRQ_TIMEOUT).nandErr d 0x0102
      .next (match o.body with
        | .erase | .eraseJob _ => s.eraseEnd o true
        | .readJob j addr other => ((s.retire (o.target / s.ppb)).1).readFail o j addr other
        | .readPatrol => (s.retire (o.target / s.ppb)).1
        | _ => s.progFail o).nandStart

/-- R360: the ranges of order numbers whose ARCHIVE pages a die held. -/
def State.lostRanges (s : State) (d : Nat) : List (Nat × Nat) :=
  s.ftl.stripes.filterMap (fun t =>
    if t.blocks.any (fun p => s.dieOf p == d) then
      match t.low, t.high with
      | some a, some b => some (a, b)
      | _, _ => none
    else none)

/-- R360: a mirrored logical block whose copy lay on a die is copied from the other onto another die. -/
def State.remirror (s : State) (vol copy lblk : Nat) : State :=
  match s.allocBlk (s.diesFor vol copy lblk) { use := .data, vol := vol, copy := copy, lblk := lblk } with
  | none => s.goReadOnly
  | some (p, t) =>
    let t := (List.range t.ppb).foldl (fun u i =>
      match u.findPage vol (1 - copy) lblk i with
      | none => u
      | some n => match u.readPage n with
        | some x => (u.putPage (p * u.ppb + i) { vol := vol, flags := copy, page := i, lblk := lblk, data := x }).getD u
        | none => u) t
    if bootVol vol then State.writeHeader { t with ftl := { t.ftl with header := t.ftl.header.map (fun h => bootMapPut h vol copy lblk p) } }
    else t.mapTo vol copy lblk (some p)

/-- R342, R360: the logical block copies on a die, boot volumes included. -/
def State.copiesOn (s : State) (d : Nat) : List (Nat × Nat × Nat) :=
  let boot := ((s.ftl.header.map (·.bootMap)).getD []).filter (fun e => s.dieOf e.2.2.2 == d)
  boot.map (fun e => (e.1, e.2.1, e.2.2.1)) ++
    (s.ftl.map.filter (fun e => e.2 != 0 && s.dieOf (e.2 - 1) == d)).map (fun e => (e.1 / 2 ^ 24 / 2, e.1 / 2 ^ 24 % 2, e.1 % 2 ^ 24))

/-- R360: the die's operations are begun again elsewhere, or fail. -/
def State.dropOps (s : State) (d : Nat) : State :=
  (s.ftl.ops.filter (fun o => o.die == d)).foldl (fun t o =>
    let t := t.endOp o
    match o.body with
    | .progGroup seq p =>
      let t := t.setGroup seq (fun g => { g with pages := g.pages.filter (fun i => i != o.id) })
      if t.archSpace 1 then t.progGroupPage seq p else t.setGroup seq (fun g => { g with started := false, pages := [] })
    | .progJob j _ => t.jobStep j (fun x => { x with status := 0x0105 })
    | .readJob j addr other => t.readFail o j addr other
    | .eraseJob j => t.jobStep j (fun x => { x with kept := x.kept + 1 })
    | _ => t) s

/-- R360: a die is marked FAILED: mirrored volumes are mirrored again on other dies, what was not mirrored is lost, and the lost order
ranges become GAP entries of the next group. -/
def State.failDie (s : State) (d : Nat) : State :=
  let gaps := s.lostRanges d
  let l := s.copiesOn d
  let s := s.setDie d { mode := .failed, timeouts := none }
  let s := { s with ftl := { s.ftl with
    gaps := s.ftl.gaps ++ gaps, logs := s.ftl.logs.filter (fun x => s.dieOf x.pblk != d),
    stripes := s.ftl.stripes.map (fun (t : Stripe) => if t.blocks.any (fun p => s.dieOf p == d) then { t with used := t.blocks.length * s.ppb } else t) } }
  let s := l.foldl (fun t e => if mirrored e.1 then t.remirror e.1 e.2.1 e.2.2 else t.mapTo e.1 e.2.1 e.2.2 none) s
  ((s.dropOps d).setF Reg.FTL_STAT_DIE_FAILED 1).irq Reg.FTL_IRQ_DIE_FAIL

/-- R336, R360: has a die failed its operations with timeouts for 1 s, or its pSLC feature read back wrong? -/
def State.dieFails (s : State) (d : Nat) : Bool :=
  (match (s.die d).timeouts with | some t => decide (t + nsPerS ≤ s.tb1) | none => false) || s.featureBad d

/-- R336, R360: a die fails. -/
def execDieFail (die : Fin 16) (s : State) : Host.Outcome State Fault Refusal :=
  let d := die.val
  if (s.die d).mode ≠ .failed ∧ s.dieFails d then
    .next (s.settling fun s => ((s.failDie d).event .dieFailed 0x23 [BitVec.ofNat 8 d]).nandStart)
  else idle s

/-! ## The map, merges, wear and patrol -/

/-- R337, R353: the map journal is flushed at its time or count, once no program of a group waits. -/
def execMapJournalFlush (s : State) : Host.Outcome State Fault Refusal :=
  if s.ftl.journal ≠ 0 ∧ !s.higherWaits 2 ∧ (s.getF Reg.FTL_MAP_CFG_ENTRIES ≤ s.ftl.journal ∨ s.ftl.journalAt + s.getF Reg.FTL_MAP_CFG_MS * 1000000 ≤ s.tb1) then
    .next s.mapFlush
  else idle s

/-- R357: a block is relocated: its pages go to a new block of its die, or of another, and it waits for its erase. -/
def State.relocate (s : State) (p fails : Nat) : State :=
  let b := s.blk p
  let fails := if s.keyless b.vol then 3 else fails
  let s := s.copyFails fails
  if 3 ≤ fails then s.goReadOnly
  else match s.allocBlk (s.dieOf p :: s.diesIn) { b with relocate := false } with
    | none => s.goReadOnly
    | some (q, t) =>
      let t := (((t.copyPages p q).replaceBlk p q).setBlk p { t.blk p with relocate := false }).mapNote
      (t.eraseLater [p]).count Reg.FTL_RELOCATE_CNT_CNT

/-- R340, R357: the first block that is queued for relocation. -/
def State.toRelocate (s : State) : Option Nat :=
  (s.ftl.blks.find? (fun e => e.2.relocate && (e.2.use == .data || e.2.use == .log || e.2.use == .arch))).map (·.1)

/-- R346, R357: a full log block is merged, or the one whose last write is oldest when the pool is empty; otherwise a block queued for relocation
is moved. `fails` tries of the copy fail first (R347). It waits for the operations of higher classes (R337). -/
def execLogBlockMerge (fails : Fin 4) (s : State) : Host.Outcome State Fault Refusal :=
  if !s.flag Reg.FTL_STAT_MOUNTED ∨ s.flag Reg.FTL_STAT_READ_ONLY ∨ s.higherWaits 4 then idle s
  else match s.ftl.logs.find? (fun l => l.pages.length == s.ppb) with
  | some l => .next (s.settling fun s => (s.mergeLog l fails.val).nandStart)
  | none =>
    match (if 64 ≤ s.ftl.logs.length then s.oldestLog else none), s.toRelocate with
    | some l, _ => .next (s.settling fun s => (s.mergeLog l fails.val).nandStart)
    | none, some p => .next (s.settling fun s => (s.relocate p fails.val).nandStart)
    | none, none => idle s

/-- R356: the data block with the lowest erase count and the free block with the highest. -/
def State.wearPair (s : State) : Option (Nat × Nat) :=
  let data := s.diesIn.flatMap (fun d => s.blocksWith d .data)
  let free := s.diesIn.flatMap (fun d => s.blocksWith d .free)
  let top := free.foldl (fun r p => match r with
    | none => some p
    | some q => if (s.blk q).erases < (s.blk p).erases then some p else some q) none
  match s.leastErased data, top with
  | some a, some b => some (a, b)
  | _, _ => none

/-- R356: the data of the least-erased data block moves into the most-erased free block, at most once per interval. -/
def execWearLevelMove (fails : Fin 4) (s : State) : Host.Outcome State Fault Refusal :=
  let s' := s.eraseSpan
  if s.flag Reg.FTL_STAT_MOUNTED ∧ !s.flag Reg.FTL_STAT_READ_ONLY ∧ !s.higherWaits 5 ∧
      s.getF Reg.FTL_WL_DELTA_COUNT < s'.getF Reg.FTL_ERASE_MAX_COUNT - s'.getF Reg.FTL_ERASE_MIN_COUNT ∧
      s.ftl.wlAt + s.getF Reg.FTL_WL_CFG_INTERVAL_S * nsPerS ≤ s.tb1 then
    match s.wearPair with
    | none => idle s
    | some (a, b) =>
      .next (s.settling fun s =>
        let fails := if s.keyless (s.blk a).vol then 3 else fails.val
        let s := s.copyFails fails
        let s := { s with ftl := { s.ftl with wlAt := s.tb1 } }
        if fails = 3 then s.goReadOnly
        else
          let s := s.setBlk b { s.blk a with erases := (s.blk b).erases, uncorr := (s.blk b).uncorr }
          ((((s.copyPages a b).replaceBlk a b).mapNote).eraseLater [a]).nandStart)
  else idle s

/-- R357: the divisor of the patrol period at a mean die temperature in °C. -/
def patrolDivisor (temp : Nat) : Nat :=
  if temp ≤ 85 then 1 else if temp ≤ 95 then 2 else if temp ≤ 105 then 4 else if temp ≤ 115 then 8 else 16

/-- R357: the first block with valid data whose next page is due in a period. -/
def State.patrolDue (s : State) (period : Nat) : Option Nat :=
  (s.ftl.blks.find? (fun e =>
    (e.2.use == .data || e.2.use == .log || e.2.use == .arch || e.2.use == .header) &&
      decide (e.2.patrolAt + period * e.2.patrolPage / s.ppb ≤ s.tb1) &&
      !s.ftl.ops.any (fun o => o.body == .readPatrol && o.target / s.ppb == e.1))).map (·.1)

/-- R357: the patrol reads the next page of a block, at a mean die temperature of the past hour. -/
def execPatrolRead (temp : BitVec 8) (s : State) : Host.Outcome State Fault Refusal :=
  let period := s.getF Reg.FTL_PATROL_CFG_DAYS * 86400 * nsPerS / patrolDivisor temp.toNat
  if !s.flag Reg.FTL_CTRL_PATROL_EN ∨ !s.flag Reg.FTL_STAT_MOUNTED then idle s
  else match s.patrolDue period with
  | none => idle s
  | some p =>
    let b := s.blk p
    let n := p * s.ppb + b.patrolPage
    let b' := if b.patrolPage + 1 = s.ppb then { b with patrolPage := 0, patrolAt := b.patrolAt + period }
      else { b with patrolPage := b.patrolPage + 1 }
    let t := s.setBlk p b'
    .next (if (s.npage n).isSome then (t.addOp (t.dieOf p) n 5 .readPatrol).nandStart else t)

/-- R352: a group that waits is written once there is space in the ring. -/
def execArchSpaceResume (s : State) : Host.Outcome State Fault Refusal :=
  if s.path.groups.any (fun g => !g.started) then .next s.tryGroups else idle s

/-! ## Mount -/

/-- R354: a mount stops at a step. -/
def State.mountStops (s : State) (code info : Nat) : State := (s.setF Reg.FTL_STAT_MOUNTING 0).err 0x23 code info

/-- R358: the first mount after reset loads the two levels, except those that software has written. -/
def State.loadSpareLevels (s : State) : State :=
  if s.ftl.mounted1 then s
  else
    let n := s.allBlocks
    let s := if bitAt s.ftl.spareSet 0 = 1 then s else s.setF Reg.FTL_SPARE_LOW_BLOCKS ((n + 99) / 100)
    let s := if bitAt s.ftl.spareSet 1 = 1 then s else s.setF Reg.FTL_SPARE_RESUME_BLOCKS ((n + 199) / 200)
    { s with ftl := { s.ftl with mounted1 := true } }

/-- R354, R355: the map is rebuilt, groups without a good GROUP_END are ignored, and the medium comes into service. -/
def State.mountMap (s : State) : State :=
  let w := s.ftl.pages.foldl (fun w e => max w ((e.2.map (fun p => p.wseq)).getD 0)) (s.get2 Reg.FTL_WSEQ_LO_SEQ Reg.FTL_WSEQ_HI_SEQ)
  let s := { s with path := { s.path with groups := s.path.groups.filter (fun g => g.written) } }
  let s := s.set2 Reg.FTL_MOUNT_ORDER_LO_ORDER Reg.FTL_MOUNT_ORDER_HI_ORDER s.ftl.lastOrder
  let s := (s.set2 Reg.FTL_WSEQ_LO_SEQ Reg.FTL_WSEQ_HI_SEQ (w + 65536)).setTail
  let s := (s.setF Reg.FTL_STAT_MOUNTED 1).irq Reg.FTL_IRQ_MOUNTED
  let stale := (s.ftl.blks.filter (fun e => e.2.use == .stale && !s.ftl.ops.any (fun o => o.target == e.1 * s.ppb))).map (fun e => e.1)
  ((s.loadSpareLevels.judgeSpares).eraseLater stale).nandStart

/-- R354: the mount: the devices and the header are checked, and the map is rebuilt. `ckptOk`: the copies of a map checkpoint decode. -/
def State.mount (s : State) (ckptOk : Bool) : State :=
  let s := (s.setF Reg.FTL_CTRL_ENABLE 1)
  if s.flag Reg.FTL_STAT_MOUNTED then s
  else
    let s := s.discover s.ftl.found
    match badDie s.ftl.found with
    | some p => s.mountStops 0x0103 (p.chan.val * 4 + p.ce.val)
    | none =>
      if s.ftl.found.isEmpty || s.ftl.header.isNone then s.mountStops 0x0104 2
      else if !ckptOk then s.mountStops 0x0104 3
      else s.mountMap

/-- R354: a write of 1 to `FTL.CTRL.ENABLE`. After an opening of debug in GATED it is refused (R455). -/
def execFtlMount (req : Req) (ckptOk : Bool) (s : State) : Host.Outcome State Fault Refusal :=
  .next (s.onT req Reg.FTL_CTRL_ENABLE 1 fun s =>
    if s.flag Reg.LCS_STAT_DBG_CTX ∧ s.getF Reg.LCS_STAT_LC ≠ 0 then s.refuseAt req Reg.FTL_CTRL_ENABLE 0x0104 else s.mount ckptOk)

/-! ## The boot reader -/

/-- R345: may a boot read write to a range? -/
def State.bootDest (s : State) (a n : Nat) : Bool :=
  let within (lo hi : Nat) : Bool := decide (lo ≤ a) && decide (a + n ≤ hi + 1)
  within 0x08000000 0x0803FFFF || within 0x02000000 0x02003FFF || within 0x01000000 0x0100FFFF || within 0x10000000 0x107FFFFF ||
    within 0x20000000 0x203FFFFF || (s.domOn .mem && within 0x0880000000 dramTop)

/-- R344, R345: a byte of a boot volume as one copy holds it; an erased page reads as 0xFF. -/
def State.bootByte (s : State) (vol copy o : Nat) : Byte :=
  let n := o / s.pageBytes
  match s.findPage vol copy (n / s.ppb) (n % s.ppb) with
  | some ppn => match s.npage ppn with
    | some p => p.data.getD (o % s.pageBytes) 0xFF
    | none => 0xFF
  | none => 0xFF

/-- R345: the status with which a boot read ends; an error is recorded. -/
def State.bootEnd (s : State) (code : Nat) : State :=
  let s := s.setF Reg.NAND_BOOT_STAT_STATUS code
  if code = 0 then s else s.err 0x24 code 0

/-- R345: the bytes of the range that the BOOT registers name, in a copy. -/
def State.bootBytes (s : State) (copy : Nat) : Bytes :=
  (List.range (s.getF Reg.NAND_BOOT_LEN_BYTES)).map (fun i => s.bootByte (s.getF Reg.NAND_BOOT_SRC_VOL) copy (s.getF Reg.NAND_BOOT_OFS_BYTES + i))

/-- R345: the destination that the BOOT registers name. -/
def State.bootDst (s : State) : Nat := s.get2 Reg.NAND_BOOT_DST_LO_ADDR Reg.NAND_BOOT_DST_HI_ADDR

/-- R345: may the range that the BOOT registers name be read? -/
def State.bootFits (s : State) : Bool :=
  bootVol (s.getF Reg.NAND_BOOT_SRC_VOL) && s.getF Reg.NAND_BOOT_OFS_BYTES % 512 == 0 && s.bootDest s.bootDst (s.getF Reg.NAND_BOOT_LEN_BYTES)

/-- R345: bytes read reach the destination; modes 1 and 2 measure them, and mode 2 leaves the Merkle root. -/
def State.bootCopy (s : State) (mode : Nat) (b : Bytes) : State :=
  let s := s.write s.bootDst b
  let s := if mode = 0 then s else s.setBytes (fun k => Reg.NAND_BOOT_MEAS_DATA k) 16 (shake256 b 64)
  let s := if mode = 2 then s.setBytes (fun k => Reg.NAND_BOOT_ROOT_DATA k) 8 (merkleRoot (b.drop 512)) else s
  s.bootEnd 0

/-- R340, R345: the first block of the range that the BOOT registers name, in a copy, has had an uncorrectable read: it is counted and queued for relocation. -/
def State.bootUncorr (s : State) (copy : Nat) : State :=
  let n := s.getF Reg.NAND_BOOT_OFS_BYTES / s.pageBytes
  match s.findPage (s.getF Reg.NAND_BOOT_SRC_VOL) copy (n / s.ppb) (n % s.ppb) with
  | some p => s.noteRead (p / s.ppb) { bits := 0, uncorrectable := true, retries := 0 }
  | none => s

/-- R345: a boot read of the range that the BOOT registers name. `bad` and `otherBad`: a page is uncorrectable in the copy named,
and in the other. -/
def State.bootRead (s : State) (mode : Nat) (bad otherBad : Bool) : State :=
  let copy := s.getF Reg.NAND_BOOT_SRC_COPY
  if !s.bootFits then s.bootEnd Err.valueRefused
  else if s.ftl.header.isNone then s.bootEnd 0x0105
  else
    let t := if bad then s.bootUncorr copy else s
    if bad ∧ otherBad then (t.bootUncorr (1 - copy)).bootEnd 0x0104
    else t.bootCopy mode (s.bootBytes (if bad then 1 - copy else copy))

/-- R345: a write of `NAND.BOOT_CTRL` with GO in a mode. -/
def State.bootGo (s : State) (req : Req) (mode : Nat) (bad otherBad : Bool) : State :=
  s.onAction req Reg.NAND_BOOT_CTRL_GO (2 ^ 31 + mode) fun s => s.bootRead mode bad otherBad

/-- R345: MODE 0 copies. -/
def execBootReadCopy (req : Req) (copyBad otherBad : Bool) (s : State) : Host.Outcome State Fault Refusal :=
  .next (s.bootGo req 0 copyBad otherBad)

/-- R345: MODE 1 copies and leaves SHAKE256 of the bytes. -/
def execBootReadCopyHash (req : Req) (copyBad otherBad : Bool) (s : State) : Host.Outcome State Fault Refusal :=
  .next (s.bootGo req 1 copyBad otherBad)

/-- R345: MODE 2 leaves the Merkle root of the image too. -/
def execBootReadCopyMerkle (req : Req) (copyBad otherBad : Bool) (s : State) : Host.Outcome State Fault Refusal :=
  .next (s.bootGo req 2 copyBad otherBad)

end Sys2Proof.Machine
end

