-- ==== Sys2Proof/Machine/Ftl.lean ====
section
/-! DEFINITION. The FTL's commands from software (R343, R352, R359–R361). -/

namespace Sys2Proof.Machine

/-! ## Items and completions -/

/-- R361: the commands under way and those that wait have their completions spoken for. -/
def State.ftlCredit (s : State) : Bool := decide (s.ftl.jobs.length < (s.queue 0x11A).credits)

/-- R361: has an item an opcode of the table? -/
def ftlKnown (b : Bytes) : Bool := decide (1 ≤ leAt b 0 1) && decide (leAt b 0 1 ≤ 8)

/-- R361: the front of the command queue is a command with opcode `op`, or one with no opcode of the table, which every command takes: its item, whether it is
poisoned, and the state without it. -/
def State.ftlFront (s : State) (op : Nat) : Option (Bytes × Bool × State) :=
  match (s.queue 0x119).items.head? with
  | some { body := .bytes b, poison := p } =>
    if leAt b 0 1 = op ∨ !ftlKnown b then (s.deq 0x119).map (fun e => (b, p != 0, e.2)) else none
  | _ => none

/-- R361: who may issue a command. The requester stands in byte 32 of the item as held. -/
def ftlMay (op : Nat) (b : Bytes) : Bool :=
  let r := leAt b 32 1
  if op = 1 then true
  else if op = 2 ∨ op = 3 then r == Req.trusted.code || r == Req.app.code
  else r == Req.trusted.code

/-- R361: the FTL takes a command with opcode `op` from the front of its queue; `sub` is an item that software writes first. -/
def State.ftlCommand (s : State) (op : Nat) (sub : Option Submission) (k : State → Bytes → State) : State :=
  let s := match sub with
    | some x => s.submit 0x119 x (.bytes (slice x.item 0 32 ++ [BitVec.ofNat 8 x.req.code]))
    | none => s
  if !s.ftlCredit then s
  else match s.ftlFront op with
    | none => s
    | some (b, poison, t) =>
      if poison ∨ !ftlKnown b then t.ftlDone b 0x0108 0
      else if !ftlMay op b then t.ftlDone b Err.privDeny 0
      else if op = 6 then k t b
      else if !t.flag Reg.FTL_STAT_MOUNTED then t.ftlDone b 0x0104 0
      else k t b

/-- A new command under way. -/
def State.newJob (s : State) (b : Bytes) : Nat × State :=
  let j := s.ftl.jobNext
  (j, { s with ftl := { s.ftl with jobs := s.ftl.jobs ++ [{ id := j, item := b }], jobNext := j + 1 } })

/-- R342: the logical pages of a volume. -/
def State.volPages (s : State) (vol : Nat) : Nat := ((s.ftl.header.map (fun h => h.sizes.getD vol 0)).getD 0) * s.ppb

/-- R361: the volume exists and holds the pages that an item names. -/
def State.itemFits (s : State) (b : Bytes) : Bool :=
  decide (1 ≤ leAt b 2 1) && decide (leAt b 2 1 ≤ 9) && decide (leAt b 4 4 + leAt b 8 2 ≤ s.volPages (leAt b 2 1))

/-- R23, R361: does the range of an item lie in DRAM? -/
def State.itemDram (s : State) (b : Bytes) : Bool :=
  let a := leAt b 16 8
  decide (0x0800000000 ≤ a) && decide (a + leAt b 8 2 * s.pageBytes ≤ dramTop + 1)

/-! ## READ and WRITE -/

/-- R361: a READ that is not refused: each page is read from its newest copy. A page in a range that a discard runs on reads as zeros (R359), one that
nothing has written leaves free values. -/
def State.readPages (s : State) (b : Bytes) : State :=
  let vol := leAt b 2 1
  let (j, s) := s.newJob b
  let s := (List.range (leAt b 8 2)).foldl (fun t i =>
    let p := leAt b 4 4 + i
    let a := leAt b 16 8 + i * t.pageBytes
    if t.discarding vol (p / t.ppb) then
      (t.write a (List.replicate t.pageBytes 0)).setJob j (fun x => { x with done := x.done + 1 })
    else match t.findPage vol 0 (p / t.ppb) (p % t.ppb) with
      | some n => (t.addOp (t.dieOf (n / t.ppb)) n 3 (.readJob j a false)).setJob j (fun x => { x with left := x.left + 1 })
      | none =>
        let (d, t) := t.drawBytes t.pageBytes
        (t.write a d).setJob j (fun x => { x with done := x.done + 1 })) s
  (s.endJob j).nandStart

/-- R361: READ. -/
def State.ftlRead (s : State) (b : Bytes) : State :=
  if !s.itemFits b then s.ftlDone b 0x0101 0
  else if !s.itemDram b then s.ftlDone b 0x0108 0
  else s.readPages b

/-- R361: READ. -/
def execFtlRead (sub : Option Submission) (s : State) : Host.Outcome State Fault Refusal :=
  .next (s.ftlCommand 1 sub State.ftlRead)

/-- R344: one copy of a logical block of SETTINGS is written anew: the pages of the item from DRAM, the others as they are. None
where no block is free. -/
def State.freshCopy (s : State) (b : Bytes) (j copy lblk : Nat) : Option State :=
  (s.allocBlk (s.diesFor 9 copy lblk) { use := .data, vol := 9, copy := copy, lblk := lblk }).map (fun (p, t) =>
    let t := t.setJob j (fun x => { x with fresh := x.fresh ++ [(copy, lblk, p)] })
    (List.range t.ppb).foldl (fun t i =>
      let n := lblk * t.ppb + i
      let d : Option Bytes :=
        if leAt b 4 4 ≤ n ∧ n < leAt b 4 4 + leAt b 8 2 then
          some (t.read (leAt b 16 8 + (n - leAt b 4 4) * t.pageBytes) t.pageBytes)
        else (t.findPage 9 copy lblk i).bind t.readPage
      match d with
      | some d =>
        (t.addOp (t.dieOf p) (p * t.ppb + i) 3 (.progJob j { vol := 9, flags := copy, page := i, lblk := lblk, data := d })).setJob j
          (fun x => { x with left := x.left + 1 })
      | none => t) t)

/-- R344: the logical blocks of an item written anew under a new job, both copies of each; none where no block is free. -/
def State.writeBlks (s : State) (b : Bytes) : Option State :=
  let (lo, hi) := s.itemBlks b
  let (j, t) := s.newJob b
  let l := (List.range (hi - lo)).flatMap (fun i => [(0, lo + i), (1, lo + i)])
  (l.foldl (fun r e => r.bind (fun u => u.freshCopy b j e.1 e.2)) (some t)).map (fun u => (u.endJob j).nandStart)

/-- R359: does a discard run on a logical block that an item names? -/
def State.itemDiscarding (s : State) (b : Bytes) : Bool :=
  let (lo, hi) := s.itemBlks b
  (List.range (hi - lo)).any (fun i => s.discarding 9 (lo + i))

/-- R344, R361: WRITE: SETTINGS alone has software as its writer; it is a boot volume, so whole logical blocks are written anew. -/
def State.ftlWrite (s : State) (b : Bytes) : State :=
  if leAt b 2 1 ≠ 9 ∨ !s.itemFits b then s.ftlDone b 0x0101 0
  else if s.flag Reg.FTL_STAT_READ_ONLY then s.ftlDone b 0x0100 0
  else if s.itemDiscarding b then s.ftlDone b 0x0107 0
  else if !s.itemDram b then s.ftlDone b 0x0108 0
  else match s.writeBlks b with
    | some u => u
    | none => s.goReadOnly.ftlDone b 0x0100 0

/-- R361: WRITE. -/
def execFtlWrite (sub : Option Submission) (s : State) : Host.Outcome State Fault Refusal :=
  .next (s.ftlCommand 2 sub State.ftlWrite)

/-! ## ARCHIVE -/

/-- R352, R361: TRIM_ARCH. -/
def State.trimArch (s : State) (b : Bytes) : State :=
  if s.flag Reg.FTL_STAT_READ_ONLY then s.ftlDone b 0x0100 0
  else if s.tailFree then (s.freeTail.ftlDone b 0 0).nandStart
  else s.ftlDone b 0x0106 0

/-- R361: TRIM_ARCH. -/
def execFtlTrimArch (sub : Option Submission) (s : State) : Host.Outcome State Fault Refusal :=
  .next (s.settling fun s => s.ftlCommand 3 sub State.trimArch)

/-- R343: the physical blocks that volumes of these sizes take: one block per logical block and copy, and block 0 of each die. -/
def State.blksNeeded (s : State) (sizes : List Nat) : Nat :=
  s.diesFound.length + 64 + ((List.range 9).map (fun i => sizes.getD (i + 1) 0 * (copiesOf (i + 1)).length)).sum

/-- R343: the least spare reserve. -/
def State.reserveMin (s : State) : Nat := (s.allBlocks * 25 + 999) / 1000

/-- R358, R361: move `n` blocks between the free pool and the reserve. -/
def State.moveBlks (s : State) (n : Nat) (from_ to_ : BlkUse) : State :=
  ((s.diesIn.flatMap (fun d => s.blocksWith d from_)).take n).foldl (fun t p => t.setBlk p { t.blk p with use := to_ }) s

/-- R343, R361: would RESIZE to a number of logical blocks leave too few blocks, or split a stripe? -/
def State.resizeShort (s : State) (h : MediumHeader) (new : Nat) : Bool :=
  let n := s.diesIn.length
  let good := ((s.diesFound.filter (fun d => (s.die d).mode != .failed)).map (fun d => (s.goodBlocks d).length)).sum
  decide (new % n ≠ 0 ∨ new / n < s.ftl.stripes.length ∨ (h.sizes.getD 2 0 < new ∧ good < s.blksNeeded (h.sizes.set 2 new) + s.reserveMin))

/-- R358, R361: the ARCHIVE ring gets a size in logical blocks. What a smaller ring gives up goes to the reserve; what a larger one takes above the free pool comes from
the reserve's excess. -/
def State.resizeTo (s : State) (h : MediumHeader) (b : Bytes) (new : Nat) : State :=
  let old := h.sizes.getD 2 0
  let s := State.mapNote { s with ftl := { s.ftl with header := some { h with sizes := h.sizes.set 2 new, gen := h.gen + 1 } } }
  let s := if new < old then s.moveBlks (old - new) .free .spare
    else s.moveBlks (min (new - old) (s.spares - s.reserveMin)) .spare .free
  (s.writeHeader.judgeSpares.tryGroups).ftlDone b 0 0

/-- R358, R361: RESIZE: the ARCHIVE ring gets the size in bytes 4–7. -/
def State.ftlResize (s : State) (b : Bytes) : State :=
  match s.ftl.header with
  | none => s.ftlDone b 0x0104 0
  | some h =>
    let new := leAt b 4 4
    if leAt b 2 1 ≠ 2 then s.ftlDone b 0x0101 0
    else if s.resizeShort h new then s.ftlDone b 0x0102 0
    else if s.flag Reg.FTL_STAT_READ_ONLY ∧ h.sizes.getD 2 0 < new then s.ftlDone b 0x0100 0
    else s.resizeTo h b new

/-- R361: RESIZE. -/
def execFtlResize (sub : Option Submission) (s : State) : Host.Outcome State Fault Refusal :=
  .next (s.settling fun s => s.ftlCommand 5 sub State.ftlResize)

/-! ## SECURE_DISCARD -/

/-- R359: a block is erased for a command: an erase that already waits for it counts for the command too. -/
def State.eraseFor (s : State) (j p : Nat) : State :=
  let s := s.setJob j (fun x => { x with left := x.left + 1 })
  if s.ftl.ops.any (fun o => o.body == .erase && o.target / s.ppb == p) then
    { s with ftl := { s.ftl with ops := s.ftl.ops.map (fun (o : NandOp) =>
      if o.body == .erase && o.target / s.ppb == p then { o with body := .eraseJob j } else o) } }
  else
    let b := s.blk p
    (s.setBlk p (if b.use = .retired then b else { b with use := .stale })).addOp (s.dieOf p) (p * s.ppb) 4 (.eraseJob j)

/-- R359: the logical blocks of a discard are unmapped, after the merge of their log blocks. -/
def State.unmapRange (s : State) (vol lo hi : Nat) : State :=
  let s := (s.ftl.logs.filter (fun l => l.vol == vol && decide (lo ≤ l.lblk ∧ l.lblk < hi))).foldl (fun t l => t.mergeLog l 0) s
  let s := (List.range (hi - lo)).foldl (fun t i =>
    (copiesOf vol).foldl (fun t c => if (t.dataBlk vol c (lo + i)).isSome ∧ !bootVol vol then t.mapTo vol c (lo + i) none else t) t) s
  if bootVol vol then
    State.writeHeader { s with ftl := { s.ftl with header := s.ftl.header.map (fun h =>
      { h with gen := h.gen + 1, bootMap := h.bootMap.filter (fun e => !(e.1 == vol && decide (lo ≤ e.2.2.1 ∧ e.2.2.1 < hi))) }) } }
  else s

/-- R359: the physical blocks with a current or stale copy of pages of a range, retired ones included. -/
def State.copiesIn (s : State) (vol lo hi : Nat) : List Nat :=
  (s.ftl.blks.filter (fun e => e.2.vol == vol && decide (lo ≤ e.2.lblk ∧ e.2.lblk < hi) &&
    (e.2.use == .data || e.2.use == .log || e.2.use == .arch || e.2.use == .stale || e.2.use == .retired))).map (·.1)

/-- R359: the logical blocks that an item names are unmapped, and every copy of them is erased under a new job. -/
def State.discardBlks (s : State) (b : Bytes) : State :=
  let vol := leAt b 2 1
  let (lo, hi) := s.itemBlks b
  let s := s.unmapRange vol lo hi
  let (j, s) := s.newJob b
  let s := (s.copiesIn vol lo hi).foldl (fun t p => t.eraseFor j p) s
  (s.endJob j).nandStart

/-- R359: do the logical blocks of an item lie in one of these stripes? -/
def State.itemHits (s : State) (b : Bytes) (l : List Stripe) : Bool :=
  let (lo, hi) := s.itemBlks b
  l.any (fun t => t.blocks.any (fun p => decide (lo ≤ (s.blk p).lblk ∧ (s.blk p).lblk < hi)))

/-- R359: SECURE_DISCARD of the logical blocks that the item's pages lie in. ARCHIVE stripes above the tail are refused. -/
def State.secureDiscard (s : State) (b : Bytes) : State :=
  if !s.itemFits b then s.ftlDone b 0x0101 0
  else if leAt b 2 1 ≠ 2 then s.discardBlks b
  else if s.itemHits b (s.ftl.stripes.drop 1) then s.ftlDone b 0x0108 0
  else if !s.itemHits b (s.ftl.stripes.take 1) then s.discardBlks b
  else if !s.tailFree then s.ftlDone b 0x0106 0
  else s.freeTail.discardBlks b

/-- R359: SECURE_DISCARD. -/
def execFtlSecureDiscard (sub : Option Submission) (s : State) : Host.Outcome State Fault Refusal :=
  .next (s.settling fun s => s.ftlCommand 4 sub State.secureDiscard)

/-! ## FORMAT -/

/-- R343: the reserve is spread over the dies, the highest blocks of each. -/
def State.placeReserve (s : State) : State :=
  let n := s.reserveMin
  let d := s.diesFound.length
  s.diesFound.zipIdx.foldl (fun t e =>
    let k := n / d + (if e.2 < n % d then 1 else 0)
    (((t.blocksWith e.1 .free).reverse).take k).foldl (fun t p => t.setBlk p { t.blk p with use := .spare }) t) s

/-- R342, R344: FORMAT gives every logical block of a boot volume and of JOURNAL its physical blocks. -/
def State.placeFixed (s : State) (sizes : List Nat) : State :=
  ([1, 4, 5, 9].flatMap (fun v => (List.range (sizes.getD v 0)).flatMap (fun b => [(v, 0, b), (v, 1, b)]))).foldl (fun t e =>
    match t.allocBlk (t.diesFor e.1 e.2.1 e.2.2) { use := .data, vol := e.1, copy := e.2.1, lblk := e.2.2 } with
    | some (p, u) =>
      if e.1 = 1 then u.mapTo 1 e.2.1 e.2.2 (some p)
      else { u with ftl := { u.ftl with header := u.ftl.header.map (fun h => { h with bootMap := h.bootMap ++ [(e.1, e.2.1, e.2.2, p)] }) } }
    | none => t) s

/-- R336, R343: every good block is erased, after its die's pSLC feature is set, and its erase is counted; what the volumes held is gone. -/
def State.eraseGood (s : State) : State :=
  let l := s.diesFound.flatMap (fun d => (List.range s.bpd).map (fun i => d * s.bpd + i))
  let s := { s with bill := { s.bill with snaps := [], complete := [] }, ftl := { s.ftl with
    pages := [], dies := s.ftl.dies.foldl (fun (l : List (Nat × Die)) (e : Nat × Die) => sput {} l e.1 { iface := e.2.iface }) [], map := [], logs := [], stripes := [], stripeNext := 0, ops := [], jobs := [],
    journal := 0, flushes := 0, lastOrder := 0, gaps := [], header := none, snapsOut := 0 } }
  let s := s.diesFound.foldl State.setFeature s
  l.foldl (fun t p =>
    if t.factoryBad p then t
    else t.setBlk p { erases := (t.blk p).erases + 1, use := if p % t.bpd = 0 then .header else .free }) s

/-- R343: the sizes of the ten volumes in logical blocks stand at a FORMAT item's DRAM address. -/
def State.formatSizes (s : State) (b : Bytes) : List Nat := (List.range 10).map (fun v => s.readNat (leAt b 16 8 + 4 * v) 4)

/-- R343: do the devices found hold volumes of these sizes? -/
def State.formatFits (s : State) (sizes : List Nat) : Bool :=
  let good := s.allBlocks - (s.ftl.found.map (fun p => p.factoryBad.length)).sum
  !decide (good < s.blksNeeded sizes + s.reserveMin ∨ s.diesFound.length = 0 ∨ sizes.getD 2 0 % s.diesFound.length ≠ 0)

/-- R343: a FORMAT that is not refused: every good block is erased, the header is written, and the reserve and the fixed volumes take their blocks. MEDIUM_ID stands after
the sizes. -/
def State.formatTo (s : State) (b : Bytes) (sizes : List Nat) : State :=
  let h : MediumHeader :=
    { gen := 1, keyGen := (s.slot (s.getF Reg.FTL_KEY_SLOT_SLOT)).gen, serials := s.ftl.found.map (·.serial),
      mediumId := s.read (leAt b 16 8 + 40) 16, sizes := sizes.set 0 1 }
  let s := s.eraseGood
  let s := { s with ftl := { s.ftl with header := some h } }
  let s := (s.set2 Reg.FTL_WSEQ_LO_SEQ Reg.FTL_WSEQ_HI_SEQ 0).placeReserve
  ((s.placeFixed sizes).writeHeader.eraseSpan).ftlDone b 0 0

/-- R343: FORMAT. -/
def State.ftlFormat (s : State) (b : Bytes) : State :=
  let a := leAt b 16 8
  let sizes := s.formatSizes b
  let s := s.discover s.ftl.found
  if s.flag Reg.FTL_STAT_MOUNTED ∨ !decide (0x0800000000 ≤ a ∧ a + 56 ≤ dramTop + 1) then s.ftlDone b 0x0108 0
  else if (badDie s.ftl.found).isSome then s.ftlDone b 0x0103 0
  else if !s.formatFits sizes then s.ftlDone b 0x0102 0
  else s.formatTo b sizes

/-- R343: FORMAT. -/
def execFtlFormat (sub : Option Submission) (s : State) : Host.Outcome State Fault Refusal :=
  .next (s.ftlCommand 6 sub State.ftlFormat)

/-! ## Dies -/

/-- R360: the blocks of a die that hold data. -/
def State.validBlks (s : State) (d : Nat) : List Nat :=
  (s.goodBlocks d).filter (fun p => (s.blk p).use == .data || (s.blk p).use == .log || (s.blk p).use == .arch)

/-- R360: a block's pages move to a block of another die. -/
def State.evacuateBlk (s : State) (p : Nat) : State :=
  match if s.keyless (s.blk p).vol then none else s.allocBlk (s.diesIn) (s.blk p) with
  | none => s.goReadOnly
  | some (q, t) => (((t.copyPages p q).replaceBlk p q).mapNote).eraseLater [p]

/-- R360: the free and the spare blocks of the other dies. -/
def State.roomBeside (s : State) (d : Nat) : Nat :=
  ((s.diesIn.filter (fun e => e != d)).map (fun e => (s.blocksWith e .free).length + (s.blocksWith e .spare).length)).sum

/-- R360: a die's valid blocks move to the others, and it leaves service. -/
def State.evacuateDie (s : State) (b : Bytes) (d : Nat) : State :=
  let l := s.validBlks d
  let s := s.setDie d { s.die d with mode := .evacuating }
  let s := l.foldl State.evacuateBlk s
  ((s.setDie d { s.die d with mode := .out }).judgeSpares.ftlDone b 0 0).nandStart

/-- R360: DIE_EVACUATE of the die in bytes 4–7. -/
def State.dieEvacuate (s : State) (b : Bytes) : State :=
  let d := leAt b 4 4
  if !s.diesIn.contains d then s.ftlDone b 0x0108 0
  else if s.roomBeside d < (s.validBlks d).length + s.getF Reg.FTL_SPARE_LOW_BLOCKS then s.ftlDone b 0x0102 0
  else s.evacuateDie b d

/-- R360: DIE_EVACUATE. -/
def execFtlDieEvacuate (sub : Option Submission) (s : State) : Host.Outcome State Fault Refusal :=
  .next (s.settling fun s => s.ftlCommand 7 sub State.dieEvacuate)

/-- R360: does a device stand at a die's place, with the geometry of the others? -/
def State.dieFits (s : State) (d : Nat) (p : DieParam) : Bool :=
  dieNum p == d && dieMeets p && (match s.ftl.found.head? with
    | some q => dieGeom p == dieGeom q
    | none => false)

/-- R360: a device enters service as a die: its blocks are free but for its share of the reserve. -/
def State.enterDie (s : State) (b : Bytes) (d : Nat) (p : DieParam) : State :=
  let s := s.identify (s.ftl.found.filter (fun q => dieNum q != d) ++ [p])
  let s := { s with ftl := { s.ftl with
    pages := s.ftl.pages.filter (fun e => e.1 / s.ppb / s.bpd != d), ops := s.ftl.ops.filter (fun o => o.die != d) } }
  let s := (List.range s.bpd).foldl (fun t i =>
    t.setBlk (d * t.bpd + i) { use := if t.factoryBad (d * t.bpd + i) then .retired else if i = 0 then .header else .free }) s
  let s := (s.setDie d {}).resetDies [p]
  let s := (((s.blocksWith d .free).reverse).take ((s.bpd * 25 + 999) / 1000)).foldl (fun t q =>
    t.setBlk q { t.blk q with use := .spare }) s
  let s := s.setF Reg.FTL_STAT_DIE_FAILED (bitIf (s.diesFound.any (fun e => (s.die e).mode == .failed)) 0)
  ((s.mapNote).writeHeader.judgeSpares.tryGroups).ftlDone b 0 0

/-- R360: DIE_ADD of the die in bytes 4–7; `device` is the device that answers there. -/
def State.dieAdd (device : Option DieParam) (s : State) (b : Bytes) : State :=
  let d := leAt b 4 4
  if s.diesIn.contains d then s.ftlDone b 0x0108 0
  else match device.filter (s.dieFits d) with
    | none => s.ftlDone b 0x0103 0
    | some p => s.enterDie b d p

/-- R360: DIE_ADD. -/
def execFtlDieAdd (sub : Option Submission) (device : Option DieParam) (s : State) : Host.Outcome State Fault Refusal :=
  .next (s.settling fun s => s.ftlCommand 8 sub (State.dieAdd device))

/-! ## The snapshot volume -/

/-- R188, R342: the next snapshot that is not on the medium yet goes to the page of SNAP that holds its place in the ring, as soon as the medium takes it. DESIGN CHOICE (log entry 122):
the ring takes the volume in turn, as many snapshots to a page as fit; the checkpoints are held as the billing engine has them. -/
def State.snapTick (s : State) : State :=
  let n := s.ftl.snapsOut
  if s.bill.snaps.length ≤ n ∨ !s.flag Reg.FTL_STAT_MOUNTED ∨ s.higherWaits 4 ∨ s.volPages 3 = 0 then s
  else
    let per := s.pageBytes / 256
    let k := n / per % s.volPages 3
    let b := (s.bill.snaps.getD (s.bill.snaps.length - 1 - n) [])
    let old := if n % per = 0 then [] else (s.volRead 3 k).getD []
    match s.volWrite 3 k (splice (slice old 0 s.pageBytes) (n % per * 256) (slice b 0 256)) with
    | some t => { t with ftl := { t.ftl with snapsOut := n + 1 } }
    | none => s

end Sys2Proof.Machine
end

