-- ==== Sys2Proof/Machine/Plc.lean ====
section
/-! DEFINITION. The power-line ports (R233–R261): reception and link acknowledgement, contention and transmission, beacons, joins, tone maps, the node states of TRACK, what the chip sends to meters, calibration and fencing. -/

namespace Sys2Proof.Machine

/-! ## Durations -/

/-- R236: the bits that a payload symbol carries in a segment. -/
def State.symbolBits (s : State) (k : Nat) (set : Bytes) (robust : Bool) (seg : Nat) : Nat := (s.carrierBits k set robust seg).sum

/-- The largest NSYM that an FCH can state. -/
def nsymMax : Nat := 4095

/-- R240: `PERIOD` of an FCH: TB4's period rounded to the µs. -/
def State.cycleUs (s : State) : Nat := (s.tb4Period + 500) / 1000 % 65536

/-- R219: the phase of TB4 at an instant of TB1 (ns), in 1/65,536 of a cycle; it holds at its end while an edge is late. -/
def State.tb4PhaseAt (s : State) (t : Nat) : Nat := min 65535 ((t - s.time.tb4At) * 65536 / s.tb4Period)

/-- R219: the phase of TB4 now. -/
def State.tb4Phase (s : State) : Nat := s.tb4PhaseAt s.tb1

/-- R240: the cycle phase, in 1/256, at the first payload sample of a frame that starts now. -/
def State.plcPh0 (s : State) (k : Nat) : Nat :=
  let p := s.tb4Period
  (s.tb1 + s.plcHead k - s.time.tb4At) % p * 65536 / p / 256

/-- How a frame goes out: its tone map set, robust or not, its generation, its cycle phase and its symbols. -/
structure PlcPlan where
  set : Bytes
  robust : Bool
  gen : Nat
  ph0 : Nat
  nsym : Nat
  deriving DecidableEq, Repr

/-- R236, R237, R242, R248: the plan of a frame with `n` payload bytes that starts now. Beacons use the default map in robust mode; the third
attempt and those after it are robust; so is a frame that touches a segment with FORCE_ROBUST. -/
def State.plcPlan (s : State) (k : Nat) (t : PortTx) (n : Nat) : PlcPlan :=
  let (set, gen) := match s.portNode k t.dst with
    | some nd => if t.mtype = 0x30 then ([], 0) else (nd.tx, nd.txGen)
    | none => ([], 0)
  let ph0 := s.plcPh0 k
  let seg := segmentOf ph0 s.cycleUs
  let count (r : Bool) : Nat := plcSymbols (fun i => s.symbolBits k set r (seg i)) nsymMax 0 (codedBits n r)
  let robust := t.mtype == 0x30 || decide (2 ≤ t.attempts) ||
    (!set.isEmpty && (List.range (count false)).any (fun i => bitAt (leAt (segMap set (seg i)) 0 1) 7 == 1))
  ⟨set, robust, gen, ph0, count robust⟩

/-! ## Frames on the wire -/

/-- R245: a MAC frame. -/
def plcMac (mtype flags : Nat) (body : Bytes) : Bytes :=
  let b := [BitVec.ofNat 8 mtype, BitVec.ofNat 8 flags] ++ beBytes 2 body.length ++ body
  b ++ beBytes 4 (crc32c b)

/-- R239: a frame control header. -/
def State.plcFch (s : State) (k ftype robust ackReq gen nsym ph0 dst seq : Nat) : Bytes :=
  let v := ftype + robust * 2 ^ 2 + ackReq * 2 ^ 3 + gen * 2 ^ 4 + nsym * 2 ^ 8 + ph0 * 2 ^ 20 + s.cycleUs * 2 ^ 28 + dst * 2 ^ 44 +
    seq % 256 * 2 ^ 76 + s.getF (Reg.PLC_CTRL_NETID k) * 2 ^ 84
  leBytes 11 v ++ [BitVec.ofNat 8 (crc8 v 88)]

/-- R247: from the end of a DATA frame with ACK_REQ to the end of its ACK, in ns. -/
def State.plcAckEnd (s : State) (k : Nat) : Nat := 700000 + s.plcHead k

/-- R258: corrections that have been measured take effect at a frame boundary. -/
def State.takeCal (s : State) (k : Nat) : State :=
  let p := s.port k
  match p.calEnd, p.calNew with
  | none, some c => s.setPort k { p with cal := c, calNew := none }
  | _, _ => s

/-- R233: does the line driver run: from 20 µs before the first sample of a frame or of a SYNCP symbol to 20 µs after the last? -/
def State.driverOn (s : State) (k : Nat) : Bool :=
  let p := s.port k
  (decide (p.txStart < p.txEnd) && decide (p.txStart ≤ s.tb1 + 20000) && decide (s.tb1 < p.txEnd + 20000)) ||
    (match p.sync with
    | some t => decide (t ≤ s.tb1 + 20000) && decide (s.tb1 < t + 340000)
    | none => false)

/-- R261: does the port transmit, a frame or a SYNCP symbol? -/
def State.plcSending (s : State) (k : Nat) : Bool :=
  let p := s.port k
  (decide (p.txStart ≤ s.tb1) && decide (s.tb1 < p.txEnd)) ||
    (match p.sync with
    | some t => decide (t ≤ s.tb1) && decide (s.tb1 < t + 320000)
    | none => false)

/-- R233: the level of PLCn_TXEN. -/
def State.plcTxen (s : State) (k : Nat) : Bool := s.driverOn k != s.flag (Reg.PLC_PHY_CFG_TXEN_POL k)

/-- R233: symbols go to the line from `start` to `stop` (TB1, ns): the level of PLCn_TXEN meanwhile, the attenuation, and the times at which PLCn_TXEN is asserted and
released. -/
def State.drive (s : State) (k start stop : Nat) (symbols : Bytes) : State :=
  (s.emit (24 + k) symbols).emit (28 + k)
    ([BitVec.ofNat 8 (bit1 (!s.flag (Reg.PLC_PHY_CFG_TXEN_POL k))), BitVec.ofNat 8 (s.getF (Reg.PLC_PHY_CFG_TX_ATT k))] ++
      leBytes 8 (start - 20000) ++ leBytes 8 (stop + 20000))

/-- R236, R255: a frame goes out now, and is counted. -/
def State.transmit (s : State) (k : Nat) (fch mac : Bytes) (p : PlcPlan) : State :=
  let s := s.takeCal k
  let stop := s.tb1 + s.plcHead k + p.nsym * 350000
  let s := ((s.emit k (fch ++ mac)).drive k s.tb1 stop (s.frameSymbols k fch mac p.set p.robust p.nsym p.ph0 s.cycleUs)).count (Reg.PLC_TX_CNT_CNT k)
  s.setPort k { s.port k with txStart := s.tb1, txEnd := stop, freeAt := max (s.port k).freeAt stop }

/-- R236, R248, R257: the port sends a frame now. -/
def State.plcSend (s : State) (k : Nat) (t : PortTx) : State :=
  let mac := plcMac t.mtype 0 t.body
  let p := s.plcPlan k t mac.length
  let s := s.transmit k
    (s.plcFch k (if t.mtype = 0x30 then 2 else 0) (bit1 p.robust) (bit1 t.ackReq) p.gen p.nsym p.ph0 t.dst t.seq) mac p
  let s := if t.attempts = 0 then s else s.count (Reg.PLC_RETRY_CNT_CNT k)
  let t := { t with attempts := t.attempts + 1, stamp := s.stamp0, backoff := none }
  let q := s.port k
  let q := { q with out := q.out.filter (fun e => e.id != t.id), contend := none }
  let done := q.txEnd + s.plcAckEnd k
  if t.ackReq then s.setPort k { q with wait := some (t, done + 350000), freeAt := done } else (s.setPort k q).txDone k t 1

/-! ## Reception -/

/-- The fields of a frame control header (R239). -/
structure PlcFch where
  ftype : Nat
  robust : Bool
  ackReq : Bool
  gen : Nat
  nsym : Nat
  ph0 : Nat
  period : Nat
  dst : Nat
  src : Nat
  seq : Nat
  netid : Nat
  deriving DecidableEq, Repr

/-- R239: read a frame control header; none where its CRC fails. -/
def readFch (b : Bytes) : Option PlcFch :=
  let v := leNat b
  if b.length = 12 ∧ crc8 v 88 = bitsOf v 95 88 then
    some ⟨bitsOf v 1 0, bitAt v 2 == 1, bitAt v 3 == 1, bitsOf v 7 4, bitsOf v 19 8, bitsOf v 27 20, bitsOf v 43 28, bitsOf v 59 44, bitsOf v 75 60, bitsOf v 83 76, bitsOf v 87 84⟩
  else none

/-- R245: is a MAC frame whole? -/
def plcMacOk (b : Bytes) : Bool :=
  decide (8 ≤ b.length) && decide (beAt b 2 2 ≤ 600) && b.length == 8 + beAt b 2 2 && crc32c (b.take (b.length - 4)) == beAt b (b.length - 4) 4

/-- R249: the medium turns busy; a count in progress keeps what is left of it. -/
def State.freezeBackoff (s : State) (k start : Nat) : State :=
  let p := s.port k
  match p.contend with
  | none => s
  | some (id, from_) =>
    let gone := (start - from_) / 700000
    s.setPort k { p with contend := none, out := p.out.map (fun (e : PortTx) => if e.id = id then { e with backoff := e.backoff.map (· - gone) } else e) }

/-- R247: the port owes an ACK for a frame that ends now. -/
def State.oweAck (s : State) (k : Nat) (h : PlcFch) (ack : Bool) : State :=
  if ack && h.ackReq then
    s.setPort k { s.port k with ack := some ⟨h.src, h.seq, s.tb1 + 700000, 0⟩ }
  else s

/-- R242, R243: may a frame from this node name this generation: the one in force or the one before it? A node that is not in the table has the default map. -/
def genHeld (n : Option PortNode) (g : Nat) : Bool :=
  match n with
  | some n => g == n.rxGen || g == n.rxPrevGen
  | none => g == 0

/-- R239, R249, R259: a frame has been on the medium, whatever its NETID: the backoff count froze, no noise was measured meanwhile, and the medium is free from now, or from the end of the frame's ACK.
The header is for this port where its CRC is good and its NETID the port's own. -/
def State.plcHeard (s : State) (k : Nat) (fch : Bytes) : Option PlcFch × State :=
  let s := s.takeCal k
  let busy (length free : Nat) : State :=
    let t := s.freezeBackoff k (s.tb1 - length)
    t.setPort k { t.port k with freeAt := max (t.port k).freeAt free, floorNew := (t.port k).floorNew.filter (fun x => decide (x.1 + length ≤ s.tb1)) }
  match readFch fch with
  | none => (none, busy (s.plcHead k) s.tb1)
  | some h =>
    (if h.netid = s.getF (Reg.PLC_CTRL_NETID k) then some h else none,
     busy (s.plcHead k + h.nsym * 350000) (if h.ftype = 0 ∧ h.ackReq then s.tb1 + s.plcAckEnd k else s.tb1))

/-- R239, R243: does the port take a frame with this header: a DATA frame to the coordinator, or to all, in a tone map generation that it can decode? A TRACK port takes those to
other nodes too, and beacons (R253, R315). -/
def State.plcForMe (s : State) (k : Nat) (h : PlcFch) : Bool :=
  (h.ftype == 0 && (s.track k || h.dst == 0 || h.dst == 0xFFFF) && genHeld (s.portNode k h.src) h.gen) || (h.ftype == 2 && s.track k)

/-- R244: is a received symbol an erasure? -/
def State.symbolErased (s : State) (k : Nat) (x : PlcSymbol) : Bool :=
  x.clip || x.windows.any (fun w => decide (s.getF (Reg.PLC_PHY_CFG_IMP_THR k) < w.toNat))

/-- R233: the gain that the port sets in the preamble of a frame that it receives. -/
def State.setGain (s : State) (k agc : Nat) : State :=
  if s.flag (Reg.PLC_PHY_CFG_AGC_EN k) then s.setPort k { s.port k with gain := min agc (s.getF (Reg.PLC_PHY_CFG_PGA_MAX k)) } else s

/-- R243, R244: the decision errors of the payload symbols of a frame from a node; a segment with an erased symbol is measured afresh. -/
def State.measure (s : State) (k : Nat) (h : PlcFch) (symbols : List PlcSymbol) : State :=
  match s.portNode k h.src with
  | none => s
  | some n =>
    let l := (symbols.drop (9 + s.fchSymbols k)).zipIdx.map (fun x => (segmentOf h.ph0 h.period x.2, x.1))
    let errs := l.foldl (fun m x => if s.symbolErased k x.2 then m else sput [] m x.1 x.2.errs) n.errs
    let bad := (l.filter (fun x => s.symbolErased k x.2)).map (·.1)
    s.putNode k h.src (some { n with errs := errs.filter (fun x => !bad.contains x.1) })

/-- R242, R243: the set of maps that a frame from a node uses; the default map where it is empty. -/
def State.plcRxSet (s : State) (k : Nat) (h : PlcFch) : Bytes :=
  match s.portNode k h.src with
  | some n => if h.ftype = 2 then [] else if h.gen = n.rxGen then n.rx else n.rxPrev
  | none => []

/-- R244: the bytes of a frame's outer code of which no coded bit came. -/
def State.plcLost (s : State) (k : Nat) (h : PlcFch) (mac : Bytes) (symbols : List PlcSymbol) : List Bool :=
  let gone := (((symbols.drop (9 + s.fchSymbols k)).take h.nsym).zipIdx.map (fun x =>
    List.replicate (s.symbolBits k (s.plcRxSet k h) h.robust (segmentOf h.ph0 h.period x.2)) (s.symbolErased k x.1))).flatten
  lostBytes (mac.length + 16 * ceilDiv mac.length 239) h.robust gone

/-- R233, R239, R244: a port receives a frame: its gain, its erased symbols, the medium, and for a frame that it takes the decoders and the MAC CRC. The header of an ACK or of a good
frame. -/
def State.plcReceive (s : State) (k : Nat) (fch mac : Bytes) (rx : PlcRx) : Option PlcFch × State :=
  let s := (s.setGain k rx.agc.toNat).count (Reg.PLC_ERASED_CNT_CNT k) (rx.symbols.filter (s.symbolErased k)).length
  match s.plcHeard k fch with
  | (none, s) => (none, s)
  | (some h, s) =>
    if h.ftype = 1 then (some h, s)
    else if !s.plcForMe k h then (none, s)
    else
      let s := if h.ftype = 0 then s.measure k h rx.symbols else s
      if decoded (s.plcLost k h mac rx.symbols) rx.blocks && plcMacOk mac then (some h, s) else (none, s.count (Reg.PLC_RX_CRC_CNT_CNT k))

/-- R243, R257: the ACK of the frame that the port awaits. -/
def State.plcAcked (s : State) (k : Nat) (h : PlcFch) : State :=
  let p := s.port k
  match p.wait with
  | some (t, _) =>
    if h.src = t.dst ∧ h.seq = t.seq then
      let s := (s.setPort k { p with wait := none, cw := 0 }).txDone k t 0
      match s.portNode k h.src with
      | some n =>
        let s := s.putNode k h.src (some { n with want := h.gen, heardAt := s.tb1 })
        if h.gen = 0 ∨ h.gen = n.txGen then s else s.toSend k { dst := h.src, mtype := 0x20, prio := 2 }
      | none => s
    else s
  | none => s

/-- R253: a TRACK port has heard a beacon that ends now. It follows one that started within 1 ms of the predicted instant, and any while it scans. -/
def State.plcBeaconHeard (s : State) (k : Nat) (h : PlcFch) (body : Bytes) : State :=
  let start := s.ns3 - (s.plcHead k + h.nsym * 350000)
  let p := s.port k
  if s.nodeStateOf k ≤ 1 ∨ (start ≤ p.next + 1000000 ∧ p.next ≤ start + 1000000) then
    s.hearBeacon k (start + beAt body 22 4 * 1000) (200000000 * 2 ^ (leAt body 16 1 % 8)) 3
  else s

/-- R253, R254, R315: a TRACK port has a frame with a good CRC: the active gets it, and a beacon or a LEAVE moves its state. -/
def State.plcTracked (s : State) (k : Nat) (h : PlcFch) (mac : Bytes) : State :=
  let s := (s.hear k h.src).forwardFrame k h.src h.seq mac
  if h.ftype = 2 then s.plcBeaconHeard k h ((mac.drop 4).take (mac.length - 8))
  else if leAt mac 0 1 = 0x12 ∧ (h.dst = 0 ∨ h.dst = 0xFFFF) then s.nodeState k 1
  else s

/-- R242, R243: the set of maps in force for a node's frames. -/
def State.setInForce (s : State) (k : Nat) (n : PortNode) : Bytes := if n.rx.isEmpty then s.defaultSet k else n.rx

/-- R243, R246, R252: the coordinator has a DATA frame with a good CRC: a METER frame, a JOIN_REQ, a TM_REQ, a TM_RESP, or another. -/
def State.plcTaken (s : State) (k : Nat) (h : PlcFch) (mac : Bytes) : State :=
  let body := (mac.drop 4).take (mac.length - 8)
  let s := s.hear k h.src
  match leAt mac 0 1 with
  | 0x01 =>
    if h.src = 0 ∨ 0x800 < h.src then s
    else
      let (s, ack) := s.takeMeter k h.src h.seq body
      s.oweAck k h ack
  | 0x10 => if h.src = 0xFFFE then (s.decideJoin k (beAt body 0 8)).oweAck k h true else s
  | 0x20 =>
    match s.portNode k h.src with
    | some n => (s.toSend k { dst := h.src, mtype := 0x21, body := s.setInForce k n, prio := 2 }).oweAck k h true
    | none => s
  | 0x21 =>
    match s.portNode k h.src with
    | some n => (s.putNode k h.src (some { n with tx := slice body 0 168, txGen := bitsOf (leAt body 0 1) 3 0 })).oweAck k h true
    | none => s.oweAck k h true
  | _ => s.oweAck k h true

/-- R239, R244, R246, R247: a frame has reached a power-line port: its FCH and, for DATA and a beacon, its MAC frame with the CRC as the decoders gave it. -/
def State.plcFrame (s : State) (k : Nat) (fch mac : Bytes) (rx : PlcRx) : State :=
  match s.plcReceive k fch mac rx with
  | (some h, s) => if h.ftype = 1 then s.plcAcked k h else if s.track k then s.plcTracked k h mac else s.plcTaken k h mac
  | (none, s) => s

/-- R239, R244, R246, R247: a frame has reached a running power-line port. -/
def execPlcFrameRx (port : Fin 4) (fch : Bytes) (mac : Bytes) (rx : PlcRx) (s : State) : Host.Outcome State Fault Refusal :=
  if s.portOn port.val then .next (s.plcFrame port.val fch mac rx) else idle s

/-- R315: a frame that the partner's port of this number heard is taken as if this port had heard it. The time for its ACK has passed. -/
def State.plcForwarded (s : State) (k link seq : Nat) (mac : Bytes) : State :=
  if s.portOn k && !s.track k && plcMacOk mac && leAt mac 0 1 != 0x30 then s.plcTaken k ⟨0, false, false, 0, 0, 0, 0, 0, link, seq, s.getF (Reg.PLC_CTRL_NETID k)⟩ mac
  else s

/-- R251, R255: would a transmission of `d` ns from now run into the guard before the port's own next beacon? -/
def State.hitsGuard (s : State) (k d : Nat) : Bool := !s.flag (Reg.PLC_CTRL_ACCESS k) && decide ((s.port k).next < s.ns3 + d + 20000000)

/-- R247, R255: 0.70 ms after a frame that the port acknowledges, the ACK starts; one that would run into the guard is not sent. -/
def execPlcAckSend (port : Fin 4) (s : State) : Host.Outcome State Fault Refusal :=
  let k := port.val
  let p := s.port k
  match p.ack with
  | some a =>
    if s.portOn k ∧ !s.track k ∧ a.due ≤ s.tb1 then
      let gen := match s.portNode k a.dst with | some n => n.rxGen | none => 0
      let t := s.setPort k { p with ack := none }
      let ph0 := t.plcPh0 k
      if s.hitsGuard k (s.plcHead k) then .next t
      else .next (t.transmit k (t.plcFch k 1 0 0 gen 0 ph0 a.dst a.seq) [] ⟨[], false, gen, ph0, 0⟩)
    else idle s
  | none => idle s

/-- R248: the time for an ACK has passed: the frame is tried again, or dropped after its last attempt. -/
def execPlcAckTimeout (port : Fin 4) (s : State) : Host.Outcome State Fault Refusal :=
  let k := port.val
  let p := s.port k
  match p.wait with
  | some (t, at_) =>
    if at_ ≤ s.tb1 then
      let s := s.setPort k { p with wait := none, cw := p.cw + 1 }
      if 1 + s.getF (Reg.PLC_ACCESS_CFG_RETRY_MAX k) ≤ t.attempts then .next (s.txDone k t 2)
      else .next (s.setPort k { s.port k with out := t :: (s.port k).out })
    else idle s
  | none => idle s

/-! ## Access to the medium -/

/-- R251: how long a beacon of 39 body bytes takes, in ns. -/
def State.beaconTime (s : State) (k : Nat) : Nat := s.plcHead k + ceilDiv (codedBits 47 true) (s.plcNu k) * 350000

/-- R249–R251, R255: may the port start a frame that occupies the medium for `d` ns? In beacon mode it must lie in the CAP or the late contention,
and end before the guard. -/
def State.plcMayStart (s : State) (k d : Nat) : Bool :=
  if s.flag (Reg.PLC_CTRL_ACCESS k) then true
  else
    let b := (s.port k).next
    let cap0 := (s.port k).beaconAt + s.beaconTime k
    let cap1 := cap0 + s.getF (Reg.PLC_SLOT_CFG_CAP_MS k) * 1000000
    let late := cap1 + s.getF (Reg.PLC_BEACON_CFG_NSLOT k) * s.getF (Reg.PLC_SLOT_CFG_SLOT_MS k) * 1000000
    let n := s.ns3
    (decide (cap0 ≤ n) && decide (n + d ≤ cap1)) || (decide (late ≤ n) && decide (n + d + 20000000 ≤ b))

/-- R249: the trigger of a contention: the instant at which the medium became free, or now where its listen window has passed (log entry 87). -/
def State.plcTrigger (s : State) (k : Nat) : Nat :=
  let p := s.port k
  if s.tb1 ≤ p.freeAt + s.getF (Reg.PLC_ACCESS_CFG_LW_SYM k) * 350000 then p.freeAt else s.tb1

/-- R249: a frame that contends for the first time draws its B. -/
def State.drawBackoff (s : State) (k : Nat) (t : PortTx) : State :=
  match t.backoff with
  | some _ => s
  | none =>
    let p := s.port k
    let e := min (s.getF (Reg.PLC_ACCESS_CFG_CW_MIN k) + p.cw) (s.getF (Reg.PLC_ACCESS_CFG_CW_MAX k))
    let (w, u) := s.drawWord
    u.setPort k { p with out := p.out.map (fun (x : PortTx) => if x.id = t.id then { x with backoff := some (w.toNat % 2 ^ e) } else x) }

/-- R249: the medium is free, and the listen window and the priority slots run; in beacon mode they must lie in a contention part of the superframe. `heard`: the highest priority
signalled by another node. The port defers to a higher one and keeps its B; else it signals in its slot, and counts B down from the backoff's start. -/
def execPlcContention (port : Fin 4) (heard : Option (Fin 4)) (s : State) : Host.Outcome State Fault Refusal :=
  let k := port.val
  let p := s.port k
  match contender p.out with
  | some t =>
    if !s.portOn k ∨ s.track k ∨ p.wait.isSome ∨ p.contend.isSome ∨ s.tb1 < p.freeAt then idle s
    else
      let slots := s.plcTrigger k + s.getF (Reg.PLC_ACCESS_CFG_LW_SYM k) * 350000
      if !s.plcMayStart k (slots + 2800000 - s.tb1) then idle s
      else
      let s := s.drawBackoff k t
      if (match heard with | some h => decide (t.prio < h.val) | none => false) then .next s
      else
        let sync := slots + (3 - t.prio) * 700000
        let s := s.drive k sync (sync + 320000) (List.replicate (s.plcNu k) 16)
        .next (s.setPort k { s.port k with contend := some (t.id, slots + 2800000), sync := some sync })
  | none => idle s

/-- R249: the backoff count of the contending frame has reached 0, and the port transmits. A frame that would run into the guard, the beacon or
a slot waits for the next contention. -/
def execPlcBackoffExpire (port : Fin 4) (s : State) : Host.Outcome State Fault Refusal :=
  let k := port.val
  let p := s.port k
  match p.contend with
  | some (id, begins) =>
    match p.out.find? (fun t => t.id == id) with
    | some t =>
      if !s.portOn k ∨ s.track k ∨ s.tb1 < begins + t.backoff.getD 0 * 700000 then idle s
      else
        let mac := plcMac t.mtype 0 t.body
        let d := s.plcHead k + (s.plcPlan k t mac.length).nsym * 350000 + (if t.ackReq then s.plcAckEnd k else 0)
        if s.plcMayStart k d then .next (s.plcSend k t) else .next (s.setPort k { p with contend := none })
    | none => .next (s.setPort k { p with contend := none })
  | none => idle s

/-! ## Beacons -/

/-- R251: the body of a beacon for instant `b`, with the next at `n` (TB3, ns); `sched` the schedule fields. -/
def State.beaconBody (s : State) (k b n nslot slot cap : Nat) : Bytes :=
  beBytes 2 (s.port k).bsn ++ beBytes 6 (b / nsPerS) ++ beBytes 4 (b % nsPerS) ++ beBytes 2 s.cycleUs ++ beBytes 2 s.tb4Phase ++
    [BitVec.ofNat 8 (s.getF (Reg.PLC_BEACON_CFG_BP k))] ++ beBytes 2 nslot ++ [BitVec.ofNat 8 slot] ++ beBytes 2 cap ++ beBytes 4 ((n - b) / 1000) ++
    beBytes 4 (s.getF (Reg.PLC_MASK_CARRIERS k 0)) ++ beBytes 4 (s.getF (Reg.PLC_MASK_CARRIERS k 1)) ++ beBytes 4 (s.getF (Reg.PLC_MASK_CARRIERS k 2)) ++
    [BitVec.ofNat 8 (s.getF (Reg.PLC_JOIN_CFG_OPEN k) + 2 * s.getF (Reg.PLC_CTRL_BAND k))]

/-- R251: at each beacon instant the coordinator sends its beacon. `NEXT_US` gives the first instant of the schedule at least one period later. -/
def execPlcBeaconTx (port : Fin 4) (s : State) : Host.Outcome State Fault Refusal :=
  let k := port.val
  let p := s.port k
  if !s.portOn k ∨ s.track k ∨ s.flag (Reg.PLC_CTRL_ACCESS k) ∨ s.ns3 < p.next then idle s
  else
    let bp := s.beaconPeriod k
    let b := if s.ns3 < p.next + bp then p.next else s.beaconFrom k (s.ns3 + 1 - bp)
    let n := s.beaconFrom k (b + bp)
    let body := s.beaconBody k b n (s.getF (Reg.PLC_BEACON_CFG_NSLOT k)) (s.getF (Reg.PLC_SLOT_CFG_SLOT_MS k)) (s.getF (Reg.PLC_SLOT_CFG_CAP_MS k))
    let s := s.setPort k { p with next := n, beaconAt := b, period := bp, bsn := (p.bsn + 1) % 65536, contend := none }
    .next (s.plcSend k { id := p.outNext, mtype := 0x30, body := body })

/-- R250: in priority-window mode the coordinator has its beacon sent by contention, once every beacon period. It sets no schedule. -/
def execPlcAnnounceTx (port : Fin 4) (s : State) : Host.Outcome State Fault Refusal :=
  let k := port.val
  let p := s.port k
  if !s.portOn k ∨ s.track k ∨ !s.flag (Reg.PLC_CTRL_ACCESS k) ∨ s.ns3 < p.next then idle s
  else
    let n := s.beaconFrom k (s.ns3 + s.beaconPeriod k)
    let body := s.beaconBody k s.ns3 n 0 0 0
    let s := s.setPort k { p with next := n, bsn := (p.bsn + 1) % 65536 }
    .next (s.toSend k { mtype := 0x30, body := body, prio := s.getF (Reg.PLC_PRIO_ANNOUNCE k) })

/-! ## Joins -/

/-- R239, R252: a JOIN_REQ arrives, in a frame with this FCH. The band of the request changes nothing (R235). -/
def execPlcJoinReq (port : Fin 4) (fch : Bytes) (ident : BitVec 64) (bandL : Bool) (rx : PlcRx) (s : State) : Host.Outcome State Fault Refusal :=
  if s.portOn port.val then .next (s.plcFrame port.val fch (plcMac 0x10 0 (beBytes 8 ident.toNat ++ [if bandL then 1 else 0])) rx) else idle s

/-- R252: a member not heard for AGE_H hours is removed. -/
def execPlcNodeAge (port : Fin 4) (addr : BitVec 16) (s : State) : Host.Outcome State Fault Refusal :=
  if s.portOn port.val then .next (s.ageNode port.val addr.toNat) else idle s

/-! ## Tone maps -/

/-- R243: how many of the three thresholds an SNR passes, each moved by `d`. -/
def State.passed (s : State) (k snr : Nat) (d : Int) : Nat :=
  ([s.getF (Reg.PLC_TM_CFG_SNR1 k), s.getF (Reg.PLC_TM_CFG_SNR2 k), s.getF (Reg.PLC_TM_CFG_SNR3 k)].filter
    (fun (t : Nat) => decide ((t : Int) + d < (snr : Int)))).length

/-- R243: the modulation of a carrier, from the one in force and its SNR: a change needs the threshold passed by HYST. -/
def State.chooseMod (s : State) (k old snr : Nat) : Nat :=
  let h : Int := s.getF (Reg.PLC_TM_CFG_HYST k)
  let up := s.passed k snr h
  let down := s.passed k snr (-h - 1)
  if old < up then up else if down < old then down else old

/-- R259: the noise floor of each carrier in a segment, as measured last. -/
def State.noiseFloor (s : State) (k seg : Nat) : Bytes :=
  match (s.port k).floorNew.find? (fun x => x.2.1 == seg) with
  | some x => x.2.2
  | none => sget [] (s.port k).floor seg

/-- R243: the SNR of a carrier in a segment, from the node's decision errors and the port's noise floor. -/
def State.plcSnr (s : State) (k : Nat) (n : PortNode) (seg c : Nat) : Nat :=
  (Config.plcSnr ((sget [] n.errs seg).getD c 0) ((s.noiseFloor k seg).getD c 0)).toNat

/-- R242, R243: the new map of a segment; one that has not been measured keeps its carriers. -/
def State.newMap (s : State) (k : Nat) (n : PortNode) (seg gen : Nat) (force : Bool) : Bytes :=
  let old := segMap (if n.rx.isEmpty then s.defaultSet k else n.rx) seg
  let head := BitVec.ofNat 8 (gen + seg * 16 + (if force then 128 else 0))
  if (sget [] n.errs seg).isEmpty then head :: old.drop 1
  else
    let cs := (List.range 96).map (fun c => if s.carrierOn k c then s.chooseMod k (carrierMod old c) (s.plcSnr k n seg c) else 0)
    let mean := ((s.carriers k).map (s.plcSnr k n seg)).sum / s.plcNu k
    [head, BitVec.ofNat 8 mean, BitVec.ofNat 8 (cs.filter (· != 0)).length, 0] ++
      (List.range 24).map (fun j => BitVec.ofNat 8 (cs.getD (4 * j) 0 + cs.getD (4 * j + 1) 0 * 4 + cs.getD (4 * j + 2) 0 * 16 + cs.getD (4 * j + 3) 0 * 64))

/-- R242: the part of a set in which two sets may differ: the carriers and FORCE_ROBUST of each segment. -/
def mapsOf (set : Bytes) : List (Nat × Bytes) :=
  (List.range 6).map (fun j => (bitAt (leAt set (28 * j) 1) 7, slice set (28 * j + 4) 24))

/-- R243: a set for a node that differs from the one in force is issued with the next generation, from what the port has measured in each segment. `force` marks the
segments whose frames are to be robust (R242). -/
def execPlcTmUpdate (port : Fin 4) (addr : BitVec 16) (force : BitVec 6) (s : State) : Host.Outcome State Fault Refusal :=
  let k := port.val
  match s.portNode k addr.toNat with
  | some n =>
    if !s.portOn k ∨ s.track k then idle s
    else
      let gen := n.rxGen % 15 + 1
      let set := (List.range 6).flatMap (fun seg => s.newMap k n seg gen (force.getLsbD seg))
      if mapsOf set = mapsOf (s.setInForce k n) then idle s
      else
        let s := s.putNode k addr.toNat (some { n with rx := set, rxGen := gen, rxPrev := n.rx, rxPrevGen := n.rxGen })
        .next ((s.irq (Reg.PLC_IRQ_TM_CHANGE k)).toSend k { dst := addr.toNat, mtype := 0x21, body := set, prio := 2 })
  | none => idle s

/-- R243: a TM_REQ, in a frame with this FCH, is answered with the set in force. -/
def execPlcTmReq (port : Fin 4) (fch : Bytes) (rx : PlcRx) (s : State) : Host.Outcome State Fault Refusal :=
  if s.portOn port.val then .next (s.plcFrame port.val fch (plcMac 0x20 0 []) rx) else idle s

/-! ## The TRACK role -/

/-- R253: a beacon with this FCH and body ends now. -/
def execPlcBeaconRx (port : Fin 4) (fch : Bytes) (body : Bytes) (rx : PlcRx) (s : State) : Host.Outcome State Fault Refusal :=
  if s.portOn port.val then .next (s.plcFrame port.val fch (plcMac 0x30 0 body) rx) else idle s

/-- R253, R254: the predicted beacon has not been heard. -/
def execPlcBeaconMiss (port : Fin 4) (s : State) : Host.Outcome State Fault Refusal :=
  let k := port.val
  let st := s.nodeStateOf k
  if !s.portOn k ∨ !s.track k ∨ s.flag (Reg.PLC_CTRL_ACCESS k) ∨ st < 3 ∨ s.ns3 ≤ (s.port k).next + 1000000 then idle s
  else .next (s.missBeacon k)

/-- R239, R253: a LEAVE, in a frame with this FCH; one addressed to a TRACK port sends it back to SCAN. -/
def execPlcLeave (port : Fin 4) (fch : Bytes) (reason : BitVec 8) (rx : PlcRx) (s : State) : Host.Outcome State Fault Refusal :=
  if s.portOn port.val then .next (s.plcFrame port.val fch (plcMac 0x12 0 [reason]) rx) else idle s

/-! ## What the chip sends to meters -/

/-- R256: the port takes an acknowledgement item. -/
def execPlcAppAckSend (port : Fin 4) (parity : Nat) (s : State) : Host.Outcome State Fault Refusal :=
  if s.portOn port.val ∨ (s.domOn .field ∧ s.flag (Reg.PLC_CTRL_FENCE port.val)) then .next (s.portAck port.val parity) else idle s

/-- R257: the port takes a downlink item; software may write one with the command. -/
def execPlcDownlinkItem (port : Fin 4) (sub : Option Submission) (s : State) : Host.Outcome State Fault Refusal :=
  .next (s.portDownlink port.val sub (fun _ _ _ _ => true))

/-! ## Calibration and fencing -/

/-- R258: is a calibration due, at a die temperature (°C)? -/
def State.calDue (s : State) (k : Nat) (temp : Int) : Bool :=
  let p := s.port k
  decide (p.calAt + s.getF (Reg.PLC_CAL_CFG_PERIOD_S k) * nsPerS ≤ s.tb1) ||
    (match p.calTemp with | some c => decide (s.getF (Reg.PLC_CAL_CFG_TEMP_STEP k) ≤ (temp - c).natAbs) | none => true)

/-- R258: do the next 400 µs lie in a silent interval: a listen window, or the guard before the port's own beacon? -/
def State.calSilent (s : State) (k : Nat) : Bool :=
  let p := s.port k
  !s.driverOn k && (if s.flag (Reg.PLC_CTRL_ACCESS k) then
      decide (p.freeAt ≤ s.tb1) && decide (s.tb1 + 400000 ≤ p.freeAt + s.getF (Reg.PLC_ACCESS_CFG_LW_SYM k) * 350000)
    else decide (p.next ≤ s.ns3 + 20000000) && decide (s.ns3 + 400000 ≤ p.next))

/-- R258: the port measures its converter path for 400 µs; `corr` are the offset, gain and phase that it finds. -/
def execPlcCalibrate (port : Fin 4) (temp : BitVec 8) (corr : BitVec 48) (s : State) : Host.Outcome State Fault Refusal :=
  let k := port.val
  if s.portOn k ∧ s.calDue k temp.toInt ∧ s.calSilent k ∧ (s.port k).calEnd = none then
    .next (s.setPort k { s.port k with calAt := s.tb1, calTemp := some temp.toInt, calEnd := some (s.tb1 + 400000), calNew := some corr.toNat })
  else idle s

/-- R258: the measurement in progress ends. -/
def State.calEnds (s : State) (k : Nat) : State :=
  match (s.port k).calEnd with
  | some t => if t ≤ s.tb1 then (s.setPort k { s.port k with calEnd := none }).irq (Reg.PLC_IRQ_CAL_DONE k) else s
  | none => s

/-- R259: the length of the longest frame, in ns: measurements older than it stand. -/
def State.longestFrame (s : State) (k : Nat) : Nat := s.plcHead k + nsymMax * 350000

/-- R259: the measurements that no frame can void any more become the floor. -/
def State.settleFloor (s : State) (k : Nat) : State :=
  let p := s.port k
  let old := p.floorNew.filter (fun x => decide (x.1 + s.longestFrame k ≤ s.tb1))
  if old.isEmpty then s
  else s.setPort k { p with
    floor := old.foldr (fun x m => sput [] m x.2.1 x.2.2) p.floor, floorNew := p.floorNew.filter (fun x => !decide (x.1 + s.longestFrame k ≤ s.tb1)) }

/-- R259: a symbol time has passed: the noise floor of the segment in progress is measured; a frame that turns out to have been received meanwhile voids it (`plcHeard`). -/
def State.noiseTick (s : State) (k : Nat) : State :=
  let p := s.port k
  if s.portOn k ∧ p.calEnd = none ∧ p.floorAt + 350000 ≤ s.tb1 ∧ p.freeAt + 350000 ≤ s.tb1 ∧ !s.driverOn k then
    State.settleFloor { s.setPort k { p with
      floorNew := (s.tb1, 6 * s.tb4Phase / 65536, (List.range 96).map (Config.plcNoise s.free)) :: p.floorNew, floorAt := s.tb1 } with free := s.free + 1 } k
  else s

/-- R258, R259: what the power-line ports do as time passes. -/
def State.plcTick (s : State) : State := (List.range 4).foldl (fun t k => (t.calEnds k).noiseTick k) s

/-- R236: the symbols of a frame that have begun by a symbol boundary. -/
def symbolsBy (start t : Nat) : Nat := if t - start ≤ 9 * 320000 then (t - start) / 320000 else 9 + (t - start - 9 * 320000) / 350000

/-- R233, R260: the transmission in progress is cut at a symbol boundary, and the driver is released 20 µs later. -/
def State.cutLine (s : State) (k stop : Nat) : State :=
  let p := s.port k
  let t := amendWay (24 + k) (fun b => some (b.take (symbolsBy p.txStart stop * s.plcNu k))) s.sent
  { s.setPort k { p with txEnd := stop } with sent := amendWay (28 + k) (fun b => some (b.take 10 ++ leBytes 8 (stop + 20000))) t }

/-- R249, R260: a SYNCP symbol that has not begun is not sent. -/
def State.dropSync (s : State) (k : Nat) : State :=
  match (s.port k).sync with
  | some t =>
    if s.tb1 < t then
      { s.setPort k { s.port k with sync := none } with sent := amendWay (24 + k) (fun _ => none) (amendWay (28 + k) (fun _ => none) s.sent) }
    else s
  | none => s

/-- R260: `PLCn.CTRL.FENCE` becomes 1. A transmission that does not end within 10 ms is cut at the next symbol boundary. -/
def State.plcFence (s : State) (k : Nat) : State :=
  if s.flag (Reg.PLC_CTRL_FENCE k) then s
  else
    let s := ((s.setF (Reg.PLC_CTRL_FENCE k) 1).fencePort k).dropSync k
    let p := s.port k
    if s.tb1 + 10000000 < p.txEnd then s.cutLine k (symbolEnd p.txStart s.tb1) else s

/-- R251: the port's own schedule begins with the beacon at `b`. -/
def State.newSchedule (s : State) (k b : Nat) : State := s.setPort k { s.port k with next := b, beaconAt := b - s.beaconPeriod k }

/-- R260: `PLCn.CTRL.FENCE` becomes 0: the schedule resumes at its next instant. -/
def State.plcUnfence (s : State) (k : Nat) : State :=
  if !s.flag (Reg.PLC_CTRL_FENCE k) then s
  else
    let s := s.setF (Reg.PLC_CTRL_FENCE k) 0
    if s.track k then s else s.newSchedule k (s.beaconFrom k s.ns3)

/-- R253, R251: `PLCn.CTRL.ENABLE` becomes 1: the schedule starts, and a TRACK port scans. -/
def State.plcEnable (s : State) (k : Nat) : State :=
  let s := s.newSchedule k (s.beaconFrom k (s.ns3 + 1))
  s.nodeState k (if s.track k then 1 else 0)

/-- R260: a write of 1 to `PLCn.CTRL.FENCE`. -/
def execPlcFence (req : Req) (port : Fin 4) (s : State) : Host.Outcome State Fault Refusal :=
  .next (s.onT req (Reg.PLC_CTRL_FENCE port.val) 1 fun s => s.plcFence port.val)

/-- R260: a write of 0 to `PLCn.CTRL.FENCE`. -/
def execPlcUnfence (req : Req) (port : Fin 4) (s : State) : Host.Outcome State Fault Refusal :=
  .next (s.onT req (Reg.PLC_CTRL_FENCE port.val) 0 fun s => s.plcUnfence port.val)

end Sys2Proof.Machine
end

