-- ==== Sys2Proof/Machine/Radio.lean ====
section
/-! DEFINITION. The radio ports (R262–R281) at the level of IEEE 802.15.4 frames: the TSCH schedule, frames with link security, acknowledgements and retries, joins, the states of a port that follows another coordinator, duty-cycle budgets and fencing. The bytes of a frame follow IEEE 802.15.4-2020, which the rules name. -/

namespace Sys2Proof.Machine

/-! ## Time and schedule -/

/-- R265: the TB3 instant (ns) at which timeslot 0 begins on the port. -/
def State.asnBase (s : State) (n : Nat) : Int :=
  let e : Int := (s.getF (Reg.RAD_ASN_EPOCH_LO_SEC n) + s.getF (Reg.RAD_ASN_EPOCH_HI_SEC n) * 2 ^ 32) * nsPerS
  if s.track (n + 4) ∨ s.member (n + 4) then e + signedOf 32 (s.getF (Reg.RAD_SYNC_OFS_NS n)) else e

/-- R265: the absolute slot number. -/
def State.asn (s : State) (n : Nat) : Nat := ((((s.ns3 : Int) - s.asnBase n) / slotNs).toNat) % 2 ^ 40

/-- R266: has timeslot 0 begun? -/
def State.asnRuns (s : State) (n : Nat) : Bool := decide (s.asnBase n ≤ (s.ns3 : Int))

/-- R266: a link of the schedule. -/
structure Link where
  slot : Nat
  sf : Nat
  chofs : Nat
  tx : Bool
  rx : Bool
  shared : Bool
  keeping : Bool
  adv : Bool
  len : Nat
  nb : Nat
  deriving DecidableEq, Repr

/-- R266: the address of a link. -/
def linkAddr (n copy j : Nat) : Nat := 0x087A000000 + n * 0x400000 + copy * 0x20000 + j * 16

/-- R266: read a link. -/
def State.link (s : State) (n copy j : Nat) : Link :=
  let w := s.readNat (linkAddr n copy j) 4
  ⟨bitsOf w 11 0, bitsOf w 13 12, bitsOf w 21 16, bitAt w 24 == 1, bitAt w 25 == 1, bitAt w 26 == 1, bitAt w 27 == 1, bitAt w 28 == 1,
    bitsOf w 31 29 + 1, bitsOf (s.readNat (linkAddr n copy j + 4) 4) 15 0⟩

/-- R266: the number of links of a copy. -/
def State.nlinks (s : State) (n copy : Nat) : Nat := s.getF (if copy = 0 then Reg.RAD_NLINKS_COPY0 n else Reg.RAD_NLINKS_COPY1 n)

/-- R266: the links in force. -/
def State.links (s : State) (n : Nat) : List Link :=
  let c := s.getF (Reg.RAD_SCHED_COPY n)
  (List.range (min (s.nlinks n c) 8192)).map (s.link n c)

/-- R267: may a copy of the schedule be taken? -/
def State.schedOk (s : State) (n copy : Nat) : Bool :=
  decide (s.nlinks n copy ≤ 8192) && ((List.range (s.nlinks n copy)).map (s.link n copy)).all (fun l =>
    s.getF (Reg.RAD_SF_LEN_LEN n l.sf) != 0 && decide (l.slot + l.len ≤ s.getF (Reg.RAD_SF_LEN_LEN n l.sf)) &&
      decide (l.chofs < s.getF (Reg.RAD_HOP_CFG_LEN n)))

/-- R265: the channel of a cell that begins at timeslot `a`. -/
def State.cellChannel (s : State) (n : Nat) (l : Link) (a : Nat) : Nat :=
  let i := (a + l.chofs) % s.getF (Reg.RAD_HOP_CFG_LEN n)
  bitsOf (s.getF (Reg.RAD_HOP_CHANNELS n (i / 4))) (8 * (i % 4) + 7) (8 * (i % 4))

/-- R273: the EB period in ns. -/
def State.ebPeriod (s : State) (n : Nat) : Nat :=
  s.getF (Reg.RAD_SF_LEN_LEN n (s.getF (Reg.RAD_EB_CFG_SF n))) * s.getF (Reg.RAD_EB_CFG_PERIOD n) * slotNs

/-- R273: does an EB belong in a cell of a link that begins at timeslot `a`? -/
def State.ebCell (s : State) (n : Nat) (l : Link) (a : Nat) : Bool :=
  l.adv && l.sf == s.getF (Reg.RAD_EB_CFG_SF n) && a / s.getF (Reg.RAD_SF_LEN_LEN n l.sf) % s.getF (Reg.RAD_EB_CFG_PERIOD n) == 0

/-- R46, R273: the next EB instant of a coordinator after now (TB3, ns): the next timeslot of an ADV cell of the EB slotframe in a repetition that carries EBs. None without
such a cell. -/
def State.nextEb (s : State) (n : Nat) : Option Nat :=
  let base := (s.asnBase n).toNat
  let p := s.ebPeriod n
  let at_ (l : Link) : Nat :=
    let first := base + l.slot * slotNs
    if s.ns3 < first then first else first + ((s.ns3 - first) / p + 1) * p
  if p = 0 then none
  else (((s.links n).filter (fun l => l.adv && l.sf == s.getF (Reg.RAD_EB_CFG_SF n))).map at_).foldl (fun (m : Option Nat) x => some (m.elim x (min x))) none

/-- R275: the ASN of the cell under way, or of the timeslot. -/
def State.cellAsn (s : State) (n : Nat) : Nat :=
  match (s.port (n + 4)).cell with
  | some (_, a) => a
  | none => s.asn n

/-! ## Airtime and budgets -/

/-- R264: the airtime of a PSDU in ns. -/
def State.airtime (s : State) (n psdu : Nat) : Nat :=
  let octets := s.getF (Reg.RAD_PHY_CFG_PREAMBLE n) + 4 + psdu
  match s.getF (Reg.RAD_PHY_CFG_RATE n) with
  | 0 => octets * 160000
  | 1 => octets * 80000
  | _ => octets * 160000 / 3

/-- R276: the buckets of an entry. -/
def State.bucketsOf (s : State) (n k : Nat) : List Nat := (s.port (n + 4)).buckets.getD k (List.replicate 60 0)

/-- R276: USE of an entry. -/
def State.budgetUse (s : State) (n k : Nat) : Nat := (s.bucketsOf n k).sum

/-- R276: B of an entry, in ms: limit × 0.01 % of 3,600,000 ms. -/
def State.budget (s : State) (n k : Nat) : Nat := s.getF (Reg.RAD_DC_HI_LIMIT n k) * 360

/-- R278: the bit of BUDGET_LOW follows USE; its first reach of 0.9 × B is latched. -/
def State.noteUse (s : State) (n k : Nat) : State :=
  let use := s.budgetUse n k
  let low := s.getF (Reg.RAD_STAT_BUDGET_LOW n)
  let hot := s.budget n k != 0 && decide (s.budget n k * 9 ≤ use * 10)
  let t := (s.setF (Reg.RAD_DC_USE_MS n k) use).setF (Reg.RAD_STAT_BUDGET_LOW n) (withBits low k k (if hot then 1 else 0))
  if hot && bitAt low k == 0 then t.irq (Reg.RAD_IRQ_BUDGET n) else t

/-- Replace the buckets of the port. -/
def State.setBuckets (s : State) (n : Nat) (f : Nat → List Nat) : State :=
  let p := s.port (n + 4)
  (List.range 8).foldl (fun t k => t.noteUse n k) (s.setPort (n + 4) { p with buckets := (List.range 8).map f })

/-- R276: `r` bucket boundaries have passed: the oldest buckets are cleared. -/
def State.rollBuckets (s : State) (n r : Nat) : State :=
  let p := s.port (n + 4)
  let s := s.setPort (n + 4) { p with bucketAt := p.bucketAt + r * (60 * nsPerS) }
  s.setBuckets n (fun k => (List.replicate (min r 60) 0 ++ s.bucketsOf n k).take 60)

/-- R276: the bucket boundaries that TB1 has passed. -/
def State.bucketsDue (s : State) (n : Nat) : Nat := (s.tb1 - (s.port (n + 4)).bucketAt) / (60 * nsPerS)

/-- R277: on an edge with a check, the clearing comes first. -/
def State.rollFirst (s : State) (n : Nat) : State := if s.bucketsDue n = 0 then s else s.rollBuckets n (s.bucketsDue n)

/-- R277: the enabled entries that contain the centre of a channel. -/
def State.entriesOf (s : State) (n chan : Nat) : List Nat :=
  let f := s.getF (Reg.RAD_CHAN0_KHZ_KHZ n) + chan * s.getF (Reg.RAD_SPACING_KHZ_KHZ n)
  (List.range 8).filter (fun k => s.budget n k != 0 && decide (s.getF (Reg.RAD_DC_LO_KHZ n k) ≤ f) && decide (f ≤ s.getF (Reg.RAD_DC_HI_KHZ n k)))

/-- R277: does a transmission of `ms` pass the check on a channel? -/
def State.budgetAllows (s : State) (n chan ms : Nat) (reserved : Bool) : Bool :=
  (s.entriesOf n chan).all (fun k => if reserved then decide (s.budgetUse n k + ms ≤ s.budget n k)
    else decide ((s.budgetUse n k + ms) * 10 ≤ s.budget n k * 9))

/-- R277: charge a transmission to the current buckets. -/
def State.charge (s : State) (n chan ms : Nat) : State :=
  let es := s.entriesOf n chan
  s.setBuckets n (fun k => if es.contains k then (match s.bucketsOf n k with | b :: r => (b + ms) :: r | [] => []) else s.bucketsOf n k)

/-- R276: the port is enabled: every bucket starts at B / 60, or at 0. -/
def State.startBuckets (s : State) (n : Nat) : State :=
  let s := s.setPort (n + 4) { s.port (n + 4) with bucketAt := s.tb1 }
  s.setBuckets n (fun k => List.replicate 60 (if s.flag (Reg.RAD_DC_CFG_START n) then s.budget n k / 60 else 0))

/-! ## Frames -/

/-- One bit of a reflected CRC. -/
def crcBitR (poly c : Nat) : Nat := if c % 2 = 1 then (c / 2) ^^^ poly else c / 2

/-- A reflected CRC over bytes. -/
def crcR (poly init : Nat) (b : Bytes) : Nat :=
  b.foldl (fun c x => (List.range 8).foldl (fun c _ => crcBitR poly c) (c ^^^ x.toNat)) init

/-- R264: the FCS of a PSDU, 4 or 2 octets. -/
def State.fcs (s : State) (n : Nat) (b : Bytes) : Bytes :=
  if s.flag (Reg.RAD_PHY_CFG_FCS_TYPE n) then leBytes 2 (crcR 0x8408 0 b) else leBytes 4 (crcR 0xEDB88320 0xFFFFFFFF b ^^^ 0xFFFFFFFF)

/-- The length of the FCS. -/
def State.fcsLen (s : State) (n : Nat) : Nat := if s.flag (Reg.RAD_PHY_CFG_FCS_TYPE n) then 2 else 4

/-- R275: the length of the MIC of a security level. -/
def micLen (level : Nat) : Nat := if level % 4 = 0 then 0 else 2 * 2 ^ (level % 4)

/-- R275: the nonce of a frame: the sender's extended address and the ASN. -/
def radNonce (ext asn : Nat) : Bytes := beBytes 8 ext ++ beBytes 5 asn

/-- R275: the first map in use with its index and key; none where there is none or the slot may not serve the radio. -/
def State.radTxKey (s : State) (n : Nat) : Option (Nat × Bytes) :=
  match (List.range 4).find? (fun k => s.flag (Reg.RAD_KEYMAP_VALID n k)) with
  | some k =>
    let sl := s.slot (s.getF (Reg.RAD_KEYMAP_SLOT n k))
    if sl.goes Dest.radMac then some (s.getF (Reg.RAD_KEYMAP_IDX n k), sl.key) else none
  | none => none

/-- R275: the key of an index that a map in use holds. -/
def State.radRxKey (s : State) (n idx : Nat) : Option Bytes :=
  match (List.range 4).find? (fun k => s.flag (Reg.RAD_KEYMAP_VALID n k) && s.getF (Reg.RAD_KEYMAP_IDX n k) == idx) with
  | some k =>
    let sl := s.slot (s.getF (Reg.RAD_KEYMAP_SLOT n k))
    if sl.goes Dest.radMac then some sl.key else none
  | none => none

/-- R275: add the auxiliary security header, the encryption and the MIC to a frame. The first `open_` bytes of the payload stay clear (header IEs).
None where no key serves. -/
def State.secure (s : State) (n level asn : Nat) (hd ies payload : Bytes) : Option Bytes :=
  if level = 0 then some (hd ++ ies ++ payload)
  else match s.radTxKey n with
  | none => none
  | some (idx, key) =>
    let a := hd ++ [BitVec.ofNat 8 (level + 8 + 0x60), BitVec.ofNat 8 idx] ++ ies
    let nonce := radNonce (Config.radExtAddr n).toNat asn
    let m := micLen level
    if 4 ≤ level then some (a ++ ccmCrypt key nonce payload ++ ccmMic key nonce a payload m)
    else some (a ++ payload ++ ccmMic key nonce (a ++ payload) [] m)

/-- A frame control field: type, security, acknowledgement request, IEs present, addressing modes. The PAN ID is compressed away beside the source where a destination
carries it. -/
def radFcf (type sec ar ie dmode smode : Nat) : Bytes :=
  leBytes 2 (type + sec * 8 + ar * 32 + (if dmode = 0 then 0 else 64) + ie * 512 + dmode * 1024 + 2 * 4096 + smode * 16384)

/-- R270, R271: the header and the payload of a frame to send: data, association request or association response. -/
def State.radParts (s : State) (n : Nat) (t : PortTx) : Bytes × Bytes :=
  let sec := if s.getF (Reg.RAD_SEC_CFG_LEVEL n) = 0 ∨ t.mtype = 0x101 then 0 else 1
  let ar := if t.ackReq then 1 else 0
  let pan := leBytes 2 (s.getF (Reg.RAD_PAN_PANID n))
  let me := if s.member (n + 4) then s.getF (Reg.RAD_SHORT_ADDR_ADDR n) else 0
  let dsn := [BitVec.ofNat 8 t.seq]
  if t.mtype = 0x101 then
    (radFcf 3 sec ar 0 2 3 ++ dsn ++ pan ++ leBytes 2 t.dst ++ leBytes 8 (Config.radExtAddr n).toNat, 0x01 :: t.body)
  else if t.mtype = 0x102 then
    (radFcf 3 sec ar 0 3 2 ++ dsn ++ pan ++ t.body.take 8 ++ leBytes 2 me, 0x02 :: t.body.drop 8)
  else (radFcf 1 sec ar 0 2 2 ++ dsn ++ pan ++ leBytes 2 t.dst ++ leBytes 2 me, BitVec.ofNat 8 t.mtype :: t.body)

/-- The PSDU of a frame to send in a cell that began at `asn`. -/
def State.radPsdu (s : State) (n asn : Nat) (t : PortTx) : Option Bytes :=
  let (hd, pl) := s.radParts n t
  (s.secure n (if t.mtype = 0x101 then 0 else s.getF (Reg.RAD_SEC_CFG_LEVEL n)) asn hd [] pl).map (fun b => b ++ s.fcs n b)

/-- The length of the PSDU of a data frame with `len` body bytes. -/
def State.radPsduLen (s : State) (n len : Nat) : Nat :=
  let level := s.getF (Reg.RAD_SEC_CFG_LEVEL n)
  9 + (if level = 0 then 0 else 2 + micLen level) + 1 + len + s.fcsLen n

/-- R269: does a frame of `psdu` octets, with the ACK it requests, end in time in a cell of `len` timeslots? -/
def State.cellFits (s : State) (n psdu len : Nat) (ackReq : Bool) : Bool :=
  decide (2120000 + s.airtime n psdu + (if ackReq then 1000000 + s.airtime n 17 else 0) + 500000 ≤ len * slotNs)

/-- R279: does a link serve frames to an address? A shared cell to any neighbour serves those that have no dedicated cell. -/
def linkServes (ls : List Link) (l : Link) (dst : Nat) : Bool :=
  l.tx && (l.nb == dst || (l.nb == 0xFFFF && (!l.shared || !ls.any (fun d => d.tx && !d.shared && d.nb == dst))))

/-- R271, R279: does a link take a frame? Association requests and responses go in shared cells. -/
def linkTakes (ls : List Link) (l : Link) (t : PortTx) : Bool :=
  if t.mtype = 0x101 ∨ t.mtype = 0x102 then l.tx && l.shared && (l.nb == t.dst || l.nb == 0xFFFF) else linkServes ls l t.dst

/-- R269: is a frame too long for every cell towards its neighbour? -/
def State.radFits (s : State) (n dst len : Nat) (ackReq : Bool) : Bool :=
  let ls := s.links n
  let serve := ls.filter (fun l => linkServes ls l dst)
  serve.isEmpty || serve.any (fun l => s.cellFits n (s.radPsduLen n len) l.len ackReq)

/-! ## Transmission -/

/-- R277: is a frame RESERVED: a downlink item of priority 3? -/
def PortTx.reserved (t : PortTx) : Bool := t.tag.isSome && t.prio == 3

/-! ### The samples (R262, R264); the octets of the PHY follow IEEE 802.15.4-2020 (log entry 112) -/

/-- R264: one step of the whitening sequence x^9 + x^5 + 1. -/
def whitenStep (r : BitVec 9) : BitVec 9 := (r >>> 1) ||| (if r.getLsbD 0 ^^ r.getLsbD 5 then 256 else 0)

/-- R264: the whitening of bits, in the order in which they are sent. -/
def whitenBits : BitVec 9 → List Bool → List Bool
  | _, [] => []
  | r, b :: t => (b ^^ r.getLsbD 0) :: whitenBits (whitenStep r) t

/-- R264: the PHR of a PSDU: no mode switch, the FCS type, whitening, and the length. -/
def State.radPhr (s : State) (n len : Nat) : Bytes :=
  beBytes 2 (s.getF (Reg.RAD_PHY_CFG_FCS_TYPE n) * 2 ^ 12 + s.getF (Reg.RAD_PHY_CFG_WHITEN n) * 2 ^ 11 + len % 2048)

/-- R264: the octets on air: preamble, SFD, PHR and the PSDU, whitened where WHITEN is 1. -/
def State.radOctets (s : State) (n : Nat) (psdu : Bytes) : Bytes :=
  let bits := psdu.flatMap (fun x => (List.range 8).map x.getLsbD)
  let white := whitenBits 511 bits
  let body := (List.range psdu.length).map (fun i => BitVec.ofNat 8 (((List.range 8).map (fun j => bitIf (white.getD (8 * i + j) false) j)).sum))
  List.replicate (s.getF (Reg.RAD_PHY_CFG_PREAMBLE n)) 0x55 ++ [0x90, 0x4E] ++ s.radPhr n psdu.length ++ (if s.flag (Reg.RAD_PHY_CFG_WHITEN n) then body else psdu)

/-- R262, R264: a PSDU leaves from `start` (TB1, ns) on: the PSDU, and on the way of the samples the rate, the filter, when RADn_TXEN is asserted and released, and the octets on air.
The frame latches the key slot that it uses. -/
def State.radOut (s : State) (n start : Nat) (psdu : Bytes) : State :=
  let k := n + 4
  let stop := start + s.airtime n psdu.length
  let slot := if s.getF (Reg.RAD_SEC_CFG_LEVEL n) = 0 then none
    else ((List.range 4).find? (fun i => s.flag (Reg.RAD_KEYMAP_VALID n i))).map (fun i => s.getF (Reg.RAD_KEYMAP_SLOT n i))
  let s := (s.emit k psdu).emit (28 + k) ([BitVec.ofNat 8 (s.getF (Reg.RAD_PHY_CFG_RATE n)), BitVec.ofNat 8 (s.getF (Reg.RAD_PHY_CFG_GAUSS n))] ++
    leBytes 8 (start - s.getF (Reg.RAD_PHY_CFG_TXEN_LEAD n) * 1000) ++ leBytes 8 (stop + 10000) ++ s.radOctets n psdu)
  s.setPort k { s.port k with txStart := start, txEnd := stop, txSlot := slot }

/-- R262, R269: RADn_RXEN is high inside a receive window. -/
def State.openWindow (s : State) (n from_ to_ : Nat) : State :=
  let k := n + 4
  (s.setPort k { s.port k with rxOpen := from_, rxClose := to_ }).emit (32 + k) (leBytes 8 from_ ++ leBytes 8 to_)

/-- R262: the level of RADn_TXEN. -/
def State.radTxen (s : State) (n : Nat) : Bool :=
  let p := s.port (n + 4)
  decide (p.txStart < p.txEnd) && decide (p.txStart ≤ s.tb1 + s.getF (Reg.RAD_PHY_CFG_TXEN_LEAD n) * 1000) && decide (s.tb1 < p.txEnd + 10000)

/-- R269, R274: does the port hear a frame whose first preamble sample comes at an instant: in its receive window, or while it scans or is LOST, when the receiver stays open
(log entry 111)? -/
def State.radHears (s : State) (n at_ : Nat) : Bool :=
  let k := n + 4
  let p := s.port k
  (!s.coordinates k && (decide (s.nodeStateOf k ≤ 1) || s.nodeStateOf k == 5)) || (decide (p.rxOpen ≤ at_) && decide (at_ ≤ p.rxClose))

/-- R269, R272, R277: the port sends a frame in the cell that began at `asn`; `start` is when its first preamble sample leaves (TB1, ns). It then listens for the ACK. -/
def State.radSend (s : State) (n chan start : Nat) (t : PortTx) (psdu : Bytes) : State :=
  let k := n + 4
  let air := s.airtime n psdu.length
  let s := ((s.radOut n start psdu).count (Reg.RAD_TX_CNT_CNT n)).charge n chan ((air + 999999) / 1000000)
  let s := if t.attempts = 0 then s else s.count (Reg.RAD_RETRY_CNT_CNT n)
  let t := { t with attempts := t.attempts + 1, stamp := s.stamp0, backoff := none, deferAt := none }
  let p := s.port k
  let p := { p with out := p.out.filter (fun e => e.id != t.id) }
  if t.ackReq then (s.setPort k { p with wait := some (t, start + air + 1400000) }).openWindow n (start + air + 600000) (start + air + 1400000)
  else (s.setPort k p).txDone k t 1

/-- A frame is held up by a budget (R278). -/
def State.radDefer (s : State) (n : Nat) (t : PortTx) : State :=
  let p := s.port (n + 4)
  (s.setPort (n + 4) { p with out := p.out.map (fun (e : PortTx) => if e.id = t.id then { e with deferAt := some (e.deferAt.getD s.tb1) } else e) }).count
    (Reg.RAD_DEFER_CNT_CNT n)

/-- R273: the part of a Slotframe and Link IE that describes links of one slotframe. -/
def State.frameIe (s : State) (n h : Nat) (ls : List Link) : Bytes :=
  [BitVec.ofNat 8 h] ++ leBytes 2 (s.getF (Reg.RAD_SF_LEN_LEN n h)) ++ [BitVec.ofNat 8 ls.length] ++
    ls.flatMap (fun l => leBytes 2 l.slot ++ leBytes 2 l.chofs ++ [BitVec.ofNat 8 (bitIf l.tx 0 + bitIf l.rx 1 + bitIf l.shared 2 + bitIf l.keeping 3)])

/-- R268: the vendor sub-IE that announces the cells with LEN > 1 (log entry 113). -/
def longIe (ls : List Link) : Bytes :=
  let b := (ls.filter (fun l => decide (1 < l.len))).flatMap (fun l => [BitVec.ofNat 8 l.sf] ++ leBytes 2 l.slot ++ leBytes 2 l.chofs ++ [BitVec.ofNat 8 l.len])
  if b.isEmpty then [] else leBytes 2 (b.length % 256 + 0x40 * 256) ++ b

/-- A list in pieces of at most `m`. -/
def pieces {α : Type} (m : Nat) : Nat → List α → List (List α)
  | 0, _ => []
  | fuel + 1, l => if l.length ≤ m then [l] else l.take m :: pieces m fuel (l.drop m)

/-- R268, R273: the Slotframe and Link IEs of some links: one, or where its length does not hold them all, several. -/
def State.linkIes (s : State) (n : Nat) (ls : List Link) : Bytes :=
  let ie (count : Nat) (b : Bytes) : Bytes := leBytes 2 (b.length + 1 + 0x1B * 256) ++ [BitVec.ofNat 8 count] ++ b
  let sfs := (List.range 4).filter (fun h => s.getF (Reg.RAD_SF_LEN_LEN n h) != 0)
  let all := sfs.flatMap (fun h => s.frameIe n h (ls.filter (fun l => l.sf == h))) ++ longIe ls
  if all.length ≤ 254 then ie sfs.length all
  else sfs.flatMap (fun h => (pieces 20 (ls.length + 1) (ls.filter (fun l => l.sf == h))).flatMap (fun p => ie 1 (s.frameIe n h p ++ longIe p)))

/-- R273: the information elements of an EB: TSCH Synchronization, Timeslot, Channel Hopping, Slotframe and Link. -/
def State.ebBody (s : State) (n asn : Nat) (free : Bytes) : Bytes :=
  let le2 (v : Nat) := leBytes 2 v
  let hop := s.getF (Reg.RAD_HOP_CFG_LEN n)
  let sync := le2 (6 + 0x1A * 256) ++ leBytes 5 asn ++ [0]
  let timing := le2 (25 + 0x1C * 256) ++ [1] ++ [1800, 128, 2120, 1020, 600, 1000, 2200, 800].flatMap le2 ++ free ++ le2 10000
  let chans := (List.range hop).flatMap (fun i => le2 (bitsOf (s.getF (Reg.RAD_HOP_CHANNELS n (i / 4))) (8 * (i % 4) + 7) (8 * (i % 4))))
  let hopping := le2 (12 + 2 * hop + 0x9 * 2048 + 0x8000) ++ [1, 0] ++ le2 hop ++ leBytes 4 0 ++ le2 hop ++ chans ++ le2 0
  let mlme := sync ++ timing ++ hopping ++ s.linkIes n ((s.links n).filter (fun l => l.adv || l.shared))
  le2 0x3F00 ++ le2 (mlme.length % 2048 + 1 * 2048 + 0x8000) ++ mlme

/-- R269, R273, R277: the coordinator's EB in an ADV cell of `len` timeslots: sent where it ends by step 8 and the budget allows, else skipped. -/
def State.sendEb (s : State) (n chan start asn len : Nat) : State :=
  let k := n + 4
  let (f, s) := s.drawBytes 6
  let level := if s.flag (Reg.RAD_EB_CFG_SEC n) then 1 else 0
  let hd := radFcf 0 (min level 1) 0 1 0 2 ++ [BitVec.ofNat 8 (s.port k).bsn] ++ leBytes 2 (s.getF (Reg.RAD_PAN_PANID n)) ++ leBytes 2 0
  match s.secure n level asn hd (s.ebBody n asn f) [] with
  | none => s
  | some b =>
    let psdu := b ++ s.fcs n b
    let ms := (s.airtime n psdu.length + 999999) / 1000000
    if !s.cellFits n psdu.length len false then s
    else if !s.budgetAllows n chan ms false then s.count (Reg.RAD_DEFER_CNT_CNT n)
    else
      let t := ((s.radOut n start psdu).count (Reg.RAD_TX_CNT_CNT n)).charge n chan ms
      t.setPort k { t.port k with bsn := ((s.port k).bsn + 1) % 256 }

/-- R272: a shared cell passes: every count of a waiting backoff goes down. -/
def State.sharedPasses (s : State) (n : Nat) : State :=
  let p := s.port (n + 4)
  s.setPort (n + 4) { p with out := p.out.map (fun (e : PortTx) => { e with backoff := e.backoff.map (· - 1) }) }

/-- R269, R272, R277, R278: a TX cell: the first frame that it serves goes out, where it fits, the medium is free and the budget allows. -/
def State.runTx (s : State) (n chan asn : Nat) (l : Link) (ls : List Link) (ccaBusy : Bool) : State :=
  let k := n + 4
  let start := s.tb1 + 2120000
  let ready := (s.port k).out.filter (fun t => linkTakes ls l t && (!l.shared || t.backoff.getD 0 == 0))
  let s := if l.shared then s.sharedPasses n else s
  match contender ready with
  | none => s
  | some t =>
    if (s.port k).wait.isSome ∨ (l.shared ∧ ccaBusy) then s
    else match s.radPsdu n asn t with
    | none => s
    | some psdu =>
      if !s.cellFits n psdu.length l.len t.ackReq then s
      else if !s.budgetAllows n chan ((s.airtime n psdu.length + 999999) / 1000000) t.reserved then s.radDefer n t
      else s.radSend n chan start t psdu

/-- R263: the transceiver is tuned where the channel changes. -/
def State.tune (s : State) (n chan : Nat) : State :=
  let p := s.port (n + 4)
  if p.chan = some chan then s
  else
    let w := (s.getF (Reg.RAD_TUNE_BASE_WORD n) + chan * s.getF (Reg.RAD_TUNE_STEP_WORD n)) % 2 ^ 24
    (s.setPort (n + 4) { p with chan := some chan }).emit (16 + n) ([BitVec.ofNat 8 (s.getF (Reg.RAD_TUNE_CFG_CMD n))] ++ beBytes 3 w)

/-- R268: which of the cells of a timeslot the port keeps: the lowest handle; in it a TX cell with a frame queued; then the lowest index. -/
def pickLink (out : List PortTx) (ls here : List Link) : Option Link :=
  match (List.range 4).find? (fun h => here.any (fun l => l.sf == h)) with
  | none => none
  | some h =>
    let own := here.filter (fun l => l.sf == h)
    match own.find? (fun l => l.tx && out.any (fun t => linkTakes ls l t)) with
    | some l => some l
    | none => own.head?

/-- R274: the channel of the hopping sequence on which a scanning port listens: each in turn, for one EB period. -/
def State.scanChannel (s : State) (n : Nat) : Nat :=
  let i := (s.ns3 - (s.port (n + 4)).scanAt) / s.ebPeriod n % s.getF (Reg.RAD_HOP_CFG_LEN n)
  bitsOf (s.getF (Reg.RAD_HOP_CHANNELS n (i / 4))) (8 * (i % 4) + 7) (8 * (i % 4))

/-- R269, R277: the port acts in a cell that begins at timeslot `a`: an EB, a frame to send, or a receive window. On a channel in no budget entry nothing is sent, and the cell is
counted. -/
def State.runCell (s : State) (n chan a : Nat) (l : Link) (ls : List Link) (ccaBusy : Bool) : State :=
  let k := n + 4
  let silent := s.track k || (s.member k && (s.nodeStateOf k == 5 || s.nodeStateOf k ≤ 1))
  let eb := s.coordinates k && s.ebCell n l a
  let s := if eb then s.setPort k { s.port k with next := s.ns3 + s.ebPeriod n, period := s.ebPeriod n } else s
  let s := if l.rx || (!s.coordinates k && l.adv) then s.openWindow n (s.tb1 + 1020000) (s.tb1 + 3220000) else s
  if silent || !(eb || l.tx) then s
  else if (s.entriesOf n chan).isEmpty then s.count (Reg.RAD_OUT_OF_BAND_CNT_CNT n)
  else if eb then s.sendEb n chan (s.tb1 + 2120000) a l.len
  else s.runTx n chan a l ls ccaBusy

/-- R265–R269, R273, R274, R277: a timeslot begins: the cell is chosen, the transceiver tuned and the slot run; a port that scans or is LOST keeps its receiver open instead, on the channel
of its scan or of the last EB heard. `ccaBusy`: the energy measured in a shared cell passes CCA_THR. -/
def execRadTimeslotStart (port : Fin 4) (ccaBusy : Bool) (s : State) : Host.Outcome State Fault Refusal :=
  let n := port.val
  let k := n + 4
  let a := s.asn n
  let p := s.port k
  if !s.portOn k then idle s
  else if !s.coordinates k ∧ s.nodeStateOf k ≤ 1 then .next (s.tune n (s.scanChannel n))
  else if !s.asnRuns n ∨ p.slotLast = some a then idle s
  else if !s.coordinates k ∧ s.nodeStateOf k = 5 then
    .next ((s.setPort k { p with slotLast := some a, cell := none }).tune n ((p.ebChan.or p.chan).getD 0))
  else
    let ls := s.links n
    let here := ls.filter (fun l => s.getF (Reg.RAD_SF_LEN_LEN n l.sf) != 0 && a % s.getF (Reg.RAD_SF_LEN_LEN n l.sf) == l.slot)
    let s := (s.setPort k { p with slotLast := some a }).rollFirst n
    if p.cell.isSome ∧ a < p.cellEnd then .next (s.count (Reg.RAD_SKIP_CNT_CNT n) here.length)
    else match pickLink p.out ls here with
    | none => .next (s.setPort k { s.port k with cell := none })
    | some l =>
      let chan := s.cellChannel n l a
      let s := (s.count (Reg.RAD_SKIP_CNT_CNT n) (here.length - 1)).tune n chan
      .next ((s.setPort k { s.port k with cell := some (bitIf l.shared 0, a), cellEnd := a + l.len }).runCell n chan a l ls ccaBusy)

/-! ## Reception -/

/-- A received frame: type, security, acknowledgement request, sequence number, PAN, addresses (short or extended), and where its auxiliary header or payload starts. -/
structure RadHead where
  type : Nat
  sec : Bool
  ar : Bool
  ie : Bool
  dsn : Nat
  pan : Nat
  dst : Nat
  src : Nat
  off : Nat
  deriving DecidableEq, Repr

/-- The length of an address of a mode. -/
def addrLen (mode : Nat) : Nat := if mode = 2 then 2 else if mode = 3 then 8 else 0

/-- Read the header of a frame. -/
def readRadHead (b : Bytes) : RadHead :=
  let f := leAt b 0 2
  let dm := addrLen (bitsOf f 11 10)
  let sm := addrLen (bitsOf f 15 14)
  let o := 3
  let pan := if dm = 0 ∧ (sm = 0 ∨ bitAt f 6 = 1) then 0 else 2
  ⟨bitsOf f 2 0, bitAt f 3 == 1, bitAt f 5 == 1, bitAt f 9 == 1, leAt b 2 1, leAt b o pan, leAt b (o + pan) dm, leAt b (o + pan + dm) sm, o + pan + dm + sm⟩

/-- R275: open a secured frame: the payload, or none where it is dropped. `ies` bytes of header IEs follow the auxiliary header. -/
def State.unsecure (s : State) (n asn ext : Nat) (h : RadHead) (ies : Nat) (b : Bytes) : Option Bytes :=
  let level := s.getF (Reg.RAD_SEC_CFG_LEVEL n)
  if level = 0 then if h.sec then none else some (b.drop (h.off + ies))
  else
    let m := micLen level
    let hd := b.take (h.off + 2 + ies)
    let c := b.drop (h.off + 2 + ies)
    if !h.sec ∨ bitsOf (leAt b h.off 1) 4 0 ≠ level + 8 ∨ c.length < m then none
    else match s.radRxKey n (leAt b (h.off + 1) 1) with
    | none => none
    | some key =>
      let nonce := radNonce ext asn
      let body := c.take (c.length - m)
      let mic := c.drop (c.length - m)
      if 4 ≤ level then
        let p := ccmCrypt key nonce body
        if ccmMic key nonce hd p m = mic then some p else none
      else if ccmMic key nonce (hd ++ body) [] m = mic then some body else none

/-- R275: a frame fails link security. -/
def State.micFail (s : State) (n : Nat) : State := (s.count (Reg.RAD_MIC_FAIL_CNT_CNT n)).irq (Reg.RAD_IRQ_MIC_FAIL n)

/-- R265, R274: a time correction (µs, 12 bits, signed) from the time source of a MEMBER or TRACK port. -/
def State.correct (s : State) (n corr : Nat) : State :=
  let o := signedOf 32 (s.getF (Reg.RAD_SYNC_OFS_NS n)) + signedOf 12 corr * 1000
  (s.setF (Reg.RAD_SYNC_OFS_NS n) (unsignedOf 32 o)).setPort (n + 4) { s.port (n + 4) with evidence := s.ns3 }

/-- R265, R269: the header IEs at the start of a byte string: the bytes that they take, up to a termination IE, and the time correction among them. -/
def headerIes : Nat → Bytes → Nat × Option Nat
  | 0, _ => (0, none)
  | fuel + 1, b =>
    if b.length < 2 ∨ bitAt (leAt b 0 2) 15 = 1 then (0, none)
    else
      let len := 2 + leAt b 0 2 % 128
      let id := leAt b 0 2 / 128 % 256
      if id = 0x7E ∨ id = 0x7F then (len, none)
      else
        let (m, c) := headerIes fuel (b.drop len)
        (len + m, if id = 0x1E then some (leAt b 2 2 % 4096) else c)

/-- The header IEs of a frame, which stand behind its auxiliary security header. -/
def radIes (h : RadHead) (b : Bytes) : Nat × Option Nat := if h.ie then headerIes b.length (b.drop (h.off + (if h.sec then 2 else 0))) else (0, none)

/-- R265: a good frame of the time source with a time correction corrects a port that follows it. -/
def State.takeCorrection (s : State) (n src : Nat) (c : Option Nat) : State :=
  match c with
  | some x => if !s.coordinates (n + 4) ∧ src = 0 then s.correct n x else s
  | none => s

/-- R269, R272: an Enh-ACK for the frame that the port awaits. The backoff window is reset by a success in a shared cell, or in another once nothing waits. -/
def State.radAcked (s : State) (n : Nat) (h : RadHead) (b : Bytes) : State :=
  let k := n + 4
  let p := s.port k
  match p.wait with
  | some (t, _) =>
    if h.dsn ≠ t.seq then s
    else
      let ext := match s.portNode k t.dst with | some x => x.id | none => 0
      let (ies, c) := radIes h b
      match s.unsecure n (s.cellAsn n) ext h ies b with
      | none => s.micFail n
      | some _ =>
        let shared := match p.cell with | some (f, _) => f == 1 | none => false
        let s := ((s.setPort k { p with wait := none, cw := if shared || p.out.isEmpty then 0 else p.cw }).hear k t.dst).txDone k t 0
        s.takeCorrection n t.dst c
  | none => s

/-- R265: a TRACK port overhears an Enh-ACK; one that its time source has sent corrects it. -/
def State.ackHeard (s : State) (n : Nat) (h : RadHead) (b : Bytes) : State :=
  let (ies, c) := radIes h b
  match s.unsecure n (s.cellAsn n) ((s.portNode (n + 4) 0).elim 0 (·.id)) h ies b with
  | none => s
  | some _ => s.takeCorrection n 0 c

/-- R269: the port owes an Enh-ACK, 1.0 ms after the frame. -/
def State.oweEnhAck (s : State) (n src dsn corr : Nat) : State := s.setPort (n + 4) { s.port (n + 4) with ack := some ⟨src, dsn, s.tb1 + 1000000, corr⟩ }

/-- R253, R270, R279: an opened data frame addressed to the port, which does not track. Does the port owe an ACK for it? -/
def State.radTaken (s : State) (n src dsn : Nat) (p : Bytes) : State × Bool :=
  let k := n + 4
  let s := s.hear k src
  if leAt p 0 1 = 1 then s.takeMeter k src dsn (p.drop 1)
  else if leAt p 0 1 = 0x12 ∧ s.member k then (s.nodeState k 1, true)
  else (s, true)

/-- R270, R275, R279, R280: a good data frame, opened. `corr` is how far the frame came from where it was expected. A TRACK port hands it to the active, and one addressed to another port
brings nothing else. -/
def State.radData (s : State) (n : Nat) (h : RadHead) (corr : Nat) (mine : Bool) (p : Bytes) : State :=
  let k := n + 4
  if s.track k then
    let s := (s.hear k h.src).forwardFrame k h.src h.dsn ([1] ++ p)
    if mine && leAt p 0 1 == 0x12 then s.nodeState k 1 else s
  else if mine then
    let (t, ack) := s.radTaken n h.src h.dsn p
    if ack && h.ar then t.oweEnhAck n h.src h.dsn corr else t
  else s

/-- R315: a frame that the partner's port of this number heard is taken as if this port had heard it: its type, then what it carries (log entry 108). The time for its ACK has passed. -/
def State.radForwarded (s : State) (n link seq : Nat) (b : Bytes) : State :=
  let k := n + 4
  if !s.portOn k ∨ s.track k then s
  else if leAt b 0 1 = 1 then (s.radTaken n link seq (b.drop 1)).1
  else if leAt b 0 1 = 3 ∧ s.coordinates k then s.decideJoin k (leAt b 1 8)
  else s

/-- R253, R271, R274: an Association Response to this MEMBER. -/
def State.associated (s : State) (n : Nat) (p : Bytes) : State :=
  if leAt p 0 1 ≠ 2 ∨ s.nodeStateOf (n + 4) ≠ 2 then s
  else if leAt p 3 1 = 0 then (s.setF (Reg.RAD_SHORT_ADDR_ADDR n) (leAt p 1 2)).nodeState (n + 4) 3
  else s.nodeState (n + 4) 1

/-- R270, R275: a PSDU with a good FCS. -/
def State.radFrame (s : State) (n : Nat) (b : Bytes) (corr : Nat) : State :=
  let k := n + 4
  let h := readRadHead b
  let me := if s.member k then s.getF (Reg.RAD_SHORT_ADDR_ADDR n) else 0
  let ext := match s.portNode k h.src with | some x => x.id | none => 0
  let (ies, c) := radIes h b
  let mine := h.dst == me || h.dst == 0xFFFF
  if h.type = 2 then (if s.track k then s.ackHeard n h b else s.radAcked n h b)
  else if h.pan ≠ s.getF (Reg.RAD_PAN_PANID n) then s
  else if h.type = 1 ∧ (mine ∨ s.track k) then
    match s.unsecure n (s.cellAsn n) ext h ies b with
    | none => s.micFail n
    | some p => (s.takeCorrection n h.src c).radData n h corr mine p
  else if h.type = 3 ∧ s.member k ∧ h.dst = (Config.radExtAddr n).toNat then
    match s.unsecure n (s.cellAsn n) ext h ies b with
    | none => s.micFail n
    | some p => s.associated n p
  else s

/-- R264, R269, R270, R275: a frame has reached a radio port, whose receiver was open when it began; `corr` is the difference between the expected and the actual arrival in µs, as the
Enh-ACK reports it, `fec` and `modeSwitch` whether its PHR requests FEC or a mode switch, which drops it. -/
def execRadFrameRx (port : Fin 4) (psdu : Bytes) (corr : BitVec 12) (fec : Bool) (modeSwitch : Bool) (s : State) : Host.Outcome State Fault Refusal :=
  let n := port.val
  let b := psdu.take (psdu.length - s.fcsLen n)
  if !s.portOn (n + 4) ∨ psdu.length < 3 + s.fcsLen n ∨ 2047 < psdu.length ∨ fec ∨ modeSwitch ∨ !s.radHears n (s.tb1 - s.airtime n psdu.length) then idle s
  else if b ++ s.fcs n b ≠ psdu then .next (s.count (Reg.RAD_RX_FCS_CNT_CNT n))
  else .next (s.radFrame n b corr.toNat)

/-- R269, R270: at TsTxAckDelay the receiver sends the Enh-ACK, if the budget allows. -/
def execRadEnhAckSend (port : Fin 4) (s : State) : Host.Outcome State Fault Refusal :=
  let n := port.val
  let k := n + 4
  let p := s.port k
  match p.ack with
  | some a =>
    if !s.portOn k ∨ s.track k ∨ s.tb1 < a.due then idle s
    else
      let s := (s.setPort k { p with ack := none }).rollFirst n
      let level := s.getF (Reg.RAD_SEC_CFG_LEVEL n)
      let hd := radFcf 2 (min level 1) 0 1 0 0 ++ [BitVec.ofNat 8 a.seq]
      match s.secure n level (s.cellAsn n) hd (leBytes 2 0x0F02 ++ leBytes 2 a.corr) [] with
      | none => .next s
      | some b =>
        let psdu := b ++ s.fcs n b
        let chan := p.chan.getD 0
        let ms := (s.airtime n psdu.length + 999999) / 1000000
        if (s.entriesOf n chan).isEmpty then .next (s.count (Reg.RAD_OUT_OF_BAND_CNT_CNT n))
        else if !s.budgetAllows n chan ms false then .next (s.count (Reg.RAD_DEFER_CNT_CNT n))
        else .next (((s.radOut n s.tb1 psdu).count (Reg.RAD_TX_CNT_CNT n)).charge n chan ms)
  | none => idle s

/-- R272: no ACK in time: the frame waits for a later cell, in a shared cell with a backoff drawn from a wider window, or is dropped after the last attempt. -/
def execRadAckTimeout (port : Fin 4) (s : State) : Host.Outcome State Fault Refusal :=
  let n := port.val
  let k := n + 4
  let p := s.port k
  match p.wait with
  | some (t, at_) =>
    if s.tb1 < at_ then idle s
    else
      let shared := match p.cell with | some (f, _) => f == 1 | none => false
      let be := min (s.getF (Reg.RAD_ACCESS_CFG_BE_MIN n) + p.cw) (s.getF (Reg.RAD_ACCESS_CFG_BE_MAX n))
      let cw := if shared then p.cw + 1 else p.cw
      if 1 + s.getF (Reg.RAD_ACCESS_CFG_RETRY_MAX n) ≤ t.attempts then .next ((s.setPort k { p with wait := none, cw := cw }).txDone k t 2)
      else if shared then
        let (w, s) := s.drawWord
        .next (s.setPort k { p with wait := none, cw := cw, out := { t with backoff := some (w.toNat % 2 ^ be) } :: p.out })
      else .next (s.setPort k { p with wait := none, out := t :: p.out })
  | none => idle s

/-! ## Joins and the states that follow a coordinator -/

/-- R271, R315: an Association Request is decided; a TRACK port hands it to the active. -/
def execRadAssocReq (port : Fin 4) (ident : BitVec 64) (s : State) : Host.Outcome State Fault Refusal :=
  let k := port.val + 4
  if !s.portOn k then idle s
  else if s.track k then .next (s.forwardFrame k 0xFFFE 0 ([3] ++ leBytes 8 ident.toNat))
  else if s.coordinates k then .next (s.decideJoin k ident.toNat)
  else idle s

/-- R271: a member not heard for AGE_H hours is removed. -/
def execRadNodeAge (port : Fin 4) (addr : BitVec 16) (s : State) : Host.Outcome State Fault Refusal :=
  let k := port.val + 4
  if s.portOn k then .next (s.ageNode k addr.toNat) else idle s

/-- R253, R271: a MEMBER asks to join. -/
def State.askToJoin (s : State) (k : Nat) : State := s.toSend k { dst := 0, mtype := 0x101, body := [0x80], prio := 2, ackReq := true }

/-- R265, R274: an EB of the port's PAN, with good FCS and MIC, from the coordinator with extended address `src`; it was sent in timeslot `asn`, which
began `since` ns ago. -/
def execRadEbRx (port : Fin 4) (panid : BitVec 16) (src : BitVec 64) (asn : BitVec 40) (since : Word) (s : State) :
    Host.Outcome State Fault Refusal :=
  let n := port.val
  let k := n + 4
  if !s.portOn k ∨ s.coordinates k ∨ panid.toNat ≠ s.getF (Reg.RAD_PAN_PANID n) then idle s
  else
    let st := s.nodeStateOf k
    let e : Int := (s.getF (Reg.RAD_ASN_EPOCH_LO_SEC n) + s.getF (Reg.RAD_ASN_EPOCH_HI_SEC n) * 2 ^ 32) * nsPerS
    let ofs := (s.ns3 : Int) - since.toNat - (e + asn.toNat * slotNs)
    let s := s.setF (Reg.RAD_SYNC_OFS_NS n) (unsignedOf 32 ofs)
    let s := s.putNode k 0 (some { (s.portNode k 0).getD {} with id := src.toNat, joined := true, heardAt := s.tb1 })
    let s := s.setPort k { s.port k with evidence := s.ns3, ebChan := (s.port k).chan }
    let s := if s.track k then s.forwardFrame k 0 0 ([0] ++ leBytes 5 asn.toNat) else s
    if st ≤ 1 then
      let s := s.hearBeacon k (s.ns3 + s.ebPeriod n) (s.ebPeriod n) (if s.track k then 3 else 2)
      .next (if s.track k then s else s.askToJoin k)
    else if st = 2 then
      let p := s.port k
      let again := 3 ≤ p.missed + 1
      let s := s.setPort k { p with next := s.ns3 + s.ebPeriod n, period := s.ebPeriod n, missed := if again then 0 else p.missed + 1 }
      .next (if again then s.askToJoin k else s)
    else .next (s.hearBeacon k (s.ns3 + s.ebPeriod n) (s.ebPeriod n) 3)

/-- R253, R274: the end of an EB period without an EB. A time correction heard in it counts; else the period is missed. -/
def execRadEbMiss (port : Fin 4) (s : State) : Host.Outcome State Fault Refusal :=
  let n := port.val
  let k := n + 4
  let p := s.port k
  let st := s.nodeStateOf k
  if !s.portOn k ∨ s.coordinates k ∨ st < 2 ∨ s.ns3 < p.next then idle s
  else if p.next < p.evidence + p.period ∧ 3 ≤ st ∧ st ≤ 4 then
    .next ((s.setPort k { p with next := p.next + p.period, missed := 0 }).nodeState k 3)
  else
    let s := s.missBeacon k
    if st = 2 ∧ 3 ≤ (s.port k).missed then .next ((s.setPort k { s.port k with missed := 0 }).askToJoin k) else .next s

/-! ## Budgets and what the chip sends -/

/-- R276: 60 s of TB1 have passed: the oldest bucket is cleared and becomes the current one. -/
def execRadBudgetBucketRoll (port : Fin 4) (s : State) : Host.Outcome State Fault Refusal :=
  let n := port.val
  if s.flag (Reg.RAD_CTRL_ENABLE n) ∧ s.bucketsDue n ≠ 0 then .next (s.rollBuckets n 1) else idle s

/-- R278: downlink items deferred for longer than MAX_WAIT_S complete as BUDGET. -/
def execRadDlMaxWait (port : Fin 4) (s : State) : Host.Outcome State Fault Refusal :=
  let n := port.val
  let k := n + 4
  let p := s.port k
  let late (t : PortTx) : Bool := t.tag.isSome && (match t.deferAt with
    | some a => decide (a + s.getF (Reg.RAD_DL_CFG_MAX_WAIT_S n) * nsPerS < s.tb1)
    | none => false)
  .next ((p.out.filter late).foldl (fun s t => s.txDone k t 6) (s.setPort k { p with out := p.out.filter (fun t => !late t) }))

/-- R279: the port takes an acknowledgement item. -/
def execRadAppAckSend (port : Fin 4) (parity : Nat) (s : State) : Host.Outcome State Fault Refusal :=
  if s.portOn (port.val + 4) ∨ (s.domOn .field ∧ s.flag (Reg.RAD_CTRL_FENCE port.val)) then .next (s.portAck (port.val + 4) parity) else idle s

/-- R279: the port takes a downlink item; software may write one with the command. -/
def execRadDownlinkItem (port : Fin 4) (sub : Option Submission) (s : State) : Host.Outcome State Fault Refusal :=
  .next (s.portDownlink (port.val + 4) sub (fun t a len ack => t.radFits port.val (if t.member (port.val + 4) then 0 else a) len ack))

/-! ## Fencing and raw access -/

/-- R280: `RADn.CTRL.FENCE` becomes 1. A frame in progress is completed only where it ends within its cell. -/
def State.radFence (s : State) (n : Nat) : State :=
  if s.flag (Reg.RAD_CTRL_FENCE n) then s else (s.setF (Reg.RAD_CTRL_FENCE n) 1).fencePort (n + 4)

/-- R280: `RADn.CTRL.FENCE` becomes 0: the port resumes at the next timeslot. -/
def State.radUnfence (s : State) (n : Nat) : State :=
  if !s.flag (Reg.RAD_CTRL_FENCE n) then s
  else (s.setF (Reg.RAD_CTRL_FENCE n) 0).setPort (n + 4) { s.port (n + 4) with slotLast := some (s.asn n) }

/-- R253, R276: `RADn.CTRL.ENABLE` becomes 1. -/
def State.radEnable (s : State) (n : Nat) : State :=
  (s.startBuckets n).nodeState (n + 4) (if s.coordinates (n + 4) then 0 else 1)

/-- R280: a write of 1 to `RADn.CTRL.FENCE`. -/
def execRadFence (req : Req) (port : Fin 4) (s : State) : Host.Outcome State Fault Refusal :=
  .next (s.onT req (Reg.RAD_CTRL_FENCE port.val) 1 fun s => s.radFence port.val)

/-- R280: a write of 0 to `RADn.CTRL.FENCE`. -/
def execRadUnfence (req : Req) (port : Fin 4) (s : State) : Host.Outcome State Fault Refusal :=
  .next (s.onT req (Reg.RAD_CTRL_FENCE port.val) 0 fun s => s.radUnfence port.val)

/-- R263: a write of `SPI_RAW` sends a word to the transceiver, whose reply a read gives; refused while the port is enabled. -/
def execRadSpiRaw (req : Req) (port : Fin 4) (word : Word) (reply : Word) (s : State) : Host.Outcome State Fault Refusal :=
  let n := port.val
  .next (s.onField req (Reg.RAD_SPI_RAW_WORD n) fun s =>
    if s.flag (Reg.RAD_CTRL_ENABLE n) then s.refuseAt req (Reg.RAD_SPI_RAW_WORD n) Err.valueRefused
    else (s.emit (16 + n) (beBytes 4 word.toNat)).setF (Reg.RAD_SPI_RAW_WORD n) reply.toNat)

end Sys2Proof.Machine
end

