-- ==== Sys2Proof/Machine/Ptp.lean ====
section
/-! DEFINITION. What the PTP engine does to messages and frames (R216–R218): where a message stands in a frame, its stamps and its corrections. A message is its bytes from the PTP header on, laid out as IEEE 1588-2019, which the rules name. -/

namespace Sys2Proof.Machine

/-! ## Frames -/

/-- The EtherType of a frame, behind any 802.1Q tag, and the offset of what follows it. -/
def etherType (b : Bytes) : Nat × Nat := if beAt b 12 2 = 0x8100 then (beAt b 16 2, 18) else (beAt b 12 2, 14)

/-- The UDP header of a frame: version 6?, the offset of the IP header, the offset of the UDP header. -/
def udpAt (b : Bytes) : Option (Bool × Nat × Nat) :=
  let (t, o) := etherType b
  if t = 0x0800 ∧ leAt b (o + 9) 1 = 17 then some (false, o, o + leAt b o 1 % 16 * 4)
  else if t = 0x86DD ∧ leAt b (o + 6) 1 = 17 then some (true, o, o + 40)
  else none

/-- A UDP datagram in a frame: version 6?, source address, destination address, ports, payload. -/
structure Udp where
  v6 : Bool
  src : Bytes
  dst : Bytes
  sport : Nat
  dport : Nat
  data : Bytes
  deriving DecidableEq, Repr

/-- Read the UDP datagram of a frame. -/
def readUdp (b : Bytes) : Option Udp :=
  (udpAt b).map fun (v6, o, h) =>
    let (src, dst) := if v6 then (slice b (o + 8) 16, slice b (o + 24) 16) else (slice b (o + 12) 4, slice b (o + 16) 4)
    ⟨v6, src, dst, beAt b h 2, beAt b (h + 2) 2, slice b (h + 8) (beAt b (h + 4) 2 - 8)⟩

/-- R216: the offset of the PTP message of a frame. -/
def ptpAt (b : Bytes) : Option Nat :=
  let (t, o) := etherType b
  if t = 0x88F7 then some o
  else match udpAt b with
    | some (_, _, h) => if beAt b (h + 2) 2 = 319 ∨ beAt b (h + 2) 2 = 320 then some (h + 8) else none
    | none => none

/-- R216: the PTP message of a frame. -/
def ptpPart (b : Bytes) : Option Bytes :=
  (ptpAt b).map fun o => match readUdp b with
    | some u => if (etherType b).1 = 0x88F7 then b.drop o else u.data
    | none => b.drop o

/-- R216: is a frame a PTP message? -/
def isPtp (b : Bytes) : Bool := (ptpPart b).isSome

/-! ## Messages -/

/-- IEEE 1588: the type of a message: 0 Sync, 1 Delay_Req, 2 Pdelay_Req, 3 Pdelay_Resp; from 8 on general messages. -/
def ptpType (m : Bytes) : Nat := leAt m 0 1 % 16

/-- IEEE 1588: the twoStepFlag. -/
def ptpTwoStep (m : Bytes) : Bool := bitAt (leAt m 6 1) 1 == 1

/-- IEEE 1588: add to correctionField, in 2^−16 ns. -/
def ptpCorrect (m : Bytes) (d : Int) : Bytes := splice m 8 (beBytes 8 (unsignedOf 64 (signedOf 64 (beAt m 8 8) + d)))

/-- The 16-bit words of bytes, first byte high. -/
def words16 (b : Bytes) : List Nat := (List.range (b.length / 2)).map (fun i => beAt b (2 * i) 2)

/-- An Internet checksum after some of the bytes it covers have changed. -/
def sumAfter (c : Nat) (was now : Bytes) : Nat :=
  65535 - (65535 - c + ((words16 was).map (65535 - ·)).sum + (words16 now).sum) % 65535

/-- R217: add to correctionField of the PTP message of a frame, and update the UDP checksum where one is present. The FCS follows the frame as it leaves. -/
def ptpFix (b : Bytes) (d : Int) : Bytes :=
  match ptpAt b with
  | none => b
  | some o =>
    let b' := b.take o ++ ptpCorrect (b.drop o) d
    match udpAt b with
    | some (v6, _, h) =>
      if h + 8 ≠ o ∨ (!v6 ∧ beAt b (h + 6) 2 = 0) then b'
      else splice b' (h + 6) (beBytes 2 (sumAfter (beAt b (h + 6) 2) (slice b (o + 8) 8) (slice b' (o + 8) 8)))
    | none => b'

/-! ## Corrections and stamps -/

/-- R218: the delayAsymmetry of a port. -/
def State.ptpAsym (s : State) (p : Nat) : Int := signedOf 32 (s.getF (Reg.PTP_ASYM_ASYM p))

/-- R218: the correction of a message on the ingress of a port. -/
def State.ptpIngress (s : State) (p : Nat) (m : Bytes) : Bytes :=
  if p < 3 ∧ (ptpType m = 0 ∨ ptpType m = 3) then ptpCorrect m (s.ptpAsym p) else m

/-- R218: the correction of a message on the egress of a port. -/
def State.ptpEgress (s : State) (p : Nat) (m : Bytes) : Bytes :=
  if p < 3 ∧ (ptpType m = 1 ∨ ptpType m = 2) then ptpCorrect m (-(s.ptpAsym p)) else m

/-- R218: a frame as it enters a port: a Sync or Pdelay_Resp is corrected. -/
def State.ptpEnters (s : State) (p : Nat) (b : Bytes) : Bytes :=
  match ptpPart b with
  | some m => if p < 3 ∧ (ptpType m = 0 ∨ ptpType m = 3) then ptpFix b (s.ptpAsym p) else b
  | none => b

/-- R218: a frame as it leaves a port: a Delay_Req or Pdelay_Req is corrected. -/
def State.ptpLeaves (s : State) (p : Nat) (b : Bytes) : Bytes :=
  match ptpPart b with
  | some m => if p < 3 ∧ (ptpType m = 1 ∨ ptpType m = 2) then ptpFix b (-(s.ptpAsym p)) else b
  | none => b

/-- R216: a TB0 instant as a port stamps it: P0–P2 at 0.5 ns, P3 at 10 ns; in units of 2^−16 ns. -/
def ptpGrain (p t : Nat) : Nat := if p = 3 then t / 655360 * 655360 else t / 32768 * 32768

/-- R216: TB0 as a port stamps it. -/
def State.ptpNow (s : State) (p : Nat) : Nat := ptpGrain p s.tb0

/-- R217: does a port take part in the transparent clock? -/
def State.tcPort (s : State) (p : Nat) : Bool := decide (p < 3) && s.flag (Reg.PTP_PCFG_TC_PORT p)

/-- R216: does the engine stamp the event messages of a port? -/
def State.ptpStamps (s : State) (p : Nat) : Bool := s.flag Reg.PTP_CTRL_ENABLE && s.flag (Reg.PTP_PCFG_EN p)

/-- R217: the residence time of a frame that passed the ingress port's medium boundary `ago` before now: the egress stamp less the ingress stamp, in 2^−16 ns. -/
def State.residence (s : State) (i o ago : Nat) : Nat :=
  s.ptpNow o + s.getF (Reg.PTP_EGR_LAT_LAT o) - (ptpGrain i (s.tb0 - ago) - s.getF (Reg.PTP_ING_LAT_LAT i))

/-- A full-time stamp as bytes: seconds (6), nanoseconds (4), fraction (2), little-endian. -/
def stampBytes (t : Nat) : Bytes := leBytes 6 (t / 65536 / nsPerS) ++ leBytes 4 (t / 65536 % nsPerS) ++ leBytes 2 (t % 65536)

/-- R216, R231: a transmit stamp as an item of the stamp queue. -/
def stampItem (p : Nat) (m : Bytes) (t : Nat) : Bytes :=
  leBytes 4 (p + ptpType m * 256 + beAt m 30 2 * 65536) ++ leBytes 4 (t / 65536 / nsPerS) ++ leBytes 4 (t / 65536 % nsPerS) ++ leBytes 4 (t % 65536)

/-- R216, R284: a message goes to the software receive queue, an event message with its stamp where the port stamps. -/
def State.ptpToCpu (s : State) (p : Nat) (m : Bytes) : State :=
  let t := s.ptpNow p - s.getF (Reg.PTP_ING_LAT_LAT p)
  if !s.hasCredit 0x141 then s
  else if s.ptpStamps p && decide (ptpType m < 4) then s.enq 0x141 { body := .bytes (s.ptpIngress p m ++ stampBytes t ++ leBytes 1 p) }
  else s.enq 0x141 { body := .bytes (s.ptpIngress p m) }

end Sys2Proof.Machine
end

