-- ==== Sys2Proof/Machine/Uplink.lean ====
section
/-! DEFINITION. The uplinks (R282–R304): the switch, the CPU port's classes, batches and their acknowledgements, software frames, PRP, link changes, the PCIe rings and the MDIO interface. A frame is its bytes from the destination address on, without FCS. -/

namespace Sys2Proof.Machine

/-! ## Frames and ports -/

/-- An address held in two registers, its first bytes in the high one, first byte in bits 7:0. -/
def State.macOf (s : State) (hi lo : Field) : Bytes := leBytes 2 (s.getF hi) ++ leBytes 4 (s.getF lo)

/-- R282, R302: does a port send and receive? -/
def State.ethUp (s : State) (n : Nat) : Bool :=
  s.flag (Reg.ETHP_CTRL_ENABLE n) && !s.flag (Reg.ETHP_CTRL_FENCE n) && s.flag (Reg.ETHP_STAT_LINK n) &&
    (if n = 3 then s.mode != .dormant && s.mode != .backup else s.domOn .port)

/-- R282, R302: is a frame, with its FCS of 4 bytes, longer than the port takes? DESIGN CHOICE (log entry 114): the spec does not say what becomes of such a frame;
it is neither received nor sent. -/
def State.tooBig (s : State) (n : Nat) (b : Bytes) : Bool := decide (s.getF (Reg.ETHP_MAX_FRAME_BYTES n) < b.length + 4)

/-- R283: the egress queue of a frame, by the PCP of its 802.1Q tag; one without a tag has PCP 0. -/
def frameQueue (b : Bytes) : Nat := if beAt b 12 2 = 0x8100 then leAt b 14 1 / 64 else 0

/-- How long a frame holds its port, in ns: with FCS, preamble and gap, at the speed of the link. -/
def State.wireNs (s : State) (n : Nat) (b : Bytes) : Nat :=
  (b.length + 24) * (match s.getF (Reg.ETHP_STAT_SPEED n) with | 0 => 8000 | 1 => 800 | 2 => 80 | _ => 8) / 10

/-- R283: is a port free: has its last frame passed? -/
def State.portFree (s : State) (n : Nat) : Bool := decide (sget 0 s.uplink.freeAt n ≤ s.tb1)

/-- A frame leaves on a port at once; a PTP message takes the port's correction (R218). -/
def State.ethNow (s : State) (n : Nat) (b : Bytes) : State :=
  if s.ethUp n && !s.tooBig n b then
    let t := (s.emit (8 + n) (s.ptpLeaves n b)).count (Reg.ETHP_TX_OK_CNT_CNT n)
    { t with uplink := { t.uplink with freeAt := sput 0 t.uplink.freeAt n (t.tb1 + t.wireNs n b) } }
  else s

/-- R283: a frame leaves on a port, at once where the port is free, else from its egress queue. -/
def State.ethSend (s : State) (n : Nat) (b : Bytes) : State :=
  if s.portFree n && !s.uplink.egress.any (fun x => x.port == n) then s.ethNow n b
  else if s.ethUp n then { s with uplink := { s.uplink with egress := s.uplink.egress ++ [⟨n, frameQueue b, b⟩] } }
  else s

/-- R283: the frame that leaves a port next: the first of its highest egress queue that holds one. -/
def State.egressNext (s : State) (n : Nat) : Option EthWait :=
  [3, 2, 1, 0].findSome? (fun q => s.uplink.egress.find? (fun x => x.port == n && x.queue == q))

/-- R283: a port that has come free takes its next frame. What waits for a port that has gone down is dropped (log). -/
def State.drainPort (s : State) (n : Nat) : State :=
  if !s.ethUp n then { s with uplink := { s.uplink with egress := s.uplink.egress.filter (fun x => x.port != n) } }
  else if !s.portFree n then s
  else match s.egressNext n with
    | some x => ({ s with uplink := { s.uplink with egress := s.uplink.egress.erase x } } : State).ethNow n x.frame
    | none => s

/-- R283: the ports take what waits for them. -/
def State.egressTick (s : State) : State := if s.uplink.egress.isEmpty then s else (List.range 4).foldl State.drainPort s

/-- R289: a frame with its redundancy control trailer. -/
def withRct (b : Bytes) (seq lan : Nat) : Bytes :=
  let size := b.length - (etherType b).2 + 6
  b ++ beBytes 2 (seq % 65536) ++ beBytes 2 (lan * 4096 + size % 4096) ++ beBytes 2 0x88FB

/-- R289: does a frame that leaves PA carry no trailer? -/
def State.bare (s : State) (b : Bytes) : Bool := !s.flag Reg.PRP_CTRL_ENABLE || isPtp b || (etherType b).1 == 0x88B5

/-- R289: a frame leaves PA on some LANs (bit 0 A, bit 1 B) with a sequence number. -/
def State.paSend (s : State) (b : Bytes) (lans seq : Nat) : State :=
  let f (lan : Nat) : Bytes := if s.bare b then b else withRct b seq lan
  let s := if bitAt lans 0 = 1 then s.ethSend 0 (f 0xA) else s
  if bitAt lans 1 = 1 then s.ethSend 1 (f 0xB) else s

/-- R289: a local frame leaves PA as `TX_LANS` says, with the next sequence number. -/
def State.paLocal (s : State) (b : Bytes) : State :=
  let lans := match s.getF Reg.PRP_CTRL_TX_LANS with | 1 => 1 | 2 => 2 | _ => 3
  let n := s.getF Reg.PRP_SEQ_NEXT_SEQ
  let t := s.paSend b lans n
  if s.bare b then t else t.setF Reg.PRP_SEQ_NEXT_SEQ (n + 1)

/-- A frame leaves the switch on one of its ports: 0 PA, 1 P2, 2 P3. -/
def State.swSend (s : State) (port : Nat) (b : Bytes) : State := if port = 0 then s.paLocal b else s.ethSend (port + 1) b

/-! ## The switch -/

/-- R283: may frames go from one switch port to another? The CPU port (3) may send to all. -/
def State.mayForward (s : State) (a b : Nat) : Bool :=
  a != b && (a == 3 || (
    let m := s.getF Reg.ETH_FWD_MASK_PAIRS
    if (a = 0 ∧ b = 1) ∨ (a = 1 ∧ b = 0) then bitAt m 0 == 1
    else if (a = 0 ∧ b = 2) ∨ (a = 2 ∧ b = 0) then bitAt m 1 == 1 else bitAt m 2 == 1))

/-- The learned port of an address. -/
def State.learned (s : State) (mac : Nat) : Option MacEntry := sget none s.uplink.macs mac

/-- R283: learn a source address; when the table is full it is not learned. -/
def State.learnMac (s : State) (mac port : Nat) : State :=
  if (s.learned mac).isNone ∧ 2048 ≤ s.uplink.macs.length then s
  else { s with uplink := { s.uplink with macs := sput none s.uplink.macs mac (some ⟨port, s.tb1⟩) } }

/-- The chip ports of a switch port. -/
def portsOf (p : Nat) : List Nat := match p with | 0 => [0, 1] | 1 => [2] | 2 => [3] | _ => []

/-- R217: is a PTP message between two switch ports for the transparent clock? It takes the command that forwards it there. -/
def State.tcTakes (s : State) (a b : Nat) (frame : Bytes) : Bool :=
  s.flag Reg.PTP_CTRL_TC_EN && (portsOf a).any (fun n => s.tcPort n) && (portsOf b).any (fun n => s.tcPort n) &&
    (match ptpPart frame with
    | some m => decide (ptpType m < 4) || ptpType m == 10
    | none => false)

/-- R283: a frame goes out on the learned port, or on every port that its direction allows. -/
def State.switchOut (s : State) (from_ : Nat) (b : Bytes) : State :=
  let dst := beAt b 0 6
  let own := slice b 0 6 == s.macOf Reg.ETH_MAC_HI_MAC Reg.ETH_MAC_LO_MAC
  let outs := if own then [] else match s.learned dst with
    | some e => if s.mayForward from_ e.port then [e.port] else []
    | none => [0, 1, 2].filter (s.mayForward from_)
  (outs.filter (fun p => !s.tcTakes from_ p b)).foldl (fun s p => s.swSend p b) s

/-- R283: the switch takes a frame from one of its ports. -/
def State.switchIn (s : State) (from_ : Nat) (b : Bytes) : State :=
  let s := if bitAt (leAt b 6 1) 0 = 0 then s.learnMac (beAt b 6 6) from_ else s
  s.switchOut from_ b

/-- The switch port of a chip port. -/
def switchPort (n : Nat) : Nat := if n ≤ 1 then 0 else n - 1

/-- R291: a LAN carries a frame. -/
def State.lanHeard (s : State) (n : Nat) : State :=
  if n = 0 then { s with uplink := { s.uplink with lanAt := s.tb1 }, lanADown := false }
  else if n = 1 then { s with uplink := { s.uplink with lanBt := s.tb1 }, lanBDown := false }
  else s

/-- R302: does a port take a frame: is its FCS right, and is it not too long? A wrong FCS is counted. -/
def State.received (s : State) (n : Nat) (b : Bytes) (fcsBad : Bool) : State × Bool :=
  if fcsBad then (s.count (Reg.ETHP_RX_FCS_CNT_CNT n), false) else (s, !s.tooBig n b)

/-- R283, R302: a frame arrives on a port and is forwarded; `fcsBad`: its FCS is wrong. -/
def execSwitchForward (port : Fin 4) (frame : Bytes) (fcsBad : Bool) (s : State) : Host.Outcome State Fault Refusal :=
  let n := port.val
  if s.domOn .port ∧ s.flag Reg.ETH_CTRL_ENABLE ∧ s.ethUp n then
    let (s, ok) := s.received n frame fcsBad
    if !ok then .next s else .next (((s.settling fun s => s.lanHeard n).count (Reg.ETHP_RX_OK_CNT_CNT n)).switchIn (switchPort n) (s.ptpEnters n frame))
  else idle s

/-- R283: a learned address ages out. -/
def execSwitchAge (mac : BitVec 48) (s : State) : Host.Outcome State Fault Refusal :=
  match s.learned mac.toNat with
  | some e =>
    if e.heardAt + s.getF Reg.ETH_AGE_S_S * nsPerS ≤ s.tb1 then
      .next { s with uplink := { s.uplink with macs := sput none s.uplink.macs mac.toNat none } }
    else idle s
  | none => idle s

/-! ## The CPU port -/

/-- R284, R300: is an address of a version in the IP table? -/
def State.ipListed (s : State) (v6 : Bool) (a : Bytes) : Bool :=
  (List.range 4).any (fun i =>
    s.getF (Reg.ETH_IP_FLAGS_VALID.win 4 i) == 1 && (s.getF (Reg.ETH_IP_FLAGS_V6.win 4 i) == 1) == v6 &&
      ((List.range 4).flatMap (fun k => leBytes 4 (s.getF ((Reg.ETH_IP_DATA_ADDR k).win 4 i)))).take a.length == a)

/-- R285: the VALID source entry of an address and port. -/
def State.sourceOf (s : State) (u : Udp) : Option Nat :=
  (List.range 64).find? (fun c =>
    s.getF (Reg.ETH_SRC_CFG_VALID.win 5 c) == 1 && (s.getF (Reg.ETH_SRC_CFG_V6.win 5 c) == 1) == u.v6 &&
      s.getF (Reg.ETH_SRC_CFG_UDP.win 5 c) == u.sport &&
      ((List.range 4).flatMap (fun k => leBytes 4 (s.getF ((Reg.ETH_SRC_ADDR_ADDR k).win 5 c)))).take u.src.length == u.src)

/-- R284, R287: a batch is dropped. -/
def State.dropBatch (s : State) : State := (s.count Reg.ETH_BATCH_DROP_CNT_CNT).irq Reg.ETH_IRQ_BATCH_DROP

/-- R284: a frame for software. -/
def State.toSoftware (s : State) (b : Bytes) : State := if s.hasCredit 0x141 then s.enq 0x141 { body := .bytes b } else s

/-- R284: how many broadcasts have passed in the current TB1 second. -/
def State.bcNow (s : State) : Nat := if s.uplink.bcSec = s.tb1 / nsPerS then s.uplink.bcCnt else 0

/-- R284: does a datagram to a port of the batch path come from a VALID source of the KIND that the port wants? -/
def State.batchSource (s : State) (u : Udp) : Option (Nat × Nat) :=
  (s.sourceOf u).bind fun c =>
    let k := s.getF (Reg.ETH_SRC_CFG_KIND.win 5 c)
    if (u.dport = s.getF Reg.ETH_PORTS_ZCF ∧ k = 0) ∨ (u.dport = s.getF Reg.ETH_PORTS_WRAP ∧ k = 1) then some (c, k) else none

/-- R20, R284: a datagram to a port of the batch path: one of its sources, to an address of the IP table, brings a batch; `rest` is what becomes of one to another
address; one of any other source is dropped. -/
def State.cpuBatch (s : State) (u : Udp) (rest : State → State) : State :=
  match s.batchSource u with
  | some (c, k) =>
    if !s.ipListed u.v6 u.dst then rest s
    else if s.hasCredit 0x140 then s.enq 0x140 { body := .batch c k 0 0 u.data }
    else s.dropBatch
  | none => s.dropBatch

/-- R284: the CPU port classifies a frame. A frame for Kettle is served by the commands of R292, and a PTP event message by the command that
stamps it (R216). -/
def State.cpuIn (s : State) (port : Nat) (b : Bytes) : State :=
  let mine := slice b 0 6 == s.macOf Reg.ETH_MAC_HI_MAC Reg.ETH_MAC_LO_MAC || bitAt (leAt b 0 1) 0 == 1
  let bc := beAt b 0 6 == 0xFFFFFFFFFFFF
  let rest (s : State) : State :=
    if !bc then s.toSoftware b
    else
      let n := s.bcNow
      if s.getF Reg.ETH_CPU_BC_LIMIT_FPS ≤ n then s.count Reg.ETH_BC_DROP_CNT_CNT
      else { s with uplink := { s.uplink with bcSec := s.tb1 / nsPerS, bcCnt := n + 1 } }.toSoftware b
  if !mine then s
  else if isPtp b then match ptpPart b with
    | some m => if leAt m 0 1 % 16 < 4 then s else s.toSoftware b
    | none => s
  else match readUdp b with
    | some u =>
      if port = 3 ∧ u.dport = s.getF (Reg.ETHP_KSVC_PORT 3) then s
      else if u.dport = s.getF Reg.ETH_PORTS_ZCF ∨ u.dport = s.getF Reg.ETH_PORTS_WRAP then s.cpuBatch u rest
      else rest s
    | none => rest s

/-! ## Batches -/

/-- R287, R389, R399: does a slot hold a key of AES-256 that a Cleaver unit may use? DEDUCED (log entry 120): no unit is named for the tags of batches, so that any will do. -/
def KeySlot.forBatches (k : KeySlot) : Bool := k.key.length == 32 && (List.range 4).any (fun u => k.goes u)

/-- R287: is the tag of a KIND 0 datagram right? `e` is where its items end. -/
def State.batchTagOk (s : State) (c e : Nat) (b : Bytes) : Bool :=
  let k := s.slot (s.getF (Reg.ETH_SRC_CFG_SLOT.win 5 c))
  k.may Usage.macVer && k.forBatches && b.length == e + 16 && gcmTag k.key ([0, 0, 0, 0] ++ slice b 4 4 ++ beBytes 4 c) (b.take e) [] == b.drop e

/-- R288: a batch joins those that the CPU port tracks; with 256 tracked it is abandoned, and its frames go on without it. -/
def State.takeBatch (s : State) (x : Batch) (frames : List Bytes) : State :=
  let s := s.count Reg.ETH_BATCH_RX_CNT_CNT
  if 256 ≤ (s.uplink.batches.filter (fun e => e.2.any (fun b => b.kind != 2))).length then
    let s := (s.count Reg.ETH_ACK_ABANDON_CNT_CNT).irq Reg.ETH_IRQ_ACK_ABANDON
    s.waitParse 8 (frames.map (fun r => { raw := r, port := 8, link := x.conc }))
  else s.trackBatch x frames 8 x.conc

/-- R19, R67, R284: a datagram of the CPU-port receive queue is dropped: its queue credit returns. The meter frames of a poisoned one are counted. -/
def State.dropDatagram (s : State) (b : Bytes) (poison : Bool) : State :=
  let t := s.dropBatch.creditBack 0x140
  if poison then t.poisonBatch b else t

/-- R286, R287: the datagram at the front of the CPU-port receive queue is verified, and its items go to the header parser and the command
path. `parity` words of it fail their check (R55). -/
def execBatchRx (parity : Nat) (s : State) : Host.Outcome State Fault Refusal :=
  let s := s.faultFront 0x140 parity
  match (s.queue 0x140).items.head?, s.deqHeld 0x140 with
  | some { body := .batch c kind _ _ b, poison := bad }, some (_, s) =>
    if bad ≠ 0 then .next (s.dropDatagram b true)
    else if kind = 1 then
      if b.length < 9 ∨ b.length ≠ 8 + beAt b 6 2 then .next (s.dropDatagram b false)
      else .next (s.takeBatch { conc := c, kind := 1, buf := beAt b 2 2, tag := beAt b 4 2 } [b.drop 8])
    else match batchSplit b with
      | none => .next (s.dropDatagram b false)
      | some (items, e) =>
        if !s.batchTagOk c e b then .next (s.dropDatagram b false)
        else
          let learn := (items.filter (·.1 == 2)).map (·.2)
          let s := if s.getF (Reg.ETH_SRC_CFG_LEARN.win 5 c) = 1 then s.takeLearning learn else s.count Reg.ETH_BATCH_DROP_CNT_CNT learn.length
          .next (s.takeBatch { conc := c, kind := 0, bseq := beAt b 4 4 } ((items.filter (·.1 == 1)).map (·.2)))
  | _, _ => idle s

/-- R80, R86: the acknowledgement item of a batch's frame: its outcome is known, and a wrapper's frame keeps the item for its answer. The credit of the item in
queue `q` returns when the answer of the batch is sent, at once where the batch is no longer tracked (R19). -/
def State.takeBatchAck (s : State) (q : Nat) (a : Ack) : State :=
  let s := s.batchOutcome a.batch (if a.dup then .duplicate else a.outcome)
  match a.batch with
  | some (k, _) =>
    match s.batch k with
    | some b => s.setBatch k (some { b with acks := b.acks + 1, ack := if b.kind = 1 then some a else b.ack })
    | none => s.creditBack q
  | none => s.creditBack q

/-- R85, R86: a port of batches takes the acknowledgement item at the front of its queue; `parity` words of it fail their check (R55). A poisoned one is lost. -/
def State.takeAckItem (s : State) (q parity : Nat) : State :=
  let s := s.faultFront q parity
  match (s.queue q).items.head?, s.deqHeld q with
  | some { body := .ack a, poison := bad }, some (_, t) => if bad ≠ 0 then (t.creditBack q).loseAck a else t.takeBatchAck q a
  | _, _ => s

/-- R86: has every frame of a batch an outcome? -/
def Batch.complete (b : Batch) : Bool := b.frames.all (fun f => f.2.isSome)

/-- R288: the list of counters and outcomes. -/
def Batch.list (b : Batch) : Bytes := b.frames.flatMap (fun f => beBytes 8 f.1 ++ [BitVec.ofNat 8 ((f.2.map (·.code)).getD 6)])

/-- R288: where an answer to a source goes and comes from: its address, 16 bytes, its port, and the chip's port, `ETH.PORTS.ZCF`, of KIND 1 `ETH.PORTS.WRAP`. -/
def State.sourceHead (s : State) (c : Nat) : Bytes :=
  (List.range 4).flatMap (fun k => leBytes 4 (s.getF ((Reg.ETH_SRC_ADDR_ADDR k).win 5 c))) ++ beBytes 2 (s.getF (Reg.ETH_SRC_CFG_UDP.win 5 c)) ++
    beBytes 2 (s.getF (if s.getF (Reg.ETH_SRC_CFG_KIND.win 5 c) = 1 then Reg.ETH_PORTS_WRAP else Reg.ETH_PORTS_ZCF))

/-- R288, R319: a batch acknowledgement leaves on P2 while that port runs, where this twin sends stream 9. -/
def State.sendBatchAck (s : State) (c : Nat) (b : Bytes) : State :=
  let s := s.output 9 b
  if s.orders && s.ethUp 2 then (s.emit 10 (s.sourceHead c ++ b)).count (Reg.ETHP_TX_OK_CNT_CNT 2) else s

/-- R288: the acknowledgement of a complete batch. -/
def State.answerBatch (s : State) (k : Nat) (b : Batch) : State :=
  let s' := s.endBatch k
  if b.kind = 0 then
    let n := s.getF (Reg.ETH_SRC_CFG_SLOT.win 5 b.conc)
    match if (s.slot n).may Usage.macGen && (s.slot n).forBatches then s'.takeIv n else none with
    | none => s.abandonBatch k
    | some (iv, t) =>
      let d := [0xB2, 0x01] ++ beBytes 2 b.frames.length ++ beBytes 4 b.bseq ++ beBytes 8 iv ++ b.list
      t.sendBatchAck b.conc (d ++ gcmTag (t.slot n).key ([0x80, 0, 0, 0] ++ beBytes 8 iv) d [])
  else match b.ack with
    | some a =>
      if s.getF (Reg.ETH_SRC_CFG_ACK.win 5 b.conc) = 0 then s'
      else match s'.ackFrame { a with fmt := 0 } (s.title Reg.ETH_ACK_TITLE_HI_TITLE Reg.ETH_ACK_TITLE_LO_TITLE) with
        | (some d, t) => t.sendBatchAck b.conc (beBytes 2 1 ++ beBytes 2 b.tag ++ beBytes 2 b.buf ++ beBytes 2 d.length ++ d)
        | (none, t) => t
    | none => s'

/-- The first complete batch of some kinds, with its number. -/
def State.completeBatch (s : State) (p : Batch → Bool) : Option (Nat × Batch) :=
  (s.uplink.batches.filterMap (fun e => e.2.map (fun b => (e.1, b)))).find? (fun e => e.2.complete && p e.2)

/-- R86, R288: the CPU port takes an acknowledgement item, and answers a batch once every frame of it has an outcome and is durable. -/
def execBatchAckSend (parity : Nat) (s : State) : Host.Outcome State Fault Refusal :=
  let s := s.takeAckItem 0x143 parity
  match s.completeBatch (fun b => b.kind != 2) with
  | some (k, b) => .next (s.answerBatch k b)
  | none => .next s

/-- R288: batches still incomplete after TIMEOUT_MS are abandoned. -/
def execBatchTimeout (s : State) : Host.Outcome State Fault Refusal :=
  let late := s.uplink.batches.filter (fun e => match e.2 with
    | some b => !b.complete && decide (b.arrived + s.getF Reg.ETH_BATCH_CFG_TIMEOUT_MS * 1000000 ≤ s.tb1)
    | none => false)
  .next (late.foldl (fun s e => s.abandonBatch e.1) s)

/-! ## Software frames -/

/-- R325: is this twin the one that hands over: ACTIVE with a handover under way, or STANDBY after it? -/
def State.handsOver (s : State) : Bool :=
  (s.getF Reg.TWIN_STAT_ROLE == 4 && s.twin.handover.isSome) || (s.getF Reg.TWIN_STAT_ROLE == 3 && s.twin.handover.isNone)

/-- R320, R325: the LAN of a twin of a pair for a frame of stream 0. The frames below the boundary of a handover go out as the role before it says, on both twins. -/
def State.pairLan (s : State) (n : Nat) : Nat :=
  match s.twin.bounds with
  | [] => if s.getF Reg.TWIN_STAT_ROLE = 4 then 1 else 2
  | b :: _ => if s.handsOver == decide (n < b) then 1 else 2

/-- R320, R325: the LANs on which this twin sends a frame of stream 0: bit 0 A, bit 1 B. -/
def State.streamLans (s : State) (n : Nat) : Nat :=
  match s.getF Reg.TWIN_STAT_ROLE with
  | 4 => if !s.flag Reg.TWIN_STAT_PAIRED then 3 else s.pairLan n
  | 3 => s.pairLan n
  | 6 => 1
  | _ => 0

/-- R319, R320: a frame of stream 0 takes its index and goes out with it as its PRP sequence. A standby that is too late does not send it. -/
def State.streamZero (s : State) (b : Bytes) : State :=
  let n := s.outIndex 0
  let late : Bool := s.twin.theirs.any (fun d => d.stream == 0 && d.index == n
    && decide (d.at_ + s.getF Reg.TWIN_OUT_CFG_MAX_LAG_MS * 1000000 < s.tb1))
  let t := s.output 0 b
  if s.getF Reg.TWIN_STAT_ROLE == 3 && late then t.count Reg.TWIN_LAG_DROP_CNT_CNT else t.paSend b (s.streamLans n) n

/-- R283, R300, R319, R320: the CPU port sends a frame of the software transmit queue; software may write one with the command. -/
def execEthSwTx (sub : Option Submission) (s : State) : Host.Outcome State Fault Refusal :=
  let s := match sub with
    | some x => s.onWrite x.req 0x28 0x0A0 fun s => if s.hasCredit 0x142 then s.enq 0x142 { body := .bytes x.item, poison := x.poison } else s
    | none => s
  if !s.domOn .port ∨ !s.flag Reg.ETH_CTRL_ENABLE then .next s
  else match (s.queue 0x142).items.head?, s.deq 0x142 with
    | some { body := .bytes b, poison := bad }, some (_, t) =>
      if bad ≠ 0 then .next t
      else if t.flag Reg.TWIN_CTRL_ENABLE ∧ slice b 6 6 = t.macOf Reg.TWIN_TWIN_MAC_HI_MAC Reg.TWIN_TWIN_MAC_LO_MAC then .next (t.streamZero b)
      else .next (t.switchOut 3 b)
    | _, _ => .next s

/-! ## PRP -/

/-- R290: the entry of a source node. -/
def State.prpNode (s : State) (mac : Nat) : Option PrpNode := sget none s.uplink.nodes mac

/-- R290: set or remove the entry of a source node. -/
def State.setPrpNode (s : State) (mac : Nat) (x : Option PrpNode) : State :=
  let l := sput none s.uplink.nodes mac x
  { s with uplink := { s.uplink with nodes := l } }.setF Reg.PRP_NODES_CNT l.length

/-- R290: is a frame accepted? -/
def State.prpAccept (s : State) (mac q : Nat) : Bool × State :=
  let fresh : Option PrpNode := some ⟨q, 1, s.tb1⟩
  match s.prpNode mac with
  | none => if 1024 ≤ s.uplink.nodes.length then (true, s.irq Reg.PRP_IRQ_NODE_FULL) else (true, s.setPrpNode mac fresh)
  | some x =>
    let d := (x.high + 65536 - q) % 65536
    let up := (q + 65536 - x.high) % 65536
    if x.heardAt + s.getF Reg.PRP_FORGET_ENTRY_MS * 1000000 ≤ s.tb1 then (true, s.setPrpNode mac fresh)
    else if d < 256 ∧ bitAt x.seen d = 1 then (false, (s.setPrpNode mac (some { x with heardAt := s.tb1 })).count Reg.PRP_DUP_CNT_CNT)
    else if d < 256 then (true, s.setPrpNode mac (some { x with seen := x.seen + 2 ^ d, heardAt := s.tb1 }))
    else if 1 ≤ up ∧ up ≤ 32767 then (true, s.setPrpNode mac (some ⟨q, (x.seen * 2 ^ min up 256 + 1) % 2 ^ 256, s.tb1⟩))
    else (true, (s.setPrpNode mac fresh).count Reg.PRP_OUT_WIN_CNT_CNT)

/-- R290: a frame arrives on LAN A or B. With a trailer it is accepted or discarded; a frame taken goes to the switch and the CPU port without
its trailer. PTP and lease frames carry none. `fcsBad`: its FCS is wrong (R302). -/
def execPrpRx (lanB : Bool) (frame : Bytes) (fcsBad : Bool) (s : State) : Host.Outcome State Fault Refusal :=
  let n := if lanB then 1 else 0
  let take (s : State) (b : Bytes) : State := if s.flag Reg.ETH_CTRL_ENABLE then (s.switchIn 0 (s.ptpEnters n b)).cpuIn n b else s
  let (s, ok) := if s.ethUp n then s.received n frame fcsBad else (s, false)
  if !ok then .next s
  else
    let s := (s.settling fun s => s.lanHeard n).count (Reg.ETHP_RX_OK_CNT_CNT n)
    let e := frame.length - 6
    if !s.flag Reg.PRP_CTRL_ENABLE ∨ frame.length < 20 ∨ beAt frame (e + 4) 2 ≠ 0x88FB ∨ isPtp frame then .next (take s frame)
    else
      let lan := beAt frame (e + 2) 2 / 4096
      let s := if lan = (if lanB then 0xB else 0xA) then s else s.count (if lanB then Reg.PRP_WRONG_LAN_B_CNT_CNT else Reg.PRP_WRONG_LAN_A_CNT_CNT)
      let (ok, s) := s.prpAccept (beAt frame 6 6) (beAt frame e 2)
      if ok then .next (take s (frame.take e)) else .next s

/-- R290: a node silent for NODE_S seconds is removed. -/
def execPrpNodeForget (mac : BitVec 48) (s : State) : Host.Outcome State Fault Refusal :=
  match s.prpNode mac.toNat with
  | some x => if x.heardAt + s.getF Reg.PRP_FORGET_NODE_S * nsPerS ≤ s.tb1 then .next (s.setPrpNode mac.toNat none) else idle s
  | none => idle s

/-- R291: a supervision frame is due. Its bytes follow IEC 62439-3. -/
def execPrpSupervisionTx (s : State) : Host.Outcome State Fault Refusal :=
  if !s.domOn .port ∨ !s.flag Reg.PRP_SUP_CFG_EN ∨ s.tb1 < s.uplink.supAt then idle s
  else
    let mac := s.macOf Reg.ETH_MAC_HI_MAC Reg.ETH_MAC_LO_MAC
    let n := s.uplink.supSeq
    let f := [0x01, 0x15, 0x4E, 0x00, 0x01, 0x00] ++ mac ++ beBytes 2 0x88FB ++ beBytes 2 1 ++ beBytes 2 n ++ [20, 6] ++ mac ++ [0, 0]
    let s := { s with uplink := { s.uplink with supAt := s.tb1 + s.getF Reg.PRP_SUP_CFG_INTERVAL_MS * 1000000, supSeq := (n + 1) % 65536 } }
    .next (s.paLocal f)

/-- R291: a LAN has carried no frame for 3 intervals. -/
def execPrpLanDown (lanB : Bool) (s : State) : Host.Outcome State Fault Refusal :=
  let last := if lanB then s.uplink.lanBt else s.uplink.lanAt
  let down := if lanB then s.lanBDown else s.lanADown
  if !s.domOn .port ∨ down ∨ s.tb1 < last + 3 * s.getF Reg.PRP_SUP_CFG_INTERVAL_MS * 1000000 then idle s
  else .next (s.settling fun s =>
    if lanB then { s with lanBDown := true }.irq Reg.PRP_IRQ_LAN_B_DOWN else { s with lanADown := true }.irq Reg.PRP_IRQ_LAN_A_DOWN)

/-- R282, R302: the link of an Ethernet port goes up or down. -/
def execEthLinkChange (port : Fin 4) (up : Bool) (speed : BitVec 2) (sqi : BitVec 3) (s : State) : Host.Outcome State Fault Refusal :=
  let n := port.val
  let runs := if n = 3 then s.mode != .dormant && s.mode != .backup else s.domOn .port
  if !runs ∨ s.flag (Reg.ETHP_STAT_LINK n) = up then idle s
  else
    let s := ((s.setF (Reg.ETHP_STAT_LINK n) (bitIf up 0)).setF (Reg.ETHP_STAT_SPEED n) (if up then speed.toNat else 0)).irq (Reg.ETHP_IRQ_LINK_CHANGE n)
    .next (if n = 3 then s.setF (Reg.ETHP_STAT_SQI 3) (if up then sqi.toNat else 0) else s)

/-! ## PCIe -/

/-- R297: the host writes `PCIE.SQ_TAIL`. -/
def execPcieSqTailWrite (req : Req) (data : Word) (s : State) : Host.Outcome State Fault Refusal :=
  .next (s.onField req Reg.PCIE_SQ_TAIL_IDX fun s => s.setF Reg.PCIE_SQ_TAIL_IDX data.toNat)

/-- The host fills its memory. -/
def State.hostFills (s : State) (l : List (BitVec 64 × Bytes)) : State := l.foldl (fun t e => t.write (hostCell e.1.toNat) e.2) s

/-- R297: the endpoint fetches the entry at SQ_HEAD, and the batch that it names, from the host's memory while the receive queue has credit. `host` is what the host
has written to its memory before (log entry 115). -/
def execPcieSqFetch (host : List (BitVec 64 × Bytes)) (s : State) : Host.Outcome State Fault Refusal :=
  let s := s.hostFills host
  let h := s.getF Reg.PCIE_SQ_HEAD_IDX
  if !s.pcieMaster ∨ !s.flag Reg.PCIE_CTRL_ENABLE ∨ h = s.getF Reg.PCIE_SQ_TAIL_IDX ∨ !s.hasCredit 0x178 then .next s
  else
    let entry := s.read (hostCell (s.get2 Reg.PCIE_SQ_BASE_LO_ADDR Reg.PCIE_SQ_BASE_HI_ADDR + 32 * h)) 32
    let b := s.read (hostCell (leAt entry 0 8)) (leAt entry 16 2)
    let s := s.enq 0x178 { body := .batch 0 2 (leAt entry 8 8) (leAt entry 18 2) b }
    .next (s.setF Reg.PCIE_SQ_HEAD_IDX ((h + 1) % 2 ^ s.getF Reg.PCIE_SQ_CFG_LOG2))

/-- R297: a completion is written into the ring: TAG, status, phase, length. -/
def State.pcieComplete (s : State) (buf tag status : Nat) (ack : Bytes) : State :=
  let t := s.getF Reg.PCIE_CQ_TAIL_IDX
  let n := 2 ^ s.getF Reg.PCIE_CQ_CFG_LOG2
  let base := s.get2 Reg.PCIE_CQ_BASE_LO_ADDR Reg.PCIE_CQ_BASE_HI_ADDR
  let s := if ack.isEmpty then s else s.hostWrite buf ack
  let item := leBytes 2 tag ++ leBytes 1 status ++ leBytes 1 s.uplink.phase ++ leBytes 2 ack.length ++ List.replicate 10 0
  let s := (s.hostWrite (base + 16 * t) item).setF Reg.PCIE_CQ_TAIL_IDX ((t + 1) % n)
  if t + 1 = n then { s with uplink := { s.uplink with phase := 1 - s.uplink.phase } } else s

/-- R297: the endpoint takes an acknowledgement item and, for a batch that is complete, writes the acknowledgement and a completion; a full ring
waits for the host. -/
def execPcieCompletionWrite (parity : Nat) (s : State) : Host.Outcome State Fault Refusal :=
  let s := s.takeAckItem 0x179 parity
  let s := match s.completeBatch (fun b => b.kind == 2) with
    | some (k, b) =>
      let (iv, t) := s.drawBytes 8
      let d := [0xB2, 0x01] ++ beBytes 2 b.frames.length ++ beBytes 4 b.bseq ++ iv ++ b.list
      let t := t.endBatch k
      { t with uplink := { t.uplink with completions := t.uplink.completions ++ [(b.buf, b.tag, 0, d)] } }
    | none => s
  let full := (s.getF Reg.PCIE_CQ_TAIL_IDX + 1) % 2 ^ s.getF Reg.PCIE_CQ_CFG_LOG2 == s.getF Reg.PCIE_CQ_HEAD_IDX
  match s.uplink.completions with
  | (buf, tag, st, d) :: r =>
    if full ∨ !s.flag Reg.PCIE_CTRL_ENABLE ∨ !s.pcieMaster then .next s
    else .next ({ s with uplink := { s.uplink with completions := r } }.pcieComplete buf tag st d)
  | [] => .next s

/-- R298: a batch that was fetched before: its frames go on along the path, but it gets no completion. -/
def orphaned (i : Item) : Item :=
  match i.body with
  | .batch c _ buf tag b => { i with body := .batch c 3 buf tag b }
  | _ => i

/-- R298: the endpoint stops, abandons what is tracked without a completion, and empties both rings. The host sets Bus Master Enable and MSI-X anew. -/
def State.pcieReset (s : State) : State :=
  let mine := s.uplink.batches.filter (fun e => match e.2 with | some b => b.kind == 2 | none => false)
  let s := mine.foldl (fun s e => (s.endBatch e.1).count Reg.ETH_ACK_ABANDON_CNT_CNT) s
  let s := s.putQueue 0x178 { s.queue 0x178 with items := (s.queue 0x178).items.map orphaned }
  let s := { s with uplink := { s.uplink with completions := [], phase := 1, msixOn := false, msix := [], pba := [], vecHigh := [] } }
  let s := (s.setF Reg.PCIE_SQ_HEAD_IDX 0).setF Reg.PCIE_SQ_TAIL_IDX 0
  ((s.setF Reg.PCIE_CQ_HEAD_IDX 0).setF Reg.PCIE_CQ_TAIL_IDX 0).setF Reg.PCIE_STAT_BME 0

/-- R295, R304: the link has trained, and the host has set up the endpoint. -/
def State.pcieUp (s : State) (h : PcieHost) : State :=
  let t := (((s.setF Reg.PCIE_STAT_LINK_UP 1).setF Reg.PCIE_STAT_GEN (h.gen.val + 1)).setF Reg.PCIE_STAT_WIDTH h.width.lanes).setF Reg.PCIE_STAT_BME (bitIf h.bme 0)
  { t with uplink := { t.uplink with msixOn := h.msix } }

/-- R295, R298, R304: the link goes down; `up`: what the host sets up once the link has trained again. DESIGN CHOICE (log entry 115): the table has no row for the
training of a link that is down, so that this command with `up` stands for it. -/
def execPcieLinkDown (up : Option PcieHost) (s : State) : Host.Outcome State Fault Refusal :=
  if !s.domOn .fabric then idle s
  else
    let s := if s.flag Reg.PCIE_STAT_LINK_UP then
        (((s.pcieReset.setF Reg.PCIE_STAT_LINK_UP 0).setF Reg.PCIE_STAT_GEN 0).setF Reg.PCIE_STAT_WIDTH 0).irq Reg.PCIE_IRQ_LINK_DOWN
      else s
    .next (match up with | some h => s.pcieUp h | none => s)

/-- R298: hot reset; `up`: what the host sets up after it (log entry 115). -/
def execPcieHotReset (up : Option PcieHost) (s : State) : Host.Outcome State Fault Refusal :=
  if s.domOn .fabric ∧ s.flag Reg.PCIE_STAT_LINK_UP then
    let s := s.pcieReset.irq Reg.PCIE_IRQ_HOT_RESET
    .next (match up with | some h => s.pcieUp h | none => s)
  else idle s

/-! ## MDIO -/

/-- R301: a management frame on the MDIO line: how many of its 64 bits the chip drives, then the bits: the preamble, the start, the opcode, PHYAD, REGAD, the
turnaround and the data. Of a read the chip drives the first 46; the released bits read as 1. -/
def mdioFrame (op phy reg data : Nat) : Bytes :=
  let head := 2 ^ 14 + op * 2 ^ 12 + phy * 2 ^ 7 + reg * 2 ^ 2
  [if op = 1 then 64 else 46] ++ beBytes 4 0xFFFFFFFF ++ beBytes 2 (if op = 1 then head + 2 else head + 3) ++ beBytes 2 (if op = 1 then data else 0xFFFF)

/-- R301: a write of `MDIO_CMD` with GO: the frame goes out; refused while a frame is in progress. -/
def State.mdioGo (s : State) (req : Req) (op phy reg data : Nat) : State :=
  s.onField req Reg.ETH_MDIO_CMD_GO fun s =>
    if s.flag Reg.ETH_MDIO_STAT_BUSY then s.refuseAt req Reg.ETH_MDIO_CMD_GO 0x0100
    else
      let s := (s.setF Reg.ETH_MDIO_CMD_OP op).setF Reg.ETH_MDIO_CMD_PHYAD phy
      let s := (s.setF Reg.ETH_MDIO_CMD_REGAD reg).setF Reg.ETH_MDIO_CMD_WDATA data
      ((s.setF Reg.ETH_MDIO_CMD_GO 1).setF Reg.ETH_MDIO_STAT_BUSY 1).emit 40 (mdioFrame op phy reg data)

/-- R301: one management write. -/
def execMdioWrite (req : Req) (phy : BitVec 5) (reg : BitVec 5) (data : BitVec 16) (s : State) : Host.Outcome State Fault Refusal :=
  .next (s.mdioGo req 1 phy.toNat reg.toNat data.toNat)

/-- R301: one management read. -/
def execMdioRead (req : Req) (phy : BitVec 5) (reg : BitVec 5) (data : BitVec 16) (s : State) : Host.Outcome State Fault Refusal :=
  .next (s.mdioGo req 2 phy.toNat reg.toNat data.toNat)

/-- R301: the management frame ends; `driven`: the PHY drove 0 in the second turnaround bit of a read, whose data is `data`. -/
def execMdioFrameDone (driven : Bool) (data : BitVec 16) (s : State) : Host.Outcome State Fault Refusal :=
  if !s.flag Reg.ETH_MDIO_STAT_BUSY ∨ !s.domOn .port then idle s
  else
    let t := (s.setF Reg.ETH_MDIO_CMD_GO 0).setF Reg.ETH_MDIO_STAT_BUSY 0
    if s.getF Reg.ETH_MDIO_CMD_OP = 2 then
      .next ((t.setF Reg.ETH_MDIO_STAT_NO_TA (bitIf (!driven) 0)).setF Reg.ETH_MDIO_STAT_RDATA (if driven then data.toNat else 0xFFFF))
    else .next t

end Sys2Proof.Machine
end

