-- ==== Sys2Proof/Machine/Tongs.lean ====
section
/-! DEFINITION. The Tongs link and the other two paths between twins (R309–R311, R321, R324): records as bytes, link frames, their acknowledgement and resending, authenticated frames, and what is heard on each path. -/

namespace Sys2Proof.Machine

/-! ## Records as bytes -/

/-- R310: an ordered item as a record. -/
def orderedBytes (n : Nat) : Ordered → Bytes
  | .dirCmd b _ => [0x02] ++ leBytes 6 n ++ slice b 0 64
  | .balCmd b => [0x02] ++ leBytes 6 n ++ slice b 0 64
  | .token b m src => [0x02] ++ leBytes 6 n ++ leBytes 3 m ++ [BitVec.ofNat 8 src] ++ slice b 0 60
  | .balMarker k => [0x03] ++ leBytes 6 n ++ [0] ++ leBytes 4 k
  | .demandMarker m g => [0x03] ++ leBytes 6 n ++ [1] ++ leBytes 4 m ++ leBytes 2 g
  | .closeMarker b sk at_ => [0x03] ++ leBytes 6 n ++ [2] ++ leBytes 4 b ++ [if sk then 1 else 0] ++ leBytes 4 at_
  | .ckptMarker k => [0x03] ++ leBytes 6 n ++ [3] ++ leBytes 4 k
  | .txn l _ => [0x04] ++ leBytes 6 n ++ l.flatMap (fun e => leBytes 1 e.1 ++ [0] ++ leBytes 2 e.2.1 ++ leBytes 4 e.2.2)
  | .join b => [0x05] ++ leBytes 6 n ++ b

/-- R310: a record's bytes. -/
def recBytes : Rec → Bytes
  | .frame b => b
  | .ordered n o => orderedBytes n o
  | .discard n c => [0x06] ++ leBytes 6 n ++ leBytes 1 c
  | .group q l => [0x07] ++ leBytes 6 q ++ leBytes 6 l
  | .handover x bs => [0x08] ++ leBytes 6 x ++ bs.flatMap (leBytes 6)
  | .durable q => [0x10] ++ leBytes 6 q
  | .digest st i d => [0x11] ++ leBytes 1 st ++ leBytes 6 i ++ leBytes 8 d
  | .forward p l q b => [0x12] ++ leBytes 1 p ++ leBytes 2 l ++ leBytes 1 q ++ b
  | .resendReq n => [0x13] ++ leBytes 6 n

/-! ### The parts of a copy unit, whose layout is the model's own (log entry 47) -/

/-- A number in 8 bytes. -/
def num8 (n : Nat) : Bytes := leBytes 8 n

/-- A list after its length. -/
def listBytes {α : Type} (f : α → Bytes) (l : List α) : Bytes := num8 l.length ++ l.flatMap f

/-- What may be absent, after a byte that says whether it is there. -/
def optBytes {α : Type} (f : α → Bytes) : Option α → Bytes
  | some x => 1 :: f x
  | none => [0]

/-- A pair of numbers. -/
def pairBytes (p : Nat × Nat) : Bytes := num8 p.1 ++ num8 p.2

/-- R330: a calendar generation. -/
def genBytes (g : CalGen) : Bytes :=
  [g.id, g.active, g.checked, unsignedOf 64 g.off, g.dst, unsignedOf 64 g.prevOff, g.prevDst, g.dstAt].flatMap num8

/-- R330: a close that waits for its sweep. -/
def balSweepBytes (w : BalSweep) : Bytes :=
  num8 w.k ++ num8 w.order ++ listBytes (fun e => num8 e.1 ++ listBytes (fun x => [x]) e.2) w.nodes ++ num8 w.node ++ listBytes num8 w.earlyNodes ++
    [if w.nodesDone then 1 else 0] ++ num8 w.meter ++ listBytes num8 w.early ++ num8 w.unbalanced

/-- R330: the state of the balance engine. -/
def balBytes (b : BalState) : Bytes :=
  optBytes num8 b.mark ++ [if b.closedAny then 1 else 0] ++ listBytes balSweepBytes b.sweeps ++ listBytes (listBytes (fun x => [x])) b.waiting ++
    listBytes pairBytes b.high ++ num8 b.startedAt

/-- R330: a billing close that waits or was applied. -/
def closeBytes (j : CloseJob) : Bytes := num8 j.b ++ num8 j.order ++ [if j.skipped then 1 else 0]

/-- R330: the state of the billing engine. -/
def billBytes (b : BillState) : Bytes :=
  optBytes num8 b.firstDem ++ listBytes (fun e => num8 e.1 ++ listBytes num8 e.2) b.rates ++ optBytes num8 b.demMark ++ optBytes num8 b.closeMark ++
    optBytes num8 b.ckptMark ++ num8 b.skipTo ++ listBytes (fun (d : DemSweep) => num8 d.c ++ num8 d.order ++ listBytes num8 d.early) b.demSweeps ++
    listBytes closeBytes b.closes ++ listBytes closeBytes b.sweeps ++ num8 b.sweepAt

/-- R330: a node of a port with its tone maps. -/
def nodeUnit (n : PortNode) : Bytes :=
  num8 n.id ++ num8 n.slot ++ [if n.joined then 1 else 0] ++ optBytes num8 n.seq ++ num8 n.heardAt ++ listBytes (fun x => [x]) n.rx ++ num8 n.rxGen ++
    listBytes (fun x => [x]) n.rxPrev ++ num8 n.rxPrevGen ++ listBytes (fun x => [x]) n.tx ++ num8 n.txGen ++ num8 n.want ++
    listBytes (fun e => num8 e.1 ++ listBytes (fun x => [x]) e.2) n.errs

/-- R330: a copy unit's bytes. -/
def unitBytes : SyncUnit → Bytes
  | .record m b => [0x30, 0] ++ leBytes 4 m.toNat ++ b
  | .mem a b => [0x30, 1] ++ leBytes 5 a.toNat ++ b
  | .engines g x y => [0x30, 2] ++ listBytes genBytes g ++ balBytes x ++ billBytes y
  | .regs l => [0x30, 3] ++ listBytes pairBytes l
  | .nodes p l => [0x30, 4, BitVec.ofNat 8 p.val] ++ listBytes (fun e => num8 e.1 ++ optBytes nodeUnit e.2) l
  | .key n b d u g => [0x30, 5, BitVec.ofNat 8 n.toNat] ++ listBytes (fun x => [x]) b ++ num8 d ++ num8 u ++ num8 g
  | .done => [0x30, 6]

/-! ## Identities and the pair key -/

/-- R307: this chip's identity: lot, wafer, position. -/
def State.ownIdent (s : State) : Nat :=
  s.getF Reg.SYS_ID_LOT_LOT + s.getF Reg.SYS_ID_WAFER_WAFER * 2 ^ 24 + s.getF Reg.SYS_ID_POS_X * 2 ^ 29 + s.getF Reg.SYS_ID_POS_Y * 2 ^ 37

/-- R305: the partner's identity. -/
def State.partnerIdent (s : State) : Nat := s.get2 Reg.TWIN_PARTNER_ID_LO_ID Reg.TWIN_PARTNER_ID_HI_ID

/-- R407: the IV of a frame to the partner: the direction, and the frame counter of that direction. -/
def State.pairIv (s : State) (use n : Nat) : Bytes :=
  leBytes 4 ((if s.ownIdent < s.partnerIdent then 0 else 1) + 2 * use) ++ beBytes 8 n

/-- R407: the pair key, once both twins hold it. -/
def State.pairKey (s : State) : Option Bytes :=
  if s.twin.pairedKey ∧ (s.slot 5).goes Dest.twin then some (s.slot 5).key else none

/-! ## Link frames -/

/-- R309: has the Tongs link a lane that works? -/
def State.tongsUp (s : State) : Bool := decide (s.twin.lanesDown.length < 2)

/-- A record of a link frame, after its length. -/
def packed (b : Bytes) : Bytes := leBytes 2 b.length ++ b

/-- R309: the records that fit a link frame of at most 2,048 bytes, with its sequence and tag. -/
def packRecords (room : Nat) : List Item → List Bytes
  | [] => []
  | i :: r =>
    match i.body with
    | .record x =>
      let b := packed (recBytes x)
      if b.length ≤ room then b :: packRecords (room - b.length) r else []
    | _ => [] :: packRecords room r

/-- R309: a link frame leaves and waits in the window. -/
def State.sendLink (s : State) (key body : Bytes) (n : Nat) : State :=
  let q := s.twin.linkSeq
  let iv := s.pairIv 0 q
  let aad := leBytes 4 (q % 2 ^ 32)
  let ct := gcmCrypt key iv body
  let f := aad ++ ct ++ gcmTag key iv aad ct
  { s.emit 13 f with twin := { s.twin with
    linkSeq := q + 1, sentAt := s.tb1, window := s.twin.window ++ [{ seq := q, body := f, count := n, sentAt := s.tb1 }] } }

/-- R476: M_A goes to the partner over the Tongs link. -/
def State.sendMeasure (s : State) : State :=
  match s.pairKey with
  | some key => if s.flag Reg.TWIN_CTRL_ENABLE ∧ s.tongsUp ∧ !s.sec.mA.isEmpty then s.sendLink key (packed ([0x21] ++ s.sec.mA)) 0 else s
  | none => s

/-- R330: `SYNC_DONE` counts the records of a copy, which go in ascending index, those that are all zeros among them; behind the last one every record is copied. -/
def State.copiedTo (s : State) : SyncUnit → State
  | .record m _ => s.setF Reg.TWIN_SYNC_DONE_RECORDS (m.toNat + 1)
  | .mem _ _ => s.setF Reg.TWIN_SYNC_DONE_RECORDS (2 ^ 20)
  | .engines _ _ _ => s.setF Reg.TWIN_SYNC_DONE_RECORDS (2 ^ 20)
  | _ => s

/-- R309, R330: what waits for the partner goes out: records first, then the units of a copy. -/
def State.pumpLink (s : State) : State :=
  match s.pairKey with
  | none => s
  | some key =>
    if !s.tongsUp ∨ 64 ≤ s.twin.window.length then s
    else
      let q := s.queue 0x180
      match packRecords 2028 q.items with
      | [] =>
        match s.twin.snap with
        | [] => s
        | u :: r =>
          let t := { s with twin := { s.twin with snap := r } }
          (t.copiedTo u).sendLink key (packed (unitBytes u)) 0
      | l =>
        let t := (q.items.take l.length).foldl (fun u i => if i.poison != 0 then u.poisoned 0x180 i.poison else u) s
        let x := t.queue 0x180
        let t := t.setQueue 0x180 { x with items := x.items.drop l.length, held := x.held + l.length }
        t.sendLink key l.flatten l.length

/-- R309: a link frame that has not been acknowledged within 20 µs is sent again, with every later one of the window. -/
def execTongsRetransmit (s : State) : Host.Outcome State Fault Refusal :=
  match s.twin.window with
  | [] => idle s
  | f :: _ =>
    if f.sentAt + 20000 ≤ s.tb1 ∧ s.tongsUp then
      let t := s.twin.window.foldl (fun u g => (u.emit 13 g.body).count Reg.TWIN_TONGS_RETRY_CNT_CNT) s
      .next { t with twin := { t.twin with sentAt := t.tb1, window := t.twin.window.map (fun (g : LinkFrame) => { g with sentAt := t.tb1 }) } }
    else idle s

/-- R309, R324: something came from the partner on a path: 0 the Tongs link, 1 LAN A, 2 LAN B; `real` unless it was a FENCED or DESYNCED
notice or a keep-alive. -/
def State.heardOn (s : State) (path : Nat) (real : Bool) : State :=
  let s := s.setF Reg.TWIN_STAT_PATHS (s.getF Reg.TWIN_STAT_PATHS ||| 2 ^ path)
  let s := { s with twin := { s.twin with heard := s.twin.heard.set path s.tb1, heardReal := if real then s.tb1 else s.twin.heardReal } }
  s.judgeAcks

/-- R309, R323: a keep-alive of the partner holds the link up; it is nothing that delays an acquisition. -/
def State.keptAlive (s : State) : State :=
  if s.flag Reg.TWIN_CTRL_ENABLE ∧ s.twinRole ≠ 0 ∧ s.tongsUp then
    let s := s.heardOn 0 false
    { s with twin := { s.twin with rxSeq := s.twin.rxSeq + 1 } }
  else s

/-- R309: a keep-alive of the partner arrives; or a direction that has been idle for 100 µs sends its own, a link frame without records that takes no place in the window. -/
def execTongsKeepalive (received : Bool) (s : State) : Host.Outcome State Fault Refusal :=
  match s.pairKey with
  | none => idle s
  | some key =>
    if received then .next (s.settling State.keptAlive)
    else if s.twin.sentAt + 100000 ≤ s.tb1 ∧ s.tongsUp ∧ (s.queue 0x180).items.isEmpty ∧ s.twin.window.isEmpty then
      let t := s.sendLink key [] 0
      .next { t with twin := { t.twin with window := [] } }
    else idle s

/-! ## Paths -/

/-- R407: what the partner sent over the Tongs link is taken only once both twins hold the pair key. -/
def State.onLink (s : State) (k : State → State) : Host.Outcome State Fault Refusal :=
  if s.flag Reg.TWIN_CTRL_ENABLE ∧ s.twinRole ≠ 0 ∧ s.pairKey.isSome ∧ s.tongsUp then
    .next ((s.heardOn 0 true).settling k)
  else idle s

/-- R309: the acknowledgement of the link frames taken so far, with the highest order number committed (log entry 108). -/
def State.ackBytes (s : State) : Bytes := leBytes 4 (s.twin.rxSeq % 2 ^ 32) ++ leBytes 6 ((s.commitNext + 2 ^ 48 - 1) % 2 ^ 48)

/-- R309: a link frame of the partner has been taken, and is acknowledged. -/
def State.ackLink (s : State) : State :=
  let s : State := { s with twin := { s.twin with rxSeq := s.twin.rxSeq + 1 } }
  s.emit 13 s.ackBytes

/-- R309: a record of the partner arrives in a link frame of its own, which comes in sequence and whose tag is good (log entry 108): the frame is acknowledged. One that is out of
sequence, or whose tag fails, is discarded and brings nothing. -/
def State.onRecord (s : State) (k : State → State) : Host.Outcome State Fault Refusal := s.onLink fun s => k s.ackLink

/-- R309: the partner has acknowledged link frames up to `link` and committed up to `applied`. Their records' credits return. `parity` words of those
records failed their check as they were read (R55, R56); the spec names no reaction to it (log entry 104). -/
def execTongsLinkAck (link : Word) (applied : BitVec 48) (parity : Nat) (s : State) : Host.Outcome State Fault Refusal :=
  s.onLink fun s =>
    let past := fun (f : LinkFrame) => decide ((link.toNat + 2 ^ 32 - f.seq % 2 ^ 32) % 2 ^ 32 < 2 ^ 31)
    let n := ((s.twin.window.filter past).map (·.count)).sum
    let t : State := { s with twin := { s.twin with window := s.twin.window.filter (fun f => !past f) } }
    let s := (t.badWords 0x180 parity).creditBack 0x180 n
    if s.twinRole = 4 then
      s.set2 Reg.TWIN_APPLIED_LO_ORDER Reg.TWIN_APPLIED_HI_ORDER (max (s.get2 Reg.TWIN_APPLIED_LO_ORDER Reg.TWIN_APPLIED_HI_ORDER) applied.toNat)
    else s

/-- R309, R433: a lane of the link fails, or works again. -/
def execTongsLaneFail (lane : Fin 2) (up : Bool) (s : State) : Host.Outcome State Fault Refusal :=
  .next (s.settling fun s =>
    let l := s.twin.lanesDown.filter (fun n => n != lane.val)
    let l := if up then l else l ++ [lane.val]
    { s with twin := { s.twin with lanesDown := l } }.setF Reg.TWIN_STAT_TONGS_HALF (if l.length = 1 then 1 else 0))

/-- R309, R324: a path has carried nothing for its time: 1 ms on the Tongs link, 5 ms on a LAN. -/
def execTwinPathDown (path : Fin 3) (s : State) : Host.Outcome State Fault Refusal :=
  let limit := if path.val = 0 then 1000000 else 5000000
  if bitAt (s.getF Reg.TWIN_STAT_PATHS) path.val = 1 ∧ (s.twin.heard.getD path.val 0) + limit ≤ s.tb1 then
    .next ((s.setF Reg.TWIN_STAT_PATHS (s.getF Reg.TWIN_STAT_PATHS - 2 ^ path.val)).irq Reg.TWIN_IRQ_PATH_DOWN).judgeAcks
  else idle s

/-- R407: the link and both LANs have carried nothing for LOSS_MS. -/
def State.allSilent (s : State) : Bool :=
  s.twin.heard.all (fun t => decide (t + s.getF Reg.TWIN_TONGS_CFG_LOSS_MS * 1000000 ≤ s.tb1))

/-! ## Authenticated frames -/

/-- R321, R407: an EtherType 0x88B5 frame to the partner. -/
def State.partnerFrame (s : State) (body : Bytes) : Bytes :=
  s.macOf Reg.TWIN_PARTNER_MAC_HI_MAC Reg.TWIN_PARTNER_MAC_LO_MAC ++ s.macOf Reg.ETH_MAC_HI_MAC Reg.ETH_MAC_LO_MAC ++ [0x88, 0xB5] ++ body

/-- R321: a lease frame or notice goes out on some of the paths (bit 0 Tongs, bit 1 LAN A, bit 2 LAN B): its kind (0 LEASE_REQ, 1 LEASE_GRANT, 2 FENCED,
3 DESYNCED) and counter, authenticated by GMAC under the pair key. -/
def State.sendNotice (s : State) (kind ctr paths : Nat) : State :=
  match s.pairKey with
  | none => s
  | some key =>
    let iv := s.pairIv 1 s.twin.macSeq
    let b := [0x20, BitVec.ofNat 8 kind] ++ leBytes 8 ctr ++ iv
    let b := b ++ gcmTag key iv b []
    let s := { s with twin := { s.twin with macSeq := s.twin.macSeq + 1 } }
    let s := if bitAt paths 0 = 1 ∧ s.tongsUp then s.emit 13 b else s
    let s := if bitAt paths 1 = 1 then s.ethSend 0 (s.partnerFrame b) else s
    if bitAt paths 2 = 1 then s.ethSend 1 (s.partnerFrame b) else s

end Sys2Proof.Machine
end

