-- ==== Sys2Proof/Machine/Twin.lean ====
section
/-! DEFINITION. Twin operation: the pair and its election (R305–R308), its meetings (R407), the lease (R321–R324), handover (R325), and output comparison (R326, R327). -/

namespace Sys2Proof.Machine

/-! ## The pair -/

/-- R324, R327: the twin enters DESYNCED and says so on both LANs and the link, still under the key in force. -/
def State.stepDown (s : State) : State := (s.sendNotice 3 0 7).desync

/-- R305, R306: a write of `TWIN.CTRL.ENABLE` = 1. -/
def State.twinOn (s : State) : State :=
  let s := s.setF Reg.TWIN_CTRL_ENABLE 1
  if s.twinRole = 0 then s.twinTo 1 else s

/-- R305, R306: a write of `TWIN.CTRL.ENABLE` = 1. -/
def execTwinEnable (req : Req) (s : State) : Host.Outcome State Fault Refusal :=
  .next (s.onT req Reg.TWIN_CTRL_ENABLE 1 fun s =>
    if s.role = .headEnd then s.refuseAt req Reg.TWIN_CTRL_ENABLE Err.valueRefused else s.settling State.twinOn)

/-- R306: a write of `TWIN.CTRL.ENABLE` = 0. -/
def State.twinOff (s : State) : State := (s.setF Reg.TWIN_CTRL_ENABLE 0).twinTo 0

/-- R306: a write of `TWIN.CTRL.ENABLE` = 0. -/
def execTwinDisable (req : Req) (s : State) : Host.Outcome State Fault Refusal :=
  .next (s.onT req Reg.TWIN_CTRL_ENABLE 0 fun s => s.settling State.twinOff)

/-- R306, R309: the twin becomes ACTIVE alone. -/
def State.activeAlone (s : State) : State := (s.twinTo 4).setPaired false

/-- R306: SEEK.MS has passed without a word of the partner. -/
def execTwinSeekTimeout (s : State) : Host.Outcome State Fault Refusal :=
  if s.twinRole = 1 ∧ s.flag Reg.TWIN_CTRL_SOLO_START ∧ s.twin.since + s.getF Reg.TWIN_SEEK_MS * 1000000 ≤ s.tb1 ∧
      s.twin.heard.all (fun t => decide (t ≤ s.twin.since)) then
    .next (s.settling State.activeAlone)
  else idle s

/-- R307: the highest durable order number. -/
def State.durableOrder (s : State) : Nat := s.get2 Reg.LADL_DURABLE_ORDER_LO_ORDER Reg.LADL_DURABLE_ORDER_HI_ORDER

/-- R307: does this twin win the election, by the durable order number, PREFER, and identity? -/
def State.winsBy (s : State) (prefer : Bool) (ident : Nat) : Bool :=
  if s.flag Reg.TWIN_CTRL_PREFER != prefer then s.flag Reg.TWIN_CTRL_PREFER else decide (s.ownIdent < ident)

/-- R307: does this twin win the election? -/
def State.wins (s : State) (durable : Nat) (prefer : Bool) (ident : Nat) : Bool :=
  if s.durableOrder = durable then s.winsBy prefer ident else decide (durable < s.durableOrder)

/-- R308: two twins in ACTIVE hear each other. -/
def State.dualActive (s : State) (durable : Nat) (prefer : Bool) (ident : Nat) : State :=
  let s := (s.irq Reg.TWIN_IRQ_DUAL_ACTIVE).event .twinRole 0x30 [4, 4]
  if s.wins durable prefer ident then s else s.stepDown

/-- R306–R308: the content of the partner's HELLO: its highest durable order number, PREFER, identity and state. -/
def State.takeHello (s : State) (ident durable : Nat) (prefer : Bool) (role : Nat) : State :=
  let s := s.setF Reg.TWIN_STAT_PEER_ROLE role
  match s.twinRole with
  | 1 =>
    if role = 4 then s.twinTo 2
    else if role = 1 then (if s.wins durable prefer ident then s.activeAlone else s.twinTo 2)
    else s
  | 6 => if role = 4 then s.twinTo 2 else s
  | 5 => if role = 4 ∧ !s.flag Reg.TWIN_CTRL_FENCE ∧ bitAt (s.getF Reg.TWIN_STAT_PATHS) 0 = 1 then s.twinTo 2 else s
  | 4 =>
    if role = 4 then s.dualActive durable prefer ident
    else if s.paired ∧ role ≠ 3 then s.setPaired false
    else if s.twin.sync.isSome ∧ role ≠ 2 ∧ role ≠ 3 then { s with twin := { s.twin with sync := none, snap := [], snapDue := false } }.dropLink
    else s
  | _ => s

/-- R307: a HELLO; one from another identity is ignored and recorded. It counts only under the key of a meeting (R407). -/
def execTwinHello (ident : BitVec 45) (durable : BitVec 48) (prefer : Bool) (role : BitVec 3) (s : State) :
    Host.Outcome State Fault Refusal :=
  if !s.flag Reg.TWIN_CTRL_ENABLE ∨ s.twinRole = 0 then idle s
  else if ident.toNat ≠ s.partnerIdent then .next (s.refuse 0x30 0x0102)
  else s.onLink fun s => s.takeHello ident.toNat durable.toNat prefer role.toNat

/-! ## Meetings -/

/-- R407: this twin makes an X448 key and a nonce and sends its KEY_OFFER on all three paths; it needs the TRNG and its identity key. -/
def State.offer (s : State) : State :=
  if s.getF Reg.TRNG_STAT_STATE ≠ 2 ∨ !(s.slot 4).full then s
  else
    let (k, s) := s.drawBytes 56
    let (n, s) := s.drawBytes 32
    let b := [0x21] ++ x448 k x448Base ++ leBytes 6 s.ownIdent ++ n ++ leBytes 6 s.durableOrder ++
      [if s.flag Reg.TWIN_CTRL_PREFER then 1 else 0, BitVec.ofNat 8 s.twinRole]
    let b := b ++ edSign (s.slot 4).key false b
    let s : State := { s with twin := { s.twin with meeting := k ++ n } }
    let s := if s.tongsUp then s.emit 13 b else s
    (s.ethSend 0 (s.partnerFrame b)).ethSend 1 (s.partnerFrame b)

/-- R407: a meeting: the pair key is due, also after LOSS_MS of silence on every path. -/
def execTwinMeeting (s : State) : Host.Outcome State Fault Refusal :=
  if !s.flag Reg.TWIN_CTRL_ENABLE ∨ s.twinRole = 0 then idle s
  else if s.twin.pairedKey then
    if s.allSilent then .next { s with twin := { s.twin with pairedKey := false, meeting := [] } }.offer else idle s
  else if s.twin.meeting.isEmpty then .next s.offer
  else idle s

/-- R407: the pair key of a meeting; of the two nonces that of the lower identity comes first. -/
def State.agreedKey (s : State) (pub nonce : Bytes) (ident : Nat) : Bytes :=
  let shared := x448 (s.twin.meeting.take 56) pub
  let mine := s.twin.meeting.drop 56
  let a := s.ownIdent
  let tail := if a < ident then leBytes 6 a ++ leBytes 6 ident ++ mine ++ nonce else leBytes 6 ident ++ leBytes 6 a ++ nonce ++ mine
  kmac shared (ascii "PAIR" ++ tail) 32

/-- R384, R407: slot 5 takes the pair key; the counters of the link and the lease begin anew. -/
def State.takePairKey (s : State) (key : Bytes) : State :=
  let s := s.loadSlot 5 key { dest := 2 ^ Dest.twin, usage := 0xF, gen := (s.slot 5).gen + 1 }
  { s.dropLink with twin := { s.dropLink.twin with pairedKey := true, meeting := [], linkSeq := 0, rxSeq := 0, macSeq := 0, leaseCtr := 0, taken := 0, accepted := 0, asked := [] } }

/-- R407: a KEY_OFFER of the partner; `valid` that its signature verifies against the partner identity key of the signed configuration. A twin that has
made no offer makes its own. -/
def execTwinKeyOfferRx (path : Fin 3) (pub nonce : Bytes) (ident : BitVec 45) (durable : BitVec 48) (prefer : Bool) (role : BitVec 3) (valid : Bool)
    (s : State) : Host.Outcome State Fault Refusal :=
  if !s.flag Reg.TWIN_CTRL_ENABLE ∨ s.twinRole = 0 then idle s
  else if ident.toNat ≠ s.partnerIdent ∨ !valid then .next { s.refuse 0x30 0x0102 with twin := { s.twin with meeting := [] } }
  else
    let s := if s.twin.meeting.isEmpty then s.offer else s
    if s.twin.meeting.isEmpty then .next s
    else .next (((s.takePairKey (s.agreedKey pub nonce ident.toNat)).heardOn path.val true).settling fun s =>
      s.takeHello ident.toNat durable.toNat prefer role.toNat)

/-! ## The lease -/

/-- R321, R426: while paired, the active asks for the lease every 2 ms; in a stop sequence it does not. -/
def execTwinLeaseRenew (s : State) : Host.Outcome State Fault Refusal :=
  let due : Bool := match s.twin.asked with
    | [] => true
    | a :: _ => decide (a.2 + 2000000 ≤ s.tb1)
  if s.paired && due && s.power.stop.isNone then
    let c := s.twin.leaseCtr + 1
    let s : State := { s with twin := { s.twin with leaseCtr := c, asked := ((c, s.tb1) :: s.twin.asked).take 8 } }
    .next (s.sendNotice 0 c 7)
  else idle s

/-- R321, R324: a LEASE_REQ. A twin in STANDBY grants it on the path it came by; a DESYNCED one grants it and says that it is DESYNCED. The same counter may
come by each path. -/
def execTwinLeaseReqRx (path : Fin 3) (counter : BitVec 64) (authentic : Bool) (s : State) : Host.Outcome State Fault Refusal :=
  if !s.flag Reg.TWIN_CTRL_ENABLE ∨ s.twinRole = 0 ∨ !authentic ∨ s.pairKey.isNone then idle s
  else
    let s := s.heardOn path.val true
    let c := counter.toNat
    if s.twinRole = 3 ∧ s.twin.accepted ≤ c then
      let s : State := { s with twin := { s.twin with accepted := c, granted := some s.tb1, leaseEnd := s.tb1 + 10000000 } }
      .next (s.sendNotice 1 c (2 ^ path.val))
    else if s.twinRole = 5 then .next ((s.sendNotice 1 c (2 ^ path.val)).sendNotice 3 0 (2 ^ path.val))
    else .next s

/-- R321, R322: a LEASE_GRANT. One whose counter is not new, or that answers no request, is ignored; a fenced twin returns to ACTIVE on a grant from a
partner in STANDBY that answers a request of before, while the lease that it gives lasts. -/
def execTwinLeaseGrantRx (path : Fin 3) (counter : BitVec 64) (fromStandby : Bool) (authentic : Bool) (s : State) :
    Host.Outcome State Fault Refusal :=
  if !s.flag Reg.TWIN_CTRL_ENABLE ∨ s.twinRole = 0 ∨ !authentic ∨ s.pairKey.isNone then idle s
  else
    let s := s.heardOn path.val true
    let c := counter.toNat
    match s.twin.asked.find? (fun a => a.1 == c) with
    | none => .next s
    | some a =>
      if c ≤ s.twin.taken then .next s
      else
        let endAt := a.2 + 10000000
        if s.paired then .next { s with twin := { s.twin with taken := c, leaseEnd := endAt } }
        else if s.twinRole = 6 ∧ fromStandby ∧ s.tb1 < endAt then
          let t := s.settling fun s => (s.twinTo 4).setPaired true
          .next { t with twin := { t.twin with taken := c, leaseEnd := endAt } }
        else .next s

/-- R322: the lease of the active expires: it enters FENCED. -/
def execTwinLeaseExpiry (s : State) : Host.Outcome State Fault Refusal :=
  if s.paired ∧ s.twin.leaseEnd ≤ s.tb1 then .next (s.settling fun s => s.twinTo 6) else idle s

/-- R322: a fenced twin says so on all three paths every 2 ms. -/
def execTwinFencedNotice (s : State) : Host.Outcome State Fault Refusal :=
  if s.twinRole = 6 ∧ s.twin.noticeAt + 2000000 ≤ s.tb1 then
    .next { s.sendNotice 2 0 7 with twin := { (s.sendNotice 2 0 7).twin with noticeAt := s.tb1 } }
  else idle s

/-- R324, R327, R329: a notice of the partner: FENCED or DESYNCED, or the decision DROP of the head end. On DESYNCED, the active is alone and acknowledges again; on
DROP, the standby enters DESYNCED. -/
def execTwinNoticeRx (path : Fin 3) (kind : TwinNotice) (authentic : Bool) (s : State) : Host.Outcome State Fault Refusal :=
  if !s.flag Reg.TWIN_CTRL_ENABLE ∨ s.twinRole = 0 ∨ !authentic ∨ s.pairKey.isNone then idle s
  else match kind with
  | .fenced => .next ((s.heardOn path.val false).setF Reg.TWIN_STAT_PEER_ROLE 6)
  | .desynced =>
    let s := (s.heardOn path.val false).setF Reg.TWIN_STAT_PEER_ROLE 5
    if s.paired then .next (s.settling fun s => s.setPaired false) else .next s
  | .drop =>
    let s := s.heardOn path.val true
    if s.twinRole = 3 then .next (s.settling State.stepDown) else .next s

/-- R83, R323: the open group closes at once, where it holds an item and its edge has room; else at the next close. -/
def State.closeNow (s : State) : State :=
  if s.path.count = 0 then s
  else if s.hasCredit 0x118 ∧ s.twin.groupsDue.isEmpty then s.markEdge ((s.groupSeq + 1) % 2 ^ 48) s.path.lastItem
  else { s with path := { s.path with closeAt := s.tb1 } }

/-- R323: a twin in STANDBY acquires the lease: 12 ms since its last grant, and nothing but notices and keep-alives in the last 2 ms. -/
def execTwinAcquire (s : State) : Host.Outcome State Fault Refusal :=
  if s.twinRole = 3 ∧ s.twin.granted.getD s.twin.since + 12000000 ≤ s.tb1 ∧ s.twin.heardReal + 2000000 ≤ s.tb1 then
    .next (s.settling fun s =>
      let s := (s.activeAlone.count Reg.TWIN_TAKEOVER_CNT_CNT).irq Reg.TWIN_IRQ_ACQUIRED
      (s.event .twinTakeover 0x30 (leBytes 6 s.orderNext)).closeNow)
  else idle s

/-- R324: the Tongs link is down for LOSS_MS: a twin in STANDBY enters DESYNCED. -/
def execTongsLoss (s : State) : Host.Outcome State Fault Refusal :=
  if s.twinRole = 3 ∧ bitAt (s.getF Reg.TWIN_STAT_PATHS) 0 = 0 ∧
      s.twin.heard.headD 0 + s.getF Reg.TWIN_TONGS_CFG_LOSS_MS * 1000000 ≤ s.tb1 then
    .next (s.settling State.stepDown)
  else idle s

/-- R306: a write of `TWIN.CTRL.FENCE`. -/
def State.twinFence (s : State) (v : Bool) : State :=
  let s := s.setF Reg.TWIN_CTRL_FENCE (if v then 1 else 0)
  if v ∧ s.twinRole ≠ 0 ∧ s.twinRole ≠ 5 then s.stepDown else s

/-- R306: a write of `TWIN.CTRL.FENCE`. -/
def execTwinFenceWrite (req : Req) (value : Bool) (s : State) : Host.Outcome State Fault Refusal :=
  .next (s.onT req Reg.TWIN_CTRL_FENCE (if value then 1 else 0) fun s => s.settling fun s => s.twinFence value)

/-- R322, R329: a write of DISSOLVE: ACTIVE alone, from SEEKING, FENCED or ACTIVE. -/
def execTwinDissolve (req : Req) (s : State) : Host.Outcome State Fault Refusal :=
  .next (s.onField req Reg.TWIN_CTRL_DISSOLVE fun s => s.settling fun s =>
    if s.twinRole = 1 ∨ s.twinRole = 6 then s.activeAlone
    else if s.twinRole = 4 then s.setPaired false
    else s.refuseAt req Reg.TWIN_CTRL_DISSOLVE 0x0101)

/-! ## Planned handover -/

/-- R325: HANDOVER follows every record up to X, once the order queue has room for it. -/
def State.sendHandover (s : State) : State :=
  match s.twin.handover with
  | some x =>
    if s.paired ∧ s.twin.bounds.isEmpty ∧ s.hasCredit 0x180 then
      let b := (List.range 10).map s.outIndex
      { s.feed (.handover x b) with twin := { (s.feed (.handover x b)).twin with bounds := b } }
    else s
  | none => s

/-- R325: a write of SWAP on a paired active. -/
def execTwinSwap (req : Req) (s : State) : Host.Outcome State Fault Refusal :=
  .next (s.onField req Reg.TWIN_CTRL_SWAP fun s =>
    if !s.paired then s.refuseAt req Reg.TWIN_CTRL_SWAP 0x0101
    else if s.twin.handover.isSome then s
    else
      let s : State := { s with twin := { s.twin with handover := some ((s.orderNext + 2 ^ 48 - 1) % 2 ^ 48), bounds := [] } }
      s.sendHandover)

/-- R325: has the twin committed every order number up to `x`? -/
def State.committedTo (s : State) (x : Nat) : Bool := s.commitNext != x && precedes x s.commitNext

/-- R325: a twin in STANDBY that has committed X becomes ACTIVE, paired, and returns HANDOVER. -/
def State.takeHandover (s : State) : State :=
  match s.twin.handover with
  | some x =>
    if s.twinRole = 3 ∧ s.committedTo x ∧ (s.queue 0x181).items.isEmpty ∧ s.hasCredit 0x180 then
      let b := s.twin.bounds
      let s := ((s.twinTo 4).setPaired true).setF Reg.TWIN_STAT_PEER_ROLE 3
      let s : State := { s with twin := { s.twin with bounds := b } }
      s.feed (.handover x b)
    else s
  | none => s

/-- R325: a HANDOVER record: on the standby the roles change once X is committed; on the old active the handover is complete. -/
def execTwinHandoverRx (x : BitVec 48) (bounds : List (BitVec 48)) (s : State) : Host.Outcome State Fault Refusal :=
  s.onRecord fun s =>
    if s.twinRole = 3 then
      let s : State := { s with twin := { s.twin with handover := some x.toNat, bounds := bounds.map (·.toNat) } }
      s.takeHandover
    else if s.paired ∧ s.twin.handover = some x.toNat then
      let b := s.twin.bounds
      let s := (s.twinTo 3).setF Reg.TWIN_STAT_PEER_ROLE 4
      { s with twin := { s.twin with bounds := b } }
    else s

/-! ## Output comparison -/

/-- R326: the partner's digest of an output. -/
def execTwinDigestRx (stream : Fin 10) (index : BitVec 48) (digest : BitVec 64) (s : State) : Host.Outcome State Fault Refusal :=
  s.onRecord fun s =>
    let s : State := { s with twin := { s.twin with theirs := keepDigest s.twin.theirs ⟨stream.val, index.toNat, digest.toNat, s.tb1⟩ } }
    s.compareDigests stream.val index.toNat

/-- R326: digests without a counterpart 100 ms after they were sent. -/
def execTwinDigestMissing (s : State) : Host.Outcome State Fault Refusal :=
  let late := fun (d : Digest) => decide (d.at_ + 100000000 ≤ s.tb1)
  let n := (s.twin.mine.filter late).length
  if n = 0 then idle s
  else
    let s : State := { s with twin := { s.twin with mine := s.twin.mine.filter (fun d => !late d) } }
    .next (s.count Reg.TWIN_MISSING_CNT_CNT n)

/-- R327: the disagreements of the last 3,600 s that both twins passed. -/
def State.recentDisputes (s : State) : List Nat := s.twin.disputes.filter (fun t => decide (s.tb1 < t + 3600000000000))

/-- R327: both twins passed: the disagreement is counted, and the third within an hour waits for the head end. -/
def State.bothPassed (s : State) : State :=
  let l := s.tb1 :: s.recentDisputes
  let s : State := { s with twin := { s.twin with disputes := l } }
  if 3 ≤ l.length ∧ !s.flag Reg.TWIN_STAT_DISPUTE then
    ((s.setF Reg.TWIN_STAT_DISPUTE 1).irq Reg.TWIN_IRQ_DISPUTE).event .twinDispute 0x30 (leBytes 1 l.length)
  else s

/-- R327: after a disagreement both twins test their path; `mine` and `theirs` say which tests passed. -/
def execTwinDisputeTest (mine theirs : Bool) (s : State) : Host.Outcome State Fault Refusal :=
  if !s.twin.testDue then idle s
  else
    let s : State := { s with twin := { s.twin with testDue := false } }
    .next (s.settling fun s =>
      if s.twinRole = 4 then
        if mine && theirs then s.bothPassed else if !mine && theirs then s.stepDown else s
      else if s.twinRole = 3 then
        if mine && theirs then s.bothPassed else if mine then s else s.stepDown
      else s)

/-- R327: RESOLVE KEEP. -/
def execTwinResolveKeep (req : Req) (s : State) : Host.Outcome State Fault Refusal :=
  .next (s.onField req Reg.TWIN_CTRL_RESOLVE fun s => s.settling fun s =>
    if s.twinRole = 4 then s.setF Reg.TWIN_STAT_DISPUTE 0 else s)

/-- R327: RESOLVE STEP_DOWN. -/
def execTwinResolveStepDown (req : Req) (s : State) : Host.Outcome State Fault Refusal :=
  .next (s.onField req Reg.TWIN_CTRL_RESOLVE fun s => s.settling fun s =>
    if s.twinRole = 4 then (s.setF Reg.TWIN_STAT_DISPUTE 0).stepDown else s)

/-- R327: RESOLVE DROP: the partner is told to enter DESYNCED, and this twin is alone. -/
def execTwinResolveDrop (req : Req) (s : State) : Host.Outcome State Fault Refusal :=
  .next (s.onField req Reg.TWIN_CTRL_RESOLVE fun s => s.settling fun s =>
    if s.paired then (((s.setF Reg.TWIN_STAT_DISPUTE 0).sendNotice 4 0 7).setPaired false).setF Reg.TWIN_STAT_PEER_ROLE 5 else s)

end Sys2Proof.Machine
end

