-- ==== Sys2Proof/Machine/TwinRx.lean ====
section
/-! DEFINITION. The records that a twin takes from its partner (R312–R317, R328), and the return of a repaired twin (R330–R332). -/

namespace Sys2Proof.Machine

/-! ## Order records -/

/-- R316: the record of a frame that this twin lost fills its replay slot again. -/
def State.refill (s : State) (n : Nat) (f : Frame) : State := (s.write (replayAddr n) f.raw).writeMeta n f

/-- R312, R323: the record with the next order number is taken. -/
def State.setNextIn (s : State) (n : Nat) : State :=
  match s.twin.takeNext with
  | some _ => { s with twin := { s.twin with takeNext := if n % 2 ^ 48 = s.orderNext then none else some (n % 2 ^ 48) } }
  | none => s.setOrderNext n

/-- R312: a FRAME record: the frame takes the order number, stamp, calendar generation and bank that the record gives. None while its replay slot is not
free. -/
def State.takeFrame (s : State) (b : Bytes) : Option State :=
  let (n, f) := frameOfRecord b
  if (s.flight n).isSome then some (s.refill n f)
  else if precedes n s.nextIn then some s
  else if s.replayCredit n then some ((s.setNextIn (n + 1)).launch n f)
  else none

/-- R313: the marks that a MARKER record moves, so that this twin's own markers continue from them. -/
def State.noteMark (s : State) : Ordered → State
  | .balMarker k => { s with bal := { s.bal with mark := some k } }
  | .demandMarker m _ => { s with bill := { s.bill with demMark := some m } }
  | .closeMarker b sk _ => { s with bill := { s.bill with closeMark := some b, skipTo := if sk then max s.bill.skipTo b else s.bill.skipTo } }
  | .ckptMarker k => { s with bill := { s.bill with ckptMark := some k } }
  | _ => s

/-- R312: an ordered item takes the order number that its record gives. None while it has no replay or reorder slot. -/
def State.takeOrdered (s : State) (n : Nat) (o : Ordered) : Option State :=
  if precedes n s.nextIn then some s
  else if s.replayCredit n && s.slotFree n { body := .ordered o } then
    some (((s.noteMark o).setNextIn (n + 1)).launchOrdered n o)
  else none

/-- R316: the frame at the order number is discarded; one whose record this twin lost is not asked for any more. -/
def State.takeDiscard (s : State) (n : Nat) : State :=
  match s.flight n with
  | some fl => ((s.freeReplay n).endFlight n fl).release
  | none =>
    let s : State := { s with twin := { s.twin with missing := s.twin.missing.filter (fun e => e.1 != n) } }
    if n = s.nextIn then s.setNextIn (n + 1) else s

/-- R317: the groups whose last order number this twin has committed close, in order. -/
def State.closeDue' (s : State) : State :=
  match s.twin.groupsDue with
  | (q, l) :: r =>
    if s.committedTo l ∧ s.hasCredit 0x118 then
      let s : State := { s with twin := { s.twin with groupsDue := r } }
      s.markEdge q l
    else s
  | [] => s

/-- R312, R317: a twin takes a record. None while it must wait. -/
def State.takeRecord (s : State) : Rec → Option State
  | .frame b => s.takeFrame b
  | .ordered n o => s.takeOrdered n o
  | .discard n _ => some (s.takeDiscard n)
  | .group q l => some ({ s with twin := { s.twin with groupsDue := s.twin.groupsDue ++ [(q, l)] } } : State).closeDue'
  | _ => some s

/-- R330: the bytes that the catch-up buffer holds. -/
def State.caughtBytes (s : State) : Nat := (s.twin.caught.map (fun r => (recBytes r).length)).sum

/-- R316, R333: order numbers whose records this twin lost before it took them are asked for again, while the order queue has credit. -/
def State.askAgain (s : State) : State :=
  s.twin.missing.foldl (fun t e =>
    if !e.2 ∧ t.hasCredit 0x180 then
      { t.enq 0x180 { body := .record (.resendReq e.1) } with
        twin := { t.twin with missing := t.twin.missing.map (fun m => if m.1 = e.1 then (m.1, true) else m) } }
    else t) s

/-- R316: the record of an order number is lost here. -/
def State.loseRecord (s : State) (r : Rec) : State :=
  match r.brings with
  | some n => ({ s with twin := { s.twin with missing := s.twin.missing ++ [(n, false)] } } : State).askAgain
  | none => s

/-- R316: does a record wait for one of a lower order number that has been asked for again? -/
def State.waitsFor (s : State) (r : Rec) : Bool :=
  match r with
  | .group _ l => s.twin.missing.any (fun m => !precedes l m.1 || m.1 == l)
  | _ => match r.brings with
    | some n => s.twin.missing.any (fun m => precedes m.1 n && m.1 != n)
    | none => false

/-- R312, R316, R333: the record at the front of the queue of records from the partner is taken, once it need not wait; a poisoned one is lost, and asked for again. -/
def State.drainIn (s : State) : State :=
  match (s.queue 0x181).items.head?, s.deq 0x181 with
  | some { body := .record r, poison := bad }, some (_, t) =>
    if bad ≠ 0 then t.loseRecord r
    else if s.waitsFor r then s
    else match t.takeRecord r with
      | some u => u
      | none => s
  | _, _ => if s.twin.takeNext.isSome then { s with twin := { s.twin with takeNext := none } } else s

/-- R316: a record that was asked for again goes to the front. -/
def State.putFirst (s : State) (n : Nat) (i : Item) : State :=
  let q := s.queue 0x181
  let s := s.setQueue 0x181 { q with items := i :: q.items, credits := q.credits - 1 }
  { s with twin := { s.twin with missing := s.twin.missing.filter (fun e => e.1 != n) } }

/-- R312, R316: an order record of the partner enters the queue of records from it; `parity` words of it fail their check as it is read (R55). -/
def State.storeIn (s : State) (r : Rec) (parity : Nat) : State :=
  let i : Item := { body := .record r, poison := parity }
  match r.brings with
  | some n => if s.twin.missing.any (fun e => e.1 == n) then s.putFirst n i else s.enq 0x181 i
  | none => s.enq 0x181 i

/-- R309: is there room for an order record? One without room is not acknowledged, and its partner sends it again. -/
def State.roomFor (s : State) : Bool := s.twinRole != 3 || s.hasCredit 0x181

/-- R312, R330: an order record from the active. In SYNCING it waits in the catch-up buffer; in STANDBY it enters its queue. -/
def State.onOrder (s : State) (r : Rec) (parity : Nat := 0) : Host.Outcome State Fault Refusal :=
  if !s.roomFor then s.onLink (fun s => s)
  else s.onRecord fun s =>
    if s.twinRole = 2 ∧ s.twin.sync.isSome then { s with twin := { s.twin with caught := s.twin.caught ++ [r] } }
    else if s.twinRole = 3 then (s.storeIn r parity).drainIn
    else s

/-- R312, R330: the oldest record of the catch-up buffer is taken, once the copy is complete. -/
def State.drainCaught (s : State) : State :=
  match s.twin.caught with
  | r :: l =>
    if s.twinRole = 2 ∧ !s.twin.copyDone then s
    else match ({ s with twin := { s.twin with caught := l } } : State).takeRecord r with
      | some t => t
      | none => s
  | [] => s

/-- R312, R330: what remains of the catch-up buffer, fewer than 8,192 records, goes on in the queue of records from the partner. -/
def State.caughtUp (s : State) : State :=
  s.twin.caught.foldl (fun t r => t.enq 0x181 { body := .record r }) { s with twin := { s.twin with caught := [] } }

/-- R312, R316: a FRAME record; `parity` words of it fail their check as it is read from queue 0x181 (R55). -/
def execTwinFrameRx (record : Bytes) (parity : Nat) (s : State) : Host.Outcome State Fault Refusal := s.onOrder (.frame record) parity

/-- R312, R313: a COMMAND record: a table command, a balance command, or a token of the panel or of software. -/
def execTwinCommandRx (order : BitVec 48) (command : TwinCommand) (s : State) : Host.Outcome State Fault Refusal :=
  let o : Ordered := match command with
    | .table b => .dirCmd (slice b 0 64) 1
    | .balance b => .balCmd (slice b 0 64 ++ [1])
    | .token m d sw => .token d m.toNat (if sw then 2 else 1)
  s.onOrder (.ordered order.toNat o)

/-- R312: a MARKER record; `gen` is the generation of a DEMAND, `skipped` and `at_` the SKIPPED_TIME and the instant of a CLOSE (log entry 105). -/
def execTwinMarkerRx (order : BitVec 48) (kind : MarkerKind) (k : Word) (gen : BitVec 16) (skipped : Bool) (at_ : Word) (s : State) :
    Host.Outcome State Fault Refusal :=
  let o : Ordered := match kind with
    | .bal => .balMarker k.toNat
    | .demand => .demandMarker k.toNat gen.toNat
    | .close => .closeMarker k.toNat skipped at_.toNat
    | .ckpt => .ckptMarker k.toNat
  s.onOrder (.ordered order.toNat o)

/-- R314: a TXN record. -/
def execTwinTxnRx (order : BitVec 48) (values : List (BitVec 8 × BitVec 12 × Word)) (s : State) : Host.Outcome State Fault Refusal :=
  s.onOrder (.ordered order.toNat (.txn (values.map (fun v => (v.1.toNat, v.2.1.toNat, v.2.2.toNat))) false))

/-- R312: a JOIN record. -/
def execTwinJoinRx (order : BitVec 48) (port : Fin 8) (ident : BitVec 64) (addr : BitVec 16) (slot : BitVec 16) (s : State) :
    Host.Outcome State Fault Refusal :=
  s.onOrder (.ordered order.toNat (.join (joinBytes port.val ident.toNat addr.toNat slot.toNat)))

/-- R316: a DISCARD record. -/
def execTwinDiscardRx (order : BitVec 48) (s : State) : Host.Outcome State Fault Refusal := s.onOrder (.discard order.toNat 0)

/-- R317: a GROUP record. -/
def execTwinGroupRx (seq : BitVec 48) (last : BitVec 48) (s : State) : Host.Outcome State Fault Refusal :=
  s.onOrder (.group seq.toNat last.toNat)

/-! ## Records to the active -/

/-- R328: a DURABLE record. -/
def execTwinDurableRx (seq : BitVec 48) (s : State) : Host.Outcome State Fault Refusal :=
  s.onRecord fun s => if s.twinRole = 4 then { s with path := { s.path with peerSeq := max s.path.peerSeq seq.toNat } } else s

/-- R313, R315: a FORWARD record: a frame as if received on this twin's port of that number, which removes repeats by address and SEQ (R246), or, with the panel's port number, a keypad token. -/
def execTwinForwardRx (port : BitVec 4) (link : BitVec 16) (seq : BitVec 8) (frame : Bytes) (s : State) : Host.Outcome State Fault Refusal :=
  s.onRecord fun s =>
    if s.twinRole ≠ 4 then s
    else if port.toNat < 4 then s.plcForwarded port.toNat link.toNat seq.toNat frame
    else if port.toNat < 8 then s.radForwarded (port.toNat - 4) link.toNat seq.toNat frame
    else if port.toNat = 15 ∧ s.flag Reg.BILL_CTRL_ENABLE ∧ s.hasCredit 0x80 then
      s.enq 0x80 { body := .orderedItem (.token (slice frame 4 20) (leAt frame 0 4) 1) }
    else s

/-- R70, R311: the frame that a replay slot holds, from its bytes and its metadata. -/
def State.slotFrame (s : State) (n : Nat) : Frame :=
  let x := sget [] s.path.slotMeta (n % 65536)
  let raw := s.read (replayAddr n) (leAt x 10 2)
  { raw := raw, port := leAt x 8 1 / 16, link := leAt x 16 2, meter := leAt x 6 3 % 2 ^ 20, fmt := leAt x 9 1, stamp := leAt x 12 4, calgen := leAt x 18 2, bank := leAt x 20 1,
    digest := leAt x 24 8 }

/-- R316, R333: the order record of an order number: of an item in flight, or of a frame that its replay slot still holds. -/
def State.recordAgain (s : State) (n : Nat) : Option Rec :=
  match s.flight n with
  | some fl => some (match fl.body with
    | .frame f => .frame (s.frameRecord n f)
    | .ordered o => .ordered n o)
  | none =>
    if s.replayHolder n = n + 1 ∧ !(sget [] s.path.slotMeta (n % 65536)).isEmpty ∧ leAt (sget [] s.path.slotMeta (n % 65536)) 0 6 = n ∧
        !s.anyBad (replayAddr n) (s.slotFrame n).raw.length then some (.frame (s.frameRecord n (s.slotFrame n)))
    else none

/-- R316: a RESEND_REQ: the record goes again. -/
def execTwinResendReqRx (order : BitVec 48) (s : State) : Host.Outcome State Fault Refusal :=
  s.onRecord fun s =>
    match s.recordAgain order.toNat with
    | some r => if s.feedCredit then s.feed r else s
    | none => s

/-! ## Return of a repaired twin -/

/-- R330: the numbers of the records that memory lists anything of. -/
def State.listedRecords (s : State) : List Nat :=
  ((s.mem.filter (fun c => decide (0x0800000000 ≤ c.1) && decide (c.1 < 0x0840000000))).map (fun c => (c.1 - 0x0800000000) / 1024)).eraseDups

/-- R330: the 4 KiB pieces of the tables, nodes, slots and calendar copies that memory lists anything of. -/
def State.listedTables (s : State) : List Nat := ((s.mem.filter (fun c => ckptMem c.1)).map (fun c => c.1 / 4096)).eraseDups

/-- R330, R407: the key slots that Trivet transfers: KEK_A, KEK_B and those of the batch sources. -/
def State.pairSlots (s : State) : List Nat :=
  (([0, 1] ++ (List.range 64).map (fun c => s.getF (Reg.ETH_SRC_CFG_SLOT.win 5 c))).eraseDups).filter (fun n => n != 5 && (s.slot n).full)

/-- R407: a key slot as a unit of the copy. -/
def State.keyUnit (s : State) (n : Nat) : SyncUnit :=
  let k := s.slot n
  .key (BitVec.ofNat 6 n) (aesKwp (s.slot 5).key k.key) k.dest k.usage k.gen

/-- R330: the units of the copy, all as of S. -/
def State.copyUnits (s : State) : List SyncUnit :=
  s.pairSlots.map s.keyUnit ++
    s.listedRecords.map (fun m => .record (BitVec.ofNat 20 m) (s.read (recordAddr m) 1024)) ++
    s.listedTables.map (fun p => .mem (BitVec.ofNat 40 (p * 4096)) (s.read (p * 4096) 4096)) ++
    [.engines s.gens s.bal { s.bill with open_ := none, complete := [], snaps := [] }, .regs (s.regs.filter (fun e => ckptKey e.1))] ++
    ((List.range 8).map (fun k => .nodes (BitVec.ofNat 3 k).toFin (s.port k).nodes)) ++ [.done]

/-- R330: every unit is copied as of S: once the orders before S are committed, and before Ladle changes anything for S. -/
def State.takeSnap (s : State) : State :=
  match s.twin.sync with
  | some n => if s.twin.snapDue ∧ (precedes n s.commitNext ∨ s.commitNext = n) then { s with twin := { s.twin with snapDue := false, snap := s.copyUnits } } else s
  | none => s

/-- R330: does the copy bring the byte at an address: of a record, a table, a node, a slot or a calendar copy? -/
def copied (a : Nat) : Bool := (decide (0x0800000000 ≤ a) && decide (a < 0x0840000000)) || ckptMem a

/-- R18, R330: the items of a queue are discarded and counted, with those that a slot still holds, and every credit is back (log entry 110). -/
def State.emptyQueue (s : State) (q : Nat) : State :=
  let n := (s.queue q).held
  ((s.discardAll q).creditBack q n).count (Reg.qLost q) n

/-- R330: what a syncing twin holds of the path is dropped, and its records and tables make room for the copy. -/
def State.clearForSync (s : State) : State :=
  let s := (List.range 32).foldl (fun t n => t.setLane n { t.lane n with running := none, stalled := false, stored := [], effects := [] }) s
  let s := ([0x80, 0x81, 0x88, 0x89, 0x90, 0xA0, 0xA2, 0xAA, 0x118] ++ (List.range 4).map decryptQ ++ (List.range 32).map plainQ).foldl State.emptyQueue s
  let p := s.path
  { s.setF Reg.FUNL_REPLAY_USE_SLOTS 0 with
    flights := [], verdicts := [], prefetched := [], heldLanes := [],
    path := { p with replay := [], units := [], shadow := [], placed := [], count := 0, groups := [], dupAcks := [], slotMeta := [], lateEdges := [] },
    mem := s.mem.filter (fun c => !copied c.1), bad := s.bad.filter (fun c => !copied c.1), soft := s.soft.filter (fun c => !copied c.1) }

/-- R330, R476: the sync begins. The active takes the next order number as S and copies its state as of S; the syncing twin takes S from it. -/
def execTwinSyncStart (order : BitVec 48) (s : State) : Host.Outcome State Fault Refusal :=
  s.onRecord fun s =>
    if s.twinRole = 4 ∧ s.getF Reg.TWIN_STAT_PEER_ROLE = 2 ∧ s.twin.sync.isNone then
      let n := s.orderNext
      let s := s.sendMeasure
      let s := (s.set2 Reg.TWIN_SYNC_ORDER_LO_ORDER Reg.TWIN_SYNC_ORDER_HI_ORDER n).setF Reg.TWIN_SYNC_DONE_RECORDS 0
      ({ s with twin := { s.twin with sync := some n, snapDue := true } } : State).takeSnap
    else if s.twinRole = 2 ∧ s.twin.sync.isNone ∧ s.twin.retryAt.isNone then
      let n := order.toNat
      let s := s.sendMeasure
      let s := (s.set2 Reg.TWIN_SYNC_ORDER_LO_ORDER Reg.TWIN_SYNC_ORDER_HI_ORDER n).setF Reg.TWIN_SYNC_DONE_RECORDS 0
      let s := s.clearForSync
      { s with twin := { s.twin with sync := some n, caught := [], copyDone := false, badUnits := 0 } }
    else s

/-- R23: does an address lie in a table: the directory with its overflow, the routes, the ledger? -/
def inTables (a : Nat) : Bool := decide (0x0840000000 ≤ a) && decide (a < 0x0858000000)

/-- R134, R146: an entry that the partner's tables hold at an address enters this twin's. -/
def State.enterCopied (old : State) (s : State) (a : Nat) : State :=
  let w (k : Nat) : Nat := old.word a k
  if a < tableBase 1 then (s.dirPlace (w 0) (old.entryIndex a)).1
  else if a < tableBase 2 then (s.putRoute (w 0) (bitsOf (w 1) 31 0) (bitsOf (w 2) 47 0) 0).1
  else s.ledgerInsert (w 0) (bitsOf (w 1) 26 0) (bitsOf (w 1) 30 27) (bitsOf (w 3) 59 0) (bitsOf (w 2) 47 0)

/-- R134, R146: the tables copied, which lie in the buckets of the partner's hash keys, are laid out again in those of this twin's. -/
def State.relayTables (s : State) : State :=
  let l := (((s.mem.filter (fun c => inTables c.1)).map (fun c => c.1 / 32 * 32)).eraseDups).filter s.entryValid
  let t : State := { s with mem := s.mem.filter (fun c => !inTables c.1), dir := { s.dir with tags := [] } }
  let t := [Reg.DIR_DIR_USE_ENTRIES, Reg.DIR_OVF_USE_ENTRIES, Reg.DIR_ROUTE_USE_ENTRIES, Reg.DIR_LEDGER_USE_ENTRIES, Reg.DIR_SUSPECT_CNT_BUCKETS].foldl
    (fun t f => t.setF f 0) t
  l.foldl (fun t a => State.enterCopied s t a) t

/-- R188, R191: a record as a checkpoint before an order number holds it, with the sweeps that wait applied. -/
def State.swept (s : State) (m n : Nat) : Bytes :=
  (if s.recValid m then (s.rollRecord m (some n)).applySweeps m (some n) else s).read (recordAddr m) 1024

/-- R146, R330, R331: the copy is complete: the tables are laid out, it becomes the checkpoint at S − 1, the order base is loaded, and the archive marks the gap before S. -/
def State.finishCopy (s : State) (n : Nat) : State :=
  let last := (n + 2 ^ 48 - 1) % 2 ^ 48
  let first := s.durableOrder + 1
  let s := s.relayTables.applyCkpt last
  let s := s.setF Reg.BILL_STAT_CKPT_OPEN 0
  let s : State := match s.bill.open_ with
    | some c =>
      let c := { c with records := s.listedRecords.map (fun m => (m, s.swept m n)), swept := true, durable := true }
      { s with bill := { s.bill with open_ := none, complete := (c :: s.bill.complete).take 2 } }
    | none => s
  let s := (s.setOrderNext n).setCommitNext n
  let s : State := { s with twin := { s.twin with copyDone := true }, path := { s.path with headSince := s.tb1, lastItem := last } }
  if first ≤ last then { s with ftl := { s.ftl with gaps := s.ftl.gaps ++ [(first, last)] } } else s

/-- R330: a copy unit is stored. -/
def State.takeUnit (s : State) (n : Nat) : SyncUnit → State
  | .record m b => s.write (recordAddr m.toNat) (slice b 0 1024)
  | .mem a b => if ckptMem a.toNat then s.write a.toNat b else s
  | .engines g x y => { s with gens := g, bal := x, bill := { y with open_ := none, complete := s.bill.complete, snaps := s.bill.snaps } }
  | .regs l =>
    { s with regs := (l.filter (fun e => ckptKey e.1)).foldl (fun t e => sins t e.1 e.2) (s.regs.filter (fun e => !ckptKey e.1)) }
  | .nodes p l => (s.setPort p.val { s.port p.val with nodes := l }).countNodes p.val
  | .key m b dest usage gen =>
    match aesKwpUnwrap (s.slot 5).key b with
    | some key => s.loadSlot m.toNat key { dest := dest, usage := usage, gen := gen }
    | none => s
  | .done => s.finishCopy n

/-- R330, R332: a copy unit of SYNC_DATA; one whose tag fails is not stored, and is counted. -/
def execTwinSyncDataRx (unit : SyncUnit) (tagOk : Bool) (s : State) : Host.Outcome State Fault Refusal :=
  s.onRecord fun s =>
    match s.twin.sync with
    | some n =>
      if s.twinRole ≠ 2 ∨ s.twin.copyDone then s
      else if tagOk then ({ s with twin := { s.twin with badUnits := 0 } } : State).takeUnit n unit |>.copiedTo unit
      else { s with twin := { s.twin with badUnits := s.twin.badUnits + 1 } }
    | none => s

/-- R330: fewer than 8,192 records remain buffered: the syncing twin enters STANDBY. On the active, whose copy has gone, the pair is whole. -/
def execTwinSyncComplete (s : State) : Host.Outcome State Fault Refusal :=
  if s.twinRole = 2 ∧ s.twin.copyDone ∧ s.twin.caught.length < 8192 then
    .next (s.settling fun s => (s.twinTo 3).caughtUp.irq Reg.TWIN_IRQ_SYNC_DONE)
  else if s.twinRole = 4 ∧ s.twin.sync.isSome ∧ !s.twin.snapDue ∧ s.twin.snap.isEmpty then
    .next (s.settling fun s =>
      let last := s.twin.sync.elim 0 (· - 1)
      let s := s.set2 Reg.TWIN_APPLIED_LO_ORDER Reg.TWIN_APPLIED_HI_ORDER (max (s.get2 Reg.TWIN_APPLIED_LO_ORDER Reg.TWIN_APPLIED_HI_ORDER) last)
      let s : State := { s with twin := { s.twin with sync := none } }
      (s.setPaired true).setF Reg.TWIN_STAT_PEER_ROLE 3)
  else idle s

/-- R332: does a cause to abort the sync hold: a full buffer, LOSS_MS without the link, a partner that has left ACTIVE, or three bad units? -/
def State.syncBad (s : State) : Bool :=
  decide (s.getF Reg.TWIN_SYNC_CFG_BUF_MIB * 2 ^ 20 ≤ s.caughtBytes) ||
    (bitAt (s.getF Reg.TWIN_STAT_PATHS) 0 == 0 && decide (s.twin.heard.headD 0 + s.getF Reg.TWIN_TONGS_CFG_LOSS_MS * 1000000 ≤ s.tb1)) ||
    s.getF Reg.TWIN_STAT_PEER_ROLE != 4 || decide (3 ≤ s.twin.badUnits)

/-- R332: the sync is aborted. -/
def execTwinSyncAbort (s : State) : Host.Outcome State Fault Refusal :=
  if s.twinRole = 2 ∧ s.twin.retryAt.isNone ∧ s.syncBad then
    .next { s.irq Reg.TWIN_IRQ_SYNC_ABORT with twin := { s.twin with
      sync := none, caught := [], copyDone := false, retryAt := some (s.tb1 + s.getF Reg.TWIN_SYNC_CFG_RETRY_S * 1000000000) } }
  else idle s

/-- R306, R332: RETRY_S after an aborted sync the twin returns to SEEKING. -/
def execTwinSyncRetry (s : State) : Host.Outcome State Fault Refusal :=
  match s.twin.retryAt with
  | some t => if s.twinRole = 2 ∧ t ≤ s.tb1 then .next (s.settling fun s => s.twinTo 1) else idle s
  | none => idle s

/-! ## What goes on by itself -/

/-- R309, R312, R316, R325, R328, R330: the work of twin operation between commands: the link is fed, a handover and the groups and records that wait go on. -/
def State.twinTick (s : State) : State :=
  if s.flag Reg.TWIN_CTRL_ENABLE then
    ((((s.drainCaught.drainIn.askAgain.closeDue').takeSnap.sendDurable.sendHandover).settling State.takeHandover)).pumpLink
  else s

end Sys2Proof.Machine
end

