-- ==== Sys2Proof/Machine/View.lean ====
section
/-! DEFINITION. What a read of a register shows (R28–R38, R52, R58, R61): a stored field, or for a field that follows other state, that state; with no side effect (R31). -/

namespace Sys2Proof.Machine

/-! ## The fields that follow other state -/

/-- R42: the code of a tag's state. -/
def TxnState.code : TxnState → Nat
  | .free => 0 | .opened => 1 | .armed => 2 | .committing => 3 | .committed => 4 | .rolledBack => 5

/-- R37: `IRQ_RAW` of a page. -/
def State.irqRaw (s : State) (p : Nat) : Nat :=
  maskWhere 31 (fun b => s.flag (Reg.irqRaw p b)) + s.getF (Reg.ERR_VALID p) * 2 ^ 31 +
    (if p = 0x20 then maskWhere 16 (fun k => (s.getF (Reg.DMA_CH_STAT_EVENTS k) &&& s.getF (Reg.DMA_CH_CFG_IRQ_EN k)) != 0) else 0)

/-- R37: `IRQ_STAT` of a page. -/
def State.irqStat (s : State) (p : Nat) : Nat := s.irqRaw p &&& (s.getF (Reg.IRQ_EN p) + s.getF (Reg.IRQ_EN_HI p) * 2 ^ 29)

/-- R38, R42, R44: the SYS page; a requester sees the tag that its `TXN_SEL` names. -/
def State.liveSys (s : State) (req : Req) (f : Field) : Option Nat :=
  let x := s.txn (s.selOf req)
  if f = Reg.SYS_TXN_STATUS_PAGE then some x.page
  else if f = Reg.SYS_TXN_STATUS_CAUSE then some x.cause
  else if f = Reg.SYS_TXN_STATUS_LATE then some (bit1 x.late)
  else if f = Reg.SYS_TXN_STATUS_OWNER then some x.owner.code
  else if f = Reg.SYS_TXN_STATUS_STATE then some x.state.code
  else if f = Reg.SYS_TXN_SUMMARY_STATES then some ([1, 2, 3, 4].map (fun t => (s.txn t).state.code * 2 ^ (4 * t - 4))).sum
  else if 0x120 ≤ f.off ∧ f.off ≤ 0x13C then
    some (maskWhere 32 (fun n => let p := (f.off - 0x120) * 8 + n; pageExists p && s.flag (Reg.ERR_VALID p)))
  else if 0x140 ≤ f.off ∧ f.off ≤ 0x15C then
    some (maskWhere 32 (fun n => let p := (f.off - 0x140) * 8 + n; pageExists p && s.irqStat p != 0))
  else none

/-- R9, R19, R92, R118, R142, R261, R300, R333: is a queue written by a block of the chip, and not by software? -/
def hardwareWritten (q : Nat) : Bool :=
  !(q == 0x30 || q == 0x40 || q == 0x48 || q == 0x50 || q == 0x68 || q == 0xA1 || q == 0xA9 || q == 0x119 || q == 0x142 || (decide (0x188 ≤ q) && decide (q ≤ 0x1C7) && (q % 8 == 1)))

/-- R9, R19, R61, R118: the producer's domain of a queue: that of the block which fills it. -/
def queueProducer (q : Nat) : Nat :=
  if !hardwareWritten q then (Config.queueProducer q).val
  else if q = 0x88 then 5
  else if q = 0x140 ∨ q = 0x141 ∨ q = 0x180 ∨ q = 0x181 then 7
  else if q = 0x168 then 2
  else if 0x188 ≤ q ∧ q ≤ 0x1C7 ∧ q % 8 ≠ 0 then 8
  else 4

/-- R9, R19, R61: the consumer's domain of a queue: its page's, but for the port receive queues, which the header parser reads. -/
def queueConsumer (q : Nat) : Nat :=
  if q = 0x140 ∨ q = 0x178 ∨ (0x188 ≤ q ∧ q ≤ 0x1C7 ∧ q % 8 = 3) then 4 else (pageDomain (qPage q)).idx

/-- R61: the QMON page shows the queue that `QMON_SEL` names. -/
def State.liveQmon (s : State) (f : Field) : Option Nat :=
  let q := s.getF Reg.QMON_QMON_SEL_QNUM
  let x := s.queue q
  let here := qDepth q != 0
  let cons := queueConsumer q
  let shown (n : Nat) : Option Nat := some (if here then n else 0)
  if f = Reg.QMON_QMON_INFO_PRESENT then some (bit1 here)
  else if f = Reg.QMON_QMON_INFO_CONS_DOM then shown cons
  else if f = Reg.QMON_QMON_INFO_PROD_DOM then shown (queueProducer q)
  else if f = Reg.QMON_QMON_INFO_CROSS then shown (bit1 (queueProducer q != cons))
  else if f = Reg.QMON_QMON_INFO_PACK then shown (bit1 (s.isPack q))
  else if f = Reg.QMON_QMON_INFO_CLASS then shown (bit1 (qPriv q))
  else if f = Reg.QMON_QMON_INFO_LOG2_DEPTH then shown (Nat.log2 (qDepth q))
  else if f = Reg.QMON_QMON_HELD_HELD then shown x.credits
  else if f = Reg.QMON_QMON_OCC_QUEUED then shown x.items.length
  else if f = Reg.QMON_QMON_RET_RETURNING then shown (x.returning + x.held)
  else none

/-- R433, R482–R489, R447: the PWR, AON and EVR pages. -/
def State.liveAon (s : State) (f : Field) : Option Nat :=
  if f = Reg.PWR_DEG_CAUSE_CAUSE then some s.degCause
  else if f = Reg.AON_STAT_LINK_UP then some (s.getF (Reg.ETHP_STAT_LINK 3))
  else if f = Reg.EVR_STAT_CLEARING then some (bit1 (!s.evr.clears.isEmpty))
  else if f = Reg.EVR_STAT_STAGED then some s.evr.staged.length
  else if f = Reg.EVR_RSEQ_NEXT_RSEQ then some s.evr.rseq
  else if f = Reg.EVR_CLEAR_MARK_RSEQ then some s.evr.mark
  else if f = Reg.EVR_OPTIME_LO_SEC then some (s.opTime % 2 ^ 32)
  else if f = Reg.EVR_OPTIME_HI_SEC then some (s.opTime / 2 ^ 32 % 256)
  else if f = Reg.EVR_OPTIME_HM_HOURS then some (min (s.opTime / 3600) (2 ^ 20 - 1))
  else if f = Reg.EVR_OPTIME_HM_SEC then some (s.opTime % 3600)
  else none

/-- R213, R219, R220, R226: the time bases. -/
def State.liveTime (s : State) (f : Field) : Option Nat :=
  if f = Reg.TIME_STAT_TB0_TRUSTED then some (bit1 (decide (2 ≤ s.getF Reg.TIME_STAT_TB0_STATE) || s.flag Reg.RTC_STAT_TIME_VALID))
  else if f = Reg.TIME_STAT_TB3_SLEWING then some (bit1 (decide (1000 < s.tb3Diff.natAbs)))
  else if f = Reg.TIME_TB3_DIFF_NS then some (unsignedOf 32 (max (-(2 ^ 31 : Int)) (min (2 ^ 31 - 1) s.tb3Diff)))
  else if f = Reg.TIME_TB4_PHASE_PHASE then some s.tb4Phase
  else if f = Reg.TIME_TB4_PERIOD_NS then some s.tb4Period
  else if f = Reg.RTC_LOCAL_SEC_SEC then some (s.rtcLocal % 2 ^ 32)
  else none

/-- R389–R391, R448, R457, R418: the pages of the root of trust. -/
def State.liveSec (s : State) (f : Field) : Option Nat :=
  let n := s.getF Reg.KEY_SLOT_SEL_SLOT
  let k := s.slot n
  if f = Reg.KEY_SLOT_ATTR_VALID then some (bit1 k.full)
  else if f = Reg.KEY_SLOT_ATTR_EXPORT then some (bit1 k.export_)
  else if f = Reg.KEY_SLOT_ATTR_DEST then some k.dest
  else if f = Reg.KEY_SLOT_ATTR_USAGE then some k.usage
  else if f = Reg.KEY_SLOT_ATTR_LEN then some k.share.length
  else if f = Reg.KEY_SLOT_GEN_ACTIVE then some (min 15 (s.holders n).length)
  else if f = Reg.KEY_SLOT_GEN_OWNER then some k.owner
  else if f = Reg.KEY_SLOT_GEN_GEN then some k.gen
  else if f = Reg.CIPH_STAT_UNITS_READY then some s.unitsReady
  else if f = Reg.LCS_STAT_LC_PENDING then some (bit1 (s.sec.otp.lifecycle != s.getF Reg.LCS_STAT_LC))
  else if f = Reg.LCS_STAT_LC_NEXT then some s.sec.otp.lifecycle
  else if f = Reg.LCS_STAT_CHAL_VALID then some (bit1 s.chalValid)
  else none

/-- R466–R473: the UPD page shows the session and the part that `PART_SEL` names. -/
def State.liveUpd (s : State) (f : Field) : Option Nat :=
  let u := s.upd
  let n := s.getF Reg.UPD_PART_SEL_PART
  let p := u.part n
  if f = Reg.UPD_STAT_STATE then some u.state
  else if f = Reg.UPD_STAT_PART then some (manPart u.manifest)
  else if f = Reg.UPD_STAT_UNCONF then some (maskWhere 3 (fun i => (u.part i).unconf))
  else if f = Reg.UPD_STAT_ACTIVATING then some (bit1 u.act.isSome)
  else if f = Reg.UPD_BUILD_LO_BUILD then some (manBuild u.manifest % 2 ^ 32)
  else if f = Reg.UPD_BUILD_HI_BUILD then some (manBuild u.manifest / 2 ^ 32)
  else if f = Reg.UPD_PIECES_TOTAL_CNT then some u.total
  else if f = Reg.UPD_PIECES_HAVE_CNT then some u.bitmap.length
  else if f = Reg.UPD_MISSING_NEXT_INDEX then some u.missing
  else if f = Reg.UPD_SECVER_VER then some (manSecver u.manifest)
  else if f = Reg.UPD_PART_INFO_UNCONFIRMED then some (bit1 p.unconf)
  else if f = Reg.UPD_PART_INFO_COPY then some p.copy
  else if f = Reg.UPD_PART_INFO_PREV_VALID then some (bit1 p.prev)
  else if f = Reg.UPD_PART_SECVER_VER then some (manSecver (u.current n).manifest)
  else if f = Reg.UPD_PART_MEAS_LO_MEAS then some (leAt (u.current n).meas 0 4)
  else if f = Reg.UPD_PART_MEAS_HI_MEAS then some (leAt (u.current n).meas 4 4)
  else if f = Reg.UPD_CONFIRM_LEFT_SEC then some (if p.unconf then p.windowEnd - s.opTime else 0)
  else none

/-- R68, R70, R75, R112, R328: Funnel and Ladle. -/
def State.livePath (s : State) (f : Field) : Option Nat :=
  let cause := s.holdCause
  if f = Reg.FUNL_STAT_HOLDING then some (bit1 (cause != 0))
  else if f = Reg.FUNL_STAT_HOLD_CAUSE then some cause
  else if f = Reg.FUNL_STAT_REPLAYING then some (bit1 (!(s.flightsWhere (fun _ fl => fl.again)).isEmpty))
  else if f = Reg.LADL_STAT_PAIRED then some (bit1 s.paired)
  else if f = Reg.LADL_WINDOW_USE_SLOTS then some (s.queue 0x88).held
  else none

/-- R115–R117, R122: the SIEV page shows the group that `LANEMAP_SEL` names. -/
def State.liveSiev (s : State) (f : Field) : Option Nat :=
  let e := s.mapEntry (s.getF Reg.SIEV_LANEMAP_SEL_GROUP)
  if f = Reg.SIEV_STAT_LANE_FENCED then some (bit1 (!(s.lanesIn .fenced).isEmpty))
  else if f = Reg.SIEV_STAT_IN_SERVICE then some (s.lanesIn .service).length
  else if f = Reg.SIEV_FENCED_MASK_LANES then some (maskWhere 32 (fun n => s.laneState n == .fenced))
  else if f = Reg.SIEV_SERVICE_MASK_LANES then some (maskWhere 32 (fun n => s.laneState n == .service))
  else if f = Reg.SIEV_LANEMAP_DATA_LANE then some e.lane
  else if f = Reg.SIEV_LANEMAP_DATA_MOVING then some (bit1 e.src.isSome)
  else if f = Reg.SIEV_LANEMAP_DATA_MOVED then some e.moved
  else if f = Reg.SIEV_LANEMAP_CTRL_MOVING_CNT then some s.movingGroups.length
  else none

/-- R187: the UTC second at which billing local time reaches the next boundary, under the current generation's offset and DST; 0 while there is none. -/
def State.nextClose (s : State) : Nat :=
  if s.getF Reg.BILL_CLOSE_CFG_MODE < 2 then
    ((s.boundaryAt (max (s.lastBoundary s.billLocal.toNat) (s.getF Reg.BILL_LAST_CLOSED_B) + 1) : Int) - s.gen.off * 900 - s.gen.dst * 3600).toNat
  else 0

/-- R136, R148, R162, R178, R184, R187, R188: the engines. -/
def State.liveEngines (s : State) (f : Field) : Option Nat :=
  if f = Reg.DIR_STAT_OVF_HIGH then some (bit1 (decide (s.getF Reg.DIR_OVF_MARK_ENTRIES ≤ s.getF Reg.DIR_OVF_USE_ENTRIES)))
  else if f = Reg.DIR_STAT_LOCKS then some s.dir.locks.length
  else if f = Reg.BAL_STAT_SWEEPING then some (bit1 (!s.bal.sweeps.isEmpty))
  else if f = Reg.BAL_STAT_BACKLOG then some (s.bal.sweeps.length - 1)
  else if f = Reg.BILL_STAT_DEM_SWEEP then some (bit1 (!s.bill.demSweeps.isEmpty))
  else if f = Reg.BILL_STAT_CLOSE_SWEEP then some (bit1 (!s.bill.sweeps.isEmpty))
  else if f = Reg.BILL_STAT_CLOSE_BACKLOG then some s.bill.sweeps.length
  else if f = Reg.BILL_NEXT_CLOSE_SEC then some s.nextClose
  else if f = Reg.CAL_STAT_GEN_HELD then some (bit1 (decide (1 < s.gens.length)))
  else if f = Reg.CAL_STAT_GENS then some s.gens.length
  else if f = Reg.CAL_ACTIVE_COPY_LO_COPY then some (s.gen.active % 2 ^ 32)
  else if f = Reg.CAL_ACTIVE_COPY_HI_COPY then some (s.gen.active / 2 ^ 32)
  else if f = Reg.CAL_GEN_CUR then some s.gen.id
  else if f = Reg.CAL_GEN_OLDEST then some ((s.gens.getLastD {}).id)
  else if f = Reg.CAL_DST_AT_SEC then some s.gen.dstAt
  else if f = Reg.CAL_PREV_OFFSET then some (unsignedOf 16 s.gen.prevOff)
  else if f = Reg.CAL_PREV_DST then some s.gen.prevDst
  else none

/-- R360: the code of a die's state. -/
def DieMode.code : DieMode → Nat
  | .inService => 0 | .evacuating => 1 | .out => 2 | .failed => 3

/-- R363: the state of a volume. -/
def State.volStateOf (s : State) (v : Nat) : Nat :=
  if s.ftl.header.isNone then 4
  else if s.volState = 0 ∧ v = 2 ∧ s.flag Reg.FTL_STAT_ARCH_FULL then 2 else s.volState

/-- R358–R364: the FTL and the NAND interface; the volume and the die are those that `VOL_SEL` and `DIE_SEL` name. -/
def State.liveMedia (s : State) (f : Field) : Option Nat :=
  let v := s.getF Reg.FTL_VOL_SEL_VOL
  let d := s.getF Reg.FTL_DIE_SEL_DIE
  let here := s.diesFound.contains d
  if f = Reg.FTL_SPARES_BLOCKS then some s.spares
  else if f = Reg.FTL_BLOCKS_GOOD_BLOCKS then some ((s.diesFound.map (fun d => (s.goodBlocks d).length)).sum)
  else if f = Reg.FTL_VOL_INFO_STATE then some (s.volStateOf v)
  else if f = Reg.FTL_VOL_INFO_BLOCKS then some ((s.ftl.header.map (fun h => h.sizes.getD v 0)).getD 0)
  else if f = Reg.FTL_DIE_INFO_STATE then some (if here then (s.die d).mode.code else DieMode.out.code)
  else if f = Reg.FTL_DIE_INFO_GOOD then some (if here then (s.goodBlocks d).length else 0)
  else if f = Reg.FTL_DIE_SPARES_SPARES then some (if here then (s.blocksWith d .spare).length else 0)
  else if f = Reg.NAND_STAT_BUSY then some (bit1 (s.ftl.ops.any (fun o => o.running)))
  else none

/-- R318, R321, R327, R333: the TWIN page. -/
def State.liveTwin (s : State) (f : Field) : Option Nat :=
  let follows := s.twinRole == 2 || s.twinRole == 3
  let applied := if follows then s.commitNext - 1 else s.get2 Reg.TWIN_APPLIED_LO_ORDER Reg.TWIN_APPLIED_HI_ORDER
  if f = Reg.TWIN_STAT_ORDER_FULL then some (bit1 (s.feeds && !s.hasCredit 0x180))
  else if f = Reg.TWIN_LEASE_LEFT_US then some (min 16383 ((s.twin.leaseEnd - s.tb1) / 1000))
  else if f = Reg.TWIN_APPLIED_LO_ORDER then some (applied % 2 ^ 32)
  else if f = Reg.TWIN_APPLIED_HI_ORDER then some (applied / 2 ^ 32)
  else if f = Reg.TWIN_LAG_RECORDS then
    some (if s.feeds then min (2 ^ 23 - 1) (s.orderNext - 1 - max applied (s.twin.sync.elim 0 (· - 1))) else 0)
  else if f = Reg.TWIN_DISPUTE_HOUR_CNT then some (min 255 s.recentDisputes.length)
  else none

/-- R252, R261, R264, R281: the field ports; the node is the one that `NODE_SEL` names. -/
def State.livePort (s : State) (f : Field) : Option Nat :=
  let k := f.page - 0x31
  if f.page < 0x35 then
    let n := s.portNode k (s.getF (Reg.PLC_NODE_SEL_ADDR k))
    let here := (n.map (·.joined)).getD false
    if f = Reg.PLC_NODE_INFO_VALID k then some (bit1 here)
    else if f = Reg.PLC_NODE_INFO_TMGEN_TX k then some ((n.map (·.txGen)).getD 0)
    else if f = Reg.PLC_NODE_INFO_TMGEN_RX k then some ((n.map (·.rxGen)).getD 0)
    else if f = Reg.PLC_NODE_INFO_SLOT k then some ((n.map (·.slot)).getD 0x1FF)
    else if f = Reg.PLC_STAT_SCHEDULE k then some (bit1 (s.plcSchedule k))
    else if f = Reg.PLC_STAT_CALIBRATING k then some (bit1 (s.port k).calEnd.isSome)
    else if f = Reg.PLC_STAT_TX_ACTIVE k then some (bit1 (s.plcSending k))
    else none
  else
    let r := k - 4
    let n := s.portNode k (s.getF (Reg.RAD_NODE_SEL_ADDR r))
    let here := (n.map (·.joined)).getD false
    if f = Reg.RAD_NODE_INFO_VALID r then some (bit1 here)
    else if f = Reg.RAD_NODE_INFO_AGE_MIN r then
      some (if here then min 65535 ((s.tb1 - (n.map (·.heardAt)).getD 0) / (60 * nsPerS)) else 0)
    else if f = Reg.RAD_STAT_TX_ACTIVE r then some (bit1 (decide ((s.port k).txStart ≤ s.tb1) && decide (s.tb1 < (s.port k).txEnd)))
    else if f = Reg.RAD_ASN_LO_ASN r then some (s.asn r % 2 ^ 32)
    else if f = Reg.RAD_ASN_HI_ASN r then some (s.asn r / 2 ^ 32)
    else none

/-- The value of a field that follows other state; none for a stored one. -/
def State.live (s : State) (req : Req) (f : Field) : Option Nat :=
  let now (sel : Field) : Option Nat := some (s.baseOf (s.getF (sel.bankOf req.code)) / 65536 / nsPerS)
  if f.page = 0x00 then s.liveSys req f
  else if f = Reg.TIME_NOW_SEC_LO_SEC then now Reg.TIME_NOW_SEL_BASE
  else if f = Reg.AON_NOW_SEC_LO_SEC then now Reg.AON_NOW_SEL_BASE
  else if f.page = 0x21 then s.liveQmon f
  else if f.page = 0x02 ∨ f.page = 0x03 ∨ f.page = 0x06 then s.liveAon f
  else if f.page = 0x04 ∨ f.page = 0x05 then s.liveTime f
  else if 0x07 ≤ f.page ∧ f.page ≤ 0x09 then s.liveSec f
  else if f.page = 0x0D then s.liveUpd f
  else if f.page = 0x10 ∨ f.page = 0x11 then s.livePath f
  else if f.page = 0x12 then s.liveSiev f
  else if 0x14 ≤ f.page ∧ f.page ≤ 0x17 then s.liveEngines f
  else if f = Reg.PANEL_STAT_KP_STATE then (if s.panelLocked then some 3 else none)
  else if f = Reg.DMA_STAT_ACTIVE then
    some (maskWhere 16 (fun k => s.getF (Reg.DMA_CH_STAT_STATE k) == 1 || s.getF (Reg.DMA_CH_STAT_STATE k) == 2))
  else if f.page = 0x23 ∨ f.page = 0x24 then s.liveMedia f
  else if f.page = 0x30 then s.liveTwin f
  else if f = Reg.PTP_PCFG_TC_PORT 3 then some 0
  else if 0x31 ≤ f.page ∧ f.page ≤ 0x38 then s.livePort f
  else none

/-! ## Words -/

/-- R29, R52: what a read of a field gives: 0 for a write-only one, the shadow for an S-field. -/
def State.view (s : State) (req : Req) (f : Field) : Nat :=
  if f.acc = .wo then 0
  else match s.live req f with
    | some v => v % 2 ^ f.width
    | none => s.getF ((s.alias f).bankOf req.code)

/-- R36: is the block of a page fenced? -/
def State.fenced (s : State) (p : Nat) : Bool :=
  if 0x40 ≤ p ∧ p ≤ 0x5F then s.laneState (p - 0x40) == .fenced
  else if p = 0x30 then s.twinRole == 5 || s.twinRole == 6
  else (blockFields p).any (fun f => f.off == 0x010 && f.lo == 30 && s.flag f)

/-- R36: does the block of a page hold work in progress beside the items of its queues? -/
def State.working (s : State) (p : Nat) : Bool :=
  if p = 0x06 then !s.evr.staged.isEmpty || !s.evr.erases.isEmpty || !s.evr.clears.isEmpty
  else if p = 0x08 then !s.sec.jobs.isEmpty
  else if p = 0x09 then !s.path.units.isEmpty || s.flag Reg.CIPH_STAT_REWRAP_RUN
  else if p = 0x0D then !s.upd.waiting.isEmpty || s.upd.act.isSome
  else if p = 0x10 then !s.path.toParse.isEmpty
  else if p = 0x11 then !s.flights.isEmpty
  else if p = 0x12 then !s.movingGroups.isEmpty || !s.moveQueue.isEmpty
  else if p = 0x14 then
    s.dir.search.isSome || !s.dir.parked.isEmpty || !s.dir.released.isEmpty || !s.dir.learns.isEmpty || !s.dir.messages.isEmpty
  else if p = 0x15 then !s.bal.sweeps.isEmpty || !s.bal.waiting.isEmpty
  else if p = 0x16 then !s.bill.demSweeps.isEmpty || !s.bill.sweeps.isEmpty || s.bill.open_.isSome
  else if p = 0x19 then !s.panel.typed.isEmpty || s.panel.waiting
  else if p = 0x20 then (List.range 16).any (fun n => s.chanState n == 1 || s.chanState n == 2)
  else if p = 0x23 then !s.ftl.jobs.isEmpty
  else if p = 0x24 then !s.ftl.ops.isEmpty
  else if p = 0x2F then !s.uplink.completions.isEmpty
  else if p = 0x30 then s.twin.sync.isSome || !s.twin.caught.isEmpty || !s.twin.window.isEmpty
  else if 0x31 ≤ p ∧ p ≤ 0x38 then !(s.port (p - 0x31)).out.isEmpty || (s.port (p - 0x31)).wait.isSome
  else if 0x40 ≤ p ∧ p ≤ 0x5F then (s.lane (p - 0x40)).running.isSome
  else false

/-- R36, R59: the common bits of `STAT`. READY: the domain runs, the block is not fenced, and its ENABLE, where it has one, is 1; BUSY: one of
its queue ends holds an item, or the block other work. -/
def State.statWord (s : State) (p : Nat) : Nat :=
  let on := (blockFields p).all (fun f => f.off != 0x010 || f.lo != 0 || s.flag f)
  let ends := (List.range 6).filter (fun e => qDepth (8 * p + e) != 0)
  let busy := ends.any (fun e => let x := s.queue (8 * p + e); !x.items.isEmpty || x.held != 0) || s.working p
  bitIf (s.domOn (pageDomain p) && !s.fenced p && on) 31 + bitIf (s.fenced p) 30 + bitIf busy 29 +
    (ends.map (fun e => let l := s.level (8 * p + e); bitIf l.1 (16 + 2 * e) + bitIf l.2 (17 + 2 * e))).sum

/-- R32: the capability bits of `BLK_CAP`. -/
def capWord (p : Nat) : Nat :=
  bitIf ((blockFields p).any (fun f => f.txn == .t)) 31 + bitIf ((blockFields p).any (fun f => f.txn == .s)) 30 +
    ((List.range 6).filter (fun e => qDepth (8 * p + e) != 0)).length * 2 ^ 27

/-- R58: a register of queue end `e` that follows the queue: LEVEL or CREDITS. -/
def State.qendWord (s : State) (p off : Nat) : Nat :=
  let e := (off - 0x080) / 16
  let x := s.queue (8 * p + e)
  if qDepth (8 * p + e) = 0 then 0
  else if off % 16 = 4 then s.fill (8 * p + e) else if off % 16 = 8 then x.credits else 0

/-- R345: the BOOT registers of the NAND page respond to TRUSTED alone. -/
def hiddenBoot (req : Req) (p off : Nat) : Bool := p == 0x24 && decide (0x140 ≤ off) && decide (off ≤ 0x1BC) && req != .trusted

/-- The stored and live fields of a register, in their places. -/
def State.fieldsWord (s : State) (req : Req) (p off : Nat) : Nat :=
  (((fieldsAt p off).filter (fun f => !(off == 0x014 && (f.lo == 30 || f.lo == 31)))).map (fun f => s.view req f * 2 ^ f.lo)).sum

/-- R28–R38: the word that a register shows, with no side effect (R31). -/
def State.viewWord (s : State) (req : Req) (p off : Nat) : Nat :=
  if hiddenBoot req p off then 0
  else if off = 0x008 then capWord p + s.fieldsWord req p off
  else if off = 0x014 then s.statWord p + s.fieldsWord req p off
  else if off = 0x020 then s.irqRaw p
  else if off = 0x028 then s.irqStat p
  else if off = 0x040 then s.stagedOn p + s.fieldsWord req p off
  else if off = 0x02C then 0
  else if 0x080 ≤ off ∧ off < 0x0E0 ∧ (off % 16 = 4 ∨ off % 16 = 8) then s.qendWord p off
  else s.fieldsWord req p off

end Sys2Proof.Machine
end

