-- ==== Sys2Proof/Machine/EvrOps.lean ====
section
/-! DEFINITION. The event recorder's operations: codes (R492), records (R483), snapshots (R486), token buckets (R485), staging (R487), the log memory (R481, R482) and the fallback (R490); and the tag of what Kettle sends (R413). -/

namespace Sys2Proof.Machine

/-! ## Codes -/

/-- The place of an event among those of its class, in the order of the model's names. -/
def Ev.place : Ev → Nat
  | .powerOn | .modeChange | .tamper | .lifecycle | .authFail | .laneFenced | .blockRetired | .twinRole | .port | .timeStep
  | .inputStuck | .creditFault | .activation | .dupMeterId | .logInit => 0
  | .powerFail | .degraded | .tamperResponse | .debugOpened | .replayReject | .dieFailed | .twinTakeover | .leap
  | .inputReleased | .qprivReset | .fallback | .tableParity | .logCleared => 1
  | .lgRecover | .debugClosed | .keyRevoked | .readOnly | .twinMismatch | .oscStopped | .inputChatter | .confirmDue | .dataError
  | .logMediaFail => 2
  | .stagingLost | .enrolled | .trngFailed | .spareLow | .twinDispute | .logRestored => 3
  | .release | .recordsLost => 4
  | .releaseFail => 5
  | .software code => code % 256

/-- R492: the event byte within the class, where the spec gives it; a free one elsewhere. -/
def Ev.sub : Ev → Nat
  | .powerOn => 1
  | .stagingLost => 3
  | .logInit => 1
  | .logCleared => 2
  | .logMediaFail => 3
  | .logRestored => 4
  | .recordsLost => 5
  | .software code => code % 256
  | e => (Config.eventSub e.cls e.place).toNat

/-- R492: the code of an event. -/
def Ev.code (e : Ev) : Nat := e.cls * 256 + e.sub

/-! ## Records -/

/-- R486: the fields of entry `k` of a class's snapshot list. -/
def snapField (f : Field) (cls k : Nat) : Field := f.win 1 (cls * 16 + k)

/-- R486: one snapshot word; none where the entry is not valid or its page's domain is stopped. -/
def State.snapWord (s : State) (cls k : Nat) : Option Nat :=
  let p := s.getF (snapField Reg.EVR_SNAP_ADDR_PAGE cls k)
  if s.flag (snapField Reg.EVR_SNAP_ADDR_VALID cls k) && pageExists p && s.domOn (pageDomain p) then
    some (s.viewWord .trusted p (4 * s.getF (snapField Reg.EVR_SNAP_ADDR_WORD cls k)))
  else none

/-- R486: the 16 snapshot words of a class; none with main power absent. -/
def State.snapshotOf (s : State) (cls : Nat) : List (Option Nat) :=
  (List.range 16).map (fun k => if s.power.main then s.snapWord cls k else none)

/-- R483: the bytes of a record but RSEQ and CRC, which it takes as it is programmed. -/
def State.recordBytes (s : State) (code page flags opt ms : Nat) (data : Bytes) (snap : List (Option Nat)) : Bytes :=
  leBytes 4 0 ++ leBytes 5 opt ++ leBytes 1 flags ++ leBytes 1 (code / 256) ++ leBytes 1 (s.getF Reg.PWR_STAT_MODE) ++
    leBytes 4 s.evr.power ++ leBytes 2 code ++ leBytes 1 page ++ [0] ++ leBytes 2 ms ++
    leBytes 2 (maskWhere 16 (fun k => (snap.getD k none).isSome)) ++ slice data 0 16 ++
    (List.range 16).flatMap (fun k => leBytes 4 ((snap.getD k none).getD 0)) ++ List.replicate 24 0

/-- R482, R483: a record with its RSEQ, its permanence and its CRC; `fb` marks one that goes to EVFB. -/
def sealRecord (r : Bytes) (rseq : Nat) (fb : Bool) : Bytes :=
  let f := leAt r 9 1
  let f := withBits (withBits f 0 0 (bit1 (decide (rseq < 16384)))) 1 1 (bit1 fb)
  let b := slice (splice (splice r 0 (leBytes 4 rseq)) 9 (leBytes 1 f)) 0 124
  b ++ leBytes 4 (crc32c b)

/-! ## Staging -/

/-- R487: the address of a staging slot. -/
def stageAddr (n : Nat) : Nat := 0x02000000 + 0x80 * n

/-- R487: a record is dropped: counted, and the next one says so. -/
def State.dropRecord (s : State) : State :=
  let t := (s.count Reg.EVR_LOST_CNT_CNT).irq Reg.EVR_IRQ_LOST
  { t with evr := { t.evr with lostBefore := true } }

/-- R482, R487: would the staged record at a place be of permanent class: does the RSEQ it is to take lie in the permanent area? -/
def State.willBePermanent (s : State) (place : Nat) : Bool := decide (s.evr.rseq + place < 16384)

/-- R487: a record goes into a staging slot. -/
def State.stageAt (s : State) (n : Nat) (r : Bytes) : State :=
  let t := s.write (stageAddr n) r
  { t with evr := { t.evr with staged := t.evr.staged ++ [(n, r)] } }

/-- R487: a record is staged; where staging is full it replaces the oldest that is not of permanent class, or is dropped. -/
def State.stageRecord (s : State) (r : Bytes) : State :=
  match (List.range 64).find? (fun n => s.evr.staged.all (fun e => e.1 != n)) with
  | some n => s.stageAt n r
  | none =>
    match (s.evr.staged.zipIdx.find? (fun e => !s.willBePermanent e.2)).map (·.1) with
    | some old =>
      let t : State := { s with evr := { s.evr with staged := s.evr.staged.filter (fun e => e.1 != old.1), lostBefore := true } }
      t.stageAt old.1 r
    | none => s.dropRecord

/-- R483, R487: build a record from what the recorder holds, and stage it. -/
def State.record (s : State) (code page flags : Nat) (data : Bytes) (snap : List (Option Nat)) : State :=
  let flags := flags + bitIf (!s.power.main) 2 + bitIf s.evr.lostBefore 3 + bitIf (s.willBePermanent s.evr.staged.length) 0
  let r := s.recordBytes code page flags s.opTime (s.opNs % nsPerS / 1000000) data snap
  ({ s with evr := { s.evr with lostBefore := false } } : State).stageRecord r

/-! ## Token buckets -/

/-- R485: a token, in the unit of the two buckets. -/
def tokenUnit : Nat := 60 * nsPerS

/-- R485: the buckets as they stand now. -/
def State.refilled (s : State) : State :=
  let d := s.tb1 - s.evr.usedAt
  { s with evr := { s.evr with used1 := s.evr.used1 - s.getF Reg.EVR_RATE_PER_MIN * d, used2 := s.evr.used2 - 30 * d, usedAt := s.tb1 } }

/-- R485: is an item of a class never dropped? -/
def kept2 (cls : Nat) : Bool := cls == 0 || cls == 2 || cls == 3 || cls == 14

/-- R485: take a token of the first bucket. -/
def State.token1 (s : State) : Option State :=
  if s.evr.used1 + tokenUnit ≤ s.getF Reg.EVR_RATE_BURST * tokenUnit then
    some { s with evr := { s.evr with used1 := s.evr.used1 + tokenUnit } }
  else none

/-- R485: take a token of the second bucket. -/
def State.token2 (s : State) : Option State :=
  if s.evr.used2 + tokenUnit ≤ 64 * tokenUnit then some { s with evr := { s.evr with used2 := s.evr.used2 + tokenUnit } } else none

/-- R485: an item that finds no token of the second bucket is coalesced. -/
def State.coalesce (s : State) (code : Nat) : State :=
  let n := ((s.evr.coalesced.find? (fun e => e.1 == code)).map (·.2.1)).getD 0
  let l := s.evr.coalesced.filter (fun e => e.1 != code)
  { s with evr := { s.evr with coalesced := l ++ [(code, n + 1, s.opTime)] } }

/-- R485: a record that the recorder writes of itself; it takes a token where there is one, and is written in any case. -/
def State.ownRecord (s : State) (e : Ev) (data : Bytes) : State :=
  let t := s.refilled
  (t.token2.getD t).record e.code 0x06 0 data (t.snapshotOf e.cls)

/-- R485, R486: the recorder takes the item at the front of its queue. Of a poisoned item the data reads 0. -/
def State.takeEvent (s : State) : State :=
  match s.deq 0x30 with
  | some (i, t) =>
    match i.body with
    | .event e =>
      let t := t.refilled
      let data := if i.poison ≠ 0 then [] else e.data
      let write (u : State) : State := u.record e.ev.code e.page (bitIf (i.poison != 0) 4) data (u.snapshotOf e.ev.cls)
      if kept2 e.ev.cls then
        match t.token2 with
        | some u => write u
        | none => t.coalesce e.ev.code
      else
        match t.token1 with
        | some u => write u
        | none => t.dropRecord
    | _ => t
  | none => s

/-- R485: the recorder takes what waits, as it does before power is lost. -/
def State.takeEvents (s : State) : State := (s.queue 0x30).items.foldl (fun t _ => t.takeEvent) s

/-! ## The log memory -/

/-- R482: the NOR slot of a record sequence number, as its address / 128. -/
def norSlot (r : Nat) : Nat := if r < 16384 then r else 0x5FF000 / 0x80 + (r - 16384) % 16416

/-- R481: the first slot of a circulating sector. -/
def circSlot (sector : Nat) : Nat := 0x5FF000 / 0x80 + 32 * sector

/-- R482: the sector of the write position in the circulating area, once it is there. -/
def State.writeSector (s : State) : Nat := (s.evr.rseq - 16384) % 16416 / 32

/-- R482: the permanent area has just taken its last record. -/
def State.notePermFull (s : State) : State :=
  if s.evr.rseq = 16384 then (s.setF Reg.EVR_STAT_PERM_FULL 1).irq Reg.EVR_IRQ_PERM_FULL else s

/-- The record at the front of staging leaves it with the next RSEQ. -/
def State.popStaged (s : State) : State :=
  { s with evr := { s.evr with staged := s.evr.staged.drop 1, rseq := s.evr.rseq + 1 } }

/-- R482: the oldest staged record is programmed to its NOR slot; a sector entered has the one after it erased. -/
def State.programNor (s : State) (r : Bytes) : State :=
  let q := s.evr.rseq
  let t : State := { s with evr := { s.evr with nor := sput [] s.evr.nor (norSlot q) (sealRecord r q false) } }
  let t := if 16384 ≤ q ∧ (q - 16384) % 32 = 0 then
      { t with evr := { t.evr with erases := t.evr.erases ++ [(s.writeSector + 1) % 513] } }
    else t
  t.popStaged.notePermFull

/-- R490: the pages of EVFB, and of its first eighth of logical blocks. -/
def State.evfbPages (s : State) : Nat × Nat :=
  let n := (s.ftl.header.map (fun h => h.sizes.getD 7 0)).getD 0
  (n * s.ppb, n / 8 * s.ppb)

/-- R490: the EVFB page that the next record takes: the reserved part for one of the permanent area, while it has room, else the ring. -/
def State.evfbNext (s : State) : Nat × Bool :=
  let (all, kept) := s.evfbPages
  if s.evr.rseq < 16384 ∧ s.evr.fbPerm < kept then (s.evr.fbPerm, true) else (kept + s.evr.fbRing % (all - kept), false)

/-- R490: the oldest staged record is written to EVFB; it stays staged where the FTL cannot take it. -/
def State.programEvfb (s : State) (r : Bytes) : State :=
  let q := s.evr.rseq
  let (page, perm) := s.evfbNext
  let b := sealRecord r q true
  match (if s.evfbPages.1 = 0 then none else s.volWrite 7 page b) with
  | none => s
  | some t =>
    let t := if q < 16384 ∧ !perm then (t.setF Reg.EVR_STAT_PERM_FULL 1).irq Reg.EVR_IRQ_PERM_FULL else t
    let t : State := { t with evr := { t.evr with evfb := sput [] t.evr.evfb page b, fbPerm := t.evr.fbPerm + bit1 perm,
                                                  fbRing := t.evr.fbRing + bit1 (!perm) } }
    t.popStaged.notePermFull

/-- R482: a circulating sector is erased. -/
def State.eraseSector (s : State) (n : Nat) : State :=
  { s with evr := { s.evr with nor := s.evr.nor.filter (fun e => decide (e.1 < circSlot n) || decide (circSlot n + 32 ≤ e.1)),
                               erases := s.evr.erases.filter (fun k => k != n), clears := s.evr.clears.filter (fun k => k != n) } }

/-! ## What Kettle sends -/

/-- R413: the Kettle service key; none while the region is zero. -/
def State.ksvcKey (s : State) : Option Bytes :=
  let k := s.read 0x02003C00 32
  if leNat k = 0 then none else some k

/-- R292, R413: a message of Kettle: opcode, status, TAGGED, and the tag of 16 bytes at its end. -/
def State.kettleMessage (s : State) (op status : Nat) (body : Bytes) : Bytes :=
  match s.ksvcKey with
  | some k =>
    let m := leBytes 1 op ++ leBytes 1 status ++ [1] ++ body
    m ++ kmac k m 16
  | none => leBytes 1 op ++ leBytes 1 status ++ [0] ++ body ++ List.replicate 16 0

/-- R282, R292: does P3 run for Kettle? -/
def State.p3Runs (s : State) : Bool := s.domOn .aon && s.ethUp 3

/-- A datagram of Kettle leaves on P3: destination address (16 bytes) and port, then the payload. -/
def State.kettleSend (s : State) (addr : Bytes) (port : Nat) (m : Bytes) : State :=
  if s.p3Runs then (s.emit 11 (slice addr 0 16 ++ leBytes 2 port ++ m)).count (Reg.ETHP_TX_OK_CNT_CNT 3) else s

/-- R490: the ALARM datagram, where it is due and P3 runs; the next is due in 10 min. -/
def State.sendAlarm (s : State) : State :=
  match s.evr.alarm with
  | some (r, due) =>
    if due ≤ s.tb1 ∧ s.p3Runs ∧ s.flag Reg.EVR_ALARM_PORT_EN ∧ s.flag Reg.EVR_STAT_LOG_MEDIA_FAIL then
      let t := s.kettleSend (leBytes 4 (s.getF Reg.EVR_ALARM_IP_ADDR)) (s.getF Reg.EVR_ALARM_PORT_PORT) (s.kettleMessage 0x81 0 r)
      { t with evr := { t.evr with alarm := some (r, s.tb1 + 600 * nsPerS) } }
    else s
  | none => s

/-- R484: OPTIME and PWR_CYCLES are written to the counters area. -/
def State.saveCounters (s : State) : State :=
  if s.flag Reg.EVR_STAT_FALLBACK then s
  else { s with evr := { s.evr with saved := (s.opTime, s.evr.power), savedAt := s.opTime } }

/-! ## The fallback -/

/-- R490: the NOR has failed: the recorder enters fallback, and LOG_MEDIA_FAIL is its first record there. -/
def State.norFailed (s : State) (cause addr : Nat) : State :=
  if s.flag Reg.EVR_STAT_LOG_MEDIA_FAIL then s
  else
    let t := ((s.setF Reg.EVR_STAT_LOG_MEDIA_FAIL 1).setF Reg.EVR_STAT_FALLBACK 1).irq Reg.EVR_IRQ_MEDIA_FAIL
    let t := (t.setF Reg.EVR_FAIL_INFO_CAUSE cause).setF Reg.EVR_FAIL_INFO_ADDR addr
    let rest := t.evr.staged
    let data := leBytes 4 cause ++ leBytes 4 addr ++ leBytes 4 (t.getF Reg.EVR_NOR_ID_JEDEC)
    let u := ({ t with evr := { t.evr with staged := [], erases := [], clears := [] } } : State)
    let r := u.recordBytes Ev.logMediaFail.code 0x06 (bitIf (!s.power.main) 2 + bitIf (s.willBePermanent 0) 0) u.opTime
      (u.opNs % nsPerS / 1000000) data (s.snapshotOf 14)
    let slot := ((List.range 64).find? (fun n => rest.all (fun e => e.1 != n))).getD ((rest.getLastD (0, [])).1)
    let u := u.stageAt slot r
    let u : State := { u with evr := { u.evr with staged := u.evr.staged ++ rest.filter (fun e => e.1 != slot),
                                                  lostBefore := u.evr.lostBefore || rest.length == 64, alarm := some (r, u.tb1) } }
    u.sendAlarm

/-- R491: the NOR answers again: the EVFB records are copied to their NOR slots in RSEQ order, and the fallback ends. -/
def State.norRestored (s : State) : State :=
  let l := (s.evr.evfb.map (fun e => (leAt e.2 0 4, e.2)))
  let put (n : List (Nat × Bytes)) (r : Nat × Bytes) : List (Nat × Bytes) :=
    if leAt (sget [] n (norSlot r.1)) 0 4 ≤ r.1 then sput [] n (norSlot r.1) r.2 else n
  let t : State := { s with evr := { s.evr with nor := l.foldl put s.evr.nor, alarm := none } }
  ((t.setF Reg.EVR_STAT_LOG_MEDIA_FAIL 0).setF Reg.EVR_STAT_FALLBACK 0).irq Reg.EVR_IRQ_RESTORED |>.ownRecord .logRestored []

/-- R480, R490, R491: the NOR is probed: `answer` is its JEDEC ID where it meets R480. -/
def State.probeNor (s : State) (answer : Option (BitVec 24)) : State :=
  match answer with
  | none => s.norFailed 5 0
  | some id =>
    let t := s.setF Reg.EVR_NOR_ID_JEDEC id.toNat
    if t.flag Reg.EVR_STAT_LOG_MEDIA_FAIL then t.norRestored else t

end Sys2Proof.Machine
end

