-- ==== Sys2Proof/Machine/Evr.lean ====
section
/-! DEFINITION. The event recorder's commands (R482–R493). -/

namespace Sys2Proof.Machine

/-- R485: the recorder takes the next event item; `parity` words of it fail their check (R55). -/
def execEvrItemTake (parity : Nat) (s : State) : Host.Outcome State Fault Refusal :=
  if (s.queue 0x30).items.isEmpty then idle s else .next (s.faultFront 0x30 parity).takeEvent

/-- R485: a token is there: the oldest coalesced class and code gets its summary record. -/
def execEvrSummaryWrite (s : State) : Host.Outcome State Fault Refusal :=
  match s.evr.coalesced, s.refilled.token2 with
  | (code, n, opt) :: rest, some t =>
    .next (({ t with evr := { t.evr with coalesced := rest } } : State).record code 0x06 32 (leBytes 4 n ++ leBytes 5 opt) [])
  | _, _ => idle s

/-- R482, R487, R490: the oldest staged record is programmed, to its NOR slot or in fallback to EVFB, once the log memory's port runs and no
erase of a sector is under way. -/
def execEvrNorProgram (s : State) : Host.Outcome State Fault Refusal :=
  match s.evr.staged with
  | [] => idle s
  | (_, r) :: _ =>
    if !s.domOn .aon then idle s
    else if s.flag Reg.EVR_STAT_FALLBACK then .next (s.programEvfb r)
    else if s.evr.erases.isEmpty then .next (s.programNor r)
    else idle s

/-- R482, R489: the sector ahead of the write position is erased, or else a cleared one. -/
def execEvrSectorErase (s : State) : Host.Outcome State Fault Refusal :=
  match s.evr.erases ++ s.evr.clears with
  | [] => idle s
  | n :: _ => if s.domOn .aon && !s.flag Reg.EVR_STAT_FALLBACK then .next (s.eraseSector n) else idle s

/-- R484: every 15 min of operating time the counters are saved. -/
def execEvrCounterSave (s : State) : Host.Outcome State Fault Refusal :=
  if s.domOn .aon ∧ s.evr.savedAt + 900 ≤ s.opTime then .next s.saveCounters else idle s

/-- R485, R493: software sends a record; a class outside 16 to 31 is refused. -/
def execEvrSwCode (req : Req) (data : Word) (s : State) : Host.Outcome State Fault Refusal :=
  .next (s.onAction req Reg.EVR_SW_CODE_GO data.toNat fun s =>
    let c := s.getF Reg.EVR_SW_CODE_CODE
    if bitAt data.toNat 31 = 0 then s
    else if c / 256 < 16 ∨ 31 < c / 256 then s.refuseAt req Reg.EVR_SW_CODE_GO 0x0100
    else s.event (.software c) 0xFF (s.getBytes (fun k => Reg.EVR_SW_DATA_DATA k) 16))

/-- R488, R489: the record of a sequence number, with the status of its read. One of the permanent area that was in the ring of EVFB is cleared with it. -/
def State.readRecord (s : State) (r : Nat) : Nat × Bytes :=
  let n := sget [] s.evr.nor (norSlot r)
  let fb := ((s.evr.evfb.find? (fun e => leAt e.2 0 4 == r)).map (·.2)).getD []
  let b := if !n.isEmpty && leAt n 0 4 == r then n else fb
  if s.evr.rseq ≤ r then (3, [])
  else if r < s.evr.mark ∧ (16384 ≤ r ∨ b.isEmpty) then (2, [])
  else if b.isEmpty then (1, [])
  else if crc32c (slice b 0 124) ≠ leAt b 124 4 then (4, b)
  else (0, b)

/-- R488: a write of RD_CTRL.GO. -/
def execEvrRead (req : Req) (s : State) : Host.Outcome State Fault Refusal :=
  .next (s.onField req Reg.EVR_RD_CTRL_GO fun s =>
    let (st, b) := s.readRecord (s.getF (Reg.EVR_RD_RSEQ_RSEQ.bankOf req.code))
    let s := s.setF (Reg.EVR_RD_CTRL_STATUS.bankOf req.code) st
    if st = 0 then s.setBytes (fun k => (Reg.EVR_RD_DATA_DATA k).bankOf req.code) 32 b else s)

/-- R489: the sectors that hold cleared records alone. -/
def State.clearedSectors (s : State) : List Nat :=
  if s.flag Reg.EVR_STAT_FALLBACK then []
  else (List.range 513).filter (fun k => k != s.writeSector &&
    s.evr.nor.any (fun e => decide (circSlot k ≤ e.1) && decide (e.1 < circSlot k + 32)))

/-- R489: the circulating area and the ring of EVFB are cleared, and LOG_CLEARED follows: the requester's code, and the first and last RSEQ cleared. -/
def State.clearLog (s : State) (req : Req) : State :=
  let last := s.evr.rseq - 1
  let first := min last (max (max s.evr.mark 16384) (s.evr.rseq - 16416))
  let kept := s.evfbPages.2
  let fb := s.evr.evfb.filter (fun e => s.flag Reg.EVR_STAT_FALLBACK && decide (e.1 < kept))
  let t : State := { s with evr := { s.evr with mark := s.evr.rseq, clears := s.clearedSectors, evfb := fb } }
  (t.irq Reg.EVR_IRQ_CLEARED).ownRecord .logCleared (leBytes 4 req.code ++ leBytes 4 first ++ leBytes 4 last)

/-- R489: a write of CLEAR; one while CLEARING is refused. -/
def execEvrClear (req : Req) (s : State) : Host.Outcome State Fault Refusal :=
  .next (s.onField req Reg.EVR_CTRL_CLEAR fun s => if s.evr.clears.isEmpty then s.clearLog req else s.refuseAt req Reg.EVR_CTRL_CLEAR 0x0101)

/-- R490: the NOR shows a failure: of the program under way (1, 3), of a read of a programmed record (2), of the erase under way (4), or that it
does not answer (5). -/
def execEvrNorFail (cause : BitVec 3) (addr : BitVec 24) (s : State) : Host.Outcome State Fault Refusal :=
  if !s.domOn .aon ∨ s.flag Reg.EVR_STAT_FALLBACK then idle s
  else if cause = 1 ∨ cause = 3 then
    if s.evr.staged.isEmpty then idle s else .next (s.norFailed cause.toNat (0x80 * norSlot s.evr.rseq))
  else if cause = 4 then
    match s.evr.erases ++ s.evr.clears with
    | [] => idle s
    | n :: _ => .next (s.norFailed 4 (0x80 * circSlot n))
  else if cause = 2 ∨ cause = 5 then .next (s.norFailed cause.toNat addr.toNat)
  else idle s

/-- R490: Kettle repeats the ALARM datagram. -/
def execEvrAlarmRepeat (s : State) : Host.Outcome State Fault Refusal := .next s.sendAlarm

/-- R491: a write of NOR_RETRY: the NOR is probed; `answer` is its JEDEC ID where it meets R480. -/
def execEvrNorRetry (req : Req) (answer : Option (BitVec 24)) (s : State) : Host.Outcome State Fault Refusal :=
  .next (s.onField req Reg.EVR_CTRL_NOR_RETRY fun s => s.probeNor answer)

end Sys2Proof.Machine
end

