-- ==== Sys2Proof/Machine/Replay.lean ====
section
/-! DEFINITION. What start-up makes of the medium: the latest checkpoint loaded (R191, R192), the tables rebuilt (R149) and the journal replayed (R171, R192, R349, R350). -/

namespace Sys2Proof.Machine

/-- The state in which a step ends; a step that stops leaves the state as it is. -/
def State.after' (s : State) (f : State → Host.Outcome State Fault Refusal) : State :=
  match f s with
  | .next t => t
  | _ => s

/-! ## The checkpoint -/

/-- R149: the addresses of the ledger entries that a checkpoint lists anything of. -/
def Checkpoint.ledger (c : Checkpoint) : List Nat :=
  ((c.tables.filter (fun e => decide (0x0850000000 ≤ e.1) && decide (e.1 < 0x0858000000))).map (fun e => e.1 / 32 * 32)).eraseDups

/-- R149: the ledger of a checkpoint, entered again under this start-up's hash key. -/
def State.loadLedger (s : State) (c : Checkpoint) : State :=
  let old : State := { s with mem := c.tables }
  (c.ledger.filter old.entryValid).foldl (fun t a =>
    t.ledgerInsert (old.word a 0) (bitsOf (old.word a 1) 26 0) (bitsOf (old.word a 1) 30 27) (bitsOf (old.word a 3) 59 0)
      (bitsOf (old.word a 2) 47 0)) s

/-- R191: the CK bit of each record loaded says that the checkpoint opened last holds it. -/
def State.loadRecord (s : State) (m : Nat) (b : Bytes) : State :=
  let s := s.write (recordAddr m) (slice b 0 0x400)
  s.setRec m 0x1E4 4 (withBits (s.recF m 0x1E4 4) 8 8 (s.getF Reg.BILL_STAT_CKPT_PHASE))

/-- R172: MISMAP_NOW and BYPASS_NOW are the meters among `l` whose records say so. -/
def State.countAudit (s : State) (l : List Nat) : State :=
  (s.setF Reg.BAL_MISMAP_NOW_METERS (l.filter (fun m => s.auditBits m 16 16 == 1)).length).setF Reg.BAL_BYPASS_NOW_METERS
    (l.filter (fun m => s.auditBits m 17 17 == 1)).length

/-- R177, R191, R192: a checkpoint is loaded: the BILL, CAL and BAL state, the records, the node table and interval slots, the calendar copies, which CAL checks. The
meter passes of the sweeps that were queued are in the records already (R188). -/
def State.loadCheckpoint (s : State) (c : Checkpoint) : State :=
  let early := c.records.map (·.1)
  let s : State := { s with
    regs := c.regs.foldl (fun l e => sins l e.1 e.2) (s.regs.filter (fun e => !ckptKey e.1)),
    gens := c.gens,
    bal := { c.bal with sweeps := c.bal.sweeps.map (fun w => { w with early := early }), waiting := [] },
    bill := { s.bill with
      toBillCore := { c.bill with demSweeps := c.bill.demSweeps.map (fun w => { w with early := early }) } } }
  let s := s.setF Reg.BILL_STAT_CKPT_OPEN 0
  let s := (c.tables.filter (fun e => decide (0x0858000000 ≤ e.1))).foldl (fun t e => t.setByte e.1 e.2) s
  let s := { s with gens := s.gens.map s.checkActive }
  (c.records.foldl (fun t r => t.loadRecord r.1 r.2) s).countAudit early

/-! ## The tables -/

/-- R149: a VALID record enters the directory, and its ROUTE_HINT the route table; a second record of one identifier loses VALID. DESIGN CHOICE (log entry 102): a
PSEUDO_RANDOM eviction takes the record's LA_DIGEST, there being no learning frame. -/
def State.rebuildRecord (s : State) (m : Nat) : State :=
  let id := s.recF m 0 8
  match s.dirFind id with
  | (s, some a) =>
    (s.setRec m 8 4 (withBits (s.recF m 8 4) 0 0 0)).event .dupMeterId 0x14 (leBytes 4 (s.entryIndex a) ++ leBytes 4 m)
  | (s, none) =>
    let s := (s.dirPlace id m).1
    let hint := s.recF m 0x014 4
    if bitAt hint 31 = 0 then s
    else (s.putRoute id (bitsOf hint 25 0 + 2 ^ 31) (s.get2 Reg.FTL_MOUNT_ORDER_LO_ORDER Reg.FTL_MOUNT_ORDER_HI_ORDER + 1) (s.recF m 0x080 8)).1

/-- R149: the three tables are built from empty. -/
def State.rebuild (s : State) (c : Option Checkpoint) : State :=
  let s := s.validRecords.foldl State.rebuildRecord s
  let s := match c with
    | some c => s.loadLedger c
    | none => s
  (s.setF Reg.DIR_STAT_REBUILDING 0).irq Reg.DIR_IRQ_REBUILT

/-! ## The journal -/

/-- R348: the pages of the ARCHIVE stream, oldest first: flags, group and data; none where a page cannot be read. -/
def State.streamPages (s : State) : List (Option (Nat × Nat × Bytes)) :=
  s.ftl.stripes.flatMap (fun t => (List.range t.used).map (fun i =>
    let n := t.blocks.length
    let ppn := t.blocks.getD (i % n) 0 * s.ppb + i / n
    match s.npage ppn, s.readPage ppn with
    | some p, some d => some (p.flags, p.gseq, d)
    | _, _ => none))

/-- R349: the entries of a group up to its GROUP_END, without PAD. -/
def entriesOf (b : Bytes) : List Bytes := (splitEntries b.length b).takeWhile (fun e => leAt e 0 6 != 2 ^ 48 - 1 && decide (32 ≤ e.length))

/-- R349: KIND of an entry. -/
def entryKind (e : Bytes) : Nat := leAt e 6 3 / 2 ^ 20

/-- R349, R355: does a group end with a good GROUP_END? -/
def groupGood (l : List Bytes) : Bool :=
  match l.getLast? with
  | some e => entryKind e == 8 && leAt e 38 4 + 1 == l.length && leAt e 42 4 == crc32c (l.dropLast.flatten)
  | none => false

/-- R355, R360: the groups of the stream; a group without a good GROUP_END is left out, none stands for lost pages. -/
def groupsOf' : List (Option (Nat × Nat × Bytes)) → Option (Nat × Bytes) → List (Option (List Bytes))
  | [], _ => []
  | none :: r, _ => none :: groupsOf' r none
  | some (fl, q, d) :: r, cur =>
    let b := if bitAt fl 1 = 1 then some (q, d) else cur.bind (fun c => if c.1 = q then some (q, c.2 ++ d) else none)
    match b with
    | some (_, x) =>
      if bitAt fl 2 = 1 then (if groupGood (entriesOf x) then some (entriesOf x) :: groupsOf' r none else groupsOf' r none)
      else groupsOf' r b
    | none => groupsOf' r none

/-- R360: the groups up to the first one lost above an order number. -/
def intactGroups (from_ : Nat) : List (Option (List Bytes)) → List (List Bytes)
  | [] => []
  | some g :: r => g :: intactGroups from_ r
  | none :: r =>
    match r.find? Option.isSome with
    | some (some (e :: _)) => if precedes (from_ + 1) (leAt e 0 6) then [] else intactGroups from_ r
    | _ => []

/-- R350: the effects of an entry. -/
def effectsOf' : Nat → Bytes → List Effect
  | 0, _ => []
  | fuel + 1, b =>
    if b.length < 2 then []
    else
      let h := leAt b 0 2
      let k := h % 16
      let sub := h / 16 % 4
      let n := if k = 1 then 4 else if k = 5 then 6 else if k = 4 ∧ sub ≠ 2 then 12 else 8
      let w1 := leAt b 2 (if k = 5 then 2 else 4)
      let w2 := if k = 1 then 0 else if k = 5 then leAt b 4 4 else leAt b 6 4
      let w3 := if n = 12 then leAt b 10 4 else 0
      let e : Effect := ⟨0, k, sub, h / 64, w1, w2, w3⟩
      e :: effectsOf' fuel (b.drop (2 + n))

/-- R349: the frame that an entry's header describes. -/
def State.entryFrame (s : State) (e : Bytes) : Frame :=
  let m := leAt e 6 3 % 2 ^ 20
  { port := leAt e 9 1 % 16, link := leAt e 14 2, ivc := leAt e 16 8, digest := leAt e 24 8, meter := m, mid := s.recF m 0 8 }

/-- R192: the sweeps that wait are run; their reports wait for credit. -/
def State.drainSweeps (s : State) : Nat → State
  | 0 => s
  | n + 1 =>
    if s.bal.sweeps.isEmpty then s
    else
      let w := s.bal.waiting
      let t := (({ s with bal := { s.bal with waiting := [] } } : State).after' State.nodeWork).after' State.meterWork
      State.drainSweeps { t with bal := { t.bal with waiting := w ++ t.bal.waiting } } n

/-- R171, R192: every sweep that waits is run. -/
def State.settleSweeps (s : State) : State := s.drainSweeps (2 * (s.validNodes.length + s.records.length + 2) * (s.bal.sweeps.length + 1))

/-- R163, R164, R192: the revisions that a replayed marker needs are made; their reports wait for credit. -/
def State.settleRevisions (s : State) : State :=
  s.validNodes.foldl (fun t n => t.reviseNode true n) s

/-- R171, R192: a replayed marker shows that its engine was enabled. -/
def State.replayEnable (s : State) (kind : Nat) : State := if kind = 0 then s.setF Reg.BAL_CTRL_ENABLE 1 else s.setF Reg.BILL_CTRL_ENABLE 1

/-- R192: a marker is replayed, with the second, the generation and the SKIPPED_TIME that its entry holds. -/
def State.replayMarker (s : State) (n kind k at_ gen : Nat) (skipped : Bool) : State :=
  let s := s.replayEnable kind
  match kind with
  | 0 =>
    let s := if s.markerWaits k then s.settleSweeps.settleRevisions else s
    ((s.noteMark (.balMarker k)).applyMarker k n).settleSweeps
  | 1 => (s.noteMark (.demandMarker k gen)).applyDemand k gen n
  | 2 =>
    let s := if s.closeWaits then s.after' execCloseSweep else s
    (s.noteMark (.closeMarker k skipped at_)).applyClose k n skipped at_
  | _ => if s.bill.open_.isSome then s else (s.noteMark (.ckptMarker k)).applyCkpt n

/-- R192, R196: a token result is replayed. -/
def State.replayToken (s : State) (m n : Nat) (b : Bytes) : State :=
  let t : Token := { cls := leAt b 1 1, ident := leAt b 2 4, amount := leAt b 6 4, checkOk := true }
  let s := if leAt b 0 1 ≠ 0 then s
    else ((s.touch m).tokenEffect m n t).ledgerInsert (s.recF m 0 8) t.ident t.cls t.amount n
  s.tokenTold m n (leAt b 0 1) (leAt b 10 1) (some t)

/-- R314, R349: the values of a TXN entry; of the pages that the checkpoint holds. -/
def txnEntry : Nat → Bytes → List (Nat × Nat × Nat)
  | 0, _ => []
  | fuel + 1, b => if b.length < 8 then [] else (leAt b 0 1, leAt b 2 2, leAt b 4 4) :: txnEntry fuel (b.drop 8)

/-- R184, R192: transaction values are replayed, as of the second of their commit. A generation that they begin resolves only with copies that pass R176 now (R177). The
calendar generations before are kept, at most 4 together, since later markers may be stamped with them. -/
def State.replayTxn (s : State) (l : List (Field × Nat)) (at_ : Nat) : State :=
  let t := s.takeReplicas l at_
  { t with gens := (t.gens.map t.checkActive ++ s.gens.filter (fun g => t.gens.all (fun h => h.id != g.id))).take 4 }

/-- R171, R192: an entry is replayed. A table command with status 0 changes the directory too, as a standby's does (R146). -/
def State.replayEntry (s : State) (e : Bytes) : State :=
  let n := leAt e 0 6
  let m := leAt e 6 3 % 2 ^ 20
  let pt := bitsOf (leAt e 10 4) 9 0
  let b := slice e 32 pt
  let f := s.entryFrame e
  match entryKind e with
  | 0 =>
    let fx := slice e (32 + pt) (bitsOf (leAt e 10 4) 19 10)
    ((((s.touch m).commitEffects m n (effectsOf' fx.length fx)).setLastAck f n false).learnRoute f n).1
  | 1 => (((s.touch m).setLastAck f n true).learnRoute f n).1
  | 2 =>
    if leAt b 64 2 ≠ 0 then s
    else if f.port = 1 then (s.applyBalCmd (slice b 0 64) n).1
    else (s.applyDirCmd (slice b 0 64) 1 n).1
  | 3 => s.replayMarker n (leAt b 0 1) (leAt b 1 4) (leAt e 16 4) (leAt e 14 2) (bitAt (leAt e 10 4) 20 == 1)
  | 4 => s.replayToken m n b
  | 5 => s.replayTxn (txnFields ((txnEntry b.length b).filter (fun v => decide (0x15 ≤ v.1) && decide (v.1 ≤ 0x17)))) (txnTime (txnEntry b.length b))
  | 6 => s.applyJoin b
  | 9 => (s.learnRoute f n).1
  | _ => s

/-- R171, R192: an entry is replayed, and what it leads to is marked as replayed. -/
def State.replayOne (s : State) (e : Bytes) : State :=
  State.replayEntry { s with path := { s.path with replayed := some (leAt e 0 6) } } e

/-- R83, R192: the entries of a group above an order number are replayed; records take the group's sequence number, as Ladle wrote it. -/
def State.replayGroup (s : State) (from_ : Nat) (g : List Bytes) : State :=
  let last := g.getLastD []
  let q := leAt last 32 6
  let s := s.set2 Reg.LADL_GROUP_SEQ_LO_SEQ Reg.LADL_GROUP_SEQ_HI_SEQ (q - 1)
  let s := g.foldl (fun t e => if entryKind e < 7 ∨ entryKind e = 9 then (if precedes from_ (leAt e 0 6) then t.replayOne e else t) else t) s
  let s := (s.set2 Reg.LADL_GROUP_SEQ_LO_SEQ Reg.LADL_GROUP_SEQ_HI_SEQ q).set2 Reg.LADL_DURABLE_SEQ_LO_SEQ Reg.LADL_DURABLE_SEQ_HI_SEQ q
  let s := s.set2 Reg.LADL_DURABLE_ORDER_LO_ORDER Reg.LADL_DURABLE_ORDER_HI_ORDER (leAt last 0 6)
  { s with path := { s.path with replayed := some (leAt last 0 6) } }

/-- R192: the journal above an order number is replayed. The enables of the engines are software's to set again (R427). -/
def State.replayJournal (s : State) (from_ : Nat) : State :=
  let s := (intactGroups from_ (groupsOf' s.streamPages none)).foldl (fun t g => t.replayGroup from_ g) s
  ((s.setF Reg.BAL_CTRL_ENABLE 0).setF Reg.BILL_CTRL_ENABLE 0).pruneGens

/-- R191, R192, R427 steps 10 and 11: the latest complete checkpoint, the tables and the journal. A medium without a checkpoint is replayed from its first
entry. -/
def State.restore (s : State) : State :=
  let s := s.setF Reg.DIR_STAT_REBUILDING 1
  match s.bill.complete with
  | c :: _ => ((s.loadCheckpoint c).rebuild (some c)).replayJournal c.order
  | [] =>
    let s := s.rebuild none
    s.replayJournal ((intactGroups 0 (groupsOf' s.streamPages none)).flatten.head?.elim 0 (fun e => (leAt e 0 6 + 2 ^ 48 - 1) % 2 ^ 48))

end Sys2Proof.Machine
end

