-- ==== Sys2Proof/Machine/UpdCheck.lean ====
section
/-! DEFINITION. Manifests and images as boot, delivery and installation check them (R381, R463, R464), and the fall-back of a part (R473, R474). -/

namespace Sys2Proof.Machine

/-- R381, R448: the anti-rollback count of a part in OTP. -/
def State.rollbackCount (s : State) (p : Nat) : Nat := sget 0 s.sec.otp.secver p

/-- R462, R464: does the signature of a manifest verify under its part's key, and for a vendor part the key under the digest in OTP? -/
def State.manifestSigned (s : State) (m : Bytes) : Bool :=
  let vendor := decide (manPart m < 2)
  let key := if vendor then slice m 76 57 else s.sec.otp.ownerKey
  (if vendor then shake256 key 64 == s.sec.otp.vendorDigest else !key.isEmpty) && edVerify key false (slice m 0 256) (slice m 256 114)

/-- R464: is a manifest valid but for its SECVER? -/
def State.manifestFits (s : State) (m : Bytes) : Bool :=
  leAt m 0 4 == 0x5A4C4D46 && leAt m 4 1 == 1 && decide (manPart m ≤ 4) &&
    manN m == (manLength m + 511) / 512 && decide (manN m * 512 ≤ partMax (manPart m)) &&
    (leAt m 6 2 % 2 == 0 || slice m 28 8 == s.identity) && s.manifestSigned m

/-- R381, R464: is SECVER of a manifest not below the count in OTP? -/
def State.secverFits (s : State) (m : Bytes) : Bool := decide (s.rollbackCount (manPart m) ≤ manSecver m)

/-- R463, R464: the Merkle root of a manifest. -/
def manRoot (m : Bytes) : Bytes := slice m 44 32

/-- R381, R464: does a signed image of a part verify: its manifest, and its image bytes against the Merkle root? -/
def State.imageGood (s : State) (p : Nat) (b : Bytes) : Bool :=
  manPart b == p && s.manifestFits (slice b 0 512) && s.secverFits b && b.length == 512 + manN b * 512 && merkleRoot (b.drop 512) == manRoot b

/-- R345, R468: the bytes of a part's region in a copy (0 FW_A, 1 FW_B), from offset `o`. -/
def State.regionBytes (s : State) (p copy o n : Nat) : Bytes :=
  (List.range n).map (fun i => s.bootByte (4 + copy) 0 (regionBase p + o + i))

/-- R468: the signed image that a region holds; none where it holds no manifest. -/
def State.regionImage (s : State) (p copy : Nat) : Option Bytes :=
  let m := s.regionBytes p copy 0 512
  if leAt m 0 4 = 0x5A4C4D46 ∧ manN m * 512 ≤ partMax p then some (m ++ s.regionBytes p copy 512 (manN m * 512)) else none

/-- R473, R474: the settings kept at the activation become current again. -/
def State.restoreSettings (s : State) : State :=
  let s := match s.upd.kept with
    | some l => l.foldl (fun (t : State) (e : Nat × List Bytes) => (t.bootWrite 9 e.1 e.2).getD t) s
    | none => s
  match s.sec.kept with
  | some l => { s with sec := { s.sec with blobs := l } }
  | none => s

/-- R474: what is kept for a fall-back is released once no part is UNCONFIRMED. -/
def State.releaseKept (s : State) : State :=
  if s.upd.parts.any (fun p => p.2.unconf) then s
  else { s with upd := { s.upd with kept := none }, sec := { s.sec with kept := none, prevSeal := [] } }

/-- R473: a part falls back: the previous copy becomes its boot copy, UNCONFIRMED clears, the kept settings return. The abandoned copy
stays installed. -/
def State.fallBack (s : State) (p : Nat) : State :=
  let x := s.upd.part p
  let s := s.setPart p { x with copy := 1 - x.copy, unconf := false, prev := true, due := false, starts := 0 }
  let s := s.restoreSettings.releaseKept
  ((s.irq Reg.UPD_IRQ_FALLBACK).count Reg.UPD_FALLBACK_CNT_CNT).event .fallback 0x0D [BitVec.ofNat 8 p]

end Sys2Proof.Machine
end

