-- ==== Sys2Proof/Machine/BootOps.lean ====
section
/-! DEFINITION. The steps of start-up (R427): the recorder (R482, R484, R487), the OTP (R448, R450), the root (R378–R380), the images (R381, R382), the trunks, keys and
masks (R383–R386), and the mount (R354). -/

namespace Sys2Proof.Machine

/-! ## Step 1 -/

/-- R34: the masks of every page are as at reset, and LOCK is 0. -/
def State.resetMasks (s : State) : State :=
  ((List.range 256).filter pageExists).foldl (fun t p =>
    ((t.setF (Reg.BLK_PRIV_RD p) (Reg.BLK_PRIV_RD p).reset).setF (Reg.BLK_PRIV_WR p) (Reg.BLK_PRIV_WR p).reset).setF (Reg.BLK_PRIV_LOCK p) 0) s

/-- R213: at a cold start TB0 is loaded from the RTC, and runs free. -/
def State.loadTb0 (s : State) : State :=
  let sec := (s.rtcSec : Int) + 946684800 + signedOf 16 (s.getF Reg.TIME_UTC_OFFSET_SEC)
  { s.setF Reg.TIME_STAT_TB0_STATE 0 with tb0 := (sec.toNat * nsPerS + s.time.rtcSub * nsPerS / 32768) * 65536 }

/-- R483: OPTIME of the newest record in the log memory. -/
def State.newestOpt (s : State) : Nat := ((s.evr.nor ++ s.evr.evfb).map (fun e => leAt e.2 4 5)).foldl max 0

/-- R482, R484, R487, R491: the recorder starts: the counters, the probe of the NOR, a blank NOR initialised, POWER_ON, and STAGING_LOST after it where the retention
supply failed. -/
def State.startRecorder (s : State) (nor : Option (BitVec 24)) : State :=
  let up := s.power.cause == 0
  let lost := s.flag Reg.RTC_STAT_RET_LOST
  let power := s.evr.power + bit1 up
  let base := if up && lost then max s.evr.saved.1 s.newestOpt else s.evr.optBase
  let s : State := { s with evr := { s.evr with power := power, optBase := base } }
  let s := (s.setF Reg.SYS_PWR_CYCLES_CNT power).probeNor nor
  let s := if s.evr.rseq = 0 ∧ s.evr.staged.isEmpty ∧ nor.isSome then s.ownRecord .logInit [] else s
  let s := s.ownRecord .powerOn (leBytes 4 (s.getF Reg.SYS_RESET_CAUSE_CAUSE))
  let s := if lost then s.ownRecord .stagingLost [] else s
  let s := if s.power.cause = 5 then s.ownRecord .lgRecover [] else s
  s.saveCounters

/-- R42, R427: what every start-up does first: FABRIC and the domains above it have been powered down (R378), the firmware that starts again loses its
transactions, and in a start-up from step 1 Kettle too starts again. -/
def State.bootBegin (s : State) (nor : Option (BitVec 24)) : State :=
  let up := s.power.cause == 0
  let s := s.powerDown true
  let s : State := { s with power := { s.power with main := true, lgEnd := none, stop := none } }
  let s := ((s.setF Reg.PWR_STAT_VMAIN_OK 1).setF Reg.PWR_STAT_LAST_GASP 0).setF Reg.PWR_STAT_TRANSITION 0
  let s := if up then s.setF Reg.SYS_RESET_CAUSE_CAUSE 1 else s
  let s := (s.ownerReset .trusted).ownerReset .app
  if s.power.cause = 1 then s
  else
    let s := (s.ownerReset .kettle).resetMasks
    let s := ((s.startDomain .aon).setF Reg.CLK_STAT_XT25_OK 1).setF Reg.CLK_STAT_XT32_OK (1 - s.getF Reg.RTC_STAT_OSC_STOPPED)
    let s := if up then s.loadTb0 else s
    (s.setF Reg.AON_STAT_KETTLE_IMAGE 0).startRecorder nor

/-! ## Steps 2 and 3 -/

/-- R448, R452, R461: what the fuses give. -/
def State.readFuses (s : State) : State :=
  let lc := s.sec.otp.lifecycle
  let dbg := if s.sec.otp.kill then 2 else if lc = 0 then 0 else 1
  let s := (((s.setF Reg.LCS_STAT_LC lc).setF Reg.LCS_STAT_DBG_STATE dbg).setF Reg.LCS_STAT_ENROLLED (bit1 s.sec.otp.enrolled))
  (s.setF Reg.LCS_STAT_DBG_OPEN (bit1 (dbg == 0))).setF Reg.LCS_STAT_DBG_CTX (if dbg = 0 then 1 else s.getF Reg.LCS_STAT_DBG_CTX)

/-- A one-time value: what is there stays. -/
def otpBytes (a b : Bytes) : Bytes := if a.isEmpty then b else a

/-- R381, R449, R494: the OTP as the factory and the owner have written it: what is blank takes what the start-up reads. -/
def State.readOtp (s : State) (f : BootFuses) : State :=
  let o := s.sec.otp
  let id := o.ident.getD (f.ident.toNat, f.date.toNat)
  let o : Otp := { o with vendorDigest := otpBytes o.vendorDigest f.vendorDigest, vendorDebug := otpBytes o.vendorDebug f.vendorDebug,
                          ownerKey := otpBytes o.ownerKey f.ownerKey, ownerDebug := otpBytes o.ownerDebug f.ownerDebug,
                          releaseKey := otpBytes o.releaseKey f.releaseKey, pcieIds := o.pcieIds.orElse (fun _ => f.pcieIds), ident := some id }
  let s : State := { s with sec := { s.sec with otp := o } }
  let s := ((s.setF Reg.SYS_ID_LOT_LOT id.1).setF Reg.SYS_ID_WAFER_WAFER (bitsOf id.1 28 24)).setF Reg.SYS_ID_POS_X (bitsOf id.1 36 29)
  let s := ((s.setF Reg.SYS_ID_POS_Y (bitsOf id.1 44 37)).setF Reg.SYS_ID_DATE_WEEKS id.2).setF Reg.SYS_ID_DATE_SCREEN (bitsOf id.2 19 16)
  (s.setF Reg.SYS_ID_DATE_SPEED (bitsOf id.2 23 20)).readFuses

/-- R378: the root of 32 decoded messages. -/
def rootOf (msgs : Bytes) : Bytes := shake256 msgs 32

/-- R378, R450: the check value of a root. -/
def rootCheck (root : Bytes) : Bytes := kmac root (ascii "CHECK") 8

/-- R450: the PUF is enrolled in MANUFACTURE, once: the messages are drawn from the TRNG. -/
def State.enrol (s : State) : Bytes × State :=
  let (m, s) := s.drawBytes 2052
  let o : Otp := { s.sec.otp with enrolled := true, check := rootCheck (rootOf m) }
  (m, (({ s with sec := { s.sec with otp := o } } : State).setF Reg.LCS_STAT_ENROLLED 1).event .enrolled 0x07)

/-- R378–R380, R450: the root is regenerated, and the PUF SRAM takes the inverse of what it held at power-up; none where a block fails to decode or the check value differs. -/
def State.formRoot (s : State) (b : BootInput) : Option State :=
  let first := s.sec.otp.lifecycle == 0 && !s.sec.otp.enrolled
  if b.puf.isNone ∨ (first ∧ !b.trng) then none
  else
    let (m, s) := if first then s.enrol else (b.puf.getD [], s)
    let r := rootOf m
    if s.sec.otp.enrolled ∧ rootCheck r = s.sec.otp.check then
      some (({ s with sec := { s.sec with root := r, pufSram := some (b.sram.map (fun x => ~~~x)) } } : State).setF Reg.KEY_STAT_ROOT_VALID 1)
    else none

/-! ## Step 4 -/

/-- R384: the derivation context. -/
def State.treeCtx (s : State) : Bytes :=
  let lc := s.getF Reg.LCS_STAT_LC
  [if lc = 0 then 0 else if lc = 3 then 2 else 1, BitVec.ofNat 8 (s.getF Reg.LCS_STAT_DBG_CTX)]

/-- R385: the trunks; T_SEAL once M_A is there. -/
def State.formTrunks (s : State) : State :=
  let t := kmac s.sec.root (ascii "ID" ++ s.treeCtx) 32
  let sealT := if s.sec.mA.isEmpty then [] else kmac s.sec.root (ascii "SEAL" ++ s.treeCtx ++ s.sec.mT ++ s.sec.mA) 32
  let s : State := { s with sec := { s.sec with tId := t, tSeal := sealT } }
  (s.setF Reg.KEY_STAT_SEAL_VALID (bit1 (!sealT.isEmpty))).setF Reg.KEY_STAT_DBG_CTX (s.getF Reg.LCS_STAT_DBG_CTX)

/-- R381, R468: the signed image of a part in a copy: from its region, or as the factory wrote it. -/
def State.bootImage (s : State) (b : BootInput) (p copy : Nat) : Bytes :=
  ((s.regionImage p copy).orElse (fun _ => (b.images.find? (fun i => i.part.val == p && i.copy == (copy == 1))).map (·.bytes))).getD []

/-- R382, R473: a part's image that verifies, its boot copy first; a part whose new copy fails falls back. The answer is the copy and the image. -/
def State.bootPart (s : State) (b : BootInput) (p : Nat) : State × Option (Nat × Bytes) :=
  let c := (s.upd.part p).copy
  let here := s.bootImage b p c
  let there := s.bootImage b p (1 - c)
  if s.imageGood p here then (s, some (c, here))
  else
    let s := if (s.upd.part p).unconf then s.fallBack p else s
    (s, if s.imageGood p there then some (1 - c, there) else none)

/-- R467: what a part runs from is shown. -/
def State.showImage (s : State) (p copy : Nat) (b : Bytes) : State :=
  let s := s.setImage p copy { manifest := slice b 0 512, meas := shake256 b 64 }
  s.setPart p { s.upd.part p with copy := copy }

/-- R383: the pages whose masks Trivet locks. -/
def lockedPages : List Nat := [0x08, 0x09, 0x0A, 0x07, 0x0B, 0x0C, 0x0D]

/-- R383: Trivet writes the masks from the signed configuration, takes KETTLE from the WR mask of TAMP, and locks seven pages. -/
def State.setMasks (s : State) (l : List (BitVec 8 × BitVec 6 × BitVec 6)) : State :=
  let put (t : State) (p d : Nat) : State := if t.flag (Reg.BLK_PRIV_LOCK p) then t else setPriv t p d
  let s := (l.filter (fun e => pageExists e.1.toNat)).foldl (fun t e => put t e.1.toNat (e.2.1.toNat * 2 ^ 8 + e.2.2.toNat)) s
  let s := put s 0x0C (withBits (s.getF (Reg.BLK_PRIV_WR 0x0C)) 3 3 0 * 2 ^ 8 + s.getF (Reg.BLK_PRIV_RD 0x0C))
  lockedPages.foldl (fun t p => put t p (2 ^ 31 + t.getF (Reg.BLK_PRIV_WR p) * 2 ^ 8 + t.getF (Reg.BLK_PRIV_RD p))) s

/-- R386, R391: a key of the tree goes to its slot with GEN 1. One that needs counter bits is not loaded without the TRNG (R409). -/
def State.treeSlot (s : State) (n : Nat) (label : Bytes) (len dest usage : Nat) : State :=
  if needsCtr usage ∧ !s.trngOk then s
  else s.loadSlot n (kmac s.sec.tId label len) { dest := dest, usage := usage, gen := 1, owner := Req.trusted.code }

/-- R386, R387: a KEK is restored from its blob on SETTINGS, where the blob opens under STORE. -/
def State.restoreKek (s : State) (n : Nat) : State :=
  match (s.sec.blobs.find? (fun e => e.1 == n)).bind (fun e => (aesKwpUnwrap (s.slot 2).key e.2).bind (fun p => blobRead p 32)) with
  | some (k, key) => if !(s.slot 2).full ∨ (needsCtr k.usage ∧ !s.trngOk) then s else s.loadSlot n key { k with owner := Req.trusted.code }
  | none => s

/-- R386, R413: the Kettle service key is restored to the VBAT key region. -/
def State.restoreKsvc (s : State) : State :=
  match (s.sec.blobs.find? (fun e => e.1 == 2)).bind (fun e => (aesKwpUnwrap (s.slot 2).key e.2).bind (fun p => blobRead p 32)) with
  | some (_, key) => if (s.slot 2).full then s.clearVkr.write 0x02003C00 key else s
  | none => s

/-- R134, R386: the keys that Trivet derives or restores at every start of FABRIC. -/
def State.deriveKeys (s : State) : State :=
  let s := s.treeSlot 2 (ascii "STORE") 32 0 3
  let s := match s.ftl.header with
    | some h => s.treeSlot 3 (ascii "NAND" ++ h.mediumId) 32 0x80 3
    | none => s
  let s := s.treeSlot 4 (ascii "IDENT") 57 0x10 0x20
  let s := ((s.restoreKek 0).restoreKek 1).restoreKsvc
  let (nonce, s) := s.drawBytes 8
  let (x, s) := s.drawBytes 56
  let key (l : String) : Bytes := kmac s.sec.tId (ascii l ++ nonce) 16
  { s with sec := { s.sec with transport := x },
           dir := { s.dir with dirKey := key "DIR-HASH", routeKey := key "ROUTE-HASH", ledgerKey := key "LEDGER-HASH" } }

/-- R449: in FIELD Trivet arms the tamper monitor before the application image runs. -/
def State.armInField (s : State) : State := if s.getF Reg.LCS_STAT_LC = 2 then s.setF Reg.TAMP_CTRL_ARMED 1 else s

/-- R343: a medium formatted before the chip first ran. -/
def State.takeMedium (s : State) (b : BootInput) : State :=
  let s := s.discover b.dies
  match s.ftl.header, b.medium with
  | none, some (sizes, id) =>
    if b.dies.isEmpty ∨ (badDie b.dies).isSome then s
    else
      let h : MediumHeader := { gen := 1, keyGen := 1, serials := b.dies.map (·.serial), mediumId := leBytes 16 id.toNat, sizes := (slice' sizes).set 0 1 }
      let s := s.eraseGood
      ({ s with ftl := { s.ftl with header := some h } } : State).placeReserve.placeFixed sizes
  | _, _ => s
where
  slice' (l : List Nat) : List Nat := (List.range 10).map (fun i => l.getD i 0)

/-- R2: the capacity of a role. -/
def Role.meters : Role → Nat
  | .field => 16384
  | _ => 1048576

/-- R381, R383–R386: Trivet runs: the trunk, the masks, the role, the keys. None where both its copies fail (R382). -/
def State.bootTrivet (s : State) (b : BootInput) : Option State :=
  match s.bootPart b 0 with
  | (_, none) => none
  | (s, some (c, img)) =>
    let s := s.showImage 0 c img
    let s : State := { s with sec := { s.sec with mT := shake256 img 64, cert := s.sec.cert || b.settings.cert }, role := b.settings.role }
    let s := (s.formTrunks.setMasks b.settings.masks).setF Reg.DIR_ROLE_LIMIT_METERS b.settings.role.meters
    some (s.deriveKeys.armInField.write 0x0100FFC0 (slice b.settings.wakeKey 0 57))

/-! ## Step 5 -/

/-- R382: an image failed in both copies. -/
def State.imageFault (s : State) (p : Nat) : State := s.ownRecord .fallback [BitVec.ofNat 8 p, 1]

/-- R381, R382: the Kettle image and the application manifest are verified; Kettle's image starts, in a start-up from step 1. Does start-up go on? -/
def State.bootImages (s : State) (b : BootInput) : State × Bool :=
  let (s, k) := s.bootPart b 1
  let (s, a) := s.bootPart b 2
  let s := match k with
    | some (c, img) =>
      let s := s.showImage 1 c img
      let s := if s.power.cause = 1 then s else s.setF Reg.AON_STAT_KETTLE_IMAGE (c + 1)
      { s with sec := { s.sec with mK := shake256 img 64 } }
    | none => s.imageFault 1
  let s := match a with
    | some (c, img) =>
      let s := s.showImage 2 c img
      State.formTrunks { s with sec := { s.sec with mA := shake256 img 64 } }
    | none => s.imageFault 2
  (s, k.isSome && a.isSome)

/-- R473: three start-ups with SW_RESET or CLOCK_FAIL within the window of an UNCONFIRMED part make it fall back. -/
def State.countStarts (s : State) : State :=
  if s.power.cause ≠ 3 ∧ s.power.cause ≠ 4 then s
  else s.upd.parts.foldl (fun t e =>
    if !e.2.unconf then t
    else if 3 ≤ e.2.starts + 1 then t.fallBack e.1
    else t.setPart e.1 { t.upd.part e.1 with starts := e.2.starts + 1 }) s

/-! ## Steps 6 to 12 -/

/-- R12, R427: start-up ends in a mode. -/
def State.bootEnds (s : State) (m : Mode) : State :=
  let s : State := { s with power := { s.power with target := none } }
  ((s.setF Reg.PWR_STAT_BOOT_STEP 0).toMode m).settle 0

/-- R427: start-up ends before step 6: FABRIC stops, and Kettle serves. -/
def State.bootStays (s : State) (m : Mode) : State := (s.powerDown true).bootEnds m

/-- R12, R427: the domains of a mode start. -/
def State.startAll (s : State) : State := [Domain.core, .mem, .time, .lane, .port].foldl State.startDomain s

/-- R192, R354, R427, R455: the application image runs and enables the FTL: the mount, the checkpoint and the journal follow. -/
def State.bootMedium (s : State) (ckptOk : Bool) : State :=
  let s := if s.flag Reg.LCS_STAT_DBG_CTX ∧ s.getF Reg.LCS_STAT_LC ≠ 0 then s.err 0x23 0x0104 (accessInfo 0x23 .app Reg.FTL_CTRL_ENABLE.off) else s.mount ckptOk
  if s.flag Reg.FTL_STAT_MOUNTED then s.restore else s

end Sys2Proof.Machine
end

