-- ==== Sys2Proof/Machine/ModeOps.lean ====
section
/-! DEFINITION. What the changes of mode share: the stop sequence (R426), the last gasp (R435–R437), the lanes of TENDING and FULL (R431, R432), a restart (R423, R427) and
the slow inputs (R440–R443). -/

namespace Sys2Proof.Machine

/-! ## The FTL runs to its end -/

/-- The running operation of each die ends well. -/
def State.endOps (s : State) : State :=
  (List.range 16).foldl (fun t d =>
    let die := Fin.ofNat 16 d
    ((t.after' (execNandProgramDone die false true 0)).after' (execNandEraseDone die false)).after'
      (execNandReadDone die { bits := 0, uncorrectable := false, retries := 0 })) s

/-- R426: the operations in flight, and those that wait, are carried out. -/
def State.finishOps (s : State) : Nat → State
  | 0 => s
  | n + 1 => if s.ftl.ops.isEmpty then s else State.finishOps s.endOps n

/-- The most rounds that the operations of a state can take. -/
def State.opRounds (s : State) : Nat := 4 * (s.ftl.ops.length + 64)

/-- R82: the FTL takes what the commit queue holds. -/
def State.placeAll (s : State) : State := (s.queue 0x118).items.foldl (fun t _ => t.after' (execFtlPlaceItem 0)) s

/-- R83, R426: the open group closes at once, and its edge reaches the FTL. -/
def State.closeOpen (s : State) : State := (s.placeAll.closeNow).placeAll

/-- R84: the closed groups that are verified become durable, oldest first. -/
def State.durableAll (s : State) : State := s.path.groups.foldl (fun t _ => t.after' execGroupDurable) s

/-! ## The stop sequence -/

/-- R426 steps 1 to 3: Funnel takes no frame, the open group closes and is written and its acknowledgements are issued, the map journal follows. -/
def State.drainPath (s : State) : State :=
  let s := (s.setF Reg.FUNL_CTRL_ENABLE 0).closeOpen
  ((s.finishOps s.opRounds).durableAll).mapFlush

/-- Do acknowledgement items wait in the queues of the source ports? -/
def State.acksWait (s : State) : Bool := (List.range 10).any (fun p => !(s.queue (ackQ p)).items.isEmpty)

/-- R426 step 4: once the acknowledgements have gone out, every domain that the target mode does not run stops, and the mode is reached. -/
def State.stopEnd (s : State) : State :=
  match s.power.stop with
  | some m =>
    if s.acksWait then s
    else
      let t := s.powerDown true
      let t : State := { t with power := { t.power with stop := none } }
      (t.setF Reg.PWR_STAT_TRANSITION 0).toMode (Mode.ofCode m)
  | none => s

/-- R426: a stop sequence to DORMANT or LISTEN begins; it ends here where no acknowledgement waits. -/
def State.stopTo (s : State) (m : Nat) : State :=
  let s := s.drainPath
  let s : State := { s with power := { s.power with stop := some m } }
  (s.setF Reg.PWR_STAT_TRANSITION 1).stopEnd

/-! ## Restarts -/

/-- R423, R427: a running mode gives way to a start-up from step 1: FABRIC and every domain above it stop. -/
def State.restart (s : State) (cause : Nat) : State :=
  let t := s.powerDown true
  ({ t with power := { t.power with stop := none, target := none } } : State).dueStartup 1 cause

/-- R423: a mode in which the chip runs: TENDING, FULL, ACTIVATE, DEGRADED. -/
def Mode.runs : Mode → Bool
  | .tending | .full | .activate | .degraded => true
  | _ => false

/-! ## The last gasp -/

/-- R294: the last-gasp frame leaves on P0 and P1 with a trailer, on P2 and on P3, ahead of what waits for these ports. -/
def State.lgFrame (s : State) : State :=
  let b := s.getBytes Reg.ETH_LG_BUF_DATA (s.getF Reg.ETH_LG_LEN_LEN)
  let s : State := { s with uplink := { s.uplink with egress := [], freeAt := [] } }
  if b.isEmpty then s else ((s.paLocal b).ethSend 2 b).ethSend 3 b

/-- R437: is the open group, as the FTL holds it, to be written? -/
def State.lgWrites (s : State) : Bool :=
  s.flag Reg.FTL_STAT_MOUNTED && (s.nandKey Usage.enc).isSome &&
    decide ((s.path.placed.map (fun i => i.entry.length)).sum ≤ s.getF Reg.PWR_LG_CFG_MAX_KIB * 1024)

/-- R362: of the FTL's operations only page programs go on; merges, patrol reads and erases end. -/
def State.programsOnly (s : State) : State := { s with ftl := { s.ftl with ops := s.ftl.ops.filter (fun o => o.body.isProg) } }

/-- R362, R436, R437: the FTL's part: the open group is written or discarded, and the map journal tail follows. The answer is that it was written. -/
def State.lgMedium (s : State) : State × Bool :=
  let s := s.programsOnly.placeAll
  let w := s.lgWrites
  let s : State := if w then s.closeOpen else { s with path := { s.path with placed := [] } }
  ((s.finishOps s.opRounds).mapFlush, w)

/-- R435–R437, R484: the last-gasp sequence. A second event during it has no effect. -/
def State.lastGasp (s : State) (vmain : Bool) : State :=
  if s.flag Reg.PWR_STAT_LAST_GASP ∨ !s.power.main then s
  else
    let s := s.setF Reg.PWR_STAT_LAST_GASP 1
    let s := if vmain then s.setF Reg.PWR_STAT_VMAIN_OK 0 else s
    let s := if s.twinRole = 4 then s.twinTo 6 else s
    let (s, w) := s.lgFrame.lgMedium
    let s := (s.takeEvents.ownRecord .powerFail [BitVec.ofNat 8 (bit1 w)]).saveCounters
    let t := s.powerDown true
    let t : State := { t with power := { t.power with lgEnd := some t.tb1, lgWritten := w, stop := none, target := none } }
    (t.setF Reg.PWR_STAT_BOOT_STEP 0).setF Reg.PWR_STAT_TRANSITION 0

/-! ## Lanes -/

/-- R431: the groups of the other lanes with the lanes they move to, in turn. -/
def State.tendingMoves (s : State) (kept : List Nat) : List (Nat × Nat) :=
  let l := (List.range 65536).filter (fun g => !kept.contains (s.mapEntry g).lane)
  if kept.isEmpty then [] else l.zipIdx.map (fun e => (e.1, kept.getD (e.2 % kept.length) 0))

/-- R431: the entry to TENDING. With too few lanes in SERVICE the lowest-numbered lane that is OFF is powered. -/
def State.lanesTending (s : State) : State :=
  let kept := s.keptLanes
  let s : State := { s with moveQueue := s.tendingMoves kept, restoreMap := false, lanesWanted := 0 }
  let s := s.pumpMoves
  if kept.length < s.getF Reg.PWR_TEND_CFG_LANES then
    match s.lanesIn .off with
    | n :: _ => { s.powerLane n with lanesWanted := 1 }
    | [] => s
  else s

/-- R432: MODE_REQ FULL from TENDING: every lane that is OFF is powered; the mode becomes FULL once LANES_READY is latched. -/
def State.lanesFull (s : State) : State :=
  let s := (s.lanesIn .off).foldl State.powerLane { s with moveQueue := [], restoreMap := true, lanesWanted := 2 }
  (s.setF Reg.PWR_STAT_TRANSITION 1).lanesReady

/-! ## Slow inputs -/

/-- The slow input of a number. -/
def State.input (s : State) (i : Nat) : SlowInput := sget {} s.power.inputs i

/-- Replace a slow input. -/
def State.setInput (s : State) (i : Nat) (x : SlowInput) : State :=
  { s with power := { s.power with inputs := sput {} s.power.inputs i x } }

/-- R440: is an input conditioned now: inputs 0 to 3 in every mode, the others while main power is present? -/
def State.conditioned (s : State) (i : Nat) : Bool := decide (i < 4) || s.power.main

/-- R441, R442: an event of an input, latched and recorded. -/
def State.inputEvent (s : State) (i : Nat) (f : Field) (e : Ev) : State := (s.irq f).event e 0x03 [BitVec.ofNat 8 i]

/-- R442: a filtered edge is counted; the one beyond CHATTER_MAX in a window masks the input for 10 s. -/
def State.countEdge (s : State) (i : Nat) : State :=
  let s := s.count (condField Reg.AON_EDGE_CNT_CNT i)
  let x := s.input i
  let w := s.time.slow / 32768
  let n := if x.window = w then x.edges + 1 else 1
  let s := s.setInput i { x with window := w, edges := n }
  if n = s.getF (condField Reg.AON_COND_CFG_CHATTER_MAX i) + 1 ∧ !s.flag (condField Reg.AON_COND_STAT_CHATTER_MASK i) then
    ((s.setInput i { s.input i with chatterUntil := s.time.slow + 327680 }).setF (condField Reg.AON_COND_STAT_CHATTER_MASK i) 1).inputEvent i
      Reg.AON_IRQ_INPUT_CHATTER .inputChatter
  else s

/-- R424, R435, R443: an unmasked input asserts: the tamper response, the wake, or the last gasp. -/
def State.inputAsserts (s : State) (i : Nat) : State :=
  if i < 4 then s.tamper i
  else if i = 4 then s.wake 0 (s.wakeTarget Reg.PWR_WAKE_CFG_IN0)
  else if i = 5 then s.wake 1 (s.wakeTarget Reg.PWR_WAKE_CFG_IN1)
  else if i = 6 then s.lastGasp false
  else s

/-- R440: the level of an input as the registers show it. -/
def State.setLevel (s : State) (i : Nat) (on : Bool) : State :=
  let s := s.setF (condField Reg.AON_COND_STAT_LEVEL i) (bit1 on)
  let s := if i = 6 then s.setF Reg.PWR_STAT_PFW (bit1 on) else s
  let s := if i < 4 ∧ !on then s.setF Reg.TAMP_STAT_ACTIVE (withBits (s.getF Reg.TAMP_STAT_ACTIVE) i i 0) else s
  if on then s.setInput i { s.input i with since := s.time.slow } else s

/-- R441: an input that has become inactive is unmasked and re-arms. -/
def State.inputReleases (s : State) (i : Nat) : State :=
  if s.flag (condField Reg.AON_COND_STAT_STUCK_MASK i) then
    (s.setF (condField Reg.AON_COND_STAT_STUCK_MASK i) 0).inputEvent i Reg.AON_IRQ_INPUT_RELEASED .inputReleased
  else s

/-- R440–R443: a filtered level changes. Input 7 takes its level from the panel scan and counts no edges. -/
def State.inputEdge (s : State) (i : Nat) (on : Bool) : State :=
  if s.flag (condField Reg.AON_COND_STAT_LEVEL i) = on then s
  else
    let s := s.setLevel i on
    let s := if i = 7 then s else s.countEdge i
    if on then (if s.inputMasked i then s else s.inputAsserts i) else s.inputReleases i

end Sys2Proof.Machine
end

