-- ==== Sys2Proof/Machine/Lcs.lean ====
section
/-! DEFINITION. The lifecycle commands, their challenges, and the opening and closing of debug (R448–R457). -/

namespace Sys2Proof.Machine

/-- R451: a write of 1 to `LCS.CHAL_REQ.GO`: 32 bytes of the TRNG, and the count. -/
def execLcsChalReq (req : Req) (s : State) : Host.Outcome State Fault Refusal :=
  .next (s.onField req Reg.LCS_CHAL_REQ_GO fun s =>
    if !s.trngOk then s.refuseAt req Reg.LCS_CHAL_REQ_GO 0x0106
    else
      let (d, t) := s.drawBytes 32
      let t : State := { t with sec := { t.sec with chalAt := some t.tb1 } }
      (t.setBytes (fun k => Reg.LCS_CHAL_DATA k) 8 d).count Reg.LCS_CNT_CNT)

/-- R451: a challenge lapses. -/
def execChalLapse (s : State) : Host.Outcome State Fault Refusal :=
  match s.sec.chalAt with
  | some t => if t + chalLife ≤ s.tb1 then .next { s with sec := { s.sec with chalAt := none } } else idle s
  | none => idle s

/-- R451: what the signer of a command signs. -/
def State.lcsMessage (s : State) (op : Nat) : Bytes :=
  ascii "ZLA-LCS" ++ [BitVec.ofNat 8 op] ++ s.identity ++ s.getBytes (fun k => Reg.LCS_CHAL_DATA k) 32 ++ leBytes 4 (s.getF Reg.LCS_CNT_CNT)

/-- R451: the signature written. -/
def State.lcsSig (s : State) : Bytes := s.getBytes (fun k => Reg.LCS_SIG_DATA k) 114

/-- R449, R454: the keys that may sign a command: the owner key, and for DEBUG_OPEN the debug keys of the lifecycle. -/
def State.lcsKeys (s : State) (op : Nat) : List Bytes :=
  let o := s.sec.otp
  (if op ≠ 1 then [o.ownerKey] else if s.getF Reg.LCS_STAT_LC = 1 then [o.vendorDebug, o.ownerDebug] else [o.ownerDebug]).filter (fun k => !k.isEmpty)

/-- R451: the code of a signed command's challenge and signature; 0 where both are good. -/
def State.sigCode (s : State) (op : Nat) : Nat :=
  if !s.chalValid then 0x0102
  else if (s.lcsKeys op).any (fun k => edVerify k false (s.lcsMessage op) s.lcsSig) then 0
  else 0x0101

/-- R449: the lifecycles from which a command is allowed. -/
def lcFrom (op lc : Nat) : Bool :=
  match op with
  | 2 => lc == 1
  | 3 => lc == 1 || lc == 2
  | 4 => lc == 1 || lc == 2 || lc == 3
  | 5 => lc == 0
  | _ => true

/-- R449: the conditions of a command beside its state and its signature: who issues it, and what must be in place. -/
def State.lcPrereq (s : State) (req : Req) (op : Nat) : Bool :=
  let o := s.sec.otp
  match op with
  | 2 => req == .trusted && s.sec.cert
  | 3 => req == .trusted
  | 5 => req == .trusted && s.flag Reg.LCS_STAT_ENROLLED && !o.ownerKey.isEmpty && !o.ownerDebug.isEmpty && !o.releaseKey.isEmpty && o.pcieIds.isSome
  | _ => req == .trusted || req == .debug

/-- R449, R451: is a command signed? KILL_DEBUG is unsigned from TRUSTED. -/
def lcSigned (req : Req) (op : Nat) : Bool := op == 1 || op == 2 || op == 3 || (op == 4 && req != .trusted)

/-- R449, R454, R457: the code with which a command is refused before its signature is looked at; 0 where it is not. -/
def State.lcRefusal (s : State) (req : Req) (op : Nat) : Nat :=
  let lc := s.getF Reg.LCS_STAT_LC
  let dbg := s.getF Reg.LCS_STAT_DBG_STATE
  if lcSigned req op ∧ s.flag Reg.LCS_STAT_DBG_LOCKOUT then 0x0104
  else if op = 1 ∧ dbg = 2 then 0x0103
  else if (op = 1 ∧ dbg = 0) ∨ !lcFrom op lc then 0x0100
  else if op = 1 ∧ (s.mode = .activate ∨ s.flag Reg.PWR_STAT_LAST_GASP) then 0x0107
  else if !s.lcPrereq req op then 0x0105
  else 0

/-- R451, R457: a refusal of the challenge or of the signature is counted; the eighth locks signed commands out. -/
def State.countRefusal (s : State) : State :=
  let t := (s.count Reg.LCS_DBG_FAIL_CNT_CNT).irq Reg.LCS_IRQ_CMD_FAIL
  if 8 ≤ t.getF Reg.LCS_DBG_FAIL_CNT_CNT then t.setF Reg.LCS_STAT_DBG_LOCKOUT 1 else t

/-- R461: a command ends with a status. -/
def State.lcsEnd (s : State) (status : Nat) : State := s.setF Reg.LCS_CMD_STAT_STATUS status

/-- R38, R461: a command is refused with a status, which is recorded with the access that gave it. -/
def State.lcsRefuse (s : State) (req : Req) (status : Nat) : State := (s.refuseAt req Reg.LCS_CMD_GO status).lcsEnd status

/-- R449, R451: a command: refused, or its signature checked and the challenge spent, or carried out. -/
def State.lcsCommand (s : State) (req : Req) (op : Nat) (k : State → State) : State :=
  s.onField req Reg.LCS_CMD_GO fun s =>
    let s := s.setF Reg.LCS_CMD_OP op
    let c := s.lcRefusal req op
    if c ≠ 0 then s.lcsRefuse req c
    else if lcSigned req op then
      let c := s.sigCode op
      let t : State := { s with sec := { s.sec with chalAt := none } }
      if c = 0 then (k t).lcsEnd 0 else t.countRefusal.lcsRefuse req c
    else (k s).lcsEnd 0

/-- R448: fuses are blown, and the next start-up reads them. -/
def State.blow (s : State) (o : Otp) : State :=
  let n := o.lifecycle
  let t : State := { s with sec := { s.sec with otp := o } }
  if n = s.sec.otp.lifecycle then t
  else
    let t := if s.sec.otp.lifecycle = s.getF Reg.LCS_STAT_LC then t.irq Reg.LCS_IRQ_LC_PENDING else t
    t.event .lifecycle 0x07 [BitVec.ofNat 8 n]

/-- R456: debug access closes. -/
def State.debugClose (s : State) : State :=
  let t := if s.flag Reg.LCS_STAT_DBG_OPEN then s.event .debugClosed 0x07 else s
  (t.setF Reg.LCS_STAT_DBG_OPEN 0).irq Reg.LCS_IRQ_DBG_CLOSED

/-- R387, R454 step 4, R455: the debug context: every slot is erased, the trunks are re-formed, the medium is unmounted. -/
def State.debugContext (s : State) : State :=
  let t := (s.setF Reg.LCS_STAT_DBG_CTX 1).eraseAll.formTrunks
  let t := (t.setF Reg.FTL_CTRL_ENABLE 0).setF Reg.FTL_STAT_MOUNTED 0
  ((t.setF Reg.LCS_STAT_DBG_OPEN 1).irq Reg.LCS_IRQ_DBG_OPENED).event .debugOpened 0x07

/-- R454: the steps of an opening. Funnel, stopped by step 2, takes frames again. -/
def State.debugOpen (s : State) : State :=
  let on := s.getF Reg.FUNL_CTRL_ENABLE
  let t := s.drainPath.debugContext.deriveKeys
  (t.setF Reg.FUNL_CTRL_ENABLE on).count Reg.LCS_DBG_OPEN_CNT_CNT

/-- R454: DEBUG_OPEN. -/
def execLcsDebugOpen (req : Req) (s : State) : Host.Outcome State Fault Refusal := .next (s.lcsCommand req 1 State.debugOpen)

/-- R449: DEPLOY. -/
def execLcsDeploy (req : Req) (s : State) : Host.Outcome State Fault Refusal :=
  .next (s.lcsCommand req 2 fun s => s.blow { s.sec.otp with lc2 := true })

/-- R449: RETIRE. -/
def execLcsRetire (req : Req) (s : State) : Host.Outcome State Fault Refusal :=
  .next (s.lcsCommand req 3 fun s => s.blow { s.sec.otp with lc3 := true })

/-- R449, R457: KILL_DEBUG, which takes effect at once. -/
def execLcsKillDebug (req : Req) (s : State) : Host.Outcome State Fault Refusal :=
  .next (s.lcsCommand req 4 fun s =>
    let t : State := { s with sec := { s.sec with otp := { s.sec.otp with kill := true } } }
    let t := (t.setF Reg.LCS_STAT_DBG_STATE 2).event .lifecycle 0x07 [4]
    if t.flag Reg.LCS_STAT_DBG_OPEN then t.debugClose else t)

/-- R449: PROVISION. -/
def execLcsProvision (req : Req) (s : State) : Host.Outcome State Fault Refusal :=
  .next (s.lcsCommand req 5 fun s => s.blow { s.sec.otp with lc1 := true })

/-- R456: DEBUG_CLOSE. -/
def execLcsDebugClose (req : Req) (s : State) : Host.Outcome State Fault Refusal := .next (s.lcsCommand req 6 State.debugClose)

end Sys2Proof.Machine
end

