-- ==== Sys2Proof/Machine/Modes.lean ====
section
/-! DEFINITION. Operating modes, start-up and power failure (R422–R447). -/

namespace Sys2Proof.Machine

/-! ## Mode requests -/

/-- R425: the code with which a request for a mode is refused; 0 where it is taken. -/
def State.modeRefusal (s : State) (m : Nat) : Nat :=
  if m = 0 ∨ 4 < m ∨ s.mode = .lockdown then Err.valueRefused
  else if s.startingUp ∨ s.power.stop.isSome ∨ s.flag Reg.PWR_STAT_LAST_GASP ∨ s.mode = .activate then 0x0100
  else if m = 3 ∧ s.flag Reg.TWIN_CTRL_ENABLE ∧ !s.flag Reg.PWR_TEND_CFG_PORT_HOLD then Err.valueRefused
  else 0

/-- R423, R425: a request that is taken. -/
def State.takeMode (s : State) (m : Nat) : State :=
  if s.mode.code = m ∨ (s.mode = .degraded ∧ m = 4) then s
  else match s.mode with
  | .dormant => s.riseTo m
  | .listen => if m = 1 then s.toMode .dormant else s.riseTo m
  | .tending => if m = 4 then s.lanesFull else s.stopTo m
  | .full | .degraded => if m = 3 then (s.toMode .tending).lanesTending else s.stopTo m
  | _ => s

/-- R425: a write of `PWR.MODE_REQ`. -/
def execModeReq (req : Req) (data : Word) (s : State) : Host.Outcome State Fault Refusal :=
  let m := data.toNat % 8
  .next (s.onField req Reg.PWR_MODE_REQ_MODE fun s =>
    if s.modeRefusal m = 0 then s.takeMode m else s.refuseAt req Reg.PWR_MODE_REQ_MODE (s.modeRefusal m))

/-- R424: WAKE_IN0 or WAKE_IN1 asserts, unmasked and not active already, with main power present. -/
def execWakeInput (input : Fin 2) (s : State) : Host.Outcome State Fault Refusal :=
  let i := 4 + input.val
  if s.inputMasked i ∨ s.flag (condField Reg.AON_COND_STAT_LEVEL i) ∨ !s.power.main then idle s else .next (s.inputAsserts i)

/-! ## Start-up -/

/-- R423, R427: the mode that start-up leads to. -/
def State.bootTarget (s : State) : Nat := s.power.target.getD (s.getF Reg.PWR_BOOT_CFG_TARGET)

/-- R427 steps 6 to 12. -/
def State.bootServes (s : State) (b : BootInput) : State :=
  let m := Mode.ofCode s.bootTarget
  let s := (s.startAll.bootMedium b.ckptOk).bootEnds m
  if m = .tending then s.lanesTending else s

/-- R427 steps 2 to 5: the OTP, the root, Trivet and the images; what fails leads to LOCKDOWN or leaves the chip in LISTEN. -/
def State.bootSecure (s : State) (b : BootInput) : State :=
  if s.flag Reg.TAMP_STAT_TAMPER_LATCH then s.lockdown
  else
    let s := (s.startDomain .fabric).readOtp b.fuses
    let s := (s.setF Reg.TRNG_STAT_STATE (if b.trng then 2 else 1)).takeMedium b
    match s.formRoot b with
    | none => (s.err 0x08 0x0109 0).lockdown
    | some s =>
      match s.countStarts.bootTrivet b with
      | none => s.lockdown
      | some s =>
        match s.bootImages b with
        | (s, false) => s.bootStays .listen
        | (s, true) => if s.bootTarget ≤ 2 then s.bootStays (Mode.ofCode s.bootTarget) else s.bootServes b

/-- R423, R427, R498: start-up runs, where one is due or main power returns. -/
def execStartup (input : BootInput) (s : State) : Host.Outcome State Fault Refusal :=
  if s.startingUp ∨ !s.power.main then .next ((s.bootBegin input.nor).bootSecure input) else idle s

/-! ## DEGRADED -/

/-- R434: every unmasked cause has cleared. -/
def execDegradedExit (s : State) : Host.Outcome State Fault Refusal :=
  if s.mode = .degraded ∧ s.degCause &&& s.getF Reg.PWR_DEG_MASK_MASK = 0 then .next (s.toMode .full) else idle s

/-! ## Clocks -/

/-- R445: a running PLL loses lock. -/
def execPllUnlock (pll : Fin 7) (s : State) : Host.Outcome State Fault Refusal :=
  if s.mode.runs ∧ !s.startingUp ∧ bitAt (s.getF Reg.CLK_PLL_LOCK_LOCK) pll.val = 1 then
    .next ((s.setF Reg.CLK_UNLOCK_LAST_PLL pll.val).restart 4)
  else idle s

/-- R445: CLK10M_IN is lost: DCO_TIME returns to the crystal, TB0 makes no step, TIME_REF keeps its value. -/
def execRef10Lost (s : State) : Host.Outcome State Fault Refusal :=
  if s.flag Reg.CLK_STAT_REF10_OK then .next ((s.setF Reg.CLK_STAT_REF10_OK 0).irq Reg.CLK_IRQ_REF10_LOST) else idle s

/-- R445: CLK10M_IN returns. -/
def execRef10Back (s : State) : Host.Outcome State Fault Refusal :=
  if s.flag Reg.CLK_STAT_REF10_OK then idle s else .next ((s.setF Reg.CLK_STAT_REF10_OK 1).irq Reg.CLK_IRQ_REF10_BACK)

/-- R423, R444: a write of `SYS.SW_RESET`; without the key it is refused. -/
def execSwReset (req : Req) (data : Word) (s : State) : Host.Outcome State Fault Refusal :=
  let d := data.toNat
  .next (s.onField req Reg.SYS_SW_RESET_GO fun s =>
    if bitsOf d 15 8 ≠ 0xA5 then s.refuseAt req Reg.SYS_SW_RESET_GO Err.valueRefused
    else if bitAt d 0 = 1 ∧ s.mode.runs ∧ !s.startingUp then s.restart 3
    else s)

/-! ## Power failure -/

/-- R435: the VMAIN monitor warns, or PFW_N asserts unmasked. -/
def execLastGasp (vmain : Bool) (s : State) : Host.Outcome State Fault Refusal :=
  if !vmain ∧ s.inputMasked 6 then idle s else .next (s.lastGasp vmain)

/-- R438: main power has stayed good for RECOVER_MS since the sequence ended, with PFW_N inactive or masked. -/
def execLgRecover (s : State) : Host.Outcome State Fault Refusal :=
  match s.power.lgEnd with
  | some t =>
    if s.power.main ∧ (!s.flag Reg.PWR_STAT_PFW ∨ s.inputMasked 6) ∧ t + s.getF Reg.PWR_LG_CFG_RECOVER_MS * 1000000 ≤ s.tb1 then
      let s : State := { s with power := { s.power with lgEnd := none } }
      .next ((s.setF Reg.PWR_STAT_VMAIN_OK 1).dueStartup 1 5)
    else idle s
  | none => idle s

/-- R205, R484: TB1 starts again from 0 at the next main power-up: what the state measures against it starts again too. -/
def State.forgetTb1 (s : State) : State :=
  { s with
    tb1 := 0,
    time := { s.time with slewAt := 0, syncAt := none, ppsAt := none, lockedAt := 0, tb4At := 0, zcLast := 0, zcCand := none, zcIvls := [], batAt := 0 },
    ftl := { s.ftl with blks := s.ftl.blks.map (fun e => (e.1, { e.2 with patrolAt := 0 })), wlAt := 0 },
    evr := { s.evr with optBase := s.opTime, usedAt := 0, alarm := s.evr.alarm.map (fun a => (a.1, 0)) },
    power := { s.power with lgEnd := none, target := none, stop := none } }

/-- R423, R436: main power falls after the last-gasp sequence has ended: the chip is in BACKUP, and the retention supply alone runs. -/
def execMainPowerLoss (s : State) : Host.Outcome State Fault Refusal :=
  if s.power.lgEnd.isSome ∧ s.power.main then
    let t := (((s.toMode .backup).takeEvents).powerDown false).forgetTb1
    let t : State := { t with power := { t.power with main := false, cause := 0 } }
    .next (t.setF Reg.PWR_STAT_BOOT_STEP 0)
  else idle s

/-! ## Slow inputs -/

/-- R440: a slow input's filtered level changes. -/
def execSlowInputEdge (input : Fin 8) (active : Bool) (s : State) : Host.Outcome State Fault Refusal :=
  if s.conditioned input.val then .next (s.inputEdge input.val active) else idle s

/-- R441: an input has been active for STUCK_S. -/
def execInputStuck (input : Fin 8) (s : State) : Host.Outcome State Fault Refusal :=
  let i := input.val
  if s.conditioned i ∧ s.flag (condField Reg.AON_COND_STAT_LEVEL i) ∧ !s.flag (condField Reg.AON_COND_STAT_STUCK_MASK i) ∧
      (s.input i).since + s.getF (condField Reg.AON_COND_CFG_STUCK_S i) * 32768 ≤ s.time.slow then
    .next ((s.setF (condField Reg.AON_COND_STAT_STUCK_MASK i) 1).inputEvent i Reg.AON_IRQ_INPUT_STUCK .inputStuck)
  else idle s

/-- R442: the 10 s mask ends: the input's present level is its reference, and no event is raised. -/
def execChatterMaskEnd (input : Fin 8) (s : State) : Host.Outcome State Fault Refusal :=
  let i := input.val
  if s.flag (condField Reg.AON_COND_STAT_CHATTER_MASK i) ∧ (s.input i).chatterUntil ≤ s.time.slow then
    .next (s.setF (condField Reg.AON_COND_STAT_CHATTER_MASK i) 0)
  else idle s

/-- R199, R440, R441: one scan of the keypad gives input 7 its level; the third equal scan accepts the key, unless the keypad is masked as stuck. -/
def execPanelKeyScan (key : Option (Fin 16)) (s : State) : Host.Outcome State Fault Refusal :=
  if !s.flag Reg.PANEL_CTRL_ENABLE then idle s
  else
    let k := key.map (·.val)
    let cnt := if k = s.panel.scanKey then min 4 (s.panel.scanCnt + 1) else 1
    let s := State.inputEdge { s with panel := { s.panel with scanKey := k, scanCnt := cnt } } 7 k.isSome
    match k with
    | some k => if cnt = 3 ∧ !s.flag (condField Reg.AON_COND_STAT_STUCK_MASK 7) then .next (s.panelKey k) else .next s
    | none => .next s

end Sys2Proof.Machine
end

