-- ==== Sys2Proof/Machine/Msix.lean ====
section
/-! DEFINITION. What the host sees of the PCIe endpoint beside the rings: its configuration header and the MSI-X table of BAR4 with its messages (R295, R299). -/

namespace Sys2Proof.Machine

/-- R295: the identification of the endpoint in its configuration space: vendor, device 0x9100, class code 0x11_8000, subsystem vendor and subsystem; none before
the identifiers are in the OTP. -/
def State.pcieIdent (s : State) : Option (Nat × Nat × Nat × Nat × Nat) :=
  s.sec.otp.pcieIds.map fun (v, sv, sub) => (v.toNat, 0x9100, 0x118000, sv.toNat, sub.toNat)

/-- A vector of the MSI-X table. -/
def State.msixVec (s : State) (v : Nat) : MsixVec := sget {} s.uplink.msix v

/-- R299: the message of a vector leaves, or waits in the PBA while the vector is masked. -/
def State.msixFire (s : State) (v : Nat) : State :=
  let x := s.msixVec v
  if x.masked then { s with uplink := { s.uplink with pba := if s.uplink.pba.contains v then s.uplink.pba else s.uplink.pba ++ [v] } }
  else s.emit 41 (leBytes 8 x.addr ++ leBytes 4 x.data)

/-- R299: does the interrupt output of a page reach a vector? -/
def State.vecOn (s : State) (p : Nat) : Bool := pageExists p && s.getF (Reg.PCIE_VEC_DATA_EN.win 6 p) == 1

/-- R299: the messages of the pages whose interrupt output has risen since the last look. -/
def State.msixTick (s : State) : State :=
  if !s.uplink.msixOn ∨ !s.pcieMaster then s
  else
    let high := (List.range 256).filter (fun p => s.vecOn p && s.irqStat p != 0)
    let up := high.filter (fun p => !s.uplink.vecHigh.contains p)
    let t := up.foldl (fun t p => t.msixFire (s.getF (Reg.PCIE_VEC_DATA_VEC.win 6 p))) s
    { t with uplink := { t.uplink with vecHigh := high } }

/-- R295: a 32-bit word of the MSI-X table, which the host writes through BAR4: address, address, data, mask. A vector that is unmasked sends the message that waits. -/
def State.msixWrite (s : State) (off d : Nat) : State :=
  let v := off / 16
  let x := s.msixVec v
  let y : MsixVec := match off / 4 % 4 with
    | 0 => { x with addr := x.addr / 2 ^ 32 * 2 ^ 32 + d / 4 * 4 }
    | 1 => { x with addr := x.addr % 2 ^ 32 + d * 2 ^ 32 }
    | 2 => { x with data := d }
    | _ => { x with masked := bitAt d 0 == 1 }
  let t : State := { s with uplink := { s.uplink with msix := sput {} s.uplink.msix v y } }
  if !y.masked && t.uplink.pba.contains v then
    ({ t with uplink := { t.uplink with pba := t.uplink.pba.erase v } } : State).msixFire v
  else t

/-- R295: where the model places BAR4 among the addresses of the PCIE requester: its 64 KiB from 0x20_0000_0000 on, the table in the first 512 bytes (log entry
115). -/
def inBar4 (req : Req) (a : Nat) : Bool := req == .pcie && decide (0x2000000000 ≤ a) && decide (a < 0x2000010000)

end Sys2Proof.Machine
end

