-- ==== Sys2Proof/Machine/Queues.lean ====
section
/-! DEFINITION. The queue monitor and the queue ends: watermarks, the credit check, a flush and its end (R58–R62). The reset of a Q-PRIV queue (R56) stands in Recovery.lean, because the owners of such queues recover what it loses. -/

namespace Sys2Proof.Machine

/-- R59: a write of the watermarks of a queue end; a change of a live flag is a crossing. -/
def execWatermarkWrite (req : Req) (page : BitVec 8) (qend : Fin 6) (hi lo : BitVec 16) (s : State) :
    Host.Outcome State Fault Refusal :=
  let q := 8 * page.toNat + qend.val
  .next (s.onWrite req page.toNat (0x080 + qend.val * 0x10) fun s =>
    if qDepth q = 0 then s
    else
      let t := (s.setF (Reg.HI_MARK q) hi.toNat).setF (Reg.LO_MARK q) lo.toNat
      t.crossings q (s.level q) (t.level q))

/-- R21: the credit sum of a queue equals its depth. -/
def State.creditsHold (s : State) (q : Nat) : Bool :=
  let x := s.queue q
  decide (x.credits + x.items.length + x.held + x.returning = qDepth q)

/-- R61, R62: a queue fault is latched in QMON with the number of its queue. -/
def State.queueFault (s : State) (q bit : Nat) (f : Field) : State :=
  ((s.setF f 1).setF Reg.QMON_QMON_FAULT_Q_QNUM q).irq (Reg.irqRaw 0x21 bit)

/-- R62: one evaluation of a queue's credit sum; the second failure in a row is reported (R21). -/
def execQmonCreditCheck (queue : QueueId) (s : State) : Host.Outcome State Fault Refusal :=
  let q := queue.toNat
  let x := s.queue q
  if qDepth q = 0 then idle s
  else if s.creditsHold q then .next (s.setQueue q { x with fails := 0 })
  else
    let t := s.setQueue q { x with fails := x.fails + 1 }
    if x.fails = 0 then .next t
    else .next ((t.queueFault q 0 Reg.QMON_QMON_FAULT_CREDIT_FAULT).event .creditFault 0x21 (leBytes 2 q))

/-- R60: the items a flush discards: all complete ones, but for the one the consumer has begun to read. -/
def flushed (x : Queue) (reading : Bool) : List Item × List Item :=
  if reading then (x.items.take 1, x.items.drop 1) else ([], x.items)

/-- R60: start a flush. With the producer part-way through an item its port enters DISCARD, and the credits
return when DISCARD ends; otherwise they return at once and FLUSH clears itself. A word written with EOI on
the edge of the flush completes its item, which is discarded with the others. -/
def State.flush (s : State) (q : Nat) (producer : FlushEdge) (reading : Bool) : State :=
  let x := s.queue q
  let (keep, gone) := flushed x reading
  let n := gone.length
  if producer = .partway ∧ 0 < x.credits then
    (((s.setQueue q { x with items := keep, credits := x.credits - 1, returning := x.returning + n + 1 }).setF
      (Reg.FLUSH q) 1).setF (Reg.DISCARD q) 1).count (Reg.qLost q) n |>.notTaken gone
  else
    let m := if producer = .eoi ∧ 0 < x.credits then n + 1 else n
    ((s.setQueue q { x with items := keep, credits := x.credits + n }).count (Reg.qLost q) m).notTaken gone

/-- R60: a write of FLUSH; one written while a flush is in progress has no further effect. -/
def execQueueFlush (req : Req) (page : BitVec 8) (qend : Fin 6) (producer : FlushEdge) (consumerReading : Bool)
    (s : State) : Host.Outcome State Fault Refusal :=
  let q := 8 * page.toNat + qend.val
  .next (s.onWrite req page.toNat (0x08C + qend.val * 0x10) fun s =>
    if qDepth q = 0 ∨ s.flag (Reg.FLUSH q) then s else s.flush q producer consumerReading)

/-- R60: the producer's partial item reaches its EOI: DISCARD ends, the credits return and FLUSH clears. -/
def execFlushDiscardEnd (page : BitVec 8) (qend : Fin 6) (s : State) : Host.Outcome State Fault Refusal :=
  let q := 8 * page.toNat + qend.val
  if s.flag (Reg.DISCARD q) then
    let x := s.queue q
    let s := s.setQueue q { x with credits := x.credits + x.returning, returning := 0 }
    let s := ((s.setF (Reg.DISCARD q) 0).setF (Reg.FLUSHED_PARTIAL q) 1).setF (Reg.FLUSH q) 0
    .next ((s.count (Reg.qLost q)).err page.toNat Err.flushedPartial 0)
  else idle s

end Sys2Proof.Machine
end

