-- ==== Sys2Proof/Machine/Upd.lean ====
section
/-! DEFINITION. The update block: pieces (R465–R467), installation (R468), activation (R469–R471), confirmation and fall-back (R472–R474), and the partner's measurement (R476). -/

namespace Sys2Proof.Machine

/-! ## Pieces -/

/-- R465: a completion: TAG in byte 0, the status in bytes 2–3. An UPD code is recorded on the page. -/
def State.updDone (s : State) (tag status : Nat) : State :=
  let s := if status ≤ 1 then s else s.err 0x0D status 0
  let s := if status = 0x0103 then s.irq Reg.UPD_IRQ_PIECE_BAD else s
  s.enq 0x69 { body := .bytes ([BitVec.ofNat 8 tag, 0] ++ leBytes 2 status ++ [0, 0, 0, 0]) }

/-- R467: the pieces that a page of FW_STAGE holds. -/
def State.perPage (s : State) : Nat := s.pageBytes / 512

/-- R467: a piece as FW_STAGE holds it. -/
def State.stagedPiece (s : State) (i : Nat) : Bytes :=
  slice ((s.volRead 6 (i / s.perPage)).getD []) (i % s.perPage * 512) 512

/-- R463: the leaf hash of data piece `k`, as the hash pieces give it. -/
def State.storedLeaf (s : State) (k : Nat) : Bytes := slice (s.stagedPiece (1 + k / 16)) (32 * (k % 16)) 32

/-- R466: a session ends: FW_STAGE and the bitmap are released. -/
def State.endSession (s : State) : State :=
  { s with upd := { s.upd with state := 0, manifest := [], bitmap := [], waiting := [] } }

/-- R467: a piece waits for its page. -/
def State.stagePiece (s : State) (i tag : Nat) (d : Bytes) : State :=
  { s with upd := { s.upd with waiting := s.upd.waiting ++ [{ index := i, tag := tag, data := d, since := s.tb1 }] } }

/-- R462, R467: do the pieces of an image fit FW_STAGE? -/
def State.stageFits (s : State) (m : Bytes) : Bool :=
  decide ((1 + manH m + manN m) * 512 ≤ s.volPages 6 * s.pageBytes)

/-- R464, R466: piece 0. A valid manifest begins a session. -/
def State.takeManifest (s : State) (tag : Nat) (d : Bytes) : State :=
  if s.upd.state ≠ 0 then s.updDone tag (if d = s.upd.manifest then 1 else 0x0101)
  else if !s.manifestFits d then s.updDone tag 0x0100
  else if !s.secverFits d then s.updDone tag 0x0102
  else if !s.stageFits d then s.updDone tag 0x0107
  else
    let t : State := { s with upd := { s.upd with state := 1, manifest := d, bitmap := [], waiting := [] } }
    (t.irq Reg.UPD_IRQ_MANIFEST_OK).stagePiece 0 tag d

/-- R466: a hash or data piece. -/
def State.takePiece (s : State) (i build tag : Nat) (d : Bytes) : State :=
  let u := s.upd
  let h := manH u.manifest
  if u.state = 0 ∨ build ≠ manBuild u.manifest % 2 ^ 32 ∨ u.total ≤ i then s.updDone tag 0x0103
  else if u.has i then s.updDone tag 1
  else if i ≤ h then s.stagePiece i tag d
  else if u.state = 1 then s.updDone tag 0x0104
  else if leafHash (i - h - 1) d = s.storedLeaf (i - h - 1) then s.stagePiece i tag d
  else (s.count Reg.UPD_PIECE_BAD_CNT_CNT).updDone tag 0x0103

/-- R465: an item of the piece queue. -/
def State.takeUpd (s : State) (b : Bytes) (poison : Bool) : State :=
  let tag := leAt b 12 1
  let d := slice b 16 512
  if poison then s.enq 0x69 { body := .bytes ([BitVec.ofNat 8 tag, 0] ++ leBytes 2 0x0103 ++ [0, 0, 0, 0]) }
  else if leAt b 0 4 = 0 then s.takeManifest tag d
  else s.takePiece (leAt b 0 4) (leAt b 4 4) tag d

/-- R465, R466: UPD takes the front of the piece queue, while it has a completion for it; `sub` is an item that software writes first. -/
def execUpdPiece (sub : Option Submission) (s : State) : Host.Outcome State Fault Refusal :=
  let s := match sub with
    | some x => s.submit 0x68 x (.bytes (slice x.item 0 528))
    | none => s
  if !s.domOn .fabric ∨ !s.flag Reg.UPD_CTRL_ENABLE ∨ (s.queue 0x69).credits ≤ s.upd.waiting.length then .next s
  else match (s.queue 0x68).items.head? with
    | some { body := .bytes b, poison := p } =>
      match s.deq 0x68 with
      | some (_, t) => .next (t.takeUpd b (p != 0))
      | none => .next s
    | _ => .next s

/-- R467: is a page of FW_STAGE to be written: every piece that belongs in it is here, or the first unwritten one came 2 s ago? -/
def State.pageDue (s : State) (n : Nat) : Bool :=
  let here := s.upd.waiting.filter (fun p => p.index / s.perPage == n)
  !here.isEmpty && ((List.range s.perPage).all (fun k =>
      let i := n * s.perPage + k
      decide (s.upd.total ≤ i) || s.upd.has i || here.any (fun p => p.index == i)) ||
    here.any (fun p => decide (p.since + 2 * nsPerS ≤ s.tb1)))

/-- R467: a page with the pieces that wait for it in place. -/
def State.pageWith (s : State) (n : Nat) (l : List StagedPiece) : Bytes :=
  l.foldl (fun b p => splice b (p.index % s.perPage * 512) p.data) (slice ((s.volRead 6 n).getD []) 0 s.pageBytes)

/-- R466: the last missing hash piece is stored: the root of the leaves decides. The answer is whether it differs. -/
def State.checkHashes (s : State) : State × Bool :=
  let u := s.upd
  let h := manH u.manifest
  let all := (List.range h).all (fun k => u.has (k + 1))
  if u.state ≠ 1 ∨ h = 0 ∨ !all then (s, false)
  else if merkleTop 24 ((List.range (manN u.manifest)).map s.storedLeaf) = manRoot u.manifest then
    (({ s with upd := { u with state := 2 } } : State).irq Reg.UPD_IRQ_HASHES_OK, false)
  else ({ s with upd := { u with bitmap := u.bitmap.filter (fun e => e.1 == 0 || decide (h < e.1)) } }, true)

/-- R466: the last missing data piece is stored. -/
def State.checkComplete (s : State) : State :=
  if s.upd.state = 2 ∧ s.upd.missing = s.upd.total then
    ({ s with upd := { s.upd with state := 3 } } : State).irq Reg.UPD_IRQ_COMPLETE
  else s

/-- R467: a page is programmed and verified: its pieces are recorded and their completions go out. -/
def State.recordPieces (s : State) (n : Nat) (l : List StagedPiece) : State :=
  let u := s.upd
  let t : State := { s with upd := { u with
    bitmap := l.foldl (fun b p => sput false b p.index true) u.bitmap,
    waiting := u.waiting.filter (fun p => p.index / s.perPage != n) } }
  let (t, bad) := t.checkHashes
  let h := manH u.manifest
  let lastHash := ((l.filter (fun p => decide (1 ≤ p.index) && decide (p.index ≤ h))).getLast?).map (·.tag)
  let t := l.foldl (fun t p => t.updDone p.tag (if bad && decide (1 ≤ p.index) && decide (p.index ≤ h) && lastHash == some p.tag then 0x0103 else 0)) t
  t.checkComplete

/-- R467: a page of FW_STAGE that is due is written. The bitmap goes to UPD_MAP with it. -/
def execUpdPageWrite (s : State) : Host.Outcome State Fault Refusal :=
  match (s.upd.waiting.map (fun p => p.index / s.perPage)).find? s.pageDue with
  | none => idle s
  | some n =>
    let l := s.upd.waiting.filter (fun p => p.index / s.perPage == n)
    match s.volWrite 6 n (s.pageWith n l) with
    | none => idle s
    | some t =>
      let u := t.recordPieces n l
      .next ((u.volWrite 8 0 ([BitVec.ofNat 8 u.upd.state] ++ (List.range 2043).map (fun k =>
        BitVec.ofNat 8 (((List.range 8).map (fun b => bit1 (u.upd.has (8 * k + b)) * 2 ^ b)).sum)))).getD u)

/-! ## Installation -/

/-- R468: the bytes of a region with an image at its start, over one logical block, as pages. -/
def State.blockWith (s : State) (copy base lblk : Nat) (img : Bytes) : List Bytes :=
  (List.range s.ppb).map (fun n => (List.range s.pageBytes).map (fun k =>
    let o := (lblk * s.ppb + n) * s.pageBytes + k
    if base ≤ o ∧ o < base + img.length then img.getD (o - base) 0 else s.bootByte (4 + copy) 0 o))

/-- R468: the image and its manifest go to the region of a part; none where it does not fit or the medium takes no write. -/
def State.writeRegion (s : State) (p copy : Nat) (img : Bytes) : Option State :=
  let per := s.ppb * s.pageBytes
  let base := regionBase p
  if per = 0 ∨ s.volPages (4 + copy) * s.pageBytes < base + img.length then none
  else (List.range ((base + img.length + per - 1) / per - base / per)).foldl (fun r k =>
    r.bind (fun t => t.bootWrite (4 + copy) (base / per + k) (t.blockWith copy base (base / per + k) img))) (some s)

/-- R468: the image as FW_STAGE holds it: the manifest and the data pieces. -/
def State.stagedImage (s : State) : Bytes :=
  let u := s.upd
  u.manifest ++ (List.range (manN u.manifest)).flatMap (fun k => s.stagedPiece (1 + manH u.manifest + k))

/-- R466, R468: the copy not in use holds the image. RULES and METER use it at once. -/
def State.installed (s : State) (p copy : Nat) (img : Bytes) : State :=
  let x := s.upd.part p
  let s := (s.setImage p copy { manifest := slice img 0 512, meas := shake256 img 64 }).irq Reg.UPD_IRQ_INSTALLED
  if 3 ≤ p then (s.setPart p { x with copy := copy, prev := !(s.upd.image p x.copy).manifest.isEmpty }).endSession
  else
    let s := s.setPart p { x with prev := true }
    { s with upd := { s.upd with state := 4 } }

/-- R468: a write of 1 to `UPD.CTRL.INSTALL`. -/
def execUpdInstall (req : Req) (s : State) : Host.Outcome State Fault Refusal :=
  .next (s.onField req Reg.UPD_CTRL_INSTALL fun s =>
    let p := manPart s.upd.manifest
    if s.upd.state ≠ 3 then s.refuseAt req Reg.UPD_CTRL_INSTALL 0x0105
    else if (s.upd.part p).unconf then s.refuseAt req Reg.UPD_CTRL_INSTALL 0x0106
    else
      let c := 1 - (s.upd.part p).copy
      let img := s.stagedImage
      match s.writeRegion p c img with
      | none => s.refuseAt req Reg.UPD_CTRL_INSTALL 0x0107
      | some t => t.installed p c img)

/-- R466: a write of 1 to `UPD.CTRL.ABORT`. -/
def execUpdAbort (req : Req) (s : State) : Host.Outcome State Fault Refusal :=
  .next (s.onField req Reg.UPD_CTRL_ABORT fun s => if s.upd.state = 0 then s else s.endSession)

/-! ## Activation -/

/-- R470: what stops when a part's takeover starts. -/
def State.stopPart (s : State) (p : Nat) : State :=
  if p = 2 then
    ((List.range 16).filter (fun n => s.getF (Reg.DMA_CH_CFG_REQ n) == Req.app.code)).foldl State.dmaAbort (s.ownerReset .app)
  else if p = 1 then s.ownerReset .kettle
  else s.ownerReset .trusted

/-- R423, R469, R470, R473: a takeover starts: the chip is in ACTIVATE until the part runs again. -/
def State.takeover (s : State) (p : Nat) (fallback : Bool) : State :=
  let t : State := { s with upd := { s.upd with act := some { part := p, since := s.tb1, back := s.mode.code, fallback := fallback } } }
  (t.toMode .activate).stopPart p

/-- R469: is `UPD.ACT` refused for a part? -/
def State.actRefused (s : State) (p : Nat) : Bool :=
  decide (2 < p) || s.upd.state != 4 || manPart s.upd.manifest != p ||
    !(s.mode == .tending || s.mode == .full || s.mode == .degraded) || s.flag Reg.PWR_STAT_LAST_GASP || s.upd.act.isSome

/-- R474: the settings as they stand at an activation are kept. -/
def State.keepSettings (s : State) : State :=
  if s.upd.parts.any (fun p => p.2.unconf) then s
  else
    let n := (s.ftl.header.map (fun h => h.sizes.getD 9 0)).getD 0
    let l := (List.range n).map (fun k => (k, (List.range s.ppb).map (fun j =>
      (List.range s.pageBytes).map (fun i => s.bootByte 9 0 ((k * s.ppb + j) * s.pageBytes + i)))))
    { s with upd := { s.upd with kept := some l }, sec := { s.sec with kept := some s.sec.blobs, prevSeal := s.sec.tSeal } }

/-- R466, R469: activation starts: the new copy is the boot copy, UNCONFIRMED, and its window runs. -/
def State.activate (s : State) (p : Nat) : State :=
  let s := s.keepSettings
  let x := s.upd.part p
  let s := s.setPart p { x with copy := 1 - x.copy, unconf := true, prev := true, due := false, starts := 0,
                                windowEnd := s.opTime + s.getF Reg.UPD_CONFIRM_CFG_H * 3600 }
  ((s.endSession.setF Reg.UPD_ACT_REQ 0).event .activation 0x0D [BitVec.ofNat 8 p]).takeover p false

/-- R476: MIXED shows that the twins' measurements differ. -/
def State.judgeMixed (s : State) : State :=
  s.setF Reg.UPD_STAT_MIXED (bit1 (!s.upd.partnerMA.isEmpty && s.upd.partnerMA != s.sec.mA))

/-- R385, R470, R476: a part's image runs, with its measurement. -/
def State.partRuns (s : State) (p : Nat) : State :=
  let m := (s.upd.current p).meas
  if p = 0 then (State.formTrunks { s with sec := { s.sec with mT := m } }).runJobs
  else if p = 1 then ({ s with sec := { s.sec with mK := m } } : State).setF Reg.AON_STAT_KETTLE_IMAGE ((s.upd.part 1).copy + 1)
  else ((State.formTrunks { s with sec := { s.sec with mA := m } }).sendMeasure).judgeMixed

/-- R423, R470: the part runs again, and the chip leaves ACTIVATE. -/
def execUpdActivationEnd (s : State) : Host.Outcome State Fault Refusal :=
  match s.upd.act with
  | none => idle s
  | some a =>
    let t : State := { s with upd := { s.upd with act := none } }
    let t := (t.partRuns a.part).setF Reg.UPD_ACT_LAST_MS_MS (min 65535 ((s.tb1 - a.since) / 1000000))
    let t := if a.fallback then t else t.irq Reg.UPD_IRQ_ACTIVATED
    if t.mode = .activate then .next ((t.toMode (Mode.ofCode a.back)).settle 0) else .next t

/-! ## Confirmation and fall-back -/

/-- R472, R473, R479: a write with the key byte, for a part. -/
def State.onKey (s : State) (req : Req) (f : Field) (d : Nat) (k : State → Nat → State) : State :=
  s.onField req f fun s => if bitsOf d 15 8 ≠ 0xC9 then s.refuseAt req f Err.valueRefused else k s (d % 8)

/-- R472: a part is confirmed. -/
def State.confirm (s : State) (p : Nat) : State :=
  let s := s.setPart p { s.upd.part p with unconf := false }
  let v := manSecver (s.upd.current p).manifest
  let s : State := if s.getF Reg.LCS_STAT_LC = 2 ∧ s.rollbackCount p < v then
    { s with sec := { s.sec with otp := { s.sec.otp with secver := sput 0 s.sec.otp.secver p v } } } else s
  s.releaseKept

/-- R472: a write of `UPD.CONFIRM`. -/
def execUpdConfirm (req : Req) (data : Word) (s : State) : Host.Outcome State Fault Refusal :=
  .next (s.onKey req Reg.UPD_CONFIRM_KEY data.toNat fun s p =>
    if req ≠ .app ∧ req ≠ .trusted then s.busError Err.privDeny (accessInfo 0x0D req 0x11C)
    else if (s.upd.part p).unconf then s.confirm p else s)

/-- R473: a part that is UNCONFIRMED falls back while the chip runs. -/
def State.fallsBack (s : State) (p : Nat) : State := (s.fallBack p).takeover p true

/-- R473: a write of `UPD.FALLBACK_REQ`. -/
def execUpdFallbackReq (req : Req) (data : Word) (s : State) : Host.Outcome State Fault Refusal :=
  .next (s.onKey req Reg.UPD_FALLBACK_REQ_KEY data.toNat fun s p =>
    if !(s.upd.part p).unconf then s
    else if s.upd.act.isSome ∨ !s.mode.runs then s.refuseAt req Reg.UPD_FALLBACK_REQ_KEY 0x0106
    else s.fallsBack p)

/-- R473: one hour is left of the window. -/
def execConfirmDue (part : Fin 3) (s : State) : Host.Outcome State Fault Refusal :=
  let x := s.upd.part part.val
  if x.unconf ∧ !x.due ∧ x.windowEnd ≤ s.opTime + 3600 then
    .next (((s.setPart part.val { x with due := true }).irq Reg.UPD_IRQ_CONFIRM_DUE).event .confirmDue 0x0D [BitVec.ofNat 8 part.val])
  else idle s

/-- R473: the window ends without confirmation. -/
def execConfirmWindowEnd (part : Fin 3) (s : State) : Host.Outcome State Fault Refusal :=
  let x := s.upd.part part.val
  if x.unconf ∧ x.windowEnd ≤ s.opTime ∧ s.upd.act.isNone ∧ s.mode.runs ∧ !s.startingUp then .next (s.fallsBack part.val)
  else idle s

/-! ## The partner -/

/-- R476: M_A of the partner, over the Tongs link. -/
def execPartnerMARx (m : Bytes) (s : State) : Host.Outcome State Fault Refusal :=
  if s.flag Reg.TWIN_CTRL_ENABLE ∧ s.tongsUp ∧ s.pairKey.isSome then
    .next (State.judgeMixed { s with upd := { s.upd with partnerMA := m } })
  else idle s

end Sys2Proof.Machine
end

