-- ==== Sys2Proof/Machine/TxnSet.lean ====
section
/-! DEFINITION. A set of T-fields: what its pages refuse (R46, R47), and what its blocks do when they take it. -/

namespace Sys2Proof.Machine

/-! ## Refusals -/

/-- The state with the values of a set in place, as the checks see it. -/
def State.withSet (s : State) (l : List (Field × Nat)) : State := l.foldl (fun t e => t.setF e.1 e.2) s

/-- Does a field of a set change? -/
def moved (s u : State) (f : Field) : Bool := s.getF f != u.getF f

/-- R251: do the beacon, the CAP, the CFP and the guard fit in the beacon period? -/
def State.plcFits (s : State) (k : Nat) : Bool :=
  decide (s.beaconTime k + (s.getF (Reg.PLC_SLOT_CFG_CAP_MS k) + s.getF (Reg.PLC_BEACON_CFG_NSLOT k) * s.getF (Reg.PLC_SLOT_CFG_SLOT_MS k)) * 1000000 +
    20000000 ≤ s.beaconPeriod k)

/-- R251, R261: the refusal of a set by PLC page `k`. -/
def plcRefuses (s u : State) (l : List (Field × Nat)) (k : Nat) : Option Nat :=
  if (s.flag (Reg.PLC_CTRL_ENABLE k) || u.flag (Reg.PLC_CTRL_ENABLE k)) &&
      (moved s u (Reg.PLC_CTRL_ROLE k) || moved s u (Reg.PLC_CTRL_ACCESS k) || moved s u (Reg.PLC_CTRL_BAND k)) then some Err.valueRefused
  else if l.any (fun e => e.1.page == 0x31 + k &&
      ([Reg.PLC_BEACON_CFG_BP k, Reg.PLC_SLOT_CFG_CAP_MS k, Reg.PLC_MASK_CARRIERS k 0, Reg.PLC_MASK_CARRIERS k 1, Reg.PLC_MASK_CARRIERS k 2].any (fun f => f.off == e.1.off) ||
        e.1 == Reg.PLC_CTRL_BAND k)) && !u.plcFits k then some 0x0100
  else if l.any (fun e => e.1 == Reg.PLC_ACCESS_CFG_CW_MIN k || e.1 == Reg.PLC_ACCESS_CFG_CW_MAX k) &&
      decide (u.getF (Reg.PLC_ACCESS_CFG_CW_MAX k) < u.getF (Reg.PLC_ACCESS_CFG_CW_MIN k)) then some Err.valueRefused
  else if l.any (fun e => e.1 == Reg.PLC_BCN_OFS_US k || e.1 == Reg.PLC_BEACON_CFG_BP k) &&
      decide (u.beaconPeriod k ≤ u.getF (Reg.PLC_BCN_OFS_US k) * 1000) then some Err.valueRefused
  else none

/-- R267, R281: the refusal of a set by radio page `k`. -/
def radRefuses (s u : State) (l : List (Field × Nat)) (k : Nat) : Option Nat :=
  if (s.flag (Reg.RAD_CTRL_ENABLE k) || u.flag (Reg.RAD_CTRL_ENABLE k)) &&
      (moved s u (Reg.RAD_CTRL_ROLE k) || moved s u (Reg.RAD_PHY_CFG_RATE k) || moved s u (Reg.RAD_PAN_PANID k)) then some Err.valueRefused
  else if l.any (fun e => e.1 == Reg.RAD_SCHED_COPY k) && !u.schedOk k (u.getF (Reg.RAD_SCHED_COPY k)) then some 0x0100
  else if l.any (fun e => e.1 == Reg.RAD_ACCESS_CFG_BE_MIN k || e.1 == Reg.RAD_ACCESS_CFG_BE_MAX k) &&
      decide (u.getF (Reg.RAD_ACCESS_CFG_BE_MAX k) < u.getF (Reg.RAD_ACCESS_CFG_BE_MIN k)) then some Err.valueRefused
  else none

/-- R282: does a port support a mode? -/
def ethMode (k m : Nat) : Bool := if k = 3 then m == 3 else if k = 2 then decide (m ≤ 2) else decide (m ≤ 1)

/-- R282, R302: the refusal of a set by Ethernet port page `k`. -/
def ethpRefuses (u : State) (l : List (Field × Nat)) (k : Nat) : Option Nat :=
  if l.any (fun e => e.1 == Reg.ETHP_CTRL_MODE k && !ethMode k e.2) then some Err.valueRefused
  else if (if k = 3 then 1522 else 9022) < u.getF (Reg.ETHP_MAX_FRAME_BYTES k) then some Err.valueRefused
  else none

/-- R122: the refusal of a set by lane page `n`. -/
def laneRefuses (s : State) (l : List (Field × Nat)) (n : Nat) : Option Nat :=
  (l.find? (fun e => e.1 == Reg.LANE_CTRL_MAINT n)).bind (fun e => s.maintRefusal n (e.2 != 0))

/-- R304: the refusal of a set by the PCIe page: a ring that is not aligned, at the commit that sets ENABLE. -/
def pcieRefuses (s u : State) : Option Nat :=
  if !s.flag Reg.PCIE_CTRL_ENABLE && u.flag Reg.PCIE_CTRL_ENABLE &&
      (u.getF Reg.PCIE_SQ_BASE_LO_ADDR % 64 != 0 || u.getF Reg.PCIE_CQ_BASE_LO_ADDR % 64 != 0) then some 0x0100
  else none

/-- R46, R47: the refusal of a set by a page, where it depends on other state. `u` is the state with the set in place. -/
def pageRefuses (s u : State) (l : List (Field × Nat)) (p : Nat) : Option Nat :=
  if p = 0x0D then (if l.any (fun e => e.1 == Reg.UPD_ACT_REQ && e.2 == 1) && s.actRefused (u.getF Reg.UPD_ACT_PART) then some 0x0106 else none)
  else if p = 0x14 then (if u.flag Reg.DIR_CTRL_ENABLE && s.flag Reg.DIR_STAT_REBUILDING then some Err.valueRefused else none)
  else if p = 0x20 then
    (if l.any (fun e => e.1 == Reg.DMA_CTRL_ENABLE && e.2 == 0) && (List.range 16).any (fun n => s.chanState n != 0) then some 0x0104 else none)
  else if p = 0x23 then
    (if s.flag Reg.FTL_STAT_MOUNTED && moved s u Reg.FTL_KEY_SLOT_SLOT then some Err.valueRefused
     else if u.flag Reg.FTL_CTRL_ENABLE && s.flag Reg.LCS_STAT_DBG_CTX && s.getF Reg.LCS_STAT_LC != 0 then some 0x0104 else none)
  else if p = 0x24 then (if s.flag Reg.FTL_STAT_MOUNTED && moved s u Reg.NAND_IF_CFG_MODE then some Err.valueRefused else none)
  else if 0x29 ≤ p ∧ p ≤ 0x2C then ethpRefuses u l (p - 0x29)
  else if p = 0x2F then pcieRefuses s u
  else if p = 0x30 then (if u.flag Reg.TWIN_CTRL_ENABLE && s.role == .headEnd then some Err.valueRefused else none)
  else if 0x31 ≤ p ∧ p ≤ 0x34 then plcRefuses s u l (p - 0x31)
  else if 0x35 ≤ p ∧ p ≤ 0x38 then radRefuses s u l (p - 0x35)
  else if 0x40 ≤ p ∧ p ≤ 0x5F then laneRefuses s l (p - 0x40)
  else none

/-- R314: a twin that is not ACTIVE takes no write of a replicated field. -/
def State.replicaRefused (s : State) (l : List (Field × Nat)) : Refused :=
  if s.flag Reg.TWIN_CTRL_ENABLE && s.twinRole != 4 && l.any (fun e => replicated e.1) then some (0x30, 0x0100) else none

/-- R46, R47: the refusal of a set where it depends on other state; these checks are made at acceptance and at the trigger. -/
def State.setRefused (s : State) (l : List (Field × Nat)) : Refused :=
  let u := s.withSet l
  ((s.replicaRefused l).orElse (fun _ => s.replicasRefused l)).orElse (fun _ =>
    ((l.map (fun e => e.1.home)).eraseDups).findSome? (fun p => (pageRefuses s u l p).map (fun c => (p, c))))

/-- R44: a set that no swap refuses is checked as a whole. -/
def setAnswer (l : List (Field × Nat)) : State × Refused → State × Refused
  | (s, some r) => (s, some r)
  | (s, none) => (s, s.setRefused l)

/-- R39, R304: the code for a value outside its field's range: RING_INVALID for the size of a ring in the set that enables the rings, else VALUE_REFUSED. -/
def rangeCode (l : List (Field × Nat)) (f : Field) : Nat :=
  if (f == Reg.PCIE_SQ_CFG_LOG2 || f == Reg.PCIE_CQ_CFG_LOG2) && l.any (fun e => e.1 == Reg.PCIE_CTRL_ENABLE && e.2 == 1) then 0x0100 else Err.valueRefused

/-- R39, R46, R179: the refusal of a set at acceptance: the ranges, the passive calendar copies, then the rest. -/
def State.acceptRefused (s : State) (l : List (Field × Nat)) : State × Refused :=
  match l.find? (fun e => !e.1.takes e.2) with
  | some e => (s, some (e.1.home, rangeCode l e.1))
  | none => setAnswer l (s.checkSwap l)

/-! ## Taking a set -/

/-- Fields whose block takes them by an act of its own. -/
def actField (f : Field) : Bool :=
  replicated f || f == Reg.FTL_CTRL_ENABLE || f == Reg.TWIN_CTRL_ENABLE || f == Reg.TWIN_CTRL_FENCE || f == Reg.UPD_ACT_REQ || f == Reg.TRNG_CTRL_ENABLE ||
    f == Reg.FTL_SPARE_LOW_BLOCKS || f == Reg.FTL_SPARE_RESUME_BLOCKS ||
    (f.off == 0x010 && f.lo == 30 && decide (0x31 ≤ f.page) && decide (f.page ≤ 0x38)) || (f.off == 0x010 && decide (0x40 ≤ f.page) && decide (f.page ≤ 0x5F))

/-- What a block does with one field of a set, once the others are in place. -/
def State.actOn (s : State) (f : Field) (v : Nat) : State :=
  let on := v != 0
  if f = Reg.FTL_CTRL_ENABLE then (if on then s.mount true else s.setF f 0)
  else if f = Reg.TWIN_CTRL_ENABLE then (if on = s.flag f then s else s.settling (fun t => if on then t.twinOn else t.twinOff))
  else if f = Reg.TWIN_CTRL_FENCE then (if on = s.flag f then s else s.settling (fun t => t.twinFence on))
  else if f = Reg.TRNG_CTRL_ENABLE then (s.setF f v).trngEnable on
  else if f = Reg.FTL_SPARE_LOW_BLOCKS then { s.setF f v with ftl := { s.ftl with spareSet := s.ftl.spareSet ||| 1 } }
  else if f = Reg.FTL_SPARE_RESUME_BLOCKS then { s.setF f v with ftl := { s.ftl with spareSet := s.ftl.spareSet ||| 2 } }
  else if f = Reg.UPD_ACT_REQ then (if on then s.activate (s.getF Reg.UPD_ACT_PART) else s.setF f 0)
  else if f.off = 0x010 ∧ f.lo = 30 ∧ 0x31 ≤ f.page ∧ f.page ≤ 0x34 then (if on then s.plcFence (f.page - 0x31) else s.plcUnfence (f.page - 0x31))
  else if f.off = 0x010 ∧ f.lo = 30 ∧ 0x35 ≤ f.page ∧ f.page ≤ 0x38 then (if on then s.radFence (f.page - 0x35) else s.radUnfence (f.page - 0x35))
  else if f = Reg.LANE_CTRL_FENCE (f.page - 0x40) then (if on then s.softFence (f.page - 0x40) else s.softUnfence (f.page - 0x40))
  else if f = Reg.LANE_CTRL_MAINT (f.page - 0x40) then (if on then s.maintOn (f.page - 0x40) else s.maintOff (f.page - 0x40))
  else s

/-- R253, R276: the ports that a set enables start. -/
def State.startPorts (s was : State) : State :=
  let s := (List.range 4).foldl (fun t k => if t.flag (Reg.PLC_CTRL_ENABLE k) && !was.flag (Reg.PLC_CTRL_ENABLE k) then t.plcEnable k else t) s
  (List.range 4).foldl (fun t k => if t.flag (Reg.RAD_CTRL_ENABLE k) && !was.flag (Reg.RAD_CTRL_ENABLE k) then t.radEnable k else t) s

/-- R125: once `SIEV.CTRL.KAT_EN` is set, each lane's test waits for its next slot. -/
def State.startKat (s was : State) : State :=
  if s.flag Reg.SIEV_CTRL_KAT_EN && !was.flag Reg.SIEV_CTRL_KAT_EN then
    (List.range 32).foldl (fun t n => t.setLane n { t.lane n with katAt := katPeriod n t.tb1 }) s
  else s

/-- R47: the blocks take a set: the plain fields first, then the replicated ones, then the acts. -/
def State.takeSet (s : State) (l : List (Field × Nat)) : State :=
  let t := (l.filter (fun e => !actField e.1)).foldl (fun t e => t.setF e.1 e.2) s
  let t := t.startPorts s
  let r := l.filter (fun e => replicated e.1)
  let t := if r.isEmpty then t else t.takeReplicas r t.utcSec
  let t := (l.filter (fun e => actField e.1 && !replicated e.1)).foldl (fun t e => t.actOn e.1 e.2) t
  (t.startKat s).noteHold s

/-- R314: must a set take an order number: on an ACTIVE twin, where it touches replicated fields? -/
def State.ordersSet (s : State) (l : List (Field × Nat)) : Bool :=
  s.flag Reg.TWIN_CTRL_ENABLE && s.twinRole == 4 && l.any (fun e => replicated e.1)

/-- R47, R314: the blocks take a set; on an ACTIVE twin its TXN record is placed in the dispatch queue at the commit edge. A leap second due on that edge comes before
a change of local time (R226). -/
def State.commitSet (s : State) (l : List (Field × Nat)) : State :=
  let s := if l.any (fun e => e.1 == Reg.RTC_LOCAL_OFFSET || e.1 == Reg.RTC_LOCAL_DST) then s.leapNow else s
  let s := if s.ordersSet l then s.enq 0x80 { body := .orderedItem (.txn (s.txnItem l) true) } else s
  s.takeSet l

/-- R43: a one-write transaction takes a set, or answers what refuses it. Without a dispatch credit for its TXN record it has no effect (log). -/
def State.oneSet (s : State) (l : List (Field × Nat)) : State × Refused :=
  match s.acceptRefused l with
  | (s, some r) => (s, some r)
  | (s, none) => (if s.ordersSet l && !s.hasCredit 0x80 then s else s.commitSet l, none)

/-- R43: a write of the T-fields of a register with no tag selected: one set; where it is refused, field by field, each refused value recorded on its
page. -/
def State.oneWrite (s : State) (req : Req) (p off : Nat) (l : List (Field × Nat)) : State :=
  if l.isEmpty then s
  else if l.any (fun e => (s.stagedBy e.1 0).isSome) then s.err 0 Err.txnConflict (accessInfo p req off)
  else match s.oneSet l with
    | (t, none) => t
    | (_, some _) => l.foldl (fun (t : State) e => match t.oneSet [e] with
      | (u, none) => u
      | (u, some (q, c)) => u.err q c (accessInfo p req off)) s

end Sys2Proof.Machine
end

