-- ==== Sys2Proof/Machine/Txn.lean ====
section
/-! DEFINITION. Transactions: tags, commits, triggers and roll-backs (R40–R49). -/

namespace Sys2Proof.Machine

/-! ## Tags -/

/-- R42: is a tag free to allocate? -/
def TxnState.free? : TxnState → Bool
  | .free | .committed | .rolledBack => true
  | _ => false

/-- R41: the lowest tag free to allocate becomes the requester's, and OPEN; the answer is the tag, 0 where there is none. -/
def State.txnAlloc (s : State) (req : Req) : State × Nat :=
  match [1, 2, 3, 4].find? (fun t => (s.txn t).state.free?) with
  | some t =>
    let x : Txn := { state := .opened, owner := req, deadline := s.tb1 + s.getF Reg.SYS_TXN_TIMEOUT_MS * 1000000 }
    ((s.setTxn t x).setF (Reg.SYS_TXN_SEL_TAG.bankOf req.code) t, t)
  | none => (s, 0)

/-- R41: the word that a read of `SYS.TXN_BEGIN` returns, and its effect. -/
def State.txnBegin (s : State) (req : Req) : State :=
  let (t, n) := s.txnAlloc req
  t.answer (if n = 0 then 0 else 2 ^ 31 + n)

/-- R31, R41: a read of `SYS.TXN_BEGIN`; DEBUG's allocates no tag. -/
def execTxnBegin (req : Req) (s : State) : Host.Outcome State Fault Refusal :=
  .next (s.onRead req 0x00 0x200 fun s => if req = .debug then s.answer 0 else s.txnBegin req)

/-- R41: does a requester own a tag? -/
def State.owns (s : State) (req : Req) (t : Nat) : Bool :=
  decide (1 ≤ t) && decide (t ≤ 4) && (s.txn t).state != .free && (s.txn t).owner == req

/-- R41: a write of a tag that the requester does not own is refused. -/
def State.ifOwner (s : State) (req : Req) (t off : Nat) (k : State → State) : State :=
  if s.owns req t then k s else s.err 0 Err.txnNotOwner (accessInfo 0 req off)

/-- R41: a write of `SYS.TXN_SEL`; 0 selects none. -/
def execTxnSelWrite (req : Req) (tag : BitVec 3) (s : State) : Host.Outcome State Fault Refusal :=
  let sel (s : State) : State := s.setF (Reg.SYS_TXN_SEL_TAG.bankOf req.code) tag.toNat
  .next (s.onWrite req 0x00 0x204 fun s => if tag = 0 then sel s else s.ifOwner req tag.toNat 0x204 sel)

/-! ## Writes of T-fields -/

/-- The T-fields of a register, with what a word writes to them; W1S fields take part only where it writes 1. -/
def State.tSet (s : State) (p off d : Nat) : List (Field × Nat) :=
  ((fieldsAt p off).filter (fun f => f.txn == .t && (f.acc != .w1s || f.part d != 0))).map (fun f => (s.alias f, f.part d))

/-- R43: a word's T-fields join the selected transaction, or form a one-write transaction. -/
def State.writeT (s : State) (req : Req) (p off d : Nat) : State :=
  let l := s.tSet p off d
  let tag := s.selOf req
  if l.isEmpty then s else if tag = 0 then s.oneWrite req p off l else s.stage req tag p off l

/-- A write of a register word: the refusals, among them that of a word that acts on a field reserved to TRUSTED (R35), then the effect. -/
def State.onWord (s : State) (req : Req) (p off d : Nat) (k : State → State) : State :=
  s.onWrite req p off fun s => if trustedHit req p off d then s.busError Err.privDeny (accessInfo p req off) else k s

/-- R43: a write of T-fields with a tag selected: they are staged. -/
def execTxnStagedWrite (req : Req) (page : BitVec 8) (off : BitVec 12) (data : Word) (s : State) : Host.Outcome State Fault Refusal :=
  let p := page.toNat
  .next (s.onWord req p off.toNat data.toNat fun s =>
    let l := s.tSet p off.toNat data.toNat
    if l.isEmpty ∨ s.selOf req = 0 then s else s.stage req (s.selOf req) p off.toNat l)

/-- R43: a write of T-fields with no tag selected. -/
def execTxnOneWrite (req : Req) (page : BitVec 8) (off : BitVec 12) (data : Word) (s : State) : Host.Outcome State Fault Refusal :=
  let p := page.toNat
  .next (s.onWord req p off.toNat data.toNat fun s => if s.selOf req = 0 then s.oneWrite req p off.toNat (s.tSet p off.toNat data.toNat) else s)

/-! ## The trigger edge -/

/-- R46, R47: a tag rolls back for a page: TXN_ROLLBACK is recorded. DESIGN CHOICE (log entry 92): the spec gives this code no detail; ERR_INFO has the page in bits
31:24. -/
def State.pageRollBack (s : State) (t cause page : Nat) : State := (s.err 0 Err.txnRollback (page * 2 ^ 24)).rollBack t cause page

/-- R47: does a set clear the page's own FENCE? -/
def clearsFence (l : List (Field × Nat)) (p : Nat) : Bool := l.any (fun e => e.1.page == p && e.1.off == 0x010 && e.1.lo == 30 && e.2 == 0)

/-- R47: what keeps a page of a set from being ready: the cause and the page. -/
def State.notReady (s : State) (l : List (Field × Nat)) : Option (Nat × Nat) :=
  ((l.map (fun e => e.1.home)).eraseDups).findSome? (fun p =>
    if !s.domOn (pageDomain p) then some (4, p)
    else if s.fenced p && !clearsFence l p then some (3, p)
    else none)

/-- R46, R47: why an armed tag cannot commit: the cause, the page, and the page's own code where one of its checks refuses. -/
def State.tagRefused (s : State) (t : Nat) : Option (Nat × Nat × Option Nat) :=
  match s.notReady (s.txn t).staged, s.setRefused (s.txn t).staged with
  | some (c, p), _ => some (c, p, none)
  | none, some (p, c) => some (3, p, some c)
  | none, none => none

/-- R47: a tag that cannot commit rolls back; the refusal of a page's check is recorded there. -/
def State.dropTag (s : State) (t : Nat) : Nat × Nat × Option Nat → State
  | (c, p, some code) => (s.err p code 0).pageRollBack t c p
  | (c, p, none) => s.pageRollBack t c p

/-- R46: the TB0 instant (ns) of a trigger that has one. -/
def State.instant (s : State) : Trigger → Option Nat
  | .time n => some n
  | .interval n => some ((n : Int) + s.utcShift * nsPerS).toNat
  | _ => none

/-- R48: the tags that commit at the trigger of an armed tag: itself and every other whose trigger is the same. -/
def State.tagsWith (s : State) (t : Nat) : List Nat :=
  let g := (s.txn t).trigger
  [1, 2, 3, 4].filter (fun n => n == t || ((s.txn n).state == .armed &&
    ((s.txn n).trigger == g || ((s.instant g).isSome && s.instant (s.txn n).trigger == s.instant g))))

/-- R47, R48: the trigger edge of an armed tag, with every tag of the same trigger: those that cannot commit roll back, the sets of the others are taken as one.
Without a dispatch credit for its TXN record the commit waits (log). -/
def State.fireTxn (s : State) (t : Nat) : State :=
  let tags := s.tagsWith t
  let ok := tags.filter (fun n => (s.tagRefused n).isNone)
  let l := ok.flatMap (fun n => (s.txn n).staged)
  let u := tags.foldl (fun u n => match s.tagRefused n with | some r => u.dropTag n r | none => u) s
  match if ok.length < 2 then none else u.setRefused l with
  | some (p, c) => ok.foldl (fun v n => v.pageRollBack n 3 p) (u.err p c 0)
  | none =>
    if ok.isEmpty ∨ (u.ordersSet l && !u.hasCredit 0x80) then u
    else (ok.foldl (fun v n => v.setTxn n { v.txn n with state := .committing }) u).commitSet l

/-- R46: has the trigger of an armed tag occurred? -/
def State.triggered (s : State) : Trigger → Bool
  | .none => false
  | .now => true
  | .time n => decide (n ≤ s.ns0)
  | .interval n => decide (n ≤ s.utcNs)
  | .beacon _ n => decide (n ≤ s.ns3)
  | .cycle n => decide (n ≠ s.getF Reg.TIME_TB4_CNT_CYCLES)

/-! ## Commits -/

/-- R42, R46: a write of `SYS.TXN_COMMIT`: the checks, and the trigger armed; one that has occurred already fires at once. -/
def State.commit (s : State) (req : Req) (t : Nat) (trig : Option (Trigger × Bool)) : State :=
  s.onWrite req 0x00 0x208 fun s => s.ifOwner req t 0x208 fun s =>
    if (s.txn t).state ≠ .opened then s.err 0 Err.txnNotOpen (accessInfo 0 req 0x208)
    else match trig with
      | none => s.err 0 Err.txnTriggerInvalid (accessInfo 0 req 0x208)
      | some (g, late) =>
        match s.acceptRefused (s.txn t).staged with
        | (s, some (p, c)) => (s.err p c 0).pageRollBack t 3 p
        | (s, none) =>
          let s := s.setTxn t { s.txn t with state := .armed, trigger := g, late := late }
          if s.triggered g then s.fireTxn t else s

/-- R46: NOW. -/
def execTxnCommitNow (req : Req) (tag : BitVec 3) (s : State) : Host.Outcome State Fault Refusal :=
  .next (s.commit req tag.toNat (some (.now, false)))

/-- R46: AT_TIME. -/
def execTxnCommitAtTime (req : Req) (tag : BitVec 3) (s : State) : Host.Outcome State Fault Refusal :=
  let at_ (f : Field) : Nat := s.getF (f.bankOf req.code)
  let n := (at_ Reg.SYS_TXN_AT_SEC_LO_SEC + at_ Reg.SYS_TXN_AT_SEC_HI_SEC * 2 ^ 32) * nsPerS + at_ Reg.SYS_TXN_AT_NS_NS
  .next (s.commit req tag.toNat (some (.time n, decide (n ≤ s.ns0))))

/-- R40: the length of an AT_INTERVAL interval in ns; none for a code the table lacks. -/
def ivlNs (code : Nat) : Option Nat := ([60, 300, 900, 1800, 3600][code]?).map (· * nsPerS)

/-- R46: AT_INTERVAL: the next boundary lies strictly after now. DESIGN CHOICE (log entry 93): a TRIGGER or INTERVAL code 5 to 7, which the tables lack, is refused with
TXN_TRIGGER_INVALID. -/
def execTxnCommitAtInterval (req : Req) (tag : BitVec 3) (interval : BitVec 3) (s : State) : Host.Outcome State Fault Refusal :=
  .next (s.commit req tag.toNat ((ivlNs interval.toNat).map (fun n => (.interval ((s.utcNs / n + 1) * n), false))))

/-- R46, R254: the next beacon or EB instant of a port after now, on TB3, predicted on a TRACK port; none where it is fenced or stopped or has no schedule of beacons. -/
def State.nextBeacon (s : State) (k : Nat) : Option Nat :=
  let n := (s.port k).next
  let following (p : Nat) : Option Nat := if p = 0 then none else if s.ns3 < n then some n else some (n + ((s.ns3 - n) / p + 1) * p)
  if 7 < k ∨ !s.portOn k then none
  else if k < 4 then
    (if s.flag (Reg.PLC_CTRL_ACCESS k) then none
     else if s.track k then (if s.nodeStateOf k < 3 then none else following (s.port k).period)
     else if s.ns3 < n then some n else some (s.beaconFrom k (s.ns3 + 1)))
  else if s.coordinates k then s.nextEb (k - 4)
  else if s.nodeStateOf k < 3 then none else following (s.port k).period

/-- R219: a write of `TB3_CFG.LOAD`. -/
def execTb3Load (req : Req) (s : State) : Host.Outcome State Fault Refusal :=
  .next (s.onField req Reg.TIME_TB3_CFG_LOAD fun s =>
    if s.scheduleRuns then s.refuseAt req Reg.TIME_TB3_CFG_LOAD 0x0100 else { s with tb3 := s.tb0 })

/-- R46: AT_BEACON. -/
def execTxnCommitAtBeacon (req : Req) (tag : BitVec 3) (port : BitVec 4) (s : State) : Host.Outcome State Fault Refusal :=
  .next (s.commit req tag.toNat ((s.nextBeacon port.toNat).map (fun n => (.beacon port.toNat n, false))))

/-- R46: AT_CYCLE. -/
def execTxnCommitAtCycle (req : Req) (tag : BitVec 3) (s : State) : Host.Outcome State Fault Refusal :=
  .next (s.commit req tag.toNat (some (.cycle (s.getF Reg.TIME_TB4_CNT_CYCLES), false)))

/-- R42: a write of `SYS.TXN_ABORT`. -/
def execTxnAbort (req : Req) (tag : BitVec 3) (s : State) : Host.Outcome State Fault Refusal :=
  let t := tag.toNat
  .next (s.onWrite req 0x00 0x20C fun s => s.ifOwner req t 0x20C fun s =>
    if (s.txn t).state = .opened ∨ (s.txn t).state = .armed then s.rollBack t 1 0 else s)

/-- R41, R42: the open-phase timer of a tag expires. DESIGN CHOICE (log entry 92): the spec gives TXN_TIMEOUT no detail; ERR_INFO has the tag. -/
def execTxnTimeout (tag : BitVec 3) (s : State) : Host.Outcome State Fault Refusal :=
  let t := tag.toNat
  if (s.txn t).state = .opened ∧ (s.txn t).deadline ≤ s.tb1 then .next ((s.err 0 Err.txnTimeout t).rollBack t 2 0) else idle s

/-- R47: an armed trigger occurs. -/
def execTxnTrigger (tag : BitVec 3) (s : State) : Host.Outcome State Fault Refusal :=
  let t := tag.toNat
  if (s.txn t).state = .armed ∧ s.triggered (s.txn t).trigger then .next (s.fireTxn t) else idle s

/-- R221: the commits armed for an instant that TB0 has reached. -/
def State.fireTimed (s : State) : State :=
  [1, 2, 3, 4].foldl (fun u t => match (u.txn t).state, (u.txn t).trigger with
    | .armed, .time n => if n ≤ u.ns0 then u.fireTxn t else u
    | _, _ => u) s

/-- R212, R221: a write of `TIME.STEP.GO`. A commit armed for an instant already reached occurs first; one that the step passes occurs at once, LATE. -/
def execTb0Step (req : Req) (s : State) : Host.Outcome State Fault Refusal :=
  .next (s.onField req Reg.TIME_STEP_GO fun s => (s.fireTimed.stepTb0 s.stepNs).fireTimed)

/-- R42, R49: every page has switched. -/
def execTxnSwitched (tag : BitVec 3) (s : State) : Host.Outcome State Fault Refusal :=
  let t := tag.toNat
  if (s.txn t).state = .committing then .next (s.endTxn t { s.txn t with state := .committed } 1) else idle s

end Sys2Proof.Machine
end

