-- ==== Sys2Proof/Machine/Access.lean ====
section
/-! DEFINITION. Accesses to the register pages: the write of a word with every effect it has, the read with its side effects, and SOFT_RESET (R22–R38). -/

namespace Sys2Proof.Machine

/-! ## SOFT_RESET -/

/-- R36: the KEY commands in progress are dropped and their targets restored. -/
def State.dropKeys (s : State) : State :=
  let t := s.sec.jobs.reverse.foldl (fun (t : State) j => match j.undo with
    | some k => t.setSlotK j.cmd.target k
    | none => t) s
  ((t.setJobs []).setF Reg.KEY_STAT_BUSY 0).setF Reg.KEY_CMD_STAT_BUSY 0

/-- R18, R36: a port begins again: what it is sending goes back among the frames to send; the ACK that it owes goes. Its node table and its schedule stay. -/
def PortState.softReset (x : PortState) (now : Nat) : PortState :=
  { x with
    out := (match x.wait with | some (t, _) => [t] | none => []) ++ x.out, wait := none, ack := none, contend := none, cell := none, txEnd := min x.txEnd now, sync := none }

/-- R36: the Cleaver units begin their frames again, from Funnel. -/
def State.restartUnits (s : State) : State :=
  (List.range 4).foldl (fun t u => match t.unitRun u with
    | some r => (t.setUnitRun u none).rerunFrame r.order
    | none => t) s

/-- R36: a lane's frame in progress runs again. -/
def State.restartLane (s : State) (n : Nat) : State :=
  match (s.lane n).running with
  | some k => s.rerunFrame k
  | none => s

/-- R36: the NAND interface resets the dies and begins their operations again. -/
def State.restartNand (s : State) : State :=
  State.nandStart { s with ftl := { s.ftl with
    dies := s.ftl.dies.foldl (fun l e => sput {} l e.1 { e.2 with feature := none }) [],
    ops := s.ftl.ops.map (fun o => { o with running := false }) } }

/-- R18, R36: the block logic of a page is reset: the work in progress beside its registers, its queues and its tables begins again or, where no accepted item
hangs on it, is dropped. No accepted item leaves its stage: the sweeps of BAL and BILL and the completions of PCIE, each accepted work of which every step done stands in the records
or the host's memory, go on from where they are. The spec does not list that work block by block (log entry 30). -/
def State.softReset (s : State) (p : Nat) : State :=
  if p = 0x06 then { s with evr := { s.evr with used1 := 0, used2 := 0, usedAt := s.tb1, alarm := none } }
  else if p = 0x08 then s.dropKeys
  else if p = 0x09 then s.restartUnits
  else if p = 0x0D then { s with upd := { s.upd with waiting := s.upd.waiting.map (fun x => { x with since := s.tb1 }) } }
  else if p = 0x10 then { s with prefetched := [] }
  else if p = 0x11 then { s.setF Reg.LADL_STAT_STALLED 0 with path := { s.path with headSince := s.tb1 } }
  else if p = 0x12 then (List.range 32).foldl (fun t n => t.setLane n { t.lane n with katAt := katPeriod n t.tb1 }) s
  else if p = 0x14 then
    let t := s.dir.locks.foldl (fun (t : State) l => t.setHeader l.table l.bucket 55 55 0) s
    { t with dir := { t.dir with released := t.dir.released ++ t.dir.parked, parked := [], locks := [], timedOut := [], turn := 0 } }
  else if p = 0x19 then { s with panel := { lockUntil := s.panel.lockUntil } }
  else if p = 0x20 then
    let t : State := { s with dma := {} }
    (List.range 16).foldl (fun (t : State) n => t.toChan n 0) t
  else if p = 0x23 then { s with ftl := { s.ftl with rateBytes := 0, rateSec := 0 } }
  else if p = 0x24 then s.restartNand
  else if p = 0x28 then { s with uplink := { s.uplink with macs := [], nodes := [], bcSec := 0, bcCnt := 0 } }
  else if p = 0x30 then { s with twin := { s.twin with asked := [], meeting := [], pairedKey := false } }
  else if 0x31 ≤ p ∧ p ≤ 0x38 then s.setPort (p - 0x31) ((s.port (p - 0x31)).softReset s.tb1)
  else if 0x40 ≤ p ∧ p ≤ 0x5F then s.restartLane (p - 0x40)
  else s

/-- R36: a write of 1 to `CTRL.SOFT_RESET`; the bit reads 0 when the reset is done. -/
def execSoftReset (req : Req) (page : BitVec 8) (s : State) : Host.Outcome State Fault Refusal :=
  .next (s.onField req (Reg.CTRL_SOFT_RESET page.toNat) fun s => s.softReset page.toNat)

/-! ## Writes -/

/-- R28, R33–R38, R50, R59, R60: what a written word does beside its plain, S- and T-fields in a page's header. -/
def State.headAct (s : State) (req : Req) (p off d : Nat) : State :=
  let pg := BitVec.ofNat 8 p
  let w := BitVec.ofNat 32 d
  if off = 0x00C then s.after' (execBlkPrivWrite req pg w)
  else if off = 0x010 ∧ bitAt d 31 = 1 then s.after' (execSoftReset req pg)
  else if off = 0x020 ∨ off = 0x028 then s.after' (execIrqClear req pg w 0)
  else if off = 0x02C then s.after' (execIrqSet req pg w)
  else if off = 0x030 ∧ bitAt d 31 = 1 then s.after' (execErrClear req pg)
  else if off = 0x044 ∧ p ≠ 0x20 ∧ bitAt d 16 = 1 then s.after' (execShadowArm req pg 0)
  else if 0x080 ≤ off ∧ off < 0x0E0 then
    let e := Fin.ofNat 6 ((off - 0x080) / 16)
    if off % 16 = 0 then s.after' (execWatermarkWrite req pg e (BitVec.ofNat 16 (bitsOf d 15 0)) (BitVec.ofNat 16 (bitsOf d 31 16)))
    else if off % 16 = 0xC ∧ bitAt d 0 = 1 then s.after' (execQueueFlush req pg e .idle false)
    else s
  else s

/-- R40–R46, R444: the actions of the SYS page. A TRIGGER code 5 to 7 is refused with TXN_TRIGGER_INVALID (DESIGN CHOICE, log entry 93). -/
def State.sysAct (s : State) (req : Req) (off d : Nat) : State :=
  let tag := BitVec.ofNat 3 d
  if off = 0x118 then s.after' (execSwReset req (BitVec.ofNat 32 d))
  else if off = 0x204 then s.after' (execTxnSelWrite req tag)
  else if off = 0x208 then
    match bitsOf d 6 4 with
    | 0 => s.after' (execTxnCommitNow req tag)
    | 1 => s.after' (execTxnCommitAtTime req tag)
    | 2 => s.after' (execTxnCommitAtInterval req tag (BitVec.ofNat 3 (bitsOf d 14 12)))
    | 3 => s.after' (execTxnCommitAtBeacon req tag (BitVec.ofNat 4 (bitsOf d 11 8)))
    | 4 => s.after' (execTxnCommitAtCycle req tag)
    | _ => s.commit req (d % 8) none
  else if off = 0x20C then s.after' (execTxnAbort req tag)
  else s

/-- R211–R229, R425: the actions of the PWR, RTC and TIME pages. -/
def State.timeAct (s : State) (req : Req) (p off d : Nat) : State :=
  let w := BitVec.ofNat 32 d
  if p = 0x02 ∧ off = 0x100 then s.after' (execModeReq req w)
  else if p = 0x04 then
    if off = 0x10C then
      let s := if bitAt d 31 = 1 then s.after' (execRtcSet req) else s
      if bitAt d 30 = 1 then s.after' (execRtcSyncTb0 req) else s
    else if off = 0x124 ∨ off = 0x12C then s.after' (execAlarmWrite req (.rtc (Fin.ofNat 2 ((off - 0x124) / 8))) w)
    else if off = 0x134 then s.after' (execRtcChgWrite req w)
    else s
  else if p = 0x05 then
    if off = 0x010 ∧ bitsOf d 5 4 ≠ 0 then s.after' (execTb0StateSet req (BitVec.ofNat 2 (bitsOf d 5 4)))
    else if off = 0x12C ∧ bitAt d 0 = 1 then s.after' (execTb0Step req)
    else if off = 0x144 ∨ off = 0x154 ∨ off = 0x164 ∨ off = 0x174 then s.after' (execAlarmWrite req (.time (Fin.ofNat 4 ((off - 0x144) / 16))) w)
    else if off = 0x184 ∧ bitAt d 31 = 1 then s.after' (execTb3Load req)
    else s
  else s

/-- R449–R457: `LCS.CMD` with GO: the command that OP names. -/
def State.lcsAct (s : State) (req : Req) (d : Nat) : State :=
  match d % 8 with
  | 1 => s.after' (execLcsDebugOpen req)
  | 2 => s.after' (execLcsDeploy req)
  | 3 => s.after' (execLcsRetire req)
  | 4 => s.after' (execLcsKillDebug req)
  | 5 => s.after' (execLcsProvision req)
  | 6 => s.after' (execLcsDebugClose req)
  | n => s.lcsCommand req n fun s => s

/-- R390–R421, R449–R457, R466–R493: the actions of the EVR, LCS, KEY, CIPH, TAMP and UPD pages. -/
def State.trustAct (s : State) (req : Req) (p off d : Nat) : State :=
  let w := BitVec.ofNat 32 d
  let b31 := bitAt d 31 == 1
  if p = 0x06 then
    if off = 0x010 then
      let s := if bitAt d 1 = 1 then s.after' (execEvrClear req) else s
      let id := s.getF Reg.EVR_NOR_ID_JEDEC
      if bitAt d 2 = 1 then s.after' (execEvrNorRetry req (if id = 0 then none else some (BitVec.ofNat 24 id))) else s
    else if off = 0x118 ∧ b31 then s.after' (execEvrRead req)
    else if off = 0x12C ∧ b31 then s.after' (execEvrSwCode req w)
    else s
  else if p = 0x07 then
    if off = 0x100 ∧ b31 then s.lcsAct req d
    else if off = 0x108 ∧ bitAt d 0 = 1 then s.after' (execLcsChalReq req)
    else s
  else if p = 0x08 then
    if off = 0x010 ∧ bitAt d 1 = 1 then s.after' (execKeyZeroise req)
    else if off = 0x10C ∧ b31 then s.keyWrite req d
    else s
  else if p = 0x09 then (if off = 0x104 ∧ b31 then s.after' (execRewrapGo req (BitVec.ofNat 1 d)) else s)
  else if p = 0x0C then
    if off = 0x010 then
      let s := if bitAt d 1 = 1 then s.after' (execTampVkrClear req) else s
      if bitAt d 0 = 1 then s.after' (execTampArm req) else s
    else if off = 0x1F8 ∧ b31 then s.after' (execTampRelease req)
    else s
  else if p = 0x0D then
    if off = 0x010 then
      let s := if bitAt d 1 = 1 then s.after' (execUpdAbort req) else s
      if bitAt d 2 = 1 then s.after' (execUpdInstall req) else s
    else if off = 0x11C then s.after' (execUpdConfirm req w)
    else if off = 0x120 then s.after' (execUpdFallbackReq req w)
    else s
  else s

/-- R69, R115–R127, R136, R179, R195, R202: the actions of the path, the lanes and the engines. -/
def State.pathAct (s : State) (req : Req) (p off d : Nat) : State :=
  let w := BitVec.ofNat 32 d
  let b31 := bitAt d 31 == 1
  if p = 0x10 ∧ off = 0x10C ∧ b31 then s.after' (execOrderBaseLoad req w)
  else if p = 0x12 ∧ off = 0x124 then s.after' (execLanemapMoveRequest req (Fin.ofNat 32 (d % 32)))
  else if p = 0x12 ∧ off = 0x128 ∧ bitAt d 0 = 1 then s.after' (execLanemapInit req)
  else if p = 0x14 ∧ off = 0x13C then s.after' (execDirSuspectClr req w)
  else if p = 0x16 ∧ off = 0x13C ∧ b31 then s.after' (execTokGo req w)
  else if p = 0x17 ∧ off = 0x110 ∧ b31 then s.after' (execCalCheck req w)
  else if p = 0x17 ∧ off = 0x128 ∧ b31 then s.after' (execCalResolve req w)
  else if 0x40 ≤ p ∧ p ≤ 0x5F ∧ off = 0x100 ∧ b31 then s.after' (execLaneSeal req (Fin.ofNat 32 (p - 0x40)) w)
  else s

/-- R372, R375: the actions of a DMA channel; REQ is written only where it changes. -/
def State.dmaAct (s : State) (req : Req) (off d : Nat) : State :=
  let n := Fin.ofNat 16 ((off - 0x100) / 0x40)
  let o := (off - 0x100) % 0x40
  if off < 0x100 ∨ 0x500 ≤ off then s
  else if o = 0x00 then (if s.getF (Reg.DMA_CH_CFG_REQ n.val) = d % 8 then s else s.after' (execDmaCfgReqWrite req n (BitVec.ofNat 3 d)))
  else if o = 0x10 then (if bitAt d 16 = 1 then s.after' (execShadowArm req 0x20 n) else s)
  else if o = 0x1C then
    let s := if bitAt d 4 = 1 then s.after' (execDmaClear req n) else s
    let s := if bitAt d 0 = 1 then s.after' (execDmaStart req n) else s
    let s := if bitAt d 1 = 1 then s.after' (execDmaStop req n) else s
    let s := if bitAt d 2 = 1 then s.after' (execDmaResume req n) else s
    if bitAt d 3 = 1 then s.after' (execDmaAbort req n) else s
  else s

/-- R345: a boot read in the mode named; a written word meets no medium faults (log). -/
def State.bootAct (s : State) (req : Req) (d : Nat) : State :=
  match d % 4 with
  | 0 => s.after' (execBootReadCopy req false false)
  | 1 => s.after' (execBootReadCopyHash req false false)
  | 2 => s.after' (execBootReadCopyMerkle req false false)
  | _ => s.err 0x24 Err.valueRefused (accessInfo 0x24 req 0x140)

/-- R301: a management frame in the direction named. -/
def State.mdioAct (s : State) (req : Req) (d : Nat) : State :=
  let phy := BitVec.ofNat 5 (bitsOf d 25 21)
  let reg := BitVec.ofNat 5 (bitsOf d 20 16)
  match bitsOf d 29 28 with
  | 1 => s.after' (execMdioWrite req phy reg (BitVec.ofNat 16 d))
  | 2 => s.after' (execMdioRead req phy reg (BitVec.ofNat 16 d))
  | _ => s.refuseAt req Reg.ETH_MDIO_CMD_GO Err.valueRefused

/-- R263, R297, R301, R322–R327, R345: the actions of the media, uplink, twin and radio pages. The reply of a transceiver is free. -/
def State.fieldAct (s : State) (req : Req) (p off d : Nat) : State :=
  if p = 0x20 then s.dmaAct req off d
  else if p = 0x24 ∧ off = 0x140 ∧ bitAt d 31 = 1 then s.bootAct req d
  else if p = 0x28 ∧ off = 0x280 ∧ bitAt d 31 = 1 then s.mdioAct req d
  else if p = 0x2F ∧ off = 0x114 then s.after' (execPcieSqTailWrite req (BitVec.ofNat 32 d))
  else if p = 0x30 ∧ off = 0x010 then
    let s := if bitAt d 4 = 1 then s.after' (execTwinSwap req) else s
    let s := if bitAt d 5 = 1 then s.after' (execTwinDissolve req) else s
    match bitsOf d 9 8 with
    | 1 => s.after' (execTwinResolveKeep req)
    | 2 => s.after' (execTwinResolveStepDown req)
    | 3 => s.after' (execTwinResolveDrop req)
    | _ => s
  else if 0x35 ≤ p ∧ p ≤ 0x38 ∧ off = 0x268 then
    let (w, s) := s.drawWord
    s.after' (execRadSpiRaw req (Fin.ofNat 4 (p - 0x35)) (BitVec.ofNat 32 d) w)
  else s

/-- R29: the effects of a written word whose fields have rows of their own. -/
def State.ownAct (s : State) (req : Req) (p off d : Nat) : State :=
  let s := s.headAct req p off d
  if off < 0x100 ∧ off ≠ 0x010 then s
  else if p = 0x00 then s.sysAct req off d
  else if p = 0x02 ∨ p = 0x04 ∨ p = 0x05 then s.timeAct req p off d
  else if 0x06 ≤ p ∧ p ≤ 0x0D then s.trustAct req p off d
  else if p = 0x20 ∨ p = 0x24 ∨ p = 0x28 ∨ p = 0x2F ∨ p = 0x30 ∨ (0x35 ≤ p ∧ p ≤ 0x38) then s.fieldAct req p off d
  else s.pathAct req p off d

/-- R365: does a word of another requester than TRUSTED change the requester of a DMA channel? -/
def State.reqHit (s : State) (req : Req) (p off d : Nat) : Bool :=
  req != .trusted && p == 0x20 && decide (0x100 ≤ off) && decide (off < 0x500) && (off - 0x100) % 0x40 == 0 &&
    s.getF (Reg.DMA_CH_CFG_REQ ((off - 0x100) / 0x40)) != d % 8

/-- R221: a write to an alarm's registers on the edge on which an alarm fires: the alarm fires first. -/
def State.alarmsFirst (s : State) (p off : Nat) : State :=
  if p = 0x05 ∧ 0x140 ≤ off ∧ off < 0x180 then s.fireTimeDue else if p = 0x04 ∧ 0x120 ≤ off ∧ off < 0x130 then s.fireRtcDue else s

/-- R29, R43, R51: a word is written: its plain fields, its S-fields, its T-fields, then the actions of its fields that have rows of their own. A refused
plain value stops the actions. Lowering `DIR.OVF_MARK` may raise OVF_HIGH (R150). -/
def State.writeWord (s : State) (req : Req) (p off d : Nat) : State :=
  s.onWord req p off d fun s =>
    if s.reqHit req p off d then s.busError Err.privDeny (accessInfo p req off)
    else
      let s := s.alarmsFirst p off
      let (t, ok) := if p = 0x28 ∧ off = 0x280 ∧ bitAt d 31 = 1 then (s, true) else s.writePlain req p off d
      let t := t.writeShadow req p ((off - 0x100) / 0x40) off d
      let t := t.writeT req p off d
      (if ok then t.ownAct req p off d else t).ovfNews s

/-- R30: a 64-bit access to a page is two 32-bit accesses in ascending order, each with its own checks; an unaligned one is a single access, which is refused. -/
def State.inHalves (s : State) (off : Nat) (size : AccessSize) (access : State → Nat → AccessSize → State) : State :=
  if size = .b8 ∧ off % 8 = 0 then
    let t := access s off .b4
    let u := access t (off + 4) .b4
    { u with bus := { err := t.bus.err || u.bus.err, data := t.bus.data + u.bus.data * 2 ^ 32 } }
  else access s off size

/-- R26, R29, R30: a write to a register page of a width: 8 and 16 bits are refused. -/
def State.pageWrite (s : State) (req : Req) (p off : Nat) (size : AccessSize) (d : Nat) : State :=
  match s.refusal req p off size true with
  | some (c, i) => s.busError c i
  | none => s.writeWord req p off d

/-- R22–R30, R295: a write of 8, 16, 32 or 64 bits at an address: a register, the MSI-X table, or memory. -/
def execRegisterWrite (req : Req) (addr : BitVec 40) (size : AccessSize) (data : BitVec 64) (s : State) : Host.Outcome State Fault Refusal :=
  let bar4 := addr.toNat - 0x2000000000
  if inBar4 req addr.toNat then .next (s.inHalves bar4 size fun s o z =>
    if z = .b4 ∧ o % 4 = 0 ∧ o < 512 then (s.answer 0).msixWrite o (data.toNat / 2 ^ (8 * (o - bar4)) % 2 ^ 32) else s.answer 0)
  else match busTarget req addr.toNat with
  | .page p off => .next (s.inHalves off size fun s o z => s.pageWrite req p o z (data.toNat / 2 ^ (8 * (o - off)) % 2 ^ 32))
  | _ => .next ((s.answer 0).memWrite req addr.toNat (leBytes size.bytes data.toNat)).1

/-! ## Reads -/

/-- R29: the RC fields of a register are cleared by a read. -/
def State.clearRc (s : State) (req : Req) (p off : Nat) : State :=
  ((fieldsAt p off).filter (fun f => f.acc == .rc)).foldl (fun t f => t.setF ((t.alias f).bankOf req.code) 0) s

/-- R225: a read of the RTC's seconds latches the fraction of the same instant into the reader's copy. -/
def State.rtcLatch (s : State) (req : Req) : State := s.setF (Reg.RTC_RTC_FRAC_FRAC.bankOf req.code) (2 * s.time.rtcSub)

/-- R29, R31: the word that a read of a register returns, with the read's side effects; a read by DEBUG has none. -/
def State.regRead (s : State) (req : Req) (p off : Nat) (size : AccessSize := .b4) : State :=
  s.onRead req p off (size := size) fun s =>
    if req = .debug then
      if p = 0x0B ∧ off = 0x100 then s.after' (execTrngDataRead req) else s.answer (s.viewWord req p off)
    else if p = 0x00 ∧ off = 0x200 then s.txnBegin req
    else if p = 0x05 ∧ off = 0x104 then s.after' (execTimeNowRead req)
    else if p = 0x03 ∧ off = 0x108 then s.after' (execAonNowRead req)
    else if p = 0x0B ∧ off = 0x100 then s.after' (execTrngDataRead req)
    else
      let w := s.viewWord req p off
      let s := if p = 0x04 ∧ off = 0x100 then s.rtcLatch req else s
      (s.clearRc req p off).answer w

/-- R29–R31: a read of a register. -/
def execRcRead (req : Req) (page : BitVec 8) (off : BitVec 12) (size : AccessSize) (s : State) : Host.Outcome State Fault Refusal :=
  .next (s.inHalves off.toNat size fun s o z => s.regRead req page.toNat o z)

end Sys2Proof.Machine
end

