-- ==== Sys2Proof/Machine/Dma.lean ====
section
/-! DEFINITION. The DMA engine: the arbiter, the fetch of a descriptor and the beat (R365–R371, R373, R376). -/

namespace Sys2Proof.Machine

/-! ## Arbitration -/

/-- R372, R376: is a channel ready: in FETCH, or in RUN with bytes left? -/
def State.dmaReady (s : State) (n : Nat) : Bool :=
  s.chanState n == 1 || (s.chanState n == 2 && decide ((s.chan n).pos < descBytes (s.chan n).desc))

/-- R376: the priority of a channel. -/
def State.chanPrio (s : State) (n : Nat) : Nat := s.getEff (Reg.DMA_CH_CTRL_PRIO n)

/-- R376: does the burst of the channel granted last go on? -/
def State.burstGoes (s : State) : Bool :=
  let c := s.dma.last
  decide (0 < s.dma.burst) && s.dmaReady c &&
    !(s.dma.arb == 1 && (List.range 16).any (fun n => s.dmaReady n && decide (s.chanPrio c < s.chanPrio n)))

/-- R376: the choice at a switch point: the highest priority; among equals, the next after the last one granted. -/
def State.dmaChoice (s : State) : Option Nat :=
  let l := ((List.range 16).map (fun i => (s.dma.last + 1 + i) % 16)).filter s.dmaReady
  let top := l.foldl (fun m n => max m (s.chanPrio n)) 0
  l.find? (fun n => s.chanPrio n == top)

/-- R376, R377: the channel that the arbiter grants; none while the engine is stopped or no channel is ready. -/
def State.dmaGrant (s : State) : Option Nat :=
  if !s.domOn .fabric ∨ !s.flag Reg.DMA_CTRL_ENABLE then none
  else if s.burstGoes then some s.dma.last
  else s.dmaChoice

/-- R376: a channel is granted. A new burst takes the arbitration mode in force; `left` is the number of beats that may follow. -/
def State.granted (s : State) (n left : Nat) : State :=
  if s.burstGoes then { s with dma := { s.dma with burst := min left (s.dma.burst - 1) } }
  else { s with dma := { s.dma with last := n, burst := left, arb := s.getF Reg.DMA_CTRL_ARB } }

/-! ## Errors -/

/-- R373: a channel fails with a code at an address; the descriptor is written back where it asks for it and the error lay not in its own address. -/
def State.dmaFail (s : State) (n code addr : Nat) (wb : Bool) : State :=
  let s := (s.dmaErr n code).setF (Reg.DMA_CH_STAT_ERR n) code
  let s := s.set2 (Reg.DMA_CH_ERR_ADDR_LO_ADDR n) (Reg.DMA_CH_ERR_ADDR_HI_ADDR n) addr
  let s := if wb then s.writeBack n code else s
  ((s.setChan n {}).toChan n 4).chanEvent n 4

/-! ## Fetch -/

/-- R367, R368: is a shape of a descriptor, at an offset, in range: its length and its line count? -/
def shapeOk (d : Bytes) (o : Nat) : Bool :=
  let len := leAt d o 4
  let lines := leAt d (o + 4) 4
  decide (1 ≤ len) && decide (len ≤ 65536) && decide (1 ≤ lines) && decide (lines ≤ 65535)

/-- R367, R369: the bytes in which a descriptor's swap works. -/
def swapUnit (d : Bytes) : Nat := [1, 2, 4, 4].getD (leAt d 0x28 4 % 4) 1

/-- R367, R368: is a descriptor valid? -/
def descOk (d : Bytes) : Bool :=
  let u := swapUnit d
  decide (leAt d 0 8 < 2 ^ 40) && decide (leAt d 8 8 < 2 ^ 40) && shapeOk d 0x10 && shapeOk d 0x1C &&
    leAt d 0x10 4 * leAt d 0x14 4 == leAt d 0x1C 4 * leAt d 0x20 4 &&
    leAt d 0x10 4 % u == 0 && leAt d 0x1C 4 % u == 0 &&
    (leAt d 0x28 4 &&& 0xFFFFFFCC) == 0 && leAt d 0x34 4 == 0 && decide (leAt d 0x38 8 < 2 ^ 40) && leAt d 0x38 8 % 64 == 0

/-- R367: the memory that holds descriptors: system SRAM and DRAM. -/
def descPlace (req : Req) (a : Nat) : Bool :=
  busTarget req a == .mem .mem || (busTarget req a == .mem .fabric && decide (0x10000000 ≤ a))

/-- R367, R368, R372: channel `n` reads its descriptor. -/
def State.fetchDesc (s : State) (n : Nat) : State :=
  let req := s.chanReq n
  let a := s.descAddr n
  if busTarget req a ≠ .hole ∧ !descPlace req a then s.dmaFail n 0x0100 a false
  else
    let bus := s.bus
    let (t, r) := s.memRead req a 64
    let t : State := { t with bus := bus }
    match r with
    | .inl c => t.dmaFail n (if c = Err.poison then c else 0x0103) a false
    | .inr d =>
      let t := t.setChan n { t.chan n with desc := d, pos := 0 }
      if descOk d then (t.toChan n 2).setF (Reg.DMA_CH_DONE_BYTES n) 0 else t.dmaFail n 0x0100 a (descWb d)

/-- R367: the channel granted reads its descriptor. -/
def execDmaDescriptorFetch (s : State) : Host.Outcome State Fault Refusal :=
  match s.dmaGrant with
  | some n => if s.chanState n = 1 then .next ((s.granted n 0).fetchDesc n) else idle s
  | none => idle s

/-! ## Beats -/

/-- R368: the address of a stream byte: lines of `len` bytes, `stride` apart, in 40 bits. -/
def streamAddr (base len stride pos : Nat) : Nat :=
  (((base + pos % len : Nat) : Int) + ((pos / len : Nat) : Int) * signedOf 32 stride) % 2 ^ 40 |>.toNat

/-- R368: the source and the destination address of a stream byte of a descriptor. -/
def srcAddr (d : Bytes) (pos : Nat) : Nat := streamAddr (leAt d 0 8) (leAt d 0x10 4) (leAt d 0x18 4) pos
@[inherit_doc srcAddr] def dstAddr (d : Bytes) (pos : Nat) : Nat := streamAddr (leAt d 8 8) (leAt d 0x1C 4) (leAt d 0x24 4) pos

/-- R369: one unit of the stream, swapped. -/
def swapOne (mode : Nat) (b : Bytes) : Bytes :=
  if mode = 1 ∨ mode = 2 then b.reverse else if mode = 3 then b.drop 2 ++ b.take 2 else b

/-- R369: a beat, swapped unit by unit. -/
def swapBytes (d b : Bytes) : Bytes :=
  let u := swapUnit d
  (List.range (b.length / u)).flatMap (fun i => swapOne (leAt d 0x28 4 % 4) (slice b (i * u) u))

/-- Is an address in the register pages? -/
def onPages (req : Req) (a : Nat) : Bool :=
  match busTarget req a with
  | .page _ _ => true
  | _ => false

/-- R369, R370, R376: the bytes of the next beat: within a line and a 4 KiB region of each side, whole units of the swap, one word where a side is a
register. -/
def beatLen (req : Req) (d : Bytes) (pos : Nat) : Nat :=
  let a := srcAddr d pos
  let b := dstAddr d pos
  let sl := leAt d 0x10 4
  let dl := leAt d 0x1C 4
  let most := if onPages req a ∨ onPages req b then 4 else 32
  let n := min most (min (min (sl - pos % sl) (dl - pos % dl)) (min (4096 - a % 4096) (4096 - b % 4096)))
  let u := swapUnit d
  max u (n / u * u)

/-- R370: a beat reads registers as aligned words, and memory. -/
def State.beatRead (s : State) (req : Req) (a n : Nat) : State × (Nat ⊕ Bytes) :=
  match busTarget req a with
  | .page p off =>
    if a % 4 ≠ 0 ∨ n ≠ 4 then (s.busError Err.accessSize (accessInfo p req off), .inl Err.accessSize)
    else
      let t := s.regRead req p off
      (t, if t.bus.err then .inl Err.privDeny else .inr (leBytes 4 t.bus.data))
  | _ => s.memRead req a n

/-- R370: a beat writes registers as aligned words, and memory; the answer is 0 where it succeeds. -/
def State.beatWrite (s : State) (req : Req) (a : Nat) (b : Bytes) : State × Nat :=
  match busTarget req a with
  | .page p off =>
    if a % 4 ≠ 0 ∨ b.length ≠ 4 then (s.busError Err.accessSize (accessInfo p req off), Err.accessSize)
    else
      let t := s.pageWrite req p off .b4 (leNat b)
      (t, if t.bus.err then Err.privDeny else 0)
  | _ => s.memWrite req a b

/-- R376: does a burst end with the byte before `pos`: at the end of a line or of a 4 KiB region of a side? -/
def burstEnds (d : Bytes) (pos : Nat) : Bool :=
  pos % leAt d 0x10 4 == 0 || pos % leAt d 0x1C 4 == 0 || srcAddr d pos % 4096 == 0 || dstAddr d pos % 4096 == 0

/-- R371, R373, R376: channel `n` moves one beat. The answer of the bus belongs to the channel. -/
def State.moveBeat (s : State) (n : Nat) : State :=
  let req := s.chanReq n
  let d := (s.chan n).desc
  let pos := (s.chan n).pos
  let len := beatLen req d pos
  let bus := s.bus
  match s.beatRead req (srcAddr d pos) len with
  | (t, .inl c) => { t with bus := bus }.dmaFail n (if c = Err.poison then c else 0x0101) (srcAddr d pos) (descWb d)
  | (t, .inr b) =>
    match t.beatWrite req (dstAddr d pos) (swapBytes d b) with
    | (u, 0) =>
      let u : State := { u with bus := bus }
      if u.chanState n = 2 then (u.setChan n { u.chan n with pos := pos + len }).setF (Reg.DMA_CH_DONE_BYTES n) (pos + len) else u
    | (u, _) => { u with bus := bus }.dmaFail n 0x0102 (dstAddr d pos) (descWb d)

/-- R376: the channel granted moves a beat. -/
def execDmaBeat (s : State) : Host.Outcome State Fault Refusal :=
  match s.dmaGrant with
  | some n =>
    if s.chanState n = 2 then
      let d := (s.chan n).desc
      let p := (s.chan n).pos + beatLen (s.chanReq n) d (s.chan n).pos
      .next ((s.granted n (if burstEnds d p then 0 else 31)).moveBeat n)
    else idle s
  | none => idle s

end Sys2Proof.Machine
end

