-- ==== Sys2Proof/Machine/Kettle.lean ====
section
/-! DEFINITION. The Kettle service: the requests that Kettle answers on P3 (R292, R293). -/

namespace Sys2Proof.Machine

/-- R292: does Kettle serve: P3 runs, and Kettle is not being taken over (R470)? -/
def State.kettleServes (s : State) : Bool :=
  s.p3Runs && !(s.upd.act.any (fun a => a.part == 1))

/-- R292: Kettle serves a request: the status and the body of the reply that goes to its sender. -/
def State.kettleReply (s : State) (addr : Bytes) (port op status : Nat) (body : Bytes) : State :=
  s.kettleSend addr port (s.kettleMessage op status body)

/-! ## What Kettle answers of itself -/

/-- The Internet checksum of bytes. -/
def inetSum (b : Bytes) : Nat := sumAfter 65535 [] (if b.length % 2 = 1 then b ++ [0] else b)

/-- R292: the answer to an ARP request for an address of the chip, as RFC 826 lays it out (log entry 118). -/
def State.arpReply (s : State) (b : Bytes) : Option Bytes :=
  let (t, o) := etherType b
  let mac := s.macOf Reg.ETH_MAC_HI_MAC Reg.ETH_MAC_LO_MAC
  if t = 0x0806 ∧ slice b o 8 = [0, 1, 8, 0, 6, 4, 0, 1] ∧ s.ipListed false (slice b (o + 24) 4) then
    some (slice b (o + 8) 6 ++ mac ++ slice b 12 (o - 12) ++ [0, 1, 8, 0, 6, 4, 0, 2] ++ mac ++ slice b (o + 24) 4 ++ slice b (o + 8) 10)
  else none

/-- R292: the answer to a neighbour solicitation for an address of the chip, as RFC 4861 lays it out (log entry 118). -/
def State.ndReply (s : State) (b : Bytes) : Option Bytes :=
  let (t, o) := etherType b
  let mac := s.macOf Reg.ETH_MAC_HI_MAC Reg.ETH_MAC_LO_MAC
  let target := slice b (o + 48) 16
  if t = 0x86DD ∧ leAt b (o + 6) 2 = 0xFF3A ∧ leAt b (o + 40) 2 = 135 ∧ s.ipListed true target then
    let asker := slice b (o + 8) 16
    let open_ : Bool := leNat asker == 0
    let dst : Bytes := if open_ then [0xFF, 2] ++ List.replicate 13 0 ++ [1] else asker
    let body : Bytes := [if open_ then 0x20 else 0x60, 0, 0, 0] ++ target ++ [2, 1] ++ mac
    let sum := inetSum (target ++ dst ++ [0, 0, 0, 32, 0, 0, 0, 58, 136, 0, 0, 0] ++ body)
    some ((if open_ then [0x33, 0x33, 0, 0, 0, 1] else slice b 6 6) ++ mac ++ slice b 12 (o - 12) ++ [0x60, 0, 0, 0, 0, 32, 58, 255] ++ target ++ dst ++
      [136, 0] ++ beBytes 2 sum ++ body)
  else none

/-- R292: while PORT is stopped Kettle answers ARP and ND on P3. -/
def State.kettleNet (s : State) (b : Bytes) : State :=
  match (s.arpReply b).orElse (fun _ => s.ndReply b) with
  | some r => if s.kettleServes then s.ethNow 3 r else s
  | none => s

/-- R292: a request to Kettle with an opcode that the table does not list. -/
def State.kettleOther (s : State) (b : Bytes) : Option Udp :=
  match readUdp b with
  | some u => if u.dport = s.getF (Reg.ETHP_KSVC_PORT 3) ∧ !u.data.isEmpty ∧ !([0x01, 0x02, 0x03, 0x10].contains (leAt u.data 0 1)) then some u else none
  | none => none

/-- R284, R292: a frame reaches the CPU port, or, on P3 while PORT is stopped, Kettle alone. A request of Kettle's service is served by its own command; one with an
unknown opcode is a bad request. -/
def execCpuPortRx (port : Fin 4) (frame : Bytes) (s : State) : Host.Outcome State Fault Refusal :=
  let n := port.val
  if !s.ethUp n ∨ s.tooBig n frame then idle s
  else match if n = 3 ∧ s.kettleServes then s.kettleOther frame else none with
    | some u => .next (s.kettleReply (u.src ++ List.replicate (16 - u.src.length) 0) u.sport (leAt u.data 0 1) 2 [])
    | none =>
      if !s.domOn .port then .next (if n = 3 then s.kettleNet frame else s)
      else if s.flag Reg.ETH_CTRL_ENABLE then .next (s.cpuIn n frame) else idle s

/-- R292: the statuses of a reply. -/
def Ksvc.ok : Nat := 0
@[inherit_doc Ksvc.ok] def Ksvc.refused : Nat := 1
@[inherit_doc Ksvc.ok] def Ksvc.badRequest : Nat := 2

/-- R292: the body of a STATUS reply: the mode, the lifecycle, the debug state, `RTC.STAT`, RTC_SEC, TB0 in seconds and ns. DESIGN CHOICE (log entries
34 and 71): the spec gives neither the widths nor the byte order of these fields; the model sends them little-endian. -/
def State.statusBody (s : State) : Bytes :=
  leBytes 1 (s.getF Reg.PWR_STAT_MODE) ++ leBytes 1 (s.getF Reg.LCS_STAT_LC) ++ leBytes 1 (s.getF Reg.LCS_STAT_DBG_STATE) ++
    leBytes 4 (s.viewWord .kettle 0x04 0x014) ++ leBytes 4 (s.getF Reg.RTC_RTC_SEC_SEC) ++
    leBytes 6 (s.ns0 / nsPerS) ++ leBytes 4 (s.ns0 % nsPerS)

/-- R292: STATUS. -/
def execKsvcStatus (addr : Bytes) (port : BitVec 16) (s : State) : Host.Outcome State Fault Refusal :=
  if s.kettleServes then .next (s.kettleReply addr port.toNat 0x01 Ksvc.ok s.statusBody) else idle s

/-- R292: the records of a LOG_READ, each after the status of its read; one that cannot be read has no bytes (log). -/
def State.logBody (s : State) (index count : Nat) : Bytes :=
  (List.range count).flatMap (fun i =>
    let (st, b) := s.readRecord (index + i)
    leBytes 1 st ++ (if st = 0 then b else []))

/-- R292: LOG_READ. -/
def execKsvcLogRead (addr : Bytes) (port : BitVec 16) (index : Word) (count : BitVec 8) (s : State) : Host.Outcome State Fault Refusal :=
  let n := count.toNat
  if !s.kettleServes then idle s
  else if n = 0 ∨ 8 < n then .next (s.kettleReply addr port.toNat 0x02 Ksvc.badRequest [])
  else .next (s.kettleReply addr port.toNat 0x02 Ksvc.ok (s.logBody index.toNat n))

/-- R292: `n` words of a page from an offset, read as the KETTLE requester; none where one read ends with a bus error. -/
def State.pageWords (s : State) (p off : Nat) : Nat → State × Option Bytes
  | 0 => (s, some [])
  | n + 1 =>
    let t := s.regRead .kettle p off
    if t.bus.err then (t, none)
    else
      let (u, r) := State.pageWords t p (off + 4) n
      (u, r.map (fun b => leBytes 4 t.bus.data ++ b))

/-- R292: PAGE_READ. The answers of the bus are Kettle's own. -/
def execKsvcPageRead (addr : Bytes) (port : BitVec 16) (page : BitVec 8) (off : BitVec 12) (count : BitVec 8) (s : State) :
    Host.Outcome State Fault Refusal :=
  let n := count.toNat
  if !s.kettleServes then idle s
  else if n = 0 ∨ 16 < n ∨ off.toNat % 4 ≠ 0 ∨ 4096 < off.toNat + 4 * n then .next (s.kettleReply addr port.toNat 0x03 Ksvc.badRequest [])
  else if !Reg.slowOrAon page.toNat ∨ !pageExists page.toNat then .next (s.kettleReply addr port.toNat 0x03 Ksvc.refused [])
  else
    let (t, r) := s.pageWords page.toNat off.toNat n
    let t : State := { t with bus := s.bus }
    match r with
    | some b => .next (t.kettleReply addr port.toNat 0x03 Ksvc.ok b)
    | none => .next (t.kettleReply addr port.toNat 0x03 Ksvc.refused [])

/-- R293, R423: the targets of a WAKE that the present mode allows. -/
def State.wakeAllows (s : State) (m : Nat) : Bool :=
  match s.mode with
  | .listen => m == 1 || m == 3 || m == 4
  | .tending | .full | .degraded => m == 1 || m == 2
  | _ => false

/-- R293: what a WAKE signs: its target mode and its counter (log). -/
def wakeMessage (target counter : Nat) : Bytes := leBytes 1 target ++ leBytes 8 counter

/-- R293: is a WAKE accepted? -/
def State.wakeGood (s : State) (target counter : Nat) (sig : Bytes) : Bool :=
  !s.flag Reg.RTC_STAT_RET_LOST && s.wakeAllows target && !s.startingUp && s.power.stop.isNone && !s.flag Reg.PWR_STAT_LAST_GASP &&
    decide (s.uplink.wakeCtr < counter) && edVerify (s.read 0x0100FFC0 57) false (wakeMessage target counter) sig

/-- R293, R423, R424: the mode change of a WAKE starts; in LISTEN it is latched as a wake source. -/
def State.wakeTo (s : State) (m : Nat) : State :=
  if s.mode = .listen then
    let t := s.wake 4 m
    if m = 1 then t.toMode .dormant else t
  else s.stopTo m

/-- R292, R293: WAKE. A target that is no mode code makes a bad request. -/
def execKsvcWake (addr : Bytes) (port : BitVec 16) (target : BitVec 8) (counter : BitVec 64) (signature : Bytes) (s : State) :
    Host.Outcome State Fault Refusal :=
  let m := target.toNat
  if !s.kettleServes then idle s
  else if m = 0 ∨ 4 < m ∨ signature.length ≠ 114 then .next (s.kettleReply addr port.toNat 0x10 Ksvc.badRequest [])
  else if !s.wakeGood m counter.toNat signature then .next (s.kettleReply addr port.toNat 0x10 Ksvc.refused [])
  else
    let t := s.kettleReply addr port.toNat 0x10 Ksvc.ok []
    .next (({ t with uplink := { t.uplink with wakeCtr := counter.toNat } } : State).wakeTo m)

end Sys2Proof.Machine
end

