-- ==== Sys2Proof/Machine/Mortar.lean ====
section
/-! DEFINITION. Mortar: signatures and agreements (R406, R419). A completion's layout is the model's (log): TAG in byte 0, the status in bytes 2–3. -/

namespace Sys2Proof.Machine

/-- R406: a completion. -/
def State.pkeDone (s : State) (b : Bytes) (status : Nat) : State :=
  let s := if status = 0 then s else (s.err 0x0A status 0).irq Reg.PKE_IRQ_JOB_ERR
  (s.irq Reg.PKE_IRQ_JOB_DONE).enq 0x51 { body := .bytes (slice b 1 1 ++ [0] ++ leBytes 2 status ++ List.replicate 12 0) }

/-- R406: the fields of a job. -/
structure PkeJob where
  slot : Nat
  target : Nat
  msg : Nat
  len : Nat
  pub : Nat
  sig : Nat
  out : Nat
  deriving DecidableEq, Repr

/-- R406: the fields of an item. -/
def pkeFields (b : Bytes) : PkeJob :=
  { slot := leAt b 2 1, target := leAt b 3 1, msg := leAt b 8 8, len := leAt b 16 4, pub := leAt b 24 8, sig := leAt b 32 8, out := leAt b 40 8 }

/-- R406: has an item an opcode of the table? -/
def pkeKnown (b : Bytes) : Bool := decide (1 ≤ leAt b 0 1) && decide (leAt b 0 1 ≤ 7)

/-- R406, R470: Mortar takes a job with opcode `op` from the front of its queue, or one with no opcode of the table, which every job takes; `sub` is an item that software writes first. While Trivet is activated, jobs wait. -/
def State.pke (s : State) (op : Nat) (sub : Option Submission) (k : State → Bytes → PkeJob → State) : State :=
  let s := match sub with
    | some x => s.submit 0x50 x (.bytes (slice x.item 0 64))
    | none => s
  if !s.domOn .fabric ∨ !s.flag Reg.PKE_CTRL_ENABLE ∨ s.trivetBusy ∨ !s.hasCredit 0x51 then s
  else match (s.queue 0x50).items.head? with
    | some { body := .bytes b, poison := p } =>
      if leAt b 0 1 ≠ op ∧ pkeKnown b then s
      else match s.deq 0x50 with
        | some (_, t) => if p ≠ 0 ∨ !pkeKnown b ∨ 63 < leAt b 2 1 ∨ 63 < leAt b 3 1 then t.pkeDone b 0x0101 else k t b (pkeFields b)
        | none => s
    | _ => s

/-- R392, R406: a job under a slot's key with a usage: the key must be of the length given. -/
def State.pkeKey (s : State) (b : Bytes) (j : PkeJob) (usage len : Nat) (k : Bytes → State) : State :=
  let x := s.slot j.slot
  if !x.full then s.pkeDone b 0x0104
  else if !x.may usage ∨ !x.goes Dest.mortar then s.pkeDone b 0x0102
  else if x.key.length ≠ len then s.pkeDone b 0x0101
  else k x.key

/-- R406: SIGN and SIGN_PH. -/
def State.pkeSign (s : State) (b : Bytes) (j : PkeJob) (ph : Bool) : State :=
  if (!ph ∧ 65536 < j.len) ∨ !rangeMapped j.msg j.len ∨ !rangeMapped j.sig 114 then s.pkeDone b 0x0101
  else s.pkeKey b j Usage.sign 57 fun key =>
    ((s.write j.sig (edSign key ph (s.read j.msg j.len))).count Reg.PKE_SIGN_CNT_CNT).pkeDone b 0

/-- R406: VERIFY and VERIFY_PH. -/
def State.pkeVerify (s : State) (b : Bytes) (j : PkeJob) (ph : Bool) : State :=
  if (!ph ∧ 65536 < j.len) ∨ !rangeMapped j.msg j.len ∨ !rangeMapped j.pub 57 ∨ !rangeMapped j.sig 114 then s.pkeDone b 0x0101
  else
    let pub := s.read j.pub 57
    let t := s.count Reg.PKE_VERIFY_CNT_CNT
    if (edDecode pub).isNone then t.pkeDone b 0x0106
    else if edVerify pub ph (s.read j.msg j.len) (s.read j.sig 114) then t.pkeDone b 0
    else (t.count Reg.PKE_VERIFY_FAIL_CNT_CNT).pkeDone b 0x0100

/-- R406: SIGN. -/
def execPkeSign (sub : Option Submission) (s : State) : Host.Outcome State Fault Refusal :=
  .next (s.pke 1 sub fun s b j => s.pkeSign b j false)

/-- R406: VERIFY. -/
def execPkeVerify (sub : Option Submission) (s : State) : Host.Outcome State Fault Refusal :=
  .next (s.pke 2 sub fun s b j => s.pkeVerify b j false)

/-- R406: SIGN_PH. -/
def execPkeSignPh (sub : Option Submission) (s : State) : Host.Outcome State Fault Refusal :=
  .next (s.pke 3 sub fun s b j => s.pkeSign b j true)

/-- R406: VERIFY_PH. -/
def execPkeVerifyPh (sub : Option Submission) (s : State) : Host.Outcome State Fault Refusal :=
  .next (s.pke 4 sub fun s b j => s.pkeVerify b j true)

/-- R406: AGREE: the result goes to the target slot alone, with usage DERIVE. A result of zeros, which RFC 7748 refuses, names no valid point. -/
def execPkeAgree (sub : Option Submission) (s : State) : Host.Outcome State Fault Refusal :=
  .next (s.pke 5 sub fun s b j =>
    if !rangeMapped j.pub 56 then s.pkeDone b 0x0101
    else s.pkeKey b j Usage.agree 56 fun key =>
      let z := x448 key (s.read j.pub 56)
      if leNat z = 0 then s.pkeDone b 0x0106
      else
        let t := s.loadSlot j.target z { usage := 2 ^ Usage.derive, gen := ((s.slot j.target).gen + 1) % 65536 }
        (t.count Reg.PKE_AGREE_CNT_CNT).pkeDone b 0)

/-- R406: PUBLIC. -/
def execPkePublic (sub : Option Submission) (s : State) : Host.Outcome State Fault Refusal :=
  .next (s.pke 6 sub fun s b j =>
    let x := s.slot j.slot
    if !x.full then s.pkeDone b 0x0104
    else if !x.goes Dest.mortar ∨ (!x.may Usage.sign ∧ !x.may Usage.agree) then s.pkeDone b 0x0102
    else if x.key.length ≠ 57 ∧ x.key.length ≠ 56 then s.pkeDone b 0x0101
    else
      let p := if x.key.length = 57 then edPublic x.key else x448 x.key x448Base
      if rangeMapped j.out p.length then (s.write j.out p).pkeDone b 0 else s.pkeDone b 0x0101)

/-- R406, R409: KEYGEN: byte 4 bit 0 of the item asks for an X448 key. Its usage follows its kind, its destination is Mortar. -/
def execPkeKeygen (sub : Option Submission) (s : State) : Host.Outcome State Fault Refusal :=
  .next (s.pke 7 sub fun s b j =>
    let x := bitAt (leAt b 4 1) 0 = 1
    if !s.trngOk then s.pkeDone b 0x0107
    else
      let (d, t) := s.drawBytes (if x then 56 else 57)
      let k : KeySlot := { dest := 2 ^ Dest.mortar, usage := 2 ^ (if x then Usage.agree else Usage.sign), gen := ((t.slot j.target).gen + 1) % 65536 }
      (t.loadSlot j.target d k).pkeDone b 0)

end Sys2Proof.Machine
end

