-- ==== Sys2Proof/Machine/PtpCmd.lean ====
section
/-! DEFINITION. Precision time protocol (R207, R216–R218): event messages, the transparent clock, transmit stamps and leap announcements. -/

namespace Sys2Proof.Machine

/-- R211, R216: an event message is received on a port; a Sync stamped is a delivery to TB0. In LISTEN, P3 stamps for Kettle from the AON counter (R214). -/
def execPtpEventRx (port : Fin 4) (msg : Bytes) (s : State) : Host.Outcome State Fault Refusal :=
  let p := port.val
  if 4 ≤ ptpType msg then idle s
  else
    let s := if ptpType msg = 0 ∧ s.ptpStamps p then { s with time := { s.time with syncAt := some s.tb1 } } else s
    if s.domOn .port then .next (s.ptpToCpu p msg)
    else if p = 3 ∧ s.mode = .listen then .next { s with time := { s.time with p3At := some (s.ptpNow 3) } }
    else .next s

/-- R207: an Announce of the selected master with leap61 or leap59 writes `RTC.LEAP`. -/
def execPtpAnnounceLeap (leap61 : Bool) (leap59 : Bool) (s : State) : Host.Outcome State Fault Refusal :=
  if s.flag Reg.PTP_CTRL_LEAP_AUTO ∧ (leap61 || leap59) then
    .next ((s.setF Reg.RTC_LEAP_DAY (s.utcSec / 86400)).setF Reg.RTC_LEAP_DIR (if leap61 then 1 else 2))
  else idle s

/-- A corrected message is counted, with its residence time (R217). -/
def State.tcCount (s : State) (residence : Nat) : State := (s.count Reg.PTP_TC_CNT_CNT).peak Reg.PTP_RES_MAX_NS (min (residence / 65536) (2 ^ 24 - 1))

/-- R217, R218: a frame with a PTP message is forwarded between two ports of the transparent clock; `ago` is how long before now, in 2^−16 ns, its message
timestamp point passed the ingress port's medium boundary. -/
def execPtpTcForward (inPort : Fin 3) (outPort : Fin 3) (frame : Bytes) (ago : BitVec 48) (s : State) : Host.Outcome State Fault Refusal :=
  let i := inPort.val
  let o := outPort.val
  let p2p := s.flag Reg.PTP_CTRL_TC_MODE
  let f := s.ptpEnters i frame
  let r := s.residence i o ago.toNat
  match ptpPart frame with
  | none => idle s
  | some msg =>
    let t := ptpType msg
    if !s.flag Reg.PTP_CTRL_TC_EN ∨ !s.tcPort i ∨ !s.tcPort o then idle s
    else if t = 0 ∧ ptpTwoStep msg then .next (((s.count Reg.PTP_TWO_STEP_CNT_CNT).irq Reg.PTP_IRQ_TWO_STEP).ethNow o f)
    else if t = 0 then .next ((s.tcCount r).ethNow o (ptpFix f (if p2p then r + s.getF (Reg.PTP_PDELAY_DELAY i) else r)))
    else if t = 1 then if p2p then idle s else .next ((s.tcCount r).ethNow o (ptpFix f r))
    else if t = 2 ∨ t = 3 ∨ t = 10 then if p2p then .next (s.ptpToCpu i msg) else .next (s.ethNow o f)
    else .next (s.ethNow o frame)

/-- R216, R218: the chip sends a PTP message of its own; with the stamp flag its transmit stamp enters the stamp queue. -/
def execPtpTxStamp (port : Fin 4) (msg : Bytes) (stamp : Bool) (s : State) : Host.Outcome State Fault Refusal :=
  let p := port.val
  let s' := s.emit (8 + p) (s.ptpEgress p msg)
  let t := s.ptpNow p + s.getF (Reg.PTP_EGR_LAT_LAT p)
  if !stamp ∨ !s.ptpStamps p ∨ !s.domOn .time ∨ 4 ≤ ptpType msg then .next s'
  else if s.hasCredit 0x168 then .next ((s'.enq 0x168 { body := .bytes (stampItem p msg t) }).irq Reg.PTP_IRQ_TX_STAMP)
  else .next (s'.count Reg.PTP_TX_DROP_CNT_CNT)

end Sys2Proof.Machine
end

