-- ==== Sys2Proof/Machine/Recovery.lean ====
section
/-! DEFINITION. The reset of a Q-PRIV queue and what each owner recovers (R56, R82, R333, R415, R485). -/

namespace Sys2Proof.Machine

/-- R56: both pointers of a queue go to zero: its items are gone, every credit is back, the larger occupancy is counted as lost. -/
def State.ptrReset (s : State) (q lost : Nat) : State :=
  ((s.putQueue q { Queue.init q with fails := (s.queue q).fails }).count (Reg.qLost q) lost).err (qPage q) Err.qprivPtrFault 0

/-- R333: the record of an order number goes to the order queue again. -/
def State.refeed (s : State) (n : Nat) : State :=
  match s.recordAgain n with
  | some r => if s.feedCredit then s.feed r else s
  | none => s

/-- R333: the records of the replay buffer, from the first order number that the partner has not acknowledged. -/
def State.refeedAll (s : State) : State :=
  let a := s.get2 Reg.TWIN_APPLIED_LO_ORDER Reg.TWIN_APPLIED_HI_ORDER
  (sortOrders ((s.path.replay.map (fun e => e.2 - 1)).filter (fun n => decide (a < n)))).foldl State.refeed s

/-- R333: the records from the partner that a reset of their queue lost are asked for again. -/
def State.askLost (s : State) (l : List Item) : State :=
  l.foldl (fun t i => match i.body with
    | .record r => t.loseRecord r
    | _ => t) s

/-- R56, R82, R333, R415, R485: what the owner of a queue does after its reset. Trivet's requests are sent again by those who sent them. -/
def State.recoverQueue (s : State) (q lost : Nat) : State :=
  if q = 0x118 then (s.requeueCommits).event .qprivReset (qPage q) (leBytes 2 q ++ leBytes 4 lost)
  else if q = 0x30 then s.ownRecord .recordsLost (leBytes 4 lost)
  else if q = 0x180 then s.refeedAll.event .qprivReset (qPage q) (leBytes 2 q ++ leBytes 4 lost)
  else s.event .qprivReset (qPage q) (leBytes 2 q ++ leBytes 4 lost)

/-- R56: the copies of a pointer of a Q-PRIV queue disagree; they imply the two occupancies. -/
def execQprivPtrFault (queue : QueueId) (occA occB : Nat) (s : State) : Host.Outcome State Fault Refusal :=
  let q := queue.toNat
  if !qPriv q then idle s
  else
    let lost := max occA occB
    let t := ((s.ptrReset q lost).queueFault q 1 Reg.QMON_QMON_FAULT_PTR_FAULT).recoverQueue q lost
    .next (if q = 0x181 then t.askLost (s.queue q).items else t)

end Sys2Proof.Machine
end

