-- ==== Sys2Proof/Machine/Dispatch.lean ====
section
/-! DEFINITION. One arm per command: the dispatcher. -/

namespace Sys2Proof.Machine

/-- The effect of a command on everything but the queue. -/
def exec (i : Instr) (s : State) : Host.Outcome State Fault Refusal :=
  match i with
  | .registerWrite req addr size data => Sys2Proof.Machine.execRegisterWrite req addr size data s
  | .rcRead req page off size => Sys2Proof.Machine.execRcRead req page off size s
  | .blkPrivWrite req page data => Sys2Proof.Machine.execBlkPrivWrite req page data s
  | .softReset req page => Sys2Proof.Machine.execSoftReset req page s
  | .irqClear req page bits sameEdge => Sys2Proof.Machine.execIrqClear req page bits sameEdge s
  | .irqSet req page bits => Sys2Proof.Machine.execIrqSet req page bits s
  | .errClear req page => Sys2Proof.Machine.execErrClear req page s
  | .watermarkWrite req page qend hi lo => Sys2Proof.Machine.execWatermarkWrite req page qend hi lo s
  | .domainStart dom => Sys2Proof.Machine.execDomainStart dom s
  | .domainIdleStop dom => Sys2Proof.Machine.execDomainIdleStop dom s
  | .qmonCreditCheck queue => Sys2Proof.Machine.execQmonCreditCheck queue s
  | .qprivPtrFault queue occA occB => Sys2Proof.Machine.execQprivPtrFault queue occA occB s
  | .queueFlush req page qend producer consumerReading => Sys2Proof.Machine.execQueueFlush req page qend producer consumerReading s
  | .flushDiscardEnd page qend => Sys2Proof.Machine.execFlushDiscardEnd page qend s
  | .txnBegin req => Sys2Proof.Machine.execTxnBegin req s
  | .txnSelWrite req tag => Sys2Proof.Machine.execTxnSelWrite req tag s
  | .txnStagedWrite req page off data => Sys2Proof.Machine.execTxnStagedWrite req page off data s
  | .txnOneWrite req page off data => Sys2Proof.Machine.execTxnOneWrite req page off data s
  | .txnCommitNow req tag => Sys2Proof.Machine.execTxnCommitNow req tag s
  | .txnCommitAtTime req tag => Sys2Proof.Machine.execTxnCommitAtTime req tag s
  | .txnCommitAtInterval req tag interval => Sys2Proof.Machine.execTxnCommitAtInterval req tag interval s
  | .txnCommitAtBeacon req tag port => Sys2Proof.Machine.execTxnCommitAtBeacon req tag port s
  | .txnCommitAtCycle req tag => Sys2Proof.Machine.execTxnCommitAtCycle req tag s
  | .txnAbort req tag => Sys2Proof.Machine.execTxnAbort req tag s
  | .txnTimeout tag => Sys2Proof.Machine.execTxnTimeout tag s
  | .txnTrigger tag => Sys2Proof.Machine.execTxnTrigger tag s
  | .txnSwitched tag => Sys2Proof.Machine.execTxnSwitched tag s
  | .sFieldWrite req page off data => Sys2Proof.Machine.execSFieldWrite req page off data s
  | .shadowArm req page chan => Sys2Proof.Machine.execShadowArm req page chan s
  | .parseFrame port parity => Sys2Proof.Machine.execParseFrame port parity s
  | .dirLookup parity => Sys2Proof.Machine.execDirLookup parity s
  | .overflowSearch => Sys2Proof.Machine.execOverflowSearch s
  | .funnelOrder parity => Sys2Proof.Machine.execFunnelOrder parity s
  | .orderBaseLoad req data => Sys2Proof.Machine.execOrderBaseLoad req data s
  | .recordPrefetch meter => Sys2Proof.Machine.execRecordPrefetch meter s
  | .cleaverDecrypt unit parity => Sys2Proof.Machine.execCleaverDecrypt unit parity s
  | .tagVerdict unit => Sys2Proof.Machine.execTagVerdict unit s
  | .frameRerun order => Sys2Proof.Machine.execFrameRerun order s
  | .laneFrameStart lane => Sys2Proof.Machine.execLaneFrameStart lane s
  | .plaintextWordArrive lane poison => Sys2Proof.Machine.execPlaintextWordArrive lane poison s
  | .laneRv32Instruction lane => Sys2Proof.Machine.execLaneRv32Instruction lane s
  | .svAxlen lane => Sys2Proof.Machine.execSvAxlen lane s
  | .svTariff lane => Sys2Proof.Machine.execSvTariff lane s
  | .svCdate lane => Sys2Proof.Machine.execSvCdate lane s
  | .svEevt lane => Sys2Proof.Machine.execSvEevt lane s
  | .svVerd lane => Sys2Proof.Machine.execSvVerd lane s
  | .svLdbeH lane => Sys2Proof.Machine.execSvLdbeH lane s
  | .svLdbeW lane => Sys2Proof.Machine.execSvLdbeW lane s
  | .svEwr lane => Sys2Proof.Machine.execSvEwr lane s
  | .svEadd lane => Sys2Proof.Machine.execSvEadd lane s
  | .svEmax lane => Sys2Proof.Machine.execSvEmax lane s
  | .svEbalImp lane => Sys2Proof.Machine.execSvEbalImp lane s
  | .svEbalExp lane => Sys2Proof.Machine.execSvEbalExp lane s
  | .svEbalVolt lane => Sys2Proof.Machine.execSvEbalVolt lane s
  | .effectStallResume lane => Sys2Proof.Machine.execEffectStallResume lane s
  | .cycleLimit lane => Sys2Proof.Machine.execCycleLimit lane s
  | .laneKat lane passed => Sys2Proof.Machine.execLaneKat lane passed s
  | .laneWatchdog lane => Sys2Proof.Machine.execLaneWatchdog lane s
  | .laneFence lane trigger => Sys2Proof.Machine.execLaneFence lane trigger s
  | .laneUnfence req lane => Sys2Proof.Machine.execLaneUnfence req lane s
  | .laneSelftestDone lane result => Sys2Proof.Machine.execLaneSelftestDone lane result s
  | .laneEnterService req lane => Sys2Proof.Machine.execLaneEnterService req lane s
  | .laneToMaint req lane => Sys2Proof.Machine.execLaneToMaint req lane s
  | .lanePowerOn lane => Sys2Proof.Machine.execLanePowerOn lane s
  | .lanePowerOff lane => Sys2Proof.Machine.execLanePowerOff lane s
  | .apertureWrite req lane off data => Sys2Proof.Machine.execApertureWrite req lane off data s
  | .laneSeal req lane data => Sys2Proof.Machine.execLaneSeal req lane data s
  | .laneSealDone lane => Sys2Proof.Machine.execLaneSealDone lane s
  | .lanemapInit req => Sys2Proof.Machine.execLanemapInit req s
  | .lanemapMoveRequest req target => Sys2Proof.Machine.execLanemapMoveRequest req target s
  | .meterMove meter => Sys2Proof.Machine.execMeterMove meter s
  | .ladleLaneVerdict => Sys2Proof.Machine.execLadleLaneVerdict s
  | .ladleTagVerdict parity => Sys2Proof.Machine.execLadleTagVerdict parity s
  | .ladleCommitHead slotParityOk entriesIntact => Sys2Proof.Machine.execLadleCommitHead slotParityOk entriesIntact s
  | .ftlPlaceItem parity => Sys2Proof.Machine.execFtlPlaceItem parity s
  | .groupClose => Sys2Proof.Machine.execGroupClose s
  | .groupDurable => Sys2Proof.Machine.execGroupDurable s
  | .durableLate => Sys2Proof.Machine.execDurableLate s
  | .ladleStall => Sys2Proof.Machine.execLadleStall s
  | .dirInsert sub => Sys2Proof.Machine.execDirInsert sub s
  | .dirDelete sub => Sys2Proof.Machine.execDirDelete sub s
  | .dirRecWrite sub => Sys2Proof.Machine.execDirRecWrite sub s
  | .dirRouteSet sub => Sys2Proof.Machine.execDirRouteSet sub s
  | .dirRouteDel sub => Sys2Proof.Machine.execDirRouteDel sub s
  | .dirTokenAdd sub => Sys2Proof.Machine.execDirTokenAdd sub s
  | .dirFloorRaise sub => Sys2Proof.Machine.execDirFloorRaise sub s
  | .dirLookupCmd sub => Sys2Proof.Machine.execDirLookupCmd sub s
  | .dirLock sub => Sys2Proof.Machine.execDirLock sub s
  | .dirUnlock sub => Sys2Proof.Machine.execDirUnlock sub s
  | .dirLockTimeout => Sys2Proof.Machine.execDirLockTimeout s
  | .dirSuspectClr req data => Sys2Proof.Machine.execDirSuspectClr req data s
  | .balNodeSet sub => Sys2Proof.Machine.execBalNodeSet sub s
  | .balNodeDel sub => Sys2Proof.Machine.execBalNodeDel sub s
  | .balMeterAssign sub => Sys2Proof.Machine.execBalMeterAssign sub s
  | .balAuditReset sub => Sys2Proof.Machine.execBalAuditReset sub s
  | .balMarkerPlace => Sys2Proof.Machine.execBalMarkerPlace s
  | .balNodePass => Sys2Proof.Machine.execBalNodePass s
  | .balMeterPass => Sys2Proof.Machine.execBalMeterPass s
  | .balSweepResume => Sys2Proof.Machine.execBalSweepResume s
  | .demandMarkerPlace => Sys2Proof.Machine.execDemandMarkerPlace s
  | .closeMarkerPlace => Sys2Proof.Machine.execCloseMarkerPlace s
  | .ckptMarkerPlace => Sys2Proof.Machine.execCkptMarkerPlace s
  | .demandSweep => Sys2Proof.Machine.execDemandSweep s
  | .closeSweep => Sys2Proof.Machine.execCloseSweep s
  | .ckptSweep => Sys2Proof.Machine.execCkptSweep s
  | .ckptComplete => Sys2Proof.Machine.execCkptComplete s
  | .tokGo req data => Sys2Proof.Machine.execTokGo req data s
  | .calCheck req data => Sys2Proof.Machine.execCalCheck req data s
  | .calResolve req data => Sys2Proof.Machine.execCalResolve req data s
  | .panelItemChange => Sys2Proof.Machine.execPanelItemChange s
  | .panelKeyScan key => Sys2Proof.Machine.execPanelKeyScan key s
  | .panelEntryTimeout => Sys2Proof.Machine.execPanelEntryTimeout s
  | .panelLockEnd => Sys2Proof.Machine.execPanelLockEnd s
  | .timeNowRead req => Sys2Proof.Machine.execTimeNowRead req s
  | .aonNowRead req => Sys2Proof.Machine.execAonNowRead req s
  | .tb0Step req => Sys2Proof.Machine.execTb0Step req s
  | .tb0StateSet req value => Sys2Proof.Machine.execTb0StateSet req value s
  | .tb0Holdover => Sys2Proof.Machine.execTb0Holdover s
  | .leapSecond => Sys2Proof.Machine.execLeapSecond s
  | .ptpEventRx port msg => Sys2Proof.Machine.execPtpEventRx port msg s
  | .ptpAnnounceLeap leap61 leap59 => Sys2Proof.Machine.execPtpAnnounceLeap leap61 leap59 s
  | .ptpTcForward inPort outPort frame ago => Sys2Proof.Machine.execPtpTcForward inPort outPort frame ago s
  | .ptpTxStamp port msg stamp => Sys2Proof.Machine.execPtpTxStamp port msg stamp s
  | .ppsInEdge => Sys2Proof.Machine.execPpsInEdge s
  | .ppsOutPulse => Sys2Proof.Machine.execPpsOutPulse s
  | .tb3Slew => Sys2Proof.Machine.execTb3Slew s
  | .tb3Load req => Sys2Proof.Machine.execTb3Load req s
  | .zcEdge rising stableUs => Sys2Proof.Machine.execZcEdge rising stableUs s
  | .zcSynth => Sys2Proof.Machine.execZcSynth s
  | .timeAlarmFire n => Sys2Proof.Machine.execTimeAlarmFire n s
  | .rtcAlarmFire n => Sys2Proof.Machine.execRtcAlarmFire n s
  | .alarmWrite req alarm data => Sys2Proof.Machine.execAlarmWrite req alarm data s
  | .rtcSet req => Sys2Proof.Machine.execRtcSet req s
  | .rtcSyncTb0 req => Sys2Proof.Machine.execRtcSyncTb0 req s
  | .rtcTrimTick => Sys2Proof.Machine.execRtcTrimTick s
  | .retLost => Sys2Proof.Machine.execRetLost s
  | .batComparator exhausted => Sys2Proof.Machine.execBatComparator exhausted s
  | .oscStop => Sys2Proof.Machine.execOscStop s
  | .batMeasure mv => Sys2Proof.Machine.execBatMeasure mv s
  | .rtcChgWrite req data => Sys2Proof.Machine.execRtcChgWrite req data s
  | .plcFrameRx port fch mac rx => Sys2Proof.Machine.execPlcFrameRx port fch mac rx s
  | .plcAckSend port => Sys2Proof.Machine.execPlcAckSend port s
  | .plcAckTimeout port => Sys2Proof.Machine.execPlcAckTimeout port s
  | .plcContention port heard => Sys2Proof.Machine.execPlcContention port heard s
  | .plcBackoffExpire port => Sys2Proof.Machine.execPlcBackoffExpire port s
  | .plcBeaconTx port => Sys2Proof.Machine.execPlcBeaconTx port s
  | .plcAnnounceTx port => Sys2Proof.Machine.execPlcAnnounceTx port s
  | .plcJoinReq port fch ident bandL rx => Sys2Proof.Machine.execPlcJoinReq port fch ident bandL rx s
  | .plcNodeAge port addr => Sys2Proof.Machine.execPlcNodeAge port addr s
  | .plcTmUpdate port addr force => Sys2Proof.Machine.execPlcTmUpdate port addr force s
  | .plcTmReq port fch rx => Sys2Proof.Machine.execPlcTmReq port fch rx s
  | .plcBeaconRx port fch body rx => Sys2Proof.Machine.execPlcBeaconRx port fch body rx s
  | .plcBeaconMiss port => Sys2Proof.Machine.execPlcBeaconMiss port s
  | .plcLeave port fch reason rx => Sys2Proof.Machine.execPlcLeave port fch reason rx s
  | .plcAppAckSend port parity => Sys2Proof.Machine.execPlcAppAckSend port parity s
  | .plcDownlinkItem port sub => Sys2Proof.Machine.execPlcDownlinkItem port sub s
  | .plcCalibrate port temp corr => Sys2Proof.Machine.execPlcCalibrate port temp corr s
  | .plcFence req port => Sys2Proof.Machine.execPlcFence req port s
  | .plcUnfence req port => Sys2Proof.Machine.execPlcUnfence req port s
  | .radTimeslotStart port ccaBusy => Sys2Proof.Machine.execRadTimeslotStart port ccaBusy s
  | .radFrameRx port psdu corr fec modeSwitch => Sys2Proof.Machine.execRadFrameRx port psdu corr fec modeSwitch s
  | .radEnhAckSend port => Sys2Proof.Machine.execRadEnhAckSend port s
  | .radAckTimeout port => Sys2Proof.Machine.execRadAckTimeout port s
  | .radAssocReq port ident => Sys2Proof.Machine.execRadAssocReq port ident s
  | .radEbRx port panid src asn since => Sys2Proof.Machine.execRadEbRx port panid src asn since s
  | .radEbMiss port => Sys2Proof.Machine.execRadEbMiss port s
  | .radBudgetBucketRoll port => Sys2Proof.Machine.execRadBudgetBucketRoll port s
  | .radDlMaxWait port => Sys2Proof.Machine.execRadDlMaxWait port s
  | .radAppAckSend port parity => Sys2Proof.Machine.execRadAppAckSend port parity s
  | .radDownlinkItem port sub => Sys2Proof.Machine.execRadDownlinkItem port sub s
  | .radFence req port => Sys2Proof.Machine.execRadFence req port s
  | .radUnfence req port => Sys2Proof.Machine.execRadUnfence req port s
  | .radSpiRaw req port word reply => Sys2Proof.Machine.execRadSpiRaw req port word reply s
  | .switchForward port frame fcsBad => Sys2Proof.Machine.execSwitchForward port frame fcsBad s
  | .switchAge mac => Sys2Proof.Machine.execSwitchAge mac s
  | .cpuPortRx port frame => Sys2Proof.Machine.execCpuPortRx port frame s
  | .batchRx parity => Sys2Proof.Machine.execBatchRx parity s
  | .batchAckSend parity => Sys2Proof.Machine.execBatchAckSend parity s
  | .batchTimeout => Sys2Proof.Machine.execBatchTimeout s
  | .ethSwTx sub => Sys2Proof.Machine.execEthSwTx sub s
  | .prpRx lanB frame fcsBad => Sys2Proof.Machine.execPrpRx lanB frame fcsBad s
  | .prpNodeForget mac => Sys2Proof.Machine.execPrpNodeForget mac s
  | .prpSupervisionTx => Sys2Proof.Machine.execPrpSupervisionTx s
  | .prpLanDown lanB => Sys2Proof.Machine.execPrpLanDown lanB s
  | .ethLinkChange port up speed sqi => Sys2Proof.Machine.execEthLinkChange port up speed sqi s
  | .ksvcStatus addr port => Sys2Proof.Machine.execKsvcStatus addr port s
  | .ksvcLogRead addr port index count => Sys2Proof.Machine.execKsvcLogRead addr port index count s
  | .ksvcPageRead addr port page off count => Sys2Proof.Machine.execKsvcPageRead addr port page off count s
  | .ksvcWake addr port target counter signature => Sys2Proof.Machine.execKsvcWake addr port target counter signature s
  | .pcieSqTailWrite req data => Sys2Proof.Machine.execPcieSqTailWrite req data s
  | .pcieSqFetch host => Sys2Proof.Machine.execPcieSqFetch host s
  | .pcieCompletionWrite parity => Sys2Proof.Machine.execPcieCompletionWrite parity s
  | .pcieLinkDown up => Sys2Proof.Machine.execPcieLinkDown up s
  | .pcieHotReset up => Sys2Proof.Machine.execPcieHotReset up s
  | .mdioWrite req phy reg data => Sys2Proof.Machine.execMdioWrite req phy reg data s
  | .mdioRead req phy reg data => Sys2Proof.Machine.execMdioRead req phy reg data s
  | .mdioFrameDone driven data => Sys2Proof.Machine.execMdioFrameDone driven data s
  | .twinEnable req => Sys2Proof.Machine.execTwinEnable req s
  | .twinDisable req => Sys2Proof.Machine.execTwinDisable req s
  | .twinSeekTimeout => Sys2Proof.Machine.execTwinSeekTimeout s
  | .twinHello ident durable prefer role => Sys2Proof.Machine.execTwinHello ident durable prefer role s
  | .tongsRetransmit => Sys2Proof.Machine.execTongsRetransmit s
  | .tongsKeepalive received => Sys2Proof.Machine.execTongsKeepalive received s
  | .twinFrameRx record parity => Sys2Proof.Machine.execTwinFrameRx record parity s
  | .twinCommandRx order command => Sys2Proof.Machine.execTwinCommandRx order command s
  | .twinMarkerRx order kind k gen skipped at_ => Sys2Proof.Machine.execTwinMarkerRx order kind k gen skipped at_ s
  | .twinTxnRx order values => Sys2Proof.Machine.execTwinTxnRx order values s
  | .twinJoinRx order port ident addr slot => Sys2Proof.Machine.execTwinJoinRx order port ident addr slot s
  | .twinDiscardRx order => Sys2Proof.Machine.execTwinDiscardRx order s
  | .twinGroupRx seq last => Sys2Proof.Machine.execTwinGroupRx seq last s
  | .twinHandoverRx x bounds => Sys2Proof.Machine.execTwinHandoverRx x bounds s
  | .twinDurableRx seq => Sys2Proof.Machine.execTwinDurableRx seq s
  | .twinDigestRx stream index digest => Sys2Proof.Machine.execTwinDigestRx stream index digest s
  | .twinDisputeTest mine theirs => Sys2Proof.Machine.execTwinDisputeTest mine theirs s
  | .twinDigestMissing => Sys2Proof.Machine.execTwinDigestMissing s
  | .twinForwardRx port link seq frame => Sys2Proof.Machine.execTwinForwardRx port link seq frame s
  | .twinResendReqRx order => Sys2Proof.Machine.execTwinResendReqRx order s
  | .twinLeaseRenew => Sys2Proof.Machine.execTwinLeaseRenew s
  | .twinLeaseReqRx path counter authentic => Sys2Proof.Machine.execTwinLeaseReqRx path counter authentic s
  | .twinLeaseGrantRx path counter fromStandby authentic => Sys2Proof.Machine.execTwinLeaseGrantRx path counter fromStandby authentic s
  | .twinLeaseExpiry => Sys2Proof.Machine.execTwinLeaseExpiry s
  | .twinFencedNotice => Sys2Proof.Machine.execTwinFencedNotice s
  | .twinNoticeRx path kind authentic => Sys2Proof.Machine.execTwinNoticeRx path kind authentic s
  | .twinAcquire => Sys2Proof.Machine.execTwinAcquire s
  | .twinPathDown path => Sys2Proof.Machine.execTwinPathDown path s
  | .tongsLoss => Sys2Proof.Machine.execTongsLoss s
  | .twinSwap req => Sys2Proof.Machine.execTwinSwap req s
  | .twinDissolve req => Sys2Proof.Machine.execTwinDissolve req s
  | .twinResolveKeep req => Sys2Proof.Machine.execTwinResolveKeep req s
  | .twinResolveStepDown req => Sys2Proof.Machine.execTwinResolveStepDown req s
  | .twinResolveDrop req => Sys2Proof.Machine.execTwinResolveDrop req s
  | .twinFenceWrite req value => Sys2Proof.Machine.execTwinFenceWrite req value s
  | .twinSyncStart order => Sys2Proof.Machine.execTwinSyncStart order s
  | .twinSyncDataRx unit tagOk => Sys2Proof.Machine.execTwinSyncDataRx unit tagOk s
  | .twinSyncComplete => Sys2Proof.Machine.execTwinSyncComplete s
  | .twinSyncAbort => Sys2Proof.Machine.execTwinSyncAbort s
  | .twinSyncRetry => Sys2Proof.Machine.execTwinSyncRetry s
  | .twinKeyOfferRx path pub nonce ident durable prefer role valid => Sys2Proof.Machine.execTwinKeyOfferRx path pub nonce ident durable prefer role valid s
  | .twinMeeting => Sys2Proof.Machine.execTwinMeeting s
  | .ftlMount req ckptOk => Sys2Proof.Machine.execFtlMount req ckptOk s
  | .nandProgramDone die fail readBackOk parity => Sys2Proof.Machine.execNandProgramDone die fail readBackOk parity s
  | .nandEraseDone die fail => Sys2Proof.Machine.execNandEraseDone die fail s
  | .nandReadDone die report => Sys2Proof.Machine.execNandReadDone die report s
  | .nandTimeout die => Sys2Proof.Machine.execNandTimeout die s
  | .mapJournalFlush => Sys2Proof.Machine.execMapJournalFlush s
  | .logBlockMerge fails => Sys2Proof.Machine.execLogBlockMerge fails s
  | .wearLevelMove fails => Sys2Proof.Machine.execWearLevelMove fails s
  | .patrolRead temp => Sys2Proof.Machine.execPatrolRead temp s
  | .archSpaceResume => Sys2Proof.Machine.execArchSpaceResume s
  | .dieFail die => Sys2Proof.Machine.execDieFail die s
  | .ftlRead sub => Sys2Proof.Machine.execFtlRead sub s
  | .ftlWrite sub => Sys2Proof.Machine.execFtlWrite sub s
  | .ftlTrimArch sub => Sys2Proof.Machine.execFtlTrimArch sub s
  | .ftlSecureDiscard sub => Sys2Proof.Machine.execFtlSecureDiscard sub s
  | .ftlResize sub => Sys2Proof.Machine.execFtlResize sub s
  | .ftlFormat sub => Sys2Proof.Machine.execFtlFormat sub s
  | .ftlDieEvacuate sub => Sys2Proof.Machine.execFtlDieEvacuate sub s
  | .ftlDieAdd sub device => Sys2Proof.Machine.execFtlDieAdd sub device s
  | .bootReadCopy req copyBad otherBad => Sys2Proof.Machine.execBootReadCopy req copyBad otherBad s
  | .bootReadCopyHash req copyBad otherBad => Sys2Proof.Machine.execBootReadCopyHash req copyBad otherBad s
  | .bootReadCopyMerkle req copyBad otherBad => Sys2Proof.Machine.execBootReadCopyMerkle req copyBad otherBad s
  | .dmaCfgReqWrite req chan value => Sys2Proof.Machine.execDmaCfgReqWrite req chan value s
  | .dmaStart req chan => Sys2Proof.Machine.execDmaStart req chan s
  | .dmaStop req chan => Sys2Proof.Machine.execDmaStop req chan s
  | .dmaResume req chan => Sys2Proof.Machine.execDmaResume req chan s
  | .dmaAbort req chan => Sys2Proof.Machine.execDmaAbort req chan s
  | .dmaClear req chan => Sys2Proof.Machine.execDmaClear req chan s
  | .dmaDescriptorFetch => Sys2Proof.Machine.execDmaDescriptorFetch s
  | .dmaBeat => Sys2Proof.Machine.execDmaBeat s
  | .dmaDescriptorEnd chan => Sys2Proof.Machine.execDmaDescriptorEnd chan s
  | .keyLoad req target source kind lenSel => Sys2Proof.Machine.execKeyLoad req target source kind lenSel s
  | .keyErase req target source kind lenSel => Sys2Proof.Machine.execKeyErase req target source kind lenSel s
  | .keyNarrow req target source kind lenSel => Sys2Proof.Machine.execKeyNarrow req target source kind lenSel s
  | .keyDerive req target source kind lenSel => Sys2Proof.Machine.execKeyDerive req target source kind lenSel s
  | .keyGenerate req target source kind lenSel => Sys2Proof.Machine.execKeyGenerate req target source kind lenSel s
  | .keyUnwrap req target source kind lenSel => Sys2Proof.Machine.execKeyUnwrap req target source kind lenSel s
  | .keyWrap req target source kind lenSel => Sys2Proof.Machine.execKeyWrap req target source kind lenSel s
  | .keyCmdDone => Sys2Proof.Machine.execKeyCmdDone s
  | .keyZeroise req => Sys2Proof.Machine.execKeyZeroise req s
  | .keyRemask => Sys2Proof.Machine.execKeyRemask s
  | .trivetAttest sub => Sys2Proof.Machine.execTrivetAttest sub s
  | .trivetSeal sub => Sys2Proof.Machine.execTrivetSeal sub s
  | .trivetUnseal sub => Sys2Proof.Machine.execTrivetUnseal sub s
  | .trivetKekImport sub => Sys2Proof.Machine.execTrivetKekImport sub s
  | .trivetKekStore sub => Sys2Proof.Machine.execTrivetKekStore sub s
  | .trivetKekRemove sub => Sys2Proof.Machine.execTrivetKekRemove sub s
  | .trivetKsvcSet sub => Sys2Proof.Machine.execTrivetKsvcSet sub s
  | .ciphGcmEnc sub => Sys2Proof.Machine.execCiphGcmEnc sub s
  | .ciphGcmDec sub => Sys2Proof.Machine.execCiphGcmDec sub s
  | .ciphCtrEnc sub => Sys2Proof.Machine.execCiphCtrEnc sub s
  | .ciphCtrDec sub => Sys2Proof.Machine.execCiphCtrDec sub s
  | .ciphGmacGen sub => Sys2Proof.Machine.execCiphGmacGen sub s
  | .ciphGmacVer sub => Sys2Proof.Machine.execCiphGmacVer sub s
  | .ciphCmacGen sub => Sys2Proof.Machine.execCiphCmacGen sub s
  | .ciphCmacVer sub => Sys2Proof.Machine.execCiphCmacVer sub s
  | .ciphFf1Enc sub => Sys2Proof.Machine.execCiphFf1Enc sub s
  | .ciphFf1Dec sub => Sys2Proof.Machine.execCiphFf1Dec sub s
  | .ciphMeterWrap sub => Sys2Proof.Machine.execCiphMeterWrap sub s
  | .ciphMeterEnc sub => Sys2Proof.Machine.execCiphMeterEnc sub s
  | .rewrapGo req source => Sys2Proof.Machine.execRewrapGo req source s
  | .rewrapRecord => Sys2Proof.Machine.execRewrapRecord s
  | .pkeSign sub => Sys2Proof.Machine.execPkeSign sub s
  | .pkeVerify sub => Sys2Proof.Machine.execPkeVerify sub s
  | .pkeSignPh sub => Sys2Proof.Machine.execPkeSignPh sub s
  | .pkeVerifyPh sub => Sys2Proof.Machine.execPkeVerifyPh sub s
  | .pkeAgree sub => Sys2Proof.Machine.execPkeAgree sub s
  | .pkePublic sub => Sys2Proof.Machine.execPkePublic sub s
  | .pkeKeygen sub => Sys2Proof.Machine.execPkeKeygen sub s
  | .trngStartupDone => Sys2Proof.Machine.execTrngStartupDone s
  | .trngHealthFail apt => Sys2Proof.Machine.execTrngHealthFail apt s
  | .trngDataRead req => Sys2Proof.Machine.execTrngDataRead req s
  | .tamperAssert source => Sys2Proof.Machine.execTamperAssert source s
  | .meshCheck good => Sys2Proof.Machine.execMeshCheck good s
  | .tampVkrClear req => Sys2Proof.Machine.execTampVkrClear req s
  | .tampArm req => Sys2Proof.Machine.execTampArm req s
  | .tampRelease req => Sys2Proof.Machine.execTampRelease req s
  | .modeReq req data => Sys2Proof.Machine.execModeReq req data s
  | .wakeInput input => Sys2Proof.Machine.execWakeInput input s
  | .startup input => Sys2Proof.Machine.execStartup input s
  | .degradedExit => Sys2Proof.Machine.execDegradedExit s
  | .pllUnlock pll => Sys2Proof.Machine.execPllUnlock pll s
  | .ref10Lost => Sys2Proof.Machine.execRef10Lost s
  | .swReset req data => Sys2Proof.Machine.execSwReset req data s
  | .lastGasp vmain => Sys2Proof.Machine.execLastGasp vmain s
  | .lgRecover => Sys2Proof.Machine.execLgRecover s
  | .slowInputEdge input active => Sys2Proof.Machine.execSlowInputEdge input active s
  | .inputStuck input => Sys2Proof.Machine.execInputStuck input s
  | .chatterMaskEnd input => Sys2Proof.Machine.execChatterMaskEnd input s
  | .lcsChalReq req => Sys2Proof.Machine.execLcsChalReq req s
  | .chalLapse => Sys2Proof.Machine.execChalLapse s
  | .lcsDebugOpen req => Sys2Proof.Machine.execLcsDebugOpen req s
  | .lcsDeploy req => Sys2Proof.Machine.execLcsDeploy req s
  | .lcsRetire req => Sys2Proof.Machine.execLcsRetire req s
  | .lcsKillDebug req => Sys2Proof.Machine.execLcsKillDebug req s
  | .lcsProvision req => Sys2Proof.Machine.execLcsProvision req s
  | .lcsDebugClose req => Sys2Proof.Machine.execLcsDebugClose req s
  | .updPiece sub => Sys2Proof.Machine.execUpdPiece sub s
  | .updPageWrite => Sys2Proof.Machine.execUpdPageWrite s
  | .updInstall req => Sys2Proof.Machine.execUpdInstall req s
  | .updAbort req => Sys2Proof.Machine.execUpdAbort req s
  | .updActivationEnd => Sys2Proof.Machine.execUpdActivationEnd s
  | .updConfirm req data => Sys2Proof.Machine.execUpdConfirm req data s
  | .updFallbackReq req data => Sys2Proof.Machine.execUpdFallbackReq req data s
  | .confirmDue part => Sys2Proof.Machine.execConfirmDue part s
  | .confirmWindowEnd part => Sys2Proof.Machine.execConfirmWindowEnd part s
  | .evrItemTake parity => Sys2Proof.Machine.execEvrItemTake parity s
  | .evrSummaryWrite => Sys2Proof.Machine.execEvrSummaryWrite s
  | .evrNorProgram => Sys2Proof.Machine.execEvrNorProgram s
  | .evrSectorErase => Sys2Proof.Machine.execEvrSectorErase s
  | .evrCounterSave => Sys2Proof.Machine.execEvrCounterSave s
  | .evrSwCode req data => Sys2Proof.Machine.execEvrSwCode req data s
  | .evrRead req => Sys2Proof.Machine.execEvrRead req s
  | .evrClear req => Sys2Proof.Machine.execEvrClear req s
  | .evrNorFail cause addr => Sys2Proof.Machine.execEvrNorFail cause addr s
  | .evrAlarmRepeat => Sys2Proof.Machine.execEvrAlarmRepeat s
  | .evrNorRetry req answer => Sys2Proof.Machine.execEvrNorRetry req answer s
  | .mainPowerLoss => Sys2Proof.Machine.execMainPowerLoss s
  | .ref10Back => Sys2Proof.Machine.execRef10Back s
  | .tongsLaneFail lane up => Sys2Proof.Machine.execTongsLaneFail lane up s
  | .tongsLinkAck link applied parity => Sys2Proof.Machine.execTongsLinkAck link applied parity s
  | .radNodeAge port addr => Sys2Proof.Machine.execRadNodeAge port addr s
  | .partnerMARx m => Sys2Proof.Machine.execPartnerMARx m s

end Sys2Proof.Machine
end

