-- ==== Sys2Proof/Machine/Idle.lean ====
section
/-! DEFINITION. What happens while no command waits: time passes (log entry 9). -/

namespace Sys2Proof.Machine

/-- R188, R204, R258, R259, R283, R299, R309, R426: 10 ns pass; the power-line ports measure, the work of twin operation between commands goes on, the billing snapshots reach their volume, the Ethernet ports take what waits for
them, the interrupt messages of PCIe leave, and a stop sequence ends. -/
def State.idleTick (s : State) : State := s.tick.plcTick.twinTick.snapTick.egressTick.msixTick.stopEnd

end Sys2Proof.Machine
end

