-- ==== Sys2Proof/WellFormed.lean ====
section
/-! DEFINITION. What a well-formed command is: its operands have the sizes that the spec gives the items, frames and messages they stand for. -/

namespace Sys2Proof

/-- Has a byte string a length within bounds? -/
def lenIn (b : Bytes) (lo hi : Nat) : Bool := decide (lo ≤ b.length) && decide (b.length ≤ hi)

/-- R142, R154, R257, R361, R402, R406, R415, R465: an item that software writes has the length of its queue's items. -/
def subOk (sub : Option Submission) (lo hi : Nat) : Bool := sub.all (fun x => lenIn x.item lo hi)

/-- R334: pages of 4 to 16 KiB, at least one plane and one block, a serial of 16 bytes. -/
def DieParam.wf (d : DieParam) : Bool :=
  decide (1 ≤ d.pageKib) && decide (1 ≤ d.planes) && decide (1 ≤ d.blocks) && decide (d.serial.length ≤ 32)

/-- R310, R312: the items of COMMAND records. -/
def TwinCommand.wf : TwinCommand → Bool
  | .table item => lenIn item 64 64
  | .balance item => lenIn item 64 64
  | .token _ digits _ => lenIn digits 20 20

/-- R330: a record has 1,024 bytes; a copy unit of memory, at least one. -/
def SyncUnit.wf : SyncUnit → Bool
  | .record _ b => lenIn b 1024 1024
  | .mem _ b => decide (1 ≤ b.length)
  | .engines _ _ _ => true
  | .regs _ => true
  | .nodes _ _ => true
  | .key _ b _ _ _ => lenIn b 24 72
  | .done => true

/-- R378, R380, R335, R427: the 32 messages of the PUF have 513 bits each, 2,052 bytes in all; its SRAM has 8 KiB; there are at most 16 dies, each well-formed; a medium has ten volumes. -/
def BootInput.wf (b : BootInput) : Bool :=
  b.puf.all (fun m => m.length == 2052) && lenIn b.sram 8192 8192 && decide (b.dies.length ≤ 16) && b.dies.all DieParam.wf &&
    b.medium.all (fun m => m.1.length == 10)

/-- R30: only the application cores and PCIe make 64-bit accesses. -/
def Req.wide : Req → AccessSize → Bool
  | .app, _ => true
  | .pcie, _ => true
  | _, size => size != .b8

/-- R234, R244: a symbol has 560 samples at most, in windows of 16, and 96 carriers at most. -/
def PlcSymbol.wf (y : PlcSymbol) : Bool := decide (y.windows.length ≤ 35) && decide (y.errs.length ≤ 96)

/-- The symbols that a power-line port receives with a frame. -/
def PlcRx.wf (rx : PlcRx) : Bool := rx.symbols.all PlcSymbol.wf

/-- Is a command well-formed? -/
def Instr.wf : Instr → Bool
  | .registerWrite req _ size data => req.wide size && decide (data.toNat < 2 ^ (8 * size.bytes))
  | .rcRead req _ _ size => req.wide size
  | .blkPrivWrite _ _ _ => true
  | .softReset _ _ => true
  | .irqClear _ _ _ _ => true
  | .irqSet _ _ _ => true
  | .errClear _ _ => true
  | .watermarkWrite _ _ _ _ _ => true
  | .domainStart _ => true
  | .domainIdleStop _ => true
  | .qmonCreditCheck _ => true
  | .qprivPtrFault _ _ _ => true
  | .queueFlush _ _ _ _ _ => true
  | .flushDiscardEnd _ _ => true
  | .txnBegin _ => true
  | .txnSelWrite _ _ => true
  | .txnStagedWrite _ _ _ _ => true
  | .txnOneWrite _ _ _ _ => true
  | .txnCommitNow _ _ => true
  | .txnCommitAtTime _ _ => true
  | .txnCommitAtInterval _ _ _ => true
  | .txnCommitAtBeacon _ _ _ => true
  | .txnCommitAtCycle _ _ => true
  | .txnAbort _ _ => true
  | .txnTimeout _ => true
  | .txnTrigger _ => true
  | .txnSwitched _ => true
  | .sFieldWrite _ _ _ _ => true
  | .shadowArm _ _ _ => true
  | .parseFrame _ _ => true
  | .dirLookup _ => true
  | .overflowSearch => true
  | .funnelOrder _ => true
  | .orderBaseLoad _ _ => true
  | .recordPrefetch _ => true
  | .cleaverDecrypt _ _ => true
  | .tagVerdict _ => true
  | .frameRerun _ => true
  | .laneFrameStart _ => true
  | .plaintextWordArrive _ _ => true
  | .laneRv32Instruction _ => true
  | .svAxlen _ => true
  | .svTariff _ => true
  | .svCdate _ => true
  | .svEevt _ => true
  | .svVerd _ => true
  | .svLdbeH _ => true
  | .svLdbeW _ => true
  | .svEwr _ => true
  | .svEadd _ => true
  | .svEmax _ => true
  | .svEbalImp _ => true
  | .svEbalExp _ => true
  | .svEbalVolt _ => true
  | .effectStallResume _ => true
  | .cycleLimit _ => true
  | .laneKat _ _ => true
  | .laneWatchdog _ => true
  | .laneFence _ _ => true
  | .laneUnfence _ _ => true
  | .laneSelftestDone _ _ => true
  | .laneEnterService _ _ => true
  | .laneToMaint _ _ => true
  | .lanePowerOn _ => true
  | .lanePowerOff _ => true
  | .apertureWrite _ _ off data => lenIn data 1 8 && decide (off.toNat + data.length ≤ 0x20000)
  | .laneSeal _ _ _ => true
  | .laneSealDone _ => true
  | .lanemapInit _ => true
  | .lanemapMoveRequest _ _ => true
  | .meterMove _ => true
  | .ladleLaneVerdict => true
  | .ladleTagVerdict _ => true
  | .ladleCommitHead _ _ => true
  | .ftlPlaceItem _ => true
  | .groupClose => true
  | .groupDurable => true
  | .durableLate => true
  | .ladleStall => true
  | .dirInsert sub => subOk sub 64 64
  | .dirDelete sub => subOk sub 64 64
  | .dirRecWrite sub => subOk sub 64 64
  | .dirRouteSet sub => subOk sub 64 64
  | .dirRouteDel sub => subOk sub 64 64
  | .dirTokenAdd sub => subOk sub 64 64
  | .dirFloorRaise sub => subOk sub 64 64
  | .dirLookupCmd sub => subOk sub 64 64
  | .dirLock sub => subOk sub 64 64
  | .dirUnlock sub => subOk sub 64 64
  | .dirLockTimeout => true
  | .dirSuspectClr _ _ => true
  | .balNodeSet sub => subOk sub 64 64
  | .balNodeDel sub => subOk sub 64 64
  | .balMeterAssign sub => subOk sub 64 64
  | .balAuditReset sub => subOk sub 64 64
  | .balMarkerPlace => true
  | .balNodePass => true
  | .balMeterPass => true
  | .balSweepResume => true
  | .demandMarkerPlace => true
  | .closeMarkerPlace => true
  | .ckptMarkerPlace => true
  | .demandSweep => true
  | .closeSweep => true
  | .ckptSweep => true
  | .ckptComplete => true
  | .tokGo _ _ => true
  | .calCheck _ _ => true
  | .calResolve _ _ => true
  | .panelItemChange => true
  | .panelKeyScan _ => true
  | .panelEntryTimeout => true
  | .panelLockEnd => true
  | .timeNowRead _ => true
  | .aonNowRead _ => true
  | .tb0Step _ => true
  | .tb0StateSet _ _ => true
  | .tb0Holdover => true
  | .leapSecond => true
  | .ptpEventRx _ msg => lenIn msg 34 1522
  | .ptpAnnounceLeap _ _ => true
  | .ptpTcForward _ _ frame _ => lenIn frame 48 9022
  | .ptpTxStamp _ msg _ => lenIn msg 34 1522
  | .ppsInEdge => true
  | .ppsOutPulse => true
  | .tb3Slew => true
  | .tb3Load _ => true
  | .zcEdge _ _ => true
  | .zcSynth => true
  | .timeAlarmFire _ => true
  | .rtcAlarmFire _ => true
  | .alarmWrite _ _ _ => true
  | .rtcSet _ => true
  | .rtcSyncTb0 _ => true
  | .rtcTrimTick => true
  | .retLost => true
  | .batComparator _ => true
  | .oscStop => true
  | .batMeasure _ => true
  | .rtcChgWrite _ _ => true
  | .plcFrameRx _ fch _ rx => lenIn fch 1 64 && rx.wf
  | .plcAckSend _ => true
  | .plcAckTimeout _ => true
  | .plcContention _ _ => true
  | .plcBackoffExpire _ => true
  | .plcBeaconTx _ => true
  | .plcAnnounceTx _ => true
  | .plcJoinReq _ fch _ _ rx => lenIn fch 12 12 && rx.wf
  | .plcNodeAge _ _ => true
  | .plcTmUpdate _ _ _ => true
  | .plcTmReq _ fch rx => lenIn fch 12 12 && rx.wf
  | .plcBeaconRx _ fch _ rx => lenIn fch 12 12 && rx.wf
  | .plcBeaconMiss _ => true
  | .plcLeave _ fch _ rx => lenIn fch 12 12 && rx.wf
  | .plcAppAckSend _ _ => true
  | .plcDownlinkItem _ sub => subOk sub 16 2063
  | .plcCalibrate _ _ _ => true
  | .plcFence _ _ => true
  | .plcUnfence _ _ => true
  | .radTimeslotStart _ _ => true
  | .radFrameRx _ psdu _ _ _ => lenIn psdu 0 2047
  | .radEnhAckSend _ => true
  | .radAckTimeout _ => true
  | .radAssocReq _ _ => true
  | .radEbRx _ _ _ _ _ => true
  | .radEbMiss _ => true
  | .radBudgetBucketRoll _ => true
  | .radDlMaxWait _ => true
  | .radAppAckSend _ _ => true
  | .radDownlinkItem _ sub => subOk sub 16 2063
  | .radFence _ _ => true
  | .radUnfence _ _ => true
  | .radSpiRaw _ _ _ _ => true
  | .switchForward _ frame _ => lenIn frame 14 9022
  | .switchAge _ => true
  | .cpuPortRx _ frame => lenIn frame 14 9022
  | .batchRx _ => true
  | .batchAckSend _ => true
  | .batchTimeout => true
  | .ethSwTx sub => subOk sub 14 9038
  | .prpRx _ frame _ => lenIn frame 14 9022
  | .prpNodeForget _ => true
  | .prpSupervisionTx => true
  | .prpLanDown _ => true
  | .ethLinkChange _ _ _ _ => true
  | .ksvcStatus addr _ => lenIn addr 16 16
  | .ksvcLogRead addr _ _ _ => lenIn addr 16 16
  | .ksvcPageRead addr _ _ _ _ => lenIn addr 16 16
  | .ksvcWake addr _ _ _ _ => lenIn addr 16 16
  | .pcieSqTailWrite _ _ => true
  | .pcieSqFetch _ => true
  | .pcieCompletionWrite _ => true
  | .pcieLinkDown _ => true
  | .pcieHotReset _ => true
  | .mdioWrite _ _ _ _ => true
  | .mdioRead _ _ _ _ => true
  | .mdioFrameDone _ _ => true
  | .twinEnable _ => true
  | .twinDisable _ => true
  | .twinSeekTimeout => true
  | .twinHello _ _ _ _ => true
  | .tongsRetransmit => true
  | .tongsKeepalive _ => true
  | .twinFrameRx _ _ => true
  | .twinCommandRx _ command => command.wf
  | .twinMarkerRx _ _ _ _ _ _ => true
  | .twinTxnRx _ _ => true
  | .twinJoinRx _ _ _ _ _ => true
  | .twinDiscardRx _ => true
  | .twinGroupRx _ _ => true
  | .twinHandoverRx _ bounds => bounds.length == 10
  | .twinDurableRx _ => true
  | .twinDigestRx _ _ _ => true
  | .twinDisputeTest _ _ => true
  | .twinDigestMissing => true
  | .twinForwardRx _ _ _ _ => true
  | .twinResendReqRx _ => true
  | .twinLeaseRenew => true
  | .twinLeaseReqRx _ _ _ => true
  | .twinLeaseGrantRx _ _ _ _ => true
  | .twinLeaseExpiry => true
  | .twinFencedNotice => true
  | .twinNoticeRx _ _ _ => true
  | .twinAcquire => true
  | .twinPathDown _ => true
  | .tongsLoss => true
  | .twinSwap _ => true
  | .twinDissolve _ => true
  | .twinResolveKeep _ => true
  | .twinResolveStepDown _ => true
  | .twinResolveDrop _ => true
  | .twinFenceWrite _ _ => true
  | .twinSyncStart _ => true
  | .twinSyncDataRx unit _ => unit.wf
  | .twinSyncComplete => true
  | .twinSyncAbort => true
  | .twinSyncRetry => true
  | .twinKeyOfferRx _ pub nonce _ _ _ _ _ => lenIn pub 56 56 && lenIn nonce 32 32
  | .twinMeeting => true
  | .ftlMount _ _ => true
  | .nandProgramDone _ _ _ _ => true
  | .nandEraseDone _ _ => true
  | .nandReadDone _ _ => true
  | .nandTimeout _ => true
  | .mapJournalFlush => true
  | .logBlockMerge _ => true
  | .wearLevelMove _ => true
  | .patrolRead _ => true
  | .archSpaceResume => true
  | .dieFail _ => true
  | .ftlRead sub => subOk sub 32 32
  | .ftlWrite sub => subOk sub 32 32
  | .ftlTrimArch sub => subOk sub 32 32
  | .ftlSecureDiscard sub => subOk sub 32 32
  | .ftlResize sub => subOk sub 32 32
  | .ftlFormat sub => subOk sub 32 32
  | .ftlDieEvacuate sub => subOk sub 32 32
  | .ftlDieAdd sub device => subOk sub 32 32 && device.all DieParam.wf
  | .bootReadCopy _ _ _ => true
  | .bootReadCopyHash _ _ _ => true
  | .bootReadCopyMerkle _ _ _ => true
  | .dmaCfgReqWrite _ _ _ => true
  | .dmaStart _ _ => true
  | .dmaStop _ _ => true
  | .dmaResume _ _ => true
  | .dmaAbort _ _ => true
  | .dmaClear _ _ => true
  | .dmaDescriptorFetch => true
  | .dmaBeat => true
  | .dmaDescriptorEnd _ => true
  | .keyLoad _ _ _ _ _ => true
  | .keyErase _ _ _ _ _ => true
  | .keyNarrow _ _ _ _ _ => true
  | .keyDerive _ _ _ _ _ => true
  | .keyGenerate _ _ _ _ _ => true
  | .keyUnwrap _ _ _ _ _ => true
  | .keyWrap _ _ _ _ _ => true
  | .keyCmdDone => true
  | .keyZeroise _ => true
  | .keyRemask => true
  | .trivetAttest sub => subOk sub 256 256
  | .trivetSeal sub => subOk sub 256 256
  | .trivetUnseal sub => subOk sub 256 256
  | .trivetKekImport sub => subOk sub 256 256
  | .trivetKekStore sub => subOk sub 256 256
  | .trivetKekRemove sub => subOk sub 256 256
  | .trivetKsvcSet sub => subOk sub 256 256
  | .ciphGcmEnc sub => subOk sub 64 64
  | .ciphGcmDec sub => subOk sub 64 64
  | .ciphCtrEnc sub => subOk sub 64 64
  | .ciphCtrDec sub => subOk sub 64 64
  | .ciphGmacGen sub => subOk sub 64 64
  | .ciphGmacVer sub => subOk sub 64 64
  | .ciphCmacGen sub => subOk sub 64 64
  | .ciphCmacVer sub => subOk sub 64 64
  | .ciphFf1Enc sub => subOk sub 64 64
  | .ciphFf1Dec sub => subOk sub 64 64
  | .ciphMeterWrap sub => subOk sub 64 64
  | .ciphMeterEnc sub => subOk sub 64 64
  | .rewrapGo _ _ => true
  | .rewrapRecord => true
  | .pkeSign sub => subOk sub 64 64
  | .pkeVerify sub => subOk sub 64 64
  | .pkeSignPh sub => subOk sub 64 64
  | .pkeVerifyPh sub => subOk sub 64 64
  | .pkeAgree sub => subOk sub 64 64
  | .pkePublic sub => subOk sub 64 64
  | .pkeKeygen sub => subOk sub 64 64
  | .trngStartupDone => true
  | .trngHealthFail _ => true
  | .trngDataRead _ => true
  | .tamperAssert _ => true
  | .meshCheck _ => true
  | .tampVkrClear _ => true
  | .tampArm _ => true
  | .tampRelease _ => true
  | .modeReq _ _ => true
  | .wakeInput _ => true
  | .startup input => input.wf
  | .degradedExit => true
  | .pllUnlock _ => true
  | .ref10Lost => true
  | .swReset _ _ => true
  | .lastGasp _ => true
  | .lgRecover => true
  | .slowInputEdge _ _ => true
  | .inputStuck _ => true
  | .chatterMaskEnd _ => true
  | .lcsChalReq _ => true
  | .chalLapse => true
  | .lcsDebugOpen _ => true
  | .lcsDeploy _ => true
  | .lcsRetire _ => true
  | .lcsKillDebug _ => true
  | .lcsProvision _ => true
  | .lcsDebugClose _ => true
  | .updPiece sub => subOk sub 528 528
  | .updPageWrite => true
  | .updInstall _ => true
  | .updAbort _ => true
  | .updActivationEnd => true
  | .updConfirm _ _ => true
  | .updFallbackReq _ _ => true
  | .confirmDue _ => true
  | .confirmWindowEnd _ => true
  | .evrItemTake _ => true
  | .evrSummaryWrite => true
  | .evrNorProgram => true
  | .evrSectorErase => true
  | .evrCounterSave => true
  | .evrSwCode _ _ => true
  | .evrRead _ => true
  | .evrClear _ => true
  | .evrNorFail _ _ => true
  | .evrAlarmRepeat => true
  | .evrNorRetry _ _ => true
  | .mainPowerLoss => true
  | .ref10Back => true
  | .tongsLaneFail _ _ => true
  | .tongsLinkAck _ _ _ => true
  | .radNodeAge _ _ => true
  | .partnerMARx m => lenIn m 64 64

end Sys2Proof
end

