-- ==== Sys2Proof/Safety.lean ====
section
/-! DEFINITION. The terms in which claims speak of a safe block: the canonical form of the memory, the form of the whole state, and what a command leaves as it is. -/

namespace Sys2Proof.Machine

/-- The canonical form of the memory: addresses strictly rising, and no entry equal to what an unlisted address reads as. -/
def Memory.wf (m : List (Nat × Byte)) : Bool := sparseWf memDefault m

/-- The queue of a state holds well-formed commands alone. -/
def State.queueWf (s : State) : Bool := s.pending.all Instr.wf

/-- The invariant of the block: memory is in canonical form, the tables of register fields, of S-fields in effect and of queues list their keys in
rising order, and every command that waits is well formed. -/
def State.inv (s : State) : Bool :=
  Memory.wf s.mem && keysRise s.regs && keysRise s.eff && keysRise s.queues && s.queueWf

/-- A command leaves every register field but those of a list as it was. -/
def KeepsRegs (s t : State) (written : List Field) : Prop :=
  ∀ k : Nat, (∀ f ∈ written, f.key ≠ k) → ∀ d : Nat, sget d t.regs k = sget d s.regs k

/-- A command leaves every byte of memory as it was. -/
def KeepsMem (s t : State) : Prop := ∀ a : Nat, t.byte a = s.byte a

/-- A command stores to no byte of memory. -/
def StoresNothing (c : Instr) : Prop := ∀ s t : State, exec c s = .next t → KeepsMem s t

/-! ## What a refused access leaves -/

/-- The fields of the error log of SYS (R38). -/
def sysErrorLog : List Field := [Reg.ERR_VALID 0, Reg.ERR_CODE 0, Reg.ERR_INFO 0, Reg.ERR_CNT 0]

/-- R26, R35, R38: from `s`, an access has ended in `t` with a bus error: a read returns 0, nothing but the bus answer and the error log of SYS has changed,
and the log has taken the code and its detail as its first error, or has counted one more. -/
structure BusErrorOf (s t : State) (code info : Nat) : Prop where
  answer : t.bus = { err := true, data := 0 }
  rest : t = { s with regs := t.regs, bus := t.bus }
  log : KeepsRegs s t sysErrorLog
  first : s.flag (Reg.ERR_VALID 0) = false →
    t.flag (Reg.ERR_VALID 0) = true ∧ t.getF (Reg.ERR_CODE 0) = code ∧ t.getF (Reg.ERR_INFO 0) = info
  later : s.flag (Reg.ERR_VALID 0) = true →
    t.getF (Reg.ERR_CODE 0) = s.getF (Reg.ERR_CODE 0) ∧ t.getF (Reg.ERR_INFO 0) = s.getF (Reg.ERR_INFO 0) ∧
      t.getF (Reg.ERR_CNT 0) = min 255 (s.getF (Reg.ERR_CNT 0) + 1)

/-- R30: is an access of a width at an offset made of aligned 32-bit words: one, or two in ascending order? -/
def wholeWords (size : AccessSize) (off : Nat) : Bool := (size == .b4 && off % 4 == 0) || (size == .b8 && off % 8 == 0)

/-- R30: an access of a width has ended in bus errors of a code: each 32-bit half of an aligned access of 64 bits in one, every other access in one. -/
def BusErrorsOf (s t : State) (size : AccessSize) (off code : Nat) (info : Nat → Nat) : Prop :=
  if size = .b8 ∧ off % 8 = 0 then ∃ u : State, BusErrorOf s u code (info off) ∧ BusErrorOf u t code (info (off + 4))
  else BusErrorOf s t code (info off)

/-! ## When the register file accepts a command

Each is a condition on the state and the operands alone; the rules are R26, R29, R36, R43, R44. -/

/-- The register file accepts a write of a word at a register. -/
abbrev Takes (s : State) (req : Req) (page off : Nat) : Prop := s.refusal req page off .b4 true = none

/-- The register file accepts a write of a field, TRUSTED-only fields included. -/
abbrev TakesF (s : State) (req : Req) (f : Field) : Prop := Takes s req f.page f.off ∧ (f.trusted = true → req = .trusted)

/-- The register file accepts a direct write of a T-field: no transaction is selected, and none has the field staged. -/
abbrev TakesT (s : State) (req : Req) (f : Field) : Prop := TakesF s req f ∧ s.selOf req = 0 ∧ (s.stagedBy f 0).isSome = false

/-- What a word write leaves in the plain fields of the register of an action field. -/
def plainly (s : State) (req : Req) (f : Field) (d : Nat) : State := ((s.answer 0).writePlain req f.page f.off d).1

/-- The register file accepts a word write of an action field together with the plain fields beside it. -/
abbrev TakesA (s : State) (req : Req) (f : Field) (d : Nat) : Prop :=
  TakesF s req f ∧ ((s.answer 0).writePlain req f.page f.off d).2 = true

/-- The state without the item at the front of a queue, its credit returned. -/
def State.popped (s : State) (q : Nat) : State := ((s.deq q).map (·.2)).getD s

/-- The state after the submission that comes with a command, if one does. -/
def State.submitted (s : State) (q : Nat) (sub : Option Submission) (body : Submission → Payload) : State :=
  match sub with
  | some x => s.submit q x (body x)
  | none => s

/-- R142, R143: the table engine takes a command `b` of opcode `op` from the front of its queue and leaves `t`: it is enabled, the DRAM runs, the credits are at
hand, no search is under way, the park buffer has room, it is not the lookup queue's turn, the twin orders, the command is well formed and its bucket is free. -/
structure DirTakes (u : State) (op : Nat) (b : Bytes) (t : State) : Prop where
  enabled : u.flag Reg.DIR_CTRL_ENABLE = true
  dram : u.domOn .mem = true
  credit : u.dirCredit = true
  dispatch : op < 0x30 → u.hasCredit 0x80 = true
  search : u.dir.search = none
  room : u.dir.parked.length < 16
  turn : u.dir.released = [] → u.lookupTurn = false
  front : u.dirFront op = some (b, false, t)
  orders : u.orders = true
  formed : dirWellFormed (splice b 2 [0]) = true
  free : t.mustPark (.command b false) = false

/-- The twin block takes records from its partner: enabled, in a role, with a pair key, on a link that is up. -/
abbrev Linked (s : State) : Prop :=
  s.flag Reg.TWIN_CTRL_ENABLE = true ∧ s.twinRole ≠ 0 ∧ s.pairKey.isSome = true ∧ s.tongsUp = true

/-- R309: the state after a link frame with a record has arrived and has been acknowledged. -/
abbrev heardRecord (s : State) : State := (s.heardOn 0 true).ackLink

/-- R312, R316: a STANDBY that waits for no lost record takes a record `r` at once: its queue 0x181 has room and is empty, so the record goes through it
(`q` is the state with the record in the queue), and what the record brings leaves `u`. -/
structure RecTakes (s : State) (r : Rec) (q u : State) : Prop where
  linked : Linked s
  room : s.roomFor = true
  role : (heardRecord s).twinRole = 3
  gap : (heardRecord s).twin.missing = []
  queued : q = (heardRecord s).enq 0x181 { body := .record r }
  front : (q.queue 0x181).items.head? = some ⟨.record r, 0⟩
  taken : (q.popped 0x181).takeRecord r = some u

end Sys2Proof.Machine
end

