-- ==== Sys2Proof/Certificates/Slice0/Obligations.lean ====
section
/-! DEFINITION. The statements about the block: what holds of it as a whole, and, family by family, that every command completes with the next state that
the rules of the spec give. -/

open Sys2Proof Sys2Proof.Machine

/-! ## The block as a whole -/

/-- For every command c, every rest r of a queue and every state s whose queue is c before r, a step of s answers what exec answers for c on s with the queue r. That a block takes its commands from one queue is the model's choice (log entry 1). -/
def Obligations.StepRunsTheCommandAtTheFront : Prop :=
  ∀ (c : Instr) (r : List Instr) (s : State), s.pending = c :: r → step s = exec c { s with pending := r }

/-- With an empty queue a step answers a next state: the tick of the time bases, then the twin's work between commands and the end of a stop sequence. In a mode other than BACKUP, TB1 is 10 ns later after the tick. That time passes in steps with no command is the model's choice (log entry 9). -/
def Obligations.AnEmptyQueueLetsTimePass : Prop :=
  (∀ s : State, s.pending = [] → step s = .next s.idleTick) ∧
  (∀ s : State, s.mode ≠ .backup → s.tick.tb1 = s.tb1 + 10)

/-- After reset every lane is in SELFTEST with MAINT = 1, every page's read mask equals its ceiling and its masks are unlocked, no latched interrupt source is set and no page holds an error, every queue is empty with all its credits at the producer, the lane map sends group g to lane g mod 32, and the invariant of the block holds with no command waiting. That the order number is 0 is the model's choice (log entry 11). -/
def Obligations.ResetLeavesTheBlockAtRest : Prop :=
  (∀ n : Fin 32, State.reset.laneState n.val = .selftest ∧ State.reset.getF (Reg.LANE_CTRL_MAINT n.val) = 1) ∧
  (∀ p : Nat, State.reset.getF (Reg.BLK_PRIV_RD p) = State.reset.getF (Reg.BLK_PRIV_RD_CEIL p) ∧ State.reset.flag (Reg.BLK_PRIV_LOCK p) = false) ∧
  (∀ p b : Nat, State.reset.getF (Reg.irqRaw p b) = 0) ∧
  (∀ p : Nat, State.reset.flag (Reg.ERR_VALID p) = false ∧ State.reset.getF (Reg.ERR_CNT p) = 0) ∧
  (∀ q : Nat, (State.reset.queue q).items = [] ∧ (State.reset.queue q).credits = qDepth q ∧ State.reset.creditsHold q = true) ∧
  (∀ meter : Nat, State.reset.laneOf meter = meter / 16 % 32) ∧
  State.reset.orderNext = 0 ∧ State.reset.inv = true ∧ State.reset.pending = []

/-- From every state with the invariant (memory in canonical form, the tables of register fields, of S-fields in effect and of queues in rising order of key, well-formed commands waiting), whatever command is at the front, and with none, a step answers a state with the invariant. The canonical form is the model's own (log entry 4); it is what makes equal states equal data. -/
def Obligations.EveryStepKeepsTheInvariant : Prop :=
  ∀ s t : State, s.inv = true → step s = .next t → t.inv = true

/-- From every state with the invariant, every command of the table answers a next state, and the commands that wait are those that waited: a failed access ends in a bus error or an error code, which are state, never in a stop. -/
def Obligations.EveryCommandAnswersAndLeavesTheQueue : Prop :=
  ∀ (c : Instr) (s : State), s.inv = true → ∃ t : State, exec c s = .next t ∧ t.pending = s.pending ∧ t.inv = true

/-- A write to an address that the map does not give to the requester, and a read or a write of a register page that does not exist, ends with a bus error that answers 0, changes nothing but the error log of SYS, and is recorded there as ADDR_UNMAPPED with the low 32 bits of the address. A page's privilege mask that refuses an access leaves PRIV_DENY with the page, the requester and the offset in the same log. An access of 64 bits to a page ends so twice, once for each half. Before debug access is open the DEBUG requester is gated first. -/
def Obligations.AnUnmappedAddressIsABusError : Prop :=
  (∀ (s : State) (req : Req) (addr : BitVec 40) (size : AccessSize) (data : BitVec 64),
    (req = .debug → s.flag Reg.LCS_STAT_DBG_OPEN = true) → inBar4 req addr.toNat = false → busTarget req addr.toNat = .hole →
    ∃ t : State, exec (.registerWrite req addr size data) s = .next t ∧ BusErrorOf s t Err.addrUnmapped (addr.toNat % 2 ^ 32)) ∧
  (∀ (s : State) (req : Req) (addr : BitVec 40) (size : AccessSize) (data : BitVec 64) (p off : Nat),
    busTarget req addr.toNat = .page p off → pageExists p = false →
    ∃ t : State, exec (.registerWrite req addr size data) s = .next t ∧
      BusErrorsOf s t size off Err.addrUnmapped (fun o => 0x40000000 + p * 4096 + o)) ∧
  (∀ (req : Req) (addr : BitVec 40) (p off : Nat), busTarget req addr.toNat = .page p off →
    addr.toNat % 2 ^ 32 = 0x40000000 + p * 4096 + off) ∧
  (∀ (s : State) (req : Req) (page : BitVec 8) (off : BitVec 12) (size : AccessSize), pageExists page.toNat = false →
    ∃ t : State, exec (.rcRead req page off size) s = .next t ∧
      BusErrorsOf s t size off.toNat Err.addrUnmapped (fun o => 0x40000000 + page.toNat * 4096 + o)) ∧
  (∀ (s : State) (req : Req) (page : BitVec 8) (off : BitVec 12) (size : AccessSize), pageExists page.toNat = true →
    s.domOn (pageDomain page.toNat) = true → wholeWords size off.toNat = true → s.admits req page.toNat false = false →
    ∃ t : State, exec (.rcRead req page off size) s = .next t ∧
      BusErrorsOf s t size off.toNat Err.privDeny (accessInfo page.toNat req)) ∧
  (∀ (s : State) (req : Req) (addr : BitVec 40) (size : AccessSize) (data : BitVec 64) (p off : Nat),
    busTarget req addr.toNat = .page p off → pageExists p = true → s.domOn (pageDomain p) = true → wholeWords size off = true →
    s.admits req p true = false →
    ∃ t : State, exec (.registerWrite req addr size data) s = .next t ∧ BusErrorsOf s t size off Err.privDeny (accessInfo p req))

/-- An access to an existing page whose clock domain is stopped ends with a bus error, DOMAIN_OFF and the page in the error log of SYS, and starts no domain; with the domain running, a read or a write of 8 or 16 bits, and any unaligned access, ends with ACCESS_SIZE. Nothing but the bus answer and the error log changes. An aligned access of 64 bits is two accesses of 32 bits, each with its own end. -/
def Obligations.AStoppedDomainOrAWrongSizeIsABusError : Prop :=
  (∀ (s : State) (req : Req) (page : BitVec 8) (off : BitVec 12) (size : AccessSize), pageExists page.toNat = true →
    s.domOn (pageDomain page.toNat) = false →
    ∃ t : State, exec (.rcRead req page off size) s = .next t ∧ BusErrorsOf s t size off.toNat Err.domainOff (accessInfo page.toNat req)) ∧
  (∀ (s : State) (req : Req) (addr : BitVec 40) (size : AccessSize) (data : BitVec 64) (p off : Nat),
    busTarget req addr.toNat = .page p off → pageExists p = true → s.domOn (pageDomain p) = false →
    ∃ t : State, exec (.registerWrite req addr size data) s = .next t ∧ BusErrorsOf s t size off Err.domainOff (accessInfo p req)) ∧
  (∀ (s : State) (req : Req) (page : BitVec 8) (off : BitVec 12) (size : AccessSize), pageExists page.toNat = true →
    s.domOn (pageDomain page.toNat) = true → wholeWords size off.toNat = false →
    ∃ t : State, exec (.rcRead req page off size) s = .next t ∧ BusErrorOf s t Err.accessSize (accessInfo page.toNat req off.toNat)) ∧
  (∀ (s : State) (req : Req) (addr : BitVec 40) (size : AccessSize) (data : BitVec 64) (p off : Nat),
    busTarget req addr.toNat = .page p off → pageExists p = true → s.domOn (pageDomain p) = true → wholeWords size off = false →
    ∃ t : State, exec (.registerWrite req addr size data) s = .next t ∧ BusErrorOf s t Err.accessSize (accessInfo p req off)) ∧
  (wholeWords .b1 = fun _ => false) ∧ (wholeWords .b2 = fun _ => false)

/-- Every command that reads a register, issued by DEBUG and accepted, answers the state it was given but for the answer of the bus: no RC field is cleared, no transaction tag is allocated, no time is captured and no random word is taken. -/
def Obligations.ADebugReadHasNoSideEffect : Prop :=
  (∀ (s : State) (page : BitVec 8) (off : BitVec 12), s.refusal .debug page.toNat off.toNat .b4 false = none →
    ∃ d : Nat, exec (.rcRead .debug page off .b4) s = .next (s.answer d)) ∧
  (∀ s : State, s.refusal .debug 0x00 0x200 .b4 false = none → ∃ d : Nat, exec (.txnBegin .debug) s = .next (s.answer d)) ∧
  (∀ s : State, s.refusal .debug 0x05 0x104 .b4 false = none → ∃ d : Nat, exec (.timeNowRead .debug) s = .next (s.answer d)) ∧
  (∀ s : State, s.refusal .debug 0x03 0x108 .b4 false = none → ∃ d : Nat, exec (.aonNowRead .debug) s = .next (s.answer d)) ∧
  (∀ s : State, s.refusal .debug 0x0B 0x100 .b4 false = none → ∃ d : Nat, exec (.trngDataRead .debug) s = .next (s.answer d))

/-- An error recorded on a page that holds none sets VALID, CODE and ERR_INFO and leaves CNT; an error recorded on a page that holds one leaves VALID, CODE and ERR_INFO and counts one more, saturating at 255; ERR_CLEAR, where the page accepts the write, clears VALID, CODE, CNT and ERR_INFO. No other register field changes. -/
def Obligations.ErrCodeKeepsTheFirstError : Prop :=
  (∀ (s : State) (p code info : Nat), code < 2 ^ 16 → info < 2 ^ 32 → s.flag (Reg.ERR_VALID p) = false →
    (s.err p code info).flag (Reg.ERR_VALID p) = true ∧ (s.err p code info).getF (Reg.ERR_CODE p) = code ∧
    (s.err p code info).getF (Reg.ERR_INFO p) = info ∧ (s.err p code info).getF (Reg.ERR_CNT p) = s.getF (Reg.ERR_CNT p)) ∧
  (∀ (s : State) (p code info : Nat), s.flag (Reg.ERR_VALID p) = true →
    (s.err p code info).flag (Reg.ERR_VALID p) = true ∧ (s.err p code info).getF (Reg.ERR_CODE p) = s.getF (Reg.ERR_CODE p) ∧
    (s.err p code info).getF (Reg.ERR_INFO p) = s.getF (Reg.ERR_INFO p) ∧
    (s.err p code info).getF (Reg.ERR_CNT p) = min 255 (s.getF (Reg.ERR_CNT p) + 1)) ∧
  (∀ (s : State) (p code info : Nat),
    KeepsRegs s (s.err p code info) [Reg.ERR_VALID p, Reg.ERR_CODE p, Reg.ERR_INFO p, Reg.ERR_CNT p]) ∧
  (∀ (s : State) (req : Req) (page : BitVec 8), Takes s req page.toNat 0x030 →
    ∃ t : State, exec (.errClear req page) s = .next t ∧ t.getF (Reg.ERR_VALID page.toNat) = 0 ∧ t.getF (Reg.ERR_CODE page.toNat) = 0 ∧
      t.getF (Reg.ERR_CNT page.toNat) = 0 ∧ t.getF (Reg.ERR_INFO page.toNat) = 0 ∧
      KeepsRegs s t [Reg.ERR_VALID page.toNat, Reg.ERR_CODE page.toNat, Reg.ERR_INFO page.toNat, Reg.ERR_CNT page.toNat] ∧
      t = { s with regs := t.regs, bus := t.bus })

/-- IRQ_SET sets every latched source whose bit is written 1 and leaves the others; IRQ_CLEAR clears every latched source whose bit is written 1, except that a source whose event falls on the same edge stays set; level sources and reserved bits stay as they are. No state but the register fields and the bus answer changes. -/
def Obligations.LatchedInterruptsAreSetAndCleared : Prop :=
  (∀ (s : State) (req : Req) (page : BitVec 8) (bits : Word), Takes s req page.toNat 0x02C →
    ∃ t : State, exec (.irqSet req page bits) s = .next t ∧ t = { s with regs := t.regs, bus := t.bus } ∧
      ∀ b : Nat, b < 31 → t.getF (Reg.irqRaw page.toNat b) =
        if bitAt (latchedMask page.toNat) b = 1 ∧ bitAt bits.toNat b = 1 then 1 else s.getF (Reg.irqRaw page.toNat b)) ∧
  (∀ (s : State) (req : Req) (page : BitVec 8) (bits same : Word), Takes s req page.toNat 0x028 →
    ∃ t : State, exec (.irqClear req page bits same) s = .next t ∧ t = { s with regs := t.regs, bus := t.bus } ∧
      ∀ b : Nat, b < 31 → t.getF (Reg.irqRaw page.toNat b) =
        if bitAt (latchedMask page.toNat) b = 1 ∧ bitAt same.toNat b = 1 then 1
        else if bitAt (latchedMask page.toNat) b = 1 ∧ bitAt bits.toNat b = 1 then 0 else s.getF (Reg.irqRaw page.toNat b))

/-- A write of BLK_PRIV by another requester than TRUSTED ends with PRIV_DENY; once LOCK is set a write changes nothing; otherwise RD and WR take the written bits that their ceilings admit, on the edge on which LOCK may be set, and no other register field changes. -/
def Obligations.MasksStayUnderTheirCeilings : Prop :=
  (∀ (s : State) (req : Req) (page : BitVec 8) (data : Word), Takes s req page.toNat 0x00C → req ≠ .trusted →
    ∃ t : State, exec (.blkPrivWrite req page data) s = .next t ∧ BusErrorOf s t Err.privDeny (accessInfo page.toNat req 0x00C)) ∧
  (∀ (s : State) (page : BitVec 8) (data : Word), Takes s .trusted page.toNat 0x00C → s.flag (Reg.BLK_PRIV_LOCK page.toNat) = true →
    exec (.blkPrivWrite .trusted page data) s = .next (s.answer 0)) ∧
  (∀ (s : State) (page : BitVec 8) (data : Word), Takes s .trusted page.toNat 0x00C → s.flag (Reg.BLK_PRIV_LOCK page.toNat) = false →
    ∃ t : State, exec (.blkPrivWrite .trusted page data) s = .next t ∧
      t.getF (Reg.BLK_PRIV_RD page.toNat) = bitsOf data.toNat 5 0 &&& s.getF (Reg.BLK_PRIV_RD_CEIL page.toNat) ∧
      t.getF (Reg.BLK_PRIV_WR page.toNat) = bitsOf data.toNat 13 8 &&& s.getF (Reg.BLK_PRIV_WR_CEIL page.toNat) ∧
      t.flag (Reg.BLK_PRIV_LOCK page.toNat) = (bitAt data.toNat 31 == 1) ∧
      KeepsRegs s t [Reg.BLK_PRIV_RD page.toNat, Reg.BLK_PRIV_WR page.toNat, Reg.BLK_PRIV_LOCK page.toNat] ∧
      t = { s with regs := t.regs, bus := t.bus })

/-- Placing an item under a credit, taking one whose credit returns at once or later, returning held credits, discarding the items of a queue and flushing it all keep the sum of R21 for the queue and leave every other queue as it was; QUEUE_FLUSH and FLUSH_DISCARD_END keep the sum of every queue. -/
def Obligations.CreditsAreConserved : Prop :=
  (∀ (s : State) (q : Nat) (i : Item), s.creditsHold q = true → s.hasCredit q = true →
    (s.enq q i).creditsHold q = true ∧ ∀ r : Nat, r ≠ q → (s.enq q i).queue r = s.queue r) ∧
  (∀ (s t : State) (q : Nat) (i : Item), s.creditsHold q = true → s.deq q = some (i, t) →
    t.creditsHold q = true ∧ ∀ r : Nat, r ≠ q → t.queue r = s.queue r) ∧
  (∀ (s t : State) (q : Nat) (i : Item), s.creditsHold q = true → s.deqHeld q = some (i, t) →
    t.creditsHold q = true ∧ ∀ r : Nat, r ≠ q → t.queue r = s.queue r) ∧
  (∀ (s : State) (q n : Nat), s.creditsHold q = true →
    (s.creditBack q n).creditsHold q = true ∧ ∀ r : Nat, r ≠ q → (s.creditBack q n).queue r = s.queue r) ∧
  (∀ (s : State) (q : Nat), s.creditsHold q = true →
    (s.discardAll q).creditsHold q = true ∧ ∀ r : Nat, r ≠ q → (s.discardAll q).queue r = s.queue r) ∧
  (∀ (s t : State) (req : Req) (page : BitVec 8) (qend : Fin 6) (producer : FlushEdge) (reading : Bool) (q : Nat),
    s.creditsHold q = true → exec (.queueFlush req page qend producer reading) s = .next t → t.creditsHold q = true) ∧
  (∀ (s t : State) (page : BitVec 8) (qend : Fin 6) (q : Nat),
    s.creditsHold q = true → exec (.flushDiscardEnd page qend) s = .next t → t.creditsHold q = true)

/-- Whatever TXN_STAGED_WRITE does with a word (it stages its T-fields, or a refusal is recorded in SYS), every register field but those of the error log of SYS holds what it held, for every reader, as does every other part of the state but the transactions and the bus answer. -/
def Obligations.AStagedWriteChangesNoField : Prop :=
  ∀ (s t : State) (req : Req) (page : BitVec 8) (off : BitVec 12) (data : Word), exec (.txnStagedWrite req page off data) s = .next t →
    KeepsRegs s t sysErrorLog ∧ t = { s with regs := t.regs, txns := t.txns, bus := t.bus } ∧
    ∀ f : Field, f.txn = .t → f ∉ sysErrorLog → f.off < 4096 → f.lo < 32 → f.off ≠ 0x030 → f.off ≠ 0x034 → t.getF f = s.getF f

/-- TXN_ABORT of an OPEN or ARMED transaction that the requester owns leaves the tag ROLLED_BACK with nothing staged. In every case every field outside the interrupt, error and transaction-status registers of a page holds what it held. -/
def Obligations.ARollBackChangesNoField : Prop :=
  (∀ (s : State) (req : Req) (tag : BitVec 3), Takes s req 0x00 0x20C → 1 ≤ tag.toNat → tag.toNat ≤ 4 → (s.txn tag.toNat).owner = req →
    ((s.txn tag.toNat).state = .opened ∨ (s.txn tag.toNat).state = .armed) →
    ∃ t : State, exec (.txnAbort req tag) s = .next t ∧ (t.txn tag.toNat).staged = [] ∧ (t.txn tag.toNat).state = .rolledBack) ∧
  (∀ (s t : State) (req : Req) (tag : BitVec 3), exec (.txnAbort req tag) s = .next t →
    t = { s with regs := t.regs, txns := t.txns, bus := t.bus } ∧
    ∀ f : Field, f.off < 4096 → f.lo < 32 → f.off ≠ 0x020 → f.off ≠ 0x030 → f.off ≠ 0x034 → f.off ≠ 0x040 → t.getF f = s.getF f)

/-- With SHADOW_ARM set, a hand-over gives every field of the set its shadow value in effect, clears SHADOW_ARM, adds 1 to GEN and latches SHADOW; with SHADOW_ARM clear it changes nothing. A write of an S-field leaves every value in effect as it was. -/
def Obligations.AHandOverTakesTheWholeShadowSet : Prop :=
  (∀ (s : State) (p c : Nat) (fs : List Field), (fs.map Field.key).Nodup → s.flag (shadowRegs p c).arm = true →
    (∀ f ∈ fs, (s.handOver p (shadowRegs p c) fs).getEff f = s.getF f % 2 ^ f.width) ∧
    (s.handOver p (shadowRegs p c) fs).flag (shadowRegs p c).arm = false ∧
    (s.handOver p (shadowRegs p c) fs).getF (shadowRegs p c).gen = (s.getF (shadowRegs p c).gen + 1) % 2 ^ 16 ∧
    (s.handOver p (shadowRegs p c) fs).flag (Reg.irqRaw p 29) = true ∧
    KeepsRegs s (s.handOver p (shadowRegs p c) fs) [(shadowRegs p c).arm, (shadowRegs p c).gen, Reg.irqRaw p 29]) ∧
  (∀ (s : State) (p c : Nat) (fs : List Field), s.flag (shadowRegs p c).arm = false → s.handOver p (shadowRegs p c) fs = s) ∧
  (∀ (s t : State) (req : Req) (page : BitVec 8) (off : BitVec 12) (data : Word),
    exec (.sFieldWrite req page off data) s = .next t → t.eff = s.eff ∧ t = { s with regs := t.regs, bus := t.bus })

/-- Writing n bytes of a value at an address puts byte i of the value at the address plus i, but for a protected word that is uncorrectable and that the write covers in part, of which every byte stays as it was; it leaves every other byte of memory as it was, and where no word is uncorrectable it reads back as the value modulo 2^(8n). A write changes nothing but memory and its error marks, and it leaves no uncorrectable word where there was none. -/
def Obligations.AMultiByteValueIsLittleEndian : Prop :=
  (∀ (s : State) (a n v : Nat), s.bad = [] →
    (s.writeNat a n v).readNat a n = v % 2 ^ (8 * n) ∧ (s.writeNat a n v).bad = []) ∧
  (∀ (s : State) (a n v i : Nat), i < n →
    ((s.writeNat a n v).byte (a + i)).toNat =
      if sget false s.bad ((a + i) / wordSize a * wordSize a) = true ∧ covers a n ((a + i) / wordSize a * wordSize a) = false then (s.byte (a + i)).toNat
      else v / 2 ^ (8 * i) % 256) ∧
  (∀ (s : State) (a n v b : Nat), b < a ∨ a + n ≤ b → (s.writeNat a n v).byte b = s.byte b) ∧
  (∀ (s : State) (a n v : Nat),
    s.writeNat a n v = { s with mem := (s.writeNat a n v).mem, bad := (s.writeNat a n v).bad, soft := (s.writeNat a n v).soft,
                                corrected := (s.writeNat a n v).corrected })

/-- A frame with a poisoned word in a port receive queue, in the lookup queue or in the dispatch queue, whether it stood there or fails its check now, is taken from the queue and dropped by PARSE_FRAME, DIR_LOOKUP or FUNNEL_ORDER: FUNL.PRE_ORDER_POISON_CNT counts it, no order number is given and no frame comes into flight, so that its source, which has no acknowledgement, sends it again. -/
def Obligations.APoisonedFrameLeavesBeforeItsOrderNumber : Prop :=
  (∀ (s : State) (port : Fin 10) (f : Frame) (n parity : Nat), port.val < 8 → s.domOn .fabric = true → s.hasCredit 0xA0 = true →
    (s.queue (portQ port.val)).items.head? = some { body := .frame f, poison := n } → n + parity ≠ 0 →
    ∃ t : State, exec (.parseFrame port parity) s = .next t ∧ (t.queue (portQ port.val)).items = (s.queue (portQ port.val)).items.tail ∧
      t.getF Reg.FUNL_PRE_ORDER_POISON_CNT_CNT = min (2 ^ 32 - 1) (s.getF Reg.FUNL_PRE_ORDER_POISON_CNT_CNT + 1) ∧
      t.orderNext = s.orderNext ∧ t.flights = s.flights ∧ t.sent = s.sent) ∧
  (∀ (s : State) (f : Frame) (n parity : Nat), s.flag Reg.DIR_CTRL_ENABLE = true → s.domOn .mem = true → s.dir.search = none →
    s.hasCredit 0x80 = true → s.dir.parked.length < 16 → s.dir.released = [] → s.commandTurn = false →
    (s.queue 0xA0).items.head? = some { body := .frame f, poison := n } → n + parity ≠ 0 →
    ∃ t : State, exec (.dirLookup parity) s = .next t ∧ (t.queue 0xA0).items = (s.queue 0xA0).items.tail ∧
      t.getF Reg.FUNL_PRE_ORDER_POISON_CNT_CNT = min (2 ^ 32 - 1) (s.getF Reg.FUNL_PRE_ORDER_POISON_CNT_CNT + 1) ∧
      t.orderNext = s.orderNext ∧ t.flights = s.flights ∧ t.sent = s.sent) ∧
  (∀ (s : State) (f : Frame) (n parity : Nat), s.flag Reg.FUNL_CTRL_ENABLE = true → s.bill.token = none → s.panel.due = none →
    (s.queue 0x80).items.head? = some { body := .frame f, poison := n } → n + parity ≠ 0 →
    ∃ t : State, exec (.funnelOrder parity) s = .next t ∧ (t.queue 0x80).items = (s.queue 0x80).items.tail ∧
      t.getF Reg.FUNL_PRE_ORDER_POISON_CNT_CNT = min (2 ^ 32 - 1) (s.getF Reg.FUNL_PRE_ORDER_POISON_CNT_CNT + 1) ∧
      t.orderNext = s.orderNext ∧ t.flights = s.flights ∧ t.sent = s.sent)

/-- FUNNEL_ORDER either leaves FUNL.ORDER_NEXT as it was or adds 1 to it modulo 2^48; it adds 1 where it takes a frame. -/
def Obligations.NoOrderNumberIsSkipped : Prop :=
  (∀ (s t : State) (parity : Nat), exec (.funnelOrder parity) s = .next t →
    t.orderNext = s.orderNext ∨ t.orderNext = (s.orderNext + 1) % 2 ^ 48) ∧
  (∀ (s : State) (f : Frame), s.bill.token = none → s.panel.due = none → (s.queue 0x80).items.head? = some { body := .frame f, poison := 0 } →
    s.mayOrder false = true → s.mustHold s.orderNext f = false → s.hasCredit (decryptQ (unitOf (s.laneOf f.meter))) = true →
    ∃ t : State, exec (.funnelOrder 0) s = .next t ∧ t.orderNext = (s.orderNext + 1) % 2 ^ 48)

/-- A lane in SERVICE, with FABRIC and the DRAM running, that takes the frame at the front of its plaintext queue starts it with every integer register 0 but x2 = 0x0002_0000, a0 = the frame's length in bytes and a1 = its format code, with the program counter 0 and the instruction bank that Funnel stamped, and with no word of SCRATCH stored. -/
def Obligations.AFrameStartsWithClearedRegisters : Prop :=
  ∀ (s : State) (lane : Fin 32) (k n : Nat) (fl : Flight) (f : Frame),
    (s.queue (plainQ lane.val)).items.head? = some { body := .order k, poison := n } → s.flight k = some fl → fl.body = .frame f →
    s.domOn .fabric = true → s.domOn .mem = true → s.laneState lane.val = .service → (s.lane lane.val).running = none → fl.stage = .lane → s.slotFree k fl = true →
    ∃ t : State, exec (.laneFrameStart lane) s = .next t ∧
      (∀ r : Nat, (t.lane lane.val).get r =
        if r = 2 then 0x20000 else if r = 10 then f.raw.length else if r = 11 then f.fmt else 0) ∧
      (t.lane lane.val).pc = 0 ∧ t.getF (Reg.LANE_STAT_BANK lane.val) = f.bank % 2 ∧
      (t.lane lane.val).running = some k ∧ (t.lane lane.val).stored = []

/-- With a closed group that has not become durable within the limit and is not yet known to be late, whether its edge mark has reached the FTL or waits in the commit queue, DURABLE_LATE latches its interrupt and marks every such group; no other register field, no queue and nothing sent changes: the acknowledgements wait. -/
def Obligations.ALateGroupIsLatchedAndNothingElse : Prop :=
  ∀ (s : State) (limit : Nat), limit = s.getF Reg.LADL_GC_CFG_DURABLE_LIMIT * 1000000 →
    (s.path.groups.any (fun g => !g.late && decide (g.closedAt + limit ≤ s.tb1)) = true ∨
      ∃ (q l a : Nat), .groupEdge q l a ∈ s.path.shadow ∧ a + limit ≤ s.tb1 ∧ q ∉ s.path.lateEdges) →
    ∃ t : State, exec .durableLate s = .next t ∧ t.flag Reg.LADL_IRQ_DURABLE_LATE = true ∧ KeepsRegs s t [Reg.LADL_IRQ_DURABLE_LATE] ∧
      (∀ g ∈ t.path.groups, g.closedAt + limit ≤ s.tb1 → g.late = true) ∧
      (∀ q l a : Nat, .groupEdge q l a ∈ s.path.shadow → a + limit ≤ s.tb1 → q ∈ t.path.lateEdges) ∧
      t = { s with regs := t.regs, path := { s.path with groups := t.path.groups, lateEdges := t.path.lateEdges } }

/-- On PCIE_LINK_DOWN and PCIE_HOT_RESET, with FABRIC running and the link up, the endpoint stops fetching (Bus Master Enable reads 0 until the host, where the link trains again, sets it anew), no batch of the host is tracked any more and every batch that is still tracked is one that was, no completion waits or goes out, both rings are empty, the interrupt is latched, and what has been fetched goes on: frames in flight, the path and every queue are as they were, but that the batches in the receive queue will get no completion. After PCIE_LINK_DOWN the link is up only where it has trained again. -/
def Obligations.ALostHostLinkAbandonsItsBatches : Prop :=
  (∀ (s : State) (up : Option PcieHost), s.domOn .fabric = true → s.flag Reg.PCIE_STAT_LINK_UP = true →
    ∃ t : State, exec (.pcieLinkDown up) s = .next t ∧ t.flag Reg.PCIE_IRQ_LINK_DOWN = true ∧ t.flag Reg.PCIE_STAT_LINK_UP = up.isSome ∧ t.flag Reg.PCIE_STAT_BME = up.any (·.bme) ∧
      (∀ (k : Nat) (b : Batch), t.batch k = some b → b.kind ≠ 2 ∧ s.batch k = some b) ∧ t.uplink.completions = [] ∧
      t.getF Reg.PCIE_SQ_HEAD_IDX = 0 ∧ t.getF Reg.PCIE_SQ_TAIL_IDX = 0 ∧ t.getF Reg.PCIE_CQ_HEAD_IDX = 0 ∧ t.getF Reg.PCIE_CQ_TAIL_IDX = 0 ∧
      (t.queue 0x178).items = (s.queue 0x178).items.map orphaned ∧ (∀ q : Nat, q ≠ 0x178 → t.queue q = s.queue q) ∧
      t.flights = s.flights ∧ t.path = s.path ∧ t.mem = s.mem ∧ t.sent = s.sent) ∧
  (∀ (s : State) (up : Option PcieHost), s.domOn .fabric = true → s.flag Reg.PCIE_STAT_LINK_UP = true →
    ∃ t : State, exec (.pcieHotReset up) s = .next t ∧ t.flag Reg.PCIE_IRQ_HOT_RESET = true ∧ t.flag Reg.PCIE_STAT_BME = up.any (·.bme) ∧
      (∀ (k : Nat) (b : Batch), t.batch k = some b → b.kind ≠ 2 ∧ s.batch k = some b) ∧ t.uplink.completions = [] ∧
      t.getF Reg.PCIE_SQ_HEAD_IDX = 0 ∧ t.getF Reg.PCIE_SQ_TAIL_IDX = 0 ∧ t.getF Reg.PCIE_CQ_HEAD_IDX = 0 ∧ t.getF Reg.PCIE_CQ_TAIL_IDX = 0 ∧
      (t.queue 0x178).items = (s.queue 0x178).items.map orphaned ∧ (∀ q : Nat, q ≠ 0x178 → t.queue q = s.queue q) ∧
      t.flights = s.flights ∧ t.path = s.path ∧ t.mem = s.mem ∧ t.sent = s.sent)

/-- With SWAP 0 the stream is as it was; with SWAP 1 each pair b0 b1 becomes b1 b0; with SWAP 2 each b0 b1 b2 b3 becomes b3 b2 b1 b0; with SWAP 3 it becomes b2 b3 b0 b1. The swap acts on each unit by itself, counted from the first byte, and a valid descriptor's lines are whole units. -/
def Obligations.TheSwapActsOnEachUnit : Prop :=
  (∀ (d : Bytes) (b0 : Byte), leAt d 0x28 4 % 4 = 0 → swapUnit d = 1 ∧ swapBytes d [b0] = [b0]) ∧
  (∀ (d : Bytes) (b0 b1 : Byte), leAt d 0x28 4 % 4 = 1 → swapUnit d = 2 ∧ swapBytes d [b0, b1] = [b1, b0]) ∧
  (∀ (d : Bytes) (b0 b1 b2 b3 : Byte), leAt d 0x28 4 % 4 = 2 → swapUnit d = 4 ∧ swapBytes d [b0, b1, b2, b3] = [b3, b2, b1, b0]) ∧
  (∀ (d : Bytes) (b0 b1 b2 b3 : Byte), leAt d 0x28 4 % 4 = 3 → swapUnit d = 4 ∧ swapBytes d [b0, b1, b2, b3] = [b2, b3, b0, b1]) ∧
  (∀ (d x y : Bytes), x.length % swapUnit d = 0 → swapBytes d (x ++ y) = swapBytes d x ++ swapBytes d y) ∧
  (∀ d : Bytes, descOk d = true → leAt d 0x10 4 % swapUnit d = 0 ∧ leAt d 0x1C 4 % swapUnit d = 0)

/-- After KEY_REMASK every slot holds the key that it held, with the same destinations, usages, export permission, generation, owner and counter, whatever the masks that were drawn; memory and the queues are as they were. -/
def Obligations.MaskingLeavesEveryKeyAsItWas : Prop :=
  ∀ s t : State, exec .keyRemask s = .next t →
    t.mem = s.mem ∧ t.queues = s.queues ∧ ∀ n : Nat,
      (t.slot n).key = (s.slot n).key ∧ (t.slot n).dest = (s.slot n).dest ∧ (t.slot n).usage = (s.slot n).usage ∧
      (t.slot n).export_ = (s.slot n).export_ ∧ (t.slot n).gen = (s.slot n).gen ∧ (t.slot n).owner = (s.slot n).owner ∧
      (t.slot n).ctr = (s.slot n).ctr

/-- A NARROW leaves every slot but its target as it was and leaves the target's key and generation; the target's destinations and usages are among those it had, and EXPORT is set only where it was. A NARROW that would set a bit changes no slot and ends with a status that is not 0. -/
def Obligations.NarrowNeverSetsABit : Prop :=
  (∀ (s : State) (c : KeyCmd), c.op = 3 →
    (∀ n : Nat, n ≠ c.target → (s.keyRun c).1.slot n = s.slot n) ∧
    ((s.keyRun c).1.slot c.target).key = (s.slot c.target).key ∧ ((s.keyRun c).1.slot c.target).gen = (s.slot c.target).gen ∧
    ((s.keyRun c).1.slot c.target).dest &&& (s.slot c.target).dest = ((s.keyRun c).1.slot c.target).dest ∧
    ((s.keyRun c).1.slot c.target).usage &&& (s.slot c.target).usage = ((s.keyRun c).1.slot c.target).usage ∧
    (((s.keyRun c).1.slot c.target).export_ = true → (s.slot c.target).export_ = true)) ∧
  (∀ (s : State) (c : KeyCmd), c.op = 3 → (s.slot c.target).widens (s.newAttrs c) = true →
    (s.keyRun c).2.status ≠ 0 ∧ ∀ n : Nat, (s.keyRun c).1.slot n = s.slot n)

/-- Under an AES key of 16 or 32 bytes and from a counter block of 16 bytes, encrypting a byte string twice in counter mode gives the string back, whatever its length. AES as its standard gives it is presumed (log entry 6). -/
def Obligations.CounterModeUndoesItself : Prop :=
  ∀ (key c d : Bytes), (key.length = 16 ∨ key.length = 32) → c.length = 16 → aesCtr key c (aesCtr key c d) = d

/-- For each of the named commands, with all its operands and from every state, a next state reads as before at every address of memory; for TB0_STEP, which may reach the instant of an armed commit, where no tag is armed. -/
def Obligations.RegisterAndTimeCommandsStoreNothing : Prop :=
  (∀ (req : Req) (page : BitVec 8) (off : BitVec 12) (size : AccessSize), StoresNothing (.rcRead req page off size)) ∧
  (∀ (req : Req) (page : BitVec 8) (data : Word), StoresNothing (.blkPrivWrite req page data)) ∧
  (∀ (req : Req) (page : BitVec 8) (bits same : Word), StoresNothing (.irqClear req page bits same)) ∧
  (∀ (req : Req) (page : BitVec 8) (bits : Word), StoresNothing (.irqSet req page bits)) ∧
  (∀ (req : Req) (page : BitVec 8), StoresNothing (.errClear req page)) ∧
  (∀ (req : Req) (page : BitVec 8) (e : Fin 6) (hi lo : BitVec 16), StoresNothing (.watermarkWrite req page e hi lo)) ∧
  (∀ (req : Req) (page : BitVec 8) (e : Fin 6) (edge : FlushEdge) (b : Bool), StoresNothing (.queueFlush req page e edge b)) ∧
  (∀ (page : BitVec 8) (e : Fin 6), StoresNothing (.flushDiscardEnd page e)) ∧
  (∀ q : QueueId, StoresNothing (.qmonCreditCheck q)) ∧
  (∀ req : Req, StoresNothing (.txnBegin req) ∧ StoresNothing (.tb3Load req) ∧ StoresNothing (.rtcSet req) ∧
    StoresNothing (.rtcSyncTb0 req) ∧ StoresNothing (.timeNowRead req) ∧ StoresNothing (.aonNowRead req) ∧ StoresNothing (.trngDataRead req)) ∧
  (∀ (req : Req) (s t : State), (∀ n : Nat, (s.txn n).state ≠ .armed) → exec (.tb0Step req) s = .next t → KeepsMem s t) ∧
  (∀ (req : Req) (tag : BitVec 3), StoresNothing (.txnSelWrite req tag) ∧ StoresNothing (.txnAbort req tag) ∧ StoresNothing (.txnTimeout tag)) ∧
  (∀ (req : Req) (page : BitVec 8) (off : BitVec 12) (data : Word),
    StoresNothing (.txnStagedWrite req page off data) ∧ StoresNothing (.sFieldWrite req page off data)) ∧
  (∀ (req : Req) (page : BitVec 8) (chan : Fin 16), StoresNothing (.shadowArm req page chan)) ∧
  (∀ (req : Req) (v : BitVec 2), StoresNothing (.tb0StateSet req v)) ∧
  (∀ (req : Req) (alarm : AlarmId) (data : Word), StoresNothing (.alarmWrite req alarm data) ∧ StoresNothing (.rtcChgWrite req data)) ∧
  (∀ (n : Fin 4) (m : Fin 2), StoresNothing (.timeAlarmFire n) ∧ StoresNothing (.rtcAlarmFire m)) ∧
  (∀ (b : Bool) (mv : BitVec 13), StoresNothing (.batComparator b) ∧ StoresNothing (.batMeasure mv)) ∧
  (StoresNothing .tb0Holdover ∧ StoresNothing .leapSecond ∧ StoresNothing .ppsInEdge ∧ StoresNothing .ppsOutPulse ∧ StoresNothing .tb3Slew ∧
    (∀ (b : Bool) (us : BitVec 16), StoresNothing (.zcEdge b us)) ∧ StoresNothing .zcSynth ∧ StoresNothing .rtcTrimTick ∧ StoresNothing .oscStop)

/-- LOAD, ERASE, NARROW, DERIVE, GENERATE, UNWRAP and WRAP, their ends, the re-masking and the zeroisation store to no byte of memory: a key leaves a slot through the registers of WRAP alone. -/
def Obligations.KeyCommandsReachNoMemory : Prop :=
  (∀ (req : Req) (target source : BitVec 6) (kind : BitVec 2) (len : BitVec 6),
    StoresNothing (.keyLoad req target source kind len) ∧ StoresNothing (.keyErase req target source kind len) ∧
    StoresNothing (.keyNarrow req target source kind len) ∧ StoresNothing (.keyDerive req target source kind len) ∧
    StoresNothing (.keyGenerate req target source kind len) ∧ StoresNothing (.keyUnwrap req target source kind len) ∧
    StoresNothing (.keyWrap req target source kind len)) ∧
  (∀ req : Req, StoresNothing (.keyZeroise req)) ∧
  (StoresNothing .keyCmdDone ∧ StoresNothing .keyRemask)

/-! ## Every command completes

One statement for each family of commands: under conditions on the state and the operands alone, a command answers the next state that its rules
give. The frame stands in the equation: what it does not name is as it was. -/

/-- Where the register file accepts an access, REGISTER_WRITE (to a page; to a memory of FABRIC, where the bytes stored are the bytes of the data and every other byte of memory reads as before), RC_READ, BLK_PRIV_WRITE, SOFT_RESET, IRQ_CLEAR, IRQ_SET, ERR_CLEAR and WATERMARK_WRITE each answer the next state that holds their whole effect. -/
def Obligations.RegisterCommandsComplete : Prop :=
  -- REGISTER_WRITE
  (∀ (s : State) (req : Req) (addr : BitVec 40) (data : BitVec 64) (p off : Nat),
    busTarget req addr.toNat = .page p off → s.refusal req p off .b4 true = none →
    exec (.registerWrite req addr .b4 data) s = .next (s.writeWord req p off (data.toNat % 2 ^ 32))) ∧
  (∀ (s : State) (req : Req) (addr : BitVec 40) (data : BitVec 64) (p off : Nat) (t u : State),
    busTarget req addr.toNat = .page p off → off % 8 = 0 → s.refusal req p off .b4 true = none →
    t = s.writeWord req p off (data.toNat % 2 ^ 32) → t.refusal req p (off + 4) .b4 true = none →
    u = t.writeWord req p (off + 4) (data.toNat / 2 ^ 32) →
    exec (.registerWrite req addr .b8 data) s = .next { u with bus := { err := t.bus.err || u.bus.err, data := t.bus.data + u.bus.data * 2 ^ 32 } }) ∧
  (∀ (s : State) (req : Req) (addr : BitVec 40) (size : AccessSize) (data : BitVec 64),
    busTarget req addr.toNat = .mem .fabric → s.memRefusal req addr.toNat true = none → s.memRefusal req (addr.toNat + size.bytes - 1) true = none →
    s.partBad addr.toNat size.bytes = false →
    ∃ t : State, exec (.registerWrite req addr size data) s = .next t ∧ (∀ i : Nat, i < size.bytes → t.byte (addr.toNat + i) = (leBytes size.bytes data.toNat).getD i 0) ∧ (∀ a : Nat, a < addr.toNat ∨ addr.toNat + size.bytes ≤ a → t.byte a = s.byte a) ∧ t.regs = s.regs) ∧
  (∀ (s : State) (addr : BitVec 40) (data : BitVec 64),
    inBar4 .pcie addr.toNat = true → (addr.toNat - 0x2000000000) % 4 = 0 → addr.toNat - 0x2000000000 < 512 →
    exec (.registerWrite .pcie addr .b4 data) s = .next ((s.answer 0).msixWrite (addr.toNat - 0x2000000000) (data.toNat % 2 ^ 32))) ∧
  -- RC_READ
  (∀ (s : State) (req : Req) (page : BitVec 8) (off : BitVec 12),
    s.refusal req page.toNat off.toNat .b4 false = none → req ≠ .debug → (¬(page.toNat = 0x00 ∧ off.toNat = 0x200)) →
    (¬(page.toNat = 0x05 ∧ off.toNat = 0x104)) → (¬(page.toNat = 0x03 ∧ off.toNat = 0x108)) → (¬(page.toNat = 0x0B ∧ off.toNat = 0x100)) →
    (¬(page.toNat = 0x04 ∧ off.toNat = 0x100)) →
    exec (.rcRead req page off .b4) s = .next (((s.answer 0).clearRc req page.toNat off.toNat).answer ((s.answer 0).viewWord req page.toNat off.toNat))) ∧
  (∀ (s : State) (req : Req) (page : BitVec 8) (off : BitVec 12) (t u : State),
    off.toNat % 8 = 0 → t = s.regRead req page.toNat off.toNat → u = t.regRead req page.toNat (off.toNat + 4) →
    exec (.rcRead req page off .b8) s = .next { u with bus := { err := t.bus.err || u.bus.err, data := t.bus.data + u.bus.data * 2 ^ 32 } }) ∧
  (∀ (s : State) (req : Req),
    s.refusal req 0x04 0x100 .b4 false = none → req ≠ .debug →
    exec (.rcRead req 0x04 0x100 .b4) s = .next ((((s.answer 0).rtcLatch req).clearRc req 0x04 0x100).answer ((s.answer 0).viewWord req 0x04 0x100))) ∧
  -- BLK_PRIV_WRITE
  (∀ (s : State) (req : Req) (page : BitVec 8) (data : Word),
    TakesF s req (Reg.BLK_PRIV_WR page.toNat) → s.flag (Reg.BLK_PRIV_LOCK page.toNat) = false → bitAt data.toNat 31 = 0 →
    exec (.blkPrivWrite req page data) s = .next (let t := (s.answer 0).setF (Reg.BLK_PRIV_WR page.toNat) (bitsOf data.toNat 13 8 &&& s.getF (Reg.BLK_PRIV_WR_CEIL page.toNat)); t.setF (Reg.BLK_PRIV_RD page.toNat) (bitsOf data.toNat 5 0 &&& t.getF (Reg.BLK_PRIV_RD_CEIL page.toNat)))) ∧
  -- SOFT_RESET
  (∀ (s : State) (req : Req) (page : BitVec 8),
    TakesF s req (Reg.CTRL_SOFT_RESET page.toNat) →
    exec (.softReset req page) s = .next ((s.answer 0).softReset page.toNat)) ∧
  -- IRQ_CLEAR
  (∀ (s : State) (req : Req) (page : BitVec 8) (bits sameEdge : Word),
    Takes s req (page.toNat) (0x028) →
    exec (.irqClear req page bits sameEdge) s = .next ((List.range 31).foldl (fun t b => if bitAt (latchedMask page.toNat) b = 1 then if bitAt sameEdge.toNat b = 1 then t.setF (Reg.irqRaw page.toNat b) 1 else if bitAt bits.toNat b = 1 then t.setF (Reg.irqRaw page.toNat b) 0 else t else t) (s.answer 0))) ∧
  -- IRQ_SET
  (∀ (s : State) (req : Req) (page : BitVec 8) (bits : Word),
    Takes s req (page.toNat) (0x02C) →
    exec (.irqSet req page bits) s = .next ((List.range 31).foldl (fun t b => if bitAt (latchedMask page.toNat) b = 1 ∧ bitAt bits.toNat b = 1 then t.setF (Reg.irqRaw page.toNat b) 1 else t) (s.answer 0))) ∧
  -- ERR_CLEAR
  (∀ (s : State) (req : Req) (page : BitVec 8),
    Takes s req (page.toNat) (0x030) →
    exec (.errClear req page) s = .next (((((s.answer 0).setF (Reg.ERR_VALID page.toNat) 0).setF (Reg.ERR_CODE page.toNat) 0).setF (Reg.ERR_CNT page.toNat) 0).setF (Reg.ERR_INFO page.toNat) 0)) ∧
  -- WATERMARK_WRITE
  (∀ (s : State) (req : Req) (page : BitVec 8) (qend : Fin 6) (hi lo : BitVec 16),
    Takes s req (page.toNat) (0x080 + qend.val * 0x10) → qDepth (8 * page.toNat + qend.val) ≠ 0 →
    exec (.watermarkWrite req page qend hi lo) s = .next ((((s.answer 0).setF (Reg.HI_MARK (8 * page.toNat + qend.val)) hi.toNat).setF (Reg.LO_MARK (8 * page.toNat + qend.val)) lo.toNat).crossings (8 * page.toNat + qend.val) (s.level (8 * page.toNat + qend.val)) ((((s.answer 0).setF (Reg.HI_MARK (8 * page.toNat + qend.val)) hi.toNat).setF (Reg.LO_MARK (8 * page.toNat + qend.val)) lo.toNat).level (8 * page.toNat + qend.val))))

/-- DOMAIN_START starts a stopped domain that the mode allows; DOMAIN_IDLE_STOP stops MEM and an unheld PORT without work, and CORE, in TENDING, and leaves MEM running while work needs it; QMON_CREDIT_CHECK clears a fault count where the credit sum holds and counts a failure where it does not; QPRIV_PTR_FAULT resets a Q-PRIV queue and its owner recovers it; QUEUE_FLUSH discards the items of a queue end; FLUSH_DISCARD_END returns the credits and latches FLUSHED_PARTIAL. Each equation gives the whole next state. -/
def Obligations.DomainAndQueueCommandsComplete : Prop :=
  -- DOMAIN_START
  (∀ (s : State) (dom : Domain),
    s.domOn dom = false → s.canStart dom = true → domainAllowed (s.getF Reg.PWR_STAT_MODE) (s.getF Reg.PWR_STAT_BOOT_STEP != 0) dom = true →
    exec (.domainStart dom) s = .next (s.startDomain dom)) ∧
  -- DOMAIN_IDLE_STOP
  (∀ (s : State) (dom : Domain),
    s.getF Reg.PWR_STAT_MODE = 3 → s.domOn dom = true → (dom = .mem ∧ s.memBusy = false ∨ dom = .core) →
    exec (.domainIdleStop dom) s = .next ((s.setDom dom false).setLock dom false)) ∧
  (∀ (s : State),
    s.memBusy = true → exec (.domainIdleStop .mem) s = .next s) ∧
  (∀ (s : State),
    s.getF Reg.PWR_STAT_MODE = 3 → s.domOn .port = true → s.portBusy = false → s.flag Reg.PWR_TEND_CFG_PORT_HOLD = false →
    exec (.domainIdleStop .port) s = .next (((s.setDom .port false).setLock .port false).dropLinks)) ∧
  -- QMON_CREDIT_CHECK
  (∀ (s : State) (queue : QueueId),
    qDepth queue.toNat ≠ 0 → s.creditsHold queue.toNat = true →
    exec (.qmonCreditCheck queue) s = .next (s.setQueue queue.toNat { s.queue queue.toNat with fails := 0 })) ∧
  (∀ (s : State) (queue : QueueId),
    qDepth queue.toNat ≠ 0 → s.creditsHold queue.toNat = false → (s.queue queue.toNat).fails = 0 →
    exec (.qmonCreditCheck queue) s = .next (s.setQueue queue.toNat { s.queue queue.toNat with fails := 1 })) ∧
  -- QPRIV_PTR_FAULT
  (∀ (s : State) (queue : QueueId) (occA occB : Nat),
    qPriv queue.toNat = true → queue.toNat ≠ 0x181 →
    exec (.qprivPtrFault queue occA occB) s = .next (((s.ptrReset queue.toNat (max occA occB)).queueFault queue.toNat 1 Reg.QMON_QMON_FAULT_PTR_FAULT).recoverQueue queue.toNat (max occA occB))) ∧
  (∀ (s : State) (queue : QueueId) (occA occB : Nat),
    queue.toNat = 0x181 →
    exec (.qprivPtrFault queue occA occB) s = .next ((((s.ptrReset 0x181 (max occA occB)).queueFault 0x181 1 Reg.QMON_QMON_FAULT_PTR_FAULT).recoverQueue 0x181 (max occA occB)).askLost (s.queue 0x181).items)) ∧
  -- QUEUE_FLUSH
  (∀ (s : State) (req : Req) (page : BitVec 8) (qend : Fin 6) (producer : FlushEdge) (consumerReading : Bool),
    Takes s req (page.toNat) (0x08C + qend.val * 0x10) → qDepth (8 * page.toNat + qend.val) ≠ 0 →
    s.flag (Reg.FLUSH (8 * page.toNat + qend.val)) = false →
    exec (.queueFlush req page qend producer consumerReading) s = .next ((s.answer 0).flush (8 * page.toNat + qend.val) producer consumerReading)) ∧
  -- FLUSH_DISCARD_END
  (∀ (s : State) (page : BitVec 8) (qend : Fin 6) (q : Nat),
    q = 8 * page.toNat + qend.val → s.flag (Reg.DISCARD q) = true →
    exec (.flushDiscardEnd page qend) s = .next ((((((s.setQueue q { s.queue q with credits := (s.queue q).credits + (s.queue q).returning, returning := 0 }).setF (Reg.DISCARD q) 0).setF (Reg.FLUSHED_PARTIAL q) 1).setF (Reg.FLUSH q) 0).count (Reg.qLost q)).err page.toNat Err.flushedPartial 0))

/-- TXN_BEGIN opens a free tag for the requester and answers it; TXN_SEL_WRITE selects a tag; TXN_STAGED_WRITE stages the T-fields of a write; TXN_ONE_WRITE commits them as one set; COMMIT_NOW commits the staged set where nothing refuses it, and each other form of COMMIT arms the tag; TXN_ABORT and TXN_TIMEOUT roll it back; TXN_TRIGGER commits an armed tag, with every tag of the same trigger, as one set; TXN_SWITCHED ends a committing one; an S-field write changes the shadow alone, and SHADOW_ARM arms the shadow set. Each equation gives the whole next state. -/
def Obligations.TransactionCommandsComplete : Prop :=
  -- TXN_BEGIN
  (∀ (s : State) (req : Req),
    s.refusal req 0x00 0x200 .b4 false = none → req ≠ .debug →
    exec (.txnBegin req) s = .next ((s.answer 0).txnBegin req)) ∧
  -- TXN_SEL_WRITE
  (∀ (s : State) (req : Req) (tag : BitVec 3),
    Takes s req (0x00) (0x204) → (tag = 0 ∨ s.owns req tag.toNat = true) →
    exec (.txnSelWrite req tag) s = .next ((s.answer 0).setF (Reg.SYS_TXN_SEL_TAG.bankOf req.code) tag.toNat)) ∧
  -- TXN_STAGED_WRITE
  (∀ (s : State) (req : Req) (page : BitVec 8) (off : BitVec 12) (data : Word) (l n : List (Field × Nat)) (tag : Nat),
    Takes s req (page.toNat) (off.toNat) → trustedHit req page.toNat off.toNat data.toNat = false →
    l = (s.answer 0).tSet page.toNat off.toNat data.toNat → l.isEmpty = false → tag = s.selOf req → tag ≠ 0 →
    (s.txn tag).owner = req → (s.txn tag).state = .opened → (l.any (fun x => (s.stagedBy x.1 tag).isSome)) = false →
    n = l.foldl (fun a x => putStaged a x.1 x.2) (s.txn tag).staged → stagedRegs n ≤ 256 →
    s.stagedTotal - stagedRegs (s.txn tag).staged + stagedRegs n ≤ 1024 →
    exec (.txnStagedWrite req page off data) s = .next ((s.answer 0).setTxn tag { s.txn tag with staged := n })) ∧
  -- TXN_ONE_WRITE
  (∀ (s : State) (req : Req) (page : BitVec 8) (off : BitVec 12) (data : Word) (l : List (Field × Nat)) (t : State),
    Takes s req (page.toNat) (off.toNat) → trustedHit req page.toNat off.toNat data.toNat = false → s.selOf req = 0 →
    l = (s.answer 0).tSet page.toNat off.toNat data.toNat → l.isEmpty = false → (l.any (fun x => (s.stagedBy x.1 0).isSome)) = false →
    (s.answer 0).acceptRefused l = (t, none) → (t.ordersSet l = false ∨ t.hasCredit 0x80 = true) →
    exec (.txnOneWrite req page off data) s = .next (t.commitSet l)) ∧
  -- TXN_COMMIT_NOW
  (∀ (s : State) (req : Req) (tag : BitVec 3) (t u : State),
    s.refusal req 0x00 0x208 .b4 true = none → s.owns req tag.toNat = true → (s.txn tag.toNat).state = .opened →
    (s.answer 0).acceptRefused (s.txn tag.toNat).staged = (t, none) →
    u = t.setTxn tag.toNat { t.txn tag.toNat with state := .armed, trigger := .now, late := false } → u.tagsWith tag.toNat = [tag.toNat] →
    u.tagRefused tag.toNat = none → (u.ordersSet (u.txn tag.toNat).staged = false ∨ u.hasCredit 0x80 = true) →
    exec (.txnCommitNow req tag) s = .next ((u.setTxn tag.toNat { u.txn tag.toNat with state := .committing }).commitSet (u.txn tag.toNat).staged)) ∧
  -- TXN_COMMIT_AT_TIME
  (∀ (s : State) (req : Req) (tag : BitVec 3) (t : State),
    s.refusal req 0x00 0x208 .b4 true = none → s.owns req tag.toNat = true → (s.txn tag.toNat).state = .opened →
    (s.answer 0).acceptRefused (s.txn tag.toNat).staged = (t, none) →
    (t.setTxn tag.toNat { t.txn tag.toNat with state := .armed, trigger := .time ((s.getF (Reg.SYS_TXN_AT_SEC_LO_SEC.bankOf req.code) + s.getF (Reg.SYS_TXN_AT_SEC_HI_SEC.bankOf req.code) * 2 ^ 32) * nsPerS + s.getF (Reg.SYS_TXN_AT_NS_NS.bankOf req.code)), late := decide (((s.getF (Reg.SYS_TXN_AT_SEC_LO_SEC.bankOf req.code) + s.getF (Reg.SYS_TXN_AT_SEC_HI_SEC.bankOf req.code) * 2 ^ 32) * nsPerS + s.getF (Reg.SYS_TXN_AT_NS_NS.bankOf req.code)) ≤ s.ns0) }).triggered (.time ((s.getF (Reg.SYS_TXN_AT_SEC_LO_SEC.bankOf req.code) + s.getF (Reg.SYS_TXN_AT_SEC_HI_SEC.bankOf req.code) * 2 ^ 32) * nsPerS + s.getF (Reg.SYS_TXN_AT_NS_NS.bankOf req.code))) = false →
    exec (.txnCommitAtTime req tag) s = .next (t.setTxn tag.toNat { t.txn tag.toNat with state := .armed, trigger := .time ((s.getF (Reg.SYS_TXN_AT_SEC_LO_SEC.bankOf req.code) + s.getF (Reg.SYS_TXN_AT_SEC_HI_SEC.bankOf req.code) * 2 ^ 32) * nsPerS + s.getF (Reg.SYS_TXN_AT_NS_NS.bankOf req.code)), late := decide (((s.getF (Reg.SYS_TXN_AT_SEC_LO_SEC.bankOf req.code) + s.getF (Reg.SYS_TXN_AT_SEC_HI_SEC.bankOf req.code) * 2 ^ 32) * nsPerS + s.getF (Reg.SYS_TXN_AT_NS_NS.bankOf req.code)) ≤ s.ns0) })) ∧
  -- TXN_COMMIT_AT_INTERVAL
  (∀ (s : State) (req : Req) (tag : BitVec 3) (interval : BitVec 3) (n : Nat) (t : State),
    s.refusal req 0x00 0x208 .b4 true = none → s.owns req tag.toNat = true → (s.txn tag.toNat).state = .opened →
    (s.answer 0).acceptRefused (s.txn tag.toNat).staged = (t, none) →
    (t.setTxn tag.toNat { t.txn tag.toNat with state := .armed, trigger := .interval ((s.utcNs / n + 1) * n), late := false }).triggered (.interval ((s.utcNs / n + 1) * n)) = false →
    ivlNs interval.toNat = some n →
    exec (.txnCommitAtInterval req tag interval) s = .next (t.setTxn tag.toNat { t.txn tag.toNat with state := .armed, trigger := .interval ((s.utcNs / n + 1) * n), late := false })) ∧
  -- TXN_COMMIT_AT_BEACON
  (∀ (s : State) (req : Req) (tag : BitVec 3) (port : BitVec 4) (n : Nat) (t : State),
    s.refusal req 0x00 0x208 .b4 true = none → s.owns req tag.toNat = true → (s.txn tag.toNat).state = .opened →
    (s.answer 0).acceptRefused (s.txn tag.toNat).staged = (t, none) →
    (t.setTxn tag.toNat { t.txn tag.toNat with state := .armed, trigger := .beacon port.toNat n, late := false }).triggered (.beacon port.toNat n) = false →
    s.nextBeacon port.toNat = some n →
    exec (.txnCommitAtBeacon req tag port) s = .next (t.setTxn tag.toNat { t.txn tag.toNat with state := .armed, trigger := .beacon port.toNat n, late := false })) ∧
  -- TXN_COMMIT_AT_CYCLE
  (∀ (s : State) (req : Req) (tag : BitVec 3) (t : State),
    s.refusal req 0x00 0x208 .b4 true = none → s.owns req tag.toNat = true → (s.txn tag.toNat).state = .opened →
    (s.answer 0).acceptRefused (s.txn tag.toNat).staged = (t, none) →
    (t.setTxn tag.toNat { t.txn tag.toNat with state := .armed, trigger := .cycle (s.getF Reg.TIME_TB4_CNT_CYCLES), late := false }).triggered (.cycle (s.getF Reg.TIME_TB4_CNT_CYCLES)) = false →
    exec (.txnCommitAtCycle req tag) s = .next (t.setTxn tag.toNat { t.txn tag.toNat with state := .armed, trigger := .cycle (s.getF Reg.TIME_TB4_CNT_CYCLES), late := false })) ∧
  -- TXN_ABORT
  (∀ (s : State) (req : Req) (tag : BitVec 3),
    Takes s req (0x00) (0x20C) → s.owns req tag.toNat = true → ((s.txn tag.toNat).state = .opened ∨ (s.txn tag.toNat).state = .armed) →
    exec (.txnAbort req tag) s = .next ((s.answer 0).rollBack tag.toNat 1 0)) ∧
  -- TXN_TIMEOUT
  (∀ (s : State) (tag : BitVec 3),
    (s.txn tag.toNat).state = .opened → (s.txn tag.toNat).deadline ≤ s.tb1 →
    exec (.txnTimeout tag) s = .next ((s.err 0 Err.txnTimeout tag.toNat).rollBack tag.toNat 2 0)) ∧
  -- TXN_TRIGGER
  (∀ (s : State) (tag : BitVec 3) (tags : List Nat) (l : List (Field × Nat)),
    (s.txn tag.toNat).state = .armed → s.triggered (s.txn tag.toNat).trigger = true → tags = s.tagsWith tag.toNat →
    (tags.all (fun n => (s.tagRefused n).isNone)) = true → tags ≠ [] → l = tags.flatMap (fun n => (s.txn n).staged) → s.setRefused l = none →
    (s.ordersSet l = false ∨ s.hasCredit 0x80 = true) →
    exec (.txnTrigger tag) s = .next ((tags.foldl (fun v n => v.setTxn n { v.txn n with state := .committing }) s).commitSet l)) ∧
  -- TXN_SWITCHED
  (∀ (s : State) (tag : BitVec 3),
    (s.txn tag.toNat).state = .committing →
    exec (.txnSwitched tag) s = .next (s.endTxn tag.toNat { s.txn tag.toNat with state := .committed } 1)) ∧
  -- S_FIELD_WRITE
  (∀ (s : State) (req : Req) (page : BitVec 8) (off : BitVec 12) (data : Word),
    Takes s req (page.toNat) (off.toNat) → ((s.answer 0).sFieldsAt page.toNat off.toNat).isEmpty = false →
    (((s.answer 0).sFieldsAt page.toNat off.toNat).any (fun f => !f.takes (f.part data.toNat)) = false) →
    exec (.sFieldWrite req page off data) s = .next ((((s.answer 0).sFieldsAt page.toNat off.toNat).foldl (fun t f => t.setF f (f.part data.toNat)) (s.answer 0)).setF (shadowRegs page.toNat ((off.toNat - 0x100) / 0x40)).wrGen ((((s.answer 0).sFieldsAt page.toNat off.toNat).foldl (fun t f => t.setF f (f.part data.toNat)) (s.answer 0)).getF (shadowRegs page.toNat ((off.toNat - 0x100) / 0x40)).gen + 1))) ∧
  -- SHADOW_ARM
  (∀ (s : State) (req : Req) (page : BitVec 8) (chan : Fin 16),
    Takes s req (page.toNat) ((shadowRegs page.toNat chan.val).arm.off) → ((blockFields page.toNat).any (fun f => f.txn == .s) = true) →
    exec (.shadowArm req page chan) s = .next ((s.answer 0).setF (shadowRegs page.toNat chan.val).arm 1))

/-- Where a frame, a search, a verdict or an item waits for it and the blocks and credits it needs are there, PARSE_FRAME passes a frame that it can read on to the lookup queue; DIR_LOOKUP looks it up, and a hit goes to Funnel with its meter index; OVERFLOW_SEARCH ends the search that waits; FUNNEL_ORDER gives a frame or an ordered item the next order number; ORDER_BASE_LOAD loads the order number while Funnel is disabled; RECORD_PREFETCH loads a lane window and keeps the copy; CLEAVER_DECRYPT decrypts a frame whose key it has, for its lane, and ends one without a key as NO_KEY; TAG_VERDICT sends the verdict to Ladle; FRAME_RERUN sends a held frame to its lane again. Each equation gives the whole next state. -/
def Obligations.FramePathCommandsComplete : Prop :=
  -- PARSE_FRAME
  (∀ (s : State) (port : Fin 10) (f : Frame) (p : Parsed),
    s.domOn .fabric = true → s.hasCredit 0xA0 = true → port.val < 8 → (s.queue (portQ port.val)).items.head? = some ⟨.frame f, 0⟩ →
    tooLong f.raw = false → parseFrame f.raw = some p →
    exec (.parseFrame port 0) s = .next ((s.popped (portQ port.val)).enq 0xA0 { body := .frame { f with fmt := p.fmt, mid := p.mid, ivc := p.ivc } })) ∧
  (∀ (s : State) (f : Frame) (p : Parsed) (n : Nat) (last : Bool) (u : State),
    s.domOn .fabric = true → s.hasCredit 0xA0 = true → s.path.toParse.find? (fun x => x.1 == 8) = some (n, f, last) →
    tooLong f.raw = false → parseFrame f.raw = some p → u = { s with path := { s.path with toParse := s.path.toParse.erase (8, f, last) } } →
    exec (.parseFrame 8 0) s = .next ((if last then u.creditBack (portQ 8) else u).enq 0xA0 { body := .frame { f with fmt := p.fmt, mid := p.mid, ivc := p.ivc } })) ∧
  (∀ (s : State) (f : Frame) (p : Parsed) (n : Nat) (last : Bool) (u : State),
    s.domOn .fabric = true → s.hasCredit 0xA0 = true → s.path.toParse.find? (fun x => x.1 == 9) = some (n, f, last) →
    tooLong f.raw = false → parseFrame f.raw = some p → u = { s with path := { s.path with toParse := s.path.toParse.erase (9, f, last) } } →
    exec (.parseFrame 9 0) s = .next ((if last then u.creditBack (portQ 9) else u).enq 0xA0 { body := .frame { f with fmt := p.fmt, mid := p.mid, ivc := p.ivc } })) ∧
  -- DIR_LOOKUP
  (∀ (s : State) (f : Frame) (t u : State) (a : Nat),
    s.flag Reg.DIR_CTRL_ENABLE = true → s.domOn .mem = true → s.dir.search = none → s.hasCredit 0x80 = true → s.dir.parked.length < 16 →
    s.dir.released = [] → s.commandTurn = false → (s.queue 0xA0).items.head? = some ⟨.frame f, 0⟩ →
    t = { s.popped 0xA0 with dir := { s.dir with turn := 1 } } → t.locked? 0 (t.idBucket 0 f.mid) = false →
    u = (t.set2 Reg.DIR_LOOKUPS_LO_CNT Reg.DIR_LOOKUPS_HI_CNT (min (t.get2 Reg.DIR_LOOKUPS_LO_CNT Reg.DIR_LOOKUPS_HI_CNT + 1) (2 ^ 48 - 1))).readBucket 0 (t.idBucket 0 f.mid) →
    u.dirBucket f.mid = .found a →
    exec (.dirLookup 0) s = .next (u.enq 0x80 { body := .frame { f with meter := u.entryIndex a } })) ∧
  (∀ (s : State) (f : Frame) (r : List Parked) (t u : State) (a : Nat),
    s.flag Reg.DIR_CTRL_ENABLE = true → s.domOn .mem = true → s.dir.search = none → s.hasCredit 0x80 = true → s.dir.parked.length < 16 →
    s.dir.released = .lookup f :: r → t = { s with dir := { s.dir with released := r } } → t.locked? 0 (t.idBucket 0 f.mid) = false →
    u = (t.set2 Reg.DIR_LOOKUPS_LO_CNT Reg.DIR_LOOKUPS_HI_CNT (min (t.get2 Reg.DIR_LOOKUPS_LO_CNT Reg.DIR_LOOKUPS_HI_CNT + 1) (2 ^ 48 - 1))).readBucket 0 (t.idBucket 0 f.mid) →
    u.dirBucket f.mid = .found a →
    exec (.dirLookup 0) s = .next (u.enq 0x80 { body := .frame { f with meter := u.entryIndex a } })) ∧
  -- OVERFLOW_SEARCH
  (∀ (s : State) (f : Frame) (t : State) (a : Nat),
    s.dir.search = some f → s.hasCredit 0x80 = true → ({ s with dir := { s.dir with search := none } } : State).dirSearch f.mid = (t, some a) →
    exec .overflowSearch s = .next (t.enq 0x80 { body := .frame { f with meter := t.entryIndex a } })) ∧
  (∀ (s : State) (f : Frame) (t : State),
    s.dir.search = some f → s.hasCredit 0x80 = true → ({ s with dir := { s.dir with search := none } } : State).dirSearch f.mid = (t, none) →
    exec .overflowSearch s = .next (t.unknownMeter f)) ∧
  -- FUNNEL_ORDER
  (∀ (s : State) (f : Frame),
    s.bill.token = none → s.panel.due = none → (s.queue 0x80).items.head? = some ⟨.frame f, 0⟩ → s.mayOrder false = true →
    (s.mustHold s.orderNext f = true ∨ s.hasCredit (decryptQ (unitOf (s.laneOf f.meter))) = true) →
    exec (.funnelOrder 0) s = .next ((s.popped 0x80).orderFrame f)) ∧
  (∀ (s : State) (o : Ordered),
    s.bill.token = none → s.panel.due = none → (s.queue 0x80).items.head? = some ⟨.orderedItem o, 0⟩ → s.mayOrder true = true →
    exec (.funnelOrder 0) s = .next ((s.popped 0x80).orderItem o)) ∧
  -- ORDER_BASE_LOAD
  (∀ (s : State) (req : Req) (data : Word) (t u : State),
    TakesA s req Reg.FUNL_ORDER_BASE_HI_LOAD data.toNat → bitAt data.toNat 31 = 1 →
    u = plainly s req Reg.FUNL_ORDER_BASE_HI_LOAD data.toNat → u.flag Reg.FUNL_CTRL_ENABLE = false →
    t = u.setOrderNext (u.get2 Reg.FUNL_ORDER_BASE_LO_BASE Reg.FUNL_ORDER_BASE_HI_BASE) →
    exec (.orderBaseLoad req data) s = .next (if (t.flightsWhere (fun _ _ => true)).isEmpty then t.advanceHead else t)) ∧
  -- RECORD_PREFETCH
  (∀ (s : State) (meter : BitVec 20) (copy : Bytes) (u : State),
    s.domOn .mem = true → s.flag Reg.FUNL_CTRL_PREFETCH_EN = true → s.flag Reg.FUNL_CTRL_ENABLE = true → s.recValid meter.toNat = true →
    s.laneState (s.laneOf meter.toNat) = .service → (s.lane (s.laneOf meter.toNat)).running = none →
    s.expectedIn meter.toNat * 1000000 ≤ s.getF Reg.FUNL_PREFETCH_LEAD_US + s.utcNs % nsPerS / 1000 →
    copy = s.read (recordAddr meter.toNat) 1024 → u = s.eccCorrect (recordAddr meter.toNat) 1024 →
    exec (.recordPrefetch meter) s = .next ({ u.loadWindow (s.laneOf meter.toNat) meter.toNat copy with prefetched := sput [] (s.prefetched.filter (fun e => s.laneOf e.1 != s.laneOf meter.toNat)) meter.toNat copy })) ∧
  -- CLEAVER_DECRYPT
  (∀ (s : State) (unit : Fin 4) (k : Nat) (fl : Flight) (t : State),
    bitAt s.unitsReady unit.val = 1 → s.unitRun unit.val = none → s.domOn .mem = true →
    (s.queue (decryptQ unit.val)).items.head? = some ⟨.order k, 0⟩ → s.flight k = some fl → fl.stage = .decrypt → fl.rerun = false →
    s.hasCredit (plainQ fl.lane) = true → t = s.popped (decryptQ unit.val) →
    exec (.cleaverDecrypt unit 0) s = .next (State.release (match t.frameKey fl.frame.meter unit.val with
      | none => (t.setUnitRun unit.val (some { order := k, verdict := .noKey, slot := none })).setFlight k (some { fl with stage := .done })
      | some key => ((({ t.setUnitRun unit.val (some { order := k, verdict := (t.decrypt fl.frame key).2, slot := some (t.kekOf fl.frame.meter) }) with prefetched := sput [] t.prefetched fl.frame.meter [] } : State).enq (plainQ fl.lane) { body := .order k }).setFlight k (some { fl with stage := .lane, plain := (t.decrypt fl.frame key).1, arrived := 0, poisonWords := [], copy := sget [] t.prefetched fl.frame.meter }))))) ∧
  -- TAG_VERDICT
  (∀ (s : State) (unit : Fin 4) (r : CleaverRun) (v : TagVerdict) (t : State) (fl : Flight),
    s.unitRun unit.val = some r → s.hasCredit 0x89 = true → v = (if r.revoked then .revoked else r.verdict) →
    t = (s.setUnitRun unit.val none).countTag v → t.flight r.order = some fl → fl.rerun = false → (fl.tagV = none ∨ v = .poison ∨ v = .revoked ∨ v = .noKey) →
    exec (.tagVerdict unit) s = .next (t.enq 0x89 { body := .tag r.order v })) ∧
  -- FRAME_RERUN
  (∀ (s : State) (order : BitVec 48) (fl : Flight),
    s.domOn .mem = true → s.flight order.toNat = some fl → fl.rerun = true → fl.stage = .held → s.mustHold order.toNat fl.frame = false →
    s.hasCredit (decryptQ (unitOf (s.laneOf fl.frame.meter))) = true → s.anyBad (replayAddr order.toNat) fl.frame.raw.length = false →
    exec (.frameRerun order) s = .next (((s.eccCorrect (replayAddr order.toNat) fl.frame.raw.length).toDecrypt order.toNat fl).count Reg.FUNL_REPLAY_CNT_CNT).release)

/-- LANE_FRAME_START starts the frame at the front of the plaintext queue; PLAINTEXT_WORD_ARRIVE takes one word more, and the lane goes on once the byte that it waits for is there, or drops a word of a frame that has left; LANE_RV32_INSTRUCTION runs the word at the pc; EFFECT_STALL_RESUME clears the stall; CYCLE_LIMIT quarantines the frame. Each equation gives the whole next state. -/
def Obligations.LaneCommandsComplete : Prop :=
  -- LANE_FRAME_START
  (∀ (s : State) (lane : Fin 32) (k n : Nat) (fl : Flight) (v u : State),
    (s.queue (plainQ lane.val)).items.head? = some ⟨.order k, n⟩ → s.flight k = some fl → s.domOn .fabric = true → s.domOn .mem = true → s.laneState lane.val = .service →
    (s.lane lane.val).running = none → fl.stage = .lane → s.slotFree k fl = true →
    v = (if fl.copy.isEmpty then s.eccCorrect (recordAddr fl.frame.meter) 1024 else s) → u = (v.takeSlot k fl).setFlight k (some { fl with slot := true, stage := .running, arrived := max fl.arrived fl.ptOff }) →
    exec (.laneFrameStart lane) s = .next ((let t := (u.loadWindow lane.val fl.frame.meter (if fl.copy.isEmpty then u.read (recordAddr fl.frame.meter) 1024 else fl.copy)).setF (Reg.LANE_STAT_BANK lane.val) fl.frame.bank; t.setLane lane.val ((t.lane lane.val).start k fl.frame.raw.length fl.frame.fmt t.tb1)))) ∧
  -- PLAINTEXT_WORD_ARRIVE
  (∀ (s : State) (lane : Fin 32) (t : State),
    s.dropWord lane.val = some t → exec (.plaintextWordArrive lane false) s = .next t) ∧
  (∀ (s : State) (lane : Fin 32) (k : Nat) (fl : Flight),
    s.dropWord lane.val = none → s.arriving lane.val = some (k, fl) → fl.stage ≠ .done →
    ((s.lane lane.val).running ≠ some k ∨ (s.lane lane.val).stalled = true ∨ min fl.plain.length (4 * (fl.arrived / 4) + 4) < min (s.lane lane.val).need fl.plain.length) →
    exec (.plaintextWordArrive lane false) s = .next (s.setFlight k (some { fl with arrived := min fl.plain.length (4 * (fl.arrived / 4) + 4) }))) ∧
  (∀ (s : State) (lane : Fin 32) (k : Nat) (fl : Flight) (t : State),
    s.dropWord lane.val = none → s.arriving lane.val = some (k, fl) → fl.stage ≠ .done → (s.lane lane.val).running = some k → (s.lane lane.val).stalled = false →
    min (s.lane lane.val).need fl.plain.length ≤ min fl.plain.length (4 * (fl.arrived / 4) + 4) →
    t = s.setFlight k (some { fl with arrived := min fl.plain.length (4 * (fl.arrived / 4) + 4) }) →
    exec (.plaintextWordArrive lane false) s = .next (t.setLane lane.val ((t.lane lane.val).goOn t.tb1))) ∧
  (∀ (s : State) (lane : Fin 32) (k : Nat) (fl : Flight),
    s.dropWord lane.val = none → s.arriving lane.val = some (k, fl) → fl.stage ≠ .done → (s.lane lane.val).running ≠ some k →
    exec (.plaintextWordArrive lane true) s = .next ((s.setFlight k (some { fl with arrived := min fl.plain.length (4 * (fl.arrived / 4) + 4), poisonWords := fl.poisonWords ++ [fl.arrived / 4] })).poisoned (plainQ lane.val))) ∧
  -- LANE_RV32_INSTRUCTION
  (∀ (s : State) (lane : Fin 32) (k : Nat) (fl : Flight) (w : Nat) (rd imm : Nat),
    s.laneReady lane.val = some (k, fl) → s.laneFetch lane.val (s.lane lane.val).pc = some w → decodeRv w = .lui rd imm →
    exec (.laneRv32Instruction lane) s = .next (s.laneDone lane.val rd imm ((Rv.lui rd imm).cycles false))) ∧
  (∀ (s : State) (lane : Fin 32) (k : Nat) (fl : Flight) (w : Nat) (rd imm : Nat),
    s.laneReady lane.val = some (k, fl) → s.laneFetch lane.val (s.lane lane.val).pc = some w → decodeRv w = .auipc rd imm →
    exec (.laneRv32Instruction lane) s = .next (s.laneDone lane.val rd ((s.lane lane.val).pc + imm) ((Rv.auipc rd imm).cycles false))) ∧
  (∀ (s : State) (lane : Fin 32) (k : Nat) (fl : Flight) (w : Nat) (rd imm : Nat),
    s.laneReady lane.val = some (k, fl) → s.laneFetch lane.val (s.lane lane.val).pc = some w → decodeRv w = .jal rd imm →
    ((s.lane lane.val).pc + imm) % 2 ^ 32 % 4 = 0 →
    exec (.laneRv32Instruction lane) s = .next (s.setLane lane.val (((s.lane lane.val).put rd ((s.lane lane.val).pc + 4)).retire ((Rv.jal rd imm).cycles false) (((s.lane lane.val).pc + imm) % 2 ^ 32) s.tb1))) ∧
  (∀ (s : State) (lane : Fin 32) (k : Nat) (fl : Flight) (w : Nat) (f3 rs1 rs2 imm : Nat),
    s.laneReady lane.val = some (k, fl) → s.laneFetch lane.val (s.lane lane.val).pc = some w → decodeRv w = .branch f3 rs1 rs2 imm →
    branchTaken f3 ((s.lane lane.val).get rs1) ((s.lane lane.val).get rs2) = false →
    exec (.laneRv32Instruction lane) s = .next (s.laneDone lane.val 0 0 ((Rv.branch f3 rs1 rs2 imm).cycles false))) ∧
  (∀ (s : State) (lane : Fin 32) (k : Nat) (fl : Flight) (w : Nat) (f3 rd rs1 imm : Nat) (bs : Bytes),
    s.laneReady lane.val = some (k, fl) → s.laneFetch lane.val (s.lane lane.val).pc = some w → decodeRv w = .load f3 rd rs1 imm →
    ((s.lane lane.val).get rs1 + imm) % 2 ^ 32 % loadSize f3 = 0 →
    s.laneLoad lane.val fl (((s.lane lane.val).get rs1 + imm) % 2 ^ 32) (loadSize f3) = .ok bs →
    exec (.laneRv32Instruction lane) s = .next (s.laneDone lane.val rd (loadValue f3 bs) ((Rv.load f3 rd rs1 imm).cycles false))) ∧
  (∀ (s : State) (lane : Fin 32) (k : Nat) (fl : Flight) (w : Nat) (f3 rs1 rs2 imm : Nat),
    s.laneReady lane.val = some (k, fl) → s.laneFetch lane.val (s.lane lane.val).pc = some w → decodeRv w = .store f3 rs1 rs2 imm →
    ((s.lane lane.val).get rs1 + imm) % 2 ^ 32 % 2 ^ f3 = 0 → 0x18000 ≤ ((s.lane lane.val).get rs1 + imm) % 2 ^ 32 →
    ((s.lane lane.val).get rs1 + imm) % 2 ^ 32 + 2 ^ f3 ≤ 0x20000 →
    exec (.laneRv32Instruction lane) s = .next ((s.laneStore lane.val (((s.lane lane.val).get rs1 + imm) % 2 ^ 32) (leBytes (2 ^ f3) ((s.lane lane.val).get rs2))).laneDone lane.val 0 0 ((Rv.store f3 rs1 rs2 imm).cycles false))) ∧
  (∀ (s : State) (lane : Fin 32) (k : Nat) (fl : Flight) (w : Nat) (f3 : Nat) (alt : Bool) (rd rs1 imm : Nat),
    s.laneReady lane.val = some (k, fl) → s.laneFetch lane.val (s.lane lane.val).pc = some w → decodeRv w = .opImm f3 alt rd rs1 imm →
    exec (.laneRv32Instruction lane) s = .next (s.laneDone lane.val rd (alu f3 alt ((s.lane lane.val).get rs1) imm) ((Rv.opImm f3 alt rd rs1 imm).cycles false))) ∧
  (∀ (s : State) (lane : Fin 32) (k : Nat) (fl : Flight) (w : Nat) (f3 : Nat) (alt : Bool) (rd rs1 rs2 : Nat),
    s.laneReady lane.val = some (k, fl) → s.laneFetch lane.val (s.lane lane.val).pc = some w → decodeRv w = .op f3 alt rd rs1 rs2 →
    exec (.laneRv32Instruction lane) s = .next (s.laneDone lane.val rd (alu f3 alt ((s.lane lane.val).get rs1) ((s.lane lane.val).get rs2)) ((Rv.op f3 alt rd rs1 rs2).cycles false))) ∧
  (∀ (s : State) (lane : Fin 32) (k : Nat) (fl : Flight) (w : Nat) (f3 rd rs1 rs2 : Nat),
    s.laneReady lane.val = some (k, fl) → s.laneFetch lane.val (s.lane lane.val).pc = some w → decodeRv w = .mulDiv f3 rd rs1 rs2 →
    exec (.laneRv32Instruction lane) s = .next (s.laneDone lane.val rd (mulDiv f3 ((s.lane lane.val).get rs1) ((s.lane lane.val).get rs2)) ((Rv.mulDiv f3 rd rs1 rs2).cycles false))) ∧
  (∀ (s : State) (lane : Fin 32) (k : Nat) (fl : Flight) (w rd rs1 imm a : Nat),
    s.laneReady lane.val = some (k, fl) → s.laneFetch lane.val (s.lane lane.val).pc = some w → decodeRv w = .jalr rd rs1 imm →
    a = ((s.lane lane.val).get rs1 + imm) % 2 ^ 32 / 2 * 2 → a % 4 = 0 →
    exec (.laneRv32Instruction lane) s = .next (s.setLane lane.val (((s.lane lane.val).put rd ((s.lane lane.val).pc + 4)).retire ((Rv.jalr rd rs1 imm).cycles false) a s.tb1))) ∧
  (∀ (s : State) (lane : Fin 32) (k : Nat) (fl : Flight) (w f3 rs1 rs2 imm a : Nat),
    s.laneReady lane.val = some (k, fl) → s.laneFetch lane.val (s.lane lane.val).pc = some w → decodeRv w = .branch f3 rs1 rs2 imm →
    branchTaken f3 ((s.lane lane.val).get rs1) ((s.lane lane.val).get rs2) = true → a = ((s.lane lane.val).pc + imm) % 2 ^ 32 → a % 4 = 0 →
    exec (.laneRv32Instruction lane) s = .next (s.setLane lane.val (((s.lane lane.val).put 0 0).retire ((Rv.branch f3 rs1 rs2 imm).cycles true) a s.tb1))) ∧
  (∀ (s : State) (lane : Fin 32) (k : Nat) (fl : Flight) (w rd csr : Nat),
    s.laneReady lane.val = some (k, fl) → s.laneFetch lane.val (s.lane lane.val).pc = some w → decodeRv w = .csrRead rd csr →
    exec (.laneRv32Instruction lane) s = .next (s.laneDone lane.val rd (csrValue k fl csr) ((Rv.csrRead rd csr).cycles false))) ∧
  (∀ (s : State) (lane : Fin 32) (k : Nat) (fl : Flight) (w : Nat),
    s.laneReady lane.val = some (k, fl) → s.laneFetch lane.val (s.lane lane.val).pc = some w → decodeRv w = .fence →
    exec (.laneRv32Instruction lane) s = .next (s.laneDone lane.val 0 0 (Rv.fence.cycles false))) ∧
  -- EFFECT_STALL_RESUME
  (∀ (s : State) (lane : Fin 32),
    (s.lane lane.val).stalled = true → (s.lane lane.val).effects.length < 256 →
    exec (.effectStallResume lane) s = .next (s.setLane lane.val { (s.lane lane.val).goOn s.tb1 with stalled := false })) ∧
  -- CYCLE_LIMIT
  (∀ (s : State) (lane : Fin 32) (k : Nat),
    (s.lane lane.val).running = some k → s.getF Reg.SIEV_FRAME_CYCLE_LIMIT_CYCLES ≤ (s.lane lane.val).cycles → s.laneState lane.val = .service →
    exec (.cycleLimit lane) s = .next (s.hwQuarantine lane.val k Reason.cycleLimit (s.lane lane.val).lastPc))

/-- Each custom instruction at the pc of a running lane completes: the frame bytes it reads have arrived and are sound, and the equation gives the whole next state: AXLEN, TARIFF, CDATE and LDBE write rd, EWR, EADD, EMAX, EEVT and EBAL append an effect, VERD ends the frame. -/
def Obligations.SieveInstructionsComplete : Prop :=
  -- SV_AXLEN
  (∀ (s : State) (lane : Fin 32) (k : Nat) (fl : Flight) (rd rs1 : Nat) (b0 : Bytes),
    s.atSieve lane.val = some (k, fl, .axlen rd rs1) → s.frameLoad lane.val fl ((s.lane lane.val).get rs1) 1 = .ok b0 →
    axdrExtra (beNat b0) = some 0 →
    exec (.svAxlen lane) s = .next (s.laneDone lane.val rd (1 * 2 ^ 16 + beNat b0) 3)) ∧
  (∀ (s : State) (lane : Fin 32) (k : Nat) (fl : Flight) (rd rs1 x : Nat) (b0 bs : Bytes),
    s.atSieve lane.val = some (k, fl, .axlen rd rs1) → s.frameLoad lane.val fl ((s.lane lane.val).get rs1) 1 = .ok b0 →
    axdrExtra (beNat b0) = some x → x ≠ 0 → s.frameLoad lane.val fl ((s.lane lane.val).get rs1) (1 + x) = .ok bs →
    exec (.svAxlen lane) s = .next (s.laneDone lane.val rd ((1 + x) * 2 ^ 16 + beNat (bs.drop 1)) 3)) ∧
  -- SV_TARIFF
  (∀ (s : State) (lane : Fin 32) (k : Nat) (fl : Flight) (rd rs1 : Nat),
    s.atSieve lane.val = some (k, fl, .tariff rd rs1) →
    exec (.svTariff lane) s = .next (s.laneDone lane.val rd (if bitAt (s.readNat (aperture lane.val + 0x8000 + 0x100) 4) 6 = 0 then calNone else s.calResolve ((s.lane lane.val).get rs1) (bitsOf (s.readNat (aperture lane.val + 0x8000 + 0x100) 4) 5 0) (s.genOf fl.frame.calgen)) 40)) ∧
  -- SV_CDATE
  (∀ (s : State) (lane : Fin 32) (k : Nat) (fl : Flight) (rd rs1 rs2 : Nat) (bs : Bytes),
    s.atSieve lane.val = some (k, fl, .cdate rd rs1 rs2) → s.frameLoad lane.val fl ((s.lane lane.val).get rs1) 12 = .ok bs →
    exec (.svCdate lane) s = .next (s.laneDone lane.val rd (cosemUtc (s.genOf fl.frame.calgen) bs (bitAt ((s.lane lane.val).get rs2) 0 == 1)) 40)) ∧
  -- SV_EEVT
  (∀ (s : State) (lane : Fin 32) (k : Nat) (fl : Flight) (rs1 rs2 : Nat),
    s.atSieve lane.val = some (k, fl, .eevt rs1 rs2) → ((s.lane lane.val).effectsOf k).length < 64 → (s.lane lane.val).effects.length < 256 →
    exec (.svEevt lane) s = .next (((s.setLaneFx lane.val { s.lane lane.val with effects := (s.lane lane.val).effects ++ [⟨k, 5, 0, 0, (s.lane lane.val).get rs1 % 2 ^ 16, (s.lane lane.val).get rs2, 0⟩] }).applyEffect (aperture lane.val + 0x8000) ⟨k, 5, 0, 0, (s.lane lane.val).get rs1 % 2 ^ 16, (s.lane lane.val).get rs2, 0⟩).laneDone lane.val 0 0 2)) ∧
  -- SV_VERD
  (∀ (s : State) (lane : Fin 32) (k : Nat) (fl : Flight) (rs1 : Nat) (v : LaneVerdict),
    s.atSieve lane.val = some (k, fl, .verd rs1) → verdictOf ((s.lane lane.val).get rs1) = some v →
    (s.lane lane.val).cycles + 1 < s.getF Reg.SIEV_FRAME_CYCLE_LIMIT_CYCLES →
    exec (.svVerd lane) s = .next ((s.setLane lane.val ((s.lane lane.val).retire 1 (s.lane lane.val).pc s.tb1)).endFrame lane.val k v)) ∧
  -- SV_LDBE_H
  (∀ (s : State) (lane : Fin 32) (k : Nat) (fl : Flight) (rd rs1 imm : Nat) (bs : Bytes),
    s.atSieve lane.val = some (k, fl, .ldbeH rd rs1 imm) → s.laneLoad lane.val fl (((s.lane lane.val).get rs1 + imm) % 2 ^ 32) 2 = .ok bs →
    exec (.svLdbeH lane) s = .next (s.laneDone lane.val rd (beNat bs) 2)) ∧
  -- SV_LDBE_W
  (∀ (s : State) (lane : Fin 32) (k : Nat) (fl : Flight) (rd rs1 imm : Nat) (bs : Bytes),
    s.atSieve lane.val = some (k, fl, .ldbeW rd rs1 imm) → s.laneLoad lane.val fl (((s.lane lane.val).get rs1 + imm) % 2 ^ 32) 4 = .ok bs →
    exec (.svLdbeW lane) s = .next (s.laneDone lane.val rd (beNat bs) 2)) ∧
  -- SV_EWR
  (∀ (s : State) (lane : Fin 32) (k : Nat) (fl : Flight) (rs1 rs2 imm : Nat),
    s.atSieve lane.val = some (k, fl, .ewr rs1 rs2 imm) → ((s.lane lane.val).effectsOf k).length < 64 → (s.lane lane.val).effects.length < 256 →
    ((s.lane lane.val).get rs1 + imm) % 2 ^ 32 ≤ 0x3FF → ((s.lane lane.val).get rs1 + imm) % 2 ^ 32 % 4 = 0 →
    s.wmaskDenies (((s.lane lane.val).get rs1 + imm) % 2 ^ 32) = false →
    exec (.svEwr lane) s = .next (((s.setLaneFx lane.val { s.lane lane.val with effects := (s.lane lane.val).effects ++ [⟨k, 1, 0, ((s.lane lane.val).get rs1 + imm) % 2 ^ 32, (s.lane lane.val).get rs2, 0, 0⟩] }).applyEffect (aperture lane.val + 0x8000) ⟨k, 1, 0, ((s.lane lane.val).get rs1 + imm) % 2 ^ 32, (s.lane lane.val).get rs2, 0, 0⟩).laneDone lane.val 0 0 2)) ∧
  -- SV_EADD
  (∀ (s : State) (lane : Fin 32) (k : Nat) (fl : Flight) (rs1 rs2 rs3 : Nat),
    s.atSieve lane.val = some (k, fl, .eadd rs1 rs2 rs3) → ((s.lane lane.val).effectsOf k).length < 64 → (s.lane lane.val).effects.length < 256 →
    (s.lane lane.val).get rs1 ≤ 0x3FF → (s.lane lane.val).get rs1 % 8 = 0 → s.wmaskDenies ((s.lane lane.val).get rs1) = false →
    exec (.svEadd lane) s = .next (((s.setLaneFx lane.val { s.lane lane.val with effects := (s.lane lane.val).effects ++ [⟨k, 2, 0, (s.lane lane.val).get rs1, (s.lane lane.val).get rs2, (s.lane lane.val).get rs3, 0⟩] }).applyEffect (aperture lane.val + 0x8000) ⟨k, 2, 0, (s.lane lane.val).get rs1, (s.lane lane.val).get rs2, (s.lane lane.val).get rs3, 0⟩).laneDone lane.val 0 0 2)) ∧
  -- SV_EMAX
  (∀ (s : State) (lane : Fin 32) (k : Nat) (fl : Flight) (rs1 rs2 rs3 : Nat),
    s.atSieve lane.val = some (k, fl, .emax rs1 rs2 rs3) → ((s.lane lane.val).effectsOf k).length < 64 → (s.lane lane.val).effects.length < 256 →
    (s.lane lane.val).get rs1 ≤ 0x3FF → (s.lane lane.val).get rs1 % 8 = 0 → s.wmaskDenies ((s.lane lane.val).get rs1) = false →
    exec (.svEmax lane) s = .next (((s.setLaneFx lane.val { s.lane lane.val with effects := (s.lane lane.val).effects ++ [⟨k, 3, 0, (s.lane lane.val).get rs1, (s.lane lane.val).get rs2, (s.lane lane.val).get rs3, 0⟩] }).applyEffect (aperture lane.val + 0x8000) ⟨k, 3, 0, (s.lane lane.val).get rs1, (s.lane lane.val).get rs2, (s.lane lane.val).get rs3, 0⟩).laneDone lane.val 0 0 2)) ∧
  -- SV_EBAL_IMP
  (∀ (s : State) (lane : Fin 32) (k : Nat) (fl : Flight) (rs1 rs2 rs3 : Nat),
    s.atSieve lane.val = some (k, fl, .ebalImp rs1 rs2 rs3) → ((s.lane lane.val).effectsOf k).length < 64 → (s.lane lane.val).effects.length < 256 →
    exec (.svEbalImp lane) s = .next (((s.setLaneFx lane.val { s.lane lane.val with effects := (s.lane lane.val).effects ++ [⟨k, 4, 0, 0, (s.lane lane.val).get rs1, (s.lane lane.val).get rs2, (s.lane lane.val).get rs3⟩] }).applyEffect (aperture lane.val + 0x8000) ⟨k, 4, 0, 0, (s.lane lane.val).get rs1, (s.lane lane.val).get rs2, (s.lane lane.val).get rs3⟩).laneDone lane.val 0 0 2)) ∧
  -- SV_EBAL_EXP
  (∀ (s : State) (lane : Fin 32) (k : Nat) (fl : Flight) (rs1 rs2 rs3 : Nat),
    s.atSieve lane.val = some (k, fl, .ebalExp rs1 rs2 rs3) → ((s.lane lane.val).effectsOf k).length < 64 → (s.lane lane.val).effects.length < 256 →
    exec (.svEbalExp lane) s = .next (((s.setLaneFx lane.val { s.lane lane.val with effects := (s.lane lane.val).effects ++ [⟨k, 4, 1, 0, (s.lane lane.val).get rs1, (s.lane lane.val).get rs2, (s.lane lane.val).get rs3⟩] }).applyEffect (aperture lane.val + 0x8000) ⟨k, 4, 1, 0, (s.lane lane.val).get rs1, (s.lane lane.val).get rs2, (s.lane lane.val).get rs3⟩).laneDone lane.val 0 0 2)) ∧
  -- SV_EBAL_VOLT
  (∀ (s : State) (lane : Fin 32) (k : Nat) (fl : Flight) (rs1 rs2 rs3 : Nat),
    s.atSieve lane.val = some (k, fl, .ebalVolt rs1 rs2 rs3) → ((s.lane lane.val).effectsOf k).length < 64 →
    (s.lane lane.val).effects.length < 256 →
    exec (.svEbalVolt lane) s = .next (((s.setLaneFx lane.val { s.lane lane.val with effects := (s.lane lane.val).effects ++ [⟨k, 4, 2, 0, (s.lane lane.val).get rs1, (s.lane lane.val).get rs2, 0⟩] }).applyEffect (aperture lane.val + 0x8000) ⟨k, 4, 2, 0, (s.lane lane.val).get rs1, (s.lane lane.val).get rs2, 0⟩).laneDone lane.val 0 0 2))

/-- LANE_KAT, LANE_WATCHDOG, LANE_FENCE, LANE_UNFENCE, LANE_SELFTEST_DONE, LANE_ENTER_SERVICE, LANE_TO_MAINT, LANE_POWER_ON, LANE_POWER_OFF, APERTURE_WRITE, LANE_SEAL, LANE_SEAL_DONE, LANEMAP_INIT, LANEMAP_MOVE_REQUEST and METER_MOVE each complete. Each equation gives the whole next state. -/
def Obligations.LaneControlCommandsComplete : Prop :=
  -- LANE_KAT
  (∀ (s : State) (lane : Fin 32),
    s.flag Reg.SIEV_CTRL_KAT_EN = true → s.laneState lane.val = .service → (s.lane lane.val).running = none →
    (s.lane lane.val).katAt < katPeriod lane.val s.tb1 →
    exec (.laneKat lane true) s = .next (s.setLane lane.val { s.lane lane.val with katAt := katPeriod lane.val s.tb1 })) ∧
  -- LANE_WATCHDOG
  (∀ (s : State) (lane : Fin 32),
    s.laneState lane.val = .service → (s.lane lane.val).running.isSome = true → (s.lane lane.val).waiting = none →
    (s.lane lane.val).retiredAt + s.getF Reg.SIEV_WDOG_US * 1000 ≤ s.tb1 →
    exec (.laneWatchdog lane) s = .next (s.fenceOut lane.val Cause.wdog 0)) ∧
  -- LANE_FENCE
  (∀ (s : State) (lane : Fin 32) (off : BitVec 17),
    (s.laneState lane.val = .service ∨ s.laneState lane.val = .maint) →
    exec (.laneFence lane (.parity off)) s = .next (s.fenceOut lane.val Cause.parity off.toNat)) ∧
  (∀ (s : State) (req : Req) (lane : Fin 32),
    TakesT s req (Reg.LANE_CTRL_FENCE lane.val) → (s.laneState lane.val = .service ∨ s.laneState lane.val = .maint) →
    exec (.laneFence lane (.software req)) s = .next ((s.answer 0).fenceOut lane.val Cause.software 0)) ∧
  -- LANE_UNFENCE
  (∀ (s : State) (req : Req) (lane : Fin 32),
    TakesT s req (Reg.LANE_CTRL_FENCE lane.val) → s.laneState lane.val = .fenced →
    exec (.laneUnfence req lane) s = .next ((((s.answer 0).setF (Reg.LANE_CTRL_FENCE lane.val) 0).setLaneState lane.val .selftest).unload lane.val)) ∧
  -- LANE_SELFTEST_DONE
  (∀ (s : State) (lane : Fin 32),
    s.laneState lane.val = .selftest →
    exec (.laneSelftestDone lane .passed) s = .next ((s.setLaneState lane.val .maint).lanesReady)) ∧
  -- LANE_ENTER_SERVICE
  (∀ (s : State) (req : Req) (lane : Fin 32),
    TakesT s req (Reg.LANE_CTRL_MAINT lane.val) → s.laneState lane.val = .maint → s.loaded lane.val (s.getF Reg.SIEV_PROG_SWITCH_BANK) = true →
    (s.lanesIn .service).isEmpty = true →
    exec (.laneEnterService req lane) s = .next ((s.answer 0).intoService lane.val (s.getF Reg.SIEV_PROG_SWITCH_BANK))) ∧
  -- LANE_TO_MAINT
  (∀ (s : State) (req : Req) (lane : Fin 32),
    TakesT s req (Reg.LANE_CTRL_MAINT lane.val) → s.laneState lane.val = .service → s.hasGroup lane.val = false → s.laneBusy lane.val = false →
    exec (.laneToMaint req lane) s = .next (((s.answer 0).setLaneState lane.val .maint).setF (Reg.LANE_CTRL_MAINT lane.val) 1)) ∧
  (∀ (s : State) (req : Req) (lane : Fin 32),
    TakesT s req (Reg.LANE_CTRL_MAINT lane.val) → s.laneState lane.val = .service → (s.hasGroup lane.val = true ∨ s.laneBusy lane.val = true) →
    exec (.laneToMaint req lane) s = .next ((s.answer 0).refuseAt req (Reg.LANE_CTRL_MAINT lane.val) 0x0101)) ∧
  -- LANE_POWER_ON
  (∀ (s : State) (lane : Fin 32),
    s.laneState lane.val = .off →
    exec (.lanePowerOn lane) s = .next ((s.setLaneState lane.val .selftest).setF (Reg.LANE_CTRL_MAINT lane.val) 1)) ∧
  -- LANE_POWER_OFF
  (∀ (s : State) (lane : Fin 32),
    (s.laneState lane.val = .maint ∨ s.laneState lane.val = .fenced) →
    exec (.lanePowerOff lane) s = .next (((s.setLaneState lane.val .off).unload lane.val).setF (Reg.LANE_CTRL_MAINT lane.val) 1)) ∧
  (∀ (s : State) (lane : Fin 32),
    s.mode = .tending → s.laneState lane.val = .service → s.keptLanes.contains lane.val = false → s.hasGroup lane.val = false →
    (s.lane lane.val).running = none →
    exec (.lanePowerOff lane) s = .next ((s.setLaneState lane.val .maint).setF (Reg.LANE_CTRL_MAINT lane.val) 1)) ∧
  -- APERTURE_WRITE
  (∀ (s : State) (req : Req) (lane : Fin 32) (off : BitVec 17) (data : Bytes),
    Takes s req (0x40 + lane.val) (0) → 0x18000 ≤ off.toNat →
    exec (.apertureWrite req lane off data) s = .next ((s.answer 0).write (aperture lane.val + off.toNat) data)) ∧
  (∀ (s : State) (req : Req) (lane : Fin 32) (off : BitVec 17) (data : Bytes),
    Takes s req (0x40 + lane.val) (0) → (off.toNat < 0x4000 ∨ 0x10000 ≤ off.toNat ∧ off.toNat < 0x14000) → s.bankInUse lane.val 0 = false →
    exec (.apertureWrite req lane off data) s = .next (((s.answer 0).write (aperture lane.val + off.toNat) data).setF (Reg.LANE_STAT_LOADED_A lane.val) 0)) ∧
  (∀ (s : State) (req : Req) (lane : Fin 32) (off : BitVec 17) (data : Bytes),
    Takes s req (0x40 + lane.val) (0) → (0x4000 ≤ off.toNat ∧ off.toNat < 0x8000 ∨ 0x14000 ≤ off.toNat ∧ off.toNat < 0x18000) →
    s.bankInUse lane.val 1 = false →
    exec (.apertureWrite req lane off data) s = .next (((s.answer 0).write (aperture lane.val + off.toNat) data).setF (Reg.LANE_STAT_LOADED_B lane.val) 0)) ∧
  -- LANE_SEAL
  (∀ (s : State) (req : Req) (lane : Fin 32) (data : Word),
    TakesA s req (Reg.LANE_PROG_CTRL_SEAL lane.val) data.toNat →
    exec (.laneSeal req lane data) s = .next (((plainly s req (Reg.LANE_PROG_CTRL_SEAL lane.val) data.toNat).setF (Reg.LANE_PROG_CTRL_SEAL lane.val) 1).setLane lane.val { (plainly s req (Reg.LANE_PROG_CTRL_SEAL lane.val) data.toNat).lane lane.val with sealing := some ((plainly s req (Reg.LANE_PROG_CTRL_SEAL lane.val) data.toNat).getF (Reg.LANE_PROG_CTRL_BANK lane.val)) })) ∧
  -- LANE_SEAL_DONE
  (∀ (s : State) (lane : Fin 32),
    (s.lane lane.val).sealing = some 0 →
    exec (.laneSealDone lane) s = .next ((((((s.setLane lane.val { s.lane lane.val with sealing := none }).set2 (Reg.LANE_DIGEST_A_LO_DIGEST lane.val) (Reg.LANE_DIGEST_A_HI_DIGEST lane.val) (shake64 (s.bankBytes lane.val 0))).setF (Reg.LANE_STAT_LOADED_A lane.val) 1).setF (Reg.LANE_PROG_CTRL_SEAL lane.val) 0).irq (Reg.LANE_IRQ_SEALED lane.val)))) ∧
  (∀ (s : State) (lane : Fin 32),
    (s.lane lane.val).sealing = some 1 →
    exec (.laneSealDone lane) s = .next ((((((s.setLane lane.val { s.lane lane.val with sealing := none }).set2 (Reg.LANE_DIGEST_B_LO_DIGEST lane.val) (Reg.LANE_DIGEST_B_HI_DIGEST lane.val) (shake64 (s.bankBytes lane.val 1))).setF (Reg.LANE_STAT_LOADED_B lane.val) 1).setF (Reg.LANE_PROG_CTRL_SEAL lane.val) 0).irq (Reg.LANE_IRQ_SEALED lane.val)))) ∧
  -- LANEMAP_INIT
  (∀ (s : State) (req : Req),
    TakesF s req Reg.SIEV_LANEMAP_CTRL_INIT → s.flag Reg.FUNL_CTRL_ENABLE = false →
    exec (.lanemapInit req) s = .next ({ s.answer 0 with laneMap := [] })) ∧
  -- LANEMAP_MOVE_REQUEST
  (∀ (s : State) (req : Req) (target : Fin 32),
    TakesF s req Reg.SIEV_LANEMAP_DATA_LANE → s.laneState target.val = .service → (s.mapEntry (s.getF Reg.SIEV_LANEMAP_SEL_GROUP)).src = none →
    s.movingGroups.length < 64 →
    exec (.lanemapMoveRequest req target) s = .next ((s.answer 0).setMap (s.getF Reg.SIEV_LANEMAP_SEL_GROUP) { lane := target.val, src := some (s.mapEntry (s.getF Reg.SIEV_LANEMAP_SEL_GROUP)).lane })) ∧
  -- METER_MOVE
  (∀ (s : State) (meter : BitVec 20) (o : Nat),
    (s.mapEntry (meter.toNat / 16)).src = some o → bitAt (s.mapEntry (meter.toNat / 16)).moved (meter.toNat % 16) = 0 →
    s.meterInFlight meter.toNat = false → (s.mapEntry (meter.toNat / 16)).moved + 2 ^ (meter.toNat % 16) ≠ 0xFFFF →
    exec (.meterMove meter) s = .next (s.setMap (meter.toNat / 16) { s.mapEntry (meter.toNat / 16) with moved := (s.mapEntry (meter.toNat / 16)).moved + 2 ^ (meter.toNat % 16) })) ∧
  (∀ (s : State) (meter : BitVec 20) (o : Nat),
    (s.mapEntry (meter.toNat / 16)).src = some o → bitAt (s.mapEntry (meter.toNat / 16)).moved (meter.toNat % 16) = 0 →
    s.meterInFlight meter.toNat = false → (s.mapEntry (meter.toNat / 16)).moved + 2 ^ (meter.toNat % 16) = 0xFFFF →
    exec (.meterMove meter) s = .next ((s.moveDone (meter.toNat / 16) (s.mapEntry (meter.toNat / 16)).lane).pumpMoves))

/-- LADLE_LANE_VERDICT and LADLE_TAG_VERDICT join a verdict to its frame; LADLE_COMMIT_HEAD commits the frame or the item at the head; FTL_PLACE_ITEM takes the front of the commit queue; GROUP_CLOSE closes a commit group, GROUP_DURABLE makes it durable, DURABLE_LATE marks late groups and LADLE_STALL latches a stall. Each equation gives the whole next state. -/
def Obligations.LadleCommandsComplete : Prop :=
  -- LADLE_LANE_VERDICT
  (∀ (s : State) (v : Verdict) (r : List Verdict) (fl : Flight),
    s.verdicts = v :: r → v.late = false → s.flight v.order = some fl →
    exec .ladleLaneVerdict s = .next (({ s with verdicts := r } : State).setFlight v.order (some { fl with laneV := some v.v, crc := v.crc }))) ∧
  (∀ (s : State) (v : Verdict) (r : List Verdict),
    s.verdicts = v :: r → v.late = true →
    exec .ladleLaneVerdict s = .next (({ s with verdicts := r } : State).count Reg.LADL_LATE_VERDICT_CNT_CNT)) ∧
  -- LADLE_TAG_VERDICT
  (∀ (s : State) (n : Nat) (v : TagVerdict) (fl : Flight),
    (s.queue 0x89).items.head? = some ⟨.tag n v, 0⟩ → s.flight n = some fl → v ≠ .poison → v ≠ .revoked →
    exec (.ladleTagVerdict 0) s = .next ((s.popped 0x89).setFlight n (some { fl with tagV := some v }))) ∧
  -- LADLE_COMMIT_HEAD
  (∀ (s : State) (a b : Bool) (fl : Flight) (o : Ordered),
    s.flag Reg.LADL_CTRL_ENABLE = true → s.flag Reg.LADL_STAT_RECOVERING = false → s.flag Reg.FTL_STAT_MOUNTED = true → s.copyFirst = false →
    s.domOn .mem = true → s.flight s.commitNext = some fl → fl.body = .ordered o →
    s.itemWaits o = false → s.commitCredit o = true →
    exec (.ladleCommitHead a b) s = .next (s.commitItem s.commitNext fl o)) ∧
  (∀ (s u : State) (fl : Flight) (f : Frame),
    s.flag Reg.LADL_CTRL_ENABLE = true → s.flag Reg.LADL_STAT_RECOVERING = false → s.flag Reg.FTL_STAT_MOUNTED = true → s.copyFirst = false →
    s.domOn .mem = true → s.flight s.commitNext = some fl → fl.body = .frame f → u = s.eccCorrect (recordAddr f.meter) 1024 →
    fl.tagV = some .pass → fl.laneV = some .accept → u.counterCheck f = 0 → effectsCrc ((u.lane fl.lane).effectsOf s.commitNext) = fl.crc →
    u.hasCredit 0x118 = true → u.learnRoom f = true → (u.flag Reg.BILL_CTRL_ENABLE = false ∨ u.frameTokenLocked fl = false) →
    exec (.ladleCommitHead true true) s = .next ((u.commitFrame s.commitNext fl).release)) ∧
  (∀ (s u : State) (fl : Flight) (f : Frame) (v : LaneVerdict) (b : Bool),
    s.flag Reg.LADL_CTRL_ENABLE = true → s.flag Reg.LADL_STAT_RECOVERING = false → s.flag Reg.FTL_STAT_MOUNTED = true → s.copyFirst = false →
    s.domOn .mem = true → s.flight s.commitNext = some fl → fl.body = .frame f → u = s.eccCorrect (recordAddr f.meter) 1024 →
    fl.tagV = some .fail → fl.laneV = some v →
    exec (.ladleCommitHead true b) s = .next ((u.dropAtHead s.commitNext fl .authFail).release)) ∧
  (∀ (s u : State) (fl : Flight) (f : Frame) (b : Bool),
    s.flag Reg.LADL_CTRL_ENABLE = true → s.flag Reg.LADL_STAT_RECOVERING = false → s.flag Reg.FTL_STAT_MOUNTED = true → s.copyFirst = false →
    s.domOn .mem = true → s.flight s.commitNext = some fl → fl.body = .frame f → u = s.eccCorrect (recordAddr f.meter) 1024 →
    fl.tagV = some .noKey → fl.laneV.isSome = true ∨ fl.inLane = false →
    exec (.ladleCommitHead true b) s = .next ((u.dropAtHead s.commitNext fl .noKey).release)) ∧
  -- FTL_PLACE_ITEM
  (∀ (s t : State) (c : CommitItem),
    s.flag Reg.FTL_STAT_MOUNTED = true → (s.queue 0x118).items.head? = some ⟨.commit c, 0⟩ → s.path.shadow.contains (.commit c) = true →
    t = (s.popped 0x118).releaseShadow (.commit c) →
    exec (.ftlPlaceItem 0) s = .next (({ t with path := { t.path with placed := t.path.placed ++ [c] } } : State).set2 Reg.LADL_PLACED_ORDER_LO_ORDER Reg.LADL_PLACED_ORDER_HI_ORDER c.order)) ∧
  (∀ (s : State) (q l a : Nat),
    s.flag Reg.FTL_STAT_MOUNTED = true → (s.queue 0x118).items.head? = some ⟨.groupEdge q l a, 0⟩ →
    s.path.shadow.contains (.groupEdge q l a) = true →
    exec (.ftlPlaceItem 0) s = .next (((s.popped 0x118).releaseShadow (.groupEdge q l a)).closePlaced q l a)) ∧
  (∀ (s : State) (p : Payload),
    s.flag Reg.FTL_STAT_MOUNTED = true → (s.queue 0x118).items.head? = some ⟨p, 0⟩ → s.path.shadow.contains p = false →
    exec (.ftlPlaceItem 0) s = .next (s.popped 0x118)) ∧
  -- GROUP_CLOSE
  (∀ (s : State),
    s.path.closeAt ≤ s.tb1 → s.orders = true → s.flag Reg.LADL_STAT_ACK_STOPPED = false → s.twin.groupsDue.isEmpty = true → s.path.count ≠ 0 →
    s.hasCredit 0x118 = true → s.feedCredit = true →
    exec .groupClose s = .next ((({ s with path := { s.path with closeAt := (s.tb1 / s.groupPeriod + 1) * s.groupPeriod } } : State).feed (.group ((s.groupSeq + 1) % 2 ^ 48) s.path.lastItem)).markEdge ((s.groupSeq + 1) % 2 ^ 48) s.path.lastItem)) ∧
  -- GROUP_DURABLE
  (∀ (s : State) (g : Group) (r : List Group),
    s.path.groups = g :: r → g.written = true → s.peerDurable g.seq = true → s.flag Reg.LADL_STAT_ACK_STOPPED = false →
    exec .groupDurable s = .next (s.durable g)) ∧
  -- DURABLE_LATE
  (∀ (s : State) (limit : Nat),
    limit = s.getF Reg.LADL_GC_CFG_DURABLE_LIMIT * 1000000 → (s.path.groups.any (fun g => !g.late && decide (g.closedAt + limit ≤ s.tb1)) = true) →
    exec .durableLate s = .next ({ s.irq Reg.LADL_IRQ_DURABLE_LATE with path := { s.path with groups := s.path.groups.map (fun g => if g.closedAt + limit ≤ s.tb1 then { g with late := true } else g), lateEdges := s.path.lateEdges ++ s.newlyLate limit } })) ∧
  -- LADLE_STALL
  (∀ (s : State),
    (s.flight s.commitNext).isSome = true → s.flag Reg.LADL_STAT_STALLED = false →
    s.path.headSince + s.getF Reg.LADL_STALL_LIMIT_US * 1000 < s.tb1 →
    exec .ladleStall s = .next ((s.setF Reg.LADL_STAT_STALLED 1).irq Reg.LADL_IRQ_STALL))

/-- Each command of the DIR queue that the table engine takes is carried out (a submission with the command places its item first): INSERT and DELETE change the directory and go to the dispatch queue or end with their status, REC_WRITE, ROUTE_SET and ROUTE_DEL go to the dispatch queue, TOKEN_ADD and FLOOR_RAISE do so from downstream, LOOKUP, LOCK and UNLOCK act at once; DIR_LOCK_TIMEOUT releases an expired lock; DIR_SUSPECT_CLR clears a suspect bucket that is not locked, and waits for the lock of one that is. Each equation gives the whole next state. -/
def Obligations.DirectoryCommandsComplete : Prop :=
  -- DIR_INSERT
  (∀ (s : State) (sub : Option Submission) (t : State) (b : Bytes),
    DirTakes (s.pumpMessages.submitted 0xA1 sub (fun x => .bytes (splice (slice x.item 0 64) 2 [0]))) 0x01 b t →
    exec (.dirInsert sub) s = .next (t.dirInsert b)) ∧
  -- DIR_DELETE
  (∀ (s : State) (sub : Option Submission) (t : State) (b : Bytes),
    DirTakes (s.pumpMessages.submitted 0xA1 sub (fun x => .bytes (splice (slice x.item 0 64) 2 [0]))) 0x02 b t →
    exec (.dirDelete sub) s = .next (t.dirDelete b)) ∧
  -- DIR_REC_WRITE
  (∀ (s : State) (sub : Option Submission) (t : State) (b : Bytes),
    DirTakes (s.pumpMessages.submitted 0xA1 sub (fun x => .bytes (splice (slice x.item 0 64) 2 [0]))) 0x03 b t →
    exec (.dirRecWrite sub) s = .next (t.dirOrder b 0)) ∧
  -- DIR_ROUTE_SET
  (∀ (s : State) (sub : Option Submission) (t : State) (b : Bytes),
    DirTakes (s.pumpMessages.submitted 0xA1 sub (fun x => .bytes (splice (slice x.item 0 64) 2 [0]))) 0x10 b t →
    exec (.dirRouteSet sub) s = .next (t.dirOrder b 0)) ∧
  -- DIR_ROUTE_DEL
  (∀ (s : State) (sub : Option Submission) (t : State) (b : Bytes),
    DirTakes (s.pumpMessages.submitted 0xA1 sub (fun x => .bytes (splice (slice x.item 0 64) 2 [0]))) 0x11 b t →
    exec (.dirRouteDel sub) s = .next (t.dirOrder b 0)) ∧
  -- DIR_TOKEN_ADD
  (∀ (s : State) (sub : Option Submission) (t : State) (b : Bytes),
    DirTakes (s.pumpMessages.submitted 0xA1 sub (fun x => .bytes (splice (slice x.item 0 64) 2 [0]))) 0x20 b t →
    exec (.dirTokenAdd sub) s = .next (t.dirLearn b)) ∧
  -- DIR_FLOOR_RAISE
  (∀ (s : State) (sub : Option Submission) (t : State) (b : Bytes),
    DirTakes (s.pumpMessages.submitted 0xA1 sub (fun x => .bytes (splice (slice x.item 0 64) 2 [0]))) 0x21 b t →
    exec (.dirFloorRaise sub) s = .next (t.dirLearn b)) ∧
  -- DIR_LOOKUP_CMD
  (∀ (s : State) (sub : Option Submission) (t : State) (b : Bytes),
    DirTakes (s.pumpMessages.submitted 0xA1 sub (fun x => .bytes (splice (slice x.item 0 64) 2 [0]))) 0x30 b t →
    exec (.dirLookupCmd sub) s = .next (t.dirRead b)) ∧
  -- DIR_LOCK
  (∀ (s : State) (sub : Option Submission) (t : State) (b : Bytes),
    DirTakes (s.pumpMessages.submitted 0xA1 sub (fun x => .bytes (splice (slice x.item 0 64) 2 [0]))) 0x31 b t →
    exec (.dirLock sub) s = .next (t.dirLock b)) ∧
  -- DIR_UNLOCK
  (∀ (s : State) (sub : Option Submission) (t : State) (b : Bytes),
    DirTakes (s.pumpMessages.submitted 0xA1 sub (fun x => .bytes (splice (slice x.item 0 64) 2 [0]))) 0x32 b t →
    exec (.dirUnlock sub) s = .next (t.dirUnlock b)) ∧
  -- DIR_LOCK_TIMEOUT
  (∀ (s u : State) (l : DirLock),
    s.dir.locks.find? (fun x => decide (x.until_ ≤ s.tb1)) = some l → u = (s.dirRelease l.table l.bucket).irq Reg.DIR_IRQ_LOCK_TIMEOUT →
    exec .dirLockTimeout s = .next (State.err { u with dir := { u.dir with timedOut := u.dir.timedOut ++ [(l.table, l.bucket)] } } 0x14 0x0108 0)) ∧
  -- DIR_SUSPECT_CLR
  (∀ (s : State) (req : Req) (data : Word),
    TakesF s req Reg.DIR_SUSPECT_CLR_BUCKET → s.locked? 2 (bitsOf data.toNat 19 0) = false → s.header 2 (bitsOf data.toNat 19 0) 54 54 = 1 →
    exec (.dirSuspectClr req data) s = .next (((s.answer 0).setHeader 2 (bitsOf data.toNat 19 0) 54 54 0).lowerF Reg.DIR_SUSPECT_CNT_BUCKETS)) ∧
  (∀ (s : State) (req : Req) (data : Word),
    TakesF s req Reg.DIR_SUSPECT_CLR_BUCKET → s.locked? 2 (bitsOf data.toNat 19 0) = true →
    exec (.dirSuspectClr req data) s = .next { s.answer 0 with dir := { s.dir with clears := s.dir.clears.erase (bitsOf data.toNat 19 0) ++ [bitsOf data.toNat 19 0] } })

/-- Each command of the BAL queue, at the front and well formed, takes its place in the dispatch queue (a submission with the command places its item first); BAL_MARKER_PLACE places the marker of the next interval; BAL_NODE_PASS and BAL_METER_PASS sweep, and with no sweep at hand the node pass makes the revisions that a waiting marker needs; BAL_SWEEP_RESUME sends the waiting reports and goes on. Each equation gives the whole next state. -/
def Obligations.BalanceCommandsComplete : Prop :=
  -- BAL_NODE_SET
  (∀ (s : State) (sub : Option Submission) (u : State) (b : Bytes),
    u = s.submitted 0xA9 sub (fun x => .bytes (slice x.item 0 64)) →
    (u.queue 0xA9).items.head? = some ⟨.bytes b, 0⟩ → leAt b 0 1 = 1 → u.hasCredit 0x80 = true → u.balOpen < (u.queue 0xAA).credits →
    balWellFormed b = true → u.orders = true → u.domOn .mem = true →
    exec (.balNodeSet sub) s = .next ((u.popped 0xA9).enq 0x80 { body := .orderedItem (.balCmd (b ++ [0])) })) ∧
  -- BAL_NODE_DEL
  (∀ (s : State) (sub : Option Submission) (u : State) (b : Bytes),
    u = s.submitted 0xA9 sub (fun x => .bytes (slice x.item 0 64)) →
    (u.queue 0xA9).items.head? = some ⟨.bytes b, 0⟩ → leAt b 0 1 = 2 → u.hasCredit 0x80 = true → u.balOpen < (u.queue 0xAA).credits →
    balWellFormed b = true → u.orders = true → u.domOn .mem = true →
    exec (.balNodeDel sub) s = .next ((u.popped 0xA9).enq 0x80 { body := .orderedItem (.balCmd (b ++ [0])) })) ∧
  -- BAL_METER_ASSIGN
  (∀ (s : State) (sub : Option Submission) (u : State) (b : Bytes),
    u = s.submitted 0xA9 sub (fun x => .bytes (slice x.item 0 64)) →
    (u.queue 0xA9).items.head? = some ⟨.bytes b, 0⟩ → leAt b 0 1 = 3 → u.hasCredit 0x80 = true → u.balOpen < (u.queue 0xAA).credits →
    balWellFormed b = true → u.orders = true → u.domOn .mem = true →
    exec (.balMeterAssign sub) s = .next ((u.popped 0xA9).enq 0x80 { body := .orderedItem (.balCmd (b ++ [0])) })) ∧
  -- BAL_AUDIT_RESET
  (∀ (s : State) (sub : Option Submission) (u : State) (b : Bytes),
    u = s.submitted 0xA9 sub (fun x => .bytes (slice x.item 0 64)) →
    (u.queue 0xA9).items.head? = some ⟨.bytes b, 0⟩ → leAt b 0 1 = 4 → u.hasCredit 0x80 = true → u.balOpen < (u.queue 0xAA).credits →
    balWellFormed b = true → u.orders = true → u.domOn .mem = true →
    exec (.balAuditReset sub) s = .next ((u.popped 0xA9).enq 0x80 { body := .orderedItem (.balCmd (b ++ [0])) })) ∧
  -- BAL_MARKER_PLACE
  (∀ (s : State) (last : Nat),
    s.bal.mark.getD (s.utcSec / s.balLen) = last → s.flag Reg.BAL_CTRL_ENABLE = true → s.orders = true → last < s.utcSec / s.balLen →
    s.hasCredit 0x80 = true →
    exec .balMarkerPlace s = .next (({ s with bal := { s.bal with mark := some (last + 1) } } : State).placeMarker (.balMarker (last + 1)))) ∧
  -- BAL_NODE_PASS
  (∀ (s : State) (w : BalSweep) (r : List BalSweep),
    s.domOn .mem = true → s.bal.waiting.isEmpty = true → s.bal.sweeps = w :: r → w.nodesDone = false →
    exec .balNodePass s = .next (s.nodePass w)) ∧
  (∀ (s : State),
    s.domOn .mem = true → s.bal.waiting.isEmpty = true → s.bal.sweeps = [] → s.flag Reg.BAL_STAT_MARKER_WAIT = true → exec .balNodePass s = .next s.revisePass) ∧
  -- BAL_METER_PASS
  (∀ (s : State) (w : BalSweep) (r : List BalSweep),
    s.domOn .mem = true → s.bal.waiting.isEmpty = true → s.bal.sweeps = w :: r → w.nodesDone = true →
    exec .balMeterPass s = .next (s.meterPass w)) ∧
  -- BAL_SWEEP_RESUME
  (∀ (s : State),
    s.domOn .mem = true → s.bal.waiting.isEmpty = false → s.hasCredit 0xA8 = true → s.balFlush.bal.waiting.isEmpty = false →
    exec .balSweepResume s = .next s.balFlush) ∧
  (∀ (s : State) (w : BalSweep) (r : List BalSweep),
    s.domOn .mem = true → s.bal.waiting.isEmpty = false → s.hasCredit 0xA8 = true → s.balFlush.bal.waiting = [] → s.balFlush.bal.sweeps = w :: r → w.nodesDone = true →
    exec .balSweepResume s = .next (s.balFlush.meterPass w)) ∧
  (∀ (s : State) (w : BalSweep) (r : List BalSweep),
    s.domOn .mem = true → s.bal.waiting.isEmpty = false → s.hasCredit 0xA8 = true → s.balFlush.bal.waiting = [] → s.balFlush.bal.sweeps = w :: r → w.nodesDone = false →
    exec .balSweepResume s = .next (s.balFlush.nodePass w))

/-- The marker commands place their markers; DEMAND_SWEEP, CLOSE_SWEEP, CKPT_SWEEP and CKPT_COMPLETE carry the sweeps and the checkpoint on; TOK_GO enters a token; CAL_CHECK and CAL_RESOLVE answer; the panel changes its item, scans its keys, abandons an entry and ends a lock. Each equation gives the whole next state. -/
def Obligations.BillingCommandsComplete : Prop :=
  -- DEMAND_MARKER_PLACE
  (∀ (s : State) (t : Nat),
    s.demDue = some t → s.mayMark = true → (s.flag Reg.BAL_CTRL_ENABLE && dueBy s.balDue t) = false →
    exec .demandMarkerPlace s = .next (({ s with bill := { s.bill with demMark := some (t / s.demLen) } } : State).placeMarker (.demandMarker (t / s.demLen) 0))) ∧
  -- CLOSE_MARKER_PLACE
  (∀ (s : State) (b top : Nat),
    s.closeDue = some (b, top) → s.mayMark = true → s.balDue = none → s.demDue = none → top ≤ b →
    exec .closeMarkerPlace s = .next (({ s with bill := { s.bill with closeMark := some b, skipTo := s.bill.skipTo } } : State).placeMarker (.closeMarker b (decide (b ≤ s.bill.skipTo)) s.utcSec))) ∧
  (∀ (s : State) (b top : Nat),
    s.closeDue = some (b, top) → s.mayMark = true → s.balDue = none → s.demDue = none → b < top →
    exec .closeMarkerPlace s = .next (({ s with bill := { s.bill with closeMark := some b, skipTo := max s.bill.skipTo top } } : State).placeMarker (.closeMarker b true s.utcSec))) ∧
  -- CKPT_MARKER_PLACE
  (∀ (s : State) (now last : Nat),
    now = s.utcSec / (60 * s.getF Reg.BILL_CKPT_CFG_PERIOD) → s.flag Reg.BILL_CTRL_ENABLE = true → s.bill.ckptMark = some last → last < now →
    s.mayMark = true → s.balDue = none → s.demDue = none → s.closeDue = none → s.bill.open_ = none →
    exec .ckptMarkerPlace s = .next (({ s with bill := { s.bill with ckptMark := some (last + 1) } } : State).placeMarker (.ckptMarker (last + 1)))) ∧
  (∀ (s : State) (now last : Nat),
    now = s.utcSec / (60 * s.getF Reg.BILL_CKPT_CFG_PERIOD) → s.flag Reg.BILL_CTRL_ENABLE = true → s.bill.ckptMark = some last → last < now →
    s.mayMark = true → s.balDue = none → s.demDue = none → s.closeDue = none → s.bill.open_.isSome = true →
    exec .ckptMarkerPlace s = .next { s with bill := { s.bill with ckptMark := some (last + 1) } }) ∧
  -- DEMAND_SWEEP
  (∀ (s : State) (w : DemSweep) (r : List DemSweep),
    s.domOn .mem = true → s.bill.demSweeps = w :: r →
    exec .demandSweep s = .next ({ s.validRecords.foldl (fun t m => t.demSweepOne m) s with bill := { (s.validRecords.foldl (fun t m => t.demSweepOne m) s).bill with demSweeps := (s.validRecords.foldl (fun t m => t.demSweepOne m) s).bill.demSweeps.drop 1 } })) ∧
  -- CLOSE_SWEEP
  (∀ (s : State) (j : CloseJob) (r : List CloseJob) (t u : State),
    s.domOn .mem = true → s.bill.sweeps = j :: r → (t = s.validRecords.foldl (fun t m => if t.recF m 0x1E0 4 < j.b then t.touch m else t) s) →
    (u = (t.billReport 6 (bit1 (t.isReplayed j.order)) 0 j.order (leBytes 4 j.b ++ leBytes 4 (if j.skipped then 1 else 0))).irq Reg.BILL_IRQ_CLOSED) →
    exec .closeSweep s = .next ({ u.setF Reg.BILL_SWEEP_LAST_US (min (2 ^ 24 - 1) ((u.tb1 - u.bill.sweepAt) / 1000)) with bill := { u.bill with sweeps := r, sweepAt := u.tb1 } })) ∧
  -- CKPT_SWEEP
  (∀ (s : State) (t : State),
    s.domOn .mem = true → s.bill.open_.isSome = true → (t = (List.range 1048576).foldl (fun t m => t.ckptCopy m) s) →
    exec .ckptSweep s = .next ({ t with bill := { t.bill with open_ := t.bill.open_.map (fun c => { c with swept := true }) } })) ∧
  -- CKPT_COMPLETE
  (∀ (s t : State) (c : Checkpoint),
    s.bill.open_ = some c → c.swept = true → s.volState = 0 →
    t = ({ s with bill := { s.bill with open_ := none, complete := ({ c with durable := true } :: s.bill.complete).take 2 } } : State) →
    exec .ckptComplete s = .next (((t.setF Reg.BILL_STAT_CKPT_OPEN 0).irq Reg.BILL_IRQ_CKPT_DONE).billReport 7 (bit1 (t.isReplayed c.order)) 0 c.order (leBytes 6 c.order))) ∧
  -- TOK_GO
  (∀ (s t : State) (req : Req) (data : Word),
    TakesA s req Reg.BILL_TOK_GO_GO data.toNat → bitAt data.toNat 31 = 1 → s.flag Reg.BILL_TOK_GO_GO = false →
    t = plainly s req Reg.BILL_TOK_GO_GO data.toNat → bitsOf data.toNat 19 0 < t.getF Reg.DIR_ROLE_LIMIT_METERS →
    t.getF Reg.BILL_TOK_D0_DIGITS ≤ 99999 → t.getF Reg.BILL_TOK_D1_DIGITS ≤ 99999 → t.getF Reg.BILL_TOK_D2_DIGITS ≤ 99999 →
    t.getF Reg.BILL_TOK_D3_DIGITS ≤ 99999 → t.orders = true → t.flag Reg.BILL_CTRL_ENABLE = true → t.hasCredit 0x80 = true →
    exec (.tokGo req data) s = .next { (t.setF Reg.BILL_TOK_GO_GO 1).enq 0x80 { body := .orderedItem (.token (t.setF Reg.BILL_TOK_GO_GO 1).tokDigits (bitsOf data.toNat 19 0) 2) } with
      bill := { t.bill with token := none } }) ∧
  (∀ (s t : State) (req : Req) (data : Word),
    TakesA s req Reg.BILL_TOK_GO_GO data.toNat → bitAt data.toNat 31 = 1 → s.flag Reg.BILL_TOK_GO_GO = false →
    t = plainly s req Reg.BILL_TOK_GO_GO data.toNat → bitsOf data.toNat 19 0 < t.getF Reg.DIR_ROLE_LIMIT_METERS →
    t.getF Reg.BILL_TOK_D0_DIGITS ≤ 99999 → t.getF Reg.BILL_TOK_D1_DIGITS ≤ 99999 → t.getF Reg.BILL_TOK_D2_DIGITS ≤ 99999 →
    t.getF Reg.BILL_TOK_D3_DIGITS ≤ 99999 → t.orders = true → t.flag Reg.BILL_CTRL_ENABLE = true → t.hasCredit 0x80 = false →
    exec (.tokGo req data) s = .next { t.setF Reg.BILL_TOK_GO_GO 1 with
      bill := { t.bill with token := some ((t.setF Reg.BILL_TOK_GO_GO 1).tokDigits, bitsOf data.toNat 19 0) } }) ∧
  -- CAL_CHECK
  (∀ (s : State) (req : Req) (data : Word),
    TakesA s req Reg.CAL_CHECK_GO data.toNat →
    exec (.calCheck req data) s = .next (((plainly s req Reg.CAL_CHECK_GO data.toNat).calCheckPassive ((plainly s req Reg.CAL_CHECK_GO data.toNat).getF Reg.CAL_CHECK_CAL)).irq Reg.CAL_IRQ_CHECKED)) ∧
  -- CAL_RESOLVE
  (∀ (s : State) (req : Req) (data : Word),
    TakesA s req Reg.CAL_RESOLVE_GO data.toNat →
    exec (.calResolve req data) s = .next (((plainly s req Reg.CAL_RESOLVE_GO data.toNat).setF Reg.CAL_RESOLVE_RESULT_RESULT ((plainly s req Reg.CAL_RESOLVE_GO data.toNat).calResolve ((plainly s req Reg.CAL_RESOLVE_GO data.toNat).getF Reg.CAL_RESOLVE_TIME_SEC) ((plainly s req Reg.CAL_RESOLVE_GO data.toNat).getF Reg.CAL_RESOLVE_CAL) (plainly s req Reg.CAL_RESOLVE_GO data.toNat).gen)).irq Reg.CAL_IRQ_RESOLVED)) ∧
  -- PANEL_ITEM_CHANGE
  (∀ (s : State),
    s.panel.showLocked = false → s.panelScrolls = true → s.panel.nextAt ≤ s.tb1 → s.getF Reg.PANEL_DISP_CFG_ROWS = 1 → s.panel.alt = false → s.panel.shown.2.isEmpty = false →
    exec .panelItemChange s = .next (({ s with panel := { s.panel with nextAt := s.tb1 + s.getF Reg.PANEL_DWELL_S * nsPerS / 2 } } : State).showValue)) ∧
  (∀ (s : State),
    s.panel.showLocked = false → s.panelScrolls = true → s.panel.nextAt ≤ s.tb1 → (s.getF Reg.PANEL_DISP_CFG_ROWS ≠ 1 ∨ s.panel.alt = true) →
    exec .panelItemChange s = .next (s.panelChange (fun p _ => p + 1))) ∧
  (∀ (s : State),
    s.panel.showLocked = true → s.panel.nextAt ≤ s.tb1 →
    exec .panelItemChange s = .next (({ s with panel := { s.panel with showLocked := false, nextAt := s.tb1 + s.getF Reg.PANEL_DWELL_S * nsPerS } } : State).show (ascii "LOCKED") [])) ∧
  -- PANEL_KEY_SCAN
  (∀ (s : State) (key : Option (Fin 16)) (cnt : Nat),
    s.flag Reg.PANEL_CTRL_ENABLE = true → cnt = (if key.map (fun k => k.val) = s.panel.scanKey then min 4 (s.panel.scanCnt + 1) else 1) →
    cnt ≠ 3 →
    exec (.panelKeyScan key) s = .next (({ s with panel := { s.panel with scanKey := key.map (fun k => k.val), scanCnt := cnt } } : State).inputEdge 7 key.isSome)) ∧
  (∀ (s t : State) (k : Fin 16),
    s.flag Reg.PANEL_CTRL_ENABLE = true → s.panel.scanKey = some k.val → s.panel.scanCnt = 2 →
    t = ({ s with panel := { s.panel with scanKey := some k.val, scanCnt := 3 } } : State).inputEdge 7 true →
    t.flag (condField Reg.AON_COND_STAT_STUCK_MASK 7) = false → exec (.panelKeyScan (some k)) s = .next (t.panelKey k.val)) ∧
  -- PANEL_ENTRY_TIMEOUT
  (∀ (s : State),
    (s.getF Reg.PANEL_STAT_KP_STATE = 1 ∨ s.getF Reg.PANEL_STAT_KP_STATE = 2) → (s.panel.waiting = false ∨ s.panel.due.isSome = true) → s.panel.entryUntil ≤ s.tb1 →
    exec .panelEntryTimeout s = .next s.panelAbandon) ∧
  -- PANEL_LOCK_END
  (∀ (s : State) (t : Nat),
    s.panel.lockUntil = some t → t ≤ s.getF Reg.RTC_RTC_SEC_SEC →
    exec .panelLockEnd s = .next (if s.getF Reg.PANEL_STAT_KP_STATE = 3 then ({ s with panel := { s.panel with lockUntil := none, showLocked := false } } : State).setF Reg.PANEL_STAT_KP_STATE 0 else { s with panel := { s.panel with lockUntil := none, showLocked := false } }))

/-- TIME_NOW_READ and AON_NOW_READ capture the selected base and answer its seconds (a read by DEBUG captures nothing); TB0_STEP, TB0_STATE_SET and TB3_LOAD have their effects; TB0_HOLDOVER, LEAP_SECOND, PPS_IN_EDGE, PPS_OUT_PULSE, TB3_SLEW, ZC_EDGE and ZC_SYNTH act when they are due. Each equation gives the whole next state. -/
def Obligations.TimeBaseCommandsComplete : Prop :=
  -- TIME_NOW_READ
  (∀ (s : State) (req : Req) (sec ns frac : Nat),
    s.refusal req 0x05 0x104 .b4 false = none → req ≠ .debug →
    fullTime ((s.answer 0).baseOf ((s.answer 0).getF (Reg.TIME_NOW_SEL_BASE.bankOf req.code))) = (sec, ns, frac) →
    exec (.timeNowRead req) s = .next (((((((s.answer 0).setF (Reg.TIME_NOW_SEC_HI_SEC.bankOf req.code) (sec / 2 ^ 32)).setF (Reg.TIME_NOW_NS_NS.bankOf req.code) ns).setF (Reg.TIME_NOW_FRAC_FRAC.bankOf req.code) frac).setF (Reg.TIME_NOW_STAMP_STAMP.bankOf req.code) ((sec * nsPerS + ns) % 2 ^ 32)).answer (sec % 2 ^ 32)))) ∧
  (∀ (s : State) (sec ns frac : Nat),
    s.refusal .debug 0x05 0x104 .b4 false = none →
    fullTime ((s.answer 0).baseOf ((s.answer 0).getF (Reg.TIME_NOW_SEL_BASE.bankOf (Req.code .debug)))) = (sec, ns, frac) →
    exec (.timeNowRead .debug) s = .next ((s.answer 0).answer (sec % 2 ^ 32))) ∧
  -- AON_NOW_READ
  (∀ (s : State) (req : Req) (sec ns frac : Nat),
    s.refusal req 0x03 0x108 .b4 false = none → req ≠ .debug →
    fullTime ((s.answer 0).baseOf ((s.answer 0).getF (Reg.AON_NOW_SEL_BASE.bankOf req.code))) = (sec, ns, frac) →
    exec (.aonNowRead req) s = .next ((((((s.answer 0).setF (Reg.AON_NOW_SEC_HI_SEC.bankOf req.code) (sec / 2 ^ 32)).setF (Reg.AON_NOW_NS_NS.bankOf req.code) (ns / 10 * 10)).setF (Reg.AON_NOW_STAMP_STAMP.bankOf req.code) ((sec * nsPerS + ns / 10 * 10) % 2 ^ 32)).answer (sec % 2 ^ 32)))) ∧
  (∀ (s : State) (sec ns frac : Nat),
    s.refusal .debug 0x03 0x108 .b4 false = none →
    fullTime ((s.answer 0).baseOf ((s.answer 0).getF (Reg.AON_NOW_SEL_BASE.bankOf (Req.code .debug)))) = (sec, ns, frac) →
    exec (.aonNowRead .debug) s = .next ((s.answer 0).answer (sec % 2 ^ 32))) ∧
  -- TB0_STEP
  (∀ (s : State) (req : Req),
    TakesF s req Reg.TIME_STEP_GO →
    exec (.tb0Step req) s = .next (((s.answer 0).fireTimed.stepTb0 (s.answer 0).stepNs).fireTimed)) ∧
  -- TB0_STATE_SET
  (∀ (s : State) (req : Req) (value : BitVec 2),
    TakesF s req Reg.TIME_CTRL_STATE_SET → (value = 1 ∨ value = 2) →
    exec (.tb0StateSet req value) s = .next ((s.answer 0).setTb0State value.toNat)) ∧
  (∀ (s : State) (req : Req) (value : BitVec 2),
    TakesF s req Reg.TIME_CTRL_STATE_SET → (value = 0 ∨ value = 3) →
    exec (.tb0StateSet req value) s = .next (s.answer 0)) ∧
  -- TB0_HOLDOVER
  (∀ (s : State),
    s.getF Reg.TIME_STAT_TB0_STATE = 2 → s.getF Reg.TIME_CTRL_TB0_SRC = 1 →
    max (s.time.syncAt.getD 0) s.time.lockedAt + s.getF Reg.TIME_HOLDOVER_MS * 1000000 ≤ s.tb1 →
    exec .tb0Holdover s = .next (s.setTb0State 3)) ∧
  (∀ (s : State),
    s.getF Reg.TIME_STAT_TB0_STATE = 2 → s.getF Reg.TIME_CTRL_TB0_SRC = 2 →
    max (s.time.ppsAt.getD 0) s.time.lockedAt + s.getF Reg.TIME_HOLDOVER_MS * 1000000 ≤ s.tb1 →
    exec .tb0Holdover s = .next (s.setTb0State 3)) ∧
  -- LEAP_SECOND
  (∀ (s : State) (n : Nat),
    s.time.leapAt = some n → n + nsPerS ≤ s.ns0 →
    exec .leapSecond s = .next (s.leapDone 1 ((s.getF Reg.RTC_LEAP_DAY + 1) * 86400))) ∧
  (∀ (s : State) (n : Nat),
    s.time.leapAt = none → s.getF Reg.RTC_LEAP_DIR = 1 → n = ((((s.getF Reg.RTC_LEAP_DAY + 1) * 86400 : Nat) + s.utcShift) * nsPerS).toNat →
    n ≤ s.ns0 → s.ns0 < n + nsPerS →
    exec .leapSecond s = .next (({ s with time := { s.time with leapAt := some n } } : State).setF Reg.TIME_STAT_LEAP_ACTIVE 1)) ∧
  (∀ (s : State) (n : Nat),
    s.time.leapAt = none → s.getF Reg.RTC_LEAP_DIR = 1 → n = ((((s.getF Reg.RTC_LEAP_DAY + 1) * 86400 : Nat) + s.utcShift) * nsPerS).toNat →
    n + nsPerS ≤ s.ns0 →
    exec .leapSecond s = .next (s.leapDone 1 ((s.getF Reg.RTC_LEAP_DAY + 1) * 86400))) ∧
  (∀ (s : State),
    s.time.leapAt = none → s.getF Reg.RTC_LEAP_DIR = 2 →
    ((((s.getF Reg.RTC_LEAP_DAY + 1) * 86400 - 1 : Nat) + s.utcShift) * nsPerS).toNat ≤ s.ns0 →
    exec .leapSecond s = .next (s.leapDone (-1) ((s.getF Reg.RTC_LEAP_DAY + 1) * 86400 - 1))) ∧
  -- PPS_IN_EDGE
  (∀ (s t : State) (sec ns frac : Nat),
    s.domOn .time = true → (∀ n : Nat, s.time.ppsAt = some n → n + nsPerS / 2 ≤ s.tb1) → fullTime s.tb0 = (sec, ns, frac) →
    t = ((s.setF Reg.TIME_PPS_CAP_SEC_SEC sec).setF Reg.TIME_PPS_CAP_NS_NS ns).setF Reg.TIME_PPS_CAP_FRAC_FRAC frac →
    exec .ppsInEdge s = .next (({ t with time := { s.time with ppsAt := some s.tb1 } } : State).irq Reg.TIME_IRQ_PPS_IN)) ∧
  (∀ (s : State) (t : Nat),
    s.domOn .time = true → s.time.ppsAt = some t → s.tb1 < t + nsPerS / 2 →
    exec .ppsInEdge s = .next (s.count Reg.TIME_PPS_REJECT_CNT_CNT)) ∧
  (∀ (s : State),
    s.domOn .time = false → s.mode = .listen → (∀ n : Nat, s.time.ppsAt = some n → n + nsPerS / 2 ≤ s.tb1) →
    exec .ppsInEdge s = .next { s with time := { s.time with ppsAt := some s.tb1, ppsTb0 := some (s.tb0 / 655360 * 655360) } }) ∧
  -- PPS_OUT_PULSE
  (∀ (s : State),
    s.domOn .time = true → s.time.ppsDue = true → s.flag Reg.TIME_PPS_OUT_CFG_EN = true →
    (s.flag Reg.TIME_PPS_OUT_CFG_HOLD = false ∨ s.getF Reg.TIME_STAT_TB0_STATE = 2) →
    exec .ppsOutPulse s = .next { s with time := { s.time with ppsDue := false }, sent := (15, leBytes 3 (s.getF Reg.TIME_PPS_OUT_CFG_WIDTH_US)) :: s.sent }) ∧
  (∀ (s : State),
    s.domOn .time = true → s.time.ppsDue = true →
    (s.flag Reg.TIME_PPS_OUT_CFG_EN = false ∨ s.flag Reg.TIME_PPS_OUT_CFG_HOLD = true ∧ s.getF Reg.TIME_STAT_TB0_STATE ≠ 2) →
    exec .ppsOutPulse s = .next { s with time := { s.time with ppsDue := false } }) ∧
  -- TB3_SLEW
  (∀ (s : State),
    s.domOn .time = true → s.time.slewAt + 1000000 ≤ s.tb1 →
    exec .tb3Slew s = .next ({ s with time := { s.time with slew := max (-50000) (min 50000 (-(s.tb3Diff * 1000))), slewAt := s.tb1 } })) ∧
  -- TB3_LOAD
  (∀ (s : State) (req : Req),
    TakesF s req Reg.TIME_TB3_CFG_LOAD → (s.answer 0).scheduleRuns = false →
    exec (.tb3Load req) s = .next ({ s.answer 0 with tb3 := (s.answer 0).tb0 })) ∧
  -- ZC_EDGE
  (∀ (s : State) (rising : Bool) (stableUs : BitVec 16),
    s.flag (Reg.PLC_ZC_CFG_EN 0) = true → s.domOn .time = true → s.zcCandidate rising stableUs.toNat = true →
    s.flag Reg.TIME_STAT_TB4_SYNTH = true → s.time.zcCand = none →
    exec (.zcEdge rising stableUs) s = .next { s with time := { s.time with zcCand := some s.tb1 } }) ∧
  (∀ (s : State) (rising : Bool) (stableUs : BitVec 16) (t : Nat),
    s.flag (Reg.PLC_ZC_CFG_EN 0) = true → s.domOn .time = true → s.zcCandidate rising stableUs.toNat = true →
    s.flag Reg.TIME_STAT_TB4_SYNTH = true → s.time.zcCand = some t → s.nearPeriod (s.tb1 - t) = true →
    exec (.zcEdge rising stableUs) s = .next ((((({ s with time := { s.time with zcCand := none, zcLast := s.tb1, zcIvls := [s.tb1 - t] } } : State).crossing s.tb1).setPeriod (s.tb1 - t)).setF Reg.TIME_STAT_TB4_SYNTH 0).irq (Reg.PLC_IRQ_ZC_REAL 0))) ∧
  (∀ (s : State) (rising : Bool) (stableUs : BitVec 16) (l : List Nat),
    s.flag (Reg.PLC_ZC_CFG_EN 0) = true → s.domOn .time = true → s.zcCandidate rising stableUs.toNat = true →
    s.flag Reg.TIME_STAT_TB4_SYNTH = false → s.nearPeriod (s.tb1 - s.time.zcLast) = true →
    l = ((s.tb1 - s.time.zcLast) :: s.time.zcIvls).take 8 →
    exec (.zcEdge rising stableUs) s = .next ((({ s with time := { s.time with zcLast := s.tb1, zcIvls := l } } : State).crossing s.tb1).setPeriod (l.sum / l.length))) ∧
  (∀ (s : State) (rising : Bool) (stableUs : BitVec 16),
    s.flag (Reg.PLC_ZC_CFG_EN 0) = true → s.domOn .time = true → s.zcCandidate rising stableUs.toNat = true →
    s.flag Reg.TIME_STAT_TB4_SYNTH = false → s.nearPeriod (s.tb1 - s.time.zcLast) = false →
    exec (.zcEdge rising stableUs) s = .next (s.count (Reg.PLC_ZC_REJECT_CNT_CNT 0))) ∧
  -- ZC_SYNTH
  (∀ (s : State),
    s.flag Reg.TIME_STAT_TB4_SYNTH = false → (s.time.zcLast + 4 * s.tb4Period ≤ s.tb1 ∨ s.flag (Reg.PLC_ZC_CFG_EN 0) = false) →
    exec .zcSynth s = .next s.zcSynth)

/-- ALARM_WRITE, RTC_SYNC_TB0 and RTC_CHG_WRITE have their effects; RTC_SET has SET_SEC loaded at the next edge of SLOW; TIME_ALARM_FIRE, RTC_ALARM_FIRE, RTC_TRIM_TICK, RET_LOST, BAT_COMPARATOR, OSC_STOP and BAT_MEASURE act when they are due. Each equation gives the whole next state; of RET_LOST, whose retained memory is left with free bytes, the statement names what is lost. -/
def Obligations.ClockAndAlarmCommandsComplete : Prop :=
  -- TIME_ALARM_FIRE
  (∀ (s : State) (n : Fin 4),
    s.alarmDue n.val = true → s.domOn .time = true →
    exec (.timeAlarmFire n) s = .next (s.fireAlarm n.val false)) ∧
  -- RTC_ALARM_FIRE
  (∀ (s : State) (n : Fin 2),
    s.rtcDue n.val = true →
    exec (.rtcAlarmFire n) s = .next (s.fireRtc n.val false)) ∧
  -- ALARM_WRITE
  (∀ (s : State) (req : Req) (n : Fin 4) (data : Word),
    Takes s req 0x05 (0x144 + 0x10 * n.val) → (s.answer 0).alarmDue n.val = false → bitAt data.toNat 31 = 0 →
    exec (.alarmWrite req (.time n) data) s = .next (((s.answer 0).setF (Reg.TIME_ALARM_CTRL_SEC_HI n.val) (bitsOf data.toNat 15 0)).setF (Reg.TIME_ALARM_CTRL_ARM n.val) 0)) ∧
  (∀ (s : State) (req : Req) (n : Fin 4) (data : Word),
    Takes s req 0x05 (0x144 + 0x10 * n.val) → (s.answer 0).alarmDue n.val = false → bitAt data.toNat 31 = 1 →
    exec (.alarmWrite req (.time n) data) s = .next (if (((((s.answer 0).setF (Reg.TIME_ALARM_CTRL_SEC_HI n.val) (bitsOf data.toNat 15 0)).setF (Reg.TIME_ALARM_CTRL_ARM n.val) 1).setF (Reg.TIME_ALARM_CTRL_FIRED n.val) 0).setF (Reg.TIME_ALARM_CTRL_LATE n.val) 0).alarmDue n.val then (((((s.answer 0).setF (Reg.TIME_ALARM_CTRL_SEC_HI n.val) (bitsOf data.toNat 15 0)).setF (Reg.TIME_ALARM_CTRL_ARM n.val) 1).setF (Reg.TIME_ALARM_CTRL_FIRED n.val) 0).setF (Reg.TIME_ALARM_CTRL_LATE n.val) 0).fireAlarm n.val true else (((((s.answer 0).setF (Reg.TIME_ALARM_CTRL_SEC_HI n.val) (bitsOf data.toNat 15 0)).setF (Reg.TIME_ALARM_CTRL_ARM n.val) 1).setF (Reg.TIME_ALARM_CTRL_FIRED n.val) 0).setF (Reg.TIME_ALARM_CTRL_LATE n.val) 0))) ∧
  (∀ (s : State) (req : Req) (n : Fin 2) (data : Word),
    Takes s req 0x04 (0x124 + 8 * n.val) → (s.answer 0).rtcDue n.val = false → bitAt data.toNat 31 = 0 →
    exec (.alarmWrite req (.rtc n) data) s = .next ((((s.answer 0).setF (Reg.RTC_ALARM_CTRL_WAKE n.val) (bitAt data.toNat 1)).setF (Reg.RTC_ALARM_CTRL_LOCAL n.val) (bitAt data.toNat 0)).setF (Reg.RTC_ALARM_CTRL_ARM n.val) 0)) ∧
  (∀ (s : State) (req : Req) (n : Fin 2) (data : Word),
    Takes s req 0x04 (0x124 + 8 * n.val) → (s.answer 0).rtcDue n.val = false → bitAt data.toNat 31 = 1 →
    exec (.alarmWrite req (.rtc n) data) s = .next (if ((((((s.answer 0).setF (Reg.RTC_ALARM_CTRL_WAKE n.val) (bitAt data.toNat 1)).setF (Reg.RTC_ALARM_CTRL_LOCAL n.val) (bitAt data.toNat 0)).setF (Reg.RTC_ALARM_CTRL_ARM n.val) 1).setF (Reg.RTC_ALARM_CTRL_FIRED n.val) 0).setF (Reg.RTC_ALARM_CTRL_LATE n.val) 0).rtcDue n.val then ((((((s.answer 0).setF (Reg.RTC_ALARM_CTRL_WAKE n.val) (bitAt data.toNat 1)).setF (Reg.RTC_ALARM_CTRL_LOCAL n.val) (bitAt data.toNat 0)).setF (Reg.RTC_ALARM_CTRL_ARM n.val) 1).setF (Reg.RTC_ALARM_CTRL_FIRED n.val) 0).setF (Reg.RTC_ALARM_CTRL_LATE n.val) 0).fireRtc n.val true else ((((((s.answer 0).setF (Reg.RTC_ALARM_CTRL_WAKE n.val) (bitAt data.toNat 1)).setF (Reg.RTC_ALARM_CTRL_LOCAL n.val) (bitAt data.toNat 0)).setF (Reg.RTC_ALARM_CTRL_ARM n.val) 1).setF (Reg.RTC_ALARM_CTRL_FIRED n.val) 0).setF (Reg.RTC_ALARM_CTRL_LATE n.val) 0))) ∧
  -- RTC_SET
  (∀ (s : State) (req : Req),
    TakesF s req Reg.RTC_SET_CTRL_SET →
    exec (.rtcSet req) s = .next ((s.answer 0).setF Reg.RTC_SET_CTRL_SET 1)) ∧
  (∀ s : State, s.flag Reg.RTC_SET_CTRL_SET = true → s.slowTick =
    (({ s with time := { s.time with slow := s.time.slow + 1, trimAt := s.time.trimAt + 1 } } : State).setF Reg.RTC_SET_CTRL_SET 0).rtcLoad (s.getF Reg.RTC_SET_SEC_SEC)) ∧
  -- RTC_SYNC_TB0
  (∀ (s : State) (req : Req),
    TakesF s req Reg.RTC_SET_CTRL_SYNC_TB0 → s.getF Reg.TIME_STAT_TB0_STATE = 2 →
    exec (.rtcSyncTb0 req) s = .next ((s.answer 0).setF Reg.RTC_SET_CTRL_SYNC_TB0 1)) ∧
  -- RTC_TRIM_TICK
  (∀ (s : State) (trim : Nat),
    2 ^ 20 ≤ s.time.trimAt → signedOf 8 (s.getF Reg.RTC_TRIM_TRIM) = (trim : Int) → s.time.rtcSub + trim < 32768 →
    exec .rtcTrimTick s = .next { s with time := { s.time with trimAt := s.time.trimAt - 2 ^ 20, rtcSub := s.time.rtcSub + trim } }) ∧
  (∀ (s : State) (trim : Nat),
    2 ^ 20 ≤ s.time.trimAt → signedOf 8 (s.getF Reg.RTC_TRIM_TRIM) = (trim : Int) → 32768 ≤ s.time.rtcSub + trim →
    exec .rtcTrimTick s = .next (({ s with time := { s.time with trimAt := s.time.trimAt - 2 ^ 20, rtcSub := (s.time.rtcSub + trim) % 32768 } } : State).rtcTick)) ∧
  (∀ (s : State) (trim : Nat),
    2 ^ 20 ≤ s.time.trimAt → signedOf 8 (s.getF Reg.RTC_TRIM_TRIM) = -(trim : Int) → s.time.rtcSub < 32768 →
    exec .rtcTrimTick s = .next { s with time := { s.time with trimAt := s.time.trimAt - 2 ^ 20, skip := s.time.skip + trim } }) ∧
  -- RET_LOST
  (∀ (s : State),
    ∃ t : State, exec .retLost s = .next t ∧ t.flag Reg.RTC_STAT_RET_LOST = true ∧ t.evr.staged = [] ∧ t.panel.lockUntil = none ∧ t.uplink.wakeCtr = 0) ∧
  -- BAT_COMPARATOR
  (∀ (s : State),
    exec (.batComparator false) s = .next ((s.setF Reg.RTC_STAT_BAT_LOW 1).irq Reg.RTC_IRQ_BAT)) ∧
  (∀ (s : State),
    exec (.batComparator true) s = .next (((s.setF Reg.RTC_STAT_BAT_LOW 1).irq Reg.RTC_IRQ_BAT).setF Reg.RTC_STAT_BAT_EXHAUSTED 1)) ∧
  -- OSC_STOP
  (∀ (s : State),
    exec .oscStop s = .next ((s.oscStopped.setF Reg.CLK_STAT_XT32_OK 0).event .oscStopped 0x04)) ∧
  -- BAT_MEASURE
  (∀ (s : State) (mv : BitVec 13),
    s.power.main = true → s.time.batAt + nsPerS ≤ s.tb1 →
    exec (.batMeasure mv) s = .next (({ s with time := { s.time with batAt := s.tb1 } } : State).setF Reg.RTC_BAT_MV_MV mv.toNat)) ∧
  -- RTC_CHG_WRITE
  (∀ (s : State) (req : Req) (data : Word),
    Takes s req (0x04) (0x134) → bitsOf data.toNat 15 8 = 0xC4 → bitsOf data.toNat 5 4 ≠ 3 → bitsOf data.toNat 2 1 ≠ 3 →
    exec (.rtcChgWrite req data) s = .next ((((s.answer 0).setF Reg.RTC_CHG_VLIM (bitsOf data.toNat 5 4)).setF Reg.RTC_CHG_ILIM (bitsOf data.toNat 2 1)).setF Reg.RTC_CHG_EN (bitAt data.toNat 0)))

/-- PTP_EVENT_RX hands an event message to the CPU port, a stamped Sync being a delivery to TB0, and stamps it for Kettle in LISTEN; PTP_ANNOUNCE_LEAP programs the leap second; PTP_TC_FORWARD corrects and forwards each kind of message in both modes of the transparent clock; PTP_TX_STAMP sends a message and queues its stamp. Each equation gives the whole next state. -/
def Obligations.PtpCommandsComplete : Prop :=
  -- PTP_EVENT_RX
  (∀ (s : State) (port : Fin 4) (msg : Bytes),
    ptpType msg < 4 → (ptpType msg ≠ 0 ∨ s.ptpStamps port.val = false) → s.domOn .port = true →
    exec (.ptpEventRx port msg) s = .next (s.ptpToCpu port.val msg)) ∧
  (∀ (s : State) (port : Fin 4) (msg : Bytes),
    ptpType msg = 0 → s.ptpStamps port.val = true → s.domOn .port = true →
    exec (.ptpEventRx port msg) s = .next (({ s with time := { s.time with syncAt := some s.tb1 } } : State).ptpToCpu port.val msg)) ∧
  (∀ (s : State) (msg : Bytes),
    ptpType msg < 4 → ptpType msg ≠ 0 → s.domOn .port = false → s.mode = .listen →
    exec (.ptpEventRx 3 msg) s = .next { s with time := { s.time with p3At := some (s.ptpNow 3) } }) ∧
  -- PTP_ANNOUNCE_LEAP
  (∀ (s : State) (a b : Bool),
    s.flag Reg.PTP_CTRL_LEAP_AUTO = true → (a || b) = true →
    exec (.ptpAnnounceLeap a b) s = .next ((s.setF Reg.RTC_LEAP_DAY (s.utcSec / 86400)).setF Reg.RTC_LEAP_DIR (if a then 1 else 2))) ∧
  -- PTP_TC_FORWARD
  (∀ (s : State) (i o : Fin 3) (frame msg : Bytes) (ago : BitVec 48),
    s.flag Reg.PTP_CTRL_TC_EN = true → s.tcPort i.val = true → s.tcPort o.val = true → ptpPart frame = some msg →
    ptpType msg = 0 → ptpTwoStep msg = true →
    exec (.ptpTcForward i o frame ago) s = .next (((s.count Reg.PTP_TWO_STEP_CNT_CNT).irq Reg.PTP_IRQ_TWO_STEP).ethNow o.val (s.ptpEnters i.val frame))) ∧
  (∀ (s : State) (i o : Fin 3) (frame msg : Bytes) (ago : BitVec 48),
    s.flag Reg.PTP_CTRL_TC_EN = true → s.tcPort i.val = true → s.tcPort o.val = true → ptpPart frame = some msg →
    ptpType msg = 0 → ptpTwoStep msg = false → s.flag Reg.PTP_CTRL_TC_MODE = false →
    exec (.ptpTcForward i o frame ago) s = .next ((s.tcCount (s.residence i.val o.val ago.toNat)).ethNow o.val (ptpFix (s.ptpEnters i.val frame) (s.residence i.val o.val ago.toNat)))) ∧
  (∀ (s : State) (i o : Fin 3) (frame msg : Bytes) (ago : BitVec 48),
    s.flag Reg.PTP_CTRL_TC_EN = true → s.tcPort i.val = true → s.tcPort o.val = true → ptpPart frame = some msg →
    ptpType msg = 0 → ptpTwoStep msg = false → s.flag Reg.PTP_CTRL_TC_MODE = true →
    exec (.ptpTcForward i o frame ago) s = .next ((s.tcCount (s.residence i.val o.val ago.toNat)).ethNow o.val (ptpFix (s.ptpEnters i.val frame) ((s.residence i.val o.val ago.toNat) + s.getF (Reg.PTP_PDELAY_DELAY i.val))))) ∧
  (∀ (s : State) (i o : Fin 3) (frame msg : Bytes) (ago : BitVec 48),
    s.flag Reg.PTP_CTRL_TC_EN = true → s.tcPort i.val = true → s.tcPort o.val = true → ptpPart frame = some msg →
    ptpType msg = 1 → s.flag Reg.PTP_CTRL_TC_MODE = false →
    exec (.ptpTcForward i o frame ago) s = .next ((s.tcCount (s.residence i.val o.val ago.toNat)).ethNow o.val (ptpFix (s.ptpEnters i.val frame) (s.residence i.val o.val ago.toNat)))) ∧
  (∀ (s : State) (i o : Fin 3) (frame msg : Bytes) (ago : BitVec 48),
    s.flag Reg.PTP_CTRL_TC_EN = true → s.tcPort i.val = true → s.tcPort o.val = true → ptpPart frame = some msg →
    (ptpType msg = 2 ∨ ptpType msg = 3 ∨ ptpType msg = 10) → s.flag Reg.PTP_CTRL_TC_MODE = false →
    exec (.ptpTcForward i o frame ago) s = .next (s.ethNow o.val (s.ptpEnters i.val frame))) ∧
  (∀ (s : State) (i o : Fin 3) (frame msg : Bytes) (ago : BitVec 48),
    s.flag Reg.PTP_CTRL_TC_EN = true → s.tcPort i.val = true → s.tcPort o.val = true → ptpPart frame = some msg →
    (ptpType msg = 2 ∨ ptpType msg = 3 ∨ ptpType msg = 10) → s.flag Reg.PTP_CTRL_TC_MODE = true →
    exec (.ptpTcForward i o frame ago) s = .next (s.ptpToCpu i.val msg)) ∧
  (∀ (s : State) (i o : Fin 3) (frame msg : Bytes) (ago : BitVec 48),
    s.flag Reg.PTP_CTRL_TC_EN = true → s.tcPort i.val = true → s.tcPort o.val = true → ptpPart frame = some msg →
    (ptpType msg = 8 ∨ ptpType msg = 9 ∨ ptpType msg = 11) →
    exec (.ptpTcForward i o frame ago) s = .next (s.ethNow o.val frame)) ∧
  -- PTP_TX_STAMP
  (∀ (s : State) (port : Fin 4) (msg : Bytes),
    exec (.ptpTxStamp port msg false) s = .next (s.emit (8 + port.val) (s.ptpEgress port.val msg))) ∧
  (∀ (s : State) (port : Fin 4) (msg : Bytes),
    s.ptpStamps port.val = true → s.domOn .time = true → ptpType msg < 4 → s.hasCredit 0x168 = true →
    exec (.ptpTxStamp port msg true) s = .next (((s.emit (8 + port.val) (s.ptpEgress port.val msg)).enq 0x168
      { body := .bytes (stampItem port.val msg (s.ptpNow port.val + s.getF (Reg.PTP_EGR_LAT_LAT port.val))) }).irq Reg.PTP_IRQ_TX_STAMP)) ∧
  (∀ (s : State) (port : Fin 4) (msg : Bytes),
    s.ptpStamps port.val = true → s.domOn .time = true → ptpType msg < 4 → s.hasCredit 0x168 = false →
    exec (.ptpTxStamp port msg true) s = .next ((s.emit (8 + port.val) (s.ptpEgress port.val msg)).count Reg.PTP_TX_DROP_CNT_CNT))

/-- Each command of a PLC port, on a port that is enabled, in service and in the role it belongs to: a frame received is measured and taken, acknowledged or counted, an ACK goes out or times out, the contention for the line runs and ends in a transmission, beacons and announcements are sent, a join, a tone map request and a LEAVE are handled where their header is for the port, members age, tone maps are updated, application acknowledgements and downlink items are taken, a calibration starts, and the port is fenced and let go. Each equation gives the whole next state. -/
def Obligations.PlcCommandsComplete : Prop :=
  -- PLC_FRAME_RX
  (∀ (s : State) (port : Fin 4) (fch mac : Bytes) (rx : PlcRx) (t u w x v : State) (h : PlcFch) (ack : Bool),
    s.portOn port.val = true → t = (s.setGain port.val rx.agc.toNat).count (Reg.PLC_ERASED_CNT_CNT port.val) (rx.symbols.filter (s.symbolErased port.val)).length →
    t.plcHeard port.val fch = (some h, u) → h.ftype = 0 → u.plcForMe port.val h = true → w = u.measure port.val h rx.symbols →
    decoded (w.plcLost port.val h mac rx.symbols) rx.blocks = true → plcMacOk mac = true →
    w.track port.val = false → leAt mac 0 1 = 1 → 1 ≤ h.src → h.src ≤ 0x800 → x = w.hear port.val h.src →
    x.takeMeter port.val h.src h.seq ((mac.drop 4).take (mac.length - 8)) = (v, ack) →
    exec (.plcFrameRx port fch mac rx) s = .next (v.oweAck port.val h ack)) ∧
  (∀ (s : State) (port : Fin 4) (fch mac : Bytes) (rx : PlcRx) (t u w : State) (h : PlcFch),
    s.portOn port.val = true → t = (s.setGain port.val rx.agc.toNat).count (Reg.PLC_ERASED_CNT_CNT port.val) (rx.symbols.filter (s.symbolErased port.val)).length →
    t.plcHeard port.val fch = (some h, u) → h.ftype = 0 → u.plcForMe port.val h = true → w = u.measure port.val h rx.symbols →
    decoded (w.plcLost port.val h mac rx.symbols) rx.blocks = true → plcMacOk mac = true →
    w.track port.val = false → exec (.plcFrameRx port fch mac rx) s = .next (w.plcTaken port.val h mac)) ∧
  (∀ (s : State) (port : Fin 4) (fch mac : Bytes) (rx : PlcRx) (t u w : State) (h : PlcFch),
    s.portOn port.val = true → t = (s.setGain port.val rx.agc.toNat).count (Reg.PLC_ERASED_CNT_CNT port.val) (rx.symbols.filter (s.symbolErased port.val)).length →
    t.plcHeard port.val fch = (some h, u) → h.ftype = 0 → u.plcForMe port.val h = true → w = u.measure port.val h rx.symbols →
    decoded (w.plcLost port.val h mac rx.symbols) rx.blocks = true → plcMacOk mac = true →
    w.track port.val = true → exec (.plcFrameRx port fch mac rx) s = .next (w.plcTracked port.val h mac)) ∧
  (∀ (s : State) (port : Fin 4) (fch mac : Bytes) (rx : PlcRx) (t u : State) (h : PlcFch),
    s.portOn port.val = true → t = (s.setGain port.val rx.agc.toNat).count (Reg.PLC_ERASED_CNT_CNT port.val) (rx.symbols.filter (s.symbolErased port.val)).length →
    t.plcHeard port.val fch = (some h, u) → h.ftype = 1 → exec (.plcFrameRx port fch mac rx) s = .next (u.plcAcked port.val h)) ∧
  (∀ (s : State) (port : Fin 4) (fch mac : Bytes) (rx : PlcRx) (t u w : State) (h : PlcFch),
    s.portOn port.val = true → t = (s.setGain port.val rx.agc.toNat).count (Reg.PLC_ERASED_CNT_CNT port.val) (rx.symbols.filter (s.symbolErased port.val)).length →
    t.plcHeard port.val fch = (some h, u) → h.ftype = 0 → u.plcForMe port.val h = true → w = u.measure port.val h rx.symbols →
    (decoded (w.plcLost port.val h mac rx.symbols) rx.blocks = false ∨ plcMacOk mac = false) →
    exec (.plcFrameRx port fch mac rx) s = .next (w.count (Reg.PLC_RX_CRC_CNT_CNT port.val))) ∧
  (∀ (s : State) (port : Fin 4) (fch mac : Bytes) (rx : PlcRx) (t u : State),
    s.portOn port.val = true → t = (s.setGain port.val rx.agc.toNat).count (Reg.PLC_ERASED_CNT_CNT port.val) (rx.symbols.filter (s.symbolErased port.val)).length →
    t.plcHeard port.val fch = (none, u) → exec (.plcFrameRx port fch mac rx) s = .next u) ∧
  (∀ (s : State) (port : Fin 4) (fch mac : Bytes) (rx : PlcRx) (t u : State) (h : PlcFch),
    s.portOn port.val = true → t = (s.setGain port.val rx.agc.toNat).count (Reg.PLC_ERASED_CNT_CNT port.val) (rx.symbols.filter (s.symbolErased port.val)).length →
    t.plcHeard port.val fch = (some h, u) → h.ftype ≠ 1 → u.plcForMe port.val h = false → exec (.plcFrameRx port fch mac rx) s = .next u) ∧
  -- PLC_ACK_SEND
  (∀ (s t : State) (port : Fin 4) (a : OwedAck) (gen : Nat),
    s.portOn port.val = true → s.track port.val = false → (s.port port.val).ack = some a → a.due ≤ s.tb1 →
    gen = ((s.portNode port.val a.dst).map (·.rxGen)).getD 0 → t = s.setPort port.val { s.port port.val with ack := none } →
    s.hitsGuard port.val (s.plcHead port.val) = false →
    exec (.plcAckSend port) s = .next (t.transmit port.val (t.plcFch port.val 1 0 0 gen 0 (t.plcPh0 port.val) a.dst a.seq) [] ⟨[], false, gen, t.plcPh0 port.val, 0⟩)) ∧
  (∀ (s t : State) (port : Fin 4) (a : OwedAck),
    s.portOn port.val = true → s.track port.val = false → (s.port port.val).ack = some a → a.due ≤ s.tb1 →
    t = s.setPort port.val { s.port port.val with ack := none } → s.hitsGuard port.val (s.plcHead port.val) = true →
    exec (.plcAckSend port) s = .next t) ∧
  -- PLC_ACK_TIMEOUT
  (∀ (s u : State) (port : Fin 4) (t : PortTx) (a : Nat),
    (s.port port.val).wait = some (t, a) → a ≤ s.tb1 →
    u = s.setPort port.val { s.port port.val with wait := none, cw := (s.port port.val).cw + 1 } →
    t.attempts < 1 + s.getF (Reg.PLC_ACCESS_CFG_RETRY_MAX port.val) →
    exec (.plcAckTimeout port) s = .next (u.setPort port.val { u.port port.val with out := t :: (u.port port.val).out })) ∧
  (∀ (s u : State) (port : Fin 4) (t : PortTx) (a : Nat),
    (s.port port.val).wait = some (t, a) → a ≤ s.tb1 →
    u = s.setPort port.val { s.port port.val with wait := none, cw := (s.port port.val).cw + 1 } →
    1 + s.getF (Reg.PLC_ACCESS_CFG_RETRY_MAX port.val) ≤ t.attempts →
    exec (.plcAckTimeout port) s = .next (u.txDone port.val t 2)) ∧
  -- PLC_CONTENTION
  (∀ (s u v : State) (port : Fin 4) (heard : Option (Fin 4)) (t : PortTx) (slots sync : Nat),
    contender (s.port port.val).out = some t → s.portOn port.val = true → s.track port.val = false → (s.port port.val).wait = none →
    (s.port port.val).contend = none → (s.port port.val).freeAt ≤ s.tb1 → (∀ h : Fin 4, heard = some h → h.val ≤ t.prio) →
    slots = s.plcTrigger port.val + s.getF (Reg.PLC_ACCESS_CFG_LW_SYM port.val) * 350000 → s.plcMayStart port.val (slots + 2800000 - s.tb1) = true → sync = slots + (3 - t.prio) * 700000 →
    u = s.drawBackoff port.val t → v = u.drive port.val sync (sync + 320000) (List.replicate (u.plcNu port.val) 16) →
    exec (.plcContention port heard) s = .next (v.setPort port.val { v.port port.val with contend := some (t.id, slots + 2800000), sync := some sync })) ∧
  (∀ (s : State) (port h : Fin 4) (t : PortTx) (slots : Nat),
    contender (s.port port.val).out = some t → s.portOn port.val = true → s.track port.val = false → (s.port port.val).wait = none →
    (s.port port.val).contend = none → (s.port port.val).freeAt ≤ s.tb1 → t.prio < h.val →
    slots = s.plcTrigger port.val + s.getF (Reg.PLC_ACCESS_CFG_LW_SYM port.val) * 350000 → s.plcMayStart port.val (slots + 2800000 - s.tb1) = true →
    exec (.plcContention port (some h)) s = .next (s.drawBackoff port.val t)) ∧
  -- PLC_BACKOFF_EXPIRE
  (∀ (s : State) (port : Fin 4) (i b : Nat) (t : PortTx),
    (s.port port.val).contend = some (i, b) → ((s.port port.val).out.find? (fun t => t.id == i) = some t) → s.portOn port.val = true →
    s.track port.val = false → b + t.backoff.getD 0 * 700000 ≤ s.tb1 →
    (s.plcMayStart port.val (s.plcHead port.val + (s.plcPlan port.val t (plcMac t.mtype 0 t.body).length).nsym * 350000 + (if t.ackReq then s.plcAckEnd port.val else 0)) = true) →
    exec (.plcBackoffExpire port) s = .next (s.plcSend port.val t)) ∧
  -- PLC_BEACON_TX
  (∀ (s : State) (port : Fin 4) (b n : Nat) (body : Bytes),
    s.portOn port.val = true → s.track port.val = false → s.flag (Reg.PLC_CTRL_ACCESS port.val) = false → (s.port port.val).next ≤ s.ns3 →
    (b = (if s.ns3 < (s.port port.val).next + s.beaconPeriod port.val then (s.port port.val).next else s.beaconFrom port.val (s.ns3 + 1 - s.beaconPeriod port.val))) →
    n = s.beaconFrom port.val (b + s.beaconPeriod port.val) →
    body = s.beaconBody port.val b n (s.getF (Reg.PLC_BEACON_CFG_NSLOT port.val)) (s.getF (Reg.PLC_SLOT_CFG_SLOT_MS port.val)) (s.getF (Reg.PLC_SLOT_CFG_CAP_MS port.val)) →
    exec (.plcBeaconTx port) s = .next ((s.setPort port.val { s.port port.val with next := n, beaconAt := b, period := s.beaconPeriod port.val, bsn := ((s.port port.val).bsn + 1) % 65536, contend := none }).plcSend port.val { id := (s.port port.val).outNext, mtype := 0x30, body := body })) ∧
  -- PLC_ANNOUNCE_TX
  (∀ (s : State) (port : Fin 4) (n : Nat),
    s.portOn port.val = true → s.track port.val = false → s.flag (Reg.PLC_CTRL_ACCESS port.val) = true → (s.port port.val).next ≤ s.ns3 →
    n = s.beaconFrom port.val (s.ns3 + s.beaconPeriod port.val) →
    exec (.plcAnnounceTx port) s = .next ((s.setPort port.val { s.port port.val with next := n, bsn := ((s.port port.val).bsn + 1) % 65536 }).toSend port.val { mtype := 0x30, body := s.beaconBody port.val s.ns3 n 0 0 0, prio := (s.setPort port.val { s.port port.val with next := n, bsn := ((s.port port.val).bsn + 1) % 65536 }).getF (Reg.PLC_PRIO_ANNOUNCE port.val) })) ∧
  -- PLC_JOIN_REQ
  (∀ (s t : State) (port : Fin 4) (fch : Bytes) (ident : BitVec 64) (b : Bool) (rx : PlcRx) (h : PlcFch),
    s.portOn port.val = true → s.plcReceive port.val fch (plcMac 0x10 0 (beBytes 8 ident.toNat ++ [if b then 1 else 0])) rx = (some h, t) → h.ftype = 0 → h.src = 0xFFFE → t.track port.val = false →
    exec (.plcJoinReq port fch ident b rx) s = .next (((t.hear port.val h.src).decideJoin port.val ident.toNat).oweAck port.val h true)) ∧
  (∀ (s t u : State) (port : Fin 4) (fch : Bytes) (ident : BitVec 64) (b : Bool) (rx : PlcRx) (h : PlcFch) (nodes : List (Nat × PortNode)) (a : Nat),
    s.portOn port.val = true → s.plcReceive port.val fch (plcMac 0x10 0 (beBytes 8 ident.toNat ++ [if b then 1 else 0])) rx = (some h, t) → h.ftype = 0 → h.src = 0xFFFE → t.track port.val = false →
    u = t.hear port.val h.src → nodes = (u.port port.val).nodes.filterMap (fun e => e.2.map (fun n => (e.1, n))) →
    u.flag (Reg.PLC_JOIN_CFG_OPEN port.val) = true → u.flag (Reg.PLC_JOIN_CFG_POLICY port.val) = true → u.flag (Reg.PLC_CTRL_ACCESS port.val) = true →
    u.portAddr port.val ident.toNat = none → nodes.length < 2048 → u.hasCredit 0x80 = true → lowestFree (nodes.map (·.1)) 1 2048 = some a →
    exec (.plcJoinReq port fch ident b rx) s = .next (((u.putNode port.val a (some { id := ident.toNat, slot := 0x1FF, heardAt := u.tb1 })).enq 0x80
      { body := .orderedItem (.join (joinBytes port.val ident.toNat a 0x1FF)) }).oweAck port.val h true)) ∧
  -- PLC_NODE_AGE
  (∀ (s : State) (port : Fin 4) (addr : BitVec 16) (n : PortNode) (hours : Nat),
    s.portOn port.val = true → s.portNode port.val addr.toNat = some n → n.joined = true → hours = s.getF (Reg.PLC_JOIN_CFG_AGE_H port.val) → hours ≠ 0 →
    n.heardAt + hours * 3600 * nsPerS ≤ s.tb1 →
    exec (.plcNodeAge port addr) s = .next (((s.putNode port.val addr.toNat none).countNodes port.val).irq (Reg.PLC_IRQ_NODE_REMOVED port.val))) ∧
  -- PLC_TM_UPDATE
  (∀ (s : State) (port : Fin 4) (addr : BitVec 16) (force : BitVec 6) (n : PortNode) (set : Bytes),
    s.portOn port.val = true → s.track port.val = false → s.portNode port.val addr.toNat = some n →
    set = (List.range 6).flatMap (fun seg => s.newMap port.val n seg (n.rxGen % 15 + 1) (force.getLsbD seg)) →
    mapsOf set ≠ mapsOf (s.setInForce port.val n) →
    exec (.plcTmUpdate port addr force) s = .next (((s.putNode port.val addr.toNat (some { n with rx := set, rxGen := n.rxGen % 15 + 1, rxPrev := n.rx, rxPrevGen := n.rxGen })).irq (Reg.PLC_IRQ_TM_CHANGE port.val)).toSend port.val { dst := addr.toNat, mtype := 0x21, body := set, prio := 2 })) ∧
  -- PLC_TM_REQ
  (∀ (s t u : State) (port : Fin 4) (fch : Bytes) (rx : PlcRx) (h : PlcFch) (n : PortNode),
    s.portOn port.val = true → s.plcReceive port.val fch (plcMac 0x20 0 []) rx = (some h, t) → h.ftype = 0 → t.track port.val = false →
    u = t.hear port.val h.src → u.portNode port.val h.src = some n →
    exec (.plcTmReq port fch rx) s = .next ((u.toSend port.val { dst := h.src, mtype := 0x21, body := u.setInForce port.val n, prio := 2 }).oweAck port.val h true)) ∧
  -- PLC_BEACON_RX
  (∀ (s t u : State) (port : Fin 4) (fch body : Bytes) (rx : PlcRx) (h : PlcFch) (start : Nat),
    s.portOn port.val = true → s.plcReceive port.val fch (plcMac 0x30 0 body) rx = (some h, t) → h.ftype = 2 → t.track port.val = true →
    u = (t.hear port.val h.src).forwardFrame port.val h.src h.seq (plcMac 0x30 0 body) → start = u.ns3 - (u.plcHead port.val + h.nsym * 350000) →
    (u.nodeStateOf port.val ≤ 1 ∨ (start ≤ (u.port port.val).next + 1000000 ∧ (u.port port.val).next ≤ start + 1000000)) →
    exec (.plcBeaconRx port fch body rx) s = .next (u.hearBeacon port.val (start + beAt body 22 4 * 1000) (200000000 * 2 ^ (leAt body 16 1 % 8)) 3)) ∧
  -- PLC_BEACON_MISS
  (∀ (s : State) (port : Fin 4),
    s.portOn port.val = true → s.track port.val = true → s.flag (Reg.PLC_CTRL_ACCESS port.val) = false → 3 ≤ s.nodeStateOf port.val →
    (s.port port.val).next + 1000000 < s.ns3 →
    exec (.plcBeaconMiss port) s = .next (s.missBeacon port.val)) ∧
  -- PLC_LEAVE
  (∀ (s t : State) (port : Fin 4) (fch : Bytes) (reason : BitVec 8) (rx : PlcRx) (h : PlcFch),
    s.portOn port.val = true → s.plcReceive port.val fch (plcMac 0x12 0 [reason]) rx = (some h, t) → h.ftype = 0 → t.track port.val = true →
    (h.dst = 0 ∨ h.dst = 0xFFFF) →
    exec (.plcLeave port fch reason rx) s = .next (((t.hear port.val h.src).forwardFrame port.val h.src h.seq (plcMac 0x12 0 [reason])).nodeState port.val 1)) ∧
  (∀ (s t : State) (port : Fin 4) (fch : Bytes) (reason : BitVec 8) (rx : PlcRx) (h : PlcFch),
    s.portOn port.val = true → s.plcReceive port.val fch (plcMac 0x12 0 [reason]) rx = (some h, t) → h.ftype = 0 → t.track port.val = false →
    exec (.plcLeave port fch reason rx) s = .next ((t.hear port.val h.src).oweAck port.val h true)) ∧
  -- PLC_APP_ACK_SEND
  (∀ (s t u : State) (port : Fin 4) (a : Ack) (addr : Nat) (o : Option Bytes),
    s.portOn (port.val) = true → s.deqHeld (portEnd (port.val) 0) = some (⟨.ack a, 0⟩, t) → t.hintAddr a.meter (port.val) = some addr →
    t.ackFrame a (t.title (Reg.PLC_ACK_TITLE_HI_TITLE port.val) (Reg.PLC_ACK_TITLE_LO_TITLE port.val)) = (o, u) →
    exec (.plcAppAckSend port 0) s = .next (match o with
      | none => (u.count (Reg.PLC_ACK_DISCARD_CNT_CNT port.val)).creditBack (portEnd (port.val) 0)
      | some b =>
        if (u.output (port.val + 1) b).orders = true then
          (u.output (port.val + 1) b).toSend (port.val) { dst := addr, mtype := 2, body := b, prio := (u.output (port.val + 1) b).getF (Reg.PLC_PRIO_APP_ACK port.val), ackItem := true }
        else (u.output (port.val + 1) b).creditBack (portEnd (port.val) 0))) ∧
  (∀ (s t : State) (port : Fin 4) (a : Ack),
    s.portOn (port.val) = true → s.deqHeld (portEnd (port.val) 0) = some (⟨.ack a, 0⟩, t) → t.hintAddr a.meter (port.val) = none →
    exec (.plcAppAckSend port 0) s = .next ((t.count (Reg.PLC_ACK_DISCARD_CNT_CNT port.val)).creditBack (portEnd (port.val) 0))) ∧
  -- PLC_DOWNLINK_ITEM
  (∀ (s u v : State) (port : Fin 4) (sub : Option Submission) (b : Bytes) (w : Nat),
    u = s.submitted (portEnd (port.val) 1) sub (fun x => .bytes x.item) → u.portOn (port.val) = true → u.downOpen (port.val) < (u.queue (portEnd (port.val) 2)).credits →
    (u.queue (portEnd (port.val) 1)).items.head? = some ⟨.bytes b, 0⟩ → b.length = 16 + leAt b 8 4 → leAt b 8 4 ≤ 600 → w = leAt b 0 4 → bitAt w 16 = 0 →
    v = (u.popped (portEnd (port.val) 1)).output (port.val + 1) (b.drop 16) → v.orders = true →
    exec (.plcDownlinkItem port sub) s = .next (v.toSend (port.val) { dst := bitsOf w 15 0, mtype := 2, body := b.drop 16, prio := bitsOf w 19 18, ackReq := bitAt w 20 == 1, tag := some (bitsOf w 31 24) })) ∧
  (∀ (s u : State) (port : Fin 4) (sub : Option Submission) (b : Bytes) (n : Nat),
    u = s.submitted (portEnd (port.val) 1) sub (fun x => .bytes x.item) → u.portOn (port.val) = true → u.downOpen (port.val) < (u.queue (portEnd (port.val) 2)).credits →
    (u.queue (portEnd (port.val) 1)).items.head? = some ⟨.bytes b, n⟩ → (n ≠ 0 ∨ b.length ≠ 16 + leAt b 8 4 ∨ 600 < leAt b 8 4) →
    exec (.plcDownlinkItem port sub) s = .next ((u.popped (portEnd (port.val) 1)).downDone (port.val) (bitsOf (leAt b 0 4) 31 24) 5 0 0)) ∧
  -- PLC_CALIBRATE
  (∀ (s : State) (port : Fin 4) (temp : BitVec 8) (corr : BitVec 48),
    s.portOn port.val = true → s.calDue port.val temp.toInt = true → s.calSilent port.val = true → (s.port port.val).calEnd = none →
    exec (.plcCalibrate port temp corr) s = .next (s.setPort port.val { s.port port.val with
      calAt := s.tb1, calTemp := some temp.toInt, calEnd := some (s.tb1 + 400000), calNew := some corr.toNat })) ∧
  -- PLC_FENCE
  (∀ (s t : State) (req : Req) (port : Fin 4),
    TakesT s req (Reg.PLC_CTRL_FENCE port.val) → s.flag (Reg.PLC_CTRL_FENCE port.val) = false →
    t = (((s.answer 0).setF (Reg.PLC_CTRL_FENCE port.val) 1).fencePort port.val).dropSync port.val →
    exec (.plcFence req port) s = .next (if t.tb1 + 10000000 < (t.port port.val).txEnd then t.cutLine port.val (symbolEnd (t.port port.val).txStart t.tb1) else t)) ∧
  -- PLC_UNFENCE
  (∀ (s t : State) (req : Req) (port : Fin 4),
    TakesT s req (Reg.PLC_CTRL_FENCE port.val) → s.flag (Reg.PLC_CTRL_FENCE port.val) = true →
    t = (s.answer 0).setF (Reg.PLC_CTRL_FENCE port.val) 0 → t.track port.val = false →
    exec (.plcUnfence req port) s = .next (t.newSchedule port.val (t.beaconFrom port.val t.ns3))) ∧
  (∀ (s t : State) (req : Req) (port : Fin 4),
    TakesT s req (Reg.PLC_CTRL_FENCE port.val) → s.flag (Reg.PLC_CTRL_FENCE port.val) = true →
    t = (s.answer 0).setF (Reg.PLC_CTRL_FENCE port.val) 0 → t.track port.val = true →
    exec (.plcUnfence req port) s = .next t)

/-- Each command of a radio port, on a port that is enabled, in service and in the role it belongs to: a timeslot begins in a cell that sends, that carries an enhanced beacon or that receives, or with no cell; frames are received and acknowledged or time out; association is decided; enhanced beacons are heard and missed; duty-cycle buckets roll; the downlink limit, application acknowledgements and downlink items are handled; the port is fenced and let go; the raw control word is sent; a member ages. Each equation gives the whole next state. -/
def Obligations.RadioCommandsComplete : Prop :=
  -- RAD_TIMESLOT_START
  (∀ (s t u v w : State) (port : Fin 4) (busy : Bool) (a chan : Nat) (l : Link) (here : List Link),
    s.portOn (port.val + 4) = true → s.coordinates (port.val + 4) = true → s.asnRuns port.val = true → a = s.asn port.val → (s.port (port.val + 4)).slotLast ≠ some a →
    ((s.port (port.val + 4)).cell = none ∨ (s.port (port.val + 4)).cellEnd ≤ a) →
    here = (s.links port.val).filter (fun l => s.getF (Reg.RAD_SF_LEN_LEN port.val l.sf) != 0 && a % s.getF (Reg.RAD_SF_LEN_LEN port.val l.sf) == l.slot) →
    pickLink (s.port (port.val + 4)).out (s.links port.val) here = some l →
    t = (s.setPort (port.val + 4) { s.port (port.val + 4) with slotLast := some a }).rollFirst port.val → chan = t.cellChannel port.val l a →
    u = (t.count (Reg.RAD_SKIP_CNT_CNT port.val) (here.length - 1)).tune port.val chan →
    v = u.setPort (port.val + 4) { u.port (port.val + 4) with cell := some (bitIf l.shared 0, a), cellEnd := a + l.len } → v.coordinates (port.val + 4) = true →
    v.ebCell port.val l a = false → l.tx = true → w = (if l.rx = true then v.openWindow port.val (v.tb1 + 1020000) (v.tb1 + 3220000) else v) →
    (w.entriesOf port.val chan).isEmpty = false → exec (.radTimeslotStart port busy) s = .next (w.runTx port.val chan a l (s.links port.val) busy)) ∧
  (∀ (s t u v w : State) (port : Fin 4) (busy : Bool) (a chan : Nat) (l : Link) (here : List Link),
    s.portOn (port.val + 4) = true → s.coordinates (port.val + 4) = true → s.asnRuns port.val = true → a = s.asn port.val → (s.port (port.val + 4)).slotLast ≠ some a →
    ((s.port (port.val + 4)).cell = none ∨ (s.port (port.val + 4)).cellEnd ≤ a) →
    here = (s.links port.val).filter (fun l => s.getF (Reg.RAD_SF_LEN_LEN port.val l.sf) != 0 && a % s.getF (Reg.RAD_SF_LEN_LEN port.val l.sf) == l.slot) →
    pickLink (s.port (port.val + 4)).out (s.links port.val) here = some l →
    t = (s.setPort (port.val + 4) { s.port (port.val + 4) with slotLast := some a }).rollFirst port.val → chan = t.cellChannel port.val l a →
    u = (t.count (Reg.RAD_SKIP_CNT_CNT port.val) (here.length - 1)).tune port.val chan →
    v = u.setPort (port.val + 4) { u.port (port.val + 4) with cell := some (bitIf l.shared 0, a), cellEnd := a + l.len } → v.coordinates (port.val + 4) = true →
    v.ebCell port.val l a = false → l.tx = true → w = (if l.rx = true then v.openWindow port.val (v.tb1 + 1020000) (v.tb1 + 3220000) else v) →
    (w.entriesOf port.val chan).isEmpty = true → exec (.radTimeslotStart port busy) s = .next (w.count (Reg.RAD_OUT_OF_BAND_CNT_CNT port.val))) ∧
  (∀ (s t u v x w : State) (port : Fin 4) (busy : Bool) (a chan : Nat) (l : Link) (here : List Link),
    s.portOn (port.val + 4) = true → s.coordinates (port.val + 4) = true → s.asnRuns port.val = true → a = s.asn port.val → (s.port (port.val + 4)).slotLast ≠ some a →
    ((s.port (port.val + 4)).cell = none ∨ (s.port (port.val + 4)).cellEnd ≤ a) →
    here = (s.links port.val).filter (fun l => s.getF (Reg.RAD_SF_LEN_LEN port.val l.sf) != 0 && a % s.getF (Reg.RAD_SF_LEN_LEN port.val l.sf) == l.slot) →
    pickLink (s.port (port.val + 4)).out (s.links port.val) here = some l →
    t = (s.setPort (port.val + 4) { s.port (port.val + 4) with slotLast := some a }).rollFirst port.val → chan = t.cellChannel port.val l a →
    u = (t.count (Reg.RAD_SKIP_CNT_CNT port.val) (here.length - 1)).tune port.val chan →
    v = u.setPort (port.val + 4) { u.port (port.val + 4) with cell := some (bitIf l.shared 0, a), cellEnd := a + l.len } → v.coordinates (port.val + 4) = true →
    v.ebCell port.val l a = true →
    x = v.setPort (port.val + 4) { v.port (port.val + 4) with next := v.ns3 + v.ebPeriod port.val, period := v.ebPeriod port.val } →
    x.coordinates (port.val + 4) = true → w = (if l.rx = true then x.openWindow port.val (x.tb1 + 1020000) (x.tb1 + 3220000) else x) →
    (w.entriesOf port.val chan).isEmpty = false → w.coordinates (port.val + 4) = true →
    exec (.radTimeslotStart port busy) s = .next (w.sendEb port.val chan (w.tb1 + 2120000) a l.len)) ∧
  (∀ (s t u v w : State) (port : Fin 4) (busy : Bool) (a chan : Nat) (l : Link) (here : List Link),
    s.portOn (port.val + 4) = true → s.coordinates (port.val + 4) = true → s.asnRuns port.val = true → a = s.asn port.val → (s.port (port.val + 4)).slotLast ≠ some a →
    ((s.port (port.val + 4)).cell = none ∨ (s.port (port.val + 4)).cellEnd ≤ a) →
    here = (s.links port.val).filter (fun l => s.getF (Reg.RAD_SF_LEN_LEN port.val l.sf) != 0 && a % s.getF (Reg.RAD_SF_LEN_LEN port.val l.sf) == l.slot) →
    pickLink (s.port (port.val + 4)).out (s.links port.val) here = some l →
    t = (s.setPort (port.val + 4) { s.port (port.val + 4) with slotLast := some a }).rollFirst port.val → chan = t.cellChannel port.val l a →
    u = (t.count (Reg.RAD_SKIP_CNT_CNT port.val) (here.length - 1)).tune port.val chan →
    v = u.setPort (port.val + 4) { u.port (port.val + 4) with cell := some (bitIf l.shared 0, a), cellEnd := a + l.len } → v.coordinates (port.val + 4) = true →
    v.ebCell port.val l a = false → l.tx = false → w = (if l.rx = true then v.openWindow port.val (v.tb1 + 1020000) (v.tb1 + 3220000) else v) →
    exec (.radTimeslotStart port busy) s = .next w) ∧
  (∀ (s t : State) (port : Fin 4) (busy : Bool),
    s.portOn (port.val + 4) = true → s.coordinates (port.val + 4) = true → s.asnRuns port.val = true → (s.port (port.val + 4)).slotLast ≠ some (s.asn port.val) →
    t = (s.setPort (port.val + 4) { s.port (port.val + 4) with slotLast := some (s.asn port.val) }).rollFirst port.val →
    (s.port (port.val + 4)).cell = none → s.links port.val = [] →
    exec (.radTimeslotStart port busy) s = .next (t.setPort (port.val + 4) { t.port (port.val + 4) with cell := none })) ∧
  -- RAD_FRAME_RX
  (∀ (s : State) (port : Fin 4) (psdu b p : Bytes) (corr : BitVec 12) (h : RadHead) (ies : Nat) (c : Option Nat),
    s.portOn (port.val + 4) = true → 3 + s.fcsLen port.val ≤ psdu.length → psdu.length ≤ 2047 → s.radHears port.val (s.tb1 - s.airtime port.val psdu.length) = true →
    b = psdu.take (psdu.length - s.fcsLen port.val) → b ++ s.fcs port.val b = psdu → h = readRadHead b → h.type = 1 → h.pan = s.getF (Reg.RAD_PAN_PANID port.val) → radIes h b = (ies, c) →
    h.dst = 0xFFFF → s.unsecure port.val (s.cellAsn port.val) (((s.portNode (port.val + 4) h.src).map (·.id)).getD 0) h ies b = some p →
    exec (.radFrameRx port psdu corr false false) s = .next ((s.takeCorrection port.val h.src c).radData port.val h corr.toNat true p)) ∧
  (∀ (s u v : State) (port : Fin 4) (psdu b p : Bytes) (corr : BitVec 12) (h : RadHead) (ies : Nat) (c : Option Nat),
    s.portOn (port.val + 4) = true → 3 + s.fcsLen port.val ≤ psdu.length → psdu.length ≤ 2047 → s.radHears port.val (s.tb1 - s.airtime port.val psdu.length) = true →
    b = psdu.take (psdu.length - s.fcsLen port.val) → b ++ s.fcs port.val b = psdu → h = readRadHead b → h.type = 1 → h.pan = s.getF (Reg.RAD_PAN_PANID port.val) → radIes h b = (ies, c) →
    h.dst = (if s.member (port.val + 4) then s.getF (Reg.RAD_SHORT_ADDR_ADDR port.val) else 0) → h.ar = true → s.unsecure port.val (s.cellAsn port.val) (((s.portNode (port.val + 4) h.src).map (·.id)).getD 0) h ies b = some p →
    u = s.takeCorrection port.val h.src c → u.track (port.val + 4) = false → leAt p 0 1 = 1 →
    (u.hear (port.val + 4) h.src).takeMeter (port.val + 4) h.src h.dsn (p.drop 1) = (v, true) →
    exec (.radFrameRx port psdu corr false false) s = .next (v.setPort (port.val + 4) { v.port (port.val + 4) with ack := some ⟨h.src, h.dsn, v.tb1 + 1000000, corr.toNat⟩ })) ∧
  (∀ (s u : State) (port : Fin 4) (psdu b p : Bytes) (corr : BitVec 12) (h : RadHead) (ies : Nat) (c : Option Nat),
    s.portOn (port.val + 4) = true → 3 + s.fcsLen port.val ≤ psdu.length → psdu.length ≤ 2047 → s.radHears port.val (s.tb1 - s.airtime port.val psdu.length) = true →
    b = psdu.take (psdu.length - s.fcsLen port.val) → b ++ s.fcs port.val b = psdu → h = readRadHead b → h.type = 1 → h.pan = s.getF (Reg.RAD_PAN_PANID port.val) → radIes h b = (ies, c) →
    s.track (port.val + 4) = true → s.unsecure port.val (s.cellAsn port.val) (((s.portNode (port.val + 4) h.src).map (·.id)).getD 0) h ies b = some p → u = s.takeCorrection port.val h.src c →
    u.track (port.val + 4) = true → h.dst ≠ 0 → h.dst ≠ 0xFFFF → s.member (port.val + 4) = false →
    exec (.radFrameRx port psdu corr false false) s = .next ((u.hear (port.val + 4) h.src).forwardFrame (port.val + 4) h.src h.dsn ([1] ++ p))) ∧
  (∀ (s : State) (port : Fin 4) (psdu b : Bytes) (corr : BitVec 12),
    s.portOn (port.val + 4) = true → 3 + s.fcsLen port.val ≤ psdu.length → psdu.length ≤ 2047 → s.radHears port.val (s.tb1 - s.airtime port.val psdu.length) = true →
    b = psdu.take (psdu.length - s.fcsLen port.val) → b ++ s.fcs port.val b = psdu → (readRadHead b).type = 2 → s.track (port.val + 4) = false →
    exec (.radFrameRx port psdu corr false false) s = .next (s.radAcked port.val (readRadHead b) b)) ∧
  (∀ (s : State) (port : Fin 4) (psdu b : Bytes) (corr : BitVec 12),
    s.portOn (port.val + 4) = true → 3 + s.fcsLen port.val ≤ psdu.length → psdu.length ≤ 2047 → s.radHears port.val (s.tb1 - s.airtime port.val psdu.length) = true →
    b = psdu.take (psdu.length - s.fcsLen port.val) → b ++ s.fcs port.val b = psdu → (readRadHead b).type = 2 → s.track (port.val + 4) = true →
    exec (.radFrameRx port psdu corr false false) s = .next (s.ackHeard port.val (readRadHead b) b)) ∧
  (∀ (s : State) (port : Fin 4) (psdu b : Bytes) (corr : BitVec 12),
    s.portOn (port.val + 4) = true → 3 + s.fcsLen port.val ≤ psdu.length → psdu.length ≤ 2047 → s.radHears port.val (s.tb1 - s.airtime port.val psdu.length) = true →
    b = psdu.take (psdu.length - s.fcsLen port.val) → b ++ s.fcs port.val b ≠ psdu →
    exec (.radFrameRx port psdu corr false false) s = .next (s.count (Reg.RAD_RX_FCS_CNT_CNT port.val))) ∧
  -- RAD_ENH_ACK_SEND
  (∀ (s t u : State) (port : Fin 4) (a : OwedAck) (b psdu : Bytes) (chan ms : Nat),
    s.portOn (port.val + 4) = true → s.track (port.val + 4) = false → (s.port (port.val + 4)).ack = some a → a.due ≤ s.tb1 →
    t = (s.setPort (port.val + 4) { s.port (port.val + 4) with ack := none }).rollFirst port.val →
    t.secure port.val (t.getF (Reg.RAD_SEC_CFG_LEVEL port.val)) (t.cellAsn port.val)
      (radFcf 2 (min (t.getF (Reg.RAD_SEC_CFG_LEVEL port.val)) 1) 0 1 0 0 ++ [BitVec.ofNat 8 a.seq]) (leBytes 2 0x0F02 ++ leBytes 2 a.corr) [] = some b →
    psdu = b ++ t.fcs port.val b → chan = (s.port (port.val + 4)).chan.getD 0 → ms = (t.airtime port.val psdu.length + 999999) / 1000000 →
    (t.entriesOf port.val chan).isEmpty = false → t.budgetAllows port.val chan ms false = true →
    u = ((t.radOut port.val t.tb1 psdu).count (Reg.RAD_TX_CNT_CNT port.val)).charge port.val chan ms →
    exec (.radEnhAckSend port) s = .next u) ∧
  (∀ (s t : State) (port : Fin 4) (a : OwedAck),
    s.portOn (port.val + 4) = true → s.track (port.val + 4) = false → (s.port (port.val + 4)).ack = some a → a.due ≤ s.tb1 →
    t = (s.setPort (port.val + 4) { s.port (port.val + 4) with ack := none }).rollFirst port.val →
    t.secure port.val (t.getF (Reg.RAD_SEC_CFG_LEVEL port.val)) (t.cellAsn port.val)
      (radFcf 2 (min (t.getF (Reg.RAD_SEC_CFG_LEVEL port.val)) 1) 0 1 0 0 ++ [BitVec.ofNat 8 a.seq]) (leBytes 2 0x0F02 ++ leBytes 2 a.corr) [] = none →
    exec (.radEnhAckSend port) s = .next t) ∧
  -- RAD_ACK_TIMEOUT
  (∀ (s : State) (port : Fin 4) (t : PortTx) (a : Nat) (shared : Bool),
    shared = (match (s.port (port.val + 4)).cell with | some (f, _) => f == 1 | none => false) →
    (s.port (port.val + 4)).wait = some (t, a) → a ≤ s.tb1 → 1 + s.getF (Reg.RAD_ACCESS_CFG_RETRY_MAX port.val) ≤ t.attempts →
    exec (.radAckTimeout port) s = .next ((s.setPort (port.val + 4) { s.port (port.val + 4) with
      wait := none, cw := if shared = true then (s.port (port.val + 4)).cw + 1 else (s.port (port.val + 4)).cw }).txDone (port.val + 4) t 2)) ∧
  (∀ (s : State) (port : Fin 4) (t : PortTx) (a : Nat),
    (match (s.port (port.val + 4)).cell with | some (f, _) => f == 1 | none => false)  = false →
    (s.port (port.val + 4)).wait = some (t, a) → a ≤ s.tb1 → t.attempts ≤ s.getF (Reg.RAD_ACCESS_CFG_RETRY_MAX port.val) →
    exec (.radAckTimeout port) s = .next (s.setPort (port.val + 4) { s.port (port.val + 4) with wait := none, out := t :: (s.port (port.val + 4)).out })) ∧
  (∀ (s u : State) (port : Fin 4) (t : PortTx) (a n e : Nat) (w : Word),
    (s.port (port.val + 4)).cell = some (1, n) → (s.port (port.val + 4)).wait = some (t, a) → a ≤ s.tb1 → t.attempts ≤ s.getF (Reg.RAD_ACCESS_CFG_RETRY_MAX port.val) →
    e = min (s.getF (Reg.RAD_ACCESS_CFG_BE_MIN port.val) + (s.port (port.val + 4)).cw) (s.getF (Reg.RAD_ACCESS_CFG_BE_MAX port.val)) → s.drawWord = (w, u) →
    exec (.radAckTimeout port) s = .next (u.setPort (port.val + 4) { s.port (port.val + 4) with
      wait := none, cw := (s.port (port.val + 4)).cw + 1, out := { t with backoff := some (w.toNat % 2 ^ e) } :: (s.port (port.val + 4)).out })) ∧
  -- RAD_ASSOC_REQ
  (∀ (s : State) (port : Fin 4) (ident : BitVec 64),
    s.portOn (port.val + 4) = true → s.coordinates (port.val + 4) = true →
    exec (.radAssocReq port ident) s = .next (s.decideJoin (port.val + 4) ident.toNat)) ∧
  (∀ (s : State) (port : Fin 4) (ident : BitVec 64) (nodes : List (Nat × PortNode)) (a : Nat),
    s.portOn (port.val + 4) = true → s.coordinates (port.val + 4) = true →
    nodes = (s.port (port.val + 4)).nodes.filterMap (fun e => e.2.map (fun n => (e.1, n))) →
    s.flag (Reg.RAD_JOIN_CFG_OPEN port.val) = true → s.flag (Reg.RAD_JOIN_CFG_POLICY port.val) = true →
    s.portAddr (port.val + 4) ident.toNat = none → nodes.length < 2048 → s.hasCredit 0x80 = true → lowestFree (nodes.map (·.1)) 1 2048 = some a →
    exec (.radAssocReq port ident) s = .next ((s.putNode (port.val + 4) a (some { id := ident.toNat, slot := 0x1FF, heardAt := s.tb1 })).enq 0x80
      { body := .orderedItem (.join (joinBytes (port.val + 4) ident.toNat a 0x1FF)) })) ∧
  (∀ (s : State) (port : Fin 4) (ident : BitVec 64),
    s.portOn (port.val + 4) = true → s.track (port.val + 4) = true →
    exec (.radAssocReq port ident) s = .next (s.forwardFrame (port.val + 4) 0xFFFE 0 ([3] ++ leBytes 8 ident.toNat))) ∧
  -- RAD_EB_RX
  (∀ (s t u v w : State) (port : Fin 4) (panid : BitVec 16) (src : BitVec 64) (asn : BitVec 40) (since : Word),
    s.portOn (port.val + 4) = true → s.coordinates (port.val + 4) = false → panid.toNat = s.getF (Reg.RAD_PAN_PANID port.val) →
    3 ≤ s.nodeStateOf (port.val + 4) →
    t = s.setF (Reg.RAD_SYNC_OFS_NS port.val) (unsignedOf 32 ((s.ns3 : Int) - since.toNat -
      (((s.getF (Reg.RAD_ASN_EPOCH_LO_SEC port.val) + s.getF (Reg.RAD_ASN_EPOCH_HI_SEC port.val) * 2 ^ 32 : Nat) : Int) * nsPerS + asn.toNat * slotNs))) →
    u = t.putNode (port.val + 4) 0 (some { (t.portNode (port.val + 4) 0).getD {} with id := src.toNat, joined := true, heardAt := t.tb1 }) →
    v = u.setPort (port.val + 4) { u.port (port.val + 4) with evidence := u.ns3, ebChan := (u.port (port.val + 4)).chan } →
    w = (if v.track (port.val + 4) = true then v.forwardFrame (port.val + 4) 0 0 ([0] ++ leBytes 5 asn.toNat) else v) →
    exec (.radEbRx port panid src asn since) s = .next (w.hearBeacon (port.val + 4) (w.ns3 + w.ebPeriod port.val) (w.ebPeriod port.val) 3)) ∧
  (∀ (s t u v w : State) (port : Fin 4) (panid : BitVec 16) (src : BitVec 64) (asn : BitVec 40) (since : Word),
    s.portOn (port.val + 4) = true → s.coordinates (port.val + 4) = false → panid.toNat = s.getF (Reg.RAD_PAN_PANID port.val) →
    s.nodeStateOf (port.val + 4) ≤ 1 →
    t = s.setF (Reg.RAD_SYNC_OFS_NS port.val) (unsignedOf 32 ((s.ns3 : Int) - since.toNat -
      (((s.getF (Reg.RAD_ASN_EPOCH_LO_SEC port.val) + s.getF (Reg.RAD_ASN_EPOCH_HI_SEC port.val) * 2 ^ 32 : Nat) : Int) * nsPerS + asn.toNat * slotNs))) →
    u = t.putNode (port.val + 4) 0 (some { (t.portNode (port.val + 4) 0).getD {} with id := src.toNat, joined := true, heardAt := t.tb1 }) →
    v = u.setPort (port.val + 4) { u.port (port.val + 4) with evidence := u.ns3, ebChan := (u.port (port.val + 4)).chan } →
    v.track (port.val + 4) = true → w = v.forwardFrame (port.val + 4) 0 0 ([0] ++ leBytes 5 asn.toNat) → w.track (port.val + 4) = true →
    exec (.radEbRx port panid src asn since) s = .next (w.hearBeacon (port.val + 4) (w.ns3 + w.ebPeriod port.val) (w.ebPeriod port.val) 3)) ∧
  -- RAD_EB_MISS
  (∀ (s : State) (port : Fin 4),
    s.portOn (port.val + 4) = true → s.coordinates (port.val + 4) = false → 3 ≤ s.nodeStateOf (port.val + 4) →
    (s.port (port.val + 4)).next ≤ s.ns3 → (s.port (port.val + 4)).evidence + (s.port (port.val + 4)).period ≤ (s.port (port.val + 4)).next →
    exec (.radEbMiss port) s = .next (s.missBeacon (port.val + 4))) ∧
  (∀ (s : State) (port : Fin 4),
    s.portOn (port.val + 4) = true → s.coordinates (port.val + 4) = false → (s.nodeStateOf (port.val + 4) = 3 ∨ s.nodeStateOf (port.val + 4) = 4) →
    (s.port (port.val + 4)).next ≤ s.ns3 → (s.port (port.val + 4)).next < (s.port (port.val + 4)).evidence + (s.port (port.val + 4)).period →
    exec (.radEbMiss port) s = .next ((s.setPort (port.val + 4) { s.port (port.val + 4) with next := (s.port (port.val + 4)).next + (s.port (port.val + 4)).period, missed := 0 }).nodeState (port.val + 4) 3)) ∧
  -- RAD_BUDGET_BUCKET_ROLL
  (∀ (s : State) (port : Fin 4),
    s.flag (Reg.RAD_CTRL_ENABLE port.val) = true → s.bucketsDue port.val ≠ 0 →
    exec (.radBudgetBucketRoll port) s = .next (s.rollBuckets port.val 1)) ∧
  -- RAD_DL_MAX_WAIT
  (∀ (s : State) (port : Fin 4) (late : PortTx → Bool),
    (late = (fun t => t.tag.isSome && (match t.deferAt with | some a => decide (a + s.getF (Reg.RAD_DL_CFG_MAX_WAIT_S port.val) * nsPerS < s.tb1) | none => false))) →
    exec (.radDlMaxWait port) s = .next (((s.port (port.val + 4)).out.filter late).foldl (fun u t => u.txDone (port.val + 4) t 6) (s.setPort (port.val + 4) { s.port (port.val + 4) with out := (s.port (port.val + 4)).out.filter (fun t => !late t) }))) ∧
  -- RAD_APP_ACK_SEND
  (∀ (s t u : State) (port : Fin 4) (a : Ack) (addr : Nat) (o : Option Bytes),
    s.portOn (port.val + 4) = true → s.deqHeld (portEnd (port.val + 4) 0) = some (⟨.ack a, 0⟩, t) → t.hintAddr a.meter (port.val + 4) = some addr →
    t.ackFrame a (t.title (Reg.RAD_ACK_TITLE_HI_TITLE port.val) (Reg.RAD_ACK_TITLE_LO_TITLE port.val)) = (o, u) →
    exec (.radAppAckSend port 0) s = .next (match o with
      | none => (u.count (Reg.RAD_ACK_DISCARD_CNT_CNT port.val)).creditBack (portEnd (port.val + 4) 0)
      | some b =>
        if (u.output (port.val + 4 + 1) b).orders = true then
          (u.output (port.val + 4 + 1) b).toSend (port.val + 4) { dst := if (u.output (port.val + 4 + 1) b).member (port.val + 4) = true then 0 else addr, mtype := 2, body := b, prio := 2, ackItem := true }
        else (u.output (port.val + 4 + 1) b).creditBack (portEnd (port.val + 4) 0))) ∧
  (∀ (s t : State) (port : Fin 4) (a : Ack),
    s.portOn (port.val + 4) = true → s.deqHeld (portEnd (port.val + 4) 0) = some (⟨.ack a, 0⟩, t) → t.hintAddr a.meter (port.val + 4) = none →
    exec (.radAppAckSend port 0) s = .next ((t.count (Reg.RAD_ACK_DISCARD_CNT_CNT port.val)).creditBack (portEnd (port.val + 4) 0))) ∧
  -- RAD_DOWNLINK_ITEM
  (∀ (s u v : State) (port : Fin 4) (sub : Option Submission) (b : Bytes) (w : Nat),
    u = s.submitted (portEnd (port.val + 4) 1) sub (fun x => .bytes x.item) → u.portOn (port.val + 4) = true → u.downOpen (port.val + 4) < (u.queue (portEnd (port.val + 4) 2)).credits →
    (u.queue (portEnd (port.val + 4) 1)).items.head? = some ⟨.bytes b, 0⟩ → b.length = 16 + leAt b 8 4 → leAt b 8 4 ≤ 600 → w = leAt b 0 4 → bitAt w 16 = 0 →
    (u.popped (portEnd (port.val + 4) 1)).coordinates (port.val + 4) = true → (u.popped (portEnd (port.val + 4) 1)).radFits port.val (bitsOf w 15 0) (leAt b 8 4) (bitAt w 20 == 1) = true →
    v = (u.popped (portEnd (port.val + 4) 1)).output (port.val + 4 + 1) (b.drop 16) → v.coordinates (port.val + 4) = true → v.orders = true →
    exec (.radDownlinkItem port sub) s = .next (v.toSend (port.val + 4) { dst := bitsOf w 15 0, mtype := 2, body := b.drop 16, prio := bitsOf w 19 18, ackReq := bitAt w 20 == 1, tag := some (bitsOf w 31 24) })) ∧
  (∀ (s u : State) (port : Fin 4) (sub : Option Submission) (b : Bytes) (n : Nat),
    u = s.submitted (portEnd (port.val + 4) 1) sub (fun x => .bytes x.item) → u.portOn (port.val + 4) = true → u.downOpen (port.val + 4) < (u.queue (portEnd (port.val + 4) 2)).credits →
    (u.queue (portEnd (port.val + 4) 1)).items.head? = some ⟨.bytes b, n⟩ → (n ≠ 0 ∨ b.length ≠ 16 + leAt b 8 4 ∨ 600 < leAt b 8 4) →
    exec (.radDownlinkItem port sub) s = .next ((u.popped (portEnd (port.val + 4) 1)).downDone (port.val + 4) (bitsOf (leAt b 0 4) 31 24) 5 0 0)) ∧
  -- RAD_FENCE
  (∀ (s : State) (req : Req) (port : Fin 4),
    TakesT s req (Reg.RAD_CTRL_FENCE port.val) → s.flag (Reg.RAD_CTRL_FENCE port.val) = false →
    exec (.radFence req port) s = .next (((s.answer 0).setF (Reg.RAD_CTRL_FENCE port.val) 1).fencePort (port.val + 4))) ∧
  -- RAD_UNFENCE
  (∀ (s : State) (req : Req) (port : Fin 4),
    TakesT s req (Reg.RAD_CTRL_FENCE port.val) → s.flag (Reg.RAD_CTRL_FENCE port.val) = true →
    exec (.radUnfence req port) s = .next (((s.answer 0).setF (Reg.RAD_CTRL_FENCE port.val) 0).setPort (port.val + 4)
      { s.port (port.val + 4) with slotLast := some (s.asn port.val) })) ∧
  -- RAD_SPI_RAW
  (∀ (s : State) (req : Req) (port : Fin 4) (word reply : Word),
    TakesF s req (Reg.RAD_SPI_RAW_WORD port.val) → s.flag (Reg.RAD_CTRL_ENABLE port.val) = false →
    exec (.radSpiRaw req port word reply) s = .next (((s.answer 0).emit (16 + port.val) (beBytes 4 word.toNat)).setF (Reg.RAD_SPI_RAW_WORD port.val) reply.toNat)) ∧
  -- RAD_NODE_AGE
  (∀ (s : State) (port : Fin 4) (addr : BitVec 16) (n : PortNode) (hours : Nat),
    s.portOn (port.val + 4) = true → s.portNode (port.val + 4) addr.toNat = some n → n.joined = true → hours = s.getF (Reg.RAD_JOIN_CFG_AGE_H port.val) → hours ≠ 0 →
    n.heardAt + hours * 3600 * nsPerS ≤ s.tb1 →
    exec (.radNodeAge port addr) s = .next (((s.putNode (port.val + 4) addr.toNat none).countNodes (port.val + 4)).irq (Reg.RAD_IRQ_NODE_REMOVED port.val)))

/-- The commands of the Ethernet block: SWITCH_FORWARD and CPU_PORT_RX take a frame, SWITCH_AGE and PRP_NODE_FORGET forget a station, BATCH_RX, BATCH_ACK_SEND and BATCH_TIMEOUT handle batches, ETH_SW_TX sends the item of the CPU, PRP_RX, PRP_SUPERVISION_TX and PRP_LAN_DOWN keep the redundant LANs, ETH_LINK_CHANGE sets the link, and the MDIO commands run the management frames. Each equation gives the whole next state. -/
def Obligations.UplinkCommandsComplete : Prop :=
  -- SWITCH_FORWARD
  (∀ (s : State) (port : Fin 4) (frame : Bytes),
    s.domOn .port = true → s.flag Reg.ETH_CTRL_ENABLE = true → s.ethUp port.val = true → s.tooBig port.val frame = false →
    exec (.switchForward port frame false) s = .next (((s.settling fun t => t.lanHeard port.val).count (Reg.ETHP_RX_OK_CNT_CNT port.val)).switchIn
      (switchPort port.val) (s.ptpEnters port.val frame))) ∧
  (∀ (s : State) (port : Fin 4) (frame : Bytes),
    s.domOn .port = true → s.flag Reg.ETH_CTRL_ENABLE = true → s.ethUp port.val = true →
    exec (.switchForward port frame true) s = .next (s.count (Reg.ETHP_RX_FCS_CNT_CNT port.val))) ∧
  -- SWITCH_AGE
  (∀ (s : State) (mac : BitVec 48) (e : MacEntry),
    s.learned mac.toNat = some e → e.heardAt + s.getF Reg.ETH_AGE_S_S * nsPerS ≤ s.tb1 →
    exec (.switchAge mac) s = .next ({ s with uplink := { s.uplink with macs := sput none s.uplink.macs mac.toNat none } })) ∧
  -- CPU_PORT_RX
  (∀ (s : State) (port : Fin 4) (frame : Bytes),
    s.ethUp port.val = true → s.tooBig port.val frame = false → (port.val ≠ 3 ∨ s.kettleServes = false ∨ s.kettleOther frame = none) →
    s.domOn .port = true → s.flag Reg.ETH_CTRL_ENABLE = true →
    exec (.cpuPortRx port frame) s = .next (s.cpuIn port.val frame)) ∧
  (∀ (s : State) (frame : Bytes),
    s.ethUp 3 = true → s.tooBig 3 frame = false → (s.kettleServes = false ∨ s.kettleOther frame = none) → s.domOn .port = false →
    exec (.cpuPortRx 3 frame) s = .next (s.kettleNet frame)) ∧
  (∀ (s : State) (frame : Bytes) (u : Udp),
    s.ethUp 3 = true → s.tooBig 3 frame = false → s.kettleServes = true → s.kettleOther frame = some u →
    exec (.cpuPortRx 3 frame) s = .next (s.kettleReply (u.src ++ List.replicate (16 - u.src.length) 0) u.sport (leAt u.data 0 1) 2 [])) ∧
  -- BATCH_RX
  (∀ (s t : State) (c buf tag : Nat) (b : Bytes),
    s.deqHeld 0x140 = some (⟨.batch c 1 buf tag b, 0⟩, t) → 9 ≤ b.length → b.length = 8 + beAt b 6 2 →
    exec (.batchRx 0) s = .next (t.takeBatch { conc := c, kind := 1, buf := beAt b 2 2, tag := beAt b 4 2 } [b.drop 8])) ∧
  (∀ (s t u : State) (c buf tag n : Nat) (b : Bytes) (items : List (Nat × Bytes)) (learn : List Bytes),
    s.deqHeld 0x140 = some (⟨.batch c 0 buf tag b, 0⟩, t) → batchSplit b = some (items, n) → t.batchTagOk c n b = true →
    learn = (items.filter (·.1 == 2)).map (·.2) →
    u = (if t.getF (Reg.ETH_SRC_CFG_LEARN.win 5 c) = 1 then t.takeLearning learn else t.count Reg.ETH_BATCH_DROP_CNT_CNT learn.length) →
    exec (.batchRx 0) s = .next (u.takeBatch { conc := c, kind := 0, bseq := beAt b 4 4 } ((items.filter (·.1 == 1)).map (·.2)))) ∧
  -- BATCH_ACK_SEND
  (∀ (s t : State) (k : Nat) (a : Ack) (b : Batch),
    s.deqHeld 0x143 = some (⟨.ack a, 0⟩, t) → (t.takeBatchAck 0x143 a).completeBatch (fun b => b.kind != 2) = some (k, b) →
    exec (.batchAckSend 0) s = .next ((t.takeBatchAck 0x143 a).answerBatch k b)) ∧
  (∀ (s : State) (k : Nat) (b : Batch),
    (s.queue 0x143).items = [] → (s.completeBatch (fun b => b.kind != 2) = some (k, b)) →
    exec (.batchAckSend 0) s = .next (s.answerBatch k b)) ∧
  -- BATCH_TIMEOUT
  (∀ (s : State) (late : List (Nat × Option Batch)),
    (late = s.uplink.batches.filter (fun e => match e.2 with | some b => !b.complete && decide (b.arrived + s.getF Reg.ETH_BATCH_CFG_TIMEOUT_MS * 1000000 ≤ s.tb1) | none => false)) →
    exec .batchTimeout s = .next (late.foldl (fun t e => t.abandonBatch e.1) s)) ∧
  -- ETH_SW_TX
  (∀ (s : State) (sub : Option Submission) (u : State) (b : Bytes),
    (u = s.submitted 0x142 sub (fun x => .bytes x.item)) → u.domOn .port = true → u.flag Reg.ETH_CTRL_ENABLE = true →
    (u.queue 0x142).items.head? = some ⟨.bytes b, 0⟩ → (u.popped 0x142).flag Reg.TWIN_CTRL_ENABLE = false →
    exec (.ethSwTx sub) s = .next ((u.popped 0x142).switchOut 3 b)) ∧
  (∀ (s : State) (sub : Option Submission) (u t : State) (b : Bytes),
    u = s.submitted 0x142 sub (fun x => .bytes x.item) → u.domOn .port = true → u.flag Reg.ETH_CTRL_ENABLE = true →
    (u.queue 0x142).items.head? = some ⟨.bytes b, 0⟩ → t = u.popped 0x142 → t.flag Reg.TWIN_CTRL_ENABLE = true →
    slice b 6 6 = t.macOf Reg.TWIN_TWIN_MAC_HI_MAC Reg.TWIN_TWIN_MAC_LO_MAC →
    exec (.ethSwTx sub) s = .next (t.streamZero b)) ∧
  -- PRP_RX
  (∀ (s t : State) (b : Bool) (n : Nat) (frame : Bytes),
    (n = (if b then 1 else 0)) → s.ethUp n = true → s.tooBig n frame = false → (t = (s.settling fun u => u.lanHeard n).count (Reg.ETHP_RX_OK_CNT_CNT n)) →
    t.flag Reg.PRP_CTRL_ENABLE = false → t.flag Reg.ETH_CTRL_ENABLE = true →
    exec (.prpRx b frame false) s = .next ((t.switchIn 0 (t.ptpEnters n frame)).cpuIn n frame)) ∧
  (∀ (s t u v : State) (b : Bool) (n k lan : Nat) (frame : Bytes),
    n = (if b then 1 else 0) → s.ethUp n = true → s.tooBig n frame = false → t = (s.settling fun u => u.lanHeard n).count (Reg.ETHP_RX_OK_CNT_CNT n) →
    t.flag Reg.PRP_CTRL_ENABLE = true → 20 ≤ frame.length → k = frame.length - 6 → beAt frame (k + 4) 2 = 0x88FB → isPtp frame = false →
    lan = beAt frame (k + 2) 2 / 4096 →
    u = (if lan = (if b then 0xB else 0xA) then t else t.count (if b then Reg.PRP_WRONG_LAN_B_CNT_CNT else Reg.PRP_WRONG_LAN_A_CNT_CNT)) →
    u.prpAccept (beAt frame 6 6) (beAt frame k 2) = (true, v) → v.flag Reg.ETH_CTRL_ENABLE = true →
    exec (.prpRx b frame false) s = .next ((v.switchIn 0 (v.ptpEnters n (frame.take k))).cpuIn n (frame.take k))) ∧
  (∀ (s : State) (b : Bool) (n : Nat) (frame : Bytes),
    n = (if b then 1 else 0) → s.ethUp n = true →
    exec (.prpRx b frame true) s = .next (s.count (Reg.ETHP_RX_FCS_CNT_CNT n))) ∧
  -- PRP_NODE_FORGET
  (∀ (s : State) (mac : BitVec 48) (x : PrpNode),
    s.prpNode mac.toNat = some x → x.heardAt + s.getF Reg.PRP_FORGET_NODE_S * nsPerS ≤ s.tb1 →
    exec (.prpNodeForget mac) s = .next (s.setPrpNode mac.toNat none)) ∧
  -- PRP_SUPERVISION_TX
  (∀ (s : State) (f : Bytes) (m : Bytes),
    s.domOn .port = true → s.flag Reg.PRP_SUP_CFG_EN = true → s.uplink.supAt ≤ s.tb1 →
    m = s.macOf Reg.ETH_MAC_HI_MAC Reg.ETH_MAC_LO_MAC →
    f = [0x01, 0x15, 0x4E, 0x00, 0x01, 0x00] ++ m ++ beBytes 2 0x88FB ++ beBytes 2 1 ++ beBytes 2 s.uplink.supSeq ++ [20, 6] ++ m ++ [0, 0] →
    exec .prpSupervisionTx s = .next (({ s with uplink := { s.uplink with supAt := s.tb1 + s.getF Reg.PRP_SUP_CFG_INTERVAL_MS * 1000000, supSeq := (s.uplink.supSeq + 1) % 65536 } } : State).paLocal f)) ∧
  -- PRP_LAN_DOWN
  (∀ (s : State),
    s.domOn .port = true → s.lanADown = false →
    s.uplink.lanAt + 3 * s.getF Reg.PRP_SUP_CFG_INTERVAL_MS * 1000000 ≤ s.tb1 →
    exec (.prpLanDown false) s = .next (s.settling fun t => ({ t with lanADown := true } : State).irq Reg.PRP_IRQ_LAN_A_DOWN)) ∧
  (∀ (s : State),
    s.domOn .port = true → s.lanBDown = false →
    s.uplink.lanBt + 3 * s.getF Reg.PRP_SUP_CFG_INTERVAL_MS * 1000000 ≤ s.tb1 →
    exec (.prpLanDown true) s = .next (s.settling fun t => ({ t with lanBDown := true } : State).irq Reg.PRP_IRQ_LAN_B_DOWN)) ∧
  -- ETH_LINK_CHANGE
  (∀ (s : State) (port : Fin 4) (b : Bool) (speed : BitVec 2) (sqi : BitVec 3),
    port.val ≠ 3 → s.domOn .port = true → s.flag (Reg.ETHP_STAT_LINK port.val) ≠ b →
    exec (.ethLinkChange port b speed sqi) s = .next (((s.setF (Reg.ETHP_STAT_LINK port.val) (bitIf b 0)).setF (Reg.ETHP_STAT_SPEED port.val) (if b then speed.toNat else 0)).irq (Reg.ETHP_IRQ_LINK_CHANGE port.val))) ∧
  (∀ (s : State) (b : Bool) (speed : BitVec 2) (sqi : BitVec 3),
    s.mode ≠ .dormant → s.mode ≠ .backup → s.flag (Reg.ETHP_STAT_LINK 3) ≠ b →
    exec (.ethLinkChange 3 b speed sqi) s = .next ((((s.setF (Reg.ETHP_STAT_LINK 3) (bitIf b 0)).setF (Reg.ETHP_STAT_SPEED 3) (if b then speed.toNat else 0)).irq (Reg.ETHP_IRQ_LINK_CHANGE 3)).setF (Reg.ETHP_STAT_SQI 3) (if b then sqi.toNat else 0))) ∧
  -- MDIO_WRITE
  (∀ (s : State) (req : Req) (phy reg : BitVec 5) (data : BitVec 16),
    TakesF s req Reg.ETH_MDIO_CMD_GO → s.flag Reg.ETH_MDIO_STAT_BUSY = false →
    exec (.mdioWrite req phy reg data) s = .next ((((((((s.answer 0).setF Reg.ETH_MDIO_CMD_OP 1).setF Reg.ETH_MDIO_CMD_PHYAD phy.toNat).setF Reg.ETH_MDIO_CMD_REGAD reg.toNat).setF Reg.ETH_MDIO_CMD_WDATA data.toNat).setF Reg.ETH_MDIO_CMD_GO 1).setF Reg.ETH_MDIO_STAT_BUSY 1).emit 40 (mdioFrame 1 phy.toNat reg.toNat data.toNat))) ∧
  -- MDIO_READ
  (∀ (s : State) (req : Req) (phy reg : BitVec 5) (data : BitVec 16),
    TakesF s req Reg.ETH_MDIO_CMD_GO → s.flag Reg.ETH_MDIO_STAT_BUSY = false →
    exec (.mdioRead req phy reg data) s = .next ((((((((s.answer 0).setF Reg.ETH_MDIO_CMD_OP 2).setF Reg.ETH_MDIO_CMD_PHYAD phy.toNat).setF Reg.ETH_MDIO_CMD_REGAD reg.toNat).setF Reg.ETH_MDIO_CMD_WDATA data.toNat).setF Reg.ETH_MDIO_CMD_GO 1).setF Reg.ETH_MDIO_STAT_BUSY 1).emit 40 (mdioFrame 2 phy.toNat reg.toNat data.toNat))) ∧
  -- MDIO_FRAME_DONE
  (∀ (s : State) (driven : Bool) (data : BitVec 16),
    s.flag Reg.ETH_MDIO_STAT_BUSY = true → s.domOn .port = true → s.getF Reg.ETH_MDIO_CMD_OP ≠ 2 →
    exec (.mdioFrameDone driven data) s = .next ((s.setF Reg.ETH_MDIO_CMD_GO 0).setF Reg.ETH_MDIO_STAT_BUSY 0)) ∧
  (∀ (s : State) (driven : Bool) (data : BitVec 16),
    s.flag Reg.ETH_MDIO_STAT_BUSY = true → s.domOn .port = true → s.getF Reg.ETH_MDIO_CMD_OP = 2 →
    exec (.mdioFrameDone driven data) s = .next ((((s.setF Reg.ETH_MDIO_CMD_GO 0).setF Reg.ETH_MDIO_STAT_BUSY 0).setF Reg.ETH_MDIO_STAT_NO_TA (bitIf (!driven) 0)).setF Reg.ETH_MDIO_STAT_RDATA (if driven then data.toNat else 0xFFFF)))

/-- PCIE_SQ_TAIL_WRITE moves the tail, PCIE_SQ_FETCH takes an entry, PCIE_COMPLETION_WRITE writes a completion, PCIE_LINK_DOWN and PCIE_HOT_RESET reset the queues; the Kettle service answers status, log, page and wake requests. Each equation gives the whole next state. -/
def Obligations.HostLinkCommandsComplete : Prop :=
  -- PCIE_SQ_TAIL_WRITE
  (∀ (s : State) (req : Req) (data : Word),
    TakesF s req Reg.PCIE_SQ_TAIL_IDX →
    exec (.pcieSqTailWrite req data) s = .next ((s.answer 0).setF Reg.PCIE_SQ_TAIL_IDX data.toNat)) ∧
  -- PCIE_SQ_FETCH
  (∀ (s t u : State) (host : List (BitVec 64 × Bytes)) (entry batch : Bytes),
    t = host.foldl (fun t e => t.write (hostCell e.1.toNat) e.2) s → t.pcieMaster = true → t.flag Reg.PCIE_CTRL_ENABLE = true →
    t.getF Reg.PCIE_SQ_HEAD_IDX ≠ t.getF Reg.PCIE_SQ_TAIL_IDX → t.hasCredit 0x178 = true →
    entry = t.read (hostCell (t.get2 Reg.PCIE_SQ_BASE_LO_ADDR Reg.PCIE_SQ_BASE_HI_ADDR + 32 * t.getF Reg.PCIE_SQ_HEAD_IDX)) 32 →
    batch = t.read (hostCell (leAt entry 0 8)) (leAt entry 16 2) → u = t.enq 0x178 { body := .batch 0 2 (leAt entry 8 8) (leAt entry 18 2) batch } →
    exec (.pcieSqFetch host) s = .next (u.setF Reg.PCIE_SQ_HEAD_IDX ((t.getF Reg.PCIE_SQ_HEAD_IDX + 1) % 2 ^ u.getF Reg.PCIE_SQ_CFG_LOG2))) ∧
  -- PCIE_COMPLETION_WRITE
  (∀ (s : State) (buf tag st : Nat) (d : Bytes) (r : List (Nat × Nat × Nat × Bytes)),
    (s.queue 0x179).items = [] → (s.completeBatch (fun b => b.kind == 2) = none) → s.uplink.completions = (buf, tag, st, d) :: r →
    (s.getF Reg.PCIE_CQ_TAIL_IDX + 1) % 2 ^ s.getF Reg.PCIE_CQ_CFG_LOG2 ≠ s.getF Reg.PCIE_CQ_HEAD_IDX → s.flag Reg.PCIE_CTRL_ENABLE = true → s.pcieMaster = true →
    exec (.pcieCompletionWrite 0) s = .next (({ s with uplink := { s.uplink with completions := r } } : State).pcieComplete buf tag st d)) ∧
  (∀ (s t u v : State) (k : Nat) (a : Ack) (b : Batch) (iv d : Bytes),
    s.deqHeld 0x179 = some (⟨.ack a, 0⟩, t) → u = t.takeBatchAck 0x179 a → u.completeBatch (fun b => b.kind == 2) = some (k, b) →
    u.drawBytes 8 = (iv, v) → (v.endBatch k).uplink.completions = [] → d = [0xB2, 0x01] ++ beBytes 2 b.frames.length ++ beBytes 4 b.bseq ++ iv ++ b.list →
    ((v.endBatch k).getF Reg.PCIE_CQ_TAIL_IDX + 1) % 2 ^ (v.endBatch k).getF Reg.PCIE_CQ_CFG_LOG2 ≠ (v.endBatch k).getF Reg.PCIE_CQ_HEAD_IDX →
    (v.endBatch k).flag Reg.PCIE_CTRL_ENABLE = true → (v.endBatch k).pcieMaster = true →
    exec (.pcieCompletionWrite 0) s = .next (({ v.endBatch k with uplink := { (v.endBatch k).uplink with completions := [] } } : State).pcieComplete b.buf b.tag 0 d)) ∧
  -- PCIE_LINK_DOWN
  (∀ (s t : State) (up : Option PcieHost),
    s.domOn .fabric = true → s.flag Reg.PCIE_STAT_LINK_UP = true →
    t = (((s.pcieReset.setF Reg.PCIE_STAT_LINK_UP 0).setF Reg.PCIE_STAT_GEN 0).setF Reg.PCIE_STAT_WIDTH 0).irq Reg.PCIE_IRQ_LINK_DOWN →
    exec (.pcieLinkDown up) s = .next (match up with | some h => t.pcieUp h | none => t)) ∧
  (∀ (s : State) (up : Option PcieHost),
    s.domOn .fabric = true → s.flag Reg.PCIE_STAT_LINK_UP = false →
    exec (.pcieLinkDown up) s = .next (match up with | some h => s.pcieUp h | none => s)) ∧
  -- PCIE_HOT_RESET
  (∀ (s t : State) (up : Option PcieHost),
    s.domOn .fabric = true → s.flag Reg.PCIE_STAT_LINK_UP = true → t = s.pcieReset.irq Reg.PCIE_IRQ_HOT_RESET →
    exec (.pcieHotReset up) s = .next (match up with | some h => t.pcieUp h | none => t)) ∧
  -- KSVC_STATUS
  (∀ (s : State) (addr : Bytes) (port : BitVec 16) ,
    s.kettleServes = true →
    exec (.ksvcStatus addr port) s = .next (s.kettleReply addr port.toNat 0x01 Ksvc.ok s.statusBody)) ∧
  -- KSVC_LOG_READ
  (∀ (s : State) (addr : Bytes) (port : BitVec 16) (index : Word) (count : BitVec 8),
    s.kettleServes = true → count.toNat ≠ 0 → count.toNat ≤ 8 →
    exec (.ksvcLogRead addr port index count) s = .next (s.kettleReply addr port.toNat 0x02 Ksvc.ok (s.logBody index.toNat count.toNat))) ∧
  -- KSVC_PAGE_READ
  (∀ (s : State) (addr : Bytes) (port : BitVec 16) (page : BitVec 8) (off : BitVec 12) (count : BitVec 8) (t : State) (b : Bytes),
    s.kettleServes = true → count.toNat ≠ 0 → count.toNat ≤ 16 → off.toNat % 4 = 0 → off.toNat + 4 * count.toNat ≤ 4096 →
    Reg.slowOrAon page.toNat = true → pageExists page.toNat = true → s.pageWords page.toNat off.toNat count.toNat = (t, some b) →
    exec (.ksvcPageRead addr port page off count) s = .next (({ t with bus := s.bus } : State).kettleReply addr port.toNat 0x03 Ksvc.ok b)) ∧
  -- KSVC_WAKE
  (∀ (s : State) (addr : Bytes) (port : BitVec 16) (target : BitVec 8) (counter : BitVec 64) (signature : Bytes),
    s.kettleServes = true → target.toNat ≠ 0 → target.toNat ≤ 4 → signature.length = 114 → s.wakeGood target.toNat counter.toNat signature = true →
    exec (.ksvcWake addr port target counter signature) s = .next (({ s.kettleReply addr port.toNat 0x10 Ksvc.ok [] with uplink := { (s.kettleReply addr port.toNat 0x10 Ksvc.ok []).uplink with wakeCtr := counter.toNat } } : State).wakeTo target.toNat))

/-- A record that arrives on a link that is up is taken at once by a STANDBY that has caught up, and kept for later by a twin that synchronises: TWIN_FRAME_RX, TWIN_COMMAND_RX, TWIN_MARKER_RX, TWIN_TXN_RX, TWIN_JOIN_RX, TWIN_DISCARD_RX, TWIN_GROUP_RX; TWIN_DURABLE_RX raises the durable group of the peer; TWIN_HANDOVER_RX, TWIN_DIGEST_RX, TWIN_FORWARD_RX, TWIN_RESEND_REQ_RX, TWIN_SYNC_START, TWIN_SYNC_DATA_RX and TONGS_LINK_ACK act on theirs. Each equation gives the whole next state. -/
def Obligations.TwinRecordCommandsComplete : Prop :=
  -- TWIN_FRAME_RX
  (∀ (s q u : State) (b : Bytes),
    RecTakes s (.frame b) q u →
    exec (.twinFrameRx b 0) s = .next (u.settle (s.heardOn 0 true).degCause)) ∧
  (∀ (s g : State) (b : Bytes),
    Linked s → s.roomFor = true → g = heardRecord s → g.twinRole = 2 → g.twin.sync.isSome = true →
    exec (.twinFrameRx b 0) s = .next (({ g with twin := { g.twin with caught := g.twin.caught ++ [.frame b] } } : State).settle (s.heardOn 0 true).degCause)) ∧
  (∀ (s g q t : State) (b : Bytes) (parity : Nat) (i : Item),
    Linked s → s.roomFor = true → g = heardRecord s → g.twinRole = 3 → g.twin.missing = [] → (g.queue 0x181).items = [] → parity ≠ 0 →
    i = { body := .record (.frame b), poison := parity } → q = g.enq 0x181 i → (q.queue 0x181).items.head? = some i → q.deq 0x181 = some (i, t) →
    exec (.twinFrameRx b parity) s = .next (State.settle (t.loseRecord (.frame b)) (s.heardOn 0 true).degCause)) ∧
  (∀ (s : State) (b : Bytes) (parity : Nat),
    Linked s → s.roomFor = false → exec (.twinFrameRx b parity) s = .next (State.settle (s.heardOn 0 true) (s.heardOn 0 true).degCause)) ∧
  -- TWIN_COMMAND_RX
  (∀ (s q u : State) (order : BitVec 48) (b : Bytes),
    RecTakes s (.ordered order.toNat (.dirCmd (slice b 0 64) 1)) q u →
    exec (.twinCommandRx order (.table b)) s = .next (u.settle (s.heardOn 0 true).degCause)) ∧
  (∀ (s g : State) (order : BitVec 48) (b : Bytes),
    Linked s → s.roomFor = true → g = heardRecord s → g.twinRole = 2 → g.twin.sync.isSome = true →
    exec (.twinCommandRx order (.table b)) s = .next (({ g with twin := { g.twin with caught := g.twin.caught ++ [.ordered order.toNat (.dirCmd (slice b 0 64) 1)] } } : State).settle (s.heardOn 0 true).degCause)) ∧
  (∀ (s q u : State) (order : BitVec 48) (b : Bytes),
    RecTakes s (.ordered order.toNat (.balCmd (slice b 0 64 ++ [1]))) q u →
    exec (.twinCommandRx order (.balance b)) s = .next (u.settle (s.heardOn 0 true).degCause)) ∧
  (∀ (s g : State) (order : BitVec 48) (b : Bytes),
    Linked s → s.roomFor = true → g = heardRecord s → g.twinRole = 2 → g.twin.sync.isSome = true →
    exec (.twinCommandRx order (.balance b)) s = .next (({ g with twin := { g.twin with caught := g.twin.caught ++ [.ordered order.toNat (.balCmd (slice b 0 64 ++ [1]))] } } : State).settle (s.heardOn 0 true).degCause)) ∧
  (∀ (s q u : State) (order : BitVec 48) (m : BitVec 20) (d : Bytes) (sw : Bool),
    RecTakes s (.ordered order.toNat (.token d m.toNat (if sw then 2 else 1))) q u →
    exec (.twinCommandRx order (.token m d sw)) s = .next (u.settle (s.heardOn 0 true).degCause)) ∧
  (∀ (s g : State) (order : BitVec 48) (m : BitVec 20) (d : Bytes) (sw : Bool),
    Linked s → s.roomFor = true → g = heardRecord s → g.twinRole = 2 → g.twin.sync.isSome = true →
    exec (.twinCommandRx order (.token m d sw)) s = .next (({ g with twin := { g.twin with caught := g.twin.caught ++ [.ordered order.toNat (.token d m.toNat (if sw then 2 else 1))] } } : State).settle (s.heardOn 0 true).degCause)) ∧
  -- TWIN_MARKER_RX
  (∀ (s q u : State) (order : BitVec 48) (k : Word) (gen : BitVec 16) (b : Bool) (a : Word),
    RecTakes s (.ordered order.toNat (.balMarker k.toNat)) q u →
    exec (.twinMarkerRx order .bal k gen b a) s = .next (u.settle (s.heardOn 0 true).degCause)) ∧
  (∀ (s g : State) (order : BitVec 48) (k : Word) (gen : BitVec 16) (b : Bool) (a : Word),
    Linked s → s.roomFor = true → g = heardRecord s → g.twinRole = 2 → g.twin.sync.isSome = true →
    exec (.twinMarkerRx order .bal k gen b a) s = .next (({ g with twin := { g.twin with caught := g.twin.caught ++ [.ordered order.toNat (.balMarker k.toNat)] } } : State).settle (s.heardOn 0 true).degCause)) ∧
  (∀ (s q u : State) (order : BitVec 48) (k : Word) (gen : BitVec 16) (b : Bool) (a : Word),
    RecTakes s (.ordered order.toNat (.demandMarker k.toNat gen.toNat)) q u →
    exec (.twinMarkerRx order .demand k gen b a) s = .next (u.settle (s.heardOn 0 true).degCause)) ∧
  (∀ (s g : State) (order : BitVec 48) (k : Word) (gen : BitVec 16) (b : Bool) (a : Word),
    Linked s → s.roomFor = true → g = heardRecord s → g.twinRole = 2 → g.twin.sync.isSome = true →
    exec (.twinMarkerRx order .demand k gen b a) s = .next (({ g with twin := { g.twin with caught := g.twin.caught ++ [.ordered order.toNat (.demandMarker k.toNat gen.toNat)] } } : State).settle (s.heardOn 0 true).degCause)) ∧
  (∀ (s q u : State) (order : BitVec 48) (k : Word) (gen : BitVec 16) (b : Bool) (a : Word),
    RecTakes s (.ordered order.toNat (.closeMarker k.toNat b a.toNat)) q u →
    exec (.twinMarkerRx order .close k gen b a) s = .next (u.settle (s.heardOn 0 true).degCause)) ∧
  (∀ (s g : State) (order : BitVec 48) (k : Word) (gen : BitVec 16) (b : Bool) (a : Word),
    Linked s → s.roomFor = true → g = heardRecord s → g.twinRole = 2 → g.twin.sync.isSome = true →
    exec (.twinMarkerRx order .close k gen b a) s = .next (({ g with twin := { g.twin with caught := g.twin.caught ++ [.ordered order.toNat (.closeMarker k.toNat b a.toNat)] } } : State).settle (s.heardOn 0 true).degCause)) ∧
  (∀ (s q u : State) (order : BitVec 48) (k : Word) (gen : BitVec 16) (b : Bool) (a : Word),
    RecTakes s (.ordered order.toNat (.ckptMarker k.toNat)) q u →
    exec (.twinMarkerRx order .ckpt k gen b a) s = .next (u.settle (s.heardOn 0 true).degCause)) ∧
  (∀ (s g : State) (order : BitVec 48) (k : Word) (gen : BitVec 16) (b : Bool) (a : Word),
    Linked s → s.roomFor = true → g = heardRecord s → g.twinRole = 2 → g.twin.sync.isSome = true →
    exec (.twinMarkerRx order .ckpt k gen b a) s = .next (({ g with twin := { g.twin with caught := g.twin.caught ++ [.ordered order.toNat (.ckptMarker k.toNat)] } } : State).settle (s.heardOn 0 true).degCause)) ∧
  -- TWIN_TXN_RX
  (∀ (s q u : State) (order : BitVec 48) (v : List (BitVec 8 × BitVec 12 × Word)),
    RecTakes s (.ordered order.toNat (.txn (v.map (fun x => (x.1.toNat, x.2.1.toNat, x.2.2.toNat))) false)) q u →
    exec (.twinTxnRx order v) s = .next (u.settle (s.heardOn 0 true).degCause)) ∧
  (∀ (s g : State) (order : BitVec 48) (v : List (BitVec 8 × BitVec 12 × Word)),
    Linked s → s.roomFor = true → g = heardRecord s → g.twinRole = 2 → g.twin.sync.isSome = true →
    exec (.twinTxnRx order v) s = .next (({ g with twin := { g.twin with caught := g.twin.caught ++ [.ordered order.toNat (.txn (v.map (fun x => (x.1.toNat, x.2.1.toNat, x.2.2.toNat))) false)] } } : State).settle (s.heardOn 0 true).degCause)) ∧
  -- TWIN_JOIN_RX
  (∀ (s q u : State) (order : BitVec 48) (port : Fin 8) (ident : BitVec 64) (addr slot : BitVec 16),
    RecTakes s (.ordered order.toNat (.join (joinBytes port.val ident.toNat addr.toNat slot.toNat))) q u →
    exec (.twinJoinRx order port ident addr slot) s = .next (u.settle (s.heardOn 0 true).degCause)) ∧
  (∀ (s g : State) (order : BitVec 48) (port : Fin 8) (ident : BitVec 64) (addr slot : BitVec 16),
    Linked s → s.roomFor = true → g = heardRecord s → g.twinRole = 2 → g.twin.sync.isSome = true →
    exec (.twinJoinRx order port ident addr slot) s = .next (({ g with twin := { g.twin with caught := g.twin.caught ++ [.ordered order.toNat (.join (joinBytes port.val ident.toNat addr.toNat slot.toNat))] } } : State).settle (s.heardOn 0 true).degCause)) ∧
  -- TWIN_DISCARD_RX
  (∀ (s q u : State) (order : BitVec 48),
    RecTakes s (.discard order.toNat 0) q u →
    exec (.twinDiscardRx order) s = .next (u.settle (s.heardOn 0 true).degCause)) ∧
  (∀ (s g : State) (order : BitVec 48),
    Linked s → s.roomFor = true → g = heardRecord s → g.twinRole = 2 → g.twin.sync.isSome = true →
    exec (.twinDiscardRx order) s = .next (({ g with twin := { g.twin with caught := g.twin.caught ++ [.discard order.toNat 0] } } : State).settle (s.heardOn 0 true).degCause)) ∧
  -- TWIN_GROUP_RX
  (∀ (s q u : State) (x l : BitVec 48),
    RecTakes s (.group x.toNat l.toNat) q u →
    exec (.twinGroupRx x l) s = .next (u.settle (s.heardOn 0 true).degCause)) ∧
  (∀ (s g : State) (x l : BitVec 48),
    Linked s → s.roomFor = true → g = heardRecord s → g.twinRole = 2 → g.twin.sync.isSome = true →
    exec (.twinGroupRx x l) s = .next (({ g with twin := { g.twin with caught := g.twin.caught ++ [.group x.toNat l.toNat] } } : State).settle (s.heardOn 0 true).degCause)) ∧
  -- TWIN_DURABLE_RX
  (∀ (s h g : State) (q : BitVec 48),
    Linked s → h = s.heardOn 0 true → g = h.ackLink → g.twinRole = 4 →
    exec (.twinDurableRx q) s = .next (State.settle (({ g with path := { g.path with peerSeq := max g.path.peerSeq q.toNat } } : State)) h.degCause)) ∧
  -- TWIN_HANDOVER_RX
  (∀ (s h g : State) (x : BitVec 48) (bounds : List (BitVec 48)),
    Linked s → h = s.heardOn 0 true → g = h.ackLink → g.twinRole = 3 →
    exec (.twinHandoverRx x bounds) s = .next (State.settle (({ g with twin := { g.twin with handover := some x.toNat, bounds := bounds.map (·.toNat) } } : State).takeHandover) h.degCause)) ∧
  -- TWIN_DIGEST_RX
  (∀ (s h g : State) (stream : Fin 10) (index : BitVec 48) (digest : BitVec 64),
    Linked s → h = s.heardOn 0 true → g = h.ackLink →
    exec (.twinDigestRx stream index digest) s = .next (State.settle (({ g with twin := { g.twin with theirs := keepDigest g.twin.theirs ⟨stream.val, index.toNat, digest.toNat, h.tb1⟩ } } : State).compareDigests stream.val index.toNat) h.degCause)) ∧
  -- TWIN_FORWARD_RX
  (∀ (s h g : State) (port : BitVec 4) (link : BitVec 16) (q : BitVec 8) (frame : Bytes),
    Linked s → h = s.heardOn 0 true → g = h.ackLink → g.twinRole = 4 → port.toNat < 4 →
    exec (.twinForwardRx port link q frame) s = .next (State.settle (g.plcForwarded port.toNat link.toNat q.toNat frame) h.degCause)) ∧
  (∀ (s h g : State) (port : BitVec 4) (link : BitVec 16) (q : BitVec 8) (frame : Bytes),
    Linked s → h = s.heardOn 0 true → g = h.ackLink → g.twinRole = 4 → 4 ≤ port.toNat → port.toNat < 8 →
    exec (.twinForwardRx port link q frame) s = .next (State.settle (g.radForwarded (port.toNat - 4) link.toNat q.toNat frame) h.degCause)) ∧
  (∀ (s h g : State) (link : BitVec 16) (q : BitVec 8) (frame : Bytes),
    Linked s → h = s.heardOn 0 true → g = h.ackLink → g.twinRole = 4 → g.flag Reg.BILL_CTRL_ENABLE = true → g.hasCredit 0x80 = true →
    exec (.twinForwardRx 15 link q frame) s = .next (State.settle (g.enq 0x80 { body := .orderedItem (.token (slice frame 4 20) (leAt frame 0 4) 1) }) h.degCause)) ∧
  -- TWIN_RESEND_REQ_RX
  (∀ (s h g : State) (order : BitVec 48) (fl : Flight) (f : Frame),
    Linked s → h = s.heardOn 0 true → g = h.ackLink → g.flight order.toNat = some fl → fl.body = .frame f → g.feedCredit = true →
    exec (.twinResendReqRx order) s = .next (State.settle (g.feed (.frame (g.frameRecord order.toNat f))) h.degCause)) ∧
  (∀ (s h g : State) (order : BitVec 48) (r : Rec),
    Linked s → h = s.heardOn 0 true → g = h.ackLink → g.recordAgain order.toNat = some r → g.feedCredit = true →
    exec (.twinResendReqRx order) s = .next (State.settle (g.feed r) h.degCause)) ∧
  -- TWIN_SYNC_START
  (∀ (s h g : State) (order : BitVec 48) (m : State),
    Linked s → h = s.heardOn 0 true → g = h.ackLink → g.twinRole = 4 → g.getF Reg.TWIN_STAT_PEER_ROLE = 2 → g.twin.sync = none →
    m = (g.sendMeasure.set2 Reg.TWIN_SYNC_ORDER_LO_ORDER Reg.TWIN_SYNC_ORDER_HI_ORDER g.orderNext).setF Reg.TWIN_SYNC_DONE_RECORDS 0 →
    exec (.twinSyncStart order) s = .next (State.settle (({ m with twin := { m.twin with sync := some g.orderNext, snapDue := true } } : State).takeSnap) h.degCause)) ∧
  (∀ (s h g : State) (order : BitVec 48) (m : State),
    Linked s → h = s.heardOn 0 true → g = h.ackLink → g.twinRole = 2 → g.twin.sync = none → g.twin.retryAt = none →
    m = ((g.sendMeasure.set2 Reg.TWIN_SYNC_ORDER_LO_ORDER Reg.TWIN_SYNC_ORDER_HI_ORDER order.toNat).setF Reg.TWIN_SYNC_DONE_RECORDS 0).clearForSync →
    exec (.twinSyncStart order) s = .next (State.settle (({ m with twin := { m.twin with sync := some order.toNat, caught := [], copyDone := false, badUnits := 0 } } : State)) h.degCause)) ∧
  -- TWIN_SYNC_DATA_RX
  (∀ (s h g : State) (unit : SyncUnit) (n : Nat),
    Linked s → h = s.heardOn 0 true → g = h.ackLink → g.twin.sync = some n → g.twinRole = 2 → g.twin.copyDone = false →
    exec (.twinSyncDataRx unit true) s = .next (State.settle ((({ g with twin := { g.twin with badUnits := 0 } } : State).takeUnit n unit).copiedTo unit) h.degCause)) ∧
  -- TONGS_LINK_ACK
  (∀ (s h : State) (link : Word) (applied : BitVec 48) (parity : Nat) (past : LinkFrame → Bool) (u : State),
    Linked s → h = s.heardOn 0 true → (past = (fun f => decide ((link.toNat + 2 ^ 32 - f.seq % 2 ^ 32) % 2 ^ 32 < 2 ^ 31))) →
    (u = (({ h with twin := { h.twin with window := h.twin.window.filter (fun f => !past f) } } : State).badWords 0x180 parity).creditBack 0x180 ((h.twin.window.filter past).map (·.count)).sum) →
    u.twinRole = 4 →
    exec (.tongsLinkAck link applied parity) s = .next (State.settle (u.set2 Reg.TWIN_APPLIED_LO_ORDER Reg.TWIN_APPLIED_HI_ORDER (max (u.get2 Reg.TWIN_APPLIED_LO_ORDER Reg.TWIN_APPLIED_HI_ORDER) applied.toNat)) h.degCause))

/-- TWIN_ENABLE and TWIN_DISABLE act where the register file accepts them; the seek limit, HELLO, the dispute and digest tests, the leases, the notices and ACQUIRE act in the role they belong to. Each equation gives the whole next state. -/
def Obligations.TwinLeaseCommandsComplete : Prop :=
  -- TWIN_ENABLE
  (∀ (s : State) (req : Req),
    TakesT s req Reg.TWIN_CTRL_ENABLE → (s.answer 0).role ≠ .headEnd →
    exec (.twinEnable req) s = .next (State.settle ((s.answer 0).twinOn) (s.answer 0).degCause)) ∧
  (∀ (s : State) (req : Req),
    TakesT s req Reg.TWIN_CTRL_ENABLE → (s.answer 0).role = .headEnd →
    exec (.twinEnable req) s = .next ((s.answer 0).refuseAt req Reg.TWIN_CTRL_ENABLE Err.valueRefused)) ∧
  -- TWIN_DISABLE
  (∀ (s : State) (req : Req),
    TakesT s req Reg.TWIN_CTRL_ENABLE →
    exec (.twinDisable req) s = .next (State.settle ((s.answer 0).twinOff) (s.answer 0).degCause)) ∧
  -- TWIN_SEEK_TIMEOUT
  (∀ (s : State),
    s.twinRole = 1 → s.flag Reg.TWIN_CTRL_SOLO_START = true → s.twin.since + s.getF Reg.TWIN_SEEK_MS * 1000000 ≤ s.tb1 →
    (s.twin.heard.all (fun t => decide (t ≤ s.twin.since)) = true) →
    exec .twinSeekTimeout s = .next (State.settle (s.activeAlone) s.degCause)) ∧
  -- TWIN_HELLO
  (∀ (s : State) (ident : BitVec 45) (durable : BitVec 48) (prefer : Bool) (role : BitVec 3),
    Linked s → ident.toNat = s.partnerIdent →
    exec (.twinHello ident durable prefer role) s = .next (State.settle ((s.heardOn 0 true).takeHello ident.toNat durable.toNat prefer role.toNat) (s.heardOn 0 true).degCause)) ∧
  -- TWIN_DISPUTE_TEST
  (∀ (s : State),
    s.twin.testDue = true → s.twinRole = 4 →
    exec (.twinDisputeTest true true) s = .next (State.settle (({ s with twin := { s.twin with testDue := false } } : State).bothPassed) ({ s with twin := { s.twin with testDue := false } } : State).degCause)) ∧
  (∀ (s : State),
    s.twin.testDue = true → s.twinRole = 4 →
    exec (.twinDisputeTest false true) s = .next (State.settle (({ s with twin := { s.twin with testDue := false } } : State).stepDown) ({ s with twin := { s.twin with testDue := false } } : State).degCause)) ∧
  -- TWIN_DIGEST_MISSING
  (∀ (s : State) (late : Digest → Bool),
    (late = (fun d => decide (d.at_ + 100000000 ≤ s.tb1))) → (s.twin.mine.filter late).length ≠ 0 →
    exec .twinDigestMissing s = .next (({ s with twin := { s.twin with mine := s.twin.mine.filter (fun d => !late d) } } : State).count Reg.TWIN_MISSING_CNT_CNT (s.twin.mine.filter late).length)) ∧
  -- TWIN_LEASE_RENEW
  (∀ (s : State),
    s.paired = true → s.twin.asked = [] → s.power.stop = none →
    exec .twinLeaseRenew s = .next (({ s with twin := { s.twin with leaseCtr := s.twin.leaseCtr + 1, asked := [(s.twin.leaseCtr + 1, s.tb1)] } } : State).sendNotice 0 (s.twin.leaseCtr + 1) 7)) ∧
  -- TWIN_LEASE_REQ_RX
  (∀ (s : State) (path : Fin 3) (c : BitVec 64) (h : State),
    s.flag Reg.TWIN_CTRL_ENABLE = true → s.twinRole ≠ 0 → s.pairKey.isSome = true → h = s.heardOn path.val true → h.twinRole = 3 →
    h.twin.accepted ≤ c.toNat →
    exec (.twinLeaseReqRx path c true) s = .next (({ h with twin := { h.twin with accepted := c.toNat, granted := some h.tb1, leaseEnd := h.tb1 + 10000000 } } : State).sendNotice 1 c.toNat (2 ^ path.val))) ∧
  -- TWIN_LEASE_GRANT_RX
  (∀ (s : State) (path : Fin 3) (c : BitVec 64) (f : Bool) (h : State) (a : Nat × Nat),
    s.flag Reg.TWIN_CTRL_ENABLE = true → s.twinRole ≠ 0 → s.pairKey.isSome = true → h = s.heardOn path.val true →
    (h.twin.asked.find? (fun x => x.1 == c.toNat) = some a) → h.twin.taken < c.toNat → h.paired = true →
    exec (.twinLeaseGrantRx path c f true) s = .next ({ h with twin := { h.twin with taken := c.toNat, leaseEnd := a.2 + 10000000 } })) ∧
  (∀ (s : State) (path : Fin 3) (c : BitVec 64) (h t : State) (a : Nat × Nat),
    s.flag Reg.TWIN_CTRL_ENABLE = true → s.twinRole ≠ 0 → s.pairKey.isSome = true → h = s.heardOn path.val true →
    (h.twin.asked.find? (fun x => x.1 == c.toNat) = some a) → h.twin.taken < c.toNat → h.paired = false → h.twinRole = 6 → h.tb1 < a.2 + 10000000 →
    t = State.settle ((h.twinTo 4).setPaired true) h.degCause →
    exec (.twinLeaseGrantRx path c true true) s = .next ({ t with twin := { t.twin with taken := c.toNat, leaseEnd := a.2 + 10000000 } })) ∧
  -- TWIN_LEASE_EXPIRY
  (∀ (s : State),
    s.paired = true → s.twin.leaseEnd ≤ s.tb1 →
    exec .twinLeaseExpiry s = .next (State.settle (s.twinTo 6) s.degCause)) ∧
  -- TWIN_FENCED_NOTICE
  (∀ (s : State),
    s.twinRole = 6 → s.twin.noticeAt + 2000000 ≤ s.tb1 →
    exec .twinFencedNotice s = .next ({ s.sendNotice 2 0 7 with twin := { (s.sendNotice 2 0 7).twin with noticeAt := s.tb1 } })) ∧
  -- TWIN_NOTICE_RX
  (∀ (s : State) (path : Fin 3),
    s.flag Reg.TWIN_CTRL_ENABLE = true → s.twinRole ≠ 0 → s.pairKey.isSome = true →
    exec (.twinNoticeRx path .fenced true) s = .next ((s.heardOn path.val false).setF Reg.TWIN_STAT_PEER_ROLE 6)) ∧
  (∀ (s t : State) (path : Fin 3),
    s.flag Reg.TWIN_CTRL_ENABLE = true → s.twinRole ≠ 0 → s.pairKey.isSome = true → t = (s.heardOn path.val false).setF Reg.TWIN_STAT_PEER_ROLE 5 → t.paired = true →
    exec (.twinNoticeRx path .desynced true) s = .next (State.settle (t.setPaired false) t.degCause)) ∧
  (∀ (s t : State) (path : Fin 3),
    s.flag Reg.TWIN_CTRL_ENABLE = true → s.twinRole ≠ 0 → s.pairKey.isSome = true → t = s.heardOn path.val true → t.twinRole = 3 →
    exec (.twinNoticeRx path .drop true) s = .next (State.settle t.stepDown t.degCause)) ∧
  -- TWIN_ACQUIRE
  (∀ (s : State) (t : State),
    s.twinRole = 3 → s.twin.granted.getD s.twin.since + 12000000 ≤ s.tb1 → s.twin.heardReal + 2000000 ≤ s.tb1 →
    t = (s.activeAlone.count Reg.TWIN_TAKEOVER_CNT_CNT).irq Reg.TWIN_IRQ_ACQUIRED →
    exec .twinAcquire s = .next (State.settle ((t.event .twinTakeover 0x30 (leBytes 6 t.orderNext)).closeNow) s.degCause)) ∧
  -- TONGS_LOSS
  (∀ (s : State),
    s.twinRole = 3 → bitAt (s.getF Reg.TWIN_STAT_PATHS) 0 = 0 → s.twin.heard.headD 0 + s.getF Reg.TWIN_TONGS_CFG_LOSS_MS * 1000000 ≤ s.tb1 →
    exec .tongsLoss s = .next (State.settle (s.stepDown) s.degCause))

/-- TWIN_SWAP, TWIN_DISSOLVE, TWIN_RESOLVE_KEEP, TWIN_RESOLVE_STEP_DOWN, TWIN_RESOLVE_DROP and TWIN_FENCE_WRITE act where the register file accepts them; the paths, the ends of a synchronisation, the key offer, the meeting and the lanes of the link act in the role they belong to. Each equation gives the whole next state. -/
def Obligations.TwinRoleCommandsComplete : Prop :=
  -- TWIN_SWAP
  (∀ (s : State) (req : Req),
    TakesF s req Reg.TWIN_CTRL_SWAP → (s.answer 0).paired = true → s.twin.handover = none →
    exec (.twinSwap req) s = .next (({ s.answer 0 with twin := { s.twin with handover := some (((s.answer 0).orderNext + 2 ^ 48 - 1) % 2 ^ 48), bounds := [] } } : State).sendHandover)) ∧
  -- TWIN_DISSOLVE
  (∀ (s : State) (req : Req),
    TakesF s req Reg.TWIN_CTRL_DISSOLVE → ((s.answer 0).twinRole = 1 ∨ (s.answer 0).twinRole = 6) →
    exec (.twinDissolve req) s = .next (State.settle ((s.answer 0).activeAlone) (s.answer 0).degCause)) ∧
  (∀ (s : State) (req : Req),
    TakesF s req Reg.TWIN_CTRL_DISSOLVE → (s.answer 0).twinRole = 4 →
    exec (.twinDissolve req) s = .next (State.settle ((s.answer 0).setPaired false) (s.answer 0).degCause)) ∧
  -- TWIN_RESOLVE_KEEP
  (∀ (s : State) (req : Req),
    TakesF s req Reg.TWIN_CTRL_RESOLVE → (s.answer 0).twinRole = 4 →
    exec (.twinResolveKeep req) s = .next (State.settle ((s.answer 0).setF Reg.TWIN_STAT_DISPUTE 0) (s.answer 0).degCause)) ∧
  -- TWIN_RESOLVE_STEP_DOWN
  (∀ (s : State) (req : Req),
    TakesF s req Reg.TWIN_CTRL_RESOLVE → (s.answer 0).twinRole = 4 →
    exec (.twinResolveStepDown req) s = .next (State.settle (((s.answer 0).setF Reg.TWIN_STAT_DISPUTE 0).stepDown) (s.answer 0).degCause)) ∧
  -- TWIN_RESOLVE_DROP
  (∀ (s : State) (req : Req),
    TakesF s req Reg.TWIN_CTRL_RESOLVE → (s.answer 0).paired = true →
    exec (.twinResolveDrop req) s = .next (State.settle (((((s.answer 0).setF Reg.TWIN_STAT_DISPUTE 0).sendNotice 4 0 7).setPaired false).setF Reg.TWIN_STAT_PEER_ROLE 5) (s.answer 0).degCause)) ∧
  -- TWIN_FENCE_WRITE
  (∀ (s : State) (req : Req) (b : Bool),
    TakesT s req Reg.TWIN_CTRL_FENCE →
    exec (.twinFenceWrite req b) s = .next (State.settle ((s.answer 0).twinFence b) (s.answer 0).degCause)) ∧
  -- TWIN_PATH_DOWN
  (∀ (s : State) (path : Fin 3),
    bitAt (s.getF Reg.TWIN_STAT_PATHS) path.val = 1 → (s.twin.heard.getD path.val 0 + (if path.val = 0 then 1000000 else 5000000) ≤ s.tb1) →
    exec (.twinPathDown path) s = .next (((s.setF Reg.TWIN_STAT_PATHS (s.getF Reg.TWIN_STAT_PATHS - 2 ^ path.val)).irq Reg.TWIN_IRQ_PATH_DOWN).judgeAcks)) ∧
  -- TWIN_SYNC_COMPLETE
  (∀ (s : State),
    s.twinRole = 2 → s.twin.copyDone = true → s.twin.caught.length < 8192 →
    exec .twinSyncComplete s = .next (State.settle ((s.twinTo 3).caughtUp.irq Reg.TWIN_IRQ_SYNC_DONE) s.degCause)) ∧
  (∀ (s t u : State) (n : Nat),
    s.twinRole = 4 → s.twin.sync = some n → s.twin.snapDue = false → s.twin.snap = [] →
    u = s.set2 Reg.TWIN_APPLIED_LO_ORDER Reg.TWIN_APPLIED_HI_ORDER (max (s.get2 Reg.TWIN_APPLIED_LO_ORDER Reg.TWIN_APPLIED_HI_ORDER) (n - 1)) →
    t = { u with twin := { u.twin with sync := none } } →
    exec .twinSyncComplete s = .next (State.settle ((t.setPaired true).setF Reg.TWIN_STAT_PEER_ROLE 3) s.degCause)) ∧
  -- TWIN_SYNC_ABORT
  (∀ (s : State),
    s.twinRole = 2 → s.twin.retryAt = none → s.syncBad = true →
    exec .twinSyncAbort s = .next ({ s.irq Reg.TWIN_IRQ_SYNC_ABORT with twin := { (s.irq Reg.TWIN_IRQ_SYNC_ABORT).twin with sync := none, caught := [], copyDone := false, retryAt := some (s.tb1 + s.getF Reg.TWIN_SYNC_CFG_RETRY_S * 1000000000) } })) ∧
  -- TWIN_SYNC_RETRY
  (∀ (s : State) (t : Nat),
    s.twin.retryAt = some t → s.twinRole = 2 → t ≤ s.tb1 →
    exec .twinSyncRetry s = .next (State.settle (s.twinTo 1) s.degCause)) ∧
  -- TWIN_KEY_OFFER_RX
  (∀ (s : State) (path : Fin 3) (pub nonce : Bytes) (ident : BitVec 45) (durable : BitVec 48) (prefer : Bool) (role : BitVec 3) (h : State),
    s.flag Reg.TWIN_CTRL_ENABLE = true → s.twinRole ≠ 0 → ident.toNat = s.partnerIdent → s.twin.meeting.isEmpty = false →
    h = (s.takePairKey (s.agreedKey pub nonce ident.toNat)).heardOn path.val true →
    exec (.twinKeyOfferRx path pub nonce ident durable prefer role true) s = .next (State.settle (h.takeHello ident.toNat durable.toNat prefer role.toNat) h.degCause)) ∧
  -- TWIN_MEETING
  (∀ (s : State),
    s.flag Reg.TWIN_CTRL_ENABLE = true → s.twinRole ≠ 0 → s.twin.pairedKey = false → s.twin.meeting = [] →
    exec .twinMeeting s = .next s.offer) ∧
  -- TONGS_RETRANSMIT
  (∀ (s : State) (f : LinkFrame) (r : List LinkFrame) (t : State),
    s.twin.window = f :: r → f.sentAt + 20000 ≤ s.tb1 → s.tongsUp = true →
    (t = s.twin.window.foldl (fun u g => (u.emit 13 g.body).count Reg.TWIN_TONGS_RETRY_CNT_CNT) s) →
    exec .tongsRetransmit s = .next ({ t with twin := { t.twin with sentAt := t.tb1, window := t.twin.window.map (fun (g : LinkFrame) => { g with sentAt := t.tb1 }) } })) ∧
  -- TONGS_KEEPALIVE
  (∀ (s : State) (key : Bytes),
    s.pairKey = some key → s.twin.sentAt + 100000 ≤ s.tb1 → s.tongsUp = true → (s.queue 0x180).items = [] → s.twin.window = [] →
    exec (.tongsKeepalive false) s = .next ({ s.sendLink key [] 0 with twin := { (s.sendLink key [] 0).twin with window := [] } })) ∧
  (∀ (s h : State) (key : Bytes),
    s.pairKey = some key → s.flag Reg.TWIN_CTRL_ENABLE = true → s.twinRole ≠ 0 → s.tongsUp = true → h = s.heardOn 0 false →
    exec (.tongsKeepalive true) s = .next (State.settle ({ h with twin := { h.twin with rxSeq := h.twin.rxSeq + 1 } } : State) s.degCause)) ∧
  -- TONGS_LANE_FAIL
  (∀ (s : State) (lane : Fin 2) (b : Bool) (l : List Nat),
    (l = (if b then s.twin.lanesDown.filter (fun n => n != lane.val) else s.twin.lanesDown.filter (fun n => n != lane.val) ++ [lane.val])) →
    exec (.tongsLaneFail lane b) s = .next (State.settle (({ s with twin := { s.twin with lanesDown := l } } : State).setF Reg.TWIN_STAT_TONGS_HALF (if l.length = 1 then 1 else 0)) s.degCause))

/-- NAND_PROGRAM_DONE, NAND_ERASE_DONE, NAND_READ_DONE and NAND_TIMEOUT end the operation of a die; MAP_JOURNAL_FLUSH, LOG_BLOCK_MERGE, WEAR_LEVEL_MOVE, PATROL_READ, ARCH_SPACE_RESUME and DIE_FAIL act when they are due; the BOOT_READ_COPY commands read a boot copy. Each equation gives the whole next state. -/
def Obligations.NandCommandsComplete : Prop :=
  -- NAND_PROGRAM_DONE
  (∀ (s : State) (die : Fin 16) (o : NandOp) (q : Nat) (p : NPage) (parity : Nat) (x y : State),
    s.runningOp die.val = some o → o.body = .progGroup q p → x = ((s.badWords (progQ die.val) parity).endOp o).dieAlive die.val → x.flag Reg.FTL_CTRL_VERIFY_RB = false →
    x.tb1 ≤ o.since + x.getF Reg.NAND_TIMEOUT_PROG_US * 1000 →
    x.putPage o.target p = some y →
    exec (.nandProgramDone die false false parity) s = .next ((y.groupPageDone o q).nandStart)) ∧
  (∀ (s : State) (die : Fin 16) (o : NandOp) (x : State) (b : Bool) (parity : Nat),
    s.runningOp die.val = some o → o.body.isProg = true → x = ((s.badWords (progQ die.val) parity).endOp o).dieAlive die.val →
    exec (.nandProgramDone die true b parity) s = .next (((((x.count Reg.NAND_PROG_FAIL_CNT_CNT).irq Reg.NAND_IRQ_PROG_FAIL).nandErr die.val 0x0100).progFail o).nandStart)) ∧
  -- NAND_ERASE_DONE
  (∀ (s : State) (die : Fin 16) (o : NandOp) (b : Bool),
    s.runningOp die.val = some o → (o.body = .erase ∨ (∃ j, o.body = .eraseJob j)) →
    exec (.nandEraseDone die b) s = .next ((((s.endOp o).dieAlive die.val).eraseEnd o b).nandStart)) ∧
  -- NAND_READ_DONE
  (∀ (s : State) (die : Fin 16) (o : NandOp) (r : ReadReport),
    s.runningOp die.val = some o → (o.body = .readPatrol ∨ (∃ j a c, o.body = .readJob j a c)) →
    exec (.nandReadDone die r) s = .next ((((s.endOp o).dieAlive die.val).readEnd o r).nandStart)) ∧
  -- NAND_TIMEOUT
  (∀ (s : State) (die : Fin 16) (o : NandOp) (x : State),
    s.runningOp die.val = some o → o.body = .erase → o.since + s.getF Reg.NAND_TIMEOUT_ERASE_US * 10 * 1000 ≤ s.tb1 →
    x = ((((s.endOp o).setDie die.val { (s.endOp o).die die.val with timeouts := some (((s.endOp o).die die.val).timeouts.getD (s.endOp o).tb1) }).count Reg.NAND_TIMEOUT_CNT_CNT).irq Reg.NAND_IRQ_TIMEOUT).nandErr die.val 0x0102 →
    exec (.nandTimeout die) s = .next ((x.eraseEnd o true).nandStart)) ∧
  -- MAP_JOURNAL_FLUSH
  (∀ (s : State),
    s.ftl.journal ≠ 0 → s.higherWaits 2 = false → (s.getF Reg.FTL_MAP_CFG_ENTRIES ≤ s.ftl.journal ∨ s.ftl.journalAt + s.getF Reg.FTL_MAP_CFG_MS * 1000000 ≤ s.tb1) →
    exec .mapJournalFlush s = .next s.mapFlush) ∧
  -- LOG_BLOCK_MERGE
  (∀ (s : State) (fails : Fin 4) (l : LogBlk),
    s.flag Reg.FTL_STAT_MOUNTED = true → s.flag Reg.FTL_STAT_READ_ONLY = false → s.higherWaits 4 = false → (s.ftl.logs.find? (fun l => l.pages.length == s.ppb) = some l) →
    exec (.logBlockMerge fails) s = .next (State.settle ((s.mergeLog l fails.val).nandStart) s.degCause)) ∧
  -- WEAR_LEVEL_MOVE
  (∀ (s : State) (fails : Fin 4) (a b : Nat) (x : State),
    s.flag Reg.FTL_STAT_MOUNTED = true → s.flag Reg.FTL_STAT_READ_ONLY = false →
    s.getF Reg.FTL_WL_DELTA_COUNT < s.eraseSpan.getF Reg.FTL_ERASE_MAX_COUNT - s.eraseSpan.getF Reg.FTL_ERASE_MIN_COUNT →
    s.ftl.wlAt + s.getF Reg.FTL_WL_CFG_INTERVAL_S * nsPerS ≤ s.tb1 → s.wearPair = some (a, b) → s.higherWaits 5 = false → s.keyless (s.blk a).vol = false → fails.val ≠ 3 →
    x = { s.copyFails fails.val with ftl := { (s.copyFails fails.val).ftl with wlAt := (s.copyFails fails.val).tb1 } } →
    exec (.wearLevelMove fails) s = .next (State.settle ((((((x.setBlk b { x.blk a with erases := (x.blk b).erases, uncorr := (x.blk b).uncorr }).copyPages a b).replaceBlk a b).mapNote).eraseLater [a]).nandStart) s.degCause)) ∧
  -- PATROL_READ
  (∀ (s : State) (temp : BitVec 8) (p period : Nat) (x : State),
    s.flag Reg.FTL_CTRL_PATROL_EN = true → s.flag Reg.FTL_STAT_MOUNTED = true →
    period = s.getF Reg.FTL_PATROL_CFG_DAYS * 86400 * nsPerS / patrolDivisor temp.toNat → s.patrolDue period = some p →
    (x = s.setBlk p (if (s.blk p).patrolPage + 1 = s.ppb then { s.blk p with patrolPage := 0, patrolAt := (s.blk p).patrolAt + period } else { s.blk p with patrolPage := (s.blk p).patrolPage + 1 })) →
    exec (.patrolRead temp) s = .next (if (s.npage (p * s.ppb + (s.blk p).patrolPage)).isSome then (x.addOp (x.dieOf p) (p * s.ppb + (s.blk p).patrolPage) 5 .readPatrol).nandStart else x)) ∧
  -- ARCH_SPACE_RESUME
  (∀ (s : State),
    (s.path.groups.any (fun g => !g.started) = true) →
    exec .archSpaceResume s = .next s.tryGroups) ∧
  -- DIE_FAIL
  (∀ (s : State) (die : Fin 16) (t : Nat),
    (s.die die.val).timeouts = some t → (s.die die.val).mode ≠ .failed → t + nsPerS ≤ s.tb1 →
    exec (.dieFail die) s = .next (State.settle (((s.failDie die.val).event .dieFailed 0x23 [BitVec.ofNat 8 die.val]).nandStart) s.degCause)) ∧
  (∀ (s : State) (die : Fin 16),
    (s.die die.val).mode ≠ .failed → s.featureBad die.val = true →
    exec (.dieFail die) s = .next (State.settle (((s.failDie die.val).event .dieFailed 0x23 [BitVec.ofNat 8 die.val]).nandStart) s.degCause)) ∧
  -- BOOT_READ_COPY
  (∀ (s : State) (req : Req) (x y : Bool),
    TakesA s req Reg.NAND_BOOT_CTRL_GO (2 ^ 31 + 0) →
    exec (.bootReadCopy req x y) s = .next ((plainly s req Reg.NAND_BOOT_CTRL_GO (2 ^ 31 + 0)).bootRead 0 x y)) ∧
  (∀ (s u : State) (req : Req) (x y : Bool),
    TakesA s req Reg.NAND_BOOT_CTRL_GO (2 ^ 31 + 0) → u = plainly s req Reg.NAND_BOOT_CTRL_GO (2 ^ 31 + 0) → u.bootFits = true →
    u.ftl.header.isSome = true → (x = false ∨ y = false) →
    exec (.bootReadCopy req x y) s = .next (u.bootCopy 0 (u.bootBytes (if x then 1 - u.getF Reg.NAND_BOOT_SRC_COPY else u.getF Reg.NAND_BOOT_SRC_COPY)))) ∧
  -- BOOT_READ_COPY_HASH
  (∀ (s : State) (req : Req) (x y : Bool),
    TakesA s req Reg.NAND_BOOT_CTRL_GO (2 ^ 31 + 1) →
    exec (.bootReadCopyHash req x y) s = .next ((plainly s req Reg.NAND_BOOT_CTRL_GO (2 ^ 31 + 1)).bootRead 1 x y)) ∧
  (∀ (s u : State) (req : Req) (x y : Bool),
    TakesA s req Reg.NAND_BOOT_CTRL_GO (2 ^ 31 + 1) → u = plainly s req Reg.NAND_BOOT_CTRL_GO (2 ^ 31 + 1) → u.bootFits = true →
    u.ftl.header.isSome = true → (x = false ∨ y = false) →
    exec (.bootReadCopyHash req x y) s = .next (u.bootCopy 1 (u.bootBytes (if x then 1 - u.getF Reg.NAND_BOOT_SRC_COPY else u.getF Reg.NAND_BOOT_SRC_COPY)))) ∧
  -- BOOT_READ_COPY_MERKLE
  (∀ (s : State) (req : Req) (x y : Bool),
    TakesA s req Reg.NAND_BOOT_CTRL_GO (2 ^ 31 + 2) →
    exec (.bootReadCopyMerkle req x y) s = .next ((plainly s req Reg.NAND_BOOT_CTRL_GO (2 ^ 31 + 2)).bootRead 2 x y)) ∧
  (∀ (s u : State) (req : Req) (x y : Bool),
    TakesA s req Reg.NAND_BOOT_CTRL_GO (2 ^ 31 + 2) → u = plainly s req Reg.NAND_BOOT_CTRL_GO (2 ^ 31 + 2) → u.bootFits = true →
    u.ftl.header.isSome = true → (x = false ∨ y = false) →
    exec (.bootReadCopyMerkle req x y) s = .next (u.bootCopy 2 (u.bootBytes (if x then 1 - u.getF Reg.NAND_BOOT_SRC_COPY else u.getF Reg.NAND_BOOT_SRC_COPY))))

/-- The commands of the FTL. The first clause of each says what it does once the queue's front is a command of its opcode, allowed to its requester and with the volume mounted (FTL_FORMAT without); the second gives the effect of one that is not refused. FTL_MOUNT brings the medium into service. A submission with the command places its item first. Each equation gives the whole next state. -/
def Obligations.FtlCommandsComplete : Prop :=
  -- FTL_MOUNT
  (∀ (s : State) (req : Req) (b : Bool),
    TakesT s req Reg.FTL_CTRL_ENABLE → ((s.answer 0).flag Reg.LCS_STAT_DBG_CTX = false ∨ (s.answer 0).getF Reg.LCS_STAT_LC = 0) →
    exec (.ftlMount req b) s = .next ((s.answer 0).mount b)) ∧
  (∀ (s u t : State) (req : Req),
    TakesT s req Reg.FTL_CTRL_ENABLE → ((s.answer 0).flag Reg.LCS_STAT_DBG_CTX = false ∨ (s.answer 0).getF Reg.LCS_STAT_LC = 0) →
    u = (s.answer 0).setF Reg.FTL_CTRL_ENABLE 1 → u.flag Reg.FTL_STAT_MOUNTED = false → t = u.discover u.ftl.found → badDie t.ftl.found = none →
    t.ftl.found ≠ [] → t.ftl.header.isSome = true →
    exec (.ftlMount req true) s = .next t.mountMap) ∧
  -- FTL_READ
  (∀ (s : State) (sub : Option Submission) (u t : State) (b : Bytes),
    u = s.submitted 0x119 sub (fun x => .bytes (slice x.item 0 32 ++ [BitVec.ofNat 8 x.req.code])) →
    u.ftlCredit = true → u.ftlFront 1 = some (b, false, t) → ftlKnown b = true → ftlMay 1 b = true → t.flag Reg.FTL_STAT_MOUNTED = true →
    exec (.ftlRead sub) s = .next (t.ftlRead b)) ∧
  (∀ (s : State) (sub : Option Submission) (u t : State) (b : Bytes),
    u = s.submitted 0x119 sub (fun x => .bytes (slice x.item 0 32 ++ [BitVec.ofNat 8 x.req.code])) →
    u.ftlCredit = true → u.ftlFront 1 = some (b, false, t) → ftlKnown b = true → ftlMay 1 b = true → t.flag Reg.FTL_STAT_MOUNTED = true →
    t.itemFits b = true → t.itemDram b = true →
    exec (.ftlRead sub) s = .next (t.readPages b)) ∧
  -- FTL_WRITE
  (∀ (s : State) (sub : Option Submission) (u t : State) (b : Bytes),
    u = s.submitted 0x119 sub (fun x => .bytes (slice x.item 0 32 ++ [BitVec.ofNat 8 x.req.code])) →
    u.ftlCredit = true → u.ftlFront 2 = some (b, false, t) → ftlKnown b = true → ftlMay 2 b = true → t.flag Reg.FTL_STAT_MOUNTED = true →
    exec (.ftlWrite sub) s = .next (t.ftlWrite b)) ∧
  (∀ (s : State) (sub : Option Submission) (u t : State) (b : Bytes) (v : State),
    u = s.submitted 0x119 sub (fun x => .bytes (slice x.item 0 32 ++ [BitVec.ofNat 8 x.req.code])) →
    u.ftlCredit = true → u.ftlFront 2 = some (b, false, t) → ftlKnown b = true → ftlMay 2 b = true → t.flag Reg.FTL_STAT_MOUNTED = true →
    leAt b 2 1 = 9 → t.itemFits b = true → t.flag Reg.FTL_STAT_READ_ONLY = false → t.itemDiscarding b = false → t.itemDram b = true →
    t.writeBlks b = some v →
    exec (.ftlWrite sub) s = .next (v)) ∧
  -- FTL_TRIM_ARCH
  (∀ (s : State) (sub : Option Submission) (u t : State) (b : Bytes),
    u = s.submitted 0x119 sub (fun x => .bytes (slice x.item 0 32 ++ [BitVec.ofNat 8 x.req.code])) →
    u.ftlCredit = true → u.ftlFront 3 = some (b, false, t) → ftlKnown b = true → ftlMay 3 b = true → t.flag Reg.FTL_STAT_MOUNTED = true →
    exec (.ftlTrimArch sub) s = .next (State.settle (t.trimArch b) s.degCause)) ∧
  (∀ (s : State) (sub : Option Submission) (u t : State) (b : Bytes),
    u = s.submitted 0x119 sub (fun x => .bytes (slice x.item 0 32 ++ [BitVec.ofNat 8 x.req.code])) →
    u.ftlCredit = true → u.ftlFront 3 = some (b, false, t) → ftlKnown b = true → ftlMay 3 b = true → t.flag Reg.FTL_STAT_MOUNTED = true →
    t.flag Reg.FTL_STAT_READ_ONLY = false → t.tailFree = true →
    exec (.ftlTrimArch sub) s = .next (State.settle ((t.freeTail.ftlDone b 0 0).nandStart) s.degCause)) ∧
  -- FTL_SECURE_DISCARD
  (∀ (s : State) (sub : Option Submission) (u t : State) (b : Bytes),
    u = s.submitted 0x119 sub (fun x => .bytes (slice x.item 0 32 ++ [BitVec.ofNat 8 x.req.code])) →
    u.ftlCredit = true → u.ftlFront 4 = some (b, false, t) → ftlKnown b = true → ftlMay 4 b = true → t.flag Reg.FTL_STAT_MOUNTED = true →
    exec (.ftlSecureDiscard sub) s = .next (State.settle (t.secureDiscard b) s.degCause)) ∧
  (∀ (s : State) (sub : Option Submission) (u t : State) (b : Bytes),
    u = s.submitted 0x119 sub (fun x => .bytes (slice x.item 0 32 ++ [BitVec.ofNat 8 x.req.code])) →
    u.ftlCredit = true → u.ftlFront 4 = some (b, false, t) → ftlKnown b = true → ftlMay 4 b = true → t.flag Reg.FTL_STAT_MOUNTED = true →
    t.itemFits b = true → leAt b 2 1 ≠ 2 →
    exec (.ftlSecureDiscard sub) s = .next (State.settle (t.discardBlks b) s.degCause)) ∧
  -- FTL_RESIZE
  (∀ (s : State) (sub : Option Submission) (u t : State) (b : Bytes),
    u = s.submitted 0x119 sub (fun x => .bytes (slice x.item 0 32 ++ [BitVec.ofNat 8 x.req.code])) →
    u.ftlCredit = true → u.ftlFront 5 = some (b, false, t) → ftlKnown b = true → ftlMay 5 b = true → t.flag Reg.FTL_STAT_MOUNTED = true →
    exec (.ftlResize sub) s = .next (State.settle (t.ftlResize b) s.degCause)) ∧
  (∀ (s : State) (sub : Option Submission) (u t : State) (b : Bytes) (h : MediumHeader),
    u = s.submitted 0x119 sub (fun x => .bytes (slice x.item 0 32 ++ [BitVec.ofNat 8 x.req.code])) →
    u.ftlCredit = true → u.ftlFront 5 = some (b, false, t) → ftlKnown b = true → ftlMay 5 b = true → t.flag Reg.FTL_STAT_MOUNTED = true →
    t.ftl.header = some h → leAt b 2 1 = 2 → t.resizeShort h (leAt b 4 4) = false → t.flag Reg.FTL_STAT_READ_ONLY = false →
    exec (.ftlResize sub) s = .next (State.settle (t.resizeTo h b (leAt b 4 4)) s.degCause)) ∧
  -- FTL_FORMAT
  (∀ (s : State) (sub : Option Submission) (u t : State) (b : Bytes),
    u = s.submitted 0x119 sub (fun x => .bytes (slice x.item 0 32 ++ [BitVec.ofNat 8 x.req.code])) →
    u.ftlCredit = true → u.ftlFront 6 = some (b, false, t) → ftlKnown b = true → ftlMay 6 b = true →
    exec (.ftlFormat sub) s = .next (t.ftlFormat b)) ∧
  (∀ (s : State) (sub : Option Submission) (u t : State) (b : Bytes) (v : State),
    u = s.submitted 0x119 sub (fun x => .bytes (slice x.item 0 32 ++ [BitVec.ofNat 8 x.req.code])) →
    u.ftlCredit = true → u.ftlFront 6 = some (b, false, t) → ftlKnown b = true → ftlMay 6 b = true →
    v = t.discover t.ftl.found → v.flag Reg.FTL_STAT_MOUNTED = false → 0x0800000000 ≤ leAt b 16 8 → leAt b 16 8 + 56 ≤ dramTop + 1 →
    badDie v.ftl.found = none → v.formatFits (t.formatSizes b) = true →
    exec (.ftlFormat sub) s = .next (v.formatTo b (t.formatSizes b))) ∧
  -- FTL_DIE_EVACUATE
  (∀ (s : State) (sub : Option Submission) (u t : State) (b : Bytes),
    u = s.submitted 0x119 sub (fun x => .bytes (slice x.item 0 32 ++ [BitVec.ofNat 8 x.req.code])) →
    u.ftlCredit = true → u.ftlFront 7 = some (b, false, t) → ftlKnown b = true → ftlMay 7 b = true → t.flag Reg.FTL_STAT_MOUNTED = true →
    exec (.ftlDieEvacuate sub) s = .next (State.settle (t.dieEvacuate b) s.degCause)) ∧
  (∀ (s : State) (sub : Option Submission) (u t : State) (b : Bytes),
    u = s.submitted 0x119 sub (fun x => .bytes (slice x.item 0 32 ++ [BitVec.ofNat 8 x.req.code])) →
    u.ftlCredit = true → u.ftlFront 7 = some (b, false, t) → ftlKnown b = true → ftlMay 7 b = true → t.flag Reg.FTL_STAT_MOUNTED = true →
    t.diesIn.contains (leAt b 4 4) = true → (t.validBlks (leAt b 4 4)).length + t.getF Reg.FTL_SPARE_LOW_BLOCKS ≤ t.roomBeside (leAt b 4 4) →
    exec (.ftlDieEvacuate sub) s = .next (State.settle (t.evacuateDie b (leAt b 4 4)) s.degCause)) ∧
  -- FTL_DIE_ADD
  (∀ (s : State) (sub : Option Submission) (device : Option DieParam) (u t : State) (b : Bytes),
    u = s.submitted 0x119 sub (fun x => .bytes (slice x.item 0 32 ++ [BitVec.ofNat 8 x.req.code])) →
    u.ftlCredit = true → u.ftlFront 8 = some (b, false, t) → ftlKnown b = true → ftlMay 8 b = true → t.flag Reg.FTL_STAT_MOUNTED = true →
    exec (.ftlDieAdd sub device) s = .next (State.settle (State.dieAdd device t b) s.degCause)) ∧
  (∀ (s : State) (sub : Option Submission) (device : Option DieParam) (u t : State) (b : Bytes) (p : DieParam),
    u = s.submitted 0x119 sub (fun x => .bytes (slice x.item 0 32 ++ [BitVec.ofNat 8 x.req.code])) →
    u.ftlCredit = true → u.ftlFront 8 = some (b, false, t) → ftlKnown b = true → ftlMay 8 b = true → t.flag Reg.FTL_STAT_MOUNTED = true →
    t.diesIn.contains (leAt b 4 4) = false → device = some p → t.dieFits (leAt b 4 4) p = true →
    exec (.ftlDieAdd sub device) s = .next (State.settle (t.enterDie b (leAt b 4 4) p) s.degCause))

/-- DMA_CFG_REQ_WRITE names the requester of an idle channel; DMA_START, DMA_STOP, DMA_RESUME, DMA_ABORT and DMA_CLEAR drive a channel; DMA_DESCRIPTOR_FETCH, DMA_BEAT and DMA_DESCRIPTOR_END carry it on. Each equation gives the whole next state. -/
def Obligations.DmaCommandsComplete : Prop :=
  -- DMA_CFG_REQ_WRITE
  (∀ (s : State) (chan : Fin 16) (value : BitVec 3),
    TakesF s .trusted (Reg.DMA_CH_CFG_REQ chan.val) → (value = 0 ∨ value = 1 ∨ value = 4) → (s.answer 0).chanState chan.val = 0 →
    exec (.dmaCfgReqWrite .trusted chan value) s = .next ((s.answer 0).setF (Reg.DMA_CH_CFG_REQ chan.val) value.toNat)) ∧
  -- DMA_START
  (∀ (s : State) (req : Req) (chan : Fin 16) (a : Nat),
    TakesF s req (Reg.DMA_CH_CMD_START chan.val) → (s.answer 0).chanState chan.val = 0 → a ≠ 0 →
    a = (s.answer 0).getF (Reg.DMA_CH_FIRST_LO_ADDR chan.val) * 64 + (s.answer 0).getF (Reg.DMA_CH_FIRST_HI_ADDR chan.val) * 2 ^ 32 →
    exec (.dmaStart req chan) s = .next ((((s.answer 0).takeShadow chan.val).1.setChan chan.val {}).toFetch chan.val a)) ∧
  -- DMA_STOP
  (∀ (s : State) (req : Req) (chan : Fin 16),
    TakesF s req (Reg.DMA_CH_CMD_STOP chan.val) → ((s.answer 0).chanState chan.val = 1 ∨ (s.answer 0).chanState chan.val = 2) →
    exec (.dmaStop req chan) s = .next ((s.answer 0).setChan chan.val { (s.answer 0).chan chan.val with stop := true })) ∧
  -- DMA_RESUME
  (∀ (s : State) (req : Req) (chan : Fin 16) (t : State) (nx : Option Nat),
    TakesF s req (Reg.DMA_CH_CMD_RESUME chan.val) → (s.answer 0).chanState chan.val = 3 → (s.answer 0).takeShadow chan.val = (t, nx) →
    nx.getD ((s.answer 0).chan chan.val).next ≠ 0 →
    exec (.dmaResume req chan) s = .next ((t.setChan chan.val {}).toFetch chan.val (nx.getD ((s.answer 0).chan chan.val).next))) ∧
  -- DMA_ABORT
  (∀ (s : State) (req : Req) (chan : Fin 16),
    TakesF s req (Reg.DMA_CH_CMD_ABORT chan.val) → (s.answer 0).descDone chan.val = false →
    exec (.dmaAbort req chan) s = .next ((s.answer 0).dmaAbort chan.val)) ∧
  -- DMA_CLEAR
  (∀ (s : State) (req : Req) (chan : Fin 16),
    TakesF s req (Reg.DMA_CH_CMD_CLEAR chan.val) → (s.answer 0).chanState chan.val = 4 →
    exec (.dmaClear req chan) s = .next (((s.answer 0).setChan chan.val {}).toChan chan.val 0)) ∧
  -- DMA_DESCRIPTOR_FETCH
  (∀ (s : State) (n : Nat),
    s.dmaGrant = some n → s.chanState n = 1 →
    exec .dmaDescriptorFetch s = .next ((s.granted n 0).fetchDesc n)) ∧
  -- DMA_BEAT
  (∀ (s : State) (n : Nat),
    s.dmaGrant = some n → s.chanState n = 2 →
    exec .dmaBeat s = .next ((s.granted n (if burstEnds (s.chan n).desc ((s.chan n).pos + beatLen (s.chanReq n) (s.chan n).desc (s.chan n).pos) then 0 else 31)).moveBeat n)) ∧
  -- DMA_DESCRIPTOR_END
  (∀ (s : State) (chan : Fin 16),
    s.descDone chan.val = true →
    exec (.dmaDescriptorEnd chan) s = .next (s.descEnd chan.val))

/-- KEY_LOAD, KEY_ERASE, KEY_NARROW, KEY_DERIVE, KEY_GENERATE, KEY_UNWRAP and KEY_WRAP write the command word and start the key engine; the second clause of each gives the effect of one that the engine does not refuse, with no other command waiting; that of KEY_UNWRAP tells a blob that opens from one that the engine refuses. KEY_CMD_DONE ends a job; KEY_ZEROISE erases every slot; KEY_REMASK draws new masks and leaves every key as it was. Each equation gives the whole next state. -/
def Obligations.KeyCommandsComplete : Prop :=
  -- KEY_LOAD
  (∀ (s : State) (req : Req) (target source : BitVec 6) (kind : BitVec 2) (lenSel : BitVec 6),
    TakesA s req Reg.KEY_CMD_GO (keyWord 1 target source kind lenSel) →
    exec (.keyLoad req target source kind lenSel) s = .next ((plainly s req Reg.KEY_CMD_GO (keyWord 1 target source kind lenSel)).keyGo req)) ∧
  (∀ (s u t : State) (c : KeyCmd) (req : Req) (target source : BitVec 6) (kind : BitVec 2) (lenSel : BitVec 6),
    TakesA s req Reg.KEY_CMD_GO (keyWord 1 target source kind lenSel) → u = plainly s req Reg.KEY_CMD_GO (keyWord 1 target source kind lenSel) →
    c = u.keyCmd req → t = (u.keyQueue c).setBytes (fun k => Reg.KEY_WRAP_OUT_DATA k) 18 [] → c.op = 1 → u.sec.jobs = [] →
    (u.keyQueue c).trivetBusy = false → t.keyRefusal c = 0 →
    exec (.keyLoad req target source kind lenSel) s = .next (((t.loadSlot c.target (c.data.take (keyLen c.len)) (t.newAttrs c)).setBytes (fun k => Reg.KEY_KEY_DATA_DATA k) 18 []).setJobs [{ cmd := c, ran := true, undo := some (t.slot c.target) }])) ∧
  -- KEY_ERASE
  (∀ (s : State) (req : Req) (target source : BitVec 6) (kind : BitVec 2) (lenSel : BitVec 6),
    TakesA s req Reg.KEY_CMD_GO (keyWord 2 target source kind lenSel) →
    exec (.keyErase req target source kind lenSel) s = .next ((plainly s req Reg.KEY_CMD_GO (keyWord 2 target source kind lenSel)).keyGo req)) ∧
  (∀ (s u t : State) (c : KeyCmd) (req : Req) (target source : BitVec 6) (kind : BitVec 2) (lenSel : BitVec 6),
    TakesA s req Reg.KEY_CMD_GO (keyWord 2 target source kind lenSel) → u = plainly s req Reg.KEY_CMD_GO (keyWord 2 target source kind lenSel) →
    c = u.keyCmd req → t = (u.keyQueue c).setBytes (fun k => Reg.KEY_WRAP_OUT_DATA k) 18 [] → c.op = 2 → u.sec.jobs = [] →
    (u.keyQueue c).trivetBusy = false → t.keyRefusal c = 0 →
    exec (.keyErase req target source kind lenSel) s = .next ((t.eraseSlot c.target).setJobs [{ cmd := c, ran := true, undo := none }])) ∧
  -- KEY_NARROW
  (∀ (s : State) (req : Req) (target source : BitVec 6) (kind : BitVec 2) (lenSel : BitVec 6),
    TakesA s req Reg.KEY_CMD_GO (keyWord 3 target source kind lenSel) →
    exec (.keyNarrow req target source kind lenSel) s = .next ((plainly s req Reg.KEY_CMD_GO (keyWord 3 target source kind lenSel)).keyGo req)) ∧
  (∀ (s u t : State) (c : KeyCmd) (req : Req) (target source : BitVec 6) (kind : BitVec 2) (lenSel : BitVec 6),
    TakesA s req Reg.KEY_CMD_GO (keyWord 3 target source kind lenSel) → u = plainly s req Reg.KEY_CMD_GO (keyWord 3 target source kind lenSel) →
    c = u.keyCmd req → t = (u.keyQueue c).setBytes (fun k => Reg.KEY_WRAP_OUT_DATA k) 18 [] → c.op = 3 → u.sec.jobs = [] →
    (u.keyQueue c).trivetBusy = false → t.keyRefusal c = 0 →
    exec (.keyNarrow req target source kind lenSel) s = .next ((t.setSlotK c.target { t.slot c.target with dest := (t.slot c.target).dest &&& (t.newAttrs c).dest, usage := (t.slot c.target).usage &&& (t.newAttrs c).usage, export_ := (t.slot c.target).export_ && (t.newAttrs c).export_ }).setJobs [{ cmd := c, ran := true, undo := none }])) ∧
  -- KEY_DERIVE
  (∀ (s : State) (req : Req) (target source : BitVec 6) (kind : BitVec 2) (lenSel : BitVec 6),
    TakesA s req Reg.KEY_CMD_GO (keyWord 4 target source kind lenSel) →
    exec (.keyDerive req target source kind lenSel) s = .next ((plainly s req Reg.KEY_CMD_GO (keyWord 4 target source kind lenSel)).keyGo req)) ∧
  (∀ (s u t : State) (c : KeyCmd) (req : Req) (target source : BitVec 6) (kind : BitVec 2) (lenSel : BitVec 6),
    TakesA s req Reg.KEY_CMD_GO (keyWord 4 target source kind lenSel) → u = plainly s req Reg.KEY_CMD_GO (keyWord 4 target source kind lenSel) →
    c = u.keyCmd req → t = (u.keyQueue c).setBytes (fun k => Reg.KEY_WRAP_OUT_DATA k) 18 [] → c.op = 4 → u.sec.jobs = [] →
    (u.keyQueue c).trivetBusy = false → t.keyRefusal c = 0 →
    exec (.keyDerive req target source kind lenSel) s = .next ((t.loadSlot c.target (kmac (t.keySource c) (BitVec.ofNat 8 c.req.code :: c.label) (keyLen c.len)) (t.newAttrs c)).setJobs [{ cmd := c, ran := true, undo := some (t.slot c.target) }])) ∧
  -- KEY_GENERATE
  (∀ (s : State) (req : Req) (target source : BitVec 6) (kind : BitVec 2) (lenSel : BitVec 6),
    TakesA s req Reg.KEY_CMD_GO (keyWord 5 target source kind lenSel) →
    exec (.keyGenerate req target source kind lenSel) s = .next ((plainly s req Reg.KEY_CMD_GO (keyWord 5 target source kind lenSel)).keyGo req)) ∧
  (∀ (s u t : State) (c : KeyCmd) (req : Req) (target source : BitVec 6) (kind : BitVec 2) (lenSel : BitVec 6) (d : Bytes) (v : State),
    TakesA s req Reg.KEY_CMD_GO (keyWord 5 target source kind lenSel) → u = plainly s req Reg.KEY_CMD_GO (keyWord 5 target source kind lenSel) →
    c = u.keyCmd req → t = (u.keyQueue c).setBytes (fun k => Reg.KEY_WRAP_OUT_DATA k) 18 [] → c.op = 5 → u.sec.jobs = [] →
    (u.keyQueue c).trivetBusy = false → t.keyRefusal c = 0 → t.drawBytes (keyLen c.len) = (d, v) →
    exec (.keyGenerate req target source kind lenSel) s = .next ((v.loadSlot c.target d (t.newAttrs c)).setJobs [{ cmd := c, ran := true, undo := some (t.slot c.target) }])) ∧
  -- KEY_UNWRAP
  (∀ (s : State) (req : Req) (target source : BitVec 6) (kind : BitVec 2) (lenSel : BitVec 6),
    TakesA s req Reg.KEY_CMD_GO (keyWord 6 target source kind lenSel) →
    exec (.keyUnwrap req target source kind lenSel) s = .next ((plainly s req Reg.KEY_CMD_GO (keyWord 6 target source kind lenSel)).keyGo req)) ∧
  (∀ (s u t : State) (c : KeyCmd) (req : Req) (target source : BitVec 6) (kind : BitVec 2) (lenSel : BitVec 6),
    TakesA s req Reg.KEY_CMD_GO (keyWord 6 target source kind lenSel) → u = plainly s req Reg.KEY_CMD_GO (keyWord 6 target source kind lenSel) →
    c = u.keyCmd req → t = (u.keyQueue c).setBytes (fun k => Reg.KEY_WRAP_OUT_DATA k) 18 [] → c.op = 6 → u.sec.jobs = [] →
    (u.keyQueue c).trivetBusy = false →
    exec (.keyUnwrap req target source kind lenSel) s = .next (match (if t.keyRefusal c = 0 then t.unwrapped c else none) with
      | some (k, key) => (t.loadSlot c.target key { k with owner := c.req.code }).setJobs [{ cmd := c, ran := true, undo := some (t.slot c.target) }]
      | none => t.setJobs [{ cmd := c, ran := true, status := t.keyRefusal c }])) ∧
  -- KEY_WRAP
  (∀ (s : State) (req : Req) (target source : BitVec 6) (kind : BitVec 2) (lenSel : BitVec 6),
    TakesA s req Reg.KEY_CMD_GO (keyWord 7 target source kind lenSel) →
    exec (.keyWrap req target source kind lenSel) s = .next ((plainly s req Reg.KEY_CMD_GO (keyWord 7 target source kind lenSel)).keyGo req)) ∧
  (∀ (s u t : State) (c : KeyCmd) (req : Req) (target source : BitVec 6) (kind : BitVec 2) (lenSel : BitVec 6),
    TakesA s req Reg.KEY_CMD_GO (keyWord 7 target source kind lenSel) → u = plainly s req Reg.KEY_CMD_GO (keyWord 7 target source kind lenSel) →
    c = u.keyCmd req → t = (u.keyQueue c).setBytes (fun k => Reg.KEY_WRAP_OUT_DATA k) 18 [] → c.op = 7 → u.sec.jobs = [] →
    (u.keyQueue c).trivetBusy = false → t.keyRefusal c = 0 →
    exec (.keyWrap req target source kind lenSel) s = .next ((t.setBytes (fun k => Reg.KEY_WRAP_OUT_DATA k) 18 (aesKwp (t.keySource c) (blobPlain (t.slot c.target)))).setJobs [{ cmd := c, ran := true, undo := none }])) ∧
  -- KEY_CMD_DONE
  (∀ (s : State) (j : KeyJob) (r : List KeyJob),
    s.sec.jobs = j :: r → j.ran = true →
    exec .keyCmdDone s = .next (s.keyEnd j.status r)) ∧
  -- KEY_ZEROISE
  (∀ (s : State) (req : Req),
    TakesF s req Reg.KEY_CTRL_ZEROISE →
    exec (.keyZeroise req) s = .next ((s.answer 0).eraseAll)) ∧
  -- KEY_REMASK
  (∀ (s : State) (t : State),
    s.domOn .fabric = true → s.sec.remaskAt + 1000000 ≤ s.tb1 →
    (t = (List.range 64).foldl (fun t n => if (t.slot n).full then (t.drawBytes (t.slot n).share.length).2.setSlotK n { t.slot n with share := xorB (t.slot n).share (t.drawBytes (t.slot n).share.length).1, mask := xorB (t.slot n).mask (t.drawBytes (t.slot n).share.length).1 } else t) s) →
    exec .keyRemask s = .next (({ t with sec := { t.sec with remaskAt := t.tb1 } } : State).count Reg.KEY_REMASK_CNT_CNT))

/-- Each service of the TRIVET queue, at the front, with the engine idle and a reply credit, is carried out and answered (a submission with the command places its item first): ATTEST signs the statement, SEAL and UNSEAL protect and open a blob, KEK_IMPORT, KEK_STORE, KEK_REMOVE and KSVC_SET manage the key-encryption keys. Each equation gives the whole next state, with the reply to a blob that does not open where the result turns on one. -/
def Obligations.TrivetCommandsComplete : Prop :=
  -- TRIVET_ATTEST
  (∀ (s : State) (sub : Option Submission) (u : State) (b : Bytes),
    (u = s.submitted 0x40 sub (fun x => .bytes (splice (slice x.item 0 256) 0 [BitVec.ofNat 8 1]))) → u.domOn .fabric = true →
    u.sec.tId.isEmpty = false → u.trivetBusy = false → u.hasCredit 0x41 = true → (u.queue 0x40).items.head? = some ⟨.bytes b, 0⟩ →
    leAt b 0 1 = 1 → ((u.popped 0x40).slot 4).may Usage.sign = true → rangeMapped (leAt b 16 8) 374 = true →
    exec (.trivetAttest sub) s = .next (((u.popped 0x40).write (leAt b 16 8) ((u.popped 0x40).statement (slice b 32 32) ++ edSign ((u.popped 0x40).slot 4).key false ((u.popped 0x40).statement (slice b 32 32)))).trivetReply b 0 374)) ∧
  -- TRIVET_SEAL
  (∀ (s : State) (sub : Option Submission) (u : State) (b : Bytes) (iv : Bytes) (t : State),
    (u = s.submitted 0x40 sub (fun x => .bytes (splice (slice x.item 0 256) 0 [BitVec.ofNat 8 2]))) → u.domOn .fabric = true →
    u.sec.tId.isEmpty = false → u.trivetBusy = false → u.hasCredit 0x41 = true → (u.queue 0x40).items.head? = some ⟨.bytes b, 0⟩ →
    leAt b 0 1 = 2 → (u.popped 0x40).unconfirmed = false → (u.popped 0x40).sec.tSeal.isEmpty = false → leAt b 24 4 ≤ 4096 →
    rangeMapped (leAt b 8 8) (leAt b 24 4) = true → rangeMapped (leAt b 16 8) (leAt b 24 4 + 29) = true → (u.popped 0x40).drawBytes 12 = (iv, t) →
    exec (.trivetSeal sub) s = .next (((t.drawBytes 12).2.write (leAt b 16 8) ([1] ++ sealed (t.drawBytes 12).2.sec.tSeal iv ((u.popped 0x40).read (leAt b 8 8) (leAt b 24 4)))).trivetReply b 0 (leAt b 24 4 + 29))) ∧
  -- TRIVET_UNSEAL
  (∀ (s : State) (sub : Option Submission) (u : State) (b : Bytes),
    (u = s.submitted 0x40 sub (fun x => .bytes (splice (slice x.item 0 256) 0 [BitVec.ofNat 8 3]))) → u.domOn .fabric = true →
    u.sec.tId.isEmpty = false → u.trivetBusy = false → u.hasCredit 0x41 = true → (u.queue 0x40).items.head? = some ⟨.bytes b, 0⟩ →
    leAt b 0 1 = 3 → leAt b 24 4 ≤ 2 * (4096 + 28) + 1 → rangeMapped (leAt b 8 8) (leAt b 24 4) = true →
    exec (.trivetUnseal sub) s = .next (match (u.popped 0x40).unsealBlob ((u.popped 0x40).read (leAt b 8 8) (leAt b 24 4)) with | none => (u.popped 0x40).trivetReply b 0x0106 0 | some d => if rangeMapped (leAt b 16 8) d.length then ((u.popped 0x40).write (leAt b 16 8) d).trivetReply b 0 d.length else (u.popped 0x40).trivetReply b Err.addrUnmapped 0)) ∧
  -- TRIVET_KEK_IMPORT
  (∀ (s : State) (sub : Option Submission) (u : State) (b : Bytes),
    (u = s.submitted 0x40 sub (fun x => .bytes (splice (slice x.item 0 256) 0 [BitVec.ofNat 8 4]))) → u.domOn .fabric = true →
    u.sec.tId.isEmpty = false → u.trivetBusy = false → u.hasCredit 0x41 = true → (u.queue 0x40).items.head? = some ⟨.bytes b, 0⟩ →
    leAt b 0 1 = 4 →
    exec (.trivetKekImport sub) s = .next (match (u.popped 0x40).transported b with | none => (u.popped 0x40).trivetReply b 0x0106 0 | some (k, key) => if k.gen ≤ ((u.popped 0x40).slot (leAt b 2 1 % 2)).gen then (u.popped 0x40).trivetReply b 0x0106 0 else if (needsCtr k.usage && !(u.popped 0x40).trngOk) = true then (u.popped 0x40).trivetReply b 0x0107 0 else ((u.popped 0x40).loadSlot (leAt b 2 1 % 2) key { k with owner := Req.trusted.code }).trivetReply b 0 0)) ∧
  -- TRIVET_KEK_STORE
  (∀ (s : State) (sub : Option Submission) (u : State) (b : Bytes),
    (u = s.submitted 0x40 sub (fun x => .bytes (splice (slice x.item 0 256) 0 [BitVec.ofNat 8 5]))) → u.domOn .fabric = true →
    u.sec.tId.isEmpty = false → u.trivetBusy = false → u.hasCredit 0x41 = true → (u.queue 0x40).items.head? = some ⟨.bytes b, 0⟩ →
    leAt b 0 1 = 5 → ((u.popped 0x40).slot (leAt b 2 1 % 2)).full = true → ((u.popped 0x40).slot 2).full = true →
    ((u.popped 0x40).slot (leAt b 2 1 % 2)).export_ = true → ((u.popped 0x40).slot 2).may Usage.enc = true →
    exec (.trivetKekStore sub) s = .next (((u.popped 0x40).setBlob (leAt b 2 1 % 2) (some (aesKwp ((u.popped 0x40).slot 2).key (blobPlain ((u.popped 0x40).slot (leAt b 2 1 % 2)))))).trivetReply b 0 0)) ∧
  -- TRIVET_KEK_REMOVE
  (∀ (s : State) (sub : Option Submission) (u : State) (b : Bytes),
    (u = s.submitted 0x40 sub (fun x => .bytes (splice (slice x.item 0 256) 0 [BitVec.ofNat 8 6]))) → u.domOn .fabric = true →
    u.sec.tId.isEmpty = false → u.trivetBusy = false → u.hasCredit 0x41 = true → (u.queue 0x40).items.head? = some ⟨.bytes b, 0⟩ →
    leAt b 0 1 = 6 →
    exec (.trivetKekRemove sub) s = .next ((((u.popped 0x40).eraseSlot (leAt b 2 1 % 2)).setBlob (leAt b 2 1 % 2) none).trivetReply b 0 0)) ∧
  -- TRIVET_KSVC_SET
  (∀ (s : State) (sub : Option Submission) (u : State) (b : Bytes),
    (u = s.submitted 0x40 sub (fun x => .bytes (splice (slice x.item 0 256) 0 [BitVec.ofNat 8 7]))) → u.domOn .fabric = true →
    u.sec.tId.isEmpty = false → u.trivetBusy = false → u.hasCredit 0x41 = true → (u.queue 0x40).items.head? = some ⟨.bytes b, 0⟩ →
    leAt b 0 1 = 7 → ((u.popped 0x40).slot 2).may Usage.enc = true →
    exec (.trivetKsvcSet sub) s = .next (match (u.popped 0x40).transported b with | none => (u.popped 0x40).trivetReply b 0x0106 0 | some (k, key) => ((((u.popped 0x40).clearVkr.write 0x02003C00 key).setBlob 2 (some (aesKwp ((u.popped 0x40).slot 2).key (leBytes 2 k.gen ++ leBytes 2 k.dest ++ leBytes 1 k.usage ++ leBytes 1 (32 + if k.export_ then 128 else 0) ++ key))))).trivetReply b 0 0))

/-- Each job of the CIPH queue, at the front, well formed, with a slot that may be used so and with a unit ready and a reply credit, is carried out and answered (a submission with the command places its item first): GCM, CTR, GMAC, CMAC, FF1 and the meter jobs. REWRAP_GO starts and REWRAP_RECORD carries on the rewrapping of the meter keys. Each equation gives the whole next state. -/
def Obligations.CipherJobCommandsComplete : Prop :=
  -- CIPH_GCM_ENC
  (∀ (s : State) (sub : Option Submission) (u : State) (b : Bytes) (key : Bytes) (c : Nat) (t : State),
    (u = s.submitted 0x48 sub (fun x => .bytes (slice x.item 0 64))) → u.unitsReady ≠ 0 → u.jobsRun = true → u.hasCredit 0x49 = true →
    (u.queue 0x48).items.head? = some ⟨.bytes b, 0⟩ → leAt b 0 1 = 1 → ciphFits 1 b = true →
    (u.popped 0x48).ciphSlot (ciphFields b).slot Usage.enc = 0 → key = ((u.popped 0x48).slot (ciphFields b).slot).key →
    (key.length = 16 ∨ key.length = 32) → rangeMapped (ciphFields b).dst (ciphFields b).len = true →
    (u.popped 0x48).takeIv (ciphFields b).slot = some (c, t) →
    exec (.ciphGcmEnc sub) s = .next ((t.write (ciphFields b).dst (gcmCrypt key ((ciphFields b).fixed ++ beBytes 8 c) (t.read ((ciphFields b).src + (ciphFields b).aad) (ciphFields b).len))).ciphDone b 0 c (gcmTag key ((ciphFields b).fixed ++ beBytes 8 c) (t.read (ciphFields b).src (ciphFields b).aad) (gcmCrypt key ((ciphFields b).fixed ++ beBytes 8 c) (t.read ((ciphFields b).src + (ciphFields b).aad) (ciphFields b).len))))) ∧
  -- CIPH_GCM_DEC
  (∀ (s : State) (sub : Option Submission) (u : State) (b : Bytes) (key : Bytes) (iv ct : Bytes),
    (u = s.submitted 0x48 sub (fun x => .bytes (slice x.item 0 64))) → u.unitsReady ≠ 0 → u.jobsRun = true → u.hasCredit 0x49 = true →
    (u.queue 0x48).items.head? = some ⟨.bytes b, 0⟩ → leAt b 0 1 = 2 → ciphFits 2 b = true →
    (u.popped 0x48).ciphSlot (ciphFields b).slot Usage.dec = 0 → key = ((u.popped 0x48).slot (ciphFields b).slot).key →
    (key.length = 16 ∨ key.length = 32) → rangeMapped (ciphFields b).dst (ciphFields b).len = true →
    iv = (ciphFields b).fixed ++ beBytes 8 (ciphFields b).ivc →
    ct = (u.popped 0x48).read ((ciphFields b).src + (ciphFields b).aad) (ciphFields b).len →
    exec (.ciphGcmDec sub) s = .next (if gcmTag key iv ((u.popped 0x48).read (ciphFields b).src (ciphFields b).aad) ct = (ciphFields b).tagv then ((u.popped 0x48).write (ciphFields b).dst (gcmCrypt key iv ct)).ciphDone b 0 (ciphFields b).ivc (gcmTag key iv ((u.popped 0x48).read (ciphFields b).src (ciphFields b).aad) ct) else (u.popped 0x48).ciphDone b 0x0100 (ciphFields b).ivc [])) ∧
  -- CIPH_CTR_ENC
  (∀ (s : State) (sub : Option Submission) (u : State) (b : Bytes) (key : Bytes) (c : Nat) (t : State),
    (u = s.submitted 0x48 sub (fun x => .bytes (slice x.item 0 64))) → u.unitsReady ≠ 0 → u.jobsRun = true → u.hasCredit 0x49 = true →
    (u.queue 0x48).items.head? = some ⟨.bytes b, 0⟩ → leAt b 0 1 = 3 → ciphFits 3 b = true →
    (u.popped 0x48).ciphSlot (ciphFields b).slot Usage.enc = 0 → key = ((u.popped 0x48).slot (ciphFields b).slot).key →
    (key.length = 16 ∨ key.length = 32) → rangeMapped (ciphFields b).dst (ciphFields b).len = true →
    (u.popped 0x48).takeIv (ciphFields b).slot = some (c, t) →
    exec (.ciphCtrEnc sub) s = .next ((t.write (ciphFields b).dst (aesCtr key (((ciphFields b).fixed ++ beBytes 8 c) ++ [0, 0, 0, 1]) (t.read (ciphFields b).src (ciphFields b).len))).ciphDone b 0 c [])) ∧
  -- CIPH_CTR_DEC
  (∀ (s : State) (sub : Option Submission) (u : State) (b : Bytes) (key : Bytes),
    (u = s.submitted 0x48 sub (fun x => .bytes (slice x.item 0 64))) → u.unitsReady ≠ 0 → u.jobsRun = true → u.hasCredit 0x49 = true →
    (u.queue 0x48).items.head? = some ⟨.bytes b, 0⟩ → leAt b 0 1 = 4 → ciphFits 4 b = true →
    (u.popped 0x48).ciphSlot (ciphFields b).slot Usage.dec = 0 → key = ((u.popped 0x48).slot (ciphFields b).slot).key →
    (key.length = 16 ∨ key.length = 32) → rangeMapped (ciphFields b).dst (ciphFields b).len = true →
    exec (.ciphCtrDec sub) s = .next (((u.popped 0x48).write (ciphFields b).dst (aesCtr key ((ciphFields b).fixed ++ beBytes 8 (ciphFields b).ivc ++ [0, 0, 0, 1]) ((u.popped 0x48).read (ciphFields b).src (ciphFields b).len))).ciphDone b 0 (ciphFields b).ivc [])) ∧
  -- CIPH_GMAC_GEN
  (∀ (s : State) (sub : Option Submission) (u : State) (b : Bytes) (key : Bytes) (c : Nat) (t : State),
    (u = s.submitted 0x48 sub (fun x => .bytes (slice x.item 0 64))) → u.unitsReady ≠ 0 → u.jobsRun = true → u.hasCredit 0x49 = true →
    (u.queue 0x48).items.head? = some ⟨.bytes b, 0⟩ → leAt b 0 1 = 5 → ciphFits 5 b = true →
    (u.popped 0x48).ciphSlot (ciphFields b).slot Usage.macGen = 0 → key = ((u.popped 0x48).slot (ciphFields b).slot).key →
    (key.length = 16 ∨ key.length = 32) → (u.popped 0x48).takeIv (ciphFields b).slot = some (c, t) →
    exec (.ciphGmacGen sub) s = .next (t.ciphDone b 0 c (gcmTag key ((ciphFields b).fixed ++ beBytes 8 c) (t.read (ciphFields b).src ((ciphFields b).aad + (ciphFields b).len)) []))) ∧
  -- CIPH_GMAC_VER
  (∀ (s : State) (sub : Option Submission) (u : State) (b : Bytes) (key : Bytes),
    (u = s.submitted 0x48 sub (fun x => .bytes (slice x.item 0 64))) → u.unitsReady ≠ 0 → u.jobsRun = true → u.hasCredit 0x49 = true →
    (u.queue 0x48).items.head? = some ⟨.bytes b, 0⟩ → leAt b 0 1 = 6 → ciphFits 6 b = true →
    (u.popped 0x48).ciphSlot (ciphFields b).slot Usage.macVer = 0 → key = ((u.popped 0x48).slot (ciphFields b).slot).key →
    (key.length = 16 ∨ key.length = 32) →
    exec (.ciphGmacVer sub) s = .next ((u.popped 0x48).ciphDone b (if gcmTag key ((ciphFields b).fixed ++ beBytes 8 (ciphFields b).ivc) ((u.popped 0x48).read (ciphFields b).src ((ciphFields b).aad + (ciphFields b).len)) [] = (ciphFields b).tagv then 0 else 0x0100) (ciphFields b).ivc [])) ∧
  -- CIPH_CMAC_GEN
  (∀ (s : State) (sub : Option Submission) (u : State) (b : Bytes) (key : Bytes),
    (u = s.submitted 0x48 sub (fun x => .bytes (slice x.item 0 64))) → u.unitsReady ≠ 0 → u.jobsRun = true → u.hasCredit 0x49 = true →
    (u.queue 0x48).items.head? = some ⟨.bytes b, 0⟩ → leAt b 0 1 = 7 → ciphFits 7 b = true →
    (u.popped 0x48).ciphSlot (ciphFields b).slot Usage.macGen = 0 → key = ((u.popped 0x48).slot (ciphFields b).slot).key →
    (key.length = 16 ∨ key.length = 32) →
    exec (.ciphCmacGen sub) s = .next ((u.popped 0x48).ciphDone b 0 0 (cmac key ((u.popped 0x48).read (ciphFields b).src (ciphFields b).len)))) ∧
  -- CIPH_CMAC_VER
  (∀ (s : State) (sub : Option Submission) (u : State) (b : Bytes) (key : Bytes),
    (u = s.submitted 0x48 sub (fun x => .bytes (slice x.item 0 64))) → u.unitsReady ≠ 0 → u.jobsRun = true → u.hasCredit 0x49 = true →
    (u.queue 0x48).items.head? = some ⟨.bytes b, 0⟩ → leAt b 0 1 = 8 → ciphFits 8 b = true →
    (u.popped 0x48).ciphSlot (ciphFields b).slot Usage.macVer = 0 → key = ((u.popped 0x48).slot (ciphFields b).slot).key →
    (key.length = 16 ∨ key.length = 32) →
    exec (.ciphCmacVer sub) s = .next ((u.popped 0x48).ciphDone b (if cmac key ((u.popped 0x48).read (ciphFields b).src (ciphFields b).len) = (ciphFields b).tagv then 0 else 0x0100) 0 [])) ∧
  -- CIPH_FF1_ENC
  (∀ (s : State) (sub : Option Submission) (u : State) (b : Bytes) (key : Bytes) (d : List Nat),
    (u = s.submitted 0x48 sub (fun x => .bytes (slice x.item 0 64))) → u.unitsReady ≠ 0 → u.jobsRun = true → u.hasCredit 0x49 = true →
    (u.queue 0x48).items.head? = some ⟨.bytes b, 0⟩ → leAt b 0 1 = 9 → ciphFits 9 b = true →
    (u.popped 0x48).ciphSlot (ciphFields b).slot Usage.enc = 0 → key = ((u.popped 0x48).slot (ciphFields b).slot).key →
    (key.length = 16 ∨ key.length = 32) → rangeMapped (ciphFields b).dst (ciphFields b).len = true →
    asciiDigits ((u.popped 0x48).read (ciphFields b).src (ciphFields b).len) = some d → key.length = 32 →
    exec (.ciphFf1Enc sub) s = .next (((u.popped 0x48).write (ciphFields b).dst ((ff1Enc key (slice b 56 8) d).map (fun x => BitVec.ofNat 8 (x + 48)))).ciphDone b 0 0 [])) ∧
  -- CIPH_FF1_DEC
  (∀ (s : State) (sub : Option Submission) (u : State) (b : Bytes) (key : Bytes) (d : List Nat),
    (u = s.submitted 0x48 sub (fun x => .bytes (slice x.item 0 64))) → u.unitsReady ≠ 0 → u.jobsRun = true → u.hasCredit 0x49 = true →
    (u.queue 0x48).items.head? = some ⟨.bytes b, 0⟩ → leAt b 0 1 = 10 → ciphFits 10 b = true →
    (u.popped 0x48).ciphSlot (ciphFields b).slot Usage.dec = 0 → key = ((u.popped 0x48).slot (ciphFields b).slot).key →
    (key.length = 16 ∨ key.length = 32) → rangeMapped (ciphFields b).dst (ciphFields b).len = true →
    asciiDigits ((u.popped 0x48).read (ciphFields b).src (ciphFields b).len) = some d → key.length = 32 →
    exec (.ciphFf1Dec sub) s = .next (((u.popped 0x48).write (ciphFields b).dst ((ff1Dec key (slice b 56 8) d).map (fun x => BitVec.ofNat 8 (x + 48)))).ciphDone b 0 0 [])) ∧
  -- CIPH_METER_WRAP
  (∀ (s : State) (sub : Option Submission) (u : State) (b : Bytes) (key : Bytes),
    (u = s.submitted 0x48 sub (fun x => .bytes (slice x.item 0 64))) → u.unitsReady ≠ 0 → u.jobsRun = true → u.hasCredit 0x49 = true →
    (u.queue 0x48).items.head? = some ⟨.bytes b, 0⟩ → leAt b 0 1 = 16 → ciphFits 16 b = true →
    (u.popped 0x48).ciphSlot (ciphFields b).slot Usage.dec = 0 → key = ((u.popped 0x48).slot (ciphFields b).slot).key →
    (key.length = 16 ∨ key.length = 32) → rangeMapped (ciphFields b).dst 40 = true → 8 ≤ (ciphFields b).slot → (ciphFields b).len = 40 →
    (u.popped 0x48).ciphSlot (ciphFields b).arg Usage.enc = 0 →
    exec (.ciphMeterWrap sub) s = .next (match aesKwUnwrap key ((u.popped 0x48).read (ciphFields b).src 40) with | none => (u.popped 0x48).ciphDone b 0x0107 0 [] | some p => ((u.popped 0x48).write (ciphFields b).dst (aesKw ((u.popped 0x48).slot (ciphFields b).arg).key p)).ciphDone b 0 ((u.popped 0x48).slot (ciphFields b).arg).gen [])) ∧
  -- CIPH_METER_ENC
  (∀ (s : State) (sub : Option Submission) (u : State) (b : Bytes) (m v : Nat),
    (u = s.submitted 0x48 sub (fun x => .bytes (slice x.item 0 64))) → u.unitsReady ≠ 0 → u.jobsRun = true → u.hasCredit 0x49 = true →
    (u.queue 0x48).items.head? = some ⟨.bytes b, 0⟩ → leAt b 0 1 = 17 → ciphFits 17 b = true → m = leNat (ciphFields b).fixed →
    (u.popped 0x48).jobUnit = some v → m < (u.popped 0x48).roleLimit → (ciphFields b).aad = 18 →
    (bitsOf ((u.popped 0x48).recF m 0x008 4) 5 4 = 1 ∨ bitsOf ((u.popped 0x48).recF m 0x008 4) 5 4 = 2) →
    exec (.ciphMeterEnc sub) s = .next (match (u.popped 0x48).frameKey m v with | none => (u.popped 0x48).ciphDone b ((u.popped 0x48).meterStatus m v) 0 [] | some key => (u.popped 0x48).ciphOut b ((ciphFields b).len + 34) fun t => match t.takeDownIvc m 1 with | none => ((t.count Reg.CIPH_IVC_EXH_CNT_CNT).irq Reg.CIPH_IRQ_IVC_EXHAUSTED).ciphDone b 0x0101 0 [] | some (n, w) => (w.write (ciphFields b).dst (w.zcfDown m (ciphFields b) key n)).ciphDone b 0 n [])) ∧
  -- REWRAP_GO
  (∀ (s : State) (req : Req) (source : BitVec 1),
    TakesA s req Reg.CIPH_REWRAP_GO (2 ^ 31 + source.toNat) → s.flag Reg.CIPH_STAT_REWRAP_RUN = false →
    exec (.rewrapGo req source) s = .next ((plainly s req Reg.CIPH_REWRAP_GO (2 ^ 31 + source.toNat)).rewrapGo)) ∧
  -- REWRAP_RECORD
  (∀ (s : State),
    s.flag Reg.CIPH_STAT_REWRAP_RUN = true → bitAt s.unitsReady 3 ≠ 0 → s.unitRun 3 = none → s.sec.rewrapAt + nsPerS / s.getF Reg.CIPH_REWRAP_RATE_PER_S ≤ s.tb1 →
    s.nextRewrap (s.getF Reg.CIPH_REWRAP_FROM) (s.getF Reg.CIPH_REWRAP_POS_METER) = none →
    exec .rewrapRecord s = .next s.rewrapEnd) ∧
  (∀ (s : State) (m : Nat) (t : State),
    s.flag Reg.CIPH_STAT_REWRAP_RUN = true → bitAt s.unitsReady 3 ≠ 0 → s.unitRun 3 = none → s.sec.rewrapAt + nsPerS / s.getF Reg.CIPH_REWRAP_RATE_PER_S ≤ s.tb1 →
    s.nextRewrap (s.getF Reg.CIPH_REWRAP_FROM) (s.getF Reg.CIPH_REWRAP_POS_METER) = some m → m + 1 ≠ 2 ^ 20 →
    t = { s with sec := { s.sec with rewrapAt := s.tb1 } } →
    exec .rewrapRecord s = .next ((t.setF Reg.CIPH_REWRAP_POS_METER ((m + 1) % 2 ^ 20)).rewrapOne m (s.getF Reg.CIPH_REWRAP_FROM)))

/-- Each job of the PKE queue, at the front, with the engine enabled and a reply credit, is carried out and answered (a submission with the command places its item first). Each equation gives the whole next state, with the answer to a signature that does not verify where the result turns on one. -/
def Obligations.PublicKeyCommandsComplete : Prop :=
  -- PKE_SIGN
  (∀ (s : State) (sub : Option Submission) (u : State) (b : Bytes) (j : PkeJob),
    (u = s.submitted 0x50 sub (fun x => .bytes (slice x.item 0 64))) → u.domOn .fabric = true →
    u.flag Reg.PKE_CTRL_ENABLE = true → u.trivetBusy = false → u.hasCredit 0x51 = true → (u.queue 0x50).items.head? = some ⟨.bytes b, 0⟩ →
    leAt b 0 1 = 1 → leAt b 2 1 ≤ 63 → leAt b 3 1 ≤ 63 → j = pkeFields b → j.len ≤ 65536 → rangeMapped j.msg j.len = true →
    rangeMapped j.sig 114 = true → ((u.popped 0x50).slot j.slot).full = true → ((u.popped 0x50).slot j.slot).may Usage.sign = true →
    ((u.popped 0x50).slot j.slot).goes Dest.mortar = true → ((u.popped 0x50).slot j.slot).key.length = 57 →
    exec (.pkeSign sub) s = .next ((((u.popped 0x50).write j.sig (edSign ((u.popped 0x50).slot j.slot).key false ((u.popped 0x50).read j.msg j.len))).count Reg.PKE_SIGN_CNT_CNT).pkeDone b 0)) ∧
  -- PKE_VERIFY
  (∀ (s : State) (sub : Option Submission) (u : State) (b : Bytes) (j : PkeJob),
    (u = s.submitted 0x50 sub (fun x => .bytes (slice x.item 0 64))) → u.domOn .fabric = true →
    u.flag Reg.PKE_CTRL_ENABLE = true → u.trivetBusy = false → u.hasCredit 0x51 = true → (u.queue 0x50).items.head? = some ⟨.bytes b, 0⟩ →
    leAt b 0 1 = 2 → leAt b 2 1 ≤ 63 → leAt b 3 1 ≤ 63 → j = pkeFields b → j.len ≤ 65536 → rangeMapped j.msg j.len = true →
    rangeMapped j.pub 57 = true → rangeMapped j.sig 114 = true →
    exec (.pkeVerify sub) s = .next (if (edDecode ((u.popped 0x50).read j.pub 57)).isNone = true then ((u.popped 0x50).count Reg.PKE_VERIFY_CNT_CNT).pkeDone b 0x0106 else if edVerify ((u.popped 0x50).read j.pub 57) false ((u.popped 0x50).read j.msg j.len) ((u.popped 0x50).read j.sig 114) = true then ((u.popped 0x50).count Reg.PKE_VERIFY_CNT_CNT).pkeDone b 0 else (((u.popped 0x50).count Reg.PKE_VERIFY_CNT_CNT).count Reg.PKE_VERIFY_FAIL_CNT_CNT).pkeDone b 0x0100)) ∧
  -- PKE_SIGN_PH
  (∀ (s : State) (sub : Option Submission) (u : State) (b : Bytes) (j : PkeJob),
    (u = s.submitted 0x50 sub (fun x => .bytes (slice x.item 0 64))) → u.domOn .fabric = true →
    u.flag Reg.PKE_CTRL_ENABLE = true → u.trivetBusy = false → u.hasCredit 0x51 = true → (u.queue 0x50).items.head? = some ⟨.bytes b, 0⟩ →
    leAt b 0 1 = 3 → leAt b 2 1 ≤ 63 → leAt b 3 1 ≤ 63 → j = pkeFields b → rangeMapped j.msg j.len = true → rangeMapped j.sig 114 = true →
    ((u.popped 0x50).slot j.slot).full = true → ((u.popped 0x50).slot j.slot).may Usage.sign = true →
    ((u.popped 0x50).slot j.slot).goes Dest.mortar = true → ((u.popped 0x50).slot j.slot).key.length = 57 →
    exec (.pkeSignPh sub) s = .next ((((u.popped 0x50).write j.sig (edSign ((u.popped 0x50).slot j.slot).key true ((u.popped 0x50).read j.msg j.len))).count Reg.PKE_SIGN_CNT_CNT).pkeDone b 0)) ∧
  -- PKE_VERIFY_PH
  (∀ (s : State) (sub : Option Submission) (u : State) (b : Bytes) (j : PkeJob),
    (u = s.submitted 0x50 sub (fun x => .bytes (slice x.item 0 64))) → u.domOn .fabric = true →
    u.flag Reg.PKE_CTRL_ENABLE = true → u.trivetBusy = false → u.hasCredit 0x51 = true → (u.queue 0x50).items.head? = some ⟨.bytes b, 0⟩ →
    leAt b 0 1 = 4 → leAt b 2 1 ≤ 63 → leAt b 3 1 ≤ 63 → j = pkeFields b → rangeMapped j.msg j.len = true → rangeMapped j.pub 57 = true →
    rangeMapped j.sig 114 = true →
    exec (.pkeVerifyPh sub) s = .next (if (edDecode ((u.popped 0x50).read j.pub 57)).isNone = true then ((u.popped 0x50).count Reg.PKE_VERIFY_CNT_CNT).pkeDone b 0x0106 else if edVerify ((u.popped 0x50).read j.pub 57) true ((u.popped 0x50).read j.msg j.len) ((u.popped 0x50).read j.sig 114) = true then ((u.popped 0x50).count Reg.PKE_VERIFY_CNT_CNT).pkeDone b 0 else (((u.popped 0x50).count Reg.PKE_VERIFY_CNT_CNT).count Reg.PKE_VERIFY_FAIL_CNT_CNT).pkeDone b 0x0100)) ∧
  -- PKE_AGREE
  (∀ (s : State) (sub : Option Submission) (u : State) (b : Bytes) (j : PkeJob),
    (u = s.submitted 0x50 sub (fun x => .bytes (slice x.item 0 64))) → u.domOn .fabric = true →
    u.flag Reg.PKE_CTRL_ENABLE = true → u.trivetBusy = false → u.hasCredit 0x51 = true → (u.queue 0x50).items.head? = some ⟨.bytes b, 0⟩ →
    leAt b 0 1 = 5 → leAt b 2 1 ≤ 63 → leAt b 3 1 ≤ 63 → j = pkeFields b → rangeMapped j.pub 56 = true → ((u.popped 0x50).slot j.slot).full = true →
    ((u.popped 0x50).slot j.slot).may Usage.agree = true → ((u.popped 0x50).slot j.slot).goes Dest.mortar = true →
    ((u.popped 0x50).slot j.slot).key.length = 56 →
    exec (.pkeAgree sub) s = .next (if leNat (x448 ((u.popped 0x50).slot j.slot).key ((u.popped 0x50).read j.pub 56)) = 0 then (u.popped 0x50).pkeDone b 0x0106 else (((u.popped 0x50).loadSlot j.target (x448 ((u.popped 0x50).slot j.slot).key ((u.popped 0x50).read j.pub 56)) { usage := 2 ^ Usage.derive, gen := (((u.popped 0x50).slot j.target).gen + 1) % 65536 }).count Reg.PKE_AGREE_CNT_CNT).pkeDone b 0)) ∧
  -- PKE_PUBLIC
  (∀ (s : State) (sub : Option Submission) (u : State) (b : Bytes) (j : PkeJob),
    (u = s.submitted 0x50 sub (fun x => .bytes (slice x.item 0 64))) → u.domOn .fabric = true →
    u.flag Reg.PKE_CTRL_ENABLE = true → u.trivetBusy = false → u.hasCredit 0x51 = true → (u.queue 0x50).items.head? = some ⟨.bytes b, 0⟩ →
    leAt b 0 1 = 6 → leAt b 2 1 ≤ 63 → leAt b 3 1 ≤ 63 → j = pkeFields b → ((u.popped 0x50).slot j.slot).full = true →
    ((u.popped 0x50).slot j.slot).goes Dest.mortar = true →
    (((u.popped 0x50).slot j.slot).may Usage.sign = true ∨ ((u.popped 0x50).slot j.slot).may Usage.agree = true) →
    ((u.popped 0x50).slot j.slot).key.length = 57 →
    exec (.pkePublic sub) s = .next (if rangeMapped j.out (edPublic ((u.popped 0x50).slot j.slot).key).length = true then ((u.popped 0x50).write j.out (edPublic ((u.popped 0x50).slot j.slot).key)).pkeDone b 0 else (u.popped 0x50).pkeDone b 0x0101)) ∧
  -- PKE_KEYGEN
  (∀ (s : State) (sub : Option Submission) (u : State) (b : Bytes) (j : PkeJob) (d : Bytes) (t : State),
    (u = s.submitted 0x50 sub (fun x => .bytes (slice x.item 0 64))) → u.domOn .fabric = true →
    u.flag Reg.PKE_CTRL_ENABLE = true → u.trivetBusy = false → u.hasCredit 0x51 = true → (u.queue 0x50).items.head? = some ⟨.bytes b, 0⟩ →
    leAt b 0 1 = 7 → leAt b 2 1 ≤ 63 → leAt b 3 1 ≤ 63 → j = pkeFields b → (u.popped 0x50).trngOk = true → bitAt (leAt b 4 1) 0 ≠ 1 →
    (u.popped 0x50).drawBytes 57 = (d, t) →
    exec (.pkeKeygen sub) s = .next ((t.loadSlot j.target d { dest := 2 ^ Dest.mortar, usage := 2 ^ Usage.sign, gen := ((t.slot j.target).gen + 1) % 65536 }).pkeDone b 0)) ∧
  (∀ (s : State) (sub : Option Submission) (u : State) (b : Bytes) (j : PkeJob) (d : Bytes) (t : State),
    (u = s.submitted 0x50 sub (fun x => .bytes (slice x.item 0 64))) → u.domOn .fabric = true →
    u.flag Reg.PKE_CTRL_ENABLE = true → u.trivetBusy = false → u.hasCredit 0x51 = true → (u.queue 0x50).items.head? = some ⟨.bytes b, 0⟩ →
    leAt b 0 1 = 7 → leAt b 2 1 ≤ 63 → leAt b 3 1 ≤ 63 → j = pkeFields b → (u.popped 0x50).trngOk = true → bitAt (leAt b 4 1) 0 = 1 →
    (u.popped 0x50).drawBytes 56 = (d, t) →
    exec (.pkeKeygen sub) s = .next ((t.loadSlot j.target d { dest := 2 ^ Dest.mortar, usage := 2 ^ Usage.agree, gen := ((t.slot j.target).gen + 1) % 65536 }).pkeDone b 0))

/-- TRNG_STARTUP_DONE starts the stream, TRNG_HEALTH_FAIL stops it, TRNG_DATA_READ answers a random word; TAMPER_ASSERT and MESH_CHECK raise a tamper source, TAMP_ARM, TAMP_VKR_CLEAR and TAMP_RELEASE act. Each equation gives the whole next state. -/
def Obligations.TamperCommandsComplete : Prop :=
  -- TRNG_STARTUP_DONE
  (∀ (s : State),
    s.domOn .fabric = true → s.flag Reg.TRNG_CTRL_ENABLE = true → s.getF Reg.TRNG_STAT_STATE = 1 →
    exec .trngStartupDone s = .next (s.setF Reg.TRNG_STAT_STATE 2)) ∧
  -- TRNG_HEALTH_FAIL
  (∀ (s : State) (b : Bool) (x : State) (l : List Nat),
    s.domOn .fabric = true → s.flag Reg.TRNG_CTRL_ENABLE = true → (s.getF Reg.TRNG_STAT_STATE = 1 ∨ s.getF Reg.TRNG_STAT_STATE = 2) →
    (x = (s.count (if b then Reg.TRNG_APT_FAIL_CNT_CNT else Reg.TRNG_RCT_FAIL_CNT_CNT)).irq Reg.TRNG_IRQ_HEALTH_FAIL) →
    (l = x.tb1 :: x.sec.trngFails.filter (fun t => decide (x.tb1 ≤ t + 3600 * nsPerS))) → l.length < 3 →
    exec (.trngHealthFail b) s = .next (State.settle (({ x with sec := { x.sec with trngFails := l } } : State).setF Reg.TRNG_STAT_STATE 1) s.degCause)) ∧
  -- TRNG_DATA_READ
  (∀ (s : State) (req : Req) (w : Word) (t : State),
    req ≠ .debug → s.refusal req 0x0B 0x100 .b4 false = none → (s.answer 0).trngOk = true → (s.answer 0).drawWord = (w, t) →
    exec (.trngDataRead req) s = .next (t.answer w.toNat)) ∧
  (∀ (s : State),
    s.refusal .debug 0x0B 0x100 .b4 false = none →
    exec (.trngDataRead .debug) s = .next ((s.answer 0).answer (if (s.answer 0).trngOk then (s.answer 0).drawWord.1.toNat else 0))) ∧
  -- TAMPER_ASSERT
  (∀ (s : State) (n : Fin 8),
    5 ≤ n.val → s.power.main = true → (n.val ≠ 5 ∨ s.flag Reg.PWR_STAT_LAST_GASP = false) →
    exec (.tamperAssert n) s = .next (s.tamper n.val)) ∧
  (∀ (s : State),
    s.flag Reg.TAMP_MESH_CFG_EN = true →
    exec (.tamperAssert 4) s = .next (s.tamper 4)) ∧
  (∀ (s : State) (n : Fin 8),
    n.val < 4 → s.inputMasked n.val = false → s.flag (condField Reg.AON_COND_STAT_LEVEL n.val) = false →
    exec (.tamperAssert n) s = .next (s.tamper n.val)) ∧
  -- MESH_CHECK
  (∀ (s : State) (w : Word) (t : State),
    s.flag Reg.TAMP_MESH_CFG_EN = true → s.sec.meshAt + 2 ^ s.getF Reg.TAMP_MESH_CFG_RATE ≤ s.time.slow → s.drawWord = (w, t) →
    exec (.meshCheck true) s = .next (({ t with sec := { t.sec with meshWord := w.toNat, meshAt := t.time.slow, meshBad := 0 } } : State).setF Reg.TAMP_STAT_ACTIVE (withBits (({ t with sec := { t.sec with meshWord := w.toNat, meshAt := t.time.slow, meshBad := 0 } } : State).getF Reg.TAMP_STAT_ACTIVE) 4 4 0))) ∧
  (∀ (s : State) (w : Word) (t : State),
    s.flag Reg.TAMP_MESH_CFG_EN = true → s.sec.meshAt + 2 ^ s.getF Reg.TAMP_MESH_CFG_RATE ≤ s.time.slow → s.drawWord = (w, t) → s.sec.meshBad = 1 →
    exec (.meshCheck false) s = .next (({ t with sec := { t.sec with meshWord := w.toNat, meshAt := t.time.slow, meshBad := 2 } } : State).tamper 4)) ∧
  -- TAMP_VKR_CLEAR
  (∀ (s : State) (req : Req),
    TakesA s req Reg.TAMP_CTRL_VKR_CLEAR 2 →
    exec (.tampVkrClear req) s = .next ((plainly s req Reg.TAMP_CTRL_VKR_CLEAR 2).clearVkr)) ∧
  -- TAMP_ARM
  (∀ (s : State) (req : Req),
    TakesA s req Reg.TAMP_CTRL_ARMED 1 →
    exec (.tampArm req) s = .next ((plainly s req Reg.TAMP_CTRL_ARMED 1).setF Reg.TAMP_CTRL_ARMED 1)) ∧
  -- TAMP_RELEASE
  (∀ (s : State) (req : Req),
    TakesA s req Reg.TAMP_RELEASE_GO (2 ^ 31) → (plainly s req Reg.TAMP_RELEASE_GO (2 ^ 31)).flag Reg.TAMP_STAT_LOCKDOWN = true →
    exec (.tampRelease req) s = .next (if (plainly s req Reg.TAMP_RELEASE_GO (2 ^ 31)).releaseGood then (plainly s req Reg.TAMP_RELEASE_GO (2 ^ 31)).released else ((((plainly s req Reg.TAMP_RELEASE_GO (2 ^ 31)).count Reg.TAMP_REL_FAIL_CNT_CNT).irq Reg.TAMP_IRQ_RELEASE_FAIL).event .releaseFail 0x0C).newChallenge))

/-- MODE_REQ takes an allowed mode; WAKE_INPUT, SLOW_INPUT_EDGE, INPUT_STUCK and CHATTER_MASK_END condition the slow inputs; STARTUP runs the boot steps; DEGRADED_EXIT returns to FULL; PLL_UNLOCK and SW_RESET restart the chip; REF10_LOST and REF10_BACK latch the reference; LAST_GASP, LG_RECOVER and MAIN_POWER_LOSS follow the supply. Each equation gives the whole next state. -/
def Obligations.PowerCommandsComplete : Prop :=
  -- MODE_REQ
  (∀ (s : State) (req : Req) (data : Word),
    TakesF s req Reg.PWR_MODE_REQ_MODE → (s.answer 0).modeRefusal (data.toNat % 8) = 0 →
    exec (.modeReq req data) s = .next ((s.answer 0).takeMode (data.toNat % 8))) ∧
  -- WAKE_INPUT
  (∀ (s : State) (i : Fin 2),
    s.inputMasked (4 + i.val) = false → s.flag (condField Reg.AON_COND_STAT_LEVEL (4 + i.val)) = false → s.power.main = true →
    exec (.wakeInput i) s = .next (s.inputAsserts (4 + i.val))) ∧
  -- STARTUP
  (∀ (s : State) (b : BootInput),
    (s.startingUp = true ∨ s.power.main = false) →
    exec (.startup b) s = .next ((s.bootBegin b.nor).bootSecure b)) ∧
  -- DEGRADED_EXIT
  (∀ (s : State),
    s.mode = .degraded → s.degCause &&& s.getF Reg.PWR_DEG_MASK_MASK = 0 →
    exec .degradedExit s = .next (s.toMode .full)) ∧
  -- PLL_UNLOCK
  (∀ (s : State) (pll : Fin 7),
    s.mode.runs = true → s.startingUp = false → bitAt (s.getF Reg.CLK_PLL_LOCK_LOCK) pll.val = 1 →
    exec (.pllUnlock pll) s = .next ((s.setF Reg.CLK_UNLOCK_LAST_PLL pll.val).restart 4)) ∧
  -- REF10_LOST
  (∀ (s : State),
    s.flag Reg.CLK_STAT_REF10_OK = true →
    exec .ref10Lost s = .next ((s.setF Reg.CLK_STAT_REF10_OK 0).irq Reg.CLK_IRQ_REF10_LOST)) ∧
  -- REF10_BACK
  (∀ (s : State),
    s.flag Reg.CLK_STAT_REF10_OK = false →
    exec .ref10Back s = .next ((s.setF Reg.CLK_STAT_REF10_OK 1).irq Reg.CLK_IRQ_REF10_BACK)) ∧
  -- SW_RESET
  (∀ (s : State) (req : Req) (data : Word),
    TakesF s req Reg.SYS_SW_RESET_GO → bitsOf data.toNat 15 8 = 0xA5 → bitAt data.toNat 0 = 1 → (s.answer 0).mode.runs = true →
    (s.answer 0).startingUp = false →
    exec (.swReset req data) s = .next ((s.answer 0).restart 3)) ∧
  -- LAST_GASP
  (∀ (s : State) (b : Bool),
    (b = true ∨ s.inputMasked 6 = false) →
    exec (.lastGasp b) s = .next (s.lastGasp b)) ∧
  -- LG_RECOVER
  (∀ (s : State) (t : Nat),
    s.power.lgEnd = some t → s.power.main = true → (s.flag Reg.PWR_STAT_PFW = false ∨ s.inputMasked 6 = true) →
    t + s.getF Reg.PWR_LG_CFG_RECOVER_MS * 1000000 ≤ s.tb1 →
    exec .lgRecover s = .next ((({ s with power := { s.power with lgEnd := none } } : State).setF Reg.PWR_STAT_VMAIN_OK 1).dueStartup 1 5)) ∧
  -- SLOW_INPUT_EDGE
  (∀ (s : State) (i : Fin 8) (b : Bool),
    s.conditioned i.val = true →
    exec (.slowInputEdge i b) s = .next (s.inputEdge i.val b)) ∧
  -- INPUT_STUCK
  (∀ (s : State) (i : Fin 8),
    s.conditioned i.val = true → s.flag (condField Reg.AON_COND_STAT_LEVEL i.val) = true →
    s.flag (condField Reg.AON_COND_STAT_STUCK_MASK i.val) = false →
    (s.input i.val).since + s.getF (condField Reg.AON_COND_CFG_STUCK_S i.val) * 32768 ≤ s.time.slow →
    exec (.inputStuck i) s = .next ((s.setF (condField Reg.AON_COND_STAT_STUCK_MASK i.val) 1).inputEvent i.val Reg.AON_IRQ_INPUT_STUCK .inputStuck)) ∧
  -- CHATTER_MASK_END
  (∀ (s : State) (i : Fin 8),
    s.flag (condField Reg.AON_COND_STAT_CHATTER_MASK i.val) = true → (s.input i.val).chatterUntil ≤ s.time.slow →
    exec (.chatterMaskEnd i) s = .next (s.setF (condField Reg.AON_COND_STAT_CHATTER_MASK i.val) 0)) ∧
  -- MAIN_POWER_LOSS
  (∀ (s : State) (t : State),
    s.power.lgEnd.isSome = true → s.power.main = true → t = (((s.toMode .backup).takeEvents).powerDown false).forgetTb1 →
    exec .mainPowerLoss s = .next (({ t with power := { t.power with main := false, cause := 0 } } : State).setF Reg.PWR_STAT_BOOT_STEP 0))

/-- LCS_CHAL_REQ draws a challenge and CHAL_LAPSE ends it; LCS_DEBUG_OPEN, LCS_DEBUG_CLOSE, LCS_PROVISION, LCS_DEPLOY, LCS_RETIRE and LCS_KILL_DEBUG, where the life cycle allows them, run at once or after their signature verifies. Each equation gives the whole next state, with the answer to a signature that does not verify. -/
def Obligations.LifeCycleCommandsComplete : Prop :=
  -- LCS_CHAL_REQ
  (∀ (s : State) (req : Req) (d : Bytes) (t : State),
    TakesF s req Reg.LCS_CHAL_REQ_GO → (s.answer 0).trngOk = true → (s.answer 0).drawBytes 32 = (d, t) →
    exec (.lcsChalReq req) s = .next ((({ t with sec := { t.sec with chalAt := some t.tb1 } } : State).setBytes (fun k => Reg.LCS_CHAL_DATA k) 8 d).count Reg.LCS_CNT_CNT)) ∧
  -- CHAL_LAPSE
  (∀ (s : State) (t : Nat),
    s.sec.chalAt = some t → t + chalLife ≤ s.tb1 →
    exec .chalLapse s = .next ({ s with sec := { s.sec with chalAt := none } })) ∧
  -- LCS_DEBUG_OPEN
  (∀ (s : State) (req : Req) (t : State),
    TakesF s req Reg.LCS_CMD_GO → t = (s.answer 0).setF Reg.LCS_CMD_OP 1 → t.lcRefusal req 1 = 0 →
    exec (.lcsDebugOpen req) s = .next (if lcSigned req 1 = true then (if t.sigCode 1 = 0 then State.lcsEnd (({ t with sec := { t.sec with chalAt := none } } : State).debugOpen) 0 else ({ t with sec := { t.sec with chalAt := none } } : State).countRefusal.lcsRefuse req (t.sigCode 1)) else State.lcsEnd (t.debugOpen) 0)) ∧
  -- LCS_DEPLOY
  (∀ (s : State) (req : Req) (t : State),
    TakesF s req Reg.LCS_CMD_GO → t = (s.answer 0).setF Reg.LCS_CMD_OP 2 → t.lcRefusal req 2 = 0 →
    exec (.lcsDeploy req) s = .next (if lcSigned req 2 = true then (if t.sigCode 2 = 0 then State.lcsEnd (({ t with sec := { t.sec with chalAt := none } } : State).blow { ({ t with sec := { t.sec with chalAt := none } } : State).sec.otp with lc2 := true }) 0 else ({ t with sec := { t.sec with chalAt := none } } : State).countRefusal.lcsRefuse req (t.sigCode 2)) else State.lcsEnd (t.blow { t.sec.otp with lc2 := true }) 0)) ∧
  -- LCS_RETIRE
  (∀ (s : State) (req : Req) (t : State),
    TakesF s req Reg.LCS_CMD_GO → t = (s.answer 0).setF Reg.LCS_CMD_OP 3 → t.lcRefusal req 3 = 0 →
    exec (.lcsRetire req) s = .next (if lcSigned req 3 = true then (if t.sigCode 3 = 0 then State.lcsEnd (({ t with sec := { t.sec with chalAt := none } } : State).blow { ({ t with sec := { t.sec with chalAt := none } } : State).sec.otp with lc3 := true }) 0 else ({ t with sec := { t.sec with chalAt := none } } : State).countRefusal.lcsRefuse req (t.sigCode 3)) else State.lcsEnd (t.blow { t.sec.otp with lc3 := true }) 0)) ∧
  -- LCS_KILL_DEBUG
  (∀ (s : State) (req : Req) (t : State),
    TakesF s req Reg.LCS_CMD_GO → t = (s.answer 0).setF Reg.LCS_CMD_OP 4 → t.lcRefusal req 4 = 0 →
    exec (.lcsKillDebug req) s = .next (if lcSigned req 4 = true then (if t.sigCode 4 = 0 then State.lcsEnd (let v := (({ ({ t with sec := { t.sec with chalAt := none } } : State) with sec := { ({ t with sec := { t.sec with chalAt := none } } : State).sec with otp := { ({ t with sec := { t.sec with chalAt := none } } : State).sec.otp with kill := true } } } : State).setF Reg.LCS_STAT_DBG_STATE 2).event .lifecycle 0x07 [4]; if v.flag Reg.LCS_STAT_DBG_OPEN then v.debugClose else v) 0 else ({ t with sec := { t.sec with chalAt := none } } : State).countRefusal.lcsRefuse req (t.sigCode 4)) else State.lcsEnd (let v := (({ t with sec := { t.sec with otp := { t.sec.otp with kill := true } } } : State).setF Reg.LCS_STAT_DBG_STATE 2).event .lifecycle 0x07 [4]; if v.flag Reg.LCS_STAT_DBG_OPEN then v.debugClose else v) 0)) ∧
  -- LCS_PROVISION
  (∀ (s : State) (req : Req) (t : State),
    TakesF s req Reg.LCS_CMD_GO → t = (s.answer 0).setF Reg.LCS_CMD_OP 5 → t.lcRefusal req 5 = 0 →
    exec (.lcsProvision req) s = .next (if lcSigned req 5 = true then (if t.sigCode 5 = 0 then State.lcsEnd (({ t with sec := { t.sec with chalAt := none } } : State).blow { ({ t with sec := { t.sec with chalAt := none } } : State).sec.otp with lc1 := true }) 0 else ({ t with sec := { t.sec with chalAt := none } } : State).countRefusal.lcsRefuse req (t.sigCode 5)) else State.lcsEnd (t.blow { t.sec.otp with lc1 := true }) 0)) ∧
  -- LCS_DEBUG_CLOSE
  (∀ (s : State) (req : Req) (t : State),
    TakesF s req Reg.LCS_CMD_GO → t = (s.answer 0).setF Reg.LCS_CMD_OP 6 → t.lcRefusal req 6 = 0 →
    exec (.lcsDebugClose req) s = .next (if lcSigned req 6 = true then (if t.sigCode 6 = 0 then State.lcsEnd (({ t with sec := { t.sec with chalAt := none } } : State).debugClose) 0 else ({ t with sec := { t.sec with chalAt := none } } : State).countRefusal.lcsRefuse req (t.sigCode 6)) else State.lcsEnd (t.debugClose) 0))

/-- UPD_PIECE takes the piece at the front of its queue; UPD_PAGE_WRITE writes a whole page of the staging area; UPD_INSTALL installs a verified image and UPD_ABORT ends a session; UPD_ACTIVATION_END ends an activation; UPD_CONFIRM confirms an image and UPD_FALLBACK_REQ falls back from it; CONFIRM_DUE and CONFIRM_WINDOW_END follow the window; PARTNER_MA_RX compares the manifests. Each equation gives the whole next state. -/
def Obligations.UpdateCommandsComplete : Prop :=
  -- UPD_PIECE
  (∀ (s : State) (sub : Option Submission) (u : State) (b : Bytes) (n : Nat),
    (u = s.submitted 0x68 sub (fun x => .bytes (slice x.item 0 528))) → u.domOn .fabric = true → u.flag Reg.UPD_CTRL_ENABLE = true →
    u.upd.waiting.length < (u.queue 0x69).credits → (u.queue 0x68).items.head? = some ⟨.bytes b, n⟩ →
    exec (.updPiece sub) s = .next ((u.popped 0x68).takeUpd b (n != 0))) ∧
  (∀ (s : State) (sub : Option Submission) (u t v : State) (b : Bytes),
    u = s.submitted 0x68 sub (fun x => .bytes (slice x.item 0 528)) → u.domOn .fabric = true → u.flag Reg.UPD_CTRL_ENABLE = true →
    u.upd.waiting.length < (u.queue 0x69).credits → (u.queue 0x68).items.head? = some ⟨.bytes b, 0⟩ → t = u.popped 0x68 → leAt b 0 4 = 0 →
    t.upd.state = 0 → t.manifestFits (slice b 16 512) = true → t.secverFits (slice b 16 512) = true → t.stageFits (slice b 16 512) = true →
    v = { t with upd := { t.upd with state := 1, manifest := slice b 16 512, bitmap := [], waiting := [] } } →
    exec (.updPiece sub) s = .next ((v.irq Reg.UPD_IRQ_MANIFEST_OK).stagePiece 0 (leAt b 12 1) (slice b 16 512))) ∧
  (∀ (s : State) (sub : Option Submission) (u t : State) (b : Bytes) (i h : Nat),
    u = s.submitted 0x68 sub (fun x => .bytes (slice x.item 0 528)) → u.domOn .fabric = true → u.flag Reg.UPD_CTRL_ENABLE = true →
    u.upd.waiting.length < (u.queue 0x69).credits → (u.queue 0x68).items.head? = some ⟨.bytes b, 0⟩ → t = u.popped 0x68 → i = leAt b 0 4 → i ≠ 0 →
    t.upd.state ≠ 0 → leAt b 4 4 = manBuild t.upd.manifest % 2 ^ 32 → i < t.upd.total → t.upd.has i = false → h = manH t.upd.manifest →
    (i ≤ h ∨ (t.upd.state ≠ 1 ∧ leafHash (i - h - 1) (slice b 16 512) = t.storedLeaf (i - h - 1))) →
    exec (.updPiece sub) s = .next (t.stagePiece i (leAt b 12 1) (slice b 16 512))) ∧
  -- UPD_PAGE_WRITE
  (∀ (s : State) (n : Nat) (l : List StagedPiece) (t v : State),
    ((s.upd.waiting.map (fun p => p.index / s.perPage)).find? s.pageDue = some n) → (l = s.upd.waiting.filter (fun p => p.index / s.perPage == n)) →
    s.volWrite 6 n (s.pageWith n l) = some t → v = t.recordPieces n l →
    exec .updPageWrite s = .next ((v.volWrite 8 0 ([BitVec.ofNat 8 v.upd.state] ++ (List.range 2043).map (fun k => BitVec.ofNat 8 (((List.range 8).map (fun b => bit1 (v.upd.has (8 * k + b)) * 2 ^ b)).sum)))).getD v)) ∧
  -- UPD_INSTALL
  (∀ (s : State) (req : Req) (p : Nat) (t : State),
    TakesF s req Reg.UPD_CTRL_INSTALL → p = manPart s.upd.manifest → s.upd.state = 3 → (s.upd.part p).unconf = false →
    (s.answer 0).writeRegion p (1 - (s.upd.part p).copy) (s.answer 0).stagedImage = some t →
    exec (.updInstall req) s = .next (t.installed p (1 - (s.upd.part p).copy) (s.answer 0).stagedImage)) ∧
  -- UPD_ABORT
  (∀ (s : State) (req : Req),
    TakesF s req Reg.UPD_CTRL_ABORT → s.upd.state ≠ 0 →
    exec (.updAbort req) s = .next ((s.answer 0).endSession)) ∧
  -- UPD_ACTIVATION_END
  (∀ (s : State) (a : Activation) (t : State),
    s.upd.act = some a →
    t = (({ s with upd := { s.upd with act := none } } : State).partRuns a.part).setF Reg.UPD_ACT_LAST_MS_MS (min 65535 ((s.tb1 - a.since) / 1000000)) →
    a.fallback = false → (t.irq Reg.UPD_IRQ_ACTIVATED).mode = .activate →
    exec .updActivationEnd s = .next (((t.irq Reg.UPD_IRQ_ACTIVATED).toMode (Mode.ofCode a.back)).settle 0)) ∧
  -- UPD_CONFIRM
  (∀ (s : State) (req : Req) (data : Word),
    TakesF s req Reg.UPD_CONFIRM_KEY → bitsOf data.toNat 15 8 = 0xC9 → (req = .app ∨ req = .trusted) →
    ((s.answer 0).upd.part (data.toNat % 8)).unconf = true →
    exec (.updConfirm req data) s = .next ((s.answer 0).confirm (data.toNat % 8))) ∧
  -- UPD_FALLBACK_REQ
  (∀ (s : State) (req : Req) (data : Word),
    TakesF s req Reg.UPD_FALLBACK_REQ_KEY → bitsOf data.toNat 15 8 = 0xC9 → ((s.answer 0).upd.part (data.toNat % 8)).unconf = true →
    (s.answer 0).upd.act = none → (s.answer 0).mode.runs = true →
    exec (.updFallbackReq req data) s = .next ((s.answer 0).fallsBack (data.toNat % 8))) ∧
  -- CONFIRM_DUE
  (∀ (s : State) (p : Fin 3),
    (s.upd.part p.val).unconf = true → (s.upd.part p.val).due = false → (s.upd.part p.val).windowEnd ≤ s.opTime + 3600 →
    exec (.confirmDue p) s = .next (((s.setPart p.val { s.upd.part p.val with due := true }).irq Reg.UPD_IRQ_CONFIRM_DUE).event .confirmDue 0x0D [BitVec.ofNat 8 p.val])) ∧
  -- CONFIRM_WINDOW_END
  (∀ (s : State) (p : Fin 3),
    (s.upd.part p.val).unconf = true → (s.upd.part p.val).windowEnd ≤ s.opTime → s.upd.act = none → s.mode.runs = true → s.startingUp = false →
    exec (.confirmWindowEnd p) s = .next (s.fallsBack p.val)) ∧
  -- PARTNER_M_A_RX
  (∀ (s : State) (m : Bytes),
    s.flag Reg.TWIN_CTRL_ENABLE = true → s.tongsUp = true → s.pairKey.isSome = true →
    exec (.partnerMARx m) s = .next (({ s with upd := { s.upd with partnerMA := m } } : State).judgeMixed))

/-- EVR_ITEM_TAKE takes an item; EVR_SUMMARY_WRITE records a summary; EVR_NOR_PROGRAM, EVR_SECTOR_ERASE and EVR_NOR_FAIL act on the flash; EVR_COUNTER_SAVE saves the counters; EVR_SW_CODE records a software code; EVR_READ reads a record; EVR_CLEAR clears the log; EVR_ALARM_REPEAT sends the alarm; EVR_NOR_RETRY probes the flash. Each equation gives the whole next state. -/
def Obligations.EventRecorderCommandsComplete : Prop :=
  -- EVR_ITEM_TAKE
  (∀ (s : State) (parity : Nat),
    (s.queue 0x30).items.isEmpty = false →
    exec (.evrItemTake parity) s = .next (s.faultFront 0x30 parity).takeEvent) ∧
  -- EVR_SUMMARY_WRITE
  (∀ (s : State) (code n opt : Nat) (rest : List (Nat × Nat × Nat)) (t : State),
    s.evr.coalesced = (code, n, opt) :: rest → s.refilled.token2 = some t →
    exec .evrSummaryWrite s = .next (({ t with evr := { t.evr with coalesced := rest } } : State).record code 0x06 32 (leBytes 4 n ++ leBytes 5 opt) [])) ∧
  -- EVR_NOR_PROGRAM
  (∀ (s : State) (x : Nat) (r : Bytes) (l : List (Nat × Bytes)),
    s.evr.staged = (x, r) :: l → s.domOn .aon = true → s.flag Reg.EVR_STAT_FALLBACK = false → s.evr.erases = [] →
    exec .evrNorProgram s = .next (s.programNor r)) ∧
  (∀ (s : State) (x : Nat) (r : Bytes) (l : List (Nat × Bytes)),
    s.evr.staged = (x, r) :: l → s.domOn .aon = true → s.flag Reg.EVR_STAT_FALLBACK = true →
    exec .evrNorProgram s = .next (s.programEvfb r)) ∧
  -- EVR_SECTOR_ERASE
  (∀ (s : State) (n : Nat) (l : List Nat),
    s.evr.erases ++ s.evr.clears = n :: l → s.domOn .aon = true → s.flag Reg.EVR_STAT_FALLBACK = false →
    exec .evrSectorErase s = .next (s.eraseSector n)) ∧
  -- EVR_COUNTER_SAVE
  (∀ (s : State),
    s.domOn .aon = true → s.evr.savedAt + 900 ≤ s.opTime →
    exec .evrCounterSave s = .next s.saveCounters) ∧
  -- EVR_SW_CODE
  (∀ (s : State) (req : Req) (data : Word),
    TakesA s req Reg.EVR_SW_CODE_GO data.toNat → bitAt data.toNat 31 = 1 →
    16 ≤ (plainly s req Reg.EVR_SW_CODE_GO data.toNat).getF Reg.EVR_SW_CODE_CODE / 256 →
    (plainly s req Reg.EVR_SW_CODE_GO data.toNat).getF Reg.EVR_SW_CODE_CODE / 256 ≤ 31 →
    exec (.evrSwCode req data) s = .next ((plainly s req Reg.EVR_SW_CODE_GO data.toNat).event (.software ((plainly s req Reg.EVR_SW_CODE_GO data.toNat).getF Reg.EVR_SW_CODE_CODE)) 0xFF ((plainly s req Reg.EVR_SW_CODE_GO data.toNat).getBytes (fun k => Reg.EVR_SW_DATA_DATA k) 16))) ∧
  -- EVR_READ
  (∀ (s : State) (req : Req) (b : Bytes),
    TakesF s req Reg.EVR_RD_CTRL_GO → (s.answer 0).readRecord ((s.answer 0).getF (Reg.EVR_RD_RSEQ_RSEQ.bankOf req.code)) = (0, b) →
    exec (.evrRead req) s = .next (((s.answer 0).setF (Reg.EVR_RD_CTRL_STATUS.bankOf req.code) 0).setBytes (fun k => (Reg.EVR_RD_DATA_DATA k).bankOf req.code) 32 b)) ∧
  -- EVR_CLEAR
  (∀ (s : State) (req : Req),
    TakesF s req Reg.EVR_CTRL_CLEAR → s.evr.clears = [] →
    exec (.evrClear req) s = .next ((s.answer 0).clearLog req)) ∧
  -- EVR_NOR_FAIL
  (∀ (s : State) (cause : BitVec 3) (addr : BitVec 24),
    s.domOn .aon = true → s.flag Reg.EVR_STAT_FALLBACK = false → (cause = 2 ∨ cause = 5) →
    exec (.evrNorFail cause addr) s = .next (s.norFailed cause.toNat addr.toNat)) ∧
  (∀ (s : State) (cause : BitVec 3) (addr : BitVec 24),
    s.domOn .aon = true → s.flag Reg.EVR_STAT_FALLBACK = false → (cause = 1 ∨ cause = 3) → s.evr.staged.isEmpty = false →
    exec (.evrNorFail cause addr) s = .next (s.norFailed cause.toNat (0x80 * norSlot s.evr.rseq))) ∧
  (∀ (s : State) (addr : BitVec 24) (n : Nat) (l : List Nat),
    s.domOn .aon = true → s.flag Reg.EVR_STAT_FALLBACK = false → s.evr.erases ++ s.evr.clears = n :: l →
    exec (.evrNorFail 4 addr) s = .next (s.norFailed 4 (0x80 * circSlot n))) ∧
  -- EVR_ALARM_REPEAT
  (∀ (s : State),
    exec .evrAlarmRepeat s = .next s.sendAlarm) ∧
  -- EVR_NOR_RETRY
  (∀ (s : State) (req : Req) (answer : Option (BitVec 24)),
    TakesF s req Reg.EVR_CTRL_NOR_RETRY →
    exec (.evrNorRetry req answer) s = .next ((s.answer 0).probeNor answer))
end

