-- ==== Sys2Proof/Laws/Sparse.lean ====
section
/-! SUPPORT. Laws of sparse tables: what a write reads as, and that every operation keeps the canonical form. -/

namespace Sys2Proof.Machine

/-! ## Every key of a table lies above a bound -/

/-- Every key of a table is above `n`. -/
def keysAbove {α : Type} (n : Nat) (m : List (Nat × α)) : Prop := ∀ e ∈ m, n < e.1

/-- Rising keys, as a head and a tail. -/
theorem keysRise_cons {α : Type} (k : Nat) (v : α) (m : List (Nat × α)) :
    keysRise ((k, v) :: m) = true ↔ keysAbove k m ∧ keysRise m = true := by
  induction m generalizing k v with
  | nil => simp [keysRise, keysAbove]
  | cons e r ih =>
    obtain ⟨l, w⟩ := e
    rw [keysRise]
    simp only [Bool.and_eq_true, decide_eq_true_eq]
    rw [ih l w]
    constructor
    · rintro ⟨hl, ha, hr⟩
      refine ⟨?_, ha, hr⟩
      intro e he
      rcases List.mem_cons.mp he with rfl | he
      · exact hl
      · exact Nat.lt_trans hl (ha e he)
    · rintro ⟨ha, hb, hr⟩
      exact ⟨ha (l, w) (List.mem_cons_self ..), hb, hr⟩

theorem keysAbove_filter {α : Type} {n : Nat} {m : List (Nat × α)} (p : Nat × α → Bool) (h : keysAbove n m) :
    keysAbove n (m.filter p) := fun e he => h e (List.mem_filter.mp he).1

theorem mem_sins {α : Type} {m : List (Nat × α)} {a : Nat} {x : α} {e : Nat × α} (h : e ∈ sins m a x) :
    e = (a, x) ∨ e ∈ m := by
  induction m with
  | nil => simpa [sins] using h
  | cons f r ih =>
    obtain ⟨k, v⟩ := f
    simp only [sins] at h
    split at h
    · simpa using h
    · split at h
      · rcases List.mem_cons.mp h with h | h
        · exact .inl h
        · exact .inr (List.mem_cons_of_mem _ h)
      · rcases List.mem_cons.mp h with h | h
        · exact .inr (h ▸ List.mem_cons_self ..)
        · exact (ih h).imp id (List.mem_cons_of_mem _)

/-! ## The canonical form is kept -/

theorem keysRise_nil {α : Type} : keysRise ([] : List (Nat × α)) = true := rfl

theorem keysRise_filter {α : Type} {m : List (Nat × α)} (p : Nat × α → Bool) (h : keysRise m = true) :
    keysRise (m.filter p) = true := by
  induction m with
  | nil => rfl
  | cons e r ih =>
    obtain ⟨k, v⟩ := e
    rw [keysRise_cons] at h
    rw [List.filter_cons]
    split
    · rw [keysRise_cons]; exact ⟨keysAbove_filter p h.1, ih h.2⟩
    · exact ih h.2

theorem keysRise_sins {α : Type} {m : List (Nat × α)} (a : Nat) (x : α) (h : keysRise m = true) :
    keysRise (sins m a x) = true := by
  induction m with
  | nil => rfl
  | cons e r ih =>
    obtain ⟨k, v⟩ := e
    have h' := (keysRise_cons k v r).mp h
    simp only [sins]
    split
    · rename_i hk
      rw [keysRise_cons]
      refine ⟨fun e he => ?_, h⟩
      rcases List.mem_cons.mp he with rfl | he
      · exact hk
      · exact Nat.lt_trans hk (h'.1 e he)
    · split
      · rename_i hk; subst hk
        rw [keysRise_cons]; exact h'
      · rename_i h1 h2
        rw [keysRise_cons]
        refine ⟨fun e he => ?_, ih h'.2⟩
        rcases mem_sins he with rfl | he
        · show k < a; omega
        · exact h'.1 e he

theorem keysRise_sput {α : Type} [DecidableEq α] {d : α} {m : List (Nat × α)} (a : Nat) (x : α) (h : keysRise m = true) :
    keysRise (sput d m a x) = true := by
  unfold sput
  split
  · exact keysRise_filter _ h
  · exact keysRise_sins a x h

theorem keysRise_foldl_sins {α : Type} (l : List (Nat × α)) {m : List (Nat × α)} (h : keysRise m = true) :
    keysRise (l.foldl (fun t e => sins t e.1 e.2) m) = true := by
  induction l generalizing m with
  | nil => exact h
  | cons e r ih => exact ih (keysRise_sins _ _ h)

theorem sparseWf_nil {α : Type} [DecidableEq α] (d : α) : sparseWf d [] = true := rfl

theorem sparseWf_filter {α : Type} [DecidableEq α] {d : α} {m : List (Nat × α)} (p : Nat × α → Bool) (h : sparseWf d m = true) :
    sparseWf d (m.filter p) = true := by
  simp only [sparseWf, Bool.and_eq_true, List.all_eq_true, decide_eq_true_eq] at h ⊢
  exact ⟨keysRise_filter p h.1, fun e he => h.2 e (List.mem_filter.mp he).1⟩

theorem sparseWf_sput {α : Type} [DecidableEq α] {d : α} {m : List (Nat × α)} (a : Nat) (x : α) (h : sparseWf d m = true) :
    sparseWf d (sput d m a x) = true := by
  unfold sput
  split
  · exact sparseWf_filter _ h
  · rename_i hx
    simp only [sparseWf, Bool.and_eq_true, List.all_eq_true, decide_eq_true_eq] at h ⊢
    refine ⟨keysRise_sins a x h.1, fun e he => ?_⟩
    rcases mem_sins he with rfl | he
    · exact hx
    · exact h.2 e he

/-! ## What a table reads as after a write -/

/-- No key of a table above a bound is at or below it. -/
theorem sget_above {α : Type} (d : α) {m : List (Nat × α)} {n a : Nat} (h : keysAbove n m) (ha : a ≤ n) : sget d m a = d := by
  induction m with
  | nil => rfl
  | cons e r ih =>
    obtain ⟨k, v⟩ := e
    have hk : n < k := h (k, v) (List.mem_cons_self ..)
    rw [sget, if_neg (by omega)]
    exact ih (fun e he => h e (List.mem_cons_of_mem _ he))

@[simp] theorem sget_sins_self {α : Type} (d : α) (m : List (Nat × α)) (a : Nat) (x : α) : sget d (sins m a x) a = x := by
  induction m with
  | nil => simp [sins, sget]
  | cons e r ih =>
    obtain ⟨k, v⟩ := e
    simp only [sins]
    split
    · simp [sget]
    · split
      · simp [sget]
      · rename_i h1 h2; simp [sget, h2, ih]

theorem sget_sins_ne {α : Type} (d : α) (m : List (Nat × α)) {a b : Nat} (x : α) (h : a ≠ b) :
    sget d (sins m a x) b = sget d m b := by
  induction m with
  | nil => simp [sins, sget, h]
  | cons e r ih =>
    obtain ⟨k, v⟩ := e
    simp only [sins]
    split
    · simp [sget, h]
    · split
      · rename_i hk; subst hk; simp [sget, h]
      · simp [sget, ih]

theorem sget_filter_ne {α : Type} (d : α) (m : List (Nat × α)) {a b : Nat} (h : a ≠ b) :
    sget d (m.filter (fun e => decide (e.1 ≠ a))) b = sget d m b := by
  induction m with
  | nil => rfl
  | cons e r ih =>
    obtain ⟨k, v⟩ := e
    rw [List.filter_cons]
    split
    · rw [sget, sget, ih]
    · rename_i hk
      have hk : k = a := by simpa using hk
      rw [ih, sget, if_neg (by omega)]

theorem sget_filter_self {α : Type} (d : α) (m : List (Nat × α)) (a : Nat) :
    sget d (m.filter (fun e => decide (e.1 ≠ a))) a = d := by
  induction m with
  | nil => rfl
  | cons e r ih =>
    obtain ⟨k, v⟩ := e
    rw [List.filter_cons]
    split
    · rename_i hk
      have hk : k ≠ a := by simpa using hk
      rw [sget, if_neg hk, ih]
    · exact ih

/-- A read of the key just written gives the value written. -/
@[simp] theorem sget_sput_self {α : Type} [DecidableEq α] (d : α) (m : List (Nat × α)) (a : Nat) (x : α) :
    sget d (sput d m a x) a = x := by
  unfold sput
  split
  · rename_i hx; rw [sget_filter_self, hx]
  · exact sget_sins_self d m a x

/-- A write leaves every other key as it was, whatever value stands for an unlisted key. -/
theorem sget_sput_ne {α : Type} [DecidableEq α] (d d' : α) (m : List (Nat × α)) {a b : Nat} (x : α) (h : a ≠ b) :
    sget d' (sput d m a x) b = sget d' m b := by
  unfold sput
  split
  · exact sget_filter_ne d' m h
  · exact sget_sins_ne d' m x h

/-- Writing the value an unlisted key reads as removes the entry: two tables in canonical form that read the same are the same. -/
theorem sparse_ext {α : Type} [DecidableEq α] {d : α} {m n : List (Nat × α)} (hm : sparseWf d m = true) (hn : sparseWf d n = true)
    (h : ∀ a, sget d m a = sget d n a) : m = n := by
  induction m generalizing n with
  | nil =>
    cases n with
    | nil => rfl
    | cons e r =>
      obtain ⟨k, v⟩ := e
      have hv := h k
      simp [sget] at hv
      simp [sparseWf, ← hv] at hn
  | cons e r ih =>
    obtain ⟨k, v⟩ := e
    cases n with
    | nil =>
      have hv := h k
      simp [sget] at hv
      simp [sparseWf, hv] at hm
    | cons f t =>
      obtain ⟨l, w⟩ := f
      simp only [sparseWf, Bool.and_eq_true, keysRise_cons, List.all_cons, decide_eq_true_eq] at hm hn
      have hk : k = l := by
        rcases Nat.lt_trichotomy k l with hlt | he | hlt
        · have := h k
          rw [sget, if_pos rfl, sget, if_neg (by omega), sget_above d hn.1.1 (by omega)] at this
          exact absurd this hm.2.1
        · exact he
        · have := h l
          rw [sget, if_neg (by omega), sget_above d hm.1.1 (by omega), sget, if_pos rfl] at this
          exact absurd this.symm hn.2.1
      subst hk
      have hv : v = w := by simpa [sget] using h k
      subst hv
      congr 1
      apply ih
      · simp only [sparseWf, Bool.and_eq_true]; exact ⟨hm.1.2, hm.2.2⟩
      · simp only [sparseWf, Bool.and_eq_true]; exact ⟨hn.1.2, hn.2.2⟩
      · intro a
        by_cases ha : k = a
        · subst ha
          rw [sget_above d hm.1.1 (Nat.le_refl _), sget_above d hn.1.1 (Nat.le_refl _)]
        · have := h a
          rwa [sget, if_neg ha, sget, if_neg ha] at this

end Sys2Proof.Machine
end

