-- ==== Sys2Proof/Laws/State.lean ====
section
/-! SUPPORT. Laws of the primitive updates of the state: what each leaves as it was, field by field, and what it writes reads as. -/

namespace Sys2Proof.Machine

/-! ## What `setF` leaves as it was -/

@[simp] theorem State.setF_eff (s : State) (f : Field) (v : Nat) : (s.setF f v).eff = s.eff := rfl
@[simp] theorem State.setF_mem (s : State) (f : Field) (v : Nat) : (s.setF f v).mem = s.mem := rfl
@[simp] theorem State.setF_bad (s : State) (f : Field) (v : Nat) : (s.setF f v).bad = s.bad := rfl
@[simp] theorem State.setF_soft (s : State) (f : Field) (v : Nat) : (s.setF f v).soft = s.soft := rfl
@[simp] theorem State.setF_corrected (s : State) (f : Field) (v : Nat) : (s.setF f v).corrected = s.corrected := rfl
@[simp] theorem State.setF_queues (s : State) (f : Field) (v : Nat) : (s.setF f v).queues = s.queues := rfl
@[simp] theorem State.setF_packs (s : State) (f : Field) (v : Nat) : (s.setF f v).packs = s.packs := rfl
@[simp] theorem State.setF_txns (s : State) (f : Field) (v : Nat) : (s.setF f v).txns = s.txns := rfl
@[simp] theorem State.setF_bus (s : State) (f : Field) (v : Nat) : (s.setF f v).bus = s.bus := rfl
@[simp] theorem State.setF_tb0 (s : State) (f : Field) (v : Nat) : (s.setF f v).tb0 = s.tb0 := rfl
@[simp] theorem State.setF_tb1 (s : State) (f : Field) (v : Nat) : (s.setF f v).tb1 = s.tb1 := rfl
@[simp] theorem State.setF_tb3 (s : State) (f : Field) (v : Nat) : (s.setF f v).tb3 = s.tb3 := rfl
@[simp] theorem State.setF_flights (s : State) (f : Field) (v : Nat) : (s.setF f v).flights = s.flights := rfl
@[simp] theorem State.setF_verdicts (s : State) (f : Field) (v : Nat) : (s.setF f v).verdicts = s.verdicts := rfl
@[simp] theorem State.setF_heldLanes (s : State) (f : Field) (v : Nat) : (s.setF f v).heldLanes = s.heldLanes := rfl
@[simp] theorem State.setF_lanes (s : State) (f : Field) (v : Nat) : (s.setF f v).lanes = s.lanes := rfl
@[simp] theorem State.setF_laneMap (s : State) (f : Field) (v : Nat) : (s.setF f v).laneMap = s.laneMap := rfl
@[simp] theorem State.setF_moveQueue (s : State) (f : Field) (v : Nat) : (s.setF f v).moveQueue = s.moveQueue := rfl
@[simp] theorem State.setF_restoreMap (s : State) (f : Field) (v : Nat) : (s.setF f v).restoreMap = s.restoreMap := rfl
@[simp] theorem State.setF_lanesWanted (s : State) (f : Field) (v : Nat) : (s.setF f v).lanesWanted = s.lanesWanted := rfl
@[simp] theorem State.setF_prefetched (s : State) (f : Field) (v : Nat) : (s.setF f v).prefetched = s.prefetched := rfl
@[simp] theorem State.setF_lanADown (s : State) (f : Field) (v : Nat) : (s.setF f v).lanADown = s.lanADown := rfl
@[simp] theorem State.setF_lanBDown (s : State) (f : Field) (v : Nat) : (s.setF f v).lanBDown = s.lanBDown := rfl
@[simp] theorem State.setF_gens (s : State) (f : Field) (v : Nat) : (s.setF f v).gens = s.gens := rfl
@[simp] theorem State.setF_role (s : State) (f : Field) (v : Nat) : (s.setF f v).role = s.role := rfl
@[simp] theorem State.setF_path (s : State) (f : Field) (v : Nat) : (s.setF f v).path = s.path := rfl
@[simp] theorem State.setF_dir (s : State) (f : Field) (v : Nat) : (s.setF f v).dir = s.dir := rfl
@[simp] theorem State.setF_bal (s : State) (f : Field) (v : Nat) : (s.setF f v).bal = s.bal := rfl
@[simp] theorem State.setF_bill (s : State) (f : Field) (v : Nat) : (s.setF f v).bill = s.bill := rfl
@[simp] theorem State.setF_panel (s : State) (f : Field) (v : Nat) : (s.setF f v).panel = s.panel := rfl
@[simp] theorem State.setF_slots (s : State) (f : Field) (v : Nat) : (s.setF f v).slots = s.slots := rfl
@[simp] theorem State.setF_sent (s : State) (f : Field) (v : Nat) : (s.setF f v).sent = s.sent := rfl
@[simp] theorem State.setF_sec (s : State) (f : Field) (v : Nat) : (s.setF f v).sec = s.sec := rfl
@[simp] theorem State.setF_upd (s : State) (f : Field) (v : Nat) : (s.setF f v).upd = s.upd := rfl
@[simp] theorem State.setF_evr (s : State) (f : Field) (v : Nat) : (s.setF f v).evr = s.evr := rfl
@[simp] theorem State.setF_uplink (s : State) (f : Field) (v : Nat) : (s.setF f v).uplink = s.uplink := rfl
@[simp] theorem State.setF_ftl (s : State) (f : Field) (v : Nat) : (s.setF f v).ftl = s.ftl := rfl
@[simp] theorem State.setF_time (s : State) (f : Field) (v : Nat) : (s.setF f v).time = s.time := rfl
@[simp] theorem State.setF_power (s : State) (f : Field) (v : Nat) : (s.setF f v).power = s.power := rfl
@[simp] theorem State.setF_ports (s : State) (f : Field) (v : Nat) : (s.setF f v).ports = s.ports := rfl
@[simp] theorem State.setF_twin (s : State) (f : Field) (v : Nat) : (s.setF f v).twin = s.twin := rfl
@[simp] theorem State.setF_dma (s : State) (f : Field) (v : Nat) : (s.setF f v).dma = s.dma := rfl
@[simp] theorem State.setF_free (s : State) (f : Field) (v : Nat) : (s.setF f v).free = s.free := rfl
@[simp] theorem State.setF_pending (s : State) (f : Field) (v : Nat) : (s.setF f v).pending = s.pending := rfl

/-! ## What `setEff` leaves as it was -/

@[simp] theorem State.setEff_regs (s : State) (f : Field) (v : Nat) : (s.setEff f v).regs = s.regs := rfl
@[simp] theorem State.setEff_mem (s : State) (f : Field) (v : Nat) : (s.setEff f v).mem = s.mem := rfl
@[simp] theorem State.setEff_bad (s : State) (f : Field) (v : Nat) : (s.setEff f v).bad = s.bad := rfl
@[simp] theorem State.setEff_soft (s : State) (f : Field) (v : Nat) : (s.setEff f v).soft = s.soft := rfl
@[simp] theorem State.setEff_corrected (s : State) (f : Field) (v : Nat) : (s.setEff f v).corrected = s.corrected := rfl
@[simp] theorem State.setEff_queues (s : State) (f : Field) (v : Nat) : (s.setEff f v).queues = s.queues := rfl
@[simp] theorem State.setEff_packs (s : State) (f : Field) (v : Nat) : (s.setEff f v).packs = s.packs := rfl
@[simp] theorem State.setEff_txns (s : State) (f : Field) (v : Nat) : (s.setEff f v).txns = s.txns := rfl
@[simp] theorem State.setEff_bus (s : State) (f : Field) (v : Nat) : (s.setEff f v).bus = s.bus := rfl
@[simp] theorem State.setEff_tb0 (s : State) (f : Field) (v : Nat) : (s.setEff f v).tb0 = s.tb0 := rfl
@[simp] theorem State.setEff_tb1 (s : State) (f : Field) (v : Nat) : (s.setEff f v).tb1 = s.tb1 := rfl
@[simp] theorem State.setEff_tb3 (s : State) (f : Field) (v : Nat) : (s.setEff f v).tb3 = s.tb3 := rfl
@[simp] theorem State.setEff_flights (s : State) (f : Field) (v : Nat) : (s.setEff f v).flights = s.flights := rfl
@[simp] theorem State.setEff_verdicts (s : State) (f : Field) (v : Nat) : (s.setEff f v).verdicts = s.verdicts := rfl
@[simp] theorem State.setEff_heldLanes (s : State) (f : Field) (v : Nat) : (s.setEff f v).heldLanes = s.heldLanes := rfl
@[simp] theorem State.setEff_lanes (s : State) (f : Field) (v : Nat) : (s.setEff f v).lanes = s.lanes := rfl
@[simp] theorem State.setEff_laneMap (s : State) (f : Field) (v : Nat) : (s.setEff f v).laneMap = s.laneMap := rfl
@[simp] theorem State.setEff_moveQueue (s : State) (f : Field) (v : Nat) : (s.setEff f v).moveQueue = s.moveQueue := rfl
@[simp] theorem State.setEff_restoreMap (s : State) (f : Field) (v : Nat) : (s.setEff f v).restoreMap = s.restoreMap := rfl
@[simp] theorem State.setEff_lanesWanted (s : State) (f : Field) (v : Nat) : (s.setEff f v).lanesWanted = s.lanesWanted := rfl
@[simp] theorem State.setEff_prefetched (s : State) (f : Field) (v : Nat) : (s.setEff f v).prefetched = s.prefetched := rfl
@[simp] theorem State.setEff_lanADown (s : State) (f : Field) (v : Nat) : (s.setEff f v).lanADown = s.lanADown := rfl
@[simp] theorem State.setEff_lanBDown (s : State) (f : Field) (v : Nat) : (s.setEff f v).lanBDown = s.lanBDown := rfl
@[simp] theorem State.setEff_gens (s : State) (f : Field) (v : Nat) : (s.setEff f v).gens = s.gens := rfl
@[simp] theorem State.setEff_role (s : State) (f : Field) (v : Nat) : (s.setEff f v).role = s.role := rfl
@[simp] theorem State.setEff_path (s : State) (f : Field) (v : Nat) : (s.setEff f v).path = s.path := rfl
@[simp] theorem State.setEff_dir (s : State) (f : Field) (v : Nat) : (s.setEff f v).dir = s.dir := rfl
@[simp] theorem State.setEff_bal (s : State) (f : Field) (v : Nat) : (s.setEff f v).bal = s.bal := rfl
@[simp] theorem State.setEff_bill (s : State) (f : Field) (v : Nat) : (s.setEff f v).bill = s.bill := rfl
@[simp] theorem State.setEff_panel (s : State) (f : Field) (v : Nat) : (s.setEff f v).panel = s.panel := rfl
@[simp] theorem State.setEff_slots (s : State) (f : Field) (v : Nat) : (s.setEff f v).slots = s.slots := rfl
@[simp] theorem State.setEff_sent (s : State) (f : Field) (v : Nat) : (s.setEff f v).sent = s.sent := rfl
@[simp] theorem State.setEff_sec (s : State) (f : Field) (v : Nat) : (s.setEff f v).sec = s.sec := rfl
@[simp] theorem State.setEff_upd (s : State) (f : Field) (v : Nat) : (s.setEff f v).upd = s.upd := rfl
@[simp] theorem State.setEff_evr (s : State) (f : Field) (v : Nat) : (s.setEff f v).evr = s.evr := rfl
@[simp] theorem State.setEff_uplink (s : State) (f : Field) (v : Nat) : (s.setEff f v).uplink = s.uplink := rfl
@[simp] theorem State.setEff_ftl (s : State) (f : Field) (v : Nat) : (s.setEff f v).ftl = s.ftl := rfl
@[simp] theorem State.setEff_time (s : State) (f : Field) (v : Nat) : (s.setEff f v).time = s.time := rfl
@[simp] theorem State.setEff_power (s : State) (f : Field) (v : Nat) : (s.setEff f v).power = s.power := rfl
@[simp] theorem State.setEff_ports (s : State) (f : Field) (v : Nat) : (s.setEff f v).ports = s.ports := rfl
@[simp] theorem State.setEff_twin (s : State) (f : Field) (v : Nat) : (s.setEff f v).twin = s.twin := rfl
@[simp] theorem State.setEff_dma (s : State) (f : Field) (v : Nat) : (s.setEff f v).dma = s.dma := rfl
@[simp] theorem State.setEff_free (s : State) (f : Field) (v : Nat) : (s.setEff f v).free = s.free := rfl
@[simp] theorem State.setEff_pending (s : State) (f : Field) (v : Nat) : (s.setEff f v).pending = s.pending := rfl

/-! ## What `setByte` leaves as it was -/

@[simp] theorem State.setByte_regs (s : State) (a : Nat) (b : Byte) : (s.setByte a b).regs = s.regs := rfl
@[simp] theorem State.setByte_eff (s : State) (a : Nat) (b : Byte) : (s.setByte a b).eff = s.eff := rfl
@[simp] theorem State.setByte_bad (s : State) (a : Nat) (b : Byte) : (s.setByte a b).bad = s.bad := rfl
@[simp] theorem State.setByte_soft (s : State) (a : Nat) (b : Byte) : (s.setByte a b).soft = s.soft := rfl
@[simp] theorem State.setByte_corrected (s : State) (a : Nat) (b : Byte) : (s.setByte a b).corrected = s.corrected := rfl
@[simp] theorem State.setByte_queues (s : State) (a : Nat) (b : Byte) : (s.setByte a b).queues = s.queues := rfl
@[simp] theorem State.setByte_packs (s : State) (a : Nat) (b : Byte) : (s.setByte a b).packs = s.packs := rfl
@[simp] theorem State.setByte_txns (s : State) (a : Nat) (b : Byte) : (s.setByte a b).txns = s.txns := rfl
@[simp] theorem State.setByte_bus (s : State) (a : Nat) (b : Byte) : (s.setByte a b).bus = s.bus := rfl
@[simp] theorem State.setByte_tb0 (s : State) (a : Nat) (b : Byte) : (s.setByte a b).tb0 = s.tb0 := rfl
@[simp] theorem State.setByte_tb1 (s : State) (a : Nat) (b : Byte) : (s.setByte a b).tb1 = s.tb1 := rfl
@[simp] theorem State.setByte_tb3 (s : State) (a : Nat) (b : Byte) : (s.setByte a b).tb3 = s.tb3 := rfl
@[simp] theorem State.setByte_flights (s : State) (a : Nat) (b : Byte) : (s.setByte a b).flights = s.flights := rfl
@[simp] theorem State.setByte_verdicts (s : State) (a : Nat) (b : Byte) : (s.setByte a b).verdicts = s.verdicts := rfl
@[simp] theorem State.setByte_heldLanes (s : State) (a : Nat) (b : Byte) : (s.setByte a b).heldLanes = s.heldLanes := rfl
@[simp] theorem State.setByte_lanes (s : State) (a : Nat) (b : Byte) : (s.setByte a b).lanes = s.lanes := rfl
@[simp] theorem State.setByte_laneMap (s : State) (a : Nat) (b : Byte) : (s.setByte a b).laneMap = s.laneMap := rfl
@[simp] theorem State.setByte_moveQueue (s : State) (a : Nat) (b : Byte) : (s.setByte a b).moveQueue = s.moveQueue := rfl
@[simp] theorem State.setByte_restoreMap (s : State) (a : Nat) (b : Byte) : (s.setByte a b).restoreMap = s.restoreMap := rfl
@[simp] theorem State.setByte_lanesWanted (s : State) (a : Nat) (b : Byte) : (s.setByte a b).lanesWanted = s.lanesWanted := rfl
@[simp] theorem State.setByte_prefetched (s : State) (a : Nat) (b : Byte) : (s.setByte a b).prefetched = s.prefetched := rfl
@[simp] theorem State.setByte_lanADown (s : State) (a : Nat) (b : Byte) : (s.setByte a b).lanADown = s.lanADown := rfl
@[simp] theorem State.setByte_lanBDown (s : State) (a : Nat) (b : Byte) : (s.setByte a b).lanBDown = s.lanBDown := rfl
@[simp] theorem State.setByte_gens (s : State) (a : Nat) (b : Byte) : (s.setByte a b).gens = s.gens := rfl
@[simp] theorem State.setByte_role (s : State) (a : Nat) (b : Byte) : (s.setByte a b).role = s.role := rfl
@[simp] theorem State.setByte_path (s : State) (a : Nat) (b : Byte) : (s.setByte a b).path = s.path := rfl
@[simp] theorem State.setByte_dir (s : State) (a : Nat) (b : Byte) : (s.setByte a b).dir = s.dir := rfl
@[simp] theorem State.setByte_bal (s : State) (a : Nat) (b : Byte) : (s.setByte a b).bal = s.bal := rfl
@[simp] theorem State.setByte_bill (s : State) (a : Nat) (b : Byte) : (s.setByte a b).bill = s.bill := rfl
@[simp] theorem State.setByte_panel (s : State) (a : Nat) (b : Byte) : (s.setByte a b).panel = s.panel := rfl
@[simp] theorem State.setByte_slots (s : State) (a : Nat) (b : Byte) : (s.setByte a b).slots = s.slots := rfl
@[simp] theorem State.setByte_sent (s : State) (a : Nat) (b : Byte) : (s.setByte a b).sent = s.sent := rfl
@[simp] theorem State.setByte_sec (s : State) (a : Nat) (b : Byte) : (s.setByte a b).sec = s.sec := rfl
@[simp] theorem State.setByte_upd (s : State) (a : Nat) (b : Byte) : (s.setByte a b).upd = s.upd := rfl
@[simp] theorem State.setByte_evr (s : State) (a : Nat) (b : Byte) : (s.setByte a b).evr = s.evr := rfl
@[simp] theorem State.setByte_uplink (s : State) (a : Nat) (b : Byte) : (s.setByte a b).uplink = s.uplink := rfl
@[simp] theorem State.setByte_ftl (s : State) (a : Nat) (b : Byte) : (s.setByte a b).ftl = s.ftl := rfl
@[simp] theorem State.setByte_time (s : State) (a : Nat) (b : Byte) : (s.setByte a b).time = s.time := rfl
@[simp] theorem State.setByte_power (s : State) (a : Nat) (b : Byte) : (s.setByte a b).power = s.power := rfl
@[simp] theorem State.setByte_ports (s : State) (a : Nat) (b : Byte) : (s.setByte a b).ports = s.ports := rfl
@[simp] theorem State.setByte_twin (s : State) (a : Nat) (b : Byte) : (s.setByte a b).twin = s.twin := rfl
@[simp] theorem State.setByte_dma (s : State) (a : Nat) (b : Byte) : (s.setByte a b).dma = s.dma := rfl
@[simp] theorem State.setByte_free (s : State) (a : Nat) (b : Byte) : (s.setByte a b).free = s.free := rfl
@[simp] theorem State.setByte_pending (s : State) (a : Nat) (b : Byte) : (s.setByte a b).pending = s.pending := rfl

/-! ## What `write` leaves as it was -/

@[simp] theorem State.write_regs (s : State) (a : Nat) (bs : Bytes) : (s.write a bs).regs = s.regs := rfl
@[simp] theorem State.write_eff (s : State) (a : Nat) (bs : Bytes) : (s.write a bs).eff = s.eff := rfl
@[simp] theorem State.write_queues (s : State) (a : Nat) (bs : Bytes) : (s.write a bs).queues = s.queues := rfl
@[simp] theorem State.write_packs (s : State) (a : Nat) (bs : Bytes) : (s.write a bs).packs = s.packs := rfl
@[simp] theorem State.write_txns (s : State) (a : Nat) (bs : Bytes) : (s.write a bs).txns = s.txns := rfl
@[simp] theorem State.write_bus (s : State) (a : Nat) (bs : Bytes) : (s.write a bs).bus = s.bus := rfl
@[simp] theorem State.write_tb0 (s : State) (a : Nat) (bs : Bytes) : (s.write a bs).tb0 = s.tb0 := rfl
@[simp] theorem State.write_tb1 (s : State) (a : Nat) (bs : Bytes) : (s.write a bs).tb1 = s.tb1 := rfl
@[simp] theorem State.write_tb3 (s : State) (a : Nat) (bs : Bytes) : (s.write a bs).tb3 = s.tb3 := rfl
@[simp] theorem State.write_flights (s : State) (a : Nat) (bs : Bytes) : (s.write a bs).flights = s.flights := rfl
@[simp] theorem State.write_verdicts (s : State) (a : Nat) (bs : Bytes) : (s.write a bs).verdicts = s.verdicts := rfl
@[simp] theorem State.write_heldLanes (s : State) (a : Nat) (bs : Bytes) : (s.write a bs).heldLanes = s.heldLanes := rfl
@[simp] theorem State.write_lanes (s : State) (a : Nat) (bs : Bytes) : (s.write a bs).lanes = s.lanes := rfl
@[simp] theorem State.write_laneMap (s : State) (a : Nat) (bs : Bytes) : (s.write a bs).laneMap = s.laneMap := rfl
@[simp] theorem State.write_moveQueue (s : State) (a : Nat) (bs : Bytes) : (s.write a bs).moveQueue = s.moveQueue := rfl
@[simp] theorem State.write_restoreMap (s : State) (a : Nat) (bs : Bytes) : (s.write a bs).restoreMap = s.restoreMap := rfl
@[simp] theorem State.write_lanesWanted (s : State) (a : Nat) (bs : Bytes) : (s.write a bs).lanesWanted = s.lanesWanted := rfl
@[simp] theorem State.write_prefetched (s : State) (a : Nat) (bs : Bytes) : (s.write a bs).prefetched = s.prefetched := rfl
@[simp] theorem State.write_lanADown (s : State) (a : Nat) (bs : Bytes) : (s.write a bs).lanADown = s.lanADown := rfl
@[simp] theorem State.write_lanBDown (s : State) (a : Nat) (bs : Bytes) : (s.write a bs).lanBDown = s.lanBDown := rfl
@[simp] theorem State.write_gens (s : State) (a : Nat) (bs : Bytes) : (s.write a bs).gens = s.gens := rfl
@[simp] theorem State.write_role (s : State) (a : Nat) (bs : Bytes) : (s.write a bs).role = s.role := rfl
@[simp] theorem State.write_path (s : State) (a : Nat) (bs : Bytes) : (s.write a bs).path = s.path := rfl
@[simp] theorem State.write_dir (s : State) (a : Nat) (bs : Bytes) : (s.write a bs).dir = s.dir := rfl
@[simp] theorem State.write_bal (s : State) (a : Nat) (bs : Bytes) : (s.write a bs).bal = s.bal := rfl
@[simp] theorem State.write_bill (s : State) (a : Nat) (bs : Bytes) : (s.write a bs).bill = s.bill := rfl
@[simp] theorem State.write_panel (s : State) (a : Nat) (bs : Bytes) : (s.write a bs).panel = s.panel := rfl
@[simp] theorem State.write_slots (s : State) (a : Nat) (bs : Bytes) : (s.write a bs).slots = s.slots := rfl
@[simp] theorem State.write_sent (s : State) (a : Nat) (bs : Bytes) : (s.write a bs).sent = s.sent := rfl
@[simp] theorem State.write_sec (s : State) (a : Nat) (bs : Bytes) : (s.write a bs).sec = s.sec := rfl
@[simp] theorem State.write_upd (s : State) (a : Nat) (bs : Bytes) : (s.write a bs).upd = s.upd := rfl
@[simp] theorem State.write_evr (s : State) (a : Nat) (bs : Bytes) : (s.write a bs).evr = s.evr := rfl
@[simp] theorem State.write_uplink (s : State) (a : Nat) (bs : Bytes) : (s.write a bs).uplink = s.uplink := rfl
@[simp] theorem State.write_ftl (s : State) (a : Nat) (bs : Bytes) : (s.write a bs).ftl = s.ftl := rfl
@[simp] theorem State.write_time (s : State) (a : Nat) (bs : Bytes) : (s.write a bs).time = s.time := rfl
@[simp] theorem State.write_power (s : State) (a : Nat) (bs : Bytes) : (s.write a bs).power = s.power := rfl
@[simp] theorem State.write_ports (s : State) (a : Nat) (bs : Bytes) : (s.write a bs).ports = s.ports := rfl
@[simp] theorem State.write_twin (s : State) (a : Nat) (bs : Bytes) : (s.write a bs).twin = s.twin := rfl
@[simp] theorem State.write_dma (s : State) (a : Nat) (bs : Bytes) : (s.write a bs).dma = s.dma := rfl
@[simp] theorem State.write_free (s : State) (a : Nat) (bs : Bytes) : (s.write a bs).free = s.free := rfl
@[simp] theorem State.write_pending (s : State) (a : Nat) (bs : Bytes) : (s.write a bs).pending = s.pending := rfl

/-! ## What `eccCorrect` leaves as it was -/

@[simp] theorem State.eccCorrect_regs (s : State) (a n : Nat) : (s.eccCorrect a n).regs = s.regs := rfl
@[simp] theorem State.eccCorrect_eff (s : State) (a n : Nat) : (s.eccCorrect a n).eff = s.eff := rfl
@[simp] theorem State.eccCorrect_mem (s : State) (a n : Nat) : (s.eccCorrect a n).mem = s.mem := rfl
@[simp] theorem State.eccCorrect_bad (s : State) (a n : Nat) : (s.eccCorrect a n).bad = s.bad := rfl
@[simp] theorem State.eccCorrect_queues (s : State) (a n : Nat) : (s.eccCorrect a n).queues = s.queues := rfl
@[simp] theorem State.eccCorrect_packs (s : State) (a n : Nat) : (s.eccCorrect a n).packs = s.packs := rfl
@[simp] theorem State.eccCorrect_txns (s : State) (a n : Nat) : (s.eccCorrect a n).txns = s.txns := rfl
@[simp] theorem State.eccCorrect_bus (s : State) (a n : Nat) : (s.eccCorrect a n).bus = s.bus := rfl
@[simp] theorem State.eccCorrect_tb0 (s : State) (a n : Nat) : (s.eccCorrect a n).tb0 = s.tb0 := rfl
@[simp] theorem State.eccCorrect_tb1 (s : State) (a n : Nat) : (s.eccCorrect a n).tb1 = s.tb1 := rfl
@[simp] theorem State.eccCorrect_tb3 (s : State) (a n : Nat) : (s.eccCorrect a n).tb3 = s.tb3 := rfl
@[simp] theorem State.eccCorrect_flights (s : State) (a n : Nat) : (s.eccCorrect a n).flights = s.flights := rfl
@[simp] theorem State.eccCorrect_verdicts (s : State) (a n : Nat) : (s.eccCorrect a n).verdicts = s.verdicts := rfl
@[simp] theorem State.eccCorrect_heldLanes (s : State) (a n : Nat) : (s.eccCorrect a n).heldLanes = s.heldLanes := rfl
@[simp] theorem State.eccCorrect_lanes (s : State) (a n : Nat) : (s.eccCorrect a n).lanes = s.lanes := rfl
@[simp] theorem State.eccCorrect_laneMap (s : State) (a n : Nat) : (s.eccCorrect a n).laneMap = s.laneMap := rfl
@[simp] theorem State.eccCorrect_moveQueue (s : State) (a n : Nat) : (s.eccCorrect a n).moveQueue = s.moveQueue := rfl
@[simp] theorem State.eccCorrect_restoreMap (s : State) (a n : Nat) : (s.eccCorrect a n).restoreMap = s.restoreMap := rfl
@[simp] theorem State.eccCorrect_lanesWanted (s : State) (a n : Nat) : (s.eccCorrect a n).lanesWanted = s.lanesWanted := rfl
@[simp] theorem State.eccCorrect_prefetched (s : State) (a n : Nat) : (s.eccCorrect a n).prefetched = s.prefetched := rfl
@[simp] theorem State.eccCorrect_lanADown (s : State) (a n : Nat) : (s.eccCorrect a n).lanADown = s.lanADown := rfl
@[simp] theorem State.eccCorrect_lanBDown (s : State) (a n : Nat) : (s.eccCorrect a n).lanBDown = s.lanBDown := rfl
@[simp] theorem State.eccCorrect_gens (s : State) (a n : Nat) : (s.eccCorrect a n).gens = s.gens := rfl
@[simp] theorem State.eccCorrect_role (s : State) (a n : Nat) : (s.eccCorrect a n).role = s.role := rfl
@[simp] theorem State.eccCorrect_path (s : State) (a n : Nat) : (s.eccCorrect a n).path = s.path := rfl
@[simp] theorem State.eccCorrect_dir (s : State) (a n : Nat) : (s.eccCorrect a n).dir = s.dir := rfl
@[simp] theorem State.eccCorrect_bal (s : State) (a n : Nat) : (s.eccCorrect a n).bal = s.bal := rfl
@[simp] theorem State.eccCorrect_bill (s : State) (a n : Nat) : (s.eccCorrect a n).bill = s.bill := rfl
@[simp] theorem State.eccCorrect_panel (s : State) (a n : Nat) : (s.eccCorrect a n).panel = s.panel := rfl
@[simp] theorem State.eccCorrect_slots (s : State) (a n : Nat) : (s.eccCorrect a n).slots = s.slots := rfl
@[simp] theorem State.eccCorrect_sent (s : State) (a n : Nat) : (s.eccCorrect a n).sent = s.sent := rfl
@[simp] theorem State.eccCorrect_sec (s : State) (a n : Nat) : (s.eccCorrect a n).sec = s.sec := rfl
@[simp] theorem State.eccCorrect_upd (s : State) (a n : Nat) : (s.eccCorrect a n).upd = s.upd := rfl
@[simp] theorem State.eccCorrect_evr (s : State) (a n : Nat) : (s.eccCorrect a n).evr = s.evr := rfl
@[simp] theorem State.eccCorrect_uplink (s : State) (a n : Nat) : (s.eccCorrect a n).uplink = s.uplink := rfl
@[simp] theorem State.eccCorrect_ftl (s : State) (a n : Nat) : (s.eccCorrect a n).ftl = s.ftl := rfl
@[simp] theorem State.eccCorrect_time (s : State) (a n : Nat) : (s.eccCorrect a n).time = s.time := rfl
@[simp] theorem State.eccCorrect_power (s : State) (a n : Nat) : (s.eccCorrect a n).power = s.power := rfl
@[simp] theorem State.eccCorrect_ports (s : State) (a n : Nat) : (s.eccCorrect a n).ports = s.ports := rfl
@[simp] theorem State.eccCorrect_twin (s : State) (a n : Nat) : (s.eccCorrect a n).twin = s.twin := rfl
@[simp] theorem State.eccCorrect_dma (s : State) (a n : Nat) : (s.eccCorrect a n).dma = s.dma := rfl
@[simp] theorem State.eccCorrect_free (s : State) (a n : Nat) : (s.eccCorrect a n).free = s.free := rfl
@[simp] theorem State.eccCorrect_pending (s : State) (a n : Nat) : (s.eccCorrect a n).pending = s.pending := rfl
@[simp] theorem State.eccCorrect_getF (s : State) (f : Field) (a n : Nat) : (s.eccCorrect a n).getF f = s.getF f := rfl
@[simp] theorem State.eccCorrect_byte (s : State) (a n c : Nat) : (s.eccCorrect a n).byte c = s.byte c := rfl
@[simp] theorem State.eccCorrect_read (s : State) (a n c k : Nat) : (s.eccCorrect a n).read c k = s.read c k := rfl

/-- R22: where no word has a single-bit error, nothing is corrected. -/
theorem State.eccCorrect_clean (s : State) (a n : Nat) (h : s.soft = []) : s.eccCorrect a n = s := by
  cases s; cases h; rfl

/-! ## What `write` leaves of the error marks -/

/-- R22: where no word is uncorrectable, none becomes so by a write. -/
theorem State.write_bad (s : State) (a : Nat) (bs : Bytes) (h : s.bad = []) : (s.write a bs).bad = [] := by
  simp [State.write, clearCovered, h]

/-- R22: where no word has a single-bit error, a write finds none. -/
theorem State.write_soft (s : State) (a : Nat) (bs : Bytes) (h : s.soft = []) : (s.write a bs).soft = [] := by
  simp [State.write, clearCovered, correctSoft, h]

/-- R22: and it counts none. -/
theorem State.write_corrected (s : State) (a : Nat) (bs : Bytes) (h : s.soft = []) : (s.write a bs).corrected = s.corrected := by
  simp [State.write, clearCovered, correctSoft, h]

/-- R22: a write where no word has an error is a write of its bytes. -/
theorem State.write_clean (s : State) (a : Nat) (bs : Bytes) (h : s.bad = []) (h' : s.soft = []) :
    s.write a bs = { s with mem := putBytes s.mem a bs } := by
  cases s; cases h; cases h'; rfl

/-! ## What `answer` leaves as it was -/

@[simp] theorem State.answer_regs (s : State) (d : Nat) : (s.answer d).regs = s.regs := rfl
@[simp] theorem State.answer_eff (s : State) (d : Nat) : (s.answer d).eff = s.eff := rfl
@[simp] theorem State.answer_mem (s : State) (d : Nat) : (s.answer d).mem = s.mem := rfl
@[simp] theorem State.answer_bad (s : State) (d : Nat) : (s.answer d).bad = s.bad := rfl
@[simp] theorem State.answer_soft (s : State) (d : Nat) : (s.answer d).soft = s.soft := rfl
@[simp] theorem State.answer_corrected (s : State) (d : Nat) : (s.answer d).corrected = s.corrected := rfl
@[simp] theorem State.answer_queues (s : State) (d : Nat) : (s.answer d).queues = s.queues := rfl
@[simp] theorem State.answer_packs (s : State) (d : Nat) : (s.answer d).packs = s.packs := rfl
@[simp] theorem State.answer_txns (s : State) (d : Nat) : (s.answer d).txns = s.txns := rfl
@[simp] theorem State.answer_tb0 (s : State) (d : Nat) : (s.answer d).tb0 = s.tb0 := rfl
@[simp] theorem State.answer_tb1 (s : State) (d : Nat) : (s.answer d).tb1 = s.tb1 := rfl
@[simp] theorem State.answer_tb3 (s : State) (d : Nat) : (s.answer d).tb3 = s.tb3 := rfl
@[simp] theorem State.answer_flights (s : State) (d : Nat) : (s.answer d).flights = s.flights := rfl
@[simp] theorem State.answer_verdicts (s : State) (d : Nat) : (s.answer d).verdicts = s.verdicts := rfl
@[simp] theorem State.answer_heldLanes (s : State) (d : Nat) : (s.answer d).heldLanes = s.heldLanes := rfl
@[simp] theorem State.answer_lanes (s : State) (d : Nat) : (s.answer d).lanes = s.lanes := rfl
@[simp] theorem State.answer_laneMap (s : State) (d : Nat) : (s.answer d).laneMap = s.laneMap := rfl
@[simp] theorem State.answer_moveQueue (s : State) (d : Nat) : (s.answer d).moveQueue = s.moveQueue := rfl
@[simp] theorem State.answer_restoreMap (s : State) (d : Nat) : (s.answer d).restoreMap = s.restoreMap := rfl
@[simp] theorem State.answer_lanesWanted (s : State) (d : Nat) : (s.answer d).lanesWanted = s.lanesWanted := rfl
@[simp] theorem State.answer_prefetched (s : State) (d : Nat) : (s.answer d).prefetched = s.prefetched := rfl
@[simp] theorem State.answer_lanADown (s : State) (d : Nat) : (s.answer d).lanADown = s.lanADown := rfl
@[simp] theorem State.answer_lanBDown (s : State) (d : Nat) : (s.answer d).lanBDown = s.lanBDown := rfl
@[simp] theorem State.answer_gens (s : State) (d : Nat) : (s.answer d).gens = s.gens := rfl
@[simp] theorem State.answer_role (s : State) (d : Nat) : (s.answer d).role = s.role := rfl
@[simp] theorem State.answer_path (s : State) (d : Nat) : (s.answer d).path = s.path := rfl
@[simp] theorem State.answer_dir (s : State) (d : Nat) : (s.answer d).dir = s.dir := rfl
@[simp] theorem State.answer_bal (s : State) (d : Nat) : (s.answer d).bal = s.bal := rfl
@[simp] theorem State.answer_bill (s : State) (d : Nat) : (s.answer d).bill = s.bill := rfl
@[simp] theorem State.answer_panel (s : State) (d : Nat) : (s.answer d).panel = s.panel := rfl
@[simp] theorem State.answer_slots (s : State) (d : Nat) : (s.answer d).slots = s.slots := rfl
@[simp] theorem State.answer_sent (s : State) (d : Nat) : (s.answer d).sent = s.sent := rfl
@[simp] theorem State.answer_sec (s : State) (d : Nat) : (s.answer d).sec = s.sec := rfl
@[simp] theorem State.answer_upd (s : State) (d : Nat) : (s.answer d).upd = s.upd := rfl
@[simp] theorem State.answer_evr (s : State) (d : Nat) : (s.answer d).evr = s.evr := rfl
@[simp] theorem State.answer_uplink (s : State) (d : Nat) : (s.answer d).uplink = s.uplink := rfl
@[simp] theorem State.answer_ftl (s : State) (d : Nat) : (s.answer d).ftl = s.ftl := rfl
@[simp] theorem State.answer_time (s : State) (d : Nat) : (s.answer d).time = s.time := rfl
@[simp] theorem State.answer_power (s : State) (d : Nat) : (s.answer d).power = s.power := rfl
@[simp] theorem State.answer_ports (s : State) (d : Nat) : (s.answer d).ports = s.ports := rfl
@[simp] theorem State.answer_twin (s : State) (d : Nat) : (s.answer d).twin = s.twin := rfl
@[simp] theorem State.answer_dma (s : State) (d : Nat) : (s.answer d).dma = s.dma := rfl
@[simp] theorem State.answer_free (s : State) (d : Nat) : (s.answer d).free = s.free := rfl
@[simp] theorem State.answer_pending (s : State) (d : Nat) : (s.answer d).pending = s.pending := rfl

/-! ## What a write reads as -/

@[simp] theorem State.getF_setF_self (s : State) (f : Field) (v : Nat) : (s.setF f v).getF f = v % 2 ^ f.width :=
  sget_sput_self ..

theorem State.getF_setF_ne (s : State) {f g : Field} (v : Nat) (h : f.key ≠ g.key) : (s.setF f v).getF g = s.getF g :=
  sget_sput_ne _ _ _ _ h

@[simp] theorem State.getEff_setEff_self (s : State) (f : Field) (v : Nat) : (s.setEff f v).getEff f = v % 2 ^ f.width :=
  sget_sput_self ..

theorem State.getEff_setEff_ne (s : State) {f g : Field} (v : Nat) (h : f.key ≠ g.key) :
    (s.setEff f v).getEff g = s.getEff g := sget_sput_ne _ _ _ _ h

@[simp] theorem State.byte_setByte_self (s : State) (a : Nat) (b : Byte) : (s.setByte a b).byte a = b := sget_sput_self ..

theorem State.byte_setByte_ne (s : State) {a c : Nat} (b : Byte) (h : a ≠ c) : (s.setByte a b).byte c = s.byte c :=
  sget_sput_ne _ _ _ _ h

@[simp] theorem State.getEff_setF (s : State) (f g : Field) (v : Nat) : (s.setF f v).getEff g = s.getEff g := rfl
@[simp] theorem State.getF_setEff (s : State) (f g : Field) (v : Nat) : (s.setEff f v).getF g = s.getF g := rfl
@[simp] theorem State.byte_setF (s : State) (f : Field) (v a : Nat) : (s.setF f v).byte a = s.byte a := rfl
@[simp] theorem State.getF_write (s : State) (f : Field) (a : Nat) (bs : Bytes) : (s.write a bs).getF f = s.getF f := rfl
@[simp] theorem State.getF_setByte (s : State) (f : Field) (a : Nat) (b : Byte) : (s.setByte a b).getF f = s.getF f := rfl
@[simp] theorem State.getF_answer (s : State) (f : Field) (d : Nat) : (s.answer d).getF f = s.getF f := rfl
@[simp] theorem State.byte_answer (s : State) (a d : Nat) : (s.answer d).byte a = s.byte a := rfl
@[simp] theorem State.queue_setF (s : State) (f : Field) (v q : Nat) : (s.setF f v).queue q = s.queue q := rfl
@[simp] theorem State.queue_answer (s : State) (d q : Nat) : (s.answer d).queue q = s.queue q := rfl

/-- A register field keeps its value under a list of writes to other fields. -/
theorem State.getF_foldl_ne {α : Type} (l : List α) (f : State → α → State) (g : Field)
    (h : ∀ s x, (f s x).getF g = s.getF g) (s : State) : (l.foldl f s).getF g = s.getF g := by
  induction l generalizing s with
  | nil => rfl
  | cons x r ih => rw [List.foldl_cons, ih, h]

/-! ## Bytes of memory under a write of a string -/

theorem putBytes_below (m : List (Nat × Byte)) (a : Nat) (bs : Bytes) {c : Nat} (h : c < a) :
    sget memDefault (putBytes m a bs) c = sget memDefault m c := by
  induction bs generalizing m a with
  | nil => rfl
  | cons b r ih => rw [putBytes, ih _ _ (by omega), sget_sput_ne _ _ _ _ (by omega)]

theorem putBytes_outside (m : List (Nat × Byte)) (a : Nat) (bs : Bytes) {c : Nat} (h : c < a ∨ a + bs.length ≤ c) :
    sget memDefault (putBytes m a bs) c = sget memDefault m c := by
  induction bs generalizing m a with
  | nil => rfl
  | cons b r ih =>
    simp only [List.length_cons] at h
    rw [putBytes, ih _ _ (by omega), sget_sput_ne _ _ _ _ (by omega)]

theorem putBytes_at (m : List (Nat × Byte)) (a : Nat) (bs : Bytes) (i : Nat) (h : i < bs.length) :
    sget memDefault (putBytes m a bs) (a + i) = bs[i] := by
  induction bs generalizing m a i with
  | nil => simp at h
  | cons b r ih =>
    cases i with
    | zero => rw [putBytes, Nat.add_zero, putBytes_below _ _ _ (by omega)]; exact sget_sput_self ..
    | succ i =>
      simp only [List.length_cons] at h
      rw [putBytes]
      have := ih (sput memDefault m a b) (a + 1) i (by omega)
      rw [show a + (i + 1) = a + 1 + i by omega, this]; rfl

/-- A string of which every byte lands is written whole. -/
theorem putLanding_all (f : Nat → Bool) (m : List (Nat × Byte)) (a : Nat) (bs : Bytes) (h : ∀ c, f c = true) :
    putLanding f m a bs = putBytes m a bs := by
  induction bs generalizing m a with
  | nil => rfl
  | cons b r ih => rw [putLanding, putBytes, ih, if_pos (h a)]

theorem putLanding_outside (f : Nat → Bool) (m : List (Nat × Byte)) (a : Nat) (bs : Bytes) {c : Nat} (h : c < a ∨ a + bs.length ≤ c) :
    sget memDefault (putLanding f m a bs) c = sget memDefault m c := by
  induction bs generalizing m a with
  | nil => rfl
  | cons b r ih =>
    simp only [List.length_cons] at h
    rw [putLanding, ih _ _ (by omega)]
    split
    · exact sget_sput_ne _ _ _ _ (by omega)
    · rfl

theorem putLanding_at (f : Nat → Bool) (m : List (Nat × Byte)) (a : Nat) (bs : Bytes) (i : Nat) (h : i < bs.length) :
    sget memDefault (putLanding f m a bs) (a + i) = if f (a + i) then bs[i] else sget memDefault m (a + i) := by
  induction bs generalizing m a i with
  | nil => simp at h
  | cons b r ih =>
    cases i with
    | zero =>
      rw [putLanding, putLanding_outside _ _ _ _ (by omega), Nat.add_zero]
      split
      · exact sget_sput_self ..
      · rfl
    | succ i =>
      simp only [List.length_cons] at h
      rw [putLanding, show a + (i + 1) = a + 1 + i by omega, ih _ _ i (by omega)]
      split
      · rfl
      · split
        · exact sget_sput_ne _ _ _ _ (by omega)
        · rfl

/-- R22: what memory holds after a write: the bytes of the string that land, whether or not a word is uncorrectable. -/
theorem State.write_mem (s : State) (a : Nat) (bs : Bytes) : (s.write a bs).mem = putLanding (lands s.bad a bs.length) s.mem a bs := by
  cases h : s.bad with
  | nil => simp [State.write, h]; exact (putLanding_all _ _ _ _ (fun c => by simp [lands, sget])).symm
  | cons x r => simp [State.write, h]

/-- A write leaves every byte outside the string as it was. -/
theorem State.byte_write_outside (s : State) (a : Nat) (bs : Bytes) {c : Nat} (h : c < a ∨ a + bs.length ≤ c) :
    (s.write a bs).byte c = s.byte c := by
  rw [State.byte, State.write_mem]; exact putLanding_outside _ _ _ _ h

/-- R22: a byte of the string written reads back where it lands, and stays as it was where it does not. -/
theorem State.byte_write_at (s : State) (a : Nat) (bs : Bytes) (i : Nat) (h : i < bs.length) :
    (s.write a bs).byte (a + i) = if lands s.bad a bs.length (a + i) then bs[i] else s.byte (a + i) := by
  rw [State.byte, State.write_mem]; exact putLanding_at _ _ _ _ _ h

/-- What a write stored reads back as the same string, where every byte of it lands. -/
theorem State.read_write (s : State) (a : Nat) (bs : Bytes) (hl : ∀ i, i < bs.length → lands s.bad a bs.length (a + i) = true) :
    (s.write a bs).read a bs.length = bs := by
  apply List.ext_getElem
  · simp [State.read]
  · intro i h1 h2
    simp only [State.read, List.getElem_map, List.getElem_range]
    rw [s.byte_write_at a bs i h2, if_pos (hl i h2)]

/-- R22: where no word is uncorrectable, every byte lands. -/
theorem lands_clean (a n c : Nat) : lands [] a n c = true := by simp [lands, sget]

end Sys2Proof.Machine
end

