-- ==== Sys2Proof/Laws/Accept.lean ====
section
/-! SUPPORT. One lemma per shared way into the block: what an accepted access, a submission and the front of a queue come to. -/

namespace Sys2Proof.Machine

theorem dramEnd_eq (e : Nat) : dramEnd e = 0x0800000000 + (4 + e) * 2 ^ 30 * 31 / 32 - 1 := by
  induction e with
  | zero => rfl
  | succ e h => rw [dramEnd, h]; omega

/-- R23: the DRAM ends where 31/32 of it have gone by. -/
theorem dramTop_eq : dramTop = 0x0800000000 + dramGiB * 2 ^ 30 * 31 / 32 - 1 := by
  rw [dramTop, dramGiB, dramEnd_eq]

/-- R23: there are at least 4 GiB. -/
theorem dramTop_ge : 0x08F7FFFFFF ≤ dramTop := by
  unfold dramTop
  induction Config.dramExtra.val with
  | zero => decide
  | succ e h => exact Nat.le_add_right_of_le h

theorem State.onRead_accepted {s : State} {req : Req} {page off : Nat} (h : s.refusal req page off .b4 false = none) (k : State → State) :
    s.onRead req page off k = k (s.answer 0) := by
  simp only [State.onRead, h]

theorem State.onWrite_accepted {s : State} {req : Req} {page off : Nat} (h : Takes s req page off) (k : State → State) :
    s.onWrite req page off k = k (s.answer 0) := by
  simp only [State.onWrite, h]

theorem State.onField_accepted {s : State} {req : Req} {f : Field} (h : TakesF s req f) (k : State → State) :
    s.onField req f k = k (s.answer 0) := by
  obtain ⟨h1, h2⟩ := h
  have h3 : ¬ (f.trusted = true ∧ req ≠ .trusted) := fun h => h.2 (h2 h.1)
  simp only [State.onField, h1, h3, if_false]

theorem State.onAction_accepted {s : State} {req : Req} {f : Field} {d : Nat} (h : TakesA s req f d) (k : State → State) :
    s.onAction req f d k = k (plainly s req f d) := by
  rw [State.onAction, State.onField_accepted h.1]
  have h2 := h.2
  revert h2
  unfold plainly
  cases (s.answer 0).writePlain req f.page f.off d with
  | mk t ok => intro h2; cases h2; rfl

theorem State.onT_accepted {s : State} {req : Req} {f : Field} (h : TakesT s req f) (v : Nat) (k : State → State) :
    s.onT req f v k = k (s.answer 0) := by
  obtain ⟨h1, h2, h3⟩ := h
  have e2 : (s.answer 0).selOf req = 0 := h2
  have e3 : ((s.answer 0).stagedBy f 0).isSome = false := h3
  rw [State.onT, State.onField_accepted h1]
  simp only [e2, e3, ne_eq, not_true_eq_false, if_false, Bool.false_eq_true]

theorem State.deq_popped {s : State} {q : Nat} {i : Item} (h : (s.queue q).items.head? = some i) : s.deq q = some (i, s.popped q) := by
  unfold State.popped State.deq
  cases hq : (s.queue q).items with
  | nil => rw [hq] at h; cases h
  | cons a r => rw [hq] at h; cases h; rfl

/-- R9: a domain that runs need not be started. -/
theorem State.needDom_on {s : State} {d : Domain} (h : s.domOn d = true) : s.needDom d = some s := by
  simp only [State.needDom, h, if_true]

/-- R9: work that needs the DRAM, with MEM running. -/
theorem State.withDram_on {s : State} (h : s.domOn .mem = true) (k : State → Host.Outcome State Fault Refusal) : s.withDram k = k s := by
  simp only [State.withDram, State.needDom_on h]

/-- R142, R143: what the table engine does with a command that it takes. -/
theorem State.dirCommand_taken {s t : State} {op : Nat} {sub : Option Submission} {b : Bytes} {u : State}
    (hu : u = s.pumpMessages.submitted 0xA1 sub (fun x => .bytes (splice (slice x.item 0 64) 2 [0])))
    (h : DirTakes u op b t)
    (k : State → Bytes → State) : s.dirCommand op sub k = k t b := by
  obtain ⟨h1, h2, h3, h4, h5, h6, h7, h8, h9, h10, h11⟩ := h
  have c : ¬ (!u.flag Reg.DIR_CTRL_ENABLE ∨ !u.dirCredit ∨ (op < 0x30 ∧ !u.hasCredit 0x80) ∨ u.dir.search.isSome ∨ 16 ≤ u.dir.parked.length ∨
      (u.dir.released.isEmpty ∧ u.lookupTurn) ∨ (u.dirFront op).isNone) := by
    rintro (x | x | ⟨x, y⟩ | x | x | ⟨x, y⟩ | x)
    · simp [h1] at x
    · simp [h3] at x
    · simp [h4 x] at y
    · simp [h5] at x
    · omega
    · simp [h7 (List.isEmpty_iff.mp x)] at y
    · simp [h8] at x
  cases sub <;>
  · unfold State.dirCommand
    dsimp only [State.submitted] at hu ⊢
    rw [← hu, if_neg c, State.needDom_on h2]
    simp only [h8, h9, h10, h11, Bool.not_true, Bool.false_eq_true, if_false]

/-- R154: what the balance engine does with a command that it has ordered. -/
theorem State.balCommand_taken {s u : State} {op : Nat} {sub : Option Submission} {b : Bytes}
    (hu : u = s.submitted 0xA9 sub (fun x => .bytes (slice x.item 0 64))) (h1 : (u.queue 0xA9).items.head? = some ⟨.bytes b, 0⟩)
    (h2 : leAt b 0 1 = op) (h3 : u.hasCredit 0x80 = true) (h4 : u.balOpen < (u.queue 0xAA).credits)
    (h5 : balWellFormed b = true) (h6 : u.orders = true) (h7 : u.domOn .mem = true) :
    s.balCommand op sub = (u.popped 0xA9).enq 0x80 { body := .orderedItem (.balCmd (b ++ [0])) } := by
  have e : s.balCommand op sub = State.balCommand u op none := by
    subst hu; cases sub <;> rfl
  have c : ¬ ((leAt b 0 1 ≠ op ∧ 1 ≤ leAt b 0 1 ∧ leAt b 0 1 ≤ 4) ∨ (!u.hasCredit 0x80) = true ∨ (u.queue 0xAA).credits ≤ u.balOpen) := by
    rintro (x | x | x)
    · exact x.1 h2
    · simp [h3] at x
    · omega
  rw [e]
  unfold State.balCommand
  simp only [h1, State.needDom_on h7, Option.bind_some, State.deq_popped h1, h5, h6]
  rw [if_neg c]
  simp

/-- R361: what the FTL does with a command that it takes. -/
theorem State.ftlCommand_taken {s u t : State} {op : Nat} {sub : Option Submission} {b : Bytes}
    (hu : u = s.submitted 0x119 sub (fun x => .bytes (slice x.item 0 32 ++ [BitVec.ofNat 8 x.req.code]))) (h1 : u.ftlCredit = true)
    (h2 : u.ftlFront op = some (b, false, t)) (h3 : ftlKnown b = true) (h4 : ftlMay op b = true) (h5 : op = 6 ∨ t.flag Reg.FTL_STAT_MOUNTED = true)
    (k : State → Bytes → State) : s.ftlCommand op sub k = k t b := by
  have e : s.ftlCommand op sub k = State.ftlCommand u op none k := by
    subst hu; cases sub <;> rfl
  rw [e]
  unfold State.ftlCommand
  clear hu e
  rcases h5 with rfl | h5 <;> simp [*]

/-- R402: what Cleaver does with a job that it takes. -/
theorem State.ciph_taken {s u : State} {op : Nat} {sub : Option Submission} {b : Bytes}
    (hu : u = s.submitted 0x48 sub (fun x => .bytes (slice x.item 0 64))) (h1 : u.unitsReady ≠ 0) (h0 : u.jobsRun = true) (h2 : u.hasCredit 0x49 = true)
    (h3 : (u.queue 0x48).items.head? = some ⟨.bytes b, 0⟩) (h4 : leAt b 0 1 = op) (h5 : ciphKnown b = true) (h6 : ciphFits op b = true)
    (k : State → Bytes → State) : s.ciph op sub k = k (u.popped 0x48) b := by
  have e : s.ciph op sub k = State.ciph u op none k := by
    subst hu; cases sub <;> rfl
  rw [e]
  unfold State.ciph
  simp [h0, h1, h2, h3, h4, h5, h6, State.deq_popped h3]

/-- R406: what Mortar does with a job that it takes. -/
theorem State.pke_taken {s u : State} {op : Nat} {sub : Option Submission} {b : Bytes}
    (hu : u = s.submitted 0x50 sub (fun x => .bytes (slice x.item 0 64))) (h1 : u.domOn .fabric = true) (h2 : u.flag Reg.PKE_CTRL_ENABLE = true)
    (h3 : u.trivetBusy = false) (h4 : u.hasCredit 0x51 = true) (h5 : (u.queue 0x50).items.head? = some ⟨.bytes b, 0⟩) (h6 : leAt b 0 1 = op)
    (h7 : pkeKnown b = true) (h8 : leAt b 2 1 ≤ 63) (h9 : leAt b 3 1 ≤ 63)
    (k : State → Bytes → PkeJob → State) : s.pke op sub k = k (u.popped 0x50) b (pkeFields b) := by
  have e : s.pke op sub k = State.pke u op none k := by
    subst hu; cases sub <;> rfl
  rw [e]
  unfold State.pke
  simp [h1, h2, h3, h4, h5, h6, h7, State.deq_popped h5, Nat.not_lt.mpr h8, Nat.not_lt.mpr h9]

/-- R415: what Trivet does with a request that it takes. -/
theorem State.trivet_taken {s u : State} {op : Nat} {sub : Option Submission} {b : Bytes}
    (hu : u = s.submitted 0x40 sub (fun x => .bytes (splice (slice x.item 0 256) 0 [BitVec.ofNat 8 op]))) (h1 : u.domOn .fabric = true)
    (h2 : u.sec.tId.isEmpty = false) (h3 : u.trivetBusy = false) (h4 : u.hasCredit 0x41 = true)
    (h5 : (u.queue 0x40).items.head? = some ⟨.bytes b, 0⟩) (h6 : leAt b 0 1 = op) (k : State → Bytes → State) :
    s.trivet op sub k = k (u.popped 0x40) b := by
  have e : s.trivet op sub k = State.trivet u op none k := by
    subst hu; cases sub <;> rfl
  rw [e]
  unfold State.trivet
  simp only [h1, h2, h3, h4, h5, h6, State.deq_popped h5]
  simp

/-- R390, R509: what the key engine does with a command, where no other waits and Trivet is not activated. -/
theorem State.keyGo_alone {u : State} {req : Req} (h1 : u.sec.jobs = []) (h2 : (u.keyQueue (u.keyCmd req)).trivetBusy = false) :
    u.keyGo req = ((u.keyQueue (u.keyCmd req)).keyRun (u.keyCmd req)).1.setJobs [((u.keyQueue (u.keyCmd req)).keyRun (u.keyCmd req)).2] := by
  have hj : (u.keyQueue (u.keyCmd req)).sec.jobs = [{ cmd := u.keyCmd req }] := by
    simp only [State.keyQueue, State.setJobs, State.setF_sec, h1, List.nil_append]
  unfold State.keyGo
  simp only [h2, State.runJobs, hj]
  rfl

/-- R390: what a command that the key engine does not refuse does. -/
theorem State.keyRun_runs {s t : State} {c : KeyCmd} (ht : t = s.setBytes (fun k => Reg.KEY_WRAP_OUT_DATA k) 18 []) (h : t.keyRefusal c = 0) :
    s.keyRun c = (t.keyEffect c, { cmd := c, ran := true, undo := if c.op = 2 ∨ c.op = 3 ∨ c.op = 7 then none else some (t.slot c.target) }) := by
  subst ht
  unfold State.keyRun
  simp only [h, ne_eq, not_true_eq_false, if_false]

/-- R309: what arrives on the Tongs link of a paired twin is taken. -/
theorem State.onLink_linked {s : State} (h : Linked s) (k : State → State) : s.onLink k = .next ((s.heardOn 0 true).settling k) := by
  simp only [State.onLink, h.1, h.2.1, h.2.2.1, h.2.2.2, ne_eq, not_false_eq_true, and_self, if_true]

/-- R309: a record is taken, and its link frame acknowledged. -/
theorem State.onRecord_linked {s : State} (h : Linked s) (k : State → State) :
    s.onRecord k = .next ((s.heardOn 0 true).settling fun s => k s.ackLink) := State.onLink_linked h _

end Sys2Proof.Machine
end

