-- ==== Sys2Proof/Laws/Answer.lean ====
section
/-! SUPPORT. What a bus answer leaves as it was, for the values that the state derives from its fields: true by unfolding, so that no proof unfolds them. -/

namespace Sys2Proof.Machine

@[simp] theorem State.answer_flag (s : State) (d : Nat) (f : Field) : (s.answer d).flag f = s.flag f := rfl
@[simp] theorem State.answer_get2 (s : State) (d : Nat) (lo hi : Field) : (s.answer d).get2 lo hi = s.get2 lo hi := rfl
@[simp] theorem State.answer_getEff (s : State) (d : Nat) (f : Field) : (s.answer d).getEff f = s.getEff f := rfl
@[simp] theorem State.answer_mode (s : State) (d : Nat) : (s.answer d).mode = s.mode := rfl
@[simp] theorem State.answer_orders (s : State) (d : Nat) : (s.answer d).orders = s.orders := rfl
@[simp] theorem State.answer_domOn (s : State) (d : Nat) (dom : Domain) : (s.answer d).domOn dom = s.domOn dom := rfl
@[simp] theorem State.answer_startingUp (s : State) (d : Nat) : (s.answer d).startingUp = s.startingUp := rfl
@[simp] theorem State.answer_lane (s : State) (d : Nat) (n : Nat) : (s.answer d).lane n = s.lane n := rfl
@[simp] theorem State.answer_laneState (s : State) (d : Nat) (n : Nat) : (s.answer d).laneState n = s.laneState n := rfl
@[simp] theorem State.answer_lanesIn (s : State) (d : Nat) (x : LaneState) : (s.answer d).lanesIn x = s.lanesIn x := rfl
@[simp] theorem State.answer_laneBusy (s : State) (d : Nat) (n : Nat) : (s.answer d).laneBusy n = s.laneBusy n := rfl
@[simp] theorem State.answer_hasGroup (s : State) (d : Nat) (n : Nat) : (s.answer d).hasGroup n = s.hasGroup n := rfl
@[simp] theorem State.answer_loaded (s : State) (d : Nat) (n bank : Nat) : (s.answer d).loaded n bank = s.loaded n bank := rfl
@[simp] theorem State.answer_bankInUse (s : State) (d : Nat) (n b : Nat) : (s.answer d).bankInUse n b = s.bankInUse n b := rfl
@[simp] theorem State.answer_mapEntry (s : State) (d : Nat) (g : Nat) : (s.answer d).mapEntry g = s.mapEntry g := rfl
@[simp] theorem State.answer_movingGroups (s : State) (d : Nat) : (s.answer d).movingGroups = s.movingGroups := rfl
@[simp] theorem State.answer_txn (s : State) (d : Nat) (t : Nat) : (s.answer d).txn t = s.txn t := rfl
@[simp] theorem State.answer_owns (s : State) (d : Nat) (req : Req) (t : Nat) : (s.answer d).owns req t = s.owns req t := rfl
@[simp] theorem State.answer_selOf (s : State) (d : Nat) (req : Req) : (s.answer d).selOf req = s.selOf req := rfl
@[simp] theorem State.answer_stagedBy (s : State) (d : Nat) (f : Field) (mine : Nat) : (s.answer d).stagedBy f mine = s.stagedBy f mine := rfl
@[simp] theorem State.answer_tSet (s : State) (d : Nat) (p off w : Nat) : (s.answer d).tSet p off w = s.tSet p off w := rfl
@[simp] theorem State.answer_sFieldsAt (s : State) (d : Nat) (p off : Nat) : (s.answer d).sFieldsAt p off = s.sFieldsAt p off := rfl
@[simp] theorem State.answer_locked (s : State) (d : Nat) (t k : Nat) : (s.answer d).locked? t k = s.locked? t k := rfl
@[simp] theorem State.answer_flight (s : State) (d : Nat) (n : Nat) : (s.answer d).flight n = s.flight n := rfl
@[simp] theorem State.answer_orderNext (s : State) (d : Nat) : (s.answer d).orderNext = s.orderNext := rfl
@[simp] theorem State.answer_hasCredit (s : State) (d : Nat) (q : Nat) : (s.answer d).hasCredit q = s.hasCredit q := rfl
@[simp] theorem State.answer_header (s : State) (d : Nat) (t b hi lo : Nat) : (s.answer d).header t b hi lo = s.header t b hi lo := rfl
@[simp] theorem State.answer_recF (s : State) (d : Nat) (m off n : Nat) : (s.answer d).recF m off n = s.recF m off n := rfl
@[simp] theorem State.answer_recValid (s : State) (d : Nat) (m : Nat) : (s.answer d).recValid m = s.recValid m := rfl
@[simp] theorem State.answer_port (s : State) (d : Nat) (k : Nat) : (s.answer d).port k = s.port k := rfl
@[simp] theorem State.answer_portOn (s : State) (d : Nat) (k : Nat) : (s.answer d).portOn k = s.portOn k := rfl
@[simp] theorem State.answer_track (s : State) (d : Nat) (k : Nat) : (s.answer d).track k = s.track k := rfl
@[simp] theorem State.answer_member (s : State) (d : Nat) (k : Nat) : (s.answer d).member k = s.member k := rfl
@[simp] theorem State.answer_coordinates (s : State) (d : Nat) (k : Nat) : (s.answer d).coordinates k = s.coordinates k := rfl
@[simp] theorem State.answer_ethUp (s : State) (d : Nat) (n : Nat) : (s.answer d).ethUp n = s.ethUp n := rfl
@[simp] theorem State.answer_learned (s : State) (d : Nat) (mac : Nat) : (s.answer d).learned mac = s.learned mac := rfl
@[simp] theorem State.answer_ns0 (s : State) (d : Nat) : (s.answer d).ns0 = s.ns0 := rfl
@[simp] theorem State.answer_ns3 (s : State) (d : Nat) : (s.answer d).ns3 = s.ns3 := rfl
@[simp] theorem State.answer_utcNs (s : State) (d : Nat) : (s.answer d).utcNs = s.utcNs := rfl
@[simp] theorem State.answer_utcSec (s : State) (d : Nat) : (s.answer d).utcSec = s.utcSec := rfl
@[simp] theorem State.answer_nextBeacon (s : State) (d : Nat) (k : Nat) : (s.answer d).nextBeacon k = s.nextBeacon k := rfl
@[simp] theorem State.answer_scheduleRuns (s : State) (d : Nat) : (s.answer d).scheduleRuns = s.scheduleRuns := rfl
@[simp] theorem State.answer_alarmDue (s : State) (d : Nat) (n : Nat) : (s.answer d).alarmDue n = s.alarmDue n := rfl
@[simp] theorem State.answer_rtcDue (s : State) (d : Nat) (n : Nat) : (s.answer d).rtcDue n = s.rtcDue n := rfl
@[simp] theorem State.answer_twinRole (s : State) (d : Nat) : (s.answer d).twinRole = s.twinRole := rfl
@[simp] theorem State.answer_paired (s : State) (d : Nat) : (s.answer d).paired = s.paired := rfl
@[simp] theorem State.answer_degCause (s : State) (d : Nat) : (s.answer d).degCause = s.degCause := rfl
@[simp] theorem State.answer_inputMasked (s : State) (d : Nat) (i : Nat) : (s.answer d).inputMasked i = s.inputMasked i := rfl
@[simp] theorem State.answer_conditioned (s : State) (d : Nat) (i : Nat) : (s.answer d).conditioned i = s.conditioned i := rfl
@[simp] theorem State.answer_modeRefusal (s : State) (d : Nat) (m : Nat) : (s.answer d).modeRefusal m = s.modeRefusal m := rfl
@[simp] theorem State.answer_chanState (s : State) (d : Nat) (n : Nat) : (s.answer d).chanState n = s.chanState n := rfl
@[simp] theorem State.answer_chan (s : State) (d : Nat) (n : Nat) : (s.answer d).chan n = s.chan n := rfl
@[simp] theorem State.answer_slot (s : State) (d : Nat) (n : Nat) : (s.answer d).slot n = s.slot n := rfl
@[simp] theorem State.answer_trngOk (s : State) (d : Nat) : (s.answer d).trngOk = s.trngOk := rfl
@[simp] theorem State.answer_unitsReady (s : State) (d : Nat) : (s.answer d).unitsReady = s.unitsReady := rfl
@[simp] theorem State.answer_unitRun (s : State) (d : Nat) (u : Nat) : (s.answer d).unitRun u = s.unitRun u := rfl
@[simp] theorem State.answer_releaseGood (s : State) (d : Nat) : (s.answer d).releaseGood = s.releaseGood := rfl
@[simp] theorem State.answer_kettleServes (s : State) (d : Nat) : (s.answer d).kettleServes = s.kettleServes := rfl

end Sys2Proof.Machine
end

