-- ==== Sys2Proof/Laws/Tidy.lean ====
section
/-! SUPPORT. A tidy state: its tables are in canonical form and its queue of commands is a given one. The files Tidy*.lean show that every operation answers a tidy state from a tidy one, so that no operation disturbs the canonical form or the commands that wait. -/

namespace Sys2Proof.Machine

/-- The commands `q` wait, memory is in canonical form, and the register and queue tables have rising keys. -/
structure Tidy (q : List Instr) (s : State) : Prop where
  pending : s.pending = q
  mem : sparseWf memDefault s.mem = true
  regs : keysRise s.regs = true
  eff : keysRise s.eff = true
  queues : keysRise s.queues = true

/-- An outcome that is a tidy next state: no fault and no refusal. -/
def TidyO (q : List Instr) (o : Host.Outcome State Fault Refusal) : Prop := ∃ t, o = .next t ∧ Tidy q t

/-- A result beside a tidy state. -/
def Tidy1 {α : Type} (q : List Instr) (x : State × α) : Prop := Tidy q x.1
@[inherit_doc Tidy1] def Tidy2 {α : Type} (q : List Instr) (x : α × State) : Prop := Tidy q x.2
@[inherit_doc Tidy1] def Tidy3 {α β : Type} (q : List Instr) (x : α × β × State) : Prop := Tidy q x.2.2

/-- A tidy state, if there is one. -/
def TidyS (q : List Instr) (x : Option State) : Prop := ∀ t, x = some t → Tidy q t
@[inherit_doc TidyS] def TidyS1 {α : Type} (q : List Instr) (x : Option (State × α)) : Prop := ∀ t, x = some t → Tidy q t.1
@[inherit_doc TidyS] def TidyS2 {α : Type} (q : List Instr) (x : Option (α × State)) : Prop := ∀ t, x = some t → Tidy q t.2
@[inherit_doc TidyS] def TidyS3 {α β : Type} (q : List Instr) (x : Option (α × β × State)) : Prop :=
  ∀ t, x = some t → Tidy q t.2.2

section
variable {q : List Instr} {s : State}

/-! ## Building and taking apart -/

/-- The fields outside the five tables do not matter. -/
theorem tidy_mk (h : Tidy q s) {bad soft corrected packs txns bus tb0 tb1 tb3 flights verdicts heldLanes lanes laneMap moveQueue restoreMap
    lanesWanted prefetched lanADown lanBDown gens role path dir bal bill panel slots sent sec upd evr uplink ftl time
    power ports twin dma free} :
    Tidy q (State.mk s.regs s.eff s.mem bad soft corrected s.queues packs txns bus tb0 tb1 tb3 flights verdicts heldLanes lanes laneMap moveQueue
      restoreMap lanesWanted prefetched lanADown lanBDown gens role path dir bal bill panel slots sent sec upd evr uplink ftl
      time power ports twin dma free s.pending) :=
  ⟨h.pending, h.mem, h.regs, h.eff, h.queues⟩

theorem tidyO_next (h : Tidy q s) : TidyO q (.next s) := ⟨s, rfl, h⟩
theorem idle_tidy (h : Tidy q s) : TidyO q (idle s) := ⟨s, rfl, h⟩
theorem tidy1_mk {α : Type} {a : α} (h : Tidy q s) : Tidy1 q (s, a) := h
theorem tidy2_mk {α : Type} {a : α} (h : Tidy q s) : Tidy2 q (a, s) := h
theorem tidy3_mk {α β : Type} {a : α} {b : β} (h : Tidy q s) : Tidy3 q (a, b, s) := h
theorem tidyS_some (h : Tidy q s) : TidyS q (some s) := fun _ e => Option.some.inj e ▸ h
theorem tidyS_none : TidyS q none := fun _ e => nomatch e
theorem tidyS1_some {α : Type} {x : State × α} (h : Tidy1 q x) : TidyS1 q (some x) := fun _ e => Option.some.inj e ▸ h
theorem tidyS1_none {α : Type} : TidyS1 (α := α) q none := fun _ e => nomatch e
theorem tidyS2_some {α : Type} {x : α × State} (h : Tidy2 q x) : TidyS2 q (some x) := fun _ e => Option.some.inj e ▸ h
theorem tidyS2_none {α : Type} : TidyS2 (α := α) q none := fun _ e => nomatch e
theorem tidyS3_some {α β : Type} {x : α × β × State} (h : Tidy3 q x) : TidyS3 q (some x) := fun _ e => Option.some.inj e ▸ h
theorem tidyS3_none {α β : Type} : TidyS3 (α := α) (β := β) q none := fun _ e => nomatch e

theorem of1 {α : Type} {x : State × α} {a : α} (h : Tidy1 q x) (e : x = (s, a)) : Tidy q s := by subst e; exact h
theorem of2 {α : Type} {x : α × State} {a : α} (h : Tidy2 q x) (e : x = (a, s)) : Tidy q s := by subst e; exact h
theorem of3 {α β : Type} {x : α × β × State} {a : α} {b : β} (h : Tidy3 q x) (e : x = (a, b, s)) : Tidy q s := by subst e; exact h
theorem ofS {x : Option State} (h : TidyS q x) (e : x = some s) : Tidy q s := h s e
theorem ofS1 {α : Type} {x : Option (State × α)} {a : α} (h : TidyS1 q x) (e : x = some (s, a)) : Tidy q s := h _ e
theorem ofS2 {α : Type} {x : Option (α × State)} {a : α} (h : TidyS2 q x) (e : x = some (a, s)) : Tidy q s := h _ e
theorem ofS3 {α β : Type} {x : Option (α × β × State)} {a : α} {b : β} (h : TidyS3 q x) (e : x = some (a, b, s)) : Tidy q s :=
  h _ e

theorem tidy_fst {α : Type} {x : State × α} (h : Tidy1 q x) : Tidy q x.1 := h
theorem tidy_snd {α : Type} {x : α × State} (h : Tidy2 q x) : Tidy q x.2 := h
theorem tidy_thd {α β : Type} {x : α × β × State} (h : Tidy3 q x) : Tidy q x.2.2 := h
theorem tidy_getD {x : Option State} (h : TidyS q x) (hs : Tidy q s) : Tidy q (x.getD s) := by
  cases x with
  | none => exact hs
  | some t => exact h t rfl

theorem foldl_tidy {α : Type} {l : List α} {f : State → α → State} (hf : ∀ t x, Tidy q t → Tidy q (f t x)) (hs : Tidy q s) :
    Tidy q (l.foldl f s) := by
  induction l generalizing s with
  | nil => exact hs
  | cons x r ih => exact ih (hf s x hs)

theorem foldl_tidy1 {α β : Type} {l : List α} {f : State × β → α → State × β} {x : State × β}
    (hf : ∀ t b x, Tidy q t → Tidy1 q (f (t, b) x)) (hs : Tidy1 q x) : Tidy1 q (l.foldl f x) := by
  induction l generalizing x with
  | nil => exact hs
  | cons y r ih => exact ih (hf x.1 x.2 y hs)

theorem foldl_tidy2 {α β : Type} {l : List α} {f : β × State → α → β × State} {x : β × State}
    (hf : ∀ b t x, Tidy q t → Tidy2 q (f (b, t) x)) (hs : Tidy2 q x) : Tidy2 q (l.foldl f x) := by
  induction l generalizing x with
  | nil => exact hs
  | cons y r ih => exact ih (hf x.1 x.2 y hs)

/-! ## Maps, binds and folds over what may be absent -/

theorem map_tidyS {x : Option State} {f : State → State} (hx : TidyS q x) (hf : ∀ t, Tidy q t → Tidy q (f t)) :
    TidyS q (x.map f) := by
  cases x with
  | none => exact tidyS_none
  | some t => exact tidyS_some (hf t (hx t rfl))

theorem map_tidyS_any {α : Type} {x : Option α} {f : α → State} (hf : ∀ t, Tidy q (f t)) : TidyS q (x.map f) := by
  cases x with
  | none => exact tidyS_none
  | some t => exact tidyS_some (hf t)

theorem map_tidyS_of2 {α : Type} {x : Option (α × State)} {f : α × State → State} (hx : TidyS2 q x)
    (hf : ∀ a t, Tidy q t → Tidy q (f (a, t))) : TidyS q (x.map f) := by
  cases x with
  | none => exact tidyS_none
  | some t => exact tidyS_some (hf t.1 t.2 (hx t rfl))

theorem map_tidyS2 {α β : Type} {x : Option (α × State)} {f : α × State → β × State} (hx : TidyS2 q x)
    (hf : ∀ a t, Tidy q t → Tidy2 q (f (a, t))) : TidyS2 q (x.map f) := by
  cases x with
  | none => exact tidyS2_none
  | some t => exact tidyS2_some (hf t.1 t.2 (hx t rfl))

theorem map_tidyS3 {α β γ : Type} {x : Option (α × State)} {f : α × State → β × γ × State} (hx : TidyS2 q x)
    (hf : ∀ a t, Tidy q t → Tidy3 q (f (a, t))) : TidyS3 q (x.map f) := by
  cases x with
  | none => exact tidyS3_none
  | some t => exact tidyS3_some (hf t.1 t.2 (hx t rfl))

theorem bind_tidyS {x : Option State} {f : State → Option State} (hx : TidyS q x) (hf : ∀ t, Tidy q t → TidyS q (f t)) :
    TidyS q (x.bind f) := by
  cases x with
  | none => exact tidyS_none
  | some t => exact hf t (hx t rfl)

theorem foldl_tidyS {α : Type} {l : List α} {f : Option State → α → Option State} {x : Option State}
    (hf : ∀ t a, TidyS q t → TidyS q (f t a)) (hx : TidyS q x) : TidyS q (l.foldl f x) := by
  induction l generalizing x with
  | nil => exact hx
  | cons a r ih => exact ih (hf x a hx)

/-! ## Both branches -/

theorem bind_tidyS2 {α : Type} {x : Option State} {f : State → Option (α × State)} (hx : TidyS q x) (hf : ∀ t, Tidy q t → TidyS2 q (f t)) :
    TidyS2 q (x.bind f) := by
  cases x with
  | none => exact tidyS2_none
  | some t => exact hf t (hx t rfl)

theorem tidy_ite {c : Prop} {i : Decidable c} {a b : State} (ha : Tidy q a) (hb : Tidy q b) : Tidy q (if c then a else b) := by
  split <;> assumption
theorem tidyO_ite {c : Prop} {i : Decidable c} {a b : Host.Outcome State Fault Refusal} (ha : TidyO q a) (hb : TidyO q b) :
    TidyO q (if c then a else b) := by
  split <;> assumption
theorem tidy1_ite {α : Type} {c : Prop} {i : Decidable c} {a b : State × α} (ha : Tidy1 q a) (hb : Tidy1 q b) :
    Tidy1 q (if c then a else b) := by
  split <;> assumption
theorem tidy2_ite {α : Type} {c : Prop} {i : Decidable c} {a b : α × State} (ha : Tidy2 q a) (hb : Tidy2 q b) :
    Tidy2 q (if c then a else b) := by
  split <;> assumption
theorem tidyS_ite {c : Prop} {i : Decidable c} {a b : Option State} (ha : TidyS q a) (hb : TidyS q b) :
    TidyS q (if c then a else b) := by
  split <;> assumption
theorem tidyS1_ite {α : Type} {c : Prop} {i : Decidable c} {a b : Option (State × α)} (ha : TidyS1 q a) (hb : TidyS1 q b) :
    TidyS1 q (if c then a else b) := by
  split <;> assumption
theorem tidyS2_ite {α : Type} {c : Prop} {i : Decidable c} {a b : Option (α × State)} (ha : TidyS2 q a) (hb : TidyS2 q b) :
    TidyS2 q (if c then a else b) := by
  split <;> assumption

/-! ## The primitive updates -/

theorem State.setF_tidy {f : Field} {v : Nat} (h : Tidy q s) : Tidy q (s.setF f v) :=
  ⟨h.pending, h.mem, keysRise_sput _ _ h.regs, h.eff, h.queues⟩

theorem State.setEff_tidy {f : Field} {v : Nat} (h : Tidy q s) : Tidy q (s.setEff f v) :=
  ⟨h.pending, h.mem, h.regs, keysRise_sput _ _ h.eff, h.queues⟩

theorem State.setByte_tidy {a : Nat} {b : Byte} (h : Tidy q s) : Tidy q (s.setByte a b) :=
  ⟨h.pending, sparseWf_sput _ _ h.mem, h.regs, h.eff, h.queues⟩

theorem putBytes_wf {m : List (Nat × Byte)} (bs : Bytes) (a : Nat) (h : sparseWf memDefault m = true) :
    sparseWf memDefault (putBytes m a bs) = true := by
  induction bs generalizing m a with
  | nil => exact h
  | cons b r ih => exact ih _ (sparseWf_sput _ _ h)

theorem putLanding_wf {f : Nat → Bool} {m : List (Nat × Byte)} (bs : Bytes) (a : Nat) (h : sparseWf memDefault m = true) :
    sparseWf memDefault (putLanding f m a bs) = true := by
  induction bs generalizing m a with
  | nil => exact h
  | cons b r ih =>
    rw [putLanding]; split
    · exact ih _ (sparseWf_sput _ _ h)
    · exact ih _ h

theorem State.write_tidy {a : Nat} {bs : Bytes} (h : Tidy q s) : Tidy q (s.write a bs) :=
  ⟨h.pending, by rw [State.write_mem]; exact putLanding_wf bs a h.mem, h.regs, h.eff, h.queues⟩

/-- A register table given anew. -/
theorem tidy_regs {r : List (Nat × Nat)} (h : Tidy q s) (hr : keysRise r = true) : Tidy q { s with regs := r } :=
  ⟨h.pending, h.mem, hr, h.eff, h.queues⟩

/-- A memory given anew. -/
theorem tidy_mem {m : List (Nat × Byte)} (h : Tidy q s) (hm : sparseWf memDefault m = true) : Tidy q { s with mem := m } :=
  ⟨h.pending, hm, h.regs, h.eff, h.queues⟩

/-- A queue table given anew. -/
theorem tidy_queues {x : List (Nat × Queue)} (h : Tidy q s) (hx : keysRise x = true) : Tidy q { s with queues := x } :=
  ⟨h.pending, h.mem, h.regs, h.eff, hx⟩

end

end Sys2Proof.Machine
end

