-- ==== Sys2Proof/Laws/TidyCore.lean ====
section
/-! SUPPORT. Tidy states stay tidy: the operations of Ops, Regs, Calendar, PowerOps, LaneOps, Records, BalOps, BillOps, KeyOps, DirOps, PathOps, Lanes, TxnOps, LaneCtl. One lemma for each operation, proved from the lemmas of the operations it calls. -/

set_option linter.unusedVariables false
set_option linter.unusedTactic false
set_option linter.unreachableTactic false
set_option linter.tactic.unusedName false

namespace Sys2Proof.Machine

/-! ## Ops -/

theorem State.count_tidy {pq} {s : State} {f : Field} {n : optParam ℕ 1} (hs : Tidy pq s) : Tidy pq (State.count s f n) := by
  unfold State.count
  repeat' (first | with_reducible assumption | with_reducible (first | apply State.setF_tidy) | with_reducible (fail_if_no_progress apply tidy_mk))

theorem State.irq_tidy {pq} {s : State} {f : Field} (hs : Tidy pq s) : Tidy pq (State.irq s f) := by
  unfold State.irq
  repeat' (first | with_reducible assumption | with_reducible (first | apply State.setF_tidy))

theorem State.peak_tidy {pq} {s : State} {f : Field} {v : ℕ} (hs : Tidy pq s) : Tidy pq (State.peak s f v) := by
  unfold State.peak
  repeat' (first | with_reducible assumption | with_reducible (first | apply State.setF_tidy))

theorem State.set2_tidy {pq} {s : State} {lo hi : Field} {v : ℕ} (hs : Tidy pq s) : Tidy pq (State.set2 s lo hi v) := by
  unfold State.set2
  repeat' (first | with_reducible assumption | with_reducible (first | apply State.setF_tidy))

theorem State.setBytes_tidy {pq} {s : State} {f : ℕ → Field} {words : ℕ} {bs : Bytes} (hs : Tidy pq s) : Tidy pq (State.setBytes s f words bs) := by
  unfold State.setBytes
  repeat' (first | with_reducible assumption | with_reducible intro _ | with_reducible (first | apply foldl_tidy | apply foldl_tidy1 | apply State.setF_tidy) | with_reducible (apply tidy_fst; first | apply foldl_tidy1) | with_reducible (apply tidy_snd; first | apply foldl_tidy2))

theorem State.drawByte_tidy {pq} {s : State} (hs : Tidy pq s) : Tidy2 pq (State.drawByte s) := by
  unfold State.drawByte
  repeat' (first | with_reducible assumption | with_reducible (first | apply tidy1_mk | apply tidy2_mk) | with_reducible (fail_if_no_progress apply tidy_mk))

theorem State.drawWord_tidy {pq} {s : State} (hs : Tidy pq s) : Tidy2 pq (State.drawWord s) := by
  unfold State.drawWord
  repeat' (first | with_reducible assumption | with_reducible (first | apply tidy1_mk | apply tidy2_mk) | with_reducible (fail_if_no_progress apply tidy_mk))

theorem State.drawBytes_tidy {pq} {s : State} {n : ℕ} (hs : Tidy pq s) : Tidy2 pq (State.drawBytes s n) := by
  unfold State.drawBytes
  repeat' (first | with_reducible assumption | with_reducible intro _ | with_reducible (first | apply tidy1_mk | apply tidy2_mk | apply map_tidyS | apply map_tidyS_of2 | apply map_tidyS_any) | with_reducible (fail_if_no_progress apply tidy_mk))

theorem State.err_tidy {pq} {s : State} {p code info : ℕ} (hs : Tidy pq s) : Tidy pq (State.err s p code info) := by
  unfold State.err
  repeat' (first | with_reducible assumption | with_reducible (first | apply tidy_ite | apply State.setF_tidy | apply State.count_tidy))

theorem State.answer_tidy {pq} {s : State} {d : ℕ} (hs : Tidy pq s) : Tidy pq (State.answer s d) := by
  unfold State.answer
  repeat' (first | with_reducible assumption | with_reducible (first | apply tidy1_mk | apply tidy2_mk) | with_reducible (fail_if_no_progress apply tidy_mk))

theorem State.busError_tidy {pq} {s : State} {code info : ℕ} (hs : Tidy pq s) : Tidy pq (State.busError s code info) := by
  unfold State.busError
  repeat' (first | with_reducible assumption | with_reducible (first | apply State.err_tidy | apply tidy1_mk | apply tidy2_mk) | with_reducible (fail_if_no_progress apply tidy_mk))

theorem State.setDom_tidy {pq} {s : State} {d : Domain} {on : Bool} (hs : Tidy pq s) : Tidy pq (State.setDom s d on) := by
  unfold State.setDom
  repeat' (first | with_reducible assumption | with_reducible (first | apply tidy_ite | apply State.setF_tidy))

theorem State.onWrite_tidy {pq} {s : State} {req : Req} {page off : ℕ} {k : State → State} (hs : Tidy pq s) (hk : ∀ t, Tidy pq t → Tidy pq (k t)) : Tidy pq (State.onWrite s req page off k) := by
  unfold State.onWrite
  repeat' (first | with_reducible assumption | with_reducible (first | apply State.busError_tidy | apply State.answer_tidy | apply tidy1_mk | apply tidy2_mk | apply tidyS_none | apply tidyS_some | apply tidyS1_none | apply tidyS2_none) | split | with_reducible (fail_if_no_progress apply tidy_mk) | with_reducible (first | apply hk) | with_reducible (first | refine of1 ?_ (by assumption) | refine of2 ?_ (by assumption) | refine ofS ?_ (by assumption) | refine ofS1 ?_ (by assumption) | refine ofS2 ?_ (by assumption) | refine ofS3 ?_ (by assumption) | refine of3 ?_ (by assumption)) | dsimp only)

theorem State.onField_tidy {pq} {s : State} {req : Req} {f : Field} {k : State → State} (hs : Tidy pq s) (hk : ∀ t, Tidy pq t → Tidy pq (k t)) : Tidy pq (State.onField s req f k) := by
  unfold State.onField
  repeat' (first | with_reducible assumption | with_reducible (first | apply State.busError_tidy | apply State.answer_tidy | apply tidy1_mk | apply tidy2_mk | apply tidyS_none | apply tidyS_some | apply tidyS1_none | apply tidyS2_none) | with_reducible (apply tidy_fst; first | apply tidy1_ite) | with_reducible (apply tidy_snd; first | apply tidy2_ite) | split | with_reducible (first | apply tidy_ite | apply tidy1_ite | apply tidy2_ite) | with_reducible (fail_if_no_progress apply tidy_mk) | with_reducible (first | apply hk) | with_reducible (first | refine of1 ?_ (by assumption) | refine of2 ?_ (by assumption) | refine ofS ?_ (by assumption) | refine ofS1 ?_ (by assumption) | refine ofS2 ?_ (by assumption) | refine ofS3 ?_ (by assumption) | refine of3 ?_ (by assumption)) | dsimp only)

theorem State.onRead_tidy {pq} {s : State} {req : Req} {page off : ℕ} {k : State → State} {size : optParam AccessSize AccessSize.b4} (hs : Tidy pq s) (hk : ∀ t, Tidy pq t → Tidy pq (k t)) : Tidy pq (State.onRead s req page off k size) := by
  unfold State.onRead
  repeat' (first | with_reducible assumption | with_reducible (first | apply State.busError_tidy | apply State.answer_tidy | apply tidy1_mk | apply tidy2_mk | apply tidyS_none | apply tidyS_some | apply tidyS1_none | apply tidyS2_none) | split | with_reducible (fail_if_no_progress apply tidy_mk) | with_reducible (first | apply hk) | with_reducible (first | refine of1 ?_ (by assumption) | refine of2 ?_ (by assumption) | refine ofS ?_ (by assumption) | refine ofS1 ?_ (by assumption) | refine ofS2 ?_ (by assumption) | refine ofS3 ?_ (by assumption) | refine of3 ?_ (by assumption)) | dsimp only)

theorem State.refuse_tidy {pq} {s : State} {p code : ℕ} (hs : Tidy pq s) : Tidy pq (State.refuse s p code) := by
  unfold State.refuse
  repeat' (first | with_reducible assumption | with_reducible (first | apply State.err_tidy))

theorem State.refuseAt_tidy {pq} {s : State} {req : Req} {f : Field} {code : ℕ} (hs : Tidy pq s) : Tidy pq (State.refuseAt s req f code) := by
  unfold State.refuseAt
  repeat' (first | with_reducible assumption | with_reducible (first | apply State.err_tidy))

theorem State.writeNat_tidy {pq} {s : State} {a n v : ℕ} (hs : Tidy pq s) : Tidy pq (State.writeNat s a n v) := by
  unfold State.writeNat
  repeat' (first | with_reducible assumption | with_reducible (first | apply State.write_tidy))

theorem State.eccCorrect_tidy {pq} {s : State} {a n : ℕ} (hs : Tidy pq s) : Tidy pq (State.eccCorrect s a n) := by
  unfold State.eccCorrect
  repeat' (first | with_reducible assumption | with_reducible (fail_if_no_progress apply tidy_mk))

theorem State.crossings_tidy {pq} {s : State} {q : ℕ} {old new : Bool × Bool} (hs : Tidy pq s) : Tidy pq (State.crossings s q old new) := by
  unfold State.crossings
  repeat' (first | with_reducible assumption | (extract_lets +onlyGivenNames zz; first | (refine (fun (hz : Tidy pq zz) => ?_) ?_; (on_goal 1 => (try clear_value zz; rename' zz => zy, hz => hy)); (on_goal 2 => subst zz)) | (try clear_value zz; rename' zz => zy)) | with_reducible (first | apply tidy_ite | apply tidy1_ite | apply tidy2_ite | apply State.count_tidy | apply State.irq_tidy) | with_reducible (apply tidy_fst; first | apply tidy1_ite) | with_reducible (apply tidy_snd; first | apply tidy2_ite) | with_reducible (first | refine of1 ?_ (by assumption) | refine of2 ?_ (by assumption) | refine ofS ?_ (by assumption) | refine ofS1 ?_ (by assumption) | refine ofS2 ?_ (by assumption) | refine ofS3 ?_ (by assumption) | refine of3 ?_ (by assumption)) | dsimp only)

theorem State.putQueue_tidy {pq} {s : State} {q : ℕ} {x : Queue} (hs : Tidy pq s) : Tidy pq (State.putQueue s q x) := by
  unfold State.putQueue
  exact State.crossings_tidy (tidy_queues hs (keysRise_sput _ _ hs.queues))

theorem State.setQueue_tidy {pq} {s : State} {q : ℕ} {x : Queue} (hs : Tidy pq s) : Tidy pq (State.setQueue s q x) := by
  unfold State.setQueue
  repeat' (first | with_reducible assumption | with_reducible (first | apply State.putQueue_tidy))

theorem State.enq_tidy {pq} {s : State} {q : ℕ} {i : Item} (hs : Tidy pq s) : Tidy pq (State.enq s q i) := by
  unfold State.enq
  repeat' (first | with_reducible assumption | (extract_lets +onlyGivenNames zz; first | (refine (fun (hz : Tidy pq zz) => ?_) ?_; (on_goal 1 => (try clear_value zz; rename' zz => zy, hz => hy)); (on_goal 2 => subst zz)) | (try clear_value zz; rename' zz => zy)) | with_reducible (first | apply State.setQueue_tidy | apply tidy1_mk | apply tidy2_mk) | with_reducible (fail_if_no_progress apply tidy_mk) | with_reducible (first | refine of1 ?_ (by assumption) | refine of2 ?_ (by assumption) | refine ofS ?_ (by assumption) | refine ofS1 ?_ (by assumption) | refine ofS2 ?_ (by assumption) | refine ofS3 ?_ (by assumption) | refine of3 ?_ (by assumption)) | dsimp only)

theorem State.poisoned_tidy {pq} {s : State} {q : ℕ} {n : optParam ℕ 1} (hs : Tidy pq s) : Tidy pq (State.poisoned s q n) := by
  unfold State.poisoned
  repeat' (first | with_reducible assumption | with_reducible (first | apply State.err_tidy | apply State.irq_tidy | apply State.setF_tidy | apply State.count_tidy) | with_reducible (fail_if_no_progress apply tidy_mk))

theorem State.badWords_tidy {pq} {s : State} {q n : ℕ} (hs : Tidy pq s) : Tidy pq (State.badWords s q n) := by
  unfold State.badWords
  repeat' (first | with_reducible assumption | with_reducible (first | apply tidy_ite | apply State.poisoned_tidy))

theorem State.faultFront_tidy {pq} {s : State} {q n : ℕ} (hs : Tidy pq s) : Tidy pq (State.faultFront s q n) := by
  unfold State.faultFront
  repeat' (first | with_reducible assumption | with_reducible (first | apply State.putQueue_tidy) | split | with_reducible (first | apply tidy_ite) | with_reducible (fail_if_no_progress apply tidy_mk) | with_reducible (first | refine of1 ?_ (by assumption) | refine of2 ?_ (by assumption) | refine ofS ?_ (by assumption) | refine ofS1 ?_ (by assumption) | refine ofS2 ?_ (by assumption) | refine ofS3 ?_ (by assumption) | refine of3 ?_ (by assumption)) | dsimp only)

theorem State.deq_tidy {pq} {s : State} {q : ℕ} (hs : Tidy pq s) : TidyS2 pq (State.deq s q) := by
  unfold State.deq
  repeat' (first | with_reducible assumption | (extract_lets +onlyGivenNames zz; first | (refine (fun (hz : Tidy pq zz) => ?_) ?_; (on_goal 1 => (try clear_value zz; rename' zz => zy, hz => hy)); (on_goal 2 => subst zz)) | (try clear_value zz; rename' zz => zy)) | with_reducible (first | apply State.setQueue_tidy | apply State.poisoned_tidy | apply tidy1_mk | apply tidy2_mk | apply tidyS_none | apply tidyS_some | apply tidyS1_none | apply tidyS2_none | apply tidyS2_some) | with_reducible (apply tidy_fst; first | apply tidy1_ite) | with_reducible (apply tidy_snd; first | apply tidy2_ite) | split | with_reducible (first | apply tidy_ite | apply tidy1_ite | apply tidy2_ite | apply tidyS2_ite) | with_reducible (fail_if_no_progress apply tidy_mk) | with_reducible (first | refine of1 ?_ (by assumption) | refine of2 ?_ (by assumption) | refine ofS ?_ (by assumption) | refine ofS1 ?_ (by assumption) | refine ofS2 ?_ (by assumption) | refine ofS3 ?_ (by assumption) | refine of3 ?_ (by assumption)) | dsimp only)

theorem State.deqHeld_tidy {pq} {s : State} {q : ℕ} (hs : Tidy pq s) : TidyS2 pq (State.deqHeld s q) := by
  unfold State.deqHeld
  repeat' (first | with_reducible assumption | (extract_lets +onlyGivenNames zz; first | (refine (fun (hz : Tidy pq zz) => ?_) ?_; (on_goal 1 => (try clear_value zz; rename' zz => zy, hz => hy)); (on_goal 2 => subst zz)) | (try clear_value zz; rename' zz => zy)) | with_reducible (first | apply State.setQueue_tidy | apply State.poisoned_tidy | apply tidy1_mk | apply tidy2_mk | apply tidyS_none | apply tidyS_some | apply tidyS1_none | apply tidyS2_none | apply tidyS2_some) | with_reducible (apply tidy_fst; first | apply tidy1_ite) | with_reducible (apply tidy_snd; first | apply tidy2_ite) | split | with_reducible (first | apply tidy_ite | apply tidy1_ite | apply tidy2_ite | apply tidyS2_ite) | with_reducible (fail_if_no_progress apply tidy_mk) | with_reducible (first | refine of1 ?_ (by assumption) | refine of2 ?_ (by assumption) | refine ofS ?_ (by assumption) | refine ofS1 ?_ (by assumption) | refine ofS2 ?_ (by assumption) | refine ofS3 ?_ (by assumption) | refine of3 ?_ (by assumption)) | dsimp only)

theorem State.creditBack_tidy {pq} {s : State} {q : ℕ} {n : optParam ℕ 1} (hs : Tidy pq s) : Tidy pq (State.creditBack s q n) := by
  unfold State.creditBack
  repeat' (first | with_reducible assumption | (extract_lets +onlyGivenNames zz; first | (refine (fun (hz : Tidy pq zz) => ?_) ?_; (on_goal 1 => (try clear_value zz; rename' zz => zy, hz => hy)); (on_goal 2 => subst zz)) | (try clear_value zz; rename' zz => zy)) | with_reducible (first | apply State.setQueue_tidy | apply tidy1_mk | apply tidy2_mk) | with_reducible (fail_if_no_progress apply tidy_mk) | with_reducible (first | refine of1 ?_ (by assumption) | refine of2 ?_ (by assumption) | refine ofS ?_ (by assumption) | refine ofS1 ?_ (by assumption) | refine ofS2 ?_ (by assumption) | refine ofS3 ?_ (by assumption) | refine of3 ?_ (by assumption)) | dsimp only)

theorem State.setBatch_tidy {pq} {s : State} {k : ℕ} {b : Option Batch} (hs : Tidy pq s) : Tidy pq (State.setBatch s k b) := by
  unfold State.setBatch
  repeat' (first | with_reducible assumption | with_reducible (first | apply tidyS_none | apply tidyS_some | apply tidyS1_none | apply tidyS2_none) | with_reducible (fail_if_no_progress apply tidy_mk))

theorem State.batchOutcome_tidy {pq} {s : State} {at_ : Option (ℕ × ℕ)} {o : FrameOutcome} (hs : Tidy pq s) : Tidy pq (State.batchOutcome s at_ o) := by
  unfold State.batchOutcome
  repeat' (first | with_reducible assumption | with_reducible intro _ | with_reducible (first | apply State.setBatch_tidy | apply tidy1_mk | apply tidy2_mk | apply map_tidyS | apply map_tidyS_of2 | apply map_tidyS_any | apply tidyS_none | apply tidyS_some | apply tidyS1_none | apply tidyS2_none) | with_reducible (apply tidy_fst; first | apply tidy1_ite) | with_reducible (apply tidy_snd; first | apply tidy2_ite) | split | with_reducible (first | apply tidy_ite | apply tidy1_ite | apply tidy2_ite) | with_reducible (fail_if_no_progress apply tidy_mk) | with_reducible (first | refine of1 ?_ (by assumption) | refine of2 ?_ (by assumption) | refine ofS ?_ (by assumption) | refine ofS1 ?_ (by assumption) | refine ofS2 ?_ (by assumption) | refine ofS3 ?_ (by assumption) | refine of3 ?_ (by assumption)) | dsimp only)

theorem State.notTaken_tidy {pq} {s : State} {l : List Item} (hs : Tidy pq s) : Tidy pq (State.notTaken s l) := by
  unfold State.notTaken
  repeat' (first | with_reducible assumption | with_reducible intro _ | with_reducible (first | apply foldl_tidy | apply foldl_tidy1 | apply State.batchOutcome_tidy) | with_reducible (apply tidy_fst; first | apply foldl_tidy1) | with_reducible (apply tidy_snd; first | apply foldl_tidy2) | split | with_reducible (fail_if_no_progress apply tidy_mk) | with_reducible (first | refine of1 ?_ (by assumption) | refine of2 ?_ (by assumption) | refine ofS ?_ (by assumption) | refine ofS1 ?_ (by assumption) | refine ofS2 ?_ (by assumption) | refine ofS3 ?_ (by assumption) | refine of3 ?_ (by assumption)) | dsimp only)

theorem State.discardAll_tidy {pq} {s : State} {q : ℕ} (hs : Tidy pq s) : Tidy pq (State.discardAll s q) := by
  unfold State.discardAll
  repeat' (first | with_reducible assumption | (extract_lets +onlyGivenNames zz; first | (refine (fun (hz : Tidy pq zz) => ?_) ?_; (on_goal 1 => (try clear_value zz; rename' zz => zy, hz => hy)); (on_goal 2 => subst zz)) | (try clear_value zz; rename' zz => zy)) | with_reducible (first | apply State.notTaken_tidy | apply State.count_tidy | apply State.setQueue_tidy | apply tidy1_mk | apply tidy2_mk) | with_reducible (fail_if_no_progress apply tidy_mk) | with_reducible (first | refine of1 ?_ (by assumption) | refine of2 ?_ (by assumption) | refine ofS ?_ (by assumption) | refine ofS1 ?_ (by assumption) | refine ofS2 ?_ (by assumption) | refine ofS3 ?_ (by assumption) | refine of3 ?_ (by assumption)) | dsimp only)

theorem State.event_tidy {pq} {s : State} {e : Ev} {page : ℕ} {data : optParam Bytes []} (hs : Tidy pq s) : Tidy pq (State.event s e page data) := by
  unfold State.event
  repeat' (first | with_reducible assumption | with_reducible (first | apply tidy_ite | apply State.enq_tidy | apply State.irq_tidy | apply State.count_tidy | apply tidy1_mk | apply tidy2_mk) | with_reducible (fail_if_no_progress apply tidy_mk))


/-! ## Regs -/

theorem State.putField_tidy {pq} {s : State} {req : Req} {f : Field} {d : ℕ} (hs : Tidy pq s) : Tidy pq (State.putField s req f d) := by
  unfold State.putField
  repeat' (first | with_reducible assumption | (extract_lets +onlyGivenNames zz; first | (refine (fun (hz : Tidy pq zz) => ?_) ?_; (on_goal 1 => (try clear_value zz; rename' zz => zy, hz => hy)); (on_goal 2 => subst zz)) | (refine (fun (hz : ∀ t, Tidy pq t → Tidy pq (zz t)) => ?_) ?_; (on_goal 1 => (try clear_value zz; rename' zz => zy, hz => hf)); (on_goal 2 => (subst zz; intro _ _; beta_reduce))) | (refine (fun (hz : ∀ t, Tidy pq (zz t)) => ?_) ?_; (on_goal 1 => (try clear_value zz; rename' zz => zy, hz => hf)); (on_goal 2 => (subst zz; intro _; beta_reduce))) | (try clear_value zz; rename' zz => zy)) | with_reducible (first | apply State.setF_tidy) | split | with_reducible (fail_if_no_progress apply tidy_mk) | with_reducible (apply hf) | with_reducible (first | refine of1 ?_ (by assumption) | refine of2 ?_ (by assumption) | refine ofS ?_ (by assumption) | refine ofS1 ?_ (by assumption) | refine ofS2 ?_ (by assumption) | refine ofS3 ?_ (by assumption) | refine of3 ?_ (by assumption)) | dsimp only)

theorem State.writePlain_tidy {pq} {s : State} {req : Req} {p off d : ℕ} (hs : Tidy pq s) : Tidy1 pq (State.writePlain s req p off d) := by
  unfold State.writePlain
  repeat' (first | with_reducible assumption | with_reducible intro _ | (extract_lets +onlyGivenNames zz; first | (refine (fun (hz : Tidy pq zz) => ?_) ?_; (on_goal 1 => (try clear_value zz; rename' zz => zy, hz => hy)); (on_goal 2 => subst zz)) | (refine (fun (hz : ∀ t, Tidy pq t → Tidy pq (zz t)) => ?_) ?_; (on_goal 1 => (try clear_value zz; rename' zz => zy, hz => hf)); (on_goal 2 => (subst zz; intro _ _; beta_reduce))) | (refine (fun (hz : ∀ t, Tidy pq (zz t)) => ?_) ?_; (on_goal 1 => (try clear_value zz; rename' zz => zy, hz => hf)); (on_goal 2 => (subst zz; intro _; beta_reduce))) | (try clear_value zz; rename' zz => zy)) | with_reducible (first | apply foldl_tidy | apply foldl_tidy1 | apply State.err_tidy | apply State.putField_tidy | apply tidy1_mk | apply tidy2_mk) | with_reducible (apply tidy_fst; first | apply foldl_tidy1 | apply tidy1_ite) | with_reducible (apply tidy_snd; first | apply foldl_tidy2 | apply tidy2_ite) | split | with_reducible (first | apply tidy_ite | apply tidy1_ite | apply tidy2_ite) | with_reducible (apply hf) | with_reducible (first | refine of1 ?_ (by assumption) | refine of2 ?_ (by assumption) | refine ofS ?_ (by assumption) | refine ofS1 ?_ (by assumption) | refine ofS2 ?_ (by assumption) | refine ofS3 ?_ (by assumption) | refine of3 ?_ (by assumption)) | dsimp only)

theorem State.onAction_tidy {pq} {s : State} {req : Req} {f : Field} {d : ℕ} {k : State → State} (hs : Tidy pq s) (hk : ∀ t, Tidy pq t → Tidy pq (k t)) : Tidy pq (State.onAction s req f d k) := by
  unfold State.onAction
  repeat' (first | with_reducible assumption | with_reducible intro _ | (extract_lets +onlyGivenNames zz; first | (refine (fun (hz : Tidy pq zz) => ?_) ?_; (on_goal 1 => (try clear_value zz; rename' zz => zy, hz => hy)); (on_goal 2 => subst zz)) | (try clear_value zz; rename' zz => zy)) | with_reducible (first | apply tidy_ite | apply tidy1_ite | apply tidy2_ite | apply State.onField_tidy | apply State.writePlain_tidy | apply tidy1_mk | apply tidy2_mk) | with_reducible (apply tidy_fst; first | apply State.writePlain_tidy | apply tidy1_ite) | with_reducible (apply tidy_snd; first | apply tidy2_ite) | with_reducible (first | apply hk) | with_reducible (first | refine of1 ?_ (by assumption) | refine of2 ?_ (by assumption) | refine ofS ?_ (by assumption) | refine ofS1 ?_ (by assumption) | refine ofS2 ?_ (by assumption) | refine ofS3 ?_ (by assumption) | refine of3 ?_ (by assumption)) | dsimp only)

theorem setPriv_tidy {pq} {s : State} {p d : ℕ} (hs : Tidy pq s) : Tidy pq (setPriv s p d) := by
  unfold setPriv
  repeat' (first | with_reducible assumption | (extract_lets +onlyGivenNames zz; first | (refine (fun (hz : Tidy pq zz) => ?_) ?_; (on_goal 1 => (try clear_value zz; rename' zz => zy, hz => hy)); (on_goal 2 => subst zz)) | (try clear_value zz; rename' zz => zy)) | with_reducible (first | apply tidy_ite | apply State.setF_tidy) | with_reducible (first | refine of1 ?_ (by assumption) | refine of2 ?_ (by assumption) | refine ofS ?_ (by assumption) | refine ofS1 ?_ (by assumption) | refine ofS2 ?_ (by assumption) | refine ofS3 ?_ (by assumption) | refine of3 ?_ (by assumption)) | dsimp only)

theorem execBlkPrivWrite_tidy {pq} {req : Req} {page : BitVec 8} {data : Word} {s : State} (hs : Tidy pq s) : TidyO pq (execBlkPrivWrite req page data s) := by
  unfold execBlkPrivWrite
  repeat' (first | with_reducible assumption | with_reducible intro _ | (extract_lets +onlyGivenNames zz; first | (refine (fun (hz : Tidy pq zz) => ?_) ?_; (on_goal 1 => (try clear_value zz; rename' zz => zy, hz => hy)); (on_goal 2 => subst zz)) | (try clear_value zz; rename' zz => zy)) | with_reducible (first | apply tidy_ite | apply tidyO_ite | apply State.onField_tidy | apply setPriv_tidy | apply tidyO_next | apply idle_tidy) | with_reducible (first | refine of1 ?_ (by assumption) | refine of2 ?_ (by assumption) | refine ofS ?_ (by assumption) | refine ofS1 ?_ (by assumption) | refine ofS2 ?_ (by assumption) | refine ofS3 ?_ (by assumption) | refine of3 ?_ (by assumption)) | dsimp only)

theorem clearIrq_tidy {pq} {s : State} {p bits same : ℕ} (hs : Tidy pq s) : Tidy pq (clearIrq s p bits same) := by
  unfold clearIrq
  repeat' (first | with_reducible assumption | with_reducible intro _ | with_reducible (first | apply tidy_ite | apply foldl_tidy | apply foldl_tidy1 | apply State.setF_tidy) | with_reducible (apply tidy_fst; first | apply foldl_tidy1) | with_reducible (apply tidy_snd; first | apply foldl_tidy2))

theorem execIrqClear_tidy {pq} {req : Req} {page : BitVec 8} {bits sameEdge : Word} {s : State} (hs : Tidy pq s) : TidyO pq (execIrqClear req page bits sameEdge s) := by
  unfold execIrqClear
  repeat' (first | with_reducible assumption | with_reducible intro _ | with_reducible (first | apply State.onWrite_tidy | apply clearIrq_tidy | apply tidyO_next | apply idle_tidy))

theorem execIrqSet_tidy {pq} {req : Req} {page : BitVec 8} {bits : Word} {s : State} (hs : Tidy pq s) : TidyO pq (execIrqSet req page bits s) := by
  unfold execIrqSet
  repeat' (first | with_reducible assumption | with_reducible intro _ | with_reducible (first | apply tidy_ite | apply tidyO_ite | apply foldl_tidy | apply foldl_tidy1 | apply State.onWrite_tidy | apply State.setF_tidy | apply tidyO_next | apply idle_tidy) | with_reducible (apply tidy_fst; first | apply foldl_tidy1) | with_reducible (apply tidy_snd; first | apply foldl_tidy2))

theorem clearErr_tidy {pq} {s : State} {p : ℕ} (hs : Tidy pq s) : Tidy pq (clearErr s p) := by
  unfold clearErr
  repeat' (first | with_reducible assumption | with_reducible (first | apply State.setF_tidy))

theorem execErrClear_tidy {pq} {req : Req} {page : BitVec 8} {s : State} (hs : Tidy pq s) : TidyO pq (execErrClear req page s) := by
  unfold execErrClear
  repeat' (first | with_reducible assumption | with_reducible intro _ | with_reducible (first | apply State.onWrite_tidy | apply clearErr_tidy | apply tidyO_next | apply idle_tidy))

theorem State.handOver_tidy {pq} {s : State} {p : ℕ} {r : ShadowRegs} {fs : List Field} (hs : Tidy pq s) : Tidy pq (State.handOver s p r fs) := by
  unfold State.handOver
  repeat' (first | with_reducible assumption | with_reducible intro _ | (extract_lets +onlyGivenNames zz; first | (refine (fun (hz : Tidy pq zz) => ?_) ?_; (on_goal 1 => (try clear_value zz; rename' zz => zy, hz => hy)); (on_goal 2 => subst zz)) | (try clear_value zz; rename' zz => zy)) | with_reducible (first | apply tidy_ite | apply foldl_tidy | apply foldl_tidy1 | apply State.setEff_tidy | apply State.irq_tidy | apply State.setF_tidy) | with_reducible (apply tidy_fst; first | apply foldl_tidy1) | with_reducible (apply tidy_snd; first | apply foldl_tidy2) | with_reducible (first | refine of1 ?_ (by assumption) | refine of2 ?_ (by assumption) | refine ofS ?_ (by assumption) | refine ofS1 ?_ (by assumption) | refine ofS2 ?_ (by assumption) | refine ofS3 ?_ (by assumption) | refine of3 ?_ (by assumption)) | dsimp only)

theorem State.writeShadow_tidy {pq} {s : State} {req : Req} {p chan off d : ℕ} (hs : Tidy pq s) : Tidy pq (State.writeShadow s req p chan off d) := by
  unfold State.writeShadow
  repeat' (first | with_reducible assumption | with_reducible intro _ | (extract_lets +onlyGivenNames zz; first | (refine (fun (hz : Tidy pq zz) => ?_) ?_; (on_goal 1 => (try clear_value zz; rename' zz => zy, hz => hy)); (on_goal 2 => subst zz)) | (try clear_value zz; rename' zz => zy)) | with_reducible (first | apply tidy_ite | apply foldl_tidy | apply foldl_tidy1 | apply State.err_tidy | apply State.setF_tidy) | with_reducible (apply tidy_fst; first | apply foldl_tidy1) | with_reducible (apply tidy_snd; first | apply foldl_tidy2) | with_reducible (first | refine of1 ?_ (by assumption) | refine of2 ?_ (by assumption) | refine ofS ?_ (by assumption) | refine ofS1 ?_ (by assumption) | refine ofS2 ?_ (by assumption) | refine ofS3 ?_ (by assumption) | refine of3 ?_ (by assumption)) | dsimp only)

theorem execSFieldWrite_tidy {pq} {req : Req} {page : BitVec 8} {off : BitVec 12} {data : Word} {s : State} (hs : Tidy pq s) : TidyO pq (execSFieldWrite req page off data s) := by
  unfold execSFieldWrite
  repeat' (first | with_reducible assumption | with_reducible intro _ | with_reducible (first | apply State.onWrite_tidy | apply State.writeShadow_tidy | apply tidyO_next | apply idle_tidy))

theorem execShadowArm_tidy {pq} {req : Req} {page : BitVec 8} {chan : Fin 16} {s : State} (hs : Tidy pq s) : TidyO pq (execShadowArm req page chan s) := by
  unfold execShadowArm
  repeat' (first | with_reducible assumption | with_reducible intro _ | (extract_lets +onlyGivenNames zz; first | (refine (fun (hz : Tidy pq zz) => ?_) ?_; (on_goal 1 => (try clear_value zz; rename' zz => zy, hz => hy)); (on_goal 2 => subst zz)) | (try clear_value zz; rename' zz => zy)) | with_reducible (first | apply tidy_ite | apply tidyO_ite | apply State.onWrite_tidy | apply State.setF_tidy | apply tidyO_next | apply idle_tidy) | with_reducible (first | refine of1 ?_ (by assumption) | refine of2 ?_ (by assumption) | refine ofS ?_ (by assumption) | refine ofS1 ?_ (by assumption) | refine ofS2 ?_ (by assumption) | refine ofS3 ?_ (by assumption) | refine of3 ?_ (by assumption)) | dsimp only)

theorem State.setLock_tidy {pq} {s : State} {d : Domain} {on : Bool} (hs : Tidy pq s) : Tidy pq (State.setLock s d on) := by
  unfold State.setLock
  repeat' (first | with_reducible assumption | with_reducible (first | apply State.setF_tidy | apply tidyS_none | apply tidyS_some | apply tidyS1_none | apply tidyS2_none) | split | with_reducible (first | apply tidy_ite) | with_reducible (fail_if_no_progress apply tidy_mk) | with_reducible (first | refine of1 ?_ (by assumption) | refine of2 ?_ (by assumption) | refine ofS ?_ (by assumption) | refine ofS1 ?_ (by assumption) | refine ofS2 ?_ (by assumption) | refine ofS3 ?_ (by assumption) | refine of3 ?_ (by assumption)) | dsimp only)

theorem State.startDomain_tidy {pq} {s : State} {d : Domain} (hs : Tidy pq s) : Tidy pq (State.startDomain s d) := by
  unfold State.startDomain
  repeat' (first | with_reducible assumption | (extract_lets +onlyGivenNames zz; first | (refine (fun (hz : Tidy pq zz) => ?_) ?_; (on_goal 1 => (try clear_value zz; rename' zz => zy, hz => hy)); (on_goal 2 => subst zz)) | (refine (fun (hz : ∀ t, Tidy pq t → Tidy pq (zz t)) => ?_) ?_; (on_goal 1 => (try clear_value zz; rename' zz => zy, hz => hf)); (on_goal 2 => (subst zz; intro _ _; beta_reduce))) | (refine (fun (hz : ∀ t, Tidy pq (zz t)) => ?_) ?_; (on_goal 1 => (try clear_value zz; rename' zz => zy, hz => hf)); (on_goal 2 => (subst zz; intro _; beta_reduce))) | (try clear_value zz; rename' zz => zy)) | with_reducible (first | apply tidy_ite | apply State.setDom_tidy | apply State.setLock_tidy | apply tidy1_mk | apply tidy2_mk) | with_reducible (fail_if_no_progress apply tidy_mk) | with_reducible (apply hf) | with_reducible (first | refine of1 ?_ (by assumption) | refine of2 ?_ (by assumption) | refine ofS ?_ (by assumption) | refine ofS1 ?_ (by assumption) | refine ofS2 ?_ (by assumption) | refine ofS3 ?_ (by assumption) | refine of3 ?_ (by assumption)) | dsimp only)

theorem State.needDom_tidy {pq} {s : State} {d : Domain} (hs : Tidy pq s) : TidyS pq (State.needDom s d) := by
  unfold State.needDom
  repeat' (first | with_reducible assumption | with_reducible (first | apply tidy_ite | apply tidyS_ite | apply State.startDomain_tidy | apply tidyS_none | apply tidyS_some | apply tidyS1_none | apply tidyS2_none))

theorem State.withDram_tidy {pq} {s : State} {k : State → Host.Outcome State Fault Refusal} (hs : Tidy pq s) (hk : ∀ t, Tidy pq t → TidyO pq (k t)) : TidyO pq (State.withDram s k) := by
  unfold State.withDram
  repeat' (first | with_reducible assumption | with_reducible (first | apply idle_tidy | apply State.needDom_tidy | apply tidyO_next | apply tidyS_none | apply tidyS_some | apply tidyS1_none | apply tidyS2_none) | split | with_reducible (fail_if_no_progress apply tidy_mk) | with_reducible (first | apply hk) | with_reducible (first | refine of1 ?_ (by assumption) | refine of2 ?_ (by assumption) | refine ofS ?_ (by assumption) | refine ofS1 ?_ (by assumption) | refine ofS2 ?_ (by assumption) | refine ofS3 ?_ (by assumption) | refine of3 ?_ (by assumption)) | dsimp only)

theorem State.modeDomains_tidy {pq} {s : State} {mode : ℕ} (hs : Tidy pq s) : Tidy pq (State.modeDomains s mode) := by
  unfold State.modeDomains
  repeat' (first | with_reducible assumption | with_reducible intro _ | (extract_lets +onlyGivenNames zz; first | (refine (fun (hz : Tidy pq zz) => ?_) ?_; (on_goal 1 => (try clear_value zz; rename' zz => zy, hz => hy)); (on_goal 2 => subst zz)) | (try clear_value zz; rename' zz => zy)) | with_reducible (first | apply tidy_ite | apply tidyS_ite | apply foldl_tidy | apply foldl_tidy1 | apply State.needDom_tidy | apply tidy1_mk | apply tidy2_mk | apply tidy_getD) | with_reducible (apply tidy_fst; first | apply foldl_tidy1) | with_reducible (apply tidy_snd; first | apply foldl_tidy2) | with_reducible (fail_if_no_progress apply tidy_mk) | with_reducible (first | refine of1 ?_ (by assumption) | refine of2 ?_ (by assumption) | refine ofS ?_ (by assumption) | refine ofS1 ?_ (by assumption) | refine ofS2 ?_ (by assumption) | refine ofS3 ?_ (by assumption) | refine of3 ?_ (by assumption)) | dsimp only)

theorem execDomainStart_tidy {pq} {dom : Domain} {s : State} (hs : Tidy pq s) : TidyO pq (execDomainStart dom s) := by
  unfold execDomainStart
  repeat' (first | with_reducible assumption | with_reducible (first | apply tidy_ite | apply tidyO_ite | apply idle_tidy | apply State.startDomain_tidy | apply tidyO_next))

theorem State.dropLinks_tidy {pq} {s : State} (hs : Tidy pq s) : Tidy pq (State.dropLinks s) := by
  unfold State.dropLinks
  repeat' (first | with_reducible assumption | with_reducible (first | apply State.setF_tidy))

theorem execDomainIdleStop_tidy {pq} {dom : Domain} {s : State} (hs : Tidy pq s) : TidyO pq (execDomainIdleStop dom s) := by
  unfold execDomainIdleStop
  repeat' (first | with_reducible assumption | with_reducible (first | apply idle_tidy | apply State.setLock_tidy | apply State.setDom_tidy | apply State.dropLinks_tidy | apply tidyO_next) | split | with_reducible (first | apply tidy_ite | apply tidyO_ite) | with_reducible (fail_if_no_progress apply tidy_mk) | with_reducible (first | refine of1 ?_ (by assumption) | refine of2 ?_ (by assumption) | refine ofS ?_ (by assumption) | refine ofS1 ?_ (by assumption) | refine ofS2 ?_ (by assumption) | refine ofS3 ?_ (by assumption) | refine of3 ?_ (by assumption)) | dsimp only)


/-! ## Calendar -/

theorem State.pruneGens_tidy {pq} {s : State} (hs : Tidy pq s) : Tidy pq (State.pruneGens s) := by
  unfold State.pruneGens
  repeat' (first | with_reducible assumption | with_reducible intro _ | (extract_lets +onlyGivenNames zz; first | (refine (fun (hz : Tidy pq zz) => ?_) ?_; (on_goal 1 => (try clear_value zz; rename' zz => zy, hz => hy)); (on_goal 2 => subst zz)) | (try clear_value zz; rename' zz => zy)) | with_reducible (first | apply State.irq_tidy) | split | with_reducible (first | apply tidy_ite) | with_reducible (fail_if_no_progress apply tidy_mk) | with_reducible (first | refine of1 ?_ (by assumption) | refine of2 ?_ (by assumption) | refine ofS ?_ (by assumption) | refine ofS1 ?_ (by assumption) | refine ofS2 ?_ (by assumption) | refine ofS3 ?_ (by assumption) | refine of3 ?_ (by assumption)) | dsimp only)

theorem State.beginGen_tidy {pq} {s : State} {swap : ℕ} {off : ℤ} {dst at_ : ℕ} (hs : Tidy pq s) : Tidy pq (State.beginGen s swap off dst at_) := by
  unfold State.beginGen
  repeat' (first | with_reducible assumption | with_reducible intro _ | (extract_lets +onlyGivenNames zz; first | (refine (fun (hz : Tidy pq zz) => ?_) ?_; (on_goal 1 => (try clear_value zz; rename' zz => zy, hz => hy)); (on_goal 2 => subst zz)) | (try clear_value zz; rename' zz => zy)) | with_reducible (first | apply State.irq_tidy | apply tidy1_mk | apply tidy2_mk) | split | with_reducible (first | apply tidy_ite) | with_reducible (fail_if_no_progress apply tidy_mk) | with_reducible (first | refine of1 ?_ (by assumption) | refine of2 ?_ (by assumption) | refine ofS ?_ (by assumption) | refine ofS1 ?_ (by assumption) | refine ofS2 ?_ (by assumption) | refine ofS3 ?_ (by assumption) | refine of3 ?_ (by assumption)) | dsimp only)

theorem State.calCheckPassive_tidy {pq} {s : State} {c : ℕ} (hs : Tidy pq s) : Tidy pq (State.calCheckPassive s c) := by
  unfold State.calCheckPassive
  repeat' (first | with_reducible assumption | (extract_lets +onlyGivenNames zz; first | (refine (fun (hz : Tidy pq zz) => ?_) ?_; (on_goal 1 => (try clear_value zz; rename' zz => zy, hz => hy)); (on_goal 2 => subst zz)) | (try clear_value zz; rename' zz => zy)) | with_reducible (first | apply State.setF_tidy | apply tidyS_none | apply tidyS_some | apply tidyS1_none | apply tidyS2_none) | split | with_reducible (fail_if_no_progress apply tidy_mk) | with_reducible (first | refine of1 ?_ (by assumption) | refine of2 ?_ (by assumption) | refine ofS ?_ (by assumption) | refine ofS1 ?_ (by assumption) | refine ofS2 ?_ (by assumption) | refine ofS3 ?_ (by assumption) | refine of3 ?_ (by assumption)) | dsimp only)

theorem execCalCheck_tidy {pq} {req : Req} {data : Word} {s : State} (hs : Tidy pq s) : TidyO pq (execCalCheck req data s) := by
  unfold execCalCheck
  repeat' (first | with_reducible assumption | with_reducible intro _ | with_reducible (first | apply State.onAction_tidy | apply State.irq_tidy | apply State.calCheckPassive_tidy | apply tidyO_next | apply idle_tidy))

theorem execCalResolve_tidy {pq} {req : Req} {data : Word} {s : State} (hs : Tidy pq s) : TidyO pq (execCalResolve req data s) := by
  unfold execCalResolve
  repeat' (first | with_reducible assumption | with_reducible intro _ | with_reducible (first | apply State.onAction_tidy | apply State.irq_tidy | apply State.setF_tidy | apply tidyO_next | apply idle_tidy))


/-! ## PowerOps -/

theorem State.p3Link_tidy {pq} {s : State} {up : Bool} (hs : Tidy pq s) : Tidy pq (State.p3Link s up) := by
  unfold State.p3Link
  repeat' (first | with_reducible assumption | with_reducible (first | apply tidy_ite | apply State.irq_tidy | apply State.setF_tidy))

theorem State.p3Mode_tidy {pq} {s : State} {was : Mode} (hs : Tidy pq s) : Tidy pq (State.p3Mode s was) := by
  unfold State.p3Mode
  repeat' (first | with_reducible assumption | with_reducible (first | apply tidy_ite | apply State.p3Link_tidy))

theorem State.toMode_tidy {pq} {s : State} {m : Mode} (hs : Tidy pq s) : Tidy pq (State.toMode s m) := by
  unfold State.toMode
  repeat' (first | with_reducible assumption | with_reducible (first | apply tidy_ite | apply State.event_tidy | apply State.irq_tidy | apply State.p3Mode_tidy | apply State.modeDomains_tidy | apply State.setF_tidy | apply tidy1_mk | apply tidy2_mk))

theorem State.dueStartup_tidy {pq} {s : State} {step cause : ℕ} (hs : Tidy pq s) : Tidy pq (State.dueStartup s step cause) := by
  unfold State.dueStartup
  repeat' (first | with_reducible assumption | (extract_lets +onlyGivenNames zz; first | (refine (fun (hz : Tidy pq zz) => ?_) ?_; (on_goal 1 => (try clear_value zz; rename' zz => zy, hz => hy)); (on_goal 2 => subst zz)) | (refine (fun (hz : ∀ t, Tidy pq t → Tidy pq (zz t)) => ?_) ?_; (on_goal 1 => (try clear_value zz; rename' zz => zy, hz => hf)); (on_goal 2 => (subst zz; intro _ _; beta_reduce))) | (refine (fun (hz : ∀ t, Tidy pq (zz t)) => ?_) ?_; (on_goal 1 => (try clear_value zz; rename' zz => zy, hz => hf)); (on_goal 2 => (subst zz; intro _; beta_reduce))) | (try clear_value zz; rename' zz => zy)) | with_reducible (first | apply State.setF_tidy) | with_reducible (fail_if_no_progress apply tidy_mk) | with_reducible (apply hf) | with_reducible (first | refine of1 ?_ (by assumption) | refine of2 ?_ (by assumption) | refine ofS ?_ (by assumption) | refine ofS1 ?_ (by assumption) | refine ofS2 ?_ (by assumption) | refine ofS3 ?_ (by assumption) | refine of3 ?_ (by assumption)) | dsimp only)

theorem State.riseTo_tidy {pq} {s : State} {target : ℕ} (hs : Tidy pq s) : Tidy pq (State.riseTo s target) := by
  unfold State.riseTo
  repeat' (first | with_reducible assumption | (extract_lets +onlyGivenNames zz; first | (refine (fun (hz : Tidy pq zz) => ?_) ?_; (on_goal 1 => (try clear_value zz; rename' zz => zy, hz => hy)); (on_goal 2 => subst zz)) | (try clear_value zz; rename' zz => zy)) | with_reducible (first | apply tidy_ite | apply State.toMode_tidy | apply State.dueStartup_tidy) | with_reducible (fail_if_no_progress apply tidy_mk) | with_reducible (first | refine of1 ?_ (by assumption) | refine of2 ?_ (by assumption) | refine ofS ?_ (by assumption) | refine ofS1 ?_ (by assumption) | refine ofS2 ?_ (by assumption) | refine ofS3 ?_ (by assumption) | refine of3 ?_ (by assumption)) | dsimp only)

theorem State.wake_tidy {pq} {s : State} {bit target : ℕ} (hs : Tidy pq s) : Tidy pq (State.wake s bit target) := by
  unfold State.wake
  repeat' (first | with_reducible assumption | (extract_lets +onlyGivenNames zz; first | (refine (fun (hz : Tidy pq zz) => ?_) ?_; (on_goal 1 => (try clear_value zz; rename' zz => zy, hz => hy)); (on_goal 2 => subst zz)) | (refine (fun (hz : ∀ t, Tidy pq t → Tidy pq (zz t)) => ?_) ?_; (on_goal 1 => (try clear_value zz; rename' zz => zy, hz => hf)); (on_goal 2 => (subst zz; intro _ _; beta_reduce))) | (refine (fun (hz : ∀ t, Tidy pq (zz t)) => ?_) ?_; (on_goal 1 => (try clear_value zz; rename' zz => zy, hz => hf)); (on_goal 2 => (subst zz; intro _; beta_reduce))) | (try clear_value zz; rename' zz => zy)) | with_reducible (first | apply State.irq_tidy | apply State.setF_tidy | apply State.riseTo_tidy) | split | with_reducible (first | apply tidy_ite) | with_reducible (apply hf) | with_reducible (first | refine of1 ?_ (by assumption) | refine of2 ?_ (by assumption) | refine ofS ?_ (by assumption) | refine ofS1 ?_ (by assumption) | refine ofS2 ?_ (by assumption) | refine ofS3 ?_ (by assumption) | refine of3 ?_ (by assumption)) | dsimp only)

theorem State.setLaneState_tidy {pq} {s : State} {n : ℕ} {x : LaneState} (hs : Tidy pq s) : Tidy pq (State.setLaneState s n x) := by
  unfold State.setLaneState
  repeat' (first | with_reducible assumption | with_reducible (first | apply State.setF_tidy))

theorem State.settle_tidy {pq} {s : State} {causes : ℕ} (hs : Tidy pq s) : Tidy pq (State.settle s causes) := by
  unfold State.settle
  repeat' (first | with_reducible assumption | (extract_lets +onlyGivenNames zz; first | (refine (fun (hz : Tidy pq zz) => ?_) ?_; (on_goal 1 => (try clear_value zz; rename' zz => zy, hz => hy)); (on_goal 2 => subst zz)) | (try clear_value zz; rename' zz => zy)) | with_reducible (first | apply tidy_ite | apply State.event_tidy | apply State.irq_tidy | apply State.toMode_tidy) | with_reducible (first | refine of1 ?_ (by assumption) | refine of2 ?_ (by assumption) | refine ofS ?_ (by assumption) | refine ofS1 ?_ (by assumption) | refine ofS2 ?_ (by assumption) | refine ofS3 ?_ (by assumption) | refine of3 ?_ (by assumption)) | dsimp only)

theorem State.settling_tidy {pq} {s : State} {k : State → State} (hs : Tidy pq s) (hk : ∀ t, Tidy pq t → Tidy pq (k t)) : Tidy pq (State.settling s k) := by
  unfold State.settling
  repeat' (first | with_reducible assumption | with_reducible (first | apply State.settle_tidy) | with_reducible (first | apply hk))


/-! ## LaneOps -/

theorem State.setFlight_tidy {pq} {s : State} {n : ℕ} {fl : Option Flight} (hs : Tidy pq s) : Tidy pq (State.setFlight s n fl) := by
  unfold State.setFlight
  repeat' (first | with_reducible assumption | with_reducible (first | apply tidyS_none | apply tidyS_some | apply tidyS1_none | apply tidyS2_none) | with_reducible (fail_if_no_progress apply tidy_mk))

theorem State.setLane_tidy {pq} {s : State} {n : ℕ} {l : Lane} (hs : Tidy pq s) : Tidy pq (State.setLane s n l) := by
  unfold State.setLane
  repeat' (first | with_reducible assumption | with_reducible (fail_if_no_progress apply tidy_mk))

theorem State.laneStore_tidy {pq} {s : State} {n a : ℕ} {bs : Bytes} (hs : Tidy pq s) : Tidy pq (State.laneStore s n a bs) := by
  unfold State.laneStore
  repeat' (first | with_reducible assumption | (extract_lets +onlyGivenNames zz; first | (refine (fun (hz : Tidy pq zz) => ?_) ?_; (on_goal 1 => (try clear_value zz; rename' zz => zy, hz => hy)); (on_goal 2 => subst zz)) | (try clear_value zz; rename' zz => zy)) | with_reducible (first | apply tidy_ite | apply State.write_tidy | apply State.setLane_tidy | apply tidy1_mk | apply tidy2_mk) | with_reducible (fail_if_no_progress apply tidy_mk) | with_reducible (first | refine of1 ?_ (by assumption) | refine of2 ?_ (by assumption) | refine ofS ?_ (by assumption) | refine ofS1 ?_ (by assumption) | refine ofS2 ?_ (by assumption) | refine ofS3 ?_ (by assumption) | refine of3 ?_ (by assumption)) | dsimp only)

theorem State.applyEffect_tidy {pq} {s : State} {base : ℕ} {e : Effect} (hs : Tidy pq s) : Tidy pq (State.applyEffect s base e) := by
  unfold State.applyEffect
  repeat' (first | with_reducible assumption | with_reducible (first | apply State.writeNat_tidy) | split | with_reducible (first | apply tidy_ite) | with_reducible (fail_if_no_progress apply tidy_mk) | with_reducible (first | refine of1 ?_ (by assumption) | refine of2 ?_ (by assumption) | refine ofS ?_ (by assumption) | refine ofS1 ?_ (by assumption) | refine ofS2 ?_ (by assumption) | refine ofS3 ?_ (by assumption) | refine of3 ?_ (by assumption)) | dsimp only)

theorem State.showEffects_tidy {pq} {s : State} {n : ℕ} (hs : Tidy pq s) : Tidy pq (State.showEffects s n) := by
  unfold State.showEffects
  repeat' (first | with_reducible assumption | with_reducible intro _ | (extract_lets +onlyGivenNames zz; first | (refine (fun (hz : Tidy pq zz) => ?_) ?_; (on_goal 1 => (try clear_value zz; rename' zz => zy, hz => hy)); (on_goal 2 => subst zz)) | (refine (fun (hz : ∀ t, Tidy pq t → Tidy pq (zz t)) => ?_) ?_; (on_goal 1 => (try clear_value zz; rename' zz => zy, hz => hf)); (on_goal 2 => (subst zz; intro _ _; beta_reduce))) | (refine (fun (hz : ∀ t, Tidy pq (zz t)) => ?_) ?_; (on_goal 1 => (try clear_value zz; rename' zz => zy, hz => hf)); (on_goal 2 => (subst zz; intro _; beta_reduce))) | (try clear_value zz; rename' zz => zy)) | with_reducible (first | apply foldl_tidy | apply foldl_tidy1 | apply State.peak_tidy | apply State.setF_tidy | apply State.write_tidy | apply tidyS_none | apply tidyS_some | apply tidyS1_none | apply tidyS2_none) | with_reducible (apply tidy_fst; first | apply foldl_tidy1) | with_reducible (apply tidy_snd; first | apply foldl_tidy2) | split | with_reducible (fail_if_no_progress apply tidy_mk) | with_reducible (apply hf) | with_reducible (first | refine of1 ?_ (by assumption) | refine of2 ?_ (by assumption) | refine ofS ?_ (by assumption) | refine ofS1 ?_ (by assumption) | refine ofS2 ?_ (by assumption) | refine ofS3 ?_ (by assumption) | refine of3 ?_ (by assumption)) | dsimp only)

theorem State.setLaneFx_tidy {pq} {s : State} {n : ℕ} {l : Lane} (hs : Tidy pq s) : Tidy pq (State.setLaneFx s n l) := by
  unfold State.setLaneFx
  repeat' (first | with_reducible assumption | with_reducible (first | apply State.showEffects_tidy | apply State.setLane_tidy))

theorem State.releasePlain_tidy {pq} {s : State} {n order : ℕ} (hs : Tidy pq s) : Tidy pq (State.releasePlain s n order) := by
  unfold State.releasePlain
  repeat' (first | with_reducible assumption | with_reducible (first | apply State.deq_tidy | apply tidy1_mk | apply tidy2_mk | apply tidyS_none | apply tidyS_some | apply tidyS1_none | apply tidyS2_none) | with_reducible (apply tidy_fst; first | apply tidy1_ite) | with_reducible (apply tidy_snd; first | apply tidy2_ite) | split | with_reducible (first | apply tidy_ite | apply tidy1_ite | apply tidy2_ite) | with_reducible (fail_if_no_progress apply tidy_mk) | with_reducible (first | refine of1 ?_ (by assumption) | refine of2 ?_ (by assumption) | refine ofS ?_ (by assumption) | refine ofS1 ?_ (by assumption) | refine ofS2 ?_ (by assumption) | refine ofS3 ?_ (by assumption) | refine of3 ?_ (by assumption)) | dsimp only)

theorem State.endFrame_tidy {pq} {s : State} {n order : ℕ} {v : LaneVerdict} (hs : Tidy pq s) : Tidy pq (State.endFrame s n order v) := by
  unfold State.endFrame
  repeat' (first | with_reducible assumption | (extract_lets +onlyGivenNames zz; first | (refine (fun (hz : Tidy pq zz) => ?_) ?_; (on_goal 1 => (try clear_value zz; rename' zz => zy, hz => hy)); (on_goal 2 => subst zz)) | (refine (fun (hz : ∀ t, Tidy pq t → Tidy pq (zz t)) => ?_) ?_; (on_goal 1 => (try clear_value zz; rename' zz => zy, hz => hf)); (on_goal 2 => (subst zz; intro _ _; beta_reduce))) | (refine (fun (hz : ∀ t, Tidy pq (zz t)) => ?_) ?_; (on_goal 1 => (try clear_value zz; rename' zz => zy, hz => hf)); (on_goal 2 => (subst zz; intro _; beta_reduce))) | (try clear_value zz; rename' zz => zy)) | with_reducible (first | apply State.setLane_tidy | apply State.setLaneFx_tidy | apply State.setFlight_tidy | apply State.peak_tidy | apply State.setF_tidy | apply State.count_tidy | apply State.releasePlain_tidy | apply tidy1_mk | apply tidy2_mk | apply tidyS_none | apply tidyS_some | apply tidyS1_none | apply tidyS2_none) | split | with_reducible (first | apply tidy_ite) | with_reducible (fail_if_no_progress apply tidy_mk) | with_reducible (apply hf) | with_reducible (first | refine of1 ?_ (by assumption) | refine of2 ?_ (by assumption) | refine ofS ?_ (by assumption) | refine ofS1 ?_ (by assumption) | refine ofS2 ?_ (by assumption) | refine ofS3 ?_ (by assumption) | refine of3 ?_ (by assumption)) | dsimp only)

theorem State.hwQuarantine_tidy {pq} {s : State} {n order reason pc : ℕ} (hs : Tidy pq s) : Tidy pq (State.hwQuarantine s n order reason pc) := by
  unfold State.hwQuarantine
  repeat' (first | with_reducible assumption | (extract_lets +onlyGivenNames zz; first | (refine (fun (hz : Tidy pq zz) => ?_) ?_; (on_goal 1 => (try clear_value zz; rename' zz => zy, hz => hy)); (on_goal 2 => subst zz)) | (refine (fun (hz : ∀ t, Tidy pq t → Tidy pq (zz t)) => ?_) ?_; (on_goal 1 => (try clear_value zz; rename' zz => zy, hz => hf)); (on_goal 2 => (subst zz; intro _ _; beta_reduce))) | (refine (fun (hz : ∀ t, Tidy pq (zz t)) => ?_) ?_; (on_goal 1 => (try clear_value zz; rename' zz => zy, hz => hf)); (on_goal 2 => (subst zz; intro _; beta_reduce))) | (try clear_value zz; rename' zz => zy)) | with_reducible (first | apply State.endFrame_tidy | apply State.count_tidy | apply State.irq_tidy | apply State.setF_tidy) | with_reducible (apply hf) | with_reducible (first | refine of1 ?_ (by assumption) | refine of2 ?_ (by assumption) | refine ofS ?_ (by assumption) | refine ofS1 ?_ (by assumption) | refine ofS2 ?_ (by assumption) | refine ofS3 ?_ (by assumption) | refine of3 ?_ (by assumption)) | dsimp only)

theorem State.setMap_tidy {pq} {s : State} {g : ℕ} {e : MapEntry} (hs : Tidy pq s) : Tidy pq (State.setMap s g e) := by
  unfold State.setMap
  repeat' (first | with_reducible assumption | with_reducible (fail_if_no_progress apply tidy_mk))

theorem State.moveDone_tidy {pq} {s : State} {g lane : ℕ} (hs : Tidy pq s) : Tidy pq (State.moveDone s g lane) := by
  unfold State.moveDone
  repeat' (first | with_reducible assumption | with_reducible (first | apply State.irq_tidy | apply State.setMap_tidy))

theorem State.reassign_tidy {pq} {s : State} {n g pick : ℕ} (hs : Tidy pq s) : Tidy pq (State.reassign s n g pick) := by
  unfold State.reassign
  repeat' (first | with_reducible assumption | (extract_lets +onlyGivenNames zz; first | (refine (fun (hz : Tidy pq zz) => ?_) ?_; (on_goal 1 => (try clear_value zz; rename' zz => zy, hz => hy)); (on_goal 2 => subst zz)) | (try clear_value zz; rename' zz => zy)) | with_reducible (first | apply State.setMap_tidy | apply State.moveDone_tidy | apply tidyS_none | apply tidyS_some | apply tidyS1_none | apply tidyS2_none) | split | with_reducible (first | apply tidy_ite) | with_reducible (fail_if_no_progress apply tidy_mk) | with_reducible (first | refine of1 ?_ (by assumption) | refine of2 ?_ (by assumption) | refine ofS ?_ (by assumption) | refine ofS1 ?_ (by assumption) | refine ofS2 ?_ (by assumption) | refine ofS3 ?_ (by assumption) | refine of3 ?_ (by assumption)) | dsimp only)

theorem State.reassignAll_tidy {pq} {s : State} {n : ℕ} {turn : List ℕ} (hs : Tidy pq s) : Tidy pq (State.reassignAll s n turn) := by
  unfold State.reassignAll
  repeat' (first | with_reducible assumption | with_reducible intro _ | with_reducible (first | apply foldl_tidy | apply foldl_tidy1 | apply State.reassign_tidy | apply tidy1_mk | apply tidy2_mk | apply tidy_getD) | with_reducible (apply tidy_fst; first | apply foldl_tidy1) | with_reducible (apply tidy_snd; first | apply foldl_tidy2))

theorem State.markRerun_tidy {pq} {s : State} {l : List ℕ} (hs : Tidy pq s) : Tidy pq (State.markRerun s l) := by
  unfold State.markRerun
  repeat' (first | with_reducible assumption | with_reducible intro _ | with_reducible (first | apply foldl_tidy | apply foldl_tidy1 | apply State.setFlight_tidy | apply tidyS_none | apply tidyS_some | apply tidyS1_none | apply tidyS2_none) | with_reducible (apply tidy_fst; first | apply foldl_tidy1) | with_reducible (apply tidy_snd; first | apply foldl_tidy2) | split | with_reducible (fail_if_no_progress apply tidy_mk) | with_reducible (first | refine of1 ?_ (by assumption) | refine of2 ?_ (by assumption) | refine ofS ?_ (by assumption) | refine ofS1 ?_ (by assumption) | refine ofS2 ?_ (by assumption) | refine ofS3 ?_ (by assumption) | refine of3 ?_ (by assumption)) | dsimp only)

theorem State.fenceLane_tidy {pq} {s : State} {n cause off : ℕ} (hs : Tidy pq s) : Tidy pq (State.fenceLane s n cause off) := by
  unfold State.fenceLane
  repeat' (first | with_reducible assumption | with_reducible intro _ | (extract_lets +onlyGivenNames zz; first | (refine (fun (hz : Tidy pq zz) => ?_) ?_; (on_goal 1 => (try clear_value zz; rename' zz => zy, hz => hy)); (on_goal 2 => subst zz)) | (refine (fun (hz : ∀ t, Tidy pq t → Tidy pq (zz t)) => ?_) ?_; (on_goal 1 => (try clear_value zz; rename' zz => zy, hz => hf)); (on_goal 2 => (subst zz; intro _ _; beta_reduce))) | (refine (fun (hz : ∀ t, Tidy pq (zz t)) => ?_) ?_; (on_goal 1 => (try clear_value zz; rename' zz => zy, hz => hf)); (on_goal 2 => (subst zz; intro _; beta_reduce))) | (try clear_value zz; rename' zz => zy)) | with_reducible (first | apply tidy_ite | apply State.settling_tidy | apply State.setF_tidy | apply State.setLaneState_tidy | apply State.setLaneFx_tidy | apply State.discardAll_tidy | apply State.markRerun_tidy | apply State.reassignAll_tidy | apply State.irq_tidy | apply State.count_tidy | apply State.event_tidy | apply tidy1_mk | apply tidy2_mk | apply map_tidyS | apply map_tidyS_of2 | apply map_tidyS_any | apply tidyS_none | apply tidyS_some | apply tidyS1_none | apply tidyS2_none) | with_reducible (fail_if_no_progress apply tidy_mk) | with_reducible (apply hf) | with_reducible (first | refine of1 ?_ (by assumption) | refine of2 ?_ (by assumption) | refine ofS ?_ (by assumption) | refine ofS1 ?_ (by assumption) | refine ofS2 ?_ (by assumption) | refine ofS3 ?_ (by assumption) | refine of3 ?_ (by assumption)) | dsimp only)

theorem State.leavePlain_tidy {pq} {s : State} {n : ℕ} {l : List ℕ} (hs : Tidy pq s) : Tidy pq (State.leavePlain s n l) := by
  unfold State.leavePlain
  repeat' (first | with_reducible assumption | with_reducible intro _ | (extract_lets +onlyGivenNames zz; first | (refine (fun (hz : Tidy pq zz) => ?_) ?_; (on_goal 1 => (try clear_value zz; rename' zz => zy, hz => hy)); (on_goal 2 => subst zz)) | (refine (fun (hz : ∀ t, Tidy pq t → Tidy pq (zz t)) => ?_) ?_; (on_goal 1 => (try clear_value zz; rename' zz => zy, hz => hf)); (on_goal 2 => (subst zz; intro _ _; beta_reduce))) | (refine (fun (hz : ∀ t, Tidy pq (zz t)) => ?_) ?_; (on_goal 1 => (try clear_value zz; rename' zz => zy, hz => hf)); (on_goal 2 => (subst zz; intro _; beta_reduce))) | (try clear_value zz; rename' zz => zy)) | with_reducible (first | apply State.setQueue_tidy | apply tidy1_mk | apply tidy2_mk | apply tidyS_none | apply tidyS_some | apply tidyS1_none | apply tidyS2_none) | split | with_reducible (first | apply tidy_ite) | with_reducible (fail_if_no_progress apply tidy_mk) | with_reducible (apply hf) | with_reducible (first | refine of1 ?_ (by assumption) | refine of2 ?_ (by assumption) | refine ofS ?_ (by assumption) | refine ofS1 ?_ (by assumption) | refine ofS2 ?_ (by assumption) | refine ofS3 ?_ (by assumption) | refine of3 ?_ (by assumption)) | dsimp only)

theorem State.squashFrom_tidy {pq} {s : State} {n order : ℕ} {self : Bool} (hs : Tidy pq s) : Tidy pq (State.squashFrom s n order self) := by
  unfold State.squashFrom
  repeat' (first | with_reducible assumption | with_reducible intro _ | (extract_lets +onlyGivenNames zz; first | (refine (fun (hz : Tidy pq zz) => ?_) ?_; (on_goal 1 => (try clear_value zz; rename' zz => zy, hz => hy)); (on_goal 2 => subst zz)) | (refine (fun (hz : ∀ t, Tidy pq t → Tidy pq (zz t)) => ?_) ?_; (on_goal 1 => (try clear_value zz; rename' zz => zy, hz => hf)); (on_goal 2 => (subst zz; intro _ _; beta_reduce))) | (refine (fun (hz : ∀ t, Tidy pq (zz t)) => ?_) ?_; (on_goal 1 => (try clear_value zz; rename' zz => zy, hz => hf)); (on_goal 2 => (subst zz; intro _; beta_reduce))) | (try clear_value zz; rename' zz => zy)) | with_reducible (first | apply foldl_tidy | apply foldl_tidy1 | apply State.markRerun_tidy | apply State.leavePlain_tidy | apply State.setLaneFx_tidy | apply tidy1_mk | apply tidy2_mk | apply tidyS_none | apply tidyS_some | apply tidyS1_none | apply tidyS2_none) | with_reducible (apply tidy_fst; first | apply foldl_tidy1) | with_reducible (apply tidy_snd; first | apply foldl_tidy2) | split | with_reducible (first | apply tidy_ite) | with_reducible (fail_if_no_progress apply tidy_mk) | with_reducible (apply hf) | with_reducible (first | refine of1 ?_ (by assumption) | refine of2 ?_ (by assumption) | refine ofS ?_ (by assumption) | refine ofS1 ?_ (by assumption) | refine ofS2 ?_ (by assumption) | refine ofS3 ?_ (by assumption) | refine of3 ?_ (by assumption)) | dsimp only)


/-! ## Records -/

theorem State.setRec_tidy {pq} {s : State} {m off n v : ℕ} (hs : Tidy pq s) : Tidy pq (State.setRec s m off n v) := by
  unfold State.setRec
  repeat' (first | with_reducible assumption | with_reducible (first | apply State.writeNat_tidy))

theorem State.billReport_tidy {pq} {s : State} {kind b1 meter order : ℕ} {data : Bytes} (hs : Tidy pq s) : Tidy pq (State.billReport s kind b1 meter order data) := by
  unfold State.billReport
  repeat' (first | with_reducible assumption | (extract_lets +onlyGivenNames zz; first | (refine (fun (hz : Tidy pq zz) => ?_) ?_; (on_goal 1 => (try clear_value zz; rename' zz => zy, hz => hy)); (on_goal 2 => subst zz)) | (try clear_value zz; rename' zz => zy)) | with_reducible (first | apply tidy_ite | apply State.enq_tidy | apply State.irq_tidy | apply State.count_tidy | apply tidy1_mk | apply tidy2_mk) | with_reducible (first | refine of1 ?_ (by assumption) | refine of2 ?_ (by assumption) | refine ofS ?_ (by assumption) | refine ofS1 ?_ (by assumption) | refine ofS2 ?_ (by assumption) | refine ofS3 ?_ (by assumption) | refine of3 ?_ (by assumption)) | dsimp only)

theorem State.tamperSet1_tidy {pq} {s : State} {m c time : ℕ} {inferred : Bool} (hs : Tidy pq s) : Tidy pq (State.tamperSet1 s m c time inferred) := by
  unfold State.tamperSet1
  repeat' (first | with_reducible assumption | (extract_lets +onlyGivenNames zz; first | (refine (fun (hz : Tidy pq zz) => ?_) ?_; (on_goal 1 => (try clear_value zz; rename' zz => zy, hz => hy)); (on_goal 2 => subst zz)) | (try clear_value zz; rename' zz => zy)) | with_reducible (first | apply State.setRec_tidy | apply State.irq_tidy) | split | with_reducible (first | apply tidy_ite) | with_reducible (first | refine of1 ?_ (by assumption) | refine of2 ?_ (by assumption) | refine ofS ?_ (by assumption) | refine ofS1 ?_ (by assumption) | refine ofS2 ?_ (by assumption) | refine ofS3 ?_ (by assumption) | refine of3 ?_ (by assumption)) | dsimp only)

theorem State.tamperSet_tidy {pq} {s : State} {m mask time order : ℕ} {inferred : Bool} (hs : Tidy pq s) : Tidy pq (State.tamperSet s m mask time order inferred) := by
  unfold State.tamperSet
  repeat' (first | with_reducible assumption | with_reducible intro _ | (extract_lets +onlyGivenNames zz; first | (refine (fun (hz : Tidy pq zz) => ?_) ?_; (on_goal 1 => (try clear_value zz; rename' zz => zy, hz => hy)); (on_goal 2 => subst zz)) | (try clear_value zz; rename' zz => zy)) | with_reducible (first | apply tidy_ite | apply foldl_tidy | apply foldl_tidy1 | apply State.tamperSet1_tidy | apply State.billReport_tidy) | with_reducible (apply tidy_fst; first | apply foldl_tidy1) | with_reducible (apply tidy_snd; first | apply foldl_tidy2) | with_reducible (first | refine of1 ?_ (by assumption) | refine of2 ?_ (by assumption) | refine ofS ?_ (by assumption) | refine ofS1 ?_ (by assumption) | refine ofS2 ?_ (by assumption) | refine ofS3 ?_ (by assumption) | refine of3 ?_ (by assumption)) | dsimp only)

theorem State.tamperClear1_tidy {pq} {s : State} {m c time : ℕ} (hs : Tidy pq s) : Tidy pq (State.tamperClear1 s m c time) := by
  unfold State.tamperClear1
  repeat' (first | with_reducible assumption | (extract_lets +onlyGivenNames zz; first | (refine (fun (hz : Tidy pq zz) => ?_) ?_; (on_goal 1 => (try clear_value zz; rename' zz => zy, hz => hy)); (on_goal 2 => subst zz)) | (try clear_value zz; rename' zz => zy)) | with_reducible (first | apply tidy_ite | apply State.setRec_tidy) | with_reducible (first | refine of1 ?_ (by assumption) | refine of2 ?_ (by assumption) | refine ofS ?_ (by assumption) | refine ofS1 ?_ (by assumption) | refine ofS2 ?_ (by assumption) | refine ofS3 ?_ (by assumption) | refine of3 ?_ (by assumption)) | dsimp only)

theorem State.tamperEnd_tidy {pq} {s : State} {m mask time order : ℕ} (hs : Tidy pq s) : Tidy pq (State.tamperEnd s m mask time order) := by
  unfold State.tamperEnd
  repeat' (first | with_reducible assumption | with_reducible intro _ | (extract_lets +onlyGivenNames zz; first | (refine (fun (hz : Tidy pq zz) => ?_) ?_; (on_goal 1 => (try clear_value zz; rename' zz => zy, hz => hy)); (on_goal 2 => subst zz)) | (try clear_value zz; rename' zz => zy)) | with_reducible (first | apply tidy_ite | apply foldl_tidy | apply foldl_tidy1 | apply State.count_tidy | apply State.tamperClear1_tidy | apply State.billReport_tidy) | with_reducible (apply tidy_fst; first | apply foldl_tidy1) | with_reducible (apply tidy_snd; first | apply foldl_tidy2) | with_reducible (first | refine of1 ?_ (by assumption) | refine of2 ?_ (by assumption) | refine ofS ?_ (by assumption) | refine ofS1 ?_ (by assumption) | refine ofS2 ?_ (by assumption) | refine ofS3 ?_ (by assumption) | refine of3 ?_ (by assumption)) | dsimp only)

theorem State.bypassHandOver_tidy {pq} {s : State} {m order : ℕ} {set : Bool} (hs : Tidy pq s) : Tidy pq (State.bypassHandOver s m order set) := by
  unfold State.bypassHandOver
  repeat' (first | with_reducible assumption | (extract_lets +onlyGivenNames zz; first | (refine (fun (hz : Tidy pq zz) => ?_) ?_; (on_goal 1 => (try clear_value zz; rename' zz => zy, hz => hy)); (on_goal 2 => subst zz)) | (try clear_value zz; rename' zz => zy)) | with_reducible (first | apply tidy_ite | apply State.tamperSet_tidy | apply State.count_tidy | apply State.tamperClear1_tidy | apply State.billReport_tidy) | with_reducible (first | refine of1 ?_ (by assumption) | refine of2 ?_ (by assumption) | refine ofS ?_ (by assumption) | refine ofS1 ?_ (by assumption) | refine ofS2 ?_ (by assumption) | refine ofS3 ?_ (by assumption) | refine of3 ?_ (by assumption)) | dsimp only)


/-! ## BalOps -/

theorem State.setNode_tidy {pq} {s : State} {n off k v : ℕ} (hs : Tidy pq s) : Tidy pq (State.setNode s n off k v) := by
  unfold State.setNode
  repeat' (first | with_reducible assumption | with_reducible (first | apply State.writeNat_tidy))

theorem State.setSlot_tidy {pq} {s : State} {n j off k v : ℕ} (hs : Tidy pq s) : Tidy pq (State.setSlot s n j off k v) := by
  unfold State.setSlot
  repeat' (first | with_reducible assumption | with_reducible (first | apply State.writeNat_tidy))

theorem State.accAdd_tidy {pq} {s : State} {a v : ℕ} (hs : Tidy pq s) : Tidy pq (State.accAdd s a v) := by
  unfold State.accAdd
  repeat' (first | with_reducible assumption | (extract_lets +onlyGivenNames zz; first | (refine (fun (hz : Tidy pq zz) => ?_) ?_; (on_goal 1 => (try clear_value zz; rename' zz => zy, hz => hy)); (on_goal 2 => subst zz)) | (refine (fun (hz : ∀ t, Tidy pq t → Tidy pq (zz t)) => ?_) ?_; (on_goal 1 => (try clear_value zz; rename' zz => zy, hz => hf)); (on_goal 2 => (subst zz; intro _ _; beta_reduce))) | (refine (fun (hz : ∀ t, Tidy pq (zz t)) => ?_) ?_; (on_goal 1 => (try clear_value zz; rename' zz => zy, hz => hf)); (on_goal 2 => (subst zz; intro _; beta_reduce))) | (try clear_value zz; rename' zz => zy)) | with_reducible (first | apply State.writeNat_tidy) | with_reducible (fail_if_no_progress apply tidy_mk) | with_reducible (apply hf) | with_reducible (first | refine of1 ?_ (by assumption) | refine of2 ?_ (by assumption) | refine ofS ?_ (by assumption) | refine ofS1 ?_ (by assumption) | refine ofS2 ?_ (by assumption) | refine ofS3 ?_ (by assumption) | refine of3 ?_ (by assumption)) | dsimp only)

theorem State.clearSlots_tidy {pq} {s : State} {j : ℕ} (hs : Tidy pq s) : Tidy pq (State.clearSlots s j) := by
  exact ⟨hs.pending, sparseWf_filter _ hs.mem, hs.regs, hs.eff, hs.queues⟩

theorem State.openSlot_tidy {pq} {s : State} {n j : ℕ} (hs : Tidy pq s) : Tidy pq (State.openSlot s n j) := by
  unfold State.openSlot
  repeat' (first | with_reducible assumption | with_reducible (first | apply tidy_ite | apply State.setSlot_tidy))

theorem State.markRev_tidy {pq} {s : State} {n j : ℕ} (hs : Tidy pq s) : Tidy pq (State.markRev s n j) := by
  unfold State.markRev
  repeat' (first | with_reducible assumption | with_reducible (first | apply State.setNode_tidy) | split | with_reducible (first | refine of1 ?_ (by assumption) | refine of2 ?_ (by assumption) | refine ofS ?_ (by assumption) | refine ofS1 ?_ (by assumption) | refine ofS2 ?_ (by assumption) | refine ofS3 ?_ (by assumption) | refine of3 ?_ (by assumption)) | dsimp only)

theorem State.balDataErr_tidy {pq} {s : State} {n : ℕ} (hs : Tidy pq s) : Tidy pq (State.balDataErr s n) := by
  unfold State.balDataErr
  repeat' (first | with_reducible assumption | with_reducible (first | apply State.event_tidy | apply State.count_tidy))

theorem State.balFlush_tidy {pq} {s : State} (hs : Tidy pq s) : Tidy pq (State.balFlush s) := by
  unfold State.balFlush
  repeat' (first | with_reducible assumption | with_reducible intro _ | (extract_lets +onlyGivenNames zz; first | (refine (fun (hz : Tidy pq zz) => ?_) ?_; (on_goal 1 => (try clear_value zz; rename' zz => zy, hz => hy)); (on_goal 2 => subst zz)) | (refine (fun (hz : ∀ t, Tidy pq t → Tidy pq (zz t)) => ?_) ?_; (on_goal 1 => (try clear_value zz; rename' zz => zy, hz => hf)); (on_goal 2 => (subst zz; intro _ _; beta_reduce))) | (refine (fun (hz : ∀ t, Tidy pq (zz t)) => ?_) ?_; (on_goal 1 => (try clear_value zz; rename' zz => zy, hz => hf)); (on_goal 2 => (subst zz; intro _; beta_reduce))) | (try clear_value zz; rename' zz => zy)) | with_reducible (first | apply tidy_ite | apply foldl_tidy | apply foldl_tidy1 | apply State.enq_tidy | apply State.setF_tidy | apply State.irq_tidy) | with_reducible (apply tidy_fst; first | apply foldl_tidy1) | with_reducible (apply tidy_snd; first | apply foldl_tidy2) | with_reducible (fail_if_no_progress apply tidy_mk) | with_reducible (apply hf) | with_reducible (first | refine of1 ?_ (by assumption) | refine of2 ?_ (by assumption) | refine ofS ?_ (by assumption) | refine ofS1 ?_ (by assumption) | refine ofS2 ?_ (by assumption) | refine ofS3 ?_ (by assumption) | refine of3 ?_ (by assumption)) | dsimp only)

theorem State.balReport_tidy {pq} {s : State} {b : Bytes} (hs : Tidy pq s) : Tidy pq (State.balReport s b) := by
  unfold State.balReport
  repeat' (first | with_reducible assumption | with_reducible (first | apply State.balFlush_tidy) | with_reducible (fail_if_no_progress apply tidy_mk))

theorem State.noteVerdict_tidy {pq} {s : State} {n v : ℕ} (hs : Tidy pq s) : Tidy pq (State.noteVerdict s n v) := by
  unfold State.noteVerdict
  repeat' (first | with_reducible assumption | with_reducible (first | apply tidy_ite | apply State.event_tidy | apply State.irq_tidy))

theorem State.reviseOne_tidy {pq} {s : State} {replayed : Bool} {n b : ℕ} (hs : Tidy pq s) : Tidy pq (State.reviseOne s replayed n b) := by
  unfold State.reviseOne
  repeat' (first | with_reducible assumption | (extract_lets +onlyGivenNames zz; first | (refine (fun (hz : Tidy pq zz) => ?_) ?_; (on_goal 1 => (try clear_value zz; rename' zz => zy, hz => hy)); (on_goal 2 => subst zz)) | (refine (fun (hz : ∀ t, Tidy pq t → Tidy pq (zz t)) => ?_) ?_; (on_goal 1 => (try clear_value zz; rename' zz => zy, hz => hf)); (on_goal 2 => (subst zz; intro _ _; beta_reduce))) | (refine (fun (hz : ∀ t, Tidy pq (zz t)) => ?_) ?_; (on_goal 1 => (try clear_value zz; rename' zz => zy, hz => hf)); (on_goal 2 => (subst zz; intro _; beta_reduce))) | (try clear_value zz; rename' zz => zy)) | with_reducible (first | apply State.setNode_tidy | apply State.setSlot_tidy | apply State.noteVerdict_tidy | apply State.irq_tidy | apply State.count_tidy | apply State.balReport_tidy) | with_reducible (apply hf) | with_reducible (first | refine of1 ?_ (by assumption) | refine of2 ?_ (by assumption) | refine ofS ?_ (by assumption) | refine ofS1 ?_ (by assumption) | refine ofS2 ?_ (by assumption) | refine ofS3 ?_ (by assumption) | refine of3 ?_ (by assumption)) | dsimp only)

theorem State.reviseNode_tidy {pq} {s : State} {replayed : Bool} {n : ℕ} (hs : Tidy pq s) : Tidy pq (State.reviseNode s replayed n) := by
  unfold State.reviseNode
  repeat' (first | with_reducible assumption | with_reducible intro _ | (extract_lets +onlyGivenNames zz; first | (refine (fun (hz : Tidy pq zz) => ?_) ?_; (on_goal 1 => (try clear_value zz; rename' zz => zy, hz => hy)); (on_goal 2 => subst zz)) | (try clear_value zz; rename' zz => zy)) | with_reducible (first | apply foldl_tidy | apply foldl_tidy1 | apply State.reviseOne_tidy) | with_reducible (apply tidy_fst; first | apply foldl_tidy1) | with_reducible (apply tidy_snd; first | apply foldl_tidy2) | with_reducible (first | refine of1 ?_ (by assumption) | refine of2 ?_ (by assumption) | refine ofS ?_ (by assumption) | refine ofS1 ?_ (by assumption) | refine ofS2 ?_ (by assumption) | refine ofS3 ?_ (by assumption) | refine of3 ?_ (by assumption)) | dsimp only)

theorem State.closeNode_tidy {pq} {s : State} {w : BalSweep} {n : ℕ} {d : Bytes} (hs : Tidy pq s) : Tidy pq (State.closeNode s w n d) := by
  unfold State.closeNode
  repeat' (first | with_reducible assumption | (extract_lets +onlyGivenNames zz; first | (refine (fun (hz : Tidy pq zz) => ?_) ?_; (on_goal 1 => (try clear_value zz; rename' zz => zy, hz => hy)); (on_goal 2 => subst zz)) | (refine (fun (hz : ∀ t, Tidy pq t → Tidy pq (zz t)) => ?_) ?_; (on_goal 1 => (try clear_value zz; rename' zz => zy, hz => hf)); (on_goal 2 => (subst zz; intro _ _; beta_reduce))) | (refine (fun (hz : ∀ t, Tidy pq (zz t)) => ?_) ?_; (on_goal 1 => (try clear_value zz; rename' zz => zy, hz => hf)); (on_goal 2 => (subst zz; intro _; beta_reduce))) | (try clear_value zz; rename' zz => zy)) | with_reducible (first | apply tidy_ite | apply State.openSlot_tidy | apply State.setSlot_tidy | apply State.setNode_tidy | apply State.noteVerdict_tidy | apply State.balReport_tidy | apply State.reviseNode_tidy) | with_reducible (apply hf) | with_reducible (first | refine of1 ?_ (by assumption) | refine of2 ?_ (by assumption) | refine ofS ?_ (by assumption) | refine ofS1 ?_ (by assumption) | refine ofS2 ?_ (by assumption) | refine ofS3 ?_ (by assumption) | refine of3 ?_ (by assumption)) | dsimp only)

theorem State.closeEarly_tidy {pq} {s : State} {n : ℕ} (hs : Tidy pq s) : Tidy pq (State.closeEarly s n) := by
  unfold State.closeEarly
  repeat' (first | with_reducible assumption | with_reducible intro _ | (extract_lets +onlyGivenNames zz; first | (refine (fun (hz : Tidy pq zz) => ?_) ?_; (on_goal 1 => (try clear_value zz; rename' zz => zy, hz => hy)); (on_goal 2 => subst zz)) | (try clear_value zz; rename' zz => zy)) | with_reducible (first | apply tidy_ite | apply tidyS_ite | apply foldl_tidy | apply foldl_tidy1 | apply State.closeNode_tidy | apply tidy1_mk | apply tidy2_mk | apply map_tidyS | apply map_tidyS_of2 | apply map_tidyS_any | apply tidy_getD) | with_reducible (apply tidy_fst; first | apply foldl_tidy1) | with_reducible (apply tidy_snd; first | apply foldl_tidy2) | with_reducible (fail_if_no_progress apply tidy_mk) | with_reducible (first | refine of1 ?_ (by assumption) | refine of2 ?_ (by assumption) | refine ofS ?_ (by assumption) | refine ofS1 ?_ (by assumption) | refine ofS2 ?_ (by assumption) | refine ofS3 ?_ (by assumption) | refine of3 ?_ (by assumption)) | dsimp only)

theorem State.setAudit_tidy {pq} {s : State} {m hi lo v : ℕ} (hs : Tidy pq s) : Tidy pq (State.setAudit s m hi lo v) := by
  unfold State.setAudit
  repeat' (first | with_reducible assumption | with_reducible (first | apply State.setRec_tidy))

theorem State.auditJudge_tidy {pq} {s : State} {m : ℕ} {sx sy sxx syy sxy : ℤ} (hs : Tidy pq s) : Tidy pq (State.auditJudge s m sx sy sxx syy sxy) := by
  unfold State.auditJudge
  repeat' (first | with_reducible assumption | (extract_lets +onlyGivenNames zz; first | (refine (fun (hz : Tidy pq zz) => ?_) ?_; (on_goal 1 => (try clear_value zz; rename' zz => zy, hz => hy)); (on_goal 2 => subst zz)) | (try clear_value zz; rename' zz => zy)) | with_reducible (first | apply tidy_ite | apply State.setAudit_tidy | apply State.setRec_tidy) | with_reducible (first | refine of1 ?_ (by assumption) | refine of2 ?_ (by assumption) | refine ofS ?_ (by assumption) | refine ofS1 ?_ (by assumption) | refine ofS2 ?_ (by assumption) | refine ofS3 ?_ (by assumption) | refine of3 ?_ (by assumption)) | dsimp only)

theorem State.auditMark_tidy {pq} {s : State} {m k node : ℕ} (hs : Tidy pq s) : Tidy pq (State.auditMark s m k node) := by
  unfold State.auditMark
  repeat' (first | with_reducible assumption | (extract_lets +onlyGivenNames zz; first | (refine (fun (hz : Tidy pq zz) => ?_) ?_; (on_goal 1 => (try clear_value zz; rename' zz => zy, hz => hy)); (on_goal 2 => subst zz)) | (try clear_value zz; rename' zz => zy)) | with_reducible (first | apply tidy_ite | apply State.count_tidy | apply State.setAudit_tidy | apply State.balReport_tidy | apply State.irq_tidy | apply State.setF_tidy) | with_reducible (first | refine of1 ?_ (by assumption) | refine of2 ?_ (by assumption) | refine ofS ?_ (by assumption) | refine ofS1 ?_ (by assumption) | refine ofS2 ?_ (by assumption) | refine ofS3 ?_ (by assumption) | refine of3 ?_ (by assumption)) | dsimp only)

theorem State.auditMeter_tidy {pq} {s : State} {m k node nom : ℕ} (hs : Tidy pq s) : Tidy pq (State.auditMeter s m k node nom) := by
  unfold State.auditMeter
  repeat' (first | with_reducible assumption | with_reducible intro _ | (extract_lets +onlyGivenNames zz; first | (refine (fun (hz : Tidy pq zz) => ?_) ?_; (on_goal 1 => (try clear_value zz; rename' zz => zy, hz => hy)); (on_goal 2 => subst zz)) | (refine (fun (hz : ∀ t, Tidy pq t → Tidy pq (zz t)) => ?_) ?_; (on_goal 1 => (try clear_value zz; rename' zz => zy, hz => hf)); (on_goal 2 => (subst zz; intro _ _; beta_reduce))) | (refine (fun (hz : ∀ t, Tidy pq (zz t)) => ?_) ?_; (on_goal 1 => (try clear_value zz; rename' zz => zy, hz => hf)); (on_goal 2 => (subst zz; intro _; beta_reduce))) | (try clear_value zz; rename' zz => zy)) | with_reducible (first | apply tidy_ite | apply tidy1_ite | apply tidy2_ite | apply foldl_tidy | apply foldl_tidy1 | apply State.setRec_tidy | apply State.setAudit_tidy | apply State.auditJudge_tidy | apply State.auditMark_tidy | apply tidy1_mk | apply tidy2_mk) | with_reducible (apply tidy_fst; first | apply foldl_tidy1 | apply tidy1_ite) | with_reducible (apply tidy_snd; first | apply foldl_tidy2 | apply tidy2_ite) | with_reducible (apply hf) | with_reducible (first | refine of1 ?_ (by assumption) | refine of2 ?_ (by assumption) | refine ofS ?_ (by assumption) | refine ofS1 ?_ (by assumption) | refine ofS2 ?_ (by assumption) | refine ofS3 ?_ (by assumption) | refine of3 ?_ (by assumption)) | dsimp only)

theorem State.setBypass_tidy {pq} {s : State} {m k order node : ℕ} {on : Bool} (hs : Tidy pq s) : Tidy pq (State.setBypass s m k order node on) := by
  unfold State.setBypass
  repeat' (first | with_reducible assumption | (extract_lets +onlyGivenNames zz; first | (refine (fun (hz : Tidy pq zz) => ?_) ?_; (on_goal 1 => (try clear_value zz; rename' zz => zy, hz => hy)); (on_goal 2 => subst zz)) | (try clear_value zz; rename' zz => zy)) | with_reducible (first | apply tidy_ite | apply State.setAudit_tidy | apply State.irq_tidy | apply State.count_tidy | apply State.setF_tidy | apply State.balReport_tidy | apply State.bypassHandOver_tidy | apply tidy1_mk | apply tidy2_mk) | with_reducible (first | refine of1 ?_ (by assumption) | refine of2 ?_ (by assumption) | refine ofS ?_ (by assumption) | refine ofS1 ?_ (by assumption) | refine ofS2 ?_ (by assumption) | refine ofS3 ?_ (by assumption) | refine of3 ?_ (by assumption)) | dsimp only)

theorem State.scoreMeter_tidy {pq} {s : State} {m k order node verdict : ℕ} (hs : Tidy pq s) : Tidy pq (State.scoreMeter s m k order node verdict) := by
  unfold State.scoreMeter
  repeat' (first | with_reducible assumption | (extract_lets +onlyGivenNames zz; first | (refine (fun (hz : Tidy pq zz) => ?_) ?_; (on_goal 1 => (try clear_value zz; rename' zz => zy, hz => hy)); (on_goal 2 => subst zz)) | (try clear_value zz; rename' zz => zy)) | with_reducible (first | apply tidy_ite | apply State.setAudit_tidy | apply State.setBypass_tidy) | with_reducible (first | refine of1 ?_ (by assumption) | refine of2 ?_ (by assumption) | refine ofS ?_ (by assumption) | refine ofS1 ?_ (by assumption) | refine ofS2 ?_ (by assumption) | refine ofS3 ?_ (by assumption) | refine of3 ?_ (by assumption)) | dsimp only)

theorem State.meterPass1_tidy {pq} {s : State} {w : BalSweep} {m : ℕ} (hs : Tidy pq s) : Tidy pq (State.meterPass1 s w m) := by
  unfold State.meterPass1
  repeat' (first | with_reducible assumption | (extract_lets +onlyGivenNames zz; first | (refine (fun (hz : Tidy pq zz) => ?_) ?_; (on_goal 1 => (try clear_value zz; rename' zz => zy, hz => hy)); (on_goal 2 => subst zz)) | (try clear_value zz; rename' zz => zy)) | with_reducible (first | apply State.scoreMeter_tidy | apply State.auditMeter_tidy | apply tidy1_mk | apply tidy2_mk | apply tidyS_none | apply tidyS_some | apply tidyS1_none | apply tidyS2_none) | with_reducible (apply tidy_fst; first | apply tidy1_ite) | with_reducible (apply tidy_snd; first | apply tidy2_ite) | split | with_reducible (first | apply tidy_ite | apply tidy1_ite | apply tidy2_ite) | with_reducible (fail_if_no_progress apply tidy_mk) | with_reducible (first | refine of1 ?_ (by assumption) | refine of2 ?_ (by assumption) | refine ofS ?_ (by assumption) | refine ofS1 ?_ (by assumption) | refine ofS2 ?_ (by assumption) | refine ofS3 ?_ (by assumption) | refine of3 ?_ (by assumption)) | dsimp only)

theorem State.balEarly_tidy {pq} {s : State} {m : ℕ} (hs : Tidy pq s) : Tidy pq (State.balEarly s m) := by
  unfold State.balEarly
  repeat' (first | with_reducible assumption | with_reducible intro _ | (extract_lets +onlyGivenNames zz; first | (refine (fun (hz : Tidy pq zz) => ?_) ?_; (on_goal 1 => (try clear_value zz; rename' zz => zy, hz => hy)); (on_goal 2 => subst zz)) | (try clear_value zz; rename' zz => zy)) | with_reducible (first | apply foldl_tidy | apply foldl_tidy1 | apply State.meterPass1_tidy | apply map_tidyS | apply map_tidyS_of2 | apply map_tidyS_any) | with_reducible (apply tidy_fst; first | apply foldl_tidy1) | with_reducible (apply tidy_snd; first | apply foldl_tidy2) | split | with_reducible (first | apply tidy_ite) | with_reducible (fail_if_no_progress apply tidy_mk) | with_reducible (first | refine of1 ?_ (by assumption) | refine of2 ?_ (by assumption) | refine ofS ?_ (by assumption) | refine ofS1 ?_ (by assumption) | refine ofS2 ?_ (by assumption) | refine ofS3 ?_ (by assumption) | refine of3 ?_ (by assumption)) | dsimp only)

theorem State.recCount_tidy {pq} {s : State} {m off : ℕ} (hs : Tidy pq s) : Tidy pq (State.recCount s m off) := by
  unfold State.recCount
  repeat' (first | with_reducible assumption | with_reducible (first | apply State.setRec_tidy))

theorem State.raiseIvl_tidy {pq} {s : State} {m j : ℕ} (hs : Tidy pq s) : Tidy pq (State.raiseIvl s m j) := by
  unfold State.raiseIvl
  repeat' (first | with_reducible assumption | with_reducible intro _ | (extract_lets +onlyGivenNames zz; first | (refine (fun (hz : Tidy pq zz) => ?_) ?_; (on_goal 1 => (try clear_value zz; rename' zz => zy, hz => hy)); (on_goal 2 => subst zz)) | (refine (fun (hz : ∀ t, Tidy pq t → Tidy pq (zz t)) => ?_) ?_; (on_goal 1 => (try clear_value zz; rename' zz => zy, hz => hf)); (on_goal 2 => (subst zz; intro _ _; beta_reduce))) | (refine (fun (hz : ∀ t, Tidy pq (zz t)) => ?_) ?_; (on_goal 1 => (try clear_value zz; rename' zz => zy, hz => hf)); (on_goal 2 => (subst zz; intro _; beta_reduce))) | (try clear_value zz; rename' zz => zy)) | with_reducible (first | apply tidy_ite | apply foldl_tidy | apply foldl_tidy1 | apply State.setRec_tidy | apply map_tidyS | apply map_tidyS_of2 | apply map_tidyS_any) | with_reducible (apply tidy_fst; first | apply foldl_tidy1) | with_reducible (apply tidy_snd; first | apply foldl_tidy2) | with_reducible (apply hf) | with_reducible (first | refine of1 ?_ (by assumption) | refine of2 ?_ (by assumption) | refine ofS ?_ (by assumption) | refine ofS1 ?_ (by assumption) | refine ofS2 ?_ (by assumption) | refine ofS3 ?_ (by assumption) | refine of3 ?_ (by assumption)) | dsimp only)

theorem State.slotCount_tidy {pq} {s : State} {n j off hi lo : ℕ} (hs : Tidy pq s) : Tidy pq (State.slotCount s n j off hi lo) := by
  unfold State.slotCount
  repeat' (first | with_reducible assumption | (extract_lets +onlyGivenNames zz; first | (refine (fun (hz : Tidy pq zz) => ?_) ?_; (on_goal 1 => (try clear_value zz; rename' zz => zy, hz => hy)); (on_goal 2 => subst zz)) | (try clear_value zz; rename' zz => zy)) | with_reducible (first | apply State.setSlot_tidy) | with_reducible (first | refine of1 ?_ (by assumption) | refine of2 ?_ (by assumption) | refine ofS ?_ (by assumption) | refine ofS1 ?_ (by assumption) | refine ofS2 ?_ (by assumption) | refine ofS3 ?_ (by assumption) | refine of3 ?_ (by assumption)) | dsimp only)

theorem State.firstPost_tidy {pq} {s : State} {m j node role : ℕ} {nodeOk : Bool} {parent : Option ℕ} {onTime : Bool} (hs : Tidy pq s) : Tidy pq (State.firstPost s m j node role nodeOk parent onTime) := by
  unfold State.firstPost
  repeat' (first | with_reducible assumption | (extract_lets +onlyGivenNames zz; first | (refine (fun (hz : Tidy pq zz) => ?_) ?_; (on_goal 1 => (try clear_value zz; rename' zz => zy, hz => hy)); (on_goal 2 => subst zz)) | (try clear_value zz; rename' zz => zy)) | with_reducible (first | apply State.setRec_tidy | apply State.slotCount_tidy | apply State.setSlot_tidy | apply tidyS_none | apply tidyS_some | apply tidyS1_none | apply tidyS2_none) | split | with_reducible (first | apply tidy_ite) | with_reducible (fail_if_no_progress apply tidy_mk) | with_reducible (first | refine of1 ?_ (by assumption) | refine of2 ?_ (by assumption) | refine ofS ?_ (by assumption) | refine ofS1 ?_ (by assumption) | refine ofS2 ?_ (by assumption) | refine ofS3 ?_ (by assumption) | refine of3 ?_ (by assumption)) | dsimp only)

theorem State.baseline_tidy {pq} {s : State} {m j node imp : ℕ} (hs : Tidy pq s) : Tidy pq (State.baseline s m j node imp) := by
  unfold State.baseline
  repeat' (first | with_reducible assumption | (extract_lets +onlyGivenNames zz; first | (refine (fun (hz : Tidy pq zz) => ?_) ?_; (on_goal 1 => (try clear_value zz; rename' zz => zy, hz => hy)); (on_goal 2 => subst zz)) | (try clear_value zz; rename' zz => zy)) | with_reducible (first | apply tidy_ite | apply State.setRec_tidy) | with_reducible (first | refine of1 ?_ (by assumption) | refine of2 ?_ (by assumption) | refine ofS ?_ (by assumption) | refine ofS1 ?_ (by assumption) | refine ofS2 ?_ (by assumption) | refine ofS3 ?_ (by assumption) | refine of3 ?_ (by assumption)) | dsimp only)

theorem State.slotOpen_tidy {pq} {s : State} {n j : ℕ} (hs : Tidy pq s) : Tidy2 pq (State.slotOpen s n j) := by
  unfold State.slotOpen
  repeat' (first | with_reducible assumption | with_reducible (first | apply tidy_ite | apply tidy1_ite | apply tidy2_ite | apply State.balDataErr_tidy | apply State.openSlot_tidy | apply tidy1_mk | apply tidy2_mk) | with_reducible (apply tidy_fst; first | apply tidy1_ite) | with_reducible (apply tidy_snd; first | apply tidy2_ite))

theorem State.addEnergy_tidy {pq} {s : State} {j sub value base node role : ℕ} {nodeOk : Bool} {parent : Option ℕ} (hs : Tidy pq s) : Tidy pq (State.addEnergy s j sub value base node role nodeOk parent) := by
  unfold State.addEnergy
  repeat' (first | with_reducible assumption | (extract_lets +onlyGivenNames zz; first | (refine (fun (hz : Tidy pq zz) => ?_) ?_; (on_goal 1 => (try clear_value zz; rename' zz => zy, hz => hy)); (on_goal 2 => subst zz)) | (try clear_value zz; rename' zz => zy)) | with_reducible (first | apply State.accAdd_tidy | apply tidyS_none | apply tidyS_some | apply tidyS1_none | apply tidyS2_none) | split | with_reducible (first | apply tidy_ite) | with_reducible (fail_if_no_progress apply tidy_mk) | with_reducible (first | refine of1 ?_ (by assumption) | refine of2 ?_ (by assumption) | refine ofS ?_ (by assumption) | refine ofS1 ?_ (by assumption) | refine ofS2 ?_ (by assumption) | refine ofS3 ?_ (by assumption) | refine of3 ?_ (by assumption)) | dsimp only)

theorem State.addVoltage_tidy {pq} {s : State} {m j value node role : ℕ} {nodeOk : Bool} (hs : Tidy pq s) : Tidy pq (State.addVoltage s m j value node role nodeOk) := by
  unfold State.addVoltage
  repeat' (first | with_reducible assumption | (extract_lets +onlyGivenNames zz; first | (refine (fun (hz : Tidy pq zz) => ?_) ?_; (on_goal 1 => (try clear_value zz; rename' zz => zy, hz => hy)); (on_goal 2 => subst zz)) | (try clear_value zz; rename' zz => zy)) | with_reducible (first | apply tidy_ite | apply State.setRec_tidy | apply State.setSlot_tidy) | with_reducible (first | refine of1 ?_ (by assumption) | refine of2 ?_ (by assumption) | refine ofS ?_ (by assumption) | refine ofS1 ?_ (by assumption) | refine ofS2 ?_ (by assumption) | refine ofS3 ?_ (by assumption) | refine of3 ?_ (by assumption)) | dsimp only)

theorem State.takePost_tidy {pq} {s : State} {m j sub value node role : ℕ} {onTime : Bool} (hs : Tidy pq s) : Tidy pq (State.takePost s m j sub value node role onTime) := by
  unfold State.takePost
  repeat' (first | with_reducible assumption | (extract_lets +onlyGivenNames zz; first | (refine (fun (hz : Tidy pq zz) => ?_) ?_; (on_goal 1 => (try clear_value zz; rename' zz => zy, hz => hy)); (on_goal 2 => subst zz)) | (refine (fun (hz : ∀ t, Tidy pq t → Tidy pq (zz t)) => ?_) ?_; (on_goal 1 => (try clear_value zz; rename' zz => zy, hz => hf)); (on_goal 2 => (subst zz; intro _ _; beta_reduce))) | (refine (fun (hz : ∀ t, Tidy pq (zz t)) => ?_) ?_; (on_goal 1 => (try clear_value zz; rename' zz => zy, hz => hf)); (on_goal 2 => (subst zz; intro _; beta_reduce))) | (try clear_value zz; rename' zz => zy)) | with_reducible (first | apply State.slotOpen_tidy | apply State.firstPost_tidy | apply State.raiseIvl_tidy | apply State.addVoltage_tidy | apply State.addEnergy_tidy | apply State.baseline_tidy | apply State.recCount_tidy | apply State.count_tidy | apply State.markRev_tidy | apply tidy1_mk | apply tidy2_mk | apply tidyS_none | apply tidyS_some | apply tidyS1_none | apply tidyS2_none) | with_reducible (apply tidy_fst; first | apply tidy1_ite) | with_reducible (apply tidy_snd; first | apply State.slotOpen_tidy | apply tidy2_ite) | split | with_reducible (first | apply tidy_ite | apply tidy1_ite | apply tidy2_ite) | with_reducible (fail_if_no_progress apply tidy_mk) | with_reducible (apply hf) | with_reducible (first | refine of1 ?_ (by assumption) | refine of2 ?_ (by assumption) | refine ofS ?_ (by assumption) | refine ofS1 ?_ (by assumption) | refine ofS2 ?_ (by assumption) | refine ofS3 ?_ (by assumption) | refine of3 ?_ (by assumption)) | dsimp only)

theorem State.balPost_tidy {pq} {s : State} {m j sub value : ℕ} (hs : Tidy pq s) : Tidy pq (State.balPost s m j sub value) := by
  unfold State.balPost
  repeat' (first | with_reducible assumption | (extract_lets +onlyGivenNames zz; first | (refine (fun (hz : Tidy pq zz) => ?_) ?_; (on_goal 1 => (try clear_value zz; rename' zz => zy, hz => hy)); (on_goal 2 => subst zz)) | (try clear_value zz; rename' zz => zy)) | with_reducible (first | apply State.count_tidy | apply State.recCount_tidy | apply State.setNode_tidy | apply State.takePost_tidy) | split | with_reducible (first | apply tidy_ite) | with_reducible (fail_if_no_progress apply tidy_mk) | with_reducible (first | refine of1 ?_ (by assumption) | refine of2 ?_ (by assumption) | refine ofS ?_ (by assumption) | refine ofS1 ?_ (by assumption) | refine ofS2 ?_ (by assumption) | refine ofS3 ?_ (by assumption) | refine of3 ?_ (by assumption)) | dsimp only)

theorem State.applyMarker_tidy {pq} {s : State} {m order : ℕ} (hs : Tidy pq s) : Tidy pq (State.applyMarker s m order) := by
  unfold State.applyMarker
  repeat' (first | with_reducible assumption | with_reducible intro _ | (extract_lets +onlyGivenNames zz; first | (refine (fun (hz : Tidy pq zz) => ?_) ?_; (on_goal 1 => (try clear_value zz; rename' zz => zy, hz => hy)); (on_goal 2 => subst zz)) | (refine (fun (hz : ∀ t, Tidy pq t → Tidy pq (zz t)) => ?_) ?_; (on_goal 1 => (try clear_value zz; rename' zz => zy, hz => hf)); (on_goal 2 => (subst zz; intro _ _; beta_reduce))) | (refine (fun (hz : ∀ t, Tidy pq (zz t)) => ?_) ?_; (on_goal 1 => (try clear_value zz; rename' zz => zy, hz => hf)); (on_goal 2 => (subst zz; intro _; beta_reduce))) | (try clear_value zz; rename' zz => zy)) | with_reducible (first | apply tidy_ite | apply tidy1_ite | apply tidy2_ite | apply State.setF_tidy | apply State.clearSlots_tidy | apply tidy1_mk | apply tidy2_mk | apply map_tidyS | apply map_tidyS_of2 | apply map_tidyS_any) | with_reducible (apply tidy_fst; first | apply tidy1_ite) | with_reducible (apply tidy_snd; first | apply tidy2_ite) | with_reducible (fail_if_no_progress apply tidy_mk) | with_reducible (apply hf) | with_reducible (first | refine of1 ?_ (by assumption) | refine of2 ?_ (by assumption) | refine ofS ?_ (by assumption) | refine ofS1 ?_ (by assumption) | refine ofS2 ?_ (by assumption) | refine ofS3 ?_ (by assumption) | refine of3 ?_ (by assumption)) | dsimp only)


/-! ## BillOps -/

theorem State.advanceDem_tidy {pq} {s : State} {m k : ℕ} (hs : Tidy pq s) : Tidy pq (State.advanceDem s m k) := by
  unfold State.advanceDem
  repeat' (first | with_reducible assumption | with_reducible intro _ | (extract_lets +onlyGivenNames zz; first | (refine (fun (hz : Tidy pq zz) => ?_) ?_; (on_goal 1 => (try clear_value zz; rename' zz => zy, hz => hy)); (on_goal 2 => subst zz)) | (refine (fun (hz : ∀ t, Tidy pq t → Tidy pq (zz t)) => ?_) ?_; (on_goal 1 => (try clear_value zz; rename' zz => zy, hz => hf)); (on_goal 2 => (subst zz; intro _ _; beta_reduce))) | (refine (fun (hz : ∀ t, Tidy pq (zz t)) => ?_) ?_; (on_goal 1 => (try clear_value zz; rename' zz => zy, hz => hf)); (on_goal 2 => (subst zz; intro _; beta_reduce))) | (try clear_value zz; rename' zz => zy)) | with_reducible (first | apply tidy_ite | apply foldl_tidy | apply foldl_tidy1 | apply State.setRec_tidy | apply map_tidyS | apply map_tidyS_of2 | apply map_tidyS_any) | with_reducible (apply tidy_fst; first | apply foldl_tidy1) | with_reducible (apply tidy_snd; first | apply foldl_tidy2) | with_reducible (apply hf) | with_reducible (first | refine of1 ?_ (by assumption) | refine of2 ?_ (by assumption) | refine ofS ?_ (by assumption) | refine ofS1 ?_ (by assumption) | refine ofS2 ?_ (by assumption) | refine ofS3 ?_ (by assumption) | refine of3 ?_ (by assumption)) | dsimp only)

theorem State.demPost_tidy {pq} {s : State} {m j value : ℕ} {exp : Bool} (hs : Tidy pq s) : Tidy pq (State.demPost s m j value exp) := by
  unfold State.demPost
  repeat' (first | with_reducible assumption | (extract_lets +onlyGivenNames zz; first | (refine (fun (hz : Tidy pq zz) => ?_) ?_; (on_goal 1 => (try clear_value zz; rename' zz => zy, hz => hy)); (on_goal 2 => subst zz)) | (refine (fun (hz : ∀ t, Tidy pq t → Tidy pq (zz t)) => ?_) ?_; (on_goal 1 => (try clear_value zz; rename' zz => zy, hz => hf)); (on_goal 2 => (subst zz; intro _ _; beta_reduce))) | (refine (fun (hz : ∀ t, Tidy pq (zz t)) => ?_) ?_; (on_goal 1 => (try clear_value zz; rename' zz => zy, hz => hf)); (on_goal 2 => (subst zz; intro _; beta_reduce))) | (try clear_value zz; rename' zz => zy)) | with_reducible (first | apply tidy_ite | apply State.count_tidy | apply State.advanceDem_tidy | apply State.setRec_tidy) | with_reducible (apply hf) | with_reducible (first | refine of1 ?_ (by assumption) | refine of2 ?_ (by assumption) | refine ofS ?_ (by assumption) | refine ofS1 ?_ (by assumption) | refine ofS2 ?_ (by assumption) | refine ofS3 ?_ (by assumption) | refine of3 ?_ (by assumption)) | dsimp only)

theorem State.outageEnd_tidy {pq} {s : State} {m e : ℕ} (hs : Tidy pq s) : Tidy pq (State.outageEnd s m e) := by
  unfold State.outageEnd
  repeat' (first | with_reducible assumption | with_reducible intro _ | (extract_lets +onlyGivenNames zz; first | (refine (fun (hz : Tidy pq zz) => ?_) ?_; (on_goal 1 => (try clear_value zz; rename' zz => zy, hz => hy)); (on_goal 2 => subst zz)) | (refine (fun (hz : ∀ t, Tidy pq t → Tidy pq (zz t)) => ?_) ?_; (on_goal 1 => (try clear_value zz; rename' zz => zy, hz => hf)); (on_goal 2 => (subst zz; intro _ _; beta_reduce))) | (refine (fun (hz : ∀ t, Tidy pq (zz t)) => ?_) ?_; (on_goal 1 => (try clear_value zz; rename' zz => zy, hz => hf)); (on_goal 2 => (subst zz; intro _; beta_reduce))) | (try clear_value zz; rename' zz => zy)) | with_reducible (first | apply tidy_ite | apply foldl_tidy | apply foldl_tidy1 | apply State.count_tidy | apply State.advanceDem_tidy | apply State.setRec_tidy) | with_reducible (apply tidy_fst; first | apply foldl_tidy1) | with_reducible (apply tidy_snd; first | apply foldl_tidy2) | with_reducible (apply hf) | with_reducible (first | refine of1 ?_ (by assumption) | refine of2 ?_ (by assumption) | refine ofS ?_ (by assumption) | refine ofS1 ?_ (by assumption) | refine ofS2 ?_ (by assumption) | refine ofS3 ?_ (by assumption) | refine of3 ?_ (by assumption)) | dsimp only)

theorem State.billEvent_tidy {pq} {s : State} {m order code data : ℕ} {time : Option ℕ} (hs : Tidy pq s) : Tidy pq (State.billEvent s m order code data time) := by
  unfold State.billEvent
  repeat' (first | with_reducible assumption | with_reducible (first | apply State.setRec_tidy | apply State.count_tidy | apply State.outageEnd_tidy | apply State.tamperSet_tidy | apply State.tamperEnd_tidy | apply tidy_getD) | split | with_reducible (first | apply tidy_ite | apply tidyS_ite) | with_reducible (fail_if_no_progress apply tidy_mk) | with_reducible (first | refine of1 ?_ (by assumption) | refine of2 ?_ (by assumption) | refine ofS ?_ (by assumption) | refine ofS1 ?_ (by assumption) | refine ofS2 ?_ (by assumption) | refine ofS3 ?_ (by assumption) | refine of3 ?_ (by assumption)) | dsimp only)

theorem State.demWindow_tidy {pq} {s : State} {m c k : ℕ} (hs : Tidy pq s) : Tidy pq (State.demWindow s m c k) := by
  unfold State.demWindow
  repeat' (first | with_reducible assumption | with_reducible intro _ | (extract_lets +onlyGivenNames zz; first | (refine (fun (hz : Tidy pq zz) => ?_) ?_; (on_goal 1 => (try clear_value zz; rename' zz => zy, hz => hy)); (on_goal 2 => subst zz)) | (refine (fun (hz : ∀ t, Tidy pq t → Tidy pq (zz t)) => ?_) ?_; (on_goal 1 => (try clear_value zz; rename' zz => zy, hz => hf)); (on_goal 2 => (subst zz; intro _ _; beta_reduce))) | (refine (fun (hz : ∀ t, Tidy pq (zz t)) => ?_) ?_; (on_goal 1 => (try clear_value zz; rename' zz => zy, hz => hf)); (on_goal 2 => (subst zz; intro _; beta_reduce))) | (try clear_value zz; rename' zz => zy)) | with_reducible (first | apply tidy_ite | apply State.setRec_tidy | apply map_tidyS | apply map_tidyS_of2 | apply map_tidyS_any | apply tidyS_none | apply tidyS_some | apply tidyS1_none | apply tidyS2_none) | with_reducible (apply hf) | with_reducible (first | refine of1 ?_ (by assumption) | refine of2 ?_ (by assumption) | refine ofS ?_ (by assumption) | refine ofS1 ?_ (by assumption) | refine ofS2 ?_ (by assumption) | refine ofS3 ?_ (by assumption) | refine of3 ?_ (by assumption)) | dsimp only)

theorem State.demPass1_tidy {pq} {s : State} {c m : ℕ} (hs : Tidy pq s) : Tidy pq (State.demPass1 s c m) := by
  unfold State.demPass1
  repeat' (first | with_reducible assumption | with_reducible intro _ | with_reducible (first | apply foldl_tidy | apply foldl_tidy1 | apply State.demWindow_tidy | apply tidy1_mk | apply tidy2_mk) | with_reducible (apply tidy_fst; first | apply foldl_tidy1) | with_reducible (apply tidy_snd; first | apply foldl_tidy2))

theorem State.putSnapshot_tidy {pq} {s : State} {b : Bytes} (hs : Tidy pq s) : Tidy pq (State.putSnapshot s b) := by
  unfold State.putSnapshot
  repeat' (first | with_reducible assumption | with_reducible (first | apply tidy_ite | apply State.err_tidy) | with_reducible (fail_if_no_progress apply tidy_mk))

theorem State.rollOne_tidy {pq} {s : State} {m b : ℕ} {skipped : Bool} (hs : Tidy pq s) : Tidy pq (State.rollOne s m b skipped) := by
  unfold State.rollOne
  repeat' (first | with_reducible assumption | (extract_lets +onlyGivenNames zz; first | (refine (fun (hz : Tidy pq zz) => ?_) ?_; (on_goal 1 => (try clear_value zz; rename' zz => zy, hz => hy)); (on_goal 2 => subst zz)) | (refine (fun (hz : ∀ t, Tidy pq t → Tidy pq (zz t)) => ?_) ?_; (on_goal 1 => (try clear_value zz; rename' zz => zy, hz => hf)); (on_goal 2 => (subst zz; intro _ _; beta_reduce))) | (refine (fun (hz : ∀ t, Tidy pq (zz t)) => ?_) ?_; (on_goal 1 => (try clear_value zz; rename' zz => zy, hz => hf)); (on_goal 2 => (subst zz; intro _; beta_reduce))) | (try clear_value zz; rename' zz => zy)) | with_reducible (first | apply State.putSnapshot_tidy | apply State.write_tidy | apply State.setRec_tidy) | with_reducible (apply hf) | with_reducible (first | refine of1 ?_ (by assumption) | refine of2 ?_ (by assumption) | refine ofS ?_ (by assumption) | refine ofS1 ?_ (by assumption) | refine ofS2 ?_ (by assumption) | refine ofS3 ?_ (by assumption) | refine of3 ?_ (by assumption)) | dsimp only)

theorem State.applySweeps_tidy {pq} {s : State} {m : ℕ} {lim : Option ℕ} (hs : Tidy pq s) : Tidy pq (State.applySweeps s m lim) := by
  unfold State.applySweeps
  repeat' (first | with_reducible assumption | with_reducible intro _ | (extract_lets +onlyGivenNames zz; first | (refine (fun (hz : Tidy pq zz) => ?_) ?_; (on_goal 1 => (try clear_value zz; rename' zz => zy, hz => hy)); (on_goal 2 => subst zz)) | (refine (fun (hz : ∀ t, Tidy pq t → Tidy pq (zz t)) => ?_) ?_; (on_goal 1 => (try clear_value zz; rename' zz => zy, hz => hf)); (on_goal 2 => (subst zz; intro _ _; beta_reduce))) | (refine (fun (hz : ∀ t, Tidy pq (zz t)) => ?_) ?_; (on_goal 1 => (try clear_value zz; rename' zz => zy, hz => hf)); (on_goal 2 => (subst zz; intro _; beta_reduce))) | (try clear_value zz; rename' zz => zy)) | with_reducible (first | apply foldl_tidy | apply foldl_tidy1 | apply State.meterPass1_tidy | apply State.demPass1_tidy | apply map_tidyS | apply map_tidyS_of2 | apply map_tidyS_any | apply tidyS_none | apply tidyS_some | apply tidyS1_none | apply tidyS2_none) | with_reducible (apply tidy_fst; first | apply foldl_tidy1) | with_reducible (apply tidy_snd; first | apply foldl_tidy2) | split | with_reducible (first | apply tidy_ite) | with_reducible (fail_if_no_progress apply tidy_mk) | with_reducible (apply hf) | with_reducible (first | refine of1 ?_ (by assumption) | refine of2 ?_ (by assumption) | refine ofS ?_ (by assumption) | refine ofS1 ?_ (by assumption) | refine ofS2 ?_ (by assumption) | refine ofS3 ?_ (by assumption) | refine of3 ?_ (by assumption)) | dsimp only)

theorem State.rollRecord_tidy {pq} {s : State} {m : ℕ} {lim : Option ℕ} (hs : Tidy pq s) : Tidy pq (State.rollRecord s m lim) := by
  unfold State.rollRecord
  repeat' (first | with_reducible assumption | with_reducible intro _ | (extract_lets +onlyGivenNames zz; first | (refine (fun (hz : Tidy pq zz) => ?_) ?_; (on_goal 1 => (try clear_value zz; rename' zz => zy, hz => hy)); (on_goal 2 => subst zz)) | (refine (fun (hz : ∀ t, Tidy pq t → Tidy pq (zz t)) => ?_) ?_; (on_goal 1 => (try clear_value zz; rename' zz => zy, hz => hf)); (on_goal 2 => (subst zz; intro _ _; beta_reduce))) | (refine (fun (hz : ∀ t, Tidy pq (zz t)) => ?_) ?_; (on_goal 1 => (try clear_value zz; rename' zz => zy, hz => hf)); (on_goal 2 => (subst zz; intro _; beta_reduce))) | (try clear_value zz; rename' zz => zy)) | with_reducible (first | apply foldl_tidy | apply foldl_tidy1 | apply State.rollOne_tidy | apply State.applySweeps_tidy | apply map_tidyS | apply map_tidyS_of2 | apply map_tidyS_any | apply tidyS_none | apply tidyS_some | apply tidyS1_none | apply tidyS2_none) | with_reducible (apply tidy_fst; first | apply foldl_tidy1) | with_reducible (apply tidy_snd; first | apply foldl_tidy2) | split | with_reducible (first | apply tidy_ite) | with_reducible (fail_if_no_progress apply tidy_mk) | with_reducible (apply hf) | with_reducible (first | refine of1 ?_ (by assumption) | refine of2 ?_ (by assumption) | refine ofS ?_ (by assumption) | refine ofS1 ?_ (by assumption) | refine ofS2 ?_ (by assumption) | refine ofS3 ?_ (by assumption) | refine of3 ?_ (by assumption)) | dsimp only)

theorem State.ckptCopy_tidy {pq} {s : State} {m : ℕ} (hs : Tidy pq s) : Tidy pq (State.ckptCopy s m) := by
  unfold State.ckptCopy
  repeat' (first | with_reducible assumption | (extract_lets +onlyGivenNames zz; first | (refine (fun (hz : Tidy pq zz) => ?_) ?_; (on_goal 1 => (try clear_value zz; rename' zz => zy, hz => hy)); (on_goal 2 => subst zz)) | (try clear_value zz; rename' zz => zy)) | with_reducible (first | apply State.applySweeps_tidy | apply State.rollRecord_tidy | apply State.setRec_tidy | apply tidy1_mk | apply tidy2_mk | apply tidyS_none | apply tidyS_some | apply tidyS1_none | apply tidyS2_none) | with_reducible (apply tidy_fst; first | apply tidy1_ite) | with_reducible (apply tidy_snd; first | apply tidy2_ite) | split | with_reducible (first | apply tidy_ite | apply tidy1_ite | apply tidy2_ite) | with_reducible (fail_if_no_progress apply tidy_mk) | with_reducible (first | refine of1 ?_ (by assumption) | refine of2 ?_ (by assumption) | refine ofS ?_ (by assumption) | refine ofS1 ?_ (by assumption) | refine ofS2 ?_ (by assumption) | refine ofS3 ?_ (by assumption) | refine of3 ?_ (by assumption)) | dsimp only)

theorem State.dropCopies_tidy {pq} {s : State} {m : ℕ} (hs : Tidy pq s) : Tidy pq (State.dropCopies s m) := by
  unfold State.dropCopies
  repeat' (first | with_reducible assumption | with_reducible intro _ | with_reducible (first | apply foldl_tidy | apply foldl_tidy1 | apply tidy1_mk | apply tidy2_mk | apply map_tidyS | apply map_tidyS_of2 | apply map_tidyS_any | apply tidyS_none | apply tidyS_some | apply tidyS1_none | apply tidyS2_none) | with_reducible (apply tidy_fst; first | apply foldl_tidy1) | with_reducible (apply tidy_snd; first | apply foldl_tidy2) | split | with_reducible (fail_if_no_progress apply tidy_mk) | with_reducible (first | refine of1 ?_ (by assumption) | refine of2 ?_ (by assumption) | refine ofS ?_ (by assumption) | refine ofS1 ?_ (by assumption) | refine ofS2 ?_ (by assumption) | refine ofS3 ?_ (by assumption) | refine of3 ?_ (by assumption)) | dsimp only)

theorem State.touch_tidy {pq} {s : State} {m : ℕ} (hs : Tidy pq s) : Tidy pq (State.touch s m) := by
  unfold State.touch
  repeat' (first | with_reducible assumption | with_reducible (first | apply State.rollRecord_tidy | apply State.ckptCopy_tidy | apply State.dropCopies_tidy | apply tidyS_none | apply tidyS_some | apply tidyS1_none | apply tidyS2_none))

theorem State.setCredit_tidy {pq} {s : State} {m order : ℕ} {v : ℤ} (hs : Tidy pq s) : Tidy pq (State.setCredit s m order v) := by
  unfold State.setCredit
  repeat' (first | with_reducible assumption | (extract_lets +onlyGivenNames zz; first | (refine (fun (hz : Tidy pq zz) => ?_) ?_; (on_goal 1 => (try clear_value zz; rename' zz => zy, hz => hy)); (on_goal 2 => subst zz)) | (refine (fun (hz : ∀ t, Tidy pq t → Tidy pq (zz t)) => ?_) ?_; (on_goal 1 => (try clear_value zz; rename' zz => zy, hz => hf)); (on_goal 2 => (subst zz; intro _ _; beta_reduce))) | (refine (fun (hz : ∀ t, Tidy pq (zz t)) => ?_) ?_; (on_goal 1 => (try clear_value zz; rename' zz => zy, hz => hf)); (on_goal 2 => (subst zz; intro _; beta_reduce))) | (try clear_value zz; rename' zz => zy)) | with_reducible (first | apply tidy_ite | apply State.setRec_tidy | apply State.billReport_tidy | apply State.irq_tidy) | with_reducible (apply hf) | with_reducible (first | refine of1 ?_ (by assumption) | refine of2 ?_ (by assumption) | refine ofS ?_ (by assumption) | refine ofS1 ?_ (by assumption) | refine ofS2 ?_ (by assumption) | refine ofS3 ?_ (by assumption) | refine of3 ?_ (by assumption)) | dsimp only)

theorem State.debit_tidy {pq} {s : State} {m order off addend : ℕ} (hs : Tidy pq s) : Tidy pq (State.debit s m order off addend) := by
  unfold State.debit
  repeat' (first | with_reducible assumption | with_reducible (first | apply tidy_ite | apply State.setCredit_tidy))

theorem State.applyDemand_tidy {pq} {s : State} {m gen order : ℕ} (hs : Tidy pq s) : Tidy pq (State.applyDemand s m gen order) := by
  unfold State.applyDemand
  repeat' (first | with_reducible assumption | with_reducible intro _ | (extract_lets +onlyGivenNames zz; first | (refine (fun (hz : Tidy pq zz) => ?_) ?_; (on_goal 1 => (try clear_value zz; rename' zz => zy, hz => hy)); (on_goal 2 => subst zz)) | (refine (fun (hz : ∀ t, Tidy pq t → Tidy pq (zz t)) => ?_) ?_; (on_goal 1 => (try clear_value zz; rename' zz => zy, hz => hf)); (on_goal 2 => (subst zz; intro _ _; beta_reduce))) | (refine (fun (hz : ∀ t, Tidy pq (zz t)) => ?_) ?_; (on_goal 1 => (try clear_value zz; rename' zz => zy, hz => hf)); (on_goal 2 => (subst zz; intro _; beta_reduce))) | (try clear_value zz; rename' zz => zy)) | with_reducible (first | apply tidy_ite | apply tidy1_ite | apply tidy2_ite | apply tidyS_ite | apply State.setF_tidy | apply tidy1_mk | apply tidy2_mk | apply map_tidyS | apply map_tidyS_of2 | apply map_tidyS_any | apply tidy_getD) | with_reducible (apply tidy_fst; first | apply tidy1_ite) | with_reducible (apply tidy_snd; first | apply tidy2_ite) | with_reducible (fail_if_no_progress apply tidy_mk) | with_reducible (apply hf) | with_reducible (first | refine of1 ?_ (by assumption) | refine of2 ?_ (by assumption) | refine ofS ?_ (by assumption) | refine ofS1 ?_ (by assumption) | refine ofS2 ?_ (by assumption) | refine ofS3 ?_ (by assumption) | refine of3 ?_ (by assumption)) | dsimp only)

theorem State.applyClose_tidy {pq} {s : State} {b order : ℕ} {skipped : Bool} {at_ : ℕ} (hs : Tidy pq s) : Tidy pq (State.applyClose s b order skipped at_) := by
  unfold State.applyClose
  repeat' (first | with_reducible assumption | (extract_lets +onlyGivenNames zz; first | (refine (fun (hz : Tidy pq zz) => ?_) ?_; (on_goal 1 => (try clear_value zz; rename' zz => zy, hz => hy)); (on_goal 2 => subst zz)) | (refine (fun (hz : ∀ t, Tidy pq t → Tidy pq (zz t)) => ?_) ?_; (on_goal 1 => (try clear_value zz; rename' zz => zy, hz => hf)); (on_goal 2 => (subst zz; intro _ _; beta_reduce))) | (refine (fun (hz : ∀ t, Tidy pq (zz t)) => ?_) ?_; (on_goal 1 => (try clear_value zz; rename' zz => zy, hz => hf)); (on_goal 2 => (subst zz; intro _; beta_reduce))) | (try clear_value zz; rename' zz => zy)) | with_reducible (first | apply tidy_ite | apply State.setF_tidy | apply tidy1_mk | apply tidy2_mk) | with_reducible (fail_if_no_progress apply tidy_mk) | with_reducible (apply hf) | with_reducible (first | refine of1 ?_ (by assumption) | refine of2 ?_ (by assumption) | refine ofS ?_ (by assumption) | refine ofS1 ?_ (by assumption) | refine ofS2 ?_ (by assumption) | refine ofS3 ?_ (by assumption) | refine of3 ?_ (by assumption)) | dsimp only)

theorem State.applyCkpt_tidy {pq} {s : State} {order : ℕ} (hs : Tidy pq s) : Tidy pq (State.applyCkpt s order) := by
  unfold State.applyCkpt
  repeat' (first | with_reducible assumption | with_reducible intro _ | (extract_lets +onlyGivenNames zz; first | (refine (fun (hz : Tidy pq zz) => ?_) ?_; (on_goal 1 => (try clear_value zz; rename' zz => zy, hz => hy)); (on_goal 2 => subst zz)) | (refine (fun (hz : ∀ t, Tidy pq t → Tidy pq (zz t)) => ?_) ?_; (on_goal 1 => (try clear_value zz; rename' zz => zy, hz => hf)); (on_goal 2 => (subst zz; intro _ _; beta_reduce))) | (refine (fun (hz : ∀ t, Tidy pq (zz t)) => ?_) ?_; (on_goal 1 => (try clear_value zz; rename' zz => zy, hz => hf)); (on_goal 2 => (subst zz; intro _; beta_reduce))) | (try clear_value zz; rename' zz => zy)) | with_reducible (first | apply State.setF_tidy | apply State.set2_tidy | apply tidy1_mk | apply tidy2_mk) | with_reducible (fail_if_no_progress apply tidy_mk) | with_reducible (apply hf) | with_reducible (first | refine of1 ?_ (by assumption) | refine of2 ?_ (by assumption) | refine ofS ?_ (by assumption) | refine ofS1 ?_ (by assumption) | refine ofS2 ?_ (by assumption) | refine ofS3 ?_ (by assumption) | refine of3 ?_ (by assumption)) | dsimp only)


/-! ## KeyOps -/

theorem State.setSlotK_tidy {pq} {s : State} {n : ℕ} {k : KeySlot} (hs : Tidy pq s) : Tidy pq (State.setSlotK s n k) := by
  unfold State.setSlotK
  repeat' (first | with_reducible assumption | with_reducible (fail_if_no_progress apply tidy_mk))

theorem State.takeIv_tidy {pq} {s : State} {n : ℕ} (hs : Tidy pq s) : TidyS2 pq (State.takeIv s n) := by
  unfold State.takeIv
  repeat' (first | with_reducible assumption | (extract_lets +onlyGivenNames zz; first | (refine (fun (hz : Tidy pq zz) => ?_) ?_; (on_goal 1 => (try clear_value zz; rename' zz => zy, hz => hy)); (on_goal 2 => subst zz)) | (try clear_value zz; rename' zz => zy)) | with_reducible (first | apply tidy_ite | apply tidyS2_ite | apply State.setSlotK_tidy | apply tidy1_mk | apply tidy2_mk | apply tidyS_none | apply tidyS_some | apply tidyS1_none | apply tidyS2_none | apply tidyS2_some) | with_reducible (fail_if_no_progress apply tidy_mk) | with_reducible (first | refine of1 ?_ (by assumption) | refine of2 ?_ (by assumption) | refine ofS ?_ (by assumption) | refine ofS1 ?_ (by assumption) | refine ofS2 ?_ (by assumption) | refine ofS3 ?_ (by assumption) | refine of3 ?_ (by assumption)) | dsimp only)

theorem State.loadSlot_tidy {pq} {s : State} {n : ℕ} {key : Bytes} {k : KeySlot} (hs : Tidy pq s) : Tidy pq (State.loadSlot s n key k) := by
  unfold State.loadSlot
  repeat' (first | with_reducible assumption | (extract_lets +onlyGivenNames zz; first | (refine (fun (hz : Tidy pq zz) => ?_) ?_; (on_goal 1 => (try clear_value zz; rename' zz => zy, hz => hy)); (on_goal 2 => subst zz)) | (try clear_value zz; rename' zz => zy)) | with_reducible (first | apply State.drawBytes_tidy | apply State.drawWord_tidy | apply State.setSlotK_tidy | apply tidy1_mk | apply tidy2_mk) | with_reducible (apply tidy_snd; first | apply State.drawBytes_tidy | apply State.drawWord_tidy) | with_reducible (fail_if_no_progress apply tidy_mk) | with_reducible (first | refine of1 ?_ (by assumption) | refine of2 ?_ (by assumption) | refine ofS ?_ (by assumption) | refine ofS1 ?_ (by assumption) | refine ofS2 ?_ (by assumption) | refine ofS3 ?_ (by assumption) | refine of3 ?_ (by assumption)) | dsimp only)


/-! ## DirOps -/

theorem State.putEntry_tidy {pq} {s : State} {a w0 w1 w2 w3 : ℕ} (hs : Tidy pq s) : Tidy pq (State.putEntry s a w0 w1 w2 w3) := by
  unfold State.putEntry
  repeat' (first | with_reducible assumption | (extract_lets +onlyGivenNames zz; first | (refine (fun (hz : Tidy pq zz) => ?_) ?_; (on_goal 1 => (try clear_value zz; rename' zz => zy, hz => hy)); (on_goal 2 => subst zz)) | (try clear_value zz; rename' zz => zy)) | with_reducible (first | apply tidy_ite | apply State.write_tidy) | with_reducible (first | refine of1 ?_ (by assumption) | refine of2 ?_ (by assumption) | refine ofS ?_ (by assumption) | refine ofS1 ?_ (by assumption) | refine ofS2 ?_ (by assumption) | refine ofS3 ?_ (by assumption) | refine of3 ?_ (by assumption)) | dsimp only)

theorem State.freeEntry_tidy {pq} {s : State} {a : ℕ} (hs : Tidy pq s) : Tidy pq (State.freeEntry s a) := by
  unfold State.freeEntry
  repeat' (first | with_reducible assumption | with_reducible (first | apply State.putEntry_tidy))

theorem State.setHeader_tidy {pq} {s : State} {t b hi lo v : ℕ} (hs : Tidy pq s) : Tidy pq (State.setHeader s t b hi lo v) := by
  unfold State.setHeader
  repeat' (first | with_reducible assumption | (extract_lets +onlyGivenNames zz; first | (refine (fun (hz : Tidy pq zz) => ?_) ?_; (on_goal 1 => (try clear_value zz; rename' zz => zy, hz => hy)); (on_goal 2 => subst zz)) | (refine (fun (hz : ∀ t, Tidy pq t → Tidy pq (zz t)) => ?_) ?_; (on_goal 1 => (try clear_value zz; rename' zz => zy, hz => hf)); (on_goal 2 => (subst zz; intro _ _; beta_reduce))) | (refine (fun (hz : ∀ t, Tidy pq (zz t)) => ?_) ?_; (on_goal 1 => (try clear_value zz; rename' zz => zy, hz => hf)); (on_goal 2 => (subst zz; intro _; beta_reduce))) | (try clear_value zz; rename' zz => zy)) | with_reducible (first | apply State.writeNat_tidy) | with_reducible (apply hf) | with_reducible (first | refine of1 ?_ (by assumption) | refine of2 ?_ (by assumption) | refine ofS ?_ (by assumption) | refine ofS1 ?_ (by assumption) | refine ofS2 ?_ (by assumption) | refine ofS3 ?_ (by assumption) | refine of3 ?_ (by assumption)) | dsimp only)

theorem State.noteParity_tidy {pq} {s : State} {code way bucket : ℕ} (hs : Tidy pq s) : Tidy pq (State.noteParity s code way bucket) := by
  unfold State.noteParity
  repeat' (first | with_reducible assumption | (extract_lets +onlyGivenNames zz; first | (refine (fun (hz : Tidy pq zz) => ?_) ?_; (on_goal 1 => (try clear_value zz; rename' zz => zy, hz => hy)); (on_goal 2 => subst zz)) | (refine (fun (hz : ∀ t, Tidy pq t → Tidy pq (zz t)) => ?_) ?_; (on_goal 1 => (try clear_value zz; rename' zz => zy, hz => hf)); (on_goal 2 => (subst zz; intro _ _; beta_reduce))) | (refine (fun (hz : ∀ t, Tidy pq (zz t)) => ?_) ?_; (on_goal 1 => (try clear_value zz; rename' zz => zy, hz => hf)); (on_goal 2 => (subst zz; intro _; beta_reduce))) | (try clear_value zz; rename' zz => zy)) | with_reducible (first | apply State.irq_tidy | apply State.count_tidy | apply State.setF_tidy | apply State.event_tidy) | with_reducible (apply hf) | with_reducible (first | refine of1 ?_ (by assumption) | refine of2 ?_ (by assumption) | refine ofS ?_ (by assumption) | refine ofS1 ?_ (by assumption) | refine ofS2 ?_ (by assumption) | refine ofS3 ?_ (by assumption) | refine of3 ?_ (by assumption)) | dsimp only)

theorem State.setSuspect_tidy {pq} {s : State} {b : ℕ} (hs : Tidy pq s) : Tidy pq (State.setSuspect s b) := by
  unfold State.setSuspect
  repeat' (first | with_reducible assumption | with_reducible (first | apply tidy_ite | apply State.irq_tidy | apply State.count_tidy | apply State.setHeader_tidy))

theorem State.lowerF_tidy {pq} {s : State} {f : Field} (hs : Tidy pq s) : Tidy pq (State.lowerF s f) := by
  unfold State.lowerF
  repeat' (first | with_reducible assumption | with_reducible (first | apply State.setF_tidy))

theorem State.readBucket_tidy {pq} {s : State} {t b : ℕ} (hs : Tidy pq s) : Tidy pq (State.readBucket s t b) := by
  unfold State.readBucket
  repeat' (first | with_reducible assumption | with_reducible intro _ | (extract_lets +onlyGivenNames zz; first | (refine (fun (hz : Tidy pq zz) => ?_) ?_; (on_goal 1 => (try clear_value zz; rename' zz => zy, hz => hy)); (on_goal 2 => subst zz)) | (try clear_value zz; rename' zz => zy)) | with_reducible (first | apply tidy_ite | apply foldl_tidy | apply foldl_tidy1 | apply State.eccCorrect_tidy | apply State.noteParity_tidy | apply State.freeEntry_tidy | apply State.lowerF_tidy | apply State.setSuspect_tidy | apply tidy1_mk | apply tidy2_mk) | with_reducible (apply tidy_fst; first | apply foldl_tidy1) | with_reducible (apply tidy_snd; first | apply foldl_tidy2) | with_reducible (first | refine of1 ?_ (by assumption) | refine of2 ?_ (by assumption) | refine ofS ?_ (by assumption) | refine ofS1 ?_ (by assumption) | refine ofS2 ?_ (by assumption) | refine ofS3 ?_ (by assumption) | refine of3 ?_ (by assumption)) | dsimp only)

theorem State.dirSearch_tidy {pq} {s : State} {id : ℕ} (hs : Tidy pq s) : Tidy1 pq (State.dirSearch s id) := by
  unfold State.dirSearch
  repeat' (first | with_reducible assumption | with_reducible intro _ | with_reducible (first | apply foldl_tidy | apply foldl_tidy1 | apply State.noteParity_tidy | apply State.count_tidy | apply tidy1_mk | apply tidy2_mk | apply tidyS_none | apply tidyS_some | apply tidyS1_none | apply tidyS2_none) | with_reducible (apply tidy_fst; first | apply foldl_tidy1 | apply tidy1_ite) | with_reducible (apply tidy_snd; first | apply foldl_tidy2 | apply tidy2_ite) | split | with_reducible (first | apply tidy_ite | apply tidy1_ite | apply tidy2_ite) | with_reducible (fail_if_no_progress apply tidy_mk) | with_reducible (first | refine of1 ?_ (by assumption) | refine of2 ?_ (by assumption) | refine ofS ?_ (by assumption) | refine ofS1 ?_ (by assumption) | refine ofS2 ?_ (by assumption) | refine ofS3 ?_ (by assumption) | refine of3 ?_ (by assumption)) | dsimp only)

theorem State.dirFind_tidy {pq} {s : State} {id : ℕ} (hs : Tidy pq s) : Tidy1 pq (State.dirFind s id) := by
  unfold State.dirFind
  repeat' (first | with_reducible assumption | (extract_lets +onlyGivenNames zz; first | (refine (fun (hz : Tidy pq zz) => ?_) ?_; (on_goal 1 => (try clear_value zz; rename' zz => zy, hz => hy)); (on_goal 2 => subst zz)) | (try clear_value zz; rename' zz => zy)) | with_reducible (first | apply State.readBucket_tidy | apply State.dirSearch_tidy | apply tidy1_mk | apply tidy2_mk | apply tidyS_none | apply tidyS_some | apply tidyS1_none | apply tidyS2_none) | with_reducible (apply tidy_fst; first | apply State.dirSearch_tidy) | split | with_reducible (fail_if_no_progress apply tidy_mk) | with_reducible (first | refine of1 ?_ (by assumption) | refine of2 ?_ (by assumption) | refine ofS ?_ (by assumption) | refine ofS1 ?_ (by assumption) | refine ofS2 ?_ (by assumption) | refine ofS3 ?_ (by assumption) | refine of3 ?_ (by assumption)) | dsimp only)

theorem State.ovfNews_tidy {pq} {s was : State} (hs : Tidy pq s) (hwas : Tidy pq was) : Tidy pq (State.ovfNews s was) := by
  unfold State.ovfNews
  repeat' (first | with_reducible assumption | with_reducible (first | apply tidy_ite | apply State.irq_tidy))

theorem State.setOvfUse_tidy {pq} {s : State} {n : ℕ} (hs : Tidy pq s) : Tidy pq (State.setOvfUse s n) := by
  unfold State.setOvfUse
  repeat' (first | with_reducible assumption | with_reducible (first | apply State.ovfNews_tidy | apply State.peak_tidy | apply State.setF_tidy))

theorem State.dirPlace_tidy {pq} {s : State} {id index : ℕ} (hs : Tidy pq s) : Tidy1 pq (State.dirPlace s id index) := by
  unfold State.dirPlace
  repeat' (first | with_reducible assumption | (extract_lets +onlyGivenNames zz; first | (refine (fun (hz : Tidy pq zz) => ?_) ?_; (on_goal 1 => (try clear_value zz; rename' zz => zy, hz => hy)); (on_goal 2 => subst zz)) | (refine (fun (hz : ∀ t, Tidy pq t → Tidy pq (zz t)) => ?_) ?_; (on_goal 1 => (try clear_value zz; rename' zz => zy, hz => hf)); (on_goal 2 => (subst zz; intro _ _; beta_reduce))) | (refine (fun (hz : ∀ t, Tidy pq (zz t)) => ?_) ?_; (on_goal 1 => (try clear_value zz; rename' zz => zy, hz => hf)); (on_goal 2 => (subst zz; intro _; beta_reduce))) | (try clear_value zz; rename' zz => zy)) | with_reducible (first | apply State.putEntry_tidy | apply State.count_tidy | apply State.setHeader_tidy | apply State.setOvfUse_tidy | apply tidy1_mk | apply tidy2_mk | apply tidyS_none | apply tidyS_some | apply tidyS1_none | apply tidyS2_none) | with_reducible (apply tidy_fst; first | apply tidy1_ite) | with_reducible (apply tidy_snd; first | apply tidy2_ite) | split | with_reducible (first | apply tidy_ite | apply tidy1_ite | apply tidy2_ite) | with_reducible (fail_if_no_progress apply tidy_mk) | with_reducible (apply hf) | with_reducible (first | refine of1 ?_ (by assumption) | refine of2 ?_ (by assumption) | refine ofS ?_ (by assumption) | refine ofS1 ?_ (by assumption) | refine ofS2 ?_ (by assumption) | refine ofS3 ?_ (by assumption) | refine of3 ?_ (by assumption)) | dsimp only)

theorem State.dirRemove_tidy {pq} {s : State} {a : ℕ} (hs : Tidy pq s) : Tidy pq (State.dirRemove s a) := by
  unfold State.dirRemove
  repeat' (first | with_reducible assumption | (extract_lets +onlyGivenNames zz; first | (refine (fun (hz : Tidy pq zz) => ?_) ?_; (on_goal 1 => (try clear_value zz; rename' zz => zy, hz => hy)); (on_goal 2 => subst zz)) | (refine (fun (hz : ∀ t, Tidy pq t → Tidy pq (zz t)) => ?_) ?_; (on_goal 1 => (try clear_value zz; rename' zz => zy, hz => hf)); (on_goal 2 => (subst zz; intro _ _; beta_reduce))) | (refine (fun (hz : ∀ t, Tidy pq (zz t)) => ?_) ?_; (on_goal 1 => (try clear_value zz; rename' zz => zy, hz => hf)); (on_goal 2 => (subst zz; intro _; beta_reduce))) | (try clear_value zz; rename' zz => zy)) | with_reducible (first | apply State.setF_tidy | apply State.setHeader_tidy | apply State.freeEntry_tidy | apply State.setOvfUse_tidy | apply tidyS_none | apply tidyS_some | apply tidyS1_none | apply tidyS2_none) | split | with_reducible (fail_if_no_progress apply tidy_mk) | with_reducible (apply hf) | with_reducible (first | refine of1 ?_ (by assumption) | refine of2 ?_ (by assumption) | refine ofS ?_ (by assumption) | refine ofS1 ?_ (by assumption) | refine ofS2 ?_ (by assumption) | refine ofS3 ?_ (by assumption) | refine of3 ?_ (by assumption)) | dsimp only)

theorem State.putRoute_tidy {pq} {s : State} {id w1 order digest : ℕ} (hs : Tidy pq s) : Tidy1 pq (State.putRoute s id w1 order digest) := by
  unfold State.putRoute
  repeat' (first | with_reducible assumption | (extract_lets +onlyGivenNames zz; first | (refine (fun (hz : Tidy pq zz) => ?_) ?_; (on_goal 1 => (try clear_value zz; rename' zz => zy, hz => hy)); (on_goal 2 => subst zz)) | (try clear_value zz; rename' zz => zy)) | with_reducible (first | apply State.putEntry_tidy | apply State.count_tidy | apply tidy1_mk | apply tidy2_mk | apply tidyS_none | apply tidyS_some | apply tidyS1_none | apply tidyS2_none) | with_reducible (apply tidy_fst; first | apply tidy1_ite) | with_reducible (apply tidy_snd; first | apply tidy2_ite) | split | with_reducible (first | apply tidy_ite | apply tidy1_ite | apply tidy2_ite) | with_reducible (fail_if_no_progress apply tidy_mk) | with_reducible (first | refine of1 ?_ (by assumption) | refine of2 ?_ (by assumption) | refine ofS ?_ (by assumption) | refine ofS1 ?_ (by assumption) | refine ofS2 ?_ (by assumption) | refine ofS3 ?_ (by assumption) | refine of3 ?_ (by assumption)) | dsimp only)

theorem State.learnRoute_tidy {pq} {s : State} {f : Frame} {order : ℕ} (hs : Tidy pq s) : Tidy1 pq (State.learnRoute s f order) := by
  unfold State.learnRoute
  repeat' (first | with_reducible assumption | (extract_lets +onlyGivenNames zz; first | (refine (fun (hz : Tidy pq zz) => ?_) ?_; (on_goal 1 => (try clear_value zz; rename' zz => zy, hz => hy)); (on_goal 2 => subst zz)) | (try clear_value zz; rename' zz => zy)) | with_reducible (first | apply tidy_ite | apply tidy1_ite | apply tidy2_ite | apply State.readBucket_tidy | apply State.setRec_tidy | apply State.touch_tidy | apply State.putRoute_tidy | apply tidy1_mk | apply tidy2_mk) | with_reducible (apply tidy_fst; first | apply State.putRoute_tidy | apply tidy1_ite) | with_reducible (apply tidy_snd; first | apply tidy2_ite) | with_reducible (first | refine of1 ?_ (by assumption) | refine of2 ?_ (by assumption) | refine ofS ?_ (by assumption) | refine ofS1 ?_ (by assumption) | refine ofS2 ?_ (by assumption) | refine ofS3 ?_ (by assumption) | refine of3 ?_ (by assumption)) | dsimp only)

theorem State.evictFloor_tidy {pq} {s : State} {id tok : ℕ} (hs : Tidy pq s) : Tidy pq (State.evictFloor s id tok) := by
  unfold State.evictFloor
  repeat' (first | with_reducible assumption | (extract_lets +onlyGivenNames zz; first | (refine (fun (hz : Tidy pq zz) => ?_) ?_; (on_goal 1 => (try clear_value zz; rename' zz => zy, hz => hy)); (on_goal 2 => subst zz)) | (try clear_value zz; rename' zz => zy)) | with_reducible (first | apply State.dirFind_tidy | apply State.setRec_tidy | apply State.touch_tidy | apply tidy1_mk | apply tidy2_mk | apply tidyS_none | apply tidyS_some | apply tidyS1_none | apply tidyS2_none) | with_reducible (apply tidy_fst; first | apply State.dirFind_tidy) | split | with_reducible (fail_if_no_progress apply tidy_mk) | with_reducible (first | refine of1 ?_ (by assumption) | refine of2 ?_ (by assumption) | refine ofS ?_ (by assumption) | refine ofS1 ?_ (by assumption) | refine ofS2 ?_ (by assumption) | refine ofS3 ?_ (by assumption) | refine of3 ?_ (by assumption)) | dsimp only)

theorem State.ledgerInsert_tidy {pq} {s : State} {id tok cls amount order : ℕ} (hs : Tidy pq s) : Tidy pq (State.ledgerInsert s id tok cls amount order) := by
  unfold State.ledgerInsert
  repeat' (first | with_reducible assumption | (extract_lets +onlyGivenNames zz; first | (refine (fun (hz : Tidy pq zz) => ?_) ?_; (on_goal 1 => (try clear_value zz; rename' zz => zy, hz => hy)); (on_goal 2 => subst zz)) | (refine (fun (hz : ∀ t, Tidy pq t → Tidy pq (zz t)) => ?_) ?_; (on_goal 1 => (try clear_value zz; rename' zz => zy, hz => hf)); (on_goal 2 => (subst zz; intro _ _; beta_reduce))) | (refine (fun (hz : ∀ t, Tidy pq (zz t)) => ?_) ?_; (on_goal 1 => (try clear_value zz; rename' zz => zy, hz => hf)); (on_goal 2 => (subst zz; intro _; beta_reduce))) | (try clear_value zz; rename' zz => zy)) | with_reducible (first | apply State.putEntry_tidy | apply State.count_tidy | apply State.evictFloor_tidy | apply tidyS_none | apply tidyS_some | apply tidyS1_none | apply tidyS2_none) | split | with_reducible (fail_if_no_progress apply tidy_mk) | with_reducible (apply hf) | with_reducible (first | refine of1 ?_ (by assumption) | refine of2 ?_ (by assumption) | refine ofS ?_ (by assumption) | refine ofS1 ?_ (by assumption) | refine ofS2 ?_ (by assumption) | refine ofS3 ?_ (by assumption) | refine of3 ?_ (by assumption)) | dsimp only)


/-! ## PathOps -/

theorem State.feed_tidy {pq} {s : State} {r : Rec} (hs : Tidy pq s) : Tidy pq (State.feed s r) := by
  unfold State.feed
  repeat' (first | with_reducible assumption | with_reducible (first | apply tidy_ite | apply State.enq_tidy))

theorem State.endBatch_tidy {pq} {s : State} {k : ℕ} (hs : Tidy pq s) : Tidy pq (State.endBatch s k) := by
  unfold State.endBatch
  repeat' (first | with_reducible assumption | with_reducible (first | apply State.setBatch_tidy | apply State.creditBack_tidy | apply tidyS_none | apply tidyS_some | apply tidyS1_none | apply tidyS2_none) | split | with_reducible (first | apply tidy_ite) | with_reducible (fail_if_no_progress apply tidy_mk) | with_reducible (first | refine of1 ?_ (by assumption) | refine of2 ?_ (by assumption) | refine ofS ?_ (by assumption) | refine ofS1 ?_ (by assumption) | refine ofS2 ?_ (by assumption) | refine ofS3 ?_ (by assumption) | refine of3 ?_ (by assumption)) | dsimp only)

theorem State.abandonBatch_tidy {pq} {s : State} {k : ℕ} (hs : Tidy pq s) : Tidy pq (State.abandonBatch s k) := by
  unfold State.abandonBatch
  repeat' (first | with_reducible assumption | (extract_lets +onlyGivenNames zz; first | (refine (fun (hz : Tidy pq zz) => ?_) ?_; (on_goal 1 => (try clear_value zz; rename' zz => zy, hz => hy)); (on_goal 2 => subst zz)) | (refine (fun (hz : ∀ t, Tidy pq t → Tidy pq (zz t)) => ?_) ?_; (on_goal 1 => (try clear_value zz; rename' zz => zy, hz => hf)); (on_goal 2 => (subst zz; intro _ _; beta_reduce))) | (refine (fun (hz : ∀ t, Tidy pq (zz t)) => ?_) ?_; (on_goal 1 => (try clear_value zz; rename' zz => zy, hz => hf)); (on_goal 2 => (subst zz; intro _; beta_reduce))) | (try clear_value zz; rename' zz => zy)) | with_reducible (first | apply State.irq_tidy | apply State.count_tidy | apply State.endBatch_tidy | apply tidy1_mk | apply tidy2_mk | apply tidyS_none | apply tidyS_some | apply tidyS1_none | apply tidyS2_none) | split | with_reducible (first | apply tidy_ite) | with_reducible (fail_if_no_progress apply tidy_mk) | with_reducible (apply hf) | with_reducible (first | refine of1 ?_ (by assumption) | refine of2 ?_ (by assumption) | refine ofS ?_ (by assumption) | refine ofS1 ?_ (by assumption) | refine ofS2 ?_ (by assumption) | refine ofS3 ?_ (by assumption) | refine of3 ?_ (by assumption)) | dsimp only)

theorem State.loseAck_tidy {pq} {s : State} {a : Ack} (hs : Tidy pq s) : Tidy pq (State.loseAck s a) := by
  unfold State.loseAck
  repeat' (first | with_reducible assumption | (extract_lets +onlyGivenNames zz; first | (refine (fun (hz : Tidy pq zz) => ?_) ?_; (on_goal 1 => (try clear_value zz; rename' zz => zy, hz => hy)); (on_goal 2 => subst zz)) | (try clear_value zz; rename' zz => zy)) | with_reducible (first | apply State.count_tidy | apply State.abandonBatch_tidy | apply tidy1_mk | apply tidy2_mk | apply tidyS_none | apply tidyS_some | apply tidyS1_none | apply tidyS2_none) | split | with_reducible (fail_if_no_progress apply tidy_mk) | with_reducible (first | refine of1 ?_ (by assumption) | refine of2 ?_ (by assumption) | refine ofS ?_ (by assumption) | refine ofS1 ?_ (by assumption) | refine ofS2 ?_ (by assumption) | refine ofS3 ?_ (by assumption) | refine of3 ?_ (by assumption)) | dsimp only)

theorem State.issueAck_tidy {pq} {s : State} {a : Ack} (hs : Tidy pq s) : Tidy pq (State.issueAck s a) := by
  unfold State.issueAck
  repeat' (first | with_reducible assumption | (extract_lets +onlyGivenNames zz; first | (refine (fun (hz : Tidy pq zz) => ?_) ?_; (on_goal 1 => (try clear_value zz; rename' zz => zy, hz => hy)); (on_goal 2 => subst zz)) | (refine (fun (hz : ∀ t, Tidy pq t → Tidy pq (zz t)) => ?_) ?_; (on_goal 1 => (try clear_value zz; rename' zz => zy, hz => hf)); (on_goal 2 => (subst zz; intro _ _; beta_reduce))) | (refine (fun (hz : ∀ t, Tidy pq (zz t)) => ?_) ?_; (on_goal 1 => (try clear_value zz; rename' zz => zy, hz => hf)); (on_goal 2 => (subst zz; intro _; beta_reduce))) | (try clear_value zz; rename' zz => zy)) | with_reducible (first | apply tidy_ite | apply State.setF_tidy | apply State.enq_tidy | apply State.peak_tidy | apply State.loseAck_tidy) | with_reducible (apply hf) | with_reducible (first | refine of1 ?_ (by assumption) | refine of2 ?_ (by assumption) | refine ofS ?_ (by assumption) | refine ofS1 ?_ (by assumption) | refine ofS2 ?_ (by assumption) | refine ofS3 ?_ (by assumption) | refine of3 ?_ (by assumption)) | dsimp only)

theorem State.markAcked_tidy {pq} {s : State} {m order : ℕ} (hs : Tidy pq s) : Tidy pq (State.markAcked s m order) := by
  unfold State.markAcked
  repeat' (first | with_reducible assumption | with_reducible (first | apply tidy_ite | apply State.setRec_tidy | apply State.touch_tidy))

theorem State.acknowledge_tidy {pq} {s : State} {a : Ack} {order : ℕ} (hs : Tidy pq s) : Tidy pq (State.acknowledge s a order) := by
  unfold State.acknowledge
  repeat' (first | with_reducible assumption | with_reducible (first | apply tidy_ite | apply State.markAcked_tidy | apply State.issueAck_tidy))

theorem State.releaseDups_tidy {pq} {s : State} (hs : Tidy pq s) : Tidy pq (State.releaseDups s) := by
  unfold State.releaseDups
  repeat' (first | with_reducible assumption | with_reducible intro _ | (extract_lets +onlyGivenNames zz; first | (refine (fun (hz : Tidy pq zz) => ?_) ?_; (on_goal 1 => (try clear_value zz; rename' zz => zy, hz => hy)); (on_goal 2 => subst zz)) | (try clear_value zz; rename' zz => zy)) | with_reducible (first | apply foldl_tidy | apply foldl_tidy1 | apply State.acknowledge_tidy) | with_reducible (apply tidy_fst; first | apply foldl_tidy1) | with_reducible (apply tidy_snd; first | apply foldl_tidy2) | with_reducible (fail_if_no_progress apply tidy_mk) | with_reducible (first | refine of1 ?_ (by assumption) | refine of2 ?_ (by assumption) | refine ofS ?_ (by assumption) | refine ofS1 ?_ (by assumption) | refine ofS2 ?_ (by assumption) | refine ofS3 ?_ (by assumption) | refine of3 ?_ (by assumption)) | dsimp only)

theorem State.exitFrame_tidy {pq} {s : State} {code : ℕ} {cnt irq : Field} {f : Frame} (hs : Tidy pq s) : Tidy pq (State.exitFrame s code cnt irq f) := by
  unfold State.exitFrame
  repeat' (first | with_reducible assumption | (extract_lets +onlyGivenNames zz; first | (refine (fun (hz : Tidy pq zz) => ?_) ?_; (on_goal 1 => (try clear_value zz; rename' zz => zy, hz => hy)); (on_goal 2 => subst zz)) | (try clear_value zz; rename' zz => zy)) | with_reducible (first | apply tidy_ite | apply State.enq_tidy | apply State.batchOutcome_tidy | apply State.irq_tidy | apply State.count_tidy) | with_reducible (first | refine of1 ?_ (by assumption) | refine of2 ?_ (by assumption) | refine ofS ?_ (by assumption) | refine ofS1 ?_ (by assumption) | refine ofS2 ?_ (by assumption) | refine ofS3 ?_ (by assumption) | refine of3 ?_ (by assumption)) | dsimp only)

theorem State.dropPoisoned_tidy {pq} {s : State} {f : Frame} (hs : Tidy pq s) : Tidy pq (State.dropPoisoned s f) := by
  unfold State.dropPoisoned
  repeat' (first | with_reducible assumption | with_reducible (first | apply State.batchOutcome_tidy | apply State.count_tidy))

theorem State.unknownMeter_tidy {pq} {s : State} {f : Frame} (hs : Tidy pq s) : Tidy pq (State.unknownMeter s f) := by
  unfold State.unknownMeter
  repeat' (first | with_reducible assumption | with_reducible (first | apply State.set2_tidy | apply State.exitFrame_tidy))

theorem State.pumpMessages_tidy {pq} {s : State} (hs : Tidy pq s) : Tidy pq (State.pumpMessages s) := by
  unfold State.pumpMessages
  repeat' (first | with_reducible assumption | with_reducible intro _ | with_reducible (first | apply tidy_ite | apply foldl_tidy | apply foldl_tidy1 | apply State.enq_tidy) | with_reducible (apply tidy_fst; first | apply foldl_tidy1) | with_reducible (apply tidy_snd; first | apply foldl_tidy2) | with_reducible (fail_if_no_progress apply tidy_mk))

theorem State.setOrderNext_tidy {pq} {s : State} {n : ℕ} (hs : Tidy pq s) : Tidy pq (State.setOrderNext s n) := by
  unfold State.setOrderNext
  repeat' (first | with_reducible assumption | with_reducible (first | apply State.set2_tidy))

theorem State.setCommitNext_tidy {pq} {s : State} {n : ℕ} (hs : Tidy pq s) : Tidy pq (State.setCommitNext s n) := by
  unfold State.setCommitNext
  repeat' (first | with_reducible assumption | with_reducible (first | apply State.set2_tidy))

theorem State.noteHold_tidy {pq} {s was : State} (hs : Tidy pq s) (hwas : Tidy pq was) : Tidy pq (State.noteHold s was) := by
  unfold State.noteHold
  repeat' (first | with_reducible assumption | with_reducible (first | apply tidy_ite | apply State.irq_tidy))

theorem State.takeReplay_tidy {pq} {s : State} {n : ℕ} {b : Bytes} (hs : Tidy pq s) : Tidy pq (State.takeReplay s n b) := by
  unfold State.takeReplay
  repeat' (first | with_reducible assumption | (extract_lets +onlyGivenNames zz; first | (refine (fun (hz : Tidy pq zz) => ?_) ?_; (on_goal 1 => (try clear_value zz; rename' zz => zy, hz => hy)); (on_goal 2 => subst zz)) | (refine (fun (hz : ∀ t, Tidy pq t → Tidy pq (zz t)) => ?_) ?_; (on_goal 1 => (try clear_value zz; rename' zz => zy, hz => hf)); (on_goal 2 => (subst zz; intro _ _; beta_reduce))) | (refine (fun (hz : ∀ t, Tidy pq (zz t)) => ?_) ?_; (on_goal 1 => (try clear_value zz; rename' zz => zy, hz => hf)); (on_goal 2 => (subst zz; intro _; beta_reduce))) | (try clear_value zz; rename' zz => zy)) | with_reducible (first | apply State.write_tidy | apply State.peak_tidy | apply State.setF_tidy) | with_reducible (fail_if_no_progress apply tidy_mk) | with_reducible (apply hf) | with_reducible (first | refine of1 ?_ (by assumption) | refine of2 ?_ (by assumption) | refine ofS ?_ (by assumption) | refine ofS1 ?_ (by assumption) | refine ofS2 ?_ (by assumption) | refine ofS3 ?_ (by assumption) | refine of3 ?_ (by assumption)) | dsimp only)

theorem State.freeReplay_tidy {pq} {s : State} {n : ℕ} (hs : Tidy pq s) : Tidy pq (State.freeReplay s n) := by
  unfold State.freeReplay
  repeat' (first | with_reducible assumption | (extract_lets +onlyGivenNames zz; first | (refine (fun (hz : Tidy pq zz) => ?_) ?_; (on_goal 1 => (try clear_value zz; rename' zz => zy, hz => hy)); (on_goal 2 => subst zz)) | (try clear_value zz; rename' zz => zy)) | with_reducible (first | apply tidy_ite | apply State.setF_tidy) | with_reducible (fail_if_no_progress apply tidy_mk) | with_reducible (first | refine of1 ?_ (by assumption) | refine of2 ?_ (by assumption) | refine ofS ?_ (by assumption) | refine ofS1 ?_ (by assumption) | refine ofS2 ?_ (by assumption) | refine ofS3 ?_ (by assumption) | refine of3 ?_ (by assumption)) | dsimp only)

theorem State.writeMeta_tidy {pq} {s : State} {n : ℕ} {f : Frame} (hs : Tidy pq s) : Tidy pq (State.writeMeta s n f) := by
  unfold State.writeMeta
  repeat' (first | with_reducible assumption | with_reducible (fail_if_no_progress apply tidy_mk))

theorem State.advanceHead_tidy {pq} {s : State} (hs : Tidy pq s) : Tidy pq (State.advanceHead s) := by
  unfold State.advanceHead
  repeat' (first | with_reducible assumption | with_reducible intro _ | (extract_lets +onlyGivenNames zz; first | (refine (fun (hz : Tidy pq zz) => ?_) ?_; (on_goal 1 => (try clear_value zz; rename' zz => zy, hz => hy)); (on_goal 2 => subst zz)) | (refine (fun (hz : ∀ t, Tidy pq t → Tidy pq (zz t)) => ?_) ?_; (on_goal 1 => (try clear_value zz; rename' zz => zy, hz => hf)); (on_goal 2 => (subst zz; intro _ _; beta_reduce))) | (refine (fun (hz : ∀ t, Tidy pq (zz t)) => ?_) ?_; (on_goal 1 => (try clear_value zz; rename' zz => zy, hz => hf)); (on_goal 2 => (subst zz; intro _; beta_reduce))) | (try clear_value zz; rename' zz => zy)) | with_reducible (first | apply tidy_ite | apply State.setF_tidy | apply State.setCommitNext_tidy) | with_reducible (fail_if_no_progress apply tidy_mk) | with_reducible (apply hf) | with_reducible (first | refine of1 ?_ (by assumption) | refine of2 ?_ (by assumption) | refine ofS ?_ (by assumption) | refine ofS1 ?_ (by assumption) | refine ofS2 ?_ (by assumption) | refine ofS3 ?_ (by assumption) | refine of3 ?_ (by assumption)) | dsimp only)

theorem State.newHead_tidy {pq} {s : State} (hs : Tidy pq s) : Tidy pq (State.newHead s) := by
  unfold State.newHead
  repeat' (first | with_reducible assumption | (extract_lets +onlyGivenNames zz; first | (refine (fun (hz : Tidy pq zz) => ?_) ?_; (on_goal 1 => (try clear_value zz; rename' zz => zy, hz => hy)); (on_goal 2 => subst zz)) | (refine (fun (hz : ∀ t, Tidy pq t → Tidy pq (zz t)) => ?_) ?_; (on_goal 1 => (try clear_value zz; rename' zz => zy, hz => hf)); (on_goal 2 => (subst zz; intro _ _; beta_reduce))) | (refine (fun (hz : ∀ t, Tidy pq (zz t)) => ?_) ?_; (on_goal 1 => (try clear_value zz; rename' zz => zy, hz => hf)); (on_goal 2 => (subst zz; intro _; beta_reduce))) | (try clear_value zz; rename' zz => zy)) | with_reducible (first | apply State.setF_tidy | apply State.advanceHead_tidy) | with_reducible (fail_if_no_progress apply tidy_mk) | with_reducible (apply hf) | with_reducible (first | refine of1 ?_ (by assumption) | refine of2 ?_ (by assumption) | refine ofS ?_ (by assumption) | refine ofS1 ?_ (by assumption) | refine ofS2 ?_ (by assumption) | refine ofS3 ?_ (by assumption) | refine of3 ?_ (by assumption)) | dsimp only)

theorem State.freeReorder_tidy {pq} {s : State} {fl : Flight} (hs : Tidy pq s) : Tidy pq (State.freeReorder s fl) := by
  unfold State.freeReorder
  repeat' (first | with_reducible assumption | with_reducible (first | apply tidy_ite | apply State.creditBack_tidy))

theorem State.switchDone_tidy {pq} {s : State} (hs : Tidy pq s) : Tidy pq (State.switchDone s) := by
  unfold State.switchDone
  repeat' (first | with_reducible assumption | with_reducible (first | apply tidy_ite | apply State.irq_tidy | apply State.setF_tidy))

theorem State.endFlight_tidy {pq} {s : State} {n : ℕ} {fl : Flight} (hs : Tidy pq s) : Tidy pq (State.endFlight s n fl) := by
  unfold State.endFlight
  repeat' (first | with_reducible assumption | with_reducible (first | apply State.advanceHead_tidy | apply State.switchDone_tidy | apply State.pruneGens_tidy | apply State.setFlight_tidy | apply State.freeReorder_tidy | apply State.leavePlain_tidy | apply tidyS_none | apply tidyS_some | apply tidyS1_none | apply tidyS2_none))

theorem State.toDecrypt_tidy {pq} {s : State} {n : ℕ} {fl : Flight} (hs : Tidy pq s) : Tidy pq (State.toDecrypt s n fl) := by
  unfold State.toDecrypt
  repeat' (first | with_reducible assumption | (extract_lets +onlyGivenNames zz; first | (refine (fun (hz : Tidy pq zz) => ?_) ?_; (on_goal 1 => (try clear_value zz; rename' zz => zy, hz => hy)); (on_goal 2 => subst zz)) | (try clear_value zz; rename' zz => zy)) | with_reducible (first | apply tidy_ite | apply State.enq_tidy | apply State.setFlight_tidy | apply tidy1_mk | apply tidy2_mk) | with_reducible (fail_if_no_progress apply tidy_mk) | with_reducible (first | refine of1 ?_ (by assumption) | refine of2 ?_ (by assumption) | refine ofS ?_ (by assumption) | refine ofS1 ?_ (by assumption) | refine ofS2 ?_ (by assumption) | refine ofS3 ?_ (by assumption) | refine of3 ?_ (by assumption)) | dsimp only)

theorem State.release_tidy {pq} {s : State} (hs : Tidy pq s) : Tidy pq (State.release s) := by
  unfold State.release
  repeat' (first | with_reducible assumption | with_reducible intro _ | with_reducible (first | apply foldl_tidy | apply foldl_tidy1 | apply State.toDecrypt_tidy | apply tidyS_none | apply tidyS_some | apply tidyS1_none | apply tidyS2_none) | with_reducible (apply tidy_fst; first | apply foldl_tidy1) | with_reducible (apply tidy_snd; first | apply foldl_tidy2) | split | with_reducible (first | apply tidy_ite) | with_reducible (fail_if_no_progress apply tidy_mk) | with_reducible (first | refine of1 ?_ (by assumption) | refine of2 ?_ (by assumption) | refine ofS ?_ (by assumption) | refine ofS1 ?_ (by assumption) | refine ofS2 ?_ (by assumption) | refine ofS3 ?_ (by assumption) | refine of3 ?_ (by assumption)) | dsimp only)

theorem State.launch_tidy {pq} {s : State} {n : ℕ} {f : Frame} (hs : Tidy pq s) : Tidy pq (State.launch s n f) := by
  unfold State.launch
  repeat' (first | with_reducible assumption | with_reducible intro _ | (extract_lets +onlyGivenNames zz; first | (refine (fun (hz : Tidy pq zz) => ?_) ?_; (on_goal 1 => (try clear_value zz; rename' zz => zy, hz => hy)); (on_goal 2 => subst zz)) | (refine (fun (hz : ∀ t, Tidy pq t → Tidy pq (zz t)) => ?_) ?_; (on_goal 1 => (try clear_value zz; rename' zz => zy, hz => hf)); (on_goal 2 => (subst zz; intro _ _; beta_reduce))) | (refine (fun (hz : ∀ t, Tidy pq (zz t)) => ?_) ?_; (on_goal 1 => (try clear_value zz; rename' zz => zy, hz => hf)); (on_goal 2 => (subst zz; intro _; beta_reduce))) | (try clear_value zz; rename' zz => zy)) | with_reducible (first | apply tidy_ite | apply tidyS_ite | apply State.writeMeta_tidy | apply State.takeReplay_tidy | apply State.setFlight_tidy | apply State.newHead_tidy | apply State.toDecrypt_tidy | apply tidy1_mk | apply tidy2_mk | apply map_tidyS | apply map_tidyS_of2 | apply map_tidyS_any | apply tidy_getD) | with_reducible (apply hf) | with_reducible (first | refine of1 ?_ (by assumption) | refine of2 ?_ (by assumption) | refine ofS ?_ (by assumption) | refine ofS1 ?_ (by assumption) | refine ofS2 ?_ (by assumption) | refine ofS3 ?_ (by assumption) | refine of3 ?_ (by assumption)) | dsimp only)

theorem State.launchOrdered_tidy {pq} {s : State} {n : ℕ} {o : Ordered} (hs : Tidy pq s) : Tidy pq (State.launchOrdered s n o) := by
  unfold State.launchOrdered
  extract_lets +onlyGivenNames a x b c d e
  have hd : Tidy pq d := State.setFlight_tidy (State.peak_tidy (State.setQueue_tidy (State.takeReplay_tidy hs)))
  have he : Tidy pq e := tidy_mk hd
  exact tidy_ite (State.newHead_tidy he) he


/-! ## Lanes -/

theorem State.loadWindow_tidy {pq} {s : State} {n meter : ℕ} {copy : Bytes} (hs : Tidy pq s) : Tidy pq (State.loadWindow s n meter copy) := by
  unfold State.loadWindow
  repeat' (first | with_reducible assumption | with_reducible intro _ | (extract_lets +onlyGivenNames zz; first | (refine (fun (hz : Tidy pq zz) => ?_) ?_; (on_goal 1 => (try clear_value zz; rename' zz => zy, hz => hy)); (on_goal 2 => subst zz)) | (try clear_value zz; rename' zz => zy)) | with_reducible (first | apply foldl_tidy | apply foldl_tidy1 | apply State.write_tidy | apply State.applyEffect_tidy) | with_reducible (apply tidy_fst; first | apply foldl_tidy1) | with_reducible (apply tidy_snd; first | apply foldl_tidy2) | with_reducible (first | refine of1 ?_ (by assumption) | refine of2 ?_ (by assumption) | refine ofS ?_ (by assumption) | refine ofS1 ?_ (by assumption) | refine ofS2 ?_ (by assumption) | refine ofS3 ?_ (by assumption) | refine of3 ?_ (by assumption)) | dsimp only)

theorem State.takeSlot_tidy {pq} {s : State} {order : ℕ} {fl : Flight} (hs : Tidy pq s) : Tidy pq (State.takeSlot s order fl) := by
  unfold State.takeSlot
  repeat' (first | with_reducible assumption | (extract_lets +onlyGivenNames zz; first | (refine (fun (hz : Tidy pq zz) => ?_) ?_; (on_goal 1 => (try clear_value zz; rename' zz => zy, hz => hy)); (on_goal 2 => subst zz)) | (try clear_value zz; rename' zz => zy)) | with_reducible (first | apply tidy_ite | apply State.setQueue_tidy | apply State.setFlight_tidy | apply State.peak_tidy | apply tidy1_mk | apply tidy2_mk) | with_reducible (fail_if_no_progress apply tidy_mk) | with_reducible (first | refine of1 ?_ (by assumption) | refine of2 ?_ (by assumption) | refine ofS ?_ (by assumption) | refine ofS1 ?_ (by assumption) | refine ofS2 ?_ (by assumption) | refine ofS3 ?_ (by assumption) | refine of3 ?_ (by assumption)) | dsimp only)

theorem execLaneFrameStart_tidy {pq} {lane : Fin 32} {s : State} (hs : Tidy pq s) : TidyO pq (execLaneFrameStart lane s) := by
  unfold execLaneFrameStart
  repeat' (first | with_reducible assumption | with_reducible intro _ | (extract_lets +onlyGivenNames zz; first | (refine (fun (hz : Tidy pq zz) => ?_) ?_; (on_goal 1 => (try clear_value zz; rename' zz => zy, hz => hy)); (on_goal 2 => subst zz)) | (try clear_value zz; rename' zz => zy)) | with_reducible (first | apply idle_tidy | apply State.withDram_tidy | apply State.eccCorrect_tidy | apply State.takeSlot_tidy | apply State.setFlight_tidy | apply State.loadWindow_tidy | apply State.setF_tidy | apply State.setLane_tidy | apply tidyO_next | apply tidy1_mk | apply tidy2_mk | apply tidyS_none | apply tidyS_some | apply tidyS1_none | apply tidyS2_none) | split | with_reducible (first | apply tidy_ite | apply tidyO_ite) | with_reducible (fail_if_no_progress apply tidy_mk) | with_reducible (first | refine of1 ?_ (by assumption) | refine of2 ?_ (by assumption) | refine ofS ?_ (by assumption) | refine ofS1 ?_ (by assumption) | refine ofS2 ?_ (by assumption) | refine ofS3 ?_ (by assumption) | refine of3 ?_ (by assumption)) | dsimp only)

theorem State.dropWord_tidy {pq} {s : State} {n : ℕ} (hs : Tidy pq s) : TidyS pq (State.dropWord s n) := by
  unfold State.dropWord
  repeat' (first | with_reducible assumption | with_reducible intro _ | (extract_lets +onlyGivenNames zz; first | (refine (fun (hz : Tidy pq zz) => ?_) ?_; (on_goal 1 => (try clear_value zz; rename' zz => zy, hz => hy)); (on_goal 2 => subst zz)) | (try clear_value zz; rename' zz => zy)) | with_reducible (first | apply State.setQueue_tidy | apply tidy1_mk | apply tidy2_mk | apply tidyS_none | apply tidyS_some | apply tidyS1_none | apply tidyS2_none) | with_reducible (apply tidy_fst; first | apply tidy1_ite) | with_reducible (apply tidy_snd; first | apply tidy2_ite) | split | with_reducible (first | apply tidy_ite | apply tidy1_ite | apply tidy2_ite | apply tidyS_ite) | with_reducible (fail_if_no_progress apply tidy_mk) | with_reducible (first | refine of1 ?_ (by assumption) | refine of2 ?_ (by assumption) | refine ofS ?_ (by assumption) | refine ofS1 ?_ (by assumption) | refine ofS2 ?_ (by assumption) | refine ofS3 ?_ (by assumption) | refine of3 ?_ (by assumption)) | dsimp only)

theorem execPlaintextWordArrive_tidy {pq} {lane : Fin 32} {poison : Bool} {s : State} (hs : Tidy pq s) : TidyO pq (execPlaintextWordArrive lane poison s) := by
  unfold execPlaintextWordArrive
  repeat' (first | with_reducible assumption | (extract_lets +onlyGivenNames zz; first | (refine (fun (hz : Tidy pq zz) => ?_) ?_; (on_goal 1 => (try clear_value zz; rename' zz => zy, hz => hy)); (on_goal 2 => subst zz)) | (try clear_value zz; rename' zz => zy)) | with_reducible (first | apply idle_tidy | apply State.dropWord_tidy | apply State.poisoned_tidy | apply State.setFlight_tidy | apply State.setLane_tidy | apply State.releasePlain_tidy | apply tidyO_next | apply tidy1_mk | apply tidy2_mk | apply tidyS_none | apply tidyS_some | apply tidyS1_none | apply tidyS2_none) | with_reducible (apply tidy_fst; first | apply tidy1_ite) | with_reducible (apply tidy_snd; first | apply tidy2_ite) | split | with_reducible (first | apply tidy_ite | apply tidyO_ite | apply tidy1_ite | apply tidy2_ite) | with_reducible (fail_if_no_progress apply tidy_mk) | with_reducible (first | refine of1 ?_ (by assumption) | refine of2 ?_ (by assumption) | refine ofS ?_ (by assumption) | refine ofS1 ?_ (by assumption) | refine ofS2 ?_ (by assumption) | refine ofS3 ?_ (by assumption) | refine of3 ?_ (by assumption)) | dsimp only)

theorem State.laneTrap_tidy {pq} {s : State} {n k : ℕ} (hs : Tidy pq s) : Tidy pq (State.laneTrap s n k) := by
  unfold State.laneTrap
  repeat' (first | with_reducible assumption | with_reducible (first | apply State.hwQuarantine_tidy))

theorem State.laneStall_tidy {pq} {s : State} {n a k : ℕ} (hs : Tidy pq s) : Tidy pq (State.laneStall s n a k) := by
  unfold State.laneStall
  repeat' (first | with_reducible assumption | with_reducible (first | apply State.setLane_tidy | apply tidy1_mk | apply tidy2_mk | apply tidy_getD) | with_reducible (fail_if_no_progress apply tidy_mk))

theorem State.lanePoison_tidy {pq} {s : State} {n k : ℕ} {fl : Flight} (hs : Tidy pq s) : Tidy pq (State.lanePoison s n k fl) := by
  unfold State.lanePoison
  repeat' (first | with_reducible assumption | (extract_lets +onlyGivenNames zz; first | (refine (fun (hz : Tidy pq zz) => ?_) ?_; (on_goal 1 => (try clear_value zz; rename' zz => zy, hz => hy)); (on_goal 2 => subst zz)) | (try clear_value zz; rename' zz => zy)) | with_reducible (first | apply tidy_ite | apply State.laneTrap_tidy | apply State.count_tidy | apply State.setFlight_tidy | apply State.release_tidy | apply State.fenceLane_tidy | apply State.squashFrom_tidy | apply tidy1_mk | apply tidy2_mk) | with_reducible (fail_if_no_progress apply tidy_mk) | with_reducible (first | refine of1 ?_ (by assumption) | refine of2 ?_ (by assumption) | refine ofS ?_ (by assumption) | refine ofS1 ?_ (by assumption) | refine ofS2 ?_ (by assumption) | refine ofS3 ?_ (by assumption) | refine of3 ?_ (by assumption)) | dsimp only)

theorem State.laneDone_tidy {pq} {s : State} {n rd v cycles : ℕ} (hs : Tidy pq s) : Tidy pq (State.laneDone s n rd v cycles) := by
  unfold State.laneDone
  repeat' (first | with_reducible assumption | (extract_lets +onlyGivenNames zz; first | (refine (fun (hz : Tidy pq zz) => ?_) ?_; (on_goal 1 => (try clear_value zz; rename' zz => zy, hz => hy)); (on_goal 2 => subst zz)) | (try clear_value zz; rename' zz => zy)) | with_reducible (first | apply State.setLane_tidy) | with_reducible (first | refine of1 ?_ (by assumption) | refine of2 ?_ (by assumption) | refine ofS ?_ (by assumption) | refine ofS1 ?_ (by assumption) | refine ofS2 ?_ (by assumption) | refine ofS3 ?_ (by assumption) | refine of3 ?_ (by assumption)) | dsimp only)

theorem State.laneJump_tidy {pq} {s : State} {n k rd v target cycles : ℕ} (hs : Tidy pq s) : Tidy pq (State.laneJump s n k rd v target cycles) := by
  unfold State.laneJump
  repeat' (first | with_reducible assumption | (extract_lets +onlyGivenNames zz; first | (refine (fun (hz : Tidy pq zz) => ?_) ?_; (on_goal 1 => (try clear_value zz; rename' zz => zy, hz => hy)); (on_goal 2 => subst zz)) | (try clear_value zz; rename' zz => zy)) | with_reducible (first | apply tidy_ite | apply State.laneTrap_tidy | apply State.setLane_tidy) | with_reducible (first | refine of1 ?_ (by assumption) | refine of2 ?_ (by assumption) | refine ofS ?_ (by assumption) | refine ofS1 ?_ (by assumption) | refine ofS2 ?_ (by assumption) | refine ofS3 ?_ (by assumption) | refine of3 ?_ (by assumption)) | dsimp only)

theorem State.runRv_tidy {pq} {s : State} {n k : ℕ} {fl : Flight} {i : Rv} (hs : Tidy pq s) : Tidy pq (State.runRv s n k fl i) := by
  unfold State.runRv
  repeat' (first | with_reducible assumption | (extract_lets +onlyGivenNames zz; first | (refine (fun (hz : Tidy pq zz) => ?_) ?_; (on_goal 1 => (try clear_value zz; rename' zz => zy, hz => hy)); (on_goal 2 => subst zz)) | (refine (fun (hz : ∀ t, Tidy pq t → Tidy pq (zz t)) => ?_) ?_; (on_goal 1 => (try clear_value zz; rename' zz => zy, hz => hf)); (on_goal 2 => (subst zz; intro _ _; beta_reduce))) | (refine (fun (hz : ∀ t, Tidy pq (zz t)) => ?_) ?_; (on_goal 1 => (try clear_value zz; rename' zz => zy, hz => hf)); (on_goal 2 => (subst zz; intro _; beta_reduce))) | (try clear_value zz; rename' zz => zy)) | with_reducible (first | apply State.laneDone_tidy | apply State.laneJump_tidy | apply State.laneTrap_tidy | apply State.laneStall_tidy | apply State.lanePoison_tidy | apply State.laneStore_tidy) | split | with_reducible (first | apply tidy_ite) | with_reducible (fail_if_no_progress apply tidy_mk) | with_reducible (apply hf) | with_reducible (first | refine of1 ?_ (by assumption) | refine of2 ?_ (by assumption) | refine ofS ?_ (by assumption) | refine ofS1 ?_ (by assumption) | refine ofS2 ?_ (by assumption) | refine ofS3 ?_ (by assumption) | refine of3 ?_ (by assumption)) | dsimp only)

theorem execLaneRv32Instruction_tidy {pq} {lane : Fin 32} {s : State} (hs : Tidy pq s) : TidyO pq (execLaneRv32Instruction lane s) := by
  unfold execLaneRv32Instruction
  repeat' (first | with_reducible assumption | (extract_lets +onlyGivenNames zz; first | (refine (fun (hz : Tidy pq zz) => ?_) ?_; (on_goal 1 => (try clear_value zz; rename' zz => zy, hz => hy)); (on_goal 2 => subst zz)) | (try clear_value zz; rename' zz => zy)) | with_reducible (first | apply idle_tidy | apply State.laneTrap_tidy | apply State.runRv_tidy | apply tidyO_next | apply tidy1_mk | apply tidy2_mk | apply tidyS_none | apply tidyS_some | apply tidyS1_none | apply tidyS2_none) | split | with_reducible (fail_if_no_progress apply tidy_mk) | with_reducible (first | refine of1 ?_ (by assumption) | refine of2 ?_ (by assumption) | refine ofS ?_ (by assumption) | refine ofS1 ?_ (by assumption) | refine ofS2 ?_ (by assumption) | refine ofS3 ?_ (by assumption) | refine of3 ?_ (by assumption)) | dsimp only)

theorem State.svLdbe_tidy {pq} {s : State} {n k : ℕ} {fl : Flight} {z rd rs1 imm : ℕ} (hs : Tidy pq s) : Tidy pq (State.svLdbe s n k fl z rd rs1 imm) := by
  unfold State.svLdbe
  repeat' (first | with_reducible assumption | with_reducible (first | apply State.laneDone_tidy | apply State.laneTrap_tidy | apply State.laneStall_tidy | apply State.lanePoison_tidy) | split | with_reducible (fail_if_no_progress apply tidy_mk) | with_reducible (first | refine of1 ?_ (by assumption) | refine of2 ?_ (by assumption) | refine ofS ?_ (by assumption) | refine ofS1 ?_ (by assumption) | refine ofS2 ?_ (by assumption) | refine ofS3 ?_ (by assumption) | refine of3 ?_ (by assumption)) | dsimp only)

theorem execSvAxlen_tidy {pq} {lane : Fin 32} {s : State} (hs : Tidy pq s) : TidyO pq (execSvAxlen lane s) := by
  unfold execSvAxlen
  repeat' (first | with_reducible assumption | (extract_lets +onlyGivenNames zz; first | (refine (fun (hz : Tidy pq zz) => ?_) ?_; (on_goal 1 => (try clear_value zz; rename' zz => zy, hz => hy)); (on_goal 2 => subst zz)) | (refine (fun (hz : ∀ t, Tidy pq t → Tidy pq (zz t)) => ?_) ?_; (on_goal 1 => (try clear_value zz; rename' zz => zy, hz => hf)); (on_goal 2 => (subst zz; intro _ _; beta_reduce))) | (refine (fun (hz : ∀ t, Tidy pq (zz t)) => ?_) ?_; (on_goal 1 => (try clear_value zz; rename' zz => zy, hz => hf)); (on_goal 2 => (subst zz; intro _; beta_reduce))) | (try clear_value zz; rename' zz => zy)) | with_reducible (first | apply idle_tidy | apply State.laneTrap_tidy | apply State.laneStall_tidy | apply State.lanePoison_tidy | apply State.laneDone_tidy | apply tidyO_next | apply tidy1_mk | apply tidy2_mk | apply tidyS_none | apply tidyS_some | apply tidyS1_none | apply tidyS2_none) | with_reducible (apply tidy_fst; first | apply tidy1_ite) | with_reducible (apply tidy_snd; first | apply tidy2_ite) | split | with_reducible (first | apply tidy_ite | apply tidyO_ite | apply tidy1_ite | apply tidy2_ite) | with_reducible (fail_if_no_progress apply tidy_mk) | with_reducible (apply hf) | with_reducible (first | refine of1 ?_ (by assumption) | refine of2 ?_ (by assumption) | refine ofS ?_ (by assumption) | refine ofS1 ?_ (by assumption) | refine ofS2 ?_ (by assumption) | refine ofS3 ?_ (by assumption) | refine of3 ?_ (by assumption)) | dsimp only)

theorem execSvTariff_tidy {pq} {lane : Fin 32} {s : State} (hs : Tidy pq s) : TidyO pq (execSvTariff lane s) := by
  unfold execSvTariff
  repeat' (first | with_reducible assumption | (extract_lets +onlyGivenNames zz; first | (refine (fun (hz : Tidy pq zz) => ?_) ?_; (on_goal 1 => (try clear_value zz; rename' zz => zy, hz => hy)); (on_goal 2 => subst zz)) | (try clear_value zz; rename' zz => zy)) | with_reducible (first | apply idle_tidy | apply State.laneDone_tidy | apply tidyO_next | apply tidy1_mk | apply tidy2_mk) | with_reducible (apply tidy_fst; first | apply tidy1_ite) | with_reducible (apply tidy_snd; first | apply tidy2_ite) | split | with_reducible (first | apply tidy_ite | apply tidyO_ite | apply tidy1_ite | apply tidy2_ite) | with_reducible (fail_if_no_progress apply tidy_mk) | with_reducible (first | refine of1 ?_ (by assumption) | refine of2 ?_ (by assumption) | refine ofS ?_ (by assumption) | refine ofS1 ?_ (by assumption) | refine ofS2 ?_ (by assumption) | refine ofS3 ?_ (by assumption) | refine of3 ?_ (by assumption)) | dsimp only)

theorem execSvCdate_tidy {pq} {lane : Fin 32} {s : State} (hs : Tidy pq s) : TidyO pq (execSvCdate lane s) := by
  unfold execSvCdate
  repeat' (first | with_reducible assumption | (extract_lets +onlyGivenNames zz; first | (refine (fun (hz : Tidy pq zz) => ?_) ?_; (on_goal 1 => (try clear_value zz; rename' zz => zy, hz => hy)); (on_goal 2 => subst zz)) | (try clear_value zz; rename' zz => zy)) | with_reducible (first | apply idle_tidy | apply State.laneTrap_tidy | apply State.laneStall_tidy | apply State.lanePoison_tidy | apply State.laneDone_tidy | apply tidyO_next | apply tidy1_mk | apply tidy2_mk) | split | with_reducible (fail_if_no_progress apply tidy_mk) | with_reducible (first | refine of1 ?_ (by assumption) | refine of2 ?_ (by assumption) | refine ofS ?_ (by assumption) | refine ofS1 ?_ (by assumption) | refine ofS2 ?_ (by assumption) | refine ofS3 ?_ (by assumption) | refine of3 ?_ (by assumption)) | dsimp only)

theorem execSvLdbeH_tidy {pq} {lane : Fin 32} {s : State} (hs : Tidy pq s) : TidyO pq (execSvLdbeH lane s) := by
  unfold execSvLdbeH
  repeat' (first | with_reducible assumption | with_reducible (first | apply idle_tidy | apply State.svLdbe_tidy | apply tidyO_next | apply tidy1_mk | apply tidy2_mk) | split | with_reducible (fail_if_no_progress apply tidy_mk) | with_reducible (first | refine of1 ?_ (by assumption) | refine of2 ?_ (by assumption) | refine ofS ?_ (by assumption) | refine ofS1 ?_ (by assumption) | refine ofS2 ?_ (by assumption) | refine ofS3 ?_ (by assumption) | refine of3 ?_ (by assumption)) | dsimp only)

theorem execSvLdbeW_tidy {pq} {lane : Fin 32} {s : State} (hs : Tidy pq s) : TidyO pq (execSvLdbeW lane s) := by
  unfold execSvLdbeW
  repeat' (first | with_reducible assumption | with_reducible (first | apply idle_tidy | apply State.svLdbe_tidy | apply tidyO_next | apply tidy1_mk | apply tidy2_mk) | split | with_reducible (fail_if_no_progress apply tidy_mk) | with_reducible (first | refine of1 ?_ (by assumption) | refine of2 ?_ (by assumption) | refine ofS ?_ (by assumption) | refine ofS1 ?_ (by assumption) | refine ofS2 ?_ (by assumption) | refine ofS3 ?_ (by assumption) | refine of3 ?_ (by assumption)) | dsimp only)

theorem State.addEffect_tidy {pq} {s : State} {n k : ℕ} {e : Effect} (hs : Tidy pq s) : Tidy pq (State.addEffect s n k e) := by
  unfold State.addEffect
  repeat' (first | with_reducible assumption | (extract_lets +onlyGivenNames zz; first | (refine (fun (hz : Tidy pq zz) => ?_) ?_; (on_goal 1 => (try clear_value zz; rename' zz => zy, hz => hy)); (on_goal 2 => subst zz)) | (try clear_value zz; rename' zz => zy)) | with_reducible (first | apply tidy_ite | apply State.hwQuarantine_tidy | apply State.setLane_tidy | apply State.setLaneFx_tidy | apply State.laneDone_tidy | apply State.applyEffect_tidy | apply tidy1_mk | apply tidy2_mk) | with_reducible (fail_if_no_progress apply tidy_mk) | with_reducible (first | refine of1 ?_ (by assumption) | refine of2 ?_ (by assumption) | refine ofS ?_ (by assumption) | refine ofS1 ?_ (by assumption) | refine ofS2 ?_ (by assumption) | refine ofS3 ?_ (by assumption) | refine of3 ?_ (by assumption)) | dsimp only)

theorem State.offsetEffect_tidy {pq} {s : State} {n k align : ℕ} {e : Effect} (hs : Tidy pq s) : Tidy pq (State.offsetEffect s n k align e) := by
  unfold State.offsetEffect
  repeat' (first | with_reducible assumption | with_reducible (first | apply tidy_ite | apply State.laneTrap_tidy | apply State.hwQuarantine_tidy | apply State.addEffect_tidy))

theorem execSvEwr_tidy {pq} {lane : Fin 32} {s : State} (hs : Tidy pq s) : TidyO pq (execSvEwr lane s) := by
  unfold execSvEwr
  repeat' (first | with_reducible assumption | (extract_lets +onlyGivenNames zz; first | (refine (fun (hz : Tidy pq zz) => ?_) ?_; (on_goal 1 => (try clear_value zz; rename' zz => zy, hz => hy)); (on_goal 2 => subst zz)) | (try clear_value zz; rename' zz => zy)) | with_reducible (first | apply idle_tidy | apply State.offsetEffect_tidy | apply tidyO_next | apply tidy1_mk | apply tidy2_mk) | split | with_reducible (fail_if_no_progress apply tidy_mk) | with_reducible (first | refine of1 ?_ (by assumption) | refine of2 ?_ (by assumption) | refine ofS ?_ (by assumption) | refine ofS1 ?_ (by assumption) | refine ofS2 ?_ (by assumption) | refine ofS3 ?_ (by assumption) | refine of3 ?_ (by assumption)) | dsimp only)

theorem execSvEadd_tidy {pq} {lane : Fin 32} {s : State} (hs : Tidy pq s) : TidyO pq (execSvEadd lane s) := by
  unfold execSvEadd
  repeat' (first | with_reducible assumption | (extract_lets +onlyGivenNames zz; first | (refine (fun (hz : Tidy pq zz) => ?_) ?_; (on_goal 1 => (try clear_value zz; rename' zz => zy, hz => hy)); (on_goal 2 => subst zz)) | (try clear_value zz; rename' zz => zy)) | with_reducible (first | apply idle_tidy | apply State.offsetEffect_tidy | apply tidyO_next | apply tidy1_mk | apply tidy2_mk) | split | with_reducible (fail_if_no_progress apply tidy_mk) | with_reducible (first | refine of1 ?_ (by assumption) | refine of2 ?_ (by assumption) | refine ofS ?_ (by assumption) | refine ofS1 ?_ (by assumption) | refine ofS2 ?_ (by assumption) | refine ofS3 ?_ (by assumption) | refine of3 ?_ (by assumption)) | dsimp only)

theorem execSvEmax_tidy {pq} {lane : Fin 32} {s : State} (hs : Tidy pq s) : TidyO pq (execSvEmax lane s) := by
  unfold execSvEmax
  repeat' (first | with_reducible assumption | (extract_lets +onlyGivenNames zz; first | (refine (fun (hz : Tidy pq zz) => ?_) ?_; (on_goal 1 => (try clear_value zz; rename' zz => zy, hz => hy)); (on_goal 2 => subst zz)) | (try clear_value zz; rename' zz => zy)) | with_reducible (first | apply idle_tidy | apply State.offsetEffect_tidy | apply tidyO_next | apply tidy1_mk | apply tidy2_mk) | split | with_reducible (fail_if_no_progress apply tidy_mk) | with_reducible (first | refine of1 ?_ (by assumption) | refine of2 ?_ (by assumption) | refine ofS ?_ (by assumption) | refine ofS1 ?_ (by assumption) | refine ofS2 ?_ (by assumption) | refine ofS3 ?_ (by assumption) | refine of3 ?_ (by assumption)) | dsimp only)

theorem execSvEbalImp_tidy {pq} {lane : Fin 32} {s : State} (hs : Tidy pq s) : TidyO pq (execSvEbalImp lane s) := by
  unfold execSvEbalImp
  repeat' (first | with_reducible assumption | (extract_lets +onlyGivenNames zz; first | (refine (fun (hz : Tidy pq zz) => ?_) ?_; (on_goal 1 => (try clear_value zz; rename' zz => zy, hz => hy)); (on_goal 2 => subst zz)) | (try clear_value zz; rename' zz => zy)) | with_reducible (first | apply idle_tidy | apply State.addEffect_tidy | apply tidyO_next | apply tidy1_mk | apply tidy2_mk) | split | with_reducible (fail_if_no_progress apply tidy_mk) | with_reducible (first | refine of1 ?_ (by assumption) | refine of2 ?_ (by assumption) | refine ofS ?_ (by assumption) | refine ofS1 ?_ (by assumption) | refine ofS2 ?_ (by assumption) | refine ofS3 ?_ (by assumption) | refine of3 ?_ (by assumption)) | dsimp only)

theorem execSvEbalExp_tidy {pq} {lane : Fin 32} {s : State} (hs : Tidy pq s) : TidyO pq (execSvEbalExp lane s) := by
  unfold execSvEbalExp
  repeat' (first | with_reducible assumption | (extract_lets +onlyGivenNames zz; first | (refine (fun (hz : Tidy pq zz) => ?_) ?_; (on_goal 1 => (try clear_value zz; rename' zz => zy, hz => hy)); (on_goal 2 => subst zz)) | (try clear_value zz; rename' zz => zy)) | with_reducible (first | apply idle_tidy | apply State.addEffect_tidy | apply tidyO_next | apply tidy1_mk | apply tidy2_mk) | split | with_reducible (fail_if_no_progress apply tidy_mk) | with_reducible (first | refine of1 ?_ (by assumption) | refine of2 ?_ (by assumption) | refine ofS ?_ (by assumption) | refine ofS1 ?_ (by assumption) | refine ofS2 ?_ (by assumption) | refine ofS3 ?_ (by assumption) | refine of3 ?_ (by assumption)) | dsimp only)

theorem execSvEbalVolt_tidy {pq} {lane : Fin 32} {s : State} (hs : Tidy pq s) : TidyO pq (execSvEbalVolt lane s) := by
  unfold execSvEbalVolt
  repeat' (first | with_reducible assumption | (extract_lets +onlyGivenNames zz; first | (refine (fun (hz : Tidy pq zz) => ?_) ?_; (on_goal 1 => (try clear_value zz; rename' zz => zy, hz => hy)); (on_goal 2 => subst zz)) | (try clear_value zz; rename' zz => zy)) | with_reducible (first | apply idle_tidy | apply State.addEffect_tidy | apply tidyO_next | apply tidy1_mk | apply tidy2_mk) | split | with_reducible (fail_if_no_progress apply tidy_mk) | with_reducible (first | refine of1 ?_ (by assumption) | refine of2 ?_ (by assumption) | refine ofS ?_ (by assumption) | refine ofS1 ?_ (by assumption) | refine ofS2 ?_ (by assumption) | refine ofS3 ?_ (by assumption) | refine of3 ?_ (by assumption)) | dsimp only)

theorem execSvEevt_tidy {pq} {lane : Fin 32} {s : State} (hs : Tidy pq s) : TidyO pq (execSvEevt lane s) := by
  unfold execSvEevt
  repeat' (first | with_reducible assumption | (extract_lets +onlyGivenNames zz; first | (refine (fun (hz : Tidy pq zz) => ?_) ?_; (on_goal 1 => (try clear_value zz; rename' zz => zy, hz => hy)); (on_goal 2 => subst zz)) | (try clear_value zz; rename' zz => zy)) | with_reducible (first | apply idle_tidy | apply State.addEffect_tidy | apply tidyO_next | apply tidy1_mk | apply tidy2_mk) | split | with_reducible (fail_if_no_progress apply tidy_mk) | with_reducible (first | refine of1 ?_ (by assumption) | refine of2 ?_ (by assumption) | refine ofS ?_ (by assumption) | refine ofS1 ?_ (by assumption) | refine ofS2 ?_ (by assumption) | refine ofS3 ?_ (by assumption) | refine of3 ?_ (by assumption)) | dsimp only)

theorem execSvVerd_tidy {pq} {lane : Fin 32} {s : State} (hs : Tidy pq s) : TidyO pq (execSvVerd lane s) := by
  unfold execSvVerd
  repeat' (first | with_reducible assumption | (extract_lets +onlyGivenNames zz; first | (refine (fun (hz : Tidy pq zz) => ?_) ?_; (on_goal 1 => (try clear_value zz; rename' zz => zy, hz => hy)); (on_goal 2 => subst zz)) | (try clear_value zz; rename' zz => zy)) | with_reducible (first | apply idle_tidy | apply State.laneTrap_tidy | apply State.setLane_tidy | apply State.endFrame_tidy | apply tidyO_next | apply tidy1_mk | apply tidy2_mk | apply tidyS_none | apply tidyS_some | apply tidyS1_none | apply tidyS2_none) | with_reducible (apply tidy_fst; first | apply tidy1_ite) | with_reducible (apply tidy_snd; first | apply tidy2_ite) | split | with_reducible (first | apply tidy_ite | apply tidyO_ite | apply tidy1_ite | apply tidy2_ite) | with_reducible (fail_if_no_progress apply tidy_mk) | with_reducible (first | refine of1 ?_ (by assumption) | refine of2 ?_ (by assumption) | refine ofS ?_ (by assumption) | refine ofS1 ?_ (by assumption) | refine ofS2 ?_ (by assumption) | refine ofS3 ?_ (by assumption) | refine of3 ?_ (by assumption)) | dsimp only)

theorem execEffectStallResume_tidy {pq} {lane : Fin 32} {s : State} (hs : Tidy pq s) : TidyO pq (execEffectStallResume lane s) := by
  unfold execEffectStallResume
  repeat' (first | with_reducible assumption | (extract_lets +onlyGivenNames zz; first | (refine (fun (hz : Tidy pq zz) => ?_) ?_; (on_goal 1 => (try clear_value zz; rename' zz => zy, hz => hy)); (on_goal 2 => subst zz)) | (try clear_value zz; rename' zz => zy)) | with_reducible (first | apply tidy_ite | apply tidyO_ite | apply State.setLane_tidy | apply idle_tidy | apply tidyO_next) | with_reducible (fail_if_no_progress apply tidy_mk) | with_reducible (first | refine of1 ?_ (by assumption) | refine of2 ?_ (by assumption) | refine ofS ?_ (by assumption) | refine ofS1 ?_ (by assumption) | refine ofS2 ?_ (by assumption) | refine ofS3 ?_ (by assumption) | refine of3 ?_ (by assumption)) | dsimp only)

theorem execCycleLimit_tidy {pq} {lane : Fin 32} {s : State} (hs : Tidy pq s) : TidyO pq (execCycleLimit lane s) := by
  unfold execCycleLimit
  repeat' (first | with_reducible assumption | (extract_lets +onlyGivenNames zz; first | (refine (fun (hz : Tidy pq zz) => ?_) ?_; (on_goal 1 => (try clear_value zz; rename' zz => zy, hz => hy)); (on_goal 2 => subst zz)) | (try clear_value zz; rename' zz => zy)) | with_reducible (first | apply idle_tidy | apply State.hwQuarantine_tidy | apply tidyO_next | apply tidyS_none | apply tidyS_some | apply tidyS1_none | apply tidyS2_none) | split | with_reducible (first | apply tidy_ite | apply tidyO_ite) | with_reducible (fail_if_no_progress apply tidy_mk) | with_reducible (first | refine of1 ?_ (by assumption) | refine of2 ?_ (by assumption) | refine ofS ?_ (by assumption) | refine ofS1 ?_ (by assumption) | refine ofS2 ?_ (by assumption) | refine ofS3 ?_ (by assumption) | refine of3 ?_ (by assumption)) | dsimp only)


/-! ## TxnOps -/

theorem State.setTxn_tidy {pq} {s : State} {t : ℕ} {x : Txn} (hs : Tidy pq s) : Tidy pq (State.setTxn s t x) := by
  unfold State.setTxn
  repeat' (first | with_reducible assumption | with_reducible (fail_if_no_progress apply tidy_mk))

theorem State.stage_tidy {pq} {s : State} {req : Req} {tag p off : ℕ} {l : List (Field × ℕ)} (hs : Tidy pq s) : Tidy pq (State.stage s req tag p off l) := by
  unfold State.stage
  repeat' (first | with_reducible assumption | with_reducible intro _ | (extract_lets +onlyGivenNames zz; first | (refine (fun (hz : Tidy pq zz) => ?_) ?_; (on_goal 1 => (try clear_value zz; rename' zz => zy, hz => hy)); (on_goal 2 => subst zz)) | (try clear_value zz; rename' zz => zy)) | with_reducible (first | apply tidy_ite | apply tidy1_ite | apply tidy2_ite | apply foldl_tidy | apply foldl_tidy1 | apply State.err_tidy | apply State.setTxn_tidy) | with_reducible (apply tidy_fst; first | apply foldl_tidy1 | apply tidy1_ite) | with_reducible (apply tidy_snd; first | apply foldl_tidy2 | apply tidy2_ite) | with_reducible (fail_if_no_progress apply tidy_mk) | with_reducible (first | refine of1 ?_ (by assumption) | refine of2 ?_ (by assumption) | refine ofS ?_ (by assumption) | refine ofS1 ?_ (by assumption) | refine ofS2 ?_ (by assumption) | refine ofS3 ?_ (by assumption) | refine of3 ?_ (by assumption)) | dsimp only)

theorem State.onT_tidy {pq} {s : State} {req : Req} {f : Field} {v : ℕ} {k : State → State} (hs : Tidy pq s) (hk : ∀ t, Tidy pq t → Tidy pq (k t)) : Tidy pq (State.onT s req f v k) := by
  unfold State.onT
  repeat' (first | with_reducible assumption | with_reducible intro _ | (extract_lets +onlyGivenNames zz; first | (refine (fun (hz : Tidy pq zz) => ?_) ?_; (on_goal 1 => (try clear_value zz; rename' zz => zy, hz => hy)); (on_goal 2 => subst zz)) | (try clear_value zz; rename' zz => zy)) | with_reducible (first | apply tidy_ite | apply tidy1_ite | apply tidy2_ite | apply State.onField_tidy | apply State.stage_tidy | apply State.err_tidy | apply tidy1_mk | apply tidy2_mk) | with_reducible (apply tidy_fst; first | apply tidy1_ite) | with_reducible (apply tidy_snd; first | apply tidy2_ite) | with_reducible (first | apply hk) | with_reducible (first | refine of1 ?_ (by assumption) | refine of2 ?_ (by assumption) | refine ofS ?_ (by assumption) | refine ofS1 ?_ (by assumption) | refine ofS2 ?_ (by assumption) | refine ofS3 ?_ (by assumption) | refine of3 ?_ (by assumption)) | dsimp only)

theorem State.endTxn_tidy {pq} {s : State} {t : ℕ} {x : Txn} {outcome : ℕ} (hs : Tidy pq s) : Tidy pq (State.endTxn s t x outcome) := by
  unfold State.endTxn
  repeat' (first | with_reducible assumption | with_reducible intro _ | (extract_lets +onlyGivenNames zz; first | (refine (fun (hz : Tidy pq zz) => ?_) ?_; (on_goal 1 => (try clear_value zz; rename' zz => zy, hz => hy)); (on_goal 2 => subst zz)) | (try clear_value zz; rename' zz => zy)) | with_reducible (first | apply foldl_tidy | apply foldl_tidy1 | apply State.setTxn_tidy | apply State.setF_tidy | apply State.irq_tidy | apply tidy1_mk | apply tidy2_mk | apply tidyS_none | apply tidyS_some | apply tidyS1_none | apply tidyS2_none) | with_reducible (apply tidy_fst; first | apply foldl_tidy1) | with_reducible (apply tidy_snd; first | apply foldl_tidy2) | with_reducible (fail_if_no_progress apply tidy_mk) | with_reducible (first | refine of1 ?_ (by assumption) | refine of2 ?_ (by assumption) | refine ofS ?_ (by assumption) | refine ofS1 ?_ (by assumption) | refine ofS2 ?_ (by assumption) | refine ofS3 ?_ (by assumption) | refine of3 ?_ (by assumption)) | dsimp only)

theorem State.rollBack_tidy {pq} {s : State} {t cause page : ℕ} (hs : Tidy pq s) : Tidy pq (State.rollBack s t cause page) := by
  unfold State.rollBack
  repeat' (first | with_reducible assumption | (extract_lets +onlyGivenNames zz; first | (refine (fun (hz : Tidy pq zz) => ?_) ?_; (on_goal 1 => (try clear_value zz; rename' zz => zy, hz => hy)); (on_goal 2 => subst zz)) | (try clear_value zz; rename' zz => zy)) | with_reducible (first | apply State.endTxn_tidy | apply tidy1_mk | apply tidy2_mk) | with_reducible (fail_if_no_progress apply tidy_mk) | with_reducible (first | refine of1 ?_ (by assumption) | refine of2 ?_ (by assumption) | refine ofS ?_ (by assumption) | refine ofS1 ?_ (by assumption) | refine ofS2 ?_ (by assumption) | refine ofS3 ?_ (by assumption) | refine of3 ?_ (by assumption)) | dsimp only)

theorem State.ownerReset_tidy {pq} {s : State} {req : Req} (hs : Tidy pq s) : Tidy pq (State.ownerReset s req) := by
  unfold State.ownerReset
  repeat' (first | with_reducible assumption | with_reducible intro _ | (extract_lets +onlyGivenNames zz; first | (refine (fun (hz : Tidy pq zz) => ?_) ?_; (on_goal 1 => (try clear_value zz; rename' zz => zy, hz => hy)); (on_goal 2 => subst zz)) | (try clear_value zz; rename' zz => zy)) | with_reducible (first | apply tidy_ite | apply foldl_tidy | apply foldl_tidy1 | apply State.rollBack_tidy | apply tidy1_mk | apply tidy2_mk) | with_reducible (apply tidy_fst; first | apply foldl_tidy1) | with_reducible (apply tidy_snd; first | apply foldl_tidy2) | with_reducible (first | refine of1 ?_ (by assumption) | refine of2 ?_ (by assumption) | refine ofS ?_ (by assumption) | refine ofS1 ?_ (by assumption) | refine ofS2 ?_ (by assumption) | refine ofS3 ?_ (by assumption) | refine of3 ?_ (by assumption)) | dsimp only)


/-! ## LaneCtl -/

theorem State.fenceOut_tidy {pq} {s : State} {n cause off : ℕ} (hs : Tidy pq s) : Tidy pq (State.fenceOut s n cause off) := by
  unfold State.fenceOut
  repeat' (first | with_reducible assumption | with_reducible (first | apply State.release_tidy | apply State.fenceLane_tidy))

theorem execLaneKat_tidy {pq} {lane : Fin 32} {passed : Bool} {s : State} (hs : Tidy pq s) : TidyO pq (execLaneKat lane passed s) := by
  unfold execLaneKat
  repeat' (first | with_reducible assumption | (extract_lets +onlyGivenNames zz; first | (refine (fun (hz : Tidy pq zz) => ?_) ?_; (on_goal 1 => (try clear_value zz; rename' zz => zy, hz => hy)); (on_goal 2 => subst zz)) | (try clear_value zz; rename' zz => zy)) | with_reducible (first | apply tidy_ite | apply tidyO_ite | apply State.setLane_tidy | apply State.fenceOut_tidy | apply idle_tidy | apply tidyO_next | apply tidyS_none | apply tidyS_some | apply tidyS1_none | apply tidyS2_none) | with_reducible (fail_if_no_progress apply tidy_mk) | with_reducible (first | refine of1 ?_ (by assumption) | refine of2 ?_ (by assumption) | refine ofS ?_ (by assumption) | refine ofS1 ?_ (by assumption) | refine ofS2 ?_ (by assumption) | refine ofS3 ?_ (by assumption) | refine of3 ?_ (by assumption)) | dsimp only)

theorem execLaneWatchdog_tidy {pq} {lane : Fin 32} {s : State} (hs : Tidy pq s) : TidyO pq (execLaneWatchdog lane s) := by
  unfold execLaneWatchdog
  repeat' (first | with_reducible assumption | (extract_lets +onlyGivenNames zz; first | (refine (fun (hz : Tidy pq zz) => ?_) ?_; (on_goal 1 => (try clear_value zz; rename' zz => zy, hz => hy)); (on_goal 2 => subst zz)) | (try clear_value zz; rename' zz => zy)) | with_reducible (first | apply tidy_ite | apply tidyO_ite | apply State.fenceOut_tidy | apply idle_tidy | apply tidyO_next | apply tidyS_none | apply tidyS_some | apply tidyS1_none | apply tidyS2_none) | with_reducible (fail_if_no_progress apply tidy_mk) | with_reducible (first | refine of1 ?_ (by assumption) | refine of2 ?_ (by assumption) | refine ofS ?_ (by assumption) | refine ofS1 ?_ (by assumption) | refine ofS2 ?_ (by assumption) | refine ofS3 ?_ (by assumption) | refine of3 ?_ (by assumption)) | dsimp only)

theorem State.softFence_tidy {pq} {s : State} {n : ℕ} (hs : Tidy pq s) : Tidy pq (State.softFence s n) := by
  unfold State.softFence
  repeat' (first | with_reducible assumption | with_reducible (first | apply tidy_ite | apply State.fenceOut_tidy) | with_reducible (fail_if_no_progress apply tidy_mk))

theorem execLaneFence_tidy {pq} {lane : Fin 32} {trigger : FenceTrigger} {s : State} (hs : Tidy pq s) : TidyO pq (execLaneFence lane trigger s) := by
  unfold execLaneFence
  repeat' (first | with_reducible assumption | with_reducible intro _ | (extract_lets +onlyGivenNames zz; first | (refine (fun (hz : Tidy pq zz) => ?_) ?_; (on_goal 1 => (try clear_value zz; rename' zz => zy, hz => hy)); (on_goal 2 => subst zz)) | (try clear_value zz; rename' zz => zy)) | with_reducible (first | apply idle_tidy | apply State.fenceOut_tidy | apply State.onT_tidy | apply State.softFence_tidy | apply tidyO_next) | split | with_reducible (first | apply tidy_ite | apply tidyO_ite) | with_reducible (fail_if_no_progress apply tidy_mk) | with_reducible (first | refine of1 ?_ (by assumption) | refine of2 ?_ (by assumption) | refine ofS ?_ (by assumption) | refine ofS1 ?_ (by assumption) | refine ofS2 ?_ (by assumption) | refine ofS3 ?_ (by assumption) | refine of3 ?_ (by assumption)) | dsimp only)

theorem State.unload_tidy {pq} {s : State} {n : ℕ} (hs : Tidy pq s) : Tidy pq (State.unload s n) := by
  unfold State.unload
  repeat' (first | with_reducible assumption | with_reducible (first | apply State.setF_tidy))

theorem State.softUnfence_tidy {pq} {s : State} {n : ℕ} (hs : Tidy pq s) : Tidy pq (State.softUnfence s n) := by
  unfold State.softUnfence
  repeat' (first | with_reducible assumption | (extract_lets +onlyGivenNames zz; first | (refine (fun (hz : Tidy pq zz) => ?_) ?_; (on_goal 1 => (try clear_value zz; rename' zz => zy, hz => hy)); (on_goal 2 => subst zz)) | (try clear_value zz; rename' zz => zy)) | with_reducible (first | apply tidy_ite | apply State.setF_tidy | apply State.unload_tidy | apply State.setLaneState_tidy) | with_reducible (fail_if_no_progress apply tidy_mk) | with_reducible (first | refine of1 ?_ (by assumption) | refine of2 ?_ (by assumption) | refine ofS ?_ (by assumption) | refine ofS1 ?_ (by assumption) | refine ofS2 ?_ (by assumption) | refine ofS3 ?_ (by assumption) | refine of3 ?_ (by assumption)) | dsimp only)

theorem execLaneUnfence_tidy {pq} {req : Req} {lane : Fin 32} {s : State} (hs : Tidy pq s) : TidyO pq (execLaneUnfence req lane s) := by
  unfold execLaneUnfence
  repeat' (first | with_reducible assumption | with_reducible intro _ | with_reducible (first | apply State.onT_tidy | apply State.softUnfence_tidy | apply tidyO_next | apply idle_tidy))

theorem State.lanesReady_tidy {pq} {s : State} (hs : Tidy pq s) : Tidy pq (State.lanesReady s) := by
  unfold State.lanesReady
  repeat' (first | with_reducible assumption | (extract_lets +onlyGivenNames zz; first | (refine (fun (hz : Tidy pq zz) => ?_) ?_; (on_goal 1 => (try clear_value zz; rename' zz => zy, hz => hy)); (on_goal 2 => subst zz)) | (refine (fun (hz : ∀ t, Tidy pq t → Tidy pq (zz t)) => ?_) ?_; (on_goal 1 => (try clear_value zz; rename' zz => zy, hz => hf)); (on_goal 2 => (subst zz; intro _ _; beta_reduce))) | (refine (fun (hz : ∀ t, Tidy pq (zz t)) => ?_) ?_; (on_goal 1 => (try clear_value zz; rename' zz => zy, hz => hf)); (on_goal 2 => (subst zz; intro _; beta_reduce))) | (try clear_value zz; rename' zz => zy)) | with_reducible (first | apply tidy_ite | apply State.irq_tidy | apply State.toMode_tidy | apply State.setF_tidy | apply State.settle_tidy) | with_reducible (fail_if_no_progress apply tidy_mk) | with_reducible (apply hf) | with_reducible (first | refine of1 ?_ (by assumption) | refine of2 ?_ (by assumption) | refine ofS ?_ (by assumption) | refine ofS1 ?_ (by assumption) | refine ofS2 ?_ (by assumption) | refine ofS3 ?_ (by assumption) | refine of3 ?_ (by assumption)) | dsimp only)

theorem execLaneSelftestDone_tidy {pq} {lane : Fin 32} {result : SelftestResult} {s : State} (hs : Tidy pq s) : TidyO pq (execLaneSelftestDone lane result s) := by
  unfold execLaneSelftestDone
  repeat' (first | with_reducible assumption | (extract_lets +onlyGivenNames zz; first | (refine (fun (hz : Tidy pq zz) => ?_) ?_; (on_goal 1 => (try clear_value zz; rename' zz => zy, hz => hy)); (on_goal 2 => subst zz)) | (try clear_value zz; rename' zz => zy)) | with_reducible (first | apply idle_tidy | apply State.lanesReady_tidy | apply State.setLaneState_tidy | apply State.fenceOut_tidy | apply tidyO_next) | split | with_reducible (first | apply tidy_ite | apply tidyO_ite) | with_reducible (fail_if_no_progress apply tidy_mk) | with_reducible (first | refine of1 ?_ (by assumption) | refine of2 ?_ (by assumption) | refine ofS ?_ (by assumption) | refine ofS1 ?_ (by assumption) | refine ofS2 ?_ (by assumption) | refine ofS3 ?_ (by assumption) | refine of3 ?_ (by assumption)) | dsimp only)

theorem State.startMove_tidy {pq} {s : State} {g target : ℕ} (hs : Tidy pq s) : Tidy pq (State.startMove s g target) := by
  unfold State.startMove
  repeat' (first | with_reducible assumption | (extract_lets +onlyGivenNames zz; first | (refine (fun (hz : Tidy pq zz) => ?_) ?_; (on_goal 1 => (try clear_value zz; rename' zz => zy, hz => hy)); (on_goal 2 => subst zz)) | (try clear_value zz; rename' zz => zy)) | with_reducible (first | apply tidy_ite | apply State.setMap_tidy | apply tidy1_mk | apply tidy2_mk) | with_reducible (first | refine of1 ?_ (by assumption) | refine of2 ?_ (by assumption) | refine ofS ?_ (by assumption) | refine ofS1 ?_ (by assumption) | refine ofS2 ?_ (by assumption) | refine ofS3 ?_ (by assumption) | refine of3 ?_ (by assumption)) | dsimp only)

theorem State.pumpMoves_tidy {pq} {s : State} (hs : Tidy pq s) : Tidy pq (State.pumpMoves s) := by
  unfold State.pumpMoves
  repeat' (first | with_reducible assumption | with_reducible intro _ | (extract_lets +onlyGivenNames zz; first | (refine (fun (hz : Tidy pq zz) => ?_) ?_; (on_goal 1 => (try clear_value zz; rename' zz => zy, hz => hy)); (on_goal 2 => subst zz)) | (try clear_value zz; rename' zz => zy)) | with_reducible (first | apply foldl_tidy | apply foldl_tidy1 | apply State.startMove_tidy) | with_reducible (apply tidy_fst; first | apply foldl_tidy1) | with_reducible (apply tidy_snd; first | apply foldl_tidy2) | with_reducible (fail_if_no_progress apply tidy_mk) | with_reducible (first | refine of1 ?_ (by assumption) | refine of2 ?_ (by assumption) | refine ofS ?_ (by assumption) | refine ofS1 ?_ (by assumption) | refine ofS2 ?_ (by assumption) | refine ofS3 ?_ (by assumption) | refine of3 ?_ (by assumption)) | dsimp only)

theorem State.restoreGroups_tidy {pq} {s : State} {n : ℕ} (hs : Tidy pq s) : Tidy pq (State.restoreGroups s n) := by
  unfold State.restoreGroups
  repeat' (first | with_reducible assumption | with_reducible intro _ | with_reducible (first | apply tidy_ite | apply tidy1_ite | apply tidy2_ite | apply State.pumpMoves_tidy | apply tidy1_mk | apply tidy2_mk | apply map_tidyS | apply map_tidyS_of2 | apply map_tidyS_any | apply tidyS_none | apply tidyS_some | apply tidyS1_none | apply tidyS2_none) | with_reducible (apply tidy_fst; first | apply tidy1_ite) | with_reducible (apply tidy_snd; first | apply tidy2_ite) | with_reducible (fail_if_no_progress apply tidy_mk))

theorem State.intoService_tidy {pq} {s : State} {n bank : ℕ} (hs : Tidy pq s) : Tidy pq (State.intoService s n bank) := by
  unfold State.intoService
  repeat' (first | with_reducible assumption | with_reducible intro _ | (extract_lets +onlyGivenNames zz; first | (refine (fun (hz : Tidy pq zz) => ?_) ?_; (on_goal 1 => (try clear_value zz; rename' zz => zy, hz => hy)); (on_goal 2 => subst zz)) | (refine (fun (hz : ∀ t, Tidy pq t → Tidy pq (zz t)) => ?_) ?_; (on_goal 1 => (try clear_value zz; rename' zz => zy, hz => hf)); (on_goal 2 => (subst zz; intro _ _; beta_reduce))) | (refine (fun (hz : ∀ t, Tidy pq (zz t)) => ?_) ?_; (on_goal 1 => (try clear_value zz; rename' zz => zy, hz => hf)); (on_goal 2 => (subst zz; intro _; beta_reduce))) | (try clear_value zz; rename' zz => zy)) | with_reducible (first | apply tidy_ite | apply foldl_tidy | apply foldl_tidy1 | apply State.setF_tidy | apply State.setLaneState_tidy | apply State.set2_tidy | apply State.setLane_tidy | apply State.reassignAll_tidy | apply State.release_tidy | apply State.restoreGroups_tidy) | with_reducible (apply tidy_fst; first | apply foldl_tidy1) | with_reducible (apply tidy_snd; first | apply foldl_tidy2) | with_reducible (fail_if_no_progress apply tidy_mk) | with_reducible (apply hf) | with_reducible (first | refine of1 ?_ (by assumption) | refine of2 ?_ (by assumption) | refine ofS ?_ (by assumption) | refine ofS1 ?_ (by assumption) | refine ofS2 ?_ (by assumption) | refine ofS3 ?_ (by assumption) | refine of3 ?_ (by assumption)) | dsimp only)

theorem State.maintOff_tidy {pq} {s : State} {n : ℕ} (hs : Tidy pq s) : Tidy pq (State.maintOff s n) := by
  unfold State.maintOff
  repeat' (first | with_reducible assumption | with_reducible (first | apply tidy_ite | apply State.intoService_tidy) | with_reducible (fail_if_no_progress apply tidy_mk))

theorem State.maintOn_tidy {pq} {s : State} {n : ℕ} (hs : Tidy pq s) : Tidy pq (State.maintOn s n) := by
  unfold State.maintOn
  repeat' (first | with_reducible assumption | with_reducible (first | apply tidy_ite | apply State.setF_tidy | apply State.setLaneState_tidy) | with_reducible (fail_if_no_progress apply tidy_mk))

theorem State.maintWrite_tidy {pq} {s : State} {req : Req} {n : ℕ} {on : Bool} (hs : Tidy pq s) : Tidy pq (State.maintWrite s req n on) := by
  unfold State.maintWrite
  repeat' (first | with_reducible assumption | with_reducible (first | apply State.refuseAt_tidy | apply State.maintOn_tidy | apply State.maintOff_tidy | apply tidyS_none | apply tidyS_some | apply tidyS1_none | apply tidyS2_none) | split | with_reducible (first | apply tidy_ite) | with_reducible (fail_if_no_progress apply tidy_mk) | with_reducible (first | refine of1 ?_ (by assumption) | refine of2 ?_ (by assumption) | refine ofS ?_ (by assumption) | refine ofS1 ?_ (by assumption) | refine ofS2 ?_ (by assumption) | refine ofS3 ?_ (by assumption) | refine of3 ?_ (by assumption)) | dsimp only)

theorem execLaneEnterService_tidy {pq} {req : Req} {lane : Fin 32} {s : State} (hs : Tidy pq s) : TidyO pq (execLaneEnterService req lane s) := by
  unfold execLaneEnterService
  repeat' (first | with_reducible assumption | with_reducible intro _ | with_reducible (first | apply State.onT_tidy | apply State.maintWrite_tidy | apply tidyO_next | apply idle_tidy))

theorem execLaneToMaint_tidy {pq} {req : Req} {lane : Fin 32} {s : State} (hs : Tidy pq s) : TidyO pq (execLaneToMaint req lane s) := by
  unfold execLaneToMaint
  repeat' (first | with_reducible assumption | with_reducible intro _ | with_reducible (first | apply State.onT_tidy | apply State.maintWrite_tidy | apply tidyO_next | apply idle_tidy))

theorem State.powerLane_tidy {pq} {s : State} {n : ℕ} (hs : Tidy pq s) : Tidy pq (State.powerLane s n) := by
  unfold State.powerLane
  repeat' (first | with_reducible assumption | with_reducible (first | apply tidy_ite | apply State.setF_tidy | apply State.setLaneState_tidy) | with_reducible (fail_if_no_progress apply tidy_mk))

theorem execLanePowerOn_tidy {pq} {lane : Fin 32} {s : State} (hs : Tidy pq s) : TidyO pq (execLanePowerOn lane s) := by
  unfold execLanePowerOn
  repeat' (first | with_reducible assumption | with_reducible (first | apply State.powerLane_tidy | apply tidyO_next | apply idle_tidy))

theorem execLanePowerOff_tidy {pq} {lane : Fin 32} {s : State} (hs : Tidy pq s) : TidyO pq (execLanePowerOff lane s) := by
  unfold execLanePowerOff
  repeat' (first | with_reducible assumption | (extract_lets +onlyGivenNames zz; first | (refine (fun (hz : Tidy pq zz) => ?_) ?_; (on_goal 1 => (try clear_value zz; rename' zz => zy, hz => hy)); (on_goal 2 => subst zz)) | (try clear_value zz; rename' zz => zy)) | with_reducible (first | apply tidy_ite | apply tidyO_ite | apply State.setF_tidy | apply State.setLaneState_tidy | apply State.unload_tidy | apply idle_tidy | apply tidyO_next) | with_reducible (fail_if_no_progress apply tidy_mk) | with_reducible (first | refine of1 ?_ (by assumption) | refine of2 ?_ (by assumption) | refine ofS ?_ (by assumption) | refine ofS1 ?_ (by assumption) | refine ofS2 ?_ (by assumption) | refine ofS3 ?_ (by assumption) | refine of3 ?_ (by assumption)) | dsimp only)

theorem State.apertureWrite_tidy {pq} {s : State} {req : Req} {n off : ℕ} {bs : Bytes} (hs : Tidy pq s) : Tidy pq (State.apertureWrite s req n off bs) := by
  unfold State.apertureWrite
  extract_lets +onlyGivenNames refuse
  have hr : ∀ c, Tidy pq (refuse c) := fun _ => State.err_tidy hs
  split
  · exact tidy_ite (hr _) (State.setF_tidy (State.write_tidy hs))
  · exact State.write_tidy hs
  · exact hr _
  · exact State.busError_tidy hs

theorem execApertureWrite_tidy {pq} {req : Req} {lane : Fin 32} {off : BitVec 17} {data : Bytes} {s : State} (hs : Tidy pq s) : TidyO pq (execApertureWrite req lane off data s) := by
  unfold execApertureWrite
  repeat' (first | with_reducible assumption | with_reducible intro _ | with_reducible (first | apply State.onWrite_tidy | apply State.apertureWrite_tidy | apply tidyO_next | apply idle_tidy))

theorem execLaneSeal_tidy {pq} {req : Req} {lane : Fin 32} {data : Word} {s : State} (hs : Tidy pq s) : TidyO pq (execLaneSeal req lane data s) := by
  unfold execLaneSeal
  repeat' (first | with_reducible assumption | with_reducible intro _ | (extract_lets +onlyGivenNames zz; first | (refine (fun (hz : Tidy pq zz) => ?_) ?_; (on_goal 1 => (try clear_value zz; rename' zz => zy, hz => hy)); (on_goal 2 => subst zz)) | (try clear_value zz; rename' zz => zy)) | with_reducible (first | apply State.onAction_tidy | apply State.setLane_tidy | apply State.setF_tidy | apply tidyO_next | apply idle_tidy) | with_reducible (fail_if_no_progress apply tidy_mk) | with_reducible (first | refine of1 ?_ (by assumption) | refine of2 ?_ (by assumption) | refine ofS ?_ (by assumption) | refine ofS1 ?_ (by assumption) | refine ofS2 ?_ (by assumption) | refine ofS3 ?_ (by assumption) | refine of3 ?_ (by assumption)) | dsimp only)

theorem execLaneSealDone_tidy {pq} {lane : Fin 32} {s : State} (hs : Tidy pq s) : TidyO pq (execLaneSealDone lane s) := by
  unfold execLaneSealDone
  repeat' (first | with_reducible assumption | (extract_lets +onlyGivenNames zz; first | (refine (fun (hz : Tidy pq zz) => ?_) ?_; (on_goal 1 => (try clear_value zz; rename' zz => zy, hz => hy)); (on_goal 2 => subst zz)) | (try clear_value zz; rename' zz => zy)) | with_reducible (first | apply idle_tidy | apply State.setLane_tidy | apply State.setF_tidy | apply State.set2_tidy | apply State.irq_tidy | apply tidyO_next | apply tidyS_none | apply tidyS_some | apply tidyS1_none | apply tidyS2_none) | split | with_reducible (first | apply tidy_ite | apply tidyO_ite) | with_reducible (fail_if_no_progress apply tidy_mk) | with_reducible (first | refine of1 ?_ (by assumption) | refine of2 ?_ (by assumption) | refine ofS ?_ (by assumption) | refine ofS1 ?_ (by assumption) | refine ofS2 ?_ (by assumption) | refine ofS3 ?_ (by assumption) | refine of3 ?_ (by assumption)) | dsimp only)

theorem execLanemapInit_tidy {pq} {req : Req} {s : State} (hs : Tidy pq s) : TidyO pq (execLanemapInit req s) := by
  unfold execLanemapInit
  repeat' (first | with_reducible assumption | with_reducible intro _ | with_reducible (first | apply tidy_ite | apply tidyO_ite | apply State.onField_tidy | apply State.refuseAt_tidy | apply tidyO_next | apply idle_tidy) | with_reducible (fail_if_no_progress apply tidy_mk))

theorem execLanemapMoveRequest_tidy {pq} {req : Req} {target : Fin 32} {s : State} (hs : Tidy pq s) : TidyO pq (execLanemapMoveRequest req target s) := by
  unfold execLanemapMoveRequest
  repeat' (first | with_reducible assumption | with_reducible intro _ | (extract_lets +onlyGivenNames zz; first | (refine (fun (hz : Tidy pq zz) => ?_) ?_; (on_goal 1 => (try clear_value zz; rename' zz => zy, hz => hy)); (on_goal 2 => subst zz)) | (try clear_value zz; rename' zz => zy)) | with_reducible (first | apply tidy_ite | apply tidyO_ite | apply State.onField_tidy | apply State.refuseAt_tidy | apply State.setMap_tidy | apply tidyO_next | apply idle_tidy | apply tidy1_mk | apply tidy2_mk) | with_reducible (fail_if_no_progress apply tidy_mk) | with_reducible (first | refine of1 ?_ (by assumption) | refine of2 ?_ (by assumption) | refine ofS ?_ (by assumption) | refine ofS1 ?_ (by assumption) | refine ofS2 ?_ (by assumption) | refine ofS3 ?_ (by assumption) | refine of3 ?_ (by assumption)) | dsimp only)

theorem execMeterMove_tidy {pq} {meter : BitVec 20} {s : State} (hs : Tidy pq s) : TidyO pq (execMeterMove meter s) := by
  unfold execMeterMove
  repeat' (first | with_reducible assumption | (extract_lets +onlyGivenNames zz; first | (refine (fun (hz : Tidy pq zz) => ?_) ?_; (on_goal 1 => (try clear_value zz; rename' zz => zy, hz => hy)); (on_goal 2 => subst zz)) | (try clear_value zz; rename' zz => zy)) | with_reducible (first | apply tidy_ite | apply tidyO_ite | apply State.pumpMoves_tidy | apply State.moveDone_tidy | apply State.setMap_tidy | apply idle_tidy | apply tidyO_next) | with_reducible (fail_if_no_progress apply tidy_mk) | with_reducible (first | refine of1 ?_ (by assumption) | refine of2 ?_ (by assumption) | refine ofS ?_ (by assumption) | refine ofS1 ?_ (by assumption) | refine ofS2 ?_ (by assumption) | refine ofS3 ?_ (by assumption) | refine of3 ?_ (by assumption)) | dsimp only)

end Sys2Proof.Machine
end

