-- ==== Sys2Proof/Laws/TidyPath.lean ====
section
/-! SUPPORT. Tidy states stay tidy: the operations of Time, PortOps, Bus, DmaOps, DmaCmd, PanelOps, Path, TwinOps, UpdOps, Replicas, Ladle. One lemma for each operation, proved from the lemmas of the operations it calls. -/

set_option linter.unusedVariables false
set_option linter.unusedTactic false
set_option linter.unreachableTactic false
set_option linter.tactic.unusedName false

namespace Sys2Proof.Machine

/-! ## Time -/

theorem execTimeNowRead_tidy {pq} {req : Req} {s : State} (hs : Tidy pq s) : TidyO pq (execTimeNowRead req s) := by
  unfold execTimeNowRead
  repeat' (first | with_reducible assumption | with_reducible intro _ | (extract_lets +onlyGivenNames zz; first | (refine (fun (hz : Tidy pq zz) => ?_) ?_; (on_goal 1 => (try clear_value zz; rename' zz => zy, hz => hy)); (on_goal 2 => subst zz)) | (refine (fun (hz : ∀ t, Tidy pq t → Tidy pq (zz t)) => ?_) ?_; (on_goal 1 => (try clear_value zz; rename' zz => zy, hz => hf)); (on_goal 2 => (subst zz; intro _ _; beta_reduce))) | (refine (fun (hz : ∀ t, Tidy pq (zz t)) => ?_) ?_; (on_goal 1 => (try clear_value zz; rename' zz => zy, hz => hf)); (on_goal 2 => (subst zz; intro _; beta_reduce))) | (try clear_value zz; rename' zz => zy)) | with_reducible (first | apply tidy_ite | apply tidyO_ite | apply tidy1_ite | apply tidy2_ite | apply State.onRead_tidy | apply State.answer_tidy | apply State.setF_tidy | apply tidyO_next | apply idle_tidy | apply tidy1_mk | apply tidy2_mk) | with_reducible (apply tidy_fst; first | apply tidy1_ite) | with_reducible (apply tidy_snd; first | apply tidy2_ite) | with_reducible (apply hf) | with_reducible (first | refine of1 ?_ (by assumption) | refine of2 ?_ (by assumption) | refine ofS ?_ (by assumption) | refine ofS1 ?_ (by assumption) | refine ofS2 ?_ (by assumption) | refine ofS3 ?_ (by assumption) | refine of3 ?_ (by assumption)) | dsimp only)

theorem execAonNowRead_tidy {pq} {req : Req} {s : State} (hs : Tidy pq s) : TidyO pq (execAonNowRead req s) := by
  unfold execAonNowRead
  repeat' (first | with_reducible assumption | with_reducible intro _ | (extract_lets +onlyGivenNames zz; first | (refine (fun (hz : Tidy pq zz) => ?_) ?_; (on_goal 1 => (try clear_value zz; rename' zz => zy, hz => hy)); (on_goal 2 => subst zz)) | (refine (fun (hz : ∀ t, Tidy pq t → Tidy pq (zz t)) => ?_) ?_; (on_goal 1 => (try clear_value zz; rename' zz => zy, hz => hf)); (on_goal 2 => (subst zz; intro _ _; beta_reduce))) | (refine (fun (hz : ∀ t, Tidy pq (zz t)) => ?_) ?_; (on_goal 1 => (try clear_value zz; rename' zz => zy, hz => hf)); (on_goal 2 => (subst zz; intro _; beta_reduce))) | (try clear_value zz; rename' zz => zy)) | with_reducible (first | apply tidy_ite | apply tidyO_ite | apply tidy1_ite | apply tidy2_ite | apply State.onRead_tidy | apply State.answer_tidy | apply State.setF_tidy | apply tidyO_next | apply idle_tidy | apply tidy1_mk | apply tidy2_mk) | with_reducible (apply tidy_fst; first | apply tidy1_ite) | with_reducible (apply tidy_snd; first | apply tidy2_ite) | with_reducible (apply hf) | with_reducible (first | refine of1 ?_ (by assumption) | refine of2 ?_ (by assumption) | refine ofS ?_ (by assumption) | refine ofS1 ?_ (by assumption) | refine ofS2 ?_ (by assumption) | refine ofS3 ?_ (by assumption) | refine of3 ?_ (by assumption)) | dsimp only)

theorem State.fireAlarm_tidy {pq} {s : State} {n : ℕ} {late : Bool} (hs : Tidy pq s) : Tidy pq (State.fireAlarm s n late) := by
  unfold State.fireAlarm
  repeat' (first | with_reducible assumption | (extract_lets +onlyGivenNames zz; first | (refine (fun (hz : Tidy pq zz) => ?_) ?_; (on_goal 1 => (try clear_value zz; rename' zz => zy, hz => hy)); (on_goal 2 => subst zz)) | (refine (fun (hz : ∀ t, Tidy pq t → Tidy pq (zz t)) => ?_) ?_; (on_goal 1 => (try clear_value zz; rename' zz => zy, hz => hf)); (on_goal 2 => (subst zz; intro _ _; beta_reduce))) | (refine (fun (hz : ∀ t, Tidy pq (zz t)) => ?_) ?_; (on_goal 1 => (try clear_value zz; rename' zz => zy, hz => hf)); (on_goal 2 => (subst zz; intro _; beta_reduce))) | (try clear_value zz; rename' zz => zy)) | with_reducible (first | apply State.irq_tidy | apply State.setF_tidy) | split | with_reducible (first | apply tidy_ite) | with_reducible (apply hf) | with_reducible (first | refine of1 ?_ (by assumption) | refine of2 ?_ (by assumption) | refine ofS ?_ (by assumption) | refine ofS1 ?_ (by assumption) | refine ofS2 ?_ (by assumption) | refine ofS3 ?_ (by assumption) | refine of3 ?_ (by assumption)) | dsimp only)

theorem execTimeAlarmFire_tidy {pq} {n : Fin 4} {s : State} (hs : Tidy pq s) : TidyO pq (execTimeAlarmFire n s) := by
  unfold execTimeAlarmFire
  repeat' (first | with_reducible assumption | with_reducible (first | apply tidy_ite | apply tidyO_ite | apply State.fireAlarm_tidy | apply idle_tidy | apply tidyO_next))

theorem State.fireRtc_tidy {pq} {s : State} {n : ℕ} {late : Bool} (hs : Tidy pq s) : Tidy pq (State.fireRtc s n late) := by
  unfold State.fireRtc
  repeat' (first | with_reducible assumption | (extract_lets +onlyGivenNames zz; first | (refine (fun (hz : Tidy pq zz) => ?_) ?_; (on_goal 1 => (try clear_value zz; rename' zz => zy, hz => hy)); (on_goal 2 => subst zz)) | (refine (fun (hz : ∀ t, Tidy pq t → Tidy pq (zz t)) => ?_) ?_; (on_goal 1 => (try clear_value zz; rename' zz => zy, hz => hf)); (on_goal 2 => (subst zz; intro _ _; beta_reduce))) | (refine (fun (hz : ∀ t, Tidy pq (zz t)) => ?_) ?_; (on_goal 1 => (try clear_value zz; rename' zz => zy, hz => hf)); (on_goal 2 => (subst zz; intro _; beta_reduce))) | (try clear_value zz; rename' zz => zy)) | with_reducible (first | apply tidy_ite | apply State.setF_tidy | apply State.irq_tidy | apply State.wake_tidy) | with_reducible (apply hf) | with_reducible (first | refine of1 ?_ (by assumption) | refine of2 ?_ (by assumption) | refine ofS ?_ (by assumption) | refine ofS1 ?_ (by assumption) | refine ofS2 ?_ (by assumption) | refine ofS3 ?_ (by assumption) | refine of3 ?_ (by assumption)) | dsimp only)

theorem execRtcAlarmFire_tidy {pq} {n : Fin 2} {s : State} (hs : Tidy pq s) : TidyO pq (execRtcAlarmFire n s) := by
  unfold execRtcAlarmFire
  repeat' (first | with_reducible assumption | with_reducible (first | apply tidy_ite | apply tidyO_ite | apply State.fireRtc_tidy | apply idle_tidy | apply tidyO_next))

theorem State.rtcJump_tidy {pq} {s was : State} (hs : Tidy pq s) (hwas : Tidy pq was) : Tidy pq (State.rtcJump s was) := by
  unfold State.rtcJump
  repeat' (first | with_reducible assumption | with_reducible intro _ | (extract_lets +onlyGivenNames zz; first | (refine (fun (hz : Tidy pq zz) => ?_) ?_; (on_goal 1 => (try clear_value zz; rename' zz => zy, hz => hy)); (on_goal 2 => subst zz)) | (try clear_value zz; rename' zz => zy)) | with_reducible (first | apply tidy_ite | apply foldl_tidy | apply foldl_tidy1 | apply State.fireRtc_tidy | apply tidy1_mk | apply tidy2_mk) | with_reducible (apply tidy_fst; first | apply foldl_tidy1) | with_reducible (apply tidy_snd; first | apply foldl_tidy2) | with_reducible (first | refine of1 ?_ (by assumption) | refine of2 ?_ (by assumption) | refine ofS ?_ (by assumption) | refine ofS1 ?_ (by assumption) | refine ofS2 ?_ (by assumption) | refine ofS3 ?_ (by assumption) | refine of3 ?_ (by assumption)) | dsimp only)

theorem State.tb0Jump_tidy {pq} {s : State} (hs : Tidy pq s) : Tidy pq (State.tb0Jump s) := by
  unfold State.tb0Jump
  repeat' (first | with_reducible assumption | with_reducible intro _ | (extract_lets +onlyGivenNames zz; first | (refine (fun (hz : Tidy pq zz) => ?_) ?_; (on_goal 1 => (try clear_value zz; rename' zz => zy, hz => hy)); (on_goal 2 => subst zz)) | (try clear_value zz; rename' zz => zy)) | with_reducible (first | apply foldl_tidy | apply foldl_tidy1 | apply State.fireAlarm_tidy | apply tidy1_mk | apply tidy2_mk | apply map_tidyS | apply map_tidyS_of2 | apply map_tidyS_any) | with_reducible (apply tidy_fst; first | apply foldl_tidy1 | apply tidy1_ite) | with_reducible (apply tidy_snd; first | apply foldl_tidy2 | apply tidy2_ite) | split | with_reducible (first | apply tidy_ite | apply tidy1_ite | apply tidy2_ite) | with_reducible (fail_if_no_progress apply tidy_mk) | with_reducible (first | refine of1 ?_ (by assumption) | refine of2 ?_ (by assumption) | refine ofS ?_ (by assumption) | refine ofS1 ?_ (by assumption) | refine ofS2 ?_ (by assumption) | refine ofS3 ?_ (by assumption) | refine of3 ?_ (by assumption)) | dsimp only)

theorem State.fireTimeDue_tidy {pq} {s : State} (hs : Tidy pq s) : Tidy pq (State.fireTimeDue s) := by
  unfold State.fireTimeDue
  repeat' (first | with_reducible assumption | with_reducible intro _ | with_reducible (first | apply tidy_ite | apply foldl_tidy | apply foldl_tidy1 | apply State.fireAlarm_tidy | apply tidy1_mk | apply tidy2_mk) | with_reducible (apply tidy_fst; first | apply foldl_tidy1) | with_reducible (apply tidy_snd; first | apply foldl_tidy2))

theorem State.fireRtcDue_tidy {pq} {s : State} (hs : Tidy pq s) : Tidy pq (State.fireRtcDue s) := by
  unfold State.fireRtcDue
  repeat' (first | with_reducible assumption | with_reducible intro _ | with_reducible (first | apply tidy_ite | apply foldl_tidy | apply foldl_tidy1 | apply State.fireRtc_tidy | apply tidy1_mk | apply tidy2_mk) | with_reducible (apply tidy_fst; first | apply foldl_tidy1) | with_reducible (apply tidy_snd; first | apply foldl_tidy2))

theorem execAlarmWrite_tidy {pq} {req : Req} {alarm : AlarmId} {data : Word} {s : State} (hs : Tidy pq s) : TidyO pq (execAlarmWrite req alarm data s) := by
  unfold execAlarmWrite
  repeat' (first | with_reducible assumption | with_reducible intro _ | (extract_lets +onlyGivenNames zz; first | (refine (fun (hz : Tidy pq zz) => ?_) ?_; (on_goal 1 => (try clear_value zz; rename' zz => zy, hz => hy)); (on_goal 2 => subst zz)) | (refine (fun (hz : ∀ t, Tidy pq t → Tidy pq (zz t)) => ?_) ?_; (on_goal 1 => (try clear_value zz; rename' zz => zy, hz => hf)); (on_goal 2 => (subst zz; intro _ _; beta_reduce))) | (refine (fun (hz : ∀ t, Tidy pq (zz t)) => ?_) ?_; (on_goal 1 => (try clear_value zz; rename' zz => zy, hz => hf)); (on_goal 2 => (subst zz; intro _; beta_reduce))) | (try clear_value zz; rename' zz => zy)) | with_reducible (first | apply idle_tidy | apply State.onWrite_tidy | apply State.fireAlarm_tidy | apply State.setF_tidy | apply State.fireRtc_tidy | apply tidyO_next) | split | with_reducible (first | apply tidy_ite | apply tidyO_ite) | with_reducible (fail_if_no_progress apply tidy_mk) | with_reducible (apply hf) | with_reducible (first | refine of1 ?_ (by assumption) | refine of2 ?_ (by assumption) | refine ofS ?_ (by assumption) | refine ofS1 ?_ (by assumption) | refine ofS2 ?_ (by assumption) | refine ofS3 ?_ (by assumption) | refine of3 ?_ (by assumption)) | dsimp only)

theorem State.leapDone_tidy {pq} {s : State} {d : ℤ} {rtc : ℕ} (hs : Tidy pq s) : Tidy pq (State.leapDone s d rtc) := by
  unfold State.leapDone
  repeat' (first | with_reducible assumption | (extract_lets +onlyGivenNames zz; first | (refine (fun (hz : Tidy pq zz) => ?_) ?_; (on_goal 1 => (try clear_value zz; rename' zz => zy, hz => hy)); (on_goal 2 => subst zz)) | (refine (fun (hz : ∀ t, Tidy pq t → Tidy pq (zz t)) => ?_) ?_; (on_goal 1 => (try clear_value zz; rename' zz => zy, hz => hf)); (on_goal 2 => (subst zz; intro _ _; beta_reduce))) | (refine (fun (hz : ∀ t, Tidy pq (zz t)) => ?_) ?_; (on_goal 1 => (try clear_value zz; rename' zz => zy, hz => hf)); (on_goal 2 => (subst zz; intro _; beta_reduce))) | (try clear_value zz; rename' zz => zy)) | with_reducible (first | apply tidy_ite | apply State.setF_tidy | apply State.irq_tidy | apply State.event_tidy | apply tidy1_mk | apply tidy2_mk | apply tidyS_none | apply tidyS_some | apply tidyS1_none | apply tidyS2_none) | with_reducible (fail_if_no_progress apply tidy_mk) | with_reducible (apply hf) | with_reducible (first | refine of1 ?_ (by assumption) | refine of2 ?_ (by assumption) | refine ofS ?_ (by assumption) | refine ofS1 ?_ (by assumption) | refine ofS2 ?_ (by assumption) | refine ofS3 ?_ (by assumption) | refine of3 ?_ (by assumption)) | dsimp only)

theorem State.leapNow_tidy {pq} {s : State} (hs : Tidy pq s) : Tidy pq (State.leapNow s) := by
  unfold State.leapNow
  repeat' (first | with_reducible assumption | (extract_lets +onlyGivenNames zz; first | (refine (fun (hz : Tidy pq zz) => ?_) ?_; (on_goal 1 => (try clear_value zz; rename' zz => zy, hz => hy)); (on_goal 2 => subst zz)) | (refine (fun (hz : ∀ t, Tidy pq t → Tidy pq (zz t)) => ?_) ?_; (on_goal 1 => (try clear_value zz; rename' zz => zy, hz => hf)); (on_goal 2 => (subst zz; intro _ _; beta_reduce))) | (refine (fun (hz : ∀ t, Tidy pq (zz t)) => ?_) ?_; (on_goal 1 => (try clear_value zz; rename' zz => zy, hz => hf)); (on_goal 2 => (subst zz; intro _; beta_reduce))) | (try clear_value zz; rename' zz => zy)) | with_reducible (first | apply State.leapDone_tidy | apply State.setF_tidy | apply tidyS_none | apply tidyS_some | apply tidyS1_none | apply tidyS2_none) | split | with_reducible (first | apply tidy_ite) | with_reducible (fail_if_no_progress apply tidy_mk) | with_reducible (apply hf) | with_reducible (first | refine of1 ?_ (by assumption) | refine of2 ?_ (by assumption) | refine ofS ?_ (by assumption) | refine ofS1 ?_ (by assumption) | refine ofS2 ?_ (by assumption) | refine ofS3 ?_ (by assumption) | refine of3 ?_ (by assumption)) | dsimp only)

theorem execLeapSecond_tidy {pq} {s : State} (hs : Tidy pq s) : TidyO pq (execLeapSecond s) := by
  unfold execLeapSecond
  repeat' (first | with_reducible assumption | with_reducible (first | apply State.leapNow_tidy | apply tidyO_next | apply idle_tidy))

theorem State.stepTb0_tidy {pq} {s : State} {ns : ℤ} (hs : Tidy pq s) : Tidy pq (State.stepTb0 s ns) := by
  unfold State.stepTb0
  repeat' (first | with_reducible assumption | (extract_lets +onlyGivenNames zz; first | (refine (fun (hz : Tidy pq zz) => ?_) ?_; (on_goal 1 => (try clear_value zz; rename' zz => zy, hz => hy)); (on_goal 2 => subst zz)) | (refine (fun (hz : ∀ t, Tidy pq t → Tidy pq (zz t)) => ?_) ?_; (on_goal 1 => (try clear_value zz; rename' zz => zy, hz => hf)); (on_goal 2 => (subst zz; intro _ _; beta_reduce))) | (refine (fun (hz : ∀ t, Tidy pq (zz t)) => ?_) ?_; (on_goal 1 => (try clear_value zz; rename' zz => zy, hz => hf)); (on_goal 2 => (subst zz; intro _; beta_reduce))) | (try clear_value zz; rename' zz => zy)) | with_reducible (first | apply tidy_ite | apply State.fireTimeDue_tidy | apply State.irq_tidy | apply State.leapNow_tidy | apply State.event_tidy | apply State.tb0Jump_tidy) | with_reducible (fail_if_no_progress apply tidy_mk) | with_reducible (apply hf) | with_reducible (first | refine of1 ?_ (by assumption) | refine of2 ?_ (by assumption) | refine ofS ?_ (by assumption) | refine ofS1 ?_ (by assumption) | refine ofS2 ?_ (by assumption) | refine ofS3 ?_ (by assumption) | refine of3 ?_ (by assumption)) | dsimp only)

theorem State.setTb0State_tidy {pq} {s : State} {n : ℕ} (hs : Tidy pq s) : Tidy pq (State.setTb0State s n) := by
  unfold State.setTb0State
  repeat' (first | with_reducible assumption | (extract_lets +onlyGivenNames zz; first | (refine (fun (hz : Tidy pq zz) => ?_) ?_; (on_goal 1 => (try clear_value zz; rename' zz => zy, hz => hy)); (on_goal 2 => subst zz)) | (refine (fun (hz : ∀ t, Tidy pq t → Tidy pq (zz t)) => ?_) ?_; (on_goal 1 => (try clear_value zz; rename' zz => zy, hz => hf)); (on_goal 2 => (subst zz; intro _ _; beta_reduce))) | (refine (fun (hz : ∀ t, Tidy pq (zz t)) => ?_) ?_; (on_goal 1 => (try clear_value zz; rename' zz => zy, hz => hf)); (on_goal 2 => (subst zz; intro _; beta_reduce))) | (try clear_value zz; rename' zz => zy)) | with_reducible (first | apply tidy_ite | apply State.irq_tidy | apply State.setF_tidy) | with_reducible (fail_if_no_progress apply tidy_mk) | with_reducible (apply hf) | with_reducible (first | refine of1 ?_ (by assumption) | refine of2 ?_ (by assumption) | refine ofS ?_ (by assumption) | refine ofS1 ?_ (by assumption) | refine ofS2 ?_ (by assumption) | refine ofS3 ?_ (by assumption) | refine of3 ?_ (by assumption)) | dsimp only)

theorem execTb0StateSet_tidy {pq} {req : Req} {value : BitVec 2} {s : State} (hs : Tidy pq s) : TidyO pq (execTb0StateSet req value s) := by
  unfold execTb0StateSet
  repeat' (first | with_reducible assumption | with_reducible intro _ | with_reducible (first | apply tidy_ite | apply tidyO_ite | apply State.onField_tidy | apply State.setTb0State_tidy | apply tidyO_next | apply idle_tidy) | with_reducible (fail_if_no_progress apply tidy_mk))

theorem execTb0Holdover_tidy {pq} {s : State} (hs : Tidy pq s) : TidyO pq (execTb0Holdover s) := by
  unfold execTb0Holdover
  repeat' (first | with_reducible assumption | (extract_lets +onlyGivenNames zz; first | (refine (fun (hz : Tidy pq zz) => ?_) ?_; (on_goal 1 => (try clear_value zz; rename' zz => zy, hz => hy)); (on_goal 2 => subst zz)) | (refine (fun (hz : ∀ t, Tidy pq t → Tidy pq (zz t)) => ?_) ?_; (on_goal 1 => (try clear_value zz; rename' zz => zy, hz => hf)); (on_goal 2 => (subst zz; intro _ _; beta_reduce))) | (refine (fun (hz : ∀ t, Tidy pq (zz t)) => ?_) ?_; (on_goal 1 => (try clear_value zz; rename' zz => zy, hz => hf)); (on_goal 2 => (subst zz; intro _; beta_reduce))) | (try clear_value zz; rename' zz => zy)) | with_reducible (first | apply tidy_ite | apply tidyO_ite | apply tidyS_ite | apply State.setTb0State_tidy | apply idle_tidy | apply tidyO_next | apply tidy_getD) | with_reducible (fail_if_no_progress apply tidy_mk) | with_reducible (apply hf) | with_reducible (first | refine of1 ?_ (by assumption) | refine of2 ?_ (by assumption) | refine ofS ?_ (by assumption) | refine ofS1 ?_ (by assumption) | refine ofS2 ?_ (by assumption) | refine ofS3 ?_ (by assumption) | refine of3 ?_ (by assumption)) | dsimp only)

theorem execPpsInEdge_tidy {pq} {s : State} (hs : Tidy pq s) : TidyO pq (execPpsInEdge s) := by
  unfold execPpsInEdge
  repeat' (first | with_reducible assumption | (extract_lets +onlyGivenNames zz; first | (refine (fun (hz : Tidy pq zz) => ?_) ?_; (on_goal 1 => (try clear_value zz; rename' zz => zy, hz => hy)); (on_goal 2 => subst zz)) | (refine (fun (hz : ∀ t, Tidy pq t → Tidy pq (zz t)) => ?_) ?_; (on_goal 1 => (try clear_value zz; rename' zz => zy, hz => hf)); (on_goal 2 => (subst zz; intro _ _; beta_reduce))) | (refine (fun (hz : ∀ t, Tidy pq (zz t)) => ?_) ?_; (on_goal 1 => (try clear_value zz; rename' zz => zy, hz => hf)); (on_goal 2 => (subst zz; intro _; beta_reduce))) | (try clear_value zz; rename' zz => zy)) | with_reducible (first | apply idle_tidy | apply State.count_tidy | apply State.setF_tidy | apply State.irq_tidy | apply tidyO_next | apply tidy1_mk | apply tidy2_mk | apply tidyS_none | apply tidyS_some | apply tidyS1_none | apply tidyS2_none) | with_reducible (apply tidy_fst; first | apply tidy1_ite) | with_reducible (apply tidy_snd; first | apply tidy2_ite) | split | with_reducible (first | apply tidy_ite | apply tidyO_ite | apply tidy1_ite | apply tidy2_ite) | with_reducible (fail_if_no_progress apply tidy_mk) | with_reducible (apply hf) | with_reducible (first | refine of1 ?_ (by assumption) | refine of2 ?_ (by assumption) | refine ofS ?_ (by assumption) | refine ofS1 ?_ (by assumption) | refine ofS2 ?_ (by assumption) | refine ofS3 ?_ (by assumption) | refine of3 ?_ (by assumption)) | dsimp only)

theorem execPpsOutPulse_tidy {pq} {s : State} (hs : Tidy pq s) : TidyO pq (execPpsOutPulse s) := by
  unfold execPpsOutPulse
  refine tidyO_ite (idle_tidy hs) ?_
  extract_lets +onlyGivenNames a t
  have ht : Tidy pq t := tidy_mk hs
  exact tidyO_ite (tidyO_next (tidy_mk ht)) (tidyO_next ht)

theorem execTb3Slew_tidy {pq} {s : State} (hs : Tidy pq s) : TidyO pq (execTb3Slew s) := by
  unfold execTb3Slew
  repeat' (first | with_reducible assumption | (extract_lets +onlyGivenNames zz; first | (refine (fun (hz : Tidy pq zz) => ?_) ?_; (on_goal 1 => (try clear_value zz; rename' zz => zy, hz => hy)); (on_goal 2 => subst zz)) | (try clear_value zz; rename' zz => zy)) | with_reducible (first | apply tidy_ite | apply tidyO_ite | apply idle_tidy | apply tidyO_next | apply tidy1_mk | apply tidy2_mk) | with_reducible (fail_if_no_progress apply tidy_mk) | with_reducible (first | refine of1 ?_ (by assumption) | refine of2 ?_ (by assumption) | refine ofS ?_ (by assumption) | refine ofS1 ?_ (by assumption) | refine ofS2 ?_ (by assumption) | refine ofS3 ?_ (by assumption) | refine of3 ?_ (by assumption)) | dsimp only)

theorem State.crossing_tidy {pq} {s : State} {t : ℕ} (hs : Tidy pq s) : Tidy pq (State.crossing s t) := by
  unfold State.crossing
  repeat' (first | with_reducible assumption | with_reducible (first | apply State.setF_tidy) | with_reducible (fail_if_no_progress apply tidy_mk))

theorem State.setPeriod_tidy {pq} {s : State} {ns : ℕ} (hs : Tidy pq s) : Tidy pq (State.setPeriod s ns) := by
  unfold State.setPeriod
  repeat' (first | with_reducible assumption | with_reducible (first | apply State.setF_tidy) | with_reducible (fail_if_no_progress apply tidy_mk))

theorem execZcEdge_tidy {pq} {rising : Bool} {stableUs : BitVec 16} {s : State} (hs : Tidy pq s) : TidyO pq (execZcEdge rising stableUs s) := by
  unfold execZcEdge
  repeat' (first | with_reducible assumption | (extract_lets +onlyGivenNames zz; first | (refine (fun (hz : Tidy pq zz) => ?_) ?_; (on_goal 1 => (try clear_value zz; rename' zz => zy, hz => hy)); (on_goal 2 => subst zz)) | (refine (fun (hz : ∀ t, Tidy pq t → Tidy pq (zz t)) => ?_) ?_; (on_goal 1 => (try clear_value zz; rename' zz => zy, hz => hf)); (on_goal 2 => (subst zz; intro _ _; beta_reduce))) | (refine (fun (hz : ∀ t, Tidy pq (zz t)) => ?_) ?_; (on_goal 1 => (try clear_value zz; rename' zz => zy, hz => hf)); (on_goal 2 => (subst zz; intro _; beta_reduce))) | (try clear_value zz; rename' zz => zy)) | with_reducible (first | apply idle_tidy | apply State.setPeriod_tidy | apply State.crossing_tidy | apply State.irq_tidy | apply State.setF_tidy | apply State.count_tidy | apply tidyO_next | apply tidy1_mk | apply tidy2_mk | apply tidyS_none | apply tidyS_some | apply tidyS1_none | apply tidyS2_none) | split | with_reducible (first | apply tidy_ite | apply tidyO_ite) | with_reducible (fail_if_no_progress apply tidy_mk) | with_reducible (apply hf) | with_reducible (first | refine of1 ?_ (by assumption) | refine of2 ?_ (by assumption) | refine ofS ?_ (by assumption) | refine ofS1 ?_ (by assumption) | refine ofS2 ?_ (by assumption) | refine ofS3 ?_ (by assumption) | refine of3 ?_ (by assumption)) | dsimp only)

theorem State.zcSynth_tidy {pq} {s : State} (hs : Tidy pq s) : Tidy pq (State.zcSynth s) := by
  unfold State.zcSynth
  repeat' (first | with_reducible assumption | with_reducible (first | apply State.irq_tidy | apply State.setF_tidy | apply tidyS_none | apply tidyS_some | apply tidyS1_none | apply tidyS2_none) | with_reducible (fail_if_no_progress apply tidy_mk))

theorem execZcSynth_tidy {pq} {s : State} (hs : Tidy pq s) : TidyO pq (execZcSynth s) := by
  unfold execZcSynth
  repeat' (first | with_reducible assumption | with_reducible (first | apply tidy_ite | apply tidyO_ite | apply State.zcSynth_tidy | apply idle_tidy | apply tidyO_next))

theorem State.rtcLoad_tidy {pq} {s : State} {v : ℕ} (hs : Tidy pq s) : Tidy pq (State.rtcLoad s v) := by
  unfold State.rtcLoad
  repeat' (first | with_reducible assumption | (extract_lets +onlyGivenNames zz; first | (refine (fun (hz : Tidy pq zz) => ?_) ?_; (on_goal 1 => (try clear_value zz; rename' zz => zy, hz => hy)); (on_goal 2 => subst zz)) | (refine (fun (hz : ∀ t, Tidy pq t → Tidy pq (zz t)) => ?_) ?_; (on_goal 1 => (try clear_value zz; rename' zz => zy, hz => hf)); (on_goal 2 => (subst zz; intro _ _; beta_reduce))) | (refine (fun (hz : ∀ t, Tidy pq (zz t)) => ?_) ?_; (on_goal 1 => (try clear_value zz; rename' zz => zy, hz => hf)); (on_goal 2 => (subst zz; intro _; beta_reduce))) | (try clear_value zz; rename' zz => zy)) | with_reducible (first | apply State.fireRtcDue_tidy | apply State.setF_tidy | apply State.rtcJump_tidy) | with_reducible (fail_if_no_progress apply tidy_mk) | with_reducible (apply hf) | with_reducible (first | refine of1 ?_ (by assumption) | refine of2 ?_ (by assumption) | refine ofS ?_ (by assumption) | refine ofS1 ?_ (by assumption) | refine ofS2 ?_ (by assumption) | refine ofS3 ?_ (by assumption) | refine of3 ?_ (by assumption)) | dsimp only)

theorem execRtcSet_tidy {pq} {req : Req} {s : State} (hs : Tidy pq s) : TidyO pq (execRtcSet req s) := by
  unfold execRtcSet
  repeat' (first | with_reducible assumption | with_reducible intro _ | with_reducible (first | apply State.onField_tidy | apply State.setF_tidy | apply tidyO_next | apply idle_tidy))

theorem execRtcSyncTb0_tidy {pq} {req : Req} {s : State} (hs : Tidy pq s) : TidyO pq (execRtcSyncTb0 req s) := by
  unfold execRtcSyncTb0
  repeat' (first | with_reducible assumption | with_reducible intro _ | with_reducible (first | apply tidy_ite | apply tidyO_ite | apply State.onField_tidy | apply State.setF_tidy | apply State.refuseAt_tidy | apply tidyO_next | apply idle_tidy))

theorem State.rtcLeapt_tidy {pq} {s : State} (hs : Tidy pq s) : Tidy pq (State.rtcLeapt s) := by
  unfold State.rtcLeapt
  repeat' (first | with_reducible assumption | (extract_lets +onlyGivenNames zz; first | (refine (fun (hz : Tidy pq zz) => ?_) ?_; (on_goal 1 => (try clear_value zz; rename' zz => zy, hz => hy)); (on_goal 2 => subst zz)) | (try clear_value zz; rename' zz => zy)) | with_reducible (first | apply tidy_ite | apply State.irq_tidy | apply State.setF_tidy | apply tidyS_none | apply tidyS_some | apply tidyS1_none | apply tidyS2_none) | with_reducible (fail_if_no_progress apply tidy_mk) | with_reducible (first | refine of1 ?_ (by assumption) | refine of2 ?_ (by assumption) | refine ofS ?_ (by assumption) | refine ofS1 ?_ (by assumption) | refine ofS2 ?_ (by assumption) | refine ofS3 ?_ (by assumption) | refine of3 ?_ (by assumption)) | dsimp only)

theorem State.rtcTick_tidy {pq} {s : State} (hs : Tidy pq s) : Tidy pq (State.rtcTick s) := by
  unfold State.rtcTick
  repeat' (first | with_reducible assumption | (extract_lets +onlyGivenNames zz; first | (refine (fun (hz : Tidy pq zz) => ?_) ?_; (on_goal 1 => (try clear_value zz; rename' zz => zy, hz => hy)); (on_goal 2 => subst zz)) | (try clear_value zz; rename' zz => zy)) | with_reducible (first | apply State.rtcLeapt_tidy | apply State.setF_tidy | apply State.rtcJump_tidy | apply tidy1_mk | apply tidy2_mk | apply tidyS_none | apply tidyS_some | apply tidyS1_none | apply tidyS2_none) | with_reducible (apply tidy_fst; first | apply tidy1_ite) | with_reducible (apply tidy_snd; first | apply tidy2_ite) | split | with_reducible (first | apply tidy_ite | apply tidy1_ite | apply tidy2_ite) | with_reducible (fail_if_no_progress apply tidy_mk) | with_reducible (first | refine of1 ?_ (by assumption) | refine of2 ?_ (by assumption) | refine ofS ?_ (by assumption) | refine ofS1 ?_ (by assumption) | refine ofS2 ?_ (by assumption) | refine ofS3 ?_ (by assumption) | refine of3 ?_ (by assumption)) | dsimp only)

theorem State.slowTick_tidy {pq} {s : State} (hs : Tidy pq s) : Tidy pq (State.slowTick s) := by
  unfold State.slowTick
  repeat' (first | with_reducible assumption | (extract_lets +onlyGivenNames zz; first | (refine (fun (hz : Tidy pq zz) => ?_) ?_; (on_goal 1 => (try clear_value zz; rename' zz => zy, hz => hy)); (on_goal 2 => subst zz)) | (try clear_value zz; rename' zz => zy)) | with_reducible (first | apply tidy_ite | apply State.rtcLoad_tidy | apply State.setF_tidy | apply State.rtcTick_tidy | apply tidy1_mk | apply tidy2_mk) | with_reducible (fail_if_no_progress apply tidy_mk) | with_reducible (first | refine of1 ?_ (by assumption) | refine of2 ?_ (by assumption) | refine ofS ?_ (by assumption) | refine ofS1 ?_ (by assumption) | refine ofS2 ?_ (by assumption) | refine ofS3 ?_ (by assumption) | refine of3 ?_ (by assumption)) | dsimp only)

theorem execRtcTrimTick_tidy {pq} {s : State} (hs : Tidy pq s) : TidyO pq (execRtcTrimTick s) := by
  unfold execRtcTrimTick
  repeat' (first | with_reducible assumption | (extract_lets +onlyGivenNames zz; first | (refine (fun (hz : Tidy pq zz) => ?_) ?_; (on_goal 1 => (try clear_value zz; rename' zz => zy, hz => hy)); (on_goal 2 => subst zz)) | (try clear_value zz; rename' zz => zy)) | with_reducible (first | apply tidy_ite | apply tidyO_ite | apply idle_tidy | apply State.rtcTick_tidy | apply tidyO_next | apply tidy1_mk | apply tidy2_mk) | with_reducible (fail_if_no_progress apply tidy_mk) | with_reducible (first | refine of1 ?_ (by assumption) | refine of2 ?_ (by assumption) | refine ofS ?_ (by assumption) | refine ofS1 ?_ (by assumption) | refine ofS2 ?_ (by assumption) | refine ofS3 ?_ (by assumption) | refine of3 ?_ (by assumption)) | dsimp only)

theorem State.oscStopped_tidy {pq} {s : State} (hs : Tidy pq s) : Tidy pq (State.oscStopped s) := by
  unfold State.oscStopped
  repeat' (first | with_reducible assumption | with_reducible (first | apply State.irq_tidy | apply State.setF_tidy))

theorem execOscStop_tidy {pq} {s : State} (hs : Tidy pq s) : TidyO pq (execOscStop s) := by
  unfold execOscStop
  repeat' (first | with_reducible assumption | with_reducible (first | apply State.event_tidy | apply State.setF_tidy | apply State.oscStopped_tidy | apply tidyO_next | apply idle_tidy))

theorem State.clearRetained_tidy {pq} {s : State} (hs : Tidy pq s) : Tidy pq (State.clearRetained s) := by
  exact ⟨hs.pending, hs.mem, keysRise_filter _ hs.regs, hs.eff, hs.queues⟩

theorem execRetLost_tidy {pq} {s : State} (hs : Tidy pq s) : TidyO pq (execRetLost s) := by
  unfold execRetLost
  repeat' (first | with_reducible assumption | (extract_lets +onlyGivenNames zz; first | (refine (fun (hz : Tidy pq zz) => ?_) ?_; (on_goal 1 => (try clear_value zz; rename' zz => zy, hz => hy)); (on_goal 2 => subst zz)) | (refine (fun (hz : ∀ t, Tidy pq t → Tidy pq (zz t)) => ?_) ?_; (on_goal 1 => (try clear_value zz; rename' zz => zy, hz => hf)); (on_goal 2 => (subst zz; intro _ _; beta_reduce))) | (refine (fun (hz : ∀ t, Tidy pq (zz t)) => ?_) ?_; (on_goal 1 => (try clear_value zz; rename' zz => zy, hz => hf)); (on_goal 2 => (subst zz; intro _; beta_reduce))) | (try clear_value zz; rename' zz => zy)) | with_reducible (first | apply State.drawBytes_tidy | apply State.write_tidy | apply State.event_tidy | apply State.setF_tidy | apply State.oscStopped_tidy | apply State.clearRetained_tidy | apply tidyO_next | apply idle_tidy | apply tidy1_mk | apply tidy2_mk | apply tidyS_none | apply tidyS_some | apply tidyS1_none | apply tidyS2_none) | with_reducible (apply tidy_snd; first | apply State.drawBytes_tidy) | with_reducible (fail_if_no_progress apply tidy_mk) | with_reducible (apply hf) | with_reducible (first | refine of1 ?_ (by assumption) | refine of2 ?_ (by assumption) | refine ofS ?_ (by assumption) | refine ofS1 ?_ (by assumption) | refine ofS2 ?_ (by assumption) | refine ofS3 ?_ (by assumption) | refine of3 ?_ (by assumption)) | dsimp only)

theorem execBatComparator_tidy {pq} {exhausted : Bool} {s : State} (hs : Tidy pq s) : TidyO pq (execBatComparator exhausted s) := by
  unfold execBatComparator
  repeat' (first | with_reducible assumption | (extract_lets +onlyGivenNames zz; first | (refine (fun (hz : Tidy pq zz) => ?_) ?_; (on_goal 1 => (try clear_value zz; rename' zz => zy, hz => hy)); (on_goal 2 => subst zz)) | (refine (fun (hz : ∀ t, Tidy pq t → Tidy pq (zz t)) => ?_) ?_; (on_goal 1 => (try clear_value zz; rename' zz => zy, hz => hf)); (on_goal 2 => (subst zz; intro _ _; beta_reduce))) | (refine (fun (hz : ∀ t, Tidy pq (zz t)) => ?_) ?_; (on_goal 1 => (try clear_value zz; rename' zz => zy, hz => hf)); (on_goal 2 => (subst zz; intro _; beta_reduce))) | (try clear_value zz; rename' zz => zy)) | with_reducible (first | apply tidy_ite | apply tidyO_ite | apply State.irq_tidy | apply State.setF_tidy | apply tidyO_next | apply idle_tidy) | with_reducible (apply hf) | with_reducible (first | refine of1 ?_ (by assumption) | refine of2 ?_ (by assumption) | refine ofS ?_ (by assumption) | refine ofS1 ?_ (by assumption) | refine ofS2 ?_ (by assumption) | refine ofS3 ?_ (by assumption) | refine of3 ?_ (by assumption)) | dsimp only)

theorem execBatMeasure_tidy {pq} {mv : BitVec 13} {s : State} (hs : Tidy pq s) : TidyO pq (execBatMeasure mv s) := by
  unfold execBatMeasure
  repeat' (first | with_reducible assumption | with_reducible (first | apply tidy_ite | apply tidyO_ite | apply State.setF_tidy | apply idle_tidy | apply tidyO_next) | with_reducible (fail_if_no_progress apply tidy_mk))

theorem execRtcChgWrite_tidy {pq} {req : Req} {data : Word} {s : State} (hs : Tidy pq s) : TidyO pq (execRtcChgWrite req data s) := by
  unfold execRtcChgWrite
  repeat' (first | with_reducible assumption | with_reducible intro _ | (extract_lets +onlyGivenNames zz; first | (refine (fun (hz : Tidy pq zz) => ?_) ?_; (on_goal 1 => (try clear_value zz; rename' zz => zy, hz => hy)); (on_goal 2 => subst zz)) | (try clear_value zz; rename' zz => zy)) | with_reducible (first | apply tidy_ite | apply tidyO_ite | apply State.onWrite_tidy | apply State.err_tidy | apply State.setF_tidy | apply tidyO_next | apply idle_tidy) | with_reducible (first | refine of1 ?_ (by assumption) | refine of2 ?_ (by assumption) | refine ofS ?_ (by assumption) | refine ofS1 ?_ (by assumption) | refine ofS2 ?_ (by assumption) | refine ofS3 ?_ (by assumption) | refine of3 ?_ (by assumption)) | dsimp only)

theorem State.tb0Tick_tidy {pq} {s : State} (hs : Tidy pq s) : Tidy pq (State.tb0Tick s) := by
  unfold State.tb0Tick
  repeat' (first | with_reducible assumption | (extract_lets +onlyGivenNames zz; first | (refine (fun (hz : Tidy pq zz) => ?_) ?_; (on_goal 1 => (try clear_value zz; rename' zz => zy, hz => hy)); (on_goal 2 => subst zz)) | (try clear_value zz; rename' zz => zy)) | with_reducible (first | apply tidy1_mk | apply tidy2_mk) | with_reducible (fail_if_no_progress apply tidy_mk) | with_reducible (first | refine of1 ?_ (by assumption) | refine of2 ?_ (by assumption) | refine ofS ?_ (by assumption) | refine ofS1 ?_ (by assumption) | refine ofS2 ?_ (by assumption) | refine ofS3 ?_ (by assumption) | refine of3 ?_ (by assumption)) | dsimp only)

theorem State.tb3Tick_tidy {pq} {s : State} (hs : Tidy pq s) : Tidy pq (State.tb3Tick s) := by
  unfold State.tb3Tick
  repeat' (first | with_reducible assumption | (extract_lets +onlyGivenNames zz; first | (refine (fun (hz : Tidy pq zz) => ?_) ?_; (on_goal 1 => (try clear_value zz; rename' zz => zy, hz => hy)); (on_goal 2 => subst zz)) | (try clear_value zz; rename' zz => zy)) | with_reducible (first | apply tidy1_mk | apply tidy2_mk) | with_reducible (fail_if_no_progress apply tidy_mk) | with_reducible (first | refine of1 ?_ (by assumption) | refine of2 ?_ (by assumption) | refine ofS ?_ (by assumption) | refine ofS1 ?_ (by assumption) | refine ofS2 ?_ (by assumption) | refine ofS3 ?_ (by assumption) | refine of3 ?_ (by assumption)) | dsimp only)

theorem State.tb4Tick_tidy {pq} {s : State} (hs : Tidy pq s) : Tidy pq (State.tb4Tick s) := by
  unfold State.tb4Tick
  repeat' (first | with_reducible assumption | (extract_lets +onlyGivenNames zz; first | (refine (fun (hz : Tidy pq zz) => ?_) ?_; (on_goal 1 => (try clear_value zz; rename' zz => zy, hz => hy)); (on_goal 2 => subst zz)) | (try clear_value zz; rename' zz => zy)) | with_reducible (first | apply tidy_ite | apply State.crossing_tidy) | with_reducible (first | refine of1 ?_ (by assumption) | refine of2 ?_ (by assumption) | refine ofS ?_ (by assumption) | refine ofS1 ?_ (by assumption) | refine ofS2 ?_ (by assumption) | refine ofS3 ?_ (by assumption) | refine of3 ?_ (by assumption)) | dsimp only)

theorem State.syncTick_tidy {pq} {s was : State} (hs : Tidy pq s) (hwas : Tidy pq was) : Tidy pq (State.syncTick s was) := by
  unfold State.syncTick
  repeat' (first | with_reducible assumption | with_reducible (first | apply tidy_ite | apply State.rtcLoad_tidy | apply State.setF_tidy))

theorem State.tick_tidy {pq} {s : State} (hs : Tidy pq s) : Tidy pq (State.tick s) := by
  unfold State.tick
  repeat' (first | with_reducible assumption | (extract_lets +onlyGivenNames zz; first | (refine (fun (hz : Tidy pq zz) => ?_) ?_; (on_goal 1 => (try clear_value zz; rename' zz => zy, hz => hy)); (on_goal 2 => subst zz)) | (refine (fun (hz : ∀ t, Tidy pq t → Tidy pq (zz t)) => ?_) ?_; (on_goal 1 => (try clear_value zz; rename' zz => zy, hz => hf)); (on_goal 2 => (subst zz; intro _ _; beta_reduce))) | (refine (fun (hz : ∀ t, Tidy pq (zz t)) => ?_) ?_; (on_goal 1 => (try clear_value zz; rename' zz => zy, hz => hf)); (on_goal 2 => (subst zz; intro _; beta_reduce))) | (try clear_value zz; rename' zz => zy)) | with_reducible (first | apply tidy_ite | apply State.slowTick_tidy | apply State.tb0Tick_tidy | apply State.tb4Tick_tidy | apply State.tb3Tick_tidy | apply State.syncTick_tidy) | with_reducible (fail_if_no_progress apply tidy_mk) | with_reducible (apply hf) | with_reducible (first | refine of1 ?_ (by assumption) | refine of2 ?_ (by assumption) | refine ofS ?_ (by assumption) | refine ofS1 ?_ (by assumption) | refine ofS2 ?_ (by assumption) | refine ofS3 ?_ (by assumption) | refine of3 ?_ (by assumption)) | dsimp only)


/-! ## PortOps -/

theorem State.setPort_tidy {pq} {s : State} {k : ℕ} {p : PortState} (hs : Tidy pq s) : Tidy pq (State.setPort s k p) := by
  unfold State.setPort
  repeat' (first | with_reducible assumption | with_reducible (fail_if_no_progress apply tidy_mk))

theorem State.putNode_tidy {pq} {s : State} {k a : ℕ} {n : Option PortNode} (hs : Tidy pq s) : Tidy pq (State.putNode s k a n) := by
  unfold State.putNode
  repeat' (first | with_reducible assumption | (extract_lets +onlyGivenNames zz; first | (refine (fun (hz : Tidy pq zz) => ?_) ?_; (on_goal 1 => (try clear_value zz; rename' zz => zy, hz => hy)); (on_goal 2 => subst zz)) | (try clear_value zz; rename' zz => zy)) | with_reducible (first | apply State.setPort_tidy | apply tidyS_none | apply tidyS_some | apply tidyS1_none | apply tidyS2_none) | with_reducible (fail_if_no_progress apply tidy_mk) | with_reducible (first | refine of1 ?_ (by assumption) | refine of2 ?_ (by assumption) | refine ofS ?_ (by assumption) | refine ofS1 ?_ (by assumption) | refine ofS2 ?_ (by assumption) | refine ofS3 ?_ (by assumption) | refine of3 ?_ (by assumption)) | dsimp only)

theorem State.countNodes_tidy {pq} {s : State} {k : ℕ} (hs : Tidy pq s) : Tidy pq (State.countNodes s k) := by
  unfold State.countNodes
  repeat' (first | with_reducible assumption | with_reducible intro _ | with_reducible (first | apply State.setF_tidy | apply tidyS_none | apply tidyS_some | apply tidyS1_none | apply tidyS2_none) | split | with_reducible (first | apply tidy_ite) | with_reducible (fail_if_no_progress apply tidy_mk) | with_reducible (first | refine of1 ?_ (by assumption) | refine of2 ?_ (by assumption) | refine ofS ?_ (by assumption) | refine ofS1 ?_ (by assumption) | refine ofS2 ?_ (by assumption) | refine ofS3 ?_ (by assumption) | refine of3 ?_ (by assumption)) | dsimp only)

theorem State.hear_tidy {pq} {s : State} {k a : ℕ} (hs : Tidy pq s) : Tidy pq (State.hear s k a) := by
  unfold State.hear
  repeat' (first | with_reducible assumption | with_reducible (first | apply State.putNode_tidy | apply tidyS_none | apply tidyS_some | apply tidyS1_none | apply tidyS2_none) | split | with_reducible (fail_if_no_progress apply tidy_mk) | with_reducible (first | refine of1 ?_ (by assumption) | refine of2 ?_ (by assumption) | refine ofS ?_ (by assumption) | refine ofS1 ?_ (by assumption) | refine ofS2 ?_ (by assumption) | refine ofS3 ?_ (by assumption) | refine of3 ?_ (by assumption)) | dsimp only)

theorem State.toSend_tidy {pq} {s : State} {k : ℕ} {t : PortTx} (hs : Tidy pq s) : Tidy pq (State.toSend s k t) := by
  unfold State.toSend
  repeat' (first | with_reducible assumption | (extract_lets +onlyGivenNames zz; first | (refine (fun (hz : Tidy pq zz) => ?_) ?_; (on_goal 1 => (try clear_value zz; rename' zz => zy, hz => hy)); (on_goal 2 => subst zz)) | (try clear_value zz; rename' zz => zy)) | with_reducible (first | apply State.setPort_tidy | apply tidy1_mk | apply tidy2_mk) | with_reducible (fail_if_no_progress apply tidy_mk) | with_reducible (first | refine of1 ?_ (by assumption) | refine of2 ?_ (by assumption) | refine ofS ?_ (by assumption) | refine ofS1 ?_ (by assumption) | refine ofS2 ?_ (by assumption) | refine ofS3 ?_ (by assumption) | refine of3 ?_ (by assumption)) | dsimp only)

theorem State.joinResp_tidy {pq} {s : State} {k id addr slot status : ℕ} (hs : Tidy pq s) : Tidy pq (State.joinResp s k id addr slot status) := by
  unfold State.joinResp
  repeat' (first | with_reducible assumption | (extract_lets +onlyGivenNames zz; first | (refine (fun (hz : Tidy pq zz) => ?_) ?_; (on_goal 1 => (try clear_value zz; rename' zz => zy, hz => hy)); (on_goal 2 => subst zz)) | (try clear_value zz; rename' zz => zy)) | with_reducible (first | apply tidy_ite | apply State.toSend_tidy | apply tidy1_mk | apply tidy2_mk) | with_reducible (first | refine of1 ?_ (by assumption) | refine of2 ?_ (by assumption) | refine ofS ?_ (by assumption) | refine ofS1 ?_ (by assumption) | refine ofS2 ?_ (by assumption) | refine ofS3 ?_ (by assumption) | refine of3 ?_ (by assumption)) | dsimp only)

theorem State.applyJoin_tidy {pq} {s : State} {b : Bytes} (hs : Tidy pq s) : Tidy pq (State.applyJoin s b) := by
  unfold State.applyJoin
  repeat' (first | with_reducible assumption | (extract_lets +onlyGivenNames zz; first | (refine (fun (hz : Tidy pq zz) => ?_) ?_; (on_goal 1 => (try clear_value zz; rename' zz => zy, hz => hy)); (on_goal 2 => subst zz)) | (refine (fun (hz : ∀ t, Tidy pq t → Tidy pq (zz t)) => ?_) ?_; (on_goal 1 => (try clear_value zz; rename' zz => zy, hz => hf)); (on_goal 2 => (subst zz; intro _ _; beta_reduce))) | (refine (fun (hz : ∀ t, Tidy pq (zz t)) => ?_) ?_; (on_goal 1 => (try clear_value zz; rename' zz => zy, hz => hf)); (on_goal 2 => (subst zz; intro _; beta_reduce))) | (try clear_value zz; rename' zz => zy)) | with_reducible (first | apply tidy_ite | apply tidyS_ite | apply State.putNode_tidy | apply State.irq_tidy | apply State.countNodes_tidy | apply State.joinResp_tidy | apply tidy1_mk | apply tidy2_mk | apply tidyS_none | apply tidyS_some | apply tidyS1_none | apply tidyS2_none | apply tidy_getD) | with_reducible (fail_if_no_progress apply tidy_mk) | with_reducible (apply hf) | with_reducible (first | refine of1 ?_ (by assumption) | refine of2 ?_ (by assumption) | refine ofS ?_ (by assumption) | refine ofS1 ?_ (by assumption) | refine ofS2 ?_ (by assumption) | refine ofS3 ?_ (by assumption) | refine of3 ?_ (by assumption)) | dsimp only)

theorem State.decideJoin_tidy {pq} {s : State} {k id : ℕ} (hs : Tidy pq s) : Tidy pq (State.decideJoin s k id) := by
  unfold State.decideJoin
  repeat' (first | with_reducible assumption | with_reducible intro _ | (extract_lets +onlyGivenNames zz; first | (refine (fun (hz : Tidy pq zz) => ?_) ?_; (on_goal 1 => (try clear_value zz; rename' zz => zy, hz => hy)); (on_goal 2 => subst zz)) | (refine (fun (hz : ∀ t, Tidy pq t → Tidy pq (zz t)) => ?_) ?_; (on_goal 1 => (try clear_value zz; rename' zz => zy, hz => hf)); (on_goal 2 => (subst zz; intro _ _; beta_reduce))) | (refine (fun (hz : ∀ t, Tidy pq (zz t)) => ?_) ?_; (on_goal 1 => (try clear_value zz; rename' zz => zy, hz => hf)); (on_goal 2 => (subst zz; intro _; beta_reduce))) | (try clear_value zz; rename' zz => zy)) | with_reducible (first | apply State.dirFind_tidy | apply State.joinResp_tidy | apply State.enq_tidy | apply State.putNode_tidy | apply tidy1_mk | apply tidy2_mk | apply map_tidyS | apply map_tidyS_of2 | apply map_tidyS_any | apply tidyS_none | apply tidyS_some | apply tidyS1_none | apply tidyS2_none | apply tidy_getD) | with_reducible (apply tidy_fst; first | apply State.dirFind_tidy | apply tidy1_ite) | with_reducible (apply tidy_snd; first | apply tidy2_ite) | split | with_reducible (first | apply tidy_ite | apply tidy1_ite | apply tidy2_ite | apply tidyS_ite) | with_reducible (fail_if_no_progress apply tidy_mk) | with_reducible (apply hf) | with_reducible (first | refine of1 ?_ (by assumption) | refine of2 ?_ (by assumption) | refine ofS ?_ (by assumption) | refine ofS1 ?_ (by assumption) | refine ofS2 ?_ (by assumption) | refine ofS3 ?_ (by assumption) | refine of3 ?_ (by assumption)) | dsimp only)

theorem State.ageNode_tidy {pq} {s : State} {k a : ℕ} (hs : Tidy pq s) : Tidy pq (State.ageNode s k a) := by
  unfold State.ageNode
  repeat' (first | with_reducible assumption | (extract_lets +onlyGivenNames zz; first | (refine (fun (hz : Tidy pq zz) => ?_) ?_; (on_goal 1 => (try clear_value zz; rename' zz => zy, hz => hy)); (on_goal 2 => subst zz)) | (try clear_value zz; rename' zz => zy)) | with_reducible (first | apply State.irq_tidy | apply State.countNodes_tidy | apply State.putNode_tidy | apply tidyS_none | apply tidyS_some | apply tidyS1_none | apply tidyS2_none) | split | with_reducible (first | apply tidy_ite) | with_reducible (fail_if_no_progress apply tidy_mk) | with_reducible (first | refine of1 ?_ (by assumption) | refine of2 ?_ (by assumption) | refine ofS ?_ (by assumption) | refine ofS1 ?_ (by assumption) | refine ofS2 ?_ (by assumption) | refine ofS3 ?_ (by assumption) | refine of3 ?_ (by assumption)) | dsimp only)

theorem State.takeMeter_tidy {pq} {s : State} {k a seq : ℕ} {raw : Bytes} (hs : Tidy pq s) : Tidy1 pq (State.takeMeter s k a seq raw) := by
  unfold State.takeMeter
  repeat' (first | with_reducible assumption | (extract_lets +onlyGivenNames zz; first | (refine (fun (hz : Tidy pq zz) => ?_) ?_; (on_goal 1 => (try clear_value zz; rename' zz => zy, hz => hy)); (on_goal 2 => subst zz)) | (try clear_value zz; rename' zz => zy)) | with_reducible (first | apply State.count_tidy | apply State.irq_tidy | apply State.enq_tidy | apply State.putNode_tidy | apply tidy1_mk | apply tidy2_mk | apply tidyS_none | apply tidyS_some | apply tidyS1_none | apply tidyS2_none) | with_reducible (apply tidy_fst; first | apply tidy1_ite) | with_reducible (apply tidy_snd; first | apply tidy2_ite) | split | with_reducible (first | apply tidy_ite | apply tidy1_ite | apply tidy2_ite) | with_reducible (fail_if_no_progress apply tidy_mk) | with_reducible (first | refine of1 ?_ (by assumption) | refine of2 ?_ (by assumption) | refine ofS ?_ (by assumption) | refine ofS1 ?_ (by assumption) | refine ofS2 ?_ (by assumption) | refine ofS3 ?_ (by assumption) | refine of3 ?_ (by assumption)) | dsimp only)

theorem State.forwardFrame_tidy {pq} {s : State} {k link seq : ℕ} {raw : Bytes} (hs : Tidy pq s) : Tidy pq (State.forwardFrame s k link seq raw) := by
  unfold State.forwardFrame
  repeat' (first | with_reducible assumption | (extract_lets +onlyGivenNames zz; first | (refine (fun (hz : Tidy pq zz) => ?_) ?_; (on_goal 1 => (try clear_value zz; rename' zz => zy, hz => hy)); (on_goal 2 => subst zz)) | (try clear_value zz; rename' zz => zy)) | with_reducible (first | apply tidy_ite | apply State.count_tidy | apply State.enq_tidy) | with_reducible (first | refine of1 ?_ (by assumption) | refine of2 ?_ (by assumption) | refine ofS ?_ (by assumption) | refine ofS1 ?_ (by assumption) | refine ofS2 ?_ (by assumption) | refine ofS3 ?_ (by assumption) | refine of3 ?_ (by assumption)) | dsimp only)

theorem State.setOutIndex_tidy {pq} {s : State} {stream n : ℕ} (hs : Tidy pq s) : Tidy pq (State.setOutIndex s stream n) := by
  unfold State.setOutIndex
  repeat' (first | with_reducible assumption | (extract_lets +onlyGivenNames zz; first | (refine (fun (hz : Tidy pq zz) => ?_) ?_; (on_goal 1 => (try clear_value zz; rename' zz => zy, hz => hy)); (on_goal 2 => subst zz)) | (try clear_value zz; rename' zz => zy)) | with_reducible (first | apply tidy_ite | apply State.set2_tidy) | with_reducible (fail_if_no_progress apply tidy_mk) | with_reducible (first | refine of1 ?_ (by assumption) | refine of2 ?_ (by assumption) | refine ofS ?_ (by assumption) | refine ofS1 ?_ (by assumption) | refine ofS2 ?_ (by assumption) | refine ofS3 ?_ (by assumption) | refine of3 ?_ (by assumption)) | dsimp only)

theorem State.disagree_tidy {pq} {s : State} {stream index : ℕ} (hs : Tidy pq s) : Tidy pq (State.disagree s stream index) := by
  unfold State.disagree
  repeat' (first | with_reducible assumption | (extract_lets +onlyGivenNames zz; first | (refine (fun (hz : Tidy pq zz) => ?_) ?_; (on_goal 1 => (try clear_value zz; rename' zz => zy, hz => hy)); (on_goal 2 => subst zz)) | (refine (fun (hz : ∀ t, Tidy pq t → Tidy pq (zz t)) => ?_) ?_; (on_goal 1 => (try clear_value zz; rename' zz => zy, hz => hf)); (on_goal 2 => (subst zz; intro _ _; beta_reduce))) | (refine (fun (hz : ∀ t, Tidy pq (zz t)) => ?_) ?_; (on_goal 1 => (try clear_value zz; rename' zz => zy, hz => hf)); (on_goal 2 => (subst zz; intro _; beta_reduce))) | (try clear_value zz; rename' zz => zy)) | with_reducible (first | apply tidy_ite | apply State.irq_tidy | apply State.count_tidy | apply State.setF_tidy | apply State.event_tidy) | with_reducible (fail_if_no_progress apply tidy_mk) | with_reducible (apply hf) | with_reducible (first | refine of1 ?_ (by assumption) | refine of2 ?_ (by assumption) | refine ofS ?_ (by assumption) | refine ofS1 ?_ (by assumption) | refine ofS2 ?_ (by assumption) | refine ofS3 ?_ (by assumption) | refine of3 ?_ (by assumption)) | dsimp only)

theorem State.compareDigests_tidy {pq} {s : State} {stream index : ℕ} (hs : Tidy pq s) : Tidy pq (State.compareDigests s stream index) := by
  unfold State.compareDigests
  repeat' (first | with_reducible assumption | with_reducible intro _ | (extract_lets +onlyGivenNames zz; first | (refine (fun (hz : Tidy pq zz) => ?_) ?_; (on_goal 1 => (try clear_value zz; rename' zz => zy, hz => hy)); (on_goal 2 => subst zz)) | (refine (fun (hz : ∀ t, Tidy pq t → Tidy pq (zz t)) => ?_) ?_; (on_goal 1 => (try clear_value zz; rename' zz => zy, hz => hf)); (on_goal 2 => (subst zz; intro _ _; beta_reduce))) | (refine (fun (hz : ∀ t, Tidy pq (zz t)) => ?_) ?_; (on_goal 1 => (try clear_value zz; rename' zz => zy, hz => hf)); (on_goal 2 => (subst zz; intro _; beta_reduce))) | (try clear_value zz; rename' zz => zy)) | with_reducible (first | apply State.disagree_tidy | apply tidy1_mk | apply tidy2_mk) | split | with_reducible (first | apply tidy_ite) | with_reducible (fail_if_no_progress apply tidy_mk) | with_reducible (apply hf) | with_reducible (first | refine of1 ?_ (by assumption) | refine of2 ?_ (by assumption) | refine ofS ?_ (by assumption) | refine ofS1 ?_ (by assumption) | refine ofS2 ?_ (by assumption) | refine ofS3 ?_ (by assumption) | refine of3 ?_ (by assumption)) | dsimp only)

theorem State.output_tidy {pq} {s : State} {stream : ℕ} {span : Bytes} (hs : Tidy pq s) : Tidy pq (State.output s stream span) := by
  unfold State.output
  repeat' (first | with_reducible assumption | (extract_lets +onlyGivenNames zz; first | (refine (fun (hz : Tidy pq zz) => ?_) ?_; (on_goal 1 => (try clear_value zz; rename' zz => zy, hz => hy)); (on_goal 2 => subst zz)) | (try clear_value zz; rename' zz => zy)) | with_reducible (first | apply tidy_ite | apply State.setOutIndex_tidy | apply State.enq_tidy | apply State.compareDigests_tidy | apply tidy1_mk | apply tidy2_mk) | with_reducible (fail_if_no_progress apply tidy_mk) | with_reducible (first | refine of1 ?_ (by assumption) | refine of2 ?_ (by assumption) | refine ofS ?_ (by assumption) | refine ofS1 ?_ (by assumption) | refine ofS2 ?_ (by assumption) | refine ofS3 ?_ (by assumption) | refine of3 ?_ (by assumption)) | dsimp only)

theorem State.emit_tidy {pq} {s : State} {way : ℕ} {b : Bytes} (hs : Tidy pq s) : Tidy pq (State.emit s way b) := by
  unfold State.emit
  repeat' (first | with_reducible assumption | with_reducible (first | apply tidy1_mk | apply tidy2_mk) | with_reducible (fail_if_no_progress apply tidy_mk))

theorem State.hostWrite_tidy {pq} {s : State} {a : ℕ} {b : Bytes} (hs : Tidy pq s) : Tidy pq (State.hostWrite s a b) := by
  unfold State.hostWrite
  repeat' (first | with_reducible assumption | with_reducible (first | apply State.write_tidy | apply State.emit_tidy))

theorem State.abortTx_tidy {pq} {s : State} {k : ℕ} (hs : Tidy pq s) : Tidy pq (State.abortTx s k) := by
  unfold State.abortTx
  repeat' (first | with_reducible assumption | with_reducible intro _ | (extract_lets +onlyGivenNames zz; first | (refine (fun (hz : Tidy pq zz) => ?_) ?_; (on_goal 1 => (try clear_value zz; rename' zz => zy, hz => hy)); (on_goal 2 => subst zz)) | (try clear_value zz; rename' zz => zy)) | with_reducible (first | apply State.setPort_tidy | apply tidy1_mk | apply tidy2_mk | apply tidyS_none | apply tidyS_some | apply tidyS1_none | apply tidyS2_none) | with_reducible (fail_if_no_progress apply tidy_mk) | with_reducible (first | refine of1 ?_ (by assumption) | refine of2 ?_ (by assumption) | refine ofS ?_ (by assumption) | refine ofS1 ?_ (by assumption) | refine ofS2 ?_ (by assumption) | refine ofS3 ?_ (by assumption) | refine of3 ?_ (by assumption)) | dsimp only)

theorem State.takeDownIvc_tidy {pq} {s : State} {m fmt : ℕ} (hs : Tidy pq s) : TidyS2 pq (State.takeDownIvc s m fmt) := by
  unfold State.takeDownIvc
  repeat' (first | with_reducible assumption | (extract_lets +onlyGivenNames zz; first | (refine (fun (hz : Tidy pq zz) => ?_) ?_; (on_goal 1 => (try clear_value zz; rename' zz => zy, hz => hy)); (on_goal 2 => subst zz)) | (try clear_value zz; rename' zz => zy)) | with_reducible (first | apply tidy_ite | apply tidy1_ite | apply tidy2_ite | apply tidyS2_ite | apply State.setRec_tidy | apply State.touch_tidy | apply tidy1_mk | apply tidy2_mk | apply tidyS_none | apply tidyS_some | apply tidyS1_none | apply tidyS2_none | apply tidyS2_some) | with_reducible (apply tidy_fst; first | apply tidy1_ite) | with_reducible (apply tidy_snd; first | apply tidy2_ite) | with_reducible (first | refine of1 ?_ (by assumption) | refine of2 ?_ (by assumption) | refine ofS ?_ (by assumption) | refine ofS1 ?_ (by assumption) | refine ofS2 ?_ (by assumption) | refine ofS3 ?_ (by assumption) | refine of3 ?_ (by assumption)) | dsimp only)

theorem State.ackFrame_tidy {pq} {s : State} {a : Ack} {title : Bytes} (hs : Tidy pq s) : Tidy2 pq (State.ackFrame s a title) := by
  unfold State.ackFrame
  repeat' (first | with_reducible assumption | with_reducible (first | apply State.takeDownIvc_tidy | apply State.irq_tidy | apply State.count_tidy | apply tidy1_mk | apply tidy2_mk | apply tidyS_none | apply tidyS_some | apply tidyS1_none | apply tidyS2_none) | with_reducible (apply tidy_fst; first | apply tidy1_ite) | with_reducible (apply tidy_snd; first | apply tidy2_ite) | split | with_reducible (first | apply tidy_ite | apply tidy1_ite | apply tidy2_ite) | with_reducible (fail_if_no_progress apply tidy_mk) | with_reducible (first | refine of1 ?_ (by assumption) | refine of2 ?_ (by assumption) | refine ofS ?_ (by assumption) | refine ofS1 ?_ (by assumption) | refine ofS2 ?_ (by assumption) | refine ofS3 ?_ (by assumption) | refine of3 ?_ (by assumption)) | dsimp only)

theorem State.dropAck_tidy {pq} {s : State} {k : ℕ} (hs : Tidy pq s) : Tidy pq (State.dropAck s k) := by
  unfold State.dropAck
  repeat' (first | with_reducible assumption | with_reducible (first | apply State.creditBack_tidy | apply State.count_tidy))

theorem State.portAck_tidy {pq} {s : State} {k parity : ℕ} (hs : Tidy pq s) : Tidy pq (State.portAck s k parity) := by
  unfold State.portAck
  repeat' (first | with_reducible assumption | (extract_lets +onlyGivenNames zz; first | (refine (fun (hz : Tidy pq zz) => ?_) ?_; (on_goal 1 => (try clear_value zz; rename' zz => zy, hz => hy)); (on_goal 2 => subst zz)) | (try clear_value zz; rename' zz => zy)) | with_reducible (first | apply State.faultFront_tidy | apply State.loseAck_tidy | apply State.creditBack_tidy | apply State.dropAck_tidy | apply State.output_tidy | apply State.toSend_tidy | apply State.deqHeld_tidy | apply State.ackFrame_tidy | apply tidy1_mk | apply tidy2_mk | apply tidyS_none | apply tidyS_some | apply tidyS1_none | apply tidyS2_none) | with_reducible (apply tidy_fst; first | apply tidy1_ite) | with_reducible (apply tidy_snd; first | apply State.ackFrame_tidy | apply tidy2_ite) | split | with_reducible (first | apply tidy_ite | apply tidy1_ite | apply tidy2_ite) | with_reducible (fail_if_no_progress apply tidy_mk) | with_reducible (first | refine of1 ?_ (by assumption) | refine of2 ?_ (by assumption) | refine ofS ?_ (by assumption) | refine ofS1 ?_ (by assumption) | refine ofS2 ?_ (by assumption) | refine ofS3 ?_ (by assumption) | refine of3 ?_ (by assumption)) | dsimp only)

theorem State.downDone_tidy {pq} {s : State} {k tag status attempts stamp : ℕ} (hs : Tidy pq s) : Tidy pq (State.downDone s k tag status attempts stamp) := by
  unfold State.downDone
  repeat' (first | with_reducible assumption | with_reducible (first | apply State.enq_tidy))

theorem State.downFenced_tidy {pq} {s : State} {k : ℕ} (hs : Tidy pq s) : Tidy pq (State.downFenced s k) := by
  unfold State.downFenced
  repeat' (first | with_reducible assumption | with_reducible (first | apply State.deq_tidy | apply State.downDone_tidy | apply tidy1_mk | apply tidy2_mk) | split | with_reducible (first | apply tidy_ite) | with_reducible (fail_if_no_progress apply tidy_mk) | with_reducible (first | refine of1 ?_ (by assumption) | refine of2 ?_ (by assumption) | refine ofS ?_ (by assumption) | refine ofS1 ?_ (by assumption) | refine ofS2 ?_ (by assumption) | refine ofS3 ?_ (by assumption) | refine of3 ?_ (by assumption)) | dsimp only)

theorem State.portDownlink_tidy {pq} {s : State} {k : ℕ} {sub : Option Submission} {fits : State → ℕ → ℕ → Bool → Bool} (hs : Tidy pq s) : Tidy pq (State.portDownlink s k sub fits) := by
  unfold State.portDownlink
  repeat' (first | with_reducible assumption | with_reducible intro _ | (extract_lets +onlyGivenNames zz; first | (refine (fun (hz : Tidy pq zz) => ?_) ?_; (on_goal 1 => (try clear_value zz; rename' zz => zy, hz => hy)); (on_goal 2 => subst zz)) | (try clear_value zz; rename' zz => zy)) | with_reducible (first | apply State.onWrite_tidy | apply State.enq_tidy | apply State.downFenced_tidy | apply State.downDone_tidy | apply State.output_tidy | apply State.toSend_tidy | apply State.deq_tidy | apply tidy1_mk | apply tidy2_mk | apply tidyS_none | apply tidyS_some | apply tidyS1_none | apply tidyS2_none) | with_reducible (apply tidy_fst; first | apply tidy1_ite) | with_reducible (apply tidy_snd; first | apply tidy2_ite) | split | with_reducible (first | apply tidy_ite | apply tidy1_ite | apply tidy2_ite | apply tidyS_ite) | with_reducible (fail_if_no_progress apply tidy_mk) | with_reducible (first | refine of1 ?_ (by assumption) | refine of2 ?_ (by assumption) | refine ofS ?_ (by assumption) | refine ofS1 ?_ (by assumption) | refine ofS2 ?_ (by assumption) | refine ofS3 ?_ (by assumption) | refine of3 ?_ (by assumption)) | dsimp only)

theorem State.txDone_tidy {pq} {s : State} {k : ℕ} {t : PortTx} {status : ℕ} (hs : Tidy pq s) : Tidy pq (State.txDone s k t status) := by
  unfold State.txDone
  repeat' (first | with_reducible assumption | (extract_lets +onlyGivenNames zz; first | (refine (fun (hz : Tidy pq zz) => ?_) ?_; (on_goal 1 => (try clear_value zz; rename' zz => zy, hz => hy)); (on_goal 2 => subst zz)) | (try clear_value zz; rename' zz => zy)) | with_reducible (first | apply State.creditBack_tidy | apply State.downDone_tidy | apply State.irq_tidy | apply State.count_tidy | apply tidyS_none | apply tidyS_some | apply tidyS1_none | apply tidyS2_none) | split | with_reducible (first | apply tidy_ite) | with_reducible (fail_if_no_progress apply tidy_mk) | with_reducible (first | refine of1 ?_ (by assumption) | refine of2 ?_ (by assumption) | refine ofS ?_ (by assumption) | refine ofS1 ?_ (by assumption) | refine ofS2 ?_ (by assumption) | refine ofS3 ?_ (by assumption) | refine of3 ?_ (by assumption)) | dsimp only)

theorem State.fencePort_tidy {pq} {s : State} {k : ℕ} (hs : Tidy pq s) : Tidy pq (State.fencePort s k) := by
  unfold State.fencePort
  repeat' (first | with_reducible assumption | with_reducible intro _ | (extract_lets +onlyGivenNames zz; first | (refine (fun (hz : Tidy pq zz) => ?_) ?_; (on_goal 1 => (try clear_value zz; rename' zz => zy, hz => hy)); (on_goal 2 => subst zz)) | (refine (fun (hz : ∀ t, Tidy pq t → Tidy pq (zz t)) => ?_) ?_; (on_goal 1 => (try clear_value zz; rename' zz => zy, hz => hf)); (on_goal 2 => (subst zz; intro _ _; beta_reduce))) | (refine (fun (hz : ∀ t, Tidy pq (zz t)) => ?_) ?_; (on_goal 1 => (try clear_value zz; rename' zz => zy, hz => hf)); (on_goal 2 => (subst zz; intro _; beta_reduce))) | (try clear_value zz; rename' zz => zy)) | with_reducible (first | apply foldl_tidy | apply foldl_tidy1 | apply State.setPort_tidy | apply State.txDone_tidy | apply State.downFenced_tidy | apply State.count_tidy | apply State.setQueue_tidy | apply State.event_tidy | apply tidy1_mk | apply tidy2_mk | apply tidyS_none | apply tidyS_some | apply tidyS1_none | apply tidyS2_none) | with_reducible (apply tidy_fst; first | apply foldl_tidy1) | with_reducible (apply tidy_snd; first | apply foldl_tidy2) | split | with_reducible (fail_if_no_progress apply tidy_mk) | with_reducible (apply hf) | with_reducible (first | refine of1 ?_ (by assumption) | refine of2 ?_ (by assumption) | refine ofS ?_ (by assumption) | refine ofS1 ?_ (by assumption) | refine ofS2 ?_ (by assumption) | refine ofS3 ?_ (by assumption) | refine of3 ?_ (by assumption)) | dsimp only)

theorem State.nodeState_tidy {pq} {s : State} {k n : ℕ} (hs : Tidy pq s) : Tidy pq (State.nodeState s k n) := by
  unfold State.nodeState
  repeat' (first | with_reducible assumption | (extract_lets +onlyGivenNames zz; first | (refine (fun (hz : Tidy pq zz) => ?_) ?_; (on_goal 1 => (try clear_value zz; rename' zz => zy, hz => hy)); (on_goal 2 => subst zz)) | (try clear_value zz; rename' zz => zy)) | with_reducible (first | apply tidy_ite | apply State.setF_tidy | apply State.setPort_tidy) | with_reducible (fail_if_no_progress apply tidy_mk) | with_reducible (first | refine of1 ?_ (by assumption) | refine of2 ?_ (by assumption) | refine ofS ?_ (by assumption) | refine ofS1 ?_ (by assumption) | refine ofS2 ?_ (by assumption) | refine ofS3 ?_ (by assumption) | refine of3 ?_ (by assumption)) | dsimp only)

theorem State.missBeacon_tidy {pq} {s : State} {k : ℕ} (hs : Tidy pq s) : Tidy pq (State.missBeacon s k) := by
  unfold State.missBeacon
  repeat' (first | with_reducible assumption | (extract_lets +onlyGivenNames zz; first | (refine (fun (hz : Tidy pq zz) => ?_) ?_; (on_goal 1 => (try clear_value zz; rename' zz => zy, hz => hy)); (on_goal 2 => subst zz)) | (refine (fun (hz : ∀ t, Tidy pq t → Tidy pq (zz t)) => ?_) ?_; (on_goal 1 => (try clear_value zz; rename' zz => zy, hz => hf)); (on_goal 2 => (subst zz; intro _ _; beta_reduce))) | (refine (fun (hz : ∀ t, Tidy pq (zz t)) => ?_) ?_; (on_goal 1 => (try clear_value zz; rename' zz => zy, hz => hf)); (on_goal 2 => (subst zz; intro _; beta_reduce))) | (try clear_value zz; rename' zz => zy)) | with_reducible (first | apply State.count_tidy | apply State.setPort_tidy | apply State.nodeState_tidy | apply State.event_tidy | apply State.irq_tidy | apply tidy1_mk | apply tidy2_mk) | split | with_reducible (first | apply tidy_ite) | with_reducible (fail_if_no_progress apply tidy_mk) | with_reducible (apply hf) | with_reducible (first | refine of1 ?_ (by assumption) | refine of2 ?_ (by assumption) | refine ofS ?_ (by assumption) | refine ofS1 ?_ (by assumption) | refine ofS2 ?_ (by assumption) | refine ofS3 ?_ (by assumption) | refine of3 ?_ (by assumption)) | dsimp only)

theorem State.hearBeacon_tidy {pq} {s : State} {k next period to_ : ℕ} (hs : Tidy pq s) : Tidy pq (State.hearBeacon s k next period to_) := by
  unfold State.hearBeacon
  repeat' (first | with_reducible assumption | with_reducible (first | apply State.nodeState_tidy | apply State.setPort_tidy | apply tidy1_mk | apply tidy2_mk) | with_reducible (fail_if_no_progress apply tidy_mk))


/-! ## Bus -/

theorem State.wakeMem_tidy {pq} {s : State} {req : Req} {a : ℕ} (hs : Tidy pq s) : Tidy pq (State.wakeMem s req a) := by
  unfold State.wakeMem
  repeat' (first | with_reducible assumption | with_reducible (first | apply tidy_ite | apply tidyS_ite | apply State.needDom_tidy | apply tidy_getD))

theorem State.memRead_tidy {pq} {s : State} {req : Req} {a n : ℕ} (hs : Tidy pq s) : Tidy1 pq (State.memRead s req a n) := by
  unfold State.memRead
  repeat' (first | with_reducible assumption | (extract_lets +onlyGivenNames zz; first | (refine (fun (hz : Tidy pq zz) => ?_) ?_; (on_goal 1 => (try clear_value zz; rename' zz => zy, hz => hy)); (on_goal 2 => subst zz)) | (try clear_value zz; rename' zz => zy)) | with_reducible (first | apply State.wakeMem_tidy | apply State.busError_tidy | apply State.eccCorrect_tidy | apply State.drawBytes_tidy | apply tidy1_mk | apply tidy2_mk | apply tidyS_none | apply tidyS_some | apply tidyS1_none | apply tidyS2_none) | with_reducible (apply tidy_fst; first | apply tidy1_ite) | with_reducible (apply tidy_snd; first | apply State.drawBytes_tidy | apply tidy2_ite) | split | with_reducible (first | apply tidy_ite | apply tidy1_ite | apply tidy2_ite) | with_reducible (fail_if_no_progress apply tidy_mk) | with_reducible (first | refine of1 ?_ (by assumption) | refine of2 ?_ (by assumption) | refine ofS ?_ (by assumption) | refine ofS1 ?_ (by assumption) | refine ofS2 ?_ (by assumption) | refine ofS3 ?_ (by assumption) | refine of3 ?_ (by assumption)) | dsimp only)

theorem State.memWrite_tidy {pq} {s : State} {req : Req} {a : ℕ} {b : Bytes} (hs : Tidy pq s) : Tidy1 pq (State.memWrite s req a b) := by
  unfold State.memWrite
  repeat' (first | with_reducible assumption | (extract_lets +onlyGivenNames zz; first | (refine (fun (hz : Tidy pq zz) => ?_) ?_; (on_goal 1 => (try clear_value zz; rename' zz => zy, hz => hy)); (on_goal 2 => subst zz)) | (try clear_value zz; rename' zz => zy)) | with_reducible (first | apply State.wakeMem_tidy | apply State.busError_tidy | apply State.apertureWrite_tidy | apply State.hostWrite_tidy | apply State.write_tidy | apply tidy1_mk | apply tidy2_mk | apply tidyS_none | apply tidyS_some | apply tidyS1_none | apply tidyS2_none) | with_reducible (apply tidy_fst; first | apply tidy1_ite) | with_reducible (apply tidy_snd; first | apply tidy2_ite) | split | with_reducible (first | apply tidy_ite | apply tidy1_ite | apply tidy2_ite) | with_reducible (fail_if_no_progress apply tidy_mk) | with_reducible (first | refine of1 ?_ (by assumption) | refine of2 ?_ (by assumption) | refine ofS ?_ (by assumption) | refine ofS1 ?_ (by assumption) | refine ofS2 ?_ (by assumption) | refine ofS3 ?_ (by assumption) | refine of3 ?_ (by assumption)) | dsimp only)


/-! ## DmaOps -/

theorem State.setChan_tidy {pq} {s : State} {n : ℕ} {x : DmaChan} (hs : Tidy pq s) : Tidy pq (State.setChan s n x) := by
  unfold State.setChan
  repeat' (first | with_reducible assumption | with_reducible (fail_if_no_progress apply tidy_mk))

theorem State.toChan_tidy {pq} {s : State} {n x : ℕ} (hs : Tidy pq s) : Tidy pq (State.toChan s n x) := by
  unfold State.toChan
  repeat' (first | with_reducible assumption | with_reducible (first | apply State.setF_tidy))

theorem State.chanEvent_tidy {pq} {s : State} {n b : ℕ} (hs : Tidy pq s) : Tidy pq (State.chanEvent s n b) := by
  unfold State.chanEvent
  repeat' (first | with_reducible assumption | with_reducible (first | apply State.setF_tidy) | split | with_reducible (first | refine of1 ?_ (by assumption) | refine of2 ?_ (by assumption) | refine ofS ?_ (by assumption) | refine ofS1 ?_ (by assumption) | refine ofS2 ?_ (by assumption) | refine ofS3 ?_ (by assumption) | refine of3 ?_ (by assumption)) | dsimp only)

theorem State.dmaAbort_tidy {pq} {s : State} {n : ℕ} (hs : Tidy pq s) : Tidy pq (State.dmaAbort s n) := by
  unfold State.dmaAbort
  repeat' (first | with_reducible assumption | (extract_lets +onlyGivenNames zz; first | (refine (fun (hz : Tidy pq zz) => ?_) ?_; (on_goal 1 => (try clear_value zz; rename' zz => zy, hz => hy)); (on_goal 2 => subst zz)) | (try clear_value zz; rename' zz => zy)) | with_reducible (first | apply tidy_ite | apply State.chanEvent_tidy | apply State.toChan_tidy | apply State.setChan_tidy) | with_reducible (fail_if_no_progress apply tidy_mk) | with_reducible (first | refine of1 ?_ (by assumption) | refine of2 ?_ (by assumption) | refine ofS ?_ (by assumption) | refine ofS1 ?_ (by assumption) | refine ofS2 ?_ (by assumption) | refine ofS3 ?_ (by assumption) | refine of3 ?_ (by assumption)) | dsimp only)


/-! ## DmaCmd -/

theorem State.dmaErr_tidy {pq} {s : State} {n code : ℕ} (hs : Tidy pq s) : Tidy pq (State.dmaErr s n code) := by
  unfold State.dmaErr
  repeat' (first | with_reducible assumption | with_reducible (first | apply State.err_tidy))

theorem State.dmaRefuse_tidy {pq} {s : State} {req : Req} {f : Field} {n code : ℕ} (hs : Tidy pq s) : Tidy pq (State.dmaRefuse s req f n code) := by
  unfold State.dmaRefuse
  repeat' (first | with_reducible assumption | with_reducible (first | apply State.err_tidy))

theorem State.toFetch_tidy {pq} {s : State} {n a : ℕ} (hs : Tidy pq s) : Tidy pq (State.toFetch s n a) := by
  unfold State.toFetch
  repeat' (first | with_reducible assumption | with_reducible (first | apply State.toChan_tidy | apply State.setF_tidy | apply State.set2_tidy))

theorem State.writeBack_tidy {pq} {s : State} {n status : ℕ} (hs : Tidy pq s) : Tidy pq (State.writeBack s n status) := by
  unfold State.writeBack
  repeat' (first | with_reducible assumption | (extract_lets +onlyGivenNames zz; first | (refine (fun (hz : Tidy pq zz) => ?_) ?_; (on_goal 1 => (try clear_value zz; rename' zz => zy, hz => hy)); (on_goal 2 => subst zz)) | (refine (fun (hz : ∀ t, Tidy pq t → Tidy pq (zz t)) => ?_) ?_; (on_goal 1 => (try clear_value zz; rename' zz => zy, hz => hf)); (on_goal 2 => (subst zz; intro _ _; beta_reduce))) | (refine (fun (hz : ∀ t, Tidy pq (zz t)) => ?_) ?_; (on_goal 1 => (try clear_value zz; rename' zz => zy, hz => hf)); (on_goal 2 => (subst zz; intro _; beta_reduce))) | (try clear_value zz; rename' zz => zy)) | with_reducible (first | apply State.memWrite_tidy) | with_reducible (apply tidy_fst; first | apply State.memWrite_tidy) | with_reducible (fail_if_no_progress apply tidy_mk) | with_reducible (apply hf) | with_reducible (first | refine of1 ?_ (by assumption) | refine of2 ?_ (by assumption) | refine ofS ?_ (by assumption) | refine ofS1 ?_ (by assumption) | refine ofS2 ?_ (by assumption) | refine ofS3 ?_ (by assumption) | refine of3 ?_ (by assumption)) | dsimp only)

theorem State.takeShadow_tidy {pq} {s : State} {n : ℕ} (hs : Tidy pq s) : Tidy1 pq (State.takeShadow s n) := by
  unfold State.takeShadow
  repeat' (first | with_reducible assumption | (extract_lets +onlyGivenNames zz; first | (refine (fun (hz : Tidy pq zz) => ?_) ?_; (on_goal 1 => (try clear_value zz; rename' zz => zy, hz => hy)); (on_goal 2 => subst zz)) | (try clear_value zz; rename' zz => zy)) | with_reducible (first | apply tidy_ite | apply tidy1_ite | apply tidy2_ite | apply State.handOver_tidy | apply tidy1_mk | apply tidy2_mk | apply tidyS_none | apply tidyS_some | apply tidyS1_none | apply tidyS2_none) | with_reducible (apply tidy_fst; first | apply tidy1_ite) | with_reducible (apply tidy_snd; first | apply tidy2_ite) | with_reducible (first | refine of1 ?_ (by assumption) | refine of2 ?_ (by assumption) | refine ofS ?_ (by assumption) | refine ofS1 ?_ (by assumption) | refine ofS2 ?_ (by assumption) | refine ofS3 ?_ (by assumption) | refine of3 ?_ (by assumption)) | dsimp only)

theorem State.descComplete_tidy {pq} {s : State} {n : ℕ} (hs : Tidy pq s) : Tidy1 pq (State.descComplete s n) := by
  unfold State.descComplete
  repeat' (first | with_reducible assumption | (extract_lets +onlyGivenNames zz; first | (refine (fun (hz : Tidy pq zz) => ?_) ?_; (on_goal 1 => (try clear_value zz; rename' zz => zy, hz => hy)); (on_goal 2 => subst zz)) | (refine (fun (hz : ∀ t, Tidy pq t → Tidy pq (zz t)) => ?_) ?_; (on_goal 1 => (try clear_value zz; rename' zz => zy, hz => hf)); (on_goal 2 => (subst zz; intro _ _; beta_reduce))) | (refine (fun (hz : ∀ t, Tidy pq (zz t)) => ?_) ?_; (on_goal 1 => (try clear_value zz; rename' zz => zy, hz => hf)); (on_goal 2 => (subst zz; intro _; beta_reduce))) | (try clear_value zz; rename' zz => zy)) | with_reducible (first | apply tidy_ite | apply tidy1_ite | apply tidy2_ite | apply tidyS_ite | apply State.writeBack_tidy | apply State.count_tidy | apply State.chanEvent_tidy | apply State.takeShadow_tidy | apply tidy1_mk | apply tidy2_mk | apply tidy_getD) | with_reducible (apply tidy_fst; first | apply State.takeShadow_tidy | apply tidy1_ite) | with_reducible (apply tidy_snd; first | apply tidy2_ite) | with_reducible (apply hf) | with_reducible (first | refine of1 ?_ (by assumption) | refine of2 ?_ (by assumption) | refine ofS ?_ (by assumption) | refine ofS1 ?_ (by assumption) | refine ofS2 ?_ (by assumption) | refine ofS3 ?_ (by assumption) | refine of3 ?_ (by assumption)) | dsimp only)

theorem State.descEnd_tidy {pq} {s : State} {n : ℕ} (hs : Tidy pq s) : Tidy pq (State.descEnd s n) := by
  unfold State.descEnd
  repeat' (first | with_reducible assumption | (extract_lets +onlyGivenNames zz; first | (refine (fun (hz : Tidy pq zz) => ?_) ?_; (on_goal 1 => (try clear_value zz; rename' zz => zy, hz => hy)); (on_goal 2 => subst zz)) | (refine (fun (hz : ∀ t, Tidy pq t → Tidy pq (zz t)) => ?_) ?_; (on_goal 1 => (try clear_value zz; rename' zz => zy, hz => hf)); (on_goal 2 => (subst zz; intro _ _; beta_reduce))) | (refine (fun (hz : ∀ t, Tidy pq (zz t)) => ?_) ?_; (on_goal 1 => (try clear_value zz; rename' zz => zy, hz => hf)); (on_goal 2 => (subst zz; intro _; beta_reduce))) | (try clear_value zz; rename' zz => zy)) | with_reducible (first | apply tidy_ite | apply tidy1_ite | apply tidy2_ite | apply State.descComplete_tidy | apply State.chanEvent_tidy | apply State.toChan_tidy | apply State.setChan_tidy | apply State.toFetch_tidy | apply tidy1_mk | apply tidy2_mk) | with_reducible (apply tidy_fst; first | apply State.descComplete_tidy | apply tidy1_ite) | with_reducible (apply tidy_snd; first | apply tidy2_ite) | with_reducible (apply hf) | with_reducible (first | refine of1 ?_ (by assumption) | refine of2 ?_ (by assumption) | refine ofS ?_ (by assumption) | refine ofS1 ?_ (by assumption) | refine ofS2 ?_ (by assumption) | refine ofS3 ?_ (by assumption) | refine of3 ?_ (by assumption)) | dsimp only)

theorem execDmaDescriptorEnd_tidy {pq} {chan : Fin 16} {s : State} (hs : Tidy pq s) : TidyO pq (execDmaDescriptorEnd chan s) := by
  unfold execDmaDescriptorEnd
  repeat' (first | with_reducible assumption | with_reducible (first | apply tidy_ite | apply tidyO_ite | apply State.descEnd_tidy | apply idle_tidy | apply tidyO_next))

theorem execDmaCfgReqWrite_tidy {pq} {req : Req} {chan : Fin 16} {value : BitVec 3} {s : State} (hs : Tidy pq s) : TidyO pq (execDmaCfgReqWrite req chan value s) := by
  unfold execDmaCfgReqWrite
  repeat' (first | with_reducible assumption | with_reducible intro _ | (extract_lets +onlyGivenNames zz; first | (refine (fun (hz : Tidy pq zz) => ?_) ?_; (on_goal 1 => (try clear_value zz; rename' zz => zy, hz => hy)); (on_goal 2 => subst zz)) | (try clear_value zz; rename' zz => zy)) | with_reducible (first | apply tidy_ite | apply tidyO_ite | apply State.onField_tidy | apply State.busError_tidy | apply State.dmaRefuse_tidy | apply State.setF_tidy | apply tidyO_next | apply idle_tidy) | with_reducible (fail_if_no_progress apply tidy_mk) | with_reducible (first | refine of1 ?_ (by assumption) | refine of2 ?_ (by assumption) | refine ofS ?_ (by assumption) | refine ofS1 ?_ (by assumption) | refine ofS2 ?_ (by assumption) | refine ofS3 ?_ (by assumption) | refine of3 ?_ (by assumption)) | dsimp only)

theorem execDmaStart_tidy {pq} {req : Req} {chan : Fin 16} {s : State} (hs : Tidy pq s) : TidyO pq (execDmaStart req chan s) := by
  unfold execDmaStart
  repeat' (first | with_reducible assumption | with_reducible intro _ | (extract_lets +onlyGivenNames zz; first | (refine (fun (hz : Tidy pq zz) => ?_) ?_; (on_goal 1 => (try clear_value zz; rename' zz => zy, hz => hy)); (on_goal 2 => subst zz)) | (try clear_value zz; rename' zz => zy)) | with_reducible (first | apply tidy_ite | apply tidyO_ite | apply tidy1_ite | apply tidy2_ite | apply State.onField_tidy | apply State.dmaRefuse_tidy | apply State.toFetch_tidy | apply State.setChan_tidy | apply State.takeShadow_tidy | apply tidyO_next | apply idle_tidy) | with_reducible (apply tidy_fst; first | apply State.takeShadow_tidy | apply tidy1_ite) | with_reducible (apply tidy_snd; first | apply tidy2_ite) | with_reducible (fail_if_no_progress apply tidy_mk) | with_reducible (first | refine of1 ?_ (by assumption) | refine of2 ?_ (by assumption) | refine ofS ?_ (by assumption) | refine ofS1 ?_ (by assumption) | refine ofS2 ?_ (by assumption) | refine ofS3 ?_ (by assumption) | refine of3 ?_ (by assumption)) | dsimp only)

theorem execDmaStop_tidy {pq} {req : Req} {chan : Fin 16} {s : State} (hs : Tidy pq s) : TidyO pq (execDmaStop req chan s) := by
  unfold execDmaStop
  repeat' (first | with_reducible assumption | with_reducible intro _ | (extract_lets +onlyGivenNames zz; first | (refine (fun (hz : Tidy pq zz) => ?_) ?_; (on_goal 1 => (try clear_value zz; rename' zz => zy, hz => hy)); (on_goal 2 => subst zz)) | (try clear_value zz; rename' zz => zy)) | with_reducible (first | apply tidy_ite | apply tidyO_ite | apply State.onField_tidy | apply State.setChan_tidy | apply tidyO_next | apply idle_tidy) | with_reducible (fail_if_no_progress apply tidy_mk) | with_reducible (first | refine of1 ?_ (by assumption) | refine of2 ?_ (by assumption) | refine ofS ?_ (by assumption) | refine ofS1 ?_ (by assumption) | refine ofS2 ?_ (by assumption) | refine ofS3 ?_ (by assumption) | refine of3 ?_ (by assumption)) | dsimp only)

theorem execDmaResume_tidy {pq} {req : Req} {chan : Fin 16} {s : State} (hs : Tidy pq s) : TidyO pq (execDmaResume req chan s) := by
  unfold execDmaResume
  repeat' (first | with_reducible assumption | with_reducible intro _ | (extract_lets +onlyGivenNames zz; first | (refine (fun (hz : Tidy pq zz) => ?_) ?_; (on_goal 1 => (try clear_value zz; rename' zz => zy, hz => hy)); (on_goal 2 => subst zz)) | (try clear_value zz; rename' zz => zy)) | with_reducible (first | apply tidy_ite | apply tidyO_ite | apply tidy1_ite | apply tidy2_ite | apply tidyS_ite | apply State.onField_tidy | apply State.dmaRefuse_tidy | apply State.chanEvent_tidy | apply State.toChan_tidy | apply State.setChan_tidy | apply State.toFetch_tidy | apply State.takeShadow_tidy | apply tidyO_next | apply idle_tidy | apply tidy1_mk | apply tidy2_mk | apply tidy_getD) | with_reducible (apply tidy_fst; first | apply State.takeShadow_tidy | apply tidy1_ite) | with_reducible (apply tidy_snd; first | apply tidy2_ite) | with_reducible (fail_if_no_progress apply tidy_mk) | with_reducible (first | refine of1 ?_ (by assumption) | refine of2 ?_ (by assumption) | refine ofS ?_ (by assumption) | refine ofS1 ?_ (by assumption) | refine ofS2 ?_ (by assumption) | refine ofS3 ?_ (by assumption) | refine of3 ?_ (by assumption)) | dsimp only)

theorem execDmaAbort_tidy {pq} {req : Req} {chan : Fin 16} {s : State} (hs : Tidy pq s) : TidyO pq (execDmaAbort req chan s) := by
  unfold execDmaAbort
  repeat' (first | with_reducible assumption | with_reducible intro _ | (extract_lets +onlyGivenNames zz; first | (refine (fun (hz : Tidy pq zz) => ?_) ?_; (on_goal 1 => (try clear_value zz; rename' zz => zy, hz => hy)); (on_goal 2 => subst zz)) | (try clear_value zz; rename' zz => zy)) | with_reducible (first | apply tidy_ite | apply tidyO_ite | apply tidy1_ite | apply tidy2_ite | apply State.onField_tidy | apply State.dmaAbort_tidy | apply State.descComplete_tidy | apply tidyO_next | apply idle_tidy) | with_reducible (apply tidy_fst; first | apply State.descComplete_tidy | apply tidy1_ite) | with_reducible (apply tidy_snd; first | apply tidy2_ite) | with_reducible (first | refine of1 ?_ (by assumption) | refine of2 ?_ (by assumption) | refine ofS ?_ (by assumption) | refine ofS1 ?_ (by assumption) | refine ofS2 ?_ (by assumption) | refine ofS3 ?_ (by assumption) | refine of3 ?_ (by assumption)) | dsimp only)

theorem execDmaClear_tidy {pq} {req : Req} {chan : Fin 16} {s : State} (hs : Tidy pq s) : TidyO pq (execDmaClear req chan s) := by
  unfold execDmaClear
  repeat' (first | with_reducible assumption | with_reducible intro _ | (extract_lets +onlyGivenNames zz; first | (refine (fun (hz : Tidy pq zz) => ?_) ?_; (on_goal 1 => (try clear_value zz; rename' zz => zy, hz => hy)); (on_goal 2 => subst zz)) | (try clear_value zz; rename' zz => zy)) | with_reducible (first | apply tidy_ite | apply tidyO_ite | apply State.onField_tidy | apply State.toChan_tidy | apply State.setChan_tidy | apply State.dmaRefuse_tidy | apply tidyO_next | apply idle_tidy) | with_reducible (fail_if_no_progress apply tidy_mk) | with_reducible (first | refine of1 ?_ (by assumption) | refine of2 ?_ (by assumption) | refine ofS ?_ (by assumption) | refine ofS1 ?_ (by assumption) | refine ofS2 ?_ (by assumption) | refine ofS3 ?_ (by assumption) | refine of3 ?_ (by assumption)) | dsimp only)


/-! ## PanelOps -/

theorem State.sendRow_tidy {pq} {s : State} {k : ℕ} {row : Bytes} (hs : Tidy pq s) : Tidy pq (State.sendRow s k row) := by
  unfold State.sendRow
  repeat' (first | with_reducible assumption | (extract_lets +onlyGivenNames zz; first | (refine (fun (hz : Tidy pq zz) => ?_) ?_; (on_goal 1 => (try clear_value zz; rename' zz => zy, hz => hy)); (on_goal 2 => subst zz)) | (refine (fun (hz : ∀ t, Tidy pq t → Tidy pq (zz t)) => ?_) ?_; (on_goal 1 => (try clear_value zz; rename' zz => zy, hz => hf)); (on_goal 2 => (subst zz; intro _ _; beta_reduce))) | (refine (fun (hz : ∀ t, Tidy pq (zz t)) => ?_) ?_; (on_goal 1 => (try clear_value zz; rename' zz => zy, hz => hf)); (on_goal 2 => (subst zz; intro _; beta_reduce))) | (try clear_value zz; rename' zz => zy)) | with_reducible (first | apply tidy1_mk | apply tidy2_mk) | with_reducible (fail_if_no_progress apply tidy_mk) | with_reducible (apply hf) | with_reducible (first | refine of1 ?_ (by assumption) | refine of2 ?_ (by assumption) | refine ofS ?_ (by assumption) | refine ofS1 ?_ (by assumption) | refine ofS2 ?_ (by assumption) | refine ofS3 ?_ (by assumption) | refine of3 ?_ (by assumption)) | dsimp only)

theorem State.sendRows_tidy {pq} {s : State} {rows : List Bytes} (hs : Tidy pq s) : Tidy pq (State.sendRows s rows) := by
  unfold State.sendRows
  repeat' (first | with_reducible assumption | with_reducible intro _ | with_reducible (first | apply foldl_tidy | apply foldl_tidy1 | apply State.sendRow_tidy) | with_reducible (apply tidy_fst; first | apply foldl_tidy1) | with_reducible (apply tidy_snd; first | apply foldl_tidy2) | with_reducible (fail_if_no_progress apply tidy_mk))

theorem State.show_tidy {pq} {s : State} {label value : Bytes} (hs : Tidy pq s) : Tidy pq (State.show s label value) := by
  unfold State.show
  repeat' (first | with_reducible assumption | (extract_lets +onlyGivenNames zz; first | (refine (fun (hz : Tidy pq zz) => ?_) ?_; (on_goal 1 => (try clear_value zz; rename' zz => zy, hz => hy)); (on_goal 2 => subst zz)) | (try clear_value zz; rename' zz => zy)) | with_reducible (first | apply tidy_ite | apply tidy1_ite | apply tidy2_ite | apply State.sendRows_tidy | apply tidy1_mk | apply tidy2_mk) | with_reducible (apply tidy_fst; first | apply tidy1_ite) | with_reducible (apply tidy_snd; first | apply tidy2_ite) | with_reducible (fail_if_no_progress apply tidy_mk) | with_reducible (first | refine of1 ?_ (by assumption) | refine of2 ?_ (by assumption) | refine ofS ?_ (by assumption) | refine ofS1 ?_ (by assumption) | refine ofS2 ?_ (by assumption) | refine ofS3 ?_ (by assumption) | refine of3 ?_ (by assumption)) | dsimp only)

theorem State.showValue_tidy {pq} {s : State} (hs : Tidy pq s) : Tidy pq (State.showValue s) := by
  unfold State.showValue
  repeat' (first | with_reducible assumption | with_reducible (first | apply State.sendRows_tidy) | with_reducible (fail_if_no_progress apply tidy_mk))

theorem State.panelRefused_tidy {pq} {s : State} (hs : Tidy pq s) : Tidy pq (State.panelRefused s) := by
  unfold State.panelRefused
  repeat' (first | with_reducible assumption | with_reducible intro _ | (extract_lets +onlyGivenNames zz; first | (refine (fun (hz : Tidy pq zz) => ?_) ?_; (on_goal 1 => (try clear_value zz; rename' zz => zy, hz => hy)); (on_goal 2 => subst zz)) | (refine (fun (hz : ∀ t, Tidy pq t → Tidy pq (zz t)) => ?_) ?_; (on_goal 1 => (try clear_value zz; rename' zz => zy, hz => hf)); (on_goal 2 => (subst zz; intro _ _; beta_reduce))) | (refine (fun (hz : ∀ t, Tidy pq (zz t)) => ?_) ?_; (on_goal 1 => (try clear_value zz; rename' zz => zy, hz => hf)); (on_goal 2 => (subst zz; intro _; beta_reduce))) | (try clear_value zz; rename' zz => zy)) | with_reducible (first | apply tidy_ite | apply State.count_tidy | apply State.irq_tidy | apply State.setF_tidy | apply tidy1_mk | apply tidy2_mk) | with_reducible (fail_if_no_progress apply tidy_mk) | with_reducible (apply hf) | with_reducible (first | refine of1 ?_ (by assumption) | refine of2 ?_ (by assumption) | refine ofS ?_ (by assumption) | refine ofS1 ?_ (by assumption) | refine ofS2 ?_ (by assumption) | refine ofS3 ?_ (by assumption) | refine of3 ?_ (by assumption)) | dsimp only)

theorem State.panelResult_tidy {pq} {s : State} {m r : ℕ} (hs : Tidy pq s) : Tidy pq (State.panelResult s m r) := by
  unfold State.panelResult
  repeat' (first | with_reducible assumption | (extract_lets +onlyGivenNames zz; first | (refine (fun (hz : Tidy pq zz) => ?_) ?_; (on_goal 1 => (try clear_value zz; rename' zz => zy, hz => hy)); (on_goal 2 => subst zz)) | (refine (fun (hz : ∀ t, Tidy pq t → Tidy pq (zz t)) => ?_) ?_; (on_goal 1 => (try clear_value zz; rename' zz => zy, hz => hf)); (on_goal 2 => (subst zz; intro _ _; beta_reduce))) | (refine (fun (hz : ∀ t, Tidy pq (zz t)) => ?_) ?_; (on_goal 1 => (try clear_value zz; rename' zz => zy, hz => hf)); (on_goal 2 => (subst zz; intro _; beta_reduce))) | (try clear_value zz; rename' zz => zy)) | with_reducible (first | apply tidy_ite | apply State.irq_tidy | apply State.setF_tidy | apply State.show_tidy | apply State.panelRefused_tidy | apply tidy1_mk | apply tidy2_mk) | with_reducible (fail_if_no_progress apply tidy_mk) | with_reducible (apply hf) | with_reducible (first | refine of1 ?_ (by assumption) | refine of2 ?_ (by assumption) | refine ofS ?_ (by assumption) | refine ofS1 ?_ (by assumption) | refine ofS2 ?_ (by assumption) | refine ofS3 ?_ (by assumption) | refine of3 ?_ (by assumption)) | dsimp only)


/-! ## Path -/

theorem State.takeLearning_tidy {pq} {s : State} {l : List Bytes} (hs : Tidy pq s) : Tidy pq (State.takeLearning s l) := by
  unfold State.takeLearning
  repeat' (first | with_reducible assumption | with_reducible intro _ | with_reducible (first | apply State.pumpMessages_tidy | apply map_tidyS | apply map_tidyS_of2 | apply map_tidyS_any) | with_reducible (fail_if_no_progress apply tidy_mk))

theorem State.waitParse_tidy {pq} {s : State} {port : ℕ} {l : List Frame} (hs : Tidy pq s) : Tidy pq (State.waitParse s port l) := by
  unfold State.waitParse
  repeat' (first | with_reducible assumption | with_reducible intro _ | (extract_lets +onlyGivenNames zz; first | (refine (fun (hz : Tidy pq zz) => ?_) ?_; (on_goal 1 => (try clear_value zz; rename' zz => zy, hz => hy)); (on_goal 2 => subst zz)) | (try clear_value zz; rename' zz => zy)) | with_reducible (first | apply tidy_ite | apply tidy1_ite | apply tidy2_ite | apply State.creditBack_tidy | apply tidy1_mk | apply tidy2_mk | apply map_tidyS | apply map_tidyS_of2 | apply map_tidyS_any) | with_reducible (apply tidy_fst; first | apply tidy1_ite) | with_reducible (apply tidy_snd; first | apply tidy2_ite) | with_reducible (fail_if_no_progress apply tidy_mk) | with_reducible (first | refine of1 ?_ (by assumption) | refine of2 ?_ (by assumption) | refine ofS ?_ (by assumption) | refine ofS1 ?_ (by assumption) | refine ofS2 ?_ (by assumption) | refine ofS3 ?_ (by assumption) | refine of3 ?_ (by assumption)) | dsimp only)

theorem State.poisonBatch_tidy {pq} {s : State} {b : Bytes} (hs : Tidy pq s) : Tidy pq (State.poisonBatch s b) := by
  unfold State.poisonBatch
  repeat' (first | with_reducible assumption | with_reducible intro _ | with_reducible (first | apply State.count_tidy | apply tidy1_mk | apply tidy2_mk | apply tidyS_none | apply tidyS_some | apply tidyS1_none | apply tidyS2_none) | split | with_reducible (fail_if_no_progress apply tidy_mk) | with_reducible (first | refine of1 ?_ (by assumption) | refine of2 ?_ (by assumption) | refine ofS ?_ (by assumption) | refine ofS1 ?_ (by assumption) | refine ofS2 ?_ (by assumption) | refine ofS3 ?_ (by assumption) | refine of3 ?_ (by assumption)) | dsimp only)

theorem State.trackBatch_tidy {pq} {s : State} {b : Batch} {frames : List Bytes} {port link : ℕ} (hs : Tidy pq s) : Tidy pq (State.trackBatch s b frames port link) := by
  unfold State.trackBatch
  repeat' (first | with_reducible assumption | with_reducible intro _ | (extract_lets +onlyGivenNames zz; first | (refine (fun (hz : Tidy pq zz) => ?_) ?_; (on_goal 1 => (try clear_value zz; rename' zz => zy, hz => hy)); (on_goal 2 => subst zz)) | (try clear_value zz; rename' zz => zy)) | with_reducible (first | apply State.setBatch_tidy | apply State.waitParse_tidy | apply tidy1_mk | apply tidy2_mk | apply map_tidyS | apply map_tidyS_of2 | apply map_tidyS_any | apply tidyS_none | apply tidyS_some | apply tidyS1_none | apply tidyS2_none | apply tidy_getD) | with_reducible (fail_if_no_progress apply tidy_mk) | with_reducible (first | refine of1 ?_ (by assumption) | refine of2 ?_ (by assumption) | refine ofS ?_ (by assumption) | refine ofS1 ?_ (by assumption) | refine ofS2 ?_ (by assumption) | refine ofS3 ?_ (by assumption) | refine of3 ?_ (by assumption)) | dsimp only)

theorem State.splitPcie_tidy {pq} {s : State} {parity : ℕ} (hs : Tidy pq s) : Tidy pq (State.splitPcie s parity) := by
  unfold State.splitPcie
  repeat' (first | with_reducible assumption | with_reducible intro _ | (extract_lets +onlyGivenNames zz; first | (refine (fun (hz : Tidy pq zz) => ?_) ?_; (on_goal 1 => (try clear_value zz; rename' zz => zy, hz => hy)); (on_goal 2 => subst zz)) | (refine (fun (hz : ∀ t, Tidy pq t → Tidy pq (zz t)) => ?_) ?_; (on_goal 1 => (try clear_value zz; rename' zz => zy, hz => hf)); (on_goal 2 => (subst zz; intro _ _; beta_reduce))) | (refine (fun (hz : ∀ t, Tidy pq (zz t)) => ?_) ?_; (on_goal 1 => (try clear_value zz; rename' zz => zy, hz => hf)); (on_goal 2 => (subst zz; intro _; beta_reduce))) | (try clear_value zz; rename' zz => zy)) | with_reducible (first | apply State.faultFront_tidy | apply State.takeLearning_tidy | apply State.waitParse_tidy | apply State.trackBatch_tidy | apply State.creditBack_tidy | apply State.poisonBatch_tidy | apply State.deqHeld_tidy | apply tidy1_mk | apply tidy2_mk | apply map_tidyS | apply map_tidyS_of2 | apply map_tidyS_any | apply tidyS_none | apply tidyS_some | apply tidyS1_none | apply tidyS2_none) | with_reducible (apply tidy_fst; first | apply tidy1_ite) | with_reducible (apply tidy_snd; first | apply tidy2_ite) | split | with_reducible (first | apply tidy_ite | apply tidy1_ite | apply tidy2_ite) | with_reducible (fail_if_no_progress apply tidy_mk) | with_reducible (apply hf) | with_reducible (first | refine of1 ?_ (by assumption) | refine of2 ?_ (by assumption) | refine ofS ?_ (by assumption) | refine ofS1 ?_ (by assumption) | refine ofS2 ?_ (by assumption) | refine ofS3 ?_ (by assumption) | refine of3 ?_ (by assumption)) | dsimp only)

theorem State.parse_tidy {pq} {s : State} {f : Frame} {poison : Bool} (hs : Tidy pq s) : Tidy pq (State.parse s f poison) := by
  unfold State.parse
  repeat' (first | with_reducible assumption | with_reducible intro _ | (extract_lets +onlyGivenNames zz; first | (refine (fun (hz : Tidy pq zz) => ?_) ?_; (on_goal 1 => (try clear_value zz; rename' zz => zy, hz => hy)); (on_goal 2 => subst zz)) | (try clear_value zz; rename' zz => zy)) | with_reducible (first | apply tidy_ite | apply tidyS_ite | apply State.dropPoisoned_tidy | apply State.exitFrame_tidy | apply State.enq_tidy | apply tidy1_mk | apply tidy2_mk | apply map_tidyS | apply map_tidyS_of2 | apply map_tidyS_any | apply tidy_getD) | with_reducible (fail_if_no_progress apply tidy_mk) | with_reducible (first | refine of1 ?_ (by assumption) | refine of2 ?_ (by assumption) | refine ofS ?_ (by assumption) | refine ofS1 ?_ (by assumption) | refine ofS2 ?_ (by assumption) | refine ofS3 ?_ (by assumption) | refine of3 ?_ (by assumption)) | dsimp only)

theorem execParseFrame_tidy {pq} {port : Fin 10} {parity : ℕ} {s : State} (hs : Tidy pq s) : TidyO pq (execParseFrame port parity s) := by
  unfold execParseFrame
  repeat' (first | with_reducible assumption | with_reducible intro _ | (extract_lets +onlyGivenNames zz; first | (refine (fun (hz : Tidy pq zz) => ?_) ?_; (on_goal 1 => (try clear_value zz; rename' zz => zy, hz => hy)); (on_goal 2 => subst zz)) | (try clear_value zz; rename' zz => zy)) | with_reducible (first | apply idle_tidy | apply State.faultFront_tidy | apply State.parse_tidy | apply State.splitPcie_tidy | apply State.creditBack_tidy | apply State.deq_tidy | apply tidyO_next | apply tidy1_mk | apply tidy2_mk | apply tidyS_none | apply tidyS_some | apply tidyS1_none | apply tidyS2_none) | with_reducible (apply tidy_fst; first | apply tidy1_ite) | with_reducible (apply tidy_snd; first | apply tidy2_ite) | split | with_reducible (first | apply tidy_ite | apply tidyO_ite | apply tidy1_ite | apply tidy2_ite) | with_reducible (fail_if_no_progress apply tidy_mk) | with_reducible (first | refine of1 ?_ (by assumption) | refine of2 ?_ (by assumption) | refine ofS ?_ (by assumption) | refine ofS1 ?_ (by assumption) | refine ofS2 ?_ (by assumption) | refine ofS3 ?_ (by assumption) | refine of3 ?_ (by assumption)) | dsimp only)

theorem State.dispatch_tidy {pq} {s : State} {f : Frame} {a : ℕ} (hs : Tidy pq s) : Tidy pq (State.dispatch s f a) := by
  unfold State.dispatch
  repeat' (first | with_reducible assumption | with_reducible (first | apply State.enq_tidy) | with_reducible (fail_if_no_progress apply tidy_mk))

theorem State.lookup_tidy {pq} {s : State} {f : Frame} (hs : Tidy pq s) : Tidy pq (State.lookup s f) := by
  unfold State.lookup
  repeat' (first | with_reducible assumption | (extract_lets +onlyGivenNames zz; first | (refine (fun (hz : Tidy pq zz) => ?_) ?_; (on_goal 1 => (try clear_value zz; rename' zz => zy, hz => hy)); (on_goal 2 => subst zz)) | (try clear_value zz; rename' zz => zy)) | with_reducible (first | apply State.set2_tidy | apply State.readBucket_tidy | apply State.dispatch_tidy | apply State.unknownMeter_tidy) | split | with_reducible (fail_if_no_progress apply tidy_mk) | with_reducible (first | refine of1 ?_ (by assumption) | refine of2 ?_ (by assumption) | refine ofS ?_ (by assumption) | refine ofS1 ?_ (by assumption) | refine ofS2 ?_ (by assumption) | refine ofS3 ?_ (by assumption) | refine of3 ?_ (by assumption)) | dsimp only)

theorem State.lookupOrPark_tidy {pq} {s : State} {f : Frame} (hs : Tidy pq s) : Tidy pq (State.lookupOrPark s f) := by
  unfold State.lookupOrPark
  repeat' (first | with_reducible assumption | with_reducible (first | apply tidy_ite | apply State.lookup_tidy) | with_reducible (fail_if_no_progress apply tidy_mk))

theorem execDirLookup_tidy {pq} {parity : ℕ} {s : State} (hs : Tidy pq s) : TidyO pq (execDirLookup parity s) := by
  unfold execDirLookup
  repeat' (first | with_reducible assumption | with_reducible intro _ | (extract_lets +onlyGivenNames zz; first | (refine (fun (hz : Tidy pq zz) => ?_) ?_; (on_goal 1 => (try clear_value zz; rename' zz => zy, hz => hy)); (on_goal 2 => subst zz)) | (try clear_value zz; rename' zz => zy)) | with_reducible (first | apply idle_tidy | apply State.withDram_tidy | apply State.lookupOrPark_tidy | apply State.faultFront_tidy | apply State.dropPoisoned_tidy | apply State.deq_tidy | apply tidyO_next | apply tidy1_mk | apply tidy2_mk | apply tidyS_none | apply tidyS_some | apply tidyS1_none | apply tidyS2_none) | with_reducible (apply tidy_fst; first | apply tidy1_ite) | with_reducible (apply tidy_snd; first | apply tidy2_ite) | split | with_reducible (first | apply tidy_ite | apply tidyO_ite | apply tidy1_ite | apply tidy2_ite) | with_reducible (fail_if_no_progress apply tidy_mk) | with_reducible (first | refine of1 ?_ (by assumption) | refine of2 ?_ (by assumption) | refine ofS ?_ (by assumption) | refine ofS1 ?_ (by assumption) | refine ofS2 ?_ (by assumption) | refine ofS3 ?_ (by assumption) | refine of3 ?_ (by assumption)) | dsimp only)

theorem execOverflowSearch_tidy {pq} {s : State} (hs : Tidy pq s) : TidyO pq (execOverflowSearch s) := by
  unfold execOverflowSearch
  repeat' (first | with_reducible assumption | (extract_lets +onlyGivenNames zz; first | (refine (fun (hz : Tidy pq zz) => ?_) ?_; (on_goal 1 => (try clear_value zz; rename' zz => zy, hz => hy)); (on_goal 2 => subst zz)) | (try clear_value zz; rename' zz => zy)) | with_reducible (first | apply idle_tidy | apply State.dirSearch_tidy | apply State.dispatch_tidy | apply State.unknownMeter_tidy | apply tidyO_next | apply tidy1_mk | apply tidy2_mk | apply tidyS_none | apply tidyS_some | apply tidyS1_none | apply tidyS2_none) | with_reducible (apply tidy_fst; first | apply State.dirSearch_tidy | apply tidy1_ite) | with_reducible (apply tidy_snd; first | apply tidy2_ite) | split | with_reducible (first | apply tidy_ite | apply tidyO_ite | apply tidy1_ite | apply tidy2_ite) | with_reducible (fail_if_no_progress apply tidy_mk) | with_reducible (first | refine of1 ?_ (by assumption) | refine of2 ?_ (by assumption) | refine ofS ?_ (by assumption) | refine ofS1 ?_ (by assumption) | refine ofS2 ?_ (by assumption) | refine ofS3 ?_ (by assumption) | refine of3 ?_ (by assumption)) | dsimp only)

theorem State.feedOrdered_tidy {pq} {s : State} {n : ℕ} {o : Ordered} (hs : Tidy pq s) : Tidy pq (State.feedOrdered s n o) := by
  unfold State.feedOrdered
  repeat' (first | with_reducible assumption | with_reducible (first | apply State.feed_tidy))

theorem State.orderFrame_tidy {pq} {s : State} {f : Frame} (hs : Tidy pq s) : Tidy pq (State.orderFrame s f) := by
  unfold State.orderFrame
  repeat' (first | with_reducible assumption | (extract_lets +onlyGivenNames zz; first | (refine (fun (hz : Tidy pq zz) => ?_) ?_; (on_goal 1 => (try clear_value zz; rename' zz => zy, hz => hy)); (on_goal 2 => subst zz)) | (try clear_value zz; rename' zz => zy)) | with_reducible (first | apply State.setOrderNext_tidy | apply State.set2_tidy | apply State.noteHold_tidy | apply State.launch_tidy | apply State.feed_tidy | apply tidy1_mk | apply tidy2_mk) | with_reducible (fail_if_no_progress apply tidy_mk) | with_reducible (first | refine of1 ?_ (by assumption) | refine of2 ?_ (by assumption) | refine ofS ?_ (by assumption) | refine ofS1 ?_ (by assumption) | refine ofS2 ?_ (by assumption) | refine ofS3 ?_ (by assumption) | refine of3 ?_ (by assumption)) | dsimp only)

theorem State.panelIn_tidy {pq} {s : State} (hs : Tidy pq s) : Tidy pq (State.panelIn s) := by
  unfold State.panelIn
  repeat' (first | with_reducible assumption | (extract_lets +onlyGivenNames zz; first | (refine (fun (hz : Tidy pq zz) => ?_) ?_; (on_goal 1 => (try clear_value zz; rename' zz => zy, hz => hy)); (on_goal 2 => subst zz)) | (try clear_value zz; rename' zz => zy)) | with_reducible (first | apply State.count_tidy | apply State.enq_tidy | apply tidy1_mk | apply tidy2_mk | apply tidyS_none | apply tidyS_some | apply tidyS1_none | apply tidyS2_none) | with_reducible (apply tidy_fst; first | apply tidy1_ite) | with_reducible (apply tidy_snd; first | apply tidy2_ite) | split | with_reducible (first | apply tidy_ite | apply tidy1_ite | apply tidy2_ite) | with_reducible (fail_if_no_progress apply tidy_mk) | with_reducible (first | refine of1 ?_ (by assumption) | refine of2 ?_ (by assumption) | refine ofS ?_ (by assumption) | refine ofS1 ?_ (by assumption) | refine ofS2 ?_ (by assumption) | refine ofS3 ?_ (by assumption) | refine of3 ?_ (by assumption)) | dsimp only)

theorem State.tokenIn_tidy {pq} {s : State} (hs : Tidy pq s) : Tidy pq (State.tokenIn s) := by
  unfold State.tokenIn
  repeat' (first | with_reducible assumption | with_reducible (first | apply State.enq_tidy | apply tidy1_mk | apply tidy2_mk | apply tidyS_none | apply tidyS_some | apply tidyS1_none | apply tidyS2_none) | with_reducible (apply tidy_fst; first | apply tidy1_ite) | with_reducible (apply tidy_snd; first | apply tidy2_ite) | split | with_reducible (first | apply tidy_ite | apply tidy1_ite | apply tidy2_ite) | with_reducible (fail_if_no_progress apply tidy_mk) | with_reducible (first | refine of1 ?_ (by assumption) | refine of2 ?_ (by assumption) | refine ofS ?_ (by assumption) | refine ofS1 ?_ (by assumption) | refine ofS2 ?_ (by assumption) | refine ofS3 ?_ (by assumption) | refine of3 ?_ (by assumption)) | dsimp only)

theorem State.orderItem_tidy {pq} {s : State} {o : Ordered} (hs : Tidy pq s) : Tidy pq (State.orderItem s o) := by
  unfold State.orderItem
  repeat' (first | with_reducible assumption | (extract_lets +onlyGivenNames zz; first | (refine (fun (hz : Tidy pq zz) => ?_) ?_; (on_goal 1 => (try clear_value zz; rename' zz => zy, hz => hy)); (on_goal 2 => subst zz)) | (try clear_value zz; rename' zz => zy)) | with_reducible (first | apply State.setOrderNext_tidy | apply State.setF_tidy | apply State.noteHold_tidy | apply State.launchOrdered_tidy | apply State.feedOrdered_tidy) | split | with_reducible (first | apply tidy_ite) | with_reducible (fail_if_no_progress apply tidy_mk) | with_reducible (first | refine of1 ?_ (by assumption) | refine of2 ?_ (by assumption) | refine ofS ?_ (by assumption) | refine ofS1 ?_ (by assumption) | refine ofS2 ?_ (by assumption) | refine ofS3 ?_ (by assumption) | refine of3 ?_ (by assumption)) | dsimp only)

theorem execFunnelOrder_tidy {pq} {parity : ℕ} {s : State} (hs : Tidy pq s) : TidyO pq (execFunnelOrder parity s) := by
  unfold execFunnelOrder
  repeat' (first | with_reducible assumption | (extract_lets +onlyGivenNames zz; first | (refine (fun (hz : Tidy pq zz) => ?_) ?_; (on_goal 1 => (try clear_value zz; rename' zz => zy, hz => hy)); (on_goal 2 => subst zz)) | (try clear_value zz; rename' zz => zy)) | with_reducible (first | apply idle_tidy | apply State.panelIn_tidy | apply State.tokenIn_tidy | apply State.faultFront_tidy | apply State.dropPoisoned_tidy | apply State.orderFrame_tidy | apply State.count_tidy | apply State.orderItem_tidy | apply State.deq_tidy | apply tidyO_next | apply tidy1_mk | apply tidy2_mk | apply tidyS_none | apply tidyS_some | apply tidyS1_none | apply tidyS2_none) | with_reducible (apply tidy_fst; first | apply tidy1_ite) | with_reducible (apply tidy_snd; first | apply tidy2_ite) | split | with_reducible (first | apply tidy_ite | apply tidyO_ite | apply tidy1_ite | apply tidy2_ite) | with_reducible (fail_if_no_progress apply tidy_mk) | with_reducible (first | refine of1 ?_ (by assumption) | refine of2 ?_ (by assumption) | refine ofS ?_ (by assumption) | refine ofS1 ?_ (by assumption) | refine ofS2 ?_ (by assumption) | refine ofS3 ?_ (by assumption) | refine of3 ?_ (by assumption)) | dsimp only)

theorem execOrderBaseLoad_tidy {pq} {req : Req} {data : Word} {s : State} (hs : Tidy pq s) : TidyO pq (execOrderBaseLoad req data s) := by
  unfold execOrderBaseLoad
  repeat' (first | with_reducible assumption | with_reducible intro _ | (extract_lets +onlyGivenNames zz; first | (refine (fun (hz : Tidy pq zz) => ?_) ?_; (on_goal 1 => (try clear_value zz; rename' zz => zy, hz => hy)); (on_goal 2 => subst zz)) | (try clear_value zz; rename' zz => zy)) | with_reducible (first | apply tidy_ite | apply tidyO_ite | apply State.onAction_tidy | apply State.refuseAt_tidy | apply State.setOrderNext_tidy | apply State.advanceHead_tidy | apply tidyO_next | apply idle_tidy) | with_reducible (first | refine of1 ?_ (by assumption) | refine of2 ?_ (by assumption) | refine ofS ?_ (by assumption) | refine ofS1 ?_ (by assumption) | refine ofS2 ?_ (by assumption) | refine ofS3 ?_ (by assumption) | refine of3 ?_ (by assumption)) | dsimp only)

theorem execRecordPrefetch_tidy {pq} {meter : BitVec 20} {s : State} (hs : Tidy pq s) : TidyO pq (execRecordPrefetch meter s) := by
  unfold execRecordPrefetch
  repeat' (first | with_reducible assumption | with_reducible intro _ | (extract_lets +onlyGivenNames zz; first | (refine (fun (hz : Tidy pq zz) => ?_) ?_; (on_goal 1 => (try clear_value zz; rename' zz => zy, hz => hy)); (on_goal 2 => subst zz)) | (try clear_value zz; rename' zz => zy)) | with_reducible (first | apply tidy_ite | apply tidyO_ite | apply tidy1_ite | apply tidy2_ite | apply State.withDram_tidy | apply idle_tidy | apply State.eccCorrect_tidy | apply State.loadWindow_tidy | apply tidyO_next | apply tidyS_none | apply tidyS_some | apply tidyS1_none | apply tidyS2_none) | with_reducible (apply tidy_fst; first | apply tidy1_ite) | with_reducible (apply tidy_snd; first | apply tidy2_ite) | with_reducible (fail_if_no_progress apply tidy_mk) | with_reducible (first | refine of1 ?_ (by assumption) | refine of2 ?_ (by assumption) | refine ofS ?_ (by assumption) | refine ofS1 ?_ (by assumption) | refine ofS2 ?_ (by assumption) | refine ofS3 ?_ (by assumption) | refine of3 ?_ (by assumption)) | dsimp only)

theorem State.replayLost_tidy {pq} {s : State} {n : ℕ} {fl : Flight} (hs : Tidy pq s) : Tidy pq (State.replayLost s n fl) := by
  unfold State.replayLost
  repeat' (first | with_reducible assumption | (extract_lets +onlyGivenNames zz; first | (refine (fun (hz : Tidy pq zz) => ?_) ?_; (on_goal 1 => (try clear_value zz; rename' zz => zy, hz => hy)); (on_goal 2 => subst zz)) | (refine (fun (hz : ∀ t, Tidy pq t → Tidy pq (zz t)) => ?_) ?_; (on_goal 1 => (try clear_value zz; rename' zz => zy, hz => hf)); (on_goal 2 => (subst zz; intro _ _; beta_reduce))) | (refine (fun (hz : ∀ t, Tidy pq (zz t)) => ?_) ?_; (on_goal 1 => (try clear_value zz; rename' zz => zy, hz => hf)); (on_goal 2 => (subst zz; intro _; beta_reduce))) | (try clear_value zz; rename' zz => zy)) | with_reducible (first | apply State.err_tidy | apply State.irq_tidy | apply State.count_tidy | apply State.endFlight_tidy | apply State.freeReplay_tidy | apply State.feed_tidy) | with_reducible (apply hf) | with_reducible (first | refine of1 ?_ (by assumption) | refine of2 ?_ (by assumption) | refine ofS ?_ (by assumption) | refine ofS1 ?_ (by assumption) | refine ofS2 ?_ (by assumption) | refine ofS3 ?_ (by assumption) | refine of3 ?_ (by assumption)) | dsimp only)

theorem execFrameRerun_tidy {pq} {order : BitVec 48} {s : State} (hs : Tidy pq s) : TidyO pq (execFrameRerun order s) := by
  unfold execFrameRerun
  repeat' (first | with_reducible assumption | with_reducible intro _ | (extract_lets +onlyGivenNames zz; first | (refine (fun (hz : Tidy pq zz) => ?_) ?_; (on_goal 1 => (try clear_value zz; rename' zz => zy, hz => hy)); (on_goal 2 => subst zz)) | (try clear_value zz; rename' zz => zy)) | with_reducible (first | apply idle_tidy | apply State.withDram_tidy | apply State.release_tidy | apply State.replayLost_tidy | apply State.enq_tidy | apply State.count_tidy | apply State.toDecrypt_tidy | apply State.eccCorrect_tidy | apply tidyO_next | apply tidyS_none | apply tidyS_some | apply tidyS1_none | apply tidyS2_none) | split | with_reducible (first | apply tidy_ite | apply tidyO_ite) | with_reducible (fail_if_no_progress apply tidy_mk) | with_reducible (first | refine of1 ?_ (by assumption) | refine of2 ?_ (by assumption) | refine ofS ?_ (by assumption) | refine ofS1 ?_ (by assumption) | refine ofS2 ?_ (by assumption) | refine ofS3 ?_ (by assumption) | refine of3 ?_ (by assumption)) | dsimp only)

theorem State.setUnitRun_tidy {pq} {s : State} {u : ℕ} {r : Option CleaverRun} (hs : Tidy pq s) : Tidy pq (State.setUnitRun s u r) := by
  unfold State.setUnitRun
  repeat' (first | with_reducible assumption | with_reducible (first | apply tidyS_none | apply tidyS_some | apply tidyS1_none | apply tidyS2_none) | with_reducible (fail_if_no_progress apply tidy_mk))

theorem State.cleave_tidy {pq} {s : State} {u k : ℕ} {fl : Flight} {poison : Bool} (hs : Tidy pq s) : Tidy pq (State.cleave s u k fl poison) := by
  unfold State.cleave
  repeat' (first | with_reducible assumption | (extract_lets +onlyGivenNames zz; first | (refine (fun (hz : Tidy pq zz) => ?_) ?_; (on_goal 1 => (try clear_value zz; rename' zz => zy, hz => hy)); (on_goal 2 => subst zz)) | (try clear_value zz; rename' zz => zy)) | with_reducible (first | apply State.setFlight_tidy | apply State.setUnitRun_tidy | apply State.enq_tidy | apply tidy1_mk | apply tidy2_mk | apply tidyS_none | apply tidyS_some | apply tidyS1_none | apply tidyS2_none) | with_reducible (apply tidy_fst; first | apply tidy1_ite) | with_reducible (apply tidy_snd; first | apply tidy2_ite) | split | with_reducible (first | apply tidy_ite | apply tidy1_ite | apply tidy2_ite | apply tidyS_ite) | with_reducible (fail_if_no_progress apply tidy_mk) | with_reducible (first | refine of1 ?_ (by assumption) | refine of2 ?_ (by assumption) | refine ofS ?_ (by assumption) | refine ofS1 ?_ (by assumption) | refine ofS2 ?_ (by assumption) | refine ofS3 ?_ (by assumption) | refine of3 ?_ (by assumption)) | dsimp only)

theorem execCleaverDecrypt_tidy {pq} {unit : Fin 4} {parity : ℕ} {s : State} (hs : Tidy pq s) : TidyO pq (execCleaverDecrypt unit parity s) := by
  unfold execCleaverDecrypt
  repeat' (first | with_reducible assumption | with_reducible intro _ | (extract_lets +onlyGivenNames zz; first | (refine (fun (hz : Tidy pq zz) => ?_) ?_; (on_goal 1 => (try clear_value zz; rename' zz => zy, hz => hy)); (on_goal 2 => subst zz)) | (try clear_value zz; rename' zz => zy)) | with_reducible (first | apply idle_tidy | apply State.withDram_tidy | apply State.faultFront_tidy | apply State.release_tidy | apply State.cleave_tidy | apply State.deq_tidy | apply tidyO_next | apply tidy1_mk | apply tidy2_mk | apply tidyS_none | apply tidyS_some | apply tidyS1_none | apply tidyS2_none) | with_reducible (apply tidy_fst; first | apply tidy1_ite) | with_reducible (apply tidy_snd; first | apply tidy2_ite) | split | with_reducible (first | apply tidy_ite | apply tidyO_ite | apply tidy1_ite | apply tidy2_ite) | with_reducible (fail_if_no_progress apply tidy_mk) | with_reducible (first | refine of1 ?_ (by assumption) | refine of2 ?_ (by assumption) | refine ofS ?_ (by assumption) | refine ofS1 ?_ (by assumption) | refine ofS2 ?_ (by assumption) | refine ofS3 ?_ (by assumption) | refine of3 ?_ (by assumption)) | dsimp only)

theorem State.countTag_tidy {pq} {s : State} {aa : TagVerdict} (hs : Tidy pq s) : Tidy pq (State.countTag s aa) := by
  unfold State.countTag
  repeat' (first | with_reducible assumption | with_reducible (first | apply State.count_tidy) | split | with_reducible (fail_if_no_progress apply tidy_mk) | with_reducible (first | refine of1 ?_ (by assumption) | refine of2 ?_ (by assumption) | refine ofS ?_ (by assumption) | refine ofS1 ?_ (by assumption) | refine ofS2 ?_ (by assumption) | refine ofS3 ?_ (by assumption) | refine of3 ?_ (by assumption)) | dsimp only)

theorem execTagVerdict_tidy {pq} {unit : Fin 4} {s : State} (hs : Tidy pq s) : TidyO pq (execTagVerdict unit s) := by
  unfold execTagVerdict
  repeat' (first | with_reducible assumption | (extract_lets +onlyGivenNames zz; first | (refine (fun (hz : Tidy pq zz) => ?_) ?_; (on_goal 1 => (try clear_value zz; rename' zz => zy, hz => hy)); (on_goal 2 => subst zz)) | (refine (fun (hz : ∀ t, Tidy pq t → Tidy pq (zz t)) => ?_) ?_; (on_goal 1 => (try clear_value zz; rename' zz => zy, hz => hf)); (on_goal 2 => (subst zz; intro _ _; beta_reduce))) | (refine (fun (hz : ∀ t, Tidy pq (zz t)) => ?_) ?_; (on_goal 1 => (try clear_value zz; rename' zz => zy, hz => hf)); (on_goal 2 => (subst zz; intro _; beta_reduce))) | (try clear_value zz; rename' zz => zy)) | with_reducible (first | apply idle_tidy | apply State.countTag_tidy | apply State.setUnitRun_tidy | apply State.setFlight_tidy | apply State.enq_tidy | apply tidyO_next | apply tidyS_none | apply tidyS_some | apply tidyS1_none | apply tidyS2_none) | split | with_reducible (first | apply tidy_ite | apply tidyO_ite) | with_reducible (fail_if_no_progress apply tidy_mk) | with_reducible (apply hf) | with_reducible (first | refine of1 ?_ (by assumption) | refine of2 ?_ (by assumption) | refine ofS ?_ (by assumption) | refine ofS1 ?_ (by assumption) | refine ofS2 ?_ (by assumption) | refine ofS3 ?_ (by assumption) | refine of3 ?_ (by assumption)) | dsimp only)


/-! ## TwinOps -/

theorem State.stopAcks_tidy {pq} {s : State} (hs : Tidy pq s) : Tidy pq (State.stopAcks s) := by
  unfold State.stopAcks
  repeat' (first | with_reducible assumption | with_reducible (first | apply tidy_ite | apply State.irq_tidy | apply State.setF_tidy))

theorem State.resumeAcks_tidy {pq} {s : State} (hs : Tidy pq s) : Tidy pq (State.resumeAcks s) := by
  unfold State.resumeAcks
  repeat' (first | with_reducible assumption | with_reducible (first | apply tidy_ite | apply State.releaseDups_tidy | apply State.noteHold_tidy | apply State.setF_tidy))

theorem State.judgeAcks_tidy {pq} {s : State} (hs : Tidy pq s) : Tidy pq (State.judgeAcks s) := by
  unfold State.judgeAcks
  repeat' (first | with_reducible assumption | with_reducible (first | apply tidy_ite | apply State.stopAcks_tidy | apply State.resumeAcks_tidy))

theorem State.dropLink_tidy {pq} {s : State} (hs : Tidy pq s) : Tidy pq (State.dropLink s) := by
  unfold State.dropLink
  repeat' (first | with_reducible assumption | (extract_lets +onlyGivenNames zz; first | (refine (fun (hz : Tidy pq zz) => ?_) ?_; (on_goal 1 => (try clear_value zz; rename' zz => zy, hz => hy)); (on_goal 2 => subst zz)) | (refine (fun (hz : ∀ t, Tidy pq t → Tidy pq (zz t)) => ?_) ?_; (on_goal 1 => (try clear_value zz; rename' zz => zy, hz => hf)); (on_goal 2 => (subst zz; intro _ _; beta_reduce))) | (refine (fun (hz : ∀ t, Tidy pq (zz t)) => ?_) ?_; (on_goal 1 => (try clear_value zz; rename' zz => zy, hz => hf)); (on_goal 2 => (subst zz; intro _; beta_reduce))) | (try clear_value zz; rename' zz => zy)) | with_reducible (first | apply State.count_tidy | apply State.creditBack_tidy | apply State.discardAll_tidy) | with_reducible (fail_if_no_progress apply tidy_mk) | with_reducible (apply hf) | with_reducible (first | refine of1 ?_ (by assumption) | refine of2 ?_ (by assumption) | refine ofS ?_ (by assumption) | refine ofS1 ?_ (by assumption) | refine ofS2 ?_ (by assumption) | refine ofS3 ?_ (by assumption) | refine of3 ?_ (by assumption)) | dsimp only)

theorem State.roleDue_tidy {pq} {s : State} {k : ℕ} (hs : Tidy pq s) : Tidy pq (State.roleDue s k) := by
  unfold State.roleDue
  repeat' (first | with_reducible assumption | (extract_lets +onlyGivenNames zz; first | (refine (fun (hz : Tidy pq zz) => ?_) ?_; (on_goal 1 => (try clear_value zz; rename' zz => zy, hz => hy)); (on_goal 2 => subst zz)) | (try clear_value zz; rename' zz => zy)) | with_reducible (first | apply tidy_ite | apply State.setPort_tidy | apply tidy1_mk | apply tidy2_mk) | with_reducible (fail_if_no_progress apply tidy_mk) | with_reducible (first | refine of1 ?_ (by assumption) | refine of2 ?_ (by assumption) | refine ofS ?_ (by assumption) | refine ofS1 ?_ (by assumption) | refine ofS2 ?_ (by assumption) | refine ofS3 ?_ (by assumption) | refine of3 ?_ (by assumption)) | dsimp only)

theorem State.setPaired_tidy {pq} {s : State} {p : Bool} (hs : Tidy pq s) : Tidy pq (State.setPaired s p) := by
  unfold State.setPaired
  repeat' (first | with_reducible assumption | (extract_lets +onlyGivenNames zz; first | (refine (fun (hz : Tidy pq zz) => ?_) ?_; (on_goal 1 => (try clear_value zz; rename' zz => zy, hz => hy)); (on_goal 2 => subst zz)) | (refine (fun (hz : ∀ t, Tidy pq t → Tidy pq (zz t)) => ?_) ?_; (on_goal 1 => (try clear_value zz; rename' zz => zy, hz => hf)); (on_goal 2 => (subst zz; intro _ _; beta_reduce))) | (refine (fun (hz : ∀ t, Tidy pq (zz t)) => ?_) ?_; (on_goal 1 => (try clear_value zz; rename' zz => zy, hz => hf)); (on_goal 2 => (subst zz; intro _; beta_reduce))) | (try clear_value zz; rename' zz => zy)) | with_reducible (first | apply tidy_ite | apply State.setF_tidy | apply State.dropLink_tidy | apply State.judgeAcks_tidy | apply tidy1_mk | apply tidy2_mk) | with_reducible (fail_if_no_progress apply tidy_mk) | with_reducible (apply hf) | with_reducible (first | refine of1 ?_ (by assumption) | refine of2 ?_ (by assumption) | refine ofS ?_ (by assumption) | refine ofS1 ?_ (by assumption) | refine ofS2 ?_ (by assumption) | refine ofS3 ?_ (by assumption) | refine of3 ?_ (by assumption)) | dsimp only)

theorem State.keepRecords_tidy {pq} {s : State} (hs : Tidy pq s) : Tidy pq (State.keepRecords s) := by
  unfold State.keepRecords
  repeat' (first | with_reducible assumption | with_reducible intro _ | with_reducible (first | apply State.setOrderNext_tidy | apply tidyS_none | apply tidyS_some | apply tidyS1_none | apply tidyS2_none) | split | with_reducible (first | apply tidy_ite) | with_reducible (fail_if_no_progress apply tidy_mk) | with_reducible (first | refine of1 ?_ (by assumption) | refine of2 ?_ (by assumption) | refine ofS ?_ (by assumption) | refine ofS1 ?_ (by assumption) | refine ofS2 ?_ (by assumption) | refine ofS3 ?_ (by assumption) | refine of3 ?_ (by assumption)) | dsimp only)

theorem State.twinTo_tidy {pq} {s : State} {r : ℕ} (hs : Tidy pq s) : Tidy pq (State.twinTo s r) := by
  unfold State.twinTo
  repeat' (first | with_reducible assumption | (extract_lets +onlyGivenNames zz; first | (refine (fun (hz : Tidy pq zz) => ?_) ?_; (on_goal 1 => (try clear_value zz; rename' zz => zy, hz => hy)); (on_goal 2 => subst zz)) | (refine (fun (hz : ∀ t, Tidy pq t → Tidy pq (zz t)) => ?_) ?_; (on_goal 1 => (try clear_value zz; rename' zz => zy, hz => hf)); (on_goal 2 => (subst zz; intro _ _; beta_reduce))) | (refine (fun (hz : ∀ t, Tidy pq (zz t)) => ?_) ?_; (on_goal 1 => (try clear_value zz; rename' zz => zy, hz => hf)); (on_goal 2 => (subst zz; intro _; beta_reduce))) | (try clear_value zz; rename' zz => zy)) | with_reducible (first | apply foldl_tidy | apply foldl_tidy1 | apply State.irq_tidy | apply State.setF_tidy | apply State.event_tidy | apply State.discardAll_tidy | apply State.keepRecords_tidy | apply State.roleDue_tidy | apply State.setPaired_tidy | apply State.judgeAcks_tidy | apply State.dropLink_tidy | apply tidy1_mk | apply tidy2_mk | apply tidyS_none | apply tidyS_some | apply tidyS1_none | apply tidyS2_none) | with_reducible (apply tidy_fst; first | apply foldl_tidy1) | with_reducible (apply tidy_snd; first | apply foldl_tidy2) | split | with_reducible (first | apply tidy_ite) | with_reducible (fail_if_no_progress apply tidy_mk) | with_reducible (apply hf) | with_reducible (first | refine of1 ?_ (by assumption) | refine of2 ?_ (by assumption) | refine ofS ?_ (by assumption) | refine ofS1 ?_ (by assumption) | refine ofS2 ?_ (by assumption) | refine ofS3 ?_ (by assumption) | refine of3 ?_ (by assumption)) | dsimp only)

theorem State.desync_tidy {pq} {s : State} (hs : Tidy pq s) : Tidy pq (State.desync s) := by
  unfold State.desync
  repeat' (first | with_reducible assumption | with_reducible (first | apply tidy_ite | apply State.twinTo_tidy))


/-! ## UpdOps -/

theorem State.setPart_tidy {pq} {s : State} {p : ℕ} {x : FwPart} (hs : Tidy pq s) : Tidy pq (State.setPart s p x) := by
  unfold State.setPart
  repeat' (first | with_reducible assumption | with_reducible (fail_if_no_progress apply tidy_mk))

theorem State.setImage_tidy {pq} {s : State} {p copy : ℕ} {x : FwCopy} (hs : Tidy pq s) : Tidy pq (State.setImage s p copy x) := by
  unfold State.setImage
  repeat' (first | with_reducible assumption | with_reducible (fail_if_no_progress apply tidy_mk))


/-! ## Replicas -/

theorem State.swapRefused_tidy {pq} {s : State} {aa : Option ℕ} (hs : Tidy pq s) : Tidy1 pq (State.swapRefused s aa) := by
  unfold State.swapRefused
  repeat' (first | with_reducible assumption | with_reducible (first | apply State.calCheckPassive_tidy | apply State.setF_tidy | apply tidy1_mk | apply tidy2_mk | apply tidyS_none | apply tidyS_some | apply tidyS1_none | apply tidyS2_none) | split | with_reducible (fail_if_no_progress apply tidy_mk) | with_reducible (first | refine of1 ?_ (by assumption) | refine of2 ?_ (by assumption) | refine ofS ?_ (by assumption) | refine ofS1 ?_ (by assumption) | refine ofS2 ?_ (by assumption) | refine ofS3 ?_ (by assumption) | refine of3 ?_ (by assumption)) | dsimp only)

theorem State.checkSwap_tidy {pq} {s : State} {l : List (Field × ℕ)} (hs : Tidy pq s) : Tidy1 pq (State.checkSwap s l) := by
  unfold State.checkSwap
  repeat' (first | with_reducible assumption | with_reducible (first | apply tidy_ite | apply tidy1_ite | apply tidy2_ite | apply State.swapRefused_tidy | apply tidy1_mk | apply tidy2_mk | apply tidyS_none | apply tidyS_some | apply tidyS1_none | apply tidyS2_none) | with_reducible (apply tidy_fst; first | apply State.swapRefused_tidy | apply tidy1_ite) | with_reducible (apply tidy_snd; first | apply tidy2_ite))

theorem State.takeBank_tidy {pq} {s : State} {b : ℕ} (hs : Tidy pq s) : Tidy pq (State.takeBank s b) := by
  unfold State.takeBank
  repeat' (first | with_reducible assumption | (extract_lets +onlyGivenNames zz; first | (refine (fun (hz : Tidy pq zz) => ?_) ?_; (on_goal 1 => (try clear_value zz; rename' zz => zy, hz => hy)); (on_goal 2 => subst zz)) | (refine (fun (hz : ∀ t, Tidy pq t → Tidy pq (zz t)) => ?_) ?_; (on_goal 1 => (try clear_value zz; rename' zz => zy, hz => hf)); (on_goal 2 => (subst zz; intro _ _; beta_reduce))) | (refine (fun (hz : ∀ t, Tidy pq (zz t)) => ?_) ?_; (on_goal 1 => (try clear_value zz; rename' zz => zy, hz => hf)); (on_goal 2 => (subst zz; intro _; beta_reduce))) | (try clear_value zz; rename' zz => zy)) | with_reducible (first | apply State.set2_tidy | apply State.setF_tidy | apply State.irq_tidy) | split | with_reducible (first | apply tidy_ite) | with_reducible (fail_if_no_progress apply tidy_mk) | with_reducible (apply hf) | with_reducible (first | refine of1 ?_ (by assumption) | refine of2 ?_ (by assumption) | refine ofS ?_ (by assumption) | refine ofS1 ?_ (by assumption) | refine ofS2 ?_ (by assumption) | refine ofS3 ?_ (by assumption) | refine of3 ?_ (by assumption)) | dsimp only)

theorem State.startBal_tidy {pq} {s : State} {at_ : ℕ} (hs : Tidy pq s) : Tidy pq (State.startBal s at_) := by
  unfold State.startBal
  repeat' (first | with_reducible assumption | (extract_lets +onlyGivenNames zz; first | (refine (fun (hz : Tidy pq zz) => ?_) ?_; (on_goal 1 => (try clear_value zz; rename' zz => zy, hz => hy)); (on_goal 2 => subst zz)) | (try clear_value zz; rename' zz => zy)) | with_reducible (first | apply State.setF_tidy | apply tidy1_mk | apply tidy2_mk | apply tidy_getD) | with_reducible (fail_if_no_progress apply tidy_mk) | with_reducible (first | refine of1 ?_ (by assumption) | refine of2 ?_ (by assumption) | refine ofS ?_ (by assumption) | refine ofS1 ?_ (by assumption) | refine ofS2 ?_ (by assumption) | refine ofS3 ?_ (by assumption) | refine of3 ?_ (by assumption)) | dsimp only)

theorem State.startBill_tidy {pq} {s : State} {at_ : ℕ} (hs : Tidy pq s) : Tidy pq (State.startBill s at_) := by
  unfold State.startBill
  repeat' (first | with_reducible assumption | (extract_lets +onlyGivenNames zz; first | (refine (fun (hz : Tidy pq zz) => ?_) ?_; (on_goal 1 => (try clear_value zz; rename' zz => zy, hz => hy)); (on_goal 2 => subst zz)) | (try clear_value zz; rename' zz => zy)) | with_reducible (first | apply tidy_ite | apply tidyS_ite | apply State.setF_tidy | apply tidy1_mk | apply tidy2_mk | apply tidyS_none | apply tidyS_some | apply tidyS1_none | apply tidyS2_none | apply tidy_getD) | with_reducible (fail_if_no_progress apply tidy_mk) | with_reducible (first | refine of1 ?_ (by assumption) | refine of2 ?_ (by assumption) | refine ofS ?_ (by assumption) | refine ofS1 ?_ (by assumption) | refine ofS2 ?_ (by assumption) | refine ofS3 ?_ (by assumption) | refine of3 ?_ (by assumption)) | dsimp only)

theorem State.newMode_tidy {pq} {s : State} {at_ : ℕ} (hs : Tidy pq s) : Tidy pq (State.newMode s at_) := by
  unfold State.newMode
  repeat' (first | with_reducible assumption | (extract_lets +onlyGivenNames zz; first | (refine (fun (hz : Tidy pq zz) => ?_) ?_; (on_goal 1 => (try clear_value zz; rename' zz => zy, hz => hy)); (on_goal 2 => subst zz)) | (try clear_value zz; rename' zz => zy)) | with_reducible (first | apply tidy_ite | apply tidy1_mk | apply tidy2_mk | apply tidyS_none | apply tidyS_some | apply tidyS1_none | apply tidyS2_none) | with_reducible (fail_if_no_progress apply tidy_mk) | with_reducible (first | refine of1 ?_ (by assumption) | refine of2 ?_ (by assumption) | refine ofS ?_ (by assumption) | refine ofS1 ?_ (by assumption) | refine ofS2 ?_ (by assumption) | refine ofS3 ?_ (by assumption) | refine of3 ?_ (by assumption)) | dsimp only)

theorem State.takeReplicas_tidy {pq} {s : State} {l : List (Field × ℕ)} {at_ : ℕ} (hs : Tidy pq s) : Tidy pq (State.takeReplicas s l at_) := by
  unfold State.takeReplicas
  repeat' (first | with_reducible assumption | with_reducible intro _ | (extract_lets +onlyGivenNames zz; first | (refine (fun (hz : Tidy pq zz) => ?_) ?_; (on_goal 1 => (try clear_value zz; rename' zz => zy, hz => hy)); (on_goal 2 => subst zz)) | (try clear_value zz; rename' zz => zy)) | with_reducible (first | apply foldl_tidy | apply foldl_tidy1 | apply State.fireRtcDue_tidy | apply State.setF_tidy | apply State.takeBank_tidy | apply State.startBal_tidy | apply State.startBill_tidy | apply State.newMode_tidy | apply State.rtcJump_tidy | apply State.beginGen_tidy | apply tidy1_mk | apply tidy2_mk | apply tidyS_none | apply tidyS_some | apply tidyS1_none | apply tidyS2_none) | with_reducible (apply tidy_fst; first | apply foldl_tidy1 | apply tidy1_ite) | with_reducible (apply tidy_snd; first | apply foldl_tidy2 | apply tidy2_ite) | split | with_reducible (first | apply tidy_ite | apply tidy1_ite | apply tidy2_ite) | with_reducible (fail_if_no_progress apply tidy_mk) | with_reducible (first | refine of1 ?_ (by assumption) | refine of2 ?_ (by assumption) | refine ofS ?_ (by assumption) | refine ofS1 ?_ (by assumption) | refine ofS2 ?_ (by assumption) | refine ofS3 ?_ (by assumption) | refine of3 ?_ (by assumption)) | dsimp only)

theorem State.applyTxn_tidy {pq} {s : State} {v : List (ℕ × ℕ × ℕ)} (hs : Tidy pq s) : Tidy pq (State.applyTxn s v) := by
  unfold State.applyTxn
  repeat' (first | with_reducible assumption | with_reducible intro _ | (extract_lets +onlyGivenNames zz; first | (refine (fun (hz : Tidy pq zz) => ?_) ?_; (on_goal 1 => (try clear_value zz; rename' zz => zy, hz => hy)); (on_goal 2 => subst zz)) | (try clear_value zz; rename' zz => zy)) | with_reducible (first | apply State.checkSwap_tidy | apply State.event_tidy | apply State.desync_tidy | apply State.takeReplicas_tidy) | with_reducible (apply tidy_fst; first | apply State.checkSwap_tidy | apply tidy1_ite) | with_reducible (apply tidy_snd; first | apply tidy2_ite) | split | with_reducible (first | apply tidy_ite | apply tidy1_ite | apply tidy2_ite) | with_reducible (first | refine of1 ?_ (by assumption) | refine of2 ?_ (by assumption) | refine ofS ?_ (by assumption) | refine ofS1 ?_ (by assumption) | refine ofS2 ?_ (by assumption) | refine ofS3 ?_ (by assumption) | refine of3 ?_ (by assumption)) | dsimp only)


/-! ## Ladle -/

theorem execLadleLaneVerdict_tidy {pq} {s : State} (hs : Tidy pq s) : TidyO pq (execLadleLaneVerdict s) := by
  unfold execLadleLaneVerdict
  repeat' (first | with_reducible assumption | (extract_lets +onlyGivenNames zz; first | (refine (fun (hz : Tidy pq zz) => ?_) ?_; (on_goal 1 => (try clear_value zz; rename' zz => zy, hz => hy)); (on_goal 2 => subst zz)) | (try clear_value zz; rename' zz => zy)) | with_reducible (first | apply idle_tidy | apply State.count_tidy | apply State.setFlight_tidy | apply State.err_tidy | apply tidyO_next | apply tidy1_mk | apply tidy2_mk | apply tidyS_none | apply tidyS_some | apply tidyS1_none | apply tidyS2_none) | split | with_reducible (first | apply tidy_ite | apply tidyO_ite) | with_reducible (fail_if_no_progress apply tidy_mk) | with_reducible (first | refine of1 ?_ (by assumption) | refine of2 ?_ (by assumption) | refine ofS ?_ (by assumption) | refine ofS1 ?_ (by assumption) | refine ofS2 ?_ (by assumption) | refine ofS3 ?_ (by assumption) | refine of3 ?_ (by assumption)) | dsimp only)

theorem State.rerunFrame_tidy {pq} {s : State} {n : ℕ} (hs : Tidy pq s) : Tidy pq (State.rerunFrame s n) := by
  unfold State.rerunFrame
  repeat' (first | with_reducible assumption | (extract_lets +onlyGivenNames zz; first | (refine (fun (hz : Tidy pq zz) => ?_) ?_; (on_goal 1 => (try clear_value zz; rename' zz => zy, hz => hy)); (on_goal 2 => subst zz)) | (try clear_value zz; rename' zz => zy)) | with_reducible (first | apply State.squashFrom_tidy | apply State.setFlight_tidy | apply tidyS_none | apply tidyS_some | apply tidyS1_none | apply tidyS2_none) | split | with_reducible (fail_if_no_progress apply tidy_mk) | with_reducible (first | refine of1 ?_ (by assumption) | refine of2 ?_ (by assumption) | refine ofS ?_ (by assumption) | refine ofS1 ?_ (by assumption) | refine ofS2 ?_ (by assumption) | refine ofS3 ?_ (by assumption) | refine of3 ?_ (by assumption)) | dsimp only)

theorem execLadleTagVerdict_tidy {pq} {parity : ℕ} {s : State} (hs : Tidy pq s) : TidyO pq (execLadleTagVerdict parity s) := by
  unfold execLadleTagVerdict
  repeat' (first | with_reducible assumption | (extract_lets +onlyGivenNames zz; first | (refine (fun (hz : Tidy pq zz) => ?_) ?_; (on_goal 1 => (try clear_value zz; rename' zz => zy, hz => hy)); (on_goal 2 => subst zz)) | (try clear_value zz; rename' zz => zy)) | with_reducible (first | apply idle_tidy | apply State.faultFront_tidy | apply State.rerunFrame_tidy | apply State.setFlight_tidy | apply State.err_tidy | apply State.deq_tidy | apply tidyO_next | apply tidy1_mk | apply tidy2_mk | apply tidyS_none | apply tidyS_some | apply tidyS1_none | apply tidyS2_none) | with_reducible (apply tidy_fst; first | apply tidy1_ite) | with_reducible (apply tidy_snd; first | apply tidy2_ite) | split | with_reducible (first | apply tidy_ite | apply tidyO_ite | apply tidy1_ite | apply tidy2_ite) | with_reducible (fail_if_no_progress apply tidy_mk) | with_reducible (first | refine of1 ?_ (by assumption) | refine of2 ?_ (by assumption) | refine ofS ?_ (by assumption) | refine ofS1 ?_ (by assumption) | refine ofS2 ?_ (by assumption) | refine ofS3 ?_ (by assumption) | refine of3 ?_ (by assumption)) | dsimp only)

theorem State.placeCommit_tidy {pq} {s : State} {i : CommitItem} (hs : Tidy pq s) : Tidy pq (State.placeCommit s i) := by
  unfold State.placeCommit
  repeat' (first | with_reducible assumption | (extract_lets +onlyGivenNames zz; first | (refine (fun (hz : Tidy pq zz) => ?_) ?_; (on_goal 1 => (try clear_value zz; rename' zz => zy, hz => hy)); (on_goal 2 => subst zz)) | (try clear_value zz; rename' zz => zy)) | with_reducible (first | apply State.enq_tidy | apply tidy1_mk | apply tidy2_mk) | with_reducible (fail_if_no_progress apply tidy_mk) | with_reducible (first | refine of1 ?_ (by assumption) | refine of2 ?_ (by assumption) | refine ofS ?_ (by assumption) | refine ofS1 ?_ (by assumption) | refine ofS2 ?_ (by assumption) | refine ofS3 ?_ (by assumption) | refine of3 ?_ (by assumption)) | dsimp only)

theorem State.discardEffects_tidy {pq} {s : State} {n : ℕ} {fl : Flight} (hs : Tidy pq s) : Tidy pq (State.discardEffects s n fl) := by
  unfold State.discardEffects
  repeat' (first | with_reducible assumption | (extract_lets +onlyGivenNames zz; first | (refine (fun (hz : Tidy pq zz) => ?_) ?_; (on_goal 1 => (try clear_value zz; rename' zz => zy, hz => hy)); (on_goal 2 => subst zz)) | (try clear_value zz; rename' zz => zy)) | with_reducible (first | apply tidy_ite | apply State.squashFrom_tidy | apply State.count_tidy | apply State.setLaneFx_tidy) | with_reducible (first | refine of1 ?_ (by assumption) | refine of2 ?_ (by assumption) | refine ofS ?_ (by assumption) | refine ofS1 ?_ (by assumption) | refine ofS2 ?_ (by assumption) | refine ofS3 ?_ (by assumption) | refine of3 ?_ (by assumption)) | dsimp only)

theorem State.secEvent_tidy {pq} {s : State} {m : ℕ} {replay : Bool} (hs : Tidy pq s) : Tidy pq (State.secEvent s m replay) := by
  unfold State.secEvent
  repeat' (first | with_reducible assumption | (extract_lets +onlyGivenNames zz; first | (refine (fun (hz : Tidy pq zz) => ?_) ?_; (on_goal 1 => (try clear_value zz; rename' zz => zy, hz => hy)); (on_goal 2 => subst zz)) | (refine (fun (hz : ∀ t, Tidy pq t → Tidy pq (zz t)) => ?_) ?_; (on_goal 1 => (try clear_value zz; rename' zz => zy, hz => hf)); (on_goal 2 => (subst zz; intro _ _; beta_reduce))) | (refine (fun (hz : ∀ t, Tidy pq (zz t)) => ?_) ?_; (on_goal 1 => (try clear_value zz; rename' zz => zy, hz => hf)); (on_goal 2 => (subst zz; intro _; beta_reduce))) | (try clear_value zz; rename' zz => zy)) | with_reducible (first | apply tidy_ite | apply State.setF_tidy | apply State.event_tidy | apply tidy1_mk | apply tidy2_mk) | with_reducible (fail_if_no_progress apply tidy_mk) | with_reducible (apply hf) | with_reducible (first | refine of1 ?_ (by assumption) | refine of2 ?_ (by assumption) | refine ofS ?_ (by assumption) | refine ofS1 ?_ (by assumption) | refine ofS2 ?_ (by assumption) | refine ofS3 ?_ (by assumption) | refine of3 ?_ (by assumption)) | dsimp only)

theorem State.dropAtHead_tidy {pq} {s : State} {n : ℕ} {fl : Flight} {o : FrameOutcome} (hs : Tidy pq s) : Tidy pq (State.dropAtHead s n fl o) := by
  unfold State.dropAtHead
  repeat' (first | with_reducible assumption | (extract_lets +onlyGivenNames zz; first | (refine (fun (hz : Tidy pq zz) => ?_) ?_; (on_goal 1 => (try clear_value zz; rename' zz => zy, hz => hy)); (on_goal 2 => subst zz)) | (try clear_value zz; rename' zz => zy)) | with_reducible (first | apply State.discardEffects_tidy | apply State.secEvent_tidy | apply State.irq_tidy | apply State.count_tidy | apply State.endFlight_tidy | apply State.freeReplay_tidy | apply State.batchOutcome_tidy) | split | with_reducible (fail_if_no_progress apply tidy_mk) | with_reducible (first | refine of1 ?_ (by assumption) | refine of2 ?_ (by assumption) | refine ofS ?_ (by assumption) | refine ofS1 ?_ (by assumption) | refine ofS2 ?_ (by assumption) | refine ofS3 ?_ (by assumption) | refine of3 ?_ (by assumption)) | dsimp only)

theorem State.tokenEffect_tidy {pq} {s : State} {m order : ℕ} {t : Token} (hs : Tidy pq s) : Tidy pq (State.tokenEffect s m order t) := by
  unfold State.tokenEffect
  repeat' (first | with_reducible assumption | with_reducible intro _ | (extract_lets +onlyGivenNames zz; first | (refine (fun (hz : Tidy pq zz) => ?_) ?_; (on_goal 1 => (try clear_value zz; rename' zz => zy, hz => hy)); (on_goal 2 => subst zz)) | (try clear_value zz; rename' zz => zy)) | with_reducible (first | apply State.setCredit_tidy | apply State.setRec_tidy | apply State.billReport_tidy) | split | with_reducible (first | apply tidy_ite) | with_reducible (fail_if_no_progress apply tidy_mk) | with_reducible (first | refine of1 ?_ (by assumption) | refine of2 ?_ (by assumption) | refine ofS ?_ (by assumption) | refine ofS1 ?_ (by assumption) | refine ofS2 ?_ (by assumption) | refine ofS3 ?_ (by assumption) | refine of3 ?_ (by assumption)) | dsimp only)

theorem State.tokenTold_tidy {pq} {s : State} {m order r src : ℕ} {t : Option Token} (hs : Tidy pq s) : Tidy pq (State.tokenTold s m order r src t) := by
  unfold State.tokenTold
  repeat' (first | with_reducible assumption | (extract_lets +onlyGivenNames zz; first | (refine (fun (hz : Tidy pq zz) => ?_) ?_; (on_goal 1 => (try clear_value zz; rename' zz => zy, hz => hy)); (on_goal 2 => subst zz)) | (refine (fun (hz : ∀ t, Tidy pq t → Tidy pq (zz t)) => ?_) ?_; (on_goal 1 => (try clear_value zz; rename' zz => zy, hz => hf)); (on_goal 2 => (subst zz; intro _ _; beta_reduce))) | (refine (fun (hz : ∀ t, Tidy pq (zz t)) => ?_) ?_; (on_goal 1 => (try clear_value zz; rename' zz => zy, hz => hf)); (on_goal 2 => (subst zz; intro _; beta_reduce))) | (try clear_value zz; rename' zz => zy)) | with_reducible (first | apply tidy_ite | apply State.count_tidy | apply State.irq_tidy | apply State.setF_tidy | apply State.billReport_tidy) | with_reducible (apply hf) | with_reducible (first | refine of1 ?_ (by assumption) | refine of2 ?_ (by assumption) | refine ofS ?_ (by assumption) | refine ofS1 ?_ (by assumption) | refine ofS2 ?_ (by assumption) | refine ofS3 ?_ (by assumption) | refine of3 ?_ (by assumption)) | dsimp only)

theorem State.applyToken_tidy {pq} {s : State} {m order src : ℕ} {digits : Bytes} (hs : Tidy pq s) : Tidy1 pq (State.applyToken s m order src digits) := by
  unfold State.applyToken
  extract_lets +onlyGivenNames id t a r b c
  have ha : Tidy pq a := by
    show Tidy pq (match s.decryptToken m digits with | some t => s.readBucket 2 (s.tokenBucket id t.ident) | none => s)
    split
    · exact State.readBucket_tidy hs
    · exact hs
  have hb : Tidy pq b := by
    show Tidy pq (match s.decryptToken m digits with
      | some t => if r = 0 then ((a.touch m).tokenEffect m order t).ledgerInsert id t.ident t.cls t.amount order else a
      | none => a)
    split
    · exact tidy_ite (State.ledgerInsert_tidy (State.tokenEffect_tidy (State.touch_tidy ha))) ha
    · exact ha
  have hc : Tidy pq c := State.tokenTold_tidy hb
  exact tidy1_mk (tidy_ite (State.panelResult_tidy hc) hc)

theorem State.laneEvent_tidy {pq} {s : State} {m order code data : ℕ} (hs : Tidy pq s) : Tidy pq (State.laneEvent s m order code data) := by
  unfold State.laneEvent
  repeat' (first | with_reducible assumption | (extract_lets +onlyGivenNames zz; first | (refine (fun (hz : Tidy pq zz) => ?_) ?_; (on_goal 1 => (try clear_value zz; rename' zz => zy, hz => hy)); (on_goal 2 => subst zz)) | (try clear_value zz; rename' zz => zy)) | with_reducible (first | apply tidy_ite | apply State.enq_tidy | apply State.irq_tidy | apply State.count_tidy) | with_reducible (first | refine of1 ?_ (by assumption) | refine of2 ?_ (by assumption) | refine ofS ?_ (by assumption) | refine ofS1 ?_ (by assumption) | refine ofS2 ?_ (by assumption) | refine ofS3 ?_ (by assumption) | refine of3 ?_ (by assumption)) | dsimp only)

theorem State.commitEffect_tidy {pq} {s : State} {m order : ℕ} {late : Bool} {time : Option ℕ} {e : Effect} (hs : Tidy pq s) : Tidy pq (State.commitEffect s m order late time e) := by
  unfold State.commitEffect
  repeat' (first | with_reducible assumption | (extract_lets +onlyGivenNames zz; first | (refine (fun (hz : Tidy pq zz) => ?_) ?_; (on_goal 1 => (try clear_value zz; rename' zz => zy, hz => hy)); (on_goal 2 => subst zz)) | (try clear_value zz; rename' zz => zy)) | with_reducible (first | apply State.applyEffect_tidy | apply State.debit_tidy | apply State.balPost_tidy | apply State.demPost_tidy | apply State.laneEvent_tidy | apply State.billEvent_tidy) | split | with_reducible (first | apply tidy_ite) | with_reducible (fail_if_no_progress apply tidy_mk) | with_reducible (first | refine of1 ?_ (by assumption) | refine of2 ?_ (by assumption) | refine ofS ?_ (by assumption) | refine ofS1 ?_ (by assumption) | refine ofS2 ?_ (by assumption) | refine ofS3 ?_ (by assumption) | refine of3 ?_ (by assumption)) | dsimp only)

theorem State.commitEffects_tidy {pq} {s : State} {m order : ℕ} {es : List Effect} (hs : Tidy pq s) : Tidy pq (State.commitEffects s m order es) := by
  unfold State.commitEffects
  repeat' (first | with_reducible assumption | with_reducible intro _ | (extract_lets +onlyGivenNames zz; first | (refine (fun (hz : Tidy pq zz) => ?_) ?_; (on_goal 1 => (try clear_value zz; rename' zz => zy, hz => hy)); (on_goal 2 => subst zz)) | (try clear_value zz; rename' zz => zy)) | with_reducible (first | apply foldl_tidy | apply foldl_tidy1 | apply State.count_tidy | apply State.setRec_tidy | apply State.commitEffect_tidy) | with_reducible (apply tidy_fst; first | apply foldl_tidy1) | with_reducible (apply tidy_snd; first | apply foldl_tidy2) | split | with_reducible (first | apply tidy_ite) | with_reducible (first | refine of1 ?_ (by assumption) | refine of2 ?_ (by assumption) | refine ofS ?_ (by assumption) | refine ofS1 ?_ (by assumption) | refine ofS2 ?_ (by assumption) | refine ofS3 ?_ (by assumption) | refine of3 ?_ (by assumption)) | dsimp only)

theorem State.setLastAck_tidy {pq} {s : State} {f : Frame} {order : ℕ} {quar : Bool} (hs : Tidy pq s) : Tidy pq (State.setLastAck s f order quar) := by
  unfold State.setLastAck
  repeat' (first | with_reducible assumption | (extract_lets +onlyGivenNames zz; first | (refine (fun (hz : Tidy pq zz) => ?_) ?_; (on_goal 1 => (try clear_value zz; rename' zz => zy, hz => hy)); (on_goal 2 => subst zz)) | (refine (fun (hz : ∀ t, Tidy pq t → Tidy pq (zz t)) => ?_) ?_; (on_goal 1 => (try clear_value zz; rename' zz => zy, hz => hf)); (on_goal 2 => (subst zz; intro _ _; beta_reduce))) | (refine (fun (hz : ∀ t, Tidy pq (zz t)) => ?_) ?_; (on_goal 1 => (try clear_value zz; rename' zz => zy, hz => hf)); (on_goal 2 => (subst zz; intro _; beta_reduce))) | (try clear_value zz; rename' zz => zy)) | with_reducible (first | apply tidy_ite | apply State.setRec_tidy) | with_reducible (apply hf) | with_reducible (first | refine of1 ?_ (by assumption) | refine of2 ?_ (by assumption) | refine ofS ?_ (by assumption) | refine ofS1 ?_ (by assumption) | refine ofS2 ?_ (by assumption) | refine ofS3 ?_ (by assumption) | refine of3 ?_ (by assumption)) | dsimp only)

theorem State.learn_tidy {pq} {s : State} {f : Frame} {order : ℕ} (hs : Tidy pq s) : Tidy pq (State.learn s f order) := by
  unfold State.learn
  repeat' (first | with_reducible assumption | with_reducible (first | apply tidy_ite | apply tidy1_ite | apply tidy2_ite | apply State.learnRoute_tidy | apply tidy1_mk | apply tidy2_mk) | with_reducible (apply tidy_fst; first | apply State.learnRoute_tidy | apply tidy1_ite) | with_reducible (apply tidy_snd; first | apply tidy2_ite) | with_reducible (fail_if_no_progress apply tidy_mk))

theorem State.routeEntry_tidy {pq} {s : State} {f : Frame} {order : ℕ} (hs : Tidy pq s) : Tidy pq (State.routeEntry s f order) := by
  unfold State.routeEntry
  repeat' (first | with_reducible assumption | with_reducible (first | apply State.placeCommit_tidy | apply tidy1_mk | apply tidy2_mk))

theorem State.duplicate_tidy {pq} {s : State} {n : ℕ} {fl : Flight} (hs : Tidy pq s) : Tidy pq (State.duplicate s n fl) := by
  unfold State.duplicate
  repeat' (first | with_reducible assumption | (extract_lets +onlyGivenNames zz; first | (refine (fun (hz : Tidy pq zz) => ?_) ?_; (on_goal 1 => (try clear_value zz; rename' zz => zy, hz => hy)); (on_goal 2 => subst zz)) | (try clear_value zz; rename' zz => zy)) | with_reducible (first | apply tidy_ite | apply tidy1_ite | apply tidy2_ite | apply State.count_tidy | apply State.discardEffects_tidy | apply State.routeEntry_tidy | apply State.acknowledge_tidy | apply State.endFlight_tidy | apply State.freeReplay_tidy | apply State.learnRoute_tidy | apply tidy1_mk | apply tidy2_mk) | with_reducible (apply tidy_fst; first | apply State.learnRoute_tidy | apply tidy1_ite) | with_reducible (apply tidy_snd; first | apply tidy2_ite) | with_reducible (fail_if_no_progress apply tidy_mk) | with_reducible (first | refine of1 ?_ (by assumption) | refine of2 ?_ (by assumption) | refine ofS ?_ (by assumption) | refine ofS1 ?_ (by assumption) | refine ofS2 ?_ (by assumption) | refine ofS3 ?_ (by assumption) | refine of3 ?_ (by assumption)) | dsimp only)

theorem State.commitFrame_tidy {pq} {s : State} {n : ℕ} {fl : Flight} (hs : Tidy pq s) : Tidy pq (State.commitFrame s n fl) := by
  unfold State.commitFrame
  repeat' (first | with_reducible assumption | (extract_lets +onlyGivenNames zz; first | (refine (fun (hz : Tidy pq zz) => ?_) ?_; (on_goal 1 => (try clear_value zz; rename' zz => zy, hz => hy)); (on_goal 2 => subst zz)) | (refine (fun (hz : ∀ t, Tidy pq t → Tidy pq (zz t)) => ?_) ?_; (on_goal 1 => (try clear_value zz; rename' zz => zy, hz => hf)); (on_goal 2 => (subst zz; intro _ _; beta_reduce))) | (refine (fun (hz : ∀ t, Tidy pq (zz t)) => ?_) ?_; (on_goal 1 => (try clear_value zz; rename' zz => zy, hz => hf)); (on_goal 2 => (subst zz; intro _; beta_reduce))) | (try clear_value zz; rename' zz => zy)) | with_reducible (first | apply tidy_ite | apply tidy1_ite | apply tidy2_ite | apply State.commitEffects_tidy | apply State.touch_tidy | apply State.learn_tidy | apply State.setLastAck_tidy | apply State.set2_tidy | apply State.setLaneFx_tidy | apply State.endFlight_tidy | apply State.placeCommit_tidy | apply State.applyToken_tidy | apply tidy1_mk | apply tidy2_mk) | with_reducible (apply tidy_fst; first | apply State.applyToken_tidy | apply tidy1_ite) | with_reducible (apply tidy_snd; first | apply tidy2_ite) | with_reducible (apply hf) | with_reducible (first | refine of1 ?_ (by assumption) | refine of2 ?_ (by assumption) | refine ofS ?_ (by assumption) | refine ofS1 ?_ (by assumption) | refine ofS2 ?_ (by assumption) | refine ofS3 ?_ (by assumption) | refine of3 ?_ (by assumption)) | dsimp only)

theorem State.quarantineFrame_tidy {pq} {s : State} {n : ℕ} {fl : Flight} {reason : ℕ} (hs : Tidy pq s) : Tidy pq (State.quarantineFrame s n fl reason) := by
  unfold State.quarantineFrame
  repeat' (first | with_reducible assumption | (extract_lets +onlyGivenNames zz; first | (refine (fun (hz : Tidy pq zz) => ?_) ?_; (on_goal 1 => (try clear_value zz; rename' zz => zy, hz => hy)); (on_goal 2 => subst zz)) | (refine (fun (hz : ∀ t, Tidy pq t → Tidy pq (zz t)) => ?_) ?_; (on_goal 1 => (try clear_value zz; rename' zz => zy, hz => hf)); (on_goal 2 => (subst zz; intro _ _; beta_reduce))) | (refine (fun (hz : ∀ t, Tidy pq (zz t)) => ?_) ?_; (on_goal 1 => (try clear_value zz; rename' zz => zy, hz => hf)); (on_goal 2 => (subst zz; intro _; beta_reduce))) | (try clear_value zz; rename' zz => zy)) | with_reducible (first | apply State.touch_tidy | apply State.learn_tidy | apply State.setLastAck_tidy | apply State.count_tidy | apply State.endFlight_tidy | apply State.placeCommit_tidy | apply tidy1_mk | apply tidy2_mk) | with_reducible (apply hf) | with_reducible (first | refine of1 ?_ (by assumption) | refine of2 ?_ (by assumption) | refine ofS ?_ (by assumption) | refine ofS1 ?_ (by assumption) | refine ofS2 ?_ (by assumption) | refine ofS3 ?_ (by assumption) | refine of3 ?_ (by assumption)) | dsimp only)

theorem State.csumFence_tidy {pq} {s : State} {fl : Flight} (hs : Tidy pq s) : Tidy pq (State.csumFence s fl) := by
  unfold State.csumFence
  repeat' (first | with_reducible assumption | with_reducible (first | apply State.fenceLane_tidy))

theorem State.decideFrame_tidy {pq} {s : State} {n : ℕ} {fl : Flight} {tag : TagVerdict} {intact : Bool} (hs : Tidy pq s) : Tidy pq (State.decideFrame s n fl tag intact) := by
  unfold State.decideFrame
  repeat' (first | with_reducible assumption | (extract_lets +onlyGivenNames zz; first | (refine (fun (hz : Tidy pq zz) => ?_) ?_; (on_goal 1 => (try clear_value zz; rename' zz => zy, hz => hy)); (on_goal 2 => subst zz)) | (try clear_value zz; rename' zz => zy)) | with_reducible (first | apply State.count_tidy | apply State.duplicate_tidy | apply State.dropAtHead_tidy | apply State.commitFrame_tidy | apply State.csumFence_tidy | apply State.quarantineFrame_tidy | apply tidy1_mk | apply tidy2_mk) | split | with_reducible (first | apply tidy_ite) | with_reducible (fail_if_no_progress apply tidy_mk) | with_reducible (first | refine of1 ?_ (by assumption) | refine of2 ?_ (by assumption) | refine ofS ?_ (by assumption) | refine ofS1 ?_ (by assumption) | refine ofS2 ?_ (by assumption) | refine ofS3 ?_ (by assumption) | refine of3 ?_ (by assumption)) | dsimp only)

theorem State.applyRecWrite_tidy {pq} {s : State} {item : Bytes} (hs : Tidy pq s) : Tidy1 pq (State.applyRecWrite s item) := by
  unfold State.applyRecWrite
  repeat' (first | with_reducible assumption | with_reducible intro _ | (extract_lets +onlyGivenNames zz; first | (refine (fun (hz : Tidy pq zz) => ?_) ?_; (on_goal 1 => (try clear_value zz; rename' zz => zy, hz => hy)); (on_goal 2 => subst zz)) | (try clear_value zz; rename' zz => zy)) | with_reducible (first | apply tidy_ite | apply tidy1_ite | apply tidy2_ite | apply foldl_tidy | apply foldl_tidy1 | apply State.setRec_tidy | apply State.touch_tidy | apply tidy1_mk | apply tidy2_mk) | with_reducible (apply tidy_fst; first | apply foldl_tidy1 | apply tidy1_ite) | with_reducible (apply tidy_snd; first | apply foldl_tidy2 | apply tidy2_ite) | with_reducible (first | refine of1 ?_ (by assumption) | refine of2 ?_ (by assumption) | refine ofS ?_ (by assumption) | refine ofS1 ?_ (by assumption) | refine ofS2 ?_ (by assumption) | refine ofS3 ?_ (by assumption) | refine of3 ?_ (by assumption)) | dsimp only)

theorem State.applyInsert_tidy {pq} {s : State} {item : Bytes} (hs : Tidy pq s) : Tidy pq (State.applyInsert s item) := by
  unfold State.applyInsert
  repeat' (first | with_reducible assumption | (extract_lets +onlyGivenNames zz; first | (refine (fun (hz : Tidy pq zz) => ?_) ?_; (on_goal 1 => (try clear_value zz; rename' zz => zy, hz => hy)); (on_goal 2 => subst zz)) | (refine (fun (hz : ∀ t, Tidy pq t → Tidy pq (zz t)) => ?_) ?_; (on_goal 1 => (try clear_value zz; rename' zz => zy, hz => hf)); (on_goal 2 => (subst zz; intro _ _; beta_reduce))) | (refine (fun (hz : ∀ t, Tidy pq (zz t)) => ?_) ?_; (on_goal 1 => (try clear_value zz; rename' zz => zy, hz => hf)); (on_goal 2 => (subst zz; intro _; beta_reduce))) | (try clear_value zz; rename' zz => zy)) | with_reducible (first | apply State.touch_tidy | apply State.setRec_tidy | apply State.write_tidy) | with_reducible (apply hf) | with_reducible (first | refine of1 ?_ (by assumption) | refine of2 ?_ (by assumption) | refine ofS ?_ (by assumption) | refine ofS1 ?_ (by assumption) | refine ofS2 ?_ (by assumption) | refine ofS3 ?_ (by assumption) | refine of3 ?_ (by assumption)) | dsimp only)

theorem State.applyDelete_tidy {pq} {s : State} {m : ℕ} (hs : Tidy pq s) : Tidy pq (State.applyDelete s m) := by
  unfold State.applyDelete
  repeat' (first | with_reducible assumption | with_reducible (first | apply State.setRec_tidy | apply State.touch_tidy))

theorem State.applyRouteSet_tidy {pq} {s : State} {item : Bytes} {order : ℕ} (hs : Tidy pq s) : Tidy1 pq (State.applyRouteSet s item order) := by
  unfold State.applyRouteSet
  repeat' (first | with_reducible assumption | with_reducible intro _ | (extract_lets +onlyGivenNames zz; first | (refine (fun (hz : Tidy pq zz) => ?_) ?_; (on_goal 1 => (try clear_value zz; rename' zz => zy, hz => hy)); (on_goal 2 => subst zz)) | (try clear_value zz; rename' zz => zy)) | with_reducible (first | apply State.readBucket_tidy | apply State.putEntry_tidy | apply State.putRoute_tidy | apply tidy1_mk | apply tidy2_mk | apply tidyS_none | apply tidyS_some | apply tidyS1_none | apply tidyS2_none) | with_reducible (apply tidy_fst; first | apply State.putRoute_tidy | apply tidy1_ite) | with_reducible (apply tidy_snd; first | apply tidy2_ite) | split | with_reducible (first | apply tidy_ite | apply tidy1_ite | apply tidy2_ite) | with_reducible (fail_if_no_progress apply tidy_mk) | with_reducible (first | refine of1 ?_ (by assumption) | refine of2 ?_ (by assumption) | refine ofS ?_ (by assumption) | refine ofS1 ?_ (by assumption) | refine ofS2 ?_ (by assumption) | refine ofS3 ?_ (by assumption) | refine of3 ?_ (by assumption)) | dsimp only)

theorem State.applyRouteDel_tidy {pq} {s : State} {item : Bytes} (hs : Tidy pq s) : Tidy1 pq (State.applyRouteDel s item) := by
  unfold State.applyRouteDel
  repeat' (first | with_reducible assumption | (extract_lets +onlyGivenNames zz; first | (refine (fun (hz : Tidy pq zz) => ?_) ?_; (on_goal 1 => (try clear_value zz; rename' zz => zy, hz => hy)); (on_goal 2 => subst zz)) | (try clear_value zz; rename' zz => zy)) | with_reducible (first | apply State.readBucket_tidy | apply State.setF_tidy | apply State.freeEntry_tidy | apply tidy1_mk | apply tidy2_mk | apply tidyS_none | apply tidyS_some | apply tidyS1_none | apply tidyS2_none) | split | with_reducible (fail_if_no_progress apply tidy_mk) | with_reducible (first | refine of1 ?_ (by assumption) | refine of2 ?_ (by assumption) | refine ofS ?_ (by assumption) | refine ofS1 ?_ (by assumption) | refine ofS2 ?_ (by assumption) | refine ofS3 ?_ (by assumption) | refine of3 ?_ (by assumption)) | dsimp only)

theorem State.applyTokenAdd_tidy {pq} {s : State} {item : Bytes} {order : ℕ} (hs : Tidy pq s) : Tidy1 pq (State.applyTokenAdd s item order) := by
  unfold State.applyTokenAdd
  repeat' (first | with_reducible assumption | (extract_lets +onlyGivenNames zz; first | (refine (fun (hz : Tidy pq zz) => ?_) ?_; (on_goal 1 => (try clear_value zz; rename' zz => zy, hz => hy)); (on_goal 2 => subst zz)) | (try clear_value zz; rename' zz => zy)) | with_reducible (first | apply State.readBucket_tidy | apply State.ledgerInsert_tidy | apply State.dirFind_tidy | apply tidy1_mk | apply tidy2_mk | apply tidyS_none | apply tidyS_some | apply tidyS1_none | apply tidyS2_none) | with_reducible (apply tidy_fst; first | apply State.dirFind_tidy | apply tidy1_ite) | with_reducible (apply tidy_snd; first | apply tidy2_ite) | split | with_reducible (first | apply tidy_ite | apply tidy1_ite | apply tidy2_ite) | with_reducible (fail_if_no_progress apply tidy_mk) | with_reducible (first | refine of1 ?_ (by assumption) | refine of2 ?_ (by assumption) | refine ofS ?_ (by assumption) | refine ofS1 ?_ (by assumption) | refine ofS2 ?_ (by assumption) | refine ofS3 ?_ (by assumption) | refine of3 ?_ (by assumption)) | dsimp only)

theorem State.applyFloorRaise_tidy {pq} {s : State} {item : Bytes} (hs : Tidy pq s) : Tidy1 pq (State.applyFloorRaise s item) := by
  unfold State.applyFloorRaise
  repeat' (first | with_reducible assumption | (extract_lets +onlyGivenNames zz; first | (refine (fun (hz : Tidy pq zz) => ?_) ?_; (on_goal 1 => (try clear_value zz; rename' zz => zy, hz => hy)); (on_goal 2 => subst zz)) | (try clear_value zz; rename' zz => zy)) | with_reducible (first | apply State.dirFind_tidy | apply State.setRec_tidy | apply State.touch_tidy | apply tidy1_mk | apply tidy2_mk | apply tidyS_none | apply tidyS_some | apply tidyS1_none | apply tidyS2_none) | with_reducible (apply tidy_fst; first | apply State.dirFind_tidy) | split | with_reducible (fail_if_no_progress apply tidy_mk) | with_reducible (first | refine of1 ?_ (by assumption) | refine of2 ?_ (by assumption) | refine ofS ?_ (by assumption) | refine ofS1 ?_ (by assumption) | refine ofS2 ?_ (by assumption) | refine ofS3 ?_ (by assumption) | refine of3 ?_ (by assumption)) | dsimp only)

theorem State.replicaChange_tidy {pq} {s : State} {item : Bytes} (hs : Tidy pq s) : Tidy1 pq (State.replicaChange s item) := by
  unfold State.replicaChange
  repeat' (first | with_reducible assumption | (extract_lets +onlyGivenNames zz; first | (refine (fun (hz : Tidy pq zz) => ?_) ?_; (on_goal 1 => (try clear_value zz; rename' zz => zy, hz => hy)); (on_goal 2 => subst zz)) | (try clear_value zz; rename' zz => zy)) | with_reducible (first | apply State.dirFind_tidy | apply State.dirPlace_tidy | apply State.dirRemove_tidy | apply tidy1_mk | apply tidy2_mk | apply tidyS_none | apply tidyS_some | apply tidyS1_none | apply tidyS2_none) | with_reducible (apply tidy_fst; first | apply State.dirFind_tidy | apply State.dirPlace_tidy) | split | with_reducible (fail_if_no_progress apply tidy_mk) | with_reducible (first | refine of1 ?_ (by assumption) | refine of2 ?_ (by assumption) | refine ofS ?_ (by assumption) | refine ofS1 ?_ (by assumption) | refine ofS2 ?_ (by assumption) | refine ofS3 ?_ (by assumption) | refine of3 ?_ (by assumption)) | dsimp only)

theorem State.applyDirCmd_tidy {pq} {s : State} {item : Bytes} {src order : ℕ} (hs : Tidy pq s) : Tidy1 pq (State.applyDirCmd s item src order) := by
  unfold State.applyDirCmd
  repeat' (first | with_reducible assumption | with_reducible intro _ | (extract_lets +onlyGivenNames zz; first | (refine (fun (hz : Tidy pq zz) => ?_) ?_; (on_goal 1 => (try clear_value zz; rename' zz => zy, hz => hy)); (on_goal 2 => subst zz)) | (try clear_value zz; rename' zz => zy)) | with_reducible (first | apply State.replicaChange_tidy | apply State.applyRecWrite_tidy | apply State.applyRouteSet_tidy | apply State.applyRouteDel_tidy | apply State.applyTokenAdd_tidy | apply State.applyFloorRaise_tidy | apply State.applyInsert_tidy | apply State.applyDelete_tidy | apply tidy1_mk | apply tidy2_mk | apply map_tidyS | apply map_tidyS_of2 | apply map_tidyS_any | apply tidy_getD) | with_reducible (apply tidy_fst; first | apply State.replicaChange_tidy | apply State.applyRecWrite_tidy | apply State.applyRouteSet_tidy | apply State.applyRouteDel_tidy | apply State.applyTokenAdd_tidy | apply State.applyFloorRaise_tidy | apply tidy1_ite) | with_reducible (apply tidy_snd; first | apply tidy2_ite) | split | with_reducible (first | apply tidy_ite | apply tidy1_ite | apply tidy2_ite | apply tidyS_ite) | with_reducible (fail_if_no_progress apply tidy_mk) | with_reducible (first | refine of1 ?_ (by assumption) | refine of2 ?_ (by assumption) | refine ofS ?_ (by assumption) | refine ofS1 ?_ (by assumption) | refine ofS2 ?_ (by assumption) | refine ofS3 ?_ (by assumption) | refine of3 ?_ (by assumption)) | dsimp only)

theorem State.roleCounts_tidy {pq} {s : State} {m node role : Nat} {add : Bool} (hs : Tidy pq s) : Tidy pq (State.roleCounts s m node role add) := by
  unfold State.roleCounts
  extract_lets +onlyGivenNames bump
  have hb : ∀ {t n off hi}, Tidy pq t → Tidy pq (bump t n off hi) := fun h => State.setNode_tidy h
  refine tidy_ite (hb hs) (tidy_ite ?_ hs)
  extract_lets +onlyGivenNames t
  have ht : Tidy pq t := State.setNode_tidy hs
  split
  · exact hb ht
  · exact ht

theorem State.applyAssign_tidy {pq} {s : State} {item : Bytes} (hs : Tidy pq s) : Tidy1 pq (State.applyAssign s item) := by
  unfold State.applyAssign
  repeat' (first | with_reducible assumption | (extract_lets +onlyGivenNames zz; first | (refine (fun (hz : Tidy pq zz) => ?_) ?_; (on_goal 1 => (try clear_value zz; rename' zz => zy, hz => hy)); (on_goal 2 => subst zz)) | (refine (fun (hz : ∀ t, Tidy pq t → Tidy pq (zz t)) => ?_) ?_; (on_goal 1 => (try clear_value zz; rename' zz => zy, hz => hf)); (on_goal 2 => (subst zz; intro _ _; beta_reduce))) | (refine (fun (hz : ∀ t, Tidy pq (zz t)) => ?_) ?_; (on_goal 1 => (try clear_value zz; rename' zz => zy, hz => hf)); (on_goal 2 => (subst zz; intro _; beta_reduce))) | (try clear_value zz; rename' zz => zy)) | with_reducible (first | apply tidy_ite | apply tidy1_ite | apply tidy2_ite | apply State.balEarly_tidy | apply State.touch_tidy | apply State.roleCounts_tidy | apply State.setF_tidy | apply State.write_tidy | apply State.setRec_tidy | apply tidy1_mk | apply tidy2_mk) | with_reducible (apply tidy_fst; first | apply tidy1_ite) | with_reducible (apply tidy_snd; first | apply tidy2_ite) | with_reducible (apply hf) | with_reducible (first | refine of1 ?_ (by assumption) | refine of2 ?_ (by assumption) | refine ofS ?_ (by assumption) | refine ofS1 ?_ (by assumption) | refine ofS2 ?_ (by assumption) | refine ofS3 ?_ (by assumption) | refine of3 ?_ (by assumption)) | dsimp only)

theorem State.applyAuditReset_tidy {pq} {s : State} {item : Bytes} {order : ℕ} (hs : Tidy pq s) : Tidy1 pq (State.applyAuditReset s item order) := by
  unfold State.applyAuditReset
  repeat' (first | with_reducible assumption | (extract_lets +onlyGivenNames zz; first | (refine (fun (hz : Tidy pq zz) => ?_) ?_; (on_goal 1 => (try clear_value zz; rename' zz => zy, hz => hy)); (on_goal 2 => subst zz)) | (refine (fun (hz : ∀ t, Tidy pq t → Tidy pq (zz t)) => ?_) ?_; (on_goal 1 => (try clear_value zz; rename' zz => zy, hz => hf)); (on_goal 2 => (subst zz; intro _ _; beta_reduce))) | (refine (fun (hz : ∀ t, Tidy pq (zz t)) => ?_) ?_; (on_goal 1 => (try clear_value zz; rename' zz => zy, hz => hf)); (on_goal 2 => (subst zz; intro _; beta_reduce))) | (try clear_value zz; rename' zz => zy)) | with_reducible (first | apply tidy_ite | apply tidy1_ite | apply tidy2_ite | apply State.balEarly_tidy | apply State.touch_tidy | apply State.setF_tidy | apply State.setAudit_tidy | apply State.setBypass_tidy | apply State.write_tidy | apply tidy1_mk | apply tidy2_mk) | with_reducible (apply tidy_fst; first | apply tidy1_ite) | with_reducible (apply tidy_snd; first | apply tidy2_ite) | with_reducible (apply hf) | with_reducible (first | refine of1 ?_ (by assumption) | refine of2 ?_ (by assumption) | refine ofS ?_ (by assumption) | refine ofS1 ?_ (by assumption) | refine ofS2 ?_ (by assumption) | refine ofS3 ?_ (by assumption) | refine of3 ?_ (by assumption)) | dsimp only)

theorem State.applyNodeSet_tidy {pq} {s : State} {item : Bytes} (hs : Tidy pq s) : Tidy1 pq (State.applyNodeSet s item) := by
  unfold State.applyNodeSet
  repeat' (first | with_reducible assumption | with_reducible intro _ | (extract_lets +onlyGivenNames zz; first | (refine (fun (hz : Tidy pq zz) => ?_) ?_; (on_goal 1 => (try clear_value zz; rename' zz => zy, hz => hy)); (on_goal 2 => subst zz)) | (refine (fun (hz : ∀ t, Tidy pq t → Tidy pq (zz t)) => ?_) ?_; (on_goal 1 => (try clear_value zz; rename' zz => zy, hz => hf)); (on_goal 2 => (subst zz; intro _ _; beta_reduce))) | (refine (fun (hz : ∀ t, Tidy pq (zz t)) => ?_) ?_; (on_goal 1 => (try clear_value zz; rename' zz => zy, hz => hf)); (on_goal 2 => (subst zz; intro _; beta_reduce))) | (try clear_value zz; rename' zz => zy)) | with_reducible (first | apply foldl_tidy | apply foldl_tidy1 | apply State.roleCounts_tidy | apply State.count_tidy | apply State.write_tidy | apply State.setNode_tidy | apply State.markRev_tidy | apply tidy1_mk | apply tidy2_mk) | with_reducible (apply tidy_fst; first | apply foldl_tidy1 | apply tidy1_ite) | with_reducible (apply tidy_snd; first | apply foldl_tidy2 | apply tidy2_ite) | split | with_reducible (first | apply tidy_ite | apply tidy1_ite | apply tidy2_ite) | with_reducible (fail_if_no_progress apply tidy_mk) | with_reducible (apply hf) | with_reducible (first | refine of1 ?_ (by assumption) | refine of2 ?_ (by assumption) | refine ofS ?_ (by assumption) | refine ofS1 ?_ (by assumption) | refine ofS2 ?_ (by assumption) | refine ofS3 ?_ (by assumption) | refine of3 ?_ (by assumption)) | dsimp only)

theorem State.applyNodeDel_tidy {pq} {s : State} {item : Bytes} (hs : Tidy pq s) : Tidy1 pq (State.applyNodeDel s item) := by
  unfold State.applyNodeDel
  repeat' (first | with_reducible assumption | (extract_lets +onlyGivenNames zz; first | (refine (fun (hz : Tidy pq zz) => ?_) ?_; (on_goal 1 => (try clear_value zz; rename' zz => zy, hz => hy)); (on_goal 2 => subst zz)) | (refine (fun (hz : ∀ t, Tidy pq t → Tidy pq (zz t)) => ?_) ?_; (on_goal 1 => (try clear_value zz; rename' zz => zy, hz => hf)); (on_goal 2 => (subst zz; intro _ _; beta_reduce))) | (refine (fun (hz : ∀ t, Tidy pq (zz t)) => ?_) ?_; (on_goal 1 => (try clear_value zz; rename' zz => zy, hz => hf)); (on_goal 2 => (subst zz; intro _; beta_reduce))) | (try clear_value zz; rename' zz => zy)) | with_reducible (first | apply tidy_ite | apply tidy1_ite | apply tidy2_ite | apply State.write_tidy | apply State.closeEarly_tidy | apply State.setF_tidy | apply tidy1_mk | apply tidy2_mk) | with_reducible (apply tidy_fst; first | apply tidy1_ite) | with_reducible (apply tidy_snd; first | apply tidy2_ite) | with_reducible (apply hf) | with_reducible (first | refine of1 ?_ (by assumption) | refine of2 ?_ (by assumption) | refine ofS ?_ (by assumption) | refine ofS1 ?_ (by assumption) | refine ofS2 ?_ (by assumption) | refine ofS3 ?_ (by assumption) | refine of3 ?_ (by assumption)) | dsimp only)

theorem State.applyBalCmd_tidy {pq} {s : State} {item : Bytes} {order : ℕ} (hs : Tidy pq s) : Tidy1 pq (State.applyBalCmd s item order) := by
  unfold State.applyBalCmd
  repeat' (first | with_reducible assumption | with_reducible (first | apply State.applyNodeSet_tidy | apply State.applyNodeDel_tidy | apply State.applyAssign_tidy | apply State.applyAuditReset_tidy | apply tidy1_mk | apply tidy2_mk) | with_reducible (apply tidy_fst; first | apply State.applyNodeSet_tidy | apply State.applyNodeDel_tidy | apply State.applyAssign_tidy | apply State.applyAuditReset_tidy) | split | with_reducible (fail_if_no_progress apply tidy_mk) | with_reducible (first | refine of1 ?_ (by assumption) | refine of2 ?_ (by assumption) | refine ofS ?_ (by assumption) | refine ofS1 ?_ (by assumption) | refine ofS2 ?_ (by assumption) | refine ofS3 ?_ (by assumption) | refine of3 ?_ (by assumption)) | dsimp only)

theorem State.noteWait_tidy {pq} {s : State} {o : Ordered} (hs : Tidy pq s) : Tidy pq (State.noteWait s o) := by
  unfold State.noteWait
  repeat' (first | with_reducible assumption | with_reducible (first | apply State.irq_tidy | apply State.setF_tidy) | split | with_reducible (first | apply tidy_ite) | with_reducible (fail_if_no_progress apply tidy_mk) | with_reducible (first | refine of1 ?_ (by assumption) | refine of2 ?_ (by assumption) | refine ofS ?_ (by assumption) | refine ofS1 ?_ (by assumption) | refine ofS2 ?_ (by assumption) | refine ofS3 ?_ (by assumption) | refine of3 ?_ (by assumption)) | dsimp only)

theorem State.applyItem_tidy {pq} {s : State} {n : ℕ} {o : Ordered} (hs : Tidy pq s) : Tidy1 pq (State.applyItem s n o) := by
  unfold State.applyItem
  repeat' (first | with_reducible assumption | with_reducible intro _ | (extract_lets +onlyGivenNames zz; first | (refine (fun (hz : Tidy pq zz) => ?_) ?_; (on_goal 1 => (try clear_value zz; rename' zz => zy, hz => hy)); (on_goal 2 => subst zz)) | (try clear_value zz; rename' zz => zy)) | with_reducible (first | apply State.applyDirCmd_tidy | apply State.applyBalCmd_tidy | apply State.applyToken_tidy | apply State.err_tidy | apply State.enq_tidy | apply State.applyMarker_tidy | apply State.applyDemand_tidy | apply State.applyClose_tidy | apply State.applyCkpt_tidy | apply State.applyJoin_tidy | apply State.applyTxn_tidy | apply tidy1_mk | apply tidy2_mk) | with_reducible (apply tidy_fst; first | apply State.applyDirCmd_tidy | apply State.applyBalCmd_tidy | apply State.applyToken_tidy | apply tidy1_ite) | with_reducible (apply tidy_snd; first | apply tidy2_ite) | split | with_reducible (first | apply tidy_ite | apply tidy1_ite | apply tidy2_ite) | with_reducible (fail_if_no_progress apply tidy_mk) | with_reducible (first | refine of1 ?_ (by assumption) | refine of2 ?_ (by assumption) | refine ofS ?_ (by assumption) | refine ofS1 ?_ (by assumption) | refine ofS2 ?_ (by assumption) | refine ofS3 ?_ (by assumption) | refine of3 ?_ (by assumption)) | dsimp only)

theorem State.commitItem_tidy {pq} {s : State} {n : ℕ} {fl : Flight} {o : Ordered} (hs : Tidy pq s) : Tidy pq (State.commitItem s n fl o) := by
  unfold State.commitItem
  repeat' (first | with_reducible assumption | (extract_lets +onlyGivenNames zz; first | (refine (fun (hz : Tidy pq zz) => ?_) ?_; (on_goal 1 => (try clear_value zz; rename' zz => zy, hz => hy)); (on_goal 2 => subst zz)) | (try clear_value zz; rename' zz => zy)) | with_reducible (first | apply State.applyItem_tidy | apply State.release_tidy | apply State.endFlight_tidy | apply State.placeCommit_tidy | apply tidy1_mk | apply tidy2_mk) | with_reducible (apply tidy_fst; first | apply State.applyItem_tidy) | with_reducible (first | refine of1 ?_ (by assumption) | refine of2 ?_ (by assumption) | refine ofS ?_ (by assumption) | refine ofS1 ?_ (by assumption) | refine ofS2 ?_ (by assumption) | refine ofS3 ?_ (by assumption) | refine of3 ?_ (by assumption)) | dsimp only)

theorem execLadleCommitHead_tidy {pq} {slotParityOk entriesIntact : Bool} {s : State} (hs : Tidy pq s) : TidyO pq (execLadleCommitHead slotParityOk entriesIntact s) := by
  unfold execLadleCommitHead
  repeat' (first | with_reducible assumption | with_reducible intro _ | (extract_lets +onlyGivenNames zz; first | (refine (fun (hz : Tidy pq zz) => ?_) ?_; (on_goal 1 => (try clear_value zz; rename' zz => zy, hz => hy)); (on_goal 2 => subst zz)) | (try clear_value zz; rename' zz => zy)) | with_reducible (first | apply idle_tidy | apply State.withDram_tidy | apply State.eccCorrect_tidy | apply State.noteWait_tidy | apply State.commitItem_tidy | apply State.err_tidy | apply State.rerunFrame_tidy | apply State.setFlight_tidy | apply State.release_tidy | apply State.dropAtHead_tidy | apply State.decideFrame_tidy | apply tidyO_next | apply tidy1_mk | apply tidy2_mk | apply tidyS_none | apply tidyS_some | apply tidyS1_none | apply tidyS2_none) | split | with_reducible (first | apply tidy_ite | apply tidyO_ite) | with_reducible (fail_if_no_progress apply tidy_mk) | with_reducible (first | refine of1 ?_ (by assumption) | refine of2 ?_ (by assumption) | refine ofS ?_ (by assumption) | refine ofS1 ?_ (by assumption) | refine ofS2 ?_ (by assumption) | refine ofS3 ?_ (by assumption) | refine of3 ?_ (by assumption)) | dsimp only)

end Sys2Proof.Machine
end

