-- ==== Sys2Proof/Laws/TidyEngines.lean ====
section
/-! SUPPORT. Tidy states stay tidy: the operations of Directory, Balance, Billing, PowerDown, KeyCmd, Tamper, Trivet, CiphJobs, Panel, FtlOps. One lemma for each operation, proved from the lemmas of the operations it calls. -/

set_option linter.unusedVariables false
set_option linter.unusedTactic false
set_option linter.unreachableTactic false
set_option linter.tactic.unusedName false

namespace Sys2Proof.Machine

/-! ## Directory -/

theorem State.submit_tidy {pq} {s : State} {q : ℕ} {x : Submission} {body : Payload} (hs : Tidy pq s) : Tidy pq (State.submit s q x body) := by
  unfold State.submit
  repeat' (first | with_reducible assumption | with_reducible intro _ | with_reducible (first | apply tidy_ite | apply State.onWrite_tidy | apply State.enq_tidy | apply tidy1_mk | apply tidy2_mk))

theorem State.dirDone_tidy {pq} {s : State} {b : Bytes} {st hit w3 : ℕ} (hs : Tidy pq s) : Tidy pq (State.dirDone s b st hit w3) := by
  unfold State.dirDone
  repeat' (first | with_reducible assumption | with_reducible (first | apply State.enq_tidy))

theorem State.dirFail_tidy {pq} {s : State} {b : Bytes} {st : ℕ} (hs : Tidy pq s) : Tidy pq (State.dirFail s b st) := by
  unfold State.dirFail
  repeat' (first | with_reducible assumption | with_reducible (first | apply State.dirDone_tidy | apply State.err_tidy))

theorem State.dirOrder_tidy {pq} {s : State} {b : Bytes} {x : ℕ} (hs : Tidy pq s) : Tidy pq (State.dirOrder s b x) := by
  unfold State.dirOrder
  repeat' (first | with_reducible assumption | with_reducible (first | apply State.enq_tidy))

theorem State.dirFront_tidy {pq} {s : State} {op : ℕ} (hs : Tidy pq s) : TidyS3 pq (State.dirFront s op) := by
  unfold State.dirFront
  repeat' (first | with_reducible assumption | with_reducible intro _ | with_reducible (first | apply State.deq_tidy | apply tidy1_mk | apply tidy2_mk | apply tidy3_mk | apply map_tidyS | apply map_tidyS_of2 | apply map_tidyS_any | apply map_tidyS3 | apply tidyS_none | apply tidyS_some | apply tidyS1_none | apply tidyS2_none | apply tidyS3_some | apply tidyS3_none) | with_reducible (apply tidy_fst; first | apply tidy1_ite) | with_reducible (apply tidy_snd; first | apply tidy2_ite) | split | with_reducible (first | apply tidy_ite | apply tidy1_ite | apply tidy2_ite) | with_reducible (fail_if_no_progress apply tidy_mk) | with_reducible (first | refine of1 ?_ (by assumption) | refine of2 ?_ (by assumption) | refine ofS ?_ (by assumption) | refine ofS1 ?_ (by assumption) | refine ofS2 ?_ (by assumption) | refine ofS3 ?_ (by assumption) | refine of3 ?_ (by assumption)) | dsimp only)

theorem State.dirCommand_tidy {pq} {s : State} {op : ℕ} {sub : Option Submission} {k : State → Bytes → State} (hs : Tidy pq s) (hk : ∀ t e1, Tidy pq t → Tidy pq (k t e1)) : Tidy pq (State.dirCommand s op sub k) := by
  unfold State.dirCommand
  repeat' (first | with_reducible assumption | (extract_lets +onlyGivenNames zz; first | (refine (fun (hz : Tidy pq zz) => ?_) ?_; (on_goal 1 => (try clear_value zz; rename' zz => zy, hz => hy)); (on_goal 2 => subst zz)) | (try clear_value zz; rename' zz => zy)) | with_reducible (first | apply State.submit_tidy | apply State.pumpMessages_tidy | apply State.dirDone_tidy | apply State.err_tidy | apply State.dirFail_tidy | apply State.dirFront_tidy | apply State.needDom_tidy | apply tidy1_mk | apply tidy2_mk | apply tidyS_none | apply tidyS_some | apply tidyS1_none | apply tidyS2_none) | with_reducible (apply tidy_fst; first | apply tidy1_ite) | with_reducible (apply tidy_snd; first | apply tidy2_ite) | split | with_reducible (first | apply tidy_ite | apply tidy1_ite | apply tidy2_ite) | with_reducible (fail_if_no_progress apply tidy_mk) | with_reducible (first | apply hk) | with_reducible (first | refine of1 ?_ (by assumption) | refine of2 ?_ (by assumption) | refine ofS ?_ (by assumption) | refine ofS1 ?_ (by assumption) | refine ofS2 ?_ (by assumption) | refine ofS3 ?_ (by assumption) | refine of3 ?_ (by assumption)) | dsimp only)

theorem State.dirInsert_tidy {pq} {s : State} {b : Bytes} (hs : Tidy pq s) : Tidy pq (State.dirInsert s b) := by
  unfold State.dirInsert
  repeat' (first | with_reducible assumption | (extract_lets +onlyGivenNames zz; first | (refine (fun (hz : Tidy pq zz) => ?_) ?_; (on_goal 1 => (try clear_value zz; rename' zz => zy, hz => hy)); (on_goal 2 => subst zz)) | (try clear_value zz; rename' zz => zy)) | with_reducible (first | apply State.dirFind_tidy | apply State.dirPlace_tidy | apply State.dirFail_tidy | apply State.irq_tidy | apply State.dirOrder_tidy | apply tidy1_mk | apply tidy2_mk | apply tidyS_none | apply tidyS_some | apply tidyS1_none | apply tidyS2_none) | with_reducible (apply tidy_fst; first | apply State.dirFind_tidy | apply State.dirPlace_tidy | apply tidy1_ite) | with_reducible (apply tidy_snd; first | apply tidy2_ite) | split | with_reducible (first | apply tidy_ite | apply tidy1_ite | apply tidy2_ite) | with_reducible (fail_if_no_progress apply tidy_mk) | with_reducible (first | refine of1 ?_ (by assumption) | refine of2 ?_ (by assumption) | refine ofS ?_ (by assumption) | refine ofS1 ?_ (by assumption) | refine ofS2 ?_ (by assumption) | refine ofS3 ?_ (by assumption) | refine of3 ?_ (by assumption)) | dsimp only)

theorem execDirInsert_tidy {pq} {sub : Option Submission} {s : State} (hs : Tidy pq s) : TidyO pq (execDirInsert sub s) := by
  unfold execDirInsert
  repeat' (first | with_reducible assumption | with_reducible intro _ | with_reducible (first | apply State.dirCommand_tidy | apply State.dirInsert_tidy | apply tidyO_next | apply idle_tidy) | with_reducible (fail_if_no_progress apply tidy_mk))

theorem State.dirDelete_tidy {pq} {s : State} {b : Bytes} (hs : Tidy pq s) : Tidy pq (State.dirDelete s b) := by
  unfold State.dirDelete
  repeat' (first | with_reducible assumption | (extract_lets +onlyGivenNames zz; first | (refine (fun (hz : Tidy pq zz) => ?_) ?_; (on_goal 1 => (try clear_value zz; rename' zz => zy, hz => hy)); (on_goal 2 => subst zz)) | (try clear_value zz; rename' zz => zy)) | with_reducible (first | apply State.dirFind_tidy | apply State.dirFail_tidy | apply State.dirOrder_tidy | apply State.dirRemove_tidy | apply tidy1_mk | apply tidy2_mk | apply tidyS_none | apply tidyS_some | apply tidyS1_none | apply tidyS2_none) | with_reducible (apply tidy_fst; first | apply State.dirFind_tidy) | split | with_reducible (fail_if_no_progress apply tidy_mk) | with_reducible (first | refine of1 ?_ (by assumption) | refine of2 ?_ (by assumption) | refine ofS ?_ (by assumption) | refine ofS1 ?_ (by assumption) | refine ofS2 ?_ (by assumption) | refine ofS3 ?_ (by assumption) | refine of3 ?_ (by assumption)) | dsimp only)

theorem execDirDelete_tidy {pq} {sub : Option Submission} {s : State} (hs : Tidy pq s) : TidyO pq (execDirDelete sub s) := by
  unfold execDirDelete
  repeat' (first | with_reducible assumption | with_reducible intro _ | with_reducible (first | apply State.dirCommand_tidy | apply State.dirDelete_tidy | apply tidyO_next | apply idle_tidy) | with_reducible (fail_if_no_progress apply tidy_mk))

theorem execDirRecWrite_tidy {pq} {sub : Option Submission} {s : State} (hs : Tidy pq s) : TidyO pq (execDirRecWrite sub s) := by
  unfold execDirRecWrite
  repeat' (first | with_reducible assumption | with_reducible intro _ | with_reducible (first | apply State.dirCommand_tidy | apply State.dirOrder_tidy | apply tidyO_next | apply idle_tidy))

theorem execDirRouteSet_tidy {pq} {sub : Option Submission} {s : State} (hs : Tidy pq s) : TidyO pq (execDirRouteSet sub s) := by
  unfold execDirRouteSet
  repeat' (first | with_reducible assumption | with_reducible intro _ | with_reducible (first | apply State.dirCommand_tidy | apply State.dirOrder_tidy | apply tidyO_next | apply idle_tidy))

theorem execDirRouteDel_tidy {pq} {sub : Option Submission} {s : State} (hs : Tidy pq s) : TidyO pq (execDirRouteDel sub s) := by
  unfold execDirRouteDel
  repeat' (first | with_reducible assumption | with_reducible intro _ | with_reducible (first | apply State.dirCommand_tidy | apply State.dirOrder_tidy | apply tidyO_next | apply idle_tidy))

theorem State.dirLearn_tidy {pq} {s : State} {b : Bytes} (hs : Tidy pq s) : Tidy pq (State.dirLearn s b) := by
  unfold State.dirLearn
  repeat' (first | with_reducible assumption | with_reducible (first | apply tidy_ite | apply State.dirOrder_tidy | apply State.dirFail_tidy))

theorem execDirTokenAdd_tidy {pq} {sub : Option Submission} {s : State} (hs : Tidy pq s) : TidyO pq (execDirTokenAdd sub s) := by
  unfold execDirTokenAdd
  repeat' (first | with_reducible assumption | with_reducible intro _ | with_reducible (first | apply State.dirCommand_tidy | apply State.dirLearn_tidy | apply tidyO_next | apply idle_tidy) | with_reducible (fail_if_no_progress apply tidy_mk))

theorem execDirFloorRaise_tidy {pq} {sub : Option Submission} {s : State} (hs : Tidy pq s) : TidyO pq (execDirFloorRaise sub s) := by
  unfold execDirFloorRaise
  repeat' (first | with_reducible assumption | with_reducible intro _ | with_reducible (first | apply State.dirCommand_tidy | apply State.dirLearn_tidy | apply tidyO_next | apply idle_tidy) | with_reducible (fail_if_no_progress apply tidy_mk))

theorem State.dirRead_tidy {pq} {s : State} {b : Bytes} (hs : Tidy pq s) : Tidy pq (State.dirRead s b) := by
  unfold State.dirRead
  repeat' (first | with_reducible assumption | with_reducible intro _ | (extract_lets +onlyGivenNames zz; first | (refine (fun (hz : Tidy pq zz) => ?_) ?_; (on_goal 1 => (try clear_value zz; rename' zz => zy, hz => hy)); (on_goal 2 => subst zz)) | (try clear_value zz; rename' zz => zy)) | with_reducible (first | apply State.set2_tidy | apply State.dirDone_tidy | apply State.readBucket_tidy | apply State.dirFind_tidy | apply tidy1_mk | apply tidy2_mk | apply tidyS_none | apply tidyS_some | apply tidyS1_none | apply tidyS2_none) | with_reducible (apply tidy_fst; first | apply State.dirFind_tidy) | split | with_reducible (fail_if_no_progress apply tidy_mk) | with_reducible (first | refine of1 ?_ (by assumption) | refine of2 ?_ (by assumption) | refine ofS ?_ (by assumption) | refine ofS1 ?_ (by assumption) | refine ofS2 ?_ (by assumption) | refine ofS3 ?_ (by assumption) | refine of3 ?_ (by assumption)) | dsimp only)

theorem execDirLookupCmd_tidy {pq} {sub : Option Submission} {s : State} (hs : Tidy pq s) : TidyO pq (execDirLookupCmd sub s) := by
  unfold execDirLookupCmd
  repeat' (first | with_reducible assumption | with_reducible intro _ | with_reducible (first | apply State.dirCommand_tidy | apply State.dirRead_tidy | apply tidyO_next | apply idle_tidy) | with_reducible (fail_if_no_progress apply tidy_mk))

theorem State.dirLock_tidy {pq} {s : State} {b : Bytes} (hs : Tidy pq s) : Tidy pq (State.dirLock s b) := by
  unfold State.dirLock
  repeat' (first | with_reducible assumption | (extract_lets +onlyGivenNames zz; first | (refine (fun (hz : Tidy pq zz) => ?_) ?_; (on_goal 1 => (try clear_value zz; rename' zz => zy, hz => hy)); (on_goal 2 => subst zz)) | (try clear_value zz; rename' zz => zy)) | with_reducible (first | apply tidy_ite | apply State.dirFail_tidy | apply State.dirDone_tidy | apply State.setHeader_tidy | apply tidy1_mk | apply tidy2_mk) | with_reducible (fail_if_no_progress apply tidy_mk) | with_reducible (first | refine of1 ?_ (by assumption) | refine of2 ?_ (by assumption) | refine ofS ?_ (by assumption) | refine ofS1 ?_ (by assumption) | refine ofS2 ?_ (by assumption) | refine ofS3 ?_ (by assumption) | refine of3 ?_ (by assumption)) | dsimp only)

theorem execDirLock_tidy {pq} {sub : Option Submission} {s : State} (hs : Tidy pq s) : TidyO pq (execDirLock sub s) := by
  unfold execDirLock
  repeat' (first | with_reducible assumption | with_reducible intro _ | with_reducible (first | apply State.dirCommand_tidy | apply State.dirLock_tidy | apply tidyO_next | apply idle_tidy) | with_reducible (fail_if_no_progress apply tidy_mk))

theorem State.clearSuspect_tidy {pq} {s : State} {b : ℕ} (hs : Tidy pq s) : Tidy pq (State.clearSuspect s b) := by
  unfold State.clearSuspect
  repeat' (first | with_reducible assumption | with_reducible (first | apply tidy_ite | apply State.lowerF_tidy | apply State.setHeader_tidy))

theorem State.dirRelease_tidy {pq} {s : State} {t k : ℕ} (hs : Tidy pq s) : Tidy pq (State.dirRelease s t k) := by
  unfold State.dirRelease
  repeat' (first | with_reducible assumption | with_reducible intro _ | (extract_lets +onlyGivenNames zz; first | (refine (fun (hz : Tidy pq zz) => ?_) ?_; (on_goal 1 => (try clear_value zz; rename' zz => zy, hz => hy)); (on_goal 2 => subst zz)) | (try clear_value zz; rename' zz => zy)) | with_reducible (first | apply tidy_ite | apply tidy1_ite | apply tidy2_ite | apply foldl_tidy | apply foldl_tidy1 | apply State.setHeader_tidy | apply State.clearSuspect_tidy | apply State.learnRoute_tidy | apply tidy1_mk | apply tidy2_mk) | with_reducible (apply tidy_fst; first | apply State.learnRoute_tidy | apply foldl_tidy1 | apply tidy1_ite) | with_reducible (apply tidy_snd; first | apply foldl_tidy2 | apply tidy2_ite) | with_reducible (fail_if_no_progress apply tidy_mk) | with_reducible (first | refine of1 ?_ (by assumption) | refine of2 ?_ (by assumption) | refine ofS ?_ (by assumption) | refine ofS1 ?_ (by assumption) | refine ofS2 ?_ (by assumption) | refine ofS3 ?_ (by assumption) | refine of3 ?_ (by assumption)) | dsimp only)

theorem State.dirUnlock_tidy {pq} {s : State} {b : Bytes} (hs : Tidy pq s) : Tidy pq (State.dirUnlock s b) := by
  unfold State.dirUnlock
  repeat' (first | with_reducible assumption | with_reducible intro _ | (extract_lets +onlyGivenNames zz; first | (refine (fun (hz : Tidy pq zz) => ?_) ?_; (on_goal 1 => (try clear_value zz; rename' zz => zy, hz => hy)); (on_goal 2 => subst zz)) | (refine (fun (hz : ∀ t, Tidy pq t → Tidy pq (zz t)) => ?_) ?_; (on_goal 1 => (try clear_value zz; rename' zz => zy, hz => hf)); (on_goal 2 => (subst zz; intro _ _; beta_reduce))) | (refine (fun (hz : ∀ t, Tidy pq (zz t)) => ?_) ?_; (on_goal 1 => (try clear_value zz; rename' zz => zy, hz => hf)); (on_goal 2 => (subst zz; intro _; beta_reduce))) | (try clear_value zz; rename' zz => zy)) | with_reducible (first | apply tidy_ite | apply tidy1_ite | apply tidy2_ite | apply State.readBucket_tidy | apply State.dirRelease_tidy | apply State.dirFail_tidy | apply State.dirDone_tidy | apply tidy1_mk | apply tidy2_mk) | with_reducible (apply tidy_fst; first | apply tidy1_ite) | with_reducible (apply tidy_snd; first | apply tidy2_ite) | with_reducible (fail_if_no_progress apply tidy_mk) | with_reducible (apply hf) | with_reducible (first | refine of1 ?_ (by assumption) | refine of2 ?_ (by assumption) | refine ofS ?_ (by assumption) | refine ofS1 ?_ (by assumption) | refine ofS2 ?_ (by assumption) | refine ofS3 ?_ (by assumption) | refine of3 ?_ (by assumption)) | dsimp only)

theorem execDirUnlock_tidy {pq} {sub : Option Submission} {s : State} (hs : Tidy pq s) : TidyO pq (execDirUnlock sub s) := by
  unfold execDirUnlock
  repeat' (first | with_reducible assumption | with_reducible intro _ | with_reducible (first | apply State.dirCommand_tidy | apply State.dirUnlock_tidy | apply tidyO_next | apply idle_tidy) | with_reducible (fail_if_no_progress apply tidy_mk))

theorem execDirLockTimeout_tidy {pq} {s : State} (hs : Tidy pq s) : TidyO pq (execDirLockTimeout s) := by
  unfold execDirLockTimeout
  repeat' (first | with_reducible assumption | with_reducible intro _ | (extract_lets +onlyGivenNames zz; first | (refine (fun (hz : Tidy pq zz) => ?_) ?_; (on_goal 1 => (try clear_value zz; rename' zz => zy, hz => hy)); (on_goal 2 => subst zz)) | (refine (fun (hz : ∀ t, Tidy pq t → Tidy pq (zz t)) => ?_) ?_; (on_goal 1 => (try clear_value zz; rename' zz => zy, hz => hf)); (on_goal 2 => (subst zz; intro _ _; beta_reduce))) | (refine (fun (hz : ∀ t, Tidy pq (zz t)) => ?_) ?_; (on_goal 1 => (try clear_value zz; rename' zz => zy, hz => hf)); (on_goal 2 => (subst zz; intro _; beta_reduce))) | (try clear_value zz; rename' zz => zy)) | with_reducible (first | apply idle_tidy | apply State.irq_tidy | apply State.dirRelease_tidy | apply State.err_tidy | apply tidyO_next | apply tidy1_mk | apply tidy2_mk | apply tidyS_none | apply tidyS_some | apply tidyS1_none | apply tidyS2_none) | split | with_reducible (fail_if_no_progress apply tidy_mk) | with_reducible (apply hf) | with_reducible (first | refine of1 ?_ (by assumption) | refine of2 ?_ (by assumption) | refine ofS ?_ (by assumption) | refine ofS1 ?_ (by assumption) | refine ofS2 ?_ (by assumption) | refine ofS3 ?_ (by assumption) | refine of3 ?_ (by assumption)) | dsimp only)

theorem execDirSuspectClr_tidy {pq} {req : Req} {data : Word} {s : State} (hs : Tidy pq s) : TidyO pq (execDirSuspectClr req data s) := by
  unfold execDirSuspectClr
  repeat' (first | with_reducible assumption | with_reducible intro _ | (extract_lets +onlyGivenNames zz; first | (refine (fun (hz : Tidy pq zz) => ?_) ?_; (on_goal 1 => (try clear_value zz; rename' zz => zy, hz => hy)); (on_goal 2 => subst zz)) | (try clear_value zz; rename' zz => zy)) | with_reducible (first | apply tidy_ite | apply tidyO_ite | apply State.onField_tidy | apply State.clearSuspect_tidy | apply tidyO_next | apply idle_tidy) | with_reducible (fail_if_no_progress apply tidy_mk) | with_reducible (first | refine of1 ?_ (by assumption) | refine of2 ?_ (by assumption) | refine ofS ?_ (by assumption) | refine ofS1 ?_ (by assumption) | refine ofS2 ?_ (by assumption) | refine ofS3 ?_ (by assumption) | refine of3 ?_ (by assumption)) | dsimp only)


/-! ## Balance -/

theorem State.balRefuse_tidy {pq} {s : State} {b : Bytes} {st : ℕ} (hs : Tidy pq s) : Tidy pq (State.balRefuse s b st) := by
  unfold State.balRefuse
  repeat' (first | with_reducible assumption | with_reducible (first | apply State.enq_tidy | apply State.err_tidy))

theorem State.balCommand_tidy {pq} {s : State} {op : ℕ} {sub : Option Submission} (hs : Tidy pq s) : Tidy pq (State.balCommand s op sub) := by
  unfold State.balCommand
  repeat' (first | with_reducible assumption | with_reducible intro _ | (extract_lets +onlyGivenNames zz; first | (refine (fun (hz : Tidy pq zz) => ?_) ?_; (on_goal 1 => (try clear_value zz; rename' zz => zy, hz => hy)); (on_goal 2 => subst zz)) | (try clear_value zz; rename' zz => zy)) | with_reducible (first | apply State.submit_tidy | apply State.enq_tidy | apply State.err_tidy | apply State.balRefuse_tidy | apply State.needDom_tidy | apply State.deq_tidy | apply tidy1_mk | apply tidy2_mk | apply bind_tidyS | apply bind_tidyS2 | apply foldl_tidyS | apply tidyS_none | apply tidyS_some | apply tidyS1_none | apply tidyS2_none) | with_reducible (apply tidy_fst; first | apply tidy1_ite) | with_reducible (apply tidy_snd; first | apply tidy2_ite) | split | with_reducible (first | apply tidy_ite | apply tidy1_ite | apply tidy2_ite) | with_reducible (fail_if_no_progress apply tidy_mk) | with_reducible (first | refine of1 ?_ (by assumption) | refine of2 ?_ (by assumption) | refine ofS ?_ (by assumption) | refine ofS1 ?_ (by assumption) | refine ofS2 ?_ (by assumption) | refine ofS3 ?_ (by assumption) | refine of3 ?_ (by assumption)) | dsimp only)

theorem execBalNodeSet_tidy {pq} {sub : Option Submission} {s : State} (hs : Tidy pq s) : TidyO pq (execBalNodeSet sub s) := by
  unfold execBalNodeSet
  repeat' (first | with_reducible assumption | with_reducible (first | apply State.balCommand_tidy | apply tidyO_next | apply idle_tidy))

theorem execBalNodeDel_tidy {pq} {sub : Option Submission} {s : State} (hs : Tidy pq s) : TidyO pq (execBalNodeDel sub s) := by
  unfold execBalNodeDel
  repeat' (first | with_reducible assumption | with_reducible (first | apply State.balCommand_tidy | apply tidyO_next | apply idle_tidy))

theorem execBalMeterAssign_tidy {pq} {sub : Option Submission} {s : State} (hs : Tidy pq s) : TidyO pq (execBalMeterAssign sub s) := by
  unfold execBalMeterAssign
  repeat' (first | with_reducible assumption | with_reducible (first | apply State.balCommand_tidy | apply tidyO_next | apply idle_tidy))

theorem execBalAuditReset_tidy {pq} {sub : Option Submission} {s : State} (hs : Tidy pq s) : TidyO pq (execBalAuditReset sub s) := by
  unfold execBalAuditReset
  repeat' (first | with_reducible assumption | with_reducible (first | apply State.balCommand_tidy | apply tidyO_next | apply idle_tidy))

theorem State.placeMarker_tidy {pq} {s : State} {o : Ordered} (hs : Tidy pq s) : Tidy pq (State.placeMarker s o) := by
  unfold State.placeMarker
  repeat' (first | with_reducible assumption | with_reducible (first | apply State.enq_tidy))

theorem execBalMarkerPlace_tidy {pq} {s : State} (hs : Tidy pq s) : TidyO pq (execBalMarkerPlace s) := by
  unfold execBalMarkerPlace
  repeat' (first | with_reducible assumption | (extract_lets +onlyGivenNames zz; first | (refine (fun (hz : Tidy pq zz) => ?_) ?_; (on_goal 1 => (try clear_value zz; rename' zz => zy, hz => hy)); (on_goal 2 => subst zz)) | (try clear_value zz; rename' zz => zy)) | with_reducible (first | apply tidy_ite | apply tidyO_ite | apply tidyS_ite | apply State.placeMarker_tidy | apply idle_tidy | apply tidyO_next | apply tidy_getD) | with_reducible (fail_if_no_progress apply tidy_mk) | with_reducible (first | refine of1 ?_ (by assumption) | refine of2 ?_ (by assumption) | refine ofS ?_ (by assumption) | refine ofS1 ?_ (by assumption) | refine ofS2 ?_ (by assumption) | refine ofS3 ?_ (by assumption) | refine of3 ?_ (by assumption)) | dsimp only)

theorem State.setSweep_tidy {pq} {s : State} {w : BalSweep} (hs : Tidy pq s) : Tidy pq (State.setSweep s w) := by
  unfold State.setSweep
  repeat' (first | with_reducible assumption | with_reducible (fail_if_no_progress apply tidy_mk))

theorem State.nodePass1_tidy {pq} {s : State} {w : BalSweep} {n : ℕ} {d : Bytes} (hs : Tidy pq s) : Tidy pq (State.nodePass1 s w n d) := by
  unfold State.nodePass1
  repeat' (first | with_reducible assumption | (extract_lets +onlyGivenNames zz; first | (refine (fun (hz : Tidy pq zz) => ?_) ?_; (on_goal 1 => (try clear_value zz; rename' zz => zy, hz => hy)); (on_goal 2 => subst zz)) | (try clear_value zz; rename' zz => zy)) | with_reducible (first | apply State.closeNode_tidy | apply State.setSweep_tidy | apply tidy1_mk | apply tidy2_mk) | split | with_reducible (first | apply tidy_ite) | with_reducible (fail_if_no_progress apply tidy_mk) | with_reducible (first | refine of1 ?_ (by assumption) | refine of2 ?_ (by assumption) | refine ofS ?_ (by assumption) | refine ofS1 ?_ (by assumption) | refine ofS2 ?_ (by assumption) | refine ofS3 ?_ (by assumption) | refine of3 ?_ (by assumption)) | dsimp only)

theorem State.nodePass_tidy {pq} {s : State} {w : BalSweep} (hs : Tidy pq s) : Tidy pq (State.nodePass s w) := by
  unfold State.nodePass
  repeat' (first | with_reducible assumption | with_reducible intro _ | (extract_lets +onlyGivenNames zz; first | (refine (fun (hz : Tidy pq zz) => ?_) ?_; (on_goal 1 => (try clear_value zz; rename' zz => zy, hz => hy)); (on_goal 2 => subst zz)) | (try clear_value zz; rename' zz => zy)) | with_reducible (first | apply foldl_tidy | apply foldl_tidy1 | apply State.nodePass1_tidy | apply State.irq_tidy | apply State.setSweep_tidy) | with_reducible (apply tidy_fst; first | apply foldl_tidy1 | apply tidy1_ite) | with_reducible (apply tidy_snd; first | apply foldl_tidy2 | apply tidy2_ite) | split | with_reducible (first | apply tidy_ite | apply tidy1_ite | apply tidy2_ite) | with_reducible (fail_if_no_progress apply tidy_mk) | with_reducible (first | refine of1 ?_ (by assumption) | refine of2 ?_ (by assumption) | refine ofS ?_ (by assumption) | refine ofS1 ?_ (by assumption) | refine ofS2 ?_ (by assumption) | refine ofS3 ?_ (by assumption) | refine of3 ?_ (by assumption)) | dsimp only)

theorem State.revisePass_tidy {pq} {s : State} (hs : Tidy pq s) : Tidy pq (State.revisePass s) := by
  unfold State.revisePass
  repeat' (first | with_reducible assumption | with_reducible intro _ | with_reducible (first | apply tidy_ite | apply foldl_tidy | apply foldl_tidy1 | apply State.reviseNode_tidy) | with_reducible (apply tidy_fst; first | apply foldl_tidy1) | with_reducible (apply tidy_snd; first | apply foldl_tidy2))

theorem State.nodeWork_tidy {pq} {s : State} (hs : Tidy pq s) : TidyO pq (State.nodeWork s) := by
  unfold State.nodeWork
  repeat' (first | with_reducible assumption | with_reducible (first | apply idle_tidy | apply State.nodePass_tidy | apply State.revisePass_tidy | apply tidyO_next) | split | with_reducible (first | apply tidy_ite | apply tidyO_ite) | with_reducible (fail_if_no_progress apply tidy_mk) | with_reducible (first | refine of1 ?_ (by assumption) | refine of2 ?_ (by assumption) | refine ofS ?_ (by assumption) | refine ofS1 ?_ (by assumption) | refine ofS2 ?_ (by assumption) | refine ofS3 ?_ (by assumption) | refine of3 ?_ (by assumption)) | dsimp only)

theorem execBalNodePass_tidy {pq} {s : State} (hs : Tidy pq s) : TidyO pq (execBalNodePass s) := by
  unfold execBalNodePass
  repeat' (first | with_reducible assumption | with_reducible intro _ | with_reducible (first | apply State.withDram_tidy | apply State.nodeWork_tidy | apply tidyO_next | apply idle_tidy) | with_reducible (fail_if_no_progress apply tidy_mk))

theorem State.meterPassOne_tidy {pq} {s : State} {m : ℕ} (hs : Tidy pq s) : Tidy pq (State.meterPassOne s m) := by
  unfold State.meterPassOne
  repeat' (first | with_reducible assumption | (extract_lets +onlyGivenNames zz; first | (refine (fun (hz : Tidy pq zz) => ?_) ?_; (on_goal 1 => (try clear_value zz; rename' zz => zy, hz => hy)); (on_goal 2 => subst zz)) | (try clear_value zz; rename' zz => zy)) | with_reducible (first | apply State.touch_tidy | apply State.meterPass1_tidy | apply State.setSweep_tidy) | split | with_reducible (first | apply tidy_ite) | with_reducible (fail_if_no_progress apply tidy_mk) | with_reducible (first | refine of1 ?_ (by assumption) | refine of2 ?_ (by assumption) | refine ofS ?_ (by assumption) | refine ofS1 ?_ (by assumption) | refine ofS2 ?_ (by assumption) | refine ofS3 ?_ (by assumption) | refine of3 ?_ (by assumption)) | dsimp only)

theorem State.markSwept_tidy {pq} {s : State} {w : BalSweep} (hs : Tidy pq s) : Tidy pq (State.markSwept s w) := by
  unfold State.markSwept
  repeat' (first | with_reducible assumption | with_reducible intro _ | with_reducible (first | apply tidy_ite | apply tidy1_ite | apply tidy2_ite | apply foldl_tidy | apply foldl_tidy1 | apply State.setSlot_tidy) | with_reducible (apply tidy_fst; first | apply foldl_tidy1 | apply tidy1_ite) | with_reducible (apply tidy_snd; first | apply foldl_tidy2 | apply tidy2_ite))

theorem State.sweepEnd_tidy {pq} {s : State} {w : BalSweep} (hs : Tidy pq s) : Tidy pq (State.sweepEnd s w) := by
  unfold State.sweepEnd
  repeat' (first | with_reducible assumption | (extract_lets +onlyGivenNames zz; first | (refine (fun (hz : Tidy pq zz) => ?_) ?_; (on_goal 1 => (try clear_value zz; rename' zz => zy, hz => hy)); (on_goal 2 => subst zz)) | (try clear_value zz; rename' zz => zy)) | with_reducible (first | apply State.markSwept_tidy | apply State.balReport_tidy | apply State.setF_tidy) | with_reducible (fail_if_no_progress apply tidy_mk) | with_reducible (first | refine of1 ?_ (by assumption) | refine of2 ?_ (by assumption) | refine ofS ?_ (by assumption) | refine ofS1 ?_ (by assumption) | refine ofS2 ?_ (by assumption) | refine ofS3 ?_ (by assumption) | refine of3 ?_ (by assumption)) | dsimp only)

theorem State.meterPass_tidy {pq} {s : State} {w : BalSweep} (hs : Tidy pq s) : Tidy pq (State.meterPass s w) := by
  unfold State.meterPass
  repeat' (first | with_reducible assumption | with_reducible intro _ | (extract_lets +onlyGivenNames zz; first | (refine (fun (hz : Tidy pq zz) => ?_) ?_; (on_goal 1 => (try clear_value zz; rename' zz => zy, hz => hy)); (on_goal 2 => subst zz)) | (try clear_value zz; rename' zz => zy)) | with_reducible (first | apply foldl_tidy | apply foldl_tidy1 | apply State.meterPassOne_tidy | apply State.sweepEnd_tidy) | with_reducible (apply tidy_fst; first | apply foldl_tidy1) | with_reducible (apply tidy_snd; first | apply foldl_tidy2) | split | with_reducible (first | apply tidy_ite) | with_reducible (fail_if_no_progress apply tidy_mk) | with_reducible (first | refine of1 ?_ (by assumption) | refine of2 ?_ (by assumption) | refine ofS ?_ (by assumption) | refine ofS1 ?_ (by assumption) | refine ofS2 ?_ (by assumption) | refine ofS3 ?_ (by assumption) | refine of3 ?_ (by assumption)) | dsimp only)

theorem State.meterWork_tidy {pq} {s : State} (hs : Tidy pq s) : TidyO pq (State.meterWork s) := by
  unfold State.meterWork
  repeat' (first | with_reducible assumption | with_reducible (first | apply idle_tidy | apply State.meterPass_tidy | apply tidyO_next) | split | with_reducible (first | apply tidy_ite | apply tidyO_ite) | with_reducible (fail_if_no_progress apply tidy_mk) | with_reducible (first | refine of1 ?_ (by assumption) | refine of2 ?_ (by assumption) | refine ofS ?_ (by assumption) | refine ofS1 ?_ (by assumption) | refine ofS2 ?_ (by assumption) | refine ofS3 ?_ (by assumption) | refine of3 ?_ (by assumption)) | dsimp only)

theorem execBalMeterPass_tidy {pq} {s : State} (hs : Tidy pq s) : TidyO pq (execBalMeterPass s) := by
  unfold execBalMeterPass
  repeat' (first | with_reducible assumption | with_reducible intro _ | with_reducible (first | apply State.withDram_tidy | apply State.meterWork_tidy | apply tidyO_next | apply idle_tidy) | with_reducible (fail_if_no_progress apply tidy_mk))

theorem execBalSweepResume_tidy {pq} {s : State} (hs : Tidy pq s) : TidyO pq (execBalSweepResume s) := by
  unfold execBalSweepResume
  repeat' (first | with_reducible assumption | with_reducible intro _ | (extract_lets +onlyGivenNames zz; first | (refine (fun (hz : Tidy pq zz) => ?_) ?_; (on_goal 1 => (try clear_value zz; rename' zz => zy, hz => hy)); (on_goal 2 => subst zz)) | (try clear_value zz; rename' zz => zy)) | with_reducible (first | apply idle_tidy | apply State.withDram_tidy | apply State.balFlush_tidy | apply State.meterPass_tidy | apply State.nodePass_tidy | apply tidyO_next | apply tidy1_mk | apply tidy2_mk) | split | with_reducible (first | apply tidy_ite | apply tidyO_ite) | with_reducible (fail_if_no_progress apply tidy_mk) | with_reducible (first | refine of1 ?_ (by assumption) | refine of2 ?_ (by assumption) | refine ofS ?_ (by assumption) | refine ofS1 ?_ (by assumption) | refine ofS2 ?_ (by assumption) | refine ofS3 ?_ (by assumption) | refine of3 ?_ (by assumption)) | dsimp only)


/-! ## Billing -/

theorem execDemandMarkerPlace_tidy {pq} {s : State} (hs : Tidy pq s) : TidyO pq (execDemandMarkerPlace s) := by
  unfold execDemandMarkerPlace
  repeat' (first | with_reducible assumption | (extract_lets +onlyGivenNames zz; first | (refine (fun (hz : Tidy pq zz) => ?_) ?_; (on_goal 1 => (try clear_value zz; rename' zz => zy, hz => hy)); (on_goal 2 => subst zz)) | (try clear_value zz; rename' zz => zy)) | with_reducible (first | apply idle_tidy | apply State.placeMarker_tidy | apply tidyO_next | apply tidyS_none | apply tidyS_some | apply tidyS1_none | apply tidyS2_none) | split | with_reducible (first | apply tidy_ite | apply tidyO_ite) | with_reducible (fail_if_no_progress apply tidy_mk) | with_reducible (first | refine of1 ?_ (by assumption) | refine of2 ?_ (by assumption) | refine ofS ?_ (by assumption) | refine ofS1 ?_ (by assumption) | refine ofS2 ?_ (by assumption) | refine ofS3 ?_ (by assumption) | refine of3 ?_ (by assumption)) | dsimp only)

theorem execCloseMarkerPlace_tidy {pq} {s : State} (hs : Tidy pq s) : TidyO pq (execCloseMarkerPlace s) := by
  unfold execCloseMarkerPlace
  repeat' (first | with_reducible assumption | (extract_lets +onlyGivenNames zz; first | (refine (fun (hz : Tidy pq zz) => ?_) ?_; (on_goal 1 => (try clear_value zz; rename' zz => zy, hz => hy)); (on_goal 2 => subst zz)) | (try clear_value zz; rename' zz => zy)) | with_reducible (first | apply idle_tidy | apply State.placeMarker_tidy | apply tidyO_next | apply tidy1_mk | apply tidy2_mk | apply tidyS_none | apply tidyS_some | apply tidyS1_none | apply tidyS2_none) | with_reducible (apply tidy_fst; first | apply tidy1_ite) | with_reducible (apply tidy_snd; first | apply tidy2_ite) | split | with_reducible (first | apply tidy_ite | apply tidyO_ite | apply tidy1_ite | apply tidy2_ite) | with_reducible (fail_if_no_progress apply tidy_mk) | with_reducible (first | refine of1 ?_ (by assumption) | refine of2 ?_ (by assumption) | refine ofS ?_ (by assumption) | refine ofS1 ?_ (by assumption) | refine ofS2 ?_ (by assumption) | refine ofS3 ?_ (by assumption) | refine of3 ?_ (by assumption)) | dsimp only)

theorem execCkptMarkerPlace_tidy {pq} {s : State} (hs : Tidy pq s) : TidyO pq (execCkptMarkerPlace s) := by
  unfold execCkptMarkerPlace
  repeat' (first | with_reducible assumption | (extract_lets +onlyGivenNames zz; first | (refine (fun (hz : Tidy pq zz) => ?_) ?_; (on_goal 1 => (try clear_value zz; rename' zz => zy, hz => hy)); (on_goal 2 => subst zz)) | (try clear_value zz; rename' zz => zy)) | with_reducible (first | apply tidy_ite | apply tidyO_ite | apply tidyS_ite | apply idle_tidy | apply State.placeMarker_tidy | apply tidyO_next | apply tidy_getD) | with_reducible (fail_if_no_progress apply tidy_mk) | with_reducible (first | refine of1 ?_ (by assumption) | refine of2 ?_ (by assumption) | refine ofS ?_ (by assumption) | refine ofS1 ?_ (by assumption) | refine ofS2 ?_ (by assumption) | refine ofS3 ?_ (by assumption) | refine of3 ?_ (by assumption)) | dsimp only)

theorem State.demSweepOne_tidy {pq} {s : State} {m : ℕ} (hs : Tidy pq s) : Tidy pq (State.demSweepOne s m) := by
  unfold State.demSweepOne
  repeat' (first | with_reducible assumption | (extract_lets +onlyGivenNames zz; first | (refine (fun (hz : Tidy pq zz) => ?_) ?_; (on_goal 1 => (try clear_value zz; rename' zz => zy, hz => hy)); (on_goal 2 => subst zz)) | (try clear_value zz; rename' zz => zy)) | with_reducible (first | apply State.touch_tidy | apply State.demPass1_tidy) | split | with_reducible (first | apply tidy_ite) | with_reducible (fail_if_no_progress apply tidy_mk) | with_reducible (first | refine of1 ?_ (by assumption) | refine of2 ?_ (by assumption) | refine ofS ?_ (by assumption) | refine ofS1 ?_ (by assumption) | refine ofS2 ?_ (by assumption) | refine ofS3 ?_ (by assumption) | refine of3 ?_ (by assumption)) | dsimp only)

theorem execDemandSweep_tidy {pq} {s : State} (hs : Tidy pq s) : TidyO pq (execDemandSweep s) := by
  unfold execDemandSweep
  repeat' (first | with_reducible assumption | with_reducible intro _ | (extract_lets +onlyGivenNames zz; first | (refine (fun (hz : Tidy pq zz) => ?_) ?_; (on_goal 1 => (try clear_value zz; rename' zz => zy, hz => hy)); (on_goal 2 => subst zz)) | (try clear_value zz; rename' zz => zy)) | with_reducible (first | apply foldl_tidy | apply foldl_tidy1 | apply idle_tidy | apply State.withDram_tidy | apply State.demSweepOne_tidy | apply tidyO_next) | with_reducible (apply tidy_fst; first | apply foldl_tidy1) | with_reducible (apply tidy_snd; first | apply foldl_tidy2) | split | with_reducible (fail_if_no_progress apply tidy_mk) | with_reducible (first | refine of1 ?_ (by assumption) | refine of2 ?_ (by assumption) | refine ofS ?_ (by assumption) | refine ofS1 ?_ (by assumption) | refine ofS2 ?_ (by assumption) | refine ofS3 ?_ (by assumption) | refine of3 ?_ (by assumption)) | dsimp only)

theorem execCloseSweep_tidy {pq} {s : State} (hs : Tidy pq s) : TidyO pq (execCloseSweep s) := by
  unfold execCloseSweep
  repeat' (first | with_reducible assumption | with_reducible intro _ | (extract_lets +onlyGivenNames zz; first | (refine (fun (hz : Tidy pq zz) => ?_) ?_; (on_goal 1 => (try clear_value zz; rename' zz => zy, hz => hy)); (on_goal 2 => subst zz)) | (refine (fun (hz : ∀ t, Tidy pq t → Tidy pq (zz t)) => ?_) ?_; (on_goal 1 => (try clear_value zz; rename' zz => zy, hz => hf)); (on_goal 2 => (subst zz; intro _ _; beta_reduce))) | (refine (fun (hz : ∀ t, Tidy pq (zz t)) => ?_) ?_; (on_goal 1 => (try clear_value zz; rename' zz => zy, hz => hf)); (on_goal 2 => (subst zz; intro _; beta_reduce))) | (try clear_value zz; rename' zz => zy)) | with_reducible (first | apply foldl_tidy | apply foldl_tidy1 | apply idle_tidy | apply State.withDram_tidy | apply State.touch_tidy | apply State.irq_tidy | apply State.billReport_tidy | apply State.setF_tidy | apply tidyO_next | apply tidy1_mk | apply tidy2_mk) | with_reducible (apply tidy_fst; first | apply foldl_tidy1) | with_reducible (apply tidy_snd; first | apply foldl_tidy2) | split | with_reducible (first | apply tidy_ite | apply tidyO_ite) | with_reducible (fail_if_no_progress apply tidy_mk) | with_reducible (apply hf) | with_reducible (first | refine of1 ?_ (by assumption) | refine of2 ?_ (by assumption) | refine ofS ?_ (by assumption) | refine ofS1 ?_ (by assumption) | refine ofS2 ?_ (by assumption) | refine ofS3 ?_ (by assumption) | refine of3 ?_ (by assumption)) | dsimp only)

theorem execCkptSweep_tidy {pq} {s : State} (hs : Tidy pq s) : TidyO pq (execCkptSweep s) := by
  unfold execCkptSweep
  repeat' (first | with_reducible assumption | with_reducible intro _ | (extract_lets +onlyGivenNames zz; first | (refine (fun (hz : Tidy pq zz) => ?_) ?_; (on_goal 1 => (try clear_value zz; rename' zz => zy, hz => hy)); (on_goal 2 => subst zz)) | (refine (fun (hz : ∀ t, Tidy pq t → Tidy pq (zz t)) => ?_) ?_; (on_goal 1 => (try clear_value zz; rename' zz => zy, hz => hf)); (on_goal 2 => (subst zz; intro _ _; beta_reduce))) | (refine (fun (hz : ∀ t, Tidy pq (zz t)) => ?_) ?_; (on_goal 1 => (try clear_value zz; rename' zz => zy, hz => hf)); (on_goal 2 => (subst zz; intro _; beta_reduce))) | (try clear_value zz; rename' zz => zy)) | with_reducible (first | apply tidy_ite | apply tidyO_ite | apply foldl_tidy | apply foldl_tidy1 | apply idle_tidy | apply State.withDram_tidy | apply State.ckptCopy_tidy | apply tidyO_next | apply map_tidyS | apply map_tidyS_of2 | apply map_tidyS_any) | with_reducible (apply tidy_fst; first | apply foldl_tidy1) | with_reducible (apply tidy_snd; first | apply foldl_tidy2) | with_reducible (fail_if_no_progress apply tidy_mk) | with_reducible (apply hf) | with_reducible (first | refine of1 ?_ (by assumption) | refine of2 ?_ (by assumption) | refine ofS ?_ (by assumption) | refine ofS1 ?_ (by assumption) | refine ofS2 ?_ (by assumption) | refine ofS3 ?_ (by assumption) | refine of3 ?_ (by assumption)) | dsimp only)

theorem execCkptComplete_tidy {pq} {s : State} (hs : Tidy pq s) : TidyO pq (execCkptComplete s) := by
  unfold execCkptComplete
  repeat' (first | with_reducible assumption | (extract_lets +onlyGivenNames zz; first | (refine (fun (hz : Tidy pq zz) => ?_) ?_; (on_goal 1 => (try clear_value zz; rename' zz => zy, hz => hy)); (on_goal 2 => subst zz)) | (try clear_value zz; rename' zz => zy)) | with_reducible (first | apply idle_tidy | apply State.err_tidy | apply State.billReport_tidy | apply State.irq_tidy | apply State.setF_tidy | apply tidyO_next | apply tidy1_mk | apply tidy2_mk | apply tidyS_none | apply tidyS_some | apply tidyS1_none | apply tidyS2_none) | split | with_reducible (first | apply tidy_ite | apply tidyO_ite) | with_reducible (fail_if_no_progress apply tidy_mk) | with_reducible (first | refine of1 ?_ (by assumption) | refine of2 ?_ (by assumption) | refine ofS ?_ (by assumption) | refine ofS1 ?_ (by assumption) | refine ofS2 ?_ (by assumption) | refine ofS3 ?_ (by assumption) | refine of3 ?_ (by assumption)) | dsimp only)

theorem execTokGo_tidy {pq} {req : Req} {data : Word} {s : State} (hs : Tidy pq s) : TidyO pq (execTokGo req data s) := by
  unfold execTokGo
  repeat' (first | with_reducible assumption | with_reducible intro _ | (extract_lets +onlyGivenNames zz; first | (refine (fun (hz : Tidy pq zz) => ?_) ?_; (on_goal 1 => (try clear_value zz; rename' zz => zy, hz => hy)); (on_goal 2 => subst zz)) | (refine (fun (hz : ∀ t, Tidy pq t → Tidy pq (zz t)) => ?_) ?_; (on_goal 1 => (try clear_value zz; rename' zz => zy, hz => hf)); (on_goal 2 => (subst zz; intro _ _; beta_reduce))) | (refine (fun (hz : ∀ t, Tidy pq (zz t)) => ?_) ?_; (on_goal 1 => (try clear_value zz; rename' zz => zy, hz => hf)); (on_goal 2 => (subst zz; intro _; beta_reduce))) | (try clear_value zz; rename' zz => zy)) | with_reducible (first | apply idle_tidy | apply State.onAction_tidy | apply State.err_tidy | apply State.refuseAt_tidy | apply State.setF_tidy | apply State.tokenIn_tidy | apply tidyO_next | apply tidy1_mk | apply tidy2_mk) | split | with_reducible (first | apply tidy_ite | apply tidyO_ite) | with_reducible (fail_if_no_progress apply tidy_mk) | with_reducible (apply hf) | with_reducible (first | refine of1 ?_ (by assumption) | refine of2 ?_ (by assumption) | refine ofS ?_ (by assumption) | refine ofS1 ?_ (by assumption) | refine ofS2 ?_ (by assumption) | refine ofS3 ?_ (by assumption) | refine of3 ?_ (by assumption)) | dsimp only)


/-! ## PowerDown -/

theorem State.powerDown_tidy {pq} {s : State} {aon : Bool} (hs : Tidy pq s) : Tidy pq (State.powerDown s aon) := by
  unfold State.powerDown
  extract_lets +onlyGivenNames keepR src t u
  have ht : Tidy pq t := by
    refine ⟨hs.pending, sparseWf_filter _ hs.mem, keysRise_filter _ hs.regs, keysRise_filter _ hs.eff, ?_⟩
    show keysRise (if aon then s.queues.filter (fun e => Reg.slowOrAon (qPage e.1)) else []) = true
    split
    · exact keysRise_filter _ hs.queues
    · rfl
  have hu : Tidy pq u := State.setF_tidy (State.setF_tidy ht)
  exact tidy_ite (State.setF_tidy hu) hu

theorem State.clearVkr_tidy {pq} {s : State} (hs : Tidy pq s) : Tidy pq (State.clearVkr s) := by
  unfold State.clearVkr
  repeat' (first | with_reducible assumption | with_reducible (first | apply State.write_tidy))

theorem State.newChallenge_tidy {pq} {s : State} (hs : Tidy pq s) : Tidy pq (State.newChallenge s) := by
  unfold State.newChallenge
  repeat' (first | with_reducible assumption | with_reducible intro _ | (extract_lets +onlyGivenNames zz; first | (refine (fun (hz : Tidy pq zz) => ?_) ?_; (on_goal 1 => (try clear_value zz; rename' zz => zy, hz => hy)); (on_goal 2 => subst zz)) | (try clear_value zz; rename' zz => zy)) | with_reducible (first | apply State.drawBytes_tidy | apply State.count_tidy | apply State.setBytes_tidy | apply tidy1_mk | apply tidy2_mk) | with_reducible (apply tidy_snd; first | apply State.drawBytes_tidy) | with_reducible (first | refine of1 ?_ (by assumption) | refine of2 ?_ (by assumption) | refine ofS ?_ (by assumption) | refine ofS1 ?_ (by assumption) | refine ofS2 ?_ (by assumption) | refine ofS3 ?_ (by assumption) | refine of3 ?_ (by assumption)) | dsimp only)

theorem State.lockdown_tidy {pq} {s : State} (hs : Tidy pq s) : Tidy pq (State.lockdown s) := by
  unfold State.lockdown
  repeat' (first | with_reducible assumption | (extract_lets +onlyGivenNames zz; first | (refine (fun (hz : Tidy pq zz) => ?_) ?_; (on_goal 1 => (try clear_value zz; rename' zz => zy, hz => hy)); (on_goal 2 => subst zz)) | (refine (fun (hz : ∀ t, Tidy pq t → Tidy pq (zz t)) => ?_) ?_; (on_goal 1 => (try clear_value zz; rename' zz => zy, hz => hf)); (on_goal 2 => (subst zz; intro _ _; beta_reduce))) | (refine (fun (hz : ∀ t, Tidy pq (zz t)) => ?_) ?_; (on_goal 1 => (try clear_value zz; rename' zz => zy, hz => hf)); (on_goal 2 => (subst zz; intro _; beta_reduce))) | (try clear_value zz; rename' zz => zy)) | with_reducible (first | apply State.newChallenge_tidy | apply State.clearVkr_tidy | apply State.powerDown_tidy | apply State.setF_tidy | apply State.toMode_tidy | apply tidy1_mk | apply tidy2_mk | apply tidyS_none | apply tidyS_some | apply tidyS1_none | apply tidyS2_none) | with_reducible (fail_if_no_progress apply tidy_mk) | with_reducible (apply hf) | with_reducible (first | refine of1 ?_ (by assumption) | refine of2 ?_ (by assumption) | refine ofS ?_ (by assumption) | refine ofS1 ?_ (by assumption) | refine ofS2 ?_ (by assumption) | refine ofS3 ?_ (by assumption) | refine of3 ?_ (by assumption)) | dsimp only)


/-! ## KeyCmd -/

theorem State.abortHolders_tidy {pq} {s : State} {n : ℕ} (hs : Tidy pq s) : Tidy pq (State.abortHolders s n) := by
  unfold State.abortHolders
  repeat' (first | with_reducible assumption | with_reducible intro _ | (extract_lets +onlyGivenNames zz; first | (refine (fun (hz : Tidy pq zz) => ?_) ?_; (on_goal 1 => (try clear_value zz; rename' zz => zy, hz => hy)); (on_goal 2 => subst zz)) | (try clear_value zz; rename' zz => zy)) | with_reducible (first | apply foldl_tidy | apply foldl_tidy1 | apply State.setUnitRun_tidy | apply State.abortTx_tidy | apply State.event_tidy | apply State.irq_tidy | apply State.count_tidy | apply tidyS_none | apply tidyS_some | apply tidyS1_none | apply tidyS2_none) | with_reducible (apply tidy_fst; first | apply foldl_tidy1) | with_reducible (apply tidy_snd; first | apply foldl_tidy2) | split | with_reducible (first | apply tidy_ite) | with_reducible (fail_if_no_progress apply tidy_mk) | with_reducible (first | refine of1 ?_ (by assumption) | refine of2 ?_ (by assumption) | refine ofS ?_ (by assumption) | refine ofS1 ?_ (by assumption) | refine ofS2 ?_ (by assumption) | refine ofS3 ?_ (by assumption) | refine of3 ?_ (by assumption)) | dsimp only)

theorem State.eraseSlot_tidy {pq} {s : State} {n : ℕ} (hs : Tidy pq s) : Tidy pq (State.eraseSlot s n) := by
  unfold State.eraseSlot
  repeat' (first | with_reducible assumption | with_reducible (first | apply State.setSlotK_tidy | apply State.abortHolders_tidy))

theorem State.eraseAll_tidy {pq} {s : State} (hs : Tidy pq s) : Tidy pq (State.eraseAll s) := by
  unfold State.eraseAll
  repeat' (first | with_reducible assumption | with_reducible intro _ | with_reducible (first | apply foldl_tidy | apply foldl_tidy1 | apply State.irq_tidy | apply State.eraseSlot_tidy) | with_reducible (apply tidy_fst; first | apply foldl_tidy1) | with_reducible (apply tidy_snd; first | apply foldl_tidy2))

theorem execKeyZeroise_tidy {pq} {req : Req} {s : State} (hs : Tidy pq s) : TidyO pq (execKeyZeroise req s) := by
  unfold execKeyZeroise
  repeat' (first | with_reducible assumption | with_reducible intro _ | with_reducible (first | apply State.onField_tidy | apply State.eraseAll_tidy | apply tidyO_next | apply idle_tidy) | with_reducible (fail_if_no_progress apply tidy_mk))

theorem execKeyRemask_tidy {pq} {s : State} (hs : Tidy pq s) : TidyO pq (execKeyRemask s) := by
  unfold execKeyRemask
  repeat' (first | with_reducible assumption | with_reducible intro _ | (extract_lets +onlyGivenNames zz; first | (refine (fun (hz : Tidy pq zz) => ?_) ?_; (on_goal 1 => (try clear_value zz; rename' zz => zy, hz => hy)); (on_goal 2 => subst zz)) | (refine (fun (hz : ∀ t, Tidy pq t → Tidy pq (zz t)) => ?_) ?_; (on_goal 1 => (try clear_value zz; rename' zz => zy, hz => hf)); (on_goal 2 => (subst zz; intro _ _; beta_reduce))) | (refine (fun (hz : ∀ t, Tidy pq (zz t)) => ?_) ?_; (on_goal 1 => (try clear_value zz; rename' zz => zy, hz => hf)); (on_goal 2 => (subst zz; intro _; beta_reduce))) | (try clear_value zz; rename' zz => zy)) | with_reducible (first | apply tidy_ite | apply tidyO_ite | apply tidy1_ite | apply tidy2_ite | apply foldl_tidy | apply foldl_tidy1 | apply idle_tidy | apply State.drawBytes_tidy | apply State.setSlotK_tidy | apply State.count_tidy | apply tidyO_next | apply tidy1_mk | apply tidy2_mk) | with_reducible (apply tidy_fst; first | apply foldl_tidy1 | apply tidy1_ite) | with_reducible (apply tidy_snd; first | apply State.drawBytes_tidy | apply foldl_tidy2 | apply tidy2_ite) | with_reducible (fail_if_no_progress apply tidy_mk) | with_reducible (apply hf) | with_reducible (first | refine of1 ?_ (by assumption) | refine of2 ?_ (by assumption) | refine ofS ?_ (by assumption) | refine ofS1 ?_ (by assumption) | refine ofS2 ?_ (by assumption) | refine ofS3 ?_ (by assumption) | refine of3 ?_ (by assumption)) | dsimp only)

theorem State.keyEffect_tidy {pq} {s : State} {c : KeyCmd} (hs : Tidy pq s) : Tidy pq (State.keyEffect s c) := by
  unfold State.keyEffect
  repeat' (first | with_reducible assumption | with_reducible intro _ | (extract_lets +onlyGivenNames zz; first | (refine (fun (hz : Tidy pq zz) => ?_) ?_; (on_goal 1 => (try clear_value zz; rename' zz => zy, hz => hy)); (on_goal 2 => subst zz)) | (try clear_value zz; rename' zz => zy)) | with_reducible (first | apply State.setBytes_tidy | apply State.loadSlot_tidy | apply State.eraseSlot_tidy | apply State.setSlotK_tidy | apply State.drawBytes_tidy | apply tidy1_mk | apply tidy2_mk | apply tidyS_none | apply tidyS_some | apply tidyS1_none | apply tidyS2_none) | with_reducible (apply tidy_snd; first | apply State.drawBytes_tidy) | split | with_reducible (fail_if_no_progress apply tidy_mk) | with_reducible (first | refine of1 ?_ (by assumption) | refine of2 ?_ (by assumption) | refine ofS ?_ (by assumption) | refine ofS1 ?_ (by assumption) | refine ofS2 ?_ (by assumption) | refine ofS3 ?_ (by assumption) | refine of3 ?_ (by assumption)) | dsimp only)

theorem State.keyRun_tidy {pq} {s : State} {c : KeyCmd} (hs : Tidy pq s) : Tidy1 pq (State.keyRun s c) := by
  unfold State.keyRun
  repeat' (first | with_reducible assumption | with_reducible intro _ | (extract_lets +onlyGivenNames zz; first | (refine (fun (hz : Tidy pq zz) => ?_) ?_; (on_goal 1 => (try clear_value zz; rename' zz => zy, hz => hy)); (on_goal 2 => subst zz)) | (try clear_value zz; rename' zz => zy)) | with_reducible (first | apply tidy_ite | apply tidy1_ite | apply tidy2_ite | apply State.setBytes_tidy | apply State.keyEffect_tidy | apply tidy1_mk | apply tidy2_mk | apply tidyS_none | apply tidyS_some | apply tidyS1_none | apply tidyS2_none) | with_reducible (apply tidy_fst; first | apply tidy1_ite) | with_reducible (apply tidy_snd; first | apply tidy2_ite) | with_reducible (first | refine of1 ?_ (by assumption) | refine of2 ?_ (by assumption) | refine ofS ?_ (by assumption) | refine ofS1 ?_ (by assumption) | refine ofS2 ?_ (by assumption) | refine ofS3 ?_ (by assumption) | refine of3 ?_ (by assumption)) | dsimp only)

theorem State.setJobs_tidy {pq} {s : State} {l : List KeyJob} (hs : Tidy pq s) : Tidy pq (State.setJobs s l) := by
  unfold State.setJobs
  repeat' (first | with_reducible assumption | with_reducible (fail_if_no_progress apply tidy_mk))

theorem State.runJobs_tidy {pq} {s : State} (hs : Tidy pq s) : Tidy pq (State.runJobs s) := by
  unfold State.runJobs
  repeat' (first | with_reducible assumption | with_reducible intro _ | (extract_lets +onlyGivenNames zz; first | (refine (fun (hz : Tidy pq zz) => ?_) ?_; (on_goal 1 => (try clear_value zz; rename' zz => zy, hz => hy)); (on_goal 2 => subst zz)) | (try clear_value zz; rename' zz => zy)) | with_reducible (first | apply tidy_ite | apply tidy1_ite | apply tidy2_ite | apply foldl_tidy | apply foldl_tidy1 | apply State.keyRun_tidy | apply State.setJobs_tidy | apply tidy1_mk | apply tidy2_mk) | with_reducible (apply tidy_fst; first | apply State.keyRun_tidy | apply foldl_tidy1 | apply tidy1_ite) | with_reducible (apply tidy_snd; first | apply foldl_tidy2 | apply tidy2_ite) | with_reducible (first | refine of1 ?_ (by assumption) | refine of2 ?_ (by assumption) | refine ofS ?_ (by assumption) | refine ofS1 ?_ (by assumption) | refine ofS2 ?_ (by assumption) | refine ofS3 ?_ (by assumption) | refine of3 ?_ (by assumption)) | dsimp only)

theorem State.keyQueue_tidy {pq} {s : State} {c : KeyCmd} (hs : Tidy pq s) : Tidy pq (State.keyQueue s c) := by
  unfold State.keyQueue
  repeat' (first | with_reducible assumption | (extract_lets +onlyGivenNames zz; first | (refine (fun (hz : Tidy pq zz) => ?_) ?_; (on_goal 1 => (try clear_value zz; rename' zz => zy, hz => hy)); (on_goal 2 => subst zz)) | (refine (fun (hz : ∀ t, Tidy pq t → Tidy pq (zz t)) => ?_) ?_; (on_goal 1 => (try clear_value zz; rename' zz => zy, hz => hf)); (on_goal 2 => (subst zz; intro _ _; beta_reduce))) | (refine (fun (hz : ∀ t, Tidy pq (zz t)) => ?_) ?_; (on_goal 1 => (try clear_value zz; rename' zz => zy, hz => hf)); (on_goal 2 => (subst zz; intro _; beta_reduce))) | (try clear_value zz; rename' zz => zy)) | with_reducible (first | apply State.setF_tidy | apply State.setJobs_tidy) | with_reducible (apply hf) | with_reducible (first | refine of1 ?_ (by assumption) | refine of2 ?_ (by assumption) | refine ofS ?_ (by assumption) | refine ofS1 ?_ (by assumption) | refine ofS2 ?_ (by assumption) | refine ofS3 ?_ (by assumption) | refine of3 ?_ (by assumption)) | dsimp only)

theorem State.keyGo_tidy {pq} {s : State} {req : Req} (hs : Tidy pq s) : Tidy pq (State.keyGo s req) := by
  unfold State.keyGo
  repeat' (first | with_reducible assumption | (extract_lets +onlyGivenNames zz; first | (refine (fun (hz : Tidy pq zz) => ?_) ?_; (on_goal 1 => (try clear_value zz; rename' zz => zy, hz => hy)); (on_goal 2 => subst zz)) | (try clear_value zz; rename' zz => zy)) | with_reducible (first | apply tidy_ite | apply State.keyQueue_tidy | apply State.runJobs_tidy) | with_reducible (first | refine of1 ?_ (by assumption) | refine of2 ?_ (by assumption) | refine ofS ?_ (by assumption) | refine ofS1 ?_ (by assumption) | refine ofS2 ?_ (by assumption) | refine ofS3 ?_ (by assumption) | refine of3 ?_ (by assumption)) | dsimp only)

theorem State.keyWrite_tidy {pq} {s : State} {req : Req} {w : ℕ} (hs : Tidy pq s) : Tidy pq (State.keyWrite s req w) := by
  unfold State.keyWrite
  repeat' (first | with_reducible assumption | with_reducible intro _ | with_reducible (first | apply State.onAction_tidy | apply State.keyGo_tidy))

theorem execKeyLoad_tidy {pq} {req : Req} {target source : BitVec 6} {kind : BitVec 2} {lenSel : BitVec 6} {s : State} (hs : Tidy pq s) : TidyO pq (execKeyLoad req target source kind lenSel s) := by
  unfold execKeyLoad
  repeat' (first | with_reducible assumption | with_reducible (first | apply State.keyWrite_tidy | apply tidyO_next | apply idle_tidy))

theorem execKeyErase_tidy {pq} {req : Req} {target source : BitVec 6} {kind : BitVec 2} {lenSel : BitVec 6} {s : State} (hs : Tidy pq s) : TidyO pq (execKeyErase req target source kind lenSel s) := by
  unfold execKeyErase
  repeat' (first | with_reducible assumption | with_reducible (first | apply State.keyWrite_tidy | apply tidyO_next | apply idle_tidy))

theorem execKeyNarrow_tidy {pq} {req : Req} {target source : BitVec 6} {kind : BitVec 2} {lenSel : BitVec 6} {s : State} (hs : Tidy pq s) : TidyO pq (execKeyNarrow req target source kind lenSel s) := by
  unfold execKeyNarrow
  repeat' (first | with_reducible assumption | with_reducible (first | apply State.keyWrite_tidy | apply tidyO_next | apply idle_tidy))

theorem execKeyDerive_tidy {pq} {req : Req} {target source : BitVec 6} {kind : BitVec 2} {lenSel : BitVec 6} {s : State} (hs : Tidy pq s) : TidyO pq (execKeyDerive req target source kind lenSel s) := by
  unfold execKeyDerive
  repeat' (first | with_reducible assumption | with_reducible (first | apply State.keyWrite_tidy | apply tidyO_next | apply idle_tidy))

theorem execKeyGenerate_tidy {pq} {req : Req} {target source : BitVec 6} {kind : BitVec 2} {lenSel : BitVec 6} {s : State} (hs : Tidy pq s) : TidyO pq (execKeyGenerate req target source kind lenSel s) := by
  unfold execKeyGenerate
  repeat' (first | with_reducible assumption | with_reducible (first | apply State.keyWrite_tidy | apply tidyO_next | apply idle_tidy))

theorem execKeyUnwrap_tidy {pq} {req : Req} {target source : BitVec 6} {kind : BitVec 2} {lenSel : BitVec 6} {s : State} (hs : Tidy pq s) : TidyO pq (execKeyUnwrap req target source kind lenSel s) := by
  unfold execKeyUnwrap
  repeat' (first | with_reducible assumption | with_reducible (first | apply State.keyWrite_tidy | apply tidyO_next | apply idle_tidy))

theorem execKeyWrap_tidy {pq} {req : Req} {target source : BitVec 6} {kind : BitVec 2} {lenSel : BitVec 6} {s : State} (hs : Tidy pq s) : TidyO pq (execKeyWrap req target source kind lenSel s) := by
  unfold execKeyWrap
  repeat' (first | with_reducible assumption | with_reducible (first | apply State.keyWrite_tidy | apply tidyO_next | apply idle_tidy))

theorem State.keyEnd_tidy {pq} {s : State} {status : ℕ} {rest : List KeyJob} (hs : Tidy pq s) : Tidy pq (State.keyEnd s status rest) := by
  unfold State.keyEnd
  repeat' (first | with_reducible assumption | (extract_lets +onlyGivenNames zz; first | (refine (fun (hz : Tidy pq zz) => ?_) ?_; (on_goal 1 => (try clear_value zz; rename' zz => zy, hz => hy)); (on_goal 2 => subst zz)) | (refine (fun (hz : ∀ t, Tidy pq t → Tidy pq (zz t)) => ?_) ?_; (on_goal 1 => (try clear_value zz; rename' zz => zy, hz => hf)); (on_goal 2 => (subst zz; intro _ _; beta_reduce))) | (refine (fun (hz : ∀ t, Tidy pq (zz t)) => ?_) ?_; (on_goal 1 => (try clear_value zz; rename' zz => zy, hz => hf)); (on_goal 2 => (subst zz; intro _; beta_reduce))) | (try clear_value zz; rename' zz => zy)) | with_reducible (first | apply tidy_ite | apply State.setF_tidy | apply State.err_tidy | apply State.setJobs_tidy | apply State.irq_tidy) | with_reducible (apply hf) | with_reducible (first | refine of1 ?_ (by assumption) | refine of2 ?_ (by assumption) | refine ofS ?_ (by assumption) | refine ofS1 ?_ (by assumption) | refine ofS2 ?_ (by assumption) | refine ofS3 ?_ (by assumption) | refine of3 ?_ (by assumption)) | dsimp only)

theorem execKeyCmdDone_tidy {pq} {s : State} (hs : Tidy pq s) : TidyO pq (execKeyCmdDone s) := by
  unfold execKeyCmdDone
  repeat' (first | with_reducible assumption | with_reducible (first | apply idle_tidy | apply State.keyEnd_tidy | apply tidyO_next) | split | with_reducible (first | apply tidy_ite | apply tidyO_ite) | with_reducible (fail_if_no_progress apply tidy_mk) | with_reducible (first | refine of1 ?_ (by assumption) | refine of2 ?_ (by assumption) | refine ofS ?_ (by assumption) | refine ofS1 ?_ (by assumption) | refine ofS2 ?_ (by assumption) | refine ofS3 ?_ (by assumption) | refine of3 ?_ (by assumption)) | dsimp only)

theorem State.abortKeys_tidy {pq} {s : State} (hs : Tidy pq s) : Tidy pq (State.abortKeys s) := by
  unfold State.abortKeys
  repeat' (first | with_reducible assumption | with_reducible intro _ | (extract_lets +onlyGivenNames zz; first | (refine (fun (hz : Tidy pq zz) => ?_) ?_; (on_goal 1 => (try clear_value zz; rename' zz => zy, hz => hy)); (on_goal 2 => subst zz)) | (try clear_value zz; rename' zz => zy)) | with_reducible (first | apply foldl_tidy | apply foldl_tidy1 | apply State.setSlotK_tidy | apply State.keyEnd_tidy | apply State.setBytes_tidy | apply tidyS_none | apply tidyS_some | apply tidyS1_none | apply tidyS2_none) | with_reducible (apply tidy_fst; first | apply foldl_tidy1) | with_reducible (apply tidy_snd; first | apply foldl_tidy2) | split | with_reducible (first | apply tidy_ite) | with_reducible (fail_if_no_progress apply tidy_mk) | with_reducible (first | refine of1 ?_ (by assumption) | refine of2 ?_ (by assumption) | refine ofS ?_ (by assumption) | refine ofS1 ?_ (by assumption) | refine ofS2 ?_ (by assumption) | refine ofS3 ?_ (by assumption) | refine of3 ?_ (by assumption)) | dsimp only)

theorem execTrngStartupDone_tidy {pq} {s : State} (hs : Tidy pq s) : TidyO pq (execTrngStartupDone s) := by
  unfold execTrngStartupDone
  repeat' (first | with_reducible assumption | with_reducible (first | apply tidy_ite | apply tidyO_ite | apply State.setF_tidy | apply idle_tidy | apply tidyO_next))

theorem execTrngHealthFail_tidy {pq} {apt : Bool} {s : State} (hs : Tidy pq s) : TidyO pq (execTrngHealthFail apt s) := by
  unfold execTrngHealthFail
  repeat' (first | with_reducible assumption | with_reducible intro _ | (extract_lets +onlyGivenNames zz; first | (refine (fun (hz : Tidy pq zz) => ?_) ?_; (on_goal 1 => (try clear_value zz; rename' zz => zy, hz => hy)); (on_goal 2 => subst zz)) | (refine (fun (hz : ∀ t, Tidy pq t → Tidy pq (zz t)) => ?_) ?_; (on_goal 1 => (try clear_value zz; rename' zz => zy, hz => hf)); (on_goal 2 => (subst zz; intro _ _; beta_reduce))) | (refine (fun (hz : ∀ t, Tidy pq (zz t)) => ?_) ?_; (on_goal 1 => (try clear_value zz; rename' zz => zy, hz => hf)); (on_goal 2 => (subst zz; intro _; beta_reduce))) | (try clear_value zz; rename' zz => zy)) | with_reducible (first | apply tidy_ite | apply tidyO_ite | apply idle_tidy | apply State.settling_tidy | apply State.irq_tidy | apply State.count_tidy | apply State.event_tidy | apply State.setF_tidy | apply tidyO_next) | with_reducible (fail_if_no_progress apply tidy_mk) | with_reducible (apply hf) | with_reducible (first | refine of1 ?_ (by assumption) | refine of2 ?_ (by assumption) | refine ofS ?_ (by assumption) | refine ofS1 ?_ (by assumption) | refine ofS2 ?_ (by assumption) | refine ofS3 ?_ (by assumption) | refine of3 ?_ (by assumption)) | dsimp only)

theorem execTrngDataRead_tidy {pq} {req : Req} {s : State} (hs : Tidy pq s) : TidyO pq (execTrngDataRead req s) := by
  unfold execTrngDataRead
  repeat' (first | with_reducible assumption | with_reducible intro _ | (extract_lets +onlyGivenNames zz; first | (refine (fun (hz : Tidy pq zz) => ?_) ?_; (on_goal 1 => (try clear_value zz; rename' zz => zy, hz => hy)); (on_goal 2 => subst zz)) | (try clear_value zz; rename' zz => zy)) | with_reducible (first | apply tidy_ite | apply tidyO_ite | apply tidy1_ite | apply tidy2_ite | apply State.onRead_tidy | apply State.answer_tidy | apply State.err_tidy | apply State.drawWord_tidy | apply tidyO_next | apply idle_tidy | apply tidy1_mk | apply tidy2_mk) | with_reducible (apply tidy_fst; first | apply tidy1_ite) | with_reducible (apply tidy_snd; first | apply State.drawWord_tidy | apply tidy2_ite) | with_reducible (first | refine of1 ?_ (by assumption) | refine of2 ?_ (by assumption) | refine ofS ?_ (by assumption) | refine ofS1 ?_ (by assumption) | refine ofS2 ?_ (by assumption) | refine ofS3 ?_ (by assumption) | refine of3 ?_ (by assumption)) | dsimp only)

theorem State.trngEnable_tidy {pq} {s : State} {on : Bool} (hs : Tidy pq s) : Tidy pq (State.trngEnable s on) := by
  unfold State.trngEnable
  repeat' (first | with_reducible assumption | with_reducible (first | apply tidy_ite | apply State.setF_tidy))


/-! ## Tamper -/

theorem State.tamperZeroise_tidy {pq} {s : State} (hs : Tidy pq s) : Tidy pq (State.tamperZeroise s) := by
  unfold State.tamperZeroise
  repeat' (first | with_reducible assumption | (extract_lets +onlyGivenNames zz; first | (refine (fun (hz : Tidy pq zz) => ?_) ?_; (on_goal 1 => (try clear_value zz; rename' zz => zy, hz => hy)); (on_goal 2 => subst zz)) | (try clear_value zz; rename' zz => zy)) | with_reducible (first | apply State.clearVkr_tidy | apply State.eraseAll_tidy | apply State.setF_tidy | apply tidy1_mk | apply tidy2_mk) | with_reducible (fail_if_no_progress apply tidy_mk) | with_reducible (first | refine of1 ?_ (by assumption) | refine of2 ?_ (by assumption) | refine ofS ?_ (by assumption) | refine ofS1 ?_ (by assumption) | refine ofS2 ?_ (by assumption) | refine ofS3 ?_ (by assumption) | refine of3 ?_ (by assumption)) | dsimp only)

theorem State.noteTamper_tidy {pq} {s : State} {n : ℕ} (hs : Tidy pq s) : Tidy pq (State.noteTamper s n) := by
  unfold State.noteTamper
  repeat' (first | with_reducible assumption | (extract_lets +onlyGivenNames zz; first | (refine (fun (hz : Tidy pq zz) => ?_) ?_; (on_goal 1 => (try clear_value zz; rename' zz => zy, hz => hy)); (on_goal 2 => subst zz)) | (refine (fun (hz : ∀ t, Tidy pq t → Tidy pq (zz t)) => ?_) ?_; (on_goal 1 => (try clear_value zz; rename' zz => zy, hz => hf)); (on_goal 2 => (subst zz; intro _ _; beta_reduce))) | (refine (fun (hz : ∀ t, Tidy pq (zz t)) => ?_) ?_; (on_goal 1 => (try clear_value zz; rename' zz => zy, hz => hf)); (on_goal 2 => (subst zz; intro _; beta_reduce))) | (try clear_value zz; rename' zz => zy)) | with_reducible (first | apply tidy_ite | apply State.setF_tidy | apply State.event_tidy | apply State.irq_tidy | apply State.count_tidy | apply State.abortKeys_tidy) | with_reducible (fail_if_no_progress apply tidy_mk) | with_reducible (apply hf) | with_reducible (first | refine of1 ?_ (by assumption) | refine of2 ?_ (by assumption) | refine ofS ?_ (by assumption) | refine ofS1 ?_ (by assumption) | refine ofS2 ?_ (by assumption) | refine ofS3 ?_ (by assumption) | refine of3 ?_ (by assumption)) | dsimp only)

theorem State.tamper_tidy {pq} {s : State} {n : ℕ} (hs : Tidy pq s) : Tidy pq (State.tamper s n) := by
  unfold State.tamper
  repeat' (first | with_reducible assumption | (extract_lets +onlyGivenNames zz; first | (refine (fun (hz : Tidy pq zz) => ?_) ?_; (on_goal 1 => (try clear_value zz; rename' zz => zy, hz => hy)); (on_goal 2 => subst zz)) | (refine (fun (hz : ∀ t, Tidy pq t → Tidy pq (zz t)) => ?_) ?_; (on_goal 1 => (try clear_value zz; rename' zz => zy, hz => hf)); (on_goal 2 => (subst zz; intro _ _; beta_reduce))) | (refine (fun (hz : ∀ t, Tidy pq (zz t)) => ?_) ?_; (on_goal 1 => (try clear_value zz; rename' zz => zy, hz => hf)); (on_goal 2 => (subst zz; intro _; beta_reduce))) | (try clear_value zz; rename' zz => zy)) | with_reducible (first | apply State.noteTamper_tidy | apply State.lockdown_tidy | apply State.event_tidy | apply State.wake_tidy | apply State.setF_tidy | apply State.clearVkr_tidy | apply State.irq_tidy | apply State.tamperZeroise_tidy) | split | with_reducible (first | apply tidy_ite) | with_reducible (apply hf) | with_reducible (first | refine of1 ?_ (by assumption) | refine of2 ?_ (by assumption) | refine ofS ?_ (by assumption) | refine ofS1 ?_ (by assumption) | refine ofS2 ?_ (by assumption) | refine ofS3 ?_ (by assumption) | refine of3 ?_ (by assumption)) | dsimp only)

theorem execTamperAssert_tidy {pq} {source : Fin 8} {s : State} (hs : Tidy pq s) : TidyO pq (execTamperAssert source s) := by
  unfold execTamperAssert
  repeat' (first | with_reducible assumption | with_reducible (first | apply tidy_ite | apply tidyO_ite | apply State.tamper_tidy | apply idle_tidy | apply tidyO_next))

theorem execMeshCheck_tidy {pq} {good : Bool} {s : State} (hs : Tidy pq s) : TidyO pq (execMeshCheck good s) := by
  unfold execMeshCheck
  repeat' (first | with_reducible assumption | (extract_lets +onlyGivenNames zz; first | (refine (fun (hz : Tidy pq zz) => ?_) ?_; (on_goal 1 => (try clear_value zz; rename' zz => zy, hz => hy)); (on_goal 2 => subst zz)) | (try clear_value zz; rename' zz => zy)) | with_reducible (first | apply tidy_ite | apply tidyO_ite | apply tidy1_ite | apply tidy2_ite | apply idle_tidy | apply State.drawWord_tidy | apply State.tamper_tidy | apply State.setF_tidy | apply tidyO_next | apply tidy1_mk | apply tidy2_mk) | with_reducible (apply tidy_fst; first | apply tidy1_ite) | with_reducible (apply tidy_snd; first | apply State.drawWord_tidy | apply tidy2_ite) | with_reducible (fail_if_no_progress apply tidy_mk) | with_reducible (first | refine of1 ?_ (by assumption) | refine of2 ?_ (by assumption) | refine ofS ?_ (by assumption) | refine ofS1 ?_ (by assumption) | refine ofS2 ?_ (by assumption) | refine ofS3 ?_ (by assumption) | refine of3 ?_ (by assumption)) | dsimp only)

theorem execTampVkrClear_tidy {pq} {req : Req} {s : State} (hs : Tidy pq s) : TidyO pq (execTampVkrClear req s) := by
  unfold execTampVkrClear
  repeat' (first | with_reducible assumption | with_reducible intro _ | with_reducible (first | apply State.onAction_tidy | apply State.clearVkr_tidy | apply tidyO_next | apply idle_tidy) | with_reducible (fail_if_no_progress apply tidy_mk))

theorem execTampArm_tidy {pq} {req : Req} {s : State} (hs : Tidy pq s) : TidyO pq (execTampArm req s) := by
  unfold execTampArm
  repeat' (first | with_reducible assumption | with_reducible intro _ | with_reducible (first | apply State.onAction_tidy | apply State.setF_tidy | apply tidyO_next | apply idle_tidy))

theorem State.released_tidy {pq} {s : State} (hs : Tidy pq s) : Tidy pq (State.released s) := by
  unfold State.released
  repeat' (first | with_reducible assumption | (extract_lets +onlyGivenNames zz; first | (refine (fun (hz : Tidy pq zz) => ?_) ?_; (on_goal 1 => (try clear_value zz; rename' zz => zy, hz => hy)); (on_goal 2 => subst zz)) | (refine (fun (hz : ∀ t, Tidy pq t → Tidy pq (zz t)) => ?_) ?_; (on_goal 1 => (try clear_value zz; rename' zz => zy, hz => hf)); (on_goal 2 => (subst zz; intro _ _; beta_reduce))) | (refine (fun (hz : ∀ t, Tidy pq (zz t)) => ?_) ?_; (on_goal 1 => (try clear_value zz; rename' zz => zy, hz => hf)); (on_goal 2 => (subst zz; intro _; beta_reduce))) | (try clear_value zz; rename' zz => zy)) | with_reducible (first | apply State.setF_tidy | apply State.dueStartup_tidy | apply State.event_tidy) | with_reducible (fail_if_no_progress apply tidy_mk) | with_reducible (apply hf) | with_reducible (first | refine of1 ?_ (by assumption) | refine of2 ?_ (by assumption) | refine ofS ?_ (by assumption) | refine ofS1 ?_ (by assumption) | refine ofS2 ?_ (by assumption) | refine ofS3 ?_ (by assumption) | refine of3 ?_ (by assumption)) | dsimp only)

theorem execTampRelease_tidy {pq} {req : Req} {s : State} (hs : Tidy pq s) : TidyO pq (execTampRelease req s) := by
  unfold execTampRelease
  repeat' (first | with_reducible assumption | with_reducible intro _ | with_reducible (first | apply tidy_ite | apply tidyO_ite | apply State.onAction_tidy | apply State.released_tidy | apply State.newChallenge_tidy | apply State.event_tidy | apply State.irq_tidy | apply State.count_tidy | apply tidyO_next | apply idle_tidy))


/-! ## Trivet -/

theorem State.trivetReply_tidy {pq} {s : State} {b : Bytes} {status len : ℕ} (hs : Tidy pq s) : Tidy pq (State.trivetReply s b status len) := by
  unfold State.trivetReply
  repeat' (first | with_reducible assumption | (extract_lets +onlyGivenNames zz; first | (refine (fun (hz : Tidy pq zz) => ?_) ?_; (on_goal 1 => (try clear_value zz; rename' zz => zy, hz => hy)); (on_goal 2 => subst zz)) | (try clear_value zz; rename' zz => zy)) | with_reducible (first | apply tidy_ite | apply State.err_tidy | apply State.enq_tidy) | with_reducible (first | refine of1 ?_ (by assumption) | refine of2 ?_ (by assumption) | refine ofS ?_ (by assumption) | refine ofS1 ?_ (by assumption) | refine ofS2 ?_ (by assumption) | refine ofS3 ?_ (by assumption) | refine of3 ?_ (by assumption)) | dsimp only)

theorem State.trivet_tidy {pq} {s : State} {service : ℕ} {sub : Option Submission} {k : State → Bytes → State} (hs : Tidy pq s) (hk : ∀ t e1, Tidy pq t → Tidy pq (k t e1)) : Tidy pq (State.trivet s service sub k) := by
  unfold State.trivet
  repeat' (first | with_reducible assumption | (extract_lets +onlyGivenNames zz; first | (refine (fun (hz : Tidy pq zz) => ?_) ?_; (on_goal 1 => (try clear_value zz; rename' zz => zy, hz => hy)); (on_goal 2 => subst zz)) | (try clear_value zz; rename' zz => zy)) | with_reducible (first | apply State.submit_tidy | apply State.deq_tidy | apply tidy1_mk | apply tidy2_mk | apply tidyS_none | apply tidyS_some | apply tidyS1_none | apply tidyS2_none) | with_reducible (apply tidy_fst; first | apply tidy1_ite) | with_reducible (apply tidy_snd; first | apply tidy2_ite) | split | with_reducible (first | apply tidy_ite | apply tidy1_ite | apply tidy2_ite) | with_reducible (fail_if_no_progress apply tidy_mk) | with_reducible (first | apply hk) | with_reducible (first | refine of1 ?_ (by assumption) | refine of2 ?_ (by assumption) | refine ofS ?_ (by assumption) | refine ofS1 ?_ (by assumption) | refine ofS2 ?_ (by assumption) | refine ofS3 ?_ (by assumption) | refine of3 ?_ (by assumption)) | dsimp only)

theorem execTrivetAttest_tidy {pq} {sub : Option Submission} {s : State} (hs : Tidy pq s) : TidyO pq (execTrivetAttest sub s) := by
  unfold execTrivetAttest
  repeat' (first | with_reducible assumption | with_reducible intro _ | (extract_lets +onlyGivenNames zz; first | (refine (fun (hz : Tidy pq zz) => ?_) ?_; (on_goal 1 => (try clear_value zz; rename' zz => zy, hz => hy)); (on_goal 2 => subst zz)) | (try clear_value zz; rename' zz => zy)) | with_reducible (first | apply tidy_ite | apply tidyO_ite | apply State.trivet_tidy | apply State.trivetReply_tidy | apply State.write_tidy | apply tidyO_next | apply idle_tidy) | with_reducible (first | refine of1 ?_ (by assumption) | refine of2 ?_ (by assumption) | refine ofS ?_ (by assumption) | refine ofS1 ?_ (by assumption) | refine ofS2 ?_ (by assumption) | refine ofS3 ?_ (by assumption) | refine of3 ?_ (by assumption)) | dsimp only)

theorem execTrivetSeal_tidy {pq} {sub : Option Submission} {s : State} (hs : Tidy pq s) : TidyO pq (execTrivetSeal sub s) := by
  unfold execTrivetSeal
  repeat' (first | with_reducible assumption | with_reducible intro _ | (extract_lets +onlyGivenNames zz; first | (refine (fun (hz : Tidy pq zz) => ?_) ?_; (on_goal 1 => (try clear_value zz; rename' zz => zy, hz => hy)); (on_goal 2 => subst zz)) | (try clear_value zz; rename' zz => zy)) | with_reducible (first | apply tidy_ite | apply tidyO_ite | apply tidy1_ite | apply tidy2_ite | apply State.trivet_tidy | apply State.trivetReply_tidy | apply State.write_tidy | apply State.drawBytes_tidy | apply tidyO_next | apply idle_tidy | apply tidy1_mk | apply tidy2_mk) | with_reducible (apply tidy_fst; first | apply tidy1_ite) | with_reducible (apply tidy_snd; first | apply State.drawBytes_tidy | apply tidy2_ite) | with_reducible (first | refine of1 ?_ (by assumption) | refine of2 ?_ (by assumption) | refine ofS ?_ (by assumption) | refine ofS1 ?_ (by assumption) | refine ofS2 ?_ (by assumption) | refine ofS3 ?_ (by assumption) | refine of3 ?_ (by assumption)) | dsimp only)

theorem execTrivetUnseal_tidy {pq} {sub : Option Submission} {s : State} (hs : Tidy pq s) : TidyO pq (execTrivetUnseal sub s) := by
  unfold execTrivetUnseal
  repeat' (first | with_reducible assumption | with_reducible intro _ | (extract_lets +onlyGivenNames zz; first | (refine (fun (hz : Tidy pq zz) => ?_) ?_; (on_goal 1 => (try clear_value zz; rename' zz => zy, hz => hy)); (on_goal 2 => subst zz)) | (try clear_value zz; rename' zz => zy)) | with_reducible (first | apply idle_tidy | apply State.trivet_tidy | apply State.trivetReply_tidy | apply State.write_tidy | apply tidyO_next | apply tidyS_none | apply tidyS_some | apply tidyS1_none | apply tidyS2_none) | split | with_reducible (first | apply tidy_ite | apply tidyO_ite) | with_reducible (fail_if_no_progress apply tidy_mk) | with_reducible (first | refine of1 ?_ (by assumption) | refine of2 ?_ (by assumption) | refine ofS ?_ (by assumption) | refine ofS1 ?_ (by assumption) | refine ofS2 ?_ (by assumption) | refine ofS3 ?_ (by assumption) | refine of3 ?_ (by assumption)) | dsimp only)

theorem State.setBlob_tidy {pq} {s : State} {n : ℕ} {b : Option Bytes} (hs : Tidy pq s) : Tidy pq (State.setBlob s n b) := by
  unfold State.setBlob
  repeat' (first | with_reducible assumption | with_reducible intro _ | (extract_lets +onlyGivenNames zz; first | (refine (fun (hz : Tidy pq zz) => ?_) ?_; (on_goal 1 => (try clear_value zz; rename' zz => zy, hz => hy)); (on_goal 2 => subst zz)) | (try clear_value zz; rename' zz => zy)) | with_reducible (first | apply tidy1_mk | apply tidy2_mk | apply tidyS_none | apply tidyS_some | apply tidyS1_none | apply tidyS2_none) | split | with_reducible (fail_if_no_progress apply tidy_mk) | with_reducible (first | refine of1 ?_ (by assumption) | refine of2 ?_ (by assumption) | refine ofS ?_ (by assumption) | refine ofS1 ?_ (by assumption) | refine ofS2 ?_ (by assumption) | refine ofS3 ?_ (by assumption) | refine of3 ?_ (by assumption)) | dsimp only)

theorem execTrivetKekImport_tidy {pq} {sub : Option Submission} {s : State} (hs : Tidy pq s) : TidyO pq (execTrivetKekImport sub s) := by
  unfold execTrivetKekImport
  repeat' (first | with_reducible assumption | with_reducible intro _ | (extract_lets +onlyGivenNames zz; first | (refine (fun (hz : Tidy pq zz) => ?_) ?_; (on_goal 1 => (try clear_value zz; rename' zz => zy, hz => hy)); (on_goal 2 => subst zz)) | (try clear_value zz; rename' zz => zy)) | with_reducible (first | apply idle_tidy | apply State.trivet_tidy | apply State.trivetReply_tidy | apply State.loadSlot_tidy | apply tidyO_next | apply tidy1_mk | apply tidy2_mk | apply tidyS_none | apply tidyS_some | apply tidyS1_none | apply tidyS2_none) | with_reducible (apply tidy_fst; first | apply tidy1_ite) | with_reducible (apply tidy_snd; first | apply tidy2_ite) | split | with_reducible (first | apply tidy_ite | apply tidyO_ite | apply tidy1_ite | apply tidy2_ite) | with_reducible (fail_if_no_progress apply tidy_mk) | with_reducible (first | refine of1 ?_ (by assumption) | refine of2 ?_ (by assumption) | refine ofS ?_ (by assumption) | refine ofS1 ?_ (by assumption) | refine ofS2 ?_ (by assumption) | refine ofS3 ?_ (by assumption) | refine of3 ?_ (by assumption)) | dsimp only)

theorem execTrivetKekStore_tidy {pq} {sub : Option Submission} {s : State} (hs : Tidy pq s) : TidyO pq (execTrivetKekStore sub s) := by
  unfold execTrivetKekStore
  repeat' (first | with_reducible assumption | with_reducible intro _ | (extract_lets +onlyGivenNames zz; first | (refine (fun (hz : Tidy pq zz) => ?_) ?_; (on_goal 1 => (try clear_value zz; rename' zz => zy, hz => hy)); (on_goal 2 => subst zz)) | (try clear_value zz; rename' zz => zy)) | with_reducible (first | apply tidy_ite | apply tidyO_ite | apply State.trivet_tidy | apply State.trivetReply_tidy | apply State.setBlob_tidy | apply tidyO_next | apply idle_tidy) | with_reducible (first | refine of1 ?_ (by assumption) | refine of2 ?_ (by assumption) | refine ofS ?_ (by assumption) | refine ofS1 ?_ (by assumption) | refine ofS2 ?_ (by assumption) | refine ofS3 ?_ (by assumption) | refine of3 ?_ (by assumption)) | dsimp only)

theorem execTrivetKekRemove_tidy {pq} {sub : Option Submission} {s : State} (hs : Tidy pq s) : TidyO pq (execTrivetKekRemove sub s) := by
  unfold execTrivetKekRemove
  repeat' (first | with_reducible assumption | with_reducible intro _ | (extract_lets +onlyGivenNames zz; first | (refine (fun (hz : Tidy pq zz) => ?_) ?_; (on_goal 1 => (try clear_value zz; rename' zz => zy, hz => hy)); (on_goal 2 => subst zz)) | (try clear_value zz; rename' zz => zy)) | with_reducible (first | apply State.trivet_tidy | apply State.trivetReply_tidy | apply State.setBlob_tidy | apply State.eraseSlot_tidy | apply tidyO_next | apply idle_tidy | apply tidyS_none | apply tidyS_some | apply tidyS1_none | apply tidyS2_none) | with_reducible (first | refine of1 ?_ (by assumption) | refine of2 ?_ (by assumption) | refine ofS ?_ (by assumption) | refine ofS1 ?_ (by assumption) | refine ofS2 ?_ (by assumption) | refine ofS3 ?_ (by assumption) | refine of3 ?_ (by assumption)) | dsimp only)

theorem execTrivetKsvcSet_tidy {pq} {sub : Option Submission} {s : State} (hs : Tidy pq s) : TidyO pq (execTrivetKsvcSet sub s) := by
  unfold execTrivetKsvcSet
  repeat' (first | with_reducible assumption | with_reducible intro _ | (extract_lets +onlyGivenNames zz; first | (refine (fun (hz : Tidy pq zz) => ?_) ?_; (on_goal 1 => (try clear_value zz; rename' zz => zy, hz => hy)); (on_goal 2 => subst zz)) | (try clear_value zz; rename' zz => zy)) | with_reducible (first | apply idle_tidy | apply State.trivet_tidy | apply State.trivetReply_tidy | apply State.setBlob_tidy | apply State.write_tidy | apply State.clearVkr_tidy | apply tidyO_next | apply tidy1_mk | apply tidy2_mk | apply tidyS_none | apply tidyS_some | apply tidyS1_none | apply tidyS2_none) | with_reducible (apply tidy_fst; first | apply tidy1_ite) | with_reducible (apply tidy_snd; first | apply tidy2_ite) | split | with_reducible (first | apply tidy_ite | apply tidyO_ite | apply tidy1_ite | apply tidy2_ite) | with_reducible (fail_if_no_progress apply tidy_mk) | with_reducible (first | refine of1 ?_ (by assumption) | refine of2 ?_ (by assumption) | refine ofS ?_ (by assumption) | refine ofS1 ?_ (by assumption) | refine ofS2 ?_ (by assumption) | refine ofS3 ?_ (by assumption) | refine of3 ?_ (by assumption)) | dsimp only)


/-! ## CiphJobs -/

theorem State.ciphDone_tidy {pq} {s : State} {b : Bytes} {status ctr : ℕ} {tag : Bytes} (hs : Tidy pq s) : Tidy pq (State.ciphDone s b status ctr tag) := by
  unfold State.ciphDone
  repeat' (first | with_reducible assumption | (extract_lets +onlyGivenNames zz; first | (refine (fun (hz : Tidy pq zz) => ?_) ?_; (on_goal 1 => (try clear_value zz; rename' zz => zy, hz => hy)); (on_goal 2 => subst zz)) | (try clear_value zz; rename' zz => zy)) | with_reducible (first | apply tidy_ite | apply State.irq_tidy | apply State.err_tidy | apply State.enq_tidy) | with_reducible (first | refine of1 ?_ (by assumption) | refine of2 ?_ (by assumption) | refine ofS ?_ (by assumption) | refine ofS1 ?_ (by assumption) | refine ofS2 ?_ (by assumption) | refine ofS3 ?_ (by assumption) | refine of3 ?_ (by assumption)) | dsimp only)

theorem State.ciph_tidy {pq} {s : State} {op : ℕ} {sub : Option Submission} {k : State → Bytes → State} (hs : Tidy pq s) (hk : ∀ t e1, Tidy pq t → Tidy pq (k t e1)) : Tidy pq (State.ciph s op sub k) := by
  unfold State.ciph
  repeat' (first | with_reducible assumption | (extract_lets +onlyGivenNames zz; first | (refine (fun (hz : Tidy pq zz) => ?_) ?_; (on_goal 1 => (try clear_value zz; rename' zz => zy, hz => hy)); (on_goal 2 => subst zz)) | (try clear_value zz; rename' zz => zy)) | with_reducible (first | apply State.submit_tidy | apply State.ciphDone_tidy | apply State.deq_tidy | apply tidy1_mk | apply tidy2_mk | apply tidyS_none | apply tidyS_some | apply tidyS1_none | apply tidyS2_none) | with_reducible (apply tidy_fst; first | apply tidy1_ite) | with_reducible (apply tidy_snd; first | apply tidy2_ite) | split | with_reducible (first | apply tidy_ite | apply tidy1_ite | apply tidy2_ite) | with_reducible (fail_if_no_progress apply tidy_mk) | with_reducible (first | apply hk) | with_reducible (first | refine of1 ?_ (by assumption) | refine of2 ?_ (by assumption) | refine ofS ?_ (by assumption) | refine ofS1 ?_ (by assumption) | refine ofS2 ?_ (by assumption) | refine ofS3 ?_ (by assumption) | refine of3 ?_ (by assumption)) | dsimp only)

theorem State.ciphKey_tidy {pq} {s : State} {b : Bytes} {usage : ℕ} {k : State → CiphJob → Bytes → State} (hs : Tidy pq s) (hk : ∀ t e1 e2, Tidy pq t → Tidy pq (k t e1 e2)) : Tidy pq (State.ciphKey s b usage k) := by
  unfold State.ciphKey
  repeat' (first | with_reducible assumption | (extract_lets +onlyGivenNames zz; first | (refine (fun (hz : Tidy pq zz) => ?_) ?_; (on_goal 1 => (try clear_value zz; rename' zz => zy, hz => hy)); (on_goal 2 => subst zz)) | (refine (fun (hz : ∀ t, Tidy pq t → Tidy pq (zz t)) => ?_) ?_; (on_goal 1 => (try clear_value zz; rename' zz => zy, hz => hf)); (on_goal 2 => (subst zz; intro _ _; beta_reduce))) | (refine (fun (hz : ∀ t, Tidy pq (zz t)) => ?_) ?_; (on_goal 1 => (try clear_value zz; rename' zz => zy, hz => hf)); (on_goal 2 => (subst zz; intro _; beta_reduce))) | (try clear_value zz; rename' zz => zy)) | with_reducible (first | apply tidy_ite | apply State.ciphDone_tidy) | with_reducible (first | apply hk) | with_reducible (apply hf) | with_reducible (first | refine of1 ?_ (by assumption) | refine of2 ?_ (by assumption) | refine ofS ?_ (by assumption) | refine ofS1 ?_ (by assumption) | refine ofS2 ?_ (by assumption) | refine ofS3 ?_ (by assumption) | refine of3 ?_ (by assumption)) | dsimp only)

theorem State.ciphIv_tidy {pq} {s : State} {b : Bytes} {j : CiphJob} {k : State → ℕ → Bytes → State} (hs : Tidy pq s) (hk : ∀ t e1 e2, Tidy pq t → Tidy pq (k t e1 e2)) : Tidy pq (State.ciphIv s b j k) := by
  unfold State.ciphIv
  repeat' (first | with_reducible assumption | with_reducible (first | apply State.takeIv_tidy | apply State.ciphDone_tidy | apply State.irq_tidy | apply State.count_tidy | apply tidy1_mk | apply tidy2_mk | apply tidyS_none | apply tidyS_some | apply tidyS1_none | apply tidyS2_none) | split | with_reducible (fail_if_no_progress apply tidy_mk) | with_reducible (first | apply hk) | with_reducible (first | refine of1 ?_ (by assumption) | refine of2 ?_ (by assumption) | refine ofS ?_ (by assumption) | refine ofS1 ?_ (by assumption) | refine ofS2 ?_ (by assumption) | refine ofS3 ?_ (by assumption) | refine of3 ?_ (by assumption)) | dsimp only)

theorem State.ciphOut_tidy {pq} {s : State} {b : Bytes} {n : ℕ} {k : State → State} (hs : Tidy pq s) (hk : ∀ t, Tidy pq t → Tidy pq (k t)) : Tidy pq (State.ciphOut s b n k) := by
  unfold State.ciphOut
  repeat' (first | with_reducible assumption | with_reducible (first | apply tidy_ite | apply State.ciphDone_tidy) | with_reducible (first | apply hk))

theorem execCiphGcmEnc_tidy {pq} {sub : Option Submission} {s : State} (hs : Tidy pq s) : TidyO pq (execCiphGcmEnc sub s) := by
  unfold execCiphGcmEnc
  repeat' (first | with_reducible assumption | with_reducible intro _ | (extract_lets +onlyGivenNames zz; first | (refine (fun (hz : Tidy pq zz) => ?_) ?_; (on_goal 1 => (try clear_value zz; rename' zz => zy, hz => hy)); (on_goal 2 => subst zz)) | (try clear_value zz; rename' zz => zy)) | with_reducible (first | apply State.ciph_tidy | apply State.ciphKey_tidy | apply State.ciphOut_tidy | apply State.ciphIv_tidy | apply State.ciphDone_tidy | apply State.write_tidy | apply tidyO_next | apply idle_tidy) | with_reducible (first | refine of1 ?_ (by assumption) | refine of2 ?_ (by assumption) | refine ofS ?_ (by assumption) | refine ofS1 ?_ (by assumption) | refine ofS2 ?_ (by assumption) | refine ofS3 ?_ (by assumption) | refine of3 ?_ (by assumption)) | dsimp only)

theorem execCiphGcmDec_tidy {pq} {sub : Option Submission} {s : State} (hs : Tidy pq s) : TidyO pq (execCiphGcmDec sub s) := by
  unfold execCiphGcmDec
  repeat' (first | with_reducible assumption | with_reducible intro _ | (extract_lets +onlyGivenNames zz; first | (refine (fun (hz : Tidy pq zz) => ?_) ?_; (on_goal 1 => (try clear_value zz; rename' zz => zy, hz => hy)); (on_goal 2 => subst zz)) | (try clear_value zz; rename' zz => zy)) | with_reducible (first | apply tidy_ite | apply tidyO_ite | apply State.ciph_tidy | apply State.ciphKey_tidy | apply State.ciphOut_tidy | apply State.ciphDone_tidy | apply State.write_tidy | apply tidyO_next | apply idle_tidy) | with_reducible (first | refine of1 ?_ (by assumption) | refine of2 ?_ (by assumption) | refine ofS ?_ (by assumption) | refine ofS1 ?_ (by assumption) | refine ofS2 ?_ (by assumption) | refine ofS3 ?_ (by assumption) | refine of3 ?_ (by assumption)) | dsimp only)

theorem execCiphCtrEnc_tidy {pq} {sub : Option Submission} {s : State} (hs : Tidy pq s) : TidyO pq (execCiphCtrEnc sub s) := by
  unfold execCiphCtrEnc
  repeat' (first | with_reducible assumption | with_reducible intro _ | with_reducible (first | apply State.ciph_tidy | apply State.ciphKey_tidy | apply State.ciphOut_tidy | apply State.ciphIv_tidy | apply State.ciphDone_tidy | apply State.write_tidy | apply tidyO_next | apply idle_tidy | apply tidy1_mk | apply tidy2_mk))

theorem execCiphCtrDec_tidy {pq} {sub : Option Submission} {s : State} (hs : Tidy pq s) : TidyO pq (execCiphCtrDec sub s) := by
  unfold execCiphCtrDec
  repeat' (first | with_reducible assumption | with_reducible intro _ | with_reducible (first | apply State.ciph_tidy | apply State.ciphKey_tidy | apply State.ciphOut_tidy | apply State.ciphDone_tidy | apply State.write_tidy | apply tidyO_next | apply idle_tidy | apply tidy1_mk | apply tidy2_mk))

theorem execCiphGmacGen_tidy {pq} {sub : Option Submission} {s : State} (hs : Tidy pq s) : TidyO pq (execCiphGmacGen sub s) := by
  unfold execCiphGmacGen
  repeat' (first | with_reducible assumption | with_reducible intro _ | with_reducible (first | apply State.ciph_tidy | apply State.ciphKey_tidy | apply State.ciphIv_tidy | apply State.ciphDone_tidy | apply tidyO_next | apply idle_tidy))

theorem execCiphGmacVer_tidy {pq} {sub : Option Submission} {s : State} (hs : Tidy pq s) : TidyO pq (execCiphGmacVer sub s) := by
  unfold execCiphGmacVer
  repeat' (first | with_reducible assumption | with_reducible intro _ | (extract_lets +onlyGivenNames zz; first | (refine (fun (hz : Tidy pq zz) => ?_) ?_; (on_goal 1 => (try clear_value zz; rename' zz => zy, hz => hy)); (on_goal 2 => subst zz)) | (try clear_value zz; rename' zz => zy)) | with_reducible (first | apply tidy_ite | apply tidyO_ite | apply State.ciph_tidy | apply State.ciphKey_tidy | apply State.ciphDone_tidy | apply tidyO_next | apply idle_tidy) | with_reducible (first | refine of1 ?_ (by assumption) | refine of2 ?_ (by assumption) | refine ofS ?_ (by assumption) | refine ofS1 ?_ (by assumption) | refine ofS2 ?_ (by assumption) | refine ofS3 ?_ (by assumption) | refine of3 ?_ (by assumption)) | dsimp only)

theorem execCiphCmacGen_tidy {pq} {sub : Option Submission} {s : State} (hs : Tidy pq s) : TidyO pq (execCiphCmacGen sub s) := by
  unfold execCiphCmacGen
  repeat' (first | with_reducible assumption | with_reducible intro _ | with_reducible (first | apply State.ciph_tidy | apply State.ciphKey_tidy | apply State.ciphDone_tidy | apply tidyO_next | apply idle_tidy))

theorem execCiphCmacVer_tidy {pq} {sub : Option Submission} {s : State} (hs : Tidy pq s) : TidyO pq (execCiphCmacVer sub s) := by
  unfold execCiphCmacVer
  repeat' (first | with_reducible assumption | with_reducible intro _ | with_reducible (first | apply tidy_ite | apply tidyO_ite | apply State.ciph_tidy | apply State.ciphKey_tidy | apply State.ciphDone_tidy | apply tidyO_next | apply idle_tidy))

theorem State.ff1Job_tidy {pq} {s : State} {b : Bytes} {usage : ℕ} {enc : Bool} (hs : Tidy pq s) : Tidy pq (State.ff1Job s b usage enc) := by
  unfold State.ff1Job
  repeat' (first | with_reducible assumption | with_reducible intro _ | (extract_lets +onlyGivenNames zz; first | (refine (fun (hz : Tidy pq zz) => ?_) ?_; (on_goal 1 => (try clear_value zz; rename' zz => zy, hz => hy)); (on_goal 2 => subst zz)) | (try clear_value zz; rename' zz => zy)) | with_reducible (first | apply State.ciphKey_tidy | apply State.ciphOut_tidy | apply State.ciphDone_tidy | apply State.write_tidy | apply map_tidyS | apply map_tidyS_of2 | apply map_tidyS_any | apply tidyS_none | apply tidyS_some | apply tidyS1_none | apply tidyS2_none) | split | with_reducible (first | apply tidy_ite) | with_reducible (fail_if_no_progress apply tidy_mk) | with_reducible (first | refine of1 ?_ (by assumption) | refine of2 ?_ (by assumption) | refine ofS ?_ (by assumption) | refine ofS1 ?_ (by assumption) | refine ofS2 ?_ (by assumption) | refine ofS3 ?_ (by assumption) | refine of3 ?_ (by assumption)) | dsimp only)

theorem execCiphFf1Enc_tidy {pq} {sub : Option Submission} {s : State} (hs : Tidy pq s) : TidyO pq (execCiphFf1Enc sub s) := by
  unfold execCiphFf1Enc
  repeat' (first | with_reducible assumption | with_reducible intro _ | with_reducible (first | apply State.ciph_tidy | apply State.ff1Job_tidy | apply tidyO_next | apply idle_tidy))

theorem execCiphFf1Dec_tidy {pq} {sub : Option Submission} {s : State} (hs : Tidy pq s) : TidyO pq (execCiphFf1Dec sub s) := by
  unfold execCiphFf1Dec
  repeat' (first | with_reducible assumption | with_reducible intro _ | with_reducible (first | apply State.ciph_tidy | apply State.ff1Job_tidy | apply tidyO_next | apply idle_tidy))

theorem execCiphMeterWrap_tidy {pq} {sub : Option Submission} {s : State} (hs : Tidy pq s) : TidyO pq (execCiphMeterWrap sub s) := by
  unfold execCiphMeterWrap
  repeat' (first | with_reducible assumption | with_reducible intro _ | (extract_lets +onlyGivenNames zz; first | (refine (fun (hz : Tidy pq zz) => ?_) ?_; (on_goal 1 => (try clear_value zz; rename' zz => zy, hz => hy)); (on_goal 2 => subst zz)) | (try clear_value zz; rename' zz => zy)) | with_reducible (first | apply idle_tidy | apply State.ciph_tidy | apply State.ciphKey_tidy | apply State.ciphOut_tidy | apply State.ciphDone_tidy | apply State.write_tidy | apply tidyO_next | apply tidyS_none | apply tidyS_some | apply tidyS1_none | apply tidyS2_none) | split | with_reducible (first | apply tidy_ite | apply tidyO_ite) | with_reducible (fail_if_no_progress apply tidy_mk) | with_reducible (first | refine of1 ?_ (by assumption) | refine of2 ?_ (by assumption) | refine ofS ?_ (by assumption) | refine ofS1 ?_ (by assumption) | refine ofS2 ?_ (by assumption) | refine ofS3 ?_ (by assumption) | refine of3 ?_ (by assumption)) | dsimp only)

theorem execCiphMeterEnc_tidy {pq} {sub : Option Submission} {s : State} (hs : Tidy pq s) : TidyO pq (execCiphMeterEnc sub s) := by
  unfold execCiphMeterEnc
  repeat' (first | with_reducible assumption | with_reducible intro _ | (extract_lets +onlyGivenNames zz; first | (refine (fun (hz : Tidy pq zz) => ?_) ?_; (on_goal 1 => (try clear_value zz; rename' zz => zy, hz => hy)); (on_goal 2 => subst zz)) | (try clear_value zz; rename' zz => zy)) | with_reducible (first | apply idle_tidy | apply State.ciph_tidy | apply State.ciphDone_tidy | apply State.ciphOut_tidy | apply State.irq_tidy | apply State.count_tidy | apply State.write_tidy | apply State.takeDownIvc_tidy | apply tidyO_next | apply tidy1_mk | apply tidy2_mk | apply tidyS_none | apply tidyS_some | apply tidyS1_none | apply tidyS2_none) | with_reducible (apply tidy_fst; first | apply tidy1_ite) | with_reducible (apply tidy_snd; first | apply tidy2_ite) | split | with_reducible (first | apply tidy_ite | apply tidyO_ite | apply tidy1_ite | apply tidy2_ite) | with_reducible (fail_if_no_progress apply tidy_mk) | with_reducible (first | refine of1 ?_ (by assumption) | refine of2 ?_ (by assumption) | refine ofS ?_ (by assumption) | refine ofS1 ?_ (by assumption) | refine ofS2 ?_ (by assumption) | refine ofS3 ?_ (by assumption) | refine of3 ?_ (by assumption)) | dsimp only)

theorem State.rewrapGo_tidy {pq} {s : State} (hs : Tidy pq s) : Tidy pq (State.rewrapGo s) := by
  unfold State.rewrapGo
  repeat' (first | with_reducible assumption | (extract_lets +onlyGivenNames zz; first | (refine (fun (hz : Tidy pq zz) => ?_) ?_; (on_goal 1 => (try clear_value zz; rename' zz => zy, hz => hy)); (on_goal 2 => subst zz)) | (refine (fun (hz : ∀ t, Tidy pq t → Tidy pq (zz t)) => ?_) ?_; (on_goal 1 => (try clear_value zz; rename' zz => zy, hz => hf)); (on_goal 2 => (subst zz; intro _ _; beta_reduce))) | (refine (fun (hz : ∀ t, Tidy pq (zz t)) => ?_) ?_; (on_goal 1 => (try clear_value zz; rename' zz => zy, hz => hf)); (on_goal 2 => (subst zz; intro _; beta_reduce))) | (try clear_value zz; rename' zz => zy)) | with_reducible (first | apply State.setF_tidy) | with_reducible (fail_if_no_progress apply tidy_mk) | with_reducible (apply hf) | with_reducible (first | refine of1 ?_ (by assumption) | refine of2 ?_ (by assumption) | refine ofS ?_ (by assumption) | refine ofS1 ?_ (by assumption) | refine ofS2 ?_ (by assumption) | refine ofS3 ?_ (by assumption) | refine of3 ?_ (by assumption)) | dsimp only)

theorem execRewrapGo_tidy {pq} {req : Req} {source : BitVec 1} {s : State} (hs : Tidy pq s) : TidyO pq (execRewrapGo req source s) := by
  unfold execRewrapGo
  repeat' (first | with_reducible assumption | with_reducible intro _ | with_reducible (first | apply tidy_ite | apply tidyO_ite | apply State.onField_tidy | apply State.refuseAt_tidy | apply State.onAction_tidy | apply State.rewrapGo_tidy | apply tidyO_next | apply idle_tidy) | with_reducible (fail_if_no_progress apply tidy_mk))

theorem State.rewrapEnd_tidy {pq} {s : State} (hs : Tidy pq s) : Tidy pq (State.rewrapEnd s) := by
  unfold State.rewrapEnd
  repeat' (first | with_reducible assumption | with_reducible (first | apply State.irq_tidy | apply State.setF_tidy))

theorem State.rewrapOne_tidy {pq} {s : State} {m src : ℕ} (hs : Tidy pq s) : Tidy pq (State.rewrapOne s m src) := by
  unfold State.rewrapOne
  repeat' (first | with_reducible assumption | (extract_lets +onlyGivenNames zz; first | (refine (fun (hz : Tidy pq zz) => ?_) ?_; (on_goal 1 => (try clear_value zz; rename' zz => zy, hz => hy)); (on_goal 2 => subst zz)) | (refine (fun (hz : ∀ t, Tidy pq t → Tidy pq (zz t)) => ?_) ?_; (on_goal 1 => (try clear_value zz; rename' zz => zy, hz => hf)); (on_goal 2 => (subst zz; intro _ _; beta_reduce))) | (refine (fun (hz : ∀ t, Tidy pq (zz t)) => ?_) ?_; (on_goal 1 => (try clear_value zz; rename' zz => zy, hz => hf)); (on_goal 2 => (subst zz; intro _; beta_reduce))) | (try clear_value zz; rename' zz => zy)) | with_reducible (first | apply State.setF_tidy | apply State.count_tidy | apply State.write_tidy | apply State.touch_tidy | apply State.setRec_tidy | apply tidy1_mk | apply tidy2_mk | apply tidyS_none | apply tidyS_some | apply tidyS1_none | apply tidyS2_none) | with_reducible (apply tidy_fst; first | apply tidy1_ite) | with_reducible (apply tidy_snd; first | apply tidy2_ite) | split | with_reducible (first | apply tidy_ite | apply tidy1_ite | apply tidy2_ite) | with_reducible (fail_if_no_progress apply tidy_mk) | with_reducible (apply hf) | with_reducible (first | refine of1 ?_ (by assumption) | refine of2 ?_ (by assumption) | refine ofS ?_ (by assumption) | refine ofS1 ?_ (by assumption) | refine ofS2 ?_ (by assumption) | refine ofS3 ?_ (by assumption) | refine of3 ?_ (by assumption)) | dsimp only)

theorem execRewrapRecord_tidy {pq} {s : State} (hs : Tidy pq s) : TidyO pq (execRewrapRecord s) := by
  unfold execRewrapRecord
  repeat' (first | with_reducible assumption | (extract_lets +onlyGivenNames zz; first | (refine (fun (hz : Tidy pq zz) => ?_) ?_; (on_goal 1 => (try clear_value zz; rename' zz => zy, hz => hy)); (on_goal 2 => subst zz)) | (refine (fun (hz : ∀ t, Tidy pq t → Tidy pq (zz t)) => ?_) ?_; (on_goal 1 => (try clear_value zz; rename' zz => zy, hz => hf)); (on_goal 2 => (subst zz; intro _ _; beta_reduce))) | (refine (fun (hz : ∀ t, Tidy pq (zz t)) => ?_) ?_; (on_goal 1 => (try clear_value zz; rename' zz => zy, hz => hf)); (on_goal 2 => (subst zz; intro _; beta_reduce))) | (try clear_value zz; rename' zz => zy)) | with_reducible (first | apply idle_tidy | apply State.rewrapEnd_tidy | apply State.rewrapOne_tidy | apply State.setF_tidy | apply tidyO_next | apply tidyS_none | apply tidyS_some | apply tidyS1_none | apply tidyS2_none) | split | with_reducible (first | apply tidy_ite | apply tidyO_ite) | with_reducible (fail_if_no_progress apply tidy_mk) | with_reducible (apply hf) | with_reducible (first | refine of1 ?_ (by assumption) | refine of2 ?_ (by assumption) | refine ofS ?_ (by assumption) | refine ofS1 ?_ (by assumption) | refine ofS2 ?_ (by assumption) | refine ofS3 ?_ (by assumption) | refine of3 ?_ (by assumption)) | dsimp only)


/-! ## Panel -/

theorem State.panelShow_tidy {pq} {s : State} (hs : Tidy pq s) : Tidy pq (State.panelShow s) := by
  unfold State.panelShow
  repeat' (first | with_reducible assumption | (extract_lets +onlyGivenNames zz; first | (refine (fun (hz : Tidy pq zz) => ?_) ?_; (on_goal 1 => (try clear_value zz; rename' zz => zy, hz => hy)); (on_goal 2 => subst zz)) | (try clear_value zz; rename' zz => zy)) | with_reducible (first | apply State.show_tidy | apply tidy1_mk | apply tidy2_mk) | with_reducible (first | refine of1 ?_ (by assumption) | refine of2 ?_ (by assumption) | refine ofS ?_ (by assumption) | refine ofS1 ?_ (by assumption) | refine ofS2 ?_ (by assumption) | refine ofS3 ?_ (by assumption) | refine of3 ?_ (by assumption)) | dsimp only)

theorem State.panelChange_tidy {pq} {s : State} {step : ℕ → ℕ → ℕ} (hs : Tidy pq s) : Tidy pq (State.panelChange s step) := by
  unfold State.panelChange
  repeat' (first | with_reducible assumption | (extract_lets +onlyGivenNames zz; first | (refine (fun (hz : Tidy pq zz) => ?_) ?_; (on_goal 1 => (try clear_value zz; rename' zz => zy, hz => hy)); (on_goal 2 => subst zz)) | (try clear_value zz; rename' zz => zy)) | with_reducible (first | apply tidy_ite | apply State.handOver_tidy | apply State.panelShow_tidy | apply State.setF_tidy | apply tidy1_mk | apply tidy2_mk) | with_reducible (fail_if_no_progress apply tidy_mk) | with_reducible (first | refine of1 ?_ (by assumption) | refine of2 ?_ (by assumption) | refine ofS ?_ (by assumption) | refine ofS1 ?_ (by assumption) | refine ofS2 ?_ (by assumption) | refine ofS3 ?_ (by assumption) | refine of3 ?_ (by assumption)) | dsimp only)

theorem execPanelItemChange_tidy {pq} {s : State} (hs : Tidy pq s) : TidyO pq (execPanelItemChange s) := by
  unfold execPanelItemChange
  repeat' (first | with_reducible assumption | with_reducible intro _ | with_reducible (first | apply tidy_ite | apply tidyO_ite | apply State.show_tidy | apply State.showValue_tidy | apply State.panelChange_tidy | apply idle_tidy | apply tidyO_next | apply tidy1_mk | apply tidy2_mk) | with_reducible (fail_if_no_progress apply tidy_mk))

theorem State.panelAbandon_tidy {pq} {s : State} (hs : Tidy pq s) : Tidy pq (State.panelAbandon s) := by
  unfold State.panelAbandon
  repeat' (first | with_reducible assumption | with_reducible (first | apply tidy_ite | apply State.setF_tidy | apply tidy1_mk | apply tidy2_mk | apply tidyS_none | apply tidyS_some | apply tidyS1_none | apply tidyS2_none) | with_reducible (fail_if_no_progress apply tidy_mk))

theorem State.panelMeter_tidy {pq} {s : State} (hs : Tidy pq s) : Tidy pq (State.panelMeter s) := by
  unfold State.panelMeter
  repeat' (first | with_reducible assumption | (extract_lets +onlyGivenNames zz; first | (refine (fun (hz : Tidy pq zz) => ?_) ?_; (on_goal 1 => (try clear_value zz; rename' zz => zy, hz => hy)); (on_goal 2 => subst zz)) | (try clear_value zz; rename' zz => zy)) | with_reducible (first | apply tidy_ite | apply State.show_tidy | apply State.panelAbandon_tidy | apply State.setF_tidy | apply tidy1_mk | apply tidy2_mk) | with_reducible (fail_if_no_progress apply tidy_mk) | with_reducible (first | refine of1 ?_ (by assumption) | refine of2 ?_ (by assumption) | refine ofS ?_ (by assumption) | refine ofS1 ?_ (by assumption) | refine ofS2 ?_ (by assumption) | refine ofS3 ?_ (by assumption) | refine of3 ?_ (by assumption)) | dsimp only)

theorem State.panelSubmit_tidy {pq} {s : State} (hs : Tidy pq s) : Tidy pq (State.panelSubmit s) := by
  unfold State.panelSubmit
  repeat' (first | with_reducible assumption | with_reducible intro _ | (extract_lets +onlyGivenNames zz; first | (refine (fun (hz : Tidy pq zz) => ?_) ?_; (on_goal 1 => (try clear_value zz; rename' zz => zy, hz => hy)); (on_goal 2 => subst zz)) | (try clear_value zz; rename' zz => zy)) | with_reducible (first | apply State.show_tidy | apply State.panelIn_tidy | apply tidy1_mk | apply tidy2_mk | apply map_tidyS | apply map_tidyS_of2 | apply map_tidyS_any) | with_reducible (fail_if_no_progress apply tidy_mk) | with_reducible (first | refine of1 ?_ (by assumption) | refine of2 ?_ (by assumption) | refine ofS ?_ (by assumption) | refine ofS1 ?_ (by assumption) | refine ofS2 ?_ (by assumption) | refine ofS3 ?_ (by assumption) | refine of3 ?_ (by assumption)) | dsimp only)

theorem State.entryKey_tidy {pq} {s : State} {k : ℕ} (hs : Tidy pq s) : Tidy pq (State.entryKey s k) := by
  unfold State.entryKey
  extract_lets +onlyGivenNames meter limit a t
  have ht : Tidy pq t := tidy_mk hs
  exact tidy_ite (tidy_ite (tidy_mk ht) ht) (tidy_ite (State.panelAbandon_tidy ht) (tidy_ite (tidy_mk ht) (tidy_ite
    (tidy_ite (tidy_ite ht (State.panelMeter_tidy ht)) (tidy_ite (State.panelSubmit_tidy ht) ht)) ht)))

theorem State.listKey_tidy {pq} {s : State} {k : ℕ} (hs : Tidy pq s) : Tidy pq (State.listKey s k) := by
  unfold State.listKey
  repeat' (first | with_reducible assumption | with_reducible intro _ | with_reducible (first | apply tidy_ite | apply State.show_tidy | apply State.setF_tidy | apply State.panelChange_tidy | apply tidy1_mk | apply tidy2_mk) | with_reducible (fail_if_no_progress apply tidy_mk))

theorem State.panelKey_tidy {pq} {s : State} {k : ℕ} (hs : Tidy pq s) : Tidy pq (State.panelKey s k) := by
  unfold State.panelKey
  repeat' (first | with_reducible assumption | (extract_lets +onlyGivenNames zz; first | (refine (fun (hz : Tidy pq zz) => ?_) ?_; (on_goal 1 => (try clear_value zz; rename' zz => zy, hz => hy)); (on_goal 2 => subst zz)) | (refine (fun (hz : ∀ t, Tidy pq t → Tidy pq (zz t)) => ?_) ?_; (on_goal 1 => (try clear_value zz; rename' zz => zy, hz => hf)); (on_goal 2 => (subst zz; intro _ _; beta_reduce))) | (refine (fun (hz : ∀ t, Tidy pq (zz t)) => ?_) ?_; (on_goal 1 => (try clear_value zz; rename' zz => zy, hz => hf)); (on_goal 2 => (subst zz; intro _; beta_reduce))) | (try clear_value zz; rename' zz => zy)) | with_reducible (first | apply tidy_ite | apply State.irq_tidy | apply State.setF_tidy | apply State.entryKey_tidy | apply State.listKey_tidy) | with_reducible (apply hf) | with_reducible (first | refine of1 ?_ (by assumption) | refine of2 ?_ (by assumption) | refine ofS ?_ (by assumption) | refine ofS1 ?_ (by assumption) | refine ofS2 ?_ (by assumption) | refine ofS3 ?_ (by assumption) | refine of3 ?_ (by assumption)) | dsimp only)

theorem execPanelEntryTimeout_tidy {pq} {s : State} (hs : Tidy pq s) : TidyO pq (execPanelEntryTimeout s) := by
  unfold execPanelEntryTimeout
  repeat' (first | with_reducible assumption | with_reducible (first | apply tidy_ite | apply tidyO_ite | apply State.panelAbandon_tidy | apply idle_tidy | apply tidyO_next))

theorem execPanelLockEnd_tidy {pq} {s : State} (hs : Tidy pq s) : TidyO pq (execPanelLockEnd s) := by
  unfold execPanelLockEnd
  split
  · refine tidyO_ite ?_ (idle_tidy hs)
    exact tidyO_next (tidy_ite (State.setF_tidy (tidy_mk hs)) (tidy_mk hs))
  · exact idle_tidy hs


/-! ## FtlOps -/

theorem State.resetDies_tidy {pq} {s : State} {l : List DieParam} (hs : Tidy pq s) : Tidy pq (State.resetDies s l) := by
  unfold State.resetDies
  repeat' (first | with_reducible assumption | with_reducible intro _ | (extract_lets +onlyGivenNames zz; first | (refine (fun (hz : Tidy pq zz) => ?_) ?_; (on_goal 1 => (try clear_value zz; rename' zz => zy, hz => hy)); (on_goal 2 => subst zz)) | (try clear_value zz; rename' zz => zy)) | with_reducible (first | apply foldl_tidy | apply foldl_tidy1 | apply tidy1_mk | apply tidy2_mk | apply map_tidyS | apply map_tidyS_of2 | apply map_tidyS_any | apply tidyS_none | apply tidyS_some | apply tidyS1_none | apply tidyS2_none) | with_reducible (apply tidy_fst; first | apply foldl_tidy1) | with_reducible (apply tidy_snd; first | apply foldl_tidy2) | with_reducible (fail_if_no_progress apply tidy_mk) | with_reducible (first | refine of1 ?_ (by assumption) | refine of2 ?_ (by assumption) | refine ofS ?_ (by assumption) | refine ofS1 ?_ (by assumption) | refine ofS2 ?_ (by assumption) | refine ofS3 ?_ (by assumption) | refine of3 ?_ (by assumption)) | dsimp only)

theorem State.identify_tidy {pq} {s : State} {l : List DieParam} (hs : Tidy pq s) : Tidy pq (State.identify s l) := by
  unfold State.identify
  repeat' (first | with_reducible assumption | with_reducible intro _ | (extract_lets +onlyGivenNames zz; first | (refine (fun (hz : Tidy pq zz) => ?_) ?_; (on_goal 1 => (try clear_value zz; rename' zz => zy, hz => hy)); (on_goal 2 => subst zz)) | (refine (fun (hz : ∀ t, Tidy pq t → Tidy pq (zz t)) => ?_) ?_; (on_goal 1 => (try clear_value zz; rename' zz => zy, hz => hf)); (on_goal 2 => (subst zz; intro _ _; beta_reduce))) | (refine (fun (hz : ∀ t, Tidy pq (zz t)) => ?_) ?_; (on_goal 1 => (try clear_value zz; rename' zz => zy, hz => hf)); (on_goal 2 => (subst zz; intro _; beta_reduce))) | (try clear_value zz; rename' zz => zy)) | with_reducible (first | apply State.setF_tidy | apply map_tidyS | apply map_tidyS_of2 | apply map_tidyS_any) | split | with_reducible (fail_if_no_progress apply tidy_mk) | with_reducible (apply hf) | with_reducible (first | refine of1 ?_ (by assumption) | refine of2 ?_ (by assumption) | refine ofS ?_ (by assumption) | refine ofS1 ?_ (by assumption) | refine ofS2 ?_ (by assumption) | refine ofS3 ?_ (by assumption) | refine of3 ?_ (by assumption)) | dsimp only)

theorem State.discover_tidy {pq} {s : State} {l : List DieParam} (hs : Tidy pq s) : Tidy pq (State.discover s l) := by
  unfold State.discover
  repeat' (first | with_reducible assumption | with_reducible (first | apply State.identify_tidy | apply State.resetDies_tidy))

theorem State.setDie_tidy {pq} {s : State} {d : ℕ} {x : Die} (hs : Tidy pq s) : Tidy pq (State.setDie s d x) := by
  unfold State.setDie
  repeat' (first | with_reducible assumption | with_reducible (fail_if_no_progress apply tidy_mk))

theorem State.setBlk_tidy {pq} {s : State} {p : ℕ} {b : Blk} (hs : Tidy pq s) : Tidy pq (State.setBlk s p b) := by
  unfold State.setBlk
  repeat' (first | with_reducible assumption | with_reducible (fail_if_no_progress apply tidy_mk))

theorem State.goReadOnly_tidy {pq} {s : State} (hs : Tidy pq s) : Tidy pq (State.goReadOnly s) := by
  unfold State.goReadOnly
  repeat' (first | with_reducible assumption | with_reducible (first | apply tidy_ite | apply State.stopAcks_tidy | apply State.event_tidy | apply State.irq_tidy | apply State.setF_tidy))

theorem State.judgeSpares_tidy {pq} {s : State} (hs : Tidy pq s) : Tidy pq (State.judgeSpares s) := by
  unfold State.judgeSpares
  repeat' (first | with_reducible assumption | (extract_lets +onlyGivenNames zz; first | (refine (fun (hz : Tidy pq zz) => ?_) ?_; (on_goal 1 => (try clear_value zz; rename' zz => zy, hz => hy)); (on_goal 2 => subst zz)) | (try clear_value zz; rename' zz => zy)) | with_reducible (first | apply tidy_ite | apply State.event_tidy | apply State.irq_tidy | apply State.setF_tidy | apply State.judgeAcks_tidy) | with_reducible (first | refine of1 ?_ (by assumption) | refine of2 ?_ (by assumption) | refine ofS ?_ (by assumption) | refine ofS1 ?_ (by assumption) | refine ofS2 ?_ (by assumption) | refine ofS3 ?_ (by assumption) | refine of3 ?_ (by assumption)) | dsimp only)

theorem State.allocBlk_tidy {pq} {s : State} {dies : List ℕ} {b : Blk} (hs : Tidy pq s) : TidyS2 pq (State.allocBlk s dies b) := by
  unfold State.allocBlk
  repeat' (first | with_reducible assumption | with_reducible intro _ | (extract_lets +onlyGivenNames zz; first | (refine (fun (hz : Tidy pq zz) => ?_) ?_; (on_goal 1 => (try clear_value zz; rename' zz => zy, hz => hy)); (on_goal 2 => subst zz)) | (refine (fun (hz : ∀ t, Tidy pq t → Tidy pq (zz t)) => ?_) ?_; (on_goal 1 => (try clear_value zz; rename' zz => zy, hz => hf)); (on_goal 2 => (subst zz; intro _ _; beta_reduce))) | (refine (fun (hz : ∀ t, Tidy pq (zz t)) => ?_) ?_; (on_goal 1 => (try clear_value zz; rename' zz => zy, hz => hf)); (on_goal 2 => (subst zz; intro _; beta_reduce))) | (refine (fun (hz : ∀ e0, Tidy pq (zz e0)) => ?_) ?_; (on_goal 1 => (try clear_value zz; rename' zz => zy, hz => hf)); (on_goal 2 => (subst zz; intro _; beta_reduce))) | (try clear_value zz; rename' zz => zy)) | with_reducible (first | apply State.setBlk_tidy | apply State.judgeSpares_tidy | apply tidy1_mk | apply tidy2_mk | apply tidyS_none | apply tidyS_some | apply tidyS1_none | apply tidyS2_none | apply tidyS2_some) | split | with_reducible (fail_if_no_progress apply tidy_mk) | with_reducible (apply hf) | with_reducible (first | refine of1 ?_ (by assumption) | refine of2 ?_ (by assumption) | refine ofS ?_ (by assumption) | refine ofS1 ?_ (by assumption) | refine ofS2 ?_ (by assumption) | refine ofS3 ?_ (by assumption) | refine of3 ?_ (by assumption)) | dsimp only)

theorem State.mapNote_tidy {pq} {s : State} {n : optParam ℕ 1} (hs : Tidy pq s) : Tidy pq (State.mapNote s n) := by
  unfold State.mapNote
  repeat' (first | with_reducible assumption | with_reducible (first | apply tidy_ite | apply tidy1_mk | apply tidy2_mk) | with_reducible (fail_if_no_progress apply tidy_mk))

theorem State.nextWseq_tidy {pq} {s : State} (hs : Tidy pq s) : Tidy2 pq (State.nextWseq s) := by
  unfold State.nextWseq
  repeat' (first | with_reducible assumption | (extract_lets +onlyGivenNames zz; first | (refine (fun (hz : Tidy pq zz) => ?_) ?_; (on_goal 1 => (try clear_value zz; rename' zz => zy, hz => hy)); (on_goal 2 => subst zz)) | (try clear_value zz; rename' zz => zy)) | with_reducible (first | apply State.set2_tidy | apply tidy1_mk | apply tidy2_mk) | with_reducible (first | refine of1 ?_ (by assumption) | refine of2 ?_ (by assumption) | refine ofS ?_ (by assumption) | refine ofS1 ?_ (by assumption) | refine ofS2 ?_ (by assumption) | refine ofS3 ?_ (by assumption) | refine of3 ?_ (by assumption)) | dsimp only)

theorem State.setFeature_tidy {pq} {s : State} {d : ℕ} (hs : Tidy pq s) : Tidy pq (State.setFeature s d) := by
  unfold State.setFeature
  repeat' (first | with_reducible assumption | with_reducible intro _ | (extract_lets +onlyGivenNames zz; first | (refine (fun (hz : Tidy pq zz) => ?_) ?_; (on_goal 1 => (try clear_value zz; rename' zz => zy, hz => hy)); (on_goal 2 => subst zz)) | (refine (fun (hz : ∀ t, Tidy pq t → Tidy pq (zz t)) => ?_) ?_; (on_goal 1 => (try clear_value zz; rename' zz => zy, hz => hf)); (on_goal 2 => (subst zz; intro _ _; beta_reduce))) | (refine (fun (hz : ∀ t, Tidy pq (zz t)) => ?_) ?_; (on_goal 1 => (try clear_value zz; rename' zz => zy, hz => hf)); (on_goal 2 => (subst zz; intro _; beta_reduce))) | (try clear_value zz; rename' zz => zy)) | with_reducible (first | apply tidy_ite | apply tidyS_ite | apply State.setDie_tidy | apply tidy1_mk | apply tidy2_mk | apply map_tidyS | apply map_tidyS_of2 | apply map_tidyS_any | apply bind_tidyS | apply bind_tidyS2 | apply foldl_tidyS | apply tidy_getD) | with_reducible (fail_if_no_progress apply tidy_mk) | with_reducible (apply hf) | with_reducible (first | refine of1 ?_ (by assumption) | refine of2 ?_ (by assumption) | refine ofS ?_ (by assumption) | refine ofS1 ?_ (by assumption) | refine ofS2 ?_ (by assumption) | refine ofS3 ?_ (by assumption) | refine of3 ?_ (by assumption)) | dsimp only)

theorem State.putPage_tidy {pq} {s : State} {ppn : ℕ} {p : NPage} (hs : Tidy pq s) : TidyS pq (State.putPage s ppn p) := by
  unfold State.putPage
  repeat' (first | with_reducible assumption | with_reducible intro _ | (extract_lets +onlyGivenNames zz; first | (refine (fun (hz : Tidy pq zz) => ?_) ?_; (on_goal 1 => (try clear_value zz; rename' zz => zy, hz => hy)); (on_goal 2 => subst zz)) | (try clear_value zz; rename' zz => zy)) | with_reducible (first | apply tidy_ite | apply tidy1_ite | apply tidy2_ite | apply tidyS_ite | apply State.setFeature_tidy | apply State.nextWseq_tidy | apply tidy1_mk | apply tidy2_mk | apply map_tidyS | apply map_tidyS_of2 | apply map_tidyS_any | apply tidyS_none | apply tidyS_some | apply tidyS1_none | apply tidyS2_none) | with_reducible (apply tidy_fst; first | apply tidy1_ite) | with_reducible (apply tidy_snd; first | apply State.nextWseq_tidy | apply tidy2_ite) | with_reducible (fail_if_no_progress apply tidy_mk) | with_reducible (first | refine of1 ?_ (by assumption) | refine of2 ?_ (by assumption) | refine ofS ?_ (by assumption) | refine ofS1 ?_ (by assumption) | refine ofS2 ?_ (by assumption) | refine ofS3 ?_ (by assumption) | refine of3 ?_ (by assumption)) | dsimp only)

theorem State.clearPages_tidy {pq} {s : State} {p : ℕ} (hs : Tidy pq s) : Tidy pq (State.clearPages s p) := by
  unfold State.clearPages
  repeat' (first | with_reducible assumption | with_reducible intro _ | with_reducible (fail_if_no_progress apply tidy_mk))

theorem State.copyPages_tidy {pq} {s : State} {src dst : ℕ} (hs : Tidy pq s) : Tidy pq (State.copyPages s src dst) := by
  unfold State.copyPages
  repeat' (first | with_reducible assumption | with_reducible intro _ | with_reducible (first | apply foldl_tidy | apply foldl_tidy1 | apply State.putPage_tidy | apply tidy1_mk | apply tidy2_mk | apply tidy_getD) | with_reducible (apply tidy_fst; first | apply foldl_tidy1) | with_reducible (apply tidy_snd; first | apply foldl_tidy2) | split | with_reducible (fail_if_no_progress apply tidy_mk) | with_reducible (first | refine of1 ?_ (by assumption) | refine of2 ?_ (by assumption) | refine ofS ?_ (by assumption) | refine ofS1 ?_ (by assumption) | refine ofS2 ?_ (by assumption) | refine ofS3 ?_ (by assumption) | refine of3 ?_ (by assumption)) | dsimp only)

theorem State.headerPage_tidy {pq} {s : State} {h : MediumHeader} {d : ℕ} (hs : Tidy pq s) : Tidy pq (State.headerPage s h d) := by
  unfold State.headerPage
  repeat' (first | with_reducible assumption | (extract_lets +onlyGivenNames zz; first | (refine (fun (hz : Tidy pq zz) => ?_) ?_; (on_goal 1 => (try clear_value zz; rename' zz => zy, hz => hy)); (on_goal 2 => subst zz)) | (try clear_value zz; rename' zz => zy)) | with_reducible (first | apply tidy_ite | apply tidyS_ite | apply State.setBlk_tidy | apply State.clearPages_tidy | apply State.putPage_tidy | apply tidy1_mk | apply tidy2_mk | apply tidy_getD) | with_reducible (fail_if_no_progress apply tidy_mk) | with_reducible (first | refine of1 ?_ (by assumption) | refine of2 ?_ (by assumption) | refine ofS ?_ (by assumption) | refine ofS1 ?_ (by assumption) | refine ofS2 ?_ (by assumption) | refine ofS3 ?_ (by assumption) | refine of3 ?_ (by assumption)) | dsimp only)

theorem State.writeHeader_tidy {pq} {s : State} (hs : Tidy pq s) : Tidy pq (State.writeHeader s) := by
  unfold State.writeHeader
  repeat' (first | with_reducible assumption | with_reducible intro _ | with_reducible (first | apply foldl_tidy | apply foldl_tidy1 | apply State.headerPage_tidy | apply tidyS_none | apply tidyS_some | apply tidyS1_none | apply tidyS2_none) | with_reducible (apply tidy_fst; first | apply foldl_tidy1) | with_reducible (apply tidy_snd; first | apply foldl_tidy2) | split | with_reducible (fail_if_no_progress apply tidy_mk) | with_reducible (first | refine of1 ?_ (by assumption) | refine of2 ?_ (by assumption) | refine ofS ?_ (by assumption) | refine ofS1 ?_ (by assumption) | refine ofS2 ?_ (by assumption) | refine ofS3 ?_ (by assumption) | refine of3 ?_ (by assumption)) | dsimp only)

theorem State.nandQueue_tidy {pq} {s : State} (hs : Tidy pq s) : Tidy pq (State.nandQueue s) := by
  unfold State.nandQueue
  repeat' (first | with_reducible assumption | with_reducible intro _ | (extract_lets +onlyGivenNames zz; first | (refine (fun (hz : Tidy pq zz) => ?_) ?_; (on_goal 1 => (try clear_value zz; rename' zz => zy, hz => hy)); (on_goal 2 => subst zz)) | (try clear_value zz; rename' zz => zy)) | with_reducible (first | apply foldl_tidy | apply foldl_tidy1 | apply State.deqHeld_tidy | apply State.enq_tidy | apply tidy1_mk | apply tidy2_mk | apply map_tidyS | apply map_tidyS_of2 | apply map_tidyS_any | apply tidyS_none | apply tidyS_some | apply tidyS1_none | apply tidyS2_none) | with_reducible (apply tidy_fst; first | apply foldl_tidy1 | apply tidy1_ite) | with_reducible (apply tidy_snd; first | apply foldl_tidy2 | apply tidy2_ite) | split | with_reducible (first | apply tidy_ite | apply tidy1_ite | apply tidy2_ite) | with_reducible (fail_if_no_progress apply tidy_mk) | with_reducible (first | refine of1 ?_ (by assumption) | refine of2 ?_ (by assumption) | refine ofS ?_ (by assumption) | refine ofS1 ?_ (by assumption) | refine ofS2 ?_ (by assumption) | refine ofS3 ?_ (by assumption) | refine of3 ?_ (by assumption)) | dsimp only)

theorem State.nandStart_tidy {pq} {s : State} (hs : Tidy pq s) : Tidy pq (State.nandStart s) := by
  unfold State.nandStart
  repeat' (first | with_reducible assumption | with_reducible intro _ | (extract_lets +onlyGivenNames zz; first | (refine (fun (hz : Tidy pq zz) => ?_) ?_; (on_goal 1 => (try clear_value zz; rename' zz => zy, hz => hy)); (on_goal 2 => subst zz)) | (try clear_value zz; rename' zz => zy)) | with_reducible (first | apply foldl_tidy | apply foldl_tidy1 | apply State.setFeature_tidy | apply State.nandQueue_tidy | apply tidy1_mk | apply tidy2_mk | apply map_tidyS | apply map_tidyS_of2 | apply map_tidyS_any | apply tidyS_none | apply tidyS_some | apply tidyS1_none | apply tidyS2_none) | with_reducible (apply tidy_fst; first | apply foldl_tidy1) | with_reducible (apply tidy_snd; first | apply foldl_tidy2) | split | with_reducible (first | apply tidy_ite) | with_reducible (fail_if_no_progress apply tidy_mk) | with_reducible (first | refine of1 ?_ (by assumption) | refine of2 ?_ (by assumption) | refine ofS ?_ (by assumption) | refine ofS1 ?_ (by assumption) | refine ofS2 ?_ (by assumption) | refine ofS3 ?_ (by assumption) | refine of3 ?_ (by assumption)) | dsimp only)

theorem State.addOp_tidy {pq} {s : State} {d target cls : ℕ} {b : OpBody} (hs : Tidy pq s) : Tidy pq (State.addOp s d target cls b) := by
  unfold State.addOp
  repeat' (first | with_reducible assumption | (extract_lets +onlyGivenNames zz; first | (refine (fun (hz : Tidy pq zz) => ?_) ?_; (on_goal 1 => (try clear_value zz; rename' zz => zy, hz => hy)); (on_goal 2 => subst zz)) | (try clear_value zz; rename' zz => zy)) | with_reducible (first | apply tidy1_mk | apply tidy2_mk) | with_reducible (fail_if_no_progress apply tidy_mk) | with_reducible (first | refine of1 ?_ (by assumption) | refine of2 ?_ (by assumption) | refine ofS ?_ (by assumption) | refine ofS1 ?_ (by assumption) | refine ofS2 ?_ (by assumption) | refine ofS3 ?_ (by assumption) | refine of3 ?_ (by assumption)) | dsimp only)

theorem State.endOp_tidy {pq} {s : State} {o : NandOp} (hs : Tidy pq s) : Tidy pq (State.endOp s o) := by
  unfold State.endOp
  repeat' (first | with_reducible assumption | with_reducible intro _ | (extract_lets +onlyGivenNames zz; first | (refine (fun (hz : Tidy pq zz) => ?_) ?_; (on_goal 1 => (try clear_value zz; rename' zz => zy, hz => hy)); (on_goal 2 => subst zz)) | (try clear_value zz; rename' zz => zy)) | with_reducible (first | apply tidy_ite | apply State.creditBack_tidy) | with_reducible (fail_if_no_progress apply tidy_mk) | with_reducible (first | refine of1 ?_ (by assumption) | refine of2 ?_ (by assumption) | refine ofS ?_ (by assumption) | refine ofS1 ?_ (by assumption) | refine ofS2 ?_ (by assumption) | refine ofS3 ?_ (by assumption) | refine of3 ?_ (by assumption)) | dsimp only)

theorem State.eraseLater_tidy {pq} {s : State} {l : List ℕ} (hs : Tidy pq s) : Tidy pq (State.eraseLater s l) := by
  unfold State.eraseLater
  repeat' (first | with_reducible assumption | with_reducible intro _ | with_reducible (first | apply foldl_tidy | apply foldl_tidy1 | apply State.addOp_tidy | apply State.setBlk_tidy) | with_reducible (apply tidy_fst; first | apply foldl_tidy1) | with_reducible (apply tidy_snd; first | apply foldl_tidy2) | with_reducible (fail_if_no_progress apply tidy_mk))

theorem State.mapTo_tidy {pq} {s : State} {vol copy lblk : ℕ} {p : Option ℕ} (hs : Tidy pq s) : Tidy pq (State.mapTo s vol copy lblk p) := by
  unfold State.mapTo
  repeat' (first | with_reducible assumption | with_reducible intro _ | with_reducible (first | apply State.mapNote_tidy | apply map_tidyS | apply map_tidyS_of2 | apply map_tidyS_any | apply tidy_getD) | with_reducible (fail_if_no_progress apply tidy_mk))

theorem State.journalPage_tidy {pq} {s : State} {c n : ℕ} (hs : Tidy pq s) : Tidy pq (State.journalPage s c n) := by
  unfold State.journalPage
  repeat' (first | with_reducible assumption | with_reducible intro _ | (extract_lets +onlyGivenNames zz; first | (refine (fun (hz : Tidy pq zz) => ?_) ?_; (on_goal 1 => (try clear_value zz; rename' zz => zy, hz => hy)); (on_goal 2 => subst zz)) | (refine (fun (hz : ∀ t, Tidy pq t → Tidy pq (zz t)) => ?_) ?_; (on_goal 1 => (try clear_value zz; rename' zz => zy, hz => hf)); (on_goal 2 => (subst zz; intro _ _; beta_reduce))) | (refine (fun (hz : ∀ t, Tidy pq (zz t)) => ?_) ?_; (on_goal 1 => (try clear_value zz; rename' zz => zy, hz => hf)); (on_goal 2 => (subst zz; intro _; beta_reduce))) | (try clear_value zz; rename' zz => zy)) | with_reducible (first | apply State.nextWseq_tidy | apply State.setBlk_tidy | apply State.clearPages_tidy | apply State.putPage_tidy | apply tidy1_mk | apply tidy2_mk | apply map_tidyS | apply map_tidyS_of2 | apply map_tidyS_any | apply tidyS_none | apply tidyS_some | apply tidyS1_none | apply tidyS2_none | apply tidy_getD) | with_reducible (apply tidy_snd; first | apply State.nextWseq_tidy) | split | with_reducible (first | apply tidy_ite | apply tidyS_ite) | with_reducible (fail_if_no_progress apply tidy_mk) | with_reducible (apply hf) | with_reducible (first | refine of1 ?_ (by assumption) | refine of2 ?_ (by assumption) | refine ofS ?_ (by assumption) | refine ofS1 ?_ (by assumption) | refine ofS2 ?_ (by assumption) | refine ofS3 ?_ (by assumption) | refine of3 ?_ (by assumption)) | dsimp only)

theorem State.mapFlush_tidy {pq} {s : State} (hs : Tidy pq s) : Tidy pq (State.mapFlush s) := by
  unfold State.mapFlush
  repeat' (first | with_reducible assumption | (extract_lets +onlyGivenNames zz; first | (refine (fun (hz : Tidy pq zz) => ?_) ?_; (on_goal 1 => (try clear_value zz; rename' zz => zy, hz => hy)); (on_goal 2 => subst zz)) | (refine (fun (hz : ∀ t, Tidy pq t → Tidy pq (zz t)) => ?_) ?_; (on_goal 1 => (try clear_value zz; rename' zz => zy, hz => hf)); (on_goal 2 => (subst zz; intro _ _; beta_reduce))) | (refine (fun (hz : ∀ t, Tidy pq (zz t)) => ?_) ?_; (on_goal 1 => (try clear_value zz; rename' zz => zy, hz => hf)); (on_goal 2 => (subst zz; intro _; beta_reduce))) | (try clear_value zz; rename' zz => zy)) | with_reducible (first | apply tidy_ite | apply State.journalPage_tidy | apply tidy1_mk | apply tidy2_mk) | with_reducible (fail_if_no_progress apply tidy_mk) | with_reducible (apply hf) | with_reducible (first | refine of1 ?_ (by assumption) | refine of2 ?_ (by assumption) | refine ofS ?_ (by assumption) | refine ofS1 ?_ (by assumption) | refine ofS2 ?_ (by assumption) | refine ofS3 ?_ (by assumption) | refine of3 ?_ (by assumption)) | dsimp only)

theorem State.retarget_tidy {pq} {s : State} {old new : ℕ} (hs : Tidy pq s) : Tidy pq (State.retarget s old new) := by
  unfold State.retarget
  repeat' (first | with_reducible assumption | with_reducible intro _ | (extract_lets +onlyGivenNames zz; first | (refine (fun (hz : Tidy pq zz) => ?_) ?_; (on_goal 1 => (try clear_value zz; rename' zz => zy, hz => hy)); (on_goal 2 => subst zz)) | (try clear_value zz; rename' zz => zy)) | with_reducible (first | apply tidy_ite | apply foldl_tidy | apply foldl_tidy1 | apply State.creditBack_tidy | apply tidy1_mk | apply tidy2_mk | apply map_tidyS | apply map_tidyS_of2 | apply map_tidyS_any) | with_reducible (apply tidy_fst; first | apply foldl_tidy1) | with_reducible (apply tidy_snd; first | apply foldl_tidy2) | with_reducible (fail_if_no_progress apply tidy_mk) | with_reducible (first | refine of1 ?_ (by assumption) | refine of2 ?_ (by assumption) | refine ofS ?_ (by assumption) | refine ofS1 ?_ (by assumption) | refine ofS2 ?_ (by assumption) | refine ofS3 ?_ (by assumption) | refine of3 ?_ (by assumption)) | dsimp only)

theorem State.replaceBlk_tidy {pq} {s : State} {old new : ℕ} (hs : Tidy pq s) : Tidy pq (State.replaceBlk s old new) := by
  unfold State.replaceBlk
  repeat' (first | with_reducible assumption | with_reducible intro _ | (extract_lets +onlyGivenNames zz; first | (refine (fun (hz : Tidy pq zz) => ?_) ?_; (on_goal 1 => (try clear_value zz; rename' zz => zy, hz => hy)); (on_goal 2 => subst zz)) | (refine (fun (hz : ∀ t, Tidy pq t → Tidy pq (zz t)) => ?_) ?_; (on_goal 1 => (try clear_value zz; rename' zz => zy, hz => hf)); (on_goal 2 => (subst zz; intro _ _; beta_reduce))) | (refine (fun (hz : ∀ t, Tidy pq (zz t)) => ?_) ?_; (on_goal 1 => (try clear_value zz; rename' zz => zy, hz => hf)); (on_goal 2 => (subst zz; intro _; beta_reduce))) | (try clear_value zz; rename' zz => zy)) | with_reducible (first | apply tidy_ite | apply tidy1_ite | apply tidy2_ite | apply State.retarget_tidy | apply State.writeHeader_tidy | apply tidy1_mk | apply tidy2_mk | apply map_tidyS | apply map_tidyS_of2 | apply map_tidyS_any) | with_reducible (apply tidy_fst; first | apply tidy1_ite) | with_reducible (apply tidy_snd; first | apply tidy2_ite) | with_reducible (fail_if_no_progress apply tidy_mk) | with_reducible (apply hf) | with_reducible (first | refine of1 ?_ (by assumption) | refine of2 ?_ (by assumption) | refine ofS ?_ (by assumption) | refine ofS1 ?_ (by assumption) | refine ofS2 ?_ (by assumption) | refine ofS3 ?_ (by assumption) | refine of3 ?_ (by assumption)) | dsimp only)

theorem State.noteRetired_tidy {pq} {s : State} {p : ℕ} (hs : Tidy pq s) : Tidy pq (State.noteRetired s p) := by
  unfold State.noteRetired
  repeat' (first | with_reducible assumption | with_reducible (first | apply State.event_tidy | apply State.irq_tidy | apply State.count_tidy))

theorem State.retire_tidy {pq} {s : State} {p : ℕ} (hs : Tidy pq s) : Tidy1 pq (State.retire s p) := by
  unfold State.retire
  repeat' (first | with_reducible assumption | with_reducible intro _ | (extract_lets +onlyGivenNames zz; first | (refine (fun (hz : Tidy pq zz) => ?_) ?_; (on_goal 1 => (try clear_value zz; rename' zz => zy, hz => hy)); (on_goal 2 => subst zz)) | (refine (fun (hz : ∀ t, Tidy pq t → Tidy pq (zz t)) => ?_) ?_; (on_goal 1 => (try clear_value zz; rename' zz => zy, hz => hf)); (on_goal 2 => (subst zz; intro _ _; beta_reduce))) | (refine (fun (hz : ∀ t, Tidy pq (zz t)) => ?_) ?_; (on_goal 1 => (try clear_value zz; rename' zz => zy, hz => hf)); (on_goal 2 => (subst zz; intro _; beta_reduce))) | (try clear_value zz; rename' zz => zy)) | with_reducible (first | apply State.mapNote_tidy | apply State.noteRetired_tidy | apply State.setBlk_tidy | apply State.goReadOnly_tidy | apply State.replaceBlk_tidy | apply State.copyPages_tidy | apply State.judgeSpares_tidy | apply tidy1_mk | apply tidy2_mk | apply tidyS_none | apply tidyS_some | apply tidyS1_none | apply tidyS2_none) | with_reducible (apply tidy_fst; first | apply tidy1_ite) | with_reducible (apply tidy_snd; first | apply tidy2_ite) | split | with_reducible (first | apply tidy_ite | apply tidy1_ite | apply tidy2_ite) | with_reducible (fail_if_no_progress apply tidy_mk) | with_reducible (apply hf) | with_reducible (first | refine of1 ?_ (by assumption) | refine of2 ?_ (by assumption) | refine ofS ?_ (by assumption) | refine ofS1 ?_ (by assumption) | refine ofS2 ?_ (by assumption) | refine ofS3 ?_ (by assumption) | refine of3 ?_ (by assumption)) | dsimp only)

theorem State.giveUp_tidy {pq} {s : State} {l : List (Option ℕ)} (hs : Tidy pq s) : Tidy pq (State.giveUp s l) := by
  unfold State.giveUp
  repeat' (first | with_reducible assumption | with_reducible (first | apply State.eraseLater_tidy))

theorem State.switchTo_tidy {pq} {s : State} {l : LogBlk} {p : ℕ} {old : List (Option ℕ)} (hs : Tidy pq s) : Tidy pq (State.switchTo s l p old) := by
  unfold State.switchTo
  repeat' (first | with_reducible assumption | with_reducible intro _ | (extract_lets +onlyGivenNames zz; first | (refine (fun (hz : Tidy pq zz) => ?_) ?_; (on_goal 1 => (try clear_value zz; rename' zz => zy, hz => hy)); (on_goal 2 => subst zz)) | (try clear_value zz; rename' zz => zy)) | with_reducible (first | apply State.setBlk_tidy | apply State.giveUp_tidy | apply State.mapTo_tidy | apply tidy1_mk | apply tidy2_mk) | with_reducible (fail_if_no_progress apply tidy_mk) | with_reducible (first | refine of1 ?_ (by assumption) | refine of2 ?_ (by assumption) | refine ofS ?_ (by assumption) | refine ofS1 ?_ (by assumption) | refine ofS2 ?_ (by assumption) | refine ofS3 ?_ (by assumption) | refine of3 ?_ (by assumption)) | dsimp only)

theorem State.copyFails_tidy {pq} {s : State} {aa : Nat} (hs : Tidy pq s) : Tidy pq (State.copyFails s aa) := by
  induction aa with
  | zero => exact hs
  | succ n ih =>
    unfold State.copyFails
    extract_lets +onlyGivenNames t u
    have hu : Tidy pq u := State.count_tidy ih
    split
    · exact State.setBlk_tidy (State.noteRetired_tidy (ofS2 (State.allocBlk_tidy hu) (by assumption)))
    · exact State.goReadOnly_tidy hu

theorem State.gather_tidy {pq} {s : State} {vol copy lblk dst : ℕ} (hs : Tidy pq s) : Tidy pq (State.gather s vol copy lblk dst) := by
  unfold State.gather
  repeat' (first | with_reducible assumption | with_reducible intro _ | with_reducible (first | apply foldl_tidy | apply foldl_tidy1 | apply State.putPage_tidy | apply tidy1_mk | apply tidy2_mk | apply tidyS_none | apply tidyS_some | apply tidyS1_none | apply tidyS2_none | apply tidy_getD) | with_reducible (apply tidy_fst; first | apply foldl_tidy1) | with_reducible (apply tidy_snd; first | apply foldl_tidy2) | split | with_reducible (fail_if_no_progress apply tidy_mk) | with_reducible (first | refine of1 ?_ (by assumption) | refine of2 ?_ (by assumption) | refine ofS ?_ (by assumption) | refine ofS1 ?_ (by assumption) | refine ofS2 ?_ (by assumption) | refine ofS3 ?_ (by assumption) | refine of3 ?_ (by assumption)) | dsimp only)

theorem State.mergeLog_tidy {pq} {s : State} {l : LogBlk} {fails : ℕ} (hs : Tidy pq s) : Tidy pq (State.mergeLog s l fails) := by
  unfold State.mergeLog
  repeat' (first | with_reducible assumption | with_reducible intro _ | (extract_lets +onlyGivenNames zz; first | (refine (fun (hz : Tidy pq zz) => ?_) ?_; (on_goal 1 => (try clear_value zz; rename' zz => zy, hz => hy)); (on_goal 2 => subst zz)) | (refine (fun (hz : ∀ t, Tidy pq t → Tidy pq (zz t)) => ?_) ?_; (on_goal 1 => (try clear_value zz; rename' zz => zy, hz => hf)); (on_goal 2 => (subst zz; intro _ _; beta_reduce))) | (refine (fun (hz : ∀ t, Tidy pq (zz t)) => ?_) ?_; (on_goal 1 => (try clear_value zz; rename' zz => zy, hz => hf)); (on_goal 2 => (subst zz; intro _; beta_reduce))) | (try clear_value zz; rename' zz => zy)) | with_reducible (first | apply foldl_tidy | apply foldl_tidy1 | apply State.switchTo_tidy | apply State.count_tidy | apply State.copyFails_tidy | apply State.goReadOnly_tidy | apply State.gather_tidy | apply State.putPage_tidy | apply State.allocBlk_tidy | apply tidy1_mk | apply tidy2_mk | apply map_tidyS | apply map_tidyS_of2 | apply map_tidyS_any | apply bind_tidyS | apply bind_tidyS2 | apply foldl_tidyS | apply tidyS_none | apply tidyS_some | apply tidyS1_none | apply tidyS2_none | apply tidy_getD) | with_reducible (apply tidy_fst; first | apply foldl_tidy1 | apply tidy1_ite) | with_reducible (apply tidy_snd; first | apply foldl_tidy2 | apply tidy2_ite) | split | with_reducible (first | apply tidy_ite | apply tidy1_ite | apply tidy2_ite | apply tidyS_ite) | with_reducible (fail_if_no_progress apply tidy_mk) | with_reducible (apply hf) | with_reducible (first | refine of1 ?_ (by assumption) | refine of2 ?_ (by assumption) | refine ofS ?_ (by assumption) | refine ofS1 ?_ (by assumption) | refine ofS2 ?_ (by assumption) | refine ofS3 ?_ (by assumption) | refine of3 ?_ (by assumption)) | dsimp only)

theorem State.openLog_tidy {pq} {s : State} {vol copy lblk : ℕ} (hs : Tidy pq s) : TidyS2 pq (State.openLog s vol copy lblk) := by
  unfold State.openLog
  repeat' (first | with_reducible assumption | (extract_lets +onlyGivenNames zz; first | (refine (fun (hz : Tidy pq zz) => ?_) ?_; (on_goal 1 => (try clear_value zz; rename' zz => zy, hz => hy)); (on_goal 2 => subst zz)) | (try clear_value zz; rename' zz => zy)) | with_reducible (first | apply State.mergeLog_tidy | apply State.mapFlush_tidy | apply State.mapNote_tidy | apply State.allocBlk_tidy | apply tidy1_mk | apply tidy2_mk | apply tidyS_none | apply tidyS_some | apply tidyS1_none | apply tidyS2_none | apply tidyS2_some) | with_reducible (apply tidy_fst; first | apply tidy1_ite) | with_reducible (apply tidy_snd; first | apply tidy2_ite) | split | with_reducible (first | apply tidy_ite | apply tidy1_ite | apply tidy2_ite | apply tidyS2_ite) | with_reducible (fail_if_no_progress apply tidy_mk) | with_reducible (first | refine of1 ?_ (by assumption) | refine of2 ?_ (by assumption) | refine ofS ?_ (by assumption) | refine ofS1 ?_ (by assumption) | refine ofS2 ?_ (by assumption) | refine ofS3 ?_ (by assumption) | refine of3 ?_ (by assumption)) | dsimp only)

theorem State.writeCopy_tidy {pq} {s : State} {vol copy page : ℕ} {d : Bytes} (hs : Tidy pq s) : TidyS pq (State.writeCopy s vol copy page d) := by
  unfold State.writeCopy
  repeat' (first | with_reducible assumption | with_reducible intro _ | (extract_lets +onlyGivenNames zz; first | (refine (fun (hz : Tidy pq zz) => ?_) ?_; (on_goal 1 => (try clear_value zz; rename' zz => zy, hz => hy)); (on_goal 2 => subst zz)) | (refine (fun (hz : ∀ t, Tidy pq t → Tidy pq (zz t)) => ?_) ?_; (on_goal 1 => (try clear_value zz; rename' zz => zy, hz => hf)); (on_goal 2 => (subst zz; intro _ _; beta_reduce))) | (refine (fun (hz : ∀ t, Tidy pq (zz t)) => ?_) ?_; (on_goal 1 => (try clear_value zz; rename' zz => zy, hz => hf)); (on_goal 2 => (subst zz; intro _; beta_reduce))) | (try clear_value zz; rename' zz => zy)) | with_reducible (first | apply State.openLog_tidy | apply State.putPage_tidy | apply tidy1_mk | apply tidy2_mk | apply map_tidyS | apply map_tidyS_of2 | apply map_tidyS_any | apply tidyS_none | apply tidyS_some | apply tidyS1_none | apply tidyS2_none) | with_reducible (apply tidy_fst; first | apply tidy1_ite) | with_reducible (apply tidy_snd; first | apply tidy2_ite) | split | with_reducible (first | apply tidy_ite | apply tidy1_ite | apply tidy2_ite | apply tidyS_ite) | with_reducible (fail_if_no_progress apply tidy_mk) | with_reducible (apply hf) | with_reducible (first | refine of1 ?_ (by assumption) | refine of2 ?_ (by assumption) | refine ofS ?_ (by assumption) | refine ofS1 ?_ (by assumption) | refine ofS2 ?_ (by assumption) | refine ofS3 ?_ (by assumption) | refine of3 ?_ (by assumption)) | dsimp only)

theorem State.volWrite_tidy {pq} {s : State} {vol page : ℕ} {d : Bytes} (hs : Tidy pq s) : TidyS pq (State.volWrite s vol page d) := by
  unfold State.volWrite
  repeat' (first | with_reducible assumption | with_reducible intro _ | with_reducible (first | apply foldl_tidy | apply foldl_tidy1 | apply State.writeCopy_tidy | apply bind_tidyS | apply bind_tidyS2 | apply foldl_tidyS | apply tidyS_none | apply tidyS_some | apply tidyS1_none | apply tidyS2_none) | with_reducible (apply tidy_fst; first | apply foldl_tidy1) | with_reducible (apply tidy_snd; first | apply foldl_tidy2) | split | with_reducible (first | apply tidy_ite | apply tidyS_ite) | with_reducible (first | refine of1 ?_ (by assumption) | refine of2 ?_ (by assumption) | refine ofS ?_ (by assumption) | refine ofS1 ?_ (by assumption) | refine ofS2 ?_ (by assumption) | refine ofS3 ?_ (by assumption) | refine of3 ?_ (by assumption)) | dsimp only)

theorem State.bootWrite_tidy {pq} {s : State} {vol lblk : ℕ} {pages : List Bytes} (hs : Tidy pq s) : TidyS pq (State.bootWrite s vol lblk pages) := by
  unfold State.bootWrite
  repeat' (first | with_reducible assumption | with_reducible intro _ | (extract_lets +onlyGivenNames zz; first | (refine (fun (hz : Tidy pq zz) => ?_) ?_; (on_goal 1 => (try clear_value zz; rename' zz => zy, hz => hy)); (on_goal 2 => subst zz)) | (try clear_value zz; rename' zz => zy)) | with_reducible (first | apply foldl_tidy | apply foldl_tidy1 | apply State.putPage_tidy | apply State.giveUp_tidy | apply State.writeHeader_tidy | apply State.allocBlk_tidy | apply tidy1_mk | apply tidy2_mk | apply map_tidyS | apply map_tidyS_of2 | apply map_tidyS_any | apply bind_tidyS | apply bind_tidyS2 | apply foldl_tidyS | apply tidyS_none | apply tidyS_some | apply tidyS1_none | apply tidyS2_none | apply tidy_getD) | with_reducible (apply tidy_fst; first | apply foldl_tidy1 | apply tidy1_ite) | with_reducible (apply tidy_snd; first | apply foldl_tidy2 | apply tidy2_ite) | split | with_reducible (first | apply tidy_ite | apply tidy1_ite | apply tidy2_ite | apply tidyS_ite) | with_reducible (fail_if_no_progress apply tidy_mk) | with_reducible (first | refine of1 ?_ (by assumption) | refine of2 ?_ (by assumption) | refine ofS ?_ (by assumption) | refine ofS1 ?_ (by assumption) | refine ofS2 ?_ (by assumption) | refine ofS3 ?_ (by assumption) | refine of3 ?_ (by assumption)) | dsimp only)

theorem State.setTail_tidy {pq} {s : State} (hs : Tidy pq s) : Tidy pq (State.setTail s) := by
  unfold State.setTail
  repeat' (first | with_reducible assumption | with_reducible (first | apply State.set2_tidy | apply tidyS_none | apply tidyS_some | apply tidyS1_none | apply tidyS2_none) | split | with_reducible (fail_if_no_progress apply tidy_mk) | with_reducible (first | refine of1 ?_ (by assumption) | refine of2 ?_ (by assumption) | refine ofS ?_ (by assumption) | refine ofS1 ?_ (by assumption) | refine ofS2 ?_ (by assumption) | refine ofS3 ?_ (by assumption) | refine of3 ?_ (by assumption)) | dsimp only)

theorem State.freeTail_tidy {pq} {s : State} (hs : Tidy pq s) : Tidy pq (State.freeTail s) := by
  unfold State.freeTail
  repeat' (first | with_reducible assumption | (extract_lets +onlyGivenNames zz; first | (refine (fun (hz : Tidy pq zz) => ?_) ?_; (on_goal 1 => (try clear_value zz; rename' zz => zy, hz => hy)); (on_goal 2 => subst zz)) | (refine (fun (hz : ∀ t, Tidy pq t → Tidy pq (zz t)) => ?_) ?_; (on_goal 1 => (try clear_value zz; rename' zz => zy, hz => hf)); (on_goal 2 => (subst zz; intro _ _; beta_reduce))) | (refine (fun (hz : ∀ t, Tidy pq (zz t)) => ?_) ?_; (on_goal 1 => (try clear_value zz; rename' zz => zy, hz => hf)); (on_goal 2 => (subst zz; intro _; beta_reduce))) | (try clear_value zz; rename' zz => zy)) | with_reducible (first | apply State.eraseLater_tidy | apply State.mapNote_tidy | apply State.setTail_tidy) | split | with_reducible (fail_if_no_progress apply tidy_mk) | with_reducible (apply hf) | with_reducible (first | refine of1 ?_ (by assumption) | refine of2 ?_ (by assumption) | refine ofS ?_ (by assumption) | refine ofS1 ?_ (by assumption) | refine ofS2 ?_ (by assumption) | refine ofS3 ?_ (by assumption) | refine of3 ?_ (by assumption)) | dsimp only)

theorem State.newStripe_tidy {pq} {s : State} (hs : Tidy pq s) : Tidy pq (State.newStripe s) := by
  unfold State.newStripe
  repeat' (first | with_reducible assumption | with_reducible intro _ | (extract_lets +onlyGivenNames zz; first | (refine (fun (hz : Tidy pq zz) => ?_) ?_; (on_goal 1 => (try clear_value zz; rename' zz => zy, hz => hy)); (on_goal 2 => subst zz)) | (try clear_value zz; rename' zz => zy)) | with_reducible (first | apply foldl_tidy | apply foldl_tidy1 | apply State.allocBlk_tidy | apply State.mapFlush_tidy | apply State.mapNote_tidy | apply tidy1_mk | apply tidy2_mk | apply tidyS_none | apply tidyS_some | apply tidyS1_none | apply tidyS2_none) | with_reducible (apply tidy_fst; first | apply foldl_tidy1) | with_reducible (apply tidy_snd; first | apply foldl_tidy2) | split | with_reducible (fail_if_no_progress apply tidy_mk) | with_reducible (first | refine of1 ?_ (by assumption) | refine of2 ?_ (by assumption) | refine ofS ?_ (by assumption) | refine ofS1 ?_ (by assumption) | refine ofS2 ?_ (by assumption) | refine ofS3 ?_ (by assumption) | refine of3 ?_ (by assumption)) | dsimp only)

theorem State.archNext_tidy {pq} {s : State} (hs : Tidy pq s) : Tidy3 pq (State.archNext s) := by
  unfold State.archNext
  repeat' (first | with_reducible assumption | (extract_lets +onlyGivenNames zz; first | (refine (fun (hz : Tidy pq zz) => ?_) ?_; (on_goal 1 => (try clear_value zz; rename' zz => zy, hz => hy)); (on_goal 2 => subst zz)) | (try clear_value zz; rename' zz => zy)) | with_reducible (first | apply State.newStripe_tidy | apply tidy1_mk | apply tidy2_mk | apply tidy3_mk | apply tidyS_none | apply tidyS_some | apply tidyS1_none | apply tidyS2_none | apply tidy_getD) | with_reducible (apply tidy_fst; first | apply tidy1_ite) | with_reducible (apply tidy_snd; first | apply tidy2_ite) | split | with_reducible (first | apply tidy_ite | apply tidy1_ite | apply tidy2_ite | apply tidyS_ite) | with_reducible (fail_if_no_progress apply tidy_mk) | with_reducible (first | refine of1 ?_ (by assumption) | refine of2 ?_ (by assumption) | refine ofS ?_ (by assumption) | refine ofS1 ?_ (by assumption) | refine ofS2 ?_ (by assumption) | refine ofS3 ?_ (by assumption) | refine of3 ?_ (by assumption)) | dsimp only)

theorem State.stripeOrders_tidy {pq} {s : State} {lo hi : ℕ} (hs : Tidy pq s) : Tidy pq (State.stripeOrders s lo hi) := by
  unfold State.stripeOrders
  repeat' (first | with_reducible assumption | (extract_lets +onlyGivenNames zz; first | (refine (fun (hz : Tidy pq zz) => ?_) ?_; (on_goal 1 => (try clear_value zz; rename' zz => zy, hz => hy)); (on_goal 2 => subst zz)) | (try clear_value zz; rename' zz => zy)) | with_reducible (first | apply tidy1_mk | apply tidy2_mk | apply tidyS_none | apply tidyS_some | apply tidyS1_none | apply tidyS2_none) | split | with_reducible (first | apply tidy_ite) | with_reducible (fail_if_no_progress apply tidy_mk) | with_reducible (first | refine of1 ?_ (by assumption) | refine of2 ?_ (by assumption) | refine ofS ?_ (by assumption) | refine ofS1 ?_ (by assumption) | refine ofS2 ?_ (by assumption) | refine ofS3 ?_ (by assumption) | refine of3 ?_ (by assumption)) | dsimp only)

end Sys2Proof.Machine
end

