-- ==== Sys2Proof/Laws/TidyMedia.lean ====
section
/-! SUPPORT. Tidy states stay tidy: the operations of Groups, Nand, Ftl, Plc, Radio, Ptp, Uplink. One lemma for each operation, proved from the lemmas of the operations it calls. -/

set_option linter.unusedVariables false
set_option linter.unusedTactic false
set_option linter.unreachableTactic false
set_option linter.tactic.unusedName false

namespace Sys2Proof.Machine

/-! ## Groups -/

theorem State.setGroup_tidy {pq} {s : State} {seq : ℕ} {f : Group → Group} (hs : Tidy pq s) : Tidy pq (State.setGroup s seq f) := by
  unfold State.setGroup
  repeat' (first | with_reducible assumption | with_reducible intro _ | with_reducible (first | apply tidy_ite | apply map_tidyS | apply map_tidyS_of2 | apply map_tidyS_any) | with_reducible (fail_if_no_progress apply tidy_mk))

theorem State.progGroupPage_tidy {pq} {s : State} {seq : ℕ} {p : NPage} (hs : Tidy pq s) : Tidy pq (State.progGroupPage s seq p) := by
  unfold State.progGroupPage
  repeat' (first | with_reducible assumption | with_reducible intro _ | (extract_lets +onlyGivenNames zz; first | (refine (fun (hz : Tidy pq zz) => ?_) ?_; (on_goal 1 => (try clear_value zz; rename' zz => zy, hz => hy)); (on_goal 2 => subst zz)) | (try clear_value zz; rename' zz => zy)) | with_reducible (first | apply State.archNext_tidy | apply State.addOp_tidy | apply State.setGroup_tidy | apply tidy1_mk | apply tidy2_mk) | with_reducible (apply tidy_thd; first | apply State.archNext_tidy) | with_reducible (fail_if_no_progress apply tidy_mk) | with_reducible (first | refine of1 ?_ (by assumption) | refine of2 ?_ (by assumption) | refine ofS ?_ (by assumption) | refine ofS1 ?_ (by assumption) | refine ofS2 ?_ (by assumption) | refine ofS3 ?_ (by assumption) | refine of3 ?_ (by assumption)) | dsimp only)

theorem State.noteRate_tidy {pq} {s : State} {n : ℕ} (hs : Tidy pq s) : Tidy pq (State.noteRate s n) := by
  unfold State.noteRate
  repeat' (first | with_reducible assumption | (extract_lets +onlyGivenNames zz; first | (refine (fun (hz : Tidy pq zz) => ?_) ?_; (on_goal 1 => (try clear_value zz; rename' zz => zy, hz => hy)); (on_goal 2 => subst zz)) | (try clear_value zz; rename' zz => zy)) | with_reducible (first | apply tidy_ite | apply State.setF_tidy | apply tidy1_mk | apply tidy2_mk) | with_reducible (fail_if_no_progress apply tidy_mk) | with_reducible (first | refine of1 ?_ (by assumption) | refine of2 ?_ (by assumption) | refine ofS ?_ (by assumption) | refine ofS1 ?_ (by assumption) | refine ofS2 ?_ (by assumption) | refine ofS3 ?_ (by assumption) | refine of3 ?_ (by assumption)) | dsimp only)

theorem State.startGroup_tidy {pq} {s : State} {g : Group} (hs : Tidy pq s) : Tidy pq (State.startGroup s g) := by
  unfold State.startGroup
  repeat' (first | with_reducible assumption | with_reducible intro _ | (extract_lets +onlyGivenNames zz; first | (refine (fun (hz : Tidy pq zz) => ?_) ?_; (on_goal 1 => (try clear_value zz; rename' zz => zy, hz => hy)); (on_goal 2 => subst zz)) | (refine (fun (hz : ∀ t, Tidy pq t → Tidy pq (zz t)) => ?_) ?_; (on_goal 1 => (try clear_value zz; rename' zz => zy, hz => hf)); (on_goal 2 => (subst zz; intro _ _; beta_reduce))) | (refine (fun (hz : ∀ t, Tidy pq (zz t)) => ?_) ?_; (on_goal 1 => (try clear_value zz; rename' zz => zy, hz => hf)); (on_goal 2 => (subst zz; intro _; beta_reduce))) | (try clear_value zz; rename' zz => zy)) | with_reducible (first | apply foldl_tidy | apply foldl_tidy1 | apply State.noteRate_tidy | apply State.stripeOrders_tidy | apply State.progGroupPage_tidy | apply State.nandStart_tidy | apply State.setGroup_tidy | apply tidy1_mk | apply tidy2_mk | apply map_tidyS | apply map_tidyS_of2 | apply map_tidyS_any | apply tidy_getD) | with_reducible (apply tidy_fst; first | apply foldl_tidy1) | with_reducible (apply tidy_snd; first | apply foldl_tidy2) | with_reducible (fail_if_no_progress apply tidy_mk) | with_reducible (apply hf) | with_reducible (first | refine of1 ?_ (by assumption) | refine of2 ?_ (by assumption) | refine ofS ?_ (by assumption) | refine ofS1 ?_ (by assumption) | refine ofS2 ?_ (by assumption) | refine ofS3 ?_ (by assumption) | refine of3 ?_ (by assumption)) | dsimp only)

theorem State.archFull_tidy {pq} {s : State} (hs : Tidy pq s) : Tidy pq (State.archFull s) := by
  unfold State.archFull
  repeat' (first | with_reducible assumption | with_reducible (first | apply tidy_ite | apply State.err_tidy | apply State.irq_tidy | apply State.setF_tidy))

theorem State.tryGroup_tidy {pq} {s : State} (hs : Tidy pq s) : Tidy pq (State.tryGroup s) := by
  unfold State.tryGroup
  repeat' (first | with_reducible assumption | with_reducible intro _ | with_reducible (first | apply State.startGroup_tidy | apply State.setF_tidy | apply State.nandStart_tidy | apply State.freeTail_tidy | apply State.archFull_tidy | apply tidyS_none | apply tidyS_some | apply tidyS1_none | apply tidyS2_none) | split | with_reducible (first | apply tidy_ite) | with_reducible (fail_if_no_progress apply tidy_mk) | with_reducible (first | refine of1 ?_ (by assumption) | refine of2 ?_ (by assumption) | refine ofS ?_ (by assumption) | refine ofS1 ?_ (by assumption) | refine ofS2 ?_ (by assumption) | refine ofS3 ?_ (by assumption) | refine of3 ?_ (by assumption)) | dsimp only)

theorem State.tryGroups_tidy {pq} {s : State} (hs : Tidy pq s) : Tidy pq (State.tryGroups s) := by
  unfold State.tryGroups
  repeat' (first | with_reducible assumption | with_reducible intro _ | with_reducible (first | apply foldl_tidy | apply foldl_tidy1 | apply State.tryGroup_tidy) | with_reducible (apply tidy_fst; first | apply foldl_tidy1) | with_reducible (apply tidy_snd; first | apply foldl_tidy2))

theorem State.closePlaced_tidy {pq} {s : State} {seq last at_ : ℕ} (hs : Tidy pq s) : Tidy pq (State.closePlaced s seq last at_) := by
  unfold State.closePlaced
  repeat' (first | with_reducible assumption | with_reducible intro _ | (extract_lets +onlyGivenNames zz; first | (refine (fun (hz : Tidy pq zz) => ?_) ?_; (on_goal 1 => (try clear_value zz; rename' zz => zy, hz => hy)); (on_goal 2 => subst zz)) | (refine (fun (hz : ∀ t, Tidy pq t → Tidy pq (zz t)) => ?_) ?_; (on_goal 1 => (try clear_value zz; rename' zz => zy, hz => hf)); (on_goal 2 => (subst zz; intro _ _; beta_reduce))) | (refine (fun (hz : ∀ t, Tidy pq (zz t)) => ?_) ?_; (on_goal 1 => (try clear_value zz; rename' zz => zy, hz => hf)); (on_goal 2 => (subst zz; intro _; beta_reduce))) | (try clear_value zz; rename' zz => zy)) | with_reducible (first | apply State.tryGroups_tidy | apply tidy1_mk | apply tidy2_mk) | with_reducible (fail_if_no_progress apply tidy_mk) | with_reducible (apply hf) | with_reducible (first | refine of1 ?_ (by assumption) | refine of2 ?_ (by assumption) | refine ofS ?_ (by assumption) | refine ofS1 ?_ (by assumption) | refine ofS2 ?_ (by assumption) | refine ofS3 ?_ (by assumption) | refine of3 ?_ (by assumption)) | dsimp only)

theorem State.releaseShadow_tidy {pq} {s : State} {p : Payload} (hs : Tidy pq s) : Tidy pq (State.releaseShadow s p) := by
  unfold State.releaseShadow
  repeat' (first | with_reducible assumption | with_reducible intro _ | with_reducible (fail_if_no_progress apply tidy_mk))

theorem State.requeueCommits_tidy {pq} {s : State} (hs : Tidy pq s) : Tidy pq (State.requeueCommits s) := by
  unfold State.requeueCommits
  repeat' (first | with_reducible assumption | with_reducible intro _ | (extract_lets +onlyGivenNames zz; first | (refine (fun (hz : Tidy pq zz) => ?_) ?_; (on_goal 1 => (try clear_value zz; rename' zz => zy, hz => hy)); (on_goal 2 => subst zz)) | (refine (fun (hz : ∀ t, Tidy pq t → Tidy pq (zz t)) => ?_) ?_; (on_goal 1 => (try clear_value zz; rename' zz => zy, hz => hf)); (on_goal 2 => (subst zz; intro _ _; beta_reduce))) | (refine (fun (hz : ∀ t, Tidy pq (zz t)) => ?_) ?_; (on_goal 1 => (try clear_value zz; rename' zz => zy, hz => hf)); (on_goal 2 => (subst zz; intro _; beta_reduce))) | (try clear_value zz; rename' zz => zy)) | with_reducible (first | apply foldl_tidy | apply foldl_tidy1 | apply State.setQueue_tidy | apply State.count_tidy | apply State.irq_tidy | apply State.enq_tidy | apply tidy1_mk | apply tidy2_mk) | with_reducible (apply tidy_fst; first | apply foldl_tidy1) | with_reducible (apply tidy_snd; first | apply foldl_tidy2) | with_reducible (fail_if_no_progress apply tidy_mk) | with_reducible (apply hf) | with_reducible (first | refine of1 ?_ (by assumption) | refine of2 ?_ (by assumption) | refine ofS ?_ (by assumption) | refine ofS1 ?_ (by assumption) | refine ofS2 ?_ (by assumption) | refine ofS3 ?_ (by assumption) | refine of3 ?_ (by assumption)) | dsimp only)

theorem execFtlPlaceItem_tidy {pq} {parity : ℕ} {s : State} (hs : Tidy pq s) : TidyO pq (execFtlPlaceItem parity s) := by
  unfold execFtlPlaceItem
  repeat' (first | with_reducible assumption | (extract_lets +onlyGivenNames zz; first | (refine (fun (hz : Tidy pq zz) => ?_) ?_; (on_goal 1 => (try clear_value zz; rename' zz => zy, hz => hy)); (on_goal 2 => subst zz)) | (try clear_value zz; rename' zz => zy)) | with_reducible (first | apply idle_tidy | apply State.faultFront_tidy | apply State.requeueCommits_tidy | apply State.poisoned_tidy | apply State.releaseShadow_tidy | apply State.set2_tidy | apply State.closePlaced_tidy | apply State.deq_tidy | apply tidyO_next | apply tidy1_mk | apply tidy2_mk | apply tidyS_none | apply tidyS_some | apply tidyS1_none | apply tidyS2_none) | with_reducible (apply tidy_fst; first | apply tidy1_ite) | with_reducible (apply tidy_snd; first | apply tidy2_ite) | split | with_reducible (first | apply tidy_ite | apply tidyO_ite | apply tidy1_ite | apply tidy2_ite) | with_reducible (fail_if_no_progress apply tidy_mk) | with_reducible (first | refine of1 ?_ (by assumption) | refine of2 ?_ (by assumption) | refine ofS ?_ (by assumption) | refine ofS1 ?_ (by assumption) | refine ofS2 ?_ (by assumption) | refine ofS3 ?_ (by assumption) | refine of3 ?_ (by assumption)) | dsimp only)

theorem State.markEdge_tidy {pq} {s : State} {seq last : ℕ} (hs : Tidy pq s) : Tidy pq (State.markEdge s seq last) := by
  unfold State.markEdge
  repeat' (first | with_reducible assumption | (extract_lets +onlyGivenNames zz; first | (refine (fun (hz : Tidy pq zz) => ?_) ?_; (on_goal 1 => (try clear_value zz; rename' zz => zy, hz => hy)); (on_goal 2 => subst zz)) | (refine (fun (hz : ∀ t, Tidy pq t → Tidy pq (zz t)) => ?_) ?_; (on_goal 1 => (try clear_value zz; rename' zz => zy, hz => hf)); (on_goal 2 => (subst zz; intro _ _; beta_reduce))) | (refine (fun (hz : ∀ t, Tidy pq (zz t)) => ?_) ?_; (on_goal 1 => (try clear_value zz; rename' zz => zy, hz => hf)); (on_goal 2 => (subst zz; intro _; beta_reduce))) | (try clear_value zz; rename' zz => zy)) | with_reducible (first | apply tidy_ite | apply State.enq_tidy | apply State.set2_tidy | apply tidy1_mk | apply tidy2_mk) | with_reducible (fail_if_no_progress apply tidy_mk) | with_reducible (apply hf) | with_reducible (first | refine of1 ?_ (by assumption) | refine of2 ?_ (by assumption) | refine ofS ?_ (by assumption) | refine ofS1 ?_ (by assumption) | refine ofS2 ?_ (by assumption) | refine ofS3 ?_ (by assumption) | refine of3 ?_ (by assumption)) | dsimp only)

theorem execGroupClose_tidy {pq} {s : State} (hs : Tidy pq s) : TidyO pq (execGroupClose s) := by
  unfold execGroupClose
  repeat' (first | with_reducible assumption | (extract_lets +onlyGivenNames zz; first | (refine (fun (hz : Tidy pq zz) => ?_) ?_; (on_goal 1 => (try clear_value zz; rename' zz => zy, hz => hy)); (on_goal 2 => subst zz)) | (refine (fun (hz : ∀ t, Tidy pq t → Tidy pq (zz t)) => ?_) ?_; (on_goal 1 => (try clear_value zz; rename' zz => zy, hz => hf)); (on_goal 2 => (subst zz; intro _ _; beta_reduce))) | (refine (fun (hz : ∀ t, Tidy pq (zz t)) => ?_) ?_; (on_goal 1 => (try clear_value zz; rename' zz => zy, hz => hf)); (on_goal 2 => (subst zz; intro _; beta_reduce))) | (try clear_value zz; rename' zz => zy)) | with_reducible (first | apply tidy_ite | apply tidyO_ite | apply idle_tidy | apply State.markEdge_tidy | apply State.feed_tidy | apply tidyO_next) | with_reducible (fail_if_no_progress apply tidy_mk) | with_reducible (apply hf) | with_reducible (first | refine of1 ?_ (by assumption) | refine of2 ?_ (by assumption) | refine ofS ?_ (by assumption) | refine ofS1 ?_ (by assumption) | refine ofS2 ?_ (by assumption) | refine ofS3 ?_ (by assumption) | refine of3 ?_ (by assumption)) | dsimp only)

theorem State.releaseItem_tidy {pq} {s : State} {i : CommitItem} (hs : Tidy pq s) : Tidy pq (State.releaseItem s i) := by
  unfold State.releaseItem
  repeat' (first | with_reducible assumption | (extract_lets +onlyGivenNames zz; first | (refine (fun (hz : Tidy pq zz) => ?_) ?_; (on_goal 1 => (try clear_value zz; rename' zz => zy, hz => hy)); (on_goal 2 => subst zz)) | (try clear_value zz; rename' zz => zy)) | with_reducible (first | apply State.freeReplay_tidy | apply State.acknowledge_tidy | apply tidyS_none | apply tidyS_some | apply tidyS1_none | apply tidyS2_none) | split | with_reducible (fail_if_no_progress apply tidy_mk) | with_reducible (first | refine of1 ?_ (by assumption) | refine of2 ?_ (by assumption) | refine ofS ?_ (by assumption) | refine ofS1 ?_ (by assumption) | refine ofS2 ?_ (by assumption) | refine ofS3 ?_ (by assumption) | refine of3 ?_ (by assumption)) | dsimp only)

theorem State.sendDurable_tidy {pq} {s : State} (hs : Tidy pq s) : Tidy pq (State.sendDurable s) := by
  unfold State.sendDurable
  repeat' (first | with_reducible assumption | with_reducible (first | apply State.enq_tidy | apply tidyS_none | apply tidyS_some | apply tidyS1_none | apply tidyS2_none) | split | with_reducible (first | apply tidy_ite) | with_reducible (fail_if_no_progress apply tidy_mk) | with_reducible (first | refine of1 ?_ (by assumption) | refine of2 ?_ (by assumption) | refine ofS ?_ (by assumption) | refine ofS1 ?_ (by assumption) | refine ofS2 ?_ (by assumption) | refine ofS3 ?_ (by assumption) | refine of3 ?_ (by assumption)) | dsimp only)

theorem State.durable_tidy {pq} {s : State} {g : Group} (hs : Tidy pq s) : Tidy pq (State.durable s g) := by
  unfold State.durable
  repeat' (first | with_reducible assumption | with_reducible intro _ | (extract_lets +onlyGivenNames zz; first | (refine (fun (hz : Tidy pq zz) => ?_) ?_; (on_goal 1 => (try clear_value zz; rename' zz => zy, hz => hy)); (on_goal 2 => subst zz)) | (refine (fun (hz : ∀ t, Tidy pq t → Tidy pq (zz t)) => ?_) ?_; (on_goal 1 => (try clear_value zz; rename' zz => zy, hz => hf)); (on_goal 2 => (subst zz; intro _ _; beta_reduce))) | (refine (fun (hz : ∀ t, Tidy pq (zz t)) => ?_) ?_; (on_goal 1 => (try clear_value zz; rename' zz => zy, hz => hf)); (on_goal 2 => (subst zz; intro _; beta_reduce))) | (try clear_value zz; rename' zz => zy)) | with_reducible (first | apply tidy_ite | apply foldl_tidy | apply foldl_tidy1 | apply State.set2_tidy | apply State.peak_tidy | apply State.setF_tidy | apply State.releaseItem_tidy | apply State.releaseDups_tidy | apply State.sendDurable_tidy) | with_reducible (apply tidy_fst; first | apply foldl_tidy1) | with_reducible (apply tidy_snd; first | apply foldl_tidy2) | with_reducible (fail_if_no_progress apply tidy_mk) | with_reducible (apply hf) | with_reducible (first | refine of1 ?_ (by assumption) | refine of2 ?_ (by assumption) | refine ofS ?_ (by assumption) | refine ofS1 ?_ (by assumption) | refine ofS2 ?_ (by assumption) | refine ofS3 ?_ (by assumption) | refine of3 ?_ (by assumption)) | dsimp only)

theorem execGroupDurable_tidy {pq} {s : State} (hs : Tidy pq s) : TidyO pq (execGroupDurable s) := by
  unfold execGroupDurable
  repeat' (first | with_reducible assumption | with_reducible (first | apply idle_tidy | apply State.durable_tidy | apply tidyO_next) | split | with_reducible (first | apply tidy_ite | apply tidyO_ite) | with_reducible (fail_if_no_progress apply tidy_mk) | with_reducible (first | refine of1 ?_ (by assumption) | refine of2 ?_ (by assumption) | refine ofS ?_ (by assumption) | refine ofS1 ?_ (by assumption) | refine ofS2 ?_ (by assumption) | refine ofS3 ?_ (by assumption) | refine of3 ?_ (by assumption)) | dsimp only)

theorem execDurableLate_tidy {pq} {s : State} (hs : Tidy pq s) : TidyO pq (execDurableLate s) := by
  unfold execDurableLate
  repeat' (first | with_reducible assumption | with_reducible intro _ | (extract_lets +onlyGivenNames zz; first | (refine (fun (hz : Tidy pq zz) => ?_) ?_; (on_goal 1 => (try clear_value zz; rename' zz => zy, hz => hy)); (on_goal 2 => subst zz)) | (try clear_value zz; rename' zz => zy)) | with_reducible (first | apply idle_tidy | apply State.irq_tidy | apply tidyO_next | apply tidy1_mk | apply tidy2_mk | apply map_tidyS | apply map_tidyS_of2 | apply map_tidyS_any) | split | with_reducible (first | apply tidy_ite | apply tidyO_ite) | with_reducible (fail_if_no_progress apply tidy_mk) | with_reducible (first | refine of1 ?_ (by assumption) | refine of2 ?_ (by assumption) | refine ofS ?_ (by assumption) | refine ofS1 ?_ (by assumption) | refine ofS2 ?_ (by assumption) | refine ofS3 ?_ (by assumption) | refine of3 ?_ (by assumption)) | dsimp only)

theorem execLadleStall_tidy {pq} {s : State} (hs : Tidy pq s) : TidyO pq (execLadleStall s) := by
  unfold execLadleStall
  repeat' (first | with_reducible assumption | with_reducible (first | apply tidy_ite | apply tidyO_ite | apply State.irq_tidy | apply State.setF_tidy | apply idle_tidy | apply tidyO_next))


/-! ## Nand -/

theorem State.ftlDone_tidy {pq} {s : State} {item : Bytes} {status n : ℕ} (hs : Tidy pq s) : Tidy pq (State.ftlDone s item status n) := by
  unfold State.ftlDone
  repeat' (first | with_reducible assumption | (extract_lets +onlyGivenNames zz; first | (refine (fun (hz : Tidy pq zz) => ?_) ?_; (on_goal 1 => (try clear_value zz; rename' zz => zy, hz => hy)); (on_goal 2 => subst zz)) | (try clear_value zz; rename' zz => zy)) | with_reducible (first | apply tidy_ite | apply State.err_tidy | apply State.enq_tidy) | with_reducible (first | refine of1 ?_ (by assumption) | refine of2 ?_ (by assumption) | refine ofS ?_ (by assumption) | refine ofS1 ?_ (by assumption) | refine ofS2 ?_ (by assumption) | refine ofS3 ?_ (by assumption) | refine of3 ?_ (by assumption)) | dsimp only)

theorem State.setJob_tidy {pq} {s : State} {j : ℕ} {f : FtlJob → FtlJob} (hs : Tidy pq s) : Tidy pq (State.setJob s j f) := by
  unfold State.setJob
  repeat' (first | with_reducible assumption | with_reducible intro _ | with_reducible (first | apply tidy_ite | apply map_tidyS | apply map_tidyS_of2 | apply map_tidyS_any) | with_reducible (fail_if_no_progress apply tidy_mk))

theorem State.installFresh_tidy {pq} {s : State} {j : FtlJob} (hs : Tidy pq s) : Tidy pq (State.installFresh s j) := by
  unfold State.installFresh
  repeat' (first | with_reducible assumption | with_reducible intro _ | (extract_lets +onlyGivenNames zz; first | (refine (fun (hz : Tidy pq zz) => ?_) ?_; (on_goal 1 => (try clear_value zz; rename' zz => zy, hz => hy)); (on_goal 2 => subst zz)) | (try clear_value zz; rename' zz => zy)) | with_reducible (first | apply foldl_tidy | apply foldl_tidy1 | apply State.giveUp_tidy | apply State.writeHeader_tidy | apply map_tidyS | apply map_tidyS_of2 | apply map_tidyS_any) | with_reducible (apply tidy_fst; first | apply foldl_tidy1) | with_reducible (apply tidy_snd; first | apply foldl_tidy2) | with_reducible (fail_if_no_progress apply tidy_mk) | with_reducible (first | refine of1 ?_ (by assumption) | refine of2 ?_ (by assumption) | refine ofS ?_ (by assumption) | refine ofS1 ?_ (by assumption) | refine ofS2 ?_ (by assumption) | refine ofS3 ?_ (by assumption) | refine of3 ?_ (by assumption)) | dsimp only)

theorem State.endJob_tidy {pq} {s : State} {j : ℕ} (hs : Tidy pq s) : Tidy pq (State.endJob s j) := by
  unfold State.endJob
  repeat' (first | with_reducible assumption | with_reducible intro _ | (extract_lets +onlyGivenNames zz; first | (refine (fun (hz : Tidy pq zz) => ?_) ?_; (on_goal 1 => (try clear_value zz; rename' zz => zy, hz => hy)); (on_goal 2 => subst zz)) | (try clear_value zz; rename' zz => zy)) | with_reducible (first | apply State.ftlDone_tidy | apply State.installFresh_tidy | apply State.giveUp_tidy | apply map_tidyS | apply map_tidyS_of2 | apply map_tidyS_any | apply tidyS_none | apply tidyS_some | apply tidyS1_none | apply tidyS2_none) | split | with_reducible (first | apply tidy_ite) | with_reducible (fail_if_no_progress apply tidy_mk) | with_reducible (first | refine of1 ?_ (by assumption) | refine of2 ?_ (by assumption) | refine ofS ?_ (by assumption) | refine ofS1 ?_ (by assumption) | refine ofS2 ?_ (by assumption) | refine ofS3 ?_ (by assumption) | refine of3 ?_ (by assumption)) | dsimp only)

theorem State.jobStep_tidy {pq} {s : State} {j : ℕ} {f : FtlJob → FtlJob} (hs : Tidy pq s) : Tidy pq (State.jobStep s j f) := by
  unfold State.jobStep
  repeat' (first | with_reducible assumption | with_reducible intro _ | with_reducible (first | apply State.endJob_tidy | apply State.setJob_tidy) | with_reducible (fail_if_no_progress apply tidy_mk))

theorem State.nandErr_tidy {pq} {s : State} {d code : ℕ} (hs : Tidy pq s) : Tidy pq (State.nandErr s d code) := by
  unfold State.nandErr
  repeat' (first | with_reducible assumption | with_reducible (first | apply State.err_tidy))

theorem State.noteComplete_tidy {pq} {s : State} (hs : Tidy pq s) : Tidy pq (State.noteComplete s) := by
  unfold State.noteComplete
  repeat' (first | with_reducible assumption | with_reducible intro _ | with_reducible (first | apply tidyS_none | apply tidyS_some | apply tidyS1_none | apply tidyS2_none) | split | with_reducible (fail_if_no_progress apply tidy_mk) | with_reducible (first | refine of1 ?_ (by assumption) | refine of2 ?_ (by assumption) | refine ofS ?_ (by assumption) | refine ofS1 ?_ (by assumption) | refine ofS2 ?_ (by assumption) | refine ofS3 ?_ (by assumption) | refine of3 ?_ (by assumption)) | dsimp only)

theorem State.groupPageDone_tidy {pq} {s : State} {o : NandOp} {seq : ℕ} (hs : Tidy pq s) : Tidy pq (State.groupPageDone s o seq) := by
  unfold State.groupPageDone
  repeat' (first | with_reducible assumption | with_reducible intro _ | (extract_lets +onlyGivenNames zz; first | (refine (fun (hz : Tidy pq zz) => ?_) ?_; (on_goal 1 => (try clear_value zz; rename' zz => zy, hz => hy)); (on_goal 2 => subst zz)) | (try clear_value zz; rename' zz => zy)) | with_reducible (first | apply State.noteComplete_tidy | apply State.setGroup_tidy | apply tidy1_mk | apply tidy2_mk) | with_reducible (fail_if_no_progress apply tidy_mk) | with_reducible (first | refine of1 ?_ (by assumption) | refine of2 ?_ (by assumption) | refine ofS ?_ (by assumption) | refine ofS1 ?_ (by assumption) | refine ofS2 ?_ (by assumption) | refine ofS3 ?_ (by assumption) | refine of3 ?_ (by assumption)) | dsimp only)

theorem State.groupPageFail_tidy {pq} {s : State} {o : NandOp} {seq : ℕ} {p : NPage} (hs : Tidy pq s) : Tidy pq (State.groupPageFail s o seq p) := by
  unfold State.groupPageFail
  repeat' (first | with_reducible assumption | with_reducible intro _ | (extract_lets +onlyGivenNames zz; first | (refine (fun (hz : Tidy pq zz) => ?_) ?_; (on_goal 1 => (try clear_value zz; rename' zz => zy, hz => hy)); (on_goal 2 => subst zz)) | (try clear_value zz; rename' zz => zy)) | with_reducible (first | apply tidy_ite | apply tidy1_ite | apply tidy2_ite | apply State.retire_tidy | apply State.setGroup_tidy | apply State.progGroupPage_tidy | apply tidy1_mk | apply tidy2_mk) | with_reducible (apply tidy_fst; first | apply State.retire_tidy | apply tidy1_ite) | with_reducible (apply tidy_snd; first | apply tidy2_ite) | with_reducible (fail_if_no_progress apply tidy_mk) | with_reducible (first | refine of1 ?_ (by assumption) | refine of2 ?_ (by assumption) | refine ofS ?_ (by assumption) | refine ofS1 ?_ (by assumption) | refine ofS2 ?_ (by assumption) | refine ofS3 ?_ (by assumption) | refine of3 ?_ (by assumption)) | dsimp only)

theorem State.jobPageFail_tidy {pq} {s : State} {o : NandOp} {j : ℕ} {p : NPage} (hs : Tidy pq s) : Tidy pq (State.jobPageFail s o j p) := by
  unfold State.jobPageFail
  repeat' (first | with_reducible assumption | with_reducible intro _ | (extract_lets +onlyGivenNames zz; first | (refine (fun (hz : Tidy pq zz) => ?_) ?_; (on_goal 1 => (try clear_value zz; rename' zz => zy, hz => hy)); (on_goal 2 => subst zz)) | (try clear_value zz; rename' zz => zy)) | with_reducible (first | apply tidy_ite | apply tidy1_ite | apply tidy2_ite | apply State.retire_tidy | apply State.jobStep_tidy | apply State.addOp_tidy | apply tidy1_mk | apply tidy2_mk) | with_reducible (apply tidy_fst; first | apply State.retire_tidy | apply tidy1_ite) | with_reducible (apply tidy_snd; first | apply tidy2_ite) | with_reducible (fail_if_no_progress apply tidy_mk) | with_reducible (first | refine of1 ?_ (by assumption) | refine of2 ?_ (by assumption) | refine ofS ?_ (by assumption) | refine ofS1 ?_ (by assumption) | refine ofS2 ?_ (by assumption) | refine ofS3 ?_ (by assumption) | refine of3 ?_ (by assumption)) | dsimp only)

theorem State.progFail_tidy {pq} {s : State} {o : NandOp} (hs : Tidy pq s) : Tidy pq (State.progFail s o) := by
  unfold State.progFail
  repeat' (first | with_reducible assumption | (extract_lets +onlyGivenNames zz; first | (refine (fun (hz : Tidy pq zz) => ?_) ?_; (on_goal 1 => (try clear_value zz; rename' zz => zy, hz => hy)); (on_goal 2 => subst zz)) | (refine (fun (hz : ∀ t, Tidy pq t → Tidy pq (zz t)) => ?_) ?_; (on_goal 1 => (try clear_value zz; rename' zz => zy, hz => hf)); (on_goal 2 => (subst zz; intro _ _; beta_reduce))) | (refine (fun (hz : ∀ t, Tidy pq (zz t)) => ?_) ?_; (on_goal 1 => (try clear_value zz; rename' zz => zy, hz => hf)); (on_goal 2 => (subst zz; intro _; beta_reduce))) | (try clear_value zz; rename' zz => zy)) | with_reducible (first | apply State.nextWseq_tidy | apply State.groupPageFail_tidy | apply State.jobPageFail_tidy) | with_reducible (apply tidy_snd; first | apply State.nextWseq_tidy) | split | with_reducible (fail_if_no_progress apply tidy_mk) | with_reducible (apply hf) | with_reducible (first | refine of1 ?_ (by assumption) | refine of2 ?_ (by assumption) | refine ofS ?_ (by assumption) | refine ofS1 ?_ (by assumption) | refine ofS2 ?_ (by assumption) | refine ofS3 ?_ (by assumption) | refine of3 ?_ (by assumption)) | dsimp only)

theorem State.dieAlive_tidy {pq} {s : State} {d : ℕ} (hs : Tidy pq s) : Tidy pq (State.dieAlive s d) := by
  unfold State.dieAlive
  repeat' (first | with_reducible assumption | with_reducible (first | apply State.setDie_tidy | apply tidyS_none | apply tidyS_some | apply tidyS1_none | apply tidyS2_none) | with_reducible (fail_if_no_progress apply tidy_mk))

theorem execNandProgramDone_tidy {pq} {die : Fin 16} {fail readBackOk : Bool} {parity : ℕ} {s : State} (hs : Tidy pq s) : TidyO pq (execNandProgramDone die fail readBackOk parity s) := by
  unfold execNandProgramDone
  extract_lets +onlyGivenNames d
  split
  · exact idle_tidy hs
  · rename_i o _
    refine tidyO_ite (idle_tidy hs) ?_
    extract_lets +onlyGivenNames t good stored
    have ht : Tidy pq t := State.dieAlive_tidy (State.endOp_tidy (State.badWords_tidy hs))
    have hp : TidyS pq stored := by
      show TidyS pq (match o.body with
        | .progGroup seq p => if good then (t.putPage o.target p).map (fun t => t.groupPageDone o seq) else none
        | .progJob j p => if good then (t.putPage o.target p).map (fun t => t.jobStep j (fun x => { x with done := x.done + 1 })) else none
        | _ => none)
      split
      · exact tidyS_ite (map_tidyS (State.putPage_tidy ht) fun _ h => State.groupPageDone_tidy h) tidyS_none
      · exact tidyS_ite (map_tidyS (State.putPage_tidy ht) fun _ h => State.jobStep_tidy h) tidyS_none
      · exact tidyS_none
    refine tidyO_next (State.nandStart_tidy ?_)
    clear_value stored
    cases stored with
    | some u => exact hp u rfl
    | none => exact State.progFail_tidy (State.nandErr_tidy (State.irq_tidy (State.count_tidy ht)))

theorem State.erased_tidy {pq} {s : State} {p : ℕ} (hs : Tidy pq s) : Tidy pq (State.erased s p) := by
  unfold State.erased
  repeat' (first | with_reducible assumption | (extract_lets +onlyGivenNames zz; first | (refine (fun (hz : Tidy pq zz) => ?_) ?_; (on_goal 1 => (try clear_value zz; rename' zz => zy, hz => hy)); (on_goal 2 => subst zz)) | (try clear_value zz; rename' zz => zy)) | with_reducible (first | apply tidy_ite | apply State.clearPages_tidy | apply State.setBlk_tidy | apply tidy1_mk | apply tidy2_mk) | with_reducible (fail_if_no_progress apply tidy_mk) | with_reducible (first | refine of1 ?_ (by assumption) | refine of2 ?_ (by assumption) | refine ofS ?_ (by assumption) | refine ofS1 ?_ (by assumption) | refine ofS2 ?_ (by assumption) | refine ofS3 ?_ (by assumption) | refine of3 ?_ (by assumption)) | dsimp only)

theorem State.eraseFail_tidy {pq} {s : State} {p : ℕ} (hs : Tidy pq s) : Tidy pq (State.eraseFail s p) := by
  unfold State.eraseFail
  repeat' (first | with_reducible assumption | with_reducible (first | apply tidy_ite | apply State.setBlk_tidy | apply State.noteRetired_tidy) | with_reducible (fail_if_no_progress apply tidy_mk))

theorem State.eraseSpan_tidy {pq} {s : State} (hs : Tidy pq s) : Tidy pq (State.eraseSpan s) := by
  unfold State.eraseSpan
  repeat' (first | with_reducible assumption | with_reducible intro _ | (extract_lets +onlyGivenNames zz; first | (refine (fun (hz : Tidy pq zz) => ?_) ?_; (on_goal 1 => (try clear_value zz; rename' zz => zy, hz => hy)); (on_goal 2 => subst zz)) | (try clear_value zz; rename' zz => zy)) | with_reducible (first | apply tidy_ite | apply foldl_tidy | apply foldl_tidy1 | apply State.setF_tidy | apply map_tidyS | apply map_tidyS_of2 | apply map_tidyS_any | apply tidyS_none | apply tidyS_some | apply tidyS1_none | apply tidyS2_none) | with_reducible (apply tidy_fst; first | apply foldl_tidy1) | with_reducible (apply tidy_snd; first | apply foldl_tidy2) | with_reducible (first | refine of1 ?_ (by assumption) | refine of2 ?_ (by assumption) | refine ofS ?_ (by assumption) | refine ofS1 ?_ (by assumption) | refine ofS2 ?_ (by assumption) | refine ofS3 ?_ (by assumption) | refine of3 ?_ (by assumption)) | dsimp only)

theorem State.eraseEnd_tidy {pq} {s : State} {o : NandOp} {fail : Bool} (hs : Tidy pq s) : Tidy pq (State.eraseEnd s o fail) := by
  unfold State.eraseEnd
  repeat' (first | with_reducible assumption | with_reducible intro _ | (extract_lets +onlyGivenNames zz; first | (refine (fun (hz : Tidy pq zz) => ?_) ?_; (on_goal 1 => (try clear_value zz; rename' zz => zy, hz => hy)); (on_goal 2 => subst zz)) | (try clear_value zz; rename' zz => zy)) | with_reducible (first | apply State.eraseFail_tidy | apply State.nandErr_tidy | apply State.irq_tidy | apply State.count_tidy | apply State.erased_tidy | apply State.jobStep_tidy | apply State.eraseSpan_tidy) | split | with_reducible (first | apply tidy_ite) | with_reducible (fail_if_no_progress apply tidy_mk) | with_reducible (first | refine of1 ?_ (by assumption) | refine of2 ?_ (by assumption) | refine ofS ?_ (by assumption) | refine ofS1 ?_ (by assumption) | refine ofS2 ?_ (by assumption) | refine ofS3 ?_ (by assumption) | refine of3 ?_ (by assumption)) | dsimp only)

theorem execNandEraseDone_tidy {pq} {die : Fin 16} {fail : Bool} {s : State} (hs : Tidy pq s) : TidyO pq (execNandEraseDone die fail s) := by
  unfold execNandEraseDone
  repeat' (first | with_reducible assumption | with_reducible (first | apply idle_tidy | apply State.nandStart_tidy | apply State.eraseEnd_tidy | apply State.dieAlive_tidy | apply State.endOp_tidy | apply tidyO_next | apply tidyS_none | apply tidyS_some | apply tidyS1_none | apply tidyS2_none) | split | with_reducible (fail_if_no_progress apply tidy_mk) | with_reducible (first | refine of1 ?_ (by assumption) | refine of2 ?_ (by assumption) | refine ofS ?_ (by assumption) | refine ofS1 ?_ (by assumption) | refine ofS2 ?_ (by assumption) | refine ofS3 ?_ (by assumption) | refine of3 ?_ (by assumption)) | dsimp only)

theorem State.noteRead_tidy {pq} {s : State} {p : ℕ} {r : ReadReport} (hs : Tidy pq s) : Tidy pq (State.noteRead s p r) := by
  unfold State.noteRead
  repeat' (first | with_reducible assumption | (extract_lets +onlyGivenNames zz; first | (refine (fun (hz : Tidy pq zz) => ?_) ?_; (on_goal 1 => (try clear_value zz; rename' zz => zy, hz => hy)); (on_goal 2 => subst zz)) | (try clear_value zz; rename' zz => zy)) | with_reducible (first | apply State.count_tidy | apply State.irq_tidy | apply State.peak_tidy | apply State.setBlk_tidy | apply State.retire_tidy | apply tidy1_mk | apply tidy2_mk) | with_reducible (apply tidy_fst; first | apply State.retire_tidy | apply tidy1_ite) | with_reducible (apply tidy_snd; first | apply tidy2_ite) | split | with_reducible (first | apply tidy_ite | apply tidy1_ite | apply tidy2_ite) | with_reducible (fail_if_no_progress apply tidy_mk) | with_reducible (first | refine of1 ?_ (by assumption) | refine of2 ?_ (by assumption) | refine ofS ?_ (by assumption) | refine ofS1 ?_ (by assumption) | refine ofS2 ?_ (by assumption) | refine ofS3 ?_ (by assumption) | refine of3 ?_ (by assumption)) | dsimp only)

theorem State.readOut_tidy {pq} {s : State} {o : NandOp} {j addr : ℕ} (hs : Tidy pq s) : Tidy pq (State.readOut s o j addr) := by
  unfold State.readOut
  repeat' (first | with_reducible assumption | with_reducible intro _ | with_reducible (first | apply State.jobStep_tidy | apply State.write_tidy | apply State.irq_tidy | apply tidyS_none | apply tidyS_some | apply tidyS1_none | apply tidyS2_none) | split | with_reducible (fail_if_no_progress apply tidy_mk) | with_reducible (first | refine of1 ?_ (by assumption) | refine of2 ?_ (by assumption) | refine ofS ?_ (by assumption) | refine ofS1 ?_ (by assumption) | refine ofS2 ?_ (by assumption) | refine ofS3 ?_ (by assumption) | refine of3 ?_ (by assumption)) | dsimp only)

theorem State.readFail_tidy {pq} {s : State} {o : NandOp} {j addr : ℕ} {other : Bool} (hs : Tidy pq s) : Tidy pq (State.readFail s o j addr other) := by
  unfold State.readFail
  repeat' (first | with_reducible assumption | with_reducible intro _ | with_reducible (first | apply State.addOp_tidy | apply State.jobStep_tidy | apply State.irq_tidy | apply tidyS_none | apply tidyS_some | apply tidyS1_none | apply tidyS2_none) | split | with_reducible (first | apply tidy_ite) | with_reducible (fail_if_no_progress apply tidy_mk) | with_reducible (first | refine of1 ?_ (by assumption) | refine of2 ?_ (by assumption) | refine ofS ?_ (by assumption) | refine ofS1 ?_ (by assumption) | refine ofS2 ?_ (by assumption) | refine ofS3 ?_ (by assumption) | refine of3 ?_ (by assumption)) | dsimp only)

theorem State.readEnd_tidy {pq} {s : State} {o : NandOp} {r : ReadReport} (hs : Tidy pq s) : Tidy pq (State.readEnd s o r) := by
  unfold State.readEnd
  repeat' (first | with_reducible assumption | with_reducible (first | apply State.readFail_tidy | apply State.noteRead_tidy | apply State.readOut_tidy) | split | with_reducible (first | apply tidy_ite) | with_reducible (fail_if_no_progress apply tidy_mk) | with_reducible (first | refine of1 ?_ (by assumption) | refine of2 ?_ (by assumption) | refine ofS ?_ (by assumption) | refine ofS1 ?_ (by assumption) | refine ofS2 ?_ (by assumption) | refine ofS3 ?_ (by assumption) | refine of3 ?_ (by assumption)) | dsimp only)

theorem execNandReadDone_tidy {pq} {die : Fin 16} {report : ReadReport} {s : State} (hs : Tidy pq s) : TidyO pq (execNandReadDone die report s) := by
  unfold execNandReadDone
  repeat' (first | with_reducible assumption | with_reducible (first | apply idle_tidy | apply State.nandStart_tidy | apply State.readEnd_tidy | apply State.dieAlive_tidy | apply State.endOp_tidy | apply tidyO_next | apply tidyS_none | apply tidyS_some | apply tidyS1_none | apply tidyS2_none) | split | with_reducible (fail_if_no_progress apply tidy_mk) | with_reducible (first | refine of1 ?_ (by assumption) | refine of2 ?_ (by assumption) | refine ofS ?_ (by assumption) | refine ofS1 ?_ (by assumption) | refine ofS2 ?_ (by assumption) | refine ofS3 ?_ (by assumption) | refine of3 ?_ (by assumption)) | dsimp only)

theorem execNandTimeout_tidy {pq} {die : Fin 16} {s : State} (hs : Tidy pq s) : TidyO pq (execNandTimeout die s) := by
  unfold execNandTimeout
  repeat' (first | with_reducible assumption | (extract_lets +onlyGivenNames zz; first | (refine (fun (hz : Tidy pq zz) => ?_) ?_; (on_goal 1 => (try clear_value zz; rename' zz => zy, hz => hy)); (on_goal 2 => subst zz)) | (refine (fun (hz : ∀ t, Tidy pq t → Tidy pq (zz t)) => ?_) ?_; (on_goal 1 => (try clear_value zz; rename' zz => zy, hz => hf)); (on_goal 2 => (subst zz; intro _ _; beta_reduce))) | (refine (fun (hz : ∀ t, Tidy pq (zz t)) => ?_) ?_; (on_goal 1 => (try clear_value zz; rename' zz => zy, hz => hf)); (on_goal 2 => (subst zz; intro _; beta_reduce))) | (try clear_value zz; rename' zz => zy)) | with_reducible (first | apply idle_tidy | apply State.endOp_tidy | apply State.setDie_tidy | apply State.nandErr_tidy | apply State.irq_tidy | apply State.count_tidy | apply State.nandStart_tidy | apply State.eraseEnd_tidy | apply State.readFail_tidy | apply State.progFail_tidy | apply State.retire_tidy | apply tidyO_next | apply tidyS_none | apply tidyS_some | apply tidyS1_none | apply tidyS2_none | apply tidy_getD) | with_reducible (apply tidy_fst; first | apply State.retire_tidy | apply tidy1_ite) | with_reducible (apply tidy_snd; first | apply tidy2_ite) | split | with_reducible (first | apply tidy_ite | apply tidyO_ite | apply tidy1_ite | apply tidy2_ite | apply tidyS_ite) | with_reducible (fail_if_no_progress apply tidy_mk) | with_reducible (apply hf) | with_reducible (first | refine of1 ?_ (by assumption) | refine of2 ?_ (by assumption) | refine ofS ?_ (by assumption) | refine ofS1 ?_ (by assumption) | refine ofS2 ?_ (by assumption) | refine ofS3 ?_ (by assumption) | refine of3 ?_ (by assumption)) | dsimp only)

theorem State.remirror_tidy {pq} {s : State} {vol copy lblk : ℕ} (hs : Tidy pq s) : Tidy pq (State.remirror s vol copy lblk) := by
  unfold State.remirror
  repeat' (first | with_reducible assumption | with_reducible intro _ | (extract_lets +onlyGivenNames zz; first | (refine (fun (hz : Tidy pq zz) => ?_) ?_; (on_goal 1 => (try clear_value zz; rename' zz => zy, hz => hy)); (on_goal 2 => subst zz)) | (refine (fun (hz : ∀ t, Tidy pq t → Tidy pq (zz t)) => ?_) ?_; (on_goal 1 => (try clear_value zz; rename' zz => zy, hz => hf)); (on_goal 2 => (subst zz; intro _ _; beta_reduce))) | (refine (fun (hz : ∀ t, Tidy pq (zz t)) => ?_) ?_; (on_goal 1 => (try clear_value zz; rename' zz => zy, hz => hf)); (on_goal 2 => (subst zz; intro _; beta_reduce))) | (try clear_value zz; rename' zz => zy)) | with_reducible (first | apply foldl_tidy | apply foldl_tidy1 | apply State.allocBlk_tidy | apply State.goReadOnly_tidy | apply State.writeHeader_tidy | apply State.mapTo_tidy | apply State.putPage_tidy | apply tidy1_mk | apply tidy2_mk | apply map_tidyS | apply map_tidyS_of2 | apply map_tidyS_any | apply tidyS_none | apply tidyS_some | apply tidyS1_none | apply tidyS2_none | apply tidy_getD) | with_reducible (apply tidy_fst; first | apply foldl_tidy1 | apply tidy1_ite) | with_reducible (apply tidy_snd; first | apply foldl_tidy2 | apply tidy2_ite) | split | with_reducible (first | apply tidy_ite | apply tidy1_ite | apply tidy2_ite | apply tidyS_ite) | with_reducible (fail_if_no_progress apply tidy_mk) | with_reducible (apply hf) | with_reducible (first | refine of1 ?_ (by assumption) | refine of2 ?_ (by assumption) | refine ofS ?_ (by assumption) | refine ofS1 ?_ (by assumption) | refine ofS2 ?_ (by assumption) | refine ofS3 ?_ (by assumption) | refine of3 ?_ (by assumption)) | dsimp only)

theorem State.dropOps_tidy {pq} {s : State} {d : ℕ} (hs : Tidy pq s) : Tidy pq (State.dropOps s d) := by
  unfold State.dropOps
  repeat' (first | with_reducible assumption | with_reducible intro _ | (extract_lets +onlyGivenNames zz; first | (refine (fun (hz : Tidy pq zz) => ?_) ?_; (on_goal 1 => (try clear_value zz; rename' zz => zy, hz => hy)); (on_goal 2 => subst zz)) | (try clear_value zz; rename' zz => zy)) | with_reducible (first | apply foldl_tidy | apply foldl_tidy1 | apply State.endOp_tidy | apply State.setGroup_tidy | apply State.progGroupPage_tidy | apply State.jobStep_tidy | apply State.readFail_tidy | apply tidy1_mk | apply tidy2_mk) | with_reducible (apply tidy_fst; first | apply foldl_tidy1) | with_reducible (apply tidy_snd; first | apply foldl_tidy2) | split | with_reducible (first | apply tidy_ite) | with_reducible (fail_if_no_progress apply tidy_mk) | with_reducible (first | refine of1 ?_ (by assumption) | refine of2 ?_ (by assumption) | refine ofS ?_ (by assumption) | refine ofS1 ?_ (by assumption) | refine ofS2 ?_ (by assumption) | refine ofS3 ?_ (by assumption) | refine of3 ?_ (by assumption)) | dsimp only)

theorem State.failDie_tidy {pq} {s : State} {d : ℕ} (hs : Tidy pq s) : Tidy pq (State.failDie s d) := by
  unfold State.failDie
  repeat' (first | with_reducible assumption | with_reducible intro _ | (extract_lets +onlyGivenNames zz; first | (refine (fun (hz : Tidy pq zz) => ?_) ?_; (on_goal 1 => (try clear_value zz; rename' zz => zy, hz => hy)); (on_goal 2 => subst zz)) | (try clear_value zz; rename' zz => zy)) | with_reducible (first | apply tidy_ite | apply tidy1_ite | apply tidy2_ite | apply foldl_tidy | apply foldl_tidy1 | apply State.setDie_tidy | apply State.remirror_tidy | apply State.mapTo_tidy | apply State.irq_tidy | apply State.setF_tidy | apply State.dropOps_tidy | apply tidy1_mk | apply tidy2_mk | apply map_tidyS | apply map_tidyS_of2 | apply map_tidyS_any | apply tidyS_none | apply tidyS_some | apply tidyS1_none | apply tidyS2_none) | with_reducible (apply tidy_fst; first | apply foldl_tidy1 | apply tidy1_ite) | with_reducible (apply tidy_snd; first | apply foldl_tidy2 | apply tidy2_ite) | with_reducible (fail_if_no_progress apply tidy_mk) | with_reducible (first | refine of1 ?_ (by assumption) | refine of2 ?_ (by assumption) | refine ofS ?_ (by assumption) | refine ofS1 ?_ (by assumption) | refine ofS2 ?_ (by assumption) | refine ofS3 ?_ (by assumption) | refine of3 ?_ (by assumption)) | dsimp only)

theorem execDieFail_tidy {pq} {die : Fin 16} {s : State} (hs : Tidy pq s) : TidyO pq (execDieFail die s) := by
  unfold execDieFail
  repeat' (first | with_reducible assumption | with_reducible intro _ | (extract_lets +onlyGivenNames zz; first | (refine (fun (hz : Tidy pq zz) => ?_) ?_; (on_goal 1 => (try clear_value zz; rename' zz => zy, hz => hy)); (on_goal 2 => subst zz)) | (try clear_value zz; rename' zz => zy)) | with_reducible (first | apply tidy_ite | apply tidyO_ite | apply State.settling_tidy | apply State.nandStart_tidy | apply State.event_tidy | apply State.failDie_tidy | apply idle_tidy | apply tidyO_next) | with_reducible (first | refine of1 ?_ (by assumption) | refine of2 ?_ (by assumption) | refine ofS ?_ (by assumption) | refine ofS1 ?_ (by assumption) | refine ofS2 ?_ (by assumption) | refine ofS3 ?_ (by assumption) | refine of3 ?_ (by assumption)) | dsimp only)

theorem execMapJournalFlush_tidy {pq} {s : State} (hs : Tidy pq s) : TidyO pq (execMapJournalFlush s) := by
  unfold execMapJournalFlush
  repeat' (first | with_reducible assumption | with_reducible (first | apply tidy_ite | apply tidyO_ite | apply State.mapFlush_tidy | apply idle_tidy | apply tidyO_next))

theorem State.relocate_tidy {pq} {s : State} {p fails : ℕ} (hs : Tidy pq s) : Tidy pq (State.relocate s p fails) := by
  unfold State.relocate
  repeat' (first | with_reducible assumption | (extract_lets +onlyGivenNames zz; first | (refine (fun (hz : Tidy pq zz) => ?_) ?_; (on_goal 1 => (try clear_value zz; rename' zz => zy, hz => hy)); (on_goal 2 => subst zz)) | (refine (fun (hz : ∀ t, Tidy pq t → Tidy pq (zz t)) => ?_) ?_; (on_goal 1 => (try clear_value zz; rename' zz => zy, hz => hf)); (on_goal 2 => (subst zz; intro _ _; beta_reduce))) | (refine (fun (hz : ∀ t, Tidy pq (zz t)) => ?_) ?_; (on_goal 1 => (try clear_value zz; rename' zz => zy, hz => hf)); (on_goal 2 => (subst zz; intro _; beta_reduce))) | (try clear_value zz; rename' zz => zy)) | with_reducible (first | apply State.copyFails_tidy | apply State.goReadOnly_tidy | apply State.mapNote_tidy | apply State.setBlk_tidy | apply State.replaceBlk_tidy | apply State.copyPages_tidy | apply State.count_tidy | apply State.eraseLater_tidy | apply State.allocBlk_tidy | apply tidy1_mk | apply tidy2_mk | apply tidyS_none | apply tidyS_some | apply tidyS1_none | apply tidyS2_none) | with_reducible (apply tidy_fst; first | apply tidy1_ite) | with_reducible (apply tidy_snd; first | apply tidy2_ite) | split | with_reducible (first | apply tidy_ite | apply tidy1_ite | apply tidy2_ite) | with_reducible (fail_if_no_progress apply tidy_mk) | with_reducible (apply hf) | with_reducible (first | refine of1 ?_ (by assumption) | refine of2 ?_ (by assumption) | refine ofS ?_ (by assumption) | refine ofS1 ?_ (by assumption) | refine ofS2 ?_ (by assumption) | refine ofS3 ?_ (by assumption) | refine of3 ?_ (by assumption)) | dsimp only)

theorem execLogBlockMerge_tidy {pq} {fails : Fin 4} {s : State} (hs : Tidy pq s) : TidyO pq (execLogBlockMerge fails s) := by
  unfold execLogBlockMerge
  repeat' (first | with_reducible assumption | with_reducible intro _ | with_reducible (first | apply idle_tidy | apply State.settling_tidy | apply State.nandStart_tidy | apply State.mergeLog_tidy | apply State.relocate_tidy | apply tidyO_next | apply tidy1_mk | apply tidy2_mk | apply tidyS_none | apply tidyS_some | apply tidyS1_none | apply tidyS2_none) | split | with_reducible (first | apply tidy_ite | apply tidyO_ite) | with_reducible (fail_if_no_progress apply tidy_mk) | with_reducible (first | refine of1 ?_ (by assumption) | refine of2 ?_ (by assumption) | refine ofS ?_ (by assumption) | refine ofS1 ?_ (by assumption) | refine ofS2 ?_ (by assumption) | refine ofS3 ?_ (by assumption) | refine of3 ?_ (by assumption)) | dsimp only)

theorem execWearLevelMove_tidy {pq} {fails : Fin 4} {s : State} (hs : Tidy pq s) : TidyO pq (execWearLevelMove fails s) := by
  unfold execWearLevelMove
  repeat' (first | with_reducible assumption | with_reducible intro _ | (extract_lets +onlyGivenNames zz; first | (refine (fun (hz : Tidy pq zz) => ?_) ?_; (on_goal 1 => (try clear_value zz; rename' zz => zy, hz => hy)); (on_goal 2 => subst zz)) | (try clear_value zz; rename' zz => zy)) | with_reducible (first | apply idle_tidy | apply State.eraseSpan_tidy | apply State.settling_tidy | apply State.copyFails_tidy | apply State.goReadOnly_tidy | apply State.setBlk_tidy | apply State.nandStart_tidy | apply State.eraseLater_tidy | apply State.mapNote_tidy | apply State.replaceBlk_tidy | apply State.copyPages_tidy | apply tidyO_next | apply tidy1_mk | apply tidy2_mk | apply tidyS_none | apply tidyS_some | apply tidyS1_none | apply tidyS2_none) | with_reducible (apply tidy_fst; first | apply tidy1_ite) | with_reducible (apply tidy_snd; first | apply tidy2_ite) | split | with_reducible (first | apply tidy_ite | apply tidyO_ite | apply tidy1_ite | apply tidy2_ite) | with_reducible (fail_if_no_progress apply tidy_mk) | with_reducible (first | refine of1 ?_ (by assumption) | refine of2 ?_ (by assumption) | refine ofS ?_ (by assumption) | refine ofS1 ?_ (by assumption) | refine ofS2 ?_ (by assumption) | refine ofS3 ?_ (by assumption) | refine of3 ?_ (by assumption)) | dsimp only)

theorem execPatrolRead_tidy {pq} {temp : BitVec 8} {s : State} (hs : Tidy pq s) : TidyO pq (execPatrolRead temp s) := by
  unfold execPatrolRead
  repeat' (first | with_reducible assumption | (extract_lets +onlyGivenNames zz; first | (refine (fun (hz : Tidy pq zz) => ?_) ?_; (on_goal 1 => (try clear_value zz; rename' zz => zy, hz => hy)); (on_goal 2 => subst zz)) | (try clear_value zz; rename' zz => zy)) | with_reducible (first | apply idle_tidy | apply State.setBlk_tidy | apply State.nandStart_tidy | apply State.addOp_tidy | apply tidyO_next | apply tidy1_mk | apply tidy2_mk | apply tidyS_none | apply tidyS_some | apply tidyS1_none | apply tidyS2_none) | split | with_reducible (first | apply tidy_ite | apply tidyO_ite) | with_reducible (fail_if_no_progress apply tidy_mk) | with_reducible (first | refine of1 ?_ (by assumption) | refine of2 ?_ (by assumption) | refine ofS ?_ (by assumption) | refine ofS1 ?_ (by assumption) | refine ofS2 ?_ (by assumption) | refine ofS3 ?_ (by assumption) | refine of3 ?_ (by assumption)) | dsimp only)

theorem execArchSpaceResume_tidy {pq} {s : State} (hs : Tidy pq s) : TidyO pq (execArchSpaceResume s) := by
  unfold execArchSpaceResume
  repeat' (first | with_reducible assumption | with_reducible intro _ | with_reducible (first | apply tidy_ite | apply tidyO_ite | apply State.tryGroups_tidy | apply idle_tidy | apply tidyO_next))

theorem State.mountStops_tidy {pq} {s : State} {code info : ℕ} (hs : Tidy pq s) : Tidy pq (State.mountStops s code info) := by
  unfold State.mountStops
  repeat' (first | with_reducible assumption | with_reducible (first | apply State.err_tidy | apply State.setF_tidy))

theorem State.loadSpareLevels_tidy {pq} {s : State} (hs : Tidy pq s) : Tidy pq (State.loadSpareLevels s) := by
  unfold State.loadSpareLevels
  repeat' (first | with_reducible assumption | (extract_lets +onlyGivenNames zz; first | (refine (fun (hz : Tidy pq zz) => ?_) ?_; (on_goal 1 => (try clear_value zz; rename' zz => zy, hz => hy)); (on_goal 2 => subst zz)) | (try clear_value zz; rename' zz => zy)) | with_reducible (first | apply tidy_ite | apply State.setF_tidy) | with_reducible (fail_if_no_progress apply tidy_mk) | with_reducible (first | refine of1 ?_ (by assumption) | refine of2 ?_ (by assumption) | refine ofS ?_ (by assumption) | refine ofS1 ?_ (by assumption) | refine ofS2 ?_ (by assumption) | refine ofS3 ?_ (by assumption) | refine of3 ?_ (by assumption)) | dsimp only)

theorem State.mountMap_tidy {pq} {s : State} (hs : Tidy pq s) : Tidy pq (State.mountMap s) := by
  unfold State.mountMap
  repeat' (first | with_reducible assumption | with_reducible intro _ | (extract_lets +onlyGivenNames zz; first | (refine (fun (hz : Tidy pq zz) => ?_) ?_; (on_goal 1 => (try clear_value zz; rename' zz => zy, hz => hy)); (on_goal 2 => subst zz)) | (refine (fun (hz : ∀ t, Tidy pq t → Tidy pq (zz t)) => ?_) ?_; (on_goal 1 => (try clear_value zz; rename' zz => zy, hz => hf)); (on_goal 2 => (subst zz; intro _ _; beta_reduce))) | (refine (fun (hz : ∀ t, Tidy pq (zz t)) => ?_) ?_; (on_goal 1 => (try clear_value zz; rename' zz => zy, hz => hf)); (on_goal 2 => (subst zz; intro _; beta_reduce))) | (try clear_value zz; rename' zz => zy)) | with_reducible (first | apply foldl_tidy | apply foldl_tidy1 | apply State.set2_tidy | apply State.setTail_tidy | apply State.irq_tidy | apply State.setF_tidy | apply State.nandStart_tidy | apply State.eraseLater_tidy | apply State.judgeSpares_tidy | apply State.loadSpareLevels_tidy | apply map_tidyS | apply map_tidyS_of2 | apply map_tidyS_any | apply tidy_getD) | with_reducible (apply tidy_fst; first | apply foldl_tidy1) | with_reducible (apply tidy_snd; first | apply foldl_tidy2) | with_reducible (fail_if_no_progress apply tidy_mk) | with_reducible (apply hf) | with_reducible (first | refine of1 ?_ (by assumption) | refine of2 ?_ (by assumption) | refine ofS ?_ (by assumption) | refine ofS1 ?_ (by assumption) | refine ofS2 ?_ (by assumption) | refine ofS3 ?_ (by assumption) | refine of3 ?_ (by assumption)) | dsimp only)

theorem State.mount_tidy {pq} {s : State} {ckptOk : Bool} (hs : Tidy pq s) : Tidy pq (State.mount s ckptOk) := by
  unfold State.mount
  repeat' (first | with_reducible assumption | (extract_lets +onlyGivenNames zz; first | (refine (fun (hz : Tidy pq zz) => ?_) ?_; (on_goal 1 => (try clear_value zz; rename' zz => zy, hz => hy)); (on_goal 2 => subst zz)) | (refine (fun (hz : ∀ t, Tidy pq t → Tidy pq (zz t)) => ?_) ?_; (on_goal 1 => (try clear_value zz; rename' zz => zy, hz => hf)); (on_goal 2 => (subst zz; intro _ _; beta_reduce))) | (refine (fun (hz : ∀ t, Tidy pq (zz t)) => ?_) ?_; (on_goal 1 => (try clear_value zz; rename' zz => zy, hz => hf)); (on_goal 2 => (subst zz; intro _; beta_reduce))) | (try clear_value zz; rename' zz => zy)) | with_reducible (first | apply State.setF_tidy | apply State.discover_tidy | apply State.mountStops_tidy | apply State.mountMap_tidy | apply tidyS_none | apply tidyS_some | apply tidyS1_none | apply tidyS2_none) | split | with_reducible (first | apply tidy_ite) | with_reducible (fail_if_no_progress apply tidy_mk) | with_reducible (apply hf) | with_reducible (first | refine of1 ?_ (by assumption) | refine of2 ?_ (by assumption) | refine ofS ?_ (by assumption) | refine ofS1 ?_ (by assumption) | refine ofS2 ?_ (by assumption) | refine ofS3 ?_ (by assumption) | refine of3 ?_ (by assumption)) | dsimp only)

theorem execFtlMount_tidy {pq} {req : Req} {ckptOk : Bool} {s : State} (hs : Tidy pq s) : TidyO pq (execFtlMount req ckptOk s) := by
  unfold execFtlMount
  repeat' (first | with_reducible assumption | with_reducible intro _ | with_reducible (first | apply tidy_ite | apply tidyO_ite | apply State.onT_tidy | apply State.refuseAt_tidy | apply State.mount_tidy | apply tidyO_next | apply idle_tidy))

theorem State.bootEnd_tidy {pq} {s : State} {code : ℕ} (hs : Tidy pq s) : Tidy pq (State.bootEnd s code) := by
  unfold State.bootEnd
  repeat' (first | with_reducible assumption | (extract_lets +onlyGivenNames zz; first | (refine (fun (hz : Tidy pq zz) => ?_) ?_; (on_goal 1 => (try clear_value zz; rename' zz => zy, hz => hy)); (on_goal 2 => subst zz)) | (try clear_value zz; rename' zz => zy)) | with_reducible (first | apply tidy_ite | apply State.setF_tidy | apply State.err_tidy) | with_reducible (first | refine of1 ?_ (by assumption) | refine of2 ?_ (by assumption) | refine ofS ?_ (by assumption) | refine ofS1 ?_ (by assumption) | refine ofS2 ?_ (by assumption) | refine ofS3 ?_ (by assumption) | refine of3 ?_ (by assumption)) | dsimp only)

theorem State.bootCopy_tidy {pq} {s : State} {mode : ℕ} {b : Bytes} (hs : Tidy pq s) : Tidy pq (State.bootCopy s mode b) := by
  unfold State.bootCopy
  repeat' (first | with_reducible assumption | with_reducible intro _ | (extract_lets +onlyGivenNames zz; first | (refine (fun (hz : Tidy pq zz) => ?_) ?_; (on_goal 1 => (try clear_value zz; rename' zz => zy, hz => hy)); (on_goal 2 => subst zz)) | (try clear_value zz; rename' zz => zy)) | with_reducible (first | apply tidy_ite | apply State.write_tidy | apply State.setBytes_tidy | apply State.bootEnd_tidy) | with_reducible (first | refine of1 ?_ (by assumption) | refine of2 ?_ (by assumption) | refine ofS ?_ (by assumption) | refine ofS1 ?_ (by assumption) | refine ofS2 ?_ (by assumption) | refine ofS3 ?_ (by assumption) | refine of3 ?_ (by assumption)) | dsimp only)

theorem State.bootUncorr_tidy {pq} {s : State} {copy : ℕ} (hs : Tidy pq s) : Tidy pq (State.bootUncorr s copy) := by
  unfold State.bootUncorr
  repeat' (first | with_reducible assumption | (extract_lets +onlyGivenNames zz; first | (refine (fun (hz : Tidy pq zz) => ?_) ?_; (on_goal 1 => (try clear_value zz; rename' zz => zy, hz => hy)); (on_goal 2 => subst zz)) | (try clear_value zz; rename' zz => zy)) | with_reducible (first | apply State.noteRead_tidy | apply tidy1_mk | apply tidy2_mk | apply tidyS_none | apply tidyS_some | apply tidyS1_none | apply tidyS2_none) | split | with_reducible (fail_if_no_progress apply tidy_mk) | with_reducible (first | refine of1 ?_ (by assumption) | refine of2 ?_ (by assumption) | refine ofS ?_ (by assumption) | refine ofS1 ?_ (by assumption) | refine ofS2 ?_ (by assumption) | refine ofS3 ?_ (by assumption) | refine of3 ?_ (by assumption)) | dsimp only)

theorem State.bootRead_tidy {pq} {s : State} {mode : ℕ} {bad otherBad : Bool} (hs : Tidy pq s) : Tidy pq (State.bootRead s mode bad otherBad) := by
  unfold State.bootRead
  repeat' (first | with_reducible assumption | (extract_lets +onlyGivenNames zz; first | (refine (fun (hz : Tidy pq zz) => ?_) ?_; (on_goal 1 => (try clear_value zz; rename' zz => zy, hz => hy)); (on_goal 2 => subst zz)) | (try clear_value zz; rename' zz => zy)) | with_reducible (first | apply tidy_ite | apply State.bootEnd_tidy | apply State.bootUncorr_tidy | apply State.bootCopy_tidy) | with_reducible (first | refine of1 ?_ (by assumption) | refine of2 ?_ (by assumption) | refine ofS ?_ (by assumption) | refine ofS1 ?_ (by assumption) | refine ofS2 ?_ (by assumption) | refine ofS3 ?_ (by assumption) | refine of3 ?_ (by assumption)) | dsimp only)

theorem State.bootGo_tidy {pq} {s : State} {req : Req} {mode : ℕ} {bad otherBad : Bool} (hs : Tidy pq s) : Tidy pq (State.bootGo s req mode bad otherBad) := by
  unfold State.bootGo
  repeat' (first | with_reducible assumption | with_reducible intro _ | with_reducible (first | apply State.onAction_tidy | apply State.bootRead_tidy))

theorem execBootReadCopy_tidy {pq} {req : Req} {copyBad otherBad : Bool} {s : State} (hs : Tidy pq s) : TidyO pq (execBootReadCopy req copyBad otherBad s) := by
  unfold execBootReadCopy
  repeat' (first | with_reducible assumption | with_reducible (first | apply State.bootGo_tidy | apply tidyO_next | apply idle_tidy))

theorem execBootReadCopyHash_tidy {pq} {req : Req} {copyBad otherBad : Bool} {s : State} (hs : Tidy pq s) : TidyO pq (execBootReadCopyHash req copyBad otherBad s) := by
  unfold execBootReadCopyHash
  repeat' (first | with_reducible assumption | with_reducible (first | apply State.bootGo_tidy | apply tidyO_next | apply idle_tidy))

theorem execBootReadCopyMerkle_tidy {pq} {req : Req} {copyBad otherBad : Bool} {s : State} (hs : Tidy pq s) : TidyO pq (execBootReadCopyMerkle req copyBad otherBad s) := by
  unfold execBootReadCopyMerkle
  repeat' (first | with_reducible assumption | with_reducible (first | apply State.bootGo_tidy | apply tidyO_next | apply idle_tidy))


/-! ## Ftl -/

theorem State.ftlFront_tidy {pq} {s : State} {op : ℕ} (hs : Tidy pq s) : TidyS3 pq (State.ftlFront s op) := by
  unfold State.ftlFront
  repeat' (first | with_reducible assumption | with_reducible intro _ | with_reducible (first | apply State.deq_tidy | apply tidy1_mk | apply tidy2_mk | apply tidy3_mk | apply map_tidyS | apply map_tidyS_of2 | apply map_tidyS_any | apply map_tidyS3 | apply tidyS_none | apply tidyS_some | apply tidyS1_none | apply tidyS2_none | apply tidyS3_some | apply tidyS3_none) | with_reducible (apply tidy_fst; first | apply tidy1_ite) | with_reducible (apply tidy_snd; first | apply tidy2_ite) | split | with_reducible (first | apply tidy_ite | apply tidy1_ite | apply tidy2_ite) | with_reducible (fail_if_no_progress apply tidy_mk) | with_reducible (first | refine of1 ?_ (by assumption) | refine of2 ?_ (by assumption) | refine ofS ?_ (by assumption) | refine ofS1 ?_ (by assumption) | refine ofS2 ?_ (by assumption) | refine ofS3 ?_ (by assumption) | refine of3 ?_ (by assumption)) | dsimp only)

theorem State.ftlCommand_tidy {pq} {s : State} {op : ℕ} {sub : Option Submission} {k : State → Bytes → State} (hs : Tidy pq s) (hk : ∀ t e1, Tidy pq t → Tidy pq (k t e1)) : Tidy pq (State.ftlCommand s op sub k) := by
  unfold State.ftlCommand
  repeat' (first | with_reducible assumption | (extract_lets +onlyGivenNames zz; first | (refine (fun (hz : Tidy pq zz) => ?_) ?_; (on_goal 1 => (try clear_value zz; rename' zz => zy, hz => hy)); (on_goal 2 => subst zz)) | (try clear_value zz; rename' zz => zy)) | with_reducible (first | apply State.submit_tidy | apply State.ftlDone_tidy | apply State.ftlFront_tidy | apply tidy1_mk | apply tidy2_mk | apply tidyS_none | apply tidyS_some | apply tidyS1_none | apply tidyS2_none) | with_reducible (apply tidy_fst; first | apply tidy1_ite) | with_reducible (apply tidy_snd; first | apply tidy2_ite) | split | with_reducible (first | apply tidy_ite | apply tidy1_ite | apply tidy2_ite) | with_reducible (fail_if_no_progress apply tidy_mk) | with_reducible (first | apply hk) | with_reducible (first | refine of1 ?_ (by assumption) | refine of2 ?_ (by assumption) | refine ofS ?_ (by assumption) | refine ofS1 ?_ (by assumption) | refine ofS2 ?_ (by assumption) | refine ofS3 ?_ (by assumption) | refine of3 ?_ (by assumption)) | dsimp only)

theorem State.newJob_tidy {pq} {s : State} {b : Bytes} (hs : Tidy pq s) : Tidy2 pq (State.newJob s b) := by
  unfold State.newJob
  repeat' (first | with_reducible assumption | (extract_lets +onlyGivenNames zz; first | (refine (fun (hz : Tidy pq zz) => ?_) ?_; (on_goal 1 => (try clear_value zz; rename' zz => zy, hz => hy)); (on_goal 2 => subst zz)) | (try clear_value zz; rename' zz => zy)) | with_reducible (first | apply tidy1_mk | apply tidy2_mk) | with_reducible (fail_if_no_progress apply tidy_mk) | with_reducible (first | refine of1 ?_ (by assumption) | refine of2 ?_ (by assumption) | refine ofS ?_ (by assumption) | refine ofS1 ?_ (by assumption) | refine ofS2 ?_ (by assumption) | refine ofS3 ?_ (by assumption) | refine of3 ?_ (by assumption)) | dsimp only)

theorem State.readPages_tidy {pq} {s : State} {b : Bytes} (hs : Tidy pq s) : Tidy pq (State.readPages s b) := by
  unfold State.readPages
  repeat' (first | with_reducible assumption | with_reducible intro _ | (extract_lets +onlyGivenNames zz; first | (refine (fun (hz : Tidy pq zz) => ?_) ?_; (on_goal 1 => (try clear_value zz; rename' zz => zy, hz => hy)); (on_goal 2 => subst zz)) | (refine (fun (hz : ∀ t, Tidy pq t → Tidy pq (zz t)) => ?_) ?_; (on_goal 1 => (try clear_value zz; rename' zz => zy, hz => hf)); (on_goal 2 => (subst zz; intro _ _; beta_reduce))) | (refine (fun (hz : ∀ t, Tidy pq (zz t)) => ?_) ?_; (on_goal 1 => (try clear_value zz; rename' zz => zy, hz => hf)); (on_goal 2 => (subst zz; intro _; beta_reduce))) | (try clear_value zz; rename' zz => zy)) | with_reducible (first | apply foldl_tidy | apply foldl_tidy1 | apply State.newJob_tidy | apply State.drawBytes_tidy | apply State.setJob_tidy | apply State.write_tidy | apply State.addOp_tidy | apply State.nandStart_tidy | apply State.endJob_tidy | apply tidy1_mk | apply tidy2_mk | apply tidyS_none | apply tidyS_some | apply tidyS1_none | apply tidyS2_none) | with_reducible (apply tidy_fst; first | apply foldl_tidy1 | apply tidy1_ite) | with_reducible (apply tidy_snd; first | apply State.newJob_tidy | apply State.drawBytes_tidy | apply foldl_tidy2 | apply tidy2_ite) | split | with_reducible (first | apply tidy_ite | apply tidy1_ite | apply tidy2_ite) | with_reducible (fail_if_no_progress apply tidy_mk) | with_reducible (apply hf) | with_reducible (first | refine of1 ?_ (by assumption) | refine of2 ?_ (by assumption) | refine ofS ?_ (by assumption) | refine ofS1 ?_ (by assumption) | refine ofS2 ?_ (by assumption) | refine ofS3 ?_ (by assumption) | refine of3 ?_ (by assumption)) | dsimp only)

theorem State.ftlRead_tidy {pq} {s : State} {b : Bytes} (hs : Tidy pq s) : Tidy pq (State.ftlRead s b) := by
  unfold State.ftlRead
  repeat' (first | with_reducible assumption | with_reducible (first | apply tidy_ite | apply State.ftlDone_tidy | apply State.readPages_tidy))

theorem execFtlRead_tidy {pq} {sub : Option Submission} {s : State} (hs : Tidy pq s) : TidyO pq (execFtlRead sub s) := by
  unfold execFtlRead
  repeat' (first | with_reducible assumption | with_reducible intro _ | with_reducible (first | apply State.ftlCommand_tidy | apply State.ftlRead_tidy | apply tidyO_next | apply idle_tidy) | with_reducible (fail_if_no_progress apply tidy_mk))

theorem State.freshCopy_tidy {pq} {s : State} {b : Bytes} {j copy lblk : ℕ} (hs : Tidy pq s) : TidyS pq (State.freshCopy s b j copy lblk) := by
  unfold State.freshCopy
  repeat' (first | with_reducible assumption | with_reducible intro _ | (extract_lets +onlyGivenNames zz; first | (refine (fun (hz : Tidy pq zz) => ?_) ?_; (on_goal 1 => (try clear_value zz; rename' zz => zy, hz => hy)); (on_goal 2 => subst zz)) | (try clear_value zz; rename' zz => zy)) | with_reducible (first | apply foldl_tidy | apply foldl_tidy1 | apply State.setJob_tidy | apply State.addOp_tidy | apply State.allocBlk_tidy | apply tidy1_mk | apply tidy2_mk | apply map_tidyS | apply map_tidyS_of2 | apply map_tidyS_any | apply bind_tidyS | apply bind_tidyS2 | apply foldl_tidyS | apply tidyS_none | apply tidyS_some | apply tidyS1_none | apply tidyS2_none) | with_reducible (apply tidy_fst; first | apply foldl_tidy1 | apply tidy1_ite) | with_reducible (apply tidy_snd; first | apply foldl_tidy2 | apply tidy2_ite) | split | with_reducible (first | apply tidy_ite | apply tidy1_ite | apply tidy2_ite | apply tidyS_ite) | with_reducible (fail_if_no_progress apply tidy_mk) | with_reducible (first | refine of1 ?_ (by assumption) | refine of2 ?_ (by assumption) | refine ofS ?_ (by assumption) | refine ofS1 ?_ (by assumption) | refine ofS2 ?_ (by assumption) | refine ofS3 ?_ (by assumption) | refine of3 ?_ (by assumption)) | dsimp only)

theorem State.writeBlks_tidy {pq} {s : State} {b : Bytes} (hs : Tidy pq s) : TidyS pq (State.writeBlks s b) := by
  unfold State.writeBlks
  repeat' (first | with_reducible assumption | with_reducible intro _ | (extract_lets +onlyGivenNames zz; first | (refine (fun (hz : Tidy pq zz) => ?_) ?_; (on_goal 1 => (try clear_value zz; rename' zz => zy, hz => hy)); (on_goal 2 => subst zz)) | (refine (fun (hz : ∀ t, Tidy pq t → Tidy pq (zz t)) => ?_) ?_; (on_goal 1 => (try clear_value zz; rename' zz => zy, hz => hf)); (on_goal 2 => (subst zz; intro _ _; beta_reduce))) | (refine (fun (hz : ∀ t, Tidy pq (zz t)) => ?_) ?_; (on_goal 1 => (try clear_value zz; rename' zz => zy, hz => hf)); (on_goal 2 => (subst zz; intro _; beta_reduce))) | (try clear_value zz; rename' zz => zy)) | with_reducible (first | apply foldl_tidy | apply foldl_tidy1 | apply State.newJob_tidy | apply State.nandStart_tidy | apply State.endJob_tidy | apply State.freshCopy_tidy | apply tidy1_mk | apply tidy2_mk | apply map_tidyS | apply map_tidyS_of2 | apply map_tidyS_any | apply bind_tidyS | apply bind_tidyS2 | apply foldl_tidyS | apply tidyS_none | apply tidyS_some | apply tidyS1_none | apply tidyS2_none) | with_reducible (apply tidy_fst; first | apply foldl_tidy1) | with_reducible (apply tidy_snd; first | apply State.newJob_tidy | apply foldl_tidy2) | with_reducible (apply hf) | with_reducible (first | refine of1 ?_ (by assumption) | refine of2 ?_ (by assumption) | refine ofS ?_ (by assumption) | refine ofS1 ?_ (by assumption) | refine ofS2 ?_ (by assumption) | refine ofS3 ?_ (by assumption) | refine of3 ?_ (by assumption)) | dsimp only)

theorem State.ftlWrite_tidy {pq} {s : State} {b : Bytes} (hs : Tidy pq s) : Tidy pq (State.ftlWrite s b) := by
  unfold State.ftlWrite
  repeat' (first | with_reducible assumption | with_reducible (first | apply State.ftlDone_tidy | apply State.goReadOnly_tidy | apply State.writeBlks_tidy | apply tidyS_none | apply tidyS_some | apply tidyS1_none | apply tidyS2_none) | split | with_reducible (first | apply tidy_ite) | with_reducible (fail_if_no_progress apply tidy_mk) | with_reducible (first | refine of1 ?_ (by assumption) | refine of2 ?_ (by assumption) | refine ofS ?_ (by assumption) | refine ofS1 ?_ (by assumption) | refine ofS2 ?_ (by assumption) | refine ofS3 ?_ (by assumption) | refine of3 ?_ (by assumption)) | dsimp only)

theorem execFtlWrite_tidy {pq} {sub : Option Submission} {s : State} (hs : Tidy pq s) : TidyO pq (execFtlWrite sub s) := by
  unfold execFtlWrite
  repeat' (first | with_reducible assumption | with_reducible intro _ | with_reducible (first | apply State.ftlCommand_tidy | apply State.ftlWrite_tidy | apply tidyO_next | apply idle_tidy) | with_reducible (fail_if_no_progress apply tidy_mk))

theorem State.trimArch_tidy {pq} {s : State} {b : Bytes} (hs : Tidy pq s) : Tidy pq (State.trimArch s b) := by
  unfold State.trimArch
  repeat' (first | with_reducible assumption | with_reducible (first | apply tidy_ite | apply State.ftlDone_tidy | apply State.nandStart_tidy | apply State.freeTail_tidy))

theorem execFtlTrimArch_tidy {pq} {sub : Option Submission} {s : State} (hs : Tidy pq s) : TidyO pq (execFtlTrimArch sub s) := by
  unfold execFtlTrimArch
  repeat' (first | with_reducible assumption | with_reducible intro _ | with_reducible (first | apply State.settling_tidy | apply State.ftlCommand_tidy | apply State.trimArch_tidy | apply tidyO_next | apply idle_tidy) | with_reducible (fail_if_no_progress apply tidy_mk))

theorem State.moveBlks_tidy {pq} {s : State} {n : ℕ} {from_ to_ : BlkUse} (hs : Tidy pq s) : Tidy pq (State.moveBlks s n from_ to_) := by
  unfold State.moveBlks
  repeat' (first | with_reducible assumption | with_reducible intro _ | with_reducible (first | apply foldl_tidy | apply foldl_tidy1 | apply State.setBlk_tidy) | with_reducible (apply tidy_fst; first | apply foldl_tidy1) | with_reducible (apply tidy_snd; first | apply foldl_tidy2) | with_reducible (fail_if_no_progress apply tidy_mk))

theorem State.resizeTo_tidy {pq} {s : State} {h : MediumHeader} {b : Bytes} {new : ℕ} (hs : Tidy pq s) : Tidy pq (State.resizeTo s h b new) := by
  unfold State.resizeTo
  repeat' (first | with_reducible assumption | (extract_lets +onlyGivenNames zz; first | (refine (fun (hz : Tidy pq zz) => ?_) ?_; (on_goal 1 => (try clear_value zz; rename' zz => zy, hz => hy)); (on_goal 2 => subst zz)) | (try clear_value zz; rename' zz => zy)) | with_reducible (first | apply tidy_ite | apply tidyS_ite | apply State.mapNote_tidy | apply State.moveBlks_tidy | apply State.ftlDone_tidy | apply State.tryGroups_tidy | apply State.judgeSpares_tidy | apply State.writeHeader_tidy | apply tidy1_mk | apply tidy2_mk | apply tidy_getD) | with_reducible (fail_if_no_progress apply tidy_mk) | with_reducible (first | refine of1 ?_ (by assumption) | refine of2 ?_ (by assumption) | refine ofS ?_ (by assumption) | refine ofS1 ?_ (by assumption) | refine ofS2 ?_ (by assumption) | refine ofS3 ?_ (by assumption) | refine of3 ?_ (by assumption)) | dsimp only)

theorem State.ftlResize_tidy {pq} {s : State} {b : Bytes} (hs : Tidy pq s) : Tidy pq (State.ftlResize s b) := by
  unfold State.ftlResize
  repeat' (first | with_reducible assumption | (extract_lets +onlyGivenNames zz; first | (refine (fun (hz : Tidy pq zz) => ?_) ?_; (on_goal 1 => (try clear_value zz; rename' zz => zy, hz => hy)); (on_goal 2 => subst zz)) | (try clear_value zz; rename' zz => zy)) | with_reducible (first | apply State.ftlDone_tidy | apply State.resizeTo_tidy | apply tidyS_none | apply tidyS_some | apply tidyS1_none | apply tidyS2_none | apply tidy_getD) | split | with_reducible (first | apply tidy_ite | apply tidyS_ite) | with_reducible (fail_if_no_progress apply tidy_mk) | with_reducible (first | refine of1 ?_ (by assumption) | refine of2 ?_ (by assumption) | refine ofS ?_ (by assumption) | refine ofS1 ?_ (by assumption) | refine ofS2 ?_ (by assumption) | refine ofS3 ?_ (by assumption) | refine of3 ?_ (by assumption)) | dsimp only)

theorem execFtlResize_tidy {pq} {sub : Option Submission} {s : State} (hs : Tidy pq s) : TidyO pq (execFtlResize sub s) := by
  unfold execFtlResize
  repeat' (first | with_reducible assumption | with_reducible intro _ | with_reducible (first | apply State.settling_tidy | apply State.ftlCommand_tidy | apply State.ftlResize_tidy | apply tidyO_next | apply idle_tidy) | with_reducible (fail_if_no_progress apply tidy_mk))

theorem State.eraseFor_tidy {pq} {s : State} {j p : ℕ} (hs : Tidy pq s) : Tidy pq (State.eraseFor s j p) := by
  unfold State.eraseFor
  repeat' (first | with_reducible assumption | with_reducible intro _ | (extract_lets +onlyGivenNames zz; first | (refine (fun (hz : Tidy pq zz) => ?_) ?_; (on_goal 1 => (try clear_value zz; rename' zz => zy, hz => hy)); (on_goal 2 => subst zz)) | (try clear_value zz; rename' zz => zy)) | with_reducible (first | apply tidy_ite | apply State.setJob_tidy | apply State.addOp_tidy | apply State.setBlk_tidy | apply map_tidyS | apply map_tidyS_of2 | apply map_tidyS_any) | with_reducible (fail_if_no_progress apply tidy_mk) | with_reducible (first | refine of1 ?_ (by assumption) | refine of2 ?_ (by assumption) | refine ofS ?_ (by assumption) | refine ofS1 ?_ (by assumption) | refine ofS2 ?_ (by assumption) | refine ofS3 ?_ (by assumption) | refine of3 ?_ (by assumption)) | dsimp only)

theorem State.unmapRange_tidy {pq} {s : State} {vol lo hi : ℕ} (hs : Tidy pq s) : Tidy pq (State.unmapRange s vol lo hi) := by
  unfold State.unmapRange
  repeat' (first | with_reducible assumption | with_reducible intro _ | (extract_lets +onlyGivenNames zz; first | (refine (fun (hz : Tidy pq zz) => ?_) ?_; (on_goal 1 => (try clear_value zz; rename' zz => zy, hz => hy)); (on_goal 2 => subst zz)) | (refine (fun (hz : ∀ t, Tidy pq t → Tidy pq (zz t)) => ?_) ?_; (on_goal 1 => (try clear_value zz; rename' zz => zy, hz => hf)); (on_goal 2 => (subst zz; intro _ _; beta_reduce))) | (refine (fun (hz : ∀ t, Tidy pq (zz t)) => ?_) ?_; (on_goal 1 => (try clear_value zz; rename' zz => zy, hz => hf)); (on_goal 2 => (subst zz; intro _; beta_reduce))) | (try clear_value zz; rename' zz => zy)) | with_reducible (first | apply tidy_ite | apply tidy1_ite | apply tidy2_ite | apply foldl_tidy | apply foldl_tidy1 | apply State.mergeLog_tidy | apply State.mapTo_tidy | apply State.writeHeader_tidy | apply tidy1_mk | apply tidy2_mk | apply map_tidyS | apply map_tidyS_of2 | apply map_tidyS_any | apply tidyS_none | apply tidyS_some | apply tidyS1_none | apply tidyS2_none) | with_reducible (apply tidy_fst; first | apply foldl_tidy1 | apply tidy1_ite) | with_reducible (apply tidy_snd; first | apply foldl_tidy2 | apply tidy2_ite) | with_reducible (fail_if_no_progress apply tidy_mk) | with_reducible (apply hf) | with_reducible (first | refine of1 ?_ (by assumption) | refine of2 ?_ (by assumption) | refine ofS ?_ (by assumption) | refine ofS1 ?_ (by assumption) | refine ofS2 ?_ (by assumption) | refine ofS3 ?_ (by assumption) | refine of3 ?_ (by assumption)) | dsimp only)

theorem State.discardBlks_tidy {pq} {s : State} {b : Bytes} (hs : Tidy pq s) : Tidy pq (State.discardBlks s b) := by
  unfold State.discardBlks
  repeat' (first | with_reducible assumption | with_reducible intro _ | (extract_lets +onlyGivenNames zz; first | (refine (fun (hz : Tidy pq zz) => ?_) ?_; (on_goal 1 => (try clear_value zz; rename' zz => zy, hz => hy)); (on_goal 2 => subst zz)) | (refine (fun (hz : ∀ t, Tidy pq t → Tidy pq (zz t)) => ?_) ?_; (on_goal 1 => (try clear_value zz; rename' zz => zy, hz => hf)); (on_goal 2 => (subst zz; intro _ _; beta_reduce))) | (refine (fun (hz : ∀ t, Tidy pq (zz t)) => ?_) ?_; (on_goal 1 => (try clear_value zz; rename' zz => zy, hz => hf)); (on_goal 2 => (subst zz; intro _; beta_reduce))) | (try clear_value zz; rename' zz => zy)) | with_reducible (first | apply foldl_tidy | apply foldl_tidy1 | apply State.unmapRange_tidy | apply State.eraseFor_tidy | apply State.nandStart_tidy | apply State.endJob_tidy | apply State.newJob_tidy | apply tidy1_mk | apply tidy2_mk) | with_reducible (apply tidy_fst; first | apply foldl_tidy1) | with_reducible (apply tidy_snd; first | apply State.newJob_tidy | apply foldl_tidy2) | with_reducible (apply hf) | with_reducible (first | refine of1 ?_ (by assumption) | refine of2 ?_ (by assumption) | refine ofS ?_ (by assumption) | refine ofS1 ?_ (by assumption) | refine ofS2 ?_ (by assumption) | refine ofS3 ?_ (by assumption) | refine of3 ?_ (by assumption)) | dsimp only)

theorem State.secureDiscard_tidy {pq} {s : State} {b : Bytes} (hs : Tidy pq s) : Tidy pq (State.secureDiscard s b) := by
  unfold State.secureDiscard
  repeat' (first | with_reducible assumption | with_reducible (first | apply tidy_ite | apply State.ftlDone_tidy | apply State.discardBlks_tidy | apply State.freeTail_tidy))

theorem execFtlSecureDiscard_tidy {pq} {sub : Option Submission} {s : State} (hs : Tidy pq s) : TidyO pq (execFtlSecureDiscard sub s) := by
  unfold execFtlSecureDiscard
  repeat' (first | with_reducible assumption | with_reducible intro _ | with_reducible (first | apply State.settling_tidy | apply State.ftlCommand_tidy | apply State.secureDiscard_tidy | apply tidyO_next | apply idle_tidy) | with_reducible (fail_if_no_progress apply tidy_mk))

theorem State.placeReserve_tidy {pq} {s : State} (hs : Tidy pq s) : Tidy pq (State.placeReserve s) := by
  unfold State.placeReserve
  repeat' (first | with_reducible assumption | with_reducible intro _ | (extract_lets +onlyGivenNames zz; first | (refine (fun (hz : Tidy pq zz) => ?_) ?_; (on_goal 1 => (try clear_value zz; rename' zz => zy, hz => hy)); (on_goal 2 => subst zz)) | (try clear_value zz; rename' zz => zy)) | with_reducible (first | apply tidy_ite | apply tidy1_ite | apply tidy2_ite | apply foldl_tidy | apply foldl_tidy1 | apply State.setBlk_tidy) | with_reducible (apply tidy_fst; first | apply foldl_tidy1 | apply tidy1_ite) | with_reducible (apply tidy_snd; first | apply foldl_tidy2 | apply tidy2_ite) | with_reducible (fail_if_no_progress apply tidy_mk) | with_reducible (first | refine of1 ?_ (by assumption) | refine of2 ?_ (by assumption) | refine ofS ?_ (by assumption) | refine ofS1 ?_ (by assumption) | refine ofS2 ?_ (by assumption) | refine ofS3 ?_ (by assumption) | refine of3 ?_ (by assumption)) | dsimp only)

theorem State.placeFixed_tidy {pq} {s : State} {sizes : List ℕ} (hs : Tidy pq s) : Tidy pq (State.placeFixed s sizes) := by
  unfold State.placeFixed
  repeat' (first | with_reducible assumption | with_reducible intro _ | with_reducible (first | apply foldl_tidy | apply foldl_tidy1 | apply State.allocBlk_tidy | apply State.mapTo_tidy | apply tidy1_mk | apply tidy2_mk | apply map_tidyS | apply map_tidyS_of2 | apply map_tidyS_any | apply tidyS_none | apply tidyS_some | apply tidyS1_none | apply tidyS2_none | apply tidy_getD) | with_reducible (apply tidy_fst; first | apply foldl_tidy1 | apply tidy1_ite) | with_reducible (apply tidy_snd; first | apply foldl_tidy2 | apply tidy2_ite) | split | with_reducible (first | apply tidy_ite | apply tidy1_ite | apply tidy2_ite | apply tidyS_ite) | with_reducible (fail_if_no_progress apply tidy_mk) | with_reducible (first | refine of1 ?_ (by assumption) | refine of2 ?_ (by assumption) | refine ofS ?_ (by assumption) | refine ofS1 ?_ (by assumption) | refine ofS2 ?_ (by assumption) | refine ofS3 ?_ (by assumption) | refine of3 ?_ (by assumption)) | dsimp only)

theorem State.eraseGood_tidy {pq} {s : State} (hs : Tidy pq s) : Tidy pq (State.eraseGood s) := by
  unfold State.eraseGood
  repeat' (first | with_reducible assumption | with_reducible intro _ | (extract_lets +onlyGivenNames zz; first | (refine (fun (hz : Tidy pq zz) => ?_) ?_; (on_goal 1 => (try clear_value zz; rename' zz => zy, hz => hy)); (on_goal 2 => subst zz)) | (try clear_value zz; rename' zz => zy)) | with_reducible (first | apply tidy_ite | apply tidy1_ite | apply tidy2_ite | apply foldl_tidy | apply foldl_tidy1 | apply State.setFeature_tidy | apply State.setBlk_tidy | apply tidy1_mk | apply tidy2_mk | apply map_tidyS | apply map_tidyS_of2 | apply map_tidyS_any | apply tidyS_none | apply tidyS_some | apply tidyS1_none | apply tidyS2_none) | with_reducible (apply tidy_fst; first | apply foldl_tidy1 | apply tidy1_ite) | with_reducible (apply tidy_snd; first | apply foldl_tidy2 | apply tidy2_ite) | with_reducible (fail_if_no_progress apply tidy_mk) | with_reducible (first | refine of1 ?_ (by assumption) | refine of2 ?_ (by assumption) | refine ofS ?_ (by assumption) | refine ofS1 ?_ (by assumption) | refine ofS2 ?_ (by assumption) | refine ofS3 ?_ (by assumption) | refine of3 ?_ (by assumption)) | dsimp only)

theorem State.formatTo_tidy {pq} {s : State} {b : Bytes} {sizes : List ℕ} (hs : Tidy pq s) : Tidy pq (State.formatTo s b sizes) := by
  unfold State.formatTo
  repeat' (first | with_reducible assumption | with_reducible intro _ | (extract_lets +onlyGivenNames zz; first | (refine (fun (hz : Tidy pq zz) => ?_) ?_; (on_goal 1 => (try clear_value zz; rename' zz => zy, hz => hy)); (on_goal 2 => subst zz)) | (refine (fun (hz : ∀ t, Tidy pq t → Tidy pq (zz t)) => ?_) ?_; (on_goal 1 => (try clear_value zz; rename' zz => zy, hz => hf)); (on_goal 2 => (subst zz; intro _ _; beta_reduce))) | (refine (fun (hz : ∀ t, Tidy pq (zz t)) => ?_) ?_; (on_goal 1 => (try clear_value zz; rename' zz => zy, hz => hf)); (on_goal 2 => (subst zz; intro _; beta_reduce))) | (try clear_value zz; rename' zz => zy)) | with_reducible (first | apply State.eraseGood_tidy | apply State.placeReserve_tidy | apply State.set2_tidy | apply State.ftlDone_tidy | apply State.eraseSpan_tidy | apply State.writeHeader_tidy | apply State.placeFixed_tidy | apply tidy1_mk | apply tidy2_mk | apply map_tidyS | apply map_tidyS_of2 | apply map_tidyS_any) | with_reducible (fail_if_no_progress apply tidy_mk) | with_reducible (apply hf) | with_reducible (first | refine of1 ?_ (by assumption) | refine of2 ?_ (by assumption) | refine ofS ?_ (by assumption) | refine ofS1 ?_ (by assumption) | refine ofS2 ?_ (by assumption) | refine ofS3 ?_ (by assumption) | refine of3 ?_ (by assumption)) | dsimp only)

theorem State.ftlFormat_tidy {pq} {s : State} {b : Bytes} (hs : Tidy pq s) : Tidy pq (State.ftlFormat s b) := by
  unfold State.ftlFormat
  repeat' (first | with_reducible assumption | (extract_lets +onlyGivenNames zz; first | (refine (fun (hz : Tidy pq zz) => ?_) ?_; (on_goal 1 => (try clear_value zz; rename' zz => zy, hz => hy)); (on_goal 2 => subst zz)) | (try clear_value zz; rename' zz => zy)) | with_reducible (first | apply tidy_ite | apply State.discover_tidy | apply State.ftlDone_tidy | apply State.formatTo_tidy) | with_reducible (first | refine of1 ?_ (by assumption) | refine of2 ?_ (by assumption) | refine ofS ?_ (by assumption) | refine ofS1 ?_ (by assumption) | refine ofS2 ?_ (by assumption) | refine ofS3 ?_ (by assumption) | refine of3 ?_ (by assumption)) | dsimp only)

theorem execFtlFormat_tidy {pq} {sub : Option Submission} {s : State} (hs : Tidy pq s) : TidyO pq (execFtlFormat sub s) := by
  unfold execFtlFormat
  repeat' (first | with_reducible assumption | with_reducible intro _ | with_reducible (first | apply State.ftlCommand_tidy | apply State.ftlFormat_tidy | apply tidyO_next | apply idle_tidy) | with_reducible (fail_if_no_progress apply tidy_mk))

theorem State.evacuateBlk_tidy {pq} {s : State} {p : ℕ} (hs : Tidy pq s) : Tidy pq (State.evacuateBlk s p) := by
  unfold State.evacuateBlk
  repeat' (first | with_reducible assumption | with_reducible (first | apply State.allocBlk_tidy | apply State.goReadOnly_tidy | apply State.eraseLater_tidy | apply State.mapNote_tidy | apply State.replaceBlk_tidy | apply State.copyPages_tidy | apply tidy1_mk | apply tidy2_mk | apply tidyS_none | apply tidyS_some | apply tidyS1_none | apply tidyS2_none) | with_reducible (apply tidy_fst; first | apply tidy1_ite) | with_reducible (apply tidy_snd; first | apply tidy2_ite) | split | with_reducible (first | apply tidy_ite | apply tidy1_ite | apply tidy2_ite) | with_reducible (fail_if_no_progress apply tidy_mk) | with_reducible (first | refine of1 ?_ (by assumption) | refine of2 ?_ (by assumption) | refine ofS ?_ (by assumption) | refine ofS1 ?_ (by assumption) | refine ofS2 ?_ (by assumption) | refine ofS3 ?_ (by assumption) | refine of3 ?_ (by assumption)) | dsimp only)

theorem State.evacuateDie_tidy {pq} {s : State} {b : Bytes} {d : ℕ} (hs : Tidy pq s) : Tidy pq (State.evacuateDie s b d) := by
  unfold State.evacuateDie
  repeat' (first | with_reducible assumption | (extract_lets +onlyGivenNames zz; first | (refine (fun (hz : Tidy pq zz) => ?_) ?_; (on_goal 1 => (try clear_value zz; rename' zz => zy, hz => hy)); (on_goal 2 => subst zz)) | (try clear_value zz; rename' zz => zy)) | with_reducible (first | apply foldl_tidy | apply foldl_tidy1 | apply State.setDie_tidy | apply State.evacuateBlk_tidy | apply State.nandStart_tidy | apply State.ftlDone_tidy | apply State.judgeSpares_tidy) | with_reducible (apply tidy_fst; first | apply foldl_tidy1) | with_reducible (apply tidy_snd; first | apply foldl_tidy2) | with_reducible (fail_if_no_progress apply tidy_mk) | with_reducible (first | refine of1 ?_ (by assumption) | refine of2 ?_ (by assumption) | refine ofS ?_ (by assumption) | refine ofS1 ?_ (by assumption) | refine ofS2 ?_ (by assumption) | refine ofS3 ?_ (by assumption) | refine of3 ?_ (by assumption)) | dsimp only)

theorem State.dieEvacuate_tidy {pq} {s : State} {b : Bytes} (hs : Tidy pq s) : Tidy pq (State.dieEvacuate s b) := by
  unfold State.dieEvacuate
  repeat' (first | with_reducible assumption | (extract_lets +onlyGivenNames zz; first | (refine (fun (hz : Tidy pq zz) => ?_) ?_; (on_goal 1 => (try clear_value zz; rename' zz => zy, hz => hy)); (on_goal 2 => subst zz)) | (try clear_value zz; rename' zz => zy)) | with_reducible (first | apply tidy_ite | apply State.ftlDone_tidy | apply State.evacuateDie_tidy) | with_reducible (first | refine of1 ?_ (by assumption) | refine of2 ?_ (by assumption) | refine ofS ?_ (by assumption) | refine ofS1 ?_ (by assumption) | refine ofS2 ?_ (by assumption) | refine ofS3 ?_ (by assumption) | refine of3 ?_ (by assumption)) | dsimp only)

theorem execFtlDieEvacuate_tidy {pq} {sub : Option Submission} {s : State} (hs : Tidy pq s) : TidyO pq (execFtlDieEvacuate sub s) := by
  unfold execFtlDieEvacuate
  repeat' (first | with_reducible assumption | with_reducible intro _ | with_reducible (first | apply State.settling_tidy | apply State.ftlCommand_tidy | apply State.dieEvacuate_tidy | apply tidyO_next | apply idle_tidy) | with_reducible (fail_if_no_progress apply tidy_mk))

theorem State.enterDie_tidy {pq} {s : State} {b : Bytes} {d : ℕ} {p : DieParam} (hs : Tidy pq s) : Tidy pq (State.enterDie s b d p) := by
  unfold State.enterDie
  repeat' (first | with_reducible assumption | with_reducible intro _ | (extract_lets +onlyGivenNames zz; first | (refine (fun (hz : Tidy pq zz) => ?_) ?_; (on_goal 1 => (try clear_value zz; rename' zz => zy, hz => hy)); (on_goal 2 => subst zz)) | (refine (fun (hz : ∀ t, Tidy pq t → Tidy pq (zz t)) => ?_) ?_; (on_goal 1 => (try clear_value zz; rename' zz => zy, hz => hf)); (on_goal 2 => (subst zz; intro _ _; beta_reduce))) | (refine (fun (hz : ∀ t, Tidy pq (zz t)) => ?_) ?_; (on_goal 1 => (try clear_value zz; rename' zz => zy, hz => hf)); (on_goal 2 => (subst zz; intro _; beta_reduce))) | (try clear_value zz; rename' zz => zy)) | with_reducible (first | apply tidy_ite | apply tidy1_ite | apply tidy2_ite | apply foldl_tidy | apply foldl_tidy1 | apply State.identify_tidy | apply State.setBlk_tidy | apply State.resetDies_tidy | apply State.setDie_tidy | apply State.setF_tidy | apply State.ftlDone_tidy | apply State.tryGroups_tidy | apply State.judgeSpares_tidy | apply State.writeHeader_tidy | apply State.mapNote_tidy | apply tidy1_mk | apply tidy2_mk) | with_reducible (apply tidy_fst; first | apply foldl_tidy1 | apply tidy1_ite) | with_reducible (apply tidy_snd; first | apply foldl_tidy2 | apply tidy2_ite) | with_reducible (fail_if_no_progress apply tidy_mk) | with_reducible (apply hf) | with_reducible (first | refine of1 ?_ (by assumption) | refine of2 ?_ (by assumption) | refine ofS ?_ (by assumption) | refine ofS1 ?_ (by assumption) | refine ofS2 ?_ (by assumption) | refine ofS3 ?_ (by assumption) | refine of3 ?_ (by assumption)) | dsimp only)

theorem State.dieAdd_tidy {pq} {device : Option DieParam} {s : State} {b : Bytes} (hs : Tidy pq s) : Tidy pq (State.dieAdd device s b) := by
  unfold State.dieAdd
  repeat' (first | with_reducible assumption | (extract_lets +onlyGivenNames zz; first | (refine (fun (hz : Tidy pq zz) => ?_) ?_; (on_goal 1 => (try clear_value zz; rename' zz => zy, hz => hy)); (on_goal 2 => subst zz)) | (try clear_value zz; rename' zz => zy)) | with_reducible (first | apply State.ftlDone_tidy | apply State.enterDie_tidy | apply tidyS_none | apply tidyS_some | apply tidyS1_none | apply tidyS2_none) | split | with_reducible (first | apply tidy_ite) | with_reducible (fail_if_no_progress apply tidy_mk) | with_reducible (first | refine of1 ?_ (by assumption) | refine of2 ?_ (by assumption) | refine ofS ?_ (by assumption) | refine ofS1 ?_ (by assumption) | refine ofS2 ?_ (by assumption) | refine ofS3 ?_ (by assumption) | refine of3 ?_ (by assumption)) | dsimp only)

theorem execFtlDieAdd_tidy {pq} {sub : Option Submission} {device : Option DieParam} {s : State} (hs : Tidy pq s) : TidyO pq (execFtlDieAdd sub device s) := by
  unfold execFtlDieAdd
  repeat' (first | with_reducible assumption | with_reducible intro _ | with_reducible (first | apply State.settling_tidy | apply State.ftlCommand_tidy | apply State.dieAdd_tidy | apply tidyO_next | apply idle_tidy) | with_reducible (fail_if_no_progress apply tidy_mk))

theorem State.snapTick_tidy {pq} {s : State} (hs : Tidy pq s) : Tidy pq (State.snapTick s) := by
  unfold State.snapTick
  repeat' (first | with_reducible assumption | (extract_lets +onlyGivenNames zz; first | (refine (fun (hz : Tidy pq zz) => ?_) ?_; (on_goal 1 => (try clear_value zz; rename' zz => zy, hz => hy)); (on_goal 2 => subst zz)) | (refine (fun (hz : ∀ t, Tidy pq t → Tidy pq (zz t)) => ?_) ?_; (on_goal 1 => (try clear_value zz; rename' zz => zy, hz => hf)); (on_goal 2 => (subst zz; intro _ _; beta_reduce))) | (refine (fun (hz : ∀ t, Tidy pq (zz t)) => ?_) ?_; (on_goal 1 => (try clear_value zz; rename' zz => zy, hz => hf)); (on_goal 2 => (subst zz; intro _; beta_reduce))) | (try clear_value zz; rename' zz => zy)) | with_reducible (first | apply State.volWrite_tidy | apply tidyS_none | apply tidyS_some | apply tidyS1_none | apply tidyS2_none | apply tidy_getD) | split | with_reducible (first | apply tidy_ite | apply tidyS_ite) | with_reducible (fail_if_no_progress apply tidy_mk) | with_reducible (apply hf) | with_reducible (first | refine of1 ?_ (by assumption) | refine of2 ?_ (by assumption) | refine ofS ?_ (by assumption) | refine ofS1 ?_ (by assumption) | refine ofS2 ?_ (by assumption) | refine ofS3 ?_ (by assumption) | refine of3 ?_ (by assumption)) | dsimp only)


/-! ## Plc -/

theorem State.takeCal_tidy {pq} {s : State} {k : ℕ} (hs : Tidy pq s) : Tidy pq (State.takeCal s k) := by
  unfold State.takeCal
  repeat' (first | with_reducible assumption | (extract_lets +onlyGivenNames zz; first | (refine (fun (hz : Tidy pq zz) => ?_) ?_; (on_goal 1 => (try clear_value zz; rename' zz => zy, hz => hy)); (on_goal 2 => subst zz)) | (try clear_value zz; rename' zz => zy)) | with_reducible (first | apply State.setPort_tidy | apply tidy1_mk | apply tidy2_mk | apply tidyS_none | apply tidyS_some | apply tidyS1_none | apply tidyS2_none) | split | with_reducible (fail_if_no_progress apply tidy_mk) | with_reducible (first | refine of1 ?_ (by assumption) | refine of2 ?_ (by assumption) | refine ofS ?_ (by assumption) | refine ofS1 ?_ (by assumption) | refine ofS2 ?_ (by assumption) | refine ofS3 ?_ (by assumption) | refine of3 ?_ (by assumption)) | dsimp only)

theorem State.drive_tidy {pq} {s : State} {k start stop : ℕ} {symbols : Bytes} (hs : Tidy pq s) : Tidy pq (State.drive s k start stop symbols) := by
  unfold State.drive
  repeat' (first | with_reducible assumption | with_reducible (first | apply State.emit_tidy | apply tidy1_mk | apply tidy2_mk))

theorem State.transmit_tidy {pq} {s : State} {k : ℕ} {fch mac : Bytes} {p : PlcPlan} (hs : Tidy pq s) : Tidy pq (State.transmit s k fch mac p) := by
  unfold State.transmit
  repeat' (first | with_reducible assumption | (extract_lets +onlyGivenNames zz; first | (refine (fun (hz : Tidy pq zz) => ?_) ?_; (on_goal 1 => (try clear_value zz; rename' zz => zy, hz => hy)); (on_goal 2 => subst zz)) | (refine (fun (hz : ∀ t, Tidy pq t → Tidy pq (zz t)) => ?_) ?_; (on_goal 1 => (try clear_value zz; rename' zz => zy, hz => hf)); (on_goal 2 => (subst zz; intro _ _; beta_reduce))) | (refine (fun (hz : ∀ t, Tidy pq (zz t)) => ?_) ?_; (on_goal 1 => (try clear_value zz; rename' zz => zy, hz => hf)); (on_goal 2 => (subst zz; intro _; beta_reduce))) | (try clear_value zz; rename' zz => zy)) | with_reducible (first | apply State.takeCal_tidy | apply State.count_tidy | apply State.drive_tidy | apply State.emit_tidy | apply State.setPort_tidy | apply tidy1_mk | apply tidy2_mk) | with_reducible (fail_if_no_progress apply tidy_mk) | with_reducible (apply hf) | with_reducible (first | refine of1 ?_ (by assumption) | refine of2 ?_ (by assumption) | refine ofS ?_ (by assumption) | refine ofS1 ?_ (by assumption) | refine ofS2 ?_ (by assumption) | refine ofS3 ?_ (by assumption) | refine of3 ?_ (by assumption)) | dsimp only)

theorem State.plcSend_tidy {pq} {s : State} {k : ℕ} {t : PortTx} (hs : Tidy pq s) : Tidy pq (State.plcSend s k t) := by
  unfold State.plcSend
  repeat' (first | with_reducible assumption | with_reducible intro _ | (extract_lets +onlyGivenNames zz; first | (refine (fun (hz : Tidy pq zz) => ?_) ?_; (on_goal 1 => (try clear_value zz; rename' zz => zy, hz => hy)); (on_goal 2 => subst zz)) | (try clear_value zz; rename' zz => zy)) | with_reducible (first | apply tidy_ite | apply tidy1_ite | apply tidy2_ite | apply State.transmit_tidy | apply State.count_tidy | apply State.setPort_tidy | apply State.txDone_tidy | apply tidy1_mk | apply tidy2_mk | apply tidyS_none | apply tidyS_some | apply tidyS1_none | apply tidyS2_none) | with_reducible (apply tidy_fst; first | apply tidy1_ite) | with_reducible (apply tidy_snd; first | apply tidy2_ite) | with_reducible (fail_if_no_progress apply tidy_mk) | with_reducible (first | refine of1 ?_ (by assumption) | refine of2 ?_ (by assumption) | refine ofS ?_ (by assumption) | refine ofS1 ?_ (by assumption) | refine ofS2 ?_ (by assumption) | refine ofS3 ?_ (by assumption) | refine of3 ?_ (by assumption)) | dsimp only)

theorem State.freezeBackoff_tidy {pq} {s : State} {k start : ℕ} (hs : Tidy pq s) : Tidy pq (State.freezeBackoff s k start) := by
  unfold State.freezeBackoff
  repeat' (first | with_reducible assumption | with_reducible intro _ | (extract_lets +onlyGivenNames zz; first | (refine (fun (hz : Tidy pq zz) => ?_) ?_; (on_goal 1 => (try clear_value zz; rename' zz => zy, hz => hy)); (on_goal 2 => subst zz)) | (refine (fun (hz : ∀ t, Tidy pq t → Tidy pq (zz t)) => ?_) ?_; (on_goal 1 => (try clear_value zz; rename' zz => zy, hz => hf)); (on_goal 2 => (subst zz; intro _ _; beta_reduce))) | (refine (fun (hz : ∀ t, Tidy pq (zz t)) => ?_) ?_; (on_goal 1 => (try clear_value zz; rename' zz => zy, hz => hf)); (on_goal 2 => (subst zz; intro _; beta_reduce))) | (try clear_value zz; rename' zz => zy)) | with_reducible (first | apply State.setPort_tidy | apply tidy1_mk | apply tidy2_mk | apply map_tidyS | apply map_tidyS_of2 | apply map_tidyS_any | apply tidyS_none | apply tidyS_some | apply tidyS1_none | apply tidyS2_none) | with_reducible (apply tidy_fst; first | apply tidy1_ite) | with_reducible (apply tidy_snd; first | apply tidy2_ite) | split | with_reducible (first | apply tidy_ite | apply tidy1_ite | apply tidy2_ite) | with_reducible (fail_if_no_progress apply tidy_mk) | with_reducible (apply hf) | with_reducible (first | refine of1 ?_ (by assumption) | refine of2 ?_ (by assumption) | refine ofS ?_ (by assumption) | refine ofS1 ?_ (by assumption) | refine ofS2 ?_ (by assumption) | refine ofS3 ?_ (by assumption) | refine of3 ?_ (by assumption)) | dsimp only)

theorem State.oweAck_tidy {pq} {s : State} {k : ℕ} {h : PlcFch} {ack : Bool} (hs : Tidy pq s) : Tidy pq (State.oweAck s k h ack) := by
  unfold State.oweAck
  repeat' (first | with_reducible assumption | with_reducible (first | apply tidy_ite | apply State.setPort_tidy | apply tidy1_mk | apply tidy2_mk) | with_reducible (fail_if_no_progress apply tidy_mk))

theorem State.plcHeard_tidy {pq} {s : State} {k : ℕ} {fch : Bytes} (hs : Tidy pq s) : Tidy2 pq (State.plcHeard s k fch) := by
  unfold State.plcHeard
  repeat' (first | with_reducible assumption | with_reducible intro _ | (extract_lets +onlyGivenNames zz; first | (refine (fun (hz : Tidy pq zz) => ?_) ?_; (on_goal 1 => (try clear_value zz; rename' zz => zy, hz => hy)); (on_goal 2 => subst zz)) | (refine (fun (hz : ∀ t, Tidy pq t → Tidy pq (zz t)) => ?_) ?_; (on_goal 1 => (try clear_value zz; rename' zz => zy, hz => hf)); (on_goal 2 => (subst zz; intro _ _; beta_reduce))) | (refine (fun (hz : ∀ t, Tidy pq (zz t)) => ?_) ?_; (on_goal 1 => (try clear_value zz; rename' zz => zy, hz => hf)); (on_goal 2 => (subst zz; intro _; beta_reduce))) | (refine (fun (hz : ∀ e0 e1, Tidy pq (zz e0 e1)) => ?_) ?_; (on_goal 1 => (try clear_value zz; rename' zz => zy, hz => hf)); (on_goal 2 => (subst zz; intro _ _; beta_reduce))) | (try clear_value zz; rename' zz => zy)) | with_reducible (first | apply State.takeCal_tidy | apply State.freezeBackoff_tidy | apply State.setPort_tidy | apply tidy1_mk | apply tidy2_mk | apply tidyS_none | apply tidyS_some | apply tidyS1_none | apply tidyS2_none) | with_reducible (apply tidy_fst; first | apply tidy1_ite) | with_reducible (apply tidy_snd; first | apply tidy2_ite) | split | with_reducible (first | apply tidy_ite | apply tidy1_ite | apply tidy2_ite) | with_reducible (fail_if_no_progress apply tidy_mk) | with_reducible (apply hf) | with_reducible (first | refine of1 ?_ (by assumption) | refine of2 ?_ (by assumption) | refine ofS ?_ (by assumption) | refine ofS1 ?_ (by assumption) | refine ofS2 ?_ (by assumption) | refine ofS3 ?_ (by assumption) | refine of3 ?_ (by assumption)) | dsimp only)

theorem State.setGain_tidy {pq} {s : State} {k agc : ℕ} (hs : Tidy pq s) : Tidy pq (State.setGain s k agc) := by
  unfold State.setGain
  repeat' (first | with_reducible assumption | with_reducible (first | apply tidy_ite | apply State.setPort_tidy) | with_reducible (fail_if_no_progress apply tidy_mk))

theorem State.measure_tidy {pq} {s : State} {k : ℕ} {h : PlcFch} {symbols : List PlcSymbol} (hs : Tidy pq s) : Tidy pq (State.measure s k h symbols) := by
  unfold State.measure
  repeat' (first | with_reducible assumption | with_reducible intro _ | (extract_lets +onlyGivenNames zz; first | (refine (fun (hz : Tidy pq zz) => ?_) ?_; (on_goal 1 => (try clear_value zz; rename' zz => zy, hz => hy)); (on_goal 2 => subst zz)) | (refine (fun (hz : ∀ t, Tidy pq t → Tidy pq (zz t)) => ?_) ?_; (on_goal 1 => (try clear_value zz; rename' zz => zy, hz => hf)); (on_goal 2 => (subst zz; intro _ _; beta_reduce))) | (refine (fun (hz : ∀ t, Tidy pq (zz t)) => ?_) ?_; (on_goal 1 => (try clear_value zz; rename' zz => zy, hz => hf)); (on_goal 2 => (subst zz; intro _; beta_reduce))) | (try clear_value zz; rename' zz => zy)) | with_reducible (first | apply foldl_tidy | apply foldl_tidy1 | apply State.putNode_tidy | apply tidy1_mk | apply tidy2_mk | apply map_tidyS | apply map_tidyS_of2 | apply map_tidyS_any | apply tidyS_none | apply tidyS_some | apply tidyS1_none | apply tidyS2_none) | with_reducible (apply tidy_fst; first | apply foldl_tidy1 | apply tidy1_ite) | with_reducible (apply tidy_snd; first | apply foldl_tidy2 | apply tidy2_ite) | split | with_reducible (first | apply tidy_ite | apply tidy1_ite | apply tidy2_ite) | with_reducible (fail_if_no_progress apply tidy_mk) | with_reducible (apply hf) | with_reducible (first | refine of1 ?_ (by assumption) | refine of2 ?_ (by assumption) | refine ofS ?_ (by assumption) | refine ofS1 ?_ (by assumption) | refine ofS2 ?_ (by assumption) | refine ofS3 ?_ (by assumption) | refine of3 ?_ (by assumption)) | dsimp only)

theorem State.plcReceive_tidy {pq} {s : State} {k : ℕ} {fch mac : Bytes} {rx : PlcRx} (hs : Tidy pq s) : Tidy2 pq (State.plcReceive s k fch mac rx) := by
  unfold State.plcReceive
  repeat' (first | with_reducible assumption | (extract_lets +onlyGivenNames zz; first | (refine (fun (hz : Tidy pq zz) => ?_) ?_; (on_goal 1 => (try clear_value zz; rename' zz => zy, hz => hy)); (on_goal 2 => subst zz)) | (refine (fun (hz : ∀ t, Tidy pq t → Tidy pq (zz t)) => ?_) ?_; (on_goal 1 => (try clear_value zz; rename' zz => zy, hz => hf)); (on_goal 2 => (subst zz; intro _ _; beta_reduce))) | (refine (fun (hz : ∀ t, Tidy pq (zz t)) => ?_) ?_; (on_goal 1 => (try clear_value zz; rename' zz => zy, hz => hf)); (on_goal 2 => (subst zz; intro _; beta_reduce))) | (try clear_value zz; rename' zz => zy)) | with_reducible (first | apply State.count_tidy | apply State.setGain_tidy | apply State.measure_tidy | apply State.plcHeard_tidy | apply tidy1_mk | apply tidy2_mk | apply tidyS_none | apply tidyS_some | apply tidyS1_none | apply tidyS2_none) | with_reducible (apply tidy_fst; first | apply tidy1_ite) | with_reducible (apply tidy_snd; first | apply State.plcHeard_tidy | apply tidy2_ite) | split | with_reducible (first | apply tidy_ite | apply tidy1_ite | apply tidy2_ite) | with_reducible (fail_if_no_progress apply tidy_mk) | with_reducible (apply hf) | with_reducible (first | refine of1 ?_ (by assumption) | refine of2 ?_ (by assumption) | refine ofS ?_ (by assumption) | refine ofS1 ?_ (by assumption) | refine ofS2 ?_ (by assumption) | refine ofS3 ?_ (by assumption) | refine of3 ?_ (by assumption)) | dsimp only)

theorem State.plcAcked_tidy {pq} {s : State} {k : ℕ} {h : PlcFch} (hs : Tidy pq s) : Tidy pq (State.plcAcked s k h) := by
  unfold State.plcAcked
  repeat' (first | with_reducible assumption | (extract_lets +onlyGivenNames zz; first | (refine (fun (hz : Tidy pq zz) => ?_) ?_; (on_goal 1 => (try clear_value zz; rename' zz => zy, hz => hy)); (on_goal 2 => subst zz)) | (refine (fun (hz : ∀ t, Tidy pq t → Tidy pq (zz t)) => ?_) ?_; (on_goal 1 => (try clear_value zz; rename' zz => zy, hz => hf)); (on_goal 2 => (subst zz; intro _ _; beta_reduce))) | (refine (fun (hz : ∀ t, Tidy pq (zz t)) => ?_) ?_; (on_goal 1 => (try clear_value zz; rename' zz => zy, hz => hf)); (on_goal 2 => (subst zz; intro _; beta_reduce))) | (try clear_value zz; rename' zz => zy)) | with_reducible (first | apply State.txDone_tidy | apply State.setPort_tidy | apply State.putNode_tidy | apply State.toSend_tidy | apply tidy1_mk | apply tidy2_mk | apply tidyS_none | apply tidyS_some | apply tidyS1_none | apply tidyS2_none) | with_reducible (apply tidy_fst; first | apply tidy1_ite) | with_reducible (apply tidy_snd; first | apply tidy2_ite) | split | with_reducible (first | apply tidy_ite | apply tidy1_ite | apply tidy2_ite) | with_reducible (fail_if_no_progress apply tidy_mk) | with_reducible (apply hf) | with_reducible (first | refine of1 ?_ (by assumption) | refine of2 ?_ (by assumption) | refine ofS ?_ (by assumption) | refine ofS1 ?_ (by assumption) | refine ofS2 ?_ (by assumption) | refine ofS3 ?_ (by assumption) | refine of3 ?_ (by assumption)) | dsimp only)

theorem State.plcBeaconHeard_tidy {pq} {s : State} {k : ℕ} {h : PlcFch} {body : Bytes} (hs : Tidy pq s) : Tidy pq (State.plcBeaconHeard s k h body) := by
  unfold State.plcBeaconHeard
  repeat' (first | with_reducible assumption | (extract_lets +onlyGivenNames zz; first | (refine (fun (hz : Tidy pq zz) => ?_) ?_; (on_goal 1 => (try clear_value zz; rename' zz => zy, hz => hy)); (on_goal 2 => subst zz)) | (try clear_value zz; rename' zz => zy)) | with_reducible (first | apply tidy_ite | apply State.hearBeacon_tidy) | with_reducible (fail_if_no_progress apply tidy_mk) | with_reducible (first | refine of1 ?_ (by assumption) | refine of2 ?_ (by assumption) | refine ofS ?_ (by assumption) | refine ofS1 ?_ (by assumption) | refine ofS2 ?_ (by assumption) | refine ofS3 ?_ (by assumption) | refine of3 ?_ (by assumption)) | dsimp only)

theorem State.plcTracked_tidy {pq} {s : State} {k : ℕ} {h : PlcFch} {mac : Bytes} (hs : Tidy pq s) : Tidy pq (State.plcTracked s k h mac) := by
  unfold State.plcTracked
  repeat' (first | with_reducible assumption | (extract_lets +onlyGivenNames zz; first | (refine (fun (hz : Tidy pq zz) => ?_) ?_; (on_goal 1 => (try clear_value zz; rename' zz => zy, hz => hy)); (on_goal 2 => subst zz)) | (refine (fun (hz : ∀ t, Tidy pq t → Tidy pq (zz t)) => ?_) ?_; (on_goal 1 => (try clear_value zz; rename' zz => zy, hz => hf)); (on_goal 2 => (subst zz; intro _ _; beta_reduce))) | (refine (fun (hz : ∀ t, Tidy pq (zz t)) => ?_) ?_; (on_goal 1 => (try clear_value zz; rename' zz => zy, hz => hf)); (on_goal 2 => (subst zz; intro _; beta_reduce))) | (try clear_value zz; rename' zz => zy)) | with_reducible (first | apply tidy_ite | apply State.forwardFrame_tidy | apply State.hear_tidy | apply State.plcBeaconHeard_tidy | apply State.nodeState_tidy) | with_reducible (fail_if_no_progress apply tidy_mk) | with_reducible (apply hf) | with_reducible (first | refine of1 ?_ (by assumption) | refine of2 ?_ (by assumption) | refine ofS ?_ (by assumption) | refine ofS1 ?_ (by assumption) | refine ofS2 ?_ (by assumption) | refine ofS3 ?_ (by assumption) | refine of3 ?_ (by assumption)) | dsimp only)

theorem State.plcTaken_tidy {pq} {s : State} {k : ℕ} {h : PlcFch} {mac : Bytes} (hs : Tidy pq s) : Tidy pq (State.plcTaken s k h mac) := by
  unfold State.plcTaken
  repeat' (first | with_reducible assumption | (extract_lets +onlyGivenNames zz; first | (refine (fun (hz : Tidy pq zz) => ?_) ?_; (on_goal 1 => (try clear_value zz; rename' zz => zy, hz => hy)); (on_goal 2 => subst zz)) | (refine (fun (hz : ∀ t, Tidy pq t → Tidy pq (zz t)) => ?_) ?_; (on_goal 1 => (try clear_value zz; rename' zz => zy, hz => hf)); (on_goal 2 => (subst zz; intro _ _; beta_reduce))) | (refine (fun (hz : ∀ t, Tidy pq (zz t)) => ?_) ?_; (on_goal 1 => (try clear_value zz; rename' zz => zy, hz => hf)); (on_goal 2 => (subst zz; intro _; beta_reduce))) | (try clear_value zz; rename' zz => zy)) | with_reducible (first | apply State.hear_tidy | apply State.oweAck_tidy | apply State.decideJoin_tidy | apply State.toSend_tidy | apply State.putNode_tidy | apply State.takeMeter_tidy | apply tidy1_mk | apply tidy2_mk | apply tidyS_none | apply tidyS_some | apply tidyS1_none | apply tidyS2_none) | with_reducible (apply tidy_fst; first | apply State.takeMeter_tidy | apply tidy1_ite) | with_reducible (apply tidy_snd; first | apply tidy2_ite) | split | with_reducible (first | apply tidy_ite | apply tidy1_ite | apply tidy2_ite) | with_reducible (fail_if_no_progress apply tidy_mk) | with_reducible (apply hf) | with_reducible (first | refine of1 ?_ (by assumption) | refine of2 ?_ (by assumption) | refine ofS ?_ (by assumption) | refine ofS1 ?_ (by assumption) | refine ofS2 ?_ (by assumption) | refine ofS3 ?_ (by assumption) | refine of3 ?_ (by assumption)) | dsimp only)

theorem State.plcFrame_tidy {pq} {s : State} {k : ℕ} {fch mac : Bytes} {rx : PlcRx} (hs : Tidy pq s) : Tidy pq (State.plcFrame s k fch mac rx) := by
  unfold State.plcFrame
  repeat' (first | with_reducible assumption | with_reducible (first | apply State.plcReceive_tidy | apply State.plcAcked_tidy | apply State.plcTracked_tidy | apply State.plcTaken_tidy | apply tidy1_mk | apply tidy2_mk | apply tidyS_none | apply tidyS_some | apply tidyS1_none | apply tidyS2_none) | with_reducible (apply tidy_fst; first | apply tidy1_ite) | with_reducible (apply tidy_snd; first | apply State.plcReceive_tidy | apply tidy2_ite) | split | with_reducible (first | apply tidy_ite | apply tidy1_ite | apply tidy2_ite) | with_reducible (fail_if_no_progress apply tidy_mk) | with_reducible (first | refine of1 ?_ (by assumption) | refine of2 ?_ (by assumption) | refine ofS ?_ (by assumption) | refine ofS1 ?_ (by assumption) | refine ofS2 ?_ (by assumption) | refine ofS3 ?_ (by assumption) | refine of3 ?_ (by assumption)) | dsimp only)

theorem execPlcFrameRx_tidy {pq} {port : Fin 4} {fch mac : Bytes} {rx : PlcRx} {s : State} (hs : Tidy pq s) : TidyO pq (execPlcFrameRx port fch mac rx s) := by
  unfold execPlcFrameRx
  repeat' (first | with_reducible assumption | with_reducible (first | apply tidy_ite | apply tidyO_ite | apply State.plcFrame_tidy | apply idle_tidy | apply tidyO_next))

theorem State.plcForwarded_tidy {pq} {s : State} {k link seq : ℕ} {mac : Bytes} (hs : Tidy pq s) : Tidy pq (State.plcForwarded s k link seq mac) := by
  unfold State.plcForwarded
  repeat' (first | with_reducible assumption | with_reducible (first | apply tidy_ite | apply State.plcTaken_tidy | apply tidy1_mk | apply tidy2_mk))

theorem execPlcAckSend_tidy {pq} {port : Fin 4} {s : State} (hs : Tidy pq s) : TidyO pq (execPlcAckSend port s) := by
  unfold execPlcAckSend
  repeat' (first | with_reducible assumption | (extract_lets +onlyGivenNames zz; first | (refine (fun (hz : Tidy pq zz) => ?_) ?_; (on_goal 1 => (try clear_value zz; rename' zz => zy, hz => hy)); (on_goal 2 => subst zz)) | (try clear_value zz; rename' zz => zy)) | with_reducible (first | apply idle_tidy | apply State.setPort_tidy | apply State.transmit_tidy | apply tidyO_next | apply tidy1_mk | apply tidy2_mk | apply tidyS_none | apply tidyS_some | apply tidyS1_none | apply tidyS2_none) | split | with_reducible (first | apply tidy_ite | apply tidyO_ite) | with_reducible (fail_if_no_progress apply tidy_mk) | with_reducible (first | refine of1 ?_ (by assumption) | refine of2 ?_ (by assumption) | refine ofS ?_ (by assumption) | refine ofS1 ?_ (by assumption) | refine ofS2 ?_ (by assumption) | refine ofS3 ?_ (by assumption) | refine of3 ?_ (by assumption)) | dsimp only)

theorem execPlcAckTimeout_tidy {pq} {port : Fin 4} {s : State} (hs : Tidy pq s) : TidyO pq (execPlcAckTimeout port s) := by
  unfold execPlcAckTimeout
  repeat' (first | with_reducible assumption | (extract_lets +onlyGivenNames zz; first | (refine (fun (hz : Tidy pq zz) => ?_) ?_; (on_goal 1 => (try clear_value zz; rename' zz => zy, hz => hy)); (on_goal 2 => subst zz)) | (try clear_value zz; rename' zz => zy)) | with_reducible (first | apply idle_tidy | apply State.setPort_tidy | apply State.txDone_tidy | apply tidyO_next | apply tidy1_mk | apply tidy2_mk | apply tidyS_none | apply tidyS_some | apply tidyS1_none | apply tidyS2_none) | with_reducible (apply tidy_fst; first | apply tidy1_ite) | with_reducible (apply tidy_snd; first | apply tidy2_ite) | split | with_reducible (first | apply tidy_ite | apply tidyO_ite | apply tidy1_ite | apply tidy2_ite) | with_reducible (fail_if_no_progress apply tidy_mk) | with_reducible (first | refine of1 ?_ (by assumption) | refine of2 ?_ (by assumption) | refine ofS ?_ (by assumption) | refine ofS1 ?_ (by assumption) | refine ofS2 ?_ (by assumption) | refine ofS3 ?_ (by assumption) | refine of3 ?_ (by assumption)) | dsimp only)

theorem State.drawBackoff_tidy {pq} {s : State} {k : ℕ} {t : PortTx} (hs : Tidy pq s) : Tidy pq (State.drawBackoff s k t) := by
  unfold State.drawBackoff
  repeat' (first | with_reducible assumption | with_reducible intro _ | (extract_lets +onlyGivenNames zz; first | (refine (fun (hz : Tidy pq zz) => ?_) ?_; (on_goal 1 => (try clear_value zz; rename' zz => zy, hz => hy)); (on_goal 2 => subst zz)) | (try clear_value zz; rename' zz => zy)) | with_reducible (first | apply State.drawWord_tidy | apply State.setPort_tidy | apply tidy1_mk | apply tidy2_mk | apply map_tidyS | apply map_tidyS_of2 | apply map_tidyS_any | apply tidyS_none | apply tidyS_some | apply tidyS1_none | apply tidyS2_none) | with_reducible (apply tidy_fst; first | apply tidy1_ite) | with_reducible (apply tidy_snd; first | apply State.drawWord_tidy | apply tidy2_ite) | split | with_reducible (first | apply tidy_ite | apply tidy1_ite | apply tidy2_ite) | with_reducible (fail_if_no_progress apply tidy_mk) | with_reducible (first | refine of1 ?_ (by assumption) | refine of2 ?_ (by assumption) | refine ofS ?_ (by assumption) | refine ofS1 ?_ (by assumption) | refine ofS2 ?_ (by assumption) | refine ofS3 ?_ (by assumption) | refine of3 ?_ (by assumption)) | dsimp only)

theorem execPlcContention_tidy {pq} {port : Fin 4} {heard : Option (Fin 4)} {s : State} (hs : Tidy pq s) : TidyO pq (execPlcContention port heard s) := by
  unfold execPlcContention
  repeat' (first | with_reducible assumption | (extract_lets +onlyGivenNames zz; first | (refine (fun (hz : Tidy pq zz) => ?_) ?_; (on_goal 1 => (try clear_value zz; rename' zz => zy, hz => hy)); (on_goal 2 => subst zz)) | (try clear_value zz; rename' zz => zy)) | with_reducible (first | apply idle_tidy | apply State.drawBackoff_tidy | apply State.drive_tidy | apply State.setPort_tidy | apply tidyO_next | apply tidy1_mk | apply tidy2_mk | apply tidyS_none | apply tidyS_some | apply tidyS1_none | apply tidyS2_none) | split | with_reducible (first | apply tidy_ite | apply tidyO_ite) | with_reducible (fail_if_no_progress apply tidy_mk) | with_reducible (first | refine of1 ?_ (by assumption) | refine of2 ?_ (by assumption) | refine ofS ?_ (by assumption) | refine ofS1 ?_ (by assumption) | refine ofS2 ?_ (by assumption) | refine ofS3 ?_ (by assumption) | refine of3 ?_ (by assumption)) | dsimp only)

theorem execPlcBackoffExpire_tidy {pq} {port : Fin 4} {s : State} (hs : Tidy pq s) : TidyO pq (execPlcBackoffExpire port s) := by
  unfold execPlcBackoffExpire
  repeat' (first | with_reducible assumption | with_reducible intro _ | (extract_lets +onlyGivenNames zz; first | (refine (fun (hz : Tidy pq zz) => ?_) ?_; (on_goal 1 => (try clear_value zz; rename' zz => zy, hz => hy)); (on_goal 2 => subst zz)) | (try clear_value zz; rename' zz => zy)) | with_reducible (first | apply idle_tidy | apply State.plcSend_tidy | apply State.setPort_tidy | apply tidyO_next | apply tidy1_mk | apply tidy2_mk | apply tidyS_none | apply tidyS_some | apply tidyS1_none | apply tidyS2_none | apply tidy_getD) | with_reducible (apply tidy_fst; first | apply tidy1_ite) | with_reducible (apply tidy_snd; first | apply tidy2_ite) | split | with_reducible (first | apply tidy_ite | apply tidyO_ite | apply tidy1_ite | apply tidy2_ite | apply tidyS_ite) | with_reducible (fail_if_no_progress apply tidy_mk) | with_reducible (first | refine of1 ?_ (by assumption) | refine of2 ?_ (by assumption) | refine ofS ?_ (by assumption) | refine ofS1 ?_ (by assumption) | refine ofS2 ?_ (by assumption) | refine ofS3 ?_ (by assumption) | refine of3 ?_ (by assumption)) | dsimp only)

theorem execPlcBeaconTx_tidy {pq} {port : Fin 4} {s : State} (hs : Tidy pq s) : TidyO pq (execPlcBeaconTx port s) := by
  unfold execPlcBeaconTx
  repeat' (first | with_reducible assumption | (extract_lets +onlyGivenNames zz; first | (refine (fun (hz : Tidy pq zz) => ?_) ?_; (on_goal 1 => (try clear_value zz; rename' zz => zy, hz => hy)); (on_goal 2 => subst zz)) | (try clear_value zz; rename' zz => zy)) | with_reducible (first | apply tidy_ite | apply tidyO_ite | apply idle_tidy | apply State.setPort_tidy | apply State.plcSend_tidy | apply tidyO_next | apply tidy1_mk | apply tidy2_mk | apply tidyS_none | apply tidyS_some | apply tidyS1_none | apply tidyS2_none) | with_reducible (fail_if_no_progress apply tidy_mk) | with_reducible (first | refine of1 ?_ (by assumption) | refine of2 ?_ (by assumption) | refine ofS ?_ (by assumption) | refine ofS1 ?_ (by assumption) | refine ofS2 ?_ (by assumption) | refine ofS3 ?_ (by assumption) | refine of3 ?_ (by assumption)) | dsimp only)

theorem execPlcAnnounceTx_tidy {pq} {port : Fin 4} {s : State} (hs : Tidy pq s) : TidyO pq (execPlcAnnounceTx port s) := by
  unfold execPlcAnnounceTx
  repeat' (first | with_reducible assumption | (extract_lets +onlyGivenNames zz; first | (refine (fun (hz : Tidy pq zz) => ?_) ?_; (on_goal 1 => (try clear_value zz; rename' zz => zy, hz => hy)); (on_goal 2 => subst zz)) | (try clear_value zz; rename' zz => zy)) | with_reducible (first | apply tidy_ite | apply tidyO_ite | apply idle_tidy | apply State.setPort_tidy | apply State.toSend_tidy | apply tidyO_next | apply tidy1_mk | apply tidy2_mk) | with_reducible (fail_if_no_progress apply tidy_mk) | with_reducible (first | refine of1 ?_ (by assumption) | refine of2 ?_ (by assumption) | refine ofS ?_ (by assumption) | refine ofS1 ?_ (by assumption) | refine ofS2 ?_ (by assumption) | refine ofS3 ?_ (by assumption) | refine of3 ?_ (by assumption)) | dsimp only)

theorem execPlcJoinReq_tidy {pq} {port : Fin 4} {fch : Bytes} {ident : BitVec 64} {bandL : Bool} {rx : PlcRx} {s : State} (hs : Tidy pq s) : TidyO pq (execPlcJoinReq port fch ident bandL rx s) := by
  unfold execPlcJoinReq
  repeat' (first | with_reducible assumption | with_reducible (first | apply tidy_ite | apply tidyO_ite | apply State.plcFrame_tidy | apply idle_tidy | apply tidyO_next))

theorem execPlcNodeAge_tidy {pq} {port : Fin 4} {addr : BitVec 16} {s : State} (hs : Tidy pq s) : TidyO pq (execPlcNodeAge port addr s) := by
  unfold execPlcNodeAge
  repeat' (first | with_reducible assumption | with_reducible (first | apply tidy_ite | apply tidyO_ite | apply State.ageNode_tidy | apply idle_tidy | apply tidyO_next))

theorem execPlcTmUpdate_tidy {pq} {port : Fin 4} {addr : BitVec 16} {force : BitVec 6} {s : State} (hs : Tidy pq s) : TidyO pq (execPlcTmUpdate port addr force s) := by
  unfold execPlcTmUpdate
  repeat' (first | with_reducible assumption | with_reducible intro _ | (extract_lets +onlyGivenNames zz; first | (refine (fun (hz : Tidy pq zz) => ?_) ?_; (on_goal 1 => (try clear_value zz; rename' zz => zy, hz => hy)); (on_goal 2 => subst zz)) | (refine (fun (hz : ∀ t, Tidy pq t → Tidy pq (zz t)) => ?_) ?_; (on_goal 1 => (try clear_value zz; rename' zz => zy, hz => hf)); (on_goal 2 => (subst zz; intro _ _; beta_reduce))) | (refine (fun (hz : ∀ t, Tidy pq (zz t)) => ?_) ?_; (on_goal 1 => (try clear_value zz; rename' zz => zy, hz => hf)); (on_goal 2 => (subst zz; intro _; beta_reduce))) | (try clear_value zz; rename' zz => zy)) | with_reducible (first | apply idle_tidy | apply State.putNode_tidy | apply State.toSend_tidy | apply State.irq_tidy | apply tidyO_next | apply tidy1_mk | apply tidy2_mk | apply tidyS_none | apply tidyS_some | apply tidyS1_none | apply tidyS2_none) | split | with_reducible (first | apply tidy_ite | apply tidyO_ite) | with_reducible (fail_if_no_progress apply tidy_mk) | with_reducible (apply hf) | with_reducible (first | refine of1 ?_ (by assumption) | refine of2 ?_ (by assumption) | refine ofS ?_ (by assumption) | refine ofS1 ?_ (by assumption) | refine ofS2 ?_ (by assumption) | refine ofS3 ?_ (by assumption) | refine of3 ?_ (by assumption)) | dsimp only)

theorem execPlcTmReq_tidy {pq} {port : Fin 4} {fch : Bytes} {rx : PlcRx} {s : State} (hs : Tidy pq s) : TidyO pq (execPlcTmReq port fch rx s) := by
  unfold execPlcTmReq
  repeat' (first | with_reducible assumption | with_reducible (first | apply tidy_ite | apply tidyO_ite | apply State.plcFrame_tidy | apply idle_tidy | apply tidyO_next))

theorem execPlcBeaconRx_tidy {pq} {port : Fin 4} {fch body : Bytes} {rx : PlcRx} {s : State} (hs : Tidy pq s) : TidyO pq (execPlcBeaconRx port fch body rx s) := by
  unfold execPlcBeaconRx
  repeat' (first | with_reducible assumption | with_reducible (first | apply tidy_ite | apply tidyO_ite | apply State.plcFrame_tidy | apply idle_tidy | apply tidyO_next))

theorem execPlcBeaconMiss_tidy {pq} {port : Fin 4} {s : State} (hs : Tidy pq s) : TidyO pq (execPlcBeaconMiss port s) := by
  unfold execPlcBeaconMiss
  repeat' (first | with_reducible assumption | (extract_lets +onlyGivenNames zz; first | (refine (fun (hz : Tidy pq zz) => ?_) ?_; (on_goal 1 => (try clear_value zz; rename' zz => zy, hz => hy)); (on_goal 2 => subst zz)) | (try clear_value zz; rename' zz => zy)) | with_reducible (first | apply tidy_ite | apply tidyO_ite | apply idle_tidy | apply State.missBeacon_tidy | apply tidyO_next) | with_reducible (fail_if_no_progress apply tidy_mk) | with_reducible (first | refine of1 ?_ (by assumption) | refine of2 ?_ (by assumption) | refine ofS ?_ (by assumption) | refine ofS1 ?_ (by assumption) | refine ofS2 ?_ (by assumption) | refine ofS3 ?_ (by assumption) | refine of3 ?_ (by assumption)) | dsimp only)

theorem execPlcLeave_tidy {pq} {port : Fin 4} {fch : Bytes} {reason : BitVec 8} {rx : PlcRx} {s : State} (hs : Tidy pq s) : TidyO pq (execPlcLeave port fch reason rx s) := by
  unfold execPlcLeave
  repeat' (first | with_reducible assumption | with_reducible (first | apply tidy_ite | apply tidyO_ite | apply State.plcFrame_tidy | apply idle_tidy | apply tidyO_next))

theorem execPlcAppAckSend_tidy {pq} {port : Fin 4} {parity : ℕ} {s : State} (hs : Tidy pq s) : TidyO pq (execPlcAppAckSend port parity s) := by
  unfold execPlcAppAckSend
  repeat' (first | with_reducible assumption | with_reducible (first | apply tidy_ite | apply tidyO_ite | apply State.portAck_tidy | apply idle_tidy | apply tidyO_next))

theorem execPlcDownlinkItem_tidy {pq} {port : Fin 4} {sub : Option Submission} {s : State} (hs : Tidy pq s) : TidyO pq (execPlcDownlinkItem port sub s) := by
  unfold execPlcDownlinkItem
  repeat' (first | with_reducible assumption | with_reducible intro _ | with_reducible (first | apply State.portDownlink_tidy | apply tidyO_next | apply idle_tidy))

theorem execPlcCalibrate_tidy {pq} {port : Fin 4} {temp : BitVec 8} {corr : BitVec 48} {s : State} (hs : Tidy pq s) : TidyO pq (execPlcCalibrate port temp corr s) := by
  unfold execPlcCalibrate
  repeat' (first | with_reducible assumption | (extract_lets +onlyGivenNames zz; first | (refine (fun (hz : Tidy pq zz) => ?_) ?_; (on_goal 1 => (try clear_value zz; rename' zz => zy, hz => hy)); (on_goal 2 => subst zz)) | (try clear_value zz; rename' zz => zy)) | with_reducible (first | apply tidy_ite | apply tidyO_ite | apply State.setPort_tidy | apply idle_tidy | apply tidyO_next | apply tidy1_mk | apply tidy2_mk | apply tidyS_none | apply tidyS_some | apply tidyS1_none | apply tidyS2_none) | with_reducible (fail_if_no_progress apply tidy_mk) | with_reducible (first | refine of1 ?_ (by assumption) | refine of2 ?_ (by assumption) | refine ofS ?_ (by assumption) | refine ofS1 ?_ (by assumption) | refine ofS2 ?_ (by assumption) | refine ofS3 ?_ (by assumption) | refine of3 ?_ (by assumption)) | dsimp only)

theorem State.calEnds_tidy {pq} {s : State} {k : ℕ} (hs : Tidy pq s) : Tidy pq (State.calEnds s k) := by
  unfold State.calEnds
  repeat' (first | with_reducible assumption | with_reducible (first | apply State.irq_tidy | apply State.setPort_tidy | apply tidyS_none | apply tidyS_some | apply tidyS1_none | apply tidyS2_none) | split | with_reducible (first | apply tidy_ite) | with_reducible (fail_if_no_progress apply tidy_mk) | with_reducible (first | refine of1 ?_ (by assumption) | refine of2 ?_ (by assumption) | refine ofS ?_ (by assumption) | refine ofS1 ?_ (by assumption) | refine ofS2 ?_ (by assumption) | refine ofS3 ?_ (by assumption) | refine of3 ?_ (by assumption)) | dsimp only)

theorem State.settleFloor_tidy {pq} {s : State} {k : ℕ} (hs : Tidy pq s) : Tidy pq (State.settleFloor s k) := by
  unfold State.settleFloor
  repeat' (first | with_reducible assumption | with_reducible intro _ | (extract_lets +onlyGivenNames zz; first | (refine (fun (hz : Tidy pq zz) => ?_) ?_; (on_goal 1 => (try clear_value zz; rename' zz => zy, hz => hy)); (on_goal 2 => subst zz)) | (try clear_value zz; rename' zz => zy)) | with_reducible (first | apply tidy_ite | apply tidy1_ite | apply tidy2_ite | apply State.setPort_tidy | apply tidy1_mk | apply tidy2_mk) | with_reducible (apply tidy_fst; first | apply tidy1_ite) | with_reducible (apply tidy_snd; first | apply tidy2_ite) | with_reducible (fail_if_no_progress apply tidy_mk) | with_reducible (first | refine of1 ?_ (by assumption) | refine of2 ?_ (by assumption) | refine ofS ?_ (by assumption) | refine ofS1 ?_ (by assumption) | refine ofS2 ?_ (by assumption) | refine ofS3 ?_ (by assumption) | refine of3 ?_ (by assumption)) | dsimp only)

theorem State.noiseTick_tidy {pq} {s : State} {k : ℕ} (hs : Tidy pq s) : Tidy pq (State.noiseTick s k) := by
  unfold State.noiseTick
  repeat' (first | with_reducible assumption | with_reducible intro _ | (extract_lets +onlyGivenNames zz; first | (refine (fun (hz : Tidy pq zz) => ?_) ?_; (on_goal 1 => (try clear_value zz; rename' zz => zy, hz => hy)); (on_goal 2 => subst zz)) | (try clear_value zz; rename' zz => zy)) | with_reducible (first | apply tidy_ite | apply State.settleFloor_tidy | apply State.setPort_tidy | apply tidy1_mk | apply tidy2_mk | apply map_tidyS | apply map_tidyS_of2 | apply map_tidyS_any | apply tidyS_none | apply tidyS_some | apply tidyS1_none | apply tidyS2_none) | with_reducible (fail_if_no_progress apply tidy_mk) | with_reducible (first | refine of1 ?_ (by assumption) | refine of2 ?_ (by assumption) | refine ofS ?_ (by assumption) | refine ofS1 ?_ (by assumption) | refine ofS2 ?_ (by assumption) | refine ofS3 ?_ (by assumption) | refine of3 ?_ (by assumption)) | dsimp only)

theorem State.plcTick_tidy {pq} {s : State} (hs : Tidy pq s) : Tidy pq (State.plcTick s) := by
  unfold State.plcTick
  repeat' (first | with_reducible assumption | with_reducible intro _ | with_reducible (first | apply foldl_tidy | apply foldl_tidy1 | apply State.noiseTick_tidy | apply State.calEnds_tidy) | with_reducible (apply tidy_fst; first | apply foldl_tidy1) | with_reducible (apply tidy_snd; first | apply foldl_tidy2))

theorem State.cutLine_tidy {pq} {s : State} {k stop : ℕ} (hs : Tidy pq s) : Tidy pq (State.cutLine s k stop) := by
  unfold State.cutLine
  repeat' (first | with_reducible assumption | with_reducible intro _ | (extract_lets +onlyGivenNames zz; first | (refine (fun (hz : Tidy pq zz) => ?_) ?_; (on_goal 1 => (try clear_value zz; rename' zz => zy, hz => hy)); (on_goal 2 => subst zz)) | (try clear_value zz; rename' zz => zy)) | with_reducible (first | apply State.setPort_tidy) | with_reducible (fail_if_no_progress apply tidy_mk) | with_reducible (first | refine of1 ?_ (by assumption) | refine of2 ?_ (by assumption) | refine ofS ?_ (by assumption) | refine ofS1 ?_ (by assumption) | refine ofS2 ?_ (by assumption) | refine ofS3 ?_ (by assumption) | refine of3 ?_ (by assumption)) | dsimp only)

theorem State.dropSync_tidy {pq} {s : State} {k : ℕ} (hs : Tidy pq s) : Tidy pq (State.dropSync s k) := by
  unfold State.dropSync
  repeat' (first | with_reducible assumption | with_reducible intro _ | with_reducible (first | apply State.setPort_tidy | apply tidyS_none | apply tidyS_some | apply tidyS1_none | apply tidyS2_none) | split | with_reducible (first | apply tidy_ite) | with_reducible (fail_if_no_progress apply tidy_mk) | with_reducible (first | refine of1 ?_ (by assumption) | refine of2 ?_ (by assumption) | refine ofS ?_ (by assumption) | refine ofS1 ?_ (by assumption) | refine ofS2 ?_ (by assumption) | refine ofS3 ?_ (by assumption) | refine of3 ?_ (by assumption)) | dsimp only)

theorem State.plcFence_tidy {pq} {s : State} {k : ℕ} (hs : Tidy pq s) : Tidy pq (State.plcFence s k) := by
  unfold State.plcFence
  repeat' (first | with_reducible assumption | (extract_lets +onlyGivenNames zz; first | (refine (fun (hz : Tidy pq zz) => ?_) ?_; (on_goal 1 => (try clear_value zz; rename' zz => zy, hz => hy)); (on_goal 2 => subst zz)) | (refine (fun (hz : ∀ t, Tidy pq t → Tidy pq (zz t)) => ?_) ?_; (on_goal 1 => (try clear_value zz; rename' zz => zy, hz => hf)); (on_goal 2 => (subst zz; intro _ _; beta_reduce))) | (refine (fun (hz : ∀ t, Tidy pq (zz t)) => ?_) ?_; (on_goal 1 => (try clear_value zz; rename' zz => zy, hz => hf)); (on_goal 2 => (subst zz; intro _; beta_reduce))) | (try clear_value zz; rename' zz => zy)) | with_reducible (first | apply tidy_ite | apply State.dropSync_tidy | apply State.fencePort_tidy | apply State.setF_tidy | apply State.cutLine_tidy) | with_reducible (apply hf) | with_reducible (first | refine of1 ?_ (by assumption) | refine of2 ?_ (by assumption) | refine ofS ?_ (by assumption) | refine ofS1 ?_ (by assumption) | refine ofS2 ?_ (by assumption) | refine ofS3 ?_ (by assumption) | refine of3 ?_ (by assumption)) | dsimp only)

theorem State.newSchedule_tidy {pq} {s : State} {k b : ℕ} (hs : Tidy pq s) : Tidy pq (State.newSchedule s k b) := by
  unfold State.newSchedule
  repeat' (first | with_reducible assumption | with_reducible (first | apply State.setPort_tidy | apply tidy1_mk | apply tidy2_mk) | with_reducible (fail_if_no_progress apply tidy_mk))

theorem State.plcUnfence_tidy {pq} {s : State} {k : ℕ} (hs : Tidy pq s) : Tidy pq (State.plcUnfence s k) := by
  unfold State.plcUnfence
  repeat' (first | with_reducible assumption | (extract_lets +onlyGivenNames zz; first | (refine (fun (hz : Tidy pq zz) => ?_) ?_; (on_goal 1 => (try clear_value zz; rename' zz => zy, hz => hy)); (on_goal 2 => subst zz)) | (try clear_value zz; rename' zz => zy)) | with_reducible (first | apply tidy_ite | apply State.setF_tidy | apply State.newSchedule_tidy) | with_reducible (first | refine of1 ?_ (by assumption) | refine of2 ?_ (by assumption) | refine ofS ?_ (by assumption) | refine ofS1 ?_ (by assumption) | refine ofS2 ?_ (by assumption) | refine ofS3 ?_ (by assumption) | refine of3 ?_ (by assumption)) | dsimp only)

theorem State.plcEnable_tidy {pq} {s : State} {k : ℕ} (hs : Tidy pq s) : Tidy pq (State.plcEnable s k) := by
  unfold State.plcEnable
  repeat' (first | with_reducible assumption | (extract_lets +onlyGivenNames zz; first | (refine (fun (hz : Tidy pq zz) => ?_) ?_; (on_goal 1 => (try clear_value zz; rename' zz => zy, hz => hy)); (on_goal 2 => subst zz)) | (try clear_value zz; rename' zz => zy)) | with_reducible (first | apply tidy_ite | apply State.newSchedule_tidy | apply State.nodeState_tidy) | with_reducible (fail_if_no_progress apply tidy_mk) | with_reducible (first | refine of1 ?_ (by assumption) | refine of2 ?_ (by assumption) | refine ofS ?_ (by assumption) | refine ofS1 ?_ (by assumption) | refine ofS2 ?_ (by assumption) | refine ofS3 ?_ (by assumption) | refine of3 ?_ (by assumption)) | dsimp only)

theorem execPlcFence_tidy {pq} {req : Req} {port : Fin 4} {s : State} (hs : Tidy pq s) : TidyO pq (execPlcFence req port s) := by
  unfold execPlcFence
  repeat' (first | with_reducible assumption | with_reducible intro _ | with_reducible (first | apply State.onT_tidy | apply State.plcFence_tidy | apply tidyO_next | apply idle_tidy))

theorem execPlcUnfence_tidy {pq} {req : Req} {port : Fin 4} {s : State} (hs : Tidy pq s) : TidyO pq (execPlcUnfence req port s) := by
  unfold execPlcUnfence
  repeat' (first | with_reducible assumption | with_reducible intro _ | with_reducible (first | apply State.onT_tidy | apply State.plcUnfence_tidy | apply tidyO_next | apply idle_tidy))


/-! ## Radio -/

theorem State.noteUse_tidy {pq} {s : State} {n k : ℕ} (hs : Tidy pq s) : Tidy pq (State.noteUse s n k) := by
  unfold State.noteUse
  repeat' (first | with_reducible assumption | (extract_lets +onlyGivenNames zz; first | (refine (fun (hz : Tidy pq zz) => ?_) ?_; (on_goal 1 => (try clear_value zz; rename' zz => zy, hz => hy)); (on_goal 2 => subst zz)) | (refine (fun (hz : ∀ t, Tidy pq t → Tidy pq (zz t)) => ?_) ?_; (on_goal 1 => (try clear_value zz; rename' zz => zy, hz => hf)); (on_goal 2 => (subst zz; intro _ _; beta_reduce))) | (refine (fun (hz : ∀ t, Tidy pq (zz t)) => ?_) ?_; (on_goal 1 => (try clear_value zz; rename' zz => zy, hz => hf)); (on_goal 2 => (subst zz; intro _; beta_reduce))) | (try clear_value zz; rename' zz => zy)) | with_reducible (first | apply tidy_ite | apply State.setF_tidy | apply State.irq_tidy) | with_reducible (apply hf) | with_reducible (first | refine of1 ?_ (by assumption) | refine of2 ?_ (by assumption) | refine ofS ?_ (by assumption) | refine ofS1 ?_ (by assumption) | refine ofS2 ?_ (by assumption) | refine ofS3 ?_ (by assumption) | refine of3 ?_ (by assumption)) | dsimp only)

theorem State.setBuckets_tidy {pq} {s : State} {n : ℕ} {f : ℕ → List ℕ} (hs : Tidy pq s) : Tidy pq (State.setBuckets s n f) := by
  unfold State.setBuckets
  repeat' (first | with_reducible assumption | with_reducible intro _ | (extract_lets +onlyGivenNames zz; first | (refine (fun (hz : Tidy pq zz) => ?_) ?_; (on_goal 1 => (try clear_value zz; rename' zz => zy, hz => hy)); (on_goal 2 => subst zz)) | (try clear_value zz; rename' zz => zy)) | with_reducible (first | apply foldl_tidy | apply foldl_tidy1 | apply State.noteUse_tidy | apply State.setPort_tidy | apply map_tidyS | apply map_tidyS_of2 | apply map_tidyS_any) | with_reducible (apply tidy_fst; first | apply foldl_tidy1) | with_reducible (apply tidy_snd; first | apply foldl_tidy2) | with_reducible (fail_if_no_progress apply tidy_mk) | with_reducible (first | refine of1 ?_ (by assumption) | refine of2 ?_ (by assumption) | refine ofS ?_ (by assumption) | refine ofS1 ?_ (by assumption) | refine ofS2 ?_ (by assumption) | refine ofS3 ?_ (by assumption) | refine of3 ?_ (by assumption)) | dsimp only)

theorem State.rollBuckets_tidy {pq} {s : State} {n r : ℕ} (hs : Tidy pq s) : Tidy pq (State.rollBuckets s n r) := by
  unfold State.rollBuckets
  repeat' (first | with_reducible assumption | with_reducible intro _ | (extract_lets +onlyGivenNames zz; first | (refine (fun (hz : Tidy pq zz) => ?_) ?_; (on_goal 1 => (try clear_value zz; rename' zz => zy, hz => hy)); (on_goal 2 => subst zz)) | (try clear_value zz; rename' zz => zy)) | with_reducible (first | apply State.setPort_tidy | apply State.setBuckets_tidy) | with_reducible (fail_if_no_progress apply tidy_mk) | with_reducible (first | refine of1 ?_ (by assumption) | refine of2 ?_ (by assumption) | refine ofS ?_ (by assumption) | refine ofS1 ?_ (by assumption) | refine ofS2 ?_ (by assumption) | refine ofS3 ?_ (by assumption) | refine of3 ?_ (by assumption)) | dsimp only)

theorem State.rollFirst_tidy {pq} {s : State} {n : ℕ} (hs : Tidy pq s) : Tidy pq (State.rollFirst s n) := by
  unfold State.rollFirst
  repeat' (first | with_reducible assumption | with_reducible (first | apply tidy_ite | apply State.rollBuckets_tidy))

theorem State.charge_tidy {pq} {s : State} {n chan ms : ℕ} (hs : Tidy pq s) : Tidy pq (State.charge s n chan ms) := by
  unfold State.charge
  repeat' (first | with_reducible assumption | with_reducible intro _ | (extract_lets +onlyGivenNames zz; first | (refine (fun (hz : Tidy pq zz) => ?_) ?_; (on_goal 1 => (try clear_value zz; rename' zz => zy, hz => hy)); (on_goal 2 => subst zz)) | (try clear_value zz; rename' zz => zy)) | with_reducible (first | apply State.setBuckets_tidy) | split | with_reducible (first | apply tidy_ite) | with_reducible (fail_if_no_progress apply tidy_mk) | with_reducible (first | refine of1 ?_ (by assumption) | refine of2 ?_ (by assumption) | refine ofS ?_ (by assumption) | refine ofS1 ?_ (by assumption) | refine ofS2 ?_ (by assumption) | refine ofS3 ?_ (by assumption) | refine of3 ?_ (by assumption)) | dsimp only)

theorem State.startBuckets_tidy {pq} {s : State} {n : ℕ} (hs : Tidy pq s) : Tidy pq (State.startBuckets s n) := by
  unfold State.startBuckets
  repeat' (first | with_reducible assumption | with_reducible intro _ | (extract_lets +onlyGivenNames zz; first | (refine (fun (hz : Tidy pq zz) => ?_) ?_; (on_goal 1 => (try clear_value zz; rename' zz => zy, hz => hy)); (on_goal 2 => subst zz)) | (try clear_value zz; rename' zz => zy)) | with_reducible (first | apply tidy_ite | apply State.setPort_tidy | apply State.setBuckets_tidy) | with_reducible (fail_if_no_progress apply tidy_mk) | with_reducible (first | refine of1 ?_ (by assumption) | refine of2 ?_ (by assumption) | refine ofS ?_ (by assumption) | refine ofS1 ?_ (by assumption) | refine ofS2 ?_ (by assumption) | refine ofS3 ?_ (by assumption) | refine of3 ?_ (by assumption)) | dsimp only)

theorem State.radOut_tidy {pq} {s : State} {n start : ℕ} {psdu : Bytes} (hs : Tidy pq s) : Tidy pq (State.radOut s n start psdu) := by
  unfold State.radOut
  repeat' (first | with_reducible assumption | with_reducible intro _ | (extract_lets +onlyGivenNames zz; first | (refine (fun (hz : Tidy pq zz) => ?_) ?_; (on_goal 1 => (try clear_value zz; rename' zz => zy, hz => hy)); (on_goal 2 => subst zz)) | (refine (fun (hz : ∀ t, Tidy pq t → Tidy pq (zz t)) => ?_) ?_; (on_goal 1 => (try clear_value zz; rename' zz => zy, hz => hf)); (on_goal 2 => (subst zz; intro _ _; beta_reduce))) | (refine (fun (hz : ∀ t, Tidy pq (zz t)) => ?_) ?_; (on_goal 1 => (try clear_value zz; rename' zz => zy, hz => hf)); (on_goal 2 => (subst zz; intro _; beta_reduce))) | (try clear_value zz; rename' zz => zy)) | with_reducible (first | apply tidy_ite | apply State.emit_tidy | apply State.setPort_tidy | apply tidy1_mk | apply tidy2_mk | apply map_tidyS | apply map_tidyS_of2 | apply map_tidyS_any | apply tidyS_none | apply tidyS_some | apply tidyS1_none | apply tidyS2_none) | with_reducible (fail_if_no_progress apply tidy_mk) | with_reducible (apply hf) | with_reducible (first | refine of1 ?_ (by assumption) | refine of2 ?_ (by assumption) | refine ofS ?_ (by assumption) | refine ofS1 ?_ (by assumption) | refine ofS2 ?_ (by assumption) | refine ofS3 ?_ (by assumption) | refine of3 ?_ (by assumption)) | dsimp only)

theorem State.openWindow_tidy {pq} {s : State} {n from_ to_ : ℕ} (hs : Tidy pq s) : Tidy pq (State.openWindow s n from_ to_) := by
  unfold State.openWindow
  repeat' (first | with_reducible assumption | (extract_lets +onlyGivenNames zz; first | (refine (fun (hz : Tidy pq zz) => ?_) ?_; (on_goal 1 => (try clear_value zz; rename' zz => zy, hz => hy)); (on_goal 2 => subst zz)) | (try clear_value zz; rename' zz => zy)) | with_reducible (first | apply State.emit_tidy | apply State.setPort_tidy | apply tidy1_mk | apply tidy2_mk) | with_reducible (fail_if_no_progress apply tidy_mk) | with_reducible (first | refine of1 ?_ (by assumption) | refine of2 ?_ (by assumption) | refine ofS ?_ (by assumption) | refine ofS1 ?_ (by assumption) | refine ofS2 ?_ (by assumption) | refine ofS3 ?_ (by assumption) | refine of3 ?_ (by assumption)) | dsimp only)

theorem State.radSend_tidy {pq} {s : State} {n chan start : ℕ} {t : PortTx} {psdu : Bytes} (hs : Tidy pq s) : Tidy pq (State.radSend s n chan start t psdu) := by
  unfold State.radSend
  repeat' (first | with_reducible assumption | with_reducible intro _ | (extract_lets +onlyGivenNames zz; first | (refine (fun (hz : Tidy pq zz) => ?_) ?_; (on_goal 1 => (try clear_value zz; rename' zz => zy, hz => hy)); (on_goal 2 => subst zz)) | (refine (fun (hz : ∀ t, Tidy pq t → Tidy pq (zz t)) => ?_) ?_; (on_goal 1 => (try clear_value zz; rename' zz => zy, hz => hf)); (on_goal 2 => (subst zz; intro _ _; beta_reduce))) | (refine (fun (hz : ∀ t, Tidy pq (zz t)) => ?_) ?_; (on_goal 1 => (try clear_value zz; rename' zz => zy, hz => hf)); (on_goal 2 => (subst zz; intro _; beta_reduce))) | (try clear_value zz; rename' zz => zy)) | with_reducible (first | apply tidy_ite | apply tidy1_ite | apply tidy2_ite | apply State.charge_tidy | apply State.count_tidy | apply State.radOut_tidy | apply State.openWindow_tidy | apply State.setPort_tidy | apply State.txDone_tidy | apply tidy1_mk | apply tidy2_mk | apply tidyS_none | apply tidyS_some | apply tidyS1_none | apply tidyS2_none) | with_reducible (apply tidy_fst; first | apply tidy1_ite) | with_reducible (apply tidy_snd; first | apply tidy2_ite) | with_reducible (fail_if_no_progress apply tidy_mk) | with_reducible (apply hf) | with_reducible (first | refine of1 ?_ (by assumption) | refine of2 ?_ (by assumption) | refine ofS ?_ (by assumption) | refine ofS1 ?_ (by assumption) | refine ofS2 ?_ (by assumption) | refine ofS3 ?_ (by assumption) | refine of3 ?_ (by assumption)) | dsimp only)

theorem State.radDefer_tidy {pq} {s : State} {n : ℕ} {t : PortTx} (hs : Tidy pq s) : Tidy pq (State.radDefer s n t) := by
  unfold State.radDefer
  repeat' (first | with_reducible assumption | with_reducible intro _ | (extract_lets +onlyGivenNames zz; first | (refine (fun (hz : Tidy pq zz) => ?_) ?_; (on_goal 1 => (try clear_value zz; rename' zz => zy, hz => hy)); (on_goal 2 => subst zz)) | (try clear_value zz; rename' zz => zy)) | with_reducible (first | apply tidy_ite | apply tidyS_ite | apply State.count_tidy | apply State.setPort_tidy | apply map_tidyS | apply map_tidyS_of2 | apply map_tidyS_any | apply tidy_getD) | with_reducible (fail_if_no_progress apply tidy_mk) | with_reducible (first | refine of1 ?_ (by assumption) | refine of2 ?_ (by assumption) | refine ofS ?_ (by assumption) | refine ofS1 ?_ (by assumption) | refine ofS2 ?_ (by assumption) | refine ofS3 ?_ (by assumption) | refine of3 ?_ (by assumption)) | dsimp only)

theorem State.sendEb_tidy {pq} {s : State} {n chan start asn len : ℕ} (hs : Tidy pq s) : Tidy pq (State.sendEb s n chan start asn len) := by
  unfold State.sendEb
  repeat' (first | with_reducible assumption | (extract_lets +onlyGivenNames zz; first | (refine (fun (hz : Tidy pq zz) => ?_) ?_; (on_goal 1 => (try clear_value zz; rename' zz => zy, hz => hy)); (on_goal 2 => subst zz)) | (refine (fun (hz : ∀ t, Tidy pq t → Tidy pq (zz t)) => ?_) ?_; (on_goal 1 => (try clear_value zz; rename' zz => zy, hz => hf)); (on_goal 2 => (subst zz; intro _ _; beta_reduce))) | (refine (fun (hz : ∀ t, Tidy pq (zz t)) => ?_) ?_; (on_goal 1 => (try clear_value zz; rename' zz => zy, hz => hf)); (on_goal 2 => (subst zz; intro _; beta_reduce))) | (try clear_value zz; rename' zz => zy)) | with_reducible (first | apply State.drawBytes_tidy | apply State.count_tidy | apply State.charge_tidy | apply State.radOut_tidy | apply State.setPort_tidy | apply tidy1_mk | apply tidy2_mk | apply tidyS_none | apply tidyS_some | apply tidyS1_none | apply tidyS2_none) | with_reducible (apply tidy_fst; first | apply tidy1_ite) | with_reducible (apply tidy_snd; first | apply State.drawBytes_tidy | apply tidy2_ite) | split | with_reducible (first | apply tidy_ite | apply tidy1_ite | apply tidy2_ite) | with_reducible (fail_if_no_progress apply tidy_mk) | with_reducible (apply hf) | with_reducible (first | refine of1 ?_ (by assumption) | refine of2 ?_ (by assumption) | refine ofS ?_ (by assumption) | refine ofS1 ?_ (by assumption) | refine ofS2 ?_ (by assumption) | refine ofS3 ?_ (by assumption) | refine of3 ?_ (by assumption)) | dsimp only)

theorem State.sharedPasses_tidy {pq} {s : State} {n : ℕ} (hs : Tidy pq s) : Tidy pq (State.sharedPasses s n) := by
  unfold State.sharedPasses
  repeat' (first | with_reducible assumption | with_reducible intro _ | (extract_lets +onlyGivenNames zz; first | (refine (fun (hz : Tidy pq zz) => ?_) ?_; (on_goal 1 => (try clear_value zz; rename' zz => zy, hz => hy)); (on_goal 2 => subst zz)) | (try clear_value zz; rename' zz => zy)) | with_reducible (first | apply State.setPort_tidy | apply map_tidyS | apply map_tidyS_of2 | apply map_tidyS_any) | with_reducible (fail_if_no_progress apply tidy_mk) | with_reducible (first | refine of1 ?_ (by assumption) | refine of2 ?_ (by assumption) | refine ofS ?_ (by assumption) | refine ofS1 ?_ (by assumption) | refine ofS2 ?_ (by assumption) | refine ofS3 ?_ (by assumption) | refine of3 ?_ (by assumption)) | dsimp only)

theorem State.runTx_tidy {pq} {s : State} {n chan asn : ℕ} {l : Link} {ls : List Link} {ccaBusy : Bool} (hs : Tidy pq s) : Tidy pq (State.runTx s n chan asn l ls ccaBusy) := by
  unfold State.runTx
  repeat' (first | with_reducible assumption | with_reducible intro _ | (extract_lets +onlyGivenNames zz; first | (refine (fun (hz : Tidy pq zz) => ?_) ?_; (on_goal 1 => (try clear_value zz; rename' zz => zy, hz => hy)); (on_goal 2 => subst zz)) | (refine (fun (hz : ∀ t, Tidy pq t → Tidy pq (zz t)) => ?_) ?_; (on_goal 1 => (try clear_value zz; rename' zz => zy, hz => hf)); (on_goal 2 => (subst zz; intro _ _; beta_reduce))) | (refine (fun (hz : ∀ t, Tidy pq (zz t)) => ?_) ?_; (on_goal 1 => (try clear_value zz; rename' zz => zy, hz => hf)); (on_goal 2 => (subst zz; intro _; beta_reduce))) | (try clear_value zz; rename' zz => zy)) | with_reducible (first | apply State.sharedPasses_tidy | apply State.radDefer_tidy | apply State.radSend_tidy | apply tidyS_none | apply tidyS_some | apply tidyS1_none | apply tidyS2_none | apply tidy_getD) | split | with_reducible (first | apply tidy_ite | apply tidyS_ite) | with_reducible (fail_if_no_progress apply tidy_mk) | with_reducible (apply hf) | with_reducible (first | refine of1 ?_ (by assumption) | refine of2 ?_ (by assumption) | refine ofS ?_ (by assumption) | refine ofS1 ?_ (by assumption) | refine ofS2 ?_ (by assumption) | refine ofS3 ?_ (by assumption) | refine of3 ?_ (by assumption)) | dsimp only)

theorem State.tune_tidy {pq} {s : State} {n chan : ℕ} (hs : Tidy pq s) : Tidy pq (State.tune s n chan) := by
  unfold State.tune
  repeat' (first | with_reducible assumption | (extract_lets +onlyGivenNames zz; first | (refine (fun (hz : Tidy pq zz) => ?_) ?_; (on_goal 1 => (try clear_value zz; rename' zz => zy, hz => hy)); (on_goal 2 => subst zz)) | (refine (fun (hz : ∀ t, Tidy pq t → Tidy pq (zz t)) => ?_) ?_; (on_goal 1 => (try clear_value zz; rename' zz => zy, hz => hf)); (on_goal 2 => (subst zz; intro _ _; beta_reduce))) | (refine (fun (hz : ∀ t, Tidy pq (zz t)) => ?_) ?_; (on_goal 1 => (try clear_value zz; rename' zz => zy, hz => hf)); (on_goal 2 => (subst zz; intro _; beta_reduce))) | (try clear_value zz; rename' zz => zy)) | with_reducible (first | apply tidy_ite | apply State.emit_tidy | apply State.setPort_tidy) | with_reducible (fail_if_no_progress apply tidy_mk) | with_reducible (apply hf) | with_reducible (first | refine of1 ?_ (by assumption) | refine of2 ?_ (by assumption) | refine ofS ?_ (by assumption) | refine ofS1 ?_ (by assumption) | refine ofS2 ?_ (by assumption) | refine ofS3 ?_ (by assumption) | refine of3 ?_ (by assumption)) | dsimp only)

theorem State.runCell_tidy {pq} {s : State} {n chan a : ℕ} {l : Link} {ls : List Link} {ccaBusy : Bool} (hs : Tidy pq s) : Tidy pq (State.runCell s n chan a l ls ccaBusy) := by
  unfold State.runCell
  repeat' (first | with_reducible assumption | (extract_lets +onlyGivenNames zz; first | (refine (fun (hz : Tidy pq zz) => ?_) ?_; (on_goal 1 => (try clear_value zz; rename' zz => zy, hz => hy)); (on_goal 2 => subst zz)) | (try clear_value zz; rename' zz => zy)) | with_reducible (first | apply State.setPort_tidy | apply State.openWindow_tidy | apply State.count_tidy | apply State.sendEb_tidy | apply State.runTx_tidy | apply tidy1_mk | apply tidy2_mk) | split | with_reducible (first | apply tidy_ite) | with_reducible (fail_if_no_progress apply tidy_mk) | with_reducible (first | refine of1 ?_ (by assumption) | refine of2 ?_ (by assumption) | refine ofS ?_ (by assumption) | refine ofS1 ?_ (by assumption) | refine ofS2 ?_ (by assumption) | refine ofS3 ?_ (by assumption) | refine of3 ?_ (by assumption)) | dsimp only)

theorem execRadTimeslotStart_tidy {pq} {port : Fin 4} {ccaBusy : Bool} {s : State} (hs : Tidy pq s) : TidyO pq (execRadTimeslotStart port ccaBusy s) := by
  unfold execRadTimeslotStart
  repeat' (first | with_reducible assumption | with_reducible intro _ | (extract_lets +onlyGivenNames zz; first | (refine (fun (hz : Tidy pq zz) => ?_) ?_; (on_goal 1 => (try clear_value zz; rename' zz => zy, hz => hy)); (on_goal 2 => subst zz)) | (refine (fun (hz : ∀ t, Tidy pq t → Tidy pq (zz t)) => ?_) ?_; (on_goal 1 => (try clear_value zz; rename' zz => zy, hz => hf)); (on_goal 2 => (subst zz; intro _ _; beta_reduce))) | (refine (fun (hz : ∀ t, Tidy pq (zz t)) => ?_) ?_; (on_goal 1 => (try clear_value zz; rename' zz => zy, hz => hf)); (on_goal 2 => (subst zz; intro _; beta_reduce))) | (try clear_value zz; rename' zz => zy)) | with_reducible (first | apply idle_tidy | apply State.tune_tidy | apply State.setPort_tidy | apply State.rollFirst_tidy | apply State.count_tidy | apply State.runCell_tidy | apply tidyO_next | apply tidy1_mk | apply tidy2_mk | apply tidyS_none | apply tidyS_some | apply tidyS1_none | apply tidyS2_none | apply tidy_getD) | split | with_reducible (first | apply tidy_ite | apply tidyO_ite | apply tidyS_ite) | with_reducible (fail_if_no_progress apply tidy_mk) | with_reducible (apply hf) | with_reducible (first | refine of1 ?_ (by assumption) | refine of2 ?_ (by assumption) | refine ofS ?_ (by assumption) | refine ofS1 ?_ (by assumption) | refine ofS2 ?_ (by assumption) | refine ofS3 ?_ (by assumption) | refine of3 ?_ (by assumption)) | dsimp only)

theorem State.micFail_tidy {pq} {s : State} {n : ℕ} (hs : Tidy pq s) : Tidy pq (State.micFail s n) := by
  unfold State.micFail
  repeat' (first | with_reducible assumption | with_reducible (first | apply State.irq_tidy | apply State.count_tidy))

theorem State.correct_tidy {pq} {s : State} {n corr : ℕ} (hs : Tidy pq s) : Tidy pq (State.correct s n corr) := by
  unfold State.correct
  repeat' (first | with_reducible assumption | (extract_lets +onlyGivenNames zz; first | (refine (fun (hz : Tidy pq zz) => ?_) ?_; (on_goal 1 => (try clear_value zz; rename' zz => zy, hz => hy)); (on_goal 2 => subst zz)) | (try clear_value zz; rename' zz => zy)) | with_reducible (first | apply State.setPort_tidy | apply State.setF_tidy) | with_reducible (fail_if_no_progress apply tidy_mk) | with_reducible (first | refine of1 ?_ (by assumption) | refine of2 ?_ (by assumption) | refine ofS ?_ (by assumption) | refine ofS1 ?_ (by assumption) | refine ofS2 ?_ (by assumption) | refine ofS3 ?_ (by assumption) | refine of3 ?_ (by assumption)) | dsimp only)

theorem State.takeCorrection_tidy {pq} {s : State} {n src : ℕ} {c : Option ℕ} (hs : Tidy pq s) : Tidy pq (State.takeCorrection s n src c) := by
  unfold State.takeCorrection
  repeat' (first | with_reducible assumption | with_reducible (first | apply State.correct_tidy | apply tidyS_none | apply tidyS_some | apply tidyS1_none | apply tidyS2_none) | split | with_reducible (first | apply tidy_ite) | with_reducible (fail_if_no_progress apply tidy_mk) | with_reducible (first | refine of1 ?_ (by assumption) | refine of2 ?_ (by assumption) | refine ofS ?_ (by assumption) | refine ofS1 ?_ (by assumption) | refine ofS2 ?_ (by assumption) | refine ofS3 ?_ (by assumption) | refine of3 ?_ (by assumption)) | dsimp only)

theorem State.radAcked_tidy {pq} {s : State} {n : ℕ} {h : RadHead} {b : Bytes} (hs : Tidy pq s) : Tidy pq (State.radAcked s n h b) := by
  unfold State.radAcked
  repeat' (first | with_reducible assumption | (extract_lets +onlyGivenNames zz; first | (refine (fun (hz : Tidy pq zz) => ?_) ?_; (on_goal 1 => (try clear_value zz; rename' zz => zy, hz => hy)); (on_goal 2 => subst zz)) | (refine (fun (hz : ∀ t, Tidy pq t → Tidy pq (zz t)) => ?_) ?_; (on_goal 1 => (try clear_value zz; rename' zz => zy, hz => hf)); (on_goal 2 => (subst zz; intro _ _; beta_reduce))) | (refine (fun (hz : ∀ t, Tidy pq (zz t)) => ?_) ?_; (on_goal 1 => (try clear_value zz; rename' zz => zy, hz => hf)); (on_goal 2 => (subst zz; intro _; beta_reduce))) | (try clear_value zz; rename' zz => zy)) | with_reducible (first | apply State.micFail_tidy | apply State.txDone_tidy | apply State.hear_tidy | apply State.setPort_tidy | apply State.takeCorrection_tidy | apply tidy1_mk | apply tidy2_mk | apply tidyS_none | apply tidyS_some | apply tidyS1_none | apply tidyS2_none) | with_reducible (apply tidy_fst; first | apply tidy1_ite) | with_reducible (apply tidy_snd; first | apply tidy2_ite) | split | with_reducible (first | apply tidy_ite | apply tidy1_ite | apply tidy2_ite) | with_reducible (fail_if_no_progress apply tidy_mk) | with_reducible (apply hf) | with_reducible (first | refine of1 ?_ (by assumption) | refine of2 ?_ (by assumption) | refine ofS ?_ (by assumption) | refine ofS1 ?_ (by assumption) | refine ofS2 ?_ (by assumption) | refine ofS3 ?_ (by assumption) | refine of3 ?_ (by assumption)) | dsimp only)

theorem State.ackHeard_tidy {pq} {s : State} {n : ℕ} {h : RadHead} {b : Bytes} (hs : Tidy pq s) : Tidy pq (State.ackHeard s n h b) := by
  unfold State.ackHeard
  repeat' (first | with_reducible assumption | with_reducible intro _ | (extract_lets +onlyGivenNames zz; first | (refine (fun (hz : Tidy pq zz) => ?_) ?_; (on_goal 1 => (try clear_value zz; rename' zz => zy, hz => hy)); (on_goal 2 => subst zz)) | (try clear_value zz; rename' zz => zy)) | with_reducible (first | apply State.takeCorrection_tidy | apply tidy1_mk | apply tidy2_mk | apply tidyS_none | apply tidyS_some | apply tidyS1_none | apply tidyS2_none) | split | with_reducible (fail_if_no_progress apply tidy_mk) | with_reducible (first | refine of1 ?_ (by assumption) | refine of2 ?_ (by assumption) | refine ofS ?_ (by assumption) | refine ofS1 ?_ (by assumption) | refine ofS2 ?_ (by assumption) | refine ofS3 ?_ (by assumption) | refine of3 ?_ (by assumption)) | dsimp only)

theorem State.oweEnhAck_tidy {pq} {s : State} {n src dsn corr : ℕ} (hs : Tidy pq s) : Tidy pq (State.oweEnhAck s n src dsn corr) := by
  unfold State.oweEnhAck
  repeat' (first | with_reducible assumption | with_reducible (first | apply State.setPort_tidy | apply tidy1_mk | apply tidy2_mk) | with_reducible (fail_if_no_progress apply tidy_mk))

theorem State.radTaken_tidy {pq} {s : State} {n src dsn : ℕ} {p : Bytes} (hs : Tidy pq s) : Tidy1 pq (State.radTaken s n src dsn p) := by
  unfold State.radTaken
  repeat' (first | with_reducible assumption | (extract_lets +onlyGivenNames zz; first | (refine (fun (hz : Tidy pq zz) => ?_) ?_; (on_goal 1 => (try clear_value zz; rename' zz => zy, hz => hy)); (on_goal 2 => subst zz)) | (try clear_value zz; rename' zz => zy)) | with_reducible (first | apply tidy_ite | apply tidy1_ite | apply tidy2_ite | apply State.hear_tidy | apply State.nodeState_tidy | apply State.takeMeter_tidy | apply tidy1_mk | apply tidy2_mk) | with_reducible (apply tidy_fst; first | apply State.takeMeter_tidy | apply tidy1_ite) | with_reducible (apply tidy_snd; first | apply tidy2_ite) | with_reducible (fail_if_no_progress apply tidy_mk) | with_reducible (first | refine of1 ?_ (by assumption) | refine of2 ?_ (by assumption) | refine ofS ?_ (by assumption) | refine ofS1 ?_ (by assumption) | refine ofS2 ?_ (by assumption) | refine ofS3 ?_ (by assumption) | refine of3 ?_ (by assumption)) | dsimp only)

theorem State.radData_tidy {pq} {s : State} {n : ℕ} {h : RadHead} {corr : ℕ} {mine : Bool} {p : Bytes} (hs : Tidy pq s) : Tidy pq (State.radData s n h corr mine p) := by
  unfold State.radData
  repeat' (first | with_reducible assumption | (extract_lets +onlyGivenNames zz; first | (refine (fun (hz : Tidy pq zz) => ?_) ?_; (on_goal 1 => (try clear_value zz; rename' zz => zy, hz => hy)); (on_goal 2 => subst zz)) | (refine (fun (hz : ∀ t, Tidy pq t → Tidy pq (zz t)) => ?_) ?_; (on_goal 1 => (try clear_value zz; rename' zz => zy, hz => hf)); (on_goal 2 => (subst zz; intro _ _; beta_reduce))) | (refine (fun (hz : ∀ t, Tidy pq (zz t)) => ?_) ?_; (on_goal 1 => (try clear_value zz; rename' zz => zy, hz => hf)); (on_goal 2 => (subst zz; intro _; beta_reduce))) | (try clear_value zz; rename' zz => zy)) | with_reducible (first | apply tidy_ite | apply tidy1_ite | apply tidy2_ite | apply State.forwardFrame_tidy | apply State.hear_tidy | apply State.nodeState_tidy | apply State.oweEnhAck_tidy | apply State.radTaken_tidy | apply tidy1_mk | apply tidy2_mk) | with_reducible (apply tidy_fst; first | apply State.radTaken_tidy | apply tidy1_ite) | with_reducible (apply tidy_snd; first | apply tidy2_ite) | with_reducible (fail_if_no_progress apply tidy_mk) | with_reducible (apply hf) | with_reducible (first | refine of1 ?_ (by assumption) | refine of2 ?_ (by assumption) | refine ofS ?_ (by assumption) | refine ofS1 ?_ (by assumption) | refine ofS2 ?_ (by assumption) | refine ofS3 ?_ (by assumption) | refine of3 ?_ (by assumption)) | dsimp only)

theorem State.radForwarded_tidy {pq} {s : State} {n link seq : ℕ} {b : Bytes} (hs : Tidy pq s) : Tidy pq (State.radForwarded s n link seq b) := by
  unfold State.radForwarded
  repeat' (first | with_reducible assumption | (extract_lets +onlyGivenNames zz; first | (refine (fun (hz : Tidy pq zz) => ?_) ?_; (on_goal 1 => (try clear_value zz; rename' zz => zy, hz => hy)); (on_goal 2 => subst zz)) | (try clear_value zz; rename' zz => zy)) | with_reducible (first | apply tidy_ite | apply tidy1_ite | apply tidy2_ite | apply State.radTaken_tidy | apply State.decideJoin_tidy) | with_reducible (apply tidy_fst; first | apply State.radTaken_tidy | apply tidy1_ite) | with_reducible (apply tidy_snd; first | apply tidy2_ite) | with_reducible (first | refine of1 ?_ (by assumption) | refine of2 ?_ (by assumption) | refine ofS ?_ (by assumption) | refine ofS1 ?_ (by assumption) | refine ofS2 ?_ (by assumption) | refine ofS3 ?_ (by assumption) | refine of3 ?_ (by assumption)) | dsimp only)

theorem State.associated_tidy {pq} {s : State} {n : ℕ} {p : Bytes} (hs : Tidy pq s) : Tidy pq (State.associated s n p) := by
  unfold State.associated
  repeat' (first | with_reducible assumption | with_reducible (first | apply tidy_ite | apply State.nodeState_tidy | apply State.setF_tidy) | with_reducible (fail_if_no_progress apply tidy_mk))

theorem State.radFrame_tidy {pq} {s : State} {n : ℕ} {b : Bytes} {corr : ℕ} (hs : Tidy pq s) : Tidy pq (State.radFrame s n b corr) := by
  unfold State.radFrame
  repeat' (first | with_reducible assumption | (extract_lets +onlyGivenNames zz; first | (refine (fun (hz : Tidy pq zz) => ?_) ?_; (on_goal 1 => (try clear_value zz; rename' zz => zy, hz => hy)); (on_goal 2 => subst zz)) | (try clear_value zz; rename' zz => zy)) | with_reducible (first | apply State.ackHeard_tidy | apply State.radAcked_tidy | apply State.micFail_tidy | apply State.radData_tidy | apply State.takeCorrection_tidy | apply State.associated_tidy | apply tidy1_mk | apply tidy2_mk | apply tidyS_none | apply tidyS_some | apply tidyS1_none | apply tidyS2_none) | with_reducible (apply tidy_fst; first | apply tidy1_ite) | with_reducible (apply tidy_snd; first | apply tidy2_ite) | split | with_reducible (first | apply tidy_ite | apply tidy1_ite | apply tidy2_ite) | with_reducible (fail_if_no_progress apply tidy_mk) | with_reducible (first | refine of1 ?_ (by assumption) | refine of2 ?_ (by assumption) | refine ofS ?_ (by assumption) | refine ofS1 ?_ (by assumption) | refine ofS2 ?_ (by assumption) | refine ofS3 ?_ (by assumption) | refine of3 ?_ (by assumption)) | dsimp only)

theorem execRadFrameRx_tidy {pq} {port : Fin 4} {psdu : Bytes} {corr : BitVec 12} {fec modeSwitch : Bool} {s : State} (hs : Tidy pq s) : TidyO pq (execRadFrameRx port psdu corr fec modeSwitch s) := by
  unfold execRadFrameRx
  repeat' (first | with_reducible assumption | (extract_lets +onlyGivenNames zz; first | (refine (fun (hz : Tidy pq zz) => ?_) ?_; (on_goal 1 => (try clear_value zz; rename' zz => zy, hz => hy)); (on_goal 2 => subst zz)) | (try clear_value zz; rename' zz => zy)) | with_reducible (first | apply tidy_ite | apply tidyO_ite | apply idle_tidy | apply State.count_tidy | apply State.radFrame_tidy | apply tidyO_next) | with_reducible (first | refine of1 ?_ (by assumption) | refine of2 ?_ (by assumption) | refine ofS ?_ (by assumption) | refine ofS1 ?_ (by assumption) | refine ofS2 ?_ (by assumption) | refine ofS3 ?_ (by assumption) | refine of3 ?_ (by assumption)) | dsimp only)

theorem execRadEnhAckSend_tidy {pq} {port : Fin 4} {s : State} (hs : Tidy pq s) : TidyO pq (execRadEnhAckSend port s) := by
  unfold execRadEnhAckSend
  repeat' (first | with_reducible assumption | (extract_lets +onlyGivenNames zz; first | (refine (fun (hz : Tidy pq zz) => ?_) ?_; (on_goal 1 => (try clear_value zz; rename' zz => zy, hz => hy)); (on_goal 2 => subst zz)) | (refine (fun (hz : ∀ t, Tidy pq t → Tidy pq (zz t)) => ?_) ?_; (on_goal 1 => (try clear_value zz; rename' zz => zy, hz => hf)); (on_goal 2 => (subst zz; intro _ _; beta_reduce))) | (refine (fun (hz : ∀ t, Tidy pq (zz t)) => ?_) ?_; (on_goal 1 => (try clear_value zz; rename' zz => zy, hz => hf)); (on_goal 2 => (subst zz; intro _; beta_reduce))) | (try clear_value zz; rename' zz => zy)) | with_reducible (first | apply idle_tidy | apply State.rollFirst_tidy | apply State.setPort_tidy | apply State.count_tidy | apply State.charge_tidy | apply State.radOut_tidy | apply tidyO_next | apply tidyS_none | apply tidyS_some | apply tidyS1_none | apply tidyS2_none | apply tidy_getD) | split | with_reducible (first | apply tidy_ite | apply tidyO_ite | apply tidyS_ite) | with_reducible (fail_if_no_progress apply tidy_mk) | with_reducible (apply hf) | with_reducible (first | refine of1 ?_ (by assumption) | refine of2 ?_ (by assumption) | refine ofS ?_ (by assumption) | refine ofS1 ?_ (by assumption) | refine ofS2 ?_ (by assumption) | refine ofS3 ?_ (by assumption) | refine of3 ?_ (by assumption)) | dsimp only)

theorem execRadAckTimeout_tidy {pq} {port : Fin 4} {s : State} (hs : Tidy pq s) : TidyO pq (execRadAckTimeout port s) := by
  unfold execRadAckTimeout
  repeat' (first | with_reducible assumption | (extract_lets +onlyGivenNames zz; first | (refine (fun (hz : Tidy pq zz) => ?_) ?_; (on_goal 1 => (try clear_value zz; rename' zz => zy, hz => hy)); (on_goal 2 => subst zz)) | (try clear_value zz; rename' zz => zy)) | with_reducible (first | apply idle_tidy | apply State.txDone_tidy | apply State.setPort_tidy | apply State.drawWord_tidy | apply tidyO_next | apply tidy1_mk | apply tidy2_mk | apply tidyS_none | apply tidyS_some | apply tidyS1_none | apply tidyS2_none) | with_reducible (apply tidy_fst; first | apply tidy1_ite) | with_reducible (apply tidy_snd; first | apply State.drawWord_tidy | apply tidy2_ite) | split | with_reducible (first | apply tidy_ite | apply tidyO_ite | apply tidy1_ite | apply tidy2_ite) | with_reducible (fail_if_no_progress apply tidy_mk) | with_reducible (first | refine of1 ?_ (by assumption) | refine of2 ?_ (by assumption) | refine ofS ?_ (by assumption) | refine ofS1 ?_ (by assumption) | refine ofS2 ?_ (by assumption) | refine ofS3 ?_ (by assumption) | refine of3 ?_ (by assumption)) | dsimp only)

theorem execRadAssocReq_tidy {pq} {port : Fin 4} {ident : BitVec 64} {s : State} (hs : Tidy pq s) : TidyO pq (execRadAssocReq port ident s) := by
  unfold execRadAssocReq
  repeat' (first | with_reducible assumption | (extract_lets +onlyGivenNames zz; first | (refine (fun (hz : Tidy pq zz) => ?_) ?_; (on_goal 1 => (try clear_value zz; rename' zz => zy, hz => hy)); (on_goal 2 => subst zz)) | (try clear_value zz; rename' zz => zy)) | with_reducible (first | apply tidy_ite | apply tidyO_ite | apply idle_tidy | apply State.forwardFrame_tidy | apply State.decideJoin_tidy | apply tidyO_next) | with_reducible (first | refine of1 ?_ (by assumption) | refine of2 ?_ (by assumption) | refine ofS ?_ (by assumption) | refine ofS1 ?_ (by assumption) | refine ofS2 ?_ (by assumption) | refine ofS3 ?_ (by assumption) | refine of3 ?_ (by assumption)) | dsimp only)

theorem execRadNodeAge_tidy {pq} {port : Fin 4} {addr : BitVec 16} {s : State} (hs : Tidy pq s) : TidyO pq (execRadNodeAge port addr s) := by
  unfold execRadNodeAge
  repeat' (first | with_reducible assumption | (extract_lets +onlyGivenNames zz; first | (refine (fun (hz : Tidy pq zz) => ?_) ?_; (on_goal 1 => (try clear_value zz; rename' zz => zy, hz => hy)); (on_goal 2 => subst zz)) | (try clear_value zz; rename' zz => zy)) | with_reducible (first | apply tidy_ite | apply tidyO_ite | apply State.ageNode_tidy | apply idle_tidy | apply tidyO_next) | with_reducible (first | refine of1 ?_ (by assumption) | refine of2 ?_ (by assumption) | refine ofS ?_ (by assumption) | refine ofS1 ?_ (by assumption) | refine ofS2 ?_ (by assumption) | refine ofS3 ?_ (by assumption) | refine of3 ?_ (by assumption)) | dsimp only)

theorem State.askToJoin_tidy {pq} {s : State} {k : ℕ} (hs : Tidy pq s) : Tidy pq (State.askToJoin s k) := by
  unfold State.askToJoin
  repeat' (first | with_reducible assumption | with_reducible (first | apply State.toSend_tidy | apply tidy1_mk | apply tidy2_mk))

theorem execRadEbRx_tidy {pq} {port : Fin 4} {panid : BitVec 16} {src : BitVec 64} {asn : BitVec 40} {since : Word} {s : State} (hs : Tidy pq s) : TidyO pq (execRadEbRx port panid src asn since s) := by
  unfold execRadEbRx
  repeat' (first | with_reducible assumption | (extract_lets +onlyGivenNames zz; first | (refine (fun (hz : Tidy pq zz) => ?_) ?_; (on_goal 1 => (try clear_value zz; rename' zz => zy, hz => hy)); (on_goal 2 => subst zz)) | (refine (fun (hz : ∀ t, Tidy pq t → Tidy pq (zz t)) => ?_) ?_; (on_goal 1 => (try clear_value zz; rename' zz => zy, hz => hf)); (on_goal 2 => (subst zz; intro _ _; beta_reduce))) | (refine (fun (hz : ∀ t, Tidy pq (zz t)) => ?_) ?_; (on_goal 1 => (try clear_value zz; rename' zz => zy, hz => hf)); (on_goal 2 => (subst zz; intro _; beta_reduce))) | (try clear_value zz; rename' zz => zy)) | with_reducible (first | apply tidy_ite | apply tidyO_ite | apply tidyS_ite | apply idle_tidy | apply State.setF_tidy | apply State.putNode_tidy | apply State.setPort_tidy | apply State.forwardFrame_tidy | apply State.hearBeacon_tidy | apply State.askToJoin_tidy | apply tidyO_next | apply tidy1_mk | apply tidy2_mk | apply tidy_getD) | with_reducible (fail_if_no_progress apply tidy_mk) | with_reducible (apply hf) | with_reducible (first | refine of1 ?_ (by assumption) | refine of2 ?_ (by assumption) | refine ofS ?_ (by assumption) | refine ofS1 ?_ (by assumption) | refine ofS2 ?_ (by assumption) | refine ofS3 ?_ (by assumption) | refine of3 ?_ (by assumption)) | dsimp only)

theorem execRadEbMiss_tidy {pq} {port : Fin 4} {s : State} (hs : Tidy pq s) : TidyO pq (execRadEbMiss port s) := by
  unfold execRadEbMiss
  repeat' (first | with_reducible assumption | (extract_lets +onlyGivenNames zz; first | (refine (fun (hz : Tidy pq zz) => ?_) ?_; (on_goal 1 => (try clear_value zz; rename' zz => zy, hz => hy)); (on_goal 2 => subst zz)) | (try clear_value zz; rename' zz => zy)) | with_reducible (first | apply tidy_ite | apply tidyO_ite | apply idle_tidy | apply State.nodeState_tidy | apply State.setPort_tidy | apply State.missBeacon_tidy | apply State.askToJoin_tidy | apply tidyO_next | apply tidy1_mk | apply tidy2_mk) | with_reducible (fail_if_no_progress apply tidy_mk) | with_reducible (first | refine of1 ?_ (by assumption) | refine of2 ?_ (by assumption) | refine ofS ?_ (by assumption) | refine ofS1 ?_ (by assumption) | refine ofS2 ?_ (by assumption) | refine ofS3 ?_ (by assumption) | refine of3 ?_ (by assumption)) | dsimp only)

theorem execRadBudgetBucketRoll_tidy {pq} {port : Fin 4} {s : State} (hs : Tidy pq s) : TidyO pq (execRadBudgetBucketRoll port s) := by
  unfold execRadBudgetBucketRoll
  repeat' (first | with_reducible assumption | (extract_lets +onlyGivenNames zz; first | (refine (fun (hz : Tidy pq zz) => ?_) ?_; (on_goal 1 => (try clear_value zz; rename' zz => zy, hz => hy)); (on_goal 2 => subst zz)) | (try clear_value zz; rename' zz => zy)) | with_reducible (first | apply tidy_ite | apply tidyO_ite | apply State.rollBuckets_tidy | apply idle_tidy | apply tidyO_next) | with_reducible (first | refine of1 ?_ (by assumption) | refine of2 ?_ (by assumption) | refine ofS ?_ (by assumption) | refine ofS1 ?_ (by assumption) | refine ofS2 ?_ (by assumption) | refine ofS3 ?_ (by assumption) | refine of3 ?_ (by assumption)) | dsimp only)

theorem execRadDlMaxWait_tidy {pq} {port : Fin 4} {s : State} (hs : Tidy pq s) : TidyO pq (execRadDlMaxWait port s) := by
  unfold execRadDlMaxWait
  repeat' (first | with_reducible assumption | with_reducible intro _ | (extract_lets +onlyGivenNames zz; first | (refine (fun (hz : Tidy pq zz) => ?_) ?_; (on_goal 1 => (try clear_value zz; rename' zz => zy, hz => hy)); (on_goal 2 => subst zz)) | (refine (fun (hz : ∀ t, Tidy pq t → Tidy pq (zz t)) => ?_) ?_; (on_goal 1 => (try clear_value zz; rename' zz => zy, hz => hf)); (on_goal 2 => (subst zz; intro _ _; beta_reduce))) | (refine (fun (hz : ∀ t, Tidy pq (zz t)) => ?_) ?_; (on_goal 1 => (try clear_value zz; rename' zz => zy, hz => hf)); (on_goal 2 => (subst zz; intro _; beta_reduce))) | (try clear_value zz; rename' zz => zy)) | with_reducible (first | apply foldl_tidy | apply foldl_tidy1 | apply idle_tidy | apply State.txDone_tidy | apply State.setPort_tidy | apply tidyO_next | apply tidyS_none | apply tidyS_some | apply tidyS1_none | apply tidyS2_none) | with_reducible (apply tidy_fst; first | apply foldl_tidy1) | with_reducible (apply tidy_snd; first | apply foldl_tidy2) | split | with_reducible (fail_if_no_progress apply tidy_mk) | with_reducible (apply hf) | with_reducible (first | refine of1 ?_ (by assumption) | refine of2 ?_ (by assumption) | refine ofS ?_ (by assumption) | refine ofS1 ?_ (by assumption) | refine ofS2 ?_ (by assumption) | refine ofS3 ?_ (by assumption) | refine of3 ?_ (by assumption)) | dsimp only)

theorem execRadAppAckSend_tidy {pq} {port : Fin 4} {parity : ℕ} {s : State} (hs : Tidy pq s) : TidyO pq (execRadAppAckSend port parity s) := by
  unfold execRadAppAckSend
  repeat' (first | with_reducible assumption | with_reducible (first | apply tidy_ite | apply tidyO_ite | apply State.portAck_tidy | apply idle_tidy | apply tidyO_next))

theorem execRadDownlinkItem_tidy {pq} {port : Fin 4} {sub : Option Submission} {s : State} (hs : Tidy pq s) : TidyO pq (execRadDownlinkItem port sub s) := by
  unfold execRadDownlinkItem
  repeat' (first | with_reducible assumption | with_reducible intro _ | with_reducible (first | apply tidy_ite | apply tidyO_ite | apply State.portDownlink_tidy | apply tidyO_next | apply idle_tidy))

theorem State.radFence_tidy {pq} {s : State} {n : ℕ} (hs : Tidy pq s) : Tidy pq (State.radFence s n) := by
  unfold State.radFence
  repeat' (first | with_reducible assumption | with_reducible (first | apply tidy_ite | apply State.fencePort_tidy | apply State.setF_tidy))

theorem State.radUnfence_tidy {pq} {s : State} {n : ℕ} (hs : Tidy pq s) : Tidy pq (State.radUnfence s n) := by
  unfold State.radUnfence
  repeat' (first | with_reducible assumption | with_reducible (first | apply tidy_ite | apply State.setPort_tidy | apply State.setF_tidy) | with_reducible (fail_if_no_progress apply tidy_mk))

theorem State.radEnable_tidy {pq} {s : State} {n : ℕ} (hs : Tidy pq s) : Tidy pq (State.radEnable s n) := by
  unfold State.radEnable
  repeat' (first | with_reducible assumption | with_reducible (first | apply tidy_ite | apply State.nodeState_tidy | apply State.startBuckets_tidy) | with_reducible (fail_if_no_progress apply tidy_mk))

theorem execRadFence_tidy {pq} {req : Req} {port : Fin 4} {s : State} (hs : Tidy pq s) : TidyO pq (execRadFence req port s) := by
  unfold execRadFence
  repeat' (first | with_reducible assumption | with_reducible intro _ | with_reducible (first | apply State.onT_tidy | apply State.radFence_tidy | apply tidyO_next | apply idle_tidy))

theorem execRadUnfence_tidy {pq} {req : Req} {port : Fin 4} {s : State} (hs : Tidy pq s) : TidyO pq (execRadUnfence req port s) := by
  unfold execRadUnfence
  repeat' (first | with_reducible assumption | with_reducible intro _ | with_reducible (first | apply State.onT_tidy | apply State.radUnfence_tidy | apply tidyO_next | apply idle_tidy))

theorem execRadSpiRaw_tidy {pq} {req : Req} {port : Fin 4} {word reply : Word} {s : State} (hs : Tidy pq s) : TidyO pq (execRadSpiRaw req port word reply s) := by
  unfold execRadSpiRaw
  repeat' (first | with_reducible assumption | with_reducible intro _ | (extract_lets +onlyGivenNames zz; first | (refine (fun (hz : Tidy pq zz) => ?_) ?_; (on_goal 1 => (try clear_value zz; rename' zz => zy, hz => hy)); (on_goal 2 => subst zz)) | (try clear_value zz; rename' zz => zy)) | with_reducible (first | apply tidy_ite | apply tidyO_ite | apply State.onField_tidy | apply State.refuseAt_tidy | apply State.setF_tidy | apply State.emit_tidy | apply tidyO_next | apply idle_tidy) | with_reducible (first | refine of1 ?_ (by assumption) | refine of2 ?_ (by assumption) | refine ofS ?_ (by assumption) | refine ofS1 ?_ (by assumption) | refine ofS2 ?_ (by assumption) | refine ofS3 ?_ (by assumption) | refine of3 ?_ (by assumption)) | dsimp only)


/-! ## Ptp -/

theorem State.ptpToCpu_tidy {pq} {s : State} {p : ℕ} {m : Bytes} (hs : Tidy pq s) : Tidy pq (State.ptpToCpu s p m) := by
  unfold State.ptpToCpu
  repeat' (first | with_reducible assumption | (extract_lets +onlyGivenNames zz; first | (refine (fun (hz : Tidy pq zz) => ?_) ?_; (on_goal 1 => (try clear_value zz; rename' zz => zy, hz => hy)); (on_goal 2 => subst zz)) | (try clear_value zz; rename' zz => zy)) | with_reducible (first | apply tidy_ite | apply State.enq_tidy) | with_reducible (first | refine of1 ?_ (by assumption) | refine of2 ?_ (by assumption) | refine ofS ?_ (by assumption) | refine ofS1 ?_ (by assumption) | refine ofS2 ?_ (by assumption) | refine ofS3 ?_ (by assumption) | refine of3 ?_ (by assumption)) | dsimp only)


/-! ## Uplink -/

theorem State.ethNow_tidy {pq} {s : State} {n : ℕ} {b : Bytes} (hs : Tidy pq s) : Tidy pq (State.ethNow s n b) := by
  unfold State.ethNow
  repeat' (first | with_reducible assumption | (extract_lets +onlyGivenNames zz; first | (refine (fun (hz : Tidy pq zz) => ?_) ?_; (on_goal 1 => (try clear_value zz; rename' zz => zy, hz => hy)); (on_goal 2 => subst zz)) | (refine (fun (hz : ∀ t, Tidy pq t → Tidy pq (zz t)) => ?_) ?_; (on_goal 1 => (try clear_value zz; rename' zz => zy, hz => hf)); (on_goal 2 => (subst zz; intro _ _; beta_reduce))) | (refine (fun (hz : ∀ t, Tidy pq (zz t)) => ?_) ?_; (on_goal 1 => (try clear_value zz; rename' zz => zy, hz => hf)); (on_goal 2 => (subst zz; intro _; beta_reduce))) | (try clear_value zz; rename' zz => zy)) | with_reducible (first | apply tidy_ite | apply State.count_tidy | apply State.emit_tidy) | with_reducible (fail_if_no_progress apply tidy_mk) | with_reducible (apply hf) | with_reducible (first | refine of1 ?_ (by assumption) | refine of2 ?_ (by assumption) | refine ofS ?_ (by assumption) | refine ofS1 ?_ (by assumption) | refine ofS2 ?_ (by assumption) | refine ofS3 ?_ (by assumption) | refine of3 ?_ (by assumption)) | dsimp only)

theorem State.ethSend_tidy {pq} {s : State} {n : ℕ} {b : Bytes} (hs : Tidy pq s) : Tidy pq (State.ethSend s n b) := by
  unfold State.ethSend
  repeat' (first | with_reducible assumption | with_reducible intro _ | with_reducible (first | apply tidy_ite | apply State.ethNow_tidy | apply tidy1_mk | apply tidy2_mk) | with_reducible (fail_if_no_progress apply tidy_mk))

theorem State.drainPort_tidy {pq} {s : State} {n : ℕ} (hs : Tidy pq s) : Tidy pq (State.drainPort s n) := by
  unfold State.drainPort
  repeat' (first | with_reducible assumption | with_reducible intro _ | with_reducible (first | apply State.ethNow_tidy | apply tidyS_none | apply tidyS_some | apply tidyS1_none | apply tidyS2_none) | split | with_reducible (first | apply tidy_ite) | with_reducible (fail_if_no_progress apply tidy_mk) | with_reducible (first | refine of1 ?_ (by assumption) | refine of2 ?_ (by assumption) | refine ofS ?_ (by assumption) | refine ofS1 ?_ (by assumption) | refine ofS2 ?_ (by assumption) | refine ofS3 ?_ (by assumption) | refine of3 ?_ (by assumption)) | dsimp only)

theorem State.egressTick_tidy {pq} {s : State} (hs : Tidy pq s) : Tidy pq (State.egressTick s) := by
  unfold State.egressTick
  repeat' (first | with_reducible assumption | with_reducible (first | apply tidy_ite | apply foldl_tidy | apply foldl_tidy1 | apply State.drainPort_tidy) | with_reducible (apply tidy_fst; first | apply foldl_tidy1) | with_reducible (apply tidy_snd; first | apply foldl_tidy2) | with_reducible (fail_if_no_progress apply tidy_mk))

theorem State.paSend_tidy {pq} {s : State} {b : Bytes} {lans seq : ℕ} (hs : Tidy pq s) : Tidy pq (State.paSend s b lans seq) := by
  unfold State.paSend
  repeat' (first | with_reducible assumption | (extract_lets +onlyGivenNames zz; first | (refine (fun (hz : Tidy pq zz) => ?_) ?_; (on_goal 1 => (try clear_value zz; rename' zz => zy, hz => hy)); (on_goal 2 => subst zz)) | (refine (fun (hz : ∀ t, Tidy pq t → Tidy pq (zz t)) => ?_) ?_; (on_goal 1 => (try clear_value zz; rename' zz => zy, hz => hf)); (on_goal 2 => (subst zz; intro _ _; beta_reduce))) | (refine (fun (hz : ∀ t, Tidy pq (zz t)) => ?_) ?_; (on_goal 1 => (try clear_value zz; rename' zz => zy, hz => hf)); (on_goal 2 => (subst zz; intro _; beta_reduce))) | (try clear_value zz; rename' zz => zy)) | with_reducible (first | apply tidy_ite | apply State.ethSend_tidy) | with_reducible (apply hf) | with_reducible (first | refine of1 ?_ (by assumption) | refine of2 ?_ (by assumption) | refine ofS ?_ (by assumption) | refine ofS1 ?_ (by assumption) | refine ofS2 ?_ (by assumption) | refine ofS3 ?_ (by assumption) | refine of3 ?_ (by assumption)) | dsimp only)

theorem State.paLocal_tidy {pq} {s : State} {b : Bytes} (hs : Tidy pq s) : Tidy pq (State.paLocal s b) := by
  unfold State.paLocal
  repeat' (first | with_reducible assumption | (extract_lets +onlyGivenNames zz; first | (refine (fun (hz : Tidy pq zz) => ?_) ?_; (on_goal 1 => (try clear_value zz; rename' zz => zy, hz => hy)); (on_goal 2 => subst zz)) | (try clear_value zz; rename' zz => zy)) | with_reducible (first | apply State.paSend_tidy | apply State.setF_tidy) | split | with_reducible (first | apply tidy_ite) | with_reducible (fail_if_no_progress apply tidy_mk) | with_reducible (first | refine of1 ?_ (by assumption) | refine of2 ?_ (by assumption) | refine ofS ?_ (by assumption) | refine ofS1 ?_ (by assumption) | refine ofS2 ?_ (by assumption) | refine ofS3 ?_ (by assumption) | refine of3 ?_ (by assumption)) | dsimp only)

theorem State.swSend_tidy {pq} {s : State} {port : ℕ} {b : Bytes} (hs : Tidy pq s) : Tidy pq (State.swSend s port b) := by
  unfold State.swSend
  repeat' (first | with_reducible assumption | with_reducible (first | apply tidy_ite | apply State.paLocal_tidy | apply State.ethSend_tidy))

theorem State.learnMac_tidy {pq} {s : State} {mac port : ℕ} (hs : Tidy pq s) : Tidy pq (State.learnMac s mac port) := by
  unfold State.learnMac
  repeat' (first | with_reducible assumption | with_reducible (first | apply tidy_ite | apply tidy1_mk | apply tidy2_mk | apply tidyS_none | apply tidyS_some | apply tidyS1_none | apply tidyS2_none) | with_reducible (fail_if_no_progress apply tidy_mk))

theorem State.switchOut_tidy {pq} {s : State} {from_ : ℕ} {b : Bytes} (hs : Tidy pq s) : Tidy pq (State.switchOut s from_ b) := by
  unfold State.switchOut
  repeat' (first | with_reducible assumption | with_reducible intro _ | (extract_lets +onlyGivenNames zz; first | (refine (fun (hz : Tidy pq zz) => ?_) ?_; (on_goal 1 => (try clear_value zz; rename' zz => zy, hz => hy)); (on_goal 2 => subst zz)) | (try clear_value zz; rename' zz => zy)) | with_reducible (first | apply foldl_tidy | apply foldl_tidy1 | apply State.swSend_tidy | apply tidy1_mk | apply tidy2_mk | apply tidyS_none | apply tidyS_some | apply tidyS1_none | apply tidyS2_none) | with_reducible (apply tidy_fst; first | apply foldl_tidy1) | with_reducible (apply tidy_snd; first | apply foldl_tidy2) | split | with_reducible (first | apply tidy_ite) | with_reducible (fail_if_no_progress apply tidy_mk) | with_reducible (first | refine of1 ?_ (by assumption) | refine of2 ?_ (by assumption) | refine ofS ?_ (by assumption) | refine ofS1 ?_ (by assumption) | refine ofS2 ?_ (by assumption) | refine ofS3 ?_ (by assumption) | refine of3 ?_ (by assumption)) | dsimp only)

theorem State.switchIn_tidy {pq} {s : State} {from_ : ℕ} {b : Bytes} (hs : Tidy pq s) : Tidy pq (State.switchIn s from_ b) := by
  unfold State.switchIn
  repeat' (first | with_reducible assumption | (extract_lets +onlyGivenNames zz; first | (refine (fun (hz : Tidy pq zz) => ?_) ?_; (on_goal 1 => (try clear_value zz; rename' zz => zy, hz => hy)); (on_goal 2 => subst zz)) | (try clear_value zz; rename' zz => zy)) | with_reducible (first | apply tidy_ite | apply State.learnMac_tidy | apply State.switchOut_tidy) | with_reducible (first | refine of1 ?_ (by assumption) | refine of2 ?_ (by assumption) | refine ofS ?_ (by assumption) | refine ofS1 ?_ (by assumption) | refine ofS2 ?_ (by assumption) | refine ofS3 ?_ (by assumption) | refine of3 ?_ (by assumption)) | dsimp only)

theorem State.lanHeard_tidy {pq} {s : State} {n : ℕ} (hs : Tidy pq s) : Tidy pq (State.lanHeard s n) := by
  unfold State.lanHeard
  repeat' (first | with_reducible assumption | with_reducible (first | apply tidy_ite | apply tidy1_mk | apply tidy2_mk) | with_reducible (fail_if_no_progress apply tidy_mk))

theorem State.received_tidy {pq} {s : State} {n : ℕ} {b : Bytes} {fcsBad : Bool} (hs : Tidy pq s) : Tidy1 pq (State.received s n b fcsBad) := by
  unfold State.received
  repeat' (first | with_reducible assumption | with_reducible (first | apply tidy_ite | apply tidy1_ite | apply tidy2_ite | apply State.count_tidy | apply tidy1_mk | apply tidy2_mk) | with_reducible (apply tidy_fst; first | apply tidy1_ite) | with_reducible (apply tidy_snd; first | apply tidy2_ite))

theorem execSwitchForward_tidy {pq} {port : Fin 4} {frame : Bytes} {fcsBad : Bool} {s : State} (hs : Tidy pq s) : TidyO pq (execSwitchForward port frame fcsBad s) := by
  unfold execSwitchForward
  repeat' (first | with_reducible assumption | with_reducible intro _ | (extract_lets +onlyGivenNames zz; first | (refine (fun (hz : Tidy pq zz) => ?_) ?_; (on_goal 1 => (try clear_value zz; rename' zz => zy, hz => hy)); (on_goal 2 => subst zz)) | (try clear_value zz; rename' zz => zy)) | with_reducible (first | apply tidy_ite | apply tidyO_ite | apply tidy1_ite | apply tidy2_ite | apply State.received_tidy | apply State.switchIn_tidy | apply State.count_tidy | apply State.settling_tidy | apply State.lanHeard_tidy | apply idle_tidy | apply tidyO_next | apply tidy1_mk | apply tidy2_mk) | with_reducible (apply tidy_fst; first | apply State.received_tidy | apply tidy1_ite) | with_reducible (apply tidy_snd; first | apply tidy2_ite) | with_reducible (first | refine of1 ?_ (by assumption) | refine of2 ?_ (by assumption) | refine ofS ?_ (by assumption) | refine ofS1 ?_ (by assumption) | refine ofS2 ?_ (by assumption) | refine ofS3 ?_ (by assumption) | refine of3 ?_ (by assumption)) | dsimp only)

theorem execSwitchAge_tidy {pq} {mac : BitVec 48} {s : State} (hs : Tidy pq s) : TidyO pq (execSwitchAge mac s) := by
  unfold execSwitchAge
  repeat' (first | with_reducible assumption | with_reducible (first | apply idle_tidy | apply tidyO_next | apply tidyS_none | apply tidyS_some | apply tidyS1_none | apply tidyS2_none) | split | with_reducible (first | apply tidy_ite | apply tidyO_ite) | with_reducible (fail_if_no_progress apply tidy_mk) | with_reducible (first | refine of1 ?_ (by assumption) | refine of2 ?_ (by assumption) | refine ofS ?_ (by assumption) | refine ofS1 ?_ (by assumption) | refine ofS2 ?_ (by assumption) | refine ofS3 ?_ (by assumption) | refine of3 ?_ (by assumption)) | dsimp only)

theorem State.dropBatch_tidy {pq} {s : State} (hs : Tidy pq s) : Tidy pq (State.dropBatch s) := by
  unfold State.dropBatch
  repeat' (first | with_reducible assumption | with_reducible (first | apply State.irq_tidy | apply State.count_tidy))

theorem State.toSoftware_tidy {pq} {s : State} {b : Bytes} (hs : Tidy pq s) : Tidy pq (State.toSoftware s b) := by
  unfold State.toSoftware
  repeat' (first | with_reducible assumption | with_reducible (first | apply tidy_ite | apply State.enq_tidy))

theorem State.cpuBatch_tidy {pq} {s : State} {u : Udp} {rest : State → State} (hs : Tidy pq s) (hrest : ∀ t, Tidy pq t → Tidy pq (rest t)) : Tidy pq (State.cpuBatch s u rest) := by
  unfold State.cpuBatch
  repeat' (first | with_reducible assumption | with_reducible (first | apply State.enq_tidy | apply State.dropBatch_tidy | apply tidy1_mk | apply tidy2_mk | apply tidyS_none | apply tidyS_some | apply tidyS1_none | apply tidyS2_none) | with_reducible (apply tidy_fst; first | apply tidy1_ite) | with_reducible (apply tidy_snd; first | apply tidy2_ite) | split | with_reducible (first | apply tidy_ite | apply tidy1_ite | apply tidy2_ite) | with_reducible (fail_if_no_progress apply tidy_mk) | with_reducible (first | apply hrest) | with_reducible (first | refine of1 ?_ (by assumption) | refine of2 ?_ (by assumption) | refine ofS ?_ (by assumption) | refine ofS1 ?_ (by assumption) | refine ofS2 ?_ (by assumption) | refine ofS3 ?_ (by assumption) | refine of3 ?_ (by assumption)) | dsimp only)

theorem State.cpuIn_tidy {pq} {s : State} {port : ℕ} {b : Bytes} (hs : Tidy pq s) : Tidy pq (State.cpuIn s port b) := by
  unfold State.cpuIn
  repeat' (first | with_reducible assumption | with_reducible intro _ | (extract_lets +onlyGivenNames zz; first | (refine (fun (hz : Tidy pq zz) => ?_) ?_; (on_goal 1 => (try clear_value zz; rename' zz => zy, hz => hy)); (on_goal 2 => subst zz)) | (refine (fun (hz : ∀ t, Tidy pq t → Tidy pq (zz t)) => ?_) ?_; (on_goal 1 => (try clear_value zz; rename' zz => zy, hz => hf)); (on_goal 2 => (subst zz; intro _ _; beta_reduce))) | (refine (fun (hz : ∀ t, Tidy pq (zz t)) => ?_) ?_; (on_goal 1 => (try clear_value zz; rename' zz => zy, hz => hf)); (on_goal 2 => (subst zz; intro _; beta_reduce))) | (try clear_value zz; rename' zz => zy)) | with_reducible (first | apply State.toSoftware_tidy | apply State.count_tidy | apply State.cpuBatch_tidy | apply tidy1_mk | apply tidy2_mk | apply tidyS_none | apply tidyS_some | apply tidyS1_none | apply tidyS2_none) | split | with_reducible (first | apply tidy_ite) | with_reducible (fail_if_no_progress apply tidy_mk) | with_reducible (apply hf) | with_reducible (first | refine of1 ?_ (by assumption) | refine of2 ?_ (by assumption) | refine ofS ?_ (by assumption) | refine ofS1 ?_ (by assumption) | refine ofS2 ?_ (by assumption) | refine ofS3 ?_ (by assumption) | refine of3 ?_ (by assumption)) | dsimp only)

theorem State.takeBatch_tidy {pq} {s : State} {x : Batch} {frames : List Bytes} (hs : Tidy pq s) : Tidy pq (State.takeBatch s x frames) := by
  unfold State.takeBatch
  repeat' (first | with_reducible assumption | with_reducible intro _ | (extract_lets +onlyGivenNames zz; first | (refine (fun (hz : Tidy pq zz) => ?_) ?_; (on_goal 1 => (try clear_value zz; rename' zz => zy, hz => hy)); (on_goal 2 => subst zz)) | (refine (fun (hz : ∀ t, Tidy pq t → Tidy pq (zz t)) => ?_) ?_; (on_goal 1 => (try clear_value zz; rename' zz => zy, hz => hf)); (on_goal 2 => (subst zz; intro _ _; beta_reduce))) | (refine (fun (hz : ∀ t, Tidy pq (zz t)) => ?_) ?_; (on_goal 1 => (try clear_value zz; rename' zz => zy, hz => hf)); (on_goal 2 => (subst zz; intro _; beta_reduce))) | (try clear_value zz; rename' zz => zy)) | with_reducible (first | apply tidy_ite | apply State.count_tidy | apply State.irq_tidy | apply State.waitParse_tidy | apply State.trackBatch_tidy | apply tidy1_mk | apply tidy2_mk | apply map_tidyS | apply map_tidyS_of2 | apply map_tidyS_any) | with_reducible (apply hf) | with_reducible (first | refine of1 ?_ (by assumption) | refine of2 ?_ (by assumption) | refine ofS ?_ (by assumption) | refine ofS1 ?_ (by assumption) | refine ofS2 ?_ (by assumption) | refine ofS3 ?_ (by assumption) | refine of3 ?_ (by assumption)) | dsimp only)

theorem State.dropDatagram_tidy {pq} {s : State} {b : Bytes} {poison : Bool} (hs : Tidy pq s) : Tidy pq (State.dropDatagram s b poison) := by
  unfold State.dropDatagram
  repeat' (first | with_reducible assumption | (extract_lets +onlyGivenNames zz; first | (refine (fun (hz : Tidy pq zz) => ?_) ?_; (on_goal 1 => (try clear_value zz; rename' zz => zy, hz => hy)); (on_goal 2 => subst zz)) | (try clear_value zz; rename' zz => zy)) | with_reducible (first | apply tidy_ite | apply State.creditBack_tidy | apply State.dropBatch_tidy | apply State.poisonBatch_tidy) | with_reducible (first | refine of1 ?_ (by assumption) | refine of2 ?_ (by assumption) | refine ofS ?_ (by assumption) | refine ofS1 ?_ (by assumption) | refine ofS2 ?_ (by assumption) | refine ofS3 ?_ (by assumption) | refine of3 ?_ (by assumption)) | dsimp only)

theorem execBatchRx_tidy {pq} {parity : ℕ} {s : State} (hs : Tidy pq s) : TidyO pq (execBatchRx parity s) := by
  unfold execBatchRx
  repeat' (first | with_reducible assumption | with_reducible intro _ | (extract_lets +onlyGivenNames zz; first | (refine (fun (hz : Tidy pq zz) => ?_) ?_; (on_goal 1 => (try clear_value zz; rename' zz => zy, hz => hy)); (on_goal 2 => subst zz)) | (refine (fun (hz : ∀ t, Tidy pq t → Tidy pq (zz t)) => ?_) ?_; (on_goal 1 => (try clear_value zz; rename' zz => zy, hz => hf)); (on_goal 2 => (subst zz; intro _ _; beta_reduce))) | (refine (fun (hz : ∀ t, Tidy pq (zz t)) => ?_) ?_; (on_goal 1 => (try clear_value zz; rename' zz => zy, hz => hf)); (on_goal 2 => (subst zz; intro _; beta_reduce))) | (try clear_value zz; rename' zz => zy)) | with_reducible (first | apply idle_tidy | apply State.faultFront_tidy | apply State.dropDatagram_tidy | apply State.takeBatch_tidy | apply State.takeLearning_tidy | apply State.count_tidy | apply State.deqHeld_tidy | apply tidyO_next | apply tidy1_mk | apply tidy2_mk | apply map_tidyS | apply map_tidyS_of2 | apply map_tidyS_any | apply tidyS_none | apply tidyS_some | apply tidyS1_none | apply tidyS2_none) | with_reducible (apply tidy_fst; first | apply tidy1_ite) | with_reducible (apply tidy_snd; first | apply tidy2_ite) | split | with_reducible (first | apply tidy_ite | apply tidyO_ite | apply tidy1_ite | apply tidy2_ite) | with_reducible (fail_if_no_progress apply tidy_mk) | with_reducible (apply hf) | with_reducible (first | refine of1 ?_ (by assumption) | refine of2 ?_ (by assumption) | refine ofS ?_ (by assumption) | refine ofS1 ?_ (by assumption) | refine ofS2 ?_ (by assumption) | refine ofS3 ?_ (by assumption) | refine of3 ?_ (by assumption)) | dsimp only)

theorem State.takeBatchAck_tidy {pq} {s : State} {q : ℕ} {a : Ack} (hs : Tidy pq s) : Tidy pq (State.takeBatchAck s q a) := by
  unfold State.takeBatchAck
  repeat' (first | with_reducible assumption | (extract_lets +onlyGivenNames zz; first | (refine (fun (hz : Tidy pq zz) => ?_) ?_; (on_goal 1 => (try clear_value zz; rename' zz => zy, hz => hy)); (on_goal 2 => subst zz)) | (try clear_value zz; rename' zz => zy)) | with_reducible (first | apply State.batchOutcome_tidy | apply State.setBatch_tidy | apply State.creditBack_tidy | apply tidy1_mk | apply tidy2_mk | apply tidyS_none | apply tidyS_some | apply tidyS1_none | apply tidyS2_none) | with_reducible (apply tidy_fst; first | apply tidy1_ite) | with_reducible (apply tidy_snd; first | apply tidy2_ite) | split | with_reducible (first | apply tidy_ite | apply tidy1_ite | apply tidy2_ite) | with_reducible (fail_if_no_progress apply tidy_mk) | with_reducible (first | refine of1 ?_ (by assumption) | refine of2 ?_ (by assumption) | refine ofS ?_ (by assumption) | refine ofS1 ?_ (by assumption) | refine ofS2 ?_ (by assumption) | refine ofS3 ?_ (by assumption) | refine of3 ?_ (by assumption)) | dsimp only)

theorem State.takeAckItem_tidy {pq} {s : State} {q parity : ℕ} (hs : Tidy pq s) : Tidy pq (State.takeAckItem s q parity) := by
  unfold State.takeAckItem
  repeat' (first | with_reducible assumption | (extract_lets +onlyGivenNames zz; first | (refine (fun (hz : Tidy pq zz) => ?_) ?_; (on_goal 1 => (try clear_value zz; rename' zz => zy, hz => hy)); (on_goal 2 => subst zz)) | (try clear_value zz; rename' zz => zy)) | with_reducible (first | apply State.faultFront_tidy | apply State.loseAck_tidy | apply State.creditBack_tidy | apply State.takeBatchAck_tidy | apply State.deqHeld_tidy | apply tidy1_mk | apply tidy2_mk) | with_reducible (apply tidy_fst; first | apply tidy1_ite) | with_reducible (apply tidy_snd; first | apply tidy2_ite) | split | with_reducible (first | apply tidy_ite | apply tidy1_ite | apply tidy2_ite) | with_reducible (fail_if_no_progress apply tidy_mk) | with_reducible (first | refine of1 ?_ (by assumption) | refine of2 ?_ (by assumption) | refine ofS ?_ (by assumption) | refine ofS1 ?_ (by assumption) | refine ofS2 ?_ (by assumption) | refine ofS3 ?_ (by assumption) | refine of3 ?_ (by assumption)) | dsimp only)

theorem State.sendBatchAck_tidy {pq} {s : State} {c : ℕ} {b : Bytes} (hs : Tidy pq s) : Tidy pq (State.sendBatchAck s c b) := by
  unfold State.sendBatchAck
  repeat' (first | with_reducible assumption | (extract_lets +onlyGivenNames zz; first | (refine (fun (hz : Tidy pq zz) => ?_) ?_; (on_goal 1 => (try clear_value zz; rename' zz => zy, hz => hy)); (on_goal 2 => subst zz)) | (try clear_value zz; rename' zz => zy)) | with_reducible (first | apply tidy_ite | apply State.output_tidy | apply State.count_tidy | apply State.emit_tidy) | with_reducible (first | refine of1 ?_ (by assumption) | refine of2 ?_ (by assumption) | refine ofS ?_ (by assumption) | refine ofS1 ?_ (by assumption) | refine ofS2 ?_ (by assumption) | refine ofS3 ?_ (by assumption) | refine of3 ?_ (by assumption)) | dsimp only)

theorem State.answerBatch_tidy {pq} {s : State} {k : ℕ} {b : Batch} (hs : Tidy pq s) : Tidy pq (State.answerBatch s k b) := by
  unfold State.answerBatch
  repeat' (first | with_reducible assumption | (extract_lets +onlyGivenNames zz; first | (refine (fun (hz : Tidy pq zz) => ?_) ?_; (on_goal 1 => (try clear_value zz; rename' zz => zy, hz => hy)); (on_goal 2 => subst zz)) | (try clear_value zz; rename' zz => zy)) | with_reducible (first | apply State.endBatch_tidy | apply State.abandonBatch_tidy | apply State.sendBatchAck_tidy | apply State.takeIv_tidy | apply State.ackFrame_tidy | apply tidy1_mk | apply tidy2_mk | apply tidyS_none | apply tidyS_some | apply tidyS1_none | apply tidyS2_none) | with_reducible (apply tidy_fst; first | apply tidy1_ite) | with_reducible (apply tidy_snd; first | apply State.ackFrame_tidy | apply tidy2_ite) | split | with_reducible (first | apply tidy_ite | apply tidy1_ite | apply tidy2_ite) | with_reducible (fail_if_no_progress apply tidy_mk) | with_reducible (first | refine of1 ?_ (by assumption) | refine of2 ?_ (by assumption) | refine ofS ?_ (by assumption) | refine ofS1 ?_ (by assumption) | refine ofS2 ?_ (by assumption) | refine ofS3 ?_ (by assumption) | refine of3 ?_ (by assumption)) | dsimp only)

theorem execBatchAckSend_tidy {pq} {parity : ℕ} {s : State} (hs : Tidy pq s) : TidyO pq (execBatchAckSend parity s) := by
  unfold execBatchAckSend
  repeat' (first | with_reducible assumption | with_reducible intro _ | (extract_lets +onlyGivenNames zz; first | (refine (fun (hz : Tidy pq zz) => ?_) ?_; (on_goal 1 => (try clear_value zz; rename' zz => zy, hz => hy)); (on_goal 2 => subst zz)) | (try clear_value zz; rename' zz => zy)) | with_reducible (first | apply idle_tidy | apply State.takeAckItem_tidy | apply State.answerBatch_tidy | apply tidyO_next | apply tidy1_mk | apply tidy2_mk | apply tidyS_none | apply tidyS_some | apply tidyS1_none | apply tidyS2_none) | split | with_reducible (fail_if_no_progress apply tidy_mk) | with_reducible (first | refine of1 ?_ (by assumption) | refine of2 ?_ (by assumption) | refine ofS ?_ (by assumption) | refine ofS1 ?_ (by assumption) | refine ofS2 ?_ (by assumption) | refine ofS3 ?_ (by assumption) | refine of3 ?_ (by assumption)) | dsimp only)

theorem execBatchTimeout_tidy {pq} {s : State} (hs : Tidy pq s) : TidyO pq (execBatchTimeout s) := by
  unfold execBatchTimeout
  repeat' (first | with_reducible assumption | with_reducible intro _ | (extract_lets +onlyGivenNames zz; first | (refine (fun (hz : Tidy pq zz) => ?_) ?_; (on_goal 1 => (try clear_value zz; rename' zz => zy, hz => hy)); (on_goal 2 => subst zz)) | (try clear_value zz; rename' zz => zy)) | with_reducible (first | apply foldl_tidy | apply foldl_tidy1 | apply idle_tidy | apply State.abandonBatch_tidy | apply tidyO_next | apply tidyS_none | apply tidyS_some | apply tidyS1_none | apply tidyS2_none) | with_reducible (apply tidy_fst; first | apply foldl_tidy1) | with_reducible (apply tidy_snd; first | apply foldl_tidy2) | split | with_reducible (fail_if_no_progress apply tidy_mk) | with_reducible (first | refine of1 ?_ (by assumption) | refine of2 ?_ (by assumption) | refine ofS ?_ (by assumption) | refine ofS1 ?_ (by assumption) | refine ofS2 ?_ (by assumption) | refine ofS3 ?_ (by assumption) | refine of3 ?_ (by assumption)) | dsimp only)

theorem State.streamZero_tidy {pq} {s : State} {b : Bytes} (hs : Tidy pq s) : Tidy pq (State.streamZero s b) := by
  unfold State.streamZero
  repeat' (first | with_reducible assumption | with_reducible intro _ | (extract_lets +onlyGivenNames zz; first | (refine (fun (hz : Tidy pq zz) => ?_) ?_; (on_goal 1 => (try clear_value zz; rename' zz => zy, hz => hy)); (on_goal 2 => subst zz)) | (try clear_value zz; rename' zz => zy)) | with_reducible (first | apply tidy_ite | apply State.output_tidy | apply State.count_tidy | apply State.paSend_tidy) | with_reducible (first | refine of1 ?_ (by assumption) | refine of2 ?_ (by assumption) | refine ofS ?_ (by assumption) | refine ofS1 ?_ (by assumption) | refine ofS2 ?_ (by assumption) | refine ofS3 ?_ (by assumption) | refine of3 ?_ (by assumption)) | dsimp only)

theorem execEthSwTx_tidy {pq} {sub : Option Submission} {s : State} (hs : Tidy pq s) : TidyO pq (execEthSwTx sub s) := by
  unfold execEthSwTx
  repeat' (first | with_reducible assumption | with_reducible intro _ | (extract_lets +onlyGivenNames zz; first | (refine (fun (hz : Tidy pq zz) => ?_) ?_; (on_goal 1 => (try clear_value zz; rename' zz => zy, hz => hy)); (on_goal 2 => subst zz)) | (try clear_value zz; rename' zz => zy)) | with_reducible (first | apply idle_tidy | apply State.onWrite_tidy | apply State.enq_tidy | apply State.streamZero_tidy | apply State.switchOut_tidy | apply State.deq_tidy | apply tidyO_next | apply tidy1_mk | apply tidy2_mk | apply tidyS_none | apply tidyS_some | apply tidyS1_none | apply tidyS2_none) | with_reducible (apply tidy_fst; first | apply tidy1_ite) | with_reducible (apply tidy_snd; first | apply tidy2_ite) | split | with_reducible (first | apply tidy_ite | apply tidyO_ite | apply tidy1_ite | apply tidy2_ite) | with_reducible (fail_if_no_progress apply tidy_mk) | with_reducible (first | refine of1 ?_ (by assumption) | refine of2 ?_ (by assumption) | refine ofS ?_ (by assumption) | refine ofS1 ?_ (by assumption) | refine ofS2 ?_ (by assumption) | refine ofS3 ?_ (by assumption) | refine of3 ?_ (by assumption)) | dsimp only)

theorem State.setPrpNode_tidy {pq} {s : State} {mac : ℕ} {x : Option PrpNode} (hs : Tidy pq s) : Tidy pq (State.setPrpNode s mac x) := by
  unfold State.setPrpNode
  repeat' (first | with_reducible assumption | (extract_lets +onlyGivenNames zz; first | (refine (fun (hz : Tidy pq zz) => ?_) ?_; (on_goal 1 => (try clear_value zz; rename' zz => zy, hz => hy)); (on_goal 2 => subst zz)) | (try clear_value zz; rename' zz => zy)) | with_reducible (first | apply State.setF_tidy | apply tidyS_none | apply tidyS_some | apply tidyS1_none | apply tidyS2_none) | with_reducible (fail_if_no_progress apply tidy_mk) | with_reducible (first | refine of1 ?_ (by assumption) | refine of2 ?_ (by assumption) | refine ofS ?_ (by assumption) | refine ofS1 ?_ (by assumption) | refine ofS2 ?_ (by assumption) | refine ofS3 ?_ (by assumption) | refine of3 ?_ (by assumption)) | dsimp only)

theorem State.prpAccept_tidy {pq} {s : State} {mac q : ℕ} (hs : Tidy pq s) : Tidy2 pq (State.prpAccept s mac q) := by
  unfold State.prpAccept
  repeat' (first | with_reducible assumption | (extract_lets +onlyGivenNames zz; first | (refine (fun (hz : Tidy pq zz) => ?_) ?_; (on_goal 1 => (try clear_value zz; rename' zz => zy, hz => hy)); (on_goal 2 => subst zz)) | (refine (fun (hz : ∀ t, Tidy pq t → Tidy pq (zz t)) => ?_) ?_; (on_goal 1 => (try clear_value zz; rename' zz => zy, hz => hf)); (on_goal 2 => (subst zz; intro _ _; beta_reduce))) | (refine (fun (hz : ∀ t, Tidy pq (zz t)) => ?_) ?_; (on_goal 1 => (try clear_value zz; rename' zz => zy, hz => hf)); (on_goal 2 => (subst zz; intro _; beta_reduce))) | (try clear_value zz; rename' zz => zy)) | with_reducible (first | apply State.irq_tidy | apply State.setPrpNode_tidy | apply State.count_tidy | apply tidy1_mk | apply tidy2_mk | apply tidyS_none | apply tidyS_some | apply tidyS1_none | apply tidyS2_none) | with_reducible (apply tidy_fst; first | apply tidy1_ite) | with_reducible (apply tidy_snd; first | apply tidy2_ite) | split | with_reducible (first | apply tidy_ite | apply tidy1_ite | apply tidy2_ite | apply tidyS_ite) | with_reducible (fail_if_no_progress apply tidy_mk) | with_reducible (apply hf) | with_reducible (first | refine of1 ?_ (by assumption) | refine of2 ?_ (by assumption) | refine ofS ?_ (by assumption) | refine ofS1 ?_ (by assumption) | refine ofS2 ?_ (by assumption) | refine ofS3 ?_ (by assumption) | refine of3 ?_ (by assumption)) | dsimp only)

theorem execPrpRx_tidy {pq} {lanB : Bool} {frame : Bytes} {fcsBad : Bool} {s : State} (hs : Tidy pq s) : TidyO pq (execPrpRx lanB frame fcsBad s) := by
  unfold execPrpRx
  repeat' (first | with_reducible assumption | with_reducible intro _ | (extract_lets +onlyGivenNames zz; first | (refine (fun (hz : Tidy pq zz) => ?_) ?_; (on_goal 1 => (try clear_value zz; rename' zz => zy, hz => hy)); (on_goal 2 => subst zz)) | (refine (fun (hz : ∀ t, Tidy pq t → Tidy pq (zz t)) => ?_) ?_; (on_goal 1 => (try clear_value zz; rename' zz => zy, hz => hf)); (on_goal 2 => (subst zz; intro _ _; beta_reduce))) | (refine (fun (hz : ∀ t, Tidy pq (zz t)) => ?_) ?_; (on_goal 1 => (try clear_value zz; rename' zz => zy, hz => hf)); (on_goal 2 => (subst zz; intro _; beta_reduce))) | (refine (fun (hz : ∀ t e1, Tidy pq t → Tidy pq (zz t e1)) => ?_) ?_; (on_goal 1 => (try clear_value zz; rename' zz => zy, hz => hf)); (on_goal 2 => (subst zz; intro _ _ _; beta_reduce))) | (try clear_value zz; rename' zz => zy)) | with_reducible (first | apply tidy_ite | apply tidyO_ite | apply tidy1_ite | apply tidy2_ite | apply State.cpuIn_tidy | apply State.switchIn_tidy | apply State.count_tidy | apply State.settling_tidy | apply State.lanHeard_tidy | apply State.received_tidy | apply State.prpAccept_tidy | apply tidyO_next | apply idle_tidy | apply tidy1_mk | apply tidy2_mk) | with_reducible (apply tidy_fst; first | apply State.received_tidy | apply tidy1_ite) | with_reducible (apply tidy_snd; first | apply State.prpAccept_tidy | apply tidy2_ite) | with_reducible (fail_if_no_progress apply tidy_mk) | with_reducible (apply hf) | with_reducible (first | refine of1 ?_ (by assumption) | refine of2 ?_ (by assumption) | refine ofS ?_ (by assumption) | refine ofS1 ?_ (by assumption) | refine ofS2 ?_ (by assumption) | refine ofS3 ?_ (by assumption) | refine of3 ?_ (by assumption)) | dsimp only)

theorem execPrpNodeForget_tidy {pq} {mac : BitVec 48} {s : State} (hs : Tidy pq s) : TidyO pq (execPrpNodeForget mac s) := by
  unfold execPrpNodeForget
  repeat' (first | with_reducible assumption | with_reducible (first | apply idle_tidy | apply State.setPrpNode_tidy | apply tidyO_next | apply tidyS_none | apply tidyS_some | apply tidyS1_none | apply tidyS2_none) | split | with_reducible (first | apply tidy_ite | apply tidyO_ite) | with_reducible (fail_if_no_progress apply tidy_mk) | with_reducible (first | refine of1 ?_ (by assumption) | refine of2 ?_ (by assumption) | refine ofS ?_ (by assumption) | refine ofS1 ?_ (by assumption) | refine ofS2 ?_ (by assumption) | refine ofS3 ?_ (by assumption) | refine of3 ?_ (by assumption)) | dsimp only)

theorem execPrpSupervisionTx_tidy {pq} {s : State} (hs : Tidy pq s) : TidyO pq (execPrpSupervisionTx s) := by
  unfold execPrpSupervisionTx
  repeat' (first | with_reducible assumption | (extract_lets +onlyGivenNames zz; first | (refine (fun (hz : Tidy pq zz) => ?_) ?_; (on_goal 1 => (try clear_value zz; rename' zz => zy, hz => hy)); (on_goal 2 => subst zz)) | (try clear_value zz; rename' zz => zy)) | with_reducible (first | apply tidy_ite | apply tidyO_ite | apply idle_tidy | apply State.paLocal_tidy | apply tidyO_next | apply tidy1_mk | apply tidy2_mk) | with_reducible (fail_if_no_progress apply tidy_mk) | with_reducible (first | refine of1 ?_ (by assumption) | refine of2 ?_ (by assumption) | refine ofS ?_ (by assumption) | refine ofS1 ?_ (by assumption) | refine ofS2 ?_ (by assumption) | refine ofS3 ?_ (by assumption) | refine of3 ?_ (by assumption)) | dsimp only)

theorem execPrpLanDown_tidy {pq} {lanB : Bool} {s : State} (hs : Tidy pq s) : TidyO pq (execPrpLanDown lanB s) := by
  unfold execPrpLanDown
  repeat' (first | with_reducible assumption | with_reducible intro _ | (extract_lets +onlyGivenNames zz; first | (refine (fun (hz : Tidy pq zz) => ?_) ?_; (on_goal 1 => (try clear_value zz; rename' zz => zy, hz => hy)); (on_goal 2 => subst zz)) | (try clear_value zz; rename' zz => zy)) | with_reducible (first | apply tidy_ite | apply tidyO_ite | apply idle_tidy | apply State.settling_tidy | apply State.irq_tidy | apply tidyO_next) | with_reducible (fail_if_no_progress apply tidy_mk) | with_reducible (first | refine of1 ?_ (by assumption) | refine of2 ?_ (by assumption) | refine ofS ?_ (by assumption) | refine ofS1 ?_ (by assumption) | refine ofS2 ?_ (by assumption) | refine ofS3 ?_ (by assumption) | refine of3 ?_ (by assumption)) | dsimp only)

theorem execEthLinkChange_tidy {pq} {port : Fin 4} {up : Bool} {speed : BitVec 2} {sqi : BitVec 3} {s : State} (hs : Tidy pq s) : TidyO pq (execEthLinkChange port up speed sqi s) := by
  unfold execEthLinkChange
  repeat' (first | with_reducible assumption | (extract_lets +onlyGivenNames zz; first | (refine (fun (hz : Tidy pq zz) => ?_) ?_; (on_goal 1 => (try clear_value zz; rename' zz => zy, hz => hy)); (on_goal 2 => subst zz)) | (refine (fun (hz : ∀ t, Tidy pq t → Tidy pq (zz t)) => ?_) ?_; (on_goal 1 => (try clear_value zz; rename' zz => zy, hz => hf)); (on_goal 2 => (subst zz; intro _ _; beta_reduce))) | (refine (fun (hz : ∀ t, Tidy pq (zz t)) => ?_) ?_; (on_goal 1 => (try clear_value zz; rename' zz => zy, hz => hf)); (on_goal 2 => (subst zz; intro _; beta_reduce))) | (try clear_value zz; rename' zz => zy)) | with_reducible (first | apply tidy_ite | apply tidyO_ite | apply idle_tidy | apply State.irq_tidy | apply State.setF_tidy | apply tidyO_next) | with_reducible (apply hf) | with_reducible (first | refine of1 ?_ (by assumption) | refine of2 ?_ (by assumption) | refine ofS ?_ (by assumption) | refine ofS1 ?_ (by assumption) | refine ofS2 ?_ (by assumption) | refine ofS3 ?_ (by assumption) | refine of3 ?_ (by assumption)) | dsimp only)

theorem execPcieSqTailWrite_tidy {pq} {req : Req} {data : Word} {s : State} (hs : Tidy pq s) : TidyO pq (execPcieSqTailWrite req data s) := by
  unfold execPcieSqTailWrite
  repeat' (first | with_reducible assumption | with_reducible intro _ | with_reducible (first | apply State.onField_tidy | apply State.setF_tidy | apply tidyO_next | apply idle_tidy))

theorem State.hostFills_tidy {pq} {s : State} {l : List (BitVec 64 × Bytes)} (hs : Tidy pq s) : Tidy pq (State.hostFills s l) := by
  unfold State.hostFills
  repeat' (first | with_reducible assumption | with_reducible intro _ | with_reducible (first | apply foldl_tidy | apply foldl_tidy1 | apply State.write_tidy) | with_reducible (apply tidy_fst; first | apply foldl_tidy1) | with_reducible (apply tidy_snd; first | apply foldl_tidy2))

theorem execPcieSqFetch_tidy {pq} {host : List (BitVec 64 × Bytes)} {s : State} (hs : Tidy pq s) : TidyO pq (execPcieSqFetch host s) := by
  unfold execPcieSqFetch
  repeat' (first | with_reducible assumption | (extract_lets +onlyGivenNames zz; first | (refine (fun (hz : Tidy pq zz) => ?_) ?_; (on_goal 1 => (try clear_value zz; rename' zz => zy, hz => hy)); (on_goal 2 => subst zz)) | (try clear_value zz; rename' zz => zy)) | with_reducible (first | apply tidy_ite | apply tidyO_ite | apply State.hostFills_tidy | apply State.enq_tidy | apply State.setF_tidy | apply tidyO_next | apply idle_tidy) | with_reducible (first | refine of1 ?_ (by assumption) | refine of2 ?_ (by assumption) | refine ofS ?_ (by assumption) | refine ofS1 ?_ (by assumption) | refine ofS2 ?_ (by assumption) | refine ofS3 ?_ (by assumption) | refine of3 ?_ (by assumption)) | dsimp only)

theorem State.pcieComplete_tidy {pq} {s : State} {buf tag status : ℕ} {ack : Bytes} (hs : Tidy pq s) : Tidy pq (State.pcieComplete s buf tag status ack) := by
  unfold State.pcieComplete
  repeat' (first | with_reducible assumption | (extract_lets +onlyGivenNames zz; first | (refine (fun (hz : Tidy pq zz) => ?_) ?_; (on_goal 1 => (try clear_value zz; rename' zz => zy, hz => hy)); (on_goal 2 => subst zz)) | (refine (fun (hz : ∀ t, Tidy pq t → Tidy pq (zz t)) => ?_) ?_; (on_goal 1 => (try clear_value zz; rename' zz => zy, hz => hf)); (on_goal 2 => (subst zz; intro _ _; beta_reduce))) | (refine (fun (hz : ∀ t, Tidy pq (zz t)) => ?_) ?_; (on_goal 1 => (try clear_value zz; rename' zz => zy, hz => hf)); (on_goal 2 => (subst zz; intro _; beta_reduce))) | (try clear_value zz; rename' zz => zy)) | with_reducible (first | apply tidy_ite | apply State.hostWrite_tidy | apply State.setF_tidy) | with_reducible (fail_if_no_progress apply tidy_mk) | with_reducible (apply hf) | with_reducible (first | refine of1 ?_ (by assumption) | refine of2 ?_ (by assumption) | refine ofS ?_ (by assumption) | refine ofS1 ?_ (by assumption) | refine ofS2 ?_ (by assumption) | refine ofS3 ?_ (by assumption) | refine of3 ?_ (by assumption)) | dsimp only)

theorem execPcieCompletionWrite_tidy {pq} {parity : ℕ} {s : State} (hs : Tidy pq s) : TidyO pq (execPcieCompletionWrite parity s) := by
  unfold execPcieCompletionWrite
  repeat' (first | with_reducible assumption | with_reducible intro _ | (extract_lets +onlyGivenNames zz; first | (refine (fun (hz : Tidy pq zz) => ?_) ?_; (on_goal 1 => (try clear_value zz; rename' zz => zy, hz => hy)); (on_goal 2 => subst zz)) | (refine (fun (hz : ∀ t, Tidy pq t → Tidy pq (zz t)) => ?_) ?_; (on_goal 1 => (try clear_value zz; rename' zz => zy, hz => hf)); (on_goal 2 => (subst zz; intro _ _; beta_reduce))) | (refine (fun (hz : ∀ t, Tidy pq (zz t)) => ?_) ?_; (on_goal 1 => (try clear_value zz; rename' zz => zy, hz => hf)); (on_goal 2 => (subst zz; intro _; beta_reduce))) | (try clear_value zz; rename' zz => zy)) | with_reducible (first | apply idle_tidy | apply State.takeAckItem_tidy | apply State.endBatch_tidy | apply State.pcieComplete_tidy | apply State.drawBytes_tidy | apply tidyO_next | apply tidy1_mk | apply tidy2_mk | apply tidyS_none | apply tidyS_some | apply tidyS1_none | apply tidyS2_none) | with_reducible (apply tidy_fst; first | apply tidy1_ite) | with_reducible (apply tidy_snd; first | apply State.drawBytes_tidy | apply tidy2_ite) | split | with_reducible (first | apply tidy_ite | apply tidyO_ite | apply tidy1_ite | apply tidy2_ite) | with_reducible (fail_if_no_progress apply tidy_mk) | with_reducible (apply hf) | with_reducible (first | refine of1 ?_ (by assumption) | refine of2 ?_ (by assumption) | refine ofS ?_ (by assumption) | refine ofS1 ?_ (by assumption) | refine ofS2 ?_ (by assumption) | refine ofS3 ?_ (by assumption) | refine of3 ?_ (by assumption)) | dsimp only)

theorem State.pcieReset_tidy {pq} {s : State} (hs : Tidy pq s) : Tidy pq (State.pcieReset s) := by
  unfold State.pcieReset
  repeat' (first | with_reducible assumption | with_reducible intro _ | (extract_lets +onlyGivenNames zz; first | (refine (fun (hz : Tidy pq zz) => ?_) ?_; (on_goal 1 => (try clear_value zz; rename' zz => zy, hz => hy)); (on_goal 2 => subst zz)) | (refine (fun (hz : ∀ t, Tidy pq t → Tidy pq (zz t)) => ?_) ?_; (on_goal 1 => (try clear_value zz; rename' zz => zy, hz => hf)); (on_goal 2 => (subst zz; intro _ _; beta_reduce))) | (refine (fun (hz : ∀ t, Tidy pq (zz t)) => ?_) ?_; (on_goal 1 => (try clear_value zz; rename' zz => zy, hz => hf)); (on_goal 2 => (subst zz; intro _; beta_reduce))) | (try clear_value zz; rename' zz => zy)) | with_reducible (first | apply foldl_tidy | apply foldl_tidy1 | apply State.count_tidy | apply State.endBatch_tidy | apply State.putQueue_tidy | apply State.setF_tidy | apply tidy1_mk | apply tidy2_mk | apply map_tidyS | apply map_tidyS_of2 | apply map_tidyS_any | apply tidyS_none | apply tidyS_some | apply tidyS1_none | apply tidyS2_none) | with_reducible (apply tidy_fst; first | apply foldl_tidy1) | with_reducible (apply tidy_snd; first | apply foldl_tidy2) | split | with_reducible (fail_if_no_progress apply tidy_mk) | with_reducible (apply hf) | with_reducible (first | refine of1 ?_ (by assumption) | refine of2 ?_ (by assumption) | refine ofS ?_ (by assumption) | refine ofS1 ?_ (by assumption) | refine ofS2 ?_ (by assumption) | refine ofS3 ?_ (by assumption) | refine of3 ?_ (by assumption)) | dsimp only)

theorem State.pcieUp_tidy {pq} {s : State} {h : PcieHost} (hs : Tidy pq s) : Tidy pq (State.pcieUp s h) := by
  unfold State.pcieUp
  repeat' (first | with_reducible assumption | (extract_lets +onlyGivenNames zz; first | (refine (fun (hz : Tidy pq zz) => ?_) ?_; (on_goal 1 => (try clear_value zz; rename' zz => zy, hz => hy)); (on_goal 2 => subst zz)) | (refine (fun (hz : ∀ t, Tidy pq t → Tidy pq (zz t)) => ?_) ?_; (on_goal 1 => (try clear_value zz; rename' zz => zy, hz => hf)); (on_goal 2 => (subst zz; intro _ _; beta_reduce))) | (refine (fun (hz : ∀ t, Tidy pq (zz t)) => ?_) ?_; (on_goal 1 => (try clear_value zz; rename' zz => zy, hz => hf)); (on_goal 2 => (subst zz; intro _; beta_reduce))) | (try clear_value zz; rename' zz => zy)) | with_reducible (first | apply State.setF_tidy) | with_reducible (fail_if_no_progress apply tidy_mk) | with_reducible (apply hf) | with_reducible (first | refine of1 ?_ (by assumption) | refine of2 ?_ (by assumption) | refine ofS ?_ (by assumption) | refine ofS1 ?_ (by assumption) | refine ofS2 ?_ (by assumption) | refine ofS3 ?_ (by assumption) | refine of3 ?_ (by assumption)) | dsimp only)

theorem execPcieLinkDown_tidy {pq} {up : Option PcieHost} {s : State} (hs : Tidy pq s) : TidyO pq (execPcieLinkDown up s) := by
  unfold execPcieLinkDown
  repeat' (first | with_reducible assumption | (extract_lets +onlyGivenNames zz; first | (refine (fun (hz : Tidy pq zz) => ?_) ?_; (on_goal 1 => (try clear_value zz; rename' zz => zy, hz => hy)); (on_goal 2 => subst zz)) | (try clear_value zz; rename' zz => zy)) | with_reducible (first | apply idle_tidy | apply State.irq_tidy | apply State.setF_tidy | apply State.pcieReset_tidy | apply State.pcieUp_tidy | apply tidyO_next | apply tidyS_none | apply tidyS_some | apply tidyS1_none | apply tidyS2_none) | split | with_reducible (first | apply tidy_ite | apply tidyO_ite) | with_reducible (fail_if_no_progress apply tidy_mk) | with_reducible (first | refine of1 ?_ (by assumption) | refine of2 ?_ (by assumption) | refine ofS ?_ (by assumption) | refine ofS1 ?_ (by assumption) | refine ofS2 ?_ (by assumption) | refine ofS3 ?_ (by assumption) | refine of3 ?_ (by assumption)) | dsimp only)

theorem execPcieHotReset_tidy {pq} {up : Option PcieHost} {s : State} (hs : Tidy pq s) : TidyO pq (execPcieHotReset up s) := by
  unfold execPcieHotReset
  repeat' (first | with_reducible assumption | (extract_lets +onlyGivenNames zz; first | (refine (fun (hz : Tidy pq zz) => ?_) ?_; (on_goal 1 => (try clear_value zz; rename' zz => zy, hz => hy)); (on_goal 2 => subst zz)) | (try clear_value zz; rename' zz => zy)) | with_reducible (first | apply idle_tidy | apply State.irq_tidy | apply State.pcieReset_tidy | apply State.pcieUp_tidy | apply tidyO_next | apply tidyS_none | apply tidyS_some | apply tidyS1_none | apply tidyS2_none) | split | with_reducible (first | apply tidy_ite | apply tidyO_ite) | with_reducible (fail_if_no_progress apply tidy_mk) | with_reducible (first | refine of1 ?_ (by assumption) | refine of2 ?_ (by assumption) | refine ofS ?_ (by assumption) | refine ofS1 ?_ (by assumption) | refine ofS2 ?_ (by assumption) | refine ofS3 ?_ (by assumption) | refine of3 ?_ (by assumption)) | dsimp only)

theorem State.mdioGo_tidy {pq} {s : State} {req : Req} {op phy reg data : ℕ} (hs : Tidy pq s) : Tidy pq (State.mdioGo s req op phy reg data) := by
  unfold State.mdioGo
  repeat' (first | with_reducible assumption | with_reducible intro _ | (extract_lets +onlyGivenNames zz; first | (refine (fun (hz : Tidy pq zz) => ?_) ?_; (on_goal 1 => (try clear_value zz; rename' zz => zy, hz => hy)); (on_goal 2 => subst zz)) | (refine (fun (hz : ∀ t, Tidy pq t → Tidy pq (zz t)) => ?_) ?_; (on_goal 1 => (try clear_value zz; rename' zz => zy, hz => hf)); (on_goal 2 => (subst zz; intro _ _; beta_reduce))) | (refine (fun (hz : ∀ t, Tidy pq (zz t)) => ?_) ?_; (on_goal 1 => (try clear_value zz; rename' zz => zy, hz => hf)); (on_goal 2 => (subst zz; intro _; beta_reduce))) | (try clear_value zz; rename' zz => zy)) | with_reducible (first | apply tidy_ite | apply State.onField_tidy | apply State.refuseAt_tidy | apply State.setF_tidy | apply State.emit_tidy) | with_reducible (apply hf) | with_reducible (first | refine of1 ?_ (by assumption) | refine of2 ?_ (by assumption) | refine ofS ?_ (by assumption) | refine ofS1 ?_ (by assumption) | refine ofS2 ?_ (by assumption) | refine ofS3 ?_ (by assumption) | refine of3 ?_ (by assumption)) | dsimp only)

theorem execMdioWrite_tidy {pq} {req : Req} {phy reg : BitVec 5} {data : BitVec 16} {s : State} (hs : Tidy pq s) : TidyO pq (execMdioWrite req phy reg data s) := by
  unfold execMdioWrite
  repeat' (first | with_reducible assumption | with_reducible (first | apply State.mdioGo_tidy | apply tidyO_next | apply idle_tidy))

theorem execMdioRead_tidy {pq} {req : Req} {phy reg : BitVec 5} {data : BitVec 16} {s : State} (hs : Tidy pq s) : TidyO pq (execMdioRead req phy reg data s) := by
  unfold execMdioRead
  repeat' (first | with_reducible assumption | with_reducible (first | apply State.mdioGo_tidy | apply tidyO_next | apply idle_tidy))

theorem execMdioFrameDone_tidy {pq} {driven : Bool} {data : BitVec 16} {s : State} (hs : Tidy pq s) : TidyO pq (execMdioFrameDone driven data s) := by
  unfold execMdioFrameDone
  repeat' (first | with_reducible assumption | (extract_lets +onlyGivenNames zz; first | (refine (fun (hz : Tidy pq zz) => ?_) ?_; (on_goal 1 => (try clear_value zz; rename' zz => zy, hz => hy)); (on_goal 2 => subst zz)) | (refine (fun (hz : ∀ t, Tidy pq t → Tidy pq (zz t)) => ?_) ?_; (on_goal 1 => (try clear_value zz; rename' zz => zy, hz => hf)); (on_goal 2 => (subst zz; intro _ _; beta_reduce))) | (refine (fun (hz : ∀ t, Tidy pq (zz t)) => ?_) ?_; (on_goal 1 => (try clear_value zz; rename' zz => zy, hz => hf)); (on_goal 2 => (subst zz; intro _; beta_reduce))) | (try clear_value zz; rename' zz => zy)) | with_reducible (first | apply tidy_ite | apply tidyO_ite | apply idle_tidy | apply State.setF_tidy | apply tidyO_next) | with_reducible (apply hf) | with_reducible (first | refine of1 ?_ (by assumption) | refine of2 ?_ (by assumption) | refine ofS ?_ (by assumption) | refine ofS1 ?_ (by assumption) | refine ofS2 ?_ (by assumption) | refine ofS3 ?_ (by assumption) | refine of3 ?_ (by assumption)) | dsimp only)

end Sys2Proof.Machine
end

