-- ==== Sys2Proof/Laws/TidyTwins.lean ====
section
/-! SUPPORT. Tidy states stay tidy: the operations of Tongs, Twin, TwinRx, EvrOps, Evr, Replay, UpdCheck, BootOps. One lemma for each operation, proved from the lemmas of the operations it calls. -/

set_option linter.unusedVariables false
set_option linter.unusedTactic false
set_option linter.unreachableTactic false
set_option linter.tactic.unusedName false

namespace Sys2Proof.Machine

/-! ## Tongs -/

theorem State.sendLink_tidy {pq} {s : State} {key body : Bytes} {n : ℕ} (hs : Tidy pq s) : Tidy pq (State.sendLink s key body n) := by
  unfold State.sendLink
  repeat' (first | with_reducible assumption | (extract_lets +onlyGivenNames zz; first | (refine (fun (hz : Tidy pq zz) => ?_) ?_; (on_goal 1 => (try clear_value zz; rename' zz => zy, hz => hy)); (on_goal 2 => subst zz)) | (try clear_value zz; rename' zz => zy)) | with_reducible (first | apply State.emit_tidy | apply tidy1_mk | apply tidy2_mk) | with_reducible (fail_if_no_progress apply tidy_mk) | with_reducible (first | refine of1 ?_ (by assumption) | refine of2 ?_ (by assumption) | refine ofS ?_ (by assumption) | refine ofS1 ?_ (by assumption) | refine ofS2 ?_ (by assumption) | refine ofS3 ?_ (by assumption) | refine of3 ?_ (by assumption)) | dsimp only)

theorem State.sendMeasure_tidy {pq} {s : State} (hs : Tidy pq s) : Tidy pq (State.sendMeasure s) := by
  unfold State.sendMeasure
  repeat' (first | with_reducible assumption | with_reducible (first | apply State.sendLink_tidy | apply tidyS_none | apply tidyS_some | apply tidyS1_none | apply tidyS2_none) | split | with_reducible (first | apply tidy_ite) | with_reducible (fail_if_no_progress apply tidy_mk) | with_reducible (first | refine of1 ?_ (by assumption) | refine of2 ?_ (by assumption) | refine ofS ?_ (by assumption) | refine ofS1 ?_ (by assumption) | refine ofS2 ?_ (by assumption) | refine ofS3 ?_ (by assumption) | refine of3 ?_ (by assumption)) | dsimp only)

theorem State.copiedTo_tidy {pq} {s : State} {aa : SyncUnit} (hs : Tidy pq s) : Tidy pq (State.copiedTo s aa) := by
  unfold State.copiedTo
  repeat' (first | with_reducible assumption | with_reducible (first | apply State.setF_tidy) | split | with_reducible (fail_if_no_progress apply tidy_mk) | with_reducible (first | refine of1 ?_ (by assumption) | refine of2 ?_ (by assumption) | refine ofS ?_ (by assumption) | refine ofS1 ?_ (by assumption) | refine ofS2 ?_ (by assumption) | refine ofS3 ?_ (by assumption) | refine of3 ?_ (by assumption)) | dsimp only)

theorem State.pumpLink_tidy {pq} {s : State} (hs : Tidy pq s) : Tidy pq (State.pumpLink s) := by
  unfold State.pumpLink
  repeat' (first | with_reducible assumption | with_reducible intro _ | (extract_lets +onlyGivenNames zz; first | (refine (fun (hz : Tidy pq zz) => ?_) ?_; (on_goal 1 => (try clear_value zz; rename' zz => zy, hz => hy)); (on_goal 2 => subst zz)) | (refine (fun (hz : ∀ t, Tidy pq t → Tidy pq (zz t)) => ?_) ?_; (on_goal 1 => (try clear_value zz; rename' zz => zy, hz => hf)); (on_goal 2 => (subst zz; intro _ _; beta_reduce))) | (refine (fun (hz : ∀ t, Tidy pq (zz t)) => ?_) ?_; (on_goal 1 => (try clear_value zz; rename' zz => zy, hz => hf)); (on_goal 2 => (subst zz; intro _; beta_reduce))) | (try clear_value zz; rename' zz => zy)) | with_reducible (first | apply foldl_tidy | apply foldl_tidy1 | apply State.sendLink_tidy | apply State.copiedTo_tidy | apply State.poisoned_tidy | apply State.setQueue_tidy | apply tidy1_mk | apply tidy2_mk | apply tidyS_none | apply tidyS_some | apply tidyS1_none | apply tidyS2_none) | with_reducible (apply tidy_fst; first | apply foldl_tidy1) | with_reducible (apply tidy_snd; first | apply foldl_tidy2) | split | with_reducible (first | apply tidy_ite) | with_reducible (fail_if_no_progress apply tidy_mk) | with_reducible (apply hf) | with_reducible (first | refine of1 ?_ (by assumption) | refine of2 ?_ (by assumption) | refine ofS ?_ (by assumption) | refine ofS1 ?_ (by assumption) | refine ofS2 ?_ (by assumption) | refine ofS3 ?_ (by assumption) | refine of3 ?_ (by assumption)) | dsimp only)

theorem execTongsRetransmit_tidy {pq} {s : State} (hs : Tidy pq s) : TidyO pq (execTongsRetransmit s) := by
  unfold execTongsRetransmit
  repeat' (first | with_reducible assumption | with_reducible intro _ | (extract_lets +onlyGivenNames zz; first | (refine (fun (hz : Tidy pq zz) => ?_) ?_; (on_goal 1 => (try clear_value zz; rename' zz => zy, hz => hy)); (on_goal 2 => subst zz)) | (try clear_value zz; rename' zz => zy)) | with_reducible (first | apply foldl_tidy | apply foldl_tidy1 | apply idle_tidy | apply State.count_tidy | apply State.emit_tidy | apply tidyO_next | apply tidy1_mk | apply tidy2_mk | apply map_tidyS | apply map_tidyS_of2 | apply map_tidyS_any) | with_reducible (apply tidy_fst; first | apply foldl_tidy1) | with_reducible (apply tidy_snd; first | apply foldl_tidy2) | split | with_reducible (first | apply tidy_ite | apply tidyO_ite) | with_reducible (fail_if_no_progress apply tidy_mk) | with_reducible (first | refine of1 ?_ (by assumption) | refine of2 ?_ (by assumption) | refine ofS ?_ (by assumption) | refine ofS1 ?_ (by assumption) | refine ofS2 ?_ (by assumption) | refine ofS3 ?_ (by assumption) | refine of3 ?_ (by assumption)) | dsimp only)

theorem State.heardOn_tidy {pq} {s : State} {path : ℕ} {real : Bool} (hs : Tidy pq s) : Tidy pq (State.heardOn s path real) := by
  unfold State.heardOn
  repeat' (first | with_reducible assumption | (extract_lets +onlyGivenNames zz; first | (refine (fun (hz : Tidy pq zz) => ?_) ?_; (on_goal 1 => (try clear_value zz; rename' zz => zy, hz => hy)); (on_goal 2 => subst zz)) | (try clear_value zz; rename' zz => zy)) | with_reducible (first | apply State.setF_tidy | apply State.judgeAcks_tidy | apply tidy1_mk | apply tidy2_mk) | split | with_reducible (first | apply tidy_ite) | with_reducible (fail_if_no_progress apply tidy_mk) | with_reducible (first | refine of1 ?_ (by assumption) | refine of2 ?_ (by assumption) | refine ofS ?_ (by assumption) | refine ofS1 ?_ (by assumption) | refine ofS2 ?_ (by assumption) | refine ofS3 ?_ (by assumption) | refine of3 ?_ (by assumption)) | dsimp only)

theorem State.keptAlive_tidy {pq} {s : State} (hs : Tidy pq s) : Tidy pq (State.keptAlive s) := by
  unfold State.keptAlive
  repeat' (first | with_reducible assumption | (extract_lets +onlyGivenNames zz; first | (refine (fun (hz : Tidy pq zz) => ?_) ?_; (on_goal 1 => (try clear_value zz; rename' zz => zy, hz => hy)); (on_goal 2 => subst zz)) | (try clear_value zz; rename' zz => zy)) | with_reducible (first | apply tidy_ite | apply State.heardOn_tidy) | with_reducible (fail_if_no_progress apply tidy_mk) | with_reducible (first | refine of1 ?_ (by assumption) | refine of2 ?_ (by assumption) | refine ofS ?_ (by assumption) | refine ofS1 ?_ (by assumption) | refine ofS2 ?_ (by assumption) | refine ofS3 ?_ (by assumption) | refine of3 ?_ (by assumption)) | dsimp only)

theorem execTongsKeepalive_tidy {pq} {received : Bool} {s : State} (hs : Tidy pq s) : TidyO pq (execTongsKeepalive received s) := by
  unfold execTongsKeepalive
  repeat' (first | with_reducible assumption | with_reducible intro _ | (extract_lets +onlyGivenNames zz; first | (refine (fun (hz : Tidy pq zz) => ?_) ?_; (on_goal 1 => (try clear_value zz; rename' zz => zy, hz => hy)); (on_goal 2 => subst zz)) | (try clear_value zz; rename' zz => zy)) | with_reducible (first | apply idle_tidy | apply State.settling_tidy | apply State.keptAlive_tidy | apply State.sendLink_tidy | apply tidyO_next | apply tidyS_none | apply tidyS_some | apply tidyS1_none | apply tidyS2_none) | split | with_reducible (first | apply tidy_ite | apply tidyO_ite) | with_reducible (fail_if_no_progress apply tidy_mk) | with_reducible (first | refine of1 ?_ (by assumption) | refine of2 ?_ (by assumption) | refine ofS ?_ (by assumption) | refine ofS1 ?_ (by assumption) | refine ofS2 ?_ (by assumption) | refine ofS3 ?_ (by assumption) | refine of3 ?_ (by assumption)) | dsimp only)

theorem State.onLink_tidy {pq} {s : State} {k : State → State} (hs : Tidy pq s) (hk : ∀ t, Tidy pq t → Tidy pq (k t)) : TidyO pq (State.onLink s k) := by
  unfold State.onLink
  repeat' (first | with_reducible assumption | with_reducible intro _ | with_reducible (first | apply tidy_ite | apply tidyO_ite | apply State.settling_tidy | apply State.heardOn_tidy | apply idle_tidy | apply tidyO_next) | with_reducible (first | apply hk))

theorem State.ackLink_tidy {pq} {s : State} (hs : Tidy pq s) : Tidy pq (State.ackLink s) := by
  unfold State.ackLink
  repeat' (first | with_reducible assumption | (extract_lets +onlyGivenNames zz; first | (refine (fun (hz : Tidy pq zz) => ?_) ?_; (on_goal 1 => (try clear_value zz; rename' zz => zy, hz => hy)); (on_goal 2 => subst zz)) | (try clear_value zz; rename' zz => zy)) | with_reducible (first | apply State.emit_tidy) | with_reducible (fail_if_no_progress apply tidy_mk) | with_reducible (first | refine of1 ?_ (by assumption) | refine of2 ?_ (by assumption) | refine ofS ?_ (by assumption) | refine ofS1 ?_ (by assumption) | refine ofS2 ?_ (by assumption) | refine ofS3 ?_ (by assumption) | refine of3 ?_ (by assumption)) | dsimp only)

theorem State.onRecord_tidy {pq} {s : State} {k : State → State} (hs : Tidy pq s) (hk : ∀ t, Tidy pq t → Tidy pq (k t)) : TidyO pq (State.onRecord s k) := by
  unfold State.onRecord
  repeat' (first | with_reducible assumption | with_reducible intro _ | with_reducible (first | apply State.onLink_tidy | apply State.ackLink_tidy | apply tidyO_next | apply idle_tidy) | with_reducible (first | apply hk))

theorem execTongsLinkAck_tidy {pq} {link : Word} {applied : BitVec 48} {parity : ℕ} {s : State} (hs : Tidy pq s) : TidyO pq (execTongsLinkAck link applied parity s) := by
  unfold execTongsLinkAck
  repeat' (first | with_reducible assumption | with_reducible intro _ | (extract_lets +onlyGivenNames zz; first | (refine (fun (hz : Tidy pq zz) => ?_) ?_; (on_goal 1 => (try clear_value zz; rename' zz => zy, hz => hy)); (on_goal 2 => subst zz)) | (refine (fun (hz : ∀ t, Tidy pq t → Tidy pq (zz t)) => ?_) ?_; (on_goal 1 => (try clear_value zz; rename' zz => zy, hz => hf)); (on_goal 2 => (subst zz; intro _ _; beta_reduce))) | (refine (fun (hz : ∀ t, Tidy pq (zz t)) => ?_) ?_; (on_goal 1 => (try clear_value zz; rename' zz => zy, hz => hf)); (on_goal 2 => (subst zz; intro _; beta_reduce))) | (try clear_value zz; rename' zz => zy)) | with_reducible (first | apply tidy_ite | apply tidyO_ite | apply State.onLink_tidy | apply State.creditBack_tidy | apply State.badWords_tidy | apply State.set2_tidy | apply tidyO_next | apply idle_tidy | apply map_tidyS | apply map_tidyS_of2 | apply map_tidyS_any) | with_reducible (fail_if_no_progress apply tidy_mk) | with_reducible (apply hf) | with_reducible (first | refine of1 ?_ (by assumption) | refine of2 ?_ (by assumption) | refine ofS ?_ (by assumption) | refine ofS1 ?_ (by assumption) | refine ofS2 ?_ (by assumption) | refine ofS3 ?_ (by assumption) | refine of3 ?_ (by assumption)) | dsimp only)

theorem execTongsLaneFail_tidy {pq} {lane : Fin 2} {up : Bool} {s : State} (hs : Tidy pq s) : TidyO pq (execTongsLaneFail lane up s) := by
  unfold execTongsLaneFail
  repeat' (first | with_reducible assumption | with_reducible intro _ | (extract_lets +onlyGivenNames zz; first | (refine (fun (hz : Tidy pq zz) => ?_) ?_; (on_goal 1 => (try clear_value zz; rename' zz => zy, hz => hy)); (on_goal 2 => subst zz)) | (try clear_value zz; rename' zz => zy)) | with_reducible (first | apply tidy_ite | apply tidyO_ite | apply State.settling_tidy | apply State.setF_tidy | apply tidyO_next | apply idle_tidy) | with_reducible (fail_if_no_progress apply tidy_mk) | with_reducible (first | refine of1 ?_ (by assumption) | refine of2 ?_ (by assumption) | refine ofS ?_ (by assumption) | refine ofS1 ?_ (by assumption) | refine ofS2 ?_ (by assumption) | refine ofS3 ?_ (by assumption) | refine of3 ?_ (by assumption)) | dsimp only)

theorem execTwinPathDown_tidy {pq} {path : Fin 3} {s : State} (hs : Tidy pq s) : TidyO pq (execTwinPathDown path s) := by
  unfold execTwinPathDown
  repeat' (first | with_reducible assumption | (extract_lets +onlyGivenNames zz; first | (refine (fun (hz : Tidy pq zz) => ?_) ?_; (on_goal 1 => (try clear_value zz; rename' zz => zy, hz => hy)); (on_goal 2 => subst zz)) | (try clear_value zz; rename' zz => zy)) | with_reducible (first | apply tidy_ite | apply tidyO_ite | apply tidyS_ite | apply State.judgeAcks_tidy | apply State.irq_tidy | apply State.setF_tidy | apply idle_tidy | apply tidyO_next | apply tidy_getD) | with_reducible (first | refine of1 ?_ (by assumption) | refine of2 ?_ (by assumption) | refine ofS ?_ (by assumption) | refine ofS1 ?_ (by assumption) | refine ofS2 ?_ (by assumption) | refine ofS3 ?_ (by assumption) | refine of3 ?_ (by assumption)) | dsimp only)

theorem State.sendNotice_tidy {pq} {s : State} {kind ctr paths : Nat} (hs : Tidy pq s) : Tidy pq (State.sendNotice s kind ctr paths) := by
  unfold State.sendNotice
  split
  · exact hs
  · extract_lets +onlyGivenNames iv b c src t u v
    have ht : Tidy pq t := tidy_mk hs
    have hu : Tidy pq u := tidy_ite (State.emit_tidy ht) ht
    have hv : Tidy pq v := tidy_ite (State.ethSend_tidy hu) hu
    exact tidy_ite (State.ethSend_tidy hv) hv


/-! ## Twin -/

theorem State.stepDown_tidy {pq} {s : State} (hs : Tidy pq s) : Tidy pq (State.stepDown s) := by
  unfold State.stepDown
  repeat' (first | with_reducible assumption | with_reducible (first | apply State.desync_tidy | apply State.sendNotice_tidy))

theorem State.twinOn_tidy {pq} {s : State} (hs : Tidy pq s) : Tidy pq (State.twinOn s) := by
  unfold State.twinOn
  repeat' (first | with_reducible assumption | (extract_lets +onlyGivenNames zz; first | (refine (fun (hz : Tidy pq zz) => ?_) ?_; (on_goal 1 => (try clear_value zz; rename' zz => zy, hz => hy)); (on_goal 2 => subst zz)) | (try clear_value zz; rename' zz => zy)) | with_reducible (first | apply tidy_ite | apply State.setF_tidy | apply State.twinTo_tidy) | with_reducible (first | refine of1 ?_ (by assumption) | refine of2 ?_ (by assumption) | refine ofS ?_ (by assumption) | refine ofS1 ?_ (by assumption) | refine ofS2 ?_ (by assumption) | refine ofS3 ?_ (by assumption) | refine of3 ?_ (by assumption)) | dsimp only)

theorem execTwinEnable_tidy {pq} {req : Req} {s : State} (hs : Tidy pq s) : TidyO pq (execTwinEnable req s) := by
  unfold execTwinEnable
  repeat' (first | with_reducible assumption | with_reducible intro _ | with_reducible (first | apply tidy_ite | apply tidyO_ite | apply State.onT_tidy | apply State.refuseAt_tidy | apply State.settling_tidy | apply State.twinOn_tidy | apply tidyO_next | apply idle_tidy) | with_reducible (fail_if_no_progress apply tidy_mk))

theorem State.twinOff_tidy {pq} {s : State} (hs : Tidy pq s) : Tidy pq (State.twinOff s) := by
  unfold State.twinOff
  repeat' (first | with_reducible assumption | with_reducible (first | apply State.twinTo_tidy | apply State.setF_tidy))

theorem execTwinDisable_tidy {pq} {req : Req} {s : State} (hs : Tidy pq s) : TidyO pq (execTwinDisable req s) := by
  unfold execTwinDisable
  repeat' (first | with_reducible assumption | with_reducible intro _ | with_reducible (first | apply State.onT_tidy | apply State.settling_tidy | apply State.twinOff_tidy | apply tidyO_next | apply idle_tidy) | with_reducible (fail_if_no_progress apply tidy_mk))

theorem State.activeAlone_tidy {pq} {s : State} (hs : Tidy pq s) : Tidy pq (State.activeAlone s) := by
  unfold State.activeAlone
  repeat' (first | with_reducible assumption | with_reducible (first | apply State.setPaired_tidy | apply State.twinTo_tidy))

theorem execTwinSeekTimeout_tidy {pq} {s : State} (hs : Tidy pq s) : TidyO pq (execTwinSeekTimeout s) := by
  unfold execTwinSeekTimeout
  repeat' (first | with_reducible assumption | with_reducible intro _ | with_reducible (first | apply tidy_ite | apply tidyO_ite | apply State.settling_tidy | apply State.activeAlone_tidy | apply idle_tidy | apply tidyO_next) | with_reducible (fail_if_no_progress apply tidy_mk))

theorem State.dualActive_tidy {pq} {s : State} {durable : ℕ} {prefer : Bool} {ident : ℕ} (hs : Tidy pq s) : Tidy pq (State.dualActive s durable prefer ident) := by
  unfold State.dualActive
  repeat' (first | with_reducible assumption | (extract_lets +onlyGivenNames zz; first | (refine (fun (hz : Tidy pq zz) => ?_) ?_; (on_goal 1 => (try clear_value zz; rename' zz => zy, hz => hy)); (on_goal 2 => subst zz)) | (refine (fun (hz : ∀ t, Tidy pq t → Tidy pq (zz t)) => ?_) ?_; (on_goal 1 => (try clear_value zz; rename' zz => zy, hz => hf)); (on_goal 2 => (subst zz; intro _ _; beta_reduce))) | (refine (fun (hz : ∀ t, Tidy pq (zz t)) => ?_) ?_; (on_goal 1 => (try clear_value zz; rename' zz => zy, hz => hf)); (on_goal 2 => (subst zz; intro _; beta_reduce))) | (try clear_value zz; rename' zz => zy)) | with_reducible (first | apply tidy_ite | apply State.event_tidy | apply State.irq_tidy | apply State.stepDown_tidy | apply tidy1_mk | apply tidy2_mk) | with_reducible (apply hf) | with_reducible (first | refine of1 ?_ (by assumption) | refine of2 ?_ (by assumption) | refine ofS ?_ (by assumption) | refine ofS1 ?_ (by assumption) | refine ofS2 ?_ (by assumption) | refine ofS3 ?_ (by assumption) | refine of3 ?_ (by assumption)) | dsimp only)

theorem State.takeHello_tidy {pq} {s : State} {ident durable : ℕ} {prefer : Bool} {role : ℕ} (hs : Tidy pq s) : Tidy pq (State.takeHello s ident durable prefer role) := by
  unfold State.takeHello
  repeat' (first | with_reducible assumption | (extract_lets +onlyGivenNames zz; first | (refine (fun (hz : Tidy pq zz) => ?_) ?_; (on_goal 1 => (try clear_value zz; rename' zz => zy, hz => hy)); (on_goal 2 => subst zz)) | (try clear_value zz; rename' zz => zy)) | with_reducible (first | apply State.setF_tidy | apply State.twinTo_tidy | apply State.activeAlone_tidy | apply State.dualActive_tidy | apply State.setPaired_tidy | apply State.dropLink_tidy | apply tidy1_mk | apply tidy2_mk | apply tidyS_none | apply tidyS_some | apply tidyS1_none | apply tidyS2_none) | split | with_reducible (first | apply tidy_ite) | with_reducible (fail_if_no_progress apply tidy_mk) | with_reducible (first | refine of1 ?_ (by assumption) | refine of2 ?_ (by assumption) | refine ofS ?_ (by assumption) | refine ofS1 ?_ (by assumption) | refine ofS2 ?_ (by assumption) | refine ofS3 ?_ (by assumption) | refine of3 ?_ (by assumption)) | dsimp only)

theorem execTwinHello_tidy {pq} {ident : BitVec 45} {durable : BitVec 48} {prefer : Bool} {role : BitVec 3} {s : State} (hs : Tidy pq s) : TidyO pq (execTwinHello ident durable prefer role s) := by
  unfold execTwinHello
  repeat' (first | with_reducible assumption | with_reducible intro _ | with_reducible (first | apply tidy_ite | apply tidyO_ite | apply idle_tidy | apply State.onLink_tidy | apply State.refuse_tidy | apply State.takeHello_tidy | apply tidyO_next))

theorem State.offer_tidy {pq} {s : State} (hs : Tidy pq s) : Tidy pq (State.offer s) := by
  unfold State.offer
  repeat' (first | with_reducible assumption | (extract_lets +onlyGivenNames zz; first | (refine (fun (hz : Tidy pq zz) => ?_) ?_; (on_goal 1 => (try clear_value zz; rename' zz => zy, hz => hy)); (on_goal 2 => subst zz)) | (try clear_value zz; rename' zz => zy)) | with_reducible (first | apply tidy_ite | apply tidy1_ite | apply tidy2_ite | apply State.drawBytes_tidy | apply State.emit_tidy | apply State.ethSend_tidy | apply tidy1_mk | apply tidy2_mk) | with_reducible (apply tidy_fst; first | apply tidy1_ite) | with_reducible (apply tidy_snd; first | apply State.drawBytes_tidy | apply tidy2_ite) | with_reducible (fail_if_no_progress apply tidy_mk) | with_reducible (first | refine of1 ?_ (by assumption) | refine of2 ?_ (by assumption) | refine ofS ?_ (by assumption) | refine ofS1 ?_ (by assumption) | refine ofS2 ?_ (by assumption) | refine ofS3 ?_ (by assumption) | refine of3 ?_ (by assumption)) | dsimp only)

theorem execTwinMeeting_tidy {pq} {s : State} (hs : Tidy pq s) : TidyO pq (execTwinMeeting s) := by
  unfold execTwinMeeting
  repeat' (first | with_reducible assumption | with_reducible (first | apply tidy_ite | apply tidyO_ite | apply idle_tidy | apply State.offer_tidy | apply tidyO_next | apply tidy1_mk | apply tidy2_mk) | with_reducible (fail_if_no_progress apply tidy_mk))

theorem State.takePairKey_tidy {pq} {s : State} {key : Bytes} (hs : Tidy pq s) : Tidy pq (State.takePairKey s key) := by
  unfold State.takePairKey
  repeat' (first | with_reducible assumption | (extract_lets +onlyGivenNames zz; first | (refine (fun (hz : Tidy pq zz) => ?_) ?_; (on_goal 1 => (try clear_value zz; rename' zz => zy, hz => hy)); (on_goal 2 => subst zz)) | (try clear_value zz; rename' zz => zy)) | with_reducible (first | apply State.loadSlot_tidy | apply State.dropLink_tidy | apply tidy1_mk | apply tidy2_mk) | with_reducible (fail_if_no_progress apply tidy_mk) | with_reducible (first | refine of1 ?_ (by assumption) | refine of2 ?_ (by assumption) | refine ofS ?_ (by assumption) | refine ofS1 ?_ (by assumption) | refine ofS2 ?_ (by assumption) | refine ofS3 ?_ (by assumption) | refine of3 ?_ (by assumption)) | dsimp only)

theorem execTwinKeyOfferRx_tidy {pq} {path : Fin 3} {pub nonce : Bytes} {ident : BitVec 45} {durable : BitVec 48} {prefer : Bool} {role : BitVec 3} {valid : Bool} {s : State} (hs : Tidy pq s) : TidyO pq (execTwinKeyOfferRx path pub nonce ident durable prefer role valid s) := by
  unfold execTwinKeyOfferRx
  repeat' (first | with_reducible assumption | with_reducible intro _ | (extract_lets +onlyGivenNames zz; first | (refine (fun (hz : Tidy pq zz) => ?_) ?_; (on_goal 1 => (try clear_value zz; rename' zz => zy, hz => hy)); (on_goal 2 => subst zz)) | (try clear_value zz; rename' zz => zy)) | with_reducible (first | apply tidy_ite | apply tidyO_ite | apply idle_tidy | apply State.refuse_tidy | apply State.offer_tidy | apply State.settling_tidy | apply State.heardOn_tidy | apply State.takePairKey_tidy | apply State.takeHello_tidy | apply tidyO_next) | with_reducible (fail_if_no_progress apply tidy_mk) | with_reducible (first | refine of1 ?_ (by assumption) | refine of2 ?_ (by assumption) | refine ofS ?_ (by assumption) | refine ofS1 ?_ (by assumption) | refine ofS2 ?_ (by assumption) | refine ofS3 ?_ (by assumption) | refine of3 ?_ (by assumption)) | dsimp only)

theorem execTwinLeaseRenew_tidy {pq} {s : State} (hs : Tidy pq s) : TidyO pq (execTwinLeaseRenew s) := by
  unfold execTwinLeaseRenew
  repeat' (first | with_reducible assumption | (extract_lets +onlyGivenNames zz; first | (refine (fun (hz : Tidy pq zz) => ?_) ?_; (on_goal 1 => (try clear_value zz; rename' zz => zy, hz => hy)); (on_goal 2 => subst zz)) | (try clear_value zz; rename' zz => zy)) | with_reducible (first | apply idle_tidy | apply State.sendNotice_tidy | apply tidyO_next | apply tidy1_mk | apply tidy2_mk) | with_reducible (apply tidy_fst; first | apply tidy1_ite) | with_reducible (apply tidy_snd; first | apply tidy2_ite) | split | with_reducible (first | apply tidy_ite | apply tidyO_ite | apply tidy1_ite | apply tidy2_ite) | with_reducible (fail_if_no_progress apply tidy_mk) | with_reducible (first | refine of1 ?_ (by assumption) | refine of2 ?_ (by assumption) | refine ofS ?_ (by assumption) | refine ofS1 ?_ (by assumption) | refine ofS2 ?_ (by assumption) | refine ofS3 ?_ (by assumption) | refine of3 ?_ (by assumption)) | dsimp only)

theorem execTwinLeaseReqRx_tidy {pq} {path : Fin 3} {counter : BitVec 64} {authentic : Bool} {s : State} (hs : Tidy pq s) : TidyO pq (execTwinLeaseReqRx path counter authentic s) := by
  unfold execTwinLeaseReqRx
  repeat' (first | with_reducible assumption | (extract_lets +onlyGivenNames zz; first | (refine (fun (hz : Tidy pq zz) => ?_) ?_; (on_goal 1 => (try clear_value zz; rename' zz => zy, hz => hy)); (on_goal 2 => subst zz)) | (try clear_value zz; rename' zz => zy)) | with_reducible (first | apply tidy_ite | apply tidyO_ite | apply idle_tidy | apply State.heardOn_tidy | apply State.sendNotice_tidy | apply tidyO_next | apply tidy1_mk | apply tidy2_mk) | with_reducible (fail_if_no_progress apply tidy_mk) | with_reducible (first | refine of1 ?_ (by assumption) | refine of2 ?_ (by assumption) | refine ofS ?_ (by assumption) | refine ofS1 ?_ (by assumption) | refine ofS2 ?_ (by assumption) | refine ofS3 ?_ (by assumption) | refine of3 ?_ (by assumption)) | dsimp only)

theorem execTwinLeaseGrantRx_tidy {pq} {path : Fin 3} {counter : BitVec 64} {fromStandby authentic : Bool} {s : State} (hs : Tidy pq s) : TidyO pq (execTwinLeaseGrantRx path counter fromStandby authentic s) := by
  unfold execTwinLeaseGrantRx
  repeat' (first | with_reducible assumption | with_reducible intro _ | (extract_lets +onlyGivenNames zz; first | (refine (fun (hz : Tidy pq zz) => ?_) ?_; (on_goal 1 => (try clear_value zz; rename' zz => zy, hz => hy)); (on_goal 2 => subst zz)) | (try clear_value zz; rename' zz => zy)) | with_reducible (first | apply idle_tidy | apply State.heardOn_tidy | apply State.settling_tidy | apply State.setPaired_tidy | apply State.twinTo_tidy | apply tidyO_next | apply tidy1_mk | apply tidy2_mk | apply tidyS_none | apply tidyS_some | apply tidyS1_none | apply tidyS2_none) | with_reducible (apply tidy_fst; first | apply tidy1_ite) | with_reducible (apply tidy_snd; first | apply tidy2_ite) | split | with_reducible (first | apply tidy_ite | apply tidyO_ite | apply tidy1_ite | apply tidy2_ite) | with_reducible (fail_if_no_progress apply tidy_mk) | with_reducible (first | refine of1 ?_ (by assumption) | refine of2 ?_ (by assumption) | refine ofS ?_ (by assumption) | refine ofS1 ?_ (by assumption) | refine ofS2 ?_ (by assumption) | refine ofS3 ?_ (by assumption) | refine of3 ?_ (by assumption)) | dsimp only)

theorem execTwinLeaseExpiry_tidy {pq} {s : State} (hs : Tidy pq s) : TidyO pq (execTwinLeaseExpiry s) := by
  unfold execTwinLeaseExpiry
  repeat' (first | with_reducible assumption | with_reducible intro _ | with_reducible (first | apply tidy_ite | apply tidyO_ite | apply State.settling_tidy | apply State.twinTo_tidy | apply idle_tidy | apply tidyO_next))

theorem execTwinFencedNotice_tidy {pq} {s : State} (hs : Tidy pq s) : TidyO pq (execTwinFencedNotice s) := by
  unfold execTwinFencedNotice
  repeat' (first | with_reducible assumption | with_reducible (first | apply tidy_ite | apply tidyO_ite | apply State.sendNotice_tidy | apply idle_tidy | apply tidyO_next) | with_reducible (fail_if_no_progress apply tidy_mk))

theorem execTwinNoticeRx_tidy {pq} {path : Fin 3} {kind : TwinNotice} {authentic : Bool} {s : State} (hs : Tidy pq s) : TidyO pq (execTwinNoticeRx path kind authentic s) := by
  unfold execTwinNoticeRx
  repeat' (first | with_reducible assumption | with_reducible intro _ | (extract_lets +onlyGivenNames zz; first | (refine (fun (hz : Tidy pq zz) => ?_) ?_; (on_goal 1 => (try clear_value zz; rename' zz => zy, hz => hy)); (on_goal 2 => subst zz)) | (refine (fun (hz : ∀ t, Tidy pq t → Tidy pq (zz t)) => ?_) ?_; (on_goal 1 => (try clear_value zz; rename' zz => zy, hz => hf)); (on_goal 2 => (subst zz; intro _ _; beta_reduce))) | (refine (fun (hz : ∀ t, Tidy pq (zz t)) => ?_) ?_; (on_goal 1 => (try clear_value zz; rename' zz => zy, hz => hf)); (on_goal 2 => (subst zz; intro _; beta_reduce))) | (try clear_value zz; rename' zz => zy)) | with_reducible (first | apply idle_tidy | apply State.setF_tidy | apply State.heardOn_tidy | apply State.settling_tidy | apply State.setPaired_tidy | apply State.stepDown_tidy | apply tidyO_next) | split | with_reducible (first | apply tidy_ite | apply tidyO_ite) | with_reducible (fail_if_no_progress apply tidy_mk) | with_reducible (apply hf) | with_reducible (first | refine of1 ?_ (by assumption) | refine of2 ?_ (by assumption) | refine ofS ?_ (by assumption) | refine ofS1 ?_ (by assumption) | refine ofS2 ?_ (by assumption) | refine ofS3 ?_ (by assumption) | refine of3 ?_ (by assumption)) | dsimp only)

theorem State.closeNow_tidy {pq} {s : State} (hs : Tidy pq s) : Tidy pq (State.closeNow s) := by
  unfold State.closeNow
  repeat' (first | with_reducible assumption | with_reducible (first | apply tidy_ite | apply State.markEdge_tidy) | with_reducible (fail_if_no_progress apply tidy_mk))

theorem execTwinAcquire_tidy {pq} {s : State} (hs : Tidy pq s) : TidyO pq (execTwinAcquire s) := by
  unfold execTwinAcquire
  repeat' (first | with_reducible assumption | with_reducible intro _ | (extract_lets +onlyGivenNames zz; first | (refine (fun (hz : Tidy pq zz) => ?_) ?_; (on_goal 1 => (try clear_value zz; rename' zz => zy, hz => hy)); (on_goal 2 => subst zz)) | (refine (fun (hz : ∀ t, Tidy pq t → Tidy pq (zz t)) => ?_) ?_; (on_goal 1 => (try clear_value zz; rename' zz => zy, hz => hf)); (on_goal 2 => (subst zz; intro _ _; beta_reduce))) | (refine (fun (hz : ∀ t, Tidy pq (zz t)) => ?_) ?_; (on_goal 1 => (try clear_value zz; rename' zz => zy, hz => hf)); (on_goal 2 => (subst zz; intro _; beta_reduce))) | (try clear_value zz; rename' zz => zy)) | with_reducible (first | apply tidy_ite | apply tidyO_ite | apply tidyS_ite | apply State.settling_tidy | apply State.irq_tidy | apply State.count_tidy | apply State.activeAlone_tidy | apply State.closeNow_tidy | apply State.event_tidy | apply idle_tidy | apply tidyO_next | apply tidy_getD) | with_reducible (apply hf) | with_reducible (first | refine of1 ?_ (by assumption) | refine of2 ?_ (by assumption) | refine ofS ?_ (by assumption) | refine ofS1 ?_ (by assumption) | refine ofS2 ?_ (by assumption) | refine ofS3 ?_ (by assumption) | refine of3 ?_ (by assumption)) | dsimp only)

theorem execTongsLoss_tidy {pq} {s : State} (hs : Tidy pq s) : TidyO pq (execTongsLoss s) := by
  unfold execTongsLoss
  repeat' (first | with_reducible assumption | with_reducible intro _ | with_reducible (first | apply tidy_ite | apply tidyO_ite | apply State.settling_tidy | apply State.stepDown_tidy | apply idle_tidy | apply tidyO_next) | with_reducible (fail_if_no_progress apply tidy_mk))

theorem State.twinFence_tidy {pq} {s : State} {v : Bool} (hs : Tidy pq s) : Tidy pq (State.twinFence s v) := by
  unfold State.twinFence
  repeat' (first | with_reducible assumption | (extract_lets +onlyGivenNames zz; first | (refine (fun (hz : Tidy pq zz) => ?_) ?_; (on_goal 1 => (try clear_value zz; rename' zz => zy, hz => hy)); (on_goal 2 => subst zz)) | (try clear_value zz; rename' zz => zy)) | with_reducible (first | apply tidy_ite | apply State.setF_tidy | apply State.stepDown_tidy) | with_reducible (first | refine of1 ?_ (by assumption) | refine of2 ?_ (by assumption) | refine ofS ?_ (by assumption) | refine ofS1 ?_ (by assumption) | refine ofS2 ?_ (by assumption) | refine ofS3 ?_ (by assumption) | refine of3 ?_ (by assumption)) | dsimp only)

theorem execTwinFenceWrite_tidy {pq} {req : Req} {value : Bool} {s : State} (hs : Tidy pq s) : TidyO pq (execTwinFenceWrite req value s) := by
  unfold execTwinFenceWrite
  repeat' (first | with_reducible assumption | with_reducible intro _ | with_reducible (first | apply tidy_ite | apply tidyO_ite | apply State.onT_tidy | apply State.settling_tidy | apply State.twinFence_tidy | apply tidyO_next | apply idle_tidy))

theorem execTwinDissolve_tidy {pq} {req : Req} {s : State} (hs : Tidy pq s) : TidyO pq (execTwinDissolve req s) := by
  unfold execTwinDissolve
  repeat' (first | with_reducible assumption | with_reducible intro _ | with_reducible (first | apply tidy_ite | apply tidyO_ite | apply State.onField_tidy | apply State.settling_tidy | apply State.activeAlone_tidy | apply State.setPaired_tidy | apply State.refuseAt_tidy | apply tidyO_next | apply idle_tidy))

theorem State.sendHandover_tidy {pq} {s : State} (hs : Tidy pq s) : Tidy pq (State.sendHandover s) := by
  unfold State.sendHandover
  repeat' (first | with_reducible assumption | with_reducible intro _ | (extract_lets +onlyGivenNames zz; first | (refine (fun (hz : Tidy pq zz) => ?_) ?_; (on_goal 1 => (try clear_value zz; rename' zz => zy, hz => hy)); (on_goal 2 => subst zz)) | (refine (fun (hz : ∀ t, Tidy pq t → Tidy pq (zz t)) => ?_) ?_; (on_goal 1 => (try clear_value zz; rename' zz => zy, hz => hf)); (on_goal 2 => (subst zz; intro _ _; beta_reduce))) | (refine (fun (hz : ∀ t, Tidy pq (zz t)) => ?_) ?_; (on_goal 1 => (try clear_value zz; rename' zz => zy, hz => hf)); (on_goal 2 => (subst zz; intro _; beta_reduce))) | (try clear_value zz; rename' zz => zy)) | with_reducible (first | apply State.feed_tidy | apply map_tidyS | apply map_tidyS_of2 | apply map_tidyS_any | apply tidyS_none | apply tidyS_some | apply tidyS1_none | apply tidyS2_none) | split | with_reducible (first | apply tidy_ite) | with_reducible (fail_if_no_progress apply tidy_mk) | with_reducible (apply hf) | with_reducible (first | refine of1 ?_ (by assumption) | refine of2 ?_ (by assumption) | refine ofS ?_ (by assumption) | refine ofS1 ?_ (by assumption) | refine ofS2 ?_ (by assumption) | refine ofS3 ?_ (by assumption) | refine of3 ?_ (by assumption)) | dsimp only)

theorem execTwinSwap_tidy {pq} {req : Req} {s : State} (hs : Tidy pq s) : TidyO pq (execTwinSwap req s) := by
  unfold execTwinSwap
  repeat' (first | with_reducible assumption | with_reducible intro _ | (extract_lets +onlyGivenNames zz; first | (refine (fun (hz : Tidy pq zz) => ?_) ?_; (on_goal 1 => (try clear_value zz; rename' zz => zy, hz => hy)); (on_goal 2 => subst zz)) | (try clear_value zz; rename' zz => zy)) | with_reducible (first | apply tidy_ite | apply tidyO_ite | apply State.onField_tidy | apply State.refuseAt_tidy | apply State.sendHandover_tidy | apply tidyO_next | apply idle_tidy | apply tidy1_mk | apply tidy2_mk) | with_reducible (fail_if_no_progress apply tidy_mk) | with_reducible (first | refine of1 ?_ (by assumption) | refine of2 ?_ (by assumption) | refine ofS ?_ (by assumption) | refine ofS1 ?_ (by assumption) | refine ofS2 ?_ (by assumption) | refine ofS3 ?_ (by assumption) | refine of3 ?_ (by assumption)) | dsimp only)

theorem State.takeHandover_tidy {pq} {s : State} (hs : Tidy pq s) : Tidy pq (State.takeHandover s) := by
  unfold State.takeHandover
  repeat' (first | with_reducible assumption | (extract_lets +onlyGivenNames zz; first | (refine (fun (hz : Tidy pq zz) => ?_) ?_; (on_goal 1 => (try clear_value zz; rename' zz => zy, hz => hy)); (on_goal 2 => subst zz)) | (refine (fun (hz : ∀ t, Tidy pq t → Tidy pq (zz t)) => ?_) ?_; (on_goal 1 => (try clear_value zz; rename' zz => zy, hz => hf)); (on_goal 2 => (subst zz; intro _ _; beta_reduce))) | (refine (fun (hz : ∀ t, Tidy pq (zz t)) => ?_) ?_; (on_goal 1 => (try clear_value zz; rename' zz => zy, hz => hf)); (on_goal 2 => (subst zz; intro _; beta_reduce))) | (try clear_value zz; rename' zz => zy)) | with_reducible (first | apply State.setF_tidy | apply State.setPaired_tidy | apply State.twinTo_tidy | apply State.feed_tidy | apply tidyS_none | apply tidyS_some | apply tidyS1_none | apply tidyS2_none) | split | with_reducible (first | apply tidy_ite) | with_reducible (fail_if_no_progress apply tidy_mk) | with_reducible (apply hf) | with_reducible (first | refine of1 ?_ (by assumption) | refine of2 ?_ (by assumption) | refine ofS ?_ (by assumption) | refine ofS1 ?_ (by assumption) | refine ofS2 ?_ (by assumption) | refine ofS3 ?_ (by assumption) | refine of3 ?_ (by assumption)) | dsimp only)

theorem execTwinHandoverRx_tidy {pq} {x : BitVec 48} {bounds : List (BitVec 48)} {s : State} (hs : Tidy pq s) : TidyO pq (execTwinHandoverRx x bounds s) := by
  unfold execTwinHandoverRx
  repeat' (first | with_reducible assumption | with_reducible intro _ | (extract_lets +onlyGivenNames zz; first | (refine (fun (hz : Tidy pq zz) => ?_) ?_; (on_goal 1 => (try clear_value zz; rename' zz => zy, hz => hy)); (on_goal 2 => subst zz)) | (refine (fun (hz : ∀ t, Tidy pq t → Tidy pq (zz t)) => ?_) ?_; (on_goal 1 => (try clear_value zz; rename' zz => zy, hz => hf)); (on_goal 2 => (subst zz; intro _ _; beta_reduce))) | (refine (fun (hz : ∀ t, Tidy pq (zz t)) => ?_) ?_; (on_goal 1 => (try clear_value zz; rename' zz => zy, hz => hf)); (on_goal 2 => (subst zz; intro _; beta_reduce))) | (try clear_value zz; rename' zz => zy)) | with_reducible (first | apply tidy_ite | apply tidyO_ite | apply State.onRecord_tidy | apply State.takeHandover_tidy | apply State.setF_tidy | apply State.twinTo_tidy | apply tidyO_next | apply idle_tidy | apply tidy1_mk | apply tidy2_mk | apply map_tidyS | apply map_tidyS_of2 | apply map_tidyS_any) | with_reducible (fail_if_no_progress apply tidy_mk) | with_reducible (apply hf) | with_reducible (first | refine of1 ?_ (by assumption) | refine of2 ?_ (by assumption) | refine ofS ?_ (by assumption) | refine ofS1 ?_ (by assumption) | refine ofS2 ?_ (by assumption) | refine ofS3 ?_ (by assumption) | refine of3 ?_ (by assumption)) | dsimp only)

theorem execTwinDigestRx_tidy {pq} {stream : Fin 10} {index : BitVec 48} {digest : BitVec 64} {s : State} (hs : Tidy pq s) : TidyO pq (execTwinDigestRx stream index digest s) := by
  unfold execTwinDigestRx
  repeat' (first | with_reducible assumption | with_reducible intro _ | (extract_lets +onlyGivenNames zz; first | (refine (fun (hz : Tidy pq zz) => ?_) ?_; (on_goal 1 => (try clear_value zz; rename' zz => zy, hz => hy)); (on_goal 2 => subst zz)) | (try clear_value zz; rename' zz => zy)) | with_reducible (first | apply State.onRecord_tidy | apply State.compareDigests_tidy | apply tidyO_next | apply idle_tidy | apply tidy1_mk | apply tidy2_mk) | with_reducible (fail_if_no_progress apply tidy_mk) | with_reducible (first | refine of1 ?_ (by assumption) | refine of2 ?_ (by assumption) | refine ofS ?_ (by assumption) | refine ofS1 ?_ (by assumption) | refine ofS2 ?_ (by assumption) | refine ofS3 ?_ (by assumption) | refine of3 ?_ (by assumption)) | dsimp only)

theorem execTwinDigestMissing_tidy {pq} {s : State} (hs : Tidy pq s) : TidyO pq (execTwinDigestMissing s) := by
  unfold execTwinDigestMissing
  repeat' (first | with_reducible assumption | with_reducible intro _ | (extract_lets +onlyGivenNames zz; first | (refine (fun (hz : Tidy pq zz) => ?_) ?_; (on_goal 1 => (try clear_value zz; rename' zz => zy, hz => hy)); (on_goal 2 => subst zz)) | (refine (fun (hz : ∀ t, Tidy pq t → Tidy pq (zz t)) => ?_) ?_; (on_goal 1 => (try clear_value zz; rename' zz => zy, hz => hf)); (on_goal 2 => (subst zz; intro _ _; beta_reduce))) | (refine (fun (hz : ∀ t, Tidy pq (zz t)) => ?_) ?_; (on_goal 1 => (try clear_value zz; rename' zz => zy, hz => hf)); (on_goal 2 => (subst zz; intro _; beta_reduce))) | (try clear_value zz; rename' zz => zy)) | with_reducible (first | apply tidy_ite | apply tidyO_ite | apply idle_tidy | apply State.count_tidy | apply tidyO_next) | with_reducible (fail_if_no_progress apply tidy_mk) | with_reducible (apply hf) | with_reducible (first | refine of1 ?_ (by assumption) | refine of2 ?_ (by assumption) | refine ofS ?_ (by assumption) | refine ofS1 ?_ (by assumption) | refine ofS2 ?_ (by assumption) | refine ofS3 ?_ (by assumption) | refine of3 ?_ (by assumption)) | dsimp only)

theorem State.bothPassed_tidy {pq} {s : State} (hs : Tidy pq s) : Tidy pq (State.bothPassed s) := by
  unfold State.bothPassed
  repeat' (first | with_reducible assumption | (extract_lets +onlyGivenNames zz; first | (refine (fun (hz : Tidy pq zz) => ?_) ?_; (on_goal 1 => (try clear_value zz; rename' zz => zy, hz => hy)); (on_goal 2 => subst zz)) | (try clear_value zz; rename' zz => zy)) | with_reducible (first | apply tidy_ite | apply State.event_tidy | apply State.irq_tidy | apply State.setF_tidy) | with_reducible (fail_if_no_progress apply tidy_mk) | with_reducible (first | refine of1 ?_ (by assumption) | refine of2 ?_ (by assumption) | refine ofS ?_ (by assumption) | refine ofS1 ?_ (by assumption) | refine ofS2 ?_ (by assumption) | refine ofS3 ?_ (by assumption) | refine of3 ?_ (by assumption)) | dsimp only)

theorem execTwinDisputeTest_tidy {pq} {mine theirs : Bool} {s : State} (hs : Tidy pq s) : TidyO pq (execTwinDisputeTest mine theirs s) := by
  unfold execTwinDisputeTest
  repeat' (first | with_reducible assumption | with_reducible intro _ | (extract_lets +onlyGivenNames zz; first | (refine (fun (hz : Tidy pq zz) => ?_) ?_; (on_goal 1 => (try clear_value zz; rename' zz => zy, hz => hy)); (on_goal 2 => subst zz)) | (try clear_value zz; rename' zz => zy)) | with_reducible (first | apply tidy_ite | apply tidyO_ite | apply idle_tidy | apply State.settling_tidy | apply State.bothPassed_tidy | apply State.stepDown_tidy | apply tidyO_next) | with_reducible (fail_if_no_progress apply tidy_mk) | with_reducible (first | refine of1 ?_ (by assumption) | refine of2 ?_ (by assumption) | refine ofS ?_ (by assumption) | refine ofS1 ?_ (by assumption) | refine ofS2 ?_ (by assumption) | refine ofS3 ?_ (by assumption) | refine of3 ?_ (by assumption)) | dsimp only)

theorem execTwinResolveKeep_tidy {pq} {req : Req} {s : State} (hs : Tidy pq s) : TidyO pq (execTwinResolveKeep req s) := by
  unfold execTwinResolveKeep
  repeat' (first | with_reducible assumption | with_reducible intro _ | with_reducible (first | apply tidy_ite | apply tidyO_ite | apply State.onField_tidy | apply State.settling_tidy | apply State.setF_tidy | apply tidyO_next | apply idle_tidy))

theorem execTwinResolveStepDown_tidy {pq} {req : Req} {s : State} (hs : Tidy pq s) : TidyO pq (execTwinResolveStepDown req s) := by
  unfold execTwinResolveStepDown
  repeat' (first | with_reducible assumption | with_reducible intro _ | with_reducible (first | apply tidy_ite | apply tidyO_ite | apply State.onField_tidy | apply State.settling_tidy | apply State.stepDown_tidy | apply State.setF_tidy | apply tidyO_next | apply idle_tidy))

theorem execTwinResolveDrop_tidy {pq} {req : Req} {s : State} (hs : Tidy pq s) : TidyO pq (execTwinResolveDrop req s) := by
  unfold execTwinResolveDrop
  repeat' (first | with_reducible assumption | with_reducible intro _ | with_reducible (first | apply tidy_ite | apply tidyO_ite | apply State.onField_tidy | apply State.settling_tidy | apply State.setF_tidy | apply State.setPaired_tidy | apply State.sendNotice_tidy | apply tidyO_next | apply idle_tidy))


/-! ## TwinRx -/

theorem State.refill_tidy {pq} {s : State} {n : ℕ} {f : Frame} (hs : Tidy pq s) : Tidy pq (State.refill s n f) := by
  unfold State.refill
  repeat' (first | with_reducible assumption | with_reducible (first | apply State.writeMeta_tidy | apply State.write_tidy))

theorem State.setNextIn_tidy {pq} {s : State} {n : ℕ} (hs : Tidy pq s) : Tidy pq (State.setNextIn s n) := by
  unfold State.setNextIn
  repeat' (first | with_reducible assumption | with_reducible (first | apply State.setOrderNext_tidy | apply tidyS_none | apply tidyS_some | apply tidyS1_none | apply tidyS2_none) | split | with_reducible (first | apply tidy_ite) | with_reducible (fail_if_no_progress apply tidy_mk) | with_reducible (first | refine of1 ?_ (by assumption) | refine of2 ?_ (by assumption) | refine ofS ?_ (by assumption) | refine ofS1 ?_ (by assumption) | refine ofS2 ?_ (by assumption) | refine ofS3 ?_ (by assumption) | refine of3 ?_ (by assumption)) | dsimp only)

theorem State.takeFrame_tidy {pq} {s : State} {b : Bytes} (hs : Tidy pq s) : TidyS pq (State.takeFrame s b) := by
  unfold State.takeFrame
  repeat' (first | with_reducible assumption | (extract_lets +onlyGivenNames zz; first | (refine (fun (hz : Tidy pq zz) => ?_) ?_; (on_goal 1 => (try clear_value zz; rename' zz => zy, hz => hy)); (on_goal 2 => subst zz)) | (try clear_value zz; rename' zz => zy)) | with_reducible (first | apply tidy_ite | apply tidy1_ite | apply tidy2_ite | apply tidyS_ite | apply State.refill_tidy | apply State.launch_tidy | apply State.setNextIn_tidy | apply tidy1_mk | apply tidy2_mk | apply tidyS_none | apply tidyS_some | apply tidyS1_none | apply tidyS2_none) | with_reducible (apply tidy_fst; first | apply tidy1_ite) | with_reducible (apply tidy_snd; first | apply tidy2_ite) | with_reducible (first | refine of1 ?_ (by assumption) | refine of2 ?_ (by assumption) | refine ofS ?_ (by assumption) | refine ofS1 ?_ (by assumption) | refine ofS2 ?_ (by assumption) | refine ofS3 ?_ (by assumption) | refine of3 ?_ (by assumption)) | dsimp only)

theorem State.noteMark_tidy {pq} {s : State} {aa : Ordered} (hs : Tidy pq s) : Tidy pq (State.noteMark s aa) := by
  unfold State.noteMark
  repeat' (first | with_reducible assumption | with_reducible (first | apply tidy1_mk | apply tidy2_mk) | split | with_reducible (first | apply tidy_ite) | with_reducible (fail_if_no_progress apply tidy_mk) | with_reducible (first | refine of1 ?_ (by assumption) | refine of2 ?_ (by assumption) | refine ofS ?_ (by assumption) | refine ofS1 ?_ (by assumption) | refine ofS2 ?_ (by assumption) | refine ofS3 ?_ (by assumption) | refine of3 ?_ (by assumption)) | dsimp only)

theorem State.takeOrdered_tidy {pq} {s : State} {n : ℕ} {o : Ordered} (hs : Tidy pq s) : TidyS pq (State.takeOrdered s n o) := by
  unfold State.takeOrdered
  repeat' (first | with_reducible assumption | with_reducible (first | apply tidy_ite | apply tidyS_ite | apply State.launchOrdered_tidy | apply State.setNextIn_tidy | apply State.noteMark_tidy | apply tidyS_none | apply tidyS_some | apply tidyS1_none | apply tidyS2_none))

theorem State.takeDiscard_tidy {pq} {s : State} {n : ℕ} (hs : Tidy pq s) : Tidy pq (State.takeDiscard s n) := by
  unfold State.takeDiscard
  repeat' (first | with_reducible assumption | with_reducible intro _ | (extract_lets +onlyGivenNames zz; first | (refine (fun (hz : Tidy pq zz) => ?_) ?_; (on_goal 1 => (try clear_value zz; rename' zz => zy, hz => hy)); (on_goal 2 => subst zz)) | (try clear_value zz; rename' zz => zy)) | with_reducible (first | apply State.release_tidy | apply State.endFlight_tidy | apply State.freeReplay_tidy | apply State.setNextIn_tidy | apply tidyS_none | apply tidyS_some | apply tidyS1_none | apply tidyS2_none) | with_reducible (apply tidy_fst; first | apply tidy1_ite) | with_reducible (apply tidy_snd; first | apply tidy2_ite) | split | with_reducible (first | apply tidy_ite | apply tidy1_ite | apply tidy2_ite) | with_reducible (fail_if_no_progress apply tidy_mk) | with_reducible (first | refine of1 ?_ (by assumption) | refine of2 ?_ (by assumption) | refine ofS ?_ (by assumption) | refine ofS1 ?_ (by assumption) | refine ofS2 ?_ (by assumption) | refine ofS3 ?_ (by assumption) | refine of3 ?_ (by assumption)) | dsimp only)

theorem State.closeDue'_tidy {pq} {s : State} (hs : Tidy pq s) : Tidy pq (State.closeDue' s) := by
  unfold State.closeDue'
  repeat' (first | with_reducible assumption | (extract_lets +onlyGivenNames zz; first | (refine (fun (hz : Tidy pq zz) => ?_) ?_; (on_goal 1 => (try clear_value zz; rename' zz => zy, hz => hy)); (on_goal 2 => subst zz)) | (try clear_value zz; rename' zz => zy)) | with_reducible (first | apply State.markEdge_tidy | apply tidy1_mk | apply tidy2_mk) | with_reducible (apply tidy_fst; first | apply tidy1_ite) | with_reducible (apply tidy_snd; first | apply tidy2_ite) | split | with_reducible (first | apply tidy_ite | apply tidy1_ite | apply tidy2_ite) | with_reducible (fail_if_no_progress apply tidy_mk) | with_reducible (first | refine of1 ?_ (by assumption) | refine of2 ?_ (by assumption) | refine ofS ?_ (by assumption) | refine ofS1 ?_ (by assumption) | refine ofS2 ?_ (by assumption) | refine ofS3 ?_ (by assumption) | refine of3 ?_ (by assumption)) | dsimp only)

theorem State.takeRecord_tidy {pq} {s : State} {aa : Rec} (hs : Tidy pq s) : TidyS pq (State.takeRecord s aa) := by
  unfold State.takeRecord
  repeat' (first | with_reducible assumption | with_reducible (first | apply State.takeFrame_tidy | apply State.takeOrdered_tidy | apply State.takeDiscard_tidy | apply State.closeDue'_tidy | apply tidy1_mk | apply tidy2_mk | apply tidyS_none | apply tidyS_some | apply tidyS1_none | apply tidyS2_none) | split | with_reducible (fail_if_no_progress apply tidy_mk) | with_reducible (first | refine of1 ?_ (by assumption) | refine of2 ?_ (by assumption) | refine ofS ?_ (by assumption) | refine ofS1 ?_ (by assumption) | refine ofS2 ?_ (by assumption) | refine ofS3 ?_ (by assumption) | refine of3 ?_ (by assumption)) | dsimp only)

theorem State.askAgain_tidy {pq} {s : State} (hs : Tidy pq s) : Tidy pq (State.askAgain s) := by
  unfold State.askAgain
  repeat' (first | with_reducible assumption | with_reducible intro _ | with_reducible (first | apply tidy_ite | apply tidy1_ite | apply tidy2_ite | apply foldl_tidy | apply foldl_tidy1 | apply State.enq_tidy | apply tidy1_mk | apply tidy2_mk | apply map_tidyS | apply map_tidyS_of2 | apply map_tidyS_any) | with_reducible (apply tidy_fst; first | apply foldl_tidy1 | apply tidy1_ite) | with_reducible (apply tidy_snd; first | apply foldl_tidy2 | apply tidy2_ite) | with_reducible (fail_if_no_progress apply tidy_mk))

theorem State.loseRecord_tidy {pq} {s : State} {r : Rec} (hs : Tidy pq s) : Tidy pq (State.loseRecord s r) := by
  unfold State.loseRecord
  repeat' (first | with_reducible assumption | with_reducible (first | apply State.askAgain_tidy | apply tidy1_mk | apply tidy2_mk | apply tidyS_none | apply tidyS_some | apply tidyS1_none | apply tidyS2_none) | split | with_reducible (fail_if_no_progress apply tidy_mk) | with_reducible (first | refine of1 ?_ (by assumption) | refine of2 ?_ (by assumption) | refine ofS ?_ (by assumption) | refine ofS1 ?_ (by assumption) | refine ofS2 ?_ (by assumption) | refine ofS3 ?_ (by assumption) | refine of3 ?_ (by assumption)) | dsimp only)

theorem State.drainIn_tidy {pq} {s : State} (hs : Tidy pq s) : Tidy pq (State.drainIn s) := by
  unfold State.drainIn
  repeat' (first | with_reducible assumption | with_reducible (first | apply State.deq_tidy | apply State.loseRecord_tidy | apply State.takeRecord_tidy | apply tidy1_mk | apply tidy2_mk | apply tidyS_none | apply tidyS_some | apply tidyS1_none | apply tidyS2_none) | with_reducible (apply tidy_fst; first | apply tidy1_ite) | with_reducible (apply tidy_snd; first | apply tidy2_ite) | split | with_reducible (first | apply tidy_ite | apply tidy1_ite | apply tidy2_ite) | with_reducible (fail_if_no_progress apply tidy_mk) | with_reducible (first | refine of1 ?_ (by assumption) | refine of2 ?_ (by assumption) | refine ofS ?_ (by assumption) | refine ofS1 ?_ (by assumption) | refine ofS2 ?_ (by assumption) | refine ofS3 ?_ (by assumption) | refine of3 ?_ (by assumption)) | dsimp only)

theorem State.putFirst_tidy {pq} {s : State} {n : ℕ} {i : Item} (hs : Tidy pq s) : Tidy pq (State.putFirst s n i) := by
  unfold State.putFirst
  repeat' (first | with_reducible assumption | with_reducible intro _ | (extract_lets +onlyGivenNames zz; first | (refine (fun (hz : Tidy pq zz) => ?_) ?_; (on_goal 1 => (try clear_value zz; rename' zz => zy, hz => hy)); (on_goal 2 => subst zz)) | (try clear_value zz; rename' zz => zy)) | with_reducible (first | apply State.setQueue_tidy | apply tidy1_mk | apply tidy2_mk) | with_reducible (fail_if_no_progress apply tidy_mk) | with_reducible (first | refine of1 ?_ (by assumption) | refine of2 ?_ (by assumption) | refine ofS ?_ (by assumption) | refine ofS1 ?_ (by assumption) | refine ofS2 ?_ (by assumption) | refine ofS3 ?_ (by assumption) | refine of3 ?_ (by assumption)) | dsimp only)

theorem State.storeIn_tidy {pq} {s : State} {r : Rec} {parity : ℕ} (hs : Tidy pq s) : Tidy pq (State.storeIn s r parity) := by
  unfold State.storeIn
  repeat' (first | with_reducible assumption | with_reducible intro _ | (extract_lets +onlyGivenNames zz; first | (refine (fun (hz : Tidy pq zz) => ?_) ?_; (on_goal 1 => (try clear_value zz; rename' zz => zy, hz => hy)); (on_goal 2 => subst zz)) | (try clear_value zz; rename' zz => zy)) | with_reducible (first | apply State.putFirst_tidy | apply State.enq_tidy | apply tidy1_mk | apply tidy2_mk | apply tidyS_none | apply tidyS_some | apply tidyS1_none | apply tidyS2_none) | with_reducible (apply tidy_fst; first | apply tidy1_ite) | with_reducible (apply tidy_snd; first | apply tidy2_ite) | split | with_reducible (first | apply tidy_ite | apply tidy1_ite | apply tidy2_ite) | with_reducible (fail_if_no_progress apply tidy_mk) | with_reducible (first | refine of1 ?_ (by assumption) | refine of2 ?_ (by assumption) | refine ofS ?_ (by assumption) | refine ofS1 ?_ (by assumption) | refine ofS2 ?_ (by assumption) | refine ofS3 ?_ (by assumption) | refine of3 ?_ (by assumption)) | dsimp only)

theorem State.onOrder_tidy {pq} {s : State} {r : Rec} {parity : optParam ℕ 0} (hs : Tidy pq s) : TidyO pq (State.onOrder s r parity) := by
  unfold State.onOrder
  repeat' (first | with_reducible assumption | with_reducible intro _ | with_reducible (first | apply tidy_ite | apply tidyO_ite | apply State.onLink_tidy | apply State.onRecord_tidy | apply State.drainIn_tidy | apply State.storeIn_tidy | apply tidyO_next | apply idle_tidy) | with_reducible (fail_if_no_progress apply tidy_mk))

theorem State.drainCaught_tidy {pq} {s : State} (hs : Tidy pq s) : Tidy pq (State.drainCaught s) := by
  unfold State.drainCaught
  repeat' (first | with_reducible assumption | with_reducible (first | apply State.takeRecord_tidy | apply tidyS_none | apply tidyS_some | apply tidyS1_none | apply tidyS2_none) | split | with_reducible (first | apply tidy_ite) | with_reducible (fail_if_no_progress apply tidy_mk) | with_reducible (first | refine of1 ?_ (by assumption) | refine of2 ?_ (by assumption) | refine ofS ?_ (by assumption) | refine ofS1 ?_ (by assumption) | refine ofS2 ?_ (by assumption) | refine ofS3 ?_ (by assumption) | refine of3 ?_ (by assumption)) | dsimp only)

theorem State.caughtUp_tidy {pq} {s : State} (hs : Tidy pq s) : Tidy pq (State.caughtUp s) := by
  unfold State.caughtUp
  repeat' (first | with_reducible assumption | with_reducible intro _ | with_reducible (first | apply foldl_tidy | apply foldl_tidy1 | apply State.enq_tidy) | with_reducible (apply tidy_fst; first | apply foldl_tidy1) | with_reducible (apply tidy_snd; first | apply foldl_tidy2) | with_reducible (fail_if_no_progress apply tidy_mk))

theorem execTwinFrameRx_tidy {pq} {record : Bytes} {parity : ℕ} {s : State} (hs : Tidy pq s) : TidyO pq (execTwinFrameRx record parity s) := by
  unfold execTwinFrameRx
  repeat' (first | with_reducible assumption | with_reducible (first | apply State.onOrder_tidy | apply tidyO_next | apply idle_tidy))

theorem execTwinCommandRx_tidy {pq} {order : BitVec 48} {command : TwinCommand} {s : State} (hs : Tidy pq s) : TidyO pq (execTwinCommandRx order command s) := by
  unfold execTwinCommandRx
  repeat' (first | with_reducible assumption | (extract_lets +onlyGivenNames zz; first | (refine (fun (hz : Tidy pq zz) => ?_) ?_; (on_goal 1 => (try clear_value zz; rename' zz => zy, hz => hy)); (on_goal 2 => subst zz)) | (try clear_value zz; rename' zz => zy)) | with_reducible (first | apply idle_tidy | apply State.onOrder_tidy | apply tidyO_next) | split | with_reducible (first | apply tidy_ite | apply tidyO_ite) | with_reducible (fail_if_no_progress apply tidy_mk) | with_reducible (first | refine of1 ?_ (by assumption) | refine of2 ?_ (by assumption) | refine ofS ?_ (by assumption) | refine ofS1 ?_ (by assumption) | refine ofS2 ?_ (by assumption) | refine ofS3 ?_ (by assumption) | refine of3 ?_ (by assumption)) | dsimp only)

theorem execTwinMarkerRx_tidy {pq} {order : BitVec 48} {kind : MarkerKind} {k : Word} {gen : BitVec 16} {skipped : Bool} {at_ : Word} {s : State} (hs : Tidy pq s) : TidyO pq (execTwinMarkerRx order kind k gen skipped at_ s) := by
  unfold execTwinMarkerRx
  repeat' (first | with_reducible assumption | (extract_lets +onlyGivenNames zz; first | (refine (fun (hz : Tidy pq zz) => ?_) ?_; (on_goal 1 => (try clear_value zz; rename' zz => zy, hz => hy)); (on_goal 2 => subst zz)) | (try clear_value zz; rename' zz => zy)) | with_reducible (first | apply idle_tidy | apply State.onOrder_tidy | apply tidyO_next) | split | with_reducible (fail_if_no_progress apply tidy_mk) | with_reducible (first | refine of1 ?_ (by assumption) | refine of2 ?_ (by assumption) | refine ofS ?_ (by assumption) | refine ofS1 ?_ (by assumption) | refine ofS2 ?_ (by assumption) | refine ofS3 ?_ (by assumption) | refine of3 ?_ (by assumption)) | dsimp only)

theorem execTwinTxnRx_tidy {pq} {order : BitVec 48} {values : List (BitVec 8 × BitVec 12 × Word)} {s : State} (hs : Tidy pq s) : TidyO pq (execTwinTxnRx order values s) := by
  unfold execTwinTxnRx
  repeat' (first | with_reducible assumption | with_reducible intro _ | with_reducible (first | apply State.onOrder_tidy | apply tidyO_next | apply idle_tidy | apply tidy1_mk | apply tidy2_mk | apply map_tidyS | apply map_tidyS_of2 | apply map_tidyS_any))

theorem execTwinJoinRx_tidy {pq} {order : BitVec 48} {port : Fin 8} {ident : BitVec 64} {addr slot : BitVec 16} {s : State} (hs : Tidy pq s) : TidyO pq (execTwinJoinRx order port ident addr slot s) := by
  unfold execTwinJoinRx
  repeat' (first | with_reducible assumption | with_reducible (first | apply State.onOrder_tidy | apply tidyO_next | apply idle_tidy))

theorem execTwinDiscardRx_tidy {pq} {order : BitVec 48} {s : State} (hs : Tidy pq s) : TidyO pq (execTwinDiscardRx order s) := by
  unfold execTwinDiscardRx
  repeat' (first | with_reducible assumption | with_reducible (first | apply State.onOrder_tidy | apply tidyO_next | apply idle_tidy))

theorem execTwinGroupRx_tidy {pq} {seq last : BitVec 48} {s : State} (hs : Tidy pq s) : TidyO pq (execTwinGroupRx seq last s) := by
  unfold execTwinGroupRx
  repeat' (first | with_reducible assumption | with_reducible (first | apply State.onOrder_tidy | apply tidyO_next | apply idle_tidy))

theorem execTwinDurableRx_tidy {pq} {seq : BitVec 48} {s : State} (hs : Tidy pq s) : TidyO pq (execTwinDurableRx seq s) := by
  unfold execTwinDurableRx
  repeat' (first | with_reducible assumption | with_reducible intro _ | with_reducible (first | apply tidy_ite | apply tidyO_ite | apply State.onRecord_tidy | apply tidyO_next | apply idle_tidy) | with_reducible (fail_if_no_progress apply tidy_mk))

theorem execTwinForwardRx_tidy {pq} {port : BitVec 4} {link : BitVec 16} {seq : BitVec 8} {frame : Bytes} {s : State} (hs : Tidy pq s) : TidyO pq (execTwinForwardRx port link seq frame s) := by
  unfold execTwinForwardRx
  repeat' (first | with_reducible assumption | with_reducible intro _ | with_reducible (first | apply tidy_ite | apply tidyO_ite | apply State.onRecord_tidy | apply State.plcForwarded_tidy | apply State.radForwarded_tidy | apply State.enq_tidy | apply tidyO_next | apply idle_tidy))

theorem execTwinResendReqRx_tidy {pq} {order : BitVec 48} {s : State} (hs : Tidy pq s) : TidyO pq (execTwinResendReqRx order s) := by
  unfold execTwinResendReqRx
  repeat' (first | with_reducible assumption | with_reducible intro _ | with_reducible (first | apply idle_tidy | apply State.onRecord_tidy | apply State.feed_tidy | apply tidyO_next | apply tidyS_none | apply tidyS_some | apply tidyS1_none | apply tidyS2_none) | split | with_reducible (first | apply tidy_ite | apply tidyO_ite) | with_reducible (fail_if_no_progress apply tidy_mk) | with_reducible (first | refine of1 ?_ (by assumption) | refine of2 ?_ (by assumption) | refine ofS ?_ (by assumption) | refine ofS1 ?_ (by assumption) | refine ofS2 ?_ (by assumption) | refine ofS3 ?_ (by assumption) | refine of3 ?_ (by assumption)) | dsimp only)

theorem State.takeSnap_tidy {pq} {s : State} (hs : Tidy pq s) : Tidy pq (State.takeSnap s) := by
  unfold State.takeSnap
  repeat' (first | with_reducible assumption | with_reducible (first | apply tidy1_mk | apply tidy2_mk | apply tidyS_none | apply tidyS_some | apply tidyS1_none | apply tidyS2_none) | split | with_reducible (first | apply tidy_ite) | with_reducible (fail_if_no_progress apply tidy_mk) | with_reducible (first | refine of1 ?_ (by assumption) | refine of2 ?_ (by assumption) | refine ofS ?_ (by assumption) | refine ofS1 ?_ (by assumption) | refine ofS2 ?_ (by assumption) | refine ofS3 ?_ (by assumption) | refine of3 ?_ (by assumption)) | dsimp only)

theorem State.emptyQueue_tidy {pq} {s : State} {q : ℕ} (hs : Tidy pq s) : Tidy pq (State.emptyQueue s q) := by
  unfold State.emptyQueue
  repeat' (first | with_reducible assumption | (extract_lets +onlyGivenNames zz; first | (refine (fun (hz : Tidy pq zz) => ?_) ?_; (on_goal 1 => (try clear_value zz; rename' zz => zy, hz => hy)); (on_goal 2 => subst zz)) | (refine (fun (hz : ∀ t, Tidy pq t → Tidy pq (zz t)) => ?_) ?_; (on_goal 1 => (try clear_value zz; rename' zz => zy, hz => hf)); (on_goal 2 => (subst zz; intro _ _; beta_reduce))) | (refine (fun (hz : ∀ t, Tidy pq (zz t)) => ?_) ?_; (on_goal 1 => (try clear_value zz; rename' zz => zy, hz => hf)); (on_goal 2 => (subst zz; intro _; beta_reduce))) | (try clear_value zz; rename' zz => zy)) | with_reducible (first | apply State.count_tidy | apply State.creditBack_tidy | apply State.discardAll_tidy) | with_reducible (apply hf) | with_reducible (first | refine of1 ?_ (by assumption) | refine of2 ?_ (by assumption) | refine ofS ?_ (by assumption) | refine ofS1 ?_ (by assumption) | refine ofS2 ?_ (by assumption) | refine ofS3 ?_ (by assumption) | refine of3 ?_ (by assumption)) | dsimp only)

theorem State.clearForSync_tidy {pq} {s : State} (hs : Tidy pq s) : Tidy pq (State.clearForSync s) := by
  unfold State.clearForSync
  extract_lets +onlyGivenNames a b p
  have ha : Tidy pq a := foldl_tidy (fun _ _ h => State.setLane_tidy h) hs
  have hb : Tidy pq b := foldl_tidy (fun _ _ h => State.emptyQueue_tidy h) ha
  have hd : Tidy pq (b.setF Reg.FUNL_REPLAY_USE_SLOTS 0) := State.setF_tidy hb
  generalize b.setF Reg.FUNL_REPLAY_USE_SLOTS 0 = d at hd
  refine Tidy.mk ?_ ?_ ?_ ?_ ?_
  · exact hd.pending
  · dsimp only
    exact sparseWf_filter _ hb.mem
  · exact hd.regs
  · exact hd.eff
  · exact hd.queues

theorem execTwinSyncStart_tidy {pq} {order : BitVec 48} {s : State} (hs : Tidy pq s) : TidyO pq (execTwinSyncStart order s) := by
  unfold execTwinSyncStart
  repeat' (first | with_reducible assumption | with_reducible intro _ | (extract_lets +onlyGivenNames zz; first | (refine (fun (hz : Tidy pq zz) => ?_) ?_; (on_goal 1 => (try clear_value zz; rename' zz => zy, hz => hy)); (on_goal 2 => subst zz)) | (refine (fun (hz : ∀ t, Tidy pq t → Tidy pq (zz t)) => ?_) ?_; (on_goal 1 => (try clear_value zz; rename' zz => zy, hz => hf)); (on_goal 2 => (subst zz; intro _ _; beta_reduce))) | (refine (fun (hz : ∀ t, Tidy pq (zz t)) => ?_) ?_; (on_goal 1 => (try clear_value zz; rename' zz => zy, hz => hf)); (on_goal 2 => (subst zz; intro _; beta_reduce))) | (try clear_value zz; rename' zz => zy)) | with_reducible (first | apply tidy_ite | apply tidyO_ite | apply State.onRecord_tidy | apply State.sendMeasure_tidy | apply State.setF_tidy | apply State.set2_tidy | apply State.takeSnap_tidy | apply State.clearForSync_tidy | apply tidyO_next | apply idle_tidy | apply tidy1_mk | apply tidy2_mk) | with_reducible (fail_if_no_progress apply tidy_mk) | with_reducible (apply hf) | with_reducible (first | refine of1 ?_ (by assumption) | refine of2 ?_ (by assumption) | refine ofS ?_ (by assumption) | refine ofS1 ?_ (by assumption) | refine ofS2 ?_ (by assumption) | refine ofS3 ?_ (by assumption) | refine of3 ?_ (by assumption)) | dsimp only)

theorem State.enterCopied_tidy {pq} {old s : State} {a : ℕ} (hs : Tidy pq s) (hold : Tidy pq old) : Tidy pq (State.enterCopied old s a) := by
  unfold State.enterCopied
  repeat' (first | with_reducible assumption | (extract_lets +onlyGivenNames zz; first | (refine (fun (hz : Tidy pq zz) => ?_) ?_; (on_goal 1 => (try clear_value zz; rename' zz => zy, hz => hy)); (on_goal 2 => subst zz)) | (refine (fun (hz : ∀ t, Tidy pq t → Tidy pq (zz t)) => ?_) ?_; (on_goal 1 => (try clear_value zz; rename' zz => zy, hz => hf)); (on_goal 2 => (subst zz; intro _ _; beta_reduce))) | (refine (fun (hz : ∀ t, Tidy pq (zz t)) => ?_) ?_; (on_goal 1 => (try clear_value zz; rename' zz => zy, hz => hf)); (on_goal 2 => (subst zz; intro _; beta_reduce))) | (try clear_value zz; rename' zz => zy)) | with_reducible (first | apply tidy_ite | apply tidy1_ite | apply tidy2_ite | apply State.dirPlace_tidy | apply State.putRoute_tidy | apply State.ledgerInsert_tidy) | with_reducible (apply tidy_fst; first | apply State.dirPlace_tidy | apply State.putRoute_tidy | apply tidy1_ite) | with_reducible (apply tidy_snd; first | apply tidy2_ite) | with_reducible (apply hf) | with_reducible (first | refine of1 ?_ (by assumption) | refine of2 ?_ (by assumption) | refine ofS ?_ (by assumption) | refine ofS1 ?_ (by assumption) | refine ofS2 ?_ (by assumption) | refine ofS3 ?_ (by assumption) | refine of3 ?_ (by assumption)) | dsimp only)

theorem State.relayTables_tidy {pq} {s : State} (hs : Tidy pq s) : Tidy pq (State.relayTables s) := by
  unfold State.relayTables
  extract_lets +onlyGivenNames l a t u
  have ht : Tidy pq t := ⟨hs.pending, sparseWf_filter _ hs.mem, hs.regs, hs.eff, hs.queues⟩
  have hu : Tidy pq u := foldl_tidy (fun _ _ h => State.setF_tidy h) ht
  exact foldl_tidy (fun _ _ h => State.enterCopied_tidy h hs) hu

theorem State.finishCopy_tidy {pq} {s : State} {n : ℕ} (hs : Tidy pq s) : Tidy pq (State.finishCopy s n) := by
  unfold State.finishCopy
  repeat' (first | with_reducible assumption | with_reducible intro _ | (extract_lets +onlyGivenNames zz; first | (refine (fun (hz : Tidy pq zz) => ?_) ?_; (on_goal 1 => (try clear_value zz; rename' zz => zy, hz => hy)); (on_goal 2 => subst zz)) | (refine (fun (hz : ∀ t, Tidy pq t → Tidy pq (zz t)) => ?_) ?_; (on_goal 1 => (try clear_value zz; rename' zz => zy, hz => hf)); (on_goal 2 => (subst zz; intro _ _; beta_reduce))) | (refine (fun (hz : ∀ t, Tidy pq (zz t)) => ?_) ?_; (on_goal 1 => (try clear_value zz; rename' zz => zy, hz => hf)); (on_goal 2 => (subst zz; intro _; beta_reduce))) | (try clear_value zz; rename' zz => zy)) | with_reducible (first | apply State.applyCkpt_tidy | apply State.relayTables_tidy | apply State.setF_tidy | apply State.setCommitNext_tidy | apply State.setOrderNext_tidy | apply tidy1_mk | apply tidy2_mk | apply map_tidyS | apply map_tidyS_of2 | apply map_tidyS_any | apply tidyS_none | apply tidyS_some | apply tidyS1_none | apply tidyS2_none) | with_reducible (apply tidy_fst; first | apply tidy1_ite) | with_reducible (apply tidy_snd; first | apply tidy2_ite) | split | with_reducible (first | apply tidy_ite | apply tidy1_ite | apply tidy2_ite) | with_reducible (fail_if_no_progress apply tidy_mk) | with_reducible (apply hf) | with_reducible (first | refine of1 ?_ (by assumption) | refine of2 ?_ (by assumption) | refine ofS ?_ (by assumption) | refine ofS1 ?_ (by assumption) | refine ofS2 ?_ (by assumption) | refine ofS3 ?_ (by assumption) | refine of3 ?_ (by assumption)) | dsimp only)

theorem State.takeUnit_tidy {pq} {s : State} {n : ℕ} {aa : SyncUnit} (hs : Tidy pq s) : Tidy pq (State.takeUnit s n aa) := by
  cases aa with
  | record m b =>
    simp only [State.takeUnit]
    exact State.write_tidy hs
  | mem a b =>
    simp only [State.takeUnit]
    exact tidy_ite (State.write_tidy hs) hs
  | engines g x y =>
    simp only [State.takeUnit]
    exact tidy_mk hs
  | regs l =>
    simp only [State.takeUnit]
    exact tidy_regs hs (keysRise_foldl_sins _ (keysRise_filter _ hs.regs))
  | nodes p l =>
    simp only [State.takeUnit]
    exact State.countNodes_tidy (State.setPort_tidy hs)
  | key m b dest usage gen =>
    simp only [State.takeUnit]
    split
    · exact State.loadSlot_tidy hs
    · exact hs
  | done =>
    simp only [State.takeUnit]
    exact State.finishCopy_tidy hs

theorem execTwinSyncDataRx_tidy {pq} {unit : SyncUnit} {tagOk : Bool} {s : State} (hs : Tidy pq s) : TidyO pq (execTwinSyncDataRx unit tagOk s) := by
  unfold execTwinSyncDataRx
  repeat' (first | with_reducible assumption | with_reducible intro _ | with_reducible (first | apply idle_tidy | apply State.onRecord_tidy | apply State.copiedTo_tidy | apply State.takeUnit_tidy | apply tidyO_next | apply tidyS_none | apply tidyS_some | apply tidyS1_none | apply tidyS2_none) | split | with_reducible (first | apply tidy_ite | apply tidyO_ite) | with_reducible (fail_if_no_progress apply tidy_mk) | with_reducible (first | refine of1 ?_ (by assumption) | refine of2 ?_ (by assumption) | refine ofS ?_ (by assumption) | refine ofS1 ?_ (by assumption) | refine ofS2 ?_ (by assumption) | refine ofS3 ?_ (by assumption) | refine of3 ?_ (by assumption)) | dsimp only)

theorem execTwinSyncComplete_tidy {pq} {s : State} (hs : Tidy pq s) : TidyO pq (execTwinSyncComplete s) := by
  unfold execTwinSyncComplete
  repeat' (first | with_reducible assumption | with_reducible intro _ | (extract_lets +onlyGivenNames zz; first | (refine (fun (hz : Tidy pq zz) => ?_) ?_; (on_goal 1 => (try clear_value zz; rename' zz => zy, hz => hy)); (on_goal 2 => subst zz)) | (try clear_value zz; rename' zz => zy)) | with_reducible (first | apply tidy_ite | apply tidyO_ite | apply State.settling_tidy | apply State.irq_tidy | apply State.caughtUp_tidy | apply State.twinTo_tidy | apply State.set2_tidy | apply State.setF_tidy | apply State.setPaired_tidy | apply idle_tidy | apply tidyO_next | apply tidyS_none | apply tidyS_some | apply tidyS1_none | apply tidyS2_none) | with_reducible (fail_if_no_progress apply tidy_mk) | with_reducible (first | refine of1 ?_ (by assumption) | refine of2 ?_ (by assumption) | refine ofS ?_ (by assumption) | refine ofS1 ?_ (by assumption) | refine ofS2 ?_ (by assumption) | refine ofS3 ?_ (by assumption) | refine of3 ?_ (by assumption)) | dsimp only)

theorem execTwinSyncAbort_tidy {pq} {s : State} (hs : Tidy pq s) : TidyO pq (execTwinSyncAbort s) := by
  unfold execTwinSyncAbort
  repeat' (first | with_reducible assumption | with_reducible (first | apply tidy_ite | apply tidyO_ite | apply State.irq_tidy | apply idle_tidy | apply tidyO_next | apply tidy1_mk | apply tidy2_mk | apply tidyS_none | apply tidyS_some | apply tidyS1_none | apply tidyS2_none) | with_reducible (fail_if_no_progress apply tidy_mk))

theorem execTwinSyncRetry_tidy {pq} {s : State} (hs : Tidy pq s) : TidyO pq (execTwinSyncRetry s) := by
  unfold execTwinSyncRetry
  repeat' (first | with_reducible assumption | with_reducible intro _ | with_reducible (first | apply idle_tidy | apply State.settling_tidy | apply State.twinTo_tidy | apply tidyO_next | apply tidyS_none | apply tidyS_some | apply tidyS1_none | apply tidyS2_none) | split | with_reducible (first | apply tidy_ite | apply tidyO_ite) | with_reducible (fail_if_no_progress apply tidy_mk) | with_reducible (first | refine of1 ?_ (by assumption) | refine of2 ?_ (by assumption) | refine ofS ?_ (by assumption) | refine ofS1 ?_ (by assumption) | refine ofS2 ?_ (by assumption) | refine ofS3 ?_ (by assumption) | refine of3 ?_ (by assumption)) | dsimp only)

theorem State.twinTick_tidy {pq} {s : State} (hs : Tidy pq s) : Tidy pq (State.twinTick s) := by
  unfold State.twinTick
  repeat' (first | with_reducible assumption | with_reducible intro _ | with_reducible (first | apply tidy_ite | apply State.pumpLink_tidy | apply State.settling_tidy | apply State.sendHandover_tidy | apply State.sendDurable_tidy | apply State.takeSnap_tidy | apply State.closeDue'_tidy | apply State.askAgain_tidy | apply State.drainIn_tidy | apply State.drainCaught_tidy | apply State.takeHandover_tidy) | with_reducible (fail_if_no_progress apply tidy_mk))


/-! ## EvrOps -/

theorem State.dropRecord_tidy {pq} {s : State} (hs : Tidy pq s) : Tidy pq (State.dropRecord s) := by
  unfold State.dropRecord
  repeat' (first | with_reducible assumption | (extract_lets +onlyGivenNames zz; first | (refine (fun (hz : Tidy pq zz) => ?_) ?_; (on_goal 1 => (try clear_value zz; rename' zz => zy, hz => hy)); (on_goal 2 => subst zz)) | (refine (fun (hz : ∀ t, Tidy pq t → Tidy pq (zz t)) => ?_) ?_; (on_goal 1 => (try clear_value zz; rename' zz => zy, hz => hf)); (on_goal 2 => (subst zz; intro _ _; beta_reduce))) | (refine (fun (hz : ∀ t, Tidy pq (zz t)) => ?_) ?_; (on_goal 1 => (try clear_value zz; rename' zz => zy, hz => hf)); (on_goal 2 => (subst zz; intro _; beta_reduce))) | (try clear_value zz; rename' zz => zy)) | with_reducible (first | apply State.irq_tidy | apply State.count_tidy) | with_reducible (fail_if_no_progress apply tidy_mk) | with_reducible (apply hf) | with_reducible (first | refine of1 ?_ (by assumption) | refine of2 ?_ (by assumption) | refine ofS ?_ (by assumption) | refine ofS1 ?_ (by assumption) | refine ofS2 ?_ (by assumption) | refine ofS3 ?_ (by assumption) | refine of3 ?_ (by assumption)) | dsimp only)

theorem State.stageAt_tidy {pq} {s : State} {n : ℕ} {r : Bytes} (hs : Tidy pq s) : Tidy pq (State.stageAt s n r) := by
  unfold State.stageAt
  repeat' (first | with_reducible assumption | (extract_lets +onlyGivenNames zz; first | (refine (fun (hz : Tidy pq zz) => ?_) ?_; (on_goal 1 => (try clear_value zz; rename' zz => zy, hz => hy)); (on_goal 2 => subst zz)) | (try clear_value zz; rename' zz => zy)) | with_reducible (first | apply State.write_tidy | apply tidy1_mk | apply tidy2_mk) | with_reducible (fail_if_no_progress apply tidy_mk) | with_reducible (first | refine of1 ?_ (by assumption) | refine of2 ?_ (by assumption) | refine ofS ?_ (by assumption) | refine ofS1 ?_ (by assumption) | refine ofS2 ?_ (by assumption) | refine ofS3 ?_ (by assumption) | refine of3 ?_ (by assumption)) | dsimp only)

theorem State.stageRecord_tidy {pq} {s : State} {r : Bytes} (hs : Tidy pq s) : Tidy pq (State.stageRecord s r) := by
  unfold State.stageRecord
  repeat' (first | with_reducible assumption | with_reducible intro _ | (extract_lets +onlyGivenNames zz; first | (refine (fun (hz : Tidy pq zz) => ?_) ?_; (on_goal 1 => (try clear_value zz; rename' zz => zy, hz => hy)); (on_goal 2 => subst zz)) | (try clear_value zz; rename' zz => zy)) | with_reducible (first | apply State.stageAt_tidy | apply State.dropRecord_tidy | apply tidy1_mk | apply tidy2_mk | apply map_tidyS | apply map_tidyS_of2 | apply map_tidyS_any | apply tidyS_none | apply tidyS_some | apply tidyS1_none | apply tidyS2_none) | split | with_reducible (fail_if_no_progress apply tidy_mk) | with_reducible (first | refine of1 ?_ (by assumption) | refine of2 ?_ (by assumption) | refine ofS ?_ (by assumption) | refine ofS1 ?_ (by assumption) | refine ofS2 ?_ (by assumption) | refine ofS3 ?_ (by assumption) | refine of3 ?_ (by assumption)) | dsimp only)

theorem State.record_tidy {pq} {s : State} {code page flags : ℕ} {data : Bytes} {snap : List (Option ℕ)} (hs : Tidy pq s) : Tidy pq (State.record s code page flags data snap) := by
  unfold State.record
  repeat' (first | with_reducible assumption | (extract_lets +onlyGivenNames zz; first | (refine (fun (hz : Tidy pq zz) => ?_) ?_; (on_goal 1 => (try clear_value zz; rename' zz => zy, hz => hy)); (on_goal 2 => subst zz)) | (try clear_value zz; rename' zz => zy)) | with_reducible (first | apply State.stageRecord_tidy) | with_reducible (fail_if_no_progress apply tidy_mk) | with_reducible (first | refine of1 ?_ (by assumption) | refine of2 ?_ (by assumption) | refine ofS ?_ (by assumption) | refine ofS1 ?_ (by assumption) | refine ofS2 ?_ (by assumption) | refine ofS3 ?_ (by assumption) | refine of3 ?_ (by assumption)) | dsimp only)

theorem State.refilled_tidy {pq} {s : State} (hs : Tidy pq s) : Tidy pq (State.refilled s) := by
  unfold State.refilled
  repeat' (first | with_reducible assumption | (extract_lets +onlyGivenNames zz; first | (refine (fun (hz : Tidy pq zz) => ?_) ?_; (on_goal 1 => (try clear_value zz; rename' zz => zy, hz => hy)); (on_goal 2 => subst zz)) | (try clear_value zz; rename' zz => zy)) | with_reducible (first | apply tidy1_mk | apply tidy2_mk) | with_reducible (fail_if_no_progress apply tidy_mk) | with_reducible (first | refine of1 ?_ (by assumption) | refine of2 ?_ (by assumption) | refine ofS ?_ (by assumption) | refine ofS1 ?_ (by assumption) | refine ofS2 ?_ (by assumption) | refine ofS3 ?_ (by assumption) | refine of3 ?_ (by assumption)) | dsimp only)

theorem State.token1_tidy {pq} {s : State} (hs : Tidy pq s) : TidyS pq (State.token1 s) := by
  unfold State.token1
  repeat' (first | with_reducible assumption | with_reducible (first | apply tidy_ite | apply tidyS_ite | apply tidyS_none | apply tidyS_some | apply tidyS1_none | apply tidyS2_none) | with_reducible (fail_if_no_progress apply tidy_mk))

theorem State.token2_tidy {pq} {s : State} (hs : Tidy pq s) : TidyS pq (State.token2 s) := by
  unfold State.token2
  repeat' (first | with_reducible assumption | with_reducible (first | apply tidy_ite | apply tidyS_ite | apply tidyS_none | apply tidyS_some | apply tidyS1_none | apply tidyS2_none) | with_reducible (fail_if_no_progress apply tidy_mk))

theorem State.coalesce_tidy {pq} {s : State} {code : ℕ} (hs : Tidy pq s) : Tidy pq (State.coalesce s code) := by
  unfold State.coalesce
  repeat' (first | with_reducible assumption | with_reducible intro _ | (extract_lets +onlyGivenNames zz; first | (refine (fun (hz : Tidy pq zz) => ?_) ?_; (on_goal 1 => (try clear_value zz; rename' zz => zy, hz => hy)); (on_goal 2 => subst zz)) | (refine (fun (hz : ∀ t, Tidy pq t → Tidy pq (zz t)) => ?_) ?_; (on_goal 1 => (try clear_value zz; rename' zz => zy, hz => hf)); (on_goal 2 => (subst zz; intro _ _; beta_reduce))) | (refine (fun (hz : ∀ t, Tidy pq (zz t)) => ?_) ?_; (on_goal 1 => (try clear_value zz; rename' zz => zy, hz => hf)); (on_goal 2 => (subst zz; intro _; beta_reduce))) | (try clear_value zz; rename' zz => zy)) | with_reducible (first | apply tidy1_mk | apply tidy2_mk | apply map_tidyS | apply map_tidyS_of2 | apply map_tidyS_any | apply tidy_getD) | with_reducible (fail_if_no_progress apply tidy_mk) | with_reducible (apply hf) | with_reducible (first | refine of1 ?_ (by assumption) | refine of2 ?_ (by assumption) | refine ofS ?_ (by assumption) | refine ofS1 ?_ (by assumption) | refine ofS2 ?_ (by assumption) | refine ofS3 ?_ (by assumption) | refine of3 ?_ (by assumption)) | dsimp only)

theorem State.ownRecord_tidy {pq} {s : State} {e : Ev} {data : Bytes} (hs : Tidy pq s) : Tidy pq (State.ownRecord s e data) := by
  unfold State.ownRecord
  repeat' (first | with_reducible assumption | (extract_lets +onlyGivenNames zz; first | (refine (fun (hz : Tidy pq zz) => ?_) ?_; (on_goal 1 => (try clear_value zz; rename' zz => zy, hz => hy)); (on_goal 2 => subst zz)) | (try clear_value zz; rename' zz => zy)) | with_reducible (first | apply State.refilled_tidy | apply State.record_tidy | apply State.token2_tidy | apply tidy_getD) | with_reducible (first | refine of1 ?_ (by assumption) | refine of2 ?_ (by assumption) | refine ofS ?_ (by assumption) | refine ofS1 ?_ (by assumption) | refine ofS2 ?_ (by assumption) | refine ofS3 ?_ (by assumption) | refine of3 ?_ (by assumption)) | dsimp only)

theorem State.takeEvent_tidy {pq} {s : State} (hs : Tidy pq s) : Tidy pq (State.takeEvent s) := by
  unfold State.takeEvent
  repeat' (first | with_reducible assumption | (extract_lets +onlyGivenNames zz; first | (refine (fun (hz : Tidy pq zz) => ?_) ?_; (on_goal 1 => (try clear_value zz; rename' zz => zy, hz => hy)); (on_goal 2 => subst zz)) | (refine (fun (hz : ∀ t, Tidy pq t → Tidy pq (zz t)) => ?_) ?_; (on_goal 1 => (try clear_value zz; rename' zz => zy, hz => hf)); (on_goal 2 => (subst zz; intro _ _; beta_reduce))) | (refine (fun (hz : ∀ t, Tidy pq (zz t)) => ?_) ?_; (on_goal 1 => (try clear_value zz; rename' zz => zy, hz => hf)); (on_goal 2 => (subst zz; intro _; beta_reduce))) | (try clear_value zz; rename' zz => zy)) | with_reducible (first | apply State.deq_tidy | apply State.refilled_tidy | apply State.record_tidy | apply State.coalesce_tidy | apply State.dropRecord_tidy | apply State.token2_tidy | apply State.token1_tidy | apply tidy1_mk | apply tidy2_mk | apply tidyS_none | apply tidyS_some | apply tidyS1_none | apply tidyS2_none) | with_reducible (apply tidy_fst; first | apply tidy1_ite) | with_reducible (apply tidy_snd; first | apply tidy2_ite) | split | with_reducible (first | apply tidy_ite | apply tidy1_ite | apply tidy2_ite) | with_reducible (fail_if_no_progress apply tidy_mk) | with_reducible (apply hf) | with_reducible (first | refine of1 ?_ (by assumption) | refine of2 ?_ (by assumption) | refine ofS ?_ (by assumption) | refine ofS1 ?_ (by assumption) | refine ofS2 ?_ (by assumption) | refine ofS3 ?_ (by assumption) | refine of3 ?_ (by assumption)) | dsimp only)

theorem State.takeEvents_tidy {pq} {s : State} (hs : Tidy pq s) : Tidy pq (State.takeEvents s) := by
  unfold State.takeEvents
  repeat' (first | with_reducible assumption | with_reducible intro _ | with_reducible (first | apply foldl_tidy | apply foldl_tidy1 | apply State.takeEvent_tidy) | with_reducible (apply tidy_fst; first | apply foldl_tidy1) | with_reducible (apply tidy_snd; first | apply foldl_tidy2))

theorem State.notePermFull_tidy {pq} {s : State} (hs : Tidy pq s) : Tidy pq (State.notePermFull s) := by
  unfold State.notePermFull
  repeat' (first | with_reducible assumption | with_reducible (first | apply tidy_ite | apply State.irq_tidy | apply State.setF_tidy))

theorem State.popStaged_tidy {pq} {s : State} (hs : Tidy pq s) : Tidy pq (State.popStaged s) := by
  unfold State.popStaged
  repeat' (first | with_reducible assumption | with_reducible (first | apply tidy1_mk | apply tidy2_mk) | with_reducible (fail_if_no_progress apply tidy_mk))

theorem State.programNor_tidy {pq} {s : State} {r : Bytes} (hs : Tidy pq s) : Tidy pq (State.programNor s r) := by
  unfold State.programNor
  repeat' (first | with_reducible assumption | (extract_lets +onlyGivenNames zz; first | (refine (fun (hz : Tidy pq zz) => ?_) ?_; (on_goal 1 => (try clear_value zz; rename' zz => zy, hz => hy)); (on_goal 2 => subst zz)) | (try clear_value zz; rename' zz => zy)) | with_reducible (first | apply tidy_ite | apply State.notePermFull_tidy | apply State.popStaged_tidy) | with_reducible (fail_if_no_progress apply tidy_mk) | with_reducible (first | refine of1 ?_ (by assumption) | refine of2 ?_ (by assumption) | refine ofS ?_ (by assumption) | refine ofS1 ?_ (by assumption) | refine ofS2 ?_ (by assumption) | refine ofS3 ?_ (by assumption) | refine of3 ?_ (by assumption)) | dsimp only)

theorem State.programEvfb_tidy {pq} {s : State} {r : Bytes} (hs : Tidy pq s) : Tidy pq (State.programEvfb s r) := by
  unfold State.programEvfb
  repeat' (first | with_reducible assumption | (extract_lets +onlyGivenNames zz; first | (refine (fun (hz : Tidy pq zz) => ?_) ?_; (on_goal 1 => (try clear_value zz; rename' zz => zy, hz => hy)); (on_goal 2 => subst zz)) | (try clear_value zz; rename' zz => zy)) | with_reducible (first | apply State.volWrite_tidy | apply State.irq_tidy | apply State.setF_tidy | apply State.notePermFull_tidy | apply State.popStaged_tidy | apply tidy1_mk | apply tidy2_mk | apply tidyS_none | apply tidyS_some | apply tidyS1_none | apply tidyS2_none) | with_reducible (apply tidy_fst; first | apply tidy1_ite) | with_reducible (apply tidy_snd; first | apply tidy2_ite) | split | with_reducible (first | apply tidy_ite | apply tidy1_ite | apply tidy2_ite) | with_reducible (fail_if_no_progress apply tidy_mk) | with_reducible (first | refine of1 ?_ (by assumption) | refine of2 ?_ (by assumption) | refine ofS ?_ (by assumption) | refine ofS1 ?_ (by assumption) | refine ofS2 ?_ (by assumption) | refine ofS3 ?_ (by assumption) | refine of3 ?_ (by assumption)) | dsimp only)

theorem State.eraseSector_tidy {pq} {s : State} {n : ℕ} (hs : Tidy pq s) : Tidy pq (State.eraseSector s n) := by
  unfold State.eraseSector
  repeat' (first | with_reducible assumption | with_reducible intro _ | with_reducible (first | apply tidy1_mk | apply tidy2_mk) | split | with_reducible (fail_if_no_progress apply tidy_mk) | with_reducible (first | refine of1 ?_ (by assumption) | refine of2 ?_ (by assumption) | refine ofS ?_ (by assumption) | refine ofS1 ?_ (by assumption) | refine ofS2 ?_ (by assumption) | refine ofS3 ?_ (by assumption) | refine of3 ?_ (by assumption)) | dsimp only)

theorem State.kettleSend_tidy {pq} {s : State} {addr : Bytes} {port : ℕ} {m : Bytes} (hs : Tidy pq s) : Tidy pq (State.kettleSend s addr port m) := by
  unfold State.kettleSend
  repeat' (first | with_reducible assumption | with_reducible (first | apply tidy_ite | apply State.count_tidy | apply State.emit_tidy))

theorem State.sendAlarm_tidy {pq} {s : State} (hs : Tidy pq s) : Tidy pq (State.sendAlarm s) := by
  unfold State.sendAlarm
  repeat' (first | with_reducible assumption | (extract_lets +onlyGivenNames zz; first | (refine (fun (hz : Tidy pq zz) => ?_) ?_; (on_goal 1 => (try clear_value zz; rename' zz => zy, hz => hy)); (on_goal 2 => subst zz)) | (try clear_value zz; rename' zz => zy)) | with_reducible (first | apply State.kettleSend_tidy | apply tidy1_mk | apply tidy2_mk | apply tidyS_none | apply tidyS_some | apply tidyS1_none | apply tidyS2_none) | with_reducible (apply tidy_fst; first | apply tidy1_ite) | with_reducible (apply tidy_snd; first | apply tidy2_ite) | split | with_reducible (first | apply tidy_ite | apply tidy1_ite | apply tidy2_ite) | with_reducible (fail_if_no_progress apply tidy_mk) | with_reducible (first | refine of1 ?_ (by assumption) | refine of2 ?_ (by assumption) | refine ofS ?_ (by assumption) | refine ofS1 ?_ (by assumption) | refine ofS2 ?_ (by assumption) | refine ofS3 ?_ (by assumption) | refine of3 ?_ (by assumption)) | dsimp only)

theorem State.saveCounters_tidy {pq} {s : State} (hs : Tidy pq s) : Tidy pq (State.saveCounters s) := by
  unfold State.saveCounters
  repeat' (first | with_reducible assumption | with_reducible (first | apply tidy_ite | apply tidy1_mk | apply tidy2_mk) | with_reducible (fail_if_no_progress apply tidy_mk))

theorem State.norFailed_tidy {pq} {s : State} {cause addr : ℕ} (hs : Tidy pq s) : Tidy pq (State.norFailed s cause addr) := by
  unfold State.norFailed
  repeat' (first | with_reducible assumption | with_reducible intro _ | (extract_lets +onlyGivenNames zz; first | (refine (fun (hz : Tidy pq zz) => ?_) ?_; (on_goal 1 => (try clear_value zz; rename' zz => zy, hz => hy)); (on_goal 2 => subst zz)) | (refine (fun (hz : ∀ t, Tidy pq t → Tidy pq (zz t)) => ?_) ?_; (on_goal 1 => (try clear_value zz; rename' zz => zy, hz => hf)); (on_goal 2 => (subst zz; intro _ _; beta_reduce))) | (refine (fun (hz : ∀ t, Tidy pq (zz t)) => ?_) ?_; (on_goal 1 => (try clear_value zz; rename' zz => zy, hz => hf)); (on_goal 2 => (subst zz; intro _; beta_reduce))) | (try clear_value zz; rename' zz => zy)) | with_reducible (first | apply State.irq_tidy | apply State.setF_tidy | apply State.stageAt_tidy | apply State.sendAlarm_tidy | apply tidy1_mk | apply tidy2_mk | apply tidy_getD) | with_reducible (apply tidy_fst; first | apply tidy1_ite) | with_reducible (apply tidy_snd; first | apply tidy2_ite) | split | with_reducible (first | apply tidy_ite | apply tidy1_ite | apply tidy2_ite | apply tidyS_ite) | with_reducible (fail_if_no_progress apply tidy_mk) | with_reducible (apply hf) | with_reducible (first | refine of1 ?_ (by assumption) | refine of2 ?_ (by assumption) | refine ofS ?_ (by assumption) | refine ofS1 ?_ (by assumption) | refine ofS2 ?_ (by assumption) | refine ofS3 ?_ (by assumption) | refine of3 ?_ (by assumption)) | dsimp only)

theorem State.norRestored_tidy {pq} {s : State} (hs : Tidy pq s) : Tidy pq (State.norRestored s) := by
  unfold State.norRestored
  repeat' (first | with_reducible assumption | with_reducible intro _ | (extract_lets +onlyGivenNames zz; first | (refine (fun (hz : Tidy pq zz) => ?_) ?_; (on_goal 1 => (try clear_value zz; rename' zz => zy, hz => hy)); (on_goal 2 => subst zz)) | (refine (fun (hz : ∀ t, Tidy pq t → Tidy pq (zz t)) => ?_) ?_; (on_goal 1 => (try clear_value zz; rename' zz => zy, hz => hf)); (on_goal 2 => (subst zz; intro _ _; beta_reduce))) | (refine (fun (hz : ∀ t, Tidy pq (zz t)) => ?_) ?_; (on_goal 1 => (try clear_value zz; rename' zz => zy, hz => hf)); (on_goal 2 => (subst zz; intro _; beta_reduce))) | (try clear_value zz; rename' zz => zy)) | with_reducible (first | apply tidy_ite | apply tidy1_ite | apply tidy2_ite | apply foldl_tidy | apply foldl_tidy1 | apply State.ownRecord_tidy | apply State.irq_tidy | apply State.setF_tidy | apply tidy1_mk | apply tidy2_mk | apply map_tidyS | apply map_tidyS_of2 | apply map_tidyS_any | apply tidyS_none | apply tidyS_some | apply tidyS1_none | apply tidyS2_none) | with_reducible (apply tidy_fst; first | apply foldl_tidy1 | apply tidy1_ite) | with_reducible (apply tidy_snd; first | apply foldl_tidy2 | apply tidy2_ite) | with_reducible (fail_if_no_progress apply tidy_mk) | with_reducible (apply hf) | with_reducible (first | refine of1 ?_ (by assumption) | refine of2 ?_ (by assumption) | refine ofS ?_ (by assumption) | refine ofS1 ?_ (by assumption) | refine ofS2 ?_ (by assumption) | refine ofS3 ?_ (by assumption) | refine of3 ?_ (by assumption)) | dsimp only)

theorem State.probeNor_tidy {pq} {s : State} {answer : Option (BitVec 24)} (hs : Tidy pq s) : Tidy pq (State.probeNor s answer) := by
  unfold State.probeNor
  repeat' (first | with_reducible assumption | (extract_lets +onlyGivenNames zz; first | (refine (fun (hz : Tidy pq zz) => ?_) ?_; (on_goal 1 => (try clear_value zz; rename' zz => zy, hz => hy)); (on_goal 2 => subst zz)) | (try clear_value zz; rename' zz => zy)) | with_reducible (first | apply State.norFailed_tidy | apply State.setF_tidy | apply State.norRestored_tidy | apply tidyS_none | apply tidyS_some | apply tidyS1_none | apply tidyS2_none) | split | with_reducible (first | apply tidy_ite) | with_reducible (fail_if_no_progress apply tidy_mk) | with_reducible (first | refine of1 ?_ (by assumption) | refine of2 ?_ (by assumption) | refine ofS ?_ (by assumption) | refine ofS1 ?_ (by assumption) | refine ofS2 ?_ (by assumption) | refine ofS3 ?_ (by assumption) | refine of3 ?_ (by assumption)) | dsimp only)


/-! ## Evr -/

theorem execEvrItemTake_tidy {pq} {parity : ℕ} {s : State} (hs : Tidy pq s) : TidyO pq (execEvrItemTake parity s) := by
  unfold execEvrItemTake
  repeat' (first | with_reducible assumption | with_reducible (first | apply tidy_ite | apply tidyO_ite | apply idle_tidy | apply State.takeEvent_tidy | apply State.faultFront_tidy | apply tidyO_next))

theorem execEvrSummaryWrite_tidy {pq} {s : State} (hs : Tidy pq s) : TidyO pq (execEvrSummaryWrite s) := by
  unfold execEvrSummaryWrite
  repeat' (first | with_reducible assumption | with_reducible (first | apply idle_tidy | apply State.token2_tidy | apply State.refilled_tidy | apply State.record_tidy | apply tidyO_next | apply tidy1_mk | apply tidy2_mk) | split | with_reducible (fail_if_no_progress apply tidy_mk) | with_reducible (first | refine of1 ?_ (by assumption) | refine of2 ?_ (by assumption) | refine ofS ?_ (by assumption) | refine ofS1 ?_ (by assumption) | refine ofS2 ?_ (by assumption) | refine ofS3 ?_ (by assumption) | refine of3 ?_ (by assumption)) | dsimp only)

theorem execEvrNorProgram_tidy {pq} {s : State} (hs : Tidy pq s) : TidyO pq (execEvrNorProgram s) := by
  unfold execEvrNorProgram
  repeat' (first | with_reducible assumption | with_reducible (first | apply idle_tidy | apply State.programEvfb_tidy | apply State.programNor_tidy | apply tidyO_next | apply tidy1_mk | apply tidy2_mk) | with_reducible (apply tidy_fst; first | apply tidy1_ite) | with_reducible (apply tidy_snd; first | apply tidy2_ite) | split | with_reducible (first | apply tidy_ite | apply tidyO_ite | apply tidy1_ite | apply tidy2_ite) | with_reducible (fail_if_no_progress apply tidy_mk) | with_reducible (first | refine of1 ?_ (by assumption) | refine of2 ?_ (by assumption) | refine ofS ?_ (by assumption) | refine ofS1 ?_ (by assumption) | refine ofS2 ?_ (by assumption) | refine ofS3 ?_ (by assumption) | refine of3 ?_ (by assumption)) | dsimp only)

theorem execEvrSectorErase_tidy {pq} {s : State} (hs : Tidy pq s) : TidyO pq (execEvrSectorErase s) := by
  unfold execEvrSectorErase
  repeat' (first | with_reducible assumption | with_reducible (first | apply idle_tidy | apply State.eraseSector_tidy | apply tidyO_next) | split | with_reducible (first | apply tidy_ite | apply tidyO_ite) | with_reducible (fail_if_no_progress apply tidy_mk) | with_reducible (first | refine of1 ?_ (by assumption) | refine of2 ?_ (by assumption) | refine ofS ?_ (by assumption) | refine ofS1 ?_ (by assumption) | refine ofS2 ?_ (by assumption) | refine ofS3 ?_ (by assumption) | refine of3 ?_ (by assumption)) | dsimp only)

theorem execEvrCounterSave_tidy {pq} {s : State} (hs : Tidy pq s) : TidyO pq (execEvrCounterSave s) := by
  unfold execEvrCounterSave
  repeat' (first | with_reducible assumption | with_reducible (first | apply tidy_ite | apply tidyO_ite | apply State.saveCounters_tidy | apply idle_tidy | apply tidyO_next))

theorem execEvrSwCode_tidy {pq} {req : Req} {data : Word} {s : State} (hs : Tidy pq s) : TidyO pq (execEvrSwCode req data s) := by
  unfold execEvrSwCode
  repeat' (first | with_reducible assumption | with_reducible intro _ | (extract_lets +onlyGivenNames zz; first | (refine (fun (hz : Tidy pq zz) => ?_) ?_; (on_goal 1 => (try clear_value zz; rename' zz => zy, hz => hy)); (on_goal 2 => subst zz)) | (try clear_value zz; rename' zz => zy)) | with_reducible (first | apply tidy_ite | apply tidyO_ite | apply State.onAction_tidy | apply State.refuseAt_tidy | apply State.event_tidy | apply tidyO_next | apply idle_tidy) | with_reducible (first | refine of1 ?_ (by assumption) | refine of2 ?_ (by assumption) | refine ofS ?_ (by assumption) | refine ofS1 ?_ (by assumption) | refine ofS2 ?_ (by assumption) | refine ofS3 ?_ (by assumption) | refine of3 ?_ (by assumption)) | dsimp only)

theorem execEvrRead_tidy {pq} {req : Req} {s : State} (hs : Tidy pq s) : TidyO pq (execEvrRead req s) := by
  unfold execEvrRead
  repeat' (first | with_reducible assumption | with_reducible intro _ | (extract_lets +onlyGivenNames zz; first | (refine (fun (hz : Tidy pq zz) => ?_) ?_; (on_goal 1 => (try clear_value zz; rename' zz => zy, hz => hy)); (on_goal 2 => subst zz)) | (try clear_value zz; rename' zz => zy)) | with_reducible (first | apply tidy_ite | apply tidyO_ite | apply tidy1_ite | apply tidy2_ite | apply State.onField_tidy | apply State.setF_tidy | apply State.setBytes_tidy | apply tidyO_next | apply idle_tidy | apply tidy1_mk | apply tidy2_mk) | with_reducible (apply tidy_fst; first | apply tidy1_ite) | with_reducible (apply tidy_snd; first | apply tidy2_ite) | with_reducible (first | refine of1 ?_ (by assumption) | refine of2 ?_ (by assumption) | refine ofS ?_ (by assumption) | refine ofS1 ?_ (by assumption) | refine ofS2 ?_ (by assumption) | refine ofS3 ?_ (by assumption) | refine of3 ?_ (by assumption)) | dsimp only)

theorem State.clearLog_tidy {pq} {s : State} {req : Req} (hs : Tidy pq s) : Tidy pq (State.clearLog s req) := by
  unfold State.clearLog
  repeat' (first | with_reducible assumption | with_reducible intro _ | (extract_lets +onlyGivenNames zz; first | (refine (fun (hz : Tidy pq zz) => ?_) ?_; (on_goal 1 => (try clear_value zz; rename' zz => zy, hz => hy)); (on_goal 2 => subst zz)) | (try clear_value zz; rename' zz => zy)) | with_reducible (first | apply State.ownRecord_tidy | apply State.irq_tidy | apply tidy1_mk | apply tidy2_mk) | with_reducible (fail_if_no_progress apply tidy_mk) | with_reducible (first | refine of1 ?_ (by assumption) | refine of2 ?_ (by assumption) | refine ofS ?_ (by assumption) | refine ofS1 ?_ (by assumption) | refine ofS2 ?_ (by assumption) | refine ofS3 ?_ (by assumption) | refine of3 ?_ (by assumption)) | dsimp only)

theorem execEvrClear_tidy {pq} {req : Req} {s : State} (hs : Tidy pq s) : TidyO pq (execEvrClear req s) := by
  unfold execEvrClear
  repeat' (first | with_reducible assumption | with_reducible intro _ | with_reducible (first | apply tidy_ite | apply tidyO_ite | apply State.onField_tidy | apply State.clearLog_tidy | apply State.refuseAt_tidy | apply tidyO_next | apply idle_tidy))

theorem execEvrNorFail_tidy {pq} {cause : BitVec 3} {addr : BitVec 24} {s : State} (hs : Tidy pq s) : TidyO pq (execEvrNorFail cause addr s) := by
  unfold execEvrNorFail
  repeat' (first | with_reducible assumption | with_reducible (first | apply idle_tidy | apply State.norFailed_tidy | apply tidyO_next) | split | with_reducible (first | apply tidy_ite | apply tidyO_ite) | with_reducible (fail_if_no_progress apply tidy_mk) | with_reducible (first | refine of1 ?_ (by assumption) | refine of2 ?_ (by assumption) | refine ofS ?_ (by assumption) | refine ofS1 ?_ (by assumption) | refine ofS2 ?_ (by assumption) | refine ofS3 ?_ (by assumption) | refine of3 ?_ (by assumption)) | dsimp only)

theorem execEvrAlarmRepeat_tidy {pq} {s : State} (hs : Tidy pq s) : TidyO pq (execEvrAlarmRepeat s) := by
  unfold execEvrAlarmRepeat
  repeat' (first | with_reducible assumption | with_reducible (first | apply State.sendAlarm_tidy | apply tidyO_next | apply idle_tidy))

theorem execEvrNorRetry_tidy {pq} {req : Req} {answer : Option (BitVec 24)} {s : State} (hs : Tidy pq s) : TidyO pq (execEvrNorRetry req answer s) := by
  unfold execEvrNorRetry
  repeat' (first | with_reducible assumption | with_reducible intro _ | with_reducible (first | apply State.onField_tidy | apply State.probeNor_tidy | apply tidyO_next | apply idle_tidy))


/-! ## Replay -/

theorem State.after'_tidy {pq} {s : State} {f : State → Host.Outcome State Fault Refusal} (hs : Tidy pq s) (hf : ∀ t, Tidy pq t → TidyO pq (f t)) : Tidy pq (State.after' s f) := by
  obtain ⟨t, ht, h⟩ := hf s hs
  unfold State.after'
  rw [ht]
  exact h

theorem State.loadLedger_tidy {pq} {s : State} {c : Checkpoint} (hs : Tidy pq s) : Tidy pq (State.loadLedger s c) := by
  unfold State.loadLedger
  exact foldl_tidy (fun _ _ h => State.ledgerInsert_tidy h) hs

theorem State.loadRecord_tidy {pq} {s : State} {m : ℕ} {b : Bytes} (hs : Tidy pq s) : Tidy pq (State.loadRecord s m b) := by
  unfold State.loadRecord
  repeat' (first | with_reducible assumption | (extract_lets +onlyGivenNames zz; first | (refine (fun (hz : Tidy pq zz) => ?_) ?_; (on_goal 1 => (try clear_value zz; rename' zz => zy, hz => hy)); (on_goal 2 => subst zz)) | (try clear_value zz; rename' zz => zy)) | with_reducible (first | apply State.write_tidy | apply State.setRec_tidy) | with_reducible (first | refine of1 ?_ (by assumption) | refine of2 ?_ (by assumption) | refine ofS ?_ (by assumption) | refine ofS1 ?_ (by assumption) | refine ofS2 ?_ (by assumption) | refine ofS3 ?_ (by assumption) | refine of3 ?_ (by assumption)) | dsimp only)

theorem State.countAudit_tidy {pq} {s : State} {l : List ℕ} (hs : Tidy pq s) : Tidy pq (State.countAudit s l) := by
  unfold State.countAudit
  repeat' (first | with_reducible assumption | with_reducible intro _ | with_reducible (first | apply State.setF_tidy))

theorem State.loadCheckpoint_tidy {pq} {s : State} {c : Checkpoint} (hs : Tidy pq s) : Tidy pq (State.loadCheckpoint s c) := by
  unfold State.loadCheckpoint
  extract_lets +onlyGivenNames early a b c d t u v w
  have ht : Tidy pq t := ⟨hs.pending, hs.mem, keysRise_foldl_sins _ (keysRise_filter _ hs.regs), hs.eff, hs.queues⟩
  have hu : Tidy pq u := State.setF_tidy ht
  have hv : Tidy pq v := foldl_tidy (fun _ _ h => State.setByte_tidy h) hu
  have hw : Tidy pq w := tidy_mk hv
  exact State.countAudit_tidy (foldl_tidy (fun _ _ h => State.loadRecord_tidy h) hw)

theorem State.rebuildRecord_tidy {pq} {s : State} {m : ℕ} (hs : Tidy pq s) : Tidy pq (State.rebuildRecord s m) := by
  unfold State.rebuildRecord
  repeat' (first | with_reducible assumption | (extract_lets +onlyGivenNames zz; first | (refine (fun (hz : Tidy pq zz) => ?_) ?_; (on_goal 1 => (try clear_value zz; rename' zz => zy, hz => hy)); (on_goal 2 => subst zz)) | (refine (fun (hz : ∀ t, Tidy pq t → Tidy pq (zz t)) => ?_) ?_; (on_goal 1 => (try clear_value zz; rename' zz => zy, hz => hf)); (on_goal 2 => (subst zz; intro _ _; beta_reduce))) | (refine (fun (hz : ∀ t, Tidy pq (zz t)) => ?_) ?_; (on_goal 1 => (try clear_value zz; rename' zz => zy, hz => hf)); (on_goal 2 => (subst zz; intro _; beta_reduce))) | (try clear_value zz; rename' zz => zy)) | with_reducible (first | apply State.dirFind_tidy | apply State.dirPlace_tidy | apply State.putRoute_tidy | apply State.event_tidy | apply State.setRec_tidy | apply tidy1_mk | apply tidy2_mk | apply tidyS_none | apply tidyS_some | apply tidyS1_none | apply tidyS2_none) | with_reducible (apply tidy_fst; first | apply State.dirFind_tidy | apply State.dirPlace_tidy | apply State.putRoute_tidy | apply tidy1_ite) | with_reducible (apply tidy_snd; first | apply tidy2_ite) | split | with_reducible (first | apply tidy_ite | apply tidy1_ite | apply tidy2_ite) | with_reducible (fail_if_no_progress apply tidy_mk) | with_reducible (apply hf) | with_reducible (first | refine of1 ?_ (by assumption) | refine of2 ?_ (by assumption) | refine ofS ?_ (by assumption) | refine ofS1 ?_ (by assumption) | refine ofS2 ?_ (by assumption) | refine ofS3 ?_ (by assumption) | refine of3 ?_ (by assumption)) | dsimp only)

theorem State.rebuild_tidy {pq} {s : State} {c : Option Checkpoint} (hs : Tidy pq s) : Tidy pq (State.rebuild s c) := by
  unfold State.rebuild
  repeat' (first | with_reducible assumption | (extract_lets +onlyGivenNames zz; first | (refine (fun (hz : Tidy pq zz) => ?_) ?_; (on_goal 1 => (try clear_value zz; rename' zz => zy, hz => hy)); (on_goal 2 => subst zz)) | (try clear_value zz; rename' zz => zy)) | with_reducible (first | apply foldl_tidy | apply foldl_tidy1 | apply State.rebuildRecord_tidy | apply State.loadLedger_tidy | apply State.irq_tidy | apply State.setF_tidy | apply tidyS_none | apply tidyS_some | apply tidyS1_none | apply tidyS2_none) | with_reducible (apply tidy_fst; first | apply foldl_tidy1) | with_reducible (apply tidy_snd; first | apply foldl_tidy2) | split | with_reducible (fail_if_no_progress apply tidy_mk) | with_reducible (first | refine of1 ?_ (by assumption) | refine of2 ?_ (by assumption) | refine ofS ?_ (by assumption) | refine ofS1 ?_ (by assumption) | refine ofS2 ?_ (by assumption) | refine ofS3 ?_ (by assumption) | refine of3 ?_ (by assumption)) | dsimp only)

theorem State.drainSweeps_tidy {pq} {s : State} {aa : ℕ} (hs : Tidy pq s) : Tidy pq (State.drainSweeps s aa) := by
  induction aa generalizing s with
  | zero => exact hs
  | succ n ih =>
    unfold State.drainSweeps
    refine tidy_ite hs (ih (tidy_mk ?_))
    exact State.after'_tidy (State.after'_tidy (tidy_mk hs) fun _ h => State.nodeWork_tidy h) fun _ h => State.meterWork_tidy h

theorem State.settleSweeps_tidy {pq} {s : State} (hs : Tidy pq s) : Tidy pq (State.settleSweeps s) := by
  unfold State.settleSweeps
  repeat' (first | with_reducible assumption | with_reducible (first | apply State.drainSweeps_tidy))

theorem State.settleRevisions_tidy {pq} {s : State} (hs : Tidy pq s) : Tidy pq (State.settleRevisions s) := by
  unfold State.settleRevisions
  repeat' (first | with_reducible assumption | with_reducible intro _ | with_reducible (first | apply foldl_tidy | apply foldl_tidy1 | apply State.reviseNode_tidy) | with_reducible (apply tidy_fst; first | apply foldl_tidy1) | with_reducible (apply tidy_snd; first | apply foldl_tidy2))

theorem State.replayEnable_tidy {pq} {s : State} {kind : ℕ} (hs : Tidy pq s) : Tidy pq (State.replayEnable s kind) := by
  unfold State.replayEnable
  repeat' (first | with_reducible assumption | with_reducible (first | apply tidy_ite | apply State.setF_tidy))

theorem State.replayMarker_tidy {pq} {s : State} {n kind k at_ gen : ℕ} {skipped : Bool} (hs : Tidy pq s) : Tidy pq (State.replayMarker s n kind k at_ gen skipped) := by
  unfold State.replayMarker
  repeat' (first | with_reducible assumption | with_reducible intro _ | (extract_lets +onlyGivenNames zz; first | (refine (fun (hz : Tidy pq zz) => ?_) ?_; (on_goal 1 => (try clear_value zz; rename' zz => zy, hz => hy)); (on_goal 2 => subst zz)) | (try clear_value zz; rename' zz => zy)) | with_reducible (first | apply State.replayEnable_tidy | apply State.settleRevisions_tidy | apply State.settleSweeps_tidy | apply State.applyMarker_tidy | apply State.noteMark_tidy | apply State.applyDemand_tidy | apply State.after'_tidy | apply State.applyClose_tidy | apply State.applyCkpt_tidy | apply execCloseSweep_tidy) | split | with_reducible (first | apply tidy_ite) | with_reducible (fail_if_no_progress apply tidy_mk) | with_reducible (first | refine of1 ?_ (by assumption) | refine of2 ?_ (by assumption) | refine ofS ?_ (by assumption) | refine ofS1 ?_ (by assumption) | refine ofS2 ?_ (by assumption) | refine ofS3 ?_ (by assumption) | refine of3 ?_ (by assumption)) | dsimp only)

theorem State.replayToken_tidy {pq} {s : State} {m n : ℕ} {b : Bytes} (hs : Tidy pq s) : Tidy pq (State.replayToken s m n b) := by
  unfold State.replayToken
  repeat' (first | with_reducible assumption | (extract_lets +onlyGivenNames zz; first | (refine (fun (hz : Tidy pq zz) => ?_) ?_; (on_goal 1 => (try clear_value zz; rename' zz => zy, hz => hy)); (on_goal 2 => subst zz)) | (try clear_value zz; rename' zz => zy)) | with_reducible (first | apply tidy_ite | apply State.ledgerInsert_tidy | apply State.tokenEffect_tidy | apply State.touch_tidy | apply State.tokenTold_tidy | apply tidy1_mk | apply tidy2_mk) | with_reducible (first | refine of1 ?_ (by assumption) | refine of2 ?_ (by assumption) | refine ofS ?_ (by assumption) | refine ofS1 ?_ (by assumption) | refine ofS2 ?_ (by assumption) | refine ofS3 ?_ (by assumption) | refine of3 ?_ (by assumption)) | dsimp only)

theorem State.replayTxn_tidy {pq} {s : State} {l : List (Field × ℕ)} {at_ : ℕ} (hs : Tidy pq s) : Tidy pq (State.replayTxn s l at_) := by
  unfold State.replayTxn
  repeat' (first | with_reducible assumption | with_reducible intro _ | (extract_lets +onlyGivenNames zz; first | (refine (fun (hz : Tidy pq zz) => ?_) ?_; (on_goal 1 => (try clear_value zz; rename' zz => zy, hz => hy)); (on_goal 2 => subst zz)) | (try clear_value zz; rename' zz => zy)) | with_reducible (first | apply State.takeReplicas_tidy | apply map_tidyS | apply map_tidyS_of2 | apply map_tidyS_any) | with_reducible (fail_if_no_progress apply tidy_mk) | with_reducible (first | refine of1 ?_ (by assumption) | refine of2 ?_ (by assumption) | refine ofS ?_ (by assumption) | refine ofS1 ?_ (by assumption) | refine ofS2 ?_ (by assumption) | refine ofS3 ?_ (by assumption) | refine of3 ?_ (by assumption)) | dsimp only)

theorem State.replayEntry_tidy {pq} {s : State} {e : Bytes} (hs : Tidy pq s) : Tidy pq (State.replayEntry s e) := by
  unfold State.replayEntry
  repeat' (first | with_reducible assumption | with_reducible intro _ | (extract_lets +onlyGivenNames zz; first | (refine (fun (hz : Tidy pq zz) => ?_) ?_; (on_goal 1 => (try clear_value zz; rename' zz => zy, hz => hy)); (on_goal 2 => subst zz)) | (try clear_value zz; rename' zz => zy)) | with_reducible (first | apply State.learnRoute_tidy | apply State.applyBalCmd_tidy | apply State.applyDirCmd_tidy | apply State.setLastAck_tidy | apply State.commitEffects_tidy | apply State.touch_tidy | apply State.replayMarker_tidy | apply State.replayToken_tidy | apply State.replayTxn_tidy | apply State.applyJoin_tidy) | with_reducible (apply tidy_fst; first | apply State.learnRoute_tidy | apply State.applyBalCmd_tidy | apply State.applyDirCmd_tidy | apply tidy1_ite) | with_reducible (apply tidy_snd; first | apply tidy2_ite) | split | with_reducible (first | apply tidy_ite | apply tidy1_ite | apply tidy2_ite) | with_reducible (fail_if_no_progress apply tidy_mk) | with_reducible (first | refine of1 ?_ (by assumption) | refine of2 ?_ (by assumption) | refine ofS ?_ (by assumption) | refine ofS1 ?_ (by assumption) | refine ofS2 ?_ (by assumption) | refine ofS3 ?_ (by assumption) | refine of3 ?_ (by assumption)) | dsimp only)

theorem State.replayOne_tidy {pq} {s : State} {e : Bytes} (hs : Tidy pq s) : Tidy pq (State.replayOne s e) := by
  unfold State.replayOne
  repeat' (first | with_reducible assumption | with_reducible (first | apply State.replayEntry_tidy) | with_reducible (fail_if_no_progress apply tidy_mk))

theorem State.replayGroup_tidy {pq} {s : State} {from_ : ℕ} {g : List Bytes} (hs : Tidy pq s) : Tidy pq (State.replayGroup s from_ g) := by
  unfold State.replayGroup
  repeat' (first | with_reducible assumption | with_reducible intro _ | (extract_lets +onlyGivenNames zz; first | (refine (fun (hz : Tidy pq zz) => ?_) ?_; (on_goal 1 => (try clear_value zz; rename' zz => zy, hz => hy)); (on_goal 2 => subst zz)) | (refine (fun (hz : ∀ t, Tidy pq t → Tidy pq (zz t)) => ?_) ?_; (on_goal 1 => (try clear_value zz; rename' zz => zy, hz => hf)); (on_goal 2 => (subst zz; intro _ _; beta_reduce))) | (refine (fun (hz : ∀ t, Tidy pq (zz t)) => ?_) ?_; (on_goal 1 => (try clear_value zz; rename' zz => zy, hz => hf)); (on_goal 2 => (subst zz; intro _; beta_reduce))) | (try clear_value zz; rename' zz => zy)) | with_reducible (first | apply tidy_ite | apply foldl_tidy | apply foldl_tidy1 | apply State.set2_tidy | apply State.replayOne_tidy) | with_reducible (apply tidy_fst; first | apply foldl_tidy1) | with_reducible (apply tidy_snd; first | apply foldl_tidy2) | with_reducible (fail_if_no_progress apply tidy_mk) | with_reducible (apply hf) | with_reducible (first | refine of1 ?_ (by assumption) | refine of2 ?_ (by assumption) | refine ofS ?_ (by assumption) | refine ofS1 ?_ (by assumption) | refine ofS2 ?_ (by assumption) | refine ofS3 ?_ (by assumption) | refine of3 ?_ (by assumption)) | dsimp only)

theorem State.replayJournal_tidy {pq} {s : State} {from_ : ℕ} (hs : Tidy pq s) : Tidy pq (State.replayJournal s from_) := by
  unfold State.replayJournal
  repeat' (first | with_reducible assumption | with_reducible intro _ | (extract_lets +onlyGivenNames zz; first | (refine (fun (hz : Tidy pq zz) => ?_) ?_; (on_goal 1 => (try clear_value zz; rename' zz => zy, hz => hy)); (on_goal 2 => subst zz)) | (refine (fun (hz : ∀ t, Tidy pq t → Tidy pq (zz t)) => ?_) ?_; (on_goal 1 => (try clear_value zz; rename' zz => zy, hz => hf)); (on_goal 2 => (subst zz; intro _ _; beta_reduce))) | (refine (fun (hz : ∀ t, Tidy pq (zz t)) => ?_) ?_; (on_goal 1 => (try clear_value zz; rename' zz => zy, hz => hf)); (on_goal 2 => (subst zz; intro _; beta_reduce))) | (try clear_value zz; rename' zz => zy)) | with_reducible (first | apply foldl_tidy | apply foldl_tidy1 | apply State.replayGroup_tidy | apply State.pruneGens_tidy | apply State.setF_tidy | apply tidyS_none | apply tidyS_some | apply tidyS1_none | apply tidyS2_none) | with_reducible (apply tidy_fst; first | apply foldl_tidy1) | with_reducible (apply tidy_snd; first | apply foldl_tidy2) | with_reducible (apply hf) | with_reducible (first | refine of1 ?_ (by assumption) | refine of2 ?_ (by assumption) | refine ofS ?_ (by assumption) | refine ofS1 ?_ (by assumption) | refine ofS2 ?_ (by assumption) | refine ofS3 ?_ (by assumption) | refine of3 ?_ (by assumption)) | dsimp only)

theorem State.restore_tidy {pq} {s : State} (hs : Tidy pq s) : Tidy pq (State.restore s) := by
  unfold State.restore
  repeat' (first | with_reducible assumption | with_reducible intro _ | (extract_lets +onlyGivenNames zz; first | (refine (fun (hz : Tidy pq zz) => ?_) ?_; (on_goal 1 => (try clear_value zz; rename' zz => zy, hz => hy)); (on_goal 2 => subst zz)) | (try clear_value zz; rename' zz => zy)) | with_reducible (first | apply State.setF_tidy | apply State.replayJournal_tidy | apply State.rebuild_tidy | apply State.loadCheckpoint_tidy | apply tidyS_none | apply tidyS_some | apply tidyS1_none | apply tidyS2_none) | split | with_reducible (fail_if_no_progress apply tidy_mk) | with_reducible (first | refine of1 ?_ (by assumption) | refine of2 ?_ (by assumption) | refine ofS ?_ (by assumption) | refine ofS1 ?_ (by assumption) | refine ofS2 ?_ (by assumption) | refine ofS3 ?_ (by assumption) | refine of3 ?_ (by assumption)) | dsimp only)


/-! ## UpdCheck -/

theorem State.restoreSettings_tidy {pq} {s : State} (hs : Tidy pq s) : Tidy pq (State.restoreSettings s) := by
  unfold State.restoreSettings
  repeat' (first | with_reducible assumption | with_reducible intro _ | (extract_lets +onlyGivenNames zz; first | (refine (fun (hz : Tidy pq zz) => ?_) ?_; (on_goal 1 => (try clear_value zz; rename' zz => zy, hz => hy)); (on_goal 2 => subst zz)) | (try clear_value zz; rename' zz => zy)) | with_reducible (first | apply foldl_tidy | apply foldl_tidy1 | apply State.bootWrite_tidy | apply tidyS_none | apply tidyS_some | apply tidyS1_none | apply tidyS2_none | apply tidy_getD) | with_reducible (apply tidy_fst; first | apply foldl_tidy1) | with_reducible (apply tidy_snd; first | apply foldl_tidy2) | split | with_reducible (fail_if_no_progress apply tidy_mk) | with_reducible (first | refine of1 ?_ (by assumption) | refine of2 ?_ (by assumption) | refine ofS ?_ (by assumption) | refine ofS1 ?_ (by assumption) | refine ofS2 ?_ (by assumption) | refine ofS3 ?_ (by assumption) | refine of3 ?_ (by assumption)) | dsimp only)

theorem State.releaseKept_tidy {pq} {s : State} (hs : Tidy pq s) : Tidy pq (State.releaseKept s) := by
  unfold State.releaseKept
  repeat' (first | with_reducible assumption | with_reducible intro _ | with_reducible (first | apply tidy_ite | apply tidy1_mk | apply tidy2_mk | apply tidyS_none | apply tidyS_some | apply tidyS1_none | apply tidyS2_none) | with_reducible (fail_if_no_progress apply tidy_mk))

theorem State.fallBack_tidy {pq} {s : State} {p : ℕ} (hs : Tidy pq s) : Tidy pq (State.fallBack s p) := by
  unfold State.fallBack
  repeat' (first | with_reducible assumption | (extract_lets +onlyGivenNames zz; first | (refine (fun (hz : Tidy pq zz) => ?_) ?_; (on_goal 1 => (try clear_value zz; rename' zz => zy, hz => hy)); (on_goal 2 => subst zz)) | (try clear_value zz; rename' zz => zy)) | with_reducible (first | apply State.setPart_tidy | apply State.releaseKept_tidy | apply State.restoreSettings_tidy | apply State.event_tidy | apply State.count_tidy | apply State.irq_tidy | apply tidy1_mk | apply tidy2_mk) | with_reducible (fail_if_no_progress apply tidy_mk) | with_reducible (first | refine of1 ?_ (by assumption) | refine of2 ?_ (by assumption) | refine ofS ?_ (by assumption) | refine ofS1 ?_ (by assumption) | refine ofS2 ?_ (by assumption) | refine ofS3 ?_ (by assumption) | refine of3 ?_ (by assumption)) | dsimp only)


/-! ## BootOps -/

theorem State.resetMasks_tidy {pq} {s : State} (hs : Tidy pq s) : Tidy pq (State.resetMasks s) := by
  unfold State.resetMasks
  repeat' (first | with_reducible assumption | with_reducible intro _ | with_reducible (first | apply foldl_tidy | apply foldl_tidy1 | apply State.setF_tidy) | with_reducible (apply tidy_fst; first | apply foldl_tidy1) | with_reducible (apply tidy_snd; first | apply foldl_tidy2))

theorem State.loadTb0_tidy {pq} {s : State} (hs : Tidy pq s) : Tidy pq (State.loadTb0 s) := by
  unfold State.loadTb0
  repeat' (first | with_reducible assumption | (extract_lets +onlyGivenNames zz; first | (refine (fun (hz : Tidy pq zz) => ?_) ?_; (on_goal 1 => (try clear_value zz; rename' zz => zy, hz => hy)); (on_goal 2 => subst zz)) | (refine (fun (hz : ∀ t, Tidy pq t → Tidy pq (zz t)) => ?_) ?_; (on_goal 1 => (try clear_value zz; rename' zz => zy, hz => hf)); (on_goal 2 => (subst zz; intro _ _; beta_reduce))) | (refine (fun (hz : ∀ t, Tidy pq (zz t)) => ?_) ?_; (on_goal 1 => (try clear_value zz; rename' zz => zy, hz => hf)); (on_goal 2 => (subst zz; intro _; beta_reduce))) | (try clear_value zz; rename' zz => zy)) | with_reducible (first | apply State.setF_tidy) | with_reducible (fail_if_no_progress apply tidy_mk) | with_reducible (apply hf) | with_reducible (first | refine of1 ?_ (by assumption) | refine of2 ?_ (by assumption) | refine ofS ?_ (by assumption) | refine ofS1 ?_ (by assumption) | refine ofS2 ?_ (by assumption) | refine ofS3 ?_ (by assumption) | refine of3 ?_ (by assumption)) | dsimp only)

theorem State.startRecorder_tidy {pq} {s : State} {nor : Option (BitVec 24)} (hs : Tidy pq s) : Tidy pq (State.startRecorder s nor) := by
  unfold State.startRecorder
  repeat' (first | with_reducible assumption | (extract_lets +onlyGivenNames zz; first | (refine (fun (hz : Tidy pq zz) => ?_) ?_; (on_goal 1 => (try clear_value zz; rename' zz => zy, hz => hy)); (on_goal 2 => subst zz)) | (refine (fun (hz : ∀ t, Tidy pq t → Tidy pq (zz t)) => ?_) ?_; (on_goal 1 => (try clear_value zz; rename' zz => zy, hz => hf)); (on_goal 2 => (subst zz; intro _ _; beta_reduce))) | (refine (fun (hz : ∀ t, Tidy pq (zz t)) => ?_) ?_; (on_goal 1 => (try clear_value zz; rename' zz => zy, hz => hf)); (on_goal 2 => (subst zz; intro _; beta_reduce))) | (try clear_value zz; rename' zz => zy)) | with_reducible (first | apply tidy_ite | apply tidy1_ite | apply tidy2_ite | apply State.probeNor_tidy | apply State.setF_tidy | apply State.ownRecord_tidy | apply State.saveCounters_tidy | apply tidy1_mk | apply tidy2_mk) | with_reducible (apply tidy_fst; first | apply tidy1_ite) | with_reducible (apply tidy_snd; first | apply tidy2_ite) | with_reducible (fail_if_no_progress apply tidy_mk) | with_reducible (apply hf) | with_reducible (first | refine of1 ?_ (by assumption) | refine of2 ?_ (by assumption) | refine ofS ?_ (by assumption) | refine ofS1 ?_ (by assumption) | refine ofS2 ?_ (by assumption) | refine ofS3 ?_ (by assumption) | refine of3 ?_ (by assumption)) | dsimp only)

theorem State.bootBegin_tidy {pq} {s : State} {nor : Option (BitVec 24)} (hs : Tidy pq s) : Tidy pq (State.bootBegin s nor) := by
  unfold State.bootBegin
  repeat' (first | with_reducible assumption | (extract_lets +onlyGivenNames zz; first | (refine (fun (hz : Tidy pq zz) => ?_) ?_; (on_goal 1 => (try clear_value zz; rename' zz => zy, hz => hy)); (on_goal 2 => subst zz)) | (refine (fun (hz : ∀ t, Tidy pq t → Tidy pq (zz t)) => ?_) ?_; (on_goal 1 => (try clear_value zz; rename' zz => zy, hz => hf)); (on_goal 2 => (subst zz; intro _ _; beta_reduce))) | (refine (fun (hz : ∀ t, Tidy pq (zz t)) => ?_) ?_; (on_goal 1 => (try clear_value zz; rename' zz => zy, hz => hf)); (on_goal 2 => (subst zz; intro _; beta_reduce))) | (try clear_value zz; rename' zz => zy)) | with_reducible (first | apply tidy_ite | apply State.powerDown_tidy | apply State.setF_tidy | apply State.ownerReset_tidy | apply State.resetMasks_tidy | apply State.startDomain_tidy | apply State.loadTb0_tidy | apply State.startRecorder_tidy | apply tidy1_mk | apply tidy2_mk | apply tidyS_none | apply tidyS_some | apply tidyS1_none | apply tidyS2_none) | with_reducible (fail_if_no_progress apply tidy_mk) | with_reducible (apply hf) | with_reducible (first | refine of1 ?_ (by assumption) | refine of2 ?_ (by assumption) | refine ofS ?_ (by assumption) | refine ofS1 ?_ (by assumption) | refine ofS2 ?_ (by assumption) | refine ofS3 ?_ (by assumption) | refine of3 ?_ (by assumption)) | dsimp only)

theorem State.readFuses_tidy {pq} {s : State} (hs : Tidy pq s) : Tidy pq (State.readFuses s) := by
  unfold State.readFuses
  repeat' (first | with_reducible assumption | (extract_lets +onlyGivenNames zz; first | (refine (fun (hz : Tidy pq zz) => ?_) ?_; (on_goal 1 => (try clear_value zz; rename' zz => zy, hz => hy)); (on_goal 2 => subst zz)) | (refine (fun (hz : ∀ t, Tidy pq t → Tidy pq (zz t)) => ?_) ?_; (on_goal 1 => (try clear_value zz; rename' zz => zy, hz => hf)); (on_goal 2 => (subst zz; intro _ _; beta_reduce))) | (refine (fun (hz : ∀ t, Tidy pq (zz t)) => ?_) ?_; (on_goal 1 => (try clear_value zz; rename' zz => zy, hz => hf)); (on_goal 2 => (subst zz; intro _; beta_reduce))) | (try clear_value zz; rename' zz => zy)) | with_reducible (first | apply tidy_ite | apply State.setF_tidy) | with_reducible (apply hf) | with_reducible (first | refine of1 ?_ (by assumption) | refine of2 ?_ (by assumption) | refine ofS ?_ (by assumption) | refine ofS1 ?_ (by assumption) | refine ofS2 ?_ (by assumption) | refine ofS3 ?_ (by assumption) | refine of3 ?_ (by assumption)) | dsimp only)

theorem State.readOtp_tidy {pq} {s : State} {f : BootFuses} (hs : Tidy pq s) : Tidy pq (State.readOtp s f) := by
  unfold State.readOtp
  repeat' (first | with_reducible assumption | with_reducible intro _ | (extract_lets +onlyGivenNames zz; first | (refine (fun (hz : Tidy pq zz) => ?_) ?_; (on_goal 1 => (try clear_value zz; rename' zz => zy, hz => hy)); (on_goal 2 => subst zz)) | (refine (fun (hz : ∀ t, Tidy pq t → Tidy pq (zz t)) => ?_) ?_; (on_goal 1 => (try clear_value zz; rename' zz => zy, hz => hf)); (on_goal 2 => (subst zz; intro _ _; beta_reduce))) | (refine (fun (hz : ∀ t, Tidy pq (zz t)) => ?_) ?_; (on_goal 1 => (try clear_value zz; rename' zz => zy, hz => hf)); (on_goal 2 => (subst zz; intro _; beta_reduce))) | (try clear_value zz; rename' zz => zy)) | with_reducible (first | apply State.setF_tidy | apply State.readFuses_tidy | apply tidy1_mk | apply tidy2_mk | apply tidy_getD) | with_reducible (fail_if_no_progress apply tidy_mk) | with_reducible (apply hf) | with_reducible (first | refine of1 ?_ (by assumption) | refine of2 ?_ (by assumption) | refine ofS ?_ (by assumption) | refine ofS1 ?_ (by assumption) | refine ofS2 ?_ (by assumption) | refine ofS3 ?_ (by assumption) | refine of3 ?_ (by assumption)) | dsimp only)

theorem State.enrol_tidy {pq} {s : State} (hs : Tidy pq s) : Tidy2 pq (State.enrol s) := by
  unfold State.enrol
  repeat' (first | with_reducible assumption | (extract_lets +onlyGivenNames zz; first | (refine (fun (hz : Tidy pq zz) => ?_) ?_; (on_goal 1 => (try clear_value zz; rename' zz => zy, hz => hy)); (on_goal 2 => subst zz)) | (try clear_value zz; rename' zz => zy)) | with_reducible (first | apply State.drawBytes_tidy | apply State.event_tidy | apply State.setF_tidy | apply tidy1_mk | apply tidy2_mk) | with_reducible (apply tidy_snd; first | apply State.drawBytes_tidy) | with_reducible (fail_if_no_progress apply tidy_mk) | with_reducible (first | refine of1 ?_ (by assumption) | refine of2 ?_ (by assumption) | refine ofS ?_ (by assumption) | refine ofS1 ?_ (by assumption) | refine ofS2 ?_ (by assumption) | refine ofS3 ?_ (by assumption) | refine of3 ?_ (by assumption)) | dsimp only)

theorem State.formRoot_tidy {pq} {s : State} {b : BootInput} (hs : Tidy pq s) : TidyS pq (State.formRoot s b) := by
  unfold State.formRoot
  repeat' (first | with_reducible assumption | with_reducible intro _ | (extract_lets +onlyGivenNames zz; first | (refine (fun (hz : Tidy pq zz) => ?_) ?_; (on_goal 1 => (try clear_value zz; rename' zz => zy, hz => hy)); (on_goal 2 => subst zz)) | (try clear_value zz; rename' zz => zy)) | with_reducible (first | apply tidy_ite | apply tidy1_ite | apply tidy2_ite | apply tidyS_ite | apply State.enrol_tidy | apply State.setF_tidy | apply tidy1_mk | apply tidy2_mk | apply map_tidyS | apply map_tidyS_of2 | apply map_tidyS_any | apply tidyS_none | apply tidyS_some | apply tidyS1_none | apply tidyS2_none | apply tidy_getD) | with_reducible (apply tidy_fst; first | apply tidy1_ite) | with_reducible (apply tidy_snd; first | apply State.enrol_tidy | apply tidy2_ite) | with_reducible (fail_if_no_progress apply tidy_mk) | with_reducible (first | refine of1 ?_ (by assumption) | refine of2 ?_ (by assumption) | refine ofS ?_ (by assumption) | refine ofS1 ?_ (by assumption) | refine ofS2 ?_ (by assumption) | refine ofS3 ?_ (by assumption) | refine of3 ?_ (by assumption)) | dsimp only)

theorem State.formTrunks_tidy {pq} {s : State} (hs : Tidy pq s) : Tidy pq (State.formTrunks s) := by
  unfold State.formTrunks
  repeat' (first | with_reducible assumption | (extract_lets +onlyGivenNames zz; first | (refine (fun (hz : Tidy pq zz) => ?_) ?_; (on_goal 1 => (try clear_value zz; rename' zz => zy, hz => hy)); (on_goal 2 => subst zz)) | (try clear_value zz; rename' zz => zy)) | with_reducible (first | apply tidy_ite | apply State.setF_tidy | apply tidy1_mk | apply tidy2_mk) | with_reducible (fail_if_no_progress apply tidy_mk) | with_reducible (first | refine of1 ?_ (by assumption) | refine of2 ?_ (by assumption) | refine ofS ?_ (by assumption) | refine ofS1 ?_ (by assumption) | refine ofS2 ?_ (by assumption) | refine ofS3 ?_ (by assumption) | refine of3 ?_ (by assumption)) | dsimp only)

theorem State.bootPart_tidy {pq} {s : State} {b : BootInput} {p : ℕ} (hs : Tidy pq s) : Tidy1 pq (State.bootPart s b p) := by
  unfold State.bootPart
  repeat' (first | with_reducible assumption | (extract_lets +onlyGivenNames zz; first | (refine (fun (hz : Tidy pq zz) => ?_) ?_; (on_goal 1 => (try clear_value zz; rename' zz => zy, hz => hy)); (on_goal 2 => subst zz)) | (refine (fun (hz : ∀ t, Tidy pq t → Tidy pq (zz t)) => ?_) ?_; (on_goal 1 => (try clear_value zz; rename' zz => zy, hz => hf)); (on_goal 2 => (subst zz; intro _ _; beta_reduce))) | (refine (fun (hz : ∀ t, Tidy pq (zz t)) => ?_) ?_; (on_goal 1 => (try clear_value zz; rename' zz => zy, hz => hf)); (on_goal 2 => (subst zz; intro _; beta_reduce))) | (try clear_value zz; rename' zz => zy)) | with_reducible (first | apply tidy_ite | apply tidy1_ite | apply tidy2_ite | apply State.fallBack_tidy | apply tidy1_mk | apply tidy2_mk | apply tidyS_none | apply tidyS_some | apply tidyS1_none | apply tidyS2_none) | with_reducible (apply tidy_fst; first | apply tidy1_ite) | with_reducible (apply tidy_snd; first | apply tidy2_ite) | with_reducible (apply hf) | with_reducible (first | refine of1 ?_ (by assumption) | refine of2 ?_ (by assumption) | refine ofS ?_ (by assumption) | refine ofS1 ?_ (by assumption) | refine ofS2 ?_ (by assumption) | refine ofS3 ?_ (by assumption) | refine of3 ?_ (by assumption)) | dsimp only)

theorem State.showImage_tidy {pq} {s : State} {p copy : ℕ} {b : Bytes} (hs : Tidy pq s) : Tidy pq (State.showImage s p copy b) := by
  unfold State.showImage
  repeat' (first | with_reducible assumption | (extract_lets +onlyGivenNames zz; first | (refine (fun (hz : Tidy pq zz) => ?_) ?_; (on_goal 1 => (try clear_value zz; rename' zz => zy, hz => hy)); (on_goal 2 => subst zz)) | (try clear_value zz; rename' zz => zy)) | with_reducible (first | apply State.setImage_tidy | apply State.setPart_tidy | apply tidy1_mk | apply tidy2_mk) | with_reducible (fail_if_no_progress apply tidy_mk) | with_reducible (first | refine of1 ?_ (by assumption) | refine of2 ?_ (by assumption) | refine ofS ?_ (by assumption) | refine ofS1 ?_ (by assumption) | refine ofS2 ?_ (by assumption) | refine ofS3 ?_ (by assumption) | refine of3 ?_ (by assumption)) | dsimp only)

theorem State.setMasks_tidy {pq} {s : State} {l : List (BitVec 8 × BitVec 6 × BitVec 6)} (hs : Tidy pq s) : Tidy pq (State.setMasks s l) := by
  unfold State.setMasks
  repeat' (first | with_reducible assumption | with_reducible intro _ | (extract_lets +onlyGivenNames zz; first | (refine (fun (hz : Tidy pq zz) => ?_) ?_; (on_goal 1 => (try clear_value zz; rename' zz => zy, hz => hy)); (on_goal 2 => subst zz)) | (refine (fun (hz : ∀ t, Tidy pq t → Tidy pq (zz t)) => ?_) ?_; (on_goal 1 => (try clear_value zz; rename' zz => zy, hz => hf)); (on_goal 2 => (subst zz; intro _ _; beta_reduce))) | (refine (fun (hz : ∀ t, Tidy pq (zz t)) => ?_) ?_; (on_goal 1 => (try clear_value zz; rename' zz => zy, hz => hf)); (on_goal 2 => (subst zz; intro _; beta_reduce))) | (refine (fun (hz : ∀ t e1 e2, Tidy pq t → Tidy pq (zz t e1 e2)) => ?_) ?_; (on_goal 1 => (try clear_value zz; rename' zz => zy, hz => hf)); (on_goal 2 => (subst zz; intro _ _ _ _; beta_reduce))) | (try clear_value zz; rename' zz => zy)) | with_reducible (first | apply tidy_ite | apply tidy1_ite | apply tidy2_ite | apply foldl_tidy | apply foldl_tidy1 | apply setPriv_tidy) | with_reducible (apply tidy_fst; first | apply foldl_tidy1 | apply tidy1_ite) | with_reducible (apply tidy_snd; first | apply foldl_tidy2 | apply tidy2_ite) | with_reducible (fail_if_no_progress apply tidy_mk) | with_reducible (apply hf) | with_reducible (first | refine of1 ?_ (by assumption) | refine of2 ?_ (by assumption) | refine ofS ?_ (by assumption) | refine ofS1 ?_ (by assumption) | refine ofS2 ?_ (by assumption) | refine ofS3 ?_ (by assumption) | refine of3 ?_ (by assumption)) | dsimp only)

theorem State.treeSlot_tidy {pq} {s : State} {n : ℕ} {label : Bytes} {len dest usage : ℕ} (hs : Tidy pq s) : Tidy pq (State.treeSlot s n label len dest usage) := by
  unfold State.treeSlot
  repeat' (first | with_reducible assumption | with_reducible (first | apply tidy_ite | apply State.loadSlot_tidy | apply tidy1_mk | apply tidy2_mk))

theorem State.restoreKek_tidy {pq} {s : State} {n : ℕ} (hs : Tidy pq s) : Tidy pq (State.restoreKek s n) := by
  unfold State.restoreKek
  repeat' (first | with_reducible assumption | with_reducible intro _ | with_reducible (first | apply State.loadSlot_tidy | apply tidy1_mk | apply tidy2_mk | apply bind_tidyS | apply bind_tidyS2 | apply foldl_tidyS | apply tidyS_none | apply tidyS_some | apply tidyS1_none | apply tidyS2_none) | with_reducible (apply tidy_fst; first | apply tidy1_ite) | with_reducible (apply tidy_snd; first | apply tidy2_ite) | split | with_reducible (first | apply tidy_ite | apply tidy1_ite | apply tidy2_ite) | with_reducible (fail_if_no_progress apply tidy_mk) | with_reducible (first | refine of1 ?_ (by assumption) | refine of2 ?_ (by assumption) | refine ofS ?_ (by assumption) | refine ofS1 ?_ (by assumption) | refine ofS2 ?_ (by assumption) | refine ofS3 ?_ (by assumption) | refine of3 ?_ (by assumption)) | dsimp only)

theorem State.restoreKsvc_tidy {pq} {s : State} (hs : Tidy pq s) : Tidy pq (State.restoreKsvc s) := by
  unfold State.restoreKsvc
  repeat' (first | with_reducible assumption | with_reducible intro _ | with_reducible (first | apply State.write_tidy | apply State.clearVkr_tidy | apply tidy1_mk | apply tidy2_mk | apply bind_tidyS | apply bind_tidyS2 | apply foldl_tidyS | apply tidyS_none | apply tidyS_some | apply tidyS1_none | apply tidyS2_none) | with_reducible (apply tidy_fst; first | apply tidy1_ite) | with_reducible (apply tidy_snd; first | apply tidy2_ite) | split | with_reducible (first | apply tidy_ite | apply tidy1_ite | apply tidy2_ite) | with_reducible (fail_if_no_progress apply tidy_mk) | with_reducible (first | refine of1 ?_ (by assumption) | refine of2 ?_ (by assumption) | refine ofS ?_ (by assumption) | refine ofS1 ?_ (by assumption) | refine ofS2 ?_ (by assumption) | refine ofS3 ?_ (by assumption) | refine of3 ?_ (by assumption)) | dsimp only)

theorem State.deriveKeys_tidy {pq} {s : State} (hs : Tidy pq s) : Tidy pq (State.deriveKeys s) := by
  unfold State.deriveKeys
  repeat' (first | with_reducible assumption | (extract_lets +onlyGivenNames zz; first | (refine (fun (hz : Tidy pq zz) => ?_) ?_; (on_goal 1 => (try clear_value zz; rename' zz => zy, hz => hy)); (on_goal 2 => subst zz)) | (refine (fun (hz : ∀ t, Tidy pq t → Tidy pq (zz t)) => ?_) ?_; (on_goal 1 => (try clear_value zz; rename' zz => zy, hz => hf)); (on_goal 2 => (subst zz; intro _ _; beta_reduce))) | (refine (fun (hz : ∀ t, Tidy pq (zz t)) => ?_) ?_; (on_goal 1 => (try clear_value zz; rename' zz => zy, hz => hf)); (on_goal 2 => (subst zz; intro _; beta_reduce))) | (try clear_value zz; rename' zz => zy)) | with_reducible (first | apply State.treeSlot_tidy | apply State.restoreKsvc_tidy | apply State.restoreKek_tidy | apply State.drawBytes_tidy | apply tidy1_mk | apply tidy2_mk | apply tidyS_none | apply tidyS_some | apply tidyS1_none | apply tidyS2_none) | with_reducible (apply tidy_snd; first | apply State.drawBytes_tidy) | split | with_reducible (fail_if_no_progress apply tidy_mk) | with_reducible (apply hf) | with_reducible (first | refine of1 ?_ (by assumption) | refine of2 ?_ (by assumption) | refine ofS ?_ (by assumption) | refine ofS1 ?_ (by assumption) | refine ofS2 ?_ (by assumption) | refine ofS3 ?_ (by assumption) | refine of3 ?_ (by assumption)) | dsimp only)

theorem State.armInField_tidy {pq} {s : State} (hs : Tidy pq s) : Tidy pq (State.armInField s) := by
  unfold State.armInField
  repeat' (first | with_reducible assumption | with_reducible (first | apply tidy_ite | apply State.setF_tidy))

theorem State.takeMedium_tidy {pq} {s : State} {b : BootInput} (hs : Tidy pq s) : Tidy pq (State.takeMedium s b) := by
  unfold State.takeMedium
  repeat' (first | with_reducible assumption | with_reducible intro _ | (extract_lets +onlyGivenNames zz; first | (refine (fun (hz : Tidy pq zz) => ?_) ?_; (on_goal 1 => (try clear_value zz; rename' zz => zy, hz => hy)); (on_goal 2 => subst zz)) | (try clear_value zz; rename' zz => zy)) | with_reducible (first | apply State.discover_tidy | apply State.eraseGood_tidy | apply State.placeFixed_tidy | apply State.placeReserve_tidy | apply tidy1_mk | apply tidy2_mk | apply map_tidyS | apply map_tidyS_of2 | apply map_tidyS_any | apply tidyS_none | apply tidyS_some | apply tidyS1_none | apply tidyS2_none | apply tidy_getD) | with_reducible (apply tidy_fst; first | apply tidy1_ite) | with_reducible (apply tidy_snd; first | apply tidy2_ite) | split | with_reducible (first | apply tidy_ite | apply tidy1_ite | apply tidy2_ite | apply tidyS_ite) | with_reducible (fail_if_no_progress apply tidy_mk) | with_reducible (first | refine of1 ?_ (by assumption) | refine of2 ?_ (by assumption) | refine ofS ?_ (by assumption) | refine ofS1 ?_ (by assumption) | refine ofS2 ?_ (by assumption) | refine ofS3 ?_ (by assumption) | refine of3 ?_ (by assumption)) | dsimp only)

theorem State.bootTrivet_tidy {pq} {s : State} {b : BootInput} (hs : Tidy pq s) : TidyS pq (State.bootTrivet s b) := by
  unfold State.bootTrivet
  repeat' (first | with_reducible assumption | (extract_lets +onlyGivenNames zz; first | (refine (fun (hz : Tidy pq zz) => ?_) ?_; (on_goal 1 => (try clear_value zz; rename' zz => zy, hz => hy)); (on_goal 2 => subst zz)) | (refine (fun (hz : ∀ t, Tidy pq t → Tidy pq (zz t)) => ?_) ?_; (on_goal 1 => (try clear_value zz; rename' zz => zy, hz => hf)); (on_goal 2 => (subst zz; intro _ _; beta_reduce))) | (refine (fun (hz : ∀ t, Tidy pq (zz t)) => ?_) ?_; (on_goal 1 => (try clear_value zz; rename' zz => zy, hz => hf)); (on_goal 2 => (subst zz; intro _; beta_reduce))) | (try clear_value zz; rename' zz => zy)) | with_reducible (first | apply State.bootPart_tidy | apply State.showImage_tidy | apply State.setF_tidy | apply State.setMasks_tidy | apply State.formTrunks_tidy | apply State.write_tidy | apply State.armInField_tidy | apply State.deriveKeys_tidy | apply tidy1_mk | apply tidy2_mk | apply tidyS_none | apply tidyS_some | apply tidyS1_none | apply tidyS2_none) | with_reducible (apply tidy_fst; first | apply State.bootPart_tidy) | split | with_reducible (fail_if_no_progress apply tidy_mk) | with_reducible (apply hf) | with_reducible (first | refine of1 ?_ (by assumption) | refine of2 ?_ (by assumption) | refine ofS ?_ (by assumption) | refine ofS1 ?_ (by assumption) | refine ofS2 ?_ (by assumption) | refine ofS3 ?_ (by assumption) | refine of3 ?_ (by assumption)) | dsimp only)

theorem State.imageFault_tidy {pq} {s : State} {p : ℕ} (hs : Tidy pq s) : Tidy pq (State.imageFault s p) := by
  unfold State.imageFault
  repeat' (first | with_reducible assumption | with_reducible (first | apply State.ownRecord_tidy | apply tidy1_mk | apply tidy2_mk))

theorem State.bootImages_tidy {pq} {s : State} {b : BootInput} (hs : Tidy pq s) : Tidy1 pq (State.bootImages s b) := by
  unfold State.bootImages
  repeat' (first | with_reducible assumption | (extract_lets +onlyGivenNames zz; first | (refine (fun (hz : Tidy pq zz) => ?_) ?_; (on_goal 1 => (try clear_value zz; rename' zz => zy, hz => hy)); (on_goal 2 => subst zz)) | (try clear_value zz; rename' zz => zy)) | with_reducible (first | apply State.bootPart_tidy | apply State.showImage_tidy | apply State.setF_tidy | apply State.imageFault_tidy | apply State.formTrunks_tidy | apply tidy1_mk | apply tidy2_mk | apply tidyS_none | apply tidyS_some | apply tidyS1_none | apply tidyS2_none) | with_reducible (apply tidy_fst; first | apply State.bootPart_tidy | apply tidy1_ite) | with_reducible (apply tidy_snd; first | apply tidy2_ite) | split | with_reducible (first | apply tidy_ite | apply tidy1_ite | apply tidy2_ite) | with_reducible (fail_if_no_progress apply tidy_mk) | with_reducible (first | refine of1 ?_ (by assumption) | refine of2 ?_ (by assumption) | refine ofS ?_ (by assumption) | refine ofS1 ?_ (by assumption) | refine ofS2 ?_ (by assumption) | refine ofS3 ?_ (by assumption) | refine of3 ?_ (by assumption)) | dsimp only)

theorem State.countStarts_tidy {pq} {s : State} (hs : Tidy pq s) : Tidy pq (State.countStarts s) := by
  unfold State.countStarts
  repeat' (first | with_reducible assumption | with_reducible intro _ | with_reducible (first | apply tidy_ite | apply tidy1_ite | apply tidy2_ite | apply foldl_tidy | apply foldl_tidy1 | apply State.fallBack_tidy | apply State.setPart_tidy) | with_reducible (apply tidy_fst; first | apply foldl_tidy1 | apply tidy1_ite) | with_reducible (apply tidy_snd; first | apply foldl_tidy2 | apply tidy2_ite) | with_reducible (fail_if_no_progress apply tidy_mk))

theorem State.bootEnds_tidy {pq} {s : State} {m : Mode} (hs : Tidy pq s) : Tidy pq (State.bootEnds s m) := by
  unfold State.bootEnds
  repeat' (first | with_reducible assumption | (extract_lets +onlyGivenNames zz; first | (refine (fun (hz : Tidy pq zz) => ?_) ?_; (on_goal 1 => (try clear_value zz; rename' zz => zy, hz => hy)); (on_goal 2 => subst zz)) | (try clear_value zz; rename' zz => zy)) | with_reducible (first | apply State.settle_tidy | apply State.toMode_tidy | apply State.setF_tidy | apply tidyS_none | apply tidyS_some | apply tidyS1_none | apply tidyS2_none) | with_reducible (fail_if_no_progress apply tidy_mk) | with_reducible (first | refine of1 ?_ (by assumption) | refine of2 ?_ (by assumption) | refine ofS ?_ (by assumption) | refine ofS1 ?_ (by assumption) | refine ofS2 ?_ (by assumption) | refine ofS3 ?_ (by assumption) | refine of3 ?_ (by assumption)) | dsimp only)

theorem State.bootStays_tidy {pq} {s : State} {m : Mode} (hs : Tidy pq s) : Tidy pq (State.bootStays s m) := by
  unfold State.bootStays
  repeat' (first | with_reducible assumption | with_reducible (first | apply State.bootEnds_tidy | apply State.powerDown_tidy))

theorem State.startAll_tidy {pq} {s : State} (hs : Tidy pq s) : Tidy pq (State.startAll s) := by
  unfold State.startAll
  repeat' (first | with_reducible assumption | with_reducible (first | apply foldl_tidy | apply foldl_tidy1 | apply State.startDomain_tidy | apply tidy1_mk | apply tidy2_mk) | with_reducible (apply tidy_fst; first | apply foldl_tidy1) | with_reducible (apply tidy_snd; first | apply foldl_tidy2) | with_reducible (fail_if_no_progress apply tidy_mk))

theorem State.bootMedium_tidy {pq} {s : State} {ckptOk : Bool} (hs : Tidy pq s) : Tidy pq (State.bootMedium s ckptOk) := by
  unfold State.bootMedium
  repeat' (first | with_reducible assumption | (extract_lets +onlyGivenNames zz; first | (refine (fun (hz : Tidy pq zz) => ?_) ?_; (on_goal 1 => (try clear_value zz; rename' zz => zy, hz => hy)); (on_goal 2 => subst zz)) | (try clear_value zz; rename' zz => zy)) | with_reducible (first | apply tidy_ite | apply State.err_tidy | apply State.mount_tidy | apply State.restore_tidy) | with_reducible (first | refine of1 ?_ (by assumption) | refine of2 ?_ (by assumption) | refine ofS ?_ (by assumption) | refine ofS1 ?_ (by assumption) | refine ofS2 ?_ (by assumption) | refine ofS3 ?_ (by assumption) | refine of3 ?_ (by assumption)) | dsimp only)

end Sys2Proof.Machine
end

