-- ==== Sys2Proof/Laws/TidyStep.lean ====
section
/-! SUPPORT. Tidy states stay tidy: the operations of ModeOps, Lcs, Modes, Msix, Queues, Upd, TxnSet, Txn, Access, Dma, Kettle, Mortar, PtpCmd, Recovery, Idle. One lemma for each operation, proved from the lemmas of the operations it calls. -/

set_option linter.unusedVariables false
set_option linter.unusedTactic false
set_option linter.unreachableTactic false
set_option linter.tactic.unusedName false

namespace Sys2Proof.Machine

/-! ## ModeOps -/

theorem State.endOps_tidy {pq} {s : State} (hs : Tidy pq s) : Tidy pq (State.endOps s) := by
  unfold State.endOps
  repeat' (first | with_reducible assumption | with_reducible intro _ | (extract_lets +onlyGivenNames zz; first | (refine (fun (hz : Tidy pq zz) => ?_) ?_; (on_goal 1 => (try clear_value zz; rename' zz => zy, hz => hy)); (on_goal 2 => subst zz)) | (try clear_value zz; rename' zz => zy)) | with_reducible (first | apply foldl_tidy | apply foldl_tidy1 | apply State.after'_tidy | apply execNandProgramDone_tidy | apply execNandEraseDone_tidy | apply execNandReadDone_tidy | apply tidy1_mk | apply tidy2_mk) | with_reducible (apply tidy_fst; first | apply foldl_tidy1) | with_reducible (apply tidy_snd; first | apply foldl_tidy2) | with_reducible (first | refine of1 ?_ (by assumption) | refine of2 ?_ (by assumption) | refine ofS ?_ (by assumption) | refine ofS1 ?_ (by assumption) | refine ofS2 ?_ (by assumption) | refine ofS3 ?_ (by assumption) | refine of3 ?_ (by assumption)) | dsimp only)

theorem State.finishOps_tidy {pq} {s : State} {aa : Nat} (hs : Tidy pq s) : Tidy pq (State.finishOps s aa) := by
  induction aa generalizing s with
  | zero => exact hs
  | succ n ih =>
    unfold State.finishOps
    exact tidy_ite hs (ih (State.endOps_tidy hs))

theorem State.placeAll_tidy {pq} {s : State} (hs : Tidy pq s) : Tidy pq (State.placeAll s) := by
  unfold State.placeAll
  repeat' (first | with_reducible assumption | with_reducible intro _ | with_reducible (first | apply foldl_tidy | apply foldl_tidy1 | apply State.after'_tidy | apply execFtlPlaceItem_tidy) | with_reducible (apply tidy_fst; first | apply foldl_tidy1) | with_reducible (apply tidy_snd; first | apply foldl_tidy2))

theorem State.closeOpen_tidy {pq} {s : State} (hs : Tidy pq s) : Tidy pq (State.closeOpen s) := by
  unfold State.closeOpen
  repeat' (first | with_reducible assumption | with_reducible (first | apply State.placeAll_tidy | apply State.closeNow_tidy))

theorem State.durableAll_tidy {pq} {s : State} (hs : Tidy pq s) : Tidy pq (State.durableAll s) := by
  unfold State.durableAll
  repeat' (first | with_reducible assumption | with_reducible intro _ | with_reducible (first | apply foldl_tidy | apply foldl_tidy1 | apply State.after'_tidy | apply execGroupDurable_tidy) | with_reducible (apply tidy_fst; first | apply foldl_tidy1) | with_reducible (apply tidy_snd; first | apply foldl_tidy2))

theorem State.drainPath_tidy {pq} {s : State} (hs : Tidy pq s) : Tidy pq (State.drainPath s) := by
  unfold State.drainPath
  repeat' (first | with_reducible assumption | (extract_lets +onlyGivenNames zz; first | (refine (fun (hz : Tidy pq zz) => ?_) ?_; (on_goal 1 => (try clear_value zz; rename' zz => zy, hz => hy)); (on_goal 2 => subst zz)) | (refine (fun (hz : ∀ t, Tidy pq t → Tidy pq (zz t)) => ?_) ?_; (on_goal 1 => (try clear_value zz; rename' zz => zy, hz => hf)); (on_goal 2 => (subst zz; intro _ _; beta_reduce))) | (refine (fun (hz : ∀ t, Tidy pq (zz t)) => ?_) ?_; (on_goal 1 => (try clear_value zz; rename' zz => zy, hz => hf)); (on_goal 2 => (subst zz; intro _; beta_reduce))) | (try clear_value zz; rename' zz => zy)) | with_reducible (first | apply State.closeOpen_tidy | apply State.setF_tidy | apply State.mapFlush_tidy | apply State.durableAll_tidy | apply State.finishOps_tidy) | with_reducible (apply hf) | with_reducible (first | refine of1 ?_ (by assumption) | refine of2 ?_ (by assumption) | refine ofS ?_ (by assumption) | refine ofS1 ?_ (by assumption) | refine ofS2 ?_ (by assumption) | refine ofS3 ?_ (by assumption) | refine of3 ?_ (by assumption)) | dsimp only)

theorem State.stopEnd_tidy {pq} {s : State} (hs : Tidy pq s) : Tidy pq (State.stopEnd s) := by
  unfold State.stopEnd
  repeat' (first | with_reducible assumption | (extract_lets +onlyGivenNames zz; first | (refine (fun (hz : Tidy pq zz) => ?_) ?_; (on_goal 1 => (try clear_value zz; rename' zz => zy, hz => hy)); (on_goal 2 => subst zz)) | (try clear_value zz; rename' zz => zy)) | with_reducible (first | apply State.powerDown_tidy | apply State.toMode_tidy | apply State.setF_tidy | apply tidyS_none | apply tidyS_some | apply tidyS1_none | apply tidyS2_none) | split | with_reducible (first | apply tidy_ite) | with_reducible (fail_if_no_progress apply tidy_mk) | with_reducible (first | refine of1 ?_ (by assumption) | refine of2 ?_ (by assumption) | refine ofS ?_ (by assumption) | refine ofS1 ?_ (by assumption) | refine ofS2 ?_ (by assumption) | refine ofS3 ?_ (by assumption) | refine of3 ?_ (by assumption)) | dsimp only)

theorem State.stopTo_tidy {pq} {s : State} {m : ℕ} (hs : Tidy pq s) : Tidy pq (State.stopTo s m) := by
  unfold State.stopTo
  repeat' (first | with_reducible assumption | (extract_lets +onlyGivenNames zz; first | (refine (fun (hz : Tidy pq zz) => ?_) ?_; (on_goal 1 => (try clear_value zz; rename' zz => zy, hz => hy)); (on_goal 2 => subst zz)) | (try clear_value zz; rename' zz => zy)) | with_reducible (first | apply State.drainPath_tidy | apply State.stopEnd_tidy | apply State.setF_tidy) | with_reducible (fail_if_no_progress apply tidy_mk) | with_reducible (first | refine of1 ?_ (by assumption) | refine of2 ?_ (by assumption) | refine ofS ?_ (by assumption) | refine ofS1 ?_ (by assumption) | refine ofS2 ?_ (by assumption) | refine ofS3 ?_ (by assumption) | refine of3 ?_ (by assumption)) | dsimp only)

theorem State.restart_tidy {pq} {s : State} {cause : ℕ} (hs : Tidy pq s) : Tidy pq (State.restart s cause) := by
  unfold State.restart
  repeat' (first | with_reducible assumption | (extract_lets +onlyGivenNames zz; first | (refine (fun (hz : Tidy pq zz) => ?_) ?_; (on_goal 1 => (try clear_value zz; rename' zz => zy, hz => hy)); (on_goal 2 => subst zz)) | (try clear_value zz; rename' zz => zy)) | with_reducible (first | apply State.powerDown_tidy | apply State.dueStartup_tidy | apply tidy1_mk | apply tidy2_mk | apply tidyS_none | apply tidyS_some | apply tidyS1_none | apply tidyS2_none) | with_reducible (fail_if_no_progress apply tidy_mk) | with_reducible (first | refine of1 ?_ (by assumption) | refine of2 ?_ (by assumption) | refine ofS ?_ (by assumption) | refine ofS1 ?_ (by assumption) | refine ofS2 ?_ (by assumption) | refine ofS3 ?_ (by assumption) | refine of3 ?_ (by assumption)) | dsimp only)

theorem State.lgFrame_tidy {pq} {s : State} (hs : Tidy pq s) : Tidy pq (State.lgFrame s) := by
  unfold State.lgFrame
  repeat' (first | with_reducible assumption | (extract_lets +onlyGivenNames zz; first | (refine (fun (hz : Tidy pq zz) => ?_) ?_; (on_goal 1 => (try clear_value zz; rename' zz => zy, hz => hy)); (on_goal 2 => subst zz)) | (try clear_value zz; rename' zz => zy)) | with_reducible (first | apply tidy_ite | apply State.ethSend_tidy | apply State.paLocal_tidy | apply tidy1_mk | apply tidy2_mk) | with_reducible (fail_if_no_progress apply tidy_mk) | with_reducible (first | refine of1 ?_ (by assumption) | refine of2 ?_ (by assumption) | refine ofS ?_ (by assumption) | refine ofS1 ?_ (by assumption) | refine ofS2 ?_ (by assumption) | refine ofS3 ?_ (by assumption) | refine of3 ?_ (by assumption)) | dsimp only)

theorem State.programsOnly_tidy {pq} {s : State} (hs : Tidy pq s) : Tidy pq (State.programsOnly s) := by
  unfold State.programsOnly
  repeat' (first | with_reducible assumption | with_reducible intro _ | with_reducible (fail_if_no_progress apply tidy_mk))

theorem State.lgMedium_tidy {pq} {s : State} (hs : Tidy pq s) : Tidy1 pq (State.lgMedium s) := by
  unfold State.lgMedium
  repeat' (first | with_reducible assumption | (extract_lets +onlyGivenNames zz; first | (refine (fun (hz : Tidy pq zz) => ?_) ?_; (on_goal 1 => (try clear_value zz; rename' zz => zy, hz => hy)); (on_goal 2 => subst zz)) | (try clear_value zz; rename' zz => zy)) | with_reducible (first | apply tidy_ite | apply tidy1_ite | apply tidy2_ite | apply State.placeAll_tidy | apply State.programsOnly_tidy | apply State.closeOpen_tidy | apply State.mapFlush_tidy | apply State.finishOps_tidy | apply tidy1_mk | apply tidy2_mk) | with_reducible (apply tidy_fst; first | apply tidy1_ite) | with_reducible (apply tidy_snd; first | apply tidy2_ite) | with_reducible (fail_if_no_progress apply tidy_mk) | with_reducible (first | refine of1 ?_ (by assumption) | refine of2 ?_ (by assumption) | refine ofS ?_ (by assumption) | refine ofS1 ?_ (by assumption) | refine ofS2 ?_ (by assumption) | refine ofS3 ?_ (by assumption) | refine of3 ?_ (by assumption)) | dsimp only)

theorem State.lastGasp_tidy {pq} {s : State} {vmain : Bool} (hs : Tidy pq s) : Tidy pq (State.lastGasp s vmain) := by
  unfold State.lastGasp
  repeat' (first | with_reducible assumption | (extract_lets +onlyGivenNames zz; first | (refine (fun (hz : Tidy pq zz) => ?_) ?_; (on_goal 1 => (try clear_value zz; rename' zz => zy, hz => hy)); (on_goal 2 => subst zz)) | (refine (fun (hz : ∀ t, Tidy pq t → Tidy pq (zz t)) => ?_) ?_; (on_goal 1 => (try clear_value zz; rename' zz => zy, hz => hf)); (on_goal 2 => (subst zz; intro _ _; beta_reduce))) | (refine (fun (hz : ∀ t, Tidy pq (zz t)) => ?_) ?_; (on_goal 1 => (try clear_value zz; rename' zz => zy, hz => hf)); (on_goal 2 => (subst zz; intro _; beta_reduce))) | (try clear_value zz; rename' zz => zy)) | with_reducible (first | apply tidy_ite | apply tidy1_ite | apply tidy2_ite | apply State.setF_tidy | apply State.twinTo_tidy | apply State.lgFrame_tidy | apply State.saveCounters_tidy | apply State.ownRecord_tidy | apply State.takeEvents_tidy | apply State.powerDown_tidy | apply State.lgMedium_tidy | apply tidy1_mk | apply tidy2_mk | apply tidyS_none | apply tidyS_some | apply tidyS1_none | apply tidyS2_none) | with_reducible (apply tidy_fst; first | apply State.lgMedium_tidy | apply tidy1_ite) | with_reducible (apply tidy_snd; first | apply tidy2_ite) | with_reducible (fail_if_no_progress apply tidy_mk) | with_reducible (apply hf) | with_reducible (first | refine of1 ?_ (by assumption) | refine of2 ?_ (by assumption) | refine ofS ?_ (by assumption) | refine ofS1 ?_ (by assumption) | refine ofS2 ?_ (by assumption) | refine ofS3 ?_ (by assumption) | refine of3 ?_ (by assumption)) | dsimp only)

theorem State.lanesTending_tidy {pq} {s : State} (hs : Tidy pq s) : Tidy pq (State.lanesTending s) := by
  unfold State.lanesTending
  repeat' (first | with_reducible assumption | (extract_lets +onlyGivenNames zz; first | (refine (fun (hz : Tidy pq zz) => ?_) ?_; (on_goal 1 => (try clear_value zz; rename' zz => zy, hz => hy)); (on_goal 2 => subst zz)) | (try clear_value zz; rename' zz => zy)) | with_reducible (first | apply State.pumpMoves_tidy | apply State.powerLane_tidy | apply tidy1_mk | apply tidy2_mk) | split | with_reducible (first | apply tidy_ite) | with_reducible (fail_if_no_progress apply tidy_mk) | with_reducible (first | refine of1 ?_ (by assumption) | refine of2 ?_ (by assumption) | refine ofS ?_ (by assumption) | refine ofS1 ?_ (by assumption) | refine ofS2 ?_ (by assumption) | refine ofS3 ?_ (by assumption) | refine of3 ?_ (by assumption)) | dsimp only)

theorem State.lanesFull_tidy {pq} {s : State} (hs : Tidy pq s) : Tidy pq (State.lanesFull s) := by
  unfold State.lanesFull
  repeat' (first | with_reducible assumption | (extract_lets +onlyGivenNames zz; first | (refine (fun (hz : Tidy pq zz) => ?_) ?_; (on_goal 1 => (try clear_value zz; rename' zz => zy, hz => hy)); (on_goal 2 => subst zz)) | (refine (fun (hz : ∀ t, Tidy pq t → Tidy pq (zz t)) => ?_) ?_; (on_goal 1 => (try clear_value zz; rename' zz => zy, hz => hf)); (on_goal 2 => (subst zz; intro _ _; beta_reduce))) | (refine (fun (hz : ∀ t, Tidy pq (zz t)) => ?_) ?_; (on_goal 1 => (try clear_value zz; rename' zz => zy, hz => hf)); (on_goal 2 => (subst zz; intro _; beta_reduce))) | (try clear_value zz; rename' zz => zy)) | with_reducible (first | apply foldl_tidy | apply foldl_tidy1 | apply State.powerLane_tidy | apply State.lanesReady_tidy | apply State.setF_tidy | apply tidy1_mk | apply tidy2_mk) | with_reducible (apply tidy_fst; first | apply foldl_tidy1) | with_reducible (apply tidy_snd; first | apply foldl_tidy2) | with_reducible (fail_if_no_progress apply tidy_mk) | with_reducible (apply hf) | with_reducible (first | refine of1 ?_ (by assumption) | refine of2 ?_ (by assumption) | refine ofS ?_ (by assumption) | refine ofS1 ?_ (by assumption) | refine ofS2 ?_ (by assumption) | refine ofS3 ?_ (by assumption) | refine of3 ?_ (by assumption)) | dsimp only)

theorem State.setInput_tidy {pq} {s : State} {i : ℕ} {x : SlowInput} (hs : Tidy pq s) : Tidy pq (State.setInput s i x) := by
  unfold State.setInput
  repeat' (first | with_reducible assumption | with_reducible (fail_if_no_progress apply tidy_mk))

theorem State.inputEvent_tidy {pq} {s : State} {i : ℕ} {f : Field} {e : Ev} (hs : Tidy pq s) : Tidy pq (State.inputEvent s i f e) := by
  unfold State.inputEvent
  repeat' (first | with_reducible assumption | with_reducible (first | apply State.event_tidy | apply State.irq_tidy))

theorem State.countEdge_tidy {pq} {s : State} {i : ℕ} (hs : Tidy pq s) : Tidy pq (State.countEdge s i) := by
  unfold State.countEdge
  repeat' (first | with_reducible assumption | (extract_lets +onlyGivenNames zz; first | (refine (fun (hz : Tidy pq zz) => ?_) ?_; (on_goal 1 => (try clear_value zz; rename' zz => zy, hz => hy)); (on_goal 2 => subst zz)) | (try clear_value zz; rename' zz => zy)) | with_reducible (first | apply tidy_ite | apply State.count_tidy | apply State.setInput_tidy | apply State.inputEvent_tidy | apply State.setF_tidy | apply tidy1_mk | apply tidy2_mk) | with_reducible (fail_if_no_progress apply tidy_mk) | with_reducible (first | refine of1 ?_ (by assumption) | refine of2 ?_ (by assumption) | refine ofS ?_ (by assumption) | refine ofS1 ?_ (by assumption) | refine ofS2 ?_ (by assumption) | refine ofS3 ?_ (by assumption) | refine of3 ?_ (by assumption)) | dsimp only)

theorem State.inputAsserts_tidy {pq} {s : State} {i : ℕ} (hs : Tidy pq s) : Tidy pq (State.inputAsserts s i) := by
  unfold State.inputAsserts
  repeat' (first | with_reducible assumption | with_reducible (first | apply tidy_ite | apply State.tamper_tidy | apply State.wake_tidy | apply State.lastGasp_tidy))

theorem State.setLevel_tidy {pq} {s : State} {i : ℕ} {on : Bool} (hs : Tidy pq s) : Tidy pq (State.setLevel s i on) := by
  unfold State.setLevel
  repeat' (first | with_reducible assumption | (extract_lets +onlyGivenNames zz; first | (refine (fun (hz : Tidy pq zz) => ?_) ?_; (on_goal 1 => (try clear_value zz; rename' zz => zy, hz => hy)); (on_goal 2 => subst zz)) | (try clear_value zz; rename' zz => zy)) | with_reducible (first | apply tidy_ite | apply State.setF_tidy | apply State.setInput_tidy) | with_reducible (fail_if_no_progress apply tidy_mk) | with_reducible (first | refine of1 ?_ (by assumption) | refine of2 ?_ (by assumption) | refine ofS ?_ (by assumption) | refine ofS1 ?_ (by assumption) | refine ofS2 ?_ (by assumption) | refine ofS3 ?_ (by assumption) | refine of3 ?_ (by assumption)) | dsimp only)

theorem State.inputReleases_tidy {pq} {s : State} {i : ℕ} (hs : Tidy pq s) : Tidy pq (State.inputReleases s i) := by
  unfold State.inputReleases
  repeat' (first | with_reducible assumption | with_reducible (first | apply tidy_ite | apply State.inputEvent_tidy | apply State.setF_tidy))

theorem State.inputEdge_tidy {pq} {s : State} {i : ℕ} {on : Bool} (hs : Tidy pq s) : Tidy pq (State.inputEdge s i on) := by
  unfold State.inputEdge
  repeat' (first | with_reducible assumption | (extract_lets +onlyGivenNames zz; first | (refine (fun (hz : Tidy pq zz) => ?_) ?_; (on_goal 1 => (try clear_value zz; rename' zz => zy, hz => hy)); (on_goal 2 => subst zz)) | (try clear_value zz; rename' zz => zy)) | with_reducible (first | apply tidy_ite | apply State.setLevel_tidy | apply State.countEdge_tidy | apply State.inputAsserts_tidy | apply State.inputReleases_tidy) | with_reducible (first | refine of1 ?_ (by assumption) | refine of2 ?_ (by assumption) | refine ofS ?_ (by assumption) | refine ofS1 ?_ (by assumption) | refine ofS2 ?_ (by assumption) | refine ofS3 ?_ (by assumption) | refine of3 ?_ (by assumption)) | dsimp only)


/-! ## Lcs -/

theorem execLcsChalReq_tidy {pq} {req : Req} {s : State} (hs : Tidy pq s) : TidyO pq (execLcsChalReq req s) := by
  unfold execLcsChalReq
  repeat' (first | with_reducible assumption | with_reducible intro _ | (extract_lets +onlyGivenNames zz; first | (refine (fun (hz : Tidy pq zz) => ?_) ?_; (on_goal 1 => (try clear_value zz; rename' zz => zy, hz => hy)); (on_goal 2 => subst zz)) | (try clear_value zz; rename' zz => zy)) | with_reducible (first | apply tidy_ite | apply tidyO_ite | apply tidy1_ite | apply tidy2_ite | apply State.onField_tidy | apply State.refuseAt_tidy | apply State.count_tidy | apply State.setBytes_tidy | apply State.drawBytes_tidy | apply tidyO_next | apply idle_tidy | apply tidy1_mk | apply tidy2_mk) | with_reducible (apply tidy_fst; first | apply tidy1_ite) | with_reducible (apply tidy_snd; first | apply State.drawBytes_tidy | apply tidy2_ite) | with_reducible (fail_if_no_progress apply tidy_mk) | with_reducible (first | refine of1 ?_ (by assumption) | refine of2 ?_ (by assumption) | refine ofS ?_ (by assumption) | refine ofS1 ?_ (by assumption) | refine ofS2 ?_ (by assumption) | refine ofS3 ?_ (by assumption) | refine of3 ?_ (by assumption)) | dsimp only)

theorem execChalLapse_tidy {pq} {s : State} (hs : Tidy pq s) : TidyO pq (execChalLapse s) := by
  unfold execChalLapse
  repeat' (first | with_reducible assumption | with_reducible (first | apply idle_tidy | apply tidyO_next | apply tidyS_none | apply tidyS_some | apply tidyS1_none | apply tidyS2_none) | split | with_reducible (first | apply tidy_ite | apply tidyO_ite) | with_reducible (fail_if_no_progress apply tidy_mk) | with_reducible (first | refine of1 ?_ (by assumption) | refine of2 ?_ (by assumption) | refine ofS ?_ (by assumption) | refine ofS1 ?_ (by assumption) | refine ofS2 ?_ (by assumption) | refine ofS3 ?_ (by assumption) | refine of3 ?_ (by assumption)) | dsimp only)

theorem State.countRefusal_tidy {pq} {s : State} (hs : Tidy pq s) : Tidy pq (State.countRefusal s) := by
  unfold State.countRefusal
  repeat' (first | with_reducible assumption | (extract_lets +onlyGivenNames zz; first | (refine (fun (hz : Tidy pq zz) => ?_) ?_; (on_goal 1 => (try clear_value zz; rename' zz => zy, hz => hy)); (on_goal 2 => subst zz)) | (refine (fun (hz : ∀ t, Tidy pq t → Tidy pq (zz t)) => ?_) ?_; (on_goal 1 => (try clear_value zz; rename' zz => zy, hz => hf)); (on_goal 2 => (subst zz; intro _ _; beta_reduce))) | (refine (fun (hz : ∀ t, Tidy pq (zz t)) => ?_) ?_; (on_goal 1 => (try clear_value zz; rename' zz => zy, hz => hf)); (on_goal 2 => (subst zz; intro _; beta_reduce))) | (try clear_value zz; rename' zz => zy)) | with_reducible (first | apply tidy_ite | apply State.irq_tidy | apply State.count_tidy | apply State.setF_tidy) | with_reducible (apply hf) | with_reducible (first | refine of1 ?_ (by assumption) | refine of2 ?_ (by assumption) | refine ofS ?_ (by assumption) | refine ofS1 ?_ (by assumption) | refine ofS2 ?_ (by assumption) | refine ofS3 ?_ (by assumption) | refine of3 ?_ (by assumption)) | dsimp only)

theorem State.lcsEnd_tidy {pq} {s : State} {status : ℕ} (hs : Tidy pq s) : Tidy pq (State.lcsEnd s status) := by
  unfold State.lcsEnd
  repeat' (first | with_reducible assumption | with_reducible (first | apply State.setF_tidy))

theorem State.lcsRefuse_tidy {pq} {s : State} {req : Req} {status : ℕ} (hs : Tidy pq s) : Tidy pq (State.lcsRefuse s req status) := by
  unfold State.lcsRefuse
  repeat' (first | with_reducible assumption | with_reducible (first | apply State.lcsEnd_tidy | apply State.refuseAt_tidy))

theorem State.lcsCommand_tidy {pq} {s : State} {req : Req} {op : ℕ} {k : State → State} (hs : Tidy pq s) (hk : ∀ t, Tidy pq t → Tidy pq (k t)) : Tidy pq (State.lcsCommand s req op k) := by
  unfold State.lcsCommand
  repeat' (first | with_reducible assumption | with_reducible intro _ | (extract_lets +onlyGivenNames zz; first | (refine (fun (hz : Tidy pq zz) => ?_) ?_; (on_goal 1 => (try clear_value zz; rename' zz => zy, hz => hy)); (on_goal 2 => subst zz)) | (try clear_value zz; rename' zz => zy)) | with_reducible (first | apply tidy_ite | apply State.onField_tidy | apply State.setF_tidy | apply State.lcsRefuse_tidy | apply State.lcsEnd_tidy | apply State.countRefusal_tidy | apply tidyS_none | apply tidyS_some | apply tidyS1_none | apply tidyS2_none) | with_reducible (fail_if_no_progress apply tidy_mk) | with_reducible (first | apply hk) | with_reducible (first | refine of1 ?_ (by assumption) | refine of2 ?_ (by assumption) | refine ofS ?_ (by assumption) | refine ofS1 ?_ (by assumption) | refine ofS2 ?_ (by assumption) | refine ofS3 ?_ (by assumption) | refine of3 ?_ (by assumption)) | dsimp only)

theorem State.blow_tidy {pq} {s : State} {o : Otp} (hs : Tidy pq s) : Tidy pq (State.blow s o) := by
  unfold State.blow
  repeat' (first | with_reducible assumption | (extract_lets +onlyGivenNames zz; first | (refine (fun (hz : Tidy pq zz) => ?_) ?_; (on_goal 1 => (try clear_value zz; rename' zz => zy, hz => hy)); (on_goal 2 => subst zz)) | (try clear_value zz; rename' zz => zy)) | with_reducible (first | apply tidy_ite | apply State.irq_tidy | apply State.event_tidy) | with_reducible (fail_if_no_progress apply tidy_mk) | with_reducible (first | refine of1 ?_ (by assumption) | refine of2 ?_ (by assumption) | refine ofS ?_ (by assumption) | refine ofS1 ?_ (by assumption) | refine ofS2 ?_ (by assumption) | refine ofS3 ?_ (by assumption) | refine of3 ?_ (by assumption)) | dsimp only)

theorem State.debugClose_tidy {pq} {s : State} (hs : Tidy pq s) : Tidy pq (State.debugClose s) := by
  unfold State.debugClose
  repeat' (first | with_reducible assumption | (extract_lets +onlyGivenNames zz; first | (refine (fun (hz : Tidy pq zz) => ?_) ?_; (on_goal 1 => (try clear_value zz; rename' zz => zy, hz => hy)); (on_goal 2 => subst zz)) | (try clear_value zz; rename' zz => zy)) | with_reducible (first | apply tidy_ite | apply State.event_tidy | apply State.irq_tidy | apply State.setF_tidy) | with_reducible (first | refine of1 ?_ (by assumption) | refine of2 ?_ (by assumption) | refine ofS ?_ (by assumption) | refine ofS1 ?_ (by assumption) | refine ofS2 ?_ (by assumption) | refine ofS3 ?_ (by assumption) | refine of3 ?_ (by assumption)) | dsimp only)

theorem State.debugContext_tidy {pq} {s : State} (hs : Tidy pq s) : Tidy pq (State.debugContext s) := by
  unfold State.debugContext
  repeat' (first | with_reducible assumption | (extract_lets +onlyGivenNames zz; first | (refine (fun (hz : Tidy pq zz) => ?_) ?_; (on_goal 1 => (try clear_value zz; rename' zz => zy, hz => hy)); (on_goal 2 => subst zz)) | (refine (fun (hz : ∀ t, Tidy pq t → Tidy pq (zz t)) => ?_) ?_; (on_goal 1 => (try clear_value zz; rename' zz => zy, hz => hf)); (on_goal 2 => (subst zz; intro _ _; beta_reduce))) | (refine (fun (hz : ∀ t, Tidy pq (zz t)) => ?_) ?_; (on_goal 1 => (try clear_value zz; rename' zz => zy, hz => hf)); (on_goal 2 => (subst zz; intro _; beta_reduce))) | (try clear_value zz; rename' zz => zy)) | with_reducible (first | apply State.formTrunks_tidy | apply State.eraseAll_tidy | apply State.setF_tidy | apply State.event_tidy | apply State.irq_tidy) | with_reducible (apply hf) | with_reducible (first | refine of1 ?_ (by assumption) | refine of2 ?_ (by assumption) | refine ofS ?_ (by assumption) | refine ofS1 ?_ (by assumption) | refine ofS2 ?_ (by assumption) | refine ofS3 ?_ (by assumption) | refine of3 ?_ (by assumption)) | dsimp only)

theorem State.debugOpen_tidy {pq} {s : State} (hs : Tidy pq s) : Tidy pq (State.debugOpen s) := by
  unfold State.debugOpen
  repeat' (first | with_reducible assumption | (extract_lets +onlyGivenNames zz; first | (refine (fun (hz : Tidy pq zz) => ?_) ?_; (on_goal 1 => (try clear_value zz; rename' zz => zy, hz => hy)); (on_goal 2 => subst zz)) | (try clear_value zz; rename' zz => zy)) | with_reducible (first | apply State.deriveKeys_tidy | apply State.debugContext_tidy | apply State.drainPath_tidy | apply State.count_tidy | apply State.setF_tidy) | with_reducible (first | refine of1 ?_ (by assumption) | refine of2 ?_ (by assumption) | refine ofS ?_ (by assumption) | refine ofS1 ?_ (by assumption) | refine ofS2 ?_ (by assumption) | refine ofS3 ?_ (by assumption) | refine of3 ?_ (by assumption)) | dsimp only)

theorem execLcsDebugOpen_tidy {pq} {req : Req} {s : State} (hs : Tidy pq s) : TidyO pq (execLcsDebugOpen req s) := by
  unfold execLcsDebugOpen
  repeat' (first | with_reducible assumption | with_reducible intro _ | with_reducible (first | apply State.lcsCommand_tidy | apply State.debugOpen_tidy | apply tidyO_next | apply idle_tidy) | with_reducible (fail_if_no_progress apply tidy_mk))

theorem execLcsDeploy_tidy {pq} {req : Req} {s : State} (hs : Tidy pq s) : TidyO pq (execLcsDeploy req s) := by
  unfold execLcsDeploy
  repeat' (first | with_reducible assumption | with_reducible intro _ | with_reducible (first | apply State.lcsCommand_tidy | apply State.blow_tidy | apply tidyO_next | apply idle_tidy) | with_reducible (fail_if_no_progress apply tidy_mk))

theorem execLcsRetire_tidy {pq} {req : Req} {s : State} (hs : Tidy pq s) : TidyO pq (execLcsRetire req s) := by
  unfold execLcsRetire
  repeat' (first | with_reducible assumption | with_reducible intro _ | with_reducible (first | apply State.lcsCommand_tidy | apply State.blow_tidy | apply tidyO_next | apply idle_tidy) | with_reducible (fail_if_no_progress apply tidy_mk))

theorem execLcsKillDebug_tidy {pq} {req : Req} {s : State} (hs : Tidy pq s) : TidyO pq (execLcsKillDebug req s) := by
  unfold execLcsKillDebug
  repeat' (first | with_reducible assumption | with_reducible intro _ | (extract_lets +onlyGivenNames zz; first | (refine (fun (hz : Tidy pq zz) => ?_) ?_; (on_goal 1 => (try clear_value zz; rename' zz => zy, hz => hy)); (on_goal 2 => subst zz)) | (refine (fun (hz : ∀ t, Tidy pq t → Tidy pq (zz t)) => ?_) ?_; (on_goal 1 => (try clear_value zz; rename' zz => zy, hz => hf)); (on_goal 2 => (subst zz; intro _ _; beta_reduce))) | (refine (fun (hz : ∀ t, Tidy pq (zz t)) => ?_) ?_; (on_goal 1 => (try clear_value zz; rename' zz => zy, hz => hf)); (on_goal 2 => (subst zz; intro _; beta_reduce))) | (try clear_value zz; rename' zz => zy)) | with_reducible (first | apply tidy_ite | apply tidyO_ite | apply State.lcsCommand_tidy | apply State.event_tidy | apply State.setF_tidy | apply State.debugClose_tidy | apply tidyO_next | apply idle_tidy) | with_reducible (fail_if_no_progress apply tidy_mk) | with_reducible (apply hf) | with_reducible (first | refine of1 ?_ (by assumption) | refine of2 ?_ (by assumption) | refine ofS ?_ (by assumption) | refine ofS1 ?_ (by assumption) | refine ofS2 ?_ (by assumption) | refine ofS3 ?_ (by assumption) | refine of3 ?_ (by assumption)) | dsimp only)

theorem execLcsProvision_tidy {pq} {req : Req} {s : State} (hs : Tidy pq s) : TidyO pq (execLcsProvision req s) := by
  unfold execLcsProvision
  repeat' (first | with_reducible assumption | with_reducible intro _ | with_reducible (first | apply State.lcsCommand_tidy | apply State.blow_tidy | apply tidyO_next | apply idle_tidy) | with_reducible (fail_if_no_progress apply tidy_mk))

theorem execLcsDebugClose_tidy {pq} {req : Req} {s : State} (hs : Tidy pq s) : TidyO pq (execLcsDebugClose req s) := by
  unfold execLcsDebugClose
  repeat' (first | with_reducible assumption | with_reducible intro _ | with_reducible (first | apply State.lcsCommand_tidy | apply State.debugClose_tidy | apply tidyO_next | apply idle_tidy) | with_reducible (fail_if_no_progress apply tidy_mk))


/-! ## Modes -/

theorem State.takeMode_tidy {pq} {s : State} {m : ℕ} (hs : Tidy pq s) : Tidy pq (State.takeMode s m) := by
  unfold State.takeMode
  repeat' (first | with_reducible assumption | with_reducible (first | apply State.riseTo_tidy | apply State.toMode_tidy | apply State.lanesFull_tidy | apply State.stopTo_tidy | apply State.lanesTending_tidy) | split | with_reducible (first | apply tidy_ite) | with_reducible (fail_if_no_progress apply tidy_mk) | with_reducible (first | refine of1 ?_ (by assumption) | refine of2 ?_ (by assumption) | refine ofS ?_ (by assumption) | refine ofS1 ?_ (by assumption) | refine ofS2 ?_ (by assumption) | refine ofS3 ?_ (by assumption) | refine of3 ?_ (by assumption)) | dsimp only)

theorem execModeReq_tidy {pq} {req : Req} {data : Word} {s : State} (hs : Tidy pq s) : TidyO pq (execModeReq req data s) := by
  unfold execModeReq
  repeat' (first | with_reducible assumption | with_reducible intro _ | (extract_lets +onlyGivenNames zz; first | (refine (fun (hz : Tidy pq zz) => ?_) ?_; (on_goal 1 => (try clear_value zz; rename' zz => zy, hz => hy)); (on_goal 2 => subst zz)) | (try clear_value zz; rename' zz => zy)) | with_reducible (first | apply tidy_ite | apply tidyO_ite | apply State.onField_tidy | apply State.takeMode_tidy | apply State.refuseAt_tidy | apply tidyO_next | apply idle_tidy) | with_reducible (first | refine of1 ?_ (by assumption) | refine of2 ?_ (by assumption) | refine ofS ?_ (by assumption) | refine ofS1 ?_ (by assumption) | refine ofS2 ?_ (by assumption) | refine ofS3 ?_ (by assumption) | refine of3 ?_ (by assumption)) | dsimp only)

theorem execWakeInput_tidy {pq} {input : Fin 2} {s : State} (hs : Tidy pq s) : TidyO pq (execWakeInput input s) := by
  unfold execWakeInput
  repeat' (first | with_reducible assumption | (extract_lets +onlyGivenNames zz; first | (refine (fun (hz : Tidy pq zz) => ?_) ?_; (on_goal 1 => (try clear_value zz; rename' zz => zy, hz => hy)); (on_goal 2 => subst zz)) | (try clear_value zz; rename' zz => zy)) | with_reducible (first | apply tidy_ite | apply tidyO_ite | apply idle_tidy | apply State.inputAsserts_tidy | apply tidyO_next) | with_reducible (first | refine of1 ?_ (by assumption) | refine of2 ?_ (by assumption) | refine ofS ?_ (by assumption) | refine ofS1 ?_ (by assumption) | refine ofS2 ?_ (by assumption) | refine ofS3 ?_ (by assumption) | refine of3 ?_ (by assumption)) | dsimp only)

theorem State.bootServes_tidy {pq} {s : State} {b : BootInput} (hs : Tidy pq s) : Tidy pq (State.bootServes s b) := by
  unfold State.bootServes
  repeat' (first | with_reducible assumption | (extract_lets +onlyGivenNames zz; first | (refine (fun (hz : Tidy pq zz) => ?_) ?_; (on_goal 1 => (try clear_value zz; rename' zz => zy, hz => hy)); (on_goal 2 => subst zz)) | (refine (fun (hz : ∀ t, Tidy pq t → Tidy pq (zz t)) => ?_) ?_; (on_goal 1 => (try clear_value zz; rename' zz => zy, hz => hf)); (on_goal 2 => (subst zz; intro _ _; beta_reduce))) | (refine (fun (hz : ∀ t, Tidy pq (zz t)) => ?_) ?_; (on_goal 1 => (try clear_value zz; rename' zz => zy, hz => hf)); (on_goal 2 => (subst zz; intro _; beta_reduce))) | (try clear_value zz; rename' zz => zy)) | with_reducible (first | apply tidy_ite | apply State.bootEnds_tidy | apply State.bootMedium_tidy | apply State.startAll_tidy | apply State.lanesTending_tidy) | with_reducible (apply hf) | with_reducible (first | refine of1 ?_ (by assumption) | refine of2 ?_ (by assumption) | refine ofS ?_ (by assumption) | refine ofS1 ?_ (by assumption) | refine ofS2 ?_ (by assumption) | refine ofS3 ?_ (by assumption) | refine of3 ?_ (by assumption)) | dsimp only)

theorem State.bootSecure_tidy {pq} {s : State} {b : BootInput} (hs : Tidy pq s) : Tidy pq (State.bootSecure s b) := by
  unfold State.bootSecure
  repeat' (first | with_reducible assumption | (extract_lets +onlyGivenNames zz; first | (refine (fun (hz : Tidy pq zz) => ?_) ?_; (on_goal 1 => (try clear_value zz; rename' zz => zy, hz => hy)); (on_goal 2 => subst zz)) | (refine (fun (hz : ∀ t, Tidy pq t → Tidy pq (zz t)) => ?_) ?_; (on_goal 1 => (try clear_value zz; rename' zz => zy, hz => hf)); (on_goal 2 => (subst zz; intro _ _; beta_reduce))) | (refine (fun (hz : ∀ t, Tidy pq (zz t)) => ?_) ?_; (on_goal 1 => (try clear_value zz; rename' zz => zy, hz => hf)); (on_goal 2 => (subst zz; intro _; beta_reduce))) | (try clear_value zz; rename' zz => zy)) | with_reducible (first | apply State.lockdown_tidy | apply State.readOtp_tidy | apply State.startDomain_tidy | apply State.takeMedium_tidy | apply State.setF_tidy | apply State.err_tidy | apply State.countStarts_tidy | apply State.bootStays_tidy | apply State.bootServes_tidy | apply State.formRoot_tidy | apply State.bootTrivet_tidy | apply State.bootImages_tidy | apply tidy1_mk | apply tidy2_mk | apply tidyS_none | apply tidyS_some | apply tidyS1_none | apply tidyS2_none) | with_reducible (apply tidy_fst; first | apply State.bootImages_tidy | apply tidy1_ite) | with_reducible (apply tidy_snd; first | apply tidy2_ite) | split | with_reducible (first | apply tidy_ite | apply tidy1_ite | apply tidy2_ite) | with_reducible (fail_if_no_progress apply tidy_mk) | with_reducible (apply hf) | with_reducible (first | refine of1 ?_ (by assumption) | refine of2 ?_ (by assumption) | refine ofS ?_ (by assumption) | refine ofS1 ?_ (by assumption) | refine ofS2 ?_ (by assumption) | refine ofS3 ?_ (by assumption) | refine of3 ?_ (by assumption)) | dsimp only)

theorem execStartup_tidy {pq} {input : BootInput} {s : State} (hs : Tidy pq s) : TidyO pq (execStartup input s) := by
  unfold execStartup
  repeat' (first | with_reducible assumption | with_reducible (first | apply tidy_ite | apply tidyO_ite | apply State.bootSecure_tidy | apply State.bootBegin_tidy | apply idle_tidy | apply tidyO_next))

theorem execDegradedExit_tidy {pq} {s : State} (hs : Tidy pq s) : TidyO pq (execDegradedExit s) := by
  unfold execDegradedExit
  repeat' (first | with_reducible assumption | with_reducible (first | apply tidy_ite | apply tidyO_ite | apply State.toMode_tidy | apply idle_tidy | apply tidyO_next))

theorem execPllUnlock_tidy {pq} {pll : Fin 7} {s : State} (hs : Tidy pq s) : TidyO pq (execPllUnlock pll s) := by
  unfold execPllUnlock
  repeat' (first | with_reducible assumption | with_reducible (first | apply tidy_ite | apply tidyO_ite | apply State.restart_tidy | apply State.setF_tidy | apply idle_tidy | apply tidyO_next))

theorem execRef10Lost_tidy {pq} {s : State} (hs : Tidy pq s) : TidyO pq (execRef10Lost s) := by
  unfold execRef10Lost
  repeat' (first | with_reducible assumption | with_reducible (first | apply tidy_ite | apply tidyO_ite | apply State.irq_tidy | apply State.setF_tidy | apply idle_tidy | apply tidyO_next))

theorem execRef10Back_tidy {pq} {s : State} (hs : Tidy pq s) : TidyO pq (execRef10Back s) := by
  unfold execRef10Back
  repeat' (first | with_reducible assumption | with_reducible (first | apply tidy_ite | apply tidyO_ite | apply idle_tidy | apply State.irq_tidy | apply State.setF_tidy | apply tidyO_next))

theorem execSwReset_tidy {pq} {req : Req} {data : Word} {s : State} (hs : Tidy pq s) : TidyO pq (execSwReset req data s) := by
  unfold execSwReset
  repeat' (first | with_reducible assumption | with_reducible intro _ | (extract_lets +onlyGivenNames zz; first | (refine (fun (hz : Tidy pq zz) => ?_) ?_; (on_goal 1 => (try clear_value zz; rename' zz => zy, hz => hy)); (on_goal 2 => subst zz)) | (try clear_value zz; rename' zz => zy)) | with_reducible (first | apply tidy_ite | apply tidyO_ite | apply State.onField_tidy | apply State.refuseAt_tidy | apply State.restart_tidy | apply tidyO_next | apply idle_tidy) | with_reducible (first | refine of1 ?_ (by assumption) | refine of2 ?_ (by assumption) | refine ofS ?_ (by assumption) | refine ofS1 ?_ (by assumption) | refine ofS2 ?_ (by assumption) | refine ofS3 ?_ (by assumption) | refine of3 ?_ (by assumption)) | dsimp only)

theorem execLastGasp_tidy {pq} {vmain : Bool} {s : State} (hs : Tidy pq s) : TidyO pq (execLastGasp vmain s) := by
  unfold execLastGasp
  repeat' (first | with_reducible assumption | with_reducible (first | apply tidy_ite | apply tidyO_ite | apply idle_tidy | apply State.lastGasp_tidy | apply tidyO_next))

theorem execLgRecover_tidy {pq} {s : State} (hs : Tidy pq s) : TidyO pq (execLgRecover s) := by
  unfold execLgRecover
  repeat' (first | with_reducible assumption | (extract_lets +onlyGivenNames zz; first | (refine (fun (hz : Tidy pq zz) => ?_) ?_; (on_goal 1 => (try clear_value zz; rename' zz => zy, hz => hy)); (on_goal 2 => subst zz)) | (try clear_value zz; rename' zz => zy)) | with_reducible (first | apply idle_tidy | apply State.dueStartup_tidy | apply State.setF_tidy | apply tidyO_next | apply tidyS_none | apply tidyS_some | apply tidyS1_none | apply tidyS2_none) | split | with_reducible (first | apply tidy_ite | apply tidyO_ite) | with_reducible (fail_if_no_progress apply tidy_mk) | with_reducible (first | refine of1 ?_ (by assumption) | refine of2 ?_ (by assumption) | refine ofS ?_ (by assumption) | refine ofS1 ?_ (by assumption) | refine ofS2 ?_ (by assumption) | refine ofS3 ?_ (by assumption) | refine of3 ?_ (by assumption)) | dsimp only)

theorem State.forgetTb1_tidy {pq} {s : State} (hs : Tidy pq s) : Tidy pq (State.forgetTb1 s) := by
  unfold State.forgetTb1
  repeat' (first | with_reducible assumption | with_reducible intro _ | with_reducible (first | apply tidy1_mk | apply tidy2_mk | apply map_tidyS | apply map_tidyS_of2 | apply map_tidyS_any | apply tidyS_none | apply tidyS_some | apply tidyS1_none | apply tidyS2_none) | with_reducible (fail_if_no_progress apply tidy_mk))

theorem execMainPowerLoss_tidy {pq} {s : State} (hs : Tidy pq s) : TidyO pq (execMainPowerLoss s) := by
  unfold execMainPowerLoss
  repeat' (first | with_reducible assumption | (extract_lets +onlyGivenNames zz; first | (refine (fun (hz : Tidy pq zz) => ?_) ?_; (on_goal 1 => (try clear_value zz; rename' zz => zy, hz => hy)); (on_goal 2 => subst zz)) | (refine (fun (hz : ∀ t, Tidy pq t → Tidy pq (zz t)) => ?_) ?_; (on_goal 1 => (try clear_value zz; rename' zz => zy, hz => hf)); (on_goal 2 => (subst zz; intro _ _; beta_reduce))) | (refine (fun (hz : ∀ t, Tidy pq (zz t)) => ?_) ?_; (on_goal 1 => (try clear_value zz; rename' zz => zy, hz => hf)); (on_goal 2 => (subst zz; intro _; beta_reduce))) | (try clear_value zz; rename' zz => zy)) | with_reducible (first | apply tidy_ite | apply tidyO_ite | apply State.forgetTb1_tidy | apply State.powerDown_tidy | apply State.takeEvents_tidy | apply State.toMode_tidy | apply State.setF_tidy | apply idle_tidy | apply tidyO_next | apply tidy1_mk | apply tidy2_mk) | with_reducible (fail_if_no_progress apply tidy_mk) | with_reducible (apply hf) | with_reducible (first | refine of1 ?_ (by assumption) | refine of2 ?_ (by assumption) | refine ofS ?_ (by assumption) | refine ofS1 ?_ (by assumption) | refine ofS2 ?_ (by assumption) | refine ofS3 ?_ (by assumption) | refine of3 ?_ (by assumption)) | dsimp only)

theorem execSlowInputEdge_tidy {pq} {input : Fin 8} {active : Bool} {s : State} (hs : Tidy pq s) : TidyO pq (execSlowInputEdge input active s) := by
  unfold execSlowInputEdge
  repeat' (first | with_reducible assumption | with_reducible (first | apply tidy_ite | apply tidyO_ite | apply State.inputEdge_tidy | apply idle_tidy | apply tidyO_next))

theorem execInputStuck_tidy {pq} {input : Fin 8} {s : State} (hs : Tidy pq s) : TidyO pq (execInputStuck input s) := by
  unfold execInputStuck
  repeat' (first | with_reducible assumption | (extract_lets +onlyGivenNames zz; first | (refine (fun (hz : Tidy pq zz) => ?_) ?_; (on_goal 1 => (try clear_value zz; rename' zz => zy, hz => hy)); (on_goal 2 => subst zz)) | (try clear_value zz; rename' zz => zy)) | with_reducible (first | apply tidy_ite | apply tidyO_ite | apply State.inputEvent_tidy | apply State.setF_tidy | apply idle_tidy | apply tidyO_next) | with_reducible (first | refine of1 ?_ (by assumption) | refine of2 ?_ (by assumption) | refine ofS ?_ (by assumption) | refine ofS1 ?_ (by assumption) | refine ofS2 ?_ (by assumption) | refine ofS3 ?_ (by assumption) | refine of3 ?_ (by assumption)) | dsimp only)

theorem execChatterMaskEnd_tidy {pq} {input : Fin 8} {s : State} (hs : Tidy pq s) : TidyO pq (execChatterMaskEnd input s) := by
  unfold execChatterMaskEnd
  repeat' (first | with_reducible assumption | (extract_lets +onlyGivenNames zz; first | (refine (fun (hz : Tidy pq zz) => ?_) ?_; (on_goal 1 => (try clear_value zz; rename' zz => zy, hz => hy)); (on_goal 2 => subst zz)) | (try clear_value zz; rename' zz => zy)) | with_reducible (first | apply tidy_ite | apply tidyO_ite | apply State.setF_tidy | apply idle_tidy | apply tidyO_next) | with_reducible (first | refine of1 ?_ (by assumption) | refine of2 ?_ (by assumption) | refine ofS ?_ (by assumption) | refine ofS1 ?_ (by assumption) | refine ofS2 ?_ (by assumption) | refine ofS3 ?_ (by assumption) | refine of3 ?_ (by assumption)) | dsimp only)

theorem execPanelKeyScan_tidy {pq} {key : Option (Fin 16)} {s : State} (hs : Tidy pq s) : TidyO pq (execPanelKeyScan key s) := by
  unfold execPanelKeyScan
  repeat' (first | with_reducible assumption | with_reducible intro _ | (extract_lets +onlyGivenNames zz; first | (refine (fun (hz : Tidy pq zz) => ?_) ?_; (on_goal 1 => (try clear_value zz; rename' zz => zy, hz => hy)); (on_goal 2 => subst zz)) | (try clear_value zz; rename' zz => zy)) | with_reducible (first | apply idle_tidy | apply State.inputEdge_tidy | apply State.panelKey_tidy | apply tidyO_next | apply tidy1_mk | apply tidy2_mk | apply map_tidyS | apply map_tidyS_of2 | apply map_tidyS_any | apply tidyS_none | apply tidyS_some | apply tidyS1_none | apply tidyS2_none) | split | with_reducible (first | apply tidy_ite | apply tidyO_ite) | with_reducible (fail_if_no_progress apply tidy_mk) | with_reducible (first | refine of1 ?_ (by assumption) | refine of2 ?_ (by assumption) | refine ofS ?_ (by assumption) | refine ofS1 ?_ (by assumption) | refine ofS2 ?_ (by assumption) | refine ofS3 ?_ (by assumption) | refine of3 ?_ (by assumption)) | dsimp only)


/-! ## Msix -/

theorem State.msixFire_tidy {pq} {s : State} {v : ℕ} (hs : Tidy pq s) : Tidy pq (State.msixFire s v) := by
  unfold State.msixFire
  repeat' (first | with_reducible assumption | (extract_lets +onlyGivenNames zz; first | (refine (fun (hz : Tidy pq zz) => ?_) ?_; (on_goal 1 => (try clear_value zz; rename' zz => zy, hz => hy)); (on_goal 2 => subst zz)) | (try clear_value zz; rename' zz => zy)) | with_reducible (first | apply tidy_ite | apply State.emit_tidy) | with_reducible (fail_if_no_progress apply tidy_mk) | with_reducible (first | refine of1 ?_ (by assumption) | refine of2 ?_ (by assumption) | refine ofS ?_ (by assumption) | refine ofS1 ?_ (by assumption) | refine ofS2 ?_ (by assumption) | refine ofS3 ?_ (by assumption) | refine of3 ?_ (by assumption)) | dsimp only)

theorem State.msixTick_tidy {pq} {s : State} (hs : Tidy pq s) : Tidy pq (State.msixTick s) := by
  unfold State.msixTick
  repeat' (first | with_reducible assumption | with_reducible intro _ | (extract_lets +onlyGivenNames zz; first | (refine (fun (hz : Tidy pq zz) => ?_) ?_; (on_goal 1 => (try clear_value zz; rename' zz => zy, hz => hy)); (on_goal 2 => subst zz)) | (refine (fun (hz : ∀ t, Tidy pq t → Tidy pq (zz t)) => ?_) ?_; (on_goal 1 => (try clear_value zz; rename' zz => zy, hz => hf)); (on_goal 2 => (subst zz; intro _ _; beta_reduce))) | (refine (fun (hz : ∀ t, Tidy pq (zz t)) => ?_) ?_; (on_goal 1 => (try clear_value zz; rename' zz => zy, hz => hf)); (on_goal 2 => (subst zz; intro _; beta_reduce))) | (try clear_value zz; rename' zz => zy)) | with_reducible (first | apply tidy_ite | apply foldl_tidy | apply foldl_tidy1 | apply State.msixFire_tidy) | with_reducible (apply tidy_fst; first | apply foldl_tidy1) | with_reducible (apply tidy_snd; first | apply foldl_tidy2) | with_reducible (fail_if_no_progress apply tidy_mk) | with_reducible (apply hf) | with_reducible (first | refine of1 ?_ (by assumption) | refine of2 ?_ (by assumption) | refine ofS ?_ (by assumption) | refine ofS1 ?_ (by assumption) | refine ofS2 ?_ (by assumption) | refine ofS3 ?_ (by assumption) | refine of3 ?_ (by assumption)) | dsimp only)

theorem State.msixWrite_tidy {pq} {s : State} {off d : ℕ} (hs : Tidy pq s) : Tidy pq (State.msixWrite s off d) := by
  unfold State.msixWrite
  repeat' (first | with_reducible assumption | (extract_lets +onlyGivenNames zz; first | (refine (fun (hz : Tidy pq zz) => ?_) ?_; (on_goal 1 => (try clear_value zz; rename' zz => zy, hz => hy)); (on_goal 2 => subst zz)) | (try clear_value zz; rename' zz => zy)) | with_reducible (first | apply State.msixFire_tidy) | split | with_reducible (first | apply tidy_ite) | with_reducible (fail_if_no_progress apply tidy_mk) | with_reducible (first | refine of1 ?_ (by assumption) | refine of2 ?_ (by assumption) | refine ofS ?_ (by assumption) | refine ofS1 ?_ (by assumption) | refine ofS2 ?_ (by assumption) | refine ofS3 ?_ (by assumption) | refine of3 ?_ (by assumption)) | dsimp only)


/-! ## Queues -/

theorem execWatermarkWrite_tidy {pq} {req : Req} {page : BitVec 8} {qend : Fin 6} {hi lo : BitVec 16} {s : State} (hs : Tidy pq s) : TidyO pq (execWatermarkWrite req page qend hi lo s) := by
  unfold execWatermarkWrite
  repeat' (first | with_reducible assumption | with_reducible intro _ | (extract_lets +onlyGivenNames zz; first | (refine (fun (hz : Tidy pq zz) => ?_) ?_; (on_goal 1 => (try clear_value zz; rename' zz => zy, hz => hy)); (on_goal 2 => subst zz)) | (refine (fun (hz : ∀ t, Tidy pq t → Tidy pq (zz t)) => ?_) ?_; (on_goal 1 => (try clear_value zz; rename' zz => zy, hz => hf)); (on_goal 2 => (subst zz; intro _ _; beta_reduce))) | (refine (fun (hz : ∀ t, Tidy pq (zz t)) => ?_) ?_; (on_goal 1 => (try clear_value zz; rename' zz => zy, hz => hf)); (on_goal 2 => (subst zz; intro _; beta_reduce))) | (try clear_value zz; rename' zz => zy)) | with_reducible (first | apply tidy_ite | apply tidyO_ite | apply State.onWrite_tidy | apply State.setF_tidy | apply State.crossings_tidy | apply tidyO_next | apply idle_tidy) | with_reducible (apply hf) | with_reducible (first | refine of1 ?_ (by assumption) | refine of2 ?_ (by assumption) | refine ofS ?_ (by assumption) | refine ofS1 ?_ (by assumption) | refine ofS2 ?_ (by assumption) | refine ofS3 ?_ (by assumption) | refine of3 ?_ (by assumption)) | dsimp only)

theorem State.queueFault_tidy {pq} {s : State} {q bit : ℕ} {f : Field} (hs : Tidy pq s) : Tidy pq (State.queueFault s q bit f) := by
  unfold State.queueFault
  repeat' (first | with_reducible assumption | with_reducible (first | apply State.irq_tidy | apply State.setF_tidy))

theorem execQmonCreditCheck_tidy {pq} {queue : QueueId} {s : State} (hs : Tidy pq s) : TidyO pq (execQmonCreditCheck queue s) := by
  unfold execQmonCreditCheck
  repeat' (first | with_reducible assumption | (extract_lets +onlyGivenNames zz; first | (refine (fun (hz : Tidy pq zz) => ?_) ?_; (on_goal 1 => (try clear_value zz; rename' zz => zy, hz => hy)); (on_goal 2 => subst zz)) | (try clear_value zz; rename' zz => zy)) | with_reducible (first | apply tidy_ite | apply tidyO_ite | apply idle_tidy | apply State.setQueue_tidy | apply State.event_tidy | apply State.queueFault_tidy | apply tidyO_next) | with_reducible (fail_if_no_progress apply tidy_mk) | with_reducible (first | refine of1 ?_ (by assumption) | refine of2 ?_ (by assumption) | refine ofS ?_ (by assumption) | refine ofS1 ?_ (by assumption) | refine ofS2 ?_ (by assumption) | refine ofS3 ?_ (by assumption) | refine of3 ?_ (by assumption)) | dsimp only)

theorem State.flush_tidy {pq} {s : State} {q : ℕ} {producer : FlushEdge} {reading : Bool} (hs : Tidy pq s) : Tidy pq (State.flush s q producer reading) := by
  unfold State.flush
  repeat' (first | with_reducible assumption | (extract_lets +onlyGivenNames zz; first | (refine (fun (hz : Tidy pq zz) => ?_) ?_; (on_goal 1 => (try clear_value zz; rename' zz => zy, hz => hy)); (on_goal 2 => subst zz)) | (try clear_value zz; rename' zz => zy)) | with_reducible (first | apply tidy_ite | apply tidy1_ite | apply tidy2_ite | apply State.notTaken_tidy | apply State.count_tidy | apply State.setF_tidy | apply State.setQueue_tidy | apply tidy1_mk | apply tidy2_mk) | with_reducible (apply tidy_fst; first | apply tidy1_ite) | with_reducible (apply tidy_snd; first | apply tidy2_ite) | with_reducible (fail_if_no_progress apply tidy_mk) | with_reducible (first | refine of1 ?_ (by assumption) | refine of2 ?_ (by assumption) | refine ofS ?_ (by assumption) | refine ofS1 ?_ (by assumption) | refine ofS2 ?_ (by assumption) | refine ofS3 ?_ (by assumption) | refine of3 ?_ (by assumption)) | dsimp only)

theorem execQueueFlush_tidy {pq} {req : Req} {page : BitVec 8} {qend : Fin 6} {producer : FlushEdge} {consumerReading : Bool} {s : State} (hs : Tidy pq s) : TidyO pq (execQueueFlush req page qend producer consumerReading s) := by
  unfold execQueueFlush
  repeat' (first | with_reducible assumption | with_reducible intro _ | (extract_lets +onlyGivenNames zz; first | (refine (fun (hz : Tidy pq zz) => ?_) ?_; (on_goal 1 => (try clear_value zz; rename' zz => zy, hz => hy)); (on_goal 2 => subst zz)) | (try clear_value zz; rename' zz => zy)) | with_reducible (first | apply tidy_ite | apply tidyO_ite | apply State.onWrite_tidy | apply State.flush_tidy | apply tidyO_next | apply idle_tidy) | with_reducible (first | refine of1 ?_ (by assumption) | refine of2 ?_ (by assumption) | refine ofS ?_ (by assumption) | refine ofS1 ?_ (by assumption) | refine ofS2 ?_ (by assumption) | refine ofS3 ?_ (by assumption) | refine of3 ?_ (by assumption)) | dsimp only)

theorem execFlushDiscardEnd_tidy {pq} {page : BitVec 8} {qend : Fin 6} {s : State} (hs : Tidy pq s) : TidyO pq (execFlushDiscardEnd page qend s) := by
  unfold execFlushDiscardEnd
  repeat' (first | with_reducible assumption | (extract_lets +onlyGivenNames zz; first | (refine (fun (hz : Tidy pq zz) => ?_) ?_; (on_goal 1 => (try clear_value zz; rename' zz => zy, hz => hy)); (on_goal 2 => subst zz)) | (refine (fun (hz : ∀ t, Tidy pq t → Tidy pq (zz t)) => ?_) ?_; (on_goal 1 => (try clear_value zz; rename' zz => zy, hz => hf)); (on_goal 2 => (subst zz; intro _ _; beta_reduce))) | (refine (fun (hz : ∀ t, Tidy pq (zz t)) => ?_) ?_; (on_goal 1 => (try clear_value zz; rename' zz => zy, hz => hf)); (on_goal 2 => (subst zz; intro _; beta_reduce))) | (try clear_value zz; rename' zz => zy)) | with_reducible (first | apply tidy_ite | apply tidyO_ite | apply State.setQueue_tidy | apply State.setF_tidy | apply State.err_tidy | apply State.count_tidy | apply idle_tidy | apply tidyO_next | apply tidy1_mk | apply tidy2_mk) | with_reducible (fail_if_no_progress apply tidy_mk) | with_reducible (apply hf) | with_reducible (first | refine of1 ?_ (by assumption) | refine of2 ?_ (by assumption) | refine ofS ?_ (by assumption) | refine ofS1 ?_ (by assumption) | refine ofS2 ?_ (by assumption) | refine ofS3 ?_ (by assumption) | refine of3 ?_ (by assumption)) | dsimp only)


/-! ## Upd -/

theorem State.updDone_tidy {pq} {s : State} {tag status : ℕ} (hs : Tidy pq s) : Tidy pq (State.updDone s tag status) := by
  unfold State.updDone
  repeat' (first | with_reducible assumption | (extract_lets +onlyGivenNames zz; first | (refine (fun (hz : Tidy pq zz) => ?_) ?_; (on_goal 1 => (try clear_value zz; rename' zz => zy, hz => hy)); (on_goal 2 => subst zz)) | (try clear_value zz; rename' zz => zy)) | with_reducible (first | apply tidy_ite | apply State.err_tidy | apply State.irq_tidy | apply State.enq_tidy | apply tidy1_mk | apply tidy2_mk) | with_reducible (first | refine of1 ?_ (by assumption) | refine of2 ?_ (by assumption) | refine ofS ?_ (by assumption) | refine ofS1 ?_ (by assumption) | refine ofS2 ?_ (by assumption) | refine ofS3 ?_ (by assumption) | refine of3 ?_ (by assumption)) | dsimp only)

theorem State.endSession_tidy {pq} {s : State} (hs : Tidy pq s) : Tidy pq (State.endSession s) := by
  unfold State.endSession
  repeat' (first | with_reducible assumption | with_reducible (first | apply tidy1_mk | apply tidy2_mk) | with_reducible (fail_if_no_progress apply tidy_mk))

theorem State.stagePiece_tidy {pq} {s : State} {i tag : ℕ} {d : Bytes} (hs : Tidy pq s) : Tidy pq (State.stagePiece s i tag d) := by
  unfold State.stagePiece
  repeat' (first | with_reducible assumption | with_reducible (first | apply tidy1_mk | apply tidy2_mk) | with_reducible (fail_if_no_progress apply tidy_mk))

theorem State.takeManifest_tidy {pq} {s : State} {tag : ℕ} {d : Bytes} (hs : Tidy pq s) : Tidy pq (State.takeManifest s tag d) := by
  unfold State.takeManifest
  repeat' (first | with_reducible assumption | (extract_lets +onlyGivenNames zz; first | (refine (fun (hz : Tidy pq zz) => ?_) ?_; (on_goal 1 => (try clear_value zz; rename' zz => zy, hz => hy)); (on_goal 2 => subst zz)) | (try clear_value zz; rename' zz => zy)) | with_reducible (first | apply tidy_ite | apply State.updDone_tidy | apply State.stagePiece_tidy | apply State.irq_tidy | apply tidy1_mk | apply tidy2_mk) | with_reducible (fail_if_no_progress apply tidy_mk) | with_reducible (first | refine of1 ?_ (by assumption) | refine of2 ?_ (by assumption) | refine ofS ?_ (by assumption) | refine ofS1 ?_ (by assumption) | refine ofS2 ?_ (by assumption) | refine ofS3 ?_ (by assumption) | refine of3 ?_ (by assumption)) | dsimp only)

theorem State.takePiece_tidy {pq} {s : State} {i build tag : ℕ} {d : Bytes} (hs : Tidy pq s) : Tidy pq (State.takePiece s i build tag d) := by
  unfold State.takePiece
  repeat' (first | with_reducible assumption | (extract_lets +onlyGivenNames zz; first | (refine (fun (hz : Tidy pq zz) => ?_) ?_; (on_goal 1 => (try clear_value zz; rename' zz => zy, hz => hy)); (on_goal 2 => subst zz)) | (try clear_value zz; rename' zz => zy)) | with_reducible (first | apply tidy_ite | apply State.updDone_tidy | apply State.stagePiece_tidy | apply State.count_tidy) | with_reducible (first | refine of1 ?_ (by assumption) | refine of2 ?_ (by assumption) | refine ofS ?_ (by assumption) | refine ofS1 ?_ (by assumption) | refine ofS2 ?_ (by assumption) | refine ofS3 ?_ (by assumption) | refine of3 ?_ (by assumption)) | dsimp only)

theorem State.takeUpd_tidy {pq} {s : State} {b : Bytes} {poison : Bool} (hs : Tidy pq s) : Tidy pq (State.takeUpd s b poison) := by
  unfold State.takeUpd
  repeat' (first | with_reducible assumption | (extract_lets +onlyGivenNames zz; first | (refine (fun (hz : Tidy pq zz) => ?_) ?_; (on_goal 1 => (try clear_value zz; rename' zz => zy, hz => hy)); (on_goal 2 => subst zz)) | (try clear_value zz; rename' zz => zy)) | with_reducible (first | apply tidy_ite | apply State.enq_tidy | apply State.takeManifest_tidy | apply State.takePiece_tidy | apply tidy1_mk | apply tidy2_mk) | with_reducible (first | refine of1 ?_ (by assumption) | refine of2 ?_ (by assumption) | refine ofS ?_ (by assumption) | refine ofS1 ?_ (by assumption) | refine ofS2 ?_ (by assumption) | refine ofS3 ?_ (by assumption) | refine of3 ?_ (by assumption)) | dsimp only)

theorem execUpdPiece_tidy {pq} {sub : Option Submission} {s : State} (hs : Tidy pq s) : TidyO pq (execUpdPiece sub s) := by
  unfold execUpdPiece
  repeat' (first | with_reducible assumption | (extract_lets +onlyGivenNames zz; first | (refine (fun (hz : Tidy pq zz) => ?_) ?_; (on_goal 1 => (try clear_value zz; rename' zz => zy, hz => hy)); (on_goal 2 => subst zz)) | (try clear_value zz; rename' zz => zy)) | with_reducible (first | apply idle_tidy | apply State.submit_tidy | apply State.takeUpd_tidy | apply State.deq_tidy | apply tidyO_next | apply tidy1_mk | apply tidy2_mk | apply tidyS_none | apply tidyS_some | apply tidyS1_none | apply tidyS2_none) | with_reducible (apply tidy_fst; first | apply tidy1_ite) | with_reducible (apply tidy_snd; first | apply tidy2_ite) | split | with_reducible (first | apply tidy_ite | apply tidyO_ite | apply tidy1_ite | apply tidy2_ite) | with_reducible (fail_if_no_progress apply tidy_mk) | with_reducible (first | refine of1 ?_ (by assumption) | refine of2 ?_ (by assumption) | refine ofS ?_ (by assumption) | refine ofS1 ?_ (by assumption) | refine ofS2 ?_ (by assumption) | refine ofS3 ?_ (by assumption) | refine of3 ?_ (by assumption)) | dsimp only)

theorem State.checkHashes_tidy {pq} {s : State} (hs : Tidy pq s) : Tidy1 pq (State.checkHashes s) := by
  unfold State.checkHashes
  repeat' (first | with_reducible assumption | with_reducible intro _ | (extract_lets +onlyGivenNames zz; first | (refine (fun (hz : Tidy pq zz) => ?_) ?_; (on_goal 1 => (try clear_value zz; rename' zz => zy, hz => hy)); (on_goal 2 => subst zz)) | (refine (fun (hz : ∀ t, Tidy pq t → Tidy pq (zz t)) => ?_) ?_; (on_goal 1 => (try clear_value zz; rename' zz => zy, hz => hf)); (on_goal 2 => (subst zz; intro _ _; beta_reduce))) | (refine (fun (hz : ∀ t, Tidy pq (zz t)) => ?_) ?_; (on_goal 1 => (try clear_value zz; rename' zz => zy, hz => hf)); (on_goal 2 => (subst zz; intro _; beta_reduce))) | (try clear_value zz; rename' zz => zy)) | with_reducible (first | apply State.irq_tidy | apply tidy1_mk | apply tidy2_mk | apply map_tidyS | apply map_tidyS_of2 | apply map_tidyS_any) | with_reducible (apply tidy_fst; first | apply tidy1_ite) | with_reducible (apply tidy_snd; first | apply tidy2_ite) | split | with_reducible (first | apply tidy_ite | apply tidy1_ite | apply tidy2_ite) | with_reducible (fail_if_no_progress apply tidy_mk) | with_reducible (apply hf) | with_reducible (first | refine of1 ?_ (by assumption) | refine of2 ?_ (by assumption) | refine ofS ?_ (by assumption) | refine ofS1 ?_ (by assumption) | refine ofS2 ?_ (by assumption) | refine ofS3 ?_ (by assumption) | refine of3 ?_ (by assumption)) | dsimp only)

theorem State.checkComplete_tidy {pq} {s : State} (hs : Tidy pq s) : Tidy pq (State.checkComplete s) := by
  unfold State.checkComplete
  repeat' (first | with_reducible assumption | with_reducible (first | apply tidy_ite | apply State.irq_tidy) | with_reducible (fail_if_no_progress apply tidy_mk))

theorem State.recordPieces_tidy {pq} {s : State} {n : ℕ} {l : List StagedPiece} (hs : Tidy pq s) : Tidy pq (State.recordPieces s n l) := by
  unfold State.recordPieces
  repeat' (first | with_reducible assumption | with_reducible intro _ | (extract_lets +onlyGivenNames zz; first | (refine (fun (hz : Tidy pq zz) => ?_) ?_; (on_goal 1 => (try clear_value zz; rename' zz => zy, hz => hy)); (on_goal 2 => subst zz)) | (refine (fun (hz : ∀ t, Tidy pq t → Tidy pq (zz t)) => ?_) ?_; (on_goal 1 => (try clear_value zz; rename' zz => zy, hz => hf)); (on_goal 2 => (subst zz; intro _ _; beta_reduce))) | (refine (fun (hz : ∀ t, Tidy pq (zz t)) => ?_) ?_; (on_goal 1 => (try clear_value zz; rename' zz => zy, hz => hf)); (on_goal 2 => (subst zz; intro _; beta_reduce))) | (try clear_value zz; rename' zz => zy)) | with_reducible (first | apply tidy_ite | apply tidy1_ite | apply tidy2_ite | apply foldl_tidy | apply foldl_tidy1 | apply State.checkHashes_tidy | apply State.updDone_tidy | apply State.checkComplete_tidy | apply tidy1_mk | apply tidy2_mk | apply map_tidyS | apply map_tidyS_of2 | apply map_tidyS_any) | with_reducible (apply tidy_fst; first | apply State.checkHashes_tidy | apply foldl_tidy1 | apply tidy1_ite) | with_reducible (apply tidy_snd; first | apply foldl_tidy2 | apply tidy2_ite) | with_reducible (fail_if_no_progress apply tidy_mk) | with_reducible (apply hf) | with_reducible (first | refine of1 ?_ (by assumption) | refine of2 ?_ (by assumption) | refine ofS ?_ (by assumption) | refine ofS1 ?_ (by assumption) | refine ofS2 ?_ (by assumption) | refine ofS3 ?_ (by assumption) | refine of3 ?_ (by assumption)) | dsimp only)

theorem execUpdPageWrite_tidy {pq} {s : State} (hs : Tidy pq s) : TidyO pq (execUpdPageWrite s) := by
  unfold execUpdPageWrite
  repeat' (first | with_reducible assumption | with_reducible intro _ | (extract_lets +onlyGivenNames zz; first | (refine (fun (hz : Tidy pq zz) => ?_) ?_; (on_goal 1 => (try clear_value zz; rename' zz => zy, hz => hy)); (on_goal 2 => subst zz)) | (try clear_value zz; rename' zz => zy)) | with_reducible (first | apply idle_tidy | apply State.volWrite_tidy | apply State.recordPieces_tidy | apply tidyO_next | apply map_tidyS | apply map_tidyS_of2 | apply map_tidyS_any | apply tidyS_none | apply tidyS_some | apply tidyS1_none | apply tidyS2_none | apply tidy_getD) | split | with_reducible (fail_if_no_progress apply tidy_mk) | with_reducible (first | refine of1 ?_ (by assumption) | refine of2 ?_ (by assumption) | refine ofS ?_ (by assumption) | refine ofS1 ?_ (by assumption) | refine ofS2 ?_ (by assumption) | refine ofS3 ?_ (by assumption) | refine of3 ?_ (by assumption)) | dsimp only)

theorem State.writeRegion_tidy {pq} {s : State} {p copy : ℕ} {img : Bytes} (hs : Tidy pq s) : TidyS pq (State.writeRegion s p copy img) := by
  unfold State.writeRegion
  repeat' (first | with_reducible assumption | with_reducible intro _ | (extract_lets +onlyGivenNames zz; first | (refine (fun (hz : Tidy pq zz) => ?_) ?_; (on_goal 1 => (try clear_value zz; rename' zz => zy, hz => hy)); (on_goal 2 => subst zz)) | (try clear_value zz; rename' zz => zy)) | with_reducible (first | apply tidy_ite | apply tidyS_ite | apply foldl_tidy | apply foldl_tidy1 | apply State.bootWrite_tidy | apply bind_tidyS | apply bind_tidyS2 | apply foldl_tidyS | apply tidyS_none | apply tidyS_some | apply tidyS1_none | apply tidyS2_none) | with_reducible (apply tidy_fst; first | apply foldl_tidy1) | with_reducible (apply tidy_snd; first | apply foldl_tidy2) | with_reducible (first | refine of1 ?_ (by assumption) | refine of2 ?_ (by assumption) | refine ofS ?_ (by assumption) | refine ofS1 ?_ (by assumption) | refine ofS2 ?_ (by assumption) | refine ofS3 ?_ (by assumption) | refine of3 ?_ (by assumption)) | dsimp only)

theorem State.installed_tidy {pq} {s : State} {p copy : ℕ} {img : Bytes} (hs : Tidy pq s) : Tidy pq (State.installed s p copy img) := by
  unfold State.installed
  repeat' (first | with_reducible assumption | (extract_lets +onlyGivenNames zz; first | (refine (fun (hz : Tidy pq zz) => ?_) ?_; (on_goal 1 => (try clear_value zz; rename' zz => zy, hz => hy)); (on_goal 2 => subst zz)) | (refine (fun (hz : ∀ t, Tidy pq t → Tidy pq (zz t)) => ?_) ?_; (on_goal 1 => (try clear_value zz; rename' zz => zy, hz => hf)); (on_goal 2 => (subst zz; intro _ _; beta_reduce))) | (refine (fun (hz : ∀ t, Tidy pq (zz t)) => ?_) ?_; (on_goal 1 => (try clear_value zz; rename' zz => zy, hz => hf)); (on_goal 2 => (subst zz; intro _; beta_reduce))) | (try clear_value zz; rename' zz => zy)) | with_reducible (first | apply tidy_ite | apply State.irq_tidy | apply State.setImage_tidy | apply State.endSession_tidy | apply State.setPart_tidy | apply tidy1_mk | apply tidy2_mk) | with_reducible (fail_if_no_progress apply tidy_mk) | with_reducible (apply hf) | with_reducible (first | refine of1 ?_ (by assumption) | refine of2 ?_ (by assumption) | refine ofS ?_ (by assumption) | refine ofS1 ?_ (by assumption) | refine ofS2 ?_ (by assumption) | refine ofS3 ?_ (by assumption) | refine of3 ?_ (by assumption)) | dsimp only)

theorem execUpdInstall_tidy {pq} {req : Req} {s : State} (hs : Tidy pq s) : TidyO pq (execUpdInstall req s) := by
  unfold execUpdInstall
  repeat' (first | with_reducible assumption | with_reducible intro _ | (extract_lets +onlyGivenNames zz; first | (refine (fun (hz : Tidy pq zz) => ?_) ?_; (on_goal 1 => (try clear_value zz; rename' zz => zy, hz => hy)); (on_goal 2 => subst zz)) | (try clear_value zz; rename' zz => zy)) | with_reducible (first | apply idle_tidy | apply State.onField_tidy | apply State.refuseAt_tidy | apply State.installed_tidy | apply State.writeRegion_tidy | apply tidyO_next | apply tidyS_none | apply tidyS_some | apply tidyS1_none | apply tidyS2_none) | split | with_reducible (first | apply tidy_ite | apply tidyO_ite) | with_reducible (fail_if_no_progress apply tidy_mk) | with_reducible (first | refine of1 ?_ (by assumption) | refine of2 ?_ (by assumption) | refine ofS ?_ (by assumption) | refine ofS1 ?_ (by assumption) | refine ofS2 ?_ (by assumption) | refine ofS3 ?_ (by assumption) | refine of3 ?_ (by assumption)) | dsimp only)

theorem execUpdAbort_tidy {pq} {req : Req} {s : State} (hs : Tidy pq s) : TidyO pq (execUpdAbort req s) := by
  unfold execUpdAbort
  repeat' (first | with_reducible assumption | with_reducible intro _ | with_reducible (first | apply tidy_ite | apply tidyO_ite | apply State.onField_tidy | apply State.endSession_tidy | apply tidyO_next | apply idle_tidy))

theorem State.stopPart_tidy {pq} {s : State} {p : ℕ} (hs : Tidy pq s) : Tidy pq (State.stopPart s p) := by
  unfold State.stopPart
  repeat' (first | with_reducible assumption | with_reducible intro _ | with_reducible (first | apply tidy_ite | apply foldl_tidy | apply foldl_tidy1 | apply State.dmaAbort_tidy | apply State.ownerReset_tidy) | with_reducible (apply tidy_fst; first | apply foldl_tidy1) | with_reducible (apply tidy_snd; first | apply foldl_tidy2) | with_reducible (fail_if_no_progress apply tidy_mk))

theorem State.takeover_tidy {pq} {s : State} {p : ℕ} {fallback : Bool} (hs : Tidy pq s) : Tidy pq (State.takeover s p fallback) := by
  unfold State.takeover
  repeat' (first | with_reducible assumption | (extract_lets +onlyGivenNames zz; first | (refine (fun (hz : Tidy pq zz) => ?_) ?_; (on_goal 1 => (try clear_value zz; rename' zz => zy, hz => hy)); (on_goal 2 => subst zz)) | (try clear_value zz; rename' zz => zy)) | with_reducible (first | apply State.stopPart_tidy | apply State.toMode_tidy | apply tidy1_mk | apply tidy2_mk) | with_reducible (fail_if_no_progress apply tidy_mk) | with_reducible (first | refine of1 ?_ (by assumption) | refine of2 ?_ (by assumption) | refine ofS ?_ (by assumption) | refine ofS1 ?_ (by assumption) | refine ofS2 ?_ (by assumption) | refine ofS3 ?_ (by assumption) | refine of3 ?_ (by assumption)) | dsimp only)

theorem State.keepSettings_tidy {pq} {s : State} (hs : Tidy pq s) : Tidy pq (State.keepSettings s) := by
  unfold State.keepSettings
  repeat' (first | with_reducible assumption | with_reducible intro _ | (extract_lets +onlyGivenNames zz; first | (refine (fun (hz : Tidy pq zz) => ?_) ?_; (on_goal 1 => (try clear_value zz; rename' zz => zy, hz => hy)); (on_goal 2 => subst zz)) | (refine (fun (hz : ∀ t, Tidy pq t → Tidy pq (zz t)) => ?_) ?_; (on_goal 1 => (try clear_value zz; rename' zz => zy, hz => hf)); (on_goal 2 => (subst zz; intro _ _; beta_reduce))) | (refine (fun (hz : ∀ t, Tidy pq (zz t)) => ?_) ?_; (on_goal 1 => (try clear_value zz; rename' zz => zy, hz => hf)); (on_goal 2 => (subst zz; intro _; beta_reduce))) | (try clear_value zz; rename' zz => zy)) | with_reducible (first | apply tidy_ite | apply tidy1_ite | apply tidy2_ite | apply tidyS_ite | apply tidy1_mk | apply tidy2_mk | apply map_tidyS | apply map_tidyS_of2 | apply map_tidyS_any | apply tidy_getD) | with_reducible (apply tidy_fst; first | apply tidy1_ite) | with_reducible (apply tidy_snd; first | apply tidy2_ite) | with_reducible (fail_if_no_progress apply tidy_mk) | with_reducible (apply hf) | with_reducible (first | refine of1 ?_ (by assumption) | refine of2 ?_ (by assumption) | refine ofS ?_ (by assumption) | refine ofS1 ?_ (by assumption) | refine ofS2 ?_ (by assumption) | refine ofS3 ?_ (by assumption) | refine of3 ?_ (by assumption)) | dsimp only)

theorem State.activate_tidy {pq} {s : State} {p : ℕ} (hs : Tidy pq s) : Tidy pq (State.activate s p) := by
  unfold State.activate
  repeat' (first | with_reducible assumption | (extract_lets +onlyGivenNames zz; first | (refine (fun (hz : Tidy pq zz) => ?_) ?_; (on_goal 1 => (try clear_value zz; rename' zz => zy, hz => hy)); (on_goal 2 => subst zz)) | (try clear_value zz; rename' zz => zy)) | with_reducible (first | apply State.keepSettings_tidy | apply State.setPart_tidy | apply State.takeover_tidy | apply State.event_tidy | apply State.setF_tidy | apply State.endSession_tidy | apply tidy1_mk | apply tidy2_mk) | with_reducible (fail_if_no_progress apply tidy_mk) | with_reducible (first | refine of1 ?_ (by assumption) | refine of2 ?_ (by assumption) | refine ofS ?_ (by assumption) | refine ofS1 ?_ (by assumption) | refine ofS2 ?_ (by assumption) | refine ofS3 ?_ (by assumption) | refine of3 ?_ (by assumption)) | dsimp only)

theorem State.judgeMixed_tidy {pq} {s : State} (hs : Tidy pq s) : Tidy pq (State.judgeMixed s) := by
  unfold State.judgeMixed
  repeat' (first | with_reducible assumption | with_reducible (first | apply State.setF_tidy))

theorem State.partRuns_tidy {pq} {s : State} {p : ℕ} (hs : Tidy pq s) : Tidy pq (State.partRuns s p) := by
  unfold State.partRuns
  repeat' (first | with_reducible assumption | (extract_lets +onlyGivenNames zz; first | (refine (fun (hz : Tidy pq zz) => ?_) ?_; (on_goal 1 => (try clear_value zz; rename' zz => zy, hz => hy)); (on_goal 2 => subst zz)) | (refine (fun (hz : ∀ t, Tidy pq t → Tidy pq (zz t)) => ?_) ?_; (on_goal 1 => (try clear_value zz; rename' zz => zy, hz => hf)); (on_goal 2 => (subst zz; intro _ _; beta_reduce))) | (refine (fun (hz : ∀ t, Tidy pq (zz t)) => ?_) ?_; (on_goal 1 => (try clear_value zz; rename' zz => zy, hz => hf)); (on_goal 2 => (subst zz; intro _; beta_reduce))) | (try clear_value zz; rename' zz => zy)) | with_reducible (first | apply tidy_ite | apply State.runJobs_tidy | apply State.formTrunks_tidy | apply State.setF_tidy | apply State.judgeMixed_tidy | apply State.sendMeasure_tidy) | with_reducible (fail_if_no_progress apply tidy_mk) | with_reducible (apply hf) | with_reducible (first | refine of1 ?_ (by assumption) | refine of2 ?_ (by assumption) | refine ofS ?_ (by assumption) | refine ofS1 ?_ (by assumption) | refine ofS2 ?_ (by assumption) | refine ofS3 ?_ (by assumption) | refine of3 ?_ (by assumption)) | dsimp only)

theorem execUpdActivationEnd_tidy {pq} {s : State} (hs : Tidy pq s) : TidyO pq (execUpdActivationEnd s) := by
  unfold execUpdActivationEnd
  repeat' (first | with_reducible assumption | (extract_lets +onlyGivenNames zz; first | (refine (fun (hz : Tidy pq zz) => ?_) ?_; (on_goal 1 => (try clear_value zz; rename' zz => zy, hz => hy)); (on_goal 2 => subst zz)) | (refine (fun (hz : ∀ t, Tidy pq t → Tidy pq (zz t)) => ?_) ?_; (on_goal 1 => (try clear_value zz; rename' zz => zy, hz => hf)); (on_goal 2 => (subst zz; intro _ _; beta_reduce))) | (refine (fun (hz : ∀ t, Tidy pq (zz t)) => ?_) ?_; (on_goal 1 => (try clear_value zz; rename' zz => zy, hz => hf)); (on_goal 2 => (subst zz; intro _; beta_reduce))) | (try clear_value zz; rename' zz => zy)) | with_reducible (first | apply idle_tidy | apply State.setF_tidy | apply State.partRuns_tidy | apply State.irq_tidy | apply State.settle_tidy | apply State.toMode_tidy | apply tidyO_next | apply tidyS_none | apply tidyS_some | apply tidyS1_none | apply tidyS2_none) | split | with_reducible (first | apply tidy_ite | apply tidyO_ite) | with_reducible (fail_if_no_progress apply tidy_mk) | with_reducible (apply hf) | with_reducible (first | refine of1 ?_ (by assumption) | refine of2 ?_ (by assumption) | refine ofS ?_ (by assumption) | refine ofS1 ?_ (by assumption) | refine ofS2 ?_ (by assumption) | refine ofS3 ?_ (by assumption) | refine of3 ?_ (by assumption)) | dsimp only)

theorem State.onKey_tidy {pq} {s : State} {req : Req} {f : Field} {d : ℕ} {k : State → ℕ → State} (hs : Tidy pq s) (hk : ∀ t e1, Tidy pq t → Tidy pq (k t e1)) : Tidy pq (State.onKey s req f d k) := by
  unfold State.onKey
  repeat' (first | with_reducible assumption | with_reducible intro _ | with_reducible (first | apply tidy_ite | apply State.onField_tidy | apply State.refuseAt_tidy) | with_reducible (first | apply hk))

theorem State.confirm_tidy {pq} {s : State} {p : ℕ} (hs : Tidy pq s) : Tidy pq (State.confirm s p) := by
  unfold State.confirm
  repeat' (first | with_reducible assumption | (extract_lets +onlyGivenNames zz; first | (refine (fun (hz : Tidy pq zz) => ?_) ?_; (on_goal 1 => (try clear_value zz; rename' zz => zy, hz => hy)); (on_goal 2 => subst zz)) | (try clear_value zz; rename' zz => zy)) | with_reducible (first | apply tidy_ite | apply State.setPart_tidy | apply State.releaseKept_tidy) | with_reducible (fail_if_no_progress apply tidy_mk) | with_reducible (first | refine of1 ?_ (by assumption) | refine of2 ?_ (by assumption) | refine ofS ?_ (by assumption) | refine ofS1 ?_ (by assumption) | refine ofS2 ?_ (by assumption) | refine ofS3 ?_ (by assumption) | refine of3 ?_ (by assumption)) | dsimp only)

theorem execUpdConfirm_tidy {pq} {req : Req} {data : Word} {s : State} (hs : Tidy pq s) : TidyO pq (execUpdConfirm req data s) := by
  unfold execUpdConfirm
  repeat' (first | with_reducible assumption | with_reducible intro _ | with_reducible (first | apply tidy_ite | apply tidyO_ite | apply State.onKey_tidy | apply State.busError_tidy | apply State.confirm_tidy | apply tidyO_next | apply idle_tidy))

theorem State.fallsBack_tidy {pq} {s : State} {p : ℕ} (hs : Tidy pq s) : Tidy pq (State.fallsBack s p) := by
  unfold State.fallsBack
  repeat' (first | with_reducible assumption | with_reducible (first | apply State.takeover_tidy | apply State.fallBack_tidy))

theorem execUpdFallbackReq_tidy {pq} {req : Req} {data : Word} {s : State} (hs : Tidy pq s) : TidyO pq (execUpdFallbackReq req data s) := by
  unfold execUpdFallbackReq
  repeat' (first | with_reducible assumption | with_reducible intro _ | with_reducible (first | apply tidy_ite | apply tidyO_ite | apply State.onKey_tidy | apply State.refuseAt_tidy | apply State.fallsBack_tidy | apply tidyO_next | apply idle_tidy))

theorem execConfirmDue_tidy {pq} {part : Fin 3} {s : State} (hs : Tidy pq s) : TidyO pq (execConfirmDue part s) := by
  unfold execConfirmDue
  repeat' (first | with_reducible assumption | (extract_lets +onlyGivenNames zz; first | (refine (fun (hz : Tidy pq zz) => ?_) ?_; (on_goal 1 => (try clear_value zz; rename' zz => zy, hz => hy)); (on_goal 2 => subst zz)) | (try clear_value zz; rename' zz => zy)) | with_reducible (first | apply tidy_ite | apply tidyO_ite | apply State.event_tidy | apply State.irq_tidy | apply State.setPart_tidy | apply idle_tidy | apply tidyO_next) | with_reducible (fail_if_no_progress apply tidy_mk) | with_reducible (first | refine of1 ?_ (by assumption) | refine of2 ?_ (by assumption) | refine ofS ?_ (by assumption) | refine ofS1 ?_ (by assumption) | refine ofS2 ?_ (by assumption) | refine ofS3 ?_ (by assumption) | refine of3 ?_ (by assumption)) | dsimp only)

theorem execConfirmWindowEnd_tidy {pq} {part : Fin 3} {s : State} (hs : Tidy pq s) : TidyO pq (execConfirmWindowEnd part s) := by
  unfold execConfirmWindowEnd
  repeat' (first | with_reducible assumption | (extract_lets +onlyGivenNames zz; first | (refine (fun (hz : Tidy pq zz) => ?_) ?_; (on_goal 1 => (try clear_value zz; rename' zz => zy, hz => hy)); (on_goal 2 => subst zz)) | (try clear_value zz; rename' zz => zy)) | with_reducible (first | apply tidy_ite | apply tidyO_ite | apply State.fallsBack_tidy | apply idle_tidy | apply tidyO_next) | with_reducible (first | refine of1 ?_ (by assumption) | refine of2 ?_ (by assumption) | refine ofS ?_ (by assumption) | refine ofS1 ?_ (by assumption) | refine ofS2 ?_ (by assumption) | refine ofS3 ?_ (by assumption) | refine of3 ?_ (by assumption)) | dsimp only)

theorem execPartnerMARx_tidy {pq} {m : Bytes} {s : State} (hs : Tidy pq s) : TidyO pq (execPartnerMARx m s) := by
  unfold execPartnerMARx
  repeat' (first | with_reducible assumption | with_reducible (first | apply tidy_ite | apply tidyO_ite | apply State.judgeMixed_tidy | apply idle_tidy | apply tidyO_next) | with_reducible (fail_if_no_progress apply tidy_mk))


/-! ## TxnSet -/

theorem State.withSet_tidy {pq} {s : State} {l : List (Field × ℕ)} (hs : Tidy pq s) : Tidy pq (State.withSet s l) := by
  unfold State.withSet
  repeat' (first | with_reducible assumption | with_reducible intro _ | with_reducible (first | apply foldl_tidy | apply foldl_tidy1 | apply State.setF_tidy) | with_reducible (apply tidy_fst; first | apply foldl_tidy1) | with_reducible (apply tidy_snd; first | apply foldl_tidy2))

theorem setAnswer_tidy {pq} {l : List (Field × ℕ)} {aa : State × Refused} (haa : Tidy1 pq aa) : Tidy1 pq (setAnswer l aa) := by
  obtain ⟨s, r⟩ := aa
  cases r <;> exact haa

theorem State.acceptRefused_tidy {pq} {s : State} {l : List (Field × ℕ)} (hs : Tidy pq s) : Tidy1 pq (State.acceptRefused s l) := by
  unfold State.acceptRefused
  repeat' (first | with_reducible assumption | with_reducible intro _ | with_reducible (first | apply setAnswer_tidy | apply State.checkSwap_tidy | apply tidy1_mk | apply tidy2_mk | apply tidyS_none | apply tidyS_some | apply tidyS1_none | apply tidyS2_none) | with_reducible (apply tidy_fst; first | apply setAnswer_tidy | apply State.checkSwap_tidy) | split | with_reducible (fail_if_no_progress apply tidy_mk) | with_reducible (first | refine of1 ?_ (by assumption) | refine of2 ?_ (by assumption) | refine ofS ?_ (by assumption) | refine ofS1 ?_ (by assumption) | refine ofS2 ?_ (by assumption) | refine ofS3 ?_ (by assumption) | refine of3 ?_ (by assumption)) | dsimp only)

theorem State.actOn_tidy {pq} {s : State} {f : Field} {v : ℕ} (hs : Tidy pq s) : Tidy pq (State.actOn s f v) := by
  unfold State.actOn
  extract_lets +onlyGivenNames on
  have hf := State.setF_tidy (f := f) (v := 0) hs
  have hv := State.setF_tidy (f := f) (v := v) hs
  refine tidy_ite (tidy_ite (State.mount_tidy hs) hf) (tidy_ite (tidy_ite hs (State.settling_tidy hs ?_)) (tidy_ite
    (tidy_ite hs (State.settling_tidy hs fun _ h => State.twinFence_tidy h)) (tidy_ite (State.trngEnable_tidy hv) (tidy_ite (tidy_mk hv) (tidy_ite
    (tidy_mk hv) (tidy_ite (tidy_ite (State.activate_tidy hs) hf) (tidy_ite (tidy_ite (State.plcFence_tidy hs) (State.plcUnfence_tidy hs)) (tidy_ite
    (tidy_ite (State.radFence_tidy hs) (State.radUnfence_tidy hs)) (tidy_ite (tidy_ite (State.softFence_tidy hs) (State.softUnfence_tidy hs)) (tidy_ite
    (tidy_ite (State.maintOn_tidy hs) (State.maintOff_tidy hs)) hs))))))))))
  exact fun _ h => tidy_ite (State.twinOn_tidy h) (State.twinOff_tidy h)

theorem State.startPorts_tidy {pq} {s was : State} (hs : Tidy pq s) (hwas : Tidy pq was) : Tidy pq (State.startPorts s was) := by
  unfold State.startPorts
  repeat' (first | with_reducible assumption | with_reducible intro _ | (extract_lets +onlyGivenNames zz; first | (refine (fun (hz : Tidy pq zz) => ?_) ?_; (on_goal 1 => (try clear_value zz; rename' zz => zy, hz => hy)); (on_goal 2 => subst zz)) | (refine (fun (hz : ∀ t, Tidy pq t → Tidy pq (zz t)) => ?_) ?_; (on_goal 1 => (try clear_value zz; rename' zz => zy, hz => hf)); (on_goal 2 => (subst zz; intro _ _; beta_reduce))) | (refine (fun (hz : ∀ t, Tidy pq (zz t)) => ?_) ?_; (on_goal 1 => (try clear_value zz; rename' zz => zy, hz => hf)); (on_goal 2 => (subst zz; intro _; beta_reduce))) | (try clear_value zz; rename' zz => zy)) | with_reducible (first | apply tidy_ite | apply foldl_tidy | apply foldl_tidy1 | apply State.plcEnable_tidy | apply State.radEnable_tidy) | with_reducible (apply tidy_fst; first | apply foldl_tidy1) | with_reducible (apply tidy_snd; first | apply foldl_tidy2) | with_reducible (apply hf) | with_reducible (first | refine of1 ?_ (by assumption) | refine of2 ?_ (by assumption) | refine ofS ?_ (by assumption) | refine ofS1 ?_ (by assumption) | refine ofS2 ?_ (by assumption) | refine ofS3 ?_ (by assumption) | refine of3 ?_ (by assumption)) | dsimp only)

theorem State.startKat_tidy {pq} {s was : State} (hs : Tidy pq s) (hwas : Tidy pq was) : Tidy pq (State.startKat s was) := by
  unfold State.startKat
  repeat' (first | with_reducible assumption | with_reducible intro _ | with_reducible (first | apply tidy_ite | apply foldl_tidy | apply foldl_tidy1 | apply State.setLane_tidy) | with_reducible (apply tidy_fst; first | apply foldl_tidy1) | with_reducible (apply tidy_snd; first | apply foldl_tidy2) | with_reducible (fail_if_no_progress apply tidy_mk))

theorem State.takeSet_tidy {pq} {s : State} {l : List (Field × ℕ)} (hs : Tidy pq s) : Tidy pq (State.takeSet s l) := by
  unfold State.takeSet
  repeat' (first | with_reducible assumption | with_reducible intro _ | (extract_lets +onlyGivenNames zz; first | (refine (fun (hz : Tidy pq zz) => ?_) ?_; (on_goal 1 => (try clear_value zz; rename' zz => zy, hz => hy)); (on_goal 2 => subst zz)) | (refine (fun (hz : ∀ t, Tidy pq t → Tidy pq (zz t)) => ?_) ?_; (on_goal 1 => (try clear_value zz; rename' zz => zy, hz => hf)); (on_goal 2 => (subst zz; intro _ _; beta_reduce))) | (refine (fun (hz : ∀ t, Tidy pq (zz t)) => ?_) ?_; (on_goal 1 => (try clear_value zz; rename' zz => zy, hz => hf)); (on_goal 2 => (subst zz; intro _; beta_reduce))) | (try clear_value zz; rename' zz => zy)) | with_reducible (first | apply tidy_ite | apply tidy1_ite | apply tidy2_ite | apply foldl_tidy | apply foldl_tidy1 | apply State.setF_tidy | apply State.startPorts_tidy | apply State.takeReplicas_tidy | apply State.actOn_tidy | apply State.noteHold_tidy | apply State.startKat_tidy) | with_reducible (apply tidy_fst; first | apply foldl_tidy1 | apply tidy1_ite) | with_reducible (apply tidy_snd; first | apply foldl_tidy2 | apply tidy2_ite) | with_reducible (apply hf) | with_reducible (first | refine of1 ?_ (by assumption) | refine of2 ?_ (by assumption) | refine ofS ?_ (by assumption) | refine ofS1 ?_ (by assumption) | refine ofS2 ?_ (by assumption) | refine ofS3 ?_ (by assumption) | refine of3 ?_ (by assumption)) | dsimp only)

theorem State.commitSet_tidy {pq} {s : State} {l : List (Field × ℕ)} (hs : Tidy pq s) : Tidy pq (State.commitSet s l) := by
  unfold State.commitSet
  repeat' (first | with_reducible assumption | with_reducible intro _ | (extract_lets +onlyGivenNames zz; first | (refine (fun (hz : Tidy pq zz) => ?_) ?_; (on_goal 1 => (try clear_value zz; rename' zz => zy, hz => hy)); (on_goal 2 => subst zz)) | (try clear_value zz; rename' zz => zy)) | with_reducible (first | apply State.leapNow_tidy | apply State.enq_tidy | apply State.takeSet_tidy) | with_reducible (apply tidy_fst; first | apply tidy1_ite) | with_reducible (apply tidy_snd; first | apply tidy2_ite) | split | with_reducible (first | apply tidy_ite | apply tidy1_ite | apply tidy2_ite) | with_reducible (first | refine of1 ?_ (by assumption) | refine of2 ?_ (by assumption) | refine ofS ?_ (by assumption) | refine ofS1 ?_ (by assumption) | refine ofS2 ?_ (by assumption) | refine ofS3 ?_ (by assumption) | refine of3 ?_ (by assumption)) | dsimp only)

theorem State.oneSet_tidy {pq} {s : State} {l : List (Field × ℕ)} (hs : Tidy pq s) : Tidy1 pq (State.oneSet s l) := by
  unfold State.oneSet
  repeat' (first | with_reducible assumption | with_reducible (first | apply State.acceptRefused_tidy | apply State.commitSet_tidy | apply tidy1_mk | apply tidy2_mk | apply tidyS_none | apply tidyS_some | apply tidyS1_none | apply tidyS2_none) | with_reducible (apply tidy_fst; first | apply State.acceptRefused_tidy | apply tidy1_ite) | with_reducible (apply tidy_snd; first | apply tidy2_ite) | split | with_reducible (first | apply tidy_ite | apply tidy1_ite | apply tidy2_ite) | with_reducible (fail_if_no_progress apply tidy_mk) | with_reducible (first | refine of1 ?_ (by assumption) | refine of2 ?_ (by assumption) | refine ofS ?_ (by assumption) | refine ofS1 ?_ (by assumption) | refine ofS2 ?_ (by assumption) | refine ofS3 ?_ (by assumption) | refine of3 ?_ (by assumption)) | dsimp only)

theorem State.oneWrite_tidy {pq} {s : State} {req : Req} {p off : ℕ} {l : List (Field × ℕ)} (hs : Tidy pq s) : Tidy pq (State.oneWrite s req p off l) := by
  unfold State.oneWrite
  repeat' (first | with_reducible assumption | with_reducible intro _ | with_reducible (first | apply foldl_tidy | apply foldl_tidy1 | apply State.err_tidy | apply State.oneSet_tidy | apply tidy1_mk | apply tidy2_mk | apply tidyS_none | apply tidyS_some | apply tidyS1_none | apply tidyS2_none) | with_reducible (apply tidy_fst; first | apply State.oneSet_tidy | apply foldl_tidy1 | apply tidy1_ite) | with_reducible (apply tidy_snd; first | apply foldl_tidy2 | apply tidy2_ite) | split | with_reducible (first | apply tidy_ite | apply tidy1_ite | apply tidy2_ite) | with_reducible (fail_if_no_progress apply tidy_mk) | with_reducible (first | refine of1 ?_ (by assumption) | refine of2 ?_ (by assumption) | refine ofS ?_ (by assumption) | refine ofS1 ?_ (by assumption) | refine ofS2 ?_ (by assumption) | refine ofS3 ?_ (by assumption) | refine of3 ?_ (by assumption)) | dsimp only)


/-! ## Txn -/

theorem State.txnAlloc_tidy {pq} {s : State} {req : Req} (hs : Tidy pq s) : Tidy1 pq (State.txnAlloc s req) := by
  unfold State.txnAlloc
  repeat' (first | with_reducible assumption | with_reducible intro _ | (extract_lets +onlyGivenNames zz; first | (refine (fun (hz : Tidy pq zz) => ?_) ?_; (on_goal 1 => (try clear_value zz; rename' zz => zy, hz => hy)); (on_goal 2 => subst zz)) | (try clear_value zz; rename' zz => zy)) | with_reducible (first | apply State.setF_tidy | apply State.setTxn_tidy | apply tidy1_mk | apply tidy2_mk | apply tidyS_none | apply tidyS_some | apply tidyS1_none | apply tidyS2_none) | split | with_reducible (fail_if_no_progress apply tidy_mk) | with_reducible (first | refine of1 ?_ (by assumption) | refine of2 ?_ (by assumption) | refine ofS ?_ (by assumption) | refine ofS1 ?_ (by assumption) | refine ofS2 ?_ (by assumption) | refine ofS3 ?_ (by assumption) | refine of3 ?_ (by assumption)) | dsimp only)

theorem State.txnBegin_tidy {pq} {s : State} {req : Req} (hs : Tidy pq s) : Tidy pq (State.txnBegin s req) := by
  unfold State.txnBegin
  repeat' (first | with_reducible assumption | (extract_lets +onlyGivenNames zz; first | (refine (fun (hz : Tidy pq zz) => ?_) ?_; (on_goal 1 => (try clear_value zz; rename' zz => zy, hz => hy)); (on_goal 2 => subst zz)) | (try clear_value zz; rename' zz => zy)) | with_reducible (first | apply tidy_ite | apply tidy1_ite | apply tidy2_ite | apply State.txnAlloc_tidy | apply State.answer_tidy | apply tidy1_mk | apply tidy2_mk) | with_reducible (apply tidy_fst; first | apply State.txnAlloc_tidy | apply tidy1_ite) | with_reducible (apply tidy_snd; first | apply tidy2_ite) | with_reducible (first | refine of1 ?_ (by assumption) | refine of2 ?_ (by assumption) | refine ofS ?_ (by assumption) | refine ofS1 ?_ (by assumption) | refine ofS2 ?_ (by assumption) | refine ofS3 ?_ (by assumption) | refine of3 ?_ (by assumption)) | dsimp only)

theorem execTxnBegin_tidy {pq} {req : Req} {s : State} (hs : Tidy pq s) : TidyO pq (execTxnBegin req s) := by
  unfold execTxnBegin
  repeat' (first | with_reducible assumption | with_reducible intro _ | with_reducible (first | apply tidy_ite | apply tidyO_ite | apply State.onRead_tidy | apply State.answer_tidy | apply State.txnBegin_tidy | apply tidyO_next | apply idle_tidy))

theorem State.ifOwner_tidy {pq} {s : State} {req : Req} {t off : ℕ} {k : State → State} (hs : Tidy pq s) (hk : ∀ t, Tidy pq t → Tidy pq (k t)) : Tidy pq (State.ifOwner s req t off k) := by
  unfold State.ifOwner
  repeat' (first | with_reducible assumption | with_reducible (first | apply tidy_ite | apply State.err_tidy) | with_reducible (first | apply hk))

theorem execTxnSelWrite_tidy {pq} {req : Req} {tag : BitVec 3} {s : State} (hs : Tidy pq s) : TidyO pq (execTxnSelWrite req tag s) := by
  unfold execTxnSelWrite
  repeat' (first | with_reducible assumption | with_reducible intro _ | (extract_lets +onlyGivenNames zz; first | (refine (fun (hz : Tidy pq zz) => ?_) ?_; (on_goal 1 => (try clear_value zz; rename' zz => zy, hz => hy)); (on_goal 2 => subst zz)) | (refine (fun (hz : ∀ t, Tidy pq t → Tidy pq (zz t)) => ?_) ?_; (on_goal 1 => (try clear_value zz; rename' zz => zy, hz => hf)); (on_goal 2 => (subst zz; intro _ _; beta_reduce))) | (refine (fun (hz : ∀ t, Tidy pq (zz t)) => ?_) ?_; (on_goal 1 => (try clear_value zz; rename' zz => zy, hz => hf)); (on_goal 2 => (subst zz; intro _; beta_reduce))) | (try clear_value zz; rename' zz => zy)) | with_reducible (first | apply tidy_ite | apply tidyO_ite | apply State.setF_tidy | apply State.onWrite_tidy | apply State.ifOwner_tidy | apply tidyO_next | apply idle_tidy) | with_reducible (fail_if_no_progress apply tidy_mk) | with_reducible (apply hf) | with_reducible (first | refine of1 ?_ (by assumption) | refine of2 ?_ (by assumption) | refine ofS ?_ (by assumption) | refine ofS1 ?_ (by assumption) | refine ofS2 ?_ (by assumption) | refine ofS3 ?_ (by assumption) | refine of3 ?_ (by assumption)) | dsimp only)

theorem State.writeT_tidy {pq} {s : State} {req : Req} {p off d : ℕ} (hs : Tidy pq s) : Tidy pq (State.writeT s req p off d) := by
  unfold State.writeT
  repeat' (first | with_reducible assumption | (extract_lets +onlyGivenNames zz; first | (refine (fun (hz : Tidy pq zz) => ?_) ?_; (on_goal 1 => (try clear_value zz; rename' zz => zy, hz => hy)); (on_goal 2 => subst zz)) | (try clear_value zz; rename' zz => zy)) | with_reducible (first | apply tidy_ite | apply State.oneWrite_tidy | apply State.stage_tidy) | with_reducible (first | refine of1 ?_ (by assumption) | refine of2 ?_ (by assumption) | refine ofS ?_ (by assumption) | refine ofS1 ?_ (by assumption) | refine ofS2 ?_ (by assumption) | refine ofS3 ?_ (by assumption) | refine of3 ?_ (by assumption)) | dsimp only)

theorem State.onWord_tidy {pq} {s : State} {req : Req} {p off d : ℕ} {k : State → State} (hs : Tidy pq s) (hk : ∀ t, Tidy pq t → Tidy pq (k t)) : Tidy pq (State.onWord s req p off d k) := by
  unfold State.onWord
  repeat' (first | with_reducible assumption | with_reducible intro _ | with_reducible (first | apply tidy_ite | apply State.onWrite_tidy | apply State.busError_tidy) | with_reducible (first | apply hk))

theorem execTxnStagedWrite_tidy {pq} {req : Req} {page : BitVec 8} {off : BitVec 12} {data : Word} {s : State} (hs : Tidy pq s) : TidyO pq (execTxnStagedWrite req page off data s) := by
  unfold execTxnStagedWrite
  repeat' (first | with_reducible assumption | with_reducible intro _ | (extract_lets +onlyGivenNames zz; first | (refine (fun (hz : Tidy pq zz) => ?_) ?_; (on_goal 1 => (try clear_value zz; rename' zz => zy, hz => hy)); (on_goal 2 => subst zz)) | (try clear_value zz; rename' zz => zy)) | with_reducible (first | apply tidy_ite | apply tidyO_ite | apply State.onWord_tidy | apply State.stage_tidy | apply tidyO_next | apply idle_tidy) | with_reducible (first | refine of1 ?_ (by assumption) | refine of2 ?_ (by assumption) | refine ofS ?_ (by assumption) | refine ofS1 ?_ (by assumption) | refine ofS2 ?_ (by assumption) | refine ofS3 ?_ (by assumption) | refine of3 ?_ (by assumption)) | dsimp only)

theorem execTxnOneWrite_tidy {pq} {req : Req} {page : BitVec 8} {off : BitVec 12} {data : Word} {s : State} (hs : Tidy pq s) : TidyO pq (execTxnOneWrite req page off data s) := by
  unfold execTxnOneWrite
  repeat' (first | with_reducible assumption | with_reducible intro _ | (extract_lets +onlyGivenNames zz; first | (refine (fun (hz : Tidy pq zz) => ?_) ?_; (on_goal 1 => (try clear_value zz; rename' zz => zy, hz => hy)); (on_goal 2 => subst zz)) | (try clear_value zz; rename' zz => zy)) | with_reducible (first | apply tidy_ite | apply tidyO_ite | apply State.onWord_tidy | apply State.oneWrite_tidy | apply tidyO_next | apply idle_tidy) | with_reducible (first | refine of1 ?_ (by assumption) | refine of2 ?_ (by assumption) | refine ofS ?_ (by assumption) | refine ofS1 ?_ (by assumption) | refine ofS2 ?_ (by assumption) | refine ofS3 ?_ (by assumption) | refine of3 ?_ (by assumption)) | dsimp only)

theorem State.pageRollBack_tidy {pq} {s : State} {t cause page : ℕ} (hs : Tidy pq s) : Tidy pq (State.pageRollBack s t cause page) := by
  unfold State.pageRollBack
  repeat' (first | with_reducible assumption | with_reducible (first | apply State.rollBack_tidy | apply State.err_tidy))

theorem State.dropTag_tidy {pq} {s : State} {t : ℕ} {aa : ℕ × ℕ × Option ℕ} (hs : Tidy pq s) : Tidy pq (State.dropTag s t aa) := by
  unfold State.dropTag
  repeat' (first | with_reducible assumption | with_reducible (first | apply State.pageRollBack_tidy | apply State.err_tidy | apply tidy1_mk | apply tidy2_mk | apply tidyS_none | apply tidyS_some | apply tidyS1_none | apply tidyS2_none) | split | with_reducible (fail_if_no_progress apply tidy_mk) | with_reducible (first | refine of1 ?_ (by assumption) | refine of2 ?_ (by assumption) | refine ofS ?_ (by assumption) | refine ofS1 ?_ (by assumption) | refine ofS2 ?_ (by assumption) | refine ofS3 ?_ (by assumption) | refine of3 ?_ (by assumption)) | dsimp only)

theorem State.fireTxn_tidy {pq} {s : State} {t : ℕ} (hs : Tidy pq s) : Tidy pq (State.fireTxn s t) := by
  unfold State.fireTxn
  repeat' (first | with_reducible assumption | with_reducible intro _ | (extract_lets +onlyGivenNames zz; first | (refine (fun (hz : Tidy pq zz) => ?_) ?_; (on_goal 1 => (try clear_value zz; rename' zz => zy, hz => hy)); (on_goal 2 => subst zz)) | (try clear_value zz; rename' zz => zy)) | with_reducible (first | apply foldl_tidy | apply foldl_tidy1 | apply State.dropTag_tidy | apply State.pageRollBack_tidy | apply State.err_tidy | apply State.commitSet_tidy | apply State.setTxn_tidy | apply tidy1_mk | apply tidy2_mk | apply tidyS_none | apply tidyS_some | apply tidyS1_none | apply tidyS2_none) | with_reducible (apply tidy_fst; first | apply foldl_tidy1 | apply tidy1_ite) | with_reducible (apply tidy_snd; first | apply foldl_tidy2 | apply tidy2_ite) | split | with_reducible (first | apply tidy_ite | apply tidy1_ite | apply tidy2_ite) | with_reducible (fail_if_no_progress apply tidy_mk) | with_reducible (first | refine of1 ?_ (by assumption) | refine of2 ?_ (by assumption) | refine ofS ?_ (by assumption) | refine ofS1 ?_ (by assumption) | refine ofS2 ?_ (by assumption) | refine ofS3 ?_ (by assumption) | refine of3 ?_ (by assumption)) | dsimp only)

theorem State.commit_tidy {pq} {s : State} {req : Req} {t : ℕ} {trig : Option (Trigger × Bool)} (hs : Tidy pq s) : Tidy pq (State.commit s req t trig) := by
  unfold State.commit
  repeat' (first | with_reducible assumption | with_reducible intro _ | (extract_lets +onlyGivenNames zz; first | (refine (fun (hz : Tidy pq zz) => ?_) ?_; (on_goal 1 => (try clear_value zz; rename' zz => zy, hz => hy)); (on_goal 2 => subst zz)) | (try clear_value zz; rename' zz => zy)) | with_reducible (first | apply State.onWrite_tidy | apply State.ifOwner_tidy | apply State.err_tidy | apply State.pageRollBack_tidy | apply State.setTxn_tidy | apply State.fireTxn_tidy | apply State.acceptRefused_tidy | apply tidy1_mk | apply tidy2_mk | apply tidyS_none | apply tidyS_some | apply tidyS1_none | apply tidyS2_none) | with_reducible (apply tidy_fst; first | apply State.acceptRefused_tidy | apply tidy1_ite) | with_reducible (apply tidy_snd; first | apply tidy2_ite) | split | with_reducible (first | apply tidy_ite | apply tidy1_ite | apply tidy2_ite) | with_reducible (fail_if_no_progress apply tidy_mk) | with_reducible (first | refine of1 ?_ (by assumption) | refine of2 ?_ (by assumption) | refine ofS ?_ (by assumption) | refine ofS1 ?_ (by assumption) | refine ofS2 ?_ (by assumption) | refine ofS3 ?_ (by assumption) | refine of3 ?_ (by assumption)) | dsimp only)

theorem execTxnCommitNow_tidy {pq} {req : Req} {tag : BitVec 3} {s : State} (hs : Tidy pq s) : TidyO pq (execTxnCommitNow req tag s) := by
  unfold execTxnCommitNow
  repeat' (first | with_reducible assumption | with_reducible (first | apply State.commit_tidy | apply tidyO_next | apply idle_tidy | apply tidy1_mk | apply tidy2_mk))

theorem execTxnCommitAtTime_tidy {pq} {req : Req} {tag : BitVec 3} {s : State} (hs : Tidy pq s) : TidyO pq (execTxnCommitAtTime req tag s) := by
  unfold execTxnCommitAtTime
  repeat' (first | with_reducible assumption | (extract_lets +onlyGivenNames zz; first | (refine (fun (hz : Tidy pq zz) => ?_) ?_; (on_goal 1 => (try clear_value zz; rename' zz => zy, hz => hy)); (on_goal 2 => subst zz)) | (refine (fun (hz : ∀ t, Tidy pq t → Tidy pq (zz t)) => ?_) ?_; (on_goal 1 => (try clear_value zz; rename' zz => zy, hz => hf)); (on_goal 2 => (subst zz; intro _ _; beta_reduce))) | (refine (fun (hz : ∀ t, Tidy pq (zz t)) => ?_) ?_; (on_goal 1 => (try clear_value zz; rename' zz => zy, hz => hf)); (on_goal 2 => (subst zz; intro _; beta_reduce))) | (try clear_value zz; rename' zz => zy)) | with_reducible (first | apply State.commit_tidy | apply tidyO_next | apply idle_tidy | apply tidy1_mk | apply tidy2_mk) | with_reducible (apply hf) | with_reducible (first | refine of1 ?_ (by assumption) | refine of2 ?_ (by assumption) | refine ofS ?_ (by assumption) | refine ofS1 ?_ (by assumption) | refine ofS2 ?_ (by assumption) | refine ofS3 ?_ (by assumption) | refine of3 ?_ (by assumption)) | dsimp only)

theorem execTxnCommitAtInterval_tidy {pq} {req : Req} {tag interval : BitVec 3} {s : State} (hs : Tidy pq s) : TidyO pq (execTxnCommitAtInterval req tag interval s) := by
  unfold execTxnCommitAtInterval
  repeat' (first | with_reducible assumption | with_reducible intro _ | with_reducible (first | apply State.commit_tidy | apply tidyO_next | apply idle_tidy | apply tidy1_mk | apply tidy2_mk | apply map_tidyS | apply map_tidyS_of2 | apply map_tidyS_any))

theorem execTb3Load_tidy {pq} {req : Req} {s : State} (hs : Tidy pq s) : TidyO pq (execTb3Load req s) := by
  unfold execTb3Load
  repeat' (first | with_reducible assumption | with_reducible intro _ | with_reducible (first | apply tidy_ite | apply tidyO_ite | apply State.onField_tidy | apply State.refuseAt_tidy | apply tidyO_next | apply idle_tidy) | with_reducible (fail_if_no_progress apply tidy_mk))

theorem execTxnCommitAtBeacon_tidy {pq} {req : Req} {tag : BitVec 3} {port : BitVec 4} {s : State} (hs : Tidy pq s) : TidyO pq (execTxnCommitAtBeacon req tag port s) := by
  unfold execTxnCommitAtBeacon
  repeat' (first | with_reducible assumption | with_reducible intro _ | with_reducible (first | apply State.commit_tidy | apply tidyO_next | apply idle_tidy | apply tidy1_mk | apply tidy2_mk | apply map_tidyS | apply map_tidyS_of2 | apply map_tidyS_any))

theorem execTxnCommitAtCycle_tidy {pq} {req : Req} {tag : BitVec 3} {s : State} (hs : Tidy pq s) : TidyO pq (execTxnCommitAtCycle req tag s) := by
  unfold execTxnCommitAtCycle
  repeat' (first | with_reducible assumption | with_reducible (first | apply State.commit_tidy | apply tidyO_next | apply idle_tidy | apply tidy1_mk | apply tidy2_mk))

theorem execTxnAbort_tidy {pq} {req : Req} {tag : BitVec 3} {s : State} (hs : Tidy pq s) : TidyO pq (execTxnAbort req tag s) := by
  unfold execTxnAbort
  repeat' (first | with_reducible assumption | with_reducible intro _ | (extract_lets +onlyGivenNames zz; first | (refine (fun (hz : Tidy pq zz) => ?_) ?_; (on_goal 1 => (try clear_value zz; rename' zz => zy, hz => hy)); (on_goal 2 => subst zz)) | (try clear_value zz; rename' zz => zy)) | with_reducible (first | apply tidy_ite | apply tidyO_ite | apply State.onWrite_tidy | apply State.ifOwner_tidy | apply State.rollBack_tidy | apply tidyO_next | apply idle_tidy) | with_reducible (first | refine of1 ?_ (by assumption) | refine of2 ?_ (by assumption) | refine ofS ?_ (by assumption) | refine ofS1 ?_ (by assumption) | refine ofS2 ?_ (by assumption) | refine ofS3 ?_ (by assumption) | refine of3 ?_ (by assumption)) | dsimp only)

theorem execTxnTimeout_tidy {pq} {tag : BitVec 3} {s : State} (hs : Tidy pq s) : TidyO pq (execTxnTimeout tag s) := by
  unfold execTxnTimeout
  repeat' (first | with_reducible assumption | (extract_lets +onlyGivenNames zz; first | (refine (fun (hz : Tidy pq zz) => ?_) ?_; (on_goal 1 => (try clear_value zz; rename' zz => zy, hz => hy)); (on_goal 2 => subst zz)) | (try clear_value zz; rename' zz => zy)) | with_reducible (first | apply tidy_ite | apply tidyO_ite | apply State.rollBack_tidy | apply State.err_tidy | apply idle_tidy | apply tidyO_next) | with_reducible (first | refine of1 ?_ (by assumption) | refine of2 ?_ (by assumption) | refine ofS ?_ (by assumption) | refine ofS1 ?_ (by assumption) | refine ofS2 ?_ (by assumption) | refine ofS3 ?_ (by assumption) | refine of3 ?_ (by assumption)) | dsimp only)

theorem execTxnTrigger_tidy {pq} {tag : BitVec 3} {s : State} (hs : Tidy pq s) : TidyO pq (execTxnTrigger tag s) := by
  unfold execTxnTrigger
  repeat' (first | with_reducible assumption | (extract_lets +onlyGivenNames zz; first | (refine (fun (hz : Tidy pq zz) => ?_) ?_; (on_goal 1 => (try clear_value zz; rename' zz => zy, hz => hy)); (on_goal 2 => subst zz)) | (try clear_value zz; rename' zz => zy)) | with_reducible (first | apply tidy_ite | apply tidyO_ite | apply State.fireTxn_tidy | apply idle_tidy | apply tidyO_next) | with_reducible (first | refine of1 ?_ (by assumption) | refine of2 ?_ (by assumption) | refine ofS ?_ (by assumption) | refine ofS1 ?_ (by assumption) | refine ofS2 ?_ (by assumption) | refine ofS3 ?_ (by assumption) | refine of3 ?_ (by assumption)) | dsimp only)

theorem State.fireTimed_tidy {pq} {s : State} (hs : Tidy pq s) : Tidy pq (State.fireTimed s) := by
  unfold State.fireTimed
  repeat' (first | with_reducible assumption | with_reducible intro _ | with_reducible (first | apply foldl_tidy | apply foldl_tidy1 | apply State.fireTxn_tidy | apply tidy1_mk | apply tidy2_mk) | with_reducible (apply tidy_fst; first | apply foldl_tidy1) | with_reducible (apply tidy_snd; first | apply foldl_tidy2) | split | with_reducible (first | apply tidy_ite) | with_reducible (fail_if_no_progress apply tidy_mk) | with_reducible (first | refine of1 ?_ (by assumption) | refine of2 ?_ (by assumption) | refine ofS ?_ (by assumption) | refine ofS1 ?_ (by assumption) | refine ofS2 ?_ (by assumption) | refine ofS3 ?_ (by assumption) | refine of3 ?_ (by assumption)) | dsimp only)

theorem execTb0Step_tidy {pq} {req : Req} {s : State} (hs : Tidy pq s) : TidyO pq (execTb0Step req s) := by
  unfold execTb0Step
  repeat' (first | with_reducible assumption | with_reducible intro _ | with_reducible (first | apply State.onField_tidy | apply State.fireTimed_tidy | apply State.stepTb0_tidy | apply tidyO_next | apply idle_tidy))

theorem execTxnSwitched_tidy {pq} {tag : BitVec 3} {s : State} (hs : Tidy pq s) : TidyO pq (execTxnSwitched tag s) := by
  unfold execTxnSwitched
  repeat' (first | with_reducible assumption | (extract_lets +onlyGivenNames zz; first | (refine (fun (hz : Tidy pq zz) => ?_) ?_; (on_goal 1 => (try clear_value zz; rename' zz => zy, hz => hy)); (on_goal 2 => subst zz)) | (try clear_value zz; rename' zz => zy)) | with_reducible (first | apply tidy_ite | apply tidyO_ite | apply State.endTxn_tidy | apply idle_tidy | apply tidyO_next) | with_reducible (fail_if_no_progress apply tidy_mk) | with_reducible (first | refine of1 ?_ (by assumption) | refine of2 ?_ (by assumption) | refine ofS ?_ (by assumption) | refine ofS1 ?_ (by assumption) | refine ofS2 ?_ (by assumption) | refine ofS3 ?_ (by assumption) | refine of3 ?_ (by assumption)) | dsimp only)


/-! ## Access -/

theorem State.dropKeys_tidy {pq} {s : State} (hs : Tidy pq s) : Tidy pq (State.dropKeys s) := by
  unfold State.dropKeys
  repeat' (first | with_reducible assumption | with_reducible intro _ | (extract_lets +onlyGivenNames zz; first | (refine (fun (hz : Tidy pq zz) => ?_) ?_; (on_goal 1 => (try clear_value zz; rename' zz => zy, hz => hy)); (on_goal 2 => subst zz)) | (try clear_value zz; rename' zz => zy)) | with_reducible (first | apply foldl_tidy | apply foldl_tidy1 | apply State.setSlotK_tidy | apply State.setF_tidy | apply State.setJobs_tidy | apply tidyS_none | apply tidyS_some | apply tidyS1_none | apply tidyS2_none) | with_reducible (apply tidy_fst; first | apply foldl_tidy1) | with_reducible (apply tidy_snd; first | apply foldl_tidy2) | split | with_reducible (fail_if_no_progress apply tidy_mk) | with_reducible (first | refine of1 ?_ (by assumption) | refine of2 ?_ (by assumption) | refine ofS ?_ (by assumption) | refine ofS1 ?_ (by assumption) | refine ofS2 ?_ (by assumption) | refine ofS3 ?_ (by assumption) | refine of3 ?_ (by assumption)) | dsimp only)

theorem State.restartUnits_tidy {pq} {s : State} (hs : Tidy pq s) : Tidy pq (State.restartUnits s) := by
  unfold State.restartUnits
  repeat' (first | with_reducible assumption | with_reducible intro _ | with_reducible (first | apply foldl_tidy | apply foldl_tidy1 | apply State.rerunFrame_tidy | apply State.setUnitRun_tidy | apply tidyS_none | apply tidyS_some | apply tidyS1_none | apply tidyS2_none) | with_reducible (apply tidy_fst; first | apply foldl_tidy1) | with_reducible (apply tidy_snd; first | apply foldl_tidy2) | split | with_reducible (fail_if_no_progress apply tidy_mk) | with_reducible (first | refine of1 ?_ (by assumption) | refine of2 ?_ (by assumption) | refine ofS ?_ (by assumption) | refine ofS1 ?_ (by assumption) | refine ofS2 ?_ (by assumption) | refine ofS3 ?_ (by assumption) | refine of3 ?_ (by assumption)) | dsimp only)

theorem State.restartLane_tidy {pq} {s : State} {n : ℕ} (hs : Tidy pq s) : Tidy pq (State.restartLane s n) := by
  unfold State.restartLane
  repeat' (first | with_reducible assumption | with_reducible (first | apply State.rerunFrame_tidy | apply tidyS_none | apply tidyS_some | apply tidyS1_none | apply tidyS2_none) | split | with_reducible (fail_if_no_progress apply tidy_mk) | with_reducible (first | refine of1 ?_ (by assumption) | refine of2 ?_ (by assumption) | refine ofS ?_ (by assumption) | refine ofS1 ?_ (by assumption) | refine ofS2 ?_ (by assumption) | refine ofS3 ?_ (by assumption) | refine of3 ?_ (by assumption)) | dsimp only)

theorem State.restartNand_tidy {pq} {s : State} (hs : Tidy pq s) : Tidy pq (State.restartNand s) := by
  unfold State.restartNand
  repeat' (first | with_reducible assumption | with_reducible intro _ | with_reducible (first | apply foldl_tidy | apply foldl_tidy1 | apply State.nandStart_tidy | apply tidy1_mk | apply tidy2_mk | apply map_tidyS | apply map_tidyS_of2 | apply map_tidyS_any | apply tidyS_none | apply tidyS_some | apply tidyS1_none | apply tidyS2_none) | with_reducible (apply tidy_fst; first | apply foldl_tidy1) | with_reducible (apply tidy_snd; first | apply foldl_tidy2) | with_reducible (fail_if_no_progress apply tidy_mk))

theorem State.softReset_tidy {pq} {s : State} {p : ℕ} (hs : Tidy pq s) : Tidy pq (State.softReset s p) := by
  unfold State.softReset
  repeat' (first | with_reducible assumption | with_reducible intro _ | (extract_lets +onlyGivenNames zz; first | (refine (fun (hz : Tidy pq zz) => ?_) ?_; (on_goal 1 => (try clear_value zz; rename' zz => zy, hz => hy)); (on_goal 2 => subst zz)) | (try clear_value zz; rename' zz => zy)) | with_reducible (first | apply tidy_ite | apply foldl_tidy | apply foldl_tidy1 | apply State.dropKeys_tidy | apply State.restartUnits_tidy | apply State.setF_tidy | apply State.setLane_tidy | apply State.setHeader_tidy | apply State.toChan_tidy | apply State.restartNand_tidy | apply State.setPort_tidy | apply State.restartLane_tidy | apply tidy1_mk | apply tidy2_mk | apply map_tidyS | apply map_tidyS_of2 | apply map_tidyS_any | apply tidyS_none | apply tidyS_some | apply tidyS1_none | apply tidyS2_none) | with_reducible (apply tidy_fst; first | apply foldl_tidy1) | with_reducible (apply tidy_snd; first | apply foldl_tidy2) | with_reducible (fail_if_no_progress apply tidy_mk) | with_reducible (first | refine of1 ?_ (by assumption) | refine of2 ?_ (by assumption) | refine ofS ?_ (by assumption) | refine ofS1 ?_ (by assumption) | refine ofS2 ?_ (by assumption) | refine ofS3 ?_ (by assumption) | refine of3 ?_ (by assumption)) | dsimp only)

theorem execSoftReset_tidy {pq} {req : Req} {page : BitVec 8} {s : State} (hs : Tidy pq s) : TidyO pq (execSoftReset req page s) := by
  unfold execSoftReset
  repeat' (first | with_reducible assumption | with_reducible intro _ | with_reducible (first | apply State.onField_tidy | apply State.softReset_tidy | apply tidyO_next | apply idle_tidy))

theorem State.headAct_tidy {pq} {s : State} {req : Req} {p off d : ℕ} (hs : Tidy pq s) : Tidy pq (State.headAct s req p off d) := by
  unfold State.headAct
  repeat' (first | with_reducible assumption | with_reducible intro _ | (extract_lets +onlyGivenNames zz; first | (refine (fun (hz : Tidy pq zz) => ?_) ?_; (on_goal 1 => (try clear_value zz; rename' zz => zy, hz => hy)); (on_goal 2 => subst zz)) | (try clear_value zz; rename' zz => zy)) | with_reducible (first | apply tidy_ite | apply State.after'_tidy | apply execBlkPrivWrite_tidy | apply execSoftReset_tidy | apply execIrqClear_tidy | apply execIrqSet_tidy | apply execErrClear_tidy | apply execShadowArm_tidy | apply execWatermarkWrite_tidy | apply execQueueFlush_tidy) | with_reducible (first | refine of1 ?_ (by assumption) | refine of2 ?_ (by assumption) | refine ofS ?_ (by assumption) | refine ofS1 ?_ (by assumption) | refine ofS2 ?_ (by assumption) | refine ofS3 ?_ (by assumption) | refine of3 ?_ (by assumption)) | dsimp only)

theorem State.sysAct_tidy {pq} {s : State} {req : Req} {off d : ℕ} (hs : Tidy pq s) : Tidy pq (State.sysAct s req off d) := by
  unfold State.sysAct
  repeat' (first | with_reducible assumption | with_reducible intro _ | (extract_lets +onlyGivenNames zz; first | (refine (fun (hz : Tidy pq zz) => ?_) ?_; (on_goal 1 => (try clear_value zz; rename' zz => zy, hz => hy)); (on_goal 2 => subst zz)) | (try clear_value zz; rename' zz => zy)) | with_reducible (first | apply State.after'_tidy | apply State.commit_tidy | apply execSwReset_tidy | apply execTxnSelWrite_tidy | apply execTxnCommitNow_tidy | apply execTxnCommitAtTime_tidy | apply execTxnCommitAtInterval_tidy | apply execTxnCommitAtBeacon_tidy | apply execTxnCommitAtCycle_tidy | apply execTxnAbort_tidy | apply tidyS_none | apply tidyS_some | apply tidyS1_none | apply tidyS2_none) | split | with_reducible (first | apply tidy_ite) | with_reducible (fail_if_no_progress apply tidy_mk) | with_reducible (first | refine of1 ?_ (by assumption) | refine of2 ?_ (by assumption) | refine ofS ?_ (by assumption) | refine ofS1 ?_ (by assumption) | refine ofS2 ?_ (by assumption) | refine ofS3 ?_ (by assumption) | refine of3 ?_ (by assumption)) | dsimp only)

theorem State.timeAct_tidy {pq} {s : State} {req : Req} {p off d : ℕ} (hs : Tidy pq s) : Tidy pq (State.timeAct s req p off d) := by
  unfold State.timeAct
  repeat' (first | with_reducible assumption | with_reducible intro _ | (extract_lets +onlyGivenNames zz; first | (refine (fun (hz : Tidy pq zz) => ?_) ?_; (on_goal 1 => (try clear_value zz; rename' zz => zy, hz => hy)); (on_goal 2 => subst zz)) | (try clear_value zz; rename' zz => zy)) | with_reducible (first | apply tidy_ite | apply State.after'_tidy | apply execModeReq_tidy | apply execRtcSet_tidy | apply execRtcSyncTb0_tidy | apply execAlarmWrite_tidy | apply execRtcChgWrite_tidy | apply execTb0StateSet_tidy | apply execTb0Step_tidy | apply execTb3Load_tidy) | with_reducible (fail_if_no_progress apply tidy_mk) | with_reducible (first | refine of1 ?_ (by assumption) | refine of2 ?_ (by assumption) | refine ofS ?_ (by assumption) | refine ofS1 ?_ (by assumption) | refine ofS2 ?_ (by assumption) | refine ofS3 ?_ (by assumption) | refine of3 ?_ (by assumption)) | dsimp only)

theorem State.lcsAct_tidy {pq} {s : State} {req : Req} {d : ℕ} (hs : Tidy pq s) : Tidy pq (State.lcsAct s req d) := by
  unfold State.lcsAct
  repeat' (first | with_reducible assumption | with_reducible intro _ | with_reducible (first | apply State.after'_tidy | apply State.lcsCommand_tidy | apply execLcsDebugOpen_tidy | apply execLcsDeploy_tidy | apply execLcsRetire_tidy | apply execLcsKillDebug_tidy | apply execLcsProvision_tidy | apply execLcsDebugClose_tidy) | split | with_reducible (fail_if_no_progress apply tidy_mk) | with_reducible (first | refine of1 ?_ (by assumption) | refine of2 ?_ (by assumption) | refine ofS ?_ (by assumption) | refine ofS1 ?_ (by assumption) | refine ofS2 ?_ (by assumption) | refine ofS3 ?_ (by assumption) | refine of3 ?_ (by assumption)) | dsimp only)

theorem State.trustAct_tidy {pq} {s : State} {req : Req} {p off d : ℕ} (hs : Tidy pq s) : Tidy pq (State.trustAct s req p off d) := by
  unfold State.trustAct
  repeat' (first | with_reducible assumption | with_reducible intro _ | (extract_lets +onlyGivenNames zz; first | (refine (fun (hz : Tidy pq zz) => ?_) ?_; (on_goal 1 => (try clear_value zz; rename' zz => zy, hz => hy)); (on_goal 2 => subst zz)) | (try clear_value zz; rename' zz => zy)) | with_reducible (first | apply tidy_ite | apply State.after'_tidy | apply State.lcsAct_tidy | apply State.keyWrite_tidy | apply execEvrClear_tidy | apply execEvrNorRetry_tidy | apply execEvrRead_tidy | apply execEvrSwCode_tidy | apply execLcsChalReq_tidy | apply execKeyZeroise_tidy | apply execRewrapGo_tidy | apply execTampVkrClear_tidy | apply execTampArm_tidy | apply execTampRelease_tidy | apply execUpdAbort_tidy | apply execUpdInstall_tidy | apply execUpdConfirm_tidy | apply execUpdFallbackReq_tidy | apply tidyS_none | apply tidyS_some | apply tidyS1_none | apply tidyS2_none) | with_reducible (first | refine of1 ?_ (by assumption) | refine of2 ?_ (by assumption) | refine ofS ?_ (by assumption) | refine ofS1 ?_ (by assumption) | refine ofS2 ?_ (by assumption) | refine ofS3 ?_ (by assumption) | refine of3 ?_ (by assumption)) | dsimp only)

theorem State.pathAct_tidy {pq} {s : State} {req : Req} {p off d : ℕ} (hs : Tidy pq s) : Tidy pq (State.pathAct s req p off d) := by
  unfold State.pathAct
  repeat' (first | with_reducible assumption | with_reducible intro _ | (extract_lets +onlyGivenNames zz; first | (refine (fun (hz : Tidy pq zz) => ?_) ?_; (on_goal 1 => (try clear_value zz; rename' zz => zy, hz => hy)); (on_goal 2 => subst zz)) | (try clear_value zz; rename' zz => zy)) | with_reducible (first | apply tidy_ite | apply State.after'_tidy | apply execOrderBaseLoad_tidy | apply execLanemapMoveRequest_tidy | apply execLanemapInit_tidy | apply execDirSuspectClr_tidy | apply execTokGo_tidy | apply execCalCheck_tidy | apply execCalResolve_tidy | apply execLaneSeal_tidy) | with_reducible (first | refine of1 ?_ (by assumption) | refine of2 ?_ (by assumption) | refine ofS ?_ (by assumption) | refine ofS1 ?_ (by assumption) | refine ofS2 ?_ (by assumption) | refine ofS3 ?_ (by assumption) | refine of3 ?_ (by assumption)) | dsimp only)

theorem State.dmaAct_tidy {pq} {s : State} {req : Req} {off d : ℕ} (hs : Tidy pq s) : Tidy pq (State.dmaAct s req off d) := by
  unfold State.dmaAct
  repeat' (first | with_reducible assumption | with_reducible intro _ | (extract_lets +onlyGivenNames zz; first | (refine (fun (hz : Tidy pq zz) => ?_) ?_; (on_goal 1 => (try clear_value zz; rename' zz => zy, hz => hy)); (on_goal 2 => subst zz)) | (refine (fun (hz : ∀ t, Tidy pq t → Tidy pq (zz t)) => ?_) ?_; (on_goal 1 => (try clear_value zz; rename' zz => zy, hz => hf)); (on_goal 2 => (subst zz; intro _ _; beta_reduce))) | (refine (fun (hz : ∀ t, Tidy pq (zz t)) => ?_) ?_; (on_goal 1 => (try clear_value zz; rename' zz => zy, hz => hf)); (on_goal 2 => (subst zz; intro _; beta_reduce))) | (try clear_value zz; rename' zz => zy)) | with_reducible (first | apply tidy_ite | apply State.after'_tidy | apply execDmaCfgReqWrite_tidy | apply execShadowArm_tidy | apply execDmaClear_tidy | apply execDmaStart_tidy | apply execDmaStop_tidy | apply execDmaResume_tidy | apply execDmaAbort_tidy) | with_reducible (apply hf) | with_reducible (first | refine of1 ?_ (by assumption) | refine of2 ?_ (by assumption) | refine ofS ?_ (by assumption) | refine ofS1 ?_ (by assumption) | refine ofS2 ?_ (by assumption) | refine ofS3 ?_ (by assumption) | refine of3 ?_ (by assumption)) | dsimp only)

theorem State.bootAct_tidy {pq} {s : State} {req : Req} {d : ℕ} (hs : Tidy pq s) : Tidy pq (State.bootAct s req d) := by
  unfold State.bootAct
  repeat' (first | with_reducible assumption | with_reducible intro _ | with_reducible (first | apply State.after'_tidy | apply State.err_tidy | apply execBootReadCopy_tidy | apply execBootReadCopyHash_tidy | apply execBootReadCopyMerkle_tidy) | split | with_reducible (fail_if_no_progress apply tidy_mk) | with_reducible (first | refine of1 ?_ (by assumption) | refine of2 ?_ (by assumption) | refine ofS ?_ (by assumption) | refine ofS1 ?_ (by assumption) | refine ofS2 ?_ (by assumption) | refine ofS3 ?_ (by assumption) | refine of3 ?_ (by assumption)) | dsimp only)

theorem State.mdioAct_tidy {pq} {s : State} {req : Req} {d : ℕ} (hs : Tidy pq s) : Tidy pq (State.mdioAct s req d) := by
  unfold State.mdioAct
  repeat' (first | with_reducible assumption | with_reducible intro _ | (extract_lets +onlyGivenNames zz; first | (refine (fun (hz : Tidy pq zz) => ?_) ?_; (on_goal 1 => (try clear_value zz; rename' zz => zy, hz => hy)); (on_goal 2 => subst zz)) | (try clear_value zz; rename' zz => zy)) | with_reducible (first | apply State.after'_tidy | apply State.refuseAt_tidy | apply execMdioWrite_tidy | apply execMdioRead_tidy) | split | with_reducible (fail_if_no_progress apply tidy_mk) | with_reducible (first | refine of1 ?_ (by assumption) | refine of2 ?_ (by assumption) | refine ofS ?_ (by assumption) | refine ofS1 ?_ (by assumption) | refine ofS2 ?_ (by assumption) | refine ofS3 ?_ (by assumption) | refine of3 ?_ (by assumption)) | dsimp only)

theorem State.fieldAct_tidy {pq} {s : State} {req : Req} {p off d : ℕ} (hs : Tidy pq s) : Tidy pq (State.fieldAct s req p off d) := by
  unfold State.fieldAct
  repeat' (first | with_reducible assumption | with_reducible intro _ | (extract_lets +onlyGivenNames zz; first | (refine (fun (hz : Tidy pq zz) => ?_) ?_; (on_goal 1 => (try clear_value zz; rename' zz => zy, hz => hy)); (on_goal 2 => subst zz)) | (try clear_value zz; rename' zz => zy)) | with_reducible (first | apply State.dmaAct_tidy | apply State.bootAct_tidy | apply State.mdioAct_tidy | apply State.after'_tidy | apply execPcieSqTailWrite_tidy | apply execTwinSwap_tidy | apply execTwinDissolve_tidy | apply execTwinResolveKeep_tidy | apply execTwinResolveStepDown_tidy | apply execTwinResolveDrop_tidy | apply execRadSpiRaw_tidy | apply State.drawWord_tidy | apply tidy1_mk | apply tidy2_mk) | with_reducible (apply tidy_fst; first | apply tidy1_ite) | with_reducible (apply tidy_snd; first | apply State.drawWord_tidy | apply tidy2_ite) | split | with_reducible (first | apply tidy_ite | apply tidy1_ite | apply tidy2_ite) | with_reducible (fail_if_no_progress apply tidy_mk) | with_reducible (first | refine of1 ?_ (by assumption) | refine of2 ?_ (by assumption) | refine ofS ?_ (by assumption) | refine ofS1 ?_ (by assumption) | refine ofS2 ?_ (by assumption) | refine ofS3 ?_ (by assumption) | refine of3 ?_ (by assumption)) | dsimp only)

theorem State.ownAct_tidy {pq} {s : State} {req : Req} {p off d : ℕ} (hs : Tidy pq s) : Tidy pq (State.ownAct s req p off d) := by
  unfold State.ownAct
  repeat' (first | with_reducible assumption | (extract_lets +onlyGivenNames zz; first | (refine (fun (hz : Tidy pq zz) => ?_) ?_; (on_goal 1 => (try clear_value zz; rename' zz => zy, hz => hy)); (on_goal 2 => subst zz)) | (try clear_value zz; rename' zz => zy)) | with_reducible (first | apply tidy_ite | apply State.headAct_tidy | apply State.sysAct_tidy | apply State.timeAct_tidy | apply State.trustAct_tidy | apply State.fieldAct_tidy | apply State.pathAct_tidy) | with_reducible (first | refine of1 ?_ (by assumption) | refine of2 ?_ (by assumption) | refine ofS ?_ (by assumption) | refine ofS1 ?_ (by assumption) | refine ofS2 ?_ (by assumption) | refine ofS3 ?_ (by assumption) | refine of3 ?_ (by assumption)) | dsimp only)

theorem State.alarmsFirst_tidy {pq} {s : State} {p off : ℕ} (hs : Tidy pq s) : Tidy pq (State.alarmsFirst s p off) := by
  unfold State.alarmsFirst
  repeat' (first | with_reducible assumption | with_reducible (first | apply tidy_ite | apply State.fireTimeDue_tidy | apply State.fireRtcDue_tidy))

theorem State.writeWord_tidy {pq} {s : State} {req : Req} {p off d : ℕ} (hs : Tidy pq s) : Tidy pq (State.writeWord s req p off d) := by
  unfold State.writeWord
  repeat' (first | with_reducible assumption | with_reducible intro _ | (extract_lets +onlyGivenNames zz; first | (refine (fun (hz : Tidy pq zz) => ?_) ?_; (on_goal 1 => (try clear_value zz; rename' zz => zy, hz => hy)); (on_goal 2 => subst zz)) | (try clear_value zz; rename' zz => zy)) | with_reducible (first | apply tidy_ite | apply tidy1_ite | apply tidy2_ite | apply State.onWord_tidy | apply State.busError_tidy | apply State.alarmsFirst_tidy | apply State.writeShadow_tidy | apply State.writeT_tidy | apply State.ovfNews_tidy | apply State.ownAct_tidy | apply State.writePlain_tidy | apply tidy1_mk | apply tidy2_mk) | with_reducible (apply tidy_fst; first | apply State.writePlain_tidy | apply tidy1_ite) | with_reducible (apply tidy_snd; first | apply tidy2_ite) | with_reducible (first | refine of1 ?_ (by assumption) | refine of2 ?_ (by assumption) | refine ofS ?_ (by assumption) | refine ofS1 ?_ (by assumption) | refine ofS2 ?_ (by assumption) | refine ofS3 ?_ (by assumption) | refine of3 ?_ (by assumption)) | dsimp only)

theorem State.inHalves_tidy {pq} {s : State} {off : ℕ} {size : AccessSize} {access : State → ℕ → AccessSize → State} (hs : Tidy pq s) (haccess : ∀ t e1 e2, Tidy pq t → Tidy pq (access t e1 e2)) : Tidy pq (State.inHalves s off size access) := by
  unfold State.inHalves
  repeat' (first | with_reducible assumption | (extract_lets +onlyGivenNames zz; first | (refine (fun (hz : Tidy pq zz) => ?_) ?_; (on_goal 1 => (try clear_value zz; rename' zz => zy, hz => hy)); (on_goal 2 => subst zz)) | (try clear_value zz; rename' zz => zy)) | with_reducible (first | apply tidy1_mk | apply tidy2_mk) | split | with_reducible (first | apply tidy_ite) | with_reducible (fail_if_no_progress apply tidy_mk) | with_reducible (first | apply haccess) | with_reducible (first | refine of1 ?_ (by assumption) | refine of2 ?_ (by assumption) | refine ofS ?_ (by assumption) | refine ofS1 ?_ (by assumption) | refine ofS2 ?_ (by assumption) | refine ofS3 ?_ (by assumption) | refine of3 ?_ (by assumption)) | dsimp only)

theorem State.pageWrite_tidy {pq} {s : State} {req : Req} {p off : ℕ} {size : AccessSize} {d : ℕ} (hs : Tidy pq s) : Tidy pq (State.pageWrite s req p off size d) := by
  unfold State.pageWrite
  repeat' (first | with_reducible assumption | with_reducible (first | apply State.busError_tidy | apply State.writeWord_tidy | apply tidy1_mk | apply tidy2_mk | apply tidyS_none | apply tidyS_some | apply tidyS1_none | apply tidyS2_none) | split | with_reducible (fail_if_no_progress apply tidy_mk) | with_reducible (first | refine of1 ?_ (by assumption) | refine of2 ?_ (by assumption) | refine ofS ?_ (by assumption) | refine ofS1 ?_ (by assumption) | refine ofS2 ?_ (by assumption) | refine ofS3 ?_ (by assumption) | refine of3 ?_ (by assumption)) | dsimp only)

theorem execRegisterWrite_tidy {pq} {req : Req} {addr : BitVec 40} {size : AccessSize} {data : BitVec 64} {s : State} (hs : Tidy pq s) : TidyO pq (execRegisterWrite req addr size data s) := by
  unfold execRegisterWrite
  repeat' (first | with_reducible assumption | with_reducible intro _ | (extract_lets +onlyGivenNames zz; first | (refine (fun (hz : Tidy pq zz) => ?_) ?_; (on_goal 1 => (try clear_value zz; rename' zz => zy, hz => hy)); (on_goal 2 => subst zz)) | (try clear_value zz; rename' zz => zy)) | with_reducible (first | apply idle_tidy | apply State.inHalves_tidy | apply State.msixWrite_tidy | apply State.answer_tidy | apply State.pageWrite_tidy | apply State.memWrite_tidy | apply tidyO_next) | with_reducible (apply tidy_fst; first | apply State.memWrite_tidy | apply tidy1_ite) | with_reducible (apply tidy_snd; first | apply tidy2_ite) | split | with_reducible (first | apply tidy_ite | apply tidyO_ite | apply tidy1_ite | apply tidy2_ite) | with_reducible (fail_if_no_progress apply tidy_mk) | with_reducible (first | refine of1 ?_ (by assumption) | refine of2 ?_ (by assumption) | refine ofS ?_ (by assumption) | refine ofS1 ?_ (by assumption) | refine ofS2 ?_ (by assumption) | refine ofS3 ?_ (by assumption) | refine of3 ?_ (by assumption)) | dsimp only)

theorem State.clearRc_tidy {pq} {s : State} {req : Req} {p off : ℕ} (hs : Tidy pq s) : Tidy pq (State.clearRc s req p off) := by
  unfold State.clearRc
  repeat' (first | with_reducible assumption | with_reducible intro _ | with_reducible (first | apply foldl_tidy | apply foldl_tidy1 | apply State.setF_tidy) | with_reducible (apply tidy_fst; first | apply foldl_tidy1) | with_reducible (apply tidy_snd; first | apply foldl_tidy2))

theorem State.rtcLatch_tidy {pq} {s : State} {req : Req} (hs : Tidy pq s) : Tidy pq (State.rtcLatch s req) := by
  unfold State.rtcLatch
  repeat' (first | with_reducible assumption | with_reducible (first | apply State.setF_tidy))

theorem State.regRead_tidy {pq} {s : State} {req : Req} {p off : ℕ} {size : optParam AccessSize AccessSize.b4} (hs : Tidy pq s) : Tidy pq (State.regRead s req p off size) := by
  unfold State.regRead
  repeat' (first | with_reducible assumption | with_reducible intro _ | (extract_lets +onlyGivenNames zz; first | (refine (fun (hz : Tidy pq zz) => ?_) ?_; (on_goal 1 => (try clear_value zz; rename' zz => zy, hz => hy)); (on_goal 2 => subst zz)) | (try clear_value zz; rename' zz => zy)) | with_reducible (first | apply tidy_ite | apply State.onRead_tidy | apply State.after'_tidy | apply State.answer_tidy | apply State.txnBegin_tidy | apply State.rtcLatch_tidy | apply State.clearRc_tidy | apply execTrngDataRead_tidy | apply execTimeNowRead_tidy | apply execAonNowRead_tidy) | with_reducible (fail_if_no_progress apply tidy_mk) | with_reducible (first | refine of1 ?_ (by assumption) | refine of2 ?_ (by assumption) | refine ofS ?_ (by assumption) | refine ofS1 ?_ (by assumption) | refine ofS2 ?_ (by assumption) | refine ofS3 ?_ (by assumption) | refine of3 ?_ (by assumption)) | dsimp only)

theorem execRcRead_tidy {pq} {req : Req} {page : BitVec 8} {off : BitVec 12} {size : AccessSize} {s : State} (hs : Tidy pq s) : TidyO pq (execRcRead req page off size s) := by
  unfold execRcRead
  repeat' (first | with_reducible assumption | with_reducible intro _ | with_reducible (first | apply State.inHalves_tidy | apply State.regRead_tidy | apply tidyO_next | apply idle_tidy))


/-! ## Dma -/

theorem State.granted_tidy {pq} {s : State} {n left : ℕ} (hs : Tidy pq s) : Tidy pq (State.granted s n left) := by
  unfold State.granted
  repeat' (first | with_reducible assumption | with_reducible (first | apply tidy_ite | apply tidy1_mk | apply tidy2_mk) | with_reducible (fail_if_no_progress apply tidy_mk))

theorem State.dmaFail_tidy {pq} {s : State} {n code addr : ℕ} {wb : Bool} (hs : Tidy pq s) : Tidy pq (State.dmaFail s n code addr wb) := by
  unfold State.dmaFail
  repeat' (first | with_reducible assumption | (extract_lets +onlyGivenNames zz; first | (refine (fun (hz : Tidy pq zz) => ?_) ?_; (on_goal 1 => (try clear_value zz; rename' zz => zy, hz => hy)); (on_goal 2 => subst zz)) | (refine (fun (hz : ∀ t, Tidy pq t → Tidy pq (zz t)) => ?_) ?_; (on_goal 1 => (try clear_value zz; rename' zz => zy, hz => hf)); (on_goal 2 => (subst zz; intro _ _; beta_reduce))) | (refine (fun (hz : ∀ t, Tidy pq (zz t)) => ?_) ?_; (on_goal 1 => (try clear_value zz; rename' zz => zy, hz => hf)); (on_goal 2 => (subst zz; intro _; beta_reduce))) | (try clear_value zz; rename' zz => zy)) | with_reducible (first | apply tidy_ite | apply State.setF_tidy | apply State.dmaErr_tidy | apply State.set2_tidy | apply State.writeBack_tidy | apply State.chanEvent_tidy | apply State.toChan_tidy | apply State.setChan_tidy) | with_reducible (apply hf) | with_reducible (first | refine of1 ?_ (by assumption) | refine of2 ?_ (by assumption) | refine ofS ?_ (by assumption) | refine ofS1 ?_ (by assumption) | refine ofS2 ?_ (by assumption) | refine ofS3 ?_ (by assumption) | refine of3 ?_ (by assumption)) | dsimp only)

theorem State.fetchDesc_tidy {pq} {s : State} {n : ℕ} (hs : Tidy pq s) : Tidy pq (State.fetchDesc s n) := by
  unfold State.fetchDesc
  repeat' (first | with_reducible assumption | (extract_lets +onlyGivenNames zz; first | (refine (fun (hz : Tidy pq zz) => ?_) ?_; (on_goal 1 => (try clear_value zz; rename' zz => zy, hz => hy)); (on_goal 2 => subst zz)) | (try clear_value zz; rename' zz => zy)) | with_reducible (first | apply State.dmaFail_tidy | apply State.setChan_tidy | apply State.setF_tidy | apply State.toChan_tidy | apply State.memRead_tidy | apply tidy1_mk | apply tidy2_mk) | with_reducible (apply tidy_fst; first | apply State.memRead_tidy | apply tidy1_ite) | with_reducible (apply tidy_snd; first | apply tidy2_ite) | split | with_reducible (first | apply tidy_ite | apply tidy1_ite | apply tidy2_ite) | with_reducible (fail_if_no_progress apply tidy_mk) | with_reducible (first | refine of1 ?_ (by assumption) | refine of2 ?_ (by assumption) | refine ofS ?_ (by assumption) | refine ofS1 ?_ (by assumption) | refine ofS2 ?_ (by assumption) | refine ofS3 ?_ (by assumption) | refine of3 ?_ (by assumption)) | dsimp only)

theorem execDmaDescriptorFetch_tidy {pq} {s : State} (hs : Tidy pq s) : TidyO pq (execDmaDescriptorFetch s) := by
  unfold execDmaDescriptorFetch
  repeat' (first | with_reducible assumption | with_reducible (first | apply idle_tidy | apply State.fetchDesc_tidy | apply State.granted_tidy | apply tidyO_next | apply tidyS_none | apply tidyS_some | apply tidyS1_none | apply tidyS2_none) | split | with_reducible (first | apply tidy_ite | apply tidyO_ite) | with_reducible (fail_if_no_progress apply tidy_mk) | with_reducible (first | refine of1 ?_ (by assumption) | refine of2 ?_ (by assumption) | refine ofS ?_ (by assumption) | refine ofS1 ?_ (by assumption) | refine ofS2 ?_ (by assumption) | refine ofS3 ?_ (by assumption) | refine of3 ?_ (by assumption)) | dsimp only)

theorem State.beatRead_tidy {pq} {s : State} {req : Req} {a n : ℕ} (hs : Tidy pq s) : Tidy1 pq (State.beatRead s req a n) := by
  unfold State.beatRead
  repeat' (first | with_reducible assumption | (extract_lets +onlyGivenNames zz; first | (refine (fun (hz : Tidy pq zz) => ?_) ?_; (on_goal 1 => (try clear_value zz; rename' zz => zy, hz => hy)); (on_goal 2 => subst zz)) | (try clear_value zz; rename' zz => zy)) | with_reducible (first | apply State.busError_tidy | apply State.regRead_tidy | apply State.memRead_tidy | apply tidy1_mk | apply tidy2_mk) | with_reducible (apply tidy_fst; first | apply State.memRead_tidy | apply tidy1_ite) | with_reducible (apply tidy_snd; first | apply tidy2_ite) | split | with_reducible (first | apply tidy_ite | apply tidy1_ite | apply tidy2_ite) | with_reducible (fail_if_no_progress apply tidy_mk) | with_reducible (first | refine of1 ?_ (by assumption) | refine of2 ?_ (by assumption) | refine ofS ?_ (by assumption) | refine ofS1 ?_ (by assumption) | refine ofS2 ?_ (by assumption) | refine ofS3 ?_ (by assumption) | refine of3 ?_ (by assumption)) | dsimp only)

theorem State.beatWrite_tidy {pq} {s : State} {req : Req} {a : ℕ} {b : Bytes} (hs : Tidy pq s) : Tidy1 pq (State.beatWrite s req a b) := by
  unfold State.beatWrite
  repeat' (first | with_reducible assumption | (extract_lets +onlyGivenNames zz; first | (refine (fun (hz : Tidy pq zz) => ?_) ?_; (on_goal 1 => (try clear_value zz; rename' zz => zy, hz => hy)); (on_goal 2 => subst zz)) | (try clear_value zz; rename' zz => zy)) | with_reducible (first | apply State.busError_tidy | apply State.pageWrite_tidy | apply State.memWrite_tidy | apply tidy1_mk | apply tidy2_mk) | with_reducible (apply tidy_fst; first | apply State.memWrite_tidy | apply tidy1_ite) | with_reducible (apply tidy_snd; first | apply tidy2_ite) | split | with_reducible (first | apply tidy_ite | apply tidy1_ite | apply tidy2_ite) | with_reducible (fail_if_no_progress apply tidy_mk) | with_reducible (first | refine of1 ?_ (by assumption) | refine of2 ?_ (by assumption) | refine ofS ?_ (by assumption) | refine ofS1 ?_ (by assumption) | refine ofS2 ?_ (by assumption) | refine ofS3 ?_ (by assumption) | refine of3 ?_ (by assumption)) | dsimp only)

theorem State.moveBeat_tidy {pq} {s : State} {n : ℕ} (hs : Tidy pq s) : Tidy pq (State.moveBeat s n) := by
  unfold State.moveBeat
  repeat' (first | with_reducible assumption | (extract_lets +onlyGivenNames zz; first | (refine (fun (hz : Tidy pq zz) => ?_) ?_; (on_goal 1 => (try clear_value zz; rename' zz => zy, hz => hy)); (on_goal 2 => subst zz)) | (refine (fun (hz : ∀ t, Tidy pq t → Tidy pq (zz t)) => ?_) ?_; (on_goal 1 => (try clear_value zz; rename' zz => zy, hz => hf)); (on_goal 2 => (subst zz; intro _ _; beta_reduce))) | (refine (fun (hz : ∀ t, Tidy pq (zz t)) => ?_) ?_; (on_goal 1 => (try clear_value zz; rename' zz => zy, hz => hf)); (on_goal 2 => (subst zz; intro _; beta_reduce))) | (try clear_value zz; rename' zz => zy)) | with_reducible (first | apply State.beatRead_tidy | apply State.beatWrite_tidy | apply State.dmaFail_tidy | apply State.setF_tidy | apply State.setChan_tidy | apply tidy1_mk | apply tidy2_mk) | with_reducible (apply tidy_fst; first | apply State.beatRead_tidy | apply State.beatWrite_tidy | apply tidy1_ite) | with_reducible (apply tidy_snd; first | apply tidy2_ite) | split | with_reducible (first | apply tidy_ite | apply tidy1_ite | apply tidy2_ite) | with_reducible (fail_if_no_progress apply tidy_mk) | with_reducible (apply hf) | with_reducible (first | refine of1 ?_ (by assumption) | refine of2 ?_ (by assumption) | refine ofS ?_ (by assumption) | refine ofS1 ?_ (by assumption) | refine ofS2 ?_ (by assumption) | refine ofS3 ?_ (by assumption) | refine of3 ?_ (by assumption)) | dsimp only)

theorem execDmaBeat_tidy {pq} {s : State} (hs : Tidy pq s) : TidyO pq (execDmaBeat s) := by
  unfold execDmaBeat
  repeat' (first | with_reducible assumption | (extract_lets +onlyGivenNames zz; first | (refine (fun (hz : Tidy pq zz) => ?_) ?_; (on_goal 1 => (try clear_value zz; rename' zz => zy, hz => hy)); (on_goal 2 => subst zz)) | (refine (fun (hz : ∀ t, Tidy pq t → Tidy pq (zz t)) => ?_) ?_; (on_goal 1 => (try clear_value zz; rename' zz => zy, hz => hf)); (on_goal 2 => (subst zz; intro _ _; beta_reduce))) | (refine (fun (hz : ∀ t, Tidy pq (zz t)) => ?_) ?_; (on_goal 1 => (try clear_value zz; rename' zz => zy, hz => hf)); (on_goal 2 => (subst zz; intro _; beta_reduce))) | (try clear_value zz; rename' zz => zy)) | with_reducible (first | apply idle_tidy | apply State.moveBeat_tidy | apply State.granted_tidy | apply tidyO_next | apply tidyS_none | apply tidyS_some | apply tidyS1_none | apply tidyS2_none) | split | with_reducible (first | apply tidy_ite | apply tidyO_ite) | with_reducible (fail_if_no_progress apply tidy_mk) | with_reducible (apply hf) | with_reducible (first | refine of1 ?_ (by assumption) | refine of2 ?_ (by assumption) | refine ofS ?_ (by assumption) | refine ofS1 ?_ (by assumption) | refine ofS2 ?_ (by assumption) | refine ofS3 ?_ (by assumption) | refine of3 ?_ (by assumption)) | dsimp only)


/-! ## Kettle -/

theorem State.kettleReply_tidy {pq} {s : State} {addr : Bytes} {port op status : ℕ} {body : Bytes} (hs : Tidy pq s) : Tidy pq (State.kettleReply s addr port op status body) := by
  unfold State.kettleReply
  repeat' (first | with_reducible assumption | with_reducible (first | apply State.kettleSend_tidy))

theorem State.kettleNet_tidy {pq} {s : State} {b : Bytes} (hs : Tidy pq s) : Tidy pq (State.kettleNet s b) := by
  unfold State.kettleNet
  repeat' (first | with_reducible assumption | with_reducible intro _ | with_reducible (first | apply State.ethNow_tidy | apply tidyS_none | apply tidyS_some | apply tidyS1_none | apply tidyS2_none) | split | with_reducible (first | apply tidy_ite) | with_reducible (fail_if_no_progress apply tidy_mk) | with_reducible (first | refine of1 ?_ (by assumption) | refine of2 ?_ (by assumption) | refine ofS ?_ (by assumption) | refine ofS1 ?_ (by assumption) | refine ofS2 ?_ (by assumption) | refine ofS3 ?_ (by assumption) | refine of3 ?_ (by assumption)) | dsimp only)

theorem execCpuPortRx_tidy {pq} {port : Fin 4} {frame : Bytes} {s : State} (hs : Tidy pq s) : TidyO pq (execCpuPortRx port frame s) := by
  unfold execCpuPortRx
  repeat' (first | with_reducible assumption | (extract_lets +onlyGivenNames zz; first | (refine (fun (hz : Tidy pq zz) => ?_) ?_; (on_goal 1 => (try clear_value zz; rename' zz => zy, hz => hy)); (on_goal 2 => subst zz)) | (try clear_value zz; rename' zz => zy)) | with_reducible (first | apply idle_tidy | apply State.kettleReply_tidy | apply State.kettleNet_tidy | apply State.cpuIn_tidy | apply tidyO_next | apply tidyS_none | apply tidyS_some | apply tidyS1_none | apply tidyS2_none) | split | with_reducible (first | apply tidy_ite | apply tidyO_ite) | with_reducible (fail_if_no_progress apply tidy_mk) | with_reducible (first | refine of1 ?_ (by assumption) | refine of2 ?_ (by assumption) | refine ofS ?_ (by assumption) | refine ofS1 ?_ (by assumption) | refine ofS2 ?_ (by assumption) | refine ofS3 ?_ (by assumption) | refine of3 ?_ (by assumption)) | dsimp only)

theorem execKsvcStatus_tidy {pq} {addr : Bytes} {port : BitVec 16} {s : State} (hs : Tidy pq s) : TidyO pq (execKsvcStatus addr port s) := by
  unfold execKsvcStatus
  repeat' (first | with_reducible assumption | with_reducible (first | apply tidy_ite | apply tidyO_ite | apply State.kettleReply_tidy | apply idle_tidy | apply tidyO_next))

theorem execKsvcLogRead_tidy {pq} {addr : Bytes} {port : BitVec 16} {index : Word} {count : BitVec 8} {s : State} (hs : Tidy pq s) : TidyO pq (execKsvcLogRead addr port index count s) := by
  unfold execKsvcLogRead
  repeat' (first | with_reducible assumption | (extract_lets +onlyGivenNames zz; first | (refine (fun (hz : Tidy pq zz) => ?_) ?_; (on_goal 1 => (try clear_value zz; rename' zz => zy, hz => hy)); (on_goal 2 => subst zz)) | (try clear_value zz; rename' zz => zy)) | with_reducible (first | apply tidy_ite | apply tidyO_ite | apply idle_tidy | apply State.kettleReply_tidy | apply tidyO_next) | with_reducible (first | refine of1 ?_ (by assumption) | refine of2 ?_ (by assumption) | refine ofS ?_ (by assumption) | refine ofS1 ?_ (by assumption) | refine ofS2 ?_ (by assumption) | refine ofS3 ?_ (by assumption) | refine of3 ?_ (by assumption)) | dsimp only)

theorem State.pageWords_tidy {pq} {s : State} {p off : Nat} {aa : Nat} (hs : Tidy pq s) : Tidy1 pq (State.pageWords s p off aa) := by
  induction aa generalizing s off with
  | zero => exact tidy1_mk hs
  | succ n ih =>
    unfold State.pageWords
    extract_lets +onlyGivenNames t
    have ht : Tidy pq t := State.regRead_tidy hs
    refine tidy1_ite (tidy1_mk ht) ?_
    exact tidy1_mk (tidy_fst (ih (off := off + 4) ht))

theorem execKsvcPageRead_tidy {pq} {addr : Bytes} {port : BitVec 16} {page : BitVec 8} {off : BitVec 12} {count : BitVec 8} {s : State} (hs : Tidy pq s) : TidyO pq (execKsvcPageRead addr port page off count s) := by
  unfold execKsvcPageRead
  repeat' (first | with_reducible assumption | (extract_lets +onlyGivenNames zz; first | (refine (fun (hz : Tidy pq zz) => ?_) ?_; (on_goal 1 => (try clear_value zz; rename' zz => zy, hz => hy)); (on_goal 2 => subst zz)) | (try clear_value zz; rename' zz => zy)) | with_reducible (first | apply idle_tidy | apply State.kettleReply_tidy | apply State.pageWords_tidy | apply tidyO_next | apply tidy1_mk | apply tidy2_mk | apply tidyS_none | apply tidyS_some | apply tidyS1_none | apply tidyS2_none) | with_reducible (apply tidy_fst; first | apply State.pageWords_tidy | apply tidy1_ite) | with_reducible (apply tidy_snd; first | apply tidy2_ite) | split | with_reducible (first | apply tidy_ite | apply tidyO_ite | apply tidy1_ite | apply tidy2_ite) | with_reducible (fail_if_no_progress apply tidy_mk) | with_reducible (first | refine of1 ?_ (by assumption) | refine of2 ?_ (by assumption) | refine ofS ?_ (by assumption) | refine ofS1 ?_ (by assumption) | refine ofS2 ?_ (by assumption) | refine ofS3 ?_ (by assumption) | refine of3 ?_ (by assumption)) | dsimp only)

theorem State.wakeTo_tidy {pq} {s : State} {m : ℕ} (hs : Tidy pq s) : Tidy pq (State.wakeTo s m) := by
  unfold State.wakeTo
  repeat' (first | with_reducible assumption | (extract_lets +onlyGivenNames zz; first | (refine (fun (hz : Tidy pq zz) => ?_) ?_; (on_goal 1 => (try clear_value zz; rename' zz => zy, hz => hy)); (on_goal 2 => subst zz)) | (try clear_value zz; rename' zz => zy)) | with_reducible (first | apply tidy_ite | apply State.wake_tidy | apply State.toMode_tidy | apply State.stopTo_tidy) | with_reducible (first | refine of1 ?_ (by assumption) | refine of2 ?_ (by assumption) | refine ofS ?_ (by assumption) | refine ofS1 ?_ (by assumption) | refine ofS2 ?_ (by assumption) | refine ofS3 ?_ (by assumption) | refine of3 ?_ (by assumption)) | dsimp only)

theorem execKsvcWake_tidy {pq} {addr : Bytes} {port : BitVec 16} {target : BitVec 8} {counter : BitVec 64} {signature : Bytes} {s : State} (hs : Tidy pq s) : TidyO pq (execKsvcWake addr port target counter signature s) := by
  unfold execKsvcWake
  repeat' (first | with_reducible assumption | (extract_lets +onlyGivenNames zz; first | (refine (fun (hz : Tidy pq zz) => ?_) ?_; (on_goal 1 => (try clear_value zz; rename' zz => zy, hz => hy)); (on_goal 2 => subst zz)) | (try clear_value zz; rename' zz => zy)) | with_reducible (first | apply tidy_ite | apply tidyO_ite | apply idle_tidy | apply State.kettleReply_tidy | apply State.wakeTo_tidy | apply tidyO_next) | with_reducible (fail_if_no_progress apply tidy_mk) | with_reducible (first | refine of1 ?_ (by assumption) | refine of2 ?_ (by assumption) | refine ofS ?_ (by assumption) | refine ofS1 ?_ (by assumption) | refine ofS2 ?_ (by assumption) | refine ofS3 ?_ (by assumption) | refine of3 ?_ (by assumption)) | dsimp only)


/-! ## Mortar -/

theorem State.pkeDone_tidy {pq} {s : State} {b : Bytes} {status : ℕ} (hs : Tidy pq s) : Tidy pq (State.pkeDone s b status) := by
  unfold State.pkeDone
  repeat' (first | with_reducible assumption | (extract_lets +onlyGivenNames zz; first | (refine (fun (hz : Tidy pq zz) => ?_) ?_; (on_goal 1 => (try clear_value zz; rename' zz => zy, hz => hy)); (on_goal 2 => subst zz)) | (try clear_value zz; rename' zz => zy)) | with_reducible (first | apply tidy_ite | apply State.irq_tidy | apply State.err_tidy | apply State.enq_tidy) | with_reducible (first | refine of1 ?_ (by assumption) | refine of2 ?_ (by assumption) | refine ofS ?_ (by assumption) | refine ofS1 ?_ (by assumption) | refine ofS2 ?_ (by assumption) | refine ofS3 ?_ (by assumption) | refine of3 ?_ (by assumption)) | dsimp only)

theorem State.pke_tidy {pq} {s : State} {op : ℕ} {sub : Option Submission} {k : State → Bytes → PkeJob → State} (hs : Tidy pq s) (hk : ∀ t e1 e2, Tidy pq t → Tidy pq (k t e1 e2)) : Tidy pq (State.pke s op sub k) := by
  unfold State.pke
  repeat' (first | with_reducible assumption | (extract_lets +onlyGivenNames zz; first | (refine (fun (hz : Tidy pq zz) => ?_) ?_; (on_goal 1 => (try clear_value zz; rename' zz => zy, hz => hy)); (on_goal 2 => subst zz)) | (try clear_value zz; rename' zz => zy)) | with_reducible (first | apply State.submit_tidy | apply State.pkeDone_tidy | apply State.deq_tidy | apply tidy1_mk | apply tidy2_mk | apply tidyS_none | apply tidyS_some | apply tidyS1_none | apply tidyS2_none) | with_reducible (apply tidy_fst; first | apply tidy1_ite) | with_reducible (apply tidy_snd; first | apply tidy2_ite) | split | with_reducible (first | apply tidy_ite | apply tidy1_ite | apply tidy2_ite) | with_reducible (fail_if_no_progress apply tidy_mk) | with_reducible (first | apply hk) | with_reducible (first | refine of1 ?_ (by assumption) | refine of2 ?_ (by assumption) | refine ofS ?_ (by assumption) | refine ofS1 ?_ (by assumption) | refine ofS2 ?_ (by assumption) | refine ofS3 ?_ (by assumption) | refine of3 ?_ (by assumption)) | dsimp only)

theorem State.pkeKey_tidy {pq} {s : State} {b : Bytes} {j : PkeJob} {usage len : ℕ} {k : Bytes → State} (hs : Tidy pq s) (hk : ∀ e0, Tidy pq (k e0)) : Tidy pq (State.pkeKey s b j usage len k) := by
  unfold State.pkeKey
  repeat' (first | with_reducible assumption | (extract_lets +onlyGivenNames zz; first | (refine (fun (hz : Tidy pq zz) => ?_) ?_; (on_goal 1 => (try clear_value zz; rename' zz => zy, hz => hy)); (on_goal 2 => subst zz)) | (try clear_value zz; rename' zz => zy)) | with_reducible (first | apply tidy_ite | apply State.pkeDone_tidy) | with_reducible (first | apply hk) | with_reducible (first | refine of1 ?_ (by assumption) | refine of2 ?_ (by assumption) | refine ofS ?_ (by assumption) | refine ofS1 ?_ (by assumption) | refine ofS2 ?_ (by assumption) | refine ofS3 ?_ (by assumption) | refine of3 ?_ (by assumption)) | dsimp only)

theorem State.pkeSign_tidy {pq} {s : State} {b : Bytes} {j : PkeJob} {ph : Bool} (hs : Tidy pq s) : Tidy pq (State.pkeSign s b j ph) := by
  unfold State.pkeSign
  repeat' (first | with_reducible assumption | with_reducible intro _ | with_reducible (first | apply tidy_ite | apply State.pkeDone_tidy | apply State.pkeKey_tidy | apply State.count_tidy | apply State.write_tidy))

theorem State.pkeVerify_tidy {pq} {s : State} {b : Bytes} {j : PkeJob} {ph : Bool} (hs : Tidy pq s) : Tidy pq (State.pkeVerify s b j ph) := by
  unfold State.pkeVerify
  repeat' (first | with_reducible assumption | (extract_lets +onlyGivenNames zz; first | (refine (fun (hz : Tidy pq zz) => ?_) ?_; (on_goal 1 => (try clear_value zz; rename' zz => zy, hz => hy)); (on_goal 2 => subst zz)) | (try clear_value zz; rename' zz => zy)) | with_reducible (first | apply tidy_ite | apply State.pkeDone_tidy | apply State.count_tidy) | with_reducible (first | refine of1 ?_ (by assumption) | refine of2 ?_ (by assumption) | refine ofS ?_ (by assumption) | refine ofS1 ?_ (by assumption) | refine ofS2 ?_ (by assumption) | refine ofS3 ?_ (by assumption) | refine of3 ?_ (by assumption)) | dsimp only)

theorem execPkeSign_tidy {pq} {sub : Option Submission} {s : State} (hs : Tidy pq s) : TidyO pq (execPkeSign sub s) := by
  unfold execPkeSign
  repeat' (first | with_reducible assumption | with_reducible intro _ | with_reducible (first | apply State.pke_tidy | apply State.pkeSign_tidy | apply tidyO_next | apply idle_tidy))

theorem execPkeVerify_tidy {pq} {sub : Option Submission} {s : State} (hs : Tidy pq s) : TidyO pq (execPkeVerify sub s) := by
  unfold execPkeVerify
  repeat' (first | with_reducible assumption | with_reducible intro _ | with_reducible (first | apply State.pke_tidy | apply State.pkeVerify_tidy | apply tidyO_next | apply idle_tidy))

theorem execPkeSignPh_tidy {pq} {sub : Option Submission} {s : State} (hs : Tidy pq s) : TidyO pq (execPkeSignPh sub s) := by
  unfold execPkeSignPh
  repeat' (first | with_reducible assumption | with_reducible intro _ | with_reducible (first | apply State.pke_tidy | apply State.pkeSign_tidy | apply tidyO_next | apply idle_tidy))

theorem execPkeVerifyPh_tidy {pq} {sub : Option Submission} {s : State} (hs : Tidy pq s) : TidyO pq (execPkeVerifyPh sub s) := by
  unfold execPkeVerifyPh
  repeat' (first | with_reducible assumption | with_reducible intro _ | with_reducible (first | apply State.pke_tidy | apply State.pkeVerify_tidy | apply tidyO_next | apply idle_tidy))

theorem execPkeAgree_tidy {pq} {sub : Option Submission} {s : State} (hs : Tidy pq s) : TidyO pq (execPkeAgree sub s) := by
  unfold execPkeAgree
  repeat' (first | with_reducible assumption | with_reducible intro _ | (extract_lets +onlyGivenNames zz; first | (refine (fun (hz : Tidy pq zz) => ?_) ?_; (on_goal 1 => (try clear_value zz; rename' zz => zy, hz => hy)); (on_goal 2 => subst zz)) | (try clear_value zz; rename' zz => zy)) | with_reducible (first | apply tidy_ite | apply tidyO_ite | apply State.pke_tidy | apply State.pkeDone_tidy | apply State.pkeKey_tidy | apply State.loadSlot_tidy | apply State.count_tidy | apply tidyO_next | apply idle_tidy | apply tidy1_mk | apply tidy2_mk) | with_reducible (first | refine of1 ?_ (by assumption) | refine of2 ?_ (by assumption) | refine ofS ?_ (by assumption) | refine ofS1 ?_ (by assumption) | refine ofS2 ?_ (by assumption) | refine ofS3 ?_ (by assumption) | refine of3 ?_ (by assumption)) | dsimp only)

theorem execPkePublic_tidy {pq} {sub : Option Submission} {s : State} (hs : Tidy pq s) : TidyO pq (execPkePublic sub s) := by
  unfold execPkePublic
  repeat' (first | with_reducible assumption | with_reducible intro _ | (extract_lets +onlyGivenNames zz; first | (refine (fun (hz : Tidy pq zz) => ?_) ?_; (on_goal 1 => (try clear_value zz; rename' zz => zy, hz => hy)); (on_goal 2 => subst zz)) | (try clear_value zz; rename' zz => zy)) | with_reducible (first | apply tidy_ite | apply tidyO_ite | apply State.pke_tidy | apply State.pkeDone_tidy | apply State.write_tidy | apply tidyO_next | apply idle_tidy) | with_reducible (first | refine of1 ?_ (by assumption) | refine of2 ?_ (by assumption) | refine ofS ?_ (by assumption) | refine ofS1 ?_ (by assumption) | refine ofS2 ?_ (by assumption) | refine ofS3 ?_ (by assumption) | refine of3 ?_ (by assumption)) | dsimp only)

theorem execPkeKeygen_tidy {pq} {sub : Option Submission} {s : State} (hs : Tidy pq s) : TidyO pq (execPkeKeygen sub s) := by
  unfold execPkeKeygen
  repeat' (first | with_reducible assumption | with_reducible intro _ | (extract_lets +onlyGivenNames zz; first | (refine (fun (hz : Tidy pq zz) => ?_) ?_; (on_goal 1 => (try clear_value zz; rename' zz => zy, hz => hy)); (on_goal 2 => subst zz)) | (try clear_value zz; rename' zz => zy)) | with_reducible (first | apply tidy_ite | apply tidyO_ite | apply tidy1_ite | apply tidy2_ite | apply State.pke_tidy | apply State.pkeDone_tidy | apply State.loadSlot_tidy | apply State.drawBytes_tidy | apply tidyO_next | apply idle_tidy | apply tidy1_mk | apply tidy2_mk) | with_reducible (apply tidy_fst; first | apply tidy1_ite) | with_reducible (apply tidy_snd; first | apply State.drawBytes_tidy | apply tidy2_ite) | with_reducible (first | refine of1 ?_ (by assumption) | refine of2 ?_ (by assumption) | refine ofS ?_ (by assumption) | refine ofS1 ?_ (by assumption) | refine ofS2 ?_ (by assumption) | refine ofS3 ?_ (by assumption) | refine of3 ?_ (by assumption)) | dsimp only)


/-! ## PtpCmd -/

theorem execPtpEventRx_tidy {pq} {port : Fin 4} {msg : Bytes} {s : State} (hs : Tidy pq s) : TidyO pq (execPtpEventRx port msg s) := by
  unfold execPtpEventRx
  repeat' (first | with_reducible assumption | (extract_lets +onlyGivenNames zz; first | (refine (fun (hz : Tidy pq zz) => ?_) ?_; (on_goal 1 => (try clear_value zz; rename' zz => zy, hz => hy)); (on_goal 2 => subst zz)) | (try clear_value zz; rename' zz => zy)) | with_reducible (first | apply tidy_ite | apply tidyO_ite | apply idle_tidy | apply State.ptpToCpu_tidy | apply tidyO_next) | with_reducible (fail_if_no_progress apply tidy_mk) | with_reducible (first | refine of1 ?_ (by assumption) | refine of2 ?_ (by assumption) | refine ofS ?_ (by assumption) | refine ofS1 ?_ (by assumption) | refine ofS2 ?_ (by assumption) | refine ofS3 ?_ (by assumption) | refine of3 ?_ (by assumption)) | dsimp only)

theorem execPtpAnnounceLeap_tidy {pq} {leap61 leap59 : Bool} {s : State} (hs : Tidy pq s) : TidyO pq (execPtpAnnounceLeap leap61 leap59 s) := by
  unfold execPtpAnnounceLeap
  repeat' (first | with_reducible assumption | with_reducible (first | apply idle_tidy | apply State.setF_tidy | apply tidyO_next) | split | with_reducible (first | apply tidy_ite | apply tidyO_ite) | with_reducible (first | refine of1 ?_ (by assumption) | refine of2 ?_ (by assumption) | refine ofS ?_ (by assumption) | refine ofS1 ?_ (by assumption) | refine ofS2 ?_ (by assumption) | refine ofS3 ?_ (by assumption) | refine of3 ?_ (by assumption)) | dsimp only)

theorem State.tcCount_tidy {pq} {s : State} {residence : ℕ} (hs : Tidy pq s) : Tidy pq (State.tcCount s residence) := by
  unfold State.tcCount
  repeat' (first | with_reducible assumption | with_reducible (first | apply State.peak_tidy | apply State.count_tidy))

theorem execPtpTcForward_tidy {pq} {inPort outPort : Fin 3} {frame : Bytes} {ago : BitVec 48} {s : State} (hs : Tidy pq s) : TidyO pq (execPtpTcForward inPort outPort frame ago s) := by
  unfold execPtpTcForward
  repeat' (first | with_reducible assumption | (extract_lets +onlyGivenNames zz; first | (refine (fun (hz : Tidy pq zz) => ?_) ?_; (on_goal 1 => (try clear_value zz; rename' zz => zy, hz => hy)); (on_goal 2 => subst zz)) | (try clear_value zz; rename' zz => zy)) | with_reducible (first | apply idle_tidy | apply State.ethNow_tidy | apply State.irq_tidy | apply State.count_tidy | apply State.tcCount_tidy | apply State.ptpToCpu_tidy | apply tidyO_next | apply tidyS_none | apply tidyS_some | apply tidyS1_none | apply tidyS2_none) | split | with_reducible (first | apply tidy_ite | apply tidyO_ite) | with_reducible (fail_if_no_progress apply tidy_mk) | with_reducible (first | refine of1 ?_ (by assumption) | refine of2 ?_ (by assumption) | refine ofS ?_ (by assumption) | refine ofS1 ?_ (by assumption) | refine ofS2 ?_ (by assumption) | refine ofS3 ?_ (by assumption) | refine of3 ?_ (by assumption)) | dsimp only)

theorem execPtpTxStamp_tidy {pq} {port : Fin 4} {msg : Bytes} {stamp : Bool} {s : State} (hs : Tidy pq s) : TidyO pq (execPtpTxStamp port msg stamp s) := by
  unfold execPtpTxStamp
  repeat' (first | with_reducible assumption | (extract_lets +onlyGivenNames zz; first | (refine (fun (hz : Tidy pq zz) => ?_) ?_; (on_goal 1 => (try clear_value zz; rename' zz => zy, hz => hy)); (on_goal 2 => subst zz)) | (try clear_value zz; rename' zz => zy)) | with_reducible (first | apply tidy_ite | apply tidyO_ite | apply State.emit_tidy | apply State.irq_tidy | apply State.enq_tidy | apply State.count_tidy | apply tidyO_next | apply idle_tidy) | with_reducible (first | refine of1 ?_ (by assumption) | refine of2 ?_ (by assumption) | refine ofS ?_ (by assumption) | refine ofS1 ?_ (by assumption) | refine ofS2 ?_ (by assumption) | refine ofS3 ?_ (by assumption) | refine of3 ?_ (by assumption)) | dsimp only)


/-! ## Recovery -/

theorem State.ptrReset_tidy {pq} {s : State} {q lost : ℕ} (hs : Tidy pq s) : Tidy pq (State.ptrReset s q lost) := by
  unfold State.ptrReset
  repeat' (first | with_reducible assumption | with_reducible (first | apply State.err_tidy | apply State.count_tidy | apply State.putQueue_tidy) | with_reducible (fail_if_no_progress apply tidy_mk))

theorem State.refeed_tidy {pq} {s : State} {n : ℕ} (hs : Tidy pq s) : Tidy pq (State.refeed s n) := by
  unfold State.refeed
  repeat' (first | with_reducible assumption | with_reducible (first | apply State.feed_tidy | apply tidyS_none | apply tidyS_some | apply tidyS1_none | apply tidyS2_none) | split | with_reducible (first | apply tidy_ite) | with_reducible (fail_if_no_progress apply tidy_mk) | with_reducible (first | refine of1 ?_ (by assumption) | refine of2 ?_ (by assumption) | refine ofS ?_ (by assumption) | refine ofS1 ?_ (by assumption) | refine ofS2 ?_ (by assumption) | refine ofS3 ?_ (by assumption) | refine of3 ?_ (by assumption)) | dsimp only)

theorem State.refeedAll_tidy {pq} {s : State} (hs : Tidy pq s) : Tidy pq (State.refeedAll s) := by
  unfold State.refeedAll
  repeat' (first | with_reducible assumption | with_reducible intro _ | (extract_lets +onlyGivenNames zz; first | (refine (fun (hz : Tidy pq zz) => ?_) ?_; (on_goal 1 => (try clear_value zz; rename' zz => zy, hz => hy)); (on_goal 2 => subst zz)) | (try clear_value zz; rename' zz => zy)) | with_reducible (first | apply foldl_tidy | apply foldl_tidy1 | apply State.refeed_tidy | apply map_tidyS | apply map_tidyS_of2 | apply map_tidyS_any) | with_reducible (apply tidy_fst; first | apply foldl_tidy1) | with_reducible (apply tidy_snd; first | apply foldl_tidy2) | with_reducible (fail_if_no_progress apply tidy_mk) | with_reducible (first | refine of1 ?_ (by assumption) | refine of2 ?_ (by assumption) | refine ofS ?_ (by assumption) | refine ofS1 ?_ (by assumption) | refine ofS2 ?_ (by assumption) | refine ofS3 ?_ (by assumption) | refine of3 ?_ (by assumption)) | dsimp only)

theorem State.askLost_tidy {pq} {s : State} {l : List Item} (hs : Tidy pq s) : Tidy pq (State.askLost s l) := by
  unfold State.askLost
  repeat' (first | with_reducible assumption | with_reducible intro _ | with_reducible (first | apply foldl_tidy | apply foldl_tidy1 | apply State.loseRecord_tidy) | with_reducible (apply tidy_fst; first | apply foldl_tidy1) | with_reducible (apply tidy_snd; first | apply foldl_tidy2) | split | with_reducible (fail_if_no_progress apply tidy_mk) | with_reducible (first | refine of1 ?_ (by assumption) | refine of2 ?_ (by assumption) | refine ofS ?_ (by assumption) | refine ofS1 ?_ (by assumption) | refine ofS2 ?_ (by assumption) | refine ofS3 ?_ (by assumption) | refine of3 ?_ (by assumption)) | dsimp only)

theorem State.recoverQueue_tidy {pq} {s : State} {q lost : ℕ} (hs : Tidy pq s) : Tidy pq (State.recoverQueue s q lost) := by
  unfold State.recoverQueue
  repeat' (first | with_reducible assumption | with_reducible (first | apply tidy_ite | apply State.event_tidy | apply State.requeueCommits_tidy | apply State.ownRecord_tidy | apply State.refeedAll_tidy))

theorem execQprivPtrFault_tidy {pq} {queue : QueueId} {occA occB : ℕ} {s : State} (hs : Tidy pq s) : TidyO pq (execQprivPtrFault queue occA occB s) := by
  unfold execQprivPtrFault
  repeat' (first | with_reducible assumption | (extract_lets +onlyGivenNames zz; first | (refine (fun (hz : Tidy pq zz) => ?_) ?_; (on_goal 1 => (try clear_value zz; rename' zz => zy, hz => hy)); (on_goal 2 => subst zz)) | (refine (fun (hz : ∀ t, Tidy pq t → Tidy pq (zz t)) => ?_) ?_; (on_goal 1 => (try clear_value zz; rename' zz => zy, hz => hf)); (on_goal 2 => (subst zz; intro _ _; beta_reduce))) | (refine (fun (hz : ∀ t, Tidy pq (zz t)) => ?_) ?_; (on_goal 1 => (try clear_value zz; rename' zz => zy, hz => hf)); (on_goal 2 => (subst zz; intro _; beta_reduce))) | (try clear_value zz; rename' zz => zy)) | with_reducible (first | apply tidy_ite | apply tidyO_ite | apply idle_tidy | apply State.recoverQueue_tidy | apply State.queueFault_tidy | apply State.ptrReset_tidy | apply State.askLost_tidy | apply tidyO_next) | with_reducible (apply hf) | with_reducible (first | refine of1 ?_ (by assumption) | refine of2 ?_ (by assumption) | refine ofS ?_ (by assumption) | refine ofS1 ?_ (by assumption) | refine ofS2 ?_ (by assumption) | refine ofS3 ?_ (by assumption) | refine of3 ?_ (by assumption)) | dsimp only)


/-! ## Idle -/

theorem State.idleTick_tidy {pq} {s : State} (hs : Tidy pq s) : Tidy pq (State.idleTick s) := by
  unfold State.idleTick
  repeat' (first | with_reducible assumption | with_reducible (first | apply State.stopEnd_tidy | apply State.msixTick_tidy | apply State.egressTick_tidy | apply State.snapTick_tidy | apply State.twinTick_tidy | apply State.plcTick_tidy | apply State.tick_tidy))

end Sys2Proof.Machine
end

