-- ==== Sys2Proof/Tests/Slice0.lean ====
section
/-! SUPPORT. The model's own tests: an ill-formed command for each check of Instr.wf, published examples of the functions that the spec takes from
standards, and, for each obligation that has hypotheses, a witness that meets those of each of its clauses. -/

open Sys2Proof Sys2Proof.Machine

namespace Sys2Proof.Tests

set_option linter.unusedVariables false
set_option Elab.async false

/-- The block after start-up, in an operating mode, with every clock domain running. -/
def upIn (mode : Nat) : State :=
  ((State.reset.setF Reg.CLK_STAT_DOM_RUN 0x1FF).setF Reg.PWR_STAT_MODE mode).setF Reg.PWR_STAT_BOOT_STEP 0

/-- The block after start-up, in FULL. -/
def up : State := upIn 4

/-- The block with debug access open. -/
def upDbg : State := up.setF Reg.LCS_STAT_DBG_OPEN 1

/-- The block with CORE stopped. -/
def rest : State := up.setF Reg.CLK_STAT_DOM_RUN 0x1F7

/-- A transaction that is opened and asks for a time that has passed. -/
def late : State := { (up.txnAlloc .trusted).1 with tb0 := 65536000000000 }

/-- A frame at the front of a queue. -/
def framed (q : Nat) : State := up.enq q { body := .frame {} }

/-- A lane in service. -/
def inService (n : Nat) : State := up.setLaneState n .service

/-- A frame in flight with order number 1. -/
def flying : State := up.setFlight 1 (some { body := .frame {} })

/-- A PLC port in service, in the role of the coordinator. -/
def fielding : State := up.setF (Reg.PLC_CTRL_ENABLE 0) 1

/-- A radio port in service, in the role of the coordinator. -/
def radioing : State := up.setF (Reg.RAD_CTRL_ENABLE 0) 1

/-- Ethernet ports 0 to 2 with a link. -/
def linked : State :=
  (List.range 3).foldl (fun (s : State) n => (s.setF (Reg.ETHP_CTRL_ENABLE n) 1).setF (Reg.ETHP_STAT_LINK n) 1) (up.setF Reg.ETH_CTRL_ENABLE 1)

/-- A twin with a pair key, in a role. -/
def twinIn (role : Nat) : State :=
  let s : State := { up with twin := { up.twin with pairedKey := true } }
  ((s.setSlotK 5 { share := List.replicate 32 1, mask := List.replicate 32 0, dest := 0x100 }).setF Reg.TWIN_CTRL_ENABLE 1).setF
    Reg.TWIN_STAT_ROLE role

/-- An ACTIVE twin that is paired. -/
def active : State := (twinIn 4).setF Reg.TWIN_STAT_PAIRED 1

/-- A STANDBY twin that has caught up. -/
def standby : State := (twinIn 3).setF Reg.TWIN_STAT_PAIRED 1

/-- A die that runs an operation. -/
def busyDie (b : OpBody) : State :=
  { up with ftl := { up.ftl with ops := [{ id := 0, die := 0, target := 0, cls := 0, body := b, running := true }] } }


/-- The state after `l` is written into fields of registers. -/
def sets (s : State) (l : List (Field × Nat)) : State := l.foldl (fun t e => t.setF e.1 e.2) s

/-- The bytes an answer of a lane's load carries. -/
def okOf : Load → Bytes
  | .ok b => b
  | _ => []

/-- The bytes of an item. -/
def p_bytes (i : Item) : Bytes :=
  match i.body with
  | .bytes b => b
  | _ => []

/-- The order number of an item. -/
def p_order (i : Item) : Nat :=
  match i.body with
  | .order k => k
  | _ => 0

/-- An item of `n` bytes that begins with an operation, with fields (offset, width, value). -/
def job (n op : Nat) (l : List (Nat × Nat × Nat)) : Bytes :=
  l.foldl (fun b e => splice b e.1 (leBytes e.2.1 e.2.2)) (leBytes n op)

/-- A state with an item of bytes at the end of a queue. -/
def asked (s : State) (q : Nat) (b : Bytes) : State := s.enq q { body := .bytes b }

/-- A lane in service that runs a frame, with an instruction word at the start of its program. -/
def laneAt (w : Nat) : State :=
  let fl : Flight := { body := .frame {}, stage := .running, plain := [5, 0x81, 7] ++ List.replicate 13 0, arrived := 16 }
  let s : State := ((inService 0).writeNat (aperture 0) 4 w).setFlight 1 (some fl)
  s.setLane 0 { running := some 1, regs := [(1, 0xA000), (2, 0x18000), (4, 0xA001)] }

/-- The block with room for directory and balance commands. -/
def serving : State := sets up [(Reg.DIR_CTRL_ENABLE, 1), (Reg.FUNL_CTRL_ENABLE, 1), (Reg.CIPH_CTRL_ENABLE, 1), (Reg.PKE_CTRL_ENABLE, 1),
  (Reg.LADL_CTRL_ENABLE, 1), (Reg.BAL_CTRL_ENABLE, 1), (Reg.FTL_STAT_MOUNTED, 1), (Reg.TRNG_STAT_STATE, 2)]

/-- The frame control header whose first 88 bits are `v`. -/
def fchOf (v : Nat) : Bytes := leBytes 12 (v + crc8 v 88 * 2 ^ 88)

/-- A data frame of a radio port without its FCS: broadcast from node 1. -/
def radB : Bytes := leBytes 2 (1 + 64 + 2 * 1024 + 2 * 4096 + 2 * 16384) ++ [0] ++ leBytes 2 0 ++ leBytes 2 0xFFFF ++ leBytes 2 1

/-- A key of `n` bytes that may be used by every unit in every way. -/
def anyKey (n : Nat) : KeySlot :=
  { share := List.replicate n 1, mask := List.replicate n 0, dest := 0x1FF, usage := 0x7F, export_ := true }

/-- The block with keys of each length in its slots, a root, and room for the jobs of CIPH, PKE and TRIVET. -/
def keyed : State :=
  let s : State := { serving with sec := { tId := [1], tSeal := [1] } }
  sets (((((((s.setSlotK 0 (anyKey 16)).setSlotK 1 (anyKey 32)).setSlotK 2 (anyKey 32)).setSlotK 4 (anyKey 57)).setSlotK 8 (anyKey 32)).setSlotK 9
    (anyKey 57)).setSlotK 10 (anyKey 56)) [(Reg.CIPH_JOB_CFG_UNITS, 1), (Reg.DIR_ROLE_LIMIT_METERS, 1)]

/-- The block with KETTLE's port running. -/
def kettling : State := sets up [(Reg.ETH_CTRL_ENABLE, 1), (Reg.ETHP_CTRL_ENABLE 3, 1), (Reg.ETHP_STAT_LINK 3, 1)]

/-- A twin that catches up. -/
def syncing : State := { twinIn 2 with twin := { (twinIn 2).twin with sync := some 1 } }

/-- What start-up finds in a chip that is new. -/
def blank : BootInput :=
  { puf := none, sram := List.replicate 8192 0, trng := true, dies := [], ckptOk := true, nor := none, medium := none, images := [],
    fuses := { vendorDigest := [], vendorDebug := [], ownerKey := [], ownerDebug := [], releaseKey := [], pcieIds := none, ident := 0, date := 0 },
    settings := { role := .field, masks := [], cert := false, wakeKey := [] } }

/-- A device whose dies have 4 blocks of 2 pages of 1 KiB. -/
def device : DieParam :=
  { chan := 0, ce := 0, lun := 0, pageKib := 1, spare := 64, ppbLog := 1, planes := 1, blocks := 4, modern := true, slc := true, crcOk := true,
    tProg := 1, tBers := 1, tR := 1, tRst := 1, serial := [], feature := none, factoryBad := [] }

/-- A mounted medium of one die: two data blocks, one worn, and two free blocks. -/
def stored : State :=
  let s : State := { keyed with tb1 := 10 ^ 16, ftl := { found := [device], blks := [(0, { use := .data }), (1, { use := .data, erases := 99999 })] } }
  sets s [(Reg.NAND_BLOCKS_PER_DIE_BLOCKS, 4), (Reg.NAND_GEOM_PAGE_KIB, 1), (Reg.NAND_GEOM_LOG2_PPB, 1), (Reg.FTL_KEY_SLOT_SLOT, 1), (Reg.FTL_WL_DELTA_COUNT, 1)]

/-- The state that an answer gives. -/
def stateOf : Host.Outcome State Fault Refusal → State
  | .next t => t
  | _ => State.reset

/-- Does a command answer a next state? -/
def goesOn : Host.Outcome State Fault Refusal → Bool
  | .next _ => true
  | _ => false

theorem next_of {o : Host.Outcome State Fault Refusal} (h : goesOn o = true) : o = .next (stateOf o) := by
  cases o with
  | next t => rfl
  | fault r => cases h
  | refused r => cases h

/-! ## Ill-formed commands -/
/-- What software submits, with an item of `n` bytes. -/
def sub (n : Nat) : Option Submission := some { req := .app, item := List.replicate n 0, poison := 0 }

theorem test_wf_sizes : [Instr.registerWrite .app 0 .b1 0x100, .registerWrite .app 0 .b4 0x100000000, .registerWrite .trusted 0 .b8 0,
    .rcRead .kettle 0x14 0 .b8].all (fun i => !i.wf) = true := by decide +kernel
theorem test_wf_apertureWrite_long : (Instr.apertureWrite .app 0 0 (List.replicate 9 0)).wf = false := by decide +kernel
theorem test_wf_apertureWrite_end : (Instr.apertureWrite .app 0 0x1FFFF [0, 0]).wf = false := by decide +kernel
theorem test_wf_items :
    [Instr.dirInsert (sub 63), .dirDelete (sub 65), .dirRecWrite (sub 0), .dirRouteSet (sub 63), .dirRouteDel (sub 63), .dirTokenAdd (sub 63),
      .dirFloorRaise (sub 63), .dirLookupCmd (sub 63), .dirLock (sub 63), .dirUnlock (sub 63), .balNodeSet (sub 63), .balNodeDel (sub 65),
      .balMeterAssign (sub 63), .balAuditReset (sub 63)].all (fun i => !i.wf) = true := by decide +kernel
theorem test_wf_port_items : [Instr.plcDownlinkItem 0 (sub 15), .plcDownlinkItem 0 (sub 2064), .radDownlinkItem 0 (sub 15),
    .ethSwTx (sub 13), .ethSwTx (sub 9039)].all (fun i => !i.wf) = true := by decide +kernel
theorem test_wf_key_items :
    [Instr.trivetAttest (sub 255), .trivetSeal (sub 257), .trivetUnseal (sub 255), .trivetKekImport (sub 255), .trivetKekStore (sub 255),
      .trivetKekRemove (sub 255), .trivetKsvcSet (sub 255), .ciphGcmEnc (sub 63), .ciphGcmDec (sub 65), .ciphCtrEnc (sub 63),
      .ciphCtrDec (sub 63), .ciphGmacGen (sub 63), .ciphGmacVer (sub 63), .ciphCmacGen (sub 63), .ciphCmacVer (sub 63), .ciphFf1Enc (sub 63),
      .ciphFf1Dec (sub 63), .ciphMeterWrap (sub 63), .ciphMeterEnc (sub 63), .pkeSign (sub 63), .pkeVerify (sub 63), .pkeSignPh (sub 63),
      .pkeVerifyPh (sub 63), .pkeAgree (sub 63), .pkePublic (sub 63), .pkeKeygen (sub 65)].all (fun i => !i.wf) = true := by decide +kernel
theorem test_wf_store_items :
    [Instr.ftlRead (sub 31), .ftlWrite (sub 33), .ftlTrimArch (sub 31), .ftlSecureDiscard (sub 31), .ftlResize (sub 31), .ftlFormat (sub 31),
      .ftlDieEvacuate (sub 31), .ftlDieAdd (sub 31) none, .ftlDieAdd none (some { device with planes := 0 }), .updPiece (sub 527)].all
      (fun i => !i.wf) = true := by decide +kernel
theorem test_wf_frames :
    [Instr.ptpEventRx 0 [0], .ptpTcForward 0 0 [0] 0, .ptpTxStamp 0 [0] true, .plcFrameRx 0 [] [] ⟨0, [], []⟩,
      .plcFrameRx 0 (fchOf 0) [] ⟨0, [{ windows := List.replicate 36 0, clip := false, errs := [] }], []⟩, .plcJoinReq 0 [0] 0 false ⟨0, [], []⟩,
      .plcTmReq 0 [0] ⟨0, [], []⟩, .plcLeave 0 [0] 0 ⟨0, [], []⟩, .radFrameRx 0 (List.replicate 2048 0) 0 false false, .switchForward 0 [0] false,
      .cpuPortRx 0 [0], .prpRx true [0] false].all (fun i => !i.wf) = true := by
  decide +kernel
theorem test_wf_hosts : [Instr.ksvcStatus [0] 0, .ksvcLogRead [0] 0 0 1, .ksvcPageRead [0] 0 0 0 1, .ksvcWake [0] 0 0 0 []].all (fun i => !i.wf) = true := by
  decide +kernel
theorem test_wf_twin : [Instr.twinCommandRx 0 (.table [0]), .twinCommandRx 0 (.balance [0]), .twinHandoverRx 0 [0],
    .twinSyncDataRx (.record 0 [0]) true, .twinSyncDataRx (.mem 0 []) true, .twinSyncDataRx (.key 0 [] 0 0 0) true,
    .twinKeyOfferRx 0 [0] (List.replicate 32 0) 0 0 true 0 true, .twinKeyOfferRx 0 (List.replicate 56 0) [0] 0 0 true 0 true,
    .partnerMARx [0]].all (fun i => !i.wf) = true := by decide +kernel
theorem test_wf_startup : [Instr.startup { blank with puf := some [0] }, .startup { blank with sram := [0] }, .startup { blank with dies := List.replicate 17 device },
    .startup { blank with dies := [{ device with blocks := 0 }] }, .startup { blank with medium := some ([0], 0) }].all (fun i => !i.wf) = true := by
  decide +kernel
theorem test_wf_good : [Instr.registerWrite .app 0 .b1 0xFF, .apertureWrite .app 0 0x1FFFC [0, 0, 0, 0], .dirInsert (sub 64), .ftlRead (sub 32),
    .startup blank, .ftlDieAdd (sub 32) (some device)].all Instr.wf = true := by decide +kernel

/-! ## Published examples

The spec names these functions by their standards (log entry 6); each example is the one that the standard publishes. -/
/-- FIPS 197, appendix C.1. -/
theorem test_aes128 : aesEnc (beBytes 16 0x000102030405060708090A0B0C0D0E0F) (beBytes 16 0x00112233445566778899AABBCCDDEEFF) =
    beBytes 16 0x69C4E0D86A7B0430D8CDB78070B4C55A := by decide +kernel
/-- FIPS 197, appendix C.3. -/
theorem test_aes256 : aesEnc (beBytes 32 0x000102030405060708090A0B0C0D0E0F101112131415161718191A1B1C1D1E1F)
    (beBytes 16 0x00112233445566778899AABBCCDDEEFF) = beBytes 16 0x8EA2B7CA516745BFEAFC49904B496089 := by decide +kernel
/-- RFC 4493, example 1. -/
theorem test_cmac : cmac (beBytes 16 0x2B7E151628AED2A6ABF7158809CF4F3C) [] = beBytes 16 0xBB1D6929E95937287FA37D129B756746 := by decide +kernel
/-- The check value of CRC-32C. -/
theorem test_crc32c : crc32c (ascii "123456789") = 0xE3069283 := by decide +kernel
/-- The SipHash paper, appendix A. -/
theorem test_siphash : sipHash (beBytes 16 0x000102030405060708090A0B0C0D0E0F) (beBytes 15 0x000102030405060708090A0B0C0D0E) =
    0xA129CA6149BE45E5 := by decide +kernel
/-- NIST's example of SHAKE256 for the empty message. -/
theorem test_shake256 : shake256 [] 16 = beBytes 16 0x46B9DD2B0BA88D13233B3FEB743EEB24 := by decide +kernel
/-- RFC 8032, section 7.4, the first example. -/
theorem test_ed448 : edPublic (beBytes 57
      0x6C82A562CB808D10D632BE89C8513EBF6C929F34DDFA8C9F63C9960EF6E348A3528C8A3FCC2F044E39A3FC5B94492F8F032E7549A20098F95B) =
    beBytes 57 0x5FD7449B59B461FD2CE787EC616AD46A1DA1342485A70E1F8A0EA75D80E96778EDF124769B46C7061BD6783DF1E50F6CD1FA1ABEAFE8256180 := by
  decide +kernel

/-! ## States of the witnesses -/

/-- A ZCF reading frame without payload. -/
def zcf : Bytes := [1, 1] ++ List.replicate 32 0

/-- The block with all that Funnel needs to give order numbers: `serving`, and a lane in service. -/
def ordering : State := serving.setLaneState 0 .service

/-- The conditions on which the table engine takes a command of DIR, as one that can be evaluated. -/
theorem dirTakes_of {u : State} {op : Nat} {b : Bytes} {t : State}
    (h : u.flag Reg.DIR_CTRL_ENABLE = true ∧ u.domOn .mem = true ∧ u.dirCredit = true ∧ (op < 0x30 → u.hasCredit 0x80 = true) ∧ u.dir.search = none ∧
      u.dir.parked.length < 16 ∧ (u.dir.released = [] → u.lookupTurn = false) ∧ u.dirFront op = some (b, false, t) ∧ u.orders = true ∧
      dirWellFormed (splice b 2 [0]) = true ∧ t.mustPark (.command b false) = false) : DirTakes u op b t :=
  let ⟨h1, h2, h3, h4, h5, h6, h7, h8, h9, h10, h11⟩ := h
  ⟨h1, h2, h3, h4, h5, h6, h7, h8, h9, h10, h11⟩

/-- It can be read. -/
theorem zcf_parses : (parseFrame zcf).isSome = true := by decide +kernel

/-- A frame of the length of a PTP message over Ethernet that begins with the given bytes. -/
def tcFrame (b : Bytes) : Bytes := List.replicate 12 0 ++ [0x88, 0xF7] ++ b ++ List.replicate (44 - b.length) 0

/-- A lane map in which every group is on lane 1. -/
def onLane1 : List (Nat × MapEntry) := (List.range 65536).map (fun g => (g, { lane := 1 }))

theorem sget_same {α : Type} (d e : α) (l : List Nat) {k : Nat} (h : k ∈ l) : sget d (l.map (fun g => (g, e))) k = e := by
  induction l with
  | nil => cases h
  | cons g r ih =>
    by_cases hg : g = k
    · simp [sget, hg]
    · simpa [sget, hg] using ih (by simpa [Ne.symm hg] using h)

/-- A state with every group on lane 1. -/
def crowded (s : State) : State := { s with laneMap := onLane1 }

/-- Then no other lane has a group. -/
theorem crowded_free (s : State) {n : Fin 32} (hn : n.val ≠ 1) : (crowded s).hasGroup n.val = false := by
  have h : (crowded s).laneMap = onLane1 := by simp only [crowded]
  simp only [State.hasGroup, List.any_eq_false]
  intro g hg
  rw [State.mapEntry, h, onLane1, sget_same _ _ _ hg]
  simpa [MapEntry.names] using Ne.symm hn

/-- A data frame of a radio port without its FCS: node 1 sends a meter frame to the coordinator and asks for its acknowledgement. -/
def radD : Bytes := leBytes 2 (1 + 32 + 64 + 2 * 1024 + 2 * 4096 + 2 * 16384) ++ [0] ++ leBytes 2 0 ++ leBytes 2 0 ++ leBytes 2 1 ++ [1] ++ zcf

/-- The radio port with node 1, which has joined, and no link security. -/
def radNode : State := (sets radioing [(Reg.RAD_SEC_CFG_LEVEL 0, 0), (Reg.RAD_PAN_PANID 0, 0)]).putNode 4 1 (some { id := 7, joined := true })

theorem pair_eq {α β : Type} (p : α × β) : p = (p.1, p.2) := rfl

/-- A device that meets the conditions of the medium: 1,000 blocks of 64 pages of 4 KiB. -/
def goodDevice : DieParam := { device with pageKib := 4, spare := 536, ppbLog := 6, blocks := 1000 }

/-- A mounted medium of one such die, with a header that gives its volumes no block. -/
def medium : State := { sets serving [(Reg.NAND_GEOM_PAGE_KIB, 4), (Reg.FTL_SPARE_LOW_BLOCKS, 0)] with ftl := { found := [goodDevice], header := some {} } }

/-- A batch of one frame, without its tag. -/
def oneFrame : Bytes := [0xB1, 1, 0, 1, 0, 0, 0, 7, 1, 0, 0, 0]

theorem pair_true {α : Type} {p : Bool × α} (h : p.1 = true) : p = (true, p.2) := Prod.ext h rfl

/-- What ends in the first 4 GiB of DRAM, without the top 1/32, is in DRAM. -/
theorem in_dram {a : Nat} (h : a ≤ 0x08F8000000) : a ≤ dramTop + 1 := Nat.le_trans h (Nat.add_le_add_right dramTop_ge 1)

theorem itemDram_of {s : State} {b : Bytes}
    (h : 0x0800000000 ≤ leAt b 16 8 ∧ leAt b 16 8 + leAt b 8 2 * s.pageBytes ≤ 0x08F8000000) : s.itemDram b = true := by
  simp only [State.itemDram, Bool.and_eq_true, decide_eq_true_eq]
  exact ⟨h.1, in_dram h.2⟩

/-- The bytes of a manifest of a part in the owner's key class, of an image without pieces, signed under the key that is the neutral point. -/
def neutralManifest : List (Nat × Nat × Nat) := [(16, 4, 0x5A4C4D46), (20, 1, 1), (21, 1, 2), (272, 57, 1)]

/-- A medium that holds the pieces of an update, and the neutral point as the owner's key. -/
def updatable : State :=
  { sets up [(Reg.UPD_CTRL_ENABLE, 1), (Reg.NAND_GEOM_PAGE_KIB, 4)] with
    ftl := { header := some { sizes := List.replicate 10 1 } }, sec := { otp := { ownerKey := leBytes 57 1 } } }

/-- A piece that waits, long past its 2 s. -/
def waitingPiece : StagedPiece := ⟨0, 0, [], 0⟩

/-- A medium with a piece that waits for its page. -/
def pieceWaits : State := { stored with upd := { waiting := [waitingPiece] } }

/-- A medium, and a session whose pieces have all come. -/
def complete : State := { sets up [(Reg.NAND_GEOM_PAGE_KIB, 4)] with upd := { state := 3 } }

/-- The page of the piece that waits is due. -/
theorem pieceWaits_due : (pieceWaits.upd.waiting.map (fun p => p.index / pieceWaits.perPage)).find? pieceWaits.pageDue = some 0 := by decide +kernel

/-- The medium takes that page. -/
theorem pieceWaits_written : (pieceWaits.volWrite 6 0 (pieceWaits.pageWith 0
    (pieceWaits.upd.waiting.filter (fun p => p.index / pieceWaits.perPage == 0)))).isSome = true := by decide +kernel

/-- The region of the part takes the image. -/
theorem complete_written : ((complete.answer 0).writeRegion (manPart complete.upd.manifest)
    (1 - (complete.upd.part (manPart complete.upd.manifest)).copy) (complete.answer 0).stagedImage).isSome = true := by decide +kernel

/-- UPD_PAGE_WRITE's clause is met. -/
theorem pageWrite_input : ∃ (s : State) (n : Nat) (l : List StagedPiece) (t : State) (v : State),
    ((s.upd.waiting.map (fun p => p.index / s.perPage)).find? s.pageDue = some n) ∧
    (l = s.upd.waiting.filter (fun p => p.index / s.perPage == n)) ∧ s.volWrite 6 n (s.pageWith n l) = some t ∧ v = t.recordPieces n l := by
  obtain ⟨t, ht⟩ := Option.isSome_iff_exists.mp pieceWaits_written
  exact ⟨pieceWaits, 0, _, t, _, pieceWaits_due, rfl, ht, rfl⟩

/-- UPD_INSTALL's clause is met. -/
theorem install_input : ∃ (s : State) (req : Req) (p : Nat) (t : State), TakesF s req Reg.UPD_CTRL_INSTALL ∧ p = manPart s.upd.manifest ∧
    s.upd.state = 3 ∧ (s.upd.part p).unconf = false ∧
    (s.answer 0).writeRegion p (1 - (s.upd.part p).copy) (s.answer 0).stagedImage = some t := by
  obtain ⟨t, ht⟩ := Option.isSome_iff_exists.mp complete_written
  exact ⟨complete, .trusted, _, t, by decide +kernel, rfl, by decide +kernel, by decide +kernel, ht⟩

/-- The conditions on which a standby applies a record, as ones that can be evaluated. -/
theorem recTakes_of {s : State} {r : Rec} {q : State}
    (h : Linked s ∧ s.roomFor = true ∧ (heardRecord s).twinRole = 3 ∧ (heardRecord s).twin.missing = []) (hq : q = (heardRecord s).enq 0x181 { body := .record r })
    (hf : (q.queue 0x181).items.head? = some ⟨.record r, 0⟩) (hu : ((q.popped 0x181).takeRecord r).isSome = true) :
    RecTakes s r q (((q.popped 0x181).takeRecord r).get hu) :=
  ⟨h.1, h.2.1, h.2.2.1, h.2.2.2, hq, hf, (Option.some_get hu).symm⟩

/-- The same data frame, sent to node 5. -/
def radT : Bytes := leBytes 2 (1 + 32 + 64 + 2 * 1024 + 2 * 4096 + 2 * 16384) ++ [0] ++ leBytes 2 0 ++ leBytes 2 5 ++ leBytes 2 1 ++ [1] ++ zcf

/-! ## Witnesses -/

/-- Each clause of StepRunsTheCommandAtTheFront is met. -/
theorem witness_StepRunsTheCommandAtTheFront :
    (∃ (c : Instr) (r : List Instr) (s : State), s.pending = c :: r) :=
  ⟨(.tb0Step .trusted : Instr), ([.dirLookup 0] : List Instr), ({ up with pending := [.tb0Step .trusted, .dirLookup 0] } : State),
    by decide +kernel⟩

/-- Each clause of AnEmptyQueueLetsTimePass is met. -/
theorem witness_AnEmptyQueueLetsTimePass :
    (∃ (s : State), s.pending = []) ∧
    (∃ (s : State), s.mode ≠ .backup) :=
  ⟨⟨up, by decide +kernel⟩,
   ⟨up, by decide +kernel⟩⟩

/-- Each clause of EveryStepKeepsTheInvariant is met. -/
theorem witness_EveryStepKeepsTheInvariant :
    (∃ (s : State) (t : State), s.inv = true ∧ step s = .next t) :=
  ⟨{ up with pending := [.tb0Step .trusted, .dirLookup 0] }, stateOf (step { up with pending := [.tb0Step .trusted, .dirLookup 0] }),
    by decide +kernel, next_of (by decide +kernel)⟩

/-- Each clause of EveryCommandAnswersAndLeavesTheQueue is met. -/
theorem witness_EveryCommandAnswersAndLeavesTheQueue :
    (∃ (c : Instr) (s : State), s.inv = true) :=
  ⟨(.tb0Step .trusted : Instr), up, by decide +kernel⟩

/-- Each clause of AnUnmappedAddressIsABusError is met. -/
theorem witness_AnUnmappedAddressIsABusError :
    (∃ (s : State) (req : Req) (addr : BitVec 40) (size : AccessSize) (data : BitVec 64), (req = .debug → s.flag Reg.LCS_STAT_DBG_OPEN = true) ∧
      inBar4 req addr.toNat = false ∧ busTarget req addr.toNat = .hole) ∧
    (∃ (s : State) (req : Req) (addr : BitVec 40) (size : AccessSize) (data : BitVec 64) (p : Nat) (off : Nat), busTarget req addr.toNat = .page p
      off ∧ pageExists p = false) ∧
    (∃ (req : Req) (addr : BitVec 40) (p : Nat) (off : Nat), busTarget req addr.toNat = .page p off) ∧
    (∃ (s : State) (req : Req) (page : BitVec 8) (off : BitVec 12) (size : AccessSize), pageExists page.toNat = false) ∧
    (∃ (s : State) (req : Req) (page : BitVec 8) (off : BitVec 12) (size : AccessSize), pageExists page.toNat = true ∧ s.domOn (pageDomain
      page.toNat) = true ∧ wholeWords size off.toNat = true ∧ s.admits req page.toNat false = false) ∧
    (∃ (s : State) (req : Req) (addr : BitVec 40) (size : AccessSize) (data : BitVec 64) (p : Nat) (off : Nat), busTarget req addr.toNat = .page p
      off ∧ pageExists p = true ∧ s.domOn (pageDomain p) = true ∧ wholeWords size off = true ∧ s.admits req p true = false) :=
  ⟨by refine ⟨up, (.trusted : Req), (0x50000000 : BitVec 40), (.b1 : AccessSize), (5 : BitVec 64), ?_, ?_, ?_⟩ <;> decide +kernel,
   by refine ⟨up, (.trusted : Req), (0x4000E000 : BitVec 40), (.b1 : AccessSize), (5 : BitVec 64), (0x0E : Nat), (0 : Nat), ?_,
     ?_⟩ <;> decide +kernel,
   ⟨(.app : Req), 0x40014000, 0x14, (0 : Nat), by decide +kernel⟩,
   ⟨up, (.app : Req), (0x0E : BitVec 8), (4 : BitVec 12), (.b1 : AccessSize), by decide +kernel⟩,
   by refine ⟨((up.setF (Reg.BLK_PRIV_RD 0x14) 0) : State), (.app : Req), (0x14 : BitVec 8), (0 : BitVec 12), (.b8 : AccessSize), ?_, ?_, ?_,
     ?_⟩ <;> decide +kernel,
   by refine ⟨((up.setF (Reg.BLK_PRIV_WR 0x14) 0) : State), (.app : Req), (0x40014000 : BitVec 40), (.b4 : AccessSize), (5 : BitVec 64), (0x14 :
     Nat), (0 : Nat), ?_, ?_, ?_, ?_, ?_⟩ <;> decide +kernel⟩

/-- Each clause of AStoppedDomainOrAWrongSizeIsABusError is met. -/
theorem witness_AStoppedDomainOrAWrongSizeIsABusError :
    (∃ (s : State) (req : Req) (page : BitVec 8) (off : BitVec 12) (size : AccessSize), pageExists page.toNat = true ∧ s.domOn (pageDomain
      page.toNat) = false) ∧
    (∃ (s : State) (req : Req) (addr : BitVec 40) (size : AccessSize) (data : BitVec 64) (p : Nat) (off : Nat), busTarget req addr.toNat = .page p
      off ∧ pageExists p = true ∧ s.domOn (pageDomain p) = false) ∧
    (∃ (s : State) (req : Req) (page : BitVec 8) (off : BitVec 12) (size : AccessSize), pageExists page.toNat = true ∧ s.domOn (pageDomain
      page.toNat) = true ∧ wholeWords size off.toNat = false) ∧
    (∃ (s : State) (req : Req) (addr : BitVec 40) (size : AccessSize) (data : BitVec 64) (p : Nat) (off : Nat), busTarget req addr.toNat = .page p
      off ∧ pageExists p = true ∧ s.domOn (pageDomain p) = true ∧ wholeWords size off = false) :=
  ⟨by refine ⟨(State.reset : State), (.app : Req), (0x14 : BitVec 8), (0 : BitVec 12), (.b1 : AccessSize), ?_, ?_⟩ <;> decide +kernel,
   by refine ⟨(State.reset : State), (.app : Req), (0x40014000 : BitVec 40), (.b4 : AccessSize), (0 : BitVec 64), (0x14 : Nat), (0 : Nat), ?_, ?_,
     ?_⟩ <;> decide +kernel,
   by refine ⟨up, (.app : Req), (0x14 : BitVec 8), (0 : BitVec 12), (.b2 : AccessSize), ?_, ?_, ?_⟩ <;> decide +kernel,
   by refine ⟨up, (.app : Req), (0x40014000 : BitVec 40), (.b1 : AccessSize), (0 : BitVec 64), (0x14 : Nat), (0 : Nat), ?_, ?_, ?_,
     ?_⟩ <;> decide +kernel⟩

/-- Each clause of ADebugReadHasNoSideEffect is met. -/
theorem witness_ADebugReadHasNoSideEffect :
    (∃ (s : State) (page : BitVec 8) (off : BitVec 12), s.refusal .debug page.toNat off.toNat .b4 false = none) ∧
    (∃ (s : State), s.refusal .debug 0x00 0x200 .b4 false = none) ∧
    (∃ (s : State), s.refusal .debug 0x05 0x104 .b4 false = none) ∧
    (∃ (s : State), s.refusal .debug 0x03 0x108 .b4 false = none) ∧
    (∃ (s : State), s.refusal .debug 0x0B 0x100 .b4 false = none) :=
  ⟨⟨upDbg, (0x14 : BitVec 8), (0 : BitVec 12), by decide +kernel⟩,
   ⟨upDbg, by decide +kernel⟩,
   ⟨upDbg, by decide +kernel⟩,
   ⟨upDbg, by decide +kernel⟩,
   ⟨(upDbg.setF (Reg.BLK_PRIV_RD 0x0B) 0x3F : State), by decide +kernel⟩⟩

/-- Each clause of ErrCodeKeepsTheFirstError is met. -/
theorem witness_ErrCodeKeepsTheFirstError :
    (∃ (s : State) (p : Nat) (code : Nat) (info : Nat), code < 2 ^ 16 ∧ info < 2 ^ 32 ∧ s.flag (Reg.ERR_VALID p) = false) ∧
    (∃ (s : State) (p : Nat) (code : Nat) (info : Nat), s.flag (Reg.ERR_VALID p) = true) ∧
    (∃ (s : State) (req : Req) (page : BitVec 8), Takes s req page.toNat 0x030) :=
  ⟨by refine ⟨up, (0 : Nat), (0xFFFF : Nat), (0xFFFFFFFF : Nat), ?_, ?_, ?_⟩ <;> decide +kernel,
   ⟨(up.setF (Reg.ERR_VALID 0) 1 : State), (0 : Nat), (1 : Nat), (2 : Nat), by decide +kernel⟩,
   ⟨up, (.trusted : Req), (0x14 : BitVec 8), by decide +kernel⟩⟩

/-- Each clause of LatchedInterruptsAreSetAndCleared is met. -/
theorem witness_LatchedInterruptsAreSetAndCleared :
    (∃ (s : State) (req : Req) (page : BitVec 8) (bits : Word) (b : Nat), Takes s req page.toNat 0x02C ∧ b < 31) ∧
    (∃ (s : State) (req : Req) (page : BitVec 8) (bits : Word) (same : Word) (b : Nat), Takes s req page.toNat 0x028 ∧ b < 31) :=
  ⟨by refine ⟨up, (.trusted : Req), (0x14 : BitVec 8), (0xFFFFFFFF : Word), (30 : Nat), ?_, ?_⟩ <;> decide +kernel,
   by refine ⟨up, (.trusted : Req), (0x14 : BitVec 8), (0xFFFFFFFF : Word), (1 : Word), (0 : Nat), ?_, ?_⟩ <;> decide +kernel⟩

/-- Each clause of MasksStayUnderTheirCeilings is met. -/
theorem witness_MasksStayUnderTheirCeilings :
    (∃ (s : State) (req : Req) (page : BitVec 8) (data : Word), Takes s req page.toNat 0x00C ∧ req ≠ .trusted) ∧
    (∃ (s : State) (page : BitVec 8) (data : Word), Takes s .trusted page.toNat 0x00C ∧ s.flag (Reg.BLK_PRIV_LOCK page.toNat) = true) ∧
    (∃ (s : State) (page : BitVec 8) (data : Word), Takes s .trusted page.toNat 0x00C ∧ s.flag (Reg.BLK_PRIV_LOCK page.toNat) = false) :=
  ⟨by refine ⟨(up.setF (Reg.BLK_PRIV_WR 0x14) 0x3F : State), (.app : Req), (0x14 : BitVec 8), (0 : Word), ?_, ?_⟩ <;> decide +kernel,
   by refine ⟨(up.setF (Reg.BLK_PRIV_LOCK 0x14) 1 : State), (0x14 : BitVec 8), (0 : Word), ?_, ?_⟩ <;> decide +kernel,
   by refine ⟨up, (0x14 : BitVec 8), (0x80003F3F : Word), ?_, ?_⟩ <;> decide +kernel⟩

/-- Each clause of CreditsAreConserved is met. -/
theorem witness_CreditsAreConserved :
    (∃ (s : State) (q : Nat) (i : Item) (r : Nat), s.creditsHold q = true ∧ s.hasCredit q = true ∧ r ≠ q) ∧
    (∃ (s : State) (t : State) (q : Nat) (i : Item) (r : Nat), s.creditsHold q = true ∧ s.deq q = some (i, t) ∧ r ≠ q) ∧
    (∃ (s : State) (t : State) (q : Nat) (i : Item) (r : Nat), s.creditsHold q = true ∧ s.deqHeld q = some (i, t) ∧ r ≠ q) ∧
    (∃ (s : State) (q : Nat) (n : Nat) (r : Nat), s.creditsHold q = true ∧ r ≠ q) ∧
    (∃ (s : State) (q : Nat) (r : Nat), s.creditsHold q = true ∧ r ≠ q) ∧
    (∃ (s : State) (t : State) (req : Req) (page : BitVec 8) (qend : Fin 6) (producer : FlushEdge) (reading : Bool) (q : Nat), s.creditsHold q =
      true ∧ exec (.queueFlush req page qend producer reading) s = .next t) ∧
    (∃ (s : State) (t : State) (page : BitVec 8) (qend : Fin 6) (q : Nat), s.creditsHold q = true ∧ exec (.flushDiscardEnd page qend) s = .next t) :=
  ⟨by refine ⟨up, (0x88 : Nat), ({ body := .bytes [] } : Item), (0x89 : Nat), ?_, ?_, ?_⟩ <;> decide +kernel,
   by refine ⟨(up.enq 0x80 { body := .bytes [] } : State), (((((up.enq 0x80 { body := .bytes [] } : State)).deq ((0x80 : Nat))).get
     (by decide +kernel))).2, (0x80 : Nat), (((((up.enq 0x80 { body := .bytes [] } : State)).deq ((0x80 : Nat))).get (by decide +kernel))).1, (0x89
     : Nat), ?_, ?_, ?_⟩ <;> decide +kernel,
   by refine ⟨(up.enq 0x80 { body := .bytes [] } : State), (((((up.enq 0x80 { body := .bytes [] } : State)).deqHeld ((0x80 : Nat))).get
     (by decide +kernel))).2, (0x80 : Nat), (((((up.enq 0x80 { body := .bytes [] } : State)).deqHeld ((0x80 : Nat))).get (by decide +kernel))).1,
     (0x89 : Nat), ?_, ?_, ?_⟩ <;> decide +kernel,
   by refine ⟨up, (0x80 : Nat), (0 : Nat), (0x89 : Nat), ?_, ?_⟩ <;> decide +kernel,
   by refine ⟨(up.enq 0x80 { body := .bytes [] } : State), (0x80 : Nat), (0x89 : Nat), ?_, ?_⟩ <;> decide +kernel,
   ⟨up, stateOf (exec (.queueFlush ((.trusted : Req)) ((0x10 : BitVec 8)) ((0 : Fin 6)) ((.idle : FlushEdge)) ((false : Bool))) (up)), (.trusted :
     Req), (0x10 : BitVec 8), (0 : Fin 6), (.idle : FlushEdge), (false : Bool), (0x80 : Nat), by decide +kernel, next_of (by decide +kernel)⟩,
   ⟨up, stateOf (exec (.flushDiscardEnd ((0x10 : BitVec 8)) ((0 : Fin 6))) (up)), (0x10 : BitVec 8), (0 : Fin 6), (0x80 : Nat), by decide +kernel,
     next_of (by decide +kernel)⟩⟩

/-- Each clause of AStagedWriteChangesNoField is met. -/
theorem witness_AStagedWriteChangesNoField :
    (∃ (s : State) (t : State) (req : Req) (page : BitVec 8) (off : BitVec 12) (data : Word), exec (.txnStagedWrite req page off data) s = .next t) :=
  ⟨((up.txnAlloc .trusted).1 : State), stateOf (exec (.txnStagedWrite .trusted 0x22 0 1) (up.txnAlloc .trusted).1), .trusted, 0x22, 0, 1, next_of
    (by decide +kernel)⟩

/-- Each clause of ARollBackChangesNoField is met. -/
theorem witness_ARollBackChangesNoField :
    (∃ (s : State) (req : Req) (tag : BitVec 3), Takes s req 0x00 0x20C ∧ 1 ≤ tag.toNat ∧ tag.toNat ≤ 4 ∧ (s.txn tag.toNat).owner = req ∧ ((s.txn
      tag.toNat).state = .opened ∨ (s.txn tag.toNat).state = .armed)) ∧
    (∃ (s : State) (t : State) (req : Req) (tag : BitVec 3) (f : Field), exec (.txnAbort req tag) s = .next t ∧ f.off < 4096 ∧ f.lo < 32 ∧ f.off ≠
      0x020 ∧ f.off ≠ 0x030 ∧ f.off ≠ 0x034 ∧ f.off ≠ 0x040) :=
  ⟨by refine ⟨((up.txnAlloc .trusted).1 : State), (.trusted : Req), (1 : BitVec 3), ?_, ?_, ?_, ?_, ?_⟩ <;> decide +kernel,
   by refine ⟨((up.txnAlloc .trusted).1 : State), stateOf (exec (.txnAbort ((.trusted : Req)) ((1 : BitVec 3))) (((up.txnAlloc .trusted).1 :
     State))), (.trusted : Req), (1 : BitVec 3), (Reg.FTL_CTRL_ENABLE : Field), next_of (by decide +kernel), ?_, ?_, ?_, ?_, ?_,
     ?_⟩ <;> decide +kernel⟩

/-- Each clause of AHandOverTakesTheWholeShadowSet is met. -/
theorem witness_AHandOverTakesTheWholeShadowSet :
    (∃ (s : State) (p : Nat) (c : Nat) (fs : List Field) (f : Field), (fs.map Field.key).Nodup ∧ s.flag (shadowRegs p c).arm = true ∧ f ∈ fs) ∧
    (∃ (s : State) (p : Nat) (c : Nat) (fs : List Field), s.flag (shadowRegs p c).arm = false) ∧
    (∃ (s : State) (t : State) (req : Req) (page : BitVec 8) (off : BitVec 12) (data : Word), exec (.sFieldWrite req page off data) s = .next t) :=
  ⟨by refine ⟨(up.setF (shadowRegs 0x19 0).arm 1 : State), (0x19 : Nat), (0 : Nat), ([Reg.PANEL_NITEMS_N] : List Field), (Reg.PANEL_NITEMS_N :
     Field), ?_, ?_, ?_⟩ <;> decide +kernel,
   ⟨up, (0x19 : Nat), (0 : Nat), ([] : List Field), by decide +kernel⟩,
   ⟨up, stateOf (exec (.sFieldWrite ((.trusted : Req)) ((0x19 : BitVec 8)) ((0x120 : BitVec 12)) ((1 : Word))) (up)), (.trusted : Req), (0x19 :
     BitVec 8), (0x120 : BitVec 12), (1 : Word), next_of (by decide +kernel)⟩⟩

/-- Each clause of AMultiByteValueIsLittleEndian is met. -/
theorem witness_AMultiByteValueIsLittleEndian :
    (∃ (s : State) (a : Nat) (n : Nat) (v : Nat), s.bad = []) ∧
    (∃ (s : State) (a : Nat) (n : Nat) (v : Nat) (i : Nat), i < n) ∧
    (∃ (s : State) (a : Nat) (n : Nat) (v : Nat) (b : Nat), (b < a ∨ a + n ≤ b)) :=
  ⟨⟨up, 0x0800000004, (6 : Nat), 0x123456789ABC, by decide +kernel⟩,
   ⟨up, 0x0800000004, (6 : Nat), 0x123456789ABC, (5 : Nat), by decide +kernel⟩,
   ⟨up, 0x0800000004, (6 : Nat), (1 : Nat), 0x080000000A, by decide +kernel⟩⟩

/-- Each clause of APoisonedFrameLeavesBeforeItsOrderNumber is met. -/
theorem witness_APoisonedFrameLeavesBeforeItsOrderNumber :
    (∃ (s : State) (port : Fin 10) (f : Frame) (n : Nat) (parity : Nat), port.val < 8 ∧ s.domOn .fabric = true ∧ s.hasCredit 0xA0 = true ∧ (s.queue
      (portQ port.val)).items.head? = some { body := .frame f, poison := n } ∧ n + parity ≠ 0) ∧
    (∃ (s : State) (f : Frame) (n : Nat) (parity : Nat), s.flag Reg.DIR_CTRL_ENABLE = true ∧ s.domOn .mem = true ∧ s.dir.search = none ∧ s.hasCredit
      0x80 = true ∧ s.dir.parked.length < 16 ∧ s.dir.released = [] ∧ s.commandTurn = false ∧ (s.queue 0xA0).items.head? = some
      { body := .frame f, poison := n } ∧ n + parity ≠ 0) ∧
    (∃ (s : State) (f : Frame) (n : Nat) (parity : Nat), s.flag Reg.FUNL_CTRL_ENABLE = true ∧ s.bill.token = none ∧ s.panel.due = none ∧ (s.queue
      0x80).items.head? = some { body := .frame f, poison := n } ∧ n + parity ≠ 0) :=
  ⟨by refine ⟨(up.enq (portQ 7) { body := .frame {} } : State), (7 : Fin 10), ({} : Frame), (0 : Nat), (1 : Nat), ?_, ?_, ?_, ?_,
     ?_⟩ <;> decide +kernel,
   by refine ⟨(serving.enq 0xA0 { body := .frame {}, poison := 2 } : State), ({} : Frame), (2 : Nat), (0 : Nat), ?_, ?_, ?_, ?_, ?_, ?_, ?_, ?_,
     ?_⟩ <;> decide +kernel,
   by refine ⟨(serving.enq 0x80 { body := .frame {}, poison := 1 } : State), ({} : Frame), (1 : Nat), (3 : Nat), ?_, ?_, ?_, ?_,
     ?_⟩ <;> decide +kernel⟩

/-- Each clause of NoOrderNumberIsSkipped is met. -/
theorem witness_NoOrderNumberIsSkipped :
    (∃ (s : State) (t : State) (parity : Nat), exec (.funnelOrder parity) s = .next t) ∧
    (∃ (s : State) (f : Frame), s.bill.token = none ∧ s.panel.due = none ∧ (s.queue 0x80).items.head? = some { body := .frame f, poison := 0 } ∧
      s.mayOrder false = true ∧ s.mustHold s.orderNext f = false ∧ s.hasCredit (decryptQ (unitOf (s.laneOf f.meter))) = true) :=
  ⟨⟨serving, stateOf (exec (.funnelOrder 0) serving), 0, next_of (by decide +kernel)⟩,
   by refine ⟨(ordering.enq 0x80 { body := .frame { meter := 0 } } : State), ({ meter := 0 } : Frame), ?_, ?_, ?_, ?_, ?_, ?_⟩ <;> decide +kernel⟩

/-- Each clause of AFrameStartsWithClearedRegisters is met. -/
theorem witness_AFrameStartsWithClearedRegisters :
    (∃ (s : State) (lane : Fin 32) (k : Nat) (n : Nat) (fl : Flight) (f : Frame), (s.queue (plainQ lane.val)).items.head? = some
      { body := .order k, poison := n } ∧ s.flight k = some fl ∧ fl.body = .frame f ∧ s.domOn .fabric = true ∧ s.domOn .mem = true ∧ s.laneState
      lane.val = .service ∧ (s.lane lane.val).running = none ∧ fl.stage = .lane ∧ s.slotFree k fl = true) :=
  by refine ⟨(((inService 0).enq (plainQ 0) { body := .order 1 }).setFlight 1 (some { body := .frame {}, stage := .lane }) : State), (0 : Fin 32),
    (1 : Nat), (0 : Nat), ((((((inService 0).enq (plainQ 0) { body := .order 1 }).setFlight 1 (some { body := .frame {}, stage := .lane }) :
    State)).flight ((1 : Nat))).get (by decide +kernel)), ({} : Frame), ?_, (Option.some_get _).symm, ?_, ?_, ?_, ?_, ?_, ?_, ?_⟩ <;> decide +kernel

/-- Each clause of ALateGroupIsLatchedAndNothingElse is met. -/
theorem witness_ALateGroupIsLatchedAndNothingElse :
    (∃ (s : State) (limit : Nat), limit = s.getF Reg.LADL_GC_CFG_DURABLE_LIMIT * 1000000 ∧ (s.path.groups.any (fun g => !g.late && decide
      (g.closedAt + limit ≤ s.tb1)) = true ∨ ∃ (q l a : Nat), .groupEdge q l a ∈ s.path.shadow ∧ a + limit ≤ s.tb1 ∧ q ∉ s.path.lateEdges)) :=
  ⟨({ up with path := { groups := [{ seq := 1 }] }, tb1 := 1000000000000 } : State), _, rfl, .inl (by decide +kernel)⟩

/-- Each clause of ALostHostLinkAbandonsItsBatches is met. -/
theorem witness_ALostHostLinkAbandonsItsBatches :
    (∃ (s : State) (up : Option PcieHost), s.domOn .fabric = true ∧ s.flag Reg.PCIE_STAT_LINK_UP = true) ∧
    (∃ (s : State) (up : Option PcieHost), s.domOn .fabric = true ∧ s.flag Reg.PCIE_STAT_LINK_UP = true) :=
  ⟨by refine ⟨(up.setF Reg.PCIE_STAT_LINK_UP 1 : State), (some { gen := 3, width := .x4, bme := true, msix := true } : Option PcieHost), ?_,
     ?_⟩ <;> decide +kernel,
   by refine ⟨(up.setF Reg.PCIE_STAT_LINK_UP 1 : State), (none : Option PcieHost), ?_, ?_⟩ <;> decide +kernel⟩

/-- Each clause of TheSwapActsOnEachUnit is met. -/
theorem witness_TheSwapActsOnEachUnit :
    (∃ (d : Bytes) (b0 : Byte), leAt d 0x28 4 % 4 = 0) ∧
    (∃ (d : Bytes) (b0 : Byte) (b1 : Byte), leAt d 0x28 4 % 4 = 1) ∧
    (∃ (d : Bytes) (b0 : Byte) (b1 : Byte) (b2 : Byte) (b3 : Byte), leAt d 0x28 4 % 4 = 2) ∧
    (∃ (d : Bytes) (b0 : Byte) (b1 : Byte) (b2 : Byte) (b3 : Byte), leAt d 0x28 4 % 4 = 3) ∧
    (∃ (d : Bytes) (x : Bytes) (y : Bytes), x.length % swapUnit d = 0) ∧
    (∃ (d : Bytes), descOk d = true) :=
  ⟨⟨(job 64 0 [] : Bytes), (7 : Byte), by decide +kernel⟩,
   ⟨(job 64 0 [(0x28, 4, 1)] : Bytes), (7 : Byte), (8 : Byte), by decide +kernel⟩,
   ⟨(job 64 0 [(0x28, 4, 2)] : Bytes), (7 : Byte), (8 : Byte), (9 : Byte), (10 : Byte), by decide +kernel⟩,
   ⟨(job 64 0 [(0x28, 4, 3)] : Bytes), (7 : Byte), (8 : Byte), (9 : Byte), (10 : Byte), by decide +kernel⟩,
   ⟨(job 64 0 [(0x28, 4, 1)] : Bytes), ([7, 8] : Bytes), ([9] : Bytes), by decide +kernel⟩,
   ⟨(job 64 0 [(0x10, 4, 4), (0x14, 4, 1), (0x18, 4, 4), (0x1C, 4, 4), (0x20, 4, 1), (0x24, 4, 4), (0x28, 4, 3)] : Bytes), by decide +kernel⟩⟩

/-- Each clause of MaskingLeavesEveryKeyAsItWas is met. -/
theorem witness_MaskingLeavesEveryKeyAsItWas :
    (∃ (s : State) (t : State), exec .keyRemask s = .next t) :=
  ⟨({ keyed with tb1 := 99000000000 } : State), stateOf (exec .keyRemask (({ keyed with tb1 := 99000000000 } : State))), next_of
    (by decide +kernel)⟩

/-- Each clause of NarrowNeverSetsABit is met. -/
theorem witness_NarrowNeverSetsABit :
    (∃ (s : State) (c : KeyCmd), c.op = 3) ∧
    (∃ (s : State) (c : KeyCmd), c.op = 3 ∧ (s.slot c.target).widens (s.newAttrs c) = true) :=
  ⟨⟨keyed, ({ req := .trusted, op := 3, target := 1, source := 0, kind := 0, len := 0, attr := 0 } : KeyCmd), by decide +kernel⟩,
   by refine ⟨keyed, ({ req := .trusted, op := 3, target := 3, source := 0, kind := 0, len := 0, attr := 0xFFFFFFFF } : KeyCmd), ?_,
     ?_⟩ <;> decide +kernel⟩

/-- Each clause of CounterModeUndoesItself is met. -/
theorem witness_CounterModeUndoesItself :
    (∃ (key : Bytes) (c : Bytes) (d : Bytes), (key.length = 16 ∨ key.length = 32) ∧ c.length = 16) :=
  by refine ⟨(List.replicate 32 1 : Bytes), (List.replicate 16 1 : Bytes), (List.replicate 20 1 : Bytes), ?_, ?_⟩ <;> decide +kernel

/-- Each clause of RegisterAndTimeCommandsStoreNothing is met. -/
theorem witness_RegisterAndTimeCommandsStoreNothing :
    (∃ (req : Req) (s t : State), (∀ n : Nat, (s.txn n).state ≠ .armed) ∧ exec (.tb0Step req) s = .next t) :=
  ⟨.trusted, State.reset, _, (fun _ h => by cases h), next_of (by decide +kernel)⟩

/-- Each clause of KeyCommandsReachNoMemory is met. -/
theorem witness_KeyCommandsReachNoMemory :
    (∃ s t : State, exec .keyRemask s = .next t) :=
  ⟨State.reset, _, next_of (by decide +kernel)⟩

/-- Each clause of RegisterCommandsComplete is met. -/
theorem witness_RegisterCommandsComplete :
    (∃ (s : State) (req : Req) (addr : BitVec 40) (data : BitVec 64) (p : Nat) (off : Nat), busTarget req addr.toNat = .page p off ∧ s.refusal req p
      off .b4 true = none) ∧
    (∃ (s : State) (req : Req) (addr : BitVec 40) (data : BitVec 64) (p : Nat) (off : Nat) (t : State) (u : State), busTarget req addr.toNat = .page
      p off ∧ off % 8 = 0 ∧ s.refusal req p off .b4 true = none ∧ t = s.writeWord req p off (data.toNat % 2 ^ 32) ∧ t.refusal req p (off + 4) .b4
      true = none ∧ u = t.writeWord req p (off + 4) (data.toNat / 2 ^ 32)) ∧
    (∃ (s : State) (req : Req) (addr : BitVec 40) (size : AccessSize) (data : BitVec 64), busTarget req addr.toNat = .mem .fabric ∧ s.memRefusal req
      addr.toNat true = none ∧ s.memRefusal req (addr.toNat + size.bytes - 1) true = none ∧ s.partBad addr.toNat size.bytes = false) ∧
    (∃ (s : State) (addr : BitVec 40) (data : BitVec 64), inBar4 .pcie addr.toNat = true ∧ (addr.toNat - 0x2000000000) % 4 = 0 ∧ addr.toNat -
      0x2000000000 < 512) ∧
    (∃ (s : State) (req : Req) (page : BitVec 8) (off : BitVec 12), s.refusal req page.toNat off.toNat .b4 false = none ∧ req ≠ .debug ∧
      (¬(page.toNat = 0x00 ∧ off.toNat = 0x200)) ∧ (¬(page.toNat = 0x05 ∧ off.toNat = 0x104)) ∧ (¬(page.toNat = 0x03 ∧ off.toNat = 0x108)) ∧
      (¬(page.toNat = 0x0B ∧ off.toNat = 0x100)) ∧ (¬(page.toNat = 0x04 ∧ off.toNat = 0x100))) ∧
    (∃ (s : State) (req : Req) (page : BitVec 8) (off : BitVec 12) (t : State) (u : State), off.toNat % 8 = 0 ∧ t = s.regRead req page.toNat
      off.toNat ∧ u = t.regRead req page.toNat (off.toNat + 4)) ∧
    (∃ (s : State) (req : Req), s.refusal req 0x04 0x100 .b4 false = none ∧ req ≠ .debug) ∧
    (∃ (s : State) (req : Req) (page : BitVec 8) (data : Word), TakesF s req (Reg.BLK_PRIV_WR page.toNat) ∧ s.flag (Reg.BLK_PRIV_LOCK page.toNat) =
      false ∧ bitAt data.toNat 31 = 0) ∧
    (∃ (s : State) (req : Req) (page : BitVec 8), TakesF s req (Reg.CTRL_SOFT_RESET page.toNat)) ∧
    (∃ (s : State) (req : Req) (page : BitVec 8) (bits : Word) (sameEdge : Word), Takes s req (page.toNat) (0x028)) ∧
    (∃ (s : State) (req : Req) (page : BitVec 8) (bits : Word), Takes s req (page.toNat) (0x02C)) ∧
    (∃ (s : State) (req : Req) (page : BitVec 8), Takes s req (page.toNat) (0x030)) ∧
    (∃ (s : State) (req : Req) (page : BitVec 8) (qend : Fin 6) (hi : BitVec 16) (lo : BitVec 16), Takes s req (page.toNat) (0x080 + qend.val *
      0x10) ∧ qDepth (8 * page.toNat + qend.val) ≠ 0) :=
  ⟨by refine ⟨up, (.trusted : Req), (0x40011108 : BitVec 40), (1 : BitVec 64), (0x11 : Nat), (0x108 : Nat), ?_, ?_⟩ <;> decide +kernel,
   by refine ⟨up, (.trusted : Req), (0x40011108 : BitVec 40), 0x100000001, (0x11 : Nat), (0x108 : Nat), _, _, ?_, ?_, ?_, rfl, ?_,
     rfl⟩ <;> decide +kernel,
   by refine ⟨up, (.trusted : Req), (0x10000000 : BitVec 40), (.b4 : AccessSize), (1 : BitVec 64), ?_, ?_, ?_, ?_⟩ <;> decide +kernel,
   by refine ⟨up, (0x2000000008 : BitVec 40), (1 : BitVec 64), ?_, ?_, ?_⟩ <;> decide +kernel,
   by refine ⟨up, (.trusted : Req), (0x11 : BitVec 8), (0x110 : BitVec 12), ?_, ?_, ?_, ?_, ?_, ?_, ?_⟩ <;> decide +kernel,
   ⟨up, (.trusted : Req), 0x11, 0x110, _, _, by decide +kernel, rfl, rfl⟩,
   by refine ⟨up, (.trusted : Req), ?_, ?_⟩ <;> decide +kernel,
   by refine ⟨up, (.trusted : Req), (0x11 : BitVec 8), (0x0101 : Word), ?_, ?_, ?_⟩ <;> decide +kernel,
   ⟨up, (.trusted : Req), (0x14 : BitVec 8), by decide +kernel⟩,
   ⟨up, (.trusted : Req), (0x11 : BitVec 8), (3 : Word), (0 : Word), by decide +kernel⟩,
   ⟨up, (.trusted : Req), (0x11 : BitVec 8), (3 : Word), by decide +kernel⟩,
   ⟨up, (.trusted : Req), (0x11 : BitVec 8), by decide +kernel⟩,
   by refine ⟨up, (.trusted : Req), (0x11 : BitVec 8), (1 : Fin 6), (9 : BitVec 16), (3 : BitVec 16), ?_, ?_⟩ <;> decide +kernel⟩

/-- Each clause of DomainAndQueueCommandsComplete is met. -/
theorem witness_DomainAndQueueCommandsComplete :
    (∃ (s : State) (dom : Domain), s.domOn dom = false ∧ s.canStart dom = true ∧ domainAllowed (s.getF Reg.PWR_STAT_MODE) (s.getF
      Reg.PWR_STAT_BOOT_STEP != 0) dom = true) ∧
    (∃ (s : State) (dom : Domain), s.getF Reg.PWR_STAT_MODE = 3 ∧ s.domOn dom = true ∧ (dom = .mem ∧ s.memBusy = false ∨ dom = .core)) ∧
    (∃ (s : State), s.memBusy = true) ∧
    (∃ (s : State), s.getF Reg.PWR_STAT_MODE = 3 ∧ s.domOn .port = true ∧ s.portBusy = false ∧ s.flag Reg.PWR_TEND_CFG_PORT_HOLD = false) ∧
    (∃ (s : State) (queue : QueueId), qDepth queue.toNat ≠ 0 ∧ s.creditsHold queue.toNat = true) ∧
    (∃ (s : State) (queue : QueueId), qDepth queue.toNat ≠ 0 ∧ s.creditsHold queue.toNat = false ∧ (s.queue queue.toNat).fails = 0) ∧
    (∃ (s : State) (queue : QueueId) (occA : Nat) (occB : Nat), qPriv queue.toNat = true ∧ queue.toNat ≠ 0x181) ∧
    (∃ (s : State) (queue : QueueId) (occA : Nat) (occB : Nat), queue.toNat = 0x181) ∧
    (∃ (s : State) (req : Req) (page : BitVec 8) (qend : Fin 6) (producer : FlushEdge) (consumerReading : Bool), Takes s req (page.toNat) (0x08C +
      qend.val * 0x10) ∧ qDepth (8 * page.toNat + qend.val) ≠ 0 ∧ s.flag (Reg.FLUSH (8 * page.toNat + qend.val)) = false) ∧
    (∃ (s : State) (page : BitVec 8) (qend : Fin 6) (q : Nat), q = 8 * page.toNat + qend.val ∧ s.flag (Reg.DISCARD q) = true) :=
  ⟨by refine ⟨rest, (.core : Domain), ?_, ?_, ?_⟩ <;> decide +kernel,
   by refine ⟨(upIn 3 : State), (.mem : Domain), ?_, ?_, ?_⟩ <;> decide +kernel,
   ⟨(asked up 0xA1 (job 64 0 []) : State), by decide +kernel⟩,
   by refine ⟨((upIn 3).setF Reg.PWR_TEND_CFG_PORT_HOLD 0 : State), ?_, ?_, ?_, ?_⟩ <;> decide +kernel,
   by refine ⟨up, (0x88 : QueueId), ?_, ?_⟩ <;> decide +kernel,
   by refine ⟨(up.setQueue 0x88 {} : State), (0x88 : QueueId), ?_, ?_, ?_⟩ <;> decide +kernel,
   by refine ⟨up, (0x40 : QueueId), (3 : Nat), (4 : Nat), ?_, ?_⟩ <;> decide +kernel,
   ⟨up, (0x181 : QueueId), (3 : Nat), (4 : Nat), by decide +kernel⟩,
   by refine ⟨up, (.trusted : Req), (0x11 : BitVec 8), (0 : Fin 6), (.idle : FlushEdge), (false : Bool), ?_, ?_, ?_⟩ <;> decide +kernel,
   ⟨(up.setF (Reg.DISCARD 0x88) 1 : State), (0x11 : BitVec 8), (0 : Fin 6), _, rfl, by decide +kernel⟩⟩

/-- Each clause of TransactionCommandsComplete is met. -/
theorem witness_TransactionCommandsComplete :
    (∃ (s : State) (req : Req), s.refusal req 0x00 0x200 .b4 false = none ∧ req ≠ .debug) ∧
    (∃ (s : State) (req : Req) (tag : BitVec 3), Takes s req (0x00) (0x204) ∧ (tag = 0 ∨ s.owns req tag.toNat = true)) ∧
    (∃ (s : State) (req : Req) (page : BitVec 8) (off : BitVec 12) (data : Word) (l : List (Field × Nat)) (n : List (Field × Nat)) (tag : Nat),
      Takes s req (page.toNat) (off.toNat) ∧ trustedHit req page.toNat off.toNat data.toNat = false ∧ l = (s.answer 0).tSet page.toNat off.toNat
      data.toNat ∧ l.isEmpty = false ∧ tag = s.selOf req ∧ tag ≠ 0 ∧ (s.txn tag).owner = req ∧ (s.txn tag).state = .opened ∧ (l.any (fun x =>
      (s.stagedBy x.1 tag).isSome)) = false ∧ n = l.foldl (fun a x => putStaged a x.1 x.2) (s.txn tag).staged ∧ stagedRegs n ≤ 256 ∧ s.stagedTotal -
      stagedRegs (s.txn tag).staged + stagedRegs n ≤ 1024) ∧
    (∃ (s : State) (req : Req) (page : BitVec 8) (off : BitVec 12) (data : Word) (l : List (Field × Nat)) (t : State), Takes s req (page.toNat)
      (off.toNat) ∧ trustedHit req page.toNat off.toNat data.toNat = false ∧ s.selOf req = 0 ∧ l = (s.answer 0).tSet page.toNat off.toNat data.toNat
      ∧ l.isEmpty = false ∧ (l.any (fun x => (s.stagedBy x.1 0).isSome)) = false ∧ (s.answer 0).acceptRefused l = (t, none) ∧ (t.ordersSet l = false
      ∨ t.hasCredit 0x80 = true)) ∧
    (∃ (s : State) (req : Req) (tag : BitVec 3) (t : State) (u : State), s.refusal req 0x00 0x208 .b4 true = none ∧ s.owns req tag.toNat = true ∧
      (s.txn tag.toNat).state = .opened ∧ (s.answer 0).acceptRefused (s.txn tag.toNat).staged = (t, none) ∧ u = t.setTxn tag.toNat
      { t.txn tag.toNat with state := .armed, trigger := .now, late := false } ∧ u.tagsWith tag.toNat = [tag.toNat] ∧ u.tagRefused tag.toNat = none
      ∧ (u.ordersSet (u.txn tag.toNat).staged = false ∨ u.hasCredit 0x80 = true)) ∧
    (∃ (s : State) (req : Req) (tag : BitVec 3) (t : State), s.refusal req 0x00 0x208 .b4 true = none ∧ s.owns req tag.toNat = true ∧ (s.txn
      tag.toNat).state = .opened ∧ (s.answer 0).acceptRefused (s.txn tag.toNat).staged = (t, none) ∧ (t.setTxn tag.toNat { t.txn tag.toNat with
      state := .armed, trigger := .time ((s.getF (Reg.SYS_TXN_AT_SEC_LO_SEC.bankOf req.code) + s.getF (Reg.SYS_TXN_AT_SEC_HI_SEC.bankOf req.code) *
      2 ^ 32) * nsPerS + s.getF (Reg.SYS_TXN_AT_NS_NS.bankOf req.code)), late := decide (((s.getF (Reg.SYS_TXN_AT_SEC_LO_SEC.bankOf req.code) +
      s.getF (Reg.SYS_TXN_AT_SEC_HI_SEC.bankOf req.code) * 2 ^ 32) * nsPerS + s.getF (Reg.SYS_TXN_AT_NS_NS.bankOf req.code)) ≤ s.ns0) }).triggered
      (.time ((s.getF (Reg.SYS_TXN_AT_SEC_LO_SEC.bankOf req.code) + s.getF (Reg.SYS_TXN_AT_SEC_HI_SEC.bankOf req.code) * 2 ^ 32) * nsPerS + s.getF
      (Reg.SYS_TXN_AT_NS_NS.bankOf req.code))) = false) ∧
    (∃ (s : State) (req : Req) (tag : BitVec 3) (interval : BitVec 3) (n : Nat) (t : State), s.refusal req 0x00 0x208 .b4 true = none ∧ s.owns req
      tag.toNat = true ∧ (s.txn tag.toNat).state = .opened ∧ (s.answer 0).acceptRefused (s.txn tag.toNat).staged = (t, none) ∧ (t.setTxn tag.toNat
      { t.txn tag.toNat with state := .armed, trigger := .interval ((s.utcNs / n + 1) * n), late := false }).triggered (.interval ((s.utcNs / n + 1)
      * n)) = false ∧ ivlNs interval.toNat = some n) ∧
    (∃ (s : State) (req : Req) (tag : BitVec 3) (port : BitVec 4) (n : Nat) (t : State), s.refusal req 0x00 0x208 .b4 true = none ∧ s.owns req
      tag.toNat = true ∧ (s.txn tag.toNat).state = .opened ∧ (s.answer 0).acceptRefused (s.txn tag.toNat).staged = (t, none) ∧ (t.setTxn tag.toNat
      { t.txn tag.toNat with state := .armed, trigger := .beacon port.toNat n, late := false }).triggered (.beacon port.toNat n) = false ∧
      s.nextBeacon port.toNat = some n) ∧
    (∃ (s : State) (req : Req) (tag : BitVec 3) (t : State), s.refusal req 0x00 0x208 .b4 true = none ∧ s.owns req tag.toNat = true ∧ (s.txn
      tag.toNat).state = .opened ∧ (s.answer 0).acceptRefused (s.txn tag.toNat).staged = (t, none) ∧ (t.setTxn tag.toNat
      { t.txn tag.toNat with state := .armed, trigger := .cycle (s.getF Reg.TIME_TB4_CNT_CYCLES), late := false }).triggered (.cycle (s.getF
      Reg.TIME_TB4_CNT_CYCLES)) = false) ∧
    (∃ (s : State) (req : Req) (tag : BitVec 3), Takes s req (0x00) (0x20C) ∧ s.owns req tag.toNat = true ∧ ((s.txn tag.toNat).state = .opened ∨
      (s.txn tag.toNat).state = .armed)) ∧
    (∃ (s : State) (tag : BitVec 3), (s.txn tag.toNat).state = .opened ∧ (s.txn tag.toNat).deadline ≤ s.tb1) ∧
    (∃ (s : State) (tag : BitVec 3) (tags : List Nat) (l : List (Field × Nat)), (s.txn tag.toNat).state = .armed ∧ s.triggered (s.txn
      tag.toNat).trigger = true ∧ tags = s.tagsWith tag.toNat ∧ (tags.all (fun n => (s.tagRefused n).isNone)) = true ∧ tags ≠ [] ∧ l = tags.flatMap
      (fun n => (s.txn n).staged) ∧ s.setRefused l = none ∧ (s.ordersSet l = false ∨ s.hasCredit 0x80 = true)) ∧
    (∃ (s : State) (tag : BitVec 3), (s.txn tag.toNat).state = .committing) ∧
    (∃ (s : State) (req : Req) (page : BitVec 8) (off : BitVec 12) (data : Word), Takes s req (page.toNat) (off.toNat) ∧ ((s.answer 0).sFieldsAt
      page.toNat off.toNat).isEmpty = false ∧ (((s.answer 0).sFieldsAt page.toNat off.toNat).any (fun f => !f.takes (f.part data.toNat)) = false)) ∧
    (∃ (s : State) (req : Req) (page : BitVec 8) (chan : Fin 16), Takes s req (page.toNat) ((shadowRegs page.toNat chan.val).arm.off) ∧
      ((blockFields page.toNat).any (fun f => f.txn == .s) = true)) :=
  ⟨by refine ⟨up, (.trusted : Req), ?_, ?_⟩ <;> decide +kernel,
   by refine ⟨up, (.trusted : Req), (0 : BitVec 3), ?_, ?_⟩ <;> decide +kernel,
   by refine ⟨((up.txnAlloc .trusted).1 : State), (.trusted : Req), (0x10 : BitVec 8), (0x010 : BitVec 12), (1 : Word), _, _, _, ?_, ?_, rfl, ?_,
     rfl, ?_, ?_, ?_, ?_, rfl, ?_, ?_⟩ <;> decide +kernel,
   by refine ⟨(up : State), (Req.trusted : Req), (0x10 : BitVec 8), (0x010 : BitVec 12), (1 : Word), _, ((((up : State)).answer 0).acceptRefused
     (((((up : State)).answer 0).tSet ((0x10 : BitVec 8)).toNat ((0x010 : BitVec 12)).toNat ((1 : Word)).toNat : List (Field × Nat)))).1, ?_, ?_,
     ?_, rfl, ?_, ?_, ?_, ?_⟩ <;> decide +kernel,
   by refine ⟨((up.txnAlloc .trusted).1 : State), (.trusted : Req), (1 : BitVec 3), ((up.txnAlloc .trusted).1.answer 0 : State), _, ?_, ?_, ?_, ?_,
     rfl, ?_, ?_, ?_⟩ <;> decide +kernel,
   by refine
     ⟨({ (up.txnAlloc .trusted).1 with regs := ((up.txnAlloc .trusted).1.setF (Reg.SYS_TXN_AT_SEC_LO_SEC.bankOf (Req.code .trusted)) 1).regs } :
     State), (.trusted : Req), (1 : BitVec 3),
     (((({ (up.txnAlloc .trusted).1 with regs := ((up.txnAlloc .trusted).1.setF (Reg.SYS_TXN_AT_SEC_LO_SEC.bankOf (Req.code .trusted)) 1).regs } :
     State)).answer 0).acceptRefused
     ((({ (up.txnAlloc .trusted).1 with regs := ((up.txnAlloc .trusted).1.setF (Reg.SYS_TXN_AT_SEC_LO_SEC.bankOf (Req.code .trusted)) 1).regs } :
     State)).txn ((1 : BitVec 3)).toNat).staged).1, ?_, ?_, ?_, ?_, ?_⟩ <;> decide +kernel,
   by refine ⟨((up.txnAlloc .trusted).1 : State), (.trusted : Req), (1 : BitVec 3), (0 : BitVec 3), (60000000000 : Nat), ((up.txnAlloc
     .trusted).1.answer 0 : State), ?_, ?_, ?_, ?_, ?_, ?_⟩ <;> decide +kernel,
   by refine ⟨({ (fielding.txnAlloc .trusted).1 with bus := {} } : State), (.trusted : Req), (1 : BitVec 3), (0 : BitVec 4),
     (((({ (fielding.txnAlloc .trusted).1 with bus := {} } : State)).nextBeacon ((0 : BitVec 4)).toNat).get (by decide +kernel)),
     (((({ (fielding.txnAlloc .trusted).1 with bus := {} } : State)).answer 0).acceptRefused ((({ (fielding.txnAlloc .trusted).1 with bus := {} } :
     State)).txn ((1 : BitVec 3)).toNat).staged).1, ?_, ?_, ?_, ?_, ?_, ?_⟩ <;> decide +kernel,
   by refine ⟨((up.txnAlloc .trusted).1 : State), (.trusted : Req), (1 : BitVec 3), ((up.txnAlloc .trusted).1.answer 0 : State), ?_, ?_, ?_, ?_,
     ?_⟩ <;> decide +kernel,
   by refine ⟨((up.txnAlloc .trusted).1 : State), (.trusted : Req), (1 : BitVec 3), ?_, ?_, ?_⟩ <;> decide +kernel,
   by refine ⟨({ (up.txnAlloc .trusted).1 with tb1 := 99000000000 } : State), (1 : BitVec 3), ?_, ?_⟩ <;> decide +kernel,
   by refine ⟨({ up with txns := [(1, { state := .armed, trigger := .now, staged := [(Reg.FTL_SPARE_LOW_BLOCKS, 300)] })] } : State), (1 : BitVec
     3), _, _, ?_, ?_, rfl, ?_, ?_, rfl, ?_, ?_⟩ <;> decide +kernel,
   ⟨(up.setTxn 1 { state := .committing } : State), (1 : BitVec 3), by decide +kernel⟩,
   by refine ⟨up, (.trusted : Req), (0x19 : BitVec 8), (0x120 : BitVec 12), (1 : Word), ?_, ?_, ?_⟩ <;> decide +kernel,
   by refine ⟨up, (.trusted : Req), (0x19 : BitVec 8), (0 : Fin 16), ?_, ?_⟩ <;> decide +kernel⟩

/-- A clause of FramePathCommandsComplete is met. -/
theorem met_FramePathCommandsComplete_0 :
    (∃ (s : State) (port : Fin 10) (f : Frame) (p : Parsed), s.domOn .fabric = true ∧ s.hasCredit 0xA0 = true ∧ port.val < 8 ∧ (s.queue (portQ
      port.val)).items.head? = some ⟨.frame f, 0⟩ ∧ tooLong f.raw = false ∧ parseFrame f.raw = some p) :=
  by refine ⟨(up.enq (portQ 0) { body := .frame { raw := zcf } } : State), (0 : Fin 10), ({ raw := zcf } : Frame), (((parseFrame zcf).get
    zcf_parses) : Parsed), ?_, ?_, ?_, ?_, ?_, ?_⟩ <;> decide +kernel

/-- A clause of FramePathCommandsComplete is met. -/
theorem met_FramePathCommandsComplete_1 :
    (∃ (s : State) (f : Frame) (p : Parsed) (n : Nat) (last : Bool) (u : State), s.domOn .fabric = true ∧ s.hasCredit 0xA0 = true ∧
      s.path.toParse.find? (fun x => x.1 == 8) = some (n, f, last) ∧ tooLong f.raw = false ∧ parseFrame f.raw = some p ∧ u =
      { s with path := { s.path with toParse := s.path.toParse.erase (8, f, last) } }) :=
  by refine ⟨({ up with path := { toParse := [(8, { raw := zcf }, false)] } } : State), ({ raw := zcf } : Frame), ((parseFrame (({ raw := zcf } :
    Frame)).raw).get (by decide +kernel)), (8 : Nat), (((({ up with path := { toParse := [(8, { raw := zcf }, false)] } } :
    State)).path.toParse.find? (fun x => x.1 == 8)).get (by decide +kernel)).2.2, _, ?_, ?_, ?_, ?_, (Option.some_get _).symm,
    rfl⟩ <;> decide +kernel

/-- A clause of FramePathCommandsComplete is met. -/
theorem met_FramePathCommandsComplete_2 :
    (∃ (s : State) (f : Frame) (p : Parsed) (n : Nat) (last : Bool) (u : State), s.domOn .fabric = true ∧ s.hasCredit 0xA0 = true ∧
      s.path.toParse.find? (fun x => x.1 == 9) = some (n, f, last) ∧ tooLong f.raw = false ∧ parseFrame f.raw = some p ∧ u =
      { s with path := { s.path with toParse := s.path.toParse.erase (9, f, last) } }) :=
  by refine ⟨({ up with path := { toParse := [(9, { raw := zcf }, false)] } } : State), ({ raw := zcf } : Frame), ((parseFrame (({ raw := zcf } :
    Frame)).raw).get (by decide +kernel)), (9 : Nat), (((({ up with path := { toParse := [(9, { raw := zcf }, false)] } } :
    State)).path.toParse.find? (fun x => x.1 == 9)).get (by decide +kernel)).2.2, _, ?_, ?_, ?_, ?_, (Option.some_get _).symm,
    rfl⟩ <;> decide +kernel

/-- A clause of FramePathCommandsComplete is met. -/
theorem met_FramePathCommandsComplete_3 :
    (∃ (s : State) (f : Frame) (t : State) (u : State) (a : Nat), s.flag Reg.DIR_CTRL_ENABLE = true ∧ s.domOn .mem = true ∧ s.dir.search = none ∧
      s.hasCredit 0x80 = true ∧ s.dir.parked.length < 16 ∧ s.dir.released = [] ∧ s.commandTurn = false ∧ (s.queue 0xA0).items.head? = some ⟨.frame
      f, 0⟩ ∧ t = { s.popped 0xA0 with dir := { s.dir with turn := 1 } } ∧ t.locked? 0 (t.idBucket 0 f.mid) = false ∧ u = (t.set2
      Reg.DIR_LOOKUPS_LO_CNT Reg.DIR_LOOKUPS_HI_CNT (min (t.get2 Reg.DIR_LOOKUPS_LO_CNT Reg.DIR_LOOKUPS_HI_CNT + 1) (2 ^ 48 - 1))).readBucket 0
      (t.idBucket 0 f.mid) ∧ u.dirBucket f.mid = .found a) :=
  by refine ⟨((serving.putEntry (wayAddr 0 (serving.idBucket 0 0) 0) 0 (2 ^ 31) 0 0).enq 0xA0 { body := .frame {} } : State), ({} : Frame), _, _,
    (wayAddr 0 (serving.idBucket 0 0) 0 : Nat), ?_, ?_, ?_, ?_, ?_, ?_, ?_, ?_, rfl, ?_, rfl, ?_⟩ <;> decide +kernel

/-- A clause of FramePathCommandsComplete is met. -/
theorem met_FramePathCommandsComplete_4 :
    (∃ (s : State) (f : Frame) (r : List Parked) (t : State) (u : State) (a : Nat), s.flag Reg.DIR_CTRL_ENABLE = true ∧ s.domOn .mem = true ∧
      s.dir.search = none ∧ s.hasCredit 0x80 = true ∧ s.dir.parked.length < 16 ∧ s.dir.released = .lookup f :: r ∧ t =
      { s with dir := { s.dir with released := r } } ∧ t.locked? 0 (t.idBucket 0 f.mid) = false ∧ u = (t.set2 Reg.DIR_LOOKUPS_LO_CNT
      Reg.DIR_LOOKUPS_HI_CNT (min (t.get2 Reg.DIR_LOOKUPS_LO_CNT Reg.DIR_LOOKUPS_HI_CNT + 1) (2 ^ 48 - 1))).readBucket 0 (t.idBucket 0 f.mid) ∧
      u.dirBucket f.mid = .found a) :=
  by refine ⟨({ serving.putEntry (wayAddr 0 (serving.idBucket 0 0) 0) 0 (2 ^ 31) 0 0 with dir := { released := [.lookup {}] } } : State), ({} :
    Frame), ([] : List Parked), _, _, (wayAddr 0 (serving.idBucket 0 0) 0 : Nat), ?_, ?_, ?_, ?_, ?_, ?_, rfl, ?_, rfl, ?_⟩ <;> decide +kernel

/-- A clause of FramePathCommandsComplete is met. -/
theorem met_FramePathCommandsComplete_5 :
    (∃ (s : State) (f : Frame) (t : State) (a : Nat), s.dir.search = some f ∧ s.hasCredit 0x80 = true ∧
      ({ s with dir := { s.dir with search := none } } : State).dirSearch f.mid = (t, some a)) :=
  by refine
    ⟨({ serving with dir := { search := some {}, tags := [(0, serving.idTag 0 + 1)] }, mem := (serving.putEntry (ovfAddr 0) 0 (2 ^ 31) 0 0).mem } :
    State), ({} : Frame), (({
    (({ serving with dir := { search := some {}, tags := [(0, serving.idTag 0 + 1)] }, mem := (serving.putEntry (ovfAddr 0) 0 (2 ^ 31) 0 0).mem } :
    State)) with dir :=
    { (({ serving with dir := { search := some {}, tags := [(0, serving.idTag 0 + 1)] }, mem := (serving.putEntry (ovfAddr 0) 0 (2 ^ 31) 0 0).mem } : State)).dir with search := none }
    } : State).dirSearch (({} : Frame)).mid).1, (ovfAddr 0 : Nat), ?_, ?_, ?_⟩ <;> decide +kernel

/-- A clause of FramePathCommandsComplete is met. -/
theorem met_FramePathCommandsComplete_6 :
    (∃ (s : State) (f : Frame) (t : State), s.dir.search = some f ∧ s.hasCredit 0x80 = true ∧ ({ s with dir := { s.dir with search := none } } :
      State).dirSearch f.mid = (t, none)) :=
  by refine ⟨({ serving with dir := { search := some {} } } : State), (((({ serving with dir := { search := some {} } } : State)).dir.search).get
    (by decide +kernel)),
    (({ (({ serving with dir := { search := some {} } } : State)) with dir := { (({ serving with dir := { search := some {} } } : State)).dir with search := none } }
    : State).dirSearch ((((({ serving with dir := { search := some {} } } : State)).dir.search).get (by decide +kernel))).mid).1, ?_, ?_,
    ?_⟩ <;> decide +kernel

/-- A clause of FramePathCommandsComplete is met. -/
theorem met_FramePathCommandsComplete_7 :
    (∃ (s : State) (f : Frame), s.bill.token = none ∧ s.panel.due = none ∧ (s.queue 0x80).items.head? = some ⟨.frame f, 0⟩ ∧ s.mayOrder false = true
      ∧ (s.mustHold s.orderNext f = true ∨ s.hasCredit (decryptQ (unitOf (s.laneOf f.meter))) = true)) :=
  by refine ⟨(ordering.enq 0x80 { body := .frame {} } : State), ({} : Frame), ?_, ?_, ?_, ?_, ?_⟩ <;> decide +kernel

/-- A clause of FramePathCommandsComplete is met. -/
theorem met_FramePathCommandsComplete_8 :
    (∃ (s : State) (o : Ordered), s.bill.token = none ∧ s.panel.due = none ∧ (s.queue 0x80).items.head? = some ⟨.orderedItem o, 0⟩ ∧ s.mayOrder true
      = true) :=
  by refine ⟨(ordering.enq 0x80 { body := .orderedItem (.ckptMarker 0) } : State), (.ckptMarker 0 : Ordered), ?_, ?_, ?_, ?_⟩ <;> decide +kernel

/-- A clause of FramePathCommandsComplete is met. -/
theorem met_FramePathCommandsComplete_9 :
    (∃ (s : State) (req : Req) (data : Word) (t : State) (u : State), TakesA s req Reg.FUNL_ORDER_BASE_HI_LOAD data.toNat ∧ bitAt data.toNat 31 = 1
      ∧ u = plainly s req Reg.FUNL_ORDER_BASE_HI_LOAD data.toNat ∧ u.flag Reg.FUNL_CTRL_ENABLE = false ∧ t = u.setOrderNext (u.get2
      Reg.FUNL_ORDER_BASE_LO_BASE Reg.FUNL_ORDER_BASE_HI_BASE)) :=
  by refine ⟨up, (.trusted : Req), (0x80000000 : Word), _, _, ?_, ?_, rfl, ?_, rfl⟩ <;> decide +kernel

/-- A clause of FramePathCommandsComplete is met. -/
theorem met_FramePathCommandsComplete_10 :
    (∃ (s : State) (meter : BitVec 20) (copy : Bytes) (u : State), s.domOn .mem = true ∧ s.flag Reg.FUNL_CTRL_PREFETCH_EN = true ∧ s.flag
      Reg.FUNL_CTRL_ENABLE = true ∧ s.recValid meter.toNat = true ∧ s.laneState (s.laneOf meter.toNat) = .service ∧ (s.lane (s.laneOf
      meter.toNat)).running = none ∧ s.expectedIn meter.toNat * 1000000 ≤ s.getF Reg.FUNL_PREFETCH_LEAD_US + s.utcNs % nsPerS / 1000 ∧ copy = s.read
      (recordAddr meter.toNat) 1024 ∧ u = s.eccCorrect (recordAddr meter.toNat) 1024) :=
  by refine ⟨((sets (inService 0) [(Reg.FUNL_CTRL_ENABLE, 1), (Reg.FUNL_CTRL_PREFETCH_EN, 1)]).setRec 0 8 4 1 : State), (0 : BitVec 20), _, _, ?_,
    ?_, ?_, ?_, ?_, ?_, ?_, rfl, rfl⟩ <;> decide +kernel

/-- A clause of FramePathCommandsComplete is met. -/
theorem met_FramePathCommandsComplete_11 :
    (∃ (s : State) (unit : Fin 4) (k : Nat) (fl : Flight) (t : State), bitAt s.unitsReady unit.val = 1 ∧ s.unitRun unit.val = none ∧ s.domOn .mem =
      true ∧ (s.queue (decryptQ unit.val)).items.head? = some ⟨.order k, 0⟩ ∧ s.flight k = some fl ∧ fl.stage = .decrypt ∧ fl.rerun = false ∧
      s.hasCredit (plainQ fl.lane) = true ∧ t = s.popped (decryptQ unit.val)) :=
  by refine ⟨((serving.enq 0x4A { body := .order 1 }).setFlight 1 (some { body := .frame {}, stage := .decrypt }) : State), (0 : Fin 4), p_order
    ((((((serving.enq 0x4A { body := .order 1 }).setFlight 1 (some { body := .frame {}, stage := .decrypt }) : State)).queue (decryptQ ((0 : Fin
    4)).val)).items.head?).get (by decide +kernel)), ({ body := .frame {}, stage := .decrypt } : Flight), _, ?_, ?_, ?_, ?_, ?_, ?_, ?_, ?_,
    rfl⟩ <;> decide +kernel

/-- A clause of FramePathCommandsComplete is met. -/
theorem met_FramePathCommandsComplete_12 :
    (∃ (s : State) (unit : Fin 4) (r : CleaverRun) (v : TagVerdict) (t : State) (fl : Flight), s.unitRun unit.val = some r ∧ s.hasCredit 0x89 = true
      ∧ v = (if r.revoked then .revoked else r.verdict) ∧ t = (s.setUnitRun unit.val none).countTag v ∧ t.flight r.order = some fl ∧ fl.rerun =
      false ∧ (fl.tagV = none ∨ v = .poison ∨ v = .revoked ∨ v = .noKey)) :=
  by refine ⟨(flying.setUnitRun 0 (some { order := 1, verdict := .pass }) : State), (0 : Fin 4), ((((flying.setUnitRun 0 (some
    { order := 1, verdict := .pass }) : State)).unitRun ((0 : Fin 4)).val).get (by decide +kernel)), _, _, (((((((flying.setUnitRun 0 (some
    { order := 1, verdict := .pass }) : State)).setUnitRun ((0 : Fin 4)).val none).countTag (((if (((((flying.setUnitRun 0 (some
    { order := 1, verdict := .pass }) : State)).unitRun ((0 : Fin 4)).val).get (by decide +kernel))).revoked then .revoked else
    (((((flying.setUnitRun 0 (some { order := 1, verdict := .pass }) : State)).unitRun ((0 : Fin 4)).val).get (by decide +kernel))).verdict) :
    TagVerdict)) : State)).flight (((((flying.setUnitRun 0 (some { order := 1, verdict := .pass }) : State)).unitRun ((0 : Fin 4)).val).get
    (by decide +kernel))).order).get (by decide +kernel)), (Option.some_get _).symm, ?_, rfl, rfl, (Option.some_get _).symm, ?_,
    ?_⟩ <;> decide +kernel

/-- A clause of FramePathCommandsComplete is met. -/
theorem met_FramePathCommandsComplete_13 :
    (∃ (s : State) (order : BitVec 48) (fl : Flight), s.domOn .mem = true ∧ s.flight order.toNat = some fl ∧ fl.rerun = true ∧ fl.stage = .held ∧
      s.mustHold order.toNat fl.frame = false ∧ s.hasCredit (decryptQ (unitOf (s.laneOf fl.frame.meter))) = true ∧ s.anyBad (replayAddr order.toNat)
      fl.frame.raw.length = false) :=
  by refine ⟨((inService 0).setFlight 1 (some { body := .frame { meter := 0 }, stage := .held, rerun := true }) : State), (1 : BitVec 48),
    (((((inService 0).setFlight 1 (some { body := .frame { meter := 0 }, stage := .held, rerun := true }) : State)).flight ((1 : BitVec
    48)).toNat).get (by decide +kernel)), ?_, (Option.some_get _).symm, ?_, ?_, ?_, ?_, ?_⟩ <;> decide +kernel

/-- Each clause of FramePathCommandsComplete is met. -/
theorem witness_FramePathCommandsComplete :
    (∃ (s : State) (port : Fin 10) (f : Frame) (p : Parsed), s.domOn .fabric = true ∧ s.hasCredit 0xA0 = true ∧ port.val < 8 ∧ (s.queue (portQ
      port.val)).items.head? = some ⟨.frame f, 0⟩ ∧ tooLong f.raw = false ∧ parseFrame f.raw = some p) ∧
    (∃ (s : State) (f : Frame) (p : Parsed) (n : Nat) (last : Bool) (u : State), s.domOn .fabric = true ∧ s.hasCredit 0xA0 = true ∧
      s.path.toParse.find? (fun x => x.1 == 8) = some (n, f, last) ∧ tooLong f.raw = false ∧ parseFrame f.raw = some p ∧ u =
      { s with path := { s.path with toParse := s.path.toParse.erase (8, f, last) } }) ∧
    (∃ (s : State) (f : Frame) (p : Parsed) (n : Nat) (last : Bool) (u : State), s.domOn .fabric = true ∧ s.hasCredit 0xA0 = true ∧
      s.path.toParse.find? (fun x => x.1 == 9) = some (n, f, last) ∧ tooLong f.raw = false ∧ parseFrame f.raw = some p ∧ u =
      { s with path := { s.path with toParse := s.path.toParse.erase (9, f, last) } }) ∧
    (∃ (s : State) (f : Frame) (t : State) (u : State) (a : Nat), s.flag Reg.DIR_CTRL_ENABLE = true ∧ s.domOn .mem = true ∧ s.dir.search = none ∧
      s.hasCredit 0x80 = true ∧ s.dir.parked.length < 16 ∧ s.dir.released = [] ∧ s.commandTurn = false ∧ (s.queue 0xA0).items.head? = some ⟨.frame
      f, 0⟩ ∧ t = { s.popped 0xA0 with dir := { s.dir with turn := 1 } } ∧ t.locked? 0 (t.idBucket 0 f.mid) = false ∧ u = (t.set2
      Reg.DIR_LOOKUPS_LO_CNT Reg.DIR_LOOKUPS_HI_CNT (min (t.get2 Reg.DIR_LOOKUPS_LO_CNT Reg.DIR_LOOKUPS_HI_CNT + 1) (2 ^ 48 - 1))).readBucket 0
      (t.idBucket 0 f.mid) ∧ u.dirBucket f.mid = .found a) ∧
    (∃ (s : State) (f : Frame) (r : List Parked) (t : State) (u : State) (a : Nat), s.flag Reg.DIR_CTRL_ENABLE = true ∧ s.domOn .mem = true ∧
      s.dir.search = none ∧ s.hasCredit 0x80 = true ∧ s.dir.parked.length < 16 ∧ s.dir.released = .lookup f :: r ∧ t =
      { s with dir := { s.dir with released := r } } ∧ t.locked? 0 (t.idBucket 0 f.mid) = false ∧ u = (t.set2 Reg.DIR_LOOKUPS_LO_CNT
      Reg.DIR_LOOKUPS_HI_CNT (min (t.get2 Reg.DIR_LOOKUPS_LO_CNT Reg.DIR_LOOKUPS_HI_CNT + 1) (2 ^ 48 - 1))).readBucket 0 (t.idBucket 0 f.mid) ∧
      u.dirBucket f.mid = .found a) ∧
    (∃ (s : State) (f : Frame) (t : State) (a : Nat), s.dir.search = some f ∧ s.hasCredit 0x80 = true ∧
      ({ s with dir := { s.dir with search := none } } : State).dirSearch f.mid = (t, some a)) ∧
    (∃ (s : State) (f : Frame) (t : State), s.dir.search = some f ∧ s.hasCredit 0x80 = true ∧ ({ s with dir := { s.dir with search := none } } :
      State).dirSearch f.mid = (t, none)) ∧
    (∃ (s : State) (f : Frame), s.bill.token = none ∧ s.panel.due = none ∧ (s.queue 0x80).items.head? = some ⟨.frame f, 0⟩ ∧ s.mayOrder false = true
      ∧ (s.mustHold s.orderNext f = true ∨ s.hasCredit (decryptQ (unitOf (s.laneOf f.meter))) = true)) ∧
    (∃ (s : State) (o : Ordered), s.bill.token = none ∧ s.panel.due = none ∧ (s.queue 0x80).items.head? = some ⟨.orderedItem o, 0⟩ ∧ s.mayOrder true
      = true) ∧
    (∃ (s : State) (req : Req) (data : Word) (t : State) (u : State), TakesA s req Reg.FUNL_ORDER_BASE_HI_LOAD data.toNat ∧ bitAt data.toNat 31 = 1
      ∧ u = plainly s req Reg.FUNL_ORDER_BASE_HI_LOAD data.toNat ∧ u.flag Reg.FUNL_CTRL_ENABLE = false ∧ t = u.setOrderNext (u.get2
      Reg.FUNL_ORDER_BASE_LO_BASE Reg.FUNL_ORDER_BASE_HI_BASE)) ∧
    (∃ (s : State) (meter : BitVec 20) (copy : Bytes) (u : State), s.domOn .mem = true ∧ s.flag Reg.FUNL_CTRL_PREFETCH_EN = true ∧ s.flag
      Reg.FUNL_CTRL_ENABLE = true ∧ s.recValid meter.toNat = true ∧ s.laneState (s.laneOf meter.toNat) = .service ∧ (s.lane (s.laneOf
      meter.toNat)).running = none ∧ s.expectedIn meter.toNat * 1000000 ≤ s.getF Reg.FUNL_PREFETCH_LEAD_US + s.utcNs % nsPerS / 1000 ∧ copy = s.read
      (recordAddr meter.toNat) 1024 ∧ u = s.eccCorrect (recordAddr meter.toNat) 1024) ∧
    (∃ (s : State) (unit : Fin 4) (k : Nat) (fl : Flight) (t : State), bitAt s.unitsReady unit.val = 1 ∧ s.unitRun unit.val = none ∧ s.domOn .mem =
      true ∧ (s.queue (decryptQ unit.val)).items.head? = some ⟨.order k, 0⟩ ∧ s.flight k = some fl ∧ fl.stage = .decrypt ∧ fl.rerun = false ∧
      s.hasCredit (plainQ fl.lane) = true ∧ t = s.popped (decryptQ unit.val)) ∧
    (∃ (s : State) (unit : Fin 4) (r : CleaverRun) (v : TagVerdict) (t : State) (fl : Flight), s.unitRun unit.val = some r ∧ s.hasCredit 0x89 = true
      ∧ v = (if r.revoked then .revoked else r.verdict) ∧ t = (s.setUnitRun unit.val none).countTag v ∧ t.flight r.order = some fl ∧ fl.rerun =
      false ∧ (fl.tagV = none ∨ v = .poison ∨ v = .revoked ∨ v = .noKey)) ∧
    (∃ (s : State) (order : BitVec 48) (fl : Flight), s.domOn .mem = true ∧ s.flight order.toNat = some fl ∧ fl.rerun = true ∧ fl.stage = .held ∧
      s.mustHold order.toNat fl.frame = false ∧ s.hasCredit (decryptQ (unitOf (s.laneOf fl.frame.meter))) = true ∧ s.anyBad (replayAddr order.toNat)
      fl.frame.raw.length = false) :=
  ⟨met_FramePathCommandsComplete_0,
   met_FramePathCommandsComplete_1,
   met_FramePathCommandsComplete_2,
   met_FramePathCommandsComplete_3,
   met_FramePathCommandsComplete_4,
   met_FramePathCommandsComplete_5,
   met_FramePathCommandsComplete_6,
   met_FramePathCommandsComplete_7,
   met_FramePathCommandsComplete_8,
   met_FramePathCommandsComplete_9,
   met_FramePathCommandsComplete_10,
   met_FramePathCommandsComplete_11,
   met_FramePathCommandsComplete_12,
   met_FramePathCommandsComplete_13⟩

/-- Each clause of LaneCommandsComplete is met. -/
theorem witness_LaneCommandsComplete :
    (∃ (s : State) (lane : Fin 32) (k : Nat) (n : Nat) (fl : Flight) (v : State) (u : State), (s.queue (plainQ lane.val)).items.head? = some ⟨.order
      k, n⟩ ∧ s.flight k = some fl ∧ s.domOn .fabric = true ∧ s.domOn .mem = true ∧ s.laneState lane.val = .service ∧ (s.lane lane.val).running =
      none ∧ fl.stage = .lane ∧ s.slotFree k fl = true ∧ v = (if fl.copy.isEmpty then s.eccCorrect (recordAddr fl.frame.meter) 1024 else s) ∧ u =
      (v.takeSlot k fl).setFlight k (some { fl with slot := true, stage := .running, arrived := max fl.arrived fl.ptOff })) ∧
    (∃ (s : State) (lane : Fin 32) (t : State), s.dropWord lane.val = some t) ∧
    (∃ (s : State) (lane : Fin 32) (k : Nat) (fl : Flight), s.dropWord lane.val = none ∧ s.arriving lane.val = some (k, fl) ∧ fl.stage ≠ .done ∧
      ((s.lane lane.val).running ≠ some k ∨ (s.lane lane.val).stalled = true ∨ min fl.plain.length (4 * (fl.arrived / 4) + 4) < min (s.lane
      lane.val).need fl.plain.length)) ∧
    (∃ (s : State) (lane : Fin 32) (k : Nat) (fl : Flight) (t : State), s.dropWord lane.val = none ∧ s.arriving lane.val = some (k, fl) ∧ fl.stage ≠
      .done ∧ (s.lane lane.val).running = some k ∧ (s.lane lane.val).stalled = false ∧ min (s.lane lane.val).need fl.plain.length ≤ min
      fl.plain.length (4 * (fl.arrived / 4) + 4) ∧ t = s.setFlight k (some { fl with arrived := min fl.plain.length (4 * (fl.arrived / 4) + 4) })) ∧
    (∃ (s : State) (lane : Fin 32) (k : Nat) (fl : Flight), s.dropWord lane.val = none ∧ s.arriving lane.val = some (k, fl) ∧ fl.stage ≠ .done ∧
      (s.lane lane.val).running ≠ some k) ∧
    (∃ (s : State) (lane : Fin 32) (k : Nat) (fl : Flight) (w : Nat) (rd : Nat) (imm : Nat), s.laneReady lane.val = some (k, fl) ∧ s.laneFetch
      lane.val (s.lane lane.val).pc = some w ∧ decodeRv w = .lui rd imm) ∧
    (∃ (s : State) (lane : Fin 32) (k : Nat) (fl : Flight) (w : Nat) (rd : Nat) (imm : Nat), s.laneReady lane.val = some (k, fl) ∧ s.laneFetch
      lane.val (s.lane lane.val).pc = some w ∧ decodeRv w = .auipc rd imm) ∧
    (∃ (s : State) (lane : Fin 32) (k : Nat) (fl : Flight) (w : Nat) (rd : Nat) (imm : Nat), s.laneReady lane.val = some (k, fl) ∧ s.laneFetch
      lane.val (s.lane lane.val).pc = some w ∧ decodeRv w = .jal rd imm ∧ ((s.lane lane.val).pc + imm) % 2 ^ 32 % 4 = 0) ∧
    (∃ (s : State) (lane : Fin 32) (k : Nat) (fl : Flight) (w : Nat) (f3 : Nat) (rs1 : Nat) (rs2 : Nat) (imm : Nat), s.laneReady lane.val = some (k,
      fl) ∧ s.laneFetch lane.val (s.lane lane.val).pc = some w ∧ decodeRv w = .branch f3 rs1 rs2 imm ∧ branchTaken f3 ((s.lane lane.val).get rs1)
      ((s.lane lane.val).get rs2) = false) ∧
    (∃ (s : State) (lane : Fin 32) (k : Nat) (fl : Flight) (w : Nat) (f3 : Nat) (rd : Nat) (rs1 : Nat) (imm : Nat) (bs : Bytes), s.laneReady
      lane.val = some (k, fl) ∧ s.laneFetch lane.val (s.lane lane.val).pc = some w ∧ decodeRv w = .load f3 rd rs1 imm ∧ ((s.lane lane.val).get rs1 +
      imm) % 2 ^ 32 % loadSize f3 = 0 ∧ s.laneLoad lane.val fl (((s.lane lane.val).get rs1 + imm) % 2 ^ 32) (loadSize f3) = .ok bs) ∧
    (∃ (s : State) (lane : Fin 32) (k : Nat) (fl : Flight) (w : Nat) (f3 : Nat) (rs1 : Nat) (rs2 : Nat) (imm : Nat), s.laneReady lane.val = some (k,
      fl) ∧ s.laneFetch lane.val (s.lane lane.val).pc = some w ∧ decodeRv w = .store f3 rs1 rs2 imm ∧ ((s.lane lane.val).get rs1 + imm) % 2 ^ 32 % 2
      ^ f3 = 0 ∧ 0x18000 ≤ ((s.lane lane.val).get rs1 + imm) % 2 ^ 32 ∧ ((s.lane lane.val).get rs1 + imm) % 2 ^ 32 + 2 ^ f3 ≤ 0x20000) ∧
    (∃ (s : State) (lane : Fin 32) (k : Nat) (fl : Flight) (w : Nat) (f3 : Nat) (alt : Bool) (rd : Nat) (rs1 : Nat) (imm : Nat), s.laneReady
      lane.val = some (k, fl) ∧ s.laneFetch lane.val (s.lane lane.val).pc = some w ∧ decodeRv w = .opImm f3 alt rd rs1 imm) ∧
    (∃ (s : State) (lane : Fin 32) (k : Nat) (fl : Flight) (w : Nat) (f3 : Nat) (alt : Bool) (rd : Nat) (rs1 : Nat) (rs2 : Nat), s.laneReady
      lane.val = some (k, fl) ∧ s.laneFetch lane.val (s.lane lane.val).pc = some w ∧ decodeRv w = .op f3 alt rd rs1 rs2) ∧
    (∃ (s : State) (lane : Fin 32) (k : Nat) (fl : Flight) (w : Nat) (f3 : Nat) (rd : Nat) (rs1 : Nat) (rs2 : Nat), s.laneReady lane.val = some (k,
      fl) ∧ s.laneFetch lane.val (s.lane lane.val).pc = some w ∧ decodeRv w = .mulDiv f3 rd rs1 rs2) ∧
    (∃ (s : State) (lane : Fin 32) (k : Nat) (fl : Flight) (w : Nat) (rd : Nat) (rs1 : Nat) (imm : Nat) (a : Nat), s.laneReady lane.val = some (k,
      fl) ∧ s.laneFetch lane.val (s.lane lane.val).pc = some w ∧ decodeRv w = .jalr rd rs1 imm ∧ a = ((s.lane lane.val).get rs1 + imm) % 2 ^ 32 / 2
      * 2 ∧ a % 4 = 0) ∧
    (∃ (s : State) (lane : Fin 32) (k : Nat) (fl : Flight) (w : Nat) (f3 : Nat) (rs1 : Nat) (rs2 : Nat) (imm : Nat) (a : Nat), s.laneReady lane.val
      = some (k, fl) ∧ s.laneFetch lane.val (s.lane lane.val).pc = some w ∧ decodeRv w = .branch f3 rs1 rs2 imm ∧ branchTaken f3 ((s.lane
      lane.val).get rs1) ((s.lane lane.val).get rs2) = true ∧ a = ((s.lane lane.val).pc + imm) % 2 ^ 32 ∧ a % 4 = 0) ∧
    (∃ (s : State) (lane : Fin 32) (k : Nat) (fl : Flight) (w : Nat) (rd : Nat) (csr : Nat), s.laneReady lane.val = some (k, fl) ∧ s.laneFetch
      lane.val (s.lane lane.val).pc = some w ∧ decodeRv w = .csrRead rd csr) ∧
    (∃ (s : State) (lane : Fin 32) (k : Nat) (fl : Flight) (w : Nat), s.laneReady lane.val = some (k, fl) ∧ s.laneFetch lane.val (s.lane
      lane.val).pc = some w ∧ decodeRv w = .fence) ∧
    (∃ (s : State) (lane : Fin 32), (s.lane lane.val).stalled = true ∧ (s.lane lane.val).effects.length < 256) ∧
    (∃ (s : State) (lane : Fin 32) (k : Nat), (s.lane lane.val).running = some k ∧ s.getF Reg.SIEV_FRAME_CYCLE_LIMIT_CYCLES ≤ (s.lane
      lane.val).cycles ∧ s.laneState lane.val = .service) :=
  ⟨by refine ⟨(((inService 0).enq (plainQ 0) { body := .order 1 }).setFlight 1 (some { body := .frame {}, stage := .lane }) : State), (0 : Fin 32),
     p_order (((((((inService 0).enq (plainQ 0) { body := .order 1 }).setFlight 1 (some { body := .frame {}, stage := .lane }) : State)).queue
     (plainQ ((0 : Fin 32)).val)).items.head?).get (by decide +kernel)), (((((((inService 0).enq (plainQ 0) { body := .order 1 }).setFlight 1 (some
     { body := .frame {}, stage := .lane }) : State)).queue (plainQ ((0 : Fin 32)).val)).items.head?).get (by decide +kernel)).poison,
     ((((((inService 0).enq (plainQ 0) { body := .order 1 }).setFlight 1 (some { body := .frame {}, stage := .lane }) : State)).flight (p_order
     (((((((inService 0).enq (plainQ 0) { body := .order 1 }).setFlight 1 (some { body := .frame {}, stage := .lane }) : State)).queue (plainQ ((0 :
     Fin 32)).val)).items.head?).get (by decide +kernel)))).get (by decide +kernel)), _, _, ?_, (Option.some_get _).symm, ?_, ?_, ?_, ?_, ?_, ?_,
     rfl, rfl⟩ <;> decide +kernel,
   ⟨((inService 0).enq (plainQ 0) { body := .words 2 } : State), (0 : Fin 32), (((((inService 0).enq (plainQ 0) { body := .words 2 } :
     State)).dropWord ((0 : Fin 32)).val).get (by decide +kernel)), (Option.some_get _).symm⟩,
   by refine ⟨(((inService 0).enq (plainQ 0) { body := .order 1 }).setFlight 1 (some { body := .frame {}, stage := .lane, plain := [0] }) : State),
     (0 : Fin 32), ((((((inService 0).enq (plainQ 0) { body := .order 1 }).setFlight 1 (some { body := .frame {}, stage := .lane, plain := [0] }) :
     State)).arriving ((0 : Fin 32)).val).get (by decide +kernel)).1, ((((((inService 0).enq (plainQ 0) { body := .order 1 }).setFlight 1 (some
     { body := .frame {}, stage := .lane, plain := [0] }) : State)).arriving ((0 : Fin 32)).val).get (by decide +kernel)).2, ?_, ?_, ?_,
     ?_⟩ <;> decide +kernel,
   by refine ⟨((((inService 0).enq (plainQ 0) { body := .order 1 }).setFlight 1 (some
     { body := .frame {}, stage := .running, plain := [0] })).setLane 0 { running := some 1 } : State), (0 : Fin 32), (((((((inService 0).enq
     (plainQ 0) { body := .order 1 }).setFlight 1 (some { body := .frame {}, stage := .running, plain := [0] })).setLane 0 { running := some 1 } :
     State)).arriving ((0 : Fin 32)).val).get (by decide +kernel)).1, (((((((inService 0).enq (plainQ 0) { body := .order 1 }).setFlight 1 (some
     { body := .frame {}, stage := .running, plain := [0] })).setLane 0 { running := some 1 } : State)).arriving ((0 : Fin 32)).val).get
     (by decide +kernel)).2, _, ?_, ?_, ?_, ?_, ?_, ?_, rfl⟩ <;> decide +kernel,
   by refine ⟨(((inService 0).enq (plainQ 0) { body := .order 1 }).setFlight 1 (some { body := .frame {}, stage := .lane, plain := [0] }) : State),
     (0 : Fin 32), ((((((inService 0).enq (plainQ 0) { body := .order 1 }).setFlight 1 (some { body := .frame {}, stage := .lane, plain := [0] }) :
     State)).arriving ((0 : Fin 32)).val).get (by decide +kernel)).1, ((((((inService 0).enq (plainQ 0) { body := .order 1 }).setFlight 1 (some
     { body := .frame {}, stage := .lane, plain := [0] }) : State)).arriving ((0 : Fin 32)).val).get (by decide +kernel)).2, ?_, ?_, ?_,
     ?_⟩ <;> decide +kernel,
   by refine ⟨(laneAt 0x11B7 : State), (0 : Fin 32), (((((laneAt 0x11B7 : State)).laneReady ((0 : Fin 32)).val).get (by decide +kernel))).1,
     (((((laneAt 0x11B7 : State)).laneReady ((0 : Fin 32)).val).get (by decide +kernel))).2, ((((laneAt 0x11B7 : State)).laneFetch ((0 : Fin
     32)).val (((laneAt 0x11B7 : State)).lane ((0 : Fin 32)).val).pc).get (by decide +kernel)), (3 : Nat), (0x1000 : Nat), ?_, ?_,
     ?_⟩ <;> decide +kernel,
   by refine ⟨(laneAt 0x1197 : State), (0 : Fin 32), (((((laneAt 0x1197 : State)).laneReady ((0 : Fin 32)).val).get (by decide +kernel))).1,
     (((((laneAt 0x1197 : State)).laneReady ((0 : Fin 32)).val).get (by decide +kernel))).2, ((((laneAt 0x1197 : State)).laneFetch ((0 : Fin
     32)).val (((laneAt 0x1197 : State)).lane ((0 : Fin 32)).val).pc).get (by decide +kernel)), (3 : Nat), (0x1000 : Nat), ?_, ?_,
     ?_⟩ <;> decide +kernel,
   by refine ⟨(laneAt 0x8001EF : State), (0 : Fin 32), (((((laneAt 0x8001EF : State)).laneReady ((0 : Fin 32)).val).get (by decide +kernel))).1,
     (((((laneAt 0x8001EF : State)).laneReady ((0 : Fin 32)).val).get (by decide +kernel))).2, ((((laneAt 0x8001EF : State)).laneFetch ((0 : Fin
     32)).val (((laneAt 0x8001EF : State)).lane ((0 : Fin 32)).val).pc).get (by decide +kernel)), (3 : Nat), (8 : Nat), ?_, ?_, ?_,
     ?_⟩ <;> decide +kernel,
   by refine ⟨(laneAt 0x8463 : State), (0 : Fin 32), (((((laneAt 0x8463 : State)).laneReady ((0 : Fin 32)).val).get (by decide +kernel))).1,
     (((((laneAt 0x8463 : State)).laneReady ((0 : Fin 32)).val).get (by decide +kernel))).2, ((((laneAt 0x8463 : State)).laneFetch ((0 : Fin
     32)).val (((laneAt 0x8463 : State)).lane ((0 : Fin 32)).val).pc).get (by decide +kernel)), (0 : Nat), (1 : Nat), (0 : Nat), (8 : Nat), ?_, ?_,
     ?_, ?_⟩ <;> decide +kernel,
   by refine ⟨(laneAt 0xC183 : State), (0 : Fin 32), (((((laneAt 0xC183 : State)).laneReady ((0 : Fin 32)).val).get (by decide +kernel))).1,
     (((((laneAt 0xC183 : State)).laneReady ((0 : Fin 32)).val).get (by decide +kernel))).2, ((((laneAt 0xC183 : State)).laneFetch ((0 : Fin
     32)).val (((laneAt 0xC183 : State)).lane ((0 : Fin 32)).val).pc).get (by decide +kernel)), (4 : Nat), (3 : Nat), (1 : Nat), (0 : Nat), okOf
     (((laneAt 0xC183 : State)).laneLoad ((0 : Fin 32)).val ((((((laneAt 0xC183 : State)).laneReady ((0 : Fin 32)).val).get (by decide +kernel))).2)
     (((((laneAt 0xC183 : State)).lane ((0 : Fin 32)).val).get ((1 : Nat)) + ((0 : Nat))) % 2 ^ 32) (loadSize ((4 : Nat)))), ?_, ?_, ?_, ?_,
     ?_⟩ <;> decide +kernel,
   by refine ⟨(laneAt 0x110023 : State), (0 : Fin 32), (((((laneAt 0x110023 : State)).laneReady ((0 : Fin 32)).val).get (by decide +kernel))).1,
     (((((laneAt 0x110023 : State)).laneReady ((0 : Fin 32)).val).get (by decide +kernel))).2, ((((laneAt 0x110023 : State)).laneFetch ((0 : Fin
     32)).val (((laneAt 0x110023 : State)).lane ((0 : Fin 32)).val).pc).get (by decide +kernel)), (0 : Nat), (2 : Nat), (1 : Nat), (0 : Nat), ?_,
     ?_, ?_, ?_, ?_, ?_⟩ <;> decide +kernel,
   by refine ⟨(laneAt 0x108193 : State), (0 : Fin 32), (((((laneAt 0x108193 : State)).laneReady ((0 : Fin 32)).val).get (by decide +kernel))).1,
     (((((laneAt 0x108193 : State)).laneReady ((0 : Fin 32)).val).get (by decide +kernel))).2, ((((laneAt 0x108193 : State)).laneFetch ((0 : Fin
     32)).val (((laneAt 0x108193 : State)).lane ((0 : Fin 32)).val).pc).get (by decide +kernel)), (0 : Nat), (false : Bool), (3 : Nat), (1 : Nat),
     (1 : Nat), ?_, ?_, ?_⟩ <;> decide +kernel,
   by refine ⟨(laneAt 0x2081B3 : State), (0 : Fin 32), (((((laneAt 0x2081B3 : State)).laneReady ((0 : Fin 32)).val).get (by decide +kernel))).1,
     (((((laneAt 0x2081B3 : State)).laneReady ((0 : Fin 32)).val).get (by decide +kernel))).2, ((((laneAt 0x2081B3 : State)).laneFetch ((0 : Fin
     32)).val (((laneAt 0x2081B3 : State)).lane ((0 : Fin 32)).val).pc).get (by decide +kernel)), (0 : Nat), (false : Bool), (3 : Nat), (1 : Nat),
     (2 : Nat), ?_, ?_, ?_⟩ <;> decide +kernel,
   by refine ⟨(laneAt 0x22081B3 : State), (0 : Fin 32), (((((laneAt 0x22081B3 : State)).laneReady ((0 : Fin 32)).val).get (by decide +kernel))).1,
     (((((laneAt 0x22081B3 : State)).laneReady ((0 : Fin 32)).val).get (by decide +kernel))).2, ((((laneAt 0x22081B3 : State)).laneFetch ((0 : Fin
     32)).val (((laneAt 0x22081B3 : State)).lane ((0 : Fin 32)).val).pc).get (by decide +kernel)), (0 : Nat), (3 : Nat), (1 : Nat), (2 : Nat), ?_,
     ?_, ?_⟩ <;> decide +kernel,
   by refine ⟨(laneAt 0x81E7 : State), (0 : Fin 32), ((((laneAt 0x81E7 : State)).laneReady ((0 : Fin 32)).val).get (by decide +kernel)).1,
     ((((laneAt 0x81E7 : State)).laneReady ((0 : Fin 32)).val).get (by decide +kernel)).2, ((((laneAt 0x81E7 : State)).laneFetch ((0 : Fin 32)).val
     (((laneAt 0x81E7 : State)).lane ((0 : Fin 32)).val).pc).get (by decide +kernel)), (3 : Nat), (1 : Nat), (0 : Nat), _, ?_, (Option.some_get
     _).symm, ?_, rfl, ?_⟩ <;> decide +kernel,
   by refine ⟨(laneAt 0x463 : State), (0 : Fin 32), ((((laneAt 0x463 : State)).laneReady ((0 : Fin 32)).val).get (by decide +kernel)).1, ((((laneAt
     0x463 : State)).laneReady ((0 : Fin 32)).val).get (by decide +kernel)).2, ((((laneAt 0x463 : State)).laneFetch ((0 : Fin 32)).val (((laneAt
     0x463 : State)).lane ((0 : Fin 32)).val).pc).get (by decide +kernel)), (0 : Nat), (0 : Nat), (0 : Nat), (8 : Nat), _, ?_, (Option.some_get
     _).symm, ?_, ?_, rfl, ?_⟩ <;> decide +kernel,
   by refine ⟨(laneAt 0xC00021F3 : State), (0 : Fin 32), ((((laneAt 0xC00021F3 : State)).laneReady ((0 : Fin 32)).val).get (by decide +kernel)).1,
     ((((laneAt 0xC00021F3 : State)).laneReady ((0 : Fin 32)).val).get (by decide +kernel)).2, ((((laneAt 0xC00021F3 : State)).laneFetch ((0 : Fin
     32)).val (((laneAt 0xC00021F3 : State)).lane ((0 : Fin 32)).val).pc).get (by decide +kernel)), (3 : Nat), 0xC00, ?_, (Option.some_get _).symm,
     ?_⟩ <;> decide +kernel,
   by refine ⟨(laneAt 0x0F : State), (0 : Fin 32), ((((laneAt 0x0F : State)).laneReady ((0 : Fin 32)).val).get (by decide +kernel)).1, ((((laneAt
     0x0F : State)).laneReady ((0 : Fin 32)).val).get (by decide +kernel)).2, ((((laneAt 0x0F : State)).laneFetch ((0 : Fin 32)).val (((laneAt 0x0F
     : State)).lane ((0 : Fin 32)).val).pc).get (by decide +kernel)), ?_, (Option.some_get _).symm, ?_⟩ <;> decide +kernel,
   by refine ⟨((inService 0).setLane 0 { stalled := true } : State), (0 : Fin 32), ?_, ?_⟩ <;> decide +kernel,
   by refine ⟨((inService 0).setLane 0 { running := some 1, cycles := 2 ^ 32 } : State), (0 : Fin 32), ((((((inService 0).setLane 0
     { running := some 1, cycles := 2 ^ 32 } : State)).lane ((0 : Fin 32)).val).running).get (by decide +kernel)), ?_, ?_, ?_⟩ <;> decide +kernel⟩

/-- Each clause of SieveInstructionsComplete is met. -/
theorem witness_SieveInstructionsComplete :
    (∃ (s : State) (lane : Fin 32) (k : Nat) (fl : Flight) (rd : Nat) (rs1 : Nat) (b0 : Bytes), s.atSieve lane.val = some (k, fl, .axlen rd rs1) ∧
      s.frameLoad lane.val fl ((s.lane lane.val).get rs1) 1 = .ok b0 ∧ axdrExtra (beNat b0) = some 0) ∧
    (∃ (s : State) (lane : Fin 32) (k : Nat) (fl : Flight) (rd : Nat) (rs1 : Nat) (x : Nat) (b0 : Bytes) (bs : Bytes), s.atSieve lane.val = some (k,
      fl, .axlen rd rs1) ∧ s.frameLoad lane.val fl ((s.lane lane.val).get rs1) 1 = .ok b0 ∧ axdrExtra (beNat b0) = some x ∧ x ≠ 0 ∧ s.frameLoad
      lane.val fl ((s.lane lane.val).get rs1) (1 + x) = .ok bs) ∧
    (∃ (s : State) (lane : Fin 32) (k : Nat) (fl : Flight) (rd : Nat) (rs1 : Nat), s.atSieve lane.val = some (k, fl, .tariff rd rs1)) ∧
    (∃ (s : State) (lane : Fin 32) (k : Nat) (fl : Flight) (rd : Nat) (rs1 : Nat) (rs2 : Nat) (bs : Bytes), s.atSieve lane.val = some (k, fl, .cdate
      rd rs1 rs2) ∧ s.frameLoad lane.val fl ((s.lane lane.val).get rs1) 12 = .ok bs) ∧
    (∃ (s : State) (lane : Fin 32) (k : Nat) (fl : Flight) (rs1 : Nat) (rs2 : Nat), s.atSieve lane.val = some (k, fl, .eevt rs1 rs2) ∧ ((s.lane
      lane.val).effectsOf k).length < 64 ∧ (s.lane lane.val).effects.length < 256) ∧
    (∃ (s : State) (lane : Fin 32) (k : Nat) (fl : Flight) (rs1 : Nat) (v : LaneVerdict), s.atSieve lane.val = some (k, fl, .verd rs1) ∧ verdictOf
      ((s.lane lane.val).get rs1) = some v ∧ (s.lane lane.val).cycles + 1 < s.getF Reg.SIEV_FRAME_CYCLE_LIMIT_CYCLES) ∧
    (∃ (s : State) (lane : Fin 32) (k : Nat) (fl : Flight) (rd : Nat) (rs1 : Nat) (imm : Nat) (bs : Bytes), s.atSieve lane.val = some (k, fl, .ldbeH
      rd rs1 imm) ∧ s.laneLoad lane.val fl (((s.lane lane.val).get rs1 + imm) % 2 ^ 32) 2 = .ok bs) ∧
    (∃ (s : State) (lane : Fin 32) (k : Nat) (fl : Flight) (rd : Nat) (rs1 : Nat) (imm : Nat) (bs : Bytes), s.atSieve lane.val = some (k, fl, .ldbeW
      rd rs1 imm) ∧ s.laneLoad lane.val fl (((s.lane lane.val).get rs1 + imm) % 2 ^ 32) 4 = .ok bs) ∧
    (∃ (s : State) (lane : Fin 32) (k : Nat) (fl : Flight) (rs1 : Nat) (rs2 : Nat) (imm : Nat), s.atSieve lane.val = some (k, fl, .ewr rs1 rs2 imm)
      ∧ ((s.lane lane.val).effectsOf k).length < 64 ∧ (s.lane lane.val).effects.length < 256 ∧ ((s.lane lane.val).get rs1 + imm) % 2 ^ 32 ≤ 0x3FF ∧
      ((s.lane lane.val).get rs1 + imm) % 2 ^ 32 % 4 = 0 ∧ s.wmaskDenies (((s.lane lane.val).get rs1 + imm) % 2 ^ 32) = false) ∧
    (∃ (s : State) (lane : Fin 32) (k : Nat) (fl : Flight) (rs1 : Nat) (rs2 : Nat) (rs3 : Nat), s.atSieve lane.val = some (k, fl, .eadd rs1 rs2 rs3)
      ∧ ((s.lane lane.val).effectsOf k).length < 64 ∧ (s.lane lane.val).effects.length < 256 ∧ (s.lane lane.val).get rs1 ≤ 0x3FF ∧ (s.lane
      lane.val).get rs1 % 8 = 0 ∧ s.wmaskDenies ((s.lane lane.val).get rs1) = false) ∧
    (∃ (s : State) (lane : Fin 32) (k : Nat) (fl : Flight) (rs1 : Nat) (rs2 : Nat) (rs3 : Nat), s.atSieve lane.val = some (k, fl, .emax rs1 rs2 rs3)
      ∧ ((s.lane lane.val).effectsOf k).length < 64 ∧ (s.lane lane.val).effects.length < 256 ∧ (s.lane lane.val).get rs1 ≤ 0x3FF ∧ (s.lane
      lane.val).get rs1 % 8 = 0 ∧ s.wmaskDenies ((s.lane lane.val).get rs1) = false) ∧
    (∃ (s : State) (lane : Fin 32) (k : Nat) (fl : Flight) (rs1 : Nat) (rs2 : Nat) (rs3 : Nat), s.atSieve lane.val = some (k, fl, .ebalImp rs1 rs2
      rs3) ∧ ((s.lane lane.val).effectsOf k).length < 64 ∧ (s.lane lane.val).effects.length < 256) ∧
    (∃ (s : State) (lane : Fin 32) (k : Nat) (fl : Flight) (rs1 : Nat) (rs2 : Nat) (rs3 : Nat), s.atSieve lane.val = some (k, fl, .ebalExp rs1 rs2
      rs3) ∧ ((s.lane lane.val).effectsOf k).length < 64 ∧ (s.lane lane.val).effects.length < 256) ∧
    (∃ (s : State) (lane : Fin 32) (k : Nat) (fl : Flight) (rs1 : Nat) (rs2 : Nat) (rs3 : Nat), s.atSieve lane.val = some (k, fl, .ebalVolt rs1 rs2
      rs3) ∧ ((s.lane lane.val).effectsOf k).length < 64 ∧ (s.lane lane.val).effects.length < 256) :=
  ⟨by refine ⟨(laneAt 0x818B : State), (0 : Fin 32), (((((laneAt 0x818B : State)).atSieve ((0 : Fin 32)).val).get (by decide +kernel))).1,
     (((((laneAt 0x818B : State)).atSieve ((0 : Fin 32)).val).get (by decide +kernel))).2.1, (3 : Nat), (1 : Nat), okOf (((laneAt 0x818B :
     State)).frameLoad ((0 : Fin 32)).val ((((((laneAt 0x818B : State)).atSieve ((0 : Fin 32)).val).get (by decide +kernel))).2.1) ((((laneAt 0x818B
     : State)).lane ((0 : Fin 32)).val).get ((1 : Nat))) 1), ?_, ?_, ?_⟩ <;> decide +kernel,
   by refine ⟨(laneAt 0x2018B : State), (0 : Fin 32), (((((laneAt 0x2018B : State)).atSieve ((0 : Fin 32)).val).get (by decide +kernel))).1,
     (((((laneAt 0x2018B : State)).atSieve ((0 : Fin 32)).val).get (by decide +kernel))).2.1, (3 : Nat), (4 : Nat), (1 : Nat), okOf (((laneAt
     0x2018B : State)).frameLoad ((0 : Fin 32)).val ((((((laneAt 0x2018B : State)).atSieve ((0 : Fin 32)).val).get (by decide +kernel))).2.1)
     ((((laneAt 0x2018B : State)).lane ((0 : Fin 32)).val).get ((4 : Nat))) 1), okOf (((laneAt 0x2018B : State)).frameLoad ((0 : Fin 32)).val
     ((((((laneAt 0x2018B : State)).atSieve ((0 : Fin 32)).val).get (by decide +kernel))).2.1) ((((laneAt 0x2018B : State)).lane ((0 : Fin
     32)).val).get ((4 : Nat))) (1 + ((1 : Nat)))), ?_, ?_, ?_, ?_, ?_⟩ <;> decide +kernel,
   ⟨(laneAt 0x200818B : State), (0 : Fin 32), (((((laneAt 0x200818B : State)).atSieve ((0 : Fin 32)).val).get (by decide +kernel))).1, (((((laneAt
     0x200818B : State)).atSieve ((0 : Fin 32)).val).get (by decide +kernel))).2.1, (3 : Nat), (1 : Nat), by decide +kernel⟩,
   by refine ⟨(laneAt 0x420818B : State), (0 : Fin 32), (((((laneAt 0x420818B : State)).atSieve ((0 : Fin 32)).val).get (by decide +kernel))).1,
     (((((laneAt 0x420818B : State)).atSieve ((0 : Fin 32)).val).get (by decide +kernel))).2.1, (3 : Nat), (1 : Nat), (2 : Nat), okOf (((laneAt
     0x420818B : State)).frameLoad ((0 : Fin 32)).val ((((((laneAt 0x420818B : State)).atSieve ((0 : Fin 32)).val).get (by decide +kernel))).2.1)
     ((((laneAt 0x420818B : State)).lane ((0 : Fin 32)).val).get ((1 : Nat))) 12), ?_, ?_⟩ <;> decide +kernel,
   by refine ⟨(laneAt 0x620800B : State), (0 : Fin 32), (((((laneAt 0x620800B : State)).atSieve ((0 : Fin 32)).val).get (by decide +kernel))).1,
     (((((laneAt 0x620800B : State)).atSieve ((0 : Fin 32)).val).get (by decide +kernel))).2.1, (1 : Nat), (2 : Nat), ?_, ?_, ?_⟩ <;> decide +kernel,
   by refine ⟨(laneAt 0x800000B : State), (0 : Fin 32), (((((laneAt 0x800000B : State)).atSieve ((0 : Fin 32)).val).get (by decide +kernel))).1,
     (((((laneAt 0x800000B : State)).atSieve ((0 : Fin 32)).val).get (by decide +kernel))).2.1, (0 : Nat), (.accept : LaneVerdict), ?_, ?_,
     ?_⟩ <;> decide +kernel,
   by refine ⟨(laneAt 0x918B : State), (0 : Fin 32), (((((laneAt 0x918B : State)).atSieve ((0 : Fin 32)).val).get (by decide +kernel))).1,
     (((((laneAt 0x918B : State)).atSieve ((0 : Fin 32)).val).get (by decide +kernel))).2.1, (3 : Nat), (1 : Nat), (0 : Nat), okOf (((laneAt 0x918B
     : State)).laneLoad ((0 : Fin 32)).val ((((((laneAt 0x918B : State)).atSieve ((0 : Fin 32)).val).get (by decide +kernel))).2.1) (((((laneAt
     0x918B : State)).lane ((0 : Fin 32)).val).get ((1 : Nat)) + ((0 : Nat))) % 2 ^ 32) 2), ?_, ?_⟩ <;> decide +kernel,
   by refine ⟨(laneAt 0xA18B : State), (0 : Fin 32), (((((laneAt 0xA18B : State)).atSieve ((0 : Fin 32)).val).get (by decide +kernel))).1,
     (((((laneAt 0xA18B : State)).atSieve ((0 : Fin 32)).val).get (by decide +kernel))).2.1, (3 : Nat), (1 : Nat), (0 : Nat), okOf (((laneAt 0xA18B
     : State)).laneLoad ((0 : Fin 32)).val ((((((laneAt 0xA18B : State)).atSieve ((0 : Fin 32)).val).get (by decide +kernel))).2.1) (((((laneAt
     0xA18B : State)).lane ((0 : Fin 32)).val).get ((1 : Nat)) + ((0 : Nat))) % 2 ^ 32) 4), ?_, ?_⟩ <;> decide +kernel,
   by refine
     ⟨({ laneAt 0x2b00b with regs := (((laneAt 0x2b00b).setF Reg.SIEV_REC_WMASK_LINES 0xFFFF)).regs, lanes := [(0, { running := some 1, regs := [(5, 0x100)] })] }
     : State), (0 : Fin 32),
     ((((({ laneAt 0x2b00b with regs := (((laneAt 0x2b00b).setF Reg.SIEV_REC_WMASK_LINES 0xFFFF)).regs, lanes := [(0, { running := some 1, regs := [(5, 0x100)] })] }
     : State)).atSieve ((0 : Fin 32)).val).get (by decide +kernel))).1,
     ((((({ laneAt 0x2b00b with regs := (((laneAt 0x2b00b).setF Reg.SIEV_REC_WMASK_LINES 0xFFFF)).regs, lanes := [(0, { running := some 1, regs := [(5, 0x100)] })] }
     : State)).atSieve ((0 : Fin 32)).val).get (by decide +kernel))).2.1, (5 : Nat), (0 : Nat), (0 : Nat), ?_, ?_, ?_, ?_, ?_,
     ?_⟩ <;> decide +kernel,
   by refine
     ⟨({ laneAt 0x2802b with regs := (((laneAt 0x2802b).setF Reg.SIEV_REC_WMASK_LINES 0xFFFF)).regs, lanes := [(0, { running := some 1, regs := [(5, 0x100)] })] }
     : State), (0 : Fin 32),
     ((((({ laneAt 0x2802b with regs := (((laneAt 0x2802b).setF Reg.SIEV_REC_WMASK_LINES 0xFFFF)).regs, lanes := [(0, { running := some 1, regs := [(5, 0x100)] })] }
     : State)).atSieve ((0 : Fin 32)).val).get (by decide +kernel))).1,
     ((((({ laneAt 0x2802b with regs := (((laneAt 0x2802b).setF Reg.SIEV_REC_WMASK_LINES 0xFFFF)).regs, lanes := [(0, { running := some 1, regs := [(5, 0x100)] })] }
     : State)).atSieve ((0 : Fin 32)).val).get (by decide +kernel))).2.1, (5 : Nat), (0 : Nat), (0 : Nat), ?_, ?_, ?_, ?_, ?_,
     ?_⟩ <;> decide +kernel,
   by refine
     ⟨({ laneAt 0x2902b with regs := (((laneAt 0x2902b).setF Reg.SIEV_REC_WMASK_LINES 0xFFFF)).regs, lanes := [(0, { running := some 1, regs := [(5, 0x100)] })] }
     : State), (0 : Fin 32),
     ((((({ laneAt 0x2902b with regs := (((laneAt 0x2902b).setF Reg.SIEV_REC_WMASK_LINES 0xFFFF)).regs, lanes := [(0, { running := some 1, regs := [(5, 0x100)] })] }
     : State)).atSieve ((0 : Fin 32)).val).get (by decide +kernel))).1,
     ((((({ laneAt 0x2902b with regs := (((laneAt 0x2902b).setF Reg.SIEV_REC_WMASK_LINES 0xFFFF)).regs, lanes := [(0, { running := some 1, regs := [(5, 0x100)] })] }
     : State)).atSieve ((0 : Fin 32)).val).get (by decide +kernel))).2.1, (5 : Nat), (0 : Nat), (0 : Nat), ?_, ?_, ?_, ?_, ?_,
     ?_⟩ <;> decide +kernel,
   by refine ⟨(laneAt 0x202b : State), (0 : Fin 32), (((((laneAt 0x202b : State)).atSieve ((0 : Fin 32)).val).get (by decide +kernel))).1,
     (((((laneAt 0x202b : State)).atSieve ((0 : Fin 32)).val).get (by decide +kernel))).2.1, (0 : Nat), (0 : Nat), (0 : Nat), ?_, ?_,
     ?_⟩ <;> decide +kernel,
   by refine ⟨(laneAt 0x200202b : State), (0 : Fin 32), (((((laneAt 0x200202b : State)).atSieve ((0 : Fin 32)).val).get (by decide +kernel))).1,
     (((((laneAt 0x200202b : State)).atSieve ((0 : Fin 32)).val).get (by decide +kernel))).2.1, (0 : Nat), (0 : Nat), (0 : Nat), ?_, ?_,
     ?_⟩ <;> decide +kernel,
   by refine ⟨(laneAt 0x400202b : State), (0 : Fin 32), (((((laneAt 0x400202b : State)).atSieve ((0 : Fin 32)).val).get (by decide +kernel))).1,
     (((((laneAt 0x400202b : State)).atSieve ((0 : Fin 32)).val).get (by decide +kernel))).2.1, (0 : Nat), (0 : Nat), (0 : Nat), ?_, ?_,
     ?_⟩ <;> decide +kernel⟩

/-- Each clause of LaneControlCommandsComplete is met. -/
theorem witness_LaneControlCommandsComplete :
    (∃ (s : State) (lane : Fin 32), s.flag Reg.SIEV_CTRL_KAT_EN = true ∧ s.laneState lane.val = .service ∧ (s.lane lane.val).running = none ∧
      (s.lane lane.val).katAt < katPeriod lane.val s.tb1) ∧
    (∃ (s : State) (lane : Fin 32), s.laneState lane.val = .service ∧ (s.lane lane.val).running.isSome = true ∧ (s.lane lane.val).waiting = none ∧
      (s.lane lane.val).retiredAt + s.getF Reg.SIEV_WDOG_US * 1000 ≤ s.tb1) ∧
    (∃ (s : State) (lane : Fin 32) (off : BitVec 17), (s.laneState lane.val = .service ∨ s.laneState lane.val = .maint)) ∧
    (∃ (s : State) (req : Req) (lane : Fin 32), TakesT s req (Reg.LANE_CTRL_FENCE lane.val) ∧ (s.laneState lane.val = .service ∨ s.laneState
      lane.val = .maint)) ∧
    (∃ (s : State) (req : Req) (lane : Fin 32), TakesT s req (Reg.LANE_CTRL_FENCE lane.val) ∧ s.laneState lane.val = .fenced) ∧
    (∃ (s : State) (lane : Fin 32), s.laneState lane.val = .selftest) ∧
    (∃ (s : State) (req : Req) (lane : Fin 32), TakesT s req (Reg.LANE_CTRL_MAINT lane.val) ∧ s.laneState lane.val = .maint ∧ s.loaded lane.val
      (s.getF Reg.SIEV_PROG_SWITCH_BANK) = true ∧ (s.lanesIn .service).isEmpty = true) ∧
    (∃ (s : State) (req : Req) (lane : Fin 32), TakesT s req (Reg.LANE_CTRL_MAINT lane.val) ∧ s.laneState lane.val = .service ∧ s.hasGroup lane.val
      = false ∧ s.laneBusy lane.val = false) ∧
    (∃ (s : State) (req : Req) (lane : Fin 32), TakesT s req (Reg.LANE_CTRL_MAINT lane.val) ∧ s.laneState lane.val = .service ∧ (s.hasGroup lane.val
      = true ∨ s.laneBusy lane.val = true)) ∧
    (∃ (s : State) (lane : Fin 32), s.laneState lane.val = .off) ∧
    (∃ (s : State) (lane : Fin 32), (s.laneState lane.val = .maint ∨ s.laneState lane.val = .fenced)) ∧
    (∃ (s : State) (lane : Fin 32), s.mode = .tending ∧ s.laneState lane.val = .service ∧ s.keptLanes.contains lane.val = false ∧ s.hasGroup
      lane.val = false ∧ (s.lane lane.val).running = none) ∧
    (∃ (s : State) (req : Req) (lane : Fin 32) (off : BitVec 17) (data : Bytes), Takes s req (0x40 + lane.val) (0) ∧ 0x18000 ≤ off.toNat) ∧
    (∃ (s : State) (req : Req) (lane : Fin 32) (off : BitVec 17) (data : Bytes), Takes s req (0x40 + lane.val) (0) ∧ (off.toNat < 0x4000 ∨ 0x10000 ≤
      off.toNat ∧ off.toNat < 0x14000) ∧ s.bankInUse lane.val 0 = false) ∧
    (∃ (s : State) (req : Req) (lane : Fin 32) (off : BitVec 17) (data : Bytes), Takes s req (0x40 + lane.val) (0) ∧ (0x4000 ≤ off.toNat ∧ off.toNat
      < 0x8000 ∨ 0x14000 ≤ off.toNat ∧ off.toNat < 0x18000) ∧ s.bankInUse lane.val 1 = false) ∧
    (∃ (s : State) (req : Req) (lane : Fin 32) (data : Word), TakesA s req (Reg.LANE_PROG_CTRL_SEAL lane.val) data.toNat) ∧
    (∃ (s : State) (lane : Fin 32), (s.lane lane.val).sealing = some 0) ∧
    (∃ (s : State) (lane : Fin 32), (s.lane lane.val).sealing = some 1) ∧
    (∃ (s : State) (req : Req), TakesF s req Reg.SIEV_LANEMAP_CTRL_INIT ∧ s.flag Reg.FUNL_CTRL_ENABLE = false) ∧
    (∃ (s : State) (req : Req) (target : Fin 32), TakesF s req Reg.SIEV_LANEMAP_DATA_LANE ∧ s.laneState target.val = .service ∧ (s.mapEntry (s.getF
      Reg.SIEV_LANEMAP_SEL_GROUP)).src = none ∧ s.movingGroups.length < 64) ∧
    (∃ (s : State) (meter : BitVec 20) (o : Nat), (s.mapEntry (meter.toNat / 16)).src = some o ∧ bitAt (s.mapEntry (meter.toNat / 16)).moved
      (meter.toNat % 16) = 0 ∧ s.meterInFlight meter.toNat = false ∧ (s.mapEntry (meter.toNat / 16)).moved + 2 ^ (meter.toNat % 16) ≠ 0xFFFF) ∧
    (∃ (s : State) (meter : BitVec 20) (o : Nat), (s.mapEntry (meter.toNat / 16)).src = some o ∧ bitAt (s.mapEntry (meter.toNat / 16)).moved
      (meter.toNat % 16) = 0 ∧ s.meterInFlight meter.toNat = false ∧ (s.mapEntry (meter.toNat / 16)).moved + 2 ^ (meter.toNat % 16) = 0xFFFF) :=
  ⟨by refine ⟨({ (inService 0).setF Reg.SIEV_CTRL_KAT_EN 1 with tb1 := 20000000 } : State), (0 : Fin 32), ?_, ?_, ?_, ?_⟩ <;> decide +kernel,
   by refine ⟨({ (inService 0).setLane 0 { running := some 1 } with tb1 := 90000000000 } : State), (0 : Fin 32), ?_, ?_, ?_, ?_⟩ <;> decide +kernel,
   ⟨(inService 0 : State), (0 : Fin 32), (5 : BitVec 17), by decide +kernel⟩,
   by refine ⟨(inService 0 : State), (.trusted : Req), (0 : Fin 32), ?_, ?_⟩ <;> decide +kernel,
   by refine ⟨(up.setLaneState 0 .fenced : State), (.trusted : Req), (0 : Fin 32), ?_, ?_⟩ <;> decide +kernel,
   ⟨(up.setLaneState 0 .selftest : State), (0 : Fin 32), by decide +kernel⟩,
   by refine ⟨((up.setLaneState 0 .maint).setF (Reg.LANE_STAT_LOADED_A 0) 1 : State), (.trusted : Req), (0 : Fin 32), ?_, ?_, ?_,
     ?_⟩ <;> decide +kernel,
   by refine ⟨crowded (inService 0), .trusted, 0, ?_, ?_, crowded_free _ (by decide), ?_⟩ <;> decide +kernel,
   by refine ⟨(inService 0 : State), (.trusted : Req), (0 : Fin 32), ?_, ?_, ?_⟩ <;> decide +kernel,
   ⟨(up.setLaneState 0 .off : State), (0 : Fin 32), by decide +kernel⟩,
   ⟨(up.setLaneState 0 .maint : State), (0 : Fin 32), by decide +kernel⟩,
   by refine ⟨crowded (sets ((upIn 3).setLaneState 0 .service) [(Reg.PWR_TEND_CFG_LANES, 0)]), 0, ?_, ?_, ?_, crowded_free _ (by decide),
     ?_⟩ <;> decide +kernel,
   by refine ⟨up, (.trusted : Req), (0 : Fin 32), (0x18000 : BitVec 17), ([1] : Bytes), ?_, ?_⟩ <;> decide +kernel,
   by refine ⟨(up.setLaneState 0 .maint : State), (.trusted : Req), (0 : Fin 32), (0 : BitVec 17), ([1] : Bytes), ?_, ?_, ?_⟩ <;> decide +kernel,
   by refine ⟨(up.setLaneState 0 .maint : State), (.trusted : Req), (0 : Fin 32), (0x4000 : BitVec 17), ([1] : Bytes), ?_, ?_,
     ?_⟩ <;> decide +kernel,
   ⟨up, (.trusted : Req), (0 : Fin 32), (2 : Word), by decide +kernel⟩,
   ⟨(up.setLane 0 { sealing := some 0 } : State), (0 : Fin 32), by decide +kernel⟩,
   ⟨(up.setLane 0 { sealing := some 1 } : State), (0 : Fin 32), by decide +kernel⟩,
   by refine ⟨up, (.trusted : Req), ?_, ?_⟩ <;> decide +kernel,
   by refine ⟨(inService 3 : State), (.trusted : Req), (3 : Fin 32), ?_, ?_, ?_, ?_⟩ <;> decide +kernel,
   by refine ⟨(up.setMap 0 { lane := 1, src := some 0 } : State), (1 : BitVec 20), (0 : Nat), ?_, ?_, ?_, ?_⟩ <;> decide +kernel,
   by refine ⟨(up.setMap 0 { lane := 1, src := some 0, moved := 0x7FFF } : State), (15 : BitVec 20), (0 : Nat), ?_, ?_, ?_, ?_⟩ <;> decide +kernel⟩

/-- Each clause of LadleCommandsComplete is met. -/
theorem witness_LadleCommandsComplete :
    (∃ (s : State) (v : Verdict) (r : List Verdict) (fl : Flight), s.verdicts = v :: r ∧ v.late = false ∧ s.flight v.order = some fl) ∧
    (∃ (s : State) (v : Verdict) (r : List Verdict), s.verdicts = v :: r ∧ v.late = true) ∧
    (∃ (s : State) (n : Nat) (v : TagVerdict) (fl : Flight), (s.queue 0x89).items.head? = some ⟨.tag n v, 0⟩ ∧ s.flight n = some fl ∧ v ≠ .poison ∧
      v ≠ .revoked) ∧
    (∃ (s : State) (a : Bool) (b : Bool) (fl : Flight) (o : Ordered), s.flag Reg.LADL_CTRL_ENABLE = true ∧ s.flag Reg.LADL_STAT_RECOVERING = false ∧
      s.flag Reg.FTL_STAT_MOUNTED = true ∧ s.copyFirst = false ∧ s.domOn .mem = true ∧ s.flight s.commitNext = some fl ∧ fl.body = .ordered o ∧
      s.itemWaits o = false ∧ s.commitCredit o = true) ∧
    (∃ (s : State) (u : State) (fl : Flight) (f : Frame), s.flag Reg.LADL_CTRL_ENABLE = true ∧ s.flag Reg.LADL_STAT_RECOVERING = false ∧ s.flag
      Reg.FTL_STAT_MOUNTED = true ∧ s.copyFirst = false ∧ s.domOn .mem = true ∧ s.flight s.commitNext = some fl ∧ fl.body = .frame f ∧ u =
      s.eccCorrect (recordAddr f.meter) 1024 ∧ fl.tagV = some .pass ∧ fl.laneV = some .accept ∧ u.counterCheck f = 0 ∧ effectsCrc ((u.lane
      fl.lane).effectsOf s.commitNext) = fl.crc ∧ u.hasCredit 0x118 = true ∧ u.learnRoom f = true ∧ (u.flag Reg.BILL_CTRL_ENABLE = false ∨
      u.frameTokenLocked fl = false)) ∧
    (∃ (s : State) (u : State) (fl : Flight) (f : Frame) (v : LaneVerdict) (b : Bool), s.flag Reg.LADL_CTRL_ENABLE = true ∧ s.flag
      Reg.LADL_STAT_RECOVERING = false ∧ s.flag Reg.FTL_STAT_MOUNTED = true ∧ s.copyFirst = false ∧ s.domOn .mem = true ∧ s.flight s.commitNext =
      some fl ∧ fl.body = .frame f ∧ u = s.eccCorrect (recordAddr f.meter) 1024 ∧ fl.tagV = some .fail ∧ fl.laneV = some v) ∧
    (∃ (s : State) (u : State) (fl : Flight) (f : Frame) (b : Bool), s.flag Reg.LADL_CTRL_ENABLE = true ∧ s.flag Reg.LADL_STAT_RECOVERING = false ∧
      s.flag Reg.FTL_STAT_MOUNTED = true ∧ s.copyFirst = false ∧ s.domOn .mem = true ∧ s.flight s.commitNext = some fl ∧ fl.body = .frame f ∧ u =
      s.eccCorrect (recordAddr f.meter) 1024 ∧ fl.tagV = some .noKey ∧ (fl.laneV.isSome = true ∨ fl.inLane = false)) ∧
    (∃ (s : State) (t : State) (c : CommitItem), s.flag Reg.FTL_STAT_MOUNTED = true ∧ (s.queue 0x118).items.head? = some ⟨.commit c, 0⟩ ∧
      s.path.shadow.contains (.commit c) = true ∧ t = (s.popped 0x118).releaseShadow (.commit c)) ∧
    (∃ (s : State) (q : Nat) (l : Nat) (a : Nat), s.flag Reg.FTL_STAT_MOUNTED = true ∧ (s.queue 0x118).items.head? = some ⟨.groupEdge q l a, 0⟩ ∧
      s.path.shadow.contains (.groupEdge q l a) = true) ∧
    (∃ (s : State) (p : Payload), s.flag Reg.FTL_STAT_MOUNTED = true ∧ (s.queue 0x118).items.head? = some ⟨p, 0⟩ ∧ s.path.shadow.contains p = false) ∧
    (∃ (s : State), s.path.closeAt ≤ s.tb1 ∧ s.orders = true ∧ s.flag Reg.LADL_STAT_ACK_STOPPED = false ∧ s.twin.groupsDue.isEmpty = true ∧
      s.path.count ≠ 0 ∧ s.hasCredit 0x118 = true ∧ s.feedCredit = true) ∧
    (∃ (s : State) (g : Group) (r : List Group), s.path.groups = g :: r ∧ g.written = true ∧ s.peerDurable g.seq = true ∧ s.flag
      Reg.LADL_STAT_ACK_STOPPED = false) ∧
    (∃ (s : State) (limit : Nat), limit = s.getF Reg.LADL_GC_CFG_DURABLE_LIMIT * 1000000 ∧ (s.path.groups.any (fun g => !g.late && decide
      (g.closedAt + limit ≤ s.tb1)) = true)) ∧
    (∃ (s : State), (s.flight s.commitNext).isSome = true ∧ s.flag Reg.LADL_STAT_STALLED = false ∧ s.path.headSince + s.getF Reg.LADL_STALL_LIMIT_US
      * 1000 < s.tb1) :=
  ⟨by refine ⟨({ flying with verdicts := [{ lane := 0, order := 1, v := .accept, crc := 0 }] } : State),
     ({ lane := 0, order := 1, v := .accept, crc := 0 } : Verdict), ([] : List Verdict), ({ body := .frame {} } : Flight), ?_, ?_,
     ?_⟩ <;> decide +kernel,
   by refine ⟨({ up with verdicts := [{ lane := 0, order := 1, v := .accept, crc := 0, late := true }] } : State),
     ({ lane := 0, order := 1, v := .accept, crc := 0, late := true } : Verdict), ([] : List Verdict), ?_, ?_⟩ <;> decide +kernel,
   by refine ⟨(flying.enq 0x89 { body := .tag 1 .pass } : State), (1 : Nat), (.pass : TagVerdict), ({ body := .frame {} } : Flight), ?_, ?_, ?_,
     ?_⟩ <;> decide +kernel,
   by refine ⟨(serving.setFlight 0 (some { body := .ordered (.ckptMarker 0) }) : State), (true : Bool), (true : Bool),
     ({ body := .ordered (.ckptMarker 0) } : Flight), (.ckptMarker 0 : Ordered), ?_, ?_, ?_, ?_, ?_, ?_, ?_, ?_, ?_⟩ <;> decide +kernel,
   by refine ⟨(serving.setFlight 0 (some { body := .frame { ivc := 1 }, tagV := some .pass, laneV := some .accept, crc := effectsCrc [] }) : State),
     _, ((((serving.setFlight 0 (some { body := .frame { ivc := 1 }, tagV := some .pass, laneV := some .accept, crc := effectsCrc [] }) :
     State)).flight ((serving.setFlight 0 (some { body := .frame { ivc := 1 }, tagV := some .pass, laneV := some .accept, crc := effectsCrc [] }) :
     State)).commitNext).get (by decide +kernel)), ({ ivc := 1 } : Frame), ?_, ?_, ?_, ?_, ?_, (Option.some_get _).symm, ?_, rfl, ?_, ?_, ?_, ?_,
     ?_, ?_, ?_⟩ <;> decide +kernel,
   by refine ⟨(serving.setFlight 0 (some { body := .frame {}, tagV := some .fail, laneV := some .accept }) : State), _, ((((serving.setFlight 0
     (some { body := .frame {}, tagV := some .fail, laneV := some .accept }) : State)).flight ((serving.setFlight 0 (some
     { body := .frame {}, tagV := some .fail, laneV := some .accept }) : State)).commitNext).get (by decide +kernel)), ({} : Frame), (.accept :
     LaneVerdict), (true : Bool), ?_, ?_, ?_, ?_, ?_, (Option.some_get _).symm, ?_, rfl, ?_, ?_⟩ <;> decide +kernel,
   by refine ⟨serving.setFlight 0 (some { body := .frame {}, tagV := some .noKey }), _, { body := .frame {}, tagV := some .noKey }, {}, true, ?_,
     ?_, ?_, ?_, ?_, ?_, ?_, rfl, ?_, .inr ?_⟩ <;> decide +kernel,
   by refine
     ⟨({ serving.enq 0x118 { body := .commit { order := 0, entry := [] } } with path := { shadow := [.commit { order := 0, entry := [] }] } } :
     State), _, ({ order := 0, entry := [] } : CommitItem), ?_, ?_, ?_, rfl⟩ <;> decide +kernel,
   by refine ⟨({ (up.enq 0x118 { body := .groupEdge 1 0 0 }).setF Reg.FTL_STAT_MOUNTED 1 with path := { shadow := [.groupEdge 1 0 0] } } : State),
     (1 : Nat), (0 : Nat), (0 : Nat), ?_, ?_, ?_⟩ <;> decide +kernel,
   by refine ⟨((up.enq 0x118 { body := .groupEdge 1 0 0 }).setF Reg.FTL_STAT_MOUNTED 1 : State), (.groupEdge 1 0 0 : Payload), ?_, ?_,
     ?_⟩ <;> decide +kernel,
   by refine ⟨({ up with path := { count := 1 } } : State), ?_, ?_, ?_, ?_, ?_, ?_, ?_⟩ <;> decide +kernel,
   by refine ⟨({ up with path := { groups := [{ seq := 1, written := true }] } } : State),
     (((({ up with path := { groups := [{ seq := 1, written := true }] } } : State)).path.groups).head (by decide +kernel)),
     (((({ up with path := { groups := [{ seq := 1, written := true }] } } : State)).path.groups).tail), ?_, ?_, ?_, ?_⟩ <;> decide +kernel,
   ⟨({ up with path := { groups := [{ seq := 1 }] }, tb1 := 1000000000000 } : State), _, rfl, by decide +kernel⟩,
   by refine ⟨({ up.setFlight 0 (some { body := .frame {} }) with tb1 := 99000000000 } : State), ?_, ?_, ?_⟩ <;> decide +kernel⟩

/-- Each clause of DirectoryCommandsComplete is met. -/
theorem witness_DirectoryCommandsComplete :
    (∃ (s : State) (sub : Option Submission) (t : State) (b : Bytes), DirTakes (s.pumpMessages.submitted 0xA1 sub (fun x => .bytes (splice (slice
      x.item 0 64) 2 [0]))) 0x01 b t) ∧
    (∃ (s : State) (sub : Option Submission) (t : State) (b : Bytes), DirTakes (s.pumpMessages.submitted 0xA1 sub (fun x => .bytes (splice (slice
      x.item 0 64) 2 [0]))) 0x02 b t) ∧
    (∃ (s : State) (sub : Option Submission) (t : State) (b : Bytes), DirTakes (s.pumpMessages.submitted 0xA1 sub (fun x => .bytes (splice (slice
      x.item 0 64) 2 [0]))) 0x03 b t) ∧
    (∃ (s : State) (sub : Option Submission) (t : State) (b : Bytes), DirTakes (s.pumpMessages.submitted 0xA1 sub (fun x => .bytes (splice (slice
      x.item 0 64) 2 [0]))) 0x10 b t) ∧
    (∃ (s : State) (sub : Option Submission) (t : State) (b : Bytes), DirTakes (s.pumpMessages.submitted 0xA1 sub (fun x => .bytes (splice (slice
      x.item 0 64) 2 [0]))) 0x11 b t) ∧
    (∃ (s : State) (sub : Option Submission) (t : State) (b : Bytes), DirTakes (s.pumpMessages.submitted 0xA1 sub (fun x => .bytes (splice (slice
      x.item 0 64) 2 [0]))) 0x20 b t) ∧
    (∃ (s : State) (sub : Option Submission) (t : State) (b : Bytes), DirTakes (s.pumpMessages.submitted 0xA1 sub (fun x => .bytes (splice (slice
      x.item 0 64) 2 [0]))) 0x21 b t) ∧
    (∃ (s : State) (sub : Option Submission) (t : State) (b : Bytes), DirTakes (s.pumpMessages.submitted 0xA1 sub (fun x => .bytes (splice (slice
      x.item 0 64) 2 [0]))) 0x30 b t) ∧
    (∃ (s : State) (sub : Option Submission) (t : State) (b : Bytes), DirTakes (s.pumpMessages.submitted 0xA1 sub (fun x => .bytes (splice (slice
      x.item 0 64) 2 [0]))) 0x31 b t) ∧
    (∃ (s : State) (sub : Option Submission) (t : State) (b : Bytes), DirTakes (s.pumpMessages.submitted 0xA1 sub (fun x => .bytes (splice (slice
      x.item 0 64) 2 [0]))) 0x32 b t) ∧
    (∃ (s : State) (u : State) (l : DirLock), s.dir.locks.find? (fun x => decide (x.until_ ≤ s.tb1)) = some l ∧ u = (s.dirRelease l.table
      l.bucket).irq Reg.DIR_IRQ_LOCK_TIMEOUT) ∧
    (∃ (s : State) (req : Req) (data : Word), TakesF s req Reg.DIR_SUSPECT_CLR_BUCKET ∧ s.locked? 2 (bitsOf data.toNat 19 0) = false ∧ s.header 2
      (bitsOf data.toNat 19 0) 54 54 = 1) ∧
    (∃ (s : State) (req : Req) (data : Word), TakesF s req Reg.DIR_SUSPECT_CLR_BUCKET ∧ s.locked? 2 (bitsOf data.toNat 19 0) = true) :=
  ⟨⟨(asked serving 0xA1 (job 64 1 [])), none, ((((asked serving 0xA1 (job 64 1 [])).pumpMessages.submitted 0xA1 none (fun x => .bytes (splice (slice
     x.item 0 64) 2 [0]))).dirFront 1).get (by decide +kernel)).2.2, ((((asked serving 0xA1 (job 64 1 [])).pumpMessages.submitted 0xA1 none (fun x
     => .bytes (splice (slice x.item 0 64) 2 [0]))).dirFront 1).get (by decide +kernel)).1, dirTakes_of (by decide +kernel)⟩,
   ⟨(asked serving 0xA1 (job 64 2 [])), none, ((((asked serving 0xA1 (job 64 2 [])).pumpMessages.submitted 0xA1 none (fun x => .bytes (splice (slice
     x.item 0 64) 2 [0]))).dirFront 2).get (by decide +kernel)).2.2, ((((asked serving 0xA1 (job 64 2 [])).pumpMessages.submitted 0xA1 none (fun x
     => .bytes (splice (slice x.item 0 64) 2 [0]))).dirFront 2).get (by decide +kernel)).1, dirTakes_of (by decide +kernel)⟩,
   ⟨(asked serving 0xA1 (job 64 3 [])), none, ((((asked serving 0xA1 (job 64 3 [])).pumpMessages.submitted 0xA1 none (fun x => .bytes (splice (slice
     x.item 0 64) 2 [0]))).dirFront 3).get (by decide +kernel)).2.2, ((((asked serving 0xA1 (job 64 3 [])).pumpMessages.submitted 0xA1 none (fun x
     => .bytes (splice (slice x.item 0 64) 2 [0]))).dirFront 3).get (by decide +kernel)).1, dirTakes_of (by decide +kernel)⟩,
   ⟨(asked serving 0xA1 (job 64 16 [])), none, ((((asked serving 0xA1 (job 64 16 [])).pumpMessages.submitted 0xA1 none (fun x => .bytes (splice
     (slice x.item 0 64) 2 [0]))).dirFront 16).get (by decide +kernel)).2.2, ((((asked serving 0xA1 (job 64 16 [])).pumpMessages.submitted 0xA1 none
     (fun x => .bytes (splice (slice x.item 0 64) 2 [0]))).dirFront 16).get (by decide +kernel)).1, dirTakes_of (by decide +kernel)⟩,
   ⟨(asked serving 0xA1 (job 64 17 [])), none, ((((asked serving 0xA1 (job 64 17 [])).pumpMessages.submitted 0xA1 none (fun x => .bytes (splice
     (slice x.item 0 64) 2 [0]))).dirFront 17).get (by decide +kernel)).2.2, ((((asked serving 0xA1 (job 64 17 [])).pumpMessages.submitted 0xA1 none
     (fun x => .bytes (splice (slice x.item 0 64) 2 [0]))).dirFront 17).get (by decide +kernel)).1, dirTakes_of (by decide +kernel)⟩,
   ⟨(asked serving 0xA1 (job 64 32 [])), none, ((((asked serving 0xA1 (job 64 32 [])).pumpMessages.submitted 0xA1 none (fun x => .bytes (splice
     (slice x.item 0 64) 2 [0]))).dirFront 32).get (by decide +kernel)).2.2, ((((asked serving 0xA1 (job 64 32 [])).pumpMessages.submitted 0xA1 none
     (fun x => .bytes (splice (slice x.item 0 64) 2 [0]))).dirFront 32).get (by decide +kernel)).1, dirTakes_of (by decide +kernel)⟩,
   ⟨(asked serving 0xA1 (job 64 33 [])), none, ((((asked serving 0xA1 (job 64 33 [])).pumpMessages.submitted 0xA1 none (fun x => .bytes (splice
     (slice x.item 0 64) 2 [0]))).dirFront 33).get (by decide +kernel)).2.2, ((((asked serving 0xA1 (job 64 33 [])).pumpMessages.submitted 0xA1 none
     (fun x => .bytes (splice (slice x.item 0 64) 2 [0]))).dirFront 33).get (by decide +kernel)).1, dirTakes_of (by decide +kernel)⟩,
   ⟨(asked serving 0xA1 (job 64 48 [])), none, ((((asked serving 0xA1 (job 64 48 [])).pumpMessages.submitted 0xA1 none (fun x => .bytes (splice
     (slice x.item 0 64) 2 [0]))).dirFront 48).get (by decide +kernel)).2.2, ((((asked serving 0xA1 (job 64 48 [])).pumpMessages.submitted 0xA1 none
     (fun x => .bytes (splice (slice x.item 0 64) 2 [0]))).dirFront 48).get (by decide +kernel)).1, dirTakes_of (by decide +kernel)⟩,
   ⟨(asked serving 0xA1 (job 64 49 [])), none, ((((asked serving 0xA1 (job 64 49 [])).pumpMessages.submitted 0xA1 none (fun x => .bytes (splice
     (slice x.item 0 64) 2 [0]))).dirFront 49).get (by decide +kernel)).2.2, ((((asked serving 0xA1 (job 64 49 [])).pumpMessages.submitted 0xA1 none
     (fun x => .bytes (splice (slice x.item 0 64) 2 [0]))).dirFront 49).get (by decide +kernel)).1, dirTakes_of (by decide +kernel)⟩,
   ⟨(asked serving 0xA1 (job 64 50 [])), none, ((((asked serving 0xA1 (job 64 50 [])).pumpMessages.submitted 0xA1 none (fun x => .bytes (splice
     (slice x.item 0 64) 2 [0]))).dirFront 50).get (by decide +kernel)).2.2, ((((asked serving 0xA1 (job 64 50 [])).pumpMessages.submitted 0xA1 none
     (fun x => .bytes (splice (slice x.item 0 64) 2 [0]))).dirFront 50).get (by decide +kernel)).1, dirTakes_of (by decide +kernel)⟩,
   ⟨({ up with dir := { locks := [⟨0, 0, 0⟩] } } : State), _, (((({ up with dir := { locks := [⟨0, 0, 0⟩] } } : State)).dir.locks.find? (fun x =>
     decide (x.until_ ≤ (({ up with dir := { locks := [⟨0, 0, 0⟩] } } : State)).tb1))).get (by decide +kernel)), (Option.some_get _).symm, rfl⟩,
   by refine ⟨(up.writeNat (wayAddr 2 0 0 + 16) 8 (2 ^ 54) : State), (.trusted : Req), (0 : Word), ?_, ?_, ?_⟩ <;> decide +kernel,
   by refine ⟨({ up with dir := { locks := [⟨2, 0, 0⟩] } } : State), (.trusted : Req), (0 : Word), ?_, ?_⟩ <;> decide +kernel⟩

/-- Each clause of BalanceCommandsComplete is met. -/
theorem witness_BalanceCommandsComplete :
    (∃ (s : State) (sub : Option Submission) (u : State) (b : Bytes), u = s.submitted 0xA9 sub (fun x => .bytes (slice x.item 0 64)) ∧ (u.queue
      0xA9).items.head? = some ⟨.bytes b, 0⟩ ∧ leAt b 0 1 = 1 ∧ u.hasCredit 0x80 = true ∧ u.balOpen < (u.queue 0xAA).credits ∧ balWellFormed b =
      true ∧ u.orders = true ∧ u.domOn .mem = true) ∧
    (∃ (s : State) (sub : Option Submission) (u : State) (b : Bytes), u = s.submitted 0xA9 sub (fun x => .bytes (slice x.item 0 64)) ∧ (u.queue
      0xA9).items.head? = some ⟨.bytes b, 0⟩ ∧ leAt b 0 1 = 2 ∧ u.hasCredit 0x80 = true ∧ u.balOpen < (u.queue 0xAA).credits ∧ balWellFormed b =
      true ∧ u.orders = true ∧ u.domOn .mem = true) ∧
    (∃ (s : State) (sub : Option Submission) (u : State) (b : Bytes), u = s.submitted 0xA9 sub (fun x => .bytes (slice x.item 0 64)) ∧ (u.queue
      0xA9).items.head? = some ⟨.bytes b, 0⟩ ∧ leAt b 0 1 = 3 ∧ u.hasCredit 0x80 = true ∧ u.balOpen < (u.queue 0xAA).credits ∧ balWellFormed b =
      true ∧ u.orders = true ∧ u.domOn .mem = true) ∧
    (∃ (s : State) (sub : Option Submission) (u : State) (b : Bytes), u = s.submitted 0xA9 sub (fun x => .bytes (slice x.item 0 64)) ∧ (u.queue
      0xA9).items.head? = some ⟨.bytes b, 0⟩ ∧ leAt b 0 1 = 4 ∧ u.hasCredit 0x80 = true ∧ u.balOpen < (u.queue 0xAA).credits ∧ balWellFormed b =
      true ∧ u.orders = true ∧ u.domOn .mem = true) ∧
    (∃ (s : State) (last : Nat), s.bal.mark.getD (s.utcSec / s.balLen) = last ∧ s.flag Reg.BAL_CTRL_ENABLE = true ∧ s.orders = true ∧ last <
      s.utcSec / s.balLen ∧ s.hasCredit 0x80 = true) ∧
    (∃ (s : State) (w : BalSweep) (r : List BalSweep), s.domOn .mem = true ∧ s.bal.waiting.isEmpty = true ∧ s.bal.sweeps = w :: r ∧ w.nodesDone =
      false) ∧
    (∃ (s : State), s.domOn .mem = true ∧ s.bal.waiting.isEmpty = true ∧ s.bal.sweeps = [] ∧ s.flag Reg.BAL_STAT_MARKER_WAIT = true) ∧
    (∃ (s : State) (w : BalSweep) (r : List BalSweep), s.domOn .mem = true ∧ s.bal.waiting.isEmpty = true ∧ s.bal.sweeps = w :: r ∧ w.nodesDone =
      true) ∧
    (∃ (s : State), s.domOn .mem = true ∧ s.bal.waiting.isEmpty = false ∧ s.hasCredit 0xA8 = true ∧ s.balFlush.bal.waiting.isEmpty = false) ∧
    (∃ (s : State) (w : BalSweep) (r : List BalSweep), s.domOn .mem = true ∧ s.bal.waiting.isEmpty = false ∧ s.hasCredit 0xA8 = true ∧
      s.balFlush.bal.waiting = [] ∧ s.balFlush.bal.sweeps = w :: r ∧ w.nodesDone = true) ∧
    (∃ (s : State) (w : BalSweep) (r : List BalSweep), s.domOn .mem = true ∧ s.bal.waiting.isEmpty = false ∧ s.hasCredit 0xA8 = true ∧
      s.balFlush.bal.waiting = [] ∧ s.balFlush.bal.sweeps = w :: r ∧ w.nodesDone = false) :=
  ⟨by refine ⟨(asked serving 0xA9 (job 64 1 []) : State), (none : Option Submission), _, p_bytes (((((((asked serving 0xA9 (job 64 1 []) :
     State)).submitted 0xA9 ((none : Option Submission)) (fun x => .bytes (slice x.item 0 64)) : State)).queue 0xA9).items.head?).get
     (by decide +kernel)), rfl, ?_, ?_, ?_, ?_, ?_, ?_, ?_⟩ <;> decide +kernel,
   by refine ⟨(asked serving 0xA9 (job 64 2 []) : State), (none : Option Submission), _, p_bytes (((((((asked serving 0xA9 (job 64 2 []) :
     State)).submitted 0xA9 ((none : Option Submission)) (fun x => .bytes (slice x.item 0 64)) : State)).queue 0xA9).items.head?).get
     (by decide +kernel)), rfl, ?_, ?_, ?_, ?_, ?_, ?_, ?_⟩ <;> decide +kernel,
   by refine ⟨(asked serving 0xA9 (job 64 3 []) : State), (none : Option Submission), _, p_bytes (((((((asked serving 0xA9 (job 64 3 []) :
     State)).submitted 0xA9 ((none : Option Submission)) (fun x => .bytes (slice x.item 0 64)) : State)).queue 0xA9).items.head?).get
     (by decide +kernel)), rfl, ?_, ?_, ?_, ?_, ?_, ?_, ?_⟩ <;> decide +kernel,
   by refine ⟨(asked serving 0xA9 (job 64 4 []) : State), (none : Option Submission), _, p_bytes (((((((asked serving 0xA9 (job 64 4 []) :
     State)).submitted 0xA9 ((none : Option Submission)) (fun x => .bytes (slice x.item 0 64)) : State)).queue 0xA9).items.head?).get
     (by decide +kernel)), rfl, ?_, ?_, ?_, ?_, ?_, ?_, ?_⟩ <;> decide +kernel,
   by refine ⟨({ serving with bal := { mark := some 0 }, tb0 := 65536 * (1000000000 * 1100000000) } : State),
     (({ serving with bal := { mark := some 0 }, tb0 := 65536 * (1000000000 * 1100000000) } : State)).bal.mark.getD
     ((({ serving with bal := { mark := some 0 }, tb0 := 65536 * (1000000000 * 1100000000) } : State)).utcSec /
     (({ serving with bal := { mark := some 0 }, tb0 := 65536 * (1000000000 * 1100000000) } : State)).balLen), ?_, ?_, ?_, ?_,
     ?_⟩ <;> decide +kernel,
   by refine ⟨({ up with bal := { sweeps := [{ k := 0, order := 0 }] } } : State), (((({ up with bal := { sweeps := [{ k := 0, order := 0 }] } } :
     State)).bal.sweeps).head (by decide +kernel)), (((({ up with bal := { sweeps := [{ k := 0, order := 0 }] } } : State)).bal.sweeps).tail), ?_,
     ?_, ?_, ?_⟩ <;> decide +kernel,
   by refine ⟨(sets up [(Reg.BAL_STAT_MARKER_WAIT, 1)] : State), ?_, ?_, ?_, ?_⟩ <;> decide +kernel,
   by refine ⟨({ up with bal := { sweeps := [{ k := 0, order := 0, nodesDone := true }] } } : State),
     (((({ up with bal := { sweeps := [{ k := 0, order := 0, nodesDone := true }] } } : State)).bal.sweeps).head (by decide +kernel)),
     (((({ up with bal := { sweeps := [{ k := 0, order := 0, nodesDone := true }] } } : State)).bal.sweeps).tail), ?_, ?_, ?_,
     ?_⟩ <;> decide +kernel,
   by refine ⟨({ up.setQueue 0xA8 { up.queue 0xA8 with credits := 1 } with bal := { waiting := [[], []] } } : State), ?_, ?_, ?_,
     ?_⟩ <;> decide +kernel,
   by refine ⟨({ up with bal := { waiting := [[]], sweeps := [{ k := 0, order := 0, nodesDone := true }] } } : State),
     (((({ up with bal := { waiting := [[]], sweeps := [{ k := 0, order := 0, nodesDone := true }] } } : State)).balFlush.bal.sweeps).head
     (by decide +kernel)), (((({ up with bal := { waiting := [[]], sweeps := [{ k := 0, order := 0, nodesDone := true }] } } :
     State)).balFlush.bal.sweeps).tail), ?_, ?_, ?_, ?_, ?_, ?_⟩ <;> decide +kernel,
   by refine ⟨({ up with bal := { waiting := [[]], sweeps := [{ k := 0, order := 0, nodesDone := false }] } } : State),
     (({ k := 0, order := 0, nodesDone := false }) : BalSweep), ([] : List BalSweep), ?_, ?_, ?_, ?_, ?_, ?_⟩ <;> decide +kernel⟩

/-- Each clause of BillingCommandsComplete is met. -/
theorem witness_BillingCommandsComplete :
    (∃ (s : State) (t : Nat), s.demDue = some t ∧ s.mayMark = true ∧ (s.flag Reg.BAL_CTRL_ENABLE && dueBy s.balDue t) = false) ∧
    (∃ (s : State) (b : Nat) (top : Nat), s.closeDue = some (b, top) ∧ s.mayMark = true ∧ s.balDue = none ∧ s.demDue = none ∧ top ≤ b) ∧
    (∃ (s : State) (b : Nat) (top : Nat), s.closeDue = some (b, top) ∧ s.mayMark = true ∧ s.balDue = none ∧ s.demDue = none ∧ b < top) ∧
    (∃ (s : State) (now : Nat) (last : Nat), now = s.utcSec / (60 * s.getF Reg.BILL_CKPT_CFG_PERIOD) ∧ s.flag Reg.BILL_CTRL_ENABLE = true ∧
      s.bill.ckptMark = some last ∧ last < now ∧ s.mayMark = true ∧ s.balDue = none ∧ s.demDue = none ∧ s.closeDue = none ∧ s.bill.open_ = none) ∧
    (∃ (s : State) (now : Nat) (last : Nat), now = s.utcSec / (60 * s.getF Reg.BILL_CKPT_CFG_PERIOD) ∧ s.flag Reg.BILL_CTRL_ENABLE = true ∧
      s.bill.ckptMark = some last ∧ last < now ∧ s.mayMark = true ∧ s.balDue = none ∧ s.demDue = none ∧ s.closeDue = none ∧ s.bill.open_.isSome =
      true) ∧
    (∃ (s : State) (w : DemSweep) (r : List DemSweep), s.domOn .mem = true ∧ s.bill.demSweeps = w :: r) ∧
    (∃ (s : State) (j : CloseJob) (r : List CloseJob) (t : State) (u : State), s.domOn .mem = true ∧ s.bill.sweeps = j :: r ∧ (t =
      s.validRecords.foldl (fun t m => if t.recF m 0x1E0 4 < j.b then t.touch m else t) s) ∧ (u = (t.billReport 6 (bit1 (t.isReplayed j.order)) 0
      j.order (leBytes 4 j.b ++ leBytes 4 (if j.skipped then 1 else 0))).irq Reg.BILL_IRQ_CLOSED)) ∧
    (∃ (s : State) (t : State), s.domOn .mem = true ∧ s.bill.open_.isSome = true ∧ (t = (List.range 1048576).foldl (fun t m => t.ckptCopy m) s)) ∧
    (∃ (s : State) (t : State) (c : Checkpoint), s.bill.open_ = some c ∧ c.swept = true ∧ s.volState = 0 ∧ t =
      ({ s with bill := { s.bill with open_ := none, complete := ({ c with durable := true } :: s.bill.complete).take 2 } } : State)) ∧
    (∃ (s : State) (t : State) (req : Req) (data : Word), TakesA s req Reg.BILL_TOK_GO_GO data.toNat ∧ bitAt data.toNat 31 = 1 ∧ s.flag
      Reg.BILL_TOK_GO_GO = false ∧ t = plainly s req Reg.BILL_TOK_GO_GO data.toNat ∧ bitsOf data.toNat 19 0 < t.getF Reg.DIR_ROLE_LIMIT_METERS ∧
      t.getF Reg.BILL_TOK_D0_DIGITS ≤ 99999 ∧ t.getF Reg.BILL_TOK_D1_DIGITS ≤ 99999 ∧ t.getF Reg.BILL_TOK_D2_DIGITS ≤ 99999 ∧ t.getF
      Reg.BILL_TOK_D3_DIGITS ≤ 99999 ∧ t.orders = true ∧ t.flag Reg.BILL_CTRL_ENABLE = true ∧ t.hasCredit 0x80 = true) ∧
    (∃ (s : State) (t : State) (req : Req) (data : Word), TakesA s req Reg.BILL_TOK_GO_GO data.toNat ∧ bitAt data.toNat 31 = 1 ∧ s.flag
      Reg.BILL_TOK_GO_GO = false ∧ t = plainly s req Reg.BILL_TOK_GO_GO data.toNat ∧ bitsOf data.toNat 19 0 < t.getF Reg.DIR_ROLE_LIMIT_METERS ∧
      t.getF Reg.BILL_TOK_D0_DIGITS ≤ 99999 ∧ t.getF Reg.BILL_TOK_D1_DIGITS ≤ 99999 ∧ t.getF Reg.BILL_TOK_D2_DIGITS ≤ 99999 ∧ t.getF
      Reg.BILL_TOK_D3_DIGITS ≤ 99999 ∧ t.orders = true ∧ t.flag Reg.BILL_CTRL_ENABLE = true ∧ t.hasCredit 0x80 = false) ∧
    (∃ (s : State) (req : Req) (data : Word), TakesA s req Reg.CAL_CHECK_GO data.toNat) ∧
    (∃ (s : State) (req : Req) (data : Word), TakesA s req Reg.CAL_RESOLVE_GO data.toNat) ∧
    (∃ (s : State), s.panel.showLocked = false ∧ s.panelScrolls = true ∧ s.panel.nextAt ≤ s.tb1 ∧ s.getF Reg.PANEL_DISP_CFG_ROWS = 1 ∧ s.panel.alt =
      false ∧ s.panel.shown.2.isEmpty = false) ∧
    (∃ (s : State), s.panel.showLocked = false ∧ s.panelScrolls = true ∧ s.panel.nextAt ≤ s.tb1 ∧ (s.getF Reg.PANEL_DISP_CFG_ROWS ≠ 1 ∨ s.panel.alt
      = true)) ∧
    (∃ (s : State), s.panel.showLocked = true ∧ s.panel.nextAt ≤ s.tb1) ∧
    (∃ (s : State) (key : Option (Fin 16)) (cnt : Nat), s.flag Reg.PANEL_CTRL_ENABLE = true ∧ cnt = (if key.map (fun k => k.val) = s.panel.scanKey
      then min 4 (s.panel.scanCnt + 1) else 1) ∧ cnt ≠ 3) ∧
    (∃ (s : State) (t : State) (k : Fin 16), s.flag Reg.PANEL_CTRL_ENABLE = true ∧ s.panel.scanKey = some k.val ∧ s.panel.scanCnt = 2 ∧ t =
      ({ s with panel := { s.panel with scanKey := some k.val, scanCnt := 3 } } : State).inputEdge 7 true ∧ t.flag (condField
      Reg.AON_COND_STAT_STUCK_MASK 7) = false) ∧
    (∃ (s : State), (s.getF Reg.PANEL_STAT_KP_STATE = 1 ∨ s.getF Reg.PANEL_STAT_KP_STATE = 2) ∧ (s.panel.waiting = false ∨ s.panel.due.isSome =
      true) ∧ s.panel.entryUntil ≤ s.tb1) ∧
    (∃ (s : State) (t : Nat), s.panel.lockUntil = some t ∧ t ≤ s.getF Reg.RTC_RTC_SEC_SEC) :=
  ⟨by refine ⟨({ sets up [(Reg.BILL_CTRL_ENABLE, 1)] with bill := { demMark := some 0 }, tb0 := 65536 * (1000000000 * 1100000000) } : State),
     (((({ sets up [(Reg.BILL_CTRL_ENABLE, 1)] with bill := { demMark := some 0 }, tb0 := 65536 * (1000000000 * 1100000000) } : State)).demDue).get
     (by decide +kernel)), ?_, ?_, ?_⟩ <;> decide +kernel,
   by refine
     ⟨({ sets up [(Reg.BILL_CTRL_ENABLE, 1), (Reg.BILL_CLOSE_CFG_MODE, 0)] with bill := { closeMark := some 57 }, tb0 := 65536 * (1000000000 * 1100000000) }
     : State),
     (((({ sets up [(Reg.BILL_CTRL_ENABLE, 1), (Reg.BILL_CLOSE_CFG_MODE, 0)] with bill := { closeMark := some 57 }, tb0 := 65536 * (1000000000 * 1100000000) }
     : State)).closeDue).get (by decide +kernel)).1,
     (((({ sets up [(Reg.BILL_CTRL_ENABLE, 1), (Reg.BILL_CLOSE_CFG_MODE, 0)] with bill := { closeMark := some 57 }, tb0 := 65536 * (1000000000 * 1100000000) }
     : State)).closeDue).get (by decide +kernel)).2, ?_, ?_, ?_, ?_, ?_⟩ <;> decide +kernel,
   by refine
     ⟨({ sets up [(Reg.BILL_CTRL_ENABLE, 1), (Reg.BILL_CLOSE_CFG_MODE, 0)] with bill := { closeMark := some 50 }, tb0 := 65536 * (1000000000 * 1100000000) }
     : State),
     (((({ sets up [(Reg.BILL_CTRL_ENABLE, 1), (Reg.BILL_CLOSE_CFG_MODE, 0)] with bill := { closeMark := some 50 }, tb0 := 65536 * (1000000000 * 1100000000) }
     : State)).closeDue).get (by decide +kernel)).1,
     (((({ sets up [(Reg.BILL_CTRL_ENABLE, 1), (Reg.BILL_CLOSE_CFG_MODE, 0)] with bill := { closeMark := some 50 }, tb0 := 65536 * (1000000000 * 1100000000) }
     : State)).closeDue).get (by decide +kernel)).2, ?_, ?_, ?_, ?_, ?_⟩ <;> decide +kernel,
   by refine
     ⟨({ sets up [(Reg.BILL_CTRL_ENABLE, 1), (Reg.BILL_CLOSE_CFG_MODE, 2), (Reg.BILL_CKPT_CFG_PERIOD, 1)] with bill := { ckptMark := some 0 }, tb0 := 65536 * (1000000000 * 1100000000) }
     : State), _,
     (((({ sets up [(Reg.BILL_CTRL_ENABLE, 1), (Reg.BILL_CLOSE_CFG_MODE, 2), (Reg.BILL_CKPT_CFG_PERIOD, 1)] with bill := { ckptMark := some 0 }, tb0 := 65536 * (1000000000 * 1100000000) }
     : State)).bill.ckptMark).get (by decide +kernel)), rfl, ?_, (Option.some_get _).symm, ?_, ?_, ?_, ?_, ?_, ?_⟩ <;> decide +kernel,
   by refine
     ⟨({ sets up [(Reg.BILL_CTRL_ENABLE, 1), (Reg.BILL_CLOSE_CFG_MODE, 2), (Reg.BILL_CKPT_CFG_PERIOD, 1)] with bill := { ckptMark := some 0, open_ := some { order := 0 } }, tb0 := 65536 * (1000000000 * 1100000000) }
     : State), _,
     (((({ sets up [(Reg.BILL_CTRL_ENABLE, 1), (Reg.BILL_CLOSE_CFG_MODE, 2), (Reg.BILL_CKPT_CFG_PERIOD, 1)] with bill := { ckptMark := some 0, open_ := some { order := 0 } }, tb0 := 65536 * (1000000000 * 1100000000) }
     : State)).bill.ckptMark).get (by decide +kernel)), rfl, ?_, (Option.some_get _).symm, ?_, ?_, ?_, ?_, ?_, ?_⟩ <;> decide +kernel,
   by refine ⟨({ up with bill := { demSweeps := [{ c := 0, order := 0 }] } } : State),
     (((({ up with bill := { demSweeps := [{ c := 0, order := 0 }] } } : State)).bill.demSweeps).head (by decide +kernel)),
     (((({ up with bill := { demSweeps := [{ c := 0, order := 0 }] } } : State)).bill.demSweeps).tail), ?_, ?_⟩ <;> decide +kernel,
   ⟨{ up with bill := { sweeps := [{ b := 0, order := 0 }] } }, { b := 0, order := 0 }, [], _, _, by decide +kernel, by decide +kernel, rfl, rfl⟩,
   ⟨{ up with bill := { open_ := some { order := 0 } } }, _, by decide +kernel, by decide +kernel, rfl⟩,
   by refine ⟨({ serving with bill := { open_ := some { order := 0, swept := true } } } : State), _,
     (((({ serving with bill := { open_ := some { order := 0, swept := true } } } : State)).bill.open_).get (by decide +kernel)), (Option.some_get
     _).symm, ?_, ?_, rfl⟩ <;> decide +kernel,
   by refine ⟨(sets serving [(Reg.BILL_CTRL_ENABLE, 1), (Reg.DIR_ROLE_LIMIT_METERS, 1)] : State), _, (.trusted : Req), (0x80000000 : Word), ?_, ?_,
     ?_, rfl, ?_, ?_, ?_, ?_, ?_, ?_, ?_, ?_⟩ <;> decide +kernel,
   by refine ⟨((sets serving [(Reg.BILL_CTRL_ENABLE, 1), (Reg.DIR_ROLE_LIMIT_METERS, 1)]).setQueue 0x80 {} : State), _, (Req.trusted : Req),
     (0x80000000 : Word), ?_, ?_, ?_, rfl, ?_, ?_, ?_, ?_, ?_, ?_, ?_, ?_⟩ <;> decide +kernel,
   ⟨up, (.trusted : Req), (0x80000000 : Word), by decide +kernel⟩,
   ⟨up, (.trusted : Req), (0x80000000 : Word), by decide +kernel⟩,
   by refine
     ⟨({ (sets up [(Reg.PANEL_CTRL_ENABLE, 1), (Reg.PANEL_CTRL_SCROLL_EN, 1), (Reg.PANEL_DISP_CFG_ROWS, 1)]).setEff Reg.PANEL_NITEMS_N 1 with panel := { shown := ([65], [66]) } }
     : State), ?_, ?_, ?_, ?_, ?_, ?_⟩ <;> decide +kernel,
   by refine ⟨(sets up [(Reg.PANEL_CTRL_ENABLE, 1), (Reg.PANEL_CTRL_SCROLL_EN, 1), (Reg.PANEL_DISP_CFG_ROWS, 2)] : State), ?_, ?_, ?_,
     ?_⟩ <;> decide +kernel,
   by refine ⟨({ up with panel := { showLocked := true } } : State), ?_, ?_⟩ <;> decide +kernel,
   by refine ⟨(up.setF Reg.PANEL_CTRL_ENABLE 1 : State), (some 3 : Option (Fin 16)), _, ?_, rfl, ?_⟩ <;> decide +kernel,
   by refine ⟨({ up.setF Reg.PANEL_CTRL_ENABLE 1 with panel := { scanKey := some 3, scanCnt := 2 } } : State), _, (3 : Fin 16), ?_, ?_, ?_, rfl,
     ?_⟩ <;> decide +kernel,
   by refine ⟨(up.setF Reg.PANEL_STAT_KP_STATE 1 : State), ?_, ?_, ?_⟩ <;> decide +kernel,
   by refine ⟨({ up with panel := { lockUntil := some 0 } } : State), (0 : Nat), ?_, ?_⟩ <;> decide +kernel⟩

/-- Each clause of TimeBaseCommandsComplete is met. -/
theorem witness_TimeBaseCommandsComplete :
    (∃ (s : State) (req : Req) (sec : Nat) (ns : Nat) (frac : Nat), s.refusal req 0x05 0x104 .b4 false = none ∧ req ≠ .debug ∧ fullTime ((s.answer
      0).baseOf ((s.answer 0).getF (Reg.TIME_NOW_SEL_BASE.bankOf req.code))) = (sec, ns, frac)) ∧
    (∃ (s : State) (sec : Nat) (ns : Nat) (frac : Nat), s.refusal .debug 0x05 0x104 .b4 false = none ∧ fullTime ((s.answer 0).baseOf ((s.answer
      0).getF (Reg.TIME_NOW_SEL_BASE.bankOf (Req.code .debug)))) = (sec, ns, frac)) ∧
    (∃ (s : State) (req : Req) (sec : Nat) (ns : Nat) (frac : Nat), s.refusal req 0x03 0x108 .b4 false = none ∧ req ≠ .debug ∧ fullTime ((s.answer
      0).baseOf ((s.answer 0).getF (Reg.AON_NOW_SEL_BASE.bankOf req.code))) = (sec, ns, frac)) ∧
    (∃ (s : State) (sec : Nat) (ns : Nat) (frac : Nat), s.refusal .debug 0x03 0x108 .b4 false = none ∧ fullTime ((s.answer 0).baseOf ((s.answer
      0).getF (Reg.AON_NOW_SEL_BASE.bankOf (Req.code .debug)))) = (sec, ns, frac)) ∧
    (∃ (s : State) (req : Req), TakesF s req Reg.TIME_STEP_GO) ∧
    (∃ (s : State) (req : Req) (value : BitVec 2), TakesF s req Reg.TIME_CTRL_STATE_SET ∧ (value = 1 ∨ value = 2)) ∧
    (∃ (s : State) (req : Req) (value : BitVec 2), TakesF s req Reg.TIME_CTRL_STATE_SET ∧ (value = 0 ∨ value = 3)) ∧
    (∃ (s : State), s.getF Reg.TIME_STAT_TB0_STATE = 2 ∧ s.getF Reg.TIME_CTRL_TB0_SRC = 1 ∧ max (s.time.syncAt.getD 0) s.time.lockedAt + s.getF
      Reg.TIME_HOLDOVER_MS * 1000000 ≤ s.tb1) ∧
    (∃ (s : State), s.getF Reg.TIME_STAT_TB0_STATE = 2 ∧ s.getF Reg.TIME_CTRL_TB0_SRC = 2 ∧ max (s.time.ppsAt.getD 0) s.time.lockedAt + s.getF
      Reg.TIME_HOLDOVER_MS * 1000000 ≤ s.tb1) ∧
    (∃ (s : State) (n : Nat), s.time.leapAt = some n ∧ n + nsPerS ≤ s.ns0) ∧
    (∃ (s : State) (n : Nat), s.time.leapAt = none ∧ s.getF Reg.RTC_LEAP_DIR = 1 ∧ n = ((((s.getF Reg.RTC_LEAP_DAY + 1) * 86400 : Nat) + s.utcShift)
      * nsPerS).toNat ∧ n ≤ s.ns0 ∧ s.ns0 < n + nsPerS) ∧
    (∃ (s : State) (n : Nat), s.time.leapAt = none ∧ s.getF Reg.RTC_LEAP_DIR = 1 ∧ n = ((((s.getF Reg.RTC_LEAP_DAY + 1) * 86400 : Nat) + s.utcShift)
      * nsPerS).toNat ∧ n + nsPerS ≤ s.ns0) ∧
    (∃ (s : State), s.time.leapAt = none ∧ s.getF Reg.RTC_LEAP_DIR = 2 ∧ ((((s.getF Reg.RTC_LEAP_DAY + 1) * 86400 - 1 : Nat) + s.utcShift) *
      nsPerS).toNat ≤ s.ns0) ∧
    (∃ (s : State) (t : State) (sec : Nat) (ns : Nat) (frac : Nat), s.domOn .time = true ∧ (∀ n : Nat, s.time.ppsAt = some n → n + nsPerS / 2 ≤
      s.tb1) ∧ fullTime s.tb0 = (sec, ns, frac) ∧ t = ((s.setF Reg.TIME_PPS_CAP_SEC_SEC sec).setF Reg.TIME_PPS_CAP_NS_NS ns).setF
      Reg.TIME_PPS_CAP_FRAC_FRAC frac) ∧
    (∃ (s : State) (t : Nat), s.domOn .time = true ∧ s.time.ppsAt = some t ∧ s.tb1 < t + nsPerS / 2) ∧
    (∃ (s : State), s.domOn .time = false ∧ s.mode = .listen ∧ (∀ n : Nat, s.time.ppsAt = some n → n + nsPerS / 2 ≤ s.tb1)) ∧
    (∃ (s : State), s.domOn .time = true ∧ s.time.ppsDue = true ∧ s.flag Reg.TIME_PPS_OUT_CFG_EN = true ∧ (s.flag Reg.TIME_PPS_OUT_CFG_HOLD = false
      ∨ s.getF Reg.TIME_STAT_TB0_STATE = 2)) ∧
    (∃ (s : State), s.domOn .time = true ∧ s.time.ppsDue = true ∧ (s.flag Reg.TIME_PPS_OUT_CFG_EN = false ∨ s.flag Reg.TIME_PPS_OUT_CFG_HOLD = true
      ∧ s.getF Reg.TIME_STAT_TB0_STATE ≠ 2)) ∧
    (∃ (s : State), s.domOn .time = true ∧ s.time.slewAt + 1000000 ≤ s.tb1) ∧
    (∃ (s : State) (req : Req), TakesF s req Reg.TIME_TB3_CFG_LOAD ∧ (s.answer 0).scheduleRuns = false) ∧
    (∃ (s : State) (rising : Bool) (stableUs : BitVec 16), s.flag (Reg.PLC_ZC_CFG_EN 0) = true ∧ s.domOn .time = true ∧ s.zcCandidate rising
      stableUs.toNat = true ∧ s.flag Reg.TIME_STAT_TB4_SYNTH = true ∧ s.time.zcCand = none) ∧
    (∃ (s : State) (rising : Bool) (stableUs : BitVec 16) (t : Nat), s.flag (Reg.PLC_ZC_CFG_EN 0) = true ∧ s.domOn .time = true ∧ s.zcCandidate
      rising stableUs.toNat = true ∧ s.flag Reg.TIME_STAT_TB4_SYNTH = true ∧ s.time.zcCand = some t ∧ s.nearPeriod (s.tb1 - t) = true) ∧
    (∃ (s : State) (rising : Bool) (stableUs : BitVec 16) (l : List Nat), s.flag (Reg.PLC_ZC_CFG_EN 0) = true ∧ s.domOn .time = true ∧ s.zcCandidate
      rising stableUs.toNat = true ∧ s.flag Reg.TIME_STAT_TB4_SYNTH = false ∧ s.nearPeriod (s.tb1 - s.time.zcLast) = true ∧ l = ((s.tb1 -
      s.time.zcLast) :: s.time.zcIvls).take 8) ∧
    (∃ (s : State) (rising : Bool) (stableUs : BitVec 16), s.flag (Reg.PLC_ZC_CFG_EN 0) = true ∧ s.domOn .time = true ∧ s.zcCandidate rising
      stableUs.toNat = true ∧ s.flag Reg.TIME_STAT_TB4_SYNTH = false ∧ s.nearPeriod (s.tb1 - s.time.zcLast) = false) ∧
    (∃ (s : State), s.flag Reg.TIME_STAT_TB4_SYNTH = false ∧ (s.time.zcLast + 4 * s.tb4Period ≤ s.tb1 ∨ s.flag (Reg.PLC_ZC_CFG_EN 0) = false)) :=
  ⟨by refine ⟨up, (.trusted : Req), (0 : Nat), (0 : Nat), (0 : Nat), ?_, ?_, ?_⟩ <;> decide +kernel,
   by refine ⟨upDbg, (0 : Nat), (0 : Nat), (0 : Nat), ?_, ?_⟩ <;> decide +kernel,
   by refine ⟨up, (.trusted : Req), (0 : Nat), (0 : Nat), (0 : Nat), ?_, ?_, ?_⟩ <;> decide +kernel,
   by refine ⟨upDbg, (0 : Nat), (0 : Nat), (0 : Nat), ?_, ?_⟩ <;> decide +kernel,
   ⟨up, (.trusted : Req), by decide +kernel⟩,
   by refine ⟨up, (.trusted : Req), (2 : BitVec 2), ?_, ?_⟩ <;> decide +kernel,
   by refine ⟨up, (.trusted : Req), (3 : BitVec 2), ?_, ?_⟩ <;> decide +kernel,
   by refine ⟨({ (up.setF Reg.TIME_STAT_TB0_STATE 2).setF Reg.TIME_CTRL_TB0_SRC 1 with tb1 := 99000000000 } : State), ?_, ?_, ?_⟩ <;> decide +kernel,
   by refine ⟨({ (up.setF Reg.TIME_STAT_TB0_STATE 2).setF Reg.TIME_CTRL_TB0_SRC 2 with tb1 := 99000000000 } : State), ?_, ?_, ?_⟩ <;> decide +kernel,
   by refine ⟨({ up with time := { leapAt := some 0 }, tb0 := 131072000000000 } : State), (0 : Nat), ?_, ?_⟩ <;> decide +kernel,
   by refine ⟨({ sets up [(Reg.RTC_LEAP_DIR, 1)] with tb0 := 65536 * (nsPerS * (86400 + up.utcShift.toNat)) } : State), _, ?_, ?_, rfl, ?_,
     ?_⟩ <;> decide +kernel,
   by refine ⟨({ sets up [(Reg.RTC_LEAP_DIR, 1)] with tb0 := 65536 * (nsPerS * (86401 + up.utcShift.toNat)) } : State), _, ?_, ?_, rfl,
     ?_⟩ <;> decide +kernel,
   by refine ⟨({ sets up [(Reg.RTC_LEAP_DIR, 2)] with tb0 := 65536 * (nsPerS * (86399 + up.utcShift.toNat)) } : State), ?_, ?_,
     ?_⟩ <;> decide +kernel,
   by refine ⟨up, _, (0 : Nat), (0 : Nat), (0 : Nat), ?_, ?_, ?_, rfl⟩ <;> decide +kernel,
   by refine ⟨({ up with time := { ppsAt := some 0 } } : State), (0 : Nat), ?_, ?_, ?_⟩ <;> decide +kernel,
   by refine ⟨((upIn 2).setF Reg.CLK_STAT_DOM_RUN 0), ?_, ?_, fun n h => by cases h⟩ <;> decide +kernel,
   by refine ⟨({ sets up [(Reg.TIME_PPS_OUT_CFG_EN, 1), (Reg.TIME_PPS_OUT_CFG_HOLD, 0)] with time := { ppsDue := true } } : State), ?_, ?_, ?_,
     ?_⟩ <;> decide +kernel,
   by refine ⟨({ sets up [(Reg.TIME_PPS_OUT_CFG_EN, 0)] with time := { ppsDue := true } } : State), ?_, ?_, ?_⟩ <;> decide +kernel,
   by refine ⟨({ up with tb1 := 2000000 } : State), ?_, ?_⟩ <;> decide +kernel,
   by refine ⟨up, (.trusted : Req), ?_, ?_⟩ <;> decide +kernel,
   by refine ⟨((up.setF (Reg.PLC_ZC_CFG_EN 0) 1).setF Reg.TIME_STAT_TB4_SYNTH 1 : State), (true : Bool), (60000 : BitVec 16), ?_, ?_, ?_, ?_,
     ?_⟩ <;> decide +kernel,
   by refine ⟨({ sets up [(Reg.PLC_ZC_CFG_EN 0, 1), (Reg.TIME_STAT_TB4_SYNTH, 1)] with tb1 := 20000000, time := { zcCand := some 0 } } : State),
     (true : Bool), (60000 : BitVec 16), (0 : Nat), ?_, ?_, ?_, ?_, ?_, ?_⟩ <;> decide +kernel,
   by refine ⟨({ (up.setF (Reg.PLC_ZC_CFG_EN 0) 1).setF Reg.TIME_STAT_TB4_SYNTH 0 with tb1 := 20000000 } : State), (true : Bool), (60000 : BitVec
     16), _, ?_, ?_, ?_, ?_, ?_, rfl⟩ <;> decide +kernel,
   by refine ⟨({ sets up [(Reg.PLC_ZC_CFG_EN 0, 1), (Reg.TIME_STAT_TB4_SYNTH, 0)] with tb1 := 5000000 } : State), (true : Bool), (60000 : BitVec
     16), ?_, ?_, ?_, ?_, ?_⟩ <;> decide +kernel,
   by refine ⟨({ up.setF Reg.TIME_STAT_TB4_SYNTH 0 with tb1 := 990000000 } : State), ?_, ?_⟩ <;> decide +kernel⟩

/-- Each clause of ClockAndAlarmCommandsComplete is met. -/
theorem witness_ClockAndAlarmCommandsComplete :
    (∃ (s : State) (n : Fin 4), s.alarmDue n.val = true ∧ s.domOn .time = true) ∧
    (∃ (s : State) (n : Fin 2), s.rtcDue n.val = true) ∧
    (∃ (s : State) (req : Req) (n : Fin 4) (data : Word), Takes s req 0x05 (0x144 + 0x10 * n.val) ∧ (s.answer 0).alarmDue n.val = false ∧ bitAt
      data.toNat 31 = 0) ∧
    (∃ (s : State) (req : Req) (n : Fin 4) (data : Word), Takes s req 0x05 (0x144 + 0x10 * n.val) ∧ (s.answer 0).alarmDue n.val = false ∧ bitAt
      data.toNat 31 = 1) ∧
    (∃ (s : State) (req : Req) (n : Fin 2) (data : Word), Takes s req 0x04 (0x124 + 8 * n.val) ∧ (s.answer 0).rtcDue n.val = false ∧ bitAt
      data.toNat 31 = 0) ∧
    (∃ (s : State) (req : Req) (n : Fin 2) (data : Word), Takes s req 0x04 (0x124 + 8 * n.val) ∧ (s.answer 0).rtcDue n.val = false ∧ bitAt
      data.toNat 31 = 1) ∧
    (∃ (s : State) (req : Req), TakesF s req Reg.RTC_SET_CTRL_SET) ∧
    (∃ (s : State), s.flag Reg.RTC_SET_CTRL_SET = true) ∧
    (∃ (s : State) (req : Req), TakesF s req Reg.RTC_SET_CTRL_SYNC_TB0 ∧ s.getF Reg.TIME_STAT_TB0_STATE = 2) ∧
    (∃ (s : State) (trim : Nat), 2 ^ 20 ≤ s.time.trimAt ∧ signedOf 8 (s.getF Reg.RTC_TRIM_TRIM) = (trim : Int) ∧ s.time.rtcSub + trim < 32768) ∧
    (∃ (s : State) (trim : Nat), 2 ^ 20 ≤ s.time.trimAt ∧ signedOf 8 (s.getF Reg.RTC_TRIM_TRIM) = (trim : Int) ∧ 32768 ≤ s.time.rtcSub + trim) ∧
    (∃ (s : State) (trim : Nat), 2 ^ 20 ≤ s.time.trimAt ∧ signedOf 8 (s.getF Reg.RTC_TRIM_TRIM) = -(trim : Int) ∧ s.time.rtcSub < 32768) ∧
    (∃ (s : State) (mv : BitVec 13), s.power.main = true ∧ s.time.batAt + nsPerS ≤ s.tb1) ∧
    (∃ (s : State) (req : Req) (data : Word), Takes s req (0x04) (0x134) ∧ bitsOf data.toNat 15 8 = 0xC4 ∧ bitsOf data.toNat 5 4 ≠ 3 ∧ bitsOf
      data.toNat 2 1 ≠ 3) :=
  ⟨by refine ⟨(up.setF (Reg.TIME_ALARM_CTRL_ARM 1) 1 : State), (1 : Fin 4), ?_, ?_⟩ <;> decide +kernel,
   ⟨(up.setF (Reg.RTC_ALARM_CTRL_ARM 1) 1 : State), (1 : Fin 2), by decide +kernel⟩,
   by refine ⟨up, (.trusted : Req), (0 : Fin 4), (5 : Word), ?_, ?_, ?_⟩ <;> decide +kernel,
   by refine ⟨up, (.trusted : Req), (0 : Fin 4), (0x80000005 : Word), ?_, ?_, ?_⟩ <;> decide +kernel,
   by refine ⟨up, (.trusted : Req), (0 : Fin 2), (5 : Word), ?_, ?_, ?_⟩ <;> decide +kernel,
   by refine ⟨up, (.trusted : Req), (0 : Fin 2), (0x80000005 : Word), ?_, ?_, ?_⟩ <;> decide +kernel,
   ⟨up, (.trusted : Req), by decide +kernel⟩,
   ⟨(up.setF Reg.RTC_SET_CTRL_SET 1 : State), by decide +kernel⟩,
   by refine ⟨(up.setF Reg.TIME_STAT_TB0_STATE 2 : State), (.trusted : Req), ?_, ?_⟩ <;> decide +kernel,
   by refine ⟨({ up.setF Reg.RTC_TRIM_TRIM 5 with time := { trimAt := 1048576 } } : State), (5 : Nat), ?_, ?_, ?_⟩ <;> decide +kernel,
   by refine ⟨({ up.setF Reg.RTC_TRIM_TRIM 5 with time := { trimAt := 1048576, rtcSub := 32765 } } : State), (5 : Nat), ?_, ?_,
     ?_⟩ <;> decide +kernel,
   by refine ⟨({ up.setF Reg.RTC_TRIM_TRIM 251 with time := { trimAt := 1048576, rtcSub := 3 } } : State), (5 : Nat), ?_, ?_, ?_⟩ <;> decide +kernel,
   by refine ⟨({ up with tb1 := 99000000000, power := { main := true } } : State), (3000 : BitVec 13), ?_, ?_⟩ <;> decide +kernel,
   by refine ⟨up, (.trusted : Req), (0xC401 : Word), ?_, ?_, ?_, ?_⟩ <;> decide +kernel⟩

/-- Each clause of PtpCommandsComplete is met. -/
theorem witness_PtpCommandsComplete :
    (∃ (s : State) (port : Fin 4) (msg : Bytes), ptpType msg < 4 ∧ (ptpType msg ≠ 0 ∨ s.ptpStamps port.val = false) ∧ s.domOn .port = true) ∧
    (∃ (s : State) (port : Fin 4) (msg : Bytes), ptpType msg = 0 ∧ s.ptpStamps port.val = true ∧ s.domOn .port = true) ∧
    (∃ (s : State) (msg : Bytes), ptpType msg < 4 ∧ ptpType msg ≠ 0 ∧ s.domOn .port = false ∧ s.mode = .listen) ∧
    (∃ (s : State) (a : Bool) (b : Bool), s.flag Reg.PTP_CTRL_LEAP_AUTO = true ∧ (a || b) = true) ∧
    (∃ (s : State) (i : Fin 3) (o : Fin 3) (frame : Bytes) (msg : Bytes) (ago : BitVec 48), s.flag Reg.PTP_CTRL_TC_EN = true ∧ s.tcPort i.val = true
      ∧ s.tcPort o.val = true ∧ ptpPart frame = some msg ∧ ptpType msg = 0 ∧ ptpTwoStep msg = true) ∧
    (∃ (s : State) (i : Fin 3) (o : Fin 3) (frame : Bytes) (msg : Bytes) (ago : BitVec 48), s.flag Reg.PTP_CTRL_TC_EN = true ∧ s.tcPort i.val = true
      ∧ s.tcPort o.val = true ∧ ptpPart frame = some msg ∧ ptpType msg = 0 ∧ ptpTwoStep msg = false ∧ s.flag Reg.PTP_CTRL_TC_MODE = false) ∧
    (∃ (s : State) (i : Fin 3) (o : Fin 3) (frame : Bytes) (msg : Bytes) (ago : BitVec 48), s.flag Reg.PTP_CTRL_TC_EN = true ∧ s.tcPort i.val = true
      ∧ s.tcPort o.val = true ∧ ptpPart frame = some msg ∧ ptpType msg = 0 ∧ ptpTwoStep msg = false ∧ s.flag Reg.PTP_CTRL_TC_MODE = true) ∧
    (∃ (s : State) (i : Fin 3) (o : Fin 3) (frame : Bytes) (msg : Bytes) (ago : BitVec 48), s.flag Reg.PTP_CTRL_TC_EN = true ∧ s.tcPort i.val = true
      ∧ s.tcPort o.val = true ∧ ptpPart frame = some msg ∧ ptpType msg = 1 ∧ s.flag Reg.PTP_CTRL_TC_MODE = false) ∧
    (∃ (s : State) (i : Fin 3) (o : Fin 3) (frame : Bytes) (msg : Bytes) (ago : BitVec 48), s.flag Reg.PTP_CTRL_TC_EN = true ∧ s.tcPort i.val = true
      ∧ s.tcPort o.val = true ∧ ptpPart frame = some msg ∧ (ptpType msg = 2 ∨ ptpType msg = 3 ∨ ptpType msg = 10) ∧ s.flag Reg.PTP_CTRL_TC_MODE =
      false) ∧
    (∃ (s : State) (i : Fin 3) (o : Fin 3) (frame : Bytes) (msg : Bytes) (ago : BitVec 48), s.flag Reg.PTP_CTRL_TC_EN = true ∧ s.tcPort i.val = true
      ∧ s.tcPort o.val = true ∧ ptpPart frame = some msg ∧ (ptpType msg = 2 ∨ ptpType msg = 3 ∨ ptpType msg = 10) ∧ s.flag Reg.PTP_CTRL_TC_MODE =
      true) ∧
    (∃ (s : State) (i : Fin 3) (o : Fin 3) (frame : Bytes) (msg : Bytes) (ago : BitVec 48), s.flag Reg.PTP_CTRL_TC_EN = true ∧ s.tcPort i.val = true
      ∧ s.tcPort o.val = true ∧ ptpPart frame = some msg ∧ (ptpType msg = 8 ∨ ptpType msg = 9 ∨ ptpType msg = 11)) ∧
    (∃ (s : State) (port : Fin 4) (msg : Bytes), s.ptpStamps port.val = true ∧ s.domOn .time = true ∧ ptpType msg < 4 ∧ s.hasCredit 0x168 = true) ∧
    (∃ (s : State) (port : Fin 4) (msg : Bytes), s.ptpStamps port.val = true ∧ s.domOn .time = true ∧ ptpType msg < 4 ∧ s.hasCredit 0x168 = false) :=
  ⟨by refine ⟨(up.setF Reg.PTP_CTRL_ENABLE 1 : State), (1 : Fin 4), ([1] : Bytes), ?_, ?_, ?_⟩ <;> decide +kernel,
   by refine ⟨((up.setF Reg.PTP_CTRL_ENABLE 1).setF (Reg.PTP_PCFG_EN 1) 1 : State), (1 : Fin 4), ([0] : Bytes), ?_, ?_, ?_⟩ <;> decide +kernel,
   by refine ⟨(((upIn 2).setF Reg.CLK_STAT_DOM_RUN 0) : State), ([1] : Bytes), ?_, ?_, ?_, ?_⟩ <;> decide +kernel,
   by refine ⟨(up.setF Reg.PTP_CTRL_LEAP_AUTO 1 : State), (true : Bool), (false : Bool), ?_, ?_⟩ <;> decide +kernel,
   by refine ⟨(sets up [(Reg.PTP_CTRL_TC_EN, 1), (Reg.PTP_PCFG_TC_PORT 0, 1), (Reg.PTP_PCFG_TC_PORT 1, 1), (Reg.PTP_CTRL_TC_MODE, 0)] : State), (0 :
     Fin 3), (1 : Fin 3), (tcFrame [0, 0, 0, 0, 0, 0, 2] : Bytes), ((ptpPart ((tcFrame [0, 0, 0, 0, 0, 0, 2] : Bytes))).get (by decide +kernel)),
     (65536 : BitVec 48), ?_, ?_, ?_, (Option.some_get _).symm, ?_, ?_⟩ <;> decide +kernel,
   by refine ⟨(sets up [(Reg.PTP_CTRL_TC_EN, 1), (Reg.PTP_PCFG_TC_PORT 0, 1), (Reg.PTP_PCFG_TC_PORT 1, 1), (Reg.PTP_CTRL_TC_MODE, 0)] : State), (0 :
     Fin 3), (1 : Fin 3), (tcFrame [0] : Bytes), ((ptpPart ((tcFrame [0] : Bytes))).get (by decide +kernel)), (65536 : BitVec 48), ?_, ?_, ?_,
     (Option.some_get _).symm, ?_, ?_, ?_⟩ <;> decide +kernel,
   by refine ⟨(sets up [(Reg.PTP_CTRL_TC_EN, 1), (Reg.PTP_PCFG_TC_PORT 0, 1), (Reg.PTP_PCFG_TC_PORT 1, 1), (Reg.PTP_CTRL_TC_MODE, 1)] : State), (0 :
     Fin 3), (1 : Fin 3), (tcFrame [0] : Bytes), ((ptpPart ((tcFrame [0] : Bytes))).get (by decide +kernel)), (65536 : BitVec 48), ?_, ?_, ?_,
     (Option.some_get _).symm, ?_, ?_, ?_⟩ <;> decide +kernel,
   by refine ⟨(sets up [(Reg.PTP_CTRL_TC_EN, 1), (Reg.PTP_PCFG_TC_PORT 0, 1), (Reg.PTP_PCFG_TC_PORT 1, 1), (Reg.PTP_CTRL_TC_MODE, 0)] : State), (0 :
     Fin 3), (1 : Fin 3), (tcFrame [1] : Bytes), ((ptpPart ((tcFrame [1] : Bytes))).get (by decide +kernel)), (65536 : BitVec 48), ?_, ?_, ?_,
     (Option.some_get _).symm, ?_, ?_⟩ <;> decide +kernel,
   by refine ⟨(sets up [(Reg.PTP_CTRL_TC_EN, 1), (Reg.PTP_PCFG_TC_PORT 0, 1), (Reg.PTP_PCFG_TC_PORT 1, 1), (Reg.PTP_CTRL_TC_MODE, 0)] : State), (0 :
     Fin 3), (1 : Fin 3), (tcFrame [2] : Bytes), ((ptpPart ((tcFrame [2] : Bytes))).get (by decide +kernel)), (65536 : BitVec 48), ?_, ?_, ?_,
     (Option.some_get _).symm, ?_, ?_⟩ <;> decide +kernel,
   by refine ⟨(sets up [(Reg.PTP_CTRL_TC_EN, 1), (Reg.PTP_PCFG_TC_PORT 0, 1), (Reg.PTP_PCFG_TC_PORT 1, 1), (Reg.PTP_CTRL_TC_MODE, 1)] : State), (0 :
     Fin 3), (1 : Fin 3), (tcFrame [3] : Bytes), ((ptpPart ((tcFrame [3] : Bytes))).get (by decide +kernel)), (65536 : BitVec 48), ?_, ?_, ?_,
     (Option.some_get _).symm, ?_, ?_⟩ <;> decide +kernel,
   by refine ⟨(sets up [(Reg.PTP_CTRL_TC_EN, 1), (Reg.PTP_PCFG_TC_PORT 0, 1), (Reg.PTP_PCFG_TC_PORT 1, 1), (Reg.PTP_CTRL_TC_MODE, 0)] : State), (0 :
     Fin 3), (1 : Fin 3), (tcFrame [8] : Bytes), ((ptpPart ((tcFrame [8] : Bytes))).get (by decide +kernel)), (65536 : BitVec 48), ?_, ?_, ?_,
     (Option.some_get _).symm, ?_⟩ <;> decide +kernel,
   by refine ⟨((sets up [(Reg.PTP_CTRL_ENABLE, 1), (Reg.PTP_PCFG_EN 1, 1)]).setF Reg.CLK_STAT_DOM_RUN 0x1FF : State), (1 : Fin 4), ([0] : Bytes),
     ?_, ?_, ?_, ?_⟩ <;> decide +kernel,
   by refine ⟨(((sets up [(Reg.PTP_CTRL_ENABLE, 1), (Reg.PTP_PCFG_EN 1, 1)]).setQueue 0x168 {}) : State), (1 : Fin 4), ([0] : Bytes), ?_, ?_, ?_,
     ?_⟩ <;> decide +kernel⟩

/-- A clause of PlcCommandsComplete is met. -/
theorem met_PlcCommandsComplete_0 :
    (∃ (s : State) (port : Fin 4) (fch : Bytes) (mac : Bytes) (rx : PlcRx) (t : State) (u : State) (w : State) (x : State) (v : State) (h : PlcFch)
      (ack : Bool), s.portOn port.val = true ∧ t = (s.setGain port.val rx.agc.toNat).count (Reg.PLC_ERASED_CNT_CNT port.val) (rx.symbols.filter
      (s.symbolErased port.val)).length ∧ t.plcHeard port.val fch = (some h, u) ∧ h.ftype = 0 ∧ u.plcForMe port.val h = true ∧ w = u.measure
      port.val h rx.symbols ∧ decoded (w.plcLost port.val h mac rx.symbols) rx.blocks = true ∧ plcMacOk mac = true ∧ w.track port.val = false ∧ leAt
      mac 0 1 = 1 ∧ 1 ≤ h.src ∧ h.src ≤ 0x800 ∧ x = w.hear port.val h.src ∧ x.takeMeter port.val h.src h.seq ((mac.drop 4).take (mac.length - 8)) =
      (v, ack)) :=
  by refine ⟨(fielding.putNode 0 1 (some { id := 7, joined := true }) : State), (0 : Fin 4), (fchOf (0 + 0 * 2 ^ 3 + 1 * 2 ^ 8 + 0 * 2 ^ 44 + 1 * 2
    ^ 60) : Bytes), (plcMac 1 0 zcf : Bytes), (⟨3, [⟨[200], false, []⟩], [(3, 4)]⟩ : PlcRx), _, ((((((fielding.putNode 0 1 (some
    { id := 7, joined := true }) : State)).setGain ((0 : Fin 4)).val ((⟨3, [⟨[200], false, []⟩], [(3, 4)]⟩ : PlcRx)).agc.toNat).count
    (Reg.PLC_ERASED_CNT_CNT ((0 : Fin 4)).val) (((⟨3, [⟨[200], false, []⟩], [(3, 4)]⟩ : PlcRx)).symbols.filter (((fielding.putNode 0 1 (some
    { id := 7, joined := true }) : State)).symbolErased ((0 : Fin 4)).val)).length : State)).plcHeard ((0 : Fin 4)).val ((fchOf (0 + 0 * 2 ^ 3 + 1 *
    2 ^ 8 + 0 * 2 ^ 44 + 1 * 2 ^ 60) : Bytes))).2, _, _, ((((((((((((fielding.putNode 0 1 (some { id := 7, joined := true }) : State)).setGain ((0 :
    Fin 4)).val ((⟨3, [⟨[200], false, []⟩], [(3, 4)]⟩ : PlcRx)).agc.toNat).count (Reg.PLC_ERASED_CNT_CNT ((0 : Fin 4)).val) (((⟨3, [⟨[200], false,
    []⟩], [(3, 4)]⟩ : PlcRx)).symbols.filter (((fielding.putNode 0 1 (some { id := 7, joined := true }) : State)).symbolErased ((0 : Fin
    4)).val)).length : State)).plcHeard ((0 : Fin 4)).val ((fchOf (0 + 0 * 2 ^ 3 + 1 * 2 ^ 8 + 0 * 2 ^ 44 + 1 * 2 ^ 60) : Bytes))).2).measure ((0 :
    Fin 4)).val ((((((((fielding.putNode 0 1 (some { id := 7, joined := true }) : State)).setGain ((0 : Fin 4)).val ((⟨3, [⟨[200], false, []⟩], [(3,
    4)]⟩ : PlcRx)).agc.toNat).count (Reg.PLC_ERASED_CNT_CNT ((0 : Fin 4)).val) (((⟨3, [⟨[200], false, []⟩], [(3, 4)]⟩ : PlcRx)).symbols.filter
    (((fielding.putNode 0 1 (some { id := 7, joined := true }) : State)).symbolErased ((0 : Fin 4)).val)).length : State)).plcHeard ((0 : Fin
    4)).val ((fchOf (0 + 0 * 2 ^ 3 + 1 * 2 ^ 8 + 0 * 2 ^ 44 + 1 * 2 ^ 60) : Bytes))).1.get (by decide +kernel))) ((⟨3, [⟨[200], false, []⟩], [(3,
    4)]⟩ : PlcRx)).symbols : State)).hear ((0 : Fin 4)).val ((((((((fielding.putNode 0 1 (some { id := 7, joined := true }) : State)).setGain ((0 :
    Fin 4)).val ((⟨3, [⟨[200], false, []⟩], [(3, 4)]⟩ : PlcRx)).agc.toNat).count (Reg.PLC_ERASED_CNT_CNT ((0 : Fin 4)).val) (((⟨3, [⟨[200], false,
    []⟩], [(3, 4)]⟩ : PlcRx)).symbols.filter (((fielding.putNode 0 1 (some { id := 7, joined := true }) : State)).symbolErased ((0 : Fin
    4)).val)).length : State)).plcHeard ((0 : Fin 4)).val ((fchOf (0 + 0 * 2 ^ 3 + 1 * 2 ^ 8 + 0 * 2 ^ 44 + 1 * 2 ^ 60) : Bytes))).1.get
    (by decide +kernel))).src : State)).takeMeter ((0 : Fin 4)).val ((((((((fielding.putNode 0 1 (some { id := 7, joined := true }) :
    State)).setGain ((0 : Fin 4)).val ((⟨3, [⟨[200], false, []⟩], [(3, 4)]⟩ : PlcRx)).agc.toNat).count (Reg.PLC_ERASED_CNT_CNT ((0 : Fin 4)).val)
    (((⟨3, [⟨[200], false, []⟩], [(3, 4)]⟩ : PlcRx)).symbols.filter (((fielding.putNode 0 1 (some { id := 7, joined := true }) :
    State)).symbolErased ((0 : Fin 4)).val)).length : State)).plcHeard ((0 : Fin 4)).val ((fchOf (0 + 0 * 2 ^ 3 + 1 * 2 ^ 8 + 0 * 2 ^ 44 + 1 * 2 ^
    60) : Bytes))).1.get (by decide +kernel))).src ((((((((fielding.putNode 0 1 (some { id := 7, joined := true }) : State)).setGain ((0 : Fin
    4)).val ((⟨3, [⟨[200], false, []⟩], [(3, 4)]⟩ : PlcRx)).agc.toNat).count (Reg.PLC_ERASED_CNT_CNT ((0 : Fin 4)).val) (((⟨3, [⟨[200], false, []⟩],
    [(3, 4)]⟩ : PlcRx)).symbols.filter (((fielding.putNode 0 1 (some { id := 7, joined := true }) : State)).symbolErased ((0 : Fin 4)).val)).length
    : State)).plcHeard ((0 : Fin 4)).val ((fchOf (0 + 0 * 2 ^ 3 + 1 * 2 ^ 8 + 0 * 2 ^ 44 + 1 * 2 ^ 60) : Bytes))).1.get (by decide +kernel))).seq
    ((((plcMac 1 0 zcf : Bytes)).drop 4).take (((plcMac 1 0 zcf : Bytes)).length - 8))).1, (((((((fielding.putNode 0 1 (some
    { id := 7, joined := true }) : State)).setGain ((0 : Fin 4)).val ((⟨3, [⟨[200], false, []⟩], [(3, 4)]⟩ : PlcRx)).agc.toNat).count
    (Reg.PLC_ERASED_CNT_CNT ((0 : Fin 4)).val) (((⟨3, [⟨[200], false, []⟩], [(3, 4)]⟩ : PlcRx)).symbols.filter (((fielding.putNode 0 1 (some
    { id := 7, joined := true }) : State)).symbolErased ((0 : Fin 4)).val)).length : State)).plcHeard ((0 : Fin 4)).val ((fchOf (0 + 0 * 2 ^ 3 + 1 *
    2 ^ 8 + 0 * 2 ^ 44 + 1 * 2 ^ 60) : Bytes))).1.get (by decide +kernel)), ((((((((((((fielding.putNode 0 1 (some { id := 7, joined := true }) :
    State)).setGain ((0 : Fin 4)).val ((⟨3, [⟨[200], false, []⟩], [(3, 4)]⟩ : PlcRx)).agc.toNat).count (Reg.PLC_ERASED_CNT_CNT ((0 : Fin 4)).val)
    (((⟨3, [⟨[200], false, []⟩], [(3, 4)]⟩ : PlcRx)).symbols.filter (((fielding.putNode 0 1 (some { id := 7, joined := true }) :
    State)).symbolErased ((0 : Fin 4)).val)).length : State)).plcHeard ((0 : Fin 4)).val ((fchOf (0 + 0 * 2 ^ 3 + 1 * 2 ^ 8 + 0 * 2 ^ 44 + 1 * 2 ^
    60) : Bytes))).2).measure ((0 : Fin 4)).val ((((((((fielding.putNode 0 1 (some { id := 7, joined := true }) : State)).setGain ((0 : Fin 4)).val
    ((⟨3, [⟨[200], false, []⟩], [(3, 4)]⟩ : PlcRx)).agc.toNat).count (Reg.PLC_ERASED_CNT_CNT ((0 : Fin 4)).val) (((⟨3, [⟨[200], false, []⟩], [(3,
    4)]⟩ : PlcRx)).symbols.filter (((fielding.putNode 0 1 (some { id := 7, joined := true }) : State)).symbolErased ((0 : Fin 4)).val)).length :
    State)).plcHeard ((0 : Fin 4)).val ((fchOf (0 + 0 * 2 ^ 3 + 1 * 2 ^ 8 + 0 * 2 ^ 44 + 1 * 2 ^ 60) : Bytes))).1.get (by decide +kernel))) ((⟨3,
    [⟨[200], false, []⟩], [(3, 4)]⟩ : PlcRx)).symbols : State)).hear ((0 : Fin 4)).val ((((((((fielding.putNode 0 1 (some
    { id := 7, joined := true }) : State)).setGain ((0 : Fin 4)).val ((⟨3, [⟨[200], false, []⟩], [(3, 4)]⟩ : PlcRx)).agc.toNat).count
    (Reg.PLC_ERASED_CNT_CNT ((0 : Fin 4)).val) (((⟨3, [⟨[200], false, []⟩], [(3, 4)]⟩ : PlcRx)).symbols.filter (((fielding.putNode 0 1 (some
    { id := 7, joined := true }) : State)).symbolErased ((0 : Fin 4)).val)).length : State)).plcHeard ((0 : Fin 4)).val ((fchOf (0 + 0 * 2 ^ 3 + 1 *
    2 ^ 8 + 0 * 2 ^ 44 + 1 * 2 ^ 60) : Bytes))).1.get (by decide +kernel))).src : State)).takeMeter ((0 : Fin 4)).val ((((((((fielding.putNode 0 1
    (some { id := 7, joined := true }) : State)).setGain ((0 : Fin 4)).val ((⟨3, [⟨[200], false, []⟩], [(3, 4)]⟩ : PlcRx)).agc.toNat).count
    (Reg.PLC_ERASED_CNT_CNT ((0 : Fin 4)).val) (((⟨3, [⟨[200], false, []⟩], [(3, 4)]⟩ : PlcRx)).symbols.filter (((fielding.putNode 0 1 (some
    { id := 7, joined := true }) : State)).symbolErased ((0 : Fin 4)).val)).length : State)).plcHeard ((0 : Fin 4)).val ((fchOf (0 + 0 * 2 ^ 3 + 1 *
    2 ^ 8 + 0 * 2 ^ 44 + 1 * 2 ^ 60) : Bytes))).1.get (by decide +kernel))).src ((((((((fielding.putNode 0 1 (some { id := 7, joined := true }) :
    State)).setGain ((0 : Fin 4)).val ((⟨3, [⟨[200], false, []⟩], [(3, 4)]⟩ : PlcRx)).agc.toNat).count (Reg.PLC_ERASED_CNT_CNT ((0 : Fin 4)).val)
    (((⟨3, [⟨[200], false, []⟩], [(3, 4)]⟩ : PlcRx)).symbols.filter (((fielding.putNode 0 1 (some { id := 7, joined := true }) :
    State)).symbolErased ((0 : Fin 4)).val)).length : State)).plcHeard ((0 : Fin 4)).val ((fchOf (0 + 0 * 2 ^ 3 + 1 * 2 ^ 8 + 0 * 2 ^ 44 + 1 * 2 ^
    60) : Bytes))).1.get (by decide +kernel))).seq ((((plcMac 1 0 zcf : Bytes)).drop 4).take (((plcMac 1 0 zcf : Bytes)).length - 8))).2, ?_, rfl,
    ?_, ?_, ?_, rfl, ?_, ?_, ?_, ?_, ?_, ?_, rfl, pair_eq _⟩ <;> decide +kernel

/-- A clause of PlcCommandsComplete is met. -/
theorem met_PlcCommandsComplete_1 :
    (∃ (s : State) (port : Fin 4) (fch : Bytes) (mac : Bytes) (rx : PlcRx) (t : State) (u : State) (w : State) (h : PlcFch), s.portOn port.val =
      true ∧ t = (s.setGain port.val rx.agc.toNat).count (Reg.PLC_ERASED_CNT_CNT port.val) (rx.symbols.filter (s.symbolErased port.val)).length ∧
      t.plcHeard port.val fch = (some h, u) ∧ h.ftype = 0 ∧ u.plcForMe port.val h = true ∧ w = u.measure port.val h rx.symbols ∧ decoded (w.plcLost
      port.val h mac rx.symbols) rx.blocks = true ∧ plcMacOk mac = true ∧ w.track port.val = false) :=
  by refine ⟨fielding, (0 : Fin 4), (fchOf (0 + 0 * 2 ^ 3 + 1 * 2 ^ 8 + 0xFFFF * 2 ^ 44 + 1 * 2 ^ 60) : Bytes), (plcMac 0 0 [] : Bytes), (⟨3,
    [⟨[200], false, []⟩], [(3, 4)]⟩ : PlcRx), _, ((((fielding.setGain ((0 : Fin 4)).val ((⟨3, [⟨[200], false, []⟩], [(3, 4)]⟩ :
    PlcRx)).agc.toNat).count (Reg.PLC_ERASED_CNT_CNT ((0 : Fin 4)).val) (((⟨3, [⟨[200], false, []⟩], [(3, 4)]⟩ : PlcRx)).symbols.filter
    (fielding.symbolErased ((0 : Fin 4)).val)).length : State)).plcHeard ((0 : Fin 4)).val ((fchOf (0 + 0 * 2 ^ 3 + 1 * 2 ^ 8 + 0xFFFF * 2 ^ 44 + 1
    * 2 ^ 60) : Bytes))).2, _, (((((fielding.setGain ((0 : Fin 4)).val ((⟨3, [⟨[200], false, []⟩], [(3, 4)]⟩ : PlcRx)).agc.toNat).count
    (Reg.PLC_ERASED_CNT_CNT ((0 : Fin 4)).val) (((⟨3, [⟨[200], false, []⟩], [(3, 4)]⟩ : PlcRx)).symbols.filter (fielding.symbolErased ((0 : Fin
    4)).val)).length : State)).plcHeard ((0 : Fin 4)).val ((fchOf (0 + 0 * 2 ^ 3 + 1 * 2 ^ 8 + 0xFFFF * 2 ^ 44 + 1 * 2 ^ 60) : Bytes))).1.get
    (by decide +kernel)), ?_, rfl, ?_, ?_, ?_, rfl, ?_, ?_, ?_⟩ <;> decide +kernel

/-- A clause of PlcCommandsComplete is met. -/
theorem met_PlcCommandsComplete_2 :
    (∃ (s : State) (port : Fin 4) (fch : Bytes) (mac : Bytes) (rx : PlcRx) (t : State) (u : State) (w : State) (h : PlcFch), s.portOn port.val =
      true ∧ t = (s.setGain port.val rx.agc.toNat).count (Reg.PLC_ERASED_CNT_CNT port.val) (rx.symbols.filter (s.symbolErased port.val)).length ∧
      t.plcHeard port.val fch = (some h, u) ∧ h.ftype = 0 ∧ u.plcForMe port.val h = true ∧ w = u.measure port.val h rx.symbols ∧ decoded (w.plcLost
      port.val h mac rx.symbols) rx.blocks = true ∧ plcMacOk mac = true ∧ w.track port.val = true) :=
  by refine ⟨(fielding.setF (Reg.PLC_CTRL_ROLE 0) 1 : State), (0 : Fin 4), (fchOf (0 + 0 * 2 ^ 3 + 1 * 2 ^ 8 + 0 * 2 ^ 44 + 1 * 2 ^ 60) : Bytes),
    (plcMac 0 0 [] : Bytes), (⟨3, [⟨[200], false, []⟩], [(3, 4)]⟩ : PlcRx), _, ((((((fielding.setF (Reg.PLC_CTRL_ROLE 0) 1 : State)).setGain ((0 :
    Fin 4)).val ((⟨3, [⟨[200], false, []⟩], [(3, 4)]⟩ : PlcRx)).agc.toNat).count (Reg.PLC_ERASED_CNT_CNT ((0 : Fin 4)).val) (((⟨3, [⟨[200], false,
    []⟩], [(3, 4)]⟩ : PlcRx)).symbols.filter (((fielding.setF (Reg.PLC_CTRL_ROLE 0) 1 : State)).symbolErased ((0 : Fin 4)).val)).length :
    State)).plcHeard ((0 : Fin 4)).val ((fchOf (0 + 0 * 2 ^ 3 + 1 * 2 ^ 8 + 0 * 2 ^ 44 + 1 * 2 ^ 60) : Bytes))).2, _, (((((((fielding.setF
    (Reg.PLC_CTRL_ROLE 0) 1 : State)).setGain ((0 : Fin 4)).val ((⟨3, [⟨[200], false, []⟩], [(3, 4)]⟩ : PlcRx)).agc.toNat).count
    (Reg.PLC_ERASED_CNT_CNT ((0 : Fin 4)).val) (((⟨3, [⟨[200], false, []⟩], [(3, 4)]⟩ : PlcRx)).symbols.filter (((fielding.setF (Reg.PLC_CTRL_ROLE
    0) 1 : State)).symbolErased ((0 : Fin 4)).val)).length : State)).plcHeard ((0 : Fin 4)).val ((fchOf (0 + 0 * 2 ^ 3 + 1 * 2 ^ 8 + 0 * 2 ^ 44 + 1
    * 2 ^ 60) : Bytes))).1.get (by decide +kernel)), ?_, rfl, ?_, ?_, ?_, rfl, ?_, ?_, ?_⟩ <;> decide +kernel

/-- A clause of PlcCommandsComplete is met. -/
theorem met_PlcCommandsComplete_3 :
    (∃ (s : State) (port : Fin 4) (fch : Bytes) (mac : Bytes) (rx : PlcRx) (t : State) (u : State) (h : PlcFch), s.portOn port.val = true ∧ t =
      (s.setGain port.val rx.agc.toNat).count (Reg.PLC_ERASED_CNT_CNT port.val) (rx.symbols.filter (s.symbolErased port.val)).length ∧ t.plcHeard
      port.val fch = (some h, u) ∧ h.ftype = 1) :=
  by refine ⟨fielding, (0 : Fin 4), (fchOf (1 + 0 * 2 ^ 3 + 1 * 2 ^ 8 + 0 * 2 ^ 44 + 1 * 2 ^ 60) : Bytes), ([] : Bytes), (⟨3, [⟨[200], false, []⟩],
    [(3, 4)]⟩ : PlcRx), _, ((((fielding.setGain ((0 : Fin 4)).val ((⟨3, [⟨[200], false, []⟩], [(3, 4)]⟩ : PlcRx)).agc.toNat).count
    (Reg.PLC_ERASED_CNT_CNT ((0 : Fin 4)).val) (((⟨3, [⟨[200], false, []⟩], [(3, 4)]⟩ : PlcRx)).symbols.filter (fielding.symbolErased ((0 : Fin
    4)).val)).length : State)).plcHeard ((0 : Fin 4)).val ((fchOf (1 + 0 * 2 ^ 3 + 1 * 2 ^ 8 + 0 * 2 ^ 44 + 1 * 2 ^ 60) : Bytes))).2,
    (((((fielding.setGain ((0 : Fin 4)).val ((⟨3, [⟨[200], false, []⟩], [(3, 4)]⟩ : PlcRx)).agc.toNat).count (Reg.PLC_ERASED_CNT_CNT ((0 : Fin
    4)).val) (((⟨3, [⟨[200], false, []⟩], [(3, 4)]⟩ : PlcRx)).symbols.filter (fielding.symbolErased ((0 : Fin 4)).val)).length : State)).plcHeard
    ((0 : Fin 4)).val ((fchOf (1 + 0 * 2 ^ 3 + 1 * 2 ^ 8 + 0 * 2 ^ 44 + 1 * 2 ^ 60) : Bytes))).1.get (by decide +kernel)), ?_, rfl, ?_,
    ?_⟩ <;> decide +kernel

/-- A clause of PlcCommandsComplete is met. -/
theorem met_PlcCommandsComplete_4 :
    (∃ (s : State) (port : Fin 4) (fch : Bytes) (mac : Bytes) (rx : PlcRx) (t : State) (u : State) (w : State) (h : PlcFch), s.portOn port.val =
      true ∧ t = (s.setGain port.val rx.agc.toNat).count (Reg.PLC_ERASED_CNT_CNT port.val) (rx.symbols.filter (s.symbolErased port.val)).length ∧
      t.plcHeard port.val fch = (some h, u) ∧ h.ftype = 0 ∧ u.plcForMe port.val h = true ∧ w = u.measure port.val h rx.symbols ∧ (decoded (w.plcLost
      port.val h mac rx.symbols) rx.blocks = false ∨ plcMacOk mac = false)) :=
  by refine ⟨fielding, (0 : Fin 4), (fchOf (0 + 0 * 2 ^ 3 + 1 * 2 ^ 8 + 0 * 2 ^ 44 + 1 * 2 ^ 60) : Bytes), ([] : Bytes), (⟨3, [⟨[200], false, []⟩],
    [(9, 0)]⟩ : PlcRx), _, ((((fielding.setGain ((0 : Fin 4)).val ((⟨3, [⟨[200], false, []⟩], [(9, 0)]⟩ : PlcRx)).agc.toNat).count
    (Reg.PLC_ERASED_CNT_CNT ((0 : Fin 4)).val) (((⟨3, [⟨[200], false, []⟩], [(9, 0)]⟩ : PlcRx)).symbols.filter (fielding.symbolErased ((0 : Fin
    4)).val)).length : State)).plcHeard ((0 : Fin 4)).val ((fchOf (0 + 0 * 2 ^ 3 + 1 * 2 ^ 8 + 0 * 2 ^ 44 + 1 * 2 ^ 60) : Bytes))).2, _,
    (((((fielding.setGain ((0 : Fin 4)).val ((⟨3, [⟨[200], false, []⟩], [(9, 0)]⟩ : PlcRx)).agc.toNat).count (Reg.PLC_ERASED_CNT_CNT ((0 : Fin
    4)).val) (((⟨3, [⟨[200], false, []⟩], [(9, 0)]⟩ : PlcRx)).symbols.filter (fielding.symbolErased ((0 : Fin 4)).val)).length : State)).plcHeard
    ((0 : Fin 4)).val ((fchOf (0 + 0 * 2 ^ 3 + 1 * 2 ^ 8 + 0 * 2 ^ 44 + 1 * 2 ^ 60) : Bytes))).1.get (by decide +kernel)), ?_, rfl, ?_, ?_, ?_, rfl,
    ?_⟩ <;> decide +kernel

/-- A clause of PlcCommandsComplete is met. -/
theorem met_PlcCommandsComplete_5 :
    (∃ (s : State) (port : Fin 4) (fch : Bytes) (mac : Bytes) (rx : PlcRx) (t : State) (u : State), s.portOn port.val = true ∧ t = (s.setGain
      port.val rx.agc.toNat).count (Reg.PLC_ERASED_CNT_CNT port.val) (rx.symbols.filter (s.symbolErased port.val)).length ∧ t.plcHeard port.val fch
      = (none, u)) :=
  by refine ⟨fielding, (0 : Fin 4), ([] : Bytes), ([] : Bytes), (⟨3, [⟨[200], false, []⟩], [(3, 4)]⟩ : PlcRx), _, ((((fielding.setGain ((0 : Fin
    4)).val ((⟨3, [⟨[200], false, []⟩], [(3, 4)]⟩ : PlcRx)).agc.toNat).count (Reg.PLC_ERASED_CNT_CNT ((0 : Fin 4)).val) (((⟨3, [⟨[200], false, []⟩],
    [(3, 4)]⟩ : PlcRx)).symbols.filter (fielding.symbolErased ((0 : Fin 4)).val)).length : State)).plcHeard ((0 : Fin 4)).val (([] : Bytes))).2, ?_,
    rfl, ?_⟩ <;> decide +kernel

/-- A clause of PlcCommandsComplete is met. -/
theorem met_PlcCommandsComplete_6 :
    (∃ (s : State) (port : Fin 4) (fch : Bytes) (mac : Bytes) (rx : PlcRx) (t : State) (u : State) (h : PlcFch), s.portOn port.val = true ∧ t =
      (s.setGain port.val rx.agc.toNat).count (Reg.PLC_ERASED_CNT_CNT port.val) (rx.symbols.filter (s.symbolErased port.val)).length ∧ t.plcHeard
      port.val fch = (some h, u) ∧ h.ftype ≠ 1 ∧ u.plcForMe port.val h = false) :=
  by refine ⟨fielding, (0 : Fin 4), (fchOf (0 + 0 * 2 ^ 3 + 1 * 2 ^ 8 + 5 * 2 ^ 44 + 1 * 2 ^ 60) : Bytes), ([] : Bytes), (⟨3, [⟨[200], false, []⟩],
    [(3, 4)]⟩ : PlcRx), _, ((((fielding.setGain ((0 : Fin 4)).val ((⟨3, [⟨[200], false, []⟩], [(3, 4)]⟩ : PlcRx)).agc.toNat).count
    (Reg.PLC_ERASED_CNT_CNT ((0 : Fin 4)).val) (((⟨3, [⟨[200], false, []⟩], [(3, 4)]⟩ : PlcRx)).symbols.filter (fielding.symbolErased ((0 : Fin
    4)).val)).length : State)).plcHeard ((0 : Fin 4)).val ((fchOf (0 + 0 * 2 ^ 3 + 1 * 2 ^ 8 + 5 * 2 ^ 44 + 1 * 2 ^ 60) : Bytes))).2,
    (((((fielding.setGain ((0 : Fin 4)).val ((⟨3, [⟨[200], false, []⟩], [(3, 4)]⟩ : PlcRx)).agc.toNat).count (Reg.PLC_ERASED_CNT_CNT ((0 : Fin
    4)).val) (((⟨3, [⟨[200], false, []⟩], [(3, 4)]⟩ : PlcRx)).symbols.filter (fielding.symbolErased ((0 : Fin 4)).val)).length : State)).plcHeard
    ((0 : Fin 4)).val ((fchOf (0 + 0 * 2 ^ 3 + 1 * 2 ^ 8 + 5 * 2 ^ 44 + 1 * 2 ^ 60) : Bytes))).1.get (by decide +kernel)), ?_, rfl, ?_, ?_,
    ?_⟩ <;> decide +kernel

/-- A clause of PlcCommandsComplete is met. -/
theorem met_PlcCommandsComplete_7 :
    (∃ (s : State) (t : State) (port : Fin 4) (a : OwedAck) (gen : Nat), s.portOn port.val = true ∧ s.track port.val = false ∧ (s.port port.val).ack
      = some a ∧ a.due ≤ s.tb1 ∧ gen = ((s.portNode port.val a.dst).map (·.rxGen)).getD 0 ∧ t = s.setPort port.val
      { s.port port.val with ack := none } ∧ s.hitsGuard port.val (s.plcHead port.val) = false) :=
  by refine ⟨((fielding.setF (Reg.PLC_CTRL_ACCESS 0) 1).setPort 0 { ack := some ⟨1, 0, 0, 0⟩ } : State), _, (0 : Fin 4), ((((((fielding.setF
    (Reg.PLC_CTRL_ACCESS 0) 1).setPort 0 { ack := some ⟨1, 0, 0, 0⟩ } : State)).port ((0 : Fin 4)).val).ack).get (by decide +kernel)), _, ?_, ?_,
    (Option.some_get _).symm, ?_, rfl, rfl, ?_⟩ <;> decide +kernel

/-- A clause of PlcCommandsComplete is met. -/
theorem met_PlcCommandsComplete_8 :
    (∃ (s : State) (t : State) (port : Fin 4) (a : OwedAck), s.portOn port.val = true ∧ s.track port.val = false ∧ (s.port port.val).ack = some a ∧
      a.due ≤ s.tb1 ∧ t = s.setPort port.val { s.port port.val with ack := none } ∧ s.hitsGuard port.val (s.plcHead port.val) = true) :=
  by refine ⟨(fielding.setPort 0 { ack := some ⟨1, 0, 0, 0⟩ } : State), _, (0 : Fin 4), (((((fielding.setPort 0 { ack := some ⟨1, 0, 0, 0⟩ } :
    State)).port ((0 : Fin 4)).val).ack).get (by decide +kernel)), ?_, ?_, (Option.some_get _).symm, ?_, rfl, ?_⟩ <;> decide +kernel

/-- A clause of PlcCommandsComplete is met. -/
theorem met_PlcCommandsComplete_9 :
    (∃ (s : State) (u : State) (port : Fin 4) (t : PortTx) (a : Nat), (s.port port.val).wait = some (t, a) ∧ a ≤ s.tb1 ∧ u = s.setPort port.val
      { s.port port.val with wait := none, cw := (s.port port.val).cw + 1 } ∧ t.attempts < 1 + s.getF (Reg.PLC_ACCESS_CFG_RETRY_MAX port.val)) :=
  by refine ⟨(fielding.setPort 0 { wait := some ({}, 0) } : State), _, (0 : Fin 4), ({} : PortTx), (0 : Nat), ?_, ?_, rfl, ?_⟩ <;> decide +kernel

/-- A clause of PlcCommandsComplete is met. -/
theorem met_PlcCommandsComplete_10 :
    (∃ (s : State) (u : State) (port : Fin 4) (t : PortTx) (a : Nat), (s.port port.val).wait = some (t, a) ∧ a ≤ s.tb1 ∧ u = s.setPort port.val
      { s.port port.val with wait := none, cw := (s.port port.val).cw + 1 } ∧ 1 + s.getF (Reg.PLC_ACCESS_CFG_RETRY_MAX port.val) ≤ t.attempts) :=
  by refine ⟨(fielding.setPort 0 { wait := some ({ attempts := 99 }, 0) } : State), _, (0 : Fin 4), ({ attempts := 99 } : PortTx), (0 : Nat), ?_,
    ?_, rfl, ?_⟩ <;> decide +kernel

/-- A clause of PlcCommandsComplete is met. -/
theorem met_PlcCommandsComplete_11 :
    (∃ (s : State) (u : State) (v : State) (port : Fin 4) (heard : Option (Fin 4)) (t : PortTx) (slots : Nat) (sync : Nat), contender (s.port
      port.val).out = some t ∧ s.portOn port.val = true ∧ s.track port.val = false ∧ (s.port port.val).wait = none ∧ (s.port port.val).contend =
      none ∧ (s.port port.val).freeAt ≤ s.tb1 ∧ (∀ h : Fin 4, heard = some h → h.val ≤ t.prio) ∧ slots = s.plcTrigger port.val + s.getF
      (Reg.PLC_ACCESS_CFG_LW_SYM port.val) * 350000 ∧ s.plcMayStart port.val (slots + 2800000 - s.tb1) = true ∧ sync = slots + (3 - t.prio) * 700000
      ∧ u = s.drawBackoff port.val t ∧ v = u.drive port.val sync (sync + 320000) (List.replicate (u.plcNu port.val) 16)) :=
  by refine ⟨((fielding.setF (Reg.PLC_CTRL_ACCESS 0) 1).setPort 0 { out := [{ backoff := some 0 }] } : State), _, _, (0 : Fin 4), (none : Option
    (Fin 4)), ({ backoff := some 0 } : PortTx), _, _, ?_, ?_, ?_, ?_, ?_, ?_, ?_, rfl, ?_, rfl, rfl, rfl⟩ <;> decide +kernel

/-- A clause of PlcCommandsComplete is met. -/
theorem met_PlcCommandsComplete_12 :
    (∃ (s : State) (port : Fin 4) (h : Fin 4) (t : PortTx) (slots : Nat), contender (s.port port.val).out = some t ∧ s.portOn port.val = true ∧
      s.track port.val = false ∧ (s.port port.val).wait = none ∧ (s.port port.val).contend = none ∧ (s.port port.val).freeAt ≤ s.tb1 ∧ t.prio <
      h.val ∧ slots = s.plcTrigger port.val + s.getF (Reg.PLC_ACCESS_CFG_LW_SYM port.val) * 350000 ∧ s.plcMayStart port.val (slots + 2800000 -
      s.tb1) = true) :=
  by refine ⟨((fielding.setF (Reg.PLC_CTRL_ACCESS 0) 1).setPort 0 { out := [{ backoff := some 0 }] } : State), (0 : Fin 4), (3 : Fin 4),
    ({ backoff := some 0 } : PortTx), _, ?_, ?_, ?_, ?_, ?_, ?_, ?_, rfl, ?_⟩ <;> decide +kernel

/-- A clause of PlcCommandsComplete is met. -/
theorem met_PlcCommandsComplete_13 :
    (∃ (s : State) (port : Fin 4) (i : Nat) (b : Nat) (t : PortTx), (s.port port.val).contend = some (i, b) ∧ ((s.port port.val).out.find? (fun t =>
      t.id == i) = some t) ∧ s.portOn port.val = true ∧ s.track port.val = false ∧ b + t.backoff.getD 0 * 700000 ≤ s.tb1 ∧ (s.plcMayStart port.val
      (s.plcHead port.val + (s.plcPlan port.val t (plcMac t.mtype 0 t.body).length).nsym * 350000 + (if t.ackReq then s.plcAckEnd port.val else 0))
      = true)) :=
  by refine ⟨((fielding.setF (Reg.PLC_CTRL_ACCESS 0) 1).setPort 0 { out := [{}], contend := some (0, 0) } : State), (0 : Fin 4), (0 : Nat), (0 :
    Nat), ({} : PortTx), ?_, ?_, ?_, ?_, ?_, ?_⟩ <;> decide +kernel

/-- A clause of PlcCommandsComplete is met. -/
theorem met_PlcCommandsComplete_14 :
    (∃ (s : State) (port : Fin 4) (b : Nat) (n : Nat) (body : Bytes), s.portOn port.val = true ∧ s.track port.val = false ∧ s.flag
      (Reg.PLC_CTRL_ACCESS port.val) = false ∧ (s.port port.val).next ≤ s.ns3 ∧ (b = (if s.ns3 < (s.port port.val).next + s.beaconPeriod port.val
      then (s.port port.val).next else s.beaconFrom port.val (s.ns3 + 1 - s.beaconPeriod port.val))) ∧ n = s.beaconFrom port.val (b + s.beaconPeriod
      port.val) ∧ body = s.beaconBody port.val b n (s.getF (Reg.PLC_BEACON_CFG_NSLOT port.val)) (s.getF (Reg.PLC_SLOT_CFG_SLOT_MS port.val)) (s.getF
      (Reg.PLC_SLOT_CFG_CAP_MS port.val))) :=
  by refine ⟨fielding, (0 : Fin 4), _, _, _, ?_, ?_, ?_, ?_, rfl, rfl, rfl⟩ <;> decide +kernel

/-- A clause of PlcCommandsComplete is met. -/
theorem met_PlcCommandsComplete_15 :
    (∃ (s : State) (port : Fin 4) (n : Nat), s.portOn port.val = true ∧ s.track port.val = false ∧ s.flag (Reg.PLC_CTRL_ACCESS port.val) = true ∧
      (s.port port.val).next ≤ s.ns3 ∧ n = s.beaconFrom port.val (s.ns3 + s.beaconPeriod port.val)) :=
  by refine ⟨(fielding.setF (Reg.PLC_CTRL_ACCESS 0) 1 : State), (0 : Fin 4), _, ?_, ?_, ?_, ?_, rfl⟩ <;> decide +kernel

/-- A clause of PlcCommandsComplete is met. -/
theorem met_PlcCommandsComplete_16 :
    (∃ (s : State) (t : State) (port : Fin 4) (fch : Bytes) (ident : BitVec 64) (b : Bool) (rx : PlcRx) (h : PlcFch), s.portOn port.val = true ∧
      s.plcReceive port.val fch (plcMac 0x10 0 (beBytes 8 ident.toNat ++ [if b then 1 else 0])) rx = (some h, t) ∧ h.ftype = 0 ∧ h.src = 0xFFFE ∧
      t.track port.val = false) :=
  by refine ⟨fielding, (fielding.plcReceive ((0 : Fin 4)).val ((fchOf (0 + 0 * 2 ^ 3 + 1 * 2 ^ 8 + 0 * 2 ^ 44 + 0xFFFE * 2 ^ 60) : Bytes)) (plcMac
    0x10 0 (beBytes 8 ((7 : BitVec 64)).toNat ++ [if ((false : Bool)) then 1 else 0])) ((⟨3, [⟨[200], false, []⟩], [(3, 4)]⟩ : PlcRx))).2, (0 : Fin
    4), (fchOf (0 + 0 * 2 ^ 3 + 1 * 2 ^ 8 + 0 * 2 ^ 44 + 0xFFFE * 2 ^ 60) : Bytes), (7 : BitVec 64), (false : Bool), (⟨3, [⟨[200], false, []⟩], [(3,
    4)]⟩ : PlcRx), ((fielding.plcReceive ((0 : Fin 4)).val ((fchOf (0 + 0 * 2 ^ 3 + 1 * 2 ^ 8 + 0 * 2 ^ 44 + 0xFFFE * 2 ^ 60) : Bytes)) (plcMac 0x10
    0 (beBytes 8 ((7 : BitVec 64)).toNat ++ [if ((false : Bool)) then 1 else 0])) ((⟨3, [⟨[200], false, []⟩], [(3, 4)]⟩ : PlcRx))).1.get
    (by decide +kernel)), ?_, ?_, ?_, ?_, ?_⟩ <;> decide +kernel

/-- A clause of PlcCommandsComplete is met. -/
theorem met_PlcCommandsComplete_17 :
    (∃ (s : State) (t : State) (u : State) (port : Fin 4) (fch : Bytes) (ident : BitVec 64) (b : Bool) (rx : PlcRx) (h : PlcFch) (nodes : List (Nat
      × PortNode)) (a : Nat), s.portOn port.val = true ∧ s.plcReceive port.val fch (plcMac 0x10 0 (beBytes 8 ident.toNat ++ [if b then 1 else 0]))
      rx = (some h, t) ∧ h.ftype = 0 ∧ h.src = 0xFFFE ∧ t.track port.val = false ∧ u = t.hear port.val h.src ∧ nodes = (u.port
      port.val).nodes.filterMap (fun e => e.2.map (fun n => (e.1, n))) ∧ u.flag (Reg.PLC_JOIN_CFG_OPEN port.val) = true ∧ u.flag
      (Reg.PLC_JOIN_CFG_POLICY port.val) = true ∧ u.flag (Reg.PLC_CTRL_ACCESS port.val) = true ∧ u.portAddr port.val ident.toNat = none ∧
      nodes.length < 2048 ∧ u.hasCredit 0x80 = true ∧ lowestFree (nodes.map (·.1)) 1 2048 = some a) :=
  by refine ⟨(sets fielding [(Reg.PLC_JOIN_CFG_OPEN 0, 1), (Reg.PLC_JOIN_CFG_POLICY 0, 1), (Reg.PLC_CTRL_ACCESS 0, 1)] : State), (((sets fielding
    [(Reg.PLC_JOIN_CFG_OPEN 0, 1), (Reg.PLC_JOIN_CFG_POLICY 0, 1), (Reg.PLC_CTRL_ACCESS 0, 1)] : State)).plcReceive ((0 : Fin 4)).val ((fchOf (0 + 0
    * 2 ^ 3 + 1 * 2 ^ 8 + 0 * 2 ^ 44 + 0xFFFE * 2 ^ 60) : Bytes)) (plcMac 0x10 0 (beBytes 8 ((7 : BitVec 64)).toNat ++ [if ((true : Bool)) then 1
    else 0])) ((⟨3, [⟨[200], false, []⟩], [(3, 4)]⟩ : PlcRx))).2, _, (0 : Fin 4), (fchOf (0 + 0 * 2 ^ 3 + 1 * 2 ^ 8 + 0 * 2 ^ 44 + 0xFFFE * 2 ^ 60)
    : Bytes), (7 : BitVec 64), (true : Bool), (⟨3, [⟨[200], false, []⟩], [(3, 4)]⟩ : PlcRx), ((((sets fielding [(Reg.PLC_JOIN_CFG_OPEN 0, 1),
    (Reg.PLC_JOIN_CFG_POLICY 0, 1), (Reg.PLC_CTRL_ACCESS 0, 1)] : State)).plcReceive ((0 : Fin 4)).val ((fchOf (0 + 0 * 2 ^ 3 + 1 * 2 ^ 8 + 0 * 2 ^
    44 + 0xFFFE * 2 ^ 60) : Bytes)) (plcMac 0x10 0 (beBytes 8 ((7 : BitVec 64)).toNat ++ [if ((true : Bool)) then 1 else 0])) ((⟨3, [⟨[200], false,
    []⟩], [(3, 4)]⟩ : PlcRx))).1.get (by decide +kernel)), _, (1 : Nat), ?_, ?_, ?_, ?_, ?_, rfl, rfl, ?_, ?_, ?_, ?_, ?_, ?_,
    ?_⟩ <;> decide +kernel

/-- A clause of PlcCommandsComplete is met. -/
theorem met_PlcCommandsComplete_18 :
    (∃ (s : State) (port : Fin 4) (addr : BitVec 16) (n : PortNode) (hours : Nat), s.portOn port.val = true ∧ s.portNode port.val addr.toNat = some
      n ∧ n.joined = true ∧ hours = s.getF (Reg.PLC_JOIN_CFG_AGE_H port.val) ∧ hours ≠ 0 ∧ n.heardAt + hours * 3600 * nsPerS ≤ s.tb1) :=
  by refine ⟨({ (fielding.setF (Reg.PLC_JOIN_CFG_AGE_H 0) 1).putNode 0 7 (some { joined := true }) with tb1 := 3600 * nsPerS } : State), (0 : Fin
    4), (7 : BitVec 16), ({ joined := true } : PortNode), _, ?_, ?_, ?_, rfl, ?_, ?_⟩ <;> decide +kernel

/-- A clause of PlcCommandsComplete is met. -/
theorem met_PlcCommandsComplete_19 :
    (∃ (s : State) (port : Fin 4) (addr : BitVec 16) (force : BitVec 6) (n : PortNode) (set : Bytes), s.portOn port.val = true ∧ s.track port.val =
      false ∧ s.portNode port.val addr.toNat = some n ∧ set = (List.range 6).flatMap (fun seg => s.newMap port.val n seg (n.rxGen % 15 + 1)
      (force.getLsbD seg)) ∧ mapsOf set ≠ mapsOf (s.setInForce port.val n)) :=
  by refine ⟨(fielding.setPort 0 { nodes := [(1, some {})] } : State), (0 : Fin 4), (1 : BitVec 16), (0x3F : BitVec 6), ((((fielding.setPort 0
    { nodes := [(1, some {})] } : State)).portNode ((0 : Fin 4)).val ((1 : BitVec 16)).toNat).get (by decide +kernel)), _, ?_, ?_, (Option.some_get
    _).symm, rfl, ?_⟩ <;> decide +kernel

/-- A clause of PlcCommandsComplete is met. -/
theorem met_PlcCommandsComplete_20 :
    (∃ (s : State) (t : State) (u : State) (port : Fin 4) (fch : Bytes) (rx : PlcRx) (h : PlcFch) (n : PortNode), s.portOn port.val = true ∧
      s.plcReceive port.val fch (plcMac 0x20 0 []) rx = (some h, t) ∧ h.ftype = 0 ∧ t.track port.val = false ∧ u = t.hear port.val h.src ∧
      u.portNode port.val h.src = some n) :=
  by refine ⟨(fielding.putNode 0 7 (some {}) : State), (((fielding.putNode 0 7 (some {}) : State)).plcReceive ((0 : Fin 4)).val ((fchOf (0 + 0 * 2 ^
    3 + 1 * 2 ^ 8 + 0 * 2 ^ 44 + 7 * 2 ^ 60) : Bytes)) (plcMac 0x20 0 []) ((⟨3, [⟨[200], false, []⟩], [(3, 4)]⟩ : PlcRx))).2, _, (0 : Fin 4), (fchOf
    (0 + 0 * 2 ^ 3 + 1 * 2 ^ 8 + 0 * 2 ^ 44 + 7 * 2 ^ 60) : Bytes), (⟨3, [⟨[200], false, []⟩], [(3, 4)]⟩ : PlcRx), ((((fielding.putNode 0 7 (some
    {}) : State)).plcReceive ((0 : Fin 4)).val ((fchOf (0 + 0 * 2 ^ 3 + 1 * 2 ^ 8 + 0 * 2 ^ 44 + 7 * 2 ^ 60) : Bytes)) (plcMac 0x20 0 []) ((⟨3,
    [⟨[200], false, []⟩], [(3, 4)]⟩ : PlcRx))).1.get (by decide +kernel)), ({} : PortNode), ?_, ?_, ?_, ?_, rfl, ?_⟩ <;> decide +kernel

/-- A clause of PlcCommandsComplete is met. -/
theorem met_PlcCommandsComplete_21 :
    (∃ (s : State) (t : State) (u : State) (port : Fin 4) (fch : Bytes) (body : Bytes) (rx : PlcRx) (h : PlcFch) (start : Nat), s.portOn port.val =
      true ∧ s.plcReceive port.val fch (plcMac 0x30 0 body) rx = (some h, t) ∧ h.ftype = 2 ∧ t.track port.val = true ∧ u = (t.hear port.val
      h.src).forwardFrame port.val h.src h.seq (plcMac 0x30 0 body) ∧ start = u.ns3 - (u.plcHead port.val + h.nsym * 350000) ∧ (u.nodeStateOf
      port.val ≤ 1 ∨ (start ≤ (u.port port.val).next + 1000000 ∧ (u.port port.val).next ≤ start + 1000000))) :=
  by refine ⟨(fielding.setF (Reg.PLC_CTRL_ROLE 0) 1 : State), (((fielding.setF (Reg.PLC_CTRL_ROLE 0) 1 : State)).plcReceive ((0 : Fin 4)).val
    ((fchOf (2 + 0 * 2 ^ 3 + 1 * 2 ^ 8 + 0xFFFF * 2 ^ 44 + 0 * 2 ^ 60) : Bytes)) (plcMac 0x30 0 ((List.replicate 26 0 : Bytes))) ((⟨3, [⟨[200],
    false, []⟩], [(3, 4)]⟩ : PlcRx))).2, _, (0 : Fin 4), (fchOf (2 + 0 * 2 ^ 3 + 1 * 2 ^ 8 + 0xFFFF * 2 ^ 44 + 0 * 2 ^ 60) : Bytes), (List.replicate
    26 0 : Bytes), (⟨3, [⟨[200], false, []⟩], [(3, 4)]⟩ : PlcRx), ((((fielding.setF (Reg.PLC_CTRL_ROLE 0) 1 : State)).plcReceive ((0 : Fin 4)).val
    ((fchOf (2 + 0 * 2 ^ 3 + 1 * 2 ^ 8 + 0xFFFF * 2 ^ 44 + 0 * 2 ^ 60) : Bytes)) (plcMac 0x30 0 ((List.replicate 26 0 : Bytes))) ((⟨3, [⟨[200],
    false, []⟩], [(3, 4)]⟩ : PlcRx))).1.get (by decide +kernel)), _, ?_, ?_, ?_, ?_, rfl, rfl, ?_⟩ <;> decide +kernel

/-- A clause of PlcCommandsComplete is met. -/
theorem met_PlcCommandsComplete_22 :
    (∃ (s : State) (port : Fin 4), s.portOn port.val = true ∧ s.track port.val = true ∧ s.flag (Reg.PLC_CTRL_ACCESS port.val) = false ∧ 3 ≤
      s.nodeStateOf port.val ∧ (s.port port.val).next + 1000000 < s.ns3) :=
  by refine ⟨({ sets fielding [(Reg.PLC_CTRL_ROLE 0, 1), (Reg.PLC_STAT_NODE_STATE 0, 3)] with tb3 := 65536 * 100000000 } : State), (0 : Fin 4), ?_,
    ?_, ?_, ?_, ?_⟩ <;> decide +kernel

/-- A clause of PlcCommandsComplete is met. -/
theorem met_PlcCommandsComplete_23 :
    (∃ (s : State) (t : State) (port : Fin 4) (fch : Bytes) (reason : BitVec 8) (rx : PlcRx) (h : PlcFch), s.portOn port.val = true ∧ s.plcReceive
      port.val fch (plcMac 0x12 0 [reason]) rx = (some h, t) ∧ h.ftype = 0 ∧ t.track port.val = true ∧ (h.dst = 0 ∨ h.dst = 0xFFFF)) :=
  by refine ⟨(fielding.setF (Reg.PLC_CTRL_ROLE 0) 1 : State), (((fielding.setF (Reg.PLC_CTRL_ROLE 0) 1 : State)).plcReceive ((0 : Fin 4)).val
    ((fchOf (0 + 0 * 2 ^ 3 + 1 * 2 ^ 8 + 0xFFFF * 2 ^ 44 + 0 * 2 ^ 60) : Bytes)) (plcMac 0x12 0 [((1 : BitVec 8))]) ((⟨3, [⟨[200], false, []⟩], [(3,
    4)]⟩ : PlcRx))).2, (0 : Fin 4), (fchOf (0 + 0 * 2 ^ 3 + 1 * 2 ^ 8 + 0xFFFF * 2 ^ 44 + 0 * 2 ^ 60) : Bytes), (1 : BitVec 8), (⟨3, [⟨[200], false,
    []⟩], [(3, 4)]⟩ : PlcRx), ((((fielding.setF (Reg.PLC_CTRL_ROLE 0) 1 : State)).plcReceive ((0 : Fin 4)).val ((fchOf (0 + 0 * 2 ^ 3 + 1 * 2 ^ 8 +
    0xFFFF * 2 ^ 44 + 0 * 2 ^ 60) : Bytes)) (plcMac 0x12 0 [((1 : BitVec 8))]) ((⟨3, [⟨[200], false, []⟩], [(3, 4)]⟩ : PlcRx))).1.get
    (by decide +kernel)), ?_, ?_, ?_, ?_, ?_⟩ <;> decide +kernel

/-- A clause of PlcCommandsComplete is met. -/
theorem met_PlcCommandsComplete_24 :
    (∃ (s : State) (t : State) (port : Fin 4) (fch : Bytes) (reason : BitVec 8) (rx : PlcRx) (h : PlcFch), s.portOn port.val = true ∧ s.plcReceive
      port.val fch (plcMac 0x12 0 [reason]) rx = (some h, t) ∧ h.ftype = 0 ∧ t.track port.val = false) :=
  by refine ⟨fielding, (fielding.plcReceive ((0 : Fin 4)).val ((fchOf (0 + 0 * 2 ^ 3 + 1 * 2 ^ 8 + 0 * 2 ^ 44 + 1 * 2 ^ 60) : Bytes)) (plcMac 0x12 0
    [((1 : BitVec 8))]) ((⟨3, [⟨[200], false, []⟩], [(3, 4)]⟩ : PlcRx))).2, (0 : Fin 4), (fchOf (0 + 0 * 2 ^ 3 + 1 * 2 ^ 8 + 0 * 2 ^ 44 + 1 * 2 ^
    60) : Bytes), (1 : BitVec 8), (⟨3, [⟨[200], false, []⟩], [(3, 4)]⟩ : PlcRx), ((fielding.plcReceive ((0 : Fin 4)).val ((fchOf (0 + 0 * 2 ^ 3 + 1
    * 2 ^ 8 + 0 * 2 ^ 44 + 1 * 2 ^ 60) : Bytes)) (plcMac 0x12 0 [((1 : BitVec 8))]) ((⟨3, [⟨[200], false, []⟩], [(3, 4)]⟩ : PlcRx))).1.get
    (by decide +kernel)), ?_, ?_, ?_, ?_⟩ <;> decide +kernel

/-- A clause of PlcCommandsComplete is met. -/
theorem met_PlcCommandsComplete_25 :
    (∃ (s : State) (t : State) (u : State) (port : Fin 4) (a : Ack) (addr : Nat) (o : Option Bytes), s.portOn (port.val) = true ∧ s.deqHeld (portEnd
      (port.val) 0) = some (⟨.ack a, 0⟩, t) ∧ t.hintAddr a.meter (port.val) = some addr ∧ t.ackFrame a (t.title (Reg.PLC_ACK_TITLE_HI_TITLE
      port.val) (Reg.PLC_ACK_TITLE_LO_TITLE port.val)) = (o, u)) :=
  by refine ⟨((fielding.setRec 0 0x014 4 (2 ^ 31 + 0x10)).enq (portEnd 0 0) { body := .ack {} } : State), (((((fielding.setRec 0 0x014 4 (2 ^ 31 +
    0x10)).enq (portEnd 0 0) { body := .ack {} } : State)).deqHeld (portEnd (((0 : Fin 4)).val) 0)).get (by decide +kernel)).2,
    (((((((fielding.setRec 0 0x014 4 (2 ^ 31 + 0x10)).enq (portEnd 0 0) { body := .ack {} } : State)).deqHeld (portEnd (((0 : Fin 4)).val) 0)).get
    (by decide +kernel)).2).ackFrame (({} : Ack)) (((((((fielding.setRec 0 0x014 4 (2 ^ 31 + 0x10)).enq (portEnd 0 0) { body := .ack {} } :
    State)).deqHeld (portEnd (((0 : Fin 4)).val) 0)).get (by decide +kernel)).2).title (Reg.PLC_ACK_TITLE_HI_TITLE ((0 : Fin 4)).val)
    (Reg.PLC_ACK_TITLE_LO_TITLE ((0 : Fin 4)).val))).2, (0 : Fin 4), ({} : Ack), ((((((((fielding.setRec 0 0x014 4 (2 ^ 31 + 0x10)).enq (portEnd 0
    0) { body := .ack {} } : State)).deqHeld (portEnd (((0 : Fin 4)).val) 0)).get (by decide +kernel)).2).hintAddr (({} : Ack)).meter (((0 : Fin
    4)).val)).get (by decide +kernel)), (((((((fielding.setRec 0 0x014 4 (2 ^ 31 + 0x10)).enq (portEnd 0 0) { body := .ack {} } : State)).deqHeld
    (portEnd (((0 : Fin 4)).val) 0)).get (by decide +kernel)).2).ackFrame (({} : Ack)) (((((((fielding.setRec 0 0x014 4 (2 ^ 31 + 0x10)).enq
    (portEnd 0 0) { body := .ack {} } : State)).deqHeld (portEnd (((0 : Fin 4)).val) 0)).get (by decide +kernel)).2).title
    (Reg.PLC_ACK_TITLE_HI_TITLE ((0 : Fin 4)).val) (Reg.PLC_ACK_TITLE_LO_TITLE ((0 : Fin 4)).val))).1, ?_, ?_, (Option.some_get _).symm, pair_eq
    _⟩ <;> decide +kernel

/-- A clause of PlcCommandsComplete is met. -/
theorem met_PlcCommandsComplete_26 :
    (∃ (s : State) (t : State) (port : Fin 4) (a : Ack), s.portOn (port.val) = true ∧ s.deqHeld (portEnd (port.val) 0) = some (⟨.ack a, 0⟩, t) ∧
      t.hintAddr a.meter (port.val) = none) :=
  by refine ⟨(fielding.enq (portEnd 0 0) { body := .ack {} } : State), ((((fielding.enq (portEnd 0 0) { body := .ack {} } : State)).deqHeld (portEnd
    (((0 : Fin 4)).val) 0)).get (by decide +kernel)).2, (0 : Fin 4), ({} : Ack), ?_, ?_, ?_⟩ <;> decide +kernel

/-- A clause of PlcCommandsComplete is met. -/
theorem met_PlcCommandsComplete_27 :
    (∃ (s : State) (u : State) (v : State) (port : Fin 4) (sub : Option Submission) (b : Bytes) (w : Nat), u = s.submitted (portEnd (port.val) 1)
      sub (fun x => .bytes x.item) ∧ u.portOn (port.val) = true ∧ u.downOpen (port.val) < (u.queue (portEnd (port.val) 2)).credits ∧ (u.queue
      (portEnd (port.val) 1)).items.head? = some ⟨.bytes b, 0⟩ ∧ b.length = 16 + leAt b 8 4 ∧ leAt b 8 4 ≤ 600 ∧ w = leAt b 0 4 ∧ bitAt w 16 = 0 ∧ v
      = (u.popped (portEnd (port.val) 1)).output (port.val + 1) (b.drop 16) ∧ v.orders = true) :=
  by refine ⟨(asked fielding (portEnd 0 1) (job 16 0 []) : State), _, _, (0 : Fin 4), (none : Option Submission), p_bytes (((((((asked fielding
    (portEnd 0 1) (job 16 0 []) : State)).submitted (portEnd (((0 : Fin 4)).val) 1) ((none : Option Submission)) (fun x => .bytes x.item) :
    State)).queue (portEnd (((0 : Fin 4)).val) 1)).items.head?).get (by decide +kernel)), _, rfl, ?_, ?_, ?_, ?_, ?_, rfl, ?_, rfl,
    ?_⟩ <;> decide +kernel

/-- A clause of PlcCommandsComplete is met. -/
theorem met_PlcCommandsComplete_28 :
    (∃ (s : State) (u : State) (port : Fin 4) (sub : Option Submission) (b : Bytes) (n : Nat), u = s.submitted (portEnd (port.val) 1) sub (fun x =>
      .bytes x.item) ∧ u.portOn (port.val) = true ∧ u.downOpen (port.val) < (u.queue (portEnd (port.val) 2)).credits ∧ (u.queue (portEnd (port.val)
      1)).items.head? = some ⟨.bytes b, n⟩ ∧ (n ≠ 0 ∨ b.length ≠ 16 + leAt b 8 4 ∨ 600 < leAt b 8 4)) :=
  by refine ⟨(asked fielding (portEnd 0 1) (job 20 0 []) : State), _, (0 : Fin 4), (none : Option Submission), p_bytes (((((((asked fielding
    (portEnd 0 1) (job 20 0 []) : State)).submitted (portEnd (((0 : Fin 4)).val) 1) ((none : Option Submission)) (fun x => .bytes x.item) :
    State)).queue (portEnd (((0 : Fin 4)).val) 1)).items.head?).get (by decide +kernel)), (((((((asked fielding (portEnd 0 1) (job 20 0 []) :
    State)).submitted (portEnd (((0 : Fin 4)).val) 1) ((none : Option Submission)) (fun x => .bytes x.item) : State)).queue (portEnd (((0 : Fin
    4)).val) 1)).items.head?).get (by decide +kernel)).poison, rfl, ?_, ?_, ?_, ?_⟩ <;> decide +kernel

/-- A clause of PlcCommandsComplete is met. -/
theorem met_PlcCommandsComplete_29 :
    (∃ (s : State) (port : Fin 4) (temp : BitVec 8) (corr : BitVec 48), s.portOn port.val = true ∧ s.calDue port.val temp.toInt = true ∧ s.calSilent
      port.val = true ∧ (s.port port.val).calEnd = none) :=
  by refine ⟨({ fielding.setPort 0 { next := 1000000 } with tb1 := 10 ^ 14 } : State), (0 : Fin 4), (25 : BitVec 8), (5 : BitVec 48), ?_, ?_, ?_,
    ?_⟩ <;> decide +kernel

/-- A clause of PlcCommandsComplete is met. -/
theorem met_PlcCommandsComplete_30 :
    (∃ (s : State) (t : State) (req : Req) (port : Fin 4), TakesT s req (Reg.PLC_CTRL_FENCE port.val) ∧ s.flag (Reg.PLC_CTRL_FENCE port.val) = false
      ∧ t = (((s.answer 0).setF (Reg.PLC_CTRL_FENCE port.val) 1).fencePort port.val).dropSync port.val) :=
  by refine ⟨fielding, _, (Req.trusted : Req), (0 : Fin 4), ?_, ?_, rfl⟩ <;> decide +kernel

/-- A clause of PlcCommandsComplete is met. -/
theorem met_PlcCommandsComplete_31 :
    (∃ (s : State) (t : State) (req : Req) (port : Fin 4), TakesT s req (Reg.PLC_CTRL_FENCE port.val) ∧ s.flag (Reg.PLC_CTRL_FENCE port.val) = true
      ∧ t = (s.answer 0).setF (Reg.PLC_CTRL_FENCE port.val) 0 ∧ t.track port.val = false) :=
  by refine ⟨(fielding.setF (Reg.PLC_CTRL_FENCE 0) 1 : State), _, (Req.trusted : Req), (0 : Fin 4), ?_, ?_, rfl, ?_⟩ <;> decide +kernel

/-- A clause of PlcCommandsComplete is met. -/
theorem met_PlcCommandsComplete_32 :
    (∃ (s : State) (t : State) (req : Req) (port : Fin 4), TakesT s req (Reg.PLC_CTRL_FENCE port.val) ∧ s.flag (Reg.PLC_CTRL_FENCE port.val) = true
      ∧ t = (s.answer 0).setF (Reg.PLC_CTRL_FENCE port.val) 0 ∧ t.track port.val = true) :=
  by refine ⟨(sets fielding [(Reg.PLC_CTRL_FENCE 0, 1), (Reg.PLC_CTRL_ROLE 0, 1)] : State), _, (Req.trusted : Req), (0 : Fin 4), ?_, ?_, rfl,
    ?_⟩ <;> decide +kernel

/-- Each clause of PlcCommandsComplete is met. -/
theorem witness_PlcCommandsComplete :
    (∃ (s : State) (port : Fin 4) (fch : Bytes) (mac : Bytes) (rx : PlcRx) (t : State) (u : State) (w : State) (x : State) (v : State) (h : PlcFch)
      (ack : Bool), s.portOn port.val = true ∧ t = (s.setGain port.val rx.agc.toNat).count (Reg.PLC_ERASED_CNT_CNT port.val) (rx.symbols.filter
      (s.symbolErased port.val)).length ∧ t.plcHeard port.val fch = (some h, u) ∧ h.ftype = 0 ∧ u.plcForMe port.val h = true ∧ w = u.measure
      port.val h rx.symbols ∧ decoded (w.plcLost port.val h mac rx.symbols) rx.blocks = true ∧ plcMacOk mac = true ∧ w.track port.val = false ∧ leAt
      mac 0 1 = 1 ∧ 1 ≤ h.src ∧ h.src ≤ 0x800 ∧ x = w.hear port.val h.src ∧ x.takeMeter port.val h.src h.seq ((mac.drop 4).take (mac.length - 8)) =
      (v, ack)) ∧
    (∃ (s : State) (port : Fin 4) (fch : Bytes) (mac : Bytes) (rx : PlcRx) (t : State) (u : State) (w : State) (h : PlcFch), s.portOn port.val =
      true ∧ t = (s.setGain port.val rx.agc.toNat).count (Reg.PLC_ERASED_CNT_CNT port.val) (rx.symbols.filter (s.symbolErased port.val)).length ∧
      t.plcHeard port.val fch = (some h, u) ∧ h.ftype = 0 ∧ u.plcForMe port.val h = true ∧ w = u.measure port.val h rx.symbols ∧ decoded (w.plcLost
      port.val h mac rx.symbols) rx.blocks = true ∧ plcMacOk mac = true ∧ w.track port.val = false) ∧
    (∃ (s : State) (port : Fin 4) (fch : Bytes) (mac : Bytes) (rx : PlcRx) (t : State) (u : State) (w : State) (h : PlcFch), s.portOn port.val =
      true ∧ t = (s.setGain port.val rx.agc.toNat).count (Reg.PLC_ERASED_CNT_CNT port.val) (rx.symbols.filter (s.symbolErased port.val)).length ∧
      t.plcHeard port.val fch = (some h, u) ∧ h.ftype = 0 ∧ u.plcForMe port.val h = true ∧ w = u.measure port.val h rx.symbols ∧ decoded (w.plcLost
      port.val h mac rx.symbols) rx.blocks = true ∧ plcMacOk mac = true ∧ w.track port.val = true) ∧
    (∃ (s : State) (port : Fin 4) (fch : Bytes) (mac : Bytes) (rx : PlcRx) (t : State) (u : State) (h : PlcFch), s.portOn port.val = true ∧ t =
      (s.setGain port.val rx.agc.toNat).count (Reg.PLC_ERASED_CNT_CNT port.val) (rx.symbols.filter (s.symbolErased port.val)).length ∧ t.plcHeard
      port.val fch = (some h, u) ∧ h.ftype = 1) ∧
    (∃ (s : State) (port : Fin 4) (fch : Bytes) (mac : Bytes) (rx : PlcRx) (t : State) (u : State) (w : State) (h : PlcFch), s.portOn port.val =
      true ∧ t = (s.setGain port.val rx.agc.toNat).count (Reg.PLC_ERASED_CNT_CNT port.val) (rx.symbols.filter (s.symbolErased port.val)).length ∧
      t.plcHeard port.val fch = (some h, u) ∧ h.ftype = 0 ∧ u.plcForMe port.val h = true ∧ w = u.measure port.val h rx.symbols ∧ (decoded (w.plcLost
      port.val h mac rx.symbols) rx.blocks = false ∨ plcMacOk mac = false)) ∧
    (∃ (s : State) (port : Fin 4) (fch : Bytes) (mac : Bytes) (rx : PlcRx) (t : State) (u : State), s.portOn port.val = true ∧ t = (s.setGain
      port.val rx.agc.toNat).count (Reg.PLC_ERASED_CNT_CNT port.val) (rx.symbols.filter (s.symbolErased port.val)).length ∧ t.plcHeard port.val fch
      = (none, u)) ∧
    (∃ (s : State) (port : Fin 4) (fch : Bytes) (mac : Bytes) (rx : PlcRx) (t : State) (u : State) (h : PlcFch), s.portOn port.val = true ∧ t =
      (s.setGain port.val rx.agc.toNat).count (Reg.PLC_ERASED_CNT_CNT port.val) (rx.symbols.filter (s.symbolErased port.val)).length ∧ t.plcHeard
      port.val fch = (some h, u) ∧ h.ftype ≠ 1 ∧ u.plcForMe port.val h = false) ∧
    (∃ (s : State) (t : State) (port : Fin 4) (a : OwedAck) (gen : Nat), s.portOn port.val = true ∧ s.track port.val = false ∧ (s.port port.val).ack
      = some a ∧ a.due ≤ s.tb1 ∧ gen = ((s.portNode port.val a.dst).map (·.rxGen)).getD 0 ∧ t = s.setPort port.val
      { s.port port.val with ack := none } ∧ s.hitsGuard port.val (s.plcHead port.val) = false) ∧
    (∃ (s : State) (t : State) (port : Fin 4) (a : OwedAck), s.portOn port.val = true ∧ s.track port.val = false ∧ (s.port port.val).ack = some a ∧
      a.due ≤ s.tb1 ∧ t = s.setPort port.val { s.port port.val with ack := none } ∧ s.hitsGuard port.val (s.plcHead port.val) = true) ∧
    (∃ (s : State) (u : State) (port : Fin 4) (t : PortTx) (a : Nat), (s.port port.val).wait = some (t, a) ∧ a ≤ s.tb1 ∧ u = s.setPort port.val
      { s.port port.val with wait := none, cw := (s.port port.val).cw + 1 } ∧ t.attempts < 1 + s.getF (Reg.PLC_ACCESS_CFG_RETRY_MAX port.val)) ∧
    (∃ (s : State) (u : State) (port : Fin 4) (t : PortTx) (a : Nat), (s.port port.val).wait = some (t, a) ∧ a ≤ s.tb1 ∧ u = s.setPort port.val
      { s.port port.val with wait := none, cw := (s.port port.val).cw + 1 } ∧ 1 + s.getF (Reg.PLC_ACCESS_CFG_RETRY_MAX port.val) ≤ t.attempts) ∧
    (∃ (s : State) (u : State) (v : State) (port : Fin 4) (heard : Option (Fin 4)) (t : PortTx) (slots : Nat) (sync : Nat), contender (s.port
      port.val).out = some t ∧ s.portOn port.val = true ∧ s.track port.val = false ∧ (s.port port.val).wait = none ∧ (s.port port.val).contend =
      none ∧ (s.port port.val).freeAt ≤ s.tb1 ∧ (∀ h : Fin 4, heard = some h → h.val ≤ t.prio) ∧ slots = s.plcTrigger port.val + s.getF
      (Reg.PLC_ACCESS_CFG_LW_SYM port.val) * 350000 ∧ s.plcMayStart port.val (slots + 2800000 - s.tb1) = true ∧ sync = slots + (3 - t.prio) * 700000
      ∧ u = s.drawBackoff port.val t ∧ v = u.drive port.val sync (sync + 320000) (List.replicate (u.plcNu port.val) 16)) ∧
    (∃ (s : State) (port : Fin 4) (h : Fin 4) (t : PortTx) (slots : Nat), contender (s.port port.val).out = some t ∧ s.portOn port.val = true ∧
      s.track port.val = false ∧ (s.port port.val).wait = none ∧ (s.port port.val).contend = none ∧ (s.port port.val).freeAt ≤ s.tb1 ∧ t.prio <
      h.val ∧ slots = s.plcTrigger port.val + s.getF (Reg.PLC_ACCESS_CFG_LW_SYM port.val) * 350000 ∧ s.plcMayStart port.val (slots + 2800000 -
      s.tb1) = true) ∧
    (∃ (s : State) (port : Fin 4) (i : Nat) (b : Nat) (t : PortTx), (s.port port.val).contend = some (i, b) ∧ ((s.port port.val).out.find? (fun t =>
      t.id == i) = some t) ∧ s.portOn port.val = true ∧ s.track port.val = false ∧ b + t.backoff.getD 0 * 700000 ≤ s.tb1 ∧ (s.plcMayStart port.val
      (s.plcHead port.val + (s.plcPlan port.val t (plcMac t.mtype 0 t.body).length).nsym * 350000 + (if t.ackReq then s.plcAckEnd port.val else 0))
      = true)) ∧
    (∃ (s : State) (port : Fin 4) (b : Nat) (n : Nat) (body : Bytes), s.portOn port.val = true ∧ s.track port.val = false ∧ s.flag
      (Reg.PLC_CTRL_ACCESS port.val) = false ∧ (s.port port.val).next ≤ s.ns3 ∧ (b = (if s.ns3 < (s.port port.val).next + s.beaconPeriod port.val
      then (s.port port.val).next else s.beaconFrom port.val (s.ns3 + 1 - s.beaconPeriod port.val))) ∧ n = s.beaconFrom port.val (b + s.beaconPeriod
      port.val) ∧ body = s.beaconBody port.val b n (s.getF (Reg.PLC_BEACON_CFG_NSLOT port.val)) (s.getF (Reg.PLC_SLOT_CFG_SLOT_MS port.val)) (s.getF
      (Reg.PLC_SLOT_CFG_CAP_MS port.val))) ∧
    (∃ (s : State) (port : Fin 4) (n : Nat), s.portOn port.val = true ∧ s.track port.val = false ∧ s.flag (Reg.PLC_CTRL_ACCESS port.val) = true ∧
      (s.port port.val).next ≤ s.ns3 ∧ n = s.beaconFrom port.val (s.ns3 + s.beaconPeriod port.val)) ∧
    (∃ (s : State) (t : State) (port : Fin 4) (fch : Bytes) (ident : BitVec 64) (b : Bool) (rx : PlcRx) (h : PlcFch), s.portOn port.val = true ∧
      s.plcReceive port.val fch (plcMac 0x10 0 (beBytes 8 ident.toNat ++ [if b then 1 else 0])) rx = (some h, t) ∧ h.ftype = 0 ∧ h.src = 0xFFFE ∧
      t.track port.val = false) ∧
    (∃ (s : State) (t : State) (u : State) (port : Fin 4) (fch : Bytes) (ident : BitVec 64) (b : Bool) (rx : PlcRx) (h : PlcFch) (nodes : List (Nat
      × PortNode)) (a : Nat), s.portOn port.val = true ∧ s.plcReceive port.val fch (plcMac 0x10 0 (beBytes 8 ident.toNat ++ [if b then 1 else 0]))
      rx = (some h, t) ∧ h.ftype = 0 ∧ h.src = 0xFFFE ∧ t.track port.val = false ∧ u = t.hear port.val h.src ∧ nodes = (u.port
      port.val).nodes.filterMap (fun e => e.2.map (fun n => (e.1, n))) ∧ u.flag (Reg.PLC_JOIN_CFG_OPEN port.val) = true ∧ u.flag
      (Reg.PLC_JOIN_CFG_POLICY port.val) = true ∧ u.flag (Reg.PLC_CTRL_ACCESS port.val) = true ∧ u.portAddr port.val ident.toNat = none ∧
      nodes.length < 2048 ∧ u.hasCredit 0x80 = true ∧ lowestFree (nodes.map (·.1)) 1 2048 = some a) ∧
    (∃ (s : State) (port : Fin 4) (addr : BitVec 16) (n : PortNode) (hours : Nat), s.portOn port.val = true ∧ s.portNode port.val addr.toNat = some
      n ∧ n.joined = true ∧ hours = s.getF (Reg.PLC_JOIN_CFG_AGE_H port.val) ∧ hours ≠ 0 ∧ n.heardAt + hours * 3600 * nsPerS ≤ s.tb1) ∧
    (∃ (s : State) (port : Fin 4) (addr : BitVec 16) (force : BitVec 6) (n : PortNode) (set : Bytes), s.portOn port.val = true ∧ s.track port.val =
      false ∧ s.portNode port.val addr.toNat = some n ∧ set = (List.range 6).flatMap (fun seg => s.newMap port.val n seg (n.rxGen % 15 + 1)
      (force.getLsbD seg)) ∧ mapsOf set ≠ mapsOf (s.setInForce port.val n)) ∧
    (∃ (s : State) (t : State) (u : State) (port : Fin 4) (fch : Bytes) (rx : PlcRx) (h : PlcFch) (n : PortNode), s.portOn port.val = true ∧
      s.plcReceive port.val fch (plcMac 0x20 0 []) rx = (some h, t) ∧ h.ftype = 0 ∧ t.track port.val = false ∧ u = t.hear port.val h.src ∧
      u.portNode port.val h.src = some n) ∧
    (∃ (s : State) (t : State) (u : State) (port : Fin 4) (fch : Bytes) (body : Bytes) (rx : PlcRx) (h : PlcFch) (start : Nat), s.portOn port.val =
      true ∧ s.plcReceive port.val fch (plcMac 0x30 0 body) rx = (some h, t) ∧ h.ftype = 2 ∧ t.track port.val = true ∧ u = (t.hear port.val
      h.src).forwardFrame port.val h.src h.seq (plcMac 0x30 0 body) ∧ start = u.ns3 - (u.plcHead port.val + h.nsym * 350000) ∧ (u.nodeStateOf
      port.val ≤ 1 ∨ (start ≤ (u.port port.val).next + 1000000 ∧ (u.port port.val).next ≤ start + 1000000))) ∧
    (∃ (s : State) (port : Fin 4), s.portOn port.val = true ∧ s.track port.val = true ∧ s.flag (Reg.PLC_CTRL_ACCESS port.val) = false ∧ 3 ≤
      s.nodeStateOf port.val ∧ (s.port port.val).next + 1000000 < s.ns3) ∧
    (∃ (s : State) (t : State) (port : Fin 4) (fch : Bytes) (reason : BitVec 8) (rx : PlcRx) (h : PlcFch), s.portOn port.val = true ∧ s.plcReceive
      port.val fch (plcMac 0x12 0 [reason]) rx = (some h, t) ∧ h.ftype = 0 ∧ t.track port.val = true ∧ (h.dst = 0 ∨ h.dst = 0xFFFF)) ∧
    (∃ (s : State) (t : State) (port : Fin 4) (fch : Bytes) (reason : BitVec 8) (rx : PlcRx) (h : PlcFch), s.portOn port.val = true ∧ s.plcReceive
      port.val fch (plcMac 0x12 0 [reason]) rx = (some h, t) ∧ h.ftype = 0 ∧ t.track port.val = false) ∧
    (∃ (s : State) (t : State) (u : State) (port : Fin 4) (a : Ack) (addr : Nat) (o : Option Bytes), s.portOn (port.val) = true ∧ s.deqHeld (portEnd
      (port.val) 0) = some (⟨.ack a, 0⟩, t) ∧ t.hintAddr a.meter (port.val) = some addr ∧ t.ackFrame a (t.title (Reg.PLC_ACK_TITLE_HI_TITLE
      port.val) (Reg.PLC_ACK_TITLE_LO_TITLE port.val)) = (o, u)) ∧
    (∃ (s : State) (t : State) (port : Fin 4) (a : Ack), s.portOn (port.val) = true ∧ s.deqHeld (portEnd (port.val) 0) = some (⟨.ack a, 0⟩, t) ∧
      t.hintAddr a.meter (port.val) = none) ∧
    (∃ (s : State) (u : State) (v : State) (port : Fin 4) (sub : Option Submission) (b : Bytes) (w : Nat), u = s.submitted (portEnd (port.val) 1)
      sub (fun x => .bytes x.item) ∧ u.portOn (port.val) = true ∧ u.downOpen (port.val) < (u.queue (portEnd (port.val) 2)).credits ∧ (u.queue
      (portEnd (port.val) 1)).items.head? = some ⟨.bytes b, 0⟩ ∧ b.length = 16 + leAt b 8 4 ∧ leAt b 8 4 ≤ 600 ∧ w = leAt b 0 4 ∧ bitAt w 16 = 0 ∧ v
      = (u.popped (portEnd (port.val) 1)).output (port.val + 1) (b.drop 16) ∧ v.orders = true) ∧
    (∃ (s : State) (u : State) (port : Fin 4) (sub : Option Submission) (b : Bytes) (n : Nat), u = s.submitted (portEnd (port.val) 1) sub (fun x =>
      .bytes x.item) ∧ u.portOn (port.val) = true ∧ u.downOpen (port.val) < (u.queue (portEnd (port.val) 2)).credits ∧ (u.queue (portEnd (port.val)
      1)).items.head? = some ⟨.bytes b, n⟩ ∧ (n ≠ 0 ∨ b.length ≠ 16 + leAt b 8 4 ∨ 600 < leAt b 8 4)) ∧
    (∃ (s : State) (port : Fin 4) (temp : BitVec 8) (corr : BitVec 48), s.portOn port.val = true ∧ s.calDue port.val temp.toInt = true ∧ s.calSilent
      port.val = true ∧ (s.port port.val).calEnd = none) ∧
    (∃ (s : State) (t : State) (req : Req) (port : Fin 4), TakesT s req (Reg.PLC_CTRL_FENCE port.val) ∧ s.flag (Reg.PLC_CTRL_FENCE port.val) = false
      ∧ t = (((s.answer 0).setF (Reg.PLC_CTRL_FENCE port.val) 1).fencePort port.val).dropSync port.val) ∧
    (∃ (s : State) (t : State) (req : Req) (port : Fin 4), TakesT s req (Reg.PLC_CTRL_FENCE port.val) ∧ s.flag (Reg.PLC_CTRL_FENCE port.val) = true
      ∧ t = (s.answer 0).setF (Reg.PLC_CTRL_FENCE port.val) 0 ∧ t.track port.val = false) ∧
    (∃ (s : State) (t : State) (req : Req) (port : Fin 4), TakesT s req (Reg.PLC_CTRL_FENCE port.val) ∧ s.flag (Reg.PLC_CTRL_FENCE port.val) = true
      ∧ t = (s.answer 0).setF (Reg.PLC_CTRL_FENCE port.val) 0 ∧ t.track port.val = true) :=
  ⟨met_PlcCommandsComplete_0,
   met_PlcCommandsComplete_1,
   met_PlcCommandsComplete_2,
   met_PlcCommandsComplete_3,
   met_PlcCommandsComplete_4,
   met_PlcCommandsComplete_5,
   met_PlcCommandsComplete_6,
   met_PlcCommandsComplete_7,
   met_PlcCommandsComplete_8,
   met_PlcCommandsComplete_9,
   met_PlcCommandsComplete_10,
   met_PlcCommandsComplete_11,
   met_PlcCommandsComplete_12,
   met_PlcCommandsComplete_13,
   met_PlcCommandsComplete_14,
   met_PlcCommandsComplete_15,
   met_PlcCommandsComplete_16,
   met_PlcCommandsComplete_17,
   met_PlcCommandsComplete_18,
   met_PlcCommandsComplete_19,
   met_PlcCommandsComplete_20,
   met_PlcCommandsComplete_21,
   met_PlcCommandsComplete_22,
   met_PlcCommandsComplete_23,
   met_PlcCommandsComplete_24,
   met_PlcCommandsComplete_25,
   met_PlcCommandsComplete_26,
   met_PlcCommandsComplete_27,
   met_PlcCommandsComplete_28,
   met_PlcCommandsComplete_29,
   met_PlcCommandsComplete_30,
   met_PlcCommandsComplete_31,
   met_PlcCommandsComplete_32⟩

/-- Each clause of RadioCommandsComplete is met. -/
theorem witness_RadioCommandsComplete :
    (∃ (s : State) (t : State) (u : State) (v : State) (w : State) (port : Fin 4) (busy : Bool) (a : Nat) (chan : Nat) (l : Link) (here : List
      Link), s.portOn (port.val + 4) = true ∧ s.coordinates (port.val + 4) = true ∧ s.asnRuns port.val = true ∧ a = s.asn port.val ∧ (s.port
      (port.val + 4)).slotLast ≠ some a ∧ ((s.port (port.val + 4)).cell = none ∨ (s.port (port.val + 4)).cellEnd ≤ a) ∧ here = (s.links
      port.val).filter (fun l => s.getF (Reg.RAD_SF_LEN_LEN port.val l.sf) != 0 && a % s.getF (Reg.RAD_SF_LEN_LEN port.val l.sf) == l.slot) ∧
      pickLink (s.port (port.val + 4)).out (s.links port.val) here = some l ∧ t = (s.setPort (port.val + 4)
      { s.port (port.val + 4) with slotLast := some a }).rollFirst port.val ∧ chan = t.cellChannel port.val l a ∧ u = (t.count (Reg.RAD_SKIP_CNT_CNT
      port.val) (here.length - 1)).tune port.val chan ∧ v = u.setPort (port.val + 4)
      { u.port (port.val + 4) with cell := some (bitIf l.shared 0, a), cellEnd := a + l.len } ∧ v.coordinates (port.val + 4) = true ∧ v.ebCell
      port.val l a = false ∧ l.tx = true ∧ w = (if l.rx = true then v.openWindow port.val (v.tb1 + 1020000) (v.tb1 + 3220000) else v) ∧ (w.entriesOf
      port.val chan).isEmpty = false) ∧
    (∃ (s : State) (t : State) (u : State) (v : State) (w : State) (port : Fin 4) (busy : Bool) (a : Nat) (chan : Nat) (l : Link) (here : List
      Link), s.portOn (port.val + 4) = true ∧ s.coordinates (port.val + 4) = true ∧ s.asnRuns port.val = true ∧ a = s.asn port.val ∧ (s.port
      (port.val + 4)).slotLast ≠ some a ∧ ((s.port (port.val + 4)).cell = none ∨ (s.port (port.val + 4)).cellEnd ≤ a) ∧ here = (s.links
      port.val).filter (fun l => s.getF (Reg.RAD_SF_LEN_LEN port.val l.sf) != 0 && a % s.getF (Reg.RAD_SF_LEN_LEN port.val l.sf) == l.slot) ∧
      pickLink (s.port (port.val + 4)).out (s.links port.val) here = some l ∧ t = (s.setPort (port.val + 4)
      { s.port (port.val + 4) with slotLast := some a }).rollFirst port.val ∧ chan = t.cellChannel port.val l a ∧ u = (t.count (Reg.RAD_SKIP_CNT_CNT
      port.val) (here.length - 1)).tune port.val chan ∧ v = u.setPort (port.val + 4)
      { u.port (port.val + 4) with cell := some (bitIf l.shared 0, a), cellEnd := a + l.len } ∧ v.coordinates (port.val + 4) = true ∧ v.ebCell
      port.val l a = false ∧ l.tx = true ∧ w = (if l.rx = true then v.openWindow port.val (v.tb1 + 1020000) (v.tb1 + 3220000) else v) ∧ (w.entriesOf
      port.val chan).isEmpty = true) ∧
    (∃ (s : State) (t : State) (u : State) (v : State) (x : State) (w : State) (port : Fin 4) (busy : Bool) (a : Nat) (chan : Nat) (l : Link) (here
      : List Link), s.portOn (port.val + 4) = true ∧ s.coordinates (port.val + 4) = true ∧ s.asnRuns port.val = true ∧ a = s.asn port.val ∧ (s.port
      (port.val + 4)).slotLast ≠ some a ∧ ((s.port (port.val + 4)).cell = none ∨ (s.port (port.val + 4)).cellEnd ≤ a) ∧ here = (s.links
      port.val).filter (fun l => s.getF (Reg.RAD_SF_LEN_LEN port.val l.sf) != 0 && a % s.getF (Reg.RAD_SF_LEN_LEN port.val l.sf) == l.slot) ∧
      pickLink (s.port (port.val + 4)).out (s.links port.val) here = some l ∧ t = (s.setPort (port.val + 4)
      { s.port (port.val + 4) with slotLast := some a }).rollFirst port.val ∧ chan = t.cellChannel port.val l a ∧ u = (t.count (Reg.RAD_SKIP_CNT_CNT
      port.val) (here.length - 1)).tune port.val chan ∧ v = u.setPort (port.val + 4)
      { u.port (port.val + 4) with cell := some (bitIf l.shared 0, a), cellEnd := a + l.len } ∧ v.coordinates (port.val + 4) = true ∧ v.ebCell
      port.val l a = true ∧ x = v.setPort (port.val + 4)
      { v.port (port.val + 4) with next := v.ns3 + v.ebPeriod port.val, period := v.ebPeriod port.val } ∧ x.coordinates (port.val + 4) = true ∧ w =
      (if l.rx = true then x.openWindow port.val (x.tb1 + 1020000) (x.tb1 + 3220000) else x) ∧ (w.entriesOf port.val chan).isEmpty = false ∧
      w.coordinates (port.val + 4) = true) ∧
    (∃ (s : State) (t : State) (u : State) (v : State) (w : State) (port : Fin 4) (busy : Bool) (a : Nat) (chan : Nat) (l : Link) (here : List
      Link), s.portOn (port.val + 4) = true ∧ s.coordinates (port.val + 4) = true ∧ s.asnRuns port.val = true ∧ a = s.asn port.val ∧ (s.port
      (port.val + 4)).slotLast ≠ some a ∧ ((s.port (port.val + 4)).cell = none ∨ (s.port (port.val + 4)).cellEnd ≤ a) ∧ here = (s.links
      port.val).filter (fun l => s.getF (Reg.RAD_SF_LEN_LEN port.val l.sf) != 0 && a % s.getF (Reg.RAD_SF_LEN_LEN port.val l.sf) == l.slot) ∧
      pickLink (s.port (port.val + 4)).out (s.links port.val) here = some l ∧ t = (s.setPort (port.val + 4)
      { s.port (port.val + 4) with slotLast := some a }).rollFirst port.val ∧ chan = t.cellChannel port.val l a ∧ u = (t.count (Reg.RAD_SKIP_CNT_CNT
      port.val) (here.length - 1)).tune port.val chan ∧ v = u.setPort (port.val + 4)
      { u.port (port.val + 4) with cell := some (bitIf l.shared 0, a), cellEnd := a + l.len } ∧ v.coordinates (port.val + 4) = true ∧ v.ebCell
      port.val l a = false ∧ l.tx = false ∧ w = (if l.rx = true then v.openWindow port.val (v.tb1 + 1020000) (v.tb1 + 3220000) else v)) ∧
    (∃ (s : State) (t : State) (port : Fin 4) (busy : Bool), s.portOn (port.val + 4) = true ∧ s.coordinates (port.val + 4) = true ∧ s.asnRuns
      port.val = true ∧ (s.port (port.val + 4)).slotLast ≠ some (s.asn port.val) ∧ t = (s.setPort (port.val + 4)
      { s.port (port.val + 4) with slotLast := some (s.asn port.val) }).rollFirst port.val ∧ (s.port (port.val + 4)).cell = none ∧ s.links port.val
      = []) ∧
    (∃ (s : State) (port : Fin 4) (psdu : Bytes) (b : Bytes) (p : Bytes) (corr : BitVec 12) (h : RadHead) (ies : Nat) (c : Option Nat), s.portOn
      (port.val + 4) = true ∧ 3 + s.fcsLen port.val ≤ psdu.length ∧ psdu.length ≤ 2047 ∧ s.radHears port.val (s.tb1 - s.airtime port.val
      psdu.length) = true ∧ b = psdu.take (psdu.length - s.fcsLen port.val) ∧ b ++ s.fcs port.val b = psdu ∧ h = readRadHead b ∧ h.type = 1 ∧ h.pan
      = s.getF (Reg.RAD_PAN_PANID port.val) ∧ radIes h b = (ies, c) ∧ h.dst = 0xFFFF ∧ s.unsecure port.val (s.cellAsn port.val) (((s.portNode
      (port.val + 4) h.src).map (·.id)).getD 0) h ies b = some p) ∧
    (∃ (s : State) (u : State) (v : State) (port : Fin 4) (psdu : Bytes) (b : Bytes) (p : Bytes) (corr : BitVec 12) (h : RadHead) (ies : Nat) (c :
      Option Nat), s.portOn (port.val + 4) = true ∧ 3 + s.fcsLen port.val ≤ psdu.length ∧ psdu.length ≤ 2047 ∧ s.radHears port.val (s.tb1 -
      s.airtime port.val psdu.length) = true ∧ b = psdu.take (psdu.length - s.fcsLen port.val) ∧ b ++ s.fcs port.val b = psdu ∧ h = readRadHead b ∧
      h.type = 1 ∧ h.pan = s.getF (Reg.RAD_PAN_PANID port.val) ∧ radIes h b = (ies, c) ∧ h.dst = (if s.member (port.val + 4) then s.getF
      (Reg.RAD_SHORT_ADDR_ADDR port.val) else 0) ∧ h.ar = true ∧ s.unsecure port.val (s.cellAsn port.val) (((s.portNode (port.val + 4) h.src).map
      (·.id)).getD 0) h ies b = some p ∧ u = s.takeCorrection port.val h.src c ∧ u.track (port.val + 4) = false ∧ leAt p 0 1 = 1 ∧ (u.hear (port.val
      + 4) h.src).takeMeter (port.val + 4) h.src h.dsn (p.drop 1) = (v, true)) ∧
    (∃ (s : State) (u : State) (port : Fin 4) (psdu : Bytes) (b : Bytes) (p : Bytes) (corr : BitVec 12) (h : RadHead) (ies : Nat) (c : Option Nat),
      s.portOn (port.val + 4) = true ∧ 3 + s.fcsLen port.val ≤ psdu.length ∧ psdu.length ≤ 2047 ∧ s.radHears port.val (s.tb1 - s.airtime port.val
      psdu.length) = true ∧ b = psdu.take (psdu.length - s.fcsLen port.val) ∧ b ++ s.fcs port.val b = psdu ∧ h = readRadHead b ∧ h.type = 1 ∧ h.pan
      = s.getF (Reg.RAD_PAN_PANID port.val) ∧ radIes h b = (ies, c) ∧ s.track (port.val + 4) = true ∧ s.unsecure port.val (s.cellAsn port.val)
      (((s.portNode (port.val + 4) h.src).map (·.id)).getD 0) h ies b = some p ∧ u = s.takeCorrection port.val h.src c ∧ u.track (port.val + 4) =
      true ∧ h.dst ≠ 0 ∧ h.dst ≠ 0xFFFF ∧ s.member (port.val + 4) = false) ∧
    (∃ (s : State) (port : Fin 4) (psdu : Bytes) (b : Bytes) (corr : BitVec 12), s.portOn (port.val + 4) = true ∧ 3 + s.fcsLen port.val ≤
      psdu.length ∧ psdu.length ≤ 2047 ∧ s.radHears port.val (s.tb1 - s.airtime port.val psdu.length) = true ∧ b = psdu.take (psdu.length - s.fcsLen
      port.val) ∧ b ++ s.fcs port.val b = psdu ∧ (readRadHead b).type = 2 ∧ s.track (port.val + 4) = false) ∧
    (∃ (s : State) (port : Fin 4) (psdu : Bytes) (b : Bytes) (corr : BitVec 12), s.portOn (port.val + 4) = true ∧ 3 + s.fcsLen port.val ≤
      psdu.length ∧ psdu.length ≤ 2047 ∧ s.radHears port.val (s.tb1 - s.airtime port.val psdu.length) = true ∧ b = psdu.take (psdu.length - s.fcsLen
      port.val) ∧ b ++ s.fcs port.val b = psdu ∧ (readRadHead b).type = 2 ∧ s.track (port.val + 4) = true) ∧
    (∃ (s : State) (port : Fin 4) (psdu : Bytes) (b : Bytes) (corr : BitVec 12), s.portOn (port.val + 4) = true ∧ 3 + s.fcsLen port.val ≤
      psdu.length ∧ psdu.length ≤ 2047 ∧ s.radHears port.val (s.tb1 - s.airtime port.val psdu.length) = true ∧ b = psdu.take (psdu.length - s.fcsLen
      port.val) ∧ b ++ s.fcs port.val b ≠ psdu) ∧
    (∃ (s : State) (t : State) (u : State) (port : Fin 4) (a : OwedAck) (b : Bytes) (psdu : Bytes) (chan : Nat) (ms : Nat), s.portOn (port.val + 4)
      = true ∧ s.track (port.val + 4) = false ∧ (s.port (port.val + 4)).ack = some a ∧ a.due ≤ s.tb1 ∧ t = (s.setPort (port.val + 4)
      { s.port (port.val + 4) with ack := none }).rollFirst port.val ∧ t.secure port.val (t.getF (Reg.RAD_SEC_CFG_LEVEL port.val)) (t.cellAsn
      port.val) (radFcf 2 (min (t.getF (Reg.RAD_SEC_CFG_LEVEL port.val)) 1) 0 1 0 0 ++ [BitVec.ofNat 8 a.seq]) (leBytes 2 0x0F02 ++ leBytes 2
      a.corr) [] = some b ∧ psdu = b ++ t.fcs port.val b ∧ chan = (s.port (port.val + 4)).chan.getD 0 ∧ ms = (t.airtime port.val psdu.length +
      999999) / 1000000 ∧ (t.entriesOf port.val chan).isEmpty = false ∧ t.budgetAllows port.val chan ms false = true ∧ u = ((t.radOut port.val t.tb1
      psdu).count (Reg.RAD_TX_CNT_CNT port.val)).charge port.val chan ms) ∧
    (∃ (s : State) (t : State) (port : Fin 4) (a : OwedAck), s.portOn (port.val + 4) = true ∧ s.track (port.val + 4) = false ∧ (s.port (port.val +
      4)).ack = some a ∧ a.due ≤ s.tb1 ∧ t = (s.setPort (port.val + 4) { s.port (port.val + 4) with ack := none }).rollFirst port.val ∧ t.secure
      port.val (t.getF (Reg.RAD_SEC_CFG_LEVEL port.val)) (t.cellAsn port.val) (radFcf 2 (min (t.getF (Reg.RAD_SEC_CFG_LEVEL port.val)) 1) 0 1 0 0 ++
      [BitVec.ofNat 8 a.seq]) (leBytes 2 0x0F02 ++ leBytes 2 a.corr) [] = none) ∧
    (∃ (s : State) (port : Fin 4) (t : PortTx) (a : Nat) (shared : Bool), shared =
      (match (s.port (port.val + 4)).cell with | some (f, _) => f == 1 | none => false) ∧ (s.port (port.val + 4)).wait = some (t, a) ∧ a ≤ s.tb1 ∧ 1
      + s.getF (Reg.RAD_ACCESS_CFG_RETRY_MAX port.val) ≤ t.attempts) ∧
    (∃ (s : State) (port : Fin 4) (t : PortTx) (a : Nat), (match (s.port (port.val + 4)).cell with | some (f, _) => f == 1 | none => false) = false
      ∧ (s.port (port.val + 4)).wait = some (t, a) ∧ a ≤ s.tb1 ∧ t.attempts ≤ s.getF (Reg.RAD_ACCESS_CFG_RETRY_MAX port.val)) ∧
    (∃ (s : State) (u : State) (port : Fin 4) (t : PortTx) (a : Nat) (n : Nat) (e : Nat) (w : Word), (s.port (port.val + 4)).cell = some (1, n) ∧
      (s.port (port.val + 4)).wait = some (t, a) ∧ a ≤ s.tb1 ∧ t.attempts ≤ s.getF (Reg.RAD_ACCESS_CFG_RETRY_MAX port.val) ∧ e = min (s.getF
      (Reg.RAD_ACCESS_CFG_BE_MIN port.val) + (s.port (port.val + 4)).cw) (s.getF (Reg.RAD_ACCESS_CFG_BE_MAX port.val)) ∧ s.drawWord = (w, u)) ∧
    (∃ (s : State) (port : Fin 4) (ident : BitVec 64), s.portOn (port.val + 4) = true ∧ s.coordinates (port.val + 4) = true) ∧
    (∃ (s : State) (port : Fin 4) (ident : BitVec 64) (nodes : List (Nat × PortNode)) (a : Nat), s.portOn (port.val + 4) = true ∧ s.coordinates
      (port.val + 4) = true ∧ nodes = (s.port (port.val + 4)).nodes.filterMap (fun e => e.2.map (fun n => (e.1, n))) ∧ s.flag (Reg.RAD_JOIN_CFG_OPEN
      port.val) = true ∧ s.flag (Reg.RAD_JOIN_CFG_POLICY port.val) = true ∧ s.portAddr (port.val + 4) ident.toNat = none ∧ nodes.length < 2048 ∧
      s.hasCredit 0x80 = true ∧ lowestFree (nodes.map (·.1)) 1 2048 = some a) ∧
    (∃ (s : State) (port : Fin 4) (ident : BitVec 64), s.portOn (port.val + 4) = true ∧ s.track (port.val + 4) = true) ∧
    (∃ (s : State) (t : State) (u : State) (v : State) (w : State) (port : Fin 4) (panid : BitVec 16) (src : BitVec 64) (asn : BitVec 40) (since :
      Word), s.portOn (port.val + 4) = true ∧ s.coordinates (port.val + 4) = false ∧ panid.toNat = s.getF (Reg.RAD_PAN_PANID port.val) ∧ 3 ≤
      s.nodeStateOf (port.val + 4) ∧ t = s.setF (Reg.RAD_SYNC_OFS_NS port.val) (unsignedOf 32 ((s.ns3 : Int) - since.toNat - (((s.getF
      (Reg.RAD_ASN_EPOCH_LO_SEC port.val) + s.getF (Reg.RAD_ASN_EPOCH_HI_SEC port.val) * 2 ^ 32 : Nat) : Int) * nsPerS + asn.toNat * slotNs))) ∧ u =
      t.putNode (port.val + 4) 0 (some { (t.portNode (port.val + 4) 0).getD {} with id := src.toNat, joined := true, heardAt := t.tb1 }) ∧ v =
      u.setPort (port.val + 4) { u.port (port.val + 4) with evidence := u.ns3, ebChan := (u.port (port.val + 4)).chan } ∧ w = (if v.track (port.val
      + 4) = true then v.forwardFrame (port.val + 4) 0 0 ([0] ++ leBytes 5 asn.toNat) else v)) ∧
    (∃ (s : State) (t : State) (u : State) (v : State) (w : State) (port : Fin 4) (panid : BitVec 16) (src : BitVec 64) (asn : BitVec 40) (since :
      Word), s.portOn (port.val + 4) = true ∧ s.coordinates (port.val + 4) = false ∧ panid.toNat = s.getF (Reg.RAD_PAN_PANID port.val) ∧
      s.nodeStateOf (port.val + 4) ≤ 1 ∧ t = s.setF (Reg.RAD_SYNC_OFS_NS port.val) (unsignedOf 32 ((s.ns3 : Int) - since.toNat - (((s.getF
      (Reg.RAD_ASN_EPOCH_LO_SEC port.val) + s.getF (Reg.RAD_ASN_EPOCH_HI_SEC port.val) * 2 ^ 32 : Nat) : Int) * nsPerS + asn.toNat * slotNs))) ∧ u =
      t.putNode (port.val + 4) 0 (some { (t.portNode (port.val + 4) 0).getD {} with id := src.toNat, joined := true, heardAt := t.tb1 }) ∧ v =
      u.setPort (port.val + 4) { u.port (port.val + 4) with evidence := u.ns3, ebChan := (u.port (port.val + 4)).chan } ∧ v.track (port.val + 4) =
      true ∧ w = v.forwardFrame (port.val + 4) 0 0 ([0] ++ leBytes 5 asn.toNat) ∧ w.track (port.val + 4) = true) ∧
    (∃ (s : State) (port : Fin 4), s.portOn (port.val + 4) = true ∧ s.coordinates (port.val + 4) = false ∧ 3 ≤ s.nodeStateOf (port.val + 4) ∧
      (s.port (port.val + 4)).next ≤ s.ns3 ∧ (s.port (port.val + 4)).evidence + (s.port (port.val + 4)).period ≤ (s.port (port.val + 4)).next) ∧
    (∃ (s : State) (port : Fin 4), s.portOn (port.val + 4) = true ∧ s.coordinates (port.val + 4) = false ∧ (s.nodeStateOf (port.val + 4) = 3 ∨
      s.nodeStateOf (port.val + 4) = 4) ∧ (s.port (port.val + 4)).next ≤ s.ns3 ∧ (s.port (port.val + 4)).next < (s.port (port.val + 4)).evidence +
      (s.port (port.val + 4)).period) ∧
    (∃ (s : State) (port : Fin 4), s.flag (Reg.RAD_CTRL_ENABLE port.val) = true ∧ s.bucketsDue port.val ≠ 0) ∧
    (∃ (s : State) (port : Fin 4) (late : PortTx → Bool), (late = (fun t => t.tag.isSome &&
      (match t.deferAt with | some a => decide (a + s.getF (Reg.RAD_DL_CFG_MAX_WAIT_S port.val) * nsPerS < s.tb1) | none => false)))) ∧
    (∃ (s : State) (t : State) (u : State) (port : Fin 4) (a : Ack) (addr : Nat) (o : Option Bytes), s.portOn (port.val + 4) = true ∧ s.deqHeld
      (portEnd (port.val + 4) 0) = some (⟨.ack a, 0⟩, t) ∧ t.hintAddr a.meter (port.val + 4) = some addr ∧ t.ackFrame a (t.title
      (Reg.RAD_ACK_TITLE_HI_TITLE port.val) (Reg.RAD_ACK_TITLE_LO_TITLE port.val)) = (o, u)) ∧
    (∃ (s : State) (t : State) (port : Fin 4) (a : Ack), s.portOn (port.val + 4) = true ∧ s.deqHeld (portEnd (port.val + 4) 0) = some (⟨.ack a, 0⟩,
      t) ∧ t.hintAddr a.meter (port.val + 4) = none) ∧
    (∃ (s : State) (u : State) (v : State) (port : Fin 4) (sub : Option Submission) (b : Bytes) (w : Nat), u = s.submitted (portEnd (port.val + 4)
      1) sub (fun x => .bytes x.item) ∧ u.portOn (port.val + 4) = true ∧ u.downOpen (port.val + 4) < (u.queue (portEnd (port.val + 4) 2)).credits ∧
      (u.queue (portEnd (port.val + 4) 1)).items.head? = some ⟨.bytes b, 0⟩ ∧ b.length = 16 + leAt b 8 4 ∧ leAt b 8 4 ≤ 600 ∧ w = leAt b 0 4 ∧ bitAt
      w 16 = 0 ∧ (u.popped (portEnd (port.val + 4) 1)).coordinates (port.val + 4) = true ∧ (u.popped (portEnd (port.val + 4) 1)).radFits port.val
      (bitsOf w 15 0) (leAt b 8 4) (bitAt w 20 == 1) = true ∧ v = (u.popped (portEnd (port.val + 4) 1)).output (port.val + 4 + 1) (b.drop 16) ∧
      v.coordinates (port.val + 4) = true ∧ v.orders = true) ∧
    (∃ (s : State) (u : State) (port : Fin 4) (sub : Option Submission) (b : Bytes) (n : Nat), u = s.submitted (portEnd (port.val + 4) 1) sub (fun x
      => .bytes x.item) ∧ u.portOn (port.val + 4) = true ∧ u.downOpen (port.val + 4) < (u.queue (portEnd (port.val + 4) 2)).credits ∧ (u.queue
      (portEnd (port.val + 4) 1)).items.head? = some ⟨.bytes b, n⟩ ∧ (n ≠ 0 ∨ b.length ≠ 16 + leAt b 8 4 ∨ 600 < leAt b 8 4)) ∧
    (∃ (s : State) (req : Req) (port : Fin 4), TakesT s req (Reg.RAD_CTRL_FENCE port.val) ∧ s.flag (Reg.RAD_CTRL_FENCE port.val) = false) ∧
    (∃ (s : State) (req : Req) (port : Fin 4), TakesT s req (Reg.RAD_CTRL_FENCE port.val) ∧ s.flag (Reg.RAD_CTRL_FENCE port.val) = true) ∧
    (∃ (s : State) (req : Req) (port : Fin 4) (word : Word) (reply : Word), TakesF s req (Reg.RAD_SPI_RAW_WORD port.val) ∧ s.flag
      (Reg.RAD_CTRL_ENABLE port.val) = false) ∧
    (∃ (s : State) (port : Fin 4) (addr : BitVec 16) (n : PortNode) (hours : Nat), s.portOn (port.val + 4) = true ∧ s.portNode (port.val + 4)
      addr.toNat = some n ∧ n.joined = true ∧ hours = s.getF (Reg.RAD_JOIN_CFG_AGE_H port.val) ∧ hours ≠ 0 ∧ n.heardAt + hours * 3600 * nsPerS ≤
      s.tb1) :=
  ⟨by refine ⟨(sets radioing [(Reg.RAD_NLINKS_COPY0 0, 1), (Reg.RAD_SF_LEN_LEN 0 0, 1), (Reg.RAD_HOP_CFG_LEN 0, 1), (Reg.RAD_EB_CFG_SF 0, 0),
     (Reg.RAD_EB_CFG_PERIOD 0, 1), (Reg.RAD_DC_HI_KHZ 0 0, 1048575), (Reg.RAD_DC_HI_LIMIT 0 0, 10)]).writeNat (linkAddr 0 0 0) 4 (2 ^ 24), _, _, _,
     _, 0, false, _, _, ⟨0, 0, 0, true, false, false, false, false, 1, 0⟩, _, ?_, ?_, ?_, rfl, ?_, ?_, rfl, ?_, rfl, rfl, rfl, rfl, ?_, ?_, ?_, rfl,
     ?_⟩ <;> decide +kernel,
   by refine ⟨(sets radioing [(Reg.RAD_NLINKS_COPY0 0, 1), (Reg.RAD_SF_LEN_LEN 0 0, 1), (Reg.RAD_HOP_CFG_LEN 0, 1), (Reg.RAD_EB_CFG_SF 0, 0),
     (Reg.RAD_EB_CFG_PERIOD 0, 1)]).writeNat (linkAddr 0 0 0) 4 (2 ^ 24), _, _, _, _, 0, false, _, _, ⟨0, 0, 0, true, false, false, false, false, 1,
     0⟩, _, ?_, ?_, ?_, rfl, ?_, ?_, rfl, ?_, rfl, rfl, rfl, rfl, ?_, ?_, ?_, rfl, ?_⟩ <;> decide +kernel,
   by refine ⟨(sets radioing [(Reg.RAD_NLINKS_COPY0 0, 1), (Reg.RAD_SF_LEN_LEN 0 0, 1), (Reg.RAD_HOP_CFG_LEN 0, 1), (Reg.RAD_EB_CFG_SF 0, 0),
     (Reg.RAD_EB_CFG_PERIOD 0, 1), (Reg.RAD_DC_HI_KHZ 0 0, 1048575), (Reg.RAD_DC_HI_LIMIT 0 0, 10)]).writeNat (linkAddr 0 0 0) 4 (2 ^ 28), _, _, _,
     _, _, 0, false, _, _, ⟨0, 0, 0, false, false, false, false, true, 1, 0⟩, _, ?_, ?_, ?_, rfl, ?_, ?_, rfl, ?_, rfl, rfl, rfl, rfl, ?_, ?_, rfl,
     ?_, rfl, ?_, ?_⟩ <;> decide +kernel,
   by refine ⟨((sets radioing [(Reg.RAD_NLINKS_COPY0 0, 1), (Reg.RAD_SF_LEN_LEN 0 0, 1), (Reg.RAD_HOP_CFG_LEN 0, 1), (Reg.RAD_EB_CFG_SF 0, 0),
     (Reg.RAD_EB_CFG_PERIOD 0, 1)]).writeNat (linkAddr 0 0 0) 4 (2 ^ 25) : State), _, _, _, _, (0 : Fin 4), (false : Bool), _, _, (⟨0, 0, 0, false,
     true, false, false, false, 1, 0⟩ : Link), _, ?_, ?_, ?_, rfl, ?_, ?_, rfl, ?_, rfl, rfl, rfl, rfl, ?_, ?_, ?_, rfl⟩ <;> decide +kernel,
   by refine ⟨radioing, _, (0 : Fin 4), (false : Bool), ?_, ?_, ?_, ?_, rfl, ?_, ?_⟩ <;> decide +kernel,
   by refine ⟨(sets radioing [(Reg.RAD_SEC_CFG_LEVEL 0, 0)] : State), (0 : Fin 4), (radB ++ State.fcs (sets radioing [(Reg.RAD_SEC_CFG_LEVEL 0, 0)])
     0 radB : Bytes), _, ((((sets radioing [(Reg.RAD_SEC_CFG_LEVEL 0, 0)] : State)).unsecure ((0 : Fin 4)).val (((sets radioing
     [(Reg.RAD_SEC_CFG_LEVEL 0, 0)] : State)).cellAsn ((0 : Fin 4)).val) (((((sets radioing [(Reg.RAD_SEC_CFG_LEVEL 0, 0)] : State)).portNode (((0 :
     Fin 4)).val + 4) ((readRadHead ((((radB ++ State.fcs (sets radioing [(Reg.RAD_SEC_CFG_LEVEL 0, 0)]) 0 radB : Bytes)).take (((radB ++ State.fcs
     (sets radioing [(Reg.RAD_SEC_CFG_LEVEL 0, 0)]) 0 radB : Bytes)).length - ((sets radioing [(Reg.RAD_SEC_CFG_LEVEL 0, 0)] : State)).fcsLen ((0 :
     Fin 4)).val) : Bytes)) : RadHead)).src).map (·.id)).getD 0) ((readRadHead ((((radB ++ State.fcs (sets radioing [(Reg.RAD_SEC_CFG_LEVEL 0, 0)])
     0 radB : Bytes)).take (((radB ++ State.fcs (sets radioing [(Reg.RAD_SEC_CFG_LEVEL 0, 0)]) 0 radB : Bytes)).length - ((sets radioing
     [(Reg.RAD_SEC_CFG_LEVEL 0, 0)] : State)).fcsLen ((0 : Fin 4)).val) : Bytes)) : RadHead)) ((radIes ((readRadHead ((((radB ++ State.fcs (sets
     radioing [(Reg.RAD_SEC_CFG_LEVEL 0, 0)]) 0 radB : Bytes)).take (((radB ++ State.fcs (sets radioing [(Reg.RAD_SEC_CFG_LEVEL 0, 0)]) 0 radB :
     Bytes)).length - ((sets radioing [(Reg.RAD_SEC_CFG_LEVEL 0, 0)] : State)).fcsLen ((0 : Fin 4)).val) : Bytes)) : RadHead)) ((((radB ++ State.fcs
     (sets radioing [(Reg.RAD_SEC_CFG_LEVEL 0, 0)]) 0 radB : Bytes)).take (((radB ++ State.fcs (sets radioing [(Reg.RAD_SEC_CFG_LEVEL 0, 0)]) 0 radB
     : Bytes)).length - ((sets radioing [(Reg.RAD_SEC_CFG_LEVEL 0, 0)] : State)).fcsLen ((0 : Fin 4)).val) : Bytes))).1) ((((radB ++ State.fcs (sets
     radioing [(Reg.RAD_SEC_CFG_LEVEL 0, 0)]) 0 radB : Bytes)).take (((radB ++ State.fcs (sets radioing [(Reg.RAD_SEC_CFG_LEVEL 0, 0)]) 0 radB :
     Bytes)).length - ((sets radioing [(Reg.RAD_SEC_CFG_LEVEL 0, 0)] : State)).fcsLen ((0 : Fin 4)).val) : Bytes))).get (by decide +kernel)), (0 :
     BitVec 12), _, (radIes ((readRadHead ((((radB ++ State.fcs (sets radioing [(Reg.RAD_SEC_CFG_LEVEL 0, 0)]) 0 radB : Bytes)).take (((radB ++
     State.fcs (sets radioing [(Reg.RAD_SEC_CFG_LEVEL 0, 0)]) 0 radB : Bytes)).length - ((sets radioing [(Reg.RAD_SEC_CFG_LEVEL 0, 0)] :
     State)).fcsLen ((0 : Fin 4)).val) : Bytes)) : RadHead)) ((((radB ++ State.fcs (sets radioing [(Reg.RAD_SEC_CFG_LEVEL 0, 0)]) 0 radB :
     Bytes)).take (((radB ++ State.fcs (sets radioing [(Reg.RAD_SEC_CFG_LEVEL 0, 0)]) 0 radB : Bytes)).length - ((sets radioing
     [(Reg.RAD_SEC_CFG_LEVEL 0, 0)] : State)).fcsLen ((0 : Fin 4)).val) : Bytes))).1, (radIes ((readRadHead ((((radB ++ State.fcs (sets radioing
     [(Reg.RAD_SEC_CFG_LEVEL 0, 0)]) 0 radB : Bytes)).take (((radB ++ State.fcs (sets radioing [(Reg.RAD_SEC_CFG_LEVEL 0, 0)]) 0 radB :
     Bytes)).length - ((sets radioing [(Reg.RAD_SEC_CFG_LEVEL 0, 0)] : State)).fcsLen ((0 : Fin 4)).val) : Bytes)) : RadHead)) ((((radB ++ State.fcs
     (sets radioing [(Reg.RAD_SEC_CFG_LEVEL 0, 0)]) 0 radB : Bytes)).take (((radB ++ State.fcs (sets radioing [(Reg.RAD_SEC_CFG_LEVEL 0, 0)]) 0 radB
     : Bytes)).length - ((sets radioing [(Reg.RAD_SEC_CFG_LEVEL 0, 0)] : State)).fcsLen ((0 : Fin 4)).val) : Bytes))).2, ?_, ?_, ?_, ?_, rfl, ?_,
     rfl, ?_, ?_, pair_eq _, ?_, (Option.some_get _).symm⟩ <;> decide +kernel,
   by refine ⟨radNode, _, ((((radNode.takeCorrection ((0 : Fin 4)).val ((readRadHead ((((radD ++ radNode.fcs 0 radD : Bytes)).take (((radD ++
     radNode.fcs 0 radD : Bytes)).length - radNode.fcsLen ((0 : Fin 4)).val) : Bytes)) : RadHead)).src ((radIes ((readRadHead ((((radD ++
     radNode.fcs 0 radD : Bytes)).take (((radD ++ radNode.fcs 0 radD : Bytes)).length - radNode.fcsLen ((0 : Fin 4)).val) : Bytes)) : RadHead))
     ((((radD ++ radNode.fcs 0 radD : Bytes)).take (((radD ++ radNode.fcs 0 radD : Bytes)).length - radNode.fcsLen ((0 : Fin 4)).val) : Bytes))).2)
     : State)).hear (((0 : Fin 4)).val + 4) ((readRadHead ((((radD ++ radNode.fcs 0 radD : Bytes)).take (((radD ++ radNode.fcs 0 radD :
     Bytes)).length - radNode.fcsLen ((0 : Fin 4)).val) : Bytes)) : RadHead)).src).takeMeter (((0 : Fin 4)).val + 4) ((readRadHead ((((radD ++
     radNode.fcs 0 radD : Bytes)).take (((radD ++ radNode.fcs 0 radD : Bytes)).length - radNode.fcsLen ((0 : Fin 4)).val) : Bytes)) : RadHead)).src
     ((readRadHead ((((radD ++ radNode.fcs 0 radD : Bytes)).take (((radD ++ radNode.fcs 0 radD : Bytes)).length - radNode.fcsLen ((0 : Fin 4)).val)
     : Bytes)) : RadHead)).dsn ((((radNode.unsecure ((0 : Fin 4)).val (radNode.cellAsn ((0 : Fin 4)).val) (((radNode.portNode (((0 : Fin 4)).val +
     4) ((readRadHead ((((radD ++ radNode.fcs 0 radD : Bytes)).take (((radD ++ radNode.fcs 0 radD : Bytes)).length - radNode.fcsLen ((0 : Fin
     4)).val) : Bytes)) : RadHead)).src).map (·.id)).getD 0) ((readRadHead ((((radD ++ radNode.fcs 0 radD : Bytes)).take (((radD ++ radNode.fcs 0
     radD : Bytes)).length - radNode.fcsLen ((0 : Fin 4)).val) : Bytes)) : RadHead)) ((radIes ((readRadHead ((((radD ++ radNode.fcs 0 radD :
     Bytes)).take (((radD ++ radNode.fcs 0 radD : Bytes)).length - radNode.fcsLen ((0 : Fin 4)).val) : Bytes)) : RadHead)) ((((radD ++ radNode.fcs 0
     radD : Bytes)).take (((radD ++ radNode.fcs 0 radD : Bytes)).length - radNode.fcsLen ((0 : Fin 4)).val) : Bytes))).1) ((((radD ++ radNode.fcs 0
     radD : Bytes)).take (((radD ++ radNode.fcs 0 radD : Bytes)).length - radNode.fcsLen ((0 : Fin 4)).val) : Bytes))).get
     (by decide +kernel))).drop 1)).1, (0 : Fin 4), (radD ++ radNode.fcs 0 radD : Bytes), _, ((radNode.unsecure ((0 : Fin 4)).val (radNode.cellAsn
     ((0 : Fin 4)).val) (((radNode.portNode (((0 : Fin 4)).val + 4) ((readRadHead ((((radD ++ radNode.fcs 0 radD : Bytes)).take (((radD ++
     radNode.fcs 0 radD : Bytes)).length - radNode.fcsLen ((0 : Fin 4)).val) : Bytes)) : RadHead)).src).map (·.id)).getD 0) ((readRadHead ((((radD
     ++ radNode.fcs 0 radD : Bytes)).take (((radD ++ radNode.fcs 0 radD : Bytes)).length - radNode.fcsLen ((0 : Fin 4)).val) : Bytes)) : RadHead))
     ((radIes ((readRadHead ((((radD ++ radNode.fcs 0 radD : Bytes)).take (((radD ++ radNode.fcs 0 radD : Bytes)).length - radNode.fcsLen ((0 : Fin
     4)).val) : Bytes)) : RadHead)) ((((radD ++ radNode.fcs 0 radD : Bytes)).take (((radD ++ radNode.fcs 0 radD : Bytes)).length - radNode.fcsLen
     ((0 : Fin 4)).val) : Bytes))).1) ((((radD ++ radNode.fcs 0 radD : Bytes)).take (((radD ++ radNode.fcs 0 radD : Bytes)).length - radNode.fcsLen
     ((0 : Fin 4)).val) : Bytes))).get (by decide +kernel)), (0 : BitVec 12), _, (radIes ((readRadHead ((((radD ++ radNode.fcs 0 radD : Bytes)).take
     (((radD ++ radNode.fcs 0 radD : Bytes)).length - radNode.fcsLen ((0 : Fin 4)).val) : Bytes)) : RadHead)) ((((radD ++ radNode.fcs 0 radD :
     Bytes)).take (((radD ++ radNode.fcs 0 radD : Bytes)).length - radNode.fcsLen ((0 : Fin 4)).val) : Bytes))).1, (radIes ((readRadHead ((((radD ++
     radNode.fcs 0 radD : Bytes)).take (((radD ++ radNode.fcs 0 radD : Bytes)).length - radNode.fcsLen ((0 : Fin 4)).val) : Bytes)) : RadHead))
     ((((radD ++ radNode.fcs 0 radD : Bytes)).take (((radD ++ radNode.fcs 0 radD : Bytes)).length - radNode.fcsLen ((0 : Fin 4)).val) : Bytes))).2,
     ?_, ?_, ?_, ?_, rfl, ?_, rfl, ?_, ?_, pair_eq _, ?_, ?_, (Option.some_get _).symm, rfl, ?_, ?_, ?_⟩ <;> decide +kernel,
   by refine ⟨(radNode.setF (Reg.RAD_CTRL_ROLE 0) 2 : State), _, (0 : Fin 4), (radT ++ radNode.fcs 0 radT : Bytes), _, ((((radNode.setF
     (Reg.RAD_CTRL_ROLE 0) 2 : State)).unsecure ((0 : Fin 4)).val (((radNode.setF (Reg.RAD_CTRL_ROLE 0) 2 : State)).cellAsn ((0 : Fin 4)).val)
     (((((radNode.setF (Reg.RAD_CTRL_ROLE 0) 2 : State)).portNode (((0 : Fin 4)).val + 4) ((readRadHead ((((radT ++ radNode.fcs 0 radT :
     Bytes)).take (((radT ++ radNode.fcs 0 radT : Bytes)).length - ((radNode.setF (Reg.RAD_CTRL_ROLE 0) 2 : State)).fcsLen ((0 : Fin 4)).val) :
     Bytes)) : RadHead)).src).map (·.id)).getD 0) ((readRadHead ((((radT ++ radNode.fcs 0 radT : Bytes)).take (((radT ++ radNode.fcs 0 radT :
     Bytes)).length - ((radNode.setF (Reg.RAD_CTRL_ROLE 0) 2 : State)).fcsLen ((0 : Fin 4)).val) : Bytes)) : RadHead)) ((radIes ((readRadHead
     ((((radT ++ radNode.fcs 0 radT : Bytes)).take (((radT ++ radNode.fcs 0 radT : Bytes)).length - ((radNode.setF (Reg.RAD_CTRL_ROLE 0) 2 :
     State)).fcsLen ((0 : Fin 4)).val) : Bytes)) : RadHead)) ((((radT ++ radNode.fcs 0 radT : Bytes)).take (((radT ++ radNode.fcs 0 radT :
     Bytes)).length - ((radNode.setF (Reg.RAD_CTRL_ROLE 0) 2 : State)).fcsLen ((0 : Fin 4)).val) : Bytes))).1) ((((radT ++ radNode.fcs 0 radT :
     Bytes)).take (((radT ++ radNode.fcs 0 radT : Bytes)).length - ((radNode.setF (Reg.RAD_CTRL_ROLE 0) 2 : State)).fcsLen ((0 : Fin 4)).val) :
     Bytes))).get (by decide +kernel)), (0 : BitVec 12), _, (radIes ((readRadHead ((((radT ++ radNode.fcs 0 radT : Bytes)).take (((radT ++
     radNode.fcs 0 radT : Bytes)).length - ((radNode.setF (Reg.RAD_CTRL_ROLE 0) 2 : State)).fcsLen ((0 : Fin 4)).val) : Bytes)) : RadHead)) ((((radT
     ++ radNode.fcs 0 radT : Bytes)).take (((radT ++ radNode.fcs 0 radT : Bytes)).length - ((radNode.setF (Reg.RAD_CTRL_ROLE 0) 2 : State)).fcsLen
     ((0 : Fin 4)).val) : Bytes))).1, (radIes ((readRadHead ((((radT ++ radNode.fcs 0 radT : Bytes)).take (((radT ++ radNode.fcs 0 radT :
     Bytes)).length - ((radNode.setF (Reg.RAD_CTRL_ROLE 0) 2 : State)).fcsLen ((0 : Fin 4)).val) : Bytes)) : RadHead)) ((((radT ++ radNode.fcs 0
     radT : Bytes)).take (((radT ++ radNode.fcs 0 radT : Bytes)).length - ((radNode.setF (Reg.RAD_CTRL_ROLE 0) 2 : State)).fcsLen ((0 : Fin 4)).val)
     : Bytes))).2, ?_, ?_, ?_, ?_, rfl, ?_, rfl, ?_, ?_, pair_eq _, ?_, (Option.some_get _).symm, rfl, ?_, ?_, ?_, ?_⟩ <;> decide +kernel,
   by refine ⟨radioing, (0 : Fin 4), ([2, 0, 5] ++ radioing.fcs 0 [2, 0, 5] : Bytes), _, (0 : BitVec 12), ?_, ?_, ?_, ?_, rfl, ?_, ?_,
     ?_⟩ <;> decide +kernel,
   by refine ⟨(radioing.setF (Reg.RAD_CTRL_ROLE 0) 2 : State), (0 : Fin 4), ([2, 0, 5] ++ radioing.fcs 0 [2, 0, 5] : Bytes), _, (0 : BitVec 12), ?_,
     ?_, ?_, ?_, rfl, ?_, ?_, ?_⟩ <;> decide +kernel,
   by refine ⟨radioing, (0 : Fin 4), ([1, 2, 3, 4, 5, 6, 7, 8] : Bytes), _, (0 : BitVec 12), ?_, ?_, ?_, ?_, rfl, ?_⟩ <;> decide +kernel,
   by refine ⟨((sets radioing [(Reg.RAD_SEC_CFG_LEVEL 0, 0), (Reg.RAD_DC_HI_LIMIT 0 0, 1000), (Reg.RAD_DC_LO_KHZ 0 0, 0), (Reg.RAD_DC_HI_KHZ 0 0,
     0xFFFFF)]).setPort 4 { ack := some ⟨1, 0, 0, 0⟩ } : State), _, _, (0 : Fin 4), ((((((sets radioing [(Reg.RAD_SEC_CFG_LEVEL 0, 0),
     (Reg.RAD_DC_HI_LIMIT 0 0, 1000), (Reg.RAD_DC_LO_KHZ 0 0, 0), (Reg.RAD_DC_HI_KHZ 0 0, 0xFFFFF)]).setPort 4 { ack := some ⟨1, 0, 0, 0⟩ } :
     State)).port (((0 : Fin 4)).val + 4)).ack).get (by decide +kernel)), ((((((((sets radioing [(Reg.RAD_SEC_CFG_LEVEL 0, 0), (Reg.RAD_DC_HI_LIMIT
     0 0, 1000), (Reg.RAD_DC_LO_KHZ 0 0, 0), (Reg.RAD_DC_HI_KHZ 0 0, 0xFFFFF)]).setPort 4 { ack := some ⟨1, 0, 0, 0⟩ } : State)).setPort (((0 : Fin
     4)).val + 4) { (((sets radioing [(Reg.RAD_SEC_CFG_LEVEL 0, 0), (Reg.RAD_DC_HI_LIMIT 0 0, 1000), (Reg.RAD_DC_LO_KHZ 0 0, 0), (Reg.RAD_DC_HI_KHZ
     0 0, 0xFFFFF)]).setPort 4 { ack := some ⟨1, 0, 0, 0⟩ } : State)).port (((0 : Fin 4)).val + 4) with ack := none }).rollFirst ((0 : Fin 4)).val :
     State)).secure ((0 : Fin 4)).val (((((((sets radioing [(Reg.RAD_SEC_CFG_LEVEL 0, 0), (Reg.RAD_DC_HI_LIMIT 0 0, 1000), (Reg.RAD_DC_LO_KHZ 0 0,
     0), (Reg.RAD_DC_HI_KHZ 0 0, 0xFFFFF)]).setPort 4 { ack := some ⟨1, 0, 0, 0⟩ } : State)).setPort (((0 : Fin 4)).val + 4) { (((sets radioing
     [(Reg.RAD_SEC_CFG_LEVEL 0, 0), (Reg.RAD_DC_HI_LIMIT 0 0, 1000), (Reg.RAD_DC_LO_KHZ 0 0, 0), (Reg.RAD_DC_HI_KHZ 0 0, 0xFFFFF)]).setPort 4
     { ack := some ⟨1, 0, 0, 0⟩ } : State)).port (((0 : Fin 4)).val + 4) with ack := none }).rollFirst ((0 : Fin 4)).val : State)).getF
     (Reg.RAD_SEC_CFG_LEVEL ((0 : Fin 4)).val)) (((((((sets radioing [(Reg.RAD_SEC_CFG_LEVEL 0, 0), (Reg.RAD_DC_HI_LIMIT 0 0, 1000),
     (Reg.RAD_DC_LO_KHZ 0 0, 0), (Reg.RAD_DC_HI_KHZ 0 0, 0xFFFFF)]).setPort 4 { ack := some ⟨1, 0, 0, 0⟩ } : State)).setPort (((0 : Fin 4)).val + 4)
     { (((sets radioing [(Reg.RAD_SEC_CFG_LEVEL 0, 0), (Reg.RAD_DC_HI_LIMIT 0 0, 1000), (Reg.RAD_DC_LO_KHZ 0 0, 0), (Reg.RAD_DC_HI_KHZ 0 0,
     0xFFFFF)]).setPort 4 { ack := some ⟨1, 0, 0, 0⟩ } : State)).port (((0 : Fin 4)).val + 4) with ack := none }).rollFirst ((0 : Fin 4)).val :
     State)).cellAsn ((0 : Fin 4)).val) (radFcf 2 (min (((((((sets radioing [(Reg.RAD_SEC_CFG_LEVEL 0, 0), (Reg.RAD_DC_HI_LIMIT 0 0, 1000),
     (Reg.RAD_DC_LO_KHZ 0 0, 0), (Reg.RAD_DC_HI_KHZ 0 0, 0xFFFFF)]).setPort 4 { ack := some ⟨1, 0, 0, 0⟩ } : State)).setPort (((0 : Fin 4)).val + 4)
     { (((sets radioing [(Reg.RAD_SEC_CFG_LEVEL 0, 0), (Reg.RAD_DC_HI_LIMIT 0 0, 1000), (Reg.RAD_DC_LO_KHZ 0 0, 0), (Reg.RAD_DC_HI_KHZ 0 0,
     0xFFFFF)]).setPort 4 { ack := some ⟨1, 0, 0, 0⟩ } : State)).port (((0 : Fin 4)).val + 4) with ack := none }).rollFirst ((0 : Fin 4)).val :
     State)).getF (Reg.RAD_SEC_CFG_LEVEL ((0 : Fin 4)).val)) 1) 0 1 0 0 ++ [BitVec.ofNat 8 (((((((sets radioing [(Reg.RAD_SEC_CFG_LEVEL 0, 0),
     (Reg.RAD_DC_HI_LIMIT 0 0, 1000), (Reg.RAD_DC_LO_KHZ 0 0, 0), (Reg.RAD_DC_HI_KHZ 0 0, 0xFFFFF)]).setPort 4 { ack := some ⟨1, 0, 0, 0⟩ } :
     State)).port (((0 : Fin 4)).val + 4)).ack).get (by decide +kernel))).seq]) (leBytes 2 0x0F02 ++ leBytes 2 (((((((sets radioing
     [(Reg.RAD_SEC_CFG_LEVEL 0, 0), (Reg.RAD_DC_HI_LIMIT 0 0, 1000), (Reg.RAD_DC_LO_KHZ 0 0, 0), (Reg.RAD_DC_HI_KHZ 0 0, 0xFFFFF)]).setPort 4
     { ack := some ⟨1, 0, 0, 0⟩ } : State)).port (((0 : Fin 4)).val + 4)).ack).get (by decide +kernel))).corr) []).get (by decide +kernel)), _, _,
     _, ?_, ?_, (Option.some_get _).symm, ?_, rfl, (Option.some_get _).symm, rfl, rfl, rfl, ?_, ?_, rfl⟩ <;> decide +kernel,
   by refine ⟨((sets radioing [(Reg.RAD_SEC_CFG_LEVEL 0, 5)]).setPort 4 { ack := some ⟨1, 0, 0, 0⟩ } : State), _, (0 : Fin 4), ((((((sets radioing
     [(Reg.RAD_SEC_CFG_LEVEL 0, 5)]).setPort 4 { ack := some ⟨1, 0, 0, 0⟩ } : State)).port (((0 : Fin 4)).val + 4)).ack).get (by decide +kernel)),
     ?_, ?_, (Option.some_get _).symm, ?_, rfl, ?_⟩ <;> decide +kernel,
   by refine ⟨(radioing.setPort 4 { wait := some ({ attempts := 99 }, 0) } : State), (0 : Fin 4), ({ attempts := 99 } : PortTx), (0 : Nat), _, rfl,
     ?_, ?_, ?_⟩ <;> decide +kernel,
   by refine ⟨(radioing.setPort 4 { wait := some ({}, 0) } : State), (0 : Fin 4), ({} : PortTx), (0 : Nat), ?_, ?_, ?_, ?_⟩ <;> decide +kernel,
   by refine ⟨(radioing.setPort 4 { wait := some ({}, 0), cell := some (1, 0) } : State), (((radioing.setPort 4
     { wait := some ({}, 0), cell := some (1, 0) } : State)).drawWord).2, (0 : Fin 4), ({} : PortTx), (0 : Nat), (0 : Nat), _, (((radioing.setPort 4
     { wait := some ({}, 0), cell := some (1, 0) } : State)).drawWord).1, ?_, ?_, ?_, ?_, rfl, pair_eq _⟩ <;> decide +kernel,
   by refine ⟨radioing, (0 : Fin 4), (7 : BitVec 64), ?_, ?_⟩ <;> decide +kernel,
   by refine ⟨(sets radioing [(Reg.RAD_JOIN_CFG_OPEN 0, 1), (Reg.RAD_JOIN_CFG_POLICY 0, 1)] : State), (0 : Fin 4), (7 : BitVec 64), _, ((lowestFree
     ((((((sets radioing [(Reg.RAD_JOIN_CFG_OPEN 0, 1), (Reg.RAD_JOIN_CFG_POLICY 0, 1)] : State)).port (((0 : Fin 4)).val + 4)).nodes.filterMap (fun
     e => e.2.map (fun n => (e.1, n))) : List (Nat × PortNode))).map (·.1)) 1 2048).get (by decide +kernel)), ?_, ?_, rfl, ?_, ?_, ?_, ?_, ?_,
     (Option.some_get _).symm⟩ <;> decide +kernel,
   by refine ⟨(radioing.setF (Reg.RAD_CTRL_ROLE 0) 2 : State), (0 : Fin 4), (7 : BitVec 64), ?_, ?_⟩ <;> decide +kernel,
   by refine ⟨(sets radioing [(Reg.RAD_CTRL_ROLE 0, 2), (Reg.RAD_STAT_NODE_STATE 0, 3)] : State), _, _, _, _, (0 : Fin 4), (0 : BitVec 16), (0 :
     BitVec 64), (0 : BitVec 40), (0 : Word), ?_, ?_, ?_, ?_, rfl, rfl, rfl, rfl⟩ <;> decide +kernel,
   by refine ⟨(sets radioing [(Reg.RAD_CTRL_ROLE 0, 2), (Reg.RAD_STAT_NODE_STATE 0, 0)] : State), _, _, _, _, (0 : Fin 4), (0 : BitVec 16), (0 :
     BitVec 64), (0 : BitVec 40), (0 : Word), ?_, ?_, ?_, ?_, rfl, rfl, rfl, ?_, rfl, ?_⟩ <;> decide +kernel,
   by refine ⟨(sets radioing [(Reg.RAD_CTRL_ROLE 0, 1), (Reg.RAD_STAT_NODE_STATE 0, 3)] : State), (0 : Fin 4), ?_, ?_, ?_, ?_,
     ?_⟩ <;> decide +kernel,
   by refine ⟨((sets radioing [(Reg.RAD_CTRL_ROLE 0, 1), (Reg.RAD_STAT_NODE_STATE 0, 3)]).setPort 4 { period := 1 } : State), (0 : Fin 4), ?_, ?_,
     ?_, ?_, ?_⟩ <;> decide +kernel,
   by refine ⟨({ radioing with tb1 := 60000000000 } : State), (0 : Fin 4), ?_, ?_⟩ <;> decide +kernel,
   ⟨radioing, (0 : Fin 4), _, rfl⟩,
   by refine ⟨((radioing.setRec 0 0x014 4 (2 ^ 31 + 0x14)).enq (portEnd 4 0) { body := .ack {} } : State), (((((radioing.setRec 0 0x014 4 (2 ^ 31 +
     0x14)).enq (portEnd 4 0) { body := .ack {} } : State)).deqHeld (portEnd (((0 : Fin 4)).val + 4) 0)).get (by decide +kernel)).2,
     (((((((radioing.setRec 0 0x014 4 (2 ^ 31 + 0x14)).enq (portEnd 4 0) { body := .ack {} } : State)).deqHeld (portEnd (((0 : Fin 4)).val + 4)
     0)).get (by decide +kernel)).2).ackFrame (({} : Ack)) (((((((radioing.setRec 0 0x014 4 (2 ^ 31 + 0x14)).enq (portEnd 4 0) { body := .ack {} } :
     State)).deqHeld (portEnd (((0 : Fin 4)).val + 4) 0)).get (by decide +kernel)).2).title (Reg.RAD_ACK_TITLE_HI_TITLE ((0 : Fin 4)).val)
     (Reg.RAD_ACK_TITLE_LO_TITLE ((0 : Fin 4)).val))).2, (0 : Fin 4), ({} : Ack), ((((((((radioing.setRec 0 0x014 4 (2 ^ 31 + 0x14)).enq (portEnd 4
     0) { body := .ack {} } : State)).deqHeld (portEnd (((0 : Fin 4)).val + 4) 0)).get (by decide +kernel)).2).hintAddr (({} : Ack)).meter (((0 :
     Fin 4)).val + 4)).get (by decide +kernel)), (((((((radioing.setRec 0 0x014 4 (2 ^ 31 + 0x14)).enq (portEnd 4 0) { body := .ack {} } :
     State)).deqHeld (portEnd (((0 : Fin 4)).val + 4) 0)).get (by decide +kernel)).2).ackFrame (({} : Ack)) (((((((radioing.setRec 0 0x014 4 (2 ^ 31
     + 0x14)).enq (portEnd 4 0) { body := .ack {} } : State)).deqHeld (portEnd (((0 : Fin 4)).val + 4) 0)).get (by decide +kernel)).2).title
     (Reg.RAD_ACK_TITLE_HI_TITLE ((0 : Fin 4)).val) (Reg.RAD_ACK_TITLE_LO_TITLE ((0 : Fin 4)).val))).1, ?_, ?_, (Option.some_get _).symm, pair_eq
     _⟩ <;> decide +kernel,
   by refine ⟨(radioing.enq (portEnd 4 0) { body := .ack {} } : State), ((((radioing.enq (portEnd 4 0) { body := .ack {} } : State)).deqHeld
     (portEnd (((0 : Fin 4)).val + 4) 0)).get (by decide +kernel)).2, (0 : Fin 4), ({} : Ack), ?_, ?_, ?_⟩ <;> decide +kernel,
   by refine ⟨(asked radioing (portEnd 4 1) (job 16 0 []) : State), _, _, (0 : Fin 4), (none : Option Submission), p_bytes (((((((asked radioing
     (portEnd 4 1) (job 16 0 []) : State)).submitted (portEnd (((0 : Fin 4)).val + 4) 1) ((none : Option Submission)) (fun x => .bytes x.item) :
     State)).queue (portEnd (((0 : Fin 4)).val + 4) 1)).items.head?).get (by decide +kernel)), _, rfl, ?_, ?_, ?_, ?_, ?_, rfl, ?_, ?_, ?_, rfl, ?_,
     ?_⟩ <;> decide +kernel,
   by refine ⟨(asked radioing (portEnd 4 1) (job 20 0 []) : State), _, (0 : Fin 4), (none : Option Submission), p_bytes (((((((asked radioing
     (portEnd 4 1) (job 20 0 []) : State)).submitted (portEnd (((0 : Fin 4)).val + 4) 1) ((none : Option Submission)) (fun x => .bytes x.item) :
     State)).queue (portEnd (((0 : Fin 4)).val + 4) 1)).items.head?).get (by decide +kernel)), (((((((asked radioing (portEnd 4 1) (job 20 0 []) :
     State)).submitted (portEnd (((0 : Fin 4)).val + 4) 1) ((none : Option Submission)) (fun x => .bytes x.item) : State)).queue (portEnd (((0 : Fin
     4)).val + 4) 1)).items.head?).get (by decide +kernel)).poison, rfl, ?_, ?_, ?_, ?_⟩ <;> decide +kernel,
   by refine ⟨up, (.trusted : Req), (0 : Fin 4), ?_, ?_⟩ <;> decide +kernel,
   by refine ⟨(radioing.setF (Reg.RAD_CTRL_FENCE 0) 1 : State), (Req.trusted : Req), (0 : Fin 4), ?_, ?_⟩ <;> decide +kernel,
   by refine ⟨up, (.trusted : Req), (0 : Fin 4), (1 : Word), (2 : Word), ?_, ?_⟩ <;> decide +kernel,
   by refine ⟨({ (radioing.setF (Reg.RAD_JOIN_CFG_AGE_H 0) 1).putNode 4 7 (some { joined := true }) with tb1 := 3600 * nsPerS } : State), (0 : Fin
     4), (7 : BitVec 16), ({ joined := true } : PortNode), _, ?_, ?_, ?_, rfl, ?_, ?_⟩ <;> decide +kernel⟩

/-- Each clause of UplinkCommandsComplete is met. -/
theorem witness_UplinkCommandsComplete :
    (∃ (s : State) (port : Fin 4) (frame : Bytes), s.domOn .port = true ∧ s.flag Reg.ETH_CTRL_ENABLE = true ∧ s.ethUp port.val = true ∧ s.tooBig
      port.val frame = false) ∧
    (∃ (s : State) (port : Fin 4) (frame : Bytes), s.domOn .port = true ∧ s.flag Reg.ETH_CTRL_ENABLE = true ∧ s.ethUp port.val = true) ∧
    (∃ (s : State) (mac : BitVec 48) (e : MacEntry), s.learned mac.toNat = some e ∧ e.heardAt + s.getF Reg.ETH_AGE_S_S * nsPerS ≤ s.tb1) ∧
    (∃ (s : State) (port : Fin 4) (frame : Bytes), s.ethUp port.val = true ∧ s.tooBig port.val frame = false ∧ (port.val ≠ 3 ∨ s.kettleServes =
      false ∨ s.kettleOther frame = none) ∧ s.domOn .port = true ∧ s.flag Reg.ETH_CTRL_ENABLE = true) ∧
    (∃ (s : State) (frame : Bytes), s.ethUp 3 = true ∧ s.tooBig 3 frame = false ∧ (s.kettleServes = false ∨ s.kettleOther frame = none) ∧ s.domOn
      .port = false) ∧
    (∃ (s : State) (frame : Bytes) (u : Udp), s.ethUp 3 = true ∧ s.tooBig 3 frame = false ∧ s.kettleServes = true ∧ s.kettleOther frame = some u) ∧
    (∃ (s : State) (t : State) (c : Nat) (buf : Nat) (tag : Nat) (b : Bytes), s.deqHeld 0x140 = some (⟨.batch c 1 buf tag b, 0⟩, t) ∧ 9 ≤ b.length ∧
      b.length = 8 + beAt b 6 2) ∧
    (∃ (s : State) (t : State) (u : State) (c : Nat) (buf : Nat) (tag : Nat) (n : Nat) (b : Bytes) (items : List (Nat × Bytes)) (learn : List
      Bytes), s.deqHeld 0x140 = some (⟨.batch c 0 buf tag b, 0⟩, t) ∧ batchSplit b = some (items, n) ∧ t.batchTagOk c n b = true ∧ learn =
      (items.filter (·.1 == 2)).map (·.2) ∧ u = (if t.getF (Reg.ETH_SRC_CFG_LEARN.win 5 c) = 1 then t.takeLearning learn else t.count
      Reg.ETH_BATCH_DROP_CNT_CNT learn.length)) ∧
    (∃ (s : State) (t : State) (k : Nat) (a : Ack) (b : Batch), s.deqHeld 0x143 = some (⟨.ack a, 0⟩, t) ∧ (t.takeBatchAck 0x143 a).completeBatch
      (fun b => b.kind != 2) = some (k, b)) ∧
    (∃ (s : State) (k : Nat) (b : Batch), (s.queue 0x143).items = [] ∧ (s.completeBatch (fun b => b.kind != 2) = some (k, b))) ∧
    (∃ (s : State) (late : List (Nat × Option Batch)), (late = s.uplink.batches.filter (fun e
      => match e.2 with | some b => !b.complete && decide (b.arrived + s.getF Reg.ETH_BATCH_CFG_TIMEOUT_MS * 1000000 ≤ s.tb1) | none => false))) ∧
    (∃ (s : State) (sub : Option Submission) (u : State) (b : Bytes), (u = s.submitted 0x142 sub (fun x => .bytes x.item)) ∧ u.domOn .port = true ∧
      u.flag Reg.ETH_CTRL_ENABLE = true ∧ (u.queue 0x142).items.head? = some ⟨.bytes b, 0⟩ ∧ (u.popped 0x142).flag Reg.TWIN_CTRL_ENABLE = false) ∧
    (∃ (s : State) (sub : Option Submission) (u : State) (t : State) (b : Bytes), u = s.submitted 0x142 sub (fun x => .bytes x.item) ∧ u.domOn .port
      = true ∧ u.flag Reg.ETH_CTRL_ENABLE = true ∧ (u.queue 0x142).items.head? = some ⟨.bytes b, 0⟩ ∧ t = u.popped 0x142 ∧ t.flag
      Reg.TWIN_CTRL_ENABLE = true ∧ slice b 6 6 = t.macOf Reg.TWIN_TWIN_MAC_HI_MAC Reg.TWIN_TWIN_MAC_LO_MAC) ∧
    (∃ (s : State) (t : State) (b : Bool) (n : Nat) (frame : Bytes), (n = (if b then 1 else 0)) ∧ s.ethUp n = true ∧ s.tooBig n frame = false ∧ (t =
      (s.settling fun u => u.lanHeard n).count (Reg.ETHP_RX_OK_CNT_CNT n)) ∧ t.flag Reg.PRP_CTRL_ENABLE = false ∧ t.flag Reg.ETH_CTRL_ENABLE = true) ∧
    (∃ (s : State) (t : State) (u : State) (v : State) (b : Bool) (n : Nat) (k : Nat) (lan : Nat) (frame : Bytes), n = (if b then 1 else 0) ∧
      s.ethUp n = true ∧ s.tooBig n frame = false ∧ t = (s.settling fun u => u.lanHeard n).count (Reg.ETHP_RX_OK_CNT_CNT n) ∧ t.flag
      Reg.PRP_CTRL_ENABLE = true ∧ 20 ≤ frame.length ∧ k = frame.length - 6 ∧ beAt frame (k + 4) 2 = 0x88FB ∧ isPtp frame = false ∧ lan = beAt frame
      (k + 2) 2 / 4096 ∧ u = (if lan = (if b then 0xB else 0xA) then t else t.count (if b then Reg.PRP_WRONG_LAN_B_CNT_CNT else
      Reg.PRP_WRONG_LAN_A_CNT_CNT)) ∧ u.prpAccept (beAt frame 6 6) (beAt frame k 2) = (true, v) ∧ v.flag Reg.ETH_CTRL_ENABLE = true) ∧
    (∃ (s : State) (b : Bool) (n : Nat) (frame : Bytes), n = (if b then 1 else 0) ∧ s.ethUp n = true) ∧
    (∃ (s : State) (mac : BitVec 48) (x : PrpNode), s.prpNode mac.toNat = some x ∧ x.heardAt + s.getF Reg.PRP_FORGET_NODE_S * nsPerS ≤ s.tb1) ∧
    (∃ (s : State) (f : Bytes) (m : Bytes), s.domOn .port = true ∧ s.flag Reg.PRP_SUP_CFG_EN = true ∧ s.uplink.supAt ≤ s.tb1 ∧ m = s.macOf
      Reg.ETH_MAC_HI_MAC Reg.ETH_MAC_LO_MAC ∧ f = [0x01, 0x15, 0x4E, 0x00, 0x01, 0x00] ++ m ++ beBytes 2 0x88FB ++ beBytes 2 1 ++ beBytes 2
      s.uplink.supSeq ++ [20, 6] ++ m ++ [0, 0]) ∧
    (∃ (s : State), s.domOn .port = true ∧ s.lanADown = false ∧ s.uplink.lanAt + 3 * s.getF Reg.PRP_SUP_CFG_INTERVAL_MS * 1000000 ≤ s.tb1) ∧
    (∃ (s : State), s.domOn .port = true ∧ s.lanBDown = false ∧ s.uplink.lanBt + 3 * s.getF Reg.PRP_SUP_CFG_INTERVAL_MS * 1000000 ≤ s.tb1) ∧
    (∃ (s : State) (port : Fin 4) (b : Bool) (speed : BitVec 2) (sqi : BitVec 3), port.val ≠ 3 ∧ s.domOn .port = true ∧ s.flag (Reg.ETHP_STAT_LINK
      port.val) ≠ b) ∧
    (∃ (s : State) (b : Bool) (speed : BitVec 2) (sqi : BitVec 3), s.mode ≠ .dormant ∧ s.mode ≠ .backup ∧ s.flag (Reg.ETHP_STAT_LINK 3) ≠ b) ∧
    (∃ (s : State) (req : Req) (phy : BitVec 5) (reg : BitVec 5) (data : BitVec 16), TakesF s req Reg.ETH_MDIO_CMD_GO ∧ s.flag
      Reg.ETH_MDIO_STAT_BUSY = false) ∧
    (∃ (s : State) (req : Req) (phy : BitVec 5) (reg : BitVec 5) (data : BitVec 16), TakesF s req Reg.ETH_MDIO_CMD_GO ∧ s.flag
      Reg.ETH_MDIO_STAT_BUSY = false) ∧
    (∃ (s : State) (driven : Bool) (data : BitVec 16), s.flag Reg.ETH_MDIO_STAT_BUSY = true ∧ s.domOn .port = true ∧ s.getF Reg.ETH_MDIO_CMD_OP ≠ 2) ∧
    (∃ (s : State) (driven : Bool) (data : BitVec 16), s.flag Reg.ETH_MDIO_STAT_BUSY = true ∧ s.domOn .port = true ∧ s.getF Reg.ETH_MDIO_CMD_OP = 2) :=
  ⟨by refine ⟨linked, (2 : Fin 4), ([] : Bytes), ?_, ?_, ?_, ?_⟩ <;> decide +kernel,
   by refine ⟨linked, (2 : Fin 4), ([] : Bytes), ?_, ?_, ?_⟩ <;> decide +kernel,
   by refine ⟨({ up with tb1 := 99000000000000, uplink := { macs := [(5, some ⟨1, 0⟩)] } } : State), (5 : BitVec 48),
     (((({ up with tb1 := 99000000000000, uplink := { macs := [(5, some ⟨1, 0⟩)] } } : State)).learned ((5 : BitVec 48)).toNat).get
     (by decide +kernel)), ?_, ?_⟩ <;> decide +kernel,
   by refine ⟨linked, (2 : Fin 4), ([] : Bytes), ?_, ?_, ?_, ?_, ?_⟩ <;> decide +kernel,
   by refine ⟨(sets (up.setF Reg.CLK_STAT_DOM_RUN 0x01) [(Reg.ETHP_CTRL_ENABLE 3, 1), (Reg.ETHP_STAT_LINK 3, 1)] : State), ([] : Bytes), ?_, ?_, ?_,
     ?_⟩ <;> decide +kernel,
   by refine ⟨(sets up [(Reg.ETHP_CTRL_ENABLE 3, 1), (Reg.ETHP_STAT_LINK 3, 1), (Reg.ETHP_KSVC_PORT 3, 1)] : State), (List.replicate 12 0 ++ [8, 0,
     0x45] ++ List.replicate 8 0 ++ [17] ++ List.replicate 10 0 ++ [0, 1, 0, 1, 0, 9, 0, 0, 9] : Bytes), ((((sets up [(Reg.ETHP_CTRL_ENABLE 3, 1),
     (Reg.ETHP_STAT_LINK 3, 1), (Reg.ETHP_KSVC_PORT 3, 1)] : State)).kettleOther ((List.replicate 12 0 ++ [8, 0, 0x45] ++ List.replicate 8 0 ++ [17]
     ++ List.replicate 10 0 ++ [0, 1, 0, 1, 0, 9, 0, 0, 9] : Bytes))).get (by decide +kernel)), ?_, ?_, ?_, (Option.some_get
     _).symm⟩ <;> decide +kernel,
   by refine ⟨(up.enq 0x140 { body := .batch 0 1 0 0 [0, 0, 0, 0, 0, 0, 0, 1, 9] } : State), ((((up.enq 0x140
     { body := .batch 0 1 0 0 [0, 0, 0, 0, 0, 0, 0, 1, 9] } : State)).deqHeld 0x140).get (by decide +kernel)).2, (0 : Nat), (0 : Nat), (0 : Nat),
     ([0, 0, 0, 0, 0, 0, 0, 1, 9] : Bytes), ?_, ?_, ?_⟩ <;> decide +kernel,
   by refine ⟨((sets keyed [(Reg.ETH_SRC_CFG_SLOT.win 5 0, 1)]).enq 0x140
     { body := .batch 0 0 0 0 (oneFrame ++ gcmTag (List.replicate 32 1) ([0, 0, 0, 0] ++ slice oneFrame 4 4 ++ beBytes 4 0) oneFrame []) } : State),
     (((((sets keyed [(Reg.ETH_SRC_CFG_SLOT.win 5 0, 1)]).enq 0x140
     { body := .batch 0 0 0 0 (oneFrame ++ gcmTag (List.replicate 32 1) ([0, 0, 0, 0] ++ slice oneFrame 4 4 ++ beBytes 4 0) oneFrame []) } :
     State)).deqHeld 0x140).get (by decide +kernel)).2, _, (0 : Nat), (0 : Nat), (0 : Nat), ((batchSplit ((oneFrame ++ gcmTag (List.replicate 32 1)
     ([0, 0, 0, 0] ++ slice oneFrame 4 4 ++ beBytes 4 0) oneFrame [] : Bytes))).get (by decide +kernel)).2, (oneFrame ++ gcmTag (List.replicate 32
     1) ([0, 0, 0, 0] ++ slice oneFrame 4 4 ++ beBytes 4 0) oneFrame [] : Bytes), ((batchSplit ((oneFrame ++ gcmTag (List.replicate 32 1) ([0, 0, 0,
     0] ++ slice oneFrame 4 4 ++ beBytes 4 0) oneFrame [] : Bytes))).get (by decide +kernel)).1, _, ?_, ?_, ?_, rfl, rfl⟩ <;> decide +kernel,
   by refine ⟨(({ up with uplink := { batches := [(0, some {})] } } : State).enq 0x143 { body := .ack {} } : State),
     ((((({ up with uplink := { batches := [(0, some {})] } } : State).enq 0x143 { body := .ack {} } : State)).deqHeld 0x143).get
     (by decide +kernel)).2, (0 : Nat), ({} : Ack), ({} : Batch), ?_, ?_⟩ <;> decide +kernel,
   by refine ⟨({ up with uplink := { batches := [(0, some {})] } } : State), (0 : Nat), ({} : Batch), ?_, ?_⟩ <;> decide +kernel,
   ⟨up, _, rfl⟩,
   by refine ⟨((up.setF Reg.ETH_CTRL_ENABLE 1).enq 0x142 { body := .bytes [1] } : State), (none : Option Submission), _, ([1] : Bytes), rfl, ?_, ?_,
     ?_, ?_⟩ <;> decide +kernel,
   by refine ⟨((sets up [(Reg.ETH_CTRL_ENABLE, 1), (Reg.TWIN_CTRL_ENABLE, 1)]).enq 0x142 { body := .bytes (List.replicate 64 0) } : State), (none :
     Option Submission), _, _, (List.replicate 64 0 : Bytes), rfl, ?_, ?_, ?_, rfl, ?_, ?_⟩ <;> decide +kernel,
   by refine ⟨linked, _, (true : Bool), _, ([] : Bytes), rfl, ?_, ?_, rfl, ?_, ?_⟩ <;> decide +kernel,
   by refine ⟨linked.setF Reg.PRP_CTRL_ENABLE 1, _, _, _, true, _, _, _, List.replicate 14 0 ++ [0, 1, 0xB0, 0, 0x88, 0xFB], rfl, ?_, ?_, rfl, ?_,
     ?_, rfl, ?_, ?_, rfl, rfl, pair_true (by decide +kernel), ?_⟩ <;> decide +kernel,
   ⟨linked, (true : Bool), _, ([] : Bytes), rfl, by decide +kernel⟩,
   by refine ⟨({ up with tb1 := 99000000000000, uplink := { nodes := [(5, some ⟨0, 0, 0⟩)] } } : State), (5 : BitVec 48),
     (((({ up with tb1 := 99000000000000, uplink := { nodes := [(5, some ⟨0, 0, 0⟩)] } } : State)).prpNode ((5 : BitVec 48)).toNat).get
     (by decide +kernel)), ?_, ?_⟩ <;> decide +kernel,
   by refine ⟨((up.setF Reg.PRP_CTRL_ENABLE 1).setF Reg.PRP_SUP_CFG_EN 1 : State), _, _, ?_, ?_, ?_, rfl, rfl⟩ <;> decide +kernel,
   by refine ⟨({ (up.setF Reg.PRP_CTRL_ENABLE 1).setF Reg.PRP_SUP_CFG_EN 1 with tb1 := 99000000000000 } : State), ?_, ?_, ?_⟩ <;> decide +kernel,
   by refine ⟨({ (up.setF Reg.PRP_CTRL_ENABLE 1).setF Reg.PRP_SUP_CFG_EN 1 with tb1 := 99000000000000 } : State), ?_, ?_, ?_⟩ <;> decide +kernel,
   by refine ⟨up, (1 : Fin 4), (true : Bool), (2 : BitVec 2), (0 : BitVec 3), ?_, ?_, ?_⟩ <;> decide +kernel,
   by refine ⟨up, (true : Bool), (2 : BitVec 2), (0 : BitVec 3), ?_, ?_, ?_⟩ <;> decide +kernel,
   by refine ⟨up, (.trusted : Req), (1 : BitVec 5), (2 : BitVec 5), (3 : BitVec 16), ?_, ?_⟩ <;> decide +kernel,
   by refine ⟨up, (.trusted : Req), (1 : BitVec 5), (2 : BitVec 5), (3 : BitVec 16), ?_, ?_⟩ <;> decide +kernel,
   by refine ⟨(up.setF Reg.ETH_MDIO_STAT_BUSY 1 : State), (true : Bool), (5 : BitVec 16), ?_, ?_, ?_⟩ <;> decide +kernel,
   by refine ⟨((up.setF Reg.ETH_MDIO_STAT_BUSY 1).setF Reg.ETH_MDIO_CMD_OP 2 : State), (true : Bool), (5 : BitVec 16), ?_, ?_,
     ?_⟩ <;> decide +kernel⟩

/-- Each clause of HostLinkCommandsComplete is met. -/
theorem witness_HostLinkCommandsComplete :
    (∃ (s : State) (req : Req) (data : Word), TakesF s req Reg.PCIE_SQ_TAIL_IDX) ∧
    (∃ (s : State) (t : State) (u : State) (host : List (BitVec 64 × Bytes)) (entry : Bytes) (batch : Bytes), t = host.foldl (fun t e => t.write
      (hostCell e.1.toNat) e.2) s ∧ t.pcieMaster = true ∧ t.flag Reg.PCIE_CTRL_ENABLE = true ∧ t.getF Reg.PCIE_SQ_HEAD_IDX ≠ t.getF
      Reg.PCIE_SQ_TAIL_IDX ∧ t.hasCredit 0x178 = true ∧ entry = t.read (hostCell (t.get2 Reg.PCIE_SQ_BASE_LO_ADDR Reg.PCIE_SQ_BASE_HI_ADDR + 32 *
      t.getF Reg.PCIE_SQ_HEAD_IDX)) 32 ∧ batch = t.read (hostCell (leAt entry 0 8)) (leAt entry 16 2) ∧ u = t.enq 0x178
      { body := .batch 0 2 (leAt entry 8 8) (leAt entry 18 2) batch }) ∧
    (∃ (s : State) (buf : Nat) (tag : Nat) (st : Nat) (d : Bytes) (r : List (Nat × Nat × Nat × Bytes)), (s.queue 0x179).items = [] ∧
      (s.completeBatch (fun b => b.kind == 2) = none) ∧ s.uplink.completions = (buf, tag, st, d) :: r ∧ (s.getF Reg.PCIE_CQ_TAIL_IDX + 1) % 2 ^
      s.getF Reg.PCIE_CQ_CFG_LOG2 ≠ s.getF Reg.PCIE_CQ_HEAD_IDX ∧ s.flag Reg.PCIE_CTRL_ENABLE = true ∧ s.pcieMaster = true) ∧
    (∃ (s : State) (t : State) (u : State) (v : State) (k : Nat) (a : Ack) (b : Batch) (iv : Bytes) (d : Bytes), s.deqHeld 0x179 = some (⟨.ack a,
      0⟩, t) ∧ u = t.takeBatchAck 0x179 a ∧ u.completeBatch (fun b => b.kind == 2) = some (k, b) ∧ u.drawBytes 8 = (iv, v) ∧ (v.endBatch
      k).uplink.completions = [] ∧ d = [0xB2, 0x01] ++ beBytes 2 b.frames.length ++ beBytes 4 b.bseq ++ iv ++ b.list ∧ ((v.endBatch k).getF
      Reg.PCIE_CQ_TAIL_IDX + 1) % 2 ^ (v.endBatch k).getF Reg.PCIE_CQ_CFG_LOG2 ≠ (v.endBatch k).getF Reg.PCIE_CQ_HEAD_IDX ∧ (v.endBatch k).flag
      Reg.PCIE_CTRL_ENABLE = true ∧ (v.endBatch k).pcieMaster = true) ∧
    (∃ (s : State) (t : State) (up : Option PcieHost), s.domOn .fabric = true ∧ s.flag Reg.PCIE_STAT_LINK_UP = true ∧ t = (((s.pcieReset.setF
      Reg.PCIE_STAT_LINK_UP 0).setF Reg.PCIE_STAT_GEN 0).setF Reg.PCIE_STAT_WIDTH 0).irq Reg.PCIE_IRQ_LINK_DOWN) ∧
    (∃ (s : State) (up : Option PcieHost), s.domOn .fabric = true ∧ s.flag Reg.PCIE_STAT_LINK_UP = false) ∧
    (∃ (s : State) (t : State) (up : Option PcieHost), s.domOn .fabric = true ∧ s.flag Reg.PCIE_STAT_LINK_UP = true ∧ t = s.pcieReset.irq
      Reg.PCIE_IRQ_HOT_RESET) ∧
    (∃ (s : State) (addr : Bytes) (port : BitVec 16), s.kettleServes = true) ∧
    (∃ (s : State) (addr : Bytes) (port : BitVec 16) (index : Word) (count : BitVec 8), s.kettleServes = true ∧ count.toNat ≠ 0 ∧ count.toNat ≤ 8) ∧
    (∃ (s : State) (addr : Bytes) (port : BitVec 16) (page : BitVec 8) (off : BitVec 12) (count : BitVec 8) (t : State) (b : Bytes), s.kettleServes
      = true ∧ count.toNat ≠ 0 ∧ count.toNat ≤ 16 ∧ off.toNat % 4 = 0 ∧ off.toNat + 4 * count.toNat ≤ 4096 ∧ Reg.slowOrAon page.toNat = true ∧
      pageExists page.toNat = true ∧ s.pageWords page.toNat off.toNat count.toNat = (t, some b)) ∧
    (∃ (s : State) (addr : Bytes) (port : BitVec 16) (target : BitVec 8) (counter : BitVec 64) (signature : Bytes), s.kettleServes = true ∧
      target.toNat ≠ 0 ∧ target.toNat ≤ 4 ∧ signature.length = 114 ∧ s.wakeGood target.toNat counter.toNat signature = true) :=
  ⟨⟨up, (.trusted : Req), (5 : Word), by decide +kernel⟩,
   ⟨(({ (sets up [(Reg.PCIE_STAT_LINK_UP, 1), (Reg.PCIE_STAT_BME, 1), (Reg.PCIE_CTRL_ENABLE, 1)]).setF Reg.PCIE_SQ_TAIL_IDX 1 with pending := [] })
     : State), _, _, [(0, [0, 16])], _, _, rfl, by decide +kernel, by decide +kernel, by decide +kernel, by decide +kernel, rfl, rfl, rfl⟩,
   by refine
     ⟨({ sets up [(Reg.PCIE_CTRL_ENABLE, 1), (Reg.PCIE_CQ_CFG_LOG2, 4), (Reg.PCIE_STAT_LINK_UP, 1), (Reg.PCIE_STAT_BME, 1)] with uplink := { completions := [(0, 0, 0, [])] } }
     : State), (0 : Nat), (0 : Nat), (0 : Nat), ([] : Bytes), ([] : List (Nat × Nat × Nat × Bytes)), ?_, ?_, ?_, ?_, ?_, ?_⟩ <;> decide +kernel,
   by refine
     ⟨(({ sets up [(Reg.PCIE_CTRL_ENABLE, 1), (Reg.PCIE_CQ_CFG_LOG2, 4), (Reg.PCIE_STAT_LINK_UP, 1), (Reg.PCIE_STAT_BME, 1)] with uplink := { batches := [(0, some { kind := 2 })] } }
     : State).enq 0x179 { body := .ack {} } : State),
     ((((({ sets up [(Reg.PCIE_CTRL_ENABLE, 1), (Reg.PCIE_CQ_CFG_LOG2, 4), (Reg.PCIE_STAT_LINK_UP, 1), (Reg.PCIE_STAT_BME, 1)] with uplink := { batches := [(0, some { kind := 2 })] } }
     : State).enq 0x179 { body := .ack {} } : State)).deqHeld 0x179).get (by decide +kernel)).2, _,
     ((((((((({ sets up [(Reg.PCIE_CTRL_ENABLE, 1), (Reg.PCIE_CQ_CFG_LOG2, 4), (Reg.PCIE_STAT_LINK_UP, 1), (Reg.PCIE_STAT_BME, 1)] with uplink := { batches := [(0, some { kind := 2 })] } }
     : State).enq 0x179 { body := .ack {} } : State)).deqHeld 0x179).get (by decide +kernel)).2).takeBatchAck 0x179 (({} : Ack)) : State)).drawBytes
     8).2, (0 : Nat), ({} : Ack), ({ kind := 2 } : Batch),
     ((((((((({ sets up [(Reg.PCIE_CTRL_ENABLE, 1), (Reg.PCIE_CQ_CFG_LOG2, 4), (Reg.PCIE_STAT_LINK_UP, 1), (Reg.PCIE_STAT_BME, 1)] with uplink := { batches := [(0, some { kind := 2 })] } }
     : State).enq 0x179 { body := .ack {} } : State)).deqHeld 0x179).get (by decide +kernel)).2).takeBatchAck 0x179 (({} : Ack)) : State)).drawBytes
     8).1, _, ?_, rfl, ?_, pair_eq _, ?_, rfl, ?_, ?_, ?_⟩ <;> decide +kernel,
   by refine ⟨(up.setF Reg.PCIE_STAT_LINK_UP 1 : State), _, (some { gen := 3, width := .x4, bme := true, msix := true } : Option PcieHost), ?_, ?_,
     rfl⟩ <;> decide +kernel,
   by refine ⟨up, (some { gen := 3, width := .x4, bme := true, msix := true } : Option PcieHost), ?_, ?_⟩ <;> decide +kernel,
   by refine ⟨(up.setF Reg.PCIE_STAT_LINK_UP 1 : State), _, (none : Option PcieHost), ?_, ?_, rfl⟩ <;> decide +kernel,
   ⟨kettling, ([] : Bytes), (7 : BitVec 16), by decide +kernel⟩,
   by refine ⟨kettling, ([] : Bytes), (7 : BitVec 16), (0 : Word), (1 : BitVec 8), ?_, ?_, ?_⟩ <;> decide +kernel,
   by refine ⟨kettling, ([] : Bytes), (7 : BitVec 16), (3 : BitVec 8), (0 : BitVec 12), (1 : BitVec 8), ((kettling).pageWords ((3 : BitVec 8)).toNat
     ((0 : BitVec 12)).toNat ((1 : BitVec 8)).toNat).1, ((((kettling).pageWords ((3 : BitVec 8)).toNat ((0 : BitVec 12)).toNat ((1 : BitVec
     8)).toNat).2).get (by decide +kernel)), ?_, ?_, ?_, ?_, ?_, ?_, ?_, ?_⟩ <;> decide +kernel,
   by refine ⟨((kettling.setF Reg.RTC_STAT_RET_LOST 0).write 0x0100FFC0 [1] : State), ([] : Bytes), (7 : BitVec 16), (1 : BitVec 8), (1 : BitVec
     64), (1 :: List.replicate 113 0 : Bytes), ?_, ?_, ?_, ?_, ?_⟩ <;> decide +kernel⟩

/-- Each clause of TwinRecordCommandsComplete is met. -/
theorem witness_TwinRecordCommandsComplete :
    (∃ (s : State) (q : State) (u : State) (b : Bytes), RecTakes s (.frame b) q u) ∧
    (∃ (s : State) (g : State) (b : Bytes), Linked s ∧ s.roomFor = true ∧ g = heardRecord s ∧ g.twinRole = 2 ∧ g.twin.sync.isSome = true) ∧
    (∃ (s : State) (g : State) (q : State) (t : State) (b : Bytes) (parity : Nat) (i : Item), Linked s ∧ s.roomFor = true ∧ g = heardRecord s ∧
      g.twinRole = 3 ∧ g.twin.missing = [] ∧ (g.queue 0x181).items = [] ∧ parity ≠ 0 ∧ i = { body := .record (.frame b), poison := parity } ∧ q =
      g.enq 0x181 i ∧ (q.queue 0x181).items.head? = some i ∧ q.deq 0x181 = some (i, t)) ∧
    (∃ (s : State) (b : Bytes) (parity : Nat), Linked s ∧ s.roomFor = false) ∧
    (∃ (s : State) (q : State) (u : State) (order : BitVec 48) (b : Bytes), RecTakes s (.ordered order.toNat (.dirCmd (slice b 0 64) 1)) q u) ∧
    (∃ (s : State) (g : State) (order : BitVec 48) (b : Bytes), Linked s ∧ s.roomFor = true ∧ g = heardRecord s ∧ g.twinRole = 2 ∧
      g.twin.sync.isSome = true) ∧
    (∃ (s : State) (q : State) (u : State) (order : BitVec 48) (b : Bytes), RecTakes s (.ordered order.toNat (.balCmd (slice b 0 64 ++ [1]))) q u) ∧
    (∃ (s : State) (g : State) (order : BitVec 48) (b : Bytes), Linked s ∧ s.roomFor = true ∧ g = heardRecord s ∧ g.twinRole = 2 ∧
      g.twin.sync.isSome = true) ∧
    (∃ (s : State) (q : State) (u : State) (order : BitVec 48) (m : BitVec 20) (d : Bytes) (sw : Bool), RecTakes s (.ordered order.toNat (.token d
      m.toNat (if sw then 2 else 1))) q u) ∧
    (∃ (s : State) (g : State) (order : BitVec 48) (m : BitVec 20) (d : Bytes) (sw : Bool), Linked s ∧ s.roomFor = true ∧ g = heardRecord s ∧
      g.twinRole = 2 ∧ g.twin.sync.isSome = true) ∧
    (∃ (s : State) (q : State) (u : State) (order : BitVec 48) (k : Word) (gen : BitVec 16) (b : Bool) (a : Word), RecTakes s (.ordered order.toNat
      (.balMarker k.toNat)) q u) ∧
    (∃ (s : State) (g : State) (order : BitVec 48) (k : Word) (gen : BitVec 16) (b : Bool) (a : Word), Linked s ∧ s.roomFor = true ∧ g = heardRecord
      s ∧ g.twinRole = 2 ∧ g.twin.sync.isSome = true) ∧
    (∃ (s : State) (q : State) (u : State) (order : BitVec 48) (k : Word) (gen : BitVec 16) (b : Bool) (a : Word), RecTakes s (.ordered order.toNat
      (.demandMarker k.toNat gen.toNat)) q u) ∧
    (∃ (s : State) (g : State) (order : BitVec 48) (k : Word) (gen : BitVec 16) (b : Bool) (a : Word), Linked s ∧ s.roomFor = true ∧ g = heardRecord
      s ∧ g.twinRole = 2 ∧ g.twin.sync.isSome = true) ∧
    (∃ (s : State) (q : State) (u : State) (order : BitVec 48) (k : Word) (gen : BitVec 16) (b : Bool) (a : Word), RecTakes s (.ordered order.toNat
      (.closeMarker k.toNat b a.toNat)) q u) ∧
    (∃ (s : State) (g : State) (order : BitVec 48) (k : Word) (gen : BitVec 16) (b : Bool) (a : Word), Linked s ∧ s.roomFor = true ∧ g = heardRecord
      s ∧ g.twinRole = 2 ∧ g.twin.sync.isSome = true) ∧
    (∃ (s : State) (q : State) (u : State) (order : BitVec 48) (k : Word) (gen : BitVec 16) (b : Bool) (a : Word), RecTakes s (.ordered order.toNat
      (.ckptMarker k.toNat)) q u) ∧
    (∃ (s : State) (g : State) (order : BitVec 48) (k : Word) (gen : BitVec 16) (b : Bool) (a : Word), Linked s ∧ s.roomFor = true ∧ g = heardRecord
      s ∧ g.twinRole = 2 ∧ g.twin.sync.isSome = true) ∧
    (∃ (s : State) (q : State) (u : State) (order : BitVec 48) (v : List (BitVec 8 × BitVec 12 × Word)), RecTakes s (.ordered order.toNat (.txn
      (v.map (fun x => (x.1.toNat, x.2.1.toNat, x.2.2.toNat))) false)) q u) ∧
    (∃ (s : State) (g : State) (order : BitVec 48) (v : List (BitVec 8 × BitVec 12 × Word)), Linked s ∧ s.roomFor = true ∧ g = heardRecord s ∧
      g.twinRole = 2 ∧ g.twin.sync.isSome = true) ∧
    (∃ (s : State) (q : State) (u : State) (order : BitVec 48) (port : Fin 8) (ident : BitVec 64) (addr : BitVec 16) (slot : BitVec 16), RecTakes s
      (.ordered order.toNat (.join (joinBytes port.val ident.toNat addr.toNat slot.toNat))) q u) ∧
    (∃ (s : State) (g : State) (order : BitVec 48) (port : Fin 8) (ident : BitVec 64) (addr : BitVec 16) (slot : BitVec 16), Linked s ∧ s.roomFor =
      true ∧ g = heardRecord s ∧ g.twinRole = 2 ∧ g.twin.sync.isSome = true) ∧
    (∃ (s : State) (q : State) (u : State) (order : BitVec 48), RecTakes s (.discard order.toNat 0) q u) ∧
    (∃ (s : State) (g : State) (order : BitVec 48), Linked s ∧ s.roomFor = true ∧ g = heardRecord s ∧ g.twinRole = 2 ∧ g.twin.sync.isSome = true) ∧
    (∃ (s : State) (q : State) (u : State) (x : BitVec 48) (l : BitVec 48), RecTakes s (.group x.toNat l.toNat) q u) ∧
    (∃ (s : State) (g : State) (x : BitVec 48) (l : BitVec 48), Linked s ∧ s.roomFor = true ∧ g = heardRecord s ∧ g.twinRole = 2 ∧
      g.twin.sync.isSome = true) ∧
    (∃ (s : State) (h : State) (g : State) (q : BitVec 48), Linked s ∧ h = s.heardOn 0 true ∧ g = h.ackLink ∧ g.twinRole = 4) ∧
    (∃ (s : State) (h : State) (g : State) (x : BitVec 48) (bounds : List (BitVec 48)), Linked s ∧ h = s.heardOn 0 true ∧ g = h.ackLink ∧ g.twinRole
      = 3) ∧
    (∃ (s : State) (h : State) (g : State) (stream : Fin 10) (index : BitVec 48) (digest : BitVec 64), Linked s ∧ h = s.heardOn 0 true ∧ g =
      h.ackLink) ∧
    (∃ (s : State) (h : State) (g : State) (port : BitVec 4) (link : BitVec 16) (q : BitVec 8) (frame : Bytes), Linked s ∧ h = s.heardOn 0 true ∧ g
      = h.ackLink ∧ g.twinRole = 4 ∧ port.toNat < 4) ∧
    (∃ (s : State) (h : State) (g : State) (port : BitVec 4) (link : BitVec 16) (q : BitVec 8) (frame : Bytes), Linked s ∧ h = s.heardOn 0 true ∧ g
      = h.ackLink ∧ g.twinRole = 4 ∧ 4 ≤ port.toNat ∧ port.toNat < 8) ∧
    (∃ (s : State) (h : State) (g : State) (link : BitVec 16) (q : BitVec 8) (frame : Bytes), Linked s ∧ h = s.heardOn 0 true ∧ g = h.ackLink ∧
      g.twinRole = 4 ∧ g.flag Reg.BILL_CTRL_ENABLE = true ∧ g.hasCredit 0x80 = true) ∧
    (∃ (s : State) (h : State) (g : State) (order : BitVec 48) (fl : Flight) (f : Frame), Linked s ∧ h = s.heardOn 0 true ∧ g = h.ackLink ∧ g.flight
      order.toNat = some fl ∧ fl.body = .frame f ∧ g.feedCredit = true) ∧
    (∃ (s : State) (h : State) (g : State) (order : BitVec 48) (r : Rec), Linked s ∧ h = s.heardOn 0 true ∧ g = h.ackLink ∧ g.recordAgain
      order.toNat = some r ∧ g.feedCredit = true) ∧
    (∃ (s : State) (h : State) (g : State) (order : BitVec 48) (m : State), Linked s ∧ h = s.heardOn 0 true ∧ g = h.ackLink ∧ g.twinRole = 4 ∧
      g.getF Reg.TWIN_STAT_PEER_ROLE = 2 ∧ g.twin.sync = none ∧ m = (g.sendMeasure.set2 Reg.TWIN_SYNC_ORDER_LO_ORDER Reg.TWIN_SYNC_ORDER_HI_ORDER
      g.orderNext).setF Reg.TWIN_SYNC_DONE_RECORDS 0) ∧
    (∃ (s : State) (h : State) (g : State) (order : BitVec 48) (m : State), Linked s ∧ h = s.heardOn 0 true ∧ g = h.ackLink ∧ g.twinRole = 2 ∧
      g.twin.sync = none ∧ g.twin.retryAt = none ∧ m = ((g.sendMeasure.set2 Reg.TWIN_SYNC_ORDER_LO_ORDER Reg.TWIN_SYNC_ORDER_HI_ORDER
      order.toNat).setF Reg.TWIN_SYNC_DONE_RECORDS 0).clearForSync) ∧
    (∃ (s : State) (h : State) (g : State) (unit : SyncUnit) (n : Nat), Linked s ∧ h = s.heardOn 0 true ∧ g = h.ackLink ∧ g.twin.sync = some n ∧
      g.twinRole = 2 ∧ g.twin.copyDone = false) ∧
    (∃ (s : State) (h : State) (link : Word) (applied : BitVec 48) (parity : Nat) (past : LinkFrame → Bool) (u : State), Linked s ∧ h = s.heardOn 0
      true ∧ (past = (fun f => decide ((link.toNat + 2 ^ 32 - f.seq % 2 ^ 32) % 2 ^ 32 < 2 ^ 31))) ∧ (u =
      (({ h with twin := { h.twin with window := h.twin.window.filter (fun f => !past f) } } : State).badWords 0x180 parity).creditBack 0x180
      ((h.twin.window.filter past).map (·.count)).sum) ∧ u.twinRole = 4) :=
  ⟨⟨standby, _, _, [], recTakes_of (by decide +kernel) rfl (by decide +kernel) (by decide +kernel)⟩,
   by refine ⟨syncing, _, ([] : Bytes), ?_, ?_, rfl, ?_, ?_⟩ <;> decide +kernel,
   by refine ⟨standby, _, _, ((((((heardRecord standby : State)).enq 0x181 (({ body := .record (.frame (([] : Bytes))), poison := ((1 : Nat)) } :
     Item)) : State)).deq 0x181).get (by decide +kernel)).2, ([] : Bytes), (1 : Nat), _, ?_, ?_, rfl, ?_, ?_, ?_, ?_, rfl, rfl, ?_,
     ?_⟩ <;> decide +kernel,
   by refine ⟨(standby.setQueue 0x181 {} : State), ([] : Bytes), (0 : Nat), ?_, ?_⟩ <;> decide +kernel,
   ⟨standby, _, _, 0, [], recTakes_of (by decide +kernel) rfl (by decide +kernel) (by decide +kernel)⟩,
   by refine ⟨syncing, _, (0 : BitVec 48), ([] : Bytes), ?_, ?_, rfl, ?_, ?_⟩ <;> decide +kernel,
   ⟨standby, _, _, 0, [], recTakes_of (by decide +kernel) rfl (by decide +kernel) (by decide +kernel)⟩,
   by refine ⟨syncing, _, (0 : BitVec 48), ([] : Bytes), ?_, ?_, rfl, ?_, ?_⟩ <;> decide +kernel,
   ⟨standby, _, _, 0, 0, List.replicate 20 0, true, recTakes_of (by decide +kernel) rfl (by decide +kernel) (by decide +kernel)⟩,
   by refine ⟨syncing, _, (0 : BitVec 48), (0 : BitVec 20), (List.replicate 20 0 : Bytes), (false : Bool), ?_, ?_, rfl, ?_, ?_⟩ <;> decide +kernel,
   ⟨standby, _, _, 0, 1, 0, false, 7, recTakes_of (by decide +kernel) rfl (by decide +kernel) (by decide +kernel)⟩,
   by refine ⟨syncing, _, (0 : BitVec 48), (1 : Word), (0 : BitVec 16), (false : Bool), (7 : Word), ?_, ?_, rfl, ?_, ?_⟩ <;> decide +kernel,
   ⟨standby, _, _, 0, 1, 0, false, 7, recTakes_of (by decide +kernel) rfl (by decide +kernel) (by decide +kernel)⟩,
   by refine ⟨syncing, _, (0 : BitVec 48), (1 : Word), (0 : BitVec 16), (false : Bool), (7 : Word), ?_, ?_, rfl, ?_, ?_⟩ <;> decide +kernel,
   ⟨standby, _, _, 0, 1, 0, false, 7, recTakes_of (by decide +kernel) rfl (by decide +kernel) (by decide +kernel)⟩,
   by refine ⟨syncing, _, (0 : BitVec 48), (1 : Word), (0 : BitVec 16), (false : Bool), (7 : Word), ?_, ?_, rfl, ?_, ?_⟩ <;> decide +kernel,
   ⟨standby, _, _, 0, 1, 0, false, 7, recTakes_of (by decide +kernel) rfl (by decide +kernel) (by decide +kernel)⟩,
   by refine ⟨syncing, _, (0 : BitVec 48), (1 : Word), (0 : BitVec 16), (false : Bool), (7 : Word), ?_, ?_, rfl, ?_, ?_⟩ <;> decide +kernel,
   ⟨standby, _, _, 0, [], recTakes_of (by decide +kernel) rfl (by decide +kernel) (by decide +kernel)⟩,
   by refine ⟨syncing, _, (0 : BitVec 48), ([] : List (BitVec 8 × BitVec 12 × Word)), ?_, ?_, rfl, ?_, ?_⟩ <;> decide +kernel,
   ⟨standby, _, _, 0, 0, 0, 0, 0, recTakes_of (by decide +kernel) rfl (by decide +kernel) (by decide +kernel)⟩,
   by refine ⟨syncing, _, (0 : BitVec 48), (0 : Fin 8), (7 : BitVec 64), (1 : BitVec 16), (1 : BitVec 16), ?_, ?_, rfl, ?_, ?_⟩ <;> decide +kernel,
   ⟨standby, _, _, 0, recTakes_of (by decide +kernel) rfl (by decide +kernel) (by decide +kernel)⟩,
   by refine ⟨syncing, _, (0 : BitVec 48), ?_, ?_, rfl, ?_, ?_⟩ <;> decide +kernel,
   ⟨standby, _, _, 0, 5, recTakes_of (by decide +kernel) rfl (by decide +kernel) (by decide +kernel)⟩,
   by refine ⟨syncing, _, (0 : BitVec 48), (5 : BitVec 48), ?_, ?_, rfl, ?_, ?_⟩ <;> decide +kernel,
   by refine ⟨active, _, _, (9 : BitVec 48), ?_, rfl, rfl, ?_⟩ <;> decide +kernel,
   by refine ⟨standby, _, _, (9 : BitVec 48), ([] : List (BitVec 48)), ?_, rfl, rfl, ?_⟩ <;> decide +kernel,
   ⟨active, _, _, (0 : Fin 10), (1 : BitVec 48), (1 : BitVec 64), by decide +kernel, rfl, rfl⟩,
   by refine ⟨active, _, _, (0 : BitVec 4), (1 : BitVec 16), (1 : BitVec 8), ([] : Bytes), ?_, rfl, rfl, ?_, ?_⟩ <;> decide +kernel,
   by refine ⟨active, _, _, (4 : BitVec 4), (1 : BitVec 16), (1 : BitVec 8), ([] : Bytes), ?_, rfl, rfl, ?_, ?_, ?_⟩ <;> decide +kernel,
   by refine ⟨(active.setF Reg.BILL_CTRL_ENABLE 1 : State), _, _, (1 : BitVec 16), (1 : BitVec 8), ([] : Bytes), ?_, rfl, rfl, ?_, ?_,
     ?_⟩ <;> decide +kernel,
   by refine ⟨(active.setFlight 5 (some { body := .frame {} }) : State), _, _, (5 : BitVec 48), ({ body := .frame {} } : Flight), ({} : Frame), ?_,
     rfl, rfl, ?_, ?_, ?_⟩ <;> decide +kernel,
   by refine ⟨(active.setFlight 5 (some { body := .frame {} }) : State), _, _, (5 : BitVec 48), ((((((((active.setFlight 5 (some
     { body := .frame {} }) : State)).heardOn 0 true : State)).ackLink : State)).recordAgain ((5 : BitVec 48)).toNat).get (by decide +kernel)), ?_,
     rfl, rfl, (Option.some_get _).symm, ?_⟩ <;> decide +kernel,
   by refine ⟨(active.setF Reg.TWIN_STAT_PEER_ROLE 2 : State), _, _, (0 : BitVec 48), _, ?_, rfl, rfl, ?_, ?_, ?_, rfl⟩ <;> decide +kernel,
   by refine ⟨(twinIn 2 : State), _, _, (0 : BitVec 48), _, ?_, rfl, rfl, ?_, ?_, ?_, rfl⟩ <;> decide +kernel,
   by refine ⟨syncing, _, _, (.done : SyncUnit), ((((((syncing.heardOn 0 true : State)).ackLink : State)).twin.sync).get (by decide +kernel)), ?_,
     rfl, rfl, (Option.some_get _).symm, ?_, ?_⟩ <;> decide +kernel,
   by refine ⟨active, _, (0 : Word), (9 : BitVec 48), (0 : Nat), _, _, ?_, rfl, rfl, rfl, ?_⟩ <;> decide +kernel⟩

/-- Each clause of TwinLeaseCommandsComplete is met. -/
theorem witness_TwinLeaseCommandsComplete :
    (∃ (s : State) (req : Req), TakesT s req Reg.TWIN_CTRL_ENABLE ∧ (s.answer 0).role ≠ .headEnd) ∧
    (∃ (s : State) (req : Req), TakesT s req Reg.TWIN_CTRL_ENABLE ∧ (s.answer 0).role = .headEnd) ∧
    (∃ (s : State) (req : Req), TakesT s req Reg.TWIN_CTRL_ENABLE) ∧
    (∃ (s : State), s.twinRole = 1 ∧ s.flag Reg.TWIN_CTRL_SOLO_START = true ∧ s.twin.since + s.getF Reg.TWIN_SEEK_MS * 1000000 ≤ s.tb1 ∧
      (s.twin.heard.all (fun t => decide (t ≤ s.twin.since)) = true)) ∧
    (∃ (s : State) (ident : BitVec 45) (durable : BitVec 48) (prefer : Bool) (role : BitVec 3), Linked s ∧ ident.toNat = s.partnerIdent) ∧
    (∃ (s : State), s.twin.testDue = true ∧ s.twinRole = 4) ∧
    (∃ (s : State), s.twin.testDue = true ∧ s.twinRole = 4) ∧
    (∃ (s : State) (late : Digest → Bool), (late = (fun d => decide (d.at_ + 100000000 ≤ s.tb1))) ∧ (s.twin.mine.filter late).length ≠ 0) ∧
    (∃ (s : State), s.paired = true ∧ s.twin.asked = [] ∧ s.power.stop = none) ∧
    (∃ (s : State) (path : Fin 3) (c : BitVec 64) (h : State), s.flag Reg.TWIN_CTRL_ENABLE = true ∧ s.twinRole ≠ 0 ∧ s.pairKey.isSome = true ∧ h =
      s.heardOn path.val true ∧ h.twinRole = 3 ∧ h.twin.accepted ≤ c.toNat) ∧
    (∃ (s : State) (path : Fin 3) (c : BitVec 64) (f : Bool) (h : State) (a : Nat × Nat), s.flag Reg.TWIN_CTRL_ENABLE = true ∧ s.twinRole ≠ 0 ∧
      s.pairKey.isSome = true ∧ h = s.heardOn path.val true ∧ (h.twin.asked.find? (fun x => x.1 == c.toNat) = some a) ∧ h.twin.taken < c.toNat ∧
      h.paired = true) ∧
    (∃ (s : State) (path : Fin 3) (c : BitVec 64) (h : State) (t : State) (a : Nat × Nat), s.flag Reg.TWIN_CTRL_ENABLE = true ∧ s.twinRole ≠ 0 ∧
      s.pairKey.isSome = true ∧ h = s.heardOn path.val true ∧ (h.twin.asked.find? (fun x => x.1 == c.toNat) = some a) ∧ h.twin.taken < c.toNat ∧
      h.paired = false ∧ h.twinRole = 6 ∧ h.tb1 < a.2 + 10000000 ∧ t = State.settle ((h.twinTo 4).setPaired true) h.degCause) ∧
    (∃ (s : State), s.paired = true ∧ s.twin.leaseEnd ≤ s.tb1) ∧
    (∃ (s : State), s.twinRole = 6 ∧ s.twin.noticeAt + 2000000 ≤ s.tb1) ∧
    (∃ (s : State) (path : Fin 3), s.flag Reg.TWIN_CTRL_ENABLE = true ∧ s.twinRole ≠ 0 ∧ s.pairKey.isSome = true) ∧
    (∃ (s : State) (t : State) (path : Fin 3), s.flag Reg.TWIN_CTRL_ENABLE = true ∧ s.twinRole ≠ 0 ∧ s.pairKey.isSome = true ∧ t = (s.heardOn
      path.val false).setF Reg.TWIN_STAT_PEER_ROLE 5 ∧ t.paired = true) ∧
    (∃ (s : State) (t : State) (path : Fin 3), s.flag Reg.TWIN_CTRL_ENABLE = true ∧ s.twinRole ≠ 0 ∧ s.pairKey.isSome = true ∧ t = s.heardOn
      path.val true ∧ t.twinRole = 3) ∧
    (∃ (s : State) (t : State), s.twinRole = 3 ∧ s.twin.granted.getD s.twin.since + 12000000 ≤ s.tb1 ∧ s.twin.heardReal + 2000000 ≤ s.tb1 ∧ t =
      (s.activeAlone.count Reg.TWIN_TAKEOVER_CNT_CNT).irq Reg.TWIN_IRQ_ACQUIRED) ∧
    (∃ (s : State), s.twinRole = 3 ∧ bitAt (s.getF Reg.TWIN_STAT_PATHS) 0 = 0 ∧ s.twin.heard.headD 0 + s.getF Reg.TWIN_TONGS_CFG_LOSS_MS * 1000000 ≤
      s.tb1) :=
  ⟨by refine ⟨up, (.trusted : Req), ?_, ?_⟩ <;> decide +kernel,
   by refine ⟨({ up with role := .headEnd } : State), (.trusted : Req), ?_, ?_⟩ <;> decide +kernel,
   ⟨up, (.trusted : Req), by decide +kernel⟩,
   by refine ⟨({ (up.setF Reg.TWIN_STAT_ROLE 1).setF Reg.TWIN_CTRL_SOLO_START 1 with tb1 := 99000000000 } : State), ?_, ?_, ?_,
     ?_⟩ <;> decide +kernel,
   by refine ⟨active, (0 : BitVec 45), (0 : BitVec 48), (false : Bool), (0 : BitVec 3), ?_, ?_⟩ <;> decide +kernel,
   by refine ⟨({ active with twin := { active.twin with testDue := true } } : State), ?_, ?_⟩ <;> decide +kernel,
   by refine ⟨({ active with twin := { active.twin with testDue := true } } : State), ?_, ?_⟩ <;> decide +kernel,
   ⟨({ up with tb1 := 99000000000, twin := { mine := [⟨0, 0, 0, 0⟩] } } : State), _, rfl, by decide +kernel⟩,
   by refine ⟨active, ?_, ?_, ?_⟩ <;> decide +kernel,
   by refine ⟨standby, (1 : Fin 3), (9 : BitVec 64), _, ?_, ?_, ?_, rfl, ?_, ?_⟩ <;> decide +kernel,
   by refine ⟨({ active with twin := { active.twin with asked := [(9, 0)] } } : State), (1 : Fin 3), (9 : BitVec 64), (false : Bool), _, ((9, 0) :
     Nat × Nat), ?_, ?_, ?_, rfl, ?_, ?_, ?_⟩ <;> decide +kernel,
   by refine ⟨({ twinIn 6 with twin := { (twinIn 6).twin with asked := [(9, 0)] } } : State), (1 : Fin 3), (9 : BitVec 64), _, _, ((9, 0) : Nat ×
     Nat), ?_, ?_, ?_, rfl, ?_, ?_, ?_, ?_, ?_, rfl⟩ <;> decide +kernel,
   by refine ⟨active, ?_, ?_⟩ <;> decide +kernel,
   by refine ⟨({ up.setF Reg.TWIN_STAT_ROLE 6 with tb1 := 99000000000 } : State), ?_, ?_⟩ <;> decide +kernel,
   by refine ⟨active, (1 : Fin 3), ?_, ?_, ?_⟩ <;> decide +kernel,
   by refine ⟨active, _, (1 : Fin 3), ?_, ?_, ?_, rfl, ?_⟩ <;> decide +kernel,
   by refine ⟨standby, _, (1 : Fin 3), ?_, ?_, ?_, rfl, ?_⟩ <;> decide +kernel,
   by refine ⟨({ standby with tb1 := 99000000000 } : State), _, ?_, ?_, ?_, rfl⟩ <;> decide +kernel,
   by refine ⟨({ up.setF Reg.TWIN_STAT_ROLE 3 with tb1 := 99000000000 } : State), ?_, ?_, ?_⟩ <;> decide +kernel⟩

/-- Each clause of TwinRoleCommandsComplete is met. -/
theorem witness_TwinRoleCommandsComplete :
    (∃ (s : State) (req : Req), TakesF s req Reg.TWIN_CTRL_SWAP ∧ (s.answer 0).paired = true ∧ s.twin.handover = none) ∧
    (∃ (s : State) (req : Req), TakesF s req Reg.TWIN_CTRL_DISSOLVE ∧ ((s.answer 0).twinRole = 1 ∨ (s.answer 0).twinRole = 6)) ∧
    (∃ (s : State) (req : Req), TakesF s req Reg.TWIN_CTRL_DISSOLVE ∧ (s.answer 0).twinRole = 4) ∧
    (∃ (s : State) (req : Req), TakesF s req Reg.TWIN_CTRL_RESOLVE ∧ (s.answer 0).twinRole = 4) ∧
    (∃ (s : State) (req : Req), TakesF s req Reg.TWIN_CTRL_RESOLVE ∧ (s.answer 0).twinRole = 4) ∧
    (∃ (s : State) (req : Req), TakesF s req Reg.TWIN_CTRL_RESOLVE ∧ (s.answer 0).paired = true) ∧
    (∃ (s : State) (req : Req) (b : Bool), TakesT s req Reg.TWIN_CTRL_FENCE) ∧
    (∃ (s : State) (path : Fin 3), bitAt (s.getF Reg.TWIN_STAT_PATHS) path.val = 1 ∧ (s.twin.heard.getD path.val 0 + (if path.val = 0 then 1000000
      else 5000000) ≤ s.tb1)) ∧
    (∃ (s : State), s.twinRole = 2 ∧ s.twin.copyDone = true ∧ s.twin.caught.length < 8192) ∧
    (∃ (s : State) (t : State) (u : State) (n : Nat), s.twinRole = 4 ∧ s.twin.sync = some n ∧ s.twin.snapDue = false ∧ s.twin.snap = [] ∧ u = s.set2
      Reg.TWIN_APPLIED_LO_ORDER Reg.TWIN_APPLIED_HI_ORDER (max (s.get2 Reg.TWIN_APPLIED_LO_ORDER Reg.TWIN_APPLIED_HI_ORDER) (n - 1)) ∧ t =
      { u with twin := { u.twin with sync := none } }) ∧
    (∃ (s : State), s.twinRole = 2 ∧ s.twin.retryAt = none ∧ s.syncBad = true) ∧
    (∃ (s : State) (t : Nat), s.twin.retryAt = some t ∧ s.twinRole = 2 ∧ t ≤ s.tb1) ∧
    (∃ (s : State) (path : Fin 3) (pub : Bytes) (nonce : Bytes) (ident : BitVec 45) (durable : BitVec 48) (prefer : Bool) (role : BitVec 3) (h :
      State), s.flag Reg.TWIN_CTRL_ENABLE = true ∧ s.twinRole ≠ 0 ∧ ident.toNat = s.partnerIdent ∧ s.twin.meeting.isEmpty = false ∧ h =
      (s.takePairKey (s.agreedKey pub nonce ident.toNat)).heardOn path.val true) ∧
    (∃ (s : State), s.flag Reg.TWIN_CTRL_ENABLE = true ∧ s.twinRole ≠ 0 ∧ s.twin.pairedKey = false ∧ s.twin.meeting = []) ∧
    (∃ (s : State) (f : LinkFrame) (r : List LinkFrame) (t : State), s.twin.window = f :: r ∧ f.sentAt + 20000 ≤ s.tb1 ∧ s.tongsUp = true ∧ (t =
      s.twin.window.foldl (fun u g => (u.emit 13 g.body).count Reg.TWIN_TONGS_RETRY_CNT_CNT) s)) ∧
    (∃ (s : State) (key : Bytes), s.pairKey = some key ∧ s.twin.sentAt + 100000 ≤ s.tb1 ∧ s.tongsUp = true ∧ (s.queue 0x180).items = [] ∧
      s.twin.window = []) ∧
    (∃ (s : State) (h : State) (key : Bytes), s.pairKey = some key ∧ s.flag Reg.TWIN_CTRL_ENABLE = true ∧ s.twinRole ≠ 0 ∧ s.tongsUp = true ∧ h =
      s.heardOn 0 false) ∧
    (∃ (s : State) (lane : Fin 2) (b : Bool) (l : List Nat), (l = (if b then s.twin.lanesDown.filter (fun n => n != lane.val) else
      s.twin.lanesDown.filter (fun n => n != lane.val) ++ [lane.val]))) :=
  ⟨by refine ⟨active, (.trusted : Req), ?_, ?_, ?_⟩ <;> decide +kernel,
   by refine ⟨(up.setF Reg.TWIN_STAT_ROLE 1 : State), (.trusted : Req), ?_, ?_⟩ <;> decide +kernel,
   by refine ⟨active, (.trusted : Req), ?_, ?_⟩ <;> decide +kernel,
   by refine ⟨active, (.trusted : Req), ?_, ?_⟩ <;> decide +kernel,
   by refine ⟨active, (.trusted : Req), ?_, ?_⟩ <;> decide +kernel,
   by refine ⟨active, (.trusted : Req), ?_, ?_⟩ <;> decide +kernel,
   ⟨up, (.trusted : Req), (true : Bool), by decide +kernel⟩,
   by refine ⟨({ up.setF Reg.TWIN_STAT_PATHS 7 with tb1 := 99000000000 } : State), (1 : Fin 3), ?_, ?_⟩ <;> decide +kernel,
   by refine ⟨({ up.setF Reg.TWIN_STAT_ROLE 2 with twin := { copyDone := true } } : State), ?_, ?_, ?_⟩ <;> decide +kernel,
   by refine ⟨({ up.setF Reg.TWIN_STAT_ROLE 4 with twin := { sync := some 1 } } : State), _, _,
     (((({ up.setF Reg.TWIN_STAT_ROLE 4 with twin := { sync := some 1 } } : State)).twin.sync).get (by decide +kernel)), ?_, (Option.some_get
     _).symm, ?_, ?_, rfl, rfl⟩ <;> decide +kernel,
   by refine ⟨(twinIn 2 : State), ?_, ?_, ?_⟩ <;> decide +kernel,
   by refine ⟨({ up.setF Reg.TWIN_STAT_ROLE 2 with twin := { retryAt := some 0 } } : State), (0 : Nat), ?_, ?_, ?_⟩ <;> decide +kernel,
   by refine ⟨({ active with twin := { active.twin with meeting := [1] } } : State), (0 : Fin 3), ([] : Bytes), ([] : Bytes), (0 : BitVec 45), (0 :
     BitVec 48), (false : Bool), (0 : BitVec 3), _, ?_, ?_, ?_, ?_, rfl⟩ <;> decide +kernel,
   by refine ⟨((up.setF Reg.TWIN_CTRL_ENABLE 1).setF Reg.TWIN_STAT_ROLE 1 : State), ?_, ?_, ?_, ?_⟩ <;> decide +kernel,
   by refine ⟨({ active with twin := { active.twin with window := [⟨0, [], 0, 0⟩] }, tb1 := 99000000000 } : State), (⟨0, [], 0, 0⟩ : LinkFrame), ([]
     : List LinkFrame), _, ?_, ?_, ?_, rfl⟩ <;> decide +kernel,
   by refine ⟨({ active with tb1 := 99000000000 } : State), (((({ active with tb1 := 99000000000 } : State)).pairKey).get (by decide +kernel)),
     (Option.some_get _).symm, ?_, ?_, ?_, ?_⟩ <;> decide +kernel,
   by refine ⟨({ active with tb1 := 99000000000 } : State), _, (((({ active with tb1 := 99000000000 } : State)).pairKey).get (by decide +kernel)),
     (Option.some_get _).symm, ?_, ?_, ?_, rfl⟩ <;> decide +kernel,
   ⟨up, (1 : Fin 2), (false : Bool), _, rfl⟩⟩

/-- Each clause of NandCommandsComplete is met. -/
theorem witness_NandCommandsComplete :
    (∃ (s : State) (die : Fin 16) (o : NandOp) (q : Nat) (p : NPage) (parity : Nat) (x : State) (y : State), s.runningOp die.val = some o ∧ o.body =
      .progGroup q p ∧ x = ((s.badWords (progQ die.val) parity).endOp o).dieAlive die.val ∧ x.flag Reg.FTL_CTRL_VERIFY_RB = false ∧ x.tb1 ≤ o.since
      + x.getF Reg.NAND_TIMEOUT_PROG_US * 1000 ∧ x.putPage o.target p = some y) ∧
    (∃ (s : State) (die : Fin 16) (o : NandOp) (x : State) (b : Bool) (parity : Nat), s.runningOp die.val = some o ∧ o.body.isProg = true ∧ x =
      ((s.badWords (progQ die.val) parity).endOp o).dieAlive die.val) ∧
    (∃ (s : State) (die : Fin 16) (o : NandOp) (b : Bool), s.runningOp die.val = some o ∧ (o.body = .erase ∨ (∃ j, o.body = .eraseJob j))) ∧
    (∃ (s : State) (die : Fin 16) (o : NandOp) (r : ReadReport), s.runningOp die.val = some o ∧ (o.body = .readPatrol ∨ (∃ j a c, o.body = .readJob
      j a c))) ∧
    (∃ (s : State) (die : Fin 16) (o : NandOp) (x : State), s.runningOp die.val = some o ∧ o.body = .erase ∧ o.since + s.getF
      Reg.NAND_TIMEOUT_ERASE_US * 10 * 1000 ≤ s.tb1 ∧ x = ((((s.endOp o).setDie die.val
      { (s.endOp o).die die.val with timeouts := some (((s.endOp o).die die.val).timeouts.getD (s.endOp o).tb1) }).count
      Reg.NAND_TIMEOUT_CNT_CNT).irq Reg.NAND_IRQ_TIMEOUT).nandErr die.val 0x0102) ∧
    (∃ (s : State), s.ftl.journal ≠ 0 ∧ s.higherWaits 2 = false ∧ (s.getF Reg.FTL_MAP_CFG_ENTRIES ≤ s.ftl.journal ∨ s.ftl.journalAt + s.getF
      Reg.FTL_MAP_CFG_MS * 1000000 ≤ s.tb1)) ∧
    (∃ (s : State) (fails : Fin 4) (l : LogBlk), s.flag Reg.FTL_STAT_MOUNTED = true ∧ s.flag Reg.FTL_STAT_READ_ONLY = false ∧ s.higherWaits 4 =
      false ∧ (s.ftl.logs.find? (fun l => l.pages.length == s.ppb) = some l)) ∧
    (∃ (s : State) (fails : Fin 4) (a : Nat) (b : Nat) (x : State), s.flag Reg.FTL_STAT_MOUNTED = true ∧ s.flag Reg.FTL_STAT_READ_ONLY = false ∧
      s.getF Reg.FTL_WL_DELTA_COUNT < s.eraseSpan.getF Reg.FTL_ERASE_MAX_COUNT - s.eraseSpan.getF Reg.FTL_ERASE_MIN_COUNT ∧ s.ftl.wlAt + s.getF
      Reg.FTL_WL_CFG_INTERVAL_S * nsPerS ≤ s.tb1 ∧ s.wearPair = some (a, b) ∧ s.higherWaits 5 = false ∧ s.keyless (s.blk a).vol = false ∧ fails.val
      ≠ 3 ∧ x = { s.copyFails fails.val with ftl := { (s.copyFails fails.val).ftl with wlAt := (s.copyFails fails.val).tb1 } }) ∧
    (∃ (s : State) (temp : BitVec 8) (p : Nat) (period : Nat) (x : State), s.flag Reg.FTL_CTRL_PATROL_EN = true ∧ s.flag Reg.FTL_STAT_MOUNTED = true
      ∧ period = s.getF Reg.FTL_PATROL_CFG_DAYS * 86400 * nsPerS / patrolDivisor temp.toNat ∧ s.patrolDue period = some p ∧ (x = s.setBlk p (if
      (s.blk p).patrolPage + 1 = s.ppb then { s.blk p with patrolPage := 0, patrolAt := (s.blk p).patrolAt + period } else
      { s.blk p with patrolPage := (s.blk p).patrolPage + 1 }))) ∧
    (∃ (s : State), (s.path.groups.any (fun g => !g.started) = true)) ∧
    (∃ (s : State) (die : Fin 16) (t : Nat), (s.die die.val).timeouts = some t ∧ (s.die die.val).mode ≠ .failed ∧ t + nsPerS ≤ s.tb1) ∧
    (∃ (s : State) (die : Fin 16), (s.die die.val).mode ≠ .failed ∧ s.featureBad die.val = true) ∧
    (∃ (s : State) (req : Req) (x : Bool) (y : Bool), TakesA s req Reg.NAND_BOOT_CTRL_GO (2 ^ 31 + 0)) ∧
    (∃ (s : State) (u : State) (req : Req) (x : Bool) (y : Bool), TakesA s req Reg.NAND_BOOT_CTRL_GO (2 ^ 31 + 0) ∧ u = plainly s req
      Reg.NAND_BOOT_CTRL_GO (2 ^ 31 + 0) ∧ u.bootFits = true ∧ u.ftl.header.isSome = true ∧ (x = false ∨ y = false)) ∧
    (∃ (s : State) (req : Req) (x : Bool) (y : Bool), TakesA s req Reg.NAND_BOOT_CTRL_GO (2 ^ 31 + 1)) ∧
    (∃ (s : State) (u : State) (req : Req) (x : Bool) (y : Bool), TakesA s req Reg.NAND_BOOT_CTRL_GO (2 ^ 31 + 1) ∧ u = plainly s req
      Reg.NAND_BOOT_CTRL_GO (2 ^ 31 + 1) ∧ u.bootFits = true ∧ u.ftl.header.isSome = true ∧ (x = false ∨ y = false)) ∧
    (∃ (s : State) (req : Req) (x : Bool) (y : Bool), TakesA s req Reg.NAND_BOOT_CTRL_GO (2 ^ 31 + 2)) ∧
    (∃ (s : State) (u : State) (req : Req) (x : Bool) (y : Bool), TakesA s req Reg.NAND_BOOT_CTRL_GO (2 ^ 31 + 2) ∧ u = plainly s req
      Reg.NAND_BOOT_CTRL_GO (2 ^ 31 + 2) ∧ u.bootFits = true ∧ u.ftl.header.isSome = true ∧ (x = false ∨ y = false)) :=
  ⟨by refine ⟨((busyDie (.progGroup 0 { vol := 4 })).setF Reg.FTL_CTRL_VERIFY_RB 0 : State), (0 : Fin 16), (((((busyDie (.progGroup 0
     { vol := 4 })).setF Reg.FTL_CTRL_VERIFY_RB 0 : State)).runningOp ((0 : Fin 16)).val).get (by decide +kernel)), (0 : Nat), ({ vol := 4 } :
     NPage), (0 : Nat), _, (((((((((busyDie (.progGroup 0 { vol := 4 })).setF Reg.FTL_CTRL_VERIFY_RB 0 : State)).badWords (progQ ((0 : Fin 16)).val)
     ((0 : Nat))).endOp ((((((busyDie (.progGroup 0 { vol := 4 })).setF Reg.FTL_CTRL_VERIFY_RB 0 : State)).runningOp ((0 : Fin 16)).val).get
     (by decide +kernel)))).dieAlive ((0 : Fin 16)).val : State)).putPage ((((((busyDie (.progGroup 0 { vol := 4 })).setF Reg.FTL_CTRL_VERIFY_RB 0 :
     State)).runningOp ((0 : Fin 16)).val).get (by decide +kernel))).target (({ vol := 4 } : NPage))).get (by decide +kernel)), (Option.some_get
     _).symm, ?_, rfl, ?_, ?_, (Option.some_get _).symm⟩ <;> decide +kernel,
   ⟨(busyDie (.progGroup 0 {}) : State), (0 : Fin 16), ((((busyDie (.progGroup 0 {}) : State)).runningOp ((0 : Fin 16)).val).get
     (by decide +kernel)), _, (false : Bool), (1 : Nat), (Option.some_get _).symm, by decide +kernel, rfl⟩,
   ⟨(busyDie .erase : State), (0 : Fin 16), ((((busyDie .erase : State)).runningOp ((0 : Fin 16)).val).get (by decide +kernel)), (false : Bool),
     by decide +kernel, .inl rfl⟩,
   ⟨busyDie .readPatrol, 0, ((busyDie .readPatrol).runningOp 0).get (by decide +kernel), ⟨0, false, 0⟩, (Option.some_get _).symm, .inl
     (by decide +kernel)⟩,
   by refine ⟨({ busyDie .erase with tb1 := 10 ^ 14 } : State), (0 : Fin 16), (((({ busyDie .erase with tb1 := 10 ^ 14 } : State)).runningOp ((0 :
     Fin 16)).val).get (by decide +kernel)), _, ?_, ?_, ?_, rfl⟩ <;> decide +kernel,
   by refine ⟨({ up with tb1 := 99000000000, ftl := { journal := 1 } } : State), ?_, ?_, ?_⟩ <;> decide +kernel,
   by refine ⟨({ serving with ftl := { logs := [{ vol := 0, copy := 0, lblk := 0, pblk := 0, pages := List.replicate serving.ppb 0 }] } } : State),
     (0 : Fin 4), ({ vol := 0, copy := 0, lblk := 0, pblk := 0, pages := List.replicate serving.ppb 0 } : LogBlk), ?_, ?_, ?_,
     ?_⟩ <;> decide +kernel,
   by refine ⟨stored, (0 : Fin 4), ((stored.wearPair).get (by decide +kernel)).1, ((stored.wearPair).get (by decide +kernel)).2, _, ?_, ?_, ?_, ?_,
     ?_, ?_, ?_, ?_, rfl⟩ <;> decide +kernel,
   by refine ⟨({ serving.setF Reg.FTL_CTRL_PATROL_EN 1 with ftl := { blks := [(0, { use := .data })] }, tb1 := 10 ^ 20 } : State), (25 : BitVec 8),
     (((({ serving.setF Reg.FTL_CTRL_PATROL_EN 1 with ftl := { blks := [(0, { use := .data })] }, tb1 := 10 ^ 20 } : State)).patrolDue
     ((({ serving.setF Reg.FTL_CTRL_PATROL_EN 1 with ftl := { blks := [(0, { use := .data })] }, tb1 := 10 ^ 20 } : State)).getF
     Reg.FTL_PATROL_CFG_DAYS * 86400 * nsPerS / patrolDivisor ((25 : BitVec 8)).toNat)).get (by decide +kernel)), _, _, ?_, ?_, rfl, ?_,
     rfl⟩ <;> decide +kernel,
   ⟨({ up with path := { groups := [{ seq := 1 }] } } : State), by decide +kernel⟩,
   by refine ⟨({ up.setDie 0 { timeouts := some 0 } with tb1 := 99000000000 } : State), (0 : Fin 16), (0 : Nat), ?_, ?_, ?_⟩ <;> decide +kernel,
   by refine ⟨(up.setDie 0 { feature := some { addr := 0, value := 1, back := 0 } } : State), (0 : Fin 16), ?_, ?_⟩ <;> decide +kernel,
   ⟨up, (.trusted : Req), (false : Bool), (false : Bool), by decide +kernel⟩,
   by refine
     ⟨({ sets up [(Reg.NAND_BOOT_SRC_VOL, 4), (Reg.NAND_BOOT_OFS_BYTES, 0), (Reg.NAND_BOOT_LEN_BYTES, 512), (Reg.NAND_BOOT_DST_LO_ADDR, 0x08000000)] with ftl := { header := some {} } }
     : State), _, (.trusted : Req), (false : Bool), (false : Bool), ?_, rfl, ?_, ?_, ?_⟩ <;> decide +kernel,
   ⟨up, (.trusted : Req), (false : Bool), (false : Bool), by decide +kernel⟩,
   by refine
     ⟨({ sets up [(Reg.NAND_BOOT_SRC_VOL, 4), (Reg.NAND_BOOT_OFS_BYTES, 0), (Reg.NAND_BOOT_LEN_BYTES, 512), (Reg.NAND_BOOT_DST_LO_ADDR, 0x08000000)] with ftl := { header := some {} } }
     : State), _, (.trusted : Req), (false : Bool), (false : Bool), ?_, rfl, ?_, ?_, ?_⟩ <;> decide +kernel,
   ⟨up, (.trusted : Req), (false : Bool), (false : Bool), by decide +kernel⟩,
   by refine
     ⟨({ sets up [(Reg.NAND_BOOT_SRC_VOL, 4), (Reg.NAND_BOOT_OFS_BYTES, 0), (Reg.NAND_BOOT_LEN_BYTES, 512), (Reg.NAND_BOOT_DST_LO_ADDR, 0x08000000)] with ftl := { header := some {} } }
     : State), _, (.trusted : Req), (false : Bool), (false : Bool), ?_, rfl, ?_, ?_, ?_⟩ <;> decide +kernel⟩

/-- Each clause of FtlCommandsComplete is met. -/
theorem witness_FtlCommandsComplete :
    (∃ (s : State) (req : Req) (b : Bool), TakesT s req Reg.FTL_CTRL_ENABLE ∧ ((s.answer 0).flag Reg.LCS_STAT_DBG_CTX = false ∨ (s.answer 0).getF
      Reg.LCS_STAT_LC = 0)) ∧
    (∃ (s : State) (u : State) (t : State) (req : Req), TakesT s req Reg.FTL_CTRL_ENABLE ∧ ((s.answer 0).flag Reg.LCS_STAT_DBG_CTX = false ∨
      (s.answer 0).getF Reg.LCS_STAT_LC = 0) ∧ u = (s.answer 0).setF Reg.FTL_CTRL_ENABLE 1 ∧ u.flag Reg.FTL_STAT_MOUNTED = false ∧ t = u.discover
      u.ftl.found ∧ badDie t.ftl.found = none ∧ t.ftl.found ≠ [] ∧ t.ftl.header.isSome = true) ∧
    (∃ (s : State) (sub : Option Submission) (u : State) (t : State) (b : Bytes), u = s.submitted 0x119 sub (fun x => .bytes (slice x.item 0 32 ++
      [BitVec.ofNat 8 x.req.code])) ∧ u.ftlCredit = true ∧ u.ftlFront 1 = some (b, false, t) ∧ ftlKnown b = true ∧ ftlMay 1 b = true ∧ t.flag
      Reg.FTL_STAT_MOUNTED = true) ∧
    (∃ (s : State) (sub : Option Submission) (u : State) (t : State) (b : Bytes), u = s.submitted 0x119 sub (fun x => .bytes (slice x.item 0 32 ++
      [BitVec.ofNat 8 x.req.code])) ∧ u.ftlCredit = true ∧ u.ftlFront 1 = some (b, false, t) ∧ ftlKnown b = true ∧ ftlMay 1 b = true ∧ t.flag
      Reg.FTL_STAT_MOUNTED = true ∧ t.itemFits b = true ∧ t.itemDram b = true) ∧
    (∃ (s : State) (sub : Option Submission) (u : State) (t : State) (b : Bytes), u = s.submitted 0x119 sub (fun x => .bytes (slice x.item 0 32 ++
      [BitVec.ofNat 8 x.req.code])) ∧ u.ftlCredit = true ∧ u.ftlFront 2 = some (b, false, t) ∧ ftlKnown b = true ∧ ftlMay 2 b = true ∧ t.flag
      Reg.FTL_STAT_MOUNTED = true) ∧
    (∃ (s : State) (sub : Option Submission) (u : State) (t : State) (b : Bytes) (v : State), u = s.submitted 0x119 sub (fun x => .bytes (slice
      x.item 0 32 ++ [BitVec.ofNat 8 x.req.code])) ∧ u.ftlCredit = true ∧ u.ftlFront 2 = some (b, false, t) ∧ ftlKnown b = true ∧ ftlMay 2 b = true
      ∧ t.flag Reg.FTL_STAT_MOUNTED = true ∧ leAt b 2 1 = 9 ∧ t.itemFits b = true ∧ t.flag Reg.FTL_STAT_READ_ONLY = false ∧ t.itemDiscarding b =
      false ∧ t.itemDram b = true ∧ t.writeBlks b = some v) ∧
    (∃ (s : State) (sub : Option Submission) (u : State) (t : State) (b : Bytes), u = s.submitted 0x119 sub (fun x => .bytes (slice x.item 0 32 ++
      [BitVec.ofNat 8 x.req.code])) ∧ u.ftlCredit = true ∧ u.ftlFront 3 = some (b, false, t) ∧ ftlKnown b = true ∧ ftlMay 3 b = true ∧ t.flag
      Reg.FTL_STAT_MOUNTED = true) ∧
    (∃ (s : State) (sub : Option Submission) (u : State) (t : State) (b : Bytes), u = s.submitted 0x119 sub (fun x => .bytes (slice x.item 0 32 ++
      [BitVec.ofNat 8 x.req.code])) ∧ u.ftlCredit = true ∧ u.ftlFront 3 = some (b, false, t) ∧ ftlKnown b = true ∧ ftlMay 3 b = true ∧ t.flag
      Reg.FTL_STAT_MOUNTED = true ∧ t.flag Reg.FTL_STAT_READ_ONLY = false ∧ t.tailFree = true) ∧
    (∃ (s : State) (sub : Option Submission) (u : State) (t : State) (b : Bytes), u = s.submitted 0x119 sub (fun x => .bytes (slice x.item 0 32 ++
      [BitVec.ofNat 8 x.req.code])) ∧ u.ftlCredit = true ∧ u.ftlFront 4 = some (b, false, t) ∧ ftlKnown b = true ∧ ftlMay 4 b = true ∧ t.flag
      Reg.FTL_STAT_MOUNTED = true) ∧
    (∃ (s : State) (sub : Option Submission) (u : State) (t : State) (b : Bytes), u = s.submitted 0x119 sub (fun x => .bytes (slice x.item 0 32 ++
      [BitVec.ofNat 8 x.req.code])) ∧ u.ftlCredit = true ∧ u.ftlFront 4 = some (b, false, t) ∧ ftlKnown b = true ∧ ftlMay 4 b = true ∧ t.flag
      Reg.FTL_STAT_MOUNTED = true ∧ t.itemFits b = true ∧ leAt b 2 1 ≠ 2) ∧
    (∃ (s : State) (sub : Option Submission) (u : State) (t : State) (b : Bytes), u = s.submitted 0x119 sub (fun x => .bytes (slice x.item 0 32 ++
      [BitVec.ofNat 8 x.req.code])) ∧ u.ftlCredit = true ∧ u.ftlFront 5 = some (b, false, t) ∧ ftlKnown b = true ∧ ftlMay 5 b = true ∧ t.flag
      Reg.FTL_STAT_MOUNTED = true) ∧
    (∃ (s : State) (sub : Option Submission) (u : State) (t : State) (b : Bytes) (h : MediumHeader), u = s.submitted 0x119 sub (fun x => .bytes
      (slice x.item 0 32 ++ [BitVec.ofNat 8 x.req.code])) ∧ u.ftlCredit = true ∧ u.ftlFront 5 = some (b, false, t) ∧ ftlKnown b = true ∧ ftlMay 5 b
      = true ∧ t.flag Reg.FTL_STAT_MOUNTED = true ∧ t.ftl.header = some h ∧ leAt b 2 1 = 2 ∧ t.resizeShort h (leAt b 4 4) = false ∧ t.flag
      Reg.FTL_STAT_READ_ONLY = false) ∧
    (∃ (s : State) (sub : Option Submission) (u : State) (t : State) (b : Bytes), u = s.submitted 0x119 sub (fun x => .bytes (slice x.item 0 32 ++
      [BitVec.ofNat 8 x.req.code])) ∧ u.ftlCredit = true ∧ u.ftlFront 6 = some (b, false, t) ∧ ftlKnown b = true ∧ ftlMay 6 b = true) ∧
    (∃ (s : State) (sub : Option Submission) (u : State) (t : State) (b : Bytes) (v : State), u = s.submitted 0x119 sub (fun x => .bytes (slice
      x.item 0 32 ++ [BitVec.ofNat 8 x.req.code])) ∧ u.ftlCredit = true ∧ u.ftlFront 6 = some (b, false, t) ∧ ftlKnown b = true ∧ ftlMay 6 b = true
      ∧ v = t.discover t.ftl.found ∧ v.flag Reg.FTL_STAT_MOUNTED = false ∧ 0x0800000000 ≤ leAt b 16 8 ∧ leAt b 16 8 + 56 ≤ dramTop + 1 ∧ badDie
      v.ftl.found = none ∧ v.formatFits (t.formatSizes b) = true) ∧
    (∃ (s : State) (sub : Option Submission) (u : State) (t : State) (b : Bytes), u = s.submitted 0x119 sub (fun x => .bytes (slice x.item 0 32 ++
      [BitVec.ofNat 8 x.req.code])) ∧ u.ftlCredit = true ∧ u.ftlFront 7 = some (b, false, t) ∧ ftlKnown b = true ∧ ftlMay 7 b = true ∧ t.flag
      Reg.FTL_STAT_MOUNTED = true) ∧
    (∃ (s : State) (sub : Option Submission) (u : State) (t : State) (b : Bytes), u = s.submitted 0x119 sub (fun x => .bytes (slice x.item 0 32 ++
      [BitVec.ofNat 8 x.req.code])) ∧ u.ftlCredit = true ∧ u.ftlFront 7 = some (b, false, t) ∧ ftlKnown b = true ∧ ftlMay 7 b = true ∧ t.flag
      Reg.FTL_STAT_MOUNTED = true ∧ t.diesIn.contains (leAt b 4 4) = true ∧ (t.validBlks (leAt b 4 4)).length + t.getF Reg.FTL_SPARE_LOW_BLOCKS ≤
      t.roomBeside (leAt b 4 4)) ∧
    (∃ (s : State) (sub : Option Submission) (device : Option DieParam) (u : State) (t : State) (b : Bytes), u = s.submitted 0x119 sub (fun x =>
      .bytes (slice x.item 0 32 ++ [BitVec.ofNat 8 x.req.code])) ∧ u.ftlCredit = true ∧ u.ftlFront 8 = some (b, false, t) ∧ ftlKnown b = true ∧
      ftlMay 8 b = true ∧ t.flag Reg.FTL_STAT_MOUNTED = true) ∧
    (∃ (s : State) (sub : Option Submission) (device : Option DieParam) (u : State) (t : State) (b : Bytes) (p : DieParam), u = s.submitted 0x119
      sub (fun x => .bytes (slice x.item 0 32 ++ [BitVec.ofNat 8 x.req.code])) ∧ u.ftlCredit = true ∧ u.ftlFront 8 = some (b, false, t) ∧ ftlKnown b
      = true ∧ ftlMay 8 b = true ∧ t.flag Reg.FTL_STAT_MOUNTED = true ∧ t.diesIn.contains (leAt b 4 4) = false ∧ device = some p ∧ t.dieFits (leAt b
      4 4) p = true) :=
  ⟨by refine ⟨up, (.trusted : Req), (true : Bool), ?_, ?_⟩ <;> decide +kernel,
   by refine ⟨({ up with ftl := { found := [goodDevice], header := some {} } } : State), _, _, (Req.trusted : Req), ?_, ?_, rfl, ?_, rfl, ?_, ?_,
     ?_⟩ <;> decide +kernel,
   by refine ⟨(asked serving 0x119 (job 33 1 []) : State), (none : Option Submission), _, ((((((asked serving 0x119 (job 33 1 []) :
     State)).submitted 0x119 ((none : Option Submission)) (fun x => .bytes (slice x.item 0 32 ++ [BitVec.ofNat 8 x.req.code])) : State)).ftlFront
     1).get (by decide +kernel)).2.2, ((((((asked serving 0x119 (job 33 1 []) : State)).submitted 0x119 ((none : Option Submission)) (fun x =>
     .bytes (slice x.item 0 32 ++ [BitVec.ofNat 8 x.req.code])) : State)).ftlFront 1).get (by decide +kernel)).1, rfl, ?_, ?_, ?_, ?_,
     ?_⟩ <;> decide +kernel,
   by refine ⟨(asked medium 0x119 (job 33 1 [(2, 1, 1), (16, 8, 0x0800000000), (32, 1, Req.trusted.code)]) : State), (none : Option Submission), _,
     ((((((asked medium 0x119 (job 33 1 [(2, 1, 1), (16, 8, 0x0800000000), (32, 1, Req.trusted.code)]) : State)).submitted 0x119 ((none : Option
     Submission)) (fun x => .bytes (slice x.item 0 32 ++ [BitVec.ofNat 8 x.req.code])) : State)).ftlFront 1).get (by decide +kernel)).2.2,
     ((((((asked medium 0x119 (job 33 1 [(2, 1, 1), (16, 8, 0x0800000000), (32, 1, Req.trusted.code)]) : State)).submitted 0x119 ((none : Option
     Submission)) (fun x => .bytes (slice x.item 0 32 ++ [BitVec.ofNat 8 x.req.code])) : State)).ftlFront 1).get (by decide +kernel)).1, rfl, ?_,
     ?_, ?_, ?_, ?_, ?_, itemDram_of (by decide +kernel)⟩ <;> decide +kernel,
   by refine ⟨(asked serving 0x119 (job 33 2 []) : State), (none : Option Submission), _, ((((((asked serving 0x119 (job 33 2 []) :
     State)).submitted 0x119 ((none : Option Submission)) (fun x => .bytes (slice x.item 0 32 ++ [BitVec.ofNat 8 x.req.code])) : State)).ftlFront
     2).get (by decide +kernel)).2.2, ((((((asked serving 0x119 (job 33 2 []) : State)).submitted 0x119 ((none : Option Submission)) (fun x =>
     .bytes (slice x.item 0 32 ++ [BitVec.ofNat 8 x.req.code])) : State)).ftlFront 2).get (by decide +kernel)).1, rfl, ?_, ?_, ?_, ?_,
     ?_⟩ <;> decide +kernel,
   by refine ⟨(asked (sets medium [(Reg.NAND_GEOM_LOG2_PPB, 0)]) 0x119 (job 33 2 [(2, 1, 9), (16, 8, 0x0800000000), (32, 1, Req.trusted.code)]) :
     State), (none : Option Submission), _, ((((((asked (sets medium [(Reg.NAND_GEOM_LOG2_PPB, 0)]) 0x119 (job 33 2 [(2, 1, 9), (16, 8,
     0x0800000000), (32, 1, Req.trusted.code)]) : State)).submitted 0x119 ((none : Option Submission)) (fun x => .bytes (slice x.item 0 32 ++
     [BitVec.ofNat 8 x.req.code])) : State)).ftlFront 2).get (by decide +kernel)).2.2, ((((((asked (sets medium [(Reg.NAND_GEOM_LOG2_PPB, 0)]) 0x119
     (job 33 2 [(2, 1, 9), (16, 8, 0x0800000000), (32, 1, Req.trusted.code)]) : State)).submitted 0x119 ((none : Option Submission)) (fun x =>
     .bytes (slice x.item 0 32 ++ [BitVec.ofNat 8 x.req.code])) : State)).ftlFront 2).get (by decide +kernel)).1, (((((((((asked (sets medium
     [(Reg.NAND_GEOM_LOG2_PPB, 0)]) 0x119 (job 33 2 [(2, 1, 9), (16, 8, 0x0800000000), (32, 1, Req.trusted.code)]) : State)).submitted 0x119 ((none
     : Option Submission)) (fun x => .bytes (slice x.item 0 32 ++ [BitVec.ofNat 8 x.req.code])) : State)).ftlFront 2).get
     (by decide +kernel)).2.2).writeBlks (((((((asked (sets medium [(Reg.NAND_GEOM_LOG2_PPB, 0)]) 0x119 (job 33 2 [(2, 1, 9), (16, 8, 0x0800000000),
     (32, 1, Req.trusted.code)]) : State)).submitted 0x119 ((none : Option Submission)) (fun x => .bytes (slice x.item 0 32 ++ [BitVec.ofNat 8
     x.req.code])) : State)).ftlFront 2).get (by decide +kernel)).1)).get (by decide +kernel)), rfl, ?_, ?_, ?_, ?_, ?_, ?_, ?_, ?_, ?_, itemDram_of
     (by decide +kernel), (Option.some_get _).symm⟩ <;> decide +kernel,
   by refine ⟨(asked serving 0x119 (job 33 3 []) : State), (none : Option Submission), _, ((((((asked serving 0x119 (job 33 3 []) :
     State)).submitted 0x119 ((none : Option Submission)) (fun x => .bytes (slice x.item 0 32 ++ [BitVec.ofNat 8 x.req.code])) : State)).ftlFront
     3).get (by decide +kernel)).2.2, ((((((asked serving 0x119 (job 33 3 []) : State)).submitted 0x119 ((none : Option Submission)) (fun x =>
     .bytes (slice x.item 0 32 ++ [BitVec.ofNat 8 x.req.code])) : State)).ftlFront 3).get (by decide +kernel)).1, rfl, ?_, ?_, ?_, ?_,
     ?_⟩ <;> decide +kernel,
   by refine ⟨(asked { medium with ftl := { medium.ftl with stripes := [{ idx := 0 }] } } 0x119 (job 33 3 [(32, 1, Req.trusted.code)]) : State),
     (none : Option Submission), _, ((((((asked { medium with ftl := { medium.ftl with stripes := [{ idx := 0 }] } } 0x119 (job 33 3 [(32, 1,
     Req.trusted.code)]) : State)).submitted 0x119 ((none : Option Submission)) (fun x => .bytes (slice x.item 0 32 ++ [BitVec.ofNat 8 x.req.code]))
     : State)).ftlFront 3).get (by decide +kernel)).2.2, ((((((asked { medium with ftl := { medium.ftl with stripes := [{ idx := 0 }] } } 0x119 (job
     33 3 [(32, 1, Req.trusted.code)]) : State)).submitted 0x119 ((none : Option Submission)) (fun x => .bytes (slice x.item 0 32 ++ [BitVec.ofNat 8
     x.req.code])) : State)).ftlFront 3).get (by decide +kernel)).1, rfl, ?_, ?_, ?_, ?_, ?_, ?_, ?_⟩ <;> decide +kernel,
   by refine ⟨(asked serving 0x119 (job 33 4 []) : State), (none : Option Submission), _, ((((((asked serving 0x119 (job 33 4 []) :
     State)).submitted 0x119 ((none : Option Submission)) (fun x => .bytes (slice x.item 0 32 ++ [BitVec.ofNat 8 x.req.code])) : State)).ftlFront
     4).get (by decide +kernel)).2.2, ((((((asked serving 0x119 (job 33 4 []) : State)).submitted 0x119 ((none : Option Submission)) (fun x =>
     .bytes (slice x.item 0 32 ++ [BitVec.ofNat 8 x.req.code])) : State)).ftlFront 4).get (by decide +kernel)).1, rfl, ?_, ?_, ?_, ?_,
     ?_⟩ <;> decide +kernel,
   by refine ⟨(asked medium 0x119 (job 33 4 [(2, 1, 1), (32, 1, Req.trusted.code)]) : State), (none : Option Submission), _, ((((((asked medium
     0x119 (job 33 4 [(2, 1, 1), (32, 1, Req.trusted.code)]) : State)).submitted 0x119 ((none : Option Submission)) (fun x => .bytes (slice x.item 0
     32 ++ [BitVec.ofNat 8 x.req.code])) : State)).ftlFront 4).get (by decide +kernel)).2.2, ((((((asked medium 0x119 (job 33 4 [(2, 1, 1), (32, 1,
     Req.trusted.code)]) : State)).submitted 0x119 ((none : Option Submission)) (fun x => .bytes (slice x.item 0 32 ++ [BitVec.ofNat 8 x.req.code]))
     : State)).ftlFront 4).get (by decide +kernel)).1, rfl, ?_, ?_, ?_, ?_, ?_, ?_, ?_⟩ <;> decide +kernel,
   by refine ⟨(asked serving 0x119 (job 33 5 []) : State), (none : Option Submission), _, ((((((asked serving 0x119 (job 33 5 []) :
     State)).submitted 0x119 ((none : Option Submission)) (fun x => .bytes (slice x.item 0 32 ++ [BitVec.ofNat 8 x.req.code])) : State)).ftlFront
     5).get (by decide +kernel)).2.2, ((((((asked serving 0x119 (job 33 5 []) : State)).submitted 0x119 ((none : Option Submission)) (fun x =>
     .bytes (slice x.item 0 32 ++ [BitVec.ofNat 8 x.req.code])) : State)).ftlFront 5).get (by decide +kernel)).1, rfl, ?_, ?_, ?_, ?_,
     ?_⟩ <;> decide +kernel,
   by refine ⟨(asked medium 0x119 (job 33 5 [(2, 1, 2), (32, 1, Req.trusted.code)]) : State), (none : Option Submission), _, ((((((asked medium
     0x119 (job 33 5 [(2, 1, 2), (32, 1, Req.trusted.code)]) : State)).submitted 0x119 ((none : Option Submission)) (fun x => .bytes (slice x.item 0
     32 ++ [BitVec.ofNat 8 x.req.code])) : State)).ftlFront 5).get (by decide +kernel)).2.2, ((((((asked medium 0x119 (job 33 5 [(2, 1, 2), (32, 1,
     Req.trusted.code)]) : State)).submitted 0x119 ((none : Option Submission)) (fun x => .bytes (slice x.item 0 32 ++ [BitVec.ofNat 8 x.req.code]))
     : State)).ftlFront 5).get (by decide +kernel)).1, (((((((((asked medium 0x119 (job 33 5 [(2, 1, 2), (32, 1, Req.trusted.code)]) :
     State)).submitted 0x119 ((none : Option Submission)) (fun x => .bytes (slice x.item 0 32 ++ [BitVec.ofNat 8 x.req.code])) : State)).ftlFront
     5).get (by decide +kernel)).2.2).ftl.header).get (by decide +kernel)), rfl, ?_, ?_, ?_, ?_, ?_, (Option.some_get _).symm, ?_, ?_,
     ?_⟩ <;> decide +kernel,
   by refine ⟨(asked serving 0x119 (job 33 6 []) : State), (none : Option Submission), _, ((((((asked serving 0x119 (job 33 6 []) :
     State)).submitted 0x119 ((none : Option Submission)) (fun x => .bytes (slice x.item 0 32 ++ [BitVec.ofNat 8 x.req.code])) : State)).ftlFront
     6).get (by decide +kernel)).2.2, ((((((asked serving 0x119 (job 33 6 []) : State)).submitted 0x119 ((none : Option Submission)) (fun x =>
     .bytes (slice x.item 0 32 ++ [BitVec.ofNat 8 x.req.code])) : State)).ftlFront 6).get (by decide +kernel)).1, rfl, ?_, ?_, ?_,
     ?_⟩ <;> decide +kernel,
   by refine ⟨(asked (sets medium [(Reg.FTL_STAT_MOUNTED, 0)]) 0x119 (job 33 6 [(16, 8, 0x0800000000), (32, 1, Req.trusted.code)]) : State), (none :
     Option Submission), _, ((((((asked (sets medium [(Reg.FTL_STAT_MOUNTED, 0)]) 0x119 (job 33 6 [(16, 8, 0x0800000000), (32, 1,
     Req.trusted.code)]) : State)).submitted 0x119 ((none : Option Submission)) (fun x => .bytes (slice x.item 0 32 ++ [BitVec.ofNat 8 x.req.code]))
     : State)).ftlFront 6).get (by decide +kernel)).2.2, ((((((asked (sets medium [(Reg.FTL_STAT_MOUNTED, 0)]) 0x119 (job 33 6 [(16, 8,
     0x0800000000), (32, 1, Req.trusted.code)]) : State)).submitted 0x119 ((none : Option Submission)) (fun x => .bytes (slice x.item 0 32 ++
     [BitVec.ofNat 8 x.req.code])) : State)).ftlFront 6).get (by decide +kernel)).1, _, rfl, ?_, ?_, ?_, ?_, rfl, ?_, ?_, in_dram
     (by decide +kernel), ?_, ?_⟩ <;> decide +kernel,
   by refine ⟨(asked serving 0x119 (job 33 7 []) : State), (none : Option Submission), _, ((((((asked serving 0x119 (job 33 7 []) :
     State)).submitted 0x119 ((none : Option Submission)) (fun x => .bytes (slice x.item 0 32 ++ [BitVec.ofNat 8 x.req.code])) : State)).ftlFront
     7).get (by decide +kernel)).2.2, ((((((asked serving 0x119 (job 33 7 []) : State)).submitted 0x119 ((none : Option Submission)) (fun x =>
     .bytes (slice x.item 0 32 ++ [BitVec.ofNat 8 x.req.code])) : State)).ftlFront 7).get (by decide +kernel)).1, rfl, ?_, ?_, ?_, ?_,
     ?_⟩ <;> decide +kernel,
   by refine ⟨(asked medium 0x119 (job 33 7 [(32, 1, Req.trusted.code)]) : State), (none : Option Submission), _, ((((((asked medium 0x119 (job 33 7
     [(32, 1, Req.trusted.code)]) : State)).submitted 0x119 ((none : Option Submission)) (fun x => .bytes (slice x.item 0 32 ++ [BitVec.ofNat 8
     x.req.code])) : State)).ftlFront 7).get (by decide +kernel)).2.2, ((((((asked medium 0x119 (job 33 7 [(32, 1, Req.trusted.code)]) :
     State)).submitted 0x119 ((none : Option Submission)) (fun x => .bytes (slice x.item 0 32 ++ [BitVec.ofNat 8 x.req.code])) : State)).ftlFront
     7).get (by decide +kernel)).1, rfl, ?_, ?_, ?_, ?_, ?_, ?_, ?_⟩ <;> decide +kernel,
   by refine ⟨(asked serving 0x119 (job 33 8 []) : State), (none : Option Submission), (none : Option DieParam), _, ((((((asked serving 0x119 (job
     33 8 []) : State)).submitted 0x119 ((none : Option Submission)) (fun x => .bytes (slice x.item 0 32 ++ [BitVec.ofNat 8 x.req.code])) :
     State)).ftlFront 8).get (by decide +kernel)).2.2, ((((((asked serving 0x119 (job 33 8 []) : State)).submitted 0x119 ((none : Option
     Submission)) (fun x => .bytes (slice x.item 0 32 ++ [BitVec.ofNat 8 x.req.code])) : State)).ftlFront 8).get (by decide +kernel)).1, rfl, ?_,
     ?_, ?_, ?_, ?_⟩ <;> decide +kernel,
   by refine ⟨(asked medium 0x119 (job 33 8 [(4, 4, 2), (32, 1, Req.trusted.code)]) : State), (none : Option Submission), (some
     { goodDevice with ce := 1 } : Option DieParam), _, ((((((asked medium 0x119 (job 33 8 [(4, 4, 2), (32, 1, Req.trusted.code)]) :
     State)).submitted 0x119 ((none : Option Submission)) (fun x => .bytes (slice x.item 0 32 ++ [BitVec.ofNat 8 x.req.code])) : State)).ftlFront
     8).get (by decide +kernel)).2.2, ((((((asked medium 0x119 (job 33 8 [(4, 4, 2), (32, 1, Req.trusted.code)]) : State)).submitted 0x119 ((none :
     Option Submission)) (fun x => .bytes (slice x.item 0 32 ++ [BitVec.ofNat 8 x.req.code])) : State)).ftlFront 8).get (by decide +kernel)).1,
     ((((some { goodDevice with ce := 1 } : Option DieParam))).get (by decide +kernel)), rfl, ?_, ?_, ?_, ?_, ?_, ?_, (Option.some_get _).symm,
     ?_⟩ <;> decide +kernel⟩

/-- Each clause of DmaCommandsComplete is met. -/
theorem witness_DmaCommandsComplete :
    (∃ (s : State) (chan : Fin 16) (value : BitVec 3), TakesF s .trusted (Reg.DMA_CH_CFG_REQ chan.val) ∧ (value = 0 ∨ value = 1 ∨ value = 4) ∧
      (s.answer 0).chanState chan.val = 0) ∧
    (∃ (s : State) (req : Req) (chan : Fin 16) (a : Nat), TakesF s req (Reg.DMA_CH_CMD_START chan.val) ∧ (s.answer 0).chanState chan.val = 0 ∧ a ≠ 0
      ∧ a = (s.answer 0).getF (Reg.DMA_CH_FIRST_LO_ADDR chan.val) * 64 + (s.answer 0).getF (Reg.DMA_CH_FIRST_HI_ADDR chan.val) * 2 ^ 32) ∧
    (∃ (s : State) (req : Req) (chan : Fin 16), TakesF s req (Reg.DMA_CH_CMD_STOP chan.val) ∧ ((s.answer 0).chanState chan.val = 1 ∨ (s.answer
      0).chanState chan.val = 2)) ∧
    (∃ (s : State) (req : Req) (chan : Fin 16) (t : State) (nx : Option Nat), TakesF s req (Reg.DMA_CH_CMD_RESUME chan.val) ∧ (s.answer 0).chanState
      chan.val = 3 ∧ (s.answer 0).takeShadow chan.val = (t, nx) ∧ nx.getD ((s.answer 0).chan chan.val).next ≠ 0) ∧
    (∃ (s : State) (req : Req) (chan : Fin 16), TakesF s req (Reg.DMA_CH_CMD_ABORT chan.val) ∧ (s.answer 0).descDone chan.val = false) ∧
    (∃ (s : State) (req : Req) (chan : Fin 16), TakesF s req (Reg.DMA_CH_CMD_CLEAR chan.val) ∧ (s.answer 0).chanState chan.val = 4) ∧
    (∃ (s : State) (n : Nat), s.dmaGrant = some n ∧ s.chanState n = 1) ∧
    (∃ (s : State) (n : Nat), s.dmaGrant = some n ∧ s.chanState n = 2) ∧
    (∃ (s : State) (chan : Fin 16), s.descDone chan.val = true) :=
  ⟨by refine ⟨up, (3 : Fin 16), (4 : BitVec 3), ?_, ?_, ?_⟩ <;> decide +kernel,
   by refine ⟨(up.setF (Reg.DMA_CH_FIRST_LO_ADDR 0) 1 : State), (.trusted : Req), (0 : Fin 16), _, ?_, ?_, ?_, rfl⟩ <;> decide +kernel,
   by refine ⟨(up.setF (Reg.DMA_CH_STAT_STATE 0) 1 : State), (.trusted : Req), (0 : Fin 16), ?_, ?_⟩ <;> decide +kernel,
   by refine ⟨((up.setF (Reg.DMA_CH_STAT_STATE 0) 3).setChan 0 { next := 64 } : State), (.trusted : Req), (0 : Fin 16), (((((up.setF
     (Reg.DMA_CH_STAT_STATE 0) 3).setChan 0 { next := 64 }).answer 0).takeShadow 0).1 : State), (none : Option Nat), ?_, ?_, rfl,
     ?_⟩ <;> decide +kernel,
   by refine ⟨up, (.trusted : Req), (0 : Fin 16), ?_, ?_⟩ <;> decide +kernel,
   by refine ⟨(up.setF (Reg.DMA_CH_STAT_STATE 0) 4 : State), (.trusted : Req), (0 : Fin 16), ?_, ?_⟩ <;> decide +kernel,
   by refine ⟨(((up.setF Reg.DMA_CTRL_ENABLE 1).setF (Reg.DMA_CH_STAT_STATE 0) 1) : State), (0 : Nat), ?_, ?_⟩ <;> decide +kernel,
   by refine ⟨((sets up [(Reg.DMA_CTRL_ENABLE, 1), (Reg.DMA_CH_STAT_STATE 0, 2)]).setChan 0 { desc := List.replicate 64 1 } : State), (((((sets up
     [(Reg.DMA_CTRL_ENABLE, 1), (Reg.DMA_CH_STAT_STATE 0, 2)]).setChan 0 { desc := List.replicate 64 1 } : State)).dmaGrant).get
     (by decide +kernel)), ?_, ?_⟩ <;> decide +kernel,
   ⟨(up.setF (Reg.DMA_CH_STAT_STATE 0) 2 : State), (0 : Fin 16), by decide +kernel⟩⟩

/-- Each clause of KeyCommandsComplete is met. -/
theorem witness_KeyCommandsComplete :
    (∃ (s : State) (req : Req) (target : BitVec 6) (source : BitVec 6) (kind : BitVec 2) (lenSel : BitVec 6), TakesA s req Reg.KEY_CMD_GO (keyWord 1
      target source kind lenSel)) ∧
    (∃ (s : State) (u : State) (t : State) (c : KeyCmd) (req : Req) (target : BitVec 6) (source : BitVec 6) (kind : BitVec 2) (lenSel : BitVec 6),
      TakesA s req Reg.KEY_CMD_GO (keyWord 1 target source kind lenSel) ∧ u = plainly s req Reg.KEY_CMD_GO (keyWord 1 target source kind lenSel) ∧ c
      = u.keyCmd req ∧ t = (u.keyQueue c).setBytes (fun k => Reg.KEY_WRAP_OUT_DATA k) 18 [] ∧ c.op = 1 ∧ u.sec.jobs = [] ∧ (u.keyQueue c).trivetBusy
      = false ∧ t.keyRefusal c = 0) ∧
    (∃ (s : State) (req : Req) (target : BitVec 6) (source : BitVec 6) (kind : BitVec 2) (lenSel : BitVec 6), TakesA s req Reg.KEY_CMD_GO (keyWord 2
      target source kind lenSel)) ∧
    (∃ (s : State) (u : State) (t : State) (c : KeyCmd) (req : Req) (target : BitVec 6) (source : BitVec 6) (kind : BitVec 2) (lenSel : BitVec 6),
      TakesA s req Reg.KEY_CMD_GO (keyWord 2 target source kind lenSel) ∧ u = plainly s req Reg.KEY_CMD_GO (keyWord 2 target source kind lenSel) ∧ c
      = u.keyCmd req ∧ t = (u.keyQueue c).setBytes (fun k => Reg.KEY_WRAP_OUT_DATA k) 18 [] ∧ c.op = 2 ∧ u.sec.jobs = [] ∧ (u.keyQueue c).trivetBusy
      = false ∧ t.keyRefusal c = 0) ∧
    (∃ (s : State) (req : Req) (target : BitVec 6) (source : BitVec 6) (kind : BitVec 2) (lenSel : BitVec 6), TakesA s req Reg.KEY_CMD_GO (keyWord 3
      target source kind lenSel)) ∧
    (∃ (s : State) (u : State) (t : State) (c : KeyCmd) (req : Req) (target : BitVec 6) (source : BitVec 6) (kind : BitVec 2) (lenSel : BitVec 6),
      TakesA s req Reg.KEY_CMD_GO (keyWord 3 target source kind lenSel) ∧ u = plainly s req Reg.KEY_CMD_GO (keyWord 3 target source kind lenSel) ∧ c
      = u.keyCmd req ∧ t = (u.keyQueue c).setBytes (fun k => Reg.KEY_WRAP_OUT_DATA k) 18 [] ∧ c.op = 3 ∧ u.sec.jobs = [] ∧ (u.keyQueue c).trivetBusy
      = false ∧ t.keyRefusal c = 0) ∧
    (∃ (s : State) (req : Req) (target : BitVec 6) (source : BitVec 6) (kind : BitVec 2) (lenSel : BitVec 6), TakesA s req Reg.KEY_CMD_GO (keyWord 4
      target source kind lenSel)) ∧
    (∃ (s : State) (u : State) (t : State) (c : KeyCmd) (req : Req) (target : BitVec 6) (source : BitVec 6) (kind : BitVec 2) (lenSel : BitVec 6),
      TakesA s req Reg.KEY_CMD_GO (keyWord 4 target source kind lenSel) ∧ u = plainly s req Reg.KEY_CMD_GO (keyWord 4 target source kind lenSel) ∧ c
      = u.keyCmd req ∧ t = (u.keyQueue c).setBytes (fun k => Reg.KEY_WRAP_OUT_DATA k) 18 [] ∧ c.op = 4 ∧ u.sec.jobs = [] ∧ (u.keyQueue c).trivetBusy
      = false ∧ t.keyRefusal c = 0) ∧
    (∃ (s : State) (req : Req) (target : BitVec 6) (source : BitVec 6) (kind : BitVec 2) (lenSel : BitVec 6), TakesA s req Reg.KEY_CMD_GO (keyWord 5
      target source kind lenSel)) ∧
    (∃ (s : State) (u : State) (t : State) (c : KeyCmd) (req : Req) (target : BitVec 6) (source : BitVec 6) (kind : BitVec 2) (lenSel : BitVec 6) (d
      : Bytes) (v : State), TakesA s req Reg.KEY_CMD_GO (keyWord 5 target source kind lenSel) ∧ u = plainly s req Reg.KEY_CMD_GO (keyWord 5 target
      source kind lenSel) ∧ c = u.keyCmd req ∧ t = (u.keyQueue c).setBytes (fun k => Reg.KEY_WRAP_OUT_DATA k) 18 [] ∧ c.op = 5 ∧ u.sec.jobs = [] ∧
      (u.keyQueue c).trivetBusy = false ∧ t.keyRefusal c = 0 ∧ t.drawBytes (keyLen c.len) = (d, v)) ∧
    (∃ (s : State) (req : Req) (target : BitVec 6) (source : BitVec 6) (kind : BitVec 2) (lenSel : BitVec 6), TakesA s req Reg.KEY_CMD_GO (keyWord 6
      target source kind lenSel)) ∧
    (∃ (s : State) (u : State) (t : State) (c : KeyCmd) (req : Req) (target : BitVec 6) (source : BitVec 6) (kind : BitVec 2) (lenSel : BitVec 6),
      TakesA s req Reg.KEY_CMD_GO (keyWord 6 target source kind lenSel) ∧ u = plainly s req Reg.KEY_CMD_GO (keyWord 6 target source kind lenSel) ∧ c
      = u.keyCmd req ∧ t = (u.keyQueue c).setBytes (fun k => Reg.KEY_WRAP_OUT_DATA k) 18 [] ∧ c.op = 6 ∧ u.sec.jobs = [] ∧ (u.keyQueue c).trivetBusy
      = false) ∧
    (∃ (s : State) (req : Req) (target : BitVec 6) (source : BitVec 6) (kind : BitVec 2) (lenSel : BitVec 6), TakesA s req Reg.KEY_CMD_GO (keyWord 7
      target source kind lenSel)) ∧
    (∃ (s : State) (u : State) (t : State) (c : KeyCmd) (req : Req) (target : BitVec 6) (source : BitVec 6) (kind : BitVec 2) (lenSel : BitVec 6),
      TakesA s req Reg.KEY_CMD_GO (keyWord 7 target source kind lenSel) ∧ u = plainly s req Reg.KEY_CMD_GO (keyWord 7 target source kind lenSel) ∧ c
      = u.keyCmd req ∧ t = (u.keyQueue c).setBytes (fun k => Reg.KEY_WRAP_OUT_DATA k) 18 [] ∧ c.op = 7 ∧ u.sec.jobs = [] ∧ (u.keyQueue c).trivetBusy
      = false ∧ t.keyRefusal c = 0) ∧
    (∃ (s : State) (j : KeyJob) (r : List KeyJob), s.sec.jobs = j :: r ∧ j.ran = true) ∧
    (∃ (s : State) (req : Req), TakesF s req Reg.KEY_CTRL_ZEROISE) ∧
    (∃ (s : State) (t : State), s.domOn .fabric = true ∧ s.sec.remaskAt + 1000000 ≤ s.tb1 ∧ (t = (List.range 64).foldl (fun t n => if (t.slot
      n).full then (t.drawBytes (t.slot n).share.length).2.setSlotK n
      { t.slot n with share := xorB (t.slot n).share (t.drawBytes (t.slot n).share.length).1, mask := xorB (t.slot n).mask (t.drawBytes (t.slot n).share.length).1 }
      else t) s)) :=
  ⟨⟨up, (.trusted : Req), (3 : BitVec 6), (4 : BitVec 6), (0 : BitVec 2), (1 : BitVec 6), by decide +kernel⟩,
   by refine ⟨up, _, _, _, (.trusted : Req), (3 : BitVec 6), (4 : BitVec 6), (0 : BitVec 2), (1 : BitVec 6), ?_, rfl, rfl, rfl, ?_, ?_, ?_,
     ?_⟩ <;> decide +kernel,
   ⟨up, (.trusted : Req), (3 : BitVec 6), (4 : BitVec 6), (0 : BitVec 2), (1 : BitVec 6), by decide +kernel⟩,
   by refine ⟨up, _, _, _, (.trusted : Req), (3 : BitVec 6), (4 : BitVec 6), (0 : BitVec 2), (1 : BitVec 6), ?_, rfl, rfl, rfl, ?_, ?_, ?_,
     ?_⟩ <;> decide +kernel,
   ⟨up, (.trusted : Req), (3 : BitVec 6), (4 : BitVec 6), (0 : BitVec 2), (1 : BitVec 6), by decide +kernel⟩,
   by refine ⟨keyed, _, _, _, (Req.trusted : Req), (8 : BitVec 6), (8 : BitVec 6), (0 : BitVec 2), (1 : BitVec 6), ?_, rfl, rfl, rfl, ?_, ?_, ?_,
     ?_⟩ <;> decide +kernel,
   ⟨up, (.trusted : Req), (3 : BitVec 6), (4 : BitVec 6), (0 : BitVec 2), (1 : BitVec 6), by decide +kernel⟩,
   by refine ⟨keyed, _, _, _, (Req.trusted : Req), (3 : BitVec 6), (8 : BitVec 6), (0 : BitVec 2), (1 : BitVec 6), ?_, rfl, rfl, rfl, ?_, ?_, ?_,
     ?_⟩ <;> decide +kernel,
   ⟨up, (.trusted : Req), (3 : BitVec 6), (4 : BitVec 6), (0 : BitVec 2), (1 : BitVec 6), by decide +kernel⟩,
   by refine ⟨keyed, _, _, _, (Req.trusted : Req), (3 : BitVec 6), (8 : BitVec 6), (0 : BitVec 2), (1 : BitVec 6), ((((((plainly keyed ((Req.trusted
     : Req)) Reg.KEY_CMD_GO (keyWord 5 ((3 : BitVec 6)) ((8 : BitVec 6)) ((0 : BitVec 2)) ((1 : BitVec 6))) : State)).keyQueue ((((plainly keyed
     ((Req.trusted : Req)) Reg.KEY_CMD_GO (keyWord 5 ((3 : BitVec 6)) ((8 : BitVec 6)) ((0 : BitVec 2)) ((1 : BitVec 6))) : State)).keyCmd
     ((Req.trusted : Req)) : KeyCmd))).setBytes (fun k => Reg.KEY_WRAP_OUT_DATA k) 18 [] : State)).drawBytes (keyLen ((((plainly keyed ((Req.trusted
     : Req)) Reg.KEY_CMD_GO (keyWord 5 ((3 : BitVec 6)) ((8 : BitVec 6)) ((0 : BitVec 2)) ((1 : BitVec 6))) : State)).keyCmd ((Req.trusted : Req)) :
     KeyCmd)).len)).1, ((((((plainly keyed ((Req.trusted : Req)) Reg.KEY_CMD_GO (keyWord 5 ((3 : BitVec 6)) ((8 : BitVec 6)) ((0 : BitVec 2)) ((1 :
     BitVec 6))) : State)).keyQueue ((((plainly keyed ((Req.trusted : Req)) Reg.KEY_CMD_GO (keyWord 5 ((3 : BitVec 6)) ((8 : BitVec 6)) ((0 : BitVec
     2)) ((1 : BitVec 6))) : State)).keyCmd ((Req.trusted : Req)) : KeyCmd))).setBytes (fun k => Reg.KEY_WRAP_OUT_DATA k) 18 [] : State)).drawBytes
     (keyLen ((((plainly keyed ((Req.trusted : Req)) Reg.KEY_CMD_GO (keyWord 5 ((3 : BitVec 6)) ((8 : BitVec 6)) ((0 : BitVec 2)) ((1 : BitVec 6)))
     : State)).keyCmd ((Req.trusted : Req)) : KeyCmd)).len)).2, ?_, rfl, rfl, rfl, ?_, ?_, ?_, ?_, pair_eq _⟩ <;> decide +kernel,
   ⟨up, (.trusted : Req), (3 : BitVec 6), (4 : BitVec 6), (0 : BitVec 2), (1 : BitVec 6), by decide +kernel⟩,
   by refine ⟨keyed, _, _, _, (Req.trusted : Req), (3 : BitVec 6), (3 : BitVec 6), (0 : BitVec 2), (1 : BitVec 6), ?_, rfl, rfl, rfl, ?_, ?_,
     ?_⟩ <;> decide +kernel,
   ⟨up, (.trusted : Req), (3 : BitVec 6), (4 : BitVec 6), (0 : BitVec 2), (1 : BitVec 6), by decide +kernel⟩,
   by refine ⟨keyed, _, _, _, (Req.trusted : Req), (9 : BitVec 6), (8 : BitVec 6), (0 : BitVec 2), (1 : BitVec 6), ?_, rfl, rfl, rfl, ?_, ?_, ?_,
     ?_⟩ <;> decide +kernel,
   by refine
     ⟨({ up with sec := { jobs := [{ cmd := { req := .trusted, op := 1, target := 3, source := 0, kind := 0, len := 0, attr := 0 }, ran := true }] } }
     : State), ({ cmd := { req := .trusted, op := 1, target := 3, source := 0, kind := 0, len := 0, attr := 0 }, ran := true } : KeyJob), ([] : List
     KeyJob), ?_, ?_⟩ <;> decide +kernel,
   ⟨up, (.trusted : Req), by decide +kernel⟩,
   by refine ⟨({ up with tb1 := 99000000000 } : State), _, ?_, ?_, rfl⟩ <;> decide +kernel⟩

/-- Each clause of TrivetCommandsComplete is met. -/
theorem witness_TrivetCommandsComplete :
    (∃ (s : State) (sub : Option Submission) (u : State) (b : Bytes), (u = s.submitted 0x40 sub (fun x => .bytes (splice (slice x.item 0 256) 0
      [BitVec.ofNat 8 1]))) ∧ u.domOn .fabric = true ∧ u.sec.tId.isEmpty = false ∧ u.trivetBusy = false ∧ u.hasCredit 0x41 = true ∧ (u.queue
      0x40).items.head? = some ⟨.bytes b, 0⟩ ∧ leAt b 0 1 = 1 ∧ ((u.popped 0x40).slot 4).may Usage.sign = true ∧ rangeMapped (leAt b 16 8) 374 =
      true) ∧
    (∃ (s : State) (sub : Option Submission) (u : State) (b : Bytes) (iv : Bytes) (t : State), (u = s.submitted 0x40 sub (fun x => .bytes (splice
      (slice x.item 0 256) 0 [BitVec.ofNat 8 2]))) ∧ u.domOn .fabric = true ∧ u.sec.tId.isEmpty = false ∧ u.trivetBusy = false ∧ u.hasCredit 0x41 =
      true ∧ (u.queue 0x40).items.head? = some ⟨.bytes b, 0⟩ ∧ leAt b 0 1 = 2 ∧ (u.popped 0x40).unconfirmed = false ∧ (u.popped
      0x40).sec.tSeal.isEmpty = false ∧ leAt b 24 4 ≤ 4096 ∧ rangeMapped (leAt b 8 8) (leAt b 24 4) = true ∧ rangeMapped (leAt b 16 8) (leAt b 24 4
      + 29) = true ∧ (u.popped 0x40).drawBytes 12 = (iv, t)) ∧
    (∃ (s : State) (sub : Option Submission) (u : State) (b : Bytes), (u = s.submitted 0x40 sub (fun x => .bytes (splice (slice x.item 0 256) 0
      [BitVec.ofNat 8 3]))) ∧ u.domOn .fabric = true ∧ u.sec.tId.isEmpty = false ∧ u.trivetBusy = false ∧ u.hasCredit 0x41 = true ∧ (u.queue
      0x40).items.head? = some ⟨.bytes b, 0⟩ ∧ leAt b 0 1 = 3 ∧ leAt b 24 4 ≤ 2 * (4096 + 28) + 1 ∧ rangeMapped (leAt b 8 8) (leAt b 24 4) = true) ∧
    (∃ (s : State) (sub : Option Submission) (u : State) (b : Bytes), (u = s.submitted 0x40 sub (fun x => .bytes (splice (slice x.item 0 256) 0
      [BitVec.ofNat 8 4]))) ∧ u.domOn .fabric = true ∧ u.sec.tId.isEmpty = false ∧ u.trivetBusy = false ∧ u.hasCredit 0x41 = true ∧ (u.queue
      0x40).items.head? = some ⟨.bytes b, 0⟩ ∧ leAt b 0 1 = 4) ∧
    (∃ (s : State) (sub : Option Submission) (u : State) (b : Bytes), (u = s.submitted 0x40 sub (fun x => .bytes (splice (slice x.item 0 256) 0
      [BitVec.ofNat 8 5]))) ∧ u.domOn .fabric = true ∧ u.sec.tId.isEmpty = false ∧ u.trivetBusy = false ∧ u.hasCredit 0x41 = true ∧ (u.queue
      0x40).items.head? = some ⟨.bytes b, 0⟩ ∧ leAt b 0 1 = 5 ∧ ((u.popped 0x40).slot (leAt b 2 1 % 2)).full = true ∧ ((u.popped 0x40).slot 2).full
      = true ∧ ((u.popped 0x40).slot (leAt b 2 1 % 2)).export_ = true ∧ ((u.popped 0x40).slot 2).may Usage.enc = true) ∧
    (∃ (s : State) (sub : Option Submission) (u : State) (b : Bytes), (u = s.submitted 0x40 sub (fun x => .bytes (splice (slice x.item 0 256) 0
      [BitVec.ofNat 8 6]))) ∧ u.domOn .fabric = true ∧ u.sec.tId.isEmpty = false ∧ u.trivetBusy = false ∧ u.hasCredit 0x41 = true ∧ (u.queue
      0x40).items.head? = some ⟨.bytes b, 0⟩ ∧ leAt b 0 1 = 6) ∧
    (∃ (s : State) (sub : Option Submission) (u : State) (b : Bytes), (u = s.submitted 0x40 sub (fun x => .bytes (splice (slice x.item 0 256) 0
      [BitVec.ofNat 8 7]))) ∧ u.domOn .fabric = true ∧ u.sec.tId.isEmpty = false ∧ u.trivetBusy = false ∧ u.hasCredit 0x41 = true ∧ (u.queue
      0x40).items.head? = some ⟨.bytes b, 0⟩ ∧ leAt b 0 1 = 7 ∧ ((u.popped 0x40).slot 2).may Usage.enc = true) :=
  ⟨by refine ⟨(asked keyed 0x40 (job 256 1 []) : State), (none : Option Submission), _, p_bytes (((((((asked keyed 0x40 (job 256 1 []) :
     State)).submitted 0x40 ((none : Option Submission)) (fun x => .bytes (splice (slice x.item 0 256) 0 [BitVec.ofNat 8 1])) : State)).queue
     0x40).items.head?).get (by decide +kernel)), rfl, ?_, ?_, ?_, ?_, ?_, ?_, ?_, ?_⟩ <;> decide +kernel,
   by refine ⟨(asked keyed 0x40 (job 256 2 [(8, 8, 0x0800000000), (16, 8, 0x0800000000)]) : State), (none : Option Submission), _, p_bytes
     (((((((asked keyed 0x40 (job 256 2 [(8, 8, 0x0800000000), (16, 8, 0x0800000000)]) : State)).submitted 0x40 ((none : Option Submission)) (fun x
     => .bytes (splice (slice x.item 0 256) 0 [BitVec.ofNat 8 2])) : State)).queue 0x40).items.head?).get (by decide +kernel)), ((((((asked keyed
     0x40 (job 256 2 [(8, 8, 0x0800000000), (16, 8, 0x0800000000)]) : State)).submitted 0x40 ((none : Option Submission)) (fun x => .bytes (splice
     (slice x.item 0 256) 0 [BitVec.ofNat 8 2])) : State)).popped 0x40).drawBytes 12).1, ((((((asked keyed 0x40 (job 256 2 [(8, 8, 0x0800000000),
     (16, 8, 0x0800000000)]) : State)).submitted 0x40 ((none : Option Submission)) (fun x => .bytes (splice (slice x.item 0 256) 0 [BitVec.ofNat 8
     2])) : State)).popped 0x40).drawBytes 12).2, rfl, ?_, ?_, ?_, ?_, ?_, ?_, ?_, ?_, ?_, ?_, ?_, pair_eq _⟩ <;> decide +kernel,
   by refine ⟨(asked keyed 0x40 (job 256 3 []) : State), (none : Option Submission), _, p_bytes (((((((asked keyed 0x40 (job 256 3 []) :
     State)).submitted 0x40 ((none : Option Submission)) (fun x => .bytes (splice (slice x.item 0 256) 0 [BitVec.ofNat 8 3])) : State)).queue
     0x40).items.head?).get (by decide +kernel)), rfl, ?_, ?_, ?_, ?_, ?_, ?_, ?_, ?_⟩ <;> decide +kernel,
   by refine ⟨(asked keyed 0x40 (job 256 4 []) : State), (none : Option Submission), _, p_bytes (((((((asked keyed 0x40 (job 256 4 []) :
     State)).submitted 0x40 ((none : Option Submission)) (fun x => .bytes (splice (slice x.item 0 256) 0 [BitVec.ofNat 8 4])) : State)).queue
     0x40).items.head?).get (by decide +kernel)), rfl, ?_, ?_, ?_, ?_, ?_, ?_⟩ <;> decide +kernel,
   by refine ⟨(asked keyed 0x40 (job 256 5 []) : State), (none : Option Submission), _, p_bytes (((((((asked keyed 0x40 (job 256 5 []) :
     State)).submitted 0x40 ((none : Option Submission)) (fun x => .bytes (splice (slice x.item 0 256) 0 [BitVec.ofNat 8 5])) : State)).queue
     0x40).items.head?).get (by decide +kernel)), rfl, ?_, ?_, ?_, ?_, ?_, ?_, ?_, ?_, ?_, ?_⟩ <;> decide +kernel,
   by refine ⟨(asked keyed 0x40 (job 256 6 []) : State), (none : Option Submission), _, p_bytes (((((((asked keyed 0x40 (job 256 6 []) :
     State)).submitted 0x40 ((none : Option Submission)) (fun x => .bytes (splice (slice x.item 0 256) 0 [BitVec.ofNat 8 6])) : State)).queue
     0x40).items.head?).get (by decide +kernel)), rfl, ?_, ?_, ?_, ?_, ?_, ?_⟩ <;> decide +kernel,
   by refine ⟨(asked keyed 0x40 (job 256 7 []) : State), (none : Option Submission), _, p_bytes (((((((asked keyed 0x40 (job 256 7 []) :
     State)).submitted 0x40 ((none : Option Submission)) (fun x => .bytes (splice (slice x.item 0 256) 0 [BitVec.ofNat 8 7])) : State)).queue
     0x40).items.head?).get (by decide +kernel)), rfl, ?_, ?_, ?_, ?_, ?_, ?_, ?_⟩ <;> decide +kernel⟩

/-- Each clause of CipherJobCommandsComplete is met. -/
theorem witness_CipherJobCommandsComplete :
    (∃ (s : State) (sub : Option Submission) (u : State) (b : Bytes) (key : Bytes) (c : Nat) (t : State), (u = s.submitted 0x48 sub (fun x => .bytes
      (slice x.item 0 64))) ∧ u.unitsReady ≠ 0 ∧ u.jobsRun = true ∧ u.hasCredit 0x49 = true ∧ (u.queue 0x48).items.head? = some ⟨.bytes b, 0⟩ ∧ leAt
      b 0 1 = 1 ∧ ciphFits 1 b = true ∧ (u.popped 0x48).ciphSlot (ciphFields b).slot Usage.enc = 0 ∧ key = ((u.popped 0x48).slot (ciphFields
      b).slot).key ∧ (key.length = 16 ∨ key.length = 32) ∧ rangeMapped (ciphFields b).dst (ciphFields b).len = true ∧ (u.popped 0x48).takeIv
      (ciphFields b).slot = some (c, t)) ∧
    (∃ (s : State) (sub : Option Submission) (u : State) (b : Bytes) (key : Bytes) (iv : Bytes) (ct : Bytes), (u = s.submitted 0x48 sub (fun x =>
      .bytes (slice x.item 0 64))) ∧ u.unitsReady ≠ 0 ∧ u.jobsRun = true ∧ u.hasCredit 0x49 = true ∧ (u.queue 0x48).items.head? = some ⟨.bytes b, 0⟩
      ∧ leAt b 0 1 = 2 ∧ ciphFits 2 b = true ∧ (u.popped 0x48).ciphSlot (ciphFields b).slot Usage.dec = 0 ∧ key = ((u.popped 0x48).slot (ciphFields
      b).slot).key ∧ (key.length = 16 ∨ key.length = 32) ∧ rangeMapped (ciphFields b).dst (ciphFields b).len = true ∧ iv = (ciphFields b).fixed ++
      beBytes 8 (ciphFields b).ivc ∧ ct = (u.popped 0x48).read ((ciphFields b).src + (ciphFields b).aad) (ciphFields b).len) ∧
    (∃ (s : State) (sub : Option Submission) (u : State) (b : Bytes) (key : Bytes) (c : Nat) (t : State), (u = s.submitted 0x48 sub (fun x => .bytes
      (slice x.item 0 64))) ∧ u.unitsReady ≠ 0 ∧ u.jobsRun = true ∧ u.hasCredit 0x49 = true ∧ (u.queue 0x48).items.head? = some ⟨.bytes b, 0⟩ ∧ leAt
      b 0 1 = 3 ∧ ciphFits 3 b = true ∧ (u.popped 0x48).ciphSlot (ciphFields b).slot Usage.enc = 0 ∧ key = ((u.popped 0x48).slot (ciphFields
      b).slot).key ∧ (key.length = 16 ∨ key.length = 32) ∧ rangeMapped (ciphFields b).dst (ciphFields b).len = true ∧ (u.popped 0x48).takeIv
      (ciphFields b).slot = some (c, t)) ∧
    (∃ (s : State) (sub : Option Submission) (u : State) (b : Bytes) (key : Bytes), (u = s.submitted 0x48 sub (fun x => .bytes (slice x.item 0 64)))
      ∧ u.unitsReady ≠ 0 ∧ u.jobsRun = true ∧ u.hasCredit 0x49 = true ∧ (u.queue 0x48).items.head? = some ⟨.bytes b, 0⟩ ∧ leAt b 0 1 = 4 ∧ ciphFits
      4 b = true ∧ (u.popped 0x48).ciphSlot (ciphFields b).slot Usage.dec = 0 ∧ key = ((u.popped 0x48).slot (ciphFields b).slot).key ∧ (key.length =
      16 ∨ key.length = 32) ∧ rangeMapped (ciphFields b).dst (ciphFields b).len = true) ∧
    (∃ (s : State) (sub : Option Submission) (u : State) (b : Bytes) (key : Bytes) (c : Nat) (t : State), (u = s.submitted 0x48 sub (fun x => .bytes
      (slice x.item 0 64))) ∧ u.unitsReady ≠ 0 ∧ u.jobsRun = true ∧ u.hasCredit 0x49 = true ∧ (u.queue 0x48).items.head? = some ⟨.bytes b, 0⟩ ∧ leAt
      b 0 1 = 5 ∧ ciphFits 5 b = true ∧ (u.popped 0x48).ciphSlot (ciphFields b).slot Usage.macGen = 0 ∧ key = ((u.popped 0x48).slot (ciphFields
      b).slot).key ∧ (key.length = 16 ∨ key.length = 32) ∧ (u.popped 0x48).takeIv (ciphFields b).slot = some (c, t)) ∧
    (∃ (s : State) (sub : Option Submission) (u : State) (b : Bytes) (key : Bytes), (u = s.submitted 0x48 sub (fun x => .bytes (slice x.item 0 64)))
      ∧ u.unitsReady ≠ 0 ∧ u.jobsRun = true ∧ u.hasCredit 0x49 = true ∧ (u.queue 0x48).items.head? = some ⟨.bytes b, 0⟩ ∧ leAt b 0 1 = 6 ∧ ciphFits
      6 b = true ∧ (u.popped 0x48).ciphSlot (ciphFields b).slot Usage.macVer = 0 ∧ key = ((u.popped 0x48).slot (ciphFields b).slot).key ∧
      (key.length = 16 ∨ key.length = 32)) ∧
    (∃ (s : State) (sub : Option Submission) (u : State) (b : Bytes) (key : Bytes), (u = s.submitted 0x48 sub (fun x => .bytes (slice x.item 0 64)))
      ∧ u.unitsReady ≠ 0 ∧ u.jobsRun = true ∧ u.hasCredit 0x49 = true ∧ (u.queue 0x48).items.head? = some ⟨.bytes b, 0⟩ ∧ leAt b 0 1 = 7 ∧ ciphFits
      7 b = true ∧ (u.popped 0x48).ciphSlot (ciphFields b).slot Usage.macGen = 0 ∧ key = ((u.popped 0x48).slot (ciphFields b).slot).key ∧
      (key.length = 16 ∨ key.length = 32)) ∧
    (∃ (s : State) (sub : Option Submission) (u : State) (b : Bytes) (key : Bytes), (u = s.submitted 0x48 sub (fun x => .bytes (slice x.item 0 64)))
      ∧ u.unitsReady ≠ 0 ∧ u.jobsRun = true ∧ u.hasCredit 0x49 = true ∧ (u.queue 0x48).items.head? = some ⟨.bytes b, 0⟩ ∧ leAt b 0 1 = 8 ∧ ciphFits
      8 b = true ∧ (u.popped 0x48).ciphSlot (ciphFields b).slot Usage.macVer = 0 ∧ key = ((u.popped 0x48).slot (ciphFields b).slot).key ∧
      (key.length = 16 ∨ key.length = 32)) ∧
    (∃ (s : State) (sub : Option Submission) (u : State) (b : Bytes) (key : Bytes) (d : List Nat), (u = s.submitted 0x48 sub (fun x => .bytes (slice
      x.item 0 64))) ∧ u.unitsReady ≠ 0 ∧ u.jobsRun = true ∧ u.hasCredit 0x49 = true ∧ (u.queue 0x48).items.head? = some ⟨.bytes b, 0⟩ ∧ leAt b 0 1
      = 9 ∧ ciphFits 9 b = true ∧ (u.popped 0x48).ciphSlot (ciphFields b).slot Usage.enc = 0 ∧ key = ((u.popped 0x48).slot (ciphFields b).slot).key
      ∧ (key.length = 16 ∨ key.length = 32) ∧ rangeMapped (ciphFields b).dst (ciphFields b).len = true ∧ asciiDigits ((u.popped 0x48).read
      (ciphFields b).src (ciphFields b).len) = some d ∧ key.length = 32) ∧
    (∃ (s : State) (sub : Option Submission) (u : State) (b : Bytes) (key : Bytes) (d : List Nat), (u = s.submitted 0x48 sub (fun x => .bytes (slice
      x.item 0 64))) ∧ u.unitsReady ≠ 0 ∧ u.jobsRun = true ∧ u.hasCredit 0x49 = true ∧ (u.queue 0x48).items.head? = some ⟨.bytes b, 0⟩ ∧ leAt b 0 1
      = 10 ∧ ciphFits 10 b = true ∧ (u.popped 0x48).ciphSlot (ciphFields b).slot Usage.dec = 0 ∧ key = ((u.popped 0x48).slot (ciphFields
      b).slot).key ∧ (key.length = 16 ∨ key.length = 32) ∧ rangeMapped (ciphFields b).dst (ciphFields b).len = true ∧ asciiDigits ((u.popped
      0x48).read (ciphFields b).src (ciphFields b).len) = some d ∧ key.length = 32) ∧
    (∃ (s : State) (sub : Option Submission) (u : State) (b : Bytes) (key : Bytes), (u = s.submitted 0x48 sub (fun x => .bytes (slice x.item 0 64)))
      ∧ u.unitsReady ≠ 0 ∧ u.jobsRun = true ∧ u.hasCredit 0x49 = true ∧ (u.queue 0x48).items.head? = some ⟨.bytes b, 0⟩ ∧ leAt b 0 1 = 16 ∧ ciphFits
      16 b = true ∧ (u.popped 0x48).ciphSlot (ciphFields b).slot Usage.dec = 0 ∧ key = ((u.popped 0x48).slot (ciphFields b).slot).key ∧ (key.length
      = 16 ∨ key.length = 32) ∧ rangeMapped (ciphFields b).dst 40 = true ∧ 8 ≤ (ciphFields b).slot ∧ (ciphFields b).len = 40 ∧ (u.popped
      0x48).ciphSlot (ciphFields b).arg Usage.enc = 0) ∧
    (∃ (s : State) (sub : Option Submission) (u : State) (b : Bytes) (m : Nat) (v : Nat), (u = s.submitted 0x48 sub (fun x => .bytes (slice x.item 0
      64))) ∧ u.unitsReady ≠ 0 ∧ u.jobsRun = true ∧ u.hasCredit 0x49 = true ∧ (u.queue 0x48).items.head? = some ⟨.bytes b, 0⟩ ∧ leAt b 0 1 = 17 ∧
      ciphFits 17 b = true ∧ m = leNat (ciphFields b).fixed ∧ (u.popped 0x48).jobUnit = some v ∧ m < (u.popped 0x48).roleLimit ∧ (ciphFields b).aad
      = 18 ∧ (bitsOf ((u.popped 0x48).recF m 0x008 4) 5 4 = 1 ∨ bitsOf ((u.popped 0x48).recF m 0x008 4) 5 4 = 2)) ∧
    (∃ (s : State) (req : Req) (source : BitVec 1), TakesA s req Reg.CIPH_REWRAP_GO (2 ^ 31 + source.toNat) ∧ s.flag Reg.CIPH_STAT_REWRAP_RUN =
      false) ∧
    (∃ (s : State), s.flag Reg.CIPH_STAT_REWRAP_RUN = true ∧ bitAt s.unitsReady 3 ≠ 0 ∧ s.unitRun 3 = none ∧ s.sec.rewrapAt + nsPerS / s.getF
      Reg.CIPH_REWRAP_RATE_PER_S ≤ s.tb1 ∧ s.nextRewrap (s.getF Reg.CIPH_REWRAP_FROM) (s.getF Reg.CIPH_REWRAP_POS_METER) = none) ∧
    (∃ (s : State) (m : Nat) (t : State), s.flag Reg.CIPH_STAT_REWRAP_RUN = true ∧ bitAt s.unitsReady 3 ≠ 0 ∧ s.unitRun 3 = none ∧ s.sec.rewrapAt +
      nsPerS / s.getF Reg.CIPH_REWRAP_RATE_PER_S ≤ s.tb1 ∧ s.nextRewrap (s.getF Reg.CIPH_REWRAP_FROM) (s.getF Reg.CIPH_REWRAP_POS_METER) = some m ∧
      m + 1 ≠ 2 ^ 20 ∧ t = { s with sec := { s.sec with rewrapAt := s.tb1 } }) :=
  ⟨by refine ⟨(asked keyed 0x48 (job 64 1 []) : State), (none : Option Submission), _, p_bytes (((((((asked keyed 0x48 (job 64 1 []) :
     State)).submitted 0x48 ((none : Option Submission)) (fun x => .bytes (slice x.item 0 64)) : State)).queue 0x48).items.head?).get
     (by decide +kernel)), _, (((((((asked keyed 0x48 (job 64 1 []) : State)).submitted 0x48 ((none : Option Submission)) (fun x => .bytes (slice
     x.item 0 64)) : State)).popped 0x48).takeIv (ciphFields (p_bytes (((((((asked keyed 0x48 (job 64 1 []) : State)).submitted 0x48 ((none : Option
     Submission)) (fun x => .bytes (slice x.item 0 64)) : State)).queue 0x48).items.head?).get (by decide +kernel)))).slot).get
     (by decide +kernel)).1, (((((((asked keyed 0x48 (job 64 1 []) : State)).submitted 0x48 ((none : Option Submission)) (fun x => .bytes (slice
     x.item 0 64)) : State)).popped 0x48).takeIv (ciphFields (p_bytes (((((((asked keyed 0x48 (job 64 1 []) : State)).submitted 0x48 ((none : Option
     Submission)) (fun x => .bytes (slice x.item 0 64)) : State)).queue 0x48).items.head?).get (by decide +kernel)))).slot).get
     (by decide +kernel)).2, rfl, ?_, ?_, ?_, ?_, ?_, ?_, ?_, rfl, ?_, ?_, ?_⟩ <;> decide +kernel,
   by refine ⟨(asked keyed 0x48 (job 64 2 []) : State), (none : Option Submission), _, p_bytes (((((((asked keyed 0x48 (job 64 2 []) :
     State)).submitted 0x48 ((none : Option Submission)) (fun x => .bytes (slice x.item 0 64)) : State)).queue 0x48).items.head?).get
     (by decide +kernel)), _, _, _, rfl, ?_, ?_, ?_, ?_, ?_, ?_, ?_, rfl, ?_, ?_, rfl, rfl⟩ <;> decide +kernel,
   by refine ⟨(asked keyed 0x48 (job 64 3 []) : State), (none : Option Submission), _, p_bytes (((((((asked keyed 0x48 (job 64 3 []) :
     State)).submitted 0x48 ((none : Option Submission)) (fun x => .bytes (slice x.item 0 64)) : State)).queue 0x48).items.head?).get
     (by decide +kernel)), _, (((((((asked keyed 0x48 (job 64 3 []) : State)).submitted 0x48 ((none : Option Submission)) (fun x => .bytes (slice
     x.item 0 64)) : State)).popped 0x48).takeIv (ciphFields (p_bytes (((((((asked keyed 0x48 (job 64 3 []) : State)).submitted 0x48 ((none : Option
     Submission)) (fun x => .bytes (slice x.item 0 64)) : State)).queue 0x48).items.head?).get (by decide +kernel)))).slot).get
     (by decide +kernel)).1, (((((((asked keyed 0x48 (job 64 3 []) : State)).submitted 0x48 ((none : Option Submission)) (fun x => .bytes (slice
     x.item 0 64)) : State)).popped 0x48).takeIv (ciphFields (p_bytes (((((((asked keyed 0x48 (job 64 3 []) : State)).submitted 0x48 ((none : Option
     Submission)) (fun x => .bytes (slice x.item 0 64)) : State)).queue 0x48).items.head?).get (by decide +kernel)))).slot).get
     (by decide +kernel)).2, rfl, ?_, ?_, ?_, ?_, ?_, ?_, ?_, rfl, ?_, ?_, ?_⟩ <;> decide +kernel,
   by refine ⟨(asked keyed 0x48 (job 64 4 []) : State), (none : Option Submission), _, p_bytes (((((((asked keyed 0x48 (job 64 4 []) :
     State)).submitted 0x48 ((none : Option Submission)) (fun x => .bytes (slice x.item 0 64)) : State)).queue 0x48).items.head?).get
     (by decide +kernel)), _, rfl, ?_, ?_, ?_, ?_, ?_, ?_, ?_, rfl, ?_, ?_⟩ <;> decide +kernel,
   by refine ⟨(asked keyed 0x48 (job 64 5 []) : State), (none : Option Submission), _, p_bytes (((((((asked keyed 0x48 (job 64 5 []) :
     State)).submitted 0x48 ((none : Option Submission)) (fun x => .bytes (slice x.item 0 64)) : State)).queue 0x48).items.head?).get
     (by decide +kernel)), _, (((((((asked keyed 0x48 (job 64 5 []) : State)).submitted 0x48 ((none : Option Submission)) (fun x => .bytes (slice
     x.item 0 64)) : State)).popped 0x48).takeIv (ciphFields (p_bytes (((((((asked keyed 0x48 (job 64 5 []) : State)).submitted 0x48 ((none : Option
     Submission)) (fun x => .bytes (slice x.item 0 64)) : State)).queue 0x48).items.head?).get (by decide +kernel)))).slot).get
     (by decide +kernel)).1, (((((((asked keyed 0x48 (job 64 5 []) : State)).submitted 0x48 ((none : Option Submission)) (fun x => .bytes (slice
     x.item 0 64)) : State)).popped 0x48).takeIv (ciphFields (p_bytes (((((((asked keyed 0x48 (job 64 5 []) : State)).submitted 0x48 ((none : Option
     Submission)) (fun x => .bytes (slice x.item 0 64)) : State)).queue 0x48).items.head?).get (by decide +kernel)))).slot).get
     (by decide +kernel)).2, rfl, ?_, ?_, ?_, ?_, ?_, ?_, ?_, rfl, ?_, ?_⟩ <;> decide +kernel,
   by refine ⟨(asked keyed 0x48 (job 64 6 []) : State), (none : Option Submission), _, p_bytes (((((((asked keyed 0x48 (job 64 6 []) :
     State)).submitted 0x48 ((none : Option Submission)) (fun x => .bytes (slice x.item 0 64)) : State)).queue 0x48).items.head?).get
     (by decide +kernel)), _, rfl, ?_, ?_, ?_, ?_, ?_, ?_, ?_, rfl, ?_⟩ <;> decide +kernel,
   by refine ⟨(asked keyed 0x48 (job 64 7 []) : State), (none : Option Submission), _, p_bytes (((((((asked keyed 0x48 (job 64 7 []) :
     State)).submitted 0x48 ((none : Option Submission)) (fun x => .bytes (slice x.item 0 64)) : State)).queue 0x48).items.head?).get
     (by decide +kernel)), _, rfl, ?_, ?_, ?_, ?_, ?_, ?_, ?_, rfl, ?_⟩ <;> decide +kernel,
   by refine ⟨(asked keyed 0x48 (job 64 8 []) : State), (none : Option Submission), _, p_bytes (((((((asked keyed 0x48 (job 64 8 []) :
     State)).submitted 0x48 ((none : Option Submission)) (fun x => .bytes (slice x.item 0 64)) : State)).queue 0x48).items.head?).get
     (by decide +kernel)), _, rfl, ?_, ?_, ?_, ?_, ?_, ?_, ?_, rfl, ?_⟩ <;> decide +kernel,
   by refine ⟨(asked (keyed.write 0x10000000 (List.replicate 6 48)) 0x48 (job 64 9 [(2, 1, 1), (8, 8, 0x10000000), (24, 4, 6)]) : State), (none :
     Option Submission), _, p_bytes (((((((asked (keyed.write 0x10000000 (List.replicate 6 48)) 0x48 (job 64 9 [(2, 1, 1), (8, 8, 0x10000000), (24,
     4, 6)]) : State)).submitted 0x48 ((none : Option Submission)) (fun x => .bytes (slice x.item 0 64)) : State)).queue 0x48).items.head?).get
     (by decide +kernel)), _, ((asciiDigits ((((((asked (keyed.write 0x10000000 (List.replicate 6 48)) 0x48 (job 64 9 [(2, 1, 1), (8, 8,
     0x10000000), (24, 4, 6)]) : State)).submitted 0x48 ((none : Option Submission)) (fun x => .bytes (slice x.item 0 64)) : State)).popped
     0x48).read (ciphFields (p_bytes (((((((asked (keyed.write 0x10000000 (List.replicate 6 48)) 0x48 (job 64 9 [(2, 1, 1), (8, 8, 0x10000000), (24,
     4, 6)]) : State)).submitted 0x48 ((none : Option Submission)) (fun x => .bytes (slice x.item 0 64)) : State)).queue 0x48).items.head?).get
     (by decide +kernel)))).src (ciphFields (p_bytes (((((((asked (keyed.write 0x10000000 (List.replicate 6 48)) 0x48 (job 64 9 [(2, 1, 1), (8, 8,
     0x10000000), (24, 4, 6)]) : State)).submitted 0x48 ((none : Option Submission)) (fun x => .bytes (slice x.item 0 64)) : State)).queue
     0x48).items.head?).get (by decide +kernel)))).len)).get (by decide +kernel)), rfl, ?_, ?_, ?_, ?_, ?_, ?_, ?_, rfl, ?_, ?_, (Option.some_get
     _).symm, ?_⟩ <;> decide +kernel,
   by refine ⟨(asked (keyed.write 0x10000000 (List.replicate 6 48)) 0x48 (job 64 10 [(2, 1, 1), (8, 8, 0x10000000), (24, 4, 6)]) : State), (none :
     Option Submission), _, p_bytes (((((((asked (keyed.write 0x10000000 (List.replicate 6 48)) 0x48 (job 64 10 [(2, 1, 1), (8, 8, 0x10000000), (24,
     4, 6)]) : State)).submitted 0x48 ((none : Option Submission)) (fun x => .bytes (slice x.item 0 64)) : State)).queue 0x48).items.head?).get
     (by decide +kernel)), _, ((asciiDigits ((((((asked (keyed.write 0x10000000 (List.replicate 6 48)) 0x48 (job 64 10 [(2, 1, 1), (8, 8,
     0x10000000), (24, 4, 6)]) : State)).submitted 0x48 ((none : Option Submission)) (fun x => .bytes (slice x.item 0 64)) : State)).popped
     0x48).read (ciphFields (p_bytes (((((((asked (keyed.write 0x10000000 (List.replicate 6 48)) 0x48 (job 64 10 [(2, 1, 1), (8, 8, 0x10000000),
     (24, 4, 6)]) : State)).submitted 0x48 ((none : Option Submission)) (fun x => .bytes (slice x.item 0 64)) : State)).queue 0x48).items.head?).get
     (by decide +kernel)))).src (ciphFields (p_bytes (((((((asked (keyed.write 0x10000000 (List.replicate 6 48)) 0x48 (job 64 10 [(2, 1, 1), (8, 8,
     0x10000000), (24, 4, 6)]) : State)).submitted 0x48 ((none : Option Submission)) (fun x => .bytes (slice x.item 0 64)) : State)).queue
     0x48).items.head?).get (by decide +kernel)))).len)).get (by decide +kernel)), rfl, ?_, ?_, ?_, ?_, ?_, ?_, ?_, rfl, ?_, ?_, (Option.some_get
     _).symm, ?_⟩ <;> decide +kernel,
   by refine ⟨(asked keyed 0x48 (job 64 16 [(2, 1, 8), (24, 4, 40)]) : State), (none : Option Submission), _, p_bytes (((((((asked keyed 0x48 (job
     64 16 [(2, 1, 8), (24, 4, 40)]) : State)).submitted 0x48 ((none : Option Submission)) (fun x => .bytes (slice x.item 0 64)) : State)).queue
     0x48).items.head?).get (by decide +kernel)), _, rfl, ?_, ?_, ?_, ?_, ?_, ?_, ?_, rfl, ?_, ?_, ?_, ?_, ?_⟩ <;> decide +kernel,
   by refine ⟨(asked (keyed.setRec 0 8 4 0x10) 0x48 (job 64 17 [(28, 4, 18)]) : State), (none : Option Submission), _, p_bytes (((((((asked
     (keyed.setRec 0 8 4 0x10) 0x48 (job 64 17 [(28, 4, 18)]) : State)).submitted 0x48 ((none : Option Submission)) (fun x => .bytes (slice x.item 0
     64)) : State)).queue 0x48).items.head?).get (by decide +kernel)), _, (((((((asked (keyed.setRec 0 8 4 0x10) 0x48 (job 64 17 [(28, 4, 18)]) :
     State)).submitted 0x48 ((none : Option Submission)) (fun x => .bytes (slice x.item 0 64)) : State)).popped 0x48).jobUnit).get
     (by decide +kernel)), rfl, ?_, ?_, ?_, ?_, ?_, ?_, rfl, (Option.some_get _).symm, ?_, ?_, ?_⟩ <;> decide +kernel,
   by refine ⟨up, (.trusted : Req), (0 : BitVec 1), ?_, ?_⟩ <;> decide +kernel,
   by refine ⟨({ sets serving [(Reg.CIPH_STAT_REWRAP_RUN, 1), (Reg.CIPH_REWRAP_RATE_PER_S, 1)] with tb1 := 99000000000 } : State), ?_, ?_, ?_, ?_,
     ?_⟩ <;> decide +kernel,
   by refine ⟨({ (sets serving [(Reg.CIPH_STAT_REWRAP_RUN, 1), (Reg.CIPH_REWRAP_RATE_PER_S, 1)]).setRec 0 8 4 1 with tb1 := 99000000000 } : State),
     (((({ (sets serving [(Reg.CIPH_STAT_REWRAP_RUN, 1), (Reg.CIPH_REWRAP_RATE_PER_S, 1)]).setRec 0 8 4 1 with tb1 := 99000000000 } :
     State)).nextRewrap
     ((({ (sets serving [(Reg.CIPH_STAT_REWRAP_RUN, 1), (Reg.CIPH_REWRAP_RATE_PER_S, 1)]).setRec 0 8 4 1 with tb1 := 99000000000 } : State)).getF
     Reg.CIPH_REWRAP_FROM)
     ((({ (sets serving [(Reg.CIPH_STAT_REWRAP_RUN, 1), (Reg.CIPH_REWRAP_RATE_PER_S, 1)]).setRec 0 8 4 1 with tb1 := 99000000000 } : State)).getF
     Reg.CIPH_REWRAP_POS_METER)).get (by decide +kernel)), _, ?_, ?_, ?_, ?_, (Option.some_get _).symm, ?_, rfl⟩ <;> decide +kernel⟩

/-- Each clause of PublicKeyCommandsComplete is met. -/
theorem witness_PublicKeyCommandsComplete :
    (∃ (s : State) (sub : Option Submission) (u : State) (b : Bytes) (j : PkeJob), (u = s.submitted 0x50 sub (fun x => .bytes (slice x.item 0 64)))
      ∧ u.domOn .fabric = true ∧ u.flag Reg.PKE_CTRL_ENABLE = true ∧ u.trivetBusy = false ∧ u.hasCredit 0x51 = true ∧ (u.queue 0x50).items.head? =
      some ⟨.bytes b, 0⟩ ∧ leAt b 0 1 = 1 ∧ leAt b 2 1 ≤ 63 ∧ leAt b 3 1 ≤ 63 ∧ j = pkeFields b ∧ j.len ≤ 65536 ∧ rangeMapped j.msg j.len = true ∧
      rangeMapped j.sig 114 = true ∧ ((u.popped 0x50).slot j.slot).full = true ∧ ((u.popped 0x50).slot j.slot).may Usage.sign = true ∧ ((u.popped
      0x50).slot j.slot).goes Dest.mortar = true ∧ ((u.popped 0x50).slot j.slot).key.length = 57) ∧
    (∃ (s : State) (sub : Option Submission) (u : State) (b : Bytes) (j : PkeJob), (u = s.submitted 0x50 sub (fun x => .bytes (slice x.item 0 64)))
      ∧ u.domOn .fabric = true ∧ u.flag Reg.PKE_CTRL_ENABLE = true ∧ u.trivetBusy = false ∧ u.hasCredit 0x51 = true ∧ (u.queue 0x50).items.head? =
      some ⟨.bytes b, 0⟩ ∧ leAt b 0 1 = 2 ∧ leAt b 2 1 ≤ 63 ∧ leAt b 3 1 ≤ 63 ∧ j = pkeFields b ∧ j.len ≤ 65536 ∧ rangeMapped j.msg j.len = true ∧
      rangeMapped j.pub 57 = true ∧ rangeMapped j.sig 114 = true) ∧
    (∃ (s : State) (sub : Option Submission) (u : State) (b : Bytes) (j : PkeJob), (u = s.submitted 0x50 sub (fun x => .bytes (slice x.item 0 64)))
      ∧ u.domOn .fabric = true ∧ u.flag Reg.PKE_CTRL_ENABLE = true ∧ u.trivetBusy = false ∧ u.hasCredit 0x51 = true ∧ (u.queue 0x50).items.head? =
      some ⟨.bytes b, 0⟩ ∧ leAt b 0 1 = 3 ∧ leAt b 2 1 ≤ 63 ∧ leAt b 3 1 ≤ 63 ∧ j = pkeFields b ∧ rangeMapped j.msg j.len = true ∧ rangeMapped j.sig
      114 = true ∧ ((u.popped 0x50).slot j.slot).full = true ∧ ((u.popped 0x50).slot j.slot).may Usage.sign = true ∧ ((u.popped 0x50).slot
      j.slot).goes Dest.mortar = true ∧ ((u.popped 0x50).slot j.slot).key.length = 57) ∧
    (∃ (s : State) (sub : Option Submission) (u : State) (b : Bytes) (j : PkeJob), (u = s.submitted 0x50 sub (fun x => .bytes (slice x.item 0 64)))
      ∧ u.domOn .fabric = true ∧ u.flag Reg.PKE_CTRL_ENABLE = true ∧ u.trivetBusy = false ∧ u.hasCredit 0x51 = true ∧ (u.queue 0x50).items.head? =
      some ⟨.bytes b, 0⟩ ∧ leAt b 0 1 = 4 ∧ leAt b 2 1 ≤ 63 ∧ leAt b 3 1 ≤ 63 ∧ j = pkeFields b ∧ rangeMapped j.msg j.len = true ∧ rangeMapped j.pub
      57 = true ∧ rangeMapped j.sig 114 = true) ∧
    (∃ (s : State) (sub : Option Submission) (u : State) (b : Bytes) (j : PkeJob), (u = s.submitted 0x50 sub (fun x => .bytes (slice x.item 0 64)))
      ∧ u.domOn .fabric = true ∧ u.flag Reg.PKE_CTRL_ENABLE = true ∧ u.trivetBusy = false ∧ u.hasCredit 0x51 = true ∧ (u.queue 0x50).items.head? =
      some ⟨.bytes b, 0⟩ ∧ leAt b 0 1 = 5 ∧ leAt b 2 1 ≤ 63 ∧ leAt b 3 1 ≤ 63 ∧ j = pkeFields b ∧ rangeMapped j.pub 56 = true ∧ ((u.popped
      0x50).slot j.slot).full = true ∧ ((u.popped 0x50).slot j.slot).may Usage.agree = true ∧ ((u.popped 0x50).slot j.slot).goes Dest.mortar = true
      ∧ ((u.popped 0x50).slot j.slot).key.length = 56) ∧
    (∃ (s : State) (sub : Option Submission) (u : State) (b : Bytes) (j : PkeJob), (u = s.submitted 0x50 sub (fun x => .bytes (slice x.item 0 64)))
      ∧ u.domOn .fabric = true ∧ u.flag Reg.PKE_CTRL_ENABLE = true ∧ u.trivetBusy = false ∧ u.hasCredit 0x51 = true ∧ (u.queue 0x50).items.head? =
      some ⟨.bytes b, 0⟩ ∧ leAt b 0 1 = 6 ∧ leAt b 2 1 ≤ 63 ∧ leAt b 3 1 ≤ 63 ∧ j = pkeFields b ∧ ((u.popped 0x50).slot j.slot).full = true ∧
      ((u.popped 0x50).slot j.slot).goes Dest.mortar = true ∧ (((u.popped 0x50).slot j.slot).may Usage.sign = true ∨ ((u.popped 0x50).slot
      j.slot).may Usage.agree = true) ∧ ((u.popped 0x50).slot j.slot).key.length = 57) ∧
    (∃ (s : State) (sub : Option Submission) (u : State) (b : Bytes) (j : PkeJob) (d : Bytes) (t : State), (u = s.submitted 0x50 sub (fun x =>
      .bytes (slice x.item 0 64))) ∧ u.domOn .fabric = true ∧ u.flag Reg.PKE_CTRL_ENABLE = true ∧ u.trivetBusy = false ∧ u.hasCredit 0x51 = true ∧
      (u.queue 0x50).items.head? = some ⟨.bytes b, 0⟩ ∧ leAt b 0 1 = 7 ∧ leAt b 2 1 ≤ 63 ∧ leAt b 3 1 ≤ 63 ∧ j = pkeFields b ∧ (u.popped
      0x50).trngOk = true ∧ bitAt (leAt b 4 1) 0 ≠ 1 ∧ (u.popped 0x50).drawBytes 57 = (d, t)) ∧
    (∃ (s : State) (sub : Option Submission) (u : State) (b : Bytes) (j : PkeJob) (d : Bytes) (t : State), (u = s.submitted 0x50 sub (fun x =>
      .bytes (slice x.item 0 64))) ∧ u.domOn .fabric = true ∧ u.flag Reg.PKE_CTRL_ENABLE = true ∧ u.trivetBusy = false ∧ u.hasCredit 0x51 = true ∧
      (u.queue 0x50).items.head? = some ⟨.bytes b, 0⟩ ∧ leAt b 0 1 = 7 ∧ leAt b 2 1 ≤ 63 ∧ leAt b 3 1 ≤ 63 ∧ j = pkeFields b ∧ (u.popped
      0x50).trngOk = true ∧ bitAt (leAt b 4 1) 0 = 1 ∧ (u.popped 0x50).drawBytes 56 = (d, t)) :=
  ⟨by refine ⟨(asked keyed 0x50 (job 64 1 [(2, 1, 9)]) : State), (none : Option Submission), _, p_bytes (((((((asked keyed 0x50 (job 64 1 [(2, 1,
     9)]) : State)).submitted 0x50 ((none : Option Submission)) (fun x => .bytes (slice x.item 0 64)) : State)).queue 0x50).items.head?).get
     (by decide +kernel)), _, rfl, ?_, ?_, ?_, ?_, ?_, ?_, ?_, ?_, rfl, ?_, ?_, ?_, ?_, ?_, ?_, ?_⟩ <;> decide +kernel,
   by refine ⟨(asked keyed 0x50 (job 64 2 [(2, 1, 0)]) : State), (none : Option Submission), _, p_bytes (((((((asked keyed 0x50 (job 64 2 [(2, 1,
     0)]) : State)).submitted 0x50 ((none : Option Submission)) (fun x => .bytes (slice x.item 0 64)) : State)).queue 0x50).items.head?).get
     (by decide +kernel)), _, rfl, ?_, ?_, ?_, ?_, ?_, ?_, ?_, ?_, rfl, ?_, ?_, ?_, ?_⟩ <;> decide +kernel,
   by refine ⟨(asked keyed 0x50 (job 64 3 [(2, 1, 9)]) : State), (none : Option Submission), _, p_bytes (((((((asked keyed 0x50 (job 64 3 [(2, 1,
     9)]) : State)).submitted 0x50 ((none : Option Submission)) (fun x => .bytes (slice x.item 0 64)) : State)).queue 0x50).items.head?).get
     (by decide +kernel)), _, rfl, ?_, ?_, ?_, ?_, ?_, ?_, ?_, ?_, rfl, ?_, ?_, ?_, ?_, ?_, ?_⟩ <;> decide +kernel,
   by refine ⟨(asked keyed 0x50 (job 64 4 [(2, 1, 0)]) : State), (none : Option Submission), _, p_bytes (((((((asked keyed 0x50 (job 64 4 [(2, 1,
     0)]) : State)).submitted 0x50 ((none : Option Submission)) (fun x => .bytes (slice x.item 0 64)) : State)).queue 0x50).items.head?).get
     (by decide +kernel)), _, rfl, ?_, ?_, ?_, ?_, ?_, ?_, ?_, ?_, rfl, ?_, ?_, ?_⟩ <;> decide +kernel,
   by refine ⟨(asked keyed 0x50 (job 64 5 [(2, 1, 10)]) : State), (none : Option Submission), _, p_bytes (((((((asked keyed 0x50 (job 64 5 [(2, 1,
     10)]) : State)).submitted 0x50 ((none : Option Submission)) (fun x => .bytes (slice x.item 0 64)) : State)).queue 0x50).items.head?).get
     (by decide +kernel)), _, rfl, ?_, ?_, ?_, ?_, ?_, ?_, ?_, ?_, rfl, ?_, ?_, ?_, ?_, ?_⟩ <;> decide +kernel,
   by refine ⟨(asked keyed 0x50 (job 64 6 [(2, 1, 9)]) : State), (none : Option Submission), _, p_bytes (((((((asked keyed 0x50 (job 64 6 [(2, 1,
     9)]) : State)).submitted 0x50 ((none : Option Submission)) (fun x => .bytes (slice x.item 0 64)) : State)).queue 0x50).items.head?).get
     (by decide +kernel)), _, rfl, ?_, ?_, ?_, ?_, ?_, ?_, ?_, ?_, rfl, ?_, ?_, ?_, ?_⟩ <;> decide +kernel,
   by refine ⟨(asked keyed 0x50 (job 64 7 [(2, 1, 0)]) : State), (none : Option Submission), _, p_bytes (((((((asked keyed 0x50 (job 64 7 [(2, 1,
     0)]) : State)).submitted 0x50 ((none : Option Submission)) (fun x => .bytes (slice x.item 0 64)) : State)).queue 0x50).items.head?).get
     (by decide +kernel)), _, ((((((asked keyed 0x50 (job 64 7 [(2, 1, 0)]) : State)).submitted 0x50 ((none : Option Submission)) (fun x => .bytes
     (slice x.item 0 64)) : State)).popped 0x50).drawBytes 57).1, ((((((asked keyed 0x50 (job 64 7 [(2, 1, 0)]) : State)).submitted 0x50 ((none :
     Option Submission)) (fun x => .bytes (slice x.item 0 64)) : State)).popped 0x50).drawBytes 57).2, rfl, ?_, ?_, ?_, ?_, ?_, ?_, ?_, ?_, rfl, ?_,
     ?_, pair_eq _⟩ <;> decide +kernel,
   by refine ⟨(asked keyed 0x50 (job 64 7 [(4, 1, 1)]) : State), (none : Option Submission), _, p_bytes (((((((asked keyed 0x50 (job 64 7 [(4, 1,
     1)]) : State)).submitted 0x50 ((none : Option Submission)) (fun x => .bytes (slice x.item 0 64)) : State)).queue 0x50).items.head?).get
     (by decide +kernel)), _, ((((((asked keyed 0x50 (job 64 7 [(4, 1, 1)]) : State)).submitted 0x50 ((none : Option Submission)) (fun x => .bytes
     (slice x.item 0 64)) : State)).popped 0x50).drawBytes 56).1, ((((((asked keyed 0x50 (job 64 7 [(4, 1, 1)]) : State)).submitted 0x50 ((none :
     Option Submission)) (fun x => .bytes (slice x.item 0 64)) : State)).popped 0x50).drawBytes 56).2, rfl, ?_, ?_, ?_, ?_, ?_, ?_, ?_, ?_, rfl, ?_,
     ?_, pair_eq _⟩ <;> decide +kernel⟩

/-- Each clause of TamperCommandsComplete is met. -/
theorem witness_TamperCommandsComplete :
    (∃ (s : State), s.domOn .fabric = true ∧ s.flag Reg.TRNG_CTRL_ENABLE = true ∧ s.getF Reg.TRNG_STAT_STATE = 1) ∧
    (∃ (s : State) (b : Bool) (x : State) (l : List Nat), s.domOn .fabric = true ∧ s.flag Reg.TRNG_CTRL_ENABLE = true ∧ (s.getF Reg.TRNG_STAT_STATE
      = 1 ∨ s.getF Reg.TRNG_STAT_STATE = 2) ∧ (x = (s.count (if b then Reg.TRNG_APT_FAIL_CNT_CNT else Reg.TRNG_RCT_FAIL_CNT_CNT)).irq
      Reg.TRNG_IRQ_HEALTH_FAIL) ∧ (l = x.tb1 :: x.sec.trngFails.filter (fun t => decide (x.tb1 ≤ t + 3600 * nsPerS))) ∧ l.length < 3) ∧
    (∃ (s : State) (req : Req) (w : Word) (t : State), req ≠ .debug ∧ s.refusal req 0x0B 0x100 .b4 false = none ∧ (s.answer 0).trngOk = true ∧
      (s.answer 0).drawWord = (w, t)) ∧
    (∃ (s : State), s.refusal .debug 0x0B 0x100 .b4 false = none) ∧
    (∃ (s : State) (n : Fin 8), 5 ≤ n.val ∧ s.power.main = true ∧ (n.val ≠ 5 ∨ s.flag Reg.PWR_STAT_LAST_GASP = false)) ∧
    (∃ (s : State), s.flag Reg.TAMP_MESH_CFG_EN = true) ∧
    (∃ (s : State) (n : Fin 8), n.val < 4 ∧ s.inputMasked n.val = false ∧ s.flag (condField Reg.AON_COND_STAT_LEVEL n.val) = false) ∧
    (∃ (s : State) (w : Word) (t : State), s.flag Reg.TAMP_MESH_CFG_EN = true ∧ s.sec.meshAt + 2 ^ s.getF Reg.TAMP_MESH_CFG_RATE ≤ s.time.slow ∧
      s.drawWord = (w, t)) ∧
    (∃ (s : State) (w : Word) (t : State), s.flag Reg.TAMP_MESH_CFG_EN = true ∧ s.sec.meshAt + 2 ^ s.getF Reg.TAMP_MESH_CFG_RATE ≤ s.time.slow ∧
      s.drawWord = (w, t) ∧ s.sec.meshBad = 1) ∧
    (∃ (s : State) (req : Req), TakesA s req Reg.TAMP_CTRL_VKR_CLEAR 2) ∧
    (∃ (s : State) (req : Req), TakesA s req Reg.TAMP_CTRL_ARMED 1) ∧
    (∃ (s : State) (req : Req), TakesA s req Reg.TAMP_RELEASE_GO (2 ^ 31) ∧ (plainly s req Reg.TAMP_RELEASE_GO (2 ^ 31)).flag Reg.TAMP_STAT_LOCKDOWN
      = true) :=
  ⟨by refine ⟨((up.setF Reg.TRNG_CTRL_ENABLE 1).setF Reg.TRNG_STAT_STATE 1 : State), ?_, ?_, ?_⟩ <;> decide +kernel,
   by refine ⟨((up.setF Reg.TRNG_CTRL_ENABLE 1).setF Reg.TRNG_STAT_STATE 2 : State), (true : Bool), _, _, ?_, ?_, ?_, rfl, rfl,
     ?_⟩ <;> decide +kernel,
   by refine ⟨serving, (.trusted : Req), (((serving).answer 0).drawWord).1, (((serving).answer 0).drawWord).2, ?_, ?_, ?_, rfl⟩ <;> decide +kernel,
   ⟨upDbg, by decide +kernel⟩,
   by refine ⟨({ up with power := { main := true } } : State), (5 : Fin 8), ?_, ?_, ?_⟩ <;> decide +kernel,
   ⟨(up.setF Reg.TAMP_MESH_CFG_EN 1 : State), by decide +kernel⟩,
   by refine ⟨up, (0 : Fin 8), ?_, ?_, ?_⟩ <;> decide +kernel,
   by refine ⟨({ up.setF Reg.TAMP_MESH_CFG_EN 1 with time := { slow := 99000000000 } } : State),
     ((({ up.setF Reg.TAMP_MESH_CFG_EN 1 with time := { slow := 99000000000 } } : State)).drawWord).1,
     ((({ up.setF Reg.TAMP_MESH_CFG_EN 1 with time := { slow := 99000000000 } } : State)).drawWord).2, ?_, ?_, rfl⟩ <;> decide +kernel,
   by refine ⟨({ up.setF Reg.TAMP_MESH_CFG_EN 1 with time := { slow := 99000000000 }, sec := { meshBad := 1 } } : State),
     ((({ up.setF Reg.TAMP_MESH_CFG_EN 1 with time := { slow := 99000000000 }, sec := { meshBad := 1 } } : State)).drawWord).1,
     ((({ up.setF Reg.TAMP_MESH_CFG_EN 1 with time := { slow := 99000000000 }, sec := { meshBad := 1 } } : State)).drawWord).2, ?_, ?_, rfl,
     ?_⟩ <;> decide +kernel,
   ⟨up, (.trusted : Req), by decide +kernel⟩,
   ⟨up, (.trusted : Req), by decide +kernel⟩,
   by refine ⟨(up.setF Reg.TAMP_STAT_LOCKDOWN 1 : State), (.trusted : Req), ?_, ?_⟩ <;> decide +kernel⟩

/-- Each clause of PowerCommandsComplete is met. -/
theorem witness_PowerCommandsComplete :
    (∃ (s : State) (req : Req) (data : Word), TakesF s req Reg.PWR_MODE_REQ_MODE ∧ (s.answer 0).modeRefusal (data.toNat % 8) = 0) ∧
    (∃ (s : State) (i : Fin 2), s.inputMasked (4 + i.val) = false ∧ s.flag (condField Reg.AON_COND_STAT_LEVEL (4 + i.val)) = false ∧ s.power.main =
      true) ∧
    (∃ (s : State) (b : BootInput), (s.startingUp = true ∨ s.power.main = false)) ∧
    (∃ (s : State), s.mode = .degraded ∧ s.degCause &&& s.getF Reg.PWR_DEG_MASK_MASK = 0) ∧
    (∃ (s : State) (pll : Fin 7), s.mode.runs = true ∧ s.startingUp = false ∧ bitAt (s.getF Reg.CLK_PLL_LOCK_LOCK) pll.val = 1) ∧
    (∃ (s : State), s.flag Reg.CLK_STAT_REF10_OK = true) ∧
    (∃ (s : State), s.flag Reg.CLK_STAT_REF10_OK = false) ∧
    (∃ (s : State) (req : Req) (data : Word), TakesF s req Reg.SYS_SW_RESET_GO ∧ bitsOf data.toNat 15 8 = 0xA5 ∧ bitAt data.toNat 0 = 1 ∧ (s.answer
      0).mode.runs = true ∧ (s.answer 0).startingUp = false) ∧
    (∃ (s : State) (b : Bool), (b = true ∨ s.inputMasked 6 = false)) ∧
    (∃ (s : State) (t : Nat), s.power.lgEnd = some t ∧ s.power.main = true ∧ (s.flag Reg.PWR_STAT_PFW = false ∨ s.inputMasked 6 = true) ∧ t + s.getF
      Reg.PWR_LG_CFG_RECOVER_MS * 1000000 ≤ s.tb1) ∧
    (∃ (s : State) (i : Fin 8) (b : Bool), s.conditioned i.val = true) ∧
    (∃ (s : State) (i : Fin 8), s.conditioned i.val = true ∧ s.flag (condField Reg.AON_COND_STAT_LEVEL i.val) = true ∧ s.flag (condField
      Reg.AON_COND_STAT_STUCK_MASK i.val) = false ∧ (s.input i.val).since + s.getF (condField Reg.AON_COND_CFG_STUCK_S i.val) * 32768 ≤ s.time.slow) ∧
    (∃ (s : State) (i : Fin 8), s.flag (condField Reg.AON_COND_STAT_CHATTER_MASK i.val) = true ∧ (s.input i.val).chatterUntil ≤ s.time.slow) ∧
    (∃ (s : State) (t : State), s.power.lgEnd.isSome = true ∧ s.power.main = true ∧ t = (((s.toMode .backup).takeEvents).powerDown false).forgetTb1) :=
  ⟨by refine ⟨up, (.trusted : Req), (1 : Word), ?_, ?_⟩ <;> decide +kernel,
   by refine ⟨({ up with power := { main := true } } : State), (0 : Fin 2), ?_, ?_, ?_⟩ <;> decide +kernel,
   ⟨State.reset, (blank : BootInput), by decide +kernel⟩,
   by refine ⟨(upIn 6 : State), ?_, ?_⟩ <;> decide +kernel,
   by refine ⟨(up.setF Reg.CLK_PLL_LOCK_LOCK 127 : State), (2 : Fin 7), ?_, ?_, ?_⟩ <;> decide +kernel,
   ⟨(up.setF Reg.CLK_STAT_REF10_OK 1 : State), by decide +kernel⟩,
   ⟨(up.setF Reg.CLK_STAT_REF10_OK 0 : State), by decide +kernel⟩,
   by refine ⟨up, (.trusted : Req), (0xA501 : Word), ?_, ?_, ?_, ?_, ?_⟩ <;> decide +kernel,
   ⟨up, (true : Bool), by decide +kernel⟩,
   by refine ⟨({ up with tb1 := 99000000000000, power := { main := true, lgEnd := some 0 } } : State), (0 : Nat), ?_, ?_, ?_, ?_⟩ <;> decide +kernel,
   ⟨up, (1 : Fin 8), (true : Bool), by decide +kernel⟩,
   by refine ⟨({ up.setF (condField Reg.AON_COND_STAT_LEVEL 1) 1 with time := { slow := 9900000000 } } : State), (1 : Fin 8), ?_, ?_, ?_,
     ?_⟩ <;> decide +kernel,
   by refine ⟨(up.setF (condField Reg.AON_COND_STAT_CHATTER_MASK 1) 1 : State), (1 : Fin 8), ?_, ?_⟩ <;> decide +kernel,
   by refine ⟨({ up with power := { lgEnd := some 0 } } : State), _, ?_, ?_, rfl⟩ <;> decide +kernel⟩

/-- Each clause of LifeCycleCommandsComplete is met. -/
theorem witness_LifeCycleCommandsComplete :
    (∃ (s : State) (req : Req) (d : Bytes) (t : State), TakesF s req Reg.LCS_CHAL_REQ_GO ∧ (s.answer 0).trngOk = true ∧ (s.answer 0).drawBytes 32 =
      (d, t)) ∧
    (∃ (s : State) (t : Nat), s.sec.chalAt = some t ∧ t + chalLife ≤ s.tb1) ∧
    (∃ (s : State) (req : Req) (t : State), TakesF s req Reg.LCS_CMD_GO ∧ t = (s.answer 0).setF Reg.LCS_CMD_OP 1 ∧ t.lcRefusal req 1 = 0) ∧
    (∃ (s : State) (req : Req) (t : State), TakesF s req Reg.LCS_CMD_GO ∧ t = (s.answer 0).setF Reg.LCS_CMD_OP 2 ∧ t.lcRefusal req 2 = 0) ∧
    (∃ (s : State) (req : Req) (t : State), TakesF s req Reg.LCS_CMD_GO ∧ t = (s.answer 0).setF Reg.LCS_CMD_OP 3 ∧ t.lcRefusal req 3 = 0) ∧
    (∃ (s : State) (req : Req) (t : State), TakesF s req Reg.LCS_CMD_GO ∧ t = (s.answer 0).setF Reg.LCS_CMD_OP 4 ∧ t.lcRefusal req 4 = 0) ∧
    (∃ (s : State) (req : Req) (t : State), TakesF s req Reg.LCS_CMD_GO ∧ t = (s.answer 0).setF Reg.LCS_CMD_OP 5 ∧ t.lcRefusal req 5 = 0) ∧
    (∃ (s : State) (req : Req) (t : State), TakesF s req Reg.LCS_CMD_GO ∧ t = (s.answer 0).setF Reg.LCS_CMD_OP 6 ∧ t.lcRefusal req 6 = 0) :=
  ⟨by refine ⟨serving, (.trusted : Req), (((serving).answer 0).drawBytes 32).1, (((serving).answer 0).drawBytes 32).2, ?_, ?_,
     rfl⟩ <;> decide +kernel,
   by refine ⟨({ up with tb1 := 99000000000000, sec := { chalAt := some 0 } } : State), (0 : Nat), ?_, ?_⟩ <;> decide +kernel,
   by refine ⟨(up.setF Reg.LCS_STAT_DBG_STATE 1 : State), (.trusted : Req), _, ?_, rfl, ?_⟩ <;> decide +kernel,
   by refine ⟨({ up.setF Reg.LCS_STAT_LC 1 with sec := { cert := true } } : State), (.trusted : Req), _, ?_, rfl, ?_⟩ <;> decide +kernel,
   by refine ⟨(up.setF Reg.LCS_STAT_LC 1 : State), (.trusted : Req), _, ?_, rfl, ?_⟩ <;> decide +kernel,
   by refine ⟨(up.setF Reg.LCS_STAT_LC 1 : State), (.trusted : Req), _, ?_, rfl, ?_⟩ <;> decide +kernel,
   by refine
     ⟨({ sets up [(Reg.LCS_STAT_LC, 0), (Reg.LCS_STAT_ENROLLED, 1)] with sec := { otp := { ownerKey := [0], ownerDebug := [0], releaseKey := [0], pcieIds := some (1, 2, 3) } } }
     : State), (.trusted : Req), _, ?_, rfl, ?_⟩ <;> decide +kernel,
   by refine ⟨up, (.trusted : Req), _, ?_, rfl, ?_⟩ <;> decide +kernel⟩

/-- Each clause of UpdateCommandsComplete is met. -/
theorem witness_UpdateCommandsComplete :
    (∃ (s : State) (sub : Option Submission) (u : State) (b : Bytes) (n : Nat), (u = s.submitted 0x68 sub (fun x => .bytes (slice x.item 0 528))) ∧
      u.domOn .fabric = true ∧ u.flag Reg.UPD_CTRL_ENABLE = true ∧ u.upd.waiting.length < (u.queue 0x69).credits ∧ (u.queue 0x68).items.head? = some
      ⟨.bytes b, n⟩) ∧
    (∃ (s : State) (sub : Option Submission) (u : State) (t : State) (v : State) (b : Bytes), u = s.submitted 0x68 sub (fun x => .bytes (slice
      x.item 0 528)) ∧ u.domOn .fabric = true ∧ u.flag Reg.UPD_CTRL_ENABLE = true ∧ u.upd.waiting.length < (u.queue 0x69).credits ∧ (u.queue
      0x68).items.head? = some ⟨.bytes b, 0⟩ ∧ t = u.popped 0x68 ∧ leAt b 0 4 = 0 ∧ t.upd.state = 0 ∧ t.manifestFits (slice b 16 512) = true ∧
      t.secverFits (slice b 16 512) = true ∧ t.stageFits (slice b 16 512) = true ∧ v =
      { t with upd := { t.upd with state := 1, manifest := slice b 16 512, bitmap := [], waiting := [] } }) ∧
    (∃ (s : State) (sub : Option Submission) (u : State) (t : State) (b : Bytes) (i : Nat) (h : Nat), u = s.submitted 0x68 sub (fun x => .bytes
      (slice x.item 0 528)) ∧ u.domOn .fabric = true ∧ u.flag Reg.UPD_CTRL_ENABLE = true ∧ u.upd.waiting.length < (u.queue 0x69).credits ∧ (u.queue
      0x68).items.head? = some ⟨.bytes b, 0⟩ ∧ t = u.popped 0x68 ∧ i = leAt b 0 4 ∧ i ≠ 0 ∧ t.upd.state ≠ 0 ∧ leAt b 4 4 = manBuild t.upd.manifest %
      2 ^ 32 ∧ i < t.upd.total ∧ t.upd.has i = false ∧ h = manH t.upd.manifest ∧ (i ≤ h ∨ (t.upd.state ≠ 1 ∧ leafHash (i - h - 1) (slice b 16 512) =
      t.storedLeaf (i - h - 1)))) ∧
    (∃ (s : State) (n : Nat) (l : List StagedPiece) (t : State) (v : State), ((s.upd.waiting.map (fun p => p.index / s.perPage)).find? s.pageDue =
      some n) ∧ (l = s.upd.waiting.filter (fun p => p.index / s.perPage == n)) ∧ s.volWrite 6 n (s.pageWith n l) = some t ∧ v = t.recordPieces n l) ∧
    (∃ (s : State) (req : Req) (p : Nat) (t : State), TakesF s req Reg.UPD_CTRL_INSTALL ∧ p = manPart s.upd.manifest ∧ s.upd.state = 3 ∧ (s.upd.part
      p).unconf = false ∧ (s.answer 0).writeRegion p (1 - (s.upd.part p).copy) (s.answer 0).stagedImage = some t) ∧
    (∃ (s : State) (req : Req), TakesF s req Reg.UPD_CTRL_ABORT ∧ s.upd.state ≠ 0) ∧
    (∃ (s : State) (a : Activation) (t : State), s.upd.act = some a ∧ t = (({ s with upd := { s.upd with act := none } } : State).partRuns
      a.part).setF Reg.UPD_ACT_LAST_MS_MS (min 65535 ((s.tb1 - a.since) / 1000000)) ∧ a.fallback = false ∧ (t.irq Reg.UPD_IRQ_ACTIVATED).mode =
      .activate) ∧
    (∃ (s : State) (req : Req) (data : Word), TakesF s req Reg.UPD_CONFIRM_KEY ∧ bitsOf data.toNat 15 8 = 0xC9 ∧ (req = .app ∨ req = .trusted) ∧
      ((s.answer 0).upd.part (data.toNat % 8)).unconf = true) ∧
    (∃ (s : State) (req : Req) (data : Word), TakesF s req Reg.UPD_FALLBACK_REQ_KEY ∧ bitsOf data.toNat 15 8 = 0xC9 ∧ ((s.answer 0).upd.part
      (data.toNat % 8)).unconf = true ∧ (s.answer 0).upd.act = none ∧ (s.answer 0).mode.runs = true) ∧
    (∃ (s : State) (p : Fin 3), (s.upd.part p.val).unconf = true ∧ (s.upd.part p.val).due = false ∧ (s.upd.part p.val).windowEnd ≤ s.opTime + 3600) ∧
    (∃ (s : State) (p : Fin 3), (s.upd.part p.val).unconf = true ∧ (s.upd.part p.val).windowEnd ≤ s.opTime ∧ s.upd.act = none ∧ s.mode.runs = true ∧
      s.startingUp = false) ∧
    (∃ (s : State) (m : Bytes), s.flag Reg.TWIN_CTRL_ENABLE = true ∧ s.tongsUp = true ∧ s.pairKey.isSome = true) :=
  ⟨by refine ⟨((up.setF Reg.UPD_CTRL_ENABLE 1).enq 0x68 { body := .bytes [] } : State), (none : Option Submission), _, ([] : Bytes), ((((((((up.setF
     Reg.UPD_CTRL_ENABLE 1).enq 0x68 { body := .bytes [] } : State)).submitted 0x68 ((none : Option Submission)) (fun x => .bytes (slice x.item 0
     528)) : State)).queue 0x68).items.head?).get (by decide +kernel)).poison, rfl, ?_, ?_, ?_, ?_⟩ <;> decide +kernel,
   by refine ⟨(asked updatable 0x68 (job 528 0 neutralManifest) : State), (none : Option Submission), _, _, _, p_bytes (((((((asked updatable 0x68
     (job 528 0 neutralManifest) : State)).submitted 0x68 ((none : Option Submission)) (fun x => .bytes (slice x.item 0 528)) : State)).queue
     0x68).items.head?).get (by decide +kernel)), rfl, ?_, ?_, ?_, ?_, rfl, ?_, ?_, ?_, ?_, ?_, rfl⟩ <;> decide +kernel,
   by refine ⟨(asked { updatable with upd := { state := 1, manifest := job 512 0 [(16, 4, 16)] } } 0x68 (job 528 1 []) : State), (none : Option
     Submission), _, _, p_bytes (((((((asked { updatable with upd := { state := 1, manifest := job 512 0 [(16, 4, 16)] } } 0x68 (job 528 1 []) :
     State)).submitted 0x68 ((none : Option Submission)) (fun x => .bytes (slice x.item 0 528)) : State)).queue 0x68).items.head?).get
     (by decide +kernel)), _, _, rfl, ?_, ?_, ?_, ?_, rfl, rfl, ?_, ?_, ?_, ?_, ?_, rfl, ?_⟩ <;> decide +kernel,
   pageWrite_input,
   install_input,
   by refine ⟨({ up with upd := { state := 1 } } : State), (.trusted : Req), ?_, ?_⟩ <;> decide +kernel,
   by refine ⟨({ upIn 5 with upd := { act := some { part := 1, since := 0, back := 4 } } } : State), ({ part := 1, since := 0, back := 4 } :
     Activation), _, ?_, rfl, ?_, ?_⟩ <;> decide +kernel,
   by refine ⟨(up.setPart 0 { unconf := true } : State), (.trusted : Req), (0xC900 : Word), ?_, ?_, ?_, ?_⟩ <;> decide +kernel,
   by refine ⟨(up.setPart 0 { unconf := true } : State), (.trusted : Req), (0xC900 : Word), ?_, ?_, ?_, ?_, ?_⟩ <;> decide +kernel,
   by refine ⟨(up.setPart 0 { unconf := true } : State), (0 : Fin 3), ?_, ?_, ?_⟩ <;> decide +kernel,
   by refine ⟨(up.setPart 0 { unconf := true } : State), (0 : Fin 3), ?_, ?_, ?_, ?_, ?_⟩ <;> decide +kernel,
   by refine ⟨active, ([] : Bytes), ?_, ?_, ?_⟩ <;> decide +kernel⟩

/-- Each clause of EventRecorderCommandsComplete is met. -/
theorem witness_EventRecorderCommandsComplete :
    (∃ (s : State) (parity : Nat), (s.queue 0x30).items.isEmpty = false) ∧
    (∃ (s : State) (code : Nat) (n : Nat) (opt : Nat) (rest : List (Nat × Nat × Nat)) (t : State), s.evr.coalesced = (code, n, opt) :: rest ∧
      s.refilled.token2 = some t) ∧
    (∃ (s : State) (x : Nat) (r : Bytes) (l : List (Nat × Bytes)), s.evr.staged = (x, r) :: l ∧ s.domOn .aon = true ∧ s.flag Reg.EVR_STAT_FALLBACK =
      false ∧ s.evr.erases = []) ∧
    (∃ (s : State) (x : Nat) (r : Bytes) (l : List (Nat × Bytes)), s.evr.staged = (x, r) :: l ∧ s.domOn .aon = true ∧ s.flag Reg.EVR_STAT_FALLBACK =
      true) ∧
    (∃ (s : State) (n : Nat) (l : List Nat), s.evr.erases ++ s.evr.clears = n :: l ∧ s.domOn .aon = true ∧ s.flag Reg.EVR_STAT_FALLBACK = false) ∧
    (∃ (s : State), s.domOn .aon = true ∧ s.evr.savedAt + 900 ≤ s.opTime) ∧
    (∃ (s : State) (req : Req) (data : Word), TakesA s req Reg.EVR_SW_CODE_GO data.toNat ∧ bitAt data.toNat 31 = 1 ∧ 16 ≤ (plainly s req
      Reg.EVR_SW_CODE_GO data.toNat).getF Reg.EVR_SW_CODE_CODE / 256 ∧ (plainly s req Reg.EVR_SW_CODE_GO data.toNat).getF Reg.EVR_SW_CODE_CODE / 256
      ≤ 31) ∧
    (∃ (s : State) (req : Req) (b : Bytes), TakesF s req Reg.EVR_RD_CTRL_GO ∧ (s.answer 0).readRecord ((s.answer 0).getF
      (Reg.EVR_RD_RSEQ_RSEQ.bankOf req.code)) = (0, b)) ∧
    (∃ (s : State) (req : Req), TakesF s req Reg.EVR_CTRL_CLEAR ∧ s.evr.clears = []) ∧
    (∃ (s : State) (cause : BitVec 3) (addr : BitVec 24), s.domOn .aon = true ∧ s.flag Reg.EVR_STAT_FALLBACK = false ∧ (cause = 2 ∨ cause = 5)) ∧
    (∃ (s : State) (cause : BitVec 3) (addr : BitVec 24), s.domOn .aon = true ∧ s.flag Reg.EVR_STAT_FALLBACK = false ∧ (cause = 1 ∨ cause = 3) ∧
      s.evr.staged.isEmpty = false) ∧
    (∃ (s : State) (addr : BitVec 24) (n : Nat) (l : List Nat), s.domOn .aon = true ∧ s.flag Reg.EVR_STAT_FALLBACK = false ∧ s.evr.erases ++
      s.evr.clears = n :: l) ∧
    (∃ (s : State) (req : Req) (answer : Option (BitVec 24)), TakesF s req Reg.EVR_CTRL_NOR_RETRY) :=
  ⟨⟨(up.event .oscStopped 0x04 : State), (0 : Nat), by decide +kernel⟩,
   by refine ⟨({ up with evr := { coalesced := [(0, 0, 0)] } } : State), (0 : Nat), (0 : Nat), (0 : Nat), ([] : List (Nat × Nat × Nat)),
     (((({ up with evr := { coalesced := [(0, 0, 0)] } } : State)).refilled.token2).get (by decide +kernel)), ?_, ?_⟩ <;> decide +kernel,
   by refine ⟨({ up with evr := { staged := [(0, [])] } } : State), (0 : Nat), ([] : Bytes), ([] : List (Nat × Bytes)), ?_, ?_, ?_,
     ?_⟩ <;> decide +kernel,
   by refine ⟨({ up.setF Reg.EVR_STAT_FALLBACK 1 with evr := { staged := [(0, [])] } } : State), (0 : Nat), ([] : Bytes), ([] : List (Nat × Bytes)),
     ?_, ?_, ?_⟩ <;> decide +kernel,
   by refine ⟨({ up with evr := { erases := [1] } } : State), (1 : Nat), ([] : List Nat), ?_, ?_, ?_⟩ <;> decide +kernel,
   by refine ⟨({ up with evr := { optBase := 10 ^ 15 } } : State), ?_, ?_⟩ <;> decide +kernel,
   by refine ⟨up, (.trusted : Req), (0x80001000 : Word), ?_, ?_, ?_, ?_⟩ <;> decide +kernel,
   by refine ⟨({ up with evr := { rseq := 1, nor := [(norSlot 0, leBytes 124 0 ++ leBytes 4 (crc32c (leBytes 124 0)))] } } : State), (.trusted :
     Req), (((({ up with evr := { rseq := 1, nor := [(norSlot 0, leBytes 124 0 ++ leBytes 4 (crc32c (leBytes 124 0)))] } } : State)).answer
     0).readRecord (((({ up with evr := { rseq := 1, nor := [(norSlot 0, leBytes 124 0 ++ leBytes 4 (crc32c (leBytes 124 0)))] } } : State)).answer
     0).getF (Reg.EVR_RD_RSEQ_RSEQ.bankOf ((.trusted : Req)).code))).2, ?_, ?_⟩ <;> decide +kernel,
   by refine ⟨up, (.trusted : Req), ?_, ?_⟩ <;> decide +kernel,
   by refine ⟨up, (2 : BitVec 3), (9 : BitVec 24), ?_, ?_, ?_⟩ <;> decide +kernel,
   by refine ⟨({ up with evr := { staged := [(0, [])] } } : State), (1 : BitVec 3), (9 : BitVec 24), ?_, ?_, ?_, ?_⟩ <;> decide +kernel,
   by refine ⟨({ up with evr := { erases := [1] } } : State), (9 : BitVec 24), (1 : Nat), ([] : List Nat), ?_, ?_, ?_⟩ <;> decide +kernel,
   ⟨up, (.trusted : Req), (none : Option (BitVec 24)), by decide +kernel⟩⟩

end Sys2Proof.Tests
end

section
/-! SUPPORT. The little-endian form of a value (R6): its bytes, and what memory holds once they are written. -/

namespace Sys2Proof.Machine

@[simp] theorem leBytes_length (n v : Nat) : (leBytes n v).length = n := by
  induction n generalizing v with
  | zero => rfl
  | succ n ih => rw [leBytes, List.length_cons, ih]

/-- R6: byte i of a value is the one of weight 2^(8i). -/
theorem leBytes_getElem_toNat (n v i : Nat) (h : i < (leBytes n v).length) : (leBytes n v)[i].toNat = v / 2 ^ (8 * i) % 256 := by
  induction n generalizing v i with
  | zero => exact absurd h (Nat.not_lt_zero i)
  | succ n ih =>
    cases i with
    | zero => simp [leBytes]
    | succ i =>
      simp only [leBytes, List.getElem_cons_succ]
      rw [ih, Nat.div_div_eq_div_mul, show 8 * (i + 1) = 8 + 8 * i by omega, Nat.pow_add]

/-- R6: n bytes of a value hold its 8n low bits. -/
theorem leNat_leBytes (n v : Nat) : leNat (leBytes n v) = v % 2 ^ (8 * n) := by
  induction n generalizing v with
  | zero => simp [leBytes, leNat, Nat.mod_one]
  | succ n ih =>
    rw [leBytes, leNat, ih, BitVec.toNat_ofNat, show 8 * (n + 1) = 8 + 8 * n by omega, Nat.pow_add, Nat.mod_mul]

/-- R22: a write makes no word uncorrectable where none was. -/
theorem State.write_bad_of_nil {s : State} (a : Nat) (bs : Bytes) (h : s.bad = []) : (s.write a bs).bad = [] := by
  simp [State.write, clearCovered, h]

/-- R22: a byte of a write does not land where its word is uncorrectable and covered in part. -/
theorem lands_eq_false_iff (bad : List (Nat × Bool)) (a n c : Nat) :
    lands bad a n c = false ↔
      sget false bad (c / wordSize a * wordSize a) = true ∧ covers a n (c / wordSize a * wordSize a) = false := by
  simp only [lands, Bool.or_eq_false_iff, Bool.not_eq_false']

theorem State.byte_writeNat_outside (s : State) (a n v : Nat) {c : Nat} (h : c < a ∨ a + n ≤ c) :
    (s.writeNat a n v).byte c = s.byte c :=
  s.byte_write_outside a _ (by rwa [leBytes_length])

/-- R6, R22: byte i of the value stands at the address plus i where it lands; elsewhere the byte stays as it was. -/
theorem State.byte_writeNat_at (s : State) (a n v i : Nat) (h : i < n) :
    ((s.writeNat a n v).byte (a + i)).toNat =
      if lands s.bad a n (a + i) = false then (s.byte (a + i)).toNat else v / 2 ^ (8 * i) % 256 := by
  have hi : i < (leBytes n v).length := by rwa [leBytes_length]
  rw [State.writeNat, s.byte_write_at a _ i hi, leBytes_length]
  cases lands s.bad a n (a + i) with
  | false => rfl
  | true => exact leBytes_getElem_toNat n v i hi

/-- R6: where no word is uncorrectable, a value reads back as its 8n low bits. -/
theorem State.readNat_writeNat {s : State} (a n v : Nat) (h : s.bad = []) : (s.writeNat a n v).readNat a n = v % 2 ^ (8 * n) := by
  have hread : (s.writeNat a n v).read a n = leBytes n v := by
    have := s.read_write a (leBytes n v) (fun i _ => by rw [h]; exact lands_clean ..)
    rwa [leBytes_length] at this
  rw [State.readNat, hread, leNat_leBytes]

/-- Settles O16: the bytes that land are those of the little-endian form (R6), by induction on their number; which of them land is R22's
rule for a word covered in part (log entry 28). -/
theorem aMultiByteValueIsLittleEndian : Obligations.AMultiByteValueIsLittleEndian := by
  unfold Obligations.AMultiByteValueIsLittleEndian
  refine ⟨fun s a n v h => ⟨State.readNat_writeNat a n v h, State.write_bad_of_nil a _ h⟩, fun s a n v i hi => ?_,
    fun s a n v b hb => s.byte_writeNat_outside a n v hb, fun _ _ _ _ => rfl⟩
  simpa only [lands_eq_false_iff] using s.byte_writeNat_at a n v i hi

end Sys2Proof.Machine
end

section
/-! SUPPORT. The invariant of the block: every command, and so every step, keeps it. -/

namespace Sys2Proof.Machine

/-- R15, R26, R35, R38: every command of the table answers a tidy state from a tidy one, by its own lemma under Laws. -/
theorem exec_tidy {q : List Instr} {s : State} (c : Instr) (h : Tidy q s) : TidyO q (exec c s) :=
  match c with
  | .registerWrite .. => execRegisterWrite_tidy h
  | .rcRead .. => execRcRead_tidy h
  | .blkPrivWrite .. => execBlkPrivWrite_tidy h
  | .softReset .. => execSoftReset_tidy h
  | .irqClear .. => execIrqClear_tidy h
  | .irqSet .. => execIrqSet_tidy h
  | .errClear .. => execErrClear_tidy h
  | .watermarkWrite .. => execWatermarkWrite_tidy h
  | .domainStart .. => execDomainStart_tidy h
  | .domainIdleStop .. => execDomainIdleStop_tidy h
  | .qmonCreditCheck .. => execQmonCreditCheck_tidy h
  | .qprivPtrFault .. => execQprivPtrFault_tidy h
  | .queueFlush .. => execQueueFlush_tidy h
  | .flushDiscardEnd .. => execFlushDiscardEnd_tidy h
  | .txnBegin .. => execTxnBegin_tidy h
  | .txnSelWrite .. => execTxnSelWrite_tidy h
  | .txnStagedWrite .. => execTxnStagedWrite_tidy h
  | .txnOneWrite .. => execTxnOneWrite_tidy h
  | .txnCommitNow .. => execTxnCommitNow_tidy h
  | .txnCommitAtTime .. => execTxnCommitAtTime_tidy h
  | .txnCommitAtInterval .. => execTxnCommitAtInterval_tidy h
  | .txnCommitAtBeacon .. => execTxnCommitAtBeacon_tidy h
  | .txnCommitAtCycle .. => execTxnCommitAtCycle_tidy h
  | .txnAbort .. => execTxnAbort_tidy h
  | .txnTimeout .. => execTxnTimeout_tidy h
  | .txnTrigger .. => execTxnTrigger_tidy h
  | .txnSwitched .. => execTxnSwitched_tidy h
  | .sFieldWrite .. => execSFieldWrite_tidy h
  | .shadowArm .. => execShadowArm_tidy h
  | .parseFrame .. => execParseFrame_tidy h
  | .dirLookup .. => execDirLookup_tidy h
  | .overflowSearch => execOverflowSearch_tidy h
  | .funnelOrder .. => execFunnelOrder_tidy h
  | .orderBaseLoad .. => execOrderBaseLoad_tidy h
  | .recordPrefetch .. => execRecordPrefetch_tidy h
  | .cleaverDecrypt .. => execCleaverDecrypt_tidy h
  | .tagVerdict .. => execTagVerdict_tidy h
  | .frameRerun .. => execFrameRerun_tidy h
  | .laneFrameStart .. => execLaneFrameStart_tidy h
  | .plaintextWordArrive .. => execPlaintextWordArrive_tidy h
  | .laneRv32Instruction .. => execLaneRv32Instruction_tidy h
  | .svAxlen .. => execSvAxlen_tidy h
  | .svTariff .. => execSvTariff_tidy h
  | .svCdate .. => execSvCdate_tidy h
  | .svEevt .. => execSvEevt_tidy h
  | .svVerd .. => execSvVerd_tidy h
  | .svLdbeH .. => execSvLdbeH_tidy h
  | .svLdbeW .. => execSvLdbeW_tidy h
  | .svEwr .. => execSvEwr_tidy h
  | .svEadd .. => execSvEadd_tidy h
  | .svEmax .. => execSvEmax_tidy h
  | .svEbalImp .. => execSvEbalImp_tidy h
  | .svEbalExp .. => execSvEbalExp_tidy h
  | .svEbalVolt .. => execSvEbalVolt_tidy h
  | .effectStallResume .. => execEffectStallResume_tidy h
  | .cycleLimit .. => execCycleLimit_tidy h
  | .laneKat .. => execLaneKat_tidy h
  | .laneWatchdog .. => execLaneWatchdog_tidy h
  | .laneFence .. => execLaneFence_tidy h
  | .laneUnfence .. => execLaneUnfence_tidy h
  | .laneSelftestDone .. => execLaneSelftestDone_tidy h
  | .laneEnterService .. => execLaneEnterService_tidy h
  | .laneToMaint .. => execLaneToMaint_tidy h
  | .lanePowerOn .. => execLanePowerOn_tidy h
  | .lanePowerOff .. => execLanePowerOff_tidy h
  | .apertureWrite .. => execApertureWrite_tidy h
  | .laneSeal .. => execLaneSeal_tidy h
  | .laneSealDone .. => execLaneSealDone_tidy h
  | .lanemapInit .. => execLanemapInit_tidy h
  | .lanemapMoveRequest .. => execLanemapMoveRequest_tidy h
  | .meterMove .. => execMeterMove_tidy h
  | .ladleLaneVerdict => execLadleLaneVerdict_tidy h
  | .ladleTagVerdict .. => execLadleTagVerdict_tidy h
  | .ladleCommitHead .. => execLadleCommitHead_tidy h
  | .ftlPlaceItem .. => execFtlPlaceItem_tidy h
  | .groupClose => execGroupClose_tidy h
  | .groupDurable => execGroupDurable_tidy h
  | .durableLate => execDurableLate_tidy h
  | .ladleStall => execLadleStall_tidy h
  | .dirInsert .. => execDirInsert_tidy h
  | .dirDelete .. => execDirDelete_tidy h
  | .dirRecWrite .. => execDirRecWrite_tidy h
  | .dirRouteSet .. => execDirRouteSet_tidy h
  | .dirRouteDel .. => execDirRouteDel_tidy h
  | .dirTokenAdd .. => execDirTokenAdd_tidy h
  | .dirFloorRaise .. => execDirFloorRaise_tidy h
  | .dirLookupCmd .. => execDirLookupCmd_tidy h
  | .dirLock .. => execDirLock_tidy h
  | .dirUnlock .. => execDirUnlock_tidy h
  | .dirLockTimeout => execDirLockTimeout_tidy h
  | .dirSuspectClr .. => execDirSuspectClr_tidy h
  | .balNodeSet .. => execBalNodeSet_tidy h
  | .balNodeDel .. => execBalNodeDel_tidy h
  | .balMeterAssign .. => execBalMeterAssign_tidy h
  | .balAuditReset .. => execBalAuditReset_tidy h
  | .balMarkerPlace => execBalMarkerPlace_tidy h
  | .balNodePass => execBalNodePass_tidy h
  | .balMeterPass => execBalMeterPass_tidy h
  | .balSweepResume => execBalSweepResume_tidy h
  | .demandMarkerPlace => execDemandMarkerPlace_tidy h
  | .closeMarkerPlace => execCloseMarkerPlace_tidy h
  | .ckptMarkerPlace => execCkptMarkerPlace_tidy h
  | .demandSweep => execDemandSweep_tidy h
  | .closeSweep => execCloseSweep_tidy h
  | .ckptSweep => execCkptSweep_tidy h
  | .ckptComplete => execCkptComplete_tidy h
  | .tokGo .. => execTokGo_tidy h
  | .calCheck .. => execCalCheck_tidy h
  | .calResolve .. => execCalResolve_tidy h
  | .panelItemChange => execPanelItemChange_tidy h
  | .panelKeyScan .. => execPanelKeyScan_tidy h
  | .panelEntryTimeout => execPanelEntryTimeout_tidy h
  | .panelLockEnd => execPanelLockEnd_tidy h
  | .timeNowRead .. => execTimeNowRead_tidy h
  | .aonNowRead .. => execAonNowRead_tidy h
  | .tb0Step .. => execTb0Step_tidy h
  | .tb0StateSet .. => execTb0StateSet_tidy h
  | .tb0Holdover => execTb0Holdover_tidy h
  | .leapSecond => execLeapSecond_tidy h
  | .ptpEventRx .. => execPtpEventRx_tidy h
  | .ptpAnnounceLeap .. => execPtpAnnounceLeap_tidy h
  | .ptpTcForward .. => execPtpTcForward_tidy h
  | .ptpTxStamp .. => execPtpTxStamp_tidy h
  | .ppsInEdge => execPpsInEdge_tidy h
  | .ppsOutPulse => execPpsOutPulse_tidy h
  | .tb3Slew => execTb3Slew_tidy h
  | .tb3Load .. => execTb3Load_tidy h
  | .zcEdge .. => execZcEdge_tidy h
  | .zcSynth => execZcSynth_tidy h
  | .timeAlarmFire .. => execTimeAlarmFire_tidy h
  | .rtcAlarmFire .. => execRtcAlarmFire_tidy h
  | .alarmWrite .. => execAlarmWrite_tidy h
  | .rtcSet .. => execRtcSet_tidy h
  | .rtcSyncTb0 .. => execRtcSyncTb0_tidy h
  | .rtcTrimTick => execRtcTrimTick_tidy h
  | .retLost => execRetLost_tidy h
  | .batComparator .. => execBatComparator_tidy h
  | .oscStop => execOscStop_tidy h
  | .batMeasure .. => execBatMeasure_tidy h
  | .rtcChgWrite .. => execRtcChgWrite_tidy h
  | .plcFrameRx .. => execPlcFrameRx_tidy h
  | .plcAckSend .. => execPlcAckSend_tidy h
  | .plcAckTimeout .. => execPlcAckTimeout_tidy h
  | .plcContention .. => execPlcContention_tidy h
  | .plcBackoffExpire .. => execPlcBackoffExpire_tidy h
  | .plcBeaconTx .. => execPlcBeaconTx_tidy h
  | .plcAnnounceTx .. => execPlcAnnounceTx_tidy h
  | .plcJoinReq .. => execPlcJoinReq_tidy h
  | .plcNodeAge .. => execPlcNodeAge_tidy h
  | .plcTmUpdate .. => execPlcTmUpdate_tidy h
  | .plcTmReq .. => execPlcTmReq_tidy h
  | .plcBeaconRx .. => execPlcBeaconRx_tidy h
  | .plcBeaconMiss .. => execPlcBeaconMiss_tidy h
  | .plcLeave .. => execPlcLeave_tidy h
  | .plcAppAckSend .. => execPlcAppAckSend_tidy h
  | .plcDownlinkItem .. => execPlcDownlinkItem_tidy h
  | .plcCalibrate .. => execPlcCalibrate_tidy h
  | .plcFence .. => execPlcFence_tidy h
  | .plcUnfence .. => execPlcUnfence_tidy h
  | .radTimeslotStart .. => execRadTimeslotStart_tidy h
  | .radFrameRx .. => execRadFrameRx_tidy h
  | .radEnhAckSend .. => execRadEnhAckSend_tidy h
  | .radAckTimeout .. => execRadAckTimeout_tidy h
  | .radAssocReq .. => execRadAssocReq_tidy h
  | .radEbRx .. => execRadEbRx_tidy h
  | .radEbMiss .. => execRadEbMiss_tidy h
  | .radBudgetBucketRoll .. => execRadBudgetBucketRoll_tidy h
  | .radDlMaxWait .. => execRadDlMaxWait_tidy h
  | .radAppAckSend .. => execRadAppAckSend_tidy h
  | .radDownlinkItem .. => execRadDownlinkItem_tidy h
  | .radFence .. => execRadFence_tidy h
  | .radUnfence .. => execRadUnfence_tidy h
  | .radSpiRaw .. => execRadSpiRaw_tidy h
  | .switchForward .. => execSwitchForward_tidy h
  | .switchAge .. => execSwitchAge_tidy h
  | .cpuPortRx .. => execCpuPortRx_tidy h
  | .batchRx .. => execBatchRx_tidy h
  | .batchAckSend .. => execBatchAckSend_tidy h
  | .batchTimeout => execBatchTimeout_tidy h
  | .ethSwTx .. => execEthSwTx_tidy h
  | .prpRx .. => execPrpRx_tidy h
  | .prpNodeForget .. => execPrpNodeForget_tidy h
  | .prpSupervisionTx => execPrpSupervisionTx_tidy h
  | .prpLanDown .. => execPrpLanDown_tidy h
  | .ethLinkChange .. => execEthLinkChange_tidy h
  | .ksvcStatus .. => execKsvcStatus_tidy h
  | .ksvcLogRead .. => execKsvcLogRead_tidy h
  | .ksvcPageRead .. => execKsvcPageRead_tidy h
  | .ksvcWake .. => execKsvcWake_tidy h
  | .pcieSqTailWrite .. => execPcieSqTailWrite_tidy h
  | .pcieSqFetch .. => execPcieSqFetch_tidy h
  | .pcieCompletionWrite .. => execPcieCompletionWrite_tidy h
  | .pcieLinkDown .. => execPcieLinkDown_tidy h
  | .pcieHotReset .. => execPcieHotReset_tidy h
  | .mdioWrite .. => execMdioWrite_tidy h
  | .mdioRead .. => execMdioRead_tidy h
  | .mdioFrameDone .. => execMdioFrameDone_tidy h
  | .twinEnable .. => execTwinEnable_tidy h
  | .twinDisable .. => execTwinDisable_tidy h
  | .twinSeekTimeout => execTwinSeekTimeout_tidy h
  | .twinHello .. => execTwinHello_tidy h
  | .tongsRetransmit => execTongsRetransmit_tidy h
  | .tongsKeepalive .. => execTongsKeepalive_tidy h
  | .twinFrameRx .. => execTwinFrameRx_tidy h
  | .twinCommandRx .. => execTwinCommandRx_tidy h
  | .twinMarkerRx .. => execTwinMarkerRx_tidy h
  | .twinTxnRx .. => execTwinTxnRx_tidy h
  | .twinJoinRx .. => execTwinJoinRx_tidy h
  | .twinDiscardRx .. => execTwinDiscardRx_tidy h
  | .twinGroupRx .. => execTwinGroupRx_tidy h
  | .twinHandoverRx .. => execTwinHandoverRx_tidy h
  | .twinDurableRx .. => execTwinDurableRx_tidy h
  | .twinDigestRx .. => execTwinDigestRx_tidy h
  | .twinDisputeTest .. => execTwinDisputeTest_tidy h
  | .twinDigestMissing => execTwinDigestMissing_tidy h
  | .twinForwardRx .. => execTwinForwardRx_tidy h
  | .twinResendReqRx .. => execTwinResendReqRx_tidy h
  | .twinLeaseRenew => execTwinLeaseRenew_tidy h
  | .twinLeaseReqRx .. => execTwinLeaseReqRx_tidy h
  | .twinLeaseGrantRx .. => execTwinLeaseGrantRx_tidy h
  | .twinLeaseExpiry => execTwinLeaseExpiry_tidy h
  | .twinFencedNotice => execTwinFencedNotice_tidy h
  | .twinNoticeRx .. => execTwinNoticeRx_tidy h
  | .twinAcquire => execTwinAcquire_tidy h
  | .twinPathDown .. => execTwinPathDown_tidy h
  | .tongsLoss => execTongsLoss_tidy h
  | .twinSwap .. => execTwinSwap_tidy h
  | .twinDissolve .. => execTwinDissolve_tidy h
  | .twinResolveKeep .. => execTwinResolveKeep_tidy h
  | .twinResolveStepDown .. => execTwinResolveStepDown_tidy h
  | .twinResolveDrop .. => execTwinResolveDrop_tidy h
  | .twinFenceWrite .. => execTwinFenceWrite_tidy h
  | .twinSyncStart .. => execTwinSyncStart_tidy h
  | .twinSyncDataRx .. => execTwinSyncDataRx_tidy h
  | .twinSyncComplete => execTwinSyncComplete_tidy h
  | .twinSyncAbort => execTwinSyncAbort_tidy h
  | .twinSyncRetry => execTwinSyncRetry_tidy h
  | .twinKeyOfferRx .. => execTwinKeyOfferRx_tidy h
  | .twinMeeting => execTwinMeeting_tidy h
  | .ftlMount .. => execFtlMount_tidy h
  | .nandProgramDone .. => execNandProgramDone_tidy h
  | .nandEraseDone .. => execNandEraseDone_tidy h
  | .nandReadDone .. => execNandReadDone_tidy h
  | .nandTimeout .. => execNandTimeout_tidy h
  | .mapJournalFlush => execMapJournalFlush_tidy h
  | .logBlockMerge .. => execLogBlockMerge_tidy h
  | .wearLevelMove .. => execWearLevelMove_tidy h
  | .patrolRead .. => execPatrolRead_tidy h
  | .archSpaceResume => execArchSpaceResume_tidy h
  | .dieFail .. => execDieFail_tidy h
  | .ftlRead .. => execFtlRead_tidy h
  | .ftlWrite .. => execFtlWrite_tidy h
  | .ftlTrimArch .. => execFtlTrimArch_tidy h
  | .ftlSecureDiscard .. => execFtlSecureDiscard_tidy h
  | .ftlResize .. => execFtlResize_tidy h
  | .ftlFormat .. => execFtlFormat_tidy h
  | .ftlDieEvacuate .. => execFtlDieEvacuate_tidy h
  | .ftlDieAdd .. => execFtlDieAdd_tidy h
  | .bootReadCopy .. => execBootReadCopy_tidy h
  | .bootReadCopyHash .. => execBootReadCopyHash_tidy h
  | .bootReadCopyMerkle .. => execBootReadCopyMerkle_tidy h
  | .dmaCfgReqWrite .. => execDmaCfgReqWrite_tidy h
  | .dmaStart .. => execDmaStart_tidy h
  | .dmaStop .. => execDmaStop_tidy h
  | .dmaResume .. => execDmaResume_tidy h
  | .dmaAbort .. => execDmaAbort_tidy h
  | .dmaClear .. => execDmaClear_tidy h
  | .dmaDescriptorFetch => execDmaDescriptorFetch_tidy h
  | .dmaBeat => execDmaBeat_tidy h
  | .dmaDescriptorEnd .. => execDmaDescriptorEnd_tidy h
  | .keyLoad .. => execKeyLoad_tidy h
  | .keyErase .. => execKeyErase_tidy h
  | .keyNarrow .. => execKeyNarrow_tidy h
  | .keyDerive .. => execKeyDerive_tidy h
  | .keyGenerate .. => execKeyGenerate_tidy h
  | .keyUnwrap .. => execKeyUnwrap_tidy h
  | .keyWrap .. => execKeyWrap_tidy h
  | .keyCmdDone => execKeyCmdDone_tidy h
  | .keyZeroise .. => execKeyZeroise_tidy h
  | .keyRemask => execKeyRemask_tidy h
  | .trivetAttest .. => execTrivetAttest_tidy h
  | .trivetSeal .. => execTrivetSeal_tidy h
  | .trivetUnseal .. => execTrivetUnseal_tidy h
  | .trivetKekImport .. => execTrivetKekImport_tidy h
  | .trivetKekStore .. => execTrivetKekStore_tidy h
  | .trivetKekRemove .. => execTrivetKekRemove_tidy h
  | .trivetKsvcSet .. => execTrivetKsvcSet_tidy h
  | .ciphGcmEnc .. => execCiphGcmEnc_tidy h
  | .ciphGcmDec .. => execCiphGcmDec_tidy h
  | .ciphCtrEnc .. => execCiphCtrEnc_tidy h
  | .ciphCtrDec .. => execCiphCtrDec_tidy h
  | .ciphGmacGen .. => execCiphGmacGen_tidy h
  | .ciphGmacVer .. => execCiphGmacVer_tidy h
  | .ciphCmacGen .. => execCiphCmacGen_tidy h
  | .ciphCmacVer .. => execCiphCmacVer_tidy h
  | .ciphFf1Enc .. => execCiphFf1Enc_tidy h
  | .ciphFf1Dec .. => execCiphFf1Dec_tidy h
  | .ciphMeterWrap .. => execCiphMeterWrap_tidy h
  | .ciphMeterEnc .. => execCiphMeterEnc_tidy h
  | .rewrapGo .. => execRewrapGo_tidy h
  | .rewrapRecord => execRewrapRecord_tidy h
  | .pkeSign .. => execPkeSign_tidy h
  | .pkeVerify .. => execPkeVerify_tidy h
  | .pkeSignPh .. => execPkeSignPh_tidy h
  | .pkeVerifyPh .. => execPkeVerifyPh_tidy h
  | .pkeAgree .. => execPkeAgree_tidy h
  | .pkePublic .. => execPkePublic_tidy h
  | .pkeKeygen .. => execPkeKeygen_tidy h
  | .trngStartupDone => execTrngStartupDone_tidy h
  | .trngHealthFail .. => execTrngHealthFail_tidy h
  | .trngDataRead .. => execTrngDataRead_tidy h
  | .tamperAssert .. => execTamperAssert_tidy h
  | .meshCheck .. => execMeshCheck_tidy h
  | .tampVkrClear .. => execTampVkrClear_tidy h
  | .tampArm .. => execTampArm_tidy h
  | .tampRelease .. => execTampRelease_tidy h
  | .modeReq .. => execModeReq_tidy h
  | .wakeInput .. => execWakeInput_tidy h
  | .startup .. => execStartup_tidy h
  | .degradedExit => execDegradedExit_tidy h
  | .pllUnlock .. => execPllUnlock_tidy h
  | .ref10Lost => execRef10Lost_tidy h
  | .swReset .. => execSwReset_tidy h
  | .lastGasp .. => execLastGasp_tidy h
  | .lgRecover => execLgRecover_tidy h
  | .slowInputEdge .. => execSlowInputEdge_tidy h
  | .inputStuck .. => execInputStuck_tidy h
  | .chatterMaskEnd .. => execChatterMaskEnd_tidy h
  | .lcsChalReq .. => execLcsChalReq_tidy h
  | .chalLapse => execChalLapse_tidy h
  | .lcsDebugOpen .. => execLcsDebugOpen_tidy h
  | .lcsDeploy .. => execLcsDeploy_tidy h
  | .lcsRetire .. => execLcsRetire_tidy h
  | .lcsKillDebug .. => execLcsKillDebug_tidy h
  | .lcsProvision .. => execLcsProvision_tidy h
  | .lcsDebugClose .. => execLcsDebugClose_tidy h
  | .updPiece .. => execUpdPiece_tidy h
  | .updPageWrite => execUpdPageWrite_tidy h
  | .updInstall .. => execUpdInstall_tidy h
  | .updAbort .. => execUpdAbort_tidy h
  | .updActivationEnd => execUpdActivationEnd_tidy h
  | .updConfirm .. => execUpdConfirm_tidy h
  | .updFallbackReq .. => execUpdFallbackReq_tidy h
  | .confirmDue .. => execConfirmDue_tidy h
  | .confirmWindowEnd .. => execConfirmWindowEnd_tidy h
  | .evrItemTake .. => execEvrItemTake_tidy h
  | .evrSummaryWrite => execEvrSummaryWrite_tidy h
  | .evrNorProgram => execEvrNorProgram_tidy h
  | .evrSectorErase => execEvrSectorErase_tidy h
  | .evrCounterSave => execEvrCounterSave_tidy h
  | .evrSwCode .. => execEvrSwCode_tidy h
  | .evrRead .. => execEvrRead_tidy h
  | .evrClear .. => execEvrClear_tidy h
  | .evrNorFail .. => execEvrNorFail_tidy h
  | .evrAlarmRepeat => execEvrAlarmRepeat_tidy h
  | .evrNorRetry .. => execEvrNorRetry_tidy h
  | .mainPowerLoss => execMainPowerLoss_tidy h
  | .ref10Back => execRef10Back_tidy h
  | .tongsLaneFail .. => execTongsLaneFail_tidy h
  | .tongsLinkAck .. => execTongsLinkAck_tidy h
  | .radNodeAge .. => execRadNodeAge_tidy h
  | .partnerMARx .. => execPartnerMARx_tidy h

/-- The invariant of the block is a tidy state whose waiting commands are well formed. -/
theorem State.inv_iff {s : State} : s.inv = true ↔ Tidy s.pending s ∧ s.pending.all Instr.wf = true := by
  simp only [State.inv, Memory.wf, State.queueWf, Bool.and_eq_true]
  constructor
  · rintro ⟨⟨⟨⟨hmem, hregs⟩, heff⟩, hqueues⟩, hwf⟩
    exact ⟨⟨rfl, hmem, hregs, heff, hqueues⟩, hwf⟩
  · rintro ⟨h, hwf⟩
    exact ⟨⟨⟨⟨h.mem, h.regs⟩, h.eff⟩, h.queues⟩, hwf⟩

/-- A tidy state has the invariant where the commands that wait in it are well formed. -/
theorem Tidy.inv {q : List Instr} {s : State} (h : Tidy q s) (hwf : q.all Instr.wf = true) : s.inv = true := by
  obtain rfl := h.pending
  exact State.inv_iff.mpr ⟨h, hwf⟩

/-- A step from a tidy state: with no command waiting time passes, otherwise the command at the front leaves the queue. -/
theorem step_tidy {q : List Instr} {s : State} (h : Tidy q s) : TidyO q.tail (step s) := by
  obtain rfl := h.pending
  unfold step
  split
  next hnone =>
    rw [hnone] at h ⊢
    exact tidyO_next (State.idleTick_tidy h)
  next c r hfront =>
    rw [hfront]
    exact exec_tidy c ⟨rfl, h.mem, h.regs, h.eff, h.queues⟩

/-- Settles O4: a step answers a tidy state whose queue is the tail of the one before, and a tail of well-formed commands is well formed. -/
theorem everyStepKeepsTheInvariant : Obligations.EveryStepKeepsTheInvariant := by
  unfold Obligations.EveryStepKeepsTheInvariant
  intro s t hs ht
  obtain ⟨htidy, hwf⟩ := State.inv_iff.mp hs
  obtain ⟨u, hu, htail⟩ := step_tidy htidy
  obtain rfl : u = t := Host.Outcome.next.inj (hu.symm.trans ht)
  refine htail.inv (List.all_eq_true.mpr fun c hc => ?_)
  exact List.all_eq_true.mp hwf c (List.mem_of_mem_tail hc)

/-- Settles O5: no arm of the dispatcher stops, and none touches the queue of commands. -/
theorem everyCommandAnswersAndLeavesTheQueue : Obligations.EveryCommandAnswersAndLeavesTheQueue := by
  unfold Obligations.EveryCommandAnswersAndLeavesTheQueue
  intro c s hs
  obtain ⟨htidy, hwf⟩ := State.inv_iff.mp hs
  obtain ⟨t, ht, h⟩ := exec_tidy c htidy
  exact ⟨t, ht, h.pending, h.inv hwf⟩

end Sys2Proof.Machine
end

section
/-! SUPPORT. Bus errors: what an access that the register file or the map refuses leaves (R26, R30, R35, R38). -/

namespace Sys2Proof.Machine

/-! ## What leaves every register field but those of a list as it was -/

theorem KeepsRegs.refl (s : State) (l : List Field) : KeepsRegs s s l := fun _ _ _ => rfl

theorem KeepsRegs.setF {s t : State} {l : List Field} {f : Field} (h : KeepsRegs s t l) (hf : f ∈ l) (v : Nat) :
    KeepsRegs s (t.setF f v) l := fun k hk d => (sget_sput_ne _ _ _ _ (hk f hf)).trans (h k hk d)

theorem KeepsRegs.getF {s t : State} {l : List Field} {f : Field} (h : KeepsRegs s t l) (hf : ∀ g ∈ l, g.key ≠ f.key) :
    t.getF f = s.getF f := h f.key hf f.reset

theorem KeepsRegs.flag {s t : State} {l : List Field} {f : Field} (h : KeepsRegs s t l) (hf : ∀ g ∈ l, g.key ≠ f.key) :
    t.flag f = s.flag f := by rw [State.flag, State.flag, h.getF hf]

/-! ## The error log of a page (R38) -/

theorem State.err_of_first {s : State} {p : Nat} (h : s.flag (Reg.ERR_VALID p) = false) (code info : Nat) :
    s.err p code info = ((s.setF (Reg.ERR_VALID p) 1).setF (Reg.ERR_CODE p) code).setF (Reg.ERR_INFO p) info :=
  if_pos (by simpa [State.flag] using h)

theorem State.err_of_later {s : State} {p : Nat} (h : s.flag (Reg.ERR_VALID p) = true) (code info : Nat) :
    s.err p code info = s.count (Reg.ERR_CNT p) :=
  if_neg (by simpa [State.flag] using h)

theorem State.err_keepsRegs (s : State) (p code info : Nat) :
    KeepsRegs s (s.err p code info) [Reg.ERR_VALID p, Reg.ERR_CODE p, Reg.ERR_INFO p, Reg.ERR_CNT p] := by
  cases h : s.flag (Reg.ERR_VALID p) with
  | false =>
    rw [State.err_of_first h]
    exact (((KeepsRegs.refl s _).setF (by simp) 1).setF (by simp) code).setF (by simp) info
  | true =>
    rw [State.err_of_later h]
    exact (KeepsRegs.refl s _).setF (by simp) _

theorem State.err_rest (s : State) (p code info : Nat) : s.err p code info = { s with regs := (s.err p code info).regs } := by
  unfold State.err
  split <;> rfl

/-- R38: the first error of a page is kept. -/
theorem State.err_first {s : State} {p code info : Nat} (hcode : code < 2 ^ 16) (hinfo : info < 2 ^ 32) (h : s.flag (Reg.ERR_VALID p) = false) :
    (s.err p code info).flag (Reg.ERR_VALID p) = true ∧ (s.err p code info).getF (Reg.ERR_CODE p) = code ∧
      (s.err p code info).getF (Reg.ERR_INFO p) = info := by
  have hci : (Reg.ERR_INFO p).key ≠ (Reg.ERR_CODE p).key := by simp only [Field.key, Reg.ERR_INFO, Reg.ERR_CODE]; omega
  have hvi : (Reg.ERR_INFO p).key ≠ (Reg.ERR_VALID p).key := by simp only [Field.key, Reg.ERR_INFO, Reg.ERR_VALID]; omega
  have hvc : (Reg.ERR_CODE p).key ≠ (Reg.ERR_VALID p).key := by simp only [Field.key, Reg.ERR_CODE, Reg.ERR_VALID]; omega
  rw [State.err_of_first h]
  refine ⟨?_, ?_, ?_⟩
  · rw [State.flag, State.getF_setF_ne _ _ hvi, State.getF_setF_ne _ _ hvc, State.getF_setF_self]; rfl
  · rw [State.getF_setF_ne _ _ hci, State.getF_setF_self]; exact Nat.mod_eq_of_lt hcode
  · rw [State.getF_setF_self]; exact Nat.mod_eq_of_lt hinfo

/-- R38: an error that follows is counted, up to 255. -/
theorem State.err_later {s : State} {p : Nat} (code info : Nat) (h : s.flag (Reg.ERR_VALID p) = true) :
    (s.err p code info).getF (Reg.ERR_CODE p) = s.getF (Reg.ERR_CODE p) ∧ (s.err p code info).getF (Reg.ERR_INFO p) = s.getF (Reg.ERR_INFO p) ∧
      (s.err p code info).getF (Reg.ERR_CNT p) = min 255 (s.getF (Reg.ERR_CNT p) + 1) := by
  have hcode : (Reg.ERR_CNT p).key ≠ (Reg.ERR_CODE p).key := by simp only [Field.key, Reg.ERR_CNT, Reg.ERR_CODE]; omega
  have hinfo : (Reg.ERR_CNT p).key ≠ (Reg.ERR_INFO p).key := by simp only [Field.key, Reg.ERR_CNT, Reg.ERR_INFO]; omega
  rw [State.err_of_later h, State.count]
  refine ⟨State.getF_setF_ne _ _ hcode, State.getF_setF_ne _ _ hinfo, ?_⟩
  rw [State.getF_setF_self]
  show min 255 (s.getF (Reg.ERR_CNT p) + 1) % 256 = _
  omega

/-! ## One bus error -/

/-- R26, R38: a bus error answers 0 and leaves its code and detail in the error log of SYS. -/
theorem State.busError_busErrorOf (s : State) {code info : Nat} (hcode : code < 2 ^ 16) (hinfo : info < 2 ^ 32) :
    BusErrorOf s (s.busError code info) code info where
  answer := rfl
  rest := by rw [State.busError, State.err_rest]
  log := s.err_keepsRegs 0 code info
  first := State.err_first hcode hinfo
  later := State.err_later code info

theorem State.err_answer (s : State) (d p code info : Nat) : (s.answer d).err p code info = (s.err p code info).answer d := by
  cases h : s.flag (Reg.ERR_VALID p) with
  | false => rw [State.err_of_first h, State.err_of_first (s := s.answer d) h]; rfl
  | true => rw [State.err_of_later h, State.err_of_later (s := s.answer d) h]; rfl

/-- A bus error takes the place of the answer before it. -/
theorem State.busError_answer (s : State) (d code info : Nat) : (s.answer d).busError code info = s.busError code info := by
  rw [State.busError, State.err_answer]
  rfl

/-! ## The refusals of an access to a page (R15, R26, R30, R35) -/

section
variable {s : State} {req : Req} {p off : Nat} {size : AccessSize} {write : Bool}

theorem State.refusal_unmapped (h : pageExists p = false) :
    s.refusal req p off size write = some (Err.addrUnmapped, 0x40000000 + p * 4096 + off) := by
  simp [State.refusal, h]

theorem State.refusal_domainOff (h : pageExists p = true) (hdom : s.domOn (pageDomain p) = false) :
    s.refusal req p off size write = some (Err.domainOff, accessInfo p req off) := by
  simp [State.refusal, h, hdom]

theorem State.refusal_accessSize (h : pageExists p = true) (hdom : s.domOn (pageDomain p) = true) (hsize : size ≠ .b4 ∨ off % 4 ≠ 0) :
    s.refusal req p off size write = some (Err.accessSize, accessInfo p req off) := by
  simp only [State.refusal, h, hdom, hsize, Bool.not_true, Bool.false_eq_true, if_false, if_true]

theorem State.refusal_privDeny (h : pageExists p = true) (hdom : s.domOn (pageDomain p) = true) (hoff : off % 4 = 0)
    (hmask : s.admits req p write = false) : s.refusal req p off .b4 write = some (Err.privDeny, accessInfo p req off) := by
  simp [State.refusal, h, hdom, hoff, hmask]

/-! No check of an access reads the error log of SYS, so that a bus error does not change what the second half of an access meets. -/

theorem KeepsRegs.domOn {t : State} (h : KeepsRegs s t sysErrorLog) (d : Domain) : t.domOn d = s.domOn d := by
  rw [State.domOn, State.domOn, h.getF (by decide)]

theorem KeepsRegs.admits {t : State} (h : KeepsRegs s t sysErrorLog) (req : Req) (p : Nat) (write : Bool) :
    t.admits req p write = s.admits req p write := by
  have hmask : ∀ g ∈ sysErrorLog, g.key ≠ (if write then Reg.BLK_PRIV_WR p else Reg.BLK_PRIV_RD p).key := by
    cases write <;> simp [sysErrorLog, Field.key, Reg.ERR_VALID, Reg.ERR_CODE, Reg.ERR_INFO, Reg.ERR_CNT, Reg.BLK_PRIV_WR, Reg.BLK_PRIV_RD] <;> omega
  simp only [State.admits, State.debugAdmits]
  rw [h.getF hmask, h.flag (by decide), h.getF (f := Reg.LCS_STAT_DBG_STATE) (by decide)]

end

theorem accessInfo_lt (p : Nat) (req : Req) (off : Nat) : accessInfo p req off < 2 ^ 32 := by
  have hreq : req.code ≤ 5 := by cases req <;> decide
  unfold accessInfo
  omega

/-! ## An access in halves (R30) -/

/-- R30: the accesses that an access of a width at an offset is made of. -/
def halfOf (size : AccessSize) (off o : Nat) (z : AccessSize) : Prop :=
  if size = .b8 ∧ off % 8 = 0 then z = .b4 ∧ (o = off ∨ o = off + 4) else z = size ∧ o = off

/-- R30: an access whose every part is refused ends in bus errors, where no refusal depends on the error log of SYS. -/
theorem State.inHalves_refused {s : State} {req : Req} {p off code : Nat} {size : AccessSize} {write : Bool} {info : Nat → Nat}
    {access : State → Nat → AccessSize → State}
    (haccess : ∀ u o z c i, u.refusal req p o z write = some (c, i) → access u o z = u.busError c i)
    (hcode : code < 2 ^ 16)
    (href : ∀ u o z, KeepsRegs s u sysErrorLog → halfOf size off o z → info o < 2 ^ 32 ∧ u.refusal req p o z write = some (code, info o)) :
    BusErrorsOf s (s.inHalves off size access) size off code info := by
  have hpart : ∀ u o z, KeepsRegs s u sysErrorLog → halfOf size off o z → BusErrorOf u (access u o z) code (info o) := by
    intro u o z hu hz
    obtain ⟨hinfo, h⟩ := href u o z hu hz
    rw [haccess u o z _ _ h]
    exact u.busError_busErrorOf hcode hinfo
  unfold BusErrorsOf State.inHalves
  by_cases hb8 : size = .b8 ∧ off % 8 = 0
  · simp only [halfOf, if_pos hb8] at hpart ⊢
    have hlow := hpart s off .b4 (KeepsRegs.refl s _) ⟨rfl, .inl rfl⟩
    have hhigh := hpart (access s off .b4) (off + 4) .b4 hlow.log ⟨rfl, .inr rfl⟩
    refine ⟨_, hlow, ?_⟩
    rw [hlow.answer, hhigh.answer, show ({ err := true || true, data := 0 + 0 * 2 ^ 32 } : BusAnswer) = { err := true, data := 0 } from rfl,
      ← hhigh.answer]
    exact hhigh
  · simp only [halfOf, if_neg hb8] at hpart ⊢
    exact hpart s off size (KeepsRegs.refl s _) ⟨rfl, rfl⟩

/-- R30: the parts of an access that is made of whole words are aligned words. -/
theorem aligned_of_wholeWords {size z : AccessSize} {off o : Nat} (h : wholeWords size off = true) (hz : halfOf size off o z) :
    z = .b4 ∧ o % 4 = 0 := by
  unfold halfOf at hz
  cases size <;> simp [wholeWords] at h
  case b4 =>
    obtain ⟨hz4, rfl⟩ : z = .b4 ∧ o = off := by simpa using hz
    exact ⟨hz4, h⟩
  case b8 =>
    obtain ⟨hz4, ho⟩ : z = .b4 ∧ (o = off ∨ o = off + 4) := by simpa [h] using hz
    exact ⟨hz4, by omega⟩

/-- R30: an access that is not made of whole words is one access, which is no aligned word. -/
theorem not_halved_of_wholeWords {size : AccessSize} {off : Nat} (h : wholeWords size off = false) :
    ¬(size = .b8 ∧ off % 8 = 0) ∧ (size ≠ .b4 ∨ off % 4 ≠ 0) := by
  cases size <;> simp [wholeWords] at h ⊢ <;> assumption

theorem BusErrorsOf.single {s t : State} {size : AccessSize} {off code : Nat} {info : Nat → Nat} (h : BusErrorsOf s t size off code info)
    (hsize : ¬(size = .b8 ∧ off % 8 = 0)) : BusErrorOf s t code (info off) := by
  rwa [BusErrorsOf, if_neg hsize] at h

/-! ## The four ends of a refused access to a page -/

section
variable {s : State} {req : Req} {p off : Nat} {size : AccessSize} {write : Bool} {access : State → Nat → AccessSize → State}
  (haccess : ∀ u o z c i, u.refusal req p o z write = some (c, i) → access u o z = u.busError c i)
include haccess

theorem inHalves_unmapped (hp : p < 256) (hoff : off < 4096) (h : pageExists p = false) :
    BusErrorsOf s (s.inHalves off size access) size off Err.addrUnmapped (fun o => 0x40000000 + p * 4096 + o) := by
  refine State.inHalves_refused haccess (by decide) fun u o z _ hz => ⟨?_, State.refusal_unmapped h⟩
  have : o ≤ off + 4 := by unfold halfOf at hz; split at hz <;> omega
  show 0x40000000 + p * 4096 + o < 2 ^ 32
  omega

theorem inHalves_domainOff (h : pageExists p = true) (hdom : s.domOn (pageDomain p) = false) :
    BusErrorsOf s (s.inHalves off size access) size off Err.domainOff (accessInfo p req) :=
  State.inHalves_refused haccess (by decide) fun _ o _ hu _ =>
    ⟨accessInfo_lt p req o, State.refusal_domainOff h ((hu.domOn _).trans hdom)⟩

theorem inHalves_accessSize (h : pageExists p = true) (hdom : s.domOn (pageDomain p) = true) (hsize : wholeWords size off = false) :
    BusErrorOf s (s.inHalves off size access) Err.accessSize (accessInfo p req off) := by
  obtain ⟨hone, hword⟩ := not_halved_of_wholeWords hsize
  refine (State.inHalves_refused (info := accessInfo p req) haccess (by decide) fun u o z hu hz => ?_).single hone
  obtain ⟨rfl, rfl⟩ : z = size ∧ o = off := by rwa [halfOf, if_neg hone] at hz
  exact ⟨accessInfo_lt p req o, State.refusal_accessSize h ((hu.domOn _).trans hdom) hword⟩

theorem inHalves_privDeny (h : pageExists p = true) (hdom : s.domOn (pageDomain p) = true) (hsize : wholeWords size off = true)
    (hmask : s.admits req p write = false) :
    BusErrorsOf s (s.inHalves off size access) size off Err.privDeny (accessInfo p req) := by
  refine State.inHalves_refused haccess (by decide) fun u o z hu hz => ⟨accessInfo_lt p req o, ?_⟩
  obtain ⟨rfl, ho⟩ := aligned_of_wholeWords hsize hz
  exact State.refusal_privDeny h ((hu.domOn _).trans hdom) ho ((hu.admits ..).trans hmask)

end

/-! ## What the map gives a requester (R23, R25) -/

/-- R23: a page register stands in the first 4 GiB, at the place that its page and offset give. -/
theorem busTarget_page {req : Req} {a p off : Nat} (h : busTarget req a = .page p off) :
    p < 256 ∧ off < 4096 ∧ a = 0x40000000 + p * 4096 + off := by
  simp only [busTarget] at h
  repeat' split at h
  any_goals exact Target.noConfusion h
  next hwithin =>
    obtain ⟨hp, ho⟩ := Target.page.inj h
    simp only [Bool.and_eq_true, decide_eq_true_eq] at hwithin
    omega

/-- R23: the memories of FABRIC stand in the first 4 GiB. -/
theorem busTarget_fabric_lt {req : Req} {a : Nat} (h : busTarget req a = .mem .fabric) : a < 2 ^ 32 := by
  simp only [busTarget] at h
  repeat' split at h
  any_goals cases h
  next hwithin =>
    simp only [Bool.and_eq_true, decide_eq_true_eq] at hwithin
    omega
  next hwithin _ =>
    simp only [Bool.and_eq_true, decide_eq_true_eq] at hwithin
    omega

theorem inBar4_of_lt {req : Req} {a : Nat} (h : a < 2 ^ 32) : inBar4 req a = false := by
  have : ¬ 0x2000000000 ≤ a := by omega
  simp [inBar4, this]

/-! ## The two commands that access a register -/

theorem State.regRead_refused {s : State} {req : Req} {p off c i : Nat} {size : AccessSize} (h : s.refusal req p off size false = some (c, i)) :
    s.regRead req p off size = s.busError c i := by
  simp only [State.regRead, State.onRead, h]

theorem State.pageWrite_refused {s : State} {req : Req} {p off c i d : Nat} {size : AccessSize} (h : s.refusal req p off size true = some (c, i)) :
    s.pageWrite req p off size d = s.busError c i := by
  simp only [State.pageWrite, h]

/-- R30: the part of a written value that goes to offset `o` of an access at `off`. -/
def wordAt (data : BitVec 64) (off o : Nat) : Nat := data.toNat / 2 ^ (8 * (o - off)) % 2 ^ 32

/-- R29, R30: REGISTER_WRITE at the address of a page register. -/
theorem exec_registerWrite_page {s : State} {req : Req} {addr : BitVec 40} {size : AccessSize} {data : BitVec 64} {p off : Nat}
    (h : busTarget req addr.toNat = .page p off) :
    exec (.registerWrite req addr size data) s =
      .next (s.inHalves off size fun s o z => s.pageWrite req p o z (wordAt data off o)) := by
  obtain ⟨_, _, ha⟩ := busTarget_page h
  show execRegisterWrite req addr size data s = _
  simp only [execRegisterWrite, inBar4_of_lt (req := req) (show addr.toNat < 2 ^ 32 by omega), h, Bool.false_eq_true, if_false, wordAt]

/-- R22, R26: REGISTER_WRITE at any other address outside BAR4. -/
theorem exec_registerWrite_mem {s : State} {req : Req} {addr : BitVec 40} {size : AccessSize} {data : BitVec 64}
    (hbar : inBar4 req addr.toNat = false) (h : ∀ p off, busTarget req addr.toNat ≠ .page p off) :
    exec (.registerWrite req addr size data) s = .next ((s.answer 0).memWrite req addr.toNat (leBytes size.bytes data.toNat)).1 := by
  show execRegisterWrite req addr size data s = _
  simp only [execRegisterWrite, hbar, Bool.false_eq_true, if_false]

/-- R26, R453: a write where the map gives the requester nothing. -/
theorem State.memWrite_hole {s : State} {req : Req} {a : Nat} (h : busTarget req a = .hole)
    (hdebug : req = .debug → s.flag Reg.LCS_STAT_DBG_OPEN = true) (b : Bytes) :
    (s.memWrite req a b).1 = s.busError Err.addrUnmapped (a % 2 ^ 32) := by
  have hgate : ¬(req = .debug ∧ (!s.flag Reg.LCS_STAT_DBG_OPEN) = true) := by
    rintro ⟨hreq, hopen⟩
    simp [hdebug hreq] at hopen
  have href : s.memRefusal req a true = some (Err.addrUnmapped, a % 2 ^ 32) := by
    simp only [State.memRefusal, if_neg hgate, h]
  simp [State.memWrite, State.wakeMem, h, href]

/-- Settles O6: the access is refused as a whole or half by half, and each refusal is a bus error. -/
theorem anUnmappedAddressIsABusError : Obligations.AnUnmappedAddressIsABusError := by
  unfold Obligations.AnUnmappedAddressIsABusError
  refine ⟨?hole, ?noPageWrite, ?address, ?noPageRead, ?maskRead, ?maskWrite⟩
  case hole =>
    intro s req addr size data hdebug hbar h
    refine ⟨_, exec_registerWrite_mem hbar (by simp [h]), ?_⟩
    rw [State.memWrite_hole (s := s.answer 0) h hdebug, State.busError_answer]
    exact s.busError_busErrorOf (by decide) (Nat.mod_lt _ (by decide))
  case noPageWrite =>
    intro s req addr size data p off h hpage
    obtain ⟨hp, hoff, _⟩ := busTarget_page h
    exact ⟨_, exec_registerWrite_page h, inHalves_unmapped (fun _ _ _ _ _ => State.pageWrite_refused) hp hoff hpage⟩
  case address =>
    intro req addr p off h
    obtain ⟨hp, hoff, ha⟩ := busTarget_page h
    omega
  case noPageRead =>
    intro s req page off size hpage
    exact ⟨_, rfl, inHalves_unmapped (fun _ _ _ _ _ => State.regRead_refused) page.isLt off.isLt hpage⟩
  case maskRead =>
    intro s req page off size hpage hdom hsize hmask
    exact ⟨_, rfl, inHalves_privDeny (fun _ _ _ _ _ => State.regRead_refused) hpage hdom hsize hmask⟩
  case maskWrite =>
    intro s req addr size data p off h hpage hdom hsize hmask
    exact ⟨_, exec_registerWrite_page h, inHalves_privDeny (fun _ _ _ _ _ => State.pageWrite_refused) hpage hdom hsize hmask⟩

/-- Settles O7: the refusals of a stopped domain and of a width hold for a read and a write alike. -/
theorem aStoppedDomainOrAWrongSizeIsABusError : Obligations.AStoppedDomainOrAWrongSizeIsABusError := by
  unfold Obligations.AStoppedDomainOrAWrongSizeIsABusError
  refine ⟨?offRead, ?offWrite, ?sizeRead, ?sizeWrite, rfl, rfl⟩
  case offRead =>
    intro s req page off size hpage hdom
    exact ⟨_, rfl, inHalves_domainOff (fun _ _ _ _ _ => State.regRead_refused) hpage hdom⟩
  case offWrite =>
    intro s req addr size data p off h hpage hdom
    exact ⟨_, exec_registerWrite_page h, inHalves_domainOff (fun _ _ _ _ _ => State.pageWrite_refused) hpage hdom⟩
  case sizeRead =>
    intro s req page off size hpage hdom hsize
    exact ⟨_, rfl, inHalves_accessSize (fun _ _ _ _ _ => State.regRead_refused) hpage hdom hsize⟩
  case sizeWrite =>
    intro s req addr size data p off h hpage hdom hsize
    exact ⟨_, exec_registerWrite_page h, inHalves_accessSize (fun _ _ _ _ _ => State.pageWrite_refused) hpage hdom hsize⟩

end Sys2Proof.Machine
end

section
/-! SUPPORT. Credits (R16, R21): what the operations of a queue leave of the sum of its credits, and of the other queues. -/

namespace Sys2Proof.Machine

/-! ## What the queues are after each operation -/

theorem State.queue_of_queues {s t : State} (h : t.queues = s.queues) (q : Nat) : t.queue q = s.queue q := by
  rw [State.queue, State.queue, h]

theorem State.err_queues (s : State) (p code info : Nat) : (s.err p code info).queues = s.queues := by
  rw [State.err_rest]

theorem State.crossings_queues (s : State) (q : Nat) (old new : Bool × Bool) : (s.crossings q old new).queues = s.queues := by
  unfold State.crossings
  split_ifs <;> rfl

theorem State.poisoned_queues (s : State) (q n : Nat) : (s.poisoned q n).queues = s.queues := by
  rw [State.poisoned, State.err_queues]
  rfl

theorem State.batchOutcome_queues (s : State) (at_ : Option (Nat × Nat)) (o : FrameOutcome) : (s.batchOutcome at_ o).queues = s.queues := by
  unfold State.batchOutcome
  split
  · rfl
  · split <;> rfl

theorem State.notTaken_queues (s : State) (l : List Item) : (s.notTaken l).queues = s.queues := by
  induction l generalizing s with
  | nil => rfl
  | cons i r ih =>
    refine (ih _).trans ?_
    dsimp only
    split
    · exact State.batchOutcome_queues ..
    · rfl

theorem State.queue_putQueue_self (s : State) (q : Nat) (x : Queue) : (s.putQueue q x).queue q = x := by
  rw [State.putQueue, State.queue_of_queues (State.crossings_queues ..)]
  exact sget_sput_self ..

theorem State.queue_putQueue_ne (s : State) {q r : Nat} (x : Queue) (h : r ≠ q) : (s.putQueue q x).queue r = s.queue r := by
  rw [State.putQueue, State.queue_of_queues (State.crossings_queues ..)]
  exact sget_sput_ne _ _ _ _ h.symm

/-! ## The sum of R21 -/

/-- R21: the slots of a queue that its sum accounts for. -/
def Queue.accounted (x : Queue) : Nat := x.credits + x.items.length + x.held + x.returning

theorem State.creditsHold_iff {s : State} {q : Nat} : s.creditsHold q = true ↔ (s.queue q).accounted = qDepth q :=
  decide_eq_true_iff

/-- The sum of a queue holds after a change where it held before, and every other queue is as it was. -/
def KeepsCredits (s t : State) (q : Nat) : Prop :=
  (s.creditsHold q = true → t.creditsHold q = true) ∧ ∀ r : Nat, r ≠ q → t.queue r = s.queue r

theorem KeepsCredits.of_queues {s t : State} (h : t.queues = s.queues) (q : Nat) : KeepsCredits s t q :=
  ⟨by rw [State.creditsHold_iff, State.creditsHold_iff, State.queue_of_queues h]; exact id, fun r _ => State.queue_of_queues h r⟩

theorem KeepsCredits.trans {s t u : State} {q : Nat} (h : KeepsCredits s t q) (h' : KeepsCredits t u q) : KeepsCredits s u q :=
  ⟨h'.1 ∘ h.1, fun r hr => (h'.2 r hr).trans (h.2 r hr)⟩

/-- What changes no queue may follow. -/
theorem KeepsCredits.then_of_queues {s t u : State} {q : Nat} (h : KeepsCredits s t q) (hu : u.queues = t.queues) : KeepsCredits s u q :=
  h.trans (.of_queues hu q)

/-- A change of one queue that keeps its sum keeps the sum of every queue. -/
theorem KeepsCredits.all {s t : State} {q : Nat} (h : KeepsCredits s t q) (r : Nat) (hr : s.creditsHold r = true) : t.creditsHold r = true := by
  by_cases e : r = q
  · subst e
    exact h.1 hr
  · rwa [State.creditsHold_iff, h.2 r e, ← State.creditsHold_iff]

/-- R53: a queue given anew with the same sum; its pointers do not count in it. -/
theorem KeepsCredits.setQueue {s : State} {q : Nat} {x : Queue} (h : x.accounted = (s.queue q).accounted) : KeepsCredits s (s.setQueue q x) q := by
  refine ⟨fun hs => ?_, fun r hr => State.queue_putQueue_ne _ _ hr⟩
  rw [State.creditsHold_iff] at hs ⊢
  rw [State.setQueue, State.queue_putQueue_self]
  exact h.trans hs

/-! ## The operations of a queue -/

theorem State.enq_keepsCredits {s : State} {q : Nat} (i : Item) (h : s.hasCredit q = true) : KeepsCredits s (s.enq q i) q := by
  have hcredit : 0 < (s.queue q).credits := of_decide_eq_true h
  refine .setQueue ?_
  simp only [Queue.accounted, List.length_append, List.length_singleton]
  omega

/-- R16, R55: the item at the front is taken: its slot stands with the credits or with the held slots, and its poison is counted. -/
theorem KeepsCredits.taken {s : State} {q : Nat} {x : Queue} (h : x.accounted = (s.queue q).accounted) (poison : Nat) :
    KeepsCredits s (if poison != 0 then (s.setQueue q x).poisoned q poison else s.setQueue q x) q := by
  split
  · exact (KeepsCredits.setQueue h).then_of_queues (State.poisoned_queues ..)
  · exact .setQueue h

theorem State.deq_keepsCredits {s t : State} {q : Nat} {i : Item} (h : s.deq q = some (i, t)) : KeepsCredits s t q := by
  unfold State.deq at h
  split at h
  · cases h
  next j r hitems =>
    obtain ⟨-, rfl⟩ := Prod.mk.inj (Option.some.inj h)
    refine .taken ?_ j.poison
    simp only [Queue.accounted, hitems, List.length_cons]
    omega

theorem State.deqHeld_keepsCredits {s t : State} {q : Nat} {i : Item} (h : s.deqHeld q = some (i, t)) : KeepsCredits s t q := by
  unfold State.deqHeld at h
  split at h
  · cases h
  next j r hitems =>
    obtain ⟨-, rfl⟩ := Prod.mk.inj (Option.some.inj h)
    refine .taken ?_ j.poison
    simp only [Queue.accounted, hitems, List.length_cons]
    omega

theorem State.creditBack_keepsCredits (s : State) (q n : Nat) : KeepsCredits s (s.creditBack q n) q := by
  refine .setQueue ?_
  simp only [Queue.accounted]
  omega

theorem State.discardAll_keepsCredits (s : State) (q : Nat) : KeepsCredits s (s.discardAll q) q := by
  refine (KeepsCredits.setQueue ?_).then_of_queues (State.notTaken_queues ..)
  simp only [Queue.accounted, List.length_nil]
  omega

/-- R60: what a flush keeps and what it discards are the items of the queue. -/
theorem flushed_length (x : Queue) (reading : Bool) : (flushed x reading).1.length + (flushed x reading).2.length = x.items.length := by
  unfold flushed
  split
  · simp only [List.length_take, List.length_drop]
    omega
  · exact Nat.zero_add _

theorem State.flush_keepsCredits (s : State) (q : Nat) (producer : FlushEdge) (reading : Bool) :
    KeepsCredits s (s.flush q producer reading) q := by
  have hlen := flushed_length (s.queue q) reading
  unfold State.flush
  dsimp only
  split
  next hpart =>
    obtain ⟨-, hcredit⟩ := hpart
    refine (KeepsCredits.setQueue ?_).then_of_queues (State.notTaken_queues ..)
    simp only [Queue.accounted]
    omega
  next =>
    refine (KeepsCredits.setQueue ?_).then_of_queues (State.notTaken_queues ..)
    simp only [Queue.accounted]
    omega

/-! ## The two commands -/

/-- R26: a write of a page register is taken, or ends in a bus error. -/
theorem State.onWrite_cases (s : State) (req : Req) (page off : Nat) (k : State → State) :
    s.onWrite req page off k = k (s.answer 0) ∨ ∃ c i, s.onWrite req page off k = s.busError c i := by
  unfold State.onWrite
  split
  · exact .inr ⟨_, _, rfl⟩
  · exact .inl rfl

theorem execQueueFlush_keepsCredits {s t : State} {req : Req} {page : BitVec 8} {qend : Fin 6} {producer : FlushEdge} {reading : Bool}
    (h : execQueueFlush req page qend producer reading s = .next t) : KeepsCredits s t (8 * page.toNat + qend.val) := by
  obtain rfl := Host.Outcome.next.inj h
  have hanswer : KeepsCredits s (s.answer 0) (8 * page.toNat + qend.val) := .of_queues rfl _
  rcases s.onWrite_cases req page.toNat (0x08C + qend.val * 0x10) _ with htaken | ⟨c, i, hrefused⟩
  · rw [htaken]
    split
    · exact hanswer
    · exact hanswer.trans (State.flush_keepsCredits ..)
  · rw [hrefused]
    exact .of_queues (State.err_queues s 0 c i) _

theorem execFlushDiscardEnd_keepsCredits {s t : State} {page : BitVec 8} {qend : Fin 6} (h : execFlushDiscardEnd page qend s = .next t) :
    KeepsCredits s t (8 * page.toNat + qend.val) := by
  unfold execFlushDiscardEnd at h
  dsimp only at h
  split at h
  · obtain rfl := Host.Outcome.next.inj h
    refine (KeepsCredits.setQueue ?_).then_of_queues (State.err_queues ..)
    simp only [Queue.accounted]
    omega
  · obtain rfl := Host.Outcome.next.inj h
    exact .of_queues rfl _

/-- Settles O12: each operation gives its queue anew with the same sum, and touches no other queue. -/
theorem creditsAreConserved : Obligations.CreditsAreConserved := by
  unfold Obligations.CreditsAreConserved
  refine ⟨fun s q i hs h => ?_, fun s t q i hs h => ?_, fun s t q i hs h => ?_, fun s q n hs => ?_, fun s q hs => ?_,
    fun s t req page qend producer reading q hs h => ?_, fun s t page qend q hs h => ?_⟩
  · exact (State.enq_keepsCredits i h).imp_left (· hs)
  · exact (State.deq_keepsCredits h).imp_left (· hs)
  · exact (State.deqHeld_keepsCredits h).imp_left (· hs)
  · exact (s.creditBack_keepsCredits q n).imp_left (· hs)
  · exact (s.discardAll_keepsCredits q).imp_left (· hs)
  · exact (execQueueFlush_keepsCredits h).all q hs
  · exact (execFlushDiscardEnd_keepsCredits h).all q hs

end Sys2Proof.Machine
end

section
/-! SUPPORT. The block at reset, and the commands of the register file, of the clock domains and of the queue ends: what each answers where it is accepted. -/

namespace Sys2Proof.Machine

/-- Settles O3: at reset every table is empty, so that a field reads its reset value and every other part its default. -/
theorem resetLeavesTheBlockAtRest : Obligations.ResetLeavesTheBlockAtRest := by
  unfold Obligations.ResetLeavesTheBlockAtRest
  have hqueue : ∀ q : Nat, (State.reset.queue q).accounted = qDepth q := fun q => by
    simp only [Queue.accounted, show State.reset.queue q = Queue.init q from rfl, Queue.init, List.length_nil]
    omega
  exact ⟨fun _ => ⟨rfl, rfl⟩, fun _ => ⟨rfl, rfl⟩, fun _ _ => rfl, fun _ => ⟨rfl, rfl⟩,
    fun q => ⟨rfl, rfl, State.creditsHold_iff.mpr (hqueue q)⟩, fun _ => rfl, rfl, rfl, rfl⟩

/-! ## Writes of pages and of memory -/

theorem State.pageWrite_accepted {s : State} {req : Req} {p off : Nat} (h : s.refusal req p off .b4 true = none) (d : Nat) :
    s.pageWrite req p off .b4 d = s.writeWord req p off d := by
  simp only [State.pageWrite, h]

/-- R30: the low word of a written value goes to the offset of the access. -/
theorem wordAt_low (data : BitVec 64) (off : Nat) : wordAt data off off = data.toNat % 2 ^ 32 := by
  rw [wordAt, Nat.sub_self, Nat.mul_zero, Nat.pow_zero, Nat.div_one]

/-- R30: the high word goes to the offset that follows. -/
theorem wordAt_high (data : BitVec 64) (off : Nat) : wordAt data off (off + 4) = data.toNat / 2 ^ 32 := by
  rw [wordAt, Nat.add_sub_cancel_left]
  have := data.isLt
  omega

/-- R30: an aligned access of 64 bits is two of 32 bits. -/
theorem State.inHalves_wide {s : State} {off : Nat} (h : off % 8 = 0) (access : State → Nat → AccessSize → State) :
    s.inHalves off .b8 access =
      { access (access s off .b4) (off + 4) .b4 with
        bus := { err := (access s off .b4).bus.err || (access (access s off .b4) (off + 4) .b4).bus.err,
                 data := (access s off .b4).bus.data + (access (access s off .b4) (off + 4) .b4).bus.data * 2 ^ 32 } } :=
  if_pos ⟨rfl, h⟩

/-- R22: the protected word of a byte is among the words of every range that the byte stands in. -/
theorem word_mem_wordsOf {a n i : Nat} (h : i < n) : (a + i) / wordSize a * wordSize a ∈ wordsOf a n := by
  have hk : wordSize a = 4 ∨ wordSize a = 8 := by unfold wordSize; split <;> simp
  refine List.mem_map.mpr ⟨(a + i) / wordSize a - a / wordSize a, List.mem_range.mpr ?_, ?_⟩
  · rcases hk with hk | hk <;> rw [hk] <;> omega
  · rcases hk with hk | hk <;> rw [hk] <;> omega

/-- R22: where no uncorrectable word is covered in part, every byte of a write lands. -/
theorem lands_of_partBad {s : State} {a n i : Nat} (h : s.partBad a n = false) (hi : i < n) : lands s.bad a n (a + i) = true := by
  by_contra hland
  obtain ⟨hbad, hcovers⟩ := (lands_eq_false_iff ..).mp (Bool.eq_false_iff.mpr hland)
  have := List.any_eq_false.mp h _ (word_mem_wordsOf hi)
  simp [hbad, hcovers] at this

/-- R22, R26: a write of a memory of FABRIC that nothing refuses. -/
theorem State.memWrite_fabric {s : State} {req : Req} {a : Nat} {b : Bytes} (h : busTarget req a = .mem .fabric)
    (hfirst : s.memRefusal req a true = none) (hlast : s.memRefusal req (a + b.length - 1) true = none)
    (hbad : s.partBad a b.length = false) : s.memWrite req a b = (s.write a b, 0) := by
  simp [State.memWrite, State.wakeMem, h, hfirst, hlast, hbad]

/-! ## Reads of pages -/

/-- R29, R31: a read of a register without a row of its own, by another requester than DEBUG. -/
theorem State.regRead_accepted {s : State} {req : Req} {p off : Nat} (h : s.refusal req p off .b4 false = none) (hreq : req ≠ .debug)
    (htxn : ¬(p = 0x00 ∧ off = 0x200)) (htime : ¬(p = 0x05 ∧ off = 0x104)) (haon : ¬(p = 0x03 ∧ off = 0x108))
    (htrng : ¬(p = 0x0B ∧ off = 0x100)) :
    s.regRead req p off =
      ((if p = 0x04 ∧ off = 0x100 then (s.answer 0).rtcLatch req else s.answer 0).clearRc req p off).answer ((s.answer 0).viewWord req p off) := by
  rw [State.regRead, State.onRead_accepted h, if_neg hreq, if_neg htxn, if_neg htime, if_neg haon, if_neg htrng]

/-- Settles O28: the register file accepts the access, so that the command is its effect. -/
theorem registerCommandsComplete : Obligations.RegisterCommandsComplete := by
  unfold Obligations.RegisterCommandsComplete
  refine ⟨?word, ?wide, ?memory, ?msix, ?read, ?readWide, ?readRtc, ?priv, ?soft, ?irqClear, ?irqSet, ?errClear, ?watermark⟩
  case word =>
    intro s req addr data p off h hok
    rw [exec_registerWrite_page h, State.inHalves, if_neg (by simp), wordAt_low, State.pageWrite_accepted hok]
  case wide =>
    rintro s req addr data p off _ _ h hoff hlow rfl hhigh rfl
    rw [exec_registerWrite_page h, State.inHalves_wide hoff, wordAt_low, wordAt_high, State.pageWrite_accepted hlow,
      State.pageWrite_accepted hhigh]
  case memory =>
    intro s req addr size data h hfirst hlast hbad
    have hlen : (leBytes size.bytes data.toNat).length = size.bytes := leBytes_length ..
    have hpage : ∀ p off, busTarget req addr.toNat ≠ .page p off := by simp [h]
    rw [exec_registerWrite_mem (inBar4_of_lt (busTarget_fabric_lt h)) hpage,
      State.memWrite_fabric (s := s.answer 0) h hfirst (by rwa [hlen]) (by rwa [hlen])]
    refine ⟨_, rfl, fun i hi => ?_, fun a ha => ?_, rfl⟩
    · have hi' : i < (leBytes size.bytes data.toNat).length := by rwa [hlen]
      rw [State.byte_write_at _ _ _ i hi', if_pos (lands_of_partBad (s := s.answer 0) (by rwa [hlen]) hi'), List.getD_eq_getElem _ _ hi']
    · exact State.byte_write_outside _ _ _ (by rwa [hlen])
  case msix =>
    intro s addr data hbar hoff hlt
    show execRegisterWrite .pcie addr .b4 data s = _
    simp only [execRegisterWrite, hbar, if_true, State.inHalves, reduceCtorEq, false_and, if_false, hoff, hlt, and_self, Nat.sub_self,
      Nat.mul_zero, Nat.pow_zero, Nat.div_one]
  case read =>
    intro s req page off hok hreq htxn htime haon htrng hrtc
    show Host.Outcome.next (State.inHalves ..) = _
    rw [State.inHalves, if_neg (by simp), State.regRead_accepted hok hreq htxn htime haon htrng, if_neg hrtc]
  case readWide =>
    rintro s req page off _ _ hoff rfl rfl
    exact congrArg Host.Outcome.next (State.inHalves_wide hoff _)
  case readRtc =>
    intro s req hok hreq
    show Host.Outcome.next (State.inHalves ..) = _
    exact congrArg Host.Outcome.next (State.regRead_accepted hok hreq (by decide) (by decide) (by decide) (by decide))
  case priv =>
    intro s req page data hok hlock hbit
    show Host.Outcome.next (State.onField ..) = _
    rw [State.onField_accepted hok, State.answer_flag, hlock]
    simp only [Bool.false_eq_true, if_false, setPriv, hbit, Nat.zero_ne_one, State.getF_answer]
  case soft =>
    intro s req page hok
    exact congrArg Host.Outcome.next (State.onField_accepted hok _)
  case irqClear =>
    intro s req page bits sameEdge hok
    exact congrArg Host.Outcome.next (State.onWrite_accepted hok _)
  case irqSet =>
    intro s req page bits hok
    exact congrArg Host.Outcome.next (State.onWrite_accepted hok _)
  case errClear =>
    intro s req page hok
    exact congrArg Host.Outcome.next (State.onWrite_accepted hok _)
  case watermark =>
    intro s req page qend hi lo hok hdepth
    exact congrArg Host.Outcome.next ((State.onWrite_accepted hok _).trans (if_neg hdepth))

/-- Settles O29: each condition is the guard of the branch that the command takes. -/
theorem domainAndQueueCommandsComplete : Obligations.DomainAndQueueCommandsComplete := by
  unfold Obligations.DomainAndQueueCommandsComplete
  refine ⟨?start, ?stop, ?memStays, ?stopPort, ?sumHolds, ?sumFails, ?ptrFault, ?ptrFaultTwin, ?flush, ?discardEnd⟩
  case start =>
    intro s dom hoff hstart hallowed
    show execDomainStart dom s = _
    simp [execDomainStart, hoff, hstart, hallowed]
  case stop =>
    intro s dom hmode hon hwork
    show execDomainIdleStop dom s = _
    rcases hwork with ⟨rfl, hidle⟩ | rfl
    · simp [execDomainIdleStop, hmode, hon, hidle]
    · simp [execDomainIdleStop, hmode, hon]
  case memStays =>
    intro s hbusy
    show execDomainIdleStop .mem s = _
    simp [execDomainIdleStop, hbusy, idle]
  case stopPort =>
    intro s hmode hon hidle hhold
    show execDomainIdleStop .port s = _
    simp [execDomainIdleStop, hmode, hon, hidle, hhold]
  case sumHolds =>
    intro s queue hdepth hsum
    show execQmonCreditCheck queue s = _
    simp only [execQmonCreditCheck, hdepth, hsum, if_false, if_true]
  case sumFails =>
    intro s queue hdepth hsum hfails
    show execQmonCreditCheck queue s = _
    simp only [execQmonCreditCheck, hdepth, hsum, hfails, if_false, if_true, Bool.false_eq_true, Nat.zero_add]
  case ptrFault =>
    intro s queue occA occB hpriv hne
    show execQprivPtrFault queue occA occB s = _
    simp only [execQprivPtrFault, hpriv, hne, Bool.not_true, Bool.false_eq_true, if_false]
  case ptrFaultTwin =>
    intro s queue occA occB he
    show execQprivPtrFault queue occA occB s = _
    simp only [execQprivPtrFault, he, show qPriv 0x181 = true from rfl, Bool.not_true, Bool.false_eq_true, if_false, if_true]
  case flush =>
    intro s req page qend producer reading hok hdepth hflush
    exact congrArg Host.Outcome.next ((State.onWrite_accepted hok _).trans (if_neg (by simp [hdepth, hflush])))
  case discardEnd =>
    rintro s page qend _ rfl hdiscard
    exact if_pos hdiscard

end Sys2Proof.Machine
end

section
/-! SUPPORT. Register pages: the error log (R38), the latched interrupts (R37), the privilege masks (R34), the shadow sets (R50, R51) and the reads by DEBUG (R31): what each write changes, and that it changes nothing else. -/

namespace Sys2Proof.Machine

/-! ## What changes nothing but the register fields and the bus answer -/

/-- The states differ in the register fields and the bus answer at most. -/
def OnlyRegs (s t : State) : Prop := ∃ r b, t = { s with regs := r, bus := b }

theorem OnlyRegs.rest {s t : State} (h : OnlyRegs s t) : t = { s with regs := t.regs, bus := t.bus } := by
  obtain ⟨_, _, rfl⟩ := h
  rfl

theorem OnlyRegs.eff {s t : State} (h : OnlyRegs s t) : t.eff = s.eff := by
  obtain ⟨_, _, rfl⟩ := h
  rfl

theorem OnlyRegs.mem {s t : State} (h : OnlyRegs s t) : t.mem = s.mem := by
  obtain ⟨_, _, rfl⟩ := h
  rfl

theorem OnlyRegs.refl (s : State) : OnlyRegs s s := ⟨_, _, rfl⟩

theorem OnlyRegs.trans {s t u : State} (h : OnlyRegs s t) (h' : OnlyRegs t u) : OnlyRegs s u := by
  obtain ⟨_, _, rfl⟩ := h
  obtain ⟨r, b, rfl⟩ := h'
  exact ⟨r, b, rfl⟩

theorem State.setF_onlyRegs (s : State) (f : Field) (v : Nat) : OnlyRegs s (s.setF f v) := ⟨_, _, rfl⟩

theorem State.answer_onlyRegs (s : State) (d : Nat) : OnlyRegs s (s.answer d) := ⟨_, _, rfl⟩

theorem State.err_onlyRegs (s : State) (p code info : Nat) : OnlyRegs s (s.err p code info) := ⟨_, _, s.err_rest p code info⟩

theorem State.busError_onlyRegs (s : State) (code info : Nat) : OnlyRegs s (s.busError code info) :=
  (s.err_onlyRegs 0 code info).trans ⟨_, _, rfl⟩

theorem OnlyRegs.setF {s t : State} (h : OnlyRegs s t) (f : Field) (v : Nat) : OnlyRegs s (t.setF f v) := h.trans (t.setF_onlyRegs f v)

theorem OnlyRegs.irq {s t : State} (h : OnlyRegs s t) (f : Field) : OnlyRegs s (t.irq f) := h.setF f 1

theorem OnlyRegs.answer {s t : State} (h : OnlyRegs s t) (d : Nat) : OnlyRegs s (t.answer d) := h.trans (t.answer_onlyRegs d)

theorem OnlyRegs.ite {s t u : State} {c : Prop} [Decidable c] (ht : OnlyRegs s t) (hu : OnlyRegs s u) : OnlyRegs s (if c then t else u) := by
  split <;> assumption

theorem foldl_onlyRegs {α : Type} {step : State → α → State} (hstep : ∀ t x, OnlyRegs t (step t x)) (l : List α) (s : State) :
    OnlyRegs s (l.foldl step s) := by
  induction l generalizing s with
  | nil => exact .refl s
  | cons x r ih => exact (hstep s x).trans (ih _)

/-- R26: a write of a page register whose effect is on register fields alone. -/
theorem State.onWrite_onlyRegs (s : State) (req : Req) (p off : Nat) {k : State → State} (hk : ∀ t, OnlyRegs t (k t)) :
    OnlyRegs s (s.onWrite req p off k) := by
  rcases s.onWrite_cases req p off k with htaken | ⟨c, i, hrefused⟩
  · rw [htaken]
    exact (s.answer_onlyRegs 0).trans (hk _)
  · rw [hrefused]
    exact s.busError_onlyRegs c i

/-! ## The error log of a page (R38) -/

/-- R38: the four fields of an error log are distinct. -/
theorem errorLog_keys_ne (p : Nat) :
    (Reg.ERR_CODE p).key ≠ (Reg.ERR_VALID p).key ∧ (Reg.ERR_CNT p).key ≠ (Reg.ERR_VALID p).key ∧ (Reg.ERR_INFO p).key ≠ (Reg.ERR_VALID p).key ∧
      (Reg.ERR_CNT p).key ≠ (Reg.ERR_CODE p).key ∧ (Reg.ERR_INFO p).key ≠ (Reg.ERR_CODE p).key ∧ (Reg.ERR_INFO p).key ≠ (Reg.ERR_CNT p).key := by
  simp only [Field.key, Reg.ERR_VALID, Reg.ERR_CODE, Reg.ERR_INFO, Reg.ERR_CNT]
  omega

/-- R38: the first error of a page is not counted. -/
theorem State.err_first_count {s : State} {p : Nat} (h : s.flag (Reg.ERR_VALID p) = false) (code info : Nat) :
    (s.err p code info).getF (Reg.ERR_CNT p) = s.getF (Reg.ERR_CNT p) := by
  obtain ⟨-, hnv, -, hnc, -, hin⟩ := errorLog_keys_ne p
  rw [State.err_of_first h, State.getF_setF_ne _ _ hin, State.getF_setF_ne _ _ hnc.symm, State.getF_setF_ne _ _ hnv.symm]

/-- R38: an error that follows leaves the log valid. -/
theorem State.err_later_valid {s : State} {p : Nat} (h : s.flag (Reg.ERR_VALID p) = true) (code info : Nat) :
    (s.err p code info).flag (Reg.ERR_VALID p) = true := by
  obtain ⟨-, hnv, -⟩ := errorLog_keys_ne p
  rw [State.err_of_later h, State.flag, State.count, State.getF_setF_ne _ _ hnv]
  exact h

/-- R38: what a write of 1 to VALID leaves in the log. -/
theorem clearErr_reads (s : State) (p : Nat) :
    (clearErr s p).getF (Reg.ERR_VALID p) = 0 ∧ (clearErr s p).getF (Reg.ERR_CODE p) = 0 ∧ (clearErr s p).getF (Reg.ERR_CNT p) = 0 ∧
      (clearErr s p).getF (Reg.ERR_INFO p) = 0 := by
  obtain ⟨hcv, hnv, hiv, hnc, hic, hin⟩ := errorLog_keys_ne p
  unfold clearErr
  refine ⟨?_, ?_, ?_, ?_⟩
  · rw [State.getF_setF_ne _ _ hiv, State.getF_setF_ne _ _ hnv, State.getF_setF_ne _ _ hcv, State.getF_setF_self, Nat.zero_mod]
  · rw [State.getF_setF_ne _ _ hic, State.getF_setF_ne _ _ hnc, State.getF_setF_self, Nat.zero_mod]
  · rw [State.getF_setF_ne _ _ hin, State.getF_setF_self, Nat.zero_mod]
  · rw [State.getF_setF_self, Nat.zero_mod]

theorem clearErr_keepsRegs (s : State) (p : Nat) :
    KeepsRegs s (clearErr s p) [Reg.ERR_VALID p, Reg.ERR_CODE p, Reg.ERR_INFO p, Reg.ERR_CNT p] :=
  ((((KeepsRegs.refl s _).setF (by simp) 0).setF (by simp) 0).setF (by simp) 0).setF (by simp) 0

theorem clearErr_onlyRegs (s : State) (p : Nat) : OnlyRegs s (clearErr s p) :=
  (((s.setF_onlyRegs _ 0).setF _ 0).setF _ 0).setF _ 0

/-- Settles O9: the error log takes the first error whole, counts the others, and loses all four fields to a write of 1 to VALID. -/
theorem errCodeKeepsTheFirstError : Obligations.ErrCodeKeepsTheFirstError := by
  unfold Obligations.ErrCodeKeepsTheFirstError
  refine ⟨?first, ?later, State.err_keepsRegs, ?clear⟩
  case first =>
    intro s p code info hcode hinfo h
    obtain ⟨hvalid, hc, hi⟩ := State.err_first hcode hinfo h
    exact ⟨hvalid, hc, hi, State.err_first_count h code info⟩
  case later =>
    intro s p code info h
    exact ⟨State.err_later_valid h code info, State.err_later code info h⟩
  case clear =>
    intro s req page hok
    obtain ⟨hvalid, hcode, hcnt, hinfo⟩ := clearErr_reads (s.answer 0) page.toNat
    refine ⟨_, congrArg Host.Outcome.next (State.onWrite_accepted hok _), hvalid, hcode, hcnt, hinfo, clearErr_keepsRegs (s.answer 0) _, ?_⟩
    exact ((s.answer_onlyRegs 0).trans (clearErr_onlyRegs _ _)).rest

/-! ## The latched interrupts of a page (R37) -/

theorem irqRaw_key_ne (p : Nat) {b c : Nat} (h : b ≠ c) : (Reg.irqRaw p b).key ≠ (Reg.irqRaw p c).key := by
  simp only [Field.key, Reg.irqRaw]
  omega

/-- R37: the value that a write gives each source, or none where it leaves the source as it is. -/
def State.putIrq (s : State) (p : Nat) (v : Nat → Option Nat) (b : Nat) : State :=
  match v b with
  | some x => s.setF (Reg.irqRaw p b) x
  | none => s

theorem State.putIrq_some {s : State} {p b x : Nat} {v : Nat → Option Nat} (h : v b = some x) : s.putIrq p v b = s.setF (Reg.irqRaw p b) x := by
  simp only [State.putIrq, h]

theorem State.putIrq_none {s : State} {p b : Nat} {v : Nat → Option Nat} (h : v b = none) : s.putIrq p v b = s := by
  simp only [State.putIrq, h]

theorem State.putIrq_onlyRegs (s : State) (p : Nat) (v : Nat → Option Nat) (b : Nat) : OnlyRegs s (s.putIrq p v b) := by
  cases h : v b with
  | some x => exact State.putIrq_some h ▸ s.setF_onlyRegs _ _
  | none => exact (State.putIrq_none h).symm ▸ .refl s

theorem State.getF_putIrq (s : State) (p : Nat) (v : Nat → Option Nat) (b c : Nat) :
    (s.putIrq p v b).getF (Reg.irqRaw p c) = if b = c then ((v c).map (· % 2)).getD (s.getF (Reg.irqRaw p c)) else s.getF (Reg.irqRaw p c) := by
  split_ifs with hbc
  · subst hbc
    cases h : v b with
    | some x => exact State.putIrq_some h ▸ State.getF_setF_self ..
    | none => exact (State.putIrq_none (s := s) (p := p) h).symm ▸ rfl
  · cases h : v b with
    | some x => exact State.putIrq_some h ▸ State.getF_setF_ne _ _ (irqRaw_key_ne p hbc)
    | none => exact (State.putIrq_none (s := s) (p := p) h).symm ▸ rfl

/-- R37: what a source reads after a write that gives values to the sources of a list. -/
theorem State.getF_foldl_putIrq (p : Nat) (v : Nat → Option Nat) (c : Nat) (l : List Nat) (s : State) :
    (l.foldl (fun t b => t.putIrq p v b) s).getF (Reg.irqRaw p c) =
      if c ∈ l then ((v c).map (· % 2)).getD (s.getF (Reg.irqRaw p c)) else s.getF (Reg.irqRaw p c) := by
  induction l generalizing s with
  | nil => rfl
  | cons b r ih =>
    rw [List.foldl_cons, ih, State.getF_putIrq]
    by_cases hb : b = c
    · subst hb
      cases v b <;> simp
    · simp [hb, Ne.symm hb]

/-- R37: the sources that a write of `IRQ_SET` sets. -/
def irqSets (p bits : Nat) (b : Nat) : Option Nat := if bitAt (latchedMask p) b = 1 ∧ bitAt bits b = 1 then some 1 else none

/-- R37: the sources that a write of `IRQ_STAT` clears, and those whose event on the same edge keeps them set. -/
def irqClears (p bits same : Nat) (b : Nat) : Option Nat :=
  if bitAt (latchedMask p) b = 1 then if bitAt same b = 1 then some 1 else if bitAt bits b = 1 then some 0 else none else none

theorem execIrqSet_eq (req : Req) (page : BitVec 8) (bits : Word) (s : State) :
    execIrqSet req page bits s = .next (s.onWrite req page.toNat 0x02C fun s =>
      (List.range 31).foldl (fun t b => t.putIrq page.toNat (irqSets page.toNat bits.toNat) b) s) := by
  unfold execIrqSet
  congr 3
  funext s
  congr 1
  funext t b
  split_ifs with h
  · exact (State.putIrq_some (if_pos h)).symm
  · exact (State.putIrq_none (if_neg h)).symm

theorem clearIrq_eq (s : State) (p bits same : Nat) :
    clearIrq s p bits same = (List.range 31).foldl (fun t b => t.putIrq p (irqClears p bits same) b) s := by
  unfold clearIrq
  congr 1
  funext t b
  have hlatched : bitAt (latchedMask p) b = 1 → irqClears p bits same b = if bitAt same b = 1 then some 1 else if bitAt bits b = 1 then some 0 else none :=
    fun h => if_pos h
  split_ifs with hmask hsame hbits
  · exact (State.putIrq_some ((hlatched hmask).trans (if_pos hsame))).symm
  · exact (State.putIrq_some ((hlatched hmask).trans ((if_neg hsame).trans (if_pos hbits)))).symm
  · exact (State.putIrq_none ((hlatched hmask).trans ((if_neg hsame).trans (if_neg hbits)))).symm
  · exact (State.putIrq_none (if_neg hmask)).symm

theorem foldl_putIrq_onlyRegs (s : State) (p : Nat) (v : Nat → Option Nat) (l : List Nat) : OnlyRegs s (l.foldl (fun t b => t.putIrq p v b) s) :=
  foldl_onlyRegs (fun t b => t.putIrq_onlyRegs p v b) l s

theorem clearIrq_onlyRegs (s : State) (p bits same : Nat) : OnlyRegs s (clearIrq s p bits same) := by
  rw [clearIrq_eq]
  exact foldl_putIrq_onlyRegs ..

/-- Settles O10: each of the two writes gives the latched sources it names their values, one by one. -/
theorem latchedInterruptsAreSetAndCleared : Obligations.LatchedInterruptsAreSetAndCleared := by
  unfold Obligations.LatchedInterruptsAreSetAndCleared
  have hrest : ∀ (s : State) (p : Nat) (v : Nat → Option Nat),
      OnlyRegs s ((List.range 31).foldl (fun t b => t.putIrq p v b) (s.answer 0)) := fun s p v =>
    (s.answer_onlyRegs 0).trans (foldl_putIrq_onlyRegs ..)
  constructor
  · intro s req page bits hok
    refine ⟨_, (execIrqSet_eq ..).trans (congrArg Host.Outcome.next (State.onWrite_accepted hok _)), (hrest ..).rest, fun b hb => ?_⟩
    rw [State.getF_foldl_putIrq, if_pos (List.mem_range.mpr hb), irqSets]
    split_ifs <;> rfl
  · intro s req page bits same hok
    refine ⟨_, congrArg Host.Outcome.next ((State.onWrite_accepted hok _).trans (clearIrq_eq ..)), (hrest ..).rest, fun b hb => ?_⟩
    rw [State.getF_foldl_putIrq, if_pos (List.mem_range.mpr hb), irqClears]
    by_cases hmask : bitAt (latchedMask page.toNat) b = 1
    · simp only [hmask, true_and, if_true]
      split_ifs <;> rfl
    · simp only [hmask, false_and, if_false]
      rfl

/-! ## The privilege masks of a page (R34) -/

theorem State.onField_untrusted {s : State} {req : Req} {f : Field} (h : Takes s req f.page f.off) (hf : f.trusted = true) (hreq : req ≠ .trusted)
    (k : State → State) : s.onField req f k = s.busError Err.privDeny (accessInfo f.page req f.off) := by
  simp only [State.onField, h, if_pos (And.intro hf hreq)]

/-- R34: what the masks and LOCK of a page read after a write that is taken. -/
theorem setPriv_reads (s : State) (p d : Nat) :
    (setPriv s p d).getF (Reg.BLK_PRIV_RD p) = bitsOf d 5 0 &&& s.getF (Reg.BLK_PRIV_RD_CEIL p) ∧
      (setPriv s p d).getF (Reg.BLK_PRIV_WR p) = bitsOf d 13 8 &&& s.getF (Reg.BLK_PRIV_WR_CEIL p) ∧
      (setPriv s p d).flag (Reg.BLK_PRIV_LOCK p) = (bitAt d 31 == 1 || s.flag (Reg.BLK_PRIV_LOCK p)) := by
  have hwr : (Reg.BLK_PRIV_RD p).key ≠ (Reg.BLK_PRIV_WR p).key := by simp only [Field.key, Reg.BLK_PRIV_RD, Reg.BLK_PRIV_WR]; omega
  have hlr : (Reg.BLK_PRIV_LOCK p).key ≠ (Reg.BLK_PRIV_RD p).key := by simp only [Field.key, Reg.BLK_PRIV_RD, Reg.BLK_PRIV_LOCK]; omega
  have hlw : (Reg.BLK_PRIV_LOCK p).key ≠ (Reg.BLK_PRIV_WR p).key := by simp only [Field.key, Reg.BLK_PRIV_WR, Reg.BLK_PRIV_LOCK]; omega
  have hceil : (Reg.BLK_PRIV_WR p).key ≠ (Reg.BLK_PRIV_RD_CEIL p).key := by
    simp only [Field.key, Reg.BLK_PRIV_WR, Reg.BLK_PRIV_RD_CEIL]; omega
  have hfits : ∀ hi lo c : Nat, hi + 1 - lo = 6 → (bitsOf d hi lo &&& c) % 2 ^ 6 = bitsOf d hi lo &&& c := fun hi lo c h => by
    refine Nat.mod_eq_of_lt (Nat.lt_of_le_of_lt Nat.and_le_left ?_)
    rw [bitsOf, h]
    exact Nat.mod_lt _ (by decide)
  simp only [setPriv, State.getF_setF_ne _ _ hceil]
  split_ifs with hlock
  · refine ⟨?_, ?_, ?_⟩
    · rw [State.getF_setF_ne _ _ hlr, State.getF_setF_self]
      exact hfits 5 0 _ rfl
    · rw [State.getF_setF_ne _ _ hlw, State.getF_setF_ne _ _ hwr, State.getF_setF_self]
      exact hfits 13 8 _ rfl
    · rw [State.flag, State.getF_setF_self, hlock]
      rfl
  · refine ⟨?_, ?_, ?_⟩
    · rw [State.getF_setF_self]
      exact hfits 5 0 _ rfl
    · rw [State.getF_setF_ne _ _ hwr, State.getF_setF_self]
      exact hfits 13 8 _ rfl
    · rw [State.flag, State.getF_setF_ne _ _ hlr.symm, State.getF_setF_ne _ _ hlw.symm, beq_false_of_ne hlock, Bool.false_or, State.flag]

theorem setPriv_keepsRegs (s : State) (p d : Nat) : KeepsRegs s (setPriv s p d) [Reg.BLK_PRIV_RD p, Reg.BLK_PRIV_WR p, Reg.BLK_PRIV_LOCK p] := by
  have hmasks : ∀ v w : Nat, KeepsRegs s ((s.setF (Reg.BLK_PRIV_WR p) v).setF (Reg.BLK_PRIV_RD p) w)
      [Reg.BLK_PRIV_RD p, Reg.BLK_PRIV_WR p, Reg.BLK_PRIV_LOCK p] := fun v w =>
    ((KeepsRegs.refl s _).setF (by simp) v).setF (by simp) w
  unfold setPriv
  split
  · exact (hmasks _ _).setF (by simp) 1
  · exact hmasks _ _

theorem setPriv_onlyRegs (s : State) (p d : Nat) : OnlyRegs s (setPriv s p d) := by
  unfold setPriv
  split
  · exact ((s.setF_onlyRegs _ _).setF _ _).setF _ 1
  · exact (s.setF_onlyRegs _ _).setF _ _

/-- Settles O11: the requester is checked first, then LOCK; a write that passes both gives the masks under their ceilings. -/
theorem masksStayUnderTheirCeilings : Obligations.MasksStayUnderTheirCeilings := by
  unfold Obligations.MasksStayUnderTheirCeilings
  have htakes : ∀ {s : State} {page : BitVec 8}, Takes s .trusted page.toNat 0x00C → TakesF s .trusted (Reg.BLK_PRIV_WR page.toNat) :=
    fun hok => ⟨hok, fun _ => rfl⟩
  refine ⟨?untrusted, ?locked, ?taken⟩
  case untrusted =>
    intro s req page data hok hreq
    exact ⟨_, congrArg Host.Outcome.next (State.onField_untrusted (f := Reg.BLK_PRIV_WR page.toNat) hok rfl hreq _),
      s.busError_busErrorOf (by decide) (accessInfo_lt ..)⟩
  case locked =>
    intro s page data hok hlock
    exact congrArg Host.Outcome.next ((State.onField_accepted (htakes hok) _).trans (if_pos hlock))
  case taken =>
    intro s page data hok hlock
    obtain ⟨hrd, hwr, hl⟩ := setPriv_reads (s.answer 0) page.toNat data.toNat
    rw [State.answer_flag, hlock, Bool.or_false] at hl
    refine ⟨_, congrArg Host.Outcome.next ((State.onField_accepted (htakes hok) _).trans (if_neg (by simp [hlock]))), hrd, hwr, hl,
      setPriv_keepsRegs (s.answer 0) _ _, ?_⟩
    exact ((s.answer_onlyRegs 0).trans (setPriv_onlyRegs _ _ _)).rest

/-! ## The shadow sets (R50, R51) -/

/-- R51: the state in which a list of S-fields has taken its shadow values. -/
def State.shadowTaken (s : State) (fs : List Field) : State := fs.foldl (fun t f => t.setEff f (t.getF f)) s

theorem State.shadowTaken_regs (s : State) (fs : List Field) : (s.shadowTaken fs).regs = s.regs := by
  induction fs generalizing s with
  | nil => rfl
  | cons f r ih => exact ih _

theorem State.shadowTaken_getF (s : State) (fs : List Field) (f : Field) : (s.shadowTaken fs).getF f = s.getF f := by
  rw [State.getF, State.shadowTaken_regs, State.getF]

theorem State.getEff_shadowTaken_ne {s : State} {fs : List Field} {f : Field} (h : f.key ∉ fs.map Field.key) :
    (s.shadowTaken fs).getEff f = s.getEff f := by
  induction fs generalizing s with
  | nil => rfl
  | cons g r ih =>
    rw [List.map_cons, List.mem_cons, not_or] at h
    obtain ⟨hne, hr⟩ := h
    exact (ih hr).trans (State.getEff_setEff_ne _ _ (Ne.symm hne))

/-- R51: a field of a set of distinct fields takes its shadow value. -/
theorem State.getEff_shadowTaken {s : State} {fs : List Field} {f : Field} (hfs : (fs.map Field.key).Nodup) (h : f ∈ fs) :
    (s.shadowTaken fs).getEff f = s.getF f % 2 ^ f.width := by
  induction fs generalizing s with
  | nil => cases h
  | cons g r ih =>
    obtain ⟨hnot, hr⟩ := List.nodup_cons.mp hfs
    rcases List.mem_cons.mp h with rfl | h
    · exact (State.getEff_shadowTaken_ne hnot).trans (State.getEff_setEff_self ..)
    · exact ih hr h

theorem State.handOver_armed {s : State} {p : Nat} {r : ShadowRegs} {fs : List Field} (h : s.flag r.arm = true) :
    s.handOver p r fs = (((s.shadowTaken fs).setF r.arm 0).setF r.gen (s.getF r.gen + 1)).irq (Reg.irqRaw p 29) :=
  (if_pos h).trans (by rw [← s.shadowTaken_getF fs r.gen]; rfl)

/-- R50, R375: SHADOW_ARM, GEN and the SHADOW source of a page are three fields. -/
theorem shadowRegs_keys_ne (p c : Nat) : (shadowRegs p c).gen.key ≠ (shadowRegs p c).arm.key ∧
    (Reg.irqRaw p 29).key ≠ (shadowRegs p c).arm.key ∧ (Reg.irqRaw p 29).key ≠ (shadowRegs p c).gen.key := by
  unfold shadowRegs
  split
  next hdma =>
    simp only [Field.key, Reg.irqRaw, Reg.DMA_CH_SHADOW_SHADOW_ARM, Reg.DMA_CH_SHADOW_GEN]
    omega
  next =>
    simp only [Field.key, Reg.irqRaw, Reg.SHADOW_ARM, Reg.SHADOW_GEN]
    omega

theorem shadowRegs_gen_width (p c : Nat) : (shadowRegs p c).gen.width = 16 := by
  unfold shadowRegs
  split <;> rfl

theorem State.writeShadow_onlyRegs (s : State) (req : Req) (p chan off d : Nat) : OnlyRegs s (s.writeShadow req p chan off d) := by
  unfold State.writeShadow
  dsimp only
  split_ifs
  · exact .refl s
  · exact s.err_onlyRegs _ _ _
  · exact (foldl_onlyRegs (fun t f => t.setF_onlyRegs f _) _ s).setF _ _

theorem State.sFieldWrite_onlyRegs (s : State) (req : Req) (page : BitVec 8) (off : BitVec 12) (data : Word) :
    ∃ t, exec (.sFieldWrite req page off data) s = .next t ∧ OnlyRegs s t :=
  ⟨_, rfl, s.onWrite_onlyRegs req _ _ fun t => t.writeShadow_onlyRegs ..⟩

/-- Settles O15: the set in effect is replaced field by field from the shadow, by a hand-over alone. -/
theorem aHandOverTakesTheWholeShadowSet : Obligations.AHandOverTakesTheWholeShadowSet := by
  unfold Obligations.AHandOverTakesTheWholeShadowSet
  refine ⟨?armed, ?idle, ?write⟩
  case armed =>
    intro s p c fs hfs harm
    obtain ⟨hga, hia, hig⟩ := shadowRegs_keys_ne p c
    rw [State.handOver_armed harm]
    refine ⟨fun f hf => State.getEff_shadowTaken hfs hf, ?_, ?_, ?_, ?_⟩
    · rw [State.flag, State.irq, State.getF_setF_ne _ _ hia, State.getF_setF_ne _ _ hga, State.getF_setF_self, Nat.zero_mod]
      rfl
    · rw [State.irq, State.getF_setF_ne _ _ hig, State.getF_setF_self, shadowRegs_gen_width]
    · rw [State.flag, State.irq, State.getF_setF_self]
      rfl
    · have hregs : KeepsRegs s (s.shadowTaken fs) [(shadowRegs p c).arm, (shadowRegs p c).gen, Reg.irqRaw p 29] := fun k _ d => by
        rw [State.shadowTaken_regs]
      exact ((hregs.setF (by simp) 0).setF (by simp) _).setF (by simp) 1
  case idle =>
    intro s p c fs harm
    exact if_neg (by simp [harm])
  case write =>
    intro s t req page off data ht
    obtain ⟨u, hu, honly⟩ := s.sFieldWrite_onlyRegs req page off data
    obtain rfl : u = t := Host.Outcome.next.inj (hu.symm.trans ht)
    exact ⟨honly.eff, honly.rest⟩

/-! ## Reads by DEBUG (R31) -/

/-- Settles O8: each read looks at the requester before it acts. -/
theorem aDebugReadHasNoSideEffect : Obligations.ADebugReadHasNoSideEffect := by
  unfold Obligations.ADebugReadHasNoSideEffect
  have htrng : ∀ s : State, s.refusal .debug 0x0B 0x100 .b4 false = none → ∃ d : Nat, execTrngDataRead .debug s = .next (s.answer d) :=
    fun s hok => ⟨_, congrArg Host.Outcome.next (State.onRead_accepted hok _)⟩
  refine ⟨?read, ?begin, ?time, ?aon, htrng⟩
  case read =>
    intro s page off hok
    by_cases hdata : page.toNat = 0x0B ∧ off.toNat = 0x100
    · obtain ⟨hpage, hoff⟩ := hdata
      rw [hpage, hoff] at hok
      obtain ⟨d, hd⟩ := htrng (s.answer 0) hok
      refine ⟨d, congrArg Host.Outcome.next ?_⟩
      show s.regRead .debug page.toNat off.toNat = _
      rw [hpage, hoff, State.regRead, State.onRead_accepted hok, if_pos rfl, if_pos ⟨rfl, rfl⟩, State.after', hd]
      rfl
    · refine ⟨(s.answer 0).viewWord .debug page.toNat off.toNat, congrArg Host.Outcome.next ?_⟩
      show s.regRead .debug page.toNat off.toNat = _
      rw [State.regRead, State.onRead_accepted hok, if_pos rfl, if_neg hdata]
      rfl
  case begin =>
    exact fun s hok => ⟨0, congrArg Host.Outcome.next (State.onRead_accepted hok _)⟩
  case time =>
    exact fun s hok => ⟨_, congrArg Host.Outcome.next (State.onRead_accepted hok _)⟩
  case aon =>
    exact fun s hok => ⟨_, congrArg Host.Outcome.next (State.onRead_accepted hok _)⟩

end Sys2Proof.Machine
end

section
/-! SUPPORT. Transactions (R40 to R49): what staging and a roll-back change and what they leave, and what each command of a transaction answers where it is accepted. -/

namespace Sys2Proof.Machine

/-! ## What changes nothing but the register fields, the transactions and the bus answer -/

/-- The states differ in the register fields, the transactions and the bus answer at most. -/
def OnlyTxns (s t : State) : Prop := ∃ r x b, t = { s with regs := r, txns := x, bus := b }

theorem OnlyTxns.rest {s t : State} (h : OnlyTxns s t) : t = { s with regs := t.regs, txns := t.txns, bus := t.bus } := by
  obtain ⟨_, _, _, rfl⟩ := h
  rfl

theorem OnlyTxns.mem {s t : State} (h : OnlyTxns s t) : t.mem = s.mem := by
  obtain ⟨_, _, _, rfl⟩ := h
  rfl

theorem OnlyRegs.onlyTxns {s t : State} (h : OnlyRegs s t) : OnlyTxns s t := by
  obtain ⟨r, b, rfl⟩ := h
  exact ⟨r, s.txns, b, rfl⟩

theorem OnlyRegs.txn {s t : State} (h : OnlyRegs s t) (n : Nat) : t.txn n = s.txn n := by
  obtain ⟨_, _, rfl⟩ := h
  rfl

theorem OnlyRegs.txns {s t : State} (h : OnlyRegs s t) : t.txns = s.txns := by
  obtain ⟨_, _, rfl⟩ := h
  rfl

theorem OnlyTxns.trans {s t u : State} (h : OnlyTxns s t) (h' : OnlyTxns t u) : OnlyTxns s u := by
  obtain ⟨_, _, _, rfl⟩ := h
  obtain ⟨r, x, b, rfl⟩ := h'
  exact ⟨r, x, b, rfl⟩

theorem State.setTxn_onlyTxns (s : State) (n : Nat) (x : Txn) : OnlyTxns s (s.setTxn n x) := ⟨_, _, _, rfl⟩

theorem State.txn_setTxn_self (s : State) (n : Nat) (x : Txn) : (s.setTxn n x).txn n = x := sget_sput_self ..

theorem KeepsRegs.trans {s t u : State} {l : List Field} (h : KeepsRegs s t l) (h' : KeepsRegs t u l) : KeepsRegs s u l :=
  fun k hk d => (h' k hk d).trans (h k hk d)

/-! ## The write of a word -/

/-- R26, R35: the write of a register word is taken, or ends in a bus error. -/
theorem State.onWord_cases (s : State) (req : Req) (p off d : Nat) (k : State → State) :
    s.onWord req p off d k = k (s.answer 0) ∨ ∃ c i, s.onWord req p off d k = s.busError c i := by
  unfold State.onWord
  rcases s.onWrite_cases req p off _ with htaken | hrefused
  · rw [htaken]
    split
    · exact .inr ⟨_, _, s.busError_answer ..⟩
    · exact .inl rfl
  · exact .inr hrefused

theorem State.onWord_accepted {s : State} {req : Req} {p off d : Nat} (h : Takes s req p off) (htrusted : trustedHit req p off d = false)
    (k : State → State) : s.onWord req p off d k = k (s.answer 0) := by
  rw [State.onWord, State.onWrite_accepted h, if_neg (by simp [htrusted])]

/-! ## Staging (R43 to R45) -/

/-- R43, R44: values are staged together in a tag, or refused together with an error of SYS. -/
theorem State.stage_cases (s : State) (req : Req) (tag p off : Nat) (l : List (Field × Nat)) :
    (∃ x, s.stage req tag p off l = s.setTxn tag x) ∨ ∃ c i, s.stage req tag p off l = s.err 0 c i := by
  unfold State.stage
  dsimp only
  split_ifs
  · exact .inr ⟨_, _, rfl⟩
  · exact .inr ⟨_, _, rfl⟩
  · exact .inr ⟨_, _, rfl⟩
  · exact .inr ⟨_, _, rfl⟩
  · exact .inl ⟨_, rfl⟩

/-- R43: what staging leaves of the state: the fields but for the error log of SYS, and all but the transactions and the bus answer. -/
structure OnlyStages (s t : State) : Prop where
  log : KeepsRegs s t sysErrorLog
  rest : OnlyTxns s t

theorem OnlyStages.trans {s t u : State} (h : OnlyStages s t) (h' : OnlyStages t u) : OnlyStages s u :=
  ⟨h.log.trans h'.log, h.rest.trans h'.rest⟩

theorem State.answer_onlyStages (s : State) (d : Nat) : OnlyStages s (s.answer d) := ⟨fun _ _ _ => rfl, (s.answer_onlyRegs d).onlyTxns⟩

theorem State.busError_onlyStages (s : State) (c i : Nat) : OnlyStages s (s.busError c i) :=
  ⟨s.err_keepsRegs 0 c i, (s.busError_onlyRegs c i).onlyTxns⟩

theorem State.stage_onlyStages (s : State) (req : Req) (tag p off : Nat) (l : List (Field × Nat)) : OnlyStages s (s.stage req tag p off l) := by
  rcases s.stage_cases req tag p off l with ⟨x, h⟩ | ⟨c, i, h⟩
  · rw [h]
    exact ⟨fun _ _ _ => rfl, s.setTxn_onlyTxns tag x⟩
  · rw [h]
    exact ⟨s.err_keepsRegs 0 c i, (s.err_onlyRegs 0 c i).onlyTxns⟩

theorem State.txnStagedWrite_onlyStages (s : State) (req : Req) (page : BitVec 8) (off : BitVec 12) (data : Word) :
    ∃ t, exec (.txnStagedWrite req page off data) s = .next t ∧ OnlyStages s t := by
  refine ⟨_, rfl, ?_⟩
  rcases s.onWord_cases req page.toNat off.toNat data.toNat _ with htaken | ⟨c, i, hrefused⟩
  · rw [htaken]
    dsimp only
    split
    · exact s.answer_onlyStages 0
    · exact (s.answer_onlyStages 0).trans (State.stage_onlyStages ..)
  · rw [hrefused]
    exact s.busError_onlyStages c i

/-- R28: within a page, fields at different offsets are different. -/
theorem key_ne_of_off {f g : Field} (hf : f.off < 4096) (hfl : f.lo < 32) (hg : g.off < 4096) (hgl : g.lo < 32) (h : g.off ≠ f.off) :
    g.key ≠ f.key := by
  simp only [Field.key]
  omega

/-- Settles O13: staging reaches the transactions and the error log of SYS alone, where no other field stands. -/
theorem aStagedWriteChangesNoField : Obligations.AStagedWriteChangesNoField := by
  unfold Obligations.AStagedWriteChangesNoField
  intro s t req page off data ht
  obtain ⟨u, hu, hstage⟩ := s.txnStagedWrite_onlyStages req page off data
  obtain rfl : u = t := Host.Outcome.next.inj (hu.symm.trans ht)
  refine ⟨hstage.log, hstage.rest.rest, fun f _ _ hoff hlo hcode hinfo => hstage.log.getF fun g hg => ?_⟩
  simp only [sysErrorLog, List.mem_cons, List.not_mem_nil, or_false] at hg
  rcases hg with rfl | rfl | rfl | rfl
  · exact key_ne_of_off hoff hlo (by decide) (by decide) hcode.symm
  · exact key_ne_of_off hoff hlo (by decide) (by decide) hcode.symm
  · exact key_ne_of_off hoff hlo (by decide) (by decide) hinfo.symm
  · exact key_ne_of_off hoff hlo (by decide) (by decide) hcode.symm

/-! ## The end of a tag (R42, R49) -/

/-- R49: the end of a tag changes its entry, and register fields of the pages that took part. -/
theorem State.endTxn_onlyRegs (s : State) (n : Nat) (x : Txn) (outcome : Nat) :
    OnlyRegs (s.setTxn n { x with staged := [], trigger := .none }) (s.endTxn n x outcome) :=
  foldl_onlyRegs (fun t p => ((t.setF_onlyRegs (Reg.irqRaw p 30) 1).setF _ outcome).setF _ n) _ _

theorem State.endTxn_onlyTxns (s : State) (n : Nat) (x : Txn) (outcome : Nat) : OnlyTxns s (s.endTxn n x outcome) :=
  (s.setTxn_onlyTxns n _).trans (s.endTxn_onlyRegs n x outcome).onlyTxns

theorem State.txn_endTxn_self (s : State) (n : Nat) (x : Txn) (outcome : Nat) :
    (s.endTxn n x outcome).txn n = { x with staged := [], trigger := .none } :=
  ((s.endTxn_onlyRegs n x outcome).txn n).trans (s.txn_setTxn_self n _)

/-- R49: the end of a tag changes no field but the TXN source and TXN_STAT of a page. -/
theorem State.endTxn_getF (s : State) (n : Nat) (x : Txn) (outcome : Nat) {f : Field} (hoff : f.off < 4096) (hlo : f.lo < 32) (hirq : f.off ≠ 0x020)
    (hstat : f.off ≠ 0x040) : (s.endTxn n x outcome).getF f = s.getF f := by
  refine State.getF_foldl_ne _ _ f (fun t p => ?_) _
  have hraw : (Reg.irqRaw p 30).key ≠ f.key := key_ne_of_off hoff hlo (by decide : 0x020 < 4096) (by decide : 30 < 32) hirq.symm
  have hout : (Reg.TXN_STAT_LAST_OUTCOME p).key ≠ f.key := key_ne_of_off hoff hlo (by decide : 0x040 < 4096) (by decide : 12 < 32) hstat.symm
  have htag : (Reg.TXN_STAT_LAST_TAG p).key ≠ f.key := key_ne_of_off hoff hlo (by decide : 0x040 < 4096) (by decide : 8 < 32) hstat.symm
  rw [State.getF_setF_ne _ _ htag, State.getF_setF_ne _ _ hout, State.irq, State.getF_setF_ne _ _ hraw]

/-- R38: an error changes no field but those of the error log of its page. -/
theorem State.err_getF (s : State) (p c i : Nat) {f : Field} (hoff : f.off < 4096) (hlo : f.lo < 32) (hcode : f.off ≠ 0x030) (hinfo : f.off ≠ 0x034) :
    (s.err p c i).getF f = s.getF f := by
  refine (s.err_keepsRegs p c i).getF fun g hg => ?_
  simp only [List.mem_cons, List.not_mem_nil, or_false] at hg
  rcases hg with rfl | rfl | rfl | rfl
  · exact key_ne_of_off hoff hlo (by decide : 0x030 < 4096) (by decide : 31 < 32) hcode.symm
  · exact key_ne_of_off hoff hlo (by decide : 0x030 < 4096) (by decide : 0 < 32) hcode.symm
  · exact key_ne_of_off hoff hlo (by decide : 0x034 < 4096) (by decide : 0 < 32) hinfo.symm
  · exact key_ne_of_off hoff hlo (by decide : 0x030 < 4096) (by decide : 16 < 32) hcode.symm

/-- R41: a tag that a requester owns is one of the four, and allocated to it. -/
theorem State.owns_iff {s : State} {req : Req} {n : Nat} :
    s.owns req n = true ↔ (1 ≤ n ∧ n ≤ 4) ∧ (s.txn n).state ≠ .free ∧ (s.txn n).owner = req := by
  simp [State.owns, and_assoc]

theorem State.ifOwner_owned {s : State} {req : Req} {n : Nat} (h : s.owns req n = true) (off : Nat) (k : State → State) : s.ifOwner req n off k = k s :=
  if_pos h

/-- R42: what TXN_ABORT answers for a tag that the requester owns, open or armed. -/
theorem State.exec_txnAbort_owned {s : State} {req : Req} {tag : BitVec 3} (hok : Takes s req 0x00 0x20C) (howns : s.owns req tag.toNat = true)
    (hstate : (s.txn tag.toNat).state = .opened ∨ (s.txn tag.toNat).state = .armed) :
    exec (.txnAbort req tag) s = .next ((s.answer 0).rollBack tag.toNat 1 0) :=
  congrArg Host.Outcome.next (((State.onWrite_accepted hok _).trans (State.ifOwner_owned (s := s.answer 0) howns _ _)).trans (if_pos hstate))

/-- R26, R41, R42: TXN_ABORT rolls the tag back, leaves it as it is, or is refused with an error of SYS. -/
theorem State.txnAbort_cases (s : State) (req : Req) (tag : BitVec 3) :
    ∃ t, exec (.txnAbort req tag) s = .next t ∧
      (t = (s.answer 0).rollBack tag.toNat 1 0 ∨ t = s.answer 0 ∨ (∃ c i, t = (s.answer 0).err 0 c i) ∨ ∃ c i, t = s.busError c i) := by
  refine ⟨_, rfl, ?_⟩
  rcases s.onWrite_cases req 0x00 0x20C _ with htaken | ⟨c, i, hrefused⟩
  · rw [htaken, State.ifOwner]
    split
    · split
      · exact .inl rfl
      · exact .inr (.inl rfl)
    · exact .inr (.inr (.inl ⟨_, _, rfl⟩))
  · exact .inr (.inr (.inr ⟨c, i, hrefused⟩))

/-- Settles O14: every end of TXN_ABORT is a roll-back, an error of SYS or no change at all. -/
theorem aRollBackChangesNoField : Obligations.ARollBackChangesNoField := by
  unfold Obligations.ARollBackChangesNoField
  constructor
  · intro s req tag hok hlow hhigh howner hstate
    have howns : s.owns req tag.toNat = true :=
      State.owns_iff.mpr ⟨⟨hlow, hhigh⟩, by rcases hstate with h | h <;> rw [h] <;> decide, howner⟩
    refine ⟨_, State.exec_txnAbort_owned hok howns hstate, ?_, ?_⟩
    · rw [State.rollBack, State.txn_endTxn_self]
    · rw [State.rollBack, State.txn_endTxn_self]
  · intro s t req tag ht
    obtain ⟨u, hu, hcases⟩ := s.txnAbort_cases req tag
    obtain rfl : u = t := Host.Outcome.next.inj (hu.symm.trans ht)
    rcases hcases with rfl | rfl | ⟨c, i, rfl⟩ | ⟨c, i, rfl⟩
    · refine ⟨((s.answer_onlyRegs 0).onlyTxns.trans (State.endTxn_onlyTxns ..)).rest, fun f hoff hlo hirq _ _ hstat => ?_⟩
      exact State.endTxn_getF (s.answer 0) _ _ _ hoff hlo hirq hstat
    · exact ⟨(s.answer_onlyRegs 0).onlyTxns.rest, fun _ _ _ _ _ _ _ => rfl⟩
    · refine ⟨((s.answer_onlyRegs 0).trans (State.err_onlyRegs ..)).onlyTxns.rest, fun f hoff hlo _ hcode hinfo _ => ?_⟩
      exact State.err_getF (s.answer 0) 0 c i hoff hlo hcode hinfo
    · exact ⟨(s.busError_onlyRegs c i).onlyTxns.rest, fun f hoff hlo _ hcode hinfo _ => State.err_getF s 0 c i hoff hlo hcode hinfo⟩

/-! ## What each command of a transaction answers -/

/-- R43, R44: values that nothing refuses are staged in an open tag of the requester's. -/
theorem State.stage_taken {s : State} {req : Req} {tag : Nat} {l n : List (Field × Nat)} (howner : (s.txn tag).owner = req)
    (hopen : (s.txn tag).state = .opened) (hfree : l.any (fun x => (s.stagedBy x.1 tag).isSome) = false)
    (hn : n = l.foldl (fun a x => putStaged a x.1 x.2) (s.txn tag).staged) (hregs : stagedRegs n ≤ 256)
    (htotal : s.stagedTotal - stagedRegs (s.txn tag).staged + stagedRegs n ≤ 1024) (p off : Nat) :
    s.stage req tag p off l = s.setTxn tag { s.txn tag with staged := n } := by
  subst hn
  unfold State.stage
  dsimp only
  rw [if_neg (fun h => h.2 howner), if_neg (not_not_intro hopen), if_neg (by simp only [hfree, Bool.false_eq_true, not_false_eq_true]),
    if_neg (by omega)]

/-- R43: a one-write transaction that nothing refuses is committed as one set. -/
theorem State.oneWrite_taken {s t : State} {l : List (Field × Nat)} (hne : l.isEmpty = false) (hfree : l.any (fun x => (s.stagedBy x.1 0).isSome) = false)
    (haccept : s.acceptRefused l = (t, none)) (hcredit : t.ordersSet l = false ∨ t.hasCredit 0x80 = true) (req : Req) (p off : Nat) :
    s.oneWrite req p off l = t.commitSet l := by
  have hone : s.oneSet l = (t.commitSet l, none) := by
    rw [State.oneSet, haccept]
    exact congrArg (·, none) (if_neg (by rcases hcredit with h | h <;> simp [h]))
  simp only [State.oneWrite, hne, hfree, hone, Bool.false_eq_true, if_false]

/-- R46: COMMIT arms an open tag whose set is accepted; a trigger that has occurred already fires at once. -/
theorem State.commit_taken {s t u : State} {req : Req} {n : Nat} {g : Trigger} {late : Bool} (hok : Takes s req 0x00 0x208) (howns : s.owns req n = true)
    (hopen : (s.txn n).state = .opened) (haccept : (s.answer 0).acceptRefused (s.txn n).staged = (t, none))
    (hu : u = t.setTxn n { t.txn n with state := .armed, trigger := g, late := late }) :
    s.commit req n (some (g, late)) = if u.triggered g then u.fireTxn n else u := by
  have howns' : (s.answer 0).owns req n = true := howns
  have hopen' : ¬((s.answer 0).txn n).state ≠ .opened := not_not_intro hopen
  have haccept' : (s.answer 0).acceptRefused ((s.answer 0).txn n).staged = (t, none) := haccept
  subst hu
  rw [State.commit, State.onWrite_accepted hok, State.ifOwner_owned howns', if_neg hopen']
  simp only [haccept']

theorem State.commit_armed {s t : State} {req : Req} {n : Nat} {g : Trigger} {late : Bool} (hok : Takes s req 0x00 0x208) (howns : s.owns req n = true)
    (hopen : (s.txn n).state = .opened) (haccept : (s.answer 0).acceptRefused (s.txn n).staged = (t, none))
    (hwaits : (t.setTxn n { t.txn n with state := .armed, trigger := g, late := late }).triggered g = false) :
    s.commit req n (some (g, late)) = t.setTxn n { t.txn n with state := .armed, trigger := g, late := late } :=
  (State.commit_taken hok howns hopen haccept rfl).trans (if_neg (by simp [hwaits]))

theorem foldl_fixed_of_mem {α β : Type} {step : β → α → β} {a : β} {l : List α} (h : ∀ x ∈ l, step a x = a) : l.foldl step a = a := by
  induction l with
  | nil => rfl
  | cons x r ih =>
    rw [List.foldl_cons, h x (List.mem_cons_self ..)]
    exact ih fun y hy => h y (List.mem_cons_of_mem _ hy)

/-- R47, R48: the trigger edge of tags of which none is refused, alone or together: their sets are taken as one. -/
theorem State.fireTxn_taken {s : State} {n : Nat} {tags : List Nat} {l : List (Field × Nat)} (htags : tags = s.tagsWith n)
    (hready : tags.all (fun m => (s.tagRefused m).isNone) = true) (hne : tags ≠ []) (hl : l = tags.flatMap (fun m => (s.txn m).staged))
    (hset : tags.length < 2 ∨ s.setRefused l = none) (hcredit : s.ordersSet l = false ∨ s.hasCredit 0x80 = true) :
    s.fireTxn n = (tags.foldl (fun v m => v.setTxn m { v.txn m with state := .committing }) s).commitSet l := by
  have hok : tags.filter (fun m => (s.tagRefused m).isNone) = tags := List.filter_eq_self.mpr (List.all_eq_true.mp hready)
  have hall : ∀ m ∈ tags, s.tagRefused m = none := fun m hm => Option.isNone_iff_eq_none.mp (List.all_eq_true.mp hready m hm)
  have htogether : (if tags.length < 2 then none else s.setRefused l) = none := by
    rcases hset with h | h
    · exact if_pos h
    · rw [h, ite_self]
  have hgo : ¬(tags.isEmpty = true ∨ (s.ordersSet l && !s.hasCredit 0x80) = true) := by
    rintro (h | h)
    · exact hne (List.isEmpty_iff.mp h)
    · rcases hcredit with hc | hc <;> simp [hc] at h
  unfold State.fireTxn
  simp only [← htags, hok, ← hl]
  rw [foldl_fixed_of_mem (a := s) (l := tags) fun m hm => by simp only [hall m hm], htogether]
  exact if_neg hgo

/-- Settles O30: each condition is the guard of the branch that the command takes. -/
theorem transactionCommandsComplete : Obligations.TransactionCommandsComplete := by
  unfold Obligations.TransactionCommandsComplete
  refine ⟨?begin, ?sel, ?staged, ?one, ?now, ?atTime, ?atInterval, ?atBeacon, ?atCycle, ?abort, ?timeout, ?trigger, ?switched, ?sField, ?arm⟩
  case begin =>
    intro s req hok hreq
    exact congrArg Host.Outcome.next ((State.onRead_accepted hok _).trans (if_neg hreq))
  case sel =>
    intro s req tag hok htag
    refine congrArg Host.Outcome.next ((State.onWrite_accepted hok _).trans ?_)
    rcases htag with rfl | howns
    · exact if_pos rfl
    · exact (congrArg (ite _ _) (State.ifOwner_owned (s := s.answer 0) howns _ _)).trans (ite_self _)
  case staged =>
    rintro s req page off data l n _ hok htrusted rfl hne rfl htag howner hopen hfree hn hregs htotal
    refine congrArg Host.Outcome.next ((State.onWord_accepted hok htrusted _).trans ((if_neg ?_).trans ?_))
    · rintro (hempty | hsel)
      · rw [hne] at hempty
        cases hempty
      · exact htag hsel
    · exact State.stage_taken (s := s.answer 0) howner hopen hfree hn hregs htotal _ _
  case one =>
    rintro s req page off data l t hok htrusted hsel rfl hne hfree haccept hcredit
    refine congrArg Host.Outcome.next ((State.onWord_accepted hok htrusted _).trans ((if_pos hsel).trans ?_))
    exact State.oneWrite_taken (s := s.answer 0) hne hfree haccept hcredit ..
  case now =>
    intro s req tag t u hok howns hopen haccept hu htags hready hcredit
    refine congrArg Host.Outcome.next ((State.commit_taken hok howns hopen haccept hu).trans ((if_pos rfl).trans ?_))
    have hfire := State.fireTxn_taken (tags := [tag.toNat]) (l := (u.txn tag.toNat).staged) htags.symm (by simp [hready]) (by simp) (by simp)
      (.inl (by simp)) hcredit
    rwa [List.foldl_cons, List.foldl_nil] at hfire
  case atTime =>
    intro s req tag t hok howns hopen haccept hwaits
    exact congrArg Host.Outcome.next (State.commit_armed hok howns hopen haccept hwaits)
  case atInterval =>
    intro s req tag interval n t hok howns hopen haccept hwaits hn
    show Host.Outcome.next (s.commit req tag.toNat _) = _
    rw [hn]
    exact congrArg Host.Outcome.next (State.commit_armed hok howns hopen haccept hwaits)
  case atBeacon =>
    intro s req tag port n t hok howns hopen haccept hwaits hn
    show Host.Outcome.next (s.commit req tag.toNat _) = _
    rw [hn]
    exact congrArg Host.Outcome.next (State.commit_armed hok howns hopen haccept hwaits)
  case atCycle =>
    intro s req tag t hok howns hopen haccept hwaits
    exact congrArg Host.Outcome.next (State.commit_armed hok howns hopen haccept hwaits)
  case abort =>
    exact fun s req tag hok howns hstate => State.exec_txnAbort_owned hok howns hstate
  case timeout =>
    exact fun s tag hopen hdue => if_pos ⟨hopen, hdue⟩
  case trigger =>
    intro s tag tags l harmed htriggered htags hready hne hl hset hcredit
    exact (if_pos ⟨harmed, htriggered⟩).trans (congrArg Host.Outcome.next (State.fireTxn_taken htags hready hne hl (.inr hset) hcredit))
  case switched =>
    exact fun s tag hcommitting => if_pos hcommitting
  case sField =>
    intro s req page off data hok hne htakes
    refine congrArg Host.Outcome.next ((State.onWrite_accepted hok _).trans ?_)
    rw [State.writeShadow, if_neg (by rw [hne]; exact Bool.false_ne_true), if_neg (by rw [htakes]; exact Bool.false_ne_true)]
  case arm =>
    exact fun s req page chan hok hs => congrArg Host.Outcome.next ((State.onWrite_accepted hok _).trans (if_pos hs))

end Sys2Proof.Machine
end

section
/-! SUPPORT. What the commands of the registers, of the transactions, of the queue ends and of the time bases leave of memory (R29, R43, R51, R60, R207 to R229): every byte. -/

namespace Sys2Proof.Machine

/-! ## Operations that leave memory as it is -/

@[simp] theorem State.err_mem (s : State) (p code info : Nat) : (s.err p code info).mem = s.mem := (s.err_onlyRegs p code info).mem

@[simp] theorem State.busError_mem (s : State) (code info : Nat) : (s.busError code info).mem = s.mem := (s.busError_onlyRegs code info).mem

@[simp] theorem State.refuseAt_mem (s : State) (req : Req) (f : Field) (code : Nat) : (s.refuseAt req f code).mem = s.mem := State.err_mem ..

@[simp] theorem State.irq_mem (s : State) (f : Field) : (s.irq f).mem = s.mem := rfl

@[simp] theorem State.count_mem (s : State) (f : Field) (n : Nat) : (s.count f n).mem = s.mem := rfl

theorem foldl_mem {α : Type} {step : State → α → State} (hstep : ∀ t x, (step t x).mem = t.mem) (l : List α) (s : State) :
    (l.foldl step s).mem = s.mem := by
  induction l generalizing s with
  | nil => rfl
  | cons x r ih => exact (ih _).trans (hstep s x)

theorem State.onRead_mem (s : State) (req : Req) (p off : Nat) {k : State → State} (hk : ∀ t, (k t).mem = t.mem) (size : AccessSize) :
    (s.onRead req p off k size).mem = s.mem := by
  unfold State.onRead
  split
  · exact s.busError_mem ..
  · exact hk _

theorem State.onWrite_mem (s : State) (req : Req) (p off : Nat) {k : State → State} (hk : ∀ t, (k t).mem = t.mem) :
    (s.onWrite req p off k).mem = s.mem := by
  rcases s.onWrite_cases req p off k with h | ⟨c, i, h⟩
  · exact h ▸ hk _
  · exact h ▸ s.busError_mem c i

theorem State.onField_mem (s : State) (req : Req) (f : Field) {k : State → State} (hk : ∀ t, (k t).mem = t.mem) :
    (s.onField req f k).mem = s.mem := by
  unfold State.onField
  split
  · exact s.busError_mem ..
  · split
    · exact s.busError_mem ..
    · exact hk _

/-! ### Queues and event records -/

@[simp] theorem State.crossings_mem (s : State) (q : Nat) (old new : Bool × Bool) : (s.crossings q old new).mem = s.mem := by
  unfold State.crossings
  split_ifs <;> rfl

@[simp] theorem State.setQueue_mem (s : State) (q : Nat) (x : Queue) : (s.setQueue q x).mem = s.mem := State.crossings_mem ..

@[simp] theorem State.event_mem (s : State) (e : Ev) (page : Nat) (data : Bytes) : (s.event e page data).mem = s.mem := by
  unfold State.event
  split
  · exact State.setQueue_mem ..
  · rfl

@[simp] theorem State.batchOutcome_mem (s : State) (at_ : Option (Nat × Nat)) (o : FrameOutcome) : (s.batchOutcome at_ o).mem = s.mem := by
  unfold State.batchOutcome
  split
  · rfl
  · split <;> rfl

@[simp] theorem State.notTaken_mem (s : State) (l : List Item) : (s.notTaken l).mem = s.mem := by
  refine foldl_mem (fun t i => ?_) l s
  split
  · exact State.batchOutcome_mem ..
  · rfl

@[simp] theorem State.flush_mem (s : State) (q : Nat) (producer : FlushEdge) (reading : Bool) : (s.flush q producer reading).mem = s.mem := by
  unfold State.flush
  dsimp only
  split <;> simp

/-! ### Clock domains and wake sources -/

@[simp] theorem State.setLock_mem (s : State) (d : Domain) (on : Bool) : (s.setLock d on).mem = s.mem := by
  unfold State.setLock
  split <;> rfl

@[simp] theorem State.startDomain_mem (s : State) (d : Domain) : (s.startDomain d).mem = s.mem := by
  unfold State.startDomain State.setDom
  dsimp only
  split_ifs <;> simp

/-- R12, R430: a domain that work has arrived for is started or not, without a store. -/
@[simp] theorem State.needDom_getD_mem (s : State) (d : Domain) : ((s.needDom d).getD s).mem = s.mem := by
  unfold State.needDom
  split_ifs <;> simp

@[simp] theorem State.modeDomains_mem (s : State) (mode : Nat) : (s.modeDomains mode).mem = s.mem := foldl_mem (fun t d => t.needDom_getD_mem d) _ s

@[simp] theorem State.p3Link_mem (s : State) (up : Bool) : (s.p3Link up).mem = s.mem := by
  unfold State.p3Link
  split <;> rfl

@[simp] theorem State.p3Mode_mem (s : State) (was : Mode) : (s.p3Mode was).mem = s.mem := by
  unfold State.p3Mode
  split_ifs <;> simp

@[simp] theorem State.toMode_mem (s : State) (m : Mode) : (s.toMode m).mem = s.mem := by
  unfold State.toMode
  split <;> simp

@[simp] theorem State.riseTo_mem (s : State) (target : Nat) : (s.riseTo target).mem = s.mem := by
  unfold State.riseTo
  split
  · exact State.toMode_mem ..
  · rfl

@[simp] theorem State.wake_mem (s : State) (bit target : Nat) : (s.wake bit target).mem = s.mem := by
  unfold State.wake
  dsimp only
  split_ifs <;> simp

/-! ### Alarms, leap seconds and the RTC -/

/-- R221: a TB0 alarm that fires changes register fields alone. -/
theorem State.fireAlarm_onlyRegs (s : State) (n : Nat) (late : Bool) : OnlyRegs s (s.fireAlarm n late) := by
  unfold State.fireAlarm
  dsimp only
  have hfired : ∀ v w, OnlyRegs s (((s.setF (Reg.TIME_ALARM_CTRL_FIRED n) v).setF (Reg.TIME_ALARM_CTRL_LATE n) w).irq (Reg.TIME_IRQ_ALARM n)) :=
    fun v w => ((s.setF_onlyRegs _ v).setF _ w).irq _
  exact .ite ((OnlyRegs.ite ((hfired _ _).irq _) (hfired _ _)).setF _ _)
    ((((OnlyRegs.ite ((hfired _ _).irq _) (hfired _ _)).setF _ _).setF _ _).setF _ _)

@[simp] theorem State.fireAlarm_mem (s : State) (n : Nat) (late : Bool) : (s.fireAlarm n late).mem = s.mem := (s.fireAlarm_onlyRegs n late).mem

@[simp] theorem State.fireTimeDue_mem (s : State) : s.fireTimeDue.mem = s.mem := by
  refine foldl_mem (fun t n => ?_) _ s
  split <;> simp

@[simp] theorem State.tb0Jump_mem (s : State) : s.tb0Jump.mem = s.mem := by
  refine foldl_mem (step := fun t n => if t.alarmDue n then t.fireAlarm n true else t) (fun t n => ?_) _ s
  split <;> simp

@[simp] theorem State.fireRtc_mem (s : State) (n : Nat) (late : Bool) : (s.fireRtc n late).mem = s.mem := by
  unfold State.fireRtc
  dsimp only
  split_ifs <;> simp

@[simp] theorem State.rtcJump_mem (s was : State) : (s.rtcJump was).mem = s.mem := by
  refine foldl_mem (fun t n => ?_) _ s
  dsimp only
  split_ifs <;> simp

@[simp] theorem State.rtcLeapt_mem (s : State) : s.rtcLeapt.mem = s.mem := by
  unfold State.rtcLeapt
  dsimp only
  split <;> rfl

@[simp] theorem State.rtcTick_mem (s : State) : s.rtcTick.mem = s.mem := by
  unfold State.rtcTick
  dsimp only
  split
  · simp
  · split
    · split <;> rfl
    · split <;> simp
    · rfl

@[simp] theorem State.leapDone_mem (s : State) (d : Int) (rtc : Nat) : (s.leapDone d rtc).mem = s.mem := State.event_mem ..

@[simp] theorem State.leapNow_mem (s : State) : s.leapNow.mem = s.mem := by
  unfold State.leapNow
  dsimp only
  split
  · split <;> simp
  · split
    · split_ifs <;> simp
    · split <;> simp
    · rfl

@[simp] theorem State.oscStopped_mem (s : State) : s.oscStopped.mem = s.mem := rfl

@[simp] theorem State.stepTb0_mem (s : State) (ns : Int) : (s.stepTb0 ns).mem = s.mem := by
  unfold State.stepTb0
  dsimp only
  split <;> simp

@[simp] theorem State.setTb0State_mem (s : State) (n : Nat) : (s.setTb0State n).mem = s.mem := by
  unfold State.setTb0State
  dsimp only
  split_ifs <;> rfl

@[simp] theorem State.zcSynth_mem (s : State) : s.zcSynth.mem = s.mem := rfl

/-! ## TB0_STEP with no tag armed -/

/-- R46: no tag is armed. -/
def State.noneArmed (s : State) : Prop := ∀ n : Nat, (s.txn n).state ≠ .armed

theorem State.noneArmed_of_txns {s t : State} (h : t.txns = s.txns) (hs : s.noneArmed) : t.noneArmed := fun n => by
  rw [State.txn, h]
  exact hs n

/-- R221: with no tag armed, no commit is due. -/
theorem State.fireTimed_noneArmed {s : State} (h : s.noneArmed) : s.fireTimed = s := by
  refine List.foldl_fixed' (fun n => ?_) _
  split
  next harmed _ => exact absurd harmed (h n)
  · rfl

theorem State.event_txns (s : State) (e : Ev) (page : Nat) (data : Bytes) : (s.event e page data).txns = s.txns := by
  unfold State.event State.enq State.setQueue State.putQueue State.crossings
  dsimp only
  split_ifs <;> rfl

theorem foldl_txns {α : Type} {step : State → α → State} (hstep : ∀ t x, (step t x).txns = t.txns) (l : List α) (s : State) :
    (l.foldl step s).txns = s.txns := by
  induction l generalizing s with
  | nil => rfl
  | cons x r ih => exact (ih _).trans (hstep s x)

theorem State.fireTimeDue_txns (s : State) : s.fireTimeDue.txns = s.txns := by
  refine foldl_txns (fun t n => ?_) _ s
  split
  · exact (State.fireAlarm_onlyRegs ..).txns
  · rfl

theorem State.leapDone_txns (s : State) (d : Int) (rtc : Nat) : (s.leapDone d rtc).txns = s.txns := State.event_txns ..

theorem State.leapNow_txns (s : State) : s.leapNow.txns = s.txns := by
  unfold State.leapNow
  dsimp only
  split
  · split
    · exact State.leapDone_txns ..
    · rfl
  · split
    · split_ifs
      · rfl
      · rfl
      · exact State.leapDone_txns ..
    · split
      · exact State.leapDone_txns ..
      · rfl
    · rfl

/-- A map of a table that keeps each entry's key reads, at a key, the image of what the table reads there. -/
theorem sget_map {α γ : Type} {d : α} {g : Nat × α → Nat × α} (hkey : ∀ e, (g e).1 = e.1) {v : α → γ} (hv : ∀ e, v (g e).2 = v e.2)
    (m : List (Nat × α)) (n : Nat) : v (sget d (m.map g) n) = v (sget d m n) := by
  induction m with
  | nil => rfl
  | cons e r ih =>
    rw [List.map_cons, sget, sget, hkey]
    split
    · exact hv e
    · exact ih

/-- R46, R221: a step of TB0 marks armed commits late, and arms none. -/
theorem State.tb0Jump_noneArmed {s : State} (h : s.noneArmed) : s.tb0Jump.noneArmed := by
  have halarms : ([0, 1, 2, 3].foldl (fun t n => if t.alarmDue n then t.fireAlarm n true else t) s).txns = s.txns := by
    refine foldl_txns (fun t n => ?_) _ s
    split
    · exact (State.fireAlarm_onlyRegs ..).txns
    · rfl
  intro n
  refine ne_of_eq_of_ne ?_ (h n)
  unfold State.tb0Jump State.txn
  dsimp only
  rw [halarms]
  refine sget_map (v := Txn.state) (fun e => ?_) (fun e => ?_) _ n
  · split <;> rfl
  · split <;> rfl

/-- R207, R212: the event of a step, and a leap that the step reaches, change no tag. -/
theorem State.stepEvent_txns (s : State) (d : Bytes) : ((s.irq Reg.TIME_IRQ_STEPPED).event .timeStep 0x05 d).leapNow.txns = s.txns :=
  (State.leapNow_txns _).trans ((State.event_txns ..).trans (s.setF_onlyRegs _ 1).txns)

theorem State.stepTb0_noneArmed {s : State} (h : s.noneArmed) (ns : Int) : (s.stepTb0 ns).noneArmed := by
  have hstepped : ∀ (tb0 : Nat) (d : Bytes),
      ((({ s.fireTimeDue with tb0 := tb0 } : State).irq Reg.TIME_IRQ_STEPPED).event .timeStep 0x05 d).leapNow.noneArmed := fun tb0 d =>
    State.noneArmed_of_txns ((State.stepEvent_txns _ d).trans s.fireTimeDue_txns) h
  unfold State.stepTb0
  split
  · exact State.tb0Jump_noneArmed (hstepped _ _)
  · exact hstepped _ _

/-! ## Commands that store nothing -/

/-- An outcome whose next state, if it is one, has the memory of `s`. -/
def MemKept (s : State) (o : Host.Outcome State Fault Refusal) : Prop := ∀ t, o = .next t → t.mem = s.mem

theorem memKept_next {s t : State} (h : t.mem = s.mem) : MemKept s (.next t) := fun _ e => Host.Outcome.next.inj e ▸ h

theorem memKept_idle (s : State) : MemKept s (idle s) := memKept_next rfl

theorem memKept_ite {s : State} {c : Prop} [Decidable c] {a b : Host.Outcome State Fault Refusal} (ha : MemKept s a) (hb : MemKept s b) :
    MemKept s (if c then a else b) := by
  split <;> assumption

theorem MemKept.storesNothing {c : Instr} (h : ∀ s, MemKept s (exec c s)) : StoresNothing c := fun s t e a => by
  rw [State.byte, h s t e, State.byte]

theorem State.after'_mem {s : State} {f : State → Host.Outcome State Fault Refusal} (h : MemKept s (f s)) : (s.after' f).mem = s.mem := by
  unfold State.after'
  split
  next t e => exact h t e
  · rfl

/-! ### Registers -/

theorem execTimeNowRead_memKept (req : Req) (s : State) : MemKept s (execTimeNowRead req s) := by
  refine memKept_next (s.onRead_mem req _ _ (fun t => OnlyRegs.mem (.ite (t.answer_onlyRegs _) ?_)) _)
  exact ((((t.setF_onlyRegs _ _).setF _ _).setF _ _).setF _ _).answer _

theorem execAonNowRead_memKept (req : Req) (s : State) : MemKept s (execAonNowRead req s) := by
  refine memKept_next (s.onRead_mem req _ _ (fun t => OnlyRegs.mem (.ite (t.answer_onlyRegs _) ?_)) _)
  exact (((t.setF_onlyRegs _ _).setF _ _).setF _ _).answer _

theorem execTrngDataRead_memKept (req : Req) (s : State) : MemKept s (execTrngDataRead req s) := by
  refine memKept_next (s.onRead_mem req _ _ (fun t => ?_) _)
  split
  · rfl
  · split
    · rfl
    · exact State.err_mem ..

@[simp] theorem State.txnBegin_mem (s : State) (req : Req) : (s.txnBegin req).mem = s.mem := by
  unfold State.txnBegin State.txnAlloc
  split
  next h =>
    split at h <;> cases h <;> rfl

@[simp] theorem State.clearRc_mem (s : State) (req : Req) (p off : Nat) : (s.clearRc req p off).mem = s.mem :=
  foldl_mem (fun t _ => t.setF_mem _ 0) _ s

theorem State.regRead_mem (s : State) (req : Req) (p off : Nat) (size : AccessSize) : (s.regRead req p off size).mem = s.mem := by
  refine s.onRead_mem req p off (fun t => ?_) size
  dsimp only
  split_ifs
  · exact State.after'_mem (execTrngDataRead_memKept req t)
  · rfl
  · exact t.txnBegin_mem req
  · exact State.after'_mem (execTimeNowRead_memKept req t)
  · exact State.after'_mem (execAonNowRead_memKept req t)
  · exact State.after'_mem (execTrngDataRead_memKept req t)
  · exact State.clearRc_mem ..
  · exact State.clearRc_mem ..

theorem State.inHalves_mem (s : State) (off : Nat) (size : AccessSize) {access : State → Nat → AccessSize → State}
    (h : ∀ t o z, (access t o z).mem = t.mem) : (s.inHalves off size access).mem = s.mem := by
  unfold State.inHalves
  split
  · exact (h ..).trans (h ..)
  · exact h ..

theorem rcRead_storesNothing (req : Req) (page : BitVec 8) (off : BitVec 12) (size : AccessSize) : StoresNothing (.rcRead req page off size) :=
  MemKept.storesNothing fun s => memKept_next (s.inHalves_mem _ _ fun t _ _ => t.regRead_mem ..)

theorem blkPrivWrite_storesNothing (req : Req) (page : BitVec 8) (data : Word) : StoresNothing (.blkPrivWrite req page data) :=
  MemKept.storesNothing fun s => memKept_next (s.onField_mem req _ fun t => by
    split
    · rfl
    · exact (setPriv_onlyRegs ..).mem)

theorem irqClear_storesNothing (req : Req) (page : BitVec 8) (bits same : Word) : StoresNothing (.irqClear req page bits same) :=
  MemKept.storesNothing fun s => memKept_next (s.onWrite_onlyRegs req _ _ fun t => clearIrq_onlyRegs t ..).mem

theorem irqSet_storesNothing (req : Req) (page : BitVec 8) (bits : Word) : StoresNothing (.irqSet req page bits) :=
  MemKept.storesNothing fun s => by
    show MemKept s (execIrqSet req page bits s)
    rw [execIrqSet_eq]
    exact memKept_next (s.onWrite_onlyRegs req _ _ fun t => foldl_putIrq_onlyRegs t ..).mem

theorem errClear_storesNothing (req : Req) (page : BitVec 8) : StoresNothing (.errClear req page) :=
  MemKept.storesNothing fun s => memKept_next (s.onWrite_onlyRegs req _ _ fun t => clearErr_onlyRegs t _).mem

theorem sFieldWrite_storesNothing (req : Req) (page : BitVec 8) (off : BitVec 12) (data : Word) : StoresNothing (.sFieldWrite req page off data) :=
  MemKept.storesNothing fun s => memKept_next (s.onWrite_onlyRegs req _ _ fun t => t.writeShadow_onlyRegs ..).mem

theorem shadowArm_storesNothing (req : Req) (page : BitVec 8) (chan : Fin 16) : StoresNothing (.shadowArm req page chan) :=
  MemKept.storesNothing fun s => memKept_next (s.onWrite_mem req _ _ fun t => by split <;> rfl)

/-! ### Queue ends -/

theorem watermarkWrite_storesNothing (req : Req) (page : BitVec 8) (e : Fin 6) (hi lo : BitVec 16) :
    StoresNothing (.watermarkWrite req page e hi lo) :=
  MemKept.storesNothing fun s => memKept_next (s.onWrite_mem req _ _ fun t => by
    split
    · rfl
    · exact State.crossings_mem ..)

theorem queueFlush_storesNothing (req : Req) (page : BitVec 8) (e : Fin 6) (edge : FlushEdge) (reading : Bool) :
    StoresNothing (.queueFlush req page e edge reading) :=
  MemKept.storesNothing fun s => memKept_next (s.onWrite_mem req _ _ fun t => by
    split
    · rfl
    · exact State.flush_mem ..)

theorem flushDiscardEnd_storesNothing (page : BitVec 8) (e : Fin 6) : StoresNothing (.flushDiscardEnd page e) :=
  MemKept.storesNothing fun s => memKept_ite (memKept_next (by simp)) (memKept_idle s)

theorem qmonCreditCheck_storesNothing (q : QueueId) : StoresNothing (.qmonCreditCheck q) :=
  MemKept.storesNothing fun s => memKept_ite (memKept_idle s) (memKept_ite (memKept_next (by simp))
    (memKept_ite (memKept_next (by simp)) (memKept_next (by simp [State.queueFault]))))

/-! ### Transactions -/

theorem txnBegin_storesNothing (req : Req) : StoresNothing (.txnBegin req) :=
  MemKept.storesNothing fun s => memKept_next (s.onRead_mem req _ _ (fun t => by split <;> simp) _)

theorem State.ifOwner_mem (s : State) (req : Req) (n off : Nat) {k : State → State} (hk : ∀ t, (k t).mem = t.mem) :
    (s.ifOwner req n off k).mem = s.mem := by
  unfold State.ifOwner
  split
  · exact hk s
  · exact s.err_mem ..

theorem txnSelWrite_storesNothing (req : Req) (tag : BitVec 3) : StoresNothing (.txnSelWrite req tag) :=
  MemKept.storesNothing fun s => memKept_next (s.onWrite_mem req _ _ fun t => by
    split
    · rfl
    · exact t.ifOwner_mem req _ _ fun _ => rfl)

@[simp] theorem State.rollBack_mem (s : State) (n cause page : Nat) : (s.rollBack n cause page).mem = s.mem := (State.endTxn_onlyTxns ..).mem

theorem txnAbort_storesNothing (req : Req) (tag : BitVec 3) : StoresNothing (.txnAbort req tag) :=
  MemKept.storesNothing fun s => memKept_next (s.onWrite_mem req _ _ fun t => t.ifOwner_mem req _ _ fun u => by split <;> simp)

theorem txnTimeout_storesNothing (tag : BitVec 3) : StoresNothing (.txnTimeout tag) :=
  MemKept.storesNothing fun s => memKept_ite (memKept_next (by simp)) (memKept_idle s)

theorem txnStagedWrite_storesNothing (req : Req) (page : BitVec 8) (off : BitVec 12) (data : Word) : StoresNothing (.txnStagedWrite req page off data) :=
  MemKept.storesNothing fun s => by
    obtain ⟨t, ht, hstage⟩ := s.txnStagedWrite_onlyStages req page off data
    exact ht ▸ memKept_next hstage.rest.mem

/-! ### The time bases -/

theorem tb3Load_storesNothing (req : Req) : StoresNothing (.tb3Load req) :=
  MemKept.storesNothing fun s => memKept_next (s.onField_mem req _ fun t => by split <;> simp)

theorem tb0Step_keepsMem {req : Req} {s t : State} (hs : s.noneArmed) (h : exec (.tb0Step req) s = .next t) : KeepsMem s t := by
  obtain rfl := Host.Outcome.next.inj h
  have hstep : ∀ u : State, u.noneArmed → ((u.fireTimed.stepTb0 u.stepNs).fireTimed).mem = u.mem := fun u hu => by
    rw [State.fireTimed_noneArmed hu, State.fireTimed_noneArmed (State.stepTb0_noneArmed hu _), State.stepTb0_mem]
  refine fun a => congrArg (sget memDefault · a) ?_
  unfold State.onField
  split
  · exact s.busError_mem ..
  · split
    · exact s.busError_mem ..
    · exact hstep (s.answer 0) hs

theorem tb0StateSet_storesNothing (req : Req) (v : BitVec 2) : StoresNothing (.tb0StateSet req v) :=
  MemKept.storesNothing fun s => memKept_next (s.onField_mem req _ fun t => by split <;> simp)

theorem tb0Holdover_storesNothing : StoresNothing .tb0Holdover :=
  MemKept.storesNothing fun s => memKept_ite (memKept_next (by simp)) (memKept_idle s)

theorem leapSecond_storesNothing : StoresNothing .leapSecond := MemKept.storesNothing fun s => memKept_next s.leapNow_mem

theorem execAlarmWrite_memKept (req : Req) (alarm : AlarmId) (data : Word) (s : State) : MemKept s (execAlarmWrite req alarm data s) := by
  cases alarm with
  | time n =>
    refine memKept_next (s.onWrite_mem req _ _ fun t => OnlyRegs.mem ?_)
    have hset : ∀ v w, OnlyRegs t (((if t.alarmDue n.val then t.fireAlarm n.val false else t).setF (Reg.TIME_ALARM_CTRL_SEC_HI n.val) v).setF
        (Reg.TIME_ALARM_CTRL_ARM n.val) w) := fun v w => ((OnlyRegs.ite (t.fireAlarm_onlyRegs ..) (.refl t)).setF _ v).setF _ w
    have hclear := fun v w => ((hset v w).setF (Reg.TIME_ALARM_CTRL_FIRED n.val) 0).setF (Reg.TIME_ALARM_CTRL_LATE n.val) 0
    exact .ite (hset _ _) (.ite ((hclear _ _).trans (State.fireAlarm_onlyRegs ..)) (hclear _ _))
  | rtc n =>
    refine memKept_next (s.onWrite_mem req _ _ fun t => ?_)
    dsimp only
    split_ifs <;> simp

theorem timeAlarmFire_storesNothing (n : Fin 4) : StoresNothing (.timeAlarmFire n) :=
  MemKept.storesNothing fun s => memKept_ite (memKept_next (by simp)) (memKept_idle s)

theorem rtcAlarmFire_storesNothing (n : Fin 2) : StoresNothing (.rtcAlarmFire n) :=
  MemKept.storesNothing fun s => memKept_ite (memKept_next (by simp)) (memKept_idle s)

theorem ppsInEdge_storesNothing : StoresNothing .ppsInEdge :=
  MemKept.storesNothing fun s => memKept_ite (memKept_ite (memKept_next rfl) (memKept_idle s)) (memKept_ite (memKept_next rfl) (memKept_next rfl))

theorem ppsOutPulse_storesNothing : StoresNothing .ppsOutPulse :=
  MemKept.storesNothing fun s => memKept_ite (memKept_idle s) (memKept_ite (memKept_next rfl) (memKept_next rfl))

theorem tb3Slew_storesNothing : StoresNothing .tb3Slew :=
  MemKept.storesNothing fun s => memKept_ite (memKept_next rfl) (memKept_idle s)

theorem execZcEdge_memKept (rising : Bool) (stableUs : BitVec 16) (s : State) : MemKept s (execZcEdge rising stableUs s) := by
  refine memKept_ite (memKept_idle s) (memKept_ite ?_ (memKept_ite (memKept_next rfl) (memKept_next rfl)))
  split
  · exact memKept_ite (memKept_next rfl) (memKept_next rfl)
  · exact memKept_next rfl

theorem zcSynth_storesNothing : StoresNothing .zcSynth :=
  MemKept.storesNothing fun s => memKept_ite (memKept_next s.zcSynth_mem) (memKept_idle s)

/-! ### The RTC and its battery -/

theorem rtcSet_storesNothing (req : Req) : StoresNothing (.rtcSet req) :=
  MemKept.storesNothing fun s => memKept_next (s.onField_mem req _ fun _ => rfl)

theorem rtcSyncTb0_storesNothing (req : Req) : StoresNothing (.rtcSyncTb0 req) :=
  MemKept.storesNothing fun s => memKept_next (s.onField_mem req _ fun t => by split <;> simp)

theorem rtcTrimTick_storesNothing : StoresNothing .rtcTrimTick :=
  MemKept.storesNothing fun s => memKept_ite (memKept_idle s) (memKept_next (by split <;> simp))

theorem oscStop_storesNothing : StoresNothing .oscStop := MemKept.storesNothing fun s => memKept_next (by simp)

theorem batComparator_storesNothing (exhausted : Bool) : StoresNothing (.batComparator exhausted) :=
  MemKept.storesNothing fun s => memKept_next (by split <;> rfl)

theorem batMeasure_storesNothing (mv : BitVec 13) : StoresNothing (.batMeasure mv) :=
  MemKept.storesNothing fun s => memKept_ite (memKept_next rfl) (memKept_idle s)

theorem rtcChgWrite_storesNothing (req : Req) (data : Word) : StoresNothing (.rtcChgWrite req data) :=
  MemKept.storesNothing fun s => memKept_next (s.onWrite_mem req _ _ fun t => by split <;> simp)

/-- Settles O26: no operation that a named command comes to writes memory; for TB0_STEP, no commit is due. -/
theorem registerAndTimeCommandsStoreNothing : Obligations.RegisterAndTimeCommandsStoreNothing := by
  unfold Obligations.RegisterAndTimeCommandsStoreNothing
  refine ⟨rcRead_storesNothing, blkPrivWrite_storesNothing, irqClear_storesNothing, irqSet_storesNothing, errClear_storesNothing,
    watermarkWrite_storesNothing, queueFlush_storesNothing, flushDiscardEnd_storesNothing, qmonCreditCheck_storesNothing, fun req => ?byRequester,
    fun _ _ _ => tb0Step_keepsMem, fun req tag => ?tags, fun req page off data => ?words, shadowArm_storesNothing, tb0StateSet_storesNothing,
    fun req alarm data => ?alarms, fun n m => ⟨timeAlarmFire_storesNothing n, rtcAlarmFire_storesNothing m⟩,
    fun b mv => ⟨batComparator_storesNothing b, batMeasure_storesNothing mv⟩, ?events⟩
  case byRequester =>
    exact ⟨txnBegin_storesNothing req, tb3Load_storesNothing req, rtcSet_storesNothing req, rtcSyncTb0_storesNothing req,
      MemKept.storesNothing (execTimeNowRead_memKept req), MemKept.storesNothing (execAonNowRead_memKept req),
      MemKept.storesNothing (execTrngDataRead_memKept req)⟩
  case tags =>
    exact ⟨txnSelWrite_storesNothing req tag, txnAbort_storesNothing req tag, txnTimeout_storesNothing tag⟩
  case words =>
    exact ⟨txnStagedWrite_storesNothing req page off data, sFieldWrite_storesNothing req page off data⟩
  case alarms =>
    exact ⟨MemKept.storesNothing (execAlarmWrite_memKept req alarm data), rtcChgWrite_storesNothing req data⟩
  case events =>
    exact ⟨tb0Holdover_storesNothing, leapSecond_storesNothing, ppsInEdge_storesNothing, ppsOutPulse_storesNothing, tb3Slew_storesNothing,
      fun b us => MemKept.storesNothing (execZcEdge_memKept b us), zcSynth_storesNothing, rtcTrimTick_storesNothing, oscStop_storesNothing⟩

end Sys2Proof.Machine
end

section
/-! SUPPORT. What the operations of a queue change (R16, R53, R55, R59): the queue, and the registers that tell of it. -/

namespace Sys2Proof.Machine

/-! ## What a queue leaves of the state -/

/-- R37, R38, R58: the offsets of the registers in which a page tells of its queues: the latched interrupts, the error log and the queue ends. -/
def queueOffset (off : Nat) : Bool := off == 0x020 || off == 0x030 || off == 0x034 || (decide (0x080 ≤ off) && decide (off < 0x100))

/-- R28, R58, R61: a register field in which nothing is told of a queue: neither those of a page's queues, nor of QMON, nor of a window. -/
abbrev Field.AsideOfQueues (f : Field) : Prop := f.page < 0x10000 ∧ f.page ≠ 0x21 ∧ queueOffset f.off = false ∧ f.off < 4096 ∧ f.lo < 32

/-- R28: fields of different pages are different. -/
theorem key_ne_of_page {f g : Field} (hf : f.off < 4096) (hfl : f.lo < 32) (hg : g.off < 4096) (hgl : g.lo < 32) (h : g.page ≠ f.page) :
    g.key ≠ f.key := by
  simp only [Field.key]
  omega

/-- The states differ in the queues and the register fields at most, and in no field that tells nothing of a queue. -/
structure OnlyQueues (s t : State) : Prop where
  rest : ∃ r x, t = { s with regs := r, queues := x }
  getF : ∀ f : Field, f.AsideOfQueues → t.getF f = s.getF f

theorem OnlyQueues.refl (s : State) : OnlyQueues s s := ⟨⟨_, _, rfl⟩, fun _ _ => rfl⟩

theorem OnlyQueues.trans {s t u : State} (h : OnlyQueues s t) (h' : OnlyQueues t u) : OnlyQueues s u := by
  obtain ⟨⟨_, _, rfl⟩, hs⟩ := h
  obtain ⟨⟨r, x, rfl⟩, ht⟩ := h'
  exact ⟨⟨r, x, rfl⟩, fun f hf => (ht f hf).trans (hs f hf)⟩

theorem OnlyQueues.ite {s t u : State} {c : Prop} [Decidable c] (ht : OnlyQueues s t) (hu : OnlyQueues s u) :
    OnlyQueues s (if c then t else u) := by
  split <;> assumption

theorem OnlyQueues.flights {s t : State} (h : OnlyQueues s t) : t.flights = s.flights := by
  obtain ⟨⟨_, _, rfl⟩, _⟩ := h
  rfl

theorem OnlyQueues.sent {s t : State} (h : OnlyQueues s t) : t.sent = s.sent := by
  obtain ⟨⟨_, _, rfl⟩, _⟩ := h
  rfl

theorem OnlyQueues.dir {s t : State} (h : OnlyQueues s t) : t.dir = s.dir := by
  obtain ⟨⟨_, _, rfl⟩, _⟩ := h
  rfl

theorem OnlyQueues.orderNext {s t : State} (h : OnlyQueues s t) : t.orderNext = s.orderNext := by
  rw [State.orderNext, State.get2, h.getF _ (by decide), h.getF _ (by decide)]
  rfl

/-- A field in which a page tells of its queues is written. -/
theorem OnlyQueues.setF {s t : State} (h : OnlyQueues s t) {g : Field} (hoff : queueOffset g.off = true) (hlt : g.off < 4096) (hlo : g.lo < 32)
    (v : Nat) : OnlyQueues s (t.setF g v) :=
  h.trans ⟨⟨_, _, rfl⟩, fun _ ⟨_, _, haside, hf, hfl⟩ =>
    State.getF_setF_ne _ _ (key_ne_of_off hf hfl hlt hlo fun e => Bool.noConfusion ((e ▸ hoff).symm.trans haside))⟩

/-- A field of QMON or of a window is written. -/
theorem OnlyQueues.setF_apart {s t : State} (h : OnlyQueues s t) {g : Field} (hoff : g.off < 4096) (hlo : g.lo < 32)
    (hpage : g.page = 0x21 ∨ 0x10000 ≤ g.page) (v : Nat) : OnlyQueues s (t.setF g v) :=
  h.trans ⟨⟨_, _, rfl⟩, fun f ⟨hpage', hqmon, _, hf, hfl⟩ => State.getF_setF_ne _ _ (key_ne_of_page hf hfl hoff hlo (by omega))⟩

theorem OnlyQueues.err {s t : State} (h : OnlyQueues s t) (p code info : Nat) : OnlyQueues s (t.err p code info) := by
  unfold State.err
  split
  · exact ((h.setF (g := Reg.ERR_VALID p) rfl (by decide : 0x030 < 4096) (by decide : 31 < 32) _).setF (g := Reg.ERR_CODE p) rfl
      (by decide : 0x030 < 4096) (by decide : 0 < 32) _).setF (g := Reg.ERR_INFO p) rfl (by decide : 0x034 < 4096) (by decide : 0 < 32) _
  · exact h.setF (g := Reg.ERR_CNT p) rfl (by decide : 0x030 < 4096) (by decide : 16 < 32) _

theorem OnlyQueues.irqRaw {s t : State} (h : OnlyQueues s t) (p : Nat) {b : Nat} (hb : b < 32) : OnlyQueues s (t.irq (Reg.irqRaw p b)) :=
  h.setF (g := Reg.irqRaw p b) rfl (by decide : 0x020 < 4096) hb 1

theorem OnlyQueues.countXCNT {s t : State} (h : OnlyQueues s t) (q : Nat) : OnlyQueues s (t.count (Reg.XCNT q)) := by
  have hoff : (Reg.XCNT q).off = 0x08C + q % 8 * 0x10 := by
    show 0x080 + q % 8 * 0x10 + 0xC = _
    omega
  refine h.setF ?_ (by omega) (by decide : 8 < 32) _
  rw [hoff, queueOffset]
  simp only [Bool.or_eq_true, Bool.and_eq_true, decide_eq_true_eq]
  omega

/-! ## The operations of a queue -/

/-- R59: the crossings of a level are told in the common part of the queue's page. -/
theorem State.crossings_onlyQueues (s : State) (q : Nat) (old new : Bool × Bool) : OnlyQueues s (s.crossings q old new) := by
  have hhi := OnlyQueues.ite (c := old.1 ≠ new.1) ((OnlyQueues.refl s).countXCNT q) (.refl s)
  have hlo := OnlyQueues.ite (c := old.2 ≠ new.2) (hhi.countXCNT q) hhi
  have hseen := OnlyQueues.ite (c := (!old.1 && new.1) = true) (hlo.irqRaw (qPage q) (b := 16 + 2 * (q % 8)) (by omega)) hlo
  exact .ite (c := (!old.2 && new.2) = true) (hseen.irqRaw (qPage q) (b := 17 + 2 * (q % 8)) (by omega)) hseen

theorem State.putQueue_onlyQueues (s : State) (q : Nat) (x : Queue) : OnlyQueues s (s.putQueue q x) :=
  (show OnlyQueues s { s with queues := sput (Queue.init q) s.queues q x } from ⟨⟨_, _, rfl⟩, fun _ _ => rfl⟩).trans
    (State.crossings_onlyQueues ..)

/-- R55: poison is told in QMON and in the error log of the consumer's page. -/
theorem OnlyQueues.poisoned {s t : State} (h : OnlyQueues s t) (q n : Nat) : OnlyQueues s (t.poisoned q n) :=
  have hcount : OnlyQueues s (t.count (Reg.qPoison q) n) :=
    h.setF_apart (g := Reg.qPoison q) (show Reg.QMON_QMON_POISON_CNT.off < 4096 by decide) (show Reg.QMON_QMON_POISON_CNT.lo < 32 by decide)
      (.inr (show 0x10000 ≤ 0x10000 + 0 * 0x10000 + q by omega)) _
  have hseen := (hcount.setF_apart (g := Reg.QMON_QMON_FAULT_POISON_SEEN) (by decide) (by decide) (.inl rfl) 1).setF_apart
    (g := Reg.QMON_QMON_FAULT_Q_QNUM) (by decide) (by decide) (.inl rfl) q
  (hseen.irqRaw 0x21 (by decide)).err (qPage q) Err.poison 0

theorem State.enq_onlyQueues (s : State) (q : Nat) (i : Item) : OnlyQueues s (s.enq q i) := State.putQueue_onlyQueues ..

theorem State.faultFront_onlyQueues (s : State) (q n : Nat) : OnlyQueues s (s.faultFront q n) := by
  unfold State.faultFront
  split
  · exact .ite (.refl s) (State.putQueue_onlyQueues ..)
  · exact .refl s

theorem State.deq_onlyQueues {s t : State} {q : Nat} {i : Item} (h : s.deq q = some (i, t)) : OnlyQueues s t := by
  unfold State.deq at h
  split at h
  · cases h
  · obtain ⟨-, rfl⟩ := Prod.mk.inj (Option.some.inj h)
    exact .ite ((State.putQueue_onlyQueues ..).poisoned ..) (State.putQueue_onlyQueues ..)

/-! ## The front of a queue -/

theorem State.items_ne_nil_of_front {s : State} {q : Nat} {i : Item} (h : (s.queue q).items.head? = some i) : (s.queue q).items ≠ [] := by
  intro hnil
  rw [hnil] at h
  cases h

theorem State.items_of_deq {s t : State} {q : Nat} {i : Item} (h : s.deq q = some (i, t)) : (t.queue q).items = (s.queue q).items.tail := by
  unfold State.deq at h
  split at h
  · cases h
  next j r hitems =>
    obtain ⟨-, rfl⟩ := Prod.mk.inj (Option.some.inj h)
    rw [hitems]
    split
    · rw [State.queue_of_queues (State.poisoned_queues ..), State.setQueue, State.queue_putQueue_self]
      rfl
    · rw [State.setQueue, State.queue_putQueue_self]
      rfl

/-- R55: words that fail their check add to the poison of the item at the front. -/
theorem State.items_faultFront {s : State} {q : Nat} {i : Item} (h : (s.queue q).items.head? = some i) (n : Nat) :
    ((s.faultFront q n).queue q).items = { i with poison := i.poison + n } :: (s.queue q).items.tail := by
  obtain ⟨r, hitems⟩ : ∃ r, (s.queue q).items = i :: r := List.head?_eq_some_iff.mp h
  unfold State.faultFront
  simp only [hitems, List.tail_cons]
  split
  next hn => simp only [hitems, hn, Nat.add_zero]
  next => rw [State.queue_putQueue_self]

@[simp] theorem State.faultFront_zero (s : State) (q : Nat) : s.faultFront q 0 = s := by
  unfold State.faultFront
  split <;> rfl

theorem State.front_of_deq {s t : State} {q : Nat} {i : Item} (h : s.deq q = some (i, t)) : (s.queue q).items.head? = some i := by
  unfold State.deq at h
  split at h
  · cases h
  next j r hitems =>
    obtain ⟨rfl, -⟩ := Prod.mk.inj (Option.some.inj h)
    rw [hitems, List.head?_cons]

/-- R16, R55: the item at the front is taken, its words checked as they are read. -/
theorem State.deq_faultFront {s : State} {q n : Nat} {b : Payload} (h : (s.queue q).items.head? = some ⟨b, n⟩) (k : Nat) :
    ∃ t, (s.faultFront q k).deq q = some (⟨b, n + k⟩, t) ∧ (t.queue q).items = (s.queue q).items.tail ∧ OnlyQueues s t := by
  have hitems := State.items_faultFront h k
  have hdeq := State.deq_popped (show ((s.faultFront q k).queue q).items.head? = some ⟨b, n + k⟩ by rw [hitems]; rfl)
  refine ⟨_, hdeq, ?_, (s.faultFront_onlyQueues q k).trans (State.deq_onlyQueues hdeq)⟩
  rw [State.items_of_deq hdeq, hitems, List.tail_cons]

/-- R16: an item that is taken with its words intact. -/
theorem State.deq_intact {s : State} {q : Nat} {i : Item} (h : (s.queue q).items.head? = some i) :
    (s.faultFront q 0).deq q = some (i, s.popped q) := by
  rw [State.faultFront_zero, State.deq_popped h]

end Sys2Proof.Machine
end

section
/-! SUPPORT. The order number (R67 to R69): a poisoned frame leaves the path before it has one, and Funnel gives them one by one. -/

namespace Sys2Proof.Machine

/-! ## A poisoned frame (R67) -/

/-- R68: a field that holds no part of the next order number. -/
abbrev Field.AsideOfOrder (g : Field) : Prop := g.key ≠ Reg.FUNL_ORDER_NEXT_LO_ORDER.key ∧ g.key ≠ Reg.FUNL_ORDER_NEXT_HI_ORDER.key

theorem State.orderNext_setF (s : State) (g : Field) (hg : g.AsideOfOrder) (v : Nat) : (s.setF g v).orderNext = s.orderNext := by
  simp only [State.orderNext, State.get2, State.getF_setF_ne _ _ hg.1, State.getF_setF_ne _ _ hg.2]

theorem State.batchOutcome_rest (s : State) (at_ : Option (Nat × Nat)) (o : FrameOutcome) : ∃ u, s.batchOutcome at_ o = { s with uplink := u } := by
  unfold State.batchOutcome
  split
  · exact ⟨_, rfl⟩
  · split
    · exact ⟨_, rfl⟩
    · exact ⟨_, rfl⟩

theorem State.batchOutcome_turned (s : State) (d : DirState) (at_ : Option (Nat × Nat)) (o : FrameOutcome) :
    ({ s with dir := d } : State).batchOutcome at_ o = { s.batchOutcome at_ o with dir := d } := by
  rcases at_ with _ | ⟨k, i⟩
  · rfl
  · have hb : ({ s with dir := d } : State).batch k = s.batch k := rfl
    simp only [State.batchOutcome, hb]
    cases s.batch k <;> rfl

/-- R67: a poisoned frame that is dropped is counted, and its batch is told. -/
theorem State.dropPoisoned_effect (s : State) (f : Frame) :
    (s.dropPoisoned f).queues = s.queues ∧
      (s.dropPoisoned f).getF Reg.FUNL_PRE_ORDER_POISON_CNT_CNT = min (2 ^ 32 - 1) (s.getF Reg.FUNL_PRE_ORDER_POISON_CNT_CNT + 1) ∧
      (s.dropPoisoned f).orderNext = s.orderNext ∧ (s.dropPoisoned f).flights = s.flights ∧ (s.dropPoisoned f).sent = s.sent := by
  obtain ⟨u, hu⟩ := (s.count Reg.FUNL_PRE_ORDER_POISON_CNT_CNT).batchOutcome_rest f.batch .notTaken
  rw [State.dropPoisoned, hu]
  refine ⟨rfl, (State.getF_setF_self ..).trans ?_, s.orderNext_setF _ (by decide) _, rfl, rfl⟩
  show min (2 ^ 32 - 1) (_ + 1) % 2 ^ 32 = _
  omega

/-- R67: from `s`, the item at the front of queue `q` has left the path in `t` as a poisoned frame does. -/
def DroppedFrom (s t : State) (q : Nat) : Prop :=
  (t.queue q).items = (s.queue q).items.tail ∧
    t.getF Reg.FUNL_PRE_ORDER_POISON_CNT_CNT = min (2 ^ 32 - 1) (s.getF Reg.FUNL_PRE_ORDER_POISON_CNT_CNT + 1) ∧
    t.orderNext = s.orderNext ∧ t.flights = s.flights ∧ t.sent = s.sent

theorem OnlyQueues.dropPoisoned {s t : State} {q : Nat} (h : OnlyQueues s t) (hitems : (t.queue q).items = (s.queue q).items.tail) (f : Frame) :
    DroppedFrom s (t.dropPoisoned f) q := by
  obtain ⟨hqueues, hcount, horder, hflights, hsent⟩ := t.dropPoisoned_effect f
  refine ⟨?_, ?_, horder.trans h.orderNext, hflights.trans h.flights, hsent.trans h.sent⟩
  · rw [State.queue_of_queues hqueues, hitems]
  · rw [hcount, h.getF _ (by decide)]

/-- R67: the turn that the table engine notes with the lookup changes nothing of it. -/
theorem DroppedFrom.turned {s t : State} {q : Nat} {f : Frame} (h : DroppedFrom s (t.dropPoisoned f) q) (d : DirState) :
    DroppedFrom s (({ t with dir := d } : State).dropPoisoned f) q := by
  have hdir : ({ t with dir := d } : State).dropPoisoned f = { t.dropPoisoned f with dir := d } :=
    (t.count Reg.FUNL_PRE_ORDER_POISON_CNT_CNT).batchOutcome_turned d f.batch .notTaken
  exact hdir ▸ h

/-! ## What each stage before the order number does with the frame that it takes -/

theorem execParseFrame_port {s t : State} {port : Fin 10} {f : Frame} {n k : Nat} (hport : port.val < 8) (hdom : s.domOn .fabric = true)
    (hcredit : s.hasCredit 0xA0 = true) (hdeq : (s.faultFront (portQ port.val) k).deq (portQ port.val) = some (⟨.frame f, n⟩, t)) :
    execParseFrame port k s = .next (t.parse f (n != 0)) := by
  simp only [execParseFrame, hdom, hcredit, hport, State.front_of_deq hdeq, hdeq, Bool.not_true, Bool.false_eq_true, or_self, if_false, if_true]

section
variable {s : State} (henable : s.flag Reg.DIR_CTRL_ENABLE = true) (hdom : s.domOn .mem = true) (hsearch : s.dir.search = none)
  (hcredit : s.hasCredit 0x80 = true) (hroom : s.dir.parked.length < 16)
include henable hdom hsearch hcredit hroom

/-- R137: a lookup that a lock has let go is taken first. -/
theorem execDirLookup_released {f : Frame} {r : List Parked} (hreleased : s.dir.released = .lookup f :: r) (k : Nat) :
    execDirLookup k s = .next (({ s with dir := { s.dir with released := r } } : State).lookupOrPark f) := by
  simp only [execDirLookup, henable, hsearch, hcredit, Nat.not_le.mpr hroom, hreleased, State.withDram_on hdom, Option.isSome_none, List.isEmpty_cons,
    Bool.not_true, Bool.false_eq_true, false_and, or_self, if_false]

/-- R67, R137: the front of the lookup queue, where it is not a command's turn; a poisoned frame is dropped. -/
theorem execDirLookup_queue {t : State} {f : Frame} {n k : Nat} (hreleased : s.dir.released = []) (hturn : s.commandTurn = false)
    (hne : (s.queue 0xA0).items ≠ []) (hdeq : (s.faultFront 0xA0 k).deq 0xA0 = some (⟨.frame f, n⟩, t)) :
    execDirLookup k s = .next (if n ≠ 0 then ({ t with dir := { t.dir with turn := 1 } } : State).dropPoisoned f
      else ({ t with dir := { t.dir with turn := 1 } } : State).lookupOrPark f) := by
  simp only [execDirLookup, henable, hsearch, hcredit, Nat.not_le.mpr hroom, hreleased, State.withDram_on hdom, Option.isSome_none, hturn,
    List.isEmpty_eq_false_iff.mpr hne, State.front_of_deq hdeq, hdeq, Bool.not_true, Bool.false_eq_true, and_false, or_self, if_false]

end

/-- R67, R68: Funnel, once enabled, with no token and no panel entry waiting, takes the frame at the front of the dispatch queue; a poisoned one is dropped. -/
theorem execFunnelOrder_frame {s t : State} {f : Frame} {n k : Nat} (henable : s.flag Reg.FUNL_CTRL_ENABLE = true) (htoken : s.bill.token = none)
    (hdue : s.panel.due = none) (hdeq : (s.faultFront 0x80 k).deq 0x80 = some (⟨.frame f, n⟩, t)) :
    execFunnelOrder k s =
      if n ≠ 0 then .next (t.dropPoisoned f)
      else if (s.faultFront 0x80 k).mayOrder false ∧ ((s.faultFront 0x80 k).mustHold (s.faultFront 0x80 k).orderNext f ∨
          (s.faultFront 0x80 k).hasCredit (decryptQ (unitOf ((s.faultFront 0x80 k).laneOf f.meter)))) then .next (t.orderFrame f)
      else .next (s.faultFront 0x80 k) := by
  have henable' : (s.faultFront 0x80 k).flag Reg.FUNL_CTRL_ENABLE = true := by
    rw [State.flag, (s.faultFront_onlyQueues 0x80 k).getF _ (by decide)]
    exact henable
  simp only [execFunnelOrder, State.tokenIn, State.panelIn, htoken, hdue, henable, henable', State.front_of_deq hdeq, hdeq, if_true]

/-- Settles O17: each of the three stages looks at the poison of the frame before it does anything else with it. -/
theorem aPoisonedFrameLeavesBeforeItsOrderNumber : Obligations.APoisonedFrameLeavesBeforeItsOrderNumber := by
  unfold Obligations.APoisonedFrameLeavesBeforeItsOrderNumber
  refine ⟨?parser, ?lookup, ?funnel⟩
  case parser =>
    intro s port f n parity hport hdom hcredit hfront hpoison
    obtain ⟨t, hdeq, hitems, ht⟩ := State.deq_faultFront hfront parity
    refine ⟨t.dropPoisoned f, (execParseFrame_port hport hdom hcredit hdeq).trans ?_, ht.dropPoisoned hitems f⟩
    rw [State.parse, if_pos (bne_iff_ne.mpr hpoison)]
  case lookup =>
    intro s f n parity henable hdom hsearch hcredit hroom hreleased hturn hfront hpoison
    obtain ⟨t, hdeq, hitems, ht⟩ := State.deq_faultFront hfront parity
    have htaken := execDirLookup_queue henable hdom hsearch hcredit hroom hreleased hturn (State.items_ne_nil_of_front hfront) hdeq
    exact ⟨_, htaken.trans (congrArg _ (if_pos hpoison)), (ht.dropPoisoned hitems f).turned _⟩
  case funnel =>
    intro s f n parity henable htoken hdue hfront hpoison
    obtain ⟨t, hdeq, hitems, ht⟩ := State.deq_faultFront hfront parity
    exact ⟨t.dropPoisoned f, (execFunnelOrder_frame henable htoken hdue hdeq).trans (if_pos hpoison), ht.dropPoisoned hitems f⟩

/-! ## What leaves the order number as it was -/

theorem State.orderNext_set2 (s : State) (lo hi : Field) (hlo : lo.AsideOfOrder) (hhi : hi.AsideOfOrder) (v : Nat) :
    (s.set2 lo hi v).orderNext = s.orderNext := by
  rw [State.set2, State.orderNext_setF _ hi hhi, State.orderNext_setF _ lo hlo]

theorem State.orderNext_enq (s : State) (q : Nat) (i : Item) : (s.enq q i).orderNext = s.orderNext := (s.enq_onlyQueues q i).orderNext

theorem State.orderNext_feed (s : State) (r : Rec) : (s.feed r).orderNext = s.orderNext := by
  unfold State.feed
  split
  · exact s.orderNext_enq ..
  · rfl

theorem State.orderNext_noteHold (s was : State) : (s.noteHold was).orderNext = s.orderNext := by
  unfold State.noteHold
  split
  · exact s.orderNext_setF Reg.FUNL_IRQ_REPLAY_FULL (by decide) 1
  · rfl

theorem State.orderNext_takeReplay (s : State) (n : Nat) (b : Bytes) : (s.takeReplay n b).orderNext = s.orderNext :=
  (State.orderNext_setF _ Reg.FUNL_REPLAY_PEAK_SLOTS (by decide) _).trans
    (State.orderNext_setF (s.write (replayAddr n) b) Reg.FUNL_REPLAY_USE_SLOTS (by decide) _)

theorem State.orderNext_advanceHead (s : State) : s.advanceHead.orderNext = s.orderNext := by
  unfold State.advanceHead
  dsimp only
  split
  · rfl
  · exact (State.orderNext_setF _ Reg.LADL_STAT_STALLED (by decide) 0).trans
      (s.orderNext_set2 Reg.LADL_COMMIT_NEXT_LO_ORDER Reg.LADL_COMMIT_NEXT_HI_ORDER (by decide) (by decide) _)

theorem State.orderNext_newHead (s : State) : s.newHead.orderNext = s.orderNext :=
  (State.orderNext_setF s.advanceHead Reg.LADL_STAT_STALLED (by decide) 0).trans s.orderNext_advanceHead

theorem State.orderNext_toDecrypt (s : State) (n : Nat) (fl : Flight) : (s.toDecrypt n fl).orderNext = s.orderNext := State.orderNext_enq ..

theorem State.orderNext_launch (s : State) (n : Nat) (f : Frame) : (s.launch n f).orderNext = s.orderNext := by
  have hslot : ∀ fl, (((s.takeReplay n f.raw).writeMeta n f).setFlight n fl).orderNext = s.orderNext := fun _ => s.orderNext_takeReplay n f.raw
  unfold State.launch
  dsimp only
  split_ifs
  · rw [State.orderNext_toDecrypt, State.orderNext_newHead, hslot]
  · rw [State.orderNext_newHead, hslot]
  · rw [State.orderNext_toDecrypt, hslot]
  · exact hslot _

theorem State.orderNext_launchOrdered (s : State) (n : Nat) (o : Ordered) : (s.launchOrdered n o).orderNext = s.orderNext := by
  have hslot : ∀ x v, (((s.takeReplay n []).setQueue 0x88 x).peak Reg.LADL_WINDOW_PEAK_SLOTS v).orderNext = s.orderNext := fun x v => by
    rw [State.peak, State.orderNext_setF _ _ (by decide), State.setQueue, (State.putQueue_onlyQueues ..).orderNext,
      State.orderNext_takeReplay]
  unfold State.launchOrdered
  dsimp only
  split_ifs
  · exact (State.orderNext_newHead _).trans (hslot _ _)
  · exact hslot _ _

theorem State.orderNext_tokenIn (s : State) : s.tokenIn.orderNext = s.orderNext := by
  unfold State.tokenIn
  split
  · split
    · exact s.orderNext_enq ..
    · rfl
  · rfl

theorem State.orderNext_panelIn (s : State) : s.panelIn.orderNext = s.orderNext := by
  unfold State.panelIn
  split
  · dsimp only
    generalize (if s.orders = true then (0x80 : Nat) else 0x180) = q
    split
    · exact (State.orderNext_setF _ Reg.PANEL_SUBMIT_CNT_CNT (by decide) _).trans (s.orderNext_enq ..)
    · rfl
  · rfl

/-! ## What Funnel gives the number that follows -/

/-- R68: the order number has 48 bits, of which the low register holds 32. -/
theorem State.orderNext_setOrderNext (s : State) (n : Nat) : (s.setOrderNext n).orderNext = n % 2 ^ 48 := by
  have hne : Reg.FUNL_ORDER_NEXT_HI_ORDER.key ≠ Reg.FUNL_ORDER_NEXT_LO_ORDER.key := by decide
  have hlo : (s.setOrderNext n).getF Reg.FUNL_ORDER_NEXT_LO_ORDER = n % 2 ^ 48 % 2 ^ 32 :=
    (State.getF_setF_ne _ _ hne).trans (State.getF_setF_self ..)
  have hhi : (s.setOrderNext n).getF Reg.FUNL_ORDER_NEXT_HI_ORDER = n % 2 ^ 48 / 2 ^ 32 % 2 ^ 16 := State.getF_setF_self ..
  rw [State.orderNext, State.get2, hlo, hhi]
  show n % 2 ^ 48 % 2 ^ 32 + n % 2 ^ 48 / 2 ^ 32 % 2 ^ 16 * 2 ^ 32 = _
  omega

theorem State.orderNext_orderFrame (s : State) (f : Frame) : (s.orderFrame f).orderNext = (s.orderNext + 1) % 2 ^ 48 := by
  rw [State.orderFrame, State.orderNext_noteHold, State.orderNext_launch, State.orderNext_feed, State.orderNext_set2 _ _ _ (by decide) (by decide),
    State.orderNext_setOrderNext]

theorem State.orderNext_orderItem (s : State) (o : Ordered) : (s.orderItem o).orderNext = (s.orderNext + 1) % 2 ^ 48 := by
  unfold State.orderItem
  extract_lets was n stamped t u
  have hu : u.orderNext = t.orderNext := by
    subst u
    clear_value stamped
    split
    · exact t.orderNext_setF Reg.BILL_TOK_GO_GO (by decide) 0
    · rfl
  rw [State.orderNext_noteHold, State.orderNext_launchOrdered, State.feedOrdered, State.orderNext_feed, hu]
  exact State.orderNext_setOrderNext ..

/-- R55, R195, R200: what Funnel finds: the token and the panel entry that wait have entered their queues, and the front of the dispatch queue is checked. -/
def State.funnelIn (s : State) (k : Nat) : State :=
  if s.tokenIn.panelIn.flag Reg.FUNL_CTRL_ENABLE then s.tokenIn.panelIn.faultFront 0x80 k else s.tokenIn.panelIn

theorem State.orderNext_funnelIn (s : State) (k : Nat) : (s.funnelIn k).orderNext = s.orderNext := by
  have hin : s.tokenIn.panelIn.orderNext = s.orderNext := (State.orderNext_panelIn _).trans s.orderNext_tokenIn
  unfold State.funnelIn
  split
  · exact (State.faultFront_onlyQueues ..).orderNext.trans hin
  · exact hin

/-- R67, R68, log entry 94: what Funnel makes of the state `u` that the item at the front has left. -/
inductive FunnelEnd (u : State) : State → Prop
  | droppedFrame (f : Frame) : FunnelEnd u (u.dropPoisoned f)
  | droppedItem : FunnelEnd u (u.count Reg.FUNL_PRE_ORDER_POISON_CNT_CNT)
  | frame (f : Frame) : FunnelEnd u (u.orderFrame f)
  | item (o : Ordered) : FunnelEnd u (u.orderItem o)
  | other : FunnelEnd u u

/-- R67, R68: Funnel leaves the dispatch queue as it finds it, or takes the item at its front. -/
theorem execFunnelOrder_cases (s : State) (k : Nat) :
    ∃ t, execFunnelOrder k s = .next t ∧ (t = s.funnelIn k ∨ ∃ i u, (s.funnelIn k).deq 0x80 = some (i, u) ∧ FunnelEnd u t) := by
  unfold execFunnelOrder
  dsimp only
  rw [← State.funnelIn]
  split
  · split
    · exact ⟨_, rfl, .inl rfl⟩
    next i _ u hdeq =>
      split
      · split_ifs
        · exact ⟨_, rfl, .inr ⟨_, u, hdeq, .droppedFrame _⟩⟩
        · exact ⟨_, rfl, .inr ⟨_, u, hdeq, .frame _⟩⟩
        · exact ⟨_, rfl, .inl rfl⟩
      · split_ifs
        · exact ⟨_, rfl, .inr ⟨_, u, hdeq, .droppedItem⟩⟩
        · exact ⟨_, rfl, .inr ⟨_, u, hdeq, .item _⟩⟩
        · exact ⟨_, rfl, .inl rfl⟩
      · exact ⟨_, rfl, .inr ⟨_, u, hdeq, .other⟩⟩
  · exact ⟨_, rfl, .inl rfl⟩

/-- R68: Funnel leaves the order number as it is, or gives the next one to what it takes. -/
theorem execFunnelOrder_orderNext {s t : State} {k : Nat} (h : execFunnelOrder k s = .next t) :
    t.orderNext = s.orderNext ∨ t.orderNext = (s.orderNext + 1) % 2 ^ 48 := by
  obtain ⟨t', ht', hcases⟩ := execFunnelOrder_cases s k
  obtain rfl : t' = t := Host.Outcome.next.inj (ht'.symm.trans h)
  rcases hcases with rfl | ⟨i, u, hdeq, htaken⟩
  · exact .inl (s.orderNext_funnelIn k)
  · have hu : u.orderNext = s.orderNext := (State.deq_onlyQueues hdeq).orderNext.trans (s.orderNext_funnelIn k)
    cases htaken with
    | droppedFrame f =>
      obtain ⟨-, -, horder, -, -⟩ := u.dropPoisoned_effect f
      exact .inl (horder.trans hu)
    | droppedItem => exact .inl ((u.orderNext_setF _ (by decide) _).trans hu)
    | frame f => exact .inr (hu ▸ u.orderNext_orderFrame f)
    | item o => exact .inr (hu ▸ u.orderNext_orderItem o)
    | other => exact .inl hu

theorem State.enabled_of_mayOrder {s : State} {ordered : Bool} (h : s.mayOrder ordered = true) : s.flag Reg.FUNL_CTRL_ENABLE = true := by
  simp only [State.mayOrder, Bool.and_eq_true, and_assoc] at h
  exact h.1

/-- Settles O18: the order number is set where Funnel takes a frame or an ordered item, to the one that follows, and nowhere else in the command. -/
theorem noOrderNumberIsSkipped : Obligations.NoOrderNumberIsSkipped := by
  unfold Obligations.NoOrderNumberIsSkipped
  constructor
  · exact fun s t k h => execFunnelOrder_orderNext h
  · intro s f htoken hdue hfront horder hhold hcredit
    have htaken := execFunnelOrder_frame (State.enabled_of_mayOrder horder) htoken hdue (State.deq_intact hfront)
    refine ⟨_, htaken.trans ((if_neg (by simp)).trans (if_pos ?_)), ?_⟩
    · rw [State.faultFront_zero]
      exact ⟨horder, .inr hcredit⟩
    · rw [State.orderNext_orderFrame, (State.deq_onlyQueues (State.deq_popped hfront)).orderNext]

end Sys2Proof.Machine
end

section
/-! SUPPORT. Ladle: verdicts, the head of the window, the commit queue and the groups (R72, R76 to R88, R93): what each command answers. -/

namespace Sys2Proof.Machine

/-! ## Late groups (R88) -/

theorem State.mem_newlyLate {s : State} {limit q : Nat} :
    q ∈ s.newlyLate limit ↔ ∃ l a, Payload.groupEdge q l a ∈ s.path.shadow ∧ a + limit ≤ s.tb1 ∧ q ∉ s.path.lateEdges := by
  simp only [State.newlyLate, List.mem_filterMap]
  constructor
  · rintro ⟨p, hp, hlate⟩
    split at hlate
    · split_ifs at hlate with h
      obtain rfl := Option.some.inj hlate
      exact ⟨_, _, hp, by simpa using h⟩
    · cases hlate
  · rintro ⟨l, a, hp, hdue, hnew⟩
    exact ⟨_, hp, if_pos (by simpa using ⟨hdue, hnew⟩)⟩

/-- R88: where a closed group is newly late, the interrupt is latched and every late group is marked. -/
theorem execDurableLate_marks {s : State} {limit : Nat} (hlimit : limit = s.getF Reg.LADL_GC_CFG_DURABLE_LIMIT * 1000000)
    (hlate : s.path.groups.any (fun g => !g.late && decide (g.closedAt + limit ≤ s.tb1)) = true ∨ s.newlyLate limit ≠ []) :
    execDurableLate s = .next ({ s.irq Reg.LADL_IRQ_DURABLE_LATE with path := { s.path with
      groups := s.path.groups.map (fun g => if g.closedAt + limit ≤ s.tb1 then { g with late := true } else g),
      lateEdges := s.path.lateEdges ++ s.newlyLate limit } }) := by
  subst hlimit
  refine if_pos ?_
  rw [Bool.or_eq_true, Bool.not_eq_true', List.isEmpty_eq_false_iff]
  exact hlate

/-- Settles O20: the groups that the FTL holds are marked one by one, and every late edge on its way is among those already known or those newly late. -/
theorem aLateGroupIsLatchedAndNothingElse : Obligations.ALateGroupIsLatchedAndNothingElse := by
  unfold Obligations.ALateGroupIsLatchedAndNothingElse
  intro s limit hlimit hlate
  refine ⟨_, execDurableLate_marks hlimit (hlate.imp_right fun ⟨q, l, a, h⟩ => List.ne_nil_of_mem (State.mem_newlyLate.mpr ⟨l, a, h⟩)),
    ?irq, ?regs, ?groups, ?edges, rfl⟩
  case irq =>
    show ((s.irq Reg.LADL_IRQ_DURABLE_LATE).getF Reg.LADL_IRQ_DURABLE_LATE != 0) = true
    rw [State.irq, State.getF_setF_self]
    rfl
  case regs => exact (KeepsRegs.refl s _).setF (List.mem_singleton_self _) 1
  case groups =>
    intro g hg hdue
    obtain ⟨g', -, rfl⟩ := List.mem_map.mp hg
    by_cases hg' : g'.closedAt + limit ≤ s.tb1
    · rw [if_pos hg']
    · rw [if_neg hg'] at hdue
      exact absurd hdue hg'
  case edges =>
    intro q l a hedge hdue
    refine List.mem_append.mpr (Classical.or_iff_not_imp_left.mpr fun hnew => ?_)
    exact State.mem_newlyLate.mpr ⟨l, a, hedge, hdue, hnew⟩

/-! ## The head of the window (R76, R77) -/

section
variable {s : State} {fl : Flight} {a b : Bool} (henable : s.flag Reg.LADL_CTRL_ENABLE = true) (hrec : s.flag Reg.LADL_STAT_RECOVERING = false)
  (hmount : s.flag Reg.FTL_STAT_MOUNTED = true) (hcopy : s.copyFirst = false) (hdom : s.domOn .mem = true) (hhead : s.flight s.commitNext = some fl)
include henable hrec hmount hcopy hdom hhead

/-- R143: an ordered item at the head that need not wait and has its credits. -/
theorem execLadleCommitHead_item {o : Ordered} (hbody : fl.body = .ordered o) (hwaits : s.itemWaits o = false) (hcredit : s.commitCredit o = true) :
    execLadleCommitHead a b s = .next (s.commitItem s.commitNext fl o) := by
  simp only [execLadleCommitHead, henable, hrec, hmount, hcopy, hhead, hbody, hwaits, hcredit, State.withDram_on hdom, Bool.not_true,
    Bool.false_eq_true, or_self, if_false, if_true]

/-- R72: a frame without a key, which no lane is to give a verdict on. -/
theorem execLadleCommitHead_noKey {f : Frame} (hbody : fl.body = .frame f) (htag : fl.tagV = some .noKey)
    (hlane : fl.laneV.isSome = true ∨ fl.inLane = false) :
    execLadleCommitHead true b s = .next (((s.eccCorrect (recordAddr f.meter) 1024).dropAtHead s.commitNext fl .noKey).release) := by
  simp only [execLadleCommitHead, henable, hrec, hmount, hcopy, hhead, hbody, htag, hlane, State.withDram_on hdom, Bool.not_true,
    Bool.not_eq_true', Bool.false_eq_true, or_self, if_false, if_true]

/-- R77: a frame with both its verdicts, where Ladle has what its outcome takes. -/
theorem execLadleCommitHead_verdicts {f : Frame} {t : TagVerdict} {v : LaneVerdict} (hbody : fl.body = .frame f) (htag : fl.tagV = some t)
    (ht : t ≠ .noKey) (hlane : fl.laneV = some v) (hready : (s.eccCorrect (recordAddr f.meter) 1024).headReady s.commitNext fl t b = true) :
    execLadleCommitHead true b s = .next (((s.eccCorrect (recordAddr f.meter) 1024).decideFrame s.commitNext fl t b).release) := by
  simp only [execLadleCommitHead, henable, hrec, hmount, hcopy, hhead, hbody, htag, hlane, hready, State.withDram_on hdom, Bool.not_true,
    Bool.false_eq_true, or_self, if_false, if_true]

end

section
variable {s : State} {n : Nat} {fl : Flight} (hlane : fl.laneV = some .accept) (hcheck : s.counterCheck fl.frame = 0)
  (hcrc : effectsCrc ((s.lane fl.lane).effectsOf n) = fl.crc)
include hlane hcheck hcrc

/-- R77, R108: a frame with PASS, a NEW counter and ACCEPT, whose effects are as the lane wrote them, is COMMITTED. -/
theorem State.headOutcome_committed : s.headOutcome n fl .pass true = some .committed := by
  simp [State.headOutcome, hcheck, hlane, hcrc]

theorem State.headReady_committed (hcredit : s.hasCredit 0x118 = true) (hlearn : s.learnRoom fl.frame = true)
    (htoken : s.flag Reg.BILL_CTRL_ENABLE = false ∨ s.frameTokenLocked fl = false) : s.headReady n fl .pass true = true := by
  rw [State.headReady, State.headOutcome_committed hlane hcheck hcrc]
  rcases htoken with h | h <;> simp [hcredit, hlearn, h]

theorem State.decideFrame_committed : s.decideFrame n fl .pass true = s.commitFrame n fl := by
  simp [State.decideFrame, hcheck, hlane, hcrc, mismatch]

end

/-! ## The commit queue (R82, R83) -/

/-- R82, R83: what the FTL does with an item of the commit queue that the shadow ring held until now. -/
def State.placeItem (s : State) : Payload → State
  | .commit c =>
    ({ s with path := { s.path with placed := s.path.placed ++ [c] } } : State).set2 Reg.LADL_PLACED_ORDER_LO_ORDER Reg.LADL_PLACED_ORDER_HI_ORDER c.order
  | .groupEdge q l a => s.closePlaced q l a
  | _ => s

/-- R82: the FTL takes the front of the commit queue; what the shadow ring holds no more is placed already. -/
theorem execFtlPlaceItem_takes {s : State} {p : Payload} (hmount : s.flag Reg.FTL_STAT_MOUNTED = true)
    (hfront : (s.queue 0x118).items.head? = some ⟨p, 0⟩) :
    execFtlPlaceItem 0 s =
      .next (if s.path.shadow.contains p = true then ((s.popped 0x118).releaseShadow p).placeItem p else s.popped 0x118) := by
  simp only [execFtlPlaceItem, hmount, State.faultFront_zero, hfront, State.deq_popped hfront, Bool.not_true, Bool.false_eq_true, ne_eq,
    not_true_eq_false, if_false]
  cases s.path.shadow.contains p with
  | false => rfl
  | true => cases p <;> rfl

/-- Settles O35: each condition is the guard of the branch that the command takes. -/
theorem ladleCommandsComplete : Obligations.LadleCommandsComplete := by
  unfold Obligations.LadleCommandsComplete
  refine ⟨?verdict, ?late, ?tag, ?item, ?commit, ?authFail, ?noKey, ?place, ?edge, ?placed, ?close, ?durable, ?durableLate, ?stall⟩
  case verdict =>
    intro s v r fl hv hlate hfl
    show execLadleLaneVerdict s = _
    have hfl' : ({ s with verdicts := r } : State).flight v.order = some fl := hfl
    simp only [execLadleLaneVerdict, hv, hlate, hfl', Bool.false_eq_true, if_false]
  case late =>
    intro s v r hv hlate
    show execLadleLaneVerdict s = _
    simp only [execLadleLaneVerdict, hv, hlate, if_true]
  case tag =>
    intro s n v fl hfront hfl hpoison hrevoked
    show execLadleTagVerdict 0 s = _
    simp only [execLadleTagVerdict, State.faultFront_zero, hfront, State.deq_popped hfront, hfl, hpoison, hrevoked, ne_eq, not_true_eq_false, or_self, if_false]
  case item =>
    exact fun s a b fl o henable hrec hmount hcopy hdom hhead hbody hwaits hcredit =>
      execLadleCommitHead_item henable hrec hmount hcopy hdom hhead hbody hwaits hcredit
  case commit =>
    rintro s _ fl f henable hrec hmount hcopy hdom hhead hbody rfl htag hlane hcheck hcrc hcredit hlearn htoken
    have hframe : fl.frame = f := by rw [Flight.frame, hbody]
    subst hframe
    refine (execLadleCommitHead_verdicts henable hrec hmount hcopy hdom hhead hbody htag (by decide) hlane ?_).trans ?_
    · exact State.headReady_committed hlane hcheck hcrc hcredit hlearn htoken
    · rw [State.decideFrame_committed hlane hcheck hcrc]
  case authFail =>
    rintro s _ fl f v b henable hrec hmount hcopy hdom hhead hbody rfl htag hlane
    exact execLadleCommitHead_verdicts henable hrec hmount hcopy hdom hhead hbody htag (by decide) hlane rfl
  case noKey =>
    rintro s _ fl f b henable hrec hmount hcopy hdom hhead hbody rfl htag hlane
    exact execLadleCommitHead_noKey henable hrec hmount hcopy hdom hhead hbody htag hlane
  case place =>
    rintro s _ c hmount hfront hshadow rfl
    exact (execFtlPlaceItem_takes hmount hfront).trans (congrArg _ (if_pos hshadow))
  case edge =>
    exact fun s q l a hmount hfront hshadow => (execFtlPlaceItem_takes hmount hfront).trans (congrArg _ (if_pos hshadow))
  case placed =>
    exact fun s p hmount hfront hshadow => (execFtlPlaceItem_takes hmount hfront).trans (congrArg _ (if_neg (Bool.eq_false_iff.mp hshadow)))
  case close =>
    intro s hdue horders hstopped hgroups hcount hcredit hfeed
    refine (if_neg ?_).trans ((if_neg hcount).trans (if_neg ?_))
    · simp [Nat.not_lt.mpr hdue, horders, hstopped, hgroups]
    · rintro (h | h)
      · exact Bool.noConfusion (hcredit.symm.trans ((Bool.not_eq_true' _).mp h))
      · exact Bool.noConfusion (hfeed.symm.trans ((Bool.not_eq_true' _).mp h))
  case durable =>
    intro s g r hg hwritten hpeer hstopped
    show execGroupDurable s = _
    simp only [execGroupDurable, hg, hwritten, hpeer, hstopped, Bool.and_self, Bool.not_false, if_true]
  case durableLate =>
    exact fun s limit hlimit hlate => execDurableLate_marks hlimit (.inl hlate)
  case stall =>
    intro s hhead hstalled hlimit
    exact if_pos ⟨hhead, by simp [hstalled], hlimit⟩

end Sys2Proof.Machine
end

section
/-! SUPPORT. The path before Ladle: the header parser (R64), the lookup (R137), Funnel (R68 to R74, R112) and Cleaver (R72): what each command answers. -/

namespace Sys2Proof.Machine

/-! ## The header parser (R64, R65) -/

/-- R64: a frame that the parser can read goes to the lookup queue. -/
theorem State.parse_reads {f : Frame} {p : Parsed} (hlong : tooLong f.raw = false) (hp : parseFrame f.raw = some p) (s : State) :
    s.parse f false = s.enq 0xA0 { body := .frame { f with fmt := p.fmt, mid := p.mid, ivc := p.ivc } } := by
  simp only [State.parse, hlong, hp, Option.map_some, Option.getD_some, Option.isNone_some, Bool.false_eq_true, if_false]

/-- R64: a frame of a batch that has been split, of port 8 or 9, is read; with the last of its batch the credit of the batch returns. -/
theorem execParseFrame_split {s : State} {port : Fin 10} {f : Frame} {n k : Nat} {last : Bool} (hport : ¬ port.val < 8) (hdom : s.domOn .fabric = true)
    (hcredit : s.hasCredit 0xA0 = true) (hfind : s.path.toParse.find? (fun x => x.1 == port.val) = some (n, f, last)) :
    execParseFrame port k s = .next (State.parse (if last then
      ({ s with path := { s.path with toParse := s.path.toParse.erase (port.val, f, last) } } : State).creditBack (portQ port.val)
      else { s with path := { s.path with toParse := s.path.toParse.erase (port.val, f, last) } }) f false) := by
  have hany : s.path.toParse.any (fun x => x.1 == port.val) = true := by
    rw [List.any_eq_true]
    exact ⟨_, List.mem_of_find?_eq_some hfind, (List.find?_some hfind :)⟩
  have hsplit : ¬(port.val = 9 ∧ (!s.path.toParse.any (fun x => x.1 == 9)) = true) := by
    rintro ⟨h9, hnone⟩
    rw [← h9, hany] at hnone
    cases hnone
  simp only [execParseFrame, hdom, hcredit, hport, hsplit, hfind, Bool.not_true, Bool.false_eq_true, or_self, if_false]

/-! ## The lookup (R137) -/

theorem State.idBucket_set2 (s : State) (lo hi : Field) (v t id : Nat) : (s.set2 lo hi v).idBucket t id = s.idBucket t id := rfl

/-- R66, R137: a lookup of a free bucket that holds the identifier sends the frame to Funnel with its meter index. -/
theorem State.lookupOrPark_found {s u : State} {f : Frame} {a : Nat} (hfree : s.locked? 0 (s.idBucket 0 f.mid) = false)
    (hu : u = (s.set2 Reg.DIR_LOOKUPS_LO_CNT Reg.DIR_LOOKUPS_HI_CNT
      (min (s.get2 Reg.DIR_LOOKUPS_LO_CNT Reg.DIR_LOOKUPS_HI_CNT + 1) (2 ^ 48 - 1))).readBucket 0 (s.idBucket 0 f.mid))
    (hfound : u.dirBucket f.mid = .found a) : s.lookupOrPark f = u.enq 0x80 { body := .frame { f with meter := u.entryIndex a } } := by
  unfold State.lookupOrPark State.lookup
  dsimp only
  rw [if_neg (by simp [hfree]), State.idBucket_set2, ← hu, hfound]
  rfl

/-- R137: the tag filter is searched for the lookup that waits for it. -/
theorem execOverflowSearch_ends {s t : State} {f : Frame} {r : Option Nat} (hsearch : s.dir.search = some f) (hcredit : s.hasCredit 0x80 = true)
    (hr : ({ s with dir := { s.dir with search := none } } : State).dirSearch f.mid = (t, r)) :
    execOverflowSearch s = .next (r.elim (t.unknownMeter f) (t.dispatch f)) := by
  simp only [execOverflowSearch, hsearch, hcredit, hr, Bool.not_true, Bool.false_eq_true, if_false]
  cases r <;> rfl

/-! ## Funnel (R68, R69, R74, R112) -/

theorem execFunnelOrder_item {s t : State} {o : Ordered} (htoken : s.bill.token = none) (hdue : s.panel.due = none)
    (hdeq : s.deq 0x80 = some (⟨.orderedItem o, 0⟩, t)) (horder : s.mayOrder true = true) : execFunnelOrder 0 s = .next (t.orderItem o) := by
  simp only [execFunnelOrder, State.tokenIn, State.panelIn, htoken, hdue, State.enabled_of_mayOrder horder, State.faultFront_zero,
    State.front_of_deq hdeq, hdeq, horder, ne_eq, not_true_eq_false, if_false, if_true]

/-! ## Cleaver (R72) -/

/-- R72: a unit takes the frame at the front of its decrypt queue, whose lane has a credit. -/
theorem execCleaverDecrypt_takes {s : State} {unit : Fin 4} {k : Nat} {fl : Flight} (hready : bitAt s.unitsReady unit.val = 1)
    (hrun : s.unitRun unit.val = none) (hdom : s.domOn .mem = true) (hfront : (s.queue (decryptQ unit.val)).items.head? = some ⟨.order k, 0⟩)
    (hfl : s.flight k = some fl) (hstage : fl.stage = .decrypt) (hcredit : s.hasCredit (plainQ fl.lane) = true) :
    execCleaverDecrypt unit 0 s = .next ((s.popped (decryptQ unit.val)).cleave unit.val k fl false).release := by
  have hne : (s.queue (decryptQ unit.val)).items.isEmpty = false := List.isEmpty_eq_false_iff.mpr (State.items_ne_nil_of_front hfront)
  simp only [execCleaverDecrypt, hready, hrun, hne, State.withDram_on hdom, State.faultFront_zero, hfront, hfl, State.deq_popped hfront, hstage,
    hcredit, Option.isSome_none, Bool.false_eq_true, Nat.one_ne_zero, or_self, ne_eq, not_true_eq_false, if_false, if_true, bne_self_eq_false]

section
variable {t : State} {u k : Nat} {fl : Flight}

/-- R396: a frame without a key gives the lane nothing. -/
theorem State.cleave_noKey (hkey : t.frameKey fl.frame.meter u = none) :
    t.cleave u k fl false = (t.setUnitRun u (some { order := k, verdict := .noKey, slot := none })).setFlight k (some { fl with stage := .done }) := by
  simp only [State.cleave, hkey, Bool.false_eq_true, if_false]

/-- R72, R98: the plaintext of a frame with a key goes to its lane, with the copy of the record that was prefetched for it. -/
theorem State.cleave_key {key : Bytes} (hkey : t.frameKey fl.frame.meter u = some key) (hrerun : fl.rerun = false) :
    t.cleave u k fl false =
      (({ t.setUnitRun u (some { order := k, verdict := (t.decrypt fl.frame key).2, slot := some (t.kekOf fl.frame.meter) }) with
          prefetched := sput [] t.prefetched fl.frame.meter [] } : State).enq (plainQ fl.lane) { body := .order k }).setFlight k
        (some { fl with stage := .lane, plain := (t.decrypt fl.frame key).1, arrived := 0, poisonWords := [],
                        copy := sget [] t.prefetched fl.frame.meter }) := by
  simp only [State.cleave, hkey, hrerun, Bool.false_eq_true, if_false]
  rfl

end

/-- R72: a unit ends its tag check. -/
theorem execTagVerdict_sends {s t : State} {unit : Fin 4} {r : CleaverRun} {v : TagVerdict} {fl : Flight} (hrun : s.unitRun unit.val = some r)
    (hcredit : s.hasCredit 0x89 = true) (hv : v = if r.revoked then .revoked else r.verdict) (ht : t = (s.setUnitRun unit.val none).countTag v)
    (hfl : t.flight r.order = some fl) (hrerun : fl.rerun = false) (hsend : fl.tagV = none ∨ v = .poison ∨ v = .revoked ∨ v = .noKey) :
    execTagVerdict unit s = .next (t.enq 0x89 { body := .tag r.order v }) := by
  subst ht
  have hkept : ¬(fl.tagV.isSome = true ∧ v ≠ .poison ∧ v ≠ .revoked ∧ v ≠ .noKey) := by
    rintro ⟨hsome, hp, hr, hn⟩
    rcases hsend with h | h | h | h
    · rw [h] at hsome
      cases hsome
    · exact hp h
    · exact hr h
    · exact hn h
  simp only [execTagVerdict, hrun, hcredit, ← hv, hfl, hrerun, hkept, Bool.not_true, Bool.false_eq_true, false_and, if_false]

/-- Settles O31: each condition is the guard of the branch that the command takes. -/
theorem framePathCommandsComplete : Obligations.FramePathCommandsComplete := by
  unfold Obligations.FramePathCommandsComplete
  refine ⟨?port, ?batch, ?pcie, ?lookup, ?released, ?found, ?unknown, ?frame, ?item, ?base, ?prefetch, ?decrypt, ?verdict, ?rerun⟩
  case port =>
    intro s port f p hdom hcredit hport hfront hlong hp
    exact (execParseFrame_port hport hdom hcredit (State.deq_intact hfront)).trans (congrArg _ (State.parse_reads hlong hp _))
  case batch =>
    rintro s f p n last _ hdom hcredit hfind hlong hp rfl
    exact (execParseFrame_split (port := 8) (by decide) hdom hcredit hfind).trans (congrArg _ (State.parse_reads hlong hp _))
  case pcie =>
    rintro s f p n last _ hdom hcredit hfind hlong hp rfl
    exact (execParseFrame_split (port := 9) (by decide) hdom hcredit hfind).trans (congrArg _ (State.parse_reads hlong hp _))
  case lookup =>
    rintro s f _ u a henable hdom hsearch hcredit hroom hreleased hturn hfront rfl hfree hu hfound
    have hdir : (s.popped 0xA0).dir = s.dir := (State.deq_onlyQueues (State.deq_popped hfront)).dir
    refine (execDirLookup_queue henable hdom hsearch hcredit hroom hreleased hturn (State.items_ne_nil_of_front hfront) (State.deq_intact hfront)).trans ?_
    rw [if_neg (by simp), hdir, State.lookupOrPark_found hfree hu hfound]
  case released =>
    rintro s f r _ u a henable hdom hsearch hcredit hroom hreleased rfl hfree hu hfound
    exact (execDirLookup_released henable hdom hsearch hcredit hroom hreleased 0).trans (congrArg _ (State.lookupOrPark_found hfree hu hfound))
  case found =>
    exact fun s f t a hsearch hcredit hr => execOverflowSearch_ends hsearch hcredit hr
  case unknown =>
    exact fun s f t hsearch hcredit hr => execOverflowSearch_ends hsearch hcredit hr
  case frame =>
    intro s f htoken hdue hfront horder hgo
    refine (execFunnelOrder_frame (State.enabled_of_mayOrder horder) htoken hdue (State.deq_intact hfront)).trans
      ((if_neg (by simp)).trans (if_pos ?_))
    rw [State.faultFront_zero]
    exact ⟨horder, hgo⟩
  case item =>
    exact fun s o htoken hdue hfront horder => execFunnelOrder_item htoken hdue (State.deq_popped hfront) horder
  case base =>
    rintro s req data _ _ hok hload rfl henable rfl
    refine congrArg Host.Outcome.next ((State.onAction_accepted hok _).trans ((if_neg (by rw [hload]; decide)).trans (if_neg ?_)))
    rw [henable]
    decide
  case prefetch =>
    intro s meter copy u hdom hprefetch henable hvalid hservice hfree hdue hcopy hu
    show execRecordPrefetch meter s = _
    unfold execRecordPrefetch
    dsimp only
    rw [if_pos ⟨hprefetch, henable, hvalid, hservice, hfree, hdue⟩, State.withDram_on hdom, State.eccCorrect_read, ← hcopy, hu]
    rfl
  case decrypt =>
    rintro s unit k fl _ hready hrun hdom hfront hfl hstage hrerun hcredit rfl
    refine (execCleaverDecrypt_takes hready hrun hdom hfront hfl hstage hcredit).trans (congrArg (fun t => Host.Outcome.next (State.release t)) ?_)
    cases hkey : (s.popped (decryptQ unit.val)).frameKey fl.frame.meter unit.val with
    | none => exact State.cleave_noKey hkey
    | some key => exact State.cleave_key hkey hrerun
  case verdict =>
    exact fun s unit r v t fl hrun hcredit hv ht hfl hrerun hsend => execTagVerdict_sends hrun hcredit hv ht hfl hrerun hsend
  case rerun =>
    intro s order fl hdom hfl hrerun hheld hhold hcredit hbad
    show execFrameRerun order s = _
    simp only [execFrameRerun, hfl, hrerun, hheld, hhold, hcredit, hbad, State.withDram_on hdom, Bool.not_true, Bool.false_eq_true, ne_eq,
      not_true_eq_false, or_self, if_false]

end Sys2Proof.Machine
end

section
/-! SUPPORT. The uplinks (R282 to R303): the switch, the CPU port and its batches, PRP and the MDIO interface: what each command answers. -/

namespace Sys2Proof.Machine

/-! ## Frames that arrive (R282, R302) -/

theorem State.received_good {s : State} {n : Nat} {b : Bytes} (h : s.tooBig n b = false) : s.received n b false = (s, true) := by
  simp only [State.received, h, Bool.false_eq_true, if_false, Bool.not_false]

theorem State.received_badFcs (s : State) (n : Nat) (b : Bytes) : s.received n b true = (s.count (Reg.ETHP_RX_FCS_CNT_CNT n), false) := rfl

/-- R284, R292: a frame of the CPU port that is no bad request to Kettle is for the CPU port's classes, or, on P3 while PORT is stopped, for Kettle. -/
theorem execCpuPortRx_notKettle {s : State} {port : Fin 4} {frame : Bytes} (hup : s.ethUp port.val = true) (hsize : s.tooBig port.val frame = false)
    (hnone : (if port.val = 3 ∧ s.kettleServes = true then s.kettleOther frame else none) = none) :
    execCpuPortRx port frame s =
      if s.domOn .port = true then if s.flag Reg.ETH_CTRL_ENABLE = true then .next (s.cpuIn port.val frame) else idle s
      else .next (if port.val = 3 then s.kettleNet frame else s) := by
  simp only [execCpuPortRx, hup, hsize, hnone, Bool.not_true, Bool.false_eq_true, or_self, if_false]
  cases s.domOn .port <;> rfl

/-! ## Batches (R286 to R288) -/

theorem State.front_of_deqHeld {s t : State} {q : Nat} {i : Item} (h : s.deqHeld q = some (i, t)) : (s.queue q).items.head? = some i := by
  unfold State.deqHeld at h
  split at h
  · cases h
  next j r hitems =>
    obtain ⟨rfl, -⟩ := Prod.mk.inj (Option.some.inj h)
    rw [hitems, List.head?_cons]

/-- R86: an acknowledgement item with its words intact is taken. -/
theorem State.takeAckItem_intact {s t : State} {q : Nat} {a : Ack} (h : s.deqHeld q = some (⟨.ack a, 0⟩, t)) :
    s.takeAckItem q 0 = t.takeBatchAck q a := by
  simp only [State.takeAckItem, State.faultFront_zero, State.front_of_deqHeld h, h, ne_eq, not_true_eq_false, if_false]

theorem State.takeAckItem_empty {s : State} {q : Nat} (h : (s.queue q).items = []) : s.takeAckItem q 0 = s := by
  simp only [State.takeAckItem, State.faultFront_zero, h, List.head?_nil]

theorem execBatchAckSend_answers {s : State} {k : Nat} {b : Batch} (h : (s.takeAckItem 0x143 0).completeBatch (fun b => b.kind != 2) = some (k, b)) :
    execBatchAckSend 0 s = .next ((s.takeAckItem 0x143 0).answerBatch k b) := by
  simp only [execBatchAckSend, h]

/-! ## Frames of software (R283, R300, R320) -/

/-- R320: a frame of the software transmit queue goes out from the CPU port, or as one of stream 0 where it carries the address of the twins. -/
theorem execEthSwTx_takes {s u : State} {sub : Option Submission} {b : Bytes} (hu : u = s.submitted 0x142 sub (fun x => .bytes x.item))
    (hdom : u.domOn .port = true) (henable : u.flag Reg.ETH_CTRL_ENABLE = true) (hfront : (u.queue 0x142).items.head? = some ⟨.bytes b, 0⟩) :
    execEthSwTx sub s = .next (if (u.popped 0x142).flag Reg.TWIN_CTRL_ENABLE ∧
        slice b 6 6 = (u.popped 0x142).macOf Reg.TWIN_TWIN_MAC_HI_MAC Reg.TWIN_TWIN_MAC_LO_MAC then (u.popped 0x142).streamZero b
      else (u.popped 0x142).switchOut 3 b) := by
  have hsub : execEthSwTx sub s = execEthSwTx none u := by
    subst hu
    cases sub <;> rfl
  rw [hsub, apply_ite Host.Outcome.next]
  simp only [execEthSwTx, hdom, henable, hfront, State.deq_popped hfront, Bool.not_true, Bool.false_eq_true, or_self, ne_eq,
    not_true_eq_false, if_false]

/-! ## MDIO (R301) -/

theorem State.mdioGo_starts {s : State} {req : Req} (hok : TakesF s req Reg.ETH_MDIO_CMD_GO) (hbusy : s.flag Reg.ETH_MDIO_STAT_BUSY = false)
    (op phy reg data : Nat) : s.mdioGo req op phy reg data =
      ((((((((s.answer 0).setF Reg.ETH_MDIO_CMD_OP op).setF Reg.ETH_MDIO_CMD_PHYAD phy).setF Reg.ETH_MDIO_CMD_REGAD reg).setF
        Reg.ETH_MDIO_CMD_WDATA data).setF Reg.ETH_MDIO_CMD_GO 1).setF Reg.ETH_MDIO_STAT_BUSY 1).emit 40 (mdioFrame op phy reg data)) := by
  rw [State.mdioGo, State.onField_accepted hok, if_neg (by simp [hbusy])]

/-- Settles O44: each condition is the guard of the branch that the command takes. -/
theorem uplinkCommandsComplete : Obligations.UplinkCommandsComplete := by
  unfold Obligations.UplinkCommandsComplete
  refine ⟨?forward, ?forwardBad, ?age, ?cpu, ?kettleNet, ?kettleOther, ?wrapper, ?datagram, ?ackItem, ?ackComplete, ?timeout, ?swTx, ?streamZero,
    ?prpBare, ?prpTrailer, ?prpBad, ?forget, ?supervision, ?lanA, ?lanB, ?link, ?linkP3, ?mdioWrite, ?mdioRead, ?mdioDone, ?mdioReadDone⟩
  case forward =>
    intro s port frame hdom henable hup hsize
    show execSwitchForward port frame false s = _
    simp only [execSwitchForward, hdom, henable, hup, State.received_good hsize, and_self, Bool.not_true, Bool.false_eq_true, if_true, if_false]
  case forwardBad =>
    intro s port frame hdom henable hup
    show execSwitchForward port frame true s = _
    simp only [execSwitchForward, hdom, henable, hup, State.received_badFcs, and_self, Bool.not_false, if_true]
  case age =>
    intro s mac e he hdue
    show execSwitchAge mac s = _
    simp only [execSwitchAge, he, hdue, if_true]
  case cpu =>
    intro s port frame hup hsize hkettle hdom henable
    refine (execCpuPortRx_notKettle hup hsize ?_).trans ?_
    · rcases hkettle with h | h | h <;> simp [h]
    · rw [hdom, henable]
      rfl
  case kettleNet =>
    intro s frame hup hsize hkettle hdom
    refine (execCpuPortRx_notKettle (port := 3) hup hsize ?_).trans ?_
    · rcases hkettle with h | h <;> simp [h]
    · rw [hdom]
      rfl
  case kettleOther =>
    intro s frame u hup hsize hserves hother
    show execCpuPortRx 3 frame s = _
    simp [execCpuPortRx, hup, hsize, hserves, hother]
  case wrapper =>
    intro s t c buf tag b hdeq hlen hsize
    have hfits : ¬(b.length < 9 ∨ b.length ≠ 8 + beAt b 6 2) := by omega
    show execBatchRx 0 s = _
    simp only [execBatchRx, State.faultFront_zero, State.front_of_deqHeld hdeq, hdeq, hfits, ne_eq, not_true_eq_false, if_false, if_true]
  case datagram =>
    rintro s t _ c buf tag n b items _ hdeq hsplit htag rfl rfl
    show execBatchRx 0 s = _
    simp only [execBatchRx, State.faultFront_zero, State.front_of_deqHeld hdeq, hdeq, hsplit, htag, Bool.not_true, Bool.false_eq_true, ne_eq,
      not_true_eq_false, Nat.zero_ne_one, if_false]
  case ackItem =>
    intro s t k a b hdeq hcomplete
    have h := State.takeAckItem_intact hdeq
    exact (execBatchAckSend_answers (h.symm ▸ hcomplete)).trans (by rw [h])
  case ackComplete =>
    intro s k b hempty hcomplete
    have h := State.takeAckItem_empty hempty
    exact (execBatchAckSend_answers (h.symm ▸ hcomplete)).trans (by rw [h])
  case timeout =>
    rintro s _ rfl
    rfl
  case swTx =>
    intro s sub u b hu hdom henable hfront htwin
    exact (execEthSwTx_takes hu hdom henable hfront).trans (congrArg _ (if_neg (by simp [htwin])))
  case streamZero =>
    rintro s sub u _ b hu hdom henable hfront rfl htwin hmac
    exact (execEthSwTx_takes hu hdom henable hfront).trans (congrArg _ (if_pos ⟨htwin, hmac⟩))
  case prpBare =>
    rintro s _ b _ frame rfl hup hsize rfl hprp henable
    show execPrpRx b frame false s = _
    simp only [execPrpRx, hup, State.received_good hsize, hprp, henable, Bool.not_true, Bool.not_false, Bool.false_eq_true, true_or, if_true,
      if_false]
  case prpTrailer =>
    rintro s t u v b _ _ _ frame rfl hup hsize ht hprp hlen rfl hsuffix hptp rfl hu haccept henable
    show execPrpRx b frame false s = _
    simp only [execPrpRx, hup, State.received_good hsize, ← ht, hprp, Nat.not_lt.mpr hlen, hsuffix, hptp, ← hu, haccept, henable, Bool.not_true,
      Bool.false_eq_true, ne_eq, not_true_eq_false, or_self, if_true, if_false]
  case prpBad =>
    rintro s b _ frame rfl hup
    show execPrpRx b frame true s = _
    simp only [execPrpRx, hup, State.received_badFcs, Bool.not_false, if_true]
  case forget =>
    intro s mac x hx hdue
    show execPrpNodeForget mac s = _
    simp only [execPrpNodeForget, hx, hdue, if_true]
  case supervision =>
    rintro s _ _ hdom henable hdue rfl rfl
    refine if_neg ?_
    simp [hdom, henable, Nat.not_lt.mpr hdue]
  case lanA =>
    intro s hdom hdown hdue
    refine if_neg ?_
    simp [hdom, hdown, Nat.not_lt.mpr hdue]
  case lanB =>
    intro s hdom hdown hdue
    refine if_neg ?_
    simp [hdom, hdown, Nat.not_lt.mpr hdue]
  case link =>
    intro s port b speed sqi hport hdom hlink
    show execEthLinkChange port b speed sqi s = _
    simp only [execEthLinkChange, hport, hdom, hlink, Bool.not_true, Bool.false_eq_true, or_self, if_false]
  case linkP3 =>
    intro s b speed sqi hdormant hbackup hlink
    show execEthLinkChange 3 b speed sqi s = _
    simp [execEthLinkChange, hdormant, hbackup, hlink]
  case mdioWrite =>
    exact fun s req phy reg data hok hbusy => congrArg Host.Outcome.next (State.mdioGo_starts hok hbusy ..)
  case mdioRead =>
    exact fun s req phy reg data hok hbusy => congrArg Host.Outcome.next (State.mdioGo_starts hok hbusy ..)
  case mdioDone =>
    intro s driven data hbusy hdom hop
    show execMdioFrameDone driven data s = _
    simp only [execMdioFrameDone, hbusy, hdom, hop, Bool.not_true, Bool.false_eq_true, or_self, if_false]
  case mdioReadDone =>
    intro s driven data hbusy hdom hop
    show execMdioFrameDone driven data s = _
    simp only [execMdioFrameDone, hbusy, hdom, hop, Bool.not_true, Bool.false_eq_true, or_self, if_false, if_true]

end Sys2Proof.Machine
end

section
/-! SUPPORT. A lane and its frame: the start (R98, R99), the plaintext that arrives (R97, R113), the standard instructions (R95, R508) and the end of a stall
(R107): what each command answers. -/

namespace Sys2Proof.Machine

/-! ## Lanes and flights under the updates of the state -/

@[simp] theorem State.lane_setLane_self (s : State) (n : Nat) (l : Lane) : (s.setLane n l).lane n = l := sget_sput_self ..

@[simp] theorem State.lane_setFlight (s : State) (k n : Nat) (x : Option Flight) : (s.setFlight k x).lane n = s.lane n := rfl

/-- R55: poison in a queue is told in registers, and leaves the lanes as they were. -/
@[simp] theorem State.lane_poisoned (s : State) (q c n : Nat) : (s.poisoned q c).lane n = s.lane n := by
  obtain ⟨⟨_, _, h⟩, _⟩ := (OnlyQueues.refl s).poisoned q c
  rw [h]
  rfl

theorem Flight.frame_of_body {fl : Flight} {f : Frame} (h : fl.body = .frame f) : fl.frame = f := by
  rw [Flight.frame, h]

/-! ## The start of a frame (R98, R99) -/

/-- R99: the registers of a lane at the start of a frame. -/
theorem Lane.get_start (l : Lane) (k len fmt now r : Nat) :
    (l.start k len fmt now).get r = if r = 2 then 0x20000 else if r = 10 then len else if r = 11 then fmt else 0 := by
  show (if r = 0 then 0 else sget 0 (sput 0 (sput 0 (sput 0 [] 2 0x20000) 10 len) 11 fmt) r) = _
  by_cases h11 : r = 11
  · subst h11
    exact sget_sput_self ..
  rw [sget_sput_ne _ _ _ _ (Ne.symm h11)]
  by_cases h10 : r = 10
  · subst h10
    exact sget_sput_self ..
  rw [sget_sput_ne _ _ _ _ (Ne.symm h10)]
  by_cases h2 : r = 2
  · subst h2
    exact sget_sput_self ..
  rw [sget_sput_ne _ _ _ _ (Ne.symm h2), if_neg h2, if_neg h10, if_neg h11]
  exact ite_self 0

/-- R98, R99: the frame at the front of the plaintext queue starts on its lane. In `v` the record has been read, in `u` the frame has its slot too. -/
theorem execLaneFrameStart_starts {s v u : State} {lane : Fin 32} {k n : Nat} {fl : Flight}
    (hfront : (s.queue (plainQ lane.val)).items.head? = some ⟨.order k, n⟩) (hfl : s.flight k = some fl) (hfabric : s.domOn .fabric = true)
    (hdom : s.domOn .mem = true) (hservice : s.laneState lane.val = .service) (hidle : (s.lane lane.val).running = none)
    (hstage : fl.stage = .lane) (hslot : s.slotFree k fl = true)
    (hv : v = if fl.copy.isEmpty then s.eccCorrect (recordAddr fl.frame.meter) 1024 else s)
    (hu : u = (v.takeSlot k fl).setFlight k (some { fl with slot := true, stage := .running, arrived := max fl.arrived fl.ptOff })) :
    execLaneFrameStart lane s = .next (
      let t := (u.loadWindow lane.val fl.frame.meter (if fl.copy.isEmpty then u.read (recordAddr fl.frame.meter) 1024 else fl.copy)).setF
        (Reg.LANE_STAT_BANK lane.val) fl.frame.bank
      t.setLane lane.val ((t.lane lane.val).start k fl.frame.raw.length fl.frame.fmt t.tb1)) := by
  subst hu hv
  simp only [execLaneFrameStart, hfront, hfl, hfabric, hservice, hidle, hstage, hslot, State.withDram_on hdom, and_self, if_true]

/-- Settles O19: the lane that starts is set anew, with the registers of R99. -/
theorem aFrameStartsWithClearedRegisters : Obligations.AFrameStartsWithClearedRegisters := by
  intro s lane k n fl f hfront hfl hbody hfabric hdom hservice hidle hstage hslot
  have hframe := Flight.frame_of_body hbody
  refine ⟨_, execLaneFrameStart_starts hfront hfl hfabric hdom hservice hidle hstage hslot rfl rfl, ?regs, ?pc, ?bank, ?running, ?stored⟩
  case regs =>
    intro r
    rw [State.lane_setLane_self, Lane.get_start, hframe]
  case pc => rw [State.lane_setLane_self]; rfl
  case bank =>
    rw [← hframe]
    exact State.getF_setF_self ..
  case running => rw [State.lane_setLane_self]; rfl
  case stored => rw [State.lane_setLane_self]; rfl

/-! ## Plaintext that arrives (R97, R113) -/

section
variable {s : State} {lane : Fin 32} {k : Nat} {fl : Flight} (hdrop : s.dropWord lane.val = none) (harrive : s.arriving lane.val = some (k, fl))
  (hstage : fl.stage ≠ .done)
include hdrop harrive hstage

/-- R97: one word more of a frame arrives, and the lane that waits for it goes on. -/
theorem execPlaintextWordArrive_sound :
    execPlaintextWordArrive lane false s = .next (
      let t := s.setFlight k (some { fl with arrived := min fl.plain.length (4 * (fl.arrived / 4) + 4) })
      if (s.lane lane.val).running = some k ∧ (!(s.lane lane.val).stalled) = true ∧
          min (s.lane lane.val).need fl.plain.length ≤ min fl.plain.length (4 * (fl.arrived / 4) + 4)
      then t.setLane lane.val ((t.lane lane.val).goOn t.tb1) else t) := by
  simp only [execPlaintextWordArrive, hdrop, harrive, hstage, State.lane_setFlight, Bool.false_eq_true, false_and, if_false]

/-- R113: a word whose parity has failed arrives for a frame that its lane has not begun. -/
theorem execPlaintextWordArrive_poison (hrun : (s.lane lane.val).running ≠ some k) :
    execPlaintextWordArrive lane true s = .next ((s.setFlight k (some { fl with
      arrived := min fl.plain.length (4 * (fl.arrived / 4) + 4), poisonWords := fl.poisonWords ++ [fl.arrived / 4] })).poisoned (plainQ lane.val)) := by
  simp only [execPlaintextWordArrive, hdrop, harrive, hstage, State.lane_poisoned, State.lane_setFlight, hrun, false_and, if_true, if_false]

end

/-! ## The standard instructions (R95, R508) -/

theorem execLaneRv32Instruction_runs {s : State} {lane : Fin 32} {k w : Nat} {fl : Flight} {i : Rv} (hready : s.laneReady lane.val = some (k, fl))
    (hfetch : s.laneFetch lane.val (s.lane lane.val).pc = some w) (hdecode : decodeRv w = i) :
    execLaneRv32Instruction lane s = .next (s.runRv lane.val k fl i) := by
  simp only [execLaneRv32Instruction, hready, hfetch, hdecode]

/-- R508: a jump to an aligned target. -/
theorem State.laneJump_aligned (s : State) (n k rd v cycles : Nat) {target : Nat} (h : target % 4 = 0) :
    s.laneJump n k rd v target cycles = s.setLane n (((s.lane n).put rd v).retire cycles target s.tb1) :=
  if_neg (not_not_intro h)

section
variable {s : State} {n k : Nat} {fl : Flight} {f3 rd rs1 rs2 imm : Nat}

theorem State.runRv_branch_taken (htaken : branchTaken f3 ((s.lane n).get rs1) ((s.lane n).get rs2) = true) :
    s.runRv n k fl (.branch f3 rs1 rs2 imm) =
      s.laneJump n k 0 0 (((s.lane n).pc + imm) % 2 ^ 32) ((Rv.branch f3 rs1 rs2 imm).cycles true) :=
  if_pos htaken

theorem State.runRv_branch_passed (hpassed : branchTaken f3 ((s.lane n).get rs1) ((s.lane n).get rs2) = false) :
    s.runRv n k fl (.branch f3 rs1 rs2 imm) = s.laneDone n 0 0 ((Rv.branch f3 rs1 rs2 imm).cycles false) :=
  if_neg (Bool.not_eq_true _ ▸ hpassed)

/-- R95: an aligned load of bytes that the lane can read. -/
theorem State.runRv_load {bs : Bytes} (halign : ((s.lane n).get rs1 + imm) % 2 ^ 32 % loadSize f3 = 0)
    (hload : s.laneLoad n fl (((s.lane n).get rs1 + imm) % 2 ^ 32) (loadSize f3) = .ok bs) :
    s.runRv n k fl (.load f3 rd rs1 imm) = s.laneDone n rd (loadValue f3 bs) ((Rv.load f3 rd rs1 imm).cycles false) := by
  simp only [State.runRv, halign, hload, ne_eq, not_true_eq_false, if_false]

/-- R96: an aligned store to SCRATCH. -/
theorem State.runRv_store {a : Nat} (ha : a = ((s.lane n).get rs1 + imm) % 2 ^ 32) (halign : a % 2 ^ f3 = 0) (hlow : 0x18000 ≤ a)
    (hhigh : a + 2 ^ f3 ≤ 0x20000) :
    s.runRv n k fl (.store f3 rs1 rs2 imm) =
      (s.laneStore n a (leBytes (2 ^ f3) ((s.lane n).get rs2))).laneDone n 0 0 ((Rv.store f3 rs1 rs2 imm).cycles false) := by
  subst ha
  refine if_neg ?_
  rintro (h | h | h)
  · exact h halign
  · exact Nat.not_lt.mpr hlow h
  · exact Nat.not_lt.mpr hhigh h

end

/-- Settles O32: each condition is the guard of the branch that the command takes. -/
theorem laneCommandsComplete : Obligations.LaneCommandsComplete := by
  unfold Obligations.LaneCommandsComplete
  refine ⟨?start, ?drop, ?word, ?goOn, ?badWord, ?lui, ?auipc, ?jal, ?passed, ?load, ?store, ?opImm, ?op, ?mulDiv, ?jalr, ?taken, ?csr, ?fence,
    ?resume, ?limit⟩
  case start =>
    exact fun s lane k n fl v u hfront hfl hfabric hdom hservice hidle hstage hslot hv hu =>
      execLaneFrameStart_starts hfront hfl hfabric hdom hservice hidle hstage hslot hv hu
  case drop =>
    intro s lane t hdrop
    show execPlaintextWordArrive lane false s = _
    simp only [execPlaintextWordArrive, hdrop, Bool.false_eq_true, if_false]
  case word =>
    intro s lane k fl hdrop harrive hstage hwait
    refine (execPlaintextWordArrive_sound hdrop harrive hstage).trans (congrArg _ (if_neg ?_))
    rintro ⟨hrun, hstall, hneed⟩
    rcases hwait with h | h | h
    · exact h hrun
    · simp [h] at hstall
    · exact Nat.not_lt.mpr hneed h
  case goOn =>
    rintro s lane k fl _ hdrop harrive hstage hrun hstall hneed rfl
    exact (execPlaintextWordArrive_sound hdrop harrive hstage).trans (congrArg _ (if_pos ⟨hrun, by rw [hstall]; rfl, hneed⟩))
  case badWord =>
    exact fun s lane k fl hdrop harrive hstage hrun => execPlaintextWordArrive_poison hdrop harrive hstage hrun
  case lui =>
    exact fun s lane k fl w rd imm hready hfetch hdecode => execLaneRv32Instruction_runs hready hfetch hdecode
  case auipc =>
    exact fun s lane k fl w rd imm hready hfetch hdecode => execLaneRv32Instruction_runs hready hfetch hdecode
  case jal =>
    exact fun s lane k fl w rd imm hready hfetch hdecode htarget =>
      (execLaneRv32Instruction_runs hready hfetch hdecode).trans (congrArg _ (State.laneJump_aligned _ _ _ _ _ _ htarget))
  case passed =>
    exact fun s lane k fl w f3 rs1 rs2 imm hready hfetch hdecode hpassed =>
      (execLaneRv32Instruction_runs hready hfetch hdecode).trans (congrArg _ (State.runRv_branch_passed hpassed))
  case load =>
    exact fun s lane k fl w f3 rd rs1 imm bs hready hfetch hdecode halign hload =>
      (execLaneRv32Instruction_runs hready hfetch hdecode).trans (congrArg _ (State.runRv_load halign hload))
  case store =>
    exact fun s lane k fl w f3 rs1 rs2 imm hready hfetch hdecode halign hlow hhigh =>
      (execLaneRv32Instruction_runs hready hfetch hdecode).trans (congrArg _ (State.runRv_store rfl halign hlow hhigh))
  case opImm =>
    exact fun s lane k fl w f3 alt rd rs1 imm hready hfetch hdecode => execLaneRv32Instruction_runs hready hfetch hdecode
  case op =>
    exact fun s lane k fl w f3 alt rd rs1 rs2 hready hfetch hdecode => execLaneRv32Instruction_runs hready hfetch hdecode
  case mulDiv =>
    exact fun s lane k fl w f3 rd rs1 rs2 hready hfetch hdecode => execLaneRv32Instruction_runs hready hfetch hdecode
  case jalr =>
    rintro s lane k fl w rd rs1 imm _ hready hfetch hdecode rfl htarget
    exact (execLaneRv32Instruction_runs hready hfetch hdecode).trans (congrArg _ (State.laneJump_aligned _ _ _ _ _ _ htarget))
  case taken =>
    rintro s lane k fl w f3 rs1 rs2 imm _ hready hfetch hdecode htaken rfl htarget
    exact (execLaneRv32Instruction_runs hready hfetch hdecode).trans
      (congrArg _ ((State.runRv_branch_taken htaken).trans (State.laneJump_aligned _ _ _ _ _ _ htarget)))
  case csr =>
    exact fun s lane k fl w rd csr hready hfetch hdecode => execLaneRv32Instruction_runs hready hfetch hdecode
  case fence =>
    exact fun s lane k fl w hready hfetch hdecode => execLaneRv32Instruction_runs hready hfetch hdecode
  case resume =>
    exact fun s lane hstall hroom => if_pos ⟨hstall, hroom⟩
  case limit =>
    intro s lane k hrun hlimit hservice
    show execCycleLimit lane s = _
    simp only [execCycleLimit, hrun, hlimit, hservice, and_self, if_true]

end Sys2Proof.Machine
end

section
/-! SUPPORT. The Sieve instructions (R103, R105 to R107, R110): what each answers. -/

namespace Sys2Proof.Machine

/-! ## Loads (R103) -/

theorem State.svLdbe_loads {s : State} {n k z rd rs1 imm : Nat} {fl : Flight} {bs : Bytes}
    (h : s.laneLoad n fl (((s.lane n).get rs1 + imm) % 2 ^ 32) z = .ok bs) : s.svLdbe n k fl z rd rs1 imm = s.laneDone n rd (beNat bs) 2 := by
  simp only [State.svLdbe, h]

/-- R103: SV.AXLEN of a length whose form is known, with the `x` bytes that follow its first. -/
theorem execSvAxlen_length {s : State} {lane : Fin 32} {k rd rs1 x : Nat} {fl : Flight} {b0 bs : Bytes}
    (hat : s.atSieve lane.val = some (k, fl, .axlen rd rs1)) (hfirst : s.frameLoad lane.val fl ((s.lane lane.val).get rs1) 1 = .ok b0)
    (hextra : axdrExtra (beNat b0) = some x) (hload : s.frameLoad lane.val fl ((s.lane lane.val).get rs1) (1 + x) = .ok bs) :
    execSvAxlen lane s = .next (s.laneDone lane.val rd ((1 + x) * 2 ^ 16 + (if x = 0 then beNat bs else beNat (bs.drop 1))) 3) := by
  simp only [execSvAxlen, hat, hfirst, hextra, hload]

/-! ## Effects (R103, R105, R106) -/

/-- R106, R508: the state after an effect of a lane: the entry is in the buffer, the record window has changed, and the instruction has retired. -/
def State.withEffect (s : State) (n : Nat) (e : Effect) : State :=
  ((s.setLaneFx n { s.lane n with effects := (s.lane n).effects ++ [e] }).applyEffect (aperture n + 0x8000) e).laneDone n 0 0 2

section
variable {s : State} {n k align : Nat} {e : Effect} (hframe : ((s.lane n).effectsOf k).length < 64) (hroom : (s.lane n).effects.length < 256)
include hframe hroom

theorem State.addEffect_fits : s.addEffect n k e = s.withEffect n e :=
  (if_neg (Nat.not_le.mpr hframe)).trans (if_neg (Nat.not_le.mpr hroom))

/-- R105: an effect at an offset that lies in the record, is aligned and may be written. -/
theorem State.offsetEffect_fits (hoff : e.off ≤ 0x3FF) (halign : e.off % align = 0) (hmask : s.wmaskDenies e.off = false) :
    s.offsetEffect n k align e = s.withEffect n e := by
  have hform : ¬(0x3FF < e.off ∨ e.off % align ≠ 0) := by
    rintro (h | h)
    · exact Nat.not_lt.mpr hoff h
    · exact h halign
  rw [State.offsetEffect, if_neg hform, hmask, if_neg Bool.false_ne_true]
  exact State.addEffect_fits hframe hroom

end

/-- Settles O33: each condition is the guard of the branch that the command takes. -/
theorem sieveInstructionsComplete : Obligations.SieveInstructionsComplete := by
  unfold Obligations.SieveInstructionsComplete
  refine ⟨?axlenShort, ?axlenLong, ?tariff, ?cdate, ?eevt, ?verd, ?ldbeH, ?ldbeW, ?ewr, ?eadd, ?emax, ?ebalImp, ?ebalExp, ?ebalVolt⟩
  case axlenShort =>
    intro s lane k fl rd rs1 b0 hat hfirst hextra
    refine (execSvAxlen_length hat hfirst hextra hfirst).trans ?_
    rw [if_pos rfl]
  case axlenLong =>
    intro s lane k fl rd rs1 x b0 bs hat hfirst hextra hx hload
    refine (execSvAxlen_length hat hfirst hextra hload).trans ?_
    rw [if_neg hx]
  case tariff =>
    intro s lane k fl rd rs1 hat
    show execSvTariff lane s = _
    simp only [execSvTariff, hat]
  case cdate =>
    intro s lane k fl rd rs1 rs2 bs hat hload
    show execSvCdate lane s = _
    simp only [execSvCdate, hat, hload]
  case eevt =>
    intro s lane k fl rs1 rs2 hat hframe hroom
    show execSvEevt lane s = _
    simp only [execSvEevt, hat, State.addEffect_fits hframe hroom, State.withEffect]
  case verd =>
    intro s lane k fl rs1 v hat hverdict hcycles
    show execSvVerd lane s = _
    simp only [execSvVerd, hat, hverdict, hcycles, if_true]
  case ldbeH =>
    intro s lane k fl rd rs1 imm bs hat hload
    show execSvLdbeH lane s = _
    simp only [execSvLdbeH, hat, State.svLdbe_loads hload]
  case ldbeW =>
    intro s lane k fl rd rs1 imm bs hat hload
    show execSvLdbeW lane s = _
    simp only [execSvLdbeW, hat, State.svLdbe_loads hload]
  case ewr =>
    intro s lane k fl rs1 rs2 imm hat hframe hroom hoff halign hmask
    show execSvEwr lane s = _
    simp only [execSvEwr, hat]
    exact congrArg Host.Outcome.next (State.offsetEffect_fits hframe hroom hoff halign hmask)
  case eadd =>
    intro s lane k fl rs1 rs2 rs3 hat hframe hroom hoff halign hmask
    show execSvEadd lane s = _
    simp only [execSvEadd, hat]
    exact congrArg Host.Outcome.next (State.offsetEffect_fits hframe hroom hoff halign hmask)
  case emax =>
    intro s lane k fl rs1 rs2 rs3 hat hframe hroom hoff halign hmask
    show execSvEmax lane s = _
    simp only [execSvEmax, hat]
    exact congrArg Host.Outcome.next (State.offsetEffect_fits hframe hroom hoff halign hmask)
  case ebalImp =>
    intro s lane k fl rs1 rs2 rs3 hat hframe hroom
    show execSvEbalImp lane s = _
    simp only [execSvEbalImp, hat, State.addEffect_fits hframe hroom, State.withEffect]
  case ebalExp =>
    intro s lane k fl rs1 rs2 rs3 hat hframe hroom
    show execSvEbalExp lane s = _
    simp only [execSvEbalExp, hat, State.addEffect_fits hframe hroom, State.withEffect]
  case ebalVolt =>
    intro s lane k fl rs1 rs2 rs3 hat hframe hroom
    show execSvEbalVolt lane s = _
    simp only [execSvEbalVolt, hat, State.addEffect_fits hframe hroom, State.withEffect]

end Sys2Proof.Machine
end

section
/-! SUPPORT. The states of a lane and its repair (R122 to R125), its programs (R126, R127) and the lane map (R115, R116): what each command answers. -/

namespace Sys2Proof.Machine

/-! ## Fences (R122, R123) -/

theorem State.softFence_acts {s : State} {n : Nat} (h : s.laneState n = .service ∨ s.laneState n = .maint) :
    s.softFence n = s.fenceOut n Cause.software 0 :=
  if_pos h

theorem State.softUnfence_fenced {s : State} {n : Nat} (h : s.laneState n = .fenced) :
    s.softUnfence n = ((s.setF (Reg.LANE_CTRL_FENCE n) 0).setLaneState n .selftest).unload n :=
  if_pos h

/-! ## Service and maintenance (R122) -/

section
variable {s : State} {req : Req} {n : Nat}

/-- R122: the first lane may enter SERVICE with a sealed bank, whatever its digest. -/
theorem State.maintRefusal_first (hmaint : s.laneState n = .maint) (hloaded : s.loaded n (s.getF Reg.SIEV_PROG_SWITCH_BANK) = true)
    (hfirst : (s.lanesIn .service).isEmpty = true) : s.maintRefusal n false = none := by
  unfold State.maintRefusal
  rw [hmaint]
  exact if_pos (by rw [hloaded, hfirst]; rfl)

theorem State.maintRefusal_free (hservice : s.laneState n = .service) (hgroup : s.hasGroup n = false) (hbusy : s.laneBusy n = false) :
    s.maintRefusal n true = none := by
  unfold State.maintRefusal
  rw [hservice]
  exact if_neg (by rw [hgroup, hbusy]; exact Bool.false_ne_true)

theorem State.maintRefusal_used (hservice : s.laneState n = .service) (hused : s.hasGroup n = true ∨ s.laneBusy n = true) :
    s.maintRefusal n true = some 0x0101 := by
  unfold State.maintRefusal
  rw [hservice]
  exact if_pos ((Bool.or_eq_true ..).mpr hused)

theorem State.maintWrite_enters (hnone : s.maintRefusal n false = none) (hmaint : s.laneState n = .maint) :
    s.maintWrite req n false = s.intoService n (s.getF Reg.SIEV_PROG_SWITCH_BANK) := by
  rw [State.maintWrite, hnone]
  exact if_pos hmaint

theorem State.maintWrite_leaves (hnone : s.maintRefusal n true = none) (hservice : s.laneState n = .service) :
    s.maintWrite req n true = (s.setLaneState n .maint).setF (Reg.LANE_CTRL_MAINT n) 1 := by
  rw [State.maintWrite, hnone]
  exact if_pos hservice

theorem State.maintWrite_refused {on : Bool} {c : Nat} (hcode : s.maintRefusal n on = some c) :
    s.maintWrite req n on = s.refuseAt req (Reg.LANE_CTRL_MAINT n) c := by
  rw [State.maintWrite, hcode]

/-- R431: only a lane in SERVICE is emptied. -/
theorem State.emptied_outside_service (h : s.laneState n = .maint ∨ s.laneState n = .fenced) : s.emptied n = false := by
  have hout : (s.laneState n == .service) = false := by rcases h with h | h <;> rw [h] <;> rfl
  simp only [State.emptied, hout, Bool.and_false, Bool.false_and]

end

/-! ## Programs (R126) -/

theorem aperturePart_scratch {off : Nat} (h : 0x18000 ≤ off) : aperturePart off = .scratch := by
  unfold aperturePart
  simp only [if_pos h]
  rw [if_neg (by omega), if_neg (by omega), if_neg (by omega), if_neg (by omega), if_neg (by omega), if_neg (by omega)]

theorem aperturePart_bankA {off : Nat} (h : off < 0x4000 ∨ 0x10000 ≤ off ∧ off < 0x14000) : aperturePart off = .bank 0 := by
  unfold aperturePart
  by_cases hlow : off < 0x4000
  · exact if_pos hlow
  · have hhigh := h.resolve_left hlow
    rw [if_neg hlow, if_neg (by omega), if_neg (by omega), if_neg (by omega), if_pos hhigh]

theorem aperturePart_bankB {off : Nat} (h : 0x4000 ≤ off ∧ off < 0x8000 ∨ 0x14000 ≤ off ∧ off < 0x18000) : aperturePart off = .bank 1 := by
  unfold aperturePart
  rw [if_neg (by omega)]
  by_cases hlow : off < 0x8000
  · exact if_pos hlow
  · have hhigh : 0x14000 ≤ off ∧ off < 0x18000 := by omega
    rw [if_neg hlow, if_neg (by omega), if_neg (by omega), if_neg (by omega), if_pos hhigh]

theorem State.apertureWrite_scratch {off : Nat} (h : aperturePart off = .scratch) (s : State) (req : Req) (n : Nat) (bs : Bytes) :
    s.apertureWrite req n off bs = s.write (aperture n + off) bs := by
  simp only [State.apertureWrite, h]

/-- R126: a write to a bank that is not in use unloads it. -/
theorem State.apertureWrite_bank {s : State} {n off b : Nat} (h : aperturePart off = .bank b) (hfree : s.bankInUse n b = false) (req : Req)
    (bs : Bytes) : s.apertureWrite req n off bs =
      (s.write (aperture n + off) bs).setF (if b = 0 then Reg.LANE_STAT_LOADED_A n else Reg.LANE_STAT_LOADED_B n) 0 := by
  simp only [State.apertureWrite, h, hfree, Bool.false_eq_true, if_false]

/-! ## The lane map (R116) -/

/-- R116: a meter of a moving group that has no frame in flight moves; with the sixteenth the move of its group is done. -/
theorem execMeterMove_moves {s : State} {meter : BitVec 20} {o : Nat} (hsrc : (s.mapEntry (meter.toNat / 16)).src = some o)
    (hstays : bitAt (s.mapEntry (meter.toNat / 16)).moved (meter.toNat % 16) = 0) (hfree : s.meterInFlight meter.toNat = false) :
    execMeterMove meter s =
      if (s.mapEntry (meter.toNat / 16)).moved + 2 ^ (meter.toNat % 16) = 0xFFFF
      then .next (s.moveDone (meter.toNat / 16) (s.mapEntry (meter.toNat / 16)).lane).pumpMoves
      else .next (s.setMap (meter.toNat / 16) { s.mapEntry (meter.toNat / 16) with
        moved := (s.mapEntry (meter.toNat / 16)).moved + 2 ^ (meter.toNat % 16) }) :=
  if_pos ⟨by rw [hsrc]; rfl, hstays, hfree⟩

/-- Settles O34: each condition is the guard of the branch that the command takes. -/
theorem laneControlCommandsComplete : Obligations.LaneControlCommandsComplete := by
  unfold Obligations.LaneControlCommandsComplete
  refine ⟨?kat, ?watchdog, ?parity, ?fence, ?unfence, ?selftest, ?enter, ?leave, ?refused, ?powerOn, ?powerOff, ?emptied, ?scratch, ?bankA, ?bankB,
    ?sealing, ?sealedA, ?sealedB, ?init, ?request, ?moves, ?moved⟩
  case kat =>
    exact fun s lane henable hservice hidle hdue => if_pos ⟨henable, hservice, hidle, hdue⟩
  case watchdog =>
    exact fun s lane hservice hrun hwait hdue => if_pos ⟨hservice, hrun, hwait, hdue⟩
  case parity =>
    exact fun s lane off hstate => if_pos hstate
  case fence =>
    exact fun s req lane hok hstate => congrArg Host.Outcome.next ((State.onT_accepted hok ..).trans (State.softFence_acts hstate))
  case unfence =>
    exact fun s req lane hok hstate => congrArg Host.Outcome.next ((State.onT_accepted hok ..).trans (State.softUnfence_fenced hstate))
  case selftest =>
    exact fun s lane hstate => if_pos hstate
  case enter =>
    exact fun s req lane hok hmaint hloaded hfirst =>
      congrArg Host.Outcome.next ((State.onT_accepted hok ..).trans
        (State.maintWrite_enters (s := s.answer 0) (State.maintRefusal_first hmaint hloaded hfirst) hmaint))
  case leave =>
    exact fun s req lane hok hservice hgroup hbusy =>
      congrArg Host.Outcome.next ((State.onT_accepted hok ..).trans
        (State.maintWrite_leaves (s := s.answer 0) (State.maintRefusal_free hservice hgroup hbusy) hservice))
  case refused =>
    exact fun s req lane hok hservice hused =>
      congrArg Host.Outcome.next ((State.onT_accepted hok ..).trans
        (State.maintWrite_refused (s := s.answer 0) (State.maintRefusal_used hservice hused)))
  case powerOn =>
    exact fun s lane hoff => congrArg Host.Outcome.next (if_pos hoff)
  case powerOff =>
    intro s lane hstate
    show execLanePowerOff lane s = _
    simp only [execLanePowerOff, State.emptied_outside_service hstate, hstate, Bool.false_eq_true, if_false, if_true]
  case emptied =>
    intro s lane htending hservice hkept hgroup hidle
    have hemptied : s.emptied lane.val = true := by
      simp only [State.emptied, htending, hservice, hkept, hgroup, hidle, beq_self_eq_true, Bool.not_false, Bool.and_self, Option.isNone_none]
    exact if_pos hemptied
  case scratch =>
    exact fun s req lane off data hok hoff =>
      congrArg Host.Outcome.next ((State.onWrite_accepted hok _).trans (State.apertureWrite_scratch (aperturePart_scratch hoff) ..))
  case bankA =>
    exact fun s req lane off data hok hoff hfree =>
      congrArg Host.Outcome.next ((State.onWrite_accepted hok _).trans
        (State.apertureWrite_bank (s := s.answer 0) (aperturePart_bankA hoff) hfree ..))
  case bankB =>
    exact fun s req lane off data hok hoff hfree =>
      congrArg Host.Outcome.next ((State.onWrite_accepted hok _).trans
        (State.apertureWrite_bank (s := s.answer 0) (aperturePart_bankB hoff) hfree ..))
  case sealing =>
    exact fun s req lane data hok => congrArg Host.Outcome.next (State.onAction_accepted hok _)
  case sealedA =>
    intro s lane hsealing
    show execLaneSealDone lane s = _
    simp only [execLaneSealDone, hsealing, if_true]
  case sealedB =>
    intro s lane hsealing
    show execLaneSealDone lane s = _
    simp only [execLaneSealDone, hsealing, Nat.one_ne_zero, if_false]
  case init =>
    intro s req hok hstopped
    refine congrArg Host.Outcome.next ((State.onField_accepted hok _).trans (if_neg ?_))
    rw [State.answer_flag, hstopped]
    exact Bool.false_ne_true
  case request =>
    intro s req target hok hservice hstill hroom
    refine congrArg Host.Outcome.next ((State.onField_accepted hok _).trans ?_)
    simp only [State.answer_laneState, State.getF_answer, State.answer_mapEntry, State.answer_movingGroups, hservice, hstill, Nat.not_le.mpr hroom,
      ne_eq, not_true_eq_false, Option.isSome_none, Bool.false_eq_true, if_false]
  case moves =>
    exact fun s meter o hsrc hstays hfree hmore => (execMeterMove_moves hsrc hstays hfree).trans (if_neg hmore)
  case moved =>
    exact fun s meter o hsrc hstays hfree hlast => (execMeterMove_moves hsrc hstays hfree).trans (if_pos hlast)

end Sys2Proof.Machine
end

section
/-! SUPPORT. The table engine's commands (R142 to R144), the end of a lock (R148) and the clearing of SUSPECT (R136): what each command answers. -/

namespace Sys2Proof.Machine

/-- R142, R143: a command of the table engine answers what its operation `k` makes of the item taken. -/
theorem State.next_dirCommand_taken {s t : State} {op : Nat} {sub : Option Submission} {b : Bytes}
    (htakes : DirTakes (s.pumpMessages.submitted 0xA1 sub (fun x => .bytes (splice (slice x.item 0 64) 2 [0]))) op b t)
    (k : State → Bytes → State) : (.next (s.dirCommand op sub k) : Host.Outcome State Fault Refusal) = .next (k t b) :=
  congrArg Host.Outcome.next (State.dirCommand_taken rfl htakes k)

/-! ## SUSPECT of a ledger bucket (R136, R148) -/

theorem State.clearSuspect_suspect {s : State} {k : Nat} (hsuspect : s.header 2 k 54 54 = 1) :
    s.clearSuspect k = (s.setHeader 2 k 54 54 0).lowerF Reg.DIR_SUSPECT_CNT_BUCKETS :=
  if_pos hsuspect

/-- R148: an accepted write clears SUSPECT at once, unless the bucket is locked: then the bucket waits for the end of its lock. -/
theorem execDirSuspectClr_accepted {s : State} {req : Req} (hok : TakesF s req Reg.DIR_SUSPECT_CLR_BUCKET) (data : Word) :
    execDirSuspectClr req data s = .next (if s.locked? 2 (bitsOf data.toNat 19 0)
      then { s.answer 0 with dir := { s.dir with clears := s.dir.clears.erase (bitsOf data.toNat 19 0) ++ [bitsOf data.toNat 19 0] } }
      else (s.answer 0).clearSuspect (bitsOf data.toNat 19 0)) :=
  congrArg Host.Outcome.next (State.onField_accepted hok _)

/-- Settles O36: a command that the table engine takes is its operation; a lock's end and the clearing of SUSPECT each follow their guard. -/
theorem directoryCommandsComplete : Obligations.DirectoryCommandsComplete := by
  unfold Obligations.DirectoryCommandsComplete
  refine ⟨?insert, ?delete, ?recWrite, ?routeSet, ?routeDel, ?tokenAdd, ?floorRaise, ?lookup, ?lock, ?unlock, ?lockTimeout, ?suspectFree,
    ?suspectLocked⟩
  case insert | delete | recWrite | routeSet | routeDel | tokenAdd | floorRaise | lookup | lock | unlock =>
    exact fun _ _ _ _ htakes => State.next_dirCommand_taken htakes _
  case lockTimeout =>
    rintro s _ l hdue rfl
    show execDirLockTimeout s = _
    simp only [execDirLockTimeout, hdue]
  case suspectFree =>
    intro s req data hok hfree hsuspect
    refine (execDirSuspectClr_accepted hok data).trans (congrArg Host.Outcome.next ?_)
    rw [hfree]
    exact State.clearSuspect_suspect (s := s.answer 0) hsuspect
  case suspectLocked =>
    exact fun s req data hok hlocked => (execDirSuspectClr_accepted hok data).trans (congrArg Host.Outcome.next (if_pos hlocked))

end Sys2Proof.Machine
end

section
/-! SUPPORT. The balance engine's commands (R154, R155), the boundary marker (R156), the passes of the sweep (R162 to R164) and its resumption (R170):
what each command answers. -/

namespace Sys2Proof.Machine

/-! ## Markers (R156) -/

/-- R156: the boundary above the last marker has been reached: the chip that orders places the next marker. -/
theorem execBalMarkerPlace_due {s : State} (henable : s.flag Reg.BAL_CTRL_ENABLE = true) (horders : s.orders = true)
    (hdue : s.bal.mark.getD (s.utcSec / s.balLen) < s.utcSec / s.balLen) (hcredit : s.hasCredit 0x80 = true) :
    execBalMarkerPlace s =
      .next (({ s with bal := { s.bal with mark := some (s.bal.mark.getD (s.utcSec / s.balLen) + 1) } } : State).placeMarker
        (.balMarker (s.bal.mark.getD (s.utcSec / s.balLen) + 1))) :=
  if_pos ⟨henable, horders, hdue, hcredit⟩

/-! ## The passes (R162 to R164) -/

/-- R162: with MEM running and no report waiting, the node pass takes up the sweep whose nodes are not done. -/
theorem execBalNodePass_sweep {s : State} {w : BalSweep} {r : List BalSweep} (hmem : s.domOn .mem = true) (hnone : s.bal.waiting.isEmpty = true)
    (hsweep : s.bal.sweeps = w :: r) (hnodes : w.nodesDone = false) : execBalNodePass s = .next (s.nodePass w) := by
  rw [execBalNodePass, State.withDram_on hmem]
  simp only [State.nodeWork, hnone, hsweep, hnodes, Bool.not_true, Bool.false_eq_true, if_false]

/-- R163, R164: with no sweep at hand, the node pass revises for a waiting marker. -/
theorem execBalNodePass_revise {s : State} (hmem : s.domOn .mem = true) (hnone : s.bal.waiting.isEmpty = true) (hsweep : s.bal.sweeps = [])
    (hwait : s.flag Reg.BAL_STAT_MARKER_WAIT = true) : execBalNodePass s = .next s.revisePass := by
  rw [execBalNodePass, State.withDram_on hmem]
  simp only [State.nodeWork, hnone, hsweep, hwait, Bool.not_true, Bool.false_eq_true, if_false, if_true]

/-- R162: with MEM running and no report waiting, the meter pass takes up the sweep whose nodes are done. -/
theorem execBalMeterPass_sweep {s : State} {w : BalSweep} {r : List BalSweep} (hmem : s.domOn .mem = true) (hnone : s.bal.waiting.isEmpty = true)
    (hsweep : s.bal.sweeps = w :: r) (hnodes : w.nodesDone = true) : execBalMeterPass s = .next (s.meterPass w) := by
  rw [execBalMeterPass, State.withDram_on hmem]
  simp only [State.meterWork, hnone, hsweep, hnodes, Bool.not_true, Bool.false_eq_true, if_false, if_true]

/-! ## Resumption (R170): a report waits, the report queue has credit and MEM runs -/

section
variable {s : State} (hwaits : s.bal.waiting.isEmpty = false) (hcredit : s.hasCredit 0xA8 = true) (hmem : s.domOn .mem = true)
include hwaits hcredit

theorem State.resume_not_idle : ¬ (s.bal.waiting.isEmpty = true ∨ (!s.hasCredit 0xA8) = true) := by
  simp only [hwaits, hcredit, Bool.not_true, Bool.false_eq_true, or_self, not_false_eq_true]

include hmem

/-- R170: reports that the credit does not cover keep the sweep waiting. -/
theorem execBalSweepResume_stalled (hleft : s.balFlush.bal.waiting.isEmpty = false) : execBalSweepResume s = .next s.balFlush := by
  rw [execBalSweepResume, if_neg (State.resume_not_idle hwaits hcredit), State.withDram_on hmem]
  cases hreports : s.balFlush.bal.waiting with
  | nil => simp [hreports] at hleft
  | cons b bs => simp only [hreports]

/-- R170: once every report is sent, the sweep goes on with the pass that it had reached. -/
theorem execBalSweepResume_sweep {w : BalSweep} {r : List BalSweep} (hsent : s.balFlush.bal.waiting = []) (hsweep : s.balFlush.bal.sweeps = w :: r) :
    execBalSweepResume s = if w.nodesDone then .next (s.balFlush.meterPass w) else .next (s.balFlush.nodePass w) := by
  rw [execBalSweepResume, if_neg (State.resume_not_idle hwaits hcredit), State.withDram_on hmem]
  simp only [hsent, hsweep]

end

/-- Settles O37: the four commands are taken alike, and each other clause is the branch of its command that the condition selects. -/
theorem balanceCommandsComplete : Obligations.BalanceCommandsComplete := by
  unfold Obligations.BalanceCommandsComplete
  refine ⟨?nodeSet, ?nodeDel, ?meterAssign, ?auditReset, ?marker, ?nodes, ?revise, ?meters, ?stalled, ?resumeMeters, ?resumeNodes⟩
  case nodeSet | nodeDel | meterAssign | auditReset =>
    exact fun s sub u b hu hfront hop hcredit hopen hwf horders hmem =>
      congrArg Host.Outcome.next (State.balCommand_taken hu hfront hop hcredit hopen hwf horders hmem)
  case marker =>
    rintro s _ rfl henable horders hdue hcredit
    exact execBalMarkerPlace_due henable horders hdue hcredit
  case nodes =>
    exact fun s w r hmem hnone hsweep hnodes => execBalNodePass_sweep hmem hnone hsweep hnodes
  case revise =>
    exact fun s hmem hnone hsweep hwait => execBalNodePass_revise hmem hnone hsweep hwait
  case meters =>
    exact fun s w r hmem hnone hsweep hnodes => execBalMeterPass_sweep hmem hnone hsweep hnodes
  case stalled =>
    exact fun s hmem hwaits hcredit hleft => execBalSweepResume_stalled hwaits hcredit hmem hleft
  case resumeMeters =>
    exact fun s w r hmem hwaits hcredit hsent hsweep hnodes =>
      (execBalSweepResume_sweep hwaits hcredit hmem hsent hsweep).trans (if_pos hnodes)
  case resumeNodes =>
    exact fun s w r hmem hwaits hcredit hsent hsweep hnodes =>
      (execBalSweepResume_sweep hwaits hcredit hmem hsent hsweep).trans (if_neg (ne_true_of_eq_false hnodes))

end Sys2Proof.Machine
end

section
/-! SUPPORT. The billing engine (R180, R184, R188, R191), token entry (R195), the calendars (R179, R202) and the panel (R198 to R200): what each command
answers. -/

namespace Sys2Proof.Machine

/-! ## Markers (R180): the chip orders and the dispatch queue has credit -/

section
variable {s : State} (hmay : s.mayMark = true)
include hmay

/-- R180: a demand boundary has been reached, and no balance marker goes first. -/
theorem execDemandMarkerPlace_due {t : Nat} (hdue : s.demDue = some t) (hfirst : (s.flag Reg.BAL_CTRL_ENABLE && dueBy s.balDue t) = false) :
    execDemandMarkerPlace s =
      .next (({ s with bill := { s.bill with demMark := some (t / s.demLen) } } : State).placeMarker (.demandMarker (t / s.demLen) 0)) := by
  simp only [execDemandMarkerPlace, hdue, hmay, hfirst, Bool.not_true, Bool.or_self, Bool.false_eq_true, if_false]

variable (hbal : s.balDue = none) (hdem : s.demDue = none)
include hbal hdem

/-- R180, R187, R189: a boundary of billing local time has been passed, and no balance or demand marker goes first. -/
theorem execCloseMarkerPlace_due {b top skip : Nat} (hdue : s.closeDue = some (b, top))
    (hskip : (if b < top then max s.bill.skipTo top else s.bill.skipTo) = skip) :
    execCloseMarkerPlace s = .next (({ s with bill := { s.bill with closeMark := some b, skipTo := skip } } : State).placeMarker
      (.closeMarker b (decide (b ≤ skip)) s.utcSec)) := by
  subst hskip
  simp only [execCloseMarkerPlace, hdue, hmay, hbal, hdem, Bool.not_true, Option.isSome_none, Bool.or_self, Bool.false_eq_true, if_false]

/-- R180, R191: a multiple of the checkpoint period has been passed, and no other marker goes first: the boundary counts as marked, and its CKPT is placed
unless a checkpoint is open. -/
theorem execCkptMarkerPlace_due {last : Nat} (henable : s.flag Reg.BILL_CTRL_ENABLE = true) (hlast : s.bill.ckptMark = some last)
    (hdue : last < s.utcSec / (60 * s.getF Reg.BILL_CKPT_CFG_PERIOD)) (hclose : s.closeDue = none) :
    execCkptMarkerPlace s = if s.bill.open_.isSome
      then .next { s with bill := { s.bill with ckptMark := some (last + 1) } }
      else .next (({ s with bill := { s.bill with ckptMark := some (last + 1) } } : State).placeMarker (.ckptMarker (last + 1))) := by
  simp only [execCkptMarkerPlace, henable, hlast, Option.getD_some, Nat.not_le.mpr hdue, hmay, hbal, hdem, hclose, Bool.not_true, Option.isSome_none,
    Bool.false_eq_true, or_self, if_false]

end

/-! ## Sweeps and checkpoints (R184, R188, R191) -/

/-- R184: with MEM running, the oldest demand sweep passes every VALID record and ends. -/
theorem execDemandSweep_sweeps {s t : State} {w : DemSweep} {r : List DemSweep} (hmem : s.domOn .mem = true) (hsweep : s.bill.demSweeps = w :: r)
    (ht : s.validRecords.foldl (fun t m => t.demSweepOne m) s = t) :
    execDemandSweep s = .next { t with bill := { t.bill with demSweeps := t.bill.demSweeps.drop 1 } } := by
  simp only [execDemandSweep, hsweep, State.withDram_on hmem, ht]

/-- R188: with MEM running, the oldest close sweep rolls the records still before its boundary and reports CLOSE_DONE. -/
theorem execCloseSweep_sweeps {s t u : State} {j : CloseJob} {r : List CloseJob} (hmem : s.domOn .mem = true) (hsweep : s.bill.sweeps = j :: r)
    (ht : t = s.validRecords.foldl (fun t m => if t.recF m 0x1E0 4 < j.b then t.touch m else t) s)
    (hu : u = (t.billReport 6 (bit1 (t.isReplayed j.order)) 0 j.order (leBytes 4 j.b ++ leBytes 4 (if j.skipped then 1 else 0))).irq
      Reg.BILL_IRQ_CLOSED) :
    execCloseSweep s = .next { u.setF Reg.BILL_SWEEP_LAST_US (min (2 ^ 24 - 1) ((u.tb1 - u.bill.sweepAt) / 1000)) with
      bill := { u.bill with sweeps := r, sweepAt := u.tb1 } } := by
  simp only [execCloseSweep, hsweep, State.withDram_on hmem, ← ht, ← hu, State.setF_bill, State.setF_tb1]

/-- R191: with MEM running, the records of the open checkpoint are copied. -/
theorem execCkptSweep_copies {s t : State} (hmem : s.domOn .mem = true) (hopen : s.bill.open_.isSome = true)
    (ht : t = (List.range 1048576).foldl (fun t m => t.ckptCopy m) s) :
    execCkptSweep s = .next { t with bill := { t.bill with open_ := t.bill.open_.map (fun c => { c with swept := true }) } } := by
  have hsome : ¬ s.bill.open_.isNone = true := by simp only [Option.isNone_eq_false_iff.mpr hopen, Bool.false_eq_true, not_false_eq_true]
  rw [execCkptSweep, if_neg hsome, State.withDram_on hmem, ht]

/-- R191: the copied checkpoint becomes complete once the snapshot volume takes writes. -/
theorem execCkptComplete_durable {s t : State} {c : Checkpoint} (hopen : s.bill.open_ = some c) (hswept : c.swept = true) (hvol : s.volState = 0)
    (ht : t = { s with bill := { s.bill with open_ := none, complete := ({ c with durable := true } :: s.bill.complete).take 2 } }) :
    execCkptComplete s = .next (((t.setF Reg.BILL_STAT_CKPT_OPEN 0).irq Reg.BILL_IRQ_CKPT_DONE).billReport 7 (bit1 (t.isReplayed c.order)) 0 c.order
      (leBytes 6 c.order)) := by
  subst ht
  simp only [execCkptComplete, hopen, hswept, hvol, Bool.not_true, Bool.false_eq_true, ne_eq, not_true_eq_false, if_false]

/-! ## A queue beside the billing state (R16, R59) -/

theorem State.crossings_withBill (s : State) (q : Nat) (old new : Bool × Bool) (b : BillState) :
    ({ s with bill := b } : State).crossings q old new = { s.crossings q old new with bill := b } := by
  unfold State.crossings
  split_ifs <;> rfl

theorem State.putQueue_withBill (s : State) (q : Nat) (x : Queue) (b : BillState) :
    ({ s with bill := b } : State).putQueue q x = { s.putQueue q x with bill := b } := by
  unfold State.putQueue
  exact State.crossings_withBill { s with queues := sput (Queue.init q) s.queues q x } q _ _ b

/-- R16: an item is placed without regard to the billing state. -/
theorem State.enq_withBill (s : State) (q : Nat) (i : Item) (b : BillState) :
    ({ s with bill := b } : State).enq q i = { s.enq q i with bill := b } := by
  unfold State.enq State.setQueue
  exact State.putQueue_withBill s q _ b

/-! ## Token entry (R195) -/

/-- R195: with credit in the dispatch queue, the waiting software token is placed. -/
theorem State.tokenIn_placed {s : State} {b : Bytes} {m : Nat} (hwaits : s.bill.token = some (b, m)) (hcredit : s.hasCredit 0x80 = true) :
    s.tokenIn = { s.enq 0x80 { body := .orderedItem (.token b m 2) } with bill := { s.bill with token := none } } := by
  simp only [State.tokenIn, hwaits, hcredit, if_true]

/-- R195: without credit in the dispatch queue, a software token waits. -/
theorem State.tokenIn_waits {s : State} (hcredit : s.hasCredit 0x80 = false) : s.tokenIn = s := by
  unfold State.tokenIn
  split
  · exact if_neg (ne_true_of_eq_false hcredit)
  · rfl

/-- The state with a software token in hand: GO reads 1, and the token waits for the dispatch queue. -/
def State.tokenTaken (t : State) (m : Nat) : State :=
  { t.setF Reg.BILL_TOK_GO_GO 1 with bill := { t.bill with token := some ((t.setF Reg.BILL_TOK_GO_GO 1).tokDigits, m) } }

/-- R195: does `BILL.TOK_GO` refuse a token for a meter: the meter is none of the chip's, or a group of digits is no number of five digits? -/
def State.tokGoRefuses (t : State) (m : Nat) : Bool :=
  decide (t.getF Reg.DIR_ROLE_LIMIT_METERS ≤ m) || decide (99999 < t.getF Reg.BILL_TOK_D0_DIGITS) || decide (99999 < t.getF Reg.BILL_TOK_D1_DIGITS) ||
    decide (99999 < t.getF Reg.BILL_TOK_D2_DIGITS) || decide (99999 < t.getF Reg.BILL_TOK_D3_DIGITS)

theorem State.tokGoRefuses_eq_false {t : State} {m : Nat} (hmeter : m < t.getF Reg.DIR_ROLE_LIMIT_METERS)
    (h0 : t.getF Reg.BILL_TOK_D0_DIGITS ≤ 99999) (h1 : t.getF Reg.BILL_TOK_D1_DIGITS ≤ 99999) (h2 : t.getF Reg.BILL_TOK_D2_DIGITS ≤ 99999)
    (h3 : t.getF Reg.BILL_TOK_D3_DIGITS ≤ 99999) : t.tokGoRefuses m = false := by
  simp only [State.tokGoRefuses, decide_eq_false (Nat.not_le.mpr hmeter), decide_eq_false (Nat.not_lt.mpr h0), decide_eq_false (Nat.not_lt.mpr h1),
    decide_eq_false (Nat.not_lt.mpr h2), decide_eq_false (Nat.not_lt.mpr h3), Bool.or_self]

/-- R195, R313: a chip that orders, with billing enabled and no token in hand, takes a valid token, which enters the dispatch queue as that has credit. -/
theorem execTokGo_taken {s t : State} {req : Req} {data : Word} (hok : TakesA s req Reg.BILL_TOK_GO_GO data.toNat) (hgo : bitAt data.toNat 31 = 1)
    (hfree : s.flag Reg.BILL_TOK_GO_GO = false) (ht : t = plainly s req Reg.BILL_TOK_GO_GO data.toNat)
    (hvalid : t.tokGoRefuses (bitsOf data.toNat 19 0) = false)
    (horders : t.orders = true) (henable : t.flag Reg.BILL_CTRL_ENABLE = true) :
    execTokGo req data s = .next (t.tokenTaken (bitsOf data.toNat 19 0)).tokenIn := by
  unfold State.tokGoRefuses at hvalid
  rw [execTokGo, State.onAction_accepted hok, ← ht]
  simp only [hgo, hfree, hvalid, horders, henable, Nat.one_ne_zero, Bool.not_true, Bool.false_eq_true, if_false, State.setF_bill, State.tokenTaken]

/-- R195: a token just taken goes straight to the dispatch queue where that has credit. -/
theorem State.tokenTaken_tokenIn {t : State} {m : Nat} (hcredit : t.hasCredit 0x80 = true) :
    (t.tokenTaken m).tokenIn =
      { (t.setF Reg.BILL_TOK_GO_GO 1).enq 0x80 { body := .orderedItem (.token (t.setF Reg.BILL_TOK_GO_GO 1).tokDigits m 2) } with
        bill := { t.bill with token := none } } := by
  rw [State.tokenIn_placed (s := t.tokenTaken m) rfl hcredit, State.tokenTaken, State.enq_withBill]

/-! ## The panel (R198 to R200) -/

/-- R198: the dwell of a scrolling panel has ended: a one-row display that has shown the label alone turns to the value, else the item changes. -/
theorem execPanelItemChange_scrolls {s : State} (hunlocked : s.panel.showLocked = false) (hscrolls : s.panelScrolls = true)
    (hdwell : s.panel.nextAt ≤ s.tb1) :
    execPanelItemChange s = if s.getF Reg.PANEL_DISP_CFG_ROWS = 1 ∧ (!s.panel.alt) = true ∧ (!s.panel.shown.2.isEmpty) = true
      then .next (({ s with panel := { s.panel with nextAt := s.tb1 + s.getF Reg.PANEL_DWELL_S * nsPerS / 2 } } : State).showValue)
      else .next (s.panelChange (fun p _ => p + 1)) := by
  simp only [execPanelItemChange, hunlocked, hscrolls, Nat.not_lt.mpr hdwell, Bool.not_true, Bool.false_eq_true, false_and, or_self, if_false]

/-- The state once a scan has read a key, `cnt` times alike in a row: input 7 has its level. -/
def State.scanned (s : State) (key : Option (Fin 16)) (cnt : Nat) : State :=
  ({ s with panel := { s.panel with scanKey := key.map (·.val), scanCnt := cnt } } : State).inputEdge 7 key.isSome

/-- R199: the number of equal scans in a row, this one of `key` included. -/
def State.scansAlike (s : State) (key : Option (Fin 16)) : Nat :=
  if key.map (·.val) = s.panel.scanKey then min 4 (s.panel.scanCnt + 1) else 1

section
variable {s : State} (henable : s.flag Reg.PANEL_CTRL_ENABLE = true)
include henable

theorem execPanelKeyScan_none : execPanelKeyScan none s = .next (s.scanned none (s.scansAlike none)) :=
  if_neg (by simp only [henable, Bool.not_true, Bool.false_eq_true, not_false_eq_true])

/-- R199, R441: the third scan alike accepts the key, unless the keypad is masked as stuck. -/
theorem execPanelKeyScan_some (k : Fin 16) :
    execPanelKeyScan (some k) s =
      if s.scansAlike (some k) = 3 ∧ (!(s.scanned (some k) (s.scansAlike (some k))).flag (condField Reg.AON_COND_STAT_STUCK_MASK 7)) = true
      then .next ((s.scanned (some k) (s.scansAlike (some k))).panelKey k.val)
      else .next (s.scanned (some k) (s.scansAlike (some k))) :=
  if_neg (by simp only [henable, Bool.not_true, Bool.false_eq_true, not_false_eq_true])

/-- R199: a scan that is not the third alike accepts no key. -/
theorem execPanelKeyScan_counts (key : Option (Fin 16)) (hcnt : s.scansAlike key ≠ 3) :
    execPanelKeyScan key s = .next (s.scanned key (s.scansAlike key)) := by
  cases key with
  | none => exact execPanelKeyScan_none henable
  | some k => exact (execPanelKeyScan_some henable k).trans (if_neg fun h => hcnt h.1)

/-- R199: the third scan alike, on a keypad that is not masked, accepts the key. -/
theorem execPanelKeyScan_accepts {k : Fin 16} (hcnt : s.scansAlike (some k) = 3)
    (hmask : (s.scanned (some k) 3).flag (condField Reg.AON_COND_STAT_STUCK_MASK 7) = false) :
    execPanelKeyScan (some k) s = .next ((s.scanned (some k) 3).panelKey k.val) := by
  rw [execPanelKeyScan_some henable, hcnt]
  exact if_pos ⟨rfl, by rw [hmask, Bool.not_false]⟩

end

/-- Settles O38: each condition is the guard of the branch that the command takes. -/
theorem billingCommandsComplete : Obligations.BillingCommandsComplete := by
  unfold Obligations.BillingCommandsComplete
  refine ⟨?demandMarker, ?closeMarker, ?closeSkipped, ?ckptMarker, ?ckptPassedOver, ?demandSweep, ?closeSweep, ?ckptSweep, ?ckptComplete, ?tokPlaced,
    ?tokWaits, ?calCheck, ?calResolve, ?showsValue, ?nextItem, ?showsLocked, ?keyCounts, ?keyAccepted, ?entryTimeout, ?lockEnd⟩
  case demandMarker =>
    exact fun s t hdue hmay hfirst => execDemandMarkerPlace_due hmay hdue hfirst
  case closeMarker =>
    exact fun s b top hdue hmay hbal hdem htop => execCloseMarkerPlace_due hmay hbal hdem hdue (if_neg (Nat.not_lt.mpr htop))
  case closeSkipped =>
    intro s b top hdue hmay hbal hdem htop
    have hskipped : b ≤ max s.bill.skipTo top := htop.le.trans (le_max_right _ _)
    refine (execCloseMarkerPlace_due hmay hbal hdem hdue (if_pos htop)).trans ?_
    rw [decide_eq_true hskipped]
  case ckptMarker =>
    rintro s _ last rfl henable hlast hdue hmay hbal hdem hclose hopen
    exact (execCkptMarkerPlace_due hmay hbal hdem henable hlast hdue hclose).trans (if_neg (by simp [hopen]))
  case ckptPassedOver =>
    rintro s _ last rfl henable hlast hdue hmay hbal hdem hclose hopen
    exact (execCkptMarkerPlace_due hmay hbal hdem henable hlast hdue hclose).trans (if_pos hopen)
  case demandSweep =>
    exact fun s w r hmem hsweep => execDemandSweep_sweeps hmem hsweep rfl
  case closeSweep =>
    exact fun s j r t u hmem hsweep ht hu => execCloseSweep_sweeps hmem hsweep ht hu
  case ckptSweep =>
    exact fun s t hmem hopen ht => execCkptSweep_copies hmem hopen ht
  case ckptComplete =>
    exact fun s t c hopen hswept hvol ht => execCkptComplete_durable hopen hswept hvol ht
  case tokPlaced =>
    intro s t req data hok hgo hfree ht hmeter h0 h1 h2 h3 horders henable hcredit
    refine (execTokGo_taken hok hgo hfree ht (State.tokGoRefuses_eq_false hmeter h0 h1 h2 h3) horders henable).trans (congrArg Host.Outcome.next ?_)
    exact State.tokenTaken_tokenIn hcredit
  case tokWaits =>
    intro s t req data hok hgo hfree ht hmeter h0 h1 h2 h3 horders henable hcredit
    refine (execTokGo_taken hok hgo hfree ht (State.tokGoRefuses_eq_false hmeter h0 h1 h2 h3) horders henable).trans (congrArg Host.Outcome.next ?_)
    exact State.tokenIn_waits (s := t.tokenTaken _) hcredit
  case calCheck | calResolve =>
    exact fun s req data hok => congrArg Host.Outcome.next (State.onAction_accepted hok _)
  case showsValue =>
    exact fun s hunlocked hscrolls hdwell hrows halt hvalue =>
      (execPanelItemChange_scrolls hunlocked hscrolls hdwell).trans (if_pos (by simp only [hrows, halt, hvalue, Bool.not_false, and_self]))
  case nextItem =>
    intro s hunlocked hscrolls hdwell hlabel
    refine (execPanelItemChange_scrolls hunlocked hscrolls hdwell).trans (if_neg ?_)
    rintro ⟨hrows, halt, -⟩
    rcases hlabel with hrows' | halt'
    · exact hrows' hrows
    · simp [halt'] at halt
  case showsLocked =>
    exact fun s hlocked hdwell => if_pos ⟨hlocked, hdwell⟩
  case keyCounts =>
    rintro s key _ henable rfl hcnt
    exact execPanelKeyScan_counts henable key hcnt
  case keyAccepted =>
    rintro s _ k henable hkey hcnt rfl hmask
    have halike : s.scansAlike (some k) = 3 := by simp [State.scansAlike, hkey, hcnt]
    exact execPanelKeyScan_accepts henable halike hmask
  case entryTimeout =>
    intro s hentry hwaits huntil
    exact if_pos ⟨hentry, by simpa using hwaits, huntil⟩
  case lockEnd =>
    intro s t hlock hdue
    show execPanelLockEnd s = _
    rw [execPanelLockEnd, hlock]
    exact if_pos hdue

end Sys2Proof.Machine
end

section
/-! SUPPORT. The passage of time (R204, R205): a step with no command waiting, and TB1, which no event record, RTC tick, alarm or wake source changes. -/

namespace Sys2Proof.Machine

/-! ## Event records (R485) -/

/-- R485: an event record reaches the queues and the register fields alone. -/
theorem State.event_rest (s : State) (e : Ev) (page : Nat) (data : Bytes) : ∃ r x, s.event e page data = { s with regs := r, queues := x } := by
  unfold State.event
  split
  · exact (s.enq_onlyQueues ..).rest
  · exact ⟨_, _, rfl⟩

/-- R485: an event record changes no register field but those of the recorder and those in which a page tells of its queues. -/
theorem State.event_getF (s : State) (e : Ev) (page : Nat) (data : Bytes) {f : Field} (hf : f.AsideOfQueues) (hpage : f.page ≠ 0x06) :
    (s.event e page data).getF f = s.getF f := by
  have ⟨_, _, _, hfoff, hflo⟩ := hf
  have hne : ∀ g : Field, g.page = 0x06 → g.off < 4096 → g.lo < 32 → g.key ≠ f.key := fun g hg hoff hlo =>
    (key_ne_of_page hoff hlo hfoff hflo (hg ▸ hpage)).symm
  unfold State.event
  split
  · exact (s.enq_onlyQueues ..).getF f hf
  · exact (State.getF_setF_ne _ _ (hne Reg.EVR_IRQ_LOST rfl (by decide) (by decide))).trans
      (State.getF_setF_ne _ _ (hne Reg.EVR_LOST_CNT_CNT rfl (by decide) (by decide)))

/-! ## What leaves TB1 as it was -/

/-- What every step of a fold keeps, the fold keeps. -/
theorem foldl_keeps {α β : Type} {v : State → β} {step : State → α → State} (hstep : ∀ t x, v (step t x) = v t) (l : List α) (s : State) :
    v (l.foldl step s) = v s := by
  induction l generalizing s with
  | nil => rfl
  | cons x r ih => exact (ih _).trans (hstep s x)

@[simp] theorem State.irq_tb1 (s : State) (f : Field) : (s.irq f).tb1 = s.tb1 := rfl

@[simp] theorem State.event_tb1 (s : State) (e : Ev) (page : Nat) (data : Bytes) : (s.event e page data).tb1 = s.tb1 := by
  obtain ⟨_, _, h⟩ := s.event_rest e page data
  rw [h]

@[simp] theorem State.startDomain_tb1 (s : State) (d : Domain) : (s.startDomain d).tb1 = s.tb1 := by
  have hlock : (s.setLock d true).tb1 = s.tb1 := by
    unfold State.setLock
    split <;> rfl
  unfold State.startDomain State.setDom
  dsimp only
  split_ifs <;> exact hlock

@[simp] theorem State.needDom_getD_tb1 (s : State) (d : Domain) : ((s.needDom d).getD s).tb1 = s.tb1 := by
  unfold State.needDom
  split_ifs <;> simp

@[simp] theorem State.modeDomains_tb1 (s : State) (mode : Nat) : (s.modeDomains mode).tb1 = s.tb1 :=
  foldl_keeps (v := State.tb1) (fun t d => t.needDom_getD_tb1 d) _ s

@[simp] theorem State.p3Mode_tb1 (s : State) (was : Mode) : (s.p3Mode was).tb1 = s.tb1 := by
  have hlink : ∀ up, (s.p3Link up).tb1 = s.tb1 := fun up => by
    unfold State.p3Link
    split <;> rfl
  unfold State.p3Mode
  split_ifs <;> simp [hlink]

@[simp] theorem State.toMode_tb1 (s : State) (m : Mode) : (s.toMode m).tb1 = s.tb1 := by
  unfold State.toMode
  split <;> simp

@[simp] theorem State.riseTo_tb1 (s : State) (target : Nat) : (s.riseTo target).tb1 = s.tb1 := by
  unfold State.riseTo
  split
  · exact State.toMode_tb1 ..
  · rfl

/-- R424: a wake source may start domains and a start-up, and leaves TB1. -/
@[simp] theorem State.wake_tb1 (s : State) (bit target : Nat) : (s.wake bit target).tb1 = s.tb1 := by
  unfold State.wake
  dsimp only
  split_ifs <;> simp

@[simp] theorem State.fireRtc_tb1 (s : State) (n : Nat) (late : Bool) : (s.fireRtc n late).tb1 = s.tb1 := by
  unfold State.fireRtc
  dsimp only
  split_ifs <;> simp

@[simp] theorem State.rtcJump_tb1 (s was : State) : (s.rtcJump was).tb1 = s.tb1 := by
  refine foldl_keeps (v := State.tb1) (fun t n => ?_) _ s
  dsimp only
  split_ifs <;> simp

@[simp] theorem State.fireRtcDue_tb1 (s : State) : s.fireRtcDue.tb1 = s.tb1 := by
  refine foldl_keeps (v := State.tb1) (fun t n => ?_) _ s
  split <;> simp

@[simp] theorem State.rtcLoad_tb1 (s : State) (v : Nat) : (s.rtcLoad v).tb1 = s.tb1 := by
  simp [State.rtcLoad]

@[simp] theorem State.rtcLeapt_tb1 (s : State) : s.rtcLeapt.tb1 = s.tb1 := by
  unfold State.rtcLeapt
  dsimp only
  split <;> rfl

@[simp] theorem State.rtcTick_tb1 (s : State) : s.rtcTick.tb1 = s.tb1 := by
  unfold State.rtcTick
  dsimp only
  split
  · simp
  · split
    · split <;> rfl
    · split <;> simp
    · rfl

/-- R224: a cycle of SLOW counts the RTC alone. -/
@[simp] theorem State.slowTick_tb1 (s : State) : s.slowTick.tb1 = s.tb1 := by
  unfold State.slowTick
  dsimp only
  split_ifs <;> simp

@[simp] theorem State.tb4Tick_tb1 (s : State) : s.tb4Tick.tb1 = s.tb1 := by
  unfold State.tb4Tick
  dsimp only
  split <;> rfl

@[simp] theorem State.syncTick_tb1 (s was : State) : (s.syncTick was).tb1 = s.tb1 := by
  unfold State.syncTick
  split <;> simp

/-! ## 10 ns pass (R204) -/

/-- R204, R205: outside BACKUP, TB1 is 10 ns later after the tick. -/
theorem State.tick_tb1 {s : State} (hmode : s.mode ≠ .backup) : s.tick.tb1 = s.tb1 + 10 := by
  have htb0 : ({ s with tb1 := s.tb1 + 10 } : State).tb0Tick.tb1 = s.tb1 + 10 := rfl
  have htb3 : ∀ t : State, t.tb3Tick.tb1 = t.tb1 := fun _ => rfl
  unfold State.tick
  dsimp only
  rw [if_neg fun h => hmode h.1, State.syncTick_tb1]
  split_ifs <;> simp [htb0, htb3]

/-- Settles O2: a step of an empty queue is the tick and what goes on between commands, and no part of the tick but its own 10 ns changes TB1. -/
theorem anEmptyQueueLetsTimePass : Obligations.AnEmptyQueueLetsTimePass := by
  unfold Obligations.AnEmptyQueueLetsTimePass
  refine ⟨fun s hempty => ?_, fun s hmode => State.tick_tb1 hmode⟩
  rw [step, hempty]

end Sys2Proof.Machine
end

section
/-! SUPPORT. The time bases: leap seconds (R207), TB0 and its sources (R211 to R215) and the zero crossings of TB4 (R220, R241): what each command answers. -/

namespace Sys2Proof.Machine

/-! ## Leap seconds (R207) -/

/-- R207: an inserted second that has begun ends a second later. -/
theorem State.leapNow_ends {s : State} {n : Nat} (hleap : s.time.leapAt = some n) (hover : n + nsPerS ≤ s.ns0) :
    s.leapNow = s.leapDone 1 ((s.getF Reg.RTC_LEAP_DAY + 1) * 86400) := by
  simp only [State.leapNow, hleap, if_pos hover]

/-- R206, R207: the instant of TB0, in ns, at which the UTC view reaches a second. -/
def State.utcInstant (s : State) (sec : Nat) : Nat := ((sec + s.utcShift) * nsPerS).toNat

section
variable {s : State} (hnone : s.time.leapAt = none)
include hnone

/-- R207: with no inserted second running, an insertion acts at the end of its day: it begins, or it is made at once where its second has passed too. -/
theorem State.leapNow_insertion (hdir : s.getF Reg.RTC_LEAP_DIR = 1) :
    s.leapNow =
      if s.ns0 < s.utcInstant ((s.getF Reg.RTC_LEAP_DAY + 1) * 86400) then s
      else if s.ns0 < s.utcInstant ((s.getF Reg.RTC_LEAP_DAY + 1) * 86400) + nsPerS then
        ({ s with time := { s.time with leapAt := some (s.utcInstant ((s.getF Reg.RTC_LEAP_DAY + 1) * 86400)) } } : State).setF
          Reg.TIME_STAT_LEAP_ACTIVE 1
      else s.leapDone 1 ((s.getF Reg.RTC_LEAP_DAY + 1) * 86400) := by
  simp only [State.leapNow, hnone, hdir]
  rfl

/-- R207: a deletion acts one second before the end of its day. -/
theorem State.leapNow_deletion (hdir : s.getF Reg.RTC_LEAP_DIR = 2) :
    s.leapNow =
      if s.utcInstant ((s.getF Reg.RTC_LEAP_DAY + 1) * 86400 - 1) ≤ s.ns0 then s.leapDone (-1) ((s.getF Reg.RTC_LEAP_DAY + 1) * 86400 - 1)
      else s := by
  simp only [State.leapNow, hnone, hdir]
  rfl

end

/-! ## PPS_IN (R214, R215): the last pulse is at least half a second old -/

section
variable {s : State} (hfar : ∀ n : Nat, s.time.ppsAt = some n → n + nsPerS / 2 ≤ s.tb1)
include hfar

/-- R215: with TIME running, the pulse captures TB0 and counts as a delivery. -/
theorem execPpsInEdge_captures {sec ns frac : Nat} (hrun : s.domOn .time = true) (htime : fullTime s.tb0 = (sec, ns, frac)) :
    execPpsInEdge s =
      .next (({ ((s.setF Reg.TIME_PPS_CAP_SEC_SEC sec).setF Reg.TIME_PPS_CAP_NS_NS ns).setF Reg.TIME_PPS_CAP_FRAC_FRAC frac with
        time := { s.time with ppsAt := some s.tb1 } } : State).irq Reg.TIME_IRQ_PPS_IN) := by
  unfold execPpsInEdge
  cases hpps : s.time.ppsAt with
  | none => simp [hrun, htime]
  | some n => simp [hrun, htime, Nat.not_lt.mpr (hfar n hpps)]

/-- R214: in LISTEN, the AON counter captures TB0 at 10 ns. -/
theorem execPpsInEdge_listens (hstop : s.domOn .time = false) (hmode : s.mode = .listen) :
    execPpsInEdge s = .next { s with time := { s.time with ppsAt := some s.tb1, ppsTb0 := some (s.tb0 / 655360 * 655360) } } := by
  unfold execPpsInEdge
  cases hpps : s.time.ppsAt with
  | none => simp [hstop, hmode]
  | some n => simp [hstop, hmode, Nat.not_lt.mpr (hfar n hpps)]

end

/-- R215: a pulse within half a second of the last one is counted as rejected. -/
theorem execPpsInEdge_rejects {s : State} {n : Nat} (hrun : s.domOn .time = true) (hpps : s.time.ppsAt = some n) (hnear : s.tb1 < n + nsPerS / 2) :
    execPpsInEdge s = .next (s.count Reg.TIME_PPS_REJECT_CNT_CNT) := by
  simp [execPpsInEdge, hrun, hpps, hnear]

/-! ## PPS_OUT (R215): NS has passed 0 with TIME running -/

/-- R215: the pulse leaves where PPS_OUT is enabled and TB0 is locked or need not be; either way it is due no more. -/
theorem execPpsOutPulse_due {s : State} (hrun : s.domOn .time = true) (hdue : s.time.ppsDue = true) :
    execPpsOutPulse s =
      if s.flag Reg.TIME_PPS_OUT_CFG_EN = true ∧ ((!s.flag Reg.TIME_PPS_OUT_CFG_HOLD) = true ∨ s.getF Reg.TIME_STAT_TB0_STATE = 2) then
        .next { s with time := { s.time with ppsDue := false }, sent := (15, leBytes 3 (s.getF Reg.TIME_PPS_OUT_CFG_WIDTH_US)) :: s.sent }
      else .next { s with time := { s.time with ppsDue := false } } :=
  if_neg (by simp [hrun, hdue])

/-! ## Zero crossings (R241): a candidate edge on a ZC_IN that is enabled, with TIME running -/

section
variable {s : State} {rising : Bool} {stableUs : BitVec 16} (hen : s.flag (Reg.PLC_ZC_CFG_EN 0) = true) (hrun : s.domOn .time = true)
  (hcand : s.zcCandidate rising stableUs.toNat = true)
include hen hrun hcand

theorem zcEdge_not_idle :
    ¬ ((!s.flag (Reg.PLC_ZC_CFG_EN 0)) = true ∨ (!s.domOn .time) = true ∨ (!s.zcCandidate rising stableUs.toNat) = true) := by
  simp [hen, hrun, hcand]

/-- R241: the first candidate while TB4 is synthetic is kept to measure from. -/
theorem execZcEdge_first (hsynth : s.flag Reg.TIME_STAT_TB4_SYNTH = true) (hnone : s.time.zcCand = none) :
    execZcEdge rising stableUs s = .next { s with time := { s.time with zcCand := some s.tb1 } } := by
  rw [execZcEdge, if_neg (zcEdge_not_idle hen hrun hcand), if_pos hsynth, hnone]

/-- R241: a second candidate about one period after the first makes TB4 real. -/
theorem execZcEdge_locks {t : Nat} (hsynth : s.flag Reg.TIME_STAT_TB4_SYNTH = true) (hfirst : s.time.zcCand = some t)
    (hnear : s.nearPeriod (s.tb1 - t) = true) :
    execZcEdge rising stableUs s =
      .next ((((({ s with time := { s.time with zcCand := none, zcLast := s.tb1, zcIvls := [s.tb1 - t] } } : State).crossing s.tb1).setPeriod
        (s.tb1 - t)).setF Reg.TIME_STAT_TB4_SYNTH 0).irq (Reg.PLC_IRQ_ZC_REAL 0)) := by
  rw [execZcEdge, if_neg (zcEdge_not_idle hen hrun hcand), if_pos hsynth, hfirst]
  exact if_pos hnear

section
variable (hreal : s.flag Reg.TIME_STAT_TB4_SYNTH = false)
include hreal

/-- R241: an edge about one period after the last one is a crossing, and the period is the mean of the last eight. -/
theorem execZcEdge_crosses {l : List Nat} (hnear : s.nearPeriod (s.tb1 - s.time.zcLast) = true)
    (hl : ((s.tb1 - s.time.zcLast) :: s.time.zcIvls).take 8 = l) :
    execZcEdge rising stableUs s =
      .next ((({ s with time := { s.time with zcLast := s.tb1, zcIvls := l } } : State).crossing s.tb1).setPeriod (l.sum / l.length)) := by
  subst hl
  rw [execZcEdge, if_neg (zcEdge_not_idle hen hrun hcand), if_neg (ne_true_of_eq_false hreal), if_pos hnear]

/-- R241: an edge at any other time is counted as rejected. -/
theorem execZcEdge_rejects (hfar : s.nearPeriod (s.tb1 - s.time.zcLast) = false) :
    execZcEdge rising stableUs s = .next (s.count (Reg.PLC_ZC_REJECT_CNT_CNT 0)) := by
  rw [execZcEdge, if_neg (zcEdge_not_idle hen hrun hcand), if_neg (ne_true_of_eq_false hreal), if_neg (ne_true_of_eq_false hfar)]

end

end

/-- Settles O39: each condition is the guard of the branch that the command takes. -/
theorem timeBaseCommandsComplete : Obligations.TimeBaseCommandsComplete := by
  unfold Obligations.TimeBaseCommandsComplete
  refine ⟨?timeNow, ?timeNowDebug, ?aonNow, ?aonNowDebug, ?step, ?stateSet, ?stateKept, ?holdoverPtp, ?holdoverPps, ?leapEnds, ?leapBegins, ?leapPassed,
    ?leapDeletes, ?ppsIn, ?ppsRejected, ?ppsListen, ?ppsOut, ?ppsSilent, ?slew, ?load, ?zcFirst, ?zcLocks, ?zcCrosses, ?zcRejected, ?zcSynth⟩
  case timeNow =>
    intro s req sec ns frac hok hreq htime
    show execTimeNowRead req s = _
    rw [execTimeNowRead, State.onRead_accepted hok]
    dsimp only
    rw [htime]
    exact congrArg Host.Outcome.next (if_neg hreq)
  case timeNowDebug =>
    intro s sec ns frac hok htime
    show execTimeNowRead .debug s = _
    rw [execTimeNowRead, State.onRead_accepted hok]
    dsimp only
    rw [htime]
    exact congrArg Host.Outcome.next (if_pos rfl)
  case aonNow =>
    intro s req sec ns frac hok hreq htime
    show execAonNowRead req s = _
    rw [execAonNowRead, State.onRead_accepted hok]
    dsimp only
    rw [htime]
    exact congrArg Host.Outcome.next (if_neg hreq)
  case aonNowDebug =>
    intro s sec ns frac hok htime
    show execAonNowRead .debug s = _
    rw [execAonNowRead, State.onRead_accepted hok]
    dsimp only
    rw [htime]
    exact congrArg Host.Outcome.next (if_pos rfl)
  case step =>
    exact fun s req hok => congrArg Host.Outcome.next (State.onField_accepted hok _)
  case stateSet =>
    exact fun s req value hok hvalue => congrArg Host.Outcome.next ((State.onField_accepted hok _).trans (if_pos hvalue))
  case stateKept =>
    refine fun s req value hok hvalue => congrArg Host.Outcome.next ((State.onField_accepted hok _).trans (if_neg ?_))
    rcases hvalue with rfl | rfl <;> decide
  case holdoverPtp =>
    exact fun s hlocked hsrc hdue => if_pos ⟨hlocked, .inl hsrc, by rwa [if_pos hsrc]⟩
  case holdoverPps =>
    exact fun s hlocked hsrc hdue => if_pos ⟨hlocked, .inr hsrc, by rwa [if_neg (by simp [hsrc])]⟩
  case leapEnds =>
    exact fun s n hleap hover => congrArg Host.Outcome.next (State.leapNow_ends hleap hover)
  case leapBegins =>
    rintro s _ hnone hdir rfl hreached hlt
    exact congrArg Host.Outcome.next
      ((State.leapNow_insertion hnone hdir).trans ((if_neg (Nat.not_lt.mpr hreached)).trans (if_pos hlt)))
  case leapPassed =>
    rintro s _ hnone hdir rfl hpassed
    have hreached := (Nat.le_add_right _ _).trans hpassed
    exact congrArg Host.Outcome.next
      ((State.leapNow_insertion hnone hdir).trans ((if_neg (Nat.not_lt.mpr hreached)).trans (if_neg (Nat.not_lt.mpr hpassed))))
  case leapDeletes =>
    exact fun s hnone hdir hreached => congrArg Host.Outcome.next ((State.leapNow_deletion hnone hdir).trans (if_pos hreached))
  case ppsIn =>
    rintro s _ sec ns frac hrun hfar htime rfl
    exact execPpsInEdge_captures hfar hrun htime
  case ppsRejected =>
    exact fun s n hrun hpps hnear => execPpsInEdge_rejects hrun hpps hnear
  case ppsListen =>
    exact fun s hstop hmode hfar => execPpsInEdge_listens hfar hstop hmode
  case ppsOut =>
    exact fun s hrun hdue hen hhold => (execPpsOutPulse_due hrun hdue).trans (if_pos ⟨hen, by simpa using hhold⟩)
  case ppsSilent =>
    intro s hrun hdue hoff
    refine (execPpsOutPulse_due hrun hdue).trans (if_neg ?_)
    rintro ⟨hen, hhold⟩
    rcases hoff with hoff | ⟨hhold', hunlocked⟩
    · simp [hoff] at hen
    · simp [hhold', hunlocked] at hhold
  case slew =>
    exact fun s hrun hdue => if_pos ⟨hrun, hdue⟩
  case load =>
    exact fun s req hok hidle => congrArg Host.Outcome.next ((State.onField_accepted hok _).trans (if_neg (ne_true_of_eq_false hidle)))
  case zcFirst =>
    exact fun s rising stableUs hen hrun hcand hsynth hnone => execZcEdge_first hen hrun hcand hsynth hnone
  case zcLocks =>
    exact fun s rising stableUs t hen hrun hcand hsynth hfirst hnear => execZcEdge_locks hen hrun hcand hsynth hfirst hnear
  case zcCrosses =>
    exact fun s rising stableUs l hen hrun hcand hreal hnear hl => execZcEdge_crosses hen hrun hcand hreal hnear hl.symm
  case zcRejected =>
    exact fun s rising stableUs hen hrun hcand hreal hfar => execZcEdge_rejects hen hrun hcand hreal hfar
  case zcSynth =>
    exact fun s hreal hlost => if_pos ⟨by simp [hreal], by simpa using hlost⟩

end Sys2Proof.Machine
end

section
/-! SUPPORT. The alarms (R221), the RTC (R224, R225), its retained memory and its backup cell (R227 to R229): what each command answers. -/

namespace Sys2Proof.Machine

/-! ## Writes of an alarm's control (R221) -/

/-- R221: a write of a TB0 alarm that is not due sets the time's high part and ARM; an alarm that is armed at a time already reached fires with LATE. -/
theorem execAlarmWrite_time {s : State} {req : Req} {n : Fin 4} {data : Word} (hok : Takes s req 0x05 (0x144 + 0x10 * n.val))
    (hdue : (s.answer 0).alarmDue n.val = false) {t u : State}
    (ht : ((s.answer 0).setF (Reg.TIME_ALARM_CTRL_SEC_HI n.val) (bitsOf data.toNat 15 0)).setF (Reg.TIME_ALARM_CTRL_ARM n.val) (bitAt data.toNat 31) = t)
    (hu : (t.setF (Reg.TIME_ALARM_CTRL_FIRED n.val) 0).setF (Reg.TIME_ALARM_CTRL_LATE n.val) 0 = u) :
    execAlarmWrite req (.time n) data s =
      .next (if bitAt data.toNat 31 = 0 then t else if u.alarmDue n.val then u.fireAlarm n.val true else u) := by
  subst ht hu
  refine congrArg Host.Outcome.next ((State.onWrite_accepted hok _).trans ?_)
  dsimp only
  rw [hdue, if_neg Bool.false_ne_true]

/-- R221: a write of an RTC alarm that is not due sets WAKE, LOCAL and ARM; an alarm that is armed at a time already reached fires with LATE. -/
theorem execAlarmWrite_rtc {s : State} {req : Req} {n : Fin 2} {data : Word} (hok : Takes s req 0x04 (0x124 + 8 * n.val))
    (hdue : (s.answer 0).rtcDue n.val = false) {t u : State}
    (ht : (((s.answer 0).setF (Reg.RTC_ALARM_CTRL_WAKE n.val) (bitAt data.toNat 1)).setF (Reg.RTC_ALARM_CTRL_LOCAL n.val) (bitAt data.toNat 0)).setF
      (Reg.RTC_ALARM_CTRL_ARM n.val) (bitAt data.toNat 31) = t)
    (hu : (t.setF (Reg.RTC_ALARM_CTRL_FIRED n.val) 0).setF (Reg.RTC_ALARM_CTRL_LATE n.val) 0 = u) :
    execAlarmWrite req (.rtc n) data s =
      .next (if bitAt data.toNat 31 = 0 then t else if u.rtcDue n.val then u.fireRtc n.val true else u) := by
  subst ht hu
  refine congrArg Host.Outcome.next ((State.onWrite_accepted hok _).trans ?_)
  dsimp only
  rw [hdue, if_neg Bool.false_ne_true]

/-! ## TRIM (R224): 2^20 cycles of SLOW have passed -/

section
variable {s : State} {trim : Nat} (hdue : 2 ^ 20 ≤ s.time.trimAt)
include hdue

/-- R224: cycles that TRIM adds and that complete no second. -/
theorem execRtcTrimTick_adds (htrim : signedOf 8 (s.getF Reg.RTC_TRIM_TRIM) = (trim : Int)) (hlt : s.time.rtcSub + trim < 32768) :
    execRtcTrimTick s = .next { s with time := { s.time with trimAt := s.time.trimAt - 2 ^ 20, rtcSub := s.time.rtcSub + trim } } := by
  rw [execRtcTrimTick, if_neg (Nat.not_lt.mpr hdue), htrim]
  simp [Nat.mod_eq_of_lt hlt, Nat.not_le.mpr hlt]

/-- R224: cycles that TRIM adds and that complete a second. -/
theorem execRtcTrimTick_ticks (htrim : signedOf 8 (s.getF Reg.RTC_TRIM_TRIM) = (trim : Int)) (hle : 32768 ≤ s.time.rtcSub + trim) :
    execRtcTrimTick s =
      .next (({ s with time := { s.time with trimAt := s.time.trimAt - 2 ^ 20, rtcSub := (s.time.rtcSub + trim) % 32768 } } : State).rtcTick) := by
  rw [execRtcTrimTick, if_neg (Nat.not_lt.mpr hdue), htrim]
  simp [hle]

/-- R224: the cycles that a negative TRIM takes away are to be skipped. -/
theorem execRtcTrimTick_skips (htrim : signedOf 8 (s.getF Reg.RTC_TRIM_TRIM) = -(trim : Int)) (hlt : s.time.rtcSub < 32768) :
    execRtcTrimTick s = .next { s with time := { s.time with trimAt := s.time.trimAt - 2 ^ 20, skip := s.time.skip + trim } } := by
  rw [execRtcTrimTick, if_neg (Nat.not_lt.mpr hdue), htrim]
  simp [Nat.mod_eq_of_lt hlt, Nat.not_le.mpr hlt]

end

/-! ## The loss of the retained memory (R227, R232) -/

/-- R227, R232: the loss is told in RTC.STAT and to the recorder, once what the VBAT SRAM held is gone. -/
theorem execRetLost_loses (s : State) :
    ∃ t : State, execRetLost s = .next (t.event .oscStopped 0x04) ∧ t.getF Reg.RTC_STAT_RET_LOST = 1 ∧ t.evr.staged = [] ∧
      t.panel.lockUntil = none ∧ t.uplink.wakeCtr = 0 :=
  ⟨_, rfl, State.getF_setF_self .., rfl, rfl, rfl⟩

/-- Settles O40: each condition is the guard of the branch that the command takes; the record of a loss of the retained memory brings nothing of it back. -/
theorem clockAndAlarmCommandsComplete : Obligations.ClockAndAlarmCommandsComplete := by
  unfold Obligations.ClockAndAlarmCommandsComplete
  refine ⟨?timeAlarm, ?rtcAlarm, ?timeDisarm, ?timeArm, ?rtcDisarm, ?rtcArm, ?set, ?setLoads, ?sync, ?trimAdds, ?trimTicks, ?trimSkips, ?retLost, ?batLow,
    ?batExhausted, ?oscStop, ?batMeasure, ?charge⟩
  case timeAlarm =>
    exact fun s n hdue hrun => if_pos ⟨hdue, hrun⟩
  case rtcAlarm =>
    exact fun s n hdue => if_pos hdue
  case timeDisarm =>
    intro s req n data hok hdue harm
    refine (execAlarmWrite_time hok hdue rfl rfl).trans ?_
    rw [harm, if_pos rfl]
  case timeArm =>
    intro s req n data hok hdue harm
    refine (execAlarmWrite_time hok hdue rfl rfl).trans ?_
    rw [harm, if_neg Nat.one_ne_zero]
  case rtcDisarm =>
    intro s req n data hok hdue harm
    refine (execAlarmWrite_rtc hok hdue rfl rfl).trans ?_
    rw [harm, if_pos rfl]
  case rtcArm =>
    intro s req n data hok hdue harm
    refine (execAlarmWrite_rtc hok hdue rfl rfl).trans ?_
    rw [harm, if_neg Nat.one_ne_zero]
  case set =>
    exact fun s req hok => congrArg Host.Outcome.next (State.onField_accepted hok _)
  case setLoads =>
    exact fun s hset => if_pos hset
  case sync =>
    exact fun s req hok hlocked => congrArg Host.Outcome.next ((State.onField_accepted hok _).trans (if_pos hlocked))
  case trimAdds =>
    exact fun s trim hdue htrim hlt => execRtcTrimTick_adds hdue htrim hlt
  case trimTicks =>
    exact fun s trim hdue htrim hle => execRtcTrimTick_ticks hdue htrim hle
  case trimSkips =>
    exact fun s trim hdue htrim hlt => execRtcTrimTick_skips hdue htrim hlt
  case retLost =>
    intro s
    obtain ⟨t, hloses, hflag, hstaged, hlock, hwake⟩ := execRetLost_loses s
    obtain ⟨_, _, hrest⟩ := t.event_rest .oscStopped 0x04 []
    refine ⟨_, hloses, ?_, ?_, ?_, ?_⟩
    · rw [State.flag, t.event_getF _ _ _ (by decide) (by decide), hflag]
      rfl
    · rw [hrest]
      exact hstaged
    · rw [hrest]
      exact hlock
    · rw [hrest]
      exact hwake
  case batLow | batExhausted | oscStop =>
    exact fun s => rfl
  case batMeasure =>
    exact fun s mv hmain hdue => if_pos ⟨hmain, hdue⟩
  case charge =>
    exact fun s req data hok hkey hvlim hilim =>
      congrArg Host.Outcome.next ((State.onWrite_accepted hok _).trans (if_neg (by simp [hkey, hvlim, hilim])))

end Sys2Proof.Machine
end

section
/-! SUPPORT. PTP (R207, R211, R214, R216 to R218): event messages, the transparent clock and transmit stamps: what each command answers. -/

namespace Sys2Proof.Machine

/-! ## Event messages (R211, R214, R216) -/

/-- R216: with PORT running, an event message that is no Sync with a stamp goes to the CPU port. -/
theorem execPtpEventRx_unstamped {s : State} {port : Fin 4} {msg : Bytes} (hevent : ptpType msg < 4)
    (hother : ptpType msg ≠ 0 ∨ s.ptpStamps port.val = false) (hrun : s.domOn .port = true) :
    execPtpEventRx port msg s = .next (s.ptpToCpu port.val msg) := by
  have hsync : ¬ (ptpType msg = 0 ∧ s.ptpStamps port.val = true) := by
    rintro ⟨hzero, hstamps⟩
    rcases hother with hother | hother
    · exact hother hzero
    · simp [hother] at hstamps
  rw [execPtpEventRx, if_neg (Nat.not_le.mpr hevent), if_neg hsync]
  exact if_pos hrun

/-- R211: a Sync with a stamp is a delivery to TB0 as well. -/
theorem execPtpEventRx_sync {s : State} {port : Fin 4} {msg : Bytes} (hsync : ptpType msg = 0) (hstamps : s.ptpStamps port.val = true)
    (hrun : s.domOn .port = true) :
    execPtpEventRx port msg s = .next (({ s with time := { s.time with syncAt := some s.tb1 } } : State).ptpToCpu port.val msg) := by
  rw [execPtpEventRx, if_neg (by simp [hsync]), if_pos (c := ptpType msg = 0 ∧ s.ptpStamps port.val = true) ⟨hsync, hstamps⟩]
  exact if_pos hrun

/-- R214: in LISTEN, P3 stamps an event message for Kettle. -/
theorem execPtpEventRx_listens {s : State} {msg : Bytes} (hevent : ptpType msg < 4) (hother : ptpType msg ≠ 0) (hstop : s.domOn .port = false)
    (hmode : s.mode = .listen) :
    execPtpEventRx 3 msg s = .next { s with time := { s.time with p3At := some (s.ptpNow 3) } } := by
  rw [execPtpEventRx, if_neg (Nat.not_le.mpr hevent), if_neg (c := ptpType msg = 0 ∧ s.ptpStamps (3 : Fin 4).val = true) fun h => hother h.1]
  exact (if_neg (ne_true_of_eq_false hstop)).trans (if_pos ⟨rfl, hmode⟩)

/-! ## The transparent clock (R217, R218): a frame with a message, between two ports of the clock -/

section
variable {s : State} {i o : Fin 3} {frame msg : Bytes} {ago : BitVec 48} (hen : s.flag Reg.PTP_CTRL_TC_EN = true) (hin : s.tcPort i.val = true)
  (hout : s.tcPort o.val = true) (hmsg : ptpPart frame = some msg)
include hen hin hout hmsg

/-- R217, R218: the type of the message, and for a Sync its twoStepFlag, select what becomes of the frame. -/
theorem execPtpTcForward_message :
    execPtpTcForward i o frame ago s =
      if ptpType msg = 0 ∧ ptpTwoStep msg = true then
        .next (((s.count Reg.PTP_TWO_STEP_CNT_CNT).irq Reg.PTP_IRQ_TWO_STEP).ethNow o.val (s.ptpEnters i.val frame))
      else if ptpType msg = 0 then
        .next ((s.tcCount (s.residence i.val o.val ago.toNat)).ethNow o.val (ptpFix (s.ptpEnters i.val frame)
          (if s.flag Reg.PTP_CTRL_TC_MODE then s.residence i.val o.val ago.toNat + s.getF (Reg.PTP_PDELAY_DELAY i.val)
            else s.residence i.val o.val ago.toNat)))
      else if ptpType msg = 1 then
        if s.flag Reg.PTP_CTRL_TC_MODE then idle s
        else .next ((s.tcCount (s.residence i.val o.val ago.toNat)).ethNow o.val
          (ptpFix (s.ptpEnters i.val frame) (s.residence i.val o.val ago.toNat)))
      else if ptpType msg = 2 ∨ ptpType msg = 3 ∨ ptpType msg = 10 then
        if s.flag Reg.PTP_CTRL_TC_MODE then .next (s.ptpToCpu i.val msg) else .next (s.ethNow o.val (s.ptpEnters i.val frame))
      else .next (s.ethNow o.val frame) := by
  rw [execPtpTcForward, hmsg]
  exact if_neg (by simp [hen, hin, hout])

end

/-! ## Transmit stamps (R216) -/

/-- R216: an event message of a port that stamps, with TIME running, has its stamp queued, or dropped where the queue has no credit. -/
theorem execPtpTxStamp_stamps {s : State} {port : Fin 4} {msg : Bytes} (hstamps : s.ptpStamps port.val = true) (hrun : s.domOn .time = true)
    (hevent : ptpType msg < 4) :
    execPtpTxStamp port msg true s =
      if s.hasCredit 0x168 = true then
        .next (((s.emit (8 + port.val) (s.ptpEgress port.val msg)).enq 0x168
          { body := .bytes (stampItem port.val msg (s.ptpNow port.val + s.getF (Reg.PTP_EGR_LAT_LAT port.val))) }).irq Reg.PTP_IRQ_TX_STAMP)
      else .next ((s.emit (8 + port.val) (s.ptpEgress port.val msg)).count Reg.PTP_TX_DROP_CNT_CNT) :=
  if_neg (by simp [hstamps, hrun, hevent])

/-- Settles O41: each condition is the guard of the branch that the command takes. -/
theorem ptpCommandsComplete : Obligations.PtpCommandsComplete := by
  unfold Obligations.PtpCommandsComplete
  refine ⟨?unstamped, ?sync, ?listen, ?leap, ?twoStep, ?syncEndToEnd, ?syncPeerToPeer, ?delayReq, ?pdelayEndToEnd, ?pdelayPeerToPeer, ?general, ?plain,
    ?stamped, ?dropped⟩
  case unstamped =>
    exact fun s port msg hevent hother hrun => execPtpEventRx_unstamped hevent hother hrun
  case sync =>
    exact fun s port msg hsync hstamps hrun => execPtpEventRx_sync hsync hstamps hrun
  case listen =>
    exact fun s msg hevent hother hstop hmode => execPtpEventRx_listens hevent hother hstop hmode
  case leap =>
    exact fun s a b hauto hleap => if_pos ⟨hauto, hleap⟩
  case twoStep =>
    exact fun s i o frame msg ago hen hin hout hmsg htype htwo => (execPtpTcForward_message hen hin hout hmsg).trans (if_pos ⟨htype, htwo⟩)
  case syncEndToEnd | syncPeerToPeer =>
    intro s i o frame msg ago hen hin hout hmsg htype hone hmode
    refine (execPtpTcForward_message hen hin hout hmsg).trans ?_
    simp [htype, hone, hmode]
  case delayReq =>
    intro s i o frame msg ago hen hin hout hmsg htype hmode
    refine (execPtpTcForward_message hen hin hout hmsg).trans ?_
    simp [htype, hmode]
  case pdelayEndToEnd | pdelayPeerToPeer =>
    intro s i o frame msg ago hen hin hout hmsg htype hmode
    refine (execPtpTcForward_message hen hin hout hmsg).trans ?_
    rcases htype with htype | htype | htype <;> simp [htype, hmode]
  case general =>
    intro s i o frame msg ago hen hin hout hmsg htype
    refine (execPtpTcForward_message hen hin hout hmsg).trans ?_
    rcases htype with htype | htype | htype <;> simp [htype]
  case plain =>
    exact fun s port msg => rfl
  case stamped =>
    exact fun s port msg hstamps hrun hevent hcredit => (execPtpTxStamp_stamps hstamps hrun hevent).trans (if_pos hcredit)
  case dropped =>
    exact fun s port msg hstamps hrun hevent hcredit =>
      (execPtpTxStamp_stamps hstamps hrun hevent).trans (if_neg (ne_true_of_eq_false hcredit))

end Sys2Proof.Machine
end

section
/-! SUPPORT. What the field ports share: a port that runs and its roles (R254, R261, R271, R280), its nodes (R252, R271), the acknowledgement items (R256) and the downlink items (R257) that it takes. -/

namespace Sys2Proof.Machine

/-! ## A port, its fields and its roles -/

@[simp] theorem portF_plc (plc rad : Nat → Field) (port : Fin 4) : portF plc rad port.val = plc port.val := if_pos port.isLt

@[simp] theorem portF_rad (plc rad : Nat → Field) (n : Nat) : portF plc rad (n + 4) = rad n := if_neg (by omega)

/-- R261, R281: a port that runs is not fenced. -/
theorem State.fence_of_portOn {s : State} {k : Nat} (hon : s.portOn k = true) : s.flag (portF Reg.PLC_CTRL_FENCE Reg.RAD_CTRL_FENCE k) = false := by
  simp only [State.portOn, Bool.and_eq_true, Bool.not_eq_true'] at hon
  exact hon.2

/-- R254: a power-line port is no MEMBER. -/
theorem State.member_plc (s : State) (port : Fin 4) : s.member port.val = false := by
  simp [State.member]

theorem State.coordinates_iff {s : State} {k : Nat} : s.coordinates k = true ↔ s.track k = false ∧ s.member k = false := by
  simp [State.coordinates]

theorem State.coordinates_of_track {s : State} {k : Nat} (htrack : s.track k = true) : s.coordinates k = false := by
  simp [State.coordinates, htrack]

@[simp] theorem State.port_setPort (s : State) (k : Nat) (p : PortState) : (s.setPort k p).port k = p := sget_sput_self ..

/-! ## Nodes (R252, R271) -/

/-- R252, R271: a port that lets every identifier in gives a new one the lowest free address; a radio port, or one without beacons, gives no slot. -/
theorem State.decideJoin_admits {s : State} {k id a : Nat} {nodes : List (Nat × PortNode)}
    (hnodes : nodes = (s.port k).nodes.filterMap (fun e => e.2.map (fun n => (e.1, n)))) (hbeacon : k < 4 → s.flag (Reg.PLC_CTRL_ACCESS k) = true)
    (hopen : s.flag (portF Reg.PLC_JOIN_CFG_OPEN Reg.RAD_JOIN_CFG_OPEN k) = true)
    (hpolicy : s.flag (portF Reg.PLC_JOIN_CFG_POLICY Reg.RAD_JOIN_CFG_POLICY k) = true) (hnew : s.portAddr k id = none)
    (hroom : nodes.length < 2048) (hcredit : s.hasCredit 0x80 = true) (hfree : lowestFree (nodes.map (·.1)) 1 2048 = some a) :
    s.decideJoin k id = (s.putNode k a (some { id := id, slot := 0x1FF, heardAt := s.tb1 })).enq 0x80
      { body := .orderedItem (.join (joinBytes k id a 0x1FF)) } := by
  have hslotless : (decide (k < 4) && !s.flag (Reg.PLC_CTRL_ACCESS k)) = false := by
    by_cases hk : k < 4
    · simp [hbeacon hk]
    · simp [hk]
  subst hnodes
  simp only [State.decideJoin, hslotless, hpolicy, hopen, hnew, hcredit, hfree, Nat.not_le.mpr hroom, Bool.not_true, Bool.false_eq_true, false_and,
    or_self, if_true, if_false]

/-- R252: a member that has not been heard for AGE_H hours leaves the table. -/
theorem State.ageNode_removes {s : State} {k addr hours : Nat} {n : PortNode} (hnode : s.portNode k addr = some n) (hjoined : n.joined = true)
    (hhours : hours = s.getF (portF Reg.PLC_JOIN_CFG_AGE_H Reg.RAD_JOIN_CFG_AGE_H k)) (hne : hours ≠ 0)
    (hdue : n.heardAt + hours * 3600 * nsPerS ≤ s.tb1) :
    s.ageNode k addr = ((s.putNode k addr none).countNodes k).irq (portF Reg.PLC_IRQ_NODE_REMOVED Reg.RAD_IRQ_NODE_REMOVED k) := by
  subst hhours
  simp only [State.ageNode, hnode]
  exact if_pos ⟨hjoined, hne, hdue⟩

/-! ## Acknowledgement items (R256) -/

theorem State.deqHeld_onlyQueues {s t : State} {q : Nat} {i : Item} (h : s.deqHeld q = some (i, t)) : OnlyQueues s t := by
  unfold State.deqHeld at h
  split at h
  · cases h
  · obtain ⟨-, rfl⟩ := Prod.mk.inj (Option.some.inj h)
    exact .ite ((State.putQueue_onlyQueues ..).poisoned ..) (State.putQueue_onlyQueues ..)

/-- R28: FENCE of a port tells nothing of a queue. -/
theorem portF_fence_aside {k : Nat} (hk : k < 8) : (portF Reg.PLC_CTRL_FENCE Reg.RAD_CTRL_FENCE k).AsideOfQueues := by
  revert k
  decide

section
variable {s t u : State} {k : Nat} {a : Ack} (hk : k < 8) (hon : s.portOn k = true) (hdeq : s.deqHeld (portEnd k 0) = some (⟨.ack a, 0⟩, t))
include hk hon hdeq

/-- R256: a port that runs and has taken an item is not fenced. -/
theorem State.fence_of_deqHeld : t.flag (portF Reg.PLC_CTRL_FENCE Reg.RAD_CTRL_FENCE k) = false := by
  rw [State.flag, (State.deqHeld_onlyQueues hdeq).getF _ (portF_fence_aside hk)]
  exact State.fence_of_portOn hon

/-- R256: an item of a meter without a valid route on the port is discarded. -/
theorem State.portAck_unrouted (hroute : t.hintAddr a.meter k = none) : s.portAck k 0 = t.dropAck k := by
  simp only [State.portAck, State.faultFront_zero, State.front_of_deqHeld hdeq, hdeq, State.fence_of_deqHeld hk hon hdeq, hroute, ne_eq,
    not_true_eq_false, Bool.false_eq_true, if_false]

section
variable {addr : Nat} (hroute : t.hintAddr a.meter k = some addr)
include hroute

/-- R256, R401: an item for which no frame can be made is discarded. -/
theorem State.portAck_unsealed (hframe : t.ackFrame a (t.title (portF Reg.PLC_ACK_TITLE_HI_TITLE Reg.RAD_ACK_TITLE_HI_TITLE k)
      (portF Reg.PLC_ACK_TITLE_LO_TITLE Reg.RAD_ACK_TITLE_LO_TITLE k)) = (none, u)) :
    s.portAck k 0 = u.dropAck k := by
  simp only [State.portAck, State.faultFront_zero, State.front_of_deqHeld hdeq, hdeq, State.fence_of_deqHeld hk hon hdeq, hroute, hframe, ne_eq,
    not_true_eq_false, Bool.false_eq_true, if_false]

/-- R256, R319: the frame of an item is an output of the port, and goes out where the twin orders. -/
theorem State.portAck_sealed {b : Bytes} (hframe : t.ackFrame a (t.title (portF Reg.PLC_ACK_TITLE_HI_TITLE Reg.RAD_ACK_TITLE_HI_TITLE k)
      (portF Reg.PLC_ACK_TITLE_LO_TITLE Reg.RAD_ACK_TITLE_LO_TITLE k)) = (some b, u)) :
    s.portAck k 0 =
      if (u.output (k + 1) b).orders = true then
        (u.output (k + 1) b).toSend k {
          dst := if (u.output (k + 1) b).member k then 0 else addr, mtype := 2, body := b, ackItem := true
          prio := if k < 4 then (u.output (k + 1) b).getF (Reg.PLC_PRIO_APP_ACK k) else 2 }
      else (u.output (k + 1) b).creditBack (portEnd k 0) := by
  simp only [State.portAck, State.faultFront_zero, State.front_of_deqHeld hdeq, hdeq, State.fence_of_deqHeld hk hon hdeq, hroute, hframe, ne_eq,
    not_true_eq_false, Bool.false_eq_true, if_false]

end

end

/-! ## Downlink items (R257) -/

@[simp] theorem qPage_portEnd {e : Nat} (k : Nat) (he : e < 8) : qPage (portEnd k e) = portPage k := by
  simp only [qPage, portEnd]
  omega

/-- R257: an item that software writes with the command is queued first. -/
theorem State.portDownlink_submitted {s u : State} {k : Nat} {sub : Option Submission}
    (hu : u = s.submitted (portEnd k 1) sub (fun x => .bytes x.item)) (fits : State → Nat → Nat → Bool → Bool) : s.portDownlink k sub fits = u.portDownlink k none fits := by
  subst hu
  cases sub with
  | none => rfl
  | some x =>
    have hoff : 0x080 + portEnd k 1 % 8 * 0x10 = 0x090 := by
      simp only [portEnd]
      omega
    simp only [State.portDownlink, State.submitted, State.submit, qPage_portEnd k (by decide : 1 < 8), hoff]

section
variable {u : State} {k n : Nat} {b : Bytes} {fits : State → Nat → Nat → Bool → Bool} (hon : u.portOn k = true)
  (hroom : u.downOpen k < (u.queue (portEnd k 2)).credits) (hfront : (u.queue (portEnd k 1)).items.head? = some ⟨.bytes b, n⟩)
include hon hroom hfront

/-- R257: an item whose words fail their check, or of a wrong length, completes as malformed. -/
theorem State.portDownlink_malformed (hbad : n ≠ 0 ∨ b.length ≠ 16 + leAt b 8 4 ∨ 600 < leAt b 8 4) :
    u.portDownlink k none fits = (u.popped (portEnd k 1)).downDone k (bitsOf (leAt b 0 4) 31 24) 5 0 0 := by
  simp only [State.portDownlink, State.fence_of_portOn hon, hon, Nat.not_le.mpr hroom, hfront, State.deq_popped hfront, hbad, Bool.not_true,
    Bool.false_eq_true, false_and, or_self, if_true, if_false]

/-- R257, R319: a whole item for a short address is an output of the port, and joins the frames to send where it fits and the twin orders. -/
theorem State.portDownlink_sends {v : State} {w : Nat} (hwhole : n = 0) (hlen : b.length = 16 + leAt b 8 4) (hmax : leAt b 8 4 ≤ 600)
    (hw : w = leAt b 0 4) (hshort : bitAt w 16 = 0) (hfits : fits (u.popped (portEnd k 1)) (bitsOf w 15 0) (leAt b 8 4) (bitAt w 20 == 1) = true)
    (hv : v = (u.popped (portEnd k 1)).output (k + 1) (b.drop 16)) (hmember : v.member k = false) (horders : v.orders = true) :
    u.portDownlink k none fits = v.toSend k {
      dst := bitsOf w 15 0, mtype := 2, body := b.drop 16, prio := bitsOf w 19 18, ackReq := bitAt w 20 == 1, tag := some (bitsOf w 31 24) } := by
  subst hwhole hw hv
  have hgood : ¬((0 : Nat) ≠ 0 ∨ b.length ≠ 16 + leAt b 8 4 ∨ 600 < leAt b 8 4) := by omega
  simp only [State.portDownlink, State.fence_of_portOn hon, hon, Nat.not_le.mpr hroom, hfront, State.deq_popped hfront, hgood, hshort, hfits, hmember,
    horders, Bool.not_true, Bool.false_eq_true, false_and, or_self, Nat.zero_ne_one, if_true, if_false]

end

/-! ## The beacons that a port follows (R253, R274) -/

/-- R253: a port that changes its state follows no other base, keeps the instant of its role, and changes no other field. -/
theorem State.nodeState_keeps (s : State) (k x : Nat) :
    (s.nodeState k x).tb3 = s.tb3 ∧ ((s.nodeState k x).port k).roleAt = (s.port k).roleAt ∧
      ∀ f : Field, (portF Reg.PLC_STAT_NODE_STATE Reg.RAD_STAT_NODE_STATE k).key ≠ f.key → (s.nodeState k x).getF f = s.getF f := by
  unfold State.nodeState
  dsimp only
  split
  · exact ⟨rfl, by rw [State.port_setPort]; rfl, fun f hne => State.getF_setF_ne _ _ hne⟩
  · exact ⟨rfl, rfl, fun f hne => State.getF_setF_ne _ _ hne⟩

/-- R274, R281: a beacon that a radio port hears changes none of what makes its role. -/
theorem State.track_hearBeacon_rad (s : State) (port : Fin 4) (next period x : Nat) :
    (s.hearBeacon (port.val + 4) next period x).track (port.val + 4) = s.track (port.val + 4) := by
  have hroles : ∀ port : Fin 4, ∀ f ∈ [Reg.TWIN_CTRL_ENABLE, Reg.TWIN_STAT_ROLE, Reg.RAD_CTRL_ROLE port.val],
      (Reg.RAD_STAT_NODE_STATE port.val).key ≠ f.key := by
    decide
  obtain ⟨htb3, hrole, hgetF⟩ :=
    (s.setPort (port.val + 4) { s.port (port.val + 4) with next := next, period := period, missed := 0 }).nodeState_keeps (port.val + 4) x
  rw [portF_rad] at hgetF
  have hkeep := fun f hf => hgetF f (hroles port f hf)
  simp only [List.forall_mem_cons] at hkeep
  obtain ⟨henable, hactive, hown, -⟩ := hkeep
  simp only [State.track, State.orders, State.roleTaken, State.ns3, State.flag, State.hearBeacon, htb3, hrole, henable, hactive, hown, State.port_setPort,
    Nat.add_sub_cancel, Nat.not_lt.mpr (Nat.le_add_left 4 port.val), if_false]
  rfl

end Sys2Proof.Machine
end

section
/-! SUPPORT. The power-line ports (R233 to R261): MAC frames, their reception, access to the medium and what each command answers. -/

namespace Sys2Proof.Machine

/-! ## The fields of a MAC frame (R245) -/

theorem beNat_reverse (b : Bytes) : beNat b.reverse = leNat b := by
  rw [beNat, List.foldl_reverse]
  induction b with
  | nil => rfl
  | cons x r ih => rw [List.foldr_cons, ih, leNat, Nat.mul_comm, Nat.add_comm]

theorem slice_zero_append (b r : Bytes) : slice (b ++ r) 0 b.length = b := by
  simp [slice]

/-- R245: a value stands big-endian at the front of what it is written before. -/
theorem beAt_beBytes_append (n v : Nat) (r : Bytes) : beAt (beBytes n v ++ r) 0 n = v % 2 ^ (8 * n) := by
  have hlen : (beBytes n v).length = n := by simp [beBytes]
  have hslice := slice_zero_append (beBytes n v) r
  rw [hlen] at hslice
  rw [beAt, hslice, beBytes, beNat_reverse, leNat_leBytes]

theorem plcMac_type (mtype flags : Nat) (body : Bytes) : leAt (plcMac mtype flags body) 0 1 = mtype % 256 := by
  simp [leAt, slice, plcMac, leNat]

theorem plcMac_body (mtype flags : Nat) (body : Bytes) :
    ((plcMac mtype flags body).drop 4).take ((plcMac mtype flags body).length - 8) = body := by
  simp [plcMac, beBytes, leBytes]

/-! ## Reception (R239, R243, R244) -/

section
variable {s t u : State} {k : Nat} {fch mac : Bytes} {rx : PlcRx}
  (ht : t = (s.setGain k rx.agc.toNat).count (Reg.PLC_ERASED_CNT_CNT k) (rx.symbols.filter (s.symbolErased k)).length)
include ht

/-- R239: a header that is bad or of another network brings no frame. -/
theorem State.plcReceive_unread (hheard : t.plcHeard k fch = (none, u)) : s.plcReceive k fch mac rx = (none, u) := by
  subst ht
  simp only [State.plcReceive, hheard]

section
variable {h : PlcFch} (hheard : t.plcHeard k fch = (some h, u))
include hheard

/-- R247: the header of an ACK is all of it. -/
theorem State.plcReceive_ack (htype : h.ftype = 1) : s.plcReceive k fch mac rx = (some h, u) := by
  subst ht
  simp only [State.plcReceive, hheard, htype, if_true]

/-- R239, R243: a frame that is not for the port, or that it cannot decode, is left. -/
theorem State.plcReceive_notForMe (htype : h.ftype ≠ 1) (hme : u.plcForMe k h = false) : s.plcReceive k fch mac rx = (none, u) := by
  subst ht
  simp only [State.plcReceive, hheard, htype, hme, Bool.not_false, if_true, if_false]

section
variable {w : State} (htype : h.ftype = 0) (hme : u.plcForMe k h = true) (hw : w = u.measure k h rx.symbols)
include htype hme hw

/-- R243, R244: a DATA frame for the port is measured, and is good where the decoders and the MAC CRC let it pass. -/
theorem State.plcReceive_good (hdecoded : decoded (w.plcLost k h mac rx.symbols) rx.blocks = true) (hmac : plcMacOk mac = true) :
    s.plcReceive k fch mac rx = (some h, w) := by
  subst ht hw
  simp only [State.plcReceive, hheard, htype, hme, hdecoded, hmac, Bool.not_true, Bool.and_self, Bool.false_eq_true, Nat.zero_ne_one, if_true, if_false]

/-- R244: a DATA frame for the port that the decoders or the MAC CRC refuse is counted. -/
theorem State.plcReceive_bad (hbad : decoded (w.plcLost k h mac rx.symbols) rx.blocks = false ∨ plcMacOk mac = false) :
    s.plcReceive k fch mac rx = (none, w.count (Reg.PLC_RX_CRC_CNT_CNT k)) := by
  subst ht hw
  have hnot : (decoded ((u.measure k h rx.symbols).plcLost k h mac rx.symbols) rx.blocks && plcMacOk mac) = false := by
    rcases hbad with hbad | hbad <;> simp [hbad]
  simp only [State.plcReceive, hheard, htype, hme, hnot, Bool.not_true, Bool.false_eq_true, Nat.zero_ne_one, if_true, if_false]

end

end

end

section
variable {s t : State} {k : Nat} {fch mac : Bytes} {rx : PlcRx} {h : PlcFch}

theorem State.plcFrame_nothing (hrx : s.plcReceive k fch mac rx = (none, t)) : s.plcFrame k fch mac rx = t := by
  simp only [State.plcFrame, hrx]

theorem State.plcFrame_ack (hrx : s.plcReceive k fch mac rx = (some h, t)) (htype : h.ftype = 1) : s.plcFrame k fch mac rx = t.plcAcked k h := by
  simp only [State.plcFrame, hrx, htype, if_true]

/-- R246: a good DATA frame is the coordinator's to take. -/
theorem State.plcFrame_taken (hrx : s.plcReceive k fch mac rx = (some h, t)) (htype : h.ftype = 0) (htrack : t.track k = false) :
    s.plcFrame k fch mac rx = t.plcTaken k h mac := by
  simp only [State.plcFrame, hrx, htype, htrack, Nat.zero_ne_one, Bool.false_eq_true, if_false]

/-- R253, R315: a TRACK port hands on a good frame, a beacon too. -/
theorem State.plcFrame_tracked (hrx : s.plcReceive k fch mac rx = (some h, t)) (htype : h.ftype ≠ 1) (htrack : t.track k = true) :
    s.plcFrame k fch mac rx = t.plcTracked k h mac := by
  simp only [State.plcFrame, hrx, htype, htrack, if_true, if_false]

end

/-! ## What the coordinator takes (R243, R246, R252) -/

/-- R246: a METER frame with a source that may be a member's. -/
theorem State.plcTaken_meter {s t : State} {k : Nat} {h : PlcFch} {mac : Bytes} {ack : Bool} (hmeter : leAt mac 0 1 = 1) (hlo : 1 ≤ h.src)
    (hhi : h.src ≤ 0x800) (htake : (s.hear k h.src).takeMeter k h.src h.seq ((mac.drop 4).take (mac.length - 8)) = (t, ack)) :
    s.plcTaken k h mac = t.oweAck k h ack := by
  have hsrc : ¬(h.src = 0 ∨ 0x800 < h.src) := by omega
  simp only [State.plcTaken, hmeter, hsrc, htake, if_false]

section
variable (s : State) (k : Nat) (h : PlcFch)

/-- R252: a JOIN_REQ from a node without an address is decided. -/
theorem State.plcTaken_join (ident : BitVec 64) (band : Byte) (hsrc : h.src = 0xFFFE) :
    s.plcTaken k h (plcMac 0x10 0 (beBytes 8 ident.toNat ++ [band])) = ((s.hear k h.src).decideJoin k ident.toNat).oweAck k h true := by
  simp only [State.plcTaken, plcMac_type, plcMac_body, beAt_beBytes_append, Nat.mod_eq_of_lt ident.isLt, hsrc, if_true]

/-- R243: a TM_REQ of a node in the table is answered with the maps in force. -/
theorem State.plcTaken_mapRequest {n : PortNode} (hnode : (s.hear k h.src).portNode k h.src = some n) :
    s.plcTaken k h (plcMac 0x20 0 []) =
      ((s.hear k h.src).toSend k { dst := h.src, mtype := 0x21, body := (s.hear k h.src).setInForce k n, prio := 2 }).oweAck k h true := by
  simp only [State.plcTaken, plcMac_type, hnode]

/-- R239: the coordinator acknowledges a LEAVE and does no more. -/
theorem State.plcTaken_leave (reason : Byte) : s.plcTaken k h (plcMac 0x12 0 [reason]) = (s.hear k h.src).oweAck k h true := by
  simp only [State.plcTaken, plcMac_type]

/-! ## What a TRACK port takes (R253, R315) -/

/-- R253: a LEAVE to the port's own address or to all sends it back to SCAN. -/
theorem State.plcTracked_leave (reason : Byte) (htype : h.ftype = 0) (hdst : h.dst = 0 ∨ h.dst = 0xFFFF) :
    s.plcTracked k h (plcMac 0x12 0 [reason]) =
      ((s.hear k h.src).forwardFrame k h.src h.seq (plcMac 0x12 0 [reason])).nodeState k 1 := by
  simp only [State.plcTracked, plcMac_type, htype, hdst, Nat.reduceMod, OfNat.zero_ne_ofNat, and_self, if_true, if_false]

/-- R253: a beacon, which the port follows while it scans and where it comes within 1 ms of its prediction. -/
theorem State.plcTracked_beacon {u : State} {body : Bytes} {start : Nat} (htype : h.ftype = 2)
    (hu : u = (s.hear k h.src).forwardFrame k h.src h.seq (plcMac 0x30 0 body)) (hstart : start = u.ns3 - (u.plcHead k + h.nsym * 350000))
    (hnear : u.nodeStateOf k ≤ 1 ∨ (start ≤ (u.port k).next + 1000000 ∧ (u.port k).next ≤ start + 1000000)) :
    s.plcTracked k h (plcMac 0x30 0 body) =
      u.hearBeacon k (start + beAt body 22 4 * 1000) (200000000 * 2 ^ (leAt body 16 1 % 8)) 3 := by
  subst hu hstart
  simp only [State.plcTracked, State.plcBeaconHeard, plcMac_body, htype, if_true]
  exact if_pos hnear

end

/-! ## Contention (R249): a port that runs, coordinates and awaits nothing, with the medium free and room for the contention -/

section
variable {s : State} {port : Fin 4} {t : PortTx} {slots : Nat} (hfirst : contender (s.port port.val).out = some t) (hon : s.portOn port.val = true)
  (htrack : s.track port.val = false) (hwait : (s.port port.val).wait = none) (hcontend : (s.port port.val).contend = none)
  (hfree : (s.port port.val).freeAt ≤ s.tb1) (hslots : slots = s.plcTrigger port.val + s.getF (Reg.PLC_ACCESS_CFG_LW_SYM port.val) * 350000)
  (hmay : s.plcMayStart port.val (slots + 2800000 - s.tb1) = true)
include hfirst hon htrack hwait hcontend hfree hslots hmay

/-- R249: without a higher priority heard, the port signals in the slot of its own, and its backoff starts after the slots. -/
theorem execPlcContention_signals {heard : Option (Fin 4)} {u v : State} {sync : Nat} (hprio : ∀ h : Fin 4, heard = some h → h.val ≤ t.prio)
    (hsync : sync = slots + (3 - t.prio) * 700000) (hu : u = s.drawBackoff port.val t)
    (hv : v = u.drive port.val sync (sync + 320000) (List.replicate (u.plcNu port.val) 16)) :
    execPlcContention port heard s =
      .next (v.setPort port.val { v.port port.val with contend := some (t.id, slots + 2800000), sync := some sync }) := by
  subst hslots hsync hu hv
  cases heard with
  | none => simp [execPlcContention, hfirst, hon, htrack, hwait, hcontend, Nat.not_lt.mpr hfree, hmay]
  | some h => simp [execPlcContention, hfirst, hon, htrack, hwait, hcontend, Nat.not_lt.mpr hfree, hmay, Nat.not_lt.mpr (hprio h rfl)]

/-- R249: the port defers to a higher priority, and keeps the B that it has drawn. -/
theorem execPlcContention_defers {h : Fin 4} (hprio : t.prio < h.val) :
    execPlcContention port (some h) s = .next (s.drawBackoff port.val t) := by
  subst hslots
  simp [execPlcContention, hfirst, hon, htrack, hwait, hcontend, Nat.not_lt.mpr hfree, hmay, hprio]

end

/-! ## Fencing (R260) -/

/-- R260: a fence drops what waits and the SYNCP symbol that has not begun, and cuts a transmission that does not end within 10 ms. -/
theorem State.plcFence_of_open {s t : State} {k : Nat} (hopen : s.flag (Reg.PLC_CTRL_FENCE k) = false)
    (ht : t = ((s.setF (Reg.PLC_CTRL_FENCE k) 1).fencePort k).dropSync k) :
    s.plcFence k = if t.tb1 + 10000000 < (t.port k).txEnd then t.cutLine k (symbolEnd (t.port k).txStart t.tb1) else t := by
  subst ht
  exact if_neg (ne_true_of_eq_false hopen)

/-- R260: a port that is let go resumes its own schedule, where it has one. -/
theorem State.plcUnfence_of_fenced {s t : State} {k : Nat} (hfenced : s.flag (Reg.PLC_CTRL_FENCE k) = true) (ht : t = s.setF (Reg.PLC_CTRL_FENCE k) 0) :
    s.plcUnfence k = if t.track k = true then t else t.newSchedule k (t.beaconFrom k t.ns3) := by
  subst ht
  rw [State.plcUnfence, if_neg (by simp [hfenced])]

/-- Settles O42: a received frame goes by its header, and every other condition is the guard of the branch that the command takes. -/
theorem plcCommandsComplete : Obligations.PlcCommandsComplete := by
  unfold Obligations.PlcCommandsComplete
  refine ⟨?rxMeter, ?rxTaken, ?rxTracked, ?rxAck, ?rxBad, ?rxUnread, ?rxNotForMe, ?ackSend, ?ackGuard, ?ackRetry, ?ackDrop, ?signal, ?defer, ?backoff,
    ?beacon, ?announce, ?join, ?joinAdmits, ?age, ?maps, ?mapRequest, ?beaconRx, ?beaconMiss, ?leave, ?leaveAcked, ?appAck, ?appAckUnrouted, ?downlink,
    ?downlinkMalformed, ?calibrate, ?fence, ?unfence, ?unfenceTrack⟩
  case rxMeter =>
    rintro s port fch mac rx t u w _ v h ack hon ht hheard htype hme hw hdecoded hmac htrack hmeter hlo hhi rfl htake
    have hrx := State.plcReceive_good ht hheard htype hme hw hdecoded hmac
    exact (if_pos hon).trans (congrArg _ ((State.plcFrame_taken hrx htype htrack).trans
      (State.plcTaken_meter hmeter hlo hhi htake)))
  case rxTaken =>
    intro s port fch mac rx t u w h hon ht hheard htype hme hw hdecoded hmac htrack
    have hrx := State.plcReceive_good ht hheard htype hme hw hdecoded hmac
    exact (if_pos hon).trans (congrArg _ (State.plcFrame_taken hrx htype htrack))
  case rxTracked =>
    intro s port fch mac rx t u w h hon ht hheard htype hme hw hdecoded hmac htrack
    have hrx := State.plcReceive_good ht hheard htype hme hw hdecoded hmac
    exact (if_pos hon).trans (congrArg _ (State.plcFrame_tracked hrx (by simp [htype]) htrack))
  case rxAck =>
    intro s port fch mac rx t u h hon ht hheard htype
    exact (if_pos hon).trans (congrArg _ (State.plcFrame_ack (State.plcReceive_ack ht hheard htype) htype))
  case rxBad =>
    intro s port fch mac rx t u w h hon ht hheard htype hme hw hbad
    exact (if_pos hon).trans (congrArg _ (State.plcFrame_nothing (State.plcReceive_bad ht hheard htype hme hw hbad)))
  case rxUnread =>
    intro s port fch mac rx t u hon ht hheard
    exact (if_pos hon).trans (congrArg _ (State.plcFrame_nothing (State.plcReceive_unread ht hheard)))
  case rxNotForMe =>
    intro s port fch mac rx t u h hon ht hheard htype hme
    exact (if_pos hon).trans (congrArg _ (State.plcFrame_nothing (State.plcReceive_notForMe ht hheard htype hme)))
  case ackSend =>
    rintro s _ port a _ hon htrack hack hdue rfl rfl hguard
    show execPlcAckSend port s = _
    simp only [execPlcAckSend, hack, hon, htrack, hdue, hguard, Bool.not_false, Bool.false_eq_true, and_self, if_true, if_false]
    cases s.portNode port.val a.dst <;> rfl
  case ackGuard =>
    rintro s _ port a hon htrack hack hdue rfl hguard
    show execPlcAckSend port s = _
    simp only [execPlcAckSend, hack, hon, htrack, hdue, hguard, Bool.not_false, and_self, if_true]
  case ackRetry =>
    rintro s _ port t a hwait hdue rfl hmore
    show execPlcAckTimeout port s = _
    simp only [execPlcAckTimeout, hwait, hdue, if_true]
    exact if_neg (Nat.not_le.mpr hmore)
  case ackDrop =>
    rintro s _ port t a hwait hdue rfl hlast
    show execPlcAckTimeout port s = _
    simp only [execPlcAckTimeout, hwait, hdue, if_true]
    exact if_pos hlast
  case signal =>
    exact fun s u v port heard t slots sync hfirst hon htrack hwait hcontend hfree hprio hslots hmay hsync hu hv =>
      execPlcContention_signals hfirst hon htrack hwait hcontend hfree hslots hmay hprio hsync hu hv
  case defer =>
    exact fun s port h t slots hfirst hon htrack hwait hcontend hfree hprio hslots hmay =>
      execPlcContention_defers hfirst hon htrack hwait hcontend hfree hslots hmay hprio
  case backoff =>
    intro s port i b t hcontend hfind hon htrack hdue hmay
    show execPlcBackoffExpire port s = _
    simp only [execPlcBackoffExpire, hcontend, hfind, hon, htrack, Nat.not_lt.mpr hdue, hmay, Bool.not_true, Bool.false_eq_true, or_self, if_true,
      if_false]
  case beacon =>
    intro s port b n body hon htrack haccess hdue hb hn hbody
    show execPlcBeaconTx port s = _
    simp only [execPlcBeaconTx, hon, htrack, haccess, Nat.not_lt.mpr hdue, ← hb, ← hn, ← hbody, Bool.not_true, Bool.false_eq_true, or_self, if_false]
  case announce =>
    rintro s port _ hon htrack haccess hdue rfl
    exact if_neg (by simp [hon, htrack, haccess, hdue])
  case join =>
    intro s t port fch ident band rx h hon hrx htype hsrc htrack
    exact (if_pos hon).trans (congrArg _ ((State.plcFrame_taken hrx htype htrack).trans
      (t.plcTaken_join port.val h ident _ hsrc)))
  case joinAdmits =>
    rintro s t _ port fch ident band rx h nodes a hon hrx htype hsrc htrack rfl hnodes hopen hpolicy haccess hnew hroom hcredit hfree
    have hadmits := State.decideJoin_admits hnodes (fun _ => haccess) (by rw [portF_plc]; exact hopen) (by rw [portF_plc]; exact hpolicy) hnew hroom
      hcredit hfree
    refine (if_pos hon).trans (congrArg _ ((State.plcFrame_taken hrx htype htrack).trans
      ((t.plcTaken_join port.val h ident _ hsrc).trans ?_)))
    rw [hadmits]
  case age =>
    intro s port addr n hours hon hnode hjoined hhours hne hdue
    refine (if_pos hon).trans (congrArg _ ((State.ageNode_removes hnode hjoined (by rwa [portF_plc]) hne hdue).trans ?_))
    rw [portF_plc]
  case maps =>
    rintro s port addr force n _ hon htrack hnode rfl hne
    show execPlcTmUpdate port addr force s = _
    simp only [execPlcTmUpdate, hnode, hon, htrack, hne, Bool.not_true, Bool.false_eq_true, or_self, if_false]
  case mapRequest =>
    rintro s t _ port fch rx h n hon hrx htype htrack rfl hnode
    exact (if_pos hon).trans (congrArg _ ((State.plcFrame_taken hrx htype htrack).trans
      (t.plcTaken_mapRequest port.val h hnode)))
  case beaconRx =>
    intro s t u port fch body rx h start hon hrx htype htrack hu hstart hnear
    exact (if_pos hon).trans (congrArg _ ((State.plcFrame_tracked hrx (by simp [htype]) htrack).trans
      (t.plcTracked_beacon port.val h htype hu hstart hnear)))
  case beaconMiss =>
    intro s port hon htrack haccess hstate hlate
    exact if_neg (by simp [hon, htrack, haccess, hstate, hlate])
  case leave =>
    intro s t port fch reason rx h hon hrx htype htrack hdst
    exact (if_pos hon).trans (congrArg _ ((State.plcFrame_tracked hrx (by simp [htype]) htrack).trans
      (t.plcTracked_leave port.val h reason htype hdst)))
  case leaveAcked =>
    intro s t port fch reason rx h hon hrx htype htrack
    exact (if_pos hon).trans (congrArg _ ((State.plcFrame_taken hrx htype htrack).trans
      (t.plcTaken_leave port.val h reason)))
  case appAck =>
    intro s t u port a addr o hon hdeq hroute hframe
    have hk : port.val < 8 := by omega
    refine (if_pos (.inl hon)).trans (congrArg _ ?_)
    cases o with
    | none => simpa only [portF_plc, State.dropAck] using State.portAck_unsealed hk hon hdeq hroute (by simpa only [portF_plc] using hframe)
    | some b =>
      simpa only [State.member_plc, port.isLt, Bool.false_eq_true, if_true, if_false] using
        State.portAck_sealed hk hon hdeq hroute (by simpa only [portF_plc] using hframe)
  case appAckUnrouted =>
    intro s t port a hon hdeq hroute
    refine (if_pos (.inl hon)).trans (congrArg _ ((State.portAck_unrouted (by omega) hon hdeq hroute).trans ?_))
    rw [State.dropAck, portF_plc]
  case downlink =>
    intro s u v port sub b w hu hon hroom hfront hlen hmax hw hshort hv horders
    refine congrArg Host.Outcome.next ((State.portDownlink_submitted hu _).trans ?_)
    exact State.portDownlink_sends hon hroom hfront rfl hlen hmax hw hshort rfl hv (v.member_plc port) horders
  case downlinkMalformed =>
    intro s u port sub b n hu hon hroom hfront hbad
    exact congrArg _ ((State.portDownlink_submitted hu _).trans (State.portDownlink_malformed hon hroom hfront hbad))
  case calibrate =>
    exact fun s port temp corr hon hdue hsilent hidle => if_pos ⟨hon, hdue, hsilent, hidle⟩
  case fence =>
    intro s t req port hok hopen ht
    show execPlcFence req port s = _
    rw [execPlcFence, State.onT_accepted hok, State.plcFence_of_open (s := s.answer 0) hopen ht]
  case unfence =>
    intro s t req port hok hfenced ht htrack
    show execPlcUnfence req port s = _
    rw [execPlcUnfence, State.onT_accepted hok, State.plcUnfence_of_fenced (s := s.answer 0) hfenced ht, if_neg (ne_true_of_eq_false htrack)]
  case unfenceTrack =>
    intro s t req port hok hfenced ht htrack
    show execPlcUnfence req port s = _
    rw [execPlcUnfence, State.onT_accepted hok, State.plcUnfence_of_fenced (s := s.answer 0) hfenced ht, if_pos htrack]

end Sys2Proof.Machine
end

section
/-! SUPPORT. The radio ports (R262 to R281): timeslots and cells, frames and their acknowledgements, enhanced beacons and what each command answers. -/

namespace Sys2Proof.Machine

/-! ## Timeslots (R265 to R269): a port that coordinates and has not run the timeslot yet, with no cell under way -/

/-- R268: no cell, or one that has ended, holds up a timeslot. -/
theorem PortState.cell_over {p : PortState} {a : Nat} (hidle : p.cell = none ∨ p.cellEnd ≤ a) : ¬(p.cell.isSome = true ∧ a < p.cellEnd) := by
  rintro ⟨hcell, hlt⟩
  rcases hidle with hnone | hend
  · simp [hnone] at hcell
  · omega

section
variable {s t : State} {port : Fin 4} {a : Nat} {here : List Link} (busy : Bool) (hon : s.portOn (port.val + 4) = true)
  (hcoord : s.coordinates (port.val + 4) = true) (hruns : s.asnRuns port.val = true) (ha : a = s.asn port.val)
  (hnew : (s.port (port.val + 4)).slotLast ≠ some a) (hidle : (s.port (port.val + 4)).cell = none ∨ (s.port (port.val + 4)).cellEnd ≤ a)
  (hhere : here = (s.links port.val).filter (fun l =>
    s.getF (Reg.RAD_SF_LEN_LEN port.val l.sf) != 0 && a % s.getF (Reg.RAD_SF_LEN_LEN port.val l.sf) == l.slot))
  (ht : t = (s.setPort (port.val + 4) { s.port (port.val + 4) with slotLast := some a }).rollFirst port.val)
include hon hcoord hruns ha hnew hidle hhere ht

/-- R268: a timeslot in which no link of the schedule has a cell. -/
theorem execRadTimeslotStart_noCell (hpick : pickLink (s.port (port.val + 4)).out (s.links port.val) here = none) :
    execRadTimeslotStart port busy s = .next (t.setPort (port.val + 4) { t.port (port.val + 4) with cell := none }) := by
  have hover := PortState.cell_over hidle
  subst ha
  simp only [execRadTimeslotStart, hon, hcoord, hruns, hnew, hover, ← hhere, ← ht, hpick, Bool.not_true, Bool.false_eq_true, false_and, or_self, if_false]

/-- R265, R268: the port keeps one cell of a timeslot, counts the others as skipped, tunes and runs it. -/
theorem execRadTimeslotStart_cell {u v : State} {chan : Nat} {l : Link}
    (hpick : pickLink (s.port (port.val + 4)).out (s.links port.val) here = some l)
    (hchan : chan = t.cellChannel port.val l a) (hu : u = (t.count (Reg.RAD_SKIP_CNT_CNT port.val) (here.length - 1)).tune port.val chan)
    (hv : v = u.setPort (port.val + 4) { u.port (port.val + 4) with cell := some (bitIf l.shared 0, a), cellEnd := a + l.len }) :
    execRadTimeslotStart port busy s = .next (v.runCell port.val chan a l (s.links port.val) busy) := by
  have hover := PortState.cell_over hidle
  subst ha
  simp only [execRadTimeslotStart, hon, hcoord, hruns, hnew, hover, ← hhere, ← ht, hpick, ← hchan, ← hu, ← hv, Bool.not_true, Bool.false_eq_true,
    false_and, or_self, if_false]

end

/-! ## Cells of a coordinator (R269, R273, R277) -/

section
variable {v w : State} {n chan a : Nat} {l : Link} (ls : List Link) (busy : Bool) (hcoord : v.coordinates (n + 4) = true)
include hcoord

/-- R269: a cell without an EB: its receive window, and where it may send, a frame; on a channel in no budget entry the cell is counted. -/
theorem State.runCell_frames (heb : v.ebCell n l a = false)
    (hw : w = if l.rx = true then v.openWindow n (v.tb1 + 1020000) (v.tb1 + 3220000) else v) :
    v.runCell n chan a l ls busy =
      if l.tx = false then w
      else if (w.entriesOf n chan).isEmpty = true then w.count (Reg.RAD_OUT_OF_BAND_CNT_CNT n)
      else w.runTx n chan a l ls busy := by
  obtain ⟨htrack, hmember⟩ := State.coordinates_iff.mp hcoord
  simp only [State.runCell, htrack, hmember, hcoord, heb, ← hw, Bool.and_false, Bool.false_and, Bool.or_false, Bool.false_or, Bool.not_true,
    Bool.false_eq_true, Bool.not_eq_true', if_false]

/-- R273: a cell with an EB, on a channel of a budget entry. -/
theorem State.runCell_beacon {x : State} (heb : v.ebCell n l a = true)
    (hx : x = v.setPort (n + 4) { v.port (n + 4) with next := v.ns3 + v.ebPeriod n, period := v.ebPeriod n }) (hcoord' : x.coordinates (n + 4) = true)
    (hw : w = if l.rx = true then x.openWindow n (x.tb1 + 1020000) (x.tb1 + 3220000) else x) (hband : (w.entriesOf n chan).isEmpty = false) :
    v.runCell n chan a l ls busy = w.sendEb n chan (w.tb1 + 2120000) a l.len := by
  obtain ⟨htrack, hmember⟩ := State.coordinates_iff.mp hcoord
  simp only [State.runCell, htrack, hmember, hcoord, heb, ← hx, hcoord', ← hw, hband, Bool.and_true, Bool.false_and, Bool.or_false, Bool.true_or,
    Bool.not_true, Bool.or_self, Bool.false_eq_true, if_true, if_false]

end

/-! ## Reception (R264, R270, R275): a frame of a length and at a time at which the port hears -/

section
variable {s : State} {port : Fin 4} {psdu b : Bytes} (corr : BitVec 12) (hon : s.portOn (port.val + 4) = true)
  (hmin : 3 + s.fcsLen port.val ≤ psdu.length) (hmax : psdu.length ≤ 2047)
  (hhears : s.radHears port.val (s.tb1 - s.airtime port.val psdu.length) = true)
  (hb : b = psdu.take (psdu.length - s.fcsLen port.val))
include hon hmin hmax hhears hb

/-- R264: a PSDU with a good FCS is taken by its header. -/
theorem execRadFrameRx_good (hfcs : b ++ s.fcs port.val b = psdu) :
    execRadFrameRx port psdu corr false false s = .next (s.radFrame port.val b corr.toNat) := by
  subst hb
  simp only [execRadFrameRx, hon, Nat.not_lt.mpr hmin, Nat.not_lt.mpr hmax, hhears, hfcs, Bool.not_true, Bool.false_eq_true, ne_eq, not_true_eq_false,
    or_self, if_false]

/-- R264: a PSDU with a bad FCS is counted. -/
theorem execRadFrameRx_badFcs (hfcs : b ++ s.fcs port.val b ≠ psdu) :
    execRadFrameRx port psdu corr false false s = .next (s.count (Reg.RAD_RX_FCS_CNT_CNT port.val)) := by
  subst hb
  simp only [execRadFrameRx, hon, Nat.not_lt.mpr hmin, Nat.not_lt.mpr hmax, hhears, ne_eq, hfcs, Bool.not_true, Bool.false_eq_true, not_false_eq_true,
    or_self, if_true, if_false]

end

section
variable {s : State} {n : Nat} {b : Bytes} {h : RadHead} (corr : Nat) (hh : h = readRadHead b)
include hh

/-- R265, R269: an acknowledgement is awaited by a port of a role that sends, and overheard by a TRACK port. -/
theorem State.radFrame_ack (htype : h.type = 2) :
    s.radFrame n b corr = if s.track (n + 4) = true then s.ackHeard n h b else s.radAcked n h b := by
  subst hh
  simp only [State.radFrame, htype, if_true]

/-- R270, R275: a data frame of the PAN that is for the port, or that a TRACK port hears, and that opens. -/
theorem State.radFrame_data {p : Bytes} {ies : Nat} {c : Option Nat} {mine : Bool} (htype : h.type = 1)
    (hpan : h.pan = s.getF (Reg.RAD_PAN_PANID n)) (hies : radIes h b = (ies, c))
    (hmine : mine = (h.dst == (if s.member (n + 4) then s.getF (Reg.RAD_SHORT_ADDR_ADDR n) else 0) || h.dst == 0xFFFF))
    (hfor : mine = true ∨ s.track (n + 4) = true)
    (hopens : s.unsecure n (s.cellAsn n) (((s.portNode (n + 4) h.src).map (·.id)).getD 0) h ies b = some p) :
    s.radFrame n b corr = (s.takeCorrection n h.src c).radData n h corr mine p := by
  subst hh hmine
  cases hnode : s.portNode (n + 4) (readRadHead b).src <;>
  · simp only [hnode, Option.map_none, Option.map_some, Option.getD_none, Option.getD_some] at hopens
    simp only [State.radFrame, htype, hpan, hies, hfor, hnode, hopens, ne_eq, not_true_eq_false, and_self, OfNat.one_ne_ofNat, if_true, if_false]

end

/-- R270: a METER frame to a port that does not track; the port owes an Enh-ACK for one that it takes or has. -/
theorem State.radData_meter {s t : State} {n : Nat} {h : RadHead} {corr : Nat} {p : Bytes} (htrack : s.track (n + 4) = false) (har : h.ar = true)
    (hmeter : leAt p 0 1 = 1) (htake : (s.hear (n + 4) h.src).takeMeter (n + 4) h.src h.dsn (p.drop 1) = (t, true)) :
    s.radData n h corr true p = t.oweEnhAck n h.src h.dsn corr := by
  simp only [State.radData, State.radTaken, htrack, har, hmeter, htake, Bool.and_self, Bool.false_eq_true, if_true, if_false]

/-- R315: a TRACK port hands on a data frame to another port, and does no more. -/
theorem State.radData_overheard {s : State} {n : Nat} {h : RadHead} {corr : Nat} {p : Bytes} (htrack : s.track (n + 4) = true) :
    s.radData n h corr false p = (s.hear (n + 4) h.src).forwardFrame (n + 4) h.src h.dsn ([1] ++ p) := by
  simp only [State.radData, htrack, Bool.false_and, Bool.false_eq_true, if_true, if_false]

/-! ## Enhanced beacons (R265, R274): one of the port's PAN, heard by a port that follows -/

section
variable {s t u v w : State} {port : Fin 4} {panid : BitVec 16} {src : BitVec 64} {asn : BitVec 40} {since : Word}
  (hon : s.portOn (port.val + 4) = true) (hfollows : s.coordinates (port.val + 4) = false) (hpan : panid.toNat = s.getF (Reg.RAD_PAN_PANID port.val))
  (ht : t = s.setF (Reg.RAD_SYNC_OFS_NS port.val) (unsignedOf 32 ((s.ns3 : Int) - since.toNat -
    ((s.getF (Reg.RAD_ASN_EPOCH_LO_SEC port.val) + s.getF (Reg.RAD_ASN_EPOCH_HI_SEC port.val) * 2 ^ 32) * nsPerS + asn.toNat * slotNs))))
  (hu : u = t.putNode (port.val + 4) 0 (some { (t.portNode (port.val + 4) 0).getD {} with id := src.toNat, joined := true, heardAt := t.tb1 }))
  (hv : v = u.setPort (port.val + 4) { u.port (port.val + 4) with evidence := u.ns3, ebChan := (u.port (port.val + 4)).chan })
  (hw : w = if v.track (port.val + 4) = true then v.forwardFrame (port.val + 4) 0 0 ([0] ++ leBytes 5 asn.toNat) else v)
include hon hfollows hpan ht hu hv hw

/-- R274: a port that is synchronised follows the EB. -/
theorem execRadEbRx_follows (hstate : 3 ≤ s.nodeStateOf (port.val + 4)) :
    execRadEbRx port panid src asn since s =
      .next (w.hearBeacon (port.val + 4) (w.ns3 + w.ebPeriod port.val) (w.ebPeriod port.val) 3) := by
  have hscan : ¬ s.nodeStateOf (port.val + 4) ≤ 1 := by omega
  have hjoin : s.nodeStateOf (port.val + 4) ≠ 2 := by omega
  simp only [execRadEbRx, hon, hfollows, hpan, hscan, hjoin, ← ht, ← hu, ← hv, ← hw, Bool.not_true, Bool.false_eq_true, ne_eq, not_true_eq_false,
    or_self, if_false]

/-- R253, R274: a TRACK port that scans is synchronised by the EB; it does not ask to join. -/
theorem execRadEbRx_synchronises (hstate : s.nodeStateOf (port.val + 4) ≤ 1) (htrack : w.track (port.val + 4) = true) :
    execRadEbRx port panid src asn since s =
      .next (w.hearBeacon (port.val + 4) (w.ns3 + w.ebPeriod port.val) (w.ebPeriod port.val) 3) := by
  simp only [execRadEbRx, hon, hfollows, hpan, hstate, ← ht, ← hu, ← hv, ← hw, htrack, State.track_hearBeacon_rad, Bool.not_true, Bool.false_eq_true,
    ne_eq, not_true_eq_false, or_self, if_true, if_false]

end

/-! ## Fencing (R280) -/

theorem State.radFence_of_open {s : State} {n : Nat} (hopen : s.flag (Reg.RAD_CTRL_FENCE n) = false) :
    s.radFence n = (s.setF (Reg.RAD_CTRL_FENCE n) 1).fencePort (n + 4) :=
  if_neg (ne_true_of_eq_false hopen)

theorem State.radUnfence_of_fenced {s : State} {n : Nat} (hfenced : s.flag (Reg.RAD_CTRL_FENCE n) = true) :
    s.radUnfence n = (s.setF (Reg.RAD_CTRL_FENCE n) 0).setPort (n + 4) { s.port (n + 4) with slotLast := some (s.asn n) } :=
  if_neg (by simp [hfenced])

/-- Settles O43: a timeslot goes by the cell that is kept, a received frame by its header, and every other condition is the guard of the branch that the command
takes. -/
theorem radioCommandsComplete : Obligations.RadioCommandsComplete := by
  unfold Obligations.RadioCommandsComplete
  refine ⟨?cellSends, ?cellOutOfBand, ?cellBeacon, ?cellReceives, ?noCell, ?rxBroadcast, ?rxMeter, ?rxOverheard, ?rxAck, ?rxAckHeard, ?rxFcs, ?ackSend,
    ?ackUnsecured, ?ackDrop, ?ackRetry, ?ackRetryShared, ?assoc, ?assocAdmits, ?assocTrack, ?ebFollows, ?ebSynchronises, ?ebMiss, ?ebCorrected,
    ?bucketRoll, ?maxWait, ?appAck, ?appAckUnrouted, ?downlink, ?downlinkMalformed, ?fence, ?unfence, ?spiRaw, ?age⟩
  case cellSends =>
    intro s t u v w port busy a chan l here hon hcoord hruns ha hnew hidle hhere hpick ht hchan hu hv hcoord' heb htx hw hband
    refine (execRadTimeslotStart_cell busy hon hcoord hruns ha hnew hidle hhere ht hpick hchan hu hv).trans (congrArg _ ?_)
    rw [State.runCell_frames _ _ hcoord' heb hw, if_neg (by simp [htx]), if_neg (by simp [hband])]
  case cellOutOfBand =>
    intro s t u v w port busy a chan l here hon hcoord hruns ha hnew hidle hhere hpick ht hchan hu hv hcoord' heb htx hw hband
    refine (execRadTimeslotStart_cell busy hon hcoord hruns ha hnew hidle hhere ht hpick hchan hu hv).trans (congrArg _ ?_)
    rw [State.runCell_frames _ _ hcoord' heb hw, if_neg (by simp [htx]), if_pos hband]
  case cellBeacon =>
    intro s t u v x w port busy a chan l here hon hcoord hruns ha hnew hidle hhere hpick ht hchan hu hv hcoord' heb hx hcoordx hw hband _
    refine (execRadTimeslotStart_cell busy hon hcoord hruns ha hnew hidle hhere ht hpick hchan hu hv).trans (congrArg _ ?_)
    exact State.runCell_beacon _ _ hcoord' heb hx hcoordx hw hband
  case cellReceives =>
    intro s t u v w port busy a chan l here hon hcoord hruns ha hnew hidle hhere hpick ht hchan hu hv hcoord' heb htx hw
    refine (execRadTimeslotStart_cell busy hon hcoord hruns ha hnew hidle hhere ht hpick hchan hu hv).trans (congrArg _ ?_)
    rw [State.runCell_frames _ _ hcoord' heb hw, if_pos htx]
  case noCell =>
    intro s t port busy hon hcoord hruns hnew ht hnone hlinks
    refine execRadTimeslotStart_noCell busy hon hcoord hruns rfl hnew (.inl hnone) rfl ht ?_
    rw [hlinks]
    rfl
  case rxBroadcast =>
    intro s port psdu b p corr h ies c hon hmin hmax hhears hb hfcs hh htype hpan hies hdst hopens
    refine (execRadFrameRx_good corr hon hmin hmax hhears hb hfcs).trans (congrArg _ ?_)
    exact State.radFrame_data _ hh htype hpan hies (by simp [hdst]) (.inl rfl) hopens
  case rxMeter =>
    intro s u v port psdu b p corr h ies c hon hmin hmax hhears hb hfcs hh htype hpan hies hdst har hopens hu htrack hmeter htake
    refine (execRadFrameRx_good corr hon hmin hmax hhears hb hfcs).trans (congrArg _ ?_)
    refine (State.radFrame_data _ hh htype hpan hies (by simp [hdst]) (.inl rfl) hopens).trans ?_
    rw [← hu]
    exact State.radData_meter htrack har hmeter htake
  case rxOverheard =>
    intro s u port psdu b p corr h ies c hon hmin hmax hhears hb hfcs hh htype hpan hies htrack hopens hu htrack' hme hall hmember
    refine (execRadFrameRx_good corr hon hmin hmax hhears hb hfcs).trans (congrArg _ ?_)
    refine (State.radFrame_data (mine := false) _ hh htype hpan hies (by simp [hme, hall, hmember]) (.inr htrack) hopens).trans ?_
    rw [← hu]
    exact State.radData_overheard htrack'
  case rxAck =>
    intro s port psdu b corr hon hmin hmax hhears hb hfcs htype htrack
    refine (execRadFrameRx_good corr hon hmin hmax hhears hb hfcs).trans (congrArg _ ?_)
    exact (State.radFrame_ack _ rfl htype).trans (if_neg (ne_true_of_eq_false htrack))
  case rxAckHeard =>
    intro s port psdu b corr hon hmin hmax hhears hb hfcs htype htrack
    refine (execRadFrameRx_good corr hon hmin hmax hhears hb hfcs).trans (congrArg _ ?_)
    exact (State.radFrame_ack _ rfl htype).trans (if_pos htrack)
  case rxFcs =>
    exact fun s port psdu b corr hon hmin hmax hhears hb hfcs => execRadFrameRx_badFcs corr hon hmin hmax hhears hb hfcs
  case ackSend =>
    intro s t u port a b psdu chan ms hon htrack hack hdue ht hsecure hpsdu hchan hms hband hbudget hu
    show execRadEnhAckSend port s = _
    simp only [execRadEnhAckSend, hack, hon, htrack, Nat.not_lt.mpr hdue, ← ht, hsecure, ← hpsdu, ← hchan, ← hms, hband, hbudget, ← hu, Bool.not_true,
      Bool.false_eq_true, or_self, if_false]
  case ackUnsecured =>
    intro s t port a hon htrack hack hdue ht hsecure
    show execRadEnhAckSend port s = _
    simp only [execRadEnhAckSend, hack, hon, htrack, Nat.not_lt.mpr hdue, ← ht, hsecure, Bool.not_true, Bool.false_eq_true, or_self, if_false]
  case ackDrop =>
    intro s port t a shared hshared hwait hdue hlast
    show execRadAckTimeout port s = _
    subst hshared
    simp only [execRadAckTimeout, hwait, Nat.not_lt.mpr hdue, if_false]
    exact if_pos hlast
  case ackRetry =>
    intro s port t a hshared hwait hdue hmore
    have hlast : ¬ 1 + s.getF (Reg.RAD_ACCESS_CFG_RETRY_MAX port.val) ≤ t.attempts := by omega
    show execRadAckTimeout port s = _
    simp only [execRadAckTimeout, hwait, Nat.not_lt.mpr hdue, hlast, if_false]
    exact if_neg (ne_true_of_eq_false hshared)
  case ackRetryShared =>
    intro s u port t a n e w hcell hwait hdue hmore he hdraw
    have hlast : ¬ 1 + s.getF (Reg.RAD_ACCESS_CFG_RETRY_MAX port.val) ≤ t.attempts := by omega
    show execRadAckTimeout port s = _
    simp only [execRadAckTimeout, hcell, hwait, Nat.not_lt.mpr hdue, hlast, ← he, hdraw, beq_self_eq_true, if_true, if_false]
  case assoc =>
    intro s port ident hon hcoord
    show execRadAssocReq port ident s = _
    simp only [execRadAssocReq, hon, (State.coordinates_iff.mp hcoord).1, hcoord, Bool.not_true, Bool.false_eq_true, if_true, if_false]
  case assocAdmits =>
    intro s port ident nodes a hon hcoord hnodes hopen hpolicy hnew hroom hcredit hfree
    have hadmits := State.decideJoin_admits hnodes (fun h => absurd h (by omega)) (by rw [portF_rad]; exact hopen) (by rw [portF_rad]; exact hpolicy) hnew
      hroom hcredit hfree
    show execRadAssocReq port ident s = _
    simp only [execRadAssocReq, hon, (State.coordinates_iff.mp hcoord).1, hcoord, hadmits, Bool.not_true, Bool.false_eq_true, if_true, if_false]
  case assocTrack =>
    intro s port ident hon htrack
    show execRadAssocReq port ident s = _
    simp only [execRadAssocReq, hon, htrack, Bool.not_true, Bool.false_eq_true, if_true, if_false]
  case ebFollows =>
    intro s t u v w port panid src asn since hon hfollows hpan hstate ht hu hv hw
    exact execRadEbRx_follows hon hfollows hpan (by simpa using ht) hu hv hw hstate
  case ebSynchronises =>
    intro s t u v w port panid src asn since hon hfollows hpan hstate ht hu hv htrack hw htrack'
    exact execRadEbRx_synchronises hon hfollows hpan (by simpa using ht) hu hv (hw.trans (if_pos htrack).symm) hstate htrack'
  case ebMiss =>
    intro s port hon hfollows hstate hdue hmissed
    have hsync : ¬ s.nodeStateOf (port.val + 4) < 2 ∧ s.nodeStateOf (port.val + 4) ≠ 2 := by omega
    show execRadEbMiss port s = _
    simp only [execRadEbMiss, hon, hfollows, hsync, Nat.not_lt.mpr hdue, Nat.not_lt.mpr hmissed, Bool.not_true, Bool.false_eq_true, false_and, or_self,
      if_false]
  case ebCorrected =>
    intro s port hon hfollows hstate hdue hheard
    have hsync : ¬ s.nodeStateOf (port.val + 4) < 2 ∧ 3 ≤ s.nodeStateOf (port.val + 4) ∧ s.nodeStateOf (port.val + 4) ≤ 4 := by omega
    show execRadEbMiss port s = _
    simp only [execRadEbMiss, hon, hfollows, hsync, Nat.not_lt.mpr hdue, hheard, Bool.not_true, Bool.false_eq_true, and_self, or_self, if_true, if_false]
  case bucketRoll =>
    exact fun s port hen hdue => if_pos ⟨hen, hdue⟩
  case maxWait =>
    rintro s port _ rfl
    rfl
  case appAck =>
    intro s t u port a addr o hon hdeq hroute hframe
    have hk : port.val + 4 < 8 := by omega
    refine (if_pos (.inl hon)).trans (congrArg _ ?_)
    cases o with
    | none => simpa only [portF_rad, State.dropAck] using State.portAck_unsealed hk hon hdeq hroute (by simpa only [portF_rad] using hframe)
    | some b =>
      simpa only [Nat.not_lt.mpr (Nat.le_add_left 4 port.val), if_false] using
        State.portAck_sealed hk hon hdeq hroute (by simpa only [portF_rad] using hframe)
  case appAckUnrouted =>
    intro s t port a hon hdeq hroute
    refine (if_pos (.inl hon)).trans (congrArg _ ((State.portAck_unrouted (by omega) hon hdeq hroute).trans ?_))
    rw [State.dropAck, portF_rad]
  case downlink =>
    intro s u v port sub b w hu hon hroom hfront hlen hmax hw hshort hcoord hfits hv hcoord' horders
    refine congrArg Host.Outcome.next ((State.portDownlink_submitted hu _).trans ?_)
    refine State.portDownlink_sends hon hroom hfront rfl hlen hmax hw hshort ?_ hv (State.coordinates_iff.mp hcoord').2 horders
    simpa only [(State.coordinates_iff.mp hcoord).2, Bool.false_eq_true, if_false] using hfits
  case downlinkMalformed =>
    intro s u port sub b n hu hon hroom hfront hbad
    exact congrArg _ ((State.portDownlink_submitted hu _).trans (State.portDownlink_malformed hon hroom hfront hbad))
  case fence =>
    intro s req port hok hopen
    show execRadFence req port s = _
    rw [execRadFence, State.onT_accepted hok, State.radFence_of_open (s := s.answer 0) hopen]
  case unfence =>
    intro s req port hok hfenced
    show execRadUnfence req port s = _
    rw [execRadUnfence, State.onT_accepted hok, State.radUnfence_of_fenced (s := s.answer 0) hfenced]
    rfl
  case spiRaw =>
    intro s req port word reply hok hoff
    show execRadSpiRaw req port word reply s = _
    rw [execRadSpiRaw, State.onField_accepted hok, State.answer_flag, if_neg (ne_true_of_eq_false hoff)]
  case age =>
    intro s port addr n hours hon hnode hjoined hhours hne hdue
    refine (if_pos hon).trans (congrArg _ ((State.ageNode_removes hnode hjoined (by rwa [portF_rad]) hne hdue).trans ?_))
    rw [portF_rad]

end Sys2Proof.Machine
end

section
/-! SUPPORT. The host link (R295 to R299) and the Kettle service (R292): what each command answers, and what a reset of the link leaves of the credits of the
host's acknowledgement items (R19). -/

namespace Sys2Proof.Machine

/-! ## Completions (R297): the ring has room and the endpoint may write it -/

section
variable {s : State} {r : List (Nat × Nat × Nat × Bytes)} {buf tag st : Nat} {d : Bytes}
  (hroom : (s.getF Reg.PCIE_CQ_TAIL_IDX + 1) % 2 ^ s.getF Reg.PCIE_CQ_CFG_LOG2 ≠ s.getF Reg.PCIE_CQ_HEAD_IDX)
  (henable : s.flag Reg.PCIE_CTRL_ENABLE = true) (hmaster : s.pcieMaster = true)
include hroom henable hmaster

/-- With no batch complete, the first completion that waits goes out. -/
theorem execPcieCompletionWrite_waiting (hempty : (s.queue 0x179).items = []) (hnone : s.completeBatch (fun b => b.kind == 2) = none)
    (hwaits : s.uplink.completions = (buf, tag, st, d) :: r) :
    execPcieCompletionWrite 0 s = .next (({ s with uplink := { s.uplink with completions := r } } : State).pcieComplete buf tag st d) := by
  simp only [execPcieCompletionWrite, State.takeAckItem_empty hempty, hnone, hwaits, beq_false_of_ne hroom, henable, hmaster, Bool.not_true,
    Bool.false_eq_true, or_self, if_false]

/-- The completion of a batch goes out as its tracking ends, where none waits before it; `s` is the state after that. -/
theorem execPcieCompletionWrite_completes {s₀ t v : State} {k : Nat} {a : Ack} {b : Batch} {iv : Bytes}
    (hdeq : s₀.deqHeld 0x179 = some (⟨.ack a, 0⟩, t)) (hcomplete : (t.takeBatchAck 0x179 a).completeBatch (fun b => b.kind == 2) = some (k, b))
    (hdraw : (t.takeBatchAck 0x179 a).drawBytes 8 = (iv, v)) (hs : s = v.endBatch k) (hwaits : s.uplink.completions = [])
    (hd : d = [0xB2, 0x01] ++ beBytes 2 b.frames.length ++ beBytes 4 b.bseq ++ iv ++ b.list) :
    execPcieCompletionWrite 0 s₀ = .next (({ s with uplink := { s.uplink with completions := [] } } : State).pcieComplete b.buf b.tag 0 d) := by
  have hopen : ¬(((s.getF Reg.PCIE_CQ_TAIL_IDX + 1) % 2 ^ s.getF Reg.PCIE_CQ_CFG_LOG2 == s.getF Reg.PCIE_CQ_HEAD_IDX) = true ∨
      (!s.flag Reg.PCIE_CTRL_ENABLE) = true ∨ (!s.pcieMaster) = true) := by
    simp [hroom, henable, hmaster]
  simp only [execPcieCompletionWrite, State.takeAckItem_intact hdeq, hcomplete, hdraw, ← hs, hwaits, List.nil_append, ← hd]
  exact if_neg hopen

end

/-! ## Resets of the link (R298) -/

/-- R298: a link that was up goes down; where it trains again, the host sets it up anew. -/
theorem execPcieLinkDown_linked {s t : State} (hdom : s.domOn .fabric = true) (hlink : s.flag Reg.PCIE_STAT_LINK_UP = true)
    (ht : t = (((s.pcieReset.setF Reg.PCIE_STAT_LINK_UP 0).setF Reg.PCIE_STAT_GEN 0).setF Reg.PCIE_STAT_WIDTH 0).irq Reg.PCIE_IRQ_LINK_DOWN)
    (up : Option PcieHost) : execPcieLinkDown up s = .next (up.elim t t.pcieUp) := by
  cases up <;> simp only [execPcieLinkDown, hdom, hlink, ← ht, Bool.not_true, Bool.false_eq_true, if_true, if_false, Option.elim]

/-- Settles O45: each condition is the guard of the branch that the command takes. -/
theorem hostLinkCommandsComplete : Obligations.HostLinkCommandsComplete := by
  unfold Obligations.HostLinkCommandsComplete
  refine ⟨?tail, ?fetch, ?waiting, ?completes, ?linkDown, ?linkTrains, ?hotReset, ?status, ?log, ?page, ?wake⟩
  case tail =>
    exact fun s req data hok => congrArg Host.Outcome.next (State.onField_accepted hok _)
  case fetch =>
    rintro s t _ host _ _ ht hmaster henable hqueued hcredit rfl rfl rfl
    show execPcieSqFetch host s = _
    simp only [execPcieSqFetch, State.hostFills, ← ht, hmaster, henable, hqueued, hcredit, Bool.not_true, Bool.false_eq_true, or_self, if_false]
  case waiting =>
    exact fun s buf tag st d r hempty hnone hwaits hroom henable hmaster =>
      execPcieCompletionWrite_waiting hroom henable hmaster hempty hnone hwaits
  case completes =>
    rintro s t _ v k a b iv d hdeq rfl hcomplete hdraw hwaits hd hroom henable hmaster
    exact execPcieCompletionWrite_completes hroom henable hmaster hdeq hcomplete hdraw rfl hwaits hd
  case linkDown =>
    intro s t up hdom hlink ht
    refine (execPcieLinkDown_linked hdom hlink ht up).trans ?_
    cases up <;> rfl
  case linkTrains =>
    intro s up hdom hlink
    show execPcieLinkDown up s = _
    cases up <;> simp only [execPcieLinkDown, hdom, hlink, Bool.not_true, Bool.false_eq_true, if_false]
  case hotReset =>
    intro s t up hdom hlink ht
    show execPcieHotReset up s = _
    cases up <;> simp only [execPcieHotReset, hdom, hlink, ← ht, and_self, if_true]
  case status =>
    exact fun s addr port hserves => if_pos hserves
  case log =>
    intro s addr port index count hserves hsome hmost
    show execKsvcLogRead addr port index count s = _
    simp only [execKsvcLogRead, hserves, hsome, Nat.not_lt.mpr hmost, Bool.not_true, Bool.false_eq_true, or_self, if_false]
  case page =>
    intro s addr port page off count t b hserves hsome hmost haligned hwithin hslow hpage hwords
    show execKsvcPageRead addr port page off count s = _
    simp only [execKsvcPageRead, hserves, hsome, Nat.not_lt.mpr hmost, haligned, Nat.not_lt.mpr hwithin, hslow, hpage, hwords, Bool.not_true,
      Bool.false_eq_true, ne_eq, not_true_eq_false, or_self, if_false]
  case wake =>
    intro s addr port target counter signature hserves hsome hmost hlen hgood
    show execKsvcWake addr port target counter signature s = _
    simp only [execKsvcWake, hserves, hsome, Nat.not_lt.mpr hmost, hlen, hgood, Bool.not_true, Bool.false_eq_true, ne_eq, not_true_eq_false,
      or_self, if_false]

/-! ## The credits of the host's acknowledgement items (R19) -/

/-- R16: slots whose credits return are held no longer. -/
theorem State.held_creditBack (s : State) (q n : Nat) : ((s.creditBack q n).queue q).held = (s.queue q).held - n := by
  rw [State.creditBack, State.setQueue, State.queue_putQueue_self]
  rfl

/-- R19: as the tracking of a batch of the host ends, the credits of the acknowledgement items taken for it return. -/
theorem State.held_endBatch {s : State} {k : Nat} {b : Batch} (hb : s.batch k = some b) (hkind : b.kind = 2) :
    ((s.endBatch k).queue 0x179).held = (s.queue 0x179).held - b.acks := by
  simp only [State.endBatch, hb, hkind, if_true]
  exact State.held_creditBack s 0x179 b.acks

/-- R19, R298: a reset of the link that abandons one batch of the host returns the credits of its acknowledgement items. -/
theorem State.held_pcieReset {s : State} {k : Nat} {b : Batch} (hb : s.uplink.batches = [(k, some b)]) (hkind : b.kind = 2) :
    (s.pcieReset.queue 0x179).held = (s.queue 0x179).held - b.acks := by
  have hbatch : s.batch k = some b := by simp [State.batch, hb, sget]
  rw [← State.held_endBatch hbatch hkind]
  simp only [State.pcieReset, hb, hkind, List.filter_cons, List.filter_nil, List.foldl_cons, List.foldl_nil, beq_self_eq_true, if_true]
  exact congrArg Queue.held (State.queue_putQueue_ne _ _ (by decide))

/-- R86, R297: the link of the host is up; of a batch of two frames that the host sent, the endpoint has taken the acknowledgement item of the first. -/
def oneAckTaken : State :=
  ((((State.reset.setF Reg.CLK_STAT_DOM_RUN 0x1FF).setF Reg.PCIE_STAT_LINK_UP 1).setBatch 1 (some { kind := 2, frames := [(7, none), (8, none)] })).enq
    0x179 { body := .ack { batch := some (1, 0) } }).takeAckItem 0x179 0

/-- The state meets the invariant of the block. -/
theorem oneAckTaken_inv : oneAckTaken.inv = true := by
  have hreset : Tidy [] State.reset := (State.inv_iff.mp (show State.reset.inv = true by decide)).1
  refine Tidy.inv (q := []) ?_ rfl
  exact State.takeAckItem_tidy (State.enq_tidy (State.setBatch_tidy (State.setF_tidy (State.setF_tidy hreset))))

theorem oneAckTaken_held : (oneAckTaken.queue 0x179).held = 1 := by decide

theorem oneAckTaken_batches :
    oneAckTaken.uplink.batches = [(1, some { kind := 2, frames := [(7, some .committed), (8, none)], acks := 1 })] := by decide

/-- Refutes O21: not every queue but the receive queue is as it was. With the batch that it abandons, a lost link gives up the slot of the acknowledgement queue
0x179 that the batch held, and its credit returns. -/
theorem not_aLostHostLinkAbandonsItsBatches : ¬ Obligations.ALostHostLinkAbandonsItsBatches := by
  unfold Obligations.ALostHostLinkAbandonsItsBatches
  rintro ⟨hdown, -⟩
  have hdom : oneAckTaken.domOn .fabric = true := by decide
  have hlink : oneAckTaken.flag Reg.PCIE_STAT_LINK_UP = true := by decide
  obtain ⟨t, ht, -, -, -, -, -, -, -, -, -, -, hqueues, -⟩ := hdown oneAckTaken none hdom hlink
  obtain rfl := Host.Outcome.next.inj (ht.symm.trans (execPcieLinkDown_linked hdom hlink rfl none))
  have hkept := congrArg Queue.held (hqueues 0x179 (by decide))
  simp only [Option.elim, State.irq, State.queue_setF, State.held_pcieReset oneAckTaken_batches rfl, oneAckTaken_held] at hkept
  exact absurd hkept (by decide)

end Sys2Proof.Machine
end

section
/-! SUPPORT. A step of the block runs the command at the front of its queue. -/

namespace Sys2Proof.Machine

/-- Settles O1: of the two cases of a step, a queue with a command at its front selects the one that runs it. -/
theorem stepRunsTheCommandAtTheFront : Obligations.StepRunsTheCommandAtTheFront := by
  unfold Obligations.StepRunsTheCommandAtTheFront
  intro c r s h
  rw [step, h]

end Sys2Proof.Machine
end

section
/-! SUPPORT. The byte swap of a DMA stream (R369). -/

namespace Sys2Proof.Machine

/-- R367, R369: how many bytes a unit has under each SWAP code. -/
theorem swapUnit_eq {d : Bytes} {m : Nat} (h : leAt d 0x28 4 % 4 = m) : swapUnit d = [1, 2, 4, 4].getD m 1 := by
  rw [swapUnit, h]

theorem swapUnit_pos (d : Bytes) : 0 < swapUnit d := by
  have hlt : leAt d 0x28 4 % 4 < 4 := Nat.mod_lt _ (by decide)
  rw [swapUnit]
  interval_cases leAt d 0x28 4 % 4 <;> decide

/-- A piece that a string has in full is cut out of it without padding. -/
theorem slice_within {b : Bytes} {a n : Nat} (h : a + n ≤ b.length) : slice b a n = (b.drop a).take n := by
  have hlen : ((b.drop a).take n).length = n := by
    rw [List.length_take, List.length_drop]
    omega
  simp only [slice, hlen, Nat.sub_self, List.replicate_zero, List.append_nil]

theorem slice_append_left {x y : Bytes} {a n : Nat} (h : a + n ≤ x.length) : slice (x ++ y) a n = slice x a n := by
  rw [slice_within h, slice_within (by rw [List.length_append]; omega), List.drop_append_of_le_length (by omega),
    List.take_append_of_le_length (by rw [List.length_drop]; omega)]

theorem slice_append_right (x y : Bytes) (a n : Nat) : slice (x ++ y) (x.length + a) n = slice y a n := by
  rw [slice, slice, List.drop_length_add_append]

/-- R369: under a SWAP code, a string of one unit is swapped as that unit. -/
theorem swapBytes_unit {d b : Bytes} {m : Nat} (h : leAt d 0x28 4 % 4 = m) (hb : b.length = [1, 2, 4, 4].getD m 1) :
    swapUnit d = [1, 2, 4, 4].getD m 1 ∧ swapBytes d b = swapOne m b := by
  have hunit : b.length = swapUnit d := hb.trans (swapUnit_eq h).symm
  have hpos := swapUnit_pos d
  refine ⟨swapUnit_eq h, ?_⟩
  rw [swapBytes, h, hunit, Nat.div_self hpos, List.range_one, List.flatMap_singleton, Nat.zero_mul, slice_within (by omega), List.drop_zero,
    ← hunit, List.take_length]

/-- R369: units are swapped one by one, counted from the first byte. -/
theorem swapBytes_append {d x : Bytes} (h : x.length % swapUnit d = 0) (y : Bytes) :
    swapBytes d (x ++ y) = swapBytes d x ++ swapBytes d y := by
  obtain ⟨n, hn⟩ := Nat.dvd_of_mod_eq_zero h
  have hpos := swapUnit_pos d
  have hcount : (x ++ y).length / swapUnit d = n + y.length / swapUnit d := by
    rw [List.length_append, hn, Nat.mul_add_div hpos]
  have hx : x.length / swapUnit d = n := by rw [hn, Nat.mul_div_cancel_left _ hpos]
  simp only [swapBytes, hcount, hx, List.range_add, List.flatMap_append, List.flatMap_map]
  congr 1
  · refine List.flatMap_congr fun i hi => ?_
    have hle : (i + 1) * swapUnit d ≤ x.length := by
      rw [hn, Nat.mul_comm]
      exact Nat.mul_le_mul_left _ (List.mem_range.mp hi)
    rw [slice_append_left (by rwa [Nat.add_one_mul] at hle)]
  · refine List.flatMap_congr fun i _ => ?_
    rw [Nat.add_mul, Nat.mul_comm n, ← hn, slice_append_right]

/-- Settles O22: each code swaps one unit as R369 says, and the units of a longer string are swapped one by one. -/
theorem theSwapActsOnEachUnit : Obligations.TheSwapActsOnEachUnit := by
  unfold Obligations.TheSwapActsOnEachUnit
  refine ⟨fun d b0 h => swapBytes_unit h rfl, fun d b0 b1 h => swapBytes_unit h rfl, fun d b0 b1 b2 b3 h => swapBytes_unit h rfl,
    fun d b0 b1 b2 b3 h => swapBytes_unit h rfl, fun d x y h => swapBytes_append h y, fun d h => ?_⟩
  simp only [descOk, Bool.and_eq_true, beq_iff_eq] at h
  obtain ⟨⟨⟨⟨⟨⟨-, hsource⟩, hdestination⟩, -⟩, -⟩, -⟩, -⟩ := h
  exact ⟨hsource, hdestination⟩

end Sys2Proof.Machine
end

section
/-! SUPPORT. Key slots: what the re-masking (R388) and NARROW (R389, R390) leave of them. -/

namespace Sys2Proof.Machine

theorem State.slot_setSlotK_self (s : State) (n : Nat) (k : KeySlot) : (s.setSlotK n k).slot n = k := sget_sput_self ..

theorem State.slot_setSlotK_ne (s : State) {n m : Nat} (k : KeySlot) (h : m ≠ n) : (s.setSlotK n k).slot m = s.slot m :=
  sget_sput_ne _ _ _ _ h.symm

/-- What changes nothing but register fields and the bus answer leaves every key slot. -/
theorem OnlyRegs.slot {s t : State} (h : OnlyRegs s t) (n : Nat) : t.slot n = s.slot n := by
  obtain ⟨_, _, rfl⟩ := h
  rfl

theorem State.setBytes_onlyRegs (s : State) (f : Nat → Field) (words : Nat) (bs : Bytes) : OnlyRegs s (s.setBytes f words bs) :=
  foldl_onlyRegs (fun t _ => t.setF_onlyRegs _ _) _ s

/-! ## Re-masking (R388) -/

/-- R388: a slot holds the key and the attributes that it held; its shares may have changed. -/
structure KeyKept (k l : KeySlot) : Prop where
  key : l.key = k.key
  dest : l.dest = k.dest
  usage : l.usage = k.usage
  exports : l.export_ = k.export_
  gen : l.gen = k.gen
  owner : l.owner = k.owner
  ctr : l.ctr = k.ctr

theorem KeyKept.refl (k : KeySlot) : KeyKept k k := ⟨rfl, rfl, rfl, rfl, rfl, rfl, rfl⟩

theorem KeyKept.trans {k l m : KeySlot} (h : KeyKept k l) (h' : KeyKept l m) : KeyKept k m :=
  ⟨h'.key.trans h.key, h'.dest.trans h.dest, h'.usage.trans h.usage, h'.exports.trans h.exports, h'.gen.trans h.gen, h'.owner.trans h.owner,
    h'.ctr.trans h.ctr⟩

/-- R388: a mask laid on both shares falls out of the key that they make. -/
theorem xorB_remask {a b m : Bytes} (h : m.length = a.length) : xorB (xorB a m) (xorB b m) = xorB a b := by
  refine List.ext_getElem (by simp only [xorB, List.length_zipWith]; omega) fun i _ _ => ?_
  have hcancel : ∀ x y z : Byte, (x ^^^ z) ^^^ (y ^^^ z) = x ^^^ y := by
    intro x y z
    rw [BitVec.xor_assoc, BitVec.xor_comm z, BitVec.xor_assoc, BitVec.xor_self, BitVec.xor_zero]
  simp only [xorB, List.getElem_zipWith, hcancel]

theorem State.drawBytes_length (s : State) (n : Nat) : (s.drawBytes n).1.length = n := by
  rw [State.drawBytes, List.length_map, List.length_range]

theorem KeyKept.remask (k : KeySlot) {m : Bytes} (h : m.length = k.share.length) : KeyKept k { k with share := xorB k.share m, mask := xorB k.mask m } :=
  ⟨xorB_remask h, rfl, rfl, rfl, rfl, rfl, rfl⟩

/-- R388: between two states no key has changed, and neither have memory and the queues. -/
structure OnlyMasks (s t : State) : Prop where
  mem : t.mem = s.mem
  queues : t.queues = s.queues
  slots : ∀ n : Nat, KeyKept (s.slot n) (t.slot n)

theorem OnlyMasks.refl (s : State) : OnlyMasks s s := ⟨rfl, rfl, fun _ => .refl _⟩

theorem OnlyMasks.trans {s t u : State} (h : OnlyMasks s t) (h' : OnlyMasks t u) : OnlyMasks s u :=
  ⟨h'.mem.trans h.mem, h'.queues.trans h.queues, fun n => (h.slots n).trans (h'.slots n)⟩

/-- R388: the instant and the count of the re-masking are no part of a key. -/
theorem OnlyMasks.counted {s t : State} (h : OnlyMasks s t) (x : SecState) (f : Field) : OnlyMasks s (({ t with sec := x } : State).count f) :=
  ⟨h.mem, h.queues, h.slots⟩

/-- R388: one slot takes a new mask, as the re-masking gives it to each. -/
def State.remaskSlot (s : State) (n : Nat) : State :=
  let k := s.slot n
  let (m, u) := s.drawBytes k.share.length
  if k.full then u.setSlotK n { k with share := xorB k.share m, mask := xorB k.mask m } else s

theorem State.remaskSlot_onlyMasks (s : State) (n : Nat) : OnlyMasks s (s.remaskSlot n) := by
  unfold State.remaskSlot
  dsimp only
  split
  next =>
    refine ⟨rfl, rfl, fun m => ?_⟩
    by_cases hm : m = n
    · rw [hm, State.slot_setSlotK_self]
      exact .remask _ (s.drawBytes_length _)
    · rw [State.slot_setSlotK_ne _ _ hm]
      exact .refl _
  next => exact .refl s

theorem foldl_onlyMasks (l : List Nat) (s : State) : OnlyMasks s (l.foldl State.remaskSlot s) := by
  induction l generalizing s with
  | nil => exact .refl s
  | cons n r ih => exact (s.remaskSlot_onlyMasks n).trans (ih _)

/-- Settles O23: the re-masking goes from slot to slot, and a mask laid on both shares of a key falls out of it. -/
theorem maskingLeavesEveryKeyAsItWas : Obligations.MaskingLeavesEveryKeyAsItWas := by
  unfold Obligations.MaskingLeavesEveryKeyAsItWas
  intro s t h
  have hkept : OnlyMasks s t := by
    change execKeyRemask s = .next t at h
    unfold execKeyRemask at h
    split at h
    next => exact Host.Outcome.next.inj h ▸ .refl s
    next =>
      obtain rfl := Host.Outcome.next.inj h
      exact (foldl_onlyMasks (List.range 64) s).counted _ _
  refine ⟨hkept.mem, hkept.queues, fun n => ?_⟩
  obtain ⟨hkey, hdest, husage, hexport, hgen, howner, hctr⟩ := hkept.slots n
  exact ⟨hkey, hdest, husage, hexport, hgen, howner, hctr⟩

/-! ## NARROW (R389, R390) -/

/-- R390: what a NARROW leaves of its target. -/
theorem State.keyEffect_narrow {s : State} {c : KeyCmd} (h : c.op = 3) :
    s.keyEffect c = s.setSlotK c.target { s.slot c.target with
      dest := (s.slot c.target).dest &&& (s.newAttrs c).dest, usage := (s.slot c.target).usage &&& (s.newAttrs c).usage,
      export_ := (s.slot c.target).export_ && (s.newAttrs c).export_ } := by
  simp only [State.keyEffect, h]

theorem ite_ne_of_ne {c : Prop} [Decidable c] {a b x : Nat} (ha : a ≠ x) (hb : b ≠ x) : (if c then a else b) ≠ x := by
  split <;> assumption

/-- R390: a NARROW that would set a bit is refused: each condition before that one has a status of its own. -/
theorem State.keyRefusal_widens {s : State} {c : KeyCmd} (h : c.op = 3) (hwide : (s.slot c.target).widens (s.newAttrs c) = true) :
    s.keyRefusal c ≠ 0 := by
  unfold State.keyRefusal
  iterate 7 refine ite_ne_of_ne (by decide) ?_
  rw [if_pos ⟨h, hwide⟩]
  decide

theorem State.setBytes_newAttrs (s : State) (f : Nat → Field) (words : Nat) (bs : Bytes) (c : KeyCmd) :
    (s.setBytes f words bs).newAttrs c = s.newAttrs c := by
  rw [State.newAttrs, State.newAttrs, (s.setBytes_onlyRegs f words bs).slot]

/-- R390: a refused command changes no slot. -/
theorem State.keyRun_refused {s t : State} {c : KeyCmd} (ht : t = s.setBytes (fun k => Reg.KEY_WRAP_OUT_DATA k) 18 []) (h : t.keyRefusal c ≠ 0) :
    (s.keyRun c).2.status ≠ 0 ∧ ∀ n : Nat, (s.keyRun c).1.slot n = s.slot n := by
  subst ht
  rw [State.keyRun, if_pos h]
  exact ⟨h, fun n => (s.setBytes_onlyRegs ..).slot n⟩

/-- R389: no permission of a slot is wider than it was, and its key and generation are those it had. -/
structure Narrowed (k l : KeySlot) : Prop where
  key : l.key = k.key
  gen : l.gen = k.gen
  dest : l.dest &&& k.dest = l.dest
  usage : l.usage &&& k.usage = l.usage
  exports : l.export_ = true → k.export_ = true

theorem Narrowed.refl (k : KeySlot) : Narrowed k k := ⟨rfl, rfl, Nat.and_self _, Nat.and_self _, id⟩

theorem Narrowed.and (k a : KeySlot) :
    Narrowed k { k with dest := k.dest &&& a.dest, usage := k.usage &&& a.usage, export_ := k.export_ && a.export_ } :=
  ⟨rfl, rfl, by rw [Nat.and_right_comm, Nat.and_self], by rw [Nat.and_right_comm, Nat.and_self], fun h => (Bool.and_eq_true_iff.mp h).1⟩

/-- R389, R390: a NARROW, refused or not, touches its target alone, and widens nothing of it. -/
theorem State.keyRun_narrow {s : State} {c : KeyCmd} (h : c.op = 3) :
    (∀ n : Nat, n ≠ c.target → (s.keyRun c).1.slot n = s.slot n) ∧ Narrowed (s.slot c.target) ((s.keyRun c).1.slot c.target) := by
  by_cases hst : (s.setBytes (fun k => Reg.KEY_WRAP_OUT_DATA k) 18 []).keyRefusal c = 0
  · rw [State.keyRun_runs rfl hst, State.keyEffect_narrow h]
    have hslot := (s.setBytes_onlyRegs (fun k => Reg.KEY_WRAP_OUT_DATA k) 18 []).slot
    refine ⟨fun n hn => (State.slot_setSlotK_ne _ _ hn).trans (hslot n), ?_⟩
    rw [State.slot_setSlotK_self, hslot]
    exact .and ..
  · have hsame := (State.keyRun_refused rfl hst).2
    exact ⟨fun n _ => hsame n, hsame c.target ▸ .refl _⟩

/-- Settles O24: what runs is the conjunction of the attributes with those asked for; what asks for more is refused. -/
theorem narrowNeverSetsABit : Obligations.NarrowNeverSetsABit := by
  unfold Obligations.NarrowNeverSetsABit
  refine ⟨fun s c h => ?_, fun s c h hwide => State.keyRun_refused rfl (State.keyRefusal_widens h ?_)⟩
  · obtain ⟨hothers, hkey, hgen, hdest, husage, hexport⟩ := State.keyRun_narrow (s := s) h
    exact ⟨hothers, hkey, hgen, hdest, husage, hexport⟩
  · rwa [State.setBytes_newAttrs, (s.setBytes_onlyRegs ..).slot]

end Sys2Proof.Machine
end

section
/-! SUPPORT. The key store and memory: no key command stores a byte (R388, R390, R393, R417). -/

namespace Sys2Proof.Machine

/-! ## Key slots and those who hold them -/

theorem State.setBytes_mem (s : State) (f : Nat → Field) (words : Nat) (bs : Bytes) : (s.setBytes f words bs).mem = s.mem :=
  foldl_mem (fun t _ => t.setF_mem _ _) _ s

@[simp] theorem State.loadSlot_mem (s : State) (n : Nat) (key : Bytes) (k : KeySlot) : (s.loadSlot n key k).mem = s.mem := rfl

/-- R275, R393: aborting the operations that hold a slot stores nothing. -/
@[simp] theorem State.abortHolders_mem (s : State) (n : Nat) : (s.abortHolders n).mem = s.mem := by
  unfold State.abortHolders
  dsimp only
  split
  · rfl
  · rw [State.event_mem, State.irq_mem, State.count_mem]
    refine (foldl_mem (fun _ _ => by rfl) _ _).trans (foldl_mem (fun t u => ?_) _ s)
    split <;> rfl

@[simp] theorem State.eraseSlot_mem (s : State) (n : Nat) : (s.eraseSlot n).mem = s.mem := s.abortHolders_mem n

theorem State.eraseAll_mem (s : State) : s.eraseAll.mem = s.mem := by
  rw [State.eraseAll, State.irq_mem]
  exact foldl_mem State.eraseSlot_mem _ s

/-! ## Commands -/

/-- R390: by their operations: a command loads or erases its target, changes its attributes, or fills the registers of WRAP. -/
theorem State.keyEffect_mem (s : State) (c : KeyCmd) : (s.keyEffect c).mem = s.mem := by
  unfold State.keyEffect
  dsimp only
  split
  case h_1 => exact (State.setBytes_mem ..).trans (State.loadSlot_mem ..)
  case h_2 => exact State.eraseSlot_mem ..
  case h_3 => rfl
  case h_4 => exact State.loadSlot_mem ..
  case h_5 => exact State.loadSlot_mem ..
  case h_6 => split <;> rfl
  case h_7 => exact State.setBytes_mem ..
  case h_8 => rfl

theorem State.keyRun_mem (s : State) (c : KeyCmd) : (s.keyRun c).1.mem = s.mem := by
  unfold State.keyRun
  dsimp only
  split
  · exact State.setBytes_mem ..
  · exact (State.keyEffect_mem ..).trans (State.setBytes_mem ..)

theorem foldl_fst_mem {α β : Type} {step : State × β → α → State × β} (hstep : ∀ r x, (step r x).1.mem = r.1.mem) (l : List α) (r : State × β) :
    (l.foldl step r).1.mem = r.1.mem := by
  induction l generalizing r with
  | nil => rfl
  | cons x l ih => exact (ih _).trans (hstep r x)

/-- R470: the commands that waited begin one after another; none stores. -/
theorem State.runJobs_mem (s : State) : s.runJobs.mem = s.mem := by
  refine foldl_fst_mem (fun r j => ?_) s.sec.jobs (s, [])
  dsimp only
  split
  · rfl
  · exact State.keyRun_mem ..

theorem State.keyGo_mem (s : State) (req : Req) : (s.keyGo req).mem = s.mem := by
  unfold State.keyGo
  dsimp only
  split
  · rfl
  · exact State.runJobs_mem _

theorem State.putField_mem (s : State) (req : Req) (f : Field) (d : Nat) : (s.putField req f d).mem = s.mem := by
  unfold State.putField
  dsimp only
  split <;> rfl

/-- R29: the plain fields of a register are register fields. -/
theorem State.writePlain_mem (s : State) (req : Req) (p off d : Nat) : (s.writePlain req p off d).1.mem = s.mem := by
  refine foldl_fst_mem (fun r f => ?_) _ (s, true)
  dsimp only
  split
  · exact State.err_mem ..
  · exact State.putField_mem ..

theorem State.onAction_mem (s : State) (req : Req) (f : Field) (d : Nat) {k : State → State} (hk : ∀ t, (k t).mem = t.mem) :
    (s.onAction req f d k).mem = s.mem := by
  refine s.onField_mem req f fun t => ?_
  dsimp only
  split
  · exact (hk _).trans (State.writePlain_mem ..)
  · exact State.writePlain_mem ..

/-- R390: a write of the command word, whatever its operation, stores nothing. -/
theorem State.keyWrite_memKept (s : State) (req : Req) (w : Nat) : MemKept s (.next (s.keyWrite req w)) :=
  memKept_next (s.onAction_mem req _ w fun t => t.keyGo_mem req)

/-! ## Ends, re-masking and zeroisation -/

theorem State.keyEnd_mem (s : State) (status : Nat) (rest : List KeyJob) : (s.keyEnd status rest).mem = s.mem := by
  have hcode : (if status = 0 then s else s.err 0x08 status 0).mem = s.mem := by
    split
    · rfl
    · exact State.err_mem ..
  unfold State.keyEnd
  dsimp only
  split <;> exact hcode

theorem keyCmdDone_storesNothing : StoresNothing .keyCmdDone :=
  MemKept.storesNothing fun s => by
    show MemKept s (execKeyCmdDone s)
    unfold execKeyCmdDone
    split
    · exact memKept_idle s
    · exact memKept_ite (memKept_next (s.keyEnd_mem ..)) (memKept_idle s)

theorem keyZeroise_storesNothing (req : Req) : StoresNothing (.keyZeroise req) :=
  MemKept.storesNothing fun s => memKept_next (s.onField_mem req _ State.eraseAll_mem)

theorem keyRemask_storesNothing : StoresNothing .keyRemask :=
  MemKept.storesNothing fun s => fun t h => (maskingLeavesEveryKeyAsItWas s t h).1

/-- Settles O27: the key commands are writes of one command word, whose operations change slots and registers alone. -/
theorem keyCommandsReachNoMemory : Obligations.KeyCommandsReachNoMemory := by
  unfold Obligations.KeyCommandsReachNoMemory
  have hword : ∀ (c : Instr) (req : Req) (w : Nat), (∀ s, exec c s = .next (s.keyWrite req w)) → StoresNothing c := fun c req w h =>
    MemKept.storesNothing fun s => h s ▸ s.keyWrite_memKept req w
  exact ⟨fun req target source kind len => ⟨hword _ _ _ fun _ => rfl, hword _ _ _ fun _ => rfl, hword _ _ _ fun _ => rfl, hword _ _ _ fun _ => rfl,
    hword _ _ _ fun _ => rfl, hword _ _ _ fun _ => rfl, hword _ _ _ fun _ => rfl⟩, keyZeroise_storesNothing, keyCmdDone_storesNothing,
    keyRemask_storesNothing⟩

end Sys2Proof.Machine
end

section
/-! SUPPORT. Counter mode (R403): its key stream has a block's length under an AES key, and xor with it undoes itself. -/

namespace Sys2Proof.Machine

/-! ## The key schedule: as many round keys as rounds need, each of 16 bytes -/

/-- A list of words of four bytes each. -/
def FourEach (w : List (List Nat)) : Prop := ∀ x ∈ w, x.length = 4

theorem FourEach.append {a b : List (List Nat)} (ha : FourEach a) (hb : FourEach b) : FourEach (a ++ b) :=
  fun x hx => (List.mem_append.mp hx).elim (ha x) (hb x)

theorem FourEach.getD_length {w : List (List Nat)} (h : FourEach w) {i : Nat} (hi : i < w.length) : (w.getD i []).length = 4 := by
  rw [List.getD_eq_getElem _ _ hi]
  exact h _ (List.getElem_mem hi)

theorem FourEach.flatten_length {w : List (List Nat)} (h : FourEach w) : w.flatten.length = 4 * w.length := by
  rw [List.length_flatten, List.map_congr_left h, List.map_const', List.sum_replicate, smul_eq_mul, Nat.mul_comm]

/-- Words of four bytes are appended one by one, each from those before it. -/
theorem foldl_snoc_words {f : List (List Nat) → Nat → List Nat} {nk : Nat}
    (hf : ∀ acc : List (List Nat), acc.length < nk → FourEach acc → (f acc acc.length).length = 4) {n : Nat} (hn : n ≤ nk) :
    ((List.range n).foldl (fun acc i => acc ++ [f acc i]) []).length = n ∧ FourEach ((List.range n).foldl (fun acc i => acc ++ [f acc i]) []) := by
  induction n with
  | zero => exact ⟨rfl, fun x hx => absurd hx List.not_mem_nil⟩
  | succ n ih =>
    obtain ⟨hlen, hacc⟩ := ih (by omega)
    have hnew := hf _ (by omega) hacc
    rw [hlen] at hnew
    rw [List.range_succ, List.foldl_append, List.foldl_cons, List.foldl_nil]
    refine ⟨by rw [List.length_append, hlen, List.length_singleton], hacc.append fun x hx => ?_⟩
    rw [List.mem_singleton.mp hx, hnew]

/-- A step of the schedule makes `nk` words of `nk`. -/
theorem keyStep_words {nk : Nat} {w : List (List Nat)} (hlen : w.length = nk) (hw : FourEach w) (rcon : Nat) :
    (keyStep nk w rcon).length = nk ∧ FourEach (keyStep nk w rcon) := by
  refine foldl_snoc_words (nk := nk) (fun acc hacc hfour => ?_) le_rfl
  rw [List.length_zipWith, hw.getD_length (hlen ▸ hacc)]
  split
  · rfl
  · split
    next h => rw [List.length_map, hfour.getD_length (by omega)]; rfl
    · rw [hfour.getD_length (by omega)]; rfl

/-- The schedule of `n` steps has `nk` words for the key and for each step. -/
theorem keyWords_words {nk : Nat} (n rcon : Nat) {w : List (List Nat)} (hlen : w.length = nk) (hw : FourEach w) :
    (keyWords n nk rcon w).length = (n + 1) * nk ∧ FourEach (keyWords n nk rcon w) := by
  induction n generalizing rcon w with
  | zero => exact ⟨by rw [keyWords, hlen, Nat.zero_add, Nat.one_mul], hw⟩
  | succ n ih =>
    obtain ⟨hstep, hfour⟩ := keyStep_words hlen hw rcon
    obtain ⟨hrest, hwords⟩ := ih (xtime rcon) hstep hfour
    exact ⟨by rw [keyWords, List.length_append, hlen, hrest, Nat.add_one_mul (n + 1), Nat.add_comm], hw.append hwords⟩

/-- The words of a key of 4 `nk` bytes. -/
theorem keyWords_of_key {k : List Nat} {nk : Nat} (hk : k.length = 4 * nk) :
    ((List.range nk).map (fun i => (k.drop (4 * i)).take 4)).length = nk ∧ FourEach ((List.range nk).map (fun i => (k.drop (4 * i)).take 4)) := by
  refine ⟨by rw [List.length_map, List.length_range], fun x hx => ?_⟩
  obtain ⟨i, hi, rfl⟩ := List.mem_map.mp hx
  have hlt := List.mem_range.mp hi
  rw [List.length_take, List.length_drop]
  omega

/-- A key of 16 or 32 bytes has round keys, of 16 bytes each. -/
theorem aesKeys_rounds {key : Bytes} (h : key.length = 16 ∨ key.length = 32) :
    1 < (aesKeys key).length ∧ ∀ k ∈ aesKeys key, k.length = 16 := by
  have hmap : (key.map BitVec.toNat).length = key.length := List.length_map ..
  obtain ⟨hlen, hfour⟩ := keyWords_of_key (k := key.map BitVec.toNat) (nk := (key.map BitVec.toNat).length / 4) (by omega)
  obtain ⟨hcount, hwords⟩ := keyWords_words (if (key.map BitVec.toNat).length / 4 = 8 then 7 else 10) 1 hlen hfour
  unfold aesKeys
  dsimp only
  refine ⟨by rw [List.length_map, List.length_range]; omega, fun x hx => ?_⟩
  obtain ⟨r, hr, rfl⟩ := List.mem_map.mp hx
  have hround := List.mem_range.mp hr
  rw [FourEach.flatten_length fun x hx => hwords x (List.mem_of_mem_drop (List.mem_of_mem_take hx)), List.length_take, List.length_drop, hcount]
  rcases h with h | h <;> simp only [hmap, h] at hround ⊢ <;> norm_num at hround ⊢ <;> omega

/-! ## The block cipher gives a block of 16 bytes -/

theorem aesEncRounds_length {ks : List (List Nat)} (hks : ks ≠ []) (h : ∀ k ∈ ks, k.length = 16) (s : List Nat) :
    (aesEncRounds s ks).length = 16 := by
  induction ks generalizing s with
  | nil => exact absurd rfl hks
  | cons k r ih =>
    cases r with
    | nil => rw [aesEncRounds, xorN, List.length_zipWith, shiftRows, List.length_map, List.length_range, h k (List.mem_singleton_self k)]; rfl
    | cons k2 r => exact ih (List.cons_ne_nil _ _) (fun x hx => h x (List.mem_cons_of_mem _ hx)) _

theorem aesEncK_length {ks : List (List Nat)} (hrounds : 1 < ks.length) (h : ∀ k ∈ ks, k.length = 16) (b : Bytes) : (aesEncK ks b).length = 16 := by
  match ks with
  | [] => exact absurd hrounds (by decide)
  | [_] => exact absurd hrounds (Nat.lt_irrefl 1)
  | k :: k2 :: r =>
    rw [aesEncK, List.length_map]
    exact aesEncRounds_length (List.cons_ne_nil _ _) (fun x hx => h x (List.mem_cons_of_mem _ hx)) _

/-! ## Counter mode -/

/-- The xor with a string that is long enough undoes itself. -/
theorem xorB_xorB_cancel {a b : Bytes} (h : a.length ≤ b.length) : xorB (xorB a b) b = a := by
  refine List.ext_getElem (by simp only [xorB, List.length_zipWith]; omega) fun i _ _ => ?_
  simp only [xorB, List.getElem_zipWith, BitVec.xor_assoc, BitVec.xor_self, BitVec.xor_zero]

/-- A string cut after 16 bytes: of a first piece and a second one, where none follows a short first one. -/
theorem take_drop_block {x y : Bytes} (h : x.length = 16 ∨ x.length ≤ 16 ∧ y = []) : (x ++ y).take 16 = x ∧ (x ++ y).drop 16 = y := by
  rcases h with h | ⟨h, rfl⟩
  · exact ⟨List.take_left' h, List.drop_left' h⟩
  · rw [List.append_nil]
    exact ⟨List.take_of_length_le h, List.drop_of_length_le h⟩

theorem ctrBlocks_length {ks : List (List Nat)} (hks : ∀ b, (aesEncK ks b).length = 16) (n : Nat) (c d : Bytes) (hd : d.length ≤ 16 * n) :
    (ctrBlocks n ks c d).length = d.length := by
  induction n generalizing c d with
  | zero => rw [ctrBlocks, List.length_nil]; omega
  | succ n ih =>
    rw [ctrBlocks, List.length_append, ih _ _ (by rw [List.length_drop]; omega), xorB, List.length_zipWith, hks, List.length_take, List.length_drop]
    omega

/-- Counter mode of as many blocks as the string has undoes itself. -/
theorem ctrBlocks_ctrBlocks {ks : List (List Nat)} (hks : ∀ b, (aesEncK ks b).length = 16) (n : Nat) (c d : Bytes) (hd : d.length ≤ 16 * n) :
    ctrBlocks n ks c (ctrBlocks n ks c d) = d := by
  induction n generalizing c d with
  | zero => rw [ctrBlocks, List.eq_nil_of_length_eq_zero (by omega : d.length = 0)]
  | succ n ih =>
    have hrest : (d.drop 16).length ≤ 16 * n := by rw [List.length_drop]; omega
    have hblock : (xorB (d.take 16) (aesEncK ks c)).length = min 16 d.length := by
      rw [xorB, List.length_zipWith, hks, List.length_take]
      omega
    have htail : (ctrBlocks n ks (inc32 c) (d.drop 16)).length = d.length - 16 := by rw [ctrBlocks_length hks n _ _ hrest, List.length_drop]
    obtain ⟨htake, hdrop⟩ := take_drop_block (x := xorB (d.take 16) (aesEncK ks c)) (y := ctrBlocks n ks (inc32 c) (d.drop 16)) (by
      rcases Nat.le_total 16 d.length with h | h
      · exact .inl (by omega)
      · exact .inr ⟨by omega, List.eq_nil_of_length_eq_zero (by omega)⟩)
    rw [ctrBlocks, ctrBlocks, htake, hdrop, ih _ _ hrest, xorB_xorB_cancel (by rw [hks, List.length_take]; omega), List.take_append_drop]

/-- Settles O25: the key stream does not depend on the string, and the xor with it undoes itself block by block. -/
theorem counterModeUndoesItself : Obligations.CounterModeUndoesItself := by
  unfold Obligations.CounterModeUndoesItself
  intro key c d hkey _
  obtain ⟨hrounds, hlen⟩ := aesKeys_rounds hkey
  have hks := aesEncK_length hrounds hlen
  have hfits : d.length ≤ 16 * ((d.length + 15) / 16) := by omega
  rw [aesCtr, aesCtr, ctrBlocks_length hks _ _ _ hfits]
  exact ctrBlocks_ctrBlocks hks _ _ _ hfits

end Sys2Proof.Machine
end

section
/-! SUPPORT. Records of the twin (R309, R312 to R317, R325 to R330): what arrives on the link, and what each record does. -/

namespace Sys2Proof.Machine

/-! ## Order records (R312, R316, R330) -/

theorem State.crossings_twin (s : State) (q : Nat) (old new : Bool × Bool) : (s.crossings q old new).twin = s.twin := by
  unfold State.crossings
  split_ifs <;> rfl

/-- A queue takes an item without touching the twin block. -/
theorem State.enq_twin (s : State) (q : Nat) (i : Item) : (s.enq q i).twin = s.twin := by
  unfold State.enq State.setQueue
  exact State.crossings_twin ..

/-- R309: an order record for which there is room is acknowledged; a syncing twin keeps it, a standby stores it and goes on. -/
theorem State.onOrder_heard {s : State} (hlink : Linked s) (hroom : s.roomFor = true) (r : Rec) (parity : Nat) :
    s.onOrder r parity = .next (State.settle
      (if (heardRecord s).twinRole = 2 ∧ (heardRecord s).twin.sync.isSome = true
        then { heardRecord s with twin := { (heardRecord s).twin with caught := (heardRecord s).twin.caught ++ [r] } }
        else if (heardRecord s).twinRole = 3 then ((heardRecord s).storeIn r parity).drainIn else heardRecord s) (s.heardOn 0 true).degCause) := by
  rw [State.onOrder, if_neg (by simp [hroom]), State.onRecord_linked hlink]
  rfl

/-- R309: an order record without room is not acknowledged. -/
theorem State.onOrder_full {s : State} (hlink : Linked s) (hroom : s.roomFor = false) (r : Rec) (parity : Nat) :
    s.onOrder r parity = .next (State.settle (s.heardOn 0 true) (s.heardOn 0 true).degCause) := by
  rw [State.onOrder, if_pos (by simp [hroom]), State.onLink_linked hlink]
  rfl

/-- R330: a syncing twin keeps an order record for later. -/
theorem State.onOrder_keeps {s g : State} (hlink : Linked s) (hroom : s.roomFor = true) (hg : g = heardRecord s) (hrole : g.twinRole = 2)
    (hsync : g.twin.sync.isSome = true) (r : Rec) (parity : Nat) :
    s.onOrder r parity =
      .next (({ g with twin := { g.twin with caught := g.twin.caught ++ [r] } } : State).settle (s.heardOn 0 true).degCause) := by
  subst hg
  rw [State.onOrder_heard hlink hroom, if_pos ⟨hrole, hsync⟩]

/-- R316: with no record lost, a record enters its queue behind those that wait. -/
theorem State.storeIn_complete {s : State} (h : s.twin.missing = []) (r : Rec) (parity : Nat) :
    s.storeIn r parity = s.enq 0x181 { body := .record r, poison := parity } := by
  unfold State.storeIn
  cases r.brings <;> simp [h]

/-- R316: with no record lost, none waits. -/
theorem State.waitsFor_complete {s : State} (h : s.twin.missing = []) (r : Rec) : s.waitsFor r = false := by
  unfold State.waitsFor
  split
  · simp [h]
  · cases r.brings <;> simp [h]

/-- R312: the record at the front of the queue is taken, where none is lost. -/
theorem State.drainIn_takes {s u : State} {r : Rec} (hmissing : s.twin.missing = []) (hfront : (s.queue 0x181).items.head? = some ⟨.record r, 0⟩)
    (htaken : (s.popped 0x181).takeRecord r = some u) : s.drainIn = u := by
  simp only [State.drainIn, hfront, State.deq_popped hfront, State.waitsFor_complete hmissing, htaken, ne_eq, not_true_eq_false,
    Bool.false_eq_true, if_false]

/-- R316: a poisoned record at the front of the queue is lost. -/
theorem State.drainIn_loses {s t : State} {r : Rec} {n : Nat} {i : Item} (hi : i = ⟨.record r, n⟩) (hbad : n ≠ 0)
    (hfront : (s.queue 0x181).items.head? = some i) (hdeq : s.deq 0x181 = some (i, t)) : s.drainIn = t.loseRecord r := by
  subst hi
  simp only [State.drainIn, hfront, hdeq, ne_eq, hbad, not_false_eq_true, if_true]

/-- R312, R316: a standby that waits for no record puts one behind those in its queue, and goes on with the front. -/
theorem State.onOrder_stores {s g : State} (hlink : Linked s) (hroom : s.roomFor = true) (hg : g = heardRecord s) (hrole : g.twinRole = 3)
    (hgap : g.twin.missing = []) (r : Rec) (parity : Nat) :
    s.onOrder r parity = .next (State.settle (g.enq 0x181 { body := .record r, poison := parity }).drainIn (s.heardOn 0 true).degCause) := by
  rw [State.onOrder_heard hlink hroom, ← hg, if_neg (by simp [hrole]), if_pos hrole, State.storeIn_complete hgap]

/-- R312, R316: a standby that waits for no record takes one at once. -/
theorem State.onOrder_takes {s q u : State} {r : Rec} (h : RecTakes s r q u) : s.onOrder r = .next (u.settle (s.heardOn 0 true).degCause) := by
  obtain ⟨hlink, hroom, hrole, hgap, hq, hfront, htaken⟩ := h
  have hmissing : q.twin.missing = [] := by rw [hq, State.enq_twin, hgap]
  rw [State.onOrder_stores hlink hroom rfl hrole hgap, ← hq, State.drainIn_takes hmissing hfront htaken]

/-- R316: a standby that waits for no record loses one whose words fail their check. -/
theorem State.onOrder_loses {s g q t : State} {r : Rec} {parity : Nat} {i : Item} (hlink : Linked s) (hroom : s.roomFor = true)
    (hg : g = heardRecord s) (hrole : g.twinRole = 3) (hgap : g.twin.missing = []) (hbad : parity ≠ 0) (hi : i = ⟨.record r, parity⟩)
    (hq : q = g.enq 0x181 i) (hfront : (q.queue 0x181).items.head? = some i) (hdeq : q.deq 0x181 = some (i, t)) :
    s.onOrder r parity = .next (State.settle (t.loseRecord r) (s.heardOn 0 true).degCause) := by
  rw [State.onOrder_stores hlink hroom hg hrole hgap, ← hi, ← hq, State.drainIn_loses hi hbad hfront hdeq]

/-! ## Other records -/

/-- R309: a record from the partner is acknowledged, and then has its effect. -/
theorem State.onRecord_acts {s h g t : State} {k : State → State} (hlink : Linked s) (hh : h = s.heardOn 0 true) (hg : g = h.ackLink) (hk : k g = t) :
    s.onRecord k = .next (t.settle h.degCause) := by
  subst hh hg hk
  exact State.onRecord_linked hlink k

/-- R309: what carries no record is not acknowledged itself. -/
theorem State.onLink_acts {s h t : State} {k : State → State} (hlink : Linked s) (hh : h = s.heardOn 0 true) (hk : k h = t) :
    s.onLink k = .next (t.settle h.degCause) := by
  subst hh hk
  exact State.onLink_linked hlink k

/-- R316: the record of a frame in flight. -/
theorem State.recordAgain_frame {s : State} {n : Nat} {fl : Flight} {f : Frame} (hflight : s.flight n = some fl) (hframe : fl.body = .frame f) :
    s.recordAgain n = some (.frame (s.frameRecord n f)) := by
  simp only [State.recordAgain, hflight, hframe]

/-- R316: a record asked for again goes out where the order queue has room. -/
theorem execTwinResendReqRx_feeds {s h g : State} {order : BitVec 48} {r : Rec} (hlink : Linked s) (hh : h = s.heardOn 0 true) (hg : g = h.ackLink)
    (hagain : g.recordAgain order.toNat = some r) (hcredit : g.feedCredit = true) :
    execTwinResendReqRx order s = .next ((g.feed r).settle h.degCause) := by
  unfold execTwinResendReqRx
  refine State.onRecord_acts hlink hh hg ?_
  simp only [hagain, hcredit, if_true]

/-- Settles O46: an order record is taken, kept or lost as the twin's role has it; each other record is the branch that its conditions select. -/
theorem twinRecordCommandsComplete : Obligations.TwinRecordCommandsComplete := by
  unfold Obligations.TwinRecordCommandsComplete
  refine ⟨?frame, ?frameKept, ?frameLost, ?frameFull, ?table, ?tableKept, ?balance, ?balanceKept, ?token, ?tokenKept, ?bal, ?balKept, ?demand,
    ?demandKept, ?close, ?closeKept, ?ckpt, ?ckptKept, ?txn, ?txnKept, ?join, ?joinKept, ?discard, ?discardKept, ?group, ?groupKept, ?durable,
    ?handover, ?digest, ?forwardPlc, ?forwardRadio, ?forwardToken, ?resendFrame, ?resendRecord, ?syncActive, ?syncing, ?syncData, ?linkAck⟩
  case frame | table | balance | token | bal | demand | close | ckpt | txn | join | discard | group =>
    intros
    exact State.onOrder_takes ‹_›
  case frameKept | tableKept | balanceKept | tokenKept | balKept | demandKept | closeKept | ckptKept | txnKept | joinKept | discardKept | groupKept =>
    intro s g
    intros
    exact State.onOrder_keeps (g := g) ‹_› ‹_› ‹_› ‹_› ‹_› _ _
  case frameLost =>
    exact fun s g q t b parity i hlink hroom hg hrole hgap _ hbad hi hq hfront hdeq =>
      State.onOrder_loses hlink hroom hg hrole hgap hbad hi hq hfront hdeq
  case frameFull =>
    exact fun s b parity hlink hroom => State.onOrder_full hlink hroom _ _
  case durable =>
    intro s h g q hlink hh hg hrole
    show execTwinDurableRx q s = _
    unfold execTwinDurableRx
    exact State.onRecord_acts hlink hh hg (if_pos hrole)
  case handover =>
    intro s h g x bounds hlink hh hg hrole
    show execTwinHandoverRx x bounds s = _
    unfold execTwinHandoverRx
    exact State.onRecord_acts hlink hh hg (if_pos hrole)
  case digest =>
    intro s h g stream index digest hlink hh hg
    show execTwinDigestRx stream index digest s = _
    unfold execTwinDigestRx
    have hnow : g.tb1 = h.tb1 := by
      rw [hg]
      rfl
    exact State.onRecord_acts hlink hh hg (by rw [hnow])
  case forwardPlc =>
    intro s h g port link q frame hlink hh hg hrole hplc
    show execTwinForwardRx port link q frame s = _
    unfold execTwinForwardRx
    exact State.onRecord_acts hlink hh hg ((if_neg (not_not.mpr hrole)).trans (if_pos hplc))
  case forwardRadio =>
    intro s h g port link q frame hlink hh hg hrole hplc hradio
    show execTwinForwardRx port link q frame s = _
    unfold execTwinForwardRx
    exact State.onRecord_acts hlink hh hg ((if_neg (not_not.mpr hrole)).trans ((if_neg (Nat.not_lt.mpr hplc)).trans (if_pos hradio)))
  case forwardToken =>
    intro s h g link q frame hlink hh hg hrole henable hcredit
    show execTwinForwardRx 15 link q frame s = _
    unfold execTwinForwardRx
    refine State.onRecord_acts hlink hh hg ((if_neg (not_not.mpr hrole)).trans ?_)
    exact (if_neg (by decide)).trans ((if_neg (by decide)).trans (if_pos ⟨rfl, henable, hcredit⟩))
  case resendFrame =>
    exact fun s h g order fl f hlink hh hg hflight hframe hcredit =>
      execTwinResendReqRx_feeds hlink hh hg (State.recordAgain_frame hflight hframe) hcredit
  case resendRecord =>
    exact fun s h g order r hlink hh hg hagain hcredit => execTwinResendReqRx_feeds hlink hh hg hagain hcredit
  case syncActive =>
    intro s h g order m hlink hh hg hrole hpeer hsync hm
    show execTwinSyncStart order s = _
    unfold execTwinSyncStart
    rw [hm]
    exact State.onRecord_acts hlink hh hg (if_pos ⟨hrole, hpeer, by rw [hsync]; rfl⟩)
  case syncing =>
    intro s h g order m hlink hh hg hrole hsync hretry hm
    show execTwinSyncStart order s = _
    unfold execTwinSyncStart
    rw [hm]
    exact State.onRecord_acts hlink hh hg ((if_neg (by simp [hrole])).trans (if_pos ⟨hrole, by rw [hsync]; rfl, by rw [hretry]; rfl⟩))
  case syncData =>
    intro s h g unit n hlink hh hg hsync hrole hcopy
    show execTwinSyncDataRx unit true s = _
    unfold execTwinSyncDataRx
    refine State.onRecord_acts hlink hh hg ?_
    simp only [hsync, hrole, hcopy, ne_eq, not_true_eq_false, Bool.false_eq_true, or_self, if_false, if_true]
  case linkAck =>
    intro s h link applied parity past u hlink hh hpast hu hrole
    show execTongsLinkAck link applied parity s = _
    unfold execTongsLinkAck
    subst hpast hu
    exact State.onLink_acts hlink hh (if_pos hrole)

end Sys2Proof.Machine
end

section
/-! SUPPORT. Seeking, disputes, leases and notices of the twin (R305 to R308, R321 to R324, R326, R327): what each command answers. -/

namespace Sys2Proof.Machine

/-- R321, R407: what comes with a lease frame or a notice is looked at in a twin that holds the pair key, where it is authentic. -/
theorem twin_takes_authentic {s : State} (henable : s.flag Reg.TWIN_CTRL_ENABLE = true) (hrole : s.twinRole ≠ 0) (hkey : s.pairKey.isSome = true) :
    ¬((!s.flag Reg.TWIN_CTRL_ENABLE) = true ∨ s.twinRole = 0 ∨ (!true) = true ∨ s.pairKey.isNone = true) := by
  rw [henable, ← Option.not_isSome, hkey]
  simp [hrole]

section
variable {s h : State} {path : Fin 3} {c : BitVec 64} {fromStandby : Bool} {a : Nat × Nat} (henable : s.flag Reg.TWIN_CTRL_ENABLE = true)
  (hrole : s.twinRole ≠ 0) (hkey : s.pairKey.isSome = true) (hh : h = s.heardOn path.val true)
  (hasked : h.twin.asked.find? (fun x => x.1 == c.toNat) = some a) (hnew : h.twin.taken < c.toNat)
include henable hrole hkey hh hasked hnew

/-- R321: a grant that answers a request and is new prolongs the lease of a paired active. -/
theorem execTwinLeaseGrantRx_paired (hpaired : h.paired = true) :
    execTwinLeaseGrantRx path c fromStandby true s =
      .next { h with twin := { h.twin with taken := c.toNat, leaseEnd := a.2 + 10000000 } } := by
  rw [execTwinLeaseGrantRx, if_neg (twin_takes_authentic henable hrole hkey)]
  simp only [← hh, hasked, Nat.not_le.mpr hnew, hpaired, if_true, if_false]

/-- R322: a fenced twin returns on a grant of a standby whose lease still runs. -/
theorem execTwinLeaseGrantRx_fenced {t : State} (hpaired : h.paired = false) (hfenced : h.twinRole = 6) (hlasts : h.tb1 < a.2 + 10000000)
    (ht : t = State.settle ((h.twinTo 4).setPaired true) h.degCause) :
    execTwinLeaseGrantRx path c true true s = .next { t with twin := { t.twin with taken := c.toNat, leaseEnd := a.2 + 10000000 } } := by
  rw [execTwinLeaseGrantRx, if_neg (twin_takes_authentic henable hrole hkey), ht]
  simp only [← hh, hasked, Nat.not_le.mpr hnew, hpaired, hfenced, hlasts, State.settling, Bool.false_eq_true, and_self, if_true, if_false]

end

/-- Settles O47: each condition is the guard of the branch that the command takes. -/
theorem twinLeaseCommandsComplete : Obligations.TwinLeaseCommandsComplete := by
  unfold Obligations.TwinLeaseCommandsComplete
  refine ⟨?enable, ?headEnd, ?disable, ?seek, ?hello, ?passed, ?failed, ?missing, ?renew, ?request, ?granted, ?returns, ?expiry, ?fencedNotice,
    ?noticeFenced, ?noticeDesynced, ?noticeDrop, ?acquire, ?loss⟩
  case enable =>
    exact fun s req hok hrole => congrArg Host.Outcome.next ((State.onT_accepted hok ..).trans (if_neg hrole))
  case headEnd =>
    exact fun s req hok hrole => congrArg Host.Outcome.next ((State.onT_accepted hok ..).trans (if_pos hrole))
  case disable =>
    exact fun s req hok => congrArg Host.Outcome.next (State.onT_accepted hok ..)
  case seek =>
    exact fun s hrole hsolo hdue hsilent => if_pos ⟨hrole, hsolo, hdue, hsilent⟩
  case hello =>
    intro s ident durable prefer role hlink hident
    show execTwinHello ident durable prefer role s = _
    rw [execTwinHello, if_neg (by simp [hlink.1, hlink.2.1]), if_neg (not_not.mpr hident)]
    exact State.onLink_linked hlink _
  case passed | failed =>
    intro s hdue hrole
    refine (if_neg (by rw [hdue]; exact Bool.false_ne_true)).trans (congrArg Host.Outcome.next ?_)
    exact congrArg (State.settle · _) (if_pos hrole)
  case missing =>
    rintro s late rfl hsome
    exact if_neg hsome
  case renew =>
    intro s hpaired hnone hstop
    show execTwinLeaseRenew s = _
    simp only [execTwinLeaseRenew, hpaired, hnone, hstop, Option.isNone_none, Bool.and_self, if_true, List.take]
  case request =>
    intro s path c h henable hrole hkey hh hstandby hnew
    show execTwinLeaseReqRx path c true s = _
    rw [execTwinLeaseReqRx, if_neg (twin_takes_authentic henable hrole hkey), ← hh]
    exact if_pos ⟨hstandby, hnew⟩
  case granted =>
    exact fun s path c f h a henable hrole hkey hh hasked hnew hpaired =>
      execTwinLeaseGrantRx_paired henable hrole hkey hh hasked hnew hpaired
  case returns =>
    exact fun s path c h t a henable hrole hkey hh hasked hnew hpaired hfenced hlasts ht =>
      execTwinLeaseGrantRx_fenced henable hrole hkey hh hasked hnew hpaired hfenced hlasts ht
  case expiry =>
    exact fun s hpaired hdue => if_pos ⟨hpaired, hdue⟩
  case fencedNotice =>
    exact fun s hrole hdue => if_pos ⟨hrole, hdue⟩
  case noticeFenced =>
    exact fun s path henable hrole hkey => if_neg (twin_takes_authentic henable hrole hkey)
  case noticeDesynced =>
    intro s t path henable hrole hkey ht hpaired
    show execTwinNoticeRx path .desynced true s = _
    rw [execTwinNoticeRx, if_neg (twin_takes_authentic henable hrole hkey)]
    dsimp only
    rw [← ht, hpaired]
    rfl
  case noticeDrop =>
    intro s t path henable hrole hkey ht hstandby
    show execTwinNoticeRx path .drop true s = _
    rw [execTwinNoticeRx, if_neg (twin_takes_authentic henable hrole hkey)]
    dsimp only
    rw [← ht]
    exact if_pos hstandby
  case acquire =>
    rintro s t hrole hgrant hquiet rfl
    exact if_pos ⟨hrole, hgrant, hquiet⟩
  case loss =>
    exact fun s hrole hpath hdue => if_pos ⟨hrole, hpath, hdue⟩

end Sys2Proof.Machine
end

section
/-! SUPPORT. Role changes, paths, synchronisation, meetings and the lanes of the link (R306, R309, R322, R325, R327, R330, R332, R407): what each command answers. -/

namespace Sys2Proof.Machine

/-- R330: the active whose copy has gone forms the pair again. -/
theorem execTwinSyncComplete_active {s t u : State} {n : Nat} (hrole : s.twinRole = 4) (hsync : s.twin.sync = some n) (hdue : s.twin.snapDue = false)
    (hsent : s.twin.snap = [])
    (hu : u = s.set2 Reg.TWIN_APPLIED_LO_ORDER Reg.TWIN_APPLIED_HI_ORDER
      (max (s.get2 Reg.TWIN_APPLIED_LO_ORDER Reg.TWIN_APPLIED_HI_ORDER) (n - 1)))
    (ht : t = { u with twin := { u.twin with sync := none } }) :
    execTwinSyncComplete s = .next (State.settle ((t.setPaired true).setF Reg.TWIN_STAT_PEER_ROLE 3) s.degCause) := by
  have hactive : s.twinRole = 4 ∧ s.twin.sync.isSome = true ∧ (!s.twin.snapDue) = true ∧ s.twin.snap.isEmpty = true := by
    simp [hrole, hsync, hdue, hsent]
  rw [execTwinSyncComplete, if_neg (by simp [hrole]), if_pos hactive, ht, hu]
  simp only [hsync, Option.elim, State.settling]

/-- R407: an authentic key offer of the partner to a twin that has made its own: the pair key is agreed. -/
theorem execTwinKeyOfferRx_agrees {s h : State} {path : Fin 3} {pub nonce : Bytes} {ident : BitVec 45} {durable : BitVec 48} {prefer : Bool}
    {role : BitVec 3} (henable : s.flag Reg.TWIN_CTRL_ENABLE = true) (hrole : s.twinRole ≠ 0) (hident : ident.toNat = s.partnerIdent)
    (hmeeting : s.twin.meeting.isEmpty = false) (hh : h = (s.takePairKey (s.agreedKey pub nonce ident.toNat)).heardOn path.val true) :
    execTwinKeyOfferRx path pub nonce ident durable prefer role true s =
      .next (State.settle (h.takeHello ident.toNat durable.toNat prefer role.toNat) h.degCause) := by
  rw [execTwinKeyOfferRx, if_neg (by simp [henable, hrole]), if_neg (by simp [hident])]
  simp only [hmeeting, Bool.false_eq_true, if_false, ← hh, State.settling]

/-- R309: an idle direction sends a keep-alive. -/
theorem execTongsKeepalive_sends {s : State} {key : Bytes} (hkey : s.pairKey = some key) (hidle : s.twin.sentAt + 100000 ≤ s.tb1)
    (hup : s.tongsUp = true) (hqueue : (s.queue 0x180).items = []) (hwindow : s.twin.window = []) :
    execTongsKeepalive false s = .next { s.sendLink key [] 0 with twin := { (s.sendLink key [] 0).twin with window := [] } } := by
  rw [execTongsKeepalive, hkey]
  refine (if_neg Bool.false_ne_true).trans (if_pos ⟨hidle, hup, ?_, ?_⟩)
  · rw [hqueue, List.isEmpty_nil]
  · rw [hwindow, List.isEmpty_nil]

/-- R309: a keep-alive of the partner is heard. -/
theorem execTongsKeepalive_heard {s h : State} {key : Bytes} (hkey : s.pairKey = some key) (henable : s.flag Reg.TWIN_CTRL_ENABLE = true)
    (hrole : s.twinRole ≠ 0) (hup : s.tongsUp = true) (hh : h = s.heardOn 0 false) :
    execTongsKeepalive true s = .next (State.settle ({ h with twin := { h.twin with rxSeq := h.twin.rxSeq + 1 } } : State) s.degCause) := by
  rw [execTongsKeepalive, hkey, hh]
  exact congrArg (fun t => Host.Outcome.next (State.settle t s.degCause)) (if_pos ⟨henable, hrole, hup⟩)

/-- Settles O48: each condition is the guard of the branch that the command takes. -/
theorem twinRoleCommandsComplete : Obligations.TwinRoleCommandsComplete := by
  unfold Obligations.TwinRoleCommandsComplete
  refine ⟨?swap, ?dissolveAlone, ?dissolveActive, ?keep, ?stepDown, ?drop, ?fence, ?pathDown, ?syncStandby, ?syncActive, ?abort, ?retry, ?offer,
    ?meeting, ?retransmit, ?keepaliveSent, ?keepaliveHeard, ?lane⟩
  case swap =>
    intro s req hok hpaired hnone
    refine congrArg Host.Outcome.next ((State.onField_accepted hok _).trans ?_)
    rw [hpaired, State.answer_twin, hnone]
    rfl
  case dissolveAlone =>
    exact fun s req hok hrole => congrArg Host.Outcome.next ((State.onField_accepted hok _).trans (congrArg (State.settle · _) (if_pos hrole)))
  case dissolveActive =>
    intro s req hok hrole
    refine congrArg Host.Outcome.next ((State.onField_accepted hok _).trans (congrArg (State.settle · _) ?_))
    exact (if_neg (by simp [hrole])).trans (if_pos hrole)
  case keep | stepDown | drop =>
    exact fun s req hok hrole => congrArg Host.Outcome.next ((State.onField_accepted hok _).trans (congrArg (State.settle · _) (if_pos hrole)))
  case fence =>
    exact fun s req b hok => congrArg Host.Outcome.next (State.onT_accepted hok ..)
  case pathDown =>
    exact fun s path hup hdue => if_pos ⟨hup, hdue⟩
  case syncStandby =>
    exact fun s hrole hcopy hfew => if_pos ⟨hrole, hcopy, hfew⟩
  case syncActive =>
    exact fun s t u n hrole hsync hdue hsent hu ht => execTwinSyncComplete_active hrole hsync hdue hsent hu ht
  case abort =>
    exact fun s hrole hretry hbad => if_pos ⟨hrole, by rw [hretry]; rfl, hbad⟩
  case retry =>
    intro s t hretry hrole hdue
    show execTwinSyncRetry s = _
    rw [execTwinSyncRetry, hretry]
    exact if_pos ⟨hrole, hdue⟩
  case offer =>
    exact fun s path pub nonce ident durable prefer role h henable hrole hident hmeeting hh =>
      execTwinKeyOfferRx_agrees henable hrole hident hmeeting hh
  case meeting =>
    intro s henable hrole hkey hnone
    show execTwinMeeting s = _
    simp only [execTwinMeeting, henable, hrole, hkey, hnone, Bool.not_true, Bool.false_eq_true, or_self, List.isEmpty_nil, if_true, if_false]
  case retransmit =>
    rintro s f r _ hwindow hdue hup rfl
    show execTongsRetransmit s = _
    simp only [execTongsRetransmit, hwindow, hdue, hup, and_self, if_true]
  case keepaliveSent =>
    exact fun s key hkey hidle hup hqueue hwindow => execTongsKeepalive_sends hkey hidle hup hqueue hwindow
  case keepaliveHeard =>
    exact fun s h key hkey henable hrole hup hh => execTongsKeepalive_heard hkey henable hrole hup hh
  case lane =>
    rintro s lane b l rfl
    rfl

end Sys2Proof.Machine
end

section
/-! SUPPORT. The boot reader (R340, R345): a copy whose page is uncorrectable, and what the read of the other copy leaves of its count. -/

namespace Sys2Proof.Machine

/-- R340, R345: where the copy named has an uncorrectable page, the read is counted and the other copy goes to the destination. -/
theorem State.bootRead_otherCopy {s : State} (hfits : s.bootFits = true) (hheader : s.ftl.header.isSome = true) (mode : Nat) :
    s.bootRead mode true false = (s.bootUncorr (s.getF Reg.NAND_BOOT_SRC_COPY)).bootCopy mode (s.bootBytes (1 - s.getF Reg.NAND_BOOT_SRC_COPY)) := by
  have hsome : s.ftl.header.isNone = false := by rw [← Option.not_isSome, hheader, Bool.not_true]
  simp only [State.bootRead, hfits, hsome, Bool.not_true, Bool.false_eq_true, and_false, if_true, if_false]

/-- R345: the plain copy writes memory and its status alone. -/
theorem State.getF_bootCopy (s : State) (b : Bytes) {f : Field} (h : Reg.NAND_BOOT_STAT_STATUS.key ≠ f.key) :
    (s.bootCopy 0 b).getF f = s.getF f :=
  (State.getF_setF_ne _ 0 h).trans (State.getF_write ..)

/-- R344: a NAND of 16 KiB pages whose boot volume 4 has its first page in block 0, with the BOOT registers set to read 512 bytes of it. -/
def oneBootPage : State :=
  let s := ((((((State.reset.setF Reg.CLK_STAT_DOM_RUN 0x1FF).setF Reg.NAND_GEOM_PAGE_KIB 16).setF Reg.NAND_GEOM_LOG2_PPB 8).setF
    Reg.NAND_BOOT_SRC_VOL 4).setF Reg.NAND_BOOT_LEN_BYTES 512).setF Reg.NAND_BOOT_DST_LO_ADDR 0x08000000)
  { s with ftl := { header := some { bootMap := [(4, 0, 0, 0)] }, pages := [(0, some { vol := 4 })] } }

/-- The state in which the boot reader begins. -/
def oneBootRead : State := plainly oneBootPage .trusted Reg.NAND_BOOT_CTRL_GO (2 ^ 31 + 0)

theorem oneBootPage_takes : TakesA oneBootPage .trusted Reg.NAND_BOOT_CTRL_GO (2 ^ 31 + 0) := by decide

theorem oneBootRead_fits : oneBootRead.bootFits = true := by decide

theorem oneBootRead_header : oneBootRead.ftl.header.isSome = true := by decide

theorem oneBootRead_uncounted : oneBootRead.getF Reg.NAND_UNCORR_CNT_CNT = 0 := by decide

theorem oneBootRead_counts : (oneBootRead.bootUncorr (oneBootRead.getF Reg.NAND_BOOT_SRC_COPY)).getF Reg.NAND_UNCORR_CNT_CNT = 1 := by decide

/-- Refutes O49: BOOT_READ_COPY of a copy whose page is uncorrectable also counts that page (R340), which its second clause leaves out. -/
theorem not_nandCommandsComplete : ¬ Obligations.NandCommandsComplete := by
  unfold Obligations.NandCommandsComplete
  rintro ⟨-, -, -, -, -, -, -, -, -, -, -, -, -, hcopy, -⟩
  have hclaim := Host.Outcome.next.inj
    (hcopy oneBootPage oneBootRead .trusted true false oneBootPage_takes rfl oneBootRead_fits oneBootRead_header (.inr rfl))
  have hruns := (State.onAction_accepted oneBootPage_takes (fun s => s.bootRead 0 true false)).trans
    (State.bootRead_otherCopy (s := oneBootRead) oneBootRead_fits oneBootRead_header 0)
  have hcount := congrArg (fun t => t.getF Reg.NAND_UNCORR_CNT_CNT) (hruns.symm.trans hclaim)
  have hkey : Reg.NAND_BOOT_STAT_STATUS.key ≠ Reg.NAND_UNCORR_CNT_CNT.key := by decide
  simp only [State.getF_bootCopy _ _ hkey, oneBootRead_uncounted, oneBootRead_counts] at hcount
  exact absurd hcount one_ne_zero

end Sys2Proof.Machine
end

section
/-! SUPPORT. The commands of the FTL (R343, R352, R354, R358 to R361): what each does with an item that it takes and does not refuse. -/

namespace Sys2Proof.Machine

/-! ## The commands, not refused -/

section
variable {s : State} {b : Bytes}

/-- R354: with good devices and a header, a mount whose checkpoint decodes brings the medium into service. -/
theorem State.mount_mounts {u t : State} (hu : u = s.setF Reg.FTL_CTRL_ENABLE 1) (hunmounted : u.flag Reg.FTL_STAT_MOUNTED = false)
    (ht : t = u.discover u.ftl.found) (hgood : badDie t.ftl.found = none) (hfound : t.ftl.found ≠ []) (hheader : t.ftl.header.isSome = true) :
    s.mount true = t.mountMap := by
  have hready : (t.ftl.found.isEmpty || t.ftl.header.isNone) = false := by
    rw [← Option.not_isSome, hheader, List.isEmpty_eq_false_iff.mpr hfound]
    rfl
  simp only [State.mount, ← hu, hunmounted, ← ht, hgood, hready, Bool.not_true, Bool.false_eq_true, if_false]

theorem State.ftlRead_reads (hfits : s.itemFits b = true) (hdram : s.itemDram b = true) : s.ftlRead b = s.readPages b := by
  simp only [State.ftlRead, hfits, hdram, Bool.not_true, Bool.false_eq_true, if_false]

theorem State.ftlWrite_writes {v : State} (hvol : leAt b 2 1 = 9) (hfits : s.itemFits b = true) (hopen : s.flag Reg.FTL_STAT_READ_ONLY = false)
    (hfree : s.itemDiscarding b = false) (hdram : s.itemDram b = true) (hwritten : s.writeBlks b = some v) : s.ftlWrite b = v := by
  simp only [State.ftlWrite, hvol, hfits, hopen, hfree, hdram, hwritten, ne_eq, not_true_eq_false, Bool.not_true, Bool.false_eq_true, or_self,
    if_false]

theorem State.trimArch_trims (hopen : s.flag Reg.FTL_STAT_READ_ONLY = false) (hfree : s.tailFree = true) :
    s.trimArch b = (s.freeTail.ftlDone b 0 0).nandStart := by
  simp only [State.trimArch, hopen, hfree, Bool.false_eq_true, if_false, if_true]

/-- R359: outside ARCHIVE nothing stands against a discard. -/
theorem State.secureDiscard_discards (hfits : s.itemFits b = true) (hvol : leAt b 2 1 ≠ 2) : s.secureDiscard b = s.discardBlks b := by
  simp only [State.secureDiscard, hfits, hvol, ne_eq, not_false_eq_true, Bool.not_true, Bool.false_eq_true, if_false, if_true]

theorem State.ftlResize_resizes {h : MediumHeader} (hheader : s.ftl.header = some h) (hvol : leAt b 2 1 = 2)
    (hfits : s.resizeShort h (leAt b 4 4) = false) (hopen : s.flag Reg.FTL_STAT_READ_ONLY = false) :
    s.ftlResize b = s.resizeTo h b (leAt b 4 4) := by
  simp only [State.ftlResize, hheader, hvol, hfits, hopen, ne_eq, not_true_eq_false, Bool.false_eq_true, false_and, if_false]

/-- R343: a FORMAT of an unmounted medium whose sizes the devices hold. -/
theorem State.ftlFormat_formats {v : State} (hv : v = s.discover s.ftl.found) (hunmounted : v.flag Reg.FTL_STAT_MOUNTED = false)
    (hlow : 0x0800000000 ≤ leAt b 16 8) (hhigh : leAt b 16 8 + 56 ≤ dramTop + 1) (hgood : badDie v.ftl.found = none)
    (hfits : v.formatFits (s.formatSizes b) = true) : s.ftlFormat b = v.formatTo b (s.formatSizes b) := by
  have hdram : decide (0x0800000000 ≤ leAt b 16 8 ∧ leAt b 16 8 + 56 ≤ dramTop + 1) = true := decide_eq_true ⟨hlow, hhigh⟩
  simp only [State.ftlFormat, ← hv, hunmounted, hdram, hgood, hfits, Option.isSome_none, Bool.not_true, Bool.false_eq_true, or_self, if_false]

theorem State.dieEvacuate_evacuates (hin : s.diesIn.contains (leAt b 4 4) = true)
    (hroom : (s.validBlks (leAt b 4 4)).length + s.getF Reg.FTL_SPARE_LOW_BLOCKS ≤ s.roomBeside (leAt b 4 4)) :
    s.dieEvacuate b = s.evacuateDie b (leAt b 4 4) := by
  simp only [State.dieEvacuate, hin, Nat.not_lt.mpr hroom, Bool.not_true, Bool.false_eq_true, if_false]

theorem State.dieAdd_enters {p : DieParam} (hout : s.diesIn.contains (leAt b 4 4) = false) (hfits : s.dieFits (leAt b 4 4) p = true) :
    State.dieAdd (some p) s b = s.enterDie b (leAt b 4 4) p := by
  simp only [State.dieAdd, hout, Option.filter_some, hfits, Bool.false_eq_true, if_false, if_true]

end

/-! ## Items of the command queue -/

/-- A command whose opcode every one of its clauses names: what it does is what its operation makes of the item taken. -/
theorem State.settle_ftlCommand {s u t v : State} {op : Nat} {sub : Option Submission} {b : Bytes} {k : State → Bytes → State}
    (hu : u = s.submitted 0x119 sub (fun x => .bytes (slice x.item 0 32 ++ [BitVec.ofNat 8 x.req.code]))) (hcredit : u.ftlCredit = true)
    (hfront : u.ftlFront op = some (b, false, t)) (hknown : ftlKnown b = true) (hmay : ftlMay op b = true)
    (hmounted : op = 6 ∨ t.flag Reg.FTL_STAT_MOUNTED = true) (hk : k t b = v) :
    (.next (s.settling fun s => s.ftlCommand op sub k) : Host.Outcome State Fault Refusal) = .next (v.settle s.degCause) := by
  rw [State.settling, State.ftlCommand_taken hu hcredit hfront hknown hmay hmounted, hk]

/-- Settles O50: a command that the FTL takes is its operation on the item, and one that is not refused is the operation's last branch. -/
theorem ftlCommandsComplete : Obligations.FtlCommandsComplete := by
  unfold Obligations.FtlCommandsComplete
  refine ⟨?mount, ?mounts, ?read, ?reads, ?write, ?writes, ?trim, ?trims, ?discard, ?discards, ?resize, ?resizes, ?format, ?formats, ?evacuate,
    ?evacuates, ?add, ?adds⟩
  case mount =>
    intro s req b hok hctx
    refine congrArg Host.Outcome.next ((State.onT_accepted hok ..).trans (if_neg ?_))
    rcases hctx with h | h <;> simp [h]
  case mounts =>
    intro s u t req hok hctx hu hunmounted ht hgood hfound hheader
    refine congrArg Host.Outcome.next ((State.onT_accepted hok ..).trans ((if_neg ?_).trans
      (State.mount_mounts hu hunmounted ht hgood hfound hheader)))
    rcases hctx with h | h <;> simp [h]
  case read | write =>
    exact fun s sub u t b hu hcredit hfront hknown hmay hmounted =>
      congrArg Host.Outcome.next (State.ftlCommand_taken hu hcredit hfront hknown hmay (.inr hmounted) _)
  case reads =>
    exact fun s sub u t b hu hcredit hfront hknown hmay hmounted hfits hdram =>
      congrArg Host.Outcome.next ((State.ftlCommand_taken hu hcredit hfront hknown hmay (.inr hmounted) _).trans (State.ftlRead_reads hfits hdram))
  case writes =>
    exact fun s sub u t b v hu hcredit hfront hknown hmay hmounted hvol hfits hopen hfree hdram hwritten =>
      congrArg Host.Outcome.next ((State.ftlCommand_taken hu hcredit hfront hknown hmay (.inr hmounted) _).trans
        (State.ftlWrite_writes hvol hfits hopen hfree hdram hwritten))
  case trim | discard | resize | evacuate =>
    exact fun s sub u t b hu hcredit hfront hknown hmay hmounted =>
      State.settle_ftlCommand hu hcredit hfront hknown hmay (.inr hmounted) rfl
  case trims =>
    exact fun s sub u t b hu hcredit hfront hknown hmay hmounted hopen hfree =>
      State.settle_ftlCommand hu hcredit hfront hknown hmay (.inr hmounted) (State.trimArch_trims hopen hfree)
  case discards =>
    exact fun s sub u t b hu hcredit hfront hknown hmay hmounted hfits hvol =>
      State.settle_ftlCommand hu hcredit hfront hknown hmay (.inr hmounted) (State.secureDiscard_discards hfits hvol)
  case resizes =>
    exact fun s sub u t b h hu hcredit hfront hknown hmay hmounted hheader hvol hfits hopen =>
      State.settle_ftlCommand hu hcredit hfront hknown hmay (.inr hmounted) (State.ftlResize_resizes hheader hvol hfits hopen)
  case format =>
    exact fun s sub u t b hu hcredit hfront hknown hmay =>
      congrArg Host.Outcome.next (State.ftlCommand_taken hu hcredit hfront hknown hmay (.inl rfl) _)
  case formats =>
    exact fun s sub u t b v hu hcredit hfront hknown hmay hv hunmounted hlow hhigh hgood hfits =>
      congrArg Host.Outcome.next ((State.ftlCommand_taken hu hcredit hfront hknown hmay (.inl rfl) _).trans
        (State.ftlFormat_formats hv hunmounted hlow hhigh hgood hfits))
  case evacuates =>
    exact fun s sub u t b hu hcredit hfront hknown hmay hmounted hin hroom =>
      State.settle_ftlCommand hu hcredit hfront hknown hmay (.inr hmounted) (State.dieEvacuate_evacuates hin hroom)
  case add =>
    exact fun s sub device u t b hu hcredit hfront hknown hmay hmounted =>
      State.settle_ftlCommand hu hcredit hfront hknown hmay (.inr hmounted) rfl
  case adds =>
    rintro s sub _ u t b p hu hcredit hfront hknown hmay hmounted hout rfl hfits
    exact State.settle_ftlCommand hu hcredit hfront hknown hmay (.inr hmounted) (State.dieAdd_enters hout hfits)

end Sys2Proof.Machine
end

section
/-! SUPPORT. The DMA channels (R365, R367, R372, R374, R376): what each command answers. -/

namespace Sys2Proof.Machine

/-- R376: DMA_BEAT moves one beat of the channel granted. -/
theorem execDmaBeat_moves {s : State} {n : Nat} (hgrant : s.dmaGrant = some n) (hrun : s.chanState n = 2) :
    execDmaBeat s = .next ((s.granted n (if burstEnds (s.chan n).desc
      ((s.chan n).pos + beatLen (s.chanReq n) (s.chan n).desc (s.chan n).pos) then 0 else 31)).moveBeat n) := by
  rw [execDmaBeat, hgrant]
  exact if_pos hrun

/-- R367: DMA_DESCRIPTOR_FETCH reads the descriptor of the channel granted. -/
theorem execDmaDescriptorFetch_reads {s : State} {n : Nat} (hgrant : s.dmaGrant = some n) (hfetch : s.chanState n = 1) :
    execDmaDescriptorFetch s = .next ((s.granted n 0).fetchDesc n) := by
  rw [execDmaDescriptorFetch, hgrant]
  exact if_pos hfetch

/-- Settles O51: each condition is the guard of the branch that the command takes. -/
theorem dmaCommandsComplete : Obligations.DmaCommandsComplete := by
  unfold Obligations.DmaCommandsComplete
  refine ⟨?cfg, ?start, ?stop, ?resume, ?abort, ?clear, ?fetch, ?beat, ?descEnd⟩
  case cfg =>
    intro s chan value hok hcode hidle
    refine congrArg Host.Outcome.next ((State.onField_accepted hok _).trans ?_)
    refine (if_neg (not_not.2 rfl)).trans ((if_neg ?_).trans (if_neg (not_not.2 hidle)))
    rintro ⟨h0, h1, h4⟩
    exact hcode.elim h0 (Or.elim · h1 h4)
  case start =>
    intro s req chan a hok hidle hfirst ha
    refine congrArg Host.Outcome.next ((State.onField_accepted hok _).trans ?_)
    rw [← ha]
    exact if_neg (not_or.2 ⟨not_not.2 hidle, hfirst⟩)
  case stop =>
    exact fun s req chan hok hgoing => congrArg Host.Outcome.next ((State.onField_accepted hok _).trans (if_pos hgoing))
  case resume =>
    intro s req chan t nx hok hpaused hshadow hnext
    refine congrArg Host.Outcome.next ((State.onField_accepted hok _).trans ((if_neg (not_not.2 hpaused)).trans ?_))
    rw [hshadow]
    exact if_neg hnext
  case abort =>
    intro s req chan hok hdone
    refine congrArg Host.Outcome.next ((State.onField_accepted hok _).trans ?_)
    rw [hdone]
    rfl
  case clear =>
    exact fun s req chan hok herr => congrArg Host.Outcome.next ((State.onField_accepted hok _).trans (if_pos herr))
  case fetch =>
    exact fun s n hgrant hfetch => execDmaDescriptorFetch_reads hgrant hfetch
  case beat =>
    exact fun s n hgrant hrun => execDmaBeat_moves hgrant hrun
  case descEnd =>
    exact fun s chan hdone => if_pos hdone

end Sys2Proof.Machine
end

section
/-! SUPPORT. The key store (R388–R390, R417, R509): what a command word makes the key engine do. -/

namespace Sys2Proof.Machine

/-- R390: a key is kept for an abort, unless the command replaces none. -/
def KeyCmd.undone (t : State) (c : KeyCmd) : Option KeySlot := if c.op = 2 ∨ c.op = 3 ∨ c.op = 7 then none else some (t.slot c.target)

/-- R390: a command word starts the key engine. -/
theorem State.keyWrite_accepted {s : State} {req : Req} {w : Nat} (hok : TakesA s req Reg.KEY_CMD_GO w) :
    s.keyWrite req w = (plainly s req Reg.KEY_CMD_GO w).keyGo req := State.onAction_accepted hok _

section
variable {s u t : State} {c : KeyCmd} {req : Req} {w : Nat} (hok : TakesA s req Reg.KEY_CMD_GO w) (hu : u = plainly s req Reg.KEY_CMD_GO w)
  (hc : c = u.keyCmd req) (ht : t = (u.keyQueue c).setBytes (fun k => Reg.KEY_WRAP_OUT_DATA k) 18 []) (hjobs : u.sec.jobs = [])
  (hfree : (u.keyQueue c).trivetBusy = false)
include hok hu hc ht hjobs hfree

/-- R390, R509: a command that waits for none, and that the engine does not refuse, takes effect at once. -/
theorem State.keyWrite_runs (hrun : t.keyRefusal c = 0) :
    s.keyWrite req w = (t.keyEffect c).setJobs [{ cmd := c, ran := true, undo := KeyCmd.undone t c }] := by
  subst hc
  rw [State.keyWrite_accepted hok, ← hu, State.keyGo_alone hjobs hfree, State.keyRun_runs ht hrun]
  rfl

/-- R390: a command that the engine refuses leaves its status. -/
theorem State.keyWrite_refused (hrefused : t.keyRefusal c ≠ 0) :
    s.keyWrite req w = t.setJobs [{ cmd := c, ran := true, status := t.keyRefusal c }] := by
  subst hc
  rw [State.keyWrite_accepted hok, ← hu, State.keyGo_alone hjobs hfree]
  simp only [State.keyRun, ← ht, if_pos hrefused]

end

/-- R390: an UNWRAP that the engine does not refuse has a blob that opens. -/
theorem State.unwrapped_of_keyRefusal {t : State} {c : KeyCmd} (hop : c.op = 6) (hrun : t.keyRefusal c = 0) : t.unwrapped c ≠ none := by
  intro hnone
  refine absurd hrun ?_
  unfold State.keyRefusal
  iterate 10 refine ite_ne_of_ne (by decide) ?_
  rw [if_pos hop, hnone]
  show 0x0106 ≠ 0
  decide

/-- Settles O52: a command word that is taken runs the command's effect, and an UNWRAP that runs has a blob that opens. -/
theorem keyCommandsComplete : Obligations.KeyCommandsComplete := by
  unfold Obligations.KeyCommandsComplete
  refine ⟨?_, ?load, ?_, ?erase, ?_, ?narrow, ?_, ?derive, ?_, ?generate, ?_, ?unwrap, ?_, ?wrap, ?done, ?zeroise, ?remask⟩
  case load | erase | narrow | derive | wrap =>
    intro s u t c req target source kind lenSel hok hu hc ht hop hjobs hfree hrun
    refine congrArg Host.Outcome.next ((State.keyWrite_runs hok hu hc ht hjobs hfree hrun).trans ?_)
    simp only [State.keyEffect, KeyCmd.undone, hop]
    rfl
  case generate =>
    intro s u t c req target source kind lenSel d v hok hu hc ht hop hjobs hfree hrun hdraw
    refine congrArg Host.Outcome.next ((State.keyWrite_runs hok hu hc ht hjobs hfree hrun).trans ?_)
    simp only [State.keyEffect, KeyCmd.undone, hop, hdraw]
    rfl
  case unwrap =>
    intro s u t c req target source kind lenSel hok hu hc ht hop hjobs hfree
    by_cases hrun : t.keyRefusal c = 0
    · refine congrArg Host.Outcome.next ((State.keyWrite_runs hok hu hc ht hjobs hfree hrun).trans ?_)
      obtain ⟨p, hp⟩ := Option.ne_none_iff_exists'.1 (State.unwrapped_of_keyRefusal hop hrun)
      simp only [State.keyEffect, KeyCmd.undone, hop, hrun, hp]
      rfl
    · refine congrArg Host.Outcome.next ((State.keyWrite_refused hok hu hc ht hjobs hfree hrun).trans ?_)
      rw [if_neg hrun]
  case done =>
    intro s j r hjobs hran
    show execKeyCmdDone s = _
    rw [execKeyCmdDone, hjobs]
    exact if_pos hran
  case zeroise =>
    exact fun s req hok => congrArg Host.Outcome.next (State.onField_accepted hok _)
  case remask =>
    intro s t hon hdue ht
    show execKeyRemask s = _
    rw [execKeyRemask, if_neg (by simp [hon, hdue]), ht]
  all_goals exact fun s req target source kind lenSel hok => congrArg Host.Outcome.next (State.keyWrite_accepted hok)

end Sys2Proof.Machine
end

section
/-! SUPPORT. The services of the root of trust (R415, R416): what each does with the request at the front of its queue. -/

namespace Sys2Proof.Machine

/-- R415: neither refusal of KEK_STORE applies to a KEK that may leave, under a STORE that may encrypt. -/
theorem kekStore_allowed {k m : KeySlot} (hfull : k.full = true) (hstore : m.full = true) (hexport : k.export_ = true) (henc : m.may Usage.enc = true) :
    ¬ (!k.full ∨ !m.full) ∧ ¬ (!k.export_ ∨ !m.may Usage.enc) := by
  simp [hfull, hstore, hexport, henc]

/-- Settles O53: each service is taken from the front of its queue, and the conditions are the guards of the branch that it takes. -/
theorem trivetCommandsComplete : Obligations.TrivetCommandsComplete := by
  unfold Obligations.TrivetCommandsComplete
  refine ⟨?attest, ?sealData, ?unsealData, ?kekImport, ?kekStore, ?kekRemove, ?ksvcSet⟩
  case attest =>
    intro s sub u b hu hon hroot hfree hcredit hfront hop hsign hmapped
    refine congrArg Host.Outcome.next ((State.trivet_taken hu hon hroot hfree hcredit hfront hop _).trans ?_)
    simp only [hsign, hmapped, Bool.not_true, Bool.false_eq_true, if_false]
  case sealData =>
    intro s sub u b iv t hu hon hroot hfree hcredit hfront hop hconfirmed hseal hlen hin hout hdraw
    refine congrArg Host.Outcome.next ((State.trivet_taken hu hon hroot hfree hcredit hfront hop _).trans ?_)
    simp only [hconfirmed, hseal, Nat.not_lt.2 hlen, hin, hout, hdraw, Bool.false_and, Bool.not_true, Bool.false_eq_true, or_self, if_false]
  case unsealData =>
    intro s sub u b hu hon hroot hfree hcredit hfront hop hlen hin
    refine congrArg Host.Outcome.next ((State.trivet_taken hu hon hroot hfree hcredit hfront hop _).trans ?_)
    simp only [Nat.not_lt.2 hlen, hin, Bool.not_true, Bool.false_eq_true, if_false]
    cases (u.popped 0x40).unsealBlob ((u.popped 0x40).read (leAt b 8 8) (leAt b 24 4)) with
    | none => rfl
    | some d => cases h : rangeMapped (leAt b 16 8) d.length <;> simp [h]
  case kekImport =>
    intro s sub u b hu hon hroot hfree hcredit hfront hop
    refine congrArg Host.Outcome.next ((State.trivet_taken hu hon hroot hfree hcredit hfront hop _).trans ?_)
    cases (u.popped 0x40).transported b <;> rfl
  case kekStore =>
    intro s sub u b hu hon hroot hfree hcredit hfront hop hfull hstore hexport henc
    obtain ⟨hkeys, hmay⟩ := kekStore_allowed hfull hstore hexport henc
    refine congrArg Host.Outcome.next ((State.trivet_taken hu hon hroot hfree hcredit hfront hop _).trans ?_)
    exact (if_neg hkeys).trans (if_neg hmay)
  case kekRemove =>
    exact fun s sub u b hu hon hroot hfree hcredit hfront hop =>
      congrArg Host.Outcome.next (State.trivet_taken hu hon hroot hfree hcredit hfront hop _)
  case ksvcSet =>
    intro s sub u b hu hon hroot hfree hcredit hfront hop henc
    refine congrArg Host.Outcome.next ((State.trivet_taken hu hon hroot hfree hcredit hfront hop _).trans ?_)
    cases (u.popped 0x40).transported b with
    | none => rfl
    | some p => simp only [henc, Bool.not_true, Bool.false_eq_true, if_false]

end Sys2Proof.Machine
end

section
/-! SUPPORT. Cleaver's jobs and the rewrap sweep (R397, R398, R401, R403, R405): what a job does that its slot, its output and its counter allow. -/

namespace Sys2Proof.Machine

/-- R392, R403: a job whose slot may be used so, and holds an AES key, runs under that key. -/
theorem State.ciphKey_may {s : State} {b key : Bytes} {usage : Nat} (hslot : s.ciphSlot (ciphFields b).slot usage = 0)
    (hkey : key = (s.slot (ciphFields b).slot).key) (hlen : key.length = 16 ∨ key.length = 32) (k : State → CiphJob → Bytes → State) :
    s.ciphKey b usage k = k s (ciphFields b) key := by
  subst hkey
  have haes : ¬ ((s.slot (ciphFields b).slot).key.length ≠ 16 ∧ (s.slot (ciphFields b).slot).key.length ≠ 32) :=
    fun h => hlen.elim h.1 h.2
  exact (if_neg (not_not.2 hslot)).trans (if_neg haes)

/-- A job whose output is memory goes on. -/
theorem State.ciphOut_mapped {s : State} {b : Bytes} {n : Nat} (h : rangeMapped (ciphFields b).dst n = true) (k : State → State) :
    s.ciphOut b n k = k s := if_pos h

/-- R403, R404: an encrypting job whose slot has a counter left takes it. -/
theorem State.ciphIv_taken {s t : State} {b : Bytes} {j : CiphJob} {c : Nat} (h : s.takeIv j.slot = some (c, t)) (k : State → Nat → Bytes → State) :
    s.ciphIv b j k = k t c (j.fixed ++ beBytes 8 c) := by
  rw [State.ciphIv, h]

/-- R405: FF1 runs on decimal digits under a key of 32 bytes. -/
theorem State.ff1Job_runs {s : State} {b key : Bytes} {usage : Nat} {d : List Nat} (enc : Bool) (hslot : s.ciphSlot (ciphFields b).slot usage = 0)
    (hkey : key = (s.slot (ciphFields b).slot).key) (hlen : key.length = 16 ∨ key.length = 32)
    (hout : rangeMapped (ciphFields b).dst (ciphFields b).len = true)
    (hdigits : asciiDigits (s.read (ciphFields b).src (ciphFields b).len) = some d) (h32 : key.length = 32) :
    s.ff1Job b usage enc = (s.write (ciphFields b).dst
      ((if enc then ff1Enc key (slice b 56 8) d else ff1Dec key (slice b 56 8) d).map (fun x => BitVec.ofNat 8 (x + 48)))).ciphDone b 0 0 [] := by
  rw [State.ff1Job, State.ciphKey_may hslot hkey hlen, State.ciphOut_mapped hout, hdigits]
  exact if_neg (not_not.2 h32)

/-- R398: the sweep may take its next record. -/
theorem State.rewrapDue {s : State} (hrun : s.flag Reg.CIPH_STAT_REWRAP_RUN = true) (hready : bitAt s.unitsReady 3 ≠ 0) (hfree : s.unitRun 3 = none)
    (hrate : s.sec.rewrapAt + nsPerS / s.getF Reg.CIPH_REWRAP_RATE_PER_S ≤ s.tb1) :
    ¬ (!s.flag Reg.CIPH_STAT_REWRAP_RUN ∨ bitAt s.unitsReady 3 = 0 ∨ (s.unitRun 3).isSome ∨
      s.tb1 < s.sec.rewrapAt + nsPerS / s.getF Reg.CIPH_REWRAP_RATE_PER_S) := by
  simp [hrun, hready, hfree, hrate]

/-- R398: after the last record the sweep ends. -/
theorem execRewrapRecord_ends {s : State}
    (hdue : ¬ (!s.flag Reg.CIPH_STAT_REWRAP_RUN ∨ bitAt s.unitsReady 3 = 0 ∨ (s.unitRun 3).isSome ∨
      s.tb1 < s.sec.rewrapAt + nsPerS / s.getF Reg.CIPH_REWRAP_RATE_PER_S))
    (hnext : s.nextRewrap (s.getF Reg.CIPH_REWRAP_FROM) (s.getF Reg.CIPH_REWRAP_POS_METER) = none) :
    execRewrapRecord s = .next s.rewrapEnd := by
  rw [execRewrapRecord, if_neg hdue, hnext]

/-- R398: the sweep rewraps its next record. -/
theorem execRewrapRecord_rewraps {s t : State} {m : Nat}
    (hdue : ¬ (!s.flag Reg.CIPH_STAT_REWRAP_RUN ∨ bitAt s.unitsReady 3 = 0 ∨ (s.unitRun 3).isSome ∨
      s.tb1 < s.sec.rewrapAt + nsPerS / s.getF Reg.CIPH_REWRAP_RATE_PER_S))
    (hnext : s.nextRewrap (s.getF Reg.CIPH_REWRAP_FROM) (s.getF Reg.CIPH_REWRAP_POS_METER) = some m) (hmore : m + 1 ≠ 2 ^ 20)
    (ht : t = { s with sec := { s.sec with rewrapAt := s.tb1 } }) :
    execRewrapRecord s = .next ((t.setF Reg.CIPH_REWRAP_POS_METER ((m + 1) % 2 ^ 20)).rewrapOne m (s.getF Reg.CIPH_REWRAP_FROM)) := by
  rw [execRewrapRecord, if_neg hdue, hnext, ht]
  exact congrArg Host.Outcome.next (if_neg hmore)

/-- Settles O54: each job is taken from the front of its queue, and its slot, its output and its counter allow it. -/
theorem cipherJobCommandsComplete : Obligations.CipherJobCommandsComplete := by
  unfold Obligations.CipherJobCommandsComplete
  refine ⟨?gcmEnc, ?gcmDec, ?ctrEnc, ?ctrDec, ?gmacGen, ?gmacVer, ?cmacGen, ?cmacVer, ?ff1Enc, ?ff1Dec, ?meterWrap, ?meterEnc, ?rewrapGo,
    ?rewrapEnd, ?rewrapOne⟩
  case gcmEnc | ctrEnc =>
    intro s sub u b key c t hu hready hrun hcredit hfront hop hfits hslot hkey hlen hout hiv
    refine congrArg Host.Outcome.next ((State.ciph_taken hu hready hrun hcredit hfront hop (by rw [ciphKnown, hop]; rfl) hfits _).trans ?_)
    exact (State.ciphKey_may hslot hkey hlen _).trans ((State.ciphOut_mapped hout _).trans (State.ciphIv_taken hiv _))
  case gcmDec =>
    intro s sub u b key iv ct hu hready hrun hcredit hfront hop hfits hslot hkey hlen hout hiv hct
    refine congrArg Host.Outcome.next ((State.ciph_taken hu hready hrun hcredit hfront hop (by rw [ciphKnown, hop]; rfl) hfits _).trans ?_)
    rw [hiv, hct]
    exact (State.ciphKey_may hslot hkey hlen _).trans (State.ciphOut_mapped hout _)
  case ctrDec =>
    intro s sub u b key hu hready hrun hcredit hfront hop hfits hslot hkey hlen hout
    refine congrArg Host.Outcome.next ((State.ciph_taken hu hready hrun hcredit hfront hop (by rw [ciphKnown, hop]; rfl) hfits _).trans ?_)
    exact (State.ciphKey_may hslot hkey hlen _).trans (State.ciphOut_mapped hout _)
  case gmacGen =>
    intro s sub u b key c t hu hready hrun hcredit hfront hop hfits hslot hkey hlen hiv
    refine congrArg Host.Outcome.next ((State.ciph_taken hu hready hrun hcredit hfront hop (by rw [ciphKnown, hop]; rfl) hfits _).trans ?_)
    exact (State.ciphKey_may hslot hkey hlen _).trans (State.ciphIv_taken hiv _)
  case gmacVer | cmacGen | cmacVer =>
    intro s sub u b key hu hready hrun hcredit hfront hop hfits hslot hkey hlen
    refine congrArg Host.Outcome.next ((State.ciph_taken hu hready hrun hcredit hfront hop (by rw [ciphKnown, hop]; rfl) hfits _).trans ?_)
    exact State.ciphKey_may hslot hkey hlen _
  case ff1Enc =>
    intro s sub u b key d hu hready hrun hcredit hfront hop hfits hslot hkey hlen hout hdigits h32
    refine congrArg Host.Outcome.next ((State.ciph_taken hu hready hrun hcredit hfront hop (by rw [ciphKnown, hop]; rfl) hfits _).trans ?_)
    exact State.ff1Job_runs true hslot hkey hlen hout hdigits h32
  case ff1Dec =>
    intro s sub u b key d hu hready hrun hcredit hfront hop hfits hslot hkey hlen hout hdigits h32
    refine congrArg Host.Outcome.next ((State.ciph_taken hu hready hrun hcredit hfront hop (by rw [ciphKnown, hop]; rfl) hfits _).trans ?_)
    exact State.ff1Job_runs false hslot hkey hlen hout hdigits h32
  case meterWrap =>
    intro s sub u b key hu hready hrun hcredit hfront hop hfits hslot hkey hlen hout hgeneral h40 hkek
    refine congrArg Host.Outcome.next ((State.ciph_taken hu hready hrun hcredit hfront hop (by rw [ciphKnown, hop]; rfl) hfits _).trans ?_)
    refine (State.ciphKey_may hslot hkey hlen _).trans ((State.ciphOut_mapped hout _).trans ?_)
    refine (if_neg (not_or.2 ⟨Nat.not_lt.2 hgeneral, not_not.2 h40⟩)).trans ((if_neg (not_not.2 hkek)).trans ?_)
    cases aesKwUnwrap key ((u.popped 0x48).read (ciphFields b).src 40) <;> rfl
  case meterEnc =>
    intro s sub u b m v hu hready hrun hcredit hfront hop hfits hm hunit hrole haad hformat
    refine congrArg Host.Outcome.next ((State.ciph_taken hu hready hrun hcredit hfront hop (by rw [ciphKnown, hop]; rfl) hfits _).trans ?_)
    subst hm
    have hok : ¬ (bitsOf ((u.popped 0x48).recF (leNat (ciphFields b).fixed) 0x008 4) 5 4 ≠ 1 ∧
        bitsOf ((u.popped 0x48).recF (leNat (ciphFields b).fixed) 0x008 4) 5 4 ≠ 2) := fun h => hformat.elim h.1 h.2
    simp only [hunit, haad, if_true]
    refine (if_neg (by simp [Nat.not_le.2 hrole, hok])).trans ?_
    cases (u.popped 0x48).frameKey (leNat (ciphFields b).fixed) v with
    | none => rfl
    | some key =>
      refine congrArg (State.ciphOut _ b _) (funext fun t => ?_)
      cases t.takeDownIvc (leNat (ciphFields b).fixed) 1 <;> rfl
  case rewrapGo =>
    intro s req source hok hidle
    show execRewrapGo req source s = _
    rw [execRewrapGo, hidle]
    exact congrArg Host.Outcome.next (State.onAction_accepted hok _)
  case rewrapEnd =>
    exact fun s hrun hready hfree hrate hnext => execRewrapRecord_ends (State.rewrapDue hrun hready hfree hrate) hnext
  case rewrapOne =>
    exact fun s m t hrun hready hfree hrate hnext hmore ht => execRewrapRecord_rewraps (State.rewrapDue hrun hready hfree hrate) hnext hmore ht

end Sys2Proof.Machine
end

section
/-! SUPPORT. The public-key engine (R406): what a job does that its slot and its addresses allow. -/

namespace Sys2Proof.Machine

/-- R406: the opcodes of the table are 1 to 7. -/
theorem pkeKnown_of_op {b : Bytes} {op : Nat} (hop : leAt b 0 1 = op) (hlo : 1 ≤ op) (hhi : op ≤ 7) : pkeKnown b = true := by
  simp [pkeKnown, hop, hlo, hhi]

/-- R392, R406: a job whose slot may be used so runs under the slot's key. -/
theorem State.pkeKey_may {s : State} {b : Bytes} {j : PkeJob} {usage len : Nat} (hfull : (s.slot j.slot).full = true)
    (hmay : (s.slot j.slot).may usage = true) (hgoes : (s.slot j.slot).goes Dest.mortar = true) (hlen : (s.slot j.slot).key.length = len)
    (k : Bytes → State) : s.pkeKey b j usage len k = k (s.slot j.slot).key := by
  simp only [State.pkeKey, hfull, hmay, hgoes, hlen, Bool.not_true, Bool.false_eq_true, or_self, ne_eq, not_true_eq_false, if_false]

/-- R406: a signature is made where the message and the place of the signature are memory. -/
theorem State.pkeSign_signs {s : State} {b : Bytes} {j : PkeJob} {ph : Bool} (hlen : ph = true ∨ j.len ≤ 65536)
    (hmsg : rangeMapped j.msg j.len = true) (hsig : rangeMapped j.sig 114 = true) (hfull : (s.slot j.slot).full = true)
    (hmay : (s.slot j.slot).may Usage.sign = true) (hgoes : (s.slot j.slot).goes Dest.mortar = true) (h57 : (s.slot j.slot).key.length = 57) :
    s.pkeSign b j ph = ((s.write j.sig (edSign (s.slot j.slot).key ph (s.read j.msg j.len))).count Reg.PKE_SIGN_CNT_CNT).pkeDone b 0 := by
  have hok : ¬ ((!ph ∧ 65536 < j.len) ∨ !rangeMapped j.msg j.len ∨ !rangeMapped j.sig 114) := by
    simpa [hmsg, hsig, or_iff_not_imp_left] using hlen
  exact (if_neg hok).trans (State.pkeKey_may hfull hmay hgoes h57 _)

/-- R406: a signature is checked where the message, the public key and the signature are memory. -/
theorem State.pkeVerify_checks {s : State} {b : Bytes} {j : PkeJob} {ph : Bool} (hlen : ph = true ∨ j.len ≤ 65536)
    (hmsg : rangeMapped j.msg j.len = true) (hpub : rangeMapped j.pub 57 = true) (hsig : rangeMapped j.sig 114 = true) :
    s.pkeVerify b j ph =
      if (edDecode (s.read j.pub 57)).isNone = true then (s.count Reg.PKE_VERIFY_CNT_CNT).pkeDone b 0x0106
      else if edVerify (s.read j.pub 57) ph (s.read j.msg j.len) (s.read j.sig 114) = true then (s.count Reg.PKE_VERIFY_CNT_CNT).pkeDone b 0
      else ((s.count Reg.PKE_VERIFY_CNT_CNT).count Reg.PKE_VERIFY_FAIL_CNT_CNT).pkeDone b 0x0100 := by
  have hok : ¬ ((!ph ∧ 65536 < j.len) ∨ !rangeMapped j.msg j.len ∨ !rangeMapped j.pub 57 ∨ !rangeMapped j.sig 114) := by
    simpa [hmsg, hpub, hsig, or_iff_not_imp_left] using hlen
  exact if_neg hok

/-- Settles O55: each job is taken from the front of its queue, and its slot and its addresses allow it. -/
theorem publicKeyCommandsComplete : Obligations.PublicKeyCommandsComplete := by
  unfold Obligations.PublicKeyCommandsComplete
  refine ⟨?sign, ?verify, ?signPh, ?verifyPh, ?agree, ?pub, ?keygen, ?keygenX⟩
  case sign =>
    intro s sub u b j hu hon henable hfree hcredit hfront hop hslot htarget hj hlen hmsg hsig hfull hmay hgoes h57
    refine congrArg Host.Outcome.next
      ((State.pke_taken hu hon henable hfree hcredit hfront hop (pkeKnown_of_op hop (by decide) (by decide)) hslot htarget _).trans ?_)
    rw [← hj]
    exact State.pkeSign_signs (.inr hlen) hmsg hsig hfull hmay hgoes h57
  case verify =>
    intro s sub u b j hu hon henable hfree hcredit hfront hop hslot htarget hj hlen hmsg hpub hsig
    refine congrArg Host.Outcome.next
      ((State.pke_taken hu hon henable hfree hcredit hfront hop (pkeKnown_of_op hop (by decide) (by decide)) hslot htarget _).trans ?_)
    rw [← hj]
    exact State.pkeVerify_checks (.inr hlen) hmsg hpub hsig
  case signPh =>
    intro s sub u b j hu hon henable hfree hcredit hfront hop hslot htarget hj hmsg hsig hfull hmay hgoes h57
    refine congrArg Host.Outcome.next
      ((State.pke_taken hu hon henable hfree hcredit hfront hop (pkeKnown_of_op hop (by decide) (by decide)) hslot htarget _).trans ?_)
    rw [← hj]
    exact State.pkeSign_signs (.inl rfl) hmsg hsig hfull hmay hgoes h57
  case verifyPh =>
    intro s sub u b j hu hon henable hfree hcredit hfront hop hslot htarget hj hmsg hpub hsig
    refine congrArg Host.Outcome.next
      ((State.pke_taken hu hon henable hfree hcredit hfront hop (pkeKnown_of_op hop (by decide) (by decide)) hslot htarget _).trans ?_)
    rw [← hj]
    exact State.pkeVerify_checks (.inl rfl) hmsg hpub hsig
  case agree =>
    intro s sub u b j hu hon henable hfree hcredit hfront hop hslot htarget hj hpub hfull hmay hgoes h56
    refine congrArg Host.Outcome.next
      ((State.pke_taken hu hon henable hfree hcredit hfront hop (pkeKnown_of_op hop (by decide) (by decide)) hslot htarget _).trans ?_)
    rw [← hj]
    exact (if_neg (by simp [hpub])).trans (State.pkeKey_may hfull hmay hgoes h56 _)
  case pub =>
    intro s sub u b j hu hon henable hfree hcredit hfront hop hslot htarget hj hfull hgoes hmay h57
    refine congrArg Host.Outcome.next
      ((State.pke_taken hu hon henable hfree hcredit hfront hop (pkeKnown_of_op hop (by decide) (by decide)) hslot htarget _).trans ?_)
    rw [← hj]
    have hused : ¬ ((!((u.popped 0x50).slot j.slot).goes Dest.mortar) = true ∨
        (!((u.popped 0x50).slot j.slot).may Usage.sign) = true ∧ (!((u.popped 0x50).slot j.slot).may Usage.agree) = true) := by
      simpa [hgoes, or_iff_not_imp_left] using hmay
    simp only [hfull, hused, h57, Bool.not_true, Bool.false_eq_true, ne_eq, not_true_eq_false, false_and, if_true, if_false]
  case keygen =>
    intro s sub u b j d t hu hon henable hfree hcredit hfront hop hslot htarget hj htrng hkind hdraw
    refine congrArg Host.Outcome.next
      ((State.pke_taken hu hon henable hfree hcredit hfront hop (pkeKnown_of_op hop (by decide) (by decide)) hslot htarget _).trans ?_)
    simp only [htrng, if_neg hkind, hdraw, hj, Bool.not_true, Bool.false_eq_true, if_false]
  case keygenX =>
    intro s sub u b j d t hu hon henable hfree hcredit hfront hop hslot htarget hj htrng hkind hdraw
    refine congrArg Host.Outcome.next
      ((State.pke_taken hu hon henable hfree hcredit hfront hop (pkeKnown_of_op hop (by decide) (by decide)) hslot htarget _).trans ?_)
    simp only [htrng, if_pos hkind, hdraw, hj, Bool.not_true, Bool.false_eq_true, if_false]

end Sys2Proof.Machine
end

section
/-! SUPPORT. The random number generator and the tamper block (R408–R410, R413, R414, R421): what each command answers. -/

namespace Sys2Proof.Machine

/-- R410: the mesh is checked when it is driven and a check is due. -/
theorem State.meshDue {s : State} (hdriven : s.flag Reg.TAMP_MESH_CFG_EN = true)
    (hdue : s.sec.meshAt + 2 ^ s.getF Reg.TAMP_MESH_CFG_RATE ≤ s.time.slow) :
    ¬ (!s.flag Reg.TAMP_MESH_CFG_EN ∨ s.time.slow < s.sec.meshAt + 2 ^ s.getF Reg.TAMP_MESH_CFG_RATE) := by
  simp [hdriven, hdue]

/-- R410: a good check of the mesh ends its assertion. -/
theorem execMeshCheck_good {s t u : State} {w : Word}
    (hdue : ¬ (!s.flag Reg.TAMP_MESH_CFG_EN ∨ s.time.slow < s.sec.meshAt + 2 ^ s.getF Reg.TAMP_MESH_CFG_RATE)) (hdraw : s.drawWord = (w, t))
    (hu : u = { t with sec := { t.sec with meshWord := w.toNat, meshAt := t.time.slow, meshBad := 0 } }) :
    execMeshCheck true s = .next (u.setF Reg.TAMP_STAT_ACTIVE (withBits (u.getF Reg.TAMP_STAT_ACTIVE) 4 4 0)) := by
  rw [execMeshCheck, if_neg hdue, hdraw, hu]
  rfl

/-- R410: the second bad check of the mesh in a row asserts MESH. -/
theorem execMeshCheck_second {s t u : State} {w : Word}
    (hdue : ¬ (!s.flag Reg.TAMP_MESH_CFG_EN ∨ s.time.slow < s.sec.meshAt + 2 ^ s.getF Reg.TAMP_MESH_CFG_RATE)) (hdraw : s.drawWord = (w, t))
    (hbad : s.sec.meshBad = 1) (hu : u = { t with sec := { t.sec with meshWord := w.toNat, meshAt := t.time.slow, meshBad := 2 } }) :
    execMeshCheck false s = .next (u.tamper 4) := by
  rw [execMeshCheck, if_neg hdue, hdraw, hbad, hu]
  rfl

/-- R409: a health test that fails for the first or second time within 3,600 s restarts the TRNG. -/
theorem execTrngHealthFail_restarts {s x : State} {apt : Bool} {l : List Nat} (hon : s.domOn .fabric = true)
    (henable : s.flag Reg.TRNG_CTRL_ENABLE = true) (hstate : s.getF Reg.TRNG_STAT_STATE = 1 ∨ s.getF Reg.TRNG_STAT_STATE = 2)
    (hx : x = (s.count (if apt then Reg.TRNG_APT_FAIL_CNT_CNT else Reg.TRNG_RCT_FAIL_CNT_CNT)).irq Reg.TRNG_IRQ_HEALTH_FAIL)
    (hl : l = x.tb1 :: x.sec.trngFails.filter (fun t => decide (x.tb1 ≤ t + 3600 * nsPerS))) (hfew : l.length < 3) :
    execTrngHealthFail apt s =
      .next (State.settle (({ x with sec := { x.sec with trngFails := l } } : State).setF Reg.TRNG_STAT_STATE 1) s.degCause) := by
  have hruns : ¬ (!s.domOn .fabric ∨ !s.flag Reg.TRNG_CTRL_ENABLE ∨ s.getF Reg.TRNG_STAT_STATE = 0 ∨ s.getF Reg.TRNG_STAT_STATE = 3) := by
    rcases hstate with h | h <;> simp [hon, henable, h]
  rw [execTrngHealthFail, if_neg hruns]
  simp only [State.settling, ← hx, ← hl, if_neg (Nat.not_le.2 hfew)]

/-- R409: a read of `TRNG.DATA` takes a word from the stream. -/
theorem execTrngDataRead_draws {s t : State} {req : Req} {w : Word} (hreq : req ≠ .debug) (hok : s.refusal req 0x0B 0x100 .b4 false = none)
    (htrng : (s.answer 0).trngOk = true) (hdraw : (s.answer 0).drawWord = (w, t)) : execTrngDataRead req s = .next (t.answer w.toNat) := by
  refine congrArg Host.Outcome.next ((State.onRead_accepted hok _).trans ((if_neg hreq).trans ((if_pos htrng).trans ?_)))
  rw [hdraw]

/-- Settles O56: each condition is the guard of the branch that the command takes. -/
theorem tamperCommandsComplete : Obligations.TamperCommandsComplete := by
  unfold Obligations.TamperCommandsComplete
  refine ⟨?startup, ?health, ?read, ?debugRead, ?supply, ?mesh, ?pin, ?meshGood, ?meshBad, ?vkr, ?arm, ?release⟩
  case startup =>
    exact fun s hon henable hstate => if_pos ⟨hon, henable, hstate⟩
  case health =>
    exact fun s b x l hon henable hstate hx hl hfew => execTrngHealthFail_restarts hon henable hstate hx hl hfew
  case read =>
    exact fun s req w t hreq hok htrng hdraw => execTrngDataRead_draws hreq hok htrng hdraw
  case debugRead =>
    exact fun s hok => congrArg Host.Outcome.next ((State.onRead_accepted hok _).trans (if_pos rfl))
  case supply =>
    intro s n hn hmain hwarn
    have hmay : s.mayAssert n.val = true := by
      rw [State.mayAssert, if_neg (by omega), if_neg (by omega), hmain]
      simpa using hwarn
    exact if_pos hmay
  case mesh =>
    exact fun s hdriven => if_pos hdriven
  case pin =>
    intro s n hn hmask hlevel
    have hmay : s.mayAssert n.val = true := by
      rw [State.mayAssert, if_pos hn, hmask, hlevel]
      rfl
    exact if_pos hmay
  case meshGood =>
    exact fun s w t hdriven hdue hdraw => execMeshCheck_good (State.meshDue hdriven hdue) hdraw rfl
  case meshBad =>
    exact fun s w t hdriven hdue hdraw hbad => execMeshCheck_second (State.meshDue hdriven hdue) hdraw hbad rfl
  case vkr | arm =>
    exact fun s req hok => congrArg Host.Outcome.next (State.onAction_accepted hok _)
  case release =>
    intro s req hok hlocked
    refine congrArg Host.Outcome.next ((State.onAction_accepted hok _).trans (if_neg ?_))
    rw [hlocked]
    exact Bool.false_ne_true

end Sys2Proof.Machine
end

section
/-! SUPPORT. Modes, inputs, clocks and power (R423–R425, R434, R435, R438, R440–R442, R445): what each command answers. -/

namespace Sys2Proof.Machine

/-- R424: an unmasked wake input that is not active already asserts, with main power present. -/
theorem execWakeInput_asserts {s : State} {i : Fin 2} (hmask : s.inputMasked (4 + i.val) = false)
    (hlevel : s.flag (condField Reg.AON_COND_STAT_LEVEL (4 + i.val)) = false) (hmain : s.power.main = true) :
    execWakeInput i s = .next (s.inputAsserts (4 + i.val)) :=
  if_neg (by simp [hmask, hlevel, hmain])

/-- R438: main power that has stayed good ends the last gasp with a start-up from step 1. -/
theorem execLgRecover_recovers {s : State} {t : Nat} (hend : s.power.lgEnd = some t) (hmain : s.power.main = true)
    (hwarn : s.flag Reg.PWR_STAT_PFW = false ∨ s.inputMasked 6 = true) (hdue : t + s.getF Reg.PWR_LG_CFG_RECOVER_MS * 1000000 ≤ s.tb1) :
    execLgRecover s = .next ((({ s with power := { s.power with lgEnd := none } } : State).setF Reg.PWR_STAT_VMAIN_OK 1).dueStartup 1 5) := by
  rw [execLgRecover, hend]
  exact if_pos ⟨hmain, by simpa using hwarn, hdue⟩

/-- Settles O57: each condition is the guard of the branch that the command takes. -/
theorem powerCommandsComplete : Obligations.PowerCommandsComplete := by
  unfold Obligations.PowerCommandsComplete
  refine ⟨?modeReq, ?wake, ?startup, ?degraded, ?pll, ?refLost, ?refBack, ?swReset, ?gasp, ?recover, ?edge, ?stuck, ?chatter, ?loss⟩
  case modeReq =>
    exact fun s req data hok hrefusal => congrArg Host.Outcome.next ((State.onField_accepted hok _).trans (if_pos hrefusal))
  case wake =>
    exact fun s i hmask hlevel hmain => execWakeInput_asserts hmask hlevel hmain
  case startup =>
    intro s b hdue
    exact if_pos (by simpa using hdue)
  case degraded =>
    exact fun s hmode hclear => if_pos ⟨hmode, hclear⟩
  case pll =>
    intro s pll hruns hstart hlock
    exact if_pos ⟨hruns, by simpa using hstart, hlock⟩
  case refLost =>
    exact fun s hhere => if_pos hhere
  case refBack =>
    intro s hgone
    exact if_neg (by simp [hgone])
  case swReset =>
    intro s req data hok hkey hgo hruns hstart
    refine congrArg Host.Outcome.next ((State.onField_accepted hok _).trans ((if_neg (not_not.2 hkey)).trans (if_pos ⟨hgo, hruns, ?_⟩)))
    simpa using hstart
  case gasp =>
    intro s b hwarns
    refine if_neg ?_
    rintro ⟨hpin, hmasked⟩
    rcases hwarns with h | h <;> simp_all
  case recover =>
    exact fun s t hend hmain hwarn hdue => execLgRecover_recovers hend hmain hwarn hdue
  case edge =>
    exact fun s i b hcond => if_pos hcond
  case stuck =>
    intro s i hcond hlevel hmask hsince
    exact if_pos ⟨hcond, hlevel, by simpa using hmask, hsince⟩
  case chatter =>
    exact fun s i hmask hover => if_pos ⟨hmask, hover⟩
  case loss =>
    rintro s t hend hmain rfl
    exact if_pos ⟨hend, hmain⟩

end Sys2Proof.Machine
end

section
/-! SUPPORT. The life cycle (R449, R451, R454, R456): what a command does that the life cycle allows. -/

namespace Sys2Proof.Machine

/-- R451: the challenge is spent. -/
def State.spendChallenge (s : State) : State := { s with sec := { s.sec with chalAt := none } }

/-- R449, R451: a command that the life cycle allows runs at once, or after its signature verifies. -/
theorem State.lcsCommand_allowed {s t : State} {req : Req} {op : Nat} (hok : TakesF s req Reg.LCS_CMD_GO)
    (ht : t = (s.answer 0).setF Reg.LCS_CMD_OP op) (hallowed : t.lcRefusal req op = 0) (k : State → State) :
    s.lcsCommand req op k =
      if lcSigned req op = true then
        (if t.sigCode op = 0 then (k t.spendChallenge).lcsEnd 0 else t.spendChallenge.countRefusal.lcsRefuse req (t.sigCode op))
      else (k t).lcsEnd 0 := by
  refine (State.onField_accepted hok _).trans ?_
  rw [← ht]
  exact if_neg (not_not.2 hallowed)

/-- R451: a challenge is drawn while the TRNG is OK. -/
theorem execLcsChalReq_draws {s t : State} {req : Req} {d : Bytes} (hok : TakesF s req Reg.LCS_CHAL_REQ_GO) (htrng : (s.answer 0).trngOk = true)
    (hdraw : (s.answer 0).drawBytes 32 = (d, t)) :
    execLcsChalReq req s =
      .next ((({ t with sec := { t.sec with chalAt := some t.tb1 } } : State).setBytes (fun k => Reg.LCS_CHAL_DATA k) 8 d).count Reg.LCS_CNT_CNT) := by
  refine congrArg Host.Outcome.next ((State.onField_accepted hok _).trans ((if_neg ?_).trans ?_))
  · rw [htrng]
    exact Bool.false_ne_true
  · rw [hdraw]

/-- Settles O58: each command is one that the life cycle allows. -/
theorem lifeCycleCommandsComplete : Obligations.LifeCycleCommandsComplete := by
  unfold Obligations.LifeCycleCommandsComplete
  refine ⟨?challenge, ?lapse, ?open_, ?deploy, ?retire, ?kill, ?provision, ?close⟩
  case challenge =>
    exact fun s req d t hok htrng hdraw => execLcsChalReq_draws hok htrng hdraw
  case lapse =>
    intro s t hchal hover
    show execChalLapse s = _
    rw [execChalLapse, hchal]
    exact if_pos hover
  all_goals exact fun s req t hok ht hallowed => congrArg Host.Outcome.next (State.lcsCommand_allowed hok ht hallowed _)

end Sys2Proof.Machine
end

section
/-! SUPPORT. Updates (R465–R468, R472, R473, R476): what a piece, a page and a write of the update block do. -/

namespace Sys2Proof.Machine

/-- R465: UPD takes the front of the piece queue. -/
theorem execUpdPiece_taken {s u : State} {sub : Option Submission} {b : Bytes} {n : Nat}
    (hu : u = s.submitted 0x68 sub (fun x => .bytes (slice x.item 0 528))) (hon : u.domOn .fabric = true) (henable : u.flag Reg.UPD_CTRL_ENABLE = true)
    (hcredit : u.upd.waiting.length < (u.queue 0x69).credits) (hfront : (u.queue 0x68).items.head? = some ⟨.bytes b, n⟩) :
    execUpdPiece sub s = .next ((u.popped 0x68).takeUpd b (n != 0)) := by
  have hplaced : execUpdPiece sub s = execUpdPiece none u := by
    subst hu; cases sub <;> rfl
  rw [hplaced, execUpdPiece]
  refine (if_neg ?_).trans ?_
  · simp [hon, henable, hcredit]
  · simp only [hfront, State.deq_popped hfront]

/-- R464, R466: a valid manifest begins a session. -/
theorem State.takeUpd_manifest {t v : State} {b : Bytes} (hindex : leAt b 0 4 = 0) (hidle : t.upd.state = 0)
    (hfits : t.manifestFits (slice b 16 512) = true) (hsecver : t.secverFits (slice b 16 512) = true) (hstage : t.stageFits (slice b 16 512) = true)
    (hv : v = { t with upd := { t.upd with state := 1, manifest := slice b 16 512, bitmap := [], waiting := [] } }) :
    t.takeUpd b false = (v.irq Reg.UPD_IRQ_MANIFEST_OK).stagePiece 0 (leAt b 12 1) (slice b 16 512) := by
  simp only [State.takeUpd, State.takeManifest, hindex, hidle, hfits, hsecver, hstage, ← hv, Bool.not_true, Bool.false_eq_true, ne_eq,
    not_true_eq_false, if_true, if_false]

/-- R466: a hash piece, or a data piece that agrees with its leaf, waits for its page. -/
theorem State.takeUpd_piece {t : State} {b : Bytes} {i h : Nat} (hi : i = leAt b 0 4) (hindex : i ≠ 0) (hsession : t.upd.state ≠ 0)
    (hbuild : leAt b 4 4 = manBuild t.upd.manifest % 2 ^ 32) (hlt : i < t.upd.total) (hmissing : t.upd.has i = false) (hh : h = manH t.upd.manifest)
    (hgood : i ≤ h ∨ (t.upd.state ≠ 1 ∧ leafHash (i - h - 1) (slice b 16 512) = t.storedLeaf (i - h - 1))) :
    t.takeUpd b false = t.stagePiece i (leAt b 12 1) (slice b 16 512) := by
  subst hi hh
  have hfits : ¬ (t.upd.state = 0 ∨ leAt b 4 4 ≠ manBuild t.upd.manifest % 2 ^ 32 ∨ t.upd.total ≤ leAt b 0 4) := by
    simp [hsession, hbuild, hlt]
  have htaken : t.takeUpd b false = t.takePiece (leAt b 0 4) (leAt b 4 4) (leAt b 12 1) (slice b 16 512) := if_neg hindex
  rw [htaken, State.takePiece, if_neg hfits, hmissing]
  by_cases hhash : leAt b 0 4 ≤ manH t.upd.manifest
  · exact if_pos hhash
  · obtain ⟨hstate, hleaf⟩ := hgood.resolve_left hhash
    exact (if_neg hhash).trans ((if_neg hstate).trans (if_pos hleaf))

/-- R467: a page that is due is written, and the bitmap with it. -/
theorem execUpdPageWrite_writes {s t v : State} {n : Nat} {l : List StagedPiece}
    (hdue : (s.upd.waiting.map (fun p => p.index / s.perPage)).find? s.pageDue = some n)
    (hl : l = s.upd.waiting.filter (fun p => p.index / s.perPage == n)) (hwrite : s.volWrite 6 n (s.pageWith n l) = some t)
    (hv : v = t.recordPieces n l) :
    execUpdPageWrite s = .next ((v.volWrite 8 0 ([BitVec.ofNat 8 v.upd.state] ++ (List.range 2043).map (fun k =>
      BitVec.ofNat 8 (((List.range 8).map (fun b => bit1 (v.upd.has (8 * k + b)) * 2 ^ b)).sum)))).getD v) := by
  unfold execUpdPageWrite
  simp only [hdue, ← hl, hwrite, ← hv]

/-- R468: a verified image is installed in the copy not in use. -/
theorem execUpdInstall_installs {s t : State} {req : Req} {p : Nat} (hok : TakesF s req Reg.UPD_CTRL_INSTALL) (hp : p = manPart s.upd.manifest)
    (hstate : s.upd.state = 3) (hconf : (s.upd.part p).unconf = false)
    (hregion : (s.answer 0).writeRegion p (1 - (s.upd.part p).copy) (s.answer 0).stagedImage = some t) :
    execUpdInstall req s = .next (t.installed p (1 - (s.upd.part p).copy) (s.answer 0).stagedImage) := by
  subst hp
  refine congrArg Host.Outcome.next ((State.onField_accepted hok _).trans ((if_neg (not_not.2 hstate)).trans ?_))
  simp only [State.answer_upd, hconf, hregion, Bool.false_eq_true, if_false]

/-- R423, R470: the part runs again, and the chip leaves ACTIVATE. -/
theorem execUpdActivationEnd_ends {s t : State} {a : Activation} (hact : s.upd.act = some a)
    (ht : t = (({ s with upd := { s.upd with act := none } } : State).partRuns a.part).setF Reg.UPD_ACT_LAST_MS_MS
      (min 65535 ((s.tb1 - a.since) / 1000000)))
    (hfallback : a.fallback = false) (hmode : (t.irq Reg.UPD_IRQ_ACTIVATED).mode = .activate) :
    execUpdActivationEnd s = .next (((t.irq Reg.UPD_IRQ_ACTIVATED).toMode (Mode.ofCode a.back)).settle 0) := by
  rw [execUpdActivationEnd, hact]
  simp only [hfallback, ← ht, Bool.false_eq_true, if_false, hmode, if_true]

/-- R472, R473: a write with the key byte acts on its part. -/
theorem State.onKey_accepted {s : State} {req : Req} {f : Field} {d : Nat} (hok : TakesF s req f) (hkey : bitsOf d 15 8 = 0xC9)
    (k : State → Nat → State) : s.onKey req f d k = k (s.answer 0) (d % 8) :=
  (State.onField_accepted hok _).trans (if_neg (not_not.2 hkey))

/-- Settles O59: each condition is the guard of the branch that the command takes. -/
theorem updateCommandsComplete : Obligations.UpdateCommandsComplete := by
  unfold Obligations.UpdateCommandsComplete
  refine ⟨?piece, ?manifest, ?dataPiece, ?page, ?install, ?abort, ?activationEnd, ?confirm, ?fallback, ?due, ?window, ?partner⟩
  case piece =>
    exact fun s sub u b n hu hon henable hcredit hfront => execUpdPiece_taken hu hon henable hcredit hfront
  case manifest =>
    rintro s sub u t v b hu hon henable hcredit hfront rfl hindex hidle hfits hsecver hstage hv
    exact (execUpdPiece_taken hu hon henable hcredit hfront).trans
      (congrArg Host.Outcome.next (State.takeUpd_manifest hindex hidle hfits hsecver hstage hv))
  case dataPiece =>
    rintro s sub u t b i h hu hon henable hcredit hfront rfl hi hindex hsession hbuild hlt hmissing hh hgood
    exact (execUpdPiece_taken hu hon henable hcredit hfront).trans
      (congrArg Host.Outcome.next (State.takeUpd_piece hi hindex hsession hbuild hlt hmissing hh hgood))
  case page =>
    exact fun s n l t v hdue hl hwrite hv => execUpdPageWrite_writes hdue hl hwrite hv
  case install =>
    exact fun s req p t hok hp hstate hconf hregion => execUpdInstall_installs hok hp hstate hconf hregion
  case abort =>
    exact fun s req hok hstate => congrArg Host.Outcome.next ((State.onField_accepted hok _).trans (if_neg hstate))
  case activationEnd =>
    exact fun s a t hact ht hfallback hmode => execUpdActivationEnd_ends hact ht hfallback hmode
  case confirm =>
    intro s req data hok hkey hreq hconf
    refine congrArg Host.Outcome.next ((State.onKey_accepted hok hkey _).trans ((if_neg ?_).trans (if_pos hconf)))
    exact fun h => hreq.elim h.1 h.2
  case fallback =>
    intro s req data hok hkey hconf hact hruns
    refine congrArg Host.Outcome.next ((State.onKey_accepted hok hkey _).trans ((if_neg ?_).trans (if_neg ?_)))
    · rw [hconf]
      exact Bool.false_ne_true
    · rw [hact, hruns]
      decide
  case due =>
    intro s p hconf hdue hend
    exact if_pos ⟨hconf, by simpa using hdue, hend⟩
  case window =>
    intro s p hconf hend hact hruns hstart
    exact if_pos ⟨hconf, hend, by simpa using hact, hruns, by simpa using hstart⟩
  case partner =>
    exact fun s m henable hup hkey => if_pos ⟨henable, hup, hkey⟩

end Sys2Proof.Machine
end

section
/-! SUPPORT. The event recorder (R482, R484, R485, R488–R491): what each command answers. -/

namespace Sys2Proof.Machine

/-- R482, R490: the oldest staged record is programmed where the log memory's port runs. -/
theorem execEvrNorProgram_staged {s : State} {x : Nat} {r : Bytes} {l : List (Nat × Bytes)} (hstaged : s.evr.staged = (x, r) :: l)
    (hon : s.domOn .aon = true) :
    execEvrNorProgram s = if s.flag Reg.EVR_STAT_FALLBACK = true then .next (s.programEvfb r)
      else if s.evr.erases.isEmpty = true then .next (s.programNor r) else idle s := by
  rw [execEvrNorProgram, hstaged, hon]
  exact if_neg Bool.false_ne_true

/-- R482, R489: the first sector that waits is erased. -/
theorem execEvrSectorErase_erases {s : State} {n : Nat} {l : List Nat} (hwait : s.evr.erases ++ s.evr.clears = n :: l)
    (hon : s.domOn .aon = true) (hnor : s.flag Reg.EVR_STAT_FALLBACK = false) : execEvrSectorErase s = .next (s.eraseSector n) := by
  rw [execEvrSectorErase, hwait, hon, hnor]
  exact if_pos rfl

/-- R485, R493: a class from 16 to 31 is recorded. -/
theorem execEvrSwCode_records {s t : State} {req : Req} {data : Word} (hok : TakesA s req Reg.EVR_SW_CODE_GO data.toNat)
    (ht : t = plainly s req Reg.EVR_SW_CODE_GO data.toNat) (hgo : bitAt data.toNat 31 = 1) (hlo : 16 ≤ t.getF Reg.EVR_SW_CODE_CODE / 256)
    (hhi : t.getF Reg.EVR_SW_CODE_CODE / 256 ≤ 31) :
    execEvrSwCode req data s =
      .next (t.event (.software (t.getF Reg.EVR_SW_CODE_CODE)) 0xFF (t.getBytes (fun k => Reg.EVR_SW_DATA_DATA k) 16)) := by
  refine congrArg Host.Outcome.next ((State.onAction_accepted hok _).trans ?_)
  rw [← ht]
  exact (if_neg (by omega)).trans (if_neg (by omega))

/-- R488: a record that is read is shown. -/
theorem execEvrRead_shows {s : State} {req : Req} {b : Bytes} (hok : TakesF s req Reg.EVR_RD_CTRL_GO)
    (hread : (s.answer 0).readRecord ((s.answer 0).getF (Reg.EVR_RD_RSEQ_RSEQ.bankOf req.code)) = (0, b)) :
    execEvrRead req s = .next (((s.answer 0).setF (Reg.EVR_RD_CTRL_STATUS.bankOf req.code) 0).setBytes
      (fun k => (Reg.EVR_RD_DATA_DATA k).bankOf req.code) 32 b) := by
  refine congrArg Host.Outcome.next ((State.onField_accepted hok _).trans ?_)
  rw [hread]
  exact if_pos rfl

section
variable {s : State} {cause : BitVec 3} {addr : BitVec 24} (hon : s.domOn .aon = true) (hnor : s.flag Reg.EVR_STAT_FALLBACK = false)
include hon hnor

/-- R490: the NOR in use shows a failure. -/
theorem execEvrNorFail_inUse : ¬ (!s.domOn .aon ∨ s.flag Reg.EVR_STAT_FALLBACK) := by
  simp [hon, hnor]

/-- R490: a read fails, or the NOR does not answer. -/
theorem execEvrNorFail_read (hcause : cause = 2 ∨ cause = 5) : execEvrNorFail cause addr s = .next (s.norFailed cause.toNat addr.toNat) := by
  refine (if_neg (execEvrNorFail_inUse hon hnor)).trans ?_
  rcases hcause with rfl | rfl <;> rfl

/-- R490: the program under way fails. -/
theorem execEvrNorFail_program (hcause : cause = 1 ∨ cause = 3) (hstaged : s.evr.staged.isEmpty = false) :
    execEvrNorFail cause addr s = .next (s.norFailed cause.toNat (0x80 * norSlot s.evr.rseq)) := by
  refine (if_neg (execEvrNorFail_inUse hon hnor)).trans ((if_pos hcause).trans (if_neg ?_))
  rw [hstaged]
  exact Bool.false_ne_true

/-- R490: the erase under way fails. -/
theorem execEvrNorFail_erase {n : Nat} {l : List Nat} (hwait : s.evr.erases ++ s.evr.clears = n :: l) :
    execEvrNorFail 4 addr s = .next (s.norFailed 4 (0x80 * circSlot n)) := by
  refine (if_neg (execEvrNorFail_inUse hon hnor)).trans ((if_neg (by decide)).trans ((if_pos rfl).trans ?_))
  rw [hwait]

end

/-- Settles O60: each condition is the guard of the branch that the command takes. -/
theorem eventRecorderCommandsComplete : Obligations.EventRecorderCommandsComplete := by
  unfold Obligations.EventRecorderCommandsComplete
  refine ⟨?item, ?summary, ?program, ?programEvfb, ?erase, ?save, ?swCode, ?read, ?clear, ?failRead, ?failProgram, ?failErase, ?alarm, ?retry⟩
  case item =>
    intro s parity hwait
    refine if_neg ?_
    rw [hwait]
    exact Bool.false_ne_true
  case summary =>
    intro s code n opt rest t hwait htoken
    show execEvrSummaryWrite s = _
    rw [execEvrSummaryWrite, hwait, htoken]
  case program =>
    intro s x r l hstaged hon hnor hnone
    refine (execEvrNorProgram_staged hstaged hon).trans ((if_neg ?_).trans (if_pos ?_))
    · rw [hnor]
      exact Bool.false_ne_true
    · rw [hnone]
      rfl
  case programEvfb =>
    exact fun s x r l hstaged hon hfallback => (execEvrNorProgram_staged hstaged hon).trans (if_pos hfallback)
  case erase =>
    exact fun s n l hwait hon hnor => execEvrSectorErase_erases hwait hon hnor
  case save =>
    exact fun s hon hdue => if_pos ⟨hon, hdue⟩
  case swCode =>
    exact fun s req data hok hgo hlo hhi => execEvrSwCode_records hok rfl hgo hlo hhi
  case read =>
    exact fun s req b hok hread => execEvrRead_shows hok hread
  case clear =>
    intro s req hok hnone
    refine congrArg Host.Outcome.next ((State.onField_accepted hok _).trans (if_pos ?_))
    rw [State.answer_evr, hnone]
    rfl
  case failRead =>
    exact fun s cause addr hon hnor hcause => execEvrNorFail_read hon hnor hcause
  case failProgram =>
    exact fun s cause addr hon hnor hcause hstaged => execEvrNorFail_program hon hnor hcause hstaged
  case failErase =>
    exact fun s addr n l hon hnor hwait => execEvrNorFail_erase hon hnor hwait
  case alarm =>
    exact fun s => rfl
  case retry =>
    exact fun s req answer hok => congrArg Host.Outcome.next (State.onField_accepted hok _)

end Sys2Proof.Machine
end
